-- ==== Sys2Proof/Word.lean ====
section
/-! DEFINITION. The word and byte types, the place of a register field, and the plainest arithmetic on them. -/

namespace Sys2Proof

/-- A register word: 32 bits (R94). -/
abbrev Word := BitVec 32

/-- A byte of a frame, a lane entry or DRAM. -/
abbrev Byte := BitVec 8

/-- The place of a register field: the host address of its word, its lowest bit and its width. -/
structure Fld where
  addr : Nat
  lo   : Nat
  w    : Nat
  deriving DecidableEq, Repr

/-- One bit of a Boolean as a number. -/
def bit (b : Bool) : Nat := if b then 1 else 0

end Sys2Proof
end

