-- ==== Sys2Proof/Syntax.lean ====
section
/-! DEFINITION. The commands of the block: one constructor of Instr per row of spec/opcode_table.json, with the row's
operands. Measured quantities (currents, counts, solutions, edges) come with the command, since the analogue world and
the passage of time lie outside the block. -/

namespace Sys2Proof

/-- The blocks of R95. -/
inductive Block where
  | sys | clk | pwr | evt | lane | cfg | gnss | nav | fbk | geo | str | sol | arm | hsw | ctl | pace | can | recorder | mem
  | sec | plb
  deriving DecidableEq, Repr

/-- The region index of R95. -/
def Block.index : Block → Nat
  | .sys => 1 | .clk => 2 | .pwr => 3 | .evt => 4 | .lane => 5 | .cfg => 6 | .gnss => 7 | .nav => 8 | .fbk => 9
  | .geo => 10 | .str => 11 | .sol => 12 | .arm => 13 | .hsw => 14 | .ctl => 15 | .pace => 16 | .can => 17 | .recorder => 18
  | .mem => 19 | .sec => 20 | .plb => 21

/-- The two ring ports of a module (R46): a frame that arrives at IN travels in the primary direction. -/
inductive Port where
  | inp | out
  deriving DecidableEq, Repr

/-- A request frame as it stands on the wire, opcode apart (R56). `body` is every byte between byte 11 and the trailer or
CRC, `trailer` the FCNT and TAG bytes where AUTH = 1, `waiting` how many requests of the same originator wait unexecuted
at this module when it arrives (R70). -/
structure Request where
  flags   : Byte
  dev     : Byte
  org     : Byte
  seq     : Byte
  hcrc    : Byte
  len     : BitVec 16
  addr    : Word
  body    : List Byte
  trailer : List Byte
  crc     : Word
  waiting : Nat
  deriving DecidableEq, Repr

/-- What the correlators and tracking loops of one channel give at a dump (R161 to R173): prompt sums, the NCO words the
loops write, Doppler, whether a carrier jump of half a cycle or more was seen; of the search the cell (half chips of code
phase, Doppler cells from the centre), its C/N0 estimate in 1/256 dB-Hz, how many of its 3 verification dwells confirm it,
and whether the grid is finished. -/
structure DumpObs where
  ch       : Fin 192
  i        : BitVec 16
  q        : BitVec 16
  carr     : Word
  code     : Word
  dopp     : Word
  slip     : Bool
  cell     : Nat × Int
  cn0      : BitVec 16
  confirms : Fin 4
  gridEnd  : Bool
  deriving DecidableEq, Repr

/-- What one channel's lock assessment measures (R169 to R172): C/N0 in 1/256 dB-Hz, the PLL lock indicator in 1/1,000,
the frequency error's size in mHz and the code discriminator in 1/1,000 chip. -/
structure LockObs where
  ch   : Fin 192
  cn0  : BitVec 16
  pll  : Nat
  ferr : Nat
  disc : Int
  deriving DecidableEq, Repr

/-- A signal that a snapshot search detected (R195). -/
structure SnapResult where
  sig  : Byte
  prn  : Byte
  cn0  : BitVec 16
  code : Word
  dopp : Word
  deriving DecidableEq, Repr

/-- What is known of one channel's signal at a measurement epoch beside its registers and accumulators (R202, R204):
`sent` is the GPS time, in 1/65,536 count, at which the signal left the satellite when its code accumulator stood at 0; none
where the channel has no time of week for its signal yet, and then CODE_OK is 0. -/
structure RawMeas where
  ch     : Fin 192
  carrOk : Bool
  half   : Bool
  sent   : Option Nat
  deriving DecidableEq, Repr

/-- The level of an encoder line, and for how many 10 ns samples it has held (R238). -/
structure LineLevel where
  level : Bool
  held  : Nat
  deriving DecidableEq, Repr

/-- The level of an interface's Z line, and for how many 10 ns samples it has held (R238, R241). -/
structure ZEdge where
  enc : Fin 8
  z   : LineLevel
  deriving DecidableEq, Repr

/-- An opening signature of a channel (R411): its instant, and by how much the current has fallen below its running maximum in
mA (BOOST, NOBOOST) or the chopper's on-time fraction has risen above its value at PEAK entry in points of 1 % (PEAK). -/
structure OpenSign where
  tag   : BitVec 64
  swing : BitVec 16
  deriving DecidableEq, Repr

/-- A closing signature of a channel (R412): its instant; in DECAY the length of the plateau in µs and the rate of the current's
fall in it, in 1/1,000 of the rate at DECAY start; after DECAY the peak of the EMF and the EMF at the instant, in 10 mV. -/
structure CloseSign where
  tag     : BitVec 64
  plateau : BitVec 16
  slope   : BitVec 16
  peak    : BitVec 16
  emf     : BitVec 16
  deriving DecidableEq, Repr

/-- What a channel's HOLD gives its resistance (R416): the mean on-time fraction in 1/10,000 and the mean current in mA. -/
structure HoldMeas where
  ch  : Fin 96
  on  : BitVec 16
  cur : BitVec 16
  deriving DecidableEq, Repr

/-- An end of travel (R421): its instant, and the least switch current in 10 mA over the STALL_T before it. -/
structure EotSign where
  tag : BitVec 64
  cur : BitVec 16
  deriving DecidableEq, Repr

/-- A short circuit of a load switch (R441): its current in 10 mA, its output voltage in 10 mV, for how many µs both have stood so,
and the clamp energy of the turn-off in 0.1 mJ (R448). -/
structure SwShort where
  cur    : BitVec 16
  volt   : BitVec 16
  held   : BitVec 16
  energy : BitVec 16
  deriving DecidableEq, Repr

/-- For how many µs the P and N pins of the A, B and Z lines have stayed at the same level as each other (R239). -/
structure LinePairs where
  a : Nat
  b : Nat
  z : Nat
  deriving DecidableEq, Repr

/-- A channel's measurement at an epoch (R205): its signal, its elevation in 0.01° and its C/N0 in 1/256 dB-Hz. -/
structure SatUse where
  ch   : Fin 192
  sig  : Byte
  prn  : Byte
  elev : Int
  cn0  : BitVec 16
  deriving DecidableEq, Repr

/-- The position solution of one antenna (R205): the channels measured, of which it uses those that meet the masks, latitude
and longitude in 1e-10°, height and horizontal 1σ in mm. -/
structure AntSolution where
  chans : List SatUse
  lat  : Int
  lon  : Int
  hgt  : Int
  unc  : Nat
  deriving DecidableEq, Repr

/-- What the solution of an epoch gives (R205 to R213): each antenna's position, whether code and carrier corrections were
used, the ambiguity ratio × 10 and the satellites fixed, the measured time error `e` in ns and its 1σ, GNSS time now as a
time tag, the frequency offset in 0.01 ppb and its drift in 1e-6 of that per second, the leap seconds where known, the A–B
vector, and the GNSS velocity. `rtkFrom` and `abFrom` are the time tags of the oldest measurements that the ambiguities
of the carrier solution and of the A–B vector rest on. -/
structure NavSolution where
  epoch   : BitVec 64
  antA    : Option AntSolution
  antB    : Option AntSolution
  code    : Bool
  carrier : Bool
  ratio   : Nat
  fixed   : Nat
  e       : Int
  eUnc    : Nat
  gnss    : BitVec 64
  freq    : Int
  drift   : Int
  leap    : Option Byte
  rtkFrom : Nat
  abFrom  : Nat
  abFixed : Bool
  abAz    : Nat        -- azimuth of A to B, 0.01°
  abLen   : Nat        -- mm
  abElev  : Int        -- 0.01°
  abUnc   : Nat        -- 0.01°
  speed   : Nat        -- over ground, mm/s
  course  : Nat        -- 0.01°
  cogUnc  : Nat        -- 0.01°
  deriving DecidableEq, Repr

/-- A frame on a CAN bus (R524, R544): identifier, flags, data length code and data bytes; `rtr` for a remote frame. -/
structure CanFrame where
  id   : BitVec 29
  ide  : Bool
  fdf  : Bool
  brs  : Bool
  esi  : Bool
  rtr  : Bool
  dlc  : BitVec 4
  data : List Byte
  deriving DecidableEq, Repr, Inhabited

/-- How a transmit attempt ends (R535, R542): in success, in lost arbitration, or in an error with its LEC code (R554),
`data` where the error lies in the data field after arbitration was won, `arb` where it is the stuff error during arbitration
that ISO 11898-1 does not count, and with how many further errors in the node's own error and overload flags (R540). -/
inductive CanOutcome where
  | success
  | lost
  | error (lec : BitVec 3) (data arb : Bool) (again : Nat)
  deriving DecidableEq, Repr

/-- What a controller hears from another node: a frame whose start of frame had time tag `sof`, or an error with its LEC
code, `heavy` where ISO 11898-1 counts it by 8, with how many further errors in the node's own error and overload flags. -/
inductive CanHeard where
  | frame (f : CanFrame) (sof : BitVec 64)
  | error (lec : BitVec 3) (heavy : Bool) (again : Nat)
  deriving DecidableEq, Repr

/-- What a fabric transfer carries (R35): a word of the next register request, an entry of a lane, a solenoid or a load
switch command, the command of a point that is bound to a CAN field, or anything else. -/
inductive FabricLoad where
  | register (word : Nat)
  | laneEntry (lane : Fin 16)
  | solCommand
  | hswCommand
  | canCommand (pt : Fin 128)
  | other
  deriving DecidableEq, Repr

/-- What a port's PROBE sets give when it comes into service (R52, R78): the link delay L in ns that it has measured, and the
count bytes of the neighbour's PROBE sets that it has heard. -/
structure LinkProbe where
  delay : BitVec 16
  heard : List Byte
  deriving DecidableEq, Repr

/-- What a calibration trims (R635). -/
inductive CalUnit where
  | sol (n : Fin 96)
  | hsw (k : Fin 24)
  | adc
  deriving DecidableEq, Repr

/-- Which write met a verify failure on plane B (R633). -/
inductive PlaneBWrite where
  | store | image | firmware
  deriving DecidableEq, Repr

/-- Work that a slot of the flash interface brings (R629, R633), with the slots it takes: wear management erases a sector of plane
B ahead of need or moves one to another, or the write in front needs an erase at once. -/
inductive FlashWork where
  | ahead (sector : BitVec 8) (slots : BitVec 16)
  | move (sector dest : BitVec 8) (slots : BitVec 16)
  | need (sector : BitVec 8) (slots : BitVec 16)
  deriving DecidableEq, Repr

/-- The slot of an item of the record store that restores (R607): its newest, where that fails its check the older one, or neither. -/
inductive StoreSlot where
  | newest | older | neither
  deriving DecidableEq, Repr

/-- What start-up finds bad (R607, R632): the record-store items whose newest slot fails its check, by the bits of REC_RESTORE,
those whose older slot fails it, whether the write of the power-cycle count fails, the spares that fail the DRAM test of PU2,
numbered from the top of the pool, and the other pages of DRAM that fail it. -/
structure StartFinds where
  items  : BitVec 6
  olders : BitVec 6
  unsaved : Bool
  spares : List (Fin 1024)
  pages  : List (BitVec 16)
  deriving DecidableEq, Repr

/-- How a DRAM read with a parity error ends (R37): a re-read passes, or the error persists; `eng` is the engine that owns
the page where it lies in working memory. -/
structure DramError where
  retries : Fin 4
  persist : Bool
  eng     : Fin 12
  deriving DecidableEq, Repr


/-- The commands, in the order of spec/opcode_table.json. -/
inductive Instr where
  /-- R67. -/
  | status (p : Port) (r : Request)
  /-- R61. -/
  | read (p : Port) (r : Request)
  /-- R61. -/
  | write (p : Port) (r : Request)
  /-- R60. -/
  | writeMask (p : Port) (r : Request)
  /-- R133. -/
  | lanePush (p : Port) (r : Request)
  /-- R133. -/
  | lanePop (p : Port) (r : Request)
  /-- R54. -/
  | enum (p : Port) (r : Request)
  /-- R660. -/
  | sessionHello (p : Port) (r : Request)
  /-- R661. -/
  | sessionFinish (p : Port) (r : Request)
  /-- R663. -/
  | sessionEnd (p : Port) (r : Request)
  /-- R662: 1 s has passed since the reply to the pending HELLO. -/
  | helloExpiry
  /-- R72: a broadcast WRITE, or WRITE_MASK where `mask`. -/
  | broadcastRequest (p : Port) (mask : Bool) (r : Request)
  /-- R73: the bytes of a frame that arrives at port `p`. -/
  | forwardFrame (p : Port) (bytes : List Byte)
  /-- R50: the bytes clocked on MOSI from SPI_CS_N falling to rising. -/
  | spiTransaction (mosi : List Byte) (waiting : Nat)
  /-- R78. -/
  | portLoseLock (p : Port)
  /-- R78: retraining ends with what PROBE gave. -/
  | retrainDone (p : Port) (l : LinkProbe)
  /-- R79. -/
  | portDown (p : Port)
  /-- R81: the port is back with what PROBE gave. -/
  | portUp (p : Port) (l : LinkProbe)
  /-- R75: the lead's unconsumed request for the satellite at `sat`. -/
  | leadRequestReturn (sat : Fin 64)
  /-- R82: `d` is the transmit latency in ns. -/
  | tickSend (d : BitVec 16)
  /-- R83: a TICK with count `c` and accumulated delay `d` in ns. -/
  | tickReceive (p : Port) (c : Byte) (d : BitVec 16)
  /-- R86. -/
  | tickLost
  /-- R85. -/
  | tickBaseBroadcast
  /-- R85: a write of `hi` to SYS_TICK_BASE_HI. -/
  | sysTickBaseWrite (hi : Word)
  /-- R17: a host write of `value` to `addr`; `auth` where it is carried by an authenticated request (R121). -/
  | registerWrite (auth : Bool) (addr value : Word)
  /-- R105. -/
  | blkEnableClear (b : Block)
  /-- R105. -/
  | blkEnableSet (b : Block)
  /-- R106. -/
  | blkSoftReset (b : Block)
  /-- R104. -/
  | blkShadowSet (b : Block)
  /-- R104. -/
  | blkShadowClear (b : Block)
  /-- R109. -/
  | blkLockSet (b : Block)
  /-- R148: a W1C write of `mask` to BLK_EVT, or to SOL_EVT_HI where `hi` and `b` is SOL. -/
  | eventClear (b : Block) (hi : Bool) (mask : Word)
  /-- R123. -/
  | courseRequest (slot : BitVec 4)
  /-- R122: block `b` reaches its safe point. -/
  | courseTake (b : Block)
  /-- R123. -/
  | crsTmo
  /-- R128. -/
  | imgErase
  /-- R128. -/
  | imgProgram
  /-- R128. -/
  | imgVerify
  /-- R128. -/
  | loadCourse (slot : BitVec 4)
  /-- R127: `flashOk` is false where the flash reports a program or erase failure. -/
  | imgCmdComplete (flashOk : Bool)
  /-- R132. -/
  | laneHeadWrite (lane : Fin 16) (value : Word)
  /-- R132. -/
  | laneTailWrite (lane : Fin 16) (value : Word)
  /-- R141. -/
  | laneCtrlWrite (lane : Fin 16) (value : Word)
  /-- R138. -/
  | producerResume (lane : Fin 16)
  /-- R146. -/
  | bulkEntry
  /-- R156: the bias currents measured, in mA. -/
  | biasSample (maA maB : BitVec 16)
  /-- R156. -/
  | antHwLimit (a : Fin 2)
  /-- R156: the 10 ms test of a shorted antenna, with the largest current seen in it, in mA. -/
  | antRetest (a : Fin 2) (ma : BitVec 16)
  /-- R157: VANT, in mV, has been outside its range for 10 ms. -/
  | vantFlt (mv : BitVec 16)
  /-- R157: VANT, in mV, has been back within range for 10 ms. -/
  | vantRestore (mv : BitVec 16)
  /-- R159: the gain each path's AGC loop aims at, in 0.5 dB, for paths 0 to 3. -/
  | agcUpdate (g0 g1 g2 g3 : BitVec 7)
  /-- R161: one dump, with the fraction of a count at which it falls, navigation's visibility list (SIGID, PRN) by
  falling elevation (R168), and what each channel gives. -/
  | correlatorDump (sub : BitVec 16) (vis : List (Byte × Byte)) (obs : List DumpObs)
  /-- R169. -/
  | lockAssessment (obs : List LockObs)
  /-- R169. -/
  | pullinTimeout (ch : Fin 192)
  /-- R172. -/
  | recoverTimeout (ch : Fin 192)
  /-- R174: a host write of GNSS_CH_CTRL, or of GNSS_CH_SIG where `sig`. -/
  | gnssChModeWrite (ch : Fin 192) (sig : Bool) (value : Word)
  /-- R178: a host write of GNSS_SNAP_CTRL. -/
  | snapGo (value : Word)
  /-- R180: the first sample at or after GNSS_SNAP_TAG, with its fraction of a count. -/
  | snapStartAtTag (sub : BitVec 16)
  /-- R181: the capture ends with `pages` whole pages written per path; `t0` and `sub` give the oldest sample kept by a
  RING capture, `data` the samples of each selected path in ascending path order. -/
  | snapCaptureEnd (pages : BitVec 16) (t0 : BitVec 64) (sub : BitVec 16) (data : List (List Byte))
  /-- R183. -/
  | snapDrain
  /-- R184. -/
  | snapProcess
  /-- R184: processing ends with the signals it detected. -/
  | snapProcessDone (found : List SnapResult)
  /-- R182. -/
  | snapCancel
  /-- R201. -/
  | measurementEpoch (meas : List RawMeas)
  /-- R205. -/
  | positionSolution (sol : NavSolution)
  /-- R222. -/
  | timeSlewEnd
  /-- R223. -/
  | timeHoldEnd
  /-- R207. -/
  | rtcmEntry
  /-- R215: the attitude that the IMU gives, in 0.01° and 0.01°/s. -/
  | poseUpdate (roll pitch yaw : Int)
  /-- R216: the bytes of one IMU transaction, in the order read. -/
  | imuSample (raw : List Byte)
  /-- R217. -/
  | imuLost
  /-- R218. -/
  | timePulse (p : Fin 2)
  /-- R220: the frequency uncertainty of the XO model in ns per second. -/
  | holdover (func : Nat)
  /-- R221: how far the logic die temperature has moved since fallback entry, in 0.1 °C. -/
  | holdoverUncUpdate (moved : Int)
  /-- R238, R243: the levels of A and B after a level change of interface `n`. -/
  | encEdge (n : Fin 8) (a b : LineLevel)
  /-- R243. -/
  | encWindowEnd (n : Fin 8)
  /-- R243. -/
  | encStandstill (n : Fin 8)
  /-- R239. -/
  | encWire (n : Fin 8) (lines : LinePairs)
  /-- R239. -/
  | encLineGood (n : Fin 8)
  /-- R241. -/
  | encPosWrite (n : Fin 8) (value : Word)
  /-- R238, R241. -/
  | encZEdge (n : ZEdge)
  /-- R241: a host write of FBK_ENC_ZCFG. -/
  | encZArm (n : Fin 8) (value : Word)
  /-- R246: a host write of FBK_CMP_CTRL of entry `k`. -/
  | cmpArm (n : Fin 8) (k : Fin 16) (value : Word)
  /-- R248. -/
  | ssiRead (n : Fin 2)
  /-- R249: whether SSIn_DAT was low at the first falling edge, and the data bits of the first and second reading. -/
  | ssiFrameDone (n : Fin 2) (low : Bool) (data again : Word)
  /-- R250. -/
  | emuUpdate
  /-- R252: the sixteen conversions, and a bit for each input whose current is above 30 mA. -/
  | ainFrame (xs : List (BitVec 16)) (high : BitVec 16)
  /-- R254: the 10 ms retest of an opened shunt, and whether the current was above 30 mA in it. -/
  | ainShuntRetest (n : Fin 16) (high : Bool)
  /-- R256. -/
  | speedFusion
  /-- R276, R285, R296, R323, R335: the geometry update of a time tag that is a whole multiple of 16,000. -/
  | geometryUpdate
  /-- R287, R288. -/
  | tileLoadEntry
  /-- R291: a host write of FLUSH to GEO_MAP_CMD. -/
  | mapFlush
  /-- R291: a host write of EVICT_ALL to GEO_MAP_CMD. -/
  | mapEvictAll
  /-- R295: a host write of FENCE_COMMIT to GEO_MAP_CMD. -/
  | fenceCommit
  /-- R295. -/
  | fenceRasterDone
  /-- R282: a host access to the map window: a read, or a write of `value` under `mask`. -/
  | mapHostAccess (addr : Word) (write : Bool) (mask value : Word)
  /-- R296: the wait of local point `p`, or of remote point `p` − 128. -/
  | confirmWaitExpiry (p : Fin 1024)
  /-- R301. -/
  | chunkClose
  /-- R304, R664. -/
  | chunkSigned
  /-- R327: the tick boundary at the present tag. -/
  | strideTick
  /-- R350: the oldest push to satellite `a` is answered; `ok` where its reply arrives without an error. -/
  | leadPushReply (a : Fin 64) (ok : Bool)
  /-- R350. -/
  | satOffRetry (a : Fin 64)
  /-- R347. -/
  | satCommandEntry
  /-- R349. -/
  | satReportEntry
  /-- R38, R342. -/
  | wmRebuildEnd
  /-- R27: the logic die sends a frame to power die `d`. -/
  | dieLinkFrame (d : Fin 2)
  /-- R28. -/
  | dieLinkTimeout (d : Fin 2)
  /-- R380, R704: the oldest command on its way to a power die reaches it. -/
  | solCommandArrive
  /-- R382: the start instant of the oldest queued command of channel `n` has come. -/
  | solCommandStart (n : Fin 96)
  /-- R370: a host write of ON to SOL_CH_CMD. -/
  | solChOn (n : Fin 96)
  /-- R370: a host write of OFF to SOL_CH_CMD. -/
  | solChOff (n : Fin 96)
  /-- R375, R377, R384: BOOST ends; `reached` where the current has reached I_PEAK, `i` the current in mA. -/
  | boostEnd (n : Fin 96) (reached : Bool) (i : BitVec 16)
  /-- R384. -/
  | boostDeferExpiry (n : Fin 96)
  /-- R375, R377. -/
  | noboostEnd (n : Fin 96) (reached : Bool) (i : BitVec 16)
  /-- R375. -/
  | peakEnd (n : Fin 96)
  /-- R375. -/
  | decayEnd (n : Fin 96)
  /-- R377. -/
  | holdOpenLoad (n : Fin 96)
  /-- R386. -/
  | pwmCycleStart (n : Fin 96)
  /-- R386, R387. -/
  | pwmOffInstant (n : Fin 96)
  /-- R390: the sub-window's on-time in µs and its integral of the squared current in 1e-6 A²s. -/
  | dutySubwindowEnd (n : Fin 96) (on : Word) (i2t : BitVec 64)
  /-- R392. -/
  | solShort (n : Fin 96)
  /-- R392: a W1C write of `mask` to SOL_CH_FLT. -/
  | solFltClear (n : Fin 96) (mask : Word)
  /-- R393: the junction temperature of die `d` in 0.1 °C. -/
  | dieTjSample (d : Fin 2) (t : BitVec 16)
  /-- R367. -/
  | boostOv (d : Fin 2)
  /-- R367. -/
  | boostOvEnd (d : Fin 2)
  /-- R367. -/
  | boostUv (d : Fin 2)
  /-- R367. -/
  | boostUvEnd (d : Fin 2)
  /-- R368. -/
  | bankOvercurrent (b : Fin 12)
  /-- R368. -/
  | bankUv (b : Fin 12)
  /-- R368. -/
  | bankUvEnd (b : Fin 12)
  /-- R368: a host write of CLR to SOL_BANK_CTRL. -/
  | bankClr (b : Fin 12)
  /-- R396. -/
  | chopperCalibration (n : Fin 96)
  /-- R635: the result lies within its limits where `ok`; a current-sense self-test failed where `sense`. -/
  | calibrationDone (u : CalUnit) (ok sense : Bool)
  /-- R411: an opening signature `t` on channel `n`. -/
  | armOpenSignature (n : Fin 96) (t : OpenSign)
  /-- R412. -/
  | armCloseSignature (n : Fin 96) (t : CloseSign)
  /-- R413: the opening window, or where `closing` the closing window, of channel `n` ends without a signature. -/
  | armWindowClose (n : Fin 96) (closing : Bool)
  /-- R416, R418: what the HOLDs since the last update give. -/
  | armLatUpdate (holds : List HoldMeas)
  /-- R419: a host write of CLR to ARM_CH_CTRL. -/
  | armChClr (n : Fin 96)
  /-- R423. -/
  | boostAdaptPeriod (d : Fin 2)
  /-- R421, R422: an end of travel `t` of switch `k`, in the direction of an open window. -/
  | eotDetect (k : Fin 24) (t : EotSign)
  /-- R422. -/
  | eotMiss (k : Fin 24)
  /-- R437: the oldest command on its way to a load switch reaches its die. -/
  | hswCommandArrive
  /-- R437: the start instant of the oldest queued command of switch `k` has come; `e` is the clamp energy of a turn-off in
  0.1 mJ (R448), here and below. -/
  | hswCommandStart (k : Fin 24) (e : BitVec 16)
  /-- R436: a host write of ON to HSW_CH_CMD. -/
  | hswChOn (k : Fin 24)
  /-- R436: a host write of OFF to HSW_CH_CMD. -/
  | hswChOff (k : Fin 24)
  /-- R440: T_INR ends; whether the current has stayed at the limit. -/
  | inrushEnd (k : Fin 24) (atLimit : Bool) (e : BitVec 16)
  /-- R440. -/
  | limitTimeout (k : Fin 24) (e : BitVec 16)
  /-- R441. -/
  | hswShort (k : Fin 24) (e : SwShort)
  /-- R442. -/
  | hswOpenLoad (k : Fin 24)
  /-- R442. -/
  | hswOpenLoadEnd (k : Fin 24)
  /-- R443: `t` is the channel temperature in 0.1 °C. -/
  | hswOvertemp (k : Fin 24) (t e : BitVec 16)
  /-- R443. -/
  | hswOvertempEnd (k : Fin 24) (t : BitVec 16)
  /-- R441, R448: a W1C write of `mask` to HSW_CH_FLT. -/
  | hswFltClear (k : Fin 24) (mask : Word)
  /-- R445: the group's supply in 10 mV. -/
  | vhsDipStart (g : Fin 4) (v : BitVec 16)
  /-- R445. -/
  | vhsDipEnd (g : Fin 4) (v : BitVec 16)
  /-- R445. -/
  | vhsDip (g : Fin 4)
  /-- R446: the period start of generator `p` at the present tag. -/
  | pgenPeriodStart (p : Fin 6)
  /-- R447. -/
  | pulseEdge (k : Fin 24) (on : Bool) (e : BitVec 16)
  /-- R449. -/
  | limpOn
  /-- R452. -/
  | limpOff
  /-- R449: the accepted levels of LH_IN7 to LH_IN0. -/
  | lhInputChange (levels : BitVec 8)
  /-- R451: whether the check of each die's latch passes. -/
  | limpTableCheck (okA okB : Bool)
  /-- R451. -/
  | limpTableSync
  /-- R454. -/
  | holdOverExpiry
  /-- R473: the grid instant of the present clock; every loop that samples at it samples (R464, R481). -/
  | loopSample
  /-- R466: the oldest loop value on its way reaches its destination. -/
  | loopValueArrive
  /-- R477: a host write of CLOSE to CTL_LOOP_CMD. -/
  | loopClose (n : Fin 32)
  /-- R477: a host write of OPEN. -/
  | loopOpen (n : Fin 32)
  /-- R477: a host write of RELEASE. -/
  | loopRelease (n : Fin 32)
  /-- R503. -/
  | pacerUpdate (p : Fin 16)
  /-- R505: a host write of GO to PACE_CMD. -/
  | paceGo (p : Fin 16)
  /-- R505: a host write of STOP. -/
  | paceStop (p : Fin 16)
  /-- R505: a host write of JUMP. -/
  | paceJump (p : Fin 16)
  /-- R509: a host write of RESET to LAP_CTRL, with `value` in the other fields. -/
  | lapReset (j : Fin 4) (value : Word)
  /-- R510: a host write of cell `m` of LAPj. -/
  | lapTableWrite (j : Fin 4) (m : Fin 1024) (value : Word)
  /-- R513: a host write of START to INJ_CMD. -/
  | injStart (q : Fin 4)
  /-- R513: a host write of START_AT. -/
  | injStartAt (q : Fin 4)
  /-- R513: a host write of STOP. -/
  | injStop (q : Fin 4)
  /-- R515: a host write of GO to CAP_CMD. -/
  | capGo
  /-- R515: a host write of STOP. -/
  | capStop
  /-- R531: a host write of SEND to CAN_OBJ_CMD of object `k`. -/
  | canSend (k : Fin 256)
  /-- R537: a host write of CANCEL to CAN_OBJ_CMD of object `k`. -/
  | canCancel (k : Fin 256)
  /-- R532: a start of frame at controller `n`. -/
  | canStartOfFrame (n : Fin 3)
  /-- R535, R542. -/
  | canAttemptEnd (n : Fin 3) (r : CanOutcome)
  /-- R543. -/
  | canFrameReceived (n : Fin 3) (h : CanHeard)
  /-- R534. -/
  | canPeriodicRequest (k : Fin 256)
  /-- R538. -/
  | txTmo (k : Fin 256)
  /-- R546, R549. -/
  | canRxTimeout (k : Fin 256)
  /-- R541: a host write of REC_REQ. -/
  | canRecReq (n : Fin 3)
  /-- R541: 128 occurrences of 11 consecutive recessive bits have been seen. -/
  | busOn (n : Fin 3)
  /-- R526: a host write of `value` to CAN_CTL_CFG. -/
  | canModeWrite (n : Fin 3) (value : Word)
  /-- R545. -/
  | canRxhdrRead (k : Fin 256)
  /-- R548. -/
  | canSubmitEntry
  /-- R550: the points of one te that are bound to CAN fields, each with whether it goes on. -/
  | canFieldCommand (points : List (Fin 128 × Bool))
  /-- R561: the MRC cycles counted over 32 LPRC cycles. -/
  | mrcCheck (count : BitVec 17)
  /-- R562: the XO cycles counted over 1 ms, and the code and error in 0.01 % of a trim made now (R563). -/
  | xoCount (count : BitVec 16) (trim : BitVec 10) (err : BitVec 16)
  /-- R570. -/
  | xoEdgeLoss
  /-- R567. -/
  | xoVerifyTimeout
  /-- R572: a host write of RETURN to CLK_CTRL, with `value` in the other fields. -/
  | clkReturn (value : Word)
  /-- R563: MRC against XO in 0.1 ppm, and the logic die temperature in 0.1 °C. -/
  | mrcFreqMeasure (ppm : Word) (temp : Int)
  /-- R566: island `i` is at a transaction boundary. -/
  | islandStop (i : Fin 12)
  /-- R573: PLL `p` loses lock, numbered as CLK_STAT.LOCK. -/
  | pllUnlk (p : Fin 5)
  /-- R573. -/
  | pllRelock (p : Fin 5)
  /-- R573. -/
  | pllRelockTimeout (p : Fin 5)
  /-- R575: a host write of `value` to CLK_GATE_REQ. -/
  | clkGateRequest (value : Word)
  /-- R576: island `i` is at an idle point. -/
  | clkGateTake (i : Fin 12)
  /-- R576. -/
  | gateAbn (i : Fin 12)
  /-- R578: the slowest monitor's margin in %. -/
  | avsStep (margin : BitVec 8)
  /-- R588: VBAT is judged present. -/
  | vbatPresent
  /-- R591. -/
  | powerOnReset
  /-- R588: rails are good; the straps read LINKSEL and ADDR (R587). -/
  | pu0End (linksel : Bool) (addr : BitVec 6)
  /-- R588, R653: the blocks whose self-test fails, whether die B's fails (R435), whether Keystone's known-answer tests
  pass, and whether the preferred firmware slot is known from the record store. -/
  | pu1End (failed : List Block) (dieB kat : Bool) (pref : StoreSlot)
  /-- R588, R607, R632: what the end of PU2 has found bad. -/
  | pu2End (bad : StartFinds)
  /-- R588. -/
  | pu3End
  /-- R588. -/
  | pu4End
  /-- R592. -/
  | resetNAssert
  /-- R592. -/
  | resetNRelease
  /-- R593: a host write of SOFT_RESET in the SYS region, in a request with AUTH where `auth`. -/
  | sysSoftReset (auth : Bool)
  /-- R591, R593. -/
  | deviceReset
  /-- R594. -/
  | watchdogExpiry
  /-- R595. -/
  | run60s
  /-- R596. -/
  | railFault
  /-- R602. -/
  | vbatLow
  /-- R602. -/
  | vbatLowEnd
  /-- R602. -/
  | supplySafeEnter
  /-- R603. -/
  | supplySafeExit
  /-- R604. -/
  | vioLoss
  /-- R585: VIO is present, at the 3.3 V level where `v33`. -/
  | vioPresent (v33 : Bool)
  /-- R605: the slug temperature in 0.1 °C. -/
  | slugSample (t : BitVec 16)
  /-- R608: a host write of PWR_CMD. -/
  | persist
  /-- R608. -/
  | persistDone
  /-- R606. -/
  | hoursPersist
  /-- R606. -/
  | periodicPersist
  /-- R615. -/
  | triggerCompare
  /-- R629: one slot, and the work that comes with it. -/
  | flashSlot (work : Option FlashWork)
  /-- R625: a program-verify failure, or an erase-verify one, at a byte address of plane A, and whether the failure record
  could be written. -/
  | logProgramFail (erase : Bool) (addr : BitVec 24) (cstOk : Bool)
  /-- R633. -/
  | planeBVerifyFail (w : PlaneBWrite) (sector : BitVec 8)
  /-- R623: a host write of REC_CMD, in a request with AUTH where `auth`. -/
  | logErase (auth : Bool)
  /-- R623. -/
  | logSectorErased
  /-- R624. -/
  | logDrain (auth : Bool)
  /-- R628. -/
  | drainCst (auth : Bool)
  /-- R624. -/
  | drainStop (auth : Bool)
  /-- R628. -/
  | cstClear (auth : Bool)
  /-- R631: what the read met. -/
  | scrubRead (err : Option DramError)
  /-- R37: a read of DRAM at a host address. -/
  | dramParityError (addr : Word) (err : DramError)
  /-- R35: the transfer, and whether it is given up after the third re-send. -/
  | fabricParityError (load : FabricLoad) (givenUp : Bool)
  /-- R637. -/
  | telemetrySample
  /-- R637. -/
  | telemetryPersist
  /-- R648: a host write of MEM_TEL_CMD. -/
  | telClear
  /-- R635: the result lies within its limits where `ok`. -/
  | supplyCal (ok : Bool)
  /-- R656: a host write of SEC_CMD, in a request with AUTH where `auth`. -/
  | fwErase (auth : Bool)
  /-- R656. -/
  | fwProgram (auth : Bool)
  /-- R656. -/
  | fwVerify (auth : Bool)
  /-- R656. -/
  | fwPrefer (auth : Bool)
  /-- R657. -/
  | arbCommit (auth : Bool)
  /-- R658. -/
  | oemProvision (auth : Bool)
  /-- R666. -/
  | dbgChallenge (auth : Bool)
  /-- R666. -/
  | dbgUnlock (auth : Bool)
  /-- R667. -/
  | dbgKill (auth : Bool)
  /-- R675: flash work succeeded where `flashOk`. -/
  | secCmdComplete (flashOk : Bool)
  /-- R668. -/
  | trngTestWindow (pass : Bool)
  /-- R672. -/
  | katPeriodic (pass : Bool)
  /-- R678: a host write of PLB_CMD. -/
  | plbGo (u : Fin 4)
  /-- R680. -/
  | plbStop (u : Fin 4)
  /-- R679. -/
  | plbRunEnd (u : Fin 4)
  /-- R183. -/
  | snapDrainDone
  /-- R624. -/
  | logDrainDone
  /-- R635. -/
  | hswSenseOffsetCalibration (k : Fin 24)
  /-- R574: a modulation period of PLL_DRV, else of PLL_FAB, starts. -/
  | spreadModulationPeriod (drv : Bool)
  deriving DecidableEq, Repr

end Sys2Proof
end

