-- ==== Sys2Proof/Config.lean ====
section
/-! DEFINITION. What the spec leaves open or names by a published standard: opaque constants, with no body, so that no
proof can see a value of them. Each is named in a log entry of notes/assumptions. -/

namespace Sys2Proof

/-- The value of an unspecified result: the n-th free value drawn (log entry 5). Nothing constrains it. -/
opaque Config.freeValue : Nat → BitVec 64

/-- Where an arithmetic result is not exact and the spec does not say which way it is rounded, this says whether the
result at site `site` with numerator `n` and denominator `d` takes the larger neighbour (log entry 6). -/
opaque Config.roundsUp : Nat → Int → Int → Bool

/-- SHA-256 of a byte string (FIPS 180-4; R111, R651). -/
opaque Config.sha256 : List Byte → BitVec 256

/-- Whether the ECDSA P-256 signature `sig` over `digest` verifies under the public key (R111, R651, R661). -/
opaque Config.ecdsaVerify : BitVec 512 → BitVec 256 → BitVec 512 → Bool

/-- The ECDSA P-256 signature made over `digest` with private key `key` and a deterministic nonce (R650). -/
opaque Config.ecdsaSign : BitVec 256 → BitVec 256 → BitVec 512

/-- The P-256 public key of a private key (R660). -/
opaque Config.publicKey : BitVec 256 → BitVec 512

/-- The ECDH shared secret of a private key and a public key (R661). -/
opaque Config.ecdh : BitVec 256 → BitVec 512 → BitVec 256

/-- HMAC-SHA-256 with a key over a byte string (R661). -/
opaque Config.hmac : List Byte → List Byte → BitVec 256

/-- The AES-256-GCM tag over the additional data for a key and a 12-byte nonce, with an empty plaintext (R88). -/
opaque Config.gcmTag : BitVec 256 → List Byte → List Byte → BitVec 128

/-- What a CHIRP or SINE injection gives at a sample index, within the bound of R512: amplitude as sQ16.16, F0 and F1 as
uQ16.16 Hz, N (0 for SINE), PERIOD in 50 µs and the index. The spec bounds its error and does not fix it (log entry 1410). -/
opaque Config.sine : Int → Nat → Nat → Nat → Nat → Nat → Int

/-- The n-th 256-bit number drawn from the TRNG (R668). -/
opaque Config.trng : Nat → BitVec 256

end Sys2Proof

/-! What the cabling decides. -/

namespace Sys2Proof

/-- The ring position of the module with an address, as the cabling has it (R47, R75; log entry 909). -/
opaque Config.ringPosition : Nat → Nat

end Sys2Proof

/-! Poses. -/

namespace Sys2Proof

/-- A pose of the implement on the map (R214, R275): its time tag and quality, latitude, longitude and height of the
reference point, heading in 1e-5°, pitch and roll in 0.01°, speed in mm/s, yaw rate in 0.01°/s, and the map origin. -/
structure GeoPose where
  tag    : Nat
  q      : Nat
  lat    : Int
  lon    : Int
  hgt    : Int
  hdg    : Nat
  pitch  : Int
  roll   : Int
  speed  : Int
  yaw    : Int
  orgLat : Int
  orgLon : Int
  deriving DecidableEq, Repr, Inhabited

end Sys2Proof

/-! What a particular chip is made with, and what only a measurement shows. -/

namespace Sys2Proof

/-- The Cendafort firmware key, public (R649). -/
opaque Config.cendafortKey : BitVec 512

/-- The device identity key, private (R649). -/
opaque Config.deviceKey : BitVec 256

/-- The device attestation (R649). -/
opaque Config.attestation : BitVec 512

/-- The marker of a log sector's header (R620, log entry 1815). -/
opaque Config.logMarker : BitVec 32

/-- The firmware image with which the module ships in slot A (R694, log entry 16). -/
opaque Config.shippedFirmware : List (BitVec 8)

/-- What a flash area holds after an erase or program operation that failed: the n-th such content, for the content it
would have held (R127, log entry 5). -/
opaque Config.failedFlash : Nat → List (BitVec 8) → List (BitVec 8)

/-- What a register that shows a measurement, and that no command carries, reads at an instant: its address, the number
of resets before and the instant (log entry 5). -/
opaque Config.measure : Nat → Nat → Nat → BitVec 32

end Sys2Proof
end

