-- ==== Sys2Proof/Machine/RegNames.lean ====
section
/-! DEFINITION. The addresses of the registers and the places of their fields, one name each, from the register and
field tables of spec/ (the rule of each table stands in the comment above its registers). R13, R94 to R98. -/

namespace Sys2Proof.Machine


-- R91, spec/02_twiris_link.md
def R.SYS_LINK_MODE : Nat := 0x11000
def F.SYS_LINK_MODE_POS : Fld := ⟨R.SYS_LINK_MODE, 16, 8⟩
def F.SYS_LINK_MODE_LINKSEL : Fld := ⟨R.SYS_LINK_MODE, 9, 1⟩
def F.SYS_LINK_MODE_ENUMMODE : Fld := ⟨R.SYS_LINK_MODE, 8, 1⟩
def F.SYS_LINK_MODE_VALID : Fld := ⟨R.SYS_LINK_MODE, 7, 1⟩
def F.SYS_LINK_MODE_ADDR : Fld := ⟨R.SYS_LINK_MODE, 0, 6⟩
def R.SYS_LINK_STATE : Nat := 0x11004
def F.SYS_LINK_STATE_TICKCNT : Fld := ⟨R.SYS_LINK_STATE, 24, 8⟩
def F.SYS_LINK_STATE_TICKOK : Fld := ⟨R.SYS_LINK_STATE, 16, 1⟩
def F.SYS_LINK_STATE_WRAPOUT : Fld := ⟨R.SYS_LINK_STATE, 5, 1⟩
def F.SYS_LINK_STATE_WRAPIN : Fld := ⟨R.SYS_LINK_STATE, 4, 1⟩
def F.SYS_LINK_STATE_OUTST : Fld := ⟨R.SYS_LINK_STATE, 2, 2⟩
def F.SYS_LINK_STATE_INST : Fld := ⟨R.SYS_LINK_STATE, 0, 2⟩
def R.SYS_LINK_EXPSEQ : Nat := 0x11008
def F.SYS_LINK_EXPSEQ_LEAD : Fld := ⟨R.SYS_LINK_EXPSEQ, 8, 8⟩
def F.SYS_LINK_EXPSEQ_HOST : Fld := ⟨R.SYS_LINK_EXPSEQ, 0, 8⟩
def R.SYS_LINK_BSEQ : Nat := 0x1100C
def F.SYS_LINK_BSEQ_VALID : Fld := ⟨R.SYS_LINK_BSEQ, 8, 1⟩
def F.SYS_LINK_BSEQ_SEQ : Fld := ⟨R.SYS_LINK_BSEQ, 0, 8⟩
def R.SYS_LINK_DLY : Nat := 0x11010
def F.SYS_LINK_DLY_OUT : Fld := ⟨R.SYS_LINK_DLY, 16, 16⟩
def F.SYS_LINK_DLY_IN : Fld := ⟨R.SYS_LINK_DLY, 0, 16⟩
def R.SYS_LINK_FWD : Nat := 0x11014
def F.SYS_LINK_FWD : Fld := ⟨R.SYS_LINK_FWD, 0, 16⟩
def R.SYS_LINK_AUTHREQ : Nat := 0x11018
def F.SYS_LINK_AUTHREQ_REQUIRE : Fld := ⟨R.SYS_LINK_AUTHREQ, 0, 1⟩
def R.SYS_LINK_HDRERR : Nat := 0x1101C
def F.SYS_LINK_HDRERR : Fld := ⟨R.SYS_LINK_HDRERR, 0, 16⟩
def R.SYS_LINK_CRCERR : Nat := 0x11020
def F.SYS_LINK_CRCERR : Fld := ⟨R.SYS_LINK_CRCERR, 0, 16⟩
def R.SYS_LINK_OVF : Nat := 0x11024
def F.SYS_LINK_OVF : Fld := ⟨R.SYS_LINK_OVF, 0, 16⟩
def R.SYS_LINK_BERR : Nat := 0x11028
def F.SYS_LINK_BERR : Fld := ⟨R.SYS_LINK_BERR, 0, 16⟩
def R.SYS_LINK_ORGERR : Nat := 0x1102C
def F.SYS_LINK_ORGERR : Fld := ⟨R.SYS_LINK_ORGERR, 0, 16⟩
def R.SYS_LINK_AUTHERR : Nat := 0x11030
def F.SYS_LINK_AUTHERR : Fld := ⟨R.SYS_LINK_AUTHERR, 0, 16⟩
def R.SYS_LINK_RETRAIN : Nat := 0x11034
def F.SYS_LINK_RETRAIN : Fld := ⟨R.SYS_LINK_RETRAIN, 0, 16⟩
def R.SYS_TICK_BASE_LO : Nat := 0x11038
def F.SYS_TICK_BASE_LO : Fld := ⟨R.SYS_TICK_BASE_LO, 0, 32⟩
def R.SYS_TICK_BASE_HI : Nat := 0x1103C
def F.SYS_TICK_BASE_HI : Fld := ⟨R.SYS_TICK_BASE_HI, 0, 32⟩

-- R654, spec/19_keystone_plumb.md
def R.SYS_BOOT : Nat := 0x12000
def F.SYS_BOOT_B_VALID : Fld := ⟨R.SYS_BOOT, 17, 1⟩
def F.SYS_BOOT_A_VALID : Fld := ⟨R.SYS_BOOT, 16, 1⟩
def F.SYS_BOOT_SLOT : Fld := ⟨R.SYS_BOOT, 8, 1⟩
def F.SYS_BOOT_RES : Fld := ⟨R.SYS_BOOT, 0, 4⟩

-- R581, spec/16_clock_islands.md
def R.CLK_SUMMARY : Nat := 0x20024
def F.CLK_SUMMARY_FB : Fld := ⟨R.CLK_SUMMARY, 16, 1⟩
def F.CLK_SUMMARY_RUN : Fld := ⟨R.CLK_SUMMARY, 0, 12⟩

-- R582, spec/16_clock_islands.md
def R.CLK_STAT : Nat := 0x21000
def F.CLK_STAT_FB : Fld := ⟨R.CLK_STAT, 31, 1⟩
def F.CLK_STAT_FBARM : Fld := ⟨R.CLK_STAT, 30, 1⟩
def F.CLK_STAT_XO_OK : Fld := ⟨R.CLK_STAT, 29, 1⟩
def F.CLK_STAT_MRC_OK : Fld := ⟨R.CLK_STAT, 28, 1⟩
def F.CLK_STAT_LOCK : Fld := ⟨R.CLK_STAT, 16, 5⟩
def F.CLK_STAT_REFMRC : Fld := ⟨R.CLK_STAT, 0, 5⟩
def R.CLK_CTRL : Nat := 0x21004
def F.CLK_CTRL_RETURN : Fld := ⟨R.CLK_CTRL, 1, 1⟩
def F.CLK_CTRL_AUTORET : Fld := ⟨R.CLK_CTRL, 0, 1⟩
def R.CLK_XO_MEAS : Nat := 0x21008
def F.CLK_XO_MEAS_SPREAD : Fld := ⟨R.CLK_XO_MEAS, 16, 16⟩
def F.CLK_XO_MEAS_CNT : Fld := ⟨R.CLK_XO_MEAS, 0, 16⟩
def R.CLK_MRC_MEAS : Nat := 0x2100C
def F.CLK_MRC_MEAS : Fld := ⟨R.CLK_MRC_MEAS, 0, 17⟩
def R.CLK_MRC_TRIM : Nat := 0x21010
def F.CLK_MRC_TRIM_ERR : Fld := ⟨R.CLK_MRC_TRIM, 16, 16⟩
def F.CLK_MRC_TRIM_CODE : Fld := ⟨R.CLK_MRC_TRIM, 0, 10⟩
def R.CLK_MRC_FREQ : Nat := 0x21014
def F.CLK_MRC_FREQ : Fld := ⟨R.CLK_MRC_FREQ, 0, 32⟩
def R.CLK_START : Nat := 0x21018
def F.CLK_START_CAUSE : Fld := ⟨R.CLK_START, 24, 3⟩
def F.CLK_START_ATT : Fld := ⟨R.CLK_START, 0, 2⟩
def R.CLK_TRIPS : Nat := 0x2101C
def F.CLK_TRIPS_PLL : Fld := ⟨R.CLK_TRIPS, 16, 16⟩
def F.CLK_TRIPS_N : Fld := ⟨R.CLK_TRIPS, 0, 16⟩
def R.CLK_SSC_FAB : Nat := 0x21020
def F.CLK_SSC_FAB_RATE : Fld := ⟨R.CLK_SSC_FAB, 16, 6⟩
def F.CLK_SSC_FAB_DEPTH : Fld := ⟨R.CLK_SSC_FAB, 0, 4⟩
def R.CLK_SSC_DRV : Nat := 0x21024
def F.CLK_SSC_DRV_RATE : Fld := ⟨R.CLK_SSC_DRV, 16, 6⟩
def F.CLK_SSC_DRV_DEPTH : Fld := ⟨R.CLK_SSC_DRV, 0, 4⟩
def R.CLK_GATE_REQ : Nat := 0x21028
def F.CLK_GATE_REQ_ISL_FBK : Fld := ⟨R.CLK_GATE_REQ, 9, 1⟩
def F.CLK_GATE_REQ_ISL_CAN : Fld := ⟨R.CLK_GATE_REQ, 8, 1⟩
def F.CLK_GATE_REQ_ISL_GNSS : Fld := ⟨R.CLK_GATE_REQ, 6, 1⟩
def R.CLK_GATE_STAT : Nat := 0x2102C
def F.CLK_GATE_STAT : Fld := ⟨R.CLK_GATE_STAT, 0, 32⟩
def R.CLK_AVS_CFG : Nat := 0x21030
def F.CLK_AVS_CFG_EN : Fld := ⟨R.CLK_AVS_CFG, 16, 1⟩
def F.CLK_AVS_CFG_MARGIN : Fld := ⟨R.CLK_AVS_CFG, 0, 8⟩
def R.CLK_AVS_STAT : Nat := 0x21034
def F.CLK_AVS_STAT_MV : Fld := ⟨R.CLK_AVS_STAT, 16, 16⟩
def F.CLK_AVS_STAT_MARGIN : Fld := ⟨R.CLK_AVS_STAT, 0, 8⟩
def R.CLK_GATE_ABN : Nat := 0x21038
def F.CLK_GATE_ABN : Fld := ⟨R.CLK_GATE_ABN, 0, 16⟩
def R.CLK_MRC_TC : Nat := 0x2103C
def F.CLK_MRC_TC_VALID : Fld := ⟨R.CLK_MRC_TC, 31, 1⟩
def F.CLK_MRC_TC_TC : Fld := ⟨R.CLK_MRC_TC, 0, 16⟩

-- R584, spec/16_clock_islands.md
def R.CLK_ISL_STAT (n : Nat) : Nat := 0x22000 + n * 0x10
def F.CLK_ISL_STAT_STATE (n : Nat) : Fld := ⟨R.CLK_ISL_STAT n, 2, 2⟩
def F.CLK_ISL_STAT_MRC (n : Nat) : Fld := ⟨R.CLK_ISL_STAT n, 0, 1⟩
def R.CLK_ISL_FREQ (n : Nat) : Nat := 0x22004 + n * 0x10
def F.CLK_ISL_FREQ (n : Nat) : Fld := ⟨R.CLK_ISL_FREQ n, 0, 32⟩

-- R611, spec/17_supplies_reset_safe.md
def R.PWR_SUMMARY : Nat := 0x30024
def F.PWR_SUMMARY_VBAT : Fld := ⟨R.PWR_SUMMARY, 16, 16⟩
def F.PWR_SUMMARY_PHASE : Fld := ⟨R.PWR_SUMMARY, 8, 3⟩
def F.PWR_SUMMARY_SSAFE : Fld := ⟨R.PWR_SUMMARY, 2, 1⟩
def F.PWR_SUMMARY_DSAFE_B : Fld := ⟨R.PWR_SUMMARY, 1, 1⟩
def F.PWR_SUMMARY_DSAFE_A : Fld := ⟨R.PWR_SUMMARY, 0, 1⟩
def R.PWR_DISC : Nat := 0x30028
def F.PWR_DISC_PERSIST : Fld := ⟨R.PWR_DISC, 0, 16⟩

-- R612, spec/17_supplies_reset_safe.md
def R.PWR_STAT : Nat := 0x31000
def F.PWR_STAT_OUTREL : Fld := ⟨R.PWR_STAT, 31, 1⟩
def F.PWR_STAT_SSAFE : Fld := ⟨R.PWR_STAT, 30, 1⟩
def F.PWR_STAT_DSAFE_B : Fld := ⟨R.PWR_STAT, 29, 1⟩
def F.PWR_STAT_DSAFE_A : Fld := ⟨R.PWR_STAT, 28, 1⟩
def F.PWR_STAT_VIO_OK : Fld := ⟨R.PWR_STAT, 23, 1⟩
def F.PWR_STAT_VIO_33 : Fld := ⟨R.PWR_STAT, 22, 1⟩
def F.PWR_STAT_RAILS_OK : Fld := ⟨R.PWR_STAT, 21, 1⟩
def F.PWR_STAT_VBAT_OK : Fld := ⟨R.PWR_STAT, 20, 1⟩
def F.PWR_STAT_LOW : Fld := ⟨R.PWR_STAT, 19, 1⟩
def F.PWR_STAT_PHASE : Fld := ⟨R.PWR_STAT, 0, 3⟩
def R.PWR_VBAT : Nat := 0x31004
def F.PWR_VBAT_VBAT : Fld := ⟨R.PWR_VBAT, 0, 16⟩
def R.PWR_VBAT_CFG : Nat := 0x31008
def F.PWR_VBAT_CFG_LOW_TH : Fld := ⟨R.PWR_VBAT_CFG, 0, 9⟩
def R.PWR_VIO : Nat := 0x3100C
def F.PWR_VIO_VIO : Fld := ⟨R.PWR_VIO, 0, 16⟩
def R.PWR_RAILS : Nat := 0x31010
def F.PWR_RAILS_V18 : Fld := ⟨R.PWR_RAILS, 16, 16⟩
def F.PWR_RAILS_V11 : Fld := ⟨R.PWR_RAILS, 0, 16⟩
def R.PWR_SLUG : Nat := 0x31014
def F.PWR_SLUG : Fld := ⟨R.PWR_SLUG, 0, 16⟩
def R.PWR_RST_CAUSE : Nat := 0x31018
def F.PWR_RST_CAUSE_WRUN : Fld := ⟨R.PWR_RST_CAUSE, 16, 2⟩
def F.PWR_RST_CAUSE_SAFEWD : Fld := ⟨R.PWR_RST_CAUSE, 8, 1⟩
def F.PWR_RST_CAUSE_CAUSE : Fld := ⟨R.PWR_RST_CAUSE, 0, 4⟩
def R.PWR_BOOT_TIME : Nat := 0x3101C
def F.PWR_BOOT_TIME : Fld := ⟨R.PWR_BOOT_TIME, 0, 16⟩
def R.PWR_HOURS : Nat := 0x31020
def F.PWR_HOURS : Fld := ⟨R.PWR_HOURS, 0, 32⟩
def R.PWR_PCYC : Nat := 0x31024
def F.PWR_PCYC : Fld := ⟨R.PWR_PCYC, 0, 32⟩
def R.PWR_CMD : Nat := 0x31028
def F.PWR_CMD_PERSIST : Fld := ⟨R.PWR_CMD, 0, 1⟩
def R.PWR_PERSIST : Nat := 0x3102C
def F.PWR_PERSIST_BUSY : Fld := ⟨R.PWR_PERSIST, 31, 1⟩
def F.PWR_PERSIST_VALID : Fld := ⟨R.PWR_PERSIST, 8, 1⟩
def F.PWR_PERSIST_RESULT : Fld := ⟨R.PWR_PERSIST, 0, 8⟩
def R.PWR_CNT : Nat := 0x31030
def F.PWR_CNT_SSAFE : Fld := ⟨R.PWR_CNT, 16, 16⟩
def F.PWR_CNT_VIO : Fld := ⟨R.PWR_CNT, 0, 16⟩

-- R152, spec/04_lanes_events.md
def R.EVT_STATUS : Nat := 0x41000
def F.EVT_STATUS_STATUS : Fld := ⟨R.EVT_STATUS, 0, 16⟩
def R.EVT_SUMMARY : Nat := 0x41004
def F.EVT_SUMMARY : Fld := ⟨R.EVT_SUMMARY, 0, 32⟩
def R.EVT_GRP_PEND (n : Nat) : Nat := 0x41040 + n * 0x10
def F.EVT_GRP_PEND (n : Nat) : Fld := ⟨R.EVT_GRP_PEND n, 0, 16⟩
def R.EVT_GRP_RAW (n : Nat) : Nat := 0x41044 + n * 0x10
def F.EVT_GRP_RAW (n : Nat) : Fld := ⟨R.EVT_GRP_RAW n, 0, 16⟩
def R.EVT_GRP_CLASS (n : Nat) : Nat := 0x41048 + n * 0x10
def F.EVT_GRP_CLASS (n : Nat) : Fld := ⟨R.EVT_GRP_CLASS n, 0, 32⟩

-- R140, spec/04_lanes_events.md
def R.LANE_READY : Nat := 0x50024
def F.LANE_READY : Fld := ⟨R.LANE_READY, 0, 16⟩
def R.LANE_CTRL (n : Nat) : Nat := 0x51000 + n * 0x20
def F.LANE_CTRL_ATTN (n : Nat) : Fld := ⟨R.LANE_CTRL n, 4, 1⟩
def F.LANE_CTRL_WAIT (n : Nat) : Fld := ⟨R.LANE_CTRL n, 3, 1⟩
def F.LANE_CTRL_LEAD (n : Nat) : Fld := ⟨R.LANE_CTRL n, 2, 1⟩
def F.LANE_CTRL_DIR (n : Nat) : Fld := ⟨R.LANE_CTRL n, 1, 1⟩
def F.LANE_CTRL_EN (n : Nat) : Fld := ⟨R.LANE_CTRL n, 0, 1⟩
def R.LANE_BASE (n : Nat) : Nat := 0x51004 + n * 0x20
def F.LANE_BASE (n : Nat) : Fld := ⟨R.LANE_BASE n, 0, 24⟩
def R.LANE_SIZE (n : Nat) : Nat := 0x51008 + n * 0x20
def F.LANE_SIZE (n : Nat) : Fld := ⟨R.LANE_SIZE n, 0, 15⟩
def R.LANE_HEAD (n : Nat) : Nat := 0x5100C + n * 0x20
def F.LANE_HEAD_HEAD (n : Nat) : Fld := ⟨R.LANE_HEAD n, 0, 14⟩
def R.LANE_TAIL (n : Nat) : Nat := 0x51010 + n * 0x20
def F.LANE_TAIL_TAIL (n : Nat) : Fld := ⟨R.LANE_TAIL n, 0, 14⟩
def R.LANE_LEVEL (n : Nat) : Nat := 0x51014 + n * 0x20
def F.LANE_LEVEL (n : Nat) : Fld := ⟨R.LANE_LEVEL n, 0, 14⟩
def R.LANE_THRESH (n : Nat) : Nat := 0x51018 + n * 0x20
def F.LANE_THRESH (n : Nat) : Fld := ⟨R.LANE_THRESH n, 0, 14⟩
def R.LANE_LOST (n : Nat) : Nat := 0x5101C + n * 0x20
def F.LANE_LOST (n : Nat) : Fld := ⟨R.LANE_LOST n, 0, 16⟩

-- R126, spec/03_register_pages_courses.md
def R.CFG_PERSONALITY : Nat := 0x61000
def F.CFG_PERSONALITY_LOCKED : Fld := ⟨R.CFG_PERSONALITY, 8, 1⟩
def F.CFG_PERSONALITY_PERS : Fld := ⟨R.CFG_PERSONALITY, 0, 4⟩
def R.CFG_FTG_STATE : Nat := 0x61004
def F.CFG_FTG_STATE_SAFE : Fld := ⟨R.CFG_FTG_STATE, 8, 1⟩
def F.CFG_FTG_STATE_BOOTED : Fld := ⟨R.CFG_FTG_STATE, 4, 1⟩
def F.CFG_FTG_STATE_B_VALID : Fld := ⟨R.CFG_FTG_STATE, 1, 1⟩
def F.CFG_FTG_STATE_A_VALID : Fld := ⟨R.CFG_FTG_STATE, 0, 1⟩
def R.CFG_FTG_SEQ_A : Nat := 0x61008
def F.CFG_FTG_SEQ_A : Fld := ⟨R.CFG_FTG_SEQ_A, 0, 32⟩
def R.CFG_FTG_SEQ_B : Nat := 0x6100C
def F.CFG_FTG_SEQ_B : Fld := ⟨R.CFG_FTG_SEQ_B, 0, 32⟩
def R.CFG_COURSE_REQ : Nat := 0x61010
def F.CFG_COURSE_REQ : Fld := ⟨R.CFG_COURSE_REQ, 0, 4⟩
def R.CFG_COURSE_STAT : Nat := 0x61014
def F.CFG_COURSE_STAT_QVALID : Fld := ⟨R.CFG_COURSE_STAT, 25, 1⟩
def F.CFG_COURSE_STAT_BUSY : Fld := ⟨R.CFG_COURSE_STAT, 24, 1⟩
def F.CFG_COURSE_STAT_QUEUED : Fld := ⟨R.CFG_COURSE_STAT, 16, 4⟩
def F.CFG_COURSE_STAT_TARGET : Fld := ⟨R.CFG_COURSE_STAT, 8, 4⟩
def F.CFG_COURSE_STAT_CURRENT : Fld := ⟨R.CFG_COURSE_STAT, 0, 5⟩
def R.CFG_COURSE_PEND : Nat := 0x61018
def F.CFG_COURSE_PEND : Fld := ⟨R.CFG_COURSE_PEND, 0, 32⟩
def R.CFG_COURSE_TMO : Nat := 0x6101C
def F.CFG_COURSE_TMO : Fld := ⟨R.CFG_COURSE_TMO, 0, 16⟩
def R.CFG_SLOT_VALID : Nat := 0x61020
def F.CFG_SLOT_VALID : Fld := ⟨R.CFG_SLOT_VALID, 0, 32⟩
def R.CFG_SLOT_SEALED : Nat := 0x61024
def F.CFG_SLOT_SEALED : Fld := ⟨R.CFG_SLOT_SEALED, 0, 32⟩
def R.CFG_SLOT_RAM : Nat := 0x61028
def F.CFG_SLOT_RAM : Fld := ⟨R.CFG_SLOT_RAM, 0, 32⟩
def R.CFG_IMG_CMD : Nat := 0x61030
def F.CFG_IMG_CMD_SLOT : Fld := ⟨R.CFG_IMG_CMD, 8, 4⟩
def F.CFG_IMG_CMD_CMD : Fld := ⟨R.CFG_IMG_CMD, 0, 4⟩
def R.CFG_IMG_OFS : Nat := 0x61034
def F.CFG_IMG_OFS : Fld := ⟨R.CFG_IMG_OFS, 0, 20⟩
def R.CFG_IMG_LEN : Nat := 0x61038
def F.CFG_IMG_LEN : Fld := ⟨R.CFG_IMG_LEN, 0, 16⟩
def R.CFG_IMG_STAT : Nat := 0x6103C
def F.CFG_IMG_STAT_BUSY : Fld := ⟨R.CFG_IMG_STAT, 31, 1⟩
def F.CFG_IMG_STAT_RESULT : Fld := ⟨R.CFG_IMG_STAT, 0, 8⟩
def R.CFG_BULK_ERR : Nat := 0x61040
def F.CFG_BULK_ERR_CODE : Fld := ⟨R.CFG_BULK_ERR, 24, 8⟩
def F.CFG_BULK_ERR_INDEX : Fld := ⟨R.CFG_BULK_ERR, 16, 8⟩
def F.CFG_BULK_ERR_LSEQ : Fld := ⟨R.CFG_BULK_ERR, 0, 16⟩
def R.CFG_BULK_CNT : Nat := 0x61044
def F.CFG_BULK_CNT_REF : Fld := ⟨R.CFG_BULK_CNT, 16, 16⟩
def F.CFG_BULK_CNT_OK : Fld := ⟨R.CFG_BULK_CNT, 0, 16⟩
def R.CFG_WIN (n : Nat) : Nat := 0x68000 + n * 4
def F.CFG_WIN (n : Nat) : Fld := ⟨R.CFG_WIN n, 0, 32⟩

-- R188, spec/05_gnss_tracking.md
def R.GNSS_SUMMARY : Nat := 0x70024
def F.GNSS_SUMMARY_TRK_B : Fld := ⟨R.GNSS_SUMMARY, 16, 8⟩
def F.GNSS_SUMMARY_TRK_A : Fld := ⟨R.GNSS_SUMMARY, 8, 8⟩
def F.GNSS_SUMMARY_PATH_RUN : Fld := ⟨R.GNSS_SUMMARY, 0, 4⟩

-- R189, spec/05_gnss_tracking.md
def R.GNSS_FE_CTRL : Nat := 0x71000
def F.GNSS_FE_CTRL_PATH_EN : Fld := ⟨R.GNSS_FE_CTRL, 8, 4⟩
def F.GNSS_FE_CTRL_BIAS_B : Fld := ⟨R.GNSS_FE_CTRL, 1, 1⟩
def F.GNSS_FE_CTRL_BIAS_A : Fld := ⟨R.GNSS_FE_CTRL, 0, 1⟩
def R.GNSS_FE_STAT : Nat := 0x71004
def F.GNSS_FE_STAT_JAM : Fld := ⟨R.GNSS_FE_STAT, 16, 1⟩
def F.GNSS_FE_STAT_ANT_B : Fld := ⟨R.GNSS_FE_STAT, 12, 2⟩
def F.GNSS_FE_STAT_ANT_A : Fld := ⟨R.GNSS_FE_STAT, 8, 2⟩
def F.GNSS_FE_STAT_VANT_OK : Fld := ⟨R.GNSS_FE_STAT, 0, 1⟩
def R.GNSS_ANT_THR : Nat := 0x71008
def F.GNSS_ANT_THR_SHORT_MA : Fld := ⟨R.GNSS_ANT_THR, 16, 8⟩
def F.GNSS_ANT_THR_OPEN_MA : Fld := ⟨R.GNSS_ANT_THR, 0, 8⟩
def R.GNSS_ANT_CUR : Nat := 0x7100C
def F.GNSS_ANT_CUR_ANT_B : Fld := ⟨R.GNSS_ANT_CUR, 16, 16⟩
def F.GNSS_ANT_CUR_ANT_A : Fld := ⟨R.GNSS_ANT_CUR, 0, 16⟩
def R.GNSS_VANT : Nat := 0x71010
def F.GNSS_VANT_VANT : Fld := ⟨R.GNSS_VANT, 0, 16⟩
def R.GNSS_AGC_CTRL : Nat := 0x71014
def F.GNSS_AGC_CTRL_FREEZE : Fld := ⟨R.GNSS_AGC_CTRL, 16, 4⟩
def F.GNSS_AGC_CTRL_JAM_DROP : Fld := ⟨R.GNSS_AGC_CTRL, 0, 8⟩
def R.GNSS_AGC_GAIN_A : Nat := 0x71018
def F.GNSS_AGC_GAIN_A_G1 : Fld := ⟨R.GNSS_AGC_GAIN_A, 16, 8⟩
def F.GNSS_AGC_GAIN_A_G0 : Fld := ⟨R.GNSS_AGC_GAIN_A, 0, 8⟩
def R.GNSS_AGC_GAIN_B : Nat := 0x7101C
def F.GNSS_AGC_GAIN_B : Fld := ⟨R.GNSS_AGC_GAIN_B, 0, 32⟩
def R.GNSS_AGC_REF_A : Nat := 0x71020
def F.GNSS_AGC_REF_A : Fld := ⟨R.GNSS_AGC_REF_A, 0, 32⟩
def R.GNSS_AGC_REF_B : Nat := 0x71024
def F.GNSS_AGC_REF_B : Fld := ⟨R.GNSS_AGC_REF_B, 0, 32⟩
def R.GNSS_ACQ_CTRL : Nat := 0x71028
def F.GNSS_ACQ_CTRL_ACQ_CN0 : Fld := ⟨R.GNSS_ACQ_CTRL, 24, 8⟩
def F.GNSS_ACQ_CTRL_LOCK_CN0 : Fld := ⟨R.GNSS_ACQ_CTRL, 16, 8⟩
def F.GNSS_ACQ_CTRL_LOL_N : Fld := ⟨R.GNSS_ACQ_CTRL, 8, 8⟩
def R.GNSS_ACQ_WIN : Nat := 0x7102C
def F.GNSS_ACQ_WIN_HW : Fld := ⟨R.GNSS_ACQ_WIN, 0, 16⟩
def R.GNSS_RECOVER : Nat := 0x71030
def F.GNSS_RECOVER_RECOVER_T : Fld := ⟨R.GNSS_RECOVER, 0, 16⟩
def R.GNSS_SIGMASK : Nat := 0x71034
def F.GNSS_SIGMASK : Fld := ⟨R.GNSS_SIGMASK, 1, 9⟩
def R.GNSS_CNT_LOL : Nat := 0x71038
def F.GNSS_CNT_LOL : Fld := ⟨R.GNSS_CNT_LOL, 0, 16⟩
def R.GNSS_DISC : Nat := 0x7103C
def F.GNSS_DISC : Fld := ⟨R.GNSS_DISC, 0, 16⟩

-- R190, spec/05_gnss_tracking.md
def R.GNSS_CH_CTRL (n : Nat) : Nat := 0x72000 + n * 0x40
def F.GNSS_CH_CTRL_MODE (n : Nat) : Fld := ⟨R.GNSS_CH_CTRL n, 0, 2⟩
def R.GNSS_CH_SIG (n : Nat) : Nat := 0x72004 + n * 0x40
def F.GNSS_CH_SIG_SIGID (n : Nat) : Fld := ⟨R.GNSS_CH_SIG n, 8, 8⟩
def F.GNSS_CH_SIG_PRN (n : Nat) : Fld := ⟨R.GNSS_CH_SIG n, 0, 8⟩
def R.GNSS_CH_AID (n : Nat) : Nat := 0x72008 + n * 0x40
def F.GNSS_CH_AID_DOPP_CTR (n : Nat) : Fld := ⟨R.GNSS_CH_AID n, 16, 16⟩
def F.GNSS_CH_AID_DOPP_HW (n : Nat) : Fld := ⟨R.GNSS_CH_AID n, 0, 16⟩
def R.GNSS_CH_LOOP (n : Nat) : Nat := 0x7200C + n * 0x40
def F.GNSS_CH_LOOP_PLL_BW (n : Nat) : Fld := ⟨R.GNSS_CH_LOOP n, 24, 8⟩
def F.GNSS_CH_LOOP_FLL_BW (n : Nat) : Fld := ⟨R.GNSS_CH_LOOP n, 16, 8⟩
def F.GNSS_CH_LOOP_DLL_BW (n : Nat) : Fld := ⟨R.GNSS_CH_LOOP n, 8, 8⟩
def F.GNSS_CH_LOOP_TCOH (n : Nat) : Fld := ⟨R.GNSS_CH_LOOP n, 0, 3⟩
def R.GNSS_CH_SPC (n : Nat) : Nat := 0x72010 + n * 0x40
def F.GNSS_CH_SPC_SPC_TEST (n : Nat) : Fld := ⟨R.GNSS_CH_SPC n, 8, 8⟩
def F.GNSS_CH_SPC_SPC_TRK (n : Nat) : Fld := ⟨R.GNSS_CH_SPC n, 0, 8⟩
def R.GNSS_CH_STATE (n : Nat) : Nat := 0x72014 + n * 0x40
def F.GNSS_CH_STATE_EXIT (n : Nat) : Fld := ⟨R.GNSS_CH_STATE n, 4, 4⟩
def F.GNSS_CH_STATE_STATE (n : Nat) : Fld := ⟨R.GNSS_CH_STATE n, 0, 3⟩
def R.GNSS_CH_CUR (n : Nat) : Nat := 0x72018 + n * 0x40
def F.GNSS_CH_CUR_ANT (n : Nat) : Fld := ⟨R.GNSS_CH_CUR n, 24, 1⟩
def F.GNSS_CH_CUR_SIGID (n : Nat) : Fld := ⟨R.GNSS_CH_CUR n, 8, 8⟩
def F.GNSS_CH_CUR_PRN (n : Nat) : Fld := ⟨R.GNSS_CH_CUR n, 0, 8⟩
def R.GNSS_CH_CN0 (n : Nat) : Nat := 0x7201C + n * 0x40
def F.GNSS_CH_CN0_CN0 (n : Nat) : Fld := ⟨R.GNSS_CH_CN0 n, 0, 16⟩
def R.GNSS_CH_DOPP (n : Nat) : Nat := 0x72020 + n * 0x40
def F.GNSS_CH_DOPP (n : Nat) : Fld := ⟨R.GNSS_CH_DOPP n, 0, 32⟩
def R.GNSS_CH_SPC_ACT (n : Nat) : Nat := 0x72024 + n * 0x40
def F.GNSS_CH_SPC_ACT (n : Nat) : Fld := ⟨R.GNSS_CH_SPC_ACT n, 0, 8⟩
def R.GNSS_CH_LOCKT (n : Nat) : Nat := 0x72028 + n * 0x40
def F.GNSS_CH_LOCKT (n : Nat) : Fld := ⟨R.GNSS_CH_LOCKT n, 0, 32⟩
def R.GNSS_CH_LLI (n : Nat) : Nat := 0x7202C + n * 0x40
def F.GNSS_CH_LLI_SLIP (n : Nat) : Fld := ⟨R.GNSS_CH_LLI n, 16, 16⟩
def F.GNSS_CH_LLI_LOL (n : Nat) : Fld := ⟨R.GNSS_CH_LLI n, 0, 16⟩
def R.GNSS_CH_CARR_NCO (n : Nat) : Nat := 0x72030 + n * 0x40
def F.GNSS_CH_CARR_NCO (n : Nat) : Fld := ⟨R.GNSS_CH_CARR_NCO n, 0, 32⟩
def R.GNSS_CH_CODE_NCO (n : Nat) : Nat := 0x72034 + n * 0x40
def F.GNSS_CH_CODE_NCO (n : Nat) : Fld := ⟨R.GNSS_CH_CODE_NCO n, 0, 32⟩
def R.GNSS_CH_CORR (n : Nat) : Nat := 0x72038 + n * 0x40
def F.GNSS_CH_CORR_I (n : Nat) : Fld := ⟨R.GNSS_CH_CORR n, 16, 16⟩
def F.GNSS_CH_CORR_Q (n : Nat) : Fld := ⟨R.GNSS_CH_CORR n, 0, 16⟩

-- R193, spec/05_gnss_tracking.md
def R.GNSS_SNAP_CTRL : Nat := 0x75000
def F.GNSS_SNAP_CTRL_PATHS : Fld := ⟨R.GNSS_SNAP_CTRL, 16, 4⟩
def F.GNSS_SNAP_CTRL_START : Fld := ⟨R.GNSS_SNAP_CTRL, 8, 2⟩
def F.GNSS_SNAP_CTRL_STOP_JAM : Fld := ⟨R.GNSS_SNAP_CTRL, 4, 1⟩
def F.GNSS_SNAP_CTRL_GO : Fld := ⟨R.GNSS_SNAP_CTRL, 0, 1⟩
def R.GNSS_SNAP_LEN : Nat := 0x75004
def F.GNSS_SNAP_LEN_LEN : Fld := ⟨R.GNSS_SNAP_LEN, 0, 16⟩
def R.GNSS_SNAP_WIN : Nat := 0x75008
def F.GNSS_SNAP_WIN : Fld := ⟨R.GNSS_SNAP_WIN, 0, 16⟩
def R.GNSS_SNAP_AVAIL : Nat := 0x7500C
def F.GNSS_SNAP_AVAIL : Fld := ⟨R.GNSS_SNAP_AVAIL, 0, 16⟩
def R.GNSS_SNAP_TAG_LO : Nat := 0x75010
def F.GNSS_SNAP_TAG_LO : Fld := ⟨R.GNSS_SNAP_TAG_LO, 0, 32⟩
def R.GNSS_SNAP_TAG_HI : Nat := 0x75014
def F.GNSS_SNAP_TAG_HI : Fld := ⟨R.GNSS_SNAP_TAG_HI, 0, 32⟩
def R.GNSS_SNAP_T0_LO : Nat := 0x75018
def F.GNSS_SNAP_T0_LO : Fld := ⟨R.GNSS_SNAP_T0_LO, 0, 32⟩
def R.GNSS_SNAP_T0_HI : Nat := 0x7501C
def F.GNSS_SNAP_T0_HI : Fld := ⟨R.GNSS_SNAP_T0_HI, 0, 32⟩
def R.GNSS_SNAP_SUB : Nat := 0x75020
def F.GNSS_SNAP_SUB : Fld := ⟨R.GNSS_SNAP_SUB, 0, 16⟩
def R.GNSS_SNAP_STAT : Nat := 0x75024
def F.GNSS_SNAP_STAT_BUSY : Fld := ⟨R.GNSS_SNAP_STAT, 31, 1⟩
def F.GNSS_SNAP_STAT_INC : Fld := ⟨R.GNSS_SNAP_STAT, 30, 1⟩
def F.GNSS_SNAP_STAT_OP : Fld := ⟨R.GNSS_SNAP_STAT, 24, 2⟩
def F.GNSS_SNAP_STAT_PAGES : Fld := ⟨R.GNSS_SNAP_STAT, 0, 16⟩
def R.GNSS_SNAP_CMD : Nat := 0x75028
def F.GNSS_SNAP_CMD : Fld := ⟨R.GNSS_SNAP_CMD, 0, 4⟩
def R.GNSS_SNAP_DRN_OFS : Nat := 0x7502C
def F.GNSS_SNAP_DRN_OFS : Fld := ⟨R.GNSS_SNAP_DRN_OFS, 0, 16⟩
def R.GNSS_SNAP_DRN_LEN : Nat := 0x75030
def F.GNSS_SNAP_DRN_LEN : Fld := ⟨R.GNSS_SNAP_DRN_LEN, 0, 16⟩
def R.GNSS_SNAP_PROC : Nat := 0x75034
def F.GNSS_SNAP_PROC_PATH : Fld := ⟨R.GNSS_SNAP_PROC, 16, 2⟩
def F.GNSS_SNAP_PROC_SIGMASK : Fld := ⟨R.GNSS_SNAP_PROC, 1, 9⟩
def R.GNSS_SNAP_PSTAT : Nat := 0x75038
def F.GNSS_SNAP_PSTAT_NRES : Fld := ⟨R.GNSS_SNAP_PSTAT, 0, 8⟩

-- R195, spec/05_gnss_tracking.md
def R.GNSS_RES (n : Nat) (m : Nat) : Nat := 0x76000 + n * 0x10 + m * 4
def F.GNSS_RES (n : Nat) (m : Nat) : Fld := ⟨R.GNSS_RES n m, 0, 32⟩

-- R227, spec/06_position_heading_time.md
def R.NAV_SUMMARY : Nat := 0x80024
def F.NAV_SUMMARY_TQ : Fld := ⟨R.NAV_SUMMARY, 16, 3⟩
def F.NAV_SUMMARY_HSRC : Fld := ⟨R.NAV_SUMMARY, 12, 3⟩
def F.NAV_SUMMARY_PQ : Fld := ⟨R.NAV_SUMMARY, 0, 3⟩

-- R228, spec/06_position_heading_time.md
def R.NAV_CTRL : Nat := 0x81000
def F.NAV_CTRL_RATE : Fld := ⟨R.NAV_CTRL, 16, 3⟩
def F.NAV_CTRL_RAW_EN : Fld := ⟨R.NAV_CTRL, 8, 1⟩
def F.NAV_CTRL_HDG_EN : Fld := ⟨R.NAV_CTRL, 4, 1⟩
def F.NAV_CTRL_RTK_EN : Fld := ⟨R.NAV_CTRL, 1, 1⟩
def F.NAV_CTRL_IMU_EN : Fld := ⟨R.NAV_CTRL, 0, 1⟩
def R.NAV_QMIN : Nat := 0x81004
def F.NAV_QMIN_QMIN : Fld := ⟨R.NAV_QMIN, 0, 3⟩
def R.NAV_MASK : Nat := 0x81008
def F.NAV_MASK_ELEV : Fld := ⟨R.NAV_MASK, 8, 8⟩
def F.NAV_MASK_CN0 : Fld := ⟨R.NAV_MASK, 0, 8⟩
def R.NAV_AGE_MAX : Nat := 0x8100C
def F.NAV_AGE_MAX_AGE_MAX : Fld := ⟨R.NAV_AGE_MAX, 0, 16⟩
def R.NAV_RTK_CFG : Nat := 0x81010
def F.NAV_RTK_CFG_RATIO : Fld := ⟨R.NAV_RTK_CFG, 8, 8⟩
def F.NAV_RTK_CFG_MINSAT : Fld := ⟨R.NAV_RTK_CFG, 0, 8⟩
def R.NAV_BASELINE : Nat := 0x81014
def F.NAV_BASELINE_TOL : Fld := ⟨R.NAV_BASELINE, 16, 16⟩
def F.NAV_BASELINE_LEN : Fld := ⟨R.NAV_BASELINE, 0, 16⟩
def R.NAV_HDG_OFS : Nat := 0x81018
def F.NAV_HDG_OFS : Fld := ⟨R.NAV_HDG_OFS, 0, 16⟩
def R.NAV_POSE_CFG : Nat := 0x8101C
def F.NAV_POSE_CFG_JUMP : Fld := ⟨R.NAV_POSE_CFG, 16, 16⟩
def F.NAV_POSE_CFG_BLEND : Fld := ⟨R.NAV_POSE_CFG, 0, 16⟩
def R.NAV_HO_CFG : Nat := 0x81020
def F.NAV_HO_CFG_UNC_MAX : Fld := ⟨R.NAV_HO_CFG, 16, 16⟩
def F.NAV_HO_CFG_HO_ENTER : Fld := ⟨R.NAV_HO_CFG, 0, 16⟩
def R.NAV_RTCM_USED : Nat := 0x81024
def F.NAV_RTCM_USED : Fld := ⟨R.NAV_RTCM_USED, 0, 16⟩
def R.NAV_RTCM_IGN : Nat := 0x81028
def F.NAV_RTCM_IGN : Fld := ⟨R.NAV_RTCM_IGN, 0, 16⟩
def R.NAV_RTCM_ERR : Nat := 0x8102C
def F.NAV_RTCM_ERR : Fld := ⟨R.NAV_RTCM_ERR, 0, 16⟩
def R.NAV_DISC : Nat := 0x81030
def F.NAV_DISC : Fld := ⟨R.NAV_DISC, 0, 16⟩

-- R230, spec/06_position_heading_time.md
def R.NAV_POSE_T_LO : Nat := 0x82000
def F.NAV_POSE_T_LO : Fld := ⟨R.NAV_POSE_T_LO, 0, 32⟩
def R.NAV_POSE_T_HI : Nat := 0x82004
def F.NAV_POSE_T_HI : Fld := ⟨R.NAV_POSE_T_HI, 0, 32⟩
def R.NAV_POSE_LAT_LO : Nat := 0x82008
def F.NAV_POSE_LAT_LO : Fld := ⟨R.NAV_POSE_LAT_LO, 0, 32⟩
def R.NAV_POSE_LAT_HI : Nat := 0x8200C
def F.NAV_POSE_LAT_HI : Fld := ⟨R.NAV_POSE_LAT_HI, 0, 32⟩
def R.NAV_POSE_LON_LO : Nat := 0x82010
def F.NAV_POSE_LON_LO : Fld := ⟨R.NAV_POSE_LON_LO, 0, 32⟩
def R.NAV_POSE_LON_HI : Nat := 0x82014
def F.NAV_POSE_LON_HI : Fld := ⟨R.NAV_POSE_LON_HI, 0, 32⟩
def R.NAV_POSE_HGT : Nat := 0x82018
def F.NAV_POSE_HGT : Fld := ⟨R.NAV_POSE_HGT, 0, 32⟩
def R.NAV_POSE_HDG : Nat := 0x8201C
def F.NAV_POSE_HDG_PITCH : Fld := ⟨R.NAV_POSE_HDG, 16, 16⟩
def F.NAV_POSE_HDG_HDG : Fld := ⟨R.NAV_POSE_HDG, 0, 16⟩
def R.NAV_POSE_ROLL : Nat := 0x82020
def F.NAV_POSE_ROLL : Fld := ⟨R.NAV_POSE_ROLL, 0, 16⟩
def R.NAV_POSE_SPD : Nat := 0x82024
def F.NAV_POSE_SPD_YAW : Fld := ⟨R.NAV_POSE_SPD, 16, 16⟩
def F.NAV_POSE_SPD_SPD : Fld := ⟨R.NAV_POSE_SPD, 0, 16⟩
def R.NAV_POSE_Q : Nat := 0x82028
def F.NAV_POSE_Q_DR_TRAVEL : Fld := ⟨R.NAV_POSE_Q, 16, 16⟩
def F.NAV_POSE_Q_HSRC : Fld := ⟨R.NAV_POSE_Q, 12, 3⟩
def F.NAV_POSE_Q_JUMP : Fld := ⟨R.NAV_POSE_Q, 11, 1⟩
def F.NAV_POSE_Q_BLEND : Fld := ⟨R.NAV_POSE_Q, 10, 1⟩
def F.NAV_POSE_Q_TQ : Fld := ⟨R.NAV_POSE_Q, 4, 3⟩
def F.NAV_POSE_Q_PQ : Fld := ⟨R.NAV_POSE_Q, 0, 3⟩
def R.NAV_POSE_UNC : Nat := 0x8202C
def F.NAV_POSE_UNC_HDG : Fld := ⟨R.NAV_POSE_UNC, 16, 16⟩
def F.NAV_POSE_UNC_HOR : Fld := ⟨R.NAV_POSE_UNC, 0, 16⟩
def R.NAV_SOL_T_LO : Nat := 0x82030
def F.NAV_SOL_T_LO : Fld := ⟨R.NAV_SOL_T_LO, 0, 32⟩
def R.NAV_SOL_T_HI : Nat := 0x82034
def F.NAV_SOL_T_HI : Fld := ⟨R.NAV_SOL_T_HI, 0, 32⟩
def R.NAV_SOL_INFO : Nat := 0x82038
def F.NAV_SOL_INFO_NSAT : Fld := ⟨R.NAV_SOL_INFO, 24, 8⟩
def F.NAV_SOL_INFO_Q : Fld := ⟨R.NAV_SOL_INFO, 0, 3⟩

-- R232, spec/06_position_heading_time.md
def R.NAV_TIME_STAT : Nat := 0x83000
def F.NAV_TIME_STAT_HOLD : Fld := ⟨R.NAV_TIME_STAT, 8, 1⟩
def F.NAV_TIME_STAT_SLEW : Fld := ⟨R.NAV_TIME_STAT, 4, 1⟩
def F.NAV_TIME_STAT_TQ : Fld := ⟨R.NAV_TIME_STAT, 0, 3⟩
def R.NAV_TIME_STEP : Nat := 0x83004
def F.NAV_TIME_STEP_DIR : Fld := ⟨R.NAV_TIME_STEP, 31, 1⟩
def F.NAV_TIME_STEP_MS : Fld := ⟨R.NAV_TIME_STEP, 0, 31⟩
def R.NAV_TIME_ERR : Nat := 0x83008
def F.NAV_TIME_ERR : Fld := ⟨R.NAV_TIME_ERR, 0, 32⟩
def R.NAV_TIME_UNC : Nat := 0x8300C
def F.NAV_TIME_UNC : Fld := ⟨R.NAV_TIME_UNC, 0, 32⟩
def R.NAV_TIME_FREQ : Nat := 0x83010
def F.NAV_TIME_FREQ : Fld := ⟨R.NAV_TIME_FREQ, 0, 32⟩
def R.NAV_TIME_LEAP : Nat := 0x83014
def F.NAV_TIME_LEAP_VALID : Fld := ⟨R.NAV_TIME_LEAP, 8, 1⟩
def F.NAV_TIME_LEAP_GPS : Fld := ⟨R.NAV_TIME_LEAP, 0, 8⟩
def R.NAV_TP_CFG (n : Nat) : Nat := 0x83040 + n * 0x20
def F.NAV_TP_CFG_MODE (n : Nat) : Fld := ⟨R.NAV_TP_CFG n, 30, 2⟩
def F.NAV_TP_CFG_POL (n : Nat) : Fld := ⟨R.NAV_TP_CFG n, 28, 1⟩
def F.NAV_TP_CFG_PERIOD_MS (n : Nat) : Fld := ⟨R.NAV_TP_CFG n, 0, 16⟩
def R.NAV_TP_WIDTH (n : Nat) : Nat := 0x83044 + n * 0x20
def F.NAV_TP_WIDTH_WIDTH (n : Nat) : Fld := ⟨R.NAV_TP_WIDTH n, 0, 24⟩
def R.NAV_TP_OFS (n : Nat) : Nat := 0x83048 + n * 0x20
def F.NAV_TP_OFS (n : Nat) : Fld := ⟨R.NAV_TP_OFS n, 0, 32⟩
def R.NAV_TP_LAST_LO (n : Nat) : Nat := 0x83050 + n * 0x20
def F.NAV_TP_LAST_LO (n : Nat) : Fld := ⟨R.NAV_TP_LAST_LO n, 0, 32⟩
def R.NAV_TP_LAST_HI (n : Nat) : Nat := 0x83054 + n * 0x20
def F.NAV_TP_LAST_HI (n : Nat) : Fld := ⟨R.NAV_TP_LAST_HI n, 0, 32⟩
def R.NAV_TP_LAST_Q (n : Nat) : Nat := 0x83058 + n * 0x20
def F.NAV_TP_LAST_Q_TQ (n : Nat) : Fld := ⟨R.NAV_TP_LAST_Q n, 16, 3⟩
def F.NAV_TP_LAST_Q_UNC (n : Nat) : Fld := ⟨R.NAV_TP_LAST_Q n, 0, 16⟩

-- R234, spec/06_position_heading_time.md
def R.NAV_BASE_ID : Nat := 0x84000
def F.NAV_BASE_ID_VALID : Fld := ⟨R.NAV_BASE_ID, 16, 1⟩
def F.NAV_BASE_ID_ID : Fld := ⟨R.NAV_BASE_ID, 0, 12⟩
def R.NAV_BASE_X_LO : Nat := 0x84008
def F.NAV_BASE_X_LO : Fld := ⟨R.NAV_BASE_X_LO, 0, 32⟩
def R.NAV_BASE_X_HI : Nat := 0x8400C
def F.NAV_BASE_X_HI : Fld := ⟨R.NAV_BASE_X_HI, 0, 32⟩
def R.NAV_BASE_Y_LO : Nat := 0x84010
def F.NAV_BASE_Y_LO : Fld := ⟨R.NAV_BASE_Y_LO, 0, 32⟩
def R.NAV_BASE_Y_HI : Nat := 0x84014
def F.NAV_BASE_Y_HI : Fld := ⟨R.NAV_BASE_Y_HI, 0, 32⟩
def R.NAV_BASE_Z_LO : Nat := 0x84018
def F.NAV_BASE_Z_LO : Fld := ⟨R.NAV_BASE_Z_LO, 0, 32⟩
def R.NAV_BASE_Z_HI : Nat := 0x8401C
def F.NAV_BASE_Z_HI : Fld := ⟨R.NAV_BASE_Z_HI, 0, 32⟩
def R.NAV_RTK_STAT : Nat := 0x84020
def F.NAV_RTK_STAT_FIXED : Fld := ⟨R.NAV_RTK_STAT, 24, 8⟩
def F.NAV_RTK_STAT_RATIO : Fld := ⟨R.NAV_RTK_STAT, 16, 8⟩
def F.NAV_RTK_STAT_AGE : Fld := ⟨R.NAV_RTK_STAT, 0, 16⟩
def R.NAV_HDG_BL : Nat := 0x84024
def F.NAV_HDG_BL_BL : Fld := ⟨R.NAV_HDG_BL, 16, 16⟩
def F.NAV_HDG_BL_ELEV : Fld := ⟨R.NAV_HDG_BL, 0, 16⟩

-- R235, spec/06_position_heading_time.md
def R.NAV_IMU_SPI : Nat := 0x85000
def F.NAV_IMU_SPI_SCK_DIV : Fld := ⟨R.NAV_IMU_SPI, 16, 8⟩
def F.NAV_IMU_SPI_SPI : Fld := ⟨R.NAV_IMU_SPI, 8, 2⟩
def F.NAV_IMU_SPI_DRDY : Fld := ⟨R.NAV_IMU_SPI, 4, 1⟩
def R.NAV_IMU_FMT : Nat := 0x85004
def F.NAV_IMU_FMT_CMD_LEN : Fld := ⟨R.NAV_IMU_FMT, 24, 4⟩
def F.NAV_IMU_FMT_WORDS : Fld := ⟨R.NAV_IMU_FMT, 16, 4⟩
def F.NAV_IMU_FMT_BE : Fld := ⟨R.NAV_IMU_FMT, 8, 1⟩
def R.NAV_IMU_RATE : Nat := 0x85008
def F.NAV_IMU_RATE : Fld := ⟨R.NAV_IMU_RATE, 0, 16⟩
def R.NAV_IMU_CMD : Nat := 0x8500C
def F.NAV_IMU_CMD : Fld := ⟨R.NAV_IMU_CMD, 0, 32⟩
def R.NAV_IMU_MAP : Nat := 0x85010
def F.NAV_IMU_MAP : Fld := ⟨R.NAV_IMU_MAP, 0, 24⟩
def R.NAV_IMU_GSCL : Nat := 0x85014
def F.NAV_IMU_GSCL : Fld := ⟨R.NAV_IMU_GSCL, 0, 32⟩
def R.NAV_IMU_ASCL : Nat := 0x85018
def F.NAV_IMU_ASCL : Fld := ⟨R.NAV_IMU_ASCL, 0, 32⟩
def R.NAV_IMU_STAT : Nat := 0x8501C
def F.NAV_IMU_STAT_OK : Fld := ⟨R.NAV_IMU_STAT, 0, 1⟩
def R.NAV_IMU_BAD : Nat := 0x85020
def F.NAV_IMU_BAD : Fld := ⟨R.NAV_IMU_BAD, 0, 16⟩

-- R261, spec/07_feedback_sensing.md
def R.FBK_SUMMARY : Nat := 0x90024
def F.FBK_SUMMARY_SPD : Fld := ⟨R.FBK_SUMMARY, 16, 16⟩
def F.FBK_SUMMARY_VALID : Fld := ⟨R.FBK_SUMMARY, 8, 1⟩
def F.FBK_SUMMARY_RUN : Fld := ⟨R.FBK_SUMMARY, 0, 8⟩
def R.FBK_DISC : Nat := 0x90028
def F.FBK_DISC : Fld := ⟨R.FBK_DISC, 0, 16⟩

-- R262, spec/07_feedback_sensing.md
def R.FBK_ENC_CFG (n : Nat) : Nat := 0x91000 + n * 0x40
def F.FBK_ENC_CFG_WIRE_T (n : Nat) : Fld := ⟨R.FBK_ENC_CFG n, 16, 8⟩
def F.FBK_ENC_CFG_LIMEN (n : Nat) : Fld := ⟨R.FBK_ENC_CFG n, 12, 1⟩
def F.FBK_ENC_CFG_NEG (n : Nat) : Fld := ⟨R.FBK_ENC_CFG n, 11, 1⟩
def F.FBK_ENC_CFG_INTYPE (n : Nat) : Fld := ⟨R.FBK_ENC_CFG n, 9, 2⟩
def F.FBK_ENC_CFG_MODE (n : Nat) : Fld := ⟨R.FBK_ENC_CFG n, 0, 3⟩
def R.FBK_ENC_FILT (n : Nat) : Nat := 0x91004 + n * 0x40
def F.FBK_ENC_FILT_FILT (n : Nat) : Fld := ⟨R.FBK_ENC_FILT n, 0, 16⟩
def R.FBK_ENC_SCALE (n : Nat) : Nat := 0x91008 + n * 0x40
def F.FBK_ENC_SCALE (n : Nat) : Fld := ⟨R.FBK_ENC_SCALE n, 0, 32⟩
def R.FBK_ENC_WIN (n : Nat) : Nat := 0x9100C + n * 0x40
def F.FBK_ENC_WIN_STANDSTILL_T (n : Nat) : Fld := ⟨R.FBK_ENC_WIN n, 16, 16⟩
def F.FBK_ENC_WIN_WIN (n : Nat) : Fld := ⟨R.FBK_ENC_WIN n, 0, 16⟩
def R.FBK_ENC_POS (n : Nat) : Nat := 0x91010 + n * 0x40
def F.FBK_ENC_POS (n : Nat) : Fld := ⟨R.FBK_ENC_POS n, 0, 32⟩
def R.FBK_ENC_LIM_LO (n : Nat) : Nat := 0x91014 + n * 0x40
def F.FBK_ENC_LIM_LO (n : Nat) : Fld := ⟨R.FBK_ENC_LIM_LO n, 0, 32⟩
def R.FBK_ENC_LIM_HI (n : Nat) : Nat := 0x91018 + n * 0x40
def F.FBK_ENC_LIM_HI (n : Nat) : Fld := ⟨R.FBK_ENC_LIM_HI n, 0, 32⟩
def R.FBK_ENC_ZCFG (n : Nat) : Nat := 0x9101C + n * 0x40
def F.FBK_ENC_ZCFG_ARM (n : Nat) : Fld := ⟨R.FBK_ENC_ZCFG n, 4, 1⟩
def F.FBK_ENC_ZCFG_ZMODE (n : Nat) : Fld := ⟨R.FBK_ENC_ZCFG n, 0, 2⟩
def R.FBK_ENC_ZVAL (n : Nat) : Nat := 0x91020 + n * 0x40
def F.FBK_ENC_ZVAL (n : Nat) : Fld := ⟨R.FBK_ENC_ZVAL n, 0, 32⟩
def R.FBK_ENC_ZLAT (n : Nat) : Nat := 0x91024 + n * 0x40
def F.FBK_ENC_ZLAT (n : Nat) : Fld := ⟨R.FBK_ENC_ZLAT n, 0, 32⟩
def R.FBK_ENC_SPD (n : Nat) : Nat := 0x91028 + n * 0x40
def F.FBK_ENC_SPD (n : Nat) : Fld := ⟨R.FBK_ENC_SPD n, 0, 32⟩
def R.FBK_ENC_SPD_T_LO (n : Nat) : Nat := 0x9102C + n * 0x40
def F.FBK_ENC_SPD_T_LO (n : Nat) : Fld := ⟨R.FBK_ENC_SPD_T_LO n, 0, 32⟩
def R.FBK_ENC_SPD_T_HI (n : Nat) : Nat := 0x91030 + n * 0x40
def F.FBK_ENC_SPD_T_HI (n : Nat) : Fld := ⟨R.FBK_ENC_SPD_T_HI n, 0, 32⟩
def R.FBK_ENC_STAT (n : Nat) : Nat := 0x91034 + n * 0x40
def F.FBK_ENC_STAT_BAD (n : Nat) : Fld := ⟨R.FBK_ENC_STAT n, 8, 3⟩
def F.FBK_ENC_STAT_DIR (n : Nat) : Fld := ⟨R.FBK_ENC_STAT n, 5, 1⟩
def F.FBK_ENC_STAT_LIMIT (n : Nat) : Fld := ⟨R.FBK_ENC_STAT n, 4, 1⟩
def F.FBK_ENC_STAT_SSTATE (n : Nat) : Fld := ⟨R.FBK_ENC_STAT n, 0, 2⟩
def R.FBK_ENC_QERR (n : Nat) : Nat := 0x91038 + n * 0x40
def F.FBK_ENC_QERR (n : Nat) : Fld := ⟨R.FBK_ENC_QERR n, 0, 16⟩

-- R264, spec/07_feedback_sensing.md
def R.FBK_CMP_POS (n : Nat) (m : Nat) : Nat := 0x92000 + n * 0x100 + m * 0x10
def F.FBK_CMP_POS (n : Nat) (m : Nat) : Fld := ⟨R.FBK_CMP_POS n m, 0, 32⟩
def R.FBK_CMP_CTRL (n : Nat) (m : Nat) : Nat := 0x92004 + n * 0x100 + m * 0x10
def F.FBK_CMP_CTRL_FIRED (n : Nat) (m : Nat) : Fld := ⟨R.FBK_CMP_CTRL n m, 9, 1⟩
def F.FBK_CMP_CTRL_BEHIND (n : Nat) (m : Nat) : Fld := ⟨R.FBK_CMP_CTRL n m, 8, 1⟩
def F.FBK_CMP_CTRL_REARM (n : Nat) (m : Nat) : Fld := ⟨R.FBK_CMP_CTRL n m, 5, 1⟩
def F.FBK_CMP_CTRL_EVT (n : Nat) (m : Nat) : Fld := ⟨R.FBK_CMP_CTRL n m, 4, 1⟩
def F.FBK_CMP_CTRL_DIR (n : Nat) (m : Nat) : Fld := ⟨R.FBK_CMP_CTRL n m, 2, 2⟩
def F.FBK_CMP_CTRL_ARM (n : Nat) (m : Nat) : Fld := ⟨R.FBK_CMP_CTRL n m, 0, 1⟩
def R.FBK_CMP_T_LO (n : Nat) (m : Nat) : Nat := 0x92008 + n * 0x100 + m * 0x10
def F.FBK_CMP_T_LO (n : Nat) (m : Nat) : Fld := ⟨R.FBK_CMP_T_LO n m, 0, 32⟩
def R.FBK_CMP_T_HI (n : Nat) (m : Nat) : Nat := 0x9200C + n * 0x100 + m * 0x10
def F.FBK_CMP_T_HI (n : Nat) (m : Nat) : Fld := ⟨R.FBK_CMP_T_HI n m, 0, 32⟩

-- R266, spec/07_feedback_sensing.md
def R.FBK_SSI_CFG (n : Nat) : Nat := 0x93000 + n * 0x20
def F.FBK_SSI_CFG_ERRBIT (n : Nat) : Fld := ⟨R.FBK_SSI_CFG n, 24, 6⟩
def F.FBK_SSI_CFG_BITS (n : Nat) : Fld := ⟨R.FBK_SSI_CFG n, 16, 6⟩
def F.FBK_SSI_CFG_ERR_N (n : Nat) : Fld := ⟨R.FBK_SSI_CFG n, 8, 4⟩
def F.FBK_SSI_CFG_DOUBLE (n : Nat) : Fld := ⟨R.FBK_SSI_CFG n, 3, 1⟩
def F.FBK_SSI_CFG_GRAY (n : Nat) : Fld := ⟨R.FBK_SSI_CFG n, 2, 1⟩
def F.FBK_SSI_CFG_EN (n : Nat) : Fld := ⟨R.FBK_SSI_CFG n, 0, 1⟩
def R.FBK_SSI_TIM (n : Nat) : Nat := 0x93004 + n * 0x20
def F.FBK_SSI_TIM_PERIOD (n : Nat) : Fld := ⟨R.FBK_SSI_TIM n, 20, 12⟩
def F.FBK_SSI_TIM_MONO (n : Nat) : Fld := ⟨R.FBK_SSI_TIM n, 12, 8⟩
def F.FBK_SSI_TIM_DIV (n : Nat) : Fld := ⟨R.FBK_SSI_TIM n, 0, 9⟩
def R.FBK_SSI_POS (n : Nat) : Nat := 0x93008 + n * 0x20
def F.FBK_SSI_POS (n : Nat) : Fld := ⟨R.FBK_SSI_POS n, 0, 32⟩
def R.FBK_SSI_T_LO (n : Nat) : Nat := 0x9300C + n * 0x20
def F.FBK_SSI_T_LO (n : Nat) : Fld := ⟨R.FBK_SSI_T_LO n, 0, 32⟩
def R.FBK_SSI_T_HI (n : Nat) : Nat := 0x93010 + n * 0x20
def F.FBK_SSI_T_HI (n : Nat) : Fld := ⟨R.FBK_SSI_T_HI n, 0, 32⟩
def R.FBK_SSI_STAT (n : Nat) : Nat := 0x93014 + n * 0x20
def F.FBK_SSI_STAT_VALID (n : Nat) : Fld := ⟨R.FBK_SSI_STAT n, 2, 1⟩
def F.FBK_SSI_STAT_ERR (n : Nat) : Fld := ⟨R.FBK_SSI_STAT n, 0, 2⟩
def R.FBK_SSI_ERRCNT (n : Nat) : Nat := 0x93018 + n * 0x20
def F.FBK_SSI_ERRCNT (n : Nat) : Fld := ⟨R.FBK_SSI_ERRCNT n, 0, 16⟩
def R.FBK_EMU_CFG (n : Nat) : Nat := 0x93100 + n * 0x20
def F.FBK_EMU_CFG_ZDIV (n : Nat) : Fld := ⟨R.FBK_EMU_CFG n, 16, 8⟩
def F.FBK_EMU_CFG_INST (n : Nat) : Fld := ⟨R.FBK_EMU_CFG n, 8, 3⟩
def F.FBK_EMU_CFG_SRC (n : Nat) : Fld := ⟨R.FBK_EMU_CFG n, 4, 2⟩
def F.FBK_EMU_CFG_NEG (n : Nat) : Fld := ⟨R.FBK_EMU_CFG n, 1, 1⟩
def F.FBK_EMU_CFG_EN (n : Nat) : Fld := ⟨R.FBK_EMU_CFG n, 0, 1⟩
def R.FBK_EMU_K (n : Nat) : Nat := 0x93104 + n * 0x20
def F.FBK_EMU_K (n : Nat) : Fld := ⟨R.FBK_EMU_K n, 0, 32⟩
def R.FBK_EMU_FIX (n : Nat) : Nat := 0x93108 + n * 0x20
def F.FBK_EMU_FIX (n : Nat) : Fld := ⟨R.FBK_EMU_FIX n, 0, 32⟩
def R.FBK_EMU_STAT (n : Nat) : Nat := 0x9310C + n * 0x20
def F.FBK_EMU_STAT_CLAMP (n : Nat) : Fld := ⟨R.FBK_EMU_STAT n, 16, 1⟩
def F.FBK_EMU_STAT_RATE (n : Nat) : Fld := ⟨R.FBK_EMU_STAT n, 0, 16⟩

-- R267, spec/07_feedback_sensing.md
def R.FBK_AIN_CFG (n : Nat) : Nat := 0x94000 + n * 0x20
def F.FBK_AIN_CFG_OPEN (n : Nat) : Fld := ⟨R.FBK_AIN_CFG n, 16, 8⟩
def F.FBK_AIN_CFG_TC (n : Nat) : Fld := ⟨R.FBK_AIN_CFG n, 8, 4⟩
def F.FBK_AIN_CFG_RANGE (n : Nat) : Fld := ⟨R.FBK_AIN_CFG n, 0, 2⟩
def R.FBK_AIN_GAIN (n : Nat) : Nat := 0x94004 + n * 0x20
def F.FBK_AIN_GAIN (n : Nat) : Fld := ⟨R.FBK_AIN_GAIN n, 0, 32⟩
def R.FBK_AIN_OFS (n : Nat) : Nat := 0x94008 + n * 0x20
def F.FBK_AIN_OFS (n : Nat) : Fld := ⟨R.FBK_AIN_OFS n, 0, 32⟩
def R.FBK_AIN_LIM_LO (n : Nat) : Nat := 0x9400C + n * 0x20
def F.FBK_AIN_LIM_LO (n : Nat) : Fld := ⟨R.FBK_AIN_LIM_LO n, 0, 32⟩
def R.FBK_AIN_LIM_HI (n : Nat) : Nat := 0x94010 + n * 0x20
def F.FBK_AIN_LIM_HI (n : Nat) : Fld := ⟨R.FBK_AIN_LIM_HI n, 0, 32⟩
def R.FBK_AIN_VAL (n : Nat) : Nat := 0x94014 + n * 0x20
def F.FBK_AIN_VAL (n : Nat) : Fld := ⟨R.FBK_AIN_VAL n, 0, 32⟩
def R.FBK_AIN_RAW (n : Nat) : Nat := 0x94018 + n * 0x20
def F.FBK_AIN_RAW (n : Nat) : Fld := ⟨R.FBK_AIN_RAW n, 0, 16⟩
def R.FBK_AIN_STAT (n : Nat) : Nat := 0x9401C + n * 0x20
def F.FBK_AIN_STAT_SHUNT_OPEN (n : Nat) : Fld := ⟨R.FBK_AIN_STAT n, 2, 1⟩
def F.FBK_AIN_STAT_OPEN (n : Nat) : Fld := ⟨R.FBK_AIN_STAT n, 1, 1⟩
def F.FBK_AIN_STAT_RANGE (n : Nat) : Fld := ⟨R.FBK_AIN_STAT n, 0, 1⟩

-- R268, spec/07_feedback_sensing.md
def R.FBK_FUS_CTRL : Nat := 0x95000
def F.FBK_FUS_CTRL_BLEND : Fld := ⟨R.FBK_FUS_CTRL, 16, 16⟩
def F.FBK_FUS_CTRL_EN : Fld := ⟨R.FBK_FUS_CTRL, 0, 1⟩
def R.FBK_FUS_DIS : Nat := 0x95004
def F.FBK_FUS_DIS_DIS_T : Fld := ⟨R.FBK_FUS_DIS, 16, 16⟩
def F.FBK_FUS_DIS_DIS_ABS : Fld := ⟨R.FBK_FUS_DIS, 0, 16⟩
def R.FBK_FUS_REL : Nat := 0x95008
def F.FBK_FUS_REL_DIS_REL : Fld := ⟨R.FBK_FUS_REL, 0, 8⟩
def R.FBK_FUS_OUT : Nat := 0x9500C
def F.FBK_FUS_OUT : Fld := ⟨R.FBK_FUS_OUT, 0, 16⟩
def R.FBK_FUS_STAT : Nat := 0x95010
def F.FBK_FUS_STAT_SEL : Fld := ⟨R.FBK_FUS_STAT, 16, 6⟩
def F.FBK_FUS_STAT_SRCVALID : Fld := ⟨R.FBK_FUS_STAT, 8, 6⟩
def F.FBK_FUS_STAT_BLEND : Fld := ⟨R.FBK_FUS_STAT, 2, 1⟩
def F.FBK_FUS_STAT_DIS : Fld := ⟨R.FBK_FUS_STAT, 1, 1⟩
def F.FBK_FUS_STAT_VALID : Fld := ⟨R.FBK_FUS_STAT, 0, 1⟩
def R.FBK_FUS_SWITCH : Nat := 0x95014
def F.FBK_FUS_SWITCH : Fld := ⟨R.FBK_FUS_SWITCH, 0, 16⟩
def R.FBK_FUS_SRC_CFG (n : Nat) : Nat := 0x95040 + n * 0x10
def F.FBK_FUS_SRC_CFG_INST (n : Nat) : Fld := ⟨R.FBK_FUS_SRC_CFG n, 24, 8⟩
def F.FBK_FUS_SRC_CFG_QMIN (n : Nat) : Fld := ⟨R.FBK_FUS_SRC_CFG n, 16, 3⟩
def F.FBK_FUS_SRC_CFG_PRIO (n : Nat) : Fld := ⟨R.FBK_FUS_SRC_CFG n, 12, 3⟩
def F.FBK_FUS_SRC_CFG_TYPE (n : Nat) : Fld := ⟨R.FBK_FUS_SRC_CFG n, 8, 3⟩
def F.FBK_FUS_SRC_CFG_EN (n : Nat) : Fld := ⟨R.FBK_FUS_SRC_CFG n, 0, 1⟩
def R.FBK_FUS_SRC_AGE (n : Nat) : Nat := 0x95044 + n * 0x10
def F.FBK_FUS_SRC_AGE_AGE (n : Nat) : Fld := ⟨R.FBK_FUS_SRC_AGE n, 0, 16⟩
def R.FBK_FUS_SRC_VAL (n : Nat) : Nat := 0x95048 + n * 0x10
def F.FBK_FUS_SRC_VAL_VALID (n : Nat) : Fld := ⟨R.FBK_FUS_SRC_VAL n, 16, 1⟩
def F.FBK_FUS_SRC_VAL_V (n : Nat) : Fld := ⟨R.FBK_FUS_SRC_VAL n, 0, 16⟩

-- R309, spec/08_geometry_ashlar_map.md
def R.GEO_SUMMARY : Nat := 0xA0024
def F.GEO_SUMMARY_RES : Fld := ⟨R.GEO_SUMMARY, 16, 14⟩
def F.GEO_SUMMARY_EN : Fld := ⟨R.GEO_SUMMARY, 8, 8⟩
def F.GEO_SUMMARY_CROSS : Fld := ⟨R.GEO_SUMMARY, 0, 8⟩

-- R310, spec/08_geometry_ashlar_map.md
def R.GEO_MAP_CFG : Nat := 0xA1000
def F.GEO_MAP_CFG_NSLOT : Fld := ⟨R.GEO_MAP_CFG, 16, 16⟩
def F.GEO_MAP_CFG_NLM1 : Fld := ⟨R.GEO_MAP_CFG, 4, 2⟩
def F.GEO_MAP_CFG_CS : Fld := ⟨R.GEO_MAP_CFG, 0, 2⟩
def R.GEO_MAP_ORG_LAT_LO : Nat := 0xA1004
def F.GEO_MAP_ORG_LAT_LO : Fld := ⟨R.GEO_MAP_ORG_LAT_LO, 0, 32⟩
def R.GEO_MAP_ORG_LAT_HI : Nat := 0xA1008
def F.GEO_MAP_ORG_LAT_HI : Fld := ⟨R.GEO_MAP_ORG_LAT_HI, 0, 32⟩
def R.GEO_MAP_ORG_LON_LO : Nat := 0xA100C
def F.GEO_MAP_ORG_LON_LO : Fld := ⟨R.GEO_MAP_ORG_LON_LO, 0, 32⟩
def R.GEO_MAP_ORG_LON_HI : Nat := 0xA1010
def F.GEO_MAP_ORG_LON_HI : Fld := ⟨R.GEO_MAP_ORG_LON_HI, 0, 32⟩
def R.GEO_MAP_EXT_X : Nat := 0xA1014
def F.GEO_MAP_EXT_X_TXMAX : Fld := ⟨R.GEO_MAP_EXT_X, 16, 16⟩
def F.GEO_MAP_EXT_X_TXMIN : Fld := ⟨R.GEO_MAP_EXT_X, 0, 16⟩
def R.GEO_MAP_EXT_Y : Nat := 0xA1018
def F.GEO_MAP_EXT_Y_TYMAX : Fld := ⟨R.GEO_MAP_EXT_Y, 16, 16⟩
def F.GEO_MAP_EXT_Y_TYMIN : Fld := ⟨R.GEO_MAP_EXT_Y, 0, 16⟩
def R.GEO_MAP_PREF : Nat := 0xA101C
def F.GEO_MAP_PREF_REQ_RETRY : Fld := ⟨R.GEO_MAP_PREF, 16, 16⟩
def F.GEO_MAP_PREF_PREFETCH : Fld := ⟨R.GEO_MAP_PREF, 0, 16⟩
def R.GEO_MAP_CMD : Nat := 0xA1020
def F.GEO_MAP_CMD : Fld := ⟨R.GEO_MAP_CMD, 0, 4⟩
def R.GEO_MAP_STAT : Nat := 0xA1024
def F.GEO_MAP_STAT_FLUSH_BUSY : Fld := ⟨R.GEO_MAP_STAT, 31, 1⟩
def F.GEO_MAP_STAT_FENCE_BUSY : Fld := ⟨R.GEO_MAP_STAT, 30, 1⟩
def F.GEO_MAP_STAT_PLANE : Fld := ⟨R.GEO_MAP_STAT, 29, 1⟩
def F.GEO_MAP_STAT_RES : Fld := ⟨R.GEO_MAP_STAT, 0, 14⟩
def R.GEO_DIR_SEL : Nat := 0xA1028
def F.GEO_DIR_SEL : Fld := ⟨R.GEO_DIR_SEL, 0, 14⟩
def R.GEO_DIR_TILE : Nat := 0xA102C
def F.GEO_DIR_TILE_TY : Fld := ⟨R.GEO_DIR_TILE, 16, 16⟩
def F.GEO_DIR_TILE_TX : Fld := ⟨R.GEO_DIR_TILE, 0, 16⟩
def R.GEO_DIR_STAT : Nat := 0xA1030
def F.GEO_DIR_STAT_STATE : Fld := ⟨R.GEO_DIR_STAT, 30, 2⟩
def F.GEO_DIR_STAT_DIRTY : Fld := ⟨R.GEO_DIR_STAT, 29, 1⟩
def F.GEO_DIR_STAT_NEEDED : Fld := ⟨R.GEO_DIR_STAT, 28, 1⟩
def F.GEO_DIR_STAT_LOST : Fld := ⟨R.GEO_DIR_STAT, 27, 1⟩
def R.GEO_FENCE_ERR : Nat := 0xA1034
def F.GEO_FENCE_ERR_VALID : Fld := ⟨R.GEO_FENCE_ERR, 15, 1⟩
def F.GEO_FENCE_ERR_N : Fld := ⟨R.GEO_FENCE_ERR, 0, 6⟩
def R.GEO_ANT_A_X : Nat := 0xA1040
def F.GEO_ANT_A_X : Fld := ⟨R.GEO_ANT_A_X, 0, 32⟩
def R.GEO_ANT_A_Y : Nat := 0xA1044
def F.GEO_ANT_A_Y : Fld := ⟨R.GEO_ANT_A_Y, 0, 32⟩
def R.GEO_ANT_A_Z : Nat := 0xA1048
def F.GEO_ANT_A_Z : Fld := ⟨R.GEO_ANT_A_Z, 0, 32⟩
def R.GEO_ANT_B_X : Nat := 0xA104C
def F.GEO_ANT_B_X : Fld := ⟨R.GEO_ANT_B_X, 0, 32⟩
def R.GEO_ANT_B_Y : Nat := 0xA1050
def F.GEO_ANT_B_Y : Fld := ⟨R.GEO_ANT_B_Y, 0, 32⟩
def R.GEO_ANT_B_Z : Nat := 0xA1054
def F.GEO_ANT_B_Z : Fld := ⟨R.GEO_ANT_B_Z, 0, 32⟩
def R.GEO_CHUNK_CFG : Nat := 0xA1058
def F.GEO_CHUNK_CFG_EN : Fld := ⟨R.GEO_CHUNK_CFG, 31, 1⟩
def F.GEO_CHUNK_CFG_MAXREC : Fld := ⟨R.GEO_CHUNK_CFG, 16, 8⟩
def F.GEO_CHUNK_CFG_CHUNK_T : Fld := ⟨R.GEO_CHUNK_CFG, 0, 16⟩
def R.GEO_CONF_WAIT : Nat := 0xA105C
def F.GEO_CONF_WAIT_CONF_WAIT : Fld := ⟨R.GEO_CONF_WAIT, 0, 16⟩
def R.GEO_CHUNK_SEQ : Nat := 0xA1060
def F.GEO_CHUNK_SEQ : Fld := ⟨R.GEO_CHUNK_SEQ, 0, 32⟩
def R.GEO_CNT_MISSW : Nat := 0xA1064
def F.GEO_CNT_MISSW : Fld := ⟨R.GEO_CNT_MISSW, 0, 16⟩
def R.GEO_CNT_BADLOAD : Nat := 0xA1068
def F.GEO_CNT_BADLOAD : Fld := ⟨R.GEO_CNT_BADLOAD, 0, 16⟩
def R.GEO_CNT_DUPLOAD : Nat := 0xA106C
def F.GEO_CNT_DUPLOAD : Fld := ⟨R.GEO_CNT_DUPLOAD, 0, 16⟩
def R.GEO_CNT_RECLOST : Nat := 0xA1070
def F.GEO_CNT_RECLOST : Fld := ⟨R.GEO_CNT_RECLOST, 0, 16⟩
def R.GEO_CNT_NOPOSE : Nat := 0xA1074
def F.GEO_CNT_NOPOSE : Fld := ⟨R.GEO_CNT_NOPOSE, 0, 16⟩
def R.GEO_DISC : Nat := 0xA1078
def F.GEO_DISC : Fld := ⟨R.GEO_DISC, 0, 16⟩

-- R313, spec/08_geometry_ashlar_map.md
def R.GEO_PT_CTRL (n : Nat) : Nat := 0xA2000 + n * 0x40
def F.GEO_PT_CTRL_EN (n : Nat) : Fld := ⟨R.GEO_PT_CTRL n, 8, 1⟩
def F.GEO_PT_CTRL_LAYER (n : Nat) : Fld := ⟨R.GEO_PT_CTRL n, 0, 2⟩
def R.GEO_PT_BIND (n : Nat) : Nat := 0xA2004 + n * 0x40
def F.GEO_PT_BIND_KIND (n : Nat) : Fld := ⟨R.GEO_PT_BIND n, 30, 2⟩
def F.GEO_PT_BIND_INST (n : Nat) : Fld := ⟨R.GEO_PT_BIND n, 16, 8⟩
def F.GEO_PT_BIND_BITOFS (n : Nat) : Fld := ⟨R.GEO_PT_BIND n, 6, 9⟩
def F.GEO_PT_BIND_WIDTH (n : Nat) : Fld := ⟨R.GEO_PT_BIND n, 3, 3⟩
def R.GEO_PT_X (n : Nat) : Nat := 0xA2008 + n * 0x40
def F.GEO_PT_X (n : Nat) : Fld := ⟨R.GEO_PT_X n, 0, 32⟩
def R.GEO_PT_Y (n : Nat) : Nat := 0xA200C + n * 0x40
def F.GEO_PT_Y (n : Nat) : Fld := ⟨R.GEO_PT_Y n, 0, 32⟩
def R.GEO_PT_Z (n : Nat) : Nat := 0xA2010 + n * 0x40
def F.GEO_PT_Z (n : Nat) : Fld := ⟨R.GEO_PT_Z n, 0, 32⟩
def R.GEO_PT_WIDTH (n : Nat) : Nat := 0xA2014 + n * 0x40
def F.GEO_PT_WIDTH_W (n : Nat) : Fld := ⟨R.GEO_PT_WIDTH n, 0, 16⟩
def R.GEO_PT_STAT (n : Nat) : Nat := 0xA2018 + n * 0x40
def F.GEO_PT_STAT_VALID (n : Nat) : Fld := ⟨R.GEO_PT_STAT n, 31, 1⟩
def F.GEO_PT_STAT_OFFMAP (n : Nat) : Fld := ⟨R.GEO_PT_STAT n, 30, 1⟩
def F.GEO_PT_STAT_PQ (n : Nat) : Fld := ⟨R.GEO_PT_STAT n, 24, 3⟩
def F.GEO_PT_STAT_INFERRED (n : Nat) : Fld := ⟨R.GEO_PT_STAT n, 18, 1⟩
def F.GEO_PT_STAT_CONF_CLOSE (n : Nat) : Fld := ⟨R.GEO_PT_STAT n, 17, 1⟩
def F.GEO_PT_STAT_CONF_OPEN (n : Nat) : Fld := ⟨R.GEO_PT_STAT n, 16, 1⟩
def F.GEO_PT_STAT_CROSS (n : Nat) : Fld := ⟨R.GEO_PT_STAT n, 0, 2⟩
def R.GEO_PT_GE (n : Nat) : Nat := 0xA201C + n * 0x40
def F.GEO_PT_GE (n : Nat) : Fld := ⟨R.GEO_PT_GE n, 0, 32⟩
def R.GEO_PT_GN (n : Nat) : Nat := 0xA2020 + n * 0x40
def F.GEO_PT_GN (n : Nat) : Fld := ⟨R.GEO_PT_GN n, 0, 32⟩
def R.GEO_PT_CELLS (n : Nat) : Nat := 0xA2024 + n * 0x40
def F.GEO_PT_CELLS (n : Nat) : Fld := ⟨R.GEO_PT_CELLS n, 0, 32⟩
def R.GEO_PT_OVL (n : Nat) : Nat := 0xA2028 + n * 0x40
def F.GEO_PT_OVL (n : Nat) : Fld := ⟨R.GEO_PT_OVL n, 0, 32⟩
def R.GEO_PT_EXCL (n : Nat) : Nat := 0xA202C + n * 0x40
def F.GEO_PT_EXCL (n : Nat) : Fld := ⟨R.GEO_PT_EXCL n, 0, 32⟩
def R.GEO_PT_CANVAL (n : Nat) : Nat := 0xA2030 + n * 0x40
def F.GEO_PT_CANVAL_OFFVAL (n : Nat) : Fld := ⟨R.GEO_PT_CANVAL n, 8, 8⟩
def F.GEO_PT_CANVAL_ONVAL (n : Nat) : Fld := ⟨R.GEO_PT_CANVAL n, 0, 8⟩

-- R316, spec/08_geometry_ashlar_map.md
def R.GEO_FENCE_CTRL (n : Nat) : Nat := 0xA4000 + n * 0x10
def F.GEO_FENCE_CTRL_EN (n : Nat) : Fld := ⟨R.GEO_FENCE_CTRL n, 31, 1⟩
def F.GEO_FENCE_CTRL_COUNT (n : Nat) : Fld := ⟨R.GEO_FENCE_CTRL n, 16, 13⟩
def F.GEO_FENCE_CTRL_FIRST (n : Nat) : Fld := ⟨R.GEO_FENCE_CTRL n, 0, 12⟩
def R.GEO_VTX_E (n : Nat) : Nat := 0xA8000 + n * 8
def F.GEO_VTX_E (n : Nat) : Fld := ⟨R.GEO_VTX_E n, 0, 32⟩
def R.GEO_VTX_N (n : Nat) : Nat := 0xA8004 + n * 8
def F.GEO_VTX_N (n : Nat) : Fld := ⟨R.GEO_VTX_N n, 0, 32⟩

-- R354, spec/09_stride_scheduler.md
def R.STR_SUMMARY : Nat := 0xB0024
def F.STR_SUMMARY_MODE : Fld := ⟨R.STR_SUMMARY, 24, 3⟩
def F.STR_SUMMARY_SATS : Fld := ⟨R.STR_SUMMARY, 16, 6⟩
def F.STR_SUMMARY_ON : Fld := ⟨R.STR_SUMMARY, 0, 11⟩

-- R355, spec/09_stride_scheduler.md
def R.STR_CFG : Nat := 0xB1000
def F.STR_CFG_QREQ : Fld := ⟨R.STR_CFG, 28, 3⟩
def F.STR_CFG_LOSS_ACTION : Fld := ⟨R.STR_CFG, 24, 2⟩
def F.STR_CFG_STOP_ACTION : Fld := ⟨R.STR_CFG, 20, 2⟩
def F.STR_CFG_REV_STOP : Fld := ⟨R.STR_CFG, 16, 1⟩
def F.STR_CFG_UNK : Fld := ⟨R.STR_CFG, 12, 1⟩
def F.STR_CFG_Q_SAT : Fld := ⟨R.STR_CFG, 0, 6⟩
def R.STR_SPEED : Nat := 0xB1004
def F.STR_SPEED_SPEED_RESUME : Fld := ⟨R.STR_SPEED, 16, 16⟩
def F.STR_SPEED_SPEED_MIN : Fld := ⟨R.STR_SPEED, 0, 16⟩
def R.STR_DR : Nat := 0xB1008
def F.STR_DR_DR_MAX : Fld := ⟨R.STR_DR, 0, 16⟩
def R.STR_LATE : Nat := 0xB100C
def F.STR_LATE_ON_LATE_MAX : Fld := ⟨R.STR_LATE, 0, 16⟩
def R.STR_HORIZON : Nat := 0xB1010
def F.STR_HORIZON_HORIZON : Fld := ⟨R.STR_HORIZON, 0, 16⟩
def R.STR_STAGGER : Nat := 0xB1014
def F.STR_STAGGER_STAGGER_MAX : Fld := ⟨R.STR_STAGGER, 16, 16⟩
def F.STR_STAGGER_BUDGET : Fld := ⟨R.STR_STAGGER, 0, 16⟩
def R.STR_TC : Nat := 0xB1018
def F.STR_TC_REF_Y : Fld := ⟨R.STR_TC, 0, 16⟩
def R.STR_DUTY_REM : Nat := 0xB101C
def F.STR_DUTY_REM_DUTY_DB : Fld := ⟨R.STR_DUTY_REM, 16, 16⟩
def F.STR_DUTY_REM_DUTY_INT : Fld := ⟨R.STR_DUTY_REM, 0, 16⟩
def R.STR_STATE : Nat := 0xB1020
def F.STR_STATE_DR : Fld := ⟨R.STR_STATE, 16, 16⟩
def F.STR_STATE_MODE : Fld := ⟨R.STR_STATE, 0, 3⟩
def R.STR_CNT_CMD : Nat := 0xB1024
def F.STR_CNT_CMD : Fld := ⟨R.STR_CNT_CMD, 0, 32⟩
def R.STR_CNT_DROP : Nat := 0xB1028
def F.STR_CNT_DROP : Fld := ⟨R.STR_CNT_DROP, 0, 16⟩
def R.STR_CNT_LATE : Nat := 0xB102C
def F.STR_CNT_LATE_SKIP : Fld := ⟨R.STR_CNT_LATE, 16, 16⟩
def F.STR_CNT_LATE_LATE : Fld := ⟨R.STR_CNT_LATE, 0, 16⟩
def R.STR_CNT_NOBOOST : Nat := 0xB1030
def F.STR_CNT_NOBOOST : Fld := ⟨R.STR_CNT_NOBOOST, 0, 16⟩
def R.STR_CNT_HORIZON : Nat := 0xB1034
def F.STR_CNT_HORIZON : Fld := ⟨R.STR_CNT_HORIZON, 0, 16⟩
def R.STR_DISC : Nat := 0xB1038
def F.STR_DISC : Fld := ⟨R.STR_DISC, 0, 16⟩
def R.STR_FLOW_CFG (n : Nat) : Nat := 0xB1040 + n * 0x10
def F.STR_FLOW_CFG_TYPE (n : Nat) : Fld := ⟨R.STR_FLOW_CFG n, 28, 4⟩
def F.STR_FLOW_CFG_INST (n : Nat) : Fld := ⟨R.STR_FLOW_CFG n, 16, 4⟩
def F.STR_FLOW_CFG_FLOW_MIN (n : Nat) : Fld := ⟨R.STR_FLOW_CFG n, 0, 16⟩
def R.STR_FLOW_FIX (n : Nat) : Nat := 0xB1044 + n * 0x10
def F.STR_FLOW_FIX (n : Nat) : Fld := ⟨R.STR_FLOW_FIX n, 0, 24⟩
def R.STR_FLOW_VAL (n : Nat) : Nat := 0xB1048 + n * 0x10
def F.STR_FLOW_VAL (n : Nat) : Fld := ⟨R.STR_FLOW_VAL n, 0, 24⟩
def R.STR_LAYER_DUTY (n : Nat) : Nat := 0xB1080 + n * 0x10
def F.STR_LAYER_DUTY (n : Nat) : Fld := ⟨R.STR_LAYER_DUTY n, 0, 16⟩
def R.STR_LAYER_ON (n : Nat) : Nat := 0xB1084 + n * 0x10
def F.STR_LAYER_ON (n : Nat) : Fld := ⟨R.STR_LAYER_ON n, 0, 11⟩
def R.STR_LAYER_DSUM (n : Nat) : Nat := 0xB1088 + n * 0x10
def F.STR_LAYER_DSUM (n : Nat) : Fld := ⟨R.STR_LAYER_DSUM n, 0, 32⟩
def R.STR_LAYER_WIDTH (n : Nat) : Nat := 0xB108C + n * 0x10
def F.STR_LAYER_WIDTH (n : Nat) : Fld := ⟨R.STR_LAYER_WIDTH n, 0, 32⟩
def R.STR_SP_SEL : Nat := 0xB10C0
def F.STR_SP_SEL : Fld := ⟨R.STR_SP_SEL, 0, 10⟩
def R.STR_SP_STAT : Nat := 0xB10C4
def F.STR_SP_STAT : Fld := ⟨R.STR_SP_STAT, 0, 32⟩
def R.STR_SP_LAT : Nat := 0xB10C8
def F.STR_SP_LAT_LC : Fld := ⟨R.STR_SP_LAT, 16, 16⟩
def F.STR_SP_LAT_LO : Fld := ⟨R.STR_SP_LAT, 0, 16⟩
def R.STR_SAT_OK_LO : Nat := 0xB10D0
def F.STR_SAT_OK_LO : Fld := ⟨R.STR_SAT_OK_LO, 0, 32⟩
def R.STR_SAT_OK_HI : Nat := 0xB10D4
def F.STR_SAT_OK_HI : Fld := ⟨R.STR_SAT_OK_HI, 0, 32⟩
def R.STR_SAT_CFG : Nat := 0xB10D8
def F.STR_SAT_CFG_RELAY : Fld := ⟨R.STR_SAT_CFG, 16, 4⟩
def F.STR_SAT_CFG_SAT_TBOOST : Fld := ⟨R.STR_SAT_CFG, 0, 16⟩
def R.STR_SAT_BACKLOG : Nat := 0xB10DC
def F.STR_SAT_BACKLOG_SAT : Fld := ⟨R.STR_SAT_BACKLOG, 24, 6⟩
def F.STR_SAT_BACKLOG_DEPTH : Fld := ⟨R.STR_SAT_BACKLOG, 0, 16⟩

-- R357, spec/09_stride_scheduler.md
def R.STR_PT_CTRL (n : Nat) : Nat := 0xB2000 + n * 0x40
def F.STR_PT_CTRL_LAT_MS (n : Nat) : Fld := ⟨R.STR_PT_CTRL n, 24, 1⟩
def F.STR_PT_CTRL_FORCE (n : Nat) : Fld := ⟨R.STR_PT_CTRL n, 16, 2⟩
def F.STR_PT_CTRL_TC_EN (n : Nat) : Fld := ⟨R.STR_PT_CTRL n, 12, 1⟩
def F.STR_PT_CTRL_FSRC (n : Nat) : Fld := ⟨R.STR_PT_CTRL n, 8, 3⟩
def R.STR_PT_THR (n : Nat) : Nat := 0xB2004 + n * 0x40
def F.STR_PT_THR_EXCL_TOL (n : Nat) : Fld := ⟨R.STR_PT_THR n, 16, 8⟩
def F.STR_PT_THR_ON_THRESH (n : Nat) : Fld := ⟨R.STR_PT_THR n, 8, 8⟩
def F.STR_PT_THR_OFF_THRESH (n : Nat) : Fld := ⟨R.STR_PT_THR n, 0, 8⟩
def R.STR_PT_HYST (n : Nat) : Nat := 0xB2008 + n * 0x40
def F.STR_PT_HYST_MIN_OFF (n : Nat) : Fld := ⟨R.STR_PT_HYST n, 16, 16⟩
def F.STR_PT_HYST_MIN_ON (n : Nat) : Fld := ⟨R.STR_PT_HYST n, 0, 16⟩
def R.STR_PT_LAT_CFG (n : Nat) : Nat := 0xB200C + n * 0x40
def F.STR_PT_LAT_CFG_LAT_C (n : Nat) : Fld := ⟨R.STR_PT_LAT_CFG n, 16, 16⟩
def F.STR_PT_LAT_CFG_LAT_O (n : Nat) : Fld := ⟨R.STR_PT_LAT_CFG n, 0, 16⟩
def R.STR_PT_HYD (n : Nat) : Nat := 0xB2010 + n * 0x40
def F.STR_PT_HYD_HYD_VOL (n : Nat) : Fld := ⟨R.STR_PT_HYD n, 16, 16⟩
def F.STR_PT_HYD_HYD_FIX (n : Nat) : Fld := ⟨R.STR_PT_HYD n, 0, 16⟩
def R.STR_PT_LEAD_ON (n : Nat) : Nat := 0xB2014 + n * 0x40
def F.STR_PT_LEAD_ON (n : Nat) : Fld := ⟨R.STR_PT_LEAD_ON n, 0, 32⟩
def R.STR_PT_LEAD_OFF (n : Nat) : Nat := 0xB2018 + n * 0x40
def F.STR_PT_LEAD_OFF (n : Nat) : Fld := ⟨R.STR_PT_LEAD_OFF n, 0, 32⟩
def R.STR_PT_STAT (n : Nat) : Nat := 0xB201C + n * 0x40
def F.STR_PT_STAT_VALID (n : Nat) : Fld := ⟨R.STR_PT_STAT n, 31, 1⟩
def F.STR_PT_STAT_SKIP (n : Nat) : Fld := ⟨R.STR_PT_STAT n, 30, 1⟩
def F.STR_PT_STAT_NOBOOST (n : Nat) : Fld := ⟨R.STR_PT_STAT n, 29, 1⟩
def F.STR_PT_STAT_DUTY_SAT (n : Nat) : Fld := ⟨R.STR_PT_STAT n, 28, 1⟩
def F.STR_PT_STAT_LATSRC (n : Nat) : Fld := ⟨R.STR_PT_STAT n, 26, 2⟩
def F.STR_PT_STAT_OFFWHY (n : Nat) : Fld := ⟨R.STR_PT_STAT n, 24, 2⟩
def F.STR_PT_STAT_PLAN (n : Nat) : Fld := ⟨R.STR_PT_STAT n, 0, 2⟩
def R.STR_PT_DUTY (n : Nat) : Nat := 0xB2020 + n * 0x40
def F.STR_PT_DUTY_SCALE (n : Nat) : Fld := ⟨R.STR_PT_DUTY n, 16, 16⟩
def F.STR_PT_DUTY_DUTY (n : Nat) : Fld := ⟨R.STR_PT_DUTY n, 0, 16⟩
def R.STR_PT_NEXT_LO (n : Nat) : Nat := 0xB2024 + n * 0x40
def F.STR_PT_NEXT_LO (n : Nat) : Fld := ⟨R.STR_PT_NEXT_LO n, 0, 32⟩
def R.STR_PT_NEXT_HI (n : Nat) : Nat := 0xB2028 + n * 0x40
def F.STR_PT_NEXT_HI (n : Nat) : Fld := ⟨R.STR_PT_NEXT_HI n, 0, 32⟩
def R.STR_PT_CNT_ON (n : Nat) : Nat := 0xB202C + n * 0x40
def F.STR_PT_CNT_ON (n : Nat) : Fld := ⟨R.STR_PT_CNT_ON n, 0, 32⟩
def R.STR_PT_LATE (n : Nat) : Nat := 0xB2030 + n * 0x40
def F.STR_PT_LATE_SKIP (n : Nat) : Fld := ⟨R.STR_PT_LATE n, 16, 16⟩
def F.STR_PT_LATE_LATE (n : Nat) : Fld := ⟨R.STR_PT_LATE n, 0, 16⟩
def R.STR_PT_LATE_MAX (n : Nat) : Nat := 0xB2034 + n * 0x40
def F.STR_PT_LATE_MAX (n : Nat) : Fld := ⟨R.STR_PT_LATE_MAX n, 0, 32⟩
def R.STR_PT_STAG (n : Nat) : Nat := 0xB2038 + n * 0x40
def F.STR_PT_STAG_LAST (n : Nat) : Fld := ⟨R.STR_PT_STAG n, 16, 16⟩
def F.STR_PT_STAG_MAX (n : Nat) : Fld := ⟨R.STR_PT_STAG n, 0, 16⟩

-- R360, spec/09_stride_scheduler.md
def R.STR_SP_CTRL (n : Nat) : Nat := 0xB8000 + n * 0x20
def F.STR_SP_CTRL_EN (n : Nat) : Fld := ⟨R.STR_SP_CTRL n, 31, 1⟩
def F.STR_SP_CTRL_SAT (n : Nat) : Fld := ⟨R.STR_SP_CTRL n, 24, 6⟩
def F.STR_SP_CTRL_KIND (n : Nat) : Fld := ⟨R.STR_SP_CTRL n, 23, 1⟩
def F.STR_SP_CTRL_INST (n : Nat) : Fld := ⟨R.STR_SP_CTRL n, 16, 7⟩
def F.STR_SP_CTRL_LAYER (n : Nat) : Fld := ⟨R.STR_SP_CTRL n, 12, 2⟩
def F.STR_SP_CTRL_TC_EN (n : Nat) : Fld := ⟨R.STR_SP_CTRL n, 11, 1⟩
def F.STR_SP_CTRL_FSRC (n : Nat) : Fld := ⟨R.STR_SP_CTRL n, 8, 3⟩
def F.STR_SP_CTRL_LAT_MS (n : Nat) : Fld := ⟨R.STR_SP_CTRL n, 7, 1⟩
def R.STR_SP_X (n : Nat) : Nat := 0xB8004 + n * 0x20
def F.STR_SP_X (n : Nat) : Fld := ⟨R.STR_SP_X n, 0, 32⟩
def R.STR_SP_Y (n : Nat) : Nat := 0xB8008 + n * 0x20
def F.STR_SP_Y (n : Nat) : Fld := ⟨R.STR_SP_Y n, 0, 32⟩
def R.STR_SP_ZW (n : Nat) : Nat := 0xB800C + n * 0x20
def F.STR_SP_ZW_W (n : Nat) : Fld := ⟨R.STR_SP_ZW n, 16, 16⟩
def F.STR_SP_ZW_Z (n : Nat) : Fld := ⟨R.STR_SP_ZW n, 0, 16⟩
def R.STR_SP_THR (n : Nat) : Nat := 0xB8010 + n * 0x20
def F.STR_SP_THR_EXCL_TOL (n : Nat) : Fld := ⟨R.STR_SP_THR n, 16, 8⟩
def F.STR_SP_THR_ON_THRESH (n : Nat) : Fld := ⟨R.STR_SP_THR n, 8, 8⟩
def F.STR_SP_THR_OFF_THRESH (n : Nat) : Fld := ⟨R.STR_SP_THR n, 0, 8⟩
def R.STR_SP_HYST (n : Nat) : Nat := 0xB8014 + n * 0x20
def F.STR_SP_HYST_MIN_OFF (n : Nat) : Fld := ⟨R.STR_SP_HYST n, 16, 16⟩
def F.STR_SP_HYST_MIN_ON (n : Nat) : Fld := ⟨R.STR_SP_HYST n, 0, 16⟩
def R.STR_SP_LAT_CFG (n : Nat) : Nat := 0xB8018 + n * 0x20
def F.STR_SP_LAT_CFG_LAT_C (n : Nat) : Fld := ⟨R.STR_SP_LAT_CFG n, 16, 16⟩
def F.STR_SP_LAT_CFG_LAT_O (n : Nat) : Fld := ⟨R.STR_SP_LAT_CFG n, 0, 16⟩
def R.STR_SP_HYD (n : Nat) : Nat := 0xB801C + n * 0x20
def F.STR_SP_HYD_HYD_VOL (n : Nat) : Fld := ⟨R.STR_SP_HYD n, 16, 16⟩
def F.STR_SP_HYD_HYD_FIX (n : Nat) : Fld := ⟨R.STR_SP_HYD n, 0, 16⟩

-- R400, spec/10_solenoid_drive.md
def R.SOL_EVT_HI : Nat := 0xC0024
def F.SOL_EVT_HI : Fld := ⟨R.SOL_EVT_HI, 0, 32⟩
def R.SOL_EVT_HI_EN : Nat := 0xC0028
def F.SOL_EVT_HI_EN : Fld := ⟨R.SOL_EVT_HI_EN, 0, 32⟩
def R.SOL_SUMMARY : Nat := 0xC002C
def F.SOL_SUMMARY_B : Fld := ⟨R.SOL_SUMMARY, 16, 7⟩
def F.SOL_SUMMARY_A : Fld := ⟨R.SOL_SUMMARY, 0, 7⟩
def R.SOL_DISC : Nat := 0xC0030
def F.SOL_DISC : Fld := ⟨R.SOL_DISC, 0, 16⟩

-- R401, spec/10_solenoid_drive.md
def R.SOL_DIE_BOOST (n : Nat) : Nat := 0xC1000 + n * 0x40
def F.SOL_DIE_BOOST_ADAPT (n : Nat) : Fld := ⟨R.SOL_DIE_BOOST n, 31, 1⟩
def F.SOL_DIE_BOOST_VMIN (n : Nat) : Fld := ⟨R.SOL_DIE_BOOST n, 16, 10⟩
def F.SOL_DIE_BOOST_VSET (n : Nat) : Fld := ⟨R.SOL_DIE_BOOST n, 0, 10⟩
def R.SOL_DIE_VB (n : Nat) : Nat := 0xC1004 + n * 0x40
def F.SOL_DIE_VB_TGT (n : Nat) : Fld := ⟨R.SOL_DIE_VB n, 16, 10⟩
def F.SOL_DIE_VB_MEAS (n : Nat) : Fld := ⟨R.SOL_DIE_VB n, 0, 10⟩
def R.SOL_DIE_ARB (n : Nat) : Nat := 0xC1008 + n * 0x40
def F.SOL_DIE_ARB_T_NOBOOST_MAX (n : Nat) : Fld := ⟨R.SOL_DIE_ARB n, 16, 16⟩
def F.SOL_DIE_ARB_BOOST_DEFER_MAX (n : Nat) : Fld := ⟨R.SOL_DIE_ARB n, 0, 16⟩
def R.SOL_DIE_PROT (n : Nat) : Nat := 0xC100C + n * 0x40
def F.SOL_DIE_PROT_OPEN_MA (n : Nat) : Fld := ⟨R.SOL_DIE_PROT n, 16, 16⟩
def F.SOL_DIE_PROT_THERM_DERATE (n : Nat) : Fld := ⟨R.SOL_DIE_PROT n, 0, 7⟩
def R.SOL_DIE_TJ (n : Nat) : Nat := 0xC1010 + n * 0x40
def F.SOL_DIE_TJ (n : Nat) : Fld := ⟨R.SOL_DIE_TJ n, 0, 16⟩
def R.SOL_DIE_STAT (n : Nat) : Nat := 0xC1014 + n * 0x40
def F.SOL_DIE_STAT_OV (n : Nat) : Fld := ⟨R.SOL_DIE_STAT n, 5, 1⟩
def F.SOL_DIE_STAT_UV (n : Nat) : Fld := ⟨R.SOL_DIE_STAT n, 4, 1⟩
def F.SOL_DIE_STAT_OFF140 (n : Nat) : Fld := ⟨R.SOL_DIE_STAT n, 2, 1⟩
def F.SOL_DIE_STAT_DERATE (n : Nat) : Fld := ⟨R.SOL_DIE_STAT n, 1, 1⟩
def F.SOL_DIE_STAT_LINK (n : Nat) : Fld := ⟨R.SOL_DIE_STAT n, 0, 1⟩
def R.SOL_DIE_CNT (n : Nat) : Nat := 0xC1018 + n * 0x40
def F.SOL_DIE_CNT_UV (n : Nat) : Fld := ⟨R.SOL_DIE_CNT n, 16, 16⟩
def F.SOL_DIE_CNT_OV (n : Nat) : Fld := ⟨R.SOL_DIE_CNT n, 0, 16⟩
def R.SOL_BANK_STAT (n : Nat) : Nat := 0xC1100 + n * 0x10
def F.SOL_BANK_STAT_VBANK (n : Nat) : Fld := ⟨R.SOL_BANK_STAT n, 16, 16⟩
def F.SOL_BANK_STAT_WAITS (n : Nat) : Fld := ⟨R.SOL_BANK_STAT n, 8, 3⟩
def F.SOL_BANK_STAT_RAIL (n : Nat) : Fld := ⟨R.SOL_BANK_STAT n, 4, 1⟩
def F.SOL_BANK_STAT_UV (n : Nat) : Fld := ⟨R.SOL_BANK_STAT n, 1, 1⟩
def F.SOL_BANK_STAT_OC (n : Nat) : Fld := ⟨R.SOL_BANK_STAT n, 0, 1⟩
def R.SOL_BANK_CTRL (n : Nat) : Nat := 0xC1104 + n * 0x10
def F.SOL_BANK_CTRL_CLR (n : Nat) : Fld := ⟨R.SOL_BANK_CTRL n, 0, 1⟩
def R.SOL_BANK_CNT (n : Nat) : Nat := 0xC1108 + n * 0x10
def F.SOL_BANK_CNT_NOBOOST (n : Nat) : Fld := ⟨R.SOL_BANK_CNT n, 16, 16⟩
def F.SOL_BANK_CNT_DEFER (n : Nat) : Fld := ⟨R.SOL_BANK_CNT n, 0, 16⟩

-- R403, spec/10_solenoid_drive.md
def R.SOL_CH_CTRL (n : Nat) : Nat := 0xC2000 + n * 0x40
def F.SOL_CH_CTRL_EN (n : Nat) : Fld := ⟨R.SOL_CH_CTRL n, 0, 1⟩
def R.SOL_CH_CFG (n : Nat) : Nat := 0xC2004 + n * 0x40
def F.SOL_CH_CFG_PAIR (n : Nat) : Fld := ⟨R.SOL_CH_CFG n, 16, 1⟩
def F.SOL_CH_CFG_SLOT (n : Nat) : Fld := ⟨R.SOL_CH_CFG n, 8, 5⟩
def F.SOL_CH_CFG_PSRC (n : Nat) : Fld := ⟨R.SOL_CH_CFG n, 4, 2⟩
def F.SOL_CH_CFG_CSRC (n : Nat) : Fld := ⟨R.SOL_CH_CFG n, 2, 1⟩
def F.SOL_CH_CFG_MODE (n : Nat) : Fld := ⟨R.SOL_CH_CFG n, 0, 2⟩
def R.SOL_CH_PWM (n : Nat) : Nat := 0xC2008 + n * 0x40
def F.SOL_CH_PWM_PER (n : Nat) : Fld := ⟨R.SOL_CH_PWM n, 0, 18⟩
def R.SOL_CH_DUTY (n : Nat) : Nat := 0xC200C + n * 0x40
def F.SOL_CH_DUTY_DUTY (n : Nat) : Fld := ⟨R.SOL_CH_DUTY n, 0, 10⟩
def R.SOL_CH_ISET (n : Nat) : Nat := 0xC2010 + n * 0x40
def F.SOL_CH_ISET_I_SET (n : Nat) : Fld := ⟨R.SOL_CH_ISET n, 0, 10⟩
def R.SOL_CH_DITHER (n : Nat) : Nat := 0xC2014 + n * 0x40
def F.SOL_CH_DITHER_DAMP (n : Nat) : Fld := ⟨R.SOL_CH_DITHER n, 16, 9⟩
def F.SOL_CH_DITHER_DFREQ (n : Nat) : Fld := ⟨R.SOL_CH_DITHER n, 0, 9⟩
def R.SOL_CH_DLIM (n : Nat) : Nat := 0xC2018 + n * 0x40
def F.SOL_CH_DLIM_WINDOW (n : Nat) : Fld := ⟨R.SOL_CH_DLIM n, 16, 10⟩
def F.SOL_CH_DLIM_LIMIT (n : Nat) : Fld := ⟨R.SOL_CH_DLIM n, 8, 7⟩
def F.SOL_CH_DLIM_ACTION (n : Nat) : Fld := ⟨R.SOL_CH_DLIM n, 7, 1⟩
def F.SOL_CH_DLIM_DERATE (n : Nat) : Fld := ⟨R.SOL_CH_DLIM n, 0, 7⟩
def R.SOL_CH_I2T (n : Nat) : Nat := 0xC201C + n * 0x40
def F.SOL_CH_I2T_HYST (n : Nat) : Fld := ⟨R.SOL_CH_I2T n, 24, 8⟩
def F.SOL_CH_I2T_I2T (n : Nat) : Fld := ⟨R.SOL_CH_I2T n, 0, 24⟩
def R.SOL_CH_CMD (n : Nat) : Nat := 0xC2020 + n * 0x40
def F.SOL_CH_CMD (n : Nat) : Fld := ⟨R.SOL_CH_CMD n, 0, 2⟩
def R.SOL_CH_STAT (n : Nat) : Nat := 0xC2024 + n * 0x40
def F.SOL_CH_STAT_FORCED (n : Nat) : Fld := ⟨R.SOL_CH_STAT n, 27, 1⟩
def F.SOL_CH_STAT_DERATE (n : Nat) : Fld := ⟨R.SOL_CH_STAT n, 26, 1⟩
def F.SOL_CH_STAT_LIMITED (n : Nat) : Fld := ⟨R.SOL_CH_STAT n, 25, 1⟩
def F.SOL_CH_STAT_SLOWED (n : Nat) : Fld := ⟨R.SOL_CH_STAT n, 24, 1⟩
def F.SOL_CH_STAT_NOBOOST (n : Nat) : Fld := ⟨R.SOL_CH_STAT n, 20, 1⟩
def F.SOL_CH_STAT_ILIM (n : Nat) : Fld := ⟨R.SOL_CH_STAT n, 19, 1⟩
def F.SOL_CH_STAT_DUTY_MIN (n : Nat) : Fld := ⟨R.SOL_CH_STAT n, 18, 1⟩
def F.SOL_CH_STAT_CYCLE_LATE (n : Nat) : Fld := ⟨R.SOL_CH_STAT n, 17, 1⟩
def F.SOL_CH_STAT_CMD (n : Nat) : Fld := ⟨R.SOL_CH_STAT n, 16, 1⟩
def F.SOL_CH_STAT_LASTDROP (n : Nat) : Fld := ⟨R.SOL_CH_STAT n, 8, 4⟩
def F.SOL_CH_STAT_PHASE (n : Nat) : Fld := ⟨R.SOL_CH_STAT n, 0, 3⟩
def R.SOL_CH_FLT (n : Nat) : Nat := 0xC2028 + n * 0x40
def F.SOL_CH_FLT_BANK (n : Nat) : Fld := ⟨R.SOL_CH_FLT n, 3, 1⟩
def F.SOL_CH_FLT_THERM (n : Nat) : Fld := ⟨R.SOL_CH_FLT n, 2, 1⟩
def F.SOL_CH_FLT_OPEN (n : Nat) : Fld := ⟨R.SOL_CH_FLT n, 1, 1⟩
def F.SOL_CH_FLT_SHORT (n : Nat) : Fld := ⟨R.SOL_CH_FLT n, 0, 1⟩
def R.SOL_CH_TMEAS (n : Nat) : Nat := 0xC202C + n * 0x40
def F.SOL_CH_TMEAS_DECAY (n : Nat) : Fld := ⟨R.SOL_CH_TMEAS n, 16, 16⟩
def F.SOL_CH_TMEAS_BOOST (n : Nat) : Fld := ⟨R.SOL_CH_TMEAS n, 0, 16⟩
def R.SOL_CH_IMEAS (n : Nat) : Nat := 0xC2030 + n * 0x40
def F.SOL_CH_IMEAS_DEFER (n : Nat) : Fld := ⟨R.SOL_CH_IMEAS n, 16, 16⟩
def F.SOL_CH_IMEAS_I (n : Nat) : Fld := ⟨R.SOL_CH_IMEAS n, 0, 10⟩
def R.SOL_CH_DUSE (n : Nat) : Nat := 0xC2034 + n * 0x40
def F.SOL_CH_DUSE_I2T (n : Nat) : Fld := ⟨R.SOL_CH_DUSE n, 16, 16⟩
def F.SOL_CH_DUSE_ON (n : Nat) : Fld := ⟨R.SOL_CH_DUSE n, 0, 10⟩
def R.SOL_CH_DROP (n : Nat) : Nat := 0xC2038 + n * 0x40
def F.SOL_CH_DROP (n : Nat) : Fld := ⟨R.SOL_CH_DROP n, 0, 16⟩
def R.SOL_CH_CYCLES (n : Nat) : Nat := 0xC203C + n * 0x40
def F.SOL_CH_CYCLES (n : Nat) : Fld := ⟨R.SOL_CH_CYCLES n, 0, 32⟩

-- R407, spec/10_solenoid_drive.md
def R.SOL_PROF_CUR (n : Nat) (m : Nat) : Nat := 0xC8000 + n * 0x1000 + m * 0x20
def F.SOL_PROF_CUR_I_PEAK (n : Nat) (m : Nat) : Fld := ⟨R.SOL_PROF_CUR n m, 16, 16⟩
def F.SOL_PROF_CUR_I_HOLD (n : Nat) (m : Nat) : Fld := ⟨R.SOL_PROF_CUR n m, 0, 16⟩
def R.SOL_PROF_TIME (n : Nat) (m : Nat) : Nat := 0xC8004 + n * 0x1000 + m * 0x20
def F.SOL_PROF_TIME_T_BOOST_MAX (n : Nat) (m : Nat) : Fld := ⟨R.SOL_PROF_TIME n m, 16, 16⟩
def F.SOL_PROF_TIME_T_PEAK (n : Nat) (m : Nat) : Fld := ⟨R.SOL_PROF_TIME n m, 0, 16⟩
def R.SOL_PROF_CHOP (n : Nat) (m : Nat) : Nat := 0xC8008 + n * 0x1000 + m * 0x20
def F.SOL_PROF_CHOP_DECAY (n : Nat) (m : Nat) : Fld := ⟨R.SOL_PROF_CHOP n m, 16, 1⟩
def F.SOL_PROF_CHOP_F_CHOP (n : Nat) (m : Nat) : Fld := ⟨R.SOL_PROF_CHOP n m, 0, 6⟩

-- R428, spec/11_armature_latency.md
def R.ARM_SUMMARY : Nat := 0xD0024
def F.ARM_SUMMARY_LOW : Fld := ⟨R.ARM_SUMMARY, 16, 7⟩
def F.ARM_SUMMARY_OK : Fld := ⟨R.ARM_SUMMARY, 0, 7⟩

-- R429, spec/11_armature_latency.md
def R.ARM_CFG : Nat := 0xD1000
def F.ARM_CFG_CONF_MIN : Fld := ⟨R.ARM_CFG, 24, 8⟩
def F.ARM_CFG_ALPHA : Fld := ⟨R.ARM_CFG, 16, 4⟩
def F.ARM_CFG_MISS_N : Fld := ⟨R.ARM_CFG, 8, 8⟩
def F.ARM_CFG_DRIFT_N : Fld := ⟨R.ARM_CFG, 0, 8⟩
def R.ARM_DRIFT : Nat := 0xD1004
def F.ARM_DRIFT_STEP_MAX : Fld := ⟨R.ARM_DRIFT, 16, 16⟩
def F.ARM_DRIFT_DRIFT : Fld := ⟨R.ARM_DRIFT, 0, 8⟩
def R.ARM_REF : Nat := 0xD1008
def F.ARM_REF_VREF_C : Fld := ⟨R.ARM_REF, 16, 10⟩
def F.ARM_REF_VREF_O : Fld := ⟨R.ARM_REF, 0, 10⟩
def R.ARM_CLOSE_WIN : Nat := 0xD100C
def F.ARM_CLOSE_WIN_CLOSE_WIN : Fld := ⟨R.ARM_CLOSE_WIN, 0, 16⟩
def R.ARM_CNT_MISS : Nat := 0xD1010
def F.ARM_CNT_MISS_CLOSE : Fld := ⟨R.ARM_CNT_MISS, 16, 16⟩
def F.ARM_CNT_MISS_OPEN : Fld := ⟨R.ARM_CNT_MISS, 0, 16⟩
def R.ARM_DISC : Nat := 0xD1014
def F.ARM_DISC : Fld := ⟨R.ARM_DISC, 0, 16⟩
def R.ARM_DIE_ADAPT (n : Nat) : Nat := 0xD1040 + n * 0x10
def F.ARM_DIE_ADAPT_T_TARGET (n : Nat) : Fld := ⟨R.ARM_DIE_ADAPT n, 16, 16⟩
def F.ARM_DIE_ADAPT_MARGIN (n : Nat) : Fld := ⟨R.ARM_DIE_ADAPT n, 8, 8⟩
def F.ARM_DIE_ADAPT_PERIOD (n : Nat) : Fld := ⟨R.ARM_DIE_ADAPT n, 0, 8⟩
def R.ARM_DIE_ADSTAT (n : Nat) : Nat := 0xD1044 + n * 0x10
def F.ARM_DIE_ADSTAT_LAT (n : Nat) : Fld := ⟨R.ARM_DIE_ADSTAT n, 16, 16⟩
def F.ARM_DIE_ADSTAT_VALID (n : Nat) : Fld := ⟨R.ARM_DIE_ADSTAT n, 7, 1⟩
def F.ARM_DIE_ADSTAT_CH (n : Nat) : Fld := ⟨R.ARM_DIE_ADSTAT n, 0, 7⟩

-- R430, spec/11_armature_latency.md
def R.ARM_CH_CTRL (n : Nat) : Nat := 0xD2000 + n * 0x40
def F.ARM_CH_CTRL_ADP (n : Nat) : Fld := ⟨R.ARM_CH_CTRL n, 8, 1⟩
def F.ARM_CH_CTRL_CLR (n : Nat) : Fld := ⟨R.ARM_CH_CTRL n, 4, 1⟩
def F.ARM_CH_CTRL_EN (n : Nat) : Fld := ⟨R.ARM_CH_CTRL n, 0, 1⟩
def R.ARM_CH_DET (n : Nat) : Nat := 0xD2004 + n * 0x40
def F.ARM_CH_DET_OPEN_SENS (n : Nat) : Fld := ⟨R.ARM_CH_DET n, 20, 12⟩
def F.ARM_CH_DET_OPEN_PCT (n : Nat) : Fld := ⟨R.ARM_CH_DET n, 12, 8⟩
def F.ARM_CH_DET_CLOSE_SENS (n : Nat) : Fld := ⟨R.ARM_CH_DET n, 0, 12⟩
def R.ARM_CH_INIT (n : Nat) : Nat := 0xD2008 + n * 0x40
def F.ARM_CH_INIT_INIT_C (n : Nat) : Fld := ⟨R.ARM_CH_INIT n, 16, 16⟩
def F.ARM_CH_INIT_INIT_O (n : Nat) : Fld := ⟨R.ARM_CH_INIT n, 0, 16⟩
def R.ARM_CH_BOUND (n : Nat) : Nat := 0xD200C + n * 0x40
def F.ARM_CH_BOUND_LAT_MAX (n : Nat) : Fld := ⟨R.ARM_CH_BOUND n, 16, 16⟩
def F.ARM_CH_BOUND_LAT_MIN (n : Nat) : Fld := ⟨R.ARM_CH_BOUND n, 0, 16⟩
def R.ARM_CH_COMP_O (n : Nat) : Nat := 0xD2010 + n * 0x40
def F.ARM_CH_COMP_O_KT (n : Nat) : Fld := ⟨R.ARM_CH_COMP_O n, 16, 16⟩
def F.ARM_CH_COMP_O_KV (n : Nat) : Fld := ⟨R.ARM_CH_COMP_O n, 0, 16⟩
def R.ARM_CH_COMP_C (n : Nat) : Nat := 0xD2014 + n * 0x40
def F.ARM_CH_COMP_C_KT (n : Nat) : Fld := ⟨R.ARM_CH_COMP_C n, 16, 16⟩
def F.ARM_CH_COMP_C_KV (n : Nat) : Fld := ⟨R.ARM_CH_COMP_C n, 0, 16⟩
def R.ARM_CH_R20 (n : Nat) : Nat := 0xD2018 + n * 0x40
def F.ARM_CH_R20 (n : Nat) : Fld := ⟨R.ARM_CH_R20 n, 0, 16⟩
def R.ARM_CH_EST (n : Nat) : Nat := 0xD201C + n * 0x40
def F.ARM_CH_EST_LC (n : Nat) : Fld := ⟨R.ARM_CH_EST n, 16, 16⟩
def F.ARM_CH_EST_LO (n : Nat) : Fld := ⟨R.ARM_CH_EST n, 0, 16⟩
def R.ARM_CH_LAT (n : Nat) : Nat := 0xD2020 + n * 0x40
def F.ARM_CH_LAT_LC (n : Nat) : Fld := ⟨R.ARM_CH_LAT n, 16, 16⟩
def F.ARM_CH_LAT_LO (n : Nat) : Fld := ⟨R.ARM_CH_LAT n, 0, 16⟩
def R.ARM_CH_CONF (n : Nat) : Nat := 0xD2024 + n * 0x40
def F.ARM_CH_CONF_CONF (n : Nat) : Fld := ⟨R.ARM_CH_CONF n, 24, 8⟩
def F.ARM_CH_CONF_CONF_C (n : Nat) : Fld := ⟨R.ARM_CH_CONF n, 16, 8⟩
def F.ARM_CH_CONF_CONF_O (n : Nat) : Fld := ⟨R.ARM_CH_CONF n, 8, 8⟩
def F.ARM_CH_CONF_SENSE (n : Nat) : Fld := ⟨R.ARM_CH_CONF n, 1, 1⟩
def F.ARM_CH_CONF_OK (n : Nat) : Fld := ⟨R.ARM_CH_CONF n, 0, 1⟩
def R.ARM_CH_LAST (n : Nat) : Nat := 0xD2028 + n * 0x40
def F.ARM_CH_LAST_LC (n : Nat) : Fld := ⟨R.ARM_CH_LAST n, 16, 16⟩
def F.ARM_CH_LAST_LO (n : Nat) : Fld := ⟨R.ARM_CH_LAST n, 0, 16⟩
def R.ARM_CH_COND (n : Nat) : Nat := 0xD202C + n * 0x40
def F.ARM_CH_COND_TEMP (n : Nat) : Fld := ⟨R.ARM_CH_COND n, 16, 16⟩
def F.ARM_CH_COND_RES (n : Nat) : Fld := ⟨R.ARM_CH_COND n, 0, 16⟩
def R.ARM_CH_STAT (n : Nat) : Nat := 0xD2030 + n * 0x40
def F.ARM_CH_STAT_BOUND_C (n : Nat) : Fld := ⟨R.ARM_CH_STAT n, 9, 1⟩
def F.ARM_CH_STAT_BOUND_O (n : Nat) : Fld := ⟨R.ARM_CH_STAT n, 8, 1⟩
def F.ARM_CH_STAT_STUCK_OPEN (n : Nat) : Fld := ⟨R.ARM_CH_STAT n, 7, 1⟩
def F.ARM_CH_STAT_STUCK_SHUT (n : Nat) : Fld := ⟨R.ARM_CH_STAT n, 6, 1⟩
def F.ARM_CH_STAT_LEARN_SKIP (n : Nat) : Fld := ⟨R.ARM_CH_STAT n, 5, 1⟩
def F.ARM_CH_STAT_OPEN_RES (n : Nat) : Fld := ⟨R.ARM_CH_STAT n, 2, 2⟩
def F.ARM_CH_STAT_CLOSE_RES (n : Nat) : Fld := ⟨R.ARM_CH_STAT n, 0, 2⟩
def R.ARM_CH_RUN (n : Nat) : Nat := 0xD2034 + n * 0x40
def F.ARM_CH_RUN_MISSC (n : Nat) : Fld := ⟨R.ARM_CH_RUN n, 24, 8⟩
def F.ARM_CH_RUN_MISSO (n : Nat) : Fld := ⟨R.ARM_CH_RUN n, 16, 8⟩
def F.ARM_CH_RUN_DRIFTC (n : Nat) : Fld := ⟨R.ARM_CH_RUN n, 8, 8⟩
def F.ARM_CH_RUN_DRIFTO (n : Nat) : Fld := ⟨R.ARM_CH_RUN n, 0, 8⟩

-- R433, spec/11_armature_latency.md
def R.ARM_SW_CFG (n : Nat) : Nat := 0xD4000 + n * 0x20
def F.ARM_SW_CFG_SRC (n : Nat) : Fld := ⟨R.ARM_SW_CFG n, 28, 4⟩
def F.ARM_SW_CFG_INST (n : Nat) : Fld := ⟨R.ARM_SW_CFG n, 24, 4⟩
def F.ARM_SW_CFG_POL (n : Nat) : Fld := ⟨R.ARM_SW_CFG n, 16, 1⟩
def F.ARM_SW_CFG_EOT_T (n : Nat) : Fld := ⟨R.ARM_SW_CFG n, 0, 16⟩
def R.ARM_SW_STALL (n : Nat) : Nat := 0xD4004 + n * 0x20
def F.ARM_SW_STALL_STALL_MA (n : Nat) : Fld := ⟨R.ARM_SW_STALL n, 16, 16⟩
def F.ARM_SW_STALL_STALL_T (n : Nat) : Fld := ⟨R.ARM_SW_STALL n, 8, 8⟩
def R.ARM_SW_IGN (n : Nat) : Nat := 0xD4008 + n * 0x20
def F.ARM_SW_IGN_IGN (n : Nat) : Fld := ⟨R.ARM_SW_IGN n, 0, 16⟩
def R.ARM_SW_THR (n : Nat) : Nat := 0xD400C + n * 0x20
def F.ARM_SW_THR (n : Nat) : Fld := ⟨R.ARM_SW_THR n, 0, 32⟩
def R.ARM_SW_EST (n : Nat) : Nat := 0xD4010 + n * 0x20
def F.ARM_SW_EST_LC (n : Nat) : Fld := ⟨R.ARM_SW_EST n, 16, 16⟩
def F.ARM_SW_EST_LO (n : Nat) : Fld := ⟨R.ARM_SW_EST n, 0, 16⟩
def R.ARM_SW_STAT (n : Nat) : Nat := 0xD4014 + n * 0x20
def F.ARM_SW_STAT_CONF (n : Nat) : Fld := ⟨R.ARM_SW_STAT n, 24, 8⟩
def F.ARM_SW_STAT_ATOPEN (n : Nat) : Fld := ⟨R.ARM_SW_STAT n, 4, 1⟩
def F.ARM_SW_STAT_OPEN_RES (n : Nat) : Fld := ⟨R.ARM_SW_STAT n, 2, 2⟩
def F.ARM_SW_STAT_CLOSE_RES (n : Nat) : Fld := ⟨R.ARM_SW_STAT n, 0, 2⟩

-- R457, spec/12_load_switches_limp.md
def R.HSW_SUMMARY : Nat := 0xE0024
def F.HSW_SUMMARY : Fld := ⟨R.HSW_SUMMARY, 0, 32⟩
def R.HSW_DISC : Nat := 0xE0028
def F.HSW_DISC : Fld := ⟨R.HSW_DISC, 0, 16⟩

-- R458, spec/12_load_switches_limp.md
def R.HSW_VHS_CFG (n : Nat) : Nat := 0xE1000 + n * 0x10
def F.HSW_VHS_CFG_VHS_DIP (n : Nat) : Fld := ⟨R.HSW_VHS_CFG n, 0, 8⟩
def R.HSW_VHS_STAT (n : Nat) : Nat := 0xE1004 + n * 0x10
def F.HSW_VHS_STAT_DIP (n : Nat) : Fld := ⟨R.HSW_VHS_STAT n, 16, 1⟩
def F.HSW_VHS_STAT_VHS (n : Nat) : Fld := ⟨R.HSW_VHS_STAT n, 0, 16⟩
def R.HSW_VHS_CNT (n : Nat) : Nat := 0xE1008 + n * 0x10
def F.HSW_VHS_CNT (n : Nat) : Fld := ⟨R.HSW_VHS_CNT n, 0, 16⟩
def R.HSW_PG_CFG (n : Nat) : Nat := 0xE1080 + n * 0x10
def F.HSW_PG_CFG_EN (n : Nat) : Fld := ⟨R.HSW_PG_CFG n, 31, 1⟩
def F.HSW_PG_CFG_DSRC (n : Nat) : Fld := ⟨R.HSW_PG_CFG n, 24, 2⟩
def F.HSW_PG_CFG_PER (n : Nat) : Fld := ⟨R.HSW_PG_CFG n, 0, 20⟩
def R.HSW_PG_DUTY (n : Nat) : Nat := 0xE1084 + n * 0x10
def F.HSW_PG_DUTY (n : Nat) : Fld := ⟨R.HSW_PG_DUTY n, 0, 10⟩
def R.HSW_PG_STAT (n : Nat) : Nat := 0xE1088 + n * 0x10
def F.HSW_PG_STAT (n : Nat) : Fld := ⟨R.HSW_PG_STAT n, 0, 10⟩
def R.HSW_LH_CTRL : Nat := 0xE1100
def F.HSW_LH_CTRL_LOCK : Fld := ⟨R.HSW_LH_CTRL, 31, 1⟩
def F.HSW_LH_CTRL_HOLD_T : Fld := ⟨R.HSW_LH_CTRL, 16, 8⟩
def R.HSW_LH_STAT : Nat := 0xE1104
def F.HSW_LH_STAT_ACTIVE : Fld := ⟨R.HSW_LH_STAT, 16, 1⟩
def F.HSW_LH_STAT_LH_IN7 : Fld := ⟨R.HSW_LH_STAT, 8, 8⟩
def F.HSW_LH_STAT_VALIDB : Fld := ⟨R.HSW_LH_STAT, 1, 1⟩
def F.HSW_LH_STAT_VALIDA : Fld := ⟨R.HSW_LH_STAT, 0, 1⟩
def R.HSW_HOLD : Nat := 0xE1108
def F.HSW_HOLD : Fld := ⟨R.HSW_HOLD, 0, 24⟩
def R.HSW_LH_MAP (n : Nat) : Nat := 0xE1110 + n * 4
def F.HSW_LH_MAP_V3 (n : Nat) : Fld := ⟨R.HSW_LH_MAP n, 31, 1⟩
def F.HSW_LH_MAP_SW3 (n : Nat) : Fld := ⟨R.HSW_LH_MAP n, 24, 5⟩
def F.HSW_LH_MAP_V2 (n : Nat) : Fld := ⟨R.HSW_LH_MAP n, 23, 1⟩
def F.HSW_LH_MAP_SW2 (n : Nat) : Fld := ⟨R.HSW_LH_MAP n, 16, 5⟩
def F.HSW_LH_MAP_V1 (n : Nat) : Fld := ⟨R.HSW_LH_MAP n, 15, 1⟩
def F.HSW_LH_MAP_SW1 (n : Nat) : Fld := ⟨R.HSW_LH_MAP n, 8, 5⟩
def F.HSW_LH_MAP_V0 (n : Nat) : Fld := ⟨R.HSW_LH_MAP n, 7, 1⟩
def F.HSW_LH_MAP_SW0 (n : Nat) : Fld := ⟨R.HSW_LH_MAP n, 0, 5⟩

-- R459, spec/12_load_switches_limp.md
def R.HSW_CH_CTRL (n : Nat) : Nat := 0xE2000 + n * 0x40
def F.HSW_CH_CTRL_EN (n : Nat) : Fld := ⟨R.HSW_CH_CTRL n, 0, 1⟩
def R.HSW_CH_CFG (n : Nat) : Nat := 0xE2004 + n * 0x40
def F.HSW_CH_CFG_HOLD_OVER_RESET (n : Nat) : Fld := ⟨R.HSW_CH_CFG n, 31, 1⟩
def F.HSW_CH_CFG_PROF (n : Nat) : Fld := ⟨R.HSW_CH_CFG n, 24, 4⟩
def F.HSW_CH_CFG_PGEN (n : Nat) : Fld := ⟨R.HSW_CH_CFG n, 20, 3⟩
def F.HSW_CH_CFG_PHASE (n : Nat) : Fld := ⟨R.HSW_CH_CFG n, 8, 8⟩
def F.HSW_CH_CFG_CSRC (n : Nat) : Fld := ⟨R.HSW_CH_CFG n, 2, 1⟩
def F.HSW_CH_CFG_MODE (n : Nat) : Fld := ⟨R.HSW_CH_CFG n, 0, 2⟩
def R.HSW_CH_OL (n : Nat) : Nat := 0xE2008 + n * 0x40
def F.HSW_CH_OL_OL_FILTER (n : Nat) : Fld := ⟨R.HSW_CH_OL n, 16, 16⟩
def F.HSW_CH_OL_OL_THRESH (n : Nat) : Fld := ⟨R.HSW_CH_OL n, 0, 16⟩
def R.HSW_CH_OC (n : Nat) : Nat := 0xE200C + n * 0x40
def F.HSW_CH_OC_OC_T (n : Nat) : Fld := ⟨R.HSW_CH_OC n, 16, 16⟩
def F.HSW_CH_OC_ILIM (n : Nat) : Fld := ⟨R.HSW_CH_OC n, 0, 16⟩
def R.HSW_CH_CMD (n : Nat) : Nat := 0xE2010 + n * 0x40
def F.HSW_CH_CMD (n : Nat) : Fld := ⟨R.HSW_CH_CMD n, 0, 2⟩
def R.HSW_CH_STAT (n : Nat) : Nat := 0xE2014 + n * 0x40
def F.HSW_CH_STAT_FORCED (n : Nat) : Fld := ⟨R.HSW_CH_STAT n, 27, 1⟩
def F.HSW_CH_STAT_LIMPED (n : Nat) : Fld := ⟨R.HSW_CH_STAT n, 26, 1⟩
def F.HSW_CH_STAT_HELD (n : Nat) : Fld := ⟨R.HSW_CH_STAT n, 25, 1⟩
def F.HSW_CH_STAT_STRETCH (n : Nat) : Fld := ⟨R.HSW_CH_STAT n, 24, 1⟩
def F.HSW_CH_STAT_DIPHOLD (n : Nat) : Fld := ⟨R.HSW_CH_STAT n, 20, 1⟩
def F.HSW_CH_STAT_INRUSH (n : Nat) : Fld := ⟨R.HSW_CH_STAT n, 19, 1⟩
def F.HSW_CH_STAT_ATLIMIT (n : Nat) : Fld := ⟨R.HSW_CH_STAT n, 18, 1⟩
def F.HSW_CH_STAT_OPEN (n : Nat) : Fld := ⟨R.HSW_CH_STAT n, 17, 1⟩
def F.HSW_CH_STAT_ON (n : Nat) : Fld := ⟨R.HSW_CH_STAT n, 16, 1⟩
def F.HSW_CH_STAT_LASTDROP (n : Nat) : Fld := ⟨R.HSW_CH_STAT n, 8, 4⟩
def R.HSW_CH_FLT (n : Nat) : Nat := 0xE2018 + n * 0x40
def F.HSW_CH_FLT_CLAMP (n : Nat) : Fld := ⟨R.HSW_CH_FLT n, 4, 1⟩
def F.HSW_CH_FLT_OT (n : Nat) : Fld := ⟨R.HSW_CH_FLT n, 3, 1⟩
def F.HSW_CH_FLT_LIMIT (n : Nat) : Fld := ⟨R.HSW_CH_FLT n, 2, 1⟩
def F.HSW_CH_FLT_OPEN (n : Nat) : Fld := ⟨R.HSW_CH_FLT n, 1, 1⟩
def F.HSW_CH_FLT_SHORT (n : Nat) : Fld := ⟨R.HSW_CH_FLT n, 0, 1⟩
def R.HSW_CH_MEAS (n : Nat) : Nat := 0xE201C + n * 0x40
def F.HSW_CH_MEAS_V (n : Nat) : Fld := ⟨R.HSW_CH_MEAS n, 16, 16⟩
def F.HSW_CH_MEAS_I (n : Nat) : Fld := ⟨R.HSW_CH_MEAS n, 0, 16⟩
def R.HSW_CH_TJ (n : Nat) : Nat := 0xE2020 + n * 0x40
def F.HSW_CH_TJ (n : Nat) : Fld := ⟨R.HSW_CH_TJ n, 0, 16⟩
def R.HSW_CH_CLAMP (n : Nat) : Nat := 0xE2024 + n * 0x40
def F.HSW_CH_CLAMP_LAST (n : Nat) : Fld := ⟨R.HSW_CH_CLAMP n, 16, 16⟩
def F.HSW_CH_CLAMP_SUM (n : Nat) : Fld := ⟨R.HSW_CH_CLAMP n, 0, 16⟩
def R.HSW_CH_DROP (n : Nat) : Nat := 0xE2028 + n * 0x40
def F.HSW_CH_DROP (n : Nat) : Fld := ⟨R.HSW_CH_DROP n, 0, 16⟩
def R.HSW_CH_CYCLES (n : Nat) : Nat := 0xE202C + n * 0x40
def F.HSW_CH_CYCLES (n : Nat) : Fld := ⟨R.HSW_CH_CYCLES n, 0, 32⟩

-- R462, spec/12_load_switches_limp.md
def R.HSW_PROF_INR (n : Nat) : Nat := 0xE8000 + n * 0x20
def F.HSW_PROF_INR_INR_PCT (n : Nat) : Fld := ⟨R.HSW_PROF_INR n, 24, 8⟩
def F.HSW_PROF_INR_T_INR (n : Nat) : Fld := ⟨R.HSW_PROF_INR n, 0, 16⟩
def R.HSW_PROF_SOFT (n : Nat) : Nat := 0xE8004 + n * 0x20
def F.HSW_PROF_SOFT_SOFT (n : Nat) : Fld := ⟨R.HSW_PROF_SOFT n, 0, 8⟩

-- R492, spec/13_control_loops_heats.md
def R.CTL_SUMMARY : Nat := 0xF0024
def F.CTL_SUMMARY : Fld := ⟨R.CTL_SUMMARY, 0, 32⟩
def R.CTL_FALLBACK : Nat := 0xF0028
def F.CTL_FALLBACK : Fld := ⟨R.CTL_FALLBACK, 0, 32⟩
def R.CTL_DISC : Nat := 0xF002C
def F.CTL_DISC : Fld := ⟨R.CTL_DISC, 0, 16⟩

-- R493, spec/13_control_loops_heats.md
def R.CTL_GRID_OFS : Nat := 0xF1000
def F.CTL_GRID_OFS : Fld := ⟨R.CTL_GRID_OFS, 0, 16⟩
def R.CTL_HEAT_CFG (n : Nat) : Nat := 0xF1040 + n * 0x20
def F.CTL_HEAT_CFG_EN (n : Nat) : Fld := ⟨R.CTL_HEAT_CFG n, 0, 1⟩
def R.CTL_HEAT_OUT (n : Nat) : Nat := 0xF1044 + n * 0x20
def F.CTL_HEAT_OUT_KIND (n : Nat) : Fld := ⟨R.CTL_HEAT_OUT n, 28, 4⟩
def F.CTL_HEAT_OUT_INST (n : Nat) : Fld := ⟨R.CTL_HEAT_OUT n, 20, 8⟩
def F.CTL_HEAT_OUT_BITOFS (n : Nat) : Fld := ⟨R.CTL_HEAT_OUT n, 11, 9⟩
def F.CTL_HEAT_OUT_WIDTH (n : Nat) : Fld := ⟨R.CTL_HEAT_OUT n, 6, 5⟩
def F.CTL_HEAT_OUT_SIGNED (n : Nat) : Fld := ⟨R.CTL_HEAT_OUT n, 5, 1⟩
def R.CTL_HEAT_STAT (n : Nat) : Nat := 0xF1048 + n * 0x20
def F.CTL_HEAT_STAT_NONE (n : Nat) : Fld := ⟨R.CTL_HEAT_STAT n, 31, 1⟩
def F.CTL_HEAT_STAT_WINNER (n : Nat) : Fld := ⟨R.CTL_HEAT_STAT n, 24, 5⟩
def F.CTL_HEAT_STAT_NCOMP (n : Nat) : Fld := ⟨R.CTL_HEAT_STAT n, 0, 4⟩
def R.CTL_HEAT_L (n : Nat) : Nat := 0xF104C + n * 0x20
def F.CTL_HEAT_L (n : Nat) : Fld := ⟨R.CTL_HEAT_L n, 0, 32⟩
def R.CTL_HEAT_SWAPS (n : Nat) : Nat := 0xF1050 + n * 0x20
def F.CTL_HEAT_SWAPS (n : Nat) : Fld := ⟨R.CTL_HEAT_SWAPS n, 0, 16⟩

-- R494, spec/13_control_loops_heats.md
def R.CTL_LOOP_CTRL (n : Nat) : Nat := 0xF2000 + n * 0x80
def F.CTL_LOOP_CTRL_CLOSE_EN (n : Nat) : Fld := ⟨R.CTL_LOOP_CTRL n, 4, 1⟩
def F.CTL_LOOP_CTRL_EN (n : Nat) : Fld := ⟨R.CTL_LOOP_CTRL n, 0, 1⟩
def R.CTL_LOOP_CFG (n : Nat) : Nat := 0xF2004 + n * 0x80
def F.CTL_LOOP_CFG_BKP_N (n : Nat) : Fld := ⟨R.CTL_LOOP_CFG n, 28, 3⟩
def F.CTL_LOOP_CFG_HEAT (n : Nat) : Fld := ⟨R.CTL_LOOP_CFG n, 24, 3⟩
def F.CTL_LOOP_CFG_LAP (n : Nat) : Fld := ⟨R.CTL_LOOP_CFG n, 20, 3⟩
def F.CTL_LOOP_CFG_FE_ACT (n : Nat) : Fld := ⟨R.CTL_LOOP_CFG n, 18, 1⟩
def F.CTL_LOOP_CFG_FB_ACT (n : Nat) : Fld := ⟨R.CTL_LOOP_CFG n, 16, 2⟩
def F.CTL_LOOP_CFG_OPEN_OUT (n : Nat) : Fld := ⟨R.CTL_LOOP_CFG n, 9, 1⟩
def F.CTL_LOOP_CFG_DON (n : Nat) : Fld := ⟨R.CTL_LOOP_CFG n, 8, 1⟩
def R.CTL_LOOP_TIME (n : Nat) : Nat := 0xF2008 + n * 0x80
def F.CTL_LOOP_TIME_PHASE (n : Nat) : Fld := ⟨R.CTL_LOOP_TIME n, 16, 16⟩
def F.CTL_LOOP_TIME_PERIOD (n : Nat) : Fld := ⟨R.CTL_LOOP_TIME n, 0, 16⟩
def R.CTL_LOOP_SP_SRC (n : Nat) : Nat := 0xF200C + n * 0x80
def F.CTL_LOOP_SP_SRC_KIND (n : Nat) : Fld := ⟨R.CTL_LOOP_SP_SRC n, 28, 4⟩
def F.CTL_LOOP_SP_SRC_INST (n : Nat) : Fld := ⟨R.CTL_LOOP_SP_SRC n, 20, 8⟩
def F.CTL_LOOP_SP_SRC_BITOFS (n : Nat) : Fld := ⟨R.CTL_LOOP_SP_SRC n, 11, 9⟩
def F.CTL_LOOP_SP_SRC_WIDTH (n : Nat) : Fld := ⟨R.CTL_LOOP_SP_SRC n, 6, 5⟩
def F.CTL_LOOP_SP_SRC_SIGNED (n : Nat) : Fld := ⟨R.CTL_LOOP_SP_SRC n, 5, 1⟩
def R.CTL_LOOP_FB_SRC (n : Nat) : Nat := 0xF2010 + n * 0x80
def F.CTL_LOOP_FB_SRC_KIND (n : Nat) : Fld := ⟨R.CTL_LOOP_FB_SRC n, 28, 4⟩
def F.CTL_LOOP_FB_SRC_INST (n : Nat) : Fld := ⟨R.CTL_LOOP_FB_SRC n, 20, 8⟩
def F.CTL_LOOP_FB_SRC_BITOFS (n : Nat) : Fld := ⟨R.CTL_LOOP_FB_SRC n, 11, 9⟩
def F.CTL_LOOP_FB_SRC_WIDTH (n : Nat) : Fld := ⟨R.CTL_LOOP_FB_SRC n, 6, 5⟩
def F.CTL_LOOP_FB_SRC_SIGNED (n : Nat) : Fld := ⟨R.CTL_LOOP_FB_SRC n, 5, 1⟩
def R.CTL_LOOP_FF_SRC (n : Nat) : Nat := 0xF2014 + n * 0x80
def F.CTL_LOOP_FF_SRC_KIND (n : Nat) : Fld := ⟨R.CTL_LOOP_FF_SRC n, 28, 4⟩
def F.CTL_LOOP_FF_SRC_INST (n : Nat) : Fld := ⟨R.CTL_LOOP_FF_SRC n, 20, 8⟩
def F.CTL_LOOP_FF_SRC_BITOFS (n : Nat) : Fld := ⟨R.CTL_LOOP_FF_SRC n, 11, 9⟩
def F.CTL_LOOP_FF_SRC_WIDTH (n : Nat) : Fld := ⟨R.CTL_LOOP_FF_SRC n, 6, 5⟩
def F.CTL_LOOP_FF_SRC_SIGNED (n : Nat) : Fld := ⟨R.CTL_LOOP_FF_SRC n, 5, 1⟩
def R.CTL_LOOP_OUT (n : Nat) : Nat := 0xF2018 + n * 0x80
def F.CTL_LOOP_OUT_KIND (n : Nat) : Fld := ⟨R.CTL_LOOP_OUT n, 28, 4⟩
def F.CTL_LOOP_OUT_INST (n : Nat) : Fld := ⟨R.CTL_LOOP_OUT n, 20, 8⟩
def F.CTL_LOOP_OUT_BITOFS (n : Nat) : Fld := ⟨R.CTL_LOOP_OUT n, 11, 9⟩
def F.CTL_LOOP_OUT_WIDTH (n : Nat) : Fld := ⟨R.CTL_LOOP_OUT n, 6, 5⟩
def F.CTL_LOOP_OUT_SIGNED (n : Nat) : Fld := ⟨R.CTL_LOOP_OUT n, 5, 1⟩
def R.CTL_LOOP_SPFIX (n : Nat) : Nat := 0xF201C + n * 0x80
def F.CTL_LOOP_SPFIX (n : Nat) : Fld := ⟨R.CTL_LOOP_SPFIX n, 0, 32⟩
def R.CTL_LOOP_KP (n : Nat) : Nat := 0xF2020 + n * 0x80
def F.CTL_LOOP_KP (n : Nat) : Fld := ⟨R.CTL_LOOP_KP n, 0, 32⟩
def R.CTL_LOOP_KIT (n : Nat) : Nat := 0xF2024 + n * 0x80
def F.CTL_LOOP_KIT (n : Nat) : Fld := ⟨R.CTL_LOOP_KIT n, 0, 32⟩
def R.CTL_LOOP_DA (n : Nat) : Nat := 0xF2028 + n * 0x80
def F.CTL_LOOP_DA (n : Nat) : Fld := ⟨R.CTL_LOOP_DA n, 0, 32⟩
def R.CTL_LOOP_DB (n : Nat) : Nat := 0xF202C + n * 0x80
def F.CTL_LOOP_DB (n : Nat) : Fld := ⟨R.CTL_LOOP_DB n, 0, 32⟩
def R.CTL_LOOP_KFF (n : Nat) : Nat := 0xF2030 + n * 0x80
def F.CTL_LOOP_KFF (n : Nat) : Fld := ⟨R.CTL_LOOP_KFF n, 0, 32⟩
def R.CTL_LOOP_KBC (n : Nat) : Nat := 0xF2034 + n * 0x80
def F.CTL_LOOP_KBC (n : Nat) : Fld := ⟨R.CTL_LOOP_KBC n, 0, 32⟩
def R.CTL_LOOP_OMIN (n : Nat) : Nat := 0xF2038 + n * 0x80
def F.CTL_LOOP_OMIN (n : Nat) : Fld := ⟨R.CTL_LOOP_OMIN n, 0, 32⟩
def R.CTL_LOOP_OMAX (n : Nat) : Nat := 0xF203C + n * 0x80
def F.CTL_LOOP_OMAX (n : Nat) : Fld := ⟨R.CTL_LOOP_OMAX n, 0, 32⟩
def R.CTL_LOOP_SLEW (n : Nat) : Nat := 0xF2040 + n * 0x80
def F.CTL_LOOP_SLEW (n : Nat) : Fld := ⟨R.CTL_LOOP_SLEW n, 0, 32⟩
def R.CTL_LOOP_SAFE (n : Nat) : Nat := 0xF2044 + n * 0x80
def F.CTL_LOOP_SAFE (n : Nat) : Fld := ⟨R.CTL_LOOP_SAFE n, 0, 32⟩
def R.CTL_LOOP_MAN (n : Nat) : Nat := 0xF2048 + n * 0x80
def F.CTL_LOOP_MAN (n : Nat) : Fld := ⟨R.CTL_LOOP_MAN n, 0, 32⟩
def R.CTL_LOOP_FE_LIM (n : Nat) : Nat := 0xF204C + n * 0x80
def F.CTL_LOOP_FE_LIM (n : Nat) : Fld := ⟨R.CTL_LOOP_FE_LIM n, 0, 32⟩
def R.CTL_LOOP_TMO (n : Nat) : Nat := 0xF2050 + n * 0x80
def F.CTL_LOOP_TMO_FE_T (n : Nat) : Fld := ⟨R.CTL_LOOP_TMO n, 20, 12⟩
def F.CTL_LOOP_TMO_SRC_TIMEOUT (n : Nat) : Fld := ⟨R.CTL_LOOP_TMO n, 8, 12⟩
def F.CTL_LOOP_TMO_FROZEN_N (n : Nat) : Fld := ⟨R.CTL_LOOP_TMO n, 0, 8⟩
def R.CTL_LOOP_FRZ_DB (n : Nat) : Nat := 0xF2054 + n * 0x80
def F.CTL_LOOP_FRZ_DB (n : Nat) : Fld := ⟨R.CTL_LOOP_FRZ_DB n, 0, 32⟩
def R.CTL_LOOP_FRZ_DOUT (n : Nat) : Nat := 0xF2058 + n * 0x80
def F.CTL_LOOP_FRZ_DOUT (n : Nat) : Fld := ⟨R.CTL_LOOP_FRZ_DOUT n, 0, 32⟩
def R.CTL_LOOP_STAT (n : Nat) : Nat := 0xF205C + n * 0x80
def F.CTL_LOOP_STAT_STATE (n : Nat) : Fld := ⟨R.CTL_LOOP_STAT n, 29, 3⟩
def F.CTL_LOOP_STAT_WIN (n : Nat) : Fld := ⟨R.CTL_LOOP_STAT n, 28, 1⟩
def F.CTL_LOOP_STAT_FBWHY (n : Nat) : Fld := ⟨R.CTL_LOOP_STAT n, 24, 3⟩
def F.CTL_LOOP_STAT_FE_RUN (n : Nat) : Fld := ⟨R.CTL_LOOP_STAT n, 23, 1⟩
def F.CTL_LOOP_STAT_DNOTAKEN (n : Nat) : Fld := ⟨R.CTL_LOOP_STAT n, 22, 1⟩
def F.CTL_LOOP_STAT_DCLAMP (n : Nat) : Fld := ⟨R.CTL_LOOP_STAT n, 21, 1⟩
def F.CTL_LOOP_STAT_BKPBAD (n : Nat) : Fld := ⟨R.CTL_LOOP_STAT n, 20, 1⟩
def F.CTL_LOOP_STAT_PRESET (n : Nat) : Fld := ⟨R.CTL_LOOP_STAT n, 19, 1⟩
def R.CTL_LOOP_FLAGS (n : Nat) : Nat := 0xF2060 + n * 0x80
def F.CTL_LOOP_FLAGS_LIVE (n : Nat) : Fld := ⟨R.CTL_LOOP_FLAGS n, 8, 5⟩
def F.CTL_LOOP_FLAGS_STICKY (n : Nat) : Fld := ⟨R.CTL_LOOP_FLAGS n, 0, 5⟩
def R.CTL_LOOP_SPV (n : Nat) : Nat := 0xF2064 + n * 0x80
def F.CTL_LOOP_SPV (n : Nat) : Fld := ⟨R.CTL_LOOP_SPV n, 0, 32⟩
def R.CTL_LOOP_FBV (n : Nat) : Nat := 0xF2068 + n * 0x80
def F.CTL_LOOP_FBV (n : Nat) : Fld := ⟨R.CTL_LOOP_FBV n, 0, 32⟩
def R.CTL_LOOP_IV (n : Nat) : Nat := 0xF206C + n * 0x80
def F.CTL_LOOP_IV (n : Nat) : Fld := ⟨R.CTL_LOOP_IV n, 0, 32⟩
def R.CTL_LOOP_VV (n : Nat) : Nat := 0xF2070 + n * 0x80
def F.CTL_LOOP_VV (n : Nat) : Fld := ⟨R.CTL_LOOP_VV n, 0, 32⟩
def R.CTL_LOOP_UV (n : Nat) : Nat := 0xF2074 + n * 0x80
def F.CTL_LOOP_UV (n : Nat) : Fld := ⟨R.CTL_LOOP_UV n, 0, 32⟩
def R.CTL_LOOP_LATE (n : Nat) : Nat := 0xF2078 + n * 0x80
def F.CTL_LOOP_LATE (n : Nat) : Fld := ⟨R.CTL_LOOP_LATE n, 0, 16⟩
def R.CTL_LOOP_CMD (n : Nat) : Nat := 0xF207C + n * 0x80
def F.CTL_LOOP_CMD (n : Nat) : Fld := ⟨R.CTL_LOOP_CMD n, 0, 2⟩

-- R499, spec/13_control_loops_heats.md
def R.CTL_BKP_X (n : Nat) (m : Nat) : Nat := 0xF3000 + n * 0x40 + m * 8
def F.CTL_BKP_X (n : Nat) (m : Nat) : Fld := ⟨R.CTL_BKP_X n m, 0, 32⟩
def R.CTL_BKP_Y (n : Nat) (m : Nat) : Nat := 0xF3004 + n * 0x40 + m * 8
def F.CTL_BKP_Y (n : Nat) (m : Nat) : Fld := ⟨R.CTL_BKP_Y n m, 0, 32⟩

-- R520, spec/14_pacers_laps_tuning.md
def R.PACE_SUMMARY : Nat := 0x100024
def F.PACE_SUMMARY_CAP : Fld := ⟨R.PACE_SUMMARY, 24, 1⟩
def F.PACE_SUMMARY_INJ : Fld := ⟨R.PACE_SUMMARY, 20, 4⟩
def F.PACE_SUMMARY_LAP : Fld := ⟨R.PACE_SUMMARY, 16, 4⟩
def F.PACE_SUMMARY_MOV : Fld := ⟨R.PACE_SUMMARY, 0, 16⟩
def R.PACE_DISC : Nat := 0x100028
def F.PACE_DISC : Fld := ⟨R.PACE_DISC, 0, 16⟩

-- R521, spec/14_pacers_laps_tuning.md
def R.PACE_CTRL (n : Nat) : Nat := 0x101000 + n * 0x40
def F.PACE_CTRL_EN (n : Nat) : Fld := ⟨R.PACE_CTRL n, 0, 1⟩
def R.PACE_TSRC (n : Nat) : Nat := 0x101004 + n * 0x40
def F.PACE_TSRC_KIND (n : Nat) : Fld := ⟨R.PACE_TSRC n, 28, 4⟩
def F.PACE_TSRC_INST (n : Nat) : Fld := ⟨R.PACE_TSRC n, 20, 8⟩
def F.PACE_TSRC_BITOFS (n : Nat) : Fld := ⟨R.PACE_TSRC n, 11, 9⟩
def F.PACE_TSRC_WIDTH (n : Nat) : Fld := ⟨R.PACE_TSRC n, 6, 5⟩
def F.PACE_TSRC_SIGNED (n : Nat) : Fld := ⟨R.PACE_TSRC n, 5, 1⟩
def R.PACE_TIME (n : Nat) : Nat := 0x101008 + n * 0x40
def F.PACE_TIME_PHASE (n : Nat) : Fld := ⟨R.PACE_TIME n, 16, 16⟩
def F.PACE_TIME_PERIOD (n : Nat) : Fld := ⟨R.PACE_TIME n, 0, 16⟩
def R.PACE_TGT (n : Nat) : Nat := 0x10100C + n * 0x40
def F.PACE_TGT (n : Nat) : Fld := ⟨R.PACE_TGT n, 0, 32⟩
def R.PACE_VMAX (n : Nat) : Nat := 0x101010 + n * 0x40
def F.PACE_VMAX (n : Nat) : Fld := ⟨R.PACE_VMAX n, 0, 32⟩
def R.PACE_AMAX (n : Nat) : Nat := 0x101014 + n * 0x40
def F.PACE_AMAX (n : Nat) : Fld := ⟨R.PACE_AMAX n, 0, 32⟩
def R.PACE_JMAX (n : Nat) : Nat := 0x101018 + n * 0x40
def F.PACE_JMAX (n : Nat) : Fld := ⟨R.PACE_JMAX n, 0, 32⟩
def R.PACE_XMIN (n : Nat) : Nat := 0x10101C + n * 0x40
def F.PACE_XMIN (n : Nat) : Fld := ⟨R.PACE_XMIN n, 0, 32⟩
def R.PACE_XMAX (n : Nat) : Nat := 0x101020 + n * 0x40
def F.PACE_XMAX (n : Nat) : Fld := ⟨R.PACE_XMAX n, 0, 32⟩
def R.PACE_X0 (n : Nat) : Nat := 0x101024 + n * 0x40
def F.PACE_X0 (n : Nat) : Fld := ⟨R.PACE_X0 n, 0, 32⟩
def R.PACE_CMD (n : Nat) : Nat := 0x101028 + n * 0x40
def F.PACE_CMD (n : Nat) : Fld := ⟨R.PACE_CMD n, 0, 2⟩
def R.PACE_X (n : Nat) : Nat := 0x10102C + n * 0x40
def F.PACE_X (n : Nat) : Fld := ⟨R.PACE_X n, 0, 32⟩
def R.PACE_V (n : Nat) : Nat := 0x101030 + n * 0x40
def F.PACE_V (n : Nat) : Fld := ⟨R.PACE_V n, 0, 32⟩
def R.PACE_A (n : Nat) : Nat := 0x101034 + n * 0x40
def F.PACE_A (n : Nat) : Fld := ⟨R.PACE_A n, 0, 32⟩
def R.PACE_STAT (n : Nat) : Nat := 0x101038 + n * 0x40
def F.PACE_STAT_STATE (n : Nat) : Fld := ⟨R.PACE_STAT n, 30, 2⟩
def F.PACE_STAT_SRCBAD (n : Nat) : Fld := ⟨R.PACE_STAT n, 2, 1⟩
def F.PACE_STAT_TCLAMP (n : Nat) : Fld := ⟨R.PACE_STAT n, 1, 1⟩
def F.PACE_STAT_AT (n : Nat) : Fld := ⟨R.PACE_STAT n, 0, 1⟩

-- R522, spec/14_pacers_laps_tuning.md
def R.LAP_CTRL (n : Nat) : Nat := 0x102000 + n * 0x40
def F.LAP_CTRL_LEARN (n : Nat) : Fld := ⟨R.LAP_CTRL n, 8, 1⟩
def F.LAP_CTRL_RESET (n : Nat) : Fld := ⟨R.LAP_CTRL n, 4, 1⟩
def F.LAP_CTRL_EN (n : Nat) : Fld := ⟨R.LAP_CTRL n, 0, 1⟩
def R.LAP_SRC (n : Nat) : Nat := 0x102004 + n * 0x40
def F.LAP_SRC_KIND (n : Nat) : Fld := ⟨R.LAP_SRC n, 28, 4⟩
def F.LAP_SRC_INST (n : Nat) : Fld := ⟨R.LAP_SRC n, 20, 8⟩
def F.LAP_SRC_NEG (n : Nat) : Fld := ⟨R.LAP_SRC n, 16, 1⟩
def F.LAP_SRC_LEAD (n : Nat) : Fld := ⟨R.LAP_SRC n, 0, 8⟩
def R.LAP_CPR (n : Nat) : Nat := 0x102008 + n * 0x40
def F.LAP_CPR_CPR (n : Nat) : Fld := ⟨R.LAP_CPR n, 0, 24⟩
def R.LAP_ORIGIN (n : Nat) : Nat := 0x10200C + n * 0x40
def F.LAP_ORIGIN (n : Nat) : Fld := ⟨R.LAP_ORIGIN n, 0, 32⟩
def R.LAP_GAIN (n : Nat) : Nat := 0x102010 + n * 0x40
def F.LAP_GAIN (n : Nat) : Fld := ⟨R.LAP_GAIN n, 0, 32⟩
def R.LAP_LEAK (n : Nat) : Nat := 0x102014 + n * 0x40
def F.LAP_LEAK_LEAK (n : Nat) : Fld := ⟨R.LAP_LEAK n, 0, 16⟩
def R.LAP_TMAX (n : Nat) : Nat := 0x102018 + n * 0x40
def F.LAP_TMAX (n : Nat) : Fld := ⟨R.LAP_TMAX n, 0, 32⟩
def R.LAP_STAT (n : Nat) : Nat := 0x10201C + n * 0x40
def F.LAP_STAT_CJ (n : Nat) : Fld := ⟨R.LAP_STAT n, 16, 11⟩
def F.LAP_STAT_KJ (n : Nat) : Fld := ⟨R.LAP_STAT n, 0, 11⟩
def F.LAP_STAT_SRCBAD (n : Nat) : Fld := ⟨R.LAP_STAT n, 2, 1⟩
def F.LAP_STAT_LEARNING (n : Nat) : Fld := ⟨R.LAP_STAT n, 1, 1⟩
def F.LAP_STAT_BOUND (n : Nat) : Fld := ⟨R.LAP_STAT n, 0, 1⟩
def R.LAP_OUT (n : Nat) : Nat := 0x102020 + n * 0x40
def F.LAP_OUT (n : Nat) : Fld := ⟨R.LAP_OUT n, 0, 32⟩
def R.LAP_CNT (n : Nat) : Nat := 0x102024 + n * 0x40
def F.LAP_CNT_CLAMP (n : Nat) : Fld := ⟨R.LAP_CNT n, 16, 16⟩
def F.LAP_CNT_SKIP (n : Nat) : Fld := ⟨R.LAP_CNT n, 0, 16⟩
def R.INJ_CFG (n : Nat) : Nat := 0x102100 + n * 0x40
def F.INJ_CFG_TYPE (n : Nat) : Fld := ⟨R.INJ_CFG n, 28, 4⟩
def F.INJ_CFG_POINT (n : Nat) : Fld := ⟨R.INJ_CFG n, 24, 2⟩
def F.INJ_CFG_LOOP (n : Nat) : Fld := ⟨R.INJ_CFG n, 16, 5⟩
def R.INJ_AMP (n : Nat) : Nat := 0x102104 + n * 0x40
def F.INJ_AMP (n : Nat) : Fld := ⟨R.INJ_AMP n, 0, 32⟩
def R.INJ_F0 (n : Nat) : Nat := 0x102108 + n * 0x40
def F.INJ_F0 (n : Nat) : Fld := ⟨R.INJ_F0 n, 0, 32⟩
def R.INJ_F1 (n : Nat) : Nat := 0x10210C + n * 0x40
def F.INJ_F1 (n : Nat) : Fld := ⟨R.INJ_F1 n, 0, 32⟩
def R.INJ_N (n : Nat) : Nat := 0x102110 + n * 0x40
def F.INJ_N (n : Nat) : Fld := ⟨R.INJ_N n, 0, 32⟩
def R.INJ_PRBS (n : Nat) : Nat := 0x102114 + n * 0x40
def F.INJ_PRBS_SEED (n : Nat) : Fld := ⟨R.INJ_PRBS n, 16, 15⟩
def F.INJ_PRBS_HOLD (n : Nat) : Fld := ⟨R.INJ_PRBS n, 0, 16⟩
def R.INJ_TAG_LO (n : Nat) : Nat := 0x102118 + n * 0x40
def F.INJ_TAG_LO (n : Nat) : Fld := ⟨R.INJ_TAG_LO n, 0, 32⟩
def R.INJ_TAG_HI (n : Nat) : Nat := 0x10211C + n * 0x40
def F.INJ_TAG_HI (n : Nat) : Fld := ⟨R.INJ_TAG_HI n, 0, 32⟩
def R.INJ_CMD (n : Nat) : Nat := 0x102120 + n * 0x40
def F.INJ_CMD (n : Nat) : Fld := ⟨R.INJ_CMD n, 0, 2⟩
def R.INJ_STAT (n : Nat) : Nat := 0x102124 + n * 0x40
def F.INJ_STAT_ST (n : Nat) : Fld := ⟨R.INJ_STAT n, 0, 3⟩
def R.INJ_K (n : Nat) : Nat := 0x102128 + n * 0x40
def F.INJ_K (n : Nat) : Fld := ⟨R.INJ_K n, 0, 32⟩
def R.INJ_VAL (n : Nat) : Nat := 0x10212C + n * 0x40
def F.INJ_VAL (n : Nat) : Fld := ⟨R.INJ_VAL n, 0, 32⟩
def R.CAP_CFG : Nat := 0x102200
def F.CAP_CFG_TRIG : Fld := ⟨R.CAP_CFG, 28, 2⟩
def F.CAP_CFG_INJ : Fld := ⟨R.CAP_CFG, 24, 2⟩
def F.CAP_CFG_LOOP : Fld := ⟨R.CAP_CFG, 16, 5⟩
def F.CAP_CFG_DEC : Fld := ⟨R.CAP_CFG, 8, 8⟩
def F.CAP_CFG_NSIG : Fld := ⟨R.CAP_CFG, 0, 4⟩
def R.CAP_SEL (n : Nat) : Nat := 0x102204 + n * 4
def F.CAP_SEL_LO (n : Nat) : Fld := ⟨R.CAP_SEL n, 0, 16⟩
def F.CAP_SEL_HI (n : Nat) : Fld := ⟨R.CAP_SEL n, 16, 16⟩
def R.CAP_LEN : Nat := 0x102214
def F.CAP_LEN : Fld := ⟨R.CAP_LEN, 0, 32⟩
def R.CAP_TAG_LO : Nat := 0x102218
def F.CAP_TAG_LO : Fld := ⟨R.CAP_TAG_LO, 0, 32⟩
def R.CAP_TAG_HI : Nat := 0x10221C
def F.CAP_TAG_HI : Fld := ⟨R.CAP_TAG_HI, 0, 32⟩
def R.CAP_CMD : Nat := 0x102220
def F.CAP_CMD : Fld := ⟨R.CAP_CMD, 0, 2⟩
def R.CAP_STAT : Nat := 0x102224
def F.CAP_STAT_BUSY : Fld := ⟨R.CAP_STAT, 31, 1⟩
def F.CAP_STAT_END : Fld := ⟨R.CAP_STAT, 28, 3⟩
def F.CAP_STAT_LOST : Fld := ⟨R.CAP_STAT, 0, 16⟩
def R.CAP_SETS : Nat := 0x102228
def F.CAP_SETS : Fld := ⟨R.CAP_SETS, 0, 32⟩

-- R523, spec/14_pacers_laps_tuning.md
def R.LAP_TBL (n : Nat) (m : Nat) : Nat := 0x104000 + n * 0x1000 + m * 4
def F.LAP_TBL (n : Nat) (m : Nat) : Fld := ⟨R.LAP_TBL n m, 0, 32⟩

-- R553, spec/15_can_message_objects.md
def R.CAN_SUMMARY : Nat := 0x110024
def F.CAN_SUMMARY_PRIV : Fld := ⟨R.CAN_SUMMARY, 24, 5⟩
def F.CAN_SUMMARY_PENDS : Fld := ⟨R.CAN_SUMMARY, 16, 8⟩
def F.CAN_SUMMARY_BUSOFF : Fld := ⟨R.CAN_SUMMARY, 8, 3⟩
def F.CAN_SUMMARY_PASS : Fld := ⟨R.CAN_SUMMARY, 4, 3⟩
def F.CAN_SUMMARY_RUN : Fld := ⟨R.CAN_SUMMARY, 0, 3⟩
def R.CAN_DISC : Nat := 0x110028
def F.CAN_DISC : Fld := ⟨R.CAN_DISC, 0, 16⟩

-- R554, spec/15_can_message_objects.md
def R.CAN_CTL_CFG (n : Nat) : Nat := 0x111000 + n * 0x40
def F.CAN_CTL_CFG_FBRUN (n : Nat) : Fld := ⟨R.CAN_CTL_CFG n, 8, 1⟩
def F.CAN_CTL_CFG_AUTO_REC (n : Nat) : Fld := ⟨R.CAN_CTL_CFG n, 7, 1⟩
def F.CAN_CTL_CFG_FDEN (n : Nat) : Fld := ⟨R.CAN_CTL_CFG n, 4, 1⟩
def F.CAN_CTL_CFG_MODE (n : Nat) : Fld := ⟨R.CAN_CTL_CFG n, 0, 2⟩
def R.CAN_CTL_NBT (n : Nat) : Nat := 0x111004 + n * 0x40
def F.CAN_CTL_NBT_SJWM1 (n : Nat) : Fld := ⟨R.CAN_CTL_NBT n, 24, 7⟩
def F.CAN_CTL_NBT_TSEG2M1 (n : Nat) : Fld := ⟨R.CAN_CTL_NBT n, 16, 7⟩
def F.CAN_CTL_NBT_TSEG1M1 (n : Nat) : Fld := ⟨R.CAN_CTL_NBT n, 8, 8⟩
def F.CAN_CTL_NBT_BRPM1 (n : Nat) : Fld := ⟨R.CAN_CTL_NBT n, 0, 8⟩
def R.CAN_CTL_DBT (n : Nat) : Nat := 0x111008 + n * 0x40
def F.CAN_CTL_DBT_TDCEN (n : Nat) : Fld := ⟨R.CAN_CTL_DBT n, 31, 1⟩
def F.CAN_CTL_DBT_SJWM1 (n : Nat) : Fld := ⟨R.CAN_CTL_DBT n, 24, 4⟩
def F.CAN_CTL_DBT_TSEG2M1 (n : Nat) : Fld := ⟨R.CAN_CTL_DBT n, 16, 4⟩
def F.CAN_CTL_DBT_TSEG1M1 (n : Nat) : Fld := ⟨R.CAN_CTL_DBT n, 8, 5⟩
def F.CAN_CTL_DBT_BRPM1 (n : Nat) : Fld := ⟨R.CAN_CTL_DBT n, 0, 5⟩
def R.CAN_CTL_TDC (n : Nat) : Nat := 0x11100C + n * 0x40
def F.CAN_CTL_TDC_TDCO (n : Nat) : Fld := ⟨R.CAN_CTL_TDC n, 0, 7⟩
def R.CAN_CTL_STAT (n : Nat) : Nat := 0x111010 + n * 0x40
def F.CAN_CTL_STAT_TEC (n : Nat) : Fld := ⟨R.CAN_CTL_STAT n, 24, 8⟩
def F.CAN_CTL_STAT_REC (n : Nat) : Fld := ⟨R.CAN_CTL_STAT n, 16, 8⟩
def F.CAN_CTL_STAT_FSTATE (n : Nat) : Fld := ⟨R.CAN_CTL_STAT n, 0, 2⟩
def R.CAN_CTL_CNT (n : Nat) : Nat := 0x111014 + n * 0x40
def F.CAN_CTL_CNT_BUSOFF (n : Nat) : Fld := ⟨R.CAN_CTL_CNT n, 16, 16⟩
def F.CAN_CTL_CNT_ERR (n : Nat) : Fld := ⟨R.CAN_CTL_CNT n, 0, 16⟩
def R.CAN_CTL_LEC (n : Nat) : Nat := 0x111018 + n * 0x40
def F.CAN_CTL_LEC_OBJ (n : Nat) : Fld := ⟨R.CAN_CTL_LEC n, 8, 8⟩
def F.CAN_CTL_LEC_LEC (n : Nat) : Fld := ⟨R.CAN_CTL_LEC n, 0, 3⟩
def R.CAN_CTL_MIR (n : Nat) : Nat := 0x11101C + n * 0x40
def F.CAN_CTL_MIR_TX (n : Nat) : Fld := ⟨R.CAN_CTL_MIR n, 2, 1⟩
def F.CAN_CTL_MIR_RX_ALL (n : Nat) : Fld := ⟨R.CAN_CTL_MIR n, 1, 1⟩
def F.CAN_CTL_MIR_RX_OBJ (n : Nat) : Fld := ⟨R.CAN_CTL_MIR n, 0, 1⟩
def R.CAN_CTL_CMD (n : Nat) : Nat := 0x111020 + n * 0x40
def F.CAN_CTL_CMD_REC_REQ (n : Nat) : Fld := ⟨R.CAN_CTL_CMD n, 0, 1⟩
def R.CAN_CTL_CLASH (n : Nat) : Nat := 0x111024 + n * 0x40
def F.CAN_CTL_CLASH_VALID (n : Nat) : Fld := ⟨R.CAN_CTL_CLASH n, 15, 1⟩
def F.CAN_CTL_CLASH_OBJ (n : Nat) : Fld := ⟨R.CAN_CTL_CLASH n, 0, 8⟩
def R.CAN_CTL_RXNM (n : Nat) : Nat := 0x111028 + n * 0x40
def F.CAN_CTL_RXNM (n : Nat) : Fld := ⟨R.CAN_CTL_RXNM n, 0, 16⟩

-- R556, spec/15_can_message_objects.md
def R.CAN_OBJ_CFG (n : Nat) : Nat := 0x118000 + n * 0x80
def F.CAN_OBJ_CFG_EN (n : Nat) : Fld := ⟨R.CAN_OBJ_CFG n, 31, 1⟩
def F.CAN_OBJ_CFG_DIR (n : Nat) : Fld := ⟨R.CAN_OBJ_CFG n, 30, 1⟩
def F.CAN_OBJ_CFG_PRIV (n : Nat) : Fld := ⟨R.CAN_OBJ_CFG n, 29, 1⟩
def F.CAN_OBJ_CFG_IDE (n : Nat) : Fld := ⟨R.CAN_OBJ_CFG n, 28, 1⟩
def F.CAN_OBJ_CFG_FDF (n : Nat) : Fld := ⟨R.CAN_OBJ_CFG n, 27, 1⟩
def F.CAN_OBJ_CFG_BRS (n : Nat) : Fld := ⟨R.CAN_OBJ_CFG n, 26, 1⟩
def F.CAN_OBJ_CFG_CTRL (n : Nat) : Fld := ⟨R.CAN_OBJ_CFG n, 24, 2⟩
def F.CAN_OBJ_CFG_RETRY (n : Nat) : Fld := ⟨R.CAN_OBJ_CFG n, 16, 8⟩
def F.CAN_OBJ_CFG_DECODE (n : Nat) : Fld := ⟨R.CAN_OBJ_CFG n, 12, 4⟩
def F.CAN_OBJ_CFG_TRIG_CHG (n : Nat) : Fld := ⟨R.CAN_OBJ_CFG n, 11, 1⟩
def F.CAN_OBJ_CFG_MATCH_FDF (n : Nat) : Fld := ⟨R.CAN_OBJ_CFG n, 10, 1⟩
def F.CAN_OBJ_CFG_DLC (n : Nat) : Fld := ⟨R.CAN_OBJ_CFG n, 0, 4⟩
def R.CAN_OBJ_ID (n : Nat) : Nat := 0x118004 + n * 0x80
def F.CAN_OBJ_ID (n : Nat) : Fld := ⟨R.CAN_OBJ_ID n, 0, 29⟩
def R.CAN_OBJ_MASK (n : Nat) : Nat := 0x118008 + n * 0x80
def F.CAN_OBJ_MASK (n : Nat) : Fld := ⟨R.CAN_OBJ_MASK n, 0, 29⟩
def R.CAN_OBJ_TIME (n : Nat) : Nat := 0x11800C + n * 0x80
def F.CAN_OBJ_TIME_PERIOD (n : Nat) : Fld := ⟨R.CAN_OBJ_TIME n, 16, 16⟩
def F.CAN_OBJ_TIME_PHASE (n : Nat) : Fld := ⟨R.CAN_OBJ_TIME n, 0, 16⟩
def R.CAN_OBJ_TMO (n : Nat) : Nat := 0x118010 + n * 0x80
def F.CAN_OBJ_TMO_TX_TMO (n : Nat) : Fld := ⟨R.CAN_OBJ_TMO n, 16, 16⟩
def F.CAN_OBJ_TMO_RX_TMO (n : Nat) : Fld := ⟨R.CAN_OBJ_TMO n, 0, 16⟩
def R.CAN_OBJ_CMD (n : Nat) : Nat := 0x118014 + n * 0x80
def F.CAN_OBJ_CMD (n : Nat) : Fld := ⟨R.CAN_OBJ_CMD n, 0, 2⟩
def R.CAN_OBJ_STAT (n : Nat) : Nat := 0x118018 + n * 0x80
def F.CAN_OBJ_STAT_PEND (n : Nat) : Fld := ⟨R.CAN_OBJ_STAT n, 31, 1⟩
def F.CAN_OBJ_STAT_ACTIVE (n : Nat) : Fld := ⟨R.CAN_OBJ_STAT n, 30, 1⟩
def F.CAN_OBJ_STAT_CXL (n : Nat) : Fld := ⟨R.CAN_OBJ_STAT n, 29, 1⟩
def F.CAN_OBJ_STAT_SENDQ (n : Nat) : Fld := ⟨R.CAN_OBJ_STAT n, 28, 1⟩
def F.CAN_OBJ_STAT_RESULT (n : Nat) : Fld := ⟨R.CAN_OBJ_STAT n, 24, 4⟩
def F.CAN_OBJ_STAT_ATTEMPTS (n : Nat) : Fld := ⟨R.CAN_OBJ_STAT n, 16, 8⟩
def F.CAN_OBJ_STAT_CLASHRUN (n : Nat) : Fld := ⟨R.CAN_OBJ_STAT n, 8, 2⟩
def F.CAN_OBJ_STAT_RXTO (n : Nat) : Fld := ⟨R.CAN_OBJ_STAT n, 0, 1⟩
def R.CAN_OBJ_RXHDR (n : Nat) : Nat := 0x11801C + n * 0x80
def F.CAN_OBJ_RXHDR_NEW (n : Nat) : Fld := ⟨R.CAN_OBJ_RXHDR n, 31, 1⟩
def F.CAN_OBJ_RXHDR_OVR (n : Nat) : Fld := ⟨R.CAN_OBJ_RXHDR n, 30, 1⟩
def F.CAN_OBJ_RXHDR_IDE (n : Nat) : Fld := ⟨R.CAN_OBJ_RXHDR n, 29, 1⟩
def F.CAN_OBJ_RXHDR_ID (n : Nat) : Fld := ⟨R.CAN_OBJ_RXHDR n, 0, 29⟩
def R.CAN_OBJ_RXINFO (n : Nat) : Nat := 0x118020 + n * 0x80
def F.CAN_OBJ_RXINFO_FDF (n : Nat) : Fld := ⟨R.CAN_OBJ_RXINFO n, 20, 1⟩
def F.CAN_OBJ_RXINFO_BRS (n : Nat) : Fld := ⟨R.CAN_OBJ_RXINFO n, 19, 1⟩
def F.CAN_OBJ_RXINFO_ESI (n : Nat) : Fld := ⟨R.CAN_OBJ_RXINFO n, 18, 1⟩
def F.CAN_OBJ_RXINFO_DLC (n : Nat) : Fld := ⟨R.CAN_OBJ_RXINFO n, 0, 4⟩
def R.CAN_OBJ_T_LO (n : Nat) : Nat := 0x118024 + n * 0x80
def F.CAN_OBJ_T_LO (n : Nat) : Fld := ⟨R.CAN_OBJ_T_LO n, 0, 32⟩
def R.CAN_OBJ_T_HI (n : Nat) : Nat := 0x118028 + n * 0x80
def F.CAN_OBJ_T_HI (n : Nat) : Fld := ⟨R.CAN_OBJ_T_HI n, 0, 32⟩
def R.CAN_OBJ_DEC (n : Nat) : Nat := 0x11802C + n * 0x80
def F.CAN_OBJ_DEC_OK (n : Nat) : Fld := ⟨R.CAN_OBJ_DEC n, 16, 1⟩
def F.CAN_OBJ_DEC_SPD (n : Nat) : Fld := ⟨R.CAN_OBJ_DEC n, 0, 16⟩
def R.CAN_OBJ_CNT (n : Nat) : Nat := 0x118030 + n * 0x80
def F.CAN_OBJ_CNT_N (n : Nat) : Fld := ⟨R.CAN_OBJ_CNT n, 16, 16⟩
def F.CAN_OBJ_CNT_SKIP (n : Nat) : Fld := ⟨R.CAN_OBJ_CNT n, 0, 16⟩
def R.CAN_OBJ_DATA (n : Nat) (m : Nat) : Nat := 0x118040 + n * 0x80 + m * 4
def F.CAN_OBJ_DATA (n : Nat) (m : Nat) : Fld := ⟨R.CAN_OBJ_DATA n m, 0, 32⟩

-- R643, spec/18_recorder_memory_background.md
def R.REC_SUMMARY : Nat := 0x120024
def F.REC_SUMMARY_STOP : Fld := ⟨R.REC_SUMMARY, 31, 1⟩
def F.REC_SUMMARY_N : Fld := ⟨R.REC_SUMMARY, 0, 17⟩

-- R644, spec/18_recorder_memory_background.md
def R.REC_LOG_STAT : Nat := 0x121000
def F.REC_LOG_STAT_STOP : Fld := ⟨R.REC_LOG_STAT, 31, 1⟩
def F.REC_LOG_STAT_WHY : Fld := ⟨R.REC_LOG_STAT, 29, 2⟩
def F.REC_LOG_STAT_N : Fld := ⟨R.REC_LOG_STAT, 0, 17⟩
def R.REC_LOG_LOST : Nat := 0x121004
def F.REC_LOG_LOST : Fld := ⟨R.REC_LOG_LOST, 0, 16⟩
def R.REC_STAGE : Nat := 0x121008
def F.REC_STAGE_MAX : Fld := ⟨R.REC_STAGE, 16, 9⟩
def F.REC_STAGE_NOW : Fld := ⟨R.REC_STAGE, 0, 9⟩
def R.REC_STAGE_LOST : Nat := 0x12100C
def F.REC_STAGE_LOST : Fld := ⟨R.REC_STAGE_LOST, 0, 16⟩
def R.REC_CMD : Nat := 0x121010
def F.REC_CMD : Fld := ⟨R.REC_CMD, 0, 4⟩
def R.REC_DRN_FROM : Nat := 0x121014
def F.REC_DRN_FROM : Fld := ⟨R.REC_DRN_FROM, 0, 17⟩
def R.REC_DRN_CNT : Nat := 0x121018
def F.REC_DRN_CNT : Fld := ⟨R.REC_DRN_CNT, 0, 17⟩
def R.REC_DRN_STAT : Nat := 0x12101C
def F.REC_DRN_STAT_BUSY : Fld := ⟨R.REC_DRN_STAT, 31, 1⟩
def F.REC_DRN_STAT_CST : Fld := ⟨R.REC_DRN_STAT, 30, 1⟩
def F.REC_DRN_STAT_N : Fld := ⟨R.REC_DRN_STAT, 0, 17⟩
def R.REC_FAIL_ADDR : Nat := 0x121020
def F.REC_FAIL_ADDR_VALID : Fld := ⟨R.REC_FAIL_ADDR, 31, 1⟩
def F.REC_FAIL_ADDR_OP : Fld := ⟨R.REC_FAIL_ADDR, 30, 1⟩
def F.REC_FAIL_ADDR_A : Fld := ⟨R.REC_FAIL_ADDR, 0, 24⟩
def R.REC_CST_STAT : Nat := 0x121024
def F.REC_CST_STAT_CST_FAIL : Fld := ⟨R.REC_CST_STAT, 31, 1⟩
def F.REC_CST_STAT_N : Fld := ⟨R.REC_CST_STAT, 0, 6⟩
def R.REC_RESTORE : Nat := 0x121028
def F.REC_RESTORE_TEL : Fld := ⟨R.REC_RESTORE, 5, 1⟩
def F.REC_RESTORE_LIMP : Fld := ⟨R.REC_RESTORE, 4, 1⟩
def F.REC_RESTORE_LAT : Fld := ⟨R.REC_RESTORE, 3, 1⟩
def F.REC_RESTORE_CYC : Fld := ⟨R.REC_RESTORE, 2, 1⟩
def F.REC_RESTORE_PCYC : Fld := ⟨R.REC_RESTORE, 1, 1⟩
def F.REC_RESTORE_HOURS : Fld := ⟨R.REC_RESTORE, 0, 1⟩
def R.REC_DISC : Nat := 0x12102C
def F.REC_DISC : Fld := ⟨R.REC_DISC, 0, 16⟩
def R.REC_LES : Nat := 0x121030
def F.REC_LES : Fld := ⟨R.REC_LES, 0, 32⟩

-- R645, spec/18_recorder_memory_background.md
def R.REC_TRG_CFG (n : Nat) : Nat := 0x122000 + n * 0x100
def F.REC_TRG_CFG_EN (n : Nat) : Fld := ⟨R.REC_TRG_CFG n, 31, 1⟩
def F.REC_TRG_CFG_KIND (n : Nat) : Fld := ⟨R.REC_TRG_CFG n, 28, 2⟩
def F.REC_TRG_CFG_OP (n : Nat) : Fld := ⟨R.REC_TRG_CFG n, 24, 3⟩
def F.REC_TRG_CFG_NWORDS (n : Nat) : Fld := ⟨R.REC_TRG_CFG n, 16, 6⟩
def F.REC_TRG_CFG_EVNUM (n : Nat) : Fld := ⟨R.REC_TRG_CFG n, 0, 8⟩
def R.REC_TRG_ADDR (n : Nat) : Nat := 0x122004 + n * 0x100
def F.REC_TRG_ADDR (n : Nat) : Fld := ⟨R.REC_TRG_ADDR n, 0, 22⟩
def R.REC_TRG_MASK (n : Nat) : Nat := 0x122008 + n * 0x100
def F.REC_TRG_MASK (n : Nat) : Fld := ⟨R.REC_TRG_MASK n, 0, 32⟩
def R.REC_TRG_VAL (n : Nat) : Nat := 0x12200C + n * 0x100
def F.REC_TRG_VAL (n : Nat) : Fld := ⟨R.REC_TRG_VAL n, 0, 32⟩
def R.REC_TRG_HOLD (n : Nat) : Nat := 0x122010 + n * 0x100
def F.REC_TRG_HOLD_HOLDOFF (n : Nat) : Fld := ⟨R.REC_TRG_HOLD n, 0, 16⟩
def R.REC_TRG_CNT (n : Nat) : Nat := 0x122014 + n * 0x100
def F.REC_TRG_CNT_SUPP (n : Nat) : Fld := ⟨R.REC_TRG_CNT n, 16, 16⟩
def F.REC_TRG_CNT_N (n : Nat) : Fld := ⟨R.REC_TRG_CNT n, 0, 16⟩
def R.REC_TRG_LAST_LO (n : Nat) : Nat := 0x122018 + n * 0x100
def F.REC_TRG_LAST_LO (n : Nat) : Fld := ⟨R.REC_TRG_LAST_LO n, 0, 32⟩
def R.REC_TRG_LAST_HI (n : Nat) : Nat := 0x12201C + n * 0x100
def F.REC_TRG_LAST_HI (n : Nat) : Fld := ⟨R.REC_TRG_LAST_HI n, 0, 32⟩
def R.REC_TRG_SNAP (n : Nat) (m : Nat) : Nat := 0x122080 + n * 0x100 + m * 4
def F.REC_TRG_SNAP (n : Nat) (m : Nat) : Fld := ⟨R.REC_TRG_SNAP n m, 0, 22⟩

-- R646, spec/18_recorder_memory_background.md
def R.REC_LAST (n : Nat) : Nat := 0x123000 + n * 4
def F.REC_LAST (n : Nat) : Fld := ⟨R.REC_LAST n, 0, 32⟩

-- R647, spec/18_recorder_memory_background.md
def R.MEM_SUMMARY : Nat := 0x130024
def F.MEM_SUMMARY_PAGES : Fld := ⟨R.MEM_SUMMARY, 16, 11⟩
def F.MEM_SUMMARY_SECTORS : Fld := ⟨R.MEM_SUMMARY, 0, 6⟩

-- R648, spec/18_recorder_memory_background.md
def R.MEM_SCRUB_POS : Nat := 0x131000
def F.MEM_SCRUB_POS : Fld := ⟨R.MEM_SCRUB_POS, 0, 22⟩
def R.MEM_SCRUB_CNT : Nat := 0x131004
def F.MEM_SCRUB_CNT_FIXED : Fld := ⟨R.MEM_SCRUB_CNT, 16, 16⟩
def F.MEM_SCRUB_CNT_PASS : Fld := ⟨R.MEM_SCRUB_CNT, 0, 16⟩
def R.MEM_DRD : Nat := 0x131008
def F.MEM_DRD_RETRY : Fld := ⟨R.MEM_DRD, 16, 16⟩
def F.MEM_DRD_PERSIST : Fld := ⟨R.MEM_DRD, 0, 16⟩
def R.MEM_SPARE : Nat := 0x13100C
def F.MEM_SPARE_PAGES : Fld := ⟨R.MEM_SPARE, 16, 11⟩
def F.MEM_SPARE_FLASH : Fld := ⟨R.MEM_SPARE, 0, 6⟩
def R.MEM_RET_LAST : Nat := 0x131010
def F.MEM_RET_LAST_PAGE : Fld := ⟨R.MEM_RET_LAST, 12, 20⟩
def F.MEM_RET_LAST_VALID : Fld := ⟨R.MEM_RET_LAST, 0, 1⟩
def R.MEM_WEAR_A : Nat := 0x131014
def F.MEM_WEAR_A : Fld := ⟨R.MEM_WEAR_A, 0, 24⟩
def R.MEM_WEAR_B : Nat := 0x131018
def F.MEM_WEAR_B : Fld := ⟨R.MEM_WEAR_B, 0, 24⟩
def R.MEM_CAL_CFG : Nat := 0x13101C
def F.MEM_CAL_CFG_CAL_T : Fld := ⟨R.MEM_CAL_CFG, 0, 16⟩
def R.MEM_CAL_STAT : Nat := 0x131020
def F.MEM_CAL_STAT_SOL : Fld := ⟨R.MEM_CAL_STAT, 16, 8⟩
def F.MEM_CAL_STAT_HSW : Fld := ⟨R.MEM_CAL_STAT, 8, 8⟩
def F.MEM_CAL_STAT_ADC : Fld := ⟨R.MEM_CAL_STAT, 0, 1⟩
def R.MEM_CAL_FAIL : Nat := 0x131024
def F.MEM_CAL_FAIL : Fld := ⟨R.MEM_CAL_FAIL, 0, 16⟩
def R.MEM_DISC : Nat := 0x131028
def F.MEM_DISC : Fld := ⟨R.MEM_DISC, 0, 16⟩
def R.MEM_TEL_SLUG : Nat := 0x132000
def F.MEM_TEL_SLUG_HI : Fld := ⟨R.MEM_TEL_SLUG, 16, 16⟩
def F.MEM_TEL_SLUG_LO : Fld := ⟨R.MEM_TEL_SLUG, 0, 16⟩
def R.MEM_TEL_TJ : Nat := 0x132004
def F.MEM_TEL_TJ_B : Fld := ⟨R.MEM_TEL_TJ, 16, 16⟩
def F.MEM_TEL_TJ_A : Fld := ⟨R.MEM_TEL_TJ, 0, 16⟩
def R.MEM_TEL_VBAT : Nat := 0x132008
def F.MEM_TEL_VBAT_HI : Fld := ⟨R.MEM_TEL_VBAT, 16, 16⟩
def F.MEM_TEL_VBAT_LO : Fld := ⟨R.MEM_TEL_VBAT, 0, 16⟩
def R.MEM_TEL_LAT : Nat := 0x13200C
def F.MEM_TEL_LAT_LAT : Fld := ⟨R.MEM_TEL_LAT, 16, 16⟩
def F.MEM_TEL_LAT_CH : Fld := ⟨R.MEM_TEL_LAT, 0, 7⟩
def R.MEM_TEL_SINCE : Nat := 0x132010
def F.MEM_TEL_SINCE : Fld := ⟨R.MEM_TEL_SINCE, 0, 32⟩
def R.MEM_TEL_CMD : Nat := 0x132014
def F.MEM_TEL_CMD_CLEAR : Fld := ⟨R.MEM_TEL_CMD, 0, 1⟩

-- R674, spec/19_keystone_plumb.md
def R.SEC_SUMMARY : Nat := 0x140024
def F.SEC_SUMMARY_CERT : Fld := ⟨R.SEC_SUMMARY, 31, 1⟩
def F.SEC_SUMMARY_SESS : Fld := ⟨R.SEC_SUMMARY, 16, 1⟩
def F.SEC_SUMMARY_BOOT : Fld := ⟨R.SEC_SUMMARY, 8, 1⟩
def F.SEC_SUMMARY_KEY : Fld := ⟨R.SEC_SUMMARY, 0, 2⟩

-- R675, spec/19_keystone_plumb.md
def R.SEC_FW_STAT : Nat := 0x141000
def F.SEC_FW_STAT_PREF : Fld := ⟨R.SEC_FW_STAT, 24, 8⟩
def F.SEC_FW_STAT_BVALID : Fld := ⟨R.SEC_FW_STAT, 17, 1⟩
def F.SEC_FW_STAT_AVALID : Fld := ⟨R.SEC_FW_STAT, 16, 1⟩
def F.SEC_FW_STAT_BOOTED : Fld := ⟨R.SEC_FW_STAT, 8, 1⟩
def R.SEC_FW_VER_A : Nat := 0x141004
def F.SEC_FW_VER_A : Fld := ⟨R.SEC_FW_VER_A, 0, 32⟩
def R.SEC_FW_VER_B : Nat := 0x141008
def F.SEC_FW_VER_B : Fld := ⟨R.SEC_FW_VER_B, 0, 32⟩
def R.SEC_FW_SVN : Nat := 0x14100C
def F.SEC_FW_SVN_B : Fld := ⟨R.SEC_FW_SVN, 16, 8⟩
def F.SEC_FW_SVN_A : Fld := ⟨R.SEC_FW_SVN, 0, 8⟩
def R.SEC_ARB : Nat := 0x141010
def F.SEC_ARB_FTG : Fld := ⟨R.SEC_ARB, 16, 8⟩
def F.SEC_ARB_FW : Fld := ⟨R.SEC_ARB, 0, 8⟩
def R.SEC_CMD : Nat := 0x141014
def F.SEC_CMD : Fld := ⟨R.SEC_CMD, 0, 4⟩
def R.SEC_CMD_STAT : Nat := 0x141018
def F.SEC_CMD_STAT_BUSY : Fld := ⟨R.SEC_CMD_STAT, 31, 1⟩
def F.SEC_CMD_STAT_RESULT : Fld := ⟨R.SEC_CMD_STAT, 0, 8⟩
def R.SEC_FW_OFS : Nat := 0x14101C
def F.SEC_FW_OFS : Fld := ⟨R.SEC_FW_OFS, 0, 22⟩
def R.SEC_FW_LEN : Nat := 0x141020
def F.SEC_FW_LEN : Fld := ⟨R.SEC_FW_LEN, 0, 16⟩
def R.SEC_SESS : Nat := 0x141024
def F.SEC_SESS_ACTIVE : Fld := ⟨R.SEC_SESS, 31, 1⟩
def F.SEC_SESS_HELLO : Fld := ⟨R.SEC_SESS, 30, 1⟩
def R.SEC_DBG_STAT : Nat := 0x141028
def F.SEC_DBG_STAT_DBG_KILL : Fld := ⟨R.SEC_DBG_STAT, 2, 1⟩
def F.SEC_DBG_STAT_CHAL : Fld := ⟨R.SEC_DBG_STAT, 1, 1⟩
def F.SEC_DBG_STAT_OPEN : Fld := ⟨R.SEC_DBG_STAT, 0, 1⟩
def R.SEC_CERT_STAT : Nat := 0x14102C
def F.SEC_CERT_STAT_IN : Fld := ⟨R.SEC_CERT_STAT, 31, 1⟩
def F.SEC_CERT_STAT_NOTLISTED : Fld := ⟨R.SEC_CERT_STAT, 4, 1⟩
def F.SEC_CERT_STAT_NOKEY : Fld := ⟨R.SEC_CERT_STAT, 3, 1⟩
def F.SEC_CERT_STAT_REQUIRE : Fld := ⟨R.SEC_CERT_STAT, 2, 1⟩
def F.SEC_CERT_STAT_DBG : Fld := ⟨R.SEC_CERT_STAT, 1, 1⟩
def F.SEC_CERT_STAT_SEC : Fld := ⟨R.SEC_CERT_STAT, 0, 1⟩
def R.SEC_TRNG_CNT : Nat := 0x141030
def F.SEC_TRNG_CNT_OK : Fld := ⟨R.SEC_TRNG_CNT, 16, 1⟩
def F.SEC_TRNG_CNT_N : Fld := ⟨R.SEC_TRNG_CNT, 0, 16⟩
def R.SEC_SIGN_CNT : Nat := 0x141034
def F.SEC_SIGN_CNT : Fld := ⟨R.SEC_SIGN_CNT, 0, 16⟩
def R.SEC_DISC : Nat := 0x141038
def F.SEC_DISC : Fld := ⟨R.SEC_DISC, 0, 16⟩
def R.SEC_CERT_LIST (n : Nat) : Nat := 0x141040 + n * 4
def F.SEC_CERT_LIST (n : Nat) : Fld := ⟨R.SEC_CERT_LIST n, 0, 32⟩

-- R676, spec/19_keystone_plumb.md
def R.SEC_DEVID_PUB (n : Nat) : Nat := 0x142000 + n * 4
def F.SEC_DEVID_PUB (n : Nat) : Fld := ⟨R.SEC_DEVID_PUB n, 0, 32⟩
def R.SEC_DEVID_ATT (n : Nat) : Nat := 0x142040 + n * 4
def F.SEC_DEVID_ATT (n : Nat) : Fld := ⟨R.SEC_DEVID_ATT n, 0, 32⟩
def R.SEC_OEM_KEY (n : Nat) (m : Nat) : Nat := 0x142100 + n * 0x40 + m * 4
def F.SEC_OEM_KEY (n : Nat) (m : Nat) : Fld := ⟨R.SEC_OEM_KEY n m, 0, 32⟩
def R.SEC_CHAL (n : Nat) : Nat := 0x142200 + n * 4
def F.SEC_CHAL (n : Nat) : Fld := ⟨R.SEC_CHAL n, 0, 32⟩
def R.SEC_STAGE (n : Nat) : Nat := 0x143000 + n * 4
def F.SEC_STAGE (n : Nat) : Fld := ⟨R.SEC_STAGE n, 0, 32⟩
def R.SEC_HOST_KEY (n : Nat) : Nat := 0x144000 + n * 4
def F.SEC_HOST_KEY (n : Nat) : Fld := ⟨R.SEC_HOST_KEY n, 0, 32⟩

-- R656, spec/19_keystone_plumb.md
def R.SEC_WIN (n : Nat) : Nat := 0x148000 + n * 4
def F.SEC_WIN (n : Nat) : Fld := ⟨R.SEC_WIN n, 0, 32⟩

-- R682, spec/19_keystone_plumb.md
def R.PLB_SUMMARY : Nat := 0x150024
def F.PLB_SUMMARY_MIS : Fld := ⟨R.PLB_SUMMARY, 8, 4⟩
def F.PLB_SUMMARY_BUSY : Fld := ⟨R.PLB_SUMMARY, 0, 4⟩
def R.PLB_DISC : Nat := 0x150028
def F.PLB_DISC : Fld := ⟨R.PLB_DISC, 0, 16⟩

-- R683, spec/19_keystone_plumb.md
def R.PLB_CFG (n : Nat) : Nat := 0x151000 + n * 0x40
def F.PLB_CFG_EXPSRC (n : Nat) : Fld := ⟨R.PLB_CFG n, 30, 2⟩
def F.PLB_CFG_EXPBE (n : Nat) : Fld := ⟨R.PLB_CFG n, 29, 1⟩
def F.PLB_CFG_SRC (n : Nat) : Fld := ⟨R.PLB_CFG n, 28, 1⟩
def F.PLB_CFG_LANE (n : Nat) : Fld := ⟨R.PLB_CFG n, 24, 4⟩
def F.PLB_CFG_REFOUT (n : Nat) : Fld := ⟨R.PLB_CFG n, 9, 1⟩
def F.PLB_CFG_REFIN (n : Nat) : Fld := ⟨R.PLB_CFG n, 8, 1⟩
def F.PLB_CFG_WM1 (n : Nat) : Fld := ⟨R.PLB_CFG n, 0, 6⟩
def R.PLB_POLY_LO (n : Nat) : Nat := 0x151004 + n * 0x40
def F.PLB_POLY_LO (n : Nat) : Fld := ⟨R.PLB_POLY_LO n, 0, 32⟩
def R.PLB_POLY_HI (n : Nat) : Nat := 0x151008 + n * 0x40
def F.PLB_POLY_HI (n : Nat) : Fld := ⟨R.PLB_POLY_HI n, 0, 32⟩
def R.PLB_INIT_LO (n : Nat) : Nat := 0x15100C + n * 0x40
def F.PLB_INIT_LO (n : Nat) : Fld := ⟨R.PLB_INIT_LO n, 0, 32⟩
def R.PLB_INIT_HI (n : Nat) : Nat := 0x151010 + n * 0x40
def F.PLB_INIT_HI (n : Nat) : Fld := ⟨R.PLB_INIT_HI n, 0, 32⟩
def R.PLB_XOR_LO (n : Nat) : Nat := 0x151014 + n * 0x40
def F.PLB_XOR_LO (n : Nat) : Fld := ⟨R.PLB_XOR_LO n, 0, 32⟩
def R.PLB_XOR_HI (n : Nat) : Nat := 0x151018 + n * 0x40
def F.PLB_XOR_HI (n : Nat) : Fld := ⟨R.PLB_XOR_HI n, 0, 32⟩
def R.PLB_ADDR (n : Nat) : Nat := 0x15101C + n * 0x40
def F.PLB_ADDR (n : Nat) : Fld := ⟨R.PLB_ADDR n, 0, 32⟩
def R.PLB_LEN (n : Nat) : Nat := 0x151020 + n * 0x40
def F.PLB_LEN (n : Nat) : Fld := ⟨R.PLB_LEN n, 0, 28⟩
def R.PLB_EXP_LO (n : Nat) : Nat := 0x151024 + n * 0x40
def F.PLB_EXP_LO (n : Nat) : Fld := ⟨R.PLB_EXP_LO n, 0, 32⟩
def R.PLB_EXP_HI (n : Nat) : Nat := 0x151028 + n * 0x40
def F.PLB_EXP_HI (n : Nat) : Fld := ⟨R.PLB_EXP_HI n, 0, 32⟩
def R.PLB_CMD (n : Nat) : Nat := 0x15102C + n * 0x40
def F.PLB_CMD (n : Nat) : Fld := ⟨R.PLB_CMD n, 0, 2⟩
def R.PLB_STAT (n : Nat) : Nat := 0x151030 + n * 0x40
def F.PLB_STAT_STATE (n : Nat) : Fld := ⟨R.PLB_STAT n, 29, 3⟩
def F.PLB_STAT_CMP (n : Nat) : Fld := ⟨R.PLB_STAT n, 28, 1⟩
def F.PLB_STAT_MATCH (n : Nat) : Fld := ⟨R.PLB_STAT n, 27, 1⟩
def R.PLB_RES_LO (n : Nat) : Nat := 0x151034 + n * 0x40
def F.PLB_RES_LO (n : Nat) : Fld := ⟨R.PLB_RES_LO n, 0, 32⟩
def R.PLB_RES_HI (n : Nat) : Nat := 0x151038 + n * 0x40
def F.PLB_RES_HI (n : Nat) : Fld := ⟨R.PLB_RES_HI n, 0, 32⟩
def R.PLB_DONE (n : Nat) : Nat := 0x15103C + n * 0x40
def F.PLB_DONE (n : Nat) : Fld := ⟨R.PLB_DONE n, 0, 28⟩

end Sys2Proof.Machine
end

