-- ==== Sys2Proof/Machine/Table.lean ====
section
/-! DEFINITION. Sparse tables in one canonical form: a list of (key, value) pairs with strictly rising keys and no entry
that equals what an unlisted key reads as. DRAM, the register file and the per-instance state of the blocks are held in
this form, so that equal contents are equal data. -/

namespace Sys2Proof.Machine

/-- A sparse table: strictly rising keys. -/
abbrev Table (α : Type) := List (Nat × α)

/-- The value listed for key `k`, or `d` where none is listed. -/
def Table.find {α : Type} (d : α) (k : Nat) : List (Nat × α) → α
  | [] => d
  | (j, v) :: t => if j = k then v else Table.find d k t

/-- The table without entries for `k`. -/
def Table.drop {α : Type} (k : Nat) : List (Nat × α) → List (Nat × α)
  | [] => []
  | (j, v) :: t => if j = k then Table.drop k t else (j, v) :: Table.drop k t

/-- The table with `v` listed for `k`, keys kept rising. -/
def Table.put {α : Type} (k : Nat) (v : α) : List (Nat × α) → List (Nat × α)
  | [] => [(k, v)]
  | (j, w) :: t => if k < j then (k, v) :: (j, w) :: t else if k = j then (k, v) :: t else (j, w) :: Table.put k v t

/-- The table after writing `v` at `k`, where an unlisted `k` reads as `d`: writing `d` removes the entry. -/
def Table.write {α : Type} [DecidableEq α] (d : α) (k : Nat) (v : α) (t : List (Nat × α)) : List (Nat × α) :=
  if v = d then Table.drop k t else Table.put k v t

/-- Keys strictly rising from above `lo` (or from any key where `lo` is none). -/
def Table.risingFrom {α : Type} (lo : Option Nat) : List (Nat × α) → Bool
  | [] => true
  | (j, _) :: t => (match lo with | none => true | some l => decide (l < j)) && Table.risingFrom (some j) t

/-- The canonical form: keys strictly rise and no entry equals what its key reads as when unlisted. -/
def Table.wf {α : Type} [DecidableEq α] (d : Nat → α) (t : List (Nat × α)) : Bool :=
  Table.risingFrom none t && t.all (fun e => e.2 ≠ d e.1)

/-- The entry of an instance's state; an instance not listed is in the state `default`. -/
def Table.get {α : Type} [Inhabited α] (t : Table α) (k : Nat) : α := Table.find default k t

/-- The table with instance `k` in state `v`. -/
def Table.set {α : Type} [Inhabited α] [DecidableEq α] (t : Table α) (k : Nat) (v : α) : Table α :=
  Table.write default k v t

/-- The table with instance `k`'s state changed by `f`. -/
def Table.modify {α : Type} [Inhabited α] [DecidableEq α] (t : Table α) (k : Nat) (f : α → α) : Table α :=
  t.set k (f (t.get k))

/-- The table with every listed instance's state changed by `f`. -/
def Table.mapAll {α : Type} [Inhabited α] [DecidableEq α] (f : α → α) : List (Nat × α) → Table α
  | [] => []
  | (k, v) :: t => if f v = default then Table.mapAll f t else (k, f v) :: Table.mapAll f t

end Sys2Proof.Machine
end

