-- ==== Sys2Proof/Machine/State.lean ====
section
/-! DEFINITION. The state of the machine, why it can stop, and the state right after reset. -/

namespace Sys2Proof.Machine

open Sys2Proof

/-- A command that raises a fault. No command of this block does: what goes wrong in the hardware is reported in
registers, events and error replies (R62, R147). -/
inductive Fault where
  /-- Raised by no command. Safe: no run ends in it. -/
  | none
  deriving DecidableEq, Repr

/-- Why a command is refused by the model. -/
inductive Refusal where
  /-- The command has no meaning yet. Raised only by an arm of exec. Safe: nothing is claimed of the command. -/
  | notModelled (mnemonic : String)
  deriving DecidableEq, Repr

/-- Why a request or a host write is refused (R62). -/
inductive ErrCode where
  | crc | seq | auth | opcode | length | align | absent | locked | openreq | encoding | sealed | denied | parity
  | lanefull | lanedir
  deriving DecidableEq, Repr

/-- A reply kept in the cache of R67, without the fields that are formed anew when it is repeated (R66). -/
structure Cached where
  seq     : Nat
  opc     : Byte
  err     : Bool
  payload : List Byte
  deriving DecidableEq, Repr

/-- The sequence state kept for one originator (R67, R72). -/
structure LinkSet where
  exp   : Nat            -- E
  cache : List Cached    -- newest first, at most 4
  bmem  : List Nat       -- SEQ of the last broadcasts executed, newest first, at most 4
  deriving DecidableEq, Repr, Inhabited

/-- What the module sends (R51, R52). -/
inductive Sent where
  | frame (p : Port) (bytes : List Byte)
  | tick (p : Port) (count : Nat) (delay : Nat)
  | train (p : Port)
  | probe (p : Port) (x : Byte)
  | spi (bytes : List Byte)
  deriving DecidableEq, Repr

/-- The Twiris link (R46 to R93). -/
structure LinkState where
  host     : LinkSet
  lead     : LinkSet
  sent     : List Sent          -- what has been sent, oldest first
  spiReply : List (List Byte)   -- SPI mode: replies not yet clocked out whole, oldest first (R50)
  lostAt   : List (Port × Nat)  -- ports that have lost lock, with the instant (R78, R79)
  wasDown  : List Port          -- ports declared down (R79)
  tickRun  : Nat                -- TICKs with consecutive counts since the last break (R86)
  loWait   : Bool               -- SYS_TICK_BASE_LO has been written and its HI not yet (R91)
  baseOk   : Bool               -- a SYS_TICK_BASE write has been accepted since the tick was lost (R86)
  tickLost : Bool               -- the satellite's tick is declared lost (R86)
  tickAt   : Nat                -- instant of the last TICK (R86)
  tickTag  : Nat                -- lead: tag of the last tick with count 0 (R85)
  ticked   : Bool               -- a TICK has been accepted since reset (R86)
  bcastSeq : Nat                -- lead: SEQ of its next broadcast (R85)
  deriving DecidableEq, Repr, Inhabited

/-- A SET entry of a footing or course image (R112). -/
structure SetEntry where
  addr  : Nat
  mask  : Word
  value : Word
  deriving DecidableEq, Repr

/-- A SEAL entry of a footing image (R112, R113). -/
structure SealEntry where
  addr : Nat
  mask : Word
  min  : Nat
  max  : Nat
  deriving DecidableEq, Repr

/-- The contents of a valid footing image (R111). -/
structure Footing where
  pers      : Nat
  initc     : Nat
  seq       : Nat
  svn       : Nat
  lead      : Nat        -- 0xFF none
  holdsLead : Bool
  sealmap   : Nat
  sets      : List SetEntry
  seals     : List SealEntry
  deriving DecidableEq, Repr

/-- The contents of a valid course image (R118). -/
structure Course where
  slot   : Nat
  rev    : Nat
  signed : Bool
  sets   : List SetEntry
  deriving DecidableEq, Repr

/-- The image command in progress (R128). -/
inductive ImgCmd where
  | erase | program (ofs len : Nat) | verify | load (slot : Nat)
  deriving DecidableEq, Repr

/-- Footing, courses and image commands (R111 to R128). A flash copy is the bytes from its start; the bytes after them
are erased and read 0xFF. -/
structure CfgState where
  copyA    : List Byte
  copyB    : List Byte
  footing  : Option Footing      -- the footing that booted
  courses  : Table (Option Course)
  cur      : Option Course       -- the course of the latest change, as latched at its request (R125); none is course 0
  prev     : Option Course       -- the course before it
  crsAt    : Nat                 -- instant the change in progress began (R123)
  crsTmo   : Bool                -- its time-out has been reported (R123)
  img      : Option ImgCmd
  selSvn   : Nat                 -- SVN of the footing that SEQ selects, 0 where no copy is valid (R115, R657)
  resets   : List Block          -- blocks whose SOFT_RESET waits for the end of their atomic unit (R105, R106)
  paceLate : List Nat            -- Pacers, and learners from 16 on, that are yet to take the course at their own safe point (R518)
  canLate  : List Nat            -- CAN objects in transmission when CAN took the course, which take it at their frame's end (R122)
  deriving DecidableEq, Repr, Inhabited

/-- A message an SV-96 producer holds under WAIT = 1: its entries without their first two bytes (R138). -/
structure HeldEntry where
  lseq  : Nat           -- its number in the lane, modulo 2^16 its LSEQ
  bytes : List Byte     -- bytes 2 to 63 of the entry
  deriving DecidableEq, Repr

/-- What a lane keeps beside its registers (R137, R138). -/
structure LaneState where
  lseq       : Nat               -- how many entries the SV-96 has produced, modulo 2^16 LSEQ of the next (R137)
  lostBefore : Bool              -- the next entry written carries LOSTBEFORE
  held       : List HeldEntry    -- oldest first
  deriving DecidableEq, Repr, Inhabited

/-- What a tracking channel keeps beside its registers (R164 to R177). -/
structure GnssCh where
  hostPend : Bool    -- a host change takes effect at the next dump (R174)
  resume   : Nat     -- why the channel is IDLE and will resume: 0 not, 1 path or antenna (R176), 2 block disabled (R185)
  fails    : Nat     -- consecutive failed assessments in TRACK (R171)
  goods    : Nat     -- consecutive good assessments in RECOVER (R172)
  locks    : Nat     -- consecutive assessments with a PLL lock indicator of 0.8 (R169)
  fllDone  : Bool    -- the frequency error has been below 5 Hz in this PULLIN
  pllOn    : Bool    -- the PLL is engaged in this PULLIN
  since    : Nat     -- instant PULLIN or RECOVER was entered
  slipped  : Bool    -- a slip or an entry into TRACK since the previous epoch (R202)
  centre   : Option Int  -- centre of the Doppler search in 1/256 Hz, where it is the last Doppler (R172, R176, R177)
  tried    : List (Nat × Nat)  -- signals of the visibility list taken since the order of candidates began (R168)
  range    : Nat × Nat         -- the last candidate taken from the PRN ranges (R168)
  carrAcc  : Int     -- carrier and code accumulators since the last entry into TRACK, in 2^-52 cycle and chip, as of the
  codeAcc  : Nat     -- instant `accAt` in 1/65,536 count (R201, R202)
  accAt    : Nat
  loop     : Word    -- GNSS_CH_LOOP in force, as of the last dump (R174, R186)
  integ    : Nat     -- coherent integration time in force, in ms (R170)
  deriving DecidableEq, Repr, Inhabited

/-- What a drain has still to send of one path (R183): the region's base, and the byte offsets within it of the range's
first byte, of the next byte to send and of the end. -/
structure DrainPath where
  path  : Nat
  base  : Nat
  first : Nat
  next  : Nat
  stop  : Nat
  deriving DecidableEq, Repr

/-- The fields of the write that started a capture (R194), its LEN, and the instant of its first sample. -/
structure SnapGo where
  paths   : Nat
  start   : Nat
  stopJam : Bool
  len     : Nat
  since     : Nat
  deriving DecidableEq, Repr, Inhabited

/-- One AGC path (R160, R161): the gains of the last 60 s without JAMMING, newest first, and run lengths in ms. -/
structure AgcPath where
  hist  : List Nat
  lowMs : Nat
  okMs  : Nat
  limMs : Nat
  deriving DecidableEq, Repr, Inhabited

/-- One antenna's bias judgement (R156). -/
structure AntBias where
  openMs  : Nat
  shortMs : Nat
  deriving DecidableEq, Repr, Inhabited

/-- The GNSS front end beside its registers and channels. -/
structure GnssState where
  ant      : Table AntBias
  agc      : Table AgcPath
  vantBad  : Bool               -- both bias switches are open under R157
  stopped  : Bool               -- ISL_GNSS stopped by a clock fallback (R177)
  started  : Bool               -- the capture's first sample has been taken (R180)
  inc      : Bool               -- the capture is incomplete (R181)
  stop     : Bool               -- the operation ends at the end of its current page (R180, R182)
  cancel   : Bool               -- CANCEL was written (R182)
  drain    : List DrainPath     -- what a drain has still to send
  go       : SnapGo             -- the latest capture's own settings
  proc     : Nat × Nat          -- PATH and SIGMASK of the latest PROCESS, as at its command (R184)
  deriving DecidableEq, Repr, Inhabited

/-- The NAV block beside its registers (R197 to R223, R702, R703). -/
structure NavState where
  solQ      : Nat                  -- quality of the latest epoch's solution (R206)
  sol       : Option NavSolution   -- a solution that arrived since the previous pose (R215)
  last      : Option NavSolution   -- the last valid solution
  ab        : Option NavSolution   -- the latest epoch's solution where it gives an A–B heading (R212)
  abAt      : Nat                  -- instant it arrived
  abNew     : Bool                 -- it arrived since the previous pose (R213)
  rtkAmb    : Nat                  -- time tags at which the ambiguities were last discarded (R209, R225)
  abAmb     : Nat
  offAt     : Nat                  -- time tag at which ENABLE was last cleared (R225)
  solAt     : Nat                  -- instant it arrived
  timeAt    : Nat                  -- instant of the last valid time solution (R220)
  discAt    : Nat                  -- instant since which the XO is disciplined (R221)
  timeEpoch : Nat                  -- epoch tag of the last valid time solution
  runs      : Nat                  -- consecutive epochs with a valid time solution in holdover (R222)
  timeUnc   : Nat                  -- 1σ of the last time solution in ns, or the uncertainty at `uncAt` in holdover (R702)
  uncAt     : Nat                  -- instant of that value
  uncFrom   : Nat                  -- instant of the entry into this holdover state (R220)
  uncRate   : Nat                  -- its growth in ns per second (R221)
  uncLimit  : Bool                 -- UNC_LIMIT has been raised in this holdover
  corr      : Int                  -- the part of e still to be steered or slewed out, in 1e-11 count (R199, R222)
  phase     : Nat                  -- what the time base is ahead of the tag, in 1e-11 count
  drift     : Int                  -- drift of the XO frequency model in 1e-8 ppb per second (R220)
  holdUntil : Nat                  -- instant a hold ends (R222)
  steps     : Nat                  -- steps and holds of the time base so far (R222, R515)
  hdg       : Nat                  -- heading in 1e-5°
  hdgAt     : Nat                  -- instant of the last A–B or course heading (R213)
  hdgUnc    : Nat                  -- its 1σ in 0.01° (R703)
  noAbMs    : Nat                  -- ms without an A–B heading (R213)
  hgt       : Int                  -- the pose's height in µm (R215)
  blendN    : Int                  -- a blend in progress (R215): north, east and height parts in µm, length and age in ms
  blendE    : Int
  blendH    : Int
  blendLen  : Nat
  blendAge  : Nat
  dr        : Nat                  -- dead-reckoned travel in µm (R215)
  hist      : List (Int × Int)     -- fused speed and yaw rate of the last poses, newest first
  rtcm      : List Byte            -- RTCM bytes not yet framed (R207)
  msm       : Option Nat           -- epoch of the newest MSM in use, as a time tag (R209)
  ageOver   : Bool                 -- the correction age is above AGE_MAX (R209)
  imu       : List Int             -- the last sample's six axes, scaled by 1e-6 (R216)
  imuTag    : Nat
  imuAt     : Nat                  -- instant of the last good sample, or of IMU_EN = 1 after it (R217)
  imuGood   : Option Nat           -- instant of the last good sample (R235)
  imuLost   : Bool                 -- IMU_LOST has been raised since the last good sample
  imuSent   : List Byte            -- the command bytes of the last transaction
  tp        : Table Nat            -- instants at which the pulses of TP0 and TP1 end (R218)
  deriving DecidableEq, Repr, Inhabited

/-- A pulse interface beside its registers (R239 to R244). -/
structure EncState where
  a        : Bool    -- filtered line levels
  b        : Bool
  z        : Bool
  cnt      : Int     -- edges of the present window
  winStart : Nat     -- instants
  lastEdge : Nat
  win      : Nat     -- WIN and SCALE in force for the present window (R244)
  scale    : Nat
  zArmed   : Bool    -- a RESET1 load is armed (R241)
  badAt    : Nat     -- instant a used line was last found bad (R239)
  deriving DecidableEq, Repr, Inhabited

/-- An SSI master (R248, R249). -/
structure SsiState where
  busy : Bool
  cfg  : Nat     -- FBK_SSI_CFG latched for the frame in progress
  tag  : Nat     -- time tag of its first falling edge
  errs : Nat     -- consecutive frames in error
  out  : Bool    -- the run has reached ERR_N (R249)
  deriving DecidableEq, Repr, Inhabited

/-- An emulation output (R250, R251): the phase in cycles, in units of 1 / (256 × 65,536 × 1,000,000 × 16,000), at the instant
`since` of the last update, and how far it moves in each count from then on. -/
structure EmuState where
  phase  : Int
  rate   : Int
  since  : Nat
  zRun   : Nat    -- times A had risen in a row in one direction by then
  zNeg   : Bool   -- that direction
  zCount : Nat    -- Z pulses sent by then
  deriving DecidableEq, Repr, Inhabited

/-- An analog input (R253, R254): the filter and run lengths in samples. -/
structure AinState where
  y       : Nat     -- filtered sample with 16 fraction bits
  init    : Bool    -- y holds a sample
  outRun  : Nat
  inRun   : Nat
  lowRun  : Nat
  okRun   : Nat
  highRun : Nat
  deriving DecidableEq, Repr, Inhabited

/-- Speed fusion (R256, R257). -/
structure FusState where
  d    : Int          -- blend offset
  rem  : Nat          -- blend remaining in ms
  len  : Nat          -- blend length
  dis  : Table Nat    -- ms for which a pair of slots has disagreed, by 6 × a + b
  deriving DecidableEq, Repr, Inhabited

/-- A tile slot of the map window (R281, R312): 0 free, 1 loading, 2 resident, 3 evicting. -/
structure GeoSlot where
  st    : Nat
  tx    : Int
  ty    : Int
  dirty : Bool
  lost  : Bool
  last  : Nat     -- time tag of the last write to the tile
  msgEnd : Nat    -- evicting: LSEQ of the last entry of its message (R290)
  deriving DecidableEq, Repr, Inhabited

/-- A tile load in progress (R287, R288). -/
structure GeoLoad where
  slot : Nat
  next : Nat      -- offset of the next data entry
  deriving DecidableEq, Repr, Inhabited

/-- A point's crossing (R296): 0 closed, 1 opening, 2 open, 3 closing. Instants are time tags, delays are in µs. -/
structure GeoCross where
  cross   : Nat
  id      : Nat           -- the crossing's number
  layer   : Nat           -- latched when the crossing began (R274)
  bind    : Nat           -- the binding word, latched in the same way
  tc      : Nat           -- opening command: tag, opening latency, hydraulic delay
  latO    : Nat
  hydO    : Nat
  tk      : Nat           -- closing command
  latC    : Nat
  hydC    : Nat
  start   : Nat
  known   : Bool          -- the start is known
  stop    : Option Nat    -- the end, where known
  noted   : Nat           -- up to where it has been recorded in chunks (R301)
  written : Nat
  infO    : Bool          -- the start, the end is inferred
  infC    : Bool
  confO   : Bool          -- the start, the end was confirmed
  confC   : Bool
  cont    : Bool          -- part of the crossing lies in an earlier chunk
  deriving DecidableEq, Repr, Inhabited

/-- A record of the open chunk (R303). -/
structure GeoRec where
  pt      : Nat
  id      : Nat
  flags   : Nat           -- byte 1
  pq      : Nat
  layer   : Nat
  duty    : Option (Nat × Nat)   -- sum of duties in 0.1 %, and how many
  tStart  : Nat
  tEnd    : Nat
  s       : Int × Int
  e       : Int × Int
  deriving DecidableEq, Repr, Inhabited

/-- A closed chunk (R302): signed once its message has been produced. -/
structure GeoChunk where
  head   : List Byte
  recs   : List GeoRec
  t0     : Nat
  signed : Bool
  msgEnd : Nat            -- once produced: LSEQ of the last entry of its message (R304)
  deriving DecidableEq, Repr, Inhabited

/-- The offsets and the footprint width of a point, in mm, as GEO took them at its last update (R274). -/
structure PtShape where
  x : Int
  y : Int
  z : Int
  w : Nat
  deriving DecidableEq, Repr, Inhabited

/-- The GEO block beside its registers. -/
structure GeoState where
  slots   : Table GeoSlot
  needed  : List (Int × Int)
  asked   : List ((Int × Int) × Nat)   -- tiles requested, with the instant (R286)
  load    : Option GeoLoad
  poses   : List GeoPose               -- the pose history, newest first (R296)
  posed   : Option GeoPose             -- the last one with a quality other than NONE (R285)
  shapes  : Table PtShape              -- the points' offsets and widths in use (R274)
  fences  : List (List (Int × Int))    -- the fence set in force (R295)
  next    : List (List (Int × Int))    -- the set being committed
  swap    : Bool                       -- the planes switch at the next geometry update
  points  : Table GeoCross             -- PT000 to PT127, then SPT000 to SPT895
  tails   : List (Nat × GeoCross)      -- crossings ended by a new open command and not yet written to their end (R297)
  ids     : Nat
  flush   : Option Nat                 -- LSEQ of the last entry of the last message of FLUSH or EVICT_ALL (R291)
  opened  : Option Nat                 -- start tag of the open chunk
  openAt  : Nat                        -- instant it opened
  recs    : List GeoRec
  cells   : Nat                        -- totals of the open chunk
  ovl     : Nat
  excl    : Nat
  lostRec : Bool                       -- records have been dropped since the last chunk (R305)
  chunks  : List GeoChunk              -- closed chunks not yet complete in LANE2, oldest first
  deriving DecidableEq, Repr, Inhabited

/-- A queued command of a point (R317, R318, R320). -/
structure StrCmd where
  on    : Bool
  start : Nat        -- tag plus offset, as a time tag
  lat   : Nat        -- the latency and the hydraulic delay that Stride used, in µs
  hyd   : Nat
  was   : Nat        -- the plan before the command
  duty  : Nat        -- 0xFFFF none
  bind  : Nat        -- the binding word it was formed for, and GEO_PT_CANVAL (R274)
  vals  : Nat
  sent  : Bool       -- remote: the satellite has accepted it
  busy  : Nat × Nat  -- the last window predicted for the output once it starts (R319)
  deriving DecidableEq, Repr, Inhabited

/-- A point of Stride (R321 to R336). -/
structure StrPt where
  plan    : Nat          -- 0 off, 1 on queued, 2 on, 3 off queued (R359)
  settled : Bool         -- the point has decided since it became free (R331)
  skip    : Bool
  noBoost : Bool
  wait    : Nat          -- how long its booked BOOST starts after its command (R319, R332)
  dutySat : Bool
  latSrc  : Nat
  offWhy  : Nat
  valid   : Bool         -- decided at the last tick
  travel  : Nat          -- µm since the last command started
  hyd     : Nat          -- hydraulic delay in µs
  leadOn  : Nat          -- µs
  leadOff : Nat
  latO    : Nat
  latC    : Nat
  duty    : Nat          -- 0.1 %
  scale   : Nat          -- uQ2.14
  lastOn  : Bool         -- the last command started was an ON
  bind    : Nat          -- the binding word that the last ON was formed for (R274)
  repO    : Nat          -- latencies of the last satellite report with CONF_OK = 1, in µs (R321)
  repC    : Nat
  repOk   : Bool
  dutyTx  : Nat          -- the last duty sent to a satellite, and its instant (R336)
  dutyAt  : Nat
  ons     : Nat          -- ON commands started
  late    : Nat
  skips   : Nat
  lateMax : Nat
  stag    : Nat
  stagMax : Nat
  queue   : List StrCmd  -- commands formed and not yet started, oldest first
  ran     : List StrCmd  -- the last commands started, newest first (R319, R349)
  deriving DecidableEq, Repr, Inhabited

/-- The BOOST bookings of a bank (R332): end and start of the latest, as time tags. -/
structure StrBank where
  free  : Nat
  start : Nat
  deriving DecidableEq, Repr, Inhabited

/-- A command for a satellite's output (R345, R346). -/
structure SatCmd where
  pt    : Nat
  bind  : Nat      -- the binding word it was formed for (R274)
  op    : Nat      -- 1 ON, 2 OFF, 3 DUTY
  duty  : Nat
  start : Nat
  due   : Bool     -- an OFF kept by a time step that has passed its tag: it goes out all the same (R343)
  deriving DecidableEq, Repr, Inhabited

/-- A push sent and not answered (R345, R350): its sequence numbers, what it carries, and whether it may be sent again as it
was. -/
structure SatPush where
  seq   : Nat
  lseq  : Nat
  cmds  : List SatCmd
  whole : Bool
  deriving DecidableEq, Repr, Inhabited

/-- What the lead keeps for one satellite (R346, R350). -/
structure SatState where
  queue    : List SatCmd            -- waiting, in order of tag and offset
  inFlight : List SatPush           -- pushes sent and not answered, oldest first
  placed   : List SatCmd            -- commands that it has accepted and that have not started (R318)
  pushed   : Option Nat             -- the tick of the latest new push (R345)
  fails    : Nat
  lost     : Bool                   -- marked unreachable
  seq      : Nat                    -- sequence number of the next push
  lseq     : Nat                    -- LSEQ of the next entry
  dueAt    : Nat                    -- instant of the last OFF retry
  deriving DecidableEq, Repr, Inhabited

/-- Where a command for an output of this module comes from. -/
inductive CmdSource where
  | stride (pt : Nat)
  | host
  | lead (start : Nat)     -- a LANE10 command, with its start instant
  deriving DecidableEq, Repr, Inhabited

/-- A command on its way to a solenoid channel or a load switch, or queued there (R318, R380, R434). -/
structure OutCmd where
  src   : CmdSource
  out   : Nat
  op    : Nat              -- 1 ON, 2 OFF, 3 DUTY
  start : Nat
  duty  : Nat              -- 0xFFFF none
  deriving DecidableEq, Repr, Inhabited

/-- The STR block beside its registers. -/
structure StrState where
  points  : Table StrPt        -- PT000 to PT127, then SPT000 to SPT895
  banks   : Table StrBank      -- local banks by number, remote ones by 16 + 16 × satellite + bank
  sats    : Table SatState
  stop    : Bool
  base    : Nat                -- 0 RUN, 1 DR, 2 LOSS
  rebuild : List Nat           -- ENG6 and ENG7 while they rebuild working memory, in the order of their losses (R38)
  idle    : Bool               -- disabled
  good    : Option GeoPose     -- the last pose at or above QREQ (R339)
  drPose  : Option GeoPose
  dr      : Nat                -- DR travel in µm
  solWire : List OutCmd        -- local commands on their way to the power dies and to the load switches
  hswWire : List OutCmd
  satOn   : Table Bool         -- outputs of a satellite that a LANE10 ON left on, by 128 × KIND + INST (R347)
  busy    : Table (Nat × Nat)  -- start and end of the last BOOST, PEAK or decay window predicted for an output (R319)
  satLast : Table Nat          -- the start instant of the last LANE10 command, in the same way (R348)
  deriving DecidableEq, Repr, Inhabited

/-- A profile's fields latched at its start (R378). -/
structure Profile where
  iPeak  : Nat      -- 10 mA
  iHold  : Nat
  tBoost : Nat      -- µs
  tPeak  : Nat      -- 10 µs
  slow   : Bool
  fChop  : Nat
  deriving DecidableEq, Repr, Inhabited

/-- A solenoid channel beside its registers (R374 to R397). -/
structure SolCh where
  queue    : List OutCmd       -- oldest start instant first
  prof     : Profile
  phaseAt  : Nat               -- instant the phase was entered
  waitAt   : Nat               -- instant the boost request was made
  offAt    : Nat               -- instant the channel entered OFF
  train    : Bool              -- a PWM train runs (R386)
  nextAt   : Nat               -- time tag of its next cycle start
  offTag   : Option Nat        -- time tag of the present cycle's off instant
  offPend  : Bool              -- an off instant waits for the end of PEAK (R387)
  late     : Bool              -- the cycle's profile waits for the end of DECAY (R387)
  stopping : Bool              -- the channel or the block was disabled: DECAY after PEAK (R397)
  hist     : List (Nat × Nat)  -- on-time in 1/16 µs and current integral in 1e-6 A²s of the last sub-windows, newest first (R390)
  winAt    : Nat               -- instant the present sub-window began (R390)
  onAcc    : Nat               -- its on-time up to the entry into the present phase, in 1/16 µs
  overLim  : Bool              -- over its duty-window limit
  overOff  : Bool              -- ACTION was OFF when the channel went over its limit (R391)
  derated  : Bool              -- the present or last HOLD ran under derate (R415)
  deriving DecidableEq, Repr, Inhabited

/-- A channel's sensing (R408 to R416). Instants are time tags, `…Clk` instants of the clock. -/
structure ArmCh where
  openWin  : Bool
  openAt   : Nat      -- entry into BOOST or NOBOOST
  peakAt   : Option Nat -- the entry into PEAK, once the rise has ended (R411)
  openDet  : Word     -- ARM_CH_DET as the opening window opened (R426)
  openEnd  : Option Nat -- the window's end, once PEAK, or the rise, has ended (R408)
  openSkip : Bool     -- an opening in NOBOOST (R415)
  closeWin : Bool
  closeAt  : Nat      -- start of DECAY
  closeClk : Nat
  closeSkip : Bool    -- a closing that is not learned (R415)
  closeV   : Nat      -- VBANK at DECAY start, 10 mV
  closeDet : Word     -- ARM_CH_DET as the closing window opened (R426)
  decayEnd : Option Nat -- the end of the window's DECAY, once it has ended (R412)
  closeFor : Nat      -- CLOSE_WIN in ms of the window in progress (R426)
  holdClk  : Nat      -- the last HOLD that gave a resistance
  holdAny  : Bool
  holdEnd  : Nat      -- end of the last HOLD of at least 10 ms (R416)
  fail     : Bool     -- SENSE_FAIL is in force
  deriving DecidableEq, Repr, Inhabited

/-- An end-of-travel window of a load switch (R421, R422). -/
structure EotWin where
  on     : Bool       -- the window is open
  since  : Nat        -- time tag of switch-on or switch-off
  start  : Nat        -- start instant of the LANE10 command that switched (R348)
  clk    : Nat
  cfg    : Word       -- ARM_SW_CFG, ARM_SW_STALL, ARM_SW_IGN and ARM_SW_THR of the window (R426)
  stall  : Word
  ign    : Word
  thr    : Word
  away   : Bool       -- the input or the line has been seen off the end of travel within the window (R421)
  deriving DecidableEq, Repr, Inhabited

/-- A load switch's end-of-travel sensing: the opening and the closing windows, and what is learned (R421, R422). -/
structure ArmSw where
  opening : EotWin      -- the oldest that lasts
  closing : EotWin
  later   : List (Bool × EotWin)  -- younger ones that last too, with their direction, oldest first
  confO  : Nat
  confC  : Nat
  missO  : Nat
  missC  : Nat
  driftO : Nat
  driftC : Nat
  deriving DecidableEq, Repr, Inhabited

/-- A die's adaptation (R423, R424). -/
structure ArmDie where
  hold   : Nat             -- the target is held until this instant (R424), or the present PERIOD ends then (R423)
  raised : Option Nat      -- instant of the last BOOST_ADAPT
  deriving DecidableEq, Repr, Inhabited

/-- A load switch beside its registers (R434 to R454). -/
structure HswCh where
  queue    : List OutCmd       -- oldest start instant first
  cmd      : Bool              -- on by command
  onAt     : Nat               -- instant of the last switch-on
  age      : Nat               -- how long a switch had been on when the device reset came that held it (R454)
  limit    : Nat               -- inrush limit latched then, in 10 mA (R438)
  inrEnd   : Nat               -- instant at which T_INR, as latched then, ends
  soft     : Nat               -- SOFT in ms latched then, 0 once the output has gone off
  judgeAt  : Nat               -- instant from which OC_T runs (R440, R445)
  offAt    : Nat               -- instant of the last turn-off
  olAt     : Nat               -- instant from which OL_FILTER runs, moved on by the off-times in PULSE mode (R442)
  ot       : Bool              -- off at 175 °C and not yet below 150 °C (R443)
  cal      : Bool              -- its sense-offset calibration runs (R635)
  first    : Bool              -- PULSE: the next pulse is the first after an ON (R447)
  edgeOn   : Option Nat        -- PULSE: time tag of the next turn-on, its on-time in µs, time tag of the turn-off
  pulse    : Nat
  edgeOff  : Option Nat
  clamp    : List (Nat × Nat)  -- turn-offs of the last second: instant and energy in 0.1 mJ (R448)
  kept     : Option (Word × Word)   -- HSW_CH_OL and HSW_CH_OC that a held switch keeps through the reset (R454)
  deriving DecidableEq, Repr, Inhabited

/-- A pulse generator (R446): running, and the period in force in µs with the time tag of its start. -/
structure HswGen where
  run   : Bool
  per   : Nat
  start : Nat
  deriving DecidableEq, Repr, Inhabited

/-- A VHS group in a dip: its start, and whether the hold runs (R445). -/
structure HswGroup where
  since : Nat
  hold  : Bool
  deriving DecidableEq, Repr, Inhabited

/-- What the power dies and the record store keep of limp-home and hold-over (R451, R454). -/
structure HswKeep where
  latchA   : List Word                        -- HSW_LH_MAP as each die holds it
  latchB   : List Word
  store    : Option (List Word × Nat × Nat)   -- record store, newest slot: table, HOLD_OVER_RESET of the switches, HOLD_T
  older    : Option (List Word × Nat × Nat)   -- record store, older slot (R607)
  holdMask : Nat                              -- the dies' copy of HOLD_OVER_RESET and HOLD_T
  holdT    : Nat
  here     : Nat                              -- load switches of the personality that booted last (R7)
  deriving DecidableEq, Repr, Inhabited

/-- A Pacer (R501 to R505): x, v and a in units of 2^-32, the command waiting (0 none, 1 GO, 2 STOP, 3 JUMP). -/
structure Pacer where
  x   : Int
  v   : Int
  a   : Int
  cmd : Nat
  deriving DecidableEq, Repr, Inhabited

/-- A lap learner beside its registers and table (R506 to R510). -/
structure LapState where
  pc      : Option Nat    -- phase count and cell index at the previous sample
  k       : Nat
  c       : Nat           -- output cell then
  lap     : Int           -- lap term then
  was     : Bool          -- the learner supplied a term then
  touched : Bool          -- the table was reset since (R508)
  olds    : List (Nat × Int) -- what cells that the host has written since held then (R508)
  seen     : Nat          -- jumps of the source's position by then (R241)
  learning : Bool
  srcBad  : Bool
  deriving DecidableEq, Repr, Inhabited

/-- An injector beside its registers (R511 to R513). -/
structure InjState where
  tagged : Bool           -- armed by START_AT
  stop   : Bool           -- ends at the loop's next sample
  s      : Nat            -- the PRBS register
  k0     : Option Nat     -- instant of k = 0 of the last run
  deriving DecidableEq, Repr, Inhabited

/-- The tuning capture (R514 to R516). -/
structure CapState where
  started : Bool
  goAt    : Nat               -- instant of GO
  steps   : Nat               -- steps and holds of the time base by then
  skip    : Nat               -- samples of LOOP until the next set
  buf     : List (List Word)  -- sets not yet written, oldest first
  index   : Nat               -- of the first of them
  held    : Nat               -- trailers held under WAIT = 1, each of which CAP_DONE waits for
  broke   : Bool              -- an entry of the capture's message was dropped, and the rest of it is dropped too (R138)
  deriving DecidableEq, Repr, Inhabited

/-- A value on its way to a binding (R465, R466): the loop, or 32 + the heat, that formed it, the binding word, the value
as sQ16.16 and the apply instant. -/
structure LoopVal where
  owner : Nat
  word  : Nat
  val   : Int
  due   : Nat
  deriving DecidableEq, Repr, Inhabited

/-- A loop beside its registers (R472 to R488). -/
structure LoopState where
  cmd   : Nat                 -- the command waiting: 0 none, 1 CLOSE, 2 OPEN, 3 RELEASE
  chg   : Bool                -- the next sample of a CLOSED loop is a closing sample (R483, R489)
  pend  : Option LoopVal      -- formed at the last sample
  sPrev : Int
  dPrev : Int
  hold  : Int                 -- l when OPEN was entered
  e     : Int
  feAt  : Option Nat          -- instant since which FE_RUN is 1
  fol   : Bool                -- FOLLOW has been raised since then
  hist  : List (Int × Int)    -- y and the value applied at the samples since CLOSED was entered, newest first (R486)
  deriving DecidableEq, Repr, Inhabited

/-- A heat beside its registers (R480 to R482). -/
structure HeatState where
  pend   : Option LoopVal
  winner : Option Nat
  deriving DecidableEq, Repr, Inhabited

/-- The CTL block beside its registers. -/
structure CtlState where
  loops : Table LoopState
  heats : Table HeatState
  binds : Table (Option Int)   -- l of each binding, by binding word; 2^32 + the writer for OKIND 0 (R470)
  wire  : List LoopVal         -- sent and not arrived
  held  : List LoopVal         -- arrived before their apply instant
  deriving DecidableEq, Repr, Inhabited

/-- A CAN controller beside its registers (R526 to R541). -/
structure CanCtl where
  mode     : Nat            -- the mode in force: 0 INIT, 1 NORMAL, 2 LISTEN, 3 LOOPBACK
  held     : Bool           -- in INIT because of a clock fallback (R528)
  txErr    : Nat
  rxErr    : Nat
  passive  : Bool
  busOff   : Bool
  recover  : Bool           -- bus-off recovery runs (R541)
  inFrame  : Bool           -- a frame is in progress on the bus
  active   : Option Nat     -- the object in an attempt
  deriving DecidableEq, Repr, Inhabited

/-- A message object beside its registers (R529 to R549). -/
structure CanObj where
  pendAt   : Nat            -- instant the object became pending (R538)
  tmoDone  : Bool           -- TX_TMO has been raised for this request
  tmoLatch : Bool           -- the running attempt ends the request with TIMEOUT
  discard  : Bool           -- the block was disabled during the attempt (R551)
  errs     : Nat            -- attempts of this request that failed by an error (R535)
  attCfg   : Nat            -- CAN_OBJ_CFG for the running attempt (R530)
  att      : CanFrame       -- the frame of the running attempt (R532)
  attSof   : Nat            -- time tag of its start of frame
  stored   : CanFrame       -- the frame last stored (R544)
  storedT  : Nat            -- time tag of its start of frame
  storedAt : Nat            -- instant of the last stored frame, and of the last with a usable speed (R546, R549)
  usableAt : Nat
  spdLost  : Bool           -- SPD_MSG_LOST has been raised since then
  deriving DecidableEq, Repr, Inhabited

/-- The clocks beside the CLK registers (R560 to R583). -/
structure ClkState where
  step    : Nat            -- clock start-up (R567): 0 not begun, 1 MRC awaited, 3 XO being verified, 5 trimmed, 6 in fallback
  xoAt    : Nat            -- instant step 3 began
  passes  : Nat            -- consecutive MRC checks passed, or failed (R561)
  fails   : Nat
  trimPasses : Nat         -- passes since the last trim (R567)
  counts  : List Nat       -- XO counts since it was last unverified, newest first, at most 8 (R562)
  hist    : List (Nat × Nat)   -- XO counts of the preceding second with their instants, newest first (R570)
  devs    : Nat            -- consecutive counts more than 1.0 % from their mean
  stopReq : List Nat       -- islands asked to stop at their next transaction boundary (R566)
  halted  : List Nat       -- islands that a fallback, a lost PLL or a trip has stopped (R566, R577)
  pllLost : List (Nat × Nat)   -- PLLs that lost lock, with the instant (R573)
  gateAt  : List (Nat × Nat)   -- islands with a gate requested, with the instant (R576)
  pairs   : List (Int × Int)   -- least and greatest temperature of the MRC measurements, in 0.1 °C (R563)
  lastTemp : Int               -- temperature at the last measurement
  freq    : Int                -- CLK_MRC_FREQ as last measured, in 0.1 ppm (R563)
  corr    : Int                -- correction applied to the time base in fallback, in 0.1 ppm (R563)
  refAt   : Nat                -- instant of the last change of a PLL reference (R578)
  lowerAt : Nat                -- instant the core rail was last lowered
  avsAt   : Nat                -- instant of the last 100 µs step of the core rail (R578)
  avsLow  : Option Nat         -- instant since which the margin is too low at 0.90 V
  avsTold : Bool               -- AVS_LIM has been raised for it (R147, R578)
  sscFab  : Nat × Nat          -- RATE and DEPTH in effect (R574)
  sscDrv  : Nat × Nat
  deriving DecidableEq, Repr, Inhabited

/-- Supplies, start-up and the watchdog beside the PWR registers (R585 to R614). -/
structure PwrState where
  booting  : Bool                 -- PU0 has begun since the last power-on reset (R588)
  straps   : Option (Bool × Nat)  -- LINKSEL and ADDR as sampled at the end of PU0 (R587)
  held     : Bool                 -- RESET_N holds the module in device reset (R592)
  softAt   : Option Nat           -- instant of a write of SOFT_RESET in the SYS region (R593)
  bootAt   : Nat                  -- instant from which the boot time counts (R590)
  runAt    : Option Nat           -- instant RUN was reached
  counted  : Bool                 -- this boot's power cycle has been counted (R606)
  ends     : List Nat             -- power dies whose drive safe state the next PU4 ends: a device reset has come since (R28)
  frac     : Nat                  -- counts of 1/16 µs since the last whole operating second
  slugWarn : Bool                 -- the slug warning condition holds (R605)
  linkAt   : Table Nat            -- instant of the last die-link frame to each power die (R28)
  deriving DecidableEq, Repr, Inhabited

/-- What one slot of each item of the record store holds (R606, R607). -/
structure RecordStore where
  hours  : Option Nat
  pcyc   : Option Nat
  cycles : Option (List Word)            -- SOL_CH_CYCLES of 96 channels, then HSW_CH_CYCLES of 24 switches
  lat    : Option (List (List Word))     -- learned latencies and confidences (R419)
  tel    : Option (List Word)            -- the telemetry summaries (R637)
  prefer : Option Nat                    -- the preferred firmware slot (R653)
  deriving DecidableEq, Repr, Inhabited

/-- Work that waits for the flash interface (R629): record-store writes, a PERSIST, an image or firmware command, the
telemetry write, and an erase of a plane B sector or its move to another, with the slots it still takes. -/
inductive FlashOp where
  | hours | periodic | persist | image | firmware | telemetry
  | erase (sector left : Nat) (begun : Bool)
  | move (sector dest left : Nat) (begun : Bool)
  deriving DecidableEq, Repr

/-- The flash interface (R629, R633, R634). -/
structure FlashState where
  store   : RecordStore      -- the newest slot of each item
  older   : RecordStore      -- the older slot of each item (R607)
  wrote   : List Nat         -- the items of the last record-store write, numbered as in StartFinds
  urgent  : Bool             -- the operating-hours write of a supply safe state entry waits
  class3  : List FlashOp     -- oldest first
  class4  : List FlashOp
  waited  : Nat              -- slots in a row in which class 4 work has waited
  running : Bool             -- a PERSIST has been started and not completed (R608, R609)
  failed  : Bool             -- its write failed with no spare sector left (R633)
  wearA   : Table Nat        -- erases of each log sector
  wearB   : Table Nat        -- erases of each plane B sector
  homes   : List (Nat × Nat) -- plane B sectors whose contents lie in another one, with that sector (R633)
  taken   : Nat              -- plane B spare sectors taken, of 32
  deriving DecidableEq, Repr, Inhabited

/-- A trigger beside its registers (R615, R616). -/
structure TrigState where
  fired : Option Nat      -- instant it last fired
  was   : Bool            -- the result of its last comparison
  supp  : Nat             -- firings suppressed since its previous record
  deriving DecidableEq, Repr, Inhabited

/-- A record in the staging buffer: its bytes 4 to 59 and its snapshot bytes (R619). -/
structure Staged where
  head : List Byte
  snap : List Byte
  deriving DecidableEq, Repr, Inhabited

/-- A drain in progress (R624, R628): of the cornerstone area, the next record, and the end where one was given. -/
structure LogDrain where
  cst  : Bool
  next : Nat
  last : Option Nat
  deriving DecidableEq, Repr, Inhabited

/-- What the header of a log sector holds beside its marker, the sector's number and its CRC-32C (R620). -/
structure LogHead where
  les    : Nat
  erases : Nat
  deriving DecidableEq, Repr, Inhabited

/-- The event recorder beside its registers (R615 to R646). -/
structure RecState where
  trig    : Table TrigState
  staged  : List Staged        -- oldest first
  lost    : Bool               -- records were lost to overflow since the previous one
  episode : Bool               -- STAGE_OVF was raised and the buffer has not been empty since (R630)
  les     : Nat                -- log erase sequence
  heads   : Table LogHead      -- the header of each log sector (R620)
  log     : List (List Byte)   -- the records of the log, by RNUM
  erasing : Option Nat         -- an erase is in progress: log sectors erased so far (R623)
  failed  : Bool               -- the log memory failed (R625)
  cst     : List (List Byte)   -- the cornerstone area, at most 32 failure records (R626)
  drain   : Option LogDrain
  deriving DecidableEq, Repr, Inhabited

/-- Memory care beside its registers (R37, R631 to R637). -/
structure MemState where
  calAt   : Table Nat     -- instant of the last calibration: SOL00 to SOL95, HSW0 to HSW23, the converter (R636)
  taken   : Nat           -- spares taken, used or skipped, from the top of the pool (R37)
  remap   : List (Nat × Nat)   -- retired pages, by page number, with the number of the spare that each is mapped to (R37)
  bad     : List Nat      -- spares that are skipped when their turn comes (R37)
  dead    : List Nat      -- pages that failed with the pool empty: what is written there is lost (R37)
  noSpare : Bool          -- the DRAM spare pool is empty and a page failed (R37)
  deriving DecidableEq, Repr, Inhabited

/-- A session in force (R87 to R89, R661): its key, SALT and the last FCNT in each direction. -/
structure Session where
  key   : BitVec 256
  salt  : List Byte
  fcIn  : Nat
  fcOut : Nat
  deriving DecidableEq, Repr, Inhabited

/-- A HELLO that waits for its FINISH (R660 to R662): the ephemeral private key, the message parts and the instant of the
reply. -/
structure Hello where
  priv    : BitVec 256
  qh      : List Byte
  nh      : List Byte
  qd      : List Byte
  nd      : List Byte
  salt    : List Byte
  since   : Nat
  deriving DecidableEq, Repr, Inhabited

/-- What the last verification of a firmware slot found (R652, R675). -/
structure FwInfo where
  valid   : Bool
  version : Nat
  svn     : Nat
  ncert   : Nat
  cert    : List Word
  deriving DecidableEq, Repr, Inhabited

/-- Keystone beside the SEC registers (R649 to R676). A firmware slot is the bytes from its start; the bytes after them are
erased and read 0xFF. -/
structure SecState where
  slotA    : List Byte
  slotB    : List Byte
  oem      : List (BitVec 512)   -- OEM key slots in use; the last is the active key (R658)
  arbFw    : Nat                 -- anti-rollback counters (R649)
  arbFtg   : Nat
  kill     : Bool                -- the DBG_KILL fuse
  infoA    : FwInfo              -- as last verified
  infoB    : FwInfo
  bootErr  : List Nat            -- events of the firmware selection, raised in PU3 (R653)
  prefer   : Option (Option Nat) -- the preferred slot as the first firmware selection since the reset has read it (R653, R656)
  running  : Bool                -- a firmware image runs (R653)
  pass     : List Nat            -- slots whose last FW_VERIFY returned 0x00, not written since (R656): 0 A, 1 B
  cmd      : Option (Nat × Bool) -- the SEC_CMD in progress, with AUTH
  cmdWaits : Bool                -- it waits behind chunk signing and has not begun (R671)
  imgWaits : Bool                -- an image verification or course load waits so
  session  : Option Session
  hello    : Option Hello
  chal     : Option (List Byte)  -- a challenge that has not served its attempt (R666)
  chalLast : List Byte           -- SEC_CHAL
  unlocked : Bool
  runs     : Nat                 -- consecutive TRNG test windows passed (R668)
  healthy  : Bool
  certified : Bool               -- the module was in its certified configuration when last judged (R669)
  deriving DecidableEq, Repr, Inhabited

/-- A plumb unit's run (R678 to R680): its registers as latched at GO, from PLB_CFG to PLB_EXP_HI, and its stream as it
was then. -/
structure PlbRun where
  regs   : List Word
  data   : List Byte
  lostAt : Option Nat   -- bytes of the stream before the first page that reads as lost (R37, R680)
  deriving DecidableEq, Repr, Inhabited

/-- The machine: everything the spec gives it (R94 to R684), and the queue of the commands that are waiting. -/
structure State where
  /-- The commands that wait, first in, first out. -/
  pending : List Instr
  /-- 1/16 µs since the last device reset (log entry 7). -/
  clk : Nat
  /-- The time base (R15, R197). -/
  tag : Nat
  /-- The model's own counter of free values drawn (log entry 5). -/
  fresh : Nat
  /-- The model's own counter of numbers drawn from the TRNG (log entry 5). -/
  draws : Nat
  /-- The register file by host address (R94, R97); an unlisted register holds its reset value. -/
  regs : Table Word
  /-- DRAM by host address (R36, R94); an unlisted byte reads 0 (log entry 3). -/
  mem : List Host.Cell
  /-- The snapshot of the shadowed registers of the blocks with SHADOW = 1 (R104). -/
  shadow : Table Word
  /-- Power die B failed its self-test (R399, R435). -/
  dieBFail : Bool
  /-- Blocks whose start-up check failed (R102). -/
  failed : List Block
  /-- Occurrences of events reported and not yet seen by the recorder: number and tag (R147, R617). -/
  occ : List (Nat × Nat)
  /-- How the last register-write command was refused, with its DETAIL (R20, R62). -/
  lastErr : Option (ErrCode × Nat)
  /-- The Twiris link. -/
  link : LinkState
  /-- Footing and courses. -/
  cfg : CfgState
  /-- What each lane keeps beside its registers. -/
  lanes : Table LaneState
  /-- The GNSS front end (R156 to R184). -/
  gnss : GnssState
  /-- The tracking channels GCH000 to GCH191. -/
  gnssCh : Table GnssCh
  /-- The NAV block (R197 to R223). -/
  nav : NavState
  /-- The pulse interfaces ENC0 to ENC7. -/
  enc : Table EncState
  /-- SSI0 and SSI1. -/
  ssi : Table SsiState
  /-- EMU0 and EMU1. -/
  emu : Table EmuState
  /-- AIN0 to AIN15. -/
  ain : Table AinState
  /-- Speed fusion. -/
  fus : FusState
  /-- CAN0 to CAN2. -/
  canCtl : Table CanCtl
  /-- The message objects CANOBJ0 to CANOBJ255. -/
  canObj : Table CanObj
  /-- The GEO block. -/
  geo : GeoState
  /-- The STR block. -/
  str : StrState
  /-- Armature sensing of SOL00 to SOL95. -/
  armCh : Table ArmCh
  /-- End-of-travel sensing of HSW0 to HSW23. -/
  armSw : Table ArmSw
  /-- Boost adaptation of the two dies. -/
  armDie : Table ArmDie
  /-- SOL00 to SOL95. -/
  sol : Table SolCh
  /-- HSW0 to HSW23. -/
  hsw : Table HswCh
  /-- PGEN0 to PGEN5. -/
  hswGen : Table HswGen
  /-- VHS0 to VHS3. -/
  hswVhs : Table HswGroup
  /-- Limp-home and hold-over in the dies and the record store. -/
  hswKeep : HswKeep
  /-- Instants of the newest sample of the loops' sources (R467, R485), and of encoder jumps. -/
  stamps : Table Nat
  /-- PACE0 to PACE15. -/
  pacer : Table Pacer
  /-- LAP0 to LAP3. -/
  lap : Table LapState
  /-- INJ0 to INJ3. -/
  inj : Table InjState
  /-- The tuning capture. -/
  cap : CapState
  /-- The loops and heats. -/
  ctl : CtlState
  /-- The clocks and islands. -/
  clocks : ClkState
  /-- Supplies, start-up and the watchdog. -/
  pwr : PwrState
  /-- The flash interface and the record store; it keeps its contents without power. -/
  flash : FlashState
  /-- The event recorder; the log and the cornerstone area keep their contents without power. -/
  recd : RecState
  /-- Memory care. -/
  memCare : MemState
  /-- Keystone; firmware slots and one-time memory keep their contents without power. -/
  sec : SecState
  /-- PLB0 to PLB3. -/
  plb : Table (Option PlbRun)
  /-- Whether the last comparison of each plumb unit mismatched (R682). -/
  plbMis : Table Bool
  /-- The word of the next register request whose fabric transfer is given up (R35). -/
  parity : Option Nat
  /-- The model's own count of resets: measured values are free in each run (log entry 5). -/
  boots : Nat
  deriving DecidableEq, Repr

/-- The machine right after a power-on reset, before VBAT is present (R588, R591; log entries 1 to 4). -/
def State.reset : State where
  pending := []
  clk := 0
  tag := 0
  fresh := 0
  draws := 0
  regs := []
  mem := []
  shadow := []
  dieBFail := false
  failed := []
  occ := []
  lastErr := none
  link := default
  cfg := default
  lanes := []
  gnss := default
  gnssCh := []
  nav := default
  enc := []
  ssi := []
  emu := []
  ain := []
  fus := default
  canCtl := []
  canObj := []
  geo := default
  str := default
  armCh := []
  armSw := []
  armDie := []
  sol := []
  hsw := []
  hswGen := []
  hswVhs := []
  hswKeep := default
  stamps := []
  pacer := []
  lap := []
  inj := []
  cap := default
  ctl := default
  clocks := default
  pwr := default
  flash := default
  recd := default
  memCare := default
  sec := { (default : SecState) with slotA := Config.shippedFirmware }
  plb := []
  plbMis := []
  parity := none
  boots := 0


/-- The answer of a meaning. -/
abbrev Answer := Host.Outcome State Fault Refusal

end Sys2Proof.Machine
end

