-- ==== Sys2Proof/Machine/Ops.lean ====
section
/-! DEFINITION. The named operations over registers, DRAM, events and numbers that every meaning is built from. -/

namespace Sys2Proof.Machine

open Sys2Proof

/-! ## Numbers -/

/-- Two's complement reading of the `w`-bit value `v` (R14). -/
def signed (w v : Nat) : Int := if v < 2 ^ (w - 1) then v else (v : Int) - (2 ^ w : Nat)

/-- The `w`-bit two's complement code of `i`, modulo 2^w (R14). -/
def code (w : Nat) (i : Int) : Nat := (i % (2 ^ w : Nat)).toNat

/-- `i` limited to `lo` to `hi`. -/
def clamp (lo hi i : Int) : Int := if i < lo then lo else if hi < i then hi else i

/-- `i` limited to the range of a signed `w`-bit field. -/
def satS (w : Nat) (i : Int) : Int := clamp (-((2 ^ (w - 1) : Nat) : Int)) ((2 ^ (w - 1) : Nat) - 1) i

/-- `i` limited to the range of an unsigned `w`-bit field. -/
def satU (w : Nat) (i : Int) : Nat := (clamp 0 ((2 ^ w : Nat) - 1) i).toNat

/-- `n / d` where the spec does not say how an inexact quotient is rounded: one of the two neighbours (log entry 6). -/
def divOpen (site : Nat) (n d : Int) : Int :=
  if n % d = 0 then n / d else if Config.roundsUp site n d then n / d + 1 else n / d

/-- `n / d` rounded to nearest, where the spec does not say which way a tie goes (log entry 6). -/
def divNear (site : Nat) (n d : Int) : Int :=
  if 2 * (n % d) < d then n / d
  else if d < 2 * (n % d) then n / d + 1
  else if Config.roundsUp site n d then n / d + 1 else n / d

/-- `n / d` rounded to nearest, halves away from zero (R469, R472). -/
def divHaz (n d : Int) : Int := if 0 ≤ n then (2 * n + d) / (2 * d) else -((2 * -n + d) / (2 * d))

/-- The digits of an integer square root, two bits of the radicand `v` at a time: `k` pairs are left, `r` is the root so
far. -/
def sqrtFrom : Nat → Nat → Nat → Nat
  | 0, _, r => r
  | k + 1, v, r => let c := 2 * r + 1; sqrtFrom k v (if c * c ≤ v / 4 ^ k then c else 2 * r)

/-- The integer square root of a number below 2^192, rounded down. -/
def isqrt (v : Nat) : Nat := sqrtFrom 96 v 0

/-- `n / d` rounded towards zero. -/
def divTrunc (n d : Int) : Int := n.tdiv d

/-- Bit `i` of a number. -/
def nbit (v i : Nat) : Bool := v / 2 ^ i % 2 == 1

/-- `v` with bit `i` set to `b`. -/
def setBit (v i : Nat) (b : Bool) : Nat :=
  if nbit v i then (if b then v else v - 2 ^ i) else (if b then v + 2 ^ i else v)

/-- How many of the bits 0 to `w` − 1 of `v` are 1. -/
def popCount : Nat → Nat → Nat
  | 0, _ => 0
  | w + 1, v => v % 2 + popCount w (v / 2)

/-- `v` as `n` bytes, byte 0 the least significant (R13). -/
def leBytes : Nat → Nat → List Byte
  | 0, _ => []
  | n + 1, v => BitVec.ofNat 8 v :: leBytes n (v / 256)

/-- The number that bytes spell, byte 0 the least significant (R13). -/
def leNat : List Byte → Nat
  | [] => 0
  | b :: t => b.toNat + 256 * leNat t

/-- The first `n` bytes, filled up with zeros. -/
def padTo : Nat → List Byte → List Byte
  | 0, _ => []
  | n + 1, [] => 0 :: padTo n []
  | n + 1, b :: t => b :: padTo n t

/-- The first `n` elements, newest first lists kept short. -/
def keep {α : Type} (n : Nat) (l : List α) : List α := l.take n

/-! ## Registers -/

/-- The word a register holds after every kind of reset, before the footing is applied (the Reset columns of the register
tables; R24), 0 where the table gives 0 or "ftg". -/
def resetWord (a : Nat) : Word :=
  if a = R.PWR_RST_CAUSE then 1#32                                                              -- R614: power-on
  else if a = R.SYS_LINK_FWD then 0x40#32                                                            -- R91
  else if 0x72000 ≤ a ∧ a < 0x75000 ∧ a % 0x40 = R.GNSS_CH_SPC_ACT 0 % 0x40 then 0x40#32        -- R190
  else if a = R.CAN_CTL_STAT 0 ∨ a = R.CAN_CTL_STAT 1 ∨ a = R.CAN_CTL_STAT 2 then 3#32           -- R554
  else if a = R.HSW_PROF_INR 0 then BitVec.ofNat 32 (80 * 2 ^ 24 + 50)                           -- R439
  else if a = R.HSW_PROF_INR 1 then BitVec.ofNat 32 (65 * 2 ^ 24 + 500)
  else if a = R.HSW_PROF_INR 2 then BitVec.ofNat 32 (50 * 2 ^ 24 + 20)
  else if a = R.HSW_PROF_INR 3 then BitVec.ofNat 32 (40 * 2 ^ 24 + 2000)
  else if a = R.HSW_PROF_INR 4 then BitVec.ofNat 32 (40 * 2 ^ 24 + 200)
  else if a = R.HSW_PROF_SOFT 2 then 5#32
  else 0#32

/-- The mask of a field within its word. -/
def fieldMask (lo w : Nat) : Word := BitVec.ofNat 32 ((2 ^ w - 1) * 2 ^ lo)

/-- A word with `v` (modulo 2^w) put into the field at `lo` of width `w`. -/
def insertField (x : Word) (lo w v : Nat) : Word :=
  (x &&& ~~~ fieldMask lo w) ||| BitVec.ofNat 32 (v % 2 ^ w * 2 ^ lo)

/-- The field at `lo` of width `w` of a word. -/
def takeField (x : Word) (lo w : Nat) : Nat := x.toNat / 2 ^ lo % 2 ^ w

/-- The word register `a` holds. -/
def State.word (s : State) (a : Nat) : Word := Table.find (resetWord a) a s.regs

/-- The state with register `a` holding `w`. -/
def State.setWord (s : State) (a : Nat) (w : Word) : State :=
  { s with regs := Table.write (resetWord a) a w s.regs }

/-- The value of a field. -/
def State.get (s : State) (f : Fld) : Nat := takeField (s.word f.addr) f.lo f.w

/-- The value of a field read as two's complement. -/
def State.gets (s : State) (f : Fld) : Int := signed f.w (s.get f)

/-- Whether a one-bit field is 1. -/
def State.flag (s : State) (f : Fld) : Bool := s.get f == 1

/-- The state with `v` modulo 2^w in the field. -/
def State.put (s : State) (f : Fld) (v : Nat) : State :=
  s.setWord f.addr (insertField (s.word f.addr) f.lo f.w v)

/-- The state with the field saturated at its largest value. -/
def State.putSat (s : State) (f : Fld) (v : Nat) : State := s.put f (min v (2 ^ f.w - 1))

/-- The state with the signed field holding `i` modulo 2^w. -/
def State.puts (s : State) (f : Fld) (i : Int) : State := s.put f (code f.w i)

/-- The state with a one-bit field. -/
def State.putB (s : State) (f : Fld) (b : Bool) : State := s.put f (bit b)

/-- The state with the counter field raised by `k`, saturating. -/
def State.count (s : State) (f : Fld) (k : Nat) : State := s.putSat f (s.get f + k)

/-- The number in a whole register. -/
def State.nat (s : State) (a : Nat) : Nat := (s.word a).toNat

/-- The signed number in a whole register. -/
def State.int (s : State) (a : Nat) : Int := signed 32 (s.nat a)

/-- The state with a whole register holding `v` modulo 2^32. -/
def State.setNat (s : State) (a v : Nat) : State := s.setWord a (BitVec.ofNat 32 v)

/-- The state with a whole register holding `i` as two's complement. -/
def State.setInt (s : State) (a : Nat) (i : Int) : State := s.setNat a (code 32 i)

/-- The 64-bit number in a pair of registers, the low word at `a`. -/
def State.nat64 (s : State) (a : Nat) : Nat := s.nat a + 2 ^ 32 * s.nat (a + 4)

/-- The state with a 64-bit number in the pair of registers at `a` and `a` + 4. -/
def State.setNat64 (s : State) (a v : Nat) : State := (s.setNat a v).setNat (a + 4) (v / 2 ^ 32)

/-- The state with a signed 64-bit number in the pair of registers at `a` and `a` + 4. -/
def State.setInt64 (s : State) (a : Nat) (i : Int) : State := s.setNat64 a (code 64 i)

/-- Sets registers at `a`, `a` + 4 and onward. -/
def State.setWords (s : State) (a : Nat) : List Word → State
  | [] => s
  | w :: t => (s.setWord a w).setWords (a + 4) t

/-! ## DRAM (R36, R94) -/

/-- The first address of the DRAM windows, and the address after the last. -/
def dramBase : Nat := 0x10000000
def dramEnd : Nat := 0x20000000

/-- The byte of DRAM at host address `a`; one that nothing has written reads 0 (log entry 3). -/
def State.byte (s : State) (a : Nat) : Byte := Table.find 0 a s.mem

/-- The 4 KB page that holds address `a` failed with the spare pool empty: every read from it is treated as lost (R37). -/
def State.deadPage (s : State) (a : Nat) : Bool := s.memCare.dead.contains (a / 4096)

/-- The state with a byte of DRAM written; what is written to a dead page is lost (R37). -/
def State.setByte (s : State) (a : Nat) (b : Byte) : State :=
  { s with mem := if s.deadPage a then s.mem else Table.write 0 a b s.mem }

/-- `n` bytes of DRAM from `a`. -/
def State.bytes (s : State) (a : Nat) : Nat → List Byte
  | 0 => []
  | n + 1 => s.byte a :: s.bytes (a + 1) n

/-- The state with bytes written from `a`. -/
def State.setBytes (s : State) (a : Nat) : List Byte → State
  | [] => s
  | b :: t => (s.setByte a b).setBytes (a + 1) t

/-- The DRAM word at `a`. -/
def State.dram (s : State) (a : Nat) : Word := BitVec.ofNat 32 (leNat (s.bytes a 4))

/-- The state with a DRAM word written. -/
def State.setDram (s : State) (a : Nat) (w : Word) : State := s.setBytes a (leBytes 4 w.toNat)

/-! ## The block header page (R98 to R110) -/

/-- The host address of a register of the header page of block `b`. -/
def hdr (b : Block) (ofs : Nat) : Nat := b.index * 0x10000 + ofs

def H.ctrl (b : Block) : Nat := hdr b 0x008
def H.enable (b : Block) : Fld := ⟨hdr b 0x008, 0, 1⟩
def H.shadowBit (b : Block) : Fld := ⟨hdr b 0x008, 2, 1⟩
def H.evt (b : Block) : Nat := hdr b 0x010
def H.evtEn (b : Block) : Nat := hdr b 0x014
def H.sticky (b : Block) : Nat := hdr b 0x018
def H.locked (b : Block) : Fld := ⟨hdr b 0x01C, 0, 1⟩
def H.sealedBit (b : Block) : Fld := ⟨hdr b 0x01C, 1, 1⟩
def H.course (b : Block) : Fld := ⟨hdr b 0x020, 0, 5⟩
def H.pendingBit (b : Block) : Fld := ⟨hdr b 0x020, 8, 1⟩
def H.rev (b : Block) : Fld := ⟨hdr b 0x020, 16, 8⟩

/-- BLK_CTRL.ENABLE of block `b` (R103). -/
def State.enabled (s : State) (b : Block) : Bool := s.flag (H.enable b)

/-- The blocks in the order of their region indices. -/
def allBlocks : List Block :=
  [.sys, .clk, .pwr, .evt, .lane, .cfg, .gnss, .nav, .fbk, .geo, .str, .sol, .arm, .hsw, .ctl, .pace, .can, .recorder,
   .mem, .sec, .plb]

/-- The block of a region index (R95). -/
def blockOf (i : Nat) : Option Block := allBlocks.find? (fun b => b.index == i)

/-- The personality: 0 none, 1 SV-96, 2 SV-48, 3 SV-24, 4 SAT (R126). -/
def State.pers (s : State) : Nat := s.get F.CFG_PERSONALITY_PERS

/-- The safe course is in force (R117). -/
def State.safe (s : State) : Bool := s.flag F.CFG_FTG_STATE_SAFE

/-- The outputs that no power die drives are released: PU4 has ended and the safe course is not in force (R588, R600). -/
def State.released (s : State) : Bool := s.flag F.PWR_STAT_OUTREL && !s.safe

/-- R3: the block is absent in the personality. -/
def State.absentBlock (s : State) (b : Block) : Bool :=
  s.pers == 4 && (b == .gnss || b == .nav || b == .geo || b == .str)

/-- R117: the block is held by the safe course. -/
def State.heldBlock (s : State) (b : Block) : Bool :=
  s.safe && !(b == .sys || b == .pwr || b == .evt || b == .lane || b == .cfg || b == .sec)

/-- BLK_KIND (R101): 0 absent, 1 present, 2 failed, 3 held. That a block which is both failed and held reads held is the
model's choice (log entry 314). -/
def State.kind (s : State) (b : Block) : Nat :=
  if s.absentBlock b then 0 else if s.heldBlock b then 3 else if s.failed.contains b then 2 else 1

/-- The block is present, neither absent nor held nor failed. -/
def State.present (s : State) (b : Block) : Bool := s.kind b == 1

/-- The island that the work of a block needs beside its samplers and power dies (R26, R29); that of the header and of the register
maps is not among them. -/
def workIsland : Block → Option Nat
  | .gnss | .nav => some 3
  | .fbk => some 9
  | .geo | .str | .arm | .ctl | .pace | .recorder | .mem => some 4
  | .can => some 8
  | .sec => some 5
  | .lane | .plb => some 2
  | .sys | .clk | .pwr | .evt | .cfg | .sol | .hsw => none

/-- Island `i` has been stopped by a fallback, a lost PLL or a trip (R566). -/
def State.halted (s : State) (i : Nat) : Bool := s.clocks.halted.contains i

/-- The block is present, and the island it works in has not been stopped (R573). -/
def State.works (s : State) (b : Block) : Bool :=
  s.present b && !(match workIsland b with | some i => s.halted i | none => false)

/-- The block works and is enabled (R105). -/
def State.runs (s : State) (b : Block) : Bool := s.works b && s.enabled b

/-! The instances present in the personality (R3). Before a personality is selected all are counted, but of the load
switches those of the personality that booted last, so that limp-home and hold-over drive no absent one (R7; log entry
8). -/

def State.nSol (s : State) : Nat := match s.pers with | 2 => 48 | 3 => 24 | _ => 96
def State.nBank (s : State) : Nat := match s.pers with | 2 => 6 | 3 => 3 | _ => 12
def State.nDie (s : State) : Nat := match s.pers with | 2 => 1 | 3 => 1 | _ => 2
def State.nHsw (s : State) : Nat := match s.pers with | 0 => s.hswKeep.here | 2 => 12 | 3 => 6 | _ => 24
def State.nAnt (s : State) : Nat := match s.pers with | 2 => 1 | 3 => 1 | 4 => 0 | _ => 2
def State.nLoop (s : State) : Nat := match s.pers with | 2 => 16 | 3 => 8 | _ => 32
def State.nHeat (s : State) : Nat := match s.pers with | 2 => 2 | 3 => 1 | _ => 4
def State.nPacer (s : State) : Nat := match s.pers with | 2 => 8 | 3 => 4 | _ => 16
def State.nLap (s : State) : Nat := match s.pers with | 2 => 2 | 3 => 1 | _ => 4
def State.nPoint (s : State) : Nat := match s.pers with | 2 => 64 | 3 => 32 | 4 => 0 | _ => 128

/-- The module holds the lead role (R9, R111): its footing says so and its personality is SV-96. -/
def State.isLead (s : State) : Bool :=
  s.pers == 1 && (match s.cfg.footing with | some f => f.holdsLead | none => false)

/-- The module is a satellite (R3, R10). -/
def State.isSat (s : State) : Bool := s.pers == 4

/-- The address of the lead that the module accepts, if any (R74, R111); a LEAD byte that is no address names none (log entry
320). -/
def State.leadAddr (s : State) : Option Nat :=
  match s.cfg.footing with
  | some f => if f.lead < 64 then some f.lead else none
  | none => none

/-! ## Events (R147 to R151) -/

/-- The block that owns event `e` (R95, R151). -/
def evOwner (e : Nat) : Block :=
  let i := e % 16
  match e / 16 with
  | 0 => if i ≤ 2 then .sys else if i ≤ 7 then .clk else .pwr
  | 1 => if i = 1 ∨ i = 2 ∨ i = 12 then .lane else .evt
  | 2 => .cfg | 3 => .gnss | 4 => .nav | 5 => .fbk | 6 => .geo | 7 => .str | 8 => .sol | 9 => .sol
  | 10 => .arm | 11 => .hsw
  | 12 => if i ≤ 7 then .ctl else .pace
  | 13 => .can
  | 14 => if i ≤ 7 then .recorder else .mem
  | _ => if i ≤ 7 then .sec else .plb

/-- The classes of the events of a group by index: 0 notice, 1 warning, 2 fault, 3 safe state (R150). -/
def evClasses (g : Nat) : List Nat :=
  match g with
  | 0  => [2, 1, 0, 2, 2, 1, 2, 1, 2, 1, 2, 1, 2, 1, 3, 1]
  | 1  => [2, 2, 1, 1, 1, 0, 1, 0, 1, 1, 1, 1, 0]
  | 2  => [2, 1, 1, 3, 0, 1, 1, 0, 1, 1]
  | 3  => [2, 1, 2, 1, 2, 1, 1, 0, 1, 0, 1, 2]
  | 4  => [2, 1, 0, 1, 1, 1, 1, 1, 1, 2]
  | 5  => [2, 1, 1, 1, 1, 1, 1, 1, 0, 1]
  | 6  => [2, 1, 0, 1, 1, 0, 1, 0]
  | 7  => [2, 1, 2, 0, 1, 1, 2, 1, 1]
  | 8  => [2, 2, 2, 2, 2, 2, 2, 2, 2, 1, 1, 2, 1, 1, 2, 0]
  | 9  => [2, 2, 2, 2, 2, 2, 2, 2, 2, 1, 1, 2, 1, 1, 2, 0]
  | 10 => [2, 1, 1, 1, 0, 0, 2, 2, 1, 1, 0, 2]
  | 11 => [2, 2, 1, 2, 1, 1, 2, 1, 0, 1, 0, 1]
  | 12 => [2, 2, 2, 2, 1, 1, 0, 1, 2, 1, 0, 1, 0, 1]
  | 13 => [2, 2, 2, 2, 1, 1, 1, 0, 1, 1, 0]
  | 14 => [2, 1, 2, 2, 1, 0, 0, 0, 2, 1, 2, 1, 0, 1, 1]
  | 15 => [2, 1, 0, 2, 2, 1, 1, 2, 2, 1, 1, 1, 1]
  | _  => []

/-- The class of event `e`. -/
def evClass (e : Nat) : Nat := (evClasses (e / 16)).getD (e % 16) 0

/-- The pending bit of event `e`: in SOL_EVT_HI for group 9, else in its owner's BLK_EVT (R99, R151). -/
def evBit (e : Nat) : Fld :=
  if e / 16 = 9 then ⟨R.SOL_EVT_HI, e % 16, 1⟩ else ⟨H.evt (evOwner e), e % 16, 1⟩

/-- The enable bit of event `e`. -/
def evEnBit (e : Nat) : Fld :=
  if e / 16 = 9 then ⟨R.SOL_EVT_HI_EN, e % 16, 1⟩ else ⟨H.evtEn (evOwner e), e % 16, 1⟩

/-- The indices of event group `g` that are not reserved and belong to block `b`, as a mask (R99, R150, R151). -/
def evMask (b : Block) (g : Nat) : Nat :=
  ((List.range (evClasses g).length).filter
    (fun i => evOwner (16 * g + i) == b && !(g == 14 && (i == 6 || i == 7)))).foldl (fun m i => m + 2 ^ i) 0

/-- The event group of block `b` shown in BLK_EVT (R95). -/
def evGroup : Block → Nat
  | .sys => 0 | .clk => 0 | .pwr => 0 | .evt => 1 | .lane => 1 | .cfg => 2 | .gnss => 3 | .nav => 4 | .fbk => 5
  | .geo => 6 | .str => 7 | .sol => 8 | .arm => 10 | .hsw => 11 | .ctl => 12 | .pace => 12 | .can => 13
  | .recorder => 14 | .mem => 14 | .sec => 15 | .plb => 15

/-- The fail event of a block (R150). -/
def failEvent : Block → Nat
  | .sys => 0 | .clk => 3 | .pwr => 8 | .evt => 16 | .lane => 17 | .cfg => 32 | .gnss => 48 | .nav => 64 | .fbk => 80
  | .geo => 96 | .str => 112 | .sol => 128 | .arm => 160 | .hsw => 176 | .ctl => 192 | .pace => 200 | .can => 208
  | .recorder => 224 | .mem => 232 | .sec => 240 | .plb => 248

/-- The state after event `e` occurs (R147): its pending bit is set and the occurrence is reported to the recorder. An
absent or held block raises no event, a failed one only its fail event (R102). -/
def State.raise (s : State) (e : Nat) : State :=
  let k := s.kind (evOwner e)
  if k == 1 || (k == 2 && e == failEvent (evOwner e)) then
    { s.put (evBit e) 1 with occ := s.occ ++ [(e, s.tag)] }
  else s

/-- Event `e` occurs, whose rule names the failed block among its cases (R662, R669): a failed block raises it too (log entry
1914). -/
def State.raiseFailed (s : State) (e : Nat) : State :=
  if s.kind (evOwner e) == 2 then { s.put (evBit e) 1 with occ := s.occ ++ [(e, s.tag)] } else s.raise e

/-- Raises `e` where `c`. -/
def State.raiseIf (s : State) (c : Bool) (e : Nat) : State := if c then s.raise e else s

/-! ## Free values -/

/-- A free value of `w` bits, and the state with the counter of free values advanced (log entry 5). -/
def State.free (s : State) (w : Nat) : Nat × State :=
  ((Config.freeValue s.fresh).toNat % 2 ^ w, { s with fresh := s.fresh + 1 })

/-- A 256-bit number from the TRNG (R668, log entry 5). -/
def State.random (s : State) : BitVec 256 × State :=
  (Config.trng s.draws, { s with draws := s.draws + 1 })

/-- `i` where a signed `w`-bit number can hold it; else a free value, since the spec states no result that falls outside
the number format (log entry 5). -/
def State.fit (s : State) (w : Nat) (i : Int) : Int × State :=
  if satS w i = i then (i, s) else let r := s.free w; (signed w r.1, r.2)

/-- Puts a signed result into a field that may not be able to hold it (log entry 5). -/
def State.putFit (s : State) (f : Fld) (i : Int) : State := let r := s.fit f.w i; r.2.puts f r.1

/-- What a register that shows a measurement reads now, where no command carries it (log entry 5). -/
def State.measured (s : State) (a : Nat) : Word := Config.measure a s.boots s.clk

/-- A field of a measured register. -/
def State.sense (s : State) (f : Fld) : Nat := takeField (s.measured f.addr) f.lo f.w

/-! ## Time -/

/-- Counts of 1/16 µs in a microsecond, a millisecond and a second (R15). -/
def usec : Nat := 16
def msec : Nat := 16000
def second : Nat := 16000000

/-- One tick: 250 µs (R15, R41). -/
def tickLen : Nat := 4000

/-- The time tag read as the 64-bit count of R15. -/
def State.now (s : State) : Nat := s.tag % 2 ^ 64

/-- The time tag is a whole multiple of `d` outside a hold, in which time tags stand still (R41, R223). -/
def State.onGrid (s : State) (d : Nat) : Bool := !s.flag F.NAV_TIME_STAT_HOLD && decide (s.now % d = 0)

/-- The 1 ms grid (R41, R250, R256, R418). -/
def State.atMs (s : State) : Bool := s.onGrid msec

/-- Whether `d` counts have passed since instant `t` of `clk`. -/
def State.passed (s : State) (t d : Nat) : Bool := decide (t + d ≤ s.clk)

/-- A new sample of a source has come now: kind of R467 and instance. -/
def State.stamp (s : State) (kind inst : Nat) : State := { s with stamps := s.stamps.set (kind * 4096 + inst) s.clk }

/-- The instant of the newest sample of a source. -/
def State.stamped (s : State) (kind inst : Nat) : Nat := s.stamps.get (kind * 4096 + inst)

/-- Folds a state over a list. -/
def State.each {α : Type} (s : State) (l : List α) (f : State → α → State) : State := l.foldl f s

/-- The state changed by `f` where `c`. -/
def State.when (s : State) (c : Bool) (f : State → State) : State := if c then f s else s

end Sys2Proof.Machine
end

