-- ==== Sys2Proof/Machine/Geodesy.lean ====
section
/-! DEFINITION. Geodesy: the WGS 84 ellipsoid, local frames, the map plane and circular arcs (R214, R215, R255, R275 to
R277, R325, R335). Sines, cosines and radians are fixed-point numbers with 18 decimal places, lengths whole nanometres;
the last step of each result is rounded to the unit it is given in (log entry 9). Latitudes and longitudes are in 1e-10°. -/

namespace Sys2Proof.Machine

open Sys2Proof

/-! ## Sines and cosines -/

/-- The fixed-point 1, and π in it. -/
def one18 : Int := 1000000000000000000
def pi18 : Int := 3141592653589793238

/-- A product of two fixed-point numbers, or of one and a length. -/
def mul18 (a b : Int) : Int := a * b / one18

/-- `n` terms of an alternating power series whose term after t is −t·x² / ((k + 1)(k + 2)): the sine from t = x and k = 1,
the cosine from t = 1 and k = 0. -/
def series : Nat → Int → Int → Int → Int
  | 0, _, _, _ => 0
  | n + 1, x2, t, k => t + series n x2 (-(mul18 t x2) / ((k + 1) * (k + 2))) (k + 2)

/-- An angle in 1e-10°, from −180° to 180°, in radians. -/
def radians (a : Int) : Int :=
  let r := a.emod 3600000000000
  (if 1800000000000 < r then r - 3600000000000 else r) * pi18 / 1800000000000

/-- The sine and the cosine of an angle in 1e-10°. -/
def sinA (a : Int) : Int := let x := radians a; series 24 (mul18 x x) x 1
def cosA (a : Int) : Int := let x := radians a; series 24 (mul18 x x) one18 0

/-- sin x / x of an angle in radians. -/
def sincR (x : Int) : Int := series 24 (mul18 x x) one18 1

/-! ## Vectors -/

/-- A vector: north, east and down of a local frame, or the three ECEF axes. -/
structure Vec where
  x : Int
  y : Int
  z : Int
  deriving DecidableEq, Repr

def Vec.add (a b : Vec) : Vec := ⟨a.x + b.x, a.y + b.y, a.z + b.z⟩
def Vec.sub (a b : Vec) : Vec := ⟨a.x - b.x, a.y - b.y, a.z - b.z⟩
def Vec.dot (a b : Vec) : Int := mul18 a.x b.x + mul18 a.y b.y + mul18 a.z b.z

/-- The north, east and down axes at a latitude and longitude, in ECEF. -/
def axes (lat lon : Int) : Vec × Vec × Vec :=
  let sf := sinA lat
  let cf := cosA lat
  let sl := sinA lon
  let cl := cosA lon
  (⟨-mul18 sf cl, -mul18 sf sl, cf⟩, ⟨-sl, cl, 0⟩, ⟨-mul18 cf cl, -mul18 cf sl, -sf⟩)

/-- A vector of a local frame in ECEF, and back. -/
def toEcef (f : Vec × Vec × Vec) (v : Vec) : Vec :=
  ⟨mul18 f.1.x v.x + mul18 f.2.1.x v.y + mul18 f.2.2.x v.z, mul18 f.1.y v.x + mul18 f.2.1.y v.y + mul18 f.2.2.y v.z,
   mul18 f.1.z v.x + mul18 f.2.1.z v.y + mul18 f.2.2.z v.z⟩
def toLocal (f : Vec × Vec × Vec) (v : Vec) : Vec := ⟨f.1.dot v, f.2.1.dot v, f.2.2.dot v⟩

/-! ## The ellipsoid -/

/-- WGS 84: the semi-major axis in nm, and the square of the eccentricity. -/
def wgsA : Int := 6378137000000000
def wgsE2 : Int := 6694379990141317

/-- 1 − e² sin² of a latitude, and its root. -/
def wgsW2 (lat : Int) : Int := one18 - mul18 wgsE2 (mul18 (sinA lat) (sinA lat))
def wgsW (lat : Int) : Int := isqrt (wgsW2 lat * one18).toNat

/-- The radii of curvature in nm: of the prime vertical, and of the meridian. -/
def radiusN (lat : Int) : Int := wgsA * one18 / wgsW lat
def radiusM (lat : Int) : Int := mul18 (radiusN lat) (one18 - wgsE2) * one18 / wgsW2 lat

/-- The ECEF position of a latitude, longitude and height in nm. -/
def ecef (lat lon h : Int) : Vec :=
  let n := radiusN lat
  let r := mul18 (n + h) (cosA lat)
  ⟨mul18 r (cosA lon), mul18 r (sinA lon), mul18 (mul18 n (one18 - wgsE2) + h) (sinA lat)⟩

/-- Newton steps from a latitude, longitude (both in units of 1e-15°) and height in nm to those of an ECEF position. -/
def geodeticFrom : Nat → Vec → Int × Int × Int → Int × Int × Int
  | 0, _, g => g
  | n + 1, p, g =>
    let lat := g.1 / 100000
    let lon := g.2.1 / 100000
    let v := toLocal (axes lat lon) (p.sub (ecef lat lon g.2.2))
    geodeticFrom n p
      (lat * 100000 + v.x * 180000000000000000 * one18 / (pi18 * (radiusM lat + g.2.2)),
       lon * 100000 + v.y * 180000000000000000 * one18 / (pi18 * max 1 (mul18 (radiusN lat + g.2.2) (cosA lat))),
       g.2.2 - v.z)

/-- The latitude and longitude in 1e-10° and the height in nm of an ECEF position near a known place. -/
def geodetic (p : Vec) (lat lon h : Int) : Int × Int × Int :=
  let g := geodeticFrom 4 p (lat * 100000, lon * 100000, h)
  (divOpen 214 g.1 100000, divOpen 214 g.2.1 100000, g.2.2)

/-! ## The implement and its frame (R16, R214, R276) -/

/-- An implement vector in north, east and down: Rz(heading) · Ry(pitch) · Rx(roll); heading in 1e-5°, pitch and roll in
0.01° (R276). -/
def rotated (hdg pitch roll : Int) (b : Vec) : Vec :=
  let sr := sinA (roll * 100000000)
  let cr := cosA (roll * 100000000)
  let sp := sinA (pitch * 100000000)
  let cp := cosA (pitch * 100000000)
  let sh := sinA (hdg * 100000)
  let ch := cosA (hdg * 100000)
  let y := mul18 b.y cr - mul18 b.z sr
  let z := mul18 b.y sr + mul18 b.z cr
  let x := mul18 b.x cp + mul18 z sp
  ⟨mul18 x ch - mul18 y sh, mul18 x sh + mul18 y ch, mul18 z cp - mul18 b.x sp⟩

/-- The implement reference point's latitude, longitude and height in mm from an antenna's, its offsets in mm, and heading,
pitch and roll (R214, R276). -/
def toReference (lat lon hgt : Int) (ofs : Int × Int × Int) (hdg : Nat) (pitch roll : Int) : Int × Int × Int :=
  let h := hgt * 1000000
  let r := rotated hdg pitch roll ⟨ofs.1 * 1000000, ofs.2.1 * 1000000, ofs.2.2 * 1000000⟩
  let g := geodetic ((ecef lat lon h).sub (toEcef (axes lat lon) r)) lat lon h
  (g.1, g.2.1, divOpen 214 g.2.2 1000000)

/-- North and east distance from the first position to the second, in µm (R215). -/
def geoDiff (lat lon lat' lon' : Int) : Int × Int :=
  let v := toLocal (axes lat lon) ((ecef lat' lon' 0).sub (ecef lat lon 0))
  (divOpen 215 v.x 1000, divOpen 215 v.y 1000)

/-- The position a north and an east distance in nm away. -/
def shifted (lat lon n e : Int) : Int × Int :=
  let g := geodetic ((ecef lat lon 0).add (toEcef (axes lat lon) ⟨n, e, 0⟩)) lat lon 0
  (g.1, g.2.1)

/-- The position a north and an east distance in µm away (R215). -/
def geoShift (lat lon n e : Int) : Int × Int := shifted lat lon (n * 1000) (e * 1000)

/-! ## Prediction (R215, R325) -/

/-- North and east in nm of a circular arc of length `l` nm that turns by `turn` in 1e-10° and starts at heading `hdg` in
1e-10°: its chord. -/
def chord (l hdg turn : Int) : Int × Int :=
  let m := hdg + turn / 2
  let c := mul18 l (sincR (turn * pi18 / 3600000000000))
  (mul18 c (cosA m), mul18 c (sinA m))

/-- The way of successive milliseconds, newest first, at a speed in mm/s and a yaw rate in 0.01°/s each, that ends at
heading `hdg` in 1e-10°. -/
def way : Int → List (Int × Int) → Int × Int
  | _, [] => (0, 0)
  | hdg, x :: t =>
    let turn := x.2 * 100000
    let c := chord (x.1 * 1000) (hdg - turn) turn
    let r := way (hdg - turn) t
    (c.1 + r.1, c.2 + r.2)

/-- The position reached through the speeds and yaw rates of successive milliseconds, newest first, ending at a heading in
1e-5° (R215). -/
def propagateHistory (lat lon : Int) (hdg : Nat) (h : List (Int × Int)) : Int × Int :=
  let w := way (hdg * 100000) h
  shifted lat lon w.1 w.2

/-- The position reached after 1 ms at a speed in mm/s and a yaw rate in 0.01°/s, ending at a heading in 1e-5° (R215). -/
def propagate (lat lon spd : Int) (hdg : Nat) (yaw : Int) : Int × Int := propagateHistory lat lon hdg [(spd, yaw)]

/-- The pose carried forward along a circular arc at its own speed and yaw rate for a count of 1/16 µs; height, roll and
pitch are held (R325, R339). -/
def arc (g : GeoPose) (d : Int) : GeoPose :=
  let turn := g.yaw * 100000000 * d / 16000000
  let c := chord (g.speed * d / 16) (g.hdg * 100000) turn
  let p := shifted g.lat g.lon c.1 c.2
  { g with lat := p.1, lon := p.2, hdg := ((g.hdg : Int) + divOpen 325 turn 100000).emod 36000000 |>.toNat }

/-- The magnitude in mm/s of the part along the heading of a horizontal velocity of `v` mm/s whose course lies `d` times
0.01° clockwise of the heading (R255). -/
def speedAlong (v d : Nat) : Nat := (divOpen 255 ((v : Int) * cosA (d * 100000000)) one18).natAbs

/-! ## The map plane (R275 to R277) -/

/-- East and north in the map plane, in nm, of an ECEF vector. -/
def inPlane (g : GeoPose) (v : Vec) : Int × Int :=
  let f := axes g.orgLat g.orgLon
  (f.2.1.dot v, f.1.dot v)

/-- The map coordinates in µm of the offset (x, y, z) in mm of the implement at a pose (R275, R276). -/
def project (g : GeoPose) (x y z : Int) : Int × Int :=
  let r := rotated g.hdg g.pitch g.roll ⟨x * 1000000, y * 1000000, z * 1000000⟩
  let p := (ecef g.lat g.lon (g.hgt * 1000000)).add (toEcef (axes g.lat g.lon) r)
  let q := inPlane g (p.sub (ecef g.orgLat g.orgLon 0))
  (divOpen 275 q.1 1000, divOpen 275 q.2 1000)

/-- The map vector in µm of a length in µm along the implement x axis (`true`) or y axis at a pose. The axes are taken as
horizontal, so that the footprint is a rectangle of its full length whatever roll and pitch are (R271, R277; log entry
810). -/
def along (g : GeoPose) (fwd : Bool) (l : Int) : Int × Int :=
  let r := rotated g.hdg 0 0 (if fwd then ⟨l * 1000, 0, 0⟩ else ⟨0, l * 1000, 0⟩)
  let q := inPlane g (toEcef (axes g.lat g.lon) r)
  (divOpen 277 q.1 1000, divOpen 277 q.2 1000)

/-! ## Turning (R335) -/

/-- ω × d in µm/s for a yaw rate in 0.01°/s and a distance in mm. -/
def turnSpeed (yaw d : Int) : Int := divOpen 335 (yaw * d * pi18) (18 * one18)

/-- The root of a number, which an inexact root rounds up or down (log entry 6). -/
def rootOpen (site v : Nat) : Nat :=
  let r := isqrt v
  if r * r = v then r else if Config.roundsUp site v 0 then r + 1 else r

/-- The signed speed in µm/s of the point at (x, y) in mm for a speed in mm/s and a yaw rate in 0.01°/s (R335). -/
def pointSpeed (v yaw x y : Int) : Int :=
  let f := v * 1000 - turnSpeed yaw y
  let l := turnSpeed yaw x
  f.sign * rootOpen 336 (f * f + l * l).toNat

end Sys2Proof.Machine
end

