-- ==== Sys2Proof/Machine/Lanes.lean ====
section
/-! DEFINITION. The lanes: rings of 64-byte entries in DRAM, how the SV-96 produces and consumes entries, and what
happens to entries when a lane is full or disabled (R129 to R146). -/

namespace Sys2Proof.Machine

open Sys2Proof

/-- An entry of a message the SV-96 produces: TYPE, AUX and payload (R135). -/
structure LaneEntry where
  type    : Nat
  aux     : Nat
  payload : List Byte
  deriving DecidableEq, Repr

/-- The DRAM address of slot `i` of lane `n` (R129). -/
def State.laneSlot (s : State) (n i : Nat) : Nat := 0x1E000000 + s.get (F.LANE_BASE n) + i * 64

/-- LANE_SIZE of lane `n`. -/
def State.laneSize (s : State) (n : Nat) : Nat := s.get (F.LANE_SIZE n)

/-- The level of lane `n`: (HEAD − TAIL) mod LANE_SIZE (R130). -/
def State.laneLevel (s : State) (n : Nat) : Nat :=
  (s.get (F.LANE_HEAD_HEAD n) + s.laneSize n - s.get (F.LANE_TAIL_TAIL n)) % s.laneSize n

/-- The lane takes part in traffic: EN = 1 and the LANE block runs (R142). -/
def State.laneOn (s : State) (n : Nat) : Bool := s.runs .lane && s.flag (F.LANE_CTRL_EN n)

/-- The SV-96 produces into the lane: on, with DIR = 0 (R131, R142). -/
def State.laneOut (s : State) (n : Nat) : Bool := s.laneOn n && !s.flag (F.LANE_CTRL_DIR n)

/-- The SV-96 consumes from the lane: on, with DIR = 1 (R131, R142). -/
def State.laneIn (s : State) (n : Nat) : Bool := s.laneOn n && s.flag (F.LANE_CTRL_DIR n)

/-- The ring is full at LANE_SIZE − 1 entries (R130). -/
def State.laneFull (s : State) (n : Nat) : Bool := decide (s.laneSize n ≤ s.laneLevel n + 1)

/-- The index after `i` in lane `n`. -/
def State.laneNext (s : State) (n i : Nat) : Nat := (i + 1) % s.laneSize n

/-- The state with 64 bytes written at HEAD and HEAD advanced (R134); an entry that falls into a dead page is lost (R37,
R38). -/
def State.laneWrite (s : State) (n : Nat) (bytes : List Byte) : State :=
  let h := s.get (F.LANE_HEAD_HEAD n)
  let a := s.laneSlot n h
  let s := (s.setBytes a (padTo 64 bytes)).put (F.LANE_HEAD_HEAD n) (s.laneNext n h)
  if s.deadPage a then (s.count (F.LANE_LOST n) 1).raise 18 else s

/-- The entries of lane `n` from ring index `h` to HEAD that lie in a dead page are lost: counted once (R37, R38, R139). -/
def State.laneDead (s : State) (n h : Nat) : State :=
  let k := (s.get (F.LANE_HEAD_HEAD n) + s.laneSize n - h) % s.laneSize n
  let l := (List.range k).filter (fun j => s.deadPage (s.laneSlot n ((h + j) % s.laneSize n)))
  if l.isEmpty then s else (s.count (F.LANE_LOST n) l.length).raise 18

/-- `k` entries counted as lost for a cause other than a disable: LANE_LOST and LANE_LOST_EV (R138, R139, R696). -/
def State.laneLose (s : State) (n k : Nat) : State :=
  if k = 0 then s
  else
    let s := (s.count (F.LANE_LOST n) k).raise 18
    { s with lanes := s.lanes.modify n (fun l => { l with lostBefore := true }) }

/-- The bytes 2 to 63 of an entry: TYPE, FLAGS, AUX and payload (R135, R136). -/
def entryTail (e : LaneEntry) (first last : Bool) : List Byte :=
  BitVec.ofNat 8 e.type :: BitVec.ofNat 8 (bit first + 2 * bit last) :: (leBytes 4 e.aux ++ padTo 56 e.payload)

/-- The state after the entry with bytes 2 to 63 `t` and number `q`, modulo 2^16 its LSEQ (R137), is written; LOSTBEFORE is set in its FLAGS
where entries were lost before it (R138). -/
def State.lanePlace (s : State) (n q : Nat) (t : List Byte) : State :=
  let l := s.lanes.get n
  let t' := if l.lostBefore then t.set 1 (t.getD 1 0 ||| 4#8) else t
  let s := s.laneWrite n (leBytes 2 q ++ t')
  { s with lanes := s.lanes.modify n (fun l => { l with lostBefore := false }) }

/-- One entry produced by the SV-96 (R137, R138, R142). Answers whether it was dropped. -/
def State.laneEmit (s : State) (n : Nat) (t : List Byte) : Bool × State :=
  let l := s.lanes.get n
  let s := { s with lanes := s.lanes.set n { l with lseq := l.lseq + 1 } }
  if !s.laneOut n then (true, s.laneLose n 1)
  else if s.laneFull n || !l.held.isEmpty then
    if s.flag (F.LANE_CTRL_WAIT n) then
      (false, { s with lanes := s.lanes.modify n (fun l => { l with held := l.held ++ [⟨l.lseq - 1, t⟩] }) })
    else (true, s.laneLose n 1)
  else (false, s.lanePlace n l.lseq t)

/-- One entry that the SV-96 would produce is dropped with the rest of its message (R138). -/
def State.laneDrop (s : State) (n : Nat) : State :=
  ({ s with lanes := s.lanes.modify n (fun l => { l with lseq := l.lseq + 1 }) }).laneLose n 1

/-- The rest of a message: once an entry is dropped the remaining entries of the message are dropped too (R138). -/
def State.laneRest (s : State) (n : Nat) (first dropped : Bool) : List LaneEntry → State
  | [] => s
  | e :: t =>
    if dropped then (s.laneDrop n).laneRest n false true t
    else
      let r := s.laneEmit n (entryTail e first t.isEmpty)
      r.2.laneRest n false r.1 t

/-- The SV-96 produces one message into lane `n` (R136, R138). -/
def State.laneProduce (s : State) (n : Nat) (m : List LaneEntry) : State := s.laneRest n true false m

/-- The number of the last of the next `k` entries that the SV-96 produces into lane `n`; its low 16 bits are LSEQ (R137). -/
def State.laneEnd (s : State) (n k : Nat) : Nat := (s.lanes.get n).lseq + k - 1

/-- An entry of lane `n` is held under WAIT = 1 (R138). -/
def State.laneHolds (s : State) (n seq : Nat) : Bool := (s.lanes.get n).held.any (fun h => h.lseq == seq)

/-- Writes held entries while the ring has room (R138). -/
def State.laneRelease (s : State) (n : Nat) : List HeldEntry → State
  | [] => { s with lanes := s.lanes.modify n (fun l => { l with held := [] }) }
  | e :: t =>
    if s.laneFull n then { s with lanes := s.lanes.modify n (fun l => { l with held := e :: t }) }
    else (s.lanePlace n e.lseq e.bytes).laneRelease n t

/-- TYPE of the entry in slot `i`. -/
def State.laneType (s : State) (n i : Nat) : Nat := (s.byte (s.laneSlot n i + 2)).toNat

/-- TAIL moved past entries whose TYPE is 0x00, which a page loss leaves (R139); `k` bounds how many. -/
def State.laneSkip (s : State) (n : Nat) : Nat → State
  | 0 => s
  | k + 1 =>
    let t := s.get (F.LANE_TAIL_TAIL n)
    if s.laneLevel n ≠ 0 ∧ s.laneType n t = 0 then (s.put (F.LANE_TAIL_TAIL n) (s.laneNext n t)).laneSkip n k else s

/-- The entry of lane `n` at TAIL and the state with TAIL past it; none where the lane holds no entry (R133). -/
def State.laneFirst (s : State) (n : Nat) : Option (List Byte) × State :=
  if s.laneLevel n = 0 then (none, s)
  else
    let t := s.get (F.LANE_TAIL_TAIL n)
    (some (s.bytes (s.laneSlot n t) 64), s.put (F.LANE_TAIL_TAIL n) (s.laneNext n t))

/-- The oldest entry of lane `n` that was not lost, and the state with TAIL past it (R133, R139). -/
def State.laneTake (s : State) (n : Nat) : Option (List Byte) × State := (s.laneSkip n (s.laneLevel n)).laneFirst n

/-- Up to `k` entries taken, oldest first (R133). -/
def State.lanePopUpTo (s : State) (n : Nat) : Nat → List Byte × State
  | 0 => ([], s)
  | k + 1 =>
    match s.laneTake n with
    | (none, s) => ([], s)
    | (some b, s) => let r := s.lanePopUpTo n k; (b ++ r.1, r.2)

/-- What the SV-96 takes from a lane it consumes: nothing while the lane is off or its DIR is 0 (R142). -/
def State.laneConsume (s : State) (n : Nat) : Option (List Byte) × State :=
  if s.laneIn n then s.laneTake n else (none, s)

/-- The entries of lane `n` discarded because EN, or ENABLE of the LANE block, goes from 1 to 0 (R142): TAIL is set to
HEAD, they are counted in LANE_LOST and LANE_DISC is raised where there were any. Entries that the producer holds are
dropped as of a disabled lane. -/
def State.laneClear (s : State) (n : Nat) : State :=
  let k := s.laneLevel n
  let h := (s.lanes.get n).held.length
  let s := s.put (F.LANE_TAIL_TAIL n) (s.get (F.LANE_HEAD_HEAD n))
  let s := if k = 0 then s else (s.count (F.LANE_LOST n) k).raise 28
  ({ s with lanes := s.lanes.modify n (fun l => { l with held := [] }) }).laneLose n h

/-- The lane's SIZE is one that R129 allows. -/
def laneSizeOk (n : Nat) : Bool :=
  [16, 32, 64, 128, 256, 512, 1024, 2048, 4096, 8192, 16384].contains n

/-- The ring of `size` entries at offset `base` stays within the lane window (R129). -/
def laneFits (base size : Nat) : Bool := decide (base + size * 64 ≤ 0x1000000)

/-- The lanes that count towards STATUS.LANE, bit n for lane n (R143, LANE_READY of R140); none while the LANE block is disabled
(log entry 408). -/
def State.laneReady (s : State) : Nat :=
  (List.range 16).foldl (fun m n =>
    if s.laneOut n && s.flag (F.LANE_CTRL_ATTN n) && decide (s.get (F.LANE_THRESH n) ≤ s.laneLevel n)
    then m + 2 ^ n else m) 0

/-- Writes the held entries of lane `n` once there is room. -/
def State.producerResume (s : State) (n : Nat) : State :=
  if s.laneOut n then s.laneRelease n (s.lanes.get n).held else s

/-- A satellite runs without a tick that is aligned to the lead's (R10, R86, R93): declared lost, lost by a device reset (R597),
or not yet found. -/
def State.tickless (s : State) : Bool := s.isSat && !s.flag F.SYS_LINK_STATE_TICKOK

end Sys2Proof.Machine
end

