-- ==== Sys2Proof/Machine/Fbk.lean ====
section
/-! DEFINITION. The FBK block: pulse interfaces, compare lists, SSI, emulation outputs, analog inputs and speed fusion
(R236 to R268). -/

namespace Sys2Proof.Machine

open Sys2Proof

def State.modEnc (s : State) (n : Nat) (f : EncState → EncState) : State := { s with enc := s.enc.modify n f }
def State.modSsi (s : State) (n : Nat) (f : SsiState → SsiState) : State := { s with ssi := s.ssi.modify n f }
def State.modEmu (s : State) (n : Nat) (f : EmuState → EmuState) : State := { s with emu := s.emu.modify n f }
def State.modAin (s : State) (n : Nat) (f : AinState → AinState) : State := { s with ain := s.ain.modify n f }
def State.modFus (s : State) (f : FusState → FusState) : State := { s with fus := f s.fus }

/-! ## Position and compare entries (R240, R241, R245, R246) -/

/-- The position of interface `n`. -/
def State.encPos (s : State) (n : Nat) : Int := s.int (R.FBK_ENC_POS n)

/-- BEHIND of entry `k` of interface `n` (R246). -/
def State.cmpBehind (s : State) (n k : Nat) : Bool :=
  let p := s.int (R.FBK_CMP_POS n k)
  match s.get (F.FBK_CMP_CTRL_DIR n k) with
  | 1 => decide (p ≤ s.encPos n)
  | 2 => decide (s.encPos n ≤ p)
  | 3 => decide (p = s.encPos n)
  | _ => false

/-- BEHIND evaluated for entry `k`. -/
def State.cmpEval (s : State) (n k : Nat) : State := s.putB (F.FBK_CMP_CTRL_BEHIND n k) (s.cmpBehind n k)

/-- STAT.LIMIT follows the position (R240). -/
def State.encLimit (s : State) (n : Nat) : Bool :=
  s.flag (F.FBK_ENC_CFG_LIMEN n) &&
  (decide (s.int (R.FBK_ENC_LIM_HI n) ≤ s.encPos n) || decide (s.encPos n ≤ s.int (R.FBK_ENC_LIM_LO n)))

/-- With LIMEN = 1 the position is held within LIM_LO to LIM_HI, also as it is loaded or the limits change (R240, log entry
709). -/
def State.encHold (s : State) (n : Nat) : State :=
  let lo := s.int (R.FBK_ENC_LIM_LO n)
  let hi := s.int (R.FBK_ENC_LIM_HI n)
  if s.flag (F.FBK_ENC_CFG_LIMEN n) && decide (lo ≤ hi) then s.setInt (R.FBK_ENC_POS n) (clamp lo hi (s.encPos n)) else s

/-- STAT.LIMIT is shown; ENC_LIMIT is raised where the counter reaches a limit, which it does too where it `moved` from one
limit to the other (R240). -/
def State.limitNote (s : State) (n : Nat) (moved : Bool) : State :=
  let lim := s.encLimit n
  (s.raiseIf (lim && (moved || !s.flag (F.FBK_ENC_STAT_LIMIT n))) 82).putB (F.FBK_ENC_STAT_LIMIT n) lim

/-- The jumps of encoder `n` are counted under kind 15 of the stamps (R241, R507). -/
def State.jumpNote (s : State) (n : Nat) : State := { s with stamps := s.stamps.set (15 * 4096 + n) (s.stamped 15 n + 1) }

/-- The counter, which stood at `p`, was loaded: a jump re-evaluates BEHIND of every armed entry and fires none (R241). -/
def State.encJumped (s : State) (n : Nat) (p : Int) : State :=
  let s := s.encHold n
  let s := ((s.stamp 3 n).jumpNote n).limitNote n (s.encPos n != p)
  s.each (List.range 16) (fun s k => if s.flag (F.FBK_CMP_CTRL_ARM n k) then s.cmpEval n k else s)

/-- Entry `k` fires on an edge at the present time (R245). -/
def State.cmpFire (s : State) (n k : Nat) : State :=
  let s := (s.setNat64 (R.FBK_CMP_T_LO n k) s.now).put (F.FBK_CMP_CTRL_FIRED n k) 1
  let s := s.raiseIf (s.flag (F.FBK_CMP_CTRL_EVT n k)) 88
  if s.flag (F.FBK_CMP_CTRL_REARM n k) then s else s.put (F.FBK_CMP_CTRL_ARM n k) 0

/-- Entry `k` lies outside soft limits that hold (R247). -/
def State.cmpOutside (s : State) (n k : Nat) : Bool :=
  let p := s.int (R.FBK_CMP_POS n k)
  s.flag (F.FBK_ENC_CFG_LIMEN n) && (decide (p < s.int (R.FBK_ENC_LIM_LO n)) || decide (s.int (R.FBK_ENC_LIM_HI n) < p))

/-- The entries crossed by a move of direction `d` to the present position (R245, R247). -/
def State.cmpCross (s : State) (n : Nat) (d : Int) : State :=
  s.each (List.range 16) (fun s k =>
    let dir := s.get (F.FBK_CMP_CTRL_DIR n k)
    if s.flag (F.FBK_CMP_CTRL_ARM n k) && !s.cmpOutside n k && decide (s.int (R.FBK_CMP_POS n k) = s.encPos n) &&
       (dir == 3 || (dir == 1 && decide (0 < d)) || (dir == 2 && decide (d < 0)))
    then s.cmpFire n k else s)

/-- A counted edge moves the position under the limits (R240). -/
def State.encMove (s : State) (n : Nat) (d : Int) : State :=
  let p := s.encPos n
  let stuck := s.flag (F.FBK_ENC_CFG_LIMEN n) &&
    ((decide (0 < d) && decide (s.int (R.FBK_ENC_LIM_HI n) ≤ p)) ||
     (decide (d < 0) && decide (p ≤ s.int (R.FBK_ENC_LIM_LO n))))
  let s := if stuck then s else ((s.setInt (R.FBK_ENC_POS n) (p + d)).cmpCross n d).stamp 3 n
  s.limitNote n (!stuck)

/-! ## Speed (R242 to R244) -/

/-- The interface goes STILL with speed 0 (R239, R243, R244). -/
def State.encStill (s : State) (n : Nat) : State :=
  (s.put (F.FBK_ENC_STAT_SSTATE n) 0).setNat (R.FBK_ENC_SPD n) 0

/-- A window opens now (R243). -/
def State.encOpen (s : State) (n st : Nat) : State :=
  ((s.put (F.FBK_ENC_STAT_SSTATE n) st).setNat (R.FBK_ENC_SPD n) 0).modEnc n
    (fun e => { e with winStart := s.clk, cnt := 0 })

/-- WIN and SCALE are taken into use (R244). -/
def State.encLatch (s : State) (n : Nat) : State :=
  let w := s.get (F.FBK_ENC_WIN_WIN n)
  let k := s.nat (R.FBK_ENC_SCALE n)
  s.modEnc n (fun e => { e with win := w, scale := k })

/-- A speed window ends (R242, R243): speed = count × SCALE / WIN in sQ24.8. -/
def State.encWindow (s : State) (n : Nat) : State :=
  let e := s.enc.get n
  let v := divOpen 242 (e.cnt * e.scale * 1000) (e.win * 256)
  let r := s.fit 32 v
  let s := (r.2.setInt (R.FBK_ENC_SPD n) r.1).setNat64 (R.FBK_ENC_SPD_T_LO n) s.now
  let s := (s.put (F.FBK_ENC_STAT_SSTATE n) 3).modEnc n (fun x => { x with cnt := 0, winStart := e.winStart + e.win * msec })
  (s.encLatch n).stamp 2 n

/-- A window of interface `n` ends by now (R243). -/
def State.encDue (s : State) (n : Nat) : Bool :=
  let e := s.enc.get n
  s.get (F.FBK_ENC_STAT_SSTATE n) != 0 && e.win != 0 && s.passed e.winStart (e.win * msec)

/-- A counted edge of direction `d` (R243); a window that ends at the same instant ends first. -/
def State.encCount (s : State) (n : Nat) (d0 : Int) : State :=
  let s := if s.encDue n then s.encWindow n else s
  let d := if s.flag (F.FBK_ENC_CFG_NEG n) then -d0 else d0
  let s := s.encMove n d
  let s :=
    if s.get (F.FBK_ENC_STAT_SSTATE n) = 0 then (s.encLatch n).encOpen n 1
    else if s.flag (F.FBK_ENC_STAT_DIR n) != decide (d < 0) then s.encOpen n 2
    else s.modEnc n (fun e => { e with cnt := e.cnt + d })
  (s.putB (F.FBK_ENC_STAT_DIR n) (decide (d < 0))).modEnc n (fun e => { e with lastEdge := s.clk })

/-- What a change of the filtered levels from (a0, b0) to (a, b) counts in a mode: the edges' directions (R237). A leading
B is positive. -/
def edgesOf (mode : Nat) (a0 b0 a b : Bool) : List Int :=
  let ra := !a0 && a
  let rb := !b0 && b
  match mode with
  | 1 => if a0 != a then [if (a == b) then -1 else 1] else if b0 != b then [if (a == b) then 1 else -1] else []
  | 2 => if ra then [if b then -1 else 1] else []
  | 3 => if ra then [if b then -1 else 1] else []
  | 4 => if ra then [1] else []
  | 5 => (if ra then [1] else []) ++ (if rb then [-1] else [])
  | _ => []

/-- The interface counts: FBK runs, MODE is not OFF and no used line is bad (R239, R258). -/
def State.encCounts (s : State) (n : Nat) : Bool :=
  s.runs .fbk && s.get (F.FBK_ENC_CFG_MODE n) != 0 && s.get (F.FBK_ENC_STAT_BAD n) == 0

/-! ## The end of travel of a load switch (R421) -/

/-- The settings of a window (R426, R433): the source, its instance, POL, and EOT_T, STALL_T and IGN in ms, STALL_MA in 10 mA. -/
def EotWin.src (w : EotWin) : Nat := w.cfg.toNat / 2 ^ 28
def EotWin.inst (w : EotWin) : Nat := w.cfg.toNat / 2 ^ 24 % 16
def EotWin.polar (w : EotWin) : Bool := w.cfg.getLsbD 16
def EotWin.eotT (w : EotWin) : Nat := w.cfg.toNat % 65536
def EotWin.stallMa (w : EotWin) : Nat := w.stall.toNat / 65536
def EotWin.stallT (w : EotWin) : Nat := w.stall.toNat / 256 % 256
def EotWin.ignT (w : EotWin) : Nat := w.ign.toNat % 65536

/-- The analog input of a window of SRC = AIN, or the line of one of SRC = ENC, stands at the end of travel: on its active side
for an opening, off it for a closing; a value at THR itself stands for either side (R421). -/
def State.eotThere (s : State) (c : Bool) (w : EotWin) : Bool :=
  if w.src = 2 then
    let v := s.int (R.FBK_AIN_VAL w.inst)
    if c == w.polar then decide (w.thr.toInt ≤ v) else decide (v ≤ w.thr.toInt)
  else if w.src = 3 then (s.enc.get w.inst).a == (c == w.polar)
  else false

/-- An input has taken a new value, or a line a new level: the windows that see it off the end of travel keep that, so that
reaching it is a crossing (R421). -/
def State.eotWatch (s : State) : State :=
  let see (c : Bool) (w : EotWin) : EotWin := { w with away := w.away || (w.on && !s.eotThere c w) }
  let all (x : ArmSw) : ArmSw :=
    { x with opening := see false x.opening, closing := see true x.closing, later := x.later.map (fun e => (e.1, see e.1 e.2)) }
  { s with armSw := Table.mapAll all s.armSw }

/-- A change of the filtered levels of A and B (R237, R238, R243). -/
def State.encLevels (s : State) (n : Nat) (a b : Bool) : State :=
  let e := s.enc.get n
  let mode := s.get (F.FBK_ENC_CFG_MODE n)
  let s := (s.modEnc n (fun e => { e with a := a, b := b })).eotWatch
  if !s.encCounts n then s
  else if mode = 1 && e.a != a && e.b != b then
    let s := s.count (F.FBK_ENC_QERR n) 1
    s.put ⟨H.sticky .fbk, 8 + n, 1⟩ 1
  else s.each (edgesOf mode e.a e.b a b) (fun s d => s.encCount n d)

/-- How long a level lasts before it counts, in samples of 10 ns: FILT counts 10 ns, in MAGSW 10 µs (R238). -/
def State.encFilt (s : State) (n : Nat) : Nat :=
  s.get (F.FBK_ENC_FILT_FILT n) * (if s.get (F.FBK_ENC_CFG_INTYPE n) = 2 then 1000 else 1)

/-- The level of a line after its filter: a change that has not lasted FILT is ignored (R238). -/
def State.encLine (s : State) (n : Nat) (old : Bool) (x : LineLevel) : Bool := if s.encFilt n ≤ x.held then x.level else old

/-- The Z line rises (R241). -/
def State.encZ (s : State) (n : Nat) : State :=
  let mode := s.get (F.FBK_ENC_CFG_MODE n)
  let load := (s.setNat (R.FBK_ENC_POS n) (s.nat (R.FBK_ENC_ZVAL n))).encJumped n (s.encPos n)
  if !s.encCounts n || !(mode == 1 || mode == 2 || mode == 3) then s
  else match s.get (F.FBK_ENC_ZCFG_ZMODE n) with
    | 1 => s.setNat (R.FBK_ENC_ZLAT n) (s.nat (R.FBK_ENC_POS n))
    | 2 => if (s.enc.get n).zArmed then load.modEnc n (fun e => { e with zArmed := false }) else s
    | 3 => load
    | _ => s

/-- The lines an interface uses in a mode, as bits A, B, Z (R237, R239, R241). -/
def State.encLines (s : State) (n : Nat) : Nat :=
  match s.get (F.FBK_ENC_CFG_MODE n) with
    | 0 => 0
    | 4 => 1
    | 5 => 3
    | _ => if s.get (F.FBK_ENC_ZCFG_ZMODE n) = 0 then 3 else 7

/-- The lines that are supervised: differential ones (R236, R239), and while VIO is lost the SE and MAGSW ones (R604). -/
def State.encUsed (s : State) (n : Nat) : Nat :=
  if s.get (F.FBK_ENC_CFG_INTYPE n) = 0 || !s.flag F.PWR_STAT_VIO_OK then s.encLines n else 0

/-- The lines whose pins have stayed at one level for WIRE_T, as bits A, B, Z (R239). -/
def State.encStuck (s : State) (n : Nat) (x : LinePairs) : Nat :=
  let t := s.get (F.FBK_ENC_CFG_WIRE_T n)
  bit (decide (t ≤ x.a)) + 2 * bit (decide (t ≤ x.b)) + 4 * bit (decide (t ≤ x.z))

/-- Lines of interface `n` are found bad (R239). -/
def State.encBad (s : State) (n lines : Nat) : State :=
  let used := BitVec.ofNat 3 (s.encUsed n)
  let old := s.get (F.FBK_ENC_STAT_BAD n)
  let bad := (BitVec.ofNat 3 lines &&& used).toNat
  if !s.present .fbk || bad = 0 then s
  else
    let s := (s.put (F.FBK_ENC_STAT_BAD n) ((BitVec.ofNat 3 lines ||| BitVec.ofNat 3 old) &&& used).toNat).modEnc n
      (fun e => { e with badAt := s.clk })
    if old = 0 then ((s.encStill n).raise 81).put ⟨H.sticky .fbk, n, 1⟩ 1 else s

/-- While VIO is lost the used lines of interface `n` that it feeds are bad (R604). -/
def State.encVio (s : State) (n : Nat) : State :=
  if s.flag F.PWR_STAT_VIO_OK || s.get (F.FBK_ENC_CFG_INTYPE n) = 0 then s else s.encBad n 7

/-! ## SSI (R248, R249) -/

/-- The number that a Gray code of `w` bits stands for: each bit is the parity of the code's bits from the top down to
it. -/
def grayDecode : Nat → Nat → Nat
  | 0, _ => 0
  | w + 1, v => 2 * grayDecode w (v / 2) + (popCount (w + 1) v) % 2

/-- The cause of an error in a frame, or 0 (R249). -/
def ssiError (cfg : Nat) (low : Bool) (v v2 : Nat) : Nat :=
  let errbit := cfg / 2 ^ 24 % 64
  if low then 1
  else if nbit cfg 3 && v != v2 then 2
  else if errbit != 0 && nbit v (errbit - 1) then 3
  else 0

/-- An SSI frame completes (R248, R249). -/
def State.ssiDone (s : State) (n : Nat) (low : Bool) (data again : Nat) : State :=
  let x := s.ssi.get n
  let bits := x.cfg / 2 ^ 16 % 64
  let v := data % 2 ^ bits
  let err := ssiError x.cfg low v (again % 2 ^ bits)
  let s := s.modSsi n (fun x => { x with busy := false })
  if err = 0 then
    let v' := if nbit x.cfg 2 then grayDecode bits v else v
    let s := ((s.setNat (R.FBK_SSI_POS n) v').setNat64 (R.FBK_SSI_T_LO n) x.tag).put (F.FBK_SSI_STAT_VALID n) 1
    (s.modSsi n (fun x => { x with errs := 0, out := false })).stamp 4 n
  else
    let s := (s.count (F.FBK_SSI_ERRCNT n) 1).put (F.FBK_SSI_STAT_ERR n) err
    let k := x.errs + 1
    let s := s.modSsi n (fun x => { x with errs := min k 255 })
    if x.cfg / 2 ^ 8 % 16 ≤ k && !x.out then
      ((s.put (F.FBK_SSI_STAT_VALID n) 0).modSsi n (fun x => { x with out := true })).raise 83
    else s

/-! ## Emulation outputs (R250, R251) -/

/-- A thousandth of a demanded rate's unit: one cycle per ms in units of source value × K (R250). -/
def emuUnit : Int := 256 * 65536 * 1000000

/-- One cycle of an emulation output's phase. -/
def emuCycle : Int := emuUnit * 16000

/-- The source value of EMUn in 1/256 unit per second (R250). -/
def State.emuSource (s : State) (n : Nat) : Int :=
  match s.get (F.FBK_EMU_CFG_SRC n) with
  | 0 => s.gets F.FBK_FUS_OUT * 256
  | 1 => s.int (R.FBK_ENC_SPD (s.get (F.FBK_EMU_CFG_INST n)))
  | _ => s.int (R.FBK_EMU_FIX n)

/-- How often A rises as the phase moves from `p` to `q`: forwards at whole cycles, backwards at half cycles (R251). -/
def emuRises (p q : Int) : Nat :=
  if p ≤ q then (q / emuCycle - p / emuCycle).toNat
  else ((p - emuCycle / 2) / emuCycle - (q - emuCycle / 2) / emuCycle).toNat

/-- The output runs (R250, R251, R258); not before the outputs are released, nor in the safe course (R600). -/
def State.emuOn (s : State) (n : Nat) : Bool :=
  s.runs .fbk && s.flag (F.FBK_EMU_CFG_EN n) && s.released

/-- The phase of EMUn now, not reduced to one cycle: it has moved at the rate of the last update since then (R250). -/
def State.emuPhase (s : State) (n : Nat) : Int := let e := s.emu.get n; e.phase + e.rate * (s.clk - e.since : Nat)

/-- The direction of EMUn: a rate of 0 keeps the last one. -/
def EmuState.neg (e : EmuState) : Bool := if e.rate = 0 then e.zNeg else decide (e.rate < 0)

/-- How often A has risen in a row in one direction by now (R251). -/
def State.emuRun (s : State) (n : Nat) : Nat :=
  let e := s.emu.get n
  (if e.neg == e.zNeg then e.zRun else 0) + emuRises e.phase (s.emuPhase n)

/-- The levels of EMUn_A, EMUn_B and EMUn_Z (R251): over a cycle A is high in the first half and B from the first to the
third quarter, so that a positive rate puts A ahead; Z is high in the quarter cycle after each ZDIV-th rise of A in a
row. All are low with EN = 0 and under limp-home (R449). While VIO is lost they are undriven: none (R604). -/
def State.emuPins (s : State) (n : Nat) : Option (Bool × Bool × Bool) :=
  if !s.flag F.PWR_STAT_VIO_OK then none else some <|
  let q := (s.emuPhase n).emod emuCycle / (emuCycle / 4)
  let z := s.get (F.FBK_EMU_CFG_ZDIV n)
  if !s.emuOn n || s.flag F.HSW_LH_STAT_ACTIVE then (false, false, false)
  else (decide (q < 2), decide (1 ≤ q ∧ q < 3),
    z != 0 && s.emuRun n != 0 && s.emuRun n % z == 0 && decide (q = if (s.emu.get n).neg then 1 else 0))

/-- The 1 ms update of EMUn (R250, R251): the phase so far is kept, and moves at the new rate from now on. -/
def State.emuStep (s : State) (n : Nat) : State :=
  if !s.emuOn n then
    (s.setNat (R.FBK_EMU_STAT n) 0).modEmu n (fun _ => default)
  else
    let r0 := s.emuSource n * s.nat (R.FBK_EMU_K n)       -- cycles per 1 ms, in units of the phase
    let r := if s.flag (F.FBK_EMU_CFG_NEG n) then -r0 else r0
    let top := 250 * emuUnit
    let c := clamp (-top) top r
    let hit := decide (c ≠ r)
    let e := s.emu.get n
    let z := s.get (F.FBK_EMU_CFG_ZDIV n)
    let run := s.emuRun n
    let old := if e.neg == e.zNeg then e.zRun else 0
    let p := (s.emuPhase n).emod emuCycle
    let s := s.raiseIf (hit && !s.flag (F.FBK_EMU_STAT_CLAMP n)) 89
    let s := (s.putB (F.FBK_EMU_STAT_CLAMP n) hit).put (F.FBK_EMU_STAT_RATE n) (divOpen 250 (c.natAbs * 100) emuUnit).toNat
    s.modEmu n (fun e => { phase := p, rate := c, since := s.clk, zNeg := e.neg, zRun := run
                           zCount := if z = 0 then e.zCount else e.zCount + (run / z - old / z) })

/-! ## Analog inputs (R252 to R254) -/

/-- The range judgement of AINn at a sample (R254). -/
def State.ainRange (s : State) (n : Nat) : State :=
  let v := s.int (R.FBK_AIN_VAL n)
  let out := decide (v < s.int (R.FBK_AIN_LIM_LO n)) || decide (s.int (R.FBK_AIN_LIM_HI n) < v)
  let s := s.modAin n (fun a => { a with outRun := if out then min (a.outRun + 1) 10 else 0
                                         inRun := if out then 0 else min (a.inRun + 1) 10 })
  let a := s.ain.get n
  if a.outRun = 10 && !s.flag (F.FBK_AIN_STAT_RANGE n) then (s.put (F.FBK_AIN_STAT_RANGE n) 1).raise 84
  else if a.inRun = 10 then s.put (F.FBK_AIN_STAT_RANGE n) 0
  else s

/-- The open-loop judgement of AINn in the current mode: RAW × 25 mA against OPEN × 0.1 mA for 50 ms (R254). -/
def State.ainOpen (s : State) (n : Nat) : State :=
  let low := decide (s.get (F.FBK_AIN_RAW n) * 250 < s.get (F.FBK_AIN_CFG_OPEN n) * 65536)
  let s := s.modAin n (fun a => { a with lowRun := if low then min (a.lowRun + 1) 1000 else 0
                                         okRun := if low then 0 else min (a.okRun + 1) 1000 })
  let a := s.ain.get n
  if a.lowRun = 1000 && !s.flag (F.FBK_AIN_STAT_OPEN n) then (s.put (F.FBK_AIN_STAT_OPEN n) 1).raise 85
  else if a.okRun = 1000 then s.put (F.FBK_AIN_STAT_OPEN n) 0
  else s

/-- Sample `x` passes the filter of AINn and its scaling (R253). -/
def State.ainFilter (s : State) (n x : Nat) : State :=
  let a := s.ain.get n
  let y := if a.init then (a.y + ((x * 65536 : Nat) - a.y : Int) / (2 ^ s.get (F.FBK_AIN_CFG_TC n) : Nat)).toNat
           else x * 65536
  let raw := min ((y + 32768) / 65536) 65535
  let v := divOpen 253 (raw * s.int (R.FBK_AIN_GAIN n)) 65536 + s.int (R.FBK_AIN_OFS n)
  let s := s.modAin n (fun a => { a with y := y, init := true })
  (((s.put (F.FBK_AIN_RAW n) raw).setInt (R.FBK_AIN_VAL n) (satS 32 v)).stamp 1 n).eotWatch

/-- One conversion of AINn, with whether its current is above 30 mA (R252 to R254). -/
def State.ainSample (s : State) (n x : Nat) (high : Bool) : State :=
  let mode := s.get (F.FBK_AIN_CFG_RANGE n)
  if mode = 0 || s.flag (F.FBK_AIN_STAT_SHUNT_OPEN n) then s
  else
    let s := s.modAin n (fun a => { a with highRun := if high && mode == 3 then a.highRun + 1 else 0 })
    if 20 ≤ (s.ain.get n).highRun then
      ((s.put (F.FBK_AIN_STAT_SHUNT_OPEN n) 1).raise 84).modAin n (fun a => { a with highRun := 0 })
    else
      let s := (s.ainFilter n x).ainRange n
      if mode = 3 then s.ainOpen n else s

/-! ## Speed fusion (R255 to R257) -/

/-- The GNSS speed in mm/s of a velocity of `v` mm/s on course `c` in 0.01° (R255): its part along the heading, signed,
where the heading is A–B or propagated, else the speed with the sign of the previous fused speed. -/
def State.gnssSpeed (s : State) (v c : Nat) : Int :=
  let src := s.get F.NAV_POSE_Q_HSRC
  if src = 1 ∨ src = 3 then
    let d := (c + 36000 - s.get F.NAV_POSE_HDG_HDG) % 36000
    let m : Int := min v (speedAlong v d)
    if 9000 < d ∧ d < 27000 then -m else m
  else if s.gets F.FBK_FUS_OUT < 0 then -v else v

/-- The validity and value in mm/s of source slot `k` (R255). -/
def State.fusSource (s : State) (k : Nat) : Bool × Int :=
  let inst := s.get (F.FBK_FUS_SRC_CFG_INST k)
  let age := s.get (F.FBK_FUS_SRC_AGE_AGE k) * msec
  if !s.flag (F.FBK_FUS_SRC_CFG_EN k) then (false, 0)
  else match s.get (F.FBK_FUS_SRC_CFG_TYPE k) with
    | 1 => (decide (inst < 8) && s.get (F.FBK_ENC_CFG_MODE inst) != 0 && s.get (F.FBK_ENC_STAT_BAD inst) == 0,
            divNear 255 (s.int (R.FBK_ENC_SPD inst)) 256)
    | 2 =>
      let v : Int := match s.nav.last with | some x => s.gnssSpeed x.speed x.course | none => 0
      (s.present .nav && s.nav.last.isSome && decide (s.get (F.FBK_FUS_SRC_CFG_QMIN k) ≤ s.get F.NAV_SOL_INFO_Q) &&
       decide (s.now ≤ s.nat64 R.NAV_SOL_T_LO + age), v)
    | 3 => (s.flag (F.CAN_OBJ_DEC_OK inst) && decide (s.clk ≤ (s.canObj.get inst).storedAt + age) &&
            s.get (F.CAN_OBJ_CFG_DECODE inst) == 1, s.gets (F.CAN_OBJ_DEC_SPD inst))
    | 4 => (s.flag (F.CAN_OBJ_DEC_OK inst) && decide (s.clk ≤ (s.canObj.get inst).storedAt + age) &&
            s.get (F.CAN_OBJ_CFG_DECODE inst) == 2, s.gets (F.CAN_OBJ_DEC_SPD inst))
    | _ => (false, 0)

/-- The slots' validity and values are shown (R268). -/
def State.fusShow (s : State) (k : Nat) : State :=
  let r := s.fusSource k
  let t := s.fit 16 r.2
  let s := (t.2.putB (F.FBK_FUS_SRC_VAL_VALID k) r.1).puts (F.FBK_FUS_SRC_VAL_V k) t.1
  s.put F.FBK_FUS_STAT_SRCVALID (setBit (s.get F.FBK_FUS_STAT_SRCVALID) k r.1)

/-- The fused speed becomes not valid (R256, R257, R258). -/
def State.fusNone (s : State) : State :=
  let was := s.flag F.FBK_FUS_STAT_VALID
  let s := if s.get F.FBK_FUS_STAT_SEL = 0 then s else s.count F.FBK_FUS_SWITCH 1
  let s := ((s.put F.FBK_FUS_OUT 0).put F.FBK_FUS_STAT_VALID 0).put F.FBK_FUS_STAT_BLEND 0
  ((s.put F.FBK_FUS_STAT_SEL 0).modFus (fun f => { f with d := 0, rem := 0, len := 0 })).raiseIf was 87

/-- Whether two values differ by more than DIS_ABS + DIS_REL × max(|a|, |b|) (R257). -/
def State.fusDiffer (s : State) (a b : Int) : Bool :=
  decide (s.get F.FBK_FUS_DIS_DIS_ABS * 100 + s.get F.FBK_FUS_REL_DIS_REL * max a.natAbs b.natAbs < (a - b).natAbs * 100)

/-- Disagreement among the valid slots `vs` of this millisecond (R257). -/
def State.fusJudge (s : State) (vs : List Nat) : State :=
  let pairs := vs.flatMap (fun a => (vs.filter (fun b => a < b)).map (fun b => (a, b)))
  let bad := pairs.filter (fun p => s.fusDiffer (s.gets (F.FBK_FUS_SRC_VAL_V p.1)) (s.gets (F.FBK_FUS_SRC_VAL_V p.2)))
  let old := s.fus.dis
  let new : Table Nat := bad.foldl (fun t p => t.set (6 * p.1 + p.2) (min (old.get (6 * p.1 + p.2) + 1) 60001)) []
  let s := s.modFus (fun f => { f with dis := new })
  if bad.isEmpty then s.put F.FBK_FUS_STAT_DIS 0
  else if !s.flag F.FBK_FUS_STAT_DIS && new.any (fun e => decide (s.get F.FBK_FUS_DIS_DIS_T ≤ e.2)) then
    (s.put F.FBK_FUS_STAT_DIS 1).raise 86
  else s

/-- The fused speed of a time tag that is a whole multiple of 16,000 (R256, R257). -/
def State.fuse (s : State) : State :=
  let s := s.each (List.range 6) State.fusShow
  let vs := (List.range 6).filter (fun k => s.flag (F.FBK_FUS_SRC_VAL_VALID k))
  if !s.flag F.FBK_FUS_CTRL_EN || vs.isEmpty then s.fusNone.fusJudge vs
  else
    let p := vs.foldl (fun m k => min m (s.get (F.FBK_FUS_SRC_CFG_PRIO k))) 7
    let sel := vs.filter (fun k => s.get (F.FBK_FUS_SRC_CFG_PRIO k) == p)
    let mask := sel.foldl (fun m k => m + 2 ^ k) 0
    let sum := sel.foldl (fun m k => m + s.gets (F.FBK_FUS_SRC_VAL_V k)) (0 : Int)
    let target := divOpen 256 sum sel.length
    let blend := s.get F.FBK_FUS_CTRL_BLEND
    let changed := mask != s.get F.FBK_FUS_STAT_SEL
    let s := if changed then s.count F.FBK_FUS_SWITCH 1 else s
    let s := if changed && blend != 0 && s.flag F.FBK_FUS_STAT_VALID then
        s.modFus (fun f => { f with d := s.gets F.FBK_FUS_OUT - target, rem := blend, len := blend })
      else s
    let f := s.fus
    let out := if f.rem = 0 then target else target + divOpen 257 (f.d * f.rem) f.len
    let s := s.modFus (fun f => { f with rem := f.rem - 1 })
    let s := (s.putFit F.FBK_FUS_OUT out).put F.FBK_FUS_STAT_SEL mask
    let s := (s.put F.FBK_FUS_STAT_VALID 1).putB F.FBK_FUS_STAT_BLEND (s.fus.rem != 0)
    s.fusJudge vs

/-! ## The block as a whole -/

/-- ENABLE of FBK goes from 1 to 0 (R258). -/
def State.fbkDisable (s : State) : State :=
  let s := s.each (List.range 8) (fun s n => s.encStill n)
  let armed := (List.range 8).flatMap (fun n =>
    ((List.range 16).filter (fun k => s.flag (F.FBK_CMP_CTRL_ARM n k))).map (fun k => (n, k)))
  let s := s.each armed (fun s e => s.put (F.FBK_CMP_CTRL_ARM e.1 e.2) 0)
  let s := s.count F.FBK_DISC armed.length
  let s := s.each [0, 1] (fun s n => (s.setNat (R.FBK_EMU_STAT n) 0).modEmu n (fun _ => default))
  s.fusNone

/-- FBK_SUMMARY (R261). -/
def State.fbkSummary (s : State) : Nat :=
  s.get F.FBK_FUS_OUT * 2 ^ 16 + s.get F.FBK_FUS_STAT_VALID * 2 ^ 8 +
  (List.range 8).foldl (fun m n => if s.get (F.FBK_ENC_STAT_SSTATE n) = 3 then m + 2 ^ n else m) 0

/-! ## The commands -/

/-- ENC_EDGE (R237 to R245). -/
def execEncEdge (n : Fin 8) (a b : LineLevel) (s : State) : Answer :=
  .next (let e := s.enc.get n.val
         s.encLevels n.val (s.encLine n.val e.a a) (s.encLine n.val e.b b))

/-- ENC_WINDOW_END (R242 to R244). -/
def execEncWindowEnd (n : Fin 8) (s : State) : Answer :=
  .next (if s.runs .fbk && s.encDue n.val then s.encWindow n.val else s)

/-- ENC_STANDSTILL (R243). -/
def execEncStandstill (n : Fin 8) (s : State) : Answer :=
  .next (if s.get (F.FBK_ENC_STAT_SSTATE n.val) != 0 &&
            s.passed (s.enc.get n.val).lastEdge (s.get (F.FBK_ENC_WIN_STANDSTILL_T n.val) * msec) then s.encStill n.val else s)

/-- ENC_WIRE (R239). -/
def execEncWire (n : Fin 8) (lines : LinePairs) (s : State) : Answer := .next (s.encBad n.val (s.encStuck n.val lines))

/-- ENC_LINE_GOOD (R239): 100 ms after the last bad line, and not for a line that VIO feeds while VIO is lost (R604). -/
def execEncLineGood (n : Fin 8) (s : State) : Answer :=
  .next (if s.get (F.FBK_ENC_STAT_BAD n.val) = 0 || !s.passed (s.enc.get n.val).badAt (100 * msec) || (s.get (F.FBK_ENC_CFG_INTYPE n.val) != 0 && !s.flag F.PWR_STAT_VIO_OK) then s
    else (s.put (F.FBK_ENC_STAT_BAD n.val) 0).encStill n.val)

/-- ENC_Z_EDGE (R238, R241): a level that has not lasted FILT is ignored, so that a rise follows a fall that has lasted. -/
def execEncZEdge (x : ZEdge) (s : State) : Answer :=
  .next (let n := x.enc.val
         let old := (s.enc.get n).z
         let z := s.encLine n old x.z
         let t := s.modEnc n (fun e => { e with z := z })
         if z && !old then t.encZ n else t)

/-- SSI_READ (R248): the settings are latched for the frame. -/
def execSsiRead (n : Fin 2) (s : State) : Answer :=
  .next (if s.runs .fbk && s.flag (F.FBK_SSI_CFG_EN n.val) && !(s.ssi.get n.val).busy then
    s.modSsi n.val (fun x => { x with busy := true, cfg := s.nat (R.FBK_SSI_CFG n.val), tag := s.now }) else s)

/-- SSI_FRAME_DONE (R249). -/
def execSsiFrameDone (n : Fin 2) (low : Bool) (data again : Word) (s : State) : Answer :=
  .next (if (s.ssi.get n.val).busy then s.ssiDone n.val low data.toNat again.toNat else s)

/-- EMU_UPDATE (R250, R251). -/
def execEmuUpdate (s : State) : Answer :=
  .next (if s.works .fbk && s.atMs then s.each [0, 1] State.emuStep else s)

/-- AIN_FRAME (R252 to R254). -/
def execAinFrame (xs : List (BitVec 16)) (high : BitVec 16) (s : State) : Answer :=
  .next (if s.runs .fbk then
    s.each (xs.take 16).zipIdx (fun s x => s.ainSample x.2 x.1.toNat (high.getLsbD x.2)) else s)

/-- AIN_SHUNT_RETEST (R254): the shunt stays closed where the current was not above 30 mA. -/
def execAinShuntRetest (n : Fin 16) (high : Bool) (s : State) : Answer :=
  .next (if s.runs .fbk && s.flag (F.FBK_AIN_STAT_SHUNT_OPEN n.val) && !high then
    (s.put (F.FBK_AIN_STAT_SHUNT_OPEN n.val) 0).modAin n.val (fun a => { a with init := false, highRun := 0 }) else s)

/-- SPEED_FUSION (R256, R257): the 1 ms samples of R467 come with it. -/
def execSpeedFusion (s : State) : Answer :=
  .next (if !s.works .fbk || !s.atMs then s
         else if s.enabled .fbk then
           (s.fuse.stamp 5 0).each (List.range 8) (fun s n =>
             let s := s.stamp 3 n
             if s.get (F.FBK_ENC_STAT_SSTATE n) = 3 then s else s.stamp 2 n)
         else s.fusNone)

end Sys2Proof.Machine
end

