-- ==== Sys2Proof/Machine/Operands.lean ====
section
/-! DEFINITION. The forms in which commands carry their operands: check values over byte strings (R58, R113, R207), the
bytes of request and reply frames (R56, R57), and bit strings. -/

namespace Sys2Proof.Machine

open Sys2Proof

/-! ## Check values -/

/-- One bit of a CRC whose register shifts towards the high end. -/
def crcShiftHigh {n : Nat} (poly c : BitVec n) : BitVec n := if c.msb then (c <<< 1) ^^^ poly else c <<< 1

/-- One bit of a CRC whose register shifts towards the low end (reflected). -/
def crcShiftLow {n : Nat} (poly c : BitVec n) : BitVec n := if c.getLsbD 0 then (c >>> 1) ^^^ poly else c >>> 1

/-- Repeats `f`. -/
def times {α : Type} : Nat → (α → α) → α → α
  | 0, _, x => x
  | k + 1, f, x => times k f (f x)

/-- A CRC over bytes, high bit first. -/
def crcHigh {n : Nat} (poly : BitVec n) : BitVec n → List Byte → BitVec n
  | c, [] => c
  | c, b :: t => crcHigh poly (times 8 (crcShiftHigh poly) (c ^^^ (b.zeroExtend n <<< (n - 8)))) t

/-- A CRC over bytes, low bit first. -/
def crcLow {n : Nat} (poly : BitVec n) : BitVec n → List Byte → BitVec n
  | c, [] => c
  | c, b :: t => crcLow poly (times 8 (crcShiftLow poly) (c ^^^ b.zeroExtend n)) t

/-- HCRC: CRC-8, polynomial 0x07, initial value 0 (R58). -/
def hcrc (l : List Byte) : Byte := crcHigh 0x07#8 0#8 l

/-- CRC-32: polynomial 0x04C1_1DB7, reflected (R58). -/
def crc32 (l : List Byte) : Word := ~~~ crcLow 0xEDB88320#32 0xFFFFFFFF#32 l

/-- CRC-32C: polynomial 0x1EDC_6F41, reflected (R113). -/
def crc32c (l : List Byte) : Word := ~~~ crcLow 0x82F63B78#32 0xFFFFFFFF#32 l

/-- CRC-24Q: polynomial 0x864CFB, initial value 0 (R207). -/
def crc24q (l : List Byte) : BitVec 24 := crcHigh 0x864CFB#24 0#24 l

/-! ## Frames -/

end Sys2Proof.Machine

namespace Sys2Proof

open Sys2Proof.Machine

/-- Bytes 0 to 4 and 6 to 11 of a request, over which HCRC is formed (R58). -/
def Request.headBytes (r : Request) (opc : Byte) : List Byte :=
  [r.flags, r.dev, r.org, r.seq, opc] ++ leBytes 2 r.len.toNat ++ leBytes 4 r.addr.toNat

/-- Every byte of a request before its trailer (R56). -/
def Request.plainBytes (r : Request) (opc : Byte) : List Byte :=
  [r.flags, r.dev, r.org, r.seq, opc, r.hcrc] ++ leBytes 2 r.len.toNat ++ leBytes 4 r.addr.toNat ++ r.body

/-- The whole frame of a request (R56). -/
def Request.frame (r : Request) (opc : Byte) : List Byte :=
  r.plainBytes opc ++ r.trailer ++ leBytes 4 r.crc.toNat

/-- FLAGS (R56): RPL, BCAST and AUTH. -/
def Request.rpl (r : Request) : Bool := r.flags.getLsbD 7
def Request.bcast (r : Request) : Bool := r.flags.getLsbD 6
def Request.auth (r : Request) : Bool := r.flags.getLsbD 5

/-- ORG.HOST: the host sent it (R56). -/
def Request.fromHost (r : Request) : Bool := r.org.getLsbD 7

/-- FCNT and TAG of the trailer (R56, R88). -/
def Request.fcnt (r : Request) : Nat := leNat (r.trailer.take 4)
def Request.tagBytes (r : Request) : List Byte := (r.trailer.drop 4).take 16

end Sys2Proof

namespace Sys2Proof.Machine

open Sys2Proof

/-- The request that the bytes of a frame spell, with its opcode; none where they are too few for one. Header bits that R56 puts
at 0 are not looked at (log entry 218). -/
def parseFrame (b : List Byte) (waiting : Nat) : Option (Byte × Request) :=
  if b.length < 16 then none
  else
    let auth := (b.getD 0 0).getLsbD 5
    let n := b.length
    let tail := if auth && 36 ≤ n then 24 else 4
    some (b.getD 4 0,
      { flags := b.getD 0 0, dev := b.getD 1 0, org := b.getD 2 0, seq := b.getD 3 0, hcrc := b.getD 5 0
        len := BitVec.ofNat 16 (leNat ((b.drop 6).take 2)), addr := BitVec.ofNat 32 (leNat ((b.drop 8).take 4))
        body := (b.drop 12).take (n - 12 - tail)
        trailer := (b.drop (n - tail)).take (tail - 4)
        crc := BitVec.ofNat 32 (leNat (b.drop (n - 4))), waiting := waiting })

/-- The bytes 0 to the end of the payload of a reply (R57). -/
def replyPlain (auth : Bool) (dev : Nat) (org seq opc : Byte) (status : Nat) (payload : List Byte) : List Byte :=
  let flags : Byte := BitVec.ofNat 8 (128 + 32 * bit auth)
  let h := [flags, BitVec.ofNat 8 dev, org, seq, opc]
  let t := leBytes 2 payload.length ++ leBytes 2 status ++ [0, 0]
  h ++ [hcrc (h ++ t)] ++ t ++ payload

/-! ## Bit strings -/

/-- The bits of bytes, high bit first. -/
def bitsOf : List Byte → List Bool
  | [] => []
  | b :: t => (List.range 8).map (fun i => b.getLsbD (7 - i)) ++ bitsOf t

/-- The number that bits spell, high bit first. -/
def ofBits (l : List Bool) : Nat := l.foldl (fun n b => 2 * n + bit b) 0

/-- The field of `w` bits at bit offset `o` of a byte string, high bit first (RTCM 10403). -/
def bitField (l : List Byte) (o w : Nat) : Nat := ofBits (((bitsOf l).drop o).take w)

/-- The 64 bytes of a signature or of a public key as one number, byte 0 the least significant (R13, R650). -/
def key512 (l : List Byte) : BitVec 512 := BitVec.ofNat 512 (leNat (l.take 64))

/-- `n` bytes of a number, most significant first. -/
def beBytes (n v : Nat) : List Byte := (leBytes n v).reverse

end Sys2Proof.Machine
end

