-- ==== Sys2Proof/Machine/Gnss.lean ====
section
/-! DEFINITION. The GNSS front end, the tracking channels and the snapshot unit (R153 to R195). -/

namespace Sys2Proof.Machine

open Sys2Proof

/-! ## Signals and paths -/

/-- A signal of the L5 band (R155). -/
def sigL5 (sig : Nat) : Bool := sig == 3 || sig == 5 || sig == 7 || sig == 9

/-- The PRN range of a signal (R155). -/
def sigPrns (sig : Nat) : Nat × Nat :=
  match sig with
  | 1 => (1, 32) | 2 => (1, 63) | 3 => (1, 32) | 4 => (1, 50) | 5 => (1, 50) | 6 => (1, 63) | 7 => (1, 63)
  | 8 => (193, 202) | 9 => (193, 202) | _ => (1, 0)

/-- The antenna of a channel: 0 for GCH000 to GCH095, 1 for the rest. -/
def chAnt (n : Nat) : Nat := n / 96

/-- The path of channel `n` for signal `sig` (R153). -/
def chPath (n sig : Nat) : Nat := 2 * chAnt n + bit (sigL5 sig)

/-- PATH_EN of path `p`. -/
def State.pathEn (s : State) (p : Nat) : Bool := nbit (s.get F.GNSS_FE_CTRL_PATH_EN) p

/-- The state of antenna `a` in GNSS_FE_STAT: 0 off, 1 ok, 2 open, 3 short. -/
def antFld (a : Nat) : Fld := ⟨R.GNSS_FE_STAT, 8 + 4 * a, 2⟩

/-- The bias of antenna `a` is switched on: its BIAS bit, and outputs are released (R156, R600). -/
def State.biasEn (s : State) (a : Nat) : Bool := decide (a < s.nAnt) && s.released && s.flag ⟨R.GNSS_FE_CTRL, a, 1⟩

/-- The gain field of path `p`, and its reference gain (R189). -/
def gainFld (p : Nat) : Fld := ⟨R.GNSS_AGC_GAIN_A + 4 * (p / 2), 16 * (p % 2), 8⟩
def refFld (p : Nat) : Fld := ⟨R.GNSS_AGC_REF_A + 4 * (p / 2), 16 * (p % 2), 8⟩

/-- The state of channel `n` (R164). -/
def State.chState (s : State) (n : Nat) : Nat := s.get (F.GNSS_CH_STATE_STATE n)

/-- How many channels the personality has (R154). -/
def State.nGch (s : State) : Nat := 96 * s.nAnt

/-! ## Channels -/

/-- Channel `n`'s state changed by `f`. -/
def State.modCh (s : State) (n : Nat) (f : GnssCh → GnssCh) : State := { s with gnssCh := s.gnssCh.modify n f }

/-- The front end's state changed by `f`. -/
def State.modGnss (s : State) (f : GnssState → GnssState) : State := { s with gnss := f s.gnss }

/-- Channel `n` leaves for the state `st` with exit reason `why` (R175, R192); LOCKT is set to 0 where `lockt`. -/
def State.chLeave (s : State) (n st why : Nat) : State :=
  (s.put (F.GNSS_CH_STATE_STATE n) st).put (F.GNSS_CH_STATE_EXIT n) why

/-- Channel `n` is searching or tracking: ACQ, PULLIN, TRACK or RECOVER. -/
def State.chActive (s : State) (n : Nat) : Bool := decide (1 ≤ s.chState n ∧ s.chState n ≤ 4)

/-- Channel `n` enters ACQ at 1.0 chip spacing, with a search centred on the Doppler `c` in 1/256 Hz, or as R166 says where
that is none (R164, R166). -/
def State.chAcqAt (s : State) (n : Nat) (c : Option Int) : State :=
  ((s.put (F.GNSS_CH_STATE_STATE n) 1).put (F.GNSS_CH_SPC_ACT n) 64).modCh n (fun x => { x with centre := c })

/-- Channel `n` enters ACQ with its last Doppler as the search centre (R172, R176, R177). -/
def State.chReacq (s : State) (n : Nat) : State := s.chAcqAt n (some (s.int (R.GNSS_CH_DOPP n)))

/-- Channel `n` enters ACQ where no rule names its last Doppler. -/
def State.chAcq (s : State) (n : Nat) : State := s.chAcqAt n none

/-- The centre of channel `n`'s search in 1/256 Hz: the last Doppler where it was entered so, else DOPP_CTR in MANUAL and 0
elsewhere (R166). GNSS_CH_AID is read as it stands, DOPP_CTR as DOPP_HW. -/
def State.chCentre (s : State) (n : Nat) : Int :=
  match (s.gnssCh.get n).centre with
  | some c => c
  | none => if s.get (F.GNSS_CH_CTRL_MODE n) = 2 then s.gets (F.GNSS_CH_AID_DOPP_CTR n) * 256 else 0

/-- The length of a signal's primary code in chips and in ms (R155). -/
def sigCode (sig : Nat) : Nat × Nat :=
  match sig with
  | 2 | 6 => (10230, 10)
  | 3 | 5 | 7 | 9 => (10230, 1)
  | 4 => (4092, 4)
  | _ => (1023, 1)

/-- The width of a Doppler cell of a signal in Hz (R166). -/
def dopplerCell (sig : Nat) : Nat := if (sigCode sig).2 = 1 then 500 else 250

/-- A Doppler offset `d` in 1/256 Hz lies within the half-window `hw` Hz, which is scaled for an L5-band signal by the ratio
of the carriers (R166). -/
def inWindow (sig hw : Nat) (d : Int) : Bool :=
  if sigL5 sig then decide (d.natAbs * 157542 ≤ hw * 256 * 117645) else decide (d.natAbs ≤ hw * 256)

/-- The half-window of channel `n` in Hz: DOPP_HW in MANUAL where it is not 0, else GNSS_ACQ_WIN.HW (R166, R190). -/
def State.chWindow (s : State) (n : Nat) : Nat :=
  let h := s.get (F.GNSS_CH_AID_DOPP_HW n)
  if s.get (F.GNSS_CH_CTRL_MODE n) = 2 ∧ h ≠ 0 then h else s.get F.GNSS_ACQ_WIN_HW

/-- The Doppler of a cell, `k` cells from the centre of channel `n`'s search, in 1/256 Hz. -/
def State.cellDoppler (s : State) (n : Nat) (k : Int) : Int :=
  s.chCentre n + k * dopplerCell (s.get (F.GNSS_CH_CUR_SIGID n)) * 256

/-- The search of channel `n` detects the cell that `o` reports (R166): the cell belongs to the grid (code cells half a chip
apart over one code period, Doppler cells within the half-window), its C/N0 estimate reaches ACQ_CN0, and 2 of 3
verification dwells confirm it. -/
def State.cellDetected (s : State) (n : Nat) (o : DumpObs) : Bool :=
  let sig := s.get (F.GNSS_CH_CUR_SIGID n)
  decide (o.cell.1 < 2 * (sigCode sig).1) && inWindow sig (s.chWindow n) (o.cell.2 * dopplerCell sig * 256) &&
    decide (256 * s.get F.GNSS_ACQ_CTRL_ACQ_CN0 ≤ o.cn0.toNat) && decide (2 ≤ o.confirms.val)

/-- Bit or secondary-code synchronization of channel `n` is done: since the PLL engaged in PULLIN, and in TRACK (R169). -/
def State.chSynced (s : State) (n : Nat) : Bool := s.chState n == 3 || (s.chState n == 2 && (s.gnssCh.get n).pllOn)

/-- How far an NCO with word `w` has advanced its accumulator by instant `t`, in 2^-52 cycle or chip: 52,000,000 words of
2^-32 a second (R190, R201). -/
def ncoRun (w : Int) (accAt t : Nat) : Int := w * 52 * ((t : Int) - accAt)

/-- The accumulators of channel `n` at instant `t`, in 1/65,536 count, run on at the NCO rates (R201). -/
def State.carrAt (s : State) (n t : Nat) : Int :=
  let c := s.gnssCh.get n
  c.carrAcc + ncoRun (s.int (R.GNSS_CH_CARR_NCO n)) c.accAt t

def State.codeAt (s : State) (n t : Nat) : Nat :=
  let c := s.gnssCh.get n
  ((c.codeAcc : Int) + ncoRun (s.nat (R.GNSS_CH_CODE_NCO n)) c.accAt t).toNat

/-- The accumulators of channel `n` run on to the dump at instant `t`. -/
def State.chRun (s : State) (t n : Nat) : State :=
  let a := s.carrAt n t
  let b := s.codeAt n t
  s.modCh n (fun c => { c with carrAcc := a, codeAcc := b, accAt := t })

/-- Channel `n` enters TRACK at 0 of its code accumulator; its carrier phase keeps the part of a cycle and takes an arbitrary
whole number of cycles (R202), which is a free value (log entry 5). -/
def State.chTrackPhase (s : State) (n : Nat) : State :=
  let r := s.free 32
  r.2.modCh n (fun c => { c with carrAcc := c.carrAcc % (2 ^ 52 : Nat) + signed 32 r.1 * (2 ^ 52 : Nat), codeAcc := 0 })

/-- Channel `n` uses GNSS_CH_LOOP as it stands at this dump (R174, R186); TCOH above 1 ms only after the synchronization
(R170). -/
def State.chLoop (s : State) (n : Nat) : State :=
  let t := match s.get (F.GNSS_CH_LOOP_TCOH n) with | 1 => 2 | 2 => 4 | 3 => 10 | 4 => 20 | _ => 1
  let k := if s.chSynced n then t else 1
  s.modCh n (fun c => { c with loop := s.word (R.GNSS_CH_LOOP n), integ := k })

/-- Channel `n` enters PULLIN at 1.0 chip spacing (R166, R172). -/
def State.chPullin (s : State) (n : Nat) : State :=
  let s := (s.put (F.GNSS_CH_STATE_STATE n) 2).put (F.GNSS_CH_SPC_ACT n) 64
  s.modCh n (fun c => { c with fllDone := false, pllOn := false, locks := 0, goods := 0, since := s.clk })

/-- What GNSS_CH_CUR shows: the antenna and the signal searched or tracked. -/
def State.chSignal (s : State) (n sig prn : Nat) : State :=
  ((s.put (F.GNSS_CH_CUR_ANT n) (chAnt n)).put (F.GNSS_CH_CUR_SIGID n) sig).put (F.GNSS_CH_CUR_PRN n) prn

/-- Another channel of the antenna holds the signal and PRN in ACQ, PULLIN or TRACK (R168). -/
def State.sigHeld (s : State) (n sig prn : Nat) : Bool :=
  (List.range 96).any (fun k =>
    let m := 96 * chAnt n + k
    m != n && decide (1 ≤ s.chState m ∧ s.chState m ≤ 3) &&
      s.get (F.GNSS_CH_CUR_SIGID m) == sig && s.get (F.GNSS_CH_CUR_PRN m) == prn)

/-- SIGID `g` is a candidate in AUTO (R189). -/
def State.sigWanted (s : State) (g : Nat) : Bool := decide (1 ≤ g ∧ g ≤ 9) && nbit (s.nat R.GNSS_SIGMASK) g

/-- The PRN ranges of the signals enabled in GNSS_SIGMASK (R155, R168). -/
def State.prnRanges (s : State) : List (Nat × Nat) :=
  ((List.range 10).filter s.sigWanted).flatMap (fun g =>
    let r := sigPrns g
    (List.range (r.2 + 1 - r.1)).map (fun k => (g, r.1 + k)))

/-- The cycle through an ascending list goes on after `x`: what follows `x`, and then the rest. -/
def cycleFrom (x : Nat × Nat) (l : List (Nat × Nat)) : List (Nat × Nat) :=
  let after := fun (y : Nat × Nat) => decide (x.1 * 256 + x.2 < y.1 * 256 + y.2)
  l.filter after ++ l.filter (fun y => !after y)

/-- Channel `n` may take the candidate: its path is enabled and no other channel of the antenna holds it (R168). -/
def State.candFree (s : State) (n : Nat) (c : Nat × Nat) : Bool := !s.sigHeld n c.1 c.2 && s.pathEn (chPath n c.1)

/-- An AUTO channel takes its next candidate (R167, R168): the highest signal of navigation's visibility list that it has not
taken yet, and after the list the next of the PRN ranges in their cycle. Only signals of GNSS_SIGMASK are candidates
(R189); the search is centred on 0 (R166). -/
def State.chNextCandidate (s : State) (n : Nat) (vis : List (Byte × Byte)) : State :=
  let c := s.gnssCh.get n
  let listed := (vis.map (fun v => (v.1.toNat, v.2.toNat))).filter (fun x => s.sigWanted x.1 && !c.tried.contains x)
  match listed.find? (s.candFree n) with
  | some x => (s.chSignal n x.1 x.2).modCh n (fun c => { c with centre := none, tried := x :: c.tried })
  | none =>
    match (cycleFrom c.range s.prnRanges).find? (s.candFree n) with
    | some x => (s.chSignal n x.1 x.2).modCh n (fun c => { c with centre := none, range := x })
    | none => s

/-- Channel `n` enters the first state of its mode (R162, R174, R185). -/
def State.chFirst (s : State) (n : Nat) (vis : List (Byte × Byte)) : State :=
  match s.get (F.GNSS_CH_CTRL_MODE n) with
  | 1 => (((s.chAcq n).chSignal n 0 0).modCh n (fun c => { c with tried := [], range := (0, 0) })).chNextCandidate n vis
  | 2 => (s.chAcq n).chSignal n (s.get (F.GNSS_CH_SIG_SIGID n)) (s.get (F.GNSS_CH_SIG_PRN n))
  | 3 =>
    ((s.put (F.GNSS_CH_STATE_STATE n) 5).put (F.GNSS_CH_SPC_ACT n) (s.get (F.GNSS_CH_SPC_SPC_TEST n))).chSignal n
      (s.get (F.GNSS_CH_SIG_SIGID n)) (s.get (F.GNSS_CH_SIG_PRN n))
  | _ => s.put (F.GNSS_CH_STATE_STATE n) 0

/-- A host change takes effect at channel `n`'s dump (R174): LOCKT and the loss counts are cleared. -/
def State.chHostChange (s : State) (n : Nat) (vis : List (Byte × Byte)) : State :=
  let s := if s.chActive n then s.put (F.GNSS_CH_STATE_EXIT n) 4 else s
  let s := ((s.setNat (R.GNSS_CH_LOCKT n) 0).setNat (R.GNSS_CH_LLI n) 0).chFirst n vis
  s.modCh n (fun c => { c with hostPend := false, resume := 0, fails := 0 })

/-- Channel `n` goes IDLE because its path or antenna is unusable, and will resume (R175, R176). -/
def State.chSuspend (s : State) (n : Nat) : State :=
  if s.chActive n then
    let s := s.chLeave n 0 5
    s.modCh n (fun c => { c with resume := 1 })
  else s

/-- The path of channel `n` for its present signal, or any of its antenna's while it has none, is enabled, and its antenna
is not judged short. -/
def State.chUsable (s : State) (n : Nat) : Bool :=
  let sig := s.get (F.GNSS_CH_CUR_SIGID n)
  (s.pathEn (chPath n sig) || (sig == 0 && s.pathEn (2 * chAnt n + 1))) && s.get (antFld (chAnt n)) != 3

/-- An AUTO channel in ACQ that holds no signal takes the first candidate that is free (R168). -/
def State.chSeek (s : State) (n : Nat) (vis : List (Byte × Byte)) : State :=
  if s.chState n = 1 ∧ s.get (F.GNSS_CH_CTRL_MODE n) = 1 ∧ s.get (F.GNSS_CH_CUR_SIGID n) = 0 then s.chNextCandidate n vis
  else s

/-- Channel `n` at a dump, apart from what it measures: a host change, the loss of its path, or resumption (R174 to
R176), and in TEST the spacing SPC_TEST (R164, R165). -/
def State.chDump (s : State) (vis : List (Byte × Byte)) (n : Nat) : State :=
  let c := s.gnssCh.get n
  if s.chState n = 6 then s
  else if c.hostPend then s.chHostChange n vis
  else if c.resume = 1 && s.chUsable n && s.chState n == 0 then
    let s := (s.chReacq n).chSeek n vis
    s.modCh n (fun c => { c with resume := 0 })
  else if s.chState n = 5 then s.put (F.GNSS_CH_SPC_ACT n) (s.get (F.GNSS_CH_SPC_SPC_TEST n))
  else if !s.chUsable n then s.chSuspend n
  else (s.when (s.chState n == 3) (fun s => s.count (F.GNSS_CH_LOCKT n) 1)).chSeek n vis

/-- What channel `o.ch` measured at the dump: prompt sums, and in ACQ to RECOVER the NCO words, Doppler, slips and the
outcome of the search (R163, R166, R167, R173). In ACQ the last Doppler stays until a cell is detected (log entry 513). -/
def State.chObserve (s : State) (vis : List (Byte × Byte)) (o : DumpObs) : State :=
  let n := o.ch.val
  if !(s.chActive n || s.chState n == 5) || decide (s.nGch ≤ n) then s
  else
    let s := (s.put (F.GNSS_CH_CORR_I n) o.i.toNat).put (F.GNSS_CH_CORR_Q n) o.q.toNat
    if s.chState n = 5 then s
    else
      let s := (s.setWord (R.GNSS_CH_CARR_NCO n) o.carr).setWord (R.GNSS_CH_CODE_NCO n) o.code
      let s := s.when (s.chState n != 1) (fun s => s.setWord (R.GNSS_CH_DOPP n) o.dopp)
      match s.chState n with
      | 1 =>
        if s.cellDetected n o then
          ((s.chPullin n).setInt (R.GNSS_CH_DOPP n) (s.cellDoppler n o.cell.2)).modCh n (fun c => { c with tried := [] })
        else if o.gridEnd && s.get (F.GNSS_CH_CTRL_MODE n) == 1 then s.chNextCandidate n vis
        else s
      | 3 => s.when o.slip (fun s => (s.count (F.GNSS_CH_LLI_SLIP n) 1).modCh n (fun c => { c with slipped := true }))
      | _ => s

/-! ## Capture -/

/-- The paths of the latest capture, in ascending order (R178, R194). -/
def State.snapPaths (s : State) : List Nat := (List.range 4).filter (fun p => nbit s.gnss.go.paths p)

/-- The pages usable: GNSS_SNAP_WIN less the spare pages taken (R178). -/
def State.snapAvail (s : State) : Nat := s.get F.GNSS_SNAP_WIN - s.memCare.taken

/-- A capture is running. -/
def State.capturing (s : State) : Bool := s.flag F.GNSS_SNAP_STAT_BUSY && s.get F.GNSS_SNAP_STAT_OP == 1

/-- The capture is marked incomplete and stops at the end of the page being written (R181). -/
def State.snapBreak (s : State) : State :=
  if s.capturing then { s with gnss := { s.gnss with inc := true, stop := true } } else s

/-- A RING capture with STOP_JAM = 1 stops on JAMMING, AGC_A or AGC_B (R180). -/
def State.snapJam (s : State) : State :=
  if s.capturing && s.gnss.go.start == 2 && s.gnss.go.stopJam then
    { s with gnss := { s.gnss with stop := true } }
  else s

/-- The capture's first sample is taken now (R179, R180). -/
def State.snapFirst (s : State) (t sub : Nat) : State :=
  let s := (s.setNat64 R.GNSS_SNAP_T0_LO t).put F.GNSS_SNAP_SUB sub
  s.modGnss (fun g => { g with started := true, go := { g.go with since := s.clk } })

/-- A GO accepted by the write of GNSS_SNAP_CTRL: the capture keeps the fields of this write, and LEN (R178, R180,
R194). It is taken for any path, and while the block is disabled (DESIGN CHOICE, log entry 521). -/
def State.snapGo (s : State) : State :=
  let s := (((s.put F.GNSS_SNAP_STAT_BUSY 1).put F.GNSS_SNAP_STAT_INC 0).put F.GNSS_SNAP_STAT_OP 1).put
    F.GNSS_SNAP_STAT_PAGES 0
  s.modGnss (fun g => { g with
    started := false, inc := false, stop := false, cancel := false
    go := ⟨s.get F.GNSS_SNAP_CTRL_PATHS, s.get F.GNSS_SNAP_CTRL_START, s.flag F.GNSS_SNAP_CTRL_STOP_JAM,
      s.get F.GNSS_SNAP_LEN_LEN, 0⟩ })

/-- Whole pages that the running capture has written per path: 52,000,000 bytes a second since its first sample, at most LEN
(R153, R193). -/
def State.snapPages (s : State) : Nat :=
  if s.gnss.started then min s.gnss.go.len ((s.clk - s.gnss.go.since) * 52 / (16 * 4096)) else 0

/-- GNSS_SNAP_STAT as it reads, with the pages that a running capture has written so far (R193). -/
def State.snapStat (s : State) : Word :=
  if s.capturing then insertField (s.word R.GNSS_SNAP_STAT) 0 16 s.snapPages else s.word R.GNSS_SNAP_STAT

/-- The operation ends: BUSY and OP are cleared. -/
def State.snapOver (s : State) : State :=
  let s := (s.put F.GNSS_SNAP_STAT_BUSY 0).put F.GNSS_SNAP_STAT_OP 0
  { s with gnss := { s.gnss with started := false, inc := false, stop := false, cancel := false, drain := [] } }

/-- The write of PROCESS (R184): the run keeps the PATH and SIGMASK of this instant. A PATH that the latest capture does not
hold is taken too (DESIGN CHOICE, log entry 523). -/
def State.snapProcess (s : State) : State :=
  let s := (s.put F.GNSS_SNAP_STAT_BUSY 1).put F.GNSS_SNAP_STAT_OP 3
  s.modGnss (fun g => { g with
    stop := false, cancel := false, proc := (s.get F.GNSS_SNAP_PROC_PATH, s.get F.GNSS_SNAP_PROC_SIGMASK) })

/-- The capture ends (R180, R181): its samples lie in the snapshot window, one region per selected path. It is incomplete too
where one of its pages is dead, since what is written to that page is lost (R37, R38). -/
def State.snapCaptureEnd (s : State) (pages t0 sub : Nat) (data : List (List Byte)) : State :=
  let g := s.gnss
  let len := g.go.len
  let ring := g.go.start == 2
  let n := if g.stop || g.cancel then min pages len else len
  let inc := g.inc || (List.range (s.snapPaths.length * len)).any (fun k => s.deadPage (0x1A000000 + k * 4096))
  let s := s.each (data.take s.snapPaths.length).zipIdx (fun s d =>
    s.setBytes (0x1A000000 + d.2 * len * 4096) (d.1.take (n * 4096)))
  let s := if ring && g.started then s.snapFirst t0 sub else s
  let s := ((s.put F.GNSS_SNAP_STAT_PAGES n).putB F.GNSS_SNAP_STAT_INC inc).raise (if inc then 58 else 57)
  s.snapOver

/-- The write of DRAIN (R183): what each selected path has to send. A range that goes beyond LEN is taken, and reads on into
the next path's region; with DRN_LEN = 0 no page is sent (DESIGN CHOICE, log entry 518). -/
def State.snapDrainStart (s : State) : State :=
  let len := s.gnss.go.len * 4096
  let a := s.get F.GNSS_SNAP_DRN_OFS * 4096
  let b := a + s.get F.GNSS_SNAP_DRN_LEN * 4096
  let s := (s.put F.GNSS_SNAP_STAT_BUSY 1).put F.GNSS_SNAP_STAT_OP 2
  { s with gnss := { s.gnss with stop := false, cancel := false,
                                 drain := s.snapPaths.zipIdx.map (fun p => ⟨p.1, 0x1A000000 + p.2 * len, a, a, b⟩) } }

/-- The next drain entry of a path (R183). A dropped entry is counted, and the drain goes on with the next entry. -/
def State.drainEntry (s : State) (d : DrainPath) : State :=
  let k := min 56 (d.stop - d.next)
  (s.laneEmit 8 (entryTail ⟨0x31, d.path * 2 ^ 30 + d.next % 2 ^ 30, s.bytes (d.base + d.next) k⟩ (d.next == d.first)
    (d.stop ≤ d.next + 56))).2

/-- The next entry of the drain. After CANCEL, or where the block is disabled, nothing past the page in transfer is sent
(R182, R185); the last entry sent is whole and carries no LAST (DESIGN CHOICE, log entry 519). -/
def State.drainNext (s : State) : State :=
  match s.gnss.drain with
  | [] => s
  | d :: t =>
    if d.stop ≤ d.next then s.modGnss (fun g => { g with drain := t })
    else
      let rest := if d.stop ≤ d.next + 56 then t else { d with next := d.next + 56 } :: t
      (s.drainEntry d).modGnss (fun g => { g with
        drain := if g.cancel && (d.next + 56) / 4096 != d.next / 4096 then [] else rest })

/-- Sends up to `k` further entries of the drain. -/
def State.drainAll (s : State) : Nat → State
  | 0 => s
  | k + 1 => if s.gnss.drain.isEmpty then s else s.drainNext.drainAll k

/-- How many entries the drain has left at most. -/
def State.drainLeft (s : State) : Nat := (s.gnss.drain.map (fun d => (d.stop - d.next) / 56 + 2)).foldl (· + ·) 0

/-- Results in falling C/N0 (R184). -/
def insertResult (r : SnapResult) : List SnapResult → List SnapResult
  | [] => [r]
  | x :: t => if x.cn0.toNat < r.cn0.toNat then r :: x :: t else x :: insertResult r t

/-- The result table holds the `k`-th result (R195). -/
def State.snapResult (s : State) (path : Nat) (x : SnapResult × Nat) : State :=
  let a := R.GNSS_RES x.2 0
  s.setWords a [BitVec.ofNat 32 (x.1.sig.toNat * 2 ^ 24 + x.1.prn.toNat * 2 ^ 16 + x.1.cn0.toNat), x.1.code, x.1.dopp,
    BitVec.ofNat 32 path]

/-- A PROCESS can have found `r` (R184): a signal of SIGMASK in the band of the path, with a PRN, a code phase and a Doppler
of the grid of R166 at the half-window GNSS_ACQ_WIN.HW, and a C/N0 that reaches ACQ_CN0. -/
def State.snapFinds (s : State) (r : SnapResult) : Bool :=
  let g := r.sig.toNat
  let prns := sigPrns g
  nbit (s.gnss.proc.2 * 2) g && sigL5 g == nbit s.gnss.proc.1 0 &&
    decide (prns.1 ≤ r.prn.toNat ∧ r.prn.toNat ≤ prns.2) && decide (r.code.toNat < 1024 * (sigCode g).1) &&
    inWindow g (s.get F.GNSS_ACQ_WIN_HW) r.dopp.toInt && decide (256 * s.get F.GNSS_ACQ_CTRL_ACQ_CN0 ≤ r.cn0.toNat)

/-- Processing ends (R184): what was found fills the result table. -/
def State.snapProcessEnd (s : State) (found : List SnapResult) : State :=
  let path := s.gnss.proc.1
  let rs := ((found.filter s.snapFinds).foldl (fun l r => insertResult r l) []).take 64
  let s := s.each (List.range 64) (fun s k => s.setWords (R.GNSS_RES k 0) [0, 0, 0, 0])
  let s := s.each rs.zipIdx (fun s x => s.snapResult path x)
  ((s.put F.GNSS_SNAP_PSTAT_NRES rs.length).raise 57).snapOver

/-! ## Antenna bias and AGC -/

/-- Antenna `a` is judged short: the bias switch opens and its channels go IDLE (R156, R175). -/
def State.antShort (s : State) (a : Nat) : State :=
  let s := (s.put (antFld a) 3).raise (if a = 0 then 50 else 52)
  s.each ((List.range 96).map (· + 96 * a)) (fun s n => s.chSuspend n)

/-- The 1 ms judgement of antenna `a`'s bias current (R156). GNSS_ANT_CUR keeps the last current measured while its bias or
the block is off (DESIGN CHOICE, log entry 517). -/
def State.antSample (s : State) (a ma : Nat) : State :=
  if !s.biasEn a || !s.runs .gnss then
    let s := s.put (antFld a) 0
    { s with gnss := { s.gnss with ant := s.gnss.ant.set a default } }
  else if s.gnss.vantBad || s.get (antFld a) == 3 then
    let s := s.put ⟨R.GNSS_ANT_CUR, 16 * a, 16⟩ ma
    { s with gnss := { s.gnss with ant := s.gnss.ant.set a default } }
  else
    let b := s.gnss.ant.get a
    let o := if ma < s.get F.GNSS_ANT_THR_OPEN_MA then b.openMs + 1 else 0
    let h := if s.get F.GNSS_ANT_THR_SHORT_MA < ma then b.shortMs + 1 else 0
    let s := s.put ⟨R.GNSS_ANT_CUR, 16 * a, 16⟩ ma
    let s := { s with gnss := { s.gnss with ant := s.gnss.ant.set a ⟨min o 100, min h 10⟩ } }
    if 10 ≤ h || 120 ≤ ma then s.antShort a
    else if 100 ≤ o then (s.put (antFld a) 2).raiseIf (s.get (antFld a) != 2) (if a = 0 then 49 else 51)
    else if o = 0 then s.put (antFld a) 1
    else s.when (s.get (antFld a) == 0) (fun s => s.put (antFld a) 1)

/-- The median of gains (R160). -/
def medianGain (l : List Nat) : Nat :=
  let m := l.mergeSort (fun a b => a ≤ b)
  let n := m.length
  if n = 0 then 0
  else if n % 2 = 1 then m.getD (n / 2) 0
  else (divOpen 160 (m.getD (n / 2 - 1) 0 + m.getD (n / 2) 0) 2).toNat

/-- The 1 ms update of path `p`, whose loop aims at gain `g` (R159 to R161). -/
def State.agcPath (s : State) (pg : Nat × Nat) : State :=
  let p := pg.1
  if !s.pathEn p then { s with gnss := { s.gnss with agc := s.gnss.agc.modify p (fun x => { x with lowMs := 0, okMs := 0, limMs := 0 }) } }
  else
    let cur := s.get (gainFld p)
    let g := if nbit (s.get F.GNSS_AGC_CTRL_FREEZE) p then cur
             else if cur < pg.2 then cur + 1 else if pg.2 < cur then cur - 1 else cur
    let x := s.gnss.agc.get p
    let hist := if s.flag F.GNSS_FE_STAT_JAM then x.hist else (g :: x.hist).take 60000
    let ref := if s.flag F.GNSS_FE_STAT_JAM then s.get (refFld p) else medianGain hist
    let drop := s.get F.GNSS_AGC_CTRL_JAM_DROP
    let dist := if g ≤ ref then ref - g else g - ref
    let lim := if g = 0 || g = 127 then min (x.limMs + 1) 101 else 0
    let s := ((s.put (gainFld p) g).put (refFld p) ref)
    let x' : AgcPath := ⟨hist, if g + drop < ref then min (x.lowMs + 1) 1001 else 0,
      if 2 * dist ≤ drop then min (x.okMs + 1) 1001 else 0, lim⟩
    let s := s.modGnss (fun y => { y with agc := y.agc.set p x' })
    if lim = 100 then (s.raise (if p < 2 then 53 else 54)).snapJam else s

/-- Jamming begins once a path has been low for 1 s and ends once every path has been near its reference for 1 s
(R160). A path whose PATH_EN is 0 takes no part (DESIGN CHOICE, log entry 520). -/
def State.judgeJam (s : State) : State :=
  let ps := (List.range 4).filter s.pathEn
  if s.flag F.GNSS_FE_STAT_JAM then
    s.when (ps.all (fun p => decide (1000 ≤ (s.gnss.agc.get p).okMs))) (fun s => s.put F.GNSS_FE_STAT_JAM 0)
  else if ps.any (fun p => decide (1000 ≤ (s.gnss.agc.get p).lowMs)) then
    ((s.put F.GNSS_FE_STAT_JAM 1).raise 56).snapJam
  else s

/-! ## Lock -/

/-- TRACK at an assessment (R171): the exit reason of a failed one is the first of its causes in the rule's order. -/
def State.lockTrack (s : State) (n : Nat) (o : LockObs) : State :=
  let why := if o.cn0.toNat < 256 * s.get F.GNSS_ACQ_CTRL_LOCK_CN0 then 1
             else if o.pll < 500 then 2
             else if 500 < o.disc.natAbs then 3 else 0
  let c := s.gnssCh.get n
  if why = 0 then s.modCh n (fun c => { c with fails := 0 })
  else if c.fails + 1 < s.get F.GNSS_ACQ_CTRL_LOL_N || c.hostPend then
    s.modCh n (fun c => { c with fails := c.fails + 1 })
  else
    let s := ((((s.chLeave n 4 why).put (F.GNSS_CH_SPC_ACT n) 64).setNat (R.GNSS_CH_LOCKT n) 0).count
      (F.GNSS_CH_LLI_LOL n) 1).count F.GNSS_CNT_LOL 1
    (s.modCh n (fun c => { c with fails := 0, goods := 0, since := s.clk })).raise 55

/-- PULLIN at an assessment (R169): FLL, narrowing, PLL, and TRACK after 5 good lock indicators, which latches SPC_TRK
(R164). -/
def State.lockPullin (s : State) (n : Nat) (o : LockObs) : State :=
  let c := s.gnssCh.get n
  let spc := s.get (F.GNSS_CH_SPC_ACT n)
  let trk := s.get (F.GNSS_CH_SPC_SPC_TRK n)
  if !(c.fllDone || decide (o.ferr < 5000)) then s
  else if !c.pllOn then
    let spc' := if spc ≤ trk then spc else max (spc / 2) trk
    let s := s.put (F.GNSS_CH_SPC_ACT n) spc'
    s.modCh n (fun c => { c with fllDone := true, pllOn := decide (spc' ≤ trk), locks := 0 })
  else
    let k := if 800 ≤ o.pll then c.locks + 1 else 0
    let s := s.modCh n (fun c => { c with locks := k, fails := 0 })
    if 5 ≤ k then
      ((((s.put (F.GNSS_CH_STATE_STATE n) 3).put (F.GNSS_CH_SPC_ACT n) trk).setNat (R.GNSS_CH_LOCKT n) 0).modCh n
        (fun c => { c with slipped := true })).chTrackPhase n
    else s

/-- RECOVER at an assessment (R172). -/
def State.lockRecover (s : State) (n : Nat) (o : LockObs) : State :=
  let c := s.gnssCh.get n
  let k := if 256 * s.get F.GNSS_ACQ_CTRL_LOCK_CN0 ≤ o.cn0.toNat && o.ferr < 5000 then c.goods + 1 else 0
  let s := s.modCh n (fun c => { c with goods := k })
  if 2 ≤ k then s.chPullin n else s

/-- One channel's lock assessment. -/
def State.lockAssess (s : State) (o : LockObs) : State :=
  let n := o.ch.val
  let s := if s.chActive n then s.put (F.GNSS_CH_CN0_CN0 n) o.cn0.toNat else s
  match s.chState n with
  | 2 => s.lockPullin n o
  | 3 => s.lockTrack n o
  | 4 => s.lockRecover n o
  | _ => s

/-! ## The block as a whole -/

/-- ENABLE of the GNSS block goes from 1 to 0 (R185): searches in progress are discarded and counted, a drain stops after the
page in transfer, a processing run at once. -/
def State.gnssDisable (s : State) : State :=
  let k := ((List.range s.nGch).filter (fun n => s.chState n == 1)).length
  let s := (s.count F.GNSS_DISC k).snapBreak
  let s := if s.flag F.GNSS_SNAP_STAT_BUSY && s.get F.GNSS_SNAP_STAT_OP == 2 then s.modGnss (fun g => { g with cancel := true })
    else if s.flag F.GNSS_SNAP_STAT_BUSY && s.get F.GNSS_SNAP_STAT_OP == 3 then s.snapOver else s
  let s := s.each (List.range s.nGch) (fun s n =>
    let s := if s.chActive n then s.chLeave n 0 7 else s.put (F.GNSS_CH_STATE_STATE n) 0
    s.modCh n (fun c => { c with resume := 2 }))
  (s.put (antFld 0) 0).put (antFld 1) 0

/-- ENABLE of the GNSS block is set again: channels resume from ACQ with the signals they had (R185); while ISL_GNSS is
stopped they enter STOPPED (R177). -/
def State.gnssEnable (s : State) : State :=
  s.each (List.range s.nGch) (fun s n =>
    let s := if s.gnss.stopped then s.put (F.GNSS_CH_STATE_STATE n) 6
      else if s.get (F.GNSS_CH_CTRL_MODE n) = 1 then s.chAcq n
      else s.chFirst n []
    s.modCh n (fun c => { c with resume := 0 }))

/-- A clock fallback stops ISL_GNSS: every channel enters STOPPED (R177, R181). -/
def State.gnssStop (s : State) : State :=
  let s := s.each (List.range s.nGch) (fun s n =>
    let s := if s.chActive n then s.put (F.GNSS_CH_STATE_EXIT n) 6 else s
    (s.put (F.GNSS_CH_STATE_STATE n) 6).setNat (R.GNSS_CH_LOCKT n) 0)
  ({ s with gnss := { s.gnss with stopped := true } }).snapBreak

/-- PLL_GNSS runs from the XO again: channels return (R177). -/
def State.gnssReturn (s : State) : State :=
  if s.gnss.stopped then
    let s := s.each (List.range s.nGch) (fun s n =>
      if s.chState n = 6 then
        (if s.runs .gnss then
          match s.get (F.GNSS_CH_CTRL_MODE n) with
          | 0 => s.put (F.GNSS_CH_STATE_STATE n) 0
          | 3 => s.put (F.GNSS_CH_STATE_STATE n) 5
          | _ => s.chReacq n
        else s.put (F.GNSS_CH_STATE_STATE n) 0)
      else s)
    { s with gnss := { s.gnss with stopped := false } }
  else s

/-- A host change of channel `n` waits for the next dump: a write of MODE, or of GNSS_CH_SIG in MANUAL or TEST (R174). -/
def State.chWritten (s : State) (n : Nat) (sig : Bool) : State :=
  if !sig || 2 ≤ s.get (F.GNSS_CH_CTRL_MODE n) then
    s.modCh n (fun c => { c with hostPend := true })
  else s

/-- The paths that sample now (R188). -/
def State.pathRun (s : State) : Nat :=
  if s.runs .gnss && !s.gnss.stopped then s.get F.GNSS_FE_CTRL_PATH_EN else 0

/-- GNSS_SUMMARY (R188). -/
def State.gnssSummary (s : State) : Nat :=
  let trk := fun a => ((List.range 96).filter (fun k => s.chState (96 * a + k) == 3)).length
  trk 1 % 256 * 2 ^ 16 + trk 0 % 256 * 2 ^ 8 + s.pathRun

/-- VANT_OK while VANT is monitored: any bias switch of a running block is enabled (R157). -/
def State.vantShow (s : State) : State :=
  if s.runs .gnss && (s.biasEn 0 || s.biasEn 1) then s.putB F.GNSS_FE_STAT_VANT_OK (!s.gnss.vantBad) else s

/-- A page of the capture's regions at `p` (R178). -/
def State.inCapture (s : State) (p : Nat) : Bool :=
  decide (p < 0x1A000000 + s.snapPaths.length * s.gnss.go.len * 4096)

/-! ## The commands -/

/-- BIAS_SAMPLE (R156). -/
def execBiasSample (maA maB : BitVec 16) (s : State) : Answer :=
  .next (((s.antSample 0 maA.toNat).antSample 1 maB.toNat).vantShow)

/-- ANT_HW_LIMIT (R156). -/
def execAntHwLimit (a : Fin 2) (s : State) : Answer :=
  .next (if s.biasEn a.val && s.runs .gnss && !s.gnss.vantBad && s.get (antFld a.val) != 3 then s.antShort a.val else s)

/-- ANT_RETEST (R156): the test passes where the current is not above SHORT_MA and below the hardware limit. -/
def execAntRetest (a : Fin 2) (ma : BitVec 16) (s : State) : Answer :=
  .next (if s.get (antFld a.val) == 3 && ma.toNat ≤ s.get F.GNSS_ANT_THR_SHORT_MA && ma.toNat < 120 then
    let s := s.put (antFld a.val) 1
    { s with gnss := { s.gnss with ant := s.gnss.ant.set a.val default } } else s)

/-- VANT lies within 3.0 to 5.5 V, measured in mV (R157). -/
def vantOk (mv : Nat) : Bool := decide (3000 ≤ mv ∧ mv ≤ 5500)

/-- VANT_FLT (R157): `mv` has been VANT for 10 ms. A fault needs a bias switch that is enabled and a value out of range. -/
def execVantFlt (mv : BitVec 16) (s : State) : Answer :=
  .next (if s.runs .gnss && (s.biasEn 0 || s.biasEn 1) && !s.gnss.vantBad && !vantOk mv.toNat then
    let s := (s.put F.GNSS_VANT_VANT mv.toNat).put F.GNSS_FE_STAT_VANT_OK 0
    ({ s with gnss := { s.gnss with vantBad := true } }).raise 59 else s)

/-- VANT_RESTORE (R157): `mv` has been VANT for 10 ms. The switches reclose where it is within range. -/
def execVantRestore (mv : BitVec 16) (s : State) : Answer :=
  .next (if vantOk mv.toNat then
    let s := (s.put F.GNSS_VANT_VANT mv.toNat).put F.GNSS_FE_STAT_VANT_OK 1
    { s with gnss := { s.gnss with vantBad := false } } else s)

/-- AGC_UPDATE (R159 to R161). -/
def execAgcUpdate (g0 g1 g2 g3 : BitVec 7) (s : State) : Answer :=
  .next (if s.runs .gnss && !s.gnss.stopped then
    (s.each [(0, g0.toNat), (1, g1.toNat), (2, g2.toNat), (3, g3.toNat)] State.agcPath).judgeJam else s)

/-- CORRELATOR_DUMP (R161 to R177); an IMMEDIATE or RING capture begins at it (R180). -/
def execCorrelatorDump (sub : BitVec 16) (vis : List (Byte × Byte)) (obs : List DumpObs) (s : State) : Answer :=
  .next (if s.runs .gnss && !s.gnss.stopped then
    let s := s.each (List.range s.nGch) (State.chRun · (s.clk * 65536 + sub.toNat))
    let s := s.each (List.range s.nGch) (fun s n => s.chDump vis n)
    let s := (s.each obs (fun s o => s.chObserve vis o)).each (List.range s.nGch) State.chLoop
    if s.capturing && !s.gnss.started && s.gnss.go.start != 1 then s.snapFirst s.now sub.toNat else s
  else s)

/-- LOCK_ASSESSMENT (R169, R171, R172). -/
def execLockAssessment (obs : List LockObs) (s : State) : Answer :=
  .next (if s.runs .gnss && !s.gnss.stopped then s.each obs State.lockAssess else s)

/-- PULLIN_TIMEOUT (R169). -/
def execPullinTimeout (ch : Fin 192) (s : State) : Answer :=
  .next (if s.chState ch.val = 2 && s.passed (s.gnssCh.get ch.val).since (500 * msec) then s.chAcq ch.val else s)

/-- RECOVER_TIMEOUT (R172). -/
def execRecoverTimeout (ch : Fin 192) (s : State) : Answer :=
  .next (if s.chState ch.val = 4 && s.passed (s.gnssCh.get ch.val).since (s.get F.GNSS_RECOVER_RECOVER_T * msec)
    then s.chReacq ch.val else s)

/-- SNAP_START_AT_TAG (R180): the first sample, at or after the tag; a tag already past starts the capture at once. The tag is
the one that GNSS_SNAP_TAG holds now (DESIGN CHOICE, log entry 510). -/
def execSnapStartAtTag (sub : BitVec 16) (s : State) : Answer :=
  .next (if s.capturing && !s.gnss.started && s.gnss.go.start == 1 && decide (s.nat64 R.GNSS_SNAP_TAG_LO ≤ s.now) then
    s.snapFirst s.now sub.toNat else s)

/-- SNAP_CAPTURE_END (R180, R181): a capture that runs, or that was told to stop before its first sample, ends. -/
def execSnapCaptureEnd (pages : BitVec 16) (t0 : BitVec 64) (sub : BitVec 16) (data : List (List Byte)) (s : State) : Answer :=
  .next (if s.capturing && (s.gnss.stop || s.gnss.cancel || (s.gnss.started && s.gnss.go.start != 2)) then
    s.snapCaptureEnd pages.toNat t0.toNat sub.toNat data else s)

/-- SNAP_PROCESS_DONE (R184); a cancelled run ends without results. -/
def execSnapProcessDone (found : List SnapResult) (s : State) : Answer :=
  .next (if s.flag F.GNSS_SNAP_STAT_BUSY && s.get F.GNSS_SNAP_STAT_OP == 3 then
    (if s.gnss.cancel then s.snapOver else s.snapProcessEnd found) else s)

/-- SNAP_DRAIN_DONE (R183): what is left is streamed and the operation ends. -/
def execSnapDrainDone (s : State) : Answer :=
  .next (if s.flag F.GNSS_SNAP_STAT_BUSY && s.get F.GNSS_SNAP_STAT_OP == 2 then
    (s.drainAll s.drainLeft).snapOver else s)

end Sys2Proof.Machine
end

