-- ==== Sys2Proof/Machine/Stride.lean ====
section
/-! DEFINITION. The queues of Stride's commands: what a time step or hold, a start, a drop and a forced off do to them
(R318 to R320, R343, R394). -/

namespace Sys2Proof.Machine

open Sys2Proof

def State.modStr (s : State) (f : StrState → StrState) : State := { s with str := f s.str }
def State.modPt (s : State) (p : Nat) (f : StrPt → StrPt) : State :=
  s.modStr (fun x => { x with points := x.points.modify p f })
def State.modSat (s : State) (a : Nat) (f : SatState → SatState) : State :=
  s.modStr (fun x => { x with sats := x.sats.modify a f })

/-- Stride's state of point `p`. -/
def State.pt (s : State) (p : Nat) : StrPt := s.str.points.get p

/-- The plan is on or on queued (R327). -/
def StrPt.planOn (x : StrPt) : Bool := x.plan == 1 || x.plan == 2

/-- The plan that a point's remaining queue gives it. -/
def StrPt.replan (x : StrPt) : StrPt :=
  match x.queue.getLast? with
  | some c => { x with plan := if c.on then 1 else 3 }
  | none => { x with plan := if x.lastOn then 2 else 0 }

/-- A queued command is an ON of Stride. -/
def OutCmd.strideOn (c : OutCmd) : Bool :=
  match c.src with
  | .stride _ => c.op == 1
  | _ => false

/-- The time base has stepped forward or holds (R343): queued ONs that have not started are withdrawn, those that a push
carries or a satellite has accepted among them, queued OFFs stay, and every point decides again as a free one. An OFF
that has not reached its satellite goes out even where the step has passed its tag (log entry 904). -/
def State.strideStep (s : State) : State :=
  let keep (q : List OutCmd) : List OutCmd := q.filter (fun c => !c.strideOn)
  let off (q : List SatCmd) : List SatCmd :=
    (q.filter (fun c => c.op != 1)).map (fun c => if c.op == 2 && decide (c.start ≤ s.now) then { c with due := true } else c)
  let push (x : SatPush) : SatPush := { x with cmds := off x.cmds, whole := x.whole && x.cmds.all (fun c => c.op != 1) }
  let s := { s with sol := Table.mapAll (fun c : SolCh => { c with queue := keep c.queue }) s.sol
                    hsw := Table.mapAll (fun c : HswCh => { c with queue := keep c.queue }) s.hsw }
  s.modStr (fun x => { x with
    solWire := keep x.solWire
    hswWire := keep x.hswWire
    sats := Table.mapAll (fun c : SatState =>
      { c with queue := off c.queue, inFlight := c.inFlight.map push, placed := c.placed.filter (fun q => q.op != 1) }) x.sats
    points := Table.mapAll (fun c : StrPt =>
      ({ c with settled := false, queue := c.queue.filter (fun q => !q.on) } : StrPt).replan) x.points })

end Sys2Proof.Machine
end

