-- ==== Sys2Proof/Machine/Nav.lean ====
section
/-! DEFINITION. The NAV block: measurement epochs, position, heading, pose, time base and pulses (R196 to R235). -/

namespace Sys2Proof.Machine

open Sys2Proof

/-- The NAV state changed by `f`. -/
def State.modNav (s : State) (f : NavState → NavState) : State := { s with nav := f s.nav }

/-- The time quality TQ (R198). -/
def State.tq (s : State) : Nat := s.get F.NAV_TIME_STAT_TQ

/-- RATE in Hz (R200, R229). -/
def State.navRate (s : State) : Nat :=
  match s.get F.NAV_CTRL_RATE with | 0 => 1 | 1 => 2 | 2 => 5 | 3 => 10 | _ => 20

/-- One epoch period in counts. -/
def State.epochLen (s : State) : Nat := second / s.navRate

/-! ## Time (R197 to R199, R220 to R223, R702) -/

/-- Units of 1e-11 count in a count, and in a nanosecond. -/
def countUnit : Nat := 100000000000
def nsUnit : Nat := 1600000000

/-- The part of |e| not yet slewed out, in ns, rounded up (R222). -/
def State.slewLeft (s : State) : Nat :=
  if s.flag F.NAV_TIME_STAT_SLEW then (s.nav.corr.natAbs + nsUnit - 1) / nsUnit else 0

/-- What steering or a return slew takes out in this count: at most 100 ns per second (R199, R222). -/
def State.steer (s : State) : Int := if s.tq = 1 then clamp (-10000) 10000 s.nav.corr else 0

/-- The frequency offset of its clock that the time base takes out, in 0.01 ppb: that of the XO model in FIXED; in HOLDOVER
what the model predicts with its drift since the entry (R199, R220); in a clock fallback the correction of R563. -/
def State.modelFreq (s : State) : Int :=
  if s.tq = 1 then s.int R.NAV_TIME_FREQ
  else if s.tq = 2 then s.int R.NAV_TIME_FREQ + divOpen 220 (s.nav.drift * (s.clk - s.nav.uncFrom : Nat)) (second * 1000000)
  else if s.flag F.CLK_STAT_FB then s.clocks.corr * 10000
  else 0

/-- By how much the time base moves in a count of the clock, in 1e-11 count; it never counts backwards (R197, R199, R220,
R222). -/
def State.countRate (s : State) : Nat := ((countUnit : Int) - s.modelFreq - s.steer).toNat

/-- A count of the time base is behind the clock: its tag comes in a step of its own, without a count of the clock, so that
no tag is left out where the time base runs faster than the clock (R200, R214, R218). -/
def State.tagBehind (s : State) : Bool := !s.flag F.NAV_TIME_STAT_HOLD && decide (countUnit ≤ s.nav.phase)

/-- What the time base is ahead of the tag after this step. -/
def State.phaseNext (s : State) : Nat := if s.tagBehind then s.nav.phase else s.nav.phase + s.countRate

/-- The time uncertainty in ns (R702), saturating. -/
def State.timeUnc (s : State) : Nat :=
  match s.tq with
  | 0 => 0xFFFFFFFF
  | 1 => min (max 20 s.nav.timeUnc + s.slewLeft) 0xFFFFFFFF
  | _ => min (s.nav.timeUnc + (divOpen 702 ((s.clk - s.nav.uncAt) * s.nav.uncRate) second).toNat) 0xFFFFFFFF

/-- The time uncertainty in µs for NAV_TP_LAST_Q, saturating (R219, R702). -/
def State.timeUncUs (s : State) : Nat :=
  if s.tq = 0 then 0xFFFF else min (divOpen 219 s.timeUnc 1000).toNat 0xFFFF

/-- Time enters a holdover state with growth `rate` in ns per second (R220, R221). -/
def State.enterHoldover (s : State) (tq rate : Nat) : State :=
  let u := s.timeUnc
  let again := s.tq == 2
  let s := (s.put F.NAV_TIME_STAT_TQ tq).put F.NAV_TIME_STAT_SLEW 0
  (s.modNav (fun n => { n with timeUnc := u, uncAt := s.clk, uncFrom := s.clk, uncRate := rate, corr := 0, runs := 0
                               uncLimit := n.uncLimit && again })).raise 67

/-- The clock fallback puts time into HOLDOVER_MRC; without any time solution TQ stays UNSET (R198, R220). -/
def State.navFallback (s : State) : State :=
  if s.present .nav && (s.tq == 1 || s.tq == 2) then s.enterHoldover 3 20000 else s

/-- The XO is back: time enters HOLDOVER and runs on the XO model again (R198, R220, R572). -/
def State.navXoBack (s : State) : State :=
  if s.tq = 3 then
    let u := s.timeUnc
    ((s.put F.NAV_TIME_STAT_TQ 2).modNav (fun n => { n with
      timeUnc := u, uncAt := s.clk, uncFrom := s.clk, uncRate := 500, discAt := s.clk })).raise 67
  else s

/-- The rest of an error `r`, in ns, is slewed out (R222). -/
def State.startSlew (s : State) (r : Int) : State :=
  (s.putB F.NAV_TIME_STAT_SLEW (r != 0)).modNav (fun n => { n with corr := r * nsUnit })

/-- The time base steps or holds (R222). -/
def State.stepped (s : State) : State := s.modNav (fun n => { n with steps := n.steps + 1 })

/-- Time returns to FIXED with the measured error `e` (R222): the time base steps or holds by whole milliseconds, and
Stride withdraws what it has queued (R343). -/
def State.timeReturn (s : State) (e : Int) : State :=
  let s := s.put F.NAV_TIME_STAT_TQ 1
  let ms := e.natAbs / 1000000
  if e.natAbs ≤ 1000000 then s.startSlew e
  else if e < 0 then
    let s := ({ s with tag := s.tag + ms * msec }).startSlew (e + ms * 1000000)
    (((s.stepped.put F.NAV_TIME_STEP_DIR 0).put F.NAV_TIME_STEP_MS ms).raise 68).strideStep
  else
    let s := (s.put F.NAV_TIME_STAT_HOLD 1).startSlew (e - ms * 1000000)
    let s := s.modNav (fun n => { n with holdUntil := s.clk + ms * msec })
    (((s.stepped.put F.NAV_TIME_STEP_DIR 1).put F.NAV_TIME_STEP_MS ms).raise 68).strideStep

/-- A valid time solution (R197, R199, R205, R222): in FIXED the error is steered out, unless a return slew is in progress. -/
def State.timeSolution (s : State) (x : NavSolution) : State :=
  let s := (s.setInt R.NAV_TIME_ERR (satS 32 x.e)).setInt R.NAV_TIME_FREQ (satS 32 x.freq)
  let s := s.modNav (fun n => { n with drift := x.drift })
  let s := match x.leap with
    | some l => (s.put F.NAV_TIME_LEAP_VALID 1).put F.NAV_TIME_LEAP_GPS l.toNat
    | none => s
  let s := match s.tq with
    | 0 =>
      let s := ({ s with tag := x.gnss.toNat }).put F.NAV_TIME_STAT_TQ 1
      (s.modNav (fun n => { n with timeUnc := x.eUnc, discAt := s.clk, phase := 0, corr := 0 })).stepped.strideStep
    | 1 => s.modNav (fun n => { n with
        timeUnc := x.eUnc, corr := if s.flag F.NAV_TIME_STAT_SLEW then n.corr else x.e * nsUnit })
    | _ =>
      let next := s.nav.runs == 0 || s.nav.timeEpoch + s.epochLen == x.epoch.toNat
      let s := s.modNav (fun n => { n with runs := if next then n.runs + 1 else 1 })
      if 3 ≤ s.nav.runs then
        (s.timeReturn x.e).modNav (fun n => { n with timeUnc := x.eUnc, discAt := s.clk, runs := 0 })
      else s
  s.modNav (fun n => { n with timeAt := s.clk, timeEpoch := x.epoch.toNat })

/-! ## Solutions (R205 to R212) -/

/-- The system of a signal: 1 GPS, 2 Galileo, 3 BeiDou, 4 QZSS (R155). -/
def sigSystem (sig : Nat) : Nat :=
  match sig with
  | 1 | 2 | 3 => 1
  | 4 | 5 => 2
  | 6 | 7 => 3
  | 8 | 9 => 4
  | _ => 0

/-- A channel of antenna `ant` meets the masks of NAV_MASK (R205, R228). -/
def State.meetsMask (s : State) (ant : Nat) (u : SatUse) : Bool :=
  chAnt u.ch.val == ant && decide ((s.get F.NAV_MASK_ELEV : Int) * 100 ≤ u.elev) &&
    decide (s.get F.NAV_MASK_CN0 * 256 ≤ u.cn0.toNat)

/-- How many satellites a solution of antenna `ant` uses: those of the channels that meet the masks (R205). -/
def State.satsUsed (s : State) (ant : Nat) (a : AntSolution) : Nat :=
  (((a.chans.filter (s.meetsMask ant)).map (fun u => (sigSystem u.sig.toNat, u.prn))).eraseDups).length

/-- A solution of antenna `ant` is valid with at least 4 satellites (R205). -/
def State.validSol (s : State) (ant : Nat) (a : Option AntSolution) : Option AntSolution :=
  match a with | some x => if 4 ≤ s.satsUsed ant x then some x else none | none => none

/-- The solution with the antennas that have a valid one (R205). -/
def State.validOf (s : State) (x : NavSolution) : NavSolution :=
  { x with antA := s.validSol 0 x.antA, antB := s.validSol 1 x.antB }

/-- RTK is available: RTK_EN = 1 and the personality is not SV-24 (R210). -/
def State.rtkOn (s : State) : Bool := s.flag F.NAV_CTRL_RTK_EN && s.pers != 3

/-- The correction age at an epoch in 0.1 s, saturating; none where no MSM is in use (R209). -/
def State.corrAge (s : State) (epoch : Nat) : Option Nat :=
  match s.nav.msm with
  | some t => some (min (divOpen 209 ((epoch - t : Nat) : Int) (second / 10)).toNat 0xFFFF)
  | none => none

/-- Corrections can be used at an epoch: a station position is held and the age is not above AGE_MAX (R208, R209). -/
def State.corrUsable (s : State) (epoch : Nat) : Bool :=
  s.flag F.NAV_BASE_ID_VALID && (match s.nav.msm with
    | some t => decide (epoch - t ≤ s.get F.NAV_AGE_MAX_AGE_MAX * (second / 10))
    | none => false)

/-- The quality of an epoch's solution (R205, R206, R209, R210). A carrier solution does not rest on ambiguities that were
discarded (R209, R225). -/
def State.solQuality (s : State) (x : NavSolution) : Nat :=
  if (s.validSol 0 x.antA).isNone && (s.validSol 1 x.antB).isNone then 0
  else if !s.corrUsable x.epoch.toNat then 2
  else if x.carrier && s.rtkOn && decide (s.nav.rtkAmb ≤ x.rtkFrom) then
    (if s.get F.NAV_RTK_CFG_RATIO ≤ x.ratio && s.get F.NAV_RTK_CFG_MINSAT ≤ x.fixed then 5 else 4)
  else if x.code then 3 else 2

/-- The A–B heading is valid (R212). -/
def State.abValid (s : State) (x : NavSolution) : Bool :=
  s.flag F.NAV_CTRL_HDG_EN && s.pers == 1 && x.abFixed && decide (s.nav.abAmb ≤ x.abFrom) &&
  decide (((x.abLen : Int) - s.get F.NAV_BASELINE_LEN).natAbs ≤ s.get F.NAV_BASELINE_TOL)

/-- The age of the corrections is judged at an epoch (R209). -/
def State.judgeAge (s : State) (epoch : Nat) : State :=
  match s.corrAge epoch with
  | none => s
  | some a =>
    let late := decide (s.get F.NAV_AGE_MAX_AGE_MAX * (second / 10) < epoch - s.nav.msm.getD epoch)
    ((s.put F.NAV_RTK_STAT_AGE a).raiseIf (late && !s.nav.ageOver) 70).modNav (fun n => { n with ageOver := late })

/-- A solution of an epoch is ready (R205 to R212). -/
def State.takeSolution (s : State) (x : NavSolution) : State :=
  let s := s.judgeAge x.epoch.toNat
  let q := s.solQuality x
  let m := s.get F.NAV_QMIN_QMIN
  let old := s.nav.solQ
  let ab := s.abValid x
  let s := s.modNav (fun n => { n with solQ := q, ab := if ab then some x else none, abAt := s.clk, abNew := ab })
  let s := (s.raiseIf (decide (m ≤ old ∧ q < m)) 65).raiseIf (decide (old < m ∧ m ≤ q)) 66
  let s := ((s.putSat F.NAV_RTK_STAT_RATIO x.ratio).putSat F.NAV_RTK_STAT_FIXED x.fixed)
  let s := if s.flag F.NAV_CTRL_HDG_EN then (s.putSat F.NAV_HDG_BL_BL x.abLen).puts F.NAV_HDG_BL_ELEV x.abElev else s
  if q < 2 then s.modNav (fun n => { n with runs := 0 })
  else
    let y := s.validOf x
    let nsat := match y.antA, y.antB with
      | some a, _ => s.satsUsed 0 a | none, some b => s.satsUsed 1 b | none, none => 0
    let s := ((s.setNat64 R.NAV_SOL_T_LO x.epoch.toNat).put F.NAV_SOL_INFO_NSAT nsat).put F.NAV_SOL_INFO_Q q
    (s.modNav (fun n => { n with sol := some y, last := some y, solAt := s.clk })).timeSolution x

/-! ## Raw measurements (R201 to R204) -/

/-- The instant of the present epoch's tag in 1/65,536 count of the clock (R200, R201): the time base has since moved by what
it is ahead of the tag, and by the counts that the tag has moved. -/
def State.epochAt (s : State) : Nat :=
  s.clk * 65536 - (divOpen 201 (((s.nav.phase + s.now % s.epochLen * countUnit) * 65536 : Nat) : Int) s.countRate).toNat

/-- The pseudorange of channel `n` at the epoch tag in 2^-10 m: light's way from `sent` plus the code accumulator to the
epoch tag (R202, R204). -/
def State.rawRange (s : State) (n sent : Nat) : Nat :=
  let sig := s.get (F.GNSS_CH_CUR_SIGID n)
  let rate := if sigL5 sig then 10230000 else 1023000
  let chips := s.codeAt n s.epochAt
  let rx := (s.now / s.epochLen * s.epochLen) * 65536
  code 64 (divOpen 201 ((((rx : Int) - sent) * (rate * 2 ^ 52 : Nat) - chips * (second * 65536 : Nat)) * (299792458 * 1024))
    (second * 65536 * rate * 2 ^ 52 : Nat))

/-- The carrier phase of channel `n` at the epoch tag in 2^-16 cycle: it grows as the range grows (R202, R204). -/
def State.rawPhase (s : State) (n : Nat) : Nat := code 64 (divOpen 202 (-(s.carrAt n s.epochAt)) (2 ^ 36))

/-- The 28-byte record of channel `n` (R204). Without a time of week the pseudorange is not valid, and its value is open
(R202, log entry 5). -/
def State.rawRecord (s : State) (n : Nat) (m : RawMeas) : List Byte :=
  let flags := 16 * s.get (F.GNSS_CH_CUR_ANT n) + 8 * bit (s.gnssCh.get n).slipped + 4 * bit m.half + 2 * bit m.carrOk +
    bit m.sent.isSome
  let range := match m.sent with | some t => s.rawRange n t | none => (Config.freeValue (s.fresh + n)).toNat
  [BitVec.ofNat 8 n, BitVec.ofNat 8 (s.get (F.GNSS_CH_CUR_SIGID n)), BitVec.ofNat 8 (s.get (F.GNSS_CH_CUR_PRN n)),
    BitVec.ofNat 8 flags] ++ leBytes 8 range ++ leBytes 8 (s.rawPhase n) ++ leBytes 4 (s.nat (R.GNSS_CH_DOPP n)) ++
    leBytes 2 (s.get (F.GNSS_CH_CN0_CN0 n)) ++ leBytes 2 (min (s.nat (R.GNSS_CH_LOCKT n) / 10) 0xFFFF)

/-- The records of an epoch, by channel number: only channels in TRACK that no host change moves (R201). -/
def State.rawRecords (s : State) (meas : List RawMeas) : List (List Byte) :=
  (List.range s.nGch).filterMap (fun n =>
    if s.chState n = 3 && !(s.gnssCh.get n).hostPend then
      (meas.find? (fun m => m.ch.val == n)).map (s.rawRecord n)
    else none)

/-- e at this instant in ns: the last measured e less what has been corrected since, 0 outside FIXED (R199, R203). -/
def State.timeErrNow (s : State) : Int := if s.tq = 1 then divOpen 203 s.nav.corr nsUnit else 0

/-- The header payload of a raw message (R203): its tag is the epoch's, a whole multiple of the epoch period (R200). -/
def State.rawHeader (s : State) (k : Nat) : List Byte :=
  leBytes 8 (s.now / s.epochLen * s.epochLen) ++ leBytes 2 k ++ [BitVec.ofNat 8 s.nav.solQ, BitVec.ofNat 8 s.tq] ++
  leBytes 4 (code 32 (satS 32 s.timeErrNow)) ++ leBytes 4 s.timeUnc ++
  leBytes 2 (s.get F.NAV_TIME_LEAP_VALID * 2 ^ 15 + s.get F.NAV_TIME_LEAP_GPS)

/-- Record entries: one for each pair of records (R203). -/
def rawEntries : List (List Byte) → List LaneEntry
  | [] => []
  | [a] => [⟨0x52, 1, a⟩]
  | a :: b :: t => ⟨0x52, 2, a ++ b⟩ :: rawEntries t

/-- The raw message of an epoch goes into LANE5 (R203). -/
def State.measureEpoch (s : State) (meas : List RawMeas) : State :=
  let rs := s.rawRecords meas
  let s := if s.runs .nav && s.flag F.NAV_CTRL_RAW_EN then
      s.laneProduce 5 (⟨0x51, rs.length, s.rawHeader rs.length⟩ :: rawEntries rs) else s
  s.each (List.range s.nGch) (fun s n => s.modCh n (fun c => { c with slipped := false }))

/-! ## RTCM (R207 to R210) -/

/-- The time tag nearest to `now` whose milliseconds of the GPS week are `tow`. -/
def nearestTow (now tow : Nat) : Nat :=
  let week := 604800000
  let t := now / msec
  let base := t - t % week + tow
  let c := if base + week / 2 < t then base + week else if t + week / 2 < base then base - week else base
  c * msec

/-- The reference station named by a message: a change of station discards every ambiguity, the stored position and the MSM in
use (R209). -/
def State.rtcmStation (s : State) (id : Nat) : State :=
  if s.get F.NAV_BASE_ID_ID = id then s
  else
    let s := (s.setNat R.NAV_BASE_ID 0).put F.NAV_BASE_ID_ID id
    let s := s.setWords R.NAV_BASE_X_LO [0, 0, 0, 0, 0, 0]
    s.modNav (fun n => { n with msm := none, rtkAmb := s.now, abAmb := s.now })

/-- The signals of an MSM that match those of R155: the bits of its signal mask, 1 the first, by system (log entry 605). -/
def msmSignals (t : Nat) : List Nat :=
  if t ≤ 1077 then [2, 22, 23, 24, 30, 31, 32]
  else if t ≤ 1097 then [2, 4, 5, 22, 23, 24]
  else if t ≤ 1117 then [2, 22, 23, 24]
  else [22, 23, 24, 30, 31, 32]

/-- How many satellites of an MSM's mask lie in the PRN range that R155 gives signal `g`: GPS L1C has more than the others. -/
def msmSats (t g : Nat) : Nat := if t ≤ 1077 then (if 30 ≤ g then 63 else 32) else if t ≤ 1097 then 50 else if t ≤ 1117 then 10 else 63

/-- The MSM carries data of a satellite and signal of R155 (R208): a cell of its mask with both is set. -/
def msmMatches (t : Nat) (p : List Byte) : Bool :=
  let set := fun base w => (List.range w).filter (fun i => bitField p (base + i) 1 == 1)
  let sats := set 73 64
  let sigs := set 137 32
  sats.zipIdx.any (fun x => sigs.zipIdx.any (fun g =>
    decide (x.1 < msmSats t (g.1 + 1)) && (msmSignals t).contains (g.1 + 1) && bitField p (169 + x.2 * sigs.length + g.2) 1 == 1))

/-- A checked RTCM message (R208, R209). -/
def State.rtcmMessage (s : State) (p : List Byte) : State :=
  let t := bitField p 0 12
  if t = 1005 ∨ t = 1006 then
    let s := s.rtcmStation (bitField p 12 12)
    let s := ((s.setInt64 R.NAV_BASE_X_LO (signed 38 (bitField p 34 38))).setInt64 R.NAV_BASE_Y_LO
      (signed 38 (bitField p 74 38))).setInt64 R.NAV_BASE_Z_LO (signed 38 (bitField p 114 38))
    (s.put F.NAV_BASE_ID_VALID 1).count F.NAV_RTCM_USED 1
  else if t = 1033 then s
  else if (1074 ≤ t ∧ t ≤ 1077) ∨ (1094 ≤ t ∧ t ≤ 1097) ∨ (1114 ≤ t ∧ t ≤ 1117) ∨ (1124 ≤ t ∧ t ≤ 1127) then
    let s := s.rtcmStation (bitField p 12 12)
    let tow := bitField p 24 30 + (if 1124 ≤ t then 14000 else 0)
    let e := nearestTow s.now (tow % 604800000)
    if !msmMatches t p then s else
    match s.nav.msm with
    | some m => if e < m then s else (s.modNav (fun n => { n with msm := some e })).count F.NAV_RTCM_USED 1
    | none => (s.modNav (fun n => { n with msm := some e })).count F.NAV_RTCM_USED 1
  else s.count F.NAV_RTCM_IGN 1

/-- A frame discarded (R207). -/
def State.rtcmBad (s : State) : State := (s.count F.NAV_RTCM_ERR 1).raise 71

/-- Takes whole frames from the bytes gathered: preamble 0xD3, 6 zero bits, 10 bits of length, payload, CRC-24Q (R207).
The first argument bounds the number of rounds. -/
def State.rtcmFrames (s : State) : Nat → List Byte → State
  | 0, b => s.modNav (fun n => { n with rtcm := b })
  | _ + 1, [] => s.modNav (fun n => { n with rtcm := [] })
  | k + 1, b0 :: t =>
    let b := b0 :: t
    if b0 ≠ 0xD3#8 then s.rtcmFrames k t
    else if b.length < 3 then s.modNav (fun n => { n with rtcm := b })
    else
      let h := bitField b 8 16
      if 1024 ≤ h then s.rtcmBad.rtcmFrames k t
      else if b.length < h + 6 then s.modNav (fun n => { n with rtcm := b })
      else
        let ok := (crc24q (b.take (h + 3))).toNat == bitField ((b.drop (h + 3)).take 3) 0 24
        let s := if ok then s.rtcmMessage ((b.drop 3).take h) else s.rtcmBad
        s.rtcmFrames k (b.drop (h + 6))

/-- An entry of LANE6 is lost: the frame that it cuts is discarded (R139, R207). -/
def State.rtcmCut (s : State) : State :=
  s.when (s.runs .nav && s.rtkOn && !s.nav.rtcm.isEmpty) (fun s => s.rtcmBad.modNav (fun n => { n with rtcm := [] }))

/-- NAV consumes one LANE6 entry (R207, R210, R225). A frame cut by lost entries is discarded when they are passed. -/
def State.rtcmEntry (s : State) : State :=
  let cut := s.laneIn 6 && s.laneLevel 6 != 0 && s.laneType 6 (s.get (F.LANE_TAIL_TAIL 6)) == 0
  match (s.when cut State.rtcmCut).laneConsume 6 with
  | (none, s) => s
  | (some e, s) =>
    if !s.runs .nav then s.count F.NAV_DISC 1
    else if !s.rtkOn then s.count F.NAV_RTCM_IGN 1
    else
      let k := (e.getD 4 0).toNat
      if e.getD 2 0 ≠ 0x61#8 ∨ k = 0 ∨ 56 < k then s.rtcmBad.modNav (fun n => { n with rtcm := [] })
      else
        let b := s.nav.rtcm ++ (e.drop 8).take k
        s.rtcmFrames (b.length + 1) b

/-! ## IMU (R216, R217) -/

/-- The words of a transaction (R216, R235). -/
def imuWords (be : Bool) : List Byte → List Nat
  | a :: b :: t => (if be then a.toNat * 256 + b.toNat else a.toNat + 256 * b.toNat) :: imuWords be t
  | _ => []

/-- One IMU sample (R216, R217); without VIO it is bad (R604). -/
def State.imuSample (s : State) (raw : List Byte) : State :=
  let ws := (imuWords (s.flag F.NAV_IMU_FMT_BE) raw).take (s.get F.NAV_IMU_FMT_WORDS)
  let cmd := (leBytes 4 (s.nat R.NAV_IMU_CMD)).take (s.get F.NAV_IMU_FMT_CMD_LEN)
  let s := s.modNav (fun n => { n with imuSent := cmd })
  let m := s.nat R.NAV_IMU_MAP
  let word := fun k => ws.getD (m / 2 ^ (4 * k) % 8) 0
  let mapped := (List.range 6).map word
  if mapped.all (· == 0) || mapped.all (· == 0xFFFF) || !s.flag F.PWR_STAT_VIO_OK then s.count F.NAV_IMU_BAD 1
  else
    let axis := fun k =>
      let v := signed 16 (word k)
      let v := if nbit m (4 * k + 3) then -v else v
      v * (if k < 3 then s.nat R.NAV_IMU_GSCL else s.nat R.NAV_IMU_ASCL)
    s.modNav (fun n =>
      { n with imu := (List.range 6).map axis, imuTag := s.now, imuAt := s.clk, imuGood := some s.clk, imuLost := false })

/-- NAV_IMU_STAT.OK: a good sample came within the last 10 ms (R235). -/
def State.imuOk (s : State) : Bool := match s.nav.imuGood with | some t => !s.passed t (10 * msec) | none => false

/-! ## Pose (R213 to R215, R703) -/

/-- The antenna offsets of the implement geometry (R214, R276). -/
def State.antOffset (s : State) (a : Nat) : Int × Int × Int :=
  if a = 0 then (s.int R.GEO_ANT_A_X, s.int R.GEO_ANT_A_Y, s.int R.GEO_ANT_A_Z)
  else (s.int R.GEO_ANT_B_X, s.int R.GEO_ANT_B_Y, s.int R.GEO_ANT_B_Z)

/-- The fused speed, signed mm/s (R214). -/
def State.fusedSpeed (s : State) : Int := signed 16 (s.get F.FBK_FUS_OUT)

/-- The signed 64-bit number in the pair of registers at `a`. -/
def State.int64 (s : State) (a : Nat) : Int := signed 64 (s.nat64 a)

/-- The watch over the A–B heading at a pose, where `ab` says that it is the source: HDG_LOST after 1 s without it while
HDG_EN = 1 (R213). -/
def State.headingWatch (s : State) (ab : Bool) : State :=
  let s := s.modNav (fun n => { n with noAbMs := if ab || !s.flag F.NAV_CTRL_HDG_EN then 0 else min (n.noAbMs + 1) 1001 })
  s.raiseIf (s.flag F.NAV_CTRL_HDG_EN && s.nav.noAbMs == 1000) 69

/-- Heading and heading source at a pose (R213): `x` is a solution that arrived since the previous pose. A–B holds from an
epoch that gives it until one that does not, and for at most 3 epoch periods without an epoch. Where course over ground becomes
the source, it is that of the newest solution. A solution's speed counts for 3 epoch periods (DEDUCED, log entry 606). -/
def State.poseHeading (s : State) (x : Option NavSolution) (yaw : Int) : Nat × State :=
  let turn := ((s.nav.hdg : Int) + yaw).emod 36000000
  let fresh := !s.passed s.nav.solAt (3 * s.epochLen)
  let l := s.nav.last
  let ab := s.nav.ab.isSome && !s.passed s.nav.abAt (3 * s.epochLen)
  let cog := match l with | some y => fresh && decide (1000 ≤ y.speed) && decide (0 < s.fusedSpeed) | none => false
  let s := s.headingWatch ab
  if ab then
    let h := match s.nav.ab with
      | some y => if s.nav.abNew then (((y.abAz : Int) + s.gets F.NAV_HDG_OFS) * 1000).emod 36000000 else turn
      | none => turn
    let u := match s.nav.ab with | some y => y.abUnc | none => 0
    (1, s.modNav (fun n => { n with hdg := h.toNat, hdgAt := s.clk, hdgUnc := u }))
  else if cog then
    let fixed := if s.get F.NAV_POSE_Q_HSRC = 2 then x else l
    let h := match fixed with | some y => ((y.course : Int) * 1000).emod 36000000 | none => turn
    let u := match l with | some y => y.cogUnc | none => 0
    (2, s.modNav (fun n => { n with hdg := h.toNat, hdgAt := s.clk, hdgUnc := u }))
  else if s.nav.hdgAt ≠ 0 ∧ s.clk ≤ s.nav.hdgAt + 10 * second then
    (3, s.modNav (fun n => { n with hdg := turn.toNat }))
  else (0, s)

/-- The heading 1σ of a pose (R703). The growth of the IMU's present state counts for the whole propagation (DESIGN CHOICE, log
entry 618). -/
def State.headingUnc (s : State) (src : Nat) (imu : Bool) : Nat :=
  match src with
  | 0 => 0xFFFF
  | 3 => min (s.nav.hdgUnc + (divOpen 703 ((s.clk - s.nav.hdgAt) * (if imu then 5 else 100)) second).toNat) 0xFFFF
  | _ => min s.nav.hdgUnc 0xFFFF

/-- The reference point of a solution propagated to now, its height in mm (R214, R215). -/
def State.solPosition (s : State) (x : NavSolution) (pitch roll : Int) : Int × Int × Int :=
  let pick : Nat × Option AntSolution :=
    match x.antA with | some a => (0, some a) | none => (1, x.antB)
  match pick.2 with
  | none => (s.int64 R.NAV_POSE_LAT_LO, s.int64 R.NAV_POSE_LON_LO, divOpen 215 s.nav.hgt 1000)
  | some a =>
    let r := toReference a.lat a.lon a.hgt (s.antOffset pick.1) s.nav.hdg pitch roll
    let ms := (s.now - x.epoch.toNat) / msec
    let q := propagateHistory r.1 r.2.1 s.nav.hdg (s.nav.hist.take ms)
    (q.1, q.2, r.2.2)

/-- The share of a blend of `d` over `n` ms that falls to millisecond `k`: the shares add up to `d` (R215). -/
def blendShare (d : Int) (n k : Nat) : Int := divOpen 215 (d * (k + 1)) n - divOpen 215 (d * k) n

/-- The pose is at a position and a height in µm, which the blend in progress moves by its share for 1 ms (R215). -/
def State.blendStep (s : State) (lat lon hgt : Int) : State :=
  let n := s.nav
  let on := decide (n.blendAge < n.blendLen)
  let share (d : Int) : Int := if on then blendShare d n.blendLen n.blendAge else 0
  let p := if on then geoShift lat lon (share n.blendN) (share n.blendE) else (lat, lon)
  let h := hgt + share n.blendH
  let s := (s.setInt64 R.NAV_POSE_LAT_LO p.1).setInt64 R.NAV_POSE_LON_LO p.2
  (s.setInt R.NAV_POSE_HGT (satS 32 (divOpen 215 h 1000))).modNav (fun n => { n with
    hgt := h, blendAge := if on then n.blendAge + 1 else n.blendAge })

/-- The pose of this millisecond's position (R215): propagated, then stepped or blended to a solution; a blend in progress
goes on over a step. The correction has a north, an east and a height part (log entry 616). Answers whether it stepped. -/
def State.posePosition (s : State) (x : Option NavSolution) (src : Nat) (pitch roll yaw : Int) : Bool × State :=
  let spd := s.fusedSpeed
  let lat := s.int64 R.NAV_POSE_LAT_LO
  let lon := s.int64 R.NAV_POSE_LON_LO
  let p := if src = 0 then (lat, lon) else propagate lat lon spd s.nav.hdg yaw
  match x with
  | none => (false, s.blendStep p.1 p.2 s.nav.hgt)
  | some y =>
    let q := s.solPosition y pitch roll
    let d := geoDiff p.1 p.2 q.1 q.2.1
    let h := q.2.2 * 1000 - s.nav.hgt
    let j : Int := s.get F.NAV_POSE_CFG_JUMP * 1000
    if j * j < d.1 * d.1 + d.2 * d.2 + h * h ∨ s.get F.NAV_POSE_CFG_BLEND = 0 then
      (true, s.blendStep q.1 q.2.1 (q.2.2 * 1000))
    else
      (false, (s.modNav (fun n => { n with
        blendN := d.1, blendE := d.2, blendH := h, blendLen := s.get F.NAV_POSE_CFG_BLEND, blendAge := 0 })).blendStep
          p.1 p.2 s.nav.hgt)

/-- Quality of a pose and its horizontal 1σ (R215, R703): dead-reckoned once no solution has come for 3 epoch periods. -/
def State.poseQuality (s : State) : (Nat × Nat) × State :=
  match s.nav.last with
  | none => ((0, 0xFFFF), s)
  | some y =>
    let u : Nat := match y.antA, y.antB with | some a, _ => a.unc | none, some b => b.unc | none, none => 0
    if s.passed s.nav.solAt (3 * s.epochLen) then
      let s := s.modNav (fun n => { n with dr := n.dr + s.fusedSpeed.natAbs })
      if 200000000 < s.nav.dr then ((0, 0xFFFF), s)
      else ((1, min (divOpen 704 (u * 1000 * 50 + s.nav.dr) 50000).toNat 0xFFFF), s)
    else ((s.get F.NAV_SOL_INFO_Q, min u 0xFFFF), s.modNav (fun n => { n with dr := 0 }))

/-- The pose of a tag that is a whole multiple of 16,000 (R213 to R215). -/
def State.poseUpdate (s : State) (roll pitch yaw : Int) : State :=
  let imu := s.flag F.NAV_CTRL_IMU_EN && s.imuOk
  let roll := if imu then roll else 0
  let pitch := if imu then pitch else 0
  let yaw := if imu then yaw else 0
  let x := s.nav.sol
  let h := s.poseHeading x yaw
  let s := h.2
  let q := s.poseQuality
  let s := q.2
  let held := q.1.1 == 0 && s.nav.last.isSome
  let p := if held then (false, s) else s.posePosition x h.1 pitch roll yaw
  let s := p.2
  let s := (s.setNat64 R.NAV_POSE_T_LO s.now).put F.NAV_POSE_HDG_HDG ((divOpen 230 s.nav.hdg 1000).toNat % 36000)
  let s := ((s.puts F.NAV_POSE_HDG_PITCH pitch).puts F.NAV_POSE_ROLL roll).puts F.NAV_POSE_SPD_YAW yaw
  let s := s.puts F.NAV_POSE_SPD_SPD s.fusedSpeed
  let s := (((s.put F.NAV_POSE_Q_PQ q.1.1).put F.NAV_POSE_Q_HSRC h.1).putB F.NAV_POSE_Q_JUMP p.1).put F.NAV_POSE_Q_TQ s.tq
  let s := (s.putB F.NAV_POSE_Q_BLEND (decide (s.nav.blendAge < s.nav.blendLen))).putSat F.NAV_POSE_Q_DR_TRAVEL
    (divOpen 231 s.nav.dr 100000).toNat
  let s := (s.put F.NAV_POSE_UNC_HOR q.1.2).put F.NAV_POSE_UNC_HDG (s.headingUnc h.1 imu)
  s.modNav (fun n => { n with sol := none, abNew := false, hist := ((s.fusedSpeed, yaw) :: n.hist).take 64 })

/-- A pose while NAV is disabled: quality NONE and heading source 0, so that both figures of NAV_POSE_UNC are unknown; it
neither steps nor blends nor dead-reckons (R225, R231, R703). Its source is not A–B, so that HDG_LOST follows after 1 s (R147,
R213). -/
def State.poseDisabled (s : State) : State :=
  (((s.headingWatch false).setNat64 R.NAV_POSE_T_LO s.now).setNat R.NAV_POSE_Q (s.tq * 16)).setNat R.NAV_POSE_UNC 0xFFFFFFFF

/-- ENABLE of NAV goes from 0 to 1: all ambiguities are discarded, and what poses rest on is taken afresh (R225). -/
def State.navEnable (s : State) : State :=
  s.modNav (fun n => { n with
    sol := none, last := none, ab := none, abNew := false, rtkAmb := s.now, abAmb := s.now, hdgAt := 0, dr := 0, blendLen := 0
    blendAge := 0, hist := [] })

/-- NAV_SUMMARY (R227). -/
def State.navSummary (s : State) : Nat :=
  s.tq * 2 ^ 16 + s.get F.NAV_POSE_Q_HSRC * 2 ^ 12 + s.get F.NAV_POSE_Q_PQ

/-! ## The commands -/

/-- MEASUREMENT_EPOCH (R200 to R204): at a time tag that is a multiple of the epoch period, outside a hold (R223). -/
def execMeasurementEpoch (meas : List RawMeas) (s : State) : Answer :=
  .next (if s.works .nav && s.onGrid s.epochLen then s.measureEpoch meas else s)

/-- POSITION_SOLUTION (R205 to R212, R197, R222); a disabled NAV completes the solution of an epoch before the disable, and
disciplines time only by later ones (R225). -/
def execPositionSolution (sol : NavSolution) (s : State) : Answer :=
  .next (if s.runs .nav || (s.works .nav && decide (sol.epoch.toNat < s.nav.offAt)) then s.takeSolution sol
         else if s.works .nav && ((s.validSol 0 sol.antA).isSome || (s.validSol 1 sol.antB).isSome) then s.timeSolution sol
         else s)

/-- TIME_SLEW_END (R222). -/
def execTimeSlewEnd (s : State) : Answer :=
  .next (if s.flag F.NAV_TIME_STAT_SLEW && s.slewLeft == 0 then
    s.put F.NAV_TIME_STAT_SLEW 0 else s)

/-- TIME_HOLD_END (R223). -/
def execTimeHoldEnd (s : State) : Answer :=
  .next (if s.flag F.NAV_TIME_STAT_HOLD && s.passed s.nav.holdUntil 0 then s.put F.NAV_TIME_STAT_HOLD 0 else s)

/-- RTCM_ENTRY (R207 to R210). -/
def execRtcmEntry (s : State) : Answer := .next (if s.works .nav then s.rtcmEntry else s)

/-- POSE_UPDATE (R213 to R215): at a time tag that is a multiple of 16,000. No pose falls within a hold (R223). -/
def execPoseUpdate (roll pitch yaw : Int) (s : State) : Answer :=
  .next (if !s.works .nav || !s.atMs then s
         else if s.enabled .nav then s.poseUpdate roll pitch yaw else s.poseDisabled)

/-- IMU_SAMPLE (R216, R217). The bus of the IMU rests until the outputs are released and in the safe course (R600). -/
def execImuSample (raw : List Byte) (s : State) : Answer :=
  .next (if s.runs .nav && s.flag F.NAV_CTRL_IMU_EN && s.released then s.imuSample raw else s)

/-- IMU_LOST (R217): whether or not NAV is enabled (R147). -/
def execImuLost (s : State) : Answer :=
  .next (if s.present .nav && s.flag F.NAV_CTRL_IMU_EN && s.passed s.nav.imuAt (10 * msec) && !s.nav.imuLost then
    (s.modNav (fun n => { n with imuLost := true })).raise 72 else s)

/-- An edge of pulse `p` falls within the present count: at a whole multiple of PERIOD_MS, shifted by OFS ns (R218). -/
def State.pulseDue (s : State) (p : Nat) : Bool :=
  decide ((16 * s.int (R.NAV_TP_OFS p) - s.now * 1000).emod (16000000 * s.get (F.NAV_TP_CFG_PERIOD_MS p)) < 1000)

/-- The level of pin TPp: active from an edge for WIDTH, with POL, and the inactive level in OFF (R218, R219, R233); a
satellite's pins stay low. Until the outputs are released and in the safe course it is inactive (R600). -/
def State.tpLevel (s : State) (p : Nat) : Bool :=
  !s.absentBlock .nav &&
    ((s.released && s.get (F.NAV_TP_CFG_MODE p) != 0 && decide (s.clk < s.nav.tp.get p)) != s.flag (F.NAV_TP_CFG_POL p))

/-- TIME_PULSE (R218, R219); none until the outputs are released nor in the safe course (R600). -/
def execTimePulse (p : Fin 2) (s : State) : Answer :=
  .next (if s.works .nav && s.released && !s.flag F.NAV_TIME_STAT_HOLD && s.pulseDue p.val &&
      (s.get (F.NAV_TP_CFG_MODE p.val) == 2 || (s.get (F.NAV_TP_CFG_MODE p.val) == 1 && s.tq != 0)) then
    let s := ((s.setNat64 (R.NAV_TP_LAST_LO p.val) s.now).put (F.NAV_TP_LAST_Q_TQ p.val) s.tq).put (F.NAV_TP_LAST_Q_UNC p.val)
      s.timeUncUs
    s.modNav (fun n => { n with tp := n.tp.set p.val (s.clk + s.get (F.NAV_TP_WIDTH_WIDTH p.val) * usec) })
  else s)

/-- HOLDOVER (R220, R221). -/
def execHoldover (func : Nat) (s : State) : Answer :=
  .next (if s.present .nav && s.tq == 1 && s.passed s.nav.timeAt (s.get F.NAV_HO_CFG_HO_ENTER * msec) then
    s.enterHoldover 2 (if s.passed s.nav.discAt (600 * second) then max 10 func else 500) else s)

/-- HOLDOVER_UNC_UPDATE (R221). -/
def execHoldoverUncUpdate (moved : Int) (s : State) : Answer :=
  .next (if s.present .nav && (s.tq == 2 || s.tq == 3) then
    let u := s.timeUnc
    let rate := if s.tq = 2 then s.nav.uncRate
      else 20000 + (divOpen 221 (moved.natAbs * (if s.flag F.CLK_MRC_TC_VALID then 20000 else 200000)) 10).toNat
    let s := s.modNav (fun n => { n with timeUnc := u, uncAt := s.clk, uncRate := rate })
    if !s.nav.uncLimit && decide (s.get F.NAV_HO_CFG_UNC_MAX * 1000 < u) then
      (s.modNav (fun n => { n with uncLimit := true })).raise 73 else s
  else s)

end Sys2Proof.Machine
end

