-- ==== Sys2Proof/Machine/Geo.lean ====
section
/-! DEFINITION. The GEO block: projection, the ashlar map, fences, coverage and as-applied chunks (R269 to R316). -/

namespace Sys2Proof.Machine

open Sys2Proof

def State.modGeo (s : State) (f : GeoState → GeoState) : State := { s with geo := f s.geo }
def State.modCross (s : State) (p : Nat) (f : GeoCross → GeoCross) : State :=
  s.modGeo (fun g => { g with points := g.points.modify p f })
def State.modSlot (s : State) (k : Nat) (f : GeoSlot → GeoSlot) : State :=
  s.modGeo (fun g => { g with slots := g.slots.modify k f })

/-! ## Cells and slots (R279 to R284) -/

/-- NL, the number of layers. -/
def State.geoNL (s : State) : Nat := s.get F.GEO_MAP_CFG_NLM1 + 1

/-- The cell size in µm (R311). -/
def State.geoCS (s : State) : Nat := 25000 * 2 ^ s.get F.GEO_MAP_CFG_CS

/-- The bytes of a slot, and where slot `k` starts (R281). -/
def State.slotBytes (s : State) : Nat := (s.geoNL + 1) * 16384
def State.slotBase (s : State) (k : Nat) : Nat := dramBase + k * s.slotBytes

/-- The tile lies within the extent (R279). -/
def State.inExtent (s : State) (tx ty : Int) : Bool :=
  decide (s.gets F.GEO_MAP_EXT_X_TXMIN ≤ tx ∧ tx ≤ s.gets F.GEO_MAP_EXT_X_TXMAX ∧
          s.gets F.GEO_MAP_EXT_Y_TYMIN ≤ ty ∧ ty ≤ s.gets F.GEO_MAP_EXT_Y_TYMAX)

/-- The slot that holds the tile in one of the states `sts`. -/
def State.slotOf (s : State) (sts : List Nat) (tx ty : Int) : Option Nat :=
  (s.geo.slots.find? (fun e => sts.contains e.2.st && e.2.tx == tx && e.2.ty == ty)).map (·.1)

/-- The resident slots. -/
def State.residents (s : State) : List (Nat × GeoSlot) := s.geo.slots.filter (fun e => e.2.st == 2)

/-- Some slot is resident (R283). -/
def State.mapInUse (s : State) : Bool := !s.residents.isEmpty

/-- The tile of a cell, and the cell's column and row in it (R279). -/
def tileOf (c : Int × Int) : Int × Int := (c.1.fdiv 256, c.2.fdiv 256)
def cellCol (c : Int × Int) : Nat := (c.1.fmod 256).toNat
def cellRow (c : Int × Int) : Nat := (c.2.fmod 256).toNat

/-- The stored state of cell (i, j) of a layer of slot `k` (R280, R281); unknown in a dead page (R37, R38). -/
def State.cellIn (s : State) (k layer i j : Nat) : Nat :=
  let a := s.slotBase k + layer * 16384 + j * 64 + i / 4
  if s.deadPage a then 3 else (s.byte a).toNat / 4 ^ (i % 4) % 4

/-- The state with that cell stored. -/
def State.putCell (s : State) (k layer i j v : Nat) : State :=
  let a := s.slotBase k + layer * 16384 + j * 64 + i / 4
  let b := (s.byte a).toNat
  s.setByte a (BitVec.ofNat 8 (b - b / 4 ^ (i % 4) % 4 * 4 ^ (i % 4) + v % 4 * 4 ^ (i % 4)))

/-- The offset of a fence plane in a slot: 0 for A, 1 for B (R281). -/
def State.planeOfs (s : State) (plane : Nat) : Nat := s.geoNL * 16384 + plane * 8192


/-! ## Polygons in the map plane (R277, R294, R298) -/

/-- Twice the signed area of the triangle a, b, p. -/
def area2 (a b p : Int × Int) : Int := (b.1 - a.1) * (p.2 - a.2) - (b.2 - a.2) * (p.1 - a.1)

/-- `p` lies on the segment from a to b. -/
def onEdge (e : (Int × Int) × (Int × Int)) (p : Int × Int) : Bool :=
  let a := e.1
  let b := e.2
  area2 a b p == 0 && decide (min a.1 b.1 ≤ p.1 ∧ p.1 ≤ max a.1 b.1 ∧ min a.2 b.2 ≤ p.2 ∧ p.2 ≤ max a.2 b.2)

/-- A ray from `p` crosses the edge (the even–odd rule of R294). -/
def rayCrosses (e : (Int × Int) × (Int × Int)) (p : Int × Int) : Bool :=
  let a := e.1
  let b := e.2
  (decide (p.2 < a.2) != decide (p.2 < b.2)) &&
  (if a.2 < b.2 then decide (0 < area2 a b p) else decide (area2 a b p < 0))

/-- The edges of a polygon. -/
def edgesOfPoly (v : List (Int × Int)) : List ((Int × Int) × (Int × Int)) := v.zip (v.drop 1 ++ v.take 1)

/-- `p` is inside under the even–odd rule. -/
def evenOdd (es : List ((Int × Int) × (Int × Int))) (p : Int × Int) : Bool :=
  es.foldl (fun b e => b != rayCrosses e p) false

/-- `p` lies inside the polygon or on its edge (R294). -/
def insidePoly (v : List (Int × Int)) (p : Int × Int) : Bool :=
  let es := edgesOfPoly v
  es.any (fun e => onEdge e p) || evenOdd es p

/-- The centre of a cell, in half µm. -/
def cellCentre (cs : Nat) (c : Int × Int) : Int × Int := ((2 * c.1 + 1) * cs, (2 * c.2 + 1) * cs)

/-- A point in µm doubled. -/
def twice (p : Int × Int) : Int × Int := (2 * p.1, 2 * p.2)

/-- The cells whose centres lie within the bounding box of points in µm. -/
def boxCells (cs : Nat) (v : List (Int × Int)) : List (Int × Int) :=
  match v with
  | [] => []
  | a :: t =>
    let b := t.foldl (fun (b : (Int × Int) × (Int × Int)) p =>
      ((min b.1.1 p.1, min b.1.2 p.2), (max b.2.1 p.1, max b.2.2 p.2))) (a, a)
    let i0 := b.1.1.fdiv cs
    let j0 := b.1.2.fdiv cs
    (List.range (b.2.1.fdiv cs - i0 + 1).toNat).flatMap (fun i =>
      (List.range (b.2.2.fdiv cs - j0 + 1).toNat).map (fun j => (i0 + i, j0 + j)))

/-- The cells of a rectangle or another polygon given in µm: those with their centre in it (R277). -/
def polyCells (cs : Nat) (v : List (Int × Int)) : List (Int × Int) :=
  (boxCells cs v).filter (fun c => insidePoly (v.map twice) (cellCentre cs c))

/-- The cells of the strip from segment (a, b) to segment (c, d): inside it, on its side edges or on its start edge, and
not on its end edge (R298). -/
def stripCells (cs : Nat) (a b c d : Int × Int) : List (Int × Int) :=
  (boxCells cs [a, b, c, d]).filter (fun x =>
    let p := cellCentre cs x
    let v := [a, b, d, c].map twice
    !onEdge (twice c, twice d) p && insidePoly v p)

/-! ## Poses and footprints (R275 to R278) -/

/-- The latest pose, as NAV's registers hold it. -/
def State.geoPose (s : State) : GeoPose where
  tag := s.nat64 R.NAV_POSE_T_LO
  q := s.get F.NAV_POSE_Q_PQ
  lat := s.int64 R.NAV_POSE_LAT_LO
  lon := s.int64 R.NAV_POSE_LON_LO
  hgt := s.int R.NAV_POSE_HGT
  hdg := s.nav.hdg
  pitch := s.gets F.NAV_POSE_HDG_PITCH
  roll := s.gets F.NAV_POSE_ROLL
  speed := s.gets F.NAV_POSE_SPD_SPD
  yaw := s.gets F.NAV_POSE_SPD_YAW
  orgLat := s.int64 R.GEO_MAP_ORG_LAT_LO
  orgLon := s.int64 R.GEO_MAP_ORG_LON_LO

/-- The offsets and footprint width of a point as its registers hold them: local ones in GEO's table, remote ones in Stride's
(R271, R325). -/
def State.shapeReg (s : State) (p : Nat) : PtShape :=
  if p < 128 then ⟨s.int (R.GEO_PT_X p), s.int (R.GEO_PT_Y p), s.int (R.GEO_PT_Z p), s.get (F.GEO_PT_WIDTH_W p)⟩
  else ⟨s.int (R.STR_SP_X (p - 128)), s.int (R.STR_SP_Y (p - 128)), s.gets (F.STR_SP_ZW_Z (p - 128)), s.get (F.STR_SP_ZW_W (p - 128))⟩

/-- GEO takes the offsets and widths of all points at a geometry update (R274). -/
def State.takeShapes (s : State) : State :=
  s.modGeo (fun g => { g with
    shapes := ((List.range 1024).map (fun p => (p, s.shapeReg p))).filter (fun e => e.2 != default) })

/-- The offsets and footprint width of a point in mm, as GEO took them (R274). -/
def State.ptX (s : State) (p : Nat) : Int := (s.geo.shapes.get p).x
def State.ptY (s : State) (p : Nat) : Int := (s.geo.shapes.get p).y
def State.ptZ (s : State) (p : Nat) : Int := (s.geo.shapes.get p).z
def State.ptW (s : State) (p : Nat) : Nat := (s.geo.shapes.get p).w

/-- The product layer of a point. -/
def State.ptLayer (s : State) (p : Nat) : Nat :=
  if p < 128 then s.get (F.GEO_PT_CTRL_LAYER p) else s.get (F.STR_SP_CTRL_LAYER (p - 128))

/-- The point is enabled and present (R3, R271, R344). -/
def State.ptOn (s : State) (p : Nat) : Bool :=
  if p < 128 then decide (p < s.nPoint) && s.flag (F.GEO_PT_CTRL_EN p) else s.isLead && s.flag (F.STR_SP_CTRL_EN (p - 128))

/-- The projection of a point at a pose, in µm (R276): without an IMU z has no effect. -/
def State.ptAt (s : State) (p : Nat) (g : GeoPose) : Int × Int :=
  project g (s.ptX p) (s.ptY p) (if s.flag F.NAV_CTRL_IMU_EN then s.ptZ p else 0)

/-- The ends of a point's footprint segment at a pose, in µm (R271). -/
def State.ptSeg (s : State) (p : Nat) (g : GeoPose) : (Int × Int) × (Int × Int) :=
  let c := s.ptAt p g
  let h := along g false (s.ptW p * 500 : Nat)
  ((c.1 - h.1, c.2 - h.2), (c.1 + h.1, c.2 + h.2))

/-- The corners in half µm of a point's footprint at a pose: a rectangle W wide and one cell deep (R277). -/
def State.ptRect (s : State) (p : Nat) (g : GeoPose) : List (Int × Int) :=
  let e := s.ptSeg p g
  let d := along g true (s.geoCS : Nat)
  let back (q : Int × Int) := (2 * q.1 - d.1, 2 * q.2 - d.2)
  let front (q : Int × Int) := (2 * q.1 + d.1, 2 * q.2 + d.2)
  [back e.1, back e.2, front e.2, front e.1]

/-- The footprint cells of a point at a pose (R277). -/
def State.ptCells (s : State) (p : Nat) (g : GeoPose) : List (Int × Int) := polyCells (2 * s.geoCS) (s.ptRect p g)

/-- The footprint is off map: a corner of it, and so a part, lies in a tile outside the extent (R279). -/
def State.ptOff (s : State) (p : Nat) (g : GeoPose) : Bool :=
  let w : Int := (2 * s.geoCS * 256 : Nat)
  (s.ptRect p g).any (fun c => !s.inExtent (c.1.fdiv w) (c.2.fdiv w))

/-- The two poses that bracket an instant, the history newest first. -/
def bracket (t : Nat) : List GeoPose → Option (GeoPose × GeoPose)
  | [] => none
  | [a] => some (a, a)
  | b :: a :: r => if b.tag ≤ t then some (b, b) else if a.tag ≤ t then some (a, b) else bracket t (a :: r)

/-- Linear interpolation at `t` between values at `ta` and `tb` (R296). -/
def lerp (ta tb t : Nat) (x y : Int) : Int :=
  if tb ≤ ta then x else x + divOpen 296 ((y - x) * ((t : Int) - ta)) (tb - ta : Nat)

/-- A point of the plane that moves with the poses, at an instant. -/
def lerpAt (t : Nat) (g : GeoPose × GeoPose) (f : GeoPose → Int × Int) : Int × Int :=
  (lerp g.1.tag g.2.tag t (f g.1).1 (f g.2).1, lerp g.1.tag g.2.tag t (f g.1).2 (f g.2).2)

/-- The footprint segment of a point at an instant (R296). -/
def State.segAt (s : State) (p t : Nat) : Option ((Int × Int) × (Int × Int)) :=
  (bracket t s.geo.poses).map (fun g => (lerpAt t g (fun x => (s.ptSeg p x).1), lerpAt t g (fun x => (s.ptSeg p x).2)))

/-- The footprint centre of a point at an instant, in mm (R303). -/
def State.centreAt (s : State) (p t : Nat) : Int × Int :=
  match bracket t s.geo.poses with
  | none => (0, 0)
  | some g => let c := lerpAt t g (fun x => s.ptAt p x); (divOpen 303 c.1 1000, divOpen 303 c.2 1000)

/-! ## Lane messages (R286, R290 to R292) -/

/-- AUX of a tile's entries (R286). -/
def tileAux (tx ty : Int) : Nat := code 16 ty * 65536 + code 16 tx

/-- The data entries of a tile: 56 bytes each, the last filled up with zeros (R287). -/
def dataEntries (type ofs : Nat) : Nat → List Byte → List LaneEntry
  | 0, _ => []
  | n + 1, b => if b.isEmpty then [] else ⟨type, ofs, b.take 56⟩ :: dataEntries type (ofs + 56) n (b.drop 56)

/-- The eviction message of slot `k` (R290). -/
def State.evictMsg (s : State) (k : Nat) (flush : Bool) : List LaneEntry :=
  let e := s.geo.slots.get k
  let h := leBytes 1 (bit e.dirty + 2 * bit e.lost + 4 * bit flush) ++ leBytes 1 (s.get F.GEO_MAP_CFG_CS) ++
    leBytes 1 s.geoNL ++ leBytes 5 0 ++ leBytes 8 e.last
  ⟨0x83, tileAux e.tx e.ty, h⟩ ::
    (if e.dirty then dataEntries 0x84 0 1171 (s.bytes (s.slotBase k) (s.geoNL * 16384)) else [])

/-- What is done as messages are wholly in LANE4: a slot under eviction becomes free with its own message, and FLUSH_BUSY
ends with the last message of FLUSH or EVICT_ALL (R290, R291). -/
def State.geoSettle (s : State) : State :=
  let s := s.modGeo (fun g => { g with slots := g.slots.filter (fun e => e.2.st != 3 || s.laneHolds 4 e.2.msgEnd) })
  match s.geo.flush with
  | none => s
  | some q => if s.laneHolds 4 q then s else (s.modGeo (fun g => { g with flush := none })).put F.GEO_MAP_STAT_FLUSH_BUSY 0

/-- The eviction of slot `k` (R290). -/
def State.evict (s : State) (k : Nat) : State :=
  let m := s.evictMsg k false
  ((s.modSlot k (fun e => { e with st := 3, msgEnd := s.laneEnd 4 m.length })).laneProduce 4 m).geoSettle

/-- The messages of FLUSH or EVICT_ALL, `n` in number, have been formed: FLUSH_BUSY is 1 until the last is in LANE4
(R291). -/
def State.flushEnd (s : State) (n : Nat) : State :=
  if n = 0 then (if s.geo.flush.isNone then s.put F.GEO_MAP_STAT_FLUSH_BUSY 0 else s)
  else (s.modGeo (fun g => { g with flush := some (s.laneEnd 4 0) })).geoSettle

/-- GEO_MAP_CMD FLUSH (R291). -/
def State.geoFlush (s : State) : State :=
  let ks := (s.residents.filter (fun e => e.2.dirty)).map (·.1)
  let s := s.put F.GEO_MAP_STAT_FLUSH_BUSY 1
  (s.each ks (fun s k => (s.laneProduce 4 (s.evictMsg k true)).modSlot k (fun e => { e with dirty := false }))).flushEnd ks.length

/-- GEO_MAP_CMD EVICT_ALL (R291). -/
def State.geoEvictAll (s : State) : State :=
  let ks := s.residents.map (·.1)
  let s := s.put F.GEO_MAP_STAT_FLUSH_BUSY 1
  (s.each ks State.evict).flushEnd ks.length

/-! ## Fences (R293 to R295) -/

/-- The vertices of fence `f` as staged, in µm. -/
def State.fencePoly (s : State) (f : Nat) : List (Int × Int) :=
  let first := s.get (F.GEO_FENCE_CTRL_FIRST f)
  (List.range (s.get (F.GEO_FENCE_CTRL_COUNT f))).map
    (fun i => (s.int (R.GEO_VTX_E (first + i)) * 1000, s.int (R.GEO_VTX_N (first + i)) * 1000))

/-- The enabled fences as staged. -/
def State.fencesOn (s : State) : List Nat := (List.range 64).filter (fun f => s.flag (F.GEO_FENCE_CTRL_EN f))

/-- Fence `f` fails the check of a commit (R295). -/
def State.fenceBad (s : State) (f : Nat) : Bool :=
  decide (s.get (F.GEO_FENCE_CTRL_COUNT f) < 3) ||
  decide (4096 < s.get (F.GEO_FENCE_CTRL_FIRST f) + s.get (F.GEO_FENCE_CTRL_COUNT f))

/-- The centre of cell (i, j) of slot `k` lies in one of `fences` (R294). -/
def State.fenced (s : State) (k : Nat) (fences : List (List (Int × Int))) (i j : Nat) : Bool :=
  let e := s.geo.slots.get k
  let p := cellCentre s.geoCS (e.tx * 256 + i, e.ty * 256 + j)
  fences.any (fun v => insidePoly (v.map twice) p)

/-- A set of fences rasterized into a plane of slot `k` (R294, R295). -/
def State.raster (s : State) (k plane : Nat) (fences : List (List (Int × Int))) : State :=
  s.setBytes (s.slotBase k + s.planeOfs plane) ((List.range 8192).map (fun n =>
    BitVec.ofNat 8 ((List.range 8).foldl (fun m b => if s.fenced k fences (n % 32 * 8 + b) (n / 32) then m + 2 ^ b else m) 0)))

/-- The fence bit of cell (i, j) in the active plane; of a dead page it is the one of the fence set in force (R37, R300). -/
def State.fenceBit (s : State) (k i j : Nat) : Bool :=
  let a := s.slotBase k + s.planeOfs (s.get F.GEO_MAP_STAT_PLANE) + j * 32 + i / 8
  if s.deadPage a then s.fenced k s.geo.fences i j else nbit (s.byte a).toNat (i % 8)

/-- The effective state of a cell as Stride and the coverage logic read it (R284). -/
def State.effective (s : State) (layer : Nat) (c : Int × Int) : Nat :=
  let t := tileOf c
  match (if s.inExtent t.1 t.2 then s.slotOf [2] t.1 t.2 else none) with
  | none => 3
  | some k =>
    let v := s.cellIn k layer (cellCol c) (cellRow c)
    if s.fenceBit k (cellCol c) (cellRow c) && (v == 0 || v == 3) then 2 else v

/-- GEO_MAP_CMD FENCE_COMMIT (R295). -/
def State.fenceCommit (s : State) : State :=
  match s.fencesOn.find? s.fenceBad with
  | some f => ((s.put F.GEO_FENCE_ERR_VALID 1).put F.GEO_FENCE_ERR_N f).raise 99
  | none =>
    let set := s.fencesOn.map s.fencePoly
    (s.put F.GEO_MAP_STAT_FENCE_BUSY 1).modGeo (fun g => { g with next := set, swap := false })

/-- The new set is in the inactive plane of every resident slot (R295). -/
def State.fenceRaster (s : State) : State :=
  if !s.flag F.GEO_MAP_STAT_FENCE_BUSY then s
  else
    let plane := 1 - s.get F.GEO_MAP_STAT_PLANE
    let s := s.each (s.residents.map (·.1)) (fun s k => s.raster k plane s.geo.next)
    (s.put F.GEO_MAP_STAT_FENCE_BUSY 0).modGeo (fun g => { g with swap := true })

/-- The planes switch at the first geometry update after the raster (R295). -/
def State.fenceSwap (s : State) : State :=
  if !s.geo.swap then s
  else
    (s.put F.GEO_MAP_STAT_PLANE (1 - s.get F.GEO_MAP_STAT_PLANE)).modGeo
      (fun g => { g with swap := false, fences := g.next, next := [] })

/-! ## Paging (R285 to R289) -/

/-- A range of tile numbers. -/
def tileSpan (lo hi : Int) : List Int := (List.range (hi - lo + 1).toNat).map (fun i => lo + i)

/-- The needed set (R285): tiles in the extent that meet the box of the footprints, extended by PREFETCH. -/
def State.neededSet (s : State) (g : GeoPose) : List (Int × Int) :=
  let ps := ((List.range 1024).filter s.ptOn).flatMap (fun p => let e := s.ptSeg p g; [e.1, e.2])
  match ps with
  | [] => []
  | a :: t =>
    let b := t.foldl (fun (b : (Int × Int) × (Int × Int)) p =>
      ((min b.1.1 p.1, min b.1.2 p.2), (max b.2.1 p.1, max b.2.2 p.2))) (a, a)
    let m : Int := (s.get F.GEO_MAP_PREF_PREFETCH * 1000000 : Nat)
    let w : Int := (s.geoCS * 256 : Nat)
    let xs := tileSpan (max ((b.1.1 - m).fdiv w) (s.gets F.GEO_MAP_EXT_X_TXMIN)) (min ((b.2.1 + m).fdiv w) (s.gets F.GEO_MAP_EXT_X_TXMAX))
    let ys := tileSpan (max ((b.1.2 - m).fdiv w) (s.gets F.GEO_MAP_EXT_Y_TYMIN)) (min ((b.2.2 + m).fdiv w) (s.gets F.GEO_MAP_EXT_Y_TYMAX))
    xs.flatMap (fun x => ys.map (fun y => (x, y)))

/-- A tile request, unless one was made within REQ_RETRY (R286). -/
def State.askTile (s : State) (t : Int × Int) : State :=
  let wait := s.get F.GEO_MAP_PREF_REQ_RETRY * msec
  if (s.slotOf [1, 2] t.1 t.2).isSome || s.geo.asked.any (fun a => a.1 == t && decide (s.clk < a.2 + wait)) then s
  else
    let s := (s.laneProduce 4 [⟨0x82, tileAux t.1 t.2, []⟩]).raise 98
    s.modGeo (fun g => { g with asked := (t, s.clk) :: g.asked.filter (fun a => a.1 != t) })

/-- The requests of a geometry update (R285, R286). -/
def State.askTiles (s : State) (g : GeoPose) : State :=
  let need := s.neededSet g
  let wait := s.get F.GEO_MAP_PREF_REQ_RETRY * msec
  let s := s.modGeo (fun x => { x with needed := need, asked := x.asked.filter (fun a => decide (s.clk < a.2 + wait)) })
  s.each need State.askTile

/-- A free slot. -/
def State.freeSlot (s : State) : Option Nat :=
  (List.range (s.get F.GEO_MAP_CFG_NSLOT)).find? (fun k => (s.geo.slots.get k).st == 0)

/-- The resident tile outside the needed set that was least recently written (R289). -/
def State.victim (s : State) : Option Nat :=
  (s.residents.filter (fun e => !s.geo.needed.contains (e.2.tx, e.2.ty))).foldl
    (fun (b : Option (Nat × Nat)) e => match b with
      | some x => if e.2.last < x.2 then some (e.1, e.2.last) else b
      | none => some (e.1, e.2.last)) none |>.map (·.1)

/-- The load in progress is discarded (R288). -/
def State.dropLoad (s : State) : State :=
  match s.geo.load with
  | none => s
  | some l =>
    (s.count F.GEO_CNT_BADLOAD 1).modGeo (fun g => { g with load := none, slots := g.slots.set l.slot default })

/-- The load is complete: both fence planes are rasterized and the tile is resident (R288, R295). -/
def State.finishLoad (s : State) (k : Nat) : State :=
  let s := s.raster k (s.get F.GEO_MAP_STAT_PLANE) s.geo.fences
  let busy := s.flag F.GEO_MAP_STAT_FENCE_BUSY || s.geo.swap
  let s := s.raster k (1 - s.get F.GEO_MAP_STAT_PLANE) (if busy then s.geo.next else s.geo.fences)
  let dead := (List.range (s.slotBytes / 4096)).any (fun i => s.deadPage (s.slotBase k + i * 4096))
  (s.modSlot k (fun e => { e with st := 2, dirty := e.dirty || dead, lost := e.lost || dead })).modGeo (fun g => { g with load := none })

/-- A header entry takes slot `k` (R287). -/
def State.beginLoad (s : State) (k : Nat) (tx ty : Int) (fill : Nat) : State :=
  let s := s.modSlot k (fun _ => { (default : GeoSlot) with st := 1, tx := tx, ty := ty, last := s.now })
  let s := s.modGeo (fun g => { g with load := some ⟨k, 0⟩ })
  if fill = 0 then s
  else
    let v := match fill with | 1 => 0 | 2 => 0xAA | _ => 0xFF
    (s.setBytes (s.slotBase k) (List.replicate (s.geoNL * 16384) (BitVec.ofNat 8 v))).finishLoad k

/-- GEO reads the entry at the front of LANE3 (R287 to R289): the entry stays there while the load waits for a slot. -/
def State.tileLoad (s : State) : State :=
  if !s.laneIn 3 || !s.works .geo then s
  else
    let s := s.laneSkip 3 (s.laneLevel 3)
    let t := s.get (F.LANE_TAIL_TAIL 3)
    let e := s.bytes (s.laneSlot 3 t) 64
    let type := (e.getD 2 0).toNat
    let first := nbit (e.getD 3 0).toNat 0
    let last := nbit (e.getD 3 0).toNat 1
    let aux := leNat ((e.drop 4).take 4)
    let p := e.drop 8
    if s.laneLevel 3 = 0 then s
    else if !s.enabled .geo then (s.laneTake 3).2.count F.GEO_DISC 1
    else if type = 0x80 ∧ first then
      let tx := signed 16 (aux % 65536)
      let ty := signed 16 (aux / 65536)
      let dup := (s.slotOf [1, 2] tx ty).isSome
      let s := s.dropLoad
      let fill := (p.getD 0 0).toNat
      let pop (s : State) : State := (s.laneTake 3).2
      if (p.getD 1 0).toNat ≠ s.get F.GEO_MAP_CFG_CS ∨ (p.getD 2 0).toNat ≠ s.geoNL ∨ !s.inExtent tx ty ∨ 3 < fill then
        (pop s).count F.GEO_CNT_BADLOAD 1
      else if dup then (pop s).count F.GEO_CNT_DUPLOAD 1
      else match s.freeSlot with
        | some k => (s.laneTake 3).2.beginLoad k tx ty fill
        | none =>
          if s.geo.slots.any (fun x => x.2.st == 3) then s
          else match s.victim with
            | some k => s.evict k
            | none => ((pop s).count F.GEO_CNT_BADLOAD 1).raise 97
    else
      let s := (s.laneTake 3).2
      match s.geo.load with
      | none => s
      | some l =>
        let len := s.geoNL * 16384
        if type ≠ 0x81 ∨ aux ≠ l.next ∨ len ≤ aux then s.dropLoad
        else
          let s := s.setBytes (s.slotBase l.slot + aux) ((p.take 56).take (len - aux))
          if len ≤ aux + 56 then s.finishLoad l.slot
          else if last then s.dropLoad
          else s.modGeo (fun g => { g with load := some { l with next := aux + 56 } })

/-! ## Crossings (R296, R297) -/

/-- The crossing of a point. -/
def State.cross (s : State) (p : Nat) : GeoCross := s.geo.points.get p

/-- GEO_PT_STAT shows a local point's crossing (R315); CONF_CLOSE keeps what the last end was until the next end is
known. -/
def State.crossShow (s : State) (p : Nat) : State :=
  let c := s.cross p
  if 128 ≤ p then s
  else
    let s := (s.put (F.GEO_PT_STAT_CROSS p) c.cross).putB (F.GEO_PT_STAT_INFERRED p) (c.infO || c.infC)
    let s := s.putB (F.GEO_PT_STAT_CONF_OPEN p) c.confO
    if c.stop.isSome then s.putB (F.GEO_PT_STAT_CONF_CLOSE p) c.confC else s

/-- Channel `n` follows in a pair (R372). -/
def State.solFollows (s : State) (n : Nat) : Bool := n % 2 == 1 && s.flag (F.SOL_CH_CFG_PAIR (n - 1))

/-- Channel `n` is present: its personality has it and its die passed its self-test (R3, R399). -/
def State.solHere (s : State) (n : Nat) : Bool := decide (n < s.nSol) && !(decide (48 ≤ n) && s.dieBFail)

/-- Die `d` and bank `b` are present: a failed die B and its banks behave as absent (R25, R399). -/
def State.dieHere (s : State) (d : Nat) : Bool := decide (d < s.nDie) && !(decide (1 ≤ d) && s.dieBFail)
def State.bankHere (s : State) (b : Nat) : Bool := decide (b < s.nBank) && !(decide (6 ≤ b) && s.dieBFail)

/-- Sensing is available on channel `n` (R410). -/
def State.armSense (s : State) (n : Nat) : Bool :=
  let m := s.get (F.SOL_CH_CFG_MODE n)
  s.runs .arm && s.solHere n && s.flag (F.ARM_CH_CTRL_EN n) && (m == 1 || m == 2) && !s.solFollows n &&
  !(s.armCh.get n).fail

/-- CONF of channel `n` is at least CONF_MIN (R417, R431). -/
def State.armOk (s : State) (n : Nat) : Bool := decide (s.get F.ARM_CFG_CONF_MIN ≤ s.get (F.ARM_CH_CONF_CONF n))

/-- Switch `k` has end-of-travel detection (R421), the ARM block running (R425). -/
def State.eotSense (s : State) (k : Nat) : Bool := s.runs .arm && s.get (F.ARM_SW_CFG_SRC k) != 0

/-- CONF of switch `k` is at least CONF_MIN. -/
def State.eotOk (s : State) (k : Nat) : Bool := decide (s.get F.ARM_CFG_CONF_MIN ≤ s.get (F.ARM_SW_STAT_CONF k))

/-- The binding word of a point as its registers hold it: GEO_PT_BIND, or STR_SP_CTRL of a remote point. -/
def State.bindReg (s : State) (p : Nat) : Nat := s.nat (if p < 128 then R.GEO_PT_BIND p else R.STR_SP_CTRL (p - 128))

/-- KIND and INST of a local point's binding word (R314). -/
def bindKind (w : Nat) : Nat := w / 2 ^ 30 % 4
def bindInst (w : Nat) : Nat := w / 2 ^ 16 % 256

/-- The binding of the crossing in progress, or that the next one would have (R274). -/
def State.crossBind (s : State) (p : Nat) : Nat := if (s.cross p).cross = 0 then s.bindReg p else (s.cross p).bind

/-- The sensing of the output of binding `w` is unavailable, its confidence is below CONF_MIN, or it is a CAN field (R42,
R296). A remote point waits for its report (R349). -/
def State.ptBlind (s : State) (p w : Nat) : Bool :=
  if 128 ≤ p then false
  else
    let i := bindInst w
    match bindKind w with
    | 1 => !s.armSense i || !s.armOk i
    | 2 => !s.eotSense i || !s.eotOk i
    | _ => true

/-- As `ptBlind` for a closing: with SRC = STALL the closing direction of a switch has no sensing (R422). -/
def State.ptBlindClose (s : State) (p w : Nat) : Bool :=
  s.ptBlind p w || (decide (p < 128) && bindKind w == 2 && s.get (F.ARM_SW_CFG_SRC (bindInst w)) == 1)

/-- The confirmation wait of a point in ms (R296). -/
def State.ptWait (s : State) (p : Nat) : Nat :=
  let w := s.crossBind p
  let i := bindInst w
  if p < 128 ∧ bindKind w = 2 ∧ s.get (F.ARM_SW_CFG_SRC i) ≠ 0 then s.get (F.ARM_SW_CFG_EOT_T i)
  else s.get F.GEO_CONF_WAIT_CONF_WAIT

/-- The start is taken as inferred (R296). -/
def GeoCross.inferOpen (c : GeoCross) : GeoCross :=
  { c with start := c.tc + (c.latO + c.hydO) * usec, known := true, infO := true, cross := if c.cross = 1 then 2 else c.cross }

/-- The end is taken as inferred (R296). -/
def GeoCross.inferClose (c : GeoCross) : GeoCross :=
  { c with stop := some (c.tk + (c.latC + c.hydC) * usec), infC := true }

/-- An open command for the output of binding `w` is executed at tag `tc` (R296, R297). -/
def State.geoOpen (s : State) (p tc lat hyd w : Nat) : State :=
  if !s.runs .geo then s
  else
    let c := s.cross p
    let s := if c.cross = 3 then
        let c := if c.stop.isNone then c.inferClose else c
        s.modGeo (fun g => { g with tails := g.tails ++ [(p, c)] })
      else s
    let n : GeoCross := { (default : GeoCross) with
      cross := 1, id := s.geo.ids, layer := s.ptLayer p, bind := w, tc := tc, latO := lat, hydO := hyd }
    let n := if s.ptBlind p w then n.inferOpen else n
    let s := s.when (c.cross == 3 && decide (p < 128)) (fun s => s.putB (F.GEO_PT_STAT_CONF_CLOSE p) c.confC)
    if c.cross = 1 ∨ c.cross = 2 then s
    else ((s.modGeo (fun g => { g with ids := g.ids + 1 })).modCross p (fun _ => n)).crossShow p

/-- An opening is confirmed at instant `t` (R296): also of a crossing that has been told to close before its start was known,
since a confirmed state writes wherever there is one (R42; log entry 802). -/
def State.geoOpened (s : State) (p t : Nat) : State :=
  if (s.cross p).cross = 0 ∨ (s.cross p).known then s
  else (s.modCross p (fun c => { c with start := t + c.hydO * usec, known := true, infO := false, confO := true
                                        cross := if c.cross = 1 then 2 else c.cross })).crossShow p

/-- A close command is executed at tag `tk` (R296). -/
def State.geoClose (s : State) (p tk lat hyd : Nat) : State :=
  let c := s.cross p
  if !s.runs .geo || !(c.cross == 1 || c.cross == 2) then s
  else
    let c := { c with cross := 3, tk := tk, latC := lat, hydC := hyd }
    let c := if s.ptBlindClose p c.bind then c.inferClose else c
    (s.modCross p (fun _ => c)).crossShow p

/-- A closing is confirmed at instant `t` (R296). -/
def State.geoClosed (s : State) (p t : Nat) : State :=
  if (s.cross p).cross ≠ 3 then s
  else (s.modCross p (fun c => { c with stop := some (t + c.hydC * usec), infC := false, confC := true })).crossShow p

/-- The confirmation wait of a point may have expired (R296). -/
def State.geoWait (s : State) (p : Nat) : State :=
  let c := s.cross p
  let w := s.ptWait p * msec
  let s := if c.cross ≠ 0 ∧ !c.known ∧ c.tc + w ≤ s.now then (s.modCross p GeoCross.inferOpen).crossShow p else s
  if c.cross = 3 ∧ c.stop.isNone ∧ c.tk + w ≤ s.now then (s.modCross p GeoCross.inferClose).crossShow p
  else s

/-! ## Chunks (R301 to R305) -/

/-- Chunks are collected (R301). -/
def State.chunking (s : State) : Bool := s.flag F.GEO_CHUNK_CFG_EN && s.geo.opened.isSome

/-- The bytes of a record (R303). -/
def recBytes (t0 : Nat) (r : GeoRec) : List Byte :=
  let duty := match r.duty with | none => 255 | some (d, n) => (divOpen 304 d (5 * n : Nat)).toNat
  leBytes 1 r.pt ++ leBytes 1 r.flags ++ leBytes 1 (r.pq * 16 + r.layer) ++ leBytes 1 duty ++
  leBytes 4 (r.tStart - t0) ++ leBytes 4 (r.tEnd - t0) ++
  leBytes 4 (code 32 r.s.1) ++ leBytes 4 (code 32 r.s.2) ++ leBytes 4 (code 32 r.e.1) ++ leBytes 4 (code 32 r.e.2)

/-- MAXREC, the most records that a chunk holds (R301). -/
def State.maxRec (s : State) : Nat := max 1 (s.get F.GEO_CHUNK_CFG_MAXREC)

/-- The header payload of the open chunk (R302). -/
def State.chunkHead (s : State) (t0 : Nat) (disabled : Bool) : List Byte :=
  let g := s.geo
  leBytes 8 t0 ++ leBytes 8 s.now ++ leBytes 4 (s.nat R.GEO_CHUNK_SEQ) ++ leBytes 4 (s.nat R.PWR_PCYC) ++
  leBytes 8 (s.nat64 R.GEO_MAP_ORG_LAT_LO) ++ leBytes 8 (s.nat64 R.GEO_MAP_ORG_LON_LO) ++
  leBytes 4 g.cells ++ leBytes 4 g.ovl ++ leBytes 4 g.excl ++ leBytes 2 (min g.recs.length s.maxRec) ++
  leBytes 1 (128 * bit g.lostRec + 64 * bit disabled + 16 * s.get F.GEO_MAP_CFG_NLM1 + s.get F.GEO_MAP_CFG_CS) ++
  leBytes 1 (s.get F.SYS_LINK_MODE_ADDR)

/-- The crossing number `id` is still going on. -/
def State.crossGoes (s : State) (id pt : Nat) : Bool :=
  ((s.cross pt).cross != 0 && (s.cross pt).id == id) || s.geo.tails.any (fun t => t.2.id == id && t.1 == pt)

/-- The open chunk closes (R301, R305): records of crossings that go on carry CONT_OUT. Records that it cannot hold are the first
of the next chunk. -/
def State.chunkClosed (s : State) (disabled : Bool) : State :=
  match s.geo.opened with
  | none => s
  | some t0 =>
    let rest := s.geo.recs.drop s.maxRec
    let recs := (s.geo.recs.take s.maxRec).map (fun r => if s.crossGoes r.id r.pt && !disabled then { r with flags := r.flags ||| 32 } else r)
    let cont := recs.filter (fun r => nbit r.flags 5)
    let s := s.each cont (fun s r => s.modGeo (fun g =>
      { g with points := g.points.modify r.pt (fun c => { c with cont := c.cont || c.id == r.id })
               tails := g.tails.map (fun t => if t.2.id = r.id then (t.1, { t.2 with cont := true }) else t) }))
    let fresh (g : GeoState) : GeoState :=
      { g with opened := if (disabled || !s.flag F.GEO_CHUNK_CFG_EN) && rest.isEmpty then none else some s.now, openAt := s.clk
               recs := rest, cells := 0, ovl := 0, excl := 0 }
    if 2 ≤ s.geo.chunks.length then
      (s.count F.GEO_CNT_RECLOST recs.length).modGeo (fun g => { fresh g with lostRec := g.lostRec || !recs.isEmpty })
    else
      let c : GeoChunk := ⟨s.chunkHead t0 disabled, recs, t0, false, 0⟩
      (s.setNat R.GEO_CHUNK_SEQ (s.nat R.GEO_CHUNK_SEQ + 1)).modGeo
        (fun g => { fresh g with chunks := g.chunks ++ [c], lostRec := false })

/-- The open chunk closes while it is full, or until no record is left where `disabled` (R301); `k` bounds how often. -/
def State.chunkFull (s : State) (disabled : Bool) : Nat → State
  | 0 => s
  | k + 1 =>
    if s.geo.opened.isSome && (decide (s.maxRec ≤ s.geo.recs.length) || (disabled && !s.geo.recs.isEmpty))
    then (s.chunkClosed disabled).chunkFull disabled k else s

/-- The record entries of a chunk, two records each (R302). -/
def recEntries (t0 : Nat) : List GeoRec → List LaneEntry
  | [] => []
  | [a] => [⟨0x92, 1, recBytes t0 a⟩]
  | a :: b :: t => ⟨0x92, 2, recBytes t0 a ++ recBytes t0 b⟩ :: recEntries t0 t

/-- The header and record entries of a chunk. -/
def GeoChunk.entries (c : GeoChunk) : List LaneEntry := ⟨0x91, c.recs.length, c.head⟩ :: recEntries c.t0 c.recs

/-- The bytes that Keystone signs: bytes 2 and 4 to 63 of each of those entries (R304). -/
def GeoChunk.signedBytes (c : GeoChunk) : List Byte :=
  c.entries.flatMap (fun e => BitVec.ofNat 8 e.type :: (leBytes 4 e.aux ++ padTo 56 e.payload))

/-- A signed chunk of which LANE2 no longer waits for any entry is forgotten; it is announced where its last entry is in
LANE2, and not where that entry was dropped (R304, R305). -/
def State.chunkSettle (s : State) : State :=
  let over' : GeoChunk → Bool := fun c => c.signed && !s.laneHolds 2 c.msgEnd
  let n := (s.geo.chunks.filter over').length
  let s := s.modGeo (fun g => { g with chunks := g.chunks.filter (fun c => !over' c) })
  if (s.lanes.get 2).lostBefore then s else s.each (List.range n) (fun s _ => s.raise 103)

/-- The oldest unsigned chunk has its signature (r, s) and goes to LANE2 (R302, R664). -/
def State.chunkSend (s : State) (sig : BitVec 512) : State :=
  match s.geo.chunks.find? (fun c => !c.signed) with
  | none => s
  | some c =>
    let b := leBytes 64 sig.toNat
    let m := c.entries ++ [⟨0x93, 0, b.take 32⟩, ⟨0x94, 0, b.drop 32⟩]
    let e := s.laneEnd 2 m.length
    let s := s.laneProduce 2 m
    (s.modGeo (fun g => { g with chunks := g.chunks.map (fun x => if x = c then { x with signed := true, msgEnd := e } else x) })).chunkSettle

/-! ## Coverage writes (R298 to R300) -/

/-- What a strip did: cells newly applied, overlapped and excluded, and whether part of it fell in a tile that is not
resident, or off map. -/
structure Sweep where
  cells : Nat
  ovl   : Nat
  excl  : Nat
  miss  : Bool
  off   : Bool
  deriving DecidableEq, Repr, Inhabited

/-- One cell of a strip (R298, R299). -/
def State.coverCell (layer : Nat) (r : State × Sweep) (c : Int × Int) : State × Sweep :=
  let s := r.1
  let w := r.2
  let t := tileOf c
  match (if s.inExtent t.1 t.2 then s.slotOf [2] t.1 t.2 else none) with
  | none => (s, if s.inExtent t.1 t.2 then { w with miss := true } else { w with off := true })
  | some k =>
    let i := cellCol c
    let j := cellRow c
    match s.cellIn k layer i j with
    | 1 => (s, { w with ovl := w.ovl + 1 })
    | 2 => (s, { w with excl := w.excl + 1 })
    | _ =>
      ((s.putCell k layer i j 1).modSlot k (fun e => { e with dirty := true, last := s.now }), { w with cells := w.cells + 1 })

/-- A strip's cells are written and counted (R298, R299). -/
def State.cover (s : State) (p layer : Nat) (a b : (Int × Int) × (Int × Int)) : State × Sweep :=
  let r := (stripCells s.geoCS a.1 a.2 b.1 b.2).foldl (State.coverCell layer) (s, default)
  let s := r.1
  let w := r.2
  let s := if p < 128 then
      ((s.count (F.GEO_PT_CELLS p) w.cells).count (F.GEO_PT_OVL p) w.ovl).count (F.GEO_PT_EXCL p) w.excl
    else s
  let s := if s.chunking then
      s.modGeo (fun g => { g with cells := g.cells + w.cells, ovl := g.ovl + w.ovl, excl := g.excl + w.excl }) else s
  let bad := w.miss || w.off
  let s := if bad then (s.count F.GEO_CNT_MISSW 1).put ⟨H.sticky .geo, 1, 1⟩ 1 else s
  ((s.raiseIf w.miss 97).raiseIf w.off 102, w)

/-- The duty of a point that runs nozzle PWM, in 0.1 %. -/
def State.ptDuty (s : State) (p : Nat) : Option Nat :=
  let i := bindInst (s.crossBind p)
  if bindKind (s.crossBind p) = 1 ∧ s.get (F.SOL_CH_CFG_MODE i) = 2 then some (s.get (F.SOL_CH_DUTY_DUTY i)) else none

/-- The sum of duties with one more. -/
def addDuty (d : Option (Nat × Nat)) (x : Option Nat) : Option (Nat × Nat) :=
  match d, x with
  | some (a, n), some b => some (a + b, n + 1)
  | none, some b => some (b, 1)
  | d, none => d

/-- The strip from `t0` to `t1` enters the record of the point in the open chunk (R299, R301, R303); `extra` are flag bits.
What an earlier chunk holds of it is not recorded again. One record holds the strips of every crossing of the point on
one layer: CONF_CLOSE is that of the latest, the other flags those of any (log entry 808). A record more than a chunk holds waits for
the next chunk (log entry 813). -/
def State.chunkNote (s : State) (p : Nat) (c : GeoCross) (t0 t1 extra : Nat) : State :=
  let t0 := max t0 c.noted
  if !s.chunking || 128 ≤ p || t1 ≤ t0 then s
  else
    let q := (s.geo.poses.head?.getD default).q
    let flags := extra ||| 16 * bit c.cont ||| 8 * bit (q == 1) ||| 4 * bit (c.infO || c.infC) ||| 2 * bit c.confC ||| bit c.confO
    let e := s.centreAt p t1
    if s.geo.recs.any (fun r => r.pt == p && r.layer == c.layer) then
      s.modGeo (fun g => { g with recs := g.recs.map (fun r => if r.pt ≠ p ∨ r.layer ≠ c.layer then r else
        { r with id := c.id, flags := (if r.id = c.id then r.flags else r.flags &&& 0xFD) ||| flags, pq := min r.pq q
                 duty := addDuty r.duty (s.ptDuty p), tEnd := t1, e := e }) })
    else
      let r : GeoRec := { pt := p, id := c.id, flags := flags, pq := q, layer := c.layer, duty := addDuty none (s.ptDuty p)
                          tStart := t0, tEnd := t1, s := s.centreAt p t0, e := e }
      s.modGeo (fun g => { g with recs := g.recs ++ [r] })

/-- The strip of one crossing at geometry update `u` (R278, R296): the state, and the crossing after it. -/
def State.sweep (s : State) (p : Nat) (c : GeoCross) (u : Nat) : State × GeoCross :=
  if !c.known ∨ (c.cross ≠ 2 ∧ c.cross ≠ 3) then (s, c)
  else
    let limit := match c.stop with | some e => e | none => c.tk + c.hydC * usec
    let upto := if c.cross = 2 then u else min u limit
    let t0 := max c.start c.written
    let w := { c with written := max upto c.written }
    let over' := c.cross == 3 && (match c.stop with | some e => decide (e ≤ w.written) | none => false)
    let w' := if over' then { w with cross := 0 } else w
    if upto ≤ t0 then (s, w')
    else if (s.geo.poses.head?.getD default).q = 0 then (s.chunkNote p c t0 upto 64, w')
    else match s.segAt p t0, s.segAt p upto with
      | some a, some b =>
        let r := s.cover p c.layer a b
        let s := r.1.chunkNote p c t0 upto (if r.2.miss || r.2.off then 128 else 0)
        let inf := (c.infO && t0 == c.start) || (c.infC && some upto == c.stop)
        (s.raiseIf inf 101, w')
      | _, _ => (s, w')

/-- The strip of point `p`'s crossing. -/
def State.sweepPoint (u : Nat) (s : State) (p : Nat) : State :=
  if (s.cross p).cross = 0 then s
  else
    let s := s.geoWait p
    let r := s.sweep p (s.cross p) u
    let id := (s.cross p).id
    (r.1.modCross p (fun c => if c.id = id then { r.2 with cont := c.cont || r.2.cont } else c)).crossShow p

/-- The strips of crossings that a new open command ended (R297): one whose start is still unknown waits for it. -/
def State.sweepTails (s : State) (u : Nat) : State :=
  s.each s.geo.tails (fun s t =>
    let c := if !t.2.known ∧ t.2.tc + s.ptWait t.1 * msec ≤ s.now then t.2.inferOpen else t.2
    let r := s.sweep t.1 c u
    r.1.modGeo (fun g => { g with tails := g.tails.filterMap (fun x =>
      if x.2.id ≠ t.2.id then some x else if r.2.cross = 0 then none else some (t.1, { r.2 with cont := x.2.cont || r.2.cont })) }))

/-- The records of crossings in progress reach up to the present instant, where a chunk closes between two updates: a
crossing is split at the boundary (R301). -/
def State.chunkSplit (s : State) : State :=
  let upto (c : GeoCross) : Nat := if c.cross = 2 then s.now else min s.now (c.stop.getD (c.tk + c.hydC * usec))
  let note (s : State) (p : Nat) (c : GeoCross) : State :=
    if c.known ∧ (c.cross = 2 ∨ c.cross = 3) then s.chunkNote p c (max c.start c.written) (upto c) 0 else s
  let mark (c : GeoCross) : GeoCross := if c.known then { c with noted := max c.noted (upto c) } else c
  let s := s.each s.geo.tails (fun s t => note s t.1 t.2)
  let s := s.each (List.range 128) (fun s p => if (s.cross p).cross = 0 then s else note s p (s.cross p))
  let s := s.modGeo (fun g => { g with tails := g.tails.map (fun t => (t.1, mark t.2)) })
  s.each (List.range 128) (fun s p => if (s.cross p).cross = 0 then s else s.modCross p mark)

/-- The open chunk closes at the present instant (R301, R305). -/
def State.chunkShut (s : State) (disabled : Bool) : State :=
  ((s.when s.chunking State.chunkSplit).chunkClosed disabled).chunkFull disabled 64

/-! ## The geometry update -/

/-- The projection of local point `p` (R276, R278). -/
def State.projectPoint (g : GeoPose) (s : State) (p : Nat) : State :=
  let s := s.put (F.GEO_PT_STAT_PQ p) g.q
  if !s.ptOn p || g.q == 0 then (s.put (F.GEO_PT_STAT_VALID p) 0).put (F.GEO_PT_STAT_OFFMAP p) 0
  else
    let c := s.ptAt p g
    let off := s.ptOff p g
    let s := (s.put (F.GEO_PT_STAT_VALID p) 1).putB (F.GEO_PT_STAT_OFFMAP p) off
    let s := s.putFit ⟨R.GEO_PT_GE p, 0, 32⟩ (divOpen 276 c.1 1000)
    (s.putFit ⟨R.GEO_PT_GN p, 0, 32⟩ (divOpen 276 c.2 1000)).raiseIf off 102

/-- The geometry update of GEO at the present tag (R276, R285, R296, R301, R306). The first chunk opens with the first update
that finds EN = 1, and the needed set of an update without a pose is that of the last one with a pose (log entry 807). -/
def State.geoUpdate (s : State) : State :=
  let g := s.geoPose
  let s := s.fenceSwap
  let s := s.takeShapes.modGeo (fun x => { x with
    poses := (g :: x.poses).take 32768, posed := if g.q = 0 then x.posed else some g })
  let s := if g.q = 0 then s.count F.GEO_CNT_NOPOSE 1 else s
  let s := s.each (List.range 128) (State.projectPoint g)
  let s := s.sweepTails s.now
  let s := s.each (List.range 1024) (State.sweepPoint s.now)
  let s := s.when s.chunking (fun s => s.chunkFull false 64)
  let s := if s.flag F.GEO_CHUNK_CFG_EN && s.geo.opened.isNone then
      s.modGeo (fun x => { x with opened := some s.now, openAt := s.clk, recs := [], cells := 0, ovl := 0, excl := 0 }) else s
  match s.geo.posed with
  | some p => s.askTiles p
  | none => s

/-! ## The host, lost pages and the block as a whole -/

/-- Where a map window address lies: the slot and the offset in it, for a resident slot's layers (R282). -/
def State.mapPlace (s : State) (a : Nat) : Option Nat :=
  let o := a - dramBase
  let k := o / s.slotBytes
  if k < s.get F.GEO_MAP_CFG_NSLOT ∧ (s.geo.slots.get k).st = 2 ∧ o % s.slotBytes < s.geoNL * 16384 then some k else none

/-- A host read of the map window (R282). -/
def State.mapRead (s : State) (a : Nat) : Word := match s.mapPlace a with | some _ => s.dram a | none => 0

/-- A host write of the map window: none where it is refused with ERR DENIED (R282). -/
def State.mapWrite (s : State) (a : Nat) (mask w : Word) : Option State :=
  match s.mapPlace a with
  | none => none
  | some k => some ((s.setDram a ((s.dram a &&& ~~~mask) ||| (w &&& mask))).modSlot k (fun e => { e with dirty := true, last := s.now }))

/-- The 4 KB page at `a` of the map window is lost (R300): its cells read 0b11, and fence planes are rebuilt. -/
def State.mapPageLost (s : State) (a : Nat) : State :=
  let k := (a - dramBase) / s.slotBytes
  let o := (a - dramBase) % s.slotBytes
  if (s.geo.slots.get k).st = 0 ∨ (s.geo.slots.get k).st = 3 then s
  else
    let s := s.each (List.range 4096) (fun s i => if o + i < s.geoNL * 16384 then s.setByte (a + i) 0xFF else s)
    let s := if s.geoNL * 16384 < o + 4096 then
        let p := s.get F.GEO_MAP_STAT_PLANE
        (s.raster k p s.geo.fences).raster k (1 - p) (if s.flag F.GEO_MAP_STAT_FENCE_BUSY || s.geo.swap then s.geo.next else s.geo.fences)
      else s
    if o < s.geoNL * 16384 then
      ((s.raise 100).put ⟨H.sticky .geo, 0, 1⟩ 1).modSlot k (fun e => { e with dirty := true, lost := true })
    else s

/-- ENABLE of GEO goes from 1 to 0 (R306): requests held by a full LANE4 are discarded and counted, LANE3's entries are
consumed and counted, open crossings end at the last update, and the open chunk closes with DISABLED = 1. What was requested
waits for REQ_RETRY as before (R286). -/
def State.geoDisable (s : State) : State :=
  let held := (s.lanes.get 4).held
  let asks := held.filter (fun h => h.bytes.getD 0 0 == 0x82)
  let s := { s with lanes := s.lanes.modify 4 (fun l => { l with held := held.filter (fun h => h.bytes.getD 0 0 != 0x82) }) }
  let s := s.count F.GEO_DISC asks.length
  let n := if s.laneIn 3 then s.laneLevel 3 else 0
  let s := if s.laneIn 3 then s.put (F.LANE_TAIL_TAIL 3) (s.get (F.LANE_HEAD_HEAD 3)) else s
  let s := (s.count F.GEO_DISC n).dropLoad
  let s := s.modGeo (fun g => { g with tails := []
                                       recs := g.recs.map (fun r =>
    let c := g.points.get r.pt
    if (c.id = r.id ∧ c.cross ≠ 0 ∧ c.stop.isNone) ∨ g.tails.any (fun t => t.1 == r.pt && t.2.infC) then
      { r with flags := r.flags ||| 4 } else r) })
  let s := s.each (List.range 1024) (fun s p =>
    if (s.cross p).cross = 0 then s
    else
      let s := s.when (decide (p < 128)) (fun s => s.putB (F.GEO_PT_STAT_CONF_CLOSE p) (s.cross p).confC)
      (s.modCross p (fun c => { c with cross := 0, infC := c.infC || c.stop.isNone })).crossShow p)
  let s := s.chunkShut true
  s.each (List.range 128) (fun s p => s.put (F.GEO_PT_STAT_VALID p) 0)

/-- GEO_SUMMARY (R309). -/
def State.geoSummary (s : State) : Nat :=
  s.residents.length % 16384 * 2 ^ 16 + ((List.range 128).filter s.ptOn).length % 256 * 2 ^ 8 +
  ((List.range 128).filter (fun p => (s.cross p).cross != 0)).length % 256

/-! ## The commands -/

/-- TILE_LOAD_ENTRY (R287 to R289). -/
def execTileLoadEntry (s : State) : Answer := .next s.tileLoad

/-- FENCE_RASTER_DONE (R295). -/
def execFenceRasterDone (s : State) : Answer := .next s.fenceRaster

/-- CONFIRM_WAIT_EXPIRY (R296). -/
def execConfirmWaitExpiry (p : Fin 1024) (s : State) : Answer := .next (if s.runs .geo then s.geoWait p.val else s)

/-- CHUNK_CLOSE (R301): CHUNK_T after the chunk opened. -/
def execChunkClose (s : State) : Answer :=
  .next (if s.runs .geo && s.geo.opened.isSome && s.passed s.geo.openAt (s.get F.GEO_CHUNK_CFG_CHUNK_T * msec) then s.chunkShut false else s)

end Sys2Proof.Machine
end

