-- ==== Sys2Proof/Machine/Arm.lean ====
section
/-! DEFINITION. The ARM block: sensing windows, latency learning, end of travel and boost adaptation (R408 to R433). -/

namespace Sys2Proof.Machine

open Sys2Proof

def State.modArm (s : State) (n : Nat) (f : ArmCh → ArmCh) : State := { s with armCh := s.armCh.modify n f }
def State.modSw (s : State) (k : Nat) (f : ArmSw → ArmSw) : State := { s with armSw := s.armSw.modify k f }
def State.modDie (s : State) (d : Nat) (f : ArmDie → ArmDie) : State := { s with armDie := s.armDie.modify d f }

/-! ## Whom a window's outcome is reported to -/

/-- The binding of a point's crossing, or of its ON that has not started, or of its registers (R274). -/
def State.outBind (s : State) (p : Nat) : Nat :=
  if (s.cross p).cross ≠ 0 then (s.cross p).bind else if (s.pt p).planOn then (s.pt p).bind else s.bindReg p

/-- The local points bound to an output: KIND 1 a solenoid channel, 2 a load switch (R272). -/
def State.pointsOf (s : State) (kind inst : Nat) : List Nat :=
  (List.range 128).filter (fun p => bindKind (s.outBind p) == kind && bindInst (s.outBind p) == inst)

/-- The report entry of a satellite (R348): `kind` 1 a solenoid channel, 2 a load switch; `what` the report's code. -/
def State.satReport (s : State) (kind inst what t start : Nat) : State :=
  if !s.isSat || !s.laneOut 11 then s
  else
    let ok := if kind = 1 then s.armSense inst && s.armOk inst else s.eotSense inst && s.eotOk inst
    let lo := if kind = 1 then s.get (F.ARM_CH_LAT_LO inst) else s.get (F.ARM_SW_EST_LO inst)
    let lc := if kind = 1 then s.get (F.ARM_CH_LAT_LC inst) else s.get (F.ARM_SW_EST_LC inst)
    s.laneProduce 11 [⟨0xA2, 0, leBytes 1 (s.get F.SYS_LINK_MODE_ADDR) ++ leBytes 1 ((kind - 1) * 128 + inst) ++
      leBytes 1 what ++ leBytes 1 (bit ok) ++ leBytes 8 t ++ leBytes 8 start ++ leBytes 2 lo ++ leBytes 2 lc⟩]

/-- The start instant of the last LANE10 command of an output (R348). -/
def State.satStart (s : State) (kind inst : Nat) : Nat := s.str.satLast.get ((kind - 1) * 128 + inst)

/-- A confirmed opening or closing of an output, by the command that started at `start`, is reported to GEO, or by a satellite to
its lead (R296, R348). -/
def State.confirm (s : State) (kind inst : Nat) (closing : Bool) (t start : Nat) : State :=
  let s := s.each (s.pointsOf kind inst) (fun s p => if closing then s.geoClosed p t else s.geoOpened p t)
  s.satReport kind inst (if closing then 2 else 1) t start

/-- A window ended without confirmation: a satellite reports it, with the start of the command reported on (R348). -/
def State.unconfirm (s : State) (kind inst : Nat) (closing : Bool) (start : Nat) : State :=
  s.satReport kind inst (if closing then 4 else 3) start start

/-! ## Learning (R416 to R418) -/

/-- The condition factor f, times 1,000,000, for a voltage difference in 10 mV and a temperature in 0.1 °C. -/
def condFactor (kv kt dv t : Int) : Int := clamp 500000 2000000 (1000000 + kv * dv + kt * (t - 200))

/-- The coil temperature of channel `n` in 0.1 °C (R416). -/
def State.coilTemp (s : State) (n : Nat) : Int :=
  let r20 := s.get ⟨R.ARM_CH_R20 n, 0, 16⟩
  let a := s.armCh.get n
  if r20 = 0 || !a.holdAny || decide (a.holdClk + 60 * second < s.clk) then s.gets ⟨R.SOL_DIE_TJ (n / 48), 0, 16⟩
  else
    let r : Int := s.get (F.ARM_CH_COND_RES n)
    clamp (-400) 2000 (200 + divOpen 416 ((r - r20) * 1000000) (393 * (r20 : Int)))

/-- The factor of channel `n` in a direction: openings at VBOOST's target, closings at VBANK in 10 mV (R417). -/
def State.armFactor (s : State) (n : Nat) (closing : Bool) (vbank : Nat) : Int :=
  if closing then
    condFactor (s.gets ⟨R.ARM_CH_COMP_C n, 0, 16⟩) (s.gets ⟨R.ARM_CH_COMP_C n, 16, 16⟩) ((vbank : Int) - 10 * (s.get F.ARM_REF_VREF_C : Nat))
      (s.coilTemp n)
  else
    condFactor (s.gets (F.ARM_CH_COMP_O_KV n)) (s.gets (F.ARM_CH_COMP_O_KT n))
      (10 * ((s.get (F.SOL_DIE_VB_TGT (n / 48)) : Int) - s.get F.ARM_REF_VREF_O)) (s.coilTemp n)

/-- VBANK of a channel's bank in 10 mV. -/
def State.vbank (s : State) (n : Nat) : Nat := s.sense (F.SOL_BANK_STAT_VBANK (n / 8))

/-- The estimate, confidence, drift run and miss run of a direction. -/
structure Learned where
  est   : Nat
  conf  : Nat
  drift : Nat
  miss  : Nat
  deriving DecidableEq, Repr

/-- A learnable measurement `m` (reference conditions) enters a direction (R417); also whether LAT_DRIFT is raised. -/
def State.learn (s : State) (x : Learned) (m : Nat) : Learned × Bool :=
  if x.conf = 0 then ({ x with est := m, conf := 1, miss := 0 }, false)
  else
    let d := (m : Int) - x.est
    let top : Int := s.get F.ARM_DRIFT_STEP_MAX
    let step := clamp (-top) top (divNear 417 d (2 ^ s.get F.ARM_CFG_ALPHA : Nat))
    let est := ((x.est : Int) + step).toNat
    if d.natAbs * 100 ≤ s.get F.ARM_DRIFT_DRIFT * x.est then
      ({ est := est, conf := min (x.conf + 1) 255, drift := 0, miss := 0 }, false)
    else if x.drift + 1 = s.get F.ARM_CFG_DRIFT_N then ({ est := est, conf := x.conf - 2, drift := 0, miss := 0 }, true)
    else ({ est := est, conf := x.conf - 2, drift := x.drift + 1, miss := 0 }, false)

/-- The fields of a direction of a channel. -/
def armEst (n : Nat) (c : Bool) : Fld := if c then F.ARM_CH_EST_LC n else F.ARM_CH_EST_LO n
def armConf (n : Nat) (c : Bool) : Fld := if c then F.ARM_CH_CONF_CONF_C n else F.ARM_CH_CONF_CONF_O n
def armDrift (n : Nat) (c : Bool) : Fld := if c then F.ARM_CH_RUN_DRIFTC n else F.ARM_CH_RUN_DRIFTO n
def armMiss (n : Nat) (c : Bool) : Fld := if c then F.ARM_CH_RUN_MISSC n else F.ARM_CH_RUN_MISSO n
def armStuck (n : Nat) (c : Bool) : Fld := if c then F.ARM_CH_STAT_STUCK_OPEN n else F.ARM_CH_STAT_STUCK_SHUT n
def armBound (n : Nat) (c : Bool) : Fld := if c then F.ARM_CH_STAT_BOUND_C n else F.ARM_CH_STAT_BOUND_O n
def armRes (n : Nat) (c : Bool) : Fld := if c then F.ARM_CH_STAT_CLOSE_RES n else F.ARM_CH_STAT_OPEN_RES n
def armLast (n : Nat) (c : Bool) : Fld := if c then F.ARM_CH_LAST_LC n else F.ARM_CH_LAST_LO n

/-- A direction of channel `n`. -/
def State.learned (s : State) (n : Nat) (c : Bool) : Learned :=
  ⟨s.get (armEst n c), s.get (armConf n c), s.get (armDrift n c), s.get (armMiss n c)⟩

/-- The confidence of a direction changes, and CONF with it: CONF_LOW, CONF_OK (R417). -/
def State.setConf (s : State) (n : Nat) (c : Bool) (v : Nat) : State :=
  let was := s.armOk n
  let s := s.put (armConf n c) v
  let s := s.put (F.ARM_CH_CONF_CONF n) (min (s.get (F.ARM_CH_CONF_CONF_O n)) (s.get (F.ARM_CH_CONF_CONF_C n)))
  (s.raiseIf (was && !s.armOk n) 164).raiseIf (!was && s.armOk n) 165

/-- A direction of channel `n` after learning: the estimate is clamped to its bounds unless both are 0 (R417, R430). -/
def State.setLearned (s : State) (n : Nat) (c : Bool) (x : Learned) : State :=
  let lo := s.get (F.ARM_CH_BOUND_LAT_MIN n)
  let hi := s.get (F.ARM_CH_BOUND_LAT_MAX n)
  let e := if lo = 0 ∧ hi = 0 then x.est else max lo (min hi x.est)
  let hit := decide (e ≠ x.est)
  let s := ((s.putSat (armEst n c) e).put (armDrift n c) x.drift).put (armMiss n c) x.miss
  ((s.putB (armBound n c) hit).raiseIf hit 169).setConf n c x.conf

/-- A confirmed measurement on channel `n` of `m` counts of 1/16 µs, made at `t` (R413, R415, R417). -/
def State.armConfirmed (s : State) (n : Nat) (c : Bool) (t m : Nat) (skip : Bool) (vbank : Nat) : State :=
  let us := (divNear 418 m 16).toNat
  let s := ((s.put (armRes n c) 1).put (armLast n c) (min us 0xFFFF)).put (armStuck n c) 0
  let s := s.putB (F.ARM_CH_STAT_LEARN_SKIP n) skip
  let s := if skip then s.put (armMiss n c) 0
    else
      let r := s.learn (s.learned n c) (divNear 419 ((us : Int) * 1000000) (s.armFactor n c vbank)).toNat
      (s.setLearned n c r.1).raiseIf r.2 163
  s.confirm 1 n c t (s.satStart 1 n)

/-- A window of channel `n` that ends without a signature (R413, R417). -/
def State.armMissed (s : State) (n : Nat) (c : Bool) : State :=
  let s := (s.put (armRes n c) 2).put (armLast n c) 0xFFFF
  let s := s.count (if c then F.ARM_CNT_MISS_CLOSE else F.ARM_CNT_MISS_OPEN) 1
  let miss := s.get (armMiss n c) + 1
  let s := (s.putSat (armMiss n c) miss).setConf n c (s.get (armConf n c) / 2)
  let s := s.raiseIf (miss == 1) (if c then 162 else 161)
  let s := if miss = s.get F.ARM_CFG_MISS_N then
      ((s.put (armStuck n c) 1).raise (if c then 166 else 167)).put ⟨H.sticky .arm, 0, 1⟩ 1
    else s
  s.unconfirm 1 n c (s.satStart 1 n)

/-! ## Windows (R408, R410, R414, R425) -/

/-- Channel `n` would sense, but for the block's ENABLE. -/
def State.armWould (s : State) (n : Nat) : Bool :=
  let m := s.get (F.SOL_CH_CFG_MODE n)
  s.present .arm && s.solHere n && s.flag (F.ARM_CH_CTRL_EN n) && (m == 1 || m == 2) && !s.solFollows n && !(s.armCh.get n).fail

/-- A profile starts on channel `n`, or its sensing ends: an open closing window is cut (R414). -/
def State.armCloseCut (s : State) (n : Nat) : State :=
  if (s.armCh.get n).closeWin then (s.put (armRes n true) 3).modArm n (fun a => { a with closeWin := false }) else s

/-- Channel `n` enters BOOST or NOBOOST: an opening window opens (R408). -/
def State.armOpenWindow (s : State) (n : Nat) (noboost : Bool) : State :=
  if s.armSense n then
    s.modArm n (fun a => { a with openWin := true, openAt := s.now, openSkip := noboost, openEnd := none, peakAt := none
                                  openDet := s.word (R.ARM_CH_DET n) })
  else if s.armWould n then s.count ⟨R.ARM_DISC, 0, 16⟩ 1
  else s

/-- An opening window is cut by protection or forced off (R414). -/
def State.armOpenCut (s : State) (n : Nat) : State :=
  if (s.armCh.get n).openWin then (s.put (armRes n false) 3).modArm n (fun a => { a with openWin := false }) else s

/-- The windows of a channel whose EN is cleared, or whose die link fails, are cut (R414). -/
def State.armCut (s : State) (n : Nat) : State := (s.armOpenCut n).armCloseCut n

/-- DECAY starts on channel `n`: a closing window opens; `skip` where it is not learned (R408, R415). -/
def State.armCloseWindow (s : State) (n : Nat) (skip : Bool) : State :=
  if s.armSense n then
    s.modArm n (fun a => { a with closeWin := true, closeAt := s.now, closeClk := s.clk, closeSkip := skip, closeV := s.vbank n
                                  closeFor := s.get F.ARM_CLOSE_WIN_CLOSE_WIN, decayEnd := none
                                  closeDet := s.word (R.ARM_CH_DET n) })
  else if s.armWould n then s.count ⟨R.ARM_DISC, 0, 16⟩ 1
  else s

/-- The opening window of channel `n` has ended: it has left BOOST, NOBOOST and PEAK (R408). -/
def State.armOpenEnded (s : State) (n : Nat) : Bool :=
  let ph := s.get (F.SOL_CH_STAT_PHASE n)
  !(ph == 2 || ph == 3 || ph == 4)

/-! ## The 1 ms update (R416, R418) -/

/-- The hold resistance of channel `n` in 10 mΩ: rail voltage × mean on-time fraction / mean current, with VBANK for the rail
(R416, log entry 1110). A mean current of 0 gives a free value. -/
def State.holdRes (s : State) (h : HoldMeas) : Nat :=
  if h.cur = 0 then s.sense (F.ARM_CH_COND_RES h.ch.val)
  else (divOpen 415 (s.vbank h.ch.val * h.on.toNat : Nat) (10 * h.cur.toNat : Nat)).toNat

/-- A HOLD of channel `n` that has lasted 10 ms forms its resistance, also where it has ended since the last update (R416). -/
def State.armHold (s : State) (h : HoldMeas) : State :=
  let n := h.ch.val
  let e := (s.armCh.get n).holdEnd
  if (s.get (F.SOL_CH_STAT_PHASE n) = 5 ∧ s.get (F.SOL_CH_CFG_MODE n) ≠ 3 ∧ s.passed (s.sol.get n).phaseAt (10 * msec)) ∨
      (e ≠ 0 ∧ s.clk < e + msec) then
    (s.putSat (F.ARM_CH_COND_RES n) (s.holdRes h)).modArm n (fun a => { a with holdClk := s.clk, holdAny := true })
  else s

/-- ARM_CH_LAT and the coil temperature of channel `n` (R418). -/
def State.armLatency (s : State) (n : Nat) : State :=
  let f (c : Bool) : Nat := (divNear 420 ((s.get (armEst n c) : Int) * s.armFactor n c (s.vbank n)) 1000000).toNat
  ((s.putSat (F.ARM_CH_LAT_LO n) (f false)).putSat (F.ARM_CH_LAT_LC n) (f true)).puts (F.ARM_CH_COND_TEMP n) (s.coilTemp n)

/-- The confidence of switch `k` is shown: its opening one with SRC = STALL, else the lower of both (R422). -/
def State.eotShow (s : State) (k : Nat) : State :=
  let w := s.armSw.get k
  s.put (F.ARM_SW_STAT_CONF k) (if s.get (F.ARM_SW_CFG_SRC k) = 1 then w.confO else min w.confO w.confC)

/-- The confidence of switch `k` has changed: CONF_LOW, CONF_OK (R417, R422). -/
def State.eotConf (s : State) (k : Nat) : State :=
  let was := s.eotOk k
  let s := s.eotShow k
  (s.raiseIf (was && !s.eotOk k) 164).raiseIf (!was && s.eotOk k) 165

/-! ## Clearing and restoring (R419, R426) -/

/-- CLR of channel `n` (R419). -/
def State.armClr (s : State) (n : Nat) : State :=
  let s := (s.put (armEst n false) (s.get (F.ARM_CH_INIT_INIT_O n))).put (armEst n true) (s.get (F.ARM_CH_INIT_INIT_C n))
  let s := (s.setNat (R.ARM_CH_RUN n) 0).setConf n false 0
  let s := s.setConf n true 0
  (s.put (armStuck n false) 0).put (armStuck n true) 0

/-- A new INIT value affects a direction only while its confidence is 0 (R426). -/
def State.armInit (s : State) (n : Nat) : State :=
  let s := if s.get (armConf n false) = 0 then s.put (armEst n false) (s.get (F.ARM_CH_INIT_INIT_O n)) else s
  if s.get (armConf n true) = 0 then s.put (armEst n true) (s.get (F.ARM_CH_INIT_INIT_C n)) else s

/-- CLR of switch `k`, as SOFT_RESET does (R419). -/
def State.eotClr (s : State) (k : Nat) : State :=
  ((s.setNat (R.ARM_SW_EST k) 0).modSw k
    (fun w => { w with confO := 0, confC := 0, missO := 0, missC := 0, driftO := 0, driftC := 0 })).eotConf k

/-! ## End of travel (R421, R422) -/

/-- The window of a switch in a direction, and its change. -/
def ArmSw.at (w : ArmSw) (c : Bool) : EotWin := if c then w.closing else w.opening
def ArmSw.setWin (w : ArmSw) (c : Bool) (x : EotWin) : ArmSw := if c then { w with closing := x } else { w with opening := x }

/-- The window in a direction is over: the next one of that direction, where one lasts, takes its place. -/
def ArmSw.over (w : ArmSw) (c : Bool) : ArmSw :=
  match w.later.find? (fun e => e.1 == c) with
  | some e => { w.setWin c e.2 with later := w.later.erase e }
  | none => w.setWin c { w.at c with on := false }

/-- A window in a direction opens, behind one that still lasts (R422). -/
def ArmSw.opens (w : ArmSw) (c : Bool) (x : EotWin) : ArmSw :=
  if (w.at c).on then { w with later := w.later ++ [(c, x)] } else w.setWin c x

/-- The oldest window of switch `k` in a direction is over. -/
def State.eotOver (s : State) (k : Nat) (c : Bool) : State := s.modSw k (fun w => w.over c)

/-- Switch `k` goes on or off: a window opens (R422, R425), beside those that still last. With SRC = STALL there is no closing
window. -/
def State.eotWindow (s : State) (k : Nat) (closing : Bool) : State :=
  let src := s.get (F.ARM_SW_CFG_SRC k)
  if src = 0 || !s.present .arm then s
  else if closing && src == 1 then s.put (F.ARM_SW_STAT_ATOPEN k) 0
  else if !s.enabled .arm then s.count ⟨R.ARM_DISC, 0, 16⟩ 1
  else
    let w : EotWin := { on := true, since := s.now, start := s.satStart 2 k, clk := s.clk, cfg := s.word (R.ARM_SW_CFG k), stall := s.word (R.ARM_SW_STALL k)
                        ign := s.word (R.ARM_SW_IGN k), thr := s.word (R.ARM_SW_THR k), away := false }
    s.modSw k (fun x => x.opens closing { w with away := !s.eotThere closing w })

/-- The window of switch `k` in a direction holds the end of travel `x` (R421, R422): within EOT_T, and by its source. STALL: the
current has been at STALL_MA or above for STALL_T after IGN. AIN, ENC: the input or the line was off the end of travel within
the window and stands there now. -/
def State.eotSeen (s : State) (k : Nat) (c : Bool) (x : EotSign) : Bool :=
  let w := (s.armSw.get k).at c
  let t := x.tag.toNat
  w.on && decide (t ≤ w.since + w.eotT * msec) &&
    (match w.src with
     | 1 => !c && decide (w.stallMa ≤ x.cur.toNat) && decide (w.since + (w.ignT + w.stallT) * msec ≤ t)
     | 2 => w.away && s.eotThere c w
     | 3 => w.away && s.eotThere c w
     | _ => false)

/-- A direction of switch `k` after an outcome. -/
def State.eotLearned (s : State) (k : Nat) (c : Bool) (x : Learned) : State :=
  let s := if c then s.putSat (F.ARM_SW_EST_LC k) x.est else s.putSat (F.ARM_SW_EST_LO k) x.est
  ((s.modSw k (fun w => if c then { w with confC := x.conf, missC := x.miss, driftC := x.drift }
    else { w with confO := x.conf, missO := x.miss, driftO := x.drift })).eotOver k c).eotConf k

/-- A direction of switch `k`, in ms (R422). -/
def State.eotState (s : State) (k : Nat) (c : Bool) : Learned :=
  let w := s.armSw.get k
  if c then ⟨s.get (F.ARM_SW_EST_LC k), w.confC, w.driftC, w.missC⟩ else ⟨s.get (F.ARM_SW_EST_LO k), w.confO, w.driftO, w.missO⟩

/-- An end of travel within the window of switch `k` in a direction, at instant `t` (R421, R422). -/
def State.eotFound (s : State) (k : Nat) (c : Bool) (t : Nat) : State :=
  let w := (s.armSw.get k).at c
  let ms := (divNear 422 ((t : Int) - w.since) msec).toNat
  let r := s.learn (s.eotState k c) ms
  let s := ((s.eotLearned k c r.1).raiseIf r.2 163).put (if c then F.ARM_SW_STAT_CLOSE_RES k else F.ARM_SW_STAT_OPEN_RES k) 1
  (s.putB (F.ARM_SW_STAT_ATOPEN k) (!c)).confirm 2 k c t w.start

/-- The window of switch `k` in a direction closes without an end of travel (R417, R422). -/
def State.eotMissed (s : State) (k : Nat) (c : Bool) : State :=
  let x := s.eotState k c
  let start := ((s.armSw.get k).at c).start
  let s := ((s.raise 168).put (if c then F.ARM_SW_STAT_CLOSE_RES k else F.ARM_SW_STAT_OPEN_RES k) 2).count
    (if c then F.ARM_CNT_MISS_CLOSE else F.ARM_CNT_MISS_OPEN) 1
  let s := s.eotLearned k c { x with conf := x.conf / 2, miss := x.miss + 1 }
  let s := s.raiseIf (x.miss == 0) (if c then 162 else 161)
  let s := if x.miss + 1 = s.get F.ARM_CFG_MISS_N then (s.raise (if c then 166 else 167)).put ⟨H.sticky .arm, 0, 1⟩ 1 else s
  s.unconfirm 2 k c start

/-! ## Adaptive boost voltage (R423, R424) -/

/-- The channels of die `d` that take part. -/
def State.adaptSet (s : State) (d : Nat) : List Nat :=
  ((List.range 48).map (fun i => 48 * d + i)).filter (fun n => s.flag (F.ARM_CH_CTRL_ADP n) && s.armSense n && s.armOk n)

/-- The worst channel of a set at a target in 0.1 V, with its predicted latency times 1,000,000. -/
def State.worstAt (s : State) (d target : Nat) (set : List Nat) : Nat × Int :=
  let s' := s.put (F.SOL_DIE_VB_TGT d) target
  set.foldl (fun b n =>
    let v := (s.get (armEst n false) : Int) * s'.armFactor n false 0
    if b.2 < v then (n, v) else b) (0, -1)

/-- BOOST_ADAPT at most once per 60 s (R424). -/
def State.adaptNotice (s : State) (d : Nat) : State :=
  let ok := match (s.armDie.get d).raised with | none => true | some t => s.passed t (60 * second)
  if ok then (s.raise 170).modDie d (fun x => { x with raised := some s.clk }) else s

/-- The target of die `d` becomes `v`. -/
def State.setTarget (s : State) (d v : Nat) : State :=
  if s.get (F.SOL_DIE_VB_TGT d) = v then s else (s.put (F.SOL_DIE_VB_TGT d) v).adaptNotice d

/-- The target of die `d` returns to VSET and is held there for one PERIOD (R424). -/
def State.adaptReset (s : State) (d : Nat) : State :=
  (s.setTarget d (s.get (F.SOL_DIE_BOOST_VSET d))).modDie d
    (fun x => { x with hold := s.clk + s.get (F.ARM_DIE_ADAPT_PERIOD d) * second })

/-- Boost under-voltage returns the target to VSET (R424), unless ARM is disabled and adaptation holds it (R425). -/
def State.adaptUv (s : State) (d : Nat) : State := if s.runs .arm then s.adaptReset d else s

/-- A PERIOD of die `d` ends, and the next one begins (R423). -/
def State.adapt (s : State) (d : Nat) : State :=
  let s := s.modDie d (fun x => { x with hold := s.clk + s.get (F.ARM_DIE_ADAPT_PERIOD d) * second })
  let set := s.adaptSet d
  if set.isEmpty then s.put (F.ARM_DIE_ADSTAT_VALID d) 0
  else
    let tgt := s.get (F.SOL_DIE_VB_TGT d)
    let goal : Int := (s.get (F.ARM_DIE_ADAPT_T_TARGET d) : Int) * 1000000
    let low := goal * (100 - s.get (F.ARM_DIE_ADAPT_MARGIN d) : Int)
    let now := s.worstAt d tgt set
    let below := s.worstAt d (tgt - 5) set
    let s := if goal < now.2 then s.setTarget d (min (tgt + 5) (s.get (F.SOL_DIE_BOOST_VSET d)))
      else if below.2 * 100 ≤ low then s.setTarget d (max (tgt - 5) (s.get (F.SOL_DIE_BOOST_VMIN d)))
      else s
    let w := s.worstAt d (s.get (F.SOL_DIE_VB_TGT d)) set
    ((s.put (F.ARM_DIE_ADSTAT_VALID d) 1).put (F.ARM_DIE_ADSTAT_CH d) w.1).putSat (F.ARM_DIE_ADSTAT_LAT d)
      (divNear 423 w.2 1000000).toNat

/-! ## The block as a whole -/

/-- ARM_SUMMARY (R428). -/
def State.armSummary (s : State) : Nat :=
  ((List.range s.nSol).filter (fun n => s.armSense n && !s.armOk n)).length * 2 ^ 16 +
  ((List.range s.nSol).filter (fun n => s.solHere n && s.armOk n)).length

/-! ## The commands -/

/-- ARM_CH_DET (R430): OPEN_SENS in mA, OPEN_PCT in points, CLOSE_SENS in 10 mV. -/
def openSens (w : Word) : Nat := w.toNat / 2 ^ 20
def openPct (w : Word) : Nat := w.toNat / 2 ^ 12 % 256
def closeSens (w : Word) : Nat := w.toNat % 2 ^ 12

/-- A signature is one of the open opening window (R408, R411): within it, by the fall of the current in the rise, or by the
rise of the chopper's on-time fraction in PEAK. -/
def ArmCh.opens (a : ArmCh) (now : Nat) (x : OpenSign) : Bool :=
  let t := x.tag.toNat
  let peak := match a.peakAt with | some p => decide (p < t) | none => false
  a.openWin && decide (a.openAt ≤ t) && decide (t ≤ a.openEnd.getD now) &&
    decide ((if peak then openPct a.openDet else openSens a.openDet) ≤ x.swing.toNat)

/-- A signature is one of the open closing window (R408, R412): in DECAY a plateau of 20 µs or more at less than a quarter of the
first rate; after it an EMF above CLOSE_SENS that has fallen below half of it. -/
def ArmCh.closes (a : ArmCh) (x : CloseSign) : Bool :=
  let t := x.tag.toNat
  let decay := match a.decayEnd with | some e => decide (t ≤ e) | none => true
  a.closeWin && decide (a.closeAt ≤ t) && decide (t ≤ a.closeAt + a.closeFor * msec) &&
    (if decay then decide (20 ≤ x.plateau.toNat) && decide (x.slope.toNat < 250)
     else decide (closeSens a.closeDet < x.peak.toNat) && decide (2 * x.emf.toNat < closeSens a.closeDet))

/-- ARM_OPEN_SIGNATURE (R411, R413): the first signature of an open opening window. -/
def execArmOpenSignature (n : Fin 96) (t : OpenSign) (s : State) : Answer :=
  .next (let a := s.armCh.get n.val
         if a.opens s.now t then
           (s.modArm n.val (fun a => { a with openWin := false })).armConfirmed n.val false t.tag.toNat (t.tag.toNat - a.openAt)
             a.openSkip 0
         else s)

/-- ARM_CLOSE_SIGNATURE (R412, R413): the first signature within a closing window. -/
def execArmCloseSignature (n : Fin 96) (t : CloseSign) (s : State) : Answer :=
  .next (let a := s.armCh.get n.val
         if a.closes t then
           (s.modArm n.val (fun a => { a with closeWin := false })).armConfirmed n.val true t.tag.toNat (t.tag.toNat - a.closeAt)
             a.closeSkip a.closeV
         else s)

/-- ARM_WINDOW_CLOSE (R408, R413): a window whose end has come and that holds no signature. -/
def execArmWindowClose (n : Fin 96) (closing : Bool) (s : State) : Answer :=
  .next (let a := s.armCh.get n.val
         if closing then
           if a.closeWin && s.passed a.closeClk (a.closeFor * msec) then
             (s.modArm n.val (fun a => { a with closeWin := false })).armMissed n.val true
           else s
         else if a.openWin && s.armOpenEnded n.val then
           (s.modArm n.val (fun a => { a with openWin := false })).armMissed n.val false
         else s)

/-- ARM_LAT_UPDATE (R416, R418), on the geometry update grid (R41). -/
def execArmLatUpdate (holds : List HoldMeas) (s : State) : Answer :=
  .next (if !s.works .arm || !s.atMs then s
         else (s.each holds (fun s h => s.armHold h)).each (List.range s.nSol) State.armLatency)

/-- BOOST_ADAPT_PERIOD (R423, R425): the target is held while the block is disabled, while a hold of R424 runs, and until the
PERIOD has ended. -/
def execBoostAdaptPeriod (d : Fin 2) (s : State) : Answer :=
  .next (if s.runs .arm && s.flag (F.SOL_DIE_BOOST_ADAPT d.val) && decide ((s.armDie.get d.val).hold ≤ s.clk) then s.adapt d.val
         else s)

/-- EOT_DETECT (R421, R422): within the window, and where the source stands so. -/
def execEotDetect (k : Fin 24) (t : EotSign) (s : State) : Answer :=
  .next (if s.eotSeen k.val true t then s.eotFound k.val true t.tag.toNat
         else if s.eotSeen k.val false t then s.eotFound k.val false t.tag.toNat
         else s)

/-- The window of switch `k` in a direction has lasted EOT_T (R422). -/
def State.eotPast (s : State) (k : Nat) (c : Bool) : Bool :=
  let w := (s.armSw.get k).at c
  w.on && s.passed w.clk (w.eotT * msec)

/-- EOT_MISS (R422). -/
def execEotMiss (k : Fin 24) (s : State) : Answer :=
  .next (if s.eotPast k.val false then s.eotMissed k.val false
         else if s.eotPast k.val true then s.eotMissed k.val true
         else s)

end Sys2Proof.Machine
end

