-- ==== Sys2Proof/Machine/Schedule.lean ====
section
/-! DEFINITION. Stride: decisions, staggering, modes, turn compensation and the lead's satellites (R317 to R361). -/

namespace Sys2Proof.Machine

open Sys2Proof

/-! ## What a point's registers say -/

/-- The remote point's number. -/
def sp (p : Nat) : Nat := p - 128

/-- A field of STR_PT_THR, STR_PT_HYST, STR_PT_LAT_CFG or STR_PT_HYD, or of the remote point's word of that layout (R360). -/
def State.ptField (s : State) (p : Nat) (l r : Nat → Nat) (lo w : Nat) : Nat :=
  s.get ⟨if p < 128 then l p else r (sp p), lo, w⟩

def State.exclTol (s : State) (p : Nat) : Nat := s.ptField p R.STR_PT_THR R.STR_SP_THR 16 8
def State.onThresh (s : State) (p : Nat) : Nat := s.ptField p R.STR_PT_THR R.STR_SP_THR 8 8
def State.offThresh (s : State) (p : Nat) : Nat := s.ptField p R.STR_PT_THR R.STR_SP_THR 0 8
def State.minOff (s : State) (p : Nat) : Nat := s.ptField p R.STR_PT_HYST R.STR_SP_HYST 16 16
def State.minOn (s : State) (p : Nat) : Nat := s.ptField p R.STR_PT_HYST R.STR_SP_HYST 0 16

/-- The binding word that the point's next command is formed for: while its plan is on, that of its ON (R274, R352). -/
def State.ptBind (s : State) (p : Nat) : Nat := if (s.pt p).planOn then (s.pt p).bind else s.bindReg p

/-- What the point is bound to: 0 nothing, 1 a solenoid channel, 2 a load switch, 3 a CAN field (R272, R361). -/
def State.ptKind (s : State) (p : Nat) : Nat :=
  if p < 128 then bindKind (s.ptBind p) else s.ptBind p / 2 ^ 23 % 2 + 1

/-- The channel, switch or object of the point. -/
def State.ptInst (s : State) (p : Nat) : Nat :=
  if p < 128 then bindInst (s.ptBind p) else s.ptBind p / 2 ^ 16 % 128

/-- The satellite of a remote point. -/
def State.ptSat (s : State) (p : Nat) : Nat := s.ptBind p / 2 ^ 24 % 64

/-- FORCE: 0 auto, 1 off, 2 on; remote points have none (R329, R361). -/
def State.ptForce (s : State) (p : Nat) : Nat := if p < 128 then s.get (F.STR_PT_CTRL_FORCE p) else 0

/-- TC_EN and FSRC. -/
def State.ptTc (s : State) (p : Nat) : Bool :=
  if p < 128 then s.flag (F.STR_PT_CTRL_TC_EN p) else s.flag (F.STR_SP_CTRL_TC_EN (sp p))
def State.ptFsrc (s : State) (p : Nat) : Nat :=
  if p < 128 then s.get (F.STR_PT_CTRL_FSRC p) else s.get (F.STR_SP_CTRL_FSRC (sp p))

/-- The point runs nozzle PWM; a remote solenoid point counts as one, since the lead cannot see its satellite's mode. -/
def State.ptPwm (s : State) (p : Nat) : Bool :=
  s.ptKind p == 1 && (decide (128 ≤ p) || s.get (F.SOL_CH_CFG_MODE (s.ptInst p)) == 2)

/-- The point is decided: enabled, or its crossing is still in progress (R274, R327). -/
def State.ptActive (s : State) (p : Nat) : Bool := (s.ptOn p || (s.pt p).planOn) && s.ptKind p != 0

/-- The layer that the point's decisions look at (R274). -/
def State.decideLayer (s : State) (p : Nat) : Nat := if (s.cross p).cross = 0 then s.ptLayer p else (s.cross p).layer

/-! ## Starts, drops and forced off (R320, R394) -/

/-- The first command of a queue with that direction, and the queue without it. -/
def takeCmd (on : Bool) : List StrCmd → Option StrCmd × List StrCmd
  | [] => (none, [])
  | c :: t => if c.on = on then (some c, t) else let r := takeCmd on t; (r.1, c :: r.2)

/-- A command of point `p` was started at tag `t` (R327, R296). -/
def State.strStarted (s : State) (p : Nat) (on : Bool) (t : Nat) : State :=
  let x := s.pt p
  let r := takeCmd on x.queue
  let lat := match r.1 with | some c => c.lat | none => if on then x.latO else x.latC
  let hyd := match r.1 with | some c => c.hyd | none => x.hyd
  let w := match r.1 with | some c => c.bind | none => s.outBind p
  let s := s.modPt p (fun x =>
    ({ x with queue := r.2, lastOn := on, travel := 0, ons := min (x.ons + bit on) 0xFFFFFFFF
              ran := (match r.1 with | some c => c :: x.ran | none => x.ran).take 64 } : StrPt).replan)
  if on then s.geoOpen p t lat hyd w else s.geoClose p t lat hyd

/-- The command of a queue with that direction and, where it is given, that start, else the first with that direction, and the
queue without it. -/
def takeCmdAt (on : Bool) (start : Option Nat) (q : List StrCmd) : Option StrCmd × List StrCmd :=
  match start with
  | none => takeCmd on q
  | some t =>
    match q.find? (fun c => c.on == on && c.start == t) with
    | some c => (some c, q.filter (fun x => x != c))
    | none => (none, q)

/-- A Stride command failed to start: it is counted and reported (R320). -/
def State.cmdDrop (s : State) : State := ((s.count F.STR_CNT_DROP 1).put ⟨H.sticky .str, 1, 1⟩ 1).raise 119

/-- The command with that direction and start is the last one that counted as started, or none is known that it could be. -/
def StrPt.ranLast (x : StrPt) (on : Bool) (start : Option Nat) : Bool :=
  let same (c : StrCmd) : Bool := c.on == on && (match start with | some t => c.start == t | none => true)
  match x.ran with
  | [] => true
  | c :: t => same c || !t.any same

/-- A command of point `p` did not start (R320): the one with that direction and, where it is given, that start. The plan is
what it was before it, with the commands that still wait; one that counted as started already is undone, unless a later one
has started since. -/
def State.strDropped (s : State) (p : Nat) (on : Bool) (start : Option Nat := none) : State :=
  let x := s.pt p
  let r := takeCmdAt on start x.queue
  let last := if r.1.isSome || !x.ranLast on start then x.lastOn else !on
  s.cmdDrop.modPt p (fun x => ({ x with queue := r.2, lastOn := last } : StrPt).replan)

/-- `k` commands have been formed (R355). -/
def State.cmdCount (s : State) (k : Nat) : State := s.setNat R.STR_CNT_CMD (min (s.nat R.STR_CNT_CMD + k) 0xFFFFFFFF)

/-- An output that was on goes off under protection or forced off: its points take an OFF executed now (R394, R444). -/
def State.strForcedOff (s : State) (kind inst : Nat) : State :=
  s.each (s.pointsOf kind inst) (fun s p =>
    let x := s.pt p
    (s.modPt p (fun x => { x with plan := 0, lastOn := false, travel := 0 })).geoClose p s.now x.latC x.hyd)

/-! ## Latency, hydraulic delay and lead (R321 to R324) -/

/-- The source and the latencies in µs of a point (R321, R322). -/
def State.latencies (s : State) (p : Nat) : Nat × Nat × Nat :=
  let i := s.ptInst p
  let x := s.pt p
  let ms := if p < 128 then s.flag (F.STR_PT_CTRL_LAT_MS p) else s.flag (F.STR_SP_CTRL_LAT_MS (sp p))
  let k := if ms then 1000 else 1
  let cfg := (0, s.ptField p R.STR_PT_LAT_CFG R.STR_SP_LAT_CFG 0 16 * k, s.ptField p R.STR_PT_LAT_CFG R.STR_SP_LAT_CFG 16 16 * k)
  if 128 ≤ p then (if x.repOk then (2, x.repO, x.repC) else cfg)
  else match s.ptKind p with
    | 1 => if s.armSense i && s.armOk i then (1, s.get (F.ARM_CH_LAT_LO i), s.get (F.ARM_CH_LAT_LC i)) else cfg
    | 2 => if s.eotSense i && s.eotOk i then (1, s.get (F.ARM_SW_EST_LO i) * 1000, s.get (F.ARM_SW_EST_LC i) * 1000) else cfg
    | _ => cfg

/-- The flow of slot `k` in mL/s (R323). -/
def State.flow (s : State) (k : Nat) : Nat :=
  let i := s.get (F.STR_FLOW_CFG_INST k)
  let v : Int := match s.get (F.STR_FLOW_CFG_TYPE k) with
    | 1 => if i < 8 then divNear 323 (s.int (R.FBK_ENC_SPD i)) 256 else 0
    | 2 => divNear 323 (s.int (R.FBK_AIN_VAL i)) 65536
    | 3 => s.get ⟨R.STR_FLOW_FIX k, 0, 24⟩
    | _ => 0
  min (max v (s.get (F.STR_FLOW_CFG_FLOW_MIN k))).toNat (2 ^ 24 - 1)

/-- The hydraulic delay of a point in µs (R323). -/
def State.hydDelay (s : State) (p : Nat) : Nat :=
  let fix := s.ptField p R.STR_PT_HYD R.STR_SP_HYD 0 16 * 100
  let vol := s.ptField p R.STR_PT_HYD R.STR_SP_HYD 16 16
  match s.ptFsrc p with
  | 0 => fix
  | k + 1 => fix + (divOpen 324 (vol * 1000000 : Nat) (s.get ⟨R.STR_FLOW_VAL k, 0, 24⟩ : Nat)).toNat

/-- A lead limited to HORIZON, with the clamp counted (R324). -/
def State.leadClamp (s : State) (us : Nat) : Nat × State :=
  let top := s.get F.STR_HORIZON_HORIZON * 1000
  if us ≤ top then (us, s)
  else (top, ((s.count ⟨R.STR_CNT_HORIZON, 0, 16⟩ 1).put ⟨H.sticky .str, 2, 1⟩ 1).raise 120)

/-- The latencies and leads of a point at this tick. -/
def State.leads (s : State) (p : Nat) : State :=
  let l := s.latencies p
  let h := (s.pt p).hyd
  let a := s.leadClamp (l.2.1 + h)
  let b := a.2.leadClamp (l.2.2 + h)
  b.2.modPt p (fun x => { x with latSrc := l.1, latO := l.2.1, latC := l.2.2, leadOn := a.1, leadOff := b.1 })

/-! ## Prediction and fractions (R325, R326) -/

/-- The mode: 0 IDLE, 1 RUN, 2 DR, 3 LOSS, 4 STOP, 5 REBUILD (R342). -/
def State.strMode (s : State) : Nat :=
  if !s.runs .str then 0 else if !s.str.rebuild.isEmpty then 5 else if s.str.stop then 4
  else match s.str.base with | 2 => 3 | 1 => 2 | _ => 1

/-- The pose that predictions start from (R325). -/
def State.strPose (s : State) : GeoPose :=
  match s.str.base, s.str.drPose with
  | 0, _ => s.geoPose
  | _, some g => g
  | _, none => s.geoPose

/-- The percentages of a footprint as fractions of `n`. -/
structure Fraction where
  unapplied : Nat
  excluded  : Nat
  n         : Nat
  miss      : Bool
  deriving DecidableEq, Repr

/-- The fractions of point `p`'s footprint at time tag `t` (R326). A footprint that holds no cell centre has no stated
fractions: they are free values. -/
def State.fractions (s : State) (p t : Nat) : Fraction × State :=
  let g := s.strPose
  let cells := s.ptCells p (arc g ((t : Int) - g.tag))
  let layer := s.decideLayer p
  let vs := cells.map (s.effective layer)
  let count (v : Nat) := (vs.filter (· == v)).length
  if cells.isEmpty then
    let a := s.free 8
    let b := a.2.free 8
    (⟨a.1 % 101, b.1 % 101, 100, false⟩, b.2)
  else
    let miss := cells.any (fun c => let t := tileOf c; s.inExtent t.1 t.2 && (s.slotOf [2] t.1 t.2).isNone)
    (⟨count 0 + (if s.flag F.STR_CFG_UNK then count 3 else 0), count 2, cells.length, miss⟩, s)

/-- The condition for switching on (R327). -/
def State.onCond (s : State) (p : Nat) (f : Fraction) : Bool :=
  decide (s.onThresh p * f.n ≤ f.unapplied * 100) && decide (f.excluded * 100 ≤ s.exclTol p * f.n)

/-- The condition for switching off, apart from MIN_ON (R327). -/
def State.offCond (s : State) (p : Nat) (f : Fraction) : Bool :=
  decide (s.exclTol p * f.n < f.excluded * 100) || decide (f.unapplied * 100 < s.offThresh p * f.n)

/-- How late a command is, in steps of 250 µs: how many of the instants before `t` already met the condition (R330). -/
def State.lateness (s : State) (p t : Nat) (on : Bool) : Nat → Nat → Nat
  | 0, m => m
  | k + 1, m =>
    let f := (s.fractions p (t - (m + 1) * tickLen)).1
    if (if on then s.onCond p f else s.offCond p f) then s.lateness p t on k (m + 1) else m

/-- The most steps that R330 looks back. -/
def State.lateSteps (s : State) : Nat := s.get F.STR_LATE_ON_LATE_MAX / 250 + 1

/-- A command issued late is counted; the lateness of an ON is recorded in STR_PT_LATE_MAX too (R330, R331). -/
def State.countLate (s : State) (p us : Nat) (on : Bool) : State :=
  if us = 0 then s
  else (s.count F.STR_CNT_LATE_LATE 1).modPt p (fun x =>
    { x with late := min (x.late + 1) 0xFFFF, lateMax := if on then max x.lateMax us else x.lateMax })

/-! ## Forming commands (R317 to R319, R332, R333) -/

/-- What the prediction of a PWM train rests on (R319): the period, the wait for the bank before each BOOST, the length of BOOST and
PEAK, the off instant in the cycle, and the length of the decay, in counts. -/
structure PwmShape where
  per : Nat
  wt  : Nat
  w   : Nat
  off : Nat
  dec : Nat
  deriving DecidableEq, Repr

/-- The windows of `k` cycles from the one that starts at `b`: BOOST with PEAK, and decay (R319). `on` where the channel is still on
at the cycle start, for how long its PEAK goes on: it stays on until this cycle's off instant (R386). A decay that has not
ended at the cycle start, `late` long, delays the profile (R387). -/
def PwmShape.windows (x : PwmShape) : Nat → Option Nat → Nat → Nat → List (Nat × Nat)
  | 0, _, _, _ => []
  | k + 1, on, late, b =>
    let e := match on with | some e => e | none => late + x.wt + x.w
    let off := max x.off e
    let peak := (match on with | some _ => b | none => b + late + x.wt, b + e)
    if x.per ≤ off then peak :: x.windows k (some (e - x.per)) 0 (b + x.per)
    else peak :: (b + off, b + off + x.dec) :: x.windows k none (off + x.dec - x.per) (b + x.per)

/-- The first instant at or after `t` outside windows that follow each other (R319). -/
def clearOf (t : Nat) : List (Nat × Nat) → Nat
  | [] => t
  | x :: r => clearOf (if x.1 ≤ t ∧ t < x.2 then x.2 else t) r

/-- The first instant at or after `t` outside the windows of a train whose cycle starts at `c0` (R319). -/
def PwmShape.clear (x : PwmShape) (c0 t : Nat) : Nat := clearOf t (x.windows ((t - c0) / x.per + 4) none 0 c0)

/-- The boost estimate of a point's channel in µs (R332). -/
def State.boostEst (s : State) (p : Nat) : Nat :=
  let i := s.ptInst p
  if 128 ≤ p then s.get F.STR_SAT_CFG_SAT_TBOOST
  else if s.get (F.SOL_CH_TMEAS_BOOST i) ≠ 0 then s.get (F.SOL_CH_TMEAS_BOOST i)
  else s.get (F.SOL_PROF_TIME_T_BOOST_MAX (i / 48) (s.get (F.SOL_CH_CFG_SLOT i)))

/-- T_PEAK of a local channel in µs; the lead does not know a satellite's. -/
def State.peakEst (s : State) (p : Nat) : Nat :=
  let i := s.ptInst p
  if 128 ≤ p then 0 else s.get (F.SOL_PROF_TIME_T_PEAK (i / 48) (s.get (F.SOL_CH_CFG_SLOT i))) * 10

/-- The first whole µs at or after `t`. -/
def wholeUsec (t : Nat) : Nat := (t + usec - 1) / usec * usec

/-- The output that a binding word of point `p` names, as one number: a solenoid channel, a load switch, the point's own CAN
field, or an output of a satellite. -/
def outKey (p w : Nat) : Nat :=
  if 128 ≤ p then 65536 + w / 2 ^ 16 % 2 ^ 14
  else match bindKind w with | 1 => bindInst w | 2 => 128 + bindInst w | _ => 512 + p

/-- The commands queued for an output: whether on, and the start (R318). Those of every point that is bound to it count, and for a
satellite's output those on their way or accepted there. -/
def State.outQueued (s : State) (key : Nat) : List (Bool × Nat) :=
  let y := s.str.sats.get ((key - 65536) / 256)
  (List.range 1024).flatMap (fun p => ((s.pt p).queue.filter (fun c => outKey p c.bind == key)).map (fun c => (c.on, c.start))) ++
  (if key < 65536 then []
   else ((y.queue ++ y.inFlight.flatMap (·.cmds) ++ y.placed).filter (fun c => outKey 128 c.bind == key)).map (fun c =>
     (c.op == 1, c.start)))

/-- The one that starts last. -/
def lastQueued (l : List (Bool × Nat)) : Option (Bool × Nat) :=
  l.foldl (fun m c => match m with | some x => if c.2 < x.2 then some x else some c | none => some c) none

/-- The first cycle start that the prediction of the point's PWM train counts from: the ON that is queued last for the output, or
the present cycle of the train that runs (R319). -/
def State.trainFrom (s : State) (p : Nat) (last : Option (Bool × Nat)) : Option Nat :=
  let i := s.ptInst p
  if !(decide (p < 128) && s.ptPwm p) then none
  else match last with
    | some c => if c.1 then some c.2 else none
    | none => if (s.sol.get i).train then some ((s.sol.get i).nextAt - s.get (F.SOL_CH_PWM_PER i) * usec) else none

/-- What the prediction of the point's train rests on (R319, R386). -/
def State.pwmShape (s : State) (p : Nat) : PwmShape :=
  let i := s.ptInst p
  { per := s.get (F.SOL_CH_PWM_PER i) * usec, wt := (s.pt p).wait, w := (s.boostEst p + s.peakEst p) * usec
    off := (divNear 386 (s.get (F.SOL_CH_DUTY_DUTY i) * s.get (F.SOL_CH_PWM_PER i) : Nat) 1000).toNat * usec
    dec := s.get (F.SOL_CH_TMEAS_DECAY i) * usec }

/-- The first instant at or after `t` at which Stride may start a command for the point, to a whole µs (R318, R319). Cycles of a
duty of 0 or 100.0 % have no windows but those of the first profile (R386). -/
def State.strClear (s : State) (p t : Nat) : Nat :=
  let key := outKey p (s.ptBind p)
  let last := lastQueued (s.outQueued key)
  let t := max t (match last with | some c => c.2 | none => 0)
  let d := s.get (F.SOL_CH_DUTY_DUTY (s.ptInst p))
  if s.ptKind p ≠ 1 then wholeUsec t
  else match s.trainFrom p last with
    | some c0 =>
      if 0 < d ∧ d < 1000 then wholeUsec ((s.pwmShape p).clear c0 t) else wholeUsec (clearOf t [s.str.busy.get key])
    | none => wholeUsec (clearOf t [s.str.busy.get key])

/-- The bank of a point: local banks by number, remote ones by 16 + 16 × satellite + bank (R332). -/
def State.ptBank (s : State) (p : Nat) : Nat :=
  if p < 128 then s.ptInst p / 8 else 16 + 16 * s.ptSat p + s.ptInst p / 8

/-- A BOOST that recurs: a cycle start, its length and its period, and the tag of the OFF that ends the cycles, where one is
queued (R333). -/
structure Train where
  at_   : Nat
  len   : Nat
  per   : Nat
  until_ : Option Nat
  deriving DecidableEq, Repr

/-- The cycles that a queue's commands leave: those of each ON, up to the OFF that follows it. -/
def queuedTrains (len per : Nat) : List StrCmd → List Train
  | [] => []
  | c :: t => (if c.on then [⟨c.start, len, per, (t.find? (fun x => !x.on)).map (·.start)⟩] else []) ++ queuedTrains len per t

/-- The cycles of a local point that runs nozzle PWM: those that go on, up to a queued OFF, and those of its queue. -/
def State.ptTrains (s : State) (q : Nat) : List Train :=
  let x := s.pt q
  let len := s.boostEst q * usec
  let per := s.get (F.SOL_CH_PWM_PER (s.ptInst q)) * usec
  (if x.lastOn then [⟨(s.sol.get (s.ptInst q)).nextAt, len, per, (x.queue.find? (fun c => !c.on)).map (·.start)⟩] else []) ++
    queuedTrains len per x.queue

/-- The BOOSTs that recur in the bank of point `p`: those of each other local point of the bank that runs nozzle PWM (R333).
The lead does not know the periods of a satellite's channels (log entry 913). -/
def State.bankTrains (s : State) (p : Nat) : List Train :=
  if 128 ≤ p then []
  else ((List.range 128).filter (fun q => q != p && (s.pt q).plan != 0 && s.ptPwm q && s.ptBank q == s.ptBank p &&
      s.get (F.SOL_CH_PWM_PER (s.ptInst q)) != 0)).flatMap s.ptTrains

/-- The cycles of a train have not ended at `t`. -/
def Train.runsAt (x : Train) (t : Nat) : Bool := match x.until_ with | some u => decide (t < u) | none => true

/-- The recurring BOOST of a list that overlaps the `d` counts from `e`, its phase taken modulo `per`, or modulo its own
period where `per` is 0: its start and end. -/
def trainHit (e d per : Nat) : List Train → Option StrBank
  | [] => none
  | t :: r =>
    let m := if per = 0 then t.per else per
    let ph := (((t.at_ : Int) - e).emod m).toNat
    if ph < d && t.runsAt (e + ph) then some ⟨e + ph + t.len, e + ph⟩
    else if m < ph + t.len && t.runsAt (e + ph - m) then some ⟨e + ph + t.len - m, e + ph - m⟩
    else trainHit e d per r

/-- The bookings of the bank as an opening at `a` meets them: the latest one, and behind it each recurring BOOST that the
opening would meet (R332, R333). `k` bounds how many are passed. -/
def bankMeets (trains : List Train) (a d per : Nat) : Nat → StrBank → StrBank
  | 0, b => b
  | k + 1, b =>
    match trainHit (max a b.free) d per trains with
    | none => b
    | some h => bankMeets trains a d per k h

/-- The bookings of the bank of point `p` for an opening at `a` (R332, R333). -/
def State.bankFrom (s : State) (p a : Nat) : StrBank :=
  let per := if p < 128 ∧ s.ptPwm p then s.get (F.SOL_CH_PWM_PER (s.ptInst p)) * usec else 0
  bankMeets (s.bankTrains p) a (s.boostEst p * usec) per 16 (s.str.banks.get (s.ptBank p))

/-- A command takes its place in a satellite's queue, in order of tag and offset (R346). -/
def satInsert (c : SatCmd) (q : List SatCmd) : List SatCmd :=
  q.filter (fun z => decide (z.start ≤ c.start)) ++ c :: q.filter (fun z => decide (c.start < z.start))

/-- The command joins the point's queue and goes on its way (R317, R345). -/
def State.strForm (s : State) (p : Nat) (on : Bool) (start duty : Nat) : State :=
  let x := s.pt p
  let i := s.ptInst p
  let c : StrCmd := { on := on, start := start, lat := if on then x.latO else x.latC, hyd := x.hyd, was := x.plan
                      duty := duty, bind := s.ptBind p, vals := if p < 128 then s.nat (R.GEO_PT_CANVAL p) else 0
                      sent := false, busy := s.str.busy.get (outKey p (s.ptBind p)) }
  let sat := s.ptSat p
  let kind := s.ptKind p
  let s := (s.cmdCount 1).modPt p
    (fun x => { x with queue := x.queue ++ [c], plan := if on then 1 else 3, bind := c.bind
                       dutyTx := if on && duty != 0xFFFF && decide (128 ≤ p) then duty else x.dutyTx })
  let o : OutCmd := { src := .stride p, out := i, op := if on then 1 else 2, start := start, duty := duty }
  if 128 ≤ p then
    s.modSat sat (fun y =>
      { y with queue := satInsert { pt := p, bind := c.bind, op := if on then 1 else 2, duty := duty, start := start, due := false } y.queue })
  else match kind with
    | 1 => s.modStr (fun y => { y with solWire := y.solWire ++ [o] })
    | 2 => s.modStr (fun y => { y with hswWire := y.hswWire ++ [o] })
    | _ => s

/-- The duty that an ON of the point carries (R336): 0xFFFF none. -/
def State.onDuty (s : State) (p : Nat) : Nat := if s.ptPwm p then (s.pt p).duty else 0xFFFF

/-- The next window that is predicted for the output of point `p` (R319). -/
def State.setBusy (s : State) (p a b : Nat) : State :=
  s.modStr (fun y => { y with busy := y.busy.set (outKey p (s.ptBind p)) (a, b) })

/-- An ON for a solenoid channel is placed against its bank's bookings (R332). `te` is the tick's execution tag. -/
def State.placeOn (s : State) (p te : Nat) : State :=
  let die := s.ptInst p / 48
  let defer := s.get (F.SOL_DIE_ARB_BOOST_DEFER_MAX die) * usec
  let budget := min (s.get F.STR_STAGGER_BUDGET * usec) defer
  let top := s.get F.STR_STAGGER_STAGGER_MAX * usec
  let d := s.boostEst p * usec
  let a := s.strClear p te
  let b := s.bankFrom p a
  let s0 := max a (max (b.free - budget) b.start)
  let far := decide (top < s0 - a)
  let t := if far then a + top else s0
  let booked := !(far && decide (defer < b.free - t))
  let us := (t - a) / usec
  let begin_ := max t b.free
  let s := if booked then
      s.modStr (fun x => { x with banks := x.banks.set (s.ptBank p) ⟨begin_ + d, begin_⟩ })
    else (s.count ⟨R.STR_CNT_NOBOOST, 0, 16⟩ 1).raise 117
  let s := s.modPt p (fun x => { x with noBoost := !booked, stag := us, stagMax := max x.stagMax us, wait := begin_ - t })
  (s.setBusy p begin_ (begin_ + d + s.peakEst p * usec)).strForm p true t (s.onDuty p)

/-- An OFF starts at te, or at the first instant outside the predicted windows (R331). -/
def State.placeOff (s : State) (p te why : Nat) : State :=
  let t := s.strClear p te
  let dec := if 128 ≤ p || s.ptKind p != 1 then 0 else s.get (F.SOL_CH_TMEAS_DECAY (s.ptInst p)) * usec
  ((s.modPt p (fun x => { x with offWhy := why })).setBusy p t (t + dec)).strForm p false t 0

/-- Any ON. -/
def State.formOn (s : State) (p te : Nat) : State :=
  if s.ptKind p = 1 then s.placeOn p te else s.strForm p true (s.strClear p te) 0xFFFF

/-! ## The decision (R327 to R331) -/

/-- The execution tag of a point at tick `tk` (R317). -/
def State.execTag (s : State) (p tk : Nat) : Nat := tk + (if p < 128 then 2 else s.get F.STR_CFG_Q_SAT) * tickLen

/-- The point is not reachable: its satellite is marked so (R350). -/
def State.ptLost (s : State) (p : Nat) : Bool := decide (128 ≤ p) && (s.str.sats.get (s.ptSat p)).lost

/-- What the point wants (R327): on or off, and why it would go off: 0 coverage, 1 exclusion, 2 force, stop, loss or
rebuild. -/
def State.strWant (s : State) (p te : Nat) : (Bool × Nat) × State :=
  let x := s.pt p
  let mode := s.strMode
  let act := if mode = 4 then s.get F.STR_CFG_STOP_ACTION else s.get F.STR_CFG_LOSS_ACTION
  let hold := mode == 4 || mode == 3
  if mode = 5 ∨ s.ptForce p = 1 then ((false, 2), s)
  else if s.ptForce p = 2 then ((true, 0), s)
  else if hold && act == 0 then ((false, 2), s)
  else if hold && act == 1 then ((x.planOn, 2), s)
  else if !x.planOn then
    let f := s.fractions p (te + x.leadOn * usec)
    let s := f.2.raiseIf f.1.miss 97
    let c := s.onCond p f.1
    let s := if c then s else s.modPt p (fun x => { x with skip := false })
    ((c && !(s.pt p).skip && decide (s.minOff p * 1000 ≤ x.travel), 0), s)
  else
    let f := s.fractions p (te + x.leadOff * usec)
    let s := f.2.raiseIf f.1.miss 97
    if s.exclTol p * f.1.n < f.1.excluded * 100 then ((false, 1), s)
    else ((!(decide (f.1.unapplied * 100 < s.offThresh p * f.1.n) && decide (s.minOn p * 1000 ≤ x.travel)), 0), s)

/-- The decision of one point at tick `tk`: the state, and the point among those that are to go on. -/
def State.strDecide (tk : Nat) (r : State × List Nat) (p : Nat) : State × List Nat :=
  let s := r.1
  if !s.ptActive p then (s.modPt p (fun x => { x with valid := false }), r.2)
  else
    let te := s.execTag p tk
    let s := s.leads p
    let x := s.pt p
    let w := s.strWant p te
    let s := w.2.modPt p (fun x => { x with valid := true, settled := true })
    let auto := s.ptForce p != 2
    if w.1.1 = x.planOn then (s, r.2)
    else if w.1.1 then
      if s.ptLost p then (s, r.2)
      else
        let m := if x.settled && auto then s.lateness p (te + x.leadOn * usec) true s.lateSteps 0 else 0
        if s.get F.STR_LATE_ON_LATE_MAX < m * 250 then
          let s := ((s.count F.STR_CNT_LATE_SKIP 1).raise 116).put ⟨H.sticky .str, 0, 1⟩ 1
          (s.modPt p (fun x => { x with skip := true, skips := min (x.skips + 1) 0xFFFF }), r.2)
        else (s.countLate p (m * 250) true, r.2 ++ [p])
    else
      let m := if x.settled && w.1.2 != 2 then s.lateness p (te + x.leadOff * usec) false s.lateSteps 0 else 0
      ((s.countLate p (m * 250) false).placeOff p te w.1.2, r.2)

/-- Insertion by a key. -/
def insertBy (key : Nat → Nat) (x : Nat) : List Nat → List Nat
  | [] => [x]
  | y :: t => if key x < key y then x :: y :: t else y :: insertBy key x t

/-- Points in the order of their outputs' numbers (R332). -/
def State.byChannel (s : State) (ps : List Nat) : List Nat := ps.foldl (fun l p => insertBy s.ptInst p l) []

/-! ## The lead's satellites (R344 to R350) -/

/-- The bytes of a command for a satellite (R345). -/
def satCmdBytes (c : SatCmd) : List Byte :=
  leBytes 1 (c.bind / 2 ^ 16 % 256) ++ leBytes 1 (c.op * 16) ++
  leBytes 2 (if c.op = 2 then 0 else c.duty) ++ leBytes 1 (c.start % tickLen / usec) ++ leBytes 3 (c.start / tickLen % 2 ^ 24)

/-- Entries of up to 7 commands each, the first with sequence number `q` (R345). -/
def State.satEntries (s : State) (q : Nat) : Nat → List SatCmd → List Byte
  | 0, _ => []
  | k + 1, cs =>
    if cs.isEmpty then []
    else
      let n := min cs.length 7
      leBytes 2 q ++ [0xA0, 3] ++ leBytes 4 n ++ padTo 56 ((cs.take 7).flatMap satCmdBytes) ++
        s.satEntries ((q + 1) % 65536) k (cs.drop 7)

/-- The frame of a push to satellite `a` goes out (R74, R75, R345): by OUT to a satellite behind the lead in the ring, by IN
to one before it. In SPI mode nothing is sent (R49). -/
def State.sendPush (s : State) (a : Nat) (x : SatPush) : State :=
  let body := s.satEntries x.lseq 4 x.cmds
  let me := s.get F.SYS_LINK_MODE_ADDR
  let r : Request := { flags := 0, dev := BitVec.ofNat 8 a, org := BitVec.ofNat 8 me, seq := BitVec.ofNat 8 x.seq, hcrc := 0
                       len := BitVec.ofNat 16 body.length, addr := 10, body := body, trailer := [], crc := 0, waiting := 0 }
  let r := { r with hcrc := hcrc (r.headBytes 4) }
  let r := { r with crc := crc32 (r.plainBytes 4) }
  let port := if Config.ringPosition me < Config.ringPosition a then Port.out else Port.inp
  if s.flag F.SYS_LINK_MODE_LINKSEL then s
  else { s with link := { s.link with sent := s.link.sent ++ [Sent.frame port (r.frame 4)] } }

/-- A new push of commands to satellite `a` (R345). -/
def State.leadPush (s : State) (a : Nat) (cs : List SatCmd) : State :=
  let x := s.str.sats.get a
  let p : SatPush := { seq := x.seq, lseq := x.lseq, cmds := cs, whole := true }
  (s.sendPush a p).modSat a (fun y => { y with inFlight := y.inFlight ++ [p], seq := (y.seq + 1) % 256
                                               lseq := (y.lseq + (cs.length + 6) / 7) % 65536
                                               pushed := some (s.now / tickLen) })

/-- A remote command that was not delivered by its tag (R346, R350): it is handled under R320. A DUTY command has no planned
state. -/
def State.satMissed (s : State) (c : SatCmd) : State :=
  if c.op = 3 then s.cmdDrop else s.strDropped c.pt (c.op == 1) (some c.start)

/-- The tag of a command has come before the command was delivered, and it is not an OFF that goes out all the same. -/
def State.satLate (s : State) (c : SatCmd) : Bool := decide (c.start ≤ s.now) && !c.due

/-- The commands for satellite `a` of this tick: those whose tag has come are removed, the oldest 28 are sent, in at most one
push in a tick (R345, R346). -/
def State.satSend (s : State) (a : Nat) : State :=
  let q := (s.str.sats.get a).queue
  let s := s.each (q.filter s.satLate) State.satMissed
  let q := q.filter (fun c => !s.satLate c)
  let s := s.modSat a (fun y => { y with queue := q })
  if q.isEmpty || (s.str.sats.get a).pushed == some (s.now / tickLen) then s
  else (s.modSat a (fun y => { y with queue := q.drop 28 })).leadPush a (q.take 28)

/-- STR_SAT_BACKLOG shows the deepest queue (R346). -/
def State.satBacklog (s : State) : State :=
  let b := s.str.sats.foldl (fun (b : Nat × Nat) (e : Nat × SatState) =>
    if b.2 < e.2.queue.length then (e.1, e.2.queue.length) else b) (0, 0)
  (s.put F.STR_SAT_BACKLOG_SAT b.1).putSat F.STR_SAT_BACKLOG_DEPTH b.2

/-- Remote commands that were delivered and whose start has come count as executed (R296, R347). -/
def State.satExecuted (s : State) (p : Nat) : State :=
  match (s.pt p).queue.find? (fun c => c.sent && decide (c.start ≤ s.now)) with
  | some c => s.strStarted p c.on c.start
  | none => s

/-- The reachable bit of satellite `a` (R355). -/
def satOk (a : Nat) : Fld := ⟨R.STR_SAT_OK_LO + 4 * (a / 32), a % 32, 1⟩

/-- The remote points of satellite `a`, those whose crossing is still in progress among them (R274). -/
def State.satPoints (s : State) (a : Nat) : List Nat :=
  ((List.range 896).map (· + 128)).filter (fun p =>
    (s.ptOn p || (s.pt p).planOn || (s.cross p).cross != 0) && s.outBind p / 2 ^ 24 % 64 == a)

/-- An open crossing of a point of an unreachable satellite ends now, inferred; an end that is already known stays
(R350). -/
def State.crossLost (s : State) (p : Nat) : State :=
  let c := s.cross p
  if c.cross = 0 ∨ c.stop.isSome then s
  else (s.modCross p (fun c =>
    let c := if c.known then c else c.inferOpen
    { c with cross := 3, tk := if c.cross = 3 then c.tk else s.now, stop := some s.now, infC := true })).crossShow p

/-- A push to satellite `a` failed (R350): it is sent again as it was until the earliest tag it carries has passed. After
that the commands whose tags have passed are handled under R320 and the others wait in the queue again. -/
def State.pushFailed (s : State) (a : Nat) (f : SatPush) : State :=
  let x := s.str.sats.get a
  let s := s.modSat a (fun y => { y with fails := y.fails + 1 })
  let s := if f.whole && f.cmds.all (fun c => decide (s.now < c.start)) then
      (s.sendPush a f).modSat a (fun y => { y with inFlight := f :: y.inFlight })
    else
      let s := s.each (f.cmds.filter s.satLate) State.satMissed
      s.modSat a (fun y => { y with queue := (f.cmds.filter (fun c => !s.satLate c)).foldl (fun q c => satInsert c q) y.queue })
  if x.fails + 1 = 3 ∧ !x.lost then
    let s := ((s.put (satOk a) 0).raise 118).modSat a (fun y => { y with lost := true })
    s.each (s.satPoints a) State.crossLost
  else s

/-- A push to satellite `a` was accepted (R350). -/
def State.pushTaken (s : State) (a : Nat) (cs : List SatCmd) : State :=
  let was := (s.str.sats.get a).lost
  let s := (s.put (satOk a) 1).modSat a (fun y => { y with fails := 0, lost := false })
  let s := s.modSat a (fun y => { y with placed := (y.placed ++ cs).filter (fun c => decide (s.now < c.start)) })
  let s := s.each cs (fun s c => s.modPt c.pt (fun x =>
    { x with queue := x.queue.map (fun q => if q.start = c.start then { q with sent := true } else q) }))
  if was then s.each (s.satPoints a) (fun s p => s.modPt p (fun x => { x with plan := 0, lastOn := false, settled := false, queue := [] }))
  else s

/-! ## Modes (R338 to R342) -/

/-- Every point is free to decide (R331). -/
def State.strFreeAll (s : State) : State :=
  s.modStr (fun x => { x with points := Table.mapAll (fun c : StrPt => { c with settled := false }) x.points })

/-- The stop condition (R338). -/
def State.stopNow (s : State) : Bool :=
  let v := s.gets F.FBK_FUS_OUT
  !s.flag F.FBK_FUS_STAT_VALID || decide (v.natAbs < s.get F.STR_SPEED_SPEED_MIN) || (decide (v < 0) && s.flag F.STR_CFG_REV_STOP)

/-- The condition to leave STOP (R338). -/
def State.goNow (s : State) : Bool :=
  let v := s.gets F.FBK_FUS_OUT
  let r := s.get F.STR_SPEED_SPEED_RESUME
  s.flag F.FBK_FUS_STAT_VALID &&
  (if s.flag F.STR_CFG_REV_STOP then decide ((r : Int) ≤ v) else decide (r ≤ v.natAbs)) && !s.stopNow

/-- STOP at this update (R338). -/
def State.stopStep (s : State) : State :=
  if s.str.stop then (if s.goNow then s.modStr (fun x => { x with stop := false }) else s)
  else if s.stopNow then (s.modStr (fun x => { x with stop := true })).raise 115
  else s

/-- DR and LOSS at this update (R339 to R341). -/
def State.drStep (s : State) : State :=
  let g := s.geoPose
  if s.get F.STR_CFG_QREQ ≤ g.q then
    s.modStr (fun x => { x with base := 0, drPose := none, dr := 0, good := some g })
  else
    let s := if s.str.base = 0 then
        (s.modStr (fun x => { x with base := 1, dr := 0, drPose := some (x.good.getD g) })).raise 113
      else s
    let v := s.gets F.FBK_FUS_OUT
    let carry (p : GeoPose) : GeoPose :=
      let q := arc { p with hdg := g.hdg, yaw := g.yaw, speed := v } msec
      { q with tag := g.tag, hdg := g.hdg, pitch := g.pitch, roll := g.roll, yaw := g.yaw, speed := v, q := g.q }
    let s := s.modStr (fun x => { x with dr := x.dr + v.natAbs, drPose := x.drPose.map carry })
    if s.str.base = 1 ∧ s.get F.STR_DR_DR_MAX * 100000 < s.str.dr then (s.modStr (fun x => { x with base := 2 })).raise 114 else s

/-- The modes of an update: a return to RUN or DR frees every point (R331, R342). -/
def State.modeStep (s : State) : State :=
  let was := s.strMode
  let s := s.stopStep.drStep
  let m := s.strMode
  let s := if 3 ≤ was ∧ (m = 1 ∨ m = 2) then s.strFreeAll else s
  (s.put F.STR_STATE_MODE m).putSat F.STR_STATE_DR (s.str.dr / 100000)

/-! ## Turn compensation and totals (R335 to R337) -/

/-- Turn compensation and travel of a point (R327, R335, R336), with the duty of the layer that its crossing looks at (R274); a point that is not enabled goes on travelling once it has had
a command. -/
def State.turnComp (s : State) (p : Nat) : State :=
  let v := s.gets F.FBK_FUS_OUT
  let yaw := s.gets F.NAV_POSE_SPD_YAW
  let ps := pointSpeed v yaw (s.ptX p) (s.ptY p)
  if !s.ptActive p then
    (if s.pt p = default then s else s.modPt p (fun x => { x with travel := x.travel + ps.natAbs / 1000 }))
  else
    let ref := pointSpeed v yaw 0 (s.gets F.STR_TC_REF_Y)
    let unit := !s.ptTc p || decide (ref.natAbs < s.get F.STR_SPEED_SPEED_MIN * 1000)
    let open_ := s.free 16
    let stuck := !unit && ref == 0
    let s := if stuck then open_.2 else s
    let scale := if unit then 16384 else if stuck then 4096 + open_.1 % 28673 else (clamp 4096 32768 (divOpen 335 (ps * 16384 * (if ref < 0 then -1 else 1)) ref.natAbs)).toNat
    let raw := (divOpen 336 (s.get (⟨R.STR_LAYER_DUTY (s.decideLayer p), 0, 16⟩) * scale : Nat) 16384).toNat
    let duty := min raw 1000
    let s := s.modPt p (fun x => { x with scale := scale, duty := duty, dutySat := decide (1000 < raw), hyd := s.hydDelay p
                                          travel := x.travel + ps.natAbs / 1000 })
    if p < 128 ∧ s.ptPwm p ∧ s.get (F.SOL_CH_CFG_PSRC (s.ptInst p)) = 1 then s.put (F.SOL_CH_DUTY_DUTY (s.ptInst p)) duty else s

/-- A remote point's DUTY command (R336), also while a crossing goes on after its EN was cleared (R274). -/
def State.remoteDuty (s : State) (p : Nat) : State :=
  let x := s.pt p
  let diff := if x.duty ≤ x.dutyTx then x.dutyTx - x.duty else x.duty - x.dutyTx
  if !s.ptActive p || s.ptKind p != 1 || s.ptLost p || decide (diff < s.get F.STR_DUTY_REM_DUTY_DB) ||
     !s.passed x.dutyAt (s.get F.STR_DUTY_REM_DUTY_INT * msec) then s
  else
    let t := s.strClear p (s.execTag p (s.now / tickLen * tickLen))
    let c : SatCmd := { pt := p, bind := s.ptBind p, op := 3, duty := x.duty, start := t, due := false }
    let s := (s.cmdCount 1).modPt p (fun x => { x with dutyTx := x.duty, dutyAt := s.clk })
    s.modSat (s.ptSat p) (fun y => { y with queue := satInsert c y.queue })

/-- The totals of layer `l` (R337). -/
def State.layerTotals (s : State) (l : Nat) : State :=
  let ps := (List.range 1024).filter (fun p => (s.pt p).planOn && s.decideLayer p == l)
  let sum (f : Nat → Nat) := ps.foldl (fun a p => a + f p) 0
  ((s.put ⟨R.STR_LAYER_ON l, 0, 11⟩ ps.length).setNat (R.STR_LAYER_DSUM l) (sum (fun p => if s.ptPwm p then (s.pt p).duty else 1000))).setNat
    (R.STR_LAYER_WIDTH l) (sum s.ptW)

/-- Stride's part of a geometry update (R323, R335 to R341). -/
def State.strUpdate (s : State) : State :=
  let s := s.each (List.range 4) (fun s k => s.put ⟨R.STR_FLOW_VAL k, 0, 24⟩ (s.flow k))
  let s := s.modeStep
  let s := s.each (List.range 1024) State.turnComp
  let s := if s.isLead then s.each ((List.range 896).map (· + 128)) State.remoteDuty else s
  (s.each (List.range 4) State.layerTotals).stamp 7 0

/-! ## The tick (R327) -/

/-- The commands of the tick boundary at the present tag. -/
def State.strTick (s : State) : State :=
  let tk := s.now
  let s := if s.isLead then s.each ((List.range 896).map (· + 128)) State.satExecuted else s
  let ps := if s.isLead then List.range 1024 else List.range 128
  let r := ps.foldl (State.strDecide tk) (s, [])
  let s := r.1.each (r.1.byChannel r.2) (fun s p => s.formOn p (s.execTag p tk))
  let s := if s.isLead then s.each (s.str.sats.map (·.1)) State.satSend else s
  s.satBacklog

/-! ## A satellite's side (R347) -/

/-- The 24-bit tick resolved to the full tick nearest the satellite's own (R345). -/
def nearTick (own t24 : Nat) : Nat :=
  let d := signed 24 ((t24 + 2 ^ 24 - own % 2 ^ 24) % 2 ^ 24)
  ((own : Int) + d).toNat

/-- One command of a LANE10 entry (R345, R347). -/
def State.satCommand (s : State) (b : List Byte) : State :=
  let b0 := (b.getD 0 0).toNat
  let kind := b0 / 128 + 1
  let inst := b0 % 128
  let op := (b.getD 1 0).toNat / 16
  let t := nearTick (s.now / tickLen) (leNat ((b.drop 5).take 3)) * tickLen + (b.getD 4 0).toNat * usec
  let c : OutCmd := { src := .lead t, out := inst, op := op, start := t, duty := leNat ((b.drop 2).take 2) }
  if op = 0 ∨ 3 < op ∨ (if kind = 1 then 96 else 24) ≤ inst then s
  else if op = 1 ∧ t < s.now then s.satReport kind inst 5 t t
  else if kind = 1 then s.modStr (fun y => { y with solWire := y.solWire ++ [c] })
  else if op = 3 then s
  else s.modStr (fun y => { y with hswWire := y.hswWire ++ [c] })

/-- A satellite consumes one LANE10 entry (R347). -/
def State.satEntry (s : State) : State :=
  let r := s.laneConsume 10
  match r.1 with
  | none => r.2
  | some e =>
    let s := r.2
    if !s.isSat || (e.getD 2 0) ≠ 0xA0 || s.tickless then s
    else
      let n := min (leNat ((e.drop 4).take 4)) 7
      s.each (List.range n) (fun s k => s.satCommand ((e.drop (8 + 8 * k)).take 8))

/-- The lead consumes a relayed report (R349). -/
def State.satReported (s : State) (e : List Byte) : State :=
  let p := e.drop 8
  let b1 := (p.getD 1 0).toNat
  let what := (p.getD 2 0).toNat
  let t := leNat ((p.drop 4).take 8)
  let start := leNat ((p.drop 12).take 8)
  let k := if b1 / 128 = 1 then 1000 else 1
  match (s.satPoints (p.getD 0 0).toNat).find? (fun q => s.outBind q / 2 ^ 16 % 256 == b1) with
  | none => s
  | some q =>
    let s := if nbit (p.getD 3 0).toNat 0 then
        s.modPt q (fun x => { x with repOk := true, repO := leNat ((p.drop 20).take 2) * k, repC := leNat ((p.drop 22).take 2) * k })
      else s
    match what with
    | 1 => s.geoOpened q t
    | 2 => s.geoClosed q t
    | 5 | 6 =>
      let x := s.pt q
      let of : Option StrCmd := match x.queue.find? (fun c => c.start == start) with
        | some c => some c
        | none => x.ran.find? (fun c => c.start == start)
      let was := what == 5 || (match of with | some c => c.on | none => x.planOn)
      let newest := x.ranLast was (some start)
      let s := s.strDropped q was (some start)
      if was ∧ newest ∧ (s.cross q).cross = 1 then (s.modCross q (fun c => { c with cross := 0 })).crossShow q else s
    | 7 => (s.strDropped q true).geoClose q t (s.pt q).latC (s.pt q).hyd
    | _ => s

/-! ## The block as a whole (R351) -/

/-- A command of point `p` is on its way to its satellite or has been accepted there: Stride can discard it no more. -/
def State.cmdGone (s : State) (p : Nat) (c : StrCmd) : Bool :=
  c.sent || s.str.sats.any (fun e => e.2.inFlight.any (fun x => x.cmds.any (fun y => y.pt == p && y.start == c.start)))

/-- The commands of point `p` that a disable discards are discarded, and its OFF is formed (R351): the plan is what it was
before them. An OFF is due where the plan is on or on queued, or was on before a discarded OFF. -/
def State.strDisableOff (s : State) (p : Nat) : State :=
  let x := s.pt p
  let kept := if p < 128 then [] else x.queue.filter (s.cmdGone p)
  let was := match x.queue.find? (fun c => !kept.contains c) with | some c => c.was | none => x.plan
  let off := x.planOn || was == 1 || was == 2
  let key := outKey p (s.ptBind p)
  let busy := match kept.getLast?, x.ran.head? with | some c, _ => c.busy | none, some c => c.busy | none, none => s.str.busy.get key
  let s := (s.modStr (fun y => { y with busy := y.busy.set key busy })).modPt p
    (fun x => { x with queue := kept, plan := if x.planOn then x.plan else was })
  if off then s.placeOff p (if p < 128 then s.now else s.execTag p (s.now / tickLen * tickLen)) 3 else s

/-- ENABLE of STR goes from 1 to 0 (R351): the OFFs that do not fit into the first push, and those of a push that fails, go out
at the following ticks. -/
def State.strDisable (s : State) : State :=
  let n := s.str.points.foldl (fun (a : Nat) (e : Nat × StrPt) => a + (e.2.queue.filter (fun c => !s.cmdGone e.1 c)).length) 0 +
    s.str.sats.foldl (fun (a : Nat) (e : Nat × SatState) => a + (e.2.queue.filter (fun c => c.op == 3)).length) 0
  let s := s.count ⟨R.STR_DISC, 0, 16⟩ n
  let keep (q : List OutCmd) : List OutCmd := q.filter (fun c => match c.src with | .stride _ => false | _ => true)
  let s := { s with sol := Table.mapAll (fun c : SolCh => { c with queue := keep c.queue }) s.sol
                    hsw := Table.mapAll (fun c : HswCh => { c with queue := keep c.queue }) s.hsw }
  let s := s.modStr (fun x => { x with solWire := keep x.solWire, hswWire := keep x.hswWire
                                       sats := Table.mapAll (fun c : SatState => { c with queue := [] }) x.sats })
  let s := s.each (List.range 1024) State.strDisableOff
  let s := if s.isLead then s.each (s.str.sats.map (·.1)) State.satSend else s
  s.put F.STR_STATE_MODE 0

/-- ENABLE of STR is set again: every point starts from off (R351). -/
def State.strEnable (s : State) : State :=
  s.modStr (fun x => { x with points := Table.mapAll (fun c : StrPt =>
    { c with settled := false, plan := 0, lastOn := false, skip := false, queue := [] }) x.points })

/-- STR_SUMMARY (R354). -/
def State.strSummary (s : State) : Nat :=
  s.strMode * 2 ^ 24 + ((List.range 64).filter (fun a => s.flag (satOk a))).length % 64 * 2 ^ 16 +
  ((List.range 1024).filter (fun p => (s.pt p).planOn)).length

/-! ## The commands -/

/-- GEOMETRY_UPDATE (R276, R285, R296, R323, R335, R339): at a tag that is a whole multiple of 16,000, and none in a hold
(R41, R223). -/
def execGeometryUpdate (s : State) : Answer :=
  .next (if !s.onGrid (4 * tickLen) then s
         else
           let s := if s.runs .str then s.strUpdate else s
           if s.runs .geo then s.geoUpdate else s)

/-- STRIDE_TICK (R327): at a tag that is a whole multiple of 4,000 (R41), and none in a hold (R343). A disabled block forms no
command and decides no point, and what it still has for its satellites goes out (R351, R359). -/
def execStrideTick (s : State) : Answer :=
  .next (if !s.onGrid tickLen then s
         else if s.runs .str then s.strTick
         else if s.works .str then
           let s := s.modStr (fun x => { x with points := Table.mapAll (fun c : StrPt => { c with valid := false }) x.points })
           if s.isLead && s.str.sats.any (fun e => !e.2.queue.isEmpty) then
             (s.each (s.str.sats.map (·.1)) State.satSend).satBacklog
           else s
         else s)

/-- The oldest push to satellite `a` is answered, or comes back (R75, R350). -/
def State.pushAnswer (s : State) (a : Nat) (ok : Bool) : State :=
  match (s.str.sats.get a).inFlight with
  | [] => s
  | cs :: t =>
    let s := s.modSat a (fun y => { y with inFlight := t })
    if ok then s.pushTaken a cs.cmds else s.pushFailed a cs

/-- LEAD_PUSH_REPLY (R350). -/
def execLeadPushReply (a : Fin 64) (ok : Bool) (s : State) : Answer := .next (s.pushAnswer a.val ok)

/-- SAT_OFF_RETRY (R350): the OFFs join the satellite's queue, which goes out at once where this tick has had no push
(R345). -/
def execSatOffRetry (a : Fin 64) (s : State) : Answer :=
  .next (let x := s.str.sats.get a.val
         if !s.runs .str || !s.isLead || !x.lost || !s.passed x.dueAt (100 * msec) then s
         else
           let ps := (s.satPoints a.val).filter (fun p => (s.pt p).planOn)
           let cs := ps.map (fun p => ({ pt := p, bind := s.outBind p, op := 2, duty := 0, due := false
                                         start := s.strClear p (s.execTag p (s.now / tickLen * tickLen)) } : SatCmd))
           ((s.cmdCount cs.length).modSat a.val (fun y => { y with dueAt := s.clk, queue := cs.foldl (fun q c => satInsert c q) y.queue })).satSend a.val)

/-- SAT_COMMAND_ENTRY (R347). -/
def execSatCommandEntry (s : State) : Answer := .next s.satEntry

/-- SAT_REPORT_ENTRY (R349). -/
def execSatReportEntry (s : State) : Answer :=
  .next (let n := s.get F.STR_SAT_CFG_RELAY
         if n = 0 || !s.isLead || !s.runs .str then s
         else
           let r := s.laneConsume n
           match r.1 with
           | none => r.2
           | some e => if (e.getD 2 0) = 0xA2 then r.2.satReported e else r.2)

/-- WM_REBUILD_END (R38, R342): the engine that lost its memory first has rebuilt it; with the last one the mode ends. -/
def execWmRebuildEnd (s : State) : Answer :=
  .next (match s.str.rebuild with
    | [] => s
    | _ :: t =>
      let s := s.modStr (fun x => { x with rebuild := t })
      if t.isEmpty then s.strFreeAll else s)

end Sys2Proof.Machine
end

