-- ==== Sys2Proof/Machine/Can.lean ====
section
/-! DEFINITION. The CAN block: controllers, message objects, the frame mirror and host submission (R524 to R559). -/

namespace Sys2Proof.Machine

open Sys2Proof

def State.modCtl (s : State) (n : Nat) (f : CanCtl → CanCtl) : State := { s with canCtl := s.canCtl.modify n f }
def State.modObj (s : State) (k : Nat) (f : CanObj → CanObj) : State := { s with canObj := s.canObj.modify k f }

/-! ## Objects and their data -/

/-- The number of data bytes of a data length code (R529). -/
def dlcBytes (fdf : Bool) (dlc : Nat) : Nat :=
  if dlc ≤ 8 then dlc
  else if !fdf then 8
  else match dlc with | 9 => 12 | 10 => 16 | 11 => 20 | 12 => 24 | 13 => 32 | 14 => 48 | _ => 64

/-- The 64 data bytes in the data words of object `k`. -/
def State.canData (s : State) (k : Nat) : List Byte :=
  (List.range 16).flatMap (fun w => leBytes 4 (s.nat (R.CAN_OBJ_DATA k w)))

/-- The data words of object `k` set from bytes, the rest 0. -/
def State.setCanData (s : State) (k : Nat) (b : List Byte) : State :=
  s.each (List.range 16) (fun s w => s.setNat (R.CAN_OBJ_DATA k w) (leNat ((padTo 64 b).drop (4 * w) |>.take 4)))

/-- The field of `w` bits at data bit `o` of a frame's bytes (R272). -/
def canBits (b : List Byte) (o w : Nat) : Nat := leNat b / 2 ^ o % 2 ^ w

/-- The state with a field of object `k`'s data written (R550). -/
def State.canWriteBits (s : State) (k o w v : Nat) : State :=
  s.each (List.range w) (fun s i => s.put ⟨R.CAN_OBJ_DATA k ((o + i) / 32), (o + i) % 32, 1⟩ (bit (nbit v i)))

/-- Object `k` is in an attempt. -/
def State.canActive (s : State) (k : Nat) : Bool := s.flag (F.CAN_OBJ_STAT_ACTIVE k)

/-- A field of the CAN_OBJ_CFG in force: during an attempt the one it began with (R530). -/
def State.canCfg (s : State) (k : Nat) (f : Fld) : Nat :=
  if s.canActive k then (s.canObj.get k).attCfg / 2 ^ f.lo % 2 ^ f.w else s.get f

/-- Object `k` is an enabled object of controller `n` with direction `dir`. -/
def State.canIs (s : State) (n dir k : Nat) : Bool :=
  s.canCfg k (F.CAN_OBJ_CFG_EN k) == 1 && s.canCfg k (F.CAN_OBJ_CFG_DIR k) == dir && s.canCfg k (F.CAN_OBJ_CFG_CTRL k) == n

/-! ## Requests (R531, R534, R536 to R538) -/

/-- A request ends with a result (R539). -/
def State.canFinish (s : State) (k result : Nat) : State :=
  let s := ((s.put (F.CAN_OBJ_STAT_PEND k) 0).put (F.CAN_OBJ_STAT_CXL k) 0).put (F.CAN_OBJ_STAT_SENDQ k) 0
  (s.put (F.CAN_OBJ_STAT_RESULT k) result).modObj k (fun o => { o with tmoLatch := false, discard := false })

/-- Object `k` becomes pending with a new request. -/
def State.canPend (s : State) (k : Nat) : State :=
  let s := ((s.put (F.CAN_OBJ_STAT_PEND k) 1).put (F.CAN_OBJ_STAT_ATTEMPTS k) 0)
  s.modObj k (fun o => { o with pendAt := s.clk, tmoDone := false, errs := 0 })

/-- SEND (R529, R531). -/
def State.canRequest (s : State) (k : Nat) : State :=
  if s.canCfg k (F.CAN_OBJ_CFG_DIR k) = 0 then s
  else if s.canActive k then s.put (F.CAN_OBJ_STAT_SENDQ k) 1
  else if s.flag (F.CAN_OBJ_STAT_PEND k) then s
  else if s.flag (F.CAN_OBJ_CFG_FDF k) && !s.flag (F.CAN_CTL_CFG_FDEN (s.get (F.CAN_OBJ_CFG_CTRL k))) then
    (s.put (F.CAN_OBJ_STAT_ATTEMPTS k) 0).put (F.CAN_OBJ_STAT_RESULT k) 4
  else (s.canPend k).put (F.CAN_OBJ_STAT_RESULT k) 0

/-- CANCEL to an ordinary object (R537). -/
def State.canWithdraw (s : State) (k : Nat) : State :=
  if !s.flag (F.CAN_OBJ_STAT_PEND k) then s
  else if s.canActive k then (s.put (F.CAN_OBJ_STAT_CXL k) 1).put (F.CAN_OBJ_STAT_SENDQ k) 0
  else s.canFinish k 3

/-- Object `k` is privileged (R536). -/
def State.canPriv (s : State) (k : Nat) : Bool := s.canCfg k (F.CAN_OBJ_CFG_PRIV k) == 1

/-- TX_TMO has passed for object `k` (R538). -/
def State.canTmo (s : State) (k : Nat) : State :=
  let s := (s.raise 217).modObj k (fun o => { o with tmoDone := true })
  if s.canPriv k then s
  else if !s.canActive k then s.canFinish k 5
  else if s.flag (F.CAN_OBJ_STAT_CXL k) then s
  else (s.put (F.CAN_OBJ_STAT_SENDQ k) 0).modObj k (fun o => { o with tmoLatch := true })

/-! ## Controllers -/

/-- CAN_CTL_STAT shows the counters and FSTATE (R554). -/
def State.canShow (s : State) (n : Nat) : State :=
  let c := s.canCtl.get n
  let st := if c.mode = 0 then 3 else if c.busOff then 2 else if c.passive then 1 else 0
  ((s.putSat (F.CAN_CTL_STAT_TEC n) c.txErr).putSat (F.CAN_CTL_STAT_REC n) c.rxErr).put (F.CAN_CTL_STAT_FSTATE n) st

/-- The mode that controller `n` is to be in (R526, R528, R551, R604); INIT until the outputs are released (R527, R600). -/
def State.canWants (s : State) (n : Nat) : Nat :=
  if !s.runs .can || ((s.canCtl.get n).held && !s.flag (F.CAN_CTL_CFG_FBRUN n)) || !s.flag F.PWR_STAT_VIO_OK || !s.released then 0
  else s.get (F.CAN_CTL_CFG_MODE n)

/-- A mode change takes effect, unless a frame is in progress (R526). -/
def State.canModeStep (s : State) (n : Nat) : State :=
  if (s.canCtl.get n).inFrame then s
  else (s.modCtl n (fun c => { c with mode := s.canWants n })).canShow n

/-- The frame on the bus of controller `n` has ended. -/
def State.canFrameEnd (s : State) (n : Nat) : State :=
  (s.modCtl n (fun c => { c with inFrame := false })).canModeStep n

/-- The error states after the counters changed (R540): error passive above 127, bus-off above 255 (ISO 11898-1). -/
def State.canErrState (s : State) (n : Nat) : State :=
  let c := s.canCtl.get n
  let p := decide (127 < c.txErr) || decide (127 < c.rxErr)
  let off := decide (255 < c.txErr)
  let s := s.raiseIf (p && !c.passive && !off) 212
  let s := s.modCtl n (fun c => { c with passive := p })
  let s := if off && !c.busOff then
      let s := ((s.raise (209 + n)).count (F.CAN_CTL_CNT_BUSOFF n) 1).put ⟨H.sticky .can, 1, 1⟩ 1
      s.modCtl n (fun c => { c with busOff := true, recover := s.flag (F.CAN_CTL_CFG_AUTO_REC n) })
    else s
  s.canShow n

/-- An error frame is seen (R554). -/
def State.canErrSeen (s : State) (n lec : Nat) : State :=
  (s.count (F.CAN_CTL_CNT_ERR n) 1).put (F.CAN_CTL_LEC_LEC n) lec

/-! ## The mirror (R547) -/

/-- The message of a frame. -/
def mirrorMsg (type n obj sof : Nat) (f : CanFrame) : List LaneEntry :=
  let len := if f.rtr then 0 else dlcBytes f.fdf f.dlc.toNat
  let d := padTo len f.data
  let head := leBytes 8 sof ++
    leBytes 4 (f.id.toNat + 2 ^ 29 * bit f.brs + 2 ^ 30 * bit f.fdf + 2 ^ 31 * bit f.ide) ++
    leBytes 1 (f.dlc.toNat + 64 * bit f.esi + 128 * bit f.rtr) ++ leBytes 1 n ++ leBytes 2 obj
  let e1 : LaneEntry := ⟨type, len, head ++ d.take 40⟩
  if len ≤ 40 then [e1] else [e1, ⟨type, len, d.drop 40⟩]

/-- The frame is mirrored where LANE9 carries the mirror and `sel` selects it. -/
def State.canMirror (s : State) (type n obj sof : Nat) (sel : Bool) (f : CanFrame) : State :=
  if sel && s.present .can && s.laneOut 9 then s.laneProduce 9 (mirrorMsg type n obj sof f) else s

/-! ## Reception (R543 to R546, R549) -/

/-- Object `k` takes frame `f` (R543): a base identifier is in bits 10 to 0 (R556). -/
def State.canMatches (s : State) (n k : Nat) (f : CanFrame) : Bool :=
  let m := s.get (F.CAN_OBJ_MASK k) % 2 ^ (if f.ide then 29 else 11)
  s.canIs n 0 k && !f.rtr &&
  (f.id.toNat &&& m) == (s.get (F.CAN_OBJ_ID k) &&& m) &&
  s.flag (F.CAN_OBJ_CFG_IDE k) == f.ide &&
  (!s.flag (F.CAN_OBJ_CFG_MATCH_FDF k) || s.flag (F.CAN_OBJ_CFG_FDF k) == f.fdf)

/-- The object that takes the frame (R543). -/
def State.canTaker (s : State) (n : Nat) (f : CanFrame) : Option Nat :=
  (List.range 256).find? (fun k => s.canMatches n k f)

/-- The usable speed of a stored ISO 11783 speed message in mm/s (R549). -/
def isoSpeed (d : List Byte) : Option Int :=
  let raw := leNat (d.take 2)
  if d.length < 8 ∨ 0xFAFF < raw then none
  else
    let dir := (d.getD 7 0).toNat % 4
    some (clamp (-32767) 32767 (if dir = 0 then -(raw : Int) else raw))

/-- The speed of the stored frame is decoded (R549); a speed that is not usable has no stated value. -/
def State.canDecode (s : State) (k : Nat) : State :=
  let d := s.get (F.CAN_OBJ_CFG_DECODE k)
  if d ≠ 1 ∧ d ≠ 2 then s
  else match isoSpeed (s.canObj.get k).stored.data with
    | some v => ((s.put (F.CAN_OBJ_DEC_OK k) 1).puts (F.CAN_OBJ_DEC_SPD k) v).modObj k
        (fun o => { o with usableAt := s.clk, spdLost := false })
    | none => let r := s.free 16; (r.2.put (F.CAN_OBJ_DEC_OK k) 0).put (F.CAN_OBJ_DEC_SPD k) r.1

/-- Object `k` stores a frame (R544, R546). -/
def State.canStore (s : State) (k sof : Nat) (f : CanFrame) : State :=
  let f' := { f with data := padTo (dlcBytes f.fdf f.dlc.toNat) f.data }
  let s := if s.flag (F.CAN_OBJ_RXHDR_NEW k) then
      ((s.put (F.CAN_OBJ_RXHDR_OVR k) 1).count (F.CAN_OBJ_CNT_SKIP k) 1).raise 214
    else s
  let s := (s.put (F.CAN_OBJ_RXHDR_NEW k) 1).count (F.CAN_OBJ_CNT_N k) 1
  let s := (s.put (F.CAN_OBJ_STAT_RXTO k) 0).modObj k (fun o => { o with stored := f', storedT := sof, storedAt := s.clk })
  s.canDecode k

/-- A frame is received by controller `n` (R543, R547). -/
def State.canReceive (s : State) (n sof : Nat) (f : CanFrame) : State :=
  let t := s.canTaker n f
  let s := match t with
    | some k => s.canStore k sof f
    | none => s.count (F.CAN_CTL_RXNM n) 1
  s.canMirror 0xC0 n (t.getD 0xFFFF) sof
    (s.flag (F.CAN_CTL_MIR_RX_ALL n) || (s.flag (F.CAN_CTL_MIR_RX_OBJ n) && t.isSome)) f

/-- A read of CAN_OBJ_RXHDR makes the read copy and clears NEW and OVR (R545, R559). -/
def State.canReadCopy (s : State) (k : Nat) : State :=
  let o := s.canObj.get k
  let f := o.stored
  let s := ((s.put (F.CAN_OBJ_RXHDR_NEW k) 0).put (F.CAN_OBJ_RXHDR_OVR k) 0)
  if s.canCfg k (F.CAN_OBJ_CFG_DIR k) = 1 then s
  else
    let s := (s.putB (F.CAN_OBJ_RXHDR_IDE k) f.ide).put (F.CAN_OBJ_RXHDR_ID k) f.id.toNat
    let s := ((s.putB (F.CAN_OBJ_RXINFO_FDF k) f.fdf).putB (F.CAN_OBJ_RXINFO_BRS k) f.brs)
    let s := (s.putB (F.CAN_OBJ_RXINFO_ESI k) f.esi).put (F.CAN_OBJ_RXINFO_DLC k) f.dlc.toNat
    (s.setNat64 (R.CAN_OBJ_T_LO k) o.storedT).setCanData k f.data

/-- The receive error counter after a frame was received (ISO 11898-1): one less, or a value from 119 to 127. -/
def State.canHeardOk (s : State) (n : Nat) : State :=
  let c := s.canCtl.get n
  if c.rxErr ≤ 127 then (s.modCtl n (fun c => { c with rxErr := c.rxErr - 1 })).canErrState n
  else
    let r := s.free 4
    (r.2.modCtl n (fun c => { c with rxErr := 119 + r.1 % 9 })).canErrState n

/-- An error is heard in a frame of another node (ISO 11898-1), with `again` further ones in the node's own flags. -/
def State.canHeardErr (s : State) (n lec : Nat) (heavy : Bool) (again : Nat) : State :=
  ((s.canErrSeen n lec).modCtl n (fun c => { c with rxErr := c.rxErr + (if heavy then 8 else 1) + 8 * again })).canErrState n

/-- What controller `n` hears from another node (R524, R526, R543). -/
def State.canHear (s : State) (n : Nat) (h : CanHeard) : State :=
  let m := (s.canCtl.get n).mode
  if !s.works .can || (m ≠ 1 ∧ m ≠ 2) || (s.canCtl.get n).busOff || (s.canCtl.get n).active.isSome then s
  else
    let s := match h with
      | .error lec heavy again => s.canHeardErr n lec.toNat heavy again
      | .frame f sof =>
        if f.fdf && !s.flag (F.CAN_CTL_CFG_FDEN n) then s.canHeardErr n 2 false 0
        else (s.canHeardOk n).canReceive n sof.toNat f
    s.canFrameEnd n

/-! ## Transmission (R532, R535, R537, R542) -/

/-- The order in which frames win arbitration: base identifier, then base before extended format, then the extension
(R532). -/
def State.canPriority (s : State) (k : Nat) : Nat :=
  let id := s.get (F.CAN_OBJ_ID k)
  if s.flag (F.CAN_OBJ_CFG_IDE k) then id / 2 ^ 18 * 2 ^ 19 + 2 ^ 18 + id % 2 ^ 18 else id % 2 ^ 11 * 2 ^ 19

/-- The better of two candidates; the earlier one on a tie. -/
def State.canBetter (s : State) (b : Option Nat) (k : Nat) : Option Nat :=
  match b with
  | some j => if s.canPriority k < s.canPriority j then some k else some j
  | none => some k

/-- Controller `n` can send object `k`: an FD frame only while FDEN = 1 (R524); an FD object that is pending while FDEN is 0
waits (log entry 1512). -/
def State.canSends (s : State) (n k : Nat) : Bool := !s.flag (F.CAN_OBJ_CFG_FDF k) || s.flag (F.CAN_CTL_CFG_FDEN n)

/-- The object that controller `n` sends next (R532). -/
def State.canChoose (s : State) (n : Nat) : Option Nat :=
  ((List.range 256).filter (fun k => s.canIs n 1 k && s.flag (F.CAN_OBJ_STAT_PEND k) && s.canSends n k)).foldl s.canBetter none

/-- The frame that object `k` sends now, with the ESI of controller `n` (R524, R532): a base identifier is in bits 10 to 0
(R556). -/
def State.canOwnFrame (s : State) (n k : Nat) : CanFrame where
  id := BitVec.ofNat 29 (s.get (F.CAN_OBJ_ID k) % 2 ^ (if s.flag (F.CAN_OBJ_CFG_IDE k) then 29 else 11))
  ide := s.flag (F.CAN_OBJ_CFG_IDE k)
  fdf := s.flag (F.CAN_OBJ_CFG_FDF k)
  brs := s.flag (F.CAN_OBJ_CFG_BRS k)
  esi := (s.canCtl.get n).passive && s.flag (F.CAN_OBJ_CFG_FDF k)
  rtr := false
  dlc := BitVec.ofNat 4 (s.get (F.CAN_OBJ_CFG_DLC k))
  data := (s.canData k).take (dlcBytes (s.flag (F.CAN_OBJ_CFG_FDF k)) (s.get (F.CAN_OBJ_CFG_DLC k)))

/-- A start of frame at controller `n`: its own next frame where it has one, else another node's (R532). LOOPBACK hears no
other node (R526). -/
def State.canSof (s : State) (n : Nat) : State :=
  let c := s.canCtl.get n
  if !s.works .can || c.mode = 0 || c.busOff || c.inFrame then s
  else
    let t := s.modCtl n (fun c => { c with inFrame := true })
    match (if c.mode = 2 then none else s.canChoose n) with
    | none => if c.mode = 3 then s else t
    | some k =>
      let s := t
      let f := s.canOwnFrame n k
      let w := s.nat (R.CAN_OBJ_CFG k)
      let s := (s.put (F.CAN_OBJ_STAT_ACTIVE k) 1).modObj k (fun o => { o with att := f, attCfg := w, attSof := s.now })
      s.modCtl n (fun c => { c with active := some k })

/-- An attempt of object `k` of controller `n` succeeds (R531, R535, R537). -/
def State.canSent (s : State) (n k : Nat) : State :=
  let o := s.canObj.get k
  let late := s.flag (F.CAN_OBJ_STAT_CXL k) || o.tmoLatch
  let again := s.flag (F.CAN_OBJ_STAT_SENDQ k) && !late && !o.discard
  let s := (s.modCtl n (fun c => { c with txErr := c.txErr - 1 })).canErrState n
  let s := (s.count (F.CAN_OBJ_CNT_N k) 1).setNat64 (R.CAN_OBJ_T_LO k) o.attSof
  let s := ((s.put (F.CAN_OBJ_STAT_CLASHRUN k) 0).put (F.CAN_OBJ_STAT_ACTIVE k) 0).canFinish k (if late then 2 else 1)
  let s := s.raiseIf late 215
  let s := if again then s.canPend k else s
  let s := s.canMirror 0xC1 n k o.attSof (s.flag (F.CAN_CTL_MIR_TX n)) o.att
  if (s.canCtl.get n).mode = 3 then s.canReceive n o.attSof o.att else s

/-- After a failed attempt: what happens to the request (R531, R535 to R538, R551). `err` where it failed by an error. -/
def State.canFailed (s : State) (k retry : Nat) (priv err : Bool) : State :=
  let o := s.canObj.get k
  let cxl := s.flag (F.CAN_OBJ_STAT_CXL k)
  let queued := s.flag (F.CAN_OBJ_STAT_SENDQ k)
  let errs := o.errs + bit err
  let s := (s.count (F.CAN_OBJ_STAT_ATTEMPTS k) 1).put (F.CAN_OBJ_STAT_ACTIVE k) 0
  let s := (s.put (F.CAN_OBJ_STAT_SENDQ k) 0).modObj k (fun o => { o with errs := errs })
  if o.discard then (s.canFinish k 6).count F.CAN_DISC 1
  else if cxl then s.canFinish k (if o.tmoLatch then 5 else 3)
  else if o.tmoLatch then s.canFinish k 5
  else if priv || !err || errs ≤ retry then s
  else if queued then s.canPend k
  else s.canFinish k 4

/-- The run of collisions on an identical identifier (R542). -/
def State.canClash (s : State) (n k : Nat) (hit : Bool) : State :=
  let run := s.get (F.CAN_OBJ_STAT_CLASHRUN k) + 1
  if !hit then s.put (F.CAN_OBJ_STAT_CLASHRUN k) 0
  else if run < 3 then s.put (F.CAN_OBJ_STAT_CLASHRUN k) run
  else
    let s := (s.put (F.CAN_OBJ_STAT_CLASHRUN k) 0).raise 213
    let s := (s.put (F.CAN_CTL_CLASH_VALID n) 1).put (F.CAN_CTL_CLASH_OBJ n) k
    s.put ⟨H.sticky .can, 2, 1⟩ 1

/-- The transmit error counter after an error (ISO 11898-1): 8 more, but for a missing acknowledgement while error passive and
for a stuff error during arbitration, and 8 more for each further error in the node's own error and overload flags. -/
def CanCtl.txError (c : CanCtl) (lec : Nat) (arb : Bool) (again : Nat) : CanCtl :=
  { c with txErr := c.txErr + (if (lec = 3 ∧ c.passive) ∨ (lec = 1 ∧ arb) then 0 else 8) + 8 * again }

/-- The attempt of controller `n` ends (R535). -/
def State.canAttempt (s : State) (n : Nat) (r : CanOutcome) : State :=
  match (s.canCtl.get n).active with
  | none => s
  | some k =>
    let w := (s.canObj.get k).attCfg
    let priv := nbit w 29
    let retry := w / 2 ^ 16 % 256
    let s := s.modCtl n (fun c => { c with active := none })
    match r with
    | .success => (s.canSent n k).canFrameEnd n
    | .lost => (s.canClash n k false).canFailed k retry priv false
    | .error lec data arb again =>
      let s := ((s.canErrSeen n lec.toNat).put (F.CAN_CTL_LEC_OBJ n) k).modCtl n (fun c => c.txError lec.toNat arb again)
      let s := s.canErrState n
      let s := s.canClash n k (data && (lec == 4 || lec == 5))
      (s.canFailed k retry priv true).canFrameEnd n

/-! ## Host submission (R548) -/

/-- Discards the message at the front of LANE9: the entry, and a second one that continues it. -/
def State.canDropMsg (s : State) : State :=
  let s := (s.laneTake 9).2.count F.CAN_DISC 1
  let t := s.get (F.LANE_TAIL_TAIL 9)
  if s.laneLevel 9 ≠ 0 ∧ ¬ nbit (s.byte (s.laneSlot 9 t + 3)).toNat 0 then (s.laneTake 9).2 else s

/-- LANE9's messages are consumed, discarded and counted (R551). -/
def State.canDropAll (s : State) : Nat → State
  | 0 => s
  | k + 1 => if s.laneLevel 9 = 0 then s else s.canDropMsg.canDropAll k

/-- CAN consumes the message at the front of LANE9, or waits for its object or for the rest of it (R548). -/
def State.canSubmit (s : State) : State :=
  if !s.laneIn 9 || !s.works .can then s
  else
    let s := s.laneSkip 9 (s.laneLevel 9)
    let t := s.get (F.LANE_TAIL_TAIL 9)
    let e := s.bytes (s.laneSlot 9 t) 64
    let p := e.drop 8
    let k := (p.getD 0 0).toNat
    let dlc := (p.getD 2 0).toNat % 16
    let fdf := s.flag (F.CAN_OBJ_CFG_FDF k)
    let long := decide (48 < dlcBytes fdf dlc)
    let takes := s.canCfg k (F.CAN_OBJ_CFG_EN k) == 1 && s.canCfg k (F.CAN_OBJ_CFG_DIR k) == 1 && !s.canPriv k
    if s.laneLevel 9 = 0 then s
    else if !s.enabled .can || (e.getD 2 0) ≠ 0xC2 || !nbit (e.getD 3 0).toNat 0 then s.canDropMsg
    else if !takes then s.canDropMsg
    else if s.flag (F.CAN_OBJ_STAT_PEND k) || s.canActive k then s
    else if long && s.laneLevel 9 < 2 then s
    else
      let e2 := s.bytes (s.laneSlot 9 (s.laneNext 9 t)) 64
      if long && (nbit (e2.getD 3 0).toNat 0 || (e2.getD 2 0) ≠ 0xC2) then s.canDropMsg
      else
        let s := (s.laneTake 9).2
        let s := if long then (s.laneTake 9).2 else s
        let s := if nbit (p.getD 1 0).toNat 0 then s.put (F.CAN_OBJ_ID k) (leNat ((p.drop 4).take 4)) else s
        let s := s.put (F.CAN_OBJ_CFG_DLC k) dlc
        let d := (p.drop 8).take 48 ++ (if long then (e2.drop 8).take 16 else [])
        (s.setCanData k (d.take (dlcBytes fdf dlc))).canRequest k

/-! ## Fields (R550) -/

/-- The objects among `ks` each request a SEND. -/
def State.canSendAll (s : State) (ks : List Nat) : State := s.each ks State.canRequest

/-- The points of one te take their values (R550) and count as executed: the objects with TRIG_CHG = 1 whose fields changed request a SEND. -/
def State.canFields (s : State) (xs : List (Nat × Bool)) : State :=
  let r := xs.foldl (fun (acc : State × List Nat) x =>
      let s := acc.1
      let c := (takeCmd x.2 (s.pt x.1).queue).1
      let b := match c with | some c => c.bind | none => s.outBind x.1
      let e := match c with | some c => c.vals | none => s.nat (R.GEO_PT_CANVAL x.1)
      let k := bindInst b
      let o := b / 2 ^ 6 % 512
      let w := b / 2 ^ 3 % 8 + 1
      let v := if x.2 then e % 256 else e / 2 ^ 8 % 256
      if bindKind b ≠ 3 then acc
      else
        let changed := canBits (s.canData k) o w != v % 2 ^ w
        ((s.canWriteBits k o w v).strStarted x.1 x.2 s.now, if changed && !acc.2.contains k then acc.2 ++ [k] else acc.2)) (s, [])
  r.1.canSendAll (r.2.filter (fun k => r.1.canCfg k (F.CAN_OBJ_CFG_TRIG_CHG k) == 1))

/-! ## The block as a whole -/

/-- ENABLE of CAN goes from 1 to 0 (R551). -/
def State.canDisable (s : State) : State :=
  let s := s.each (List.range 256) (fun s k =>
    if !s.flag (F.CAN_OBJ_STAT_PEND k) then s
    else if s.canActive k then s.modObj k (fun o => { o with discard := true })
    else (s.canFinish k 6).count F.CAN_DISC 1)
  let s := if s.laneIn 9 then s.canDropAll (s.laneLevel 9) else s
  s.each [0, 1, 2] State.canModeStep

/-- ENABLE of CAN is set again: each controller returns to its MODE (R551). -/
def State.canEnable (s : State) : State := s.each [0, 1, 2] State.canModeStep

/-- A clock fallback begins, or PLL_SYS runs from the XO again (R528). -/
def State.canClock (s : State) (fallback : Bool) : State :=
  s.each [0, 1, 2] (fun s n =>
    (s.modCtl n (fun c => { c with held := fallback })).canModeStep n)

/-- VIO is lost (R604), or outputs are forced off for start-up (R600): each controller that is not in INIT enters it at once; the frame in progress is abandoned, which
resolves a cancel latched in its attempt (R537), and other pending objects stay pending. -/
def State.canCut (s : State) : State :=
  s.each [0, 1, 2] (fun s n =>
    let s := match (s.canCtl.get n).active with | some k => s.canFailed k 0 true false | none => s
    (s.modCtl n (fun c => { c with inFrame := false, active := none })).canModeStep n)

/-- CAN_SUMMARY (R553). -/
def State.canSummary (s : State) : Nat :=
  let priv := ((List.range 256).filter s.canPriv).length
  let pend := ((List.range 256).filter (fun k => s.flag (F.CAN_OBJ_STAT_PEND k))).length
  let bits (p : CanCtl → Bool) := (List.range 3).foldl (fun m n => if p (s.canCtl.get n) then m + 2 ^ n else m) 0
  priv % 32 * 2 ^ 24 + min pend 255 * 2 ^ 16 + bits (fun c => c.busOff) * 2 ^ 8 +
    bits (fun c => c.passive && !c.busOff) * 2 ^ 4 + bits (fun c => c.mode != 0)

/-! ## The commands -/

/-- CAN_START_OF_FRAME (R532). -/
def execCanStartOfFrame (n : Fin 3) (s : State) : Answer := .next (s.canSof n.val)

/-- CAN_FRAME_RECEIVED (R543, R544). -/
def execCanFrameReceived (n : Fin 3) (h : CanHeard) (s : State) : Answer := .next (s.canHear n.val h)

/-- CAN_PERIODIC_REQUEST (R534): at a tag that is PHASE ms after a whole multiple of PERIOD ms. -/
def execCanPeriodicRequest (k : Fin 256) (s : State) : Answer :=
  .next (if !s.runs .can || s.canCfg k.val (F.CAN_OBJ_CFG_EN k.val) = 0 || s.canCfg k.val (F.CAN_OBJ_CFG_DIR k.val) = 0 ||
            s.get (F.CAN_OBJ_TIME_PERIOD k.val) = 0 ||
            s.now % (s.get (F.CAN_OBJ_TIME_PERIOD k.val) * msec) != s.get (F.CAN_OBJ_TIME_PHASE k.val) * msec then s
         else if s.flag (F.CAN_OBJ_STAT_PEND k.val) || s.canActive k.val then s.count (F.CAN_OBJ_CNT_SKIP k.val) 1
         else s.canRequest k.val)

/-- TX_TMO (R538). -/
def execTxTmo (k : Fin 256) (s : State) : Answer :=
  .next (let t := s.get (F.CAN_OBJ_TMO_TX_TMO k.val)
         let o := s.canObj.get k.val
         if t ≠ 0 ∧ s.flag (F.CAN_OBJ_STAT_PEND k.val) ∧ s.passed o.pendAt (t * msec) ∧ !o.tmoDone then s.canTmo k.val else s)

/-- CAN_RX_TIMEOUT (R546, R549). -/
def execCanRxTimeout (k : Fin 256) (s : State) : Answer :=
  .next (let t := s.get (F.CAN_OBJ_TMO_RX_TMO k.val)
         let o := s.canObj.get k.val
         let d := s.get (F.CAN_OBJ_CFG_DECODE k.val)
         if t = 0 || !s.runs .can || s.canCfg k.val (F.CAN_OBJ_CFG_EN k.val) = 0 || s.canCfg k.val (F.CAN_OBJ_CFG_DIR k.val) = 1 then s
         else
           let s := if s.passed o.storedAt (t * msec) then s.put (F.CAN_OBJ_STAT_RXTO k.val) 1 else s
           if (d = 1 ∨ d = 2) ∧ s.passed o.usableAt (t * msec) ∧ !o.spdLost then
             (s.raise 216).modObj k.val (fun o => { o with spdLost := true })
           else s)

/-- BUS_ON (R541). -/
def execBusOn (n : Fin 3) (s : State) : Answer :=
  .next (let c := s.canCtl.get n.val
         if c.busOff && c.recover && c.mode != 0 then
           ((s.modCtl n.val (fun c => { c with busOff := false, recover := false, passive := false, txErr := 0, rxErr := 0 })).canShow
             n.val).raise 218
         else s)

/-- CAN_SUBMIT_ENTRY (R548). -/
def execCanSubmitEntry (s : State) : Answer := .next s.canSubmit

/-- CAN_FIELD_COMMAND (R550). -/
def execCanFieldCommand (points : List (Fin 128 × Bool)) (s : State) : Answer :=
  .next (if s.works .can then s.canFields (points.map (fun p => (p.1.val, p.2))) else s)

end Sys2Proof.Machine
end

