-- ==== Sys2Proof/Machine/Sol.lean ====
section
/-! DEFINITION. The solenoid and nozzle drive: commands, profiles, boost arbitration, PWM, current mode, duty windows and
protection (R362 to R407). -/

namespace Sys2Proof.Machine

open Sys2Proof

def State.modSol (s : State) (n : Nat) (f : SolCh → SolCh) : State := { s with sol := s.sol.modify n f }

/-- The die and the bank of a channel (R25). -/
def dieOf (n : Nat) : Nat := n / 48
def bankOf (n : Nat) : Nat := n / 8

/-- Event `k` of group 8 for die A or of group 9 for die B (R399). -/
def dieEvent (d k : Nat) : Nat := 128 + 16 * d + k

/-- PHASE of a channel (R406): 0 OFF, 1 WAIT, 2 BOOST, 3 NOBOOST, 4 PEAK, 5 HOLD or current regulation, 6 DECAY, 7 CAL. -/
def State.phase (s : State) (n : Nat) : Nat := s.get (F.SOL_CH_STAT_PHASE n)

/-- A phase in which the low side is on, or chops: its time is on-time (R390). -/
def onPhase (ph : Nat) : Bool := decide (2 ≤ ph) && decide (ph ≤ 5)

/-- The on-time of the present sub-window of channel `n` up to now, in 1/16 µs (R390). -/
def State.onTime (s : State) (n : Nat) : Nat :=
  let c := s.sol.get n
  c.onAcc + (if onPhase (s.phase n) then s.clk - max c.phaseAt c.winAt else 0)

/-- MODE of a channel (R369): 0 OFF, 1 SWITCH, 2 PWM, 3 CURRENT. -/
def State.solMode (s : State) (n : Nat) : Nat := s.get (F.SOL_CH_CFG_MODE n)

/-- The sensing of channel `n` sees it leave phase `old` for `ph`: its opening window ends with PEAK or the rise (R408), and
the DECAY part of its closing window with DECAY (R412). -/
def ArmCh.phased (a : ArmCh) (now old ph : Nat) : ArmCh :=
  { a with peakAt := if a.openWin && ph == 4 then some now else a.peakAt
           openEnd := if a.openWin && decide (2 ≤ old) && decide (old ≤ 4) && !(decide (2 ≤ ph) && decide (ph ≤ 4)) then some now
                      else a.openEnd
           decayEnd := if a.closeWin && old == 6 && ph != 6 then some now else a.decayEnd }

/-- The channel enters a phase now: the on-time of the phase it leaves is added (R390), the instant of entry into OFF is
kept (R396), as is that of the end of a HOLD of at least 10 ms (R416), and a HOLD that begins under derate is marked (R415). -/
def State.setPhase (s : State) (n ph : Nat) : State :=
  let on := s.onTime n
  let hot := s.flag (F.SOL_CH_STAT_DERATE n)
  let held := s.phase n == 5 && s.solMode n != 3 && s.passed (s.sol.get n).phaseAt (10 * msec)
  let s := (s.modArm n (fun a => { a.phased s.now (s.phase n) ph with
    holdEnd := if held then s.clk else a.holdEnd })).modSol n (fun c =>
    { c with phaseAt := s.clk, onAcc := on, offAt := if ph = 0 then s.clk else c.offAt
             derated := if ph = 5 then hot else c.derated })
  s.put (F.SOL_CH_STAT_PHASE n) ph

/-- The hold derate of channel `n` is in force, or not (R391, R393); a HOLD that it falls in is marked (R415). -/
def State.derateShow (s : State) (n : Nat) (hot : Bool) : State :=
  (s.putB (F.SOL_CH_STAT_DERATE n) hot).modSol n (fun c => { c with derated := c.derated || (hot && s.phase n == 5) })

/-- Channel `n` leads a pair (R372). -/
def State.solPaired (s : State) (n : Nat) : Bool := n % 2 == 0 && s.flag (F.SOL_CH_CFG_PAIR n)

/-- The channel and its block are enabled. -/
def State.solEnabled (s : State) (n : Nat) : Bool := s.runs .sol && s.solHere n && s.flag (F.SOL_CH_CTRL_EN n)

/-- A safe state forces die `d`'s outputs off: start-up, drive safe, supply safe, limp-home, safe course (R374, R395). -/
def State.outForced (s : State) (d : Nat) : Bool :=
  s.safe || !s.flag F.PWR_STAT_OUTREL || s.flag F.PWR_STAT_SSAFE || s.flag F.HSW_LH_STAT_ACTIVE ||
  s.flag (if d = 0 then F.PWR_STAT_DSAFE_A else F.PWR_STAT_DSAFE_B)

/-- The bank is off under R368. -/
def State.bankOff (s : State) (b : Nat) : Bool := s.flag (F.SOL_BANK_STAT_OC b) || s.flag (F.SOL_BANK_STAT_UV b)

/-- A short keeps the channel off: its own, or that of the other channel of its pair (R392). -/
def State.shortHeld (s : State) (n : Nat) : Bool :=
  s.flag (F.SOL_CH_FLT_SHORT n) || (s.solPaired n && s.flag (F.SOL_CH_FLT_SHORT (n + 1)))

/-- Something other than the enables keeps the channel off. -/
def State.solBlocked (s : State) (n : Nat) : Bool :=
  s.outForced (dieOf n) || s.shortHeld n || s.bankOff (bankOf n) || s.flag (F.SOL_DIE_STAT_OFF140 (dieOf n)) ||
  s.flag (F.SOL_CH_STAT_LIMITED n)

/-! ## Drops and acceptance (R374, R704) -/

/-- A command is dropped (R374): a Stride command is reported to Stride, a LANE10 command to the lead (R320, R347). -/
def State.solDrop (s : State) (n : Nat) (c : OutCmd) (reason : Nat) : State :=
  let s := ((s.count ⟨R.SOL_CH_DROP n, 0, 16⟩ 1).put (F.SOL_CH_STAT_LASTDROP n) reason).raise (dieEvent (dieOf n) 15)
  match c.src with
  | .stride p => s.strDropped p (c.op == 1)
  | .lead t => s.satReport 1 n (if reason = 7 then 5 else 6) t t
  | .host => s

/-- The command takes effect: Stride and GEO, or the satellite's record of it, learn of its execution. -/
def State.cmdDone (s : State) (kind : Nat) (c : OutCmd) : State :=
  match c.src with
  | .stride p => s.strStarted p (c.op == 1) c.start
  | .lead t => s.modStr (fun x => { x with satOn := x.satOn.set ((kind - 1) * 128 + c.out) (c.op == 1)
                                           satLast := x.satLast.set ((kind - 1) * 128 + c.out) t })
  | .host => s

/-- The queue with a command put in, in the order of start instants (R380). -/
def queueIn (c : OutCmd) (q : List OutCmd) : List OutCmd :=
  q.filter (fun x => decide (x.start ≤ c.start)) ++ c :: q.filter (fun x => decide (c.start < x.start))

/-- Whether a command comes from the source that CSRC names (R370). -/
def OutCmd.fits (c : OutCmd) (csrc : Bool) : Bool :=
  match c.src with
  | .host => !csrc
  | _ => csrc

/-- The reason to drop a command on arrival, or 0 (R704). -/
def State.solArrival (s : State) (n : Nat) (c : OutCmd) : Nat :=
  if s.solFollows n then 9
  else if !c.fits (s.flag (F.SOL_CH_CFG_CSRC n)) then 2
  else if !s.solEnabled n then 10
  else if s.solMode n = 0 ∨ s.solMode n = 3 then 3
  else if c.op = 1 && s.outForced (dieOf n) then 12
  else if c.op = 1 && decide (c.start < s.now) then 7
  else if 8 ≤ (s.sol.get n).queue.length then 8
  else 0

/-- A command reaches its die (R380, R381, R704): a host command's start instant is its arrival. -/
def State.solArrive (s : State) (c : OutCmd) : State :=
  let n := c.out
  let c := match c.src with | .host => { c with start := s.now } | _ => c
  if c.op = 3 then
    if s.solMode n = 2 ∧ s.get (F.SOL_CH_CFG_PSRC n) = 1 ∧ (s.sol.get n).queue.length < 8 then
      s.modSol n (fun x => { x with queue := queueIn c x.queue })
    else s
  else
    let r := s.solArrival n c
    if r ≠ 0 then s.solDrop n c r else s.modSol n (fun x => { x with queue := queueIn c x.queue })

/-- The reason to drop a queued command at its start instant, or 0 (R704). -/
def State.solStarting (s : State) (n : Nat) (c : OutCmd) : Nat :=
  let on := c.op == 1
  let ph := s.phase n
  if !s.solEnabled n then 10
  else if s.solMode n = 0 ∨ s.solMode n = 3 then 3
  else if on && s.outForced (dieOf n) then 12
  else if on && (s.shortHeld n || s.bankOff (bankOf n)) then 4
  else if on && s.flag (F.SOL_DIE_STAT_OFF140 (dieOf n)) then 6
  else if on && s.flag (F.SOL_CH_STAT_LIMITED n) then 5
  else if on && (s.sol.get n).train then 0
  else if 1 ≤ ph ∧ ph ≠ 5 ∧ ph ≠ 7 then 1
  else 0

/-! ## Profiles (R373 to R379) -/

/-- The channel's slot (R378). -/
def State.slotOfCh (s : State) (n : Nat) : Profile :=
  let d := dieOf n
  let k := s.get (F.SOL_CH_CFG_SLOT n)
  { iPeak := s.get (F.SOL_PROF_CUR_I_PEAK d k), iHold := s.get (F.SOL_PROF_CUR_I_HOLD d k)
    tBoost := s.get (F.SOL_PROF_TIME_T_BOOST_MAX d k), tPeak := s.get (F.SOL_PROF_TIME_T_PEAK d k)
    slow := s.flag (F.SOL_PROF_CHOP_DECAY d k), fChop := s.get (F.SOL_PROF_CHOP_F_CHOP d k) }

/-- The channel's limits in 10 mA: in BOOST, NOBOOST and PEAK, and in HOLD and CURRENT mode (R372, R373). -/
def State.peakLimit (s : State) (n : Nat) : Nat := if s.solPaired n then 800 else 400
def State.holdLimit (s : State) (n : Nat) : Nat := if s.solPaired n then 300 else 150

/-- The channels of bank `b` in WAIT, and how the bank shows them and its rail (R384, R401). -/
def State.waiting (s : State) (b : Nat) : List Nat := ((List.range 8).map (8 * b + ·)).filter (fun n => s.phase n == 1)
def State.boosting (s : State) (b : Nat) : List Nat := ((List.range 8).map (8 * b + ·)).filter (fun n => s.phase n == 2)
def State.bankShow (s : State) (b : Nat) : State :=
  (s.putSat (F.SOL_BANK_STAT_WAITS b) (s.waiting b).length).putB (F.SOL_BANK_STAT_RAIL b) (!(s.boosting b).isEmpty)

/-- A FAST decay runs SLOW while the die's over-voltage lasts (R367). -/
def State.slowed (s : State) (n : Nat) : Bool := !(s.sol.get n).prof.slow && s.flag (F.SOL_DIE_STAT_OV (dieOf n))

/-- DECAY starts (R376, R408). `prot` where protection or forced off starts it: the closing is not learned, nor is one after
a HOLD that ran under derate, or whose decay runs SLOW under R367 (R415). `forced` where it is forced off, whose decay is FAST
(R395). The DECAY that disabling asked for is reported as an OFF at this instant (R394, R397). -/
def State.decay (s : State) (n : Nat) (prot : Bool) (forced : Bool := false) : State :=
  let slow := s.slowed n && !forced
  let skip := prot || slow || (s.sol.get n).derated
  let s := (s.setPhase n 6).putB (F.SOL_CH_STAT_SLOWED n) slow
  let s := if (s.sol.get n).stopping then s.strForcedOff 1 n else s
  ((s.modSol n (fun c => { c with offPend := false, stopping := false })).armCloseWindow n skip).bankShow (bankOf n)

/-- BOOST is granted to channel `n` (R384), or runs as a NOBOOST rise while the die's under-voltage lasts (R367). -/
def State.noBoost (s : State) (n defer : Nat) : State :=
  let s := (s.setPhase n 3).put (F.SOL_CH_STAT_NOBOOST n) 1
  let s := s.put (F.SOL_CH_IMEAS_DEFER n) defer
  let s := if (s.adaptSet (dieOf n)).contains n then s.adaptReset (dieOf n) else s
  (s.armOpenWindow n true).bankShow (bankOf n)

def State.grant (s : State) (n : Nat) (waited : Bool) : State :=
  let b := bankOf n
  if s.flag (F.SOL_DIE_STAT_UV (dieOf n)) then s.noBoost n 0
  else
    let us := if waited then (s.clk - (s.sol.get n).waitAt) / usec else 0
    let s := if waited && decide ((s.sol.get n).waitAt < s.clk) then s.count (F.SOL_BANK_CNT_DEFER b) 1 else s
    let s := (s.setPhase n 2).put (F.SOL_CH_STAT_NOBOOST n) 0
    ((s.putSat (F.SOL_CH_IMEAS_DEFER n) us).armOpenWindow n false).bankShow b

/-- A request that waits for its bank (R384). -/
def State.boostWait (s : State) (n : Nat) : State := (s.setPhase n 1).bankShow (bankOf n)

/-- A channel of bank `b` above `n` whose request, made at this very instant, was granted: requests at one instant are granted
in channel-number order (R384). -/
def State.grantedNow (s : State) (b n : Nat) : Option Nat :=
  (s.boosting b).find? (fun m => decide (n < m) && (s.sol.get m).waitAt == s.clk && (s.sol.get m).phaseAt == s.clk)

/-- The grant of channel `m` made at this instant is taken back: it waits, and its opening window has not opened (R384, R408). -/
def State.ungrant (s : State) (m : Nat) : State :=
  let s := if s.armWould m && !s.armSense m then s.setNat R.ARM_DISC (s.nat R.ARM_DISC - 1) else s
  (s.modArm m (fun a => { a with openWin := false })).boostWait m

/-- A boost request (R384). -/
def State.boostRequest (s : State) (n : Nat) : State :=
  let b := bankOf n
  let s := s.modSol n (fun c => { c with waitAt := s.clk })
  if s.flag (F.SOL_DIE_STAT_UV (dieOf n)) || (s.boosting b).isEmpty then s.grant n false
  else match s.grantedNow b n with
    | some m => (s.ungrant m).grant n false
    | none => s.boostWait n

/-- The follower of a pair switches with its leader `n`: its calibration is abandoned too (R372, R396). -/
def State.calFollower (s : State) (n : Nat) : State :=
  if s.solPaired n && s.phase (n + 1) == 7 then s.setPhase (n + 1) 0 else s

/-- A calibration of channel `n`, and of its follower, is abandoned (R396). -/
def State.calAbandon (s : State) (n : Nat) : State := (if s.phase n = 7 then s.setPhase n 0 else s).calFollower n

/-- A profile starts: the slot is latched, an open closing window is cut, and a boost is requested (R378, R396, R414). -/
def State.profileStart (s : State) (n : Nat) : State :=
  let p := s.slotOfCh n
  let s := (s.setNat (R.SOL_CH_CYCLES n) (s.nat (R.SOL_CH_CYCLES n) + 1)).put (F.SOL_CH_STAT_FORCED n) 0
  let s := s.putB (F.SOL_CH_STAT_ILIM n) (decide (s.peakLimit n < p.iPeak) || decide (s.holdLimit n < p.iHold))
  let s := s.modSol n (fun c => { c with prof := p, offPend := false, stopping := false, derated := false })
  ((s.calFollower n).armCloseCut n).boostRequest n

/-- The waiting request of bank `b` that is granted next: one that reaches BOOST_DEFER_MAX at this instant, else the lowest
channel (R384, log entry 1004). -/
def State.nextWaiting (s : State) (b : Nat) : Option Nat :=
  let ends (n : Nat) : Bool := s.passed (s.sol.get n).waitAt (s.get (F.SOL_DIE_ARB_BOOST_DEFER_MAX (dieOf n)) * usec)
  match (s.waiting b).find? ends with | some n => some n | none => (s.waiting b).head?

/-- The bank is free: the next waiting request is granted (R384). While the die's under-voltage lasts, every waiting request
runs as a NOBOOST rise (R367). -/
def State.bankFree (s : State) (b : Nat) : State :=
  match s.nextWaiting b with
  | none => s.bankShow b
  | some n =>
    if s.flag (F.SOL_DIE_STAT_UV (b / 6)) then s.each (s.waiting b) (fun s m => s.noBoost m 0) else (s.grant n true).bankShow b

/-- PEAK ends (R375): HOLD, or DECAY where an off instant waits or the channel is being disabled (R387, R397). -/
def State.peakDone (s : State) (n : Nat) : State :=
  let c := s.sol.get n
  if c.offPend || c.stopping then s.decay n false else s.setPhase n 5

/-- PEAK ends where T_PEAK has run out (R375). -/
def State.peakOver (s : State) (n : Nat) : State :=
  if s.phase n = 4 ∧ s.passed (s.sol.get n).phaseAt ((s.sol.get n).prof.tPeak * 10 * usec) then s.peakDone n else s

/-- The rise has reached I_PEAK or its time limit with a load: PEAK, unless T_PEAK is 0 (R375). -/
def State.riseDone (s : State) (n : Nat) : State :=
  let s := s.setPhase n 4
  if (s.sol.get n).prof.tPeak = 0 then s.peakDone n else s

/-- An open load (R377). An opening window of the rise ends with it, and is not cut (R414). -/
def State.openLoad (s : State) (n : Nat) : State :=
  ((s.put (F.SOL_CH_FLT_OPEN n) 1).raise (dieEvent (dieOf n) 10)).decay n false

/-- SOL_CH_TMEAS.BOOST takes the duration of the BOOST that ends now (R379). -/
def State.boostTime (s : State) (n : Nat) : State :=
  s.putSat (F.SOL_CH_TMEAS_BOOST n) (divNear 379 (s.clk - (s.sol.get n).phaseAt : Nat) usec).toNat

/-- The rise of channel `n` ends (R375, R377). -/
def State.riseEnd (s : State) (n : Nat) (reached : Bool) (i : Nat) : State :=
  let s := s.putSat (F.SOL_CH_IMEAS_I n) (i / 10)
  if !reached && decide (i < s.get (F.SOL_DIE_PROT_OPEN_MA (dieOf n))) then s.openLoad n else s.riseDone n

/-! ## Nozzle PWM (R386 to R388) -/

/-- The off instant of the present cycle (R386, R387). -/
def State.pwmOff (s : State) (n : Nat) : State :=
  let ph := s.phase n
  let s := s.modSol n (fun c => { c with offTag := none })
  if ph = 5 then s.decay n false
  else if (1 ≤ ph ∧ ph ≤ 4) ∨ (s.sol.get n).late then
    (s.put (F.SOL_CH_STAT_DUTY_MIN n) 1).modSol n (fun c => { c with offPend := true })
  else s

/-- A cycle starts (R386, R387). -/
def State.pwmCycle (s : State) (n : Nat) : State :=
  let duty := s.get (F.SOL_CH_DUTY_DUTY n)
  let per := s.get (F.SOL_CH_PWM_PER n)
  let t := (s.sol.get n).nextAt
  let ph := s.phase n
  let off := t + (divNear 387 (duty * per : Nat) 1000).toNat * usec
  let s := (s.put (F.SOL_CH_STAT_DUTY_MIN n) 0).putB (F.SOL_CH_STAT_CYCLE_LATE n) (ph == 6 && duty != 0)
  let s := s.modSol n (fun c => { c with nextAt := t + per * usec, late := ph == 6 && duty != 0
                                         offTag := if duty = 0 ∨ 1000 ≤ duty then none else some off, offPend := false })
  if duty = 0 then (if 1 ≤ ph ∧ ph ≤ 5 then s.pwmOff n else s)
  else if (ph = 0 ∨ ph = 7) ∧ !s.solBlocked n then s.profileStart n
  else s

/-- The train ends (R388). -/
def State.trainEnd (s : State) (n : Nat) : State :=
  s.modSol n (fun c => { c with train := false, late := false, offTag := none })

/-! ## Commands at their start instant (R382, R386, R388) -/

/-- The ON of channel `n` takes effect; a calibration ends, whether or not the first cycle runs a profile (R396). -/
def State.solOn (s : State) (n : Nat) (c : OutCmd) : State :=
  let s := s.put (F.SOL_CH_STAT_CMD n) 1
  let s := if c.duty ≤ 1000 ∧ s.solMode n = 2 ∧ s.get (F.SOL_CH_CFG_PSRC n) = 1 then s.put (F.SOL_CH_DUTY_DUTY n) c.duty else s
  let ph := s.phase n
  if (s.sol.get n).train ∨ (ph ≠ 0 ∧ ph ≠ 7) then s
  else if s.solMode n = 2 then
    ((s.modSol n (fun x => { x with train := true, nextAt := c.start, late := false, offTag := none })).pwmCycle n).calAbandon n
  else s.profileStart n

/-- The OFF of channel `n` takes effect. -/
def State.solOff (s : State) (n : Nat) : State :=
  let s := (s.put (F.SOL_CH_STAT_CMD n) 0).trainEnd n
  if s.phase n = 5 then s.decay n false else s

/-- A queued command starts (R382, R704). -/
def State.solStart (s : State) (n : Nat) (c : OutCmd) : State :=
  if c.op = 3 then
    if s.solMode n = 2 ∧ s.get (F.SOL_CH_CFG_PSRC n) = 1 ∧ c.duty ≤ 1000 then s.put (F.SOL_CH_DUTY_DUTY n) c.duty else s
  else
    let r := s.solStarting n c
    if r ≠ 0 then s.solDrop n c r
    else
      let s := if c.op = 1 then s.solOn n c else s.solOff n
      s.cmdDone 1 c

/-! ## Current mode (R389) -/

/-- The derates in force on a HOLD or CURRENT demand, in 1/10,000: DERATE of the duty window and THERM_DERATE of the die, and
their product where both hold (R391, R393). -/
def State.derate (s : State) (n : Nat) : Nat :=
  (if (s.sol.get n).overLim && !(s.sol.get n).overOff then s.get (F.SOL_CH_DLIM_DERATE n) else 100) *
    (if s.flag (F.SOL_DIE_STAT_DERATE (dieOf n)) then s.get (F.SOL_DIE_PROT_THERM_DERATE (dieOf n)) else 100)

/-- What channel `n` regulates now, before any dither, in µA: the set-point of its phase under the channel's limit and the
derates (R373, R375, R389, R391, R393); none while its low side is off. The order of limit and derate: log entry 1014. -/
def State.solDemand (s : State) (n : Nat) : Nat :=
  let c := s.sol.get n
  let ph := s.phase n
  if 2 ≤ ph ∧ ph ≤ 4 then min c.prof.iPeak (s.peakLimit n) * 10000
  else if ph = 5 then min ((if s.solMode n = 3 then s.get (F.SOL_CH_ISET_I_SET n) else c.prof.iHold) * s.derate n)
    (s.holdLimit n * 10000)
  else 0

/-- The dither's peaks in CURRENT mode, in µA, clamped to the range from 0 to the channel's limit (R389). -/
def State.solDither (s : State) (n : Nat) : Nat × Nat :=
  let d := s.solDemand n
  let a := if s.solMode n = 3 ∧ s.phase n = 5 then s.get (F.SOL_CH_DITHER_DAMP n) * 1000 else 0
  (d - a, min (d + a) (max d (s.holdLimit n * 10000)))

/-- A triangle of frequency `f` in Hz and peak `a`, `t` counts of 1/16 µs after it rose through 0. -/
def triangle (a : Int) (f t : Nat) : Int :=
  let u : Int := (4 * f * t % (4 * second) : Nat)
  if u < second then a * u / second
  else if u < 3 * second then a * (2 * second - u) / second
  else a * (u - 4 * second) / second

/-- What channel `n` regulates at this instant, in µA: its demand, in CURRENT mode with the triangular dither of DAMP and DFREQ,
clamped to the range from 0 to the channel's limit (R389). The dither rises through 0 as regulation begins: log entry 1015. -/
def State.solRegulates (s : State) (n : Nat) : Int :=
  let d : Int := s.solDemand n
  if s.solMode n = 3 ∧ s.phase n = 5 then
    clamp 0 (max d (s.holdLimit n * 10000 : Nat))
      (d + triangle (s.get (F.SOL_CH_DITHER_DAMP n) * 1000 : Nat) (s.get (F.SOL_CH_DITHER_DFREQ n)) (s.clk - (s.sol.get n).phaseAt))
  else d

/-- The dithered demand of channel `n` in CURRENT mode passes its limit, so that it is clamped (R373, R389). -/
def State.currentClamped (s : State) (n : Nat) : Bool :=
  let i := s.get (F.SOL_CH_ISET_I_SET n)
  i != 0 && decide (s.holdLimit n * 10000 < i * s.derate n + s.get (F.SOL_CH_DITHER_DAMP n) * 1000)

/-- Channel `n` in CURRENT mode regulates its set-point, or decays, as its enables, protections and I_SET say (R389,
R394). -/
def State.solCurrent (s : State) (n : Nat) : State :=
  if s.solMode n ≠ 3 || s.solFollows n then s
  else
    let want := s.solEnabled n && !s.solBlocked n && s.get (F.SOL_CH_ISET_I_SET n) != 0
    let ph := s.phase n
    let s := s.putB (F.SOL_CH_STAT_ILIM n) (s.currentClamped n)
    if want && (ph == 0 || ph == 7) then
      (((s.calFollower n).setPhase n 5).put (F.SOL_CH_STAT_FORCED n) 0).modSol n (fun c => { c with prof := s.slotOfCh n })
    else if !want && ph == 5 then s.decay n false
    else s

/-! ## Protection and forced off (R392 to R395) -/

/-- A running PWM train of channel `n` ends between its pulses: the point is on all the same, and takes its OFF now (R394). -/
def State.trainCut (s : State) (n : Nat) : State :=
  let on := (s.sol.get n).train
  let s := s.trainEnd n
  if on then s.strForcedOff 1 n else s

/-- Channel `n` goes off under protection or, where `forced`, forced off (R394, R395). A BOOST that it cuts has ended (R379). -/
def State.solProtect (s : State) (n : Nat) (forced : Bool := false) : State :=
  let ph := s.phase n
  let s := s.put (F.SOL_CH_STAT_FORCED n) 1
  if ph = 7 then (s.trainCut n).setPhase n 0
  else if ph = 0 ∨ ph = 6 then s.trainCut n
  else
    let s := if ph = 2 then s.boostTime n else s
    ((((s.trainEnd n).modSol n (fun c => { c with stopping := false })).armOpenCut n).decay n true forced).strForcedOff 1 n

/-- Channel `n` alone goes off under protection: a BOOST cut short frees its bank (R383, R384). -/
def State.solProtectOne (s : State) (n : Nat) : State :=
  if s.phase n = 2 then (s.solProtect n).bankFree (bankOf n) else s.solProtect n

/-- The channels of bank `b` and of die `d`. -/
def bankChannels (b : Nat) : List Nat := (List.range 8).map (8 * b + ·)
def dieChannels (d : Nat) : List Nat := (List.range 48).map (48 * d + ·)

/-- The solenoid channels of die `d` are forced off (R395). -/
def State.solForceOff (s : State) (d : Nat) : State := s.each (dieChannels d) (fun s n => s.solProtect n true)

/-- The channels of die `d` in CURRENT mode resume once a protection ends (R394). -/
def State.solResume (s : State) (ns : List Nat) : State := s.each ns State.solCurrent

/-- A bank goes off (R368). -/
def State.bankProtect (s : State) (b : Nat) : State :=
  let s := s.raise (dieEvent (b / 6) (1 + b % 6))
  s.each (bankChannels b) (fun s n => (s.put (F.SOL_CH_FLT_BANK n) 1).solProtect n)

/-- A short on channel `n` (R392). -/
def State.solShorted (s : State) (n : Nat) : State :=
  let d := dieOf n
  let s := ((s.put (F.SOL_CH_FLT_SHORT n) 1).raise (dieEvent d 11)).put ⟨H.sticky .sol, 1 + d, 1⟩ 1
  let s := s.solProtectOne n
  if s.solPaired n then s.solProtectOne (n + 1) else if s.solFollows n then s.solProtectOne (n - 1) else s

/-- The host clears a bit of SOL_CH_FLT: in CURRENT mode the channel, or the leader of its pair, resumes (R392, R394). -/
def State.solCleared (s : State) (n : Nat) : State :=
  s.solCurrent (if s.solFollows n then n - 1 else n)

/-- The junction temperature of die `d` in 0.1 °C (R393), solenoid side. -/
def State.dieTemp (s : State) (d : Nat) (t : Int) : State :=
  let s := s.puts ⟨R.SOL_DIE_TJ d, 0, 16⟩ t
  let hot := s.flag (F.SOL_DIE_STAT_DERATE d)
  let off := s.flag (F.SOL_DIE_STAT_OFF140 d)
  let s := if 1250 ≤ t ∧ !hot then (s.put (F.SOL_DIE_STAT_DERATE d) 1).raise (dieEvent d 13)
    else if t < 1150 ∧ hot then s.put (F.SOL_DIE_STAT_DERATE d) 0 else s
  let s := if 1400 ≤ t ∧ !off then
      let s := (s.put (F.SOL_DIE_STAT_OFF140 d) 1).raise (dieEvent d 14)
      s.each (dieChannels d) (fun s n => (s.put (F.SOL_CH_FLT_THERM n) 1).solProtect n)
    else if t < 1250 ∧ off then (s.put (F.SOL_DIE_STAT_OFF140 d) 0).solResume (dieChannels d)
    else s
  s.each (dieChannels d) (fun s n =>
    (s.derateShow n (s.flag (F.SOL_DIE_STAT_DERATE d) || ((s.sol.get n).overLim && !(s.sol.get n).overOff))).solCurrent n)

/-! ## Duty windows (R390, R391) -/

/-- The channel goes over its limit, or back below it (R391). ACTION is taken on going over (log entry 1007). -/
def State.dutyLimit (s : State) (n : Nat) (over' : Bool) : State :=
  let off := s.flag (F.SOL_CH_DLIM_ACTION n)
  let s := s.modSol n (fun c => { c with overLim := over', overOff := over' && off })
  if over' then
    let s := s.raise (dieEvent (dieOf n) 12)
    if off then (s.put (F.SOL_CH_STAT_LIMITED n) 1).solProtectOne n else (s.derateShow n true).solCurrent n
  else
    let s := (s.put (F.SOL_CH_STAT_LIMITED n) 0).derateShow n (s.flag (F.SOL_DIE_STAT_DERATE (dieOf n)))
    s.solCurrent n

/-- LIMIT = 100 with I2T = 0 disables the window of channel `n` (R390). -/
def State.dutyFree (s : State) (n : Nat) : Bool := decide (100 ≤ s.get (F.SOL_CH_DLIM_LIMIT n)) && s.get (F.SOL_CH_I2T_I2T n) == 0

/-- Counts in a sub-window: WINDOW in 16 equal parts (R390). -/
def State.subWindow (s : State) (n : Nat) : Nat := s.get (F.SOL_CH_DLIM_WINDOW n) * second / 16

/-- A sub-window of channel `n` begins now. -/
def State.subStart (s : State) (n : Nat) : State := s.modSol n (fun c => { c with winAt := s.clk, onAcc := 0 })

/-- A sub-window ends with the integral `q` of the squared current in 1e-6 A²s (R390). -/
def State.dutyWindow (s : State) (n q : Nat) : State :=
  let on := s.onTime n
  let s := (s.modSol n (fun c => { c with hist := ((on, q) :: c.hist).take 16 })).subStart n
  let c := s.sol.get n
  let tOn := c.hist.foldl (fun a x => a + x.1) 0
  let tQ := c.hist.foldl (fun a x => a + x.2) 0
  let win := s.get (F.SOL_CH_DLIM_WINDOW n) * second
  let lim := s.get (F.SOL_CH_DLIM_LIMIT n)
  let i2t := s.get (F.SOL_CH_I2T_I2T n)
  let hyst := s.get (F.SOL_CH_I2T_HYST n)
  let s := s.putSat (F.SOL_CH_DUSE_ON n) (divOpen 390 (tOn * 1000 : Nat) win).toNat
  let s := if i2t = 0 then s.put (F.SOL_CH_DUSE_I2T n) 0
    else s.putSat (F.SOL_CH_DUSE_I2T n) (divOpen 391 (tQ * 100 : Nat) (i2t * 10000 : Nat)).toNat
  let above := decide (lim * win < tOn * 100) || (i2t != 0 && decide (i2t * 10000 < tQ))
  let below := decide ((tOn * 100 : Int) ≤ ((lim : Int) - hyst) * win) &&
    (i2t == 0 || decide ((tQ * 100 : Int) ≤ (i2t * 10000 : Int) * (100 - hyst)))
  if !c.overLim && above && !s.dutyFree n then s.dutyLimit n true
  else if c.overLim && (below || s.dutyFree n) then s.dutyLimit n false
  else s

/-- A write that disables the window ends a limit in force (R390). -/
def State.dutyOpen (s : State) (n : Nat) : State := if (s.sol.get n).overLim && s.dutyFree n then s.dutyLimit n false else s

/-- A write changed WINDOW: the history is cleared and a limit in force ends (R390). -/
def State.dutyClear (s : State) (n : Nat) : State :=
  let s := (s.modSol n (fun c => { c with hist := [] })).subStart n
  if (s.sol.get n).overLim then s.dutyLimit n false else s

/-! ## Disabling (R397) -/

/-- Channel `n` is disabled by its own EN or with its block (R397): its queue is discarded and counted, the part up to the
end of PEAK completes, and the output goes off and is reported. -/
def State.solDisable (s : State) (n : Nat) : State :=
  let k := (s.sol.get n).queue.length
  let ph := s.phase n
  let s := (s.count ⟨R.SOL_DISC, 0, 16⟩ k).modSol n (fun c => { c with queue := [], stopping := decide (1 ≤ ph) && decide (ph ≤ 5) })
  if ph = 5 then (s.trainEnd n).decay n false
  else if ph = 7 then (s.trainCut n).setPhase n 0
  else if ph = 0 ∨ ph = 6 then s.trainCut n
  else s.trainEnd n

/-- The channel's own EN is cleared (R397). -/
def State.solChDisable (s : State) (n : Nat) : State := s.solDisable n

/-- ENABLE of SOL goes from 1 to 0 (R397). -/
def State.solBlockDisable (s : State) : State := s.each (List.range 96) State.solDisable

/-- SOL_SUMMARY (R400). -/
def State.solSummary (s : State) : Nat :=
  let n (d : Nat) := ((dieChannels d).filter (fun n => s.phase n != 0)).length
  n 1 * 2 ^ 16 + n 0

/-! ## The commands -/

/-- SOL_COMMAND_ARRIVE (R380, R704). -/
def execSolCommandArrive (s : State) : Answer :=
  .next (match s.str.solWire with
    | [] => s
    | c :: t => (s.modStr (fun x => { x with solWire := t })).solArrive c)

/-- What ends a phase of channel `n` at this instant is taken before a command of this instant: the end of PEAK and the off
instant of a PWM cycle (R383). -/
def State.phaseEnds (s : State) (n : Nat) : State :=
  let s := s.peakOver n
  match (s.sol.get n).offTag with
  | some t => if t ≤ s.now then s.pwmOff n else s
  | none => s

/-- A PWM cycle of channel `n` that starts at this instant has started (R383, R386). -/
def State.cycleDue (s : State) (n : Nat) : State :=
  if (s.sol.get n).train && decide ((s.sol.get n).nextAt ≤ s.now) then s.pwmCycle n else s

/-- SOL_COMMAND_START (R382, R704). A phase that ends at this instant has ended, also where the next PWM cycle ends it: the command
is judged in the phase that follows (R383). -/
def execSolCommandStart (n : Fin 96) (s : State) : Answer :=
  .next (match (s.sol.get n.val).queue with
    | [] => s
    | c :: t => if c.start ≤ s.now then ((s.modSol n.val (fun x => { x with queue := t })).phaseEnds n.val |>.cycleDue n.val).solStart n.val c else s)

/-- BOOST_END (R375, R377, R379, R384). -/
def execBoostEnd (n : Fin 96) (reached : Bool) (i : BitVec 16) (s : State) : Answer :=
  .next (let c := s.sol.get n.val
         if s.phase n.val = 2 ∧ (reached = true ∨ s.passed c.phaseAt (c.prof.tBoost * usec)) then
           ((s.boostTime n.val).riseEnd n.val reached i.toNat).bankFree (bankOf n.val)
         else s)

/-- The boost of bank `b` reaches T_BOOST_MAX at this instant (R384). -/
def State.boostOver (s : State) (b : Nat) : Bool :=
  (s.boosting b).any (fun m => s.passed (s.sol.get m).phaseAt ((s.sol.get m).prof.tBoost * usec))

/-- BOOST_DEFER_EXPIRY (R384). A boost that reaches its time limit at this instant ends, and the request is granted. -/
def execBoostDeferExpiry (n : Fin 96) (s : State) : Answer :=
  .next (let b := bankOf n.val
         let d := s.get (F.SOL_DIE_ARB_BOOST_DEFER_MAX (dieOf n.val))
         if s.phase n.val = 1 ∧ s.passed (s.sol.get n.val).waitAt (d * usec) && !s.boostOver b then
           ((s.noBoost n.val d).count (F.SOL_BANK_CNT_NOBOOST b) 1).raise (dieEvent (dieOf n.val) 9)
         else s)

/-- NOBOOST_END (R375, R377). -/
def execNoboostEnd (n : Fin 96) (reached : Bool) (i : BitVec 16) (s : State) : Answer :=
  .next (let t := s.get (F.SOL_DIE_ARB_T_NOBOOST_MAX (dieOf n.val))
         if s.phase n.val = 3 ∧ (reached = true ∨ s.passed (s.sol.get n.val).phaseAt (t * usec)) then
           s.riseEnd n.val reached i.toNat
         else s)

/-- PEAK_END (R375). -/
def execPeakEnd (n : Fin 96) (s : State) : Answer :=
  .next (s.peakOver n.val)

/-- DECAY_END (R375, R379, R387). -/
def execDecayEnd (n : Fin 96) (s : State) : Answer :=
  .next (let c := s.sol.get n.val
         if s.phase n.val = 6 then
           let s := s.putSat (F.SOL_CH_TMEAS_DECAY n.val) (divNear 376 (s.clk - c.phaseAt : Nat) usec).toNat
           let s := (s.setPhase n.val 0).modSol n.val (fun c => { c with late := false, stopping := false })
           let pend := c.offPend
           if c.train && c.late && !s.solBlocked n.val then
             (s.profileStart n.val).modSol n.val (fun c => { c with offPend := pend })
           else s.solCurrent n.val
         else s)

/-- HOLD_OPEN_LOAD (R377). -/
def execHoldOpenLoad (n : Fin 96) (s : State) : Answer :=
  .next (if s.phase n.val = 5 ∧ s.solMode n.val ≠ 3 ∧ s.passed (s.sol.get n.val).phaseAt (10 * msec) then s.openLoad n.val else s)

/-- PWM_CYCLE_START (R386, R387). -/
def execPwmCycleStart (n : Fin 96) (s : State) : Answer :=
  .next (s.cycleDue n.val)

/-- PWM_OFF_INSTANT (R386, R387). A PEAK that ends at this instant has ended (R383). -/
def execPwmOffInstant (n : Fin 96) (s : State) : Answer :=
  .next (match (s.sol.get n.val).offTag with
    | some t => if t ≤ s.now then s.phaseEnds n.val else s
    | none => s)

/-- DUTY_SUBWINDOW_END (R390, R391), once the sub-window has lasted its sixteenth of WINDOW. The on-time comes from the phases,
and the operand that reports it changes nothing (log entry 1016). -/
def execDutySubwindowEnd (n : Fin 96) (_on : Word) (i2t : BitVec 64) (s : State) : Answer :=
  .next (if s.present .sol && s.solHere n.val && !s.solFollows n.val && s.passed (s.sol.get n.val).winAt (s.subWindow n.val) then
    s.dutyWindow n.val i2t.toNat else s)

/-- SOL_SHORT (R392). -/
def execSolShort (n : Fin 96) (s : State) : Answer := .next (if s.present .sol && s.solHere n.val then s.solShorted n.val else s)

/-- BOOST_OV (R367). -/
def execBoostOv (d : Fin 2) (s : State) : Answer :=
  .next (if s.present .sol && s.dieHere d.val && !s.flag (F.SOL_DIE_STAT_OV d.val) then
    ((s.put (F.SOL_DIE_STAT_OV d.val) 1).count (F.SOL_DIE_CNT_OV d.val) 1).raise (dieEvent d.val 8) else s)

/-- BOOST_OV_END (R367). -/
def execBoostOvEnd (d : Fin 2) (s : State) : Answer := .next (s.put (F.SOL_DIE_STAT_OV d.val) 0)

/-- BOOST_UV (R367, R424). -/
def execBoostUv (d : Fin 2) (s : State) : Answer :=
  .next (if s.present .sol && s.dieHere d.val && !s.flag (F.SOL_DIE_STAT_UV d.val) then
    let s := ((s.put (F.SOL_DIE_STAT_UV d.val) 1).count (F.SOL_DIE_CNT_UV d.val) 1).raise (dieEvent d.val 7)
    s.adaptUv d.val else s)

/-- BOOST_UV_END (R367). -/
def execBoostUvEnd (d : Fin 2) (s : State) : Answer := .next (s.put (F.SOL_DIE_STAT_UV d.val) 0)

/-- BANK_OVERCURRENT (R368). -/
def execBankOvercurrent (b : Fin 12) (s : State) : Answer :=
  .next (if s.present .sol && s.bankHere b.val && !s.flag (F.SOL_BANK_STAT_OC b.val) then
    (s.put (F.SOL_BANK_STAT_OC b.val) 1).bankProtect b.val else s)

/-- BANK_UV (R368): while a channel of the bank is enabled. -/
def execBankUv (b : Fin 12) (s : State) : Answer :=
  .next (if s.present .sol && s.bankHere b.val && !s.flag (F.SOL_BANK_STAT_UV b.val) &&
            (bankChannels b.val).any s.solEnabled then
    (s.put (F.SOL_BANK_STAT_UV b.val) 1).bankProtect b.val else s)

/-- BANK_UV_END (R368). -/
def execBankUvEnd (b : Fin 12) (s : State) : Answer :=
  .next (if s.flag (F.SOL_BANK_STAT_UV b.val) then (s.put (F.SOL_BANK_STAT_UV b.val) 0).solResume (bankChannels b.val) else s)

/-- Channel `n` has been in phase OFF for 2 ms (R396); the follower of a pair switches with its leader (R372). -/
def State.solIdle (s : State) (n : Nat) : Bool :=
  let idle (m : Nat) : Bool := s.phase m == 0 && s.passed (s.sol.get m).offAt (2 * msec)
  idle n && (!s.solFollows n || idle (n - 1))

/-- CHOPPER_CALIBRATION (R396, R415): 2 ms after the channel entered OFF, with no closing window open. -/
def execChopperCalibration (n : Fin 96) (s : State) : Answer :=
  .next (if s.runs .mem && s.present .sol && s.solHere n.val && s.solIdle n.val &&
            !(s.armCh.get n.val).closeWin then s.setPhase n.val 7 else s)

end Sys2Proof.Machine
end

