-- ==== Sys2Proof/Machine/Hsw.lean ====
section
/-! DEFINITION. The protected load switches: commands, inrush, protection, pulse output, limp-home and hold-over (R434 to
R462). -/

namespace Sys2Proof.Machine

open Sys2Proof

def State.modHsw (s : State) (k : Nat) (f : HswCh → HswCh) : State := { s with hsw := s.hsw.modify k f }
def State.modKeep (s : State) (f : HswKeep → HswKeep) : State := { s with hswKeep := f s.hswKeep }

/-- The die and the VHS group of a switch (R25). -/
def hswDie (k : Nat) : Nat := k / 12
def hswGroup (k : Nat) : Nat := k / 6

/-- Switch `k` is present (R3, R435). -/
def State.hswHere (s : State) (k : Nat) : Bool := decide (k < s.nHsw) && !(decide (12 ≤ k) && s.dieBFail)

/-- The present switches. -/
def State.hswAll (s : State) : List Nat := (List.range 24).filter s.hswHere

/-- The switch and its block are enabled. -/
def State.hswEnabled (s : State) (k : Nat) : Bool := s.runs .hsw && s.hswHere k && s.flag (F.HSW_CH_CTRL_EN k)

/-- Limp-home is active (R449). -/
def State.limp (s : State) : Bool := s.flag F.HSW_LH_STAT_ACTIVE

/-- The output of switch `k` is on, and it is driven by the limp-home map. -/
def State.hswOut (s : State) (k : Nat) : Bool := s.flag (F.HSW_CH_STAT_ON k)
def State.limped (s : State) (k : Nat) : Bool := s.flag (F.HSW_CH_STAT_LIMPED k)

/-- The hard limit of a switch's class in 10 mA (R434). -/
def hardLimit (k : Nat) : Nat := if k < 8 then 3000 else 1200

/-! ## Turning an output on and off (R438, R448) -/

/-- A switch-on: the profile is latched and the inrush time starts (R438). -/
def State.hswTurnOn (s : State) (k : Nat) : State :=
  let p := s.get (F.HSW_CH_CFG_PROF k)
  let s := s.setNat (R.HSW_CH_CYCLES k) (s.nat (R.HSW_CH_CYCLES k) + 1)
  let s := ((s.put (F.HSW_CH_STAT_ON k) 1).put (F.HSW_CH_STAT_INRUSH k) 1).put (F.HSW_CH_STAT_FORCED k) 0
  (s.modHsw k (fun c => { c with
    onAt := s.clk, age := 0, cal := false
    limit := hardLimit k * s.get (F.HSW_PROF_INR_INR_PCT p) / 100
    inrEnd := s.clk + s.get (F.HSW_PROF_INR_T_INR p) * msec, soft := s.get (F.HSW_PROF_SOFT_SOFT p) })).eotWindow k false

/-- The energies in 0.1 mJ of the turn-offs within 1 s of `now`. -/
def recentClamp (now : Nat) (l : List (Nat × Nat)) : List (Nat × Nat) := l.filter (fun x => decide (now < x.1 + second))

/-- The clamp energy of switch `k` in the last 1 s, in 0.1 mJ (R448, R459). -/
def State.clampSum (s : State) (k : Nat) : Nat := (recentClamp s.clk (s.hsw.get k).clamp).foldl (fun a x => a + x.2) 0

/-- The time since the last switch-on of switch `k`. -/
def State.hswAge (s : State) (k : Nat) : Nat := s.clk + (s.hsw.get k).age - (s.hsw.get k).onAt

/-- The soft start of switch `k` runs: the part of VHS, over SOFT, that its output has risen to, in 1/16 µs each (R438). -/
def State.hswRamp (s : State) (k : Nat) : Option (Nat × Nat) :=
  let t := s.hswAge k
  let soft := (s.hsw.get k).soft * msec
  if s.hswOut k && decide (t < soft) then some (t, soft) else none

/-- The clamp energy `e` in 0.1 mJ of a turn-off (R448). -/
def State.hswClamp (s : State) (k e : Nat) : State :=
  let l := (s.clk, e) :: recentClamp s.clk (s.hsw.get k).clamp
  let sum := l.foldl (fun a x => a + x.2) 0
  let s := ((s.modHsw k (fun c => { c with clamp := l })).putSat (F.HSW_CH_CLAMP_LAST k) e).putSat (F.HSW_CH_CLAMP_SUM k) sum
  if 250 < e ∨ 1000 < sum then ((s.put (F.HSW_CH_FLT_CLAMP k) 1).raise 182).put ⟨H.sticky .hsw, 2, 1⟩ 1 else s

/-- The output of switch `k` goes off with clamp energy `e`: its inrush and its dip hold are over. -/
def State.hswOutOff (s : State) (k e : Nat) : State :=
  let inr := s.flag (F.HSW_CH_STAT_INRUSH k)
  let s := ((s.put (F.HSW_CH_STAT_ON k) 0).put (F.HSW_CH_STAT_INRUSH k) 0).put (F.HSW_CH_STAT_DIPHOLD k) 0
  (s.modHsw k (fun c => { c with offAt := s.clk, olAt := if inr then s.clk else c.olAt, soft := 0 })).hswClamp k e

/-- Switch `k` is switched off, its output where it is on with clamp energy `e`, or between two pulses: a closing window of
its end of travel opens (R422). -/
def State.hswTurnOff (s : State) (k e : Nat) : State :=
  if s.hswOut k then (s.hswOutOff k e).eotWindow k true else if (s.hsw.get k).cmd then s.eotWindow k true else s

/-- A turn-off whose clamp energy no command carries: a free value (log entry 5). -/
def State.hswTurnOffAny (s : State) (k : Nat) : State :=
  if s.hswOut k then let r := s.free 16; r.2.hswTurnOff k r.1 else s.hswTurnOff k 0

/-- Switch `k` has no command in force any more. -/
def State.hswUncommand (s : State) (k : Nat) : State :=
  (s.put (F.HSW_CH_STAT_STRETCH k) 0).modHsw k (fun c => { c with cmd := false, first := false, edgeOn := none, edgeOff := none })

/-- Whether switch `k` is on: its output, or in PULSE mode its command. -/
def State.hswOnState (s : State) (k : Nat) : Bool := s.hswOut k || (s.hsw.get k).cmd

/-- Switch `k` goes off under protection or forced off, with clamp energy `e` where a command carries it (R444). -/
def State.hswProtect (s : State) (k : Nat) (e : Option Nat) : State :=
  let was := s.hswOnState k
  let s := match e with | some e => s.hswTurnOff k e | none => s.hswTurnOffAny k
  let s := ((s.hswUncommand k).put (F.HSW_CH_STAT_FORCED k) 1).put (F.HSW_CH_STAT_HELD k) 0
  if was then s.strForcedOff 2 k else s

/-- The load switches of die `d` are forced off, but for those under limp-home (R395, R600). -/
def State.hswForceOff (s : State) (d : Nat) : State :=
  s.each (s.hswAll.filter (fun k => hswDie k == d)) (fun s k => if s.limped k then s else s.hswProtect k none)

/-- Every output of die `d` is forced off by the safe states that hold (R395, R600). -/
def State.forceDie (s : State) (d : Nat) : State := (s.solForceOff d).hswForceOff d

/-- Start-up forces every output off but held switches and those under limp-home (R454, R588, R600). -/
def State.forceStart (s : State) : State :=
  ((s.solForceOff 0).solForceOff 1).each s.hswAll (fun s k =>
    if s.limped k || s.flag (F.HSW_CH_STAT_HELD k) then s else s.hswProtect k none)

/-! ## Commands (R436, R437) -/

/-- A command is dropped and reported. -/
def State.hswDrop (s : State) (k : Nat) (c : OutCmd) (reason : Nat) : State :=
  let s := (s.count (F.HSW_CH_DROP k) 1).put (F.HSW_CH_STAT_LASTDROP k) reason
  match c.src with
  | .stride p => s.strDropped p (c.op == 1)
  | .lead t => s.satReport 2 k (if reason = 7 then 5 else 6) t t
  | .host => s

/-- The reasons common to both instants after LIMP and SOURCE: DISABLED, MODE, FORCED, or 0. -/
def State.hswReason (s : State) (k : Nat) (c : OutCmd) : Nat :=
  if !s.hswEnabled k then 10
  else if s.get (F.HSW_CH_CFG_MODE k) = 0 then 3
  else if c.op = 1 && s.outForced (hswDie k) then 12
  else 0

/-- A command reaches its die (R437): a host command's start instant is its arrival, and a DUTY changes nothing. -/
def State.hswArrive (s : State) (c : OutCmd) : State :=
  let k := c.out
  let c := match c.src with | .host => { c with start := s.now } | _ => c
  if c.op = 3 then s
  else
    let r := if s.limp then 11
      else if !c.fits (s.flag (F.HSW_CH_CFG_CSRC k)) then 2
      else if s.hswReason k c ≠ 0 then s.hswReason k c
      else if c.op = 1 && decide (c.start < s.now) then 7
      else if 8 ≤ (s.hsw.get k).queue.length then 8
      else 0
    if r ≠ 0 then s.hswDrop k c r else s.modHsw k (fun x => { x with queue := queueIn c x.queue })

/-- Switch `k` is off for its own or its die's temperature (R443). -/
def State.hswHot (s : State) (k : Nat) : Bool := (s.hsw.get k).ot || s.flag (F.SOL_DIE_STAT_OFF140 (hswDie k))

/-- SHORT or CLAMP is latched. -/
def State.hswLatched (s : State) (k : Nat) : Bool := s.flag (F.HSW_CH_FLT_SHORT k) || s.flag (F.HSW_CH_FLT_CLAMP k)

/-- The edges of a PULSE channel in the period of its generator that starts at tag `t` (R447): the on-time is lengthened
to 20 µs, and an off-time below 20 µs is not made. -/
def State.pulsePlan (s : State) (k : Nat) : State :=
  let p := s.get (F.HSW_CH_CFG_PGEN k)
  let g := s.hswGen.get p
  let duty := s.get (F.HSW_PG_STAT p)
  let at' := g.start + (divOpen 447 (s.get (F.HSW_CH_CFG_PHASE k) * g.per * usec : Nat) 256).toNat
  let on := (divNear 448 (duty * g.per : Nat) 1000).toNat
  let short := decide (duty ≠ 0 ∧ on < 20)
  let on := if short then 20 else on
  let full := decide (on < g.per ∧ g.per < on + 20)
  if duty = 0 then
    (s.put (F.HSW_CH_STAT_STRETCH k) 0).modHsw k (fun c =>
      { c with edgeOn := none, edgeOff := if s.hswOut k && c.edgeOff.isNone then some at' else c.edgeOff })
  else
    let was := s.flag (F.HSW_CH_STAT_STRETCH k)
    let s := (s.putB (F.HSW_CH_STAT_STRETCH k) (short || full)).raiseIf ((short || full) && !was) 187
    s.modHsw k (fun c => { c with edgeOn := some at', pulse := if full then g.per else on })

/-- An ON takes effect in the off-state. -/
def State.hswCommandOn (s : State) (k : Nat) : State :=
  let s := s.modHsw k (fun c => { c with cmd := true, first := true })
  if s.get (F.HSW_CH_CFG_MODE k) = 2 then
    let g := s.hswGen.get (s.get (F.HSW_CH_CFG_PGEN k))
    let s := s.put (F.HSW_CH_STAT_FORCED k) 0
    if g.run && s.flag (F.HSW_PG_CFG_EN (s.get (F.HSW_CH_CFG_PGEN k))) then
      let s := s.pulsePlan k
      s.modHsw k (fun c => { c with edgeOn := c.edgeOn.filter (fun t => decide (s.now ≤ t)) })
    else s
  else s.hswTurnOn k

/-- An OFF takes effect: it also ends an inrush (R437). -/
def State.hswCommandOff (s : State) (k e : Nat) : State := (s.hswTurnOff k e).hswUncommand k

/-- A queued command starts (R437). -/
def State.hswStart (s : State) (k : Nat) (c : OutCmd) (e : Nat) : State :=
  let on := c.op == 1
  let r := if s.limp then 11
    else if s.hswReason k c ≠ 0 then s.hswReason k c
    else if on && s.hswLatched k then 4
    else if on && s.hswHot k then 6
    else 0
  if r ≠ 0 then s.hswDrop k c r
  else
    let s := if on then (if s.hswOnState k then s else s.hswCommandOn k) else s.hswCommandOff k e
    s.cmdDone 2 c

/-! ## Limp-home (R449 to R452) -/

/-- The entries of a limp table: input and switch, for each valid entry. -/
def lhEntries (t : List Word) : List (Nat × Nat) :=
  (t.zipIdx.map (fun w => (List.range 4).filterMap (fun j =>
    if nbit w.1.toNat (8 * j + 7) then some (w.2, w.1.toNat / 2 ^ (8 * j) % 32) else none))).flatten

/-- HSW_LH_MAP as the registers hold it. -/
def State.lhTable (s : State) : List Word := (List.range 8).map (fun i => s.word (R.HSW_LH_MAP i))

/-- The inputs mapped to switch `k` in its die's latch. -/
def State.lhInputs (s : State) (k : Nat) : List Nat :=
  ((lhEntries (if k < 12 then s.hswKeep.latchA else s.hswKeep.latchB)).filter (fun x => x.2 == k)).map (·.1)

/-- Switch `k` is mapped; an absent switch is not (R7, R451). -/
def State.lhMapped (s : State) (k : Nat) : Bool := s.hswHere k && !(s.lhInputs k).isEmpty

/-- Limp-home wants switch `k` on: an input mapped to it is high, and no short, clamp or 175 °C shutdown holds it off. -/
def State.lhWants (s : State) (k : Nat) : Bool :=
  s.lhMapped k && (s.lhInputs k).any (nbit (s.get F.HSW_LH_STAT_LH_IN7)) && !s.hswLatched k && !(s.hsw.get k).ot

/-- A switch that limp-home drove goes off, by its inputs or by its release: FORCED is set, and a switch that was on is reported
(R444, R452, R461). -/
def State.lhOff (s : State) (k : Nat) : State :=
  let was := s.hswOut k
  let s := (s.hswTurnOffAny k).put (F.HSW_CH_STAT_FORCED k) 1
  if was then s.strForcedOff 2 k else s

/-- While limp-home is active switch `k` follows its inputs, in DC (R449, R450); an unmapped one is off. -/
def State.lhDrive (s : State) (k : Nat) : State :=
  if s.lhWants k then
    let s := (s.hswUncommand k).put (F.HSW_CH_STAT_HELD k) 0
    let s := if s.hswOut k then s else s.hswTurnOn k
    s.put (F.HSW_CH_STAT_LIMPED k) 1
  else if s.limped k then (s.lhOff k).putB (F.HSW_CH_STAT_LIMPED k) (s.lhMapped k)
  else (s.hswProtect k none).putB (F.HSW_CH_STAT_LIMPED k) (s.lhMapped k)

/-- Every switch follows the map. -/
def State.lhDriveAll (s : State) : State := s.each s.hswAll State.lhDrive

/-- An entry of the table names an absent switch (R451). -/
def State.lhAbsent (s : State) (t : List Word) : Bool := (lhEntries t).any (fun x => !s.hswHere x.2)

/-- The switches whose HOLD_OVER_RESET is 1, as a mask. -/
def State.holdOver (s : State) : Nat :=
  (List.range 24).foldl (fun m k => m + s.get (F.HSW_CH_CFG_HOLD_OVER_RESET k) * 2 ^ k) 0

/-- What differs from the record-store copy is written to the dies and to the record store (R451). -/
def State.lhSync (s : State) : State :=
  let t := s.lhTable
  let new := (t, s.holdOver, s.get F.HSW_LH_CTRL_HOLD_T)
  if s.hswKeep.store = some new then s
  else
    let changed := match s.hswKeep.store with | some o => o.1 != t | none => true
    let s := s.modKeep (fun k => { k with store := some new, older := k.store, holdMask := new.2.1, holdT := new.2.2 })
    let s := if changed then
        let s := s.modKeep (fun k => { k with latchA := t, latchB := t })
        ((s.put F.HSW_LH_STAT_VALIDA 1).put F.HSW_LH_STAT_VALIDB 1).raiseIf (s.lhAbsent t) 185
      else s
    s.when s.limp State.lhDriveAll

/-- Start-up loads the dies from the record-store copy (R451, R588), if it restores; `had` where its slots held one. -/
def State.lhLoad (s : State) (had : Bool) : State :=
  match s.hswKeep.store with
  | some c =>
    let s := s.modKeep (fun k => { k with latchA := c.1, latchB := c.1, holdMask := c.2.1, holdT := c.2.2 })
    (((s.put F.HSW_LH_STAT_VALIDA 1).put F.HSW_LH_STAT_VALIDB 1).raiseIf (s.lhAbsent c.1) 185).when s.limp State.lhDriveAll
  | none =>
    let s := s.modKeep (fun k => { k with latchA := [], latchB := [] })
    (((s.put F.HSW_LH_STAT_VALIDA 0).put F.HSW_LH_STAT_VALIDB 0).raiseIf had 185).when s.limp State.lhDriveAll

/-! ## Hold-over (R453, R454) -/

/-- What a device reset does to switch `k`: a hold-over switch in SWITCH mode keeps its output state in the die, with the
thresholds its protection uses; one that a reset before holds already stays held. -/
def State.holdAtReset (s : State) (k : Nat) : Bool :=
  s.hswHere k && nbit s.hswKeep.holdMask k && !s.limp && (s.flag (F.HSW_CH_STAT_HELD k) || s.get (F.HSW_CH_CFG_MODE k) == 1)

/-- A held switch goes off at the end of the hold. -/
def State.holdEnd (s : State) (k : Nat) : State :=
  if s.flag (F.HSW_CH_STAT_HELD k) then
    ((s.hswTurnOffAny k).hswUncommand k).put (F.HSW_CH_STAT_HELD k) 0
  else s

/-- The first course is applied to HSW (R454): HOLD_RST where a switch was held, a held switch with CSRC = 0 stays on as if
it had accepted an ON, one with CSRC = 1 or in mode OFF (R436) goes off, and the thresholds kept through the reset give way to the registers. -/
def State.holdHandOver (s : State) : State :=
  let was := (List.range 24).any (fun k => nbit (s.nat R.HSW_HOLD) k && (s.hsw.get k).kept.isSome)
  let s := (s.raiseIf was 186).each ((List.range 24).filter (fun k => s.flag (F.HSW_CH_STAT_HELD k))) (fun s k =>
    if s.hswOut k && !s.flag (F.HSW_CH_CFG_CSRC k) && s.get (F.HSW_CH_CFG_MODE k) != 0 then
      (s.put (F.HSW_CH_STAT_HELD k) 0).modHsw k (fun c => { c with cmd := true })
    else s.holdEnd k)
  { s with hsw := Table.mapAll (fun c => { c with kept := none }) s.hsw }

/-- A switch that is absent goes off, whatever had it on: one that the personality does not have (R7), one of a failed die B
(R435). -/
def State.hswAbsentOff (s : State) : State :=
  s.each ((List.range 24).filter (fun k => !s.hswHere k && (s.hswOut k || s.flag (F.HSW_CH_STAT_HELD k) || s.limped k))) (fun s k =>
    (((s.hswTurnOffAny k).hswUncommand k).put (F.HSW_CH_STAT_HELD k) 0).put (F.HSW_CH_STAT_LIMPED k) 0)

/-- The personality is selected (R7). -/
def State.hswSelect (s : State) : State := (s.modKeep (fun k => { k with here := s.nHsw })).hswAbsentOff

/-! ## Disabling (R455) -/

/-- Switch `k` is disabled by its own EN or with its block: queued commands are discarded and counted, and the switch goes
off and is reported. Limp-home is not affected. -/
def State.hswDisable (s : State) (k : Nat) : State :=
  let n := (s.hsw.get k).queue.length
  let s := (s.count F.HSW_DISC n).modHsw k (fun c => { c with queue := [] })
  if s.limped k then s
  else
    let was := s.hswOnState k
    let s := ((s.hswTurnOffAny k).hswUncommand k).put (F.HSW_CH_STAT_HELD k) 0
    if was then s.strForcedOff 2 k else s

/-- MODE OFF turns the output of switch `k` off (R436); a point that was on is reported (log entry 1211). A held switch stays as it
is until the hold ends (R454). -/
def State.hswModeOff (s : State) (k : Nat) : State :=
  if s.get (F.HSW_CH_CFG_MODE k) = 0 && s.hswOnState k && !s.limped k && !s.flag (F.HSW_CH_STAT_HELD k) then
    ((s.hswTurnOffAny k).hswUncommand k).strForcedOff 2 k
  else s

/-- ENABLE of HSW goes from 1 to 0. -/
def State.hswBlockDisable (s : State) : State :=
  { s.each s.hswAll State.hswDisable with hswGen := [] }

/-- HSW_SUMMARY (R457). -/
def State.hswSummary (s : State) : Nat := (List.range 24).foldl (fun m k => m + bit (s.hswOut k) * 2 ^ k) 0

/-! ## The commands -/

/-- HSW_COMMAND_ARRIVE (R437). -/
def execHswCommandArrive (s : State) : Answer :=
  .next (match s.str.hswWire with
    | [] => s
    | c :: t => (s.modStr (fun x => { x with hswWire := t })).hswArrive c)

/-- HSW_COMMAND_START (R437). -/
def execHswCommandStart (k : Fin 24) (e : BitVec 16) (s : State) : Answer :=
  .next (match (s.hsw.get k.val).queue with
    | [] => s
    | c :: t =>
      if c.start ≤ s.now then (s.modHsw k.val (fun x => { x with queue := t })).hswStart k.val c e.toNat else s)

/-- INRUSH_END (R438, R440): under limp-home an inrush timeout does not act (R449). -/
def execInrushEnd (k : Fin 24) (atLimit : Bool) (e : BitVec 16) (s : State) : Answer :=
  .next (let c := s.hsw.get k.val
         if s.flag (F.HSW_CH_STAT_INRUSH k.val) && decide (c.inrEnd ≤ s.clk) then
           let s := (s.put (F.HSW_CH_STAT_INRUSH k.val) 0).modHsw k.val (fun c => { c with judgeAt := s.clk, olAt := s.clk })
           if atLimit && !s.limped k.val then
             ((s.put (F.HSW_CH_FLT_LIMIT k.val) 1).raise 181).hswProtect k.val (some e.toNat)
           else s.putB (F.HSW_CH_STAT_ATLIMIT k.val) atLimit
         else s)

/-- OC_T in ms of switch `k`, and OL_FILTER: a held switch keeps those it had (R454). -/
def State.ocTime (s : State) (k : Nat) : Nat :=
  match (s.hsw.get k).kept with | some w => takeField w.2 16 16 | none => s.get (F.HSW_CH_OC_OC_T k)
def State.olTime (s : State) (k : Nat) : Nat :=
  match (s.hsw.get k).kept with | some w => takeField w.1 16 16 | none => s.get (F.HSW_CH_OL_OL_FILTER k)

/-- The steady judgements of switch `k` run: on, after its inrush and outside a dip hold (R440, R442, R445). -/
def State.hswJudged (s : State) (k : Nat) : Bool :=
  s.hswOut k && !s.flag (F.HSW_CH_STAT_INRUSH k) && !s.flag (F.HSW_CH_STAT_DIPHOLD k)

/-- The active current limit of switch `k` in 10 mA (R438): that of the latched inrush profile within T_INR, then ILIM, which a held
switch keeps (R454); none while its output is off. -/
def State.hswLimit (s : State) (k : Nat) : Option Nat :=
  if !s.hswOut k then none
  else if s.flag (F.HSW_CH_STAT_INRUSH k) then some (s.hsw.get k).limit
  else match (s.hsw.get k).kept with | some w => some (takeField w.2 0 16) | none => some (s.get (F.HSW_CH_OC_ILIM k))

/-- LIMIT_TIMEOUT (R440). -/
def execLimitTimeout (k : Fin 24) (e : BitVec 16) (s : State) : Answer :=
  .next (if s.hswJudged k.val && !s.limped k.val && s.passed (s.hsw.get k.val).judgeAt (s.ocTime k.val * msec) then
    ((s.put (F.HSW_CH_FLT_LIMIT k.val) 1).raise 181).hswProtect k.val (some e.toNat) else s)

/-- A short circuit by one of the two criteria of R441: the class's hard limit, or the active limit with the output below 1.5 V
for 10 µs, not in the first 200 µs after switch-on nor in a held dip. -/
def State.hswShorts (s : State) (k : Nat) (x : SwShort) : Bool :=
  let i := x.cur.toNat
  s.hswOut k && (decide (hardLimit k ≤ i) ||
    ((match s.hswLimit k with | some l => decide (l ≤ i) | none => false) && decide (x.volt.toNat < 150) &&
      decide (10 ≤ x.held.toNat) && decide (200 * usec ≤ s.hswAge k) && !s.flag (F.HSW_CH_STAT_DIPHOLD k)))

/-- HSW_SHORT (R441): it latches, also under limp-home. -/
def execHswShort (k : Fin 24) (e : SwShort) (s : State) : Answer :=
  .next (if s.hswShorts k.val e then
    (((s.put (F.HSW_CH_FLT_SHORT k.val) 1).raise 177).put ⟨H.sticky .hsw, 1, 1⟩ 1).hswProtect k.val (some e.energy.toNat) else s)

/-- HSW_OPEN_LOAD (R442). -/
def execHswOpenLoad (k : Fin 24) (s : State) : Answer :=
  .next (if s.hswJudged k.val && !s.flag (F.HSW_CH_STAT_OPEN k.val) &&
            s.passed (s.hsw.get k.val).olAt (s.olTime k.val * msec) then
    let s := ((s.put (F.HSW_CH_STAT_OPEN k.val) 1).put (F.HSW_CH_FLT_OPEN k.val) 1).raise 178
    s.modHsw k.val (fun c => { c with olAt := s.clk }) else s)

/-- HSW_OPEN_LOAD_END (R442). -/
def execHswOpenLoadEnd (k : Fin 24) (s : State) : Answer :=
  .next (if s.hswJudged k.val && s.flag (F.HSW_CH_STAT_OPEN k.val) &&
            s.passed (s.hsw.get k.val).olAt (s.olTime k.val * msec) then
    (s.put (F.HSW_CH_STAT_OPEN k.val) 0).modHsw k.val (fun c => { c with olAt := s.clk }) else s)

/-- HSW_OVERTEMP (R443): at 175 °C. -/
def execHswOvertemp (k : Fin 24) (t e : BitVec 16) (s : State) : Answer :=
  .next (if s.hswHere k.val && decide (1750 ≤ t.toInt) && !(s.hsw.get k.val).ot then
    let s := s.put (F.HSW_CH_TJ k.val) t.toNat
    let s := ((s.put (F.HSW_CH_FLT_OT k.val) 1).raise 179).modHsw k.val (fun c => { c with ot := true })
    s.hswProtect k.val (some e.toNat) else s)

/-- HSW_OVERTEMP_END (R443, R450): below 150 °C. -/
def execHswOvertempEnd (k : Fin 24) (t : BitVec 16) (s : State) : Answer :=
  .next (if (s.hsw.get k.val).ot && decide (t.toInt < 1500) then
    let s := (s.put (F.HSW_CH_TJ k.val) t.toNat).modHsw k.val (fun c => { c with ot := false })
    s.when s.limp (fun s => s.lhDrive k.val) else s)

/-- The dip hold of group `g` ends (R445): the OC_T and OL_FILTER timings start afresh. -/
def State.dipRelease (s : State) (g : Nat) : State :=
  let s := { s with hswVhs := s.hswVhs.modify g (fun x => { x with hold := false }) }
  s.each ((List.range 6).map (6 * g + ·)) (fun s k =>
    if s.flag (F.HSW_CH_STAT_DIPHOLD k) then
      (s.put (F.HSW_CH_STAT_DIPHOLD k) 0).modHsw k (fun c => { c with judgeAt := s.clk, olAt := s.clk })
    else s)

/-- VHS_DIP_START (R445). -/
def execVhsDipStart (g : Fin 4) (v : BitVec 16) (s : State) : Answer :=
  .next (if s.hswHere (6 * g.val) && !s.flag (F.HSW_VHS_STAT_DIP g.val) &&
            decide (v.toNat < s.get (F.HSW_VHS_CFG_VHS_DIP g.val) * 10) then
    let s := (s.put (F.HSW_VHS_STAT_VHS g.val) v.toNat).put (F.HSW_VHS_STAT_DIP g.val) 1
    let s := { s with hswVhs := s.hswVhs.set g.val ⟨s.clk, true⟩ }
    s.each ((List.range 6).map (6 * g.val + ·)) (fun s k => if s.hswOut k then s.put (F.HSW_CH_STAT_DIPHOLD k) 1 else s)
  else s)

/-- VHS_DIP_END (R445). -/
def execVhsDipEnd (g : Fin 4) (v : BitVec 16) (s : State) : Answer :=
  .next (if s.flag (F.HSW_VHS_STAT_DIP g.val) && decide (s.get (F.HSW_VHS_CFG_VHS_DIP g.val) * 10 ≤ v.toNat) then
    ((s.put (F.HSW_VHS_STAT_VHS g.val) v.toNat).put (F.HSW_VHS_STAT_DIP g.val) 0).dipRelease g.val else s)

/-- VHS_DIP (R445): the dip lasts beyond 2 ms. -/
def execVhsDip (g : Fin 4) (s : State) : Answer :=
  .next (let x := s.hswVhs.get g.val
         if x.hold && s.flag (F.HSW_VHS_STAT_DIP g.val) && s.passed x.since (2 * msec) then
           ((s.dipRelease g.val).count (F.HSW_VHS_CNT g.val) 1).raise 180
         else s)

/-- PGEN_PERIOD_START (R446): at a tag that is a whole multiple of PER × 16. -/
def execPgenPeriodStart (p : Fin 6) (s : State) : Answer :=
  .next (let per := s.get (F.HSW_PG_CFG_PER p.val)
         if s.runs .hsw && s.flag (F.HSW_PG_CFG_EN p.val) && per != 0 && s.onGrid (per * usec) then
           let s := s.put (F.HSW_PG_STAT p.val) (s.get (F.HSW_PG_DUTY p.val))
           let s := { s with hswGen := s.hswGen.set p.val ⟨true, per, s.now⟩ }
           s.each ((List.range 24).filter (fun k => (s.hsw.get k).cmd && s.get (F.HSW_CH_CFG_MODE k) == 2 &&
             s.get (F.HSW_CH_CFG_PGEN k) == p.val)) State.pulsePlan
         else s)

/-- PULSE_EDGE (R442, R447, R448): the inrush profile applies at the first pulse after an ON, OL_FILTER counts on-time only,
and a clamp overload ends the pulses. -/
def execPulseEdge (k : Fin 24) (on : Bool) (e : BitVec 16) (s : State) : Answer :=
  .next (let c := s.hsw.get k.val
         match on, c.edgeOn, c.edgeOff with
         | true, some t, _ =>
           if t ≤ s.now then
             let g := s.hswGen.get (s.get (F.HSW_CH_CFG_PGEN k.val))
             let s := s.modHsw k.val (fun c => { c with
               edgeOn := none, edgeOff := if c.pulse < g.per then some (t + c.pulse * usec) else none, first := false })
             if c.first then s.hswTurnOn k.val
             else (s.put (F.HSW_CH_STAT_ON k.val) 1).modHsw k.val
               (fun c => if s.hswOut k.val then c else { c with judgeAt := s.clk, olAt := s.clk - (c.offAt - c.olAt), cal := false })
           else s
         | false, _, some t =>
           if t ≤ s.now then
             let s := s.modHsw k.val (fun c => { c with edgeOff := none })
             let s := if s.hswOut k.val then s.hswOutOff k.val e.toNat else s
             if s.hswLatched k.val then s.hswProtect k.val none else s
           else s
         | _, _, _ => s)

/-- LIMP_ON (R449): mapped switches follow their inputs, and every other output is forced off. -/
def execLimpOn (s : State) : Answer :=
  .next (if s.limp then s
         else
           let s := (s.put F.HSW_LH_STAT_ACTIVE 1).raise 183
           ((s.solForceOff 0).solForceOff 1).lhDriveAll)

/-- LIMP_OFF (R452): every load switch is off, and channels in CURRENT mode regulate again (R394). -/
def execLimpOff (s : State) : Answer :=
  .next (if !s.limp then s
         else
           let s := (s.put F.HSW_LH_STAT_ACTIVE 0).raise 184
           let s := s.each s.hswAll (fun s k => (s.lhOff k).put (F.HSW_CH_STAT_LIMPED k) 0)
           s.solResume (List.range 96))

/-- LH_INPUT_CHANGE (R449). -/
def execLhInputChange (levels : BitVec 8) (s : State) : Answer :=
  .next ((s.put F.HSW_LH_STAT_LH_IN7 levels.toNat).when s.limp State.lhDriveAll)

/-- LIMP_TABLE_CHECK (R451): a latch that fails its check leaves its die with an empty table. -/
def execLimpTableCheck (okA okB : Bool) (s : State) : Answer :=
  .next (let s1 := if okA then s else (s.modKeep (fun k => { k with latchA := [] })).put F.HSW_LH_STAT_VALIDA 0
         let s2 := if okB then s1 else (s1.modKeep (fun k => { k with latchB := [] })).put F.HSW_LH_STAT_VALIDB 0
         (s2.raiseIf (!(okA && okB)) 185).when s.limp State.lhDriveAll)

/-- LIMP_TABLE_SYNC (R451, R454): the footing has been applied. -/
def execLimpTableSync (s : State) : Answer := .next (if s.present .hsw && s.cfg.footing.isSome then s.lhSync else s)

/-- HOLD_OVER_EXPIRY (R454, R592): HOLD_T after the start of the device reset. -/
def execHoldOverExpiry (s : State) : Answer :=
  .next (if s.passed 0 (s.hswKeep.holdT * second) then s.each (List.range 24) State.holdEnd else s)

/-- HSW_SENSE_OFFSET_CALIBRATION (R635): 2 ms after a turn-off. -/
def execHswSenseOffsetCalibration (k : Fin 24) (s : State) : Answer :=
  .next (if s.runs .mem && s.present .hsw && s.hswHere k.val && !s.hswOut k.val && s.passed (s.hsw.get k.val).offAt (2 * msec) then
    s.modHsw k.val (fun c => { c with cal := true }) else s)

/-- DIE_TJ_SAMPLE (R393, R443): at 140 °C the load switches of the die that are not under limp-home go off too. -/
def execDieTjSample (d : Fin 2) (t : BitVec 16) (s : State) : Answer :=
  .next (if s.dieHere d.val then
    let was := s.flag (F.SOL_DIE_STAT_OFF140 d.val)
    let s := s.dieTemp d.val t.toInt
    if !was && s.flag (F.SOL_DIE_STAT_OFF140 d.val) then s.hswForceOff d.val else s
  else s)

end Sys2Proof.Machine
end

