-- ==== Sys2Proof/Machine/Pace.lean ====
section
/-! DEFINITION. The sources of the loops, Pacers, lap learners and test-signal injection (R467, R500 to R513, R517 to
R523). -/

namespace Sys2Proof.Machine

open Sys2Proof

def State.modPacer (s : State) (p : Nat) (f : Pacer → Pacer) : State := { s with pacer := s.pacer.modify p f }
def State.modLap (s : State) (j : Nat) (f : LapState → LapState) : State := { s with lap := s.lap.modify j f }
def State.modInj (s : State) (q : Nat) (f : InjState → InjState) : State := { s with inj := s.inj.modify q f }

/-! ## The sample grid and sQ16.16 (R463, R464, R472) -/

/-- Counts of 1/16 µs between grid instants. -/
def gridLen : Nat := 800

/-- The present instant is a grid instant that satisfies PHASE and PERIOD (R464). -/
def State.gridDue (s : State) (phase period : Nat) : Bool :=
  s.clk % gridLen == 0 && period != 0 && ((s.clk / gridLen : Int) - phase).emod period == 0

/-- Saturation to sQ16.16. -/
def sat32 (i : Int) : Int := satS 32 i

/-- The product of a coefficient with `q` fraction bits and a signal, rounded to sQ16.16 with halves away from zero, not
yet saturated. -/
def mulQ (q : Nat) (a b : Int) : Int := divHaz (a * b) (2 ^ q : Nat)

/-! ## Sources (R467, R496) -/

/-- The fields of a source or binding word. -/
def srcKind (w : Nat) : Nat := w / 2 ^ 28 % 16
def srcInst (w : Nat) : Nat := w / 2 ^ 20 % 256
def srcBit (w : Nat) : Nat := w / 2 ^ 11 % 512
def srcWidth (w : Nat) : Nat := w / 2 ^ 6 % 32 + 1
def srcSigned (w : Nat) : Bool := nbit w 5

/-- A field of the data of object `k` (R272). -/
def State.objBits (s : State) (k o w : Nat) : Nat :=
  (s.nat (R.CAN_OBJ_DATA k (o / 32)) + 2 ^ 32 * s.nat (R.CAN_OBJ_DATA k (o / 32 + 1))) / 2 ^ (o % 32) % 2 ^ w

/-- A source as a loop or Pacer takes it: its value as sQ16.16, the instant of its newest sample, and whether it is
valid. -/
structure Input where
  val   : Int
  time  : Nat
  valid : Bool
  deriving DecidableEq, Repr

/-- The value of loop `n` that is to be applied at this instant, its heat's where it is in one: the newest of its output (R465,
R467, R501), until LOOP_SAMPLE applies it. -/
def State.outDue (s : State) (n : Nat) : Option LoopVal :=
  (match s.get (F.CTL_LOOP_CFG_HEAT n) with
    | 0 => (s.ctl.loops.get n).pend
    | h + 1 => if s.flag (F.CTL_HEAT_CFG_EN h) then (s.ctl.heats.get h).pend else none).filter (fun x => decide (x.due ≤ s.clk))

/-- The newest value of the source of word `w`; `fix` is the value of kind 0 (R467). A receive object gives the stored frame
(R544). -/
def State.source (s : State) (w : Nat) (fix : Int) : Input :=
  let i := srcInst w
  let t (k : Nat) := s.stamped k i
  match srcKind w with
  | 1 => ⟨s.int (R.FBK_AIN_VAL i), t 1, !(s.flag (F.FBK_AIN_STAT_OPEN i) || s.flag (F.FBK_AIN_STAT_SHUNT_OPEN i))⟩
  | 2 => ⟨sat32 (s.int (R.FBK_ENC_SPD i) * 2 ^ 8), t 2, s.get (F.FBK_ENC_STAT_BAD i) == 0⟩
  | 3 => ⟨sat32 (s.int (R.FBK_ENC_POS i) * 2 ^ 16), t 3, s.get (F.FBK_ENC_STAT_BAD i) == 0⟩
  | 4 => ⟨sat32 (s.nat (R.FBK_SSI_POS i) * 2 ^ 16), t 4, s.flag (F.FBK_SSI_STAT_VALID i)⟩
  | 5 => ⟨sat32 (s.gets F.FBK_FUS_OUT * 2 ^ 16), s.stamped 5 0, s.flag F.FBK_FUS_STAT_VALID⟩
  | 6 =>
    let v := if s.canCfg i (F.CAN_OBJ_CFG_DIR i) = 1 then s.objBits i (srcBit w) (srcWidth w)
      else canBits (s.canObj.get i).stored.data (srcBit w) (srcWidth w)
    ⟨sat32 ((if srcSigned w then signed (srcWidth w) v else v) * 2 ^ 16), (s.canObj.get i).storedAt, true⟩
  | 7 =>
    let l := i % 4
    ⟨sat32 (match i / 4 % 4 with
      | 0 => (s.get (F.STR_LAYER_ON l) : Int) * 2 ^ 16
      | 1 => divHaz ((s.nat (R.STR_LAYER_DSUM l) : Int) * 2 ^ 16) 10
      | _ => divHaz ((s.nat (R.STR_LAYER_WIDTH l) : Int) * 2 ^ 16) 1000), s.stamped 7 0, true⟩
  | 8 => ⟨s.int (R.PACE_X i), t 8, true⟩
  | 9 =>
    let ok := s.get (F.CTL_LOOP_STAT_STATE i) != 0
    match s.outDue i with
    | some x => ⟨x.val, x.due, ok⟩
    | none => ⟨s.int (R.CTL_LOOP_UV i), t 9, ok⟩
  | _ => ⟨fix, s.clk, true⟩

/-! ## Pacers (R501 to R505) -/

/-- T times a quantity of 32 fraction bits, for T = PERIOD × 50 µs. -/
def timesT (period : Nat) (v : Int) : Int := divOpen 503 (v * period) 20000

/-- A quantity of 32 fraction bits divided by T. -/
def perT (period : Nat) (v : Int) : Int := divOpen 504 (v * 20000) period

/-- One step of a Pacer towards `target` (R503); `halt` where v_des is 0. Limits are uQ24.8, 0 none. -/
def paceStep (p : Pacer) (target : Int) (halt : Bool) (period vmax amax jmax : Nat) : Pacer :=
  let e := target - p.x
  let top : Nat := 2 ^ 63 - 1
  let root := isqrt ((if 0 < jmax then 1 else 2) * amax * e.natAbs * 2 ^ 24)
  let m := min (if vmax = 0 then top else vmax * 2 ^ 24) (if amax = 0 then top else root)
  let vDes : Int := if halt then 0 else e.sign * m
  let aDes := perT period (vDes - p.v)
  let aDes := if amax = 0 then aDes else clamp (-(amax * 2 ^ 24 : Nat)) (amax * 2 ^ 24 : Nat) aDes
  let j := timesT period ((jmax : Int) * 2 ^ 24)
  let a := if jmax = 0 then aDes else clamp (p.a - j) (p.a + j) aDes
  let vNew := p.v + timesT period a
  let passes := decide (0 < a ∧ p.v ≤ vDes ∧ vDes < vNew) || decide (a < 0 ∧ vDes ≤ p.v ∧ vNew < vDes)
  let a := if passes then 0 else a
  let v := if passes then vDes else vNew
  let x := p.x + timesT period v
  if e ≠ 0 ∧ (target - x).sign ≠ e.sign then { p with x := target, v := 0, a := 0 } else { p with x := x, v := v, a := a }

/-- x, v and a of Pacer `p` are shown, and AT (R503, R521). -/
def State.paceShow (s : State) (p : Nat) (target : Int) : State :=
  let q := s.pacer.get p
  let s := (s.setInt (R.PACE_X p) (sat32 (divHaz q.x (2 ^ 16)))).setInt (R.PACE_V p) (sat32 (divHaz q.v (2 ^ 24)))
  (s.setInt (R.PACE_A p) (sat32 (divHaz q.a (2 ^ 24)))).putB (F.PACE_STAT_AT p) (decide (q.x = target) && decide (q.v = 0))

/-- The clamped target of Pacer `p` in units of 2^-32, whether its source is valid and whether it was clamped (R502). -/
def State.paceTarget (s : State) (p : Nat) : Int × Bool × Bool :=
  let i := s.source (s.nat (R.PACE_TSRC p)) (s.int (R.PACE_TGT p))
  let c := clamp (s.int (R.PACE_XMIN p)) (s.int (R.PACE_XMAX p)) i.val
  (c * 2 ^ 16, i.valid, decide (c ≠ i.val))

/-- v and a of Pacer `p` become 0 and x is held. -/
def State.paceHalt (s : State) (p : Nat) : State :=
  ((s.modPacer p (fun q => { q with v := 0, a := 0 })).setNat (R.PACE_V p) 0).setNat (R.PACE_A p) 0

/-- An update of Pacer `p` (R503, R505). -/
def State.pace (s : State) (p : Nat) : State :=
  let st := s.get (F.PACE_STAT_STATE p)
  if !s.flag (F.PACE_CTRL_EN p) then
    if st = 0 then s else (s.put (F.PACE_STAT_STATE p) 0).paceHalt p
  else
    let s := if st = 0 then (s.put (F.PACE_STAT_STATE p) 1).paceHalt p else s
    let c := (s.pacer.get p).cmd
    let s := s.modPacer p (fun q => { q with cmd := 0 })
    let s := match c with
      | 1 => s.put (F.PACE_STAT_STATE p) 1
      | 2 => s.put (F.PACE_STAT_STATE p) 2
      | 3 => s.modPacer p (fun q => { q with x := s.int (R.PACE_X0 p) * 2 ^ 16, v := 0, a := 0 })
      | _ => s
    let t := s.paceTarget p
    let s := s.putB (F.PACE_STAT_SRCBAD p) (!t.2.1)
    let s := (s.raiseIf (t.2.2 && !s.flag (F.PACE_STAT_TCLAMP p)) 201).putB (F.PACE_STAT_TCLAMP p) t.2.2
    let halt := s.get (F.PACE_STAT_STATE p) == 2 || !t.2.1
    let s := s.modPacer p (fun q => paceStep q t.1 halt (s.get (F.PACE_TIME_PERIOD p)) (s.nat (R.PACE_VMAX p))
      (s.nat (R.PACE_AMAX p)) (s.nat (R.PACE_JMAX p)))
    (s.paceShow p t.1).stamp 8 p

/-- The footing has been applied after a device reset: x is loaded from PACE_X0 (R505). -/
def State.paceLoad (s : State) : State :=
  s.each (List.range 16) (fun s p =>
    (s.modPacer p (fun q => { q with x := s.int (R.PACE_X0 p) * 2 ^ 16 })).setNat (R.PACE_X p) (s.nat (R.PACE_X0 p)))

/-- A host write to PACE_CMD (R505): the last one before the update counts. -/
def State.paceCmd (s : State) (p c : Nat) : State := s.modPacer p (fun q => { q with cmd := c })

/-! ## Lap learners (R506 to R510) -/

/-- The loop that learner `j` serves, if any. -/
def State.lapLoop (s : State) (j : Nat) : Option Nat :=
  (List.range s.nLoop).find? (fun n => s.get (F.CTL_LOOP_CFG_LAP n) == j + 1)

/-- The learner supplies a term: enabled, with a valid source (R507, R508, R517). -/
def State.lapOn (s : State) (j : Nat) : Bool :=
  s.runs .pace && s.flag (F.LAP_CTRL_EN j) && (s.source (s.nat (R.LAP_SRC j)) 0).valid

/-- The phase count and the cell index of learner `j` now (R506). -/
def State.lapPhase (s : State) (j : Nat) : Nat × Nat :=
  let i := s.get (F.LAP_SRC_INST j)
  let pos : Int := if s.get (F.LAP_SRC_KIND j) = 3 then s.int (R.FBK_ENC_POS i) else s.nat (R.FBK_SSI_POS i)
  let cpr := s.get (F.LAP_CPR_CPR j)
  let pc := (((if s.flag (F.LAP_SRC_NEG j) then -pos else pos) - s.int (R.LAP_ORIGIN j)).emod cpr).toNat
  (pc, pc * 1024 / cpr)

/-- The lap term of learner `j` at a sample of its loop, and what a change of it other than by phase or learning adds to
the loop's i (R507, R508): all of it after a reset or where the term came or went, else what a host write changed in the cell. -/
def State.lapTerm (s : State) (j : Nat) : Int × Int :=
  let on := s.lapOn j
  let x := s.lap.get j
  let c := ((s.lapPhase j).2 + s.get (F.LAP_SRC_LEAD j)) % 1024
  let new := if on then s.int (R.LAP_TBL j c) else 0
  let old : Int := match x.olds.find? (fun y => y.1 == c) with | some y => y.2 | none => new
  (new, if x.touched || x.was != on then x.lap - new else if on then old - new else 0)

/-- The cells that a sample learns: from `a` exclusive to `b` inclusive in the forward direction, the last 32 of them, or
`b` itself where they are equal; and whether some were left out (R507). -/
def lapCells (a b : Nat) : List Nat × Bool :=
  let n := (b + 1024 - a) % 1024
  if n = 0 then ([b], false)
  else ((List.range (min n 32)).map (fun i => (b + 1024 - i) % 1024), decide (32 < n))

/-- One cell of learner `j` learns the error `e` (R507). -/
def State.lapLearn (s : State) (j : Nat) (e : Int) (m : Nat) : State :=
  let t := s.int (R.LAP_TBL j m)
  let v := sat32 (t - mulQ 16 (s.get (F.LAP_LEAK_LEAK j)) t + sat32 (mulQ 24 (s.int (R.LAP_GAIN j)) e))
  let top := s.int (R.LAP_TMAX j)
  if top < (v.natAbs : Int) then
    (((s.setInt (R.LAP_TBL j m) (v.sign * top)).count (F.LAP_CNT_CLAMP j) 1).put ⟨H.sticky .pace, 0, 1⟩ 1).raise 203
  else s.setInt (R.LAP_TBL j m) v

/-- Learner `j` after a sample of its loop with error `e`; `fit` where the loop is CLOSED and, in a heat, won the previous
sample (R506, R507). -/
def State.lapSample (s : State) (j : Nat) (e : Int) (fit : Bool) : State :=
  let on := s.lapOn j
  let x := s.lap.get j
  let p := s.lapPhase j
  let cpr := s.get (F.LAP_CPR_CPR j)
  let c := (p.2 + s.get (F.LAP_SRC_LEAD j)) % 1024
  let term := (s.lapTerm j).1
  let d := match x.pc with | some q => (p.1 + cpr - q) % cpr | none => 0
  let jumped := s.get (F.LAP_SRC_KIND j) == 3 && x.seen != s.stamped 15 (s.get (F.LAP_SRC_INST j))
  let learns := on && fit && s.flag (F.LAP_CTRL_LEARN j) && decide (0 < d ∧ 2 * d < cpr) && !jumped
  let s := if learns then
      let cs := lapCells x.k p.2
      let s := if cs.2 then s.count (F.LAP_CNT_SKIP j) 1 else s
      s.each cs.1.reverse (fun s m => s.lapLearn j e m)
    else s
  let bad := s.flag (F.LAP_CTRL_EN j) && !(s.source (s.nat (R.LAP_SRC j)) 0).valid
  (s.setInt (R.LAP_OUT j) term).modLap j (fun _ =>
    { pc := if on then some p.1 else none, k := p.2, c := c, lap := term, was := on, touched := false, olds := []
      seen := s.stamped 15 (s.get (F.LAP_SRC_INST j))
      learning := learns, srcBad := bad })

/-- LAP_STAT of learner `j` (R522). The table gives the last k_j the bits 10 to 0 and three flags the bits 2 to 0 of them:
the flags stand in the bits 2 to 0. -/
def State.lapStat (s : State) (j : Nat) : Nat :=
  let x := s.lap.get j
  x.c * 2 ^ 16 + x.k / 8 * 8 + 4 * bit x.srcBad + 2 * bit x.learning + bit (s.lapLoop j).isSome

/-- A reset of learner `j`'s table (R509). -/
def State.lapReset (s : State) (j : Nat) : State :=
  ((s.each (List.range 1024) (fun s m => s.setNat (R.LAP_TBL j m) 0)).modLap j
    (fun x => { x with touched := true, olds := [] })).raise 202

/-- A reset because the phase is counted otherwise from now on: the next sample has no phase before it (R507, R509). -/
def State.lapRebase (s : State) (j : Nat) : State := (s.lapReset j).modLap j (fun x => { x with pc := none })

/-- A host write has changed cell `m` of learner `j`, which held `v`: what it held at the last sample is kept (R508). -/
def State.lapCell (s : State) (j m : Nat) (v : Int) : State :=
  s.modLap j (fun x => if x.olds.any (fun y => y.1 == m) then x else { x with olds := (m, v) :: x.olds })

/-! ## Injectors (R511 to R513) -/

/-- The state of injector `q`: 0 IDLE, 1 ARMED, 2 RUN, 3 DONE, 4 ABORT (R522). -/
def State.injSt (s : State) (q : Nat) : Nat := s.get (F.INJ_STAT_ST q)

/-- The injector that runs or is armed on loop `n`. -/
def State.injOf (s : State) (n : Nat) : Option Nat :=
  (List.range 4).find? (fun q => (s.injSt q == 1 || s.injSt q == 2) && s.get (F.INJ_CFG_LOOP q) == n)

/-- Injector `q` ends in state `st` with value 0. -/
def State.injEnd (s : State) (q st : Nat) : State :=
  ((s.put (F.INJ_STAT_ST q) st).setNat (R.INJ_VAL q) 0).modInj q (fun x => { x with stop := false })

/-- One shift of the PRBS register (R512). -/
def prbsNext (v : Nat) : Nat := (v * 2 + (v / 2 ^ 14 + v / 2 ^ 13) % 2) % 2 ^ 15

/-- The phase φ_k in 1e-10° at sample index `k` (R512): F0 and F1 as uQ16.16 Hz, `n` 0 where the frequency stays F0, and a
sample period of `per` × 50 µs. -/
def injPhase (f0 f1 n per k : Nat) : Int :=
  let m : Int := if n = 0 then 1 else n
  let d : Int := if n = 0 then 0 else (f1 : Int) - f0
  (((2 * m * f0 + d * ((k : Int) - 1)) * k * per * 180000000) / (2 * m * 65536)).emod 3600000000000

/-- The value of a CHIRP or SINE at a sample index (R512): AMP × sin(2π φ_k) with an error of at most 2^-15 × AMP, which is
open (log entry 1410), rounded under R472. -/
def injSine (amp : Int) (f0 f1 n per k : Nat) : Int :=
  let x := amp * sinA (injPhase f0 f1 n per k) / 1000000000
  let err : Int := (amp.natAbs * 1000000000 / 2 ^ 15 : Nat)
  clamp (divHaz (x - err) 1000000000) (divHaz (x + err) 1000000000) (Config.sine amp f0 f1 n per k)

/-- The value of injector `q` at sample index `k` (R512). -/
def State.injValue (s : State) (q k : Nat) : Int :=
  let amp := s.int (R.INJ_AMP q)
  let per := s.get (F.CTL_LOOP_TIME_PERIOD (s.get (F.INJ_CFG_LOOP q)))
  match s.get (F.INJ_CFG_TYPE q) with
  | 1 => amp
  | 2 => if nbit (s.inj.get q).s 14 then amp else sat32 (-amp)
  | 3 => sat32 (injSine amp (s.nat (R.INJ_F0 q)) (s.nat (R.INJ_F1 q)) (s.nat (R.INJ_N q)) per k)
  | 4 => sat32 (injSine amp (s.nat (R.INJ_F0 q)) (s.nat (R.INJ_F0 q)) 0 per k)
  | _ => 0

/-- A sample of the loop of injector `q` (R511, R513). -/
def State.injSample (s : State) (q : Nat) : State :=
  let x := s.inj.get q
  let st := s.injSt q
  if x.stop then s.injEnd q 3
  else
    let start := st == 1 && (!x.tagged || decide (s.nat64 (R.INJ_TAG_LO q) ≤ s.now))
    let s := if start then
        ((s.put (F.INJ_STAT_ST q) 2).setNat (R.INJ_K q) 0).modInj q
          (fun x => { x with s := s.get (F.INJ_PRBS_SEED q), k0 := some s.clk })
      else s
    if s.injSt q ≠ 2 then s
    else
      let k := s.nat (R.INJ_K q)
      let n := s.nat (R.INJ_N q)
      if n ≠ 0 ∧ n ≤ k then s.injEnd q 3
      else
        let s := if k ≠ 0 ∧ k % s.get (F.INJ_PRBS_HOLD q) = 0 then s.modInj q (fun x => { x with s := prbsNext x.s }) else s
        (s.setInt (R.INJ_VAL q) (s.injValue q k)).setNat (R.INJ_K q) (k + 1)

/-- The loop of injector `q` enters FALLBACK or OFF (R513). -/
def State.injAbort (s : State) (q : Nat) : State := (s.injEnd q 4).put ⟨H.sticky .pace, 2, 1⟩ 1

/-- START, or START_AT where `tagged` (R513). -/
def State.injArm (s : State) (q : Nat) (tagged : Bool) : State :=
  (((s.put (F.INJ_STAT_ST q) 1).setNat (R.INJ_K q) 0).setNat (R.INJ_VAL q) 0).modInj q
    (fun _ => { tagged := tagged, stop := false, s := 0, k0 := none })

/-- STOP (R513). -/
def State.injStop (s : State) (q : Nat) : State :=
  if s.injSt q = 1 ∨ s.injSt q = 2 then s.modInj q (fun x => { x with stop := true }) else s

/-! ## The commands -/

/-- PACER_UPDATE (R501 to R505). -/
def execPacerUpdate (p : Fin 16) (s : State) : Answer :=
  .next (if s.runs .pace && decide (p.val < s.nPacer) &&
            s.gridDue (s.get (F.PACE_TIME_PHASE p.val)) (s.get (F.PACE_TIME_PERIOD p.val)) then s.pace p.val else s)

end Sys2Proof.Machine
end

