-- ==== Sys2Proof/Machine/Capture.lean ====
section
/-! DEFINITION. The tuning capture (R514 to R516). -/

namespace Sys2Proof.Machine

open Sys2Proof

def State.modCap (s : State) (f : CapState → CapState) : State := { s with cap := f s.cap }

/-- Selector `k` of the capture (R514, R522). -/
def State.capSel (s : State) (k : Nat) : Nat :=
  if k % 2 = 0 then s.get (F.CAP_SEL_LO (k / 2)) else s.get (F.CAP_SEL_HI (k / 2))

/-- The signal that a selector names, as sQ16.16 (R514). -/
def State.capSignal (s : State) (sel : Nat) : Word :=
  let i := sel % 32
  let inj := (List.range 4).find? (fun q => s.injSt q == 2 && s.get (F.INJ_CFG_LOOP q) == i)
  match sel / 2 ^ 12 with
  | 0 => s.word (R.CTL_LOOP_SPV i)
  | 1 => s.word (R.CTL_LOOP_FBV i)
  | 2 => BitVec.ofInt 32 (s.ctl.loops.get i).e
  | 3 => s.word (R.CTL_LOOP_IV i)
  | 4 => s.word (R.CTL_LOOP_VV i)
  | 5 => s.word (R.CTL_LOOP_UV i)
  | 6 => match inj with | some q => s.word (R.INJ_VAL q) | none => 0#32
  | 7 => match s.get (F.CTL_LOOP_CFG_LAP i) with | 0 => 0#32 | j + 1 => s.word (R.LAP_OUT j)
  | 8 => s.word (R.PACE_X i)
  | 9 => BitVec.ofInt 32 (sat32 (divHaz (s.pacer.get i).v (2 ^ 16)))
  | _ => s.word (R.CTL_HEAT_L i)

/-- One entry of the capture's message (R516): a lost one is counted, and the capture goes on, but the entries of the
message that follow a lost one are dropped and counted too (R138). -/
def State.capEmit (s : State) (e : LaneEntry) (first last : Bool) : Bool × State :=
  let r := if s.cap.broke && !first then (true, s.laneDrop 7) else s.laneEmit 7 (entryTail e first last)
  let r := (r.1, r.2.modCap (fun c => { c with broke := r.1 }))
  if r.1 then
    let n := r.2.get F.CAP_STAT_LOST
    (true, ((r.2.count F.CAP_STAT_LOST 1).put ⟨H.sticky .pace, 1, 1⟩ 1).raiseIf (n == 0) 205)
  else r

/-- Bytes of sets, in selector order. -/
def capBytes (l : List (List Word)) : List Byte := (l.map (fun x => (x.map (fun w => leBytes 4 w.toNat)).flatten)).flatten

/-- The sets not yet written go out as one data entry (R516). -/
def State.capFlush (s : State) : State :=
  let c := s.cap
  if c.buf.isEmpty then s
  else
    let r := s.capEmit { type := 0x72, aux := c.index, payload := capBytes c.buf } false false
    r.2.modCap (fun x => { x with buf := [], index := c.index + c.buf.length })

/-- The header (R516), with `t` the time tag of set 0. -/
def State.capHeader (s : State) (t : Nat) : State :=
  let per := s.get (F.CTL_LOOP_TIME_PERIOD (s.get F.CAP_CFG_LOOP))
  let sel := ((List.range 8).map (fun k => leBytes 2 (s.capSel k))).flatten
  let p := leBytes 8 t ++ leBytes 4 (s.get F.CAP_CFG_DEC * per * gridLen) ++ leBytes 4 (s.get F.CAP_CFG_NSIG) ++ sel
  (s.capEmit { type := 0x71, aux := s.get F.CAP_CFG_NSIG, payload := p } true false).2

/-- The capture ends with END = `why`, or with 3 where a time step or hold came first (R515, R516): CAP_DONE once the trailer is in
LANE7. -/
def State.capEnd (s : State) (why : Nat) : State :=
  if !s.flag F.CAP_STAT_BUSY then s
  else
    let code := if s.nav.steps ≠ s.cap.steps then 3 else why
    let s := if s.cap.started then s else s.capHeader s.now
    let s := s.capFlush
    let p := leBytes 4 (s.nat R.CAP_SETS) ++ leBytes 4 code ++ leBytes 4 (s.get F.CAP_STAT_LOST)
    let r := s.capEmit { type := 0x73, aux := 0, payload := p } false true
    let held := !(r.2.lanes.get 7).held.isEmpty
    let s := (r.2.put F.CAP_STAT_BUSY 0).put F.CAP_STAT_END code
    (s.raiseIf (!r.1 && !held) 204).modCap (fun x => { x with held := x.held + bit (!r.1 && held) })

/-- GO (R515); a trailer of the capture before that is still held stays awaited. -/
def State.capGo (s : State) : State :=
  let s := ((s.put F.CAP_STAT_BUSY 1).put F.CAP_STAT_LOST 0).setNat R.CAP_SETS 0
  s.modCap (fun _ => { started := false, goAt := s.clk, steps := s.nav.steps, skip := 0, buf := [], index := 0
                       held := s.cap.held, broke := false })

/-- Whether the capture starts at this sample of LOOP (R515). -/
def State.capStarts (s : State) : Bool :=
  match s.get F.CAP_CFG_TRIG with
  | 1 =>
    let q := s.get F.CAP_CFG_INJ
    match (s.inj.get q).k0 with | some t => s.injSt q == 2 || decide (s.cap.goAt ≤ t) | none => false
  | 2 => decide (s.nat64 R.CAP_TAG_LO ≤ s.now)
  | _ => true

/-- One set is taken (R514, R516). -/
def State.capSet (s : State) : State :=
  let n := s.get F.CAP_CFG_NSIG
  let x := (List.range n).map (fun k => s.capSignal (s.capSel k))
  let s := (s.setNat R.CAP_SETS (s.nat R.CAP_SETS + 1)).modCap (fun c => { c with
    buf := c.buf ++ [x], skip := s.get F.CAP_CFG_DEC - 1 })
  let s := if s.cap.buf.length = 14 / n then s.capFlush else s
  if s.nat R.CAP_LEN ≠ 0 ∧ s.nat R.CAP_LEN ≤ s.nat R.CAP_SETS then s.capEnd 1 else s

/-- A step or hold of the time base since GO ends the capture (R515). -/
def State.capPoll (s : State) : State := if s.nav.steps ≠ s.cap.steps then s.capEnd 3 else s

/-- A sample of LOOP while the capture is busy (R514, R515): a step or hold of the time base since GO ends it. -/
def State.capSample (s : State) : State :=
  if !s.flag F.CAP_STAT_BUSY then s
  else if s.nav.steps ≠ s.cap.steps then s.capEnd 3
  else if !s.cap.started then
    if s.capStarts then ((s.capHeader s.now).modCap (fun c => { c with started := true })).capSet else s
  else if s.cap.skip = 0 then s.capSet
  else s.modCap (fun c => { c with skip := c.skip - 1 })

/-- The trailers among the entries that LANE7 holds under WAIT = 1. -/
def State.trailersHeld (s : State) : Nat := ((s.lanes.get 7).held.filter (fun e => e.bytes.head? == some 0x73)).length

/-- Trailers that were held under WAIT = 1 have reached LANE7 (R516): CAP_DONE for each. -/
def State.capHeldDone (s : State) : State :=
  let k := s.trailersHeld
  if k < s.cap.held then (s.each (List.range (s.cap.held - k)) (fun s _ => s.raise 204)).modCap (fun c => { c with held := k }) else s

/-! ## The PACE block as a whole (R517, R520) -/

/-- ENABLE of PACE goes from 1 to 0 (R517). -/
def State.paceDisable (s : State) : State :=
  let s := s.each (List.range 16) State.paceHalt
  let s := s.each (List.range 4) (fun s q => if s.injSt q = 1 ∨ s.injSt q = 2 then s.injEnd q 3 else s)
  if s.flag F.CAP_STAT_BUSY then
    let s := (s.count F.PACE_DISC s.cap.buf.length).modCap (fun c => { c with buf := [] })
    s.capEnd 4
  else s

/-- PACE_SUMMARY (R520). -/
def State.paceSummary (s : State) : Nat :=
  let mov := (List.range s.nPacer).foldl (fun m p =>
    m + bit (s.get (F.PACE_STAT_STATE p) != 0 && !s.flag (F.PACE_STAT_AT p)) * 2 ^ p) 0
  let lap := (List.range 4).foldl (fun m j => m + bit (s.lap.get j).learning * 2 ^ j) 0
  let inj := (List.range 4).foldl (fun m q => m + bit (s.injSt q == 2) * 2 ^ q) 0
  bit (s.flag F.CAP_STAT_BUSY) * 2 ^ 24 + inj * 2 ^ 20 + lap * 2 ^ 16 + mov

end Sys2Proof.Machine
end

