-- ==== Sys2Proof/Machine/Ctl.lean ====
section
/-! DEFINITION. The control loops and heats (R463 to R499). -/

namespace Sys2Proof.Machine

open Sys2Proof

def State.modPid (s : State) (f : CtlState → CtlState) : State := { s with ctl := f s.ctl }
def State.modLoop (s : State) (n : Nat) (f : LoopState → LoopState) : State :=
  s.modPid (fun x => { x with loops := x.loops.modify n f })
def State.modHeat (s : State) (h : Nat) (f : HeatState → HeatState) : State :=
  s.modPid (fun x => { x with heats := x.heats.modify h f })

/-- STATE of loop `n` (R476): 0 OFF, 1 OPEN, 2 CLOSED, 3 FALLBACK. -/
def State.loopSt (s : State) (n : Nat) : Nat := s.get (F.CTL_LOOP_STAT_STATE n)

/-- The heat that loop `n` is in, and the members of a heat (R480). -/
def State.heatOf (s : State) (n : Nat) : Option Nat :=
  match s.get (F.CTL_LOOP_CFG_HEAT n) with | 0 => none | h + 1 => some h
def State.members (s : State) (h : Nat) : List Nat := (List.range s.nLoop).filter (fun n => s.heatOf n == some h)

/-- The binding word of a writer: loop `o`, or heat `o` − 32. -/
def State.bindWord (s : State) (o : Nat) : Nat := if o < 32 then s.nat (R.CTL_LOOP_OUT o) else s.nat (R.CTL_HEAT_OUT (o - 32))

/-- The loops that show a writer's values: the loop itself, or the heat's members. -/
def State.writers (s : State) (o : Nat) : List Nat := if o < 32 then [o] else s.members (o - 32)

/-! ## Bindings (R466, R469, R470) -/

/-- A value as sQ16.16 in whole units of 1/`k`, halves away from zero. -/
def inUnits (k : Int) (v : Int) : Int := divHaz (v * k) (2 ^ 16)

/-- What a binding writes for a value: the number, clamped to the destination's range, and whether it was clamped. -/
def destValue (w : Nat) (v : Int) : Int × Bool :=
  let r (x lo hi : Int) : Int × Bool := (clamp lo hi x, decide (clamp lo hi x ≠ x))
  match srcKind w with
  | 1 => r (inUnits 100 v) 0 300
  | 5 =>
    let n := srcWidth w
    if srcSigned w then r (inUnits 1 v) (-(2 ^ (n - 1) : Nat)) ((2 ^ (n - 1) : Nat) - 1) else r (inUnits 1 v) 0 ((2 ^ n : Nat) - 1)
  | _ => r (inUnits 10 v) 0 1000

/-- Whether the destination selects the loop as its source (R370, R446, R469). -/
def State.destTakes (s : State) (w : Nat) : Bool :=
  let i := srcInst w
  match srcKind w with
  | 1 => s.get (F.SOL_CH_CFG_PSRC i) == 2
  | 2 => s.get (F.SOL_CH_CFG_PSRC i) == 2
  | 3 => s.get (F.HSW_PG_CFG_DSRC i) == 2
  | _ => true

/-- Nothing is applied for a heat whose EN is 0 (R480). -/
def State.idleHeat (s : State) (x : LoopVal) : Bool := decide (32 ≤ x.owner) && !s.flag (F.CTL_HEAT_CFG_EN (x.owner - 32))

/-- The destination of a value writes it (R466, R469). -/
def State.destWrite (s : State) (x : LoopVal) : State :=
  if s.idleHeat x then s
  else
  let i := srcInst x.word
  let r := destValue x.word x.val
  let takes := s.destTakes x.word
  let s := if !takes then s
    else match srcKind x.word with
      | 1 => (s.put (F.SOL_CH_ISET_I_SET i) r.1.toNat).solCurrent i
      | 2 => s.put (F.SOL_CH_DUTY_DUTY i) r.1.toNat
      | 3 => s.put (F.HSW_PG_DUTY i) r.1.toNat
      | 4 => s.put ⟨R.STR_LAYER_DUTY i, 0, 16⟩ r.1.toNat
      | 5 => s.canWriteBits i (srcBit x.word) (srcWidth x.word) (code (srcWidth x.word) r.1)
      | _ => s
  s.each (s.writers x.owner) (fun s n => (s.putB (F.CTL_LOOP_STAT_DNOTAKEN n) (!takes)).putB (F.CTL_LOOP_STAT_DCLAMP n) r.2)

/-- Values that have arrived and whose apply instant has come are written. -/
def State.destFlush (s : State) : State :=
  let due := s.ctl.held.filter (fun x => decide (x.due ≤ s.clk))
  let s := s.modPid (fun c => { c with held := c.held.filter (fun x => decide (s.clk < x.due)) })
  s.each due State.destWrite

/-- The key of a binding's l: OKIND 0 has no destination, so its writer keeps its own. -/
def bindKey (o w : Nat) : Nat := if srcKind w = 0 then 2 ^ 32 + o else w

/-- The present value of a destination in the loop's units (R470). -/
def State.destRead (s : State) (w : Nat) : Int :=
  let i := srcInst w
  match srcKind w with
  | 1 => sat32 (divHaz ((s.get (F.SOL_CH_ISET_I_SET i) : Int) * 2 ^ 16) 100)
  | 2 => sat32 (divHaz ((s.get (F.SOL_CH_DUTY_DUTY i) : Int) * 2 ^ 16) 10)
  | 3 => sat32 (divHaz ((s.get (F.HSW_PG_DUTY i) : Int) * 2 ^ 16) 10)
  | 4 => sat32 (divHaz ((s.get ⟨R.STR_LAYER_DUTY i, 0, 16⟩ : Int) * 2 ^ 16) 10)
  | 5 =>
    let v := s.objBits i (srcBit w) (srcWidth w)
    sat32 ((if srcSigned w then signed (srcWidth w) v else v) * 2 ^ 16)
  | _ => 0

/-- l: the last value applied to a writer's binding (R470, R473). -/
def State.lastApplied (s : State) (o : Nat) : Int :=
  let w := s.bindWord o
  match s.ctl.binds.get (bindKey o w) with | some v => v | none => s.destRead w

/-- l of loop `n`: its heat's where it is in one. -/
def State.loopL (s : State) (n : Nat) : Int :=
  match s.heatOf n with | some h => s.lastApplied (32 + h) | none => s.lastApplied n

/-- A value is applied: it becomes l of its binding. Without a destination nothing is ignored or clamped (R470). -/
def State.applied (s : State) (x : LoopVal) : State :=
  let s := s.modPid (fun c => { c with binds := c.binds.set (bindKey x.owner x.word) (some x.val) })
  let s := if x.owner < 32 then s else s.setInt (R.CTL_HEAT_L (x.owner - 32)) x.val
  s.each (s.writers x.owner) (fun s n =>
    let s := s.setInt (R.CTL_LOOP_UV n) x.val
    if srcKind x.word = 0 then (s.put (F.CTL_LOOP_STAT_DNOTAKEN n) 0).put (F.CTL_LOOP_STAT_DCLAMP n) 0 else s)

/-- The value that writer `o` forms for its next sample instant, `period` grid steps ahead, and sends to its destination. -/
def State.formed (s : State) (o period : Nat) (v : Int) : State :=
  let w := s.bindWord o
  let x : LoopVal := { owner := o, word := w, val := v, due := s.clk + period * gridLen }
  let s := if o < 32 then s.modLoop o (fun l => { l with pend := some x }) else s.modHeat (o - 32) (fun h => { h with pend := some x })
  if srcKind w = 0 then s else s.modPid (fun c => { c with wire := c.wire ++ [x] })

/-- Step 1 of a sample: what a loop formed at its previous sample is applied to the binding it was formed for, also where a
course has moved the loop into a heat meanwhile (R465, R483). -/
def State.applyLoop (s : State) (n : Nat) : State :=
  match (s.ctl.loops.get n).pend with
  | some x => (s.modLoop n (fun l => { l with pend := none })).applied x
  | none => s

/-- Step 1 for a heat (R480: nothing is applied while its EN is 0). -/
def State.applyHeat (s : State) (h : Nat) : State :=
  match (s.ctl.heats.get h).pend with
  | some x =>
    let s := s.modHeat h (fun y => { y with pend := none })
    if s.idleHeat x then s else s.applied x
  | none => s

/-- The apply instant of a value formed has come. -/
def State.pendDue (s : State) (p : Option LoopVal) : Bool := match p with | some x => decide (x.due ≤ s.clk) | none => false

/-- Step 1 for every writer whose apply instant has come, and for the loops `due` and heats that sample now (R465). -/
def State.applyAll (s : State) (due heats : List Nat) : State :=
  let ls := (List.range 32).filter (fun n => due.contains n || s.pendDue (s.ctl.loops.get n).pend)
  let hs := (List.range 4).filter (fun h => heats.contains h || s.pendDue (s.ctl.heats.get h).pend)
  (s.each ls State.applyLoop).each hs State.applyHeat

/-! ## The PID sample (R472 to R478) -/

/-- A saturated number and whether it was saturated. -/
def satF (i : Int) : Int × Bool := (sat32 i, decide (sat32 i ≠ i))

/-- A coefficient of loop `n` times a signal. -/
def State.coef (s : State) (a : Nat) (x : Int) : Int × Bool := satF (mulQ 24 (s.int a) x)

/-- The result of a CLOSED sample, or a fallback value. -/
structure LoopRes where
  n      : Nat
  closed : Bool
  c      : Int
  v      : Int
  iNew   : Int
  flags  : Nat
  deriving DecidableEq, Repr

/-- A value clamped to OMIN and OMAX. -/
def State.loopClamp (s : State) (n : Nat) (v : Int) : Int := clamp (s.int (R.CTL_LOOP_OMIN n)) (s.int (R.CTL_LOOP_OMAX n)) v

/-- A value limited by OMIN, OMAX and SLEW against l. -/
def State.loopLimit (s : State) (n : Nat) (l v : Int) : Int :=
  let c := s.loopClamp n v
  let k := s.int (R.CTL_LOOP_SLEW n)
  if 0 < k then clamp (l - k) (l + k) c else c

/-- The linear interpolation of the backup table, between points `k` and onward (R488). -/
def backupAt (sp : Int) : List (Int × Int) → Int
  | [] => 0
  | [a] => a.2
  | a :: b :: t =>
    if sp ≤ a.1 then a.2
    else if sp < b.1 then sat32 (divHaz (a.2 * (b.1 - a.1) + (sp - a.1) * (b.2 - a.2)) (b.1 - a.1))
    else backupAt sp (b :: t)

/-- The backup points of loop `n`, and whether their X increase strictly (R488). -/
def State.backup (s : State) (n : Nat) : List (Int × Int) × Bool :=
  let k := s.get (F.CTL_LOOP_CFG_BKP_N n)
  let p := (List.range k).map (fun j => (s.int (R.CTL_BKP_X n j), s.int (R.CTL_BKP_Y n j)))
  (p, (p.zip p.tail).all (fun x => decide (x.1.1 < x.2.1)) && !p.isEmpty)

/-- The fallback value of loop `n` at set-point `sp` (R487, R488). -/
def State.fallbackValue (s : State) (n : Nat) (sp : Int) : Int × State :=
  let l := s.loopL n
  let s := s.put (F.CTL_LOOP_STAT_BKPBAD n) 0
  match s.get (F.CTL_LOOP_CFG_FB_ACT n) with
  | 1 => (s.int (R.CTL_LOOP_SAFE n), s)
  | 2 =>
    let b := s.backup n
    if b.2 then (s.loopLimit n l (backupAt sp b.1), s) else (l, s.put (F.CTL_LOOP_STAT_BKPBAD n) 1)
  | _ => (l, s)

/-- The period of loop `n` in grid steps. -/
def State.loopPeriod (s : State) (n : Nat) : Nat := s.get (F.CTL_LOOP_TIME_PERIOD n)

/-- The fallback value is formed, or offered to the heat. -/
def State.loopFallback (s : State) (n : Nat) (sp : Int) : LoopRes × State :=
  let r := s.fallbackValue n sp
  let s := if (s.heatOf n).isNone then r.2.formed n (s.loopPeriod n) r.1 else r.2
  (⟨n, false, r.1, 0, 0, 0⟩, s)

/-- The injector of loop `n` ends because the loop enters FALLBACK or OFF. -/
def State.loopAbort (s : State) (n : Nat) : State := match s.injOf n with | some q => s.injAbort q | none => s

/-- What an injection adds at a point: 0 SP, 1 ERR, 2 OUT (R511). -/
def State.injAt (s : State) (n point : Nat) : Int :=
  if !s.runs .pace then 0
  else match s.injOf n with
    | some q => if s.injSt q = 2 ∧ s.get (F.INJ_CFG_POINT q) = point then s.int (R.INJ_VAL q) else 0
    | none => 0

/-- The lap term of loop `n` and what its other changes add to i. -/
def State.loopLap (s : State) (n : Nat) : Int × Int :=
  match s.get (F.CTL_LOOP_CFG_LAP n) with | 0 => (0, 0) | j + 1 => s.lapTerm j

/-- The learner of loop `n` takes the sample. -/
def State.loopLearn (s : State) (n : Nat) (e : Int) (fit : Bool) : State :=
  match s.get (F.CTL_LOOP_CFG_LAP n) with | 0 => s | j + 1 => s.lapSample j e fit

/-- Why the feedback of loop `n` is lost (R485): 0 not, 1 timeout, 2 source invalid. -/
def State.fbLost (s : State) (n : Nat) : Nat :=
  let i := s.source (s.nat (R.CTL_LOOP_FB_SRC n)) 0
  if !i.valid then 2
  else if s.get (F.CTL_LOOP_TMO_SRC_TIMEOUT n) * msec < s.clk - i.time then 1 else 0

/-- The span of a list of numbers. -/
def span : List Int → Int
  | [] => 0
  | a :: t => t.foldl max a - t.foldl min a

/-- The feedback is frozen (R486). -/
def State.fbFrozen (s : State) (n : Nat) : Bool :=
  let k := s.get (F.CTL_LOOP_TMO_FROZEN_N n)
  let h := (s.ctl.loops.get n).hist
  decide (2 ≤ k ∧ k ≤ h.length) &&
  decide (span ((h.take k).map (·.1)) ≤ s.int (R.CTL_LOOP_FRZ_DB n)) &&
  decide (s.int (R.CTL_LOOP_FRZ_DOUT n) < span ((h.take k).map (·.2)))

/-- The following error of loop `n` is judged (R484); answers whether it puts the loop into FALLBACK. -/
def State.followError (s : State) (n : Nat) (sp y : Int) : Bool × State :=
  let lim := s.int (R.CTL_LOOP_FE_LIM n)
  let run := decide (0 < lim ∧ lim < ((sp - y).natAbs : Int))
  let x := s.ctl.loops.get n
  let since := if run then some (x.feAt.getD s.clk) else none
  let ripe := match since with | some t => s.passed t (s.get (F.CTL_LOOP_TMO_FE_T n) * 10 * msec) | none => false
  let fire := ripe && !x.fol
  let s := (s.putB (F.CTL_LOOP_STAT_FE_RUN n) run).modLoop n (fun l => { l with feAt := since, fol := run && (l.fol || fire) })
  (ripe && s.flag (F.CTL_LOOP_CFG_FE_ACT n), s.raiseIf fire 195)

/-- Loop `n` enters FALLBACK for the cause `why` (R487). -/
def State.enterFallback (s : State) (n why : Nat) : State :=
  let s := ((s.put (F.CTL_LOOP_STAT_STATE n) 3).put (F.CTL_LOOP_STAT_FBWHY n) why).put ⟨H.sticky .ctl, 2, 1⟩ 1
  (s.raiseIf (s.get (F.CTL_LOOP_CFG_FB_ACT n) == 2) 199).loopAbort n

/-- The PID of a CLOSED sample (R473, R478): `closing` where it presets the loop. OUT is set where the clamp or the slew changed
the value (R475). -/
def State.pid (s : State) (n : Nat) (closing : Bool) (sp y ff : Int) : LoopRes × State :=
  let x := s.ctl.loops.get n
  let l := s.loopL n
  let lap := s.loopLap n
  let inj := s.injAt n 2
  let e := sat32 (sat32 (sp - y) + s.injAt n 1)
  let p := s.coef (R.CTL_LOOP_KP n) e
  let ke := s.coef (R.CTL_LOOP_KIT n) e
  let kf := s.coef (R.CTL_LOOP_KFF n) ff
  let i0 := if closing then satF (l - p.1 - ke.1 - kf.1 - lap.1 - inj) else satF (s.int (R.CTL_LOOP_IV n) + lap.2)
  let iNew := satF (i0.1 + ke.1)
  let sg := if s.flag (F.CTL_LOOP_CFG_DON n) then sat32 (-y) else e
  let da := s.coef (R.CTL_LOOP_DA n) x.dPrev
  let db := s.coef (R.CTL_LOOP_DB n) (sat32 (sg - x.sPrev))
  let dd := satF (da.1 + db.1)
  let d := if closing then 0 else dd.1
  let v := satF (p.1 + iNew.1 + d + kf.1 + lap.1 + inj)
  let c := s.loopLimit n l v.1
  let flags := bit p.2 + 2 * bit (ke.2 || i0.2 || iNew.2) + 4 * bit (!closing && (da.2 || db.2 || dd.2)) +
    8 * bit (kf.2 || v.2) + 16 * bit (decide (s.loopClamp n v.1 ≠ v.1) || decide (c ≠ s.loopClamp n v.1))
  let fit := (s.heatOf n).isNone || s.flag (F.CTL_LOOP_STAT_WIN n)
  let s := (s.setInt (R.CTL_LOOP_VV n) v.1).modLoop n (fun l => { l with sPrev := sg, dPrev := d, e := e })
  (⟨n, true, c, v.1, iNew.1, flags⟩, s.loopLearn n e fit)

/-- Back-calculation, the stage flags and, outside a heat, the value formed (R473, R475). Each saturating sample is an occurrence
of SAT (DEDUCED, log entry 1313). -/
def State.pidFinish (s : State) (r : LoopRes) (w : Int) : State :=
  let b := s.coef (R.CTL_LOOP_KBC r.n) (sat32 (w - r.v))
  let i := satF (r.iNew + b.1)
  let flags := r.flags ||| (2 * bit (b.2 || i.2))
  let s := (s.setInt (R.CTL_LOOP_IV r.n) i.1).put (F.CTL_LOOP_FLAGS_LIVE r.n) flags
  let s := s.put (F.CTL_LOOP_FLAGS_STICKY r.n) (s.get (F.CTL_LOOP_FLAGS_STICKY r.n) ||| flags)
  if flags % 16 ≠ 0 then (s.raise 196).put ⟨H.sticky .ctl, 1, 1⟩ 1 else s

/-! ## States (R476 to R478, R483 to R487) -/

/-- Loop `n` enters OPEN. -/
def State.enterOpen (s : State) (n : Nat) : State :=
  let l := s.loopL n
  ((s.put (F.CTL_LOOP_STAT_STATE n) 1).put (F.CTL_LOOP_STAT_FBWHY n) 0).modLoop n (fun x => { x with hold := l })

/-- What EN and the waiting command do at loop `n`'s sample: whether it is a closing sample (R476, R477, R483). -/
def State.loopCommand (s : State) (n : Nat) : Bool × State :=
  let x := s.ctl.loops.get n
  let st := s.loopSt n
  let s := s.modLoop n (fun l => { l with cmd := 0, chg := false })
  if st = 0 then (s.flag (F.CTL_LOOP_CTRL_CLOSE_EN n), s.enterOpen n)
  else match x.cmd with
    | 1 => (st == 1 || (st == 2 && x.chg), s)
    | 2 => (false, if st = 2 ∨ st = 3 then s.enterOpen n else s)
    | 3 => ((st == 3 && s.fbLost n == 0) || (st == 2 && x.chg), s)
    | _ => (st == 2 && x.chg, s)

/-- A CLOSED loop takes its sample, or falls back (R473, R484 to R487). -/
def State.loopClosed (s : State) (n : Nat) (closing : Bool) (sp y : Int) : LoopRes × State :=
  let s := if closing && s.loopSt n != 2 then
      ((s.put (F.CTL_LOOP_STAT_STATE n) 2).put (F.CTL_LOOP_STAT_FBWHY n) 0).modLoop n
        (fun x => { x with feAt := none, fol := false, hist := [] })
    else s
  let l := s.loopL n
  let lost := s.fbLost n
  let s := s.modLoop n (fun x => { x with hist := ((y, l) :: x.hist).take 255 })
  let fe := s.followError n sp y
  let frozen := fe.2.fbFrozen n
  let s := fe.2
  let fall (s : State) (why : Nat) := ((s.loopLearn n 0 false).enterFallback n why).loopFallback n sp
  if lost ≠ 0 then fall (s.raise 193) lost
  else if frozen then fall (s.raise 194) 3
  else if fe.1 then fall s 4
  else (s.putB (F.CTL_LOOP_STAT_PRESET n) closing).pid n closing sp y (s.source (s.nat (R.CTL_LOOP_FF_SRC n)) 0).val

/-- What STAT and FLAGS show of the sample before is cleared; outside an enabled heat a loop has won none (R475, R497). -/
def State.sampleClear (s : State) (n : Nat) : State :=
  let s := ((s.put (F.CTL_LOOP_STAT_PRESET n) 0).put (F.CTL_LOOP_FLAGS_LIVE n) 0).put (F.CTL_LOOP_STAT_FE_RUN n) 0
  if (match s.heatOf n with | some h => s.flag (F.CTL_HEAT_CFG_EN h) | none => false) then s else s.put (F.CTL_LOOP_STAT_WIN n) 0

/-- A sample of loop `n` after the values were applied (R465, R476). -/
def State.loopStep (s : State) (n : Nat) : Option LoopRes × State :=
  let s := match s.injOf n with | some q => if s.runs .pace then s.injSample q else s | none => s
  let s := s.sampleClear n
  if !s.flag (F.CTL_LOOP_CTRL_EN n) then
    let s := s.loopLearn n 0 false
    if s.loopSt n = 0 then (none, s)
    else
      let s := (((s.put (F.CTL_LOOP_STAT_STATE n) 0).put (F.CTL_LOOP_STAT_FBWHY n) 0).loopAbort n).modLoop n
        (fun x => { x with cmd := 0 })
      (none, if (s.heatOf n).isNone then s.formed n (s.loopPeriod n) (s.int (R.CTL_LOOP_SAFE n)) else s)
  else
    let k := s.loopCommand n
    let s := k.2
    let st := s.loopSt n
    let closed := k.1 || st == 2
    let sp := sat32 ((s.source (s.nat (R.CTL_LOOP_SP_SRC n)) (s.int (R.CTL_LOOP_SPFIX n))).val +
      (if closed then s.injAt n 0 else 0))
    let y := (s.source (s.nat (R.CTL_LOOP_FB_SRC n)) 0).val
    let s := ((s.setInt (R.CTL_LOOP_SPV n) sp).setInt (R.CTL_LOOP_FBV n) y).modLoop n (fun x => { x with e := sat32 (sp - y) })
    if closed then let r := s.loopClosed n k.1 sp y; (some r.1, r.2)
    else
      let s := s.loopLearn n (sat32 (sp - y)) false
      if st = 3 then let r := s.loopFallback n sp; (some r.1, r.2)
      else if (s.heatOf n).isSome then (none, s)
      else
        let base := if s.flag (F.CTL_LOOP_CFG_OPEN_OUT n) then s.int (R.CTL_LOOP_MAN n) else (s.ctl.loops.get n).hold
        (none, s.formed n (s.loopPeriod n) (sat32 (base + s.injAt n 2)))

/-! ## Heats (R480 to R482) -/

/-- The winner among offered values: the previous one if its value is the least, else the lowest-numbered with it. -/
def winnerOf (prev : Option Nat) (w : Int) (rs : List LoopRes) : Option Nat :=
  let best := rs.filter (fun r => decide (r.c = w))
  match prev with
  | some p => if best.any (fun r => r.n == p) then some p else best.head?.map (·.n)
  | none => best.head?.map (·.n)

/-- A heat's common sample instant (R481, R482). -/
def State.heatStep (s : State) (h : Nat) (rs : List LoopRes) : State :=
  let closed := rs.filter (·.closed)
  if !s.flag (F.CTL_HEAT_CFG_EN h) then s.each closed (fun s r => s.pidFinish r r.c)
  else
    let per := match s.members h with | m :: _ => s.loopPeriod m | [] => 1
    let s := (s.put (F.CTL_HEAT_STAT_NCOMP h) rs.length).putB (F.CTL_HEAT_STAT_NONE h) rs.isEmpty
    match rs with
    | [] => (s.formed (32 + h) per (s.lastApplied (32 + h))).each (s.members h) (fun s m => s.put (F.CTL_LOOP_STAT_WIN m) 0)
    | r :: t =>
      let w := t.foldl (fun m x => min m x.c) r.c
      let prev := (s.ctl.heats.get h).winner
      let win := winnerOf prev w rs
      let s := if prev.isSome && win != prev then (s.count (F.CTL_HEAT_SWAPS h) 1).raise 198 else s
      let s := (s.put (F.CTL_HEAT_STAT_WINNER h) (win.getD 0)).modHeat h (fun x => { x with winner := win })
      let s := s.each closed (fun s r => s.pidFinish r w)
      let s := s.each (s.members h) (fun s m => s.putB (F.CTL_LOOP_STAT_WIN m) (some m == win))
      s.formed (32 + h) per w

/-- The loops that sample at the present grid instant (R464). -/
def State.loopsDue (s : State) : List Nat :=
  (List.range s.nLoop).filter (fun n => s.gridDue (s.get (F.CTL_LOOP_TIME_PHASE n)) (s.loopPeriod n))

/-- CTL_GRID_OFS (R463, R493): the time tag at a grid instant less its nearest multiple of 800; which is the nearest of two at 400
is open (log entry 1306). -/
def State.gridOfs (s : State) : Int :=
  let x : Int := (s.tag : Int) - s.clk % gridLen
  x - gridLen * divNear 463 x gridLen

/-- The samples of a grid instant (R463, R465). -/
def State.ctlSample (s : State) : State :=
  let s := s.destFlush
  let due := s.loopsDue
  let heats := (List.range s.nHeat).filter (fun h => due.any (fun n => s.heatOf n == some h))
  let s := (s.applyAll due heats).each due (fun s n => s.stamp 9 n)
  let r := due.foldl (fun (a : List LoopRes × State) n => let x := a.2.loopStep n; (a.1 ++ x.1.toList, x.2)) ([], s)
  let s := r.2.each heats (fun s h => s.heatStep h (r.1.filter (fun x => s.heatOf x.n == some h)))
  let s := s.each (r.1.filter (fun x => x.closed && (s.heatOf x.n).isNone))
    (fun s x => (s.pidFinish x x.c).formed x.n (s.loopPeriod x.n) x.c)
  if due.contains (s.get F.CAP_CFG_LOOP) && s.runs .pace then s.capSample else s

/-- A write to CTL_LOOP_CMD (R477): the last one before the sample counts. -/
def State.loopCmd (s : State) (n c : Nat) : State := s.modLoop n (fun x => { x with cmd := c })

/-! ## The block as a whole (R489, R492) -/

/-- SAFE is written to a writer's binding at once: of the loop, or of the heat's lowest-numbered member. -/
def State.writeSafe (s : State) (o n : Nat) : State :=
  let x : LoopVal := { owner := o, word := s.bindWord o, val := s.int (R.CTL_LOOP_SAFE n), due := s.clk }
  let s := s.applied x
  if srcKind x.word = 0 then s else s.destWrite x

/-- The values formed and not yet applied (R489): those of the last samples, and late ones still on their way. -/
def State.unapplied (s : State) : List LoopVal :=
  let ps := (List.range 32).filterMap (fun n => (s.ctl.loops.get n).pend) ++ (List.range 4).filterMap (fun h => (s.ctl.heats.get h).pend)
  ps ++ (s.ctl.wire ++ s.ctl.held).filter (fun x => !ps.contains x)

/-- The writers whose bindings receive SAFE (R489), each with the loop whose SAFE it is: every loop outside a heat and every heat
that is enabled and has members. Of two with one destination the one that is not OFF counts. -/
def State.safeWriters (s : State) : List (Nat × Nat) :=
  let ls := ((List.range s.nLoop).filter (fun n => (s.heatOf n).isNone)).map (fun n => (n, n))
  let hs := ((List.range s.nHeat).filter (fun h => s.flag (F.CTL_HEAT_CFG_EN h))).filterMap
    (fun h => (s.members h).head?.map (fun m => (32 + h, m)))
  let live (x : Nat × Nat) : Bool := (s.writers x.1).any (fun n => s.loopSt n != 0)
  let on := (ls ++ hs).filter live
  on ++ ((ls ++ hs).filter (fun x => !live x)).filter
    (fun x => !on.any (fun y => bindKey y.1 (s.bindWord y.1) == bindKey x.1 (s.bindWord x.1)))

/-- ENABLE of CTL goes from 1 to 0 (R489). -/
def State.ctlDisable (s : State) : State :=
  let k := s.unapplied.length
  let s := (s.count F.CTL_DISC k).modPid (fun c => { c with wire := [], held := [] })
  let s := s.each (List.range 32) (fun s n => s.modLoop n (fun x => { x with pend := none }))
  let s := s.each (List.range 4) (fun s h => s.modHeat h (fun x => { x with pend := none }))
  s.each s.safeWriters (fun s x => s.writeSafe x.1 x.2)

/-- ENABLE of CTL is set again (R489): CLOSED loops close afresh, and OPEN loops hold the l that SAFE has become (R476). -/
def State.ctlEnable (s : State) : State :=
  s.each (List.range 32) (fun s n =>
    if s.loopSt n = 2 then s.modLoop n (fun x => { x with chg := true })
    else if s.loopSt n = 1 then s.modLoop n (fun x => { x with hold := s.loopL n })
    else s)

/-- CTL_SUMMARY and CTL_FALLBACK (R492). -/
def State.ctlSummary (s : State) (st : Nat) : Nat := (List.range 32).foldl (fun m n => m + bit (s.loopSt n == st) * 2 ^ n) 0

/-- STR_LAYER_DUTY of layer `l` is bound to a loop or heat that is not OFF (R470). -/
def State.layerBound (s : State) (l : Nat) : Bool :=
  let is (w : Nat) := srcKind w == 4 && srcInst w == l
  (List.range s.nLoop).any (fun n => s.loopSt n != 0 && (s.heatOf n).isNone && is (s.bindWord n)) ||
  (List.range s.nHeat).any (fun h => s.flag (F.CTL_HEAT_CFG_EN h) && is (s.bindWord (32 + h)) &&
    (s.members h).any (fun n => s.loopSt n != 0))

/-! ## The commands -/

/-- LOOP_SAMPLE (R463 to R488): at a grid instant. -/
def execLoopSample (s : State) : Answer := .next (if s.runs .ctl && s.clk % gridLen == 0 then s.ctlSample else s)

/-- LOOP_VALUE_ARRIVE (R466): a value that arrives after its apply instant is written on arrival and counted. -/
def execLoopValueArrive (s : State) : Answer :=
  .next (match s.ctl.wire with
    | [] => s
    | x :: t =>
      let s := s.modPid (fun c => { c with wire := t })
      if s.clk < x.due then s.modPid (fun c => { c with held := c.held ++ [x] })
      else
        let s := s.destWrite x
        if x.due = s.clk then s
        else
          let n := if x.owner < 32 then x.owner else s.get (F.CTL_HEAT_STAT_WINNER (x.owner - 32))
          (s.count ⟨R.CTL_LOOP_LATE n, 0, 16⟩ 1).put ⟨H.sticky .ctl, 3, 1⟩ 1)

end Sys2Proof.Machine
end

