-- ==== Sys2Proof/Machine/Clk.lean ====
section
/-! DEFINITION. Clock islands, sources and monitors (R560 to R584), and the drive safe state (R28, R601). -/

namespace Sys2Proof.Machine

open Sys2Proof

def State.modClk (s : State) (f : ClkState → ClkState) : State := { s with clocks := f s.clocks }

/-! ## The drive safe state (R28, R599, R601) -/

/-- DSAFE of power die `d` (R613). -/
def dieSafe (d : Nat) : Fld := if d = 0 then F.PWR_STAT_DSAFE_A else F.PWR_STAT_DSAFE_B

/-- Power die `d` enters the drive safe state: its outputs are forced off and reported. -/
def State.driveSafe (s : State) (d : Nat) : State :=
  if s.flag (dieSafe d) then s
  else (((s.put (dieSafe d) 1).raise 14).put ⟨H.sticky .pwr, 2, 1⟩ 1).forceDie d

/-! ## Islands and PLLs (R29, R564) -/

/-- The PLL that feeds an island, numbered as CLK_STAT.LOCK; ISL_AON has none. -/
def pllOf (i : Nat) : Option Nat :=
  match i with
  | 1 => some 1 | 2 => some 1 | 3 => some 0 | 4 => some 0 | 5 => some 0 | 6 => some 3 | 7 => some 2 | 8 => some 0
  | 9 => some 0 | 10 => some 4 | 11 => some 4 | _ => none

/-- The islands of PLL `p`. -/
def islandsOf (p : Nat) : List Nat := (List.range 12).filter (fun i => pllOf i == some p)

/-- Clocks run: VBAT has become present since the last power-on reset. -/
def State.powered (s : State) : Bool := s.flag F.PWR_STAT_VBAT_OK || s.flag F.PWR_STAT_RAILS_OK || s.flag F.PWR_STAT_SSAFE

/-- Island `i` is gated. -/
def State.gated (s : State) (i : Nat) : Bool := nbit (s.nat R.CLK_GATE_STAT) i

/-- The clock of island `i` is there: its PLL is locked, or holds over until the island's next transaction boundary (R565 to
R567). -/
def State.islClocked (s : State) (i : Nat) : Bool :=
  match pllOf i with | none => s.powered | some p => nbit (s.get F.CLK_STAT_LOCK) p || s.clocks.stopReq.contains i

/-- STATE of island `i` (R577, R584): 0 running, 1 stopped, 2 gated, 3 gate pending. -/
def State.islSt (s : State) (i : Nat) : Nat :=
  if s.gated i then 2
  else if s.halted i || !s.islClocked i then 1
  else if s.clocks.gateAt.any (fun x => x.1 == i) then 3
  else 0

/-- CLK_ISL_STAT (R584, log entry 1606); its reset value until the clocks have power. -/
def State.islStat (s : State) (i : Nat) : Word :=
  if !s.powered then 0
  else BitVec.ofNat 32 (s.islSt i * 4 + (match pllOf i with | some p => bit (nbit (s.get F.CLK_STAT_REFMRC) p) | none => 1))

/-- The bits of CLK_STAT that lock the four PLLs to MRC, to XO, or PLL_GNSS to XO (R564, R567). -/
def State.pllsTo (s : State) (mrc : Bool) : State :=
  let lock := s.get F.CLK_STAT_LOCK
  let s := s.put F.CLK_STAT_LOCK (if mrc then (lock ||| 0x17) &&& 0x17 else lock ||| 0x1F)
  (s.put F.CLK_STAT_REFMRC (if mrc then 0x17 else 0)).modClk (fun c => { c with refAt := s.clk })

/-- Nothing stops island `i` any more: it runs unless it is gated (R573, R577). -/
def State.islRun (s : State) (i : Nat) : State :=
  (s.modClk (fun c => { c with stopReq := c.stopReq.filter (· != i), halted := c.halted.filter (· != i) })).when (i == 6)
    State.gnssReturn

/-- Islands are asked to stop (R566). -/
def State.askStop (s : State) (l : List Nat) : State :=
  s.modClk (fun c => { c with stopReq := c.stopReq ++ l.filter (fun i => !c.stopReq.contains i) })

/-- Island `i` stops (R566): ISL_GNSS as R177 and R181 say, a power die's island by its drive safe state (R573). -/
def State.islHalt (s : State) (i : Nat) : State :=
  let s := s.modClk (fun c => { c with stopReq := c.stopReq.filter (· != i), halted := i :: c.halted.filter (· != i) })
  match i with
  | 6 => s.gnssStop
  | 10 => s.driveSafe 0
  | 11 => s.driveSafe 1
  | _ => s

/-! ## Trips, fallback and return (R567 to R572) -/

/-- A start-up trip (R568, R569): outputs are forced off but for held switches (R588), and start-up is entered again at PU1; after
three failed attempts it stays there and no trip re-enters it. The firmware runs no more (R588, R655). -/
def State.startTrip (s : State) (cause : Nat) : State :=
  if s.clocks.step = 8 then s else
  let ref := (List.range 12).filter (fun i => match pllOf i with | some p => !nbit (s.get F.CLK_STAT_REFMRC) p | none => false)
  let s := ((s.askStop ref).put F.CLK_START_CAUSE cause).put F.CLK_START_ATT (min (s.get F.CLK_START_ATT + 1) 3)
  let s := ((s.put F.CLK_STAT_XO_OK 0).put F.CLK_STAT_FBARM 0).put F.CLK_STAT_FB 0
  let s := ((s.raise 5).put F.PWR_STAT_OUTREL 0).put F.PWR_STAT_PHASE 1
  let s := s.modClk (fun c => { c with step := 1, counts := [], hist := [], devs := 0, trimPasses := 0, pllLost := [] })
  let s := { s with pwr := { s.pwr with runAt := none }, sec := { s.sec with running := false } }
  s.forceStart.canCut

/-- Fallback is entered (R528, R567, R571, R580): the time base takes out the last value measured of CLK_MRC_FREQ, also where
a SOFT_RESET has cleared the register (R563). -/
def State.fallback (s : State) : State :=
  let s := (((s.put F.CLK_STAT_FB 1).raise 4).count F.CLK_TRIPS_N 1).put ⟨H.sticky .clk, 0, 1⟩ 1
  let s := s.modClk (fun c => { c with corr := c.freq })
  ((s.askStop [6]).navFallback).canClock true

/-- The XO monitor trips (R568, R571). In a fallback that was armed, on a verified MRC, nothing runs from XO, and its verification
alone is lost (log entry 1604). -/
def State.xoTrip (s : State) : State :=
  let lost := (s.put F.CLK_STAT_XO_OK 0).modClk (fun c => { c with counts := [], hist := [], devs := 0 })
  if s.flag F.CLK_STAT_FB && s.flag F.CLK_STAT_FBARM && s.flag F.CLK_STAT_MRC_OK then lost
  else if s.flag F.CLK_STAT_FBARM && s.flag F.CLK_STAT_MRC_OK then (lost.pllsTo true).fallback
  else s.startTrip (if s.flag F.CLK_STAT_MRC_OK then 1 else 2)

/-- A trim of MRC against XO (R563). -/
def State.mrcTrim (s : State) (trim err : Nat) : State :=
  ((s.put F.CLK_MRC_TRIM_CODE trim).put F.CLK_MRC_TRIM_ERR err).modClk (fun c => { c with step := 5, trimPasses := 0 })

/-- Fallback is left (R572): an XO verified late is trimmed against, since the fallback is not armed (R563, R567). -/
def State.fbReturn (s : State) (trim err : Nat) : State :=
  let s := ((s.pllsTo false).put F.CLK_STAT_FB 0).canClock false
  let s := (s.islRun 6).navXoBack
  if s.flag F.CLK_STAT_FBARM then s else s.mrcTrim trim err

/-- A write of CLK_CTRL.RETURN (R572): ignored while XO is not verified. The trim that a late XO asks for is measured by
no command here: its code and error are free values. -/
def State.hostReturn (s : State) : State :=
  if s.flag F.CLK_STAT_FB && s.flag F.CLK_STAT_XO_OK && s.clocks.step != 8 then
    if s.flag F.CLK_STAT_FBARM then s.fbReturn 0 0
    else
      let a := s.free 10
      let b := a.2.free 16
      b.2.fbReturn a.1 b.1
  else s

/-- The largest and the smallest of some counts. -/
def maxOf (l : List Nat) : Nat := l.foldl (fun a b => max a b) 0
def minOf (l : List Nat) : Nat := l.foldl (fun a b => min a b) 65535

/-- XO is verified by the last 8 counts (R562). -/
def xoGood (l : List Nat) : Bool :=
  decide (8 ≤ l.length) && l.all (fun c => decide (24960 ≤ c ∧ c ≤ 27040)) && decide (maxOf l ≤ minOf l + 13)

/-- The XO monitor trips on a count (R570): outside ±4 %, or the second in a row more than 1.0 % from the mean of the
preceding second. Answers the run of such counts too. -/
def xoTrips (hist : List Nat) (devs c : Nat) : Bool × Nat :=
  let sum : Nat := hist.foldl (fun a b => a + b) 0
  let n := hist.length
  let dev := decide (n ≠ 0 ∧ sum < (((c * n : Nat) : Int) - (sum : Int)).natAbs * 100)
  (decide (c < 24960 ∨ 27040 < c) || (dev && decide (1 ≤ devs)), if dev then devs + 1 else 0)

/-- The counts of the preceding second with their instants (R570). -/
def State.xoRecent (s : State) : List (Nat × Nat) := s.clocks.hist.filter (fun x => decide (s.clk < x.1 + second))

/-- A count of XO (R562, R567, R570, R572). While the module stays in PU1 after three failed attempts, none verifies it (R569). -/
def State.xoCounted (s : State) (c trim err : Nat) : State :=
  let s := s.put F.CLK_XO_MEAS_CNT c
  let l := (c :: s.clocks.counts).take 8
  let old := s.xoRecent
  let s := (s.put F.CLK_XO_MEAS_SPREAD (maxOf l - minOf l)).modClk (fun x => { x with counts := l, hist := (s.clk, c) :: old })
  if s.flag F.CLK_STAT_XO_OK then
    let t := xoTrips (old.map (·.2)) s.clocks.devs c
    if t.1 then s.xoTrip else s.modClk (fun x => { x with devs := t.2 })
  else if xoGood l && s.clocks.step != 8 then
    let s := (s.put F.CLK_STAT_XO_OK 1).modClk (fun x => { x with hist := x.hist.take 8, devs := 0 })
    if s.flag F.CLK_STAT_FB then (if s.flag F.CLK_CTRL_AUTORET then s.fbReturn trim err else s)
    else if s.clocks.step = 3 then (((((s.pllsTo false).canClock false).islRun 6).navXoBack).mrcTrim trim err) else s
  else s

/-- MRC has passed in clock start-up (R567): the PLLs are locked to it and XO is verified; after three failed attempts the
module stays there in fallback (R569). -/
def State.mrcReady (s : State) : State :=
  if s.clocks.step ≠ 1 then s
  else
    let s := s.each (List.range 12) (fun s i => if i = 6 then s else s.islRun i)
    let s := s.pllsTo true
    if s.get F.CLK_START_ATT = 3 then (s.modClk (fun c => { c with step := 8 })).fallback
    else s.modClk (fun c => { c with step := 3, xoAt := s.clk, counts := [] })

/-- An MRC check (R561, R567). -/
def State.mrcChecked (s : State) (n : Nat) : State :=
  let s := s.put F.CLK_MRC_MEAS n
  if 56250 ≤ n ∧ n ≤ 68750 then
    let s := s.modClk (fun c => { c with passes := min (c.passes + 1) 2, fails := 0, trimPasses := min (c.trimPasses + 1) 2 })
    let s := if s.clocks.passes = 2 then s.put F.CLK_STAT_MRC_OK 1 else s
    let s := if s.flag F.CLK_STAT_MRC_OK then s.mrcReady else s
    if s.clocks.step = 5 ∧ s.clocks.trimPasses = 2 ∧ s.flag F.CLK_STAT_XO_OK then
      (s.put F.CLK_STAT_FBARM 1).modClk (fun c => { c with step := 7 }) else s
  else
    let s := s.modClk (fun c => { c with fails := min (c.fails + 1) 2, passes := 0, trimPasses := 0 })
    if s.clocks.fails = 2 && s.flag F.CLK_STAT_MRC_OK then (s.put F.CLK_STAT_MRC_OK 0).raiseIf (s.present .clk) 3 else s

/-- A measurement of MRC, or in fallback the correction of the time base (R563). The slope that is learned from the pairs
has no stated value: it is a free value (log entry 5). -/
def State.mrcMeasured (s : State) (ppm : Nat) (temp : Int) : State :=
  if s.flag F.CLK_STAT_FB then
    let t : Int := s.gets F.CLK_MRC_TC_TC
    let base := s.clocks.freq
    let c := if s.flag F.CLK_MRC_TC_VALID then base + divOpen 563 (t * (temp - s.clocks.lastTemp)) 10 else base
    s.modClk (fun x => { x with corr := c })
  else if s.flag F.CLK_STAT_XO_OK then
    let s := (s.setNat R.CLK_MRC_FREQ ppm).modClk (fun x => { x with
      lastTemp := temp
      freq := signed 32 ppm
      pairs := match x.pairs with | p :: _ => [(min p.1 temp, max p.2 temp)] | [] => [(temp, temp)] })
    match s.clocks.pairs with
    | p :: _ =>
      if 50 ≤ p.2 - p.1 then
        let r := s.free 16
        (r.2.put F.CLK_MRC_TC_TC r.1).put F.CLK_MRC_TC_VALID 1
      else s
    | [] => s
  else s

/-! ## Gating (R575 to R577) -/

/-- The islands that can be gated, with the block of each. -/
def gatable : List (Nat × Block) := [(6, .gnss), (8, .can), (9, .fbk)]

/-- Island `i` is gated, or not. -/
def State.setGated (s : State) (i : Nat) (b : Bool) : State := s.setNat R.CLK_GATE_STAT (setBit (s.nat R.CLK_GATE_STAT) i b)

/-- CLK_GATE_REQ has changed from `old` (R575, R576); ISL_GNSS of a satellite stays gated. -/
def State.gateWritten (s : State) (old : Nat) : State :=
  s.each [6, 8, 9] (fun s i =>
    let new := nbit (s.nat R.CLK_GATE_REQ) i
    if new = nbit old i then s
    else if new then
      s.modClk (fun c => { c with gateAt := c.gateAt ++ [(i, s.clk)] })
    else (s.when (!(i == 6 && s.isSat)) (fun s => s.setGated i false)).modClk (fun c => { c with gateAt := c.gateAt.filter (fun x => x.1 != i) }))

/-- A pending request for island `i` is dropped. -/
def State.gateDrop (s : State) (i : Nat) : State :=
  let s := s.setNat R.CLK_GATE_REQ (setBit (s.nat R.CLK_GATE_REQ) i false)
  (s.count F.CLK_GATE_ABN 1).modClk (fun c => { c with gateAt := c.gateAt.filter (fun x => x.1 != i) })

/-- The whole counts of 1/16 µs within 65,536 cycles of an island's clock (R576). -/
def gateLimit (i : Nat) : Nat := if i = 6 then 10082 else if i = 8 then 13107 else 10485

/-! ## The block as a whole (R579, R581) -/

/-- ENABLE of CLK goes from 1 to 0 (R579): pending gate requests are discarded; the spreads end at their period's end. -/
def State.clkDisable (s : State) : State := s.each (s.clocks.gateAt.map (·.1)) State.gateDrop

/-- CLK_SUMMARY (R581). -/
def State.clkSummary (s : State) : Nat :=
  bit (s.flag F.CLK_STAT_FB) * 2 ^ 16 +
  (List.range 12).foldl (fun m i => m + bit (s.islSt i == 0 || s.islSt i == 3) * 2 ^ i) 0

/-! ## The commands -/

/-- MRC_CHECK (R561, R567). -/
def execMrcCheck (count : BitVec 17) (s : State) : Answer := .next (if s.powered then s.mrcChecked count.toNat else s)

/-- XO_COUNT (R562, R567, R570, R572). -/
def execXoCount (count : BitVec 16) (trim : BitVec 10) (err : BitVec 16) (s : State) : Answer :=
  .next (if s.powered && decide (3 ≤ s.clocks.step) then s.xoCounted count.toNat trim.toNat err.toNat else s)

/-- XO_EDGE_LOSS (R570): of an XO that was verified. -/
def execXoEdgeLoss (s : State) : Answer := .next (if s.flag F.CLK_STAT_XO_OK then s.xoTrip else s)

/-- XO_VERIFY_TIMEOUT (R567): ISL_GNSS does not start. -/
def execXoVerifyTimeout (s : State) : Answer :=
  .next (if s.clocks.step = 3 && !s.flag F.CLK_STAT_XO_OK && s.passed s.clocks.xoAt (100 * msec) then
    ((s.modClk (fun c => { c with step := 6 })).fallback).islHalt 6 else s)

/-- MRC_FREQ_MEASURE (R563). -/
def execMrcFreqMeasure (ppm : Word) (temp : Int) (s : State) : Answer := .next (s.mrcMeasured ppm.toNat temp)

/-- ISLAND_STOP (R566). -/
def execIslandStop (i : Fin 12) (s : State) : Answer :=
  .next (if s.clocks.stopReq.contains i.val then s.islHalt i.val else s)

/-- The reference of PLL `p` is verified (R573). -/
def State.refOk (s : State) (p : Nat) : Bool :=
  if nbit (s.get F.CLK_STAT_REFMRC) p then s.flag F.CLK_STAT_MRC_OK else s.flag F.CLK_STAT_XO_OK

/-- PLL_UNLK (R573): of a locked PLL on a verified reference. -/
def execPllUnlk (p : Fin 5) (s : State) : Answer :=
  .next (if nbit (s.get F.CLK_STAT_LOCK) p.val && s.refOk p.val then
    let s := (((s.put F.CLK_STAT_LOCK (setBit (s.get F.CLK_STAT_LOCK) p.val false)).raise 6).put ⟨H.sticky .clk, 1, 1⟩ 1).count
      F.CLK_TRIPS_PLL 1
    (s.askStop (islandsOf p.val)).modClk (fun c => { c with pllLost := c.pllLost ++ [(p.val, s.clk)] })
  else s)

/-- PLL_RELOCK (R573): within 1 ms. ISL_GNSS stays stopped in fallback (R577). -/
def execPllRelock (p : Fin 5) (s : State) : Answer :=
  .next (match s.clocks.pllLost.find? (fun x => x.1 == p.val) with
    | some x =>
      if s.clk ≤ x.2 + msec then
        let s := (s.put F.CLK_STAT_LOCK (setBit (s.get F.CLK_STAT_LOCK) p.val true)).modClk
          (fun c => { c with pllLost := c.pllLost.filter (fun y => y.1 != p.val) })
        s.each ((islandsOf p.val).filter (fun i => i != 6 || !s.flag F.CLK_STAT_FB)) State.islRun
      else s
    | none => s)

/-- PLL_RELOCK_TIMEOUT (R573). -/
def execPllRelockTimeout (p : Fin 5) (s : State) : Answer :=
  .next (match s.clocks.pllLost.find? (fun x => x.1 == p.val) with
    | some x => if x.2 + msec ≤ s.clk then s.startTrip 3 else s
    | none => s)

/-- CLK_GATE_TAKE (R576): at an idle point within 65,536 cycles of the request. -/
def execClkGateTake (i : Fin 12) (s : State) : Answer :=
  .next (if s.clocks.gateAt.any (fun x => x.1 == i.val && decide (s.clk ≤ x.2 + gateLimit i.val)) then
    (s.setGated i.val true).modClk
      (fun c => { c with gateAt := c.gateAt.filter (fun x => x.1 != i.val) })
  else s)

/-- GATE_ABN (R576). -/
def execGateAbn (i : Fin 12) (s : State) : Answer :=
  .next (match s.clocks.gateAt.find? (fun x => x.1 == i.val) with
    | some x => if s.passed x.2 (gateLimit i.val + 1) then ((s.gateDrop i.val).raise 7).put ⟨H.sticky .clk, 2, 1⟩ 1 else s
    | none => s)

/-- The margin of the core rail is judged (R578): AVS_LIM comes once where it has stayed below `want` for 10 ms at 0.90 V. -/
def State.avsJudge (s : State) (low : Bool) : State :=
  if !low then s.modClk (fun c => { c with avsLow := none, avsTold := false })
  else match s.clocks.avsLow with
    | none => s.modClk (fun c => { c with avsLow := some s.clk })
    | some t => if s.passed t (10 * msec) && !s.clocks.avsTold then (s.raise 13).modClk (fun c => { c with avsTold := true }) else s

/-- AVS_STEP (R578): every 100 µs; the rail holds while a PLL changes reference, and the margin is judged all the same. In the safe
course AVS is on (R579), with the default MARGIN. -/
def execAvsStep (margin : BitVec 8) (s : State) : Answer :=
  .next (if !s.powered then s
    else
      let m : Int := margin.toInt
      let want : Int := if s.safe then 5 else s.get F.CLK_AVS_CFG_MARGIN
      let on := s.flag F.CLK_AVS_CFG_EN || s.safe
      let s := s.put F.CLK_AVS_STAT_MARGIN margin.toNat
      let mv := s.get F.CLK_AVS_STAT_MV
      let s := s.avsJudge (on && decide (m < want ∧ 900 ≤ mv))
      if !s.passed s.clocks.refAt 1600 then s
      else if !on then s.put F.CLK_AVS_STAT_MV 900
      else if !s.passed s.clocks.avsAt 1600 then s
      else
        let s := s.modClk (fun c => { c with avsAt := s.clk })
        if m < want then (if mv < 900 then s.put F.CLK_AVS_STAT_MV (mv + 5) else s)
        else if want + 3 < m ∧ 720 < mv ∧ s.passed s.clocks.lowerAt (10 * msec) then
          (s.put F.CLK_AVS_STAT_MV (mv - 5)).modClk (fun c => { c with lowerAt := s.clk })
        else s)

/-- SPREAD_MODULATION_PERIOD (R574, R579). -/
def execSpreadModulationPeriod (drv : Bool) (s : State) : Answer :=
  .next (let v := if !s.runs .clk then (0, 0)
           else if drv then (s.get F.CLK_SSC_DRV_RATE, s.get F.CLK_SSC_DRV_DEPTH)
           else (s.get F.CLK_SSC_FAB_RATE, s.get F.CLK_SSC_FAB_DEPTH)
         s.modClk (fun c => if drv then { c with sscDrv := v } else { c with sscFab := v }))

end Sys2Proof.Machine
end

