-- ==== Sys2Proof/Machine/Pwr.lean ====
section
/-! DEFINITION. Supplies, safe states and the record store (R585 to R614); the start-up phases and the resets are in
Machine/Boot.lean. -/

namespace Sys2Proof.Machine

open Sys2Proof

def State.modPwr (s : State) (f : PwrState → PwrState) : State := { s with pwr := f s.pwr }
def State.modFlash (s : State) (f : FlashState → FlashState) : State := { s with flash := f s.flash }

/-- The slots `t` with those of some items as in `u`: the items are numbered as in StartFinds, the preferred firmware slot is 6. -/
def RecordStore.take (t u : RecordStore) (items : List Nat) : RecordStore where
  hours := if items.contains 0 then u.hours else t.hours
  pcyc := if items.contains 1 then u.pcyc else t.pcyc
  cycles := if items.contains 2 then u.cycles else t.cycles
  lat := if items.contains 3 then u.lat else t.lat
  tel := if items.contains 5 then u.tel else t.tel
  prefer := if items.contains 6 then u.prefer else t.prefer

/-- The record store with some items written (R607): the newest slot becomes the older one. -/
def State.storeItems (s : State) (items : List Nat) (f : RecordStore → RecordStore) : State :=
  s.modFlash (fun x => { x with store := f x.store, older := x.older.take x.store items, wrote := items })

/-- The start-up phase: 0 to 4 PU0 to PU4, 5 RUN (R588, R613). -/
def State.phaseOf (s : State) : Nat := s.get F.PWR_STAT_PHASE

/-! ## What is persisted (R606) -/

/-- The operating hours are written. -/
def State.storeHours (s : State) : State := s.storeItems [0] (fun r => { r with hours := some (s.nat R.PWR_HOURS) })

/-- SOL_CH_CYCLES and HSW_CH_CYCLES. -/
def State.cycleWords (s : State) : List Word :=
  (List.range 96).map (fun n => s.word (R.SOL_CH_CYCLES n)) ++ (List.range 24).map (fun k => s.word (R.HSW_CH_CYCLES k))

/-- The learned latencies and confidences of a channel, or of a switch (R419, R422). -/
def State.latWords (s : State) : List (List Word) :=
  (List.range 96).map (fun n => [s.word (R.ARM_CH_EST n), s.word (R.ARM_CH_CONF n)]) ++
  (List.range 24).map (fun k =>
    let w := s.armSw.get k
    [s.word (R.ARM_SW_EST k), BitVec.ofNat 32 (w.confC * 256 + w.confO)])

/-- The cycle counts and learned latencies are written. -/
def State.storePeriodic (s : State) : State :=
  s.storeItems [2, 3] (fun r => { r with cycles := some s.cycleWords, lat := some s.latWords })

/-- The telemetry extremes (R637). -/
def State.telWords (s : State) : List Word :=
  [s.word R.MEM_TEL_SLUG, s.word R.MEM_TEL_TJ, s.word R.MEM_TEL_VBAT, s.word R.MEM_TEL_LAT, s.word R.MEM_TEL_SINCE]

/-- The telemetry summaries are written. -/
def State.storeTel (s : State) : State := s.storeItems [5] (fun r => { r with tel := some s.telWords })

/-- A write of PWR_CMD.PERSIST (R608). -/
def State.persist (s : State) : State :=
  if s.flag F.PWR_PERSIST_BUSY then s
  else if !s.enabled .pwr then s.count F.PWR_DISC_PERSIST 1
  else (s.put F.PWR_PERSIST_BUSY 1).modFlash (fun x => { x with class3 := x.class3 ++ [.persist] })

/-- ENABLE of PWR goes from 1 to 0 (R609): a PERSIST that has not started is discarded. -/
def State.pwrDisable (s : State) : State :=
  let s := if s.flash.class3.contains .persist then
      ((s.count F.PWR_DISC_PERSIST 1).put F.PWR_PERSIST_BUSY 0).modFlash
        (fun x => { x with class3 := x.class3.filter (fun o => o != .persist) })
    else s
  s.modFlash (fun x => { x with class3 := x.class3.filter (fun o => o != .periodic) })

/-- Learned latencies come back with half their confidence; a channel without stored values starts as after CLR. No event
is raised (R419). -/
def State.restoreLat (s : State) : State :=
  match s.flash.store.lat with
  | some ws =>
    let s := s.each (List.range 96) (fun s n =>
      let w := ws.getD n []
      let c := w.getD 1 0
      let half (f : Fld) : Nat := takeField c f.lo f.w / 2
      let o := half (F.ARM_CH_CONF_CONF_O n)
      let k := half (F.ARM_CH_CONF_CONF_C n)
      let s := s.setWord (R.ARM_CH_EST n) (w.getD 0 0)
      ((s.put (F.ARM_CH_CONF_CONF_O n) o).put (F.ARM_CH_CONF_CONF_C n) k).put (F.ARM_CH_CONF_CONF n) (min o k))
    s.each (List.range 24) (fun s k =>
      let w := ws.getD (96 + k) []
      let c := (w.getD 1 0).toNat
      let s := (s.setWord (R.ARM_SW_EST k) (w.getD 0 0)).modSw k
        (fun e => { e with confO := c % 256 / 2, confC := c / 256 / 2 })
      s.eotShow k)
  | none =>
    let s := s.each (List.range 96) (fun s n =>
      (s.put (armEst n false) (s.get (F.ARM_CH_INIT_INIT_O n))).put (armEst n true) (s.get (F.ARM_CH_INIT_INIT_C n)))
    s.each (List.range 24) (fun s k => s.setNat (R.ARM_SW_EST k) 0)

/-- Cycle counts come back. -/
def State.restoreCycles (s : State) : State :=
  let ws := s.flash.store.cycles.getD []
  let s := s.each (List.range 96) (fun s n => s.setWord (R.SOL_CH_CYCLES n) (ws.getD n 0))
  s.each (List.range 24) (fun s k => s.setWord (R.HSW_CH_CYCLES k) (ws.getD (96 + k) 0))

/-- PWR_SUMMARY (R611). -/
def State.pwrSummary (s : State) : Nat :=
  s.sense F.PWR_VBAT_VBAT * 2 ^ 16 + s.phaseOf * 2 ^ 8 + s.get F.PWR_STAT_SSAFE * 4 + s.get F.PWR_STAT_DSAFE_B * 2 +
  s.get F.PWR_STAT_DSAFE_A

/-! ## The commands -/

/-- VBAT_LOW (R602). -/
def execVbatLow (s : State) : Answer := .next (if s.powered then (s.put F.PWR_STAT_LOW 1).raiseIf (!s.flag F.PWR_STAT_LOW) 9 else s)

/-- VBAT_LOW_END (R602). -/
def execVbatLowEnd (s : State) : Answer := .next (s.put F.PWR_STAT_LOW 0)

/-- SUPPLY_SAFE_ENTER (R602): both power dies force their outputs off and the operating hours are written first of all. -/
def execSupplySafeEnter (s : State) : Answer :=
  .next (if !s.flag F.PWR_STAT_VBAT_OK || s.flag F.PWR_STAT_SSAFE then s
    else
      let s := ((s.put F.PWR_STAT_SSAFE 1).put F.PWR_STAT_VBAT_OK 0).raise 10
      let s := (s.put ⟨H.sticky .pwr, 0, 1⟩ 1).count F.PWR_CNT_SSAFE 1
      (((s.modFlash (fun x => { x with urgent := true })).forceDie 0).forceDie 1))

/-- SUPPLY_SAFE_EXIT (R603): CURRENT channels resume and every Stride point becomes free. -/
def execSupplySafeExit (s : State) : Answer :=
  .next (if !s.flag F.PWR_STAT_SSAFE then s
    else (((s.put F.PWR_STAT_SSAFE 0).put F.PWR_STAT_VBAT_OK 1).solResume (List.range 96)).strFreeAll)

/-- VIO_LOSS (R604): lines that VIO feeds are bad, and the CAN controllers enter INIT. -/
def execVioLoss (s : State) : Answer :=
  .next (if !s.flag F.PWR_STAT_VIO_OK then s
    else
      let s := ((s.put F.PWR_STAT_VIO_OK 0).put F.PWR_STAT_VIO_33 0).raise 11
      let s := (s.put ⟨H.sticky .pwr, 1, 1⟩ 1).count F.PWR_CNT_VIO 1
      (s.each (List.range 8) State.encVio).canCut)

/-- VIO_PRESENT (R585, R604): the level is detected, and each controller returns to its MODE. -/
def execVioPresent (v33 : Bool) (s : State) : Answer :=
  .next (if s.flag F.PWR_STAT_VIO_OK then s
    else ((s.put F.PWR_STAT_VIO_OK 1).putB F.PWR_STAT_VIO_33 v33).each [0, 1, 2] State.canModeStep)

/-- SLUG_SAMPLE (R605): the temperature in 0.1 °C. -/
def execSlugSample (t : BitVec 16) (s : State) : Answer :=
  .next (if !s.powered then s
    else
      let s := s.put F.PWR_SLUG t.toNat
      if 850 ≤ t.toInt && !s.pwr.slugWarn then
        ((s.raise 15).put ⟨H.sticky .pwr, 3, 1⟩ 1).modPwr (fun p => { p with slugWarn := true })
      else if t.toInt < 800 then s.modPwr (fun p => { p with slugWarn := false }) else s)

/-- PERSIST_DONE (R608): the items are written, unless no spare sector was left (R633). -/
def execPersistDone (s : State) : Answer :=
  .next (if !s.flash.running then s
    else
      let s' := if s.flash.failed then s else s.storeHours.storePeriodic
      let s' := ((s'.put F.PWR_PERSIST_BUSY 0).put F.PWR_PERSIST_VALID 1).put F.PWR_PERSIST_RESULT (if s.flash.failed then 7 else 0)
      s'.modFlash (fun x => { x with running := false, failed := false, wrote := [] }))

/-- HOURS_PERSIST (R606): whatever ENABLE holds (R609). -/
def execHoursPersist (s : State) : Answer :=
  .next (if s.powered then s.modFlash (fun x => { x with class3 := x.class3 ++ [.hours] }) else s)

/-- PERIODIC_PERSIST (R606, R609). -/
def execPeriodicPersist (s : State) : Answer :=
  .next (if s.enabled .pwr then s.modFlash (fun x => { x with class3 := x.class3 ++ [.periodic] }) else s)

/-- RUN_60S (R595). -/
def execRun60s (s : State) : Answer :=
  .next (match s.pwr.runAt with
    | some t => if s.phaseOf = 5 && s.passed t (60 * second) then s.put F.PWR_RST_CAUSE_WRUN 0 else s
    | none => s)

/-! ## Die links (R27, R28) -/

/-- DIE_LINK_FRAME (R27): a valid frame reaches power die `d`. -/
def execDieLinkFrame (d : Fin 2) (s : State) : Answer :=
  .next (s.modPwr (fun p => { p with linkAt := p.linkAt.set d.val s.clk }))

/-- DIE_LINK_TIMEOUT (R28, R414, R601): 500 µs without a frame. -/
def execDieLinkTimeout (d : Fin 2) (s : State) : Answer :=
  .next (if s.powered && s.passed (s.pwr.linkAt.get d.val) (500 * usec) then
    s.driveSafe d.val |>.each (dieChannels d.val) State.armCut else s)

end Sys2Proof.Machine
end

