-- ==== Sys2Proof/Machine/Flags.lean ====
section
/-! DEFINITION. The STATUS field of a reply (R65), how pending events form its attention fields (R149), and the event
registers that show the same (R152). -/

namespace Sys2Proof.Machine

open Sys2Proof

/-- The blocks that own events of group `g` (R95, R151). -/
def groupOwners (g : Nat) : List Block :=
  allBlocks.filter (fun b => evGroup b == g || (g == 9 && b == .sol))

/-- The state in which the events of block `b` can be pending: present, or failed, where only its fail event pends (R102). -/
def State.eventful (s : State) (b : Block) : Bool := s.kind b == 1 || s.kind b == 2

/-- BLK_EVT of block `b`, or SOL_EVT_HI for group 9, as a mask by index (R99). -/
def State.pendMask (s : State) (b : Block) (g : Nat) : Nat :=
  if s.eventful b then (s.nat (if g = 9 then R.SOL_EVT_HI else H.evt b)) % 65536 &&& evMask b g else 0

/-- The indices of group `g` of class S, whose enable bit reads 1 (R148). -/
def safeMask (b : Block) (g : Nat) : Nat :=
  ((List.range 16).filter (fun i => (evClasses g).getD i 0 == 3 && evOwner (16 * g + i) == b)).foldl (fun m i => m + 2 ^ i) 0

/-- BLK_EVT_EN of block `b`, or SOL_EVT_HI_EN for group 9, as it reads (R99, R148). -/
def State.enMask (s : State) (b : Block) (g : Nat) : Nat :=
  ((s.nat (if g = 9 then R.SOL_EVT_HI_EN else H.evtEn b)) % 65536 &&& evMask b g) ||| safeMask b g

/-- EVT_GRP_RAW of group `g`: pending, whatever the enable holds (R152). -/
def State.groupRaw (s : State) (g : Nat) : Nat := (groupOwners g).foldl (fun m b => m ||| s.pendMask b g) 0

/-- EVT_GRP_PEND of group `g`: pending and enabled (R152). -/
def State.groupPend (s : State) (g : Nat) : Nat :=
  (groupOwners g).foldl (fun m b => m ||| (s.pendMask b g &&& s.enMask b g)) 0

/-- EVT_GRP_CLASS of group `g` (R152). -/
def groupClass (g : Nat) : Nat :=
  (List.range 16).foldl (fun m i => m + (if g == 14 && (i == 6 || i == 7) then 0 else (evClasses g).getD i 0) * 4 ^ i) 0

/-- EVT_SUMMARY (R152). -/
def State.evtSummary (s : State) : Nat := (List.range 16).foldl (fun m g => m + bit (s.groupPend g != 0) * 2 ^ g) 0

/-- The highest attention code of the set bits of a group's mask: 1 N, 2 W, 3 F, 4 S, 0 where none is set (R149). -/
def topCode (g mask : Nat) : Nat :=
  (List.range 16).foldl (fun c i => if nbit mask i then max c ((evClasses g).getD i 0 + 1) else c) 0

/-- ATTN_CLASS and ATTN_GROUP: groups are scanned downward from `n` − 1, so that the lowest group of the highest class is
left (R149). -/
def State.attention (s : State) : Nat → Nat × Nat → Nat × Nat
  | 0, r => r
  | g + 1, r =>
    let c := topCode g (s.groupPend g)
    s.attention g (if 0 < c ∧ r.1 ≤ c then (c, g) else r)

/-- STATUS.TIMEQ (R224); without a NAV block only the satellite tick counts (log entry 2003). -/
def State.timeq (s : State) : Bool :=
  s.tickless || !s.absentBlock .nav &&
    (s.get F.NAV_TIME_STAT_TQ != 1 || s.flag F.NAV_TIME_STAT_SLEW || decide (s.get F.NAV_POSE_Q_PQ ≤ 1))

/-- STATUS of a reply formed now, with ERR and DUP as given (R65). -/
def State.status (s : State) (err dup : Bool) : Nat :=
  let a := s.attention 16 (0, 0)
  a.1 * 2 ^ 12 + a.2 * 2 ^ 8 + bit (s.laneReady != 0) * 2 ^ 7 + bit s.timeq * 2 ^ 6 + s.get F.CLK_STAT_FB * 2 ^ 5 +
  bit (s.flag F.CFG_COURSE_STAT_BUSY || !s.cfg.resets.isEmpty) * 2 ^ 4 + s.get F.REC_LOG_STAT_STOP * 2 ^ 3 + s.get F.HSW_LH_STAT_ACTIVE * 2 ^ 2 +
  bit err * 2 + bit dup

end Sys2Proof.Machine
end

