-- ==== Sys2Proof/Machine/Plb.lean ====
section
/-! DEFINITION. The plumb check units (R677 to R684). -/

namespace Sys2Proof.Machine

open Sys2Proof

/-- `v` read backwards over `w` bits (R677). -/
def reverseBits : Nat → Nat → Nat
  | 0, _ => 0
  | w + 1, v => v % 2 * 2 ^ w + reverseBits w (v / 2)

/-- One input bit of a check value of width `w` (R677). -/
def plbBit (w poly reg : Nat) (b : Bool) : Nat :=
  let r := reg * 2 % 2 ^ w
  if nbit reg (w - 1) != b then r ^^^ poly else r

/-- One input byte, high bit first. -/
def plbByte (w poly : Nat) (refin : Bool) (reg : Nat) (b : Byte) : Nat :=
  let v := if refin then reverseBits 8 b.toNat else b.toNat
  [7, 6, 5, 4, 3, 2, 1, 0].foldl (fun (r : Nat) i => plbBit w poly r (nbit v i)) reg

/-- The check value of a byte stream (R677). -/
def plbValue (w poly init xorout : Nat) (refin refout : Bool) (l : List Byte) : Nat :=
  let r := l.foldl (fun (r : Nat) b => plbByte w poly refin r b) init
  (if refout then reverseBits w r else r) ^^^ xorout

/-- A word and a pair of words of a unit's latched registers, from PLB_CFG on. -/
def PlbRun.word (r : PlbRun) (k : Nat) : Nat := (r.regs.getD k 0).toNat
def PlbRun.pair (r : PlbRun) (k : Nat) : Nat := r.word k + 2 ^ 32 * r.word (k + 1)

/-- W, and the parameters of PLB_CFG (R684). -/
def PlbRun.width (r : PlbRun) : Nat := r.word 0 % 64 + 1
def PlbRun.lane (r : PlbRun) : Bool := nbit (r.word 0) 28
def PlbRun.laneNo (r : PlbRun) : Nat := r.word 0 / 2 ^ 24 % 16
def PlbRun.expSrc (r : PlbRun) : Nat := r.word 0 / 2 ^ 30

/-- The payload bytes of `n` entries of lane `k` from ring index `i` (R678). -/
def State.lanePayload (s : State) (k i : Nat) : Nat → List Byte
  | 0 => []
  | n + 1 => s.bytes (s.laneSlot k (i % s.laneSize k) + 8) 56 ++ s.lanePayload k (i + 1) n

/-- How many bytes a run processes. -/
def PlbRun.length (r : PlbRun) : Nat := if r.lane then 56 * (r.word 8 % 2 ^ 14) else r.word 8

/-- The stream of a run (R678). -/
def State.plbStream (s : State) (r : PlbRun) : List Byte :=
  if r.lane then s.lanePayload r.laneNo (r.word 7 % 2 ^ 14) (r.word 8 % 2 ^ 14) else s.bytes (r.word 7) (r.word 8)

/-- A unit's registers as they are now, with no stream. -/
def State.plbRegs (s : State) (u : Nat) : PlbRun := ⟨(List.range 11).map (fun k => s.word (R.PLB_CFG u + 4 * k)), [], none⟩

/-- Why a GO is refused (R677, R678): a parameter bit at or above W, an empty stream, a range outside DRAM that the host
may read, or a lane that is off or a COUNT outside its range. -/
def State.plbRefuses (s : State) (u : Nat) : Option ErrCode :=
  let r := s.plbRegs u
  let high (k : Nat) : Bool := decide (2 ^ r.width ≤ r.pair k)
  let n := r.word 8 % 2 ^ 14
  if s.get (F.PLB_STAT_STATE u) = 1 then some .locked
  else if !r.lane && decide (r.word 7 < dramBase ∨ 0x1F000000 < r.word 7 + r.word 8) then some .denied
  else if r.lane && (!s.laneOn r.laneNo || decide (n = 0 ∨ s.laneSize r.laneNo ≤ n)) then some .locked
  else if high 1 || high 3 || high 5 || (!r.lane && r.word 8 == 0) then some .encoding
  else none

/-- The ring indices of the entries of a lane run (R678). -/
def State.plbSlots (s : State) (r : PlbRun) : List Nat :=
  (List.range (r.word 8 % 2 ^ 14)).map (fun k => (r.word 7 % 2 ^ 14 + k) % s.laneSize r.laneNo)

/-- The DRAM address of the first byte that the run reads of the page `p`, and of the byte after its last one there, both as
bytes of its stream; none where it reads nothing of the page (R678). -/
def State.plbPage (s : State) (r : PlbRun) (p : Nat) : Option (Nat × Nat) :=
  if r.lane then
    match (s.plbSlots r).zipIdx.filter (fun x => s.laneSlot r.laneNo x.1 / 4096 == p) with
    | [] => none
    | x :: t => some (56 * x.2, 56 * ((t.getLast?.getD x).2 + 1))
  else if r.word 7 / 4096 ≤ p ∧ p * 4096 < r.word 7 + r.word 8 then
    some (p * 4096 - r.word 7, min (p * 4096 + 4096) (r.word 7 + r.word 8) - r.word 7)
  else none

/-- The bytes of the run's stream before the first dead page in it (R37). -/
def State.plbDead (s : State) (r : PlbRun) : Option Nat :=
  (s.memCare.dead.filterMap (fun p => (s.plbPage r p).map (·.1))).min?

/-- What GO latches: the parameters, the stream as it is now, and where a dead page lies in it. -/
def State.plbLatch (s : State) (u : Nat) : PlbRun :=
  { s.plbRegs u with data := s.plbStream (s.plbRegs u), lostAt := s.plbDead (s.plbRegs u) }

/-- The bytes of a block of a run: 64 of DRAM, or the 56 payload bytes of a lane entry (R678, R680). -/
def PlbRun.unit (r : PlbRun) : Nat := if r.lane then 56 else 64

/-- How far run `r` of unit `u` has come: whole blocks, as the spec gives no pace (log entry 5); not past a lost page. -/
def State.plbProgress (s : State) (u : Nat) (r : PlbRun) : Nat :=
  min (r.lostAt.getD r.length) (min r.length (r.unit * ((s.measured (R.PLB_DONE u)).toNat % (r.length / r.unit + 2))))

/-- The run of unit `u` ends in STATE `st`, without a comparison, after `n` bytes (R680). -/
def State.plbStop (s : State) (u st n : Nat) : State :=
  let s := (s.put (F.PLB_STAT_STATE u) st).put (F.PLB_DONE u) n
  { s with plb := s.plb.set u none }

/-- A page of the run's stream is lost before the run has read it: bytes `n` were processed (R680). -/
def State.plbLost (s : State) (u n : Nat) : State := (s.plbStop u 4 n).put ⟨H.sticky .plb, 4, 1⟩ 1

/-- GO (R678): the parameters are latched. With the block disabled no unit runs, and the run is counted as discarded. -/
def State.plbGo (s : State) (u : Nat) : State :=
  if !s.enabled .plb then s.count F.PLB_DISC 1
  else
    let r := s.plbLatch u
    let s := ((s.put (F.PLB_STAT_STATE u) 1).put (F.PLB_STAT_CMP u) 0).put (F.PLB_STAT_MATCH u) 0
    let s := s.put (F.PLB_DONE u) 0
    { s with plb := s.plb.set u (some r) }

/-- A run is aborted (R680): after the block in progress. -/
def State.plbAbort (s : State) (u : Nat) : State :=
  match s.plb.get u with
  | none => s
  | some r => s.plbStop u 3 (s.plbProgress u r)

/-- The check value of a run (R677); of a stream that was written during the run it is a free value (R678; log entry 5). -/
def State.plbResult (s : State) (r : PlbRun) : Nat × State :=
  if s.plbStream r = r.data then
    (plbValue r.width (r.pair 1) (r.pair 3) (r.pair 5) (nbit (r.word 0) 8) (nbit (r.word 0) 9) r.data, s)
  else let x := s.free 64; (x.1 % 2 ^ r.width, x.2)

/-- A run has processed its stream (R679). -/
def State.plbFinish (s : State) (u : Nat) (r : PlbRun) : State :=
  let w := r.width
  let v := (s.plbResult r).1
  let s := (s.plbResult r).2
  let m := s.bytes (r.word 7 + r.word 8) ((w + 7) / 8)
  let mem := leNat (if nbit (r.word 0) 29 then m.reverse else m)
  let s := if r.expSrc = 2 then s.setNat64 (R.PLB_EXP_LO u) mem else s
  let e := if r.expSrc = 2 then mem else r.pair 9
  let s := ((s.put (F.PLB_STAT_STATE u) 2).setNat64 (R.PLB_RES_LO u) v).put (F.PLB_DONE u) r.length
  let s := { s with plb := s.plb.set u none }
  if r.expSrc = 0 then s
  else
    let ok := decide (e % 2 ^ w = v % 2 ^ w)
    let s := (s.put (F.PLB_STAT_CMP u) 1).putB (F.PLB_STAT_MATCH u) ok
    let s := { s with plbMis := s.plbMis.set u (!ok) }
    if ok then s else (s.put ⟨H.sticky .plb, u, 1⟩ 1).raise (249 + u)

/-- A run ends: with its result, or LOST at a page that reads as lost (R37, R679, R680). -/
def State.plbDone (s : State) (u : Nat) : State :=
  match s.plb.get u with
  | none => s
  | some r => match r.lostAt with | some n => s.plbLost u n | none => s.plbFinish u r

/-- ENABLE of PLB goes from 1 to 0 (R680). -/
def State.plbDisable (s : State) : State :=
  s.each [0, 1, 2, 3] (fun s u => if (s.plb.get u).isSome then (s.plbAbort u).count F.PLB_DISC 1 else s)

/-- PLB_SUMMARY (R682). -/
def State.plbSummary (s : State) : Nat :=
  (List.range 4).foldl (fun m u => m + bit (s.plbMis.get u) * 2 ^ (8 + u) +
    bit (s.get (F.PLB_STAT_STATE u) == 1) * 2 ^ u) 0

/-- PLB_RUN_END (R679). -/
def execPlbRunEnd (u : Fin 4) (s : State) : Answer := .next (s.plbDone u.val)

end Sys2Proof.Machine
end

