-- ==== Sys2Proof/Machine/RegTypes.lean ====
section
/-! DEFINITION. The shape of a row of the register map: the access codes of R17, the values a field may hold (R23) and a
register with its array strides and counts (R97). -/

namespace Sys2Proof.Machine

/-- The access codes of R17. -/
inductive Access where
  | ro | rw | w1c | wo | rwl | rwo | rs
  deriving DecidableEq, Repr

/-- The values a writable field may hold (R23). `signed` reads the field as two's complement (R14), `steps k` asks for a
multiple of `k` within the ranges. -/
inductive Limits where
  | any
  | within (rs : List (Nat × Nat))
  | signed (rs : List (Int × Int))
  | steps (k : Nat) (rs : List (Nat × Nat))
  deriving DecidableEq, Repr

/-- One field of a register. -/
structure FieldDef where
  lo       : Nat
  w        : Nat
  acc      : Access
  ftg      : Bool     -- loaded from the footing (R24)
  dflt     : Nat      -- the footing default (R24)
  limits   : Limits
  shadowed : Bool     -- R104
  deriving DecidableEq, Repr

/-- What an index of a register array counts, where some instances may be absent (R3, R6, R344). `remote` marks the
registers of remote points and satellites, of which only a module with the lead role has any. -/
inductive Counts where
  | all | solCh | bank | die | hsw | vhs | loop | heat | pacer | lap | gnssCh | point | remote
  deriving DecidableEq, Repr

/-- One register of the map, or an array of them: address base + Σ index × stride. -/
structure RegDef where
  name   : String
  base   : Nat
  dims   : List (Nat × Nat)   -- (stride, count), outermost first
  counts : Counts
  first  : Nat                -- the instance of outermost index 0
  fields : List FieldDef
  deriving DecidableEq, Repr

end Sys2Proof.Machine
end

