-- ==== Sys2Proof/Machine/RegMap.lean ====
section
/-! DEFINITION. The register map as data (R94 to R99 and the register tables of every chapter of spec/): for each
register its address, its array strides and counts, and for each field its place, access code (R17), whether it is
loaded from the footing and its footing default (R24), the values it may hold (R23) and whether it is shadowed (R104). -/

namespace Sys2Proof.Machine

def regDefs1a : List RegDef := [
  ⟨"SYS_LINK_MODE", 0x11000, [], .all, 0, [⟨16, 8, .ro, false, 0, .any, false⟩, ⟨9, 1, .ro, false, 0, .any, false⟩, ⟨8, 1, .ro, false, 0, .any, false⟩, ⟨7, 1, .ro, false, 0, .any, false⟩, ⟨0, 6, .ro, false, 0, .any, false⟩]⟩,
  ⟨"SYS_LINK_STATE", 0x11004, [], .all, 0, [⟨24, 8, .ro, false, 0, .any, false⟩, ⟨16, 1, .ro, false, 0, .any, false⟩, ⟨5, 1, .ro, false, 0, .any, false⟩, ⟨4, 1, .ro, false, 0, .any, false⟩, ⟨2, 2, .ro, false, 0, .any, false⟩, ⟨0, 2, .ro, false, 0, .any, false⟩]⟩,
  ⟨"SYS_LINK_EXPSEQ", 0x11008, [], .all, 0, [⟨8, 8, .ro, false, 0, .any, false⟩, ⟨0, 8, .ro, false, 0, .any, false⟩]⟩,
  ⟨"SYS_LINK_BSEQ", 0x1100C, [], .all, 0, [⟨8, 1, .ro, false, 0, .any, false⟩, ⟨0, 8, .ro, false, 0, .any, false⟩]⟩,
  ⟨"SYS_LINK_DLY", 0x11010, [], .all, 0, [⟨16, 16, .ro, false, 0, .any, false⟩, ⟨0, 16, .ro, false, 0, .any, false⟩]⟩,
  ⟨"SYS_LINK_FWD", 0x11014, [], .all, 0, [⟨0, 16, .ro, false, 0, .any, false⟩]⟩,
  ⟨"SYS_LINK_AUTHREQ", 0x11018, [], .all, 0, [⟨0, 1, .rwl, true, 0, .any, false⟩]⟩,
  ⟨"SYS_LINK_HDRERR", 0x1101C, [], .all, 0, [⟨0, 16, .rs, false, 0, .any, false⟩]⟩,
  ⟨"SYS_LINK_CRCERR", 0x11020, [], .all, 0, [⟨0, 16, .rs, false, 0, .any, false⟩]⟩,
  ⟨"SYS_LINK_OVF", 0x11024, [], .all, 0, [⟨0, 16, .rs, false, 0, .any, false⟩]⟩,
  ⟨"SYS_LINK_BERR", 0x11028, [], .all, 0, [⟨0, 16, .rs, false, 0, .any, false⟩]⟩,
  ⟨"SYS_LINK_ORGERR", 0x1102C, [], .all, 0, [⟨0, 16, .rs, false, 0, .any, false⟩]⟩,
  ⟨"SYS_LINK_AUTHERR", 0x11030, [], .all, 0, [⟨0, 16, .rs, false, 0, .any, false⟩]⟩,
  ⟨"SYS_LINK_RETRAIN", 0x11034, [], .all, 0, [⟨0, 16, .rs, false, 0, .any, false⟩]⟩,
  ⟨"SYS_TICK_BASE_LO", 0x11038, [], .all, 0, [⟨0, 32, .rw, false, 0, .any, false⟩]⟩,
  ⟨"SYS_TICK_BASE_HI", 0x1103C, [], .all, 0, [⟨0, 32, .rw, false, 0, .any, false⟩]⟩,
  ⟨"SYS_BOOT", 0x12000, [], .all, 0, [⟨17, 1, .ro, false, 0, .any, false⟩, ⟨16, 1, .ro, false, 0, .any, false⟩, ⟨8, 1, .ro, false, 0, .any, false⟩, ⟨0, 4, .ro, false, 0, .any, false⟩]⟩]

def regDefs2a : List RegDef := [
  ⟨"CLK_SUMMARY", 0x20024, [], .all, 0, [⟨16, 1, .ro, false, 0, .any, true⟩, ⟨0, 12, .ro, false, 0, .any, true⟩]⟩,
  ⟨"CLK_STAT", 0x21000, [], .all, 0, [⟨31, 1, .ro, false, 0, .any, true⟩, ⟨30, 1, .ro, false, 0, .any, true⟩, ⟨29, 1, .ro, false, 0, .any, true⟩, ⟨28, 1, .ro, false, 0, .any, true⟩, ⟨16, 5, .ro, false, 0, .any, true⟩, ⟨0, 5, .ro, false, 0, .any, true⟩]⟩,
  ⟨"CLK_CTRL", 0x21004, [], .all, 0, [⟨1, 1, .wo, false, 0, .any, false⟩, ⟨0, 1, .rwl, true, 1, .any, false⟩]⟩,
  ⟨"CLK_XO_MEAS", 0x21008, [], .all, 0, [⟨16, 16, .ro, false, 0, .any, false⟩, ⟨0, 16, .ro, false, 0, .any, false⟩]⟩,
  ⟨"CLK_MRC_MEAS", 0x2100C, [], .all, 0, [⟨0, 17, .ro, false, 0, .any, false⟩]⟩,
  ⟨"CLK_MRC_TRIM", 0x21010, [], .all, 0, [⟨16, 16, .ro, false, 0, .any, false⟩, ⟨0, 10, .ro, false, 0, .any, false⟩]⟩,
  ⟨"CLK_MRC_FREQ", 0x21014, [], .all, 0, [⟨0, 32, .ro, false, 0, .any, false⟩]⟩,
  ⟨"CLK_START", 0x21018, [], .all, 0, [⟨24, 3, .ro, false, 0, .any, false⟩, ⟨0, 2, .ro, false, 0, .any, false⟩]⟩,
  ⟨"CLK_TRIPS", 0x2101C, [], .all, 0, [⟨16, 16, .rs, false, 0, .any, false⟩, ⟨0, 16, .rs, false, 0, .any, false⟩]⟩,
  ⟨"CLK_SSC_FAB", 0x21020, [], .all, 0, [⟨16, 6, .rwl, true, 0, .within [(20, 60)], false⟩, ⟨0, 4, .rwl, true, 0, .within [(0, 8)], false⟩]⟩,
  ⟨"CLK_SSC_DRV", 0x21024, [], .all, 0, [⟨16, 6, .rwl, true, 0, .within [(20, 60)], false⟩, ⟨0, 4, .rwl, true, 0, .within [(0, 8)], false⟩]⟩,
  ⟨"CLK_GATE_REQ", 0x21028, [], .all, 0, [⟨9, 1, .rw, false, 0, .any, false⟩, ⟨8, 1, .rw, false, 0, .any, false⟩, ⟨6, 1, .rw, false, 0, .any, false⟩]⟩,
  ⟨"CLK_GATE_STAT", 0x2102C, [], .all, 0, [⟨0, 32, .ro, false, 0, .any, false⟩]⟩,
  ⟨"CLK_AVS_CFG", 0x21030, [], .all, 0, [⟨16, 1, .rwl, true, 1, .any, false⟩, ⟨0, 8, .rwl, true, 5, .within [(2, 15)], false⟩]⟩,
  ⟨"CLK_AVS_STAT", 0x21034, [], .all, 0, [⟨16, 16, .ro, false, 0, .any, true⟩, ⟨0, 8, .ro, false, 0, .any, true⟩]⟩,
  ⟨"CLK_GATE_ABN", 0x21038, [], .all, 0, [⟨0, 16, .rs, false, 0, .any, false⟩]⟩,
  ⟨"CLK_MRC_TC", 0x2103C, [], .all, 0, [⟨31, 1, .ro, false, 0, .any, false⟩, ⟨0, 16, .ro, false, 0, .any, false⟩]⟩,
  ⟨"CLK_ISL_STAT", 0x22000, [(0x10, 12)], .all, 0, [⟨2, 2, .ro, false, 0, .any, false⟩, ⟨0, 1, .ro, false, 0, .any, false⟩]⟩,
  ⟨"CLK_ISL_FREQ", 0x22004, [(0x10, 12)], .all, 0, [⟨0, 32, .ro, false, 0, .any, true⟩]⟩]

def regDefs3a : List RegDef := [
  ⟨"PWR_SUMMARY", 0x30024, [], .all, 0, [⟨16, 16, .ro, false, 0, .any, true⟩, ⟨8, 3, .ro, false, 0, .any, true⟩, ⟨2, 1, .ro, false, 0, .any, true⟩, ⟨1, 1, .ro, false, 0, .any, true⟩, ⟨0, 1, .ro, false, 0, .any, true⟩]⟩,
  ⟨"PWR_DISC", 0x30028, [], .all, 0, [⟨0, 16, .rs, false, 0, .any, false⟩]⟩,
  ⟨"PWR_STAT", 0x31000, [], .all, 0, [⟨31, 1, .ro, false, 0, .any, true⟩, ⟨30, 1, .ro, false, 0, .any, true⟩, ⟨29, 1, .ro, false, 0, .any, true⟩, ⟨28, 1, .ro, false, 0, .any, true⟩, ⟨23, 1, .ro, false, 0, .any, true⟩, ⟨22, 1, .ro, false, 0, .any, true⟩, ⟨21, 1, .ro, false, 0, .any, true⟩, ⟨20, 1, .ro, false, 0, .any, true⟩, ⟨19, 1, .ro, false, 0, .any, true⟩, ⟨0, 3, .ro, false, 0, .any, true⟩]⟩,
  ⟨"PWR_VBAT", 0x31004, [], .all, 0, [⟨0, 16, .ro, false, 0, .any, true⟩]⟩,
  ⟨"PWR_VBAT_CFG", 0x31008, [], .all, 0, [⟨0, 9, .rwl, true, 90, .within [(80, 300)], false⟩]⟩,
  ⟨"PWR_VIO", 0x3100C, [], .all, 0, [⟨0, 16, .ro, false, 0, .any, true⟩]⟩,
  ⟨"PWR_RAILS", 0x31010, [], .all, 0, [⟨16, 16, .ro, false, 0, .any, true⟩, ⟨0, 16, .ro, false, 0, .any, true⟩]⟩,
  ⟨"PWR_SLUG", 0x31014, [], .all, 0, [⟨0, 16, .ro, false, 0, .any, true⟩]⟩,
  ⟨"PWR_RST_CAUSE", 0x31018, [], .all, 0, [⟨16, 2, .ro, false, 0, .any, false⟩, ⟨8, 1, .ro, false, 0, .any, false⟩, ⟨0, 4, .ro, false, 0, .any, false⟩]⟩,
  ⟨"PWR_BOOT_TIME", 0x3101C, [], .all, 0, [⟨0, 16, .ro, false, 0, .any, false⟩]⟩,
  ⟨"PWR_HOURS", 0x31020, [], .all, 0, [⟨0, 32, .ro, false, 0, .any, false⟩]⟩,
  ⟨"PWR_PCYC", 0x31024, [], .all, 0, [⟨0, 32, .ro, false, 0, .any, false⟩]⟩,
  ⟨"PWR_CMD", 0x31028, [], .all, 0, [⟨0, 1, .wo, false, 0, .any, false⟩]⟩,
  ⟨"PWR_PERSIST", 0x3102C, [], .all, 0, [⟨31, 1, .ro, false, 0, .any, false⟩, ⟨8, 1, .ro, false, 0, .any, false⟩, ⟨0, 8, .ro, false, 0, .any, false⟩]⟩,
  ⟨"PWR_CNT", 0x31030, [], .all, 0, [⟨16, 16, .rs, false, 0, .any, false⟩, ⟨0, 16, .rs, false, 0, .any, false⟩]⟩]

def regDefs4a : List RegDef := [
  ⟨"EVT_STATUS", 0x41000, [], .all, 0, [⟨0, 16, .ro, false, 0, .any, false⟩]⟩,
  ⟨"EVT_SUMMARY", 0x41004, [], .all, 0, [⟨0, 32, .ro, false, 0, .any, false⟩]⟩,
  ⟨"EVT_GRP_PEND", 0x41040, [(0x10, 16)], .all, 0, [⟨0, 16, .ro, false, 0, .any, false⟩]⟩,
  ⟨"EVT_GRP_RAW", 0x41044, [(0x10, 16)], .all, 0, [⟨0, 16, .ro, false, 0, .any, false⟩]⟩,
  ⟨"EVT_GRP_CLASS", 0x41048, [(0x10, 16)], .all, 0, [⟨0, 32, .ro, false, 0, .any, false⟩]⟩]

def regDefs5a : List RegDef := [
  ⟨"LANE_READY", 0x50024, [], .all, 0, [⟨0, 16, .ro, false, 0, .any, false⟩]⟩,
  ⟨"LANE_CTRL", 0x51000, [(0x20, 16)], .all, 0, [⟨4, 1, .rwl, true, 0, .any, false⟩, ⟨3, 1, .rwl, true, 0, .any, false⟩, ⟨2, 1, .rwl, true, 0, .any, false⟩, ⟨1, 1, .rwl, true, 0, .any, false⟩, ⟨0, 1, .rwl, true, 0, .any, false⟩]⟩,
  ⟨"LANE_BASE", 0x51004, [(0x20, 16)], .all, 0, [⟨0, 24, .rwl, true, 0, .any, false⟩]⟩,
  ⟨"LANE_SIZE", 0x51008, [(0x20, 16)], .all, 0, [⟨0, 15, .rwl, true, 0, .any, false⟩]⟩,
  ⟨"LANE_HEAD", 0x5100C, [(0x20, 16)], .all, 0, [⟨0, 14, .rw, false, 0, .any, false⟩]⟩,
  ⟨"LANE_TAIL", 0x51010, [(0x20, 16)], .all, 0, [⟨0, 14, .rw, false, 0, .any, false⟩]⟩,
  ⟨"LANE_LEVEL", 0x51014, [(0x20, 16)], .all, 0, [⟨0, 14, .ro, false, 0, .any, false⟩]⟩,
  ⟨"LANE_THRESH", 0x51018, [(0x20, 16)], .all, 0, [⟨0, 14, .rw, true, 1, .any, false⟩]⟩,
  ⟨"LANE_LOST", 0x5101C, [(0x20, 16)], .all, 0, [⟨0, 16, .rs, false, 0, .any, false⟩]⟩]

def regDefs6a : List RegDef := [
  ⟨"CFG_PERSONALITY", 0x61000, [], .all, 0, [⟨8, 1, .ro, false, 0, .any, false⟩, ⟨0, 4, .ro, false, 0, .any, false⟩]⟩,
  ⟨"CFG_FTG_STATE", 0x61004, [], .all, 0, [⟨8, 1, .ro, false, 0, .any, false⟩, ⟨4, 1, .ro, false, 0, .any, false⟩, ⟨1, 1, .ro, false, 0, .any, false⟩, ⟨0, 1, .ro, false, 0, .any, false⟩]⟩,
  ⟨"CFG_FTG_SEQ_A", 0x61008, [], .all, 0, [⟨0, 32, .ro, false, 0, .any, false⟩]⟩,
  ⟨"CFG_FTG_SEQ_B", 0x6100C, [], .all, 0, [⟨0, 32, .ro, false, 0, .any, false⟩]⟩,
  ⟨"CFG_COURSE_REQ", 0x61010, [], .all, 0, [⟨0, 4, .rw, false, 0, .any, false⟩]⟩,
  ⟨"CFG_COURSE_STAT", 0x61014, [], .all, 0, [⟨25, 1, .ro, false, 0, .any, false⟩, ⟨24, 1, .ro, false, 0, .any, false⟩, ⟨16, 4, .ro, false, 0, .any, false⟩, ⟨8, 4, .ro, false, 0, .any, false⟩, ⟨0, 5, .ro, false, 0, .any, false⟩]⟩,
  ⟨"CFG_COURSE_PEND", 0x61018, [], .all, 0, [⟨0, 32, .ro, false, 0, .any, false⟩]⟩,
  ⟨"CFG_COURSE_TMO", 0x6101C, [], .all, 0, [⟨0, 16, .rw, true, 100, .within [(1, 65535)], false⟩]⟩,
  ⟨"CFG_SLOT_VALID", 0x61020, [], .all, 0, [⟨0, 32, .ro, false, 0, .any, false⟩]⟩,
  ⟨"CFG_SLOT_SEALED", 0x61024, [], .all, 0, [⟨0, 32, .ro, false, 0, .any, false⟩]⟩,
  ⟨"CFG_SLOT_RAM", 0x61028, [], .all, 0, [⟨0, 32, .ro, false, 0, .any, false⟩]⟩,
  ⟨"CFG_IMG_CMD", 0x61030, [], .all, 0, [⟨8, 4, .wo, false, 0, .any, false⟩, ⟨0, 4, .wo, false, 0, .within [(1, 4)], false⟩]⟩,
  ⟨"CFG_IMG_OFS", 0x61034, [], .all, 0, [⟨0, 20, .rw, false, 0, .steps 4096 [(0, 1048575)], false⟩]⟩,
  ⟨"CFG_IMG_LEN", 0x61038, [], .all, 0, [⟨0, 16, .rw, false, 0, .steps 4 [(4, 32768)], false⟩]⟩,
  ⟨"CFG_IMG_STAT", 0x6103C, [], .all, 0, [⟨31, 1, .ro, false, 0, .any, false⟩, ⟨0, 8, .ro, false, 0, .any, false⟩]⟩,
  ⟨"CFG_BULK_ERR", 0x61040, [], .all, 0, [⟨24, 8, .ro, false, 0, .any, false⟩, ⟨16, 8, .ro, false, 0, .any, false⟩, ⟨0, 16, .ro, false, 0, .any, false⟩]⟩,
  ⟨"CFG_BULK_CNT", 0x61044, [], .all, 0, [⟨16, 16, .rs, false, 0, .any, false⟩, ⟨0, 16, .rs, false, 0, .any, false⟩]⟩,
  ⟨"CFG_WIN", 0x68000, [(4, 8192)], .all, 0, [⟨0, 32, .rw, false, 0, .any, false⟩]⟩]

def regDefs7a : List RegDef := [
  ⟨"GNSS_SUMMARY", 0x70024, [], .all, 0, [⟨16, 8, .ro, false, 0, .any, true⟩, ⟨8, 8, .ro, false, 0, .any, true⟩, ⟨0, 4, .ro, false, 0, .any, true⟩]⟩,
  ⟨"GNSS_FE_CTRL", 0x71000, [], .all, 0, [⟨8, 4, .rwl, true, 0, .any, false⟩, ⟨1, 1, .rwl, true, 0, .any, false⟩, ⟨0, 1, .rwl, true, 0, .any, false⟩]⟩,
  ⟨"GNSS_FE_STAT", 0x71004, [], .all, 0, [⟨16, 1, .ro, false, 0, .any, true⟩, ⟨12, 2, .ro, false, 0, .any, true⟩, ⟨8, 2, .ro, false, 0, .any, true⟩, ⟨0, 1, .ro, false, 0, .any, true⟩]⟩,
  ⟨"GNSS_ANT_THR", 0x71008, [], .all, 0, [⟨16, 8, .rwl, true, 100, .within [(10, 120)], false⟩, ⟨0, 8, .rwl, true, 5, .within [(1, 50)], false⟩]⟩,
  ⟨"GNSS_ANT_CUR", 0x7100C, [], .all, 0, [⟨16, 16, .ro, false, 0, .any, true⟩, ⟨0, 16, .ro, false, 0, .any, true⟩]⟩,
  ⟨"GNSS_VANT", 0x71010, [], .all, 0, [⟨0, 16, .ro, false, 0, .any, true⟩]⟩,
  ⟨"GNSS_AGC_CTRL", 0x71014, [], .all, 0, [⟨16, 4, .rwl, true, 0, .any, false⟩, ⟨0, 8, .rwl, true, 24, .within [(2, 80)], false⟩]⟩,
  ⟨"GNSS_AGC_GAIN_A", 0x71018, [], .all, 0, [⟨16, 8, .ro, false, 0, .any, true⟩, ⟨0, 8, .ro, false, 0, .any, true⟩]⟩,
  ⟨"GNSS_AGC_GAIN_B", 0x7101C, [], .all, 0, [⟨16, 8, .ro, false, 0, .any, true⟩, ⟨0, 8, .ro, false, 0, .any, true⟩]⟩,
  ⟨"GNSS_AGC_REF_A", 0x71020, [], .all, 0, [⟨16, 8, .ro, false, 0, .any, false⟩, ⟨0, 8, .ro, false, 0, .any, false⟩]⟩,
  ⟨"GNSS_AGC_REF_B", 0x71024, [], .all, 0, [⟨16, 8, .ro, false, 0, .any, false⟩, ⟨0, 8, .ro, false, 0, .any, false⟩]⟩,
  ⟨"GNSS_ACQ_CTRL", 0x71028, [], .all, 0, [⟨24, 8, .rwl, true, 30, .any, false⟩, ⟨16, 8, .rwl, true, 24, .any, false⟩, ⟨8, 8, .rwl, true, 5, .within [(1, 50)], false⟩]⟩,
  ⟨"GNSS_ACQ_WIN", 0x7102C, [], .all, 0, [⟨0, 16, .rwl, true, 6000, .within [(500, 10000)], false⟩]⟩,
  ⟨"GNSS_RECOVER", 0x71030, [], .all, 0, [⟨0, 16, .rwl, true, 1000, .within [(100, 10000)], false⟩]⟩,
  ⟨"GNSS_SIGMASK", 0x71034, [], .all, 0, [⟨1, 9, .rwl, true, 0, .any, false⟩]⟩,
  ⟨"GNSS_CNT_LOL", 0x71038, [], .all, 0, [⟨0, 16, .rs, false, 0, .any, false⟩]⟩,
  ⟨"GNSS_DISC", 0x7103C, [], .all, 0, [⟨0, 16, .rs, false, 0, .any, false⟩]⟩,
  ⟨"GNSS_CH_CTRL", 0x72000, [(0x40, 192)], .gnssCh, 0, [⟨0, 2, .rw, true, 0, .any, false⟩]⟩,
  ⟨"GNSS_CH_SIG", 0x72004, [(0x40, 192)], .gnssCh, 0, [⟨8, 8, .rw, false, 0, .within [(1, 9)], false⟩, ⟨0, 8, .rw, false, 0, .any, false⟩]⟩,
  ⟨"GNSS_CH_AID", 0x72008, [(0x40, 192)], .gnssCh, 0, [⟨16, 16, .rw, false, 0, .any, false⟩, ⟨0, 16, .rw, false, 0, .any, false⟩]⟩,
  ⟨"GNSS_CH_LOOP", 0x7200C, [(0x40, 192)], .gnssCh, 0, [⟨24, 8, .rw, true, 60, .within [(8, 120)], false⟩, ⟨16, 8, .rw, true, 20, .within [(4, 40)], false⟩, ⟨8, 8, .rw, true, 50, .within [(5, 200)], false⟩, ⟨0, 3, .rw, true, 0, .within [(0, 4)], false⟩]⟩,
  ⟨"GNSS_CH_SPC", 0x72010, [(0x40, 192)], .gnssCh, 0, [⟨8, 8, .rw, true, 0, .within [(4, 64)], false⟩, ⟨0, 8, .rw, true, 16, .within [(4, 64)], false⟩]⟩,
  ⟨"GNSS_CH_STATE", 0x72014, [(0x40, 192)], .gnssCh, 0, [⟨4, 4, .ro, false, 0, .any, true⟩, ⟨0, 3, .ro, false, 0, .any, true⟩]⟩,
  ⟨"GNSS_CH_CUR", 0x72018, [(0x40, 192)], .gnssCh, 0, [⟨24, 1, .ro, false, 0, .any, false⟩, ⟨8, 8, .ro, false, 0, .any, false⟩, ⟨0, 8, .ro, false, 0, .any, false⟩]⟩]

def regDefs7b : List RegDef := [
  ⟨"GNSS_CH_CN0", 0x7201C, [(0x40, 192)], .gnssCh, 0, [⟨0, 16, .ro, false, 0, .any, true⟩]⟩,
  ⟨"GNSS_CH_DOPP", 0x72020, [(0x40, 192)], .gnssCh, 0, [⟨0, 32, .ro, false, 0, .any, true⟩]⟩,
  ⟨"GNSS_CH_SPC_ACT", 0x72024, [(0x40, 192)], .gnssCh, 0, [⟨0, 8, .ro, false, 0, .any, false⟩]⟩,
  ⟨"GNSS_CH_LOCKT", 0x72028, [(0x40, 192)], .gnssCh, 0, [⟨0, 32, .ro, false, 0, .any, true⟩]⟩,
  ⟨"GNSS_CH_LLI", 0x7202C, [(0x40, 192)], .gnssCh, 0, [⟨16, 16, .ro, false, 0, .any, true⟩, ⟨0, 16, .ro, false, 0, .any, true⟩]⟩,
  ⟨"GNSS_CH_CARR_NCO", 0x72030, [(0x40, 192)], .gnssCh, 0, [⟨0, 32, .rw, false, 0, .any, false⟩]⟩,
  ⟨"GNSS_CH_CODE_NCO", 0x72034, [(0x40, 192)], .gnssCh, 0, [⟨0, 32, .rw, false, 0, .any, false⟩]⟩,
  ⟨"GNSS_CH_CORR", 0x72038, [(0x40, 192)], .gnssCh, 0, [⟨16, 16, .ro, false, 0, .any, true⟩, ⟨0, 16, .ro, false, 0, .any, true⟩]⟩,
  ⟨"GNSS_SNAP_CTRL", 0x75000, [], .all, 0, [⟨16, 4, .rw, false, 0, .any, false⟩, ⟨8, 2, .rw, false, 0, .within [(0, 2)], false⟩, ⟨4, 1, .rw, false, 0, .any, false⟩, ⟨0, 1, .wo, false, 0, .any, false⟩]⟩,
  ⟨"GNSS_SNAP_LEN", 0x75004, [], .all, 0, [⟨0, 16, .rw, false, 0, .within [(1, 16384)], false⟩]⟩,
  ⟨"GNSS_SNAP_WIN", 0x75008, [], .all, 0, [⟨0, 16, .rwl, true, 0, .within [(0, 16384)], false⟩]⟩,
  ⟨"GNSS_SNAP_AVAIL", 0x7500C, [], .all, 0, [⟨0, 16, .ro, false, 0, .any, false⟩]⟩,
  ⟨"GNSS_SNAP_TAG_LO", 0x75010, [], .all, 0, [⟨0, 32, .rw, false, 0, .any, false⟩]⟩,
  ⟨"GNSS_SNAP_TAG_HI", 0x75014, [], .all, 0, [⟨0, 32, .rw, false, 0, .any, false⟩]⟩,
  ⟨"GNSS_SNAP_T0_LO", 0x75018, [], .all, 0, [⟨0, 32, .ro, false, 0, .any, false⟩]⟩,
  ⟨"GNSS_SNAP_T0_HI", 0x7501C, [], .all, 0, [⟨0, 32, .ro, false, 0, .any, false⟩]⟩,
  ⟨"GNSS_SNAP_SUB", 0x75020, [], .all, 0, [⟨0, 16, .ro, false, 0, .any, false⟩]⟩,
  ⟨"GNSS_SNAP_STAT", 0x75024, [], .all, 0, [⟨31, 1, .ro, false, 0, .any, false⟩, ⟨30, 1, .ro, false, 0, .any, false⟩, ⟨24, 2, .ro, false, 0, .any, false⟩, ⟨0, 16, .ro, false, 0, .any, false⟩]⟩,
  ⟨"GNSS_SNAP_CMD", 0x75028, [], .all, 0, [⟨0, 4, .wo, false, 0, .within [(1, 3)], false⟩]⟩,
  ⟨"GNSS_SNAP_DRN_OFS", 0x7502C, [], .all, 0, [⟨0, 16, .rw, false, 0, .any, false⟩]⟩,
  ⟨"GNSS_SNAP_DRN_LEN", 0x75030, [], .all, 0, [⟨0, 16, .rw, false, 0, .within [(1, 16384)], false⟩]⟩,
  ⟨"GNSS_SNAP_PROC", 0x75034, [], .all, 0, [⟨16, 2, .rw, false, 0, .any, false⟩, ⟨1, 9, .rw, false, 0, .any, false⟩]⟩,
  ⟨"GNSS_SNAP_PSTAT", 0x75038, [], .all, 0, [⟨0, 8, .ro, false, 0, .any, false⟩]⟩,
  ⟨"GNSS_RES", 0x76000, [(0x10, 64), (4, 4)], .all, 0, [⟨0, 32, .ro, false, 0, .any, false⟩]⟩]

def regDefs8a : List RegDef := [
  ⟨"NAV_SUMMARY", 0x80024, [], .all, 0, [⟨16, 3, .ro, false, 0, .any, true⟩, ⟨12, 3, .ro, false, 0, .any, true⟩, ⟨0, 3, .ro, false, 0, .any, true⟩]⟩,
  ⟨"NAV_CTRL", 0x81000, [], .all, 0, [⟨16, 3, .rwl, true, 3, .within [(0, 4)], false⟩, ⟨8, 1, .rwl, true, 0, .any, false⟩, ⟨4, 1, .rwl, true, 0, .any, false⟩, ⟨1, 1, .rwl, true, 0, .any, false⟩, ⟨0, 1, .rwl, true, 0, .any, false⟩]⟩,
  ⟨"NAV_QMIN", 0x81004, [], .all, 0, [⟨0, 3, .rwl, true, 5, .within [(2, 5)], false⟩]⟩,
  ⟨"NAV_MASK", 0x81008, [], .all, 0, [⟨8, 8, .rwl, true, 10, .within [(0, 30)], false⟩, ⟨0, 8, .rwl, true, 28, .within [(20, 45)], false⟩]⟩,
  ⟨"NAV_AGE_MAX", 0x8100C, [], .all, 0, [⟨0, 16, .rwl, true, 100, .within [(10, 600)], false⟩]⟩,
  ⟨"NAV_RTK_CFG", 0x81010, [], .all, 0, [⟨8, 8, .rwl, true, 30, .within [(15, 100)], false⟩, ⟨0, 8, .rwl, true, 5, .within [(4, 12)], false⟩]⟩,
  ⟨"NAV_BASELINE", 0x81014, [], .all, 0, [⟨16, 16, .rwl, true, 50, .within [(5, 500)], false⟩, ⟨0, 16, .rwl, true, 0, .within [(300, 50000)], false⟩]⟩,
  ⟨"NAV_HDG_OFS", 0x81018, [], .all, 0, [⟨0, 16, .rwl, true, 0, .signed [(-18000, 18000)], false⟩]⟩,
  ⟨"NAV_POSE_CFG", 0x8101C, [], .all, 0, [⟨16, 16, .rwl, true, 200, .within [(10, 5000)], false⟩, ⟨0, 16, .rwl, true, 50, .within [(0, 1000)], false⟩]⟩,
  ⟨"NAV_HO_CFG", 0x81020, [], .all, 0, [⟨16, 16, .rwl, true, 10, .within [(1, 65535)], false⟩, ⟨0, 16, .rwl, true, 1000, .within [(100, 10000)], false⟩]⟩,
  ⟨"NAV_RTCM_USED", 0x81024, [], .all, 0, [⟨0, 16, .rs, false, 0, .any, false⟩]⟩,
  ⟨"NAV_RTCM_IGN", 0x81028, [], .all, 0, [⟨0, 16, .rs, false, 0, .any, false⟩]⟩,
  ⟨"NAV_RTCM_ERR", 0x8102C, [], .all, 0, [⟨0, 16, .rs, false, 0, .any, false⟩]⟩,
  ⟨"NAV_DISC", 0x81030, [], .all, 0, [⟨0, 16, .rs, false, 0, .any, false⟩]⟩,
  ⟨"NAV_POSE_T_LO", 0x82000, [], .all, 0, [⟨0, 32, .ro, false, 0, .any, true⟩]⟩,
  ⟨"NAV_POSE_T_HI", 0x82004, [], .all, 0, [⟨0, 32, .ro, false, 0, .any, true⟩]⟩,
  ⟨"NAV_POSE_LAT_LO", 0x82008, [], .all, 0, [⟨0, 32, .ro, false, 0, .any, true⟩]⟩,
  ⟨"NAV_POSE_LAT_HI", 0x8200C, [], .all, 0, [⟨0, 32, .ro, false, 0, .any, true⟩]⟩,
  ⟨"NAV_POSE_LON_LO", 0x82010, [], .all, 0, [⟨0, 32, .ro, false, 0, .any, true⟩]⟩,
  ⟨"NAV_POSE_LON_HI", 0x82014, [], .all, 0, [⟨0, 32, .ro, false, 0, .any, true⟩]⟩,
  ⟨"NAV_POSE_HGT", 0x82018, [], .all, 0, [⟨0, 32, .ro, false, 0, .any, true⟩]⟩,
  ⟨"NAV_POSE_HDG", 0x8201C, [], .all, 0, [⟨16, 16, .ro, false, 0, .any, true⟩, ⟨0, 16, .ro, false, 0, .any, true⟩]⟩,
  ⟨"NAV_POSE_ROLL", 0x82020, [], .all, 0, [⟨0, 16, .ro, false, 0, .any, true⟩]⟩,
  ⟨"NAV_POSE_SPD", 0x82024, [], .all, 0, [⟨16, 16, .ro, false, 0, .any, true⟩, ⟨0, 16, .ro, false, 0, .any, true⟩]⟩]

def regDefs8b : List RegDef := [
  ⟨"NAV_POSE_Q", 0x82028, [], .all, 0, [⟨16, 16, .ro, false, 0, .any, true⟩, ⟨12, 3, .ro, false, 0, .any, true⟩, ⟨11, 1, .ro, false, 0, .any, true⟩, ⟨10, 1, .ro, false, 0, .any, true⟩, ⟨4, 3, .ro, false, 0, .any, true⟩, ⟨0, 3, .ro, false, 0, .any, true⟩]⟩,
  ⟨"NAV_POSE_UNC", 0x8202C, [], .all, 0, [⟨16, 16, .ro, false, 0, .any, true⟩, ⟨0, 16, .ro, false, 0, .any, true⟩]⟩,
  ⟨"NAV_SOL_T_LO", 0x82030, [], .all, 0, [⟨0, 32, .ro, false, 0, .any, true⟩]⟩,
  ⟨"NAV_SOL_T_HI", 0x82034, [], .all, 0, [⟨0, 32, .ro, false, 0, .any, true⟩]⟩,
  ⟨"NAV_SOL_INFO", 0x82038, [], .all, 0, [⟨24, 8, .ro, false, 0, .any, true⟩, ⟨0, 3, .ro, false, 0, .any, true⟩]⟩,
  ⟨"NAV_TIME_STAT", 0x83000, [], .all, 0, [⟨8, 1, .ro, false, 0, .any, false⟩, ⟨4, 1, .ro, false, 0, .any, false⟩, ⟨0, 3, .ro, false, 0, .any, false⟩]⟩,
  ⟨"NAV_TIME_STEP", 0x83004, [], .all, 0, [⟨31, 1, .rs, false, 0, .any, false⟩, ⟨0, 31, .rs, false, 0, .any, false⟩]⟩,
  ⟨"NAV_TIME_ERR", 0x83008, [], .all, 0, [⟨0, 32, .ro, false, 0, .any, false⟩]⟩,
  ⟨"NAV_TIME_UNC", 0x8300C, [], .all, 0, [⟨0, 32, .ro, false, 0, .any, false⟩]⟩,
  ⟨"NAV_TIME_FREQ", 0x83010, [], .all, 0, [⟨0, 32, .ro, false, 0, .any, false⟩]⟩,
  ⟨"NAV_TIME_LEAP", 0x83014, [], .all, 0, [⟨8, 1, .ro, false, 0, .any, false⟩, ⟨0, 8, .ro, false, 0, .any, false⟩]⟩,
  ⟨"NAV_TP_CFG", 0x83040, [(0x20, 2)], .all, 0, [⟨30, 2, .rwl, true, 0, .within [(0, 2)], false⟩, ⟨28, 1, .rwl, true, 0, .any, false⟩, ⟨0, 16, .rwl, true, 1000, .within [(1, 10000)], false⟩]⟩,
  ⟨"NAV_TP_WIDTH", 0x83044, [(0x20, 2)], .all, 0, [⟨0, 24, .rwl, true, 0, .any, false⟩]⟩,
  ⟨"NAV_TP_OFS", 0x83048, [(0x20, 2)], .all, 0, [⟨0, 32, .rwl, true, 0, .any, false⟩]⟩,
  ⟨"NAV_TP_LAST_LO", 0x83050, [(0x20, 2)], .all, 0, [⟨0, 32, .ro, false, 0, .any, false⟩]⟩,
  ⟨"NAV_TP_LAST_HI", 0x83054, [(0x20, 2)], .all, 0, [⟨0, 32, .ro, false, 0, .any, false⟩]⟩,
  ⟨"NAV_TP_LAST_Q", 0x83058, [(0x20, 2)], .all, 0, [⟨16, 3, .ro, false, 0, .any, false⟩, ⟨0, 16, .ro, false, 0, .any, false⟩]⟩,
  ⟨"NAV_BASE_ID", 0x84000, [], .all, 0, [⟨16, 1, .ro, false, 0, .any, false⟩, ⟨0, 12, .ro, false, 0, .any, false⟩]⟩,
  ⟨"NAV_BASE_X_LO", 0x84008, [], .all, 0, [⟨0, 32, .ro, false, 0, .any, false⟩]⟩,
  ⟨"NAV_BASE_X_HI", 0x8400C, [], .all, 0, [⟨0, 32, .ro, false, 0, .any, false⟩]⟩,
  ⟨"NAV_BASE_Y_LO", 0x84010, [], .all, 0, [⟨0, 32, .ro, false, 0, .any, false⟩]⟩,
  ⟨"NAV_BASE_Y_HI", 0x84014, [], .all, 0, [⟨0, 32, .ro, false, 0, .any, false⟩]⟩,
  ⟨"NAV_BASE_Z_LO", 0x84018, [], .all, 0, [⟨0, 32, .ro, false, 0, .any, false⟩]⟩,
  ⟨"NAV_BASE_Z_HI", 0x8401C, [], .all, 0, [⟨0, 32, .ro, false, 0, .any, false⟩]⟩]

def regDefs8c : List RegDef := [
  ⟨"NAV_RTK_STAT", 0x84020, [], .all, 0, [⟨24, 8, .ro, false, 0, .any, false⟩, ⟨16, 8, .ro, false, 0, .any, false⟩, ⟨0, 16, .ro, false, 0, .any, false⟩]⟩,
  ⟨"NAV_HDG_BL", 0x84024, [], .all, 0, [⟨16, 16, .ro, false, 0, .any, false⟩, ⟨0, 16, .ro, false, 0, .any, false⟩]⟩,
  ⟨"NAV_IMU_SPI", 0x85000, [], .all, 0, [⟨16, 8, .rwl, true, 0, .within [(4, 99)], false⟩, ⟨8, 2, .rwl, true, 0, .any, false⟩, ⟨4, 1, .rwl, true, 0, .any, false⟩]⟩,
  ⟨"NAV_IMU_FMT", 0x85004, [], .all, 0, [⟨24, 4, .rwl, true, 0, .within [(0, 4)], false⟩, ⟨16, 4, .rwl, true, 0, .within [(6, 8)], false⟩, ⟨8, 1, .rwl, true, 0, .any, false⟩]⟩,
  ⟨"NAV_IMU_RATE", 0x85008, [], .all, 0, [⟨0, 16, .rwl, true, 0, .within [(200, 2000)], false⟩]⟩,
  ⟨"NAV_IMU_CMD", 0x8500C, [], .all, 0, [⟨0, 32, .rwl, true, 0, .any, false⟩]⟩,
  ⟨"NAV_IMU_MAP", 0x85010, [], .all, 0, [⟨0, 24, .rwl, true, 0, .any, false⟩]⟩,
  ⟨"NAV_IMU_GSCL", 0x85014, [], .all, 0, [⟨0, 32, .rwl, true, 0, .any, false⟩]⟩,
  ⟨"NAV_IMU_ASCL", 0x85018, [], .all, 0, [⟨0, 32, .rwl, true, 0, .any, false⟩]⟩,
  ⟨"NAV_IMU_STAT", 0x8501C, [], .all, 0, [⟨0, 1, .ro, false, 0, .any, false⟩]⟩,
  ⟨"NAV_IMU_BAD", 0x85020, [], .all, 0, [⟨0, 16, .rs, false, 0, .any, false⟩]⟩]

def regDefs9a : List RegDef := [
  ⟨"FBK_SUMMARY", 0x90024, [], .all, 0, [⟨16, 16, .ro, false, 0, .any, true⟩, ⟨8, 1, .ro, false, 0, .any, true⟩, ⟨0, 8, .ro, false, 0, .any, true⟩]⟩,
  ⟨"FBK_DISC", 0x90028, [], .all, 0, [⟨0, 16, .rs, false, 0, .any, false⟩]⟩,
  ⟨"FBK_ENC_CFG", 0x91000, [(0x40, 8)], .all, 0, [⟨16, 8, .rwl, true, 10, .within [(1, 255)], false⟩, ⟨12, 1, .rwl, true, 0, .any, false⟩, ⟨11, 1, .rwl, true, 0, .any, false⟩, ⟨9, 2, .rwl, true, 0, .within [(0, 2)], false⟩, ⟨0, 3, .rwl, true, 0, .within [(0, 5)], false⟩]⟩,
  ⟨"FBK_ENC_FILT", 0x91004, [(0x40, 8)], .all, 0, [⟨0, 16, .rwl, true, 10, .any, false⟩]⟩,
  ⟨"FBK_ENC_SCALE", 0x91008, [(0x40, 8)], .all, 0, [⟨0, 32, .rwl, true, 0, .any, false⟩]⟩,
  ⟨"FBK_ENC_WIN", 0x9100C, [(0x40, 8)], .all, 0, [⟨16, 16, .rwl, true, 500, .within [(10, 10000)], false⟩, ⟨0, 16, .rwl, true, 100, .within [(1, 1000)], false⟩]⟩,
  ⟨"FBK_ENC_POS", 0x91010, [(0x40, 8)], .all, 0, [⟨0, 32, .rw, false, 0, .any, true⟩]⟩,
  ⟨"FBK_ENC_LIM_LO", 0x91014, [(0x40, 8)], .all, 0, [⟨0, 32, .rwl, true, 0, .any, false⟩]⟩,
  ⟨"FBK_ENC_LIM_HI", 0x91018, [(0x40, 8)], .all, 0, [⟨0, 32, .rwl, true, 0, .any, false⟩]⟩,
  ⟨"FBK_ENC_ZCFG", 0x9101C, [(0x40, 8)], .all, 0, [⟨4, 1, .wo, false, 0, .any, false⟩, ⟨0, 2, .rw, true, 0, .any, false⟩]⟩,
  ⟨"FBK_ENC_ZVAL", 0x91020, [(0x40, 8)], .all, 0, [⟨0, 32, .rw, true, 0, .any, false⟩]⟩,
  ⟨"FBK_ENC_ZLAT", 0x91024, [(0x40, 8)], .all, 0, [⟨0, 32, .ro, false, 0, .any, false⟩]⟩,
  ⟨"FBK_ENC_SPD", 0x91028, [(0x40, 8)], .all, 0, [⟨0, 32, .ro, false, 0, .any, true⟩]⟩,
  ⟨"FBK_ENC_SPD_T_LO", 0x9102C, [(0x40, 8)], .all, 0, [⟨0, 32, .ro, false, 0, .any, true⟩]⟩,
  ⟨"FBK_ENC_SPD_T_HI", 0x91030, [(0x40, 8)], .all, 0, [⟨0, 32, .ro, false, 0, .any, true⟩]⟩,
  ⟨"FBK_ENC_STAT", 0x91034, [(0x40, 8)], .all, 0, [⟨8, 3, .ro, false, 0, .any, true⟩, ⟨5, 1, .ro, false, 0, .any, true⟩, ⟨4, 1, .ro, false, 0, .any, true⟩, ⟨0, 2, .ro, false, 0, .any, true⟩]⟩,
  ⟨"FBK_ENC_QERR", 0x91038, [(0x40, 8)], .all, 0, [⟨0, 16, .rs, false, 0, .any, false⟩]⟩,
  ⟨"FBK_CMP_POS", 0x92000, [(0x100, 8), (0x10, 16)], .all, 0, [⟨0, 32, .rw, false, 0, .any, false⟩]⟩,
  ⟨"FBK_CMP_CTRL", 0x92004, [(0x100, 8), (0x10, 16)], .all, 0, [⟨9, 1, .w1c, false, 0, .any, false⟩, ⟨8, 1, .ro, false, 0, .any, false⟩, ⟨5, 1, .rw, false, 0, .any, false⟩, ⟨4, 1, .rw, false, 0, .any, false⟩, ⟨2, 2, .rw, false, 0, .within [(1, 3)], false⟩, ⟨0, 1, .rw, false, 0, .any, false⟩]⟩,
  ⟨"FBK_CMP_T_LO", 0x92008, [(0x100, 8), (0x10, 16)], .all, 0, [⟨0, 32, .ro, false, 0, .any, false⟩]⟩,
  ⟨"FBK_CMP_T_HI", 0x9200C, [(0x100, 8), (0x10, 16)], .all, 0, [⟨0, 32, .ro, false, 0, .any, false⟩]⟩,
  ⟨"FBK_SSI_CFG", 0x93000, [(0x20, 2)], .all, 0, [⟨24, 6, .rwl, true, 0, .within [(0, 32)], false⟩, ⟨16, 6, .rwl, true, 0, .within [(8, 32)], false⟩, ⟨8, 4, .rwl, true, 3, .within [(1, 15)], false⟩, ⟨3, 1, .rwl, true, 0, .any, false⟩, ⟨2, 1, .rwl, true, 0, .any, false⟩, ⟨0, 1, .rwl, true, 0, .any, false⟩]⟩,
  ⟨"FBK_SSI_TIM", 0x93004, [(0x20, 2)], .all, 0, [⟨20, 12, .rwl, true, 0, .within [(1, 2000)], false⟩, ⟨12, 8, .rwl, true, 20, .within [(10, 100)], false⟩, ⟨0, 9, .rwl, true, 0, .within [(24, 499)], false⟩]⟩,
  ⟨"FBK_SSI_POS", 0x93008, [(0x20, 2)], .all, 0, [⟨0, 32, .ro, false, 0, .any, true⟩]⟩]

def regDefs9b : List RegDef := [
  ⟨"FBK_SSI_T_LO", 0x9300C, [(0x20, 2)], .all, 0, [⟨0, 32, .ro, false, 0, .any, true⟩]⟩,
  ⟨"FBK_SSI_T_HI", 0x93010, [(0x20, 2)], .all, 0, [⟨0, 32, .ro, false, 0, .any, true⟩]⟩,
  ⟨"FBK_SSI_STAT", 0x93014, [(0x20, 2)], .all, 0, [⟨2, 1, .ro, false, 0, .any, false⟩, ⟨0, 2, .ro, false, 0, .any, false⟩]⟩,
  ⟨"FBK_SSI_ERRCNT", 0x93018, [(0x20, 2)], .all, 0, [⟨0, 16, .rs, false, 0, .any, false⟩]⟩,
  ⟨"FBK_EMU_CFG", 0x93100, [(0x20, 2)], .all, 0, [⟨16, 8, .rwl, true, 0, .any, false⟩, ⟨8, 3, .rwl, true, 0, .any, false⟩, ⟨4, 2, .rwl, true, 0, .within [(0, 2)], false⟩, ⟨1, 1, .rwl, true, 0, .any, false⟩, ⟨0, 1, .rwl, true, 0, .any, false⟩]⟩,
  ⟨"FBK_EMU_K", 0x93104, [(0x20, 2)], .all, 0, [⟨0, 32, .rwl, true, 0, .any, false⟩]⟩,
  ⟨"FBK_EMU_FIX", 0x93108, [(0x20, 2)], .all, 0, [⟨0, 32, .rw, true, 0, .any, false⟩]⟩,
  ⟨"FBK_EMU_STAT", 0x9310C, [(0x20, 2)], .all, 0, [⟨16, 1, .ro, false, 0, .any, false⟩, ⟨0, 16, .ro, false, 0, .any, false⟩]⟩,
  ⟨"FBK_AIN_CFG", 0x94000, [(0x20, 16)], .all, 0, [⟨16, 8, .rwl, true, 30, .any, false⟩, ⟨8, 4, .rwl, true, 0, .any, false⟩, ⟨0, 2, .rwl, true, 0, .any, false⟩]⟩,
  ⟨"FBK_AIN_GAIN", 0x94004, [(0x20, 16)], .all, 0, [⟨0, 32, .rwl, true, 0, .any, false⟩]⟩,
  ⟨"FBK_AIN_OFS", 0x94008, [(0x20, 16)], .all, 0, [⟨0, 32, .rwl, true, 0, .any, false⟩]⟩,
  ⟨"FBK_AIN_LIM_LO", 0x9400C, [(0x20, 16)], .all, 0, [⟨0, 32, .rwl, true, 0, .any, false⟩]⟩,
  ⟨"FBK_AIN_LIM_HI", 0x94010, [(0x20, 16)], .all, 0, [⟨0, 32, .rwl, true, 0, .any, false⟩]⟩,
  ⟨"FBK_AIN_VAL", 0x94014, [(0x20, 16)], .all, 0, [⟨0, 32, .ro, false, 0, .any, true⟩]⟩,
  ⟨"FBK_AIN_RAW", 0x94018, [(0x20, 16)], .all, 0, [⟨0, 16, .ro, false, 0, .any, true⟩]⟩,
  ⟨"FBK_AIN_STAT", 0x9401C, [(0x20, 16)], .all, 0, [⟨2, 1, .ro, false, 0, .any, false⟩, ⟨1, 1, .ro, false, 0, .any, false⟩, ⟨0, 1, .ro, false, 0, .any, false⟩]⟩,
  ⟨"FBK_FUS_CTRL", 0x95000, [], .all, 0, [⟨16, 16, .rwl, true, 100, .within [(0, 1000)], false⟩, ⟨0, 1, .rwl, true, 0, .any, false⟩]⟩,
  ⟨"FBK_FUS_DIS", 0x95004, [], .all, 0, [⟨16, 16, .rwl, true, 2000, .within [(100, 60000)], false⟩, ⟨0, 16, .rwl, true, 300, .any, false⟩]⟩,
  ⟨"FBK_FUS_REL", 0x95008, [], .all, 0, [⟨0, 8, .rwl, true, 10, .within [(0, 50)], false⟩]⟩,
  ⟨"FBK_FUS_OUT", 0x9500C, [], .all, 0, [⟨0, 16, .ro, false, 0, .any, true⟩]⟩,
  ⟨"FBK_FUS_STAT", 0x95010, [], .all, 0, [⟨16, 6, .ro, false, 0, .any, true⟩, ⟨8, 6, .ro, false, 0, .any, true⟩, ⟨2, 1, .ro, false, 0, .any, true⟩, ⟨1, 1, .ro, false, 0, .any, true⟩, ⟨0, 1, .ro, false, 0, .any, true⟩]⟩,
  ⟨"FBK_FUS_SWITCH", 0x95014, [], .all, 0, [⟨0, 16, .rs, false, 0, .any, false⟩]⟩,
  ⟨"FBK_FUS_SRC_CFG", 0x95040, [(0x10, 6)], .all, 0, [⟨24, 8, .rwl, true, 0, .any, false⟩, ⟨16, 3, .rwl, true, 2, .within [(2, 5)], false⟩, ⟨12, 3, .rwl, true, 0, .any, false⟩, ⟨8, 3, .rwl, true, 0, .within [(0, 4)], false⟩, ⟨0, 1, .rwl, true, 0, .any, false⟩]⟩,
  ⟨"FBK_FUS_SRC_AGE", 0x95044, [(0x10, 6)], .all, 0, [⟨0, 16, .rwl, true, 200, .within [(10, 5000)], false⟩]⟩]

def regDefs9c : List RegDef := [
  ⟨"FBK_FUS_SRC_VAL", 0x95048, [(0x10, 6)], .all, 0, [⟨16, 1, .ro, false, 0, .any, true⟩, ⟨0, 16, .ro, false, 0, .any, true⟩]⟩]

def regDefs10a : List RegDef := [
  ⟨"GEO_SUMMARY", 0xA0024, [], .all, 0, [⟨16, 14, .ro, false, 0, .any, true⟩, ⟨8, 8, .ro, false, 0, .any, true⟩, ⟨0, 8, .ro, false, 0, .any, true⟩]⟩,
  ⟨"GEO_MAP_CFG", 0xA1000, [], .all, 0, [⟨16, 16, .rwl, true, 0, .within [(1, 10240)], false⟩, ⟨4, 2, .rwl, true, 0, .any, false⟩, ⟨0, 2, .rwl, true, 0, .any, false⟩]⟩,
  ⟨"GEO_MAP_ORG_LAT_LO", 0xA1004, [], .all, 0, [⟨0, 32, .rwl, true, 0, .any, false⟩]⟩,
  ⟨"GEO_MAP_ORG_LAT_HI", 0xA1008, [], .all, 0, [⟨0, 32, .rwl, true, 0, .any, false⟩]⟩,
  ⟨"GEO_MAP_ORG_LON_LO", 0xA100C, [], .all, 0, [⟨0, 32, .rwl, true, 0, .any, false⟩]⟩,
  ⟨"GEO_MAP_ORG_LON_HI", 0xA1010, [], .all, 0, [⟨0, 32, .rwl, true, 0, .any, false⟩]⟩,
  ⟨"GEO_MAP_EXT_X", 0xA1014, [], .all, 0, [⟨16, 16, .rwl, true, 0, .any, false⟩, ⟨0, 16, .rwl, true, 0, .any, false⟩]⟩,
  ⟨"GEO_MAP_EXT_Y", 0xA1018, [], .all, 0, [⟨16, 16, .rwl, true, 0, .any, false⟩, ⟨0, 16, .rwl, true, 0, .any, false⟩]⟩,
  ⟨"GEO_MAP_PREF", 0xA101C, [], .all, 0, [⟨16, 16, .rwl, true, 1000, .within [(100, 10000)], false⟩, ⟨0, 16, .rwl, true, 50, .within [(10, 500)], false⟩]⟩,
  ⟨"GEO_MAP_CMD", 0xA1020, [], .all, 0, [⟨0, 4, .wo, false, 0, .within [(1, 3)], false⟩]⟩,
  ⟨"GEO_MAP_STAT", 0xA1024, [], .all, 0, [⟨31, 1, .ro, false, 0, .any, false⟩, ⟨30, 1, .ro, false, 0, .any, false⟩, ⟨29, 1, .ro, false, 0, .any, false⟩, ⟨0, 14, .ro, false, 0, .any, false⟩]⟩,
  ⟨"GEO_DIR_SEL", 0xA1028, [], .all, 0, [⟨0, 14, .rw, false, 0, .any, false⟩]⟩,
  ⟨"GEO_DIR_TILE", 0xA102C, [], .all, 0, [⟨16, 16, .ro, false, 0, .any, false⟩, ⟨0, 16, .ro, false, 0, .any, false⟩]⟩,
  ⟨"GEO_DIR_STAT", 0xA1030, [], .all, 0, [⟨30, 2, .ro, false, 0, .any, false⟩, ⟨29, 1, .ro, false, 0, .any, false⟩, ⟨28, 1, .ro, false, 0, .any, false⟩, ⟨27, 1, .ro, false, 0, .any, false⟩]⟩,
  ⟨"GEO_FENCE_ERR", 0xA1034, [], .all, 0, [⟨15, 1, .ro, false, 0, .any, false⟩, ⟨0, 6, .ro, false, 0, .any, false⟩]⟩,
  ⟨"GEO_ANT_A_X", 0xA1040, [], .all, 0, [⟨0, 32, .rwl, true, 0, .any, false⟩]⟩,
  ⟨"GEO_ANT_A_Y", 0xA1044, [], .all, 0, [⟨0, 32, .rwl, true, 0, .any, false⟩]⟩,
  ⟨"GEO_ANT_A_Z", 0xA1048, [], .all, 0, [⟨0, 32, .rwl, true, 0, .any, false⟩]⟩,
  ⟨"GEO_ANT_B_X", 0xA104C, [], .all, 0, [⟨0, 32, .rwl, true, 0, .any, false⟩]⟩,
  ⟨"GEO_ANT_B_Y", 0xA1050, [], .all, 0, [⟨0, 32, .rwl, true, 0, .any, false⟩]⟩,
  ⟨"GEO_ANT_B_Z", 0xA1054, [], .all, 0, [⟨0, 32, .rwl, true, 0, .any, false⟩]⟩,
  ⟨"GEO_CHUNK_CFG", 0xA1058, [], .all, 0, [⟨31, 1, .rwl, true, 0, .any, false⟩, ⟨16, 8, .rwl, true, 252, .within [(16, 252)], false⟩, ⟨0, 16, .rwl, true, 1000, .within [(100, 10000)], false⟩]⟩,
  ⟨"GEO_CONF_WAIT", 0xA105C, [], .all, 0, [⟨0, 16, .rwl, true, 200, .within [(20, 1000)], false⟩]⟩,
  ⟨"GEO_CHUNK_SEQ", 0xA1060, [], .all, 0, [⟨0, 32, .ro, false, 0, .any, false⟩]⟩]

def regDefs10b : List RegDef := [
  ⟨"GEO_CNT_MISSW", 0xA1064, [], .all, 0, [⟨0, 16, .rs, false, 0, .any, false⟩]⟩,
  ⟨"GEO_CNT_BADLOAD", 0xA1068, [], .all, 0, [⟨0, 16, .rs, false, 0, .any, false⟩]⟩,
  ⟨"GEO_CNT_DUPLOAD", 0xA106C, [], .all, 0, [⟨0, 16, .rs, false, 0, .any, false⟩]⟩,
  ⟨"GEO_CNT_RECLOST", 0xA1070, [], .all, 0, [⟨0, 16, .rs, false, 0, .any, false⟩]⟩,
  ⟨"GEO_CNT_NOPOSE", 0xA1074, [], .all, 0, [⟨0, 16, .rs, false, 0, .any, false⟩]⟩,
  ⟨"GEO_DISC", 0xA1078, [], .all, 0, [⟨0, 16, .rs, false, 0, .any, false⟩]⟩,
  ⟨"GEO_PT_CTRL", 0xA2000, [(0x40, 128)], .point, 0, [⟨8, 1, .rwl, true, 0, .any, false⟩, ⟨0, 2, .rwl, true, 0, .any, false⟩]⟩,
  ⟨"GEO_PT_BIND", 0xA2004, [(0x40, 128)], .point, 0, [⟨30, 2, .rwl, true, 0, .any, false⟩, ⟨16, 8, .rwl, true, 0, .any, false⟩, ⟨6, 9, .rwl, true, 0, .any, false⟩, ⟨3, 3, .rwl, true, 0, .any, false⟩]⟩,
  ⟨"GEO_PT_X", 0xA2008, [(0x40, 128)], .point, 0, [⟨0, 32, .rwl, true, 0, .any, false⟩]⟩,
  ⟨"GEO_PT_Y", 0xA200C, [(0x40, 128)], .point, 0, [⟨0, 32, .rwl, true, 0, .any, false⟩]⟩,
  ⟨"GEO_PT_Z", 0xA2010, [(0x40, 128)], .point, 0, [⟨0, 32, .rwl, true, 0, .any, false⟩]⟩,
  ⟨"GEO_PT_WIDTH", 0xA2014, [(0x40, 128)], .point, 0, [⟨0, 16, .rwl, true, 0, .within [(10, 10000)], false⟩]⟩,
  ⟨"GEO_PT_STAT", 0xA2018, [(0x40, 128)], .point, 0, [⟨31, 1, .ro, false, 0, .any, true⟩, ⟨30, 1, .ro, false, 0, .any, true⟩, ⟨24, 3, .ro, false, 0, .any, true⟩, ⟨18, 1, .ro, false, 0, .any, true⟩, ⟨17, 1, .ro, false, 0, .any, true⟩, ⟨16, 1, .ro, false, 0, .any, true⟩, ⟨0, 2, .ro, false, 0, .any, true⟩]⟩,
  ⟨"GEO_PT_GE", 0xA201C, [(0x40, 128)], .point, 0, [⟨0, 32, .ro, false, 0, .any, true⟩]⟩,
  ⟨"GEO_PT_GN", 0xA2020, [(0x40, 128)], .point, 0, [⟨0, 32, .ro, false, 0, .any, true⟩]⟩,
  ⟨"GEO_PT_CELLS", 0xA2024, [(0x40, 128)], .point, 0, [⟨0, 32, .ro, false, 0, .any, false⟩]⟩,
  ⟨"GEO_PT_OVL", 0xA2028, [(0x40, 128)], .point, 0, [⟨0, 32, .ro, false, 0, .any, false⟩]⟩,
  ⟨"GEO_PT_EXCL", 0xA202C, [(0x40, 128)], .point, 0, [⟨0, 32, .ro, false, 0, .any, false⟩]⟩,
  ⟨"GEO_PT_CANVAL", 0xA2030, [(0x40, 128)], .point, 0, [⟨8, 8, .rwl, true, 0, .any, false⟩, ⟨0, 8, .rwl, true, 0, .any, false⟩]⟩,
  ⟨"GEO_FENCE_CTRL", 0xA4000, [(0x10, 64)], .all, 0, [⟨31, 1, .rw, true, 0, .any, false⟩, ⟨16, 13, .rw, true, 0, .any, false⟩, ⟨0, 12, .rw, true, 0, .any, false⟩]⟩,
  ⟨"GEO_VTX_E", 0xA8000, [(8, 4096)], .all, 0, [⟨0, 32, .rw, true, 0, .any, false⟩]⟩,
  ⟨"GEO_VTX_N", 0xA8004, [(8, 4096)], .all, 0, [⟨0, 32, .rw, true, 0, .any, false⟩]⟩]

def regDefs11a : List RegDef := [
  ⟨"STR_SUMMARY", 0xB0024, [], .all, 0, [⟨24, 3, .ro, false, 0, .any, true⟩, ⟨16, 6, .ro, false, 0, .any, true⟩, ⟨0, 11, .ro, false, 0, .any, true⟩]⟩,
  ⟨"STR_CFG", 0xB1000, [], .all, 0, [⟨28, 3, .rwl, true, 5, .within [(2, 5)], false⟩, ⟨24, 2, .rwl, true, 0, .within [(0, 2)], false⟩, ⟨20, 2, .rwl, true, 0, .within [(0, 1)], false⟩, ⟨16, 1, .rwl, true, 1, .any, false⟩, ⟨12, 1, .rwl, true, 1, .any, false⟩, ⟨0, 6, .rwl, true, 8, .within [(4, 40)], false⟩]⟩,
  ⟨"STR_SPEED", 0xB1004, [], .all, 0, [⟨16, 16, .rwl, true, 400, .any, false⟩, ⟨0, 16, .rwl, true, 300, .any, false⟩]⟩,
  ⟨"STR_DR", 0xB1008, [], .all, 0, [⟨0, 16, .rwl, true, 100, .within [(0, 10000)], false⟩]⟩,
  ⟨"STR_LATE", 0xB100C, [], .all, 0, [⟨0, 16, .rwl, true, 20000, .any, false⟩]⟩,
  ⟨"STR_HORIZON", 0xB1010, [], .all, 0, [⟨0, 16, .rwl, true, 3000, .within [(250, 3000)], false⟩]⟩,
  ⟨"STR_STAGGER", 0xB1014, [], .all, 0, [⟨16, 16, .rwl, true, 8000, .within [(0, 20000)], false⟩, ⟨0, 16, .rwl, true, 300, .any, false⟩]⟩,
  ⟨"STR_TC", 0xB1018, [], .all, 0, [⟨0, 16, .rwl, true, 0, .any, false⟩]⟩,
  ⟨"STR_DUTY_REM", 0xB101C, [], .all, 0, [⟨16, 16, .rwl, true, 1, .within [(1, 100)], false⟩, ⟨0, 16, .rwl, true, 10, .within [(1, 1000)], false⟩]⟩,
  ⟨"STR_STATE", 0xB1020, [], .all, 0, [⟨16, 16, .ro, false, 0, .any, true⟩, ⟨0, 3, .ro, false, 0, .any, true⟩]⟩,
  ⟨"STR_CNT_CMD", 0xB1024, [], .all, 0, [⟨0, 32, .rs, false, 0, .any, false⟩]⟩,
  ⟨"STR_CNT_DROP", 0xB1028, [], .all, 0, [⟨0, 16, .rs, false, 0, .any, false⟩]⟩,
  ⟨"STR_CNT_LATE", 0xB102C, [], .all, 0, [⟨16, 16, .rs, false, 0, .any, false⟩, ⟨0, 16, .rs, false, 0, .any, false⟩]⟩,
  ⟨"STR_CNT_NOBOOST", 0xB1030, [], .all, 0, [⟨0, 16, .rs, false, 0, .any, false⟩]⟩,
  ⟨"STR_CNT_HORIZON", 0xB1034, [], .all, 0, [⟨0, 16, .rs, false, 0, .any, false⟩]⟩,
  ⟨"STR_DISC", 0xB1038, [], .all, 0, [⟨0, 16, .rs, false, 0, .any, false⟩]⟩,
  ⟨"STR_FLOW_CFG", 0xB1040, [(0x10, 4)], .all, 0, [⟨28, 4, .rwl, true, 0, .within [(0, 3)], false⟩, ⟨16, 4, .rwl, true, 0, .any, false⟩, ⟨0, 16, .rwl, true, 100, .within [(1, 65535)], false⟩]⟩,
  ⟨"STR_FLOW_FIX", 0xB1044, [(0x10, 4)], .all, 0, [⟨0, 24, .rw, true, 0, .any, false⟩]⟩,
  ⟨"STR_FLOW_VAL", 0xB1048, [(0x10, 4)], .all, 0, [⟨0, 24, .ro, false, 0, .any, true⟩]⟩,
  ⟨"STR_LAYER_DUTY", 0xB1080, [(0x10, 4)], .all, 0, [⟨0, 16, .rw, true, 0, .within [(0, 1000)], false⟩]⟩,
  ⟨"STR_LAYER_ON", 0xB1084, [(0x10, 4)], .all, 0, [⟨0, 11, .ro, false, 0, .any, true⟩]⟩,
  ⟨"STR_LAYER_DSUM", 0xB1088, [(0x10, 4)], .all, 0, [⟨0, 32, .ro, false, 0, .any, true⟩]⟩,
  ⟨"STR_LAYER_WIDTH", 0xB108C, [(0x10, 4)], .all, 0, [⟨0, 32, .ro, false, 0, .any, true⟩]⟩,
  ⟨"STR_SP_SEL", 0xB10C0, [], .remote, 0, [⟨0, 10, .rw, false, 0, .within [(0, 895)], false⟩]⟩]

def regDefs11b : List RegDef := [
  ⟨"STR_SP_STAT", 0xB10C4, [], .remote, 0, [⟨0, 32, .ro, false, 0, .any, false⟩]⟩,
  ⟨"STR_SP_LAT", 0xB10C8, [], .remote, 0, [⟨16, 16, .ro, false, 0, .any, false⟩, ⟨0, 16, .ro, false, 0, .any, false⟩]⟩,
  ⟨"STR_SAT_OK_LO", 0xB10D0, [], .remote, 0, [⟨0, 32, .ro, false, 0, .any, false⟩]⟩,
  ⟨"STR_SAT_OK_HI", 0xB10D4, [], .remote, 0, [⟨0, 32, .ro, false, 0, .any, false⟩]⟩,
  ⟨"STR_SAT_CFG", 0xB10D8, [], .remote, 0, [⟨16, 4, .rwl, true, 0, .within [(0, 0), (11, 15)], false⟩, ⟨0, 16, .rwl, true, 1000, .within [(100, 5000)], false⟩]⟩,
  ⟨"STR_SAT_BACKLOG", 0xB10DC, [], .remote, 0, [⟨24, 6, .ro, false, 0, .any, true⟩, ⟨0, 16, .ro, false, 0, .any, true⟩]⟩,
  ⟨"STR_PT_CTRL", 0xB2000, [(0x40, 128)], .point, 0, [⟨24, 1, .rwl, true, 0, .any, false⟩, ⟨16, 2, .rw, true, 0, .within [(0, 2)], false⟩, ⟨12, 1, .rwl, true, 0, .any, false⟩, ⟨8, 3, .rwl, true, 0, .within [(0, 4)], false⟩]⟩,
  ⟨"STR_PT_THR", 0xB2004, [(0x40, 128)], .point, 0, [⟨16, 8, .rwl, true, 0, .within [(0, 100)], false⟩, ⟨8, 8, .rwl, true, 50, .within [(1, 100)], false⟩, ⟨0, 8, .rwl, true, 30, .within [(0, 100)], false⟩]⟩,
  ⟨"STR_PT_HYST", 0xB2008, [(0x40, 128)], .point, 0, [⟨16, 16, .rwl, true, 200, .any, false⟩, ⟨0, 16, .rwl, true, 500, .any, false⟩]⟩,
  ⟨"STR_PT_LAT_CFG", 0xB200C, [(0x40, 128)], .point, 0, [⟨16, 16, .rwl, true, 0, .any, false⟩, ⟨0, 16, .rwl, true, 0, .any, false⟩]⟩,
  ⟨"STR_PT_HYD", 0xB2010, [(0x40, 128)], .point, 0, [⟨16, 16, .rwl, true, 0, .any, false⟩, ⟨0, 16, .rwl, true, 0, .within [(0, 30000)], false⟩]⟩,
  ⟨"STR_PT_LEAD_ON", 0xB2014, [(0x40, 128)], .point, 0, [⟨0, 32, .ro, false, 0, .any, true⟩]⟩,
  ⟨"STR_PT_LEAD_OFF", 0xB2018, [(0x40, 128)], .point, 0, [⟨0, 32, .ro, false, 0, .any, true⟩]⟩,
  ⟨"STR_PT_STAT", 0xB201C, [(0x40, 128)], .point, 0, [⟨31, 1, .ro, false, 0, .any, true⟩, ⟨30, 1, .ro, false, 0, .any, true⟩, ⟨29, 1, .ro, false, 0, .any, true⟩, ⟨28, 1, .ro, false, 0, .any, true⟩, ⟨26, 2, .ro, false, 0, .any, true⟩, ⟨24, 2, .ro, false, 0, .any, true⟩, ⟨0, 2, .ro, false, 0, .any, true⟩]⟩,
  ⟨"STR_PT_DUTY", 0xB2020, [(0x40, 128)], .point, 0, [⟨16, 16, .ro, false, 0, .any, true⟩, ⟨0, 16, .ro, false, 0, .any, true⟩]⟩,
  ⟨"STR_PT_NEXT_LO", 0xB2024, [(0x40, 128)], .point, 0, [⟨0, 32, .ro, false, 0, .any, false⟩]⟩,
  ⟨"STR_PT_NEXT_HI", 0xB2028, [(0x40, 128)], .point, 0, [⟨0, 32, .ro, false, 0, .any, false⟩]⟩,
  ⟨"STR_PT_CNT_ON", 0xB202C, [(0x40, 128)], .point, 0, [⟨0, 32, .ro, false, 0, .any, false⟩]⟩,
  ⟨"STR_PT_LATE", 0xB2030, [(0x40, 128)], .point, 0, [⟨16, 16, .ro, false, 0, .any, false⟩, ⟨0, 16, .ro, false, 0, .any, false⟩]⟩,
  ⟨"STR_PT_LATE_MAX", 0xB2034, [(0x40, 128)], .point, 0, [⟨0, 32, .rs, false, 0, .any, false⟩]⟩,
  ⟨"STR_PT_STAG", 0xB2038, [(0x40, 128)], .point, 0, [⟨16, 16, .ro, false, 0, .any, false⟩, ⟨0, 16, .ro, false, 0, .any, false⟩]⟩,
  ⟨"STR_SP_CTRL", 0xB8000, [(0x20, 896)], .remote, 0, [⟨31, 1, .rwl, true, 0, .any, false⟩, ⟨24, 6, .rwl, true, 0, .any, false⟩, ⟨23, 1, .rwl, true, 0, .any, false⟩, ⟨16, 7, .rwl, true, 0, .within [(0, 95)], false⟩, ⟨12, 2, .rwl, true, 0, .any, false⟩, ⟨11, 1, .rwl, true, 0, .any, false⟩, ⟨8, 3, .rwl, true, 0, .within [(0, 4)], false⟩, ⟨7, 1, .rwl, true, 0, .any, false⟩]⟩,
  ⟨"STR_SP_X", 0xB8004, [(0x20, 896)], .remote, 0, [⟨0, 32, .rwl, true, 0, .any, false⟩]⟩,
  ⟨"STR_SP_Y", 0xB8008, [(0x20, 896)], .remote, 0, [⟨0, 32, .rwl, true, 0, .any, false⟩]⟩]

def regDefs11c : List RegDef := [
  ⟨"STR_SP_ZW", 0xB800C, [(0x20, 896)], .remote, 0, [⟨16, 16, .rwl, true, 0, .within [(10, 10000)], false⟩, ⟨0, 16, .rwl, true, 0, .any, false⟩]⟩,
  ⟨"STR_SP_THR", 0xB8010, [(0x20, 896)], .remote, 0, [⟨16, 8, .rwl, true, 0, .within [(0, 100)], false⟩, ⟨8, 8, .rwl, true, 50, .within [(1, 100)], false⟩, ⟨0, 8, .rwl, true, 30, .within [(0, 100)], false⟩]⟩,
  ⟨"STR_SP_HYST", 0xB8014, [(0x20, 896)], .remote, 0, [⟨16, 16, .rwl, true, 200, .any, false⟩, ⟨0, 16, .rwl, true, 500, .any, false⟩]⟩,
  ⟨"STR_SP_LAT_CFG", 0xB8018, [(0x20, 896)], .remote, 0, [⟨16, 16, .rwl, true, 0, .any, false⟩, ⟨0, 16, .rwl, true, 0, .any, false⟩]⟩,
  ⟨"STR_SP_HYD", 0xB801C, [(0x20, 896)], .remote, 0, [⟨16, 16, .rwl, true, 0, .any, false⟩, ⟨0, 16, .rwl, true, 0, .within [(0, 30000)], false⟩]⟩]

def regDefs12a : List RegDef := [
  ⟨"SOL_EVT_HI", 0xC0024, [], .all, 0, [⟨0, 32, .w1c, false, 0, .any, false⟩]⟩,
  ⟨"SOL_EVT_HI_EN", 0xC0028, [], .all, 0, [⟨0, 32, .rw, true, 0, .any, false⟩]⟩,
  ⟨"SOL_SUMMARY", 0xC002C, [], .all, 0, [⟨16, 7, .ro, false, 0, .any, true⟩, ⟨0, 7, .ro, false, 0, .any, true⟩]⟩,
  ⟨"SOL_DISC", 0xC0030, [], .all, 0, [⟨0, 16, .rs, false, 0, .any, false⟩]⟩,
  ⟨"SOL_DIE_BOOST", 0xC1000, [(0x40, 2)], .die, 0, [⟨31, 1, .rwl, true, 0, .any, false⟩, ⟨16, 10, .rwl, true, 0, .within [(240, 600)], false⟩, ⟨0, 10, .rwl, true, 480, .within [(240, 600)], false⟩]⟩,
  ⟨"SOL_DIE_VB", 0xC1004, [(0x40, 2)], .die, 0, [⟨16, 10, .ro, false, 0, .any, true⟩, ⟨0, 10, .ro, false, 0, .any, true⟩]⟩,
  ⟨"SOL_DIE_ARB", 0xC1008, [(0x40, 2)], .die, 0, [⟨16, 16, .rwl, true, 5000, .within [(500, 20000)], false⟩, ⟨0, 16, .rwl, true, 400, .within [(0, 2000)], false⟩]⟩,
  ⟨"SOL_DIE_PROT", 0xC100C, [(0x40, 2)], .die, 0, [⟨16, 16, .rwl, true, 50, .within [(10, 500)], false⟩, ⟨0, 7, .rwl, true, 70, .within [(10, 100)], false⟩]⟩,
  ⟨"SOL_DIE_TJ", 0xC1010, [(0x40, 2)], .die, 0, [⟨0, 16, .ro, false, 0, .any, true⟩]⟩,
  ⟨"SOL_DIE_STAT", 0xC1014, [(0x40, 2)], .die, 0, [⟨5, 1, .ro, false, 0, .any, false⟩, ⟨4, 1, .ro, false, 0, .any, false⟩, ⟨2, 1, .ro, false, 0, .any, false⟩, ⟨1, 1, .ro, false, 0, .any, false⟩, ⟨0, 1, .ro, false, 0, .any, false⟩]⟩,
  ⟨"SOL_DIE_CNT", 0xC1018, [(0x40, 2)], .die, 0, [⟨16, 16, .rs, false, 0, .any, false⟩, ⟨0, 16, .rs, false, 0, .any, false⟩]⟩,
  ⟨"SOL_BANK_STAT", 0xC1100, [(0x10, 12)], .bank, 0, [⟨16, 16, .ro, false, 0, .any, true⟩, ⟨8, 3, .ro, false, 0, .any, true⟩, ⟨4, 1, .ro, false, 0, .any, true⟩, ⟨1, 1, .ro, false, 0, .any, true⟩, ⟨0, 1, .ro, false, 0, .any, true⟩]⟩,
  ⟨"SOL_BANK_CTRL", 0xC1104, [(0x10, 12)], .bank, 0, [⟨0, 1, .wo, false, 0, .any, false⟩]⟩,
  ⟨"SOL_BANK_CNT", 0xC1108, [(0x10, 12)], .bank, 0, [⟨16, 16, .rs, false, 0, .any, false⟩, ⟨0, 16, .rs, false, 0, .any, false⟩]⟩,
  ⟨"SOL_CH_CTRL", 0xC2000, [(0x40, 96)], .solCh, 0, [⟨0, 1, .rwl, true, 0, .any, false⟩]⟩,
  ⟨"SOL_CH_CFG", 0xC2004, [(0x40, 96)], .solCh, 0, [⟨16, 1, .rwo, true, 0, .any, false⟩, ⟨8, 5, .rwl, true, 0, .any, false⟩, ⟨4, 2, .rwo, true, 0, .within [(0, 2)], false⟩, ⟨2, 1, .rwo, true, 0, .any, false⟩, ⟨0, 2, .rwo, true, 0, .any, false⟩]⟩,
  ⟨"SOL_CH_PWM", 0xC2008, [(0x40, 96)], .solCh, 0, [⟨0, 18, .rwl, true, 0, .within [(10000, 200000)], false⟩]⟩,
  ⟨"SOL_CH_DUTY", 0xC200C, [(0x40, 96)], .solCh, 0, [⟨0, 10, .rw, false, 0, .within [(0, 1000)], false⟩]⟩,
  ⟨"SOL_CH_ISET", 0xC2010, [(0x40, 96)], .solCh, 0, [⟨0, 10, .rw, false, 0, .within [(0, 300)], false⟩]⟩,
  ⟨"SOL_CH_DITHER", 0xC2014, [(0x40, 96)], .solCh, 0, [⟨16, 9, .rwl, true, 0, .within [(0, 500)], false⟩, ⟨0, 9, .rwl, true, 0, .within [(50, 400)], false⟩]⟩,
  ⟨"SOL_CH_DLIM", 0xC2018, [(0x40, 96)], .solCh, 0, [⟨16, 10, .rwl, true, 0, .within [(1, 600)], false⟩, ⟨8, 7, .rwl, true, 0, .within [(1, 100)], false⟩, ⟨7, 1, .rwl, true, 0, .any, false⟩, ⟨0, 7, .rwl, true, 0, .within [(10, 100)], false⟩]⟩,
  ⟨"SOL_CH_I2T", 0xC201C, [(0x40, 96)], .solCh, 0, [⟨24, 8, .rwl, true, 5, .within [(1, 50)], false⟩, ⟨0, 24, .rwl, true, 0, .any, false⟩]⟩,
  ⟨"SOL_CH_CMD", 0xC2020, [(0x40, 96)], .solCh, 0, [⟨0, 2, .wo, false, 0, .within [(1, 2)], false⟩]⟩,
  ⟨"SOL_CH_STAT", 0xC2024, [(0x40, 96)], .solCh, 0, [⟨27, 1, .ro, false, 0, .any, true⟩, ⟨26, 1, .ro, false, 0, .any, true⟩, ⟨25, 1, .ro, false, 0, .any, true⟩, ⟨24, 1, .ro, false, 0, .any, true⟩, ⟨20, 1, .ro, false, 0, .any, true⟩, ⟨19, 1, .ro, false, 0, .any, true⟩, ⟨18, 1, .ro, false, 0, .any, true⟩, ⟨17, 1, .ro, false, 0, .any, true⟩, ⟨16, 1, .ro, false, 0, .any, true⟩, ⟨8, 4, .ro, false, 0, .any, true⟩, ⟨0, 3, .ro, false, 0, .any, true⟩]⟩]

def regDefs12b : List RegDef := [
  ⟨"SOL_CH_FLT", 0xC2028, [(0x40, 96)], .solCh, 0, [⟨3, 1, .w1c, false, 0, .any, false⟩, ⟨2, 1, .w1c, false, 0, .any, false⟩, ⟨1, 1, .w1c, false, 0, .any, false⟩, ⟨0, 1, .w1c, false, 0, .any, false⟩]⟩,
  ⟨"SOL_CH_TMEAS", 0xC202C, [(0x40, 96)], .solCh, 0, [⟨16, 16, .ro, false, 0, .any, false⟩, ⟨0, 16, .ro, false, 0, .any, false⟩]⟩,
  ⟨"SOL_CH_IMEAS", 0xC2030, [(0x40, 96)], .solCh, 0, [⟨16, 16, .ro, false, 0, .any, true⟩, ⟨0, 10, .ro, false, 0, .any, true⟩]⟩,
  ⟨"SOL_CH_DUSE", 0xC2034, [(0x40, 96)], .solCh, 0, [⟨16, 16, .ro, false, 0, .any, false⟩, ⟨0, 10, .ro, false, 0, .any, false⟩]⟩,
  ⟨"SOL_CH_DROP", 0xC2038, [(0x40, 96)], .solCh, 0, [⟨0, 16, .rs, false, 0, .any, false⟩]⟩,
  ⟨"SOL_CH_CYCLES", 0xC203C, [(0x40, 96)], .solCh, 0, [⟨0, 32, .ro, false, 0, .any, false⟩]⟩,
  ⟨"SOL_PROF_CUR", 0xC8000, [(0x1000, 2), (0x20, 32)], .die, 0, [⟨16, 16, .rwl, true, 0, .within [(1, 800)], false⟩, ⟨0, 16, .rwl, true, 0, .within [(1, 300)], false⟩]⟩,
  ⟨"SOL_PROF_TIME", 0xC8004, [(0x1000, 2), (0x20, 32)], .die, 0, [⟨16, 16, .rwl, true, 0, .within [(20, 5000)], false⟩, ⟨0, 16, .rwl, true, 0, .within [(0, 6000)], false⟩]⟩,
  ⟨"SOL_PROF_CHOP", 0xC8008, [(0x1000, 2), (0x20, 32)], .die, 0, [⟨16, 1, .rwl, true, 0, .any, false⟩, ⟨0, 6, .rwl, true, 20, .within [(16, 40)], false⟩]⟩]

def regDefs13a : List RegDef := [
  ⟨"ARM_SUMMARY", 0xD0024, [], .all, 0, [⟨16, 7, .ro, false, 0, .any, true⟩, ⟨0, 7, .ro, false, 0, .any, true⟩]⟩,
  ⟨"ARM_CFG", 0xD1000, [], .all, 0, [⟨24, 8, .rwl, true, 8, .within [(1, 255)], false⟩, ⟨16, 4, .rwl, true, 3, .within [(1, 8)], false⟩, ⟨8, 8, .rwl, true, 4, .within [(1, 32)], false⟩, ⟨0, 8, .rwl, true, 5, .within [(1, 32)], false⟩]⟩,
  ⟨"ARM_DRIFT", 0xD1004, [], .all, 0, [⟨16, 16, .rwl, true, 500, .within [(10, 5000)], false⟩, ⟨0, 8, .rwl, true, 25, .within [(5, 100)], false⟩]⟩,
  ⟨"ARM_REF", 0xD1008, [], .all, 0, [⟨16, 10, .rwl, true, 240, .within [(80, 600)], false⟩, ⟨0, 10, .rwl, true, 480, .within [(240, 600)], false⟩]⟩,
  ⟨"ARM_CLOSE_WIN", 0xD100C, [], .all, 0, [⟨0, 16, .rwl, true, 100, .within [(5, 500)], false⟩]⟩,
  ⟨"ARM_CNT_MISS", 0xD1010, [], .all, 0, [⟨16, 16, .rs, false, 0, .any, false⟩, ⟨0, 16, .rs, false, 0, .any, false⟩]⟩,
  ⟨"ARM_DISC", 0xD1014, [], .all, 0, [⟨0, 16, .rs, false, 0, .any, false⟩]⟩,
  ⟨"ARM_DIE_ADAPT", 0xD1040, [(0x10, 2)], .die, 0, [⟨16, 16, .rwl, true, 0, .any, false⟩, ⟨8, 8, .rwl, true, 10, .within [(1, 50)], false⟩, ⟨0, 8, .rwl, true, 10, .within [(1, 255)], false⟩]⟩,
  ⟨"ARM_DIE_ADSTAT", 0xD1044, [(0x10, 2)], .die, 0, [⟨16, 16, .ro, false, 0, .any, true⟩, ⟨7, 1, .ro, false, 0, .any, true⟩, ⟨0, 7, .ro, false, 0, .any, true⟩]⟩,
  ⟨"ARM_CH_CTRL", 0xD2000, [(0x40, 96)], .solCh, 0, [⟨8, 1, .rwl, true, 0, .any, false⟩, ⟨4, 1, .wo, false, 0, .any, false⟩, ⟨0, 1, .rwl, true, 0, .any, false⟩]⟩,
  ⟨"ARM_CH_DET", 0xD2004, [(0x40, 96)], .solCh, 0, [⟨20, 12, .rwl, true, 40, .within [(10, 1000)], false⟩, ⟨12, 8, .rwl, true, 8, .within [(2, 50)], false⟩, ⟨0, 12, .rwl, true, 20, .within [(2, 500)], false⟩]⟩,
  ⟨"ARM_CH_INIT", 0xD2008, [(0x40, 96)], .solCh, 0, [⟨16, 16, .rwl, true, 0, .any, false⟩, ⟨0, 16, .rwl, true, 0, .any, false⟩]⟩,
  ⟨"ARM_CH_BOUND", 0xD200C, [(0x40, 96)], .solCh, 0, [⟨16, 16, .rwl, true, 0, .any, false⟩, ⟨0, 16, .rwl, true, 0, .any, false⟩]⟩,
  ⟨"ARM_CH_COMP_O", 0xD2010, [(0x40, 96)], .solCh, 0, [⟨16, 16, .rwl, true, 0, .any, false⟩, ⟨0, 16, .rwl, true, 0, .any, false⟩]⟩,
  ⟨"ARM_CH_COMP_C", 0xD2014, [(0x40, 96)], .solCh, 0, [⟨16, 16, .rwl, true, 0, .any, false⟩, ⟨0, 16, .rwl, true, 0, .any, false⟩]⟩,
  ⟨"ARM_CH_R20", 0xD2018, [(0x40, 96)], .solCh, 0, [⟨0, 16, .rwl, true, 0, .any, false⟩]⟩,
  ⟨"ARM_CH_EST", 0xD201C, [(0x40, 96)], .solCh, 0, [⟨16, 16, .ro, false, 0, .any, false⟩, ⟨0, 16, .ro, false, 0, .any, false⟩]⟩,
  ⟨"ARM_CH_LAT", 0xD2020, [(0x40, 96)], .solCh, 0, [⟨16, 16, .ro, false, 0, .any, true⟩, ⟨0, 16, .ro, false, 0, .any, true⟩]⟩,
  ⟨"ARM_CH_CONF", 0xD2024, [(0x40, 96)], .solCh, 0, [⟨24, 8, .ro, false, 0, .any, true⟩, ⟨16, 8, .ro, false, 0, .any, true⟩, ⟨8, 8, .ro, false, 0, .any, true⟩, ⟨1, 1, .ro, false, 0, .any, true⟩, ⟨0, 1, .ro, false, 0, .any, true⟩]⟩,
  ⟨"ARM_CH_LAST", 0xD2028, [(0x40, 96)], .solCh, 0, [⟨16, 16, .ro, false, 0, .any, false⟩, ⟨0, 16, .ro, false, 0, .any, false⟩]⟩,
  ⟨"ARM_CH_COND", 0xD202C, [(0x40, 96)], .solCh, 0, [⟨16, 16, .ro, false, 0, .any, true⟩, ⟨0, 16, .ro, false, 0, .any, true⟩]⟩,
  ⟨"ARM_CH_STAT", 0xD2030, [(0x40, 96)], .solCh, 0, [⟨9, 1, .ro, false, 0, .any, true⟩, ⟨8, 1, .ro, false, 0, .any, true⟩, ⟨7, 1, .ro, false, 0, .any, true⟩, ⟨6, 1, .ro, false, 0, .any, true⟩, ⟨5, 1, .ro, false, 0, .any, true⟩, ⟨2, 2, .ro, false, 0, .any, true⟩, ⟨0, 2, .ro, false, 0, .any, true⟩]⟩,
  ⟨"ARM_CH_RUN", 0xD2034, [(0x40, 96)], .solCh, 0, [⟨24, 8, .ro, false, 0, .any, false⟩, ⟨16, 8, .ro, false, 0, .any, false⟩, ⟨8, 8, .ro, false, 0, .any, false⟩, ⟨0, 8, .ro, false, 0, .any, false⟩]⟩,
  ⟨"ARM_SW_CFG", 0xD4000, [(0x20, 24)], .hsw, 0, [⟨28, 4, .rwl, true, 0, .within [(0, 3)], false⟩, ⟨24, 4, .rwl, true, 0, .any, false⟩, ⟨16, 1, .rwl, true, 0, .any, false⟩, ⟨0, 16, .rwl, true, 0, .within [(100, 30000)], false⟩]⟩]

def regDefs13b : List RegDef := [
  ⟨"ARM_SW_STALL", 0xD4004, [(0x20, 24)], .hsw, 0, [⟨16, 16, .rwl, true, 0, .within [(10, 3000)], false⟩, ⟨8, 8, .rwl, true, 0, .within [(1, 255)], false⟩]⟩,
  ⟨"ARM_SW_IGN", 0xD4008, [(0x20, 24)], .hsw, 0, [⟨0, 16, .rwl, true, 0, .within [(0, 5000)], false⟩]⟩,
  ⟨"ARM_SW_THR", 0xD400C, [(0x20, 24)], .hsw, 0, [⟨0, 32, .rwl, true, 0, .any, false⟩]⟩,
  ⟨"ARM_SW_EST", 0xD4010, [(0x20, 24)], .hsw, 0, [⟨16, 16, .ro, false, 0, .any, false⟩, ⟨0, 16, .ro, false, 0, .any, false⟩]⟩,
  ⟨"ARM_SW_STAT", 0xD4014, [(0x20, 24)], .hsw, 0, [⟨24, 8, .ro, false, 0, .any, false⟩, ⟨4, 1, .ro, false, 0, .any, false⟩, ⟨2, 2, .ro, false, 0, .any, false⟩, ⟨0, 2, .ro, false, 0, .any, false⟩]⟩]

def regDefs14a : List RegDef := [
  ⟨"HSW_SUMMARY", 0xE0024, [], .all, 0, [⟨0, 32, .ro, false, 0, .any, true⟩]⟩,
  ⟨"HSW_DISC", 0xE0028, [], .all, 0, [⟨0, 16, .rs, false, 0, .any, false⟩]⟩,
  ⟨"HSW_VHS_CFG", 0xE1000, [(0x10, 4)], .vhs, 0, [⟨0, 8, .rwl, true, 70, .within [(50, 250)], false⟩]⟩,
  ⟨"HSW_VHS_STAT", 0xE1004, [(0x10, 4)], .vhs, 0, [⟨16, 1, .ro, false, 0, .any, true⟩, ⟨0, 16, .ro, false, 0, .any, true⟩]⟩,
  ⟨"HSW_VHS_CNT", 0xE1008, [(0x10, 4)], .vhs, 0, [⟨0, 16, .rs, false, 0, .any, false⟩]⟩,
  ⟨"HSW_PG_CFG", 0xE1080, [(0x10, 6)], .all, 0, [⟨31, 1, .rwl, true, 0, .any, false⟩, ⟨24, 2, .rwl, true, 0, .within [(0, 0), (2, 2)], false⟩, ⟨0, 20, .rwl, true, 0, .within [(500, 1000000)], false⟩]⟩,
  ⟨"HSW_PG_DUTY", 0xE1084, [(0x10, 6)], .all, 0, [⟨0, 10, .rw, false, 0, .within [(0, 1000)], false⟩]⟩,
  ⟨"HSW_PG_STAT", 0xE1088, [(0x10, 6)], .all, 0, [⟨0, 10, .ro, false, 0, .any, false⟩]⟩,
  ⟨"HSW_LH_CTRL", 0xE1100, [], .all, 0, [⟨31, 1, .rwl, true, 0, .any, false⟩, ⟨16, 8, .rwl, true, 30, .within [(1, 255)], false⟩]⟩,
  ⟨"HSW_LH_STAT", 0xE1104, [], .all, 0, [⟨16, 1, .ro, false, 0, .any, false⟩, ⟨8, 8, .ro, false, 0, .any, false⟩, ⟨1, 1, .ro, false, 0, .any, false⟩, ⟨0, 1, .ro, false, 0, .any, false⟩]⟩,
  ⟨"HSW_HOLD", 0xE1108, [], .all, 0, [⟨0, 24, .ro, false, 0, .any, false⟩]⟩,
  ⟨"HSW_LH_MAP", 0xE1110, [(4, 8)], .all, 0, [⟨31, 1, .rwl, true, 0, .any, false⟩, ⟨24, 5, .rwl, true, 0, .within [(0, 23)], false⟩, ⟨23, 1, .rwl, true, 0, .any, false⟩, ⟨16, 5, .rwl, true, 0, .within [(0, 23)], false⟩, ⟨15, 1, .rwl, true, 0, .any, false⟩, ⟨8, 5, .rwl, true, 0, .within [(0, 23)], false⟩, ⟨7, 1, .rwl, true, 0, .any, false⟩, ⟨0, 5, .rwl, true, 0, .within [(0, 23)], false⟩]⟩,
  ⟨"HSW_CH_CTRL", 0xE2000, [(0x40, 24)], .hsw, 0, [⟨0, 1, .rwl, true, 0, .any, false⟩]⟩,
  ⟨"HSW_CH_CFG", 0xE2004, [(0x40, 24)], .hsw, 0, [⟨31, 1, .rwl, true, 0, .any, false⟩, ⟨24, 4, .rwl, true, 0, .within [(0, 8)], false⟩, ⟨20, 3, .rwl, true, 0, .within [(0, 5)], false⟩, ⟨8, 8, .rwl, true, 0, .any, false⟩, ⟨2, 1, .rwo, true, 0, .any, false⟩, ⟨0, 2, .rwo, true, 0, .within [(0, 2)], false⟩]⟩,
  ⟨"HSW_CH_OL", 0xE2008, [(0x40, 8)], .hsw, 0, [⟨16, 16, .rwl, true, 500, .within [(1, 10000)], false⟩, ⟨0, 16, .rwl, true, 100, .within [(10, 2000)], false⟩]⟩,
  ⟨"HSW_CH_OL", 0xE2208, [(0x40, 16)], .hsw, 8, [⟨16, 16, .rwl, true, 500, .within [(1, 10000)], false⟩, ⟨0, 16, .rwl, true, 50, .within [(10, 2000)], false⟩]⟩,
  ⟨"HSW_CH_OC", 0xE200C, [(0x40, 8)], .hsw, 0, [⟨16, 16, .rwl, true, 100, .within [(1, 10000)], false⟩, ⟨0, 16, .rwl, true, 1000, .within [(100, 1200)], false⟩]⟩,
  ⟨"HSW_CH_OC", 0xE220C, [(0x40, 16)], .hsw, 8, [⟨16, 16, .rwl, true, 100, .within [(1, 10000)], false⟩, ⟨0, 16, .rwl, true, 375, .within [(50, 450)], false⟩]⟩,
  ⟨"HSW_CH_CMD", 0xE2010, [(0x40, 24)], .hsw, 0, [⟨0, 2, .wo, false, 0, .within [(1, 2)], false⟩]⟩,
  ⟨"HSW_CH_STAT", 0xE2014, [(0x40, 24)], .hsw, 0, [⟨27, 1, .ro, false, 0, .any, true⟩, ⟨26, 1, .ro, false, 0, .any, true⟩, ⟨25, 1, .ro, false, 0, .any, true⟩, ⟨24, 1, .ro, false, 0, .any, true⟩, ⟨20, 1, .ro, false, 0, .any, true⟩, ⟨19, 1, .ro, false, 0, .any, true⟩, ⟨18, 1, .ro, false, 0, .any, true⟩, ⟨17, 1, .ro, false, 0, .any, true⟩, ⟨16, 1, .ro, false, 0, .any, true⟩, ⟨8, 4, .ro, false, 0, .any, true⟩]⟩,
  ⟨"HSW_CH_FLT", 0xE2018, [(0x40, 24)], .hsw, 0, [⟨4, 1, .w1c, false, 0, .any, false⟩, ⟨3, 1, .w1c, false, 0, .any, false⟩, ⟨2, 1, .w1c, false, 0, .any, false⟩, ⟨1, 1, .w1c, false, 0, .any, false⟩, ⟨0, 1, .w1c, false, 0, .any, false⟩]⟩,
  ⟨"HSW_CH_MEAS", 0xE201C, [(0x40, 24)], .hsw, 0, [⟨16, 16, .ro, false, 0, .any, true⟩, ⟨0, 16, .ro, false, 0, .any, true⟩]⟩,
  ⟨"HSW_CH_TJ", 0xE2020, [(0x40, 24)], .hsw, 0, [⟨0, 16, .ro, false, 0, .any, true⟩]⟩,
  ⟨"HSW_CH_CLAMP", 0xE2024, [(0x40, 24)], .hsw, 0, [⟨16, 16, .ro, false, 0, .any, false⟩, ⟨0, 16, .ro, false, 0, .any, false⟩]⟩]

def regDefs14b : List RegDef := [
  ⟨"HSW_CH_DROP", 0xE2028, [(0x40, 24)], .hsw, 0, [⟨0, 16, .rs, false, 0, .any, false⟩]⟩,
  ⟨"HSW_CH_CYCLES", 0xE202C, [(0x40, 24)], .hsw, 0, [⟨0, 32, .ro, false, 0, .any, false⟩]⟩,
  ⟨"HSW_PROF_INR", 0xE8000, [(0x20, 5)], .all, 0, [⟨24, 8, .ro, false, 0, .any, false⟩, ⟨0, 16, .ro, false, 0, .any, false⟩]⟩,
  ⟨"HSW_PROF_INR", 0xE80A0, [(0x20, 4)], .all, 0, [⟨24, 8, .rwl, true, 0, .within [(10, 80)], false⟩, ⟨0, 16, .rwl, true, 0, .within [(1, 10000)], false⟩]⟩,
  ⟨"HSW_PROF_SOFT", 0xE8004, [(0x20, 5)], .all, 0, [⟨0, 8, .ro, false, 0, .any, false⟩]⟩,
  ⟨"HSW_PROF_SOFT", 0xE80A4, [(0x20, 4)], .all, 0, [⟨0, 8, .rwl, true, 0, .within [(0, 100)], false⟩]⟩]

def regDefs15a : List RegDef := [
  ⟨"CTL_SUMMARY", 0xF0024, [], .all, 0, [⟨0, 32, .ro, false, 0, .any, true⟩]⟩,
  ⟨"CTL_FALLBACK", 0xF0028, [], .all, 0, [⟨0, 32, .ro, false, 0, .any, true⟩]⟩,
  ⟨"CTL_DISC", 0xF002C, [], .all, 0, [⟨0, 16, .rs, false, 0, .any, false⟩]⟩,
  ⟨"CTL_GRID_OFS", 0xF1000, [], .all, 0, [⟨0, 16, .ro, false, 0, .any, false⟩]⟩,
  ⟨"CTL_HEAT_CFG", 0xF1040, [(0x20, 4)], .heat, 0, [⟨0, 1, .rwo, true, 0, .any, false⟩]⟩,
  ⟨"CTL_HEAT_OUT", 0xF1044, [(0x20, 4)], .heat, 0, [⟨28, 4, .rwo, true, 0, .any, false⟩, ⟨20, 8, .rwo, true, 0, .any, false⟩, ⟨11, 9, .rwo, true, 0, .any, false⟩, ⟨6, 5, .rwo, true, 0, .any, false⟩, ⟨5, 1, .rwo, true, 0, .any, false⟩]⟩,
  ⟨"CTL_HEAT_STAT", 0xF1048, [(0x20, 4)], .heat, 0, [⟨31, 1, .ro, false, 0, .any, true⟩, ⟨24, 5, .ro, false, 0, .any, true⟩, ⟨0, 4, .ro, false, 0, .any, true⟩]⟩,
  ⟨"CTL_HEAT_L", 0xF104C, [(0x20, 4)], .heat, 0, [⟨0, 32, .ro, false, 0, .any, true⟩]⟩,
  ⟨"CTL_HEAT_SWAPS", 0xF1050, [(0x20, 4)], .heat, 0, [⟨0, 16, .rs, false, 0, .any, false⟩]⟩,
  ⟨"CTL_LOOP_CTRL", 0xF2000, [(0x80, 32)], .loop, 0, [⟨4, 1, .rwl, true, 0, .any, false⟩, ⟨0, 1, .rwl, true, 0, .any, false⟩]⟩,
  ⟨"CTL_LOOP_CFG", 0xF2004, [(0x80, 32)], .loop, 0, [⟨28, 3, .rwo, true, 0, .within [(0, 0), (2, 7)], false⟩, ⟨24, 3, .rwo, true, 0, .within [(0, 4)], false⟩, ⟨20, 3, .rwo, true, 0, .within [(0, 4)], false⟩, ⟨18, 1, .rwo, true, 0, .any, false⟩, ⟨16, 2, .rwo, true, 0, .within [(0, 2)], false⟩, ⟨9, 1, .rwo, true, 0, .any, false⟩, ⟨8, 1, .rwo, true, 0, .any, false⟩]⟩,
  ⟨"CTL_LOOP_TIME", 0xF2008, [(0x80, 32)], .loop, 0, [⟨16, 16, .rwo, true, 0, .any, false⟩, ⟨0, 16, .rwo, true, 0, .any, false⟩]⟩,
  ⟨"CTL_LOOP_SP_SRC", 0xF200C, [(0x80, 32)], .loop, 0, [⟨28, 4, .rwo, true, 0, .any, false⟩, ⟨20, 8, .rwo, true, 0, .any, false⟩, ⟨11, 9, .rwo, true, 0, .any, false⟩, ⟨6, 5, .rwo, true, 0, .any, false⟩, ⟨5, 1, .rwo, true, 0, .any, false⟩]⟩,
  ⟨"CTL_LOOP_FB_SRC", 0xF2010, [(0x80, 32)], .loop, 0, [⟨28, 4, .rwo, true, 0, .any, false⟩, ⟨20, 8, .rwo, true, 0, .any, false⟩, ⟨11, 9, .rwo, true, 0, .any, false⟩, ⟨6, 5, .rwo, true, 0, .any, false⟩, ⟨5, 1, .rwo, true, 0, .any, false⟩]⟩,
  ⟨"CTL_LOOP_FF_SRC", 0xF2014, [(0x80, 32)], .loop, 0, [⟨28, 4, .rwo, true, 0, .any, false⟩, ⟨20, 8, .rwo, true, 0, .any, false⟩, ⟨11, 9, .rwo, true, 0, .any, false⟩, ⟨6, 5, .rwo, true, 0, .any, false⟩, ⟨5, 1, .rwo, true, 0, .any, false⟩]⟩,
  ⟨"CTL_LOOP_OUT", 0xF2018, [(0x80, 32)], .loop, 0, [⟨28, 4, .rwo, true, 0, .any, false⟩, ⟨20, 8, .rwo, true, 0, .any, false⟩, ⟨11, 9, .rwo, true, 0, .any, false⟩, ⟨6, 5, .rwo, true, 0, .any, false⟩, ⟨5, 1, .rwo, true, 0, .any, false⟩]⟩,
  ⟨"CTL_LOOP_SPFIX", 0xF201C, [(0x80, 32)], .loop, 0, [⟨0, 32, .rw, true, 0, .any, false⟩]⟩,
  ⟨"CTL_LOOP_KP", 0xF2020, [(0x80, 32)], .loop, 0, [⟨0, 32, .rwo, true, 0, .any, false⟩]⟩,
  ⟨"CTL_LOOP_KIT", 0xF2024, [(0x80, 32)], .loop, 0, [⟨0, 32, .rwo, true, 0, .any, false⟩]⟩,
  ⟨"CTL_LOOP_DA", 0xF2028, [(0x80, 32)], .loop, 0, [⟨0, 32, .rwo, true, 0, .any, false⟩]⟩,
  ⟨"CTL_LOOP_DB", 0xF202C, [(0x80, 32)], .loop, 0, [⟨0, 32, .rwo, true, 0, .any, false⟩]⟩,
  ⟨"CTL_LOOP_KFF", 0xF2030, [(0x80, 32)], .loop, 0, [⟨0, 32, .rwo, true, 0, .any, false⟩]⟩,
  ⟨"CTL_LOOP_KBC", 0xF2034, [(0x80, 32)], .loop, 0, [⟨0, 32, .rwo, true, 0, .any, false⟩]⟩,
  ⟨"CTL_LOOP_OMIN", 0xF2038, [(0x80, 32)], .loop, 0, [⟨0, 32, .rwo, true, 0, .any, false⟩]⟩]

def regDefs15b : List RegDef := [
  ⟨"CTL_LOOP_OMAX", 0xF203C, [(0x80, 32)], .loop, 0, [⟨0, 32, .rwo, true, 0, .any, false⟩]⟩,
  ⟨"CTL_LOOP_SLEW", 0xF2040, [(0x80, 32)], .loop, 0, [⟨0, 32, .rwo, true, 0, .any, false⟩]⟩,
  ⟨"CTL_LOOP_SAFE", 0xF2044, [(0x80, 32)], .loop, 0, [⟨0, 32, .rwo, true, 0, .any, false⟩]⟩,
  ⟨"CTL_LOOP_MAN", 0xF2048, [(0x80, 32)], .loop, 0, [⟨0, 32, .rw, true, 0, .any, false⟩]⟩,
  ⟨"CTL_LOOP_FE_LIM", 0xF204C, [(0x80, 32)], .loop, 0, [⟨0, 32, .rwo, true, 0, .any, false⟩]⟩,
  ⟨"CTL_LOOP_TMO", 0xF2050, [(0x80, 32)], .loop, 0, [⟨20, 12, .rwo, true, 100, .within [(1, 4095)], false⟩, ⟨8, 12, .rwo, true, 50, .within [(1, 4095)], false⟩, ⟨0, 8, .rwo, true, 0, .within [(0, 0), (2, 255)], false⟩]⟩,
  ⟨"CTL_LOOP_FRZ_DB", 0xF2054, [(0x80, 32)], .loop, 0, [⟨0, 32, .rwo, true, 0, .any, false⟩]⟩,
  ⟨"CTL_LOOP_FRZ_DOUT", 0xF2058, [(0x80, 32)], .loop, 0, [⟨0, 32, .rwo, true, 0, .any, false⟩]⟩,
  ⟨"CTL_LOOP_STAT", 0xF205C, [(0x80, 32)], .loop, 0, [⟨29, 3, .ro, false, 0, .any, true⟩, ⟨28, 1, .ro, false, 0, .any, true⟩, ⟨24, 3, .ro, false, 0, .any, true⟩, ⟨23, 1, .ro, false, 0, .any, true⟩, ⟨22, 1, .ro, false, 0, .any, true⟩, ⟨21, 1, .ro, false, 0, .any, true⟩, ⟨20, 1, .ro, false, 0, .any, true⟩, ⟨19, 1, .ro, false, 0, .any, true⟩]⟩,
  ⟨"CTL_LOOP_FLAGS", 0xF2060, [(0x80, 32)], .loop, 0, [⟨8, 5, .ro, false, 0, .any, false⟩, ⟨0, 5, .w1c, false, 0, .any, false⟩]⟩,
  ⟨"CTL_LOOP_SPV", 0xF2064, [(0x80, 32)], .loop, 0, [⟨0, 32, .ro, false, 0, .any, true⟩]⟩,
  ⟨"CTL_LOOP_FBV", 0xF2068, [(0x80, 32)], .loop, 0, [⟨0, 32, .ro, false, 0, .any, true⟩]⟩,
  ⟨"CTL_LOOP_IV", 0xF206C, [(0x80, 32)], .loop, 0, [⟨0, 32, .ro, false, 0, .any, true⟩]⟩,
  ⟨"CTL_LOOP_VV", 0xF2070, [(0x80, 32)], .loop, 0, [⟨0, 32, .ro, false, 0, .any, true⟩]⟩,
  ⟨"CTL_LOOP_UV", 0xF2074, [(0x80, 32)], .loop, 0, [⟨0, 32, .ro, false, 0, .any, true⟩]⟩,
  ⟨"CTL_LOOP_LATE", 0xF2078, [(0x80, 32)], .loop, 0, [⟨0, 16, .rs, false, 0, .any, false⟩]⟩,
  ⟨"CTL_LOOP_CMD", 0xF207C, [(0x80, 32)], .loop, 0, [⟨0, 2, .wo, false, 0, .within [(1, 3)], false⟩]⟩,
  ⟨"CTL_BKP_X", 0xF3000, [(0x40, 32), (8, 8)], .loop, 0, [⟨0, 32, .rwo, true, 0, .any, false⟩]⟩,
  ⟨"CTL_BKP_Y", 0xF3004, [(0x40, 32), (8, 8)], .loop, 0, [⟨0, 32, .rwo, true, 0, .any, false⟩]⟩]

def regDefs16a : List RegDef := [
  ⟨"PACE_SUMMARY", 0x100024, [], .all, 0, [⟨24, 1, .ro, false, 0, .any, true⟩, ⟨20, 4, .ro, false, 0, .any, true⟩, ⟨16, 4, .ro, false, 0, .any, true⟩, ⟨0, 16, .ro, false, 0, .any, true⟩]⟩,
  ⟨"PACE_DISC", 0x100028, [], .all, 0, [⟨0, 16, .rs, false, 0, .any, false⟩]⟩,
  ⟨"PACE_CTRL", 0x101000, [(0x40, 16)], .pacer, 0, [⟨0, 1, .rwl, true, 0, .any, false⟩]⟩,
  ⟨"PACE_TSRC", 0x101004, [(0x40, 16)], .pacer, 0, [⟨28, 4, .rwl, true, 0, .any, false⟩, ⟨20, 8, .rwl, true, 0, .any, false⟩, ⟨11, 9, .rwl, true, 0, .any, false⟩, ⟨6, 5, .rwl, true, 0, .any, false⟩, ⟨5, 1, .rwl, true, 0, .any, false⟩]⟩,
  ⟨"PACE_TIME", 0x101008, [(0x40, 16)], .pacer, 0, [⟨16, 16, .rwl, true, 0, .any, false⟩, ⟨0, 16, .rwl, true, 0, .any, false⟩]⟩,
  ⟨"PACE_TGT", 0x10100C, [(0x40, 16)], .pacer, 0, [⟨0, 32, .rw, true, 0, .any, false⟩]⟩,
  ⟨"PACE_VMAX", 0x101010, [(0x40, 16)], .pacer, 0, [⟨0, 32, .rwl, true, 0, .any, false⟩]⟩,
  ⟨"PACE_AMAX", 0x101014, [(0x40, 16)], .pacer, 0, [⟨0, 32, .rwl, true, 0, .any, false⟩]⟩,
  ⟨"PACE_JMAX", 0x101018, [(0x40, 16)], .pacer, 0, [⟨0, 32, .rwl, true, 0, .any, false⟩]⟩,
  ⟨"PACE_XMIN", 0x10101C, [(0x40, 16)], .pacer, 0, [⟨0, 32, .rwl, true, 0, .any, false⟩]⟩,
  ⟨"PACE_XMAX", 0x101020, [(0x40, 16)], .pacer, 0, [⟨0, 32, .rwl, true, 0, .any, false⟩]⟩,
  ⟨"PACE_X0", 0x101024, [(0x40, 16)], .pacer, 0, [⟨0, 32, .rw, true, 0, .any, false⟩]⟩,
  ⟨"PACE_CMD", 0x101028, [(0x40, 16)], .pacer, 0, [⟨0, 2, .wo, false, 0, .within [(1, 3)], false⟩]⟩,
  ⟨"PACE_X", 0x10102C, [(0x40, 16)], .pacer, 0, [⟨0, 32, .ro, false, 0, .any, true⟩]⟩,
  ⟨"PACE_V", 0x101030, [(0x40, 16)], .pacer, 0, [⟨0, 32, .ro, false, 0, .any, true⟩]⟩,
  ⟨"PACE_A", 0x101034, [(0x40, 16)], .pacer, 0, [⟨0, 32, .ro, false, 0, .any, true⟩]⟩,
  ⟨"PACE_STAT", 0x101038, [(0x40, 16)], .pacer, 0, [⟨30, 2, .ro, false, 0, .any, true⟩, ⟨2, 1, .ro, false, 0, .any, true⟩, ⟨1, 1, .ro, false, 0, .any, true⟩, ⟨0, 1, .ro, false, 0, .any, true⟩]⟩,
  ⟨"LAP_CTRL", 0x102000, [(0x40, 4)], .lap, 0, [⟨8, 1, .rwl, true, 0, .any, false⟩, ⟨4, 1, .wo, false, 0, .any, false⟩, ⟨0, 1, .rwl, true, 0, .any, false⟩]⟩,
  ⟨"LAP_SRC", 0x102004, [(0x40, 4)], .lap, 0, [⟨28, 4, .rwl, true, 0, .within [(3, 4)], false⟩, ⟨20, 8, .rwl, true, 0, .any, false⟩, ⟨16, 1, .rwl, true, 0, .any, false⟩, ⟨0, 8, .rwl, true, 0, .any, false⟩]⟩,
  ⟨"LAP_CPR", 0x102008, [(0x40, 4)], .lap, 0, [⟨0, 24, .rwl, true, 0, .within [(16, 16777215)], false⟩]⟩,
  ⟨"LAP_ORIGIN", 0x10200C, [(0x40, 4)], .lap, 0, [⟨0, 32, .rwl, true, 0, .any, false⟩]⟩,
  ⟨"LAP_GAIN", 0x102010, [(0x40, 4)], .lap, 0, [⟨0, 32, .rwl, true, 0, .any, false⟩]⟩,
  ⟨"LAP_LEAK", 0x102014, [(0x40, 4)], .lap, 0, [⟨0, 16, .rwl, true, 0, .any, false⟩]⟩,
  ⟨"LAP_TMAX", 0x102018, [(0x40, 4)], .lap, 0, [⟨0, 32, .rwl, true, 0, .any, false⟩]⟩]

def regDefs16b : List RegDef := [
  ⟨"LAP_STAT", 0x10201C, [(0x40, 4)], .lap, 0, [⟨16, 11, .ro, false, 0, .any, true⟩, ⟨0, 11, .ro, false, 0, .any, true⟩, ⟨2, 1, .ro, false, 0, .any, true⟩, ⟨1, 1, .ro, false, 0, .any, true⟩, ⟨0, 1, .ro, false, 0, .any, true⟩]⟩,
  ⟨"LAP_OUT", 0x102020, [(0x40, 4)], .lap, 0, [⟨0, 32, .ro, false, 0, .any, true⟩]⟩,
  ⟨"LAP_CNT", 0x102024, [(0x40, 4)], .lap, 0, [⟨16, 16, .rs, false, 0, .any, false⟩, ⟨0, 16, .rs, false, 0, .any, false⟩]⟩,
  ⟨"INJ_CFG", 0x102100, [(0x40, 4)], .all, 0, [⟨28, 4, .rw, false, 0, .any, false⟩, ⟨24, 2, .rw, false, 0, .within [(0, 2)], false⟩, ⟨16, 5, .rw, false, 0, .any, false⟩]⟩,
  ⟨"INJ_AMP", 0x102104, [(0x40, 4)], .all, 0, [⟨0, 32, .rw, false, 0, .any, false⟩]⟩,
  ⟨"INJ_F0", 0x102108, [(0x40, 4)], .all, 0, [⟨0, 32, .rw, false, 0, .any, false⟩]⟩,
  ⟨"INJ_F1", 0x10210C, [(0x40, 4)], .all, 0, [⟨0, 32, .rw, false, 0, .any, false⟩]⟩,
  ⟨"INJ_N", 0x102110, [(0x40, 4)], .all, 0, [⟨0, 32, .rw, false, 0, .any, false⟩]⟩,
  ⟨"INJ_PRBS", 0x102114, [(0x40, 4)], .all, 0, [⟨16, 15, .rw, false, 0, .any, false⟩, ⟨0, 16, .rw, false, 0, .within [(1, 65535)], false⟩]⟩,
  ⟨"INJ_TAG_LO", 0x102118, [(0x40, 4)], .all, 0, [⟨0, 32, .rw, false, 0, .any, false⟩]⟩,
  ⟨"INJ_TAG_HI", 0x10211C, [(0x40, 4)], .all, 0, [⟨0, 32, .rw, false, 0, .any, false⟩]⟩,
  ⟨"INJ_CMD", 0x102120, [(0x40, 4)], .all, 0, [⟨0, 2, .wo, false, 0, .within [(1, 3)], false⟩]⟩,
  ⟨"INJ_STAT", 0x102124, [(0x40, 4)], .all, 0, [⟨0, 3, .ro, false, 0, .any, false⟩]⟩,
  ⟨"INJ_K", 0x102128, [(0x40, 4)], .all, 0, [⟨0, 32, .ro, false, 0, .any, false⟩]⟩,
  ⟨"INJ_VAL", 0x10212C, [(0x40, 4)], .all, 0, [⟨0, 32, .ro, false, 0, .any, true⟩]⟩,
  ⟨"CAP_CFG", 0x102200, [], .all, 0, [⟨28, 2, .rw, false, 0, .within [(0, 2)], false⟩, ⟨24, 2, .rw, false, 0, .any, false⟩, ⟨16, 5, .rw, false, 0, .any, false⟩, ⟨8, 8, .rw, false, 0, .within [(1, 255)], false⟩, ⟨0, 4, .rw, false, 0, .within [(1, 8)], false⟩]⟩,
  ⟨"CAP_SEL", 0x102204, [(4, 4)], .all, 0, [⟨0, 16, .rw, false, 0, .any, false⟩, ⟨16, 16, .rw, false, 0, .any, false⟩]⟩,
  ⟨"CAP_LEN", 0x102214, [], .all, 0, [⟨0, 32, .rw, false, 0, .any, false⟩]⟩,
  ⟨"CAP_TAG_LO", 0x102218, [], .all, 0, [⟨0, 32, .rw, false, 0, .any, false⟩]⟩,
  ⟨"CAP_TAG_HI", 0x10221C, [], .all, 0, [⟨0, 32, .rw, false, 0, .any, false⟩]⟩,
  ⟨"CAP_CMD", 0x102220, [], .all, 0, [⟨0, 2, .wo, false, 0, .within [(1, 2)], false⟩]⟩,
  ⟨"CAP_STAT", 0x102224, [], .all, 0, [⟨31, 1, .ro, false, 0, .any, false⟩, ⟨28, 3, .ro, false, 0, .any, false⟩, ⟨0, 16, .ro, false, 0, .any, false⟩]⟩,
  ⟨"CAP_SETS", 0x102228, [], .all, 0, [⟨0, 32, .ro, false, 0, .any, false⟩]⟩,
  ⟨"LAP_TBL", 0x104000, [(0x1000, 4), (4, 1024)], .lap, 0, [⟨0, 32, .rw, false, 0, .any, false⟩]⟩]

def regDefs17a : List RegDef := [
  ⟨"CAN_SUMMARY", 0x110024, [], .all, 0, [⟨24, 5, .ro, false, 0, .any, true⟩, ⟨16, 8, .ro, false, 0, .any, true⟩, ⟨8, 3, .ro, false, 0, .any, true⟩, ⟨4, 3, .ro, false, 0, .any, true⟩, ⟨0, 3, .ro, false, 0, .any, true⟩]⟩,
  ⟨"CAN_DISC", 0x110028, [], .all, 0, [⟨0, 16, .rs, false, 0, .any, false⟩]⟩,
  ⟨"CAN_CTL_CFG", 0x111000, [(0x40, 3)], .all, 0, [⟨8, 1, .rwl, true, 0, .any, false⟩, ⟨7, 1, .rwl, true, 1, .any, false⟩, ⟨4, 1, .rwo, true, 0, .any, false⟩, ⟨0, 2, .rwl, true, 0, .any, false⟩]⟩,
  ⟨"CAN_CTL_NBT", 0x111004, [(0x40, 3)], .all, 0, [⟨24, 7, .rwo, true, 0, .any, false⟩, ⟨16, 7, .rwo, true, 0, .any, false⟩, ⟨8, 8, .rwo, true, 0, .within [(1, 255)], false⟩, ⟨0, 8, .rwo, true, 0, .any, false⟩]⟩,
  ⟨"CAN_CTL_DBT", 0x111008, [(0x40, 3)], .all, 0, [⟨31, 1, .rwo, true, 0, .any, false⟩, ⟨24, 4, .rwo, true, 0, .any, false⟩, ⟨16, 4, .rwo, true, 0, .any, false⟩, ⟨8, 5, .rwo, true, 0, .any, false⟩, ⟨0, 5, .rwo, true, 0, .any, false⟩]⟩,
  ⟨"CAN_CTL_TDC", 0x11100C, [(0x40, 3)], .all, 0, [⟨0, 7, .rwo, true, 0, .any, false⟩]⟩,
  ⟨"CAN_CTL_STAT", 0x111010, [(0x40, 3)], .all, 0, [⟨24, 8, .ro, false, 0, .any, true⟩, ⟨16, 8, .ro, false, 0, .any, true⟩, ⟨0, 2, .ro, false, 0, .any, true⟩]⟩,
  ⟨"CAN_CTL_CNT", 0x111014, [(0x40, 3)], .all, 0, [⟨16, 16, .rs, false, 0, .any, false⟩, ⟨0, 16, .rs, false, 0, .any, false⟩]⟩,
  ⟨"CAN_CTL_LEC", 0x111018, [(0x40, 3)], .all, 0, [⟨8, 8, .ro, false, 0, .any, false⟩, ⟨0, 3, .ro, false, 0, .any, false⟩]⟩,
  ⟨"CAN_CTL_MIR", 0x11101C, [(0x40, 3)], .all, 0, [⟨2, 1, .rwl, true, 0, .any, false⟩, ⟨1, 1, .rwl, true, 0, .any, false⟩, ⟨0, 1, .rwl, true, 0, .any, false⟩]⟩,
  ⟨"CAN_CTL_CMD", 0x111020, [(0x40, 3)], .all, 0, [⟨0, 1, .wo, false, 0, .any, false⟩]⟩,
  ⟨"CAN_CTL_CLASH", 0x111024, [(0x40, 3)], .all, 0, [⟨15, 1, .ro, false, 0, .any, false⟩, ⟨0, 8, .ro, false, 0, .any, false⟩]⟩,
  ⟨"CAN_CTL_RXNM", 0x111028, [(0x40, 3)], .all, 0, [⟨0, 16, .rs, false, 0, .any, false⟩]⟩,
  ⟨"CAN_OBJ_CFG", 0x118000, [(0x80, 256)], .all, 0, [⟨31, 1, .rwl, true, 0, .any, false⟩, ⟨30, 1, .rwl, true, 0, .any, false⟩, ⟨29, 1, .rwl, true, 0, .any, false⟩, ⟨28, 1, .rwl, true, 0, .any, false⟩, ⟨27, 1, .rwl, true, 0, .any, false⟩, ⟨26, 1, .rwl, true, 0, .any, false⟩, ⟨24, 2, .rwl, true, 0, .within [(0, 2)], false⟩, ⟨16, 8, .rwl, true, 0, .within [(0, 254)], false⟩, ⟨12, 4, .rwl, true, 0, .within [(0, 2)], false⟩, ⟨11, 1, .rwl, true, 0, .any, false⟩, ⟨10, 1, .rwl, true, 0, .any, false⟩, ⟨0, 4, .rwl, true, 0, .any, false⟩]⟩,
  ⟨"CAN_OBJ_ID", 0x118004, [(0x80, 256)], .all, 0, [⟨0, 29, .rwl, true, 0, .any, false⟩]⟩,
  ⟨"CAN_OBJ_MASK", 0x118008, [(0x80, 256)], .all, 0, [⟨0, 29, .rwl, true, 0, .any, false⟩]⟩,
  ⟨"CAN_OBJ_TIME", 0x11800C, [(0x80, 256)], .all, 0, [⟨16, 16, .rwl, true, 0, .any, false⟩, ⟨0, 16, .rwl, true, 0, .any, false⟩]⟩,
  ⟨"CAN_OBJ_TMO", 0x118010, [(0x80, 256)], .all, 0, [⟨16, 16, .rwl, true, 0, .any, false⟩, ⟨0, 16, .rwl, true, 0, .any, false⟩]⟩,
  ⟨"CAN_OBJ_CMD", 0x118014, [(0x80, 256)], .all, 0, [⟨0, 2, .wo, false, 0, .within [(1, 2)], false⟩]⟩,
  ⟨"CAN_OBJ_STAT", 0x118018, [(0x80, 256)], .all, 0, [⟨31, 1, .ro, false, 0, .any, true⟩, ⟨30, 1, .ro, false, 0, .any, true⟩, ⟨29, 1, .ro, false, 0, .any, true⟩, ⟨28, 1, .ro, false, 0, .any, true⟩, ⟨24, 4, .ro, false, 0, .any, true⟩, ⟨16, 8, .ro, false, 0, .any, true⟩, ⟨8, 2, .ro, false, 0, .any, true⟩, ⟨0, 1, .ro, false, 0, .any, true⟩]⟩,
  ⟨"CAN_OBJ_RXHDR", 0x11801C, [(0x80, 256)], .all, 0, [⟨31, 1, .rs, false, 0, .any, false⟩, ⟨30, 1, .rs, false, 0, .any, false⟩, ⟨29, 1, .ro, false, 0, .any, false⟩, ⟨0, 29, .ro, false, 0, .any, false⟩]⟩,
  ⟨"CAN_OBJ_RXINFO", 0x118020, [(0x80, 256)], .all, 0, [⟨20, 1, .ro, false, 0, .any, false⟩, ⟨19, 1, .ro, false, 0, .any, false⟩, ⟨18, 1, .ro, false, 0, .any, false⟩, ⟨0, 4, .ro, false, 0, .any, false⟩]⟩,
  ⟨"CAN_OBJ_T_LO", 0x118024, [(0x80, 256)], .all, 0, [⟨0, 32, .ro, false, 0, .any, false⟩]⟩,
  ⟨"CAN_OBJ_T_HI", 0x118028, [(0x80, 256)], .all, 0, [⟨0, 32, .ro, false, 0, .any, false⟩]⟩]

def regDefs17b : List RegDef := [
  ⟨"CAN_OBJ_DEC", 0x11802C, [(0x80, 256)], .all, 0, [⟨16, 1, .ro, false, 0, .any, true⟩, ⟨0, 16, .ro, false, 0, .any, true⟩]⟩,
  ⟨"CAN_OBJ_CNT", 0x118030, [(0x80, 256)], .all, 0, [⟨16, 16, .rs, false, 0, .any, false⟩, ⟨0, 16, .rs, false, 0, .any, false⟩]⟩,
  ⟨"CAN_OBJ_DATA", 0x118040, [(0x80, 256), (4, 16)], .all, 0, [⟨0, 32, .rw, false, 0, .any, false⟩]⟩]

def regDefs18a : List RegDef := [
  ⟨"REC_SUMMARY", 0x120024, [], .all, 0, [⟨31, 1, .ro, false, 0, .any, true⟩, ⟨0, 17, .ro, false, 0, .any, true⟩]⟩,
  ⟨"REC_LOG_STAT", 0x121000, [], .all, 0, [⟨31, 1, .ro, false, 0, .any, true⟩, ⟨29, 2, .ro, false, 0, .any, true⟩, ⟨0, 17, .ro, false, 0, .any, true⟩]⟩,
  ⟨"REC_LOG_LOST", 0x121004, [], .all, 0, [⟨0, 16, .rs, false, 0, .any, false⟩]⟩,
  ⟨"REC_STAGE", 0x121008, [], .all, 0, [⟨16, 9, .ro, false, 0, .any, false⟩, ⟨0, 9, .ro, false, 0, .any, false⟩]⟩,
  ⟨"REC_STAGE_LOST", 0x12100C, [], .all, 0, [⟨0, 16, .rs, false, 0, .any, false⟩]⟩,
  ⟨"REC_CMD", 0x121010, [], .all, 0, [⟨0, 4, .wo, false, 0, .within [(1, 5)], false⟩]⟩,
  ⟨"REC_DRN_FROM", 0x121014, [], .all, 0, [⟨0, 17, .rw, false, 0, .within [(0, 87295)], false⟩]⟩,
  ⟨"REC_DRN_CNT", 0x121018, [], .all, 0, [⟨0, 17, .rw, false, 0, .any, false⟩]⟩,
  ⟨"REC_DRN_STAT", 0x12101C, [], .all, 0, [⟨31, 1, .ro, false, 0, .any, false⟩, ⟨30, 1, .ro, false, 0, .any, false⟩, ⟨0, 17, .ro, false, 0, .any, false⟩]⟩,
  ⟨"REC_FAIL_ADDR", 0x121020, [], .all, 0, [⟨31, 1, .ro, false, 0, .any, false⟩, ⟨30, 1, .ro, false, 0, .any, false⟩, ⟨0, 24, .ro, false, 0, .any, false⟩]⟩,
  ⟨"REC_CST_STAT", 0x121024, [], .all, 0, [⟨31, 1, .ro, false, 0, .any, false⟩, ⟨0, 6, .ro, false, 0, .any, false⟩]⟩,
  ⟨"REC_RESTORE", 0x121028, [], .all, 0, [⟨5, 1, .ro, false, 0, .any, false⟩, ⟨4, 1, .ro, false, 0, .any, false⟩, ⟨3, 1, .ro, false, 0, .any, false⟩, ⟨2, 1, .ro, false, 0, .any, false⟩, ⟨1, 1, .ro, false, 0, .any, false⟩, ⟨0, 1, .ro, false, 0, .any, false⟩]⟩,
  ⟨"REC_DISC", 0x12102C, [], .all, 0, [⟨0, 16, .rs, false, 0, .any, false⟩]⟩,
  ⟨"REC_LES", 0x121030, [], .all, 0, [⟨0, 32, .ro, false, 0, .any, false⟩]⟩,
  ⟨"REC_TRG_CFG", 0x122000, [(0x100, 16)], .all, 0, [⟨31, 1, .rwl, true, 0, .any, false⟩, ⟨28, 2, .rwl, true, 0, .within [(1, 2)], false⟩, ⟨24, 3, .rwl, true, 0, .within [(0, 5)], false⟩, ⟨16, 6, .rwl, true, 0, .within [(0, 32)], false⟩, ⟨0, 8, .rwl, true, 0, .any, false⟩]⟩,
  ⟨"REC_TRG_ADDR", 0x122004, [(0x100, 16)], .all, 0, [⟨0, 22, .rwl, true, 0, .steps 4 [(0, 1441788)], false⟩]⟩,
  ⟨"REC_TRG_MASK", 0x122008, [(0x100, 16)], .all, 0, [⟨0, 32, .rwl, true, 0, .any, false⟩]⟩,
  ⟨"REC_TRG_VAL", 0x12200C, [(0x100, 16)], .all, 0, [⟨0, 32, .rwl, true, 0, .any, false⟩]⟩,
  ⟨"REC_TRG_HOLD", 0x122010, [(0x100, 16)], .all, 0, [⟨0, 16, .rwl, true, 0, .any, false⟩]⟩,
  ⟨"REC_TRG_CNT", 0x122014, [(0x100, 16)], .all, 0, [⟨16, 16, .rs, false, 0, .any, false⟩, ⟨0, 16, .rs, false, 0, .any, false⟩]⟩,
  ⟨"REC_TRG_LAST_LO", 0x122018, [(0x100, 16)], .all, 0, [⟨0, 32, .ro, false, 0, .any, false⟩]⟩,
  ⟨"REC_TRG_LAST_HI", 0x12201C, [(0x100, 16)], .all, 0, [⟨0, 32, .ro, false, 0, .any, false⟩]⟩,
  ⟨"REC_TRG_SNAP", 0x122080, [(0x100, 16), (4, 32)], .all, 0, [⟨0, 22, .rwl, true, 0, .steps 4 [(0, 1441788)], false⟩]⟩,
  ⟨"REC_LAST", 0x123000, [(4, 48)], .all, 0, [⟨0, 32, .ro, false, 0, .any, true⟩]⟩]

def regDefs19a : List RegDef := [
  ⟨"MEM_SUMMARY", 0x130024, [], .all, 0, [⟨16, 11, .ro, false, 0, .any, true⟩, ⟨0, 6, .ro, false, 0, .any, true⟩]⟩,
  ⟨"MEM_SCRUB_POS", 0x131000, [], .all, 0, [⟨0, 22, .ro, false, 0, .any, false⟩]⟩,
  ⟨"MEM_SCRUB_CNT", 0x131004, [], .all, 0, [⟨16, 16, .rs, false, 0, .any, false⟩, ⟨0, 16, .rs, false, 0, .any, false⟩]⟩,
  ⟨"MEM_DRD", 0x131008, [], .all, 0, [⟨16, 16, .rs, false, 0, .any, false⟩, ⟨0, 16, .rs, false, 0, .any, false⟩]⟩,
  ⟨"MEM_SPARE", 0x13100C, [], .all, 0, [⟨16, 11, .ro, false, 0, .any, false⟩, ⟨0, 6, .ro, false, 0, .any, false⟩]⟩,
  ⟨"MEM_RET_LAST", 0x131010, [], .all, 0, [⟨12, 20, .ro, false, 0, .any, false⟩, ⟨0, 1, .ro, false, 0, .any, false⟩]⟩,
  ⟨"MEM_WEAR_A", 0x131014, [], .all, 0, [⟨0, 24, .ro, false, 0, .any, false⟩]⟩,
  ⟨"MEM_WEAR_B", 0x131018, [], .all, 0, [⟨0, 24, .ro, false, 0, .any, false⟩]⟩,
  ⟨"MEM_CAL_CFG", 0x13101C, [], .all, 0, [⟨0, 16, .rwl, true, 600, .within [(60, 65535)], false⟩]⟩,
  ⟨"MEM_CAL_STAT", 0x131020, [], .all, 0, [⟨16, 8, .ro, false, 0, .any, false⟩, ⟨8, 8, .ro, false, 0, .any, false⟩, ⟨0, 1, .ro, false, 0, .any, false⟩]⟩,
  ⟨"MEM_CAL_FAIL", 0x131024, [], .all, 0, [⟨0, 16, .rs, false, 0, .any, false⟩]⟩,
  ⟨"MEM_DISC", 0x131028, [], .all, 0, [⟨0, 16, .rs, false, 0, .any, false⟩]⟩,
  ⟨"MEM_TEL_SLUG", 0x132000, [], .all, 0, [⟨16, 16, .ro, false, 0, .any, false⟩, ⟨0, 16, .ro, false, 0, .any, false⟩]⟩,
  ⟨"MEM_TEL_TJ", 0x132004, [], .all, 0, [⟨16, 16, .ro, false, 0, .any, false⟩, ⟨0, 16, .ro, false, 0, .any, false⟩]⟩,
  ⟨"MEM_TEL_VBAT", 0x132008, [], .all, 0, [⟨16, 16, .ro, false, 0, .any, false⟩, ⟨0, 16, .ro, false, 0, .any, false⟩]⟩,
  ⟨"MEM_TEL_LAT", 0x13200C, [], .all, 0, [⟨16, 16, .ro, false, 0, .any, false⟩, ⟨0, 7, .ro, false, 0, .any, false⟩]⟩,
  ⟨"MEM_TEL_SINCE", 0x132010, [], .all, 0, [⟨0, 32, .ro, false, 0, .any, false⟩]⟩,
  ⟨"MEM_TEL_CMD", 0x132014, [], .all, 0, [⟨0, 1, .wo, false, 0, .any, false⟩]⟩]

def regDefs20a : List RegDef := [
  ⟨"SEC_SUMMARY", 0x140024, [], .all, 0, [⟨31, 1, .ro, false, 0, .any, true⟩, ⟨16, 1, .ro, false, 0, .any, true⟩, ⟨8, 1, .ro, false, 0, .any, true⟩, ⟨0, 2, .ro, false, 0, .any, true⟩]⟩,
  ⟨"SEC_FW_STAT", 0x141000, [], .all, 0, [⟨24, 8, .ro, false, 0, .any, false⟩, ⟨17, 1, .ro, false, 0, .any, false⟩, ⟨16, 1, .ro, false, 0, .any, false⟩, ⟨8, 1, .ro, false, 0, .any, false⟩]⟩,
  ⟨"SEC_FW_VER_A", 0x141004, [], .all, 0, [⟨0, 32, .ro, false, 0, .any, false⟩]⟩,
  ⟨"SEC_FW_VER_B", 0x141008, [], .all, 0, [⟨0, 32, .ro, false, 0, .any, false⟩]⟩,
  ⟨"SEC_FW_SVN", 0x14100C, [], .all, 0, [⟨16, 8, .ro, false, 0, .any, false⟩, ⟨0, 8, .ro, false, 0, .any, false⟩]⟩,
  ⟨"SEC_ARB", 0x141010, [], .all, 0, [⟨16, 8, .ro, false, 0, .any, false⟩, ⟨0, 8, .ro, false, 0, .any, false⟩]⟩,
  ⟨"SEC_CMD", 0x141014, [], .all, 0, [⟨0, 4, .wo, false, 0, .within [(1, 9)], false⟩]⟩,
  ⟨"SEC_CMD_STAT", 0x141018, [], .all, 0, [⟨31, 1, .ro, false, 0, .any, false⟩, ⟨0, 8, .ro, false, 0, .any, false⟩]⟩,
  ⟨"SEC_FW_OFS", 0x14101C, [], .all, 0, [⟨0, 22, .rw, false, 0, .steps 4096 [(0, 4194303)], false⟩]⟩,
  ⟨"SEC_FW_LEN", 0x141020, [], .all, 0, [⟨0, 16, .rw, false, 0, .steps 4 [(4, 32768)], false⟩]⟩,
  ⟨"SEC_SESS", 0x141024, [], .all, 0, [⟨31, 1, .ro, false, 0, .any, false⟩, ⟨30, 1, .ro, false, 0, .any, false⟩]⟩,
  ⟨"SEC_DBG_STAT", 0x141028, [], .all, 0, [⟨2, 1, .ro, false, 0, .any, false⟩, ⟨1, 1, .ro, false, 0, .any, false⟩, ⟨0, 1, .ro, false, 0, .any, false⟩]⟩,
  ⟨"SEC_CERT_STAT", 0x14102C, [], .all, 0, [⟨31, 1, .ro, false, 0, .any, true⟩, ⟨4, 1, .ro, false, 0, .any, true⟩, ⟨3, 1, .ro, false, 0, .any, true⟩, ⟨2, 1, .ro, false, 0, .any, true⟩, ⟨1, 1, .ro, false, 0, .any, true⟩, ⟨0, 1, .ro, false, 0, .any, true⟩]⟩,
  ⟨"SEC_TRNG_CNT", 0x141030, [], .all, 0, [⟨16, 1, .ro, false, 0, .any, false⟩, ⟨0, 16, .rs, false, 0, .any, false⟩]⟩,
  ⟨"SEC_SIGN_CNT", 0x141034, [], .all, 0, [⟨0, 16, .rs, false, 0, .any, false⟩]⟩,
  ⟨"SEC_DISC", 0x141038, [], .all, 0, [⟨0, 16, .rs, false, 0, .any, false⟩]⟩,
  ⟨"SEC_CERT_LIST", 0x141040, [(4, 8)], .all, 0, [⟨0, 32, .ro, false, 0, .any, false⟩]⟩,
  ⟨"SEC_DEVID_PUB", 0x142000, [(4, 16)], .all, 0, [⟨0, 32, .ro, false, 0, .any, false⟩]⟩,
  ⟨"SEC_DEVID_ATT", 0x142040, [(4, 16)], .all, 0, [⟨0, 32, .ro, false, 0, .any, false⟩]⟩,
  ⟨"SEC_OEM_KEY", 0x142100, [(0x40, 3), (4, 16)], .all, 0, [⟨0, 32, .ro, false, 0, .any, false⟩]⟩,
  ⟨"SEC_CHAL", 0x142200, [(4, 4)], .all, 0, [⟨0, 32, .ro, false, 0, .any, false⟩]⟩,
  ⟨"SEC_STAGE", 0x143000, [(4, 64)], .all, 0, [⟨0, 32, .rw, false, 0, .any, false⟩]⟩,
  ⟨"SEC_HOST_KEY", 0x144000, [(4, 16)], .all, 0, [⟨0, 32, .ro, true, 0, .any, false⟩]⟩,
  ⟨"SEC_WIN", 0x148000, [(4, 8192)], .all, 0, [⟨0, 32, .rw, false, 0, .any, false⟩]⟩]

def regDefs21a : List RegDef := [
  ⟨"PLB_SUMMARY", 0x150024, [], .all, 0, [⟨8, 4, .ro, false, 0, .any, true⟩, ⟨0, 4, .ro, false, 0, .any, true⟩]⟩,
  ⟨"PLB_DISC", 0x150028, [], .all, 0, [⟨0, 16, .rs, false, 0, .any, false⟩]⟩,
  ⟨"PLB_CFG", 0x151000, [(0x40, 4)], .all, 0, [⟨30, 2, .rw, true, 0, .within [(0, 2)], false⟩, ⟨29, 1, .rw, true, 0, .any, false⟩, ⟨28, 1, .rw, true, 0, .any, false⟩, ⟨24, 4, .rw, true, 0, .any, false⟩, ⟨9, 1, .rw, true, 0, .any, false⟩, ⟨8, 1, .rw, true, 0, .any, false⟩, ⟨0, 6, .rw, true, 0, .any, false⟩]⟩,
  ⟨"PLB_POLY_LO", 0x151004, [(0x40, 4)], .all, 0, [⟨0, 32, .rw, true, 0, .any, false⟩]⟩,
  ⟨"PLB_POLY_HI", 0x151008, [(0x40, 4)], .all, 0, [⟨0, 32, .rw, true, 0, .any, false⟩]⟩,
  ⟨"PLB_INIT_LO", 0x15100C, [(0x40, 4)], .all, 0, [⟨0, 32, .rw, true, 0, .any, false⟩]⟩,
  ⟨"PLB_INIT_HI", 0x151010, [(0x40, 4)], .all, 0, [⟨0, 32, .rw, true, 0, .any, false⟩]⟩,
  ⟨"PLB_XOR_LO", 0x151014, [(0x40, 4)], .all, 0, [⟨0, 32, .rw, true, 0, .any, false⟩]⟩,
  ⟨"PLB_XOR_HI", 0x151018, [(0x40, 4)], .all, 0, [⟨0, 32, .rw, true, 0, .any, false⟩]⟩,
  ⟨"PLB_ADDR", 0x15101C, [(0x40, 4)], .all, 0, [⟨0, 32, .rw, false, 0, .any, false⟩]⟩,
  ⟨"PLB_LEN", 0x151020, [(0x40, 4)], .all, 0, [⟨0, 28, .rw, false, 0, .any, false⟩]⟩,
  ⟨"PLB_EXP_LO", 0x151024, [(0x40, 4)], .all, 0, [⟨0, 32, .rw, false, 0, .any, false⟩]⟩,
  ⟨"PLB_EXP_HI", 0x151028, [(0x40, 4)], .all, 0, [⟨0, 32, .rw, false, 0, .any, false⟩]⟩,
  ⟨"PLB_CMD", 0x15102C, [(0x40, 4)], .all, 0, [⟨0, 2, .wo, false, 0, .within [(1, 2)], false⟩]⟩,
  ⟨"PLB_STAT", 0x151030, [(0x40, 4)], .all, 0, [⟨29, 3, .ro, false, 0, .any, true⟩, ⟨28, 1, .ro, false, 0, .any, true⟩, ⟨27, 1, .ro, false, 0, .any, true⟩]⟩,
  ⟨"PLB_RES_LO", 0x151034, [(0x40, 4)], .all, 0, [⟨0, 32, .ro, false, 0, .any, false⟩]⟩,
  ⟨"PLB_RES_HI", 0x151038, [(0x40, 4)], .all, 0, [⟨0, 32, .ro, false, 0, .any, false⟩]⟩,
  ⟨"PLB_DONE", 0x15103C, [(0x40, 4)], .all, 0, [⟨0, 28, .ro, false, 0, .any, false⟩]⟩]

/-- The registers of the block of region index `b` (R95), page 0 apart. -/
def regDefs (b : Nat) : List RegDef :=
  match b with
  | 1 => regDefs1a
  | 2 => regDefs2a
  | 3 => regDefs3a
  | 4 => regDefs4a
  | 5 => regDefs5a
  | 6 => regDefs6a
  | 7 => regDefs7a ++ regDefs7b
  | 8 => regDefs8a ++ regDefs8b ++ regDefs8c
  | 9 => regDefs9a ++ regDefs9b ++ regDefs9c
  | 10 => regDefs10a ++ regDefs10b
  | 11 => regDefs11a ++ regDefs11b ++ regDefs11c
  | 12 => regDefs12a ++ regDefs12b
  | 13 => regDefs13a ++ regDefs13b
  | 14 => regDefs14a ++ regDefs14b
  | 15 => regDefs15a ++ regDefs15b
  | 16 => regDefs16a ++ regDefs16b
  | 17 => regDefs17a ++ regDefs17b
  | 18 => regDefs18a
  | 19 => regDefs19a
  | 20 => regDefs20a
  | 21 => regDefs21a
  | _ => []

end Sys2Proof.Machine
end

