-- ==== Sys2Proof/Machine/Mem.lean ====
section
/-! DEFINITION. Memory care: DRAM parity, page retirement and the scrub (R35 to R38, R631, R632), calibration and telemetry
(R635 to R637), and parity errors on the fabric (R35). -/

namespace Sys2Proof.Machine

open Sys2Proof

def State.modMem (s : State) (f : MemState → MemState) : State := { s with memCare := f s.memCare }

/-! ## Lost pages (R37, R38) -/

/-- `n` bytes from `a` whose contents are lost: free values (log entry 5). -/
def State.scramble (s : State) (a : Nat) : Nat → State
  | 0 => s
  | n + 1 => let r := s.free 8; (r.2.setByte a (BitVec.ofNat 8 r.1)).scramble (a + 1) n

/-- The entries of lane `n` in the page at `a` that lie between TAIL and HEAD are written to zero and counted (R139). -/
def State.lanePageLost (s : State) (a n : Nat) : State :=
  let size := s.laneSize n
  let t := s.get (F.LANE_TAIL_TAIL n)
  let hit := ((List.range (s.laneLevel n)).map (fun k => (t + k) % size)).filter (fun i => s.laneSlot n i / 4096 == a / 4096)
  let s := s.each hit (fun s i => s.setBytes (s.laneSlot n i) (List.replicate 64 0))
  if hit.isEmpty then s else (s.count (F.LANE_LOST n) hit.length).raise 18

/-- A plumb unit that has still to read of the page at `a` loses it; one that has read all it needs of the page goes on
(R680). -/
def State.plbPageLost (s : State) (a u : Nat) : State :=
  match s.plb.get u with
  | none => s
  | some r =>
    let n := s.plbProgress u r
    match s.plbPage r (a / 4096) with
    | some (_, last) => if n < last then s.plbLost u n else s
    | none => s

/-- The contents of the 4 KB page at `a` are lost (R38). -/
def State.pageLost (s : State) (a : Nat) (eng : Nat) : State :=
  let p := a / 4096 * 4096
  let s := s.each [0, 1, 2, 3] (fun s u => s.plbPageLost p u)
  if p < 0x1A000000 then s.mapPageLost p
  else
    let s := s.scramble p 4096
    if p < 0x1E000000 then
      if !s.inCapture p then s
      else
        let s := s.snapBreak
        if s.get F.GNSS_SNAP_STAT_PAGES = 0 then s else s.put F.GNSS_SNAP_STAT_INC 1
    else if p < 0x1F000000 then s.each ((List.range 16).filter s.laneOn) (fun s n => s.lanePageLost p n)
    else
      let s := s.raise 235
      if eng = 6 ∨ eng = 7 then
        s.modStr (fun x => { x with rebuild := if x.rebuild.contains eng then x.rebuild else x.rebuild ++ [eng] })
      else s

/-! ## Spare pages (R37, R632) -/

/-- The page number of spare 0; spare k lies k pages below it (R37). -/
def spareTop : Nat := 0x1DFFF

/-- The page is spare k of the pool, with its number. -/
def spareOf (page : Nat) : Option Nat := if spareTop - 1023 ≤ page ∧ page ≤ spareTop then some (spareTop - page) else none

/-- The spare that is taken next: the first not taken that is not skipped (R37). -/
def MemState.next (m : MemState) : Option Nat := (List.range 1024).find? (fun k => decide (m.taken ≤ k) && !m.bad.contains k)

/-- A page is retired to the next spare, or stays mapped and is dead where there is none (R37). -/
def MemState.retire (m : MemState) (page : Nat) : MemState :=
  match m.next with
  | some k => { m with taken := k + 1, remap := m.remap.filter (fun e => e.1 != page) ++ [(page, k)] }
  | none => { m with taken := 1024, noSpare := true, dead := if m.dead.contains page then m.dead else m.dead ++ [page] }

/-- What every read of page `p` of the map and lane windows shows once it is dead (R37): unknown cells (R38), and entries of
TYPE 0x00, which count as lost (log entry 1813). In the other windows the lost contents stand, and a page of fence planes
keeps what was rebuilt (R300). -/
def State.deadFill (s : State) (p : Nat) : State :=
  if p < 0x1A000 then
    if (p * 4096 - dramBase) % s.slotBytes < s.geoNL * 16384 then s.setBytes (p * 4096) (List.replicate 4096 0xFF) else s
  else if 0x1E000 ≤ p ∧ p < 0x1F000 then s.setBytes (p * 4096) (List.replicate 4096 0)
  else s

/-- The page `p` of the address map loses its contents and goes to the next spare, or stays mapped where there is none
(R37). Its contents are lost before it is dead, so that what is read from it afterwards is what the loss left. -/
def State.retirePage (s : State) (p eng : Nat) : State :=
  let spared := s.memCare.next.isSome
  let s := s.pageLost (p * 4096) eng
  let s := if spared then s else s.deadFill p
  let s := s.modMem (fun m => m.retire p)
  let s := s.put F.MEM_SPARE_PAGES s.memCare.taken
  if spared then
    let s := (s.put F.MEM_RET_LAST_PAGE p).put F.MEM_RET_LAST_VALID 1
    (s.raise 233).put ⟨H.sticky .mem, 0, 1⟩ 1
  else (s.raise 234).put ⟨H.sticky .mem, 1, 1⟩ 1

/-- The page that failed is retired at the read that met its persistent error (R37, R632): of a spare in use the page that
is mapped to it, of a spare that waits for its turn its own page, and it is skipped then. Nothing is mapped to a spare
that was skipped, so its failure loses nothing. -/
def State.retire (s : State) (page eng : Nat) : State :=
  match spareOf page with
  | none => s.retirePage page eng
  | some k =>
    match s.memCare.remap.find? (fun e => e.2 == k) with
    | some e => s.retirePage e.1 eng
    | none => if k < s.memCare.taken then s else (s.modMem (fun m => { m with bad := k :: m.bad })).retirePage page eng

/-- A read of DRAM that met a parity error (R37). -/
def State.dramError (s : State) (a : Nat) (e : DramError) : State :=
  let s := s.count F.MEM_DRD_RETRY (if e.persist then 3 else e.retries.val)
  if e.persist then (s.count F.MEM_DRD_PERSIST 1).retire (a / 4096) e.eng.val else s

/-- The DRAM test of PU2 (R37, R632): spares that fail are skipped, other pages are retired without an event; a pool that runs
empty is reported. -/
def State.dramTest (s : State) (spares : List (Fin 1024)) (pages : List (BitVec 16)) : State :=
  let fails := pages.map (fun p => 0x10000 + p.toNat)
  let m := fails.foldl (fun m p => if (spareOf p).isSome then m else m.retire p)
    { s.memCare with bad := spares.map (·.val) ++ fails.filterMap spareOf }
  let s := s.each (m.dead.filter (fun p => !s.memCare.dead.contains p)) (fun s p => (s.scramble (p * 4096) 4096).deadFill p)
  let s := s.modMem (fun _ => m)
  let s := s.put F.MEM_SPARE_PAGES s.memCare.taken
  if s.memCare.noSpare then (s.raise 234).put ⟨H.sticky .mem, 1, 1⟩ 1 else s

/-- DRAM_PARITY_ERROR (R37): in the DRAM windows. -/
def execDramParityError (addr : Word) (err : DramError) (s : State) : Answer :=
  .next (if dramBase ≤ addr.toNat ∧ addr.toNat < dramEnd then s.dramError addr.toNat err else s)

/-- SCRUB_READ (R631): one 64-byte unit. -/
def execScrubRead (err : Option DramError) (s : State) : Answer :=
  .next (if !s.runs .mem then s
    else
      let u := s.get F.MEM_SCRUB_POS
      let s := match err with
        | none => s
        | some e => (s.dramError (dramBase + 64 * u) e).when (!e.persist) (fun s => s.count F.MEM_SCRUB_CNT_FIXED 1)
      let s := s.put F.MEM_SCRUB_POS (u + 1)
      if u + 1 = 4194304 then (s.count F.MEM_SCRUB_CNT_PASS 1).raise 236 else s)

/-! ## Fabric parity (R35) -/

/-- A command on its way to its die is given up: dropped and counted in the Stride statistics (R35, R320). -/
def State.wireLost (s : State) (c : OutCmd) (kind : Nat) : State :=
  match c.src with
  | .stride p => s.strDropped p (c.op == 1)
  | .lead t => (s.count F.STR_CNT_DROP 1).satReport kind c.out 6 t t
  | .host => s.count F.STR_CNT_DROP 1

/-- FABRIC_PARITY_ERROR (R35): given up after the third re-send, FAB_PAR is raised; a transfer that is re-sent and accepted
has no further effect. A lost entry is one that the SV-96 was to produce, or the oldest one that it was to consume. -/
def execFabricParityError (load : FabricLoad) (givenUp : Bool) (s : State) : Answer :=
  .next (if !givenUp then s
    else
      let s := s.raise 1
      match load with
      | .register w => { s with parity := some w }
      | .laneEntry n =>
        if s.laneOut n.val then
          let s := { s with lanes := s.lanes.modify n.val (fun l => { l with lseq := l.lseq + 1 }) }
          s.laneLose n.val 1
        else
          let s := if s.laneIn n.val then (s.laneTake n.val).2 else s
          let s := s.when (n.val == 6) State.rtcmCut
          (s.count (F.LANE_LOST n.val) 1).raise 18
      | .solCommand =>
        match s.str.solWire with
        | [] => s
        | c :: t => (s.modStr (fun x => { x with solWire := t })).wireLost c 1
      | .hswCommand =>
        match s.str.hswWire with
        | [] => s
        | c :: t => (s.modStr (fun x => { x with hswWire := t })).wireLost c 2
      | .canCommand p =>
        match (s.pt p.val).queue with
        | c :: _ => if bindKind c.bind = 3 then s.strDropped p.val c.on else s
        | [] => s
      | .other => s)

/-! ## Calibration (R635, R636) -/

/-- The number of a unit among the calibrated ones. -/
def calIndex : CalUnit → Nat
  | .sol n => n.val
  | .hsw k => 96 + k.val
  | .adc => 120

/-- A calibration ends: within limits its trim is kept; else the previous trim stays and the result is counted. -/
def State.calibrated (s : State) (u : Option Nat) (ok : Bool) : State :=
  if ok then match u with | some i => s.modMem (fun m => { m with calAt := m.calAt.set i s.clk }) | none => s
  else ((s.count F.MEM_CAL_FAIL 1).raise 237).put ⟨H.sticky .mem, 2, 1⟩ 1

/-- How many of some units have not been calibrated for 2 × CAL_T (R636). -/
def State.overdue (s : State) (units : List Nat) : Nat :=
  (units.filter (fun i => s.passed (s.memCare.calAt.get i) (2 * s.get F.MEM_CAL_CFG_CAL_T * second))).length

/-- MEM_CAL_STAT (R648): of the present units. -/
def State.calStat (s : State) : Nat :=
  s.overdue ((List.range 96).filter s.solHere) * 2 ^ 16 + s.overdue (s.hswAll.map (96 + ·)) * 2 ^ 8 + s.overdue [120]

/-- CALIBRATION_DONE (R635): of a channel or switch whose calibration runs; a failed current-sense self-test makes the
channel's sensing unavailable (R427). -/
def execCalibrationDone (u : CalUnit) (ok sense : Bool) (s : State) : Answer :=
  .next (match u with
    | .sol n =>
      if s.phase n.val = 7 then
        let s := (s.setPhase n.val 0).calibrated (some (calIndex u)) ok
        if sense then ((s.modArm n.val (fun a => { a with fail := true })).raise 171).put ⟨H.sticky .arm, 1, 1⟩ 1 else s
      else s
    | .hsw k =>
      if (s.hsw.get k.val).cal then (s.modHsw k.val (fun c => { c with cal := false })).calibrated (some (calIndex u)) ok else s
    | .adc => if s.runs .mem then s.calibrated (some (calIndex u)) ok else s)

/-- SUPPLY_CAL (R635). -/
def execSupplyCal (ok : Bool) (s : State) : Answer := .next (if s.runs .mem then s.calibrated none ok else s)

/-! ## Telemetry (R637, R648) -/

/-- The greatest lat_o in µs, the learned opening latency that Stride reads (R418), and its channel. -/
def State.topLat (s : State) : Nat × Nat :=
  (List.range s.nSol).foldl (fun (b : Nat × Nat) n => let v := s.get (F.ARM_CH_LAT_LO n); if b.1 < v then (v, n) else b) (0, 0)

/-- A signed 16-bit field takes the greater, or the lesser, of itself and `v`. -/
def State.extreme (s : State) (f : Fld) (hi : Bool) (v : Int) : State :=
  let x := s.gets f
  s.puts f (if hi then max x v else min x v)

/-- The extremes take in the present values. -/
def State.telSample (s : State) : State :=
  let slug := s.gets F.PWR_SLUG
  let vbat := s.sense F.PWR_VBAT_VBAT
  let s := (s.extreme F.MEM_TEL_SLUG_HI true slug).extreme F.MEM_TEL_SLUG_LO false slug
  let s := (s.extreme F.MEM_TEL_TJ_A true (s.gets (F.SOL_DIE_TJ 0))).extreme F.MEM_TEL_TJ_B true (s.gets (F.SOL_DIE_TJ 1))
  let s := (s.put F.MEM_TEL_VBAT_HI (max (s.get F.MEM_TEL_VBAT_HI) vbat)).put F.MEM_TEL_VBAT_LO (min (s.get F.MEM_TEL_VBAT_LO) vbat)
  let t := s.topLat
  if s.get F.MEM_TEL_LAT_LAT < t.1 then (s.put F.MEM_TEL_LAT_LAT t.1).put F.MEM_TEL_LAT_CH t.2 else s

/-- CLEAR restarts every extreme from the present value (R648). -/
def State.telClear (s : State) : State :=
  let slug := s.get F.PWR_SLUG
  let vbat := s.sense F.PWR_VBAT_VBAT
  let s := (s.put F.MEM_TEL_SLUG_HI slug).put F.MEM_TEL_SLUG_LO slug
  let s := (s.put F.MEM_TEL_TJ_A (s.get (F.SOL_DIE_TJ 0))).put F.MEM_TEL_TJ_B (s.get (F.SOL_DIE_TJ 1))
  let s := (s.put F.MEM_TEL_VBAT_HI vbat).put F.MEM_TEL_VBAT_LO vbat
  let t := s.topLat
  ((s.put F.MEM_TEL_LAT_LAT t.1).put F.MEM_TEL_LAT_CH t.2).setNat R.MEM_TEL_SINCE (s.nat R.PWR_HOURS)

/-- TELEMETRY_SAMPLE (R637). -/
def execTelemetrySample (s : State) : Answer := .next (if s.runs .mem then s.telSample else s)

/-- TELEMETRY_PERSIST (R637): class 4 flash work. -/
def execTelemetryPersist (s : State) : Answer :=
  .next (if s.runs .mem then s.modFlash (fun x => { x with class4 := x.class4 ++ [.telemetry] }) else s)

/-! ## The block as a whole (R641, R647) -/

/-- ENABLE of MEM goes from 1 to 0: class 4 work that has not started is discarded and counted; an erase or a move that has begun
rests until ENABLE is 1 again (log entry 1816). -/
def State.memDisable (s : State) : State :=
  let begun : FlashOp → Bool := fun o => match o with | .erase _ _ b => b | .move _ _ _ b => b | _ => false
  let n := (s.flash.class4.filter (fun o => !begun o)).length
  (s.count F.MEM_DISC n).modFlash (fun x => { x with class4 := x.class4.filter begun })

/-- Plane B spare sectors left (R39, R633). -/
def State.sectorsLeft (s : State) : Nat := 32 - s.flash.taken

/-- MEM_SUMMARY (R647), and MEM_SPARE. -/
def State.memSummary (s : State) : Nat := s.get F.MEM_SPARE_PAGES * 2 ^ 16 + s.sectorsLeft

end Sys2Proof.Machine
end

