-- ==== Sys2Proof/Machine/Flash.lean ====
section
/-! DEFINITION. The flash interface and what it carries (R629, R633, R634), the event log, its drains and the cornerstone
area (R620 to R630). How records are formed is in Machine/Rec.lean. -/

namespace Sys2Proof.Machine

open Sys2Proof

def State.modRec (s : State) (f : RecState → RecState) : State := { s with recd := f s.recd }

/-- The records that the log holds at most (R620). -/
def logSize : Nat := 87296

/-! ## The log (R620 to R623) -/

/-- The log is stopped with WHY = full or failed: firings are only counted (R622, R625). -/
def State.logDead (s : State) : Bool := s.recd.failed || decide (logSize ≤ s.recd.log.length)

/-- REC_STAGE and REC_LOG_STAT show the buffer and the log (R644). -/
def State.recShow (s : State) : State :=
  let n := s.recd.staged.length
  let s := (s.put F.REC_STAGE_NOW n).put F.REC_STAGE_MAX (max n (s.get F.REC_STAGE_MAX))
  let s := s.put F.REC_LOG_STAT_N s.recd.log.length
  let why := if s.recd.failed then 2 else if s.recd.erasing = some 0 then 3 else if s.logDead then 1 else 0
  (s.put F.REC_LOG_STAT_WHY why).putB F.REC_LOG_STAT_STOP (why != 0)

/-- The 64-byte header of log sector `k` (R620); its layout and its marker are not given (log entry 1815). -/
def State.logHeader (s : State) (k : Nat) : List Byte :=
  let h := s.recd.heads.get k
  let b := leBytes 4 Config.logMarker.toNat ++ leBytes 4 h.les ++ leBytes 4 k ++ leBytes 4 h.erases ++ List.replicate 44 0
  b ++ leBytes 4 (crc32c b).toNat

/-- The 192 bytes of a record with its number (R619). -/
def recordBytes (rnum : Nat) (r : Staged) : List Byte :=
  let h := leBytes 4 rnum ++ padTo 56 r.head
  let b := padTo 128 r.snap
  h ++ leBytes 4 (crc32c (h ++ b)).toNat ++ b

/-- The next slot of the log lies in an erased sector, and the log runs (R620, R623). -/
def State.logReady (s : State) : Bool :=
  !s.logDead && (match s.recd.erasing with | none => true | some k => decide (s.recd.log.length / 341 < k))

/-- The oldest staged record is programmed (R620, R630); the last slot fills the log (R622). -/
def State.logProgram (s : State) : State :=
  match s.recd.staged with
  | [] => s
  | r :: t =>
    if !s.logReady then s
    else
      let s := s.modRec (fun x => { x with staged := t, log := x.log ++ [recordBytes x.log.length r]
                                           episode := x.episode && !t.isEmpty })
      let s := if logSize ≤ s.recd.log.length then
          let n := s.recd.staged.length
          let s := ((s.raise 225).put ⟨H.sticky .recorder, 0, 1⟩ 1).count F.REC_LOG_LOST n
          s.modRec (fun x => { x with staged := [], episode := false })
        else s
      s.recShow

/-- REC_CMD ERASE (R623). -/
def State.logErase (s : State) : State :=
  let s := s.modRec (fun x => { x with les := x.les + 1, log := [], erasing := some 0, failed := false })
  (s.setNat R.REC_LES s.recd.les).recShow

/-- The plane B sector in which sector `k` of R39 has its contents (R633). -/
def State.sectorHome (s : State) (k : Nat) : Nat := match s.flash.homes.find? (fun e => e.1 == k) with | some e => e.2 | none => k

/-- Sector `k` of R39 has its contents in sector `d` from now on. -/
def State.sectorAt (s : State) (k d : Nat) : State :=
  s.modFlash (fun x => { x with homes := x.homes.filter (fun e => e.1 != k) ++ (if k = d then [] else [(k, d)]) })

/-- An erase of a sector is counted (R634): 80,000 erases raise WEAR_LIM. -/
def State.wear (s : State) (planeA : Bool) (sector : Nat) : State :=
  let t := if planeA then s.flash.wearA else s.flash.wearB
  let n := t.get sector + 1
  let s := s.modFlash (fun x => if planeA then { x with wearA := x.wearA.set sector n } else { x with wearB := x.wearB.set sector n })
  s.raiseIf (n == 80000) 238

/-- The highest erase count of a plane (R634, R648). -/
def wearMax (t : Table Nat) : Nat := t.foldl (fun m e => max m e.2) 0

/-- Sectors `k` to `k + n - 1` of plane B are erased, each where its contents lie: its sectors are numbered in the order of R39,
from firmware slot A on (log entry 1814). -/
def State.wearB (s : State) (k n : Nat) : State := s.each (List.range n) (fun s i => s.wear false (s.sectorHome (k + i)))

/-- LOG_SECTOR_ERASED (R623): once sector 0 is erased recording resumes at RNUM 0. -/
def execLogSectorErased (s : State) : Answer :=
  .next (match s.recd.erasing with
    | none => s
    | some k =>
      let s := s.wear true k
      let h : LogHead := { les := s.recd.les, erases := s.flash.wearA.get k }
      (s.modRec (fun x => { x with erasing := if k + 1 = 256 then none else some (k + 1), heads := x.heads.set k h })).recShow)

/-- A record of which a power loss cut the programming (R621): its bytes are free, and its CRC does not match. -/
def cutRecord (n : Nat) : List Byte :=
  let b := padTo 192 (Config.failedFlash n (List.replicate 192 0xFF))
  let good := leBytes 4 (crc32c (b.take 60 ++ b.drop 64)).toNat
  if (b.drop 60).take 4 = good then b.take 60 ++ good.map (~~~ ·) ++ b.drop 64 else b

/-- A power loss comes while the interface programs records: of those its slot was to program a free number is there, the last of
them cut (R621, log entry 1804). -/
def State.logCut (s : State) : State :=
  let k := min ((Config.freeValue s.fresh).toNat % 5) s.recd.staged.length
  let s := { s with fresh := s.fresh + 1 }
  if k = 0 || !s.logReady || !s.powered then s
  else
    let s := s.each (List.range (k - 1)) (fun s _ => s.logProgram)
    if s.logReady then { s.modRec (fun x => { x with log := x.log ++ [cutRecord s.fresh] }) with fresh := s.fresh + 1 } else s

/-! ## Failures (R625 to R627) -/

/-- The 64 bytes of a failure record (R626). -/
def State.failureRecord (s : State) (erase : Bool) (addr : Nat) : List Byte :=
  let b := leBytes 4 s.recd.les ++ leBytes 1 (if erase then 2 else 1) ++ leBytes 1 (addr / 65536) ++ leBytes 2 0 ++
    leBytes 4 addr ++ leBytes 4 (if erase then 0xFFFFFFFF else s.recd.log.length) ++ leBytes 4 (s.nat R.PWR_HOURS) ++
    leBytes 4 (s.nat R.PWR_PCYC) ++ leBytes 8 s.now ++ List.replicate 28 0
  b ++ leBytes 4 (crc32c b).toNat

/-- LOG_PROGRAM_FAIL (R625 to R627): a failure record is written while the cornerstone area has room. -/
def execLogProgramFail (erase : Bool) (addr : BitVec 24) (cstOk : Bool) (s : State) : Answer :=
  .next (if s.recd.failed || !s.present .recorder then s
    else
      let r := s.failureRecord erase addr.toNat
      let s := ((s.put F.REC_FAIL_ADDR_VALID 1).putB F.REC_FAIL_ADDR_OP erase).put F.REC_FAIL_ADDR_A addr.toNat
      let s := (s.raise 226).put ⟨H.sticky .recorder, 1, 1⟩ 1
      let s := s.count F.REC_LOG_LOST s.recd.staged.length
      let s := s.modRec (fun x => { x with failed := true, erasing := none, staged := [], episode := false })
      let s := if 32 ≤ s.recd.cst.length then s
        else if cstOk then
          let s := s.modRec (fun x => { x with cst := x.cst ++ [r] })
          s.put F.REC_CST_STAT_N s.recd.cst.length
        else ((s.put F.REC_CST_STAT_CST_FAIL 1).raise 227).put ⟨H.sticky .recorder, 3, 1⟩ 1
      s.recShow)

/-- REC_CMD CST_CLEAR (R628). -/
def State.cstClear (s : State) : State := ((s.modRec (fun x => { x with cst := [] })).put F.REC_CST_STAT_N 0).wearB 224 1

/-! ## Drains (R624, R628) -/

/-- A drain starts: of the cornerstone area, or of the log from REC_DRN_FROM. -/
def State.logDrain (s : State) (cst : Bool) : State :=
  let n := s.get F.REC_DRN_CNT
  let a := s.get F.REC_DRN_FROM
  let d : LogDrain := if cst then ⟨true, 0, some s.recd.cst.length⟩ else ⟨false, a, if n = 0 then none else some (a + n)⟩
  let s := ((s.put F.REC_DRN_STAT_BUSY 1).putB F.REC_DRN_STAT_CST cst).put F.REC_DRN_STAT_N 0
  s.modRec (fun x => { x with drain := some d })

/-- The drain ends. -/
def State.logDrainEnd (s : State) : State := (s.modRec (fun x => { x with drain := none })).put F.REC_DRN_STAT_BUSY 0

/-- Entries of 56 payload bytes each (R624). -/
def drainEntries (type aux : Nat) : Nat → List Byte → List LaneEntry
  | 0, _ => []
  | k + 1, b => ⟨type, aux, b.take 56⟩ :: drainEntries type aux k (b.drop 56)

/-- Whether the drain has a record left, and its bytes. -/
def State.drainRecord (s : State) (d : LogDrain) : Option (List Byte) :=
  if (match d.last with | some e => decide (e ≤ d.next) | none => false) then none
  else (if d.cst then s.recd.cst else s.recd.log)[d.next]?

/-- The drain sends its next record into LANE1, or ends where none is left (R624, R628). -/
def State.logDrainStep (s : State) : State :=
  match s.recd.drain with
  | none => s
  | some d =>
    match s.drainRecord d with
    | none => s.logDrainEnd
    | some b =>
      let m := if d.cst then drainEntries 0xE2 d.next 2 b else drainEntries 0xE1 d.next 4 b
      let s := (s.laneProduce 1 m).put F.REC_DRN_STAT_N (s.get F.REC_DRN_STAT_N + 1)
      s.modRec (fun x => { x with drain := some { d with next := d.next + 1 } })

/-- The drain goes on while LANE1 holds nothing back (R138, R624). -/
def State.logDrainPump (s : State) : State := if (s.lanes.get 1).held.isEmpty then s.logDrainStep else s

/-- Sends up to `k` further records. -/
def State.logDrainAll (s : State) : Nat → State
  | 0 => s
  | k + 1 => if s.recd.drain.isNone then s else s.logDrainStep.logDrainAll k

/-- LOG_DRAIN_DONE (R624): what is left is copied and the drain ends. -/
def execLogDrainDone (s : State) : Answer :=
  .next (match s.recd.drain with
    | none => s
    | some _ => (s.logDrainAll (s.recd.log.length + s.recd.cst.length + 1)).logDrainEnd)

/-! ## The flash interface (R629, R633) -/

/-- The records a slot programs: up to 4 (R629). -/
def State.logSlot (s : State) : State := s.logProgram.logProgram.logProgram.logProgram

/-- A record-store write, a PERSIST or another operation of class 3 is served. -/
def State.flashServe (s : State) (o : FlashOp) : State :=
  match o with
  | .hours => s.storeHours
  | .periodic => s.storePeriodic
  | .persist => s.modFlash (fun x => { x with running := true })
  | .telemetry => s.storeTel
  | .erase k _ _ => s.wearB k 1
  | .move k d .. => let h := s.sectorHome k; (s.sectorAt k (s.sectorHome d)).sectorAt d h
  | .image | .firmware => s

/-- What is left of an operation after a slot: an erase or a move can take more than one. -/
def FlashOp.rest : FlashOp → Option FlashOp
  | .erase k (n + 2) _ => some (.erase k (n + 1) true)
  | .move k d (n + 2) _ => some (.move k d (n + 1) true)
  | _ => none

/-- The first of some waiting operations gets a slot: one that needs more slots stays in front. -/
def State.flashFirst (s : State) (o : FlashOp) (set : List FlashOp → State → State) (t : List FlashOp) : State :=
  match o.rest with
  | some r => set (r :: t) s
  | none => (set t s).flashServe o

/-- Class 4 work gets a slot. -/
def State.flashBack (s : State) : State :=
  match s.flash.class4 with
  | [] => s
  | o :: t => s.flashFirst o (fun l s => s.modFlash (fun x => { x with class4 := l })) t

/-- One 1 ms slot (R629): by class, but class 4 work that has waited 15 slots gets the 16th. While MEM is disabled a begun erase
rests (R641). -/
def State.flashSlot (s : State) : State :=
  let back := s.enabled .mem && !s.flash.class4.isEmpty
  let wait (s : State) : State := s.modFlash (fun x => { x with waited := if back then x.waited + 1 else 0 })
  let last (s : State) : State := s.flashBack.modFlash (fun x => { x with waited := 0 })
  if back && decide (15 ≤ s.flash.waited) then last s
  else if s.flash.urgent then wait (s.storeHours.modFlash (fun x => { x with urgent := false }))
  else if s.logReady && !s.recd.staged.isEmpty then wait s.logSlot
  else match s.flash.class3 with
    | o :: t => wait (s.flashFirst o (fun l s => s.modFlash (fun x => { x with class3 := l })) t)
    | [] => if back then last s else wait s

/-- A foreground write of the record store waits (R629). -/
def State.storeWaits (s : State) : Bool :=
  s.flash.urgent || s.flash.running || s.flash.class3.any (fun o => o == .hours || o == .periodic || o == .persist)

/-- The work that comes with a slot is queued: that of wear management in class 4, only while MEM runs, and an erase that a waiting
write needs at once in front of class 3, whatever ENABLE holds (R629, R633, R641). -/
def State.flashQueue (s : State) (w : FlashWork) : State :=
  match w with
  | .ahead k n => if s.runs .mem then s.modFlash (fun x => { x with class4 := x.class4 ++ [.erase k.toNat n.toNat false] }) else s
  | .move k d n => if s.runs .mem then s.modFlash (fun x => { x with class4 := x.class4 ++ [.move k.toNat d.toNat n.toNat false] }) else s
  | .need k n => if s.storeWaits then s.modFlash (fun x => { x with class3 := .erase k.toNat n.toNat false :: x.class3 }) else s

/-- FLASH_SLOT (R629). -/
def execFlashSlot (work : Option FlashWork) (s : State) : Answer :=
  .next (match work with | some w => (s.flashQueue w).flashSlot | none => s.flashSlot)

/-- Plane B sector `k` is retired to the next spare (R39, R633, R634); with none left SPARE_OUT is raised and the write fails.
Answers whether a spare was left. -/
def State.sectorRetire (s : State) (k : Nat) : Bool × State :=
  if s.sectorsLeft = 0 then (false, (s.raise 234).put ⟨H.sticky .mem, 1, 1⟩ 1)
  else
    let s := (s.sectorAt k (192 + s.flash.taken)).modFlash (fun x => { x with taken := x.taken + 1 })
    (true, s.raiseIf (s.sectorsLeft == 3) 238)

/-- The last record-store write has failed (R607, R633): its items have the values that their other slots hold. -/
def State.storeUndo (s : State) : State :=
  s.modFlash (fun x => { x with store := x.store.take x.older x.wrote, older := x.older.take default x.wrote, wrote := [] })

/-- PLANE_B_VERIFY_FAIL (R633): a record-store write is repeated on the spare; with no spare left the write fails, a PERSIST where
one runs. Image and firmware commands report their failure themselves. -/
def execPlaneBVerifyFail (w : PlaneBWrite) (sector : BitVec 8) (s : State) : Answer :=
  .next (let r := s.sectorRetire sector.toNat
    match w with
    | .store =>
      if r.1 then r.2
      else if r.2.flash.running then r.2.modFlash (fun x => { x with failed := true })
      else r.2.storeUndo
    | .image => r.2
    | .firmware => r.2)

/-! ## Disabling (R640, R643) -/

/-- ENABLE of REC goes from 1 to 0 (R640): staged records are discarded and counted, and a drain stops. -/
def State.recDisable (s : State) : State :=
  let s := s.count F.REC_DISC s.recd.staged.length
  let s := s.modRec (fun x => { x with staged := [], episode := false })
  (if s.recd.drain.isSome then s.logDrainEnd else s).recShow

/-- REC_SUMMARY (R643). -/
def State.recSummary (s : State) : Nat := s.get F.REC_LOG_STAT_STOP * 2 ^ 31 + s.recd.log.length

end Sys2Proof.Machine
end

