-- ==== Sys2Proof/Machine/Sec.lean ====
section
/-! DEFINITION. Keystone: keys, secure boot, firmware update, the SEC commands, chunk signing, the debug lock, the TRNG and the
certified configuration (R649 to R676). The session handshake is in Machine/Session.lean. -/

namespace Sys2Proof.Machine

open Sys2Proof

def State.modSec (s : State) (f : SecState → SecState) : State := { s with sec := f s.sec }

/-- `n` bytes of a flash area from offset `o`; what lies past the bytes held is erased and reads 0xFF. -/
def flashRead (l : List Byte) (o n : Nat) : List Byte := let b := (l.drop o).take n; b ++ List.replicate (n - b.length) 0xFF

/-- A flash area with bytes written from offset `o`. -/
def flashWrite (l : List Byte) (o : Nat) (b : List Byte) : List Byte := flashRead l 0 o ++ b ++ l.drop (o + b.length)

/-- A little-endian word of a flash area. -/
def flashWord (l : List Byte) (o : Nat) : Nat := leNat (flashRead l o 4)

/-! ## Keys and counters (R649, R658) -/

/-- The active OEM key (R658). -/
def State.oemKey (s : State) : Option (BitVec 512) := s.sec.oem.getLast?

/-- The signature at `o` of an image verifies over the bytes before it. -/
def sigGood (key : BitVec 512) (l : List Byte) (o : Nat) : Bool :=
  Config.ecdsaVerify key (Config.sha256 (flashRead l 0 o)) (key512 (flashRead l o 64))

/-- SEC works: present, not failed, and enabled. -/
def State.secRuns (s : State) : Bool := s.runs .sec

/-! ## Firmware (R651 to R657) -/

/-- The check of a firmware slot (R652): a result of R127. -/
def fwCheck (l : List Byte) (arb : Nat) : Nat :=
  let len := flashWord l 0x10
  if flashWord l 0 ≠ 0x57465653 ∨ leNat (flashRead l 4 2) ≠ 1 ∨ 0x400000 < len + 68 then 4
  else if flashWord l len ≠ (crc32c (flashRead l 0 len)).toNat then 1
  else if !sigGood Config.cendafortKey l (len + 4) then 2
  else if flashWord l 0xC < arb then 3
  else 0

/-- SVN of a slot, 0 where it has no image. -/
def fwSvn (l : List Byte) : Nat := if flashWord l 0 = 0x57465653 then flashWord l 0xC % 256 else 0

/-- VERSION of a slot, 0 where it has no image. -/
def fwVersion (l : List Byte) : Nat := if flashWord l 0 = 0x57465653 then flashWord l 8 else 0

/-- What a verification of a slot finds. -/
def fwInfo (l : List Byte) (arb : Nat) : FwInfo where
  valid := fwCheck l arb == 0
  version := flashWord l 8
  svn := flashWord l 0xC
  ncert := flashWord l 0x14
  cert := (List.range 8).map (fun n => BitVec.ofNat 32 (if n < flashWord l 0x14 then flashWord l (0x18 + 4 * n) else 0))

/-- The slot of R653: its bytes, 0 for A. -/
def State.fwSlot (s : State) (b : Nat) : List Byte := if b = 0 then s.sec.slotA else s.sec.slotB

/-- Chunk signing has work before it (R664, R671): nothing is signed while SEC is disabled or failed (R665). -/
def State.signWaits (s : State) : Bool := s.secRuns && s.geo.chunks.any (fun c => !c.signed)

/-- No chunk waits for its signature: what waited behind chunk signing begins (R671). -/
def State.signDone (s : State) : State :=
  if s.signWaits then s else s.modSec (fun x => { x with cmdWaits := false, imgWaits := false })

/-- A slot's verification is recorded. -/
def State.fwNote (s : State) (b : Nat) : State :=
  let i := fwInfo (s.fwSlot b) s.sec.arbFw
  s.modSec (fun x => if b = 0 then { x with infoA := i } else { x with infoB := i })

/-- The preferred slot (R653), where the record-store item restores to `p`. -/
def State.fwPreferred (s : State) (p : Option Nat) : Nat :=
  match p with
  | some b => b
  | none => if fwVersion s.sec.slotA < fwVersion s.sec.slotB then 1 else 0

/-- The preference is read from the record store, once after each device reset (R607, R653, R656). -/
def State.fwPreference (s : State) (slot : StoreSlot) : State :=
  if s.sec.prefer.isSome then s
  else
    let s := match slot with
      | .newest => s
      | .older => s.modFlash (fun x => { x with store := x.store.take x.older [6], older := x.older.take default [6] })
      | .neither => s.modFlash (fun x => { x with store := x.store.take default [6], older := x.older.take default [6] })
    s.modSec (fun x => { x with prefer := some s.flash.store.prefer })

/-- The event that a slot's failure raises (R673): SIG_FAIL for its CRC or signature, ROLLBACK for its SVN. -/
def fwEvent (code : Nat) : List Nat := match code with | 1 => [243] | 2 => [243] | 3 => [244] | _ => []

/-- Secure boot (R653, R654, R655): the preferred slot, else the other; with neither, or a failed self-test, no firmware runs. -/
def State.secureBoot (s : State) (kat : Bool) (slot : StoreSlot) : State :=
  let res (s : State) (v b : Nat) : State := (s.put F.SYS_BOOT_RES v).put F.SYS_BOOT_SLOT b
  let s := (((s.put F.SYS_BOOT_A_VALID 0).put F.SYS_BOOT_B_VALID 0).modSec (fun x => { x with running := false })).fwPreference slot
  if !kat then res s 3 0
  else
    let p := s.fwPreferred (s.sec.prefer.getD none)
    let valid (s : State) (b : Nat) : State := (s.put (if b = 0 then F.SYS_BOOT_A_VALID else F.SYS_BOOT_B_VALID) 1).modSec
      (fun x => { x with running := true })
    let c := fwCheck (s.fwSlot p) s.sec.arbFw
    let s := s.fwNote p
    if c = 0 then res (valid s p) 0 p
    else
      let c2 := fwCheck (s.fwSlot (1 - p)) s.sec.arbFw
      let s := s.fwNote (1 - p)
      if c2 = 0 then (res (valid s (1 - p)) 1 (1 - p)).modSec (fun x => { x with bootErr := if c = 3 then [244] else [243] })
      else res s 2 0

/-- The slot that did not boot (R656). -/
def State.fwOther (s : State) : Nat := 1 - s.get F.SYS_BOOT_SLOT

/-- A firmware slot holds other bytes: it keeps the outcome of its last verification, and shows no version (R675). -/
def State.fwSet (s : State) (b : Nat) (l : List Byte) : State :=
  let s := s.modSec (fun x => { x with pass := x.pass.filter (fun k => k != b) })
  s.modSec (fun x => if b = 0 then { x with slotA := l, infoA := { x.infoA with version := 0 } }
                     else { x with slotB := l, infoB := { x.infoB with version := 0 } })

/-- A firmware slot after a failed erase or program: what it holds is a free value (log entry 5). -/
def State.fwSpoil (s : State) (b : Nat) (l : List Byte) : State :=
  { s.fwSet b (Config.failedFlash s.fresh l) with fresh := s.fresh + 1 }

/-- The window of SEC, and SEC_STAGE. -/
def State.secWindow (s : State) (n : Nat) : List Byte :=
  ((List.range ((n + 3) / 4)).flatMap (fun k => leBytes 4 (s.nat (R.SEC_WIN k)))).take n
def State.secStage (s : State) : List Byte := (List.range 64).flatMap (fun k => leBytes 4 (s.nat (R.SEC_STAGE k)))

/-! ## The certified configuration (R669) -/

/-- The info of the running firmware. -/
def State.fwRunning (s : State) : FwInfo := if s.get F.SYS_BOOT_SLOT = 0 then s.sec.infoA else s.sec.infoB

/-- The conditions of SEC_CERT_STAT that fail, as its bits 4 to 0. -/
def State.certBits (s : State) : Nat :=
  let f := s.fwRunning
  let listed := (f.cert.take f.ncert).any (fun c => c.toNat == f.version)
  let key := !s.sec.oem.isEmpty && !s.safe
  let sealed := match s.cfg.footing with
    | some ftg => ftg.seals.any (fun e => e.addr == R.SYS_LINK_AUTHREQ && e.mask == 1#32 && e.min == 1 && e.max == 1)
    | none => false
  bit (!listed) * 16 + bit (!key) * 8 + bit (!(sealed && s.flag F.SYS_LINK_AUTHREQ_REQUIRE)) * 4 + bit s.sec.unlocked * 2 +
  bit (!s.secRuns)

/-- Whether the module is in its certified configuration is judged again; CERT_OUT marks each time it leaves it. -/
def State.certWatch (s : State) : State :=
  let now := s.certBits == 0
  (s.when (s.sec.certified && !now) (fun s => s.raiseFailed 246)).modSec (fun x => { x with certified := now })

/-! ## Sessions end (R663) -/

/-- The session ends, if there is one: SESS_END. -/
def State.sessionEnd (s : State) : State :=
  if s.sec.session.isSome then (s.raise 242).modSec (fun x => { x with session := none }) else s

/-! ## The SEC commands (R656 to R658, R666, R667, R675) -/

/-- A SEC_CMD is accepted (R675). -/
def State.secStart (s : State) (cmd : Nat) (auth : Bool) : State :=
  let s := (s.put F.SEC_CMD_STAT_BUSY 1).modSec (fun x => { x with cmd := some (cmd, auth), cmdWaits := s.signWaits })
  if cmd = 1 ∨ cmd = 2 then s.modFlash (fun x => { x with class3 := x.class3 ++ [.firmware] }) else s

/-- OEM_PROVISION (R658): the result, and the state. -/
def State.oemProvision (s : State) : Nat × State :=
  let st := s.secStage
  let k := s.sec.oem.length
  let add (s : State) : State := s.modSec (fun x => { x with oem := x.oem ++ [key512 st] })
  if 3 ≤ k then (8, s)
  else match s.oemKey with
    | none => (0, add s)
    | some key =>
      if Config.ecdsaVerify key (Config.sha256 (st.take 64 ++ [BitVec.ofNat 8 k])) (key512 (st.drop 64)) then (0, add s) else (2, s)

/-- DBG_CHALLENGE (R666, R668). -/
def State.dbgChallenge (s : State) : Nat × State :=
  if s.sec.kill then (9, s)
  else if !s.sec.healthy then (10, s)
  else
    let r := s.random
    let b := leBytes 16 r.1.toNat
    (0, r.2.modSec (fun x => { x with chal := some b, chalLast := b }))

/-- The device identity key, public, as bytes (R649). -/
def devicePub : List Byte := leBytes 64 (Config.publicKey Config.deviceKey).toNat

/-- DBG_UNLOCK (R666): a challenge serves one attempt; without one it is not permitted. -/
def State.dbgUnlock (s : State) : Nat × State :=
  if s.sec.kill then (9, s)
  else match s.sec.chal with
    | none => (9, s)
    | some c =>
      let ok := Config.ecdsaVerify Config.cendafortKey (Config.sha256 (c ++ devicePub)) (key512 s.secStage)
      let s := s.modSec (fun x => { x with chal := none })
      if ok then
        (0, (((s.modSec (fun x => { x with unlocked := true })).raise 245).put ⟨H.sticky .sec, 2, 1⟩ 1).certWatch)
      else (2, s)

/-- FW_VERIFY (R656): the result, and the state. -/
def State.fwVerify (s : State) : Nat × State :=
  let b := s.fwOther
  let c := fwCheck (s.fwSlot b) s.sec.arbFw
  let s := (s.fwNote b).modSec (fun x => { x with pass := x.pass.filter (fun k => k != b) ++ (if c = 0 then [b] else []) })
  let s := s.each (fwEvent c) State.raise
  (c, if c = 3 then s.put ⟨H.sticky .sec, 1, 1⟩ 1 else s)

/-- ARB_COMMIT (R657): counters are raised and never lowered. The SEQ-selected footing is also there in the safe course that
watchdog resets lead to (R595). -/
def State.arbCommit (s : State) : State :=
  let ftg := s.cfg.selSvn
  s.modSec (fun x => { x with arbFw := max x.arbFw (min 127 s.fwRunning.svn), arbFtg := max x.arbFtg (min 127 ftg) })

/-- The SEC command in progress is carried out (R656 to R667): its result, and the state. -/
def State.secDo (s : State) (cmd : Nat) (flashOk : Bool) : Nat × State :=
  match cmd with
  | 1 =>
    let s := s.wearB (64 * s.fwOther) 64
    if flashOk then (0, s.fwSet s.fwOther []) else (7, s.fwSpoil s.fwOther [])
  | 2 =>
    let b := s.fwOther
    let l := flashWrite (s.fwSlot b) (s.get F.SEC_FW_OFS) (s.secWindow (s.get F.SEC_FW_LEN))
    if flashOk then (0, s.fwSet b (l.take 0x400000)) else (7, s.fwSpoil b (l.take 0x400000))
  | 3 => s.fwVerify
  | 4 => if s.sec.pass.contains s.fwOther then (0, s.storeItems [6] (fun r => { r with prefer := some s.fwOther })) else (4, s)
  | 5 => if s.phaseOf = 5 then (0, s.arbCommit) else (9, s)
  | 6 => s.oemProvision
  | 7 => s.dbgChallenge
  | 8 => s.dbgUnlock
  | _ => (0, s.modSec (fun x => { x with kill := true }))

/-- SEC_CMD_COMPLETE (R675): not while the command waits behind chunk signing (R671). -/
def execSecCmdComplete (flashOk : Bool) (s : State) : Answer :=
  .next (match s.sec.cmd with
    | none => s
    | some c =>
      if s.sec.cmdWaits then s else
      let r := s.secDo c.1 flashOk
      let s := (r.2.modSec (fun x => { x with cmd := none })).modFlash
        (fun x => { x with class3 := x.class3.filter (fun o => o != .firmware) })
      (s.put F.SEC_CMD_STAT_BUSY 0).put F.SEC_CMD_STAT_RESULT r.1)

/-! ## Signing (R664, R665) -/

/-- CHUNK_SIGNED (R664): nothing is signed while SEC is disabled or failed (R665). -/
def execChunkSigned (s : State) : Answer :=
  .next (match s.geo.chunks.find? (fun c => !c.signed) with
    | none => s
    | some c =>
      if !s.secRuns then s
      else ((s.count F.SEC_SIGN_CNT 1).chunkSend (Config.ecdsaSign Config.deviceKey (Config.sha256 c.signedBytes))).signDone)

/-! ## TRNG and self-tests (R668, R672) -/

/-- TRNG_TEST_WINDOW (R668). -/
def execTrngTestWindow (pass : Bool) (s : State) : Answer :=
  .next (if pass then
      let s := s.modSec (fun x => { x with runs := min 1024 (x.runs + 1), healthy := x.healthy || x.runs + 1 == 1024 })
      s.putB F.SEC_TRNG_CNT_OK s.sec.healthy
    else (((s.modSec (fun x => { x with runs := 0, healthy := false })).put F.SEC_TRNG_CNT_OK 0).count F.SEC_TRNG_CNT_N 1).raise 247)

/-- KAT_PERIODIC (R672): a failure makes the block read failed and ends the session. -/
def execKatPeriodic (pass : Bool) (s : State) : Answer :=
  .next (if pass || !s.present .sec || !s.sec.running then s
    else
      let s := { s.sessionEnd with failed := s.failed ++ [Block.sec] }
      ((s.raise 240).modSec (fun x => { x with hello := none })).signDone.certWatch)

/-! ## The block as a whole (R672, R674) -/

/-- ENABLE of SEC goes from 1 to 0 (R672): a SEC_CMD that waits behind chunk signing is queued work and is discarded, and so is what is
left of a FW_VERIFY whose 64 KB step in progress is not its last operation, which is free (log entry 1915). -/
def State.secDisable (s : State) : State :=
  let s := match s.sec.cmd with
    | none => s
    | some c =>
      let r := if c.1 = 3 then s.free 1 else (1, s)
      if s.sec.cmdWaits || r.1 = 0 then
        ((r.2.count F.SEC_DISC 1).put F.SEC_CMD_STAT_BUSY 0).modSec (fun x => { x with cmd := none, cmdWaits := false })
      else r.2
  (s.sessionEnd.modSec (fun x => { x with hello := none, imgWaits := false })).certWatch

/-- SEC_SUMMARY (R674). -/
def State.secSummary (s : State) : Nat :=
  bit (s.certBits == 0) * 2 ^ 31 + bit s.sec.session.isSome * 2 ^ 16 + s.get F.SYS_BOOT_SLOT * 2 ^ 8 +
  (if s.sec.oem.isEmpty then 3 else s.sec.oem.length - 1)

/-- The words of the SEC registers that are formed when they are read (R675, R676): by register, none for others. -/
def State.secView (s : State) (a : Nat) : Option Word :=
  let x := s.sec
  let ofBytes (l : List Byte) (k : Nat) : Word := BitVec.ofNat 32 (leNat ((l.drop (4 * k)).take 4))
  if a = R.SEC_FW_STAT then
    some (BitVec.ofNat 32 (s.fwPreferred s.flash.store.prefer * 2 ^ 24 + bit x.infoB.valid * 2 ^ 17 + bit x.infoA.valid * 2 ^ 16 +
      s.get F.SYS_BOOT_SLOT * 2 ^ 8))
  else if a = R.SEC_FW_VER_A then some (BitVec.ofNat 32 (if x.infoA.valid then x.infoA.version else 0))
  else if a = R.SEC_FW_VER_B then some (BitVec.ofNat 32 (if x.infoB.valid then x.infoB.version else 0))
  else if a = R.SEC_FW_SVN then some (BitVec.ofNat 32 (fwSvn x.slotB * 2 ^ 16 + fwSvn x.slotA))
  else if a = R.SEC_ARB then some (BitVec.ofNat 32 (x.arbFtg * 2 ^ 16 + x.arbFw))
  else if a = R.SEC_SESS then some (BitVec.ofNat 32 (bit x.session.isSome * 2 ^ 31 + bit x.hello.isSome * 2 ^ 30))
  else if a = R.SEC_DBG_STAT then some (BitVec.ofNat 32 (bit x.kill * 4 + bit x.chal.isSome * 2 + bit x.unlocked))
  else if a = R.SEC_CERT_STAT then some (BitVec.ofNat 32 (bit (s.certBits == 0) * 2 ^ 31 + s.certBits))
  else if R.SEC_CERT_LIST 0 ≤ a ∧ a < R.SEC_CERT_LIST 8 then some (s.fwRunning.cert.getD ((a - R.SEC_CERT_LIST 0) / 4) 0)
  else if 0x142000 ≤ a ∧ a < 0x142040 then some (if x.running then ofBytes devicePub ((a - 0x142000) / 4) else 0)
  else if a < 0x142080 ∧ 0x142040 ≤ a then
    some (if x.running then ofBytes (leBytes 64 Config.attestation.toNat) ((a - 0x142040) / 4) else 0)
  else if 0x142100 ≤ a ∧ a < 0x1421C0 then
    some (if x.running then
      (match x.oem[(a - 0x142100) / 64]? with | some k => ofBytes (leBytes 64 k.toNat) ((a - 0x142100) % 64 / 4) | none => 0) else 0)
  else if 0x142200 ≤ a ∧ a < 0x142210 then some (ofBytes x.chalLast ((a - 0x142200) / 4))
  else none

end Sys2Proof.Machine
end

