-- ==== Sys2Proof/Machine/View.lean ====
section
/-! DEFINITION. What a read of a register shows, without the effect that reading has (R5, R6, R22, R94 to R110, and the
registers that are formed when they are read). -/

namespace Sys2Proof.Machine

open Sys2Proof

/-! ## Finding a register -/

/-- The outermost index at which the strides and counts reach offset `o`. -/
def dimsIndex : List (Nat × Nat) → Nat → Option Nat
  | [], o => if o = 0 then some 0 else none
  | (st, c) :: t, o => if o / st < c then (dimsIndex t (o % st)).map (fun _ => o / st) else none

/-- The instance of register `r` that lies at address `a`. -/
def RegDef.instanceAt (r : RegDef) (a : Nat) : Option Nat :=
  if a < r.base then none else (dimsIndex r.dims (a - r.base)).map (· + r.first)

/-- The register at address `a` outside page 0's header, with its instance; none where no map lists the address (R22). -/
def regAt (a : Nat) : Option (RegDef × Nat) :=
  (regDefs (a / 65536)).findSome? (fun r => (r.instanceAt a).map (fun i => (r, i)))

/-- Instance `i` is present in the personality (R3, R6, R344, R399). -/
def State.instHere (s : State) (c : Counts) (i : Nat) : Bool :=
  match c with
  | .all => true
  | .solCh => s.solHere i
  | .bank => s.bankHere i
  | .die => s.dieHere i
  | .hsw => s.hswHere i
  | .vhs => s.hswHere (6 * i)
  | .loop => decide (i < s.nLoop)
  | .heat => decide (i < s.nHeat)
  | .pacer => decide (i < s.nPacer)
  | .lap => decide (i < s.nLap)
  | .gnssCh => decide (i < s.nGch)
  | .point => decide (i < s.nPoint)
  | .remote => s.isLead

/-- The island of a block that can be gated (R575). -/
def islandOf (b : Block) : Option Nat := (gatable.find? (fun x => x.2 == b)).map (·.1)

/-- The clock of block `b` is gated (R577). -/
def State.gatedBlock (s : State) (b : Block) : Bool := match islandOf b with | some i => s.gated i | none => false

/-! ## The header page -/

/-- What BLK_ID counts for block `b` in SV-96 (R95). -/
def blockInstances : Block → Counts × Nat
  | .sys => (.all, 1) | .clk => (.all, 12) | .pwr => (.all, 1) | .evt => (.all, 16) | .lane => (.all, 16)
  | .cfg => (.all, 15) | .gnss => (.gnssCh, 192) | .nav => (.all, 1) | .fbk => (.all, 8) | .geo => (.point, 128)
  | .str => (.point, 128) | .sol => (.solCh, 96) | .arm => (.solCh, 96) | .hsw => (.hsw, 24) | .ctl => (.loop, 32)
  | .pace => (.pacer, 16) | .can => (.all, 3) | .recorder => (.all, 16) | .mem => (.all, 1) | .sec => (.all, 1)
  | .plb => (.all, 4)

/-- BLK_ID (R5, R6, R100). -/
def State.blkId (s : State) (b : Block) : Nat :=
  let c := blockInstances b
  b.index * 2 ^ 16 + 1 * 2 ^ 8 +
    (if s.kind b = 0 then 0 else ((List.range c.2).filter (fun i => s.instHere c.1 i)).length)

/-- Work of block `b` is in flight now (R107): the queues and operations its chapter gives it. -/
def State.busy (s : State) (b : Block) : Bool :=
  match b with
  | .clk => !s.clocks.gateAt.isEmpty || s.clocks.sscFab.2 != 0 || s.clocks.sscDrv.2 != 0
  | .pwr => s.flag F.PWR_PERSIST_BUSY
  | .cfg => s.flag F.CFG_IMG_STAT_BUSY
  | .gnss => s.flag F.GNSS_SNAP_STAT_BUSY
  | .fbk => (s.ssi.get 0).busy || (s.ssi.get 1).busy
  | .geo => s.flag F.GEO_MAP_STAT_FLUSH_BUSY || s.flag F.GEO_MAP_STAT_FENCE_BUSY || s.geo.load.isSome
  | .str => !s.str.solWire.isEmpty || !s.str.hswWire.isEmpty || s.str.points.any (fun p => !p.2.queue.isEmpty)
  | .sol => (List.range 96).any (fun n => s.phase n != 0 && s.phase n != 7)
  | .arm => s.armCh.any (fun c => c.2.openWin || c.2.closeWin) || s.armSw.any (fun c => c.2.opening.on || c.2.closing.on)
  | .hsw => (List.range 24).any (fun k => s.flag (F.HSW_CH_STAT_INRUSH k)) || s.hsw.any (fun k => !k.2.queue.isEmpty)
  | .ctl => !s.ctl.wire.isEmpty
  | .pace => s.flag F.CAP_STAT_BUSY || (List.range 4).any (fun q => s.injSt q == 1 || s.injSt q == 2)
  | .can => s.canCtl.any (fun c => c.2.inFrame)
  | .recorder => !s.recd.staged.isEmpty || s.recd.drain.isSome
  | .sec => s.sec.cmd.isSome
  | .plb => s.plb.any (fun u => u.2.isSome)
  | _ => false

/-- A fault condition of block `b` is present now (R107): the conditions that its chapter reports as lasting (log entry 319). -/
def State.faultNow (s : State) (b : Block) : Bool :=
  match b with
  | .sys => s.flag F.SYS_LINK_STATE_WRAPIN || s.flag F.SYS_LINK_STATE_WRAPOUT || s.link.tickLost
  | .clk => s.flag F.CLK_STAT_FB || !s.clocks.pllLost.isEmpty
  | .pwr => s.flag F.PWR_STAT_SSAFE || s.flag F.PWR_STAT_DSAFE_A || s.flag F.PWR_STAT_DSAFE_B || s.flag F.PWR_STAT_LOW
  | .cfg => s.safe
  | .gnss => s.gnss.vantBad || decide (2 ≤ s.get F.GNSS_FE_STAT_ANT_A) || decide (2 ≤ s.get F.GNSS_FE_STAT_ANT_B)
  | .nav => s.nav.imuLost || s.nav.uncLimit
  | .fbk => (List.range 8).any (fun n => s.flag (F.FBK_ENC_STAT_BAD n)) ||
      (List.range 16).any (fun n => s.flag (F.FBK_AIN_STAT_OPEN n) || s.flag (F.FBK_AIN_STAT_SHUNT_OPEN n))
  | .str => s.str.sats.any (fun e => e.2.lost) || (s.str.base == 2 && s.runs .str)
  | .sol => s.dieBFail || (List.range 96).any (fun n => s.word (R.SOL_CH_FLT n) != 0) ||
      (List.range 12).any (fun b => s.flag (F.SOL_BANK_STAT_OC b) || s.flag (F.SOL_BANK_STAT_UV b)) ||
      (List.range 2).any (fun d => s.flag (F.SOL_DIE_STAT_UV d) || s.flag (F.SOL_DIE_STAT_OV d) || s.flag (F.SOL_DIE_STAT_OFF140 d))
  | .arm => s.armCh.any (fun e => e.2.fail) ||
      (List.range 96).any (fun n => s.flag (F.ARM_CH_STAT_STUCK_OPEN n) || s.flag (F.ARM_CH_STAT_STUCK_SHUT n))
  | .hsw => (List.range 24).any (fun k => s.word (R.HSW_CH_FLT k) != 0)
  | .pace => s.lap.any (fun e => e.2.srcBad)
  | .can => s.canCtl.any (fun e => e.2.busOff)
  | .recorder => s.recd.failed
  | .mem => s.memCare.noSpare
  | .sec => s.enabled .sec && !s.sec.healthy
  | .plb => s.plbMis.any (fun e => e.2)
  | .ctl => (List.range 32).any (fun n => s.loopSt n == 3)
  | .evt | .lane | .geo => false

/-- Background work runs in block `b` (R107, R396): calibrations, the scrub of DRAM, and flash work that waits or runs (log
entry 319). -/
def State.bgNow (s : State) (b : Block) : Bool :=
  match b with
  | .sol => (List.range 96).any (fun n => s.phase n == 7)
  | .hsw => s.hsw.any (fun e => e.2.cal)
  | .mem => s.runs .mem
  | .recorder => s.recd.erasing.isSome
  | _ => false

/-- BLK_STATUS (R102, R107). -/
def State.blkStatus (s : State) (b : Block) : Nat :=
  if s.kind b = 2 then 4
  else bit (s.bgNow b) * 8 + bit (s.faultNow b) * 4 + bit (s.busy b) * 2 + bit (s.runs b && !s.gatedBlock b)

/-- A register of the header page at offset `o` (R98, R102); none for the block summary words. -/
def State.header (s : State) (b : Block) (o : Nat) : Option Nat :=
  match o with
  | 0x000 => some (s.blkId b)
  | 0x004 => some (s.kind b)
  | 0x008 => some (s.nat (H.ctrl b))
  | 0x00C => some (s.blkStatus b)
  | 0x010 => some (s.pendMask b (evGroup b))
  | 0x014 => some (s.enMask b (evGroup b))
  | 0x018 => some (s.nat (H.sticky b))
  | 0x01C => some (s.nat (hdr b 0x01C))
  | 0x020 => some (s.nat (hdr b 0x020))
  | _ => none

/-- The offsets of page 0 that stay in service in a block of the given kind (R5, R102). -/
def inService (b : Block) (kind o : Nat) : Bool :=
  match kind with
  | 1 => true
  | 2 => o == 0 || o == 4 || o == 0x00C || o == 0x010 || o == 0x014 || (b == .sol && (o == 0x024 || o == 0x028))
  | _ => o == 0 || o == 4

/-! ## Registers that are formed when they are read -/

/-- A word with one field replaced. -/
def withField (w : Word) (f : Fld) (v : Nat) : Word := insertField w f.lo f.w v

/-- The field `f` of its word replaced by a measured value (log entry 5). -/
def State.shown (s : State) (f : Fld) : Word := withField (s.word f.addr) f (s.sense f)

/-- The status word of a point (R323, R359). -/
def State.ptStat (s : State) (p : Nat) : Nat :=
  let x := s.pt p
  let f (g : Fld) (v : Nat) : Nat := v % 2 ^ g.w * 2 ^ g.lo
  f (F.STR_PT_STAT_VALID 0) (bit x.valid) + f (F.STR_PT_STAT_SKIP 0) (bit x.skip) +
    f (F.STR_PT_STAT_NOBOOST 0) (bit x.noBoost) + f (F.STR_PT_STAT_DUTY_SAT 0) (bit x.dutySat) +
    f (F.STR_PT_STAT_LATSRC 0) x.latSrc + f (F.STR_PT_STAT_OFFWHY 0) x.offWhy + f (F.STR_PT_STAT_PLAN 0) x.plan

/-- The start instant of the next queued command of a point, 0 where there is none (R357). -/
def State.ptNext (s : State) (p : Nat) : Nat := match (s.pt p).queue with | c :: _ => c.start | [] => 0

/-- The register of PTn at offset `o` of its array (R357). -/
def State.ptReg (s : State) (a : Nat) : Word :=
  let n := (a - 0xB2000) / 64
  let x := s.pt n
  let sat (v : Nat) : Nat := min v 0xFFFF
  match a % 64 with
  | 0x14 => BitVec.ofNat 32 x.leadOn
  | 0x18 => BitVec.ofNat 32 x.leadOff
  | 0x1C => BitVec.ofNat 32 (s.ptStat n)
  | 0x20 => BitVec.ofNat 32 (x.scale % 65536 * 65536 + x.duty % 65536)
  | 0x24 => BitVec.ofNat 32 (s.ptNext n)
  | 0x28 => BitVec.ofNat 32 (s.ptNext n / 2 ^ 32)
  | 0x2C => BitVec.ofNat 32 (min x.ons 0xFFFFFFFF)
  | 0x30 => BitVec.ofNat 32 (sat x.skips * 65536 + sat x.late)
  | 0x34 => BitVec.ofNat 32 (min x.lateMax 0xFFFFFFFF)
  | 0x38 => BitVec.ofNat 32 (sat x.stag * 65536 + sat x.stagMax)
  | _ => s.word a

/-- GEO registers that are formed when they are read (R309, R310, R312). -/
def State.geoReg (s : State) (a : Nat) : Word :=
  let k := s.get F.GEO_DIR_SEL
  let e := s.geo.slots.get k
  if a = R.GEO_SUMMARY then BitVec.ofNat 32 s.geoSummary
  else if a = R.GEO_MAP_STAT then withField (s.word a) F.GEO_MAP_STAT_RES s.residents.length
  else if a = R.GEO_DIR_TILE then
    if e.st = 0 then 0 else withField (withField 0 F.GEO_DIR_TILE_TX (code 16 e.tx)) F.GEO_DIR_TILE_TY (code 16 e.ty)
  else if a = R.GEO_DIR_STAT then
    let w := withField (withField 0 F.GEO_DIR_STAT_STATE e.st) F.GEO_DIR_STAT_DIRTY (bit (e.st != 0 && e.dirty))
    let w := withField w F.GEO_DIR_STAT_NEEDED (bit (e.st != 0 && s.geo.needed.contains (e.tx, e.ty)))
    withField w F.GEO_DIR_STAT_LOST (bit (e.st != 0 && e.lost))
  else s.word a

/-- HSW_CH_MEAS (R438, R459): measured, but for the output voltage while it rises from 0 to VHS over SOFT (log entry 1212). -/
def State.hswMeas (s : State) (k : Nat) : Word :=
  let w := s.measured (R.HSW_CH_MEAS k)
  match s.hswRamp k with
  | some (t, all) => withField w (F.HSW_CH_MEAS_V k) (divOpen 438 (s.sense (F.HSW_VHS_STAT_VHS (hswGroup k)) * t : Nat) all).toNat
  | none => w

/-- SOL, ARM and HSW registers that are formed when they are read (R354 table, R400 to R403, R428 to R433, R457 to R461). -/
def State.driveReg (s : State) (a : Nat) : Word :=
  if a = R.SOL_SUMMARY then BitVec.ofNat 32 s.solSummary
  else if 0xC1000 ≤ a ∧ a < 0xC1080 then
    let d := (a - 0xC1000) / 64
    if a % 64 = 0x04 then s.shown (F.SOL_DIE_VB_MEAS d)
    else if a % 64 = 0x14 then
      withField (s.word a) (F.SOL_DIE_STAT_LINK d) (bit (decide (1 ≤ s.phaseOf) && !s.passed (s.pwr.linkAt.get d) (500 * usec)))
    else s.word a
  else if 0xC1100 ≤ a ∧ a < 0xC11C0 ∧ a % 16 = 0 then s.shown (F.SOL_BANK_STAT_VBANK ((a - 0xC1100) / 16))
  else if 0xC2000 ≤ a ∧ a < 0xC3800 ∧ a % 64 = 0x30 then s.shown (F.SOL_CH_IMEAS_I ((a - 0xC2000) / 64))
  else if a = R.ARM_SUMMARY then BitVec.ofNat 32 s.armSummary
  else if 0xD2000 ≤ a ∧ a < 0xD3800 ∧ a % 64 = 0x24 then
    let n := (a - 0xD2000) / 64
    withField (withField (s.word a) (F.ARM_CH_CONF_SENSE n) (bit (s.armSense n))) (F.ARM_CH_CONF_OK n) (bit (s.armOk n))
  else if a = R.HSW_SUMMARY then BitVec.ofNat 32 s.hswSummary
  else if 0xE1000 ≤ a ∧ a < 0xE1040 ∧ a % 16 = 4 then s.shown (F.HSW_VHS_STAT_VHS ((a - 0xE1000) / 16))
  else if 0xE2000 ≤ a ∧ a < 0xE2600 ∧ a % 64 = 0x1C then s.hswMeas ((a - 0xE2000) / 64)
  else if 0xE2000 ≤ a ∧ a < 0xE2600 ∧ a % 64 = 0x20 then s.shown (F.HSW_CH_TJ ((a - 0xE2000) / 64))
  else if 0xE2000 ≤ a ∧ a < 0xE2600 ∧ a % 64 = 0x24 then
    let k := (a - 0xE2000) / 64
    withField (s.word a) (F.HSW_CH_CLAMP_SUM k) (min (s.clampSum k) 0xFFFF)
  else if 0xE2000 ≤ a ∧ a < 0xE2600 ∧ a % 64 = 0x14 then
    let k := (a - 0xE2000) / 64
    if s.hswOut k then s.shown (F.HSW_CH_STAT_ATLIMIT k) else withField (s.word a) (F.HSW_CH_STAT_ATLIMIT k) 0
  else s.word a

/-- SYS_LINK_STATE: TICKOK of a lead is 0 in a hold (R93, R223), and in ring mode frames are turned at a port that is down from
when the host link is clocked on (R79, R597; log entry 225). -/
def State.linkState (s : State) : Word :=
  let w := s.word R.SYS_LINK_STATE
  let w := if s.isLead && s.flag F.NAV_TIME_STAT_HOLD then withField w F.SYS_LINK_STATE_TICKOK 0 else w
  let ring := decide (3 ≤ s.clocks.step) && !s.flag F.SYS_LINK_MODE_LINKSEL
  let w := if ring && s.get F.SYS_LINK_STATE_INST == 0 then withField w F.SYS_LINK_STATE_WRAPIN 1 else w
  if ring && s.get F.SYS_LINK_STATE_OUTST == 0 then withField w F.SYS_LINK_STATE_WRAPOUT 1 else w

/-- The live value of the register at `a` in a present block. -/
def State.live (s : State) (a : Nat) : Word :=
  match a / 65536 with
  | 1 =>
    if a = R.SYS_LINK_EXPSEQ then BitVec.ofNat 32 (s.link.lead.exp * 256 + s.link.host.exp)
    else if a = R.SYS_LINK_STATE then s.linkState
    else s.word a
  | 2 =>
    if a = R.CLK_SUMMARY then BitVec.ofNat 32 s.clkSummary
    else if 0x22000 ≤ a ∧ a % 16 = 0 then
      let i := (a - 0x22000) / 16
      s.islStat i
    else if 0x22000 ≤ a then s.measured a
    else s.word a
  | 3 =>
    if a = R.PWR_SUMMARY then BitVec.ofNat 32 s.pwrSummary
    else if a = R.PWR_VBAT then s.shown F.PWR_VBAT_VBAT
    else if a = R.PWR_VIO then s.shown F.PWR_VIO_VIO
    else if a = R.PWR_RAILS then s.measured a
    else s.word a
  | 4 =>
    if a = R.EVT_STATUS then BitVec.ofNat 32 (s.status false false)
    else if a = R.EVT_SUMMARY then BitVec.ofNat 32 s.evtSummary
    else
      let g := (a - 0x41040) / 16
      BitVec.ofNat 32 (if a % 16 = 0 then s.groupPend g else if a % 16 = 4 then s.groupRaw g else groupClass g)
  | 5 =>
    if a = R.LANE_READY then BitVec.ofNat 32 s.laneReady
    else if a % 32 = 0x14 then BitVec.ofNat 32 (s.laneLevel ((a - 0x51000) / 32))
    else s.word a
  | 7 =>
    if a = R.GNSS_SUMMARY then BitVec.ofNat 32 s.gnssSummary
    else if a = R.GNSS_SNAP_AVAIL then BitVec.ofNat 32 s.snapAvail
    else if a = R.GNSS_SNAP_STAT then s.snapStat
    else if a = R.GNSS_VANT ∧ !s.gnss.vantBad then s.shown F.GNSS_VANT_VANT
    else s.word a
  | 8 =>
    if a = R.NAV_SUMMARY then BitVec.ofNat 32 s.navSummary
    else if a = R.NAV_IMU_STAT then BitVec.ofNat 32 (bit s.imuOk)
    else if a = R.NAV_TIME_UNC then BitVec.ofNat 32 (min s.timeUnc 0xFFFFFFFF)
    else s.word a
  | 9 => if a = R.FBK_SUMMARY then BitVec.ofNat 32 s.fbkSummary else s.word a
  | 10 => s.geoReg a
  | 11 =>
    let p := 128 + s.get F.STR_SP_SEL
    if a = R.STR_SUMMARY then BitVec.ofNat 32 s.strSummary
    else if a = R.STR_SP_STAT then BitVec.ofNat 32 (s.ptStat p)
    else if a = R.STR_SP_LAT then BitVec.ofNat 32 (min (s.pt p).latC 0xFFFF * 65536 + min (s.pt p).latO 0xFFFF)
    else if 0xB2000 ≤ a ∧ a < 0xB4000 then s.ptReg a
    else s.word a
  | 12 | 13 | 14 => s.driveReg a
  | 15 =>
    if a = R.CTL_SUMMARY then BitVec.ofNat 32 (s.ctlSummary 2)
    else if a = R.CTL_FALLBACK then BitVec.ofNat 32 (s.ctlSummary 3)
    else if a = R.CTL_GRID_OFS then BitVec.ofNat 32 (code 16 s.gridOfs)
    else s.word a
  | 16 =>
    if a = R.PACE_SUMMARY then BitVec.ofNat 32 s.paceSummary
    else if 0x102000 ≤ a ∧ a < 0x102100 ∧ a % 64 = 0x1C then BitVec.ofNat 32 (s.lapStat ((a - 0x102000) / 64))
    else s.word a
  | 17 => if a = R.CAN_SUMMARY then BitVec.ofNat 32 s.canSummary else s.word a
  | 18 =>
    if a = R.REC_SUMMARY then BitVec.ofNat 32 s.recSummary
    else if 0x123000 ≤ a ∧ a < 0x1230C0 then
      match s.recd.log.getLast? with
      | some b => BitVec.ofNat 32 (leNat ((b.drop (a - 0x123000)).take 4))
      | none => 0
    else s.word a
  | 19 =>
    if a = R.MEM_SUMMARY then BitVec.ofNat 32 s.memSummary
    else if a = R.MEM_SPARE then withField (s.word a) F.MEM_SPARE_FLASH s.sectorsLeft
    else if a = R.MEM_WEAR_A then BitVec.ofNat 32 (min (wearMax s.flash.wearA) 0xFFFFFF)
    else if a = R.MEM_WEAR_B then BitVec.ofNat 32 (min (wearMax s.flash.wearB) 0xFFFFFF)
    else if a = R.MEM_CAL_STAT then BitVec.ofNat 32 s.calStat
    else s.word a
  | 20 => if a = R.SEC_SUMMARY then BitVec.ofNat 32 s.secSummary else (s.secView a).getD (s.word a)
  | 21 =>
    if a = R.PLB_SUMMARY then BitVec.ofNat 32 s.plbSummary
    else if 0x151000 ≤ a ∧ a % 64 = 0x3C then
      match s.plb.get ((a - 0x151000) / 64) with
      | some r => BitVec.ofNat 32 (s.plbProgress ((a - 0x151000) / 64) r)
      | none => s.word a
    else s.word a
  | _ => s.word a

/-! ## What a read shows -/

/-- A register that the block's chapter marks as shadowed (R104). -/
def RegDef.shadowed (r : RegDef) : Bool := r.fields.any (·.shadowed)

/-- What a register of block `b` outside the fixed header words shows (R5, R6, R22, R102, R104, R577). -/
def State.viewReg (s : State) (b : Block) (a : Nat) : Word :=
  match regAt a with
  | none => 0
  | some (r, i) =>
    if !s.instHere r.counts i then 0
    else if s.gatedBlock b && decide (4096 ≤ a % 65536) then 0
    else if r.shadowed && s.flag (H.shadowBit b) then Table.find 0 a s.shadow
    else if a = R.SOL_EVT_HI then BitVec.ofNat 32 (s.pendMask .sol 9)
    else if a = R.SOL_EVT_HI_EN then BitVec.ofNat 32 (s.enMask .sol 9)
    else s.live a

/-- What a read of the register word at `a` shows; addresses that no map lists read zero (R22, R98). -/
def State.view (s : State) (a : Nat) : Word :=
  match blockOf (a / 65536) with
  | none => 0
  | some b =>
    let o := a % 65536
    if !inService b (s.kind b) o then 0
    else if o < 0x24 then BitVec.ofNat 32 ((s.header b o).getD 0)
    else s.viewReg b a

/-- The addresses of register `r`. -/
def RegDef.addresses (r : RegDef) : List Nat :=
  r.dims.foldl (fun l d => l.flatMap (fun a => (List.range d.2).map (fun i => a + i * d.1))) [r.base]

/-- The shadowed registers of block `b`. -/
def shadowedRegs (b : Block) : List Nat := ((regDefs b.index).filter (·.shadowed)).flatMap RegDef.addresses

/-- SHADOW of block `b` is set: its shadowed registers keep the values they hold now (R104). -/
def State.shadowTake (s : State) (b : Block) : State :=
  let s0 := s.putB (H.shadowBit b) false
  let t := (shadowedRegs b).foldl (fun t a => Table.write 0 a (s0.view a) t) s.shadow
  { s.putB (H.shadowBit b) true with shadow := t }

/-- SHADOW of block `b` is cleared: its shadows are released (R104). -/
def State.shadowRelease (s : State) (b : Block) : State :=
  { s.putB (H.shadowBit b) false with shadow := s.shadow.filter (fun e => e.1 / 65536 != b.index) }

end Sys2Proof.Machine
end

