-- ==== Sys2Proof/Machine/Rec.lean ====
section
/-! DEFINITION. The event recorder's triggers and how a firing forms a record (R615 to R619, R630). -/

namespace Sys2Proof.Machine

open Sys2Proof

/-- What the recorder reads at a register address: a word of an absent, failed, held or gated block reads zero, and no RS
field is cleared (R615, R619). -/
def State.recRead (s : State) (a : Nat) : Word :=
  match blockOf (a / 65536) with
  | some b => if s.present b && !s.gatedBlock b then s.view a else 0
  | none => 0

/-- Bytes 4 to 59 of a record of trigger `t` with value `v` and instant `tag` (R619). Every record goes through the staging
buffer, so STAGED is 1. -/
def State.recHead (s : State) (t v tag : Nat) (boot : Bool) : List Byte :=
  let q := if s.isSat then 0 else s.get F.NAV_TIME_STAT_TQ * 16 + s.get F.NAV_POSE_Q_PQ
  [BitVec.ofNat 8 t, BitVec.ofNat 8 (bit boot * 4 + 2 + bit s.recd.lost), BitVec.ofNat 8 (s.get (F.REC_TRG_CFG_NWORDS t)),
    BitVec.ofNat 8 q] ++ leBytes 4 (s.nat R.PWR_HOURS) ++ leBytes 4 (s.nat R.PWR_PCYC) ++ leBytes 8 tag ++ leBytes 4 v ++
    leBytes 4 (min (s.recd.trig.get t).supp 0xFFFFFFFF)

/-- The snapshot words of trigger `t`, in list order (R619). -/
def State.recSnap (s : State) (t : Nat) : List Byte :=
  (List.range (s.get (F.REC_TRG_CFG_NWORDS t))).flatMap (fun w => leBytes 4 (s.recRead (s.get (F.REC_TRG_SNAP t w))).toNat)

def State.modTrig (s : State) (t : Nat) (f : TrigState → TrigState) : State :=
  s.modRec (fun x => { x with trig := x.trig.modify t f })

/-- A record of trigger `t` is formed: counted as not recorded while the log is stopped (R622, R625), lost where the
staging buffer is full (R630), else staged. -/
def State.recForm (s : State) (t v tag : Nat) (boot : Bool) : State :=
  if s.logDead then s.count F.REC_LOG_LOST 1
  else if 341 ≤ s.recd.staged.length then
    let s := s.count F.REC_STAGE_LOST 1
    let s := if s.recd.episode then s else (s.raise 228).put ⟨H.sticky .recorder, 2, 1⟩ 1
    s.modRec (fun x => { x with lost := true, episode := true })
  else
    let r : Staged := ⟨s.recHead t v tag boot, s.recSnap t⟩
    ((s.modRec (fun x => { x with staged := x.staged ++ [r], lost := false })).modTrig t (fun x => { x with supp := 0 })).recShow

/-- Trigger `t` fires at `tag` with value `v`, or its firing falls within HOLDOFF (R616, R617, R645). -/
def State.recFire (s : State) (t v tag : Nat) : State :=
  let hold := match (s.recd.trig.get t).fired with
    | some i => !s.passed i (s.get (F.REC_TRG_HOLD_HOLDOFF t) * msec)
    | none => false
  if hold then (s.count (F.REC_TRG_CNT_SUPP t) 1).modTrig t (fun x => { x with supp := x.supp + 1 })
  else
    let s := (s.count (F.REC_TRG_CNT_N t) 1).modTrig t (fun x => { x with fired := some s.clk })
    (s.setNat64 (R.REC_TRG_LAST_LO t) tag).recForm t v tag false

/-- (word AND MASK) OP VAL (R615, R646). -/
def compareOp (op : Nat) (x v : Word) : Bool :=
  match op with
  | 0 => x == v
  | 1 => x != v
  | 2 => decide (v.toNat < x.toNat)
  | 3 => decide (x.toNat < v.toNat)
  | 4 => decide (signed 32 v.toNat < signed 32 x.toNat)
  | 5 => decide (signed 32 x.toNat < signed 32 v.toNat)
  | _ => false

/-- The occurrences reported since the recorder last looked are evaluated by trigger `t`, and with `cmp` its comparison is
(R615). -/
def State.recTrigger (s : State) (occ : List (Nat × Nat)) (cmp : Bool) (t : Nat) : State :=
  if !s.flag (F.REC_TRG_CFG_EN t) then s
  else if s.get (F.REC_TRG_CFG_KIND t) = 1 then
    s.each (occ.filter (fun o => o.1 == s.get (F.REC_TRG_CFG_EVNUM t))) (fun s o => s.recFire t o.1 o.2)
  else if s.get (F.REC_TRG_CFG_KIND t) = 2 && cmp then
    let w := s.recRead (s.get (F.REC_TRG_ADDR t)) &&& s.word (R.REC_TRG_MASK t)
    let now := compareOp (s.get (F.REC_TRG_CFG_OP t)) w (s.word (R.REC_TRG_VAL t))
    let old := (s.recd.trig.get t).was
    let s := s.modTrig t (fun x => { x with was := now })
    if now && !old then s.recFire t w.toNat s.now else s
  else s

/-- The recorder takes the occurrences reported, in trigger-number order (R617); while it is disabled triggers are not
evaluated (R640), nor before the end of PU3 (R618). -/
def State.recTake (s : State) (cmp : Bool) : State :=
  let occ := s.occ
  let s := { s with occ := [] }
  if s.runs .recorder && decide (4 ≤ s.phaseOf) then s.each (List.range 16) (fun s t => s.recTrigger occ cmp t) else s

/-- The end of PU3: each enabled EVENT trigger whose event is pending forms one record with BOOT = 1 (R618). -/
def State.recBoot (s : State) : State :=
  let s := { s with occ := [] }
  if s.runs .recorder then
    s.each (List.range 16) (fun s t =>
      let e := s.get (F.REC_TRG_CFG_EVNUM t)
      if s.flag (F.REC_TRG_CFG_EN t) && s.get (F.REC_TRG_CFG_KIND t) == 1 && nbit (s.groupRaw (e / 16)) (e % 16) then
        let s := (s.count (F.REC_TRG_CNT_N t) 1).modTrig t (fun x => { x with fired := some s.clk })
        (s.setNat64 (R.REC_TRG_LAST_LO t) s.now).recForm t e s.now true
      else s)
  else s

/-- TRIGGER_COMPARE (R615). -/
def execTriggerCompare (s : State) : Answer := .next (if s.atMs then s.recTake true else s)

end Sys2Proof.Machine
end

