-- ==== Sys2Proof/Machine/Refuse.lean ====
section
/-! DEFINITION. The values that registers may hold: the stated ranges and reserved encodings of single fields (R23), and
the rules that relate several fields or registers (R699). A rule is judged on the registers as a write or an image leaves
them, where the write or image touches one of its fields (R695, R699; log entry 40). -/

namespace Sys2Proof.Machine

open Sys2Proof

/-- A rule at a register: the bits of the fields it judges, and whether the registers meet it. -/
abbrev Rule := Nat × Bool

/-- The bits of a field within its word. -/
def bitsOfField (f : Fld) : Nat := (2 ^ f.w - 1) * 2 ^ f.lo

/-- The bits of several fields of one word. -/
def bitsOfFields (fs : List Fld) : Nat := fs.foldl (fun m f => m ||| bitsOfField f) 0

/-- Every bit of a word. -/
def wholeWord : Nat := 0xFFFFFFFF

/-- A value is one that the field may hold (R23). -/
def FieldDef.holds (f : FieldDef) (v : Nat) : Bool :=
  match f.limits with
  | .any => true
  | .within rs => rs.any (fun r => decide (r.1 ≤ v) && decide (v ≤ r.2))
  | .signed rs => rs.any (fun r => decide (r.1 ≤ signed f.w v) && decide (signed f.w v ≤ r.2))
  | .steps k rs => v % k == 0 && rs.any (fun r => decide (r.1 ≤ v) && decide (v ≤ r.2))

/-- The rules that `f` gives for the instance whose register of an array from `base` lies at `a`. -/
def onArr (a base stride count : Nat) (f : Nat → List Rule) : List Rule :=
  if base ≤ a ∧ (a - base) % stride = 0 ∧ (a - base) / stride < count then f ((a - base) / stride) else []

/-- The rules `r` at register `base`. -/
def onReg (a base : Nat) (r : List Rule) : List Rule := if a = base then r else []

/-! ## Lanes and the front end -/

/-- R129, R131, R141. -/
def State.laneRules (s : State) (a : Nat) : List Rule :=
  onArr a (R.LANE_CTRL 0) 32 16 (fun n =>
    [(bitsOfFields [F.LANE_CTRL_DIR n, F.LANE_CTRL_LEAD n], s.flag (F.LANE_CTRL_DIR n) || !s.flag (F.LANE_CTRL_LEAD n)),
     (bitsOfField (F.LANE_CTRL_EN n), !s.flag (F.LANE_CTRL_EN n) ||
        (laneSizeOk (s.laneSize n) && laneFits (s.get (F.LANE_BASE n)) (s.laneSize n)))]) ++
  onArr a (R.LANE_BASE 0) 32 16 (fun n =>
    [(wholeWord, s.get (F.LANE_BASE n) % 4096 == 0 && laneFits (s.get (F.LANE_BASE n)) (s.laneSize n))]) ++
  onArr a (R.LANE_SIZE 0) 32 16 (fun n =>
    [(wholeWord, laneSizeOk (s.laneSize n) && laneFits (s.get (F.LANE_BASE n)) (s.laneSize n))])

/-- R158. -/
def State.gnssRules (s : State) (a : Nat) : List Rule :=
  onReg a R.GNSS_ANT_THR [(wholeWord, decide (s.get F.GNSS_ANT_THR_OPEN_MA < s.get F.GNSS_ANT_THR_SHORT_MA))]

/-- The word index of axis `k` in NAV_IMU_MAP is below WORDS (R235). -/
def State.imuIndexOk (s : State) (k : Nat) : Bool :=
  decide (s.nat R.NAV_IMU_MAP / 2 ^ (4 * k) % 8 < s.get F.NAV_IMU_FMT_WORDS)

/-- R218: WIDTH from 1 µs to half the period, OFS within ±500,000,000 ns. R235: the word indices of NAV_IMU_MAP. -/
def State.navRules (s : State) (a : Nat) : List Rule :=
  onArr a (R.NAV_TP_CFG 0) 32 2 (fun p =>
    [(bitsOfField (F.NAV_TP_CFG_PERIOD_MS p), decide (s.get (F.NAV_TP_WIDTH_WIDTH p) ≤ s.get (F.NAV_TP_CFG_PERIOD_MS p) * 500))]) ++
  onArr a (R.NAV_TP_WIDTH 0) 32 2 (fun p =>
    [(wholeWord, decide (1 ≤ s.get (F.NAV_TP_WIDTH_WIDTH p)) &&
      decide (s.get (F.NAV_TP_WIDTH_WIDTH p) ≤ s.get (F.NAV_TP_CFG_PERIOD_MS p) * 500))]) ++
  onArr a (R.NAV_TP_OFS 0) 32 2 (fun p =>
    [(wholeWord, decide ((s.int (R.NAV_TP_OFS p)).natAbs ≤ 500000000))]) ++
  onReg a R.NAV_IMU_MAP ((List.range 6).map (fun k => (7 * 2 ^ (4 * k), s.imuIndexOk k))) ++
  onReg a R.NAV_IMU_FMT [(bitsOfField F.NAV_IMU_FMT_WORDS, (List.range 6).all s.imuIndexOk)]

/-! ## Feedback -/

/-- The frame time of SSI `n` plus MONO, in units of 10 ns (R248). -/
def State.ssiTime (s : State) (n : Nat) : Nat :=
  let bits := s.get (F.FBK_SSI_CFG_BITS n)
  (if s.flag (F.FBK_SSI_CFG_DOUBLE n) then 2 * bits + 1 else bits + 1) * 2 * (s.get (F.FBK_SSI_TIM_DIV n) + 1) +
    s.get (F.FBK_SSI_TIM_MONO n) * 100

/-- No switch that reads interface `n` as its source of end of travel finds it in DIFF (R421). -/
def State.encSwitches (s : State) (n : Nat) : Bool :=
  s.get (F.FBK_ENC_CFG_INTYPE n) != 0 ||
    (List.range 24).all (fun k => s.get (F.ARM_SW_CFG_SRC k) != 3 || s.get (F.ARM_SW_CFG_INST k) != n)

/-- R237, R240, R244, R248, R267, R421. PERIOD is judged against the frame time where a write changes either (log entry 40). -/
def State.fbkRules (s : State) (a : Nat) : List Rule :=
  let lim (lo hi : Nat) : List Rule := [(wholeWord, decide (s.int lo ≤ s.int hi))]
  let ssi (n : Nat) : Bool := decide (s.ssiTime n ≤ s.get (F.FBK_SSI_TIM_PERIOD n) * 5000)
  onArr a (R.FBK_ENC_CFG 0) 64 8 (fun n =>
    [(bitsOfFields [F.FBK_ENC_CFG_INTYPE n, F.FBK_ENC_CFG_MODE n], s.get (F.FBK_ENC_CFG_INTYPE n) != 2 ||
      s.get (F.FBK_ENC_CFG_MODE n) == 0 || s.get (F.FBK_ENC_CFG_MODE n) == 4),
     (bitsOfField (F.FBK_ENC_CFG_INTYPE n), s.encSwitches n)]) ++
  onArr a (R.FBK_ENC_WIN 0) 64 8 (fun n =>
    [(wholeWord, decide (s.get (F.FBK_ENC_WIN_WIN n) ≤ s.get (F.FBK_ENC_WIN_STANDSTILL_T n)))]) ++
  onArr a (R.FBK_ENC_LIM_LO 0) 64 8 (fun n => lim (R.FBK_ENC_LIM_LO n) (R.FBK_ENC_LIM_HI n)) ++
  onArr a (R.FBK_ENC_LIM_HI 0) 64 8 (fun n => lim (R.FBK_ENC_LIM_LO n) (R.FBK_ENC_LIM_HI n)) ++
  onArr a (R.FBK_SSI_CFG 0) 32 2 (fun n =>
    [(bitsOfFields [F.FBK_SSI_CFG_BITS n, F.FBK_SSI_CFG_DOUBLE n], ssi n)]) ++
  onArr a (R.FBK_SSI_TIM 0) 32 2 (fun n => [(wholeWord, ssi n)]) ++
  onArr a (R.FBK_AIN_LIM_LO 0) 32 16 (fun n => lim (R.FBK_AIN_LIM_LO n) (R.FBK_AIN_LIM_HI n)) ++
  onArr a (R.FBK_AIN_LIM_HI 0) 32 16 (fun n => lim (R.FBK_AIN_LIM_LO n) (R.FBK_AIN_LIM_HI n))

/-! ## CAN fields of points, loops and heats (R272, R273, R471, R550) -/

/-- The writers of bindings: loops, and 32 + heat. -/
def State.owners (s : State) : List Nat := List.range s.nLoop ++ (List.range s.nHeat).map (· + 32)

/-- The CAN field of a writer: object, first bit and the bit after the last. -/
def State.ownerSpan (s : State) (o : Nat) : Option (Nat × Nat × Nat) :=
  let w := s.bindWord o
  if srcKind w = 5 then some (srcInst w, srcBit w, srcBit w + srcWidth w) else none

/-- The CAN field of point `p`, whether or not it is enabled. -/
def State.pointSpan (s : State) (p : Nat) : Option (Nat × Nat × Nat) :=
  if s.get (F.GEO_PT_BIND_KIND p) = 3 then
    let o := s.get (F.GEO_PT_BIND_BITOFS p)
    some (s.get (F.GEO_PT_BIND_INST p), o, o + s.get (F.GEO_PT_BIND_WIDTH p) + 1)
  else none

/-- Two CAN fields share a bit. -/
def overlap (x y : Option (Nat × Nat × Nat)) : Bool :=
  match x, y with
  | some x, some y => x.1 == y.1 && decide (x.2.1 < y.2.2) && decide (y.2.1 < x.2.2)
  | _, _ => false

/-- Point `p` is enabled. -/
def State.ptEnabled (s : State) (p : Nat) : Bool := s.flag (F.GEO_PT_CTRL_EN p)

/-- Points `p` and `q` are bound to the same solenoid channel, load switch or CAN field bits (R273). -/
def State.samePoint (s : State) (p q : Nat) : Bool :=
  let k := s.get (F.GEO_PT_BIND_KIND p)
  let j := s.get (F.GEO_PT_BIND_KIND q)
  if k = 3 ∨ j = 3 then overlap (s.pointSpan p) (s.pointSpan q)
  else k != 0 && k == j && s.get (F.GEO_PT_BIND_INST p) == s.get (F.GEO_PT_BIND_INST q)

/-- Point `p`, where it is enabled, shares its output with no other enabled point (R273), and its CAN field is not that of a
loop or heat, enabled or not (R471, log entry 1502). -/
def State.pointAlone (s : State) (p : Nat) : Bool :=
  (!s.ptEnabled p || (List.range s.nPoint).all (fun q => q == p || !s.ptEnabled q || !s.samePoint p q)) &&
    s.owners.all (fun o => !overlap (s.pointSpan p) (s.ownerSpan o))

/-- The object of a CAN field is a transmit object (R550). -/
def State.spanSends (s : State) (x : Option (Nat × Nat × Nat)) : Bool :=
  match x with | some y => s.flag (F.CAN_OBJ_CFG_DIR y.1) | none => true

/-- The binding of point `p` names a present output and, for a CAN field, bits of a transmit object's data (R272, R550). -/
def State.pointBound (s : State) (p : Nat) : Bool :=
  let i := s.get (F.GEO_PT_BIND_INST p)
  match s.get (F.GEO_PT_BIND_KIND p) with
  | 1 => decide (i < s.nSol)
  | 2 => decide (i < s.nHsw)
  | 3 => decide (s.get (F.GEO_PT_BIND_BITOFS p) + s.get (F.GEO_PT_BIND_WIDTH p) + 1 ≤ 512) && s.spanSends (s.pointSpan p)
  | _ => true

/-- ONVAL and OFFVAL of point `p` lie below 2^WIDTH (R313). -/
def State.pointValues (s : State) (p : Nat) : Bool :=
  let top := 2 ^ (s.get (F.GEO_PT_BIND_WIDTH p) + 1)
  decide (s.get (F.GEO_PT_CANVAL_ONVAL p) < top) && decide (s.get (F.GEO_PT_CANVAL_OFFVAL p) < top)

/-- R271 to R273, R281. -/
def State.geoRules (s : State) (a : Nat) : List Rule :=
  onReg a R.GEO_MAP_CFG
    [(bitsOfFields [F.GEO_MAP_CFG_NSLOT, F.GEO_MAP_CFG_NLM1], decide (s.get F.GEO_MAP_CFG_NSLOT * (s.geoNL + 1) ≤ 10240))] ++
  onArr a (R.GEO_PT_CTRL 0) 64 128 (fun p =>
    [(bitsOfField (F.GEO_PT_CTRL_LAYER p), decide (s.get (F.GEO_PT_CTRL_LAYER p) < s.geoNL)),
     (bitsOfField (F.GEO_PT_CTRL_EN p), s.pointAlone p)]) ++
  onArr a (R.GEO_PT_BIND 0) 64 128 (fun p =>
    [(wholeWord, s.pointBound p && s.pointAlone p), (bitsOfField (F.GEO_PT_BIND_WIDTH p), s.pointValues p)]) ++
  onArr a (R.GEO_PT_CANVAL 0) 64 128 (fun p => [(wholeWord, s.pointValues p)])

/-! ## Stride, solenoids, sensing -/

/-- Enabled remote point `m` shares its output with no other enabled remote point (R344). -/
def State.remoteAlone (s : State) (m : Nat) : Bool :=
  let key (m : Nat) := (s.get (F.STR_SP_CTRL_SAT m), s.get (F.STR_SP_CTRL_KIND m), s.get (F.STR_SP_CTRL_INST m))
  !s.flag (F.STR_SP_CTRL_EN m) ||
    (List.range 896).all (fun j => j == m || !s.flag (F.STR_SP_CTRL_EN j) || key j != key m)

/-- R328, R338, R344, R356, R361. -/
def State.strRules (s : State) (a : Nat) : List Rule :=
  onReg a R.STR_CFG [(bitsOfField F.STR_CFG_QREQ, s.pers != 3 || decide (s.get F.STR_CFG_QREQ ≤ 3))] ++
  onReg a R.STR_SPEED [(wholeWord, decide (s.get F.STR_SPEED_SPEED_MIN ≤ s.get F.STR_SPEED_SPEED_RESUME))] ++
  onArr a (R.STR_PT_THR 0) 64 128 (fun p =>
    [(bitsOfFields [F.STR_PT_THR_ON_THRESH p, F.STR_PT_THR_OFF_THRESH p],
      decide (s.get (F.STR_PT_THR_OFF_THRESH p) ≤ s.get (F.STR_PT_THR_ON_THRESH p)))]) ++
  onArr a (R.STR_SP_THR 0) 32 896 (fun m =>
    [(bitsOfFields [F.STR_SP_THR_ON_THRESH m, F.STR_SP_THR_OFF_THRESH m],
      decide (s.get (F.STR_SP_THR_OFF_THRESH m) ≤ s.get (F.STR_SP_THR_ON_THRESH m)))]) ++
  onArr a (R.STR_SP_CTRL 0) 32 896 (fun m =>
    [(bitsOfField (F.STR_SP_CTRL_LAYER m), decide (s.get (F.STR_SP_CTRL_LAYER m) < s.geoNL)),
     (bitsOfFields [F.STR_SP_CTRL_KIND m, F.STR_SP_CTRL_INST m],
      !s.flag (F.STR_SP_CTRL_KIND m) || decide (s.get (F.STR_SP_CTRL_INST m) < 24)),
     (bitsOfFields [F.STR_SP_CTRL_EN m, F.STR_SP_CTRL_SAT m, F.STR_SP_CTRL_KIND m, F.STR_SP_CTRL_INST m], s.remoteAlone m)])

/-- R364, R370, R378. -/
def State.solRules (s : State) (a : Nat) : List Rule :=
  onArr a (R.SOL_DIE_BOOST 0) 64 2 (fun d =>
    [(bitsOfFields [F.SOL_DIE_BOOST_VMIN d, F.SOL_DIE_BOOST_VSET d],
      decide (s.get (F.SOL_DIE_BOOST_VMIN d) ≤ s.get (F.SOL_DIE_BOOST_VSET d)))]) ++
  onArr a (R.SOL_CH_CFG 0) 64 96 (fun n =>
    [(bitsOfFields [F.SOL_CH_CFG_PSRC n, F.SOL_CH_CFG_MODE n],
      !(s.get (F.SOL_CH_CFG_PSRC n) == 1 && s.get (F.SOL_CH_CFG_MODE n) == 3))]) ++
  (List.range 2).flatMap (fun d => onArr a (R.SOL_PROF_CUR d 0) 32 32 (fun k =>
    [(wholeWord, decide (s.get (F.SOL_PROF_CUR_I_HOLD d k) ≤ s.get (F.SOL_PROF_CUR_I_PEAK d k)))]))

/-- R421, R430. -/
def State.armRules (s : State) (a : Nat) : List Rule :=
  onArr a (R.ARM_CH_BOUND 0) 64 96 (fun n =>
    let lo := s.get (F.ARM_CH_BOUND_LAT_MIN n)
    let hi := s.get (F.ARM_CH_BOUND_LAT_MAX n)
    [(wholeWord, decide (lo < hi) || (lo == 0 && hi == 0))]) ++
  onArr a (R.ARM_SW_CFG 0) 32 24 (fun k =>
    let i := s.get (F.ARM_SW_CFG_INST k)
    [(bitsOfFields [F.ARM_SW_CFG_SRC k, F.ARM_SW_CFG_INST k],
      s.get (F.ARM_SW_CFG_SRC k) != 3 || (decide (i < 8) && s.get (F.FBK_ENC_CFG_INTYPE i) != 0))])

/-! ## Loops, heats, Pacers, learners, injectors, capture -/

/-- The fields BITOFS, WIDTH and SIGNED of a word: 0 for a kind other than CAN, within the object's data for it (R496). -/
def wordFits (can w : Nat) : Bool :=
  if srcKind w = can then decide (srcBit w + srcWidth w ≤ 512)
  else srcBit w == 0 && srcWidth w == 1 && !srcSigned w

/-- A source word whose KIND is among `kinds` and names a present instance (R467, R468, R496). -/
def State.sourceOk (s : State) (kinds : List Nat) (w : Nat) : Bool :=
  let i := srcInst w
  kinds.contains (srcKind w) && wordFits 6 w &&
  (match srcKind w with
   | 1 => decide (i < 16) | 2 => decide (i < 8) | 3 => decide (i < 8) | 4 => decide (i < 2)
   | 7 => !s.isSat && decide (i < 12) | 8 => decide (i < s.nPacer) | 9 => decide (i < s.nLoop) | _ => true)

/-- A binding word that names a present destination (R469, R471, R496, R550). -/
def State.bindOk (s : State) (w : Nat) : Bool :=
  let i := srcInst w
  wordFits 5 w &&
  (match srcKind w with
   | 0 => true | 1 => decide (i < s.nSol) | 2 => decide (i < s.nSol) | 3 => decide (i < 6) | 4 => !s.isSat && decide (i < 4)
   | 5 => s.flag (F.CAN_OBJ_CFG_DIR i) | _ => false)

/-- Writer `o` is enabled. -/
def State.ownerOn (s : State) (o : Nat) : Bool :=
  if o < 32 then s.flag (F.CTL_LOOP_CTRL_EN o) else s.flag (F.CTL_HEAT_CFG_EN (o - 32))

/-- Two bindings name the same destination. -/
def sameDest (v w : Nat) : Bool :=
  let k := srcKind v
  k != 0 && k != 5 && k == srcKind w && srcInst v == srcInst w

/-- Writer `o` shares its destination with no other enabled one, and its CAN field with no other field (R471). -/
def State.ownerAlone (s : State) (o : Nat) : Bool :=
  s.owners.all (fun q => q == o || (!overlap (s.ownerSpan o) (s.ownerSpan q) &&
    !(s.ownerOn o && s.ownerOn q && sameDest (s.bindWord o) (s.bindWord q)))) &&
  (s.absentBlock .geo || (List.range s.nPoint).all (fun p => !overlap (s.ownerSpan o) (s.pointSpan p)))

/-- Loop `n` in a heat has OKIND 0 (R471). -/
def State.heatBind (s : State) (n : Nat) : Bool := s.get (F.CTL_LOOP_CFG_HEAT n) == 0 || srcKind (s.bindWord n) == 0

/-- The heat of loop `n` is present, holds at most 8 members, and its members share PERIOD and PHASE (R480, R495). -/
def State.heatOk (s : State) (n : Nat) : Bool :=
  match s.heatOf n with
  | none => true
  | some h =>
    decide (h < s.nHeat) && decide ((s.members h).length ≤ 8) &&
      (s.members h).all (fun m => s.nat (R.CTL_LOOP_TIME m) == s.nat (R.CTL_LOOP_TIME n))

/-- The lap learner of loop `n` is present and serves no other loop (R495, R506). -/
def State.lapFree (s : State) (n : Nat) : Bool :=
  let j := s.get (F.CTL_LOOP_CFG_LAP n)
  j == 0 || (decide (j ≤ s.nLap) && (List.range s.nLoop).all (fun m => m == n || s.get (F.CTL_LOOP_CFG_LAP m) != j))

/-- PERIOD and PHASE on the sample grid (R464). -/
def State.gridOk (s : State) (period phase : Fld) : Bool :=
  decide (1 ≤ s.get period) && decide (s.get period ≤ 20000) && decide (s.get phase < s.get period)

/-- A coefficient with 24 fraction bits that is not negative and at most 1.0, or below it where `strict`. -/
def State.unitOk (s : State) (a : Nat) (strict : Bool) : Bool :=
  decide (0 ≤ s.int a) && (if strict then decide (s.int a < 2 ^ 24) else decide (s.int a ≤ 2 ^ 24))

/-- R464, R468, R471, R474, R480, R487, R495, R496, R506. -/
def State.ctlRules (s : State) (a : Nat) : List Rule :=
  let loop (r : Nat) (f : Nat → List Rule) : List Rule := onArr a r 128 32 f
  let out (n : Nat) : Bool := decide (s.int (R.CTL_LOOP_OMIN n) ≤ s.int (R.CTL_LOOP_OMAX n))
  onArr a (R.CTL_HEAT_CFG 0) 32 4 (fun h => [(wholeWord, s.ownerAlone (32 + h))]) ++
  onArr a (R.CTL_HEAT_OUT 0) 32 4 (fun h => [(wholeWord, s.bindOk (s.bindWord (32 + h)) && s.ownerAlone (32 + h))]) ++
  loop (R.CTL_LOOP_CTRL 0) (fun n => [(bitsOfField (F.CTL_LOOP_CTRL_EN n), s.ownerAlone n)]) ++
  loop (R.CTL_LOOP_CFG 0) (fun n =>
    [(bitsOfField (F.CTL_LOOP_CFG_HEAT n), s.heatBind n && s.heatOk n),
     (bitsOfField (F.CTL_LOOP_CFG_LAP n), s.lapFree n),
     (bitsOfFields [F.CTL_LOOP_CFG_FB_ACT n, F.CTL_LOOP_CFG_BKP_N n],
      s.get (F.CTL_LOOP_CFG_FB_ACT n) != 2 || s.get (F.CTL_LOOP_CFG_BKP_N n) != 0)]) ++
  loop (R.CTL_LOOP_TIME 0) (fun n =>
    [(wholeWord, s.gridOk (F.CTL_LOOP_TIME_PERIOD n) (F.CTL_LOOP_TIME_PHASE n) && s.heatOk n)]) ++
  loop (R.CTL_LOOP_SP_SRC 0) (fun n => [(wholeWord, s.sourceOk (List.range 10) (s.nat (R.CTL_LOOP_SP_SRC n)))]) ++
  loop (R.CTL_LOOP_FB_SRC 0) (fun n => [(wholeWord, s.sourceOk (List.range' 1 9) (s.nat (R.CTL_LOOP_FB_SRC n)))]) ++
  loop (R.CTL_LOOP_FF_SRC 0) (fun n => [(wholeWord, s.sourceOk (List.range 10) (s.nat (R.CTL_LOOP_FF_SRC n)))]) ++
  loop (R.CTL_LOOP_OUT 0) (fun n => [(wholeWord, s.bindOk (s.bindWord n) && s.heatBind n && s.ownerAlone n)]) ++
  loop (R.CTL_LOOP_DA 0) (fun n => [(wholeWord, s.unitOk (R.CTL_LOOP_DA n) true)]) ++
  loop (R.CTL_LOOP_KBC 0) (fun n => [(wholeWord, s.unitOk (R.CTL_LOOP_KBC n) false)]) ++
  loop (R.CTL_LOOP_OMIN 0) (fun n => [(wholeWord, out n)]) ++
  loop (R.CTL_LOOP_OMAX 0) (fun n => [(wholeWord, out n)]) ++
  loop (R.CTL_LOOP_SLEW 0) (fun n => [(wholeWord, decide (0 ≤ s.int (R.CTL_LOOP_SLEW n)))])

/-- A capture selector names a signal and a present instance (R514). -/
def State.selectorOk (s : State) (sel : Nat) : Bool :=
  let i := sel % 32
  sel / 32 % 128 == 0 &&
  (match sel / 4096 with
   | 8 => decide (i < s.nPacer) | 9 => decide (i < s.nPacer) | 10 => decide (i < s.nHeat)
   | k => decide (k < 8) && decide (i < s.nLoop))

/-- R501, R502, R506, R507, R512, R514. -/
def State.paceRules (s : State) (a : Nat) : List Rule :=
  let xs (p : Nat) : Bool := decide (s.int (R.PACE_XMIN p) ≤ s.int (R.PACE_XMAX p))
  onArr a (R.PACE_TSRC 0) 64 16 (fun p => [(wholeWord, s.sourceOk [0, 1, 2, 5, 6, 9] (s.nat (R.PACE_TSRC p)))]) ++
  onArr a (R.PACE_TIME 0) 64 16 (fun p => [(wholeWord, s.gridOk (F.PACE_TIME_PERIOD p) (F.PACE_TIME_PHASE p))]) ++
  onArr a (R.PACE_XMIN 0) 64 16 (fun p => [(wholeWord, xs p)]) ++
  onArr a (R.PACE_XMAX 0) 64 16 (fun p => [(wholeWord, xs p)]) ++
  onArr a (R.LAP_SRC 0) 64 4 (fun j =>
    [(bitsOfFields [F.LAP_SRC_KIND j, F.LAP_SRC_INST j],
      decide (s.get (F.LAP_SRC_INST j) < (if s.get (F.LAP_SRC_KIND j) = 3 then 8 else 2)))]) ++
  onArr a (R.LAP_GAIN 0) 64 4 (fun j => [(wholeWord, s.unitOk (R.LAP_GAIN j) false)]) ++
  onArr a (R.LAP_TMAX 0) 64 4 (fun j => [(wholeWord, decide (0 < s.int (R.LAP_TMAX j)))]) ++
  onArr a (R.INJ_CFG 0) 64 4 (fun q =>
    [(bitsOfField (F.INJ_CFG_TYPE q), decide (1 ≤ s.get (F.INJ_CFG_TYPE q)) && decide (s.get (F.INJ_CFG_TYPE q) ≤ 4)),
     (bitsOfField (F.INJ_CFG_LOOP q), decide (s.get (F.INJ_CFG_LOOP q) < s.nLoop))]) ++
  onArr a (R.INJ_PRBS 0) 64 4 (fun q => [(bitsOfField (F.INJ_PRBS_SEED q), s.get (F.INJ_PRBS_SEED q) != 0)]) ++
  onReg a R.CAP_CFG [(bitsOfField F.CAP_CFG_LOOP, decide (s.get F.CAP_CFG_LOOP < s.nLoop))] ++
  onArr a (R.CAP_SEL 0) 4 4 (fun k =>
    [(bitsOfField (F.CAP_SEL_LO k), s.selectorOk (s.get (F.CAP_SEL_LO k))),
     (bitsOfField (F.CAP_SEL_HI k), s.selectorOk (s.get (F.CAP_SEL_HI k)))])

/-! ## CAN, the recorder, Plumb -/

/-- A bit has at least `least` periods of 12.5 ns, and SJW does not exceed TSEG2 (R525); the fields hold the values
less 1. -/
def bitTimeOk (least brp seg1 seg2 sjw : Nat) : Bool :=
  decide (least ≤ (brp + 1) * (seg1 + seg2 + 3)) && decide (sjw ≤ seg2)

/-- Object `k` is a transmit object, or holds no field of a point, loop or heat (R550). -/
def State.objectSends (s : State) (k : Nat) : Bool :=
  let names (x : Option (Nat × Nat × Nat)) : Bool := match x with | some y => y.1 == k | none => false
  s.flag (F.CAN_OBJ_CFG_DIR k) ||
    !(s.owners.any (fun o => names (s.ownerSpan o)) || (List.range s.nPoint).any (fun p => names (s.pointSpan p)))

/-- R525, R529, R534, R536, R550. -/
def State.canRules (s : State) (a : Nat) : List Rule :=
  onArr a (R.CAN_CTL_NBT 0) 64 3 (fun n =>
    [(wholeWord, bitTimeOk 80 (s.get (F.CAN_CTL_NBT_BRPM1 n)) (s.get (F.CAN_CTL_NBT_TSEG1M1 n))
      (s.get (F.CAN_CTL_NBT_TSEG2M1 n)) (s.get (F.CAN_CTL_NBT_SJWM1 n)))]) ++
  onArr a (R.CAN_CTL_DBT 0) 64 3 (fun n =>
    [(bitsOfFields [F.CAN_CTL_DBT_SJWM1 n, F.CAN_CTL_DBT_TSEG2M1 n, F.CAN_CTL_DBT_TSEG1M1 n, F.CAN_CTL_DBT_BRPM1 n],
      bitTimeOk 16 (s.get (F.CAN_CTL_DBT_BRPM1 n)) (s.get (F.CAN_CTL_DBT_TSEG1M1 n)) (s.get (F.CAN_CTL_DBT_TSEG2M1 n))
        (s.get (F.CAN_CTL_DBT_SJWM1 n)))]) ++
  onArr a (R.CAN_OBJ_CFG 0) 128 256 (fun k =>
    [(bitsOfFields [F.CAN_OBJ_CFG_BRS k, F.CAN_OBJ_CFG_FDF k],
      !s.flag (F.CAN_OBJ_CFG_BRS k) || s.flag (F.CAN_OBJ_CFG_FDF k)),
     (bitsOfFields [F.CAN_OBJ_CFG_PRIV k, F.CAN_OBJ_CFG_DIR k],
      !s.flag (F.CAN_OBJ_CFG_PRIV k) || s.flag (F.CAN_OBJ_CFG_DIR k)),
     (bitsOfField (F.CAN_OBJ_CFG_PRIV k), !s.flag (F.CAN_OBJ_CFG_PRIV k) ||
      decide (((List.range 256).filter (fun j => s.flag (F.CAN_OBJ_CFG_PRIV j))).length ≤ 16)),
     (bitsOfField (F.CAN_OBJ_CFG_DIR k), s.objectSends k)]) ++
  onArr a (R.CAN_OBJ_TIME 0) 128 256 (fun k =>
    let p := s.get (F.CAN_OBJ_TIME_PERIOD k)
    [(wholeWord, p == 0 || decide (s.get (F.CAN_OBJ_TIME_PHASE k) < p))])

/-- Event `e` is one of the table of R150. -/
def eventListed (e : Nat) : Bool :=
  decide (e % 16 < (evClasses (e / 16)).length) && !(e / 16 == 14 && (e % 16 == 6 || e % 16 == 7))

/-- R615. -/
def State.recRules (s : State) (a : Nat) : List Rule :=
  onArr a (R.REC_TRG_CFG 0) 256 16 (fun t => [(bitsOfField (F.REC_TRG_CFG_EVNUM t), eventListed (s.get (F.REC_TRG_CFG_EVNUM t)))])

/-- EXPSRC = memory with SRC = 1 (R683). -/
def State.plbRules (s : State) (a : Nat) : List Rule :=
  onArr a (R.PLB_CFG 0) 64 4 (fun u =>
    [(bitsOfFields [F.PLB_CFG_EXPSRC u, F.PLB_CFG_SRC u], !(s.get (F.PLB_CFG_EXPSRC u) == 2 && s.flag (F.PLB_CFG_SRC u)))])

/-- The rules at the register at `a`, judged on the registers as they stand. -/
def State.rules (s : State) (a : Nat) : List Rule :=
  match a / 65536 with
  | 5 => s.laneRules a
  | 7 => s.gnssRules a
  | 8 => s.navRules a
  | 9 => s.fbkRules a
  | 10 => s.geoRules a
  | 11 => s.strRules a
  | 12 => s.solRules a
  | 13 => s.armRules a
  | 15 => s.ctlRules a
  | 16 => s.paceRules a
  | 17 => s.canRules a
  | 18 => s.recRules a
  | 21 => s.plbRules a
  | _ => []

/-- A rule at `a` that judges a bit of `mask` is broken. -/
def State.breaks (s : State) (a mask : Nat) : Bool := (s.rules a).any (fun r => (r.1 &&& mask) != 0 && !r.2)

end Sys2Proof.Machine
end

