-- ==== Sys2Proof/Machine/Change.lean ====
section
/-! DEFINITION. What follows when a register takes a new value, whoever wrote it: the host, the footing or a course. -/

namespace Sys2Proof.Machine

open Sys2Proof

/-- The index of the array register `r` at `a`. -/
def arrIdx (a : Nat) (r : Nat → Nat) (count : Nat) : Option Nat :=
  let base := r 0
  let stride := r 1 - r 0
  if base ≤ a ∧ (a - base) % stride = 0 ∧ (a - base) / stride < count then some ((a - base) / stride) else none

/-- Acts on the instance whose register `a` is, if it is one of the array. -/
def State.onIdx (s : State) (a : Nat) (r : Nat → Nat) (count : Nat) (f : State → Nat → State) : State :=
  match arrIdx a r count with | some i => f s i | none => s

/-- A field differs between two states. -/
def differs (s0 s : State) (f : Fld) : Bool := s0.get f != s.get f

/-- A one-bit field has gone from 1 to 0. -/
def cleared (s0 s : State) (f : Fld) : Bool := s0.flag f && !s.flag f

/-- The entries of LANE0 are discarded, counted and passed (R146). -/
def State.bulkDiscard (s : State) : State :=
  if s.laneIn 0 then
    let n := s.laneLevel 0
    (s.count F.CFG_BULK_CNT_REF n).put (F.LANE_TAIL_TAIL 0) (s.get (F.LANE_HEAD_HEAD 0))
  else s

/-- Lane `n` is cleared (R142), and what waited for a held message goes on without it: a signed chunk is forgotten, an
evicted slot becomes free, a capture's trailer is lost. -/
def State.laneStop (s : State) (n : Nat) : State :=
  let s := s.laneClear n
  if n = 2 then s.chunkSettle
  else if n = 4 then s.geoSettle
  else if n = 7 then s.modCap (fun c => { c with held := 0 })
  else s

/-- ENABLE of a block has gone from 1 to 0: what its chapter says under R105. -/
def State.blockDisable (s : State) (b : Block) : State :=
  match b with
  | .sys => s
  | .clk => s.clkDisable
  | .pwr => s.pwrDisable
  | .evt => s
  | .lane => s.each (List.range 16) State.laneStop
  | .cfg => s.bulkDiscard
  | .gnss => s.gnssDisable
  | .nav => s.modNav (fun n => { n with offAt := s.now })
  | .fbk => s.fbkDisable
  | .geo => s.geoDisable
  | .str => s.strDisable
  | .sol => s.solBlockDisable
  | .arm => s
  | .hsw => s.hswBlockDisable
  | .ctl => s.ctlDisable
  | .pace => s.paceDisable
  | .can => s.canDisable
  | .recorder => s.recDisable
  | .mem => s.memDisable
  | .sec => s.secDisable
  | .plb => s.plbDisable

/-- ENABLE of a block has gone from 0 to 1: the block resumes with its present registers (R105). -/
def State.blockEnable (s : State) (b : Block) : State :=
  match b with
  | .cfg => s.bulkDiscard  -- R146: what was written while CFG was disabled never executes
  | .gnss => s.gnssEnable
  | .nav => s.navEnable
  | .str => s.strEnable
  | .sol => s.solResume (List.range 96)
  | .ctl => s.ctlEnable
  | .can => s.canEnable
  | .sec => s.certWatch
  | .sys | .clk | .pwr | .evt | .lane | .fbk | .geo | .arm | .hsw | .pace | .recorder | .mem | .plb => s

/-- BLK_CTRL of block `b` has changed (R104, R105). A failed block takes no write of it. -/
def State.ctrlChanged (s0 s : State) (b : Block) : State :=
  let s := if cleared s0 s (H.enable b) then s.blockDisable b
    else if cleared s s0 (H.enable b) then s.blockEnable b else s
  if cleared s0 s (H.shadowBit b) then s.shadowRelease b
  else if cleared s s0 (H.shadowBit b) then s.shadowTake b else s

/-- A lane's registers have changed (R141, R142); entries that the host put into a dead page are lost (R139). -/
def State.laneChanged (s0 s : State) (a : Nat) : State :=
  let zero (s : State) (n : Nat) : State := (s.put (F.LANE_HEAD_HEAD n) 0).put (F.LANE_TAIL_TAIL n) 0
  let s := s.onIdx a R.LANE_CTRL 16 (fun s n =>
    let s := if cleared s0 s (F.LANE_CTRL_EN n) then s.laneStop n else s
    if differs s0 s (F.LANE_CTRL_DIR n) || differs s0 s (F.LANE_CTRL_LEAD n) then zero s n else s)
  let s := s.onIdx a R.LANE_BASE 16 zero
  let s := s.onIdx a R.LANE_SIZE 16 zero
  s.onIdx a R.LANE_HEAD 16 (fun s n => s.laneDead n (s0.get (F.LANE_HEAD_HEAD n)))

/-- The position is held within limits that have changed, and STAT.LIMIT follows (R240); a position that this moves has
jumped (R241). -/
def State.limitShow (s : State) (n : Nat) : State :=
  if (s.encHold n).encPos n ≠ s.encPos n then s.encJumped n (s.encPos n) else s.limitNote n false

/-- FBK registers have changed (R240, R241, R244, R246, R250, R254, R268, R604). -/
def State.fbkChanged (s0 s : State) (a : Nat) : State :=
  let s := s.onIdx a R.FBK_ENC_CFG 8 (fun s n =>
    let s := if differs s0 s (F.FBK_ENC_CFG_MODE n) || differs s0 s (F.FBK_ENC_CFG_INTYPE n) then s.encStill n else s
    (s.encVio n).limitShow n)
  let s := s.onIdx a R.FBK_ENC_ZCFG 8 State.encVio
  let s := s.onIdx a R.FBK_ENC_FILT 8 State.encStill
  let s := s.onIdx a R.FBK_ENC_LIM_LO 8 State.limitShow
  let s := s.onIdx a R.FBK_ENC_LIM_HI 8 State.limitShow
  let s := s.onIdx a R.FBK_ENC_POS 8 (fun s n => s.encJumped n (s0.encPos n))
  let s := if a = R.FBK_FUS_CTRL && cleared s0 s F.FBK_FUS_CTRL_EN then s.fusNone else s
  let s := s.each (List.range 8) (fun s n => s.onIdx a (R.FBK_CMP_CTRL n) 16 (fun s k =>
    if cleared s s0 (F.FBK_CMP_CTRL_ARM n k) then s.cmpEval n k else s))
  s.onIdx a R.FBK_AIN_CFG 16 (fun s n =>
    if differs s0 s (F.FBK_AIN_CFG_RANGE n) then
      ((s.put (F.FBK_AIN_STAT_OPEN n) 0).put (F.FBK_AIN_STAT_SHUNT_OPEN n) 0).modAin n (fun x =>
        { x with init := false, outRun := 0, inRun := 0, lowRun := 0, okRun := 0, highRun := 0 })
    else s)

/-- SOL registers have changed (R389, R390, R397, R402, R423 to R425). With ADAPT set the target starts at VSET; a new VSET or
VMIN then moves it into its range (log entry 1107), unless ARM is disabled and the target held (R425). -/
def State.solChanged (s0 s : State) (a : Nat) : State :=
  let s := s.onIdx a R.SOL_CH_CTRL 96 (fun s n =>
    if cleared s0 s (F.SOL_CH_CTRL_EN n) then s.solChDisable n else s.solCurrent n)
  let s := s.onIdx a R.SOL_CH_CFG 96 State.solCurrent
  let s := s.onIdx a R.SOL_CH_ISET 96 State.solCurrent
  let s := s.onIdx a R.SOL_CH_DITHER 96 State.solCurrent
  let s := s.onIdx a R.SOL_CH_DLIM 96 (fun s n =>
    if differs s0 s (F.SOL_CH_DLIM_WINDOW n) then s.dutyClear n else s.dutyOpen n)
  let s := s.onIdx a R.SOL_CH_I2T 96 State.dutyOpen
  s.onIdx a R.SOL_DIE_BOOST 2 (fun s d =>
    if cleared s0 s (F.SOL_DIE_BOOST_ADAPT d) then s.adaptReset d
    else if !s.flag (F.SOL_DIE_BOOST_ADAPT d) || cleared s s0 (F.SOL_DIE_BOOST_ADAPT d) then
      s.put (F.SOL_DIE_VB_TGT d) (s.get (F.SOL_DIE_BOOST_VSET d))
    else if !s.runs .arm then s
    else s.setTarget d (max (s.get (F.SOL_DIE_BOOST_VMIN d)) (min (s.get (F.SOL_DIE_BOOST_VSET d)) (s.get (F.SOL_DIE_VB_TGT d)))))

/-- STR registers have changed: a point whose FORCE returns to auto, or that is enabled, decides afresh (R331). -/
def State.pointFreed (s : State) (p : Nat) : State := s.modPt p (fun x => { x with settled := false })

/-- The registers of a block other than its header page have changed. -/
def State.blockChanged (s0 s : State) (a : Nat) : State :=
  match a / 65536 with
  | 2 =>                                                                                             -- R572, R576
    if a = R.CLK_GATE_REQ then s.gateWritten (s0.nat a) else s.when (a == R.CLK_CTRL && s.flag F.CLK_CTRL_AUTORET) State.hostReturn
  | 5 => State.laneChanged s0 s a
  | 7 =>
    if a = R.GNSS_FE_CTRL then
      (if (List.range 4).any (fun p => s0.pathEn p && !s.pathEn p && s.snapPaths.contains p) then s.snapBreak else s)
    else (s.onIdx a R.GNSS_CH_CTRL 192 (fun s n => s.chWritten n false)).onIdx a R.GNSS_CH_SIG 192 (fun s n => s.chWritten n true)
  | 8 => s.when (cleared s s0 F.NAV_CTRL_IMU_EN) (fun s => s.modNav (fun n => { n with imuAt := s.clk, imuLost := false }))
  | 9 => State.fbkChanged s0 s a
  | 10 => s.onIdx a R.GEO_PT_CTRL 128 (fun s p => if cleared s s0 (F.GEO_PT_CTRL_EN p) then s.pointFreed p else s)
  | 11 =>
    let s := s.onIdx a R.STR_PT_CTRL 128 (fun s p =>
      if differs s0 s (F.STR_PT_CTRL_FORCE p) && s.ptForce p == 0 then s.pointFreed p else s)
    s.onIdx a R.STR_SP_CTRL 896 (fun s m => if cleared s s0 (F.STR_SP_CTRL_EN m) then s.pointFreed (128 + m) else s)
  | 12 => State.solChanged s0 s a
  | 13 =>
    let s := s.onIdx a R.ARM_CH_CTRL 96 (fun s n => if cleared s0 s (F.ARM_CH_CTRL_EN n) then s.armCut n else s)
    -- the confidence of a switch depends on its SRC (R422)
    (s.onIdx a R.ARM_CH_INIT 96 State.armInit).onIdx a R.ARM_SW_CFG 24 State.eotConf
  | 14 =>
    let s := s.onIdx a R.HSW_CH_CTRL 24 (fun s k => if cleared s0 s (F.HSW_CH_CTRL_EN k) then s.hswDisable k else s)
    s.onIdx a R.HSW_CH_CFG 24 State.hswModeOff
  | 15 =>
    let hold (s : State) (n : Nat) : State := if s.loopSt n = 1 then s.modLoop n (fun x => { x with hold := s.loopL n }) else s
    (s.onIdx a R.CTL_LOOP_OUT 32 hold).onIdx a R.CTL_LOOP_CFG 32 hold
  | 16 =>
    let s := s.onIdx a R.LAP_SRC 4 (fun s j =>
      if differs s0 s (F.LAP_SRC_KIND j) || differs s0 s (F.LAP_SRC_INST j) || differs s0 s (F.LAP_SRC_NEG j) then s.lapRebase j
      else s)
    let s := s.onIdx a R.LAP_CPR 4 State.lapRebase
    s.onIdx a R.LAP_ORIGIN 4 State.lapRebase
  | 17 => s.onIdx a R.CAN_CTL_CFG 3 State.canModeStep
  | _ => s

/-- The register at `a` has taken the value it holds in `s`; `s0` is the state before. -/
def State.onChange (s0 s : State) (a : Nat) : State :=
  if s0.word a = s.word a then s
  else if a % 65536 = 8 then (match blockOf (a / 65536) with | some b => State.ctrlChanged s0 s b | none => s)
  else State.blockChanged s0 s a

/-- The register at `a` takes the value `w`, with everything that follows. -/
def State.change (s : State) (a : Nat) (w : Word) : State := if s.word a = w then s else State.onChange s (s.setWord a w) a

end Sys2Proof.Machine
end

