-- ==== Sys2Proof/Machine/Fields.lean ====
section
/-! DEFINITION. The fields of a register as the host and the images meet them: access codes (R17), reserved bits (R21),
fields that a personality lacks (R154, R229), footing defaults (R24), and the word that a write leaves (R60). -/

namespace Sys2Proof.Machine

open Sys2Proof

/-- The fields of a fixed word of the header page (R98 to R101, R103, R107, R108, R110). -/
def headerFields (o : Nat) : List FieldDef :=
  match o with
  | 0x000 => [⟨0, 8, .ro, false, 0, .any, false⟩, ⟨8, 8, .ro, false, 0, .any, false⟩, ⟨16, 16, .ro, false, 0, .any, false⟩]
  | 0x004 => [⟨0, 2, .ro, false, 0, .any, false⟩]
  | 0x008 => [⟨0, 1, .rw, true, 0, .any, false⟩, ⟨1, 1, .wo, false, 0, .any, false⟩, ⟨2, 1, .rw, false, 0, .any, false⟩]
  | 0x00C => [⟨0, 1, .ro, false, 0, .any, false⟩, ⟨1, 1, .ro, false, 0, .any, false⟩, ⟨2, 1, .ro, false, 0, .any, false⟩,
      ⟨3, 1, .ro, false, 0, .any, false⟩]
  | 0x010 => [⟨0, 16, .w1c, false, 0, .any, false⟩]
  | 0x014 => [⟨0, 16, .rw, true, 0, .any, false⟩]
  | 0x018 => [⟨0, 32, .w1c, false, 0, .any, false⟩]
  | 0x01C => [⟨0, 1, .ro, true, 0, .any, false⟩, ⟨1, 1, .ro, true, 0, .any, false⟩, ⟨8, 1, .wo, false, 0, .any, false⟩]
  | 0x020 => [⟨0, 5, .ro, false, 0, .any, false⟩, ⟨8, 1, .ro, false, 0, .any, false⟩, ⟨16, 8, .ro, false, 0, .any, false⟩]
  | _ => []

/-- The fields of the register at `a`; none where no map lists it (R22). -/
def fieldsAt (a : Nat) : List FieldDef :=
  match blockOf (a / 65536) with
  | none => []
  | some _ => if a % 65536 < 0x24 then headerFields (a % 65536) else match regAt a with | some (r, _) => r.fields | none => []

/-- The bits of a field. -/
def FieldDef.bits (f : FieldDef) : Nat := (2 ^ f.w - 1) * 2 ^ f.lo

/-- The bits of the fields that meet a condition. -/
def bitsWhere (fs : List FieldDef) (p : FieldDef → Bool) : Nat := fs.foldl (fun m f => if p f then m ||| f.bits else m) 0

/-- The bits at `a` that stand for something the personality lacks: a path, an antenna, heading or RTK (R154, R229). -/
def State.absentBits (s : State) (a : Nat) : Nat :=
  if a = R.GNSS_FE_CTRL ∧ s.nAnt < 2 then
    bitsOfField F.GNSS_FE_CTRL_BIAS_B ||| 3 * 2 ^ (F.GNSS_FE_CTRL_PATH_EN.lo + 2)
  else if a = R.NAV_CTRL then
    (if s.pers = 2 ∨ s.pers = 3 then bitsOfField F.NAV_CTRL_HDG_EN else 0) |||
    (if s.pers = 3 then bitsOfField F.NAV_CTRL_RTK_EN else 0)
  else 0

/-- The bits at `a` that are reserved in this instance: events and enables of other blocks (R99), enables of class S (R148),
PAIR of an odd channel (R372). -/
def reservedBits (a : Nat) : Nat :=
  match blockOf (a / 65536) with
  | none => wholeWord
  | some b =>
    let g := evGroup b
    if a % 65536 = 0x010 then wholeWord - evMask b g
    else if a % 65536 = 0x014 then wholeWord - (evMask b g - safeMask b g)
    else if a = R.SOL_EVT_HI ∨ a = R.SOL_EVT_HI_EN then wholeWord - evMask .sol 9
    else if 0xC2000 ≤ a ∧ a < 0xC3800 ∧ a % 128 = R.SOL_CH_CFG 1 % 128 then bitsOfField (F.SOL_CH_CFG_PAIR 1)
    else 0

/-- The footing default of a field of the register at `a` (R24, R144). -/
def ftgDefault (a : Nat) (f : FieldDef) : Nat :=
  if 0x51000 ≤ a ∧ a < 0x51200 ∧ a % 32 = 0 then
    let n := (a - 0x51000) / 32
    if f.lo = 1 then bit ([0, 3, 6, 10].contains n)
    else if f.lo = 2 then bit (n == 10)
    else if f.lo = 3 then bit ([1, 2, 4].contains n)
    else f.dflt
  else f.dflt

/-- The word that the register at `a` holds after a footing without entries is applied (R24). -/
def baseWord (a : Nat) : Word :=
  (fieldsAt a).foldl (fun w f => if f.ftg then insertField w f.lo f.w (ftgDefault a f) else w) (resetWord a)

/-- The word of `baseWord` in this personality: what stands for something absent is 0 (R154, R229). -/
def State.footWord (s : State) (a : Nat) : Word := baseWord a &&& ~~~ BitVec.ofNat 32 (s.absentBits a)

/-- The bits of the register at `a` that images write: RW, RWL and RWO fields and the RO fields marked ftg (R700). -/
def imageBits (a : Nat) : Nat :=
  bitsWhere (fieldsAt a) (fun f => match f.acc with | .rw | .rwl | .rwo => true | .ro => f.ftg | _ => false) &&&
    (wholeWord - reservedBits a)

/-- `x` with the bits of `m` taken from `v`. -/
def mergeBits (x : Word) (m : Nat) (v : Word) : Word :=
  let k := BitVec.ofNat 32 m
  (x &&& ~~~ k) ||| (v &&& k)

/-- Safe-state events of group `g` that a write cannot clear now: the safe state they report still holds (R148). -/
def State.safeHolds (s : State) (a : Nat) : Nat :=
  if a = H.evt .cfg then bit s.safe * 2 ^ 3
  else if a = H.evt .pwr then bit (s.flag F.PWR_STAT_DSAFE_A || s.flag F.PWR_STAT_DSAFE_B) * 2 ^ 14
  else 0

/-- The bits of the fields of the register at `a` with access code `c`. -/
def accBits (a : Nat) (c : Access) : Nat := bitsWhere (fieldsAt a) (fun f => f.acc == c)

/-- The bits of object data that belong to fields of points, loops and heats (R550). -/
def State.boundBits (s : State) (a : Nat) : Nat :=
  if 0x118000 ≤ a ∧ a < 0x120000 ∧ 0x40 ≤ a % 128 then
    let k := (a - 0x118000) / 128
    let o := (a % 128 - 0x40) * 8
    let spans := (s.owners.map s.ownerSpan ++ (List.range s.nPoint).map s.pointSpan).filterMap id
    spans.foldl (fun m x =>
      if x.1 = k then m ||| ((2 ^ (x.2.2 - x.2.1) - 1) * 2 ^ x.2.1 / 2 ^ o % 2 ^ 32) else m) 0
  else 0

/-- The register at `a` holds an NCO word that is RO: that of a channel outside TEST (R163). -/
def State.ncoFixed (s : State) (a : Nat) : Bool :=
  let nco (r : Nat → Nat) : Bool := match arrIdx a r 192 with | some n => s.get (F.GNSS_CH_CTRL_MODE n) != 3 | none => false
  nco R.GNSS_CH_CARR_NCO || nco R.GNSS_CH_CODE_NCO

/-- The register at `a` holds data of a receive object, which is its read copy (R530, R556). -/
def State.readCopyAt (s : State) (a : Nat) : Bool :=
  let k := (a - 0x118000) / 128
  decide (0x118000 ≤ a ∧ a < 0x120000 ∧ 0x40 ≤ a % 128) &&
    (if s.flag (F.CAN_OBJ_STAT_ACTIVE k) then !nbit (s.canObj.get k).attCfg (F.CAN_OBJ_CFG_DIR k).lo else !s.flag (F.CAN_OBJ_CFG_DIR k))

/-- The register at `a` is RO in the present setting: no host, footing or course writes it. -/
def State.fixedNow (s : State) (a : Nat) : Bool := s.ncoFixed a || s.readCopyAt a

/-- The fields of the register at `a` that are RW in another setting and RO in the present one: the NCO words of a channel
outside TEST (R163), the data of a receive object (R556), and the duty of a pulse generator whose source is not the host (R446). -/
def State.roNow (s : State) (a : Nat) : Nat :=
  let duty : Bool := match arrIdx a R.HSW_PG_DUTY 6 with | some p => s.get (F.HSW_PG_CFG_DSRC p) != 0 | none => false
  if s.fixedNow a || duty then wholeWord else 0

/-- The word that a host write of `v` under `mask` leaves in the register at `a` (R17, R18, R21, R60). -/
def State.written (s : State) (a : Nat) (mask v : Word) : Word :=
  let x := s.word a
  let fs := fieldsAt a
  let here := wholeWord - (reservedBits a ||| s.absentBits a ||| s.roNow a)
  let rw := bitsWhere fs (fun f => f.acc == .rw || f.acc == .rwl || f.acc == .rwo) &&& here &&& (wholeWord - s.boundBits a)
  let w1c := accBits a .w1c &&& here &&& (wholeWord - s.safeHolds a)
  let y := mergeBits x (rw &&& mask.toNat) v
  y &&& ~~~ (BitVec.ofNat 32 w1c &&& mask &&& v)

/-- The field of a value `w` that is at `f`'s place. -/
def FieldDef.take (f : FieldDef) (w : Word) : Nat := takeField w f.lo f.w

end Sys2Proof.Machine
end

