-- ==== Sys2Proof/Machine/Cfg.lean ====
section
/-! DEFINITION. Footing and course images: their format and checks (R111 to R121, R698 to R701), how they are applied to the
registers (R116, R119, R122 to R125), the safe course (R117) and the image commands (R127, R128). -/

namespace Sys2Proof.Machine

open Sys2Proof

def State.modCfg (s : State) (f : CfgState → CfgState) : State := { s with cfg := f s.cfg }

/-- The size of a footing's flash area (R39). -/
def copySize : Nat := 0x100000

/-! ## Entries (R112, R113) -/

/-- The lowest set bit of a mask. -/
def maskShift (m : Word) : Nat := ((List.range 32).find? (fun i => m.getLsbD i)).getD 0

/-- A mask is one contiguous run of 1 bits. -/
def oneRun (m : Word) : Bool :=
  let x := m.toNat / 2 ^ maskShift m
  m != 0 && (x &&& (x + 1)) == 0

/-- The entries that bytes spell, and none where one of them is malformed. SEAL entries are allowed where `seals`. -/
def parseEntries (seals : Bool) : Nat → List Byte → Option (List SetEntry × List SealEntry)
  | 0, l => if l.isEmpty then some ([], []) else none
  | k + 1, l =>
    let w (i : Nat) : Nat := leNat ((l.drop (4 * i)).take 4)
    let a := w 0 % 2 ^ 22
    let kind := w 0 / 2 ^ 28
    if l.isEmpty then some ([], [])
    else if w 0 / 2 ^ 22 % 64 ≠ 0 ∨ a % 4 ≠ 0 ∨ 0x160000 ≤ a then none
    else if kind = 1 ∧ 12 ≤ l.length then
      (parseEntries seals k (l.drop 12)).map (fun r => (⟨a, BitVec.ofNat 32 (w 1), BitVec.ofNat 32 (w 2)⟩ :: r.1, r.2))
    else if kind = 2 ∧ seals ∧ 16 ≤ l.length ∧ oneRun (BitVec.ofNat 32 (w 1)) then
      (parseEntries seals k (l.drop 16)).map (fun r => (r.1, ⟨a, BitVec.ofNat 32 (w 1), w 2, w 3⟩ :: r.2))
    else none

/-- A sealed field holds a value within its limits (R113). -/
def SealEntry.meets (e : SealEntry) (w : Word) : Bool :=
  let v := (w &&& e.mask).toNat / 2 ^ maskShift e.mask
  decide (e.min ≤ v) && decide (v ≤ e.max)

/-! ## The registers that images leave (R24, R699) -/

/-- The registers that hold other words than their reset values after a footing without entries, highest address first. -/
def footedRegs : List Nat :=
  (allBlocks.flatMap (fun b =>
    ((regDefs b.index).filter (fun r => r.base == R.LANE_CTRL 0 || r.fields.any (fun f => f.ftg && f.dflt != 0))).flatMap
      RegDef.addresses)).mergeSort (fun x y => decide (y ≤ x))

/-- SET entries written in image order. -/
def State.putSets (s : State) (l : List SetEntry) : State :=
  s.each l (fun s e => s.setWord e.addr (mergeBits (s.word e.addr) (e.mask.toNat &&& imageBits e.addr) e.value))

/-- The state to judge an image on: the registers after footing `f` and the entries of a course, and nothing else (R699). -/
def State.imageState (s : State) (f : Footing) (course : List SetEntry) : State :=
  let s := { s with regs := [], dieBFail := false, failed := [], cfg := { s.cfg with footing := some f } }
  let s := s.put F.CFG_PERSONALITY_PERS f.pers
  ((s.each footedRegs (fun s a => s.setWord a (s.footWord a))).putSets f.sets).putSets course

/-- The block and the instance of the register at `a` are present in the personality, and a map lists it. -/
def State.listedHere (s : State) (a : Nat) : Bool :=
  match blockOf (a / 65536) with
  | none => false
  | some b => !s.absentBlock b &&
    (if a % 65536 < 0x24 then !(headerFields (a % 65536)).isEmpty
     else match regAt a with | some (r, i) => s.instHere r.counts i | none => false)

/-- A rule of R23 or R699 is broken at a field that one of the entries writes, or an entry sets what the personality lacks
(R154, R229). -/
def State.imageBreach (s : State) (l : List SetEntry) : Bool :=
  l.any (fun e =>
    let m := e.mask.toNat &&& imageBits e.addr
    s.listedHere e.addr && ((s.word e.addr).toNat &&& m &&& s.absentBits e.addr) != 0 || s.listedHere e.addr &&
      ((fieldsAt e.addr).any (fun f => (f.bits &&& m) != 0 && !f.holds (f.take (s.word e.addr))) || s.breaks e.addr m))

/-- The bits at `a` that no image may write (R700): also a lane pointer that is not the host's (R140), and the NCO words of a
channel that the image leaves outside TEST (R163) and the data of an object that it leaves a receive object (R556). Reserved
bits are no fields of it (log entry 321). -/
def State.forbidden (s : State) (a : Nat) : Nat :=
  (bitsWhere (fieldsAt a) (fun f => match f.acc with | .wo | .w1c | .rs => true | .ro => !f.ftg | _ => false) |||
   (if a % 65536 = 0x01C then 2 else 0) ||| (if a = R.CFG_COURSE_REQ then 15 else 0) |||
   (match arrIdx a R.LANE_HEAD 16, arrIdx a R.LANE_TAIL 16 with
    | some n, _ => if s.flag (F.LANE_CTRL_DIR n) && !s.flag (F.LANE_CTRL_LEAD n) then 0 else wholeWord
    | _, some n => if s.flag (F.LANE_CTRL_DIR n) then wholeWord else 0
    | none, none => bit (s.fixedNow a) * wholeWord)) &&& (wholeWord - reservedBits a)

/-- The bits at `a` that no course may write: the chapters of GEO, SOL, HSW, PACE, CAN and SEC name them (R283, R371, R451,
R510, R518, R526, R672, R676). -/
def courseForbidden (a : Nat) : Nat :=
  if a / 65536 = 12 ∨ (0x111000 ≤ a ∧ a < 0x1110C0) then accBits a .rwo
  else if a = R.GEO_MAP_CFG ∨ (R.GEO_MAP_ORG_LAT_LO ≤ a ∧ a ≤ R.GEO_MAP_ORG_LON_HI) ∨ a = R.GEO_MAP_EXT_X ∨ a = R.GEO_MAP_EXT_Y ∨
      (R.HSW_LH_MAP 0 ≤ a ∧ a ≤ R.HSW_LH_MAP 7) ∨ a = R.HSW_LH_CTRL ∨ (0x102100 ≤ a ∧ a < 0x102240) ∨
      (0x104000 ≤ a ∧ a < 0x108000) ∨ a = H.ctrl .sec ∨ (R.SEC_HOST_KEY 0 ≤ a ∧ a ≤ R.SEC_HOST_KEY 15) then
    bitsWhere (fieldsAt a) (fun _ => true)
  else 0

/-! ## Checks (R114, R120, R701) -/

/-- The contents of a footing copy whose layout, signature aside, is that of R111. -/
def footingOf (l : List Byte) : Option Footing :=
  let b (i : Nat) : Nat := leNat (flashRead l i 1)
  let len := flashWord l 0x10
  match parseEntries true len (flashRead l 0x40 (len - 0x40)) with
  | none => none
  | some r =>
    if r.1.length + r.2.length = flashWord l 0x18 ∧ 1 ≤ b 6 ∧ b 6 ≤ 4 then
      some { pers := b 6, initc := b 7, seq := flashWord l 8, svn := flashWord l 0xC, lead := b 0x14, holdsLead := nbit (b 0x15) 0
             sealmap := leNat (flashRead l 0x16 2), sets := r.1, seals := r.2 }
    else none

/-- The check of a footing copy (R114): a result of R127, and the contents of a valid copy. -/
def State.checkFooting (s : State) (l : List Byte) : Nat × Option Footing :=
  let len := flashWord l 0x10
  let reserved := (flashRead l 0x1C 0x24).any (fun x => x != 0) || leNat (flashRead l 0x15 1) / 2 != 0 ||
    leNat (flashRead l 0x16 1) % 2 == 1
  if s.failed.contains .sec then (2, none)                                                           -- R672
  else if flashWord l 0 ≠ 0x54465653 ∨ leNat (flashRead l 4 2) ≠ 1 ∨ reserved ∨ len < 0x40 ∨ copySize < len + 68 then (4, none)
  else if flashWord l len ≠ (crc32c (flashRead l 0 len)).toNat then (1, none)
  else match s.oemKey with
    | none => (2, none)
    | some key =>
      if !sigGood key l (len + 4) then (2, none)
      else match footingOf l with
        | none => (4, none)
        | some f =>
          let c := s.imageState f []
          if f.seals.any (fun e => !e.meets (c.word e.addr)) then (5, none)
          else if f.sets.any (fun e => (e.mask.toNat &&& c.forbidden e.addr) != 0) || c.imageBreach f.sets then (4, none)
          else if f.svn < s.sec.arbFtg then (3, none)
          else (0, some f)

/-- A course image is signed, and its size with its trailer (R118). -/
def courseSigned (l : List Byte) : Bool := leNat (flashRead l 5 1) % 2 == 1
def courseSize (l : List Byte) : Nat := flashWord l 8 + 4 + 64 * bit (courseSigned l)

/-- The check of a course image by itself (R118, R701): a result of R127, and its contents. -/
def State.parseCourse (s : State) (l : List Byte) : Nat × Option Course :=
  let b (i : Nat) : Nat := leNat (flashRead l i 1)
  let len := flashWord l 8
  if s.failed.contains .sec then (2, none)                                                           -- R672
  else if flashWord l 0 ≠ 0x52435653 ∨ b 4 = 0 ∨ 15 < b 4 ∨ b 5 / 2 ≠ 0 ∨ b 7 ≠ 0 ∨ len < 16 ∨ 16384 < courseSize l then (4, none)
  else if flashWord l len ≠ (crc32c (flashRead l 0 len)).toNat then (1, none)
  else if courseSigned l && !(match s.oemKey with | some key => sigGood key l (len + 4) | none => false) then (2, none)
  else match parseEntries false len (flashRead l 16 (len - 16)) with
    | none => (4, none)
    | some r => if r.1.length = flashWord l 0xC then (0, some ⟨b 4, b 6, courseSigned l, r.1⟩) else (4, none)

/-- The check of a course against footing `f` (R120, R699, R700): a result of R127. `locked` says which blocks have
LOCKED = 1. An RWL field counts as changed from the value that the footing gives it (log entry 316). -/
def State.judgeCourse (s : State) (f : Footing) (locked : Block → Bool) (c : Course) : Nat :=
  let s0 := s.imageState f []
  let s1 := s0.putSets c.sets
  let moved (a m : Nat) : Bool := ((s0.word a ^^^ s1.word a).toNat &&& m) != 0
  if c.sets.any (fun e => (e.mask.toNat &&& (s1.forbidden e.addr ||| courseForbidden e.addr)) != 0 ||
      decide (R.SEC_HOST_KEY 0 ≤ e.addr ∧ e.addr ≤ R.SEC_HOST_KEY 15)) then 4                        -- R676: an entry that names it
  else if s1.imageBreach c.sets then 4
  else if !c.signed && (nbit f.sealmap c.slot || f.seals.any (fun e => moved e.addr e.mask.toNat)) then 5
  else if f.seals.any (fun e => !e.meets (s1.word e.addr)) then 5
  else if !c.signed && c.sets.any (fun e =>
      match blockOf (e.addr / 65536) with | some b => locked b && moved e.addr (accBits e.addr .rwl) | none => false) then 6
  else 0

/-- The course images stored from offset `o` of a copy, at most `k` (R698). -/
def storedCourses (l : List Byte) : Nat → Nat → List (List Byte)
  | 0, _ => []
  | k + 1, o =>
    let c := l.drop o
    if copySize < o + 4 ∨ flashWord c 0 ≠ 0x52435653 ∨ copySize < o + courseSize c then []
    else flashRead c 0 (courseSize c) :: storedCourses l k ((o + courseSize c + 3) / 4 * 4)

/-- The course images of a copy: the first of each slot counts. -/
def coursesOf (l : List Byte) : List (List Byte) :=
  let cs := storedCourses l 15 ((flashWord l 0x10 + 68 + 3) / 4 * 4)
  cs.foldl (fun r c => if r.any (fun d => d.getD 4 0 == c.getD 4 0) then r else r ++ [c]) []

/-- The blocks that footing `f` locks. -/
def State.footLocks (s : State) (f : Footing) (b : Block) : Bool := (s.imageState f []).flag (H.locked b)

/-- The check of a stored course: a result of R127, and its contents. -/
def State.checkStored (s : State) (f : Footing) (l : List Byte) : Nat × Option Course :=
  match s.parseCourse l with
  | (0, some c) => let r := s.judgeCourse f (s.footLocks f) c; (r, if r = 0 then some c else none)
  | (r, _) => (r, none)

/-! ## Applying images (R116, R119, R122) -/

/-- Registers take their words in one step; what follows from each change comes after. -/
def State.changeAll (s : State) (l : List (Nat × Word)) : State :=
  (s.each l (fun t e => t.setWord e.1 e.2)).each l (fun t e => State.onChange s t e.1)

/-- The addresses that entries name, each once. -/
def entryAddrs (l : List SetEntry) : List Nat := (l.map (·.addr)).eraseDups

/-- The word that entries make of `w` at `a`. -/
def entryWord (l : List SetEntry) (a : Nat) (w : Word) : Word :=
  l.foldl (fun w e => if e.addr = a then mergeBits w (e.mask.toNat &&& imageBits a) e.value else w) w

/-- The entries of a block. -/
def entriesOf (b : Block) (l : List SetEntry) : List SetEntry := l.filter (fun e => e.addr / 65536 == b.index)

/-- Footing `f` is applied to the blocks that meet `p` (R24, R116): each ftg field takes its footing default, then the SET
entries are written, and SEALED shows the blocks that it seals (R108). LOCKED stays set where it is (R106, R109). The tables of the lap learners are
clear then, and their registers reset none (R509). -/
def State.footApply (s : State) (f : Footing) (p : Block → Bool) : State :=
  let mine (a : Nat) : Bool := s.listedHere a && (match blockOf (a / 65536) with | some b => p b | none => false)
  let sets := f.sets.filter (fun e => mine e.addr)
  let named := entryAddrs sets
  let rest := footedRegs.filter (fun a => mine a && !named.contains a)
  let lock (a : Nat) (w : Word) : Word := if a % 65536 = 0x01C then w ||| (s.word a &&& 1#32) else w
  let l := rest.map (fun a => (a, s.footWord a)) ++ named.map (fun a => (a, lock a (entryWord sets a (s.footWord a))))
  let s := (s.each (l.filter (fun e => decide (0x102000 ≤ e.1 ∧ e.1 < 0x102100))) (fun t e => t.setWord e.1 e.2)).changeAll l
  s.each (allBlocks.filter p) (fun s b => s.putB (H.sealedBit b) (f.seals.any (fun e => e.addr / 65536 == b.index)))

/-- The loop that a register of CTL belongs to. -/
def loopOfAddr (a : Nat) : Nat := if a < 0xF3000 then (a - 0xF2000) / 128 else (a - 0xF3000) / 64

/-- The entries of a course that may be written: an unsigned one leaves the RWL fields of a locked block (R109). -/
def State.courseEntries (s : State) (c : Option Course) (b : Block) : List SetEntry :=
  match c with
  | none => []
  | some c => (entriesOf b c.sets).map (fun e =>
      if !c.signed && s.flag (H.locked b) then { e with mask := e.mask &&& ~~~ BitVec.ofNat 32 (accBits e.addr .rwl) } else e)

/-- The registers of a block that the footing or a course sets, each with the bits of the fields they set: a field of
which they set a part counts whole (R119). -/
def State.courseMask (l : List SetEntry) (a : Nat) : Nat :=
  let m := l.foldl (fun m e => if e.addr = a then m ||| e.mask.toNat else m) 0
  bitsWhere (fieldsAt a) (fun f => (f.bits &&& m) != 0) &&& imageBits a

/-- The registers of the map that stay as they are while a slot is resident (R283, R307). -/
def State.mapFixed (s : State) (a : Nat) : Bool :=
  s.mapInUse && (a == R.GEO_MAP_CFG || decide (R.GEO_MAP_ORG_LAT_LO ≤ a ∧ a ≤ R.GEO_MAP_ORG_LON_HI) || a == R.GEO_MAP_EXT_X ||
    a == R.GEO_MAP_EXT_Y)

/-- The registers of block `b` that meet `p` take the course `cur` after `prev` (R119): the fields that the footing or any
course sets, one of them or one that a slot holds, take the value that the footing and then `cur` give them; the NCO words of a channel outside TEST (R163) and the data of a receive object (R556) stay. LOCKED stays set where it is (R109). A CLOSED loop
whose fields change makes its next sample a closing sample (R483). -/
def State.courseFieldsAt (s : State) (b : Block) (prev cur : Option Course) (p : Nat → Bool) : State :=
  let foot := match s.cfg.footing with | some f => entriesOf b f.sets | none => []
  let new := s.courseEntries cur b
  let old := (prev.toList ++ s.cfg.courses.filterMap (·.2)).flatMap (fun c => entriesOf b c.sets)
  let all := foot ++ old ++ new
  let as' := (entryAddrs all).filter (fun a => p a && s.listedHere a && !s.mapFixed a)
  let word (a : Nat) : Word :=
    let w := mergeBits (s.word a) (State.courseMask all a) (entryWord (foot ++ new) a (s.footWord a))
    if a % 65536 = 0x01C then w ||| (s.word a &&& 1#32) else w
  let after := s.each as' (fun t a => t.setWord a (word a))
  let t := s.changeAll ((as'.filter (fun a => !after.fixedNow a)).map (fun a => (a, word a)))
  if b = .ctl then
    t.each (as'.filter (fun a => decide (0xF2000 ≤ a ∧ a < 0xF3800) && s.word a != t.word a)) (fun t a =>
      if t.loopSt (loopOfAddr a) = 2 then t.modLoop (loopOfAddr a) (fun x => { x with chg := true }) else t)
  else t

/-- The whole of block `b` takes a course. -/
def State.courseFields (s : State) (b : Block) (prev cur : Option Course) : State := s.courseFieldsAt b prev cur (fun _ => true)

/-! ## Course changes (R122 to R125) -/

/-- The course stored in a slot; slot 0 is the footing alone. -/
def State.slotCourse (s : State) (slot : Nat) : Option Course := if slot = 0 then none else s.cfg.courses.get slot

/-- A slot that may be requested: 0, or one with a valid course (R124). -/
def State.slotOk (s : State) (slot : Nat) : Bool := slot == 0 || nbit (s.nat R.CFG_SLOT_VALID) slot

/-- A change to the course of `slot` starts: every present block is to take it (R123). -/
def State.courseStart (s : State) (slot : Nat) : State :=
  let c := s.slotCourse slot
  let bs := allBlocks.filter s.present
  let s := s.modCfg (fun x => { x with prev := x.cur, cur := c, crsAt := s.clk, crsTmo := false, canLate := [], paceLate := [] })
  let s := (s.put F.CFG_COURSE_STAT_TARGET slot).put F.CFG_COURSE_STAT_BUSY 1
  let s := s.setNat R.CFG_COURSE_PEND (bs.foldl (fun m b => m + 2 ^ b.index) 0)
  s.each bs (fun s b => s.put (H.pendingBit b) 1)

/-- A course request (R123, R124): it starts a change, or becomes the queued request. -/
def State.courseRequest (s : State) (slot : Nat) : State :=
  if s.flag F.CFG_COURSE_STAT_BUSY then (s.put F.CFG_COURSE_STAT_QUEUED slot).put F.CFG_COURSE_STAT_QVALID 1
  else s.courseStart slot

/-- Every block has taken the course (R123, R124). -/
def State.courseDone (s : State) : State :=
  let s := ((s.put F.CFG_COURSE_STAT_BUSY 0).put F.CFG_COURSE_STAT_CURRENT (s.get F.CFG_COURSE_STAT_TARGET)).raise 36
  if s.flag F.CFG_COURSE_STAT_QVALID then
    (((s.put F.CFG_COURSE_STAT_QVALID 0).put F.CFG_COURSE_STAT_QUEUED 0)).courseStart (s.get F.CFG_COURSE_STAT_QUEUED)
  else s

/-- A block has not yet taken the course. -/
def State.coursePends (s : State) (b : Block) : Bool := nbit (s.nat R.CFG_COURSE_PEND) b.index

/-- BLK_COURSE shows the course of the latest change. -/
def State.courseShow (s : State) (b : Block) : State :=
  let s := (s.put (H.course b) (s.get F.CFG_COURSE_STAT_TARGET)).put (H.pendingBit b) 0
  s.put (H.rev b) (match s.cfg.cur with | some c => c.rev | none => 0)

/-- Block `b` has taken the course: its registers hold the new values (R122, R123, R454). -/
def State.courseTaken (s : State) (b : Block) : State :=
  let s := s.courseShow b
  let s := if b = .hsw then s.holdHandOver else s
  let s := s.setNat R.CFG_COURSE_PEND (setBit (s.nat R.CFG_COURSE_PEND) b.index false)
  if s.nat R.CFG_COURSE_PEND = 0 then s.courseDone else s

/-- Block `b` takes the course (R122, R123). -/
def State.courseTake (s : State) (b : Block) : State := (s.courseFields b s.cfg.prev s.cfg.cur).courseTaken b

/-- The message object whose registers lie at `a` (R556). -/
def objectOfAddr (a : Nat) : Option Nat := if 0x118000 ≤ a ∧ a < 0x120000 then some ((a - 0x118000) / 128) else none

/-- The message objects in transmission. -/
def State.canInFlight (s : State) : List Nat := (List.range 256).filter s.canActive

/-- CAN takes the course: at once, but for the objects in transmission, which wait for their frame's end (R122). -/
def State.canCourse (s : State) : State :=
  let busy := s.canInFlight
  let s := s.courseFieldsAt .can s.cfg.prev s.cfg.cur
    (fun a => match objectOfAddr a with | some k => !busy.contains k | none => true)
  if busy.isEmpty then s.courseTaken .can else s.modCfg (fun x => { x with canLate := busy })

/-- The objects that waited for their frame's end and are no longer in transmission take the course (R122). -/
def State.canCourseLate (s : State) : State :=
  let done := s.cfg.canLate.filter (fun k => !s.canActive k)
  if done.isEmpty then s
  else
    let s := s.courseFieldsAt .can s.cfg.prev s.cfg.cur (fun a => match objectOfAddr a with | some k => done.contains k | none => false)
    let s := s.modCfg (fun x => { x with canLate := x.canLate.filter (fun k => !done.contains k) })
    if s.cfg.canLate.isEmpty then s.courseTaken .can else s

/-- The Pacer, or from 16 on the learner, whose fields a course may set lie at `a` (R521, R522). -/
def paceUnitOf (a : Nat) : Option Nat :=
  if 0x101000 ≤ a ∧ a < 0x101400 then some ((a - 0x101000) / 64)
  else if 0x102000 ≤ a ∧ a < 0x102100 then some (16 + (a - 0x102000) / 64)
  else none

/-- A unit of PACE may take the course now (R518): a Pacer at its update, a learner at its loop's sample, either at once where it
has none. -/
def State.paceUnitDue (s : State) (u : Nat) : Bool :=
  let due (phase per : Nat) : Bool := per == 0 || s.gridDue phase per
  if u < 16 then decide (s.nPacer ≤ u) || due (s.get (F.PACE_TIME_PHASE u)) (s.get (F.PACE_TIME_PERIOD u))
  else match s.lapLoop (u - 16) with
    | some n => due (s.get (F.CTL_LOOP_TIME_PHASE n)) (s.loopPeriod n)
    | none => true

/-- The units that are yet to take the course. -/
def State.paceWaits (s : State) : List Nat := if s.cfg.paceLate.isEmpty then List.range 20 else s.cfg.paceLate

/-- PACE takes the course: the units whose safe point this instant is, and with the first of them what belongs to none (R518). -/
def State.paceCourse (s : State) : State :=
  let first := s.cfg.paceLate.isEmpty
  let done := s.paceWaits.filter (fun u => !s.enabled .pace || s.paceUnitDue u)
  let late := s.paceWaits.filter (fun u => !done.contains u)
  let s := s.courseFieldsAt .pace s.cfg.prev s.cfg.cur (fun a => match paceUnitOf a with | some u => done.contains u | none => first)
  if late.isEmpty then (s.modCfg (fun x => { x with paceLate := [] })).courseTaken .pace else s.modCfg (fun x => { x with paceLate := late })

/-- A block that takes a course at once: it does so always, or because it is disabled (R122). -/
def State.takesAtOnce (s : State) (b : Block) : Bool :=
  !(b == .geo || b == .str || b == .ctl || b == .pace) || !s.enabled b

/-- The present instant is a safe point of block `b` (R122): a geometry update, a tick boundary, a sample-grid instant or the
update or sample of a unit of PACE that is yet to take it, where the block does not take a course at once. -/
def State.safePoint (s : State) (b : Block) : Bool :=
  s.takesAtOnce b ||
  (match b with
   | .geo => s.atMs
   | .str => s.onGrid tickLen
   | .ctl => s.clk % gridLen == 0
   | .pace => s.paceWaits.any s.paceUnitDue
   | _ => true)

/-- COURSE_TAKE (R122, R123): at a safe point; a block in a gated island waits for its clock. -/
def execCourseTake (b : Block) (s : State) : Answer :=
  .next (if s.flag F.CFG_COURSE_STAT_BUSY && s.coursePends b && !s.gatedBlock b && s.safePoint b then
      (if b = .can then (if s.cfg.canLate.isEmpty then s.canCourse else s.canCourseLate)
       else if b = .pace then s.paceCourse
       else s.courseTake b)
    else s)

/-- CAN_ATTEMPT_END (R122, R531, R535, R537, R540, R542). -/
def execCanAttemptEnd (n : Fin 3) (r : CanOutcome) (s : State) : Answer := .next (s.canAttempt n.val r).canCourseLate

/-- CRS_TMO (R123). -/
def execCrsTmo (s : State) : Answer :=
  .next (if s.flag F.CFG_COURSE_STAT_BUSY && !s.cfg.crsTmo && s.passed s.cfg.crsAt (s.nat R.CFG_COURSE_TMO % 65536 * msec) then
      (s.raise 37).modCfg (fun x => { x with crsTmo := true })
    else s)

/-! ## Selecting the footing at boot (R115, R116, R120) -/

/-- The safe course (R117): nothing of an image is applied. -/
def State.safeCourse (s : State) (booted : Nat) : State :=
  let s := ((s.put F.CFG_FTG_STATE_SAFE 1).put F.CFG_FTG_STATE_BOOTED booted).put F.CFG_PERSONALITY_PERS 0
  let s := (s.put F.CFG_COURSE_STAT_CURRENT 0x1F).raise 35
  let s := s.each (allBlocks.filter s.present) (fun s b => s.put (H.course b) 0x1F)
  (s.each (List.range 24) State.holdEnd).certWatch

/-- The stored courses of the booted copy become slots; a slot whose course fails its checks is not valid (R120, R697). -/
def State.bootCourses (s : State) (f : Footing) (l : List Byte) : State :=
  s.each (coursesOf l) (fun s c =>
    match s.checkStored f c with
    | (0, some x) =>
      (s.modCfg (fun y => { y with courses := y.courses.set x.slot (some x) })).setNat R.CFG_SLOT_VALID
        (setBit (s.nat R.CFG_SLOT_VALID) x.slot true)
    | _ => s.raise 38)

/-- Footing `f` of copy `k` boots: its entries are applied, and the change to course INITC starts (R116, R589). -/
def State.bootFooting (s : State) (k : Nat) (f : Footing) : State :=
  let l := if k = 0 then s.cfg.copyA else s.cfg.copyB
  let s := (s.put F.CFG_PERSONALITY_PERS f.pers).put F.CFG_FTG_STATE_BOOTED k
  let s := ((s.setNat R.CFG_SLOT_SEALED f.sealmap).modCfg (fun x => { x with footing := some f })).hswSelect
  let s := (s.footApply f (fun _ => true)).bootCourses f l
  if s.slotOk f.initc then s.courseStart f.initc else (s.raise 34).courseStart 0

/-- The footing copies are checked, and one boots or the safe course is entered (R114 to R117, R128, R595). -/
def State.selectFooting (s : State) (safe : Bool) : State :=
  let a := s.checkFooting s.cfg.copyA
  let b := s.checkFooting s.cfg.copyB
  let note (s : State) (r : Nat × Option Footing) : State := if r.1 = 3 then (s.raise 244).put ⟨H.sticky .sec, 1, 1⟩ 1 else s
  let s := note (note s a) b
  let s := (s.putB F.CFG_FTG_STATE_A_VALID a.2.isSome).putB F.CFG_FTG_STATE_B_VALID b.2.isSome
  let seq (r : Nat × Option Footing) : Nat := match r.2 with | some f => f.seq | none => 0
  let s := (s.setNat R.CFG_FTG_SEQ_A (seq a)).setNat R.CFG_FTG_SEQ_B (seq b)
  let svn (o : Option Footing) (s : State) : State := s.modCfg (fun x => { x with selSvn := match o with | some f => f.svn | none => 0 })
  let s := svn (match a.2, b.2 with | some f, some g => if f.seq < g.seq then some g else some f | some f, none => some f | none, o => o) s
  match a.2, b.2 with
  | some f, some g =>
    let k := bit (decide (f.seq < g.seq))
    if safe then s.safeCourse k else s.bootFooting k (if k = 0 then f else g)
  | some f, none => let s := s.raise 33; if safe then s.safeCourse 0 else s.bootFooting 0 f
  | none, some g => let s := s.raise 33; if safe then s.safeCourse 1 else s.bootFooting 1 g
  | none, none => s.safeCourse 1

/-! ## The image commands (R127, R128) -/

/-- The bytes of the image window. -/
def State.imgWindow (s : State) (n : Nat) : List Byte := ((List.range ((n + 3) / 4)).flatMap (fun k => leBytes 4 (s.nat (R.CFG_WIN k)))).take n

/-- The copy that the image commands act on: the one that CFG_FTG_STATE.BOOTED does not name. -/
def State.otherCopy (s : State) : List Byte := if s.get F.CFG_FTG_STATE_BOOTED = 0 then s.cfg.copyB else s.cfg.copyA

/-- The state with that copy rewritten. -/
def State.setOther (s : State) (l : List Byte) : State :=
  if s.get F.CFG_FTG_STATE_BOOTED = 0 then s.modCfg (fun x => { x with copyB := l }) else s.modCfg (fun x => { x with copyA := l })

/-- That copy after its flash operation failed: its bytes are free (log entry 5). -/
def State.spoilOther (s : State) (l : List Byte) : State :=
  { s.setOther (Config.failedFlash s.fresh l) with fresh := s.fresh + 1 }

/-- VERIFY (R114, R120, R128): the result of the copy, or of its first course that fails. -/
def State.verifyImage (s : State) : Nat :=
  match s.checkFooting s.otherCopy with
  | (0, some f) => (coursesOf s.otherCopy).foldl (fun r c => if r = 0 then (s.checkStored f c).1 else r) 0
  | (r, _) => r

/-- LOAD_COURSE (R128): the result, and the state with the course in its slot. -/
def State.loadCourse (s : State) (slot : Nat) : Nat × State :=
  let w := s.imgWindow 32768
  let f := s.cfg.footing.getD ⟨0, 0, 0, 0, 0xFF, false, 0, [], []⟩
  match s.parseCourse w with
  | (0, some c) =>
    if c.slot ≠ slot then (4, s)
    else
      let r := s.judgeCourse f (fun b => s.flag (H.locked b)) c
      if r ≠ 0 then (r, s)
      else
        let s := s.modCfg (fun x => { x with courses := x.courses.set slot (some c) })
        let s := s.setNat R.CFG_SLOT_VALID (setBit (s.nat R.CFG_SLOT_VALID) slot true)
        (0, s.setNat R.CFG_SLOT_RAM (setBit (s.nat R.CFG_SLOT_RAM) slot true))
  | (r, _) => (if s.failed.contains .sec || leNat (w.drop 4 |>.take 1) == slot then r else 4, s)

/-- An image command is accepted (R128; a PROGRAM whose CFG_IMG_LEN lies outside its range: log entry 317): 1 ERASE, 2 PROGRAM, 3 VERIFY, 4 LOAD_COURSE. -/
def State.imgStart (s : State) (cmd slot : Nat) : State :=
  let c := match cmd with
    | 1 => ImgCmd.erase
    | 2 => ImgCmd.program (s.nat R.CFG_IMG_OFS % 2 ^ 20) (s.nat R.CFG_IMG_LEN % 65536)
    | 3 => ImgCmd.verify
    | _ => ImgCmd.load slot
  let s := (s.put F.CFG_IMG_STAT_BUSY 1).modCfg (fun x => { x with img := some c })
  let s := s.modSec (fun x => { x with imgWaits := cmd != 1 && cmd != 2 && s.signWaits })                -- R671
  if cmd = 1 ∨ cmd = 2 then s.modFlash (fun x => { x with class3 := x.class3 ++ [.image] }) else s

/-- What an image command does: its result, and the state. -/
def State.imgDo (s : State) (c : ImgCmd) (flashOk : Bool) : Nat × State :=
  match c with
  | .erase =>
    let s := s.wearB (if s.get F.CFG_FTG_STATE_BOOTED = 0 then 144 else 128) 16
    if flashOk then (0, s.setOther []) else (7, s.spoilOther [])
  | .program o n =>
    let l := flashWrite s.otherCopy o (s.imgWindow n)
    if copySize < o + n then (4, s)
    else if flashOk then (0, s.setOther l) else (7, s.spoilOther l)
  | .verify =>
    let r := s.verifyImage
    (r, if r = 3 then (s.raise 244).put ⟨H.sticky .sec, 1, 1⟩ 1 else s)
  | .load n => s.loadCourse n

/-- IMG_CMD_COMPLETE (R127, R128, R697). CFG_FTG_STATE and the SEQ registers keep what start-up found (log entry 315). -/
def execImgCmdComplete (flashOk : Bool) (s : State) : Answer :=
  .next (match s.cfg.img with
    | none => s
    | some c =>
      if s.sec.imgWaits then s else
      let r := s.imgDo c flashOk
      let s := (r.2.modCfg (fun x => { x with img := none })).modFlash
        (fun x => { x with class3 := x.class3.filter (fun o => o != .image) })
      let s := (s.put F.CFG_IMG_STAT_BUSY 0).put F.CFG_IMG_STAT_RESULT r.1
      let load := match c with | .load _ => true | _ => false
      s.raise (if r.1 = 0 then 39 else if load then 38 else 40))

end Sys2Proof.Machine
end

