-- ==== Sys2Proof/Machine/Judge.lean ====
section
/-! DEFINITION. Why a host write of one register word is refused (R4 to R6, R17 to R23, R61, R62, R64, R94, R102, R121, R695 and
the rules of the chapters that accept a write only in some state of their block). -/

namespace Sys2Proof.Machine

open Sys2Proof

/-- The place of a code in the order of R64, step 8; the codes of a lane pointer and of a give-up come before them. -/
def ErrCode.rank : ErrCode → Nat
  | .denied => 1 | .absent => 2 | .locked => 3 | .openreq => 4 | .sealed => 5 | .encoding => 6 | _ => 0

/-- The first of several codes in the order of R64. -/
def firstCode (l : List (Bool × ErrCode)) : Option ErrCode :=
  l.foldl (fun r x =>
    if !x.1 then r else match r with | none => some x.2 | some c => if x.2.rank < c.rank then some x.2 else some c) none

/-- A write of one word: the register, the word before and after, the bits of WO fields that it carries and the value it
carries for them. -/
structure WordWrite where
  a       : Nat
  old     : Word
  new     : Word
  carried : Nat
  value   : Nat
  deriving DecidableEq, Repr

/-- A bit that the write changes. -/
def WordWrite.moves (w : WordWrite) (m : Nat) : Bool := ((w.old ^^^ w.new).toNat &&& m) != 0

/-- The write sets a bit that was 0. -/
def WordWrite.sets (w : WordWrite) (m : Nat) : Bool := (w.new.toNat &&& m) != 0 && (w.old.toNat &&& m) == 0

/-- The write carries command `v` for the WO register at `r`. -/
def WordWrite.says (w : WordWrite) (r : Nat) (v : Nat) : Bool := w.a == r && w.carried != 0 && w.value == v

/-- The write changes a field. -/
def WordWrite.movesFld (w : WordWrite) (f : Fld) : Bool := w.a == f.addr && w.moves (bitsOfField f)

/-- The write sets a one-bit field. -/
def WordWrite.setsFld (w : WordWrite) (f : Fld) : Bool := w.a == f.addr && w.sets (bitsOfField f)

/-- The register at `a` is one of an array, of which `p` holds. -/
def atIdx (a : Nat) (r : Nat → Nat) (count : Nat) (p : Nat → Bool) : Bool :=
  match arrIdx a r count with | some i => p i | none => false

/-- The refusals with LOCKED that depend on the state of a block. -/
def State.lockedNow (s : State) (w : WordWrite) : Bool :=
  let a := w.a
  let any := w.moves wholeWord
  match a / 65536 with
  | 2 =>                                                                                             -- R575
    a == R.CLK_GATE_REQ && gatable.any (fun g =>
      w.sets (2 ^ g.1) && (s.enabled g.2 || (g.1 == 9 && !s.isSat && s.flag F.NAV_CTRL_IMU_EN)))
  | 5 =>                                                                                             -- R141
    (atIdx a R.LANE_CTRL 16 (fun n => s.flag (F.LANE_CTRL_EN n) &&
      w.moves (bitsOfFields [F.LANE_CTRL_DIR n, F.LANE_CTRL_LEAD n, F.LANE_CTRL_WAIT n]))) ||
    (any && (atIdx a R.LANE_BASE 16 (fun n => s.flag (F.LANE_CTRL_EN n)) || atIdx a R.LANE_SIZE 16 (fun n => s.flag (F.LANE_CTRL_EN n))))
  | 6 =>                                                                                             -- R4, R117, R128
    a == R.CFG_PERSONALITY || (a == R.CFG_COURSE_REQ && s.safe) ||
    (s.flag F.CFG_IMG_STAT_BUSY && ((a == R.CFG_IMG_CMD && w.carried != 0) ||
      (any && (a == R.CFG_IMG_OFS || a == R.CFG_IMG_LEN || decide (0x68000 ≤ a)))))
  | 7 =>                                                                                             -- R182
    s.flag F.GNSS_SNAP_STAT_BUSY &&
      ((a == R.GNSS_SNAP_CTRL && w.carried != 0 && nbit w.value 0) || w.says R.GNSS_SNAP_CMD 1 || w.says R.GNSS_SNAP_CMD 2)
  | 8 => w.setsFld F.NAV_CTRL_IMU_EN && s.gated 9                                                    -- R575
  | 9 => any && (List.range 8).any (fun n => atIdx a (R.FBK_CMP_POS n) 16 (fun k => s.flag (F.FBK_CMP_CTRL_ARM n k)))  -- R247
  | 10 =>                                                                                            -- R283, R295
    (any && s.mapInUse && (a == R.GEO_MAP_CFG || decide (R.GEO_MAP_ORG_LAT_LO ≤ a ∧ a ≤ R.GEO_MAP_ORG_LON_HI) ||
      a == R.GEO_MAP_EXT_X || a == R.GEO_MAP_EXT_Y)) ||
    (w.says R.GEO_MAP_CMD 3 && s.flag F.GEO_MAP_STAT_FENCE_BUSY)
  | 11 => any && atIdx a R.STR_LAYER_DUTY 4 s.layerBound                                             -- R470
  | 12 =>                                                                                            -- R370, R372
    atIdx a R.SOL_CH_CMD 96 (fun n => w.carried != 0 && (s.flag (F.SOL_CH_CFG_CSRC n) || (n % 2 == 1 && s.solPaired (n - 1)))) ||
    (any && (atIdx a R.SOL_CH_DUTY 96 (fun n => s.get (F.SOL_CH_CFG_PSRC n) != 0) ||
      atIdx a R.SOL_CH_ISET 96 (fun n => s.get (F.SOL_CH_CFG_PSRC n) != 0)))
  | 14 =>                                                                                            -- R436, R451
    atIdx a R.HSW_CH_CMD 24 (fun k => w.carried != 0 && s.flag (F.HSW_CH_CFG_CSRC k)) ||
    (any && atIdx a R.HSW_LH_MAP 8 (fun _ => s.flag F.HSW_LH_CTRL_LOCK || s.limp))
  | 16 =>                                                                                            -- R510, R513, R515
    (any && decide (0x104000 ≤ a) && (let j := (a - 0x104000) / 4096
      s.flag (F.LAP_CTRL_LEARN j) && s.flag (F.LAP_CTRL_EN j))) ||
    (any && decide (0x102100 ≤ a ∧ a < 0x102200) && (let q := (a - 0x102100) / 64; s.injSt q == 1 || s.injSt q == 2)) ||
    (s.flag F.CAP_STAT_BUSY && ((any && decide (R.CAP_CFG ≤ a ∧ a < R.CAP_CMD)) || w.says R.CAP_CMD 1)) ||
    (w.says R.CAP_CMD 1 && (!s.flag (F.LANE_CTRL_EN 7) || s.flag (F.LANE_CTRL_DIR 7)))
  | 17 => atIdx a R.CAN_OBJ_CMD 256 (fun k => w.carried != 0 && w.value == 2 && s.canPriv k)         -- R536
  | 18 =>                                                                                            -- R623
    (w.says R.REC_CMD 1 && s.recd.drain.isSome) || (w.says R.REC_CMD 2 && s.recd.erasing.isSome)
  | 20 => a == R.SEC_CMD && w.carried != 0 && (s.flag F.SEC_CMD_STAT_BUSY || !s.enabled .sec)        -- R672, R675
  | 21 => any && decide (0x151000 ≤ a ∧ a < 0x151100) && s.get (F.PLB_STAT_STATE ((a - 0x151000) / 64)) == 1   -- R680
  | _ => false

/-- What owns the RWO fields at `a` is opened (R371, R434, R479, R526). -/
def State.openedAt (s : State) (w : WordWrite) : Bool :=
  let a := w.a
  let ch (n : Nat) : Bool := !s.flag (F.SOL_CH_CTRL_EN n) && s.phase n == 0
  let loop (n : Nat) : Bool := decide (s.loopSt n ≤ 1)
  match a / 65536 with
  | 12 => (match arrIdx a R.SOL_CH_CFG 96 with
      | some n => ch n && (!(w.moves (bitsOfField (F.SOL_CH_CFG_PAIR n)) && w.new.getLsbD 16) || ch (n + 1))
      | none => true)
  | 14 => (match arrIdx a R.HSW_CH_CFG 24 with
      | some k => !s.flag (F.HSW_CH_CTRL_EN k) && !s.hswOut k
      | none => true)
  | 15 =>
    if a < 0xF2000 then (s.members ((a - 0xF1040) / 32)).all (fun n => loop n) else loop (loopOfAddr a)
  | 17 => s.get (F.CAN_CTL_CFG_MODE ((a - 0x111000) / 64)) == 0
  | _ => true

/-- The refusals with ENCODING that depend on more than the registers' rules: a GO of too many pages or of no path (R178, R194), a START that
may not run (R511, R512), a lane pointer out of range (R132), a request for a slot without a course (R124). -/
def State.encodesBad (s : State) (w : WordWrite) : Bool :=
  let a := w.a
  if a = R.CFG_COURSE_REQ then !s.slotOk (w.new.toNat % 16)
  else if a = R.GNSS_SNAP_CTRL ∧ w.carried ≠ 0 ∧ nbit w.value 0 then
    let k := popCount 4 (takeField w.new F.GNSS_SNAP_CTRL_PATHS.lo 4)
    k == 0 || decide (s.snapAvail < k * s.get F.GNSS_SNAP_LEN_LEN)
  else atIdx a R.INJ_CMD 4 (fun q =>
    w.carried != 0 && (w.value == 1 || w.value == 2) &&
      (let n := s.get (F.INJ_CFG_LOOP q)
       let t := s.get (F.INJ_CFG_TYPE q)
       let fast (r : Nat) : Bool := decide (10000 * 65536 < s.nat r * s.loopPeriod n)
       t == 0 || decide (4 < t) || decide (s.nLoop ≤ n) ||
       (match s.injOf n with | some p => p != q | none => false) ||
       (t == 2 && (s.get (F.INJ_PRBS_SEED q) == 0 || s.get (F.INJ_PRBS_HOLD q) == 0)) ||
       (t == 3 && s.nat (R.INJ_N q) == 0) ||
       fast (R.INJ_F0 q) || fast (R.INJ_F1 q)))

/-- The code of a write that moves a lane pointer (R132, R142, R695): the other party's pointer, a full or disabled ring, an
index out of range, a TAIL past HEAD. Of a lane that is disabled and not the host's to write, LANEDIR comes first (log
entry 221). -/
def State.pointerCode (s : State) (a v : Nat) : Option ErrCode :=
  match arrIdx a R.LANE_HEAD 16, arrIdx a R.LANE_TAIL 16 with
  | some n, _ =>
    let size := s.laneSize n
    let adv := (v + size - s.get (F.LANE_HEAD_HEAD n)) % size
    if v = s.get (F.LANE_HEAD_HEAD n) then none
    else if !s.flag (F.LANE_CTRL_DIR n) || s.flag (F.LANE_CTRL_LEAD n) then some .lanedir
    else if !s.laneOn n then some .lanefull
    else if size ≤ v then some .encoding
    else if size ≤ s.laneLevel n + adv then some .lanefull
    else none
  | _, some n =>
    let size := s.laneSize n
    let adv := (v + size - s.get (F.LANE_TAIL_TAIL n)) % size
    if v = s.get (F.LANE_TAIL_TAIL n) then none
    else if s.flag (F.LANE_CTRL_DIR n) then some .lanedir
    else if !s.laneOn n || decide (size ≤ v) || decide (s.laneLevel n < adv) then some .encoding
    else none
  | none, none => none

/-- A write changes a sealed field without authentication, or leaves it outside its limits (R121, R695). -/
def State.sealBroken (s : State) (auth : Bool) (w : WordWrite) : Bool :=
  match s.cfg.footing with
  | none => false
  | some f => f.seals.any (fun e => e.addr == w.a && w.moves e.mask.toNat && !(auth && e.meets w.new))

/-- The write of `v` under `mask` as the fields of the register at `a` take it. -/
def State.wordWrite (s : State) (a : Nat) (mask v : Word) : WordWrite :=
  let wo := bitsWhere (fieldsAt a) (fun f => f.acc == .wo && (f.bits &&& mask.toNat) != 0)
  ⟨a, s.word a, s.written a mask v, wo, (v &&& mask).toNat &&& wo⟩

/-- A field of the write is refused as a reserved encoding or outside its range (R23, R695). -/
def WordWrite.badField (w : WordWrite) : Bool :=
  (fieldsAt w.a).any (fun f =>
    match f.acc with
    | .rw | .rwl | .rwo => w.moves f.bits && !f.holds (f.take w.new)
    | .wo => (w.carried &&& f.bits) != 0 && !f.holds (w.value / 2 ^ f.lo % 2 ^ f.w)
    | _ => false)

/-- Why the write of a register of a present block's present instance is refused (R64); LANEDIR and LANEFULL of a lane pointer
come before the codes that R64 orders (log entry 221). -/
def State.judge (s : State) (auth : Bool) (b : Block) (mask v : Word) (w : WordWrite) : Option ErrCode :=
  let plb := match arrIdx w.a R.PLB_CMD 4 with
    | some u => if w.carried != 0 && w.value == 1 then s.plbRefuses u else none
    | none => none
  firstCode (plb.toList.map (fun c => (true, c)) ++ (s.pointerCode w.a (w.new.toNat % 2 ^ 14)).toList.map (fun c => (true, c)) ++
      [((s.absentBits w.a &&& (v &&& mask).toNat) != 0, .absent),
       (s.flag (H.locked b) && w.moves (accBits w.a .rwl), .locked),
       (w.a == H.ctrl b && w.sets 1 && s.gatedBlock b, .locked),
       (s.lockedNow w, .locked),
       (w.moves (accBits w.a .rwo) && !s.openedAt w, .openreq),
       (s.sealBroken auth w, .sealed),
       (w.badField || s.encodesBad w || (s.setWord w.a w.new).breaks w.a (w.old ^^^ w.new).toNat, .encoding)])

/-- The instance of a register is present; a register that no map lists is ignored and counts as present (R6, R22). -/
def State.instAt (s : State) (a : Nat) : Bool :=
  decide (a % 65536 < 0x24) || (match regAt a with | some (r, i) => s.instHere r.counts i | none => true)

/-- Why a write of the block register word at `a` is refused (R5, R64, R94, R102, R577, R589). -/
def State.regCode (s : State) (auth : Bool) (a : Nat) (mask v : Word) : Option ErrCode :=
  match blockOf (a / 65536) with
  | none => some .denied
  | some b =>
    let k := s.kind b
    if s.phaseOf < 4 && !(a == H.ctrl .sys && mask == BitVec.allOnes 32) then some .denied
    else if s.gatedBlock b && decide (4096 ≤ a % 65536) then some .denied
    else if k = 0 then some .absent
    else if k = 2 && !inService b 2 (a % 65536) then some .absent
    else if !s.instAt a then some .absent
    else if k = 3 then some .locked
    else s.judge auth b mask v (s.wordWrite a mask v)

/-- The write is executed only in a request with AUTH = 1 (R628, R657, R666, R667, R672). -/
def State.needsAuth (s : State) (a : Nat) (mask v : Word) : Bool :=
  let x := (v &&& mask).toNat
  decide (4 ≤ s.phaseOf) &&
    ((a == H.ctrl .sec && ((s.enabled .sec && nbit mask.toNat 0 && !nbit v.toNat 0) || nbit x 1)) ||
     (a == R.REC_CMD && x % 16 == 5) ||
     (a == R.SEC_CMD && (x % 16 == 5 || x % 16 == 9 || (x % 16 == 8 && s.oemKey.isSome))))

end Sys2Proof.Machine
end

