-- ==== Sys2Proof/Machine/Blocks.lean ====
section
/-! DEFINITION. SOFT_RESET of a block other than SYS (R106). -/

namespace Sys2Proof.Machine

open Sys2Proof

/-- The RO bits of CLK, PWR, CFG, SEC and REC that show what a finished command, test or measurement has left. -/
def resultBits (a : Nat) : Nat :=
  if [R.CLK_XO_MEAS, R.CLK_MRC_MEAS, R.CLK_MRC_FREQ, R.CLK_MRC_TC, R.PWR_SLUG, R.PWR_BOOT_TIME, R.CFG_BULK_ERR, R.CFG_FTG_SEQ_A,
      R.CFG_FTG_SEQ_B, R.REC_RESTORE, R.REC_FAIL_ADDR].contains a ∨
      (0x122000 ≤ a ∧ a < 0x123000) then wholeWord
  else if a = R.CLK_START then bitsOfField F.CLK_START_CAUSE   -- ATT goes only with a device reset (R569)
  else if a = R.PWR_PERSIST then bitsOfFields [F.PWR_PERSIST_VALID, F.PWR_PERSIST_RESULT]
  else if a = R.CFG_IMG_STAT then bitsOfField F.CFG_IMG_STAT_RESULT
  else if a = R.REC_STAGE then bitsOfField F.REC_STAGE_MAX
  else if a = R.CFG_FTG_STATE then bitsOfFields [F.CFG_FTG_STATE_A_VALID, F.CFG_FTG_STATE_B_VALID]
  else if a = R.SEC_CMD_STAT then bitsOfField F.SEC_CMD_STAT_RESULT
  else 0

/-- The bits at `a` that SOFT_RESET of block `b` leaves: pending events, BLK_LOCK and BLK_COURSE (R106), and the RO fields that
show what goes on through SOFT_RESET: clocks, supplies, the course in force, Keystone, the log, the power dies, limp-home and
the switches that it drives (log entry 50). What a finished command, test or measurement has left returns to its Reset value. -/
def State.keptBits (s : State) (b : Block) (a : Nat) : Nat :=
  let o := a % 65536
  if o = 0x010 ∨ o = 0x01C ∨ o = 0x020 ∨ a = R.SOL_EVT_HI then wholeWord
  else if [Block.clk, .pwr, .cfg, .sec, .recorder].contains b || atIdx a R.SOL_DIE_STAT 2 (fun _ => true) ||
      a == R.HSW_LH_STAT || atIdx a R.HSW_CH_STAT 24 s.limped then accBits a .ro &&& (wholeWord - resultBits a)
  else 0

/-- The block's registers return to their Reset values (R106, step 2). -/
def State.regsReset (s : State) (b : Block) : State :=
  let as' := (s.regs.map (·.1)).filter (fun a => a / 65536 == b.index)
  s.each as' (fun s a => s.setWord a (mergeBits (resetWord a) (s.keptBits b a) (s.word a)))

/-- What block `b` keeps beside its registers returns to its reset state. -/
def State.coreReset (s : State) (b : Block) : State :=
  match b with
  | .lane => { s with lanes := [] }
  | .gnss => { s with gnss := { (default : GnssState) with vantBad := s.gnss.vantBad, stopped := s.gnss.stopped }, gnssCh := [] }
  | .nav => { s with nav := { (default : NavState) with steps := s.nav.steps, phase := s.nav.phase } }
  | .fbk => { s with enc := Table.mapAll (fun e => { (default : EncState) with a := e.a, b := e.b }) s.enc, ssi := [], emu := [], ain := [],
                     fus := default }
  | .geo => { s with geo := { (default : GeoState) with chunks := s.geo.chunks, ids := s.geo.ids } }
  | .str => { s with str := { (default : StrState) with solWire := s.str.solWire, hswWire := s.str.hswWire, sats := s.str.sats,
                                                        satOn := s.str.satOn, satLast := s.str.satLast,
                                                        rebuild := s.str.rebuild } }
  | .sol => { s with sol := Table.mapAll (fun c => { (default : SolCh) with offAt := c.offAt }) s.sol }   -- R396
  | .arm => { s with armCh := Table.mapAll (fun c => { (default : ArmCh) with fail := c.fail }) s.armCh, armSw := [], armDie := [] }
  | .hsw =>
    -- R443: a switch off at 175 °C stays off for temperature until it has cooled
    { s with hsw := (List.range 24).foldl (fun t k => t.set k (if s.limped k then s.hsw.get k else { (default : HswCh) with ot := (s.hsw.get k).ot })) []
             hswGen := [], hswVhs := [] }
  | .ctl => { s with ctl := default }
  | .pace =>
    -- R508: the last lap terms are absorbed
    { s with lap := Table.mapAll (fun x => { (default : LapState) with lap := x.lap, was := x.was, touched := true }) s.lap
             pacer := [], inj := [], cap := default, cfg := { s.cfg with paceLate := [] } }
  | .can => { s with canCtl := Table.mapAll (fun c => { (default : CanCtl) with held := c.held }) s.canCtl, canObj := []
                     cfg := { s.cfg with canLate := [] } }
  | .recorder => s.modRec (fun x => { x with trig := [] })
  | .plb => { s with plb := [], plbMis := [] }
  | .sys | .clk | .pwr | .evt | .cfg | .mem | .sec => s

/-- What follows the reset of a block and the return of its footing and course fields. -/
def State.resetEnd (s : State) (b : Block) : State :=
  match b with
  | .arm => (s.each (List.range 96) State.armClr).each (List.range 24) State.eotClr
  | .sol => s.each (List.range 96) State.subStart
  | .can => s.each [0, 1, 2] State.canModeStep
  | .recorder => s.recShow
  | .sys | .clk | .pwr | .evt | .lane | .cfg | .gnss | .nav | .fbk | .geo | .str | .hsw | .ctl | .pace | .mem | .sec | .plb => s

/-- Steps 2 and 3 of R106: the registers of block `b` return to their Reset values, and footing and course are applied again. -/
def State.resetDo (s : State) (b : Block) : State :=
  let s := ((s.shadowRelease b).regsReset b).coreReset b
  let s := match s.cfg.footing with | some f => s.footApply f (fun c => c == b) | none => s
  (s.courseFields b none (if s.coursePends b then s.cfg.prev else s.cfg.cur)).resetEnd b

/-- An atomic unit of block `b` that a clear of ENABLE leaves to finish is in progress (R105); those of the other blocks begin and
end within one command. -/
def State.unitOn (s : State) (b : Block) : Bool :=
  match b with
  | .clk | .pwr | .gnss | .fbk | .sol | .arm | .can | .sec => s.busy b
  | .sys | .evt | .lane | .cfg | .nav | .geo | .str | .hsw | .ctl | .pace | .recorder | .mem | .plb => false

/-- SOFT_RESET of block `b`, not SYS (R106): it acts as a clear of ENABLE, and the registers return to their Reset values once the
atomic unit in progress is finished. -/
def State.softReset (s : State) (b : Block) : State :=
  let s := if s.enabled b then s.change (H.ctrl b) (s.word (H.ctrl b) &&& ~~~ 1#32) else s
  let s := if b = .clk then s.change R.CLK_GATE_REQ 0 else s
  if s.unitOn b then s.modCfg (fun x => { x with resets := x.resets.filter (fun c => c != b) ++ [b] })
  else (s.modCfg (fun x => { x with resets := x.resets.filter (fun c => c != b) })).resetDo b

/-- A SOFT_RESET that waited for the end of its block's atomic unit goes on (R106). -/
def State.resetPoll (s : State) : State :=
  s.each (s.cfg.resets.filter (fun b => !s.unitOn b)) (fun s b =>
    (s.modCfg (fun x => { x with resets := x.resets.filter (fun c => c != b) })).resetDo b)

end Sys2Proof.Machine
end

