-- ==== Sys2Proof/Machine/Access.lean ====
section
/-! DEFINITION. Host reads and writes of one word: registers, DRAM and what a write of a command register starts (R17, R60 to
R62, R94, and the chapters of the blocks). -/

namespace Sys2Proof.Machine

open Sys2Proof

/-! ## What a host write does beside changing the register -/

/-- The tick of a satellite is aligned again once 8 consecutive TICKs and a base have come (R86). -/
def State.tickRegain (s : State) : State :=
  if !s.flag F.SYS_LINK_STATE_TICKOK && decide (8 ≤ s.link.tickRun) && s.link.baseOk then
    let was := s.link.tickLost
    (({ s with link := { s.link with tickLost := false } }).put F.SYS_LINK_STATE_TICKOK 1).raiseIf was 23
  else s

/-- SYS_TICK_BASE_HI is written: on a satellite the base is committed (R85). -/
def State.tickCommit (s : State) : State :=
  let s := { s with link := { s.link with loWait := false } }
  if !s.isSat then s
  else
    let v := s.nat64 R.SYS_TICK_BASE_LO
    let old := s.link.tickTag
    let s := { s with link := { s.link with baseOk := true } }
    let s := if v = old then s
      else ({ s with tag := code 64 ((s.tag : Int) - old + v), link := { s.link with tickTag := v } }).stepped.raise 25
    s.tickRegain

/-- A host command to a solenoid channel or a load switch goes to its die (R370, R380, R436). -/
def State.hostDrive (s : State) (hsw : Bool) (n op : Nat) : State :=
  let c : OutCmd := { src := .host, out := n, op := op, start := 0, duty := 0xFFFF }
  if hsw then s.modStr (fun t => { t with hswWire := t.hswWire ++ [c] })
  else s.modStr (fun t => { t with solWire := t.solWire ++ [c] })

/-- A GNSS_SNAP_CMD is accepted (R182 to R184). -/
def State.snapCommand (s : State) (v : Nat) : State :=
  match v with
  | 1 => s.snapDrainStart
  | 2 => s.snapProcess
  | _ => if s.flag F.GNSS_SNAP_STAT_BUSY then s.modGnss (fun g => { g with cancel := true }) else s

/-- A REC_CMD is accepted (R623, R624, R628). A STOP without a drain does nothing. -/
def State.recCommand (s : State) (v : Nat) : State :=
  match v with
  | 1 => s.logErase
  | 2 => if s.enabled .recorder then s.logDrain false else s
  | 3 => if s.enabled .recorder then s.logDrain true else s
  | 4 => if s.recd.drain.isSome then s.logDrainEnd else s
  | _ => s.cstClear

/-- An INJ_CMD is accepted (R513). -/
def State.injCommand (s : State) (q v : Nat) : State :=
  match v with
  | 1 => s.injArm q false
  | 2 => s.injArm q true
  | _ => s.injStop q

/-- What a host write of a command register of GNSS, NAV or FBK does; `hit` holds the bits written as 1. -/
def State.senseEffect (s : State) (w : WordWrite) (hit : Nat) : State :=
  let a := w.a
  let s := s.onIdx a R.GNSS_CH_CTRL 192 (fun s n => s.chWritten n false)
  let s := s.onIdx a R.GNSS_CH_SIG 192 (fun s n => s.chWritten n true)
  let s := if a = R.GNSS_SNAP_CTRL ∧ nbit w.value 0 then s.snapGo else s
  let s := if a = R.GNSS_SNAP_CMD ∧ w.carried ≠ 0 then s.snapCommand w.value else s
  let s := s.onIdx a R.FBK_ENC_POS 8 (fun s n => s.encJumped n (s.encPos n))
  let s := s.onIdx a R.FBK_ENC_ZCFG 8 (fun s n => if w.value ≠ 0 then s.modEnc n (fun e => { e with zArmed := true }) else s)
  s.each (List.range 8) (fun s n => s.onIdx a (R.FBK_CMP_CTRL n) 16 (fun s k =>
    if hit &&& bitsOfField (F.FBK_CMP_CTRL_ARM n k) ≠ 0 then s.cmpEval n k else s))

/-- What a host write of a command register of GEO, SOL, ARM, HSW or CTL does. -/
def State.driveEffect (s : State) (w : WordWrite) : State :=
  let a := w.a
  let s := if a = R.GEO_MAP_CMD ∧ w.carried ≠ 0 then
      (match w.value with | 1 => s.geoFlush | 2 => s.geoEvictAll | _ => s.fenceCommit) else s
  let s := s.onIdx a R.SOL_CH_CMD 96 (fun s n => if w.carried ≠ 0 then s.hostDrive false n w.value else s)
  let s := s.onIdx a R.SOL_CH_FLT 96 State.solCleared
  let s := s.onIdx a R.SOL_BANK_CTRL 12 (fun s b =>
    if w.value ≠ 0 then (s.put (F.SOL_BANK_STAT_OC b) 0).solResume (bankChannels b) else s)
  let s := s.onIdx a R.ARM_CH_CTRL 96 (fun s n => if w.value ≠ 0 then s.armClr n else s)
  let s := s.onIdx a R.HSW_CH_CMD 24 (fun s k => if w.carried ≠ 0 then s.hostDrive true k w.value else s)
  let s := s.onIdx a R.HSW_CH_FLT 24 (fun s k => if s.limp && s.hswHere k then s.lhDrive k else s)
  s.onIdx a R.CTL_LOOP_CMD 32 (fun s n => if w.carried ≠ 0 then s.loopCmd n w.value else s)

/-- What a host write of a command register of PACE or CAN does. -/
def State.paceEffect (s : State) (w : WordWrite) : State :=
  let a := w.a
  let s := s.onIdx a R.PACE_CMD 16 (fun s p => if w.carried ≠ 0 then s.paceCmd p w.value else s)
  let s := s.onIdx a R.LAP_CTRL 4 (fun s j => if w.value ≠ 0 then s.lapReset j else s)
  let s := if 0x104000 ≤ a ∧ a < 0x108000 then s.lapCell ((a - 0x104000) / 4096) (a % 4096 / 4) w.old.toInt else s
  let s := s.onIdx a R.INJ_CMD 4 (fun s q => if w.carried ≠ 0 then s.injCommand q w.value else s)
  let s := if a = R.CAP_CMD ∧ w.carried ≠ 0 then (if w.value = 1 then s.capGo else s.capEnd 2) else s
  let s := s.onIdx a R.CAN_OBJ_CMD 256 (fun s k =>
    if w.carried = 0 then s else if w.value = 1 then s.canRequest k else s.canWithdraw k)
  s.onIdx a R.CAN_CTL_CMD 3 (fun s n =>
    if w.value ≠ 0 ∧ (s.canCtl.get n).busOff then s.modCtl n (fun c => { c with recover := true }) else s)

/-- What a host write of the header page of block `b` does beside changing the register (R104, R106, R109). -/
def State.headerEffect (s : State) (b : Block) (w : WordWrite) (hit : Nat) : State :=
  if w.a % 65536 = 0x008 then
    let s := if nbit hit 2 && nbit w.old.toNat 2 then s.shadowTake b else s
    if !nbit w.value 1 then s
    else if b = .sys then s.modPwr (fun p => { p with softAt := some s.clk })
    else s.softReset b
  else if w.a % 65536 = 0x01C ∧ w.value ≠ 0 then s.put (H.locked b) 1
  else s

/-- What an accepted host write does beside changing the register. -/
def State.hostEffect (s : State) (auth : Bool) (b : Block) (w : WordWrite) (hit : Nat) : State :=
  if w.a % 65536 < 0x024 then s.headerEffect b w hit
  else match b with
  | .sys => if w.a = R.SYS_TICK_BASE_HI then s.tickCommit
    else if w.a = R.SYS_TICK_BASE_LO then { s with link := { s.link with loWait := true } } else s
  | .clk => if w.a = R.CLK_CTRL ∧ w.value ≠ 0 then s.hostReturn else s
  | .pwr => if w.a = R.PWR_CMD ∧ w.value ≠ 0 then s.persist else s
  | .cfg =>
    if w.a = R.CFG_COURSE_REQ then s.courseRequest (w.new.toNat % 16)
    else if w.a = R.CFG_IMG_CMD ∧ w.carried &&& bitsOfField F.CFG_IMG_CMD_CMD ≠ 0 then s.imgStart (w.value % 16) (w.value / 256)
    else s
  | .gnss | .nav | .fbk => s.senseEffect w hit
  | .geo | .sol | .arm | .hsw | .ctl => s.driveEffect w
  | .pace | .can => s.paceEffect w
  | .recorder => if w.a = R.REC_CMD ∧ w.carried ≠ 0 then s.recCommand w.value else s
  | .mem => if w.a = R.MEM_TEL_CMD ∧ w.value ≠ 0 then s.telClear else s
  | .sec => if w.a = R.SEC_CMD ∧ w.carried ≠ 0 then s.secStart w.value auth else s
  | .plb => s.onIdx w.a R.PLB_CMD 4 (fun s u => if w.carried = 0 then s else if w.value = 1 then s.plbGo u else s.plbAbort u)
  | .evt | .lane | .str => s

/-! ## Writing one word -/

/-- A refused RWO write sets its block's sticky flag, and CTL raises its event (R20, R371, R434, R479, R526). -/
def State.openNote (s : State) (a : Nat) : State :=
  match a / 65536 with
  | 12 => s.put ⟨H.sticky .sol, 0, 1⟩ 1
  | 14 => s.put ⟨H.sticky .hsw, 0, 1⟩ 1
  | 15 => (s.put ⟨H.sticky .ctl, 0, 1⟩ 1).raise 197
  | 17 => s.put ⟨H.sticky .can, 0, 1⟩ 1
  | _ => s

/-- A host write of `v` under `mask` to the register word at `a`. -/
def State.regWrite (s : State) (auth : Bool) (a : Nat) (mask v : Word) : Option ErrCode × State :=
  match s.regCode auth a mask v with
  | some c => (some c, if c = .openreq then s.openNote a else s)
  | none =>
    match blockOf (a / 65536) with
    | none => (some .denied, s)
    | some b =>
      let w := s.wordWrite a mask v
      (none, (s.change a w.new).hostEffect auth b w (mask &&& v).toNat)

/-- A host write to DRAM (R36, R282). -/
def State.dramWrite (s : State) (a : Nat) (mask v : Word) : Option ErrCode × State :=
  if s.phaseOf < 4 ∨ 0x1F000000 ≤ a then (some .denied, s)
  else if a < 0x1A000000 then (match s.mapWrite a mask v with | some t => (none, t) | none => (some .denied, s))
  else (none, s.setDram a (mergeBits (s.dram a) mask.toNat v))

/-- A host write of `v` under `mask` to the word at `a` (R94): how it is refused, and the state. -/
def State.hostWord (s : State) (auth : Bool) (a : Nat) (mask v : Word) : Option ErrCode × State :=
  if 0x10000 ≤ a ∧ a < 0x160000 then s.regWrite auth a mask v
  else if dramBase ≤ a ∧ a < dramEnd then s.dramWrite a mask v
  else (some .denied, s)

/-- Authentication fails (R89, R90): it is counted and reported. -/
def State.authFail (s : State) : State :=
  ((s.count F.SYS_LINK_AUTHERR 1).put ⟨H.sticky .sec, 0, 1⟩ 1).raise 241

/-- A host write carried by a request that passed the checks of the link, as far as one word goes: AUTH where the register
asks for it, a fabric transfer given up (R35), then the word itself. -/
def State.hostWrite (s : State) (auth : Bool) (a : Nat) (mask v : Word) : State :=
  let r : Option ErrCode × State :=
    if a % 4 ≠ 0 then (some .align, s)
    else if s.needsAuth a mask v && !auth then (some .auth, s.authFail)
    else if s.parity = some 0 then (some .parity, s)
    else s.hostWord auth a mask v
  { r.2 with parity := none, lastErr := r.1.map (fun c => (c, 0)) }

/-- A whole-word host write without AUTH. -/
def State.hostSet (s : State) (a v : Nat) : State := s.hostWrite false a (BitVec.allOnes 32) (BitVec.ofNat 32 v)

/-! ## Reading one word -/

/-- The register at `a` is served: its block, its instance and its clock are there (R5, R6, R102, R577). -/
def State.served (s : State) (a : Nat) : Bool :=
  match blockOf (a / 65536) with
  | none => false
  | some b => inService b (s.kind b) (a % 65536) && s.instAt a && !(s.gatedBlock b && decide (4096 ≤ a % 65536))

/-- Reading clears the RS fields at `a` (R17), also the one that is formed from what a point keeps (R357). -/
def State.readClear (s : State) (a : Nat) : State :=
  if s.served a then (s.setWord a (s.word a &&& ~~~ BitVec.ofNat 32 (accBits a .rs))).onIdx a R.STR_PT_LATE_MAX 128
    (fun s p => s.modPt p (fun x => { x with lateMax := 0 })) else s

/-- A read of the register word at `a`: its value and the state after it (R17, R545). -/
def State.regRead (s : State) (a : Nat) : Word × State :=
  match (if s.served a then arrIdx a R.CAN_OBJ_RXHDR 256 else none) with
  | some k => let t := s.canReadCopy k; (mergeBits (t.view a) (accBits a .rs) (s.view a), t)
  | none => (s.view a, s.readClear a)

/-- A host read of the word at `a` (R36, R94, R589): how it is refused, the value and the state. -/
def State.hostRead (s : State) (a : Nat) : Option ErrCode × Word × State :=
  if 0x10000 ≤ a ∧ a < 0x160000 then
    if s.phaseOf < 4 ∧ 0x40000 ≤ a then (some .denied, 0, s) else (none, s.regRead a)
  else if s.phaseOf < 4 ∨ a < dramBase ∨ 0x1F000000 ≤ a then (some .denied, 0, s)
  else if a < 0x1A000000 then (none, s.mapRead a, s)
  else (none, s.dram a, s)

end Sys2Proof.Machine
end

