-- ==== Sys2Proof/Machine/Boot.lean ====
section
/-! DEFINITION. Resets and start-up: what a reset keeps, the phases PU0 to PU4 and RUN, and the causes of a device reset
(R585 to R599, R606, R607, R653). -/

namespace Sys2Proof.Machine

open Sys2Proof

/-! ## What resets keep (R591) -/

/-- The footing copies as a reset leaves them. The copy that an ERASE or PROGRAM was at work on fails R114 from then on (R128):
its bytes are free but for the first, which is erased (log entry 318). -/
def State.flashCopies (s : State) : CfgState :=
  let spoilt (l : List Byte) : List Byte := 0xFF :: (Config.failedFlash s.fresh l).drop 1
  let hit := match s.cfg.img with | some .erase => true | some (.program _ _) => true | _ => false
  let b := hit && s.get F.CFG_FTG_STATE_BOOTED == 0
  { State.reset.cfg with copyA := if hit && !b then spoilt s.cfg.copyA else s.cfg.copyA
                         copyB := if b then spoilt s.cfg.copyB else s.cfg.copyB }

/-- The state after a power-on reset: flash and one-time memory keep their contents, and so do the model's own counters, the
commands waiting, what has been sent, and the level of RESET_N. -/
def State.powerOn (s : State) : State :=
  { State.reset with
    pending := s.pending, fresh := s.fresh + 1, draws := s.draws, boots := s.boots + 1
    link := { State.reset.link with sent := s.link.sent }
    cfg := s.flashCopies
    flash := { State.reset.flash with store := s.flash.store, older := s.flash.older, wearA := s.flash.wearA, wearB := s.flash.wearB
                                      homes := s.flash.homes, taken := s.flash.taken }
    recd := { State.reset.recd with les := s.recd.les, heads := s.recd.heads, log := s.recd.log, cst := s.recd.cst, erasing := s.recd.erasing }
    hswKeep := { State.reset.hswKeep with store := s.hswKeep.store, older := s.hswKeep.older, here := s.hswKeep.here }
    sec := { State.reset.sec with slotA := s.sec.slotA, slotB := s.sec.slotB, oem := s.sec.oem, arbFw := s.sec.arbFw
                                  arbFtg := s.sec.arbFtg, kill := s.sec.kill }
    pwr := { State.reset.pwr with held := s.pwr.held } }

/-- The strap values as SYS_LINK_MODE shows them; an address that ENUM gave is lost (R53, R92, R597). -/
def State.strapShow (s : State) : State :=
  match s.pwr.straps with
  | none => s
  | some (spi, addr) =>
    let enum := !spi && addr == 63
    let s := (s.putB F.SYS_LINK_MODE_LINKSEL spi).putB F.SYS_LINK_MODE_ENUMMODE enum
    (s.putB F.SYS_LINK_MODE_VALID (!enum)).put F.SYS_LINK_MODE_ADDR addr

/-- WRUN after a reset of cause `c` (R595). -/
def State.wrunAfter (s : State) (c : Nat) : Nat :=
  let early := match s.pwr.runAt with | some t => !s.passed t (60 * second) | none => true
  if c == 2 || !early then 0
  else if c == 3 then min 3 (s.get F.PWR_RST_CAUSE_WRUN + 1)
  else s.get F.PWR_RST_CAUSE_WRUN

/-- The registers that a device reset leaves, with the bits it leaves: the hours, MRC verification, what the supply die and
the power dies show of lasting conditions (R148, R591, R599; log entry 51). -/
def keptAtReset : List (Nat × Nat) :=
  [(R.PWR_HOURS, wholeWord), (R.CLK_STAT, bitsOfField F.CLK_STAT_MRC_OK), (R.HSW_LH_STAT, wholeWord),
   (R.PWR_STAT, bitsOfFields [F.PWR_STAT_VBAT_OK, F.PWR_STAT_VIO_OK, F.PWR_STAT_VIO_33, F.PWR_STAT_RAILS_OK, F.PWR_STAT_SSAFE,
     F.PWR_STAT_LOW, F.PWR_STAT_DSAFE_A, F.PWR_STAT_DSAFE_B])]

/-- The state `t` with the bits `m` of the register at `a` as they are in `s`. -/
def State.carry (s t : State) (a m : Nat) : State := t.setWord a (mergeBits (t.word a) m (s.word a))

/-- What a held or limped switch keeps beside its registers: its inrush, its soft start and the time since its switch-on run on in
the die. The instants count from the reset. -/
def State.hswCarry (s : State) (k : Nat) : HswCh :=
  let c := s.hsw.get k
  { (default : HswCh) with ot := c.ot, limit := c.limit, inrEnd := c.inrEnd - s.clk, age := s.hswAge k, soft := c.soft, kept := some (c.kept.getD (s.word (R.HSW_CH_OL k), s.word (R.HSW_CH_OC k))) }

/-- The outputs that a device reset leaves on or held in `t`: hold-over switches and limp-home (R453, R454); every switch that is
off at 175 °C stays so (R443). -/
def State.carryOutputs (s t : State) : State :=
  let ks := (List.range 24).filter s.holdAtReset
  let ls := (List.range 24).filter s.limped
  let t := t.each ks (fun t k => (s.carry t (R.HSW_CH_STAT k) (bitsOfFields [F.HSW_CH_STAT_ON k, F.HSW_CH_STAT_INRUSH k])).put
    (F.HSW_CH_STAT_HELD k) 1)
  let t := t.each ls (fun t k => s.carry t (R.HSW_CH_STAT k) wholeWord)
  let t := t.each (List.range 24) (fun t k => t.modHsw k (fun c => { c with ot := (s.hsw.get k).ot }))
  let t := t.each (ks ++ ls) (fun t k => t.modHsw k (fun _ => s.hswCarry k))
  t.setNat R.HSW_HOLD (ks.foldl (fun m k => m + 2 ^ k) 0)

/-- Clock start-up begins in PU1 (R567); MRC that is still verified need not be verified again (R591). -/
def State.clockStart (s : State) : State :=
  let s := s.modClk (fun c => { c with step := 1 })
  if s.flag F.CLK_STAT_MRC_OK then s.mrcReady else s

/-- A device reset of cause `c` (R591, R597, R614); it stays in reset where `held` (R592). The check of MRC runs on without a
break, with its passes and failures in a row (R561). -/
def State.deviceReset (s : State) (c : Nat) (held : Bool) : State :=
  let t := s.powerOn
  let t := { t with
    hswKeep := s.hswKeep
    clocks := { t.clocks with passes := s.clocks.passes, fails := s.clocks.fails }
    pwr := { t.pwr with booting := s.pwr.booting, straps := s.pwr.straps, held := held, slugWarn := s.pwr.slugWarn
                        frac := s.pwr.frac
                        ends := (List.range 2).filter (fun d => s.flag (dieSafe d)) } }
  let t := t.each keptAtReset (fun t e => s.carry t e.1 e.2)
  let t := (t.when (c == 5) (fun t => t.put F.PWR_STAT_RAILS_OK 0))
  let t := (s.carryOutputs t).strapShow
  let t := (t.setNat R.PWR_RST_CAUSE c).put F.PWR_RST_CAUSE_WRUN (s.wrunAfter c)
  let t := (t.put F.PWR_STAT_PHASE 1).put F.CLK_AVS_STAT_MV 900
  if held then t else t.clockStart

/-! ## Start-up phases (R588) -/

/-- The items of the record store as the restore finds them (R607): an item whose newest slot fails its check takes its older one, and
one whose older slot fails too has none. -/
def State.storePick (s : State) (bad : StartFinds) : State :=
  let new := (List.range 6).filter bad.items.getLsbD
  let old := (List.range 6).filter bad.olders.getLsbD
  let s := s.modFlash (fun x =>
    let older := x.older.take default old
    { x with store := x.store.take older new, older := older.take default new, wrote := [] })
  s.modKeep (fun k =>
    let older := if old.contains 4 then none else k.older
    if new.contains 4 then { k with store := older, older := none } else { k with older := older })

/-- Items of the record store that do not restore: neither slot passes its check, or none holds a value (R607, R638). Hours are
restored after a power-on only (R606). -/
def State.badItems (s : State) : Nat :=
  let r := s.flash.store
  let cold := s.get F.PWR_RST_CAUSE_CAUSE == 1
  bit (cold && r.hours.isNone) + bit r.pcyc.isNone * 2 + bit r.cycles.isNone * 4 + bit r.lat.isNone * 8 +
  bit s.hswKeep.store.isNone * 16 + bit r.tel.isNone * 32

/-- The counters of PWR come back, and the power cycle is counted and written, once in each boot (R606, R607): not again where
a start-up trip has led to PU3 (R568). Where the write fails, the count stays in use (R607). -/
def State.restoreCounters (s : State) (unsaved : Bool) : State :=
  let r := s.flash.store
  if s.pwr.counted then s
  else
  let s := { s with pwr := { s.pwr with counted := true } }
  let s := if s.get F.PWR_RST_CAUSE_CAUSE = 1 then s.setNat R.PWR_HOURS (r.hours.getD 0) else s
  let n := r.pcyc.getD 0 + 1
  let s := s.setNat R.PWR_PCYC n
  if unsaved then s else s.storeItems [1] (fun r => { r with pcyc := some n })

/-- The telemetry summaries come back (R637). -/
def State.restoreTel (s : State) : State :=
  match s.flash.store.tel with
  | some ws => s.setWords R.MEM_TEL_SLUG (ws.take 5)
  | none => s

/-- The log resumes; a cornerstone record of its LES keeps it stopped (R621, R627). -/
def State.logResume (s : State) : State :=
  let fail := s.recd.cst.any (fun r => leNat (r.take 4) == s.recd.les)
  let s := s.modRec (fun x => { x with failed := fail })
  ((s.setNat R.REC_LES s.recd.les).put F.REC_CST_STAT_N s.recd.cst.length).recShow

/-- PU3 begins (R588): the record store, the footing and the courses, the limp table, and the events of the boot. -/
def State.pu3 (s : State) (f : StartFinds) : State :=
  let had := s.hswKeep.store.isSome || s.hswKeep.older.isSome
  let s := s.storePick f
  let bad := s.badItems
  let wd := s.get F.PWR_RST_CAUSE_WRUN == 3
  let cause := s.get F.PWR_RST_CAUSE_CAUSE
  let first := !s.pwr.counted
  let s := (((s.put F.PWR_STAT_PHASE 3).setNat R.REC_RESTORE bad).restoreCounters f.unsaved).when first State.restoreTel
  let s := (s.putB F.PWR_RST_CAUSE_SAFEWD wd).selectFooting wd
  let s := s.each (List.range 8) State.encVio
  let s := s.when first (fun s => s.restoreLat.restoreCycles)
  let s := ((s.lhLoad had).paceLoad).logResume
  let s := (s.raiseIf (cause == 3) 2).raiseIf (cause == 5) 12
  let s := if s.sec.bootErr.contains 244 then s.put ⟨H.sticky .sec, 1, 1⟩ 1 else s
  let s := (s.each s.sec.bootErr State.raise).modSec (fun x => { x with bootErr := [] })
  let s := s.raiseIf (nbit bad 0 || nbit bad 1) 229
  s.when s.isSat (fun s => s.setGated 6 true)

/-- PU3 ends (R588, R589, R618, R669): the blocks that take a course at once have taken INITC, and the personality is
fixed. -/
def State.pu3End (s : State) : State :=
  let s := s.each allBlocks (fun s b =>
    if s.flag F.CFG_COURSE_STAT_BUSY && s.coursePends b && !s.gatedBlock b && s.takesAtOnce b then s.courseTake b else s)
  let s := (s.put F.CFG_PERSONALITY_LOCKED 1).put F.PWR_STAT_PHASE 4
  let now := s.certBits == 0
  ((s.when (!now) (fun s => s.raiseFailed 246)).modSec (fun x => { x with certified := now })).recBoot

/-- PU4 ends (R588, R590, R599, R603): outputs are released, each CAN controller enters its MODE (R527) and RUN begins. A drive safe state ends only where a device reset has
come since it was entered (R28). -/
def State.pu4End (s : State) : State :=
  let s := ((s.put F.PWR_STAT_OUTREL 1).put F.PWR_STAT_PHASE 5).modPwr (fun p => { p with runAt := some s.clk })
  let s := (s.each s.pwr.ends (fun s d => s.put (dieSafe d) 0)).modPwr (fun p => { p with ends := [] })
  let ms := (divOpen 590 ((s.clk : Int) - s.pwr.bootAt) msec).toNat
  ((s.putSat F.PWR_BOOT_TIME ms).solResume (List.range 96)).each [0, 1, 2] State.canModeStep

/-! ## The commands -/

/-- VBAT_PRESENT (R585, R588). -/
def execVbatPresent (s : State) : Answer :=
  .next (if s.pwr.booting then s
    else (s.put F.PWR_STAT_VBAT_OK 1).modPwr (fun p => { p with booting := true, bootAt := s.clk }))

/-- POWER_ON_RESET (R591). -/
def execPowerOnReset (s : State) : Answer := .next s.logCut.powerOn

/-- PU0_END (R46, R567, R578, R587, R588): the straps are sampled. -/
def execPu0End (linksel : Bool) (addr : BitVec 6) (s : State) : Answer :=
  .next (if !s.pwr.booting || s.phaseOf != 0 then s
    else
      let s := (s.put F.PWR_STAT_RAILS_OK 1).put F.PWR_STAT_PHASE 1
      let s := ((s.modPwr (fun p => { p with straps := some (linksel, addr.toNat) })).strapShow).put F.CLK_AVS_STAT_MV 900
      if s.pwr.held then s else s.clockStart)

/-- PU1_END (R588, R653): PU2 verifies the firmware and tests the blocks. After a rail fault the rails are good again by now (log
entry 1705). -/
def execPu1End (failed : List Block) (dieB kat : Bool) (pref : StoreSlot) (s : State) : Answer :=
  .next (if s.phaseOf != 1 || s.pwr.held || s.clocks.step == 8 || !(s.flag F.CLK_STAT_FBARM || s.clocks.step == 6) then s
    else
      let s := s.put F.PWR_STAT_RAILS_OK 1
      let s := s.when (failed.contains .sec) (fun s => s.sessionEnd.modSec (fun x => { x with hello := none }))
      let s := ({ s with failed := failed.eraseDups, dieBFail := dieB } : State).hswAbsentOff
      let s := (s.each failed.eraseDups (fun s b => s.raise (failEvent b))).raiseIf dieB 144
      (s.secureBoot kat pref).put F.PWR_STAT_PHASE 2)

/-- PU2_END (R588, R632, R655): it comes only with verified firmware. The pages that the DRAM test retires take spares of
the full pool. -/
def execPu2End (bad : StartFinds) (s : State) : Answer :=
  .next (if s.phaseOf == 2 && s.sec.running && !s.pwr.held then
    (s.dramTest bad.spares bad.pages).pu3 bad else s)

/-- PU3_END (R588). -/
def execPu3End (s : State) : Answer := .next (if s.phaseOf == 3 && !s.pwr.held then s.pu3End else s)

/-- PU4_END (R588, R589): PU4 waits while a supply safe state holds. -/
def execPu4End (s : State) : Answer :=
  .next (if s.phaseOf == 4 && !s.pwr.held && !s.flag F.PWR_STAT_SSAFE then s.pu4End else s)

/-- RESET_N_ASSERT (R592): before the end of PU0 it only holds the module from going on. -/
def execResetNAssert (s : State) : Answer :=
  .next (if s.pwr.held then s
    else if s.phaseOf == 0 then s.modPwr (fun p => { p with held := true })
    else s.deviceReset 2 true)

/-- RESET_N_RELEASE (R592): start-up resumes at PU1. -/
def execResetNRelease (s : State) : Answer :=
  .next (if !s.pwr.held then s
    else
      let s := s.modPwr (fun p => { p with held := false })
      if s.phaseOf == 1 then (s.modPwr (fun p => { p with bootAt := s.clk })).clockStart else s)

/-- DEVICE_RESET (R591, R593): the reset that a write of SOFT_RESET in the SYS region has asked for. -/
def execDeviceReset (s : State) : Answer := .next (if s.pwr.softAt.isSome then s.deviceReset 4 false else s)

/-- WATCHDOG_EXPIRY (R594, R595, R655). -/
def execWatchdogExpiry (s : State) : Answer :=
  .next (if decide (3 ≤ s.phaseOf) || (s.phaseOf == 2 && s.sec.running) then s.deviceReset 3 false else s)

/-- RAIL_FAULT (R596): while VBAT is present. -/
def execRailFault (s : State) : Answer :=
  .next (if s.flag F.PWR_STAT_RAILS_OK && s.flag F.PWR_STAT_VBAT_OK && !s.pwr.held then s.deviceReset 5 false else s)

end Sys2Proof.Machine
end

