-- ==== Sys2Proof/Machine/Writes.lean ====
section
/-! DEFINITION. The commands that are host accesses to one register or one word, LANE0 bulk writes, and a producer that goes on
(R17, R104 to R106, R132, R138, R141, R146, and the command registers of the blocks). A command here is an access whose
request has passed the checks of the link; how it was refused is left in `lastErr`. -/

namespace Sys2Proof.Machine

open Sys2Proof

/-- A host write of the bits `m` of the word at `a`, without AUTH. -/
def State.hostBits (s : State) (a m v : Nat) : State := s.hostWrite false a (BitVec.ofNat 32 m) (BitVec.ofNat 32 v)

/-- A whole-word host write, in a request with AUTH where `auth`. -/
def State.hostCmd (s : State) (auth : Bool) (a v : Nat) : State := s.hostWrite auth a (BitVec.allOnes 32) (BitVec.ofNat 32 v)

/-! ## The register file and the header page -/

/-- REGISTER_WRITE (R17). -/
def execRegisterWrite (auth : Bool) (addr value : Word) (s : State) : Answer :=
  .next (s.hostWrite auth addr.toNat (BitVec.allOnes 32) value)

/-- BLK_ENABLE_CLEAR (R105). -/
def execBlkEnableClear (b : Block) (s : State) : Answer := .next (s.hostBits (H.ctrl b) 1 0)

/-- BLK_ENABLE_SET (R105). -/
def execBlkEnableSet (b : Block) (s : State) : Answer := .next (s.hostBits (H.ctrl b) 1 1)

/-- BLK_SOFT_RESET (R106). -/
def execBlkSoftReset (b : Block) (s : State) : Answer := .next (s.hostBits (H.ctrl b) 2 2)

/-- BLK_SHADOW_SET (R104). -/
def execBlkShadowSet (b : Block) (s : State) : Answer := .next (s.hostBits (H.ctrl b) 4 4)

/-- BLK_SHADOW_CLEAR (R104). -/
def execBlkShadowClear (b : Block) (s : State) : Answer := .next (s.hostBits (H.ctrl b) 4 0)

/-- BLK_LOCK_SET (R109). -/
def execBlkLockSet (b : Block) (s : State) : Answer := .next (s.hostBits (hdr b 0x01C) 0x100 0x100)

/-- EVENT_CLEAR (R99, R148). -/
def execEventClear (b : Block) (hi : Bool) (mask : Word) (s : State) : Answer :=
  .next (s.hostSet (if hi && b == .sol then R.SOL_EVT_HI else H.evt b) mask.toNat)

/-- SYS_SOFT_RESET (R593): the other bits of BLK_CTRL stay as they are. -/
def execSysSoftReset (auth : Bool) (s : State) : Answer :=
  .next (s.hostCmd auth (H.ctrl .sys) ((s.nat (H.ctrl .sys) &&& 5) ||| 2))

/-- SYS_TICK_BASE_WRITE (R85). -/
def execSysTickBaseWrite (hi : Word) (s : State) : Answer := .next (s.hostSet R.SYS_TICK_BASE_HI hi.toNat)

/-! ## Lanes -/

/-- LANE_HEAD_WRITE (R132). -/
def execLaneHeadWrite (lane : Fin 16) (value : Word) (s : State) : Answer := .next (s.hostSet (R.LANE_HEAD lane.val) value.toNat)

/-- LANE_TAIL_WRITE (R132). -/
def execLaneTailWrite (lane : Fin 16) (value : Word) (s : State) : Answer := .next (s.hostSet (R.LANE_TAIL lane.val) value.toNat)

/-- LANE_CTRL_WRITE (R141, R142). -/
def execLaneCtrlWrite (lane : Fin 16) (value : Word) (s : State) : Answer := .next (s.hostSet (R.LANE_CTRL lane.val) value.toNat)

/-- PRODUCER_RESUME (R138): a producer that holds entries under WAIT = 1 writes them while the ring has room, and what waited for
its message goes on. -/
def execProducerResume (lane : Fin 16) (s : State) : Answer :=
  .next (let s := s.producerResume lane.val
    if lane = 2 then s.chunkSettle else if lane = 4 then s.geoSettle else if lane = 7 then s.capHeldDone else s)

/-- The writes of one LANE0 entry: its words or triples; none where TYPE or AUX is out of range (R145). -/
def bulkWords (e : List Byte) : Option (List (Nat × Word × Word)) :=
  let n := leNat ((e.drop 4).take 4)
  let w (i : Nat) : Nat := leNat ((e.drop (8 + 4 * i)).take 4)
  let type := e.getD 2 0
  if type = 1 ∧ 1 ≤ n ∧ n ≤ 13 then
    some ((List.range n).map (fun i => (w 0 + 4 * i, BitVec.allOnes 32, BitVec.ofNat 32 (w (i + 1)))))
  else if type = 2 ∧ 1 ≤ n ∧ n ≤ 4 then
    some ((List.range n).map (fun i => (w (3 * i), BitVec.ofNat 32 (w (3 * i + 1)), BitVec.ofNat 32 (w (3 * i + 2)))))
  else none

/-- Writes executed one by one until one is refused (R61, R146): the code and index of the refused one, and the state. The
fabric transfer of word `par` is given up (R35). -/
def State.hostWords (auth : Bool) (par : Option Nat) : List (Nat × Word × Word) → Nat → State → Option (ErrCode × Nat) × State
  | [], _, s => (none, s)
  | (a, m, v) :: t, i, s =>
    let r : Option ErrCode × State :=
      if a % 4 ≠ 0 then (some .align, s)
      else if s.needsAuth a m v && !auth then (some .auth, s.authFail)
      else if par = some i then (some .parity, s)
      else s.hostWord auth a m v
    match r.1 with
    | some c => (some (c, i), r.2)
    | none => State.hostWords auth par t (i + 1) r.2

/-- The number of an error code (R62). -/
def ErrCode.number : ErrCode → Nat
  | .crc => 1 | .seq => 2 | .auth => 3 | .opcode => 4 | .length => 5 | .align => 6 | .absent => 7 | .locked => 8
  | .openreq => 9 | .encoding => 10 | .sealed => 11 | .denied => 12 | .parity => 13 | .lanefull => 14 | .lanedir => 15

/-- CFG consumes entry `e` of LANE0 (R146). The words of a BULK_WRITE that would cross a page boundary are refused with ALIGN. -/
def State.bulkTake (s : State) (e : List Byte) : State :=
  match bulkWords e with
  | none => s.count F.CFG_BULK_CNT_REF 1
  | some ws =>
    let a := leNat ((e.drop 8).take 4)
    let crosses := e.getD 2 0 == 1 && decide (4096 < a % 4096 + 4 * ws.length)
    let r := if crosses then (some (ErrCode.align, 0), s) else State.hostWords false none ws 0 s
    match r.1 with
    | none => r.2.count F.CFG_BULK_CNT_OK 1
    | some (c, i) =>
      let s := (r.2.put F.CFG_BULK_ERR_CODE c.number).put F.CFG_BULK_ERR_INDEX i
      ((s.put F.CFG_BULK_ERR_LSEQ (leNat (e.take 2))).count F.CFG_BULK_CNT_REF 1).raise 41

/-- BULK_ENTRY (R145, R146): while CFG is disabled the entry is discarded and counted; TYPE 0x00 is one that LANE0 counts. -/
def execBulkEntry (s : State) : Answer :=
  .next (if !s.present .cfg || !s.laneIn 0 then s
    else match s.laneFirst 0 with
    | (none, s) => s
    | (some e, s) => if s.enabled .cfg then s.bulkTake e else s.count F.CFG_BULK_CNT_REF 1)

/-! ## Courses and images -/

/-- COURSE_REQUEST (R117, R123, R124). -/
def execCourseRequest (slot : BitVec 4) (s : State) : Answer := .next (s.hostSet R.CFG_COURSE_REQ slot.toNat)

/-- IMG_ERASE (R128). -/
def execImgErase (s : State) : Answer := .next (s.hostSet R.CFG_IMG_CMD 1)

/-- IMG_PROGRAM (R128). -/
def execImgProgram (s : State) : Answer := .next (s.hostSet R.CFG_IMG_CMD 2)

/-- IMG_VERIFY (R128). -/
def execImgVerify (s : State) : Answer := .next (s.hostSet R.CFG_IMG_CMD 3)

/-- LOAD_COURSE (R128). -/
def execLoadCourse (slot : BitVec 4) (s : State) : Answer := .next (s.hostSet R.CFG_IMG_CMD (slot.toNat * 256 + 4))

/-! ## GNSS and feedback -/

/-- GNSS_CH_MODE_WRITE (R174). -/
def execGnssChModeWrite (ch : Fin 192) (sig : Bool) (value : Word) (s : State) : Answer :=
  .next (s.hostSet (if sig then R.GNSS_CH_SIG ch.val else R.GNSS_CH_CTRL ch.val) value.toNat)

/-- SNAP_GO (R178). -/
def execSnapGo (value : Word) (s : State) : Answer := .next (s.hostSet R.GNSS_SNAP_CTRL value.toNat)

/-- SNAP_DRAIN (R183). -/
def execSnapDrain (s : State) : Answer := .next (s.hostSet R.GNSS_SNAP_CMD 1)

/-- SNAP_PROCESS (R184). -/
def execSnapProcess (s : State) : Answer := .next (s.hostSet R.GNSS_SNAP_CMD 2)

/-- SNAP_CANCEL (R182). -/
def execSnapCancel (s : State) : Answer := .next (s.hostSet R.GNSS_SNAP_CMD 3)

/-- ENC_POS_WRITE (R241). -/
def execEncPosWrite (n : Fin 8) (value : Word) (s : State) : Answer := .next (s.hostSet (R.FBK_ENC_POS n.val) value.toNat)

/-- ENC_Z_ARM (R241). -/
def execEncZArm (n : Fin 8) (value : Word) (s : State) : Answer := .next (s.hostSet (R.FBK_ENC_ZCFG n.val) value.toNat)

/-- CMP_ARM (R246). -/
def execCmpArm (n : Fin 8) (k : Fin 16) (value : Word) (s : State) : Answer :=
  .next (s.hostSet (R.FBK_CMP_CTRL n.val k.val) value.toNat)

/-! ## The map -/

/-- MAP_FLUSH (R291). -/
def execMapFlush (s : State) : Answer := .next (s.hostSet R.GEO_MAP_CMD 1)

/-- MAP_EVICT_ALL (R291). -/
def execMapEvictAll (s : State) : Answer := .next (s.hostSet R.GEO_MAP_CMD 2)

/-- FENCE_COMMIT (R295). -/
def execFenceCommit (s : State) : Answer := .next (s.hostSet R.GEO_MAP_CMD 3)

/-- MAP_HOST_ACCESS (R282): an access to the map window. A read changes nothing. -/
def execMapHostAccess (addr : Word) (write : Bool) (mask value : Word) (s : State) : Answer :=
  .next (let a := addr.toNat
    if a < dramBase ∨ 0x1A000000 ≤ a then s
    else if write then s.hostWrite false a mask value
    else let r := s.hostRead a; { r.2.2 with lastErr := r.1.map (fun c => (c, 0)) })

/-! ## Drives -/

/-- SOL_CH_ON (R370). -/
def execSolChOn (n : Fin 96) (s : State) : Answer := .next (s.hostSet (R.SOL_CH_CMD n.val) 1)

/-- SOL_CH_OFF (R370). -/
def execSolChOff (n : Fin 96) (s : State) : Answer := .next (s.hostSet (R.SOL_CH_CMD n.val) 2)

/-- SOL_FLT_CLEAR (R392). -/
def execSolFltClear (n : Fin 96) (mask : Word) (s : State) : Answer := .next (s.hostSet (R.SOL_CH_FLT n.val) mask.toNat)

/-- BANK_CLR (R368). -/
def execBankClr (b : Fin 12) (s : State) : Answer :=
  .next (s.hostBits (R.SOL_BANK_CTRL b.val) (bitsOfField (F.SOL_BANK_CTRL_CLR b.val)) wholeWord)

/-- ARM_CH_CLR (R419). -/
def execArmChClr (n : Fin 96) (s : State) : Answer :=
  .next (s.hostBits (R.ARM_CH_CTRL n.val) (bitsOfField (F.ARM_CH_CTRL_CLR n.val)) wholeWord)

/-- HSW_CH_ON (R436). -/
def execHswChOn (k : Fin 24) (s : State) : Answer := .next (s.hostSet (R.HSW_CH_CMD k.val) 1)

/-- HSW_CH_OFF (R436). -/
def execHswChOff (k : Fin 24) (s : State) : Answer := .next (s.hostSet (R.HSW_CH_CMD k.val) 2)

/-- HSW_FLT_CLEAR (R441, R448). -/
def execHswFltClear (k : Fin 24) (mask : Word) (s : State) : Answer := .next (s.hostSet (R.HSW_CH_FLT k.val) mask.toNat)

/-! ## Loops, Pacers and tuning -/

/-- LOOP_CLOSE (R477). -/
def execLoopClose (n : Fin 32) (s : State) : Answer := .next (s.hostSet (R.CTL_LOOP_CMD n.val) 1)

/-- LOOP_OPEN (R477). -/
def execLoopOpen (n : Fin 32) (s : State) : Answer := .next (s.hostSet (R.CTL_LOOP_CMD n.val) 2)

/-- LOOP_RELEASE (R477). -/
def execLoopRelease (n : Fin 32) (s : State) : Answer := .next (s.hostSet (R.CTL_LOOP_CMD n.val) 3)

/-- PACE_GO (R505). -/
def execPaceGo (p : Fin 16) (s : State) : Answer := .next (s.hostSet (R.PACE_CMD p.val) 1)

/-- PACE_STOP (R505). -/
def execPaceStop (p : Fin 16) (s : State) : Answer := .next (s.hostSet (R.PACE_CMD p.val) 2)

/-- PACE_JUMP (R505). -/
def execPaceJump (p : Fin 16) (s : State) : Answer := .next (s.hostSet (R.PACE_CMD p.val) 3)

/-- LAP_RESET (R509). -/
def execLapReset (j : Fin 4) (value : Word) (s : State) : Answer :=
  .next (s.hostSet (R.LAP_CTRL j.val) (value.toNat ||| bitsOfField (F.LAP_CTRL_RESET j.val)))

/-- LAP_TABLE_WRITE (R510). -/
def execLapTableWrite (j : Fin 4) (m : Fin 1024) (value : Word) (s : State) : Answer :=
  .next (s.hostSet (R.LAP_TBL j.val m.val) value.toNat)

/-- INJ_START (R513). -/
def execInjStart (q : Fin 4) (s : State) : Answer := .next (s.hostSet (R.INJ_CMD q.val) 1)

/-- INJ_START_AT (R513). -/
def execInjStartAt (q : Fin 4) (s : State) : Answer := .next (s.hostSet (R.INJ_CMD q.val) 2)

/-- INJ_STOP (R513). -/
def execInjStop (q : Fin 4) (s : State) : Answer := .next (s.hostSet (R.INJ_CMD q.val) 3)

/-- CAP_GO (R515). -/
def execCapGo (s : State) : Answer := .next (s.hostSet R.CAP_CMD 1)

/-- CAP_STOP (R515). -/
def execCapStop (s : State) : Answer := .next (s.hostSet R.CAP_CMD 2)

/-! ## CAN -/

/-- CAN_SEND (R531). -/
def execCanSend (k : Fin 256) (s : State) : Answer := .next (s.hostSet (R.CAN_OBJ_CMD k.val) 1)

/-- CAN_CANCEL (R536, R537). -/
def execCanCancel (k : Fin 256) (s : State) : Answer := .next (s.hostSet (R.CAN_OBJ_CMD k.val) 2)

/-- CAN_REC_REQ (R541). -/
def execCanRecReq (n : Fin 3) (s : State) : Answer := .next (s.hostSet (R.CAN_CTL_CMD n.val) 1)

/-- CAN_MODE_WRITE (R526). -/
def execCanModeWrite (n : Fin 3) (value : Word) (s : State) : Answer := .next (s.hostSet (R.CAN_CTL_CFG n.val) value.toNat)

/-- CAN_RXHDR_READ (R545): a host read; in start-up it is refused (R589). -/
def execCanRxhdrRead (k : Fin 256) (s : State) : Answer :=
  .next (let r := s.hostRead (R.CAN_OBJ_RXHDR k.val); { r.2.2 with lastErr := r.1.map (fun c => (c, 0)) })

/-! ## Clocks, supplies, the recorder and memory care -/

/-- CLK_RETURN (R572). -/
def execClkReturn (value : Word) (s : State) : Answer :=
  .next (s.hostSet R.CLK_CTRL (value.toNat ||| bitsOfField F.CLK_CTRL_RETURN))

/-- CLK_GATE_REQUEST (R575). -/
def execClkGateRequest (value : Word) (s : State) : Answer := .next (s.hostSet R.CLK_GATE_REQ value.toNat)

/-- PERSIST (R608). -/
def execPersist (s : State) : Answer := .next (s.hostSet R.PWR_CMD 1)

/-- LOG_ERASE (R623). -/
def execLogErase (auth : Bool) (s : State) : Answer := .next (s.hostCmd auth R.REC_CMD 1)

/-- LOG_DRAIN (R624). -/
def execLogDrain (auth : Bool) (s : State) : Answer := .next (s.hostCmd auth R.REC_CMD 2)

/-- DRAIN_CST (R628). -/
def execDrainCst (auth : Bool) (s : State) : Answer := .next (s.hostCmd auth R.REC_CMD 3)

/-- DRAIN_STOP (R624). -/
def execDrainStop (auth : Bool) (s : State) : Answer := .next (s.hostCmd auth R.REC_CMD 4)

/-- CST_CLEAR (R628). -/
def execCstClear (auth : Bool) (s : State) : Answer := .next (s.hostCmd auth R.REC_CMD 5)

/-- TEL_CLEAR (R648). -/
def execTelClear (s : State) : Answer := .next (s.hostSet R.MEM_TEL_CMD 1)

/-! ## Keystone and plumb units -/

/-- FW_ERASE (R656). -/
def execFwErase (auth : Bool) (s : State) : Answer := .next (s.hostCmd auth R.SEC_CMD 1)

/-- FW_PROGRAM (R656). -/
def execFwProgram (auth : Bool) (s : State) : Answer := .next (s.hostCmd auth R.SEC_CMD 2)

/-- FW_VERIFY (R656). -/
def execFwVerify (auth : Bool) (s : State) : Answer := .next (s.hostCmd auth R.SEC_CMD 3)

/-- FW_PREFER (R656). -/
def execFwPrefer (auth : Bool) (s : State) : Answer := .next (s.hostCmd auth R.SEC_CMD 4)

/-- ARB_COMMIT (R657). -/
def execArbCommit (auth : Bool) (s : State) : Answer := .next (s.hostCmd auth R.SEC_CMD 5)

/-- OEM_PROVISION (R658). -/
def execOemProvision (auth : Bool) (s : State) : Answer := .next (s.hostCmd auth R.SEC_CMD 6)

/-- DBG_CHALLENGE (R666). -/
def execDbgChallenge (auth : Bool) (s : State) : Answer := .next (s.hostCmd auth R.SEC_CMD 7)

/-- DBG_UNLOCK (R666). -/
def execDbgUnlock (auth : Bool) (s : State) : Answer := .next (s.hostCmd auth R.SEC_CMD 8)

/-- DBG_KILL (R667). -/
def execDbgKill (auth : Bool) (s : State) : Answer := .next (s.hostCmd auth R.SEC_CMD 9)

/-- PLB_GO (R678). -/
def execPlbGo (u : Fin 4) (s : State) : Answer := .next (s.hostSet (R.PLB_CMD u.val) 1)

/-- PLB_STOP (R680). -/
def execPlbStop (u : Fin 4) (s : State) : Answer := .next (s.hostSet (R.PLB_CMD u.val) 2)

end Sys2Proof.Machine
end

