-- ==== Sys2Proof/Machine/Session.lean ====
section
/-! DEFINITION. The session handshake of Keystone and the tags of authenticated frames (R87 to R89, R660 to R663). -/

namespace Sys2Proof.Machine

open Sys2Proof

/-! ## Tags (R88) -/

/-- The tag over the bytes `aad` of a frame, of a request or a `reply`, with frame counter `n`. -/
def Session.tag (x : Session) (reply : Bool) (n : Nat) (aad : List Byte) : List Byte :=
  leBytes 16 (Config.gcmTag x.key (x.salt ++ leBytes 4 (if reply then 0x80000000 else 0) ++ leBytes 4 n) aad).toNat

/-- The trailer of a reply whose bytes before it are `plain`, with reply counter `n`. -/
def Session.trailer (x : Session) (n : Nat) (plain : List Byte) : List Byte :=
  let aad := plain ++ leBytes 4 n
  leBytes 4 n ++ x.tag true n aad

/-- A request passes authentication in the session (R88, R89). -/
def Session.accepts (x : Session) (opc : Byte) (r : Request) : Bool :=
  decide (x.fcIn < r.fcnt) && r.trailer.length == 20 && r.tagBytes == x.tag false r.fcnt (r.plainBytes opc ++ r.trailer.take 4)

/-! ## The handshake (R660 to R663) -/

/-- SEC_HOST_KEY. -/
def State.hostKey (s : State) : BitVec 512 := key512 ((List.range 16).flatMap (fun k => leBytes 4 (s.nat (R.SEC_HOST_KEY k))))

/-- SESSION messages and their lengths (R660): none for another type. -/
def sessionLen (type : Nat) : Option Nat := match type with | 1 => some 84 | 2 => some 68 | 3 => some 4 | _ => none

/-- HELLO (R660, R662): none where it is answered ERR AUTH, else the reply. -/
def State.sessionHello (s : State) (m : List Byte) : Option (List Byte) × State :=
  if s.hostKey = 0 || !s.sec.healthy || !s.secRuns then (none, s.authFail.when (s.kind .sec == 2) (fun s => s.raiseFailed 241))
  else
    let priv := s.random
    let nd := priv.2.random
    let salt := nd.2.random
    let h : Hello :=
      { priv := priv.1, qh := (m.drop 4).take 64, nh := (m.drop 68).take 16, qd := leBytes 64 (Config.publicKey priv.1).toNat
        nd := leBytes 16 nd.1.toNat, salt := leBytes 4 salt.1.toNat, since := s.clk }
    let body := h.qd ++ h.nd ++ h.salt
    let sig := Config.ecdsaSign Config.deviceKey
      (Config.sha256 (h.qh ++ h.nh ++ body ++ [BitVec.ofNat 8 (s.get F.SYS_LINK_MODE_ADDR)]))
    (some ([1, 0, 0, 0] ++ body ++ leBytes 64 sig.toNat), salt.2.modSec (fun x => { x with hello := some h }))

/-- FINISH (R661, R662): none where it is answered ERR AUTH, else the reply; a session in force is replaced. -/
def State.sessionFinish (s : State) (m : List Byte) : Option (List Byte) × State :=
  match s.sec.hello with
  | none => (none, s.authFail)
  | some h =>
    let good := !s.passed h.since (second + 1) &&
      Config.ecdsaVerify s.hostKey (Config.sha256 (h.qd ++ h.nd ++ h.qh ++ h.nh ++ h.salt)) (key512 (m.drop 4))
    let s := s.modSec (fun x => { x with hello := none })
    if !good then (none, s.authFail)
    else
      let z := Config.ecdh h.priv (key512 h.qh)
      let key := Config.hmac (h.nh ++ h.nd) (leBytes 32 z.toNat)
      (some [2, 0, 0, 0, 0], s.sessionEnd.modSec (fun x => { x with session := some { key := key, salt := h.salt, fcIn := 0, fcOut := 0 } }))

/-- A SESSION message whose type and length are good (R660): none where it is answered ERR AUTH, else the reply. -/
def State.sessionMsg (s : State) (m : List Byte) : Option (List Byte) × State :=
  match (m.getD 0 0).toNat with
  | 1 => s.sessionHello m
  | 2 => s.sessionFinish m
  | _ => (some [3, 0, 0, 0, 0], s.sessionEnd)

/-- HELLO_EXPIRY (R662). -/
def execHelloExpiry (s : State) : Answer :=
  .next (match s.sec.hello with
    | some h => if s.passed h.since second then s.modSec (fun x => { x with hello := none }) else s
    | none => s)

end Sys2Proof.Machine
end

