-- ==== Sys2Proof/Machine/Link.lean ====
section
/-! DEFINITION. The Twiris link: frames, the order of checks, sequence numbers, replies, broadcasts, transit frames, SPI, ports
and TICK (R46 to R93, R589). -/

namespace Sys2Proof.Machine

open Sys2Proof

def State.modLink (s : State) (f : LinkState → LinkState) : State := { s with link := f s.link }

/-! ## The module on the link -/

/-- The host link is clocked (R567 step 2, R588), and neither its island nor the fabric's has been stopped (R29, R573). -/
def State.linkUp (s : State) : Bool := decide (3 ≤ s.clocks.step) && !s.halted 1 && !s.halted 2

/-- SPI mode (R46). -/
def State.spi (s : State) : Bool := s.flag F.SYS_LINK_MODE_LINKSEL

/-- The module's address (R53). -/
def State.myAddr (s : State) : Nat := s.get F.SYS_LINK_MODE_ADDR
def State.hasAddr (s : State) : Bool := s.flag F.SYS_LINK_MODE_VALID

/-- The port opposite to `p`. -/
def otherPort : Port → Port | .inp => .out | .out => .inp

/-- Frames are turned at the port: it is down, declared so or since the reset (R79, R93, R597; log entry 225). -/
def State.wrapped (s : State) (p : Port) : Bool :=
  match p with
  | .inp => s.flag F.SYS_LINK_STATE_WRAPIN || s.get F.SYS_LINK_STATE_INST == 0
  | .out => s.flag F.SYS_LINK_STATE_WRAPOUT || s.get F.SYS_LINK_STATE_OUTST == 0

/-- The port out of which a frame goes on that arrived at `p` (R73, R79). -/
def State.onward (s : State) (p : Port) : Port := if s.wrapped (otherPort p) then p else otherPort p

/-- The module sends something. On its ring pins it sends nothing in SPI mode (R49). -/
def State.emit (s : State) (x : Sent) : State := s.modLink (fun l => { l with sent := l.sent ++ [x] })

/-- A frame is sent on (R73). -/
def State.passOn (s : State) (p : Port) (bytes : List Byte) : State := s.emit (Sent.frame (s.onward p) bytes)

/-! ## Originators (R67, R74) -/

/-- Who sent a request: the host, the accepted lead, this module itself, or an originator that is not accepted. -/
inductive Origin where
  | host | lead | self | other
  deriving DecidableEq, Repr

/-- The originator of a request (R74, R75, R85). There is no lead traffic in SPI mode (R49). -/
def State.origin (s : State) (r : Request) : Origin :=
  let a := r.org.toNat % 64
  if r.fromHost then .host
  else if s.spi then .other
  else if s.isLead && s.hasAddr && a == s.myAddr then .self
  else if s.leadAddr == some a then .lead
  else .other

/-- The sequence state of an originator. -/
def State.linkSet (s : State) (lead : Bool) : LinkSet := if lead then s.link.lead else s.link.host
def State.modSet (s : State) (lead : Bool) (f : LinkSet → LinkSet) : State :=
  s.modLink (fun l => if lead then { l with lead := f l.lead } else { l with host := f l.host })

/-- A frame of an unaccepted originator, or a lead request that comes back (R74, R75). -/
def State.orgErr (s : State) : State := (s.count F.SYS_LINK_ORGERR 1).raise 27

/-! ## The rules of opcodes (R59, R60) -/

/-- The bytes between byte 11 and the trailer or CRC that the opcode and LEN call for; none for a reserved opcode (R62). -/
def bodyLen (opc : Byte) (r : Request) : Option Nat :=
  match opc.toNat with
  | 0 => some 0 | 1 => some 0 | 5 => some 0
  | 2 => some r.len.toNat | 3 => some r.len.toNat | 4 => some r.len.toNat | 6 => some r.len.toNat | 7 => some r.len.toNat
  | _ => none

/-- The CRC of a request is good and its body is as long as its opcode and LEN call for (R58, R62). -/
def crcGood (opc : Byte) (r : Request) : Bool :=
  r.crc == crc32 (r.plainBytes opc ++ r.trailer) &&
    (match bodyLen opc r with | some n => r.body.length == n | none => true) &&
    r.trailer.length == (if r.auth then 20 else 0)

/-- LEN is one that the opcode allows (R59, R660). -/
def lenGood (opc : Byte) (r : Request) : Bool :=
  let n := r.len.toNat
  match opc.toNat with
  | 0 => n == 0
  | 1 | 2 => decide (4 ≤ n ∧ n ≤ 256 ∧ n % 4 = 0)
  | 3 => n == 8
  | 4 | 5 => decide (64 ≤ n ∧ n ≤ 256 ∧ n % 64 = 0)
  | 6 => n == 2
  | 7 => sessionLen (r.body.getD 0 0).toNat == some n
  | _ => true

/-- ADDR is aligned and the access stays within a page (R60). -/
def alignGood (opc : Byte) (r : Request) : Bool :=
  let a := r.addr.toNat
  match opc.toNat with
  | 1 | 2 => decide (a % 4 = 0 ∧ a % 4096 + r.len.toNat ≤ 4096)
  | 3 => decide (a % 4 = 0)
  | 4 | 5 => decide (a < 16)
  | _ => true

/-- Check 7 of R64: opcode, LEN and alignment, for the host or the lead (R74). -/
def shapeCode (lead : Bool) (opc : Byte) (r : Request) : Option ErrCode :=
  let o := opc.toNat
  if 8 ≤ o ∨ (o = 6 ∧ !r.bcast) ∨ (lead ∧ o ≠ 2 ∧ o ≠ 4) then some .opcode
  else if !lenGood opc r then some .length
  else if !alignGood opc r then some .align
  else none

/-- The words of a WRITE or WRITE_MASK (R60, R61). -/
def writeWords (opc : Byte) (r : Request) : List (Nat × Word × Word) :=
  let w (i : Nat) : Word := BitVec.ofNat 32 (leNat ((r.body.drop (4 * i)).take 4))
  match opc.toNat with
  | 2 => (List.range (r.len.toNat / 4)).map (fun i => (r.addr.toNat + 4 * i, BitVec.allOnes 32, w i))
  | 3 => [(r.addr.toNat, w 0, w 1)]
  | _ => []

/-! ## Execution (R61, R74, R132, R133, R589) -/

/-- What the execution of a request gives: the error code with DETAIL, the payload, the state. -/
structure Done where
  err     : Option (ErrCode × Nat)
  payload : List Byte
  st      : State
  deriving DecidableEq

/-- The words of a READ, one by one (R61). -/
def State.readWords (s : State) (par : Option Nat) : List Nat → Nat → Done
  | [], _ => ⟨none, [], s⟩
  | a :: t, i =>
    if par = some i then ⟨some (.parity, i), [], s⟩
    else match s.hostRead a with
    | (some c, _, s) => ⟨some (c, i), [], s⟩
    | (none, w, s) =>
      let r := s.readWords par t (i + 1)
      match r.err with
      | none => ⟨none, leBytes 4 w.toNat ++ r.payload, r.st⟩
      | some e => ⟨some e, [], r.st⟩

/-- Entries put into lane `n` until it is full: how many were accepted (R133). -/
def State.pushEntries (s : State) (n : Nat) : List Byte → Nat → Nat × State
  | _, 0 => (0, s)
  | b, k + 1 =>
    if s.laneFull n then (0, s)
    else let r := (s.laneWrite n (b.take 64)).pushEntries n (b.drop 64) k; (r.1 + 1, r.2)

/-- LANE_PUSH (R131, R133, R142); of a lane that is disabled and not this originator's, LANEDIR comes first (log entry 221). -/
def State.lanePush (s : State) (lead : Bool) (n : Nat) (b : List Byte) : Done :=
  let k := b.length / 64
  if lead && n != 10 then ⟨some (.denied, 0), [], s⟩
  else if !s.flag (F.LANE_CTRL_DIR n) || s.flag (F.LANE_CTRL_LEAD n) != lead then ⟨some (.lanedir, 0), [], s⟩
  else if !s.laneOn n then ⟨some (.lanefull, 0), [], s⟩
  else
    let r := s.pushEntries n b k
    ⟨if r.1 < k then some (.lanefull, r.1) else none, [], r.2⟩

/-- LANE_POP (R131, R133, R142; log entry 221). -/
def State.lanePop (s : State) (n len : Nat) : Done :=
  if s.flag (F.LANE_CTRL_DIR n) then ⟨some (.lanedir, 0), [], s⟩
  else if !s.laneOn n then ⟨none, [], s⟩
  else let r := s.lanePopUpTo n (len / 64); ⟨none, r.1, r.2⟩

/-- The DETAIL of a word refused with code `c` at index `i` (R62). For LANEFULL and LANEDIR at a lane pointer R61 asks for the
index and R62's table for a count of entries or 0: 0 is the model's choice (log entry 217). -/
def detailOf (c : ErrCode) (i : Nat) : Nat := match c with | .lanefull | .lanedir | .auth => 0 | _ => i

/-- WRITE and WRITE_MASK (R60, R61, R74). -/
def State.writeRequest (s : State) (lead auth : Bool) (opc : Byte) (r : Request) : Done :=
  let ws := writeWords opc r
  let bad := ws.findIdx? (fun w => lead && w.1 != R.SYS_TICK_BASE_LO && w.1 != R.SYS_TICK_BASE_HI)
  let x := State.hostWords auth s.parity (match bad with | some i => ws.take i | none => ws) 0 s
  match x.1, bad with
  | some (c, i), _ => ⟨some (c, detailOf c i), [], x.2⟩
  | none, some i => ⟨some (.denied, i), [], x.2⟩
  | none, none => ⟨none, [], x.2⟩

/-- Execution of a request whose checks 1 to 7 passed (R59, R589). A request to registers uses up a fabric transfer that is
given up (R35). -/
def State.execute (s : State) (lead auth : Bool) (opc : Byte) (r : Request) : Done :=
  let early := decide (s.phaseOf < 4)
  let used (d : Done) : Done := { d with st := { d.st with parity := none } }
  match opc.toNat with
  | 0 => ⟨none, [], s⟩
  | 1 => used (s.readWords s.parity ((List.range (r.len.toNat / 4)).map (fun i => r.addr.toNat + 4 * i)) 0)
  | 2 => used (s.writeRequest lead auth opc r)
  | 3 => if early then ⟨some (.denied, 0), [], s⟩ else used (s.writeRequest lead auth opc r)
  | 4 => if early then ⟨some (.denied, 0), [], s⟩ else s.lanePush lead r.addr.toNat r.body
  | 5 => if early then ⟨some (.denied, 0), [], s⟩ else s.lanePop r.addr.toNat r.len.toNat
  | _ =>
    if early then ⟨some (.denied, 0), [], s⟩
    else match s.sessionMsg r.body with
    | (some p, t) => ⟨none, p, t⟩
    | (none, t) => ⟨some (.auth, 0), [], t⟩

/-! ## Replies (R57, R62, R65, R66, R89) -/

/-- The payload of an error reply (R62). -/
def errPayload (c : ErrCode) (detail : Nat) : List Byte := [BitVec.ofNat 8 c.number, 0] ++ leBytes 2 detail

/-- Session `x` has formed an authenticated reply: its counter rises, and the session ends when either counter is used up
(R89). -/
def State.sessionUsed (s : State) (x : Session) : State :=
  match s.sec.session with
  | none => s
  | some y =>
    if y.key = x.key ∧ y.salt = x.salt then
      if x.fcIn = 0xFFFFFFFF ∨ x.fcOut + 1 = 0xFFFFFFFF then s.sessionEnd
      else s.modSec (fun z => { z with session := some { x with fcOut := x.fcOut + 1 } })
    else s

/-- FCNT and TAG of a reply with AUTH = 1 where no session gives a key: the spec states no value (R57; log entry 207). -/
def State.freeTrailer (s : State) : List Byte × State :=
  let a := s.free 32
  let b := a.2.free 64
  let c := b.2.free 64
  (leBytes 4 a.1 ++ leBytes 8 b.1 ++ leBytes 8 c.1, c.2)

/-- A reply goes to request `r`, which arrived at `p`, with the trailer that `trail` forms of its bytes. In ring mode a reply to
the host goes on in the direction of the request, and one to the lead goes back (R73, R75); in SPI mode it waits to be clocked
out (R50). -/
def State.sendReply (s : State) (p : Port) (lead auth : Bool) (opc : Byte) (r : Request) (err dup : Bool) (payload : List Byte)
    (trail : List Byte → List Byte) : State :=
  let plain := replyPlain auth s.myAddr r.org r.seq opc (s.status err dup) payload
  let all := plain ++ trail plain
  let frame := all ++ leBytes 4 (crc32 all).toNat
  if s.spi then s.modLink (fun l => { l with spiReply := l.spiReply ++ [frame] })
  else s.emit (Sent.frame (if lead then p else s.onward p) frame)

/-- A reply, by session `x` where it is authenticated. -/
def State.reply (s : State) (p : Port) (lead : Bool) (x : Option Session) (opc : Byte) (r : Request) (err dup : Bool)
    (payload : List Byte) : State :=
  match x with
  | some y => (s.sessionUsed y).sendReply p lead true opc r err dup payload (fun plain => y.trailer (y.fcOut + 1) plain)
  | none => s.sendReply p lead false opc r err dup payload (fun _ => [])

/-- An error reply. -/
def State.replyErr (s : State) (p : Port) (lead : Bool) (x : Option Session) (opc : Byte) (r : Request) (c : ErrCode)
    (detail : Nat) : State := s.reply p lead (if c = .auth then none else x) opc r true false (errPayload c detail)

/-- The reply to a request whose CRC is bad; its AUTH is the request's, with or without a session (R57, R62). -/
def State.replyCrc (s : State) (p : Port) (lead : Bool) (opc : Byte) (r : Request) : State :=
  if r.auth && s.sec.session.isNone then
    let f := s.freeTrailer
    f.2.sendReply p lead true opc r true false (errPayload .crc 0) (fun _ => f.1)
  else s.replyErr p lead (if r.auth then s.sec.session else none) opc r .crc 0

/-! ## Requests (R64, R67) -/

/-- Authentication is missing (R89, R90, R628, R657, R666, R667, R672). -/
def State.authMissing (s : State) (lead : Bool) (opc : Byte) (r : Request) : Bool :=
  !r.auth && ((!lead && s.flag F.SYS_LINK_AUTHREQ_REQUIRE && opc != 0 && opc != 7) ||
    (writeWords opc r).any (fun w => s.needsAuth w.1 w.2.1 w.2.2))

/-- Check 5 of R64: none where it fails, else the session that authenticated the request, if it carries AUTH. -/
def State.authenticate (s : State) (lead : Bool) (opc : Byte) (r : Request) : Option (Option Session) :=
  if r.auth then
    match s.sec.session with
    | some x => if !lead && x.accepts opc r then some (some { x with fcIn := r.fcnt }) else none
    | none => none
  else if s.authMissing lead opc r then none
  else some none

/-- A code that leaves the sequence as it is (R62). -/
def ErrCode.keepsSeq : ErrCode → Bool | .crc => true | .seq => true | .auth => true | _ => false

/-- Checks 7 and 8, and the reply, of the request that is next in sequence (R64, R67). -/
def State.runRequest (s : State) (p : Port) (lead : Bool) (x : Option Session) (opc : Byte) (r : Request) : State :=
  let d : Done := match shapeCode lead opc r with
    | some c => ⟨some (c, 0), [], s⟩
    | none => s.execute lead x.isSome opc r
  let body := match d.err with | some (c, n) => errPayload c n | none => d.payload
  match d.err with
  | some (c, n) =>
    if c.keepsSeq then d.st.replyErr p lead x opc r c n
    else
      let s := d.st.modSet lead (fun l =>
        { l with exp := (l.exp + 1) % 256, cache := (⟨r.seq.toNat, opc, true, body⟩ :: l.cache).take 4 })
      s.reply p lead x opc r true false body
  | none =>
    let s := d.st.modSet lead (fun l =>
      { l with exp := (l.exp + 1) % 256, cache := (⟨r.seq.toNat, opc, false, body⟩ :: l.cache).take 4 })
    s.reply p lead x opc r false false body

/-- Check 6, the sequence number (R67). -/
def State.sequenced (s : State) (p : Port) (lead : Bool) (x : Option Session) (opc : Byte) (r : Request) : State :=
  let l := s.linkSet lead
  let q := r.seq.toNat
  let back := (l.exp + 256 - q) % 256
  if q = l.exp then s.runRequest p lead x opc r
  else match (if 1 ≤ back ∧ back ≤ 4 then l.cache.find? (fun c => c.seq == q) else none) with
  | some c => s.reply p lead x opc r c.err true c.payload
  | none => s.replyErr p lead x opc r .seq l.exp

/-- A unicast request for this module whose CRC is good and whose originator is accepted: checks 5 to 8 (R64, R70, R89). -/
def State.accepted (s : State) (p : Port) (lead : Bool) (opc : Byte) (r : Request) : State :=
  if 4 ≤ r.waiting then (s.count F.SYS_LINK_OVF 1).raise 26
  else match s.authenticate lead opc r with
  | none => s.authFail.replyErr p lead none opc r .auth 0
  | some none => s.sequenced p lead none opc r
  | some (some x) =>
    let s := (s.modSec (fun y => { y with session := some x })).sequenced p lead (some x) opc r
    let same := match s.sec.session with | some y => y.key == x.key && y.salt == x.salt | none => false
    if same && x.fcIn == 0xFFFFFFFF then s.sessionEnd else s

/-- A unicast request addressed to this module whose HCRC is good (R64, R74). The CRC is judged before the opcode, a reserved one
included (log entry 223). An ERR CRC reply to an originator that is not accepted goes on as one to the host does (log entry 226). -/
def State.unicast (s : State) (p : Port) (opc : Byte) (r : Request) : State :=
  let who := s.origin r
  if !crcGood opc r then (s.count F.SYS_LINK_CRCERR 1).replyCrc p (who == .lead) opc r
  else match who with
  | .host => s.accepted p false opc r
  | .lead => s.accepted p true opc r
  | .self | .other => s.orgErr

/-! ## Broadcasts (R71, R72, R74, R85, R90) -/

/-- A broadcast is not executed, and counted (R72). -/
def State.bcastErr (s : State) : State := s.count F.SYS_LINK_BERR 1

/-- A broadcast WRITE or WRITE_MASK of an accepted originator (R72). One that start-up refuses with DENIED is refused in its
execution, as at a word (log entry 220). -/
def State.bcastRun (s : State) (lead : Bool) (opc : Byte) (r : Request) : State :=
  let l := s.linkSet lead
  if r.auth || (!lead && s.flag F.SYS_LINK_AUTHREQ_REQUIRE) || (writeWords opc r).any (fun w => s.needsAuth w.1 w.2.1 w.2.2) then
    s.bcastErr
  else if l.bmem.contains r.seq.toNat then s
  else if !(opc == 2 || opc == 3) || (shapeCode lead opc r).isSome then s.bcastErr
  else
    let d := s.execute lead false opc r
    let s := d.st.modSet lead (fun l => { l with bmem := (r.seq.toNat :: l.bmem).take 4 })
    let s := if lead then s else (s.put F.SYS_LINK_BSEQ_VALID 1).put F.SYS_LINK_BSEQ_SEQ r.seq.toNat
    if d.err.isSome then s.bcastErr else s

/-- A broadcast other than ENUM, whose HCRC is good (R71, R72, R74, R85): forwarded, and executed by a module that has an
address; one without neither checks nor counts it (log entry 219). The lead discards its own. -/
def State.broadcast (s : State) (p : Port) (opc : Byte) (r : Request) : State :=
  let who := s.origin r
  if who = .self then s
  else
    let s := if s.spi then s else s.passOn p (r.frame opc)
    if !s.hasAddr then s
    else if !crcGood opc r then (s.count F.SYS_LINK_CRCERR 1).bcastErr
    else match who with
    | .host => s.bcastRun false opc r
    | .lead => s.bcastRun true opc r
    | .self | .other => s.orgErr.bcastErr

/-- The frame of an ENUM with another payload: its CRC is formed anew. -/
def enumFrame (r : Request) (next pos : Nat) : List Byte :=
  let r := { r with body := [BitVec.ofNat 8 next, BitVec.ofNat 8 pos] }
  let r := { r with crc := crc32 (r.plainBytes 6 ++ r.trailer) }
  r.frame 6

/-- An ENUM that passes (R54, R590). It knows neither sequence numbers nor REQUIRE (R90). -/
def State.enumerate (s : State) (p : Port) (r : Request) : State :=
  let host := s.origin r == .host
  if s.spi then s
  else if !crcGood 6 r || !host || r.auth || r.len != 2 then
    let s := s.passOn p (r.frame 6)
    let s := if !crcGood 6 r then s.count F.SYS_LINK_CRCERR 1 else if !host && s.origin r != .lead then s.orgErr else s
    if s.hasAddr then s.bcastErr else s
  else
    let next := (r.body.getD 0 0).toNat
    let pos := (r.body.getD 1 0).toNat
    let s := s.put F.SYS_LINK_MODE_POS pos
    let wants := s.flag F.SYS_LINK_MODE_ENUMMODE && !s.hasAddr
    if wants && decide (next ≤ 63) then
      let s := (s.put F.SYS_LINK_MODE_ADDR next).put F.SYS_LINK_MODE_VALID 1
      s.passOn p (enumFrame r (next + 1) (pos + 1))
    else (s.raiseIf wants 19).passOn p (enumFrame r next (pos + 1))

/-! ## Arrival (R63, R64, R73) -/

/-- A request of this lead that has come back unconsumed (R75, R350). -/
def State.leadReturned (s : State) (a : Nat) : State := s.orgErr.pushAnswer a false

/-- A frame that is not for this module goes on (R73); a request whose CRC is bad is counted (R64; log entry 203). -/
def State.transit (s : State) (p : Port) (opc : Byte) (r : Request) : State :=
  let s := if !r.rpl && !crcGood opc r then s.count F.SYS_LINK_CRCERR 1 else s
  if s.spi then s
  else if s.origin r == .self then (if r.rpl then s else s.leadReturned (r.dev.toNat % 64))
  else s.passOn p (r.frame opc)

/-- A frame with opcode `opc` has arrived at port `p`, or in SPI mode (R63, R64). A broadcast that fails the first check is
counted as every broadcast that fails one (R72; log entry 204). -/
def State.received (s : State) (p : Port) (opc : Byte) (r : Request) : State :=
  if hcrc (r.headBytes opc) ≠ r.hcrc then
    let s := s.count F.SYS_LINK_HDRERR 1
    if r.bcast && !r.rpl && s.hasAddr then s.bcastErr else s
  else if r.rpl then s.transit p opc r
  else if r.bcast then (if opc = 6 then s.enumerate p r else s.broadcast p opc r)
  else if s.spi || (s.hasAddr && r.dev.toNat % 64 == s.myAddr) then s.unicast p opc r
  else s.transit p opc r

/-- A frame arrives at a ring port; in SPI mode the ring pins are inactive (R49). -/
def State.arrive (s : State) (p : Port) (opc : Byte) (r : Request) : State :=
  if s.linkUp && !s.spi then s.received p opc r else s

/-- What `t` has sent since `s` with the frame `x` replaced by the bytes `y`. -/
def State.sentAs (s t : State) (x y : List Byte) : State :=
  let swap (z : Sent) : Sent := match z with | .frame p b => .frame p (if b = x then y else b) | _ => z
  t.modLink (fun l => { l with sent := l.sent.take s.link.sent.length ++ (l.sent.drop s.link.sent.length).map swap })

/-- The bytes of a frame arrive: too short for a header they are discarded as a bad one, too short for a CRC the CRC is
bad (R62, R63). A short frame that goes on goes on as it came (R73). -/
def State.arriveBytes (s : State) (p : Port) (b : List Byte) : State :=
  match parseFrame b 0 with
  | some (opc, r) => s.arrive p opc r
  | none =>
    if !s.linkUp || s.spi then s
    else match (if b.length < 12 then none else parseFrame (b ++ List.replicate (16 - b.length) 0) 0) with
    | none => s.count F.SYS_LINK_HDRERR 1
    | some (opc, r) =>
      let r := { r with crc := ~~~ crc32 (r.plainBytes opc ++ r.trailer) }
      s.sentAs (s.received p opc r) (r.frame opc) b

/-- STATUS (R64, R67). -/
def execStatus (p : Port) (r : Request) (s : State) : Answer := .next (s.arrive p 0x00 r)

/-- READ (R61, R64). -/
def execRead (p : Port) (r : Request) (s : State) : Answer := .next (s.arrive p 0x01 r)

/-- WRITE (R61, R64). -/
def execWrite (p : Port) (r : Request) (s : State) : Answer := .next (s.arrive p 0x02 r)

/-- WRITE_MASK (R60, R64). -/
def execWriteMask (p : Port) (r : Request) (s : State) : Answer := .next (s.arrive p 0x03 r)

/-- LANE_PUSH (R64, R133). -/
def execLanePush (p : Port) (r : Request) (s : State) : Answer := .next (s.arrive p 0x04 r)

/-- LANE_POP (R64, R133). -/
def execLanePop (p : Port) (r : Request) (s : State) : Answer := .next (s.arrive p 0x05 r)

/-- ENUM (R54). -/
def execEnum (p : Port) (r : Request) (s : State) : Answer := .next (s.arrive p 0x06 r)

/-- SESSION_HELLO (R660, R662). -/
def execSessionHello (p : Port) (r : Request) (s : State) : Answer := .next (s.arrive p 0x07 r)

/-- SESSION_FINISH (R661, R662). -/
def execSessionFinish (p : Port) (r : Request) (s : State) : Answer := .next (s.arrive p 0x07 r)

/-- SESSION_END (R663). -/
def execSessionEnd (p : Port) (r : Request) (s : State) : Answer := .next (s.arrive p 0x07 r)

/-- BROADCAST_REQUEST (R71, R72). -/
def execBroadcastRequest (p : Port) (mask : Bool) (r : Request) (s : State) : Answer :=
  .next (s.arrive p (if mask then 0x03 else 0x02) r)

/-- FORWARD_FRAME (R73, R79). -/
def execForwardFrame (p : Port) (bytes : List Byte) (s : State) : Answer := .next (s.arriveBytes p bytes)

/-! ## SPI mode (R49, R50) -/

/-- How many bytes the frame that begins with `b` has; a reserved opcode takes all that were clocked. -/
def spiLength (b : List Byte) : Nat :=
  match parseFrame (b.take 12 ++ List.replicate 24 0) 0 with
  | none => 16
  | some (opc, r) => match bodyLen opc r with | some n => 16 + n + 20 * bit r.auth | none => max 16 b.length

/-- The request of a transaction whose bytes after the start byte are `b` (R50). -/
def State.spiRequest (s : State) (b : List Byte) (waiting : Nat) : State :=
  let head := b.length < 12
  let n := spiLength b
  if head || b.length < n then
    match (if head then none else parseFrame (b ++ List.replicate 36 0) 0) with
    | none => s.count F.SYS_LINK_CRCERR 1
    | some (opc, r) =>
      (s.count (if hcrc (r.headBytes opc) != r.hcrc then F.SYS_LINK_HDRERR else F.SYS_LINK_CRCERR) 1).when
        (r.bcast && !r.rpl && s.hasAddr) State.bcastErr
  else match parseFrame (b.take n) waiting with
  | some (opc, r) => s.received .inp opc r
  | none => s.count F.SYS_LINK_HDRERR 1

/-- The reply that a transaction of `n` bytes clocks out, of those that wait when it begins (R50, log entry 52). -/
def State.spiOut (s : State) (n : Nat) : State :=
  match s.link.spiReply with
  | [] => s
  | f :: t =>
    let s := s.emit (Sent.spi ((0x5A :: f).take n))
    if f.length < n then s.modLink (fun l => { l with spiReply := t }) else s

/-- SPI_TRANSACTION (R50): there is none while VIO is lost (R604). -/
def execSpiTransaction (mosi : List Byte) (waiting : Nat) (s : State) : Answer :=
  .next (if !s.spi || !s.linkUp || !s.flag F.PWR_STAT_VIO_OK then s
    else
      let s := s.spiOut mosi.length
      match mosi.dropWhile (fun b => b == 0) with
      | [] => s
      | b :: t => if b = 0x5A then s.spiRequest t waiting else s.count F.SYS_LINK_HDRERR 1)

/-! ## Ports (R78 to R81) -/

def portState (p : Port) : Fld := match p with | .inp => F.SYS_LINK_STATE_INST | .out => F.SYS_LINK_STATE_OUTST
def portDelay (p : Port) : Fld := match p with | .inp => F.SYS_LINK_DLY_IN | .out => F.SYS_LINK_DLY_OUT
def portWrap (p : Port) : Fld := match p with | .inp => F.SYS_LINK_STATE_WRAPIN | .out => F.SYS_LINK_STATE_WRAPOUT

/-- The ring ports work (R49, R597). -/
def State.ringUp (s : State) : Bool := s.linkUp && !s.spi

/-- The delay of the link at port `p` is measured: the port sends a PROBE with a count byte, echoes the neighbour's, and L is
what it has measured (R52, R78). The count byte is a free value: the spec does not state it (log entry 5). -/
def State.probe (s : State) (p : Port) (l : LinkProbe) : State :=
  let x := s.free 8
  let s := (x.2.emit (Sent.probe p (BitVec.ofNat 8 x.1))).each l.heard (fun s b => s.emit (Sent.probe p b))
  s.put (portDelay p) l.delay.toNat

/-- PORT_LOSE_LOCK (R78). -/
def execPortLoseLock (p : Port) (s : State) : Answer :=
  .next (if s.ringUp && s.get (portState p) == 2 then
      let s := (s.put (portState p) 1).count F.SYS_LINK_RETRAIN 1
      (s.modLink (fun l => { l with lostAt := l.lostAt ++ [(p, s.clk)] })).emit (Sent.train p)
    else s)

/-- RETRAIN_DONE (R78): the port returns to service with its link delay. The first training after a reset ends so too. -/
def execRetrainDone (p : Port) (l : LinkProbe) (s : State) : Answer :=
  .next (if s.ringUp && !s.link.wasDown.contains p && s.get (portState p) != 2 then
      ((s.probe p l).put (portState p) 2).modLink (fun x => { x with lostAt := x.lostAt.filter (fun e => e.1 != p) })
    else s)

/-- PORT_DOWN (R79). -/
def execPortDown (p : Port) (s : State) : Answer :=
  .next (match s.link.lostAt.find? (fun e => e.1 == p) with
    | some e =>
      if s.passed e.2 msec then
        let s := ((s.put (portState p) 0).put (portWrap p) 1).raise 20
        s.modLink (fun x => { x with lostAt := x.lostAt.filter (fun e => e.1 != p), wasDown := p :: x.wasDown })
      else s
    | none => s)

/-- PORT_UP (R81). -/
def execPortUp (p : Port) (l : LinkProbe) (s : State) : Answer :=
  .next (if s.ringUp && s.link.wasDown.contains p then
      let s := (((s.probe p l).put (portState p) 2).put (portWrap p) 0).raise 21
      s.modLink (fun x => { x with wasDown := x.wasDown.filter (fun q => q != p) })
    else s)

/-! ## The lead and TICK (R75, R82 to R86) -/

/-- LEAD_REQUEST_RETURN (R75): there is no lead-originated traffic in SPI mode (R49). -/
def execLeadRequestReturn (sat : Fin 64) (s : State) : Answer := .next (if s.isLead && s.ringUp then s.leadReturned sat.val else s)

/-- SYS_TICK_BASE shows the time tag of a tick with count 0; a low word that waits for its high word stays (R91). -/
def State.tickBaseShow (s : State) (base : Nat) : State :=
  (if s.link.loWait then s else s.setNat R.SYS_TICK_BASE_LO base).setNat R.SYS_TICK_BASE_HI (base / 2 ^ 32)

/-- TICK_SEND (R82, R85, R91): at a tick boundary the lead sends TICK on both ports, a port that is down included (log entry
224); it pauses while the time base holds (R223). -/
def execTickSend (d : BitVec 16) (s : State) : Answer :=
  .next (if s.isLead && s.ringUp && s.now % tickLen == 0 && !s.flag F.NAV_TIME_STAT_HOLD then
      let c := s.now / tickLen % 256
      let s := (s.emit (Sent.tick .out c d.toNat)).emit (Sent.tick .inp c d.toNat)
      let s := s.put F.SYS_LINK_STATE_TICKOK 1
      if c = 0 then (s.tickBaseShow s.now).modLink (fun l => { l with tickTag := s.now }) else s
    else s)

/-- TICK_BASE_BROADCAST (R85): the time tag of the last tick with count 0, written on every satellite in both directions,
out of a port that is down too (log entry 224). -/
def execTickBaseBroadcast (s : State) : Answer :=
  .next (if s.isLead && s.ringUp then
      let r : Request :=
        { flags := 0x40, dev := 0, org := BitVec.ofNat 8 s.myAddr, seq := BitVec.ofNat 8 s.link.bcastSeq, hcrc := 0, len := 8
          addr := BitVec.ofNat 32 R.SYS_TICK_BASE_LO, body := leBytes 8 s.link.tickTag, trailer := [], crc := 0, waiting := 0 }
      let r := { r with hcrc := hcrc (r.headBytes 2) }
      let r := { r with crc := crc32 (r.plainBytes 2) }
      let s := (s.emit (Sent.frame .out (r.frame 2))).emit (Sent.frame .inp (r.frame 2))
      s.modLink (fun l => { l with bcastSeq := (l.bcastSeq + 1) % 256 })
    else s)

/-- A satellite takes a TICK with count `c` that was sent `ns` before its arrival (R83, R85, R86). -/
def State.tickTake (s : State) (c ns : Nat) : State :=
  let old := s.get F.SYS_LINK_STATE_TICKCNT
  let first := !s.link.ticked
  let follows := first || c == (old + 1) % 256
  let zero := c == 0 || (!first && decide (c < old))
  let base := if zero then s.link.tickTag + 256 * tickLen else s.link.tickTag
  let run := if first || !follows then 1 else min (s.link.tickRun + 1) 8
  let s := (s.raiseIf (!follows) 24).put F.SYS_LINK_STATE_TICKCNT c
  let s := s.modLink (fun l => { l with tickRun := run, tickAt := s.clk, tickTag := base % 2 ^ 64, ticked := true })
  let s := if zero then s.tickBaseShow (base % 2 ^ 64) else s
  let late := (divOpen 83 (ns * usec : Int) 1000).toNat
  { s with tag := (base + c * tickLen + late) % 2 ^ 64 }.tickRegain

/-- TICK_RECEIVE (R83): every module forwards it in its direction, unless the port there is down (R86), and a satellite aligns
its tick boundary. -/
def execTickReceive (p : Port) (c : Byte) (d : BitVec 16) (s : State) : Answer :=
  .next (if !s.ringUp then s
    else
      let l := s.get (portDelay p)
      let s := if s.wrapped (otherPort p) then s
        else s.emit (Sent.tick (otherPort p) c.toNat ((d.toNat + l + s.nat R.SYS_LINK_FWD % 65536) % 65536))
      if s.isSat then s.tickTake c.toNat (d.toNat + l) else s)

/-- A command of the lead (R347). -/
def OutCmd.fromLead (c : OutCmd) : Bool := match c.src with | .lead _ => true | _ => false

/-- The commands of the lead that have not started are discarded (R10, R347). -/
def State.leadDiscard (s : State) : State :=
  let keep (q : List OutCmd) : List OutCmd := q.filter (fun c => !c.fromLead)
  let s := { s with sol := Table.mapAll (fun c : SolCh => { c with queue := keep c.queue }) s.sol
                    hsw := Table.mapAll (fun c : HswCh => { c with queue := keep c.queue }) s.hsw }
  s.modStr (fun x => { x with solWire := keep x.solWire, hswWire := keep x.hswWire })

/-- An output that a LANE10 ON left on, by 128 × KIND + INST, goes off and is reported with 0x07 (R347, R348). A profile that
runs goes on to the end of PEAK, as at any OFF instant (R387). -/
def State.leadOff (s : State) (k : Nat) : State :=
  let n := k % 128
  if k < 128 then
    let ph := s.phase n
    if (1 ≤ ph ∧ ph ≤ 5) ∨ (s.sol.get n).train then
      let s := s.solOff n
      let s := if 1 ≤ ph ∧ ph ≤ 4 then s.modSol n (fun c => { c with offPend := true }) else s
      s.satReport 1 n 7 (s.satStart 1 n) (s.satStart 1 n)
    else s
  else if s.hswOnState n then
    ((s.hswTurnOffAny n).hswUncommand n).satReport 2 n 7 (s.satStart 2 n) (s.satStart 2 n)
  else s

/-- Time-tagged commands stop (R10, R86, R347). -/
def State.leadStop (s : State) : State :=
  let on := s.str.satOn.map (·.1)
  (s.leadDiscard.each on State.leadOff).modStr (fun x => { x with satOn := [] })

/-- TICK_LOST (R86). -/
def execTickLost (s : State) : Answer :=
  .next (if s.isSat && !s.link.tickLost && s.passed s.link.tickAt msec then
      let s := (s.modLink (fun l => { l with tickLost := true, tickRun := 0, baseOk := false })).put F.SYS_LINK_STATE_TICKOK 0
      (s.raise 22).leadStop
    else s)

end Sys2Proof.Machine
end

