-- ==== Sys2Proof/Machine/Advance.lean ====
section
/-! DEFINITION. What happens while no command waits: one count of 1/16 µs passes (log entry 10). -/

namespace Sys2Proof.Machine

open Sys2Proof

/-- By how much the time tag advances in a step of time: not while the time base holds (R222, R223), else by one once the time
base is a whole count ahead of it (R199, R220, R222). -/
def State.tagStep (s : State) : Nat := if s.flag F.NAV_TIME_STAT_HOLD then 0 else bit (decide (countUnit ≤ s.phaseNext))

/-- What the time base is ahead of the tag, and what is left to steer or slew out, after this step; both stand still in a
hold. -/
def State.timeStep (s : State) : NavState :=
  if s.flag F.NAV_TIME_STAT_HOLD then s.nav
  else { s.nav with phase := s.phaseNext - s.tagStep * countUnit
                    corr := if s.tagBehind then s.nav.corr else s.nav.corr - s.steer }

/-- The operating hours count whole seconds with power (R606). -/
def State.hoursStep (s : State) : State :=
  if s.powered then
    if second ≤ s.pwr.frac + 1 then
      (s.modPwr (fun p => { p with frac := 0 })).setNat R.PWR_HOURS (s.nat R.PWR_HOURS + 1)
    else s.modPwr (fun p => { p with frac := p.frac + 1 })
  else s

/-- Work that goes on by itself: a SOFT_RESET that waited is carried out (R106), a time step or hold ends a capture (R515), the recorder sees what occurred (R617, R619), drains send their next
entry (R183, R624, R628), and loop values that have arrived are applied at their instant (R465, R466). -/
def State.background (s : State) : State :=
  let s := (s.when (!s.cfg.resets.isEmpty) State.resetPoll).capPoll.recTake false
  let s := s.when (!s.gnss.drain.isEmpty && (s.lanes.get 8).held.isEmpty) State.drainNext
  let s := s.when s.recd.drain.isSome State.logDrainPump
  s.when (!s.ctl.held.isEmpty) State.destFlush

/-- Time passes: a tag that the time base has reached and not shown yet comes, or else a count of the clock. -/
def State.advance (s : State) : State :=
  if s.tagBehind then { s with tag := s.tag + s.tagStep, nav := s.timeStep }
  else
    let s := s.background.hoursStep
    { s with tag := s.tag + s.tagStep, clk := s.clk + 1, nav := s.timeStep }

end Sys2Proof.Machine
end

