-- ==== Sys2Proof/Machine/Dispatch.lean ====
section
/-! DEFINITION. The meaning of every command, by name: one arm per constructor of Instr. -/

namespace Sys2Proof.Machine

open Sys2Proof

def exec (i : Instr) (s : State) : Host.Outcome State Fault Refusal :=
  match i with
  | .status p r => Sys2Proof.Machine.execStatus p r s
  | .read p r => Sys2Proof.Machine.execRead p r s
  | .write p r => Sys2Proof.Machine.execWrite p r s
  | .writeMask p r => Sys2Proof.Machine.execWriteMask p r s
  | .lanePush p r => Sys2Proof.Machine.execLanePush p r s
  | .lanePop p r => Sys2Proof.Machine.execLanePop p r s
  | .enum p r => Sys2Proof.Machine.execEnum p r s
  | .sessionHello p r => Sys2Proof.Machine.execSessionHello p r s
  | .sessionFinish p r => Sys2Proof.Machine.execSessionFinish p r s
  | .sessionEnd p r => Sys2Proof.Machine.execSessionEnd p r s
  | .helloExpiry => Sys2Proof.Machine.execHelloExpiry s
  | .broadcastRequest p mask r => Sys2Proof.Machine.execBroadcastRequest p mask r s
  | .forwardFrame p bytes => Sys2Proof.Machine.execForwardFrame p bytes s
  | .spiTransaction mosi waiting => Sys2Proof.Machine.execSpiTransaction mosi waiting s
  | .portLoseLock p => Sys2Proof.Machine.execPortLoseLock p s
  | .retrainDone p l => Sys2Proof.Machine.execRetrainDone p l s
  | .portDown p => Sys2Proof.Machine.execPortDown p s
  | .portUp p l => Sys2Proof.Machine.execPortUp p l s
  | .leadRequestReturn sat => Sys2Proof.Machine.execLeadRequestReturn sat s
  | .tickSend d => Sys2Proof.Machine.execTickSend d s
  | .tickReceive p c d => Sys2Proof.Machine.execTickReceive p c d s
  | .tickLost => Sys2Proof.Machine.execTickLost s
  | .tickBaseBroadcast => Sys2Proof.Machine.execTickBaseBroadcast s
  | .sysTickBaseWrite hi => Sys2Proof.Machine.execSysTickBaseWrite hi s
  | .registerWrite auth addr value => Sys2Proof.Machine.execRegisterWrite auth addr value s
  | .blkEnableClear b => Sys2Proof.Machine.execBlkEnableClear b s
  | .blkEnableSet b => Sys2Proof.Machine.execBlkEnableSet b s
  | .blkSoftReset b => Sys2Proof.Machine.execBlkSoftReset b s
  | .blkShadowSet b => Sys2Proof.Machine.execBlkShadowSet b s
  | .blkShadowClear b => Sys2Proof.Machine.execBlkShadowClear b s
  | .blkLockSet b => Sys2Proof.Machine.execBlkLockSet b s
  | .eventClear b hi mask => Sys2Proof.Machine.execEventClear b hi mask s
  | .courseRequest slot => Sys2Proof.Machine.execCourseRequest slot s
  | .courseTake b => Sys2Proof.Machine.execCourseTake b s
  | .crsTmo => Sys2Proof.Machine.execCrsTmo s
  | .imgErase => Sys2Proof.Machine.execImgErase s
  | .imgProgram => Sys2Proof.Machine.execImgProgram s
  | .imgVerify => Sys2Proof.Machine.execImgVerify s
  | .loadCourse slot => Sys2Proof.Machine.execLoadCourse slot s
  | .imgCmdComplete flashOk => Sys2Proof.Machine.execImgCmdComplete flashOk s
  | .laneHeadWrite lane value => Sys2Proof.Machine.execLaneHeadWrite lane value s
  | .laneTailWrite lane value => Sys2Proof.Machine.execLaneTailWrite lane value s
  | .laneCtrlWrite lane value => Sys2Proof.Machine.execLaneCtrlWrite lane value s
  | .producerResume lane => Sys2Proof.Machine.execProducerResume lane s
  | .bulkEntry => Sys2Proof.Machine.execBulkEntry s
  | .biasSample maA maB => Sys2Proof.Machine.execBiasSample maA maB s
  | .antHwLimit a => Sys2Proof.Machine.execAntHwLimit a s
  | .antRetest a ma => Sys2Proof.Machine.execAntRetest a ma s
  | .vantFlt mv => Sys2Proof.Machine.execVantFlt mv s
  | .vantRestore mv => Sys2Proof.Machine.execVantRestore mv s
  | .agcUpdate g0 g1 g2 g3 => Sys2Proof.Machine.execAgcUpdate g0 g1 g2 g3 s
  | .correlatorDump sub vis obs => Sys2Proof.Machine.execCorrelatorDump sub vis obs s
  | .lockAssessment obs => Sys2Proof.Machine.execLockAssessment obs s
  | .pullinTimeout ch => Sys2Proof.Machine.execPullinTimeout ch s
  | .recoverTimeout ch => Sys2Proof.Machine.execRecoverTimeout ch s
  | .gnssChModeWrite ch sig value => Sys2Proof.Machine.execGnssChModeWrite ch sig value s
  | .snapGo value => Sys2Proof.Machine.execSnapGo value s
  | .snapStartAtTag sub => Sys2Proof.Machine.execSnapStartAtTag sub s
  | .snapCaptureEnd pages t0 sub data => Sys2Proof.Machine.execSnapCaptureEnd pages t0 sub data s
  | .snapDrain => Sys2Proof.Machine.execSnapDrain s
  | .snapProcess => Sys2Proof.Machine.execSnapProcess s
  | .snapProcessDone found => Sys2Proof.Machine.execSnapProcessDone found s
  | .snapCancel => Sys2Proof.Machine.execSnapCancel s
  | .measurementEpoch meas => Sys2Proof.Machine.execMeasurementEpoch meas s
  | .positionSolution sol => Sys2Proof.Machine.execPositionSolution sol s
  | .timeSlewEnd => Sys2Proof.Machine.execTimeSlewEnd s
  | .timeHoldEnd => Sys2Proof.Machine.execTimeHoldEnd s
  | .rtcmEntry => Sys2Proof.Machine.execRtcmEntry s
  | .poseUpdate roll pitch yaw => Sys2Proof.Machine.execPoseUpdate roll pitch yaw s
  | .imuSample raw => Sys2Proof.Machine.execImuSample raw s
  | .imuLost => Sys2Proof.Machine.execImuLost s
  | .timePulse p => Sys2Proof.Machine.execTimePulse p s
  | .holdover func => Sys2Proof.Machine.execHoldover func s
  | .holdoverUncUpdate moved => Sys2Proof.Machine.execHoldoverUncUpdate moved s
  | .encEdge n a b => Sys2Proof.Machine.execEncEdge n a b s
  | .encWindowEnd n => Sys2Proof.Machine.execEncWindowEnd n s
  | .encStandstill n => Sys2Proof.Machine.execEncStandstill n s
  | .encWire n lines => Sys2Proof.Machine.execEncWire n lines s
  | .encLineGood n => Sys2Proof.Machine.execEncLineGood n s
  | .encPosWrite n value => Sys2Proof.Machine.execEncPosWrite n value s
  | .encZEdge n => Sys2Proof.Machine.execEncZEdge n s
  | .encZArm n value => Sys2Proof.Machine.execEncZArm n value s
  | .cmpArm n k value => Sys2Proof.Machine.execCmpArm n k value s
  | .ssiRead n => Sys2Proof.Machine.execSsiRead n s
  | .ssiFrameDone n low data again => Sys2Proof.Machine.execSsiFrameDone n low data again s
  | .emuUpdate => Sys2Proof.Machine.execEmuUpdate s
  | .ainFrame xs high => Sys2Proof.Machine.execAinFrame xs high s
  | .ainShuntRetest n high => Sys2Proof.Machine.execAinShuntRetest n high s
  | .speedFusion => Sys2Proof.Machine.execSpeedFusion s
  | .geometryUpdate => Sys2Proof.Machine.execGeometryUpdate s
  | .tileLoadEntry => Sys2Proof.Machine.execTileLoadEntry s
  | .mapFlush => Sys2Proof.Machine.execMapFlush s
  | .mapEvictAll => Sys2Proof.Machine.execMapEvictAll s
  | .fenceCommit => Sys2Proof.Machine.execFenceCommit s
  | .fenceRasterDone => Sys2Proof.Machine.execFenceRasterDone s
  | .mapHostAccess addr write mask value => Sys2Proof.Machine.execMapHostAccess addr write mask value s
  | .confirmWaitExpiry p => Sys2Proof.Machine.execConfirmWaitExpiry p s
  | .chunkClose => Sys2Proof.Machine.execChunkClose s
  | .chunkSigned => Sys2Proof.Machine.execChunkSigned s
  | .strideTick => Sys2Proof.Machine.execStrideTick s
  | .leadPushReply a ok => Sys2Proof.Machine.execLeadPushReply a ok s
  | .satOffRetry a => Sys2Proof.Machine.execSatOffRetry a s
  | .satCommandEntry => Sys2Proof.Machine.execSatCommandEntry s
  | .satReportEntry => Sys2Proof.Machine.execSatReportEntry s
  | .wmRebuildEnd => Sys2Proof.Machine.execWmRebuildEnd s
  | .dieLinkFrame d => Sys2Proof.Machine.execDieLinkFrame d s
  | .dieLinkTimeout d => Sys2Proof.Machine.execDieLinkTimeout d s
  | .solCommandArrive => Sys2Proof.Machine.execSolCommandArrive s
  | .solCommandStart n => Sys2Proof.Machine.execSolCommandStart n s
  | .solChOn n => Sys2Proof.Machine.execSolChOn n s
  | .solChOff n => Sys2Proof.Machine.execSolChOff n s
  | .boostEnd n reached x_i => Sys2Proof.Machine.execBoostEnd n reached x_i s
  | .boostDeferExpiry n => Sys2Proof.Machine.execBoostDeferExpiry n s
  | .noboostEnd n reached x_i => Sys2Proof.Machine.execNoboostEnd n reached x_i s
  | .peakEnd n => Sys2Proof.Machine.execPeakEnd n s
  | .decayEnd n => Sys2Proof.Machine.execDecayEnd n s
  | .holdOpenLoad n => Sys2Proof.Machine.execHoldOpenLoad n s
  | .pwmCycleStart n => Sys2Proof.Machine.execPwmCycleStart n s
  | .pwmOffInstant n => Sys2Proof.Machine.execPwmOffInstant n s
  | .dutySubwindowEnd n on i2t => Sys2Proof.Machine.execDutySubwindowEnd n on i2t s
  | .solShort n => Sys2Proof.Machine.execSolShort n s
  | .solFltClear n mask => Sys2Proof.Machine.execSolFltClear n mask s
  | .dieTjSample d t => Sys2Proof.Machine.execDieTjSample d t s
  | .boostOv d => Sys2Proof.Machine.execBoostOv d s
  | .boostOvEnd d => Sys2Proof.Machine.execBoostOvEnd d s
  | .boostUv d => Sys2Proof.Machine.execBoostUv d s
  | .boostUvEnd d => Sys2Proof.Machine.execBoostUvEnd d s
  | .bankOvercurrent b => Sys2Proof.Machine.execBankOvercurrent b s
  | .bankUv b => Sys2Proof.Machine.execBankUv b s
  | .bankUvEnd b => Sys2Proof.Machine.execBankUvEnd b s
  | .bankClr b => Sys2Proof.Machine.execBankClr b s
  | .chopperCalibration n => Sys2Proof.Machine.execChopperCalibration n s
  | .calibrationDone u ok sense => Sys2Proof.Machine.execCalibrationDone u ok sense s
  | .armOpenSignature n t => Sys2Proof.Machine.execArmOpenSignature n t s
  | .armCloseSignature n t => Sys2Proof.Machine.execArmCloseSignature n t s
  | .armWindowClose n closing => Sys2Proof.Machine.execArmWindowClose n closing s
  | .armLatUpdate holds => Sys2Proof.Machine.execArmLatUpdate holds s
  | .armChClr n => Sys2Proof.Machine.execArmChClr n s
  | .boostAdaptPeriod d => Sys2Proof.Machine.execBoostAdaptPeriod d s
  | .eotDetect k t => Sys2Proof.Machine.execEotDetect k t s
  | .eotMiss k => Sys2Proof.Machine.execEotMiss k s
  | .hswCommandArrive => Sys2Proof.Machine.execHswCommandArrive s
  | .hswCommandStart k e => Sys2Proof.Machine.execHswCommandStart k e s
  | .hswChOn k => Sys2Proof.Machine.execHswChOn k s
  | .hswChOff k => Sys2Proof.Machine.execHswChOff k s
  | .inrushEnd k atLimit e => Sys2Proof.Machine.execInrushEnd k atLimit e s
  | .limitTimeout k e => Sys2Proof.Machine.execLimitTimeout k e s
  | .hswShort k e => Sys2Proof.Machine.execHswShort k e s
  | .hswOpenLoad k => Sys2Proof.Machine.execHswOpenLoad k s
  | .hswOpenLoadEnd k => Sys2Proof.Machine.execHswOpenLoadEnd k s
  | .hswOvertemp k t e => Sys2Proof.Machine.execHswOvertemp k t e s
  | .hswOvertempEnd k t => Sys2Proof.Machine.execHswOvertempEnd k t s
  | .hswFltClear k mask => Sys2Proof.Machine.execHswFltClear k mask s
  | .vhsDipStart g v => Sys2Proof.Machine.execVhsDipStart g v s
  | .vhsDipEnd g v => Sys2Proof.Machine.execVhsDipEnd g v s
  | .vhsDip g => Sys2Proof.Machine.execVhsDip g s
  | .pgenPeriodStart p => Sys2Proof.Machine.execPgenPeriodStart p s
  | .pulseEdge k on e => Sys2Proof.Machine.execPulseEdge k on e s
  | .limpOn => Sys2Proof.Machine.execLimpOn s
  | .limpOff => Sys2Proof.Machine.execLimpOff s
  | .lhInputChange levels => Sys2Proof.Machine.execLhInputChange levels s
  | .limpTableCheck okA okB => Sys2Proof.Machine.execLimpTableCheck okA okB s
  | .limpTableSync => Sys2Proof.Machine.execLimpTableSync s
  | .holdOverExpiry => Sys2Proof.Machine.execHoldOverExpiry s
  | .loopSample => Sys2Proof.Machine.execLoopSample s
  | .loopValueArrive => Sys2Proof.Machine.execLoopValueArrive s
  | .loopClose n => Sys2Proof.Machine.execLoopClose n s
  | .loopOpen n => Sys2Proof.Machine.execLoopOpen n s
  | .loopRelease n => Sys2Proof.Machine.execLoopRelease n s
  | .pacerUpdate p => Sys2Proof.Machine.execPacerUpdate p s
  | .paceGo p => Sys2Proof.Machine.execPaceGo p s
  | .paceStop p => Sys2Proof.Machine.execPaceStop p s
  | .paceJump p => Sys2Proof.Machine.execPaceJump p s
  | .lapReset j value => Sys2Proof.Machine.execLapReset j value s
  | .lapTableWrite j m value => Sys2Proof.Machine.execLapTableWrite j m value s
  | .injStart q => Sys2Proof.Machine.execInjStart q s
  | .injStartAt q => Sys2Proof.Machine.execInjStartAt q s
  | .injStop q => Sys2Proof.Machine.execInjStop q s
  | .capGo => Sys2Proof.Machine.execCapGo s
  | .capStop => Sys2Proof.Machine.execCapStop s
  | .canSend k => Sys2Proof.Machine.execCanSend k s
  | .canCancel k => Sys2Proof.Machine.execCanCancel k s
  | .canStartOfFrame n => Sys2Proof.Machine.execCanStartOfFrame n s
  | .canAttemptEnd n r => Sys2Proof.Machine.execCanAttemptEnd n r s
  | .canFrameReceived n h => Sys2Proof.Machine.execCanFrameReceived n h s
  | .canPeriodicRequest k => Sys2Proof.Machine.execCanPeriodicRequest k s
  | .txTmo k => Sys2Proof.Machine.execTxTmo k s
  | .canRxTimeout k => Sys2Proof.Machine.execCanRxTimeout k s
  | .canRecReq n => Sys2Proof.Machine.execCanRecReq n s
  | .busOn n => Sys2Proof.Machine.execBusOn n s
  | .canModeWrite n value => Sys2Proof.Machine.execCanModeWrite n value s
  | .canRxhdrRead k => Sys2Proof.Machine.execCanRxhdrRead k s
  | .canSubmitEntry => Sys2Proof.Machine.execCanSubmitEntry s
  | .canFieldCommand points => Sys2Proof.Machine.execCanFieldCommand points s
  | .mrcCheck count => Sys2Proof.Machine.execMrcCheck count s
  | .xoCount count trim err => Sys2Proof.Machine.execXoCount count trim err s
  | .xoEdgeLoss => Sys2Proof.Machine.execXoEdgeLoss s
  | .xoVerifyTimeout => Sys2Proof.Machine.execXoVerifyTimeout s
  | .clkReturn value => Sys2Proof.Machine.execClkReturn value s
  | .mrcFreqMeasure ppm temp => Sys2Proof.Machine.execMrcFreqMeasure ppm temp s
  | .islandStop x_i => Sys2Proof.Machine.execIslandStop x_i s
  | .pllUnlk p => Sys2Proof.Machine.execPllUnlk p s
  | .pllRelock p => Sys2Proof.Machine.execPllRelock p s
  | .pllRelockTimeout p => Sys2Proof.Machine.execPllRelockTimeout p s
  | .clkGateRequest value => Sys2Proof.Machine.execClkGateRequest value s
  | .clkGateTake x_i => Sys2Proof.Machine.execClkGateTake x_i s
  | .gateAbn x_i => Sys2Proof.Machine.execGateAbn x_i s
  | .avsStep margin => Sys2Proof.Machine.execAvsStep margin s
  | .vbatPresent => Sys2Proof.Machine.execVbatPresent s
  | .powerOnReset => Sys2Proof.Machine.execPowerOnReset s
  | .pu0End linksel addr => Sys2Proof.Machine.execPu0End linksel addr s
  | .pu1End failed dieB kat pref => Sys2Proof.Machine.execPu1End failed dieB kat pref s
  | .pu2End bad => Sys2Proof.Machine.execPu2End bad s
  | .pu3End => Sys2Proof.Machine.execPu3End s
  | .pu4End => Sys2Proof.Machine.execPu4End s
  | .resetNAssert => Sys2Proof.Machine.execResetNAssert s
  | .resetNRelease => Sys2Proof.Machine.execResetNRelease s
  | .sysSoftReset auth => Sys2Proof.Machine.execSysSoftReset auth s
  | .deviceReset => Sys2Proof.Machine.execDeviceReset s
  | .watchdogExpiry => Sys2Proof.Machine.execWatchdogExpiry s
  | .run60s => Sys2Proof.Machine.execRun60s s
  | .railFault => Sys2Proof.Machine.execRailFault s
  | .vbatLow => Sys2Proof.Machine.execVbatLow s
  | .vbatLowEnd => Sys2Proof.Machine.execVbatLowEnd s
  | .supplySafeEnter => Sys2Proof.Machine.execSupplySafeEnter s
  | .supplySafeExit => Sys2Proof.Machine.execSupplySafeExit s
  | .vioLoss => Sys2Proof.Machine.execVioLoss s
  | .vioPresent v33 => Sys2Proof.Machine.execVioPresent v33 s
  | .slugSample t => Sys2Proof.Machine.execSlugSample t s
  | .persist => Sys2Proof.Machine.execPersist s
  | .persistDone => Sys2Proof.Machine.execPersistDone s
  | .hoursPersist => Sys2Proof.Machine.execHoursPersist s
  | .periodicPersist => Sys2Proof.Machine.execPeriodicPersist s
  | .triggerCompare => Sys2Proof.Machine.execTriggerCompare s
  | .flashSlot work => Sys2Proof.Machine.execFlashSlot work s
  | .logProgramFail erase addr cstOk => Sys2Proof.Machine.execLogProgramFail erase addr cstOk s
  | .planeBVerifyFail w sector => Sys2Proof.Machine.execPlaneBVerifyFail w sector s
  | .logErase auth => Sys2Proof.Machine.execLogErase auth s
  | .logSectorErased => Sys2Proof.Machine.execLogSectorErased s
  | .logDrain auth => Sys2Proof.Machine.execLogDrain auth s
  | .drainCst auth => Sys2Proof.Machine.execDrainCst auth s
  | .drainStop auth => Sys2Proof.Machine.execDrainStop auth s
  | .cstClear auth => Sys2Proof.Machine.execCstClear auth s
  | .scrubRead err => Sys2Proof.Machine.execScrubRead err s
  | .dramParityError addr err => Sys2Proof.Machine.execDramParityError addr err s
  | .fabricParityError load givenUp => Sys2Proof.Machine.execFabricParityError load givenUp s
  | .telemetrySample => Sys2Proof.Machine.execTelemetrySample s
  | .telemetryPersist => Sys2Proof.Machine.execTelemetryPersist s
  | .telClear => Sys2Proof.Machine.execTelClear s
  | .supplyCal ok => Sys2Proof.Machine.execSupplyCal ok s
  | .fwErase auth => Sys2Proof.Machine.execFwErase auth s
  | .fwProgram auth => Sys2Proof.Machine.execFwProgram auth s
  | .fwVerify auth => Sys2Proof.Machine.execFwVerify auth s
  | .fwPrefer auth => Sys2Proof.Machine.execFwPrefer auth s
  | .arbCommit auth => Sys2Proof.Machine.execArbCommit auth s
  | .oemProvision auth => Sys2Proof.Machine.execOemProvision auth s
  | .dbgChallenge auth => Sys2Proof.Machine.execDbgChallenge auth s
  | .dbgUnlock auth => Sys2Proof.Machine.execDbgUnlock auth s
  | .dbgKill auth => Sys2Proof.Machine.execDbgKill auth s
  | .secCmdComplete flashOk => Sys2Proof.Machine.execSecCmdComplete flashOk s
  | .trngTestWindow pass => Sys2Proof.Machine.execTrngTestWindow pass s
  | .katPeriodic pass => Sys2Proof.Machine.execKatPeriodic pass s
  | .plbGo u => Sys2Proof.Machine.execPlbGo u s
  | .plbStop u => Sys2Proof.Machine.execPlbStop u s
  | .plbRunEnd u => Sys2Proof.Machine.execPlbRunEnd u s
  | .snapDrainDone => Sys2Proof.Machine.execSnapDrainDone s
  | .logDrainDone => Sys2Proof.Machine.execLogDrainDone s
  | .hswSenseOffsetCalibration k => Sys2Proof.Machine.execHswSenseOffsetCalibration k s
  | .spreadModulationPeriod drv => Sys2Proof.Machine.execSpreadModulationPeriod drv s

end Sys2Proof.Machine
end

