-- ==== Sys2Proof/Safety.lean ====
section
/-! DEFINITION. What counts as a safe run, and the terms in which claims are stated: what a command leaves alone, what it
reports, and which commands of the host get through. -/

namespace Sys2Proof.Machine

open Sys2Proof

/-! ## What a command leaves alone and what it reports -/

/-- Every register but those at `as` holds in `t` what it held in `s`. -/
def State.regsKept (s t : State) (as : List Nat) : Prop := ∀ a, a ∉ as → t.word a = s.word a

/-- Every byte of DRAM outside the `n` bytes from `a` reads in `t` what it read in `s`. -/
def State.bytesKept (s t : State) (a n : Nat) : Prop := ∀ c, c < a ∨ a + n ≤ c → t.byte c = s.byte c

/-- Event `e` and no other has occurred from `s` to `t` (R147): its pending bit is set and the recorder will see it. -/
abbrev State.occurred (s t : State) (e : Nat) : Prop := t.flag (evBit e) = true ∧ t.occ = s.occ ++ [(e, s.tag)]

/-! ## Canonical data -/

/-- DRAM is in its canonical form: addresses strictly rising and no byte listed that an unlisted address reads as. -/
def Memory.wf (m : List Host.Cell) : Bool := Table.wf (fun _ => (0 : Byte)) m

/-- The register file is in its canonical form. -/
def Registers.wf (r : Table Word) : Bool := Table.wf resetWord r

/-- DRAM and registers are in their canonical form, so that equal contents are equal data. -/
def State.canonical (s : State) : Bool := Memory.wf s.mem && Registers.wf s.regs

/-! ## What the host gets through -/

/-- A host write of `v` under `mask` to the register word at `a`, in a request with AUTH where `auth`, is accepted: every
check of R64 that concerns the word passes. -/
abbrev State.admits (s : State) (auth : Bool) (a : Nat) (mask v : Word) : Prop :=
  a % 4 = 0 ∧ (s.needsAuth a mask v && !auth) = false ∧ s.parity ≠ some 0 ∧ 0x10000 ≤ a ∧ a < 0x160000 ∧
    s.regCode auth a mask v = none

/-- A write of the whole word `v` without AUTH is accepted. -/
abbrev State.admitsSet (s : State) (a v : Nat) : Prop := s.admits false a (BitVec.allOnes 32) (BitVec.ofNat 32 v)

/-- A host write of the header register at `a` of block `b` finds the block present, the module past PU3, no fabric transfer
given up, and no seal of the footing on that register. -/
abbrev State.headerFree (s : State) (b : Block) (a : Nat) : Prop :=
  4 ≤ s.phaseOf ∧ s.kind b = 1 ∧ s.parity ≠ some 0 ∧ ∀ f, s.cfg.footing = some f → ∀ e ∈ f.seals, e.addr ≠ a

/-- A host write of the register at `a` does nothing beside what it does to the register's own bits: `a` lies in the page of a
block, and is none of BLK_CTRL and BLK_LOCK, of the command registers, and of the enables, modes, pointers and settings a
change of which acts at once (R17). -/
def quietWord (a : Nat) : Bool :=
  (blockOf (a / 65536)).isSome && a % 65536 != 0x008 && a % 65536 != 0x01C &&
  !([R.SYS_TICK_BASE_LO, R.SYS_TICK_BASE_HI, R.CLK_GATE_REQ, R.CLK_CTRL, R.PWR_CMD, R.CFG_COURSE_REQ, R.CFG_IMG_CMD,
    R.GNSS_FE_CTRL, R.GNSS_SNAP_CTRL, R.GNSS_SNAP_CMD, R.NAV_CTRL, R.FBK_FUS_CTRL, R.GEO_MAP_CMD, R.CAP_CMD, R.REC_CMD,
    R.MEM_TEL_CMD, R.SEC_CMD].contains a) &&
  !([(R.LANE_CTRL, 16), (R.LANE_BASE, 16), (R.LANE_SIZE, 16), (R.LANE_HEAD, 16), (R.GNSS_CH_CTRL, 192), (R.GNSS_CH_SIG, 192),
    (R.FBK_ENC_CFG, 8), (R.FBK_ENC_ZCFG, 8), (R.FBK_ENC_FILT, 8), (R.FBK_ENC_LIM_LO, 8), (R.FBK_ENC_LIM_HI, 8),
    (R.FBK_ENC_POS, 8), (R.FBK_AIN_CFG, 16), (fun k => R.FBK_CMP_CTRL (k / 16) (k % 16), 128), (R.GEO_PT_CTRL, 128),
    (R.STR_PT_CTRL, 128), (R.STR_SP_CTRL, 896), (R.SOL_CH_CTRL, 96), (R.SOL_CH_CFG, 96), (R.SOL_CH_ISET, 96),
    (R.SOL_CH_DITHER, 96), (R.SOL_CH_DLIM, 96), (R.SOL_CH_I2T, 96), (R.SOL_CH_CMD, 96), (R.SOL_CH_FLT, 96),
    (R.SOL_DIE_BOOST, 2), (R.SOL_BANK_CTRL, 12), (R.ARM_CH_CTRL, 96), (R.ARM_CH_INIT, 96), (R.ARM_SW_CFG, 24),
    (R.HSW_CH_CTRL, 24), (R.HSW_CH_CFG, 24), (R.HSW_CH_CMD, 24), (R.HSW_CH_FLT, 24), (R.CTL_LOOP_OUT, 32),
    (R.CTL_LOOP_CFG, 32), (R.CTL_LOOP_CMD, 32), (R.PACE_CMD, 16), (R.LAP_SRC, 4), (R.LAP_CPR, 4), (R.LAP_ORIGIN, 4),
    (R.LAP_CTRL, 4), (R.INJ_CMD, 4), (R.CAN_CTL_CFG, 3), (R.CAN_CTL_CMD, 3), (R.CAN_OBJ_CMD, 256), (R.PLB_CMD, 4)].any
      (fun x => (List.range x.2).any (fun n => x.1 n == a))) &&
  !decide (0x104000 ≤ a ∧ a < 0x108000)

/-- Bit `k` of the register at `a` belongs to a field with one of the access codes `cs`, and is neither reserved nor absent in this
personality, nor RO in the present setting (R17, R21). -/
def State.bitIs (s : State) (a k : Nat) (cs : List Access) : Bool :=
  nbit (bitsWhere (fieldsAt a) (fun f => cs.contains f.acc)) k &&
    !nbit (reservedBits a ||| s.absentBits a ||| s.roNow a) k

/-- What every accepted register command leaves behind beside its effect: no refusal, and no transfer given up. -/
def State.settled (s : State) : State := { s with parity := none, lastErr := none }

/-- A unicast request of the host has arrived whole at a port of this module, which is in ring mode and has room for it: checks
1 to 4 of R64 pass. -/
abbrev State.reaches (s : State) (opc : Byte) (r : Request) : Prop :=
  s.linkUp = true ∧ s.spi = false ∧ hcrc (r.headBytes opc) = r.hcrc ∧ r.rpl = false ∧ r.bcast = false ∧ s.hasAddr = true ∧
    r.dev.toNat % 64 = s.myAddr ∧ crcGood opc r = true ∧ r.fromHost = true ∧ r.waiting < 4

/-- Such a request passes check 5 of R64 too, in `v` with the session `x`: it needs no authentication and carries none, or it
carries AUTH and the session in force accepts it, whose counter it moves on (R89). -/
def State.admitted (s : State) (opc : Byte) (r : Request) (x : Option Session) (v : State) : Prop :=
  s.reaches opc r ∧
    (r.auth = false ∧ s.authMissing false opc r = false ∧ x = none ∧ v = s ∨
     ∃ y, r.auth = true ∧ r.fcnt < 0xFFFFFFFF ∧ s.sec.session = some y ∧ y.accepts opc r = true ∧
       x = some { y with fcIn := r.fcnt } ∧ v = { s with sec := { s.sec with session := x } })

/-- Such a request fails check 5 of R64 (R89, R90). -/
def State.unproved (s : State) (opc : Byte) (r : Request) : Prop :=
  s.reaches opc r ∧ (r.auth = false ∧ s.authMissing false opc r = true ∨
    r.auth = true ∧ ∀ y, s.sec.session = some y → y.accepts opc r = false)

/-- The commands that are a unicast request of the host, each with its opcode (R59). -/
def unicastRows (p : Port) (r : Request) : List (Instr × Byte) :=
  [(.status p r, 0), (.read p r, 1), (.write p r, 2), (.writeMask p r, 3), (.lanePush p r, 4), (.lanePop p r, 5),
   (.sessionHello p r, 7), (.sessionFinish p r, 7), (.sessionEnd p r, 7)]

/-- A broadcast has arrived whole at a module in ring mode. -/
abbrev State.hears (s : State) (opc : Byte) (r : Request) : Prop :=
  s.linkUp = true ∧ s.spi = false ∧ hcrc (r.headBytes opc) = r.hcrc ∧ r.rpl = false ∧ r.bcast = true ∧ crcGood opc r = true ∧
    r.auth = false

/-- Spare `k` is taken next (R37): the first of the pool's 1,024, numbered from its top, that is neither taken nor one to be
skipped. -/
abbrev State.nextSpare (s : State) (k : Nat) : Prop :=
  k < 1024 ∧ s.memCare.taken ≤ k ∧ k ∉ s.memCare.bad ∧ ∀ j, j < k → s.memCare.taken ≤ j → j ∈ s.memCare.bad

/-! ## Where a command acts on one thing alone -/

/-- A grid instant of the loops at which loop `n`, in no heat, is the only one to sample, no value waits at its destination,
no other loop's or heat's value is due and no tuning capture runs (R464, R465). -/
abbrev State.samplesOnly (s : State) (n : Nat) : Prop :=
  s.runs .ctl = true ∧ s.clk % gridLen = 0 ∧ s.loopsDue = [n] ∧ s.heatOf n = none ∧ s.ctl.held = [] ∧
    (∀ m, m < 32 → m ≠ n → s.pendDue (s.ctl.loops.get m).pend = false) ∧
    (∀ h, h < 4 → s.pendDue (s.ctl.heats.get h).pend = false) ∧
    s.flag F.CAP_STAT_BUSY = false

/-- The value that loop `n` forms at a sample for its next sample instant (R465). -/
abbrev State.sends (s t : State) (n : Nat) (v : Int) : Prop :=
  let x : LoopVal := { owner := n, word := s.bindWord n, val := v, due := s.clk + s.loopPeriod n * gridLen }
  (t.ctl.loops.get n).pend = some x ∧ t.ctl.wire = s.ctl.wire ++ (if srcKind (s.bindWord n) = 0 then [] else [x])

end Sys2Proof.Machine
end

