-- ==== Sys2Proof/Certificates/Slice0/Obligations.lean ====
section
/-! DEFINITION. What is claimed of the machine: statements for the provers. -/

open Sys2Proof Sys2Proof.Machine

/-- For every command c, every state s and every list of waiting commands: a step of s with c in front of those commands
is exec of c on s with just those commands waiting. And every command completes: whatever the command and the state,
exec answers a next state, since the spec stops none. The queue is this model's way of taking commands (log entry 10).
(00_scope) -/
def Obligations.FrontCommandRunsOnQueueRest : Prop :=
  (∀ (c : Instr) (rest : List Instr) (s : State), step { s with pending := c :: rest } = exec c { s with pending := rest }) ∧
  (∀ (c : Instr) (s : State), ∃ t, exec c s = .next t)

/-- With an empty queue every step answers a next state. Where the time tag is as far as the time base, the clock has
advanced by one, the time tag by tagStep, which is 0 in a hold and else 1 once the time base is a whole count ahead, what
its rate leaves over and what is left to slew out are those of timeStep, and the operating hours advance by one second
exactly where a whole second of counts with power has passed. Where the time base is ahead by a tag not yet shown, that
tag comes next: the tag rises by one with the clock as it is, and nothing else changes but what the time base is ahead. That a count passes on an empty queue is the model's choice (log
entry 10); idle here means that nothing occurred that the recorder has yet to see, no drain runs and no loop value
waits, no SOFT_RESET waits for its block, and the time base has made no step since the last capture began. That a tag
is shown in a step of its own, and tagStep and timeStep, are the model's choices too (log entries 601 and 617). (R15, R41,
R222, R606) -/
def Obligations.EmptyQueueLetsOneCountPass : Prop :=
  (∀ s : State, s.pending = [] → s.tagBehind = true →
    ∃ t, step s = .next t ∧ t.tag = s.tag + 1 ∧ t.clk = s.clk ∧ t.nav = { s.nav with phase := t.nav.phase } ∧
      t = { s with tag := t.tag, nav := t.nav }) ∧
  (∀ s : State, s.pending = [] → s.tagBehind = false → s.occ = [] → s.gnss.drain = [] → s.recd.drain = none → s.ctl.held = [] →
      s.cfg.resets = [] → s.nav.steps = s.cap.steps →
    ∃ t, step s = .next t ∧ t.clk = s.clk + 1 ∧ t.tag = s.tag + s.tagStep ∧ t.pending = [] ∧ t.mem = s.mem ∧
      t = { s with clk := t.clk, tag := t.tag, nav := s.timeStep, regs := t.regs, pwr := t.pwr } ∧
      s.regsKept t [R.PWR_HOURS] ∧
      (s.powered = true → s.pwr.frac + 1 < second → t.nat R.PWR_HOURS = s.nat R.PWR_HOURS ∧ t.pwr.frac = s.pwr.frac + 1) ∧
      (s.powered = true → second ≤ s.pwr.frac + 1 →
        t.nat R.PWR_HOURS = (s.nat R.PWR_HOURS + 1) % 2 ^ 32 ∧ t.pwr.frac = 0))

/-- For every state s whose DRAM and register file are in canonical form (keys strictly rising, no entry that an
unlisted key reads as): if a step answers next t, then DRAM and registers of t are in canonical form. The model's
choices: the form in which memory is kept and what an unlisted address reads as (log entry 3). (R94, R36) -/
def Obligations.CanonicalDataKeptByEveryStep : Prop :=
  ∀ s t : State, s.canonical = true → step s = .next t → t.canonical = true

/-- The state right after reset has DRAM and registers in canonical form, every register reads the value its table gives
for reset, no byte of DRAM is listed, and no command waits. Where a table gives no number its word is the model's choice
(log entry 1), and so are the DRAM that reads 0 where nothing is listed (log entry 3) and the empty queue (log entry 10).
(R24, R94, R591) -/
def Obligations.ResetIsCanonical : Prop :=
  State.reset.canonical = true ∧ (∀ a, State.reset.word a = resetWord a) ∧ State.reset.mem = [] ∧ State.reset.pending = []

/-- For every opcode and every request whose trailer has 20 bytes with AUTH and none without: taking its frame apart gives
the opcode and the request back. And every string of 16 bytes or more that is taken apart is the frame of what it
gives, so that a frame forwarded is forwarded byte for byte. (R56, R73) -/
def Obligations.RequestFramesRoundTrip : Prop :=
  (∀ (opc : Byte) (r : Request), r.trailer.length = (if r.auth then 20 else 0) →
      parseFrame (r.frame opc) r.waiting = some (opc, r)) ∧
  (∀ (b : List Byte) (w : Nat), 16 ≤ b.length → ∃ opc r, parseFrame b w = some (opc, r) ∧ r.frame opc = b ∧ r.waiting = w)

/-- For each unicast request command of the table, and a host request that passes checks 1 to 5 of R64, without AUTH or with
AUTH in a session that accepts it: where its SEQ is E it executes. Where its execution reports no error, exec answers the
next state in which E has risen by one modulo 256, the reply heads the cache, of which at most 4 entries stay, and the
reply with the payload of the execution has been sent, authenticated by the session if the request was; everything else is
as the execution left it. A request with a wrong shape, or whose execution reports an error other than AUTH, consumes its SEQ in
the same way with an error reply; one that its execution refuses with AUTH, a SESSION message, leaves E. A SEQ among
the last four whose reply is cached gets that reply again, with DUP; any other gets ERR SEQ with E as its DETAIL;
neither executes. A request that fails check 5 is counted, reported and answered ERR AUTH, and leaves E. The command
begins with the whole frame received, and an error reply's AUTH bit and DETAIL beside the rules' words are the model's
choices (log entries 202, 207, 208 and 217). (R62, R64, R65, R66, R67, R89) -/
def Obligations.HostRequestRunsInSequence : Prop :=
  (∀ (p : Port) (r : Request) (x : Option Session) (s v : State), ∀ co ∈ unicastRows p r, s.admitted co.2 r x v →
    r.seq.toNat = s.link.host.exp → shapeCode false co.2 r = none → (v.execute false x.isSome co.2 r).err = none →
    ∃ t u, exec co.1 s = .next t ∧ u = (v.execute false x.isSome co.2 r).st ∧
      t.link.host.exp = (u.link.host.exp + 1) % 256 ∧
      t.link.host.cache = (⟨r.seq.toNat, co.2, false, (v.execute false x.isSome co.2 r).payload⟩ :: u.link.host.cache).take 4 ∧
      t = (u.modSet false (fun l => { l with exp := t.link.host.exp, cache := t.link.host.cache })).reply p false x co.2 r
        false false (v.execute false x.isSome co.2 r).payload) ∧
  (∀ (p : Port) (r : Request) (x : Option Session) (c : ErrCode) (n : Nat) (s v u : State), ∀ co ∈ unicastRows p r,
    s.admitted co.2 r x v → r.seq.toNat = s.link.host.exp → c.keepsSeq = false →
    (shapeCode false co.2 r = some c ∧ n = 0 ∧ u = v ∨
     shapeCode false co.2 r = none ∧ (v.execute false x.isSome co.2 r).err = some (c, n) ∧ u = (v.execute false x.isSome co.2 r).st) →
    ∃ t, exec co.1 s = .next t ∧ t.link.host.exp = (u.link.host.exp + 1) % 256 ∧
      t.link.host.cache = (⟨r.seq.toNat, co.2, true, errPayload c n⟩ :: u.link.host.cache).take 4 ∧
      t = (u.modSet false (fun l => { l with exp := t.link.host.exp, cache := t.link.host.cache })).reply p false x co.2 r
        true false (errPayload c n)) ∧
  (∀ (p : Port) (r : Request) (x : Option Session) (n : Nat) (s v : State), ∀ co ∈ unicastRows p r, s.admitted co.2 r x v →
    r.seq.toNat = s.link.host.exp → shapeCode false co.2 r = none → (v.execute false x.isSome co.2 r).err = some (.auth, n) →
    ∃ t, exec co.1 s = .next t ∧ t.link.host = (v.execute false x.isSome co.2 r).st.link.host ∧
      t = (v.execute false x.isSome co.2 r).st.reply p false none co.2 r true false (errPayload .auth n)) ∧
  (∀ (p : Port) (r : Request) (x : Option Session) (c : Cached) (s v : State), ∀ co ∈ unicastRows p r,
    s.admitted co.2 r x v → s.link.host.exp < 256 → (∃ k, 1 ≤ k ∧ k ≤ 4 ∧ (r.seq.toNat + k) % 256 = s.link.host.exp) →
    s.link.host.cache.find? (fun c => c.seq == r.seq.toNat) = some c →
    ∃ t, exec co.1 s = .next t ∧ t.link.host = s.link.host ∧ t = v.reply p false x co.2 r c.err true c.payload) ∧
  (∀ (p : Port) (r : Request) (x : Option Session) (s v : State), ∀ co ∈ unicastRows p r, s.admitted co.2 r x v →
    s.link.host.exp < 256 → r.seq.toNat ≠ s.link.host.exp →
    ((∀ k, 1 ≤ k → k ≤ 4 → (r.seq.toNat + k) % 256 ≠ s.link.host.exp) ∨ ∀ c ∈ s.link.host.cache, c.seq ≠ r.seq.toNat) →
    ∃ t, exec co.1 s = .next t ∧ t.link.host = s.link.host ∧
      t = v.reply p false x co.2 r true false (errPayload .seq s.link.host.exp)) ∧
  (∀ (p : Port) (r : Request) (s : State), ∀ co ∈ unicastRows p r, s.unproved co.2 r →
    ∃ t, exec co.1 s = .next t ∧ t.link.host = s.link.host ∧
      t.get F.SYS_LINK_AUTHERR = min (s.get F.SYS_LINK_AUTHERR + 1) 0xFFFF ∧
      t = s.authFail.reply p false none co.2 r true false (errPayload .auth 0))

/-- In RUN, with no fabric transfer given up: STATUS changes nothing and gives no payload. READ of one word gives its four
bytes. WRITE and WRITE_MASK of one word are the host write of that word, whole or under the mask. LANE_PUSH of one
entry into a running lane with DIR = 1 and LEAD = 0 that is not full, whose slot at HEAD lies in a DRAM page that serves,
stores its 64 bytes there and advances HEAD, and changes no other byte and no other register. LANE_POP of a lane with DIR = 0 whose oldest entry is
not a skipped one gives that entry and advances TAIL only. SESSION END ends the session that is in force. How dead pages and
skipped entries are told are the model's choices (log entries 404 and 1813). (R59, R61, R131, R133, R660, R663) -/
def Obligations.ReadyRequestsDoWhatTheyAsk : Prop :=
  (∀ (r : Request) (s : State), (s.execute false false 0 r).st = s ∧ (s.execute false false 0 r).err = none ∧
      (s.execute false false 0 r).payload = []) ∧
  (∀ (r : Request) (s u : State) (w : Word), r.len = 4 → s.parity = none → s.hostRead r.addr.toNat = (none, w, u) →
      (s.execute false false 1 r).err = none ∧ (s.execute false false 1 r).payload = leBytes 4 w.toNat ∧
      (s.execute false false 1 r).st = { u with parity := none }) ∧
  (∀ (r : Request) (s u : State), r.len = 4 → s.parity = none → r.addr.toNat % 4 = 0 →
      s.needsAuth r.addr.toNat (BitVec.allOnes 32) (BitVec.ofNat 32 (leNat (r.body.take 4))) = false →
      s.hostWord false r.addr.toNat (BitVec.allOnes 32) (BitVec.ofNat 32 (leNat (r.body.take 4))) = (none, u) →
      (s.execute false false 2 r).err = none ∧ (s.execute false false 2 r).st = { u with parity := none }) ∧
  (∀ (r : Request) (s u : State), 4 ≤ s.phaseOf → s.parity = none → r.addr.toNat % 4 = 0 →
      s.needsAuth r.addr.toNat (BitVec.ofNat 32 (leNat (r.body.take 4))) (BitVec.ofNat 32 (leNat ((r.body.drop 4).take 4))) = false →
      s.hostWord false r.addr.toNat (BitVec.ofNat 32 (leNat (r.body.take 4))) (BitVec.ofNat 32 (leNat ((r.body.drop 4).take 4))) =
        (none, u) →
      (s.execute false false 3 r).err = none ∧ (s.execute false false 3 r).st = { u with parity := none }) ∧
  (∀ (r : Request) (s : State) (n : Nat), n = r.addr.toNat → n < 16 → r.body.length = 64 → 4 ≤ s.phaseOf →
      s.laneIn n = true → s.flag (F.LANE_CTRL_LEAD n) = false → s.laneFull n = false → 0 < s.laneSize n → s.laneSize n ≤ 16384 →
      (∀ i < 64, s.deadPage (s.laneSlot n (s.get (F.LANE_HEAD_HEAD n)) + i) = false) →
      ∃ t, t = (s.execute false false 4 r).st ∧ (s.execute false false 4 r).err = none ∧
        (∀ i, (h : i < r.body.length) → t.byte (s.laneSlot n (s.get (F.LANE_HEAD_HEAD n)) + i) = r.body[i]) ∧
        s.bytesKept t (s.laneSlot n (s.get (F.LANE_HEAD_HEAD n))) 64 ∧
        t.get (F.LANE_HEAD_HEAD n) = (s.get (F.LANE_HEAD_HEAD n) + 1) % s.laneSize n ∧
        t = { s with mem := t.mem, regs := t.regs } ∧ s.regsKept t [R.LANE_HEAD n]) ∧
  (∀ (r : Request) (s : State) (n : Nat), n = r.addr.toNat → n < 16 → r.len = 64 → 4 ≤ s.phaseOf →
      s.laneOut n = true → s.laneLevel n ≠ 0 → s.laneType n (s.get (F.LANE_TAIL_TAIL n)) ≠ 0 → s.laneSize n ≤ 16384 →
      ∃ t, t = (s.execute false false 5 r).st ∧ (s.execute false false 5 r).err = none ∧
        (s.execute false false 5 r).payload = s.bytes (s.laneSlot n (s.get (F.LANE_TAIL_TAIL n))) 64 ∧
        t.get (F.LANE_TAIL_TAIL n) = (s.get (F.LANE_TAIL_TAIL n) + 1) % s.laneSize n ∧
        t = { s with regs := t.regs } ∧ s.regsKept t [R.LANE_TAIL n]) ∧
  (∀ (r : Request) (s : State) (x : Session), 4 ≤ s.phaseOf → r.body = [3, 0, 0, 0] → s.sec.session = some x →
      s.kind .sec = 1 →
      ∃ t, t = (s.execute false false 7 r).st ∧ (s.execute false false 7 r).err = none ∧
        (s.execute false false 7 r).payload = [3, 0, 0, 0, 0] ∧ t.sec.session = none ∧ s.occurred t 242 ∧
        t = { s with regs := t.regs, occ := t.occ, sec := t.sec } ∧ s.regsKept t [(evBit 242).addr])

/-- A host ENUM that arrives whole at a module in ring mode stores POS as the ring position. In a module in enumeration
mode without an address, with NEXT at most 63, NEXT becomes the address and the frame goes on with NEXT + 1 and POS +
1; nothing else changes. In a module with an address the frame goes on with NEXT and POS + 1. At a port that is down since the
reset frames are turned too, the model's choice (log entry 225). (R54) -/
def Obligations.EnumGivesTheNextAddress : Prop :=
  (∀ (p : Port) (r : Request) (s : State) (next pos : Byte), s.hears 6 r → r.fromHost = true → r.len = 2 →
      r.body = [next, pos] → s.flag F.SYS_LINK_MODE_ENUMMODE = true → s.hasAddr = false → next.toNat ≤ 63 →
      ∃ t, exec (.enum p r) s = .next t ∧ t.get F.SYS_LINK_MODE_POS = pos.toNat ∧ t.get F.SYS_LINK_MODE_ADDR = next.toNat ∧
        t.hasAddr = true ∧
        t.link = { s.link with sent := s.link.sent ++
          [Sent.frame (s.onward p) (enumFrame r (next.toNat + 1) (pos.toNat + 1))] } ∧
        t = { s with regs := t.regs, link := t.link } ∧ s.regsKept t [R.SYS_LINK_MODE]) ∧
  (∀ (p : Port) (r : Request) (s : State) (next pos : Byte), s.hears 6 r → r.fromHost = true → r.len = 2 →
      r.body = [next, pos] → s.hasAddr = true →
      ∃ t, exec (.enum p r) s = .next t ∧ t.get F.SYS_LINK_MODE_POS = pos.toNat ∧ t.myAddr = s.myAddr ∧ t.hasAddr = true ∧
        t.link = { s.link with sent := s.link.sent ++ [Sent.frame (s.onward p) (enumFrame r next.toNat (pos.toNat + 1))] } ∧
        t = { s with regs := t.regs, link := t.link } ∧ s.regsKept t [R.SYS_LINK_MODE])

/-- A unicast frame that arrives at a module in ring mode with a good HCRC, a request also with a good CRC, and is not
addressed to it, and that this module did not originate as the lead, is sent on unchanged out of the port opposite to the one it arrived on, or
turned at a port that is down; nothing else changes. A broadcast WRITE or WRITE_MASK of the host that has not been
executed before is sent on too, executes at a module with an address as the request would, its SEQ is remembered and
SYS_LINK_BSEQ shows it. That frames are taken whatever the port's state shows, and turned at a port that is down since the
reset, are the model's choices (log entries 206 and 225). (R72, R73, R79) -/
def Obligations.FramesForOthersGoOn : Prop :=
  (∀ (p : Port) (b : List Byte) (opc : Byte) (r : Request) (s : State), parseFrame b 0 = some (opc, r) → s.linkUp = true →
      s.spi = false → hcrc (r.headBytes opc) = r.hcrc → (r.rpl = true ∨ r.bcast = false ∧ crcGood opc r = true) →
      (r.rpl = false → s.hasAddr = true → r.dev.toNat % 64 ≠ s.myAddr) → s.origin r ≠ .self →
      exec (.forwardFrame p b) s = .next { s with link := { s.link with sent := s.link.sent ++
        [Sent.frame (if s.wrapped (otherPort p) then p else otherPort p) b] } }) ∧
  (∀ (p : Port) (mask : Bool) (r : Request) (s : State) (opc : Byte), opc = (if mask then 3 else 2) → s.hears opc r →
      r.fromHost = true → s.hasAddr = true → s.flag F.SYS_LINK_AUTHREQ_REQUIRE = false →
      ((writeWords opc r).any (fun w => s.needsAuth w.1 w.2.1 w.2.2)) = false → r.seq.toNat ∉ s.link.host.bmem →
      shapeCode false opc r = none → ∀ u, (s.passOn p (r.frame opc)).execute false false opc r = ⟨none, [], u⟩ →
      ∃ t, exec (.broadcastRequest p mask r) s = .next t ∧
        t.link.host.bmem = (r.seq.toNat :: u.link.host.bmem).take 4 ∧ t.get F.SYS_LINK_BSEQ_SEQ = r.seq.toNat ∧
        t.flag F.SYS_LINK_BSEQ_VALID = true ∧
        t = { u with regs := t.regs, link := { u.link with host := { u.link.host with bmem := t.link.host.bmem } } } ∧
        u.regsKept t [R.SYS_LINK_BSEQ])

/-- In SPI mode, clocked and with VIO present: a STATUS request without AUTH after the start byte 0x5A is received as it
stands, with no reply waiting to be clocked out. A transaction of fill bytes only clocks out as many bytes as it has
of the start byte and the oldest reply; a reply that did not come out whole stays, one that did is gone. A transaction
whose first byte other than 0x00 is not 0x5A is counted in SYS_LINK_HDRERR and nothing else. That a reply is available
from the next transaction, one in each, and is kept until it came out whole, is the model's choice (log entry 52). (R50) -/
def Obligations.SpiTransactionCarriesOneRequest : Prop :=
  (∀ (r : Request) (s : State), s.spi = true → s.linkUp = true → s.flag F.PWR_STAT_VIO_OK = true → s.link.spiReply = [] →
      r.auth = false → r.body = [] → r.trailer = [] →
      exec (.spiTransaction (0x5A :: r.frame 0) r.waiting) s = .next (s.received .inp 0 r)) ∧
  (∀ (f : List Byte) (l : List (List Byte)) (n : Nat) (s : State), s.spi = true → s.linkUp = true →
      s.flag F.PWR_STAT_VIO_OK = true → s.link.spiReply = f :: l →
      exec (.spiTransaction (List.replicate n 0) 0) s = .next { s with link := { s.link with
        sent := s.link.sent ++ [Sent.spi ((0x5A :: f).take n)]
        spiReply := if f.length < n then l else f :: l } }) ∧
  (∀ (b : Byte) (l : List Byte) (s : State), s.spi = true → s.linkUp = true → s.flag F.PWR_STAT_VIO_OK = true →
      s.link.spiReply = [] → b ≠ 0 → b ≠ 0x5A →
      exec (.spiTransaction (b :: l) 0) s = .next (s.count F.SYS_LINK_HDRERR 1))

/-- PORT_LOSE_LOCK of a working port sets it to retraining, counts the retraining and notes the instant. RETRAIN_DONE of a
port not declared down sends a PROBE and echoes those heard, and returns it to service with the measured delay. PORT_DOWN once 1 ms has passed since the loss
sets the port down, wraps at it and raises event 20. PORT_UP of a port declared down returns it to service, ends the
wrap and raises event 21. Nothing else changes. One PROBE with a free count byte, sent as a port comes into service, and
the echo in the same step are the model's choices (log entry 222), and so is a first training without an event (log entry
215). (R78, R79, R81, R52) -/
def Obligations.PortsLoseAndRegainLock : Prop :=
  (∀ (p : Port) (s : State), s.ringUp = true → s.get (portState p) = 2 →
      ∃ t, exec (.portLoseLock p) s = .next t ∧ t.get (portState p) = 1 ∧
        t.get F.SYS_LINK_RETRAIN = min (s.get F.SYS_LINK_RETRAIN + 1) 0xFFFF ∧
        t.link = { s.link with lostAt := s.link.lostAt ++ [(p, s.clk)], sent := s.link.sent ++ [Sent.train p] } ∧
        t = { s with regs := t.regs, link := t.link } ∧ s.regsKept t [R.SYS_LINK_STATE, R.SYS_LINK_RETRAIN]) ∧
  (∀ (p : Port) (l : LinkProbe) (s : State), s.ringUp = true → p ∉ s.link.wasDown → s.get (portState p) ≠ 2 →
      ∃ t, exec (.retrainDone p l) s = .next t ∧ t.get (portState p) = 2 ∧ t.get (portDelay p) = l.delay.toNat ∧
        t.link = { s.link with
          lostAt := s.link.lostAt.filter (fun e => e.1 != p)
          sent := s.link.sent ++ Sent.probe p (BitVec.ofNat 8 (s.free 8).1) :: l.heard.map (Sent.probe p) } ∧
        t = { s with regs := t.regs, link := t.link, fresh := s.fresh + 1 } ∧ s.regsKept t [R.SYS_LINK_STATE, R.SYS_LINK_DLY]) ∧
  (∀ (p : Port) (i : Nat) (s : State), s.link.lostAt.find? (fun e => e.1 == p) = some (p, i) → s.passed i msec = true →
      s.kind .evt = 1 →
      ∃ t, exec (.portDown p) s = .next t ∧ t.get (portState p) = 0 ∧ t.flag (portWrap p) = true ∧ s.occurred t 20 ∧
        t.link = { s.link with lostAt := s.link.lostAt.filter (fun e => e.1 != p), wasDown := p :: s.link.wasDown } ∧
        t = { s with regs := t.regs, link := t.link, occ := t.occ } ∧ s.regsKept t [R.SYS_LINK_STATE, (evBit 20).addr]) ∧
  (∀ (p : Port) (l : LinkProbe) (s : State), s.ringUp = true → p ∈ s.link.wasDown → s.kind .evt = 1 →
      ∃ t, exec (.portUp p l) s = .next t ∧ t.get (portState p) = 2 ∧ t.flag (portWrap p) = false ∧
        t.get (portDelay p) = l.delay.toNat ∧ s.occurred t 21 ∧
        t.link = { s.link with
          wasDown := s.link.wasDown.filter (fun q => q != p)
          sent := s.link.sent ++ Sent.probe p (BitVec.ofNat 8 (s.free 8).1) :: l.heard.map (Sent.probe p) } ∧
        t = { s with regs := t.regs, link := t.link, occ := t.occ, fresh := s.fresh + 1 } ∧
        s.regsKept t [R.SYS_LINK_STATE, R.SYS_LINK_DLY, (evBit 21).addr])

/-- For every command that is the arrival of a frame at a ring port: where the frame's HCRC fails, the next state is the
present one with SYS_LINK_HDRERR raised by one, saturating, and for a broadcast at a module with an address
SYS_LINK_BERR too; nothing is sent and nothing else changes. The same holds in SPI mode for a whole frame after the
start byte. That a broadcast with a bad HCRC counts in SYS_LINK_BERR, and only at a module with an address, is the
model's choice (log entries 204 and 219). (R50, R63, R72) -/
def Obligations.BadHeaderIsCountedAndDropped : Prop :=
  (∀ (p : Port) (r : Request) (s : State), ∀ co ∈ [(Instr.status p r, (0 : Byte)), (.read p r, 1), (.write p r, 2),
      (.writeMask p r, 3), (.lanePush p r, 4), (.lanePop p r, 5), (.enum p r, 6), (.sessionHello p r, 7),
      (.sessionFinish p r, 7), (.sessionEnd p r, 7), (.broadcastRequest p false r, 2), (.broadcastRequest p true r, 3)],
    s.linkUp = true → s.spi = false → hcrc (r.headBytes co.2) ≠ r.hcrc →
    ∃ t, exec co.1 s = .next t ∧ t.get F.SYS_LINK_HDRERR = min (s.get F.SYS_LINK_HDRERR + 1) 0xFFFF ∧
      t.get F.SYS_LINK_BERR = min (s.get F.SYS_LINK_BERR + bit (r.bcast && !r.rpl && s.hasAddr)) 0xFFFF ∧
      t = { s with regs := t.regs } ∧ s.regsKept t [R.SYS_LINK_HDRERR, R.SYS_LINK_BERR]) ∧
  (∀ (p : Port) (b : List Byte) (opc : Byte) (r : Request) (s : State), s.linkUp = true → s.spi = false →
    parseFrame b 0 = some (opc, r) → hcrc (r.headBytes opc) ≠ r.hcrc →
    ∃ t, exec (.forwardFrame p b) s = .next t ∧ t.get F.SYS_LINK_HDRERR = min (s.get F.SYS_LINK_HDRERR + 1) 0xFFFF ∧
      t.get F.SYS_LINK_BERR = min (s.get F.SYS_LINK_BERR + bit (r.bcast && !r.rpl && s.hasAddr)) 0xFFFF ∧
      t = { s with regs := t.regs } ∧ s.regsKept t [R.SYS_LINK_HDRERR, R.SYS_LINK_BERR]) ∧
  (∀ (b : List Byte) (w : Nat) (r : Request) (s : State), s.linkUp = true → s.spi = true →
    s.flag F.PWR_STAT_VIO_OK = true → s.link.spiReply = [] → b = r.frame 0 → r.auth = false → r.body = [] → r.trailer = [] →
    hcrc (r.headBytes 0) ≠ r.hcrc →
    ∃ t, exec (.spiTransaction (0x5A :: b) w) s = .next t ∧ t.get F.SYS_LINK_HDRERR = min (s.get F.SYS_LINK_HDRERR + 1) 0xFFFF ∧
      t.get F.SYS_LINK_BERR = min (s.get F.SYS_LINK_BERR + bit (r.bcast && !r.rpl && s.hasAddr)) 0xFFFF ∧
      t = { s with regs := t.regs } ∧ s.regsKept t [R.SYS_LINK_HDRERR, R.SYS_LINK_BERR])

/-- A module with the lead role, in ring mode, at a time tag that is a whole multiple of 4,000 and outside a hold, sends a
TICK on OUT_TX and on IN_TX whose count is the time tag divided by 4,000 modulo 256 and whose D is its transmit
latency. It keeps the tag of a tick with count 0, and SYS_TICK_BASE shows it, whose low word stays where one waits for
its high word, the model's choice (log entry 2007). Off a tick boundary, and in a hold, it sends nothing. (R82, R91,
R223) -/
def Obligations.LeadSendsTickOnBothPorts : Prop :=
  (∀ (d : BitVec 16) (s : State), s.isLead = true → s.ringUp = true → s.onGrid 4000 = true →
    ∃ t, exec (.tickSend d) s = .next t ∧
      t.link.sent = s.link.sent ++ [Sent.tick .out (s.now / 4000 % 256) d.toNat, Sent.tick .inp (s.now / 4000 % 256) d.toNat] ∧
      t.flag F.SYS_LINK_STATE_TICKOK = true ∧
      (s.now / 4000 % 256 = 0 → t.nat R.SYS_TICK_BASE_HI = s.now / 2 ^ 32 ∧
        t.nat R.SYS_TICK_BASE_LO = (if s.link.loWait then s.nat R.SYS_TICK_BASE_LO else s.now % 2 ^ 32)) ∧
      t.link = { s.link with sent := t.link.sent, tickTag := if s.now / 4000 % 256 = 0 then s.now else s.link.tickTag } ∧
      t = { s with regs := t.regs, link := t.link } ∧
      s.regsKept t (R.SYS_LINK_STATE :: if s.now / 4000 % 256 = 0 then [R.SYS_TICK_BASE_LO, R.SYS_TICK_BASE_HI] else [])) ∧
  (∀ (d : BitVec 16) (s : State), s.onGrid 4000 = false → exec (.tickSend d) s = .next s)

/-- A module in ring mode forwards a TICK in its direction with D + L + F modulo 2^16, unless frames are turned at the
port there; one that is no satellite does nothing else. A satellite that has its tick takes a TICK whose count
follows, other than 0, as its tick boundary: its time tag becomes base + count × 4,000 plus D + L in counts of 1/16
µs, its base stays. Where no TICK has come for 1 ms the tick is declared lost: TICKOK is cleared, event 22 raised and
every command of the lead that has not started is discarded, here where no output is on by one.
The lead writes the tag of its last tick with count 0 in two broadcast WRITEs with one SEQ and one payload, one out of
each port. The model's choices: no TICK goes out of a port that is down (log entry 213), the lead sends out of it all the
same (log entry 224), its SEQ counts from 0 (log entry 214), D + L is rounded as an open rounding (log entry 6), and
event 7 comes only for outputs that a LANE10 ON left on (log entry 915). (R83, R85, R86) -/
def Obligations.TickAlignsSatellites : Prop :=
  (∀ (p : Port) (c : Byte) (d : BitVec 16) (s : State), s.ringUp = true → s.isSat = false →
    exec (.tickReceive p c d) s = .next { s with link := { s.link with sent := s.link.sent ++
      (if s.wrapped (otherPort p) then [] else
        [Sent.tick (otherPort p) c.toNat ((d.toNat + s.get (portDelay p) + s.nat R.SYS_LINK_FWD % 65536) % 65536)]) } }) ∧
  (∀ (p : Port) (c : Byte) (d : BitVec 16) (s : State), s.ringUp = true → s.isSat = true → s.link.ticked = true →
    s.flag F.SYS_LINK_STATE_TICKOK = true → c.toNat ≠ 0 → c.toNat = s.get F.SYS_LINK_STATE_TICKCNT + 1 →
    ∃ t, exec (.tickReceive p c d) s = .next t ∧ t.get F.SYS_LINK_STATE_TICKCNT = c.toNat ∧
      t.tag = (s.link.tickTag + c.toNat * 4000 + (divOpen 83 ((d.toNat + s.get (portDelay p)) * 16 : Nat) 1000).toNat) % 2 ^ 64 ∧
      t.link.tickAt = s.clk ∧ t.link.tickTag = s.link.tickTag % 2 ^ 64 ∧ t.occ = s.occ ∧
      t = { s with regs := t.regs, link := t.link, tag := t.tag } ∧
      s.regsKept t [R.SYS_LINK_STATE]) ∧
  (∀ s : State, s.isSat = true → s.link.tickLost = false → s.passed s.link.tickAt msec = true → s.kind .evt = 1 →
    s.str.satOn = [] →
    ∃ t, exec .tickLost s = .next t ∧ t.flag F.SYS_LINK_STATE_TICKOK = false ∧ s.occurred t 22 ∧
      t.link = { s.link with tickLost := true, tickRun := 0, baseOk := false } ∧
      (∀ n, ∀ c ∈ (t.sol.get n).queue ++ (t.hsw.get n).queue ++ t.str.solWire ++ t.str.hswWire, c.fromLead = false) ∧
      t = { s.leadDiscard with regs := t.regs, link := t.link, occ := t.occ } ∧
      s.regsKept t [R.SYS_LINK_STATE, (evBit 22).addr]) ∧
  (∀ s : State, s.isLead = true → s.ringUp = true → s.link.bcastSeq < 256 →
    ∃ t r, exec .tickBaseBroadcast s = .next t ∧
      t = { s with link := { s.link with
        sent := s.link.sent ++ [Sent.frame .out (Request.frame r 2), Sent.frame .inp (Request.frame r 2)]
        bcastSeq := (s.link.bcastSeq + 1) % 256 } } ∧
      r.bcast = true ∧ r.fromHost = false ∧ r.org.toNat % 64 = s.myAddr % 64 ∧ r.seq.toNat = s.link.bcastSeq ∧
      r.addr.toNat = R.SYS_TICK_BASE_LO ∧ r.body = leBytes 8 s.link.tickTag ∧ hcrc (r.headBytes 2) = r.hcrc ∧ crcGood 2 r = true)

/-- At a module with the lead role, a request for a satellite that comes back unconsumed is counted in SYS_LINK_ORGERR and
raises event 27; with no push to that satellite in flight nothing else changes. A pending HELLO whose reply was sent 1
s ago or more is dropped; before that nothing changes. That it is dropped at exactly 1 s, where R662 says more than 1 s
after, is the model's choice (log entry 1907). (R75, R662) -/
def Obligations.ReturnedLeadRequestIsCounted : Prop :=
  (∀ (a : Fin 64) (s : State), s.isLead = true → s.ringUp = true → s.kind .evt = 1 →
    (s.str.sats.get a.val).inFlight = [] →
    ∃ t, exec (.leadRequestReturn a) s = .next t ∧
      t.get F.SYS_LINK_ORGERR = min (s.get F.SYS_LINK_ORGERR + 1) 0xFFFF ∧ s.occurred t 27 ∧
      t = { s with regs := t.regs, occ := t.occ } ∧ s.regsKept t [R.SYS_LINK_ORGERR, (evBit 27).addr]) ∧
  (∀ (h : Hello) (s : State), s.sec.hello = some h →
    exec .helloExpiry s =
      .next (if h.since + second ≤ s.clk then { s with sec := { s.sec with hello := none } } else s))

/-- With a host key, a healthy TRNG and the SEC block running, HELLO is answered with type 1, the module's ephemeral
public key, its nonce, the salt and the signature of the device identity key over the hash of both keys, both nonces, the
salt and the address; it draws three numbers from the TRNG and waits from now. Without a host key, with an unhealthy TRNG
or with SEC disabled or failed it is answered ERR AUTH, counted and reported. FINISH with a pending HELLO, at most 1 s
after its reply, whose signature verifies under the host key, is answered with type 2 and result 0: a session with the
derived key, the salt and both counters 0 is in force, in place of one in force before, which ends with event 242. FINISH
without a pending HELLO, more than 1 s after its reply, or with a signature that does not verify is answered ERR AUTH,
counted and reported; a session in force stays. The HELLO is gone in any case. The cryptographic functions and the
TRNG's numbers are uninterpreted, FINISH at exactly 1 s is in time, and a failed SEC reports event 241 too: the model's
choices (log entries 14, 1907 and 1914). (R660, R661, R662, R89) -/
def Obligations.SessionHandshakeKeysTheSession : Prop :=
  (∀ (m : List Byte) (h : Hello) (s : State), m.head? = some 1 → s.hostKey ≠ 0 → s.sec.healthy = true → s.secRuns = true →
    h = { priv := Config.trng s.draws, qh := (m.drop 4).take 64, nh := (m.drop 68).take 16
          qd := leBytes 64 (Config.publicKey (Config.trng s.draws)).toNat
          nd := leBytes 16 (Config.trng (s.draws + 1)).toNat, salt := leBytes 4 (Config.trng (s.draws + 2)).toNat, since := s.clk } →
    s.sessionMsg m =
      (some ([1, 0, 0, 0] ++ h.qd ++ h.nd ++ h.salt ++ leBytes 64 (Config.ecdsaSign Config.deviceKey (Config.sha256
        (h.qh ++ h.nh ++ h.qd ++ h.nd ++ h.salt ++ [BitVec.ofNat 8 s.myAddr]))).toNat),
       { s with draws := s.draws + 3, sec := { s.sec with hello := some h } })) ∧
  (∀ (m : List Byte) (s : State), m.head? = some 1 → (s.hostKey = 0 ∨ s.sec.healthy = false ∨ s.secRuns = false) →
    (s.kind .sec = 1 ∨ s.kind .sec = 2) →
    ∃ t, s.sessionMsg m = (none, t) ∧ t.get F.SYS_LINK_AUTHERR = min (s.get F.SYS_LINK_AUTHERR + 1) 0xFFFF ∧
      s.occurred t 241 ∧ t = { s with regs := t.regs, occ := t.occ } ∧
      s.regsKept t [R.SYS_LINK_AUTHERR, H.sticky .sec, (evBit 241).addr]) ∧
  (∀ (m : List Byte) (h : Hello) (s : State), m.head? = some 2 → s.sec.hello = some h → s.clk ≤ h.since + second →
    Config.ecdsaVerify s.hostKey (Config.sha256 (h.qd ++ h.nd ++ h.qh ++ h.nh ++ h.salt)) (key512 (m.drop 4)) = true →
    ∃ t, s.sessionMsg m = (some [2, 0, 0, 0, 0], t) ∧
      t.sec = { s.sec with
        hello := none
        session := some { key := Config.hmac (h.nh ++ h.nd) (leBytes 32 (Config.ecdh h.priv (key512 h.qh)).toNat), salt := h.salt
                          fcIn := 0, fcOut := 0 } } ∧
      (s.sec.session = none → t = { s with sec := t.sec }) ∧
      (s.sec.session ≠ none → s.kind .sec = 1 → s.occurred t 242 ∧ t = { s with regs := t.regs, occ := t.occ, sec := t.sec } ∧
        s.regsKept t [(evBit 242).addr])) ∧
  (∀ (m : List Byte) (s : State), m.head? = some 2 → s.kind .sec = 1 →
    (∀ h, s.sec.hello = some h → h.since + second < s.clk ∨
      Config.ecdsaVerify s.hostKey (Config.sha256 (h.qd ++ h.nd ++ h.qh ++ h.nh ++ h.salt)) (key512 (m.drop 4)) = false) →
    ∃ t, s.sessionMsg m = (none, t) ∧ t.get F.SYS_LINK_AUTHERR = min (s.get F.SYS_LINK_AUTHERR + 1) 0xFFFF ∧
      s.occurred t 241 ∧ t = { s with regs := t.regs, occ := t.occ, sec := { s.sec with hello := none } } ∧
      s.regsKept t [R.SYS_LINK_AUTHERR, H.sticky .sec, (evBit 241).addr])

/-- A host write of a register word that AUTH, parity and alignment let through and that the rules of R64 refuse with a
code other than OPENREQ changes nothing but what the refusal itself is kept in. One refused with OPENREQ keeps every
register but the block's BLK_STICKY and, in CTL, its event register. An accepted write of SYS_TICK_BASE_LO stores the
value, notes that it waits for its high word and changes nothing else. An accepted write of a plain word, one that sets off no
command and changes no setting that acts at once (quietWord), changes only the word: its RW, RWL and RWO bits take the
value's, its W1C bits are cleared where the value has a 1, and every other bit keeps its value, as do reserved bits and bits
absent in the personality; at an offset that no map lists nothing changes. So an accepted write of a word of the
staging area or of the firmware or image window stores the value there and changes nothing else. A write of a DRAM word of the
snapshot or lane window from PU4 on, in a page that serves, stores its four bytes and changes nothing else. The model's
choices: such a command is an accepted request's write (log entry 202), the sticky bit follows OPENREQ alone (log entry
303), a safe-state event that still holds is not cleared (R148), a low word waits for its high word (log entry 2007), and
a write to a dead page is discarded (log entry 1813). (R17, R20, R21, R22, R36, R62, R64, R148) -/
def Obligations.RefusedRegisterWriteChangesNothing : Prop :=
  (∀ (auth : Bool) (a v : Word) (c : ErrCode) (s : State), a.toNat % 4 = 0 →
    (s.needsAuth a.toNat (BitVec.allOnes 32) v && !auth) = false → s.parity ≠ some 0 → 0x10000 ≤ a.toNat → a.toNat < 0x160000 →
    s.regCode auth a.toNat (BitVec.allOnes 32) v = some c →
    (c ≠ .openreq → exec (.registerWrite auth a v) s = .next { s with parity := none, lastErr := some (c, 0) }) ∧
    (c = .openreq → ∃ t, exec (.registerWrite auth a v) s = .next t ∧ t.lastErr = some (c, 0) ∧ t.parity = none ∧
      t = { s with regs := t.regs, occ := t.occ, lastErr := t.lastErr, parity := t.parity } ∧
      s.regsKept t [H.sticky .sol, H.sticky .hsw, H.sticky .ctl, H.sticky .can, (evBit 197).addr])) ∧
  (∀ (auth : Bool) (v : Word) (s : State), s.admits auth R.SYS_TICK_BASE_LO (BitVec.allOnes 32) v →
    ∃ t, exec (.registerWrite auth (BitVec.ofNat 32 R.SYS_TICK_BASE_LO) v) s = .next t ∧ t.word R.SYS_TICK_BASE_LO = v ∧
      t = { s with regs := t.regs, parity := none, lastErr := none, link := { s.link with loWait := true } } ∧
      s.regsKept t [R.SYS_TICK_BASE_LO]) ∧
  (∀ (auth : Bool) (a v : Word) (s : State), quietWord a.toNat = true → s.admits auth a.toNat (BitVec.allOnes 32) v →
    ∃ t, exec (.registerWrite auth a v) s = .next t ∧
      (∀ k < 32, s.bitIs a.toNat k [.rw, .rwl, .rwo] = true → nbit (s.boundBits a.toNat) k = false →
        (t.word a.toNat).getLsbD k = v.getLsbD k) ∧
      (∀ k < 32, s.bitIs a.toNat k [.w1c] = true → nbit (s.safeHolds a.toNat) k = false →
        (t.word a.toNat).getLsbD k = ((s.word a.toNat).getLsbD k && !v.getLsbD k)) ∧
      (∀ k < 32, (s.bitIs a.toNat k [.rw, .rwl, .rwo] = false ∨ nbit (s.boundBits a.toNat) k = true) →
        (s.bitIs a.toNat k [.w1c] = false ∨ nbit (s.safeHolds a.toNat) k = true) →
        (t.word a.toNat).getLsbD k = (s.word a.toNat).getLsbD k) ∧
      t = { s with regs := t.regs, parity := none, lastErr := none } ∧ s.regsKept t [a.toNat]) ∧
  (∀ (auth : Bool) (a v : Word) (s : State), 0x24 ≤ a.toNat % 65536 → fieldsAt a.toNat = [] → quietWord a.toNat = true →
    s.admits auth a.toNat (BitVec.allOnes 32) v →
    exec (.registerWrite auth a v) s = .next { s with parity := none, lastErr := none }) ∧
  (∀ (auth : Bool) (k : Nat) (a v : Word) (s : State),
    (k < 64 ∧ a = BitVec.ofNat 32 (R.SEC_STAGE k) ∨ k < 8192 ∧ (a = BitVec.ofNat 32 (R.SEC_WIN k) ∨ a = BitVec.ofNat 32 (R.CFG_WIN k))) →
    s.admits auth a.toNat (BitVec.allOnes 32) v →
    ∃ t, exec (.registerWrite auth a v) s = .next t ∧ t.word a.toNat = v ∧
      t = { s with regs := t.regs, parity := none, lastErr := none } ∧ s.regsKept t [a.toNat]) ∧
  (∀ (auth : Bool) (a v : Word) (s : State), 4 ≤ s.phaseOf → s.parity ≠ some 0 → a.toNat % 4 = 0 → 0x1A000000 ≤ a.toNat →
    a.toNat < 0x1F000000 → s.deadPage a.toNat = false →
    ∃ t, exec (.registerWrite auth a v) s = .next t ∧ t.bytes a.toNat 4 = leBytes 4 v.toNat ∧ s.bytesKept t a.toNat 4 ∧
      t = { s with mem := t.mem, parity := none, lastErr := none })

/-- For every block, where the write is accepted: BLK_ENABLE_CLEAR and BLK_ENABLE_SET give bit 0 of BLK_CTRL the value 0
and 1 and leave its other bits, with what follows from that change; in a block whose disabling has no effect of its
own (SYS, EVT and ARM) nothing else changes. BLK_SHADOW_SET takes a snapshot, also where SHADOW is already 1, and
BLK_SHADOW_CLEAR clears bit 2, with what follows. BLK_SOFT_RESET is the soft reset of the block, and for SYS asks for
a device reset from now. BLK_LOCK_SET sets LOCKED and changes nothing else. From PU4 on, at a present block whose register no
seal covers, the writes are accepted: the clear (but for SEC, which asks for AUTH) leaves ENABLE 0, the set, with the
block's clock running, leaves it 1, the shadow writes leave SHADOW 1 and 0, and the lock LOCKED 1. The soft reset of MEM and
of PLB, with neither footing nor course, returns every register to its Reset value but for those bits.
Which RO bits a soft reset keeps (keptBits), since they show what goes on through it, and that a soft reset waits for the
atomic unit in progress are the model's choices (log entry 50). (R103, R104, R105, R106, R109) -/
def Obligations.BlockControlTakesEffect : Prop :=
  (∀ (b : Block) (s : State), s.admits false (H.ctrl b) 1 0 →
    exec (.blkEnableClear b) s = .next (s.change (H.ctrl b) (s.word (H.ctrl b) &&& ~~~ 1#32)).settled) ∧
  (∀ b ∈ [Block.sys, .evt, .arm], ∀ s : State, s.admits false (H.ctrl b) 1 0 →
    ∃ t, exec (.blkEnableClear b) s = .next t ∧ t.word (H.ctrl b) = s.word (H.ctrl b) &&& ~~~ 1#32 ∧
      t = { s with regs := t.regs, parity := none, lastErr := none } ∧ s.regsKept t [H.ctrl b]) ∧
  (∀ (b : Block) (s : State), s.admits false (H.ctrl b) 1 1 →
    exec (.blkEnableSet b) s = .next (s.change (H.ctrl b) (s.word (H.ctrl b) ||| 1#32)).settled) ∧
  (∀ (b : Block) (s : State), s.admits false (H.ctrl b) 4 4 → s.flag (H.shadowBit b) = true →
    exec (.blkShadowSet b) s = .next (s.shadowTake b).settled) ∧
  (∀ (b : Block) (s : State), s.admits false (H.ctrl b) 4 4 → s.flag (H.shadowBit b) = false →
    exec (.blkShadowSet b) s = .next (s.change (H.ctrl b) (s.word (H.ctrl b) ||| 4#32)).settled) ∧
  (∀ (b : Block) (s : State), s.admits false (H.ctrl b) 4 0 →
    exec (.blkShadowClear b) s = .next (s.change (H.ctrl b) (s.word (H.ctrl b) &&& ~~~ 4#32)).settled) ∧
  (∀ (b : Block) (s : State), s.admits false (H.ctrl b) 2 2 → b ≠ .sys →
    exec (.blkSoftReset b) s = .next (s.softReset b).settled) ∧
  (∀ s : State, s.admits false (H.ctrl .sys) 2 2 →
    exec (.blkSoftReset .sys) s = .next { s with pwr := { s.pwr with softAt := some s.clk } }.settled) ∧
  (∀ (auth : Bool) (s : State),
    s.admits auth (H.ctrl .sys) (BitVec.allOnes 32) (BitVec.ofNat 32 ((s.nat (H.ctrl .sys) &&& 5) ||| 2)) →
    exec (.sysSoftReset auth) s =
      .next ({ s with pwr := { s.pwr with softAt := some s.clk } }.when (s.flag (H.shadowBit .sys)) (fun t => { s.shadowTake .sys with pwr := t.pwr })).settled) ∧
  (∀ (b : Block) (s : State), s.admits false (hdr b 0x01C) 0x100 0x100 →
    exec (.blkLockSet b) s = .next (s.put (H.locked b) 1).settled) ∧
  (∀ (b : Block) (s : State), s.headerFree b (H.ctrl b) → b ≠ .sec →
    ∃ t, exec (.blkEnableClear b) s = .next t ∧ t.flag (H.enable b) = false ∧ t.lastErr = none ∧ t.parity = none) ∧
  (∀ (b : Block) (s : State), s.headerFree b (H.ctrl b) → s.gatedBlock b = false →
    ∃ t, exec (.blkEnableSet b) s = .next t ∧ t.flag (H.enable b) = true ∧ t.lastErr = none ∧ t.parity = none) ∧
  (∀ (b : Block) (on : Bool) (s : State), s.headerFree b (H.ctrl b) →
    ∃ t, exec (if on then .blkShadowSet b else .blkShadowClear b) s = .next t ∧ t.flag (H.shadowBit b) = on ∧ t.lastErr = none ∧
      t.parity = none) ∧
  (∀ b ∈ [Block.mem, .plb], ∀ s : State, s.headerFree b (H.ctrl b) → s.cfg.footing = none → s.cfg.cur = none → s.cfg.prev = none →
    ∃ t, exec (.blkSoftReset b) s = .next t ∧ t.lastErr = none ∧
      (∀ a, a / 65536 = b.index → t.word a = mergeBits (resetWord a) (s.keptBits b a) (s.word a))) ∧
  (∀ (b : Block) (s : State), s.headerFree b (hdr b 0x01C) →
    ∃ t, exec (.blkLockSet b) s = .next t ∧ t.flag (H.locked b) = true ∧ t.lastErr = none ∧ t.parity = none)

/-- Taking the shadows of a block makes SHADOW 1 and keeps, for each of its shadowed registers, the value that a read
without SHADOW shows at this instant; shadows at other addresses stay as they are. Releasing them clears SHADOW and
drops the block's shadows. What a read shows of values that the spec leaves open is free in the snapshot too (log entry 5).
(R104) -/
def Obligations.ShadowsHoldOneInstant : Prop :=
  (∀ (b : Block) (s : State), (s.shadowTake b).flag (H.shadowBit b) = true ∧
    (∀ a ∈ shadowedRegs b, Table.find 0 a (s.shadowTake b).shadow = (s.putB (H.shadowBit b) false).view a) ∧
    (∀ a, a ∉ shadowedRegs b → Table.find 0 a (s.shadowTake b).shadow = Table.find 0 a s.shadow)) ∧
  (∀ (b : Block) (s : State), (s.shadowRelease b).flag (H.shadowBit b) = false ∧
    (∀ a, a / 65536 = b.index → Table.find 0 a (s.shadowRelease b).shadow = 0) ∧
    (∀ a, a / 65536 ≠ b.index → Table.find 0 a (s.shadowRelease b).shadow = Table.find 0 a s.shadow))

/-- Where the write is accepted, EVENT_CLEAR of block b leaves every register but the one written, and there clears
exactly those bits that the mask has at 1, that are events of the block, and that report no safe state which still
holds. SOL_EVT_HI is written in the same way. The command is an accepted request's write, the model's choice (log
entry 202). (R99, R148) -/
def Obligations.EventClearClearsWhatIsWrittenAsOne : Prop :=
  (∀ (b : Block) (mask : Word) (s : State), s.admitsSet (H.evt b) mask.toNat →
    ∃ t, exec (.eventClear b false mask) s = .next t ∧ t.lastErr = none ∧
      (∀ i, i < 16 → t.flag ⟨H.evt b, i, 1⟩ =
        (s.flag ⟨H.evt b, i, 1⟩ && !(mask.getLsbD i && nbit (evMask b (evGroup b)) i && !nbit (s.safeHolds (H.evt b)) i))) ∧
      t = { s with regs := t.regs, parity := none, lastErr := none } ∧ s.regsKept t [H.evt b]) ∧
  (∀ (mask : Word) (s : State), s.admitsSet R.SOL_EVT_HI mask.toNat →
    ∃ t, exec (.eventClear .sol true mask) s = .next t ∧ t.lastErr = none ∧
      (∀ i, i < 16 → t.flag ⟨R.SOL_EVT_HI, i, 1⟩ =
        (s.flag ⟨R.SOL_EVT_HI, i, 1⟩ && !(mask.getLsbD i && nbit (evMask .sol 9) i))) ∧
      t = { s with regs := t.regs, parity := none, lastErr := none } ∧ s.regsKept t [R.SOL_EVT_HI])

/-- Accepted writes: LANE_HEAD_WRITE and LANE_TAIL_WRITE give the pointer the value's 14 bits; of the entries that a moved
HEAD takes in, those in a dead page are counted as lost, with event 18. LANE_CTRL_WRITE gives the
control fields the value's; the pointers become 0 where DIR or LEAD changes; where EN falls, what the lane holds is
discarded and counted, with event 28. SYS_TICK_BASE_WRITE stores the high word; on a satellite with its tick it takes
the base, and a base other than the present one moves the time tag by the difference and raises event 25.
PRODUCER_RESUME of a lane that the SV-96 produces writes as many held entries as the ring has room for, the oldest first, at
HEAD and the slots after it: each slot holds the entry's sequence number and its bytes, the first with LOSTBEFORE in its FLAGS
where entries were lost before it; HEAD moves past them, the rest stays held, and no other byte, register or lane changes.
In LANE2, LANE4 and LANE7 what waited for the message goes on then.
BULK_ENTRY does nothing where LANE0 has no entry, discards and counts the entry while CFG is disabled and a malformed one,
and else executes the writes of the entry, counting it as executed where none is refused and else as refused, with
the code and index of the refused word and event 41. The model's choices: a low word of the tick base waits for its high
word (log entry 2007), where LOSTBEFORE stands (log entry 403), what a disable drops (log entry 402), that a dead page's
entries count as lost (log entry 1813), how a bulk entry's words are refused (log entries 301 and 406), and that such a write
is an accepted request's (log entry 202). (R85, R130, R131, R132, R137, R138, R139, R141, R142, R145, R146) -/
def Obligations.LanePointersAndProducersMove : Prop :=
  (∀ (n : Fin 16) (v : Word) (l : List Nat) (s : State), s.admitsSet (R.LANE_HEAD n.val) v.toNat →
    l = (List.range ((v.toNat % 2 ^ 14 + s.laneSize n.val - s.get (F.LANE_HEAD_HEAD n.val)) % s.laneSize n.val)).filter
      (fun j => s.deadPage (s.laneSlot n.val ((s.get (F.LANE_HEAD_HEAD n.val) + j) % s.laneSize n.val))) →
    (l = [] → ∃ t, exec (.laneHeadWrite n v) s = .next t ∧ t.lastErr = none ∧
      t.get (F.LANE_HEAD_HEAD n.val) = v.toNat % 2 ^ 14 ∧
      t = { s with regs := t.regs, parity := none, lastErr := none } ∧ s.regsKept t [R.LANE_HEAD n.val]) ∧
    (l ≠ [] → v.toNat % 2 ^ 14 ≠ s.get (F.LANE_HEAD_HEAD n.val) → s.kind .lane = 1 →
      ∃ t, exec (.laneHeadWrite n v) s = .next t ∧ t.lastErr = none ∧ t.get (F.LANE_HEAD_HEAD n.val) = v.toNat % 2 ^ 14 ∧
      t.get (F.LANE_LOST n.val) = min (s.get (F.LANE_LOST n.val) + l.length) (2 ^ (F.LANE_LOST n.val).w - 1) ∧ s.occurred t 18 ∧
      t = { s with regs := t.regs, occ := t.occ, parity := none, lastErr := none } ∧
      s.regsKept t [R.LANE_HEAD n.val, R.LANE_LOST n.val, (evBit 18).addr])) ∧
  (∀ (n : Fin 16) (v : Word) (s : State), s.admitsSet (R.LANE_TAIL n.val) v.toNat →
    ∃ t, exec (.laneTailWrite n v) s = .next t ∧ t.lastErr = none ∧ t.get (F.LANE_TAIL_TAIL n.val) = v.toNat % 2 ^ 14 ∧
      t = { s with regs := t.regs, parity := none, lastErr := none } ∧ s.regsKept t [R.LANE_TAIL n.val]) ∧
  (∀ (n : Fin 16) (v : Word) (s : State), s.admitsSet (R.LANE_CTRL n.val) v.toNat →
    (s.flag (F.LANE_CTRL_EN n.val) = true → v.getLsbD 0 = true) →
    ∃ t, exec (.laneCtrlWrite n v) s = .next t ∧ t.lastErr = none ∧ takeField (t.word (R.LANE_CTRL n.val)) 0 5 = v.toNat % 32 ∧
      (takeField v 1 2 = takeField (s.word (R.LANE_CTRL n.val)) 1 2 → s.regsKept t [R.LANE_CTRL n.val]) ∧
      (takeField v 1 2 ≠ takeField (s.word (R.LANE_CTRL n.val)) 1 2 →
        t.get (F.LANE_HEAD_HEAD n.val) = 0 ∧ t.get (F.LANE_TAIL_TAIL n.val) = 0) ∧
      t = { s with regs := t.regs, parity := none, lastErr := none } ∧
      s.regsKept t [R.LANE_CTRL n.val, R.LANE_HEAD n.val, R.LANE_TAIL n.val]) ∧
  (∀ (n : Fin 16) (v : Word) (s : State), s.admitsSet (R.LANE_CTRL n.val) v.toNat →
    s.flag (F.LANE_CTRL_EN n.val) = true → v.getLsbD 0 = false →
    takeField v 1 2 = takeField (s.word (R.LANE_CTRL n.val)) 1 2 → s.kind .lane = 1 → s.laneLevel n.val ≠ 0 →
    (s.lanes.get n.val).held = [] → n ≠ 2 → n ≠ 4 → n ≠ 7 →
    ∃ t, exec (.laneCtrlWrite n v) s = .next t ∧ t.lastErr = none ∧ takeField (t.word (R.LANE_CTRL n.val)) 0 5 = v.toNat % 32 ∧
      t.get (F.LANE_TAIL_TAIL n.val) = s.get (F.LANE_HEAD_HEAD n.val) ∧
      t.get (F.LANE_LOST n.val) = min (s.get (F.LANE_LOST n.val) + s.laneLevel n.val) (2 ^ (F.LANE_LOST n.val).w - 1) ∧
      s.occurred t 28 ∧ (∀ m, t.lanes.get m = s.lanes.get m) ∧
      t = { s with regs := t.regs, occ := t.occ, lanes := t.lanes, parity := none, lastErr := none } ∧
      s.regsKept t [R.LANE_CTRL n.val, R.LANE_TAIL n.val, R.LANE_LOST n.val, (evBit 28).addr]) ∧
  (∀ (v : Word) (s : State), s.isSat = false → s.admitsSet R.SYS_TICK_BASE_HI v.toNat →
    ∃ t, exec (.sysTickBaseWrite v) s = .next t ∧ t.word R.SYS_TICK_BASE_HI = v ∧
      t = { s with regs := t.regs, link := { s.link with loWait := false }, parity := none, lastErr := none } ∧
      s.regsKept t [R.SYS_TICK_BASE_HI]) ∧
  (∀ (v : Word) (base : Nat) (s : State), s.isSat = true → s.flag F.SYS_LINK_STATE_TICKOK = true →
    s.admitsSet R.SYS_TICK_BASE_HI v.toNat → base = s.nat R.SYS_TICK_BASE_LO + 2 ^ 32 * v.toNat →
    (base = s.link.tickTag → ∃ t, exec (.sysTickBaseWrite v) s = .next t ∧ t.word R.SYS_TICK_BASE_HI = v ∧
      t = { s with regs := t.regs, link := { s.link with loWait := false, baseOk := true }, parity := none, lastErr := none } ∧
      s.regsKept t [R.SYS_TICK_BASE_HI]) ∧
    (base ≠ s.link.tickTag → s.kind .evt = 1 → ∃ t, exec (.sysTickBaseWrite v) s = .next t ∧ t.word R.SYS_TICK_BASE_HI = v ∧
      t.tag = code 64 ((s.tag : Int) - s.link.tickTag + base) ∧ t.flag (evBit 25) = true ∧
      t.occ = s.occ ++ [(25, t.tag)] ∧
      t = { s with regs := t.regs, occ := t.occ, tag := t.tag, nav := { s.nav with steps := s.nav.steps + 1 }
                   link := { s.link with loWait := false, baseOk := true, tickTag := base }
                   parity := none, lastErr := none } ∧
      s.regsKept t [R.SYS_TICK_BASE_HI, (evBit 25).addr])) ∧
  (∀ (n : Fin 16) (s : State),
    exec (.producerResume n) s = .next (if n = 2 then (s.producerResume n.val).chunkSettle
      else if n = 4 then (s.producerResume n.val).geoSettle
      else if n = 7 then (s.producerResume n.val).capHeldDone else s.producerResume n.val)) ∧
  (∀ (n : Nat) (s : State), s.laneOut n = false → s.producerResume n = s) ∧
  (∀ (n : Fin 16) (h k : Nat) (x : LaneState) (s : State), s.laneOut n.val = true → laneSizeOk (s.laneSize n.val) = true →
    laneFits (s.get (F.LANE_BASE n.val)) (s.laneSize n.val) = true → h = s.get (F.LANE_HEAD_HEAD n.val) →
    h < s.laneSize n.val → s.get (F.LANE_TAIL_TAIL n.val) < s.laneSize n.val → x = s.lanes.get n.val →
    k = min x.held.length (s.laneSize n.val - 1 - s.laneLevel n.val) →
    (∀ j, j < k → ∀ i < 64, s.deadPage (s.laneSlot n.val ((h + j) % s.laneSize n.val) + i) = false) →
    ∃ t, s.producerResume n.val = t ∧ t.get (F.LANE_HEAD_HEAD n.val) = (h + k) % s.laneSize n.val ∧
      t.lanes.get n.val = { x with held := x.held.drop k, lostBefore := x.lostBefore && decide (k = 0) } ∧
      (∀ m, m ≠ n.val → t.lanes.get m = s.lanes.get m) ∧
      (∀ (j : Nat) (e : HeldEntry), j < k → x.held[j]? = some e →
        t.bytes (s.laneSlot n.val ((h + j) % s.laneSize n.val)) 64 = padTo 64 (leBytes 2 e.lseq ++
          (if j = 0 ∧ x.lostBefore = true then e.bytes.set 1 (e.bytes.getD 1 0 ||| 4) else e.bytes))) ∧
      (∀ c, (∀ j < k, c < s.laneSlot n.val ((h + j) % s.laneSize n.val) ∨
        s.laneSlot n.val ((h + j) % s.laneSize n.val) + 64 ≤ c) → t.byte c = s.byte c) ∧
      t = { s with regs := t.regs, mem := t.mem, lanes := t.lanes } ∧ s.regsKept t [R.LANE_HEAD n.val]) ∧
  (∀ s : State, s.present .cfg = false ∨ s.laneIn 0 = false ∨ s.laneLevel 0 = 0 → exec .bulkEntry s = .next s) ∧
  (∀ s : State, s.present .cfg = true → s.laneIn 0 = true → s.laneLevel 0 ≠ 0 →
    (s.enabled .cfg = false ∨ bulkWords (s.bytes (s.laneSlot 0 (s.get (F.LANE_TAIL_TAIL 0))) 64) = none) →
    ∃ t, exec .bulkEntry s = .next t ∧
      t.get (F.LANE_TAIL_TAIL 0) = s.laneNext 0 (s.get (F.LANE_TAIL_TAIL 0)) % 2 ^ 14 ∧
      t.get F.CFG_BULK_CNT_REF = min (s.get F.CFG_BULK_CNT_REF + 1) 0xFFFF ∧
      t = { s with regs := t.regs } ∧ s.regsKept t [R.LANE_TAIL 0, R.CFG_BULK_CNT]) ∧
  (∀ (ws : List (Nat × Word × Word)) (e : List Byte) (s u v : State), s.present .cfg = true → s.enabled .cfg = true →
    s.laneIn 0 = true → s.laneLevel 0 ≠ 0 →
    e = s.bytes (s.laneSlot 0 (s.get (F.LANE_TAIL_TAIL 0))) 64 → bulkWords e = some ws →
    (e.getD 2 0 = 1 → leNat ((e.drop 8).take 4) % 4096 + 4 * ws.length ≤ 4096) →
    u = s.put (F.LANE_TAIL_TAIL 0) (s.laneNext 0 (s.get (F.LANE_TAIL_TAIL 0))) →
    (State.hostWords false none ws 0 u = (none, v) → exec .bulkEntry s = .next (v.count F.CFG_BULK_CNT_OK 1)) ∧
    (∀ c i, State.hostWords false none ws 0 u = (some (c, i), v) →
      exec .bulkEntry s = .next (((((v.put F.CFG_BULK_ERR_CODE c.number).put F.CFG_BULK_ERR_INDEX i).put F.CFG_BULK_ERR_LSEQ
        (leNat (e.take 2))).count F.CFG_BULK_CNT_REF 1).raise 41)))

/-- An accepted COURSE_REQUEST while a change is in progress becomes the queued request and nothing else changes but
CFG_COURSE_REQ; else the change to the slot starts: BUSY is 1, TARGET is the slot, every present block is pending in
CFG_COURSE_PEND, and the slot's course is the one in force. COURSE_TAKE of a pending block whose clock runs, at a safe
point of the block, writes its fields and takes the course; where neither the footing nor any course has an entry for it, it shows the new course and revision in its BLK_COURSE and clears its pending bits, and with the last
block the change ends: BUSY falls, the target is the current course and event 36 is raised. Else it does nothing. CRS_TMO
raises event 37 once in a change that has lasted CFG_COURSE_TMO, and does nothing else. The model's choices: the safe points of
GEO, STR, CTL and PACE (log entry 311), that a gated block waits (log entry 311), the parts in which PACE takes a course (log
entry 1407), which fields a course writes (log entry 308), and what a change of MODE to OFF does to a switch (log entry
1211). (R122, R123, R124) -/
def Obligations.CourseChangesStartQueueAndFinish : Prop :=
  (∀ (slot : BitVec 4) (s : State), s.admitsSet R.CFG_COURSE_REQ slot.toNat → s.flag F.CFG_COURSE_STAT_BUSY = true →
    ∃ t, exec (.courseRequest slot) s = .next t ∧ t.lastErr = none ∧ t.get F.CFG_COURSE_STAT_QUEUED = slot.toNat ∧
      t.flag F.CFG_COURSE_STAT_QVALID = true ∧ t = { s with regs := t.regs, parity := none, lastErr := none } ∧
      s.regsKept t [R.CFG_COURSE_REQ, R.CFG_COURSE_STAT]) ∧
  (∀ (slot : BitVec 4) (s : State), s.admitsSet R.CFG_COURSE_REQ slot.toNat → s.flag F.CFG_COURSE_STAT_BUSY = false →
    ∃ t, exec (.courseRequest slot) s = .next t ∧ t.lastErr = none ∧ t.flag F.CFG_COURSE_STAT_BUSY = true ∧
      t.get F.CFG_COURSE_STAT_TARGET = slot.toNat ∧ t.cfg.cur = s.slotCourse slot.toNat ∧ t.cfg.prev = s.cfg.cur ∧
      t.cfg.crsAt = s.clk ∧ (∀ b ∈ allBlocks, nbit (t.nat R.CFG_COURSE_PEND) b.index = s.present b) ∧
      t = { s with regs := t.regs, cfg := t.cfg, parity := none, lastErr := none } ∧
      s.regsKept t ([R.CFG_COURSE_REQ, R.CFG_COURSE_STAT, R.CFG_COURSE_PEND] ++ allBlocks.map (fun b => hdr b 0x020))) ∧
  (∀ (b : Block) (s : State), s.flag F.CFG_COURSE_STAT_BUSY = false ∨ s.coursePends b = false ∨ s.gatedBlock b = true ∨
    s.safePoint b = false → exec (.courseTake b) s = .next s) ∧
  (∀ (b : Block) (s : State), s.flag F.CFG_COURSE_STAT_BUSY = true → s.coursePends b = true → s.gatedBlock b = false →
    s.safePoint b = true → b ≠ .can → b ≠ .pace → exec (.courseTake b) s = .next ((s.courseFields b s.cfg.prev s.cfg.cur).courseTaken b)) ∧
  (∀ (b : Block) (s : State), s.flag F.CFG_COURSE_STAT_BUSY = true → s.coursePends b = true → s.gatedBlock b = false →
    s.safePoint b = true → (b = .can → s.cfg.canLate = [] ∧ s.canInFlight = []) →
    (b = .pace → s.cfg.paceLate = [] ∧ ∀ u < 20, s.enabled .pace = false ∨ s.paceUnitDue u = true) → b ≠ .hsw → s.courseEntries s.cfg.cur b = [] → (∀ c, s.cfg.prev = some c ∨ c ∈ s.cfg.courses.filterMap (·.2) → entriesOf b c.sets = []) →
    (∀ f, s.cfg.footing = some f → entriesOf b f.sets = []) →
    setBit (s.nat R.CFG_COURSE_PEND) b.index false ≠ 0 →
    ∃ t, exec (.courseTake b) s = .next t ∧ t.get (H.course b) = s.get F.CFG_COURSE_STAT_TARGET % 32 ∧
      t.flag (H.pendingBit b) = false ∧ t.get (H.rev b) = (match s.cfg.cur with | some c => c.rev | none => 0) % 256 ∧
      t.coursePends b = false ∧ t = { s with regs := t.regs } ∧ s.regsKept t [hdr b 0x020, R.CFG_COURSE_PEND]) ∧
  (∀ (b : Block) (s : State), s.flag F.CFG_COURSE_STAT_BUSY = true → s.coursePends b = true → s.gatedBlock b = false →
    s.safePoint b = true → (b = .can → s.cfg.canLate = [] ∧ s.canInFlight = []) →
    (b = .pace → s.cfg.paceLate = [] ∧ ∀ u < 20, s.enabled .pace = false ∨ s.paceUnitDue u = true) → b ≠ .hsw → s.courseEntries s.cfg.cur b = [] →
    (∀ c, s.cfg.prev = some c ∨ c ∈ s.cfg.courses.filterMap (·.2) → entriesOf b c.sets = []) → (∀ f, s.cfg.footing = some f → entriesOf b f.sets = []) →
    setBit (s.nat R.CFG_COURSE_PEND) b.index false = 0 → s.flag F.CFG_COURSE_STAT_QVALID = false → s.kind .cfg = 1 →
    ∃ t, exec (.courseTake b) s = .next t ∧ t.get (H.course b) = s.get F.CFG_COURSE_STAT_TARGET % 32 ∧
      t.nat R.CFG_COURSE_PEND = 0 ∧ t.flag F.CFG_COURSE_STAT_BUSY = false ∧
      t.get F.CFG_COURSE_STAT_CURRENT = s.get F.CFG_COURSE_STAT_TARGET ∧ s.occurred t 36 ∧
      t = { s with regs := t.regs, occ := t.occ } ∧
      s.regsKept t [hdr b 0x020, R.CFG_COURSE_PEND, R.CFG_COURSE_STAT, (evBit 36).addr]) ∧
  (∀ s : State, s.flag F.CFG_COURSE_STAT_BUSY = true → s.cfg.crsTmo = false →
    s.passed s.cfg.crsAt (s.nat R.CFG_COURSE_TMO % 65536 * msec) = true → s.kind .cfg = 1 →
    ∃ t, exec .crsTmo s = .next t ∧ t.cfg = { s.cfg with crsTmo := true } ∧ s.occurred t 37 ∧
      t = { s with regs := t.regs, occ := t.occ, cfg := t.cfg } ∧ s.regsKept t [(evBit 37).addr]) ∧
  (∀ s : State, s.flag F.CFG_COURSE_STAT_BUSY = false ∨ s.cfg.crsTmo = true ∨
    s.passed s.cfg.crsAt (s.nat R.CFG_COURSE_TMO % 65536 * msec) = false → exec .crsTmo s = .next s)

/-- An accepted IMG_ERASE, IMG_PROGRAM, IMG_VERIFY or LOAD_COURSE sets BUSY and is the command in progress, with the
offset and length latched; ERASE and PROGRAM queue as flash work of class 3, VERIFY and LOAD_COURSE wait behind chunk
signing. IMG_CMD_COMPLETE of an ERASE that
succeeds erases the copy that CFG_FTG_STATE.BOOTED does not name, leaves the other, and counts one erase of each of its 16
sectors, where their contents lie; of a PROGRAM within the copy
writes the image window there; either clears BUSY, shows RESULT 0 and raises event 39. An ERASE or PROGRAM that fails shows
RESULT 7 and raises event 40, with a free content in the copy. A PROGRAM beyond the copy changes nothing but its RESULT 4, with
event 40. Of a VERIFY it shows what the check of the copy gives,
with event 39 or 40, and of a LOAD_COURSE that of the window, with event 39 or 38. With no command in progress, or one that
waits behind chunk signing, it does nothing. The model's choices: the numbers of the flash sectors (log entry 1814), the
content that a failed operation leaves (log entry 5), RESULT 4 beyond the copy (log entry 310), the order of the checks (log
entries 305 and 312), and that a command begun is not interrupted by chunk signing (log entry 1916). (R127, R128, R633,
R634, R671) -/
def Obligations.ImageCommandsRunAndReport : Prop :=
  (∀ s : State, s.admitsSet R.CFG_IMG_CMD 1 →
    ∃ t, exec .imgErase s = .next t ∧ t.lastErr = none ∧ t.flag F.CFG_IMG_STAT_BUSY = true ∧ t.cfg = { s.cfg with img := some .erase } ∧
      t.flash = { s.flash with class3 := s.flash.class3 ++ [.image] } ∧ t.sec = { s.sec with imgWaits := false } ∧
      t = { s with regs := t.regs, cfg := t.cfg, flash := t.flash, sec := t.sec, parity := none, lastErr := none } ∧
      s.regsKept t [R.CFG_IMG_STAT]) ∧
  (∀ s : State, s.admitsSet R.CFG_IMG_CMD 2 →
    ∃ t, exec .imgProgram s = .next t ∧ t.lastErr = none ∧ t.flag F.CFG_IMG_STAT_BUSY = true ∧
      t.cfg = { s.cfg with img := some (.program (s.nat R.CFG_IMG_OFS % 2 ^ 20) (s.nat R.CFG_IMG_LEN % 65536)) } ∧
      t.flash = { s.flash with class3 := s.flash.class3 ++ [.image] } ∧ t.sec = { s.sec with imgWaits := false } ∧
      t = { s with regs := t.regs, cfg := t.cfg, flash := t.flash, sec := t.sec, parity := none, lastErr := none } ∧
      s.regsKept t [R.CFG_IMG_STAT]) ∧
  (∀ s : State, s.admitsSet R.CFG_IMG_CMD 3 →
    ∃ t, exec .imgVerify s = .next t ∧ t.lastErr = none ∧ t.flag F.CFG_IMG_STAT_BUSY = true ∧ t.cfg = { s.cfg with img := some .verify } ∧
      t.sec = { s.sec with imgWaits := s.signWaits } ∧
      t = { s with regs := t.regs, cfg := t.cfg, sec := t.sec, parity := none, lastErr := none } ∧ s.regsKept t [R.CFG_IMG_STAT]) ∧
  (∀ (slot : BitVec 4) (s : State), s.admitsSet R.CFG_IMG_CMD (slot.toNat * 256 + 4) →
    ∃ t, exec (.loadCourse slot) s = .next t ∧ t.lastErr = none ∧ t.flag F.CFG_IMG_STAT_BUSY = true ∧
      t.cfg = { s.cfg with img := some (.load slot.toNat) } ∧ t.sec = { s.sec with imgWaits := s.signWaits } ∧
      t = { s with regs := t.regs, cfg := t.cfg, sec := t.sec, parity := none, lastErr := none } ∧ s.regsKept t [R.CFG_IMG_STAT]) ∧
  (∀ (c : ImgCmd) (o n : Nat) (ok : Bool) (s : State), s.cfg.img = some c → s.kind .cfg = 1 → s.sec.imgWaits = false →
    (c = .erase ∧ (∀ k, s.flash.wearB.get k < 79984) ∨ c = .program o n ∧ o + n ≤ 0x100000) →
    ∃ t, exec (.imgCmdComplete ok) s = .next t ∧ t.flag F.CFG_IMG_STAT_BUSY = false ∧
      t.get F.CFG_IMG_STAT_RESULT = (if ok then 0 else 7) ∧ s.occurred t (if ok then 39 else 40) ∧ t.cfg.img = none ∧
      (s.get F.CFG_FTG_STATE_BOOTED = 0 → t.cfg.copyA = s.cfg.copyA) ∧ (s.get F.CFG_FTG_STATE_BOOTED ≠ 0 → t.cfg.copyB = s.cfg.copyB) ∧
      (ok = true → c = .erase → t.otherCopy = []) ∧
      (∀ k, t.flash.wearB.get k = s.flash.wearB.get k + (if c = .erase then ((List.range 16).filter (fun i =>
        s.sectorHome ((if s.get F.CFG_FTG_STATE_BOOTED = 0 then 144 else 128) + i) == k)).length else 0)) ∧
      (ok = true → c = .program o n → t.otherCopy = flashWrite s.otherCopy o (s.imgWindow n)) ∧
      (ok = false → t.otherCopy = Config.failedFlash s.fresh (if c = .erase then [] else flashWrite s.otherCopy o (s.imgWindow n)) ∧
        t.fresh = s.fresh + 1) ∧
      t = { s with regs := t.regs, occ := t.occ, cfg := t.cfg, flash := t.flash, fresh := t.fresh } ∧
      s.regsKept t [R.CFG_IMG_STAT, (evBit 39).addr]) ∧
  (∀ (o n : Nat) (ok : Bool) (s : State), s.cfg.img = some (.program o n) → 0x100000 < o + n → s.kind .cfg = 1 →
    s.sec.imgWaits = false →
    ∃ t, exec (.imgCmdComplete ok) s = .next t ∧ t.flag F.CFG_IMG_STAT_BUSY = false ∧ t.get F.CFG_IMG_STAT_RESULT = 4 ∧
      s.occurred t 40 ∧ t.cfg = { s.cfg with img := none } ∧ t = { s with regs := t.regs, occ := t.occ, cfg := t.cfg, flash := t.flash } ∧
      s.regsKept t [R.CFG_IMG_STAT, (evBit 40).addr]) ∧
  (∀ (ok : Bool) (s : State), s.cfg.img = none ∨ s.sec.imgWaits = true → exec (.imgCmdComplete ok) s = .next s) ∧
  (∀ (ok : Bool) (s : State), s.cfg.img = some .verify → s.sec.imgWaits = false → s.kind .cfg = 1 → s.verifyImage ≠ 3 →
    ∃ t, exec (.imgCmdComplete ok) s = .next t ∧ t.flag F.CFG_IMG_STAT_BUSY = false ∧
      t.get F.CFG_IMG_STAT_RESULT = s.verifyImage % 2 ^ F.CFG_IMG_STAT_RESULT.w ∧
      s.occurred t (if s.verifyImage = 0 then 39 else 40) ∧ t.cfg = { s.cfg with img := none } ∧
      t = { s with regs := t.regs, occ := t.occ, cfg := t.cfg, flash := t.flash } ∧
      s.regsKept t [R.CFG_IMG_STAT, (evBit 39).addr]) ∧
  (∀ (n r : Nat) (ok : Bool) (s u : State), s.cfg.img = some (.load n) → s.sec.imgWaits = false → s.loadCourse n = (r, u) → u.kind .cfg = 1 →
    ∃ t, exec (.imgCmdComplete ok) s = .next t ∧ t.flag F.CFG_IMG_STAT_BUSY = false ∧
      t.get F.CFG_IMG_STAT_RESULT = r % 2 ^ F.CFG_IMG_STAT_RESULT.w ∧ u.occurred t (if r = 0 then 39 else 38) ∧
      t.cfg = { u.cfg with img := none } ∧ t = { u with regs := t.regs, occ := t.occ, cfg := t.cfg, flash := t.flash } ∧
      u.regsKept t [R.CFG_IMG_STAT, (evBit 39).addr])

/-- With both bias switches on, GNSS running, VANT good and neither antenna short, a sample whose currents lie from
OPEN_MA to SHORT_MA and below the hardware limit judges both antennas ok and shows the currents. A current at the
hardware limit judges the antenna short, raises its event and suspends its searching and tracking channels. A retest
within SHORT_MA closes the switch again. VANT below 3.0 V or above 5.5 V opens both switches, shows VANT and raises
event 59; its return into that range closes them; a value on the other side of a limit does nothing. A current below
OPEN_MA for the 100th ms in a row judges the antenna open, with its event. A gain update of a block that does not run,
or is stopped, changes nothing; of a running one, the gain of a path that is enabled and not frozen moves towards its
aim by at most one step. The model's choices: when GNSS_VANT and VANT_OK are shown (log entry 507), that GNSS_ANT_CUR
keeps its last value while the bias is off (log entry 517), that a path with PATH_EN = 0 takes part in no judgement
(log entry 520), and that measured values come with the command (log entry 13). (R156, R157, R159, R161, R175) -/
def Obligations.AntennaSupplyIsJudged : Prop :=
  (∀ (a b : BitVec 16) (s : State), s.runs .gnss = true → s.biasEn 0 = true → s.biasEn 1 = true → s.gnss.vantBad = false →
    (∀ x ∈ [a, b], s.get F.GNSS_ANT_THR_OPEN_MA ≤ x.toNat ∧ x.toNat ≤ s.get F.GNSS_ANT_THR_SHORT_MA ∧ x.toNat < 120) →
    s.get (antFld 0) ≠ 3 → s.get (antFld 1) ≠ 3 →
    ∃ t, exec (.biasSample a b) s = .next t ∧ t.get (antFld 0) = 1 ∧ t.get (antFld 1) = 1 ∧
      t.get F.GNSS_ANT_CUR_ANT_A = a.toNat ∧ t.get F.GNSS_ANT_CUR_ANT_B = b.toNat ∧
      t = { s with regs := t.regs, gnss := { s.gnss with ant := t.gnss.ant } } ∧
      s.regsKept t [R.GNSS_FE_STAT, R.GNSS_ANT_CUR]) ∧
  (∀ (a : Fin 2) (s : State), s.runs .gnss = true → s.biasEn a.val = true → s.gnss.vantBad = false →
    s.get (antFld a.val) ≠ 3 →
    ∃ t, exec (.antHwLimit a) s = .next t ∧ t.get (antFld a.val) = 3 ∧ s.occurred t (if a.val = 0 then 50 else 52) ∧
      (∀ n, n / 96 = a.val → n < 192 → s.chActive n = true → t.chState n = 0 ∧ t.get (F.GNSS_CH_STATE_EXIT n) = 5) ∧
      t = { s with regs := t.regs, occ := t.occ, gnssCh := t.gnssCh } ∧
      s.regsKept t ([R.GNSS_FE_STAT, (evBit 50).addr] ++ (List.range 192).map R.GNSS_CH_STATE)) ∧
  (∀ (a : Fin 2) (ma : BitVec 16) (s : State), s.get (antFld a.val) = 3 → ma.toNat ≤ s.get F.GNSS_ANT_THR_SHORT_MA →
    ma.toNat < 120 →
    ∃ t, exec (.antRetest a ma) s = .next t ∧ t.get (antFld a.val) = 1 ∧ t.gnss.ant.get a.val = default ∧
      t = { s with regs := t.regs, gnss := { s.gnss with ant := t.gnss.ant } } ∧ s.regsKept t [R.GNSS_FE_STAT]) ∧
  (∀ (mv : BitVec 16) (s : State), s.runs .gnss = true → (s.biasEn 0 = true ∨ s.biasEn 1 = true) → s.gnss.vantBad = false →
    (mv.toNat < 3000 ∨ 5500 < mv.toNat) →
    ∃ t, exec (.vantFlt mv) s = .next t ∧ t.get F.GNSS_VANT_VANT = mv.toNat ∧ t.flag F.GNSS_FE_STAT_VANT_OK = false ∧
      s.occurred t 59 ∧ t.gnss = { s.gnss with vantBad := true } ∧
      t = { s with regs := t.regs, occ := t.occ, gnss := t.gnss } ∧
      s.regsKept t [R.GNSS_VANT, R.GNSS_FE_STAT, (evBit 59).addr]) ∧
  (∀ (mv : BitVec 16) (s : State), (3000 ≤ mv.toNat ∧ mv.toNat ≤ 5500 ∧ s.runs .gnss = true → exec (.vantFlt mv) s = .next s) ∧
    (mv.toNat < 3000 ∨ 5500 < mv.toNat → exec (.vantRestore mv) s = .next s)) ∧
  (∀ (mv : BitVec 16) (s : State), 3000 ≤ mv.toNat → mv.toNat ≤ 5500 →
    ∃ t, exec (.vantRestore mv) s = .next t ∧ t.get F.GNSS_VANT_VANT = mv.toNat ∧ t.flag F.GNSS_FE_STAT_VANT_OK = true ∧
      t.gnss = { s.gnss with vantBad := false } ∧ t = { s with regs := t.regs, gnss := t.gnss } ∧
      s.regsKept t [R.GNSS_VANT, R.GNSS_FE_STAT]) ∧
  (∀ (g0 g1 g2 g3 : BitVec 7) (s : State), s.runs .gnss = true → s.gnss.stopped = false →
    ∃ t, exec (.agcUpdate g0 g1 g2 g3) s = .next t ∧
      (∀ p, p < 4 → s.pathEn p = true → nbit (s.get F.GNSS_AGC_CTRL_FREEZE) p = false →
        let aim := ([g0, g1, g2, g3].getD p 0).toNat
        t.get (gainFld p) = (if s.get (gainFld p) < aim then s.get (gainFld p) + 1
          else if aim < s.get (gainFld p) then s.get (gainFld p) - 1 else aim)) ∧
      (∀ p, p < 4 → (s.pathEn p = false ∨ nbit (s.get F.GNSS_AGC_CTRL_FREEZE) p = true) → t.get (gainFld p) = s.get (gainFld p)) ∧
      t = { s with regs := t.regs, occ := t.occ, gnss := t.gnss } ∧
      s.regsKept t [R.GNSS_AGC_GAIN_A, R.GNSS_AGC_GAIN_A + 4, R.GNSS_AGC_REF_A, R.GNSS_AGC_REF_A + 4, R.GNSS_FE_STAT, (evBit 53).addr]) ∧
  (∀ (g0 g1 g2 g3 : BitVec 7) (s : State), s.runs .gnss = false ∨ s.gnss.stopped = true →
    exec (.agcUpdate g0 g1 g2 g3) s = .next s) ∧
  (∀ (a b : BitVec 16) (s : State),
    exec (.biasSample a b) s = .next ((s.antSample 0 a.toNat).antSample 1 b.toNat).vantShow) ∧
  (∀ (a : Fin 2) (ma : Nat) (s : State), s.runs .gnss = true → s.biasEn a.val = true → s.gnss.vantBad = false →
    s.get (antFld a.val) ≠ 3 → ma < s.get F.GNSS_ANT_THR_OPEN_MA → ma ≤ s.get F.GNSS_ANT_THR_SHORT_MA → ma < 120 →
    99 ≤ (s.gnss.ant.get a.val).openMs →
    ∃ t, s.antSample a.val ma = t ∧ t.get (antFld a.val) = 2 ∧
      t.occ = s.occ ++ (if s.get (antFld a.val) = 2 then [] else [(if a.val = 0 then 49 else 51, s.tag)]) ∧
      t = { s with regs := t.regs, occ := t.occ, gnss := { s.gnss with ant := t.gnss.ant } } ∧
      s.regsKept t [R.GNSS_FE_STAT, R.GNSS_ANT_CUR, (evBit 49).addr]) ∧
  (∀ (a : Fin 2) (ma : Nat) (s : State), s.runs .gnss = false ∨ s.biasEn a.val = false →
    ∃ t, s.antSample a.val ma = t ∧ t.get (antFld a.val) = 0 ∧
      t = { s with regs := t.regs, gnss := { s.gnss with ant := t.gnss.ant } } ∧ s.regsKept t [R.GNSS_FE_STAT])

/-- At a dump without observations of a running block, where no capture runs: a channel in TRACK with a usable path
and no host change pending counts LOCKT, saturating, and a channel with a host change pending and MODE = OFF is IDLE,
with LOCKT and the loss counts 0. An assessment of one channel in TRACK that fails for its LOL_N-th time in a row puts
it into RECOVER with the reason, 1.0 chip spacing and LOCKT 0, counts the loss and raises event 55. PULLIN for 500 ms,
and RECOVER for RECOVER_T, end in ACQ, the latter with the last Doppler as the search centre. A cell detected in ACQ
puts the channel into PULLIN at 1.0 chip spacing and at its Doppler. An accepted write of MODE, or of the signal in
MANUAL or TEST, waits for the next dump, and its register holds the value. The model's choices: the order of a
channel's bookkeeping at a dump (log entry 501), what EXIT shows (log entry 503), which values of a channel come with
the command (log entry 508), where LOCKT is kept (log entry 512), where a search is centred (log entry 513), and from
when a channel is synchronized (log entry 514). (R162, R166, R169, R171, R172, R173, R174) -/
def Obligations.ChannelsSearchTrackAndLoseLock : Prop :=
  (∀ (sub : BitVec 16) (vis : List (Byte × Byte)) (s : State), s.runs .gnss = true → s.gnss.stopped = false → s.capturing = false →
    ∃ t, exec (.correlatorDump sub vis []) s = .next t ∧
      (∀ n, n < s.nGch → (s.gnssCh.get n).hostPend = false → s.chState n = 3 → s.chUsable n = true →
        t.get (F.GNSS_CH_LOCKT n) = min (s.get (F.GNSS_CH_LOCKT n) + 1) 0xFFFFFFFF ∧ t.chState n = 3) ∧
      (∀ n, n < s.nGch → (s.gnssCh.get n).hostPend = true → s.chState n ≠ 6 → s.get (F.GNSS_CH_CTRL_MODE n) = 0 →
        t.chState n = 0 ∧ t.nat (R.GNSS_CH_LOCKT n) = 0 ∧ t.nat (R.GNSS_CH_LLI n) = 0 ∧ (t.gnssCh.get n).hostPend = false) ∧
      t.occ = s.occ ∧ t = { s with regs := t.regs, gnssCh := t.gnssCh } ∧
      (∀ a, (a < R.GNSS_CH_CTRL 0 ∨ R.GNSS_CH_CTRL 192 ≤ a) → t.word a = s.word a)) ∧
  (∀ (o : LockObs) (s : State), s.runs .gnss = true → s.gnss.stopped = false → s.chState o.ch.val = 3 →
    256 * s.get F.GNSS_ACQ_CTRL_LOCK_CN0 ≤ o.cn0.toNat → o.pll < 500 → (s.gnssCh.get o.ch.val).hostPend = false →
    s.get F.GNSS_ACQ_CTRL_LOL_N ≤ (s.gnssCh.get o.ch.val).fails + 1 →
    ∃ t, exec (.lockAssessment [o]) s = .next t ∧ t.chState o.ch.val = 4 ∧ t.get (F.GNSS_CH_STATE_EXIT o.ch.val) = 2 ∧
      t.get (F.GNSS_CH_SPC_ACT o.ch.val) = 64 ∧ t.nat (R.GNSS_CH_LOCKT o.ch.val) = 0 ∧
      t.get (F.GNSS_CH_CN0_CN0 o.ch.val) = o.cn0.toNat ∧ (t.gnssCh.get o.ch.val).since = s.clk ∧
      t.get (F.GNSS_CH_LLI_LOL o.ch.val) = min (s.get (F.GNSS_CH_LLI_LOL o.ch.val) + 1) 0xFFFF ∧ s.occurred t 55 ∧
      t = { s with regs := t.regs, occ := t.occ, gnssCh := t.gnssCh } ∧
      (∀ m, m ≠ o.ch.val → t.gnssCh.get m = s.gnssCh.get m ∧ t.word (R.GNSS_CH_STATE m) = s.word (R.GNSS_CH_STATE m))) ∧
  (∀ (ch : Fin 192) (s : State), s.chState ch.val = 2 → s.passed (s.gnssCh.get ch.val).since (500 * msec) = true →
    ∃ t, exec (.pullinTimeout ch) s = .next t ∧ t.chState ch.val = 1 ∧ t.get (F.GNSS_CH_SPC_ACT ch.val) = 64 ∧
      t.gnssCh = s.gnssCh.modify ch.val (fun c => { c with
        centre := none }) ∧
      t.chCentre ch.val = (if s.get (F.GNSS_CH_CTRL_MODE ch.val) = 2 then s.gets (F.GNSS_CH_AID_DOPP_CTR ch.val) * 256 else 0) ∧
      t = { s with regs := t.regs, gnssCh := t.gnssCh } ∧ s.regsKept t [R.GNSS_CH_STATE ch.val, R.GNSS_CH_SPC_ACT ch.val]) ∧
  (∀ (ch : Fin 192) (s : State), s.chState ch.val = 4 →
    s.passed (s.gnssCh.get ch.val).since (s.get F.GNSS_RECOVER_RECOVER_T * msec) = true →
    ∃ t, exec (.recoverTimeout ch) s = .next t ∧ t.chState ch.val = 1 ∧ t.get (F.GNSS_CH_SPC_ACT ch.val) = 64 ∧
      t.gnssCh = s.gnssCh.modify ch.val (fun c => { c with centre := some (s.int (R.GNSS_CH_DOPP ch.val)) }) ∧
      t = { s with regs := t.regs, gnssCh := t.gnssCh } ∧ s.regsKept t [R.GNSS_CH_STATE ch.val, R.GNSS_CH_SPC_ACT ch.val]) ∧
  (∀ (ch : Fin 192) (s : State), s.chState ch.val ≠ 2 ∨ s.passed (s.gnssCh.get ch.val).since (500 * msec) = false →
    exec (.pullinTimeout ch) s = .next s) ∧
  (∀ (ch : Fin 192) (s : State), s.chState ch.val ≠ 4 ∨
    s.passed (s.gnssCh.get ch.val).since (s.get F.GNSS_RECOVER_RECOVER_T * msec) = false →
    exec (.recoverTimeout ch) s = .next s) ∧
  (∀ (vis : List (Byte × Byte)) (o : DumpObs) (s : State), o.ch.val < s.nGch → s.chState o.ch.val = 1 →
    s.cellDetected o.ch.val o = true →
    ∃ t, s.chObserve vis o = t ∧ t.chState o.ch.val = 2 ∧ t.get (F.GNSS_CH_SPC_ACT o.ch.val) = 64 ∧
      (t.gnssCh.get o.ch.val).since = s.clk ∧ (t.gnssCh.get o.ch.val).pllOn = false ∧
      t.int (R.GNSS_CH_DOPP o.ch.val) = signed 32 (code 32 (s.cellDoppler o.ch.val o.cell.2)) ∧
      t = { s with regs := t.regs, gnssCh := t.gnssCh }) ∧
  (∀ (ch : Fin 192) (v : Word) (s : State), s.admitsSet (R.GNSS_CH_CTRL ch.val) v.toNat →
    ∃ t, exec (.gnssChModeWrite ch false v) s = .next t ∧ t.lastErr = none ∧
      t.get (F.GNSS_CH_CTRL_MODE ch.val) = takeField v (F.GNSS_CH_CTRL_MODE ch.val).lo 2 ∧
      t.gnssCh = s.gnssCh.modify ch.val (fun c => { c with hostPend := true }) ∧
      t = { s with regs := t.regs, gnssCh := t.gnssCh, parity := none, lastErr := none } ∧
      s.regsKept t [R.GNSS_CH_CTRL ch.val]) ∧
  (∀ (ch : Fin 192) (v : Word) (s : State), s.admitsSet (R.GNSS_CH_SIG ch.val) v.toNat →
    ∃ t, exec (.gnssChModeWrite ch true v) s = .next t ∧ t.lastErr = none ∧
      t.get (F.GNSS_CH_SIG_PRN ch.val) = takeField v (F.GNSS_CH_SIG_PRN ch.val).lo (F.GNSS_CH_SIG_PRN ch.val).w ∧
      t.gnssCh = (if 2 ≤ s.get (F.GNSS_CH_CTRL_MODE ch.val) then s.gnssCh.modify ch.val (fun c => { c with hostPend := true })
        else s.gnssCh) ∧
      t = { s with regs := t.regs, gnssCh := t.gnssCh, parity := none, lastErr := none } ∧
      s.regsKept t [R.GNSS_CH_SIG ch.val])

/-- An accepted SNAP_GO with GO = 1 is busy capturing with no page yet, and keeps the fields it was given. One with GO
= 0 stores its fields. SNAP_START_AT_TAG does nothing before the tag, and at the tag or after it takes the first
sample now, with its fraction. The end of a capture that has started, of one path, writes the samples to the snapshot
window, whose pages serve, and nothing outside its region, shows the pages and raises event 57, and BUSY is 0.
Accepted SNAP_DRAIN, SNAP_PROCESS and SNAP_CANCEL make the unit busy draining or processing, or have a busy unit stop.
SNAP_PROCESS_DONE with nothing found leaves the result table zero, NRES 0, raises event 57 and is no longer busy. A
cancelled run ends without results. SNAP_DRAIN_DONE is no longer busy, and where nothing is left does nothing else.
The model's choices: how a drain goes on in idle time (log entry 506), when GNSS_SNAP_TAG is read and which GO is
refused (log entry 510), a drain of no page or beyond LEN (log entry 518), what is taken while the block or a path is
disabled (log entry 521), and what a PROCESS keeps, also for a path that the capture lacks (log entry 523). (R178,
R180, R181, R182, R183, R184, R195) -/
def Obligations.SnapshotsCaptureProcessAndDrain : Prop :=
  (∀ (v : Word) (s : State), s.admitsSet R.GNSS_SNAP_CTRL v.toNat → v.getLsbD 0 = true →
    ∃ t, exec (.snapGo v) s = .next t ∧ t.lastErr = none ∧ t.flag F.GNSS_SNAP_STAT_BUSY = true ∧ t.get F.GNSS_SNAP_STAT_OP = 1 ∧
      t.get F.GNSS_SNAP_STAT_PAGES = 0 ∧ t.flag F.GNSS_SNAP_STAT_INC = false ∧
      t.gnss = { s.gnss with started := false, inc := false, stop := false, cancel := false
                             go := ⟨t.get F.GNSS_SNAP_CTRL_PATHS, t.get F.GNSS_SNAP_CTRL_START,
                               t.flag F.GNSS_SNAP_CTRL_STOP_JAM, s.get F.GNSS_SNAP_LEN_LEN, 0⟩ } ∧
      t = { s with regs := t.regs, gnss := t.gnss, parity := none, lastErr := none } ∧
      s.regsKept t [R.GNSS_SNAP_CTRL, R.GNSS_SNAP_STAT]) ∧
  (∀ (v : Word) (s : State), s.admitsSet R.GNSS_SNAP_CTRL v.toNat → v.getLsbD 0 = false →
    ∃ t, exec (.snapGo v) s = .next t ∧ t.lastErr = none ∧
      t.get F.GNSS_SNAP_CTRL_PATHS = takeField v F.GNSS_SNAP_CTRL_PATHS.lo F.GNSS_SNAP_CTRL_PATHS.w ∧
      t = { s with regs := t.regs, parity := none, lastErr := none } ∧ s.regsKept t [R.GNSS_SNAP_CTRL]) ∧
  (∀ (sub : BitVec 16) (s : State), s.capturing = true → s.gnss.started = false → s.gnss.go.start = 1 →
    (s.now < s.nat64 R.GNSS_SNAP_TAG_LO → exec (.snapStartAtTag sub) s = .next s) ∧
    (s.nat64 R.GNSS_SNAP_TAG_LO ≤ s.now → ∃ t, exec (.snapStartAtTag sub) s = .next t ∧
      t.nat64 R.GNSS_SNAP_T0_LO = s.now % 2 ^ 64 ∧ t.get F.GNSS_SNAP_SUB = sub.toNat ∧
      t.gnss = { s.gnss with started := true, go := { s.gnss.go with since := s.clk } } ∧
      t = { s with regs := t.regs, gnss := t.gnss } ∧
      s.regsKept t [R.GNSS_SNAP_T0_LO, R.GNSS_SNAP_T0_HI, R.GNSS_SNAP_SUB])) ∧
  (∀ (pages sub : BitVec 16) (t0 : BitVec 64) (d : List Byte) (s : State), s.capturing = true → s.gnss.started = true →
    s.gnss.stop = false → s.gnss.cancel = false → s.gnss.inc = false → s.gnss.go.start ≠ 2 →
    s.gnss.go.paths = 1 → s.kind .gnss = 1 → d.length = s.gnss.go.len * 4096 →
    (∀ k < s.gnss.go.len, s.deadPage (0x1A000000 + k * 4096) = false) →
    ∃ t, exec (.snapCaptureEnd pages t0 sub [d]) s = .next t ∧
      (∀ i, (h : i < d.length) → t.byte (0x1A000000 + i) = d[i]) ∧ s.bytesKept t 0x1A000000 d.length ∧
      t.get F.GNSS_SNAP_STAT_PAGES = s.gnss.go.len % 65536 ∧ t.flag F.GNSS_SNAP_STAT_BUSY = false ∧ s.occurred t 57 ∧
      t = { s with regs := t.regs, mem := t.mem, occ := t.occ, gnss := t.gnss } ∧
      s.regsKept t [R.GNSS_SNAP_STAT, (evBit 57).addr]) ∧
  (∀ s : State, s.admitsSet R.GNSS_SNAP_CMD 1 →
    ∃ t, exec .snapDrain s = .next t ∧ t.lastErr = none ∧ t.flag F.GNSS_SNAP_STAT_BUSY = true ∧ t.get F.GNSS_SNAP_STAT_OP = 2 ∧
      t.gnss.drain.length = s.snapPaths.length ∧ t = { s with regs := t.regs, gnss := t.gnss, parity := none, lastErr := none } ∧
      s.regsKept t [R.GNSS_SNAP_STAT]) ∧
  (∀ s : State, s.admitsSet R.GNSS_SNAP_CMD 2 →
    ∃ t, exec .snapProcess s = .next t ∧ t.lastErr = none ∧ t.flag F.GNSS_SNAP_STAT_BUSY = true ∧ t.get F.GNSS_SNAP_STAT_OP = 3 ∧
      t.gnss = { s.gnss with stop := false, cancel := false, proc := (s.get F.GNSS_SNAP_PROC_PATH, s.get F.GNSS_SNAP_PROC_SIGMASK) } ∧
      t = { s with regs := t.regs, gnss := t.gnss, parity := none, lastErr := none } ∧ s.regsKept t [R.GNSS_SNAP_STAT]) ∧
  (∀ s : State, s.admitsSet R.GNSS_SNAP_CMD 3 → s.flag F.GNSS_SNAP_STAT_BUSY = true →
    exec .snapCancel s = .next { s with gnss := { s.gnss with cancel := true } }.settled) ∧
  (∀ s : State, s.admitsSet R.GNSS_SNAP_CMD 3 → s.flag F.GNSS_SNAP_STAT_BUSY = false → exec .snapCancel s = .next s.settled) ∧
  (∀ (l : List SnapResult) (s : State), s.flag F.GNSS_SNAP_STAT_BUSY = true → s.get F.GNSS_SNAP_STAT_OP = 3 →
    s.gnss.cancel = true → exec (.snapProcessDone l) s = .next s.snapOver) ∧
  (∀ s : State, s.flag F.GNSS_SNAP_STAT_BUSY = true → s.get F.GNSS_SNAP_STAT_OP = 3 → s.gnss.cancel = false → s.kind .gnss = 1 →
    ∃ t, exec (.snapProcessDone []) s = .next t ∧ (∀ k w, k < 64 → w < 4 → t.nat (R.GNSS_RES k 0 + 4 * w) = 0) ∧
      t.get F.GNSS_SNAP_PSTAT_NRES = 0 ∧ t.flag F.GNSS_SNAP_STAT_BUSY = false ∧ s.occurred t 57 ∧ t.mem = s.mem ∧
      t = { s with regs := t.regs, occ := t.occ, gnss := t.gnss }) ∧
  (∀ s : State, s.flag F.GNSS_SNAP_STAT_BUSY = true → s.get F.GNSS_SNAP_STAT_OP = 2 → s.gnss.drain = [] →
    ∃ t, exec .snapDrainDone s = .next t ∧ t.flag F.GNSS_SNAP_STAT_BUSY = false ∧ t.get F.GNSS_SNAP_STAT_OP = 0 ∧
      t = { s with regs := t.regs, gnss := t.gnss } ∧ s.regsKept t [R.GNSS_SNAP_STAT]) ∧
  (∀ s : State, s.flag F.GNSS_SNAP_STAT_BUSY = true → s.get F.GNSS_SNAP_STAT_OP = 2 →
    ∃ t, exec .snapDrainDone s = .next t ∧ t.flag F.GNSS_SNAP_STAT_BUSY = false ∧ t.get F.GNSS_SNAP_STAT_OP = 0 ∧
      t.gnss.drain = [])

/-- In a running NAV that holds no MSM, a solution of an epoch whose antenna A used 4 satellites or more that meet
NAV_MASK has quality 2: it is shown with its tag and satellite count, its quality is remembered, and the crossing of
QMIN raises event 65 or 66. A solution without a valid antenna only sets the quality 0 and ends a run of time
solutions. While time is FIXED, the solution's error, uncertainty and frequency are shown, its error is steered out,
or not while a return slew runs, and the time tag stays. A disabled NAV disciplines time by the solutions of later
epochs. The first time solution sets the time base to GNSS time with TQ = FIXED. In holdover the third time solution
in a row, one epoch after the second, ends it: an error of at most 1 ms is slewed, with no step; one below −1 ms steps
the time base by its whole milliseconds; one above 1 ms holds it for them; both raise event 68. No solution touches
DRAM. The model's choices: how the time base is steered (log entry 601), what consecutive epochs are (log entry 602),
that a holdover ends a slew (log entry 603), how an epoch's quality is formed (log entry 604), the first time solution
(log entry 610), which solutions a disabled NAV takes (log entry 613), and that a solution comes with the command (log
entry 13). (R197, R205, R206, R209, R222) -/
def Obligations.SolutionsGiveQualityAndTime : Prop :=
  (∀ (x : NavSolution) (a : AntSolution) (s : State), s.runs .nav = true → s.nav.msm = none → s.flag F.NAV_CTRL_HDG_EN = false →
    x.antA = some a → 4 ≤ s.satsUsed 0 a → s.tq = 1 → x.leap = none →
    ∃ t, exec (.positionSolution x) s = .next t ∧ t.nat64 R.NAV_SOL_T_LO = x.epoch.toNat ∧
      t.get F.NAV_SOL_INFO_Q = 2 ∧ t.get F.NAV_SOL_INFO_NSAT = s.satsUsed 0 a % 2 ^ F.NAV_SOL_INFO_NSAT.w ∧
      t.int R.NAV_TIME_ERR = satS 32 x.e ∧ t.int R.NAV_TIME_FREQ = satS 32 x.freq ∧
      t.get F.NAV_RTK_STAT_RATIO = min x.ratio (2 ^ F.NAV_RTK_STAT_RATIO.w - 1) ∧
      t.get F.NAV_RTK_STAT_FIXED = min x.fixed (2 ^ F.NAV_RTK_STAT_FIXED.w - 1) ∧
      t.nav = { s.nav with solQ := 2, sol := some (s.validOf x), last := some (s.validOf x), solAt := s.clk, ab := none
                           abAt := s.clk, abNew := false, drift := x.drift, timeUnc := x.eUnc, timeAt := s.clk
                           corr := if s.flag F.NAV_TIME_STAT_SLEW then s.nav.corr else x.e * 1600000000
                           timeEpoch := x.epoch.toNat } ∧
      t.occ = s.occ ++ (if s.get F.NAV_QMIN_QMIN ≤ s.nav.solQ ∧ 2 < s.get F.NAV_QMIN_QMIN then [(65, s.tag)] else []) ++
        (if s.nav.solQ < s.get F.NAV_QMIN_QMIN ∧ s.get F.NAV_QMIN_QMIN ≤ 2 then [(66, s.tag)] else []) ∧
      t = { s with regs := t.regs, occ := t.occ, nav := t.nav } ∧
      s.regsKept t [R.NAV_SOL_T_LO, R.NAV_SOL_T_HI, R.NAV_SOL_INFO, R.NAV_TIME_ERR, R.NAV_TIME_FREQ, F.NAV_RTK_STAT_RATIO.addr,
        F.NAV_RTK_STAT_FIXED.addr, (evBit 65).addr]) ∧
  (∀ (x : NavSolution) (s : State), s.runs .nav = true → s.nav.msm = none → s.flag F.NAV_CTRL_HDG_EN = false →
    s.validSol 0 x.antA = none → s.validSol 1 x.antB = none → s.get F.NAV_QMIN_QMIN = 0 →
    ∃ t, exec (.positionSolution x) s = .next t ∧
      t.nav = { s.nav with solQ := 0, ab := none, abAt := s.clk, abNew := false, runs := 0 } ∧
      t = { s with regs := t.regs, nav := t.nav } ∧ s.regsKept t [F.NAV_RTK_STAT_RATIO.addr, F.NAV_RTK_STAT_FIXED.addr]) ∧
  (∀ (x : NavSolution) (s : State), s.works .nav = true → s.enabled .nav = false → s.nav.offAt ≤ x.epoch.toNat →
    (s.validSol 0 x.antA).isSome = true → s.tq = 0 →
    ∃ t, exec (.positionSolution x) s = .next t ∧ t.tag = x.gnss.toNat ∧ t.tq = 1 ∧ t.nav.timeUnc = x.eUnc ∧
      t.nav.corr = 0 ∧ t.nav.steps = s.nav.steps + 1 ∧
      t.nav.discAt = s.clk ∧ t.nav.timeAt = s.clk ∧ t.mem = s.mem ∧ t.occ = s.occ) ∧
  (∀ (x : NavSolution) (s : State), s.works .nav = true → s.enabled .nav = false → s.nav.offAt ≤ x.epoch.toNat →
    (s.validSol 0 x.antA).isSome = true → 2 ≤ s.tq → s.nav.runs < 2 →
    (s.nav.runs = 0 ∨ s.nav.timeEpoch + s.epochLen = x.epoch.toNat) → x.leap = none →
    ∃ t, exec (.positionSolution x) s = .next t ∧ t.tq = s.tq ∧ t.tag = s.tag ∧
      t.nav = { s.nav with drift := x.drift, runs := s.nav.runs + 1, timeAt := s.clk, timeEpoch := x.epoch.toNat } ∧
      t = { s with regs := t.regs, nav := t.nav } ∧ s.regsKept t [R.NAV_TIME_ERR, R.NAV_TIME_FREQ]) ∧
  (∀ (x : NavSolution) (s : State), s.works .nav = true → s.enabled .nav = false → s.nav.offAt ≤ x.epoch.toNat →
    (s.validSol 0 x.antA).isSome = true → 2 ≤ s.tq → 2 ≤ s.nav.runs → s.nav.timeEpoch + s.epochLen = x.epoch.toNat →
    ∃ t, exec (.positionSolution x) s = .next t ∧ t.tq = 1 ∧ t.mem = s.mem ∧ t.nav.timeUnc = x.eUnc ∧ t.nav.runs = 0 ∧
      t.flag F.NAV_TIME_STAT_SLEW = (t.nav.corr != 0) ∧
      (x.e.natAbs ≤ 1000000 → t.nav.corr = x.e * 1600000000 ∧ t.nav.steps = s.nav.steps ∧ t.tag = s.tag ∧ t.occ = s.occ ∧
        t.get F.NAV_TIME_STAT_HOLD = s.get F.NAV_TIME_STAT_HOLD) ∧
      (x.e < -1000000 → t.nav.corr = (x.e + (x.e.natAbs / 1000000 * 1000000 : Nat)) * 1600000000 ∧
        t.nav.steps = s.nav.steps + 1 ∧ t.tag = s.tag + x.e.natAbs / 1000000 * 16000 ∧
        t.flag F.NAV_TIME_STEP_DIR = false ∧ t.get F.NAV_TIME_STEP_MS = x.e.natAbs / 1000000 % 2 ^ 31 ∧
        t.flag (evBit 68) = true) ∧
      (1000000 < x.e → t.nav.corr = (x.e - (x.e.natAbs / 1000000 * 1000000 : Nat)) * 1600000000 ∧
        t.nav.steps = s.nav.steps + 1 ∧ t.tag = s.tag ∧
        t.flag F.NAV_TIME_STAT_HOLD = true ∧ t.nav.holdUntil = s.clk + x.e.natAbs / 1000000 * 16000 ∧
        t.flag F.NAV_TIME_STEP_DIR = true ∧ t.get F.NAV_TIME_STEP_MS = x.e.natAbs / 1000000 % 2 ^ 31 ∧
        t.flag (evBit 68) = true))

/-- In FIXED, HO_ENTER after the last time solution, HOLDOVER enters state 2, ends the slew, keeps the uncertainty and
raises event 67; it grows by 500 ns/s where the XO was disciplined for less than 600 s. In HOLDOVER_MRC the
uncertainty's rate is judged again; where the uncertainty is within UNC_MAX no event comes. A slew that is over clears
SLEW; a hold that is over clears HOLD. A time pulse whose edge falls in the present count, in mode ALWAYS, or VALID
with a time, outside a hold and with outputs released, is recorded with its tag, TQ and uncertainty, and its pin is
active for WIDTH; else none is. The model's choices: that a holdover ends a slew, whose rest stays in the uncertainty
(log entry 603), when a pulse's edge counts and which tag it gives (log entry 609), and how the time base moves (log
entry 601). (R218, R219, R220, R221, R222, R223, R702) -/
def Obligations.TimeHoldsOverAndPulses : Prop :=
  (∀ (f : Nat) (s : State), s.kind .nav = 1 → s.tq = 1 → s.passed s.nav.timeAt (s.get F.NAV_HO_CFG_HO_ENTER * msec) = true →
    ∃ t, exec (.holdover f) s = .next t ∧ t.tq = 2 ∧ t.flag F.NAV_TIME_STAT_SLEW = false ∧ s.occurred t 67 ∧
      t.nav = { s.nav with timeUnc := s.timeUnc, uncAt := s.clk, uncFrom := s.clk, uncLimit := false, corr := 0, runs := 0
                           uncRate := if s.nav.discAt + 600 * second ≤ s.clk then max 10 f else 500 } ∧
      t = { s with regs := t.regs, occ := t.occ, nav := t.nav } ∧ s.regsKept t [R.NAV_TIME_STAT, (evBit 67).addr]) ∧
  (∀ (f : Nat) (s : State), s.tq ≠ 1 ∨ s.passed s.nav.timeAt (s.get F.NAV_HO_CFG_HO_ENTER * msec) = false →
    exec (.holdover f) s = .next s) ∧
  (∀ (m : Int) (s : State), s.kind .nav = 1 → (s.tq = 2 ∨ s.tq = 3) →
    s.timeUnc ≤ s.get F.NAV_HO_CFG_UNC_MAX * 1000 →
    ∃ t, exec (.holdoverUncUpdate m) s = .next t ∧ t.nav.timeUnc = s.timeUnc ∧
      t.nav.uncRate = (if s.tq = 2 then s.nav.uncRate
        else 20000 + m.natAbs * (if s.flag F.CLK_MRC_TC_VALID then 2000 else 20000)) ∧
      t = { s with nav := { s.nav with timeUnc := t.nav.timeUnc, uncAt := s.clk, uncRate := t.nav.uncRate } }) ∧
  (∀ (m : Int) (s : State), s.kind .nav = 1 → (s.tq = 2 ∨ s.tq = 3) → s.get F.NAV_HO_CFG_UNC_MAX * 1000 < s.timeUnc →
    s.nav.uncLimit = false →
    ∃ t, exec (.holdoverUncUpdate m) s = .next t ∧ s.occurred t 73 ∧ t.nav.uncLimit = true ∧ t.nav.timeUnc = s.timeUnc ∧
      t = { s with regs := t.regs, occ := t.occ, nav := t.nav } ∧ s.regsKept t [(evBit 73).addr]) ∧
  (∀ s : State, s.flag F.NAV_TIME_STAT_SLEW = true → s.slewLeft = 0 →
    ∃ t, exec .timeSlewEnd s = .next t ∧ t.flag F.NAV_TIME_STAT_SLEW = false ∧
      t = { s with regs := t.regs } ∧ s.regsKept t [R.NAV_TIME_STAT]) ∧
  (∀ s : State, s.flag F.NAV_TIME_STAT_HOLD = true → s.nav.holdUntil ≤ s.clk →
    ∃ t, exec .timeHoldEnd s = .next t ∧ t.flag F.NAV_TIME_STAT_HOLD = false ∧ t.tq = s.tq ∧
      t = { s with regs := t.regs } ∧ s.regsKept t [R.NAV_TIME_STAT]) ∧
  (∀ (p : Fin 2) (s : State), s.works .nav = true → s.released = true → s.flag F.NAV_TIME_STAT_HOLD = false →
    s.pulseDue p.val = true → (s.get (F.NAV_TP_CFG_MODE p.val) = 2 ∨ s.get (F.NAV_TP_CFG_MODE p.val) = 1 ∧ s.tq ≠ 0) →
    ∃ t, exec (.timePulse p) s = .next t ∧ t.nat64 (R.NAV_TP_LAST_LO p.val) = s.now ∧
      t.get (F.NAV_TP_LAST_Q_TQ p.val) = s.tq ∧ t.get (F.NAV_TP_LAST_Q_UNC p.val) = s.timeUncUs % 65536 ∧
      t = { s with regs := t.regs, nav := { s.nav with
        tp := s.nav.tp.set p.val (s.clk + s.get (F.NAV_TP_WIDTH_WIDTH p.val) * 16) } } ∧
      (0 < s.get (F.NAV_TP_WIDTH_WIDTH p.val) → t.tpLevel p.val = !s.flag (F.NAV_TP_CFG_POL p.val)) ∧
      s.regsKept t [R.NAV_TP_LAST_LO p.val, R.NAV_TP_LAST_HI p.val, R.NAV_TP_LAST_Q p.val]) ∧
  (∀ (p : Fin 2) (s : State), s.flag F.NAV_TIME_STAT_HOLD = true ∨ s.pulseDue p.val = false ∨ s.released = false ∨
    s.get (F.NAV_TP_CFG_MODE p.val) = 0 ∨ s.get (F.NAV_TP_CFG_MODE p.val) = 1 ∧ s.tq = 0 →
    exec (.timePulse p) s = .next s)

/-- On the epoch grid, outside a hold, a measurement epoch without RAW_EN clears the slip marks and nothing else; with
it, and room in LANE5, it produces one header entry and one entry for each pair of records. An RTCM entry is discarded
and counted while NAV is disabled. An entry of another TYPE is discarded as a bad frame: it is counted and raises
event 71. The bytes of one of TYPE 0x61 follow those gathered: a whole frame with a good CRC has its message taken,
one with a bad CRC is counted and raises event 71, and an incomplete one waits. Message 1005 or 1006 gives the base
position, which is valid, and counts as used; another station's identity also discards the ambiguities and the MSM; an
MSM of that station that is not older than the one in use and carries a signal of R155 replaces it and counts as used;
1033 does nothing, and other messages are counted as ignored. An IMU sample of bytes 0x00 only is bad and counted; a
good one gives the axes and their tag, and OK reads 1. 10 ms without a good one raises event 72, once. A pose without
any solution so far and no heading has quality and heading source 0, carries the time tag and the fused speed, and
keeps its position; one with a new solution and no blend steps to the solution's reference point with its quality and
uncertainty, and takes an A–B heading that came with it; while NAV is disabled a pose has quality and heading source 0
and unknown uncertainties, and 1 s without A–B raises event 69. Off the 1 ms grid or in a hold there is no pose. The
model's choices: what consecutive epochs are (log entry 602), the layout of the RTCM messages (log entry 605), how a
pose's heading comes about (log entry 606), the raw message's e (log entry 608), discarded ambiguities (log entry
614), the accumulators (log entry 615), the height part of a correction (log entry 616), the growth of a heading's 1
sigma (log entry 618), the rounding (log entry 6), and that solutions come with the command (log entry 13). (R174,
R201, R203, R207, R209, R213, R215, R216, R217, R225) -/
def Obligations.EpochsCorrectionsAndPoses : Prop :=
  (∀ (m : List RawMeas) (s : State), s.now % s.epochLen ≠ 0 ∨ s.flag F.NAV_TIME_STAT_HOLD = true →
    exec (.measurementEpoch m) s = .next s) ∧
  (∀ (m : List RawMeas) (s : State), s.works .nav = true → s.onGrid s.epochLen = true → s.flag F.NAV_CTRL_RAW_EN = false →
    ∃ t, exec (.measurementEpoch m) s = .next t ∧ (∀ n, n < s.nGch → (t.gnssCh.get n).slipped = false) ∧
      (∀ n, { t.gnssCh.get n with slipped := false } = { s.gnssCh.get n with slipped := false }) ∧
      t = { s with gnssCh := t.gnssCh }) ∧
  (∀ (m : List RawMeas) (s : State), s.runs .nav = true → s.onGrid s.epochLen = true → s.flag F.NAV_CTRL_RAW_EN = true →
    s.memCare.dead = [] → s.laneOut 5 = true →
    (s.lanes.get 5).held = [] → s.laneLevel 5 + 2 + (s.rawRecords m).length < s.laneSize 5 → laneSizeOk (s.laneSize 5) = true →
    s.get (F.LANE_HEAD_HEAD 5) < s.laneSize 5 → s.get (F.LANE_TAIL_TAIL 5) < s.laneSize 5 →
    ∃ t, exec (.measurementEpoch m) s = .next t ∧
      t.get (F.LANE_HEAD_HEAD 5) = (s.get (F.LANE_HEAD_HEAD 5) + 1 + ((s.rawRecords m).length + 1) / 2) % s.laneSize 5 ∧
      t.byte (s.laneSlot 5 (s.get (F.LANE_HEAD_HEAD 5)) + 2) = 0x51 ∧
      t.bytes (s.laneSlot 5 (s.get (F.LANE_HEAD_HEAD 5)) + 8) 8 = leBytes 8 (s.now / s.epochLen * s.epochLen) ∧
      t.bytes (s.laneSlot 5 (s.get (F.LANE_HEAD_HEAD 5)) + 16) 2 = leBytes 2 (s.rawRecords m).length ∧
      s.bytesKept t (s.laneSlot 5 0) (s.laneSize 5 * 64) ∧
      t = { s with regs := t.regs, mem := t.mem, lanes := t.lanes, gnssCh := t.gnssCh } ∧ s.regsKept t [R.LANE_HEAD 5]) ∧
  (∀ s : State, s.works .nav = true → s.laneIn 6 = true → s.laneLevel 6 ≠ 0 → s.laneType 6 (s.get (F.LANE_TAIL_TAIL 6)) ≠ 0 →
    (s.enabled .nav = false →
      ∃ t, exec .rtcmEntry s = .next t ∧ t.get F.NAV_DISC = min (s.get F.NAV_DISC + 1) (2 ^ F.NAV_DISC.w - 1) ∧
        t.get (F.LANE_TAIL_TAIL 6) = s.laneNext 6 (s.get (F.LANE_TAIL_TAIL 6)) % 2 ^ 14 ∧
        t = { s with regs := t.regs } ∧ s.regsKept t [R.LANE_TAIL 6, F.NAV_DISC.addr]) ∧
    (s.enabled .nav = true → s.rtkOn = true → s.laneType 6 (s.get (F.LANE_TAIL_TAIL 6)) ≠ 0x61 →
      ∃ t, exec .rtcmEntry s = .next t ∧ t.get F.NAV_RTCM_ERR = min (s.get F.NAV_RTCM_ERR + 1) (2 ^ F.NAV_RTCM_ERR.w - 1) ∧
        t.get (F.LANE_TAIL_TAIL 6) = s.laneNext 6 (s.get (F.LANE_TAIL_TAIL 6)) % 2 ^ 14 ∧ s.occurred t 71 ∧
        t = { s with regs := t.regs, occ := t.occ, nav := { s.nav with rtcm := [] } } ∧
        s.regsKept t [R.LANE_TAIL 6, F.NAV_RTCM_ERR.addr, (evBit 71).addr])) ∧
  (∀ (e b f : List Byte) (n : Nat) (s u : State), s.works .nav = true → s.enabled .nav = true → s.rtkOn = true →
    s.laneIn 6 = true → s.laneLevel 6 ≠ 0 → e = s.bytes (s.laneSlot 6 (s.get (F.LANE_TAIL_TAIL 6))) 64 → e.getD 2 0 = 0x61 →
    1 ≤ (e.getD 4 0).toNat → (e.getD 4 0).toNat ≤ 56 → b = s.nav.rtcm ++ (e.drop 8).take (e.getD 4 0).toNat →
    u = s.put (F.LANE_TAIL_TAIL 6) (s.laneNext 6 (s.get (F.LANE_TAIL_TAIL 6))) → b.head? = some 0xD3 → 3 ≤ b.length →
    n = bitField b 8 16 → n < 1024 → f = (b.drop 3).take n →
    (b.length < n + 6 → exec .rtcmEntry s = .next { u with nav := { u.nav with rtcm := b } }) ∧
    (b.length = n + 6 → (crc24q (b.take (n + 3))).toNat = bitField (b.drop (n + 3)) 0 24 →
      exec .rtcmEntry s = .next { u.rtcmMessage f with nav := { (u.rtcmMessage f).nav with rtcm := [] } }) ∧
    (b.length = n + 6 → (crc24q (b.take (n + 3))).toNat ≠ bitField (b.drop (n + 3)) 0 24 →
      ∃ t, exec .rtcmEntry s = .next t ∧ t.get F.NAV_RTCM_ERR = min (u.get F.NAV_RTCM_ERR + 1) (2 ^ F.NAV_RTCM_ERR.w - 1) ∧
        u.occurred t 71 ∧ t = { u with regs := t.regs, occ := t.occ, nav := { u.nav with rtcm := [] } } ∧
        u.regsKept t [F.NAV_RTCM_ERR.addr, (evBit 71).addr])) ∧
  (∀ (f : List Byte) (k : Nat) (same : Bool) (s : State), k = bitField f 0 12 →
    same = decide (s.get F.NAV_BASE_ID_ID = bitField f 12 12) →
    (k = 1005 ∨ k = 1006 → ∃ t, s.rtcmMessage f = t ∧ t.int64 R.NAV_BASE_X_LO = signed 38 (bitField f 34 38) ∧
      t.int64 R.NAV_BASE_Y_LO = signed 38 (bitField f 74 38) ∧ t.int64 R.NAV_BASE_Z_LO = signed 38 (bitField f 114 38) ∧
      t.get F.NAV_BASE_ID_ID = bitField f 12 12 ∧ t.flag F.NAV_BASE_ID_VALID = true ∧
      t.get F.NAV_RTCM_USED = min (s.get F.NAV_RTCM_USED + 1) (2 ^ F.NAV_RTCM_USED.w - 1) ∧
      t.nav = (if same then s.nav else { s.nav with msm := none, rtkAmb := s.now, abAmb := s.now }) ∧
      t = { s with regs := t.regs, nav := t.nav } ∧
      s.regsKept t [R.NAV_BASE_X_LO, R.NAV_BASE_X_HI, R.NAV_BASE_Y_LO, R.NAV_BASE_Y_HI, R.NAV_BASE_Z_LO, R.NAV_BASE_Z_HI,
        R.NAV_BASE_ID, F.NAV_RTCM_USED.addr]) ∧
    (k = 1033 → s.rtcmMessage f = s) ∧
    (1074 ≤ k ∧ k ≤ 1077 → same = true → msmMatches k f = true →
      (∀ m, s.nav.msm = some m → m ≤ nearestTow s.now (bitField f 24 30 % 604800000)) →
      ∃ t, s.rtcmMessage f = t ∧ t.nav = { s.nav with msm := some (nearestTow s.now (bitField f 24 30 % 604800000)) } ∧
        t.get F.NAV_RTCM_USED = min (s.get F.NAV_RTCM_USED + 1) (2 ^ F.NAV_RTCM_USED.w - 1) ∧
        t = { s with regs := t.regs, nav := t.nav } ∧ s.regsKept t [F.NAV_RTCM_USED.addr]) ∧
    (k < 1005 ∨ 1127 < k → ∃ t, s.rtcmMessage f = t ∧
      t.get F.NAV_RTCM_IGN = min (s.get F.NAV_RTCM_IGN + 1) (2 ^ F.NAV_RTCM_IGN.w - 1) ∧
      t = { s with regs := t.regs } ∧ s.regsKept t [F.NAV_RTCM_IGN.addr])) ∧
  (∀ (raw : List Byte) (s : State), s.runs .nav = true → s.released = true → s.flag F.NAV_CTRL_IMU_EN = true → (∀ b ∈ raw, b = 0) →
    ∃ t, exec (.imuSample raw) s = .next t ∧
      t.get F.NAV_IMU_BAD = min (s.get F.NAV_IMU_BAD + 1) (2 ^ F.NAV_IMU_BAD.w - 1) ∧
      t = { s with regs := t.regs, nav := { s.nav with imuSent := t.nav.imuSent } } ∧ s.regsKept t [F.NAV_IMU_BAD.addr]) ∧
  (∀ (lo hi : Byte) (rest : List Byte) (s : State), s.runs .nav = true → s.released = true → s.flag F.NAV_CTRL_IMU_EN = true →
    s.flag F.PWR_STAT_VIO_OK = true → s.flag F.NAV_IMU_FMT_BE = false → 1 ≤ s.get F.NAV_IMU_FMT_WORDS →
    s.nat R.NAV_IMU_MAP % 16 = 0 → lo.toNat + 256 * hi.toNat ≠ 0 → lo.toNat + 256 * hi.toNat ≠ 0xFFFF →
    ∃ t, exec (.imuSample (lo :: hi :: rest)) s = .next t ∧ t.imuOk = true ∧
      t.nav.imu.head? = some (signed 16 (lo.toNat + 256 * hi.toNat) * s.nat R.NAV_IMU_GSCL) ∧ t.nav.imuTag = s.now ∧
      t.nav.imuAt = s.clk ∧ t.nav.imuLost = false ∧ t = { s with nav := t.nav }) ∧
  (∀ s : State, s.kind .nav = 1 → s.flag F.NAV_CTRL_IMU_EN = true → s.nav.imuAt + 10 * msec ≤ s.clk →
    s.nav.imuLost = false →
    ∃ t, exec .imuLost s = .next t ∧ s.occurred t 72 ∧ ((∀ g, s.nav.imuGood = some g → g ≤ s.nav.imuAt) → t.imuOk = false) ∧
      t = { s with regs := t.regs, occ := t.occ, nav := { s.nav with imuLost := true } } ∧
      s.regsKept t [(evBit 72).addr]) ∧
  (∀ s : State, s.nav.imuLost = true ∨ s.clk < s.nav.imuAt + 10 * msec → exec .imuLost s = .next s) ∧
  (∀ (roll pitch yaw : Int) (s : State), s.onGrid 16000 = false → exec (.poseUpdate roll pitch yaw) s = .next s) ∧
  (∀ (roll pitch yaw : Int) (s : State), s.runs .nav = true → s.onGrid 16000 = true → s.nav.last = none →
    s.nav.sol = none → s.nav.ab = none → s.nav.hdgAt = 0 → s.flag F.NAV_CTRL_HDG_EN = false → s.nav.blendLen = 0 →
    ∃ t, exec (.poseUpdate roll pitch yaw) s = .next t ∧ t.nat64 R.NAV_POSE_T_LO = s.now ∧ t.get F.NAV_POSE_Q_PQ = 0 ∧
      t.get F.NAV_POSE_Q_HSRC = 0 ∧ t.get F.NAV_POSE_UNC_HOR = 0xFFFF ∧ t.get F.NAV_POSE_UNC_HDG = 0xFFFF ∧
      t.gets F.NAV_POSE_SPD_SPD = s.fusedSpeed ∧ t.int64 R.NAV_POSE_LAT_LO = s.int64 R.NAV_POSE_LAT_LO ∧
      t.int64 R.NAV_POSE_LON_LO = s.int64 R.NAV_POSE_LON_LO ∧ t.get F.NAV_POSE_Q_TQ = s.tq ∧
      t = { s with regs := t.regs, nav := t.nav } ∧
      (∀ a, (a < R.NAV_POSE_T_LO ∨ R.NAV_POSE_UNC < a) → t.word a = s.word a)) ∧
  (∀ (roll pitch yaw : Int) (y : NavSolution) (a : AntSolution) (z : Option NavSolution) (s u : State), s.runs .nav = true →
    s.onGrid 16000 = true → s.flag F.NAV_CTRL_IMU_EN = false → s.nav.sol = some y → s.nav.last = some y → y.antA = some a →
    s.clk < s.nav.solAt + 3 * s.epochLen → s.get F.NAV_SOL_INFO_Q ≠ 0 → s.get F.NAV_POSE_CFG_BLEND = 0 → s.nav.blendLen = 0 →
    (y.speed < 1000 ∨ s.fusedSpeed ≤ 0) → s.nav.ab = z →
    (z = none → s.nav.hdgAt = 0 ∧ s.flag F.NAV_CTRL_HDG_EN = false) →
    (∀ x, z = some x → s.nav.abNew = true ∧ s.clk < s.nav.abAt + 3 * s.epochLen) →
    u = (match z with
      | some x => { s with nav := { s.nav with hdg := ((x.abAz + s.gets F.NAV_HDG_OFS) % 36000 * 1000).toNat } }
      | none => s) →
    ∃ t, exec (.poseUpdate roll pitch yaw) s = .next t ∧ t.nat64 R.NAV_POSE_T_LO = s.now ∧
      t.get F.NAV_POSE_Q_PQ = s.get F.NAV_SOL_INFO_Q % 2 ^ F.NAV_POSE_Q_PQ.w ∧ t.flag F.NAV_POSE_Q_JUMP = true ∧
      t.get F.NAV_POSE_UNC_HOR = min a.unc 0xFFFF ∧
      t.int64 R.NAV_POSE_LAT_LO = signed 64 (code 64 (u.solPosition y 0 0).1) ∧
      t.int64 R.NAV_POSE_LON_LO = signed 64 (code 64 (u.solPosition y 0 0).2.1) ∧
      t.nav.hgt = (u.solPosition y 0 0).2.2 * 1000 ∧ t.nav.sol = none ∧ t.nav.last = some y ∧ t.nav.hdg = u.nav.hdg ∧
      (z = none → t.get F.NAV_POSE_Q_HSRC = 0 ∧ t.get F.NAV_POSE_UNC_HDG = 0xFFFF) ∧
      (∀ x, z = some x → t.get F.NAV_POSE_Q_HSRC = 1 ∧ t.get F.NAV_POSE_UNC_HDG = min x.abUnc 0xFFFF ∧
        t.get F.NAV_POSE_HDG_HDG = ((x.abAz + s.gets F.NAV_HDG_OFS) % 36000).toNat) ∧
      t = { s with regs := t.regs, nav := t.nav } ∧
      (∀ w, (w < R.NAV_POSE_T_LO ∨ R.NAV_POSE_UNC < w) → t.word w = s.word w)) ∧
  (∀ (roll pitch yaw : Int) (s : State), s.works .nav = true → s.enabled .nav = false → s.onGrid 16000 = true →
    ∃ t, exec (.poseUpdate roll pitch yaw) s = .next t ∧ t.nat64 R.NAV_POSE_T_LO = s.now ∧ t.get F.NAV_POSE_Q_PQ = 0 ∧
      t.get F.NAV_POSE_Q_HSRC = 0 ∧ t.get F.NAV_POSE_Q_TQ = s.tq ∧ t.get F.NAV_POSE_UNC_HOR = 0xFFFF ∧
      t.get F.NAV_POSE_UNC_HDG = 0xFFFF ∧
      t.nav = { s.nav with noAbMs := if s.flag F.NAV_CTRL_HDG_EN then min (s.nav.noAbMs + 1) 1001 else 0 } ∧
      t.occ = s.occ ++ (if s.flag F.NAV_CTRL_HDG_EN ∧ s.nav.noAbMs = 999 then [(69, s.tag)] else []) ∧
      t = { s with regs := t.regs, occ := t.occ, nav := t.nav } ∧
      s.regsKept t ([R.NAV_POSE_T_LO, R.NAV_POSE_T_HI, R.NAV_POSE_Q, R.NAV_POSE_UNC] ++
        if s.nav.noAbMs = 999 then [(evBit 69).addr] else []))

/-- With no armed entry, no limits and no window that is due, an edge of A that has lasted FILT in quadrature mode
moves the position by ±1, modulo 2^32, and the window's count with it; a change of both levels is counted as an error
and moves nothing, and one that has not lasted FILT is ignored. A window that ends gives the speed count × SCALE / WIN
(as sQ24.8) where that is exact and fits, its tag and state RUN, and opens the next window. A standstill, and a line
whose pins stayed alike for WIRE_T, give speed 0 and state STILL; the first bad line raises event 81, and good lines
for 100 ms clear BAD. A level of the Z line that has not lasted FILT is ignored; at a rise of the line so filtered
LATCH stores the position and RESET loads it. A load of the position stores the value; a write of FBK_ENC_ZCFG with
ARM arms the load; an armed entry judges BEHIND at once. The model's choices: how edges, levels and their hold times
come (log entry 701), which lines are used and supervised (log entry 702), when SSI_ERR is raised (log entry 706), the
stamps of samples (log entry 707), what a limit does to a position (log entry 709), and the roundings (log entry 6).
(R237, R239, R240, R241, R242, R243, R244, R245, R246) -/
def Obligations.PulseInterfacesCountAndMeasure : Prop :=
  (∀ (n : Fin 8) (a b : LineLevel) (d : Int) (s : State), s.encCounts n.val = true → s.get (F.FBK_ENC_CFG_MODE n.val) = 1 →
    (s.enc.get n.val).a ≠ a.level → (s.enc.get n.val).b = b.level → s.encFilt n.val ≤ a.held → s.encDue n.val = false → s.flag (F.FBK_ENC_CFG_NEG n.val) = false →
    s.flag (F.FBK_ENC_CFG_LIMEN n.val) = false → (∀ k, k < 16 → s.flag (F.FBK_CMP_CTRL_ARM n.val k) = false) →
    s.get (F.FBK_ENC_STAT_SSTATE n.val) ≠ 0 → s.flag (F.FBK_ENC_STAT_DIR n.val) = (a.level == b.level) →
    d = (if a.level == b.level then -1 else 1) →
    ∃ t, exec (.encEdge n a b) s = .next t ∧ t.nat (R.FBK_ENC_POS n.val) = code 32 (s.encPos n.val + d) ∧
      t.enc.get n.val = { s.enc.get n.val with a := a.level, cnt := (s.enc.get n.val).cnt + d, lastEdge := s.clk } ∧
      (∀ m, m ≠ n.val → t.enc.get m = s.enc.get m) ∧ t.get (F.FBK_ENC_STAT_SSTATE n.val) = s.get (F.FBK_ENC_STAT_SSTATE n.val) ∧
      t = { s with regs := t.regs, enc := t.enc, stamps := t.stamps, armSw := t.armSw } ∧
      s.regsKept t [R.FBK_ENC_POS n.val, R.FBK_ENC_STAT n.val]) ∧
  (∀ (n : Fin 8) (a b : LineLevel) (s : State), a.held < s.encFilt n.val → b.held < s.encFilt n.val →
    ∃ t, exec (.encEdge n a b) s = .next t ∧ (∀ m, t.enc.get m = s.enc.get m) ∧
      t = { s with enc := t.enc, armSw := t.armSw }) ∧
  (∀ (n : Fin 8) (a b : LineLevel) (s : State), s.encCounts n.val = true → s.get (F.FBK_ENC_CFG_MODE n.val) = 1 →
    s.encFilt n.val ≤ a.held → s.encFilt n.val ≤ b.held → (s.enc.get n.val).a ≠ a.level → (s.enc.get n.val).b ≠ b.level →
    ∃ t, exec (.encEdge n a b) s = .next t ∧
      t.get (F.FBK_ENC_QERR n.val) = min (s.get (F.FBK_ENC_QERR n.val) + 1) 0xFFFF ∧
      t.enc.get n.val = { s.enc.get n.val with a := a.level, b := b.level } ∧ t.flag ⟨H.sticky .fbk, 8 + n.val, 1⟩ = true ∧
      t = { s with regs := t.regs, enc := t.enc, armSw := t.armSw } ∧ s.regsKept t [R.FBK_ENC_QERR n.val, H.sticky .fbk]) ∧
  (∀ (n : Fin 8) (v : Int) (s : State), s.runs .fbk = true → s.get (F.FBK_ENC_STAT_SSTATE n.val) ≠ 0 →
    (s.enc.get n.val).winStart + (s.enc.get n.val).win * msec ≤ s.clk → 0 < (s.enc.get n.val).win → satS 32 v = v →
    (s.enc.get n.val).cnt * (s.enc.get n.val).scale * 1000 = v * ((s.enc.get n.val).win * 256) →
    ∃ t, exec (.encWindowEnd n) s = .next t ∧ t.int (R.FBK_ENC_SPD n.val) = v ∧ t.nat64 (R.FBK_ENC_SPD_T_LO n.val) = s.now ∧
      t.get (F.FBK_ENC_STAT_SSTATE n.val) = 3 ∧
      t.enc.get n.val = { s.enc.get n.val with
        cnt := 0, winStart := (s.enc.get n.val).winStart + (s.enc.get n.val).win * msec
        win := s.get (F.FBK_ENC_WIN_WIN n.val), scale := s.nat (R.FBK_ENC_SCALE n.val) } ∧
      t = { s with regs := t.regs, enc := t.enc, stamps := t.stamps } ∧
      s.regsKept t [R.FBK_ENC_SPD n.val, R.FBK_ENC_SPD_T_LO n.val, R.FBK_ENC_SPD_T_HI n.val, R.FBK_ENC_STAT n.val]) ∧
  (∀ (n : Fin 8) (s : State), s.get (F.FBK_ENC_STAT_SSTATE n.val) ≠ 0 →
    (s.enc.get n.val).lastEdge + s.get (F.FBK_ENC_WIN_STANDSTILL_T n.val) * msec ≤ s.clk →
    ∃ t, exec (.encStandstill n) s = .next t ∧ t.get (F.FBK_ENC_STAT_SSTATE n.val) = 0 ∧ t.nat (R.FBK_ENC_SPD n.val) = 0 ∧
      t = { s with regs := t.regs } ∧ s.regsKept t [R.FBK_ENC_STAT n.val, R.FBK_ENC_SPD n.val]) ∧
  (∀ (n : Fin 8) (x : LinePairs) (s : State), s.encStuck n.val x &&& s.encUsed n.val = 0 → exec (.encWire n x) s = .next s) ∧
  (∀ (n : Fin 8) (x : LinePairs) (s : State), s.kind .fbk = 1 → s.encStuck n.val x &&& s.encUsed n.val ≠ 0 →
    s.get (F.FBK_ENC_STAT_BAD n.val) = 0 →
    ∃ t, exec (.encWire n x) s = .next t ∧ t.get (F.FBK_ENC_STAT_BAD n.val) = s.encStuck n.val x &&& s.encUsed n.val ∧
      t.enc.get n.val = { s.enc.get n.val with badAt := s.clk } ∧ (∀ m, m ≠ n.val → t.enc.get m = s.enc.get m) ∧
      t.get (F.FBK_ENC_STAT_SSTATE n.val) = 0 ∧ t.nat (R.FBK_ENC_SPD n.val) = 0 ∧ s.occurred t 81 ∧
      t.flag ⟨H.sticky .fbk, n.val, 1⟩ = true ∧ t = { s with regs := t.regs, occ := t.occ, enc := t.enc } ∧
      s.regsKept t [R.FBK_ENC_STAT n.val, R.FBK_ENC_SPD n.val, H.sticky .fbk, (evBit 81).addr]) ∧
  (∀ (n : Fin 8) (s : State), s.get (F.FBK_ENC_STAT_BAD n.val) = 0 ∨ s.clk < (s.enc.get n.val).badAt + 100 * msec →
    exec (.encLineGood n) s = .next s) ∧
  (∀ (n : Fin 8) (s : State), s.get (F.FBK_ENC_STAT_BAD n.val) ≠ 0 → s.flag F.PWR_STAT_VIO_OK = true →
    (s.enc.get n.val).badAt + 100 * msec ≤ s.clk →
    ∃ t, exec (.encLineGood n) s = .next t ∧ t.get (F.FBK_ENC_STAT_BAD n.val) = 0 ∧
      t.get (F.FBK_ENC_STAT_SSTATE n.val) = 0 ∧ t.nat (R.FBK_ENC_SPD n.val) = 0 ∧
      t = { s with regs := t.regs } ∧ s.regsKept t [R.FBK_ENC_STAT n.val, R.FBK_ENC_SPD n.val]) ∧
  (∀ (n : Fin 8) (z : LineLevel) (s : State), z.held < s.encFilt n.val ∨ z.level = false ∨ (s.enc.get n.val).z = true ∨
    s.encCounts n.val = false ∨ s.get (F.FBK_ENC_ZCFG_ZMODE n.val) = 0 ∨
    s.get (F.FBK_ENC_ZCFG_ZMODE n.val) = 2 ∧ (s.enc.get n.val).zArmed = false →
    ∃ t, exec (.encZEdge ⟨n, z⟩) s = .next t ∧ t.enc.get n.val = { s.enc.get n.val with
        z := if s.encFilt n.val ≤ z.held then z.level else (s.enc.get n.val).z } ∧
      (∀ m, m ≠ n.val → t.enc.get m = s.enc.get m) ∧ t = { s with enc := t.enc }) ∧
  (∀ (n : Fin 8) (z : LineLevel) (s : State), s.encFilt n.val ≤ z.held → z.level = true → (s.enc.get n.val).z = false →
    s.encCounts n.val = true → s.get (F.FBK_ENC_CFG_MODE n.val) = 1 → s.get (F.FBK_ENC_ZCFG_ZMODE n.val) = 1 →
    ∃ t, exec (.encZEdge ⟨n, z⟩) s = .next t ∧ t.word (R.FBK_ENC_ZLAT n.val) = s.word (R.FBK_ENC_POS n.val) ∧
      t.enc.get n.val = { s.enc.get n.val with z := true } ∧ (∀ m, m ≠ n.val → t.enc.get m = s.enc.get m) ∧
      t = { s with regs := t.regs, enc := t.enc } ∧ s.regsKept t [R.FBK_ENC_ZLAT n.val]) ∧
  (∀ (n : Fin 8) (z : LineLevel) (s : State), s.encFilt n.val ≤ z.held → z.level = true → (s.enc.get n.val).z = false →
    s.encCounts n.val = true → s.get (F.FBK_ENC_CFG_MODE n.val) = 1 →
    s.flag (F.FBK_ENC_CFG_LIMEN n.val) = false → (∀ k, k < 16 → s.flag (F.FBK_CMP_CTRL_ARM n.val k) = false) →
    (s.get (F.FBK_ENC_ZCFG_ZMODE n.val) = 3 ∨ s.get (F.FBK_ENC_ZCFG_ZMODE n.val) = 2 ∧ (s.enc.get n.val).zArmed = true) →
    ∃ t, exec (.encZEdge ⟨n, z⟩) s = .next t ∧ t.word (R.FBK_ENC_POS n.val) = s.word (R.FBK_ENC_ZVAL n.val) ∧
      (s.get (F.FBK_ENC_ZCFG_ZMODE n.val) = 2 → (t.enc.get n.val).zArmed = false) ∧ (t.enc.get n.val).z = true ∧
      t = { s with regs := t.regs, stamps := t.stamps, enc := t.enc } ∧
      s.regsKept t [R.FBK_ENC_POS n.val, R.FBK_ENC_STAT n.val]) ∧
  (∀ (n : Fin 8) (v : Word) (s : State), s.admitsSet (R.FBK_ENC_POS n.val) v.toNat → s.flag (F.FBK_ENC_CFG_LIMEN n.val) = false →
    (∀ k, k < 16 → s.flag (F.FBK_CMP_CTRL_ARM n.val k) = false) →
    ∃ t, exec (.encPosWrite n v) s = .next t ∧ t.lastErr = none ∧ t.word (R.FBK_ENC_POS n.val) = v ∧
      t.flag (F.FBK_ENC_STAT_LIMIT n.val) = false ∧
      t = { s with regs := t.regs, stamps := t.stamps, parity := none, lastErr := none } ∧
      s.regsKept t [R.FBK_ENC_POS n.val, R.FBK_ENC_STAT n.val]) ∧
  (∀ (n : Fin 8) (v : Word) (s : State), s.admitsSet (R.FBK_ENC_ZCFG n.val) v.toNat → v.getLsbD 4 = true →
    ∃ t, exec (.encZArm n v) s = .next t ∧ t.lastErr = none ∧ t.get (F.FBK_ENC_ZCFG_ZMODE n.val) = v.toNat % 4 ∧
      (t.enc.get n.val).zArmed = true) ∧
  (∀ (n : Fin 8) (v : Word) (s : State), s.admitsSet (R.FBK_ENC_ZCFG n.val) v.toNat → v.getLsbD 4 = true →
    (s.flag F.PWR_STAT_VIO_OK = true ∨ s.get (F.FBK_ENC_CFG_INTYPE n.val) = 0) →
    ∃ t, exec (.encZArm n v) s = .next t ∧ t.lastErr = none ∧ t.get (F.FBK_ENC_ZCFG_ZMODE n.val) = v.toNat % 4 ∧
      t.enc.get n.val = { s.enc.get n.val with zArmed := true } ∧
      t = { s with regs := t.regs, enc := t.enc, parity := none, lastErr := none } ∧ s.regsKept t [R.FBK_ENC_ZCFG n.val]) ∧
  (∀ (n : Fin 8) (k : Fin 16) (v : Word) (s : State), s.admitsSet (R.FBK_CMP_CTRL n.val k.val) v.toNat → v.getLsbD 0 = true →
    ∃ t, exec (.cmpArm n k v) s = .next t ∧ t.lastErr = none ∧ t.flag (F.FBK_CMP_CTRL_ARM n.val k.val) = true ∧
      t.get (F.FBK_CMP_CTRL_DIR n.val k.val) = takeField v 2 2 ∧
      t.flag (F.FBK_CMP_CTRL_BEHIND n.val k.val) = t.cmpBehind n.val k.val ∧
      t = { s with regs := t.regs, parity := none, lastErr := none } ∧ s.regsKept t [R.FBK_CMP_CTRL n.val k.val])

/-- An SSI read of an enabled idle master latches its settings and the tag. A good binary frame shows its position,
that tag and VALID and clears the error run; a missing start bit counts one error and shows cause 1, and the ERR_N-th
in a row clears VALID and raises event 83. On the 1 ms grid, once the outputs are released, an enabled emulation
output keeps the phase that it has reached, modulo one cycle, moves on at the source × K, limited to 250 cycles per
ms, and shows RATE and CLAMP; a disabled one, or one before the release, shows 0. The first conversion of an input
after a mode change is its RAW value, scaled with GAIN and OFS into VAL. A passed retest closes the shunt. With one
valid pulse source as the only enabled slot and no blend, the fused speed is its rounded value, valid, selected and
without disagreement; without a valid source it is 0 and not valid. The model's choices: what OPEN is judged on (log
entry 703), how a blend goes on (log entry 704), the GNSS slot's projection (log entry 705), the stamps of samples
(log entry 707), an open shunt and its retest (log entry 708), and the roundings (log entry 6). (R248, R249, R250,
R251, R252, R253, R254, R255, R256, R258) -/
def Obligations.FeedbackInputsAndFusion : Prop :=
  (∀ (n : Fin 2) (s : State), s.runs .fbk = true → s.flag (F.FBK_SSI_CFG_EN n.val) = true → (s.ssi.get n.val).busy = false →
    ∃ t, exec (.ssiRead n) s = .next t ∧
      t.ssi.get n.val = { s.ssi.get n.val with busy := true, cfg := s.nat (R.FBK_SSI_CFG n.val), tag := s.now } ∧
      (∀ m, m ≠ n.val → t.ssi.get m = s.ssi.get m) ∧ t = { s with ssi := t.ssi }) ∧
  (∀ (n : Fin 2) (d e : Word) (s : State), (s.ssi.get n.val).busy = true → nbit (s.ssi.get n.val).cfg 2 = false →
    nbit (s.ssi.get n.val).cfg 3 = false → (s.ssi.get n.val).cfg / 2 ^ 24 % 64 = 0 →
    ∃ t, exec (.ssiFrameDone n false d e) s = .next t ∧
      t.nat (R.FBK_SSI_POS n.val) = d.toNat % 2 ^ ((s.ssi.get n.val).cfg / 2 ^ 16 % 64) ∧
      t.nat64 (R.FBK_SSI_T_LO n.val) = (s.ssi.get n.val).tag % 2 ^ 64 ∧ t.flag (F.FBK_SSI_STAT_VALID n.val) = true ∧
      t.ssi.get n.val = { s.ssi.get n.val with busy := false, errs := 0, out := false } ∧
      t = { s with regs := t.regs, ssi := t.ssi, stamps := t.stamps } ∧
      s.regsKept t [R.FBK_SSI_POS n.val, R.FBK_SSI_T_LO n.val, R.FBK_SSI_T_HI n.val, R.FBK_SSI_STAT n.val]) ∧
  (∀ (n : Fin 2) (d e : Word) (s : State), (s.ssi.get n.val).busy = true →
    ((s.ssi.get n.val).errs + 1 < (s.ssi.get n.val).cfg / 2 ^ 8 % 16 ∨ (s.ssi.get n.val).out = true) →
    ∃ t, exec (.ssiFrameDone n true d e) s = .next t ∧ t.get (F.FBK_SSI_STAT_ERR n.val) = 1 ∧
      t.get (F.FBK_SSI_ERRCNT n.val) = min (s.get (F.FBK_SSI_ERRCNT n.val) + 1) 0xFFFF ∧
      t.ssi.get n.val = { s.ssi.get n.val with busy := false, errs := min ((s.ssi.get n.val).errs + 1) 255 } ∧
      t = { s with regs := t.regs, ssi := t.ssi } ∧ s.regsKept t [R.FBK_SSI_ERRCNT n.val, R.FBK_SSI_STAT n.val]) ∧
  (∀ (n : Fin 2) (d e : Word) (s : State), (s.ssi.get n.val).busy = true → s.kind .fbk = 1 →
    (s.ssi.get n.val).cfg / 2 ^ 8 % 16 ≤ (s.ssi.get n.val).errs + 1 → (s.ssi.get n.val).out = false →
    ∃ t, exec (.ssiFrameDone n true d e) s = .next t ∧ t.get (F.FBK_SSI_STAT_ERR n.val) = 1 ∧
      t.flag (F.FBK_SSI_STAT_VALID n.val) = false ∧ s.occurred t 83 ∧ t.word (R.FBK_SSI_POS n.val) = s.word (R.FBK_SSI_POS n.val) ∧
      t.ssi.get n.val =
        { s.ssi.get n.val with busy := false, errs := min ((s.ssi.get n.val).errs + 1) 255, out := true } ∧
      t = { s with regs := t.regs, ssi := t.ssi, occ := t.occ } ∧
      s.regsKept t [R.FBK_SSI_ERRCNT n.val, R.FBK_SSI_STAT n.val, (evBit 83).addr]) ∧
  (∀ s : State, s.atMs = false → exec .emuUpdate s = .next s ∧ exec .speedFusion s = .next s) ∧
  (∀ s : State, s.works .fbk = true → s.atMs = true →
    ∃ t, exec .emuUpdate s = .next t ∧
      (∀ n, n < 2 → s.enabled .fbk = true → s.released = true → s.flag (F.FBK_EMU_CFG_EN n) = true →
        ∀ r : Int, r = s.emuSource n * s.nat (R.FBK_EMU_K n) * (if s.flag (F.FBK_EMU_CFG_NEG n) then -1 else 1) →
        (t.emu.get n).phase = (s.emuPhase n).emod emuCycle ∧ (t.emu.get n).since = s.clk ∧
        (t.emu.get n).rate = clamp (-(250 * emuUnit)) (250 * emuUnit) r ∧
        t.get (F.FBK_EMU_STAT_RATE n) = (divOpen 250 (((t.emu.get n).rate.natAbs : Int) * 100) emuUnit).toNat %
          2 ^ (F.FBK_EMU_STAT_RATE n).w ∧
        t.flag (F.FBK_EMU_STAT_CLAMP n) = decide (250 * emuUnit < (r.natAbs : Int))) ∧
      (∀ n, n < 2 → (s.enabled .fbk = false ∨ s.released = false ∨ s.flag (F.FBK_EMU_CFG_EN n) = false) →
        t.emu.get n = default ∧ t.nat (R.FBK_EMU_STAT n) = 0) ∧
      t = { s with regs := t.regs, occ := t.occ, emu := t.emu } ∧
      s.regsKept t [R.FBK_EMU_STAT 0, R.FBK_EMU_STAT 1, (evBit 89).addr]) ∧
  (∀ (xs : List (BitVec 16)) (high : BitVec 16) (s : State), s.runs .fbk = true → xs.length = 16 →
    ∃ t, exec (.ainFrame xs high) s = .next t ∧
      (∀ n, (h : n < xs.length) → s.get (F.FBK_AIN_CFG_RANGE n) ∈ [1, 2] → s.flag (F.FBK_AIN_STAT_SHUNT_OPEN n) = false →
        (s.ain.get n).highRun < 20 → (s.ain.get n).init = false →
        t.get (F.FBK_AIN_RAW n) = xs[n].toNat ∧ (t.ain.get n).init = true ∧ (t.ain.get n).y = xs[n].toNat * 65536 ∧
        t.int (R.FBK_AIN_VAL n) =
          satS 32 (divOpen 253 (xs[n].toNat * s.int (R.FBK_AIN_GAIN n)) 65536 + s.int (R.FBK_AIN_OFS n))) ∧
      (∀ n, n < 16 → (s.get (F.FBK_AIN_CFG_RANGE n) = 0 ∨ s.flag (F.FBK_AIN_STAT_SHUNT_OPEN n) = true) →
        t.get (F.FBK_AIN_RAW n) = s.get (F.FBK_AIN_RAW n) ∧ t.ain.get n = s.ain.get n) ∧
      t = { s with regs := t.regs, occ := t.occ, ain := t.ain, stamps := t.stamps } ∧
      (∀ a, a ≠ (evBit 84).addr → (a < R.FBK_AIN_CFG 0 ∨ R.FBK_AIN_CFG 16 ≤ a) → t.word a = s.word a)) ∧
  (∀ (n : Fin 16) (s : State), exec (.ainShuntRetest n true) s = .next s) ∧
  (∀ (n : Fin 16) (s : State), s.runs .fbk = true → s.flag (F.FBK_AIN_STAT_SHUNT_OPEN n.val) = true →
    ∃ t, exec (.ainShuntRetest n false) s = .next t ∧ t.flag (F.FBK_AIN_STAT_SHUNT_OPEN n.val) = false ∧
      t.ain.get n.val = { s.ain.get n.val with init := false, highRun := 0 } ∧
      t = { s with regs := t.regs, ain := t.ain } ∧ s.regsKept t [R.FBK_AIN_STAT n.val]) ∧
  (∀ (j : Nat) (v : Int) (s : State), s.runs .fbk = true → s.atMs = true → s.flag F.FBK_FUS_CTRL_EN = true → s.get F.FBK_FUS_CTRL_BLEND = 0 →
    s.fus.rem = 0 → s.flag (F.FBK_FUS_SRC_CFG_EN 0) = true → s.get (F.FBK_FUS_SRC_CFG_TYPE 0) = 1 →
    s.get (F.FBK_FUS_SRC_CFG_INST 0) = j → j < 8 → s.get (F.FBK_ENC_CFG_MODE j) ≠ 0 → s.get (F.FBK_ENC_STAT_BAD j) = 0 →
    (∀ k, k < 6 → 0 < k → s.flag (F.FBK_FUS_SRC_CFG_EN k) = false) → v = divNear 255 (s.int (R.FBK_ENC_SPD j)) 256 →
    satS 16 v = v →
    ∃ t, exec .speedFusion s = .next t ∧ t.gets F.FBK_FUS_OUT = v ∧ t.flag F.FBK_FUS_STAT_VALID = true ∧
      t.get F.FBK_FUS_STAT_SEL = 1 ∧ t.get F.FBK_FUS_STAT_SRCVALID = 1 ∧ t.flag F.FBK_FUS_STAT_DIS = false ∧
      t.get F.FBK_FUS_SWITCH = (if s.get F.FBK_FUS_STAT_SEL = 1 then s.get F.FBK_FUS_SWITCH
        else min (s.get F.FBK_FUS_SWITCH + 1) 0xFFFF) ∧
      t = { s with regs := t.regs, fus := t.fus, stamps := t.stamps } ∧
      s.regsKept t ([R.FBK_FUS_OUT, R.FBK_FUS_STAT, R.FBK_FUS_SWITCH] ++ (List.range 6).map R.FBK_FUS_SRC_VAL)) ∧
  (∀ s : State, s.works .fbk = true → s.enabled .fbk = false → s.atMs = true →
    ∃ t, exec .speedFusion s = .next t ∧ t.get F.FBK_FUS_OUT = 0 ∧ t.flag F.FBK_FUS_STAT_VALID = false ∧
      t.get F.FBK_FUS_STAT_SEL = 0 ∧ (s.flag F.FBK_FUS_STAT_VALID = true → s.occurred t 87) ∧
      (s.flag F.FBK_FUS_STAT_VALID = false → t.occ = s.occ) ∧ t = { s with regs := t.regs, occ := t.occ, fus := t.fus } ∧
      s.regsKept t [R.FBK_FUS_OUT, R.FBK_FUS_STAT, R.FBK_FUS_SWITCH, (evBit 87).addr])

/-- A load header with FILL 1, 2 or 3 for a tile of the extent that no slot holds takes a free slot: every byte of its
layers is 0x00, 0xAA or 0xFF, no byte outside the slot changes, and the tile is resident and clean. A header with FILL
0 makes the slot load, and the next data entry, of type 0x81 at the expected offset, is copied there. While GEO is
disabled a LANE3 entry is discarded and counted. Accepted FLUSH and EVICT_ALL with one resident dirty tile and room in
LANE4 put 1 + ceil(NL × 16,384 / 56) entries there; FLUSH leaves the tile clean, EVICT_ALL frees its slot. A host
write to a resident tile's layers changes its four bytes and marks it dirty; outside one it is refused with DENIED. A
read changes nothing, and nothing is loaded where LANE3 holds nothing to consume. No page of DRAM is dead. The model's
choices: which loads are bad and what waits for a slot (log entry 804), when a slot becomes free (log entry 806), what
a disable discards (log entry 809), and a request that LANE4 cannot take (log entry 811). (R281, R282, R286, R287,
R288, R290, R291, R306) -/
def Obligations.TilesLoadFlushAndEvict : Prop :=
  (∀ (k fill : Nat) (tx ty : Int) (e : List Byte) (s : State), s.runs .geo = true → s.laneIn 3 = true → s.laneLevel 3 ≠ 0 →
    e = s.bytes (s.laneSlot 3 (s.get (F.LANE_TAIL_TAIL 3))) 64 → e.getD 2 0 = 0x80 → (e.getD 3 0).getLsbD 0 = true →
    s.geo.load = none → tx = signed 16 (leNat ((e.drop 4).take 2)) → ty = signed 16 (leNat ((e.drop 6).take 2)) →
    fill = (e.getD 8 0).toNat → fill ≤ 3 → (e.getD 9 0).toNat = s.get F.GEO_MAP_CFG_CS → (e.getD 10 0).toNat = s.geoNL →
    s.memCare.dead = [] → s.inExtent tx ty = true → s.slotOf [1, 2] tx ty = none → s.freeSlot = some k →
    ∃ t, exec .tileLoadEntry s = .next t ∧
      t.get (F.LANE_TAIL_TAIL 3) = s.laneNext 3 (s.get (F.LANE_TAIL_TAIL 3)) % 2 ^ 14 ∧
      t.geo.slots.get k = { (default : GeoSlot) with st := if fill = 0 then 1 else 2, tx := tx, ty := ty, last := s.now } ∧
      (fill = 0 → t.geo.load = some ⟨k, 0⟩ ∧ t.mem = s.mem) ∧
      (fill ≠ 0 → t.geo.load = none ∧ s.bytesKept t (s.slotBase k) s.slotBytes ∧
        ∀ i, i < s.geoNL * 16384 → t.byte (s.slotBase k + i) = BitVec.ofNat 8 ([0, 0xAA, 0xFF].getD (fill - 1) 0)) ∧
      (∀ m, m ≠ k → t.geo.slots.get m = s.geo.slots.get m) ∧
      t = { s with regs := t.regs, mem := t.mem, geo := { s.geo with slots := t.geo.slots, load := t.geo.load } } ∧
      s.regsKept t [R.LANE_TAIL 3]) ∧
  (∀ (l : GeoLoad) (e : List Byte) (s : State), s.runs .geo = true → s.laneIn 3 = true → s.laneLevel 3 ≠ 0 →
    e = s.bytes (s.laneSlot 3 (s.get (F.LANE_TAIL_TAIL 3))) 64 → e.getD 2 0 = 0x81 → (e.getD 3 0).getLsbD 1 = false →
    s.memCare.dead = [] → s.geo.load = some l → leNat ((e.drop 4).take 4) = l.next → l.next + 56 < s.geoNL * 16384 →
    ∃ t, exec .tileLoadEntry s = .next t ∧ t.bytes (s.slotBase l.slot + l.next) 56 = e.drop 8 ∧
      s.bytesKept t (s.slotBase l.slot + l.next) 56 ∧
      t.get (F.LANE_TAIL_TAIL 3) = s.laneNext 3 (s.get (F.LANE_TAIL_TAIL 3)) % 2 ^ 14 ∧
      t = { s with regs := t.regs, mem := t.mem, geo := { s.geo with load := some { l with next := l.next + 56 } } } ∧
      s.regsKept t [R.LANE_TAIL 3]) ∧
  (∀ s : State, s.works .geo = true → s.enabled .geo = false → s.laneIn 3 = true → s.laneLevel 3 ≠ 0 →
    s.laneType 3 (s.get (F.LANE_TAIL_TAIL 3)) ≠ 0 →
    ∃ t, exec .tileLoadEntry s = .next t ∧ t.get F.GEO_DISC = min (s.get F.GEO_DISC + 1) 0xFFFF ∧
      t.get (F.LANE_TAIL_TAIL 3) = s.laneNext 3 (s.get (F.LANE_TAIL_TAIL 3)) % 2 ^ 14 ∧
      t = { s with regs := t.regs } ∧ s.regsKept t [R.LANE_TAIL 3, R.GEO_DISC]) ∧
  (∀ (v k n : Nat) (e : GeoSlot) (s : State), (v = 1 ∨ v = 2) → s.admitsSet R.GEO_MAP_CMD v → s.geo.slots = [(k, e)] → e.st = 2 →
    s.memCare.dead = [] → e.dirty = true → n = 1 + (s.geoNL * 16384 + 55) / 56 → s.laneOut 4 = true → (s.lanes.get 4).held = [] →
    s.laneLevel 4 + n < s.laneSize 4 → s.get (F.LANE_HEAD_HEAD 4) < s.laneSize 4 → s.get (F.LANE_TAIL_TAIL 4) < s.laneSize 4 →
    s.laneSize 4 ≤ 16384 →
    ∃ t, exec (if v = 1 then .mapFlush else .mapEvictAll) s = .next t ∧ t.lastErr = none ∧
      t.get (F.LANE_HEAD_HEAD 4) = (s.get (F.LANE_HEAD_HEAD 4) + n) % s.laneSize 4 ∧
      t.byte (s.laneSlot 4 (s.get (F.LANE_HEAD_HEAD 4)) + 2) = 0x83 ∧
      t.geo.slots.get k = (if v = 1 then { e with dirty := false } else default) ∧ t.flag F.GEO_MAP_STAT_FLUSH_BUSY = false ∧
      s.bytesKept t (s.laneSlot 4 0) (s.laneSize 4 * 64) ∧
      t = { s with regs := t.regs, mem := t.mem, lanes := t.lanes, geo := { s.geo with slots := t.geo.slots, flush := none }
                   parity := none, lastErr := none } ∧
      s.regsKept t [R.LANE_HEAD 4, R.GEO_MAP_STAT]) ∧
  (∀ (a mask v : Word) (k : Nat) (s : State), s.mapPlace a.toNat = some k → dramBase ≤ a.toNat → a.toNat < 0x1A000000 →
    a.toNat % 4 = 0 → 4 ≤ s.phaseOf → s.parity ≠ some 0 → s.deadPage a.toNat = false → s.needsAuth a.toNat mask v = false →
    ∃ t, exec (.mapHostAccess a true mask v) s = .next t ∧ t.lastErr = none ∧
      t.dram a.toNat = (s.dram a.toNat &&& ~~~ mask) ||| (v &&& mask) ∧ s.bytesKept t a.toNat 4 ∧
      t.geo.slots.get k = { s.geo.slots.get k with dirty := true, last := s.now } ∧
      t = { s with mem := t.mem, geo := { s.geo with slots := t.geo.slots }, parity := none, lastErr := none }) ∧
  (∀ (a mask v : Word) (s : State), s.mapPlace a.toNat = none → dramBase ≤ a.toNat → a.toNat < 0x1A000000 →
    a.toNat % 4 = 0 → s.parity ≠ some 0 → s.needsAuth a.toNat mask v = false →
    exec (.mapHostAccess a true mask v) s = .next { s with parity := none, lastErr := some (.denied, 0) }) ∧
  (∀ (a mask v : Word) (s : State), dramBase ≤ a.toNat → a.toNat < 0x1A000000 → 4 ≤ s.phaseOf →
    exec (.mapHostAccess a false mask v) s = .next { s with lastErr := none }) ∧
  (∀ (w : Bool) (a mask v : Word) (s : State), (a.toNat < dramBase ∨ 0x1A000000 ≤ a.toNat) →
    exec (.mapHostAccess a w mask v) s = .next s) ∧
  (∀ s : State, (s.laneIn 3 = false ∨ s.works .geo = false ∨ s.laneLevel 3 = 0) → exec .tileLoadEntry s = .next s)

/-- An accepted FENCE_COMMIT of good fences stages the set and is busy; a bad fence is named in GEO_FENCE_ERR with
event 99. The raster gives, in every resident slot, each cell of the inactive plane the bit that says whether a fence
holds its centre, and changes no other byte of DRAM. At a tag of the 16,000 grid, with Stride disabled, no crossing
and no chunks, a geometry update takes the points' offsets and widths and shows every enabled point its projection (in
mm, where a field can hold it) and the pose's quality, or, without a pose, makes all points not valid and counts, off
the grid and in a hold there is none. A confirmation wait that is over takes the start, or the end, as inferred.
CHUNK_T after it opened a chunk closes and takes the next number. CHUNK_SIGNED of the only unsigned chunk, with room
in LANE2, sends it with its signature, raises event 103 and lets a SEC command or an image check that waited behind it
begin. The model's choices: when bindings, offsets and widths are latched (log entry 801), what a commit does to an
earlier one (log entry 805), when chunks open and what a record spans (log entries 807 and 808), a full chunk (log
entry 813), exact cell membership (log entry 810), what a disable flags (log entry 812), and that a begun command is
not interrupted by chunk signing (log entry 1916). (R276, R294, R295, R296, R301, R302, R304, R664) -/
def Obligations.FencesUpdatesAndChunks : Prop :=
  (∀ s : State, s.admitsSet R.GEO_MAP_CMD 3 → s.fencesOn.find? s.fenceBad = none →
    ∃ t, exec .fenceCommit s = .next t ∧ t.lastErr = none ∧ t.flag F.GEO_MAP_STAT_FENCE_BUSY = true ∧
      t = { s with regs := t.regs, geo := { s.geo with next := s.fencesOn.map s.fencePoly, swap := false }
                   parity := none, lastErr := none } ∧ s.regsKept t [R.GEO_MAP_STAT]) ∧
  (∀ (f : Nat) (s : State), s.admitsSet R.GEO_MAP_CMD 3 → s.fencesOn.find? s.fenceBad = some f → s.kind .geo = 1 →
    ∃ t, exec .fenceCommit s = .next t ∧ t.lastErr = none ∧ t.flag F.GEO_FENCE_ERR_VALID = true ∧
      t.get F.GEO_FENCE_ERR_N = f ∧ s.occurred t 99 ∧
      t = { s with regs := t.regs, occ := t.occ, parity := none, lastErr := none } ∧
      s.regsKept t [R.GEO_FENCE_ERR, (evBit 99).addr]) ∧
  (∀ s : State, s.flag F.GEO_MAP_STAT_FENCE_BUSY = false → exec .fenceRasterDone s = .next s) ∧
  (∀ (o : Nat) (s : State), s.memCare.dead = [] → s.flag F.GEO_MAP_STAT_FENCE_BUSY = true → o = s.planeOfs (1 - s.get F.GEO_MAP_STAT_PLANE) →
    ∃ t, exec .fenceRasterDone s = .next t ∧
      (∀ e ∈ s.residents, ∀ k i j, k = e.1 → i < 256 → j < 256 →
        (t.byte (s.slotBase k + o + j * 32 + i / 8)).getLsbD (i % 8) = s.geo.next.any (fun v => insidePoly (v.map twice)
          (cellCentre s.geoCS ((s.geo.slots.get k).tx * 256 + i, (s.geo.slots.get k).ty * 256 + j)))) ∧
      (∀ c, (∀ e ∈ s.residents, c < s.slotBase e.1 + o ∨ s.slotBase e.1 + o + 8192 ≤ c) → t.byte c = s.byte c) ∧
      t.flag F.GEO_MAP_STAT_FENCE_BUSY = false ∧
      t = { s with regs := t.regs, mem := t.mem, geo := { s.geo with swap := true } } ∧ s.regsKept t [R.GEO_MAP_STAT]) ∧
  (∀ s : State, s.onGrid 16000 = false → exec .geometryUpdate s = .next s) ∧
  (∀ s : State, s.onGrid 16000 = true → s.enabled .str = false → s.runs .geo = true → s.flag F.GEO_CHUNK_CFG_EN = false → s.geo.tails = [] →
    (∀ p, p < 1024 → (s.cross p).cross = 0) →
    ∃ t, exec .geometryUpdate s = .next t ∧ t.geo.poses = (s.geoPose :: s.geo.poses).take 32768 ∧ t.geo.shapes = s.takeShapes.geo.shapes ∧ t.geo.swap = false ∧
      (∀ a, a / 65536 ≠ 10 ∧ a / 65536 ≠ 5 → t.word a = s.word a) ∧
      (s.geo.swap = true → t.geo.fences = s.geo.next ∧ t.get F.GEO_MAP_STAT_PLANE = 1 - s.get F.GEO_MAP_STAT_PLANE) ∧
      (∀ p, p < 128 → t.flag (F.GEO_PT_STAT_VALID p) = (s.ptOn p && s.geoPose.q != 0)) ∧
      (∀ p i, p < 128 → s.ptOn p = true → s.geoPose.q ≠ 0 → i = divOpen 276 (s.takeShapes.ptAt p s.geoPose).1 1000 → satS 32 i = i →
        t.get (F.GEO_PT_STAT_PQ p) = s.geoPose.q ∧ t.int (R.GEO_PT_GE p) = i) ∧
      (∀ p i, p < 128 → s.ptOn p = true → s.geoPose.q ≠ 0 → i = divOpen 276 (s.takeShapes.ptAt p s.geoPose).2 1000 → satS 32 i = i →
        t.int (R.GEO_PT_GN p) = i) ∧
      (s.geoPose.q = 0 → t.get F.GEO_CNT_NOPOSE = min (s.get F.GEO_CNT_NOPOSE + 1) 0xFFFF) ∧
      (s.geoPose.q = 0 → s.geo.posed = none → t.mem = s.mem ∧ t.occ = s.occ ∧ t.lanes = s.lanes) ∧
      t = { s with regs := t.regs, mem := t.mem, occ := t.occ, lanes := t.lanes, geo := t.geo, fresh := t.fresh }) ∧
  (∀ (p : Fin 1024) (s : State), (s.runs .geo = false ∨ (s.cross p.val).cross = 0 ∨
      (((s.cross p.val).known = true ∨ s.now < (s.cross p.val).tc + s.ptWait p.val * msec) ∧
        ((s.cross p.val).cross ≠ 3 ∨ (s.cross p.val).stop ≠ none ∨ s.now < (s.cross p.val).tk + s.ptWait p.val * msec))) →
    exec (.confirmWaitExpiry p) s = .next s) ∧
  (∀ (p : Fin 1024) (s : State), s.runs .geo = true → (s.cross p.val).cross = 1 → (s.cross p.val).known = false →
    (s.cross p.val).tc + s.ptWait p.val * msec ≤ s.now →
    ∃ t, exec (.confirmWaitExpiry p) s = .next t ∧
      t.cross p.val = { s.cross p.val with cross := 2, known := true, infO := true, start := (s.cross p.val).tc + ((s.cross p.val).latO + (s.cross p.val).hydO) * usec } ∧
      (∀ m, m ≠ p.val → t.cross m = s.cross m) ∧
      t = { s with regs := t.regs, geo := { s.geo with points := t.geo.points } } ∧
      s.regsKept t (if p.val < 128 then [R.GEO_PT_STAT p.val] else [])) ∧
  (∀ (p : Fin 1024) (s : State), s.runs .geo = true → (s.cross p.val).cross = 3 → (s.cross p.val).stop = none →
    (s.cross p.val).known = true → (s.cross p.val).tk + s.ptWait p.val * msec ≤ s.now →
    ∃ t, exec (.confirmWaitExpiry p) s = .next t ∧
      t.cross p.val = { s.cross p.val with infC := true, stop := some ((s.cross p.val).tk + ((s.cross p.val).latC + (s.cross p.val).hydC) * usec) } ∧
      t = { s with regs := t.regs, geo := { s.geo with points := t.geo.points } } ∧
      s.regsKept t (if p.val < 128 then [R.GEO_PT_STAT p.val] else [])) ∧
  (∀ s : State, (s.runs .geo = false ∨ s.geo.opened = none ∨ s.clk < s.geo.openAt + s.get F.GEO_CHUNK_CFG_CHUNK_T * msec) →
    exec .chunkClose s = .next s) ∧
  (∀ (t0 : Nat) (s : State), s.runs .geo = true → s.geo.tails = [] → (∀ p, p < 128 → (s.cross p).cross = 0) →
    s.geo.opened = some t0 →
    s.geo.openAt + s.get F.GEO_CHUNK_CFG_CHUNK_T * msec ≤ s.clk → s.geo.recs = [] → s.geo.chunks.length < 2 →
    ∃ t, exec .chunkClose s = .next t ∧ t.nat R.GEO_CHUNK_SEQ = (s.nat R.GEO_CHUNK_SEQ + 1) % 2 ^ 32 ∧
      t.geo = { s.geo with opened := if s.flag F.GEO_CHUNK_CFG_EN then some s.now else none, openAt := s.clk, cells := 0
                           ovl := 0, excl := 0, lostRec := false
                           chunks := s.geo.chunks ++ [⟨s.chunkHead t0 false, [], t0, false, 0⟩] } ∧
      t = { s with regs := t.regs, geo := t.geo } ∧ s.regsKept t [R.GEO_CHUNK_SEQ]) ∧
  (∀ s : State, (s.runs .sec = false ∨ ∀ c ∈ s.geo.chunks, c.signed = true) → exec .chunkSigned s = .next s) ∧
  (∀ (c : GeoChunk) (n : Nat) (s : State), s.runs .sec = true → s.memCare.dead = [] → s.kind .geo = 1 → s.geo.chunks = [c] → c.signed = false →
    n = c.entries.length + 2 → s.laneOut 2 = true → (s.lanes.get 2).held = [] → s.laneLevel 2 + n < s.laneSize 2 →
    s.get (F.LANE_HEAD_HEAD 2) < s.laneSize 2 → s.get (F.LANE_TAIL_TAIL 2) < s.laneSize 2 → s.laneSize 2 ≤ 16384 →
    ∃ t, exec .chunkSigned s = .next t ∧ t.get (F.LANE_HEAD_HEAD 2) = (s.get (F.LANE_HEAD_HEAD 2) + n) % s.laneSize 2 ∧
      t.bytes (s.laneSlot 2 ((s.get (F.LANE_HEAD_HEAD 2) + n - 2) % s.laneSize 2) + 8) 32 =
        (leBytes 64 (Config.ecdsaSign Config.deviceKey (Config.sha256 c.signedBytes)).toNat).take 32 ∧
      t.geo = { s.geo with chunks := [] } ∧ s.occurred t 103 ∧ t.get F.SEC_SIGN_CNT = min (s.get F.SEC_SIGN_CNT + 1) (2 ^ F.SEC_SIGN_CNT.w - 1) ∧
      s.bytesKept t (s.laneSlot 2 0) (s.laneSize 2 * 64) ∧
      t = { s with regs := t.regs, mem := t.mem, occ := t.occ, lanes := t.lanes, geo := t.geo
                   sec := { s.sec with cmdWaits := false, imgWaits := false } } ∧
      s.regsKept t [R.LANE_HEAD 2, F.SEC_SIGN_CNT.addr, (evBit 103).addr])

/-- At a tick of the 4,000 grid of a module without the lead role, with one active point: bound to a load switch,
FORCE = on, from off, forms one ON, and FORCE = off, from on, one OFF, on the wire to the switch, with start tag the
tick plus 2 ticks or the last queued start for the output where that is later, to a whole µs; the point's plan is
queued and STR_CNT_CMD counts. Bound to a solenoid channel, the ON starts at the first instant outside the predicted
windows, shifted behind the bank's bookings by no more than STAGGER_MAX, and books its BOOST, or, where its wait would
be more than BOOST_DEFER_MAX, books none, with event 117; the OFF starts outside the windows. In AUTO and RUN, the ON
is formed where the footprint's fractions at the start plus the lead meet the ON condition and the point has travelled
MIN_OFF, none where its lateness is above LATE_MAX, and the OFF where they meet the exclusion limit, or the OFF
threshold after MIN_ON; else the plan stays. Off the grid and in a hold nothing is formed. While working memory is
rebuilt, no tick adds an ON to any point's queue. A geometry update of the 16,000 grid without a valid fused speed
makes Stride stop, with event 115 on entry, and a point that is not active goes on travelling. The end of the last
rebuild frees every point to decide, and that of an earlier one only takes it off the list. The model's choices: a
start that a window moves (log entry 901), how windows are predicted (log entries 902 and 916), what a late step looks
at (log entry 903), a DR pose without a QREQ pose (log entry 904), the OFF of a disable (log entry 911), and a point
bound to nothing (log entry 913). (R317, R323, R327, R329, R331, R338, R341, R342) -/
def Obligations.StrideFormsCommands : Prop :=
  (∀ (p : Nat) (s : State), p < 128 → s.runs .str = true → s.onGrid tickLen = true → s.isLead = false →
    (∀ q, q < 128 → q ≠ p → s.ptActive q = false) → s.ptOn p = true → s.ptKind p = 2 →
    ∀ start : Nat, start = wholeUsec (max (s.now + 2 * tickLen)
      (match lastQueued (s.outQueued (outKey p (s.ptBind p))) with | some c => c.2 | none => 0)) →
    (s.ptForce p = 2 → (s.pt p).planOn = false → s.str.rebuild = [] →
      ∃ t, exec .strideTick s = .next t ∧ (t.pt p).plan = 1 ∧ (t.pt p).valid = true ∧
        t.str.hswWire = s.str.hswWire ++
          [{ src := .stride p, out := s.ptInst p, op := 1, start := start, duty := 0xFFFF }] ∧
        (t.pt p).queue.length = (s.pt p).queue.length + 1 ∧
        t.nat R.STR_CNT_CMD = min (s.nat R.STR_CNT_CMD + 1) 0xFFFFFFFF ∧ t.str.solWire = s.str.solWire ∧
        t = { s with regs := t.regs, occ := t.occ, str := t.str } ∧
        s.regsKept t [R.STR_CNT_CMD, R.STR_CNT_HORIZON, H.sticky .str, (evBit 120).addr, R.STR_SAT_BACKLOG]) ∧
    (s.ptForce p = 1 → (s.pt p).planOn = true →
      ∃ t, exec .strideTick s = .next t ∧ (t.pt p).plan = 3 ∧ (t.pt p).offWhy = 2 ∧
        t.str.hswWire = s.str.hswWire ++
          [{ src := .stride p, out := s.ptInst p, op := 2, start := start, duty := 0 }] ∧
        t.nat R.STR_CNT_CMD = min (s.nat R.STR_CNT_CMD + 1) 0xFFFFFFFF ∧ t.str.solWire = s.str.solWire ∧
        t = { s with regs := t.regs, occ := t.occ, str := t.str } ∧
        s.regsKept t [R.STR_CNT_CMD, R.STR_CNT_HORIZON, H.sticky .str, (evBit 120).addr, R.STR_SAT_BACKLOG])) ∧
  (∀ (p : Nat) (s : State), p < 128 → s.runs .str = true → s.onGrid tickLen = true → s.isLead = false →
    (∀ q, q < 128 → q ≠ p → s.ptActive q = false) → s.ptOn p = true → s.ptKind p = 1 →
    ∀ a : Nat, a = s.strClear p (s.now + 2 * tickLen) →
    (∀ (b : StrBank) (defer d s0 start : Nat) (none_ : Bool), s.ptForce p = 2 → (s.pt p).planOn = false → s.str.rebuild = [] →
      b = s.bankFrom p a → d = s.boostEst p * usec → defer = s.get (F.SOL_DIE_ARB_BOOST_DEFER_MAX (s.ptInst p / 48)) * usec →
      s0 = max a (max (b.free - min (s.get F.STR_STAGGER_BUDGET * usec) defer) b.start) →
      start = min s0 (a + s.get F.STR_STAGGER_STAGGER_MAX * usec) →
      none_ = (decide (s.get F.STR_STAGGER_STAGGER_MAX * usec < s0 - a) && decide (defer < b.free - start)) →
      ∃ t, exec .strideTick s = .next t ∧ (t.pt p).plan = 1 ∧ (t.pt p).noBoost = none_ ∧ (t.pt p).stag = (start - a) / usec ∧
        t.str.solWire = s.str.solWire ++
          [{ src := .stride p, out := s.ptInst p, op := 1, start := start, duty := s.onDuty p }] ∧
        t.str.banks = (if none_ then s.str.banks
          else s.str.banks.set (s.ptBank p) ⟨max start b.free + d, max start b.free⟩) ∧
        (none_ = true → t.flag (evBit 117) = true ∧
          t.get ⟨R.STR_CNT_NOBOOST, 0, 16⟩ = min (s.get ⟨R.STR_CNT_NOBOOST, 0, 16⟩ + 1) 0xFFFF) ∧
        t.nat R.STR_CNT_CMD = min (s.nat R.STR_CNT_CMD + 1) 0xFFFFFFFF ∧ t.str.hswWire = s.str.hswWire ∧
        t = { s with regs := t.regs, occ := t.occ, str := t.str } ∧
        s.regsKept t [R.STR_CNT_CMD, R.STR_CNT_HORIZON, R.STR_CNT_NOBOOST, H.sticky .str, (evBit 117).addr, (evBit 120).addr,
          R.STR_SAT_BACKLOG]) ∧
    (s.ptForce p = 1 → (s.pt p).planOn = true →
      ∃ t, exec .strideTick s = .next t ∧ (t.pt p).plan = 3 ∧ (t.pt p).offWhy = 2 ∧
        t.str.solWire = s.str.solWire ++ [{ src := .stride p, out := s.ptInst p, op := 2, start := a, duty := 0 }] ∧
        t.nat R.STR_CNT_CMD = min (s.nat R.STR_CNT_CMD + 1) 0xFFFFFFFF ∧ t.str.hswWire = s.str.hswWire ∧
        t.str.banks = s.str.banks ∧ t = { s with regs := t.regs, occ := t.occ, str := t.str } ∧
        s.regsKept t [R.STR_CNT_CMD, R.STR_CNT_HORIZON, H.sticky .str, (evBit 120).addr, R.STR_SAT_BACKLOG])) ∧
  (∀ (p te m : Nat) (f : Fraction) (s : State), p < 128 → s.strMode = 1 → s.onGrid tickLen = true → s.isLead = false →
    (∀ q, q < 128 → q ≠ p → s.ptActive q = false) → s.ptOn p = true → s.ptKind p ≠ 0 → s.ptForce p = 0 →
    te = s.now + 2 * tickLen + (if (s.pt p).planOn then min ((s.latencies p).2.2 + (s.pt p).hyd) (s.get F.STR_HORIZON_HORIZON * 1000)
      else min ((s.latencies p).2.1 + (s.pt p).hyd) (s.get F.STR_HORIZON_HORIZON * 1000)) * usec →
    f = (s.fractions p te).1 →
    ((s.pt p).planOn = false → (s.pt p).skip = false →
      m = (if (s.pt p).settled then s.lateness p te true s.lateSteps 0 else 0) →
      ((s.pt p).settled = true → s.ptCells p (arc s.strPose ((te : Int) - s.strPose.tag)) ≠ []) →
      ∃ t, exec .strideTick s = .next t ∧ (t.pt p).settled = true ∧
        (s.onCond p f = true → s.minOff p * 1000 ≤ (s.pt p).travel → m * 250 ≤ s.get F.STR_LATE_ON_LATE_MAX →
          (t.pt p).plan = 1 ∧ ∃ c, (t.pt p).queue = (s.pt p).queue ++ [c] ∧ c.on = true ∧
            (s.ptKind p ≠ 1 → c.start = s.strClear p (s.now + 2 * tickLen)) ∧ s.strClear p (s.now + 2 * tickLen) ≤ c.start) ∧
        (s.onCond p f = true → s.minOff p * 1000 ≤ (s.pt p).travel → s.get F.STR_LATE_ON_LATE_MAX < m * 250 →
          (t.pt p).plan = (s.pt p).plan ∧ (t.pt p).queue = (s.pt p).queue ∧ t.flag (evBit 116) = true ∧
          t.get F.STR_CNT_LATE_SKIP = min (s.get F.STR_CNT_LATE_SKIP + 1) (2 ^ F.STR_CNT_LATE_SKIP.w - 1)) ∧
        ((s.onCond p f = false ∨ (s.pt p).travel < s.minOff p * 1000) →
          (t.pt p).plan = (s.pt p).plan ∧ (t.pt p).queue = (s.pt p).queue) ∧
        t = { s with regs := t.regs, occ := t.occ, str := t.str, fresh := t.fresh }) ∧
    ((s.pt p).planOn = true →
      ∃ t, exec .strideTick s = .next t ∧ (t.pt p).settled = true ∧
        (s.exclTol p * f.n < f.excluded * 100 ∨ f.unapplied * 100 < s.offThresh p * f.n ∧ s.minOn p * 1000 ≤ (s.pt p).travel →
          (t.pt p).plan = 3 ∧ (t.pt p).offWhy = (if s.exclTol p * f.n < f.excluded * 100 then 1 else 0) ∧
          ∃ c, (t.pt p).queue = (s.pt p).queue ++ [c] ∧ c.on = false ∧ c.start = s.strClear p (s.now + 2 * tickLen)) ∧
        (¬ (s.exclTol p * f.n < f.excluded * 100 ∨ f.unapplied * 100 < s.offThresh p * f.n ∧ s.minOn p * 1000 ≤ (s.pt p).travel) →
          (t.pt p).plan = (s.pt p).plan ∧ (t.pt p).queue = (s.pt p).queue) ∧
        t = { s with regs := t.regs, occ := t.occ, str := t.str, fresh := t.fresh })) ∧
  (∀ s : State, (s.onGrid tickLen = false ∨ s.works .str = false) → exec .strideTick s = .next s) ∧
  (∀ (s : State), s.str.rebuild ≠ [] → ∃ t, exec .strideTick s = .next t ∧
    ∀ p, ∀ c ∈ (t.pt p).queue, c.on = true → c ∈ (s.pt p).queue) ∧
  (∀ s : State, s.onGrid 16000 = true → s.runs .str = true → s.enabled .geo = false → s.flag F.FBK_FUS_STAT_VALID = false →
    s.isLead = false → (∀ p, p < 1024 → s.ptActive p = false) → s.get F.STR_CFG_QREQ ≤ s.geoPose.q →
    ∃ t, exec .geometryUpdate s = .next t ∧
      t.str = { s.str with stop := true, base := 0, drPose := none, dr := 0, good := some s.geoPose, points := t.str.points } ∧
      (∀ p, p < 1024 → t.pt p = (if s.pt p = default then default else { s.pt p with travel := (s.pt p).travel +
        (pointSpeed (s.gets F.FBK_FUS_OUT) (s.gets F.NAV_POSE_SPD_YAW) (s.ptX p) (s.ptY p)).natAbs / 1000 })) ∧
      t.get F.STR_STATE_MODE = (if s.str.rebuild = [] then 4 else 5) ∧
      (s.str.stop = false → s.kind .str = 1 → s.occurred t 115) ∧ (s.str.stop = true → t.occ = s.occ) ∧
      t = { s with regs := t.regs, occ := t.occ, str := t.str, stamps := t.stamps } ∧
      s.regsKept t ([R.STR_STATE, (evBit 115).addr] ++ (List.range 4).flatMap (fun k =>
        [R.STR_FLOW_VAL k, R.STR_LAYER_ON k, R.STR_LAYER_DSUM k, R.STR_LAYER_WIDTH k]))) ∧
  (∀ (e : Nat) (s : State), s.str.rebuild = [e] →
    ∃ t, exec .wmRebuildEnd s = .next t ∧ t.str.rebuild = [] ∧ (∀ p, (t.pt p).settled = false) ∧
      t = { s with str := { s.str with rebuild := [], points := t.str.points } }) ∧
  (∀ (e e' : Nat) (l : List Nat) (s : State), s.str.rebuild = e :: e' :: l →
    exec .wmRebuildEnd s = .next { s with str := { s.str with rebuild := e' :: l } }) ∧
  (∀ s : State, s.str.rebuild = [] → exec .wmRebuildEnd s = .next s)

/-- An accepted push takes the oldest one in flight away, keeps its commands as accepted there until they start,
clears the failure count and marks a reachable satellite reachable. A push that fails before the earliest tag it
carries is sent again as it was and stays in flight; one that can no longer be sent whole puts what is still to come
back into the queue in order of tag; the third failure in a row marks the satellite unreachable and raises event 118.
An OFF retry of an unreachable satellite without a point that is on notes the instant and sends nothing; with such
points it sends one push, or waits for the next tick where this one had a push. A LANE10 entry of one ON or OFF for a
solenoid channel of a satellite with a tick, not late, goes on its way to the output with its resolved start. A
relayed opening report starts the crossing of its point at the reported instant plus the hydraulic delay. Where there
is no push, no retry due or no entry, nothing happens. The model's choices: a start that a window moves (log entry
901), what a time step withdraws (log entry 905), an undelivered DUTY (log entry 906), remote solenoid points (log
entry 907), late reports (log entries 908 and 916), the push's form and way (log entry 909), and what a lost tick
discards (log entry 915). (R344, R345, R346, R347, R349, R350) -/
def Obligations.LeadAndSatellitesExchangeCommands : Prop :=
  (∀ (a : Fin 64) (ok : Bool) (s : State), (s.str.sats.get a.val).inFlight = [] →
    exec (.leadPushReply a ok) s = .next s) ∧
  (∀ (a : Fin 64) (f : SatPush) (l : List SatPush) (s : State), (s.str.sats.get a.val).inFlight = f :: l →
    (s.str.sats.get a.val).lost = false →
    ∃ t, exec (.leadPushReply a true) s = .next t ∧ t.flag (satOk a.val) = true ∧
      t.str.sats.get a.val = { s.str.sats.get a.val with
        inFlight := l, fails := 0, lost := false
        placed := ((s.str.sats.get a.val).placed ++ f.cmds).filter (fun c => decide (s.now < c.start)) } ∧
      (∀ p, (t.pt p).plan = (s.pt p).plan ∧ (t.pt p).queue.length = (s.pt p).queue.length) ∧
      t = { s with regs := t.regs, str := { s.str with sats := t.str.sats, points := t.str.points } } ∧
      s.regsKept t [(satOk a.val).addr]) ∧
  (∀ (a : Fin 64) (f : SatPush) (l : List SatPush) (s : State), (s.str.sats.get a.val).inFlight = f :: l →
    (∀ c ∈ f.cmds, s.now < c.start) →
    ((s.str.sats.get a.val).fails ≠ 2 → f.whole = true → ∃ t, exec (.leadPushReply a false) s = .next t ∧
      t.str.sats.get a.val = { s.str.sats.get a.val with fails := (s.str.sats.get a.val).fails + 1 } ∧
      t.link = (s.sendPush a.val f).link ∧
      t = { s with link := t.link, str := { s.str with sats := t.str.sats } }) ∧
    ((s.str.sats.get a.val).fails ≠ 2 → f.whole = false → ∃ t, exec (.leadPushReply a false) s = .next t ∧
      t.str.sats.get a.val = { s.str.sats.get a.val with
        inFlight := l, fails := (s.str.sats.get a.val).fails + 1
        queue := f.cmds.foldl (fun q c => satInsert c q) (s.str.sats.get a.val).queue } ∧
      t = { s with str := { s.str with sats := t.str.sats } }) ∧
    ((s.str.sats.get a.val).fails = 2 → (s.str.sats.get a.val).lost = false → s.kind .str = 1 →
      ∃ t, exec (.leadPushReply a false) s = .next t ∧ t.flag (satOk a.val) = false ∧ s.occurred t 118 ∧
      (t.str.sats.get a.val).fails = 3 ∧ (t.str.sats.get a.val).lost = true ∧
      (∀ p ∈ s.satPoints a.val, (s.cross p).stop = none → (t.cross p).cross ≠ 1 ∧ (t.cross p).cross ≠ 2))) ∧
  (∀ (a : Fin 64) (s : State), (s.runs .str = false ∨ s.isLead = false ∨ (s.str.sats.get a.val).lost = false ∨
    s.clk < (s.str.sats.get a.val).dueAt + 100 * msec) → exec (.satOffRetry a) s = .next s) ∧
  (∀ (a : Fin 64) (ps : List Nat) (s : State), s.runs .str = true → s.isLead = true → (s.str.sats.get a.val).lost = true →
    (s.str.sats.get a.val).dueAt + 100 * msec ≤ s.clk → (s.str.sats.get a.val).queue = [] →
    ps = (s.satPoints a.val).filter (fun p => (s.pt p).planOn) →
    (ps = [] →
      ∃ t, exec (.satOffRetry a) s = .next t ∧
        t.str.sats.get a.val = { s.str.sats.get a.val with dueAt := s.clk } ∧
        t = { s with regs := t.regs, str := { s.str with sats := t.str.sats } } ∧ s.regsKept t []) ∧
    (ps ≠ [] → ps.length ≤ 28 → 4 ≤ s.get F.STR_CFG_Q_SAT → (s.str.sats.get a.val).pushed ≠ some (s.now / tickLen) →
      ∃ t f, exec (.satOffRetry a) s = .next t ∧ t.link = (s.sendPush a.val f).link ∧ f.cmds.length = ps.length ∧
        (∀ c ∈ f.cmds, c.op = 2 ∧ c.pt ∈ ps ∧ c.start = s.strClear c.pt (s.execTag c.pt (s.now / tickLen * tickLen))) ∧
        t.nat R.STR_CNT_CMD = min (s.nat R.STR_CNT_CMD + ps.length) 0xFFFFFFFF ∧
        t.str.sats.get a.val = { s.str.sats.get a.val with
          dueAt := s.clk, queue := [], inFlight := (s.str.sats.get a.val).inFlight ++ [f]
          pushed := some (s.now / tickLen), seq := ((s.str.sats.get a.val).seq + 1) % 256
          lseq := ((s.str.sats.get a.val).lseq + (ps.length + 6) / 7) % 65536 } ∧
        t = { s with regs := t.regs, link := t.link, str := { s.str with sats := t.str.sats } } ∧
        s.regsKept t [R.STR_CNT_CMD]) ∧
    (ps ≠ [] → 4 ≤ s.get F.STR_CFG_Q_SAT → (s.str.sats.get a.val).pushed = some (s.now / tickLen) →
      ∃ t, exec (.satOffRetry a) s = .next t ∧ (t.str.sats.get a.val).queue.length = ps.length ∧
        (t.str.sats.get a.val).dueAt = s.clk ∧
        t.nat R.STR_CNT_CMD = min (s.nat R.STR_CNT_CMD + ps.length) 0xFFFFFFFF ∧
        t = { s with regs := t.regs, str := { s.str with sats := t.str.sats } } ∧ s.regsKept t [R.STR_CNT_CMD])) ∧
  (∀ s : State, (s.laneIn 10 = false ∨ s.laneLevel 10 = 0) → exec .satCommandEntry s = .next s) ∧
  (∀ (e : List Byte) (s : State), s.laneIn 10 = true → s.laneLevel 10 ≠ 0 →
    e = s.bytes (s.laneSlot 10 (s.get (F.LANE_TAIL_TAIL 10))) 64 → e.getD 2 0 ≠ 0 →
    (s.isSat = false ∨ s.tickless = true ∨ e.getD 2 0 ≠ 0xA0) →
    ∃ t, exec .satCommandEntry s = .next t ∧
      t.get (F.LANE_TAIL_TAIL 10) = s.laneNext 10 (s.get (F.LANE_TAIL_TAIL 10)) % 2 ^ 14 ∧
      t = { s with regs := t.regs } ∧ s.regsKept t [R.LANE_TAIL 10]) ∧
  (∀ (e : List Byte) (inst op start : Nat) (s : State), s.isSat = true → s.tickless = false → s.laneIn 10 = true →
    s.laneLevel 10 ≠ 0 → e = s.bytes (s.laneSlot 10 (s.get (F.LANE_TAIL_TAIL 10))) 64 → e.getD 2 0 = 0xA0 →
    leNat ((e.drop 4).take 4) = 1 → inst = (e.getD 8 0).toNat → inst < 96 → op = (e.getD 9 0).toNat / 16 → (op = 1 ∨ op = 2) →
    start = nearTick (s.now / tickLen) (leNat ((e.drop 13).take 3)) * tickLen + (e.getD 12 0).toNat * usec →
    (op = 1 → s.now ≤ start) →
    ∃ t, exec .satCommandEntry s = .next t ∧
      t.str = { s.str with solWire := s.str.solWire ++
        [{ src := .lead start, out := inst, op := op, start := start, duty := leNat ((e.drop 10).take 2) }] } ∧
      t.get (F.LANE_TAIL_TAIL 10) = s.laneNext 10 (s.get (F.LANE_TAIL_TAIL 10)) % 2 ^ 14 ∧
      t = { s with regs := t.regs, str := t.str } ∧ s.regsKept t [R.LANE_TAIL 10]) ∧
  (∀ s : State, (s.get F.STR_SAT_CFG_RELAY = 0 ∨ s.isLead = false ∨ s.runs .str = false ∨
    s.laneIn (s.get F.STR_SAT_CFG_RELAY) = false ∨ s.laneLevel (s.get F.STR_SAT_CFG_RELAY) = 0) →
    exec .satReportEntry s = .next s) ∧
  (∀ (e : List Byte) (n q tOpen : Nat) (s : State), s.runs .str = true → s.isLead = true → n = s.get F.STR_SAT_CFG_RELAY →
    0 < n → s.laneIn n = true → s.laneLevel n ≠ 0 → e = s.bytes (s.laneSlot n (s.get (F.LANE_TAIL_TAIL n))) 64 →
    e.getD 2 0 = 0xA2 → (s.satPoints (e.getD 8 0).toNat).find? (fun q => s.outBind q / 2 ^ 16 % 256 == (e.getD 9 0).toNat) = some q →
    e.getD 10 0 = 1 → (e.getD 11 0).getLsbD 0 = false → tOpen = leNat ((e.drop 12).take 8) → (s.cross q).cross = 1 →
    (s.cross q).known = false →
    ∃ t, exec .satReportEntry s = .next t ∧
      t.cross q = { s.cross q with start := tOpen + (s.cross q).hydO * usec, known := true, infO := false, confO := true
                                   cross := 2 } ∧
      t.get (F.LANE_TAIL_TAIL n) = s.laneNext n (s.get (F.LANE_TAIL_TAIL n)) % 2 ^ 14 ∧
      t = { s with regs := t.regs, geo := { s.geo with points := t.geo.points } } ∧ s.regsKept t [R.LANE_TAIL n])

/-- Where none of the earlier reasons of R704 holds (the channel follows in no pair, the source fits, channel and
block are enabled, the mode takes commands, and no safe state forces the channel off): an ON for a solenoid channel
that reaches the die after its start instant is not queued, counts as dropped with reason 7, LATE, and raises the
die's drop event. An OFF that reaches the die after its start instant, the channel's queue being empty, is due at
once: the channel's next command start takes it; a channel in HOLD, or in a PEAK that ends at that instant, then
decays, one in OFF stays off, and one in a phase that takes no command drops it for that (R704), also where a PWM off
instant or cycle start of that very instant has just begun it (R383). With no command on the way or due, nothing
happens. The model's choices: which OFF is dropped with reason PHASE (log entry 1002), an off instant before the
cycle's profile begins (log entry 1006), the queue count (log entry 1009), and what a disable discards (log entry
914). (R381, R383, R704) -/
def Obligations.LateCommandsAtTheDie : Prop :=
  (∀ (c : OutCmd) (l : List OutCmd) (s : State), s.str.solWire = c :: l → c.op = 1 → c.start < s.now → (∀ p, c.src ≠ .stride p) →
    c.src ≠ .host → s.isSat = false → s.solFollows c.out = false → s.flag (F.SOL_CH_CFG_CSRC c.out) = true →
    s.solEnabled c.out = true → (s.solMode c.out = 1 ∨ s.solMode c.out = 2) → s.outForced (dieOf c.out) = false → c.out < 96 →
    ∃ t, exec .solCommandArrive s = .next t ∧ t.get (F.SOL_CH_STAT_LASTDROP c.out) = 7 ∧ t.sol = s.sol ∧
      t.get ⟨R.SOL_CH_DROP c.out, 0, 16⟩ = min (s.get ⟨R.SOL_CH_DROP c.out, 0, 16⟩ + 1) 0xFFFF ∧
      s.occurred t (143 + 16 * dieOf c.out) ∧ t = { s with regs := t.regs, occ := t.occ, str := { s.str with solWire := l } } ∧
      s.regsKept t [R.SOL_CH_DROP c.out, R.SOL_CH_STAT c.out, (evBit (143 + 16 * dieOf c.out)).addr]) ∧
  (∀ (p : Nat) (c : OutCmd) (l : List OutCmd) (s : State), s.str.solWire = c :: l → c.op = 1 → c.start < s.now →
    c.src = .stride p → s.solFollows c.out = false → s.flag (F.SOL_CH_CFG_CSRC c.out) = true →
    s.solEnabled c.out = true → (s.solMode c.out = 1 ∨ s.solMode c.out = 2) → s.outForced (dieOf c.out) = false → c.out < 96 →
    ∃ t, exec .solCommandArrive s = .next t ∧ t.get (F.SOL_CH_STAT_LASTDROP c.out) = 7 ∧ t.sol = s.sol ∧
      t.str.solWire = l ∧ t.flag (evBit (143 + 16 * dieOf c.out)) = true ∧
      t.get ⟨R.SOL_CH_DROP c.out, 0, 16⟩ = min (s.get ⟨R.SOL_CH_DROP c.out, 0, 16⟩ + 1) 0xFFFF) ∧
  (∀ (n : Fin 96) (c : OutCmd) (l : List OutCmd) (s : State), s.str.solWire = c :: l → c.out = n.val → c.op = 2 → c.start < s.now →
    c.src ≠ .host → s.solFollows n.val = false → s.flag (F.SOL_CH_CFG_CSRC n.val) = true → s.solEnabled n.val = true →
    (s.solMode n.val = 1 ∨ s.solMode n.val = 2) → (s.sol.get n.val).queue = [] →
    ∃ t, exec .solCommandArrive s = .next t ∧ (t.sol.get n.val).queue = [c] ∧
      t = { s with sol := t.sol, str := { s.str with solWire := l } } ∧
      ∃ u, exec (.solCommandStart n) t = .next u ∧ (u.sol.get n.val).queue = [] ∧ u.str.solWire = l ∧
        (s.phase n.val ∈ [0, 5, 7] → (∀ o, (s.sol.get n.val).offTag = some o → s.now < o) →
          ((s.sol.get n.val).train = false ∨ s.now < (s.sol.get n.val).nextAt) →
          u.flag (F.SOL_CH_STAT_CMD n.val) = false ∧ u.phase n.val = (if s.phase n.val = 5 then 6 else s.phase n.val)) ∧
        (∀ o, s.phase n.val = 5 → (s.sol.get n.val).offTag = some o → o ≤ s.now →
          u.get (F.SOL_CH_STAT_LASTDROP n.val) = 1 ∧ u.phase n.val = 6) ∧
        (s.phase n.val ∉ [0, 5, 7] →
          (s.phase n.val = 4 → s.passed (s.sol.get n.val).phaseAt ((s.sol.get n.val).prof.tPeak * 10 * usec) = false) →
          u.get (F.SOL_CH_STAT_LASTDROP n.val) = 1) ∧
        (s.phase n.val = 4 → s.passed (s.sol.get n.val).phaseAt ((s.sol.get n.val).prof.tPeak * 10 * usec) = true →
          (s.sol.get n.val).offPend = false → (s.sol.get n.val).stopping = false →
          (∀ o, (s.sol.get n.val).offTag = some o → s.now < o) →
          ((s.sol.get n.val).train = false ∨ s.now < (s.sol.get n.val).nextAt) →
          u.flag (F.SOL_CH_STAT_CMD n.val) = false ∧ u.phase n.val = 6) ∧
        (s.phase n.val = 0 → s.solMode n.val = 2 → (s.sol.get n.val).train = true → (s.sol.get n.val).nextAt ≤ s.now →
          (∀ o, (s.sol.get n.val).offTag = some o → s.now < o) → 0 < s.get (F.SOL_CH_DUTY_DUTY n.val) → s.solBlocked n.val = false →
          u.get (F.SOL_CH_STAT_LASTDROP n.val) = 1 ∧ u.phase n.val ≠ 0)) ∧
  (∀ s : State, s.str.solWire = [] → exec .solCommandArrive s = .next s) ∧
  (∀ (n : Fin 96) (s : State), ((s.sol.get n.val).queue = [] ∨
    ∃ c l, (s.sol.get n.val).queue = c :: l ∧ s.now < c.start) → exec (.solCommandStart n) s = .next s)

/-- An accepted host ON or OFF goes on its way to the die. A host command that no rule drops is queued with its
arrival as start instant. A due ON of a channel in SWITCH mode that nothing blocks latches its slot and counts a
cycle; it enters BOOST where the bank is idle, or boosts a higher channel that asked at the same instant, and WAIT
where it boosts otherwise. BOOST that reaches I_PEAK shows the current and enters PEAK; one without a load at its time
limit raises the open-load event and decays. A wait that is over, and a NOBOOST rise that reaches I_PEAK, go on to
NOBOOST and PEAK. PEAK ends in HOLD, an open load in HOLD decays, DECAY ends in OFF with its duration, and a channel
long enough in OFF is calibrated. In any other phase none of these does anything, and a wait ends in NOBOOST only
where no boost of the bank reaches its time limit at that instant. The model's choices: what TMEAS takes (log entry
1001), the order at one instant (log entry 1004), requests of a bank under voltage (log entry 1011), the commands that
end phases (log entry 1013), the demand and its clamp (log entry 1014), and the dither's form (log entry 1015). (R370,
R375, R377, R378, R379, R380, R382, R384, R396, R704) -/
def Obligations.ProfilesRunThroughTheirPhases : Prop :=
  (∀ (n : Fin 96) (on : Bool) (s : State), s.admitsSet (R.SOL_CH_CMD n.val) (if on then 1 else 2) →
    exec (if on then .solChOn n else .solChOff n) s = .next (State.settled { s with str := { s.str with solWire :=
      s.str.solWire ++ [{ src := .host, out := n.val, op := if on then 1 else 2, start := 0, duty := 0xFFFF }] } })) ∧
  (∀ (c : OutCmd) (l : List OutCmd) (s : State), s.str.solWire = c :: l → c.src = .host → (c.op = 1 ∨ c.op = 2) →
    s.solArrival c.out { c with start := s.now } = 0 → (s.sol.get c.out).queue = [] →
    ∃ t, exec .solCommandArrive s = .next t ∧
      t.sol.get c.out = { s.sol.get c.out with queue := [{ c with start := s.now }] } ∧
      (∀ m, m ≠ c.out → t.sol.get m = s.sol.get m) ∧ t = { s with sol := t.sol, str := { s.str with solWire := l } }) ∧
  (∀ (n : Fin 96) (c : OutCmd) (l : List OutCmd) (s : State), (s.sol.get n.val).queue = c :: l → c.start ≤ s.now → c.op = 1 →
    c.src = .host → s.solEnabled n.val = true → s.solMode n.val = 1 → s.solBlocked n.val = false → s.phase n.val = 0 →
    (s.sol.get n.val).train = false → s.flag (F.SOL_DIE_STAT_UV (dieOf n.val)) = false →
    ∃ t, exec (.solCommandStart n) s = .next t ∧
      t.phase n.val = (if s.boosting (bankOf n.val) = [] ∨ (s.grantedNow (bankOf n.val) n.val).isSome then 2 else 1) ∧
      t.flag (F.SOL_CH_STAT_CMD n.val) = true ∧ t.flag (F.SOL_CH_STAT_FORCED n.val) = false ∧
      t.nat (R.SOL_CH_CYCLES n.val) = (s.nat (R.SOL_CH_CYCLES n.val) + 1) % 2 ^ 32 ∧
      (t.sol.get n.val).prof = s.slotOfCh n.val ∧ (t.sol.get n.val).queue = l ∧ (t.sol.get n.val).phaseAt = s.clk ∧
      t.flag (F.SOL_BANK_STAT_RAIL (bankOf n.val)) = true ∧ t = { s with regs := t.regs, sol := t.sol, armCh := t.armCh } ∧
      s.regsKept t ([R.SOL_CH_IMEAS n.val, R.SOL_CH_CYCLES n.val, R.SOL_BANK_STAT (bankOf n.val),
        R.ARM_CH_STAT n.val, R.ARM_DISC] ++ (bankChannels (bankOf n.val)).map R.SOL_CH_STAT)) ∧
  (∀ (n : Fin 96) (i : BitVec 16) (s : State), s.phase n.val = 2 → s.waiting (bankOf n.val) = [] → (s.sol.get n.val).prof.tPeak ≠ 0 →
    ∃ t, exec (.boostEnd n true i) s = .next t ∧ t.phase n.val = 4 ∧
      t.get (F.SOL_CH_IMEAS_I n.val) = min (i.toNat / 10) 1023 ∧
      t.get (F.SOL_CH_TMEAS_BOOST n.val) = min (divNear 379 (s.clk - (s.sol.get n.val).phaseAt : Nat) 16).toNat 0xFFFF ∧
      t.sol.get n.val = { s.sol.get n.val with phaseAt := s.clk, onAcc := s.onTime n.val } ∧
      t.armCh.get n.val = (s.armCh.get n.val).phased s.now 2 4 ∧ t = { s with regs := t.regs, sol := t.sol, armCh := t.armCh } ∧
      s.regsKept t [R.SOL_CH_STAT n.val, R.SOL_CH_IMEAS n.val, R.SOL_CH_TMEAS n.val, R.SOL_BANK_STAT (bankOf n.val)]) ∧
  (∀ (n : Fin 96) (i : BitVec 16) (s : State), s.phase n.val = 2 → s.waiting (bankOf n.val) = [] → s.kind .sol = 1 →
    (s.sol.get n.val).stopping = false → s.passed (s.sol.get n.val).phaseAt ((s.sol.get n.val).prof.tBoost * usec) = true →
    i.toNat < s.get (F.SOL_DIE_PROT_OPEN_MA (dieOf n.val)) →
    ∃ t, exec (.boostEnd n false i) s = .next t ∧ t.phase n.val = 6 ∧ t.flag (F.SOL_CH_FLT_OPEN n.val) = true ∧
      s.occurred t (138 + 16 * dieOf n.val) ∧ t = { s with regs := t.regs, occ := t.occ, sol := t.sol, armCh := t.armCh }) ∧
  (∀ (n : Fin 96) (s : State), (s.phase n.val ≠ 1 ∨ s.boostOver (bankOf n.val) = true ∨
    s.passed (s.sol.get n.val).waitAt (s.get (F.SOL_DIE_ARB_BOOST_DEFER_MAX (dieOf n.val)) * usec) = false) →
    exec (.boostDeferExpiry n) s = .next s) ∧
  (∀ (n : Fin 96) (i : BitVec 16) (s : State), (s.phase n.val ≠ 2 → exec (.boostEnd n true i) s = .next s) ∧
    (s.phase n.val ≠ 3 → exec (.noboostEnd n true i) s = .next s) ∧ (s.phase n.val ≠ 4 → exec (.peakEnd n) s = .next s) ∧
    (s.phase n.val ≠ 6 → exec (.decayEnd n) s = .next s) ∧ (s.phase n.val ≠ 5 → exec (.holdOpenLoad n) s = .next s) ∧
    (s.solIdle n.val = false → exec (.chopperCalibration n) s = .next s)) ∧
  (∀ (n : Fin 96) (s : State), s.phase n.val = 1 → s.kind .sol = 1 → s.flag (F.ARM_CH_CTRL_ADP n.val) = false →
    s.boostOver (bankOf n.val) = false →
    s.passed (s.sol.get n.val).waitAt (s.get (F.SOL_DIE_ARB_BOOST_DEFER_MAX (dieOf n.val)) * usec) = true →
    ∃ t, exec (.boostDeferExpiry n) s = .next t ∧ t.phase n.val = 3 ∧ t.flag (F.SOL_CH_STAT_NOBOOST n.val) = true ∧
      t.get (F.SOL_CH_IMEAS_DEFER n.val) = s.get (F.SOL_DIE_ARB_BOOST_DEFER_MAX (dieOf n.val)) ∧
      t.get (F.SOL_BANK_CNT_NOBOOST (bankOf n.val)) = min (s.get (F.SOL_BANK_CNT_NOBOOST (bankOf n.val)) + 1) 0xFFFF ∧
      s.occurred t (137 + 16 * dieOf n.val) ∧ t = { s with regs := t.regs, occ := t.occ, sol := t.sol, armCh := t.armCh }) ∧
  (∀ (n : Fin 96) (i : BitVec 16) (s : State), s.phase n.val = 3 → (s.sol.get n.val).prof.tPeak ≠ 0 →
    ∃ t, exec (.noboostEnd n true i) s = .next t ∧ t.phase n.val = 4 ∧ t.get (F.SOL_CH_IMEAS_I n.val) = min (i.toNat / 10) 1023 ∧
      t.sol.get n.val = { s.sol.get n.val with phaseAt := s.clk, onAcc := s.onTime n.val } ∧
      t.armCh.get n.val = (s.armCh.get n.val).phased s.now 3 4 ∧ t = { s with regs := t.regs, sol := t.sol, armCh := t.armCh } ∧
      s.regsKept t [R.SOL_CH_STAT n.val, R.SOL_CH_IMEAS n.val]) ∧
  (∀ (n : Fin 96) (s : State), s.phase n.val = 4 → (s.sol.get n.val).offPend = false → (s.sol.get n.val).stopping = false →
    s.passed (s.sol.get n.val).phaseAt ((s.sol.get n.val).prof.tPeak * 10 * usec) = true →
    ∃ t, exec (.peakEnd n) s = .next t ∧ t.phase n.val = 5 ∧
      t.sol.get n.val = { s.sol.get n.val with
        phaseAt := s.clk, onAcc := s.onTime n.val, derated := s.flag (F.SOL_CH_STAT_DERATE n.val) } ∧
      t.armCh.get n.val = (s.armCh.get n.val).phased s.now 4 5 ∧
      t = { s with regs := t.regs, sol := t.sol, armCh := t.armCh } ∧ s.regsKept t [R.SOL_CH_STAT n.val]) ∧
  (∀ (n : Fin 96) (s : State), s.phase n.val = 6 → (s.sol.get n.val).train = false → s.solMode n.val ≠ 3 →
    ∃ t, exec (.decayEnd n) s = .next t ∧ t.phase n.val = 0 ∧
      t.get (F.SOL_CH_TMEAS_DECAY n.val) = min (divNear 376 (s.clk - (s.sol.get n.val).phaseAt : Nat) 16).toNat 0xFFFF ∧
      t.sol.get n.val = { s.sol.get n.val with
        phaseAt := s.clk, offAt := s.clk, onAcc := s.onTime n.val, late := false, stopping := false } ∧
      t.armCh.get n.val = (s.armCh.get n.val).phased s.now 6 0 ∧
      t = { s with regs := t.regs, sol := t.sol, armCh := t.armCh } ∧ s.regsKept t [R.SOL_CH_STAT n.val, R.SOL_CH_TMEAS n.val]) ∧
  (∀ (n : Fin 96) (s : State), s.phase n.val = 5 → s.solMode n.val ≠ 3 → s.kind .sol = 1 →
    (s.sol.get n.val).stopping = false → s.passed (s.sol.get n.val).phaseAt (10 * msec) = true →
    ∃ t, exec (.holdOpenLoad n) s = .next t ∧ t.phase n.val = 6 ∧ t.flag (F.SOL_CH_FLT_OPEN n.val) = true ∧
      s.occurred t (138 + 16 * dieOf n.val) ∧ t = { s with regs := t.regs, occ := t.occ, sol := t.sol, armCh := t.armCh } ∧
      s.regsKept t [R.SOL_CH_STAT n.val, R.SOL_CH_FLT n.val, R.SOL_BANK_STAT (bankOf n.val), R.ARM_CH_STAT n.val, R.ARM_DISC,
        (evBit (138 + 16 * dieOf n.val)).addr]) ∧
  (∀ (n : Fin 96) (s : State), s.runs .mem = true → s.kind .sol = 1 → s.solHere n.val = true → s.solIdle n.val = true →
    (s.armCh.get n.val).closeWin = false →
    ∃ t, exec (.chopperCalibration n) s = .next t ∧ t.phase n.val = 7 ∧
      t = { s with regs := t.regs, sol := t.sol, armCh := t.armCh } ∧
      s.regsKept t [R.SOL_CH_STAT n.val])

/-- A due cycle start of a train with a duty between 0 and 100 %, from OFF and with nothing in the way, starts a
profile, places the next cycle one period later and its own off instant at the duty's share of the period after its
start. The off instant of a cycle in HOLD starts DECAY; one in BOOST waits for the end of PEAK and sets DUTY_MIN. A
sub-window of the duty window, which lasts a sixteenth of it, joins the history of 16 with the time spent in phases
that are on-time. Where the on-time stays within LIMIT and no I²t limit is set, or LIMIT is 100 %, DUSE shows the
share and nothing else happens; where it exceeds LIMIT for the first time, the duty event is raised and, with ACTION =
derate, the channel is derated (shown here outside CURRENT mode, which regulates again). Without a train, an off
instant or a channel none of these does anything. The model's choices: an off instant before the cycle's profile
begins (log entry 1006), when ACTION is taken (log entry 1007), the on-time of a sub-window (log entry 1016), and the
end of a limit in force (log entry 1017). (R386, R387, R390, R391) -/
def Obligations.PwmTrainsAndDutyWindows : Prop :=
  (∀ (n : Fin 96) (s : State), (s.sol.get n.val).train = true → (s.sol.get n.val).nextAt ≤ s.now →
    0 < s.get (F.SOL_CH_DUTY_DUTY n.val) → s.get (F.SOL_CH_DUTY_DUTY n.val) < 1000 → s.phase n.val = 0 →
    s.solBlocked n.val = false → s.boosting (bankOf n.val) = [] → s.flag (F.SOL_DIE_STAT_UV (dieOf n.val)) = false →
    ∃ t, exec (.pwmCycleStart n) s = .next t ∧ t.phase n.val = 2 ∧
      (t.sol.get n.val).nextAt = (s.sol.get n.val).nextAt + s.get (F.SOL_CH_PWM_PER n.val) * 16 ∧
      (t.sol.get n.val).offTag = some ((s.sol.get n.val).nextAt +
        (divNear 387 (s.get (F.SOL_CH_DUTY_DUTY n.val) * s.get (F.SOL_CH_PWM_PER n.val) : Nat) 1000).toNat * 16) ∧
      t.nat (R.SOL_CH_CYCLES n.val) = (s.nat (R.SOL_CH_CYCLES n.val) + 1) % 2 ^ 32 ∧
      t.flag (F.SOL_CH_STAT_CYCLE_LATE n.val) = false ∧ t = { s with regs := t.regs, sol := t.sol, armCh := t.armCh } ∧
      s.regsKept t [R.SOL_CH_STAT n.val, R.SOL_CH_STAT (n.val + 1), R.SOL_CH_IMEAS n.val, R.SOL_CH_CYCLES n.val,
        R.SOL_BANK_STAT (bankOf n.val), R.ARM_CH_STAT n.val, R.ARM_DISC]) ∧
  (∀ (n : Fin 96) (o : Nat) (s : State), (s.sol.get n.val).offTag = some o → o ≤ s.now → s.phase n.val = 5 →
    (s.sol.get n.val).stopping = false → ∃ t, exec (.pwmOffInstant n) s = .next t ∧ t.phase n.val = 6 ∧ (t.sol.get n.val).offTag = none ∧
      (t.sol.get n.val).train = (s.sol.get n.val).train ∧ t = { s with regs := t.regs, sol := t.sol, armCh := t.armCh } ∧
      s.regsKept t [R.SOL_CH_STAT n.val, R.SOL_BANK_STAT (bankOf n.val), R.ARM_DISC]) ∧
  (∀ (n : Fin 96) (o : Nat) (s : State), (s.sol.get n.val).offTag = some o → o ≤ s.now → s.phase n.val = 2 →
    ∃ t, exec (.pwmOffInstant n) s = .next t ∧ t.phase n.val = 2 ∧ t.flag (F.SOL_CH_STAT_DUTY_MIN n.val) = true ∧
      t.sol.get n.val = { s.sol.get n.val with offTag := none, offPend := true } ∧
      t = { s with regs := t.regs, sol := t.sol } ∧ s.regsKept t [R.SOL_CH_STAT n.val]) ∧
  (∀ (n : Fin 96) (on : Word) (q : BitVec 64) (w tOn : Nat) (s : State), s.kind .sol = 1 → s.solHere n.val = true →
    s.solFollows n.val = false → (s.sol.get n.val).overLim = false → s.get (F.SOL_CH_I2T_I2T n.val) = 0 →
    s.passed (s.sol.get n.val).winAt (s.subWindow n.val) = true → w = s.get (F.SOL_CH_DLIM_WINDOW n.val) * second →
    tOn = (((s.onTime n.val, q.toNat) :: (s.sol.get n.val).hist).take 16).foldl (fun (a : Nat) (x : Nat × Nat) => a + x.1) 0 →
    ∃ t, exec (.dutySubwindowEnd n on q) s = .next t ∧
      (t.sol.get n.val).hist = ((s.onTime n.val, q.toNat) :: (s.sol.get n.val).hist).take 16 ∧
      (t.sol.get n.val).winAt = s.clk ∧ (t.sol.get n.val).onAcc = 0 ∧
      t.get (F.SOL_CH_DUSE_ON n.val) = min (divOpen 390 (tOn * 1000 : Nat) w).toNat 1023 ∧
      t.get (F.SOL_CH_DUSE_I2T n.val) = 0 ∧
      (tOn * 100 ≤ s.get (F.SOL_CH_DLIM_LIMIT n.val) * w ∨ 100 ≤ s.get (F.SOL_CH_DLIM_LIMIT n.val) → (t.sol.get n.val).overLim = false ∧
        t = { s with regs := t.regs, sol := t.sol } ∧ s.regsKept t [R.SOL_CH_DUSE n.val]) ∧
      (s.get (F.SOL_CH_DLIM_LIMIT n.val) * w < tOn * 100 → s.get (F.SOL_CH_DLIM_LIMIT n.val) < 100 → s.flag (F.SOL_CH_DLIM_ACTION n.val) = false → s.solMode n.val ≠ 3 →
        (t.sol.get n.val).overLim = true ∧ t.flag (F.SOL_CH_STAT_DERATE n.val) = true ∧ s.occurred t (140 + 16 * dieOf n.val) ∧
        t = { s with regs := t.regs, occ := t.occ, sol := t.sol } ∧
        s.regsKept t [R.SOL_CH_DUSE n.val, R.SOL_CH_STAT n.val, (evBit (140 + 16 * dieOf n.val)).addr])) ∧
  (∀ (n : Fin 96) (on : Word) (q : BitVec 64) (s : State),
    (s.present .sol = false ∨ s.solHere n.val = false ∨ s.solFollows n.val = true ∨
      s.passed (s.sol.get n.val).winAt (s.subWindow n.val) = false → exec (.dutySubwindowEnd n on q) s = .next s) ∧
    ((s.sol.get n.val).train = false ∨ s.now < (s.sol.get n.val).nextAt → exec (.pwmCycleStart n) s = .next s) ∧
    ((s.sol.get n.val).offTag = none → exec (.pwmOffInstant n) s = .next s))

/-- A short of a present unpaired channel in HOLD latches SHORT, raises its event and decays with FORCED. A host clear
of the latch clears exactly the bits written as 1. A junction temperature of 125 °C or more derates the die, one of
140 °C or more switches every channel of it off. Over-voltage and under-voltage of the boost supply set their bit,
count and raise their event, and their end clears it. Overcurrent and under-voltage of a bank latch their bit, mark
every channel of the bank and leave none of them energised; the end of an under-voltage and BANK_CLR clear it. A
die-link frame is noted; 500 µs without one puts the die into its drive safe state with event 14. The model's choices:
how long FORCED stays (log entry 1003), a SHORT of a pair (log entry 1005), SLOWED of a forced off (log entries 1008
and 1010), and when an off is reported (log entry 1012). (R28, R367, R368, R392, R393, R394, R395) -/
def Obligations.SolenoidProtection : Prop :=
  (∀ (n : Fin 96) (s : State), s.kind .sol = 1 → s.solHere n.val = true → s.phase n.val = 5 → s.solPaired n.val = false →
    s.solFollows n.val = false → s.pointsOf 1 n.val = [] →
    ∃ t, exec (.solShort n) s = .next t ∧ t.flag (F.SOL_CH_FLT_SHORT n.val) = true ∧ t.phase n.val = 6 ∧
      t.flag (F.SOL_CH_STAT_FORCED n.val) = true ∧ s.occurred t (139 + 16 * dieOf n.val) ∧
      t.flag ⟨H.sticky .sol, 1 + dieOf n.val, 1⟩ = true ∧
      t = { s with regs := t.regs, occ := t.occ, sol := t.sol, armCh := t.armCh } ∧
      s.regsKept t [R.SOL_CH_STAT n.val, R.SOL_CH_FLT n.val, H.sticky .sol, R.SOL_BANK_STAT (bankOf n.val), R.ARM_CH_STAT n.val,
        R.ARM_DISC, (evBit (139 + 16 * dieOf n.val)).addr]) ∧
  (∀ (n : Fin 96) (m : Word) (s : State), s.admitsSet (R.SOL_CH_FLT n.val) m.toNat →
    s.solMode (if s.solFollows n.val then n.val - 1 else n.val) ≠ 3 →
    ∃ t, exec (.solFltClear n m) s = .next t ∧ t.lastErr = none ∧
      (∀ i, i < 4 → t.flag ⟨R.SOL_CH_FLT n.val, i, 1⟩ = (s.flag ⟨R.SOL_CH_FLT n.val, i, 1⟩ && !m.getLsbD i)) ∧
      t = { s with regs := t.regs, parity := none, lastErr := none } ∧ s.regsKept t [R.SOL_CH_FLT n.val]) ∧
  (∀ (d : Fin 2) (x : BitVec 16) (s : State), d.val < s.nDie → s.dieBFail = false → s.kind .sol = 1 → 1250 ≤ x.toInt →
    s.flag (F.SOL_DIE_STAT_DERATE d.val) = false → s.flag (F.SOL_DIE_STAT_OFF140 d.val) = false →
    ∃ t, exec (.dieTjSample d x) s = .next t ∧ t.get ⟨R.SOL_DIE_TJ d.val, 0, 16⟩ = x.toNat ∧
      t.flag (F.SOL_DIE_STAT_DERATE d.val) = true ∧ t.flag (F.SOL_DIE_STAT_OFF140 d.val) = decide (1400 ≤ x.toInt) ∧
      t.flag (evBit (141 + 16 * d.val)) = true ∧ (∀ n ∈ dieChannels d.val, t.flag (F.SOL_CH_STAT_DERATE n) = true) ∧
      (x.toInt < 1400 → (∀ n ∈ dieChannels d.val, s.solMode n ≠ 3) → s.occurred t (141 + 16 * d.val) ∧
        (∀ n, { t.sol.get n with derated := false } = { s.sol.get n with derated := false }) ∧
        t = { s with regs := t.regs, occ := t.occ, sol := t.sol } ∧
        s.regsKept t ([R.SOL_DIE_TJ d.val, R.SOL_DIE_STAT d.val, (evBit (141 + 16 * d.val)).addr] ++
          (dieChannels d.val).map R.SOL_CH_STAT)) ∧
      (1400 ≤ x.toInt → ∀ n ∈ dieChannels d.val, t.flag (F.SOL_CH_FLT_THERM n) = true ∧ (t.phase n = 0 ∨ t.phase n = 6))) ∧
  (∀ (d : Fin 2) (s : State), s.kind .sol = 1 → s.dieHere d.val = true → s.flag (F.SOL_DIE_STAT_OV d.val) = false →
    ∃ t, exec (.boostOv d) s = .next t ∧ t.flag (F.SOL_DIE_STAT_OV d.val) = true ∧ s.occurred t (136 + 16 * d.val) ∧
      t.get (F.SOL_DIE_CNT_OV d.val) = min (s.get (F.SOL_DIE_CNT_OV d.val) + 1) 0xFFFF ∧
      t = { s with regs := t.regs, occ := t.occ } ∧
      s.regsKept t [R.SOL_DIE_STAT d.val, R.SOL_DIE_CNT d.val, (evBit (136 + 16 * d.val)).addr]) ∧
  (∀ (d : Fin 2) (s : State), s.kind .sol = 1 → s.dieHere d.val = true → s.flag (F.SOL_DIE_STAT_UV d.val) = false →
    s.get (F.SOL_DIE_VB_TGT d.val) = s.get (F.SOL_DIE_BOOST_VSET d.val) →
    ∃ t, exec (.boostUv d) s = .next t ∧ t.flag (F.SOL_DIE_STAT_UV d.val) = true ∧ s.occurred t (135 + 16 * d.val) ∧
      t.get (F.SOL_DIE_CNT_UV d.val) = min (s.get (F.SOL_DIE_CNT_UV d.val) + 1) 0xFFFF ∧
      t = { s with regs := t.regs, occ := t.occ, armDie := t.armDie } ∧
      s.regsKept t [R.SOL_DIE_STAT d.val, R.SOL_DIE_CNT d.val, (evBit (135 + 16 * d.val)).addr]) ∧
  (∀ (d : Fin 2) (s : State), exec (.boostOvEnd d) s = .next (s.put (F.SOL_DIE_STAT_OV d.val) 0) ∧
    exec (.boostUvEnd d) s = .next (s.put (F.SOL_DIE_STAT_UV d.val) 0)) ∧
  (∀ (b : Fin 12) (uv : Bool) (s : State), s.kind .sol = 1 → s.bankHere b.val = true →
    s.flag (if uv then F.SOL_BANK_STAT_UV b.val else F.SOL_BANK_STAT_OC b.val) = false →
    (uv = true → (bankChannels b.val).any s.solEnabled = true) →
    ∃ t, exec (if uv then .bankUv b else .bankOvercurrent b) s = .next t ∧
      t.flag (if uv then F.SOL_BANK_STAT_UV b.val else F.SOL_BANK_STAT_OC b.val) = true ∧
      t.flag (evBit (129 + 16 * (b.val / 6) + b.val % 6)) = true ∧
      ∀ n ∈ bankChannels b.val, t.flag (F.SOL_CH_FLT_BANK n) = true ∧ (t.phase n = 0 ∨ t.phase n = 6) ∧
        t.flag (F.SOL_CH_STAT_FORCED n) = true ∧ (t.sol.get n).train = false) ∧
  (∀ (b : Fin 12) (s : State), s.flag (F.SOL_BANK_STAT_UV b.val) = false → exec (.bankUvEnd b) s = .next s) ∧
  (∀ (b : Fin 12) (s : State), s.flag (F.SOL_BANK_STAT_UV b.val) = true → (∀ n ∈ bankChannels b.val, s.solMode n ≠ 3) →
    exec (.bankUvEnd b) s = .next (s.put (F.SOL_BANK_STAT_UV b.val) 0)) ∧
  (∀ (b : Fin 12) (s : State), s.admits false (R.SOL_BANK_CTRL b.val) 1 (BitVec.allOnes 32) →
    (∀ n ∈ bankChannels b.val, s.solMode n ≠ 3) →
    exec (.bankClr b) s = .next (s.put (F.SOL_BANK_STAT_OC b.val) 0).settled) ∧
  (∀ (d : Fin 2) (s : State), exec (.dieLinkFrame d) s = .next { s with pwr := { s.pwr with linkAt := s.pwr.linkAt.set d.val s.clk } }) ∧
  (∀ (d : Fin 2) (s : State), s.powered = true → s.passed (s.pwr.linkAt.get d.val) (500 * usec) = true → s.kind .pwr = 1 →
    s.flag (if d = 0 then F.PWR_STAT_DSAFE_A else F.PWR_STAT_DSAFE_B) = false →
    ∃ t, exec (.dieLinkTimeout d) s = .next t ∧
      t.flag (if d = 0 then F.PWR_STAT_DSAFE_A else F.PWR_STAT_DSAFE_B) = true ∧ t.flag (evBit 14) = true ∧
      t.flag ⟨H.sticky .pwr, 2, 1⟩ = true ∧ (∀ n ∈ dieChannels d.val, t.phase n = 0 ∨ t.phase n = 6) ∧ t.pwr = s.pwr)

/-- On a channel with no bound point: an opening signature is a fall of the current of OPEN_SENS or more, or in PEAK a
rise of the on-time fraction of OPEN_PCT or more; a closing one a plateau of 20 µs at less than a quarter of the first
rate, or after DECAY an EMF above CLOSE_SENS that has fallen below half of it. A signature in an open window confirms
it, shows the latency (window start to signature, in µs) and clears the stuck bit. A measurement that is not learnable
leaves the estimate and the confidence. A learnable one at confidence 0 becomes the estimate with confidence 1 (no
bounds set); at a higher confidence it moves the estimate by STEP_MAX at most; with bounds set the estimate stays
within them. A window that ends without a signature shows "not confirmed", counts the miss, halves the confidence and
sets the stuck bit at MISS_N. The update of the 1 ms grid scales every estimate by its present condition factor, and a
HOLD of 10 ms or more, also one that has ended since the last update, gives the hold resistance, rail voltage ×
on-time fraction / current; off the grid and in a hold there is none. A signature, or a window end, without its window
open changes nothing. CLR restores the initial estimates and clears confidences, runs and stuck bits. The model's
choices: the coil temperature and the condition factor (log entry 1101), whose EN cuts windows (log entry 1109), the
rail voltage and the on-time fraction (log entry 1110), what a signature carries (log entry 1111), and a HOLD under
derate (log entry 1112). (R408, R410, R411, R412, R413, R414, R415, R416, R417, R418, R419, R430) -/
def Obligations.LatenciesAreLearned : Prop :=
  (∀ (a : ArmCh) (now : Nat) (x : OpenSign), a.openWin = true → a.openAt ≤ x.tag.toNat → x.tag.toNat ≤ a.openEnd.getD now →
    (a.peakAt = none → (a.opens now x = true ↔ a.openDet.toNat / 2 ^ 20 ≤ x.swing.toNat)) ∧
    (∀ p, a.peakAt = some p → p < x.tag.toNat → (a.opens now x = true ↔ a.openDet.toNat / 2 ^ 12 % 256 ≤ x.swing.toNat))) ∧
  (∀ (a : ArmCh) (x : CloseSign), a.closeWin = true → a.closeAt ≤ x.tag.toNat →
    x.tag.toNat ≤ a.closeAt + a.closeFor * msec →
    (a.decayEnd = none → (a.closes x = true ↔ 20 ≤ x.plateau.toNat ∧ x.slope.toNat < 250)) ∧
    (∀ p, a.decayEnd = some p → p < x.tag.toNat →
      (a.closes x = true ↔ a.closeDet.toNat % 2 ^ 12 < x.peak.toNat ∧ 2 * x.emf.toNat < a.closeDet.toNat % 2 ^ 12))) ∧
  (∀ (n : Fin 96) (c : Bool) (x : OpenSign) (y : CloseSign) (us : Nat) (s : State),
    (if c then (s.armCh.get n.val).closes y else (s.armCh.get n.val).opens s.now x) = true → s.pointsOf 1 n.val = [] →
    s.isSat = false →
    us = (divNear 418 (if c then y.tag.toNat - (s.armCh.get n.val).closeAt else x.tag.toNat - (s.armCh.get n.val).openAt : Nat) 16).toNat →
    ∃ t, exec (if c then .armCloseSignature n y else .armOpenSignature n x) s = .next t ∧ t.get (armRes n.val c) = 1 ∧
      t.get (armLast n.val c) = min us 0xFFFF ∧ t.flag (armStuck n.val c) = false ∧
      (if c then (t.armCh.get n.val).closeWin else (t.armCh.get n.val).openWin) = false ∧ t.get (armMiss n.val c) = 0 ∧
      t = { s with regs := t.regs, armCh := t.armCh, occ := t.occ } ∧
      s.regsKept t [R.ARM_CH_STAT n.val, R.ARM_CH_LAST n.val, R.ARM_CH_RUN n.val, R.ARM_CH_EST n.val, R.ARM_CH_CONF n.val,
        H.evt .arm] ∧
      ((if c then (s.armCh.get n.val).closeSkip else (s.armCh.get n.val).openSkip) = true →
        t.flag (F.ARM_CH_STAT_LEARN_SKIP n.val) = true ∧ t.get (armEst n.val c) = s.get (armEst n.val c) ∧
        t.get (armConf n.val c) = s.get (armConf n.val c) ∧ t.occ = s.occ) ∧
      ((if c then (s.armCh.get n.val).closeSkip else (s.armCh.get n.val).openSkip) = false →
        t.flag (F.ARM_CH_STAT_LEARN_SKIP n.val) = false ∧
        (s.get (F.ARM_CH_BOUND_LAT_MIN n.val) = 0 → s.get (F.ARM_CH_BOUND_LAT_MAX n.val) = 0 →
          s.get (armConf n.val c) = 0 → t.get (armConf n.val c) = 1 ∧ t.get (armEst n.val c) =
            min (divNear 419 ((us : Int) * 1000000)
              (s.armFactor n.val c (if c then (s.armCh.get n.val).closeV else 0))).toNat 0xFFFF) ∧
        (s.get (F.ARM_CH_BOUND_LAT_MIN n.val) = 0 → s.get (F.ARM_CH_BOUND_LAT_MAX n.val) = 0 →
          s.get (armConf n.val c) ≠ 0 →
          t.get (armEst n.val c) ≤ s.get (armEst n.val c) + s.get F.ARM_DRIFT_STEP_MAX ∧
          s.get (armEst n.val c) ≤ t.get (armEst n.val c) + s.get F.ARM_DRIFT_STEP_MAX ∧
          (t.get (armConf n.val c) = min (s.get (armConf n.val c) + 1) 255 ∨
           t.get (armConf n.val c) = s.get (armConf n.val c) - 2)) ∧
        (s.get (F.ARM_CH_BOUND_LAT_MIN n.val) ≤ s.get (F.ARM_CH_BOUND_LAT_MAX n.val) →
          s.get (F.ARM_CH_BOUND_LAT_MAX n.val) ≠ 0 →
          s.get (F.ARM_CH_BOUND_LAT_MIN n.val) ≤ t.get (armEst n.val c) ∧
          t.get (armEst n.val c) ≤ s.get (F.ARM_CH_BOUND_LAT_MAX n.val)))) ∧
  (∀ (n : Fin 96) (c : Bool) (s : State), s.kind .arm = 1 → s.isSat = false →
    (if c then (s.armCh.get n.val).closeWin && s.passed (s.armCh.get n.val).closeClk ((s.armCh.get n.val).closeFor * msec)
      else (s.armCh.get n.val).openWin && s.armOpenEnded n.val) = true →
    ∃ t, exec (.armWindowClose n c) s = .next t ∧ t.get (armRes n.val c) = 2 ∧ t.get (armLast n.val c) = 0xFFFF ∧
      (if c then (t.armCh.get n.val).closeWin else (t.armCh.get n.val).openWin) = false ∧
      t.get (if c then F.ARM_CNT_MISS_CLOSE else F.ARM_CNT_MISS_OPEN) =
        min (s.get (if c then F.ARM_CNT_MISS_CLOSE else F.ARM_CNT_MISS_OPEN) + 1) 0xFFFF ∧
      t.get (armConf n.val c) = s.get (armConf n.val c) / 2 ∧ t.get (armMiss n.val c) = min (s.get (armMiss n.val c) + 1) 255 ∧
      t.get (armEst n.val c) = s.get (armEst n.val c) ∧
      (s.get (armMiss n.val c) = 0 → t.flag (evBit (if c then 162 else 161)) = true) ∧
      t.flag (armStuck n.val c) = (s.flag (armStuck n.val c) || (s.get (armMiss n.val c) + 1 == s.get F.ARM_CFG_MISS_N)) ∧
      t = { s with regs := t.regs, armCh := t.armCh, occ := t.occ } ∧
      s.regsKept t [R.ARM_CH_STAT n.val, R.ARM_CH_LAST n.val, R.ARM_CNT_MISS, R.ARM_CH_RUN n.val, R.ARM_CH_CONF n.val, H.evt .arm,
        H.sticky .arm]) ∧
  (∀ (n : Fin 96) (x : OpenSign) (y : CloseSign) (c : Bool) (s : State),
    ((s.armCh.get n.val).openWin = false ∨ (s.armCh.get n.val).opens s.now x = false →
      exec (.armOpenSignature n x) s = .next s) ∧
    ((s.armCh.get n.val).closeWin = false ∨ (s.armCh.get n.val).closes y = false →
      exec (.armCloseSignature n y) s = .next s) ∧
    ((if c then (s.armCh.get n.val).closeWin else (s.armCh.get n.val).openWin) = false → exec (.armWindowClose n c) s = .next s)) ∧
  (∀ (l : List HoldMeas) (s : State), (s.works .arm = false ∨ s.atMs = false) →
    exec (.armLatUpdate l) s = .next s) ∧
  (∀ s : State, s.works .arm = true → s.atMs = true →
    ∃ t, exec (.armLatUpdate []) s = .next t ∧ t = { s with regs := t.regs } ∧
      s.regsKept t ((List.range s.nSol).map R.ARM_CH_LAT ++ (List.range s.nSol).map R.ARM_CH_COND) ∧
      ∀ n, n < s.nSol →
        t.get (F.ARM_CH_LAT_LO n) =
          min (divNear 420 ((s.get (armEst n false) : Int) * s.armFactor n false (s.vbank n)) 1000000).toNat 0xFFFF ∧
        t.get (F.ARM_CH_LAT_LC n) =
          min (divNear 420 ((s.get (armEst n true) : Int) * s.armFactor n true (s.vbank n)) 1000000).toNat 0xFFFF ∧
        t.gets (F.ARM_CH_COND_TEMP n) = s.coilTemp n) ∧
  (∀ (n : Fin 96) (on i : BitVec 16) (s : State), s.works .arm = true → s.atMs = true →
    (s.phase n.val = 5 ∧ s.solMode n.val ≠ 3 ∧ s.passed (s.sol.get n.val).phaseAt (10 * msec) = true ∨
      (s.armCh.get n.val).holdEnd ≠ 0 ∧ s.clk < (s.armCh.get n.val).holdEnd + msec →
      ∃ t, exec (.armLatUpdate [⟨n, on, i⟩]) s = .next t ∧
        t.armCh.get n.val = { s.armCh.get n.val with holdClk := s.clk, holdAny := true } ∧
        (i.toNat ≠ 0 → t.get (F.ARM_CH_COND_RES n.val) =
          min (divOpen 415 (s.vbank n.val * on.toNat : Nat) (10 * i.toNat : Nat)).toNat (2 ^ (F.ARM_CH_COND_RES n.val).w - 1))) ∧
    ((s.phase n.val ≠ 5 ∨ s.solMode n.val = 3 ∨ s.passed (s.sol.get n.val).phaseAt (10 * msec) = false) →
      ((s.armCh.get n.val).holdEnd = 0 ∨ (s.armCh.get n.val).holdEnd + msec ≤ s.clk) →
      exec (.armLatUpdate [⟨n, on, i⟩]) s = exec (.armLatUpdate []) s)) ∧
  (∀ (n : Fin 96) (s : State), s.admits false (R.ARM_CH_CTRL n.val) 16 (BitVec.allOnes 32) →
    ∃ t, exec (.armChClr n) s = .next t ∧ t.get (armEst n.val false) = s.get (F.ARM_CH_INIT_INIT_O n.val) ∧
      t.get (armEst n.val true) = s.get (F.ARM_CH_INIT_INIT_C n.val) ∧ t.get (armConf n.val false) = 0 ∧
      t.get (armConf n.val true) = 0 ∧ t.get (F.ARM_CH_CONF_CONF n.val) = 0 ∧ t.nat (R.ARM_CH_RUN n.val) = 0 ∧
      t.flag (armStuck n.val false) = false ∧ t.flag (armStuck n.val true) = false ∧ t.lastErr = none ∧
      t = { s with regs := t.regs, occ := t.occ, parity := none, lastErr := none } ∧
      s.regsKept t [R.ARM_CH_EST n.val, R.ARM_CH_CONF n.val, R.ARM_CH_RUN n.val, R.ARM_CH_STAT n.val, H.evt .arm])

/-- The source shows an end of travel within a window's EOT_T: a current at STALL_MA or above for STALL_T after IGN,
or an input or a line that was off the end of travel within the window and stands there. It ends the window (no point
bound) with outcome "confirmed", leaves those of the other direction, lets the next of its own, where one lasts, take
its place, and sets ATOPEN for an opening; at confidence 0 the time in ms becomes the estimate. A window that closes
without one raises EOT_MISS, shows "not confirmed", counts, halves the confidence and keeps the estimate. At a PERIOD
with an empty set the target stays and the status is not valid, and the next PERIOD begins; otherwise the target rises
by 0.5 V, up to VSET, where the worst predicted latency exceeds T_TARGET, falls by 0.5 V, down to VMIN, where the
latency 0.5 V lower stays within the margin, and else stays. A successful calibration ends with its instant noted; a
failed one counts and raises its event. Without a window, a PERIOD that has ended or a calibration in progress nothing
happens. The model's choices: how a switch's latency is learned (log entry 1102), the stuck event of a switch (log
entry 1103), the windows and what cuts them (log entries 1104, 1106 and 1113), CLR of a switch (log entry 1105), the
limits of ADAPT (log entry 1107), its event (log entry 1108), and a failed calibration (log entry 1806). (R421, R422,
R423, R424, R425, R635) -/
def Obligations.EndOfTravelAdaptiveBoostAndCalibration : Prop :=
  (∀ (k : Fin 24) (c : Bool) (x : EotSign) (w : EotWin) (s : State), w = (s.armSw.get k.val).at c → w.on = true →
    x.tag.toNat ≤ w.since + w.eotT * msec →
    (w.src = 1 ∧ c = false ∧ w.stallMa ≤ x.cur.toNat ∧ w.since + (w.ignT + w.stallT) * msec ≤ x.tag.toNat ∨
      (w.src = 2 ∨ w.src = 3) ∧ w.away = true ∧ s.eotThere c w = true) → s.eotSeen k.val c x = true) ∧
  (∀ (k : Fin 24) (c : Bool) (x : EotSign) (ms : Nat) (s : State), s.eotSeen k.val c x = true →
    (c = false → s.eotSeen k.val true x = false) → s.pointsOf 2 k.val = [] → s.isSat = false →
    ms = (divNear 422 ((x.tag.toNat : Int) - ((s.armSw.get k.val).at c).since) msec).toNat →
    ∃ t, exec (.eotDetect k x) s = .next t ∧ (t.armSw.get k.val).at c = ((s.armSw.get k.val).over c).at c ∧
      (t.armSw.get k.val).later = ((s.armSw.get k.val).over c).later ∧
      ((s.armSw.get k.val).later = [] → ((t.armSw.get k.val).at c).on = false) ∧
      (t.armSw.get k.val).at (!c) = (s.armSw.get k.val).at (!c) ∧
      (s.eotOk k.val = true → t.eotOk k.val = false → s.kind .arm = 1 → t.flag (evBit 164) = true) ∧
      (s.eotOk k.val = false → t.eotOk k.val = true → s.kind .arm = 1 → t.flag (evBit 165) = true) ∧
      t.get (if c then F.ARM_SW_STAT_CLOSE_RES k.val else F.ARM_SW_STAT_OPEN_RES k.val) = 1 ∧
      t.flag (F.ARM_SW_STAT_ATOPEN k.val) = !c ∧ t = { s with regs := t.regs, armSw := t.armSw, occ := t.occ } ∧
      s.regsKept t [R.ARM_SW_EST k.val, R.ARM_SW_STAT k.val, H.evt .arm] ∧
      ((if c then (s.armSw.get k.val).confC else (s.armSw.get k.val).confO) = 0 →
        t.get (if c then F.ARM_SW_EST_LC k.val else F.ARM_SW_EST_LO k.val) = min ms 0xFFFF ∧
        (if c then (t.armSw.get k.val).confC else (t.armSw.get k.val).confO) = 1 ∧
        (t.eotOk k.val = s.eotOk k.val → t.occ = s.occ))) ∧
  (∀ (k : Fin 24) (c : Bool) (s : State), s.kind .arm = 1 → s.isSat = false → ((s.armSw.get k.val).at c).on = true →
    s.passed ((s.armSw.get k.val).at c).clk (((s.armSw.get k.val).at c).eotT * msec) = true →
    (c = true → s.eotPast k.val false = false) →
    ∃ t, exec (.eotMiss k) s = .next t ∧ (t.armSw.get k.val).at c = ((s.armSw.get k.val).over c).at c ∧
      (t.armSw.get k.val).later = ((s.armSw.get k.val).over c).later ∧
      ((s.armSw.get k.val).later = [] → ((t.armSw.get k.val).at c).on = false) ∧
      (t.armSw.get k.val).at (!c) = (s.armSw.get k.val).at (!c) ∧ t.flag (evBit 168) = true ∧
      t.get (if c then F.ARM_SW_STAT_CLOSE_RES k.val else F.ARM_SW_STAT_OPEN_RES k.val) = 2 ∧
      t.get (if c then F.ARM_CNT_MISS_CLOSE else F.ARM_CNT_MISS_OPEN) =
        min (s.get (if c then F.ARM_CNT_MISS_CLOSE else F.ARM_CNT_MISS_OPEN) + 1) 0xFFFF ∧
      (if c then (t.armSw.get k.val).confC else (t.armSw.get k.val).confO) =
        (if c then (s.armSw.get k.val).confC else (s.armSw.get k.val).confO) / 2 ∧
      t.nat (R.ARM_SW_EST k.val) = s.nat (R.ARM_SW_EST k.val) ∧ t = { s with regs := t.regs, armSw := t.armSw, occ := t.occ } ∧
      s.regsKept t [R.ARM_SW_EST k.val, R.ARM_SW_STAT k.val, R.ARM_CNT_MISS, H.evt .arm, H.sticky .arm]) ∧
  (∀ (d : Fin 2) (s : State), s.runs .arm = true → s.flag (F.SOL_DIE_BOOST_ADAPT d.val) = true → (s.armDie.get d.val).hold ≤ s.clk →
    s.adaptSet d.val = [] →
    ∃ t, exec (.boostAdaptPeriod d) s = .next t ∧ t.flag (F.ARM_DIE_ADSTAT_VALID d.val) = false ∧
      t.armDie.get d.val = { s.armDie.get d.val with hold := s.clk + s.get (F.ARM_DIE_ADAPT_PERIOD d.val) * second } ∧
      t = { s with regs := t.regs, armDie := t.armDie } ∧ s.regsKept t [R.ARM_DIE_ADSTAT d.val]) ∧
  (∀ (k : Fin 24) (x : EotSign) (s : State), (s.armSw.get k.val).opening.on = false → (s.armSw.get k.val).closing.on = false →
    exec (.eotDetect k x) s = .next s ∧ exec (.eotMiss k) s = .next s) ∧
  (∀ (k : Fin 24) (x : EotSign) (s : State), (s.eotSeen k.val true x = false → s.eotSeen k.val false x = false →
    exec (.eotDetect k x) s = .next s) ∧
    (s.eotPast k.val true = false → s.eotPast k.val false = false → exec (.eotMiss k) s = .next s)) ∧
  (∀ (d : Fin 2) (s : State), (s.runs .arm = false ∨ s.flag (F.SOL_DIE_BOOST_ADAPT d.val) = false ∨
    s.clk < (s.armDie.get d.val).hold) → exec (.boostAdaptPeriod d) s = .next s) ∧
  (∀ (d : Fin 2) (v goal : Nat) (s : State), s.runs .arm = true → s.flag (F.SOL_DIE_BOOST_ADAPT d.val) = true →
    (s.armDie.get d.val).hold ≤ s.clk → s.adaptSet d.val ≠ [] → v = s.get (F.SOL_DIE_VB_TGT d.val) →
    goal = s.get (F.ARM_DIE_ADAPT_T_TARGET d.val) * 1000000 →
    ∃ t, exec (.boostAdaptPeriod d) s = .next t ∧ t.flag (F.ARM_DIE_ADSTAT_VALID d.val) = true ∧
      t.get (F.SOL_DIE_VB_TGT d.val) =
        (if (goal : Int) < (s.worstAt d.val v (s.adaptSet d.val)).2 then min (v + 5) (s.get (F.SOL_DIE_BOOST_VSET d.val))
         else if (s.worstAt d.val (v - 5) (s.adaptSet d.val)).2 * 100 ≤ goal * (100 - s.get (F.ARM_DIE_ADAPT_MARGIN d.val) : Int)
         then max (v - 5) (s.get (F.SOL_DIE_BOOST_VMIN d.val)) else v) ∧
      (t.get (F.SOL_DIE_VB_TGT d.val) = v → t.occ = s.occ) ∧
      (t.armDie.get d.val).hold = s.clk + s.get (F.ARM_DIE_ADAPT_PERIOD d.val) * second ∧
      t = { s with regs := t.regs, occ := t.occ, armDie := t.armDie } ∧
      s.regsKept t [R.SOL_DIE_VB d.val, R.ARM_DIE_ADSTAT d.val, H.evt .arm]) ∧
  (∀ (n : Fin 96) (s : State), s.phase n.val = 7 →
    ∃ t, exec (.calibrationDone (.sol n) true false) s = .next t ∧ t.phase n.val = 0 ∧ t.memCare.calAt.get n.val = s.clk ∧
      (t.sol.get n.val).offAt = s.clk ∧
      t = { s with regs := t.regs, sol := t.sol, armCh := t.armCh, memCare := t.memCare } ∧ s.regsKept t [R.SOL_CH_STAT n.val]) ∧
  (∀ (k : Fin 24) (s : State), (s.hsw.get k.val).cal = true →
    ∃ t, exec (.calibrationDone (.hsw k) true false) s = .next t ∧ t.hsw.get k.val = { s.hsw.get k.val with cal := false } ∧
      t.memCare.calAt.get (96 + k.val) = s.clk ∧ t = { s with hsw := t.hsw, memCare := t.memCare }) ∧
  (∀ (n : Fin 96) (k : Fin 24) (ok sense : Bool) (s : State),
    (s.phase n.val ≠ 7 → exec (.calibrationDone (.sol n) ok sense) s = .next s) ∧
    ((s.hsw.get k.val).cal = false → exec (.calibrationDone (.hsw k) ok sense) s = .next s) ∧
    (s.runs .mem = false → exec (.calibrationDone .adc ok sense) s = .next s)) ∧
  (∀ s : State, s.runs .mem = true →
    ∃ t, exec (.calibrationDone .adc false false) s = .next t ∧ s.occurred t 237 ∧ t.flag ⟨H.sticky .mem, 2, 1⟩ = true ∧
      t.get F.MEM_CAL_FAIL = min (s.get F.MEM_CAL_FAIL + 1) 0xFFFF ∧ t = { s with regs := t.regs, occ := t.occ } ∧
      s.regsKept t [R.MEM_CAL_FAIL, H.evt .mem, H.sticky .mem])

/-- An accepted host ON or OFF goes to the die; there a command that nothing drops is queued with its arrival as start
instant. A due ON in SWITCH mode turns the output on: it counts a cycle and latches the inrush limit, T_INR and SOFT
of its profile; with SHORT or CLAMP latched it is dropped with reason FAULT. A due OFF turns an on output off. Where
T_INR is over, a switch at its limit goes off with LIMIT and INRUSH_TO, another leaves inrush and goes on. Limit
timeout, short (latched) and 175 °C turn the output off with FORCED, their latch and their event. An open load sets
STAT.OPEN, FLT.OPEN and its event, and its end clears STAT.OPEN. Below 150 °C the switch may be turned on again. A
host clear of the latches clears exactly the bits written as 1. Without a command on the way or due, or a switch in
the state that each of these needs, nothing happens. The model's choices: what a train of pulses counts and opens (log
entries 1201 and 1202), a clamp overload at a pulse's off edge (log entry 1203), clearing a fault under limp-home (log
entry 1204), clamp energies that no command carries (log entry 1208), open-load time in PULSE mode (log entry 1210), a
soft start (log entry 1212), what a held switch's timings do (log entry 1213), and the 200 µs of the voltage criterion
(log entry 1214). (R436, R437, R438, R440, R441, R442, R443, R444, R448) -/
def Obligations.SwitchesTakeCommandsAndProtectThemselves : Prop :=
  (∀ (k : Fin 24) (on : Bool) (s : State), s.admitsSet (R.HSW_CH_CMD k.val) (if on then 1 else 2) →
    exec (if on then .hswChOn k else .hswChOff k) s = .next (State.settled { s with str := { s.str with hswWire :=
      s.str.hswWire ++ [{ src := .host, out := k.val, op := if on then 1 else 2, start := 0, duty := 0xFFFF }] } })) ∧
  (∀ (c : OutCmd) (l : List OutCmd) (s : State), s.str.hswWire = c :: l → c.src = .host → (c.op = 1 ∨ c.op = 2) →
    s.limp = false → s.flag (F.HSW_CH_CFG_CSRC c.out) = false → s.hswReason c.out c = 0 → (s.hsw.get c.out).queue = [] →
    ∃ t, exec .hswCommandArrive s = .next t ∧ t.hsw.get c.out = { s.hsw.get c.out with queue := [{ c with start := s.now }] } ∧
      (∀ m, m ≠ c.out → t.hsw.get m = s.hsw.get m) ∧ t = { s with hsw := t.hsw, str := { s.str with hswWire := l } }) ∧
  (∀ (k : Fin 24) (c : OutCmd) (l : List OutCmd) (e : BitVec 16) (s : State), (s.hsw.get k.val).queue = c :: l → c.start ≤ s.now →
    c.op = 1 → c.src = .host → s.limp = false → s.hswReason k.val c = 0 → s.hswLatched k.val = false → s.hswHot k.val = false →
    s.hswOnState k.val = false → s.get (F.HSW_CH_CFG_MODE k.val) = 1 → s.get (F.ARM_SW_CFG_SRC k.val) = 0 →
    ∃ t, exec (.hswCommandStart k e) s = .next t ∧ t.hswOut k.val = true ∧ t.flag (F.HSW_CH_STAT_INRUSH k.val) = true ∧
      t.flag (F.HSW_CH_STAT_FORCED k.val) = false ∧ t.nat (R.HSW_CH_CYCLES k.val) = (s.nat (R.HSW_CH_CYCLES k.val) + 1) % 2 ^ 32 ∧
      t.hsw.get k.val = { s.hsw.get k.val with
        queue := l, cmd := true, first := true, onAt := s.clk, age := 0, cal := false
        limit := hardLimit k.val * s.get (F.HSW_PROF_INR_INR_PCT (s.get (F.HSW_CH_CFG_PROF k.val))) / 100
        inrEnd := s.clk + s.get (F.HSW_PROF_INR_T_INR (s.get (F.HSW_CH_CFG_PROF k.val))) * msec
        soft := s.get (F.HSW_PROF_SOFT_SOFT (s.get (F.HSW_CH_CFG_PROF k.val))) } ∧
      t = { s with regs := t.regs, hsw := t.hsw } ∧ s.regsKept t [R.HSW_CH_STAT k.val, R.HSW_CH_CYCLES k.val]) ∧
  (∀ (k : Fin 24) (c : OutCmd) (l : List OutCmd) (e : BitVec 16) (s : State), (s.hsw.get k.val).queue = c :: l → c.start ≤ s.now →
    c.op = 1 → c.src = .host → s.limp = false → s.hswReason k.val c = 0 → s.hswLatched k.val = true →
    ∃ t, exec (.hswCommandStart k e) s = .next t ∧ t.get (F.HSW_CH_STAT_LASTDROP k.val) = 4 ∧
      t.get (F.HSW_CH_DROP k.val) = min (s.get (F.HSW_CH_DROP k.val) + 1) 0xFFFF ∧ t.hswOut k.val = s.hswOut k.val ∧
      (t.hsw.get k.val).queue = l ∧ t = { s with regs := t.regs, hsw := t.hsw } ∧
      s.regsKept t [R.HSW_CH_STAT k.val, R.HSW_CH_DROP k.val]) ∧
  (∀ (k : Fin 24) (c : OutCmd) (l : List OutCmd) (e : BitVec 16) (s : State), (s.hsw.get k.val).queue = c :: l → c.start ≤ s.now →
    c.op = 2 → c.src = .host → s.limp = false → s.hswReason k.val c = 0 → s.hswOut k.val = true → (s.hsw.get k.val).clamp = [] →
    e.toNat ≤ 250 → s.get (F.ARM_SW_CFG_SRC k.val) = 0 →
    ∃ t, exec (.hswCommandStart k e) s = .next t ∧ t.hswOut k.val = false ∧ t.flag (F.HSW_CH_STAT_INRUSH k.val) = false ∧
      (t.hsw.get k.val).cmd = false ∧ (t.hsw.get k.val).offAt = s.clk ∧ t.get (F.HSW_CH_CLAMP_LAST k.val) = e.toNat ∧
      t = { s with regs := t.regs, hsw := t.hsw } ∧ s.regsKept t [R.HSW_CH_STAT k.val, R.HSW_CH_CLAMP k.val]) ∧
  (∀ (k : Fin 24) (i : Instr) (e x : BitVec 16) (y : SwShort) (f : Fld) (ev : Nat) (s : State), s.kind .hsw = 1 → s.hswOut k.val = true →
    s.limped k.val = false → s.get (F.ARM_SW_CFG_SRC k.val) = 0 → s.pointsOf 2 k.val = [] → (s.hsw.get k.val).clamp = [] →
    e.toNat ≤ 250 →
    ((i = .inrushEnd k true e ∧ f = F.HSW_CH_FLT_LIMIT k.val ∧ ev = 181 ∧ s.flag (F.HSW_CH_STAT_INRUSH k.val) = true ∧
        (s.hsw.get k.val).inrEnd ≤ s.clk) ∨
     (i = .limitTimeout k e ∧ f = F.HSW_CH_FLT_LIMIT k.val ∧ ev = 181 ∧ s.hswJudged k.val = true ∧
        s.passed (s.hsw.get k.val).judgeAt (s.ocTime k.val * msec) = true) ∨
     (i = .hswShort k y ∧ y.energy = e ∧ f = F.HSW_CH_FLT_SHORT k.val ∧ ev = 177 ∧
        (hardLimit k.val ≤ y.cur.toNat ∨ (∃ l, s.hswLimit k.val = some l ∧ l ≤ y.cur.toNat) ∧ y.volt.toNat < 150 ∧
          10 ≤ y.held.toNat ∧ 200 * usec ≤ s.hswAge k.val ∧
          s.flag (F.HSW_CH_STAT_DIPHOLD k.val) = false)) ∨
     (i = .hswOvertemp k x e ∧ f = F.HSW_CH_FLT_OT k.val ∧ ev = 179 ∧ s.hswHere k.val = true ∧ 1750 ≤ x.toInt ∧
        (s.hsw.get k.val).ot = false)) →
    ∃ t, exec i s = .next t ∧ t.flag f = true ∧ s.occurred t ev ∧ t.hswOut k.val = false ∧
      t.flag (F.HSW_CH_STAT_FORCED k.val) = true ∧ t.flag (F.HSW_CH_STAT_INRUSH k.val) = false ∧
      (t.hsw.get k.val).cmd = false ∧ (t.hsw.get k.val).offAt = s.clk ∧ (t.hsw.get k.val).clamp = [(s.clk, e.toNat)] ∧
      (t.hsw.get k.val).ot = ((s.hsw.get k.val).ot || ev == 179) ∧ t.get (F.HSW_CH_CLAMP_LAST k.val) = e.toNat ∧
      (ev = 177 → t.flag ⟨H.sticky .hsw, 1, 1⟩ = true) ∧ (ev = 179 → t.get (F.HSW_CH_TJ k.val) = x.toNat) ∧
      (∀ m, m ≠ k.val → t.hsw.get m = s.hsw.get m) ∧ t = { s with regs := t.regs, occ := t.occ, hsw := t.hsw } ∧
      s.regsKept t [R.HSW_CH_STAT k.val, R.HSW_CH_FLT k.val, R.HSW_CH_CLAMP k.val, R.HSW_CH_TJ k.val, H.evt .hsw, H.sticky .hsw]) ∧
  (∀ (k : Fin 24) (e : BitVec 16) (s : State), s.flag (F.HSW_CH_STAT_INRUSH k.val) = true →
    (s.hsw.get k.val).inrEnd ≤ s.clk →
    ∃ t, exec (.inrushEnd k false e) s = .next t ∧ t.flag (F.HSW_CH_STAT_INRUSH k.val) = false ∧
      t.flag (F.HSW_CH_STAT_ATLIMIT k.val) = false ∧ t.hswOut k.val = s.hswOut k.val ∧
      t.hsw.get k.val = { s.hsw.get k.val with judgeAt := s.clk, olAt := s.clk } ∧ t = { s with regs := t.regs, hsw := t.hsw } ∧
      s.regsKept t [R.HSW_CH_STAT k.val]) ∧
  (∀ (k : Fin 24) (s : State), s.kind .hsw = 1 → s.hswJudged k.val = true → s.flag (F.HSW_CH_STAT_OPEN k.val) = false →
    s.passed (s.hsw.get k.val).olAt (s.olTime k.val * msec) = true →
    ∃ t, exec (.hswOpenLoad k) s = .next t ∧ t.flag (F.HSW_CH_STAT_OPEN k.val) = true ∧ t.flag (F.HSW_CH_FLT_OPEN k.val) = true ∧
      s.occurred t 178 ∧ t.hswOut k.val = true ∧ t.hsw.get k.val = { s.hsw.get k.val with olAt := s.clk } ∧
      t = { s with regs := t.regs, occ := t.occ, hsw := t.hsw } ∧
      s.regsKept t [R.HSW_CH_STAT k.val, R.HSW_CH_FLT k.val, H.evt .hsw]) ∧
  (∀ (k : Fin 24) (s : State), s.hswJudged k.val = true → s.flag (F.HSW_CH_STAT_OPEN k.val) = true →
    s.passed (s.hsw.get k.val).olAt (s.olTime k.val * msec) = true →
    exec (.hswOpenLoadEnd k) s = .next ((s.put (F.HSW_CH_STAT_OPEN k.val) 0).modHsw k.val (fun c => { c with olAt := s.clk }))) ∧
  (∀ (k : Fin 24) (x : BitVec 16) (s : State), (s.hsw.get k.val).ot = true → x.toInt < 1500 → s.limp = false →
    ∃ t, exec (.hswOvertempEnd k x) s = .next t ∧ t.hsw.get k.val = { s.hsw.get k.val with ot := false } ∧
      t.get (F.HSW_CH_TJ k.val) = x.toNat ∧ t = { s with regs := t.regs, hsw := t.hsw } ∧ s.regsKept t [R.HSW_CH_TJ k.val]) ∧
  (∀ (k : Fin 24) (m : Word) (s : State), s.admitsSet (R.HSW_CH_FLT k.val) m.toNat → s.limp = false →
    ∃ t, exec (.hswFltClear k m) s = .next t ∧ t.lastErr = none ∧
      (∀ i, i < 5 → t.flag ⟨R.HSW_CH_FLT k.val, i, 1⟩ = (s.flag ⟨R.HSW_CH_FLT k.val, i, 1⟩ && !m.getLsbD i)) ∧
      t = { s with regs := t.regs, parity := none, lastErr := none } ∧ s.regsKept t [R.HSW_CH_FLT k.val]) ∧
  (∀ s : State, s.str.hswWire = [] → exec .hswCommandArrive s = .next s) ∧
  (∀ (k : Fin 24) (e x : BitVec 16) (y : SwShort) (b : Bool) (s : State),
    ((s.hsw.get k.val).queue = [] → exec (.hswCommandStart k e) s = .next s) ∧
    (s.flag (F.HSW_CH_STAT_INRUSH k.val) = false → exec (.inrushEnd k b e) s = .next s) ∧
    (s.hswOut k.val = false → exec (.limitTimeout k e) s = .next s ∧ exec (.hswShort k y) s = .next s ∧
      exec (.hswOpenLoad k) s = .next s ∧ exec (.hswOpenLoadEnd k) s = .next s) ∧
    ((s.hswHere k.val = false ∨ x.toInt < 1750 ∨ (s.hsw.get k.val).ot = true) → exec (.hswOvertemp k x e) s = .next s) ∧
    (((s.hsw.get k.val).ot = false ∨ 1500 ≤ x.toInt) → exec (.hswOvertempEnd k x) s = .next s))

/-- A dip of a VHS group holds the judgement of its switches that are on; its end releases them, as does a dip beyond
2 ms, which counts and raises VHS_DIP. A generator's period start latches its duty and plans each commanded channel's
pulse at its phase; a due turn-on and turn-off act on the output. Limp-home drives every present switch by the map,
its inputs, latches and 175 °C shutdowns alone, and turns every solenoid channel off; while it lasts a change of the
inputs does the same; its release leaves every switch off. A latch whose check fails is emptied; a table that differs
from the store copy is written to it and the dies. When HOLD_T is over every held switch is off. 2 ms after a turn-off
the sense-offset calibration runs. A period start is at a tag of its grid, outside a hold; without what each of these
needs, nothing happens. The model's choices: HOLD_RST (log entry 1205), pulses without a generator (log entry 1206),
when the limp table is copied (log entry 1207), DIPHOLD (log entry 1209), a change of MODE to OFF (log entry 1211),
and what a held switch keeps (log entry 1213). (R445, R446, R447, R449, R450, R451, R452, R454, R635) -/
def Obligations.DipsPulsesLimpHomeAndHoldOver : Prop :=
  (∀ (g : Fin 4) (v : BitVec 16) (s : State), s.hswHere (6 * g.val) = true → s.flag (F.HSW_VHS_STAT_DIP g.val) = false →
    v.toNat < s.get (F.HSW_VHS_CFG_VHS_DIP g.val) * 10 →
    ∃ t, exec (.vhsDipStart g v) s = .next t ∧ t.flag (F.HSW_VHS_STAT_DIP g.val) = true ∧
      t.get (F.HSW_VHS_STAT_VHS g.val) = v.toNat ∧ t.hswVhs.get g.val = ⟨s.clk, true⟩ ∧
      (∀ i, i < 6 → t.flag (F.HSW_CH_STAT_DIPHOLD (6 * g.val + i)) =
        (s.flag (F.HSW_CH_STAT_DIPHOLD (6 * g.val + i)) || s.hswOut (6 * g.val + i))) ∧
      t = { s with regs := t.regs, hswVhs := t.hswVhs } ∧
      s.regsKept t (R.HSW_VHS_STAT g.val :: (List.range 6).map (fun i => R.HSW_CH_STAT (6 * g.val + i)))) ∧
  (∀ (g : Fin 4) (v : BitVec 16) (s : State), s.flag (F.HSW_VHS_STAT_DIP g.val) = true →
    s.get (F.HSW_VHS_CFG_VHS_DIP g.val) * 10 ≤ v.toNat →
    ∃ t, exec (.vhsDipEnd g v) s = .next t ∧ t.flag (F.HSW_VHS_STAT_DIP g.val) = false ∧ (t.hswVhs.get g.val).hold = false ∧
      (∀ i, i < 6 → t.flag (F.HSW_CH_STAT_DIPHOLD (6 * g.val + i)) = false ∧
        (s.flag (F.HSW_CH_STAT_DIPHOLD (6 * g.val + i)) = true → (t.hsw.get (6 * g.val + i)).judgeAt = s.clk ∧
          (t.hsw.get (6 * g.val + i)).olAt = s.clk)) ∧
      t = { s with regs := t.regs, hsw := t.hsw, hswVhs := t.hswVhs } ∧
      s.regsKept t (R.HSW_VHS_STAT g.val :: (List.range 6).map (fun i => R.HSW_CH_STAT (6 * g.val + i)))) ∧
  (∀ (g : Fin 4) (s : State), s.kind .hsw = 1 → (s.hswVhs.get g.val).hold = true → s.flag (F.HSW_VHS_STAT_DIP g.val) = true →
    s.passed (s.hswVhs.get g.val).since (2 * msec) = true →
    ∃ t, exec (.vhsDip g) s = .next t ∧ s.occurred t 180 ∧ (t.hswVhs.get g.val).hold = false ∧
      t.get (F.HSW_VHS_CNT g.val) = min (s.get (F.HSW_VHS_CNT g.val) + 1) 0xFFFF ∧
      (∀ i, i < 6 → t.flag (F.HSW_CH_STAT_DIPHOLD (6 * g.val + i)) = false) ∧
      t = { s with regs := t.regs, occ := t.occ, hsw := t.hsw, hswVhs := t.hswVhs }) ∧
  (∀ (p : Fin 6) (s : State), (s.runs .hsw = false ∨ s.flag (F.HSW_PG_CFG_EN p.val) = false ∨ s.get (F.HSW_PG_CFG_PER p.val) = 0 ∨
    s.onGrid (s.get (F.HSW_PG_CFG_PER p.val) * 16) = false) → exec (.pgenPeriodStart p) s = .next s) ∧
  (∀ (p : Fin 6) (s : State), s.runs .hsw = true → s.flag (F.HSW_PG_CFG_EN p.val) = true → s.get (F.HSW_PG_CFG_PER p.val) ≠ 0 →
    s.onGrid (s.get (F.HSW_PG_CFG_PER p.val) * 16) = true →
    ∃ t, exec (.pgenPeriodStart p) s = .next t ∧ t.get (F.HSW_PG_STAT p.val) = s.get (F.HSW_PG_DUTY p.val) ∧
      t.hswGen.get p.val = ⟨true, s.get (F.HSW_PG_CFG_PER p.val), s.now⟩ ∧
      t = { s with regs := t.regs, occ := t.occ, hsw := t.hsw, hswGen := t.hswGen } ∧
      ∀ (k : Fin 24) (on : Nat), (s.hsw.get k.val).cmd = true → s.get (F.HSW_CH_CFG_MODE k.val) = 2 →
        s.get (F.HSW_CH_CFG_PGEN k.val) = p.val →
        on = (divNear 448 (s.get (F.HSW_PG_DUTY p.val) * s.get (F.HSW_PG_CFG_PER p.val) : Nat) 1000).toNat →
        s.get (F.HSW_PG_DUTY p.val) ≠ 0 → 20 ≤ on → on + 20 ≤ s.get (F.HSW_PG_CFG_PER p.val) →
        t.flag (F.HSW_CH_STAT_STRETCH k.val) = false ∧ t.hsw.get k.val = { s.hsw.get k.val with
          edgeOn := some (s.now +
            (divOpen 447 (s.get (F.HSW_CH_CFG_PHASE k.val) * s.get (F.HSW_PG_CFG_PER p.val) * 16 : Nat) 256).toNat)
          pulse := on }) ∧
  (∀ (k : Fin 24) (x : Nat) (e : BitVec 16) (s : State), (s.hsw.get k.val).edgeOn = some x → x ≤ s.now →
    (s.hsw.get k.val).first = false →
    ∃ t, exec (.pulseEdge k true e) s = .next t ∧ t.hswOut k.val = true ∧ (t.hsw.get k.val).edgeOn = none ∧
      (t.hsw.get k.val).edgeOff = (if (s.hsw.get k.val).pulse < (s.hswGen.get (s.get (F.HSW_CH_CFG_PGEN k.val))).per
        then some (x + (s.hsw.get k.val).pulse * 16) else none) ∧
      (t.hsw.get k.val).judgeAt = (if s.hswOut k.val then (s.hsw.get k.val).judgeAt else s.clk) ∧
      t = { s with regs := t.regs, hsw := t.hsw } ∧ s.regsKept t [R.HSW_CH_STAT k.val]) ∧
  (∀ (k : Fin 24) (x : Nat) (e : BitVec 16) (s : State), (s.hsw.get k.val).edgeOff = some x → x ≤ s.now → s.hswOut k.val = true →
    (s.hsw.get k.val).clamp = [] → e.toNat ≤ 250 → s.hswLatched k.val = false →
    ∃ t, exec (.pulseEdge k false e) s = .next t ∧ t.hswOut k.val = false ∧ (t.hsw.get k.val).edgeOff = none ∧
      (t.hsw.get k.val).cmd = (s.hsw.get k.val).cmd ∧ t = { s with regs := t.regs, hsw := t.hsw } ∧
      s.regsKept t [R.HSW_CH_STAT k.val, R.HSW_CH_CLAMP k.val]) ∧
  (∀ s : State, s.limp = false → s.kind .hsw = 1 →
    ∃ t, exec .limpOn s = .next t ∧ t.limp = true ∧ t.flag (evBit 183) = true ∧
      (∀ n, n < 96 → t.phase n = 0 ∨ t.phase n = 6) ∧
      ∀ k, k < 24 → t.hswHere k = true → t.hswOut k = t.lhWants k ∧ t.limped k = t.lhMapped k) ∧
  (∀ s : State, s.limp = true → s.kind .hsw = 1 →
    ∃ t, exec .limpOff s = .next t ∧ t.limp = false ∧ t.flag (evBit 184) = true ∧
      ∀ k, k < 24 → s.hswHere k = true → t.hswOut k = false ∧ t.limped k = false) ∧
  (∀ (x : BitVec 8) (s : State),
    (s.limp = false → exec (.lhInputChange x) s = .next (s.put F.HSW_LH_STAT_LH_IN7 x.toNat)) ∧
    (s.limp = true → ∃ t, exec (.lhInputChange x) s = .next t ∧ t.get F.HSW_LH_STAT_LH_IN7 = x.toNat ∧
      ∀ k, k < 24 → t.hswHere k = true → t.hswOut k = t.lhWants k ∧ t.limped k = t.lhMapped k)) ∧
  (∀ (okA okB : Bool) (s : State), s.limp = false → s.kind .hsw = 1 →
    ∃ t, exec (.limpTableCheck okA okB) s = .next t ∧
      t.hswKeep = { s.hswKeep with latchA := if okA then s.hswKeep.latchA else [], latchB := if okB then s.hswKeep.latchB else [] } ∧
      t.flag F.HSW_LH_STAT_VALIDA = (s.flag F.HSW_LH_STAT_VALIDA && okA) ∧
      t.flag F.HSW_LH_STAT_VALIDB = (s.flag F.HSW_LH_STAT_VALIDB && okB) ∧
      ((okA && okB) = false → s.occurred t 185) ∧ t = { s with regs := t.regs, occ := t.occ, hswKeep := t.hswKeep } ∧
      s.regsKept t [R.HSW_LH_STAT, H.evt .hsw]) ∧
  (∀ s : State, s.kind .hsw = 1 → s.cfg.footing.isSome = true → s.limp = false →
    (s.hswKeep.store = some (s.lhTable, s.holdOver, s.get F.HSW_LH_CTRL_HOLD_T) → exec .limpTableSync s = .next s) ∧
    (s.hswKeep.store = none → ∃ t, exec .limpTableSync s = .next t ∧
      t.hswKeep = { s.hswKeep with
        latchA := s.lhTable, latchB := s.lhTable, store := some (s.lhTable, s.holdOver, s.get F.HSW_LH_CTRL_HOLD_T)
        older := none, holdMask := s.holdOver, holdT := s.get F.HSW_LH_CTRL_HOLD_T } ∧
      t.flag F.HSW_LH_STAT_VALIDA = true ∧ t.flag F.HSW_LH_STAT_VALIDB = true ∧
      t = { s with regs := t.regs, occ := t.occ, hswKeep := t.hswKeep } ∧ s.regsKept t [R.HSW_LH_STAT, H.evt .hsw])) ∧
  (∀ s : State, s.passed 0 (s.hswKeep.holdT * second) = true →
    ∃ t, exec .holdOverExpiry s = .next t ∧ ∀ k, k < 24 → t.flag (F.HSW_CH_STAT_HELD k) = false ∧
      t.hswOut k = (s.hswOut k && !s.flag (F.HSW_CH_STAT_HELD k))) ∧
  (∀ (k : Fin 24) (s : State), s.runs .mem = true → s.present .hsw = true → s.hswHere k.val = true → s.hswOut k.val = false →
    s.passed (s.hsw.get k.val).offAt (2 * msec) = true →
    exec (.hswSenseOffsetCalibration k) s = .next { s with hsw := s.hsw.modify k.val (fun c => { c with cal := true }) }) ∧
  (∀ (g : Fin 4) (v : BitVec 16) (s : State),
    ((s.flag (F.HSW_VHS_STAT_DIP g.val) = true ∨ s.get (F.HSW_VHS_CFG_VHS_DIP g.val) * 10 ≤ v.toNat) →
      exec (.vhsDipStart g v) s = .next s) ∧
    (s.flag (F.HSW_VHS_STAT_DIP g.val) = false → exec (.vhsDipEnd g v) s = .next s ∧ exec (.vhsDip g) s = .next s)) ∧
  (∀ (k : Fin 24) (e : BitVec 16) (s : State), ((s.hsw.get k.val).edgeOn = none → exec (.pulseEdge k true e) s = .next s) ∧
    ((s.hsw.get k.val).edgeOff = none → exec (.pulseEdge k false e) s = .next s) ∧
    (s.hswOut k.val = true → exec (.hswSenseOffsetCalibration k) s = .next s)) ∧
  (∀ s : State, (s.limp = true → exec .limpOn s = .next s) ∧ (s.limp = false → exec .limpOff s = .next s) ∧
    (s.present .hsw = false → exec .limpTableSync s = .next s) ∧
    (s.passed 0 (s.hswKeep.holdT * second) = false → exec .holdOverExpiry s = .next s))

/-- At a grid instant at which one loop outside a heat samples alone: the value formed one sample before is applied. A
CLOSED loop with valid feedback and no injection or lap term forms, in saturating sQ16.16, p + i + d + the
feed-forward term, limits it by OMIN, OMAX and SLEW, corrects its integrator by KBC and sends the value with the next
sample instant. An enabled OFF loop opens; an OPEN one sends MAN or the held l; a waiting CLOSE closes it; a CLOSED
loop whose feedback is lost enters FALLBACK, freezes i and sends SAFE or l; a loop whose EN is 0 goes OFF and sends
SAFE. A value that arrives early is kept, one that is due is written and a late one is counted. A heat applies the
least offered value, its previous winner where that offers it. LOOP_CMD is left for the sample. Off the sample grid
nothing is sampled. The model's choices: when a sum saturates (log entry 1301), the backup table's rounding (log entry
1302), a heat's first winner (log entry 1303), what a disable writes (log entry 1304), LATE of a heat (log entry
1305), a held value whose destination changes (log entry 1307), how values arrive (log entries 1309 and 1311), the
order at one instant (log entry 1312), and that each saturating sample is an occurrence (log entry 1313). (R465, R466,
R472, R473, R476, R477, R480, R481, R485, R487) -/
def Obligations.LoopsSampleFormAndApply : Prop :=
  (∀ (n : Fin 32) (x : LoopVal) (s : State), s.samplesOnly n.val → (s.ctl.loops.get n.val).pend = some x → x.owner = n.val →
    sat32 x.val = x.val →
    ∃ t, exec .loopSample s = .next t ∧ t.int (R.CTL_LOOP_UV n.val) = x.val ∧
      t.ctl.binds.get (bindKey n.val x.word) = some x.val) ∧
  (∀ (n : Fin 32) (sp y e ff sg d i v c : Int) (s : State), s.samplesOnly n.val → (s.ctl.loops.get n.val).pend = none →
    s.injOf n.val = none → s.flag (F.CTL_LOOP_CTRL_EN n.val) = true → s.loopSt n.val = 2 → (s.ctl.loops.get n.val).cmd = 0 →
    (s.ctl.loops.get n.val).chg = false → s.get (F.CTL_LOOP_CFG_LAP n.val) = 0 → s.int (R.CTL_LOOP_FE_LIM n.val) ≤ 0 →
    s.get (F.CTL_LOOP_TMO_FROZEN_N n.val) < 2 → s.fbLost n.val = 0 →
    sp = sat32 (s.source (s.nat (R.CTL_LOOP_SP_SRC n.val)) (s.int (R.CTL_LOOP_SPFIX n.val))).val →
    y = (s.source (s.nat (R.CTL_LOOP_FB_SRC n.val)) 0).val → ff = (s.source (s.nat (R.CTL_LOOP_FF_SRC n.val)) 0).val →
    e = sat32 (sp - y) → sg = (if s.flag (F.CTL_LOOP_CFG_DON n.val) then sat32 (-y) else e) →
    d = sat32 (sat32 (mulQ 24 (s.int (R.CTL_LOOP_DA n.val)) (s.ctl.loops.get n.val).dPrev) +
      sat32 (mulQ 24 (s.int (R.CTL_LOOP_DB n.val)) (sat32 (sg - (s.ctl.loops.get n.val).sPrev)))) →
    i = sat32 (s.int (R.CTL_LOOP_IV n.val) + sat32 (mulQ 24 (s.int (R.CTL_LOOP_KIT n.val)) e)) →
    v = sat32 (sat32 (mulQ 24 (s.int (R.CTL_LOOP_KP n.val)) e) + i + d + sat32 (mulQ 24 (s.int (R.CTL_LOOP_KFF n.val)) ff)) →
    c = s.loopLimit n.val (s.loopL n.val) v →
    ∃ t, exec .loopSample s = .next t ∧ t.int (R.CTL_LOOP_VV n.val) = v ∧ s.sends t n.val c ∧
      t.int (R.CTL_LOOP_IV n.val) = sat32 (i + sat32 (mulQ 24 (s.int (R.CTL_LOOP_KBC n.val)) (sat32 (c - v)))) ∧
      (t.ctl.loops.get n.val).sPrev = sg ∧ (t.ctl.loops.get n.val).dPrev = d ∧ t.loopSt n.val = 2 ∧
      t.int (R.CTL_LOOP_SPV n.val) = sp ∧ t = { s with regs := t.regs, occ := t.occ, ctl := t.ctl, stamps := t.stamps }) ∧
  (∀ (n : Fin 32) (s : State), s.samplesOnly n.val → (s.ctl.loops.get n.val).pend = none → s.injOf n.val = none →
    s.get (F.CTL_LOOP_CFG_LAP n.val) = 0 → s.flag (F.CTL_LOOP_CTRL_EN n.val) = true →
    (s.loopSt n.val = 0 → s.flag (F.CTL_LOOP_CTRL_CLOSE_EN n.val) = false →
      ∃ t, exec .loopSample s = .next t ∧ t.loopSt n.val = 1 ∧ (t.ctl.loops.get n.val).hold = s.loopL n.val ∧
        s.sends t n.val (sat32 (if s.flag (F.CTL_LOOP_CFG_OPEN_OUT n.val) then s.int (R.CTL_LOOP_MAN n.val) else s.loopL n.val))) ∧
    (s.loopSt n.val = 1 → (s.ctl.loops.get n.val).cmd = 0 →
      ∃ t, exec .loopSample s = .next t ∧ t.loopSt n.val = 1 ∧ t.int (R.CTL_LOOP_IV n.val) = s.int (R.CTL_LOOP_IV n.val) ∧
        s.sends t n.val (sat32 (if s.flag (F.CTL_LOOP_CFG_OPEN_OUT n.val) then s.int (R.CTL_LOOP_MAN n.val)
          else (s.ctl.loops.get n.val).hold))) ∧
    (s.loopSt n.val = 1 → (s.ctl.loops.get n.val).cmd = 1 → s.fbLost n.val = 0 → s.int (R.CTL_LOOP_FE_LIM n.val) ≤ 0 →
      ∃ t, exec .loopSample s = .next t ∧ t.loopSt n.val = 2 ∧ t.flag (F.CTL_LOOP_STAT_PRESET n.val) = true ∧
        (t.ctl.loops.get n.val).cmd = 0) ∧
    (s.loopSt n.val = 2 → (s.ctl.loops.get n.val).cmd = 0 → (s.ctl.loops.get n.val).chg = false → s.fbLost n.val ≠ 0 →
      srcKind (s.nat (R.CTL_LOOP_FB_SRC n.val)) ≠ 9 → s.int (R.CTL_LOOP_FE_LIM n.val) ≤ 0 → s.get (F.CTL_LOOP_CFG_FB_ACT n.val) ≤ 1 →
      ∃ t, exec .loopSample s = .next t ∧ t.loopSt n.val = 3 ∧ t.get (F.CTL_LOOP_STAT_FBWHY n.val) = s.fbLost n.val ∧
        s.occurred t 193 ∧ t.flag ⟨H.sticky .ctl, 2, 1⟩ = true ∧ t.int (R.CTL_LOOP_IV n.val) = s.int (R.CTL_LOOP_IV n.val) ∧
        s.sends t n.val (if s.get (F.CTL_LOOP_CFG_FB_ACT n.val) = 1 then s.int (R.CTL_LOOP_SAFE n.val) else s.loopL n.val))) ∧
  (∀ (n : Fin 32) (s : State), s.samplesOnly n.val → (s.ctl.loops.get n.val).pend = none → s.injOf n.val = none →
    s.flag (F.CTL_LOOP_CTRL_EN n.val) = false → s.loopSt n.val ≠ 0 → s.get (F.CTL_LOOP_CFG_LAP n.val) = 0 →
    ∃ t, exec .loopSample s = .next t ∧ t.loopSt n.val = 0 ∧ s.sends t n.val (s.int (R.CTL_LOOP_SAFE n.val)) ∧
      t = { s with regs := t.regs, ctl := t.ctl, stamps := t.stamps }) ∧
  (∀ s : State, ((s.runs .ctl = false ∨ s.clk % gridLen ≠ 0) → exec .loopSample s = .next s) ∧
    (s.ctl.wire = [] → exec .loopValueArrive s = .next s)) ∧
  (∀ (x : LoopVal) (l : List LoopVal) (s : State), s.ctl.wire = x :: l → s.clk < x.due →
    exec .loopValueArrive s = .next { s with ctl := { s.ctl with wire := l, held := s.ctl.held ++ [x] } }) ∧
  (∀ (x : LoopVal) (l : List LoopVal) (p : Fin 6) (s : State), s.ctl.wire = x :: l → x.due ≤ s.clk → x.owner < 32 →
    srcKind x.word = 3 → srcInst x.word = p.val → s.get (F.HSW_PG_CFG_DSRC p.val) = 2 →
    ∃ t, exec .loopValueArrive s = .next t ∧ t.ctl.wire = l ∧
      t.get (F.HSW_PG_DUTY p.val) = (clamp 0 1000 (divHaz (x.val * 10) (2 ^ 16))).toNat ∧
      t.flag (F.CTL_LOOP_STAT_DNOTAKEN x.owner) = false ∧
      t.get ⟨R.CTL_LOOP_LATE x.owner, 0, 16⟩ =
        (if x.due = s.clk then s.get ⟨R.CTL_LOOP_LATE x.owner, 0, 16⟩ else min (s.get ⟨R.CTL_LOOP_LATE x.owner, 0, 16⟩ + 1) 0xFFFF) ∧
      t = { s with regs := t.regs, ctl := { s.ctl with wire := l } } ∧
      s.regsKept t [R.HSW_PG_DUTY p.val, R.CTL_LOOP_STAT x.owner, R.CTL_LOOP_LATE x.owner, H.sticky .ctl]) ∧
  (∀ (h : Fin 4) (rs : List LoopRes) (s : State), s.flag (F.CTL_HEAT_CFG_EN h.val) = true → rs ≠ [] →
    ∃ (x : LoopVal) (m : Nat), ((s.heatStep h.val rs).ctl.heats.get h.val) = { pend := some x, winner := some m } ∧
      x.owner = 32 + h.val ∧ (∀ r ∈ rs, x.val ≤ r.c) ∧ (∃ r ∈ rs, r.n = m ∧ r.c = x.val) ∧
      ∀ p, (s.ctl.heats.get h.val).winner = some p → (∃ r ∈ rs, r.n = p ∧ r.c = x.val) → m = p) ∧
  (∀ (n : Fin 32) (c : Nat) (i : Instr) (s : State),
    ((c = 1 ∧ i = .loopClose n) ∨ (c = 2 ∧ i = .loopOpen n) ∨ (c = 3 ∧ i = .loopRelease n)) → s.admitsSet (R.CTL_LOOP_CMD n.val) c →
    exec i s = .next (State.settled { s with ctl := { s.ctl with loops := s.ctl.loops.modify n.val (fun x => { x with cmd := c }) } }))

/-- A Pacer whose EN is 0 goes OFF at its update and holds x. One in RUN takes one step of R503 towards its clamped
target; it never passes the target, rests there, and shows AT exactly there. GO and STOP change its state at the next
update; JUMP in STOP sets x to X0. A reset of a lap table clears every cell, marks the change for absorption and
raises LAP_RESET; a write of one cell changes that cell. START and START_AT arm an injector from k = 0; at its loop's
sample a running STEP injector gives AMP and counts k, one that has done its N samples ends; STOP marks it for its
loop's next sample. GO starts a capture from nothing taken; STOP ends it with END = 2, or 3 where a time step or hold
came first. STOP of what does not run changes nothing, nor does an update off the Pacer's grid. The model's choices:
the open roundings (log entries 6 and 1401), JUMP and EN between updates (log entries 1402 and 1403), the flags of
LAP_STAT (log entry 1404), samples that learn nothing (log entries 1405 and 1412), a cell that the host writes (log
entry 1411), an injector on an OPEN loop (log entry 1408), the end of a capture by a step (log entry 1409), and an
injection within its error bound (log entry 1410). (R463, R501, R502, R503, R505, R509, R510, R511, R512, R513, R515) -/
def Obligations.PacersLapsInjectorsAndCapture : Prop :=
  (∀ (p : Fin 16) (s : State), (s.runs .pace = false ∨ s.nPacer ≤ p.val ∨
    s.gridDue (s.get (F.PACE_TIME_PHASE p.val)) (s.get (F.PACE_TIME_PERIOD p.val)) = false) → exec (.pacerUpdate p) s = .next s) ∧
  (∀ (p : Fin 16) (s : State), s.runs .pace = true → p.val < s.nPacer →
    s.gridDue (s.get (F.PACE_TIME_PHASE p.val)) (s.get (F.PACE_TIME_PERIOD p.val)) = true →
    (s.flag (F.PACE_CTRL_EN p.val) = false → s.get (F.PACE_STAT_STATE p.val) ≠ 0 →
      ∃ t, exec (.pacerUpdate p) s = .next t ∧ t.get (F.PACE_STAT_STATE p.val) = 0 ∧ t.nat (R.PACE_V p.val) = 0 ∧
        t.pacer.get p.val = { s.pacer.get p.val with v := 0, a := 0 } ∧ t = { s with regs := t.regs, pacer := t.pacer } ∧
        s.regsKept t [R.PACE_STAT p.val, R.PACE_V p.val, R.PACE_A p.val]) ∧
    (∀ (c e : Int), s.flag (F.PACE_CTRL_EN p.val) = true → s.get (F.PACE_STAT_STATE p.val) = 1 → (s.pacer.get p.val).cmd = 0 →
      srcKind (s.nat (R.PACE_TSRC p.val)) = 0 →
      c = clamp (s.int (R.PACE_XMIN p.val)) (s.int (R.PACE_XMAX p.val)) (s.int (R.PACE_TGT p.val)) →
      e = c * 2 ^ 16 - (s.pacer.get p.val).x →
      ∃ t, exec (.pacerUpdate p) s = .next t ∧ t.get (F.PACE_STAT_STATE p.val) = 1 ∧
        t.pacer.get p.val = paceStep (s.pacer.get p.val) (c * 2 ^ 16) false (s.get (F.PACE_TIME_PERIOD p.val))
          (s.nat (R.PACE_VMAX p.val)) (s.nat (R.PACE_AMAX p.val)) (s.nat (R.PACE_JMAX p.val)) ∧
        (e ≠ 0 → (t.pacer.get p.val).x = c * 2 ^ 16 ∨ (c * 2 ^ 16 - (t.pacer.get p.val).x).sign = e.sign) ∧
        (e = 0 → (s.pacer.get p.val).v = 0 → (s.pacer.get p.val).a = 0 → t.pacer.get p.val = s.pacer.get p.val) ∧
        t.int (R.PACE_X p.val) = sat32 (divHaz (t.pacer.get p.val).x (2 ^ 16)) ∧
        (t.flag (F.PACE_STAT_AT p.val) = true ↔ (t.pacer.get p.val).x = c * 2 ^ 16 ∧ (t.pacer.get p.val).v = 0) ∧
        t.flag (F.PACE_STAT_TCLAMP p.val) = decide (c ≠ s.int (R.PACE_TGT p.val)) ∧
        t = { s with regs := t.regs, occ := t.occ, pacer := t.pacer, stamps := t.stamps } ∧
        s.regsKept t [R.PACE_STAT p.val, R.PACE_X p.val, R.PACE_V p.val, R.PACE_A p.val, H.evt .pace]) ∧
    (s.flag (F.PACE_CTRL_EN p.val) = true → s.get (F.PACE_STAT_STATE p.val) ≠ 0 →
      (s.pacer.get p.val).cmd = 1 ∨ (s.pacer.get p.val).cmd = 2 →
      ∃ t, exec (.pacerUpdate p) s = .next t ∧ t.get (F.PACE_STAT_STATE p.val) = (s.pacer.get p.val).cmd ∧
        (t.pacer.get p.val).cmd = 0) ∧
    (s.flag (F.PACE_CTRL_EN p.val) = true → s.get (F.PACE_STAT_STATE p.val) = 2 → (s.pacer.get p.val).cmd = 3 →
      ∃ t, exec (.pacerUpdate p) s = .next t ∧ t.get (F.PACE_STAT_STATE p.val) = 2 ∧
        t.pacer.get p.val = { x := s.int (R.PACE_X0 p.val) * 2 ^ 16, v := 0, a := 0, cmd := 0 } ∧
        t.int (R.PACE_X p.val) = s.int (R.PACE_X0 p.val) ∧ t.int (R.PACE_V p.val) = 0)) ∧
  (∀ (p : Fin 16) (c : Nat) (i : Instr) (s : State),
    ((c = 1 ∧ i = .paceGo p) ∨ (c = 2 ∧ i = .paceStop p) ∨ (c = 3 ∧ i = .paceJump p)) → s.admitsSet (R.PACE_CMD p.val) c →
    exec i s = .next (State.settled { s with pacer := s.pacer.modify p.val (fun x => { x with cmd := c }) })) ∧
  (∀ (j : Fin 4) (v : Word) (s : State), s.kind .pace = 1 → s.admitsSet (R.LAP_CTRL j.val) (v.toNat ||| 16) →
    ∃ t, exec (.lapReset j v) s = .next t ∧ (∀ m, m < 1024 → t.word (R.LAP_TBL j.val m) = 0#32) ∧ s.occurred t 202 ∧
      t.lap.get j.val = { s.lap.get j.val with touched := true, olds := [] } ∧
      t = { s with regs := t.regs, occ := t.occ, lap := t.lap, parity := none, lastErr := none } ∧
      s.regsKept t (R.LAP_CTRL j.val :: H.evt .pace :: (List.range 1024).map (R.LAP_TBL j.val))) ∧
  (∀ (j : Fin 4) (m : Fin 1024) (v : Word) (s : State), s.admitsSet (R.LAP_TBL j.val m.val) v.toNat →
    ∃ t, exec (.lapTableWrite j m v) s = .next t ∧ t.word (R.LAP_TBL j.val m.val) = v ∧
      t.lap.get j.val = (if (s.lap.get j.val).olds.any (fun y => y.1 == m.val) then s.lap.get j.val else { s.lap.get j.val with
        olds := (m.val, s.int (R.LAP_TBL j.val m.val)) :: (s.lap.get j.val).olds }) ∧
      t = { s with regs := t.regs, lap := t.lap, parity := none, lastErr := none } ∧ s.regsKept t [R.LAP_TBL j.val m.val]) ∧
  (∀ (q : Fin 4) (at' : Bool) (s : State), s.admitsSet (R.INJ_CMD q.val) (if at' then 2 else 1) →
    ∃ t, exec (if at' then .injStartAt q else .injStart q) s = .next t ∧ t.injSt q.val = 1 ∧ t.nat (R.INJ_K q.val) = 0 ∧
      t.nat (R.INJ_VAL q.val) = 0 ∧ t.inj.get q.val = { tagged := at', stop := false, s := 0, k0 := none } ∧
      t = { s with regs := t.regs, inj := t.inj, parity := none, lastErr := none } ∧
      s.regsKept t [R.INJ_STAT q.val, R.INJ_K q.val, R.INJ_VAL q.val]) ∧
  (∀ (q : Fin 4) (s : State), s.admitsSet (R.INJ_CMD q.val) 3 → (s.injSt q.val = 1 ∨ s.injSt q.val = 2) →
    exec (.injStop q) s = .next (State.settled { s with inj := s.inj.modify q.val (fun x => { x with stop := true }) })) ∧
  (∀ (q : Fin 4) (s : State), s.admitsSet (R.INJ_CMD q.val) 3 → s.injSt q.val ≠ 1 → s.injSt q.val ≠ 2 →
    exec (.injStop q) s = .next s.settled) ∧
  (∀ s : State, s.admitsSet R.CAP_CMD 2 → s.flag F.CAP_STAT_BUSY = false → exec .capStop s = .next s.settled) ∧
  (∀ (n : Fin 32) (q : Fin 4) (s : State), s.samplesOnly n.val → (s.ctl.loops.get n.val).pend = none → s.runs .pace = true →
    s.injOf n.val = some q.val → s.injSt q.val = 2 → (s.inj.get q.val).stop = false → s.flag (F.CTL_LOOP_CTRL_EN n.val) = false →
    s.loopSt n.val = 0 →
    (s.get (F.INJ_CFG_TYPE q.val) = 1 → (s.nat (R.INJ_N q.val) = 0 ∨ s.nat (R.INJ_K q.val) < s.nat (R.INJ_N q.val)) →
      ∃ t, exec .loopSample s = .next t ∧ t.int (R.INJ_VAL q.val) = s.int (R.INJ_AMP q.val) ∧ t.injSt q.val = 2 ∧
        t.nat (R.INJ_K q.val) = (s.nat (R.INJ_K q.val) + 1) % 2 ^ 32 ∧
        t = { s with regs := t.regs, inj := t.inj, stamps := t.stamps }) ∧
    (s.nat (R.INJ_N q.val) ≠ 0 → s.nat (R.INJ_N q.val) ≤ s.nat (R.INJ_K q.val) →
      ∃ t, exec .loopSample s = .next t ∧ t.injSt q.val = 3 ∧ t.nat (R.INJ_VAL q.val) = 0)) ∧
  (∀ s : State, s.admitsSet R.CAP_CMD 1 →
    ∃ t, exec .capGo s = .next t ∧ t.flag F.CAP_STAT_BUSY = true ∧ t.get F.CAP_STAT_LOST = 0 ∧ t.nat R.CAP_SETS = 0 ∧
      t.cap = { started := false, goAt := s.clk, steps := s.nav.steps, skip := 0, buf := [], index := 0, held := s.cap.held
                broke := false } ∧
      t = { s with regs := t.regs, cap := t.cap, parity := none, lastErr := none } ∧ s.regsKept t [R.CAP_STAT, R.CAP_SETS]) ∧
  (∀ s : State, s.admitsSet R.CAP_CMD 2 → s.flag F.CAP_STAT_BUSY = true →
    ∃ t, exec .capStop s = .next t ∧ t.flag F.CAP_STAT_BUSY = false ∧
      t.get F.CAP_STAT_END = (if s.nav.steps = s.cap.steps then 2 else 3) ∧ t.lastErr = none ∧
      t.cap.buf = [] ∧ t.nat R.CAP_SETS = s.nat R.CAP_SETS)

/-- SEND makes an idle transmit object pending with RESULT 0, changes nothing while pending, is latched during an
attempt, and fails at once with FDF on a controller without FD. CANCEL ends a pending object with RESULT 3, is latched
during an attempt and else changes nothing. At a start of frame the controller chooses, of its pending objects (of an
FD object only with FDEN = 1), the one of the best priority and the lowest number. Success ends the request with
RESULT 1, or 2 and CANCEL_LATE after a latched cancel; a latched SEND pends again. Lost arbitration leaves it pending,
or ends it with RESULT 3 after a latched cancel. An error counts, with the further ones in the node's own flags,
leaves a privileged object or one with retries left pending, ends another with RESULT 4, and may put the controller
into bus-off. Periodic requests pend or are counted as skipped; TX_TMO ends an ordinary object with RESULT 5. No
course is waiting for the object's frame to end; without a frame, a period or a limit nothing happens. The model's
choices: when a mode acts (log entry 1501), overlapping fields (log entry 1502), a SEND or CANCEL latched during an
attempt (log entries 1504 and 1505), what a submission replaces (log entry 1506), which periodic requests are due (log
entry 1510), and priority (log entries 1511 and 1512). (R529, R530, R531, R532, R534, R535, R536, R537, R538, R539,
R540, R542) -/
def Obligations.CanRequestsAndAttempts : Prop :=
  (∀ (k : Fin 256) (s : State), s.admitsSet (R.CAN_OBJ_CMD k.val) 1 → s.canCfg k.val (F.CAN_OBJ_CFG_DIR k.val) = 1 →
    (s.canActive k.val = true → exec (.canSend k) s = .next (s.put (F.CAN_OBJ_STAT_SENDQ k.val) 1).settled) ∧
    (s.canActive k.val = false → s.flag (F.CAN_OBJ_STAT_PEND k.val) = true → exec (.canSend k) s = .next s.settled) ∧
    (s.canActive k.val = false → s.flag (F.CAN_OBJ_STAT_PEND k.val) = false → s.flag (F.CAN_OBJ_CFG_FDF k.val) = false →
      ∃ t, exec (.canSend k) s = .next t ∧ t.flag (F.CAN_OBJ_STAT_PEND k.val) = true ∧ t.get (F.CAN_OBJ_STAT_RESULT k.val) = 0 ∧
        t.get (F.CAN_OBJ_STAT_ATTEMPTS k.val) = 0 ∧
        t.canObj.get k.val = { s.canObj.get k.val with pendAt := s.clk, tmoDone := false, errs := 0 } ∧
        t = { s with regs := t.regs, canObj := t.canObj, parity := none, lastErr := none } ∧
        s.regsKept t [R.CAN_OBJ_STAT k.val]) ∧
    (s.canActive k.val = false → s.flag (F.CAN_OBJ_STAT_PEND k.val) = false → s.flag (F.CAN_OBJ_CFG_FDF k.val) = true →
      s.flag (F.CAN_CTL_CFG_FDEN (s.get (F.CAN_OBJ_CFG_CTRL k.val))) = false →
      ∃ t, exec (.canSend k) s = .next t ∧ t.flag (F.CAN_OBJ_STAT_PEND k.val) = false ∧ t.get (F.CAN_OBJ_STAT_RESULT k.val) = 4 ∧
        t = { s with regs := t.regs, parity := none, lastErr := none } ∧ s.regsKept t [R.CAN_OBJ_STAT k.val])) ∧
  (∀ (k : Fin 256) (s : State), s.admitsSet (R.CAN_OBJ_CMD k.val) 2 →
    (s.flag (F.CAN_OBJ_STAT_PEND k.val) = false → exec (.canCancel k) s = .next s.settled) ∧
    (s.flag (F.CAN_OBJ_STAT_PEND k.val) = true → s.canActive k.val = true →
      exec (.canCancel k) s = .next ((s.put (F.CAN_OBJ_STAT_CXL k.val) 1).put (F.CAN_OBJ_STAT_SENDQ k.val) 0).settled) ∧
    (s.flag (F.CAN_OBJ_STAT_PEND k.val) = true → s.canActive k.val = false →
      ∃ t, exec (.canCancel k) s = .next t ∧ t.flag (F.CAN_OBJ_STAT_PEND k.val) = false ∧
        t.get (F.CAN_OBJ_STAT_RESULT k.val) = 3 ∧
        t = { s with regs := t.regs, canObj := t.canObj, parity := none, lastErr := none } ∧
        s.regsKept t [R.CAN_OBJ_STAT k.val])) ∧
  (∀ (n : Fin 3) (s : State), s.works .can = true → (s.canCtl.get n.val).mode = 1 → (s.canCtl.get n.val).busOff = false →
    (s.canCtl.get n.val).inFrame = false →
    (∀ k, s.canChoose n.val = some k →
      (s.canIs n.val 1 k = true ∧ s.flag (F.CAN_OBJ_STAT_PEND k) = true ∧ s.canSends n.val k = true ∧
        ∀ j, j < 256 → s.canIs n.val 1 j = true → s.flag (F.CAN_OBJ_STAT_PEND j) = true → s.canSends n.val j = true →
          s.canPriority k ≤ s.canPriority j ∧ (s.canPriority k = s.canPriority j → k ≤ j)) ∧
      ∃ t, exec (.canStartOfFrame n) s = .next t ∧ (t.canCtl.get n.val).active = some k ∧ (t.canCtl.get n.val).inFrame = true ∧
        t.canActive k = true ∧ (t.canObj.get k).att = s.canOwnFrame n.val k ∧ (t.canObj.get k).attSof = s.now ∧
        (t.canObj.get k).attCfg = s.nat (R.CAN_OBJ_CFG k) ∧ t = { s with regs := t.regs, canCtl := t.canCtl, canObj := t.canObj } ∧
        s.regsKept t [R.CAN_OBJ_STAT k]) ∧
    (s.canChoose n.val = none →
      exec (.canStartOfFrame n) s = .next { s with canCtl := s.canCtl.modify n.val (fun c => { c with inFrame := true }) })) ∧
  (∀ (n : Fin 3) (r : CanOutcome) (s : State), (s.canCtl.get n.val).active = none → s.cfg.canLate = [] →
    exec (.canAttemptEnd n r) s = .next s) ∧
  (∀ (n : Fin 3) (s : State), ((s.works .can = false ∨ (s.canCtl.get n.val).mode = 0 ∨ (s.canCtl.get n.val).busOff = true ∨
      (s.canCtl.get n.val).inFrame = true) → exec (.canStartOfFrame n) s = .next s) ∧
    (s.works .can = true → (s.canCtl.get n.val).mode = 2 → (s.canCtl.get n.val).busOff = false →
      (s.canCtl.get n.val).inFrame = false →
      exec (.canStartOfFrame n) s = .next { s with canCtl := s.canCtl.modify n.val (fun c => { c with inFrame := true }) })) ∧
  (∀ (k : Fin 256) (s : State),
    ((s.runs .can = false ∨ s.canCfg k.val (F.CAN_OBJ_CFG_EN k.val) = 0 ∨ s.canCfg k.val (F.CAN_OBJ_CFG_DIR k.val) = 0 ∨
        s.get (F.CAN_OBJ_TIME_PERIOD k.val) = 0) →
      exec (.canPeriodicRequest k) s = .next s) ∧
    ((s.get (F.CAN_OBJ_TMO_TX_TMO k.val) = 0 ∨ s.flag (F.CAN_OBJ_STAT_PEND k.val) = false ∨ (s.canObj.get k.val).tmoDone = true) →
      exec (.txTmo k) s = .next s)) ∧
  (∀ (n : Fin 3) (k : Nat) (s : State), s.kind .can = 1 → (s.canCtl.get n.val).active = some k → k < 256 → s.cfg.canLate = [] →
    (s.canCtl.get n.val).mode = 1 → (s.canCtl.get n.val).txErr ≤ 128 → (s.canCtl.get n.val).rxErr ≤ 127 →
    s.flag (F.CAN_CTL_MIR_TX n.val) = false → (s.canObj.get k).tmoLatch = false →
    ∃ t, exec (.canAttemptEnd n .success) s = .next t ∧ t.canActive k = false ∧
      t.get (F.CAN_OBJ_STAT_RESULT k) = (if s.flag (F.CAN_OBJ_STAT_CXL k) then 2 else 1) ∧
      t.flag (F.CAN_OBJ_STAT_PEND k) = (s.flag (F.CAN_OBJ_STAT_SENDQ k) && !s.flag (F.CAN_OBJ_STAT_CXL k) &&
        !(s.canObj.get k).discard) ∧
      (s.flag (F.CAN_OBJ_STAT_CXL k) = true → s.occurred t 215) ∧ (s.flag (F.CAN_OBJ_STAT_CXL k) = false → t.occ = s.occ) ∧
      t.get (F.CAN_OBJ_CNT_N k) = min (s.get (F.CAN_OBJ_CNT_N k) + 1) 0xFFFF ∧
      t.nat64 (R.CAN_OBJ_T_LO k) = (s.canObj.get k).attSof % 2 ^ 64 ∧ (t.canCtl.get n.val).active = none ∧
      (t.canCtl.get n.val).inFrame = false ∧ (t.canCtl.get n.val).txErr = (s.canCtl.get n.val).txErr - 1 ∧
      t = { s with regs := t.regs, occ := t.occ, canCtl := t.canCtl, canObj := t.canObj } ∧
      s.regsKept t [R.CAN_OBJ_STAT k, R.CAN_OBJ_CNT k, R.CAN_OBJ_T_LO k, R.CAN_OBJ_T_HI k, R.CAN_CTL_STAT n.val, H.evt .can]) ∧
  (∀ (n : Fin 3) (k : Nat) (s : State), (s.canCtl.get n.val).active = some k → s.flag (F.CAN_OBJ_STAT_PEND k) = true →
    (s.canObj.get k).discard = false → (s.canObj.get k).tmoLatch = false → s.cfg.canLate = [] →
    ∃ t, exec (.canAttemptEnd n .lost) s = .next t ∧ t.canActive k = false ∧ (t.canCtl.get n.val).active = none ∧
      t.flag (F.CAN_OBJ_STAT_PEND k) = !s.flag (F.CAN_OBJ_STAT_CXL k) ∧
      (s.flag (F.CAN_OBJ_STAT_CXL k) = true → t.get (F.CAN_OBJ_STAT_RESULT k) = 3) ∧
      (t.canObj.get k).errs = (s.canObj.get k).errs ∧ t.get (F.CAN_OBJ_STAT_CLASHRUN k) = 0 ∧
      t.get (F.CAN_OBJ_STAT_ATTEMPTS k) = min (s.get (F.CAN_OBJ_STAT_ATTEMPTS k) + 1) 255 ∧
      t = { s with regs := t.regs, canCtl := t.canCtl, canObj := t.canObj } ∧ s.regsKept t [R.CAN_OBJ_STAT k]) ∧
  (∀ (n : Fin 3) (k w te again : Nat) (lec : BitVec 3) (data arb : Bool) (s : State), s.kind .can = 1 →
    (s.canCtl.get n.val).active = some k → k < 256 → s.flag (F.CAN_OBJ_STAT_PEND k) = true → s.flag (F.CAN_OBJ_STAT_CXL k) = false →
    s.flag (F.CAN_OBJ_STAT_SENDQ k) = false → (s.canObj.get k).discard = false → (s.canObj.get k).tmoLatch = false →
    w = (s.canObj.get k).attCfg → s.cfg.canLate = [] →
    te = (s.canCtl.get n.val).txErr + (if lec.toNat = 3 ∧ (s.canCtl.get n.val).passive = true ∨ lec.toNat = 1 ∧ arb = true then 0 else 8) +
      8 * again →
    ∃ t, exec (.canAttemptEnd n (.error lec data arb again)) s = .next t ∧ t.canActive k = false ∧
      t.flag (F.CAN_OBJ_STAT_PEND k) = (nbit w 29 || decide ((s.canObj.get k).errs + 1 ≤ w / 2 ^ 16 % 256)) ∧
      (t.flag (F.CAN_OBJ_STAT_PEND k) = false → t.get (F.CAN_OBJ_STAT_RESULT k) = 4) ∧
      t.get (F.CAN_OBJ_STAT_ATTEMPTS k) = min (s.get (F.CAN_OBJ_STAT_ATTEMPTS k) + 1) 255 ∧
      t.get (F.CAN_CTL_CNT_ERR n.val) = min (s.get (F.CAN_CTL_CNT_ERR n.val) + 1) 0xFFFF ∧
      t.get (F.CAN_CTL_LEC_LEC n.val) = lec.toNat ∧ t.get (F.CAN_CTL_LEC_OBJ n.val) = k ∧
      (t.canCtl.get n.val).txErr = te ∧ (t.canCtl.get n.val).inFrame = false ∧
      (t.canCtl.get n.val).busOff = ((s.canCtl.get n.val).busOff || decide (255 < te)) ∧
      ((s.canCtl.get n.val).busOff = false → 255 < te → t.flag (evBit (209 + n.val)) = true ∧
        t.get (F.CAN_CTL_CNT_BUSOFF n.val) = min (s.get (F.CAN_CTL_CNT_BUSOFF n.val) + 1) 0xFFFF) ∧
      (data = true → (lec.toNat = 4 ∨ lec.toNat = 5) → s.get (F.CAN_OBJ_STAT_CLASHRUN k) = 2 →
        t.flag (evBit 213) = true ∧ t.flag (F.CAN_CTL_CLASH_VALID n.val) = true ∧ t.get (F.CAN_CTL_CLASH_OBJ n.val) = k ∧
        t.get (F.CAN_OBJ_STAT_CLASHRUN k) = 0) ∧
      t = { s with regs := t.regs, occ := t.occ, canCtl := t.canCtl, canObj := t.canObj }) ∧
  (∀ (k : Fin 256) (s : State), s.runs .can = true → s.canCfg k.val (F.CAN_OBJ_CFG_EN k.val) = 1 →
    s.canCfg k.val (F.CAN_OBJ_CFG_DIR k.val) = 1 → s.get (F.CAN_OBJ_TIME_PERIOD k.val) ≠ 0 →
    s.now % (s.get (F.CAN_OBJ_TIME_PERIOD k.val) * 16000) = s.get (F.CAN_OBJ_TIME_PHASE k.val) * 16000 →
    ((s.flag (F.CAN_OBJ_STAT_PEND k.val) = true ∨ s.canActive k.val = true) →
      exec (.canPeriodicRequest k) s = .next (s.count (F.CAN_OBJ_CNT_SKIP k.val) 1)) ∧
    (s.flag (F.CAN_OBJ_STAT_PEND k.val) = false → s.canActive k.val = false → s.flag (F.CAN_OBJ_CFG_FDF k.val) = false →
      ∃ t, exec (.canPeriodicRequest k) s = .next t ∧ t.flag (F.CAN_OBJ_STAT_PEND k.val) = true ∧
        t = { s with regs := t.regs, canObj := t.canObj } ∧ s.regsKept t [R.CAN_OBJ_STAT k.val])) ∧
  (∀ (k : Fin 256) (s : State), s.kind .can = 1 → s.get (F.CAN_OBJ_TMO_TX_TMO k.val) ≠ 0 →
    s.flag (F.CAN_OBJ_STAT_PEND k.val) = true → (s.canObj.get k.val).tmoDone = false → s.canActive k.val = false →
    s.passed (s.canObj.get k.val).pendAt (s.get (F.CAN_OBJ_TMO_TX_TMO k.val) * msec) = true →
    ∃ t, exec (.txTmo k) s = .next t ∧ s.occurred t 217 ∧ (t.canObj.get k.val).tmoDone = true ∧
      t.flag (F.CAN_OBJ_STAT_PEND k.val) = s.canPriv k.val ∧
      (s.canPriv k.val = false → t.get (F.CAN_OBJ_STAT_RESULT k.val) = 5) ∧
      t = { s with regs := t.regs, occ := t.occ, canObj := t.canObj } ∧ s.regsKept t [R.CAN_OBJ_STAT k.val, H.evt .can])

/-- A received frame is taken by the lowest-numbered matching receive object, remote frames by none; the taker stores
it and sets NEW, and over an unread frame OVR with its event; one that no object takes is counted. An error heard
counts. A read of RXHDR copies the stored frame into the read copy and clears NEW and OVR. RX_TMO sets RXTO, and
raises SPD_MSG_LOST once for a decoded speed. REC_REQ starts recovery of a controller in bus-off; its end clears the
counters and raises BUS_ON. Once the outputs are released, a mode written takes effect at once between frames, else
after the frame. A message in LANE9 for an eligible object sets identifier, length and data and sends. A field command
writes its object's field and, where it changes and TRIG_CHG is set, sends. A controller in INIT or bus-off hears
nothing, and no limit, entry or point means no effect. The model's choices: when a mode acts (log entry 1501), a
decoded speed that is not usable (log entry 1507), the receive time-out (log entry 1508), and the steps of the error
counters after ISO 11898-1 (log entry 1509). (R526, R528, R540, R541, R543, R544, R545, R546, R548, R549, R550) -/
def Obligations.CanReceptionModesAndFields : Prop :=
  (∀ (n : Fin 3) (f : CanFrame) (sof : BitVec 64) (s : State), s.works .can = true →
    ((s.canCtl.get n.val).mode = 1 ∨ (s.canCtl.get n.val).mode = 2) → (s.canCtl.get n.val).busOff = false →
    (s.canCtl.get n.val).active = none → f.fdf = false → (s.canCtl.get n.val).rxErr ≤ 127 → (s.canCtl.get n.val).txErr ≤ 127 →
    s.flag (F.CAN_CTL_MIR_RX_ALL n.val) = false → s.flag (F.CAN_CTL_MIR_RX_OBJ n.val) = false →
    (f.rtr = true → s.canTaker n.val f = none) ∧
    (∀ k, s.canTaker n.val f = some k → s.get (F.CAN_OBJ_CFG_DECODE k) = 0 →
      (k < 256 ∧ s.canMatches n.val k f = true ∧ ∀ j, j < k → s.canMatches n.val j f = false) ∧
      ∃ t, exec (.canFrameReceived n (.frame f sof)) s = .next t ∧
        t.canObj.get k = { s.canObj.get k with
          stored := { f with data := padTo (dlcBytes f.fdf f.dlc.toNat) f.data }, storedT := sof.toNat, storedAt := s.clk } ∧
        (∀ j, j ≠ k → t.canObj.get j = s.canObj.get j) ∧ t.flag (F.CAN_OBJ_RXHDR_NEW k) = true ∧
        t.flag (F.CAN_OBJ_STAT_RXTO k) = false ∧ t.get (F.CAN_OBJ_CNT_N k) = min (s.get (F.CAN_OBJ_CNT_N k) + 1) 0xFFFF ∧
        (s.flag (F.CAN_OBJ_RXHDR_NEW k) = false → t.occ = s.occ) ∧
        (s.flag (F.CAN_OBJ_RXHDR_NEW k) = true → s.occurred t 214 ∧ t.flag (F.CAN_OBJ_RXHDR_OVR k) = true) ∧
        t = { s with regs := t.regs, occ := t.occ, canCtl := t.canCtl, canObj := t.canObj } ∧
        s.regsKept t [R.CAN_OBJ_RXHDR k, R.CAN_OBJ_STAT k, R.CAN_OBJ_CNT k, R.CAN_CTL_STAT n.val, H.evt .can]) ∧
    (s.canTaker n.val f = none →
      ∃ t, exec (.canFrameReceived n (.frame f sof)) s = .next t ∧
        t.get ⟨R.CAN_CTL_RXNM n.val, 0, 16⟩ = min (s.get ⟨R.CAN_CTL_RXNM n.val, 0, 16⟩ + 1) 0xFFFF ∧
        t = { s with regs := t.regs, canCtl := t.canCtl } ∧ s.regsKept t [R.CAN_CTL_RXNM n.val, R.CAN_CTL_STAT n.val]) ∧
    (∀ (lec : BitVec 3) (heavy : Bool) (again : Nat), ∃ t, exec (.canFrameReceived n (.error lec heavy again)) s = .next t ∧
      (t.canCtl.get n.val).rxErr = (s.canCtl.get n.val).rxErr + (if heavy then 8 else 1) + 8 * again ∧
      t.get (F.CAN_CTL_LEC_LEC n.val) = lec.toNat ∧
      t.get (F.CAN_CTL_CNT_ERR n.val) = min (s.get (F.CAN_CTL_CNT_ERR n.val) + 1) 0xFFFF ∧
      t = { s with regs := t.regs, occ := t.occ, canCtl := t.canCtl })) ∧
  (∀ (k : Fin 256) (s : State), 4 ≤ s.phaseOf → s.served (R.CAN_OBJ_RXHDR k.val) = true →
    s.canCfg k.val (F.CAN_OBJ_CFG_DIR k.val) = 0 →
    ∃ t, exec (.canRxhdrRead k) s = .next t ∧ t.lastErr = none ∧ t.flag (F.CAN_OBJ_RXHDR_NEW k.val) = false ∧
      t.flag (F.CAN_OBJ_RXHDR_OVR k.val) = false ∧ t.get (F.CAN_OBJ_RXHDR_ID k.val) = (s.canObj.get k.val).stored.id.toNat ∧
      t.flag (F.CAN_OBJ_RXHDR_IDE k.val) = (s.canObj.get k.val).stored.ide ∧
      t.get (F.CAN_OBJ_RXINFO_DLC k.val) = (s.canObj.get k.val).stored.dlc.toNat ∧
      t.canData k.val = padTo 64 (s.canObj.get k.val).stored.data ∧ t.canObj = s.canObj ∧
      t = { s with regs := t.regs, lastErr := none } ∧
      s.regsKept t ([R.CAN_OBJ_RXHDR k.val, R.CAN_OBJ_RXINFO k.val, R.CAN_OBJ_T_LO k.val, R.CAN_OBJ_T_HI k.val] ++
        (List.range 16).map (R.CAN_OBJ_DATA k.val))) ∧
  (∀ (k : Fin 256) (s : State), s.get (F.CAN_OBJ_TMO_RX_TMO k.val) ≠ 0 → s.runs .can = true →
    s.canCfg k.val (F.CAN_OBJ_CFG_EN k.val) = 1 → s.canCfg k.val (F.CAN_OBJ_CFG_DIR k.val) = 0 →
    (s.get (F.CAN_OBJ_CFG_DECODE k.val) = 0 →
      s.passed (s.canObj.get k.val).storedAt (s.get (F.CAN_OBJ_TMO_RX_TMO k.val) * msec) = true →
      exec (.canRxTimeout k) s = .next (s.put (F.CAN_OBJ_STAT_RXTO k.val) 1)) ∧
    (s.get (F.CAN_OBJ_CFG_DECODE k.val) = 1 → (s.canObj.get k.val).spdLost = false →
      s.passed (s.canObj.get k.val).usableAt (s.get (F.CAN_OBJ_TMO_RX_TMO k.val) * msec) = true →
      ∃ t, exec (.canRxTimeout k) s = .next t ∧ s.occurred t 216 ∧ (t.canObj.get k.val).spdLost = true ∧
        t = { s with regs := t.regs, occ := t.occ, canObj := t.canObj })) ∧
  (∀ (n : Fin 3) (h : CanHeard) (k : Fin 256) (s : State),
    ((s.works .can = false ∨ (s.canCtl.get n.val).mode = 0 ∨ (s.canCtl.get n.val).mode = 3 ∨ (s.canCtl.get n.val).busOff = true ∨
      (s.canCtl.get n.val).active ≠ none) → exec (.canFrameReceived n h) s = .next s) ∧
    ((s.canCtl.get n.val).busOff = false ∨ (s.canCtl.get n.val).recover = false → exec (.busOn n) s = .next s) ∧
    (s.get (F.CAN_OBJ_TMO_RX_TMO k.val) = 0 → exec (.canRxTimeout k) s = .next s) ∧
    ((s.laneIn 9 = false ∨ s.works .can = false ∨ s.laneLevel 9 = 0) → exec .canSubmitEntry s = .next s) ∧
    exec (.canFieldCommand []) s = .next s) ∧
  (∀ (n : Fin 3) (s : State), s.admitsSet (R.CAN_CTL_CMD n.val) 1 → exec (.canRecReq n) s = .next (State.settled
    (if (s.canCtl.get n.val).busOff then { s with canCtl := s.canCtl.modify n.val (fun c => { c with recover := true }) } else s))) ∧
  (∀ (n : Fin 3) (s : State), s.kind .can = 1 → (s.canCtl.get n.val).busOff = true → (s.canCtl.get n.val).recover = true →
    (s.canCtl.get n.val).mode ≠ 0 →
    ∃ t, exec (.busOn n) s = .next t ∧ s.occurred t 218 ∧ t.get (F.CAN_CTL_STAT_FSTATE n.val) = 0 ∧
      t.canCtl.get n.val = { s.canCtl.get n.val with
        busOff := false, recover := false, passive := false, txErr := 0, rxErr := 0 } ∧
      t = { s with regs := t.regs, occ := t.occ, canCtl := t.canCtl } ∧ s.regsKept t [R.CAN_CTL_STAT n.val, H.evt .can]) ∧
  (∀ (n : Fin 3) (v : Word) (s : State), s.admitsSet (R.CAN_CTL_CFG n.val) v.toNat → s.runs .can = true → s.released = true →
    (s.canCtl.get n.val).held = false → s.flag F.PWR_STAT_VIO_OK = true → s.get (F.CAN_CTL_CFG_MODE n.val) ≠ v.toNat % 4 →
    ∃ t, exec (.canModeWrite n v) s = .next t ∧ t.lastErr = none ∧ t.get (F.CAN_CTL_CFG_MODE n.val) = v.toNat % 4 ∧
      (t.canCtl.get n.val).mode = (if (s.canCtl.get n.val).inFrame then (s.canCtl.get n.val).mode else v.toNat % 4) ∧
      t = { s with regs := t.regs, canCtl := t.canCtl, parity := none, lastErr := none } ∧
      s.regsKept t [R.CAN_CTL_CFG n.val, R.CAN_CTL_STAT n.val]) ∧
  (∀ (s u : State) (e : List Byte) (k dlc : Nat), s.laneIn 9 = true → s.runs .can = true → u = s.laneSkip 9 (s.laneLevel 9) →
    u.laneLevel 9 ≠ 0 → e = u.bytes (u.laneSlot 9 (u.get (F.LANE_TAIL_TAIL 9))) 64 → e.getD 2 0 = 0xC2 →
    nbit (e.getD 3 0).toNat 0 = true → k = (e.getD 8 0).toNat → dlc = (e.getD 10 0).toNat % 16 → dlc ≤ 8 →
    u.canCfg k (F.CAN_OBJ_CFG_EN k) = 1 → u.canCfg k (F.CAN_OBJ_CFG_DIR k) = 1 → u.canPriv k = false →
    u.flag (F.CAN_OBJ_STAT_PEND k) = false → u.canActive k = false → u.flag (F.CAN_OBJ_CFG_FDF k) = false →
    ∃ t, exec .canSubmitEntry s = .next t ∧ t.flag (F.CAN_OBJ_STAT_PEND k) = true ∧ t.get (F.CAN_OBJ_CFG_DLC k) = dlc ∧
      t.get (F.CAN_OBJ_ID k) =
        (if nbit (e.getD 9 0).toNat 0 then leNat ((e.drop 12).take 4) % 2 ^ 29 else u.get (F.CAN_OBJ_ID k)) ∧
      t.canData k = padTo 64 ((e.drop 16).take dlc) ∧
      t.get (F.LANE_TAIL_TAIL 9) = u.laneNext 9 (u.get (F.LANE_TAIL_TAIL 9)) % 2 ^ 14 ∧ t.mem = s.mem) ∧
  (∀ (p : Fin 128) (on : Bool) (k o w v : Nat) (s : State), s.works .can = true → s.get (F.GEO_PT_BIND_KIND p.val) = 3 →
    (s.str.points.get p.val).queue = [] → (s.str.points.get p.val).planOn = false → (s.geo.points.get p.val).cross = 0 →
    k = s.get (F.GEO_PT_BIND_INST p.val) → o = s.get (F.GEO_PT_BIND_BITOFS p.val) → w = s.get (F.GEO_PT_BIND_WIDTH p.val) + 1 →
    o + w ≤ 512 → v = (if on then s.get (F.GEO_PT_CANVAL_ONVAL p.val) else s.get (F.GEO_PT_CANVAL_OFFVAL p.val)) →
    ∃ t, exec (.canFieldCommand [(p, on)]) s = .next t ∧ canBits (t.canData k) o w = v % 2 ^ w ∧
      (s.flag (F.CAN_OBJ_CFG_TRIG_CHG k) = false → t.flag (F.CAN_OBJ_STAT_PEND k) = s.flag (F.CAN_OBJ_STAT_PEND k)) ∧
      (s.flag (F.CAN_OBJ_CFG_TRIG_CHG k) = true → canBits (s.canData k) o w ≠ v % 2 ^ w →
        s.canCfg k (F.CAN_OBJ_CFG_DIR k) = 1 → s.canActive k = false → s.flag (F.CAN_OBJ_CFG_FDF k) = false →
        t.flag (F.CAN_OBJ_STAT_PEND k) = true))

/-- Whatever asks for a device reset (RESET_N, a watchdog expiry, SOFT_RESET of the SYS region, a rail fault), the
sequence number E that the module expects is 0x00 and its reply cache is empty afterwards, for every originator. A
port that loses lock, retrains, is declared down (and so wraps) or comes back up leaves E and the cache of every
originator as they were. (R68) -/
def Obligations.ResetEmptiesTheReplyCache : Prop :=
  (∀ (i : Instr) (s : State),
    ((i = .resetNAssert ∧ s.pwr.held = false ∧ s.phaseOf ≠ 0) ∨ (i = .deviceReset ∧ s.pwr.softAt.isSome = true) ∨
      (i = .watchdogExpiry ∧ 3 ≤ s.phaseOf) ∨ (i = .railFault ∧ s.flag F.PWR_STAT_RAILS_OK = true ∧ s.flag F.PWR_STAT_VBAT_OK = true ∧ s.pwr.held = false)) →
    ∃ t, exec i s = .next t ∧ t.link.host.exp = 0 ∧ t.link.host.cache = [] ∧ t.link.lead.exp = 0 ∧ t.link.lead.cache = []) ∧
  (∀ (i : Instr) (p : Port) (l : LinkProbe) (s : State), (i = .portLoseLock p ∨ i = .retrainDone p l ∨ i = .portDown p ∨ i = .portUp p l) →
    ∃ t, exec i s = .next t ∧ t.link.host = s.link.host ∧ t.link.lead = s.link.lead)

/-- An MRC count within 10 % of nominal passes, another fails; two in a row verify MRC or take its verification away
with CLK_FAIL. With MRC verified, clock start-up locks the PLLs to it and awaits XO; after a trim two more passes arm
the fallback. Eight good counts verify XO, and in start-up move the PLLs to it and trim MRC. A count that does not
trip joins the last second. A trip or edge loss with the fallback armed enters fallback on MRC with CLK_FB; not armed,
it is a start-up trip: its cause, one more attempt, PU1 with outputs off but for held switches, the firmware stopped,
and XO_RETRY; in that fallback it only loses the verification. No XO within 100 ms starts on MRC in fallback. RETURN
with XO verified leaves fallback, and trims MRC first where the fallback is not armed; else it does nothing. MRC is
measured against XO, and in fallback corrects the time base. Without power, a verified XO or its wait there is no
count, trip or timeout. The model's choices: which counts verify and trip (log entries 1603 and 1605), a trip in
fallback (log entry 1604), a late XO's trip count (log entry 1601), the slope and the trim of a RETURN (log entry
1602), and what a start in fallback holds (log entry 1608). (R561, R562, R563, R567, R568, R570, R571, R572) -/
def Obligations.ClockMonitorsAndFallback : Prop :=
  (∀ (n : BitVec 17) (s : State), s.powered = true → s.clocks.step ≠ 1 → s.clocks.step ≠ 5 → s.kind .clk = 1 →
    (56250 ≤ n.toNat → n.toNat ≤ 68750 →
      ∃ t, exec (.mrcCheck n) s = .next t ∧ t.get F.CLK_MRC_MEAS = n.toNat ∧ t.clocks.passes = min (s.clocks.passes + 1) 2 ∧
        t.clocks.fails = 0 ∧ t.flag F.CLK_STAT_MRC_OK = (s.flag F.CLK_STAT_MRC_OK || decide (1 ≤ s.clocks.passes)) ∧
        t = { s with regs := t.regs, clocks := t.clocks } ∧ s.regsKept t [R.CLK_MRC_MEAS, R.CLK_STAT]) ∧
    (n.toNat < 56250 ∨ 68750 < n.toNat →
      ∃ t, exec (.mrcCheck n) s = .next t ∧ t.get F.CLK_MRC_MEAS = n.toNat ∧ t.clocks.fails = min (s.clocks.fails + 1) 2 ∧
        t.clocks.passes = 0 ∧ t.flag F.CLK_STAT_MRC_OK = (s.flag F.CLK_STAT_MRC_OK && decide (s.clocks.fails = 0)) ∧
        (t.flag F.CLK_STAT_MRC_OK ≠ s.flag F.CLK_STAT_MRC_OK → s.occurred t 3) ∧
        t = { s with regs := t.regs, occ := t.occ, clocks := t.clocks } ∧
        s.regsKept t [R.CLK_MRC_MEAS, R.CLK_STAT, H.evt .clk])) ∧
  (∀ (n : BitVec 17) (s : State), s.powered = true → s.clocks.step = 1 → 1 ≤ s.clocks.passes → s.get F.CLK_START_ATT < 3 →
    56250 ≤ n.toNat → n.toNat ≤ 68750 →
    ∃ t, exec (.mrcCheck n) s = .next t ∧ t.clocks.step = 3 ∧ t.clocks.xoAt = s.clk ∧ t.get F.CLK_STAT_REFMRC = 0x17 ∧
      t.get F.CLK_STAT_LOCK = 0x17 ∧
      ∀ i, i < 12 → i ≠ 6 → s.gated i = false → (∀ x ∈ s.clocks.gateAt, x.1 ≠ i) → t.islSt i = 0) ∧
  (∀ (n : BitVec 17) (s : State), s.powered = true → s.clocks.step = 5 → s.flag F.CLK_STAT_XO_OK = true → 1 ≤ s.clocks.trimPasses →
    56250 ≤ n.toNat → n.toNat ≤ 68750 →
    ∃ t, exec (.mrcCheck n) s = .next t ∧ t.flag F.CLK_STAT_FBARM = true ∧ t.clocks.step = 7) ∧
  (∀ (c e : BitVec 16) (r : BitVec 10) (l : List Nat) (s : State), s.powered = true → 3 ≤ s.clocks.step →
    l = (c.toNat :: s.clocks.counts).take 8 →
    (∀ d, s.flag F.CLK_STAT_XO_OK = true → xoTrips (s.xoRecent.map Prod.snd) s.clocks.devs c.toNat = (false, d) →
      ∃ t, exec (.xoCount c r e) s = .next t ∧ t.get F.CLK_XO_MEAS_CNT = c.toNat ∧
        t.clocks = { s.clocks with counts := l, devs := d, hist := (s.clk, c.toNat) :: s.xoRecent } ∧
        t = { s with regs := t.regs, clocks := t.clocks } ∧ s.regsKept t [R.CLK_XO_MEAS]) ∧
    (s.flag F.CLK_STAT_XO_OK = false → xoGood l = true → s.clocks.step = 3 →
      s.flag F.CLK_STAT_FB = false →
      ∃ t, exec (.xoCount c r e) s = .next t ∧ t.flag F.CLK_STAT_XO_OK = true ∧ t.clocks.step = 5 ∧
        t.get F.CLK_MRC_TRIM_CODE = r.toNat ∧ t.get F.CLK_MRC_TRIM_ERR = e.toNat ∧ t.get F.CLK_STAT_REFMRC = 0)) ∧
  (∀ (i : Instr) (c e : BitVec 16) (r : BitVec 10) (s : State), s.kind .clk = 1 → s.flag F.CLK_STAT_XO_OK = true →
    (i = .xoEdgeLoss ∨ (i = .xoCount c r e ∧ s.powered = true ∧ 3 ≤ s.clocks.step ∧
      (xoTrips (s.xoRecent.map Prod.snd) s.clocks.devs c.toNat).1 = true)) →
    (s.flag F.CLK_STAT_FB = false → s.flag F.CLK_STAT_FBARM = true → s.flag F.CLK_STAT_MRC_OK = true →
      ∃ t, exec i s = .next t ∧ t.flag F.CLK_STAT_FB = true ∧ t.flag F.CLK_STAT_XO_OK = false ∧ t.get F.CLK_STAT_REFMRC = 0x17 ∧
        t.flag (evBit 4) = true ∧ t.get F.CLK_TRIPS_N = min (s.get F.CLK_TRIPS_N + 1) 0xFFFF ∧ 6 ∈ t.clocks.stopReq ∧
        ∀ n, n < 3 → (t.canCtl.get n).held = true ∧ ((s.canCtl.get n).inFrame = false → s.runs .can = true →
          s.flag F.PWR_STAT_VIO_OK = true → s.released = true →
          (t.canCtl.get n).mode = if s.flag (F.CAN_CTL_CFG_FBRUN n) then s.get (F.CAN_CTL_CFG_MODE n) else 0)) ∧
    (s.flag F.CLK_STAT_FB = true → s.flag F.CLK_STAT_FBARM = true → s.flag F.CLK_STAT_MRC_OK = true →
      ∃ t, exec i s = .next t ∧ t.flag F.CLK_STAT_XO_OK = false ∧ t = { s with regs := t.regs, clocks := t.clocks } ∧
        s.regsKept t [R.CLK_STAT, R.CLK_XO_MEAS]) ∧
    ((s.flag F.CLK_STAT_FBARM && s.flag F.CLK_STAT_MRC_OK) = false → s.clocks.step ≠ 8 →
      ∃ t, exec i s = .next t ∧ t.flag F.CLK_STAT_XO_OK = false ∧ t.flag F.CLK_STAT_FBARM = false ∧ t.phaseOf = 1 ∧ t.sec.running = false ∧
        t.flag F.PWR_STAT_OUTREL = false ∧ t.get F.CLK_START_CAUSE = (if s.flag F.CLK_STAT_MRC_OK then 1 else 2) ∧
        t.get F.CLK_START_ATT = min (s.get F.CLK_START_ATT + 1) 3 ∧ t.flag (evBit 5) = true ∧ t.clocks.step = 1 ∧
        (∀ n, n < 96 → t.phase n = 0 ∨ t.phase n = 6) ∧
        ∀ k, k < 24 → s.hswHere k = true → s.limped k = false →
          t.hswOut k = (s.hswOut k && s.flag (F.HSW_CH_STAT_HELD k)))) ∧
  (∀ s : State, s.kind .clk = 1 → s.clocks.step = 3 → s.flag F.CLK_STAT_XO_OK = false → s.passed s.clocks.xoAt (100 * msec) = true →
    s.islSt 6 ≠ 2 →
    ∃ t, exec .xoVerifyTimeout s = .next t ∧ t.clocks.step = 6 ∧ t.flag F.CLK_STAT_FB = true ∧ t.flag (evBit 4) = true ∧
      t.islSt 6 = 1 ∧ t.gnss.stopped = true) ∧
  (∀ (v : Word) (s : State), s.admitsSet R.CLK_CTRL (v.toNat ||| 2) →
    (s.flag F.CLK_STAT_FB = true → s.flag F.CLK_STAT_XO_OK = true → s.clocks.step ≠ 8 → s.flag F.CLK_STAT_FBARM = true →
      ∃ t, exec (.clkReturn v) s = .next t ∧ t.lastErr = none ∧ t.flag F.CLK_STAT_FB = false ∧ t.get F.CLK_STAT_REFMRC = 0 ∧
        t.flag F.CLK_CTRL_AUTORET = v.getLsbD 0 ∧ ∀ n, n < 3 → (t.canCtl.get n).held = false) ∧
    (s.flag F.CLK_STAT_FB = true → s.flag F.CLK_STAT_XO_OK = true → s.clocks.step ≠ 8 → s.flag F.CLK_STAT_FBARM = false →
      ∃ t, exec (.clkReturn v) s = .next t ∧ t.lastErr = none ∧ t.flag F.CLK_STAT_FB = false ∧ t.clocks.step = 5 ∧
        t.clocks.trimPasses = 0) ∧
    ((s.flag F.CLK_STAT_FB && s.flag F.CLK_STAT_XO_OK) = false ∨ s.clocks.step = 8 →
      ∃ t, exec (.clkReturn v) s = .next t ∧ t.flag F.CLK_CTRL_AUTORET = v.getLsbD 0 ∧
        t = { s with regs := t.regs, parity := none, lastErr := none } ∧ s.regsKept t [R.CLK_CTRL])) ∧
  (∀ (n : BitVec 17) (c e : BitVec 16) (r : BitVec 10) (s : State),
    (s.powered = false → exec (.mrcCheck n) s = .next s ∧ exec (.xoCount c r e) s = .next s) ∧
    (s.flag F.CLK_STAT_XO_OK = false → exec .xoEdgeLoss s = .next s) ∧
    ((s.clocks.step ≠ 3 ∨ s.flag F.CLK_STAT_XO_OK = true) → exec .xoVerifyTimeout s = .next s)) ∧
  (∀ (f : Word) (x : Int) (s : State),
    (s.flag F.CLK_STAT_FB = false → s.flag F.CLK_STAT_XO_OK = false → exec (.mrcFreqMeasure f x) s = .next s) ∧
    (s.flag F.CLK_STAT_FB = true → exec (.mrcFreqMeasure f x) s = .next { s with clocks := { s.clocks with
      corr := s.clocks.freq + (if s.flag F.CLK_MRC_TC_VALID
        then divOpen 563 (s.gets F.CLK_MRC_TC_TC * (x - s.clocks.lastTemp)) 10 else 0) } }) ∧
    (s.flag F.CLK_STAT_FB = false → s.flag F.CLK_STAT_XO_OK = true →
      ∃ t, exec (.mrcFreqMeasure f x) s = .next t ∧ t.word R.CLK_MRC_FREQ = f ∧ t.clocks.lastTemp = x ∧
        t.clocks.freq = f.toInt ∧
        s.regsKept t [R.CLK_MRC_FREQ, R.CLK_MRC_TC]))

/-- An island asked to stop stops at its boundary, and the blocks that work in it with it. A PLL that loses lock is
counted and reported, and its islands are asked to stop; a relock within 1 ms restarts them, a later one is a start-up
trip of cause 3. A gate request written makes its running island gate pending, one withdrawn ungates it (ISL_GNSS of a
satellite stays gated), though nothing but its clock makes a stopped one run; the gate is taken at an idle point, and
abandoned, counted and reported where none comes in time. Each AVS step raises the rail by 5 mV below the wanted
margin, lowers it by 5 mV above the margin plus 3 %, reports a margin too low for 10 ms at 0.90 V once, and holds 0.90
V while AVS is off; steps are 100 µs apart, and the rail holds while a PLL changes its reference, whereas a good
margin ends the 10 ms then too. A modulation period takes RATE and DEPTH as they stand, none while the block is
disabled. What nothing asks for does not happen. The model's choices: what CLK_ISL_STAT shows (log entries 1606 and
1609), ISL_GNSS in fallback (log entry 1608), a block over a stopped clock (log entry 1610), and AVS_LIM with EN = 0
and in the safe course (log entry 1607). (R566, R573, R574, R575, R576, R577, R578) -/
def Obligations.PllsGatesAndTheCoreRail : Prop :=
  (∀ (i : Fin 12) (s : State), i.val ∈ s.clocks.stopReq → i.val ∉ [6, 10, 11] → s.islSt i.val ≠ 2 →
    ∃ t, exec (.islandStop i) s = .next t ∧ t.islSt i.val = 1 ∧
      t.clocks = { s.clocks with
        stopReq := s.clocks.stopReq.filter (fun j => j != i.val), halted := i.val :: s.clocks.halted.filter (fun j => j != i.val) } ∧
      t = { s with clocks := t.clocks } ∧ ∀ b, workIsland b = some i.val → t.works b = false) ∧
  (∀ (d : Fin 2) (i : Fin 12) (s : State), i.val = 10 + d.val → i.val ∈ s.clocks.stopReq → s.islSt i.val ≠ 2 →
    ∃ t, exec (.islandStop i) s = .next t ∧ t.islSt i.val = 1 ∧
      t.flag (if d = 0 then F.PWR_STAT_DSAFE_A else F.PWR_STAT_DSAFE_B) = true) ∧
  (∀ (p : Fin 5) (s : State), s.kind .clk = 1 → nbit (s.get F.CLK_STAT_LOCK) p.val = true → s.refOk p.val = true →
    ∃ t, exec (.pllUnlk p) s = .next t ∧ nbit (t.get F.CLK_STAT_LOCK) p.val = false ∧ s.occurred t 6 ∧
      t.flag ⟨H.sticky .clk, 1, 1⟩ = true ∧ t.get F.CLK_TRIPS_PLL = min (s.get F.CLK_TRIPS_PLL + 1) 0xFFFF ∧
      (∀ i ∈ islandsOf p.val, i ∈ t.clocks.stopReq) ∧ t.clocks.pllLost = s.clocks.pllLost ++ [(p.val, s.clk)] ∧
      t = { s with regs := t.regs, occ := t.occ, clocks := t.clocks } ∧
      s.regsKept t [R.CLK_STAT, R.CLK_TRIPS, H.evt .clk, H.sticky .clk]) ∧
  (∀ (p : Fin 5) (x : Nat × Nat) (s : State), s.clocks.pllLost.find? (fun y => y.1 == p.val) = some x →
    (s.clk ≤ x.2 + msec → (p.val = 3 → s.flag F.CLK_STAT_FB = false) →
      ∃ t, exec (.pllRelock p) s = .next t ∧ nbit (t.get F.CLK_STAT_LOCK) p.val = true ∧
        (∀ y ∈ t.clocks.pllLost, y.1 ≠ p.val) ∧ ∀ i ∈ islandsOf p.val, t.islSt i ≠ 1 ∧ i ∉ t.clocks.stopReq) ∧
    (x.2 + msec ≤ s.clk → s.kind .clk = 1 → s.clocks.step ≠ 8 →
      ∃ t, exec (.pllRelockTimeout p) s = .next t ∧ t.phaseOf = 1 ∧ t.flag F.PWR_STAT_OUTREL = false ∧
        t.get F.CLK_START_CAUSE = 3 ∧ t.flag (evBit 5) = true ∧ t.clocks.step = 1)) ∧
  (∀ (v : Word) (i : Nat) (s : State), s.admitsSet R.CLK_GATE_REQ v.toNat → i ∈ [6, 8, 9] →
    ∃ t, exec (.clkGateRequest v) s = .next t ∧ t.lastErr = none ∧ nbit (t.nat R.CLK_GATE_REQ) i = v.getLsbD i ∧
      (v.getLsbD i = true → nbit (s.nat R.CLK_GATE_REQ) i = false → (i, s.clk) ∈ t.clocks.gateAt ∧
        (s.gated i = false → s.halted i = false → s.islClocked i = true → t.islSt i = 3)) ∧
      (v.getLsbD i = false → nbit (s.nat R.CLK_GATE_REQ) i = true → (i ≠ 6 ∨ s.isSat = false) →
        t.gated i = false ∧ t.islSt i = (if s.halted i = true ∨ s.islClocked i = false then 1 else 0)) ∧
      t = { s with regs := t.regs, clocks := t.clocks, parity := none, lastErr := none } ∧
      s.regsKept t [R.CLK_GATE_REQ, R.CLK_GATE_STAT]) ∧
  (∀ (p : Fin 5) (i : Fin 12) (m : BitVec 8) (s : State),
    (i.val ∉ s.clocks.stopReq → exec (.islandStop i) s = .next s) ∧
    ((nbit (s.get F.CLK_STAT_LOCK) p.val = false ∨ s.refOk p.val = false) → exec (.pllUnlk p) s = .next s) ∧
    (s.clocks.pllLost.find? (fun y => y.1 == p.val) = none →
      exec (.pllRelock p) s = .next s ∧ exec (.pllRelockTimeout p) s = .next s) ∧
    (s.clocks.gateAt.find? (fun y => y.1 == i.val) = none → exec (.clkGateTake i) s = .next s ∧ exec (.gateAbn i) s = .next s) ∧
    (s.powered = false → exec (.avsStep m) s = .next s)) ∧
  (∀ (i : Fin 12) (s : State), s.clocks.gateAt.any (fun x => x.1 == i.val && decide (s.clk ≤ x.2 + gateLimit i.val)) = true →
    ∃ t, exec (.clkGateTake i) s = .next t ∧ t.gated i.val = true ∧ t.islSt i.val = 2 ∧
      t.clocks = { s.clocks with gateAt := s.clocks.gateAt.filter (fun x => x.1 != i.val) } ∧
      t = { s with regs := t.regs, clocks := t.clocks } ∧ s.regsKept t [R.CLK_GATE_STAT]) ∧
  (∀ (i : Fin 12) (x : Nat × Nat) (s : State), s.kind .clk = 1 → s.clocks.gateAt.find? (fun y => y.1 == i.val) = some x →
    s.passed x.2 (gateLimit i.val + 1) = true →
    ∃ t, exec (.gateAbn i) s = .next t ∧ nbit (t.nat R.CLK_GATE_REQ) i.val = false ∧ s.occurred t 7 ∧
      (s.gated i.val = false → s.halted i.val = false → s.islClocked i.val = true → t.islSt i.val = 0) ∧
      t.flag ⟨H.sticky .clk, 2, 1⟩ = true ∧ t.get ⟨R.CLK_GATE_ABN, 0, 16⟩ = min (s.get ⟨R.CLK_GATE_ABN, 0, 16⟩ + 1) 0xFFFF ∧
      t.clocks = { s.clocks with gateAt := s.clocks.gateAt.filter (fun y => y.1 != i.val) } ∧
      t = { s with regs := t.regs, occ := t.occ, clocks := t.clocks } ∧
      s.regsKept t [R.CLK_GATE_REQ, R.CLK_GATE_ABN, H.evt .clk, H.sticky .clk]) ∧
  (∀ (m : BitVec 8) (s : State), s.powered = true → s.safe = false →
    ∃ t, exec (.avsStep m) s = .next t ∧ t.get F.CLK_AVS_STAT_MARGIN = m.toNat ∧
      t = { s with regs := t.regs, occ := t.occ, clocks := t.clocks } ∧ s.regsKept t [R.CLK_AVS_STAT, H.evt .pwr] ∧
      (s.flag F.CLK_AVS_CFG_EN = false →
        t.get F.CLK_AVS_STAT_MV = (if s.passed s.clocks.refAt 1600 then 900 else s.get F.CLK_AVS_STAT_MV)) ∧
      (s.get F.CLK_AVS_CFG_MARGIN ≤ m.toInt → t.clocks.avsLow = none) ∧
      (s.flag F.CLK_AVS_CFG_EN = true → (s.passed s.clocks.refAt 1600 && s.passed s.clocks.avsAt 1600) = false →
        t.get F.CLK_AVS_STAT_MV = s.get F.CLK_AVS_STAT_MV) ∧
      (s.flag F.CLK_AVS_CFG_EN = true → s.passed s.clocks.refAt 1600 = true → s.passed s.clocks.avsAt 1600 = true →
        m.toInt < s.get F.CLK_AVS_CFG_MARGIN →
        (s.get F.CLK_AVS_STAT_MV < 900 → t.get F.CLK_AVS_STAT_MV = s.get F.CLK_AVS_STAT_MV + 5) ∧
        (900 ≤ s.get F.CLK_AVS_STAT_MV → t.get F.CLK_AVS_STAT_MV = s.get F.CLK_AVS_STAT_MV ∧
          (s.clocks.avsTold = true → t.occ = s.occ) ∧ ∀ x, s.clocks.avsLow = some x → s.passed x (10 * msec) = true →
            s.clocks.avsTold = false → s.kind .pwr = 1 → s.occurred t 13 ∧ t.clocks.avsTold = true)) ∧
      (s.flag F.CLK_AVS_CFG_EN = true → s.passed s.clocks.refAt 1600 = true → s.passed s.clocks.avsAt 1600 = true →
        s.get F.CLK_AVS_CFG_MARGIN ≤ m.toInt → t.clocks.avsTold = false ∧
        t.get F.CLK_AVS_STAT_MV = s.get F.CLK_AVS_STAT_MV -
          (if (s.get F.CLK_AVS_CFG_MARGIN : Int) + 3 < m.toInt ∧ 720 < s.get F.CLK_AVS_STAT_MV ∧
            s.passed s.clocks.lowerAt (10 * msec) = true then 5 else 0))) ∧
  (∀ (drv : Bool) (s : State), ∃ t, exec (.spreadModulationPeriod drv) s = .next t ∧ t = { s with clocks := t.clocks } ∧
    (if drv then t.clocks.sscFab = s.clocks.sscFab else t.clocks.sscDrv = s.clocks.sscDrv) ∧
    (if drv then t.clocks.sscDrv else t.clocks.sscFab) = (if s.runs .clk = false then (0, 0)
      else if drv then (s.get F.CLK_SSC_DRV_RATE, s.get F.CLK_SSC_DRV_DEPTH) else (s.get F.CLK_SSC_FAB_RATE, s.get F.CLK_SSC_FAB_DEPTH)))

/-- VBAT becoming present starts a boot. VBAT_LOW is raised once and its end clears LOW, in every state. Entry into
the supply safe state sets SSAFE, counts and reports VBAT_UV, queues the hours write first of all, and forces every
solenoid channel and every switch that limp-home does not drive off. Its end restarts nothing but CURRENT channels:
every other channel and every switch stays as it is, and every Stride point is free to decide. Loss of VIO puts every
CAN controller into INIT, abandons its frame, leaves pending objects pending and is reported; once outputs are
released, VIO present returns each controller to what it is configured for. The slug reading is shown, SLUG_85 is
raised at 85.0 °C once until it has fallen below 80.0 °C, and RUN held for 60 s clears WRUN. A level that is there
already, or a module without power, changes nothing. The model's choices: that levels come with commands (log entry
13), that an event which the state rules out changes nothing (log entry 12), and when RUN_60S acts (log entry 1706).
(R585, R595, R602, R603, R604, R605) -/
def Obligations.SupplyEventsAndTheSafeState : Prop :=
  (∀ s : State, s.pwr.booting = false → ∃ t, exec .vbatPresent s = .next t ∧ t.flag F.PWR_STAT_VBAT_OK = true ∧
    t.pwr = { s.pwr with booting := true, bootAt := s.clk } ∧ t = { s with regs := t.regs, pwr := t.pwr } ∧
    s.regsKept t [R.PWR_STAT]) ∧
  (∀ (v : Bool) (x : BitVec 16) (s : State),
    (s.pwr.booting = true → exec .vbatPresent s = .next s) ∧
    (s.powered = false → exec .vbatLow s = .next s ∧ exec (.slugSample x) s = .next s) ∧
    ((s.flag F.PWR_STAT_VBAT_OK = false ∨ s.flag F.PWR_STAT_SSAFE = true) → exec .supplySafeEnter s = .next s) ∧
    (s.flag F.PWR_STAT_SSAFE = false → exec .supplySafeExit s = .next s) ∧
    (s.flag F.PWR_STAT_VIO_OK = false → exec .vioLoss s = .next s) ∧
    (s.flag F.PWR_STAT_VIO_OK = true → exec (.vioPresent v) s = .next s) ∧
    ((s.pwr.runAt = none ∨ s.phaseOf ≠ 5) → exec .run60s s = .next s)) ∧
  (∀ s : State, s.powered = true → s.kind .pwr = 1 →
    ∃ t, exec .vbatLow s = .next t ∧ t.flag F.PWR_STAT_LOW = true ∧ t = { s with regs := t.regs, occ := t.occ } ∧
      (s.flag F.PWR_STAT_LOW = false → s.occurred t 9 ∧ s.regsKept t [R.PWR_STAT, H.evt .pwr]) ∧
      (s.flag F.PWR_STAT_LOW = true → t.occ = s.occ ∧ s.regsKept t [])) ∧
  (∀ s : State, ∃ t, exec .vbatLowEnd s = .next t ∧ t.flag F.PWR_STAT_LOW = false ∧ t = { s with regs := t.regs } ∧
    s.regsKept t [R.PWR_STAT]) ∧
  (∀ s : State, s.flag F.PWR_STAT_VBAT_OK = true → s.flag F.PWR_STAT_SSAFE = false → s.kind .pwr = 1 →
    ∃ t, exec .supplySafeEnter s = .next t ∧ t.flag F.PWR_STAT_SSAFE = true ∧ t.flag F.PWR_STAT_VBAT_OK = false ∧
      t.flag (evBit 10) = true ∧ t.flag ⟨H.sticky .pwr, 0, 1⟩ = true ∧ t.flash = { s.flash with urgent := true } ∧
      t.get F.PWR_CNT_SSAFE = min (s.get F.PWR_CNT_SSAFE + 1) 0xFFFF ∧ (∀ n, n < 96 → t.phase n = 0 ∨ t.phase n = 6) ∧
      ∀ k, k < 24 → s.hswHere k = true → s.limped k = false → t.hswOut k = false) ∧
  (∀ s : State, s.flag F.PWR_STAT_SSAFE = true →
    ∃ t, exec .supplySafeExit s = .next t ∧ t.flag F.PWR_STAT_SSAFE = false ∧ t.flag F.PWR_STAT_VBAT_OK = true ∧ t.hsw = s.hsw ∧
      (∀ n, n < 96 → s.solMode n ≠ 3 → t.phase n = s.phase n ∧ t.sol.get n = s.sol.get n) ∧
      ∀ p, (t.str.points.get p).settled = false) ∧
  (∀ s : State, s.flag F.PWR_STAT_VIO_OK = true → s.kind .pwr = 1 →
    ∃ t, exec .vioLoss s = .next t ∧ t.flag F.PWR_STAT_VIO_OK = false ∧ t.flag (evBit 11) = true ∧
      t.flag ⟨H.sticky .pwr, 1, 1⟩ = true ∧ t.get F.PWR_CNT_VIO = min (s.get F.PWR_CNT_VIO + 1) 0xFFFF ∧
      (∀ n, n < 3 → (t.canCtl.get n).mode = 0 ∧ (t.canCtl.get n).inFrame = false ∧ (t.canCtl.get n).active = none) ∧
      ∀ k, k < 256 → s.flag (F.CAN_OBJ_STAT_CXL k) = false → (s.canObj.get k).tmoLatch = false → (s.canObj.get k).discard = false →
        t.flag (F.CAN_OBJ_STAT_PEND k) = s.flag (F.CAN_OBJ_STAT_PEND k)) ∧
  (∀ (v : Bool) (s : State), s.flag F.PWR_STAT_VIO_OK = false →
    ∃ t, exec (.vioPresent v) s = .next t ∧ t.flag F.PWR_STAT_VIO_OK = true ∧ t.flag F.PWR_STAT_VIO_33 = v ∧
      t = { s with regs := t.regs, canCtl := t.canCtl } ∧
      ∀ n, n < 3 → (s.canCtl.get n).inFrame = false → s.runs .can = true → s.released = true → (s.canCtl.get n).held = false →
        (t.canCtl.get n).mode = s.get (F.CAN_CTL_CFG_MODE n)) ∧
  (∀ (x : BitVec 16) (s : State), s.powered = true → s.kind .pwr = 1 →
    ∃ t, exec (.slugSample x) s = .next t ∧ t.get F.PWR_SLUG = x.toNat ∧ t = { s with regs := t.regs, occ := t.occ, pwr := t.pwr } ∧
      (850 ≤ x.toInt → s.pwr.slugWarn = false → s.occurred t 15 ∧ t.flag ⟨H.sticky .pwr, 3, 1⟩ = true ∧
        t.pwr = { s.pwr with slugWarn := true } ∧ s.regsKept t [R.PWR_SLUG, H.evt .pwr, H.sticky .pwr]) ∧
      (x.toInt < 850 ∨ s.pwr.slugWarn = true → t.occ = s.occ ∧ s.regsKept t [R.PWR_SLUG] ∧
        t.pwr = { s.pwr with slugWarn := s.pwr.slugWarn && decide (800 ≤ x.toInt) })) ∧
  (∀ (r : Nat) (s : State), s.pwr.runAt = some r → s.phaseOf = 5 → s.passed r (60 * second) = true →
    ∃ t, exec .run60s s = .next t ∧ t.get F.PWR_RST_CAUSE_WRUN = 0 ∧ t = { s with regs := t.regs } ∧
      s.regsKept t [R.PWR_RST_CAUSE])

/-- An accepted PERSIST changes nothing while one waits or runs; with the PWR block disabled it is counted as
discarded; else BUSY is set and it waits behind the other class 3 work. A PERSIST that runs and is done writes the
hours, the cycle counts and the latencies to the record store, each beside its value before, or nothing where the
write failed, and shows its result. The periodic writes join the class 3 work: the hours at all times, cycle counts
and latencies only while the block is enabled. A slot with nothing of class 1 or 2 and no class 4 work due serves the
oldest: it writes that item, and the newest value before stays as its older one. The model's choices: how the two
slots of an item are kept (log entry 1817), and that a slot serves one class (log entry 1805). (R606, R607, R608,
R609) -/
def Obligations.CountersArePersisted : Prop :=
  (∀ s : State, s.admitsSet R.PWR_CMD 1 →
    (s.flag F.PWR_PERSIST_BUSY = true → exec .persist s = .next s.settled) ∧
    (s.flag F.PWR_PERSIST_BUSY = false → s.enabled .pwr = false →
      ∃ t, exec .persist s = .next t ∧ t.get F.PWR_DISC_PERSIST = min (s.get F.PWR_DISC_PERSIST + 1) 0xFFFF ∧
        t = { s with regs := t.regs, parity := none, lastErr := none } ∧ s.regsKept t [R.PWR_DISC]) ∧
    (s.flag F.PWR_PERSIST_BUSY = false → s.enabled .pwr = true →
      ∃ t, exec .persist s = .next t ∧ t.flag F.PWR_PERSIST_BUSY = true ∧
        t = { s with regs := t.regs, parity := none, lastErr := none,
                     flash := { s.flash with class3 := s.flash.class3 ++ [.persist] } } ∧ s.regsKept t [R.PWR_PERSIST])) ∧
  (∀ s : State, s.flash.running = true →
    ∃ t, exec .persistDone s = .next t ∧ t.flag F.PWR_PERSIST_BUSY = false ∧ t.flag F.PWR_PERSIST_VALID = true ∧
      t.get F.PWR_PERSIST_RESULT = (if s.flash.failed then 7 else 0) ∧
      t = { s with regs := t.regs, flash := { s.flash with
        running := false, failed := false, wrote := []
        store := if s.flash.failed then s.flash.store else { s.flash.store with
          hours := some (s.nat R.PWR_HOURS), cycles := some s.cycleWords, lat := some s.latWords }
        older := if s.flash.failed then s.flash.older else { s.flash.older with
          hours := s.flash.store.hours, cycles := s.flash.store.cycles, lat := s.flash.store.lat } } } ∧
      s.regsKept t [R.PWR_PERSIST]) ∧
  (∀ s : State, (s.flash.running = false → exec .persistDone s = .next s) ∧
    (s.powered = false → exec .hoursPersist s = .next s)) ∧
  (∀ s : State, s.powered = true →
    exec .hoursPersist s = .next { s with flash := { s.flash with class3 := s.flash.class3 ++ [.hours] } }) ∧
  (∀ s : State,
    (s.enabled .pwr = true →
      exec .periodicPersist s = .next { s with flash := { s.flash with class3 := s.flash.class3 ++ [.periodic] } }) ∧
    (s.enabled .pwr = false → exec .periodicPersist s = .next s)) ∧
  (∀ (o : FlashOp) (l : List FlashOp) (s : State), s.flash.class3 = o :: l → s.flash.urgent = false → s.recd.staged = [] →
    (s.flash.class4 = [] ∨ s.enabled .mem = false ∨ s.flash.waited < 15) →
    (o = .hours ∨ o = .periodic ∨ o = .persist ∨ o = .telemetry) →
    ∃ t, exec (.flashSlot none) s = .next t ∧ t = { s with flash := t.flash } ∧
      t.flash.waited = (if s.flash.class4 = [] ∨ s.enabled .mem = false then 0 else s.flash.waited + 1) ∧ t.flash.class3 = l ∧
      (o = .persist → t.flash.older = s.flash.older) ∧
      (o = .hours → t.flash.older = { s.flash.older with hours := s.flash.store.hours }) ∧
      (o = .periodic → t.flash.older = { s.flash.older with cycles := s.flash.store.cycles, lat := s.flash.store.lat }) ∧
      (o = .telemetry → t.flash.older = { s.flash.older with tel := s.flash.store.tel }) ∧
      t.flash.class4 = s.flash.class4 ∧ t.flash.running = (s.flash.running || decide (o = .persist)) ∧
      t.flash.store.hours = (if o = .hours then some (s.nat R.PWR_HOURS) else s.flash.store.hours) ∧
      t.flash.store.cycles = (if o = .periodic then some s.cycleWords else s.flash.store.cycles) ∧
      t.flash.store.lat = (if o = .periodic then some s.latWords else s.flash.store.lat) ∧
      t.flash.store.tel = (if o = .telemetry then some s.telWords else s.flash.store.tel))

/-- A power-on reset leaves every register at its reset word and memory empty, and keeps what flash and one-time
memory hold; of the records that a programming in progress had staged some can be there, the last of them cut; the
footing copy that an ERASE or PROGRAM was at work on starts with an erased byte. PU0 ends with the straps sampled and
clock start-up under way in PU1. PU1 ends where the clocks are ready, with the self-tests' failures recorded. PU2 ends
only with verified firmware: the module goes to PU3, counts the power cycle, once in each boot, in the register and in
the record store, restores the hours after a power-on, each from its newest slot that passes its check, and without a
valid footing enters the safe course with no personality and reports it. PU3 ends with the personality locked. PU4
ends in RUN: outputs are released, the drive safe states entered before the last device reset are over, CAN
controllers enter their modes, switches stay as they are, and the start-up time is shown. No phase ends but the one in
force, and none while RESET_N is held; its release begins PU1. The model's choices: what a reset during an ERASE or
PROGRAM leaves (log entry 318), which slot of an item passes (log entry 1817), the start of an item that does not
restore (log entry 1703), RESET_N held at power-up (log entry 1701), when the rails count as good (log entry 1705),
the rounding of PWR_BOOT_TIME (log entry 1702), and the records that a power loss cuts (log entry 1804). (R46, R567,
R585, R588, R589, R590, R591, R592, R603, R606) -/
def Obligations.StartUpRunsThroughItsPhases : Prop :=
  (∀ s : State, ∃ t, exec .powerOnReset s = .next t ∧ (∀ a, t.word a = resetWord a) ∧ t.mem = [] ∧ t.flash.store = s.flash.store ∧
    s.recd.log <+: t.recd.log ∧ (s.recd.staged = [] ∨ s.powered = false → t.recd.log = s.recd.log) ∧ t.recd.staged = [] ∧
    t.recd.les = s.recd.les ∧ t.flash.older = s.flash.older ∧ t.flash.homes = s.flash.homes ∧
    (s.cfg.img ≠ some .erase → (∀ o n, s.cfg.img ≠ some (.program o n)) → t.cfg.copyA = s.cfg.copyA ∧ t.cfg.copyB = s.cfg.copyB) ∧
    (∀ o n, s.cfg.img = some .erase ∨ s.cfg.img = some (.program o n) →
      (s.get F.CFG_FTG_STATE_BOOTED = 0 → t.cfg.copyA = s.cfg.copyA ∧ t.cfg.copyB.head? = some 0xFF) ∧
      (s.get F.CFG_FTG_STATE_BOOTED ≠ 0 → t.cfg.copyB = s.cfg.copyB ∧ t.cfg.copyA.head? = some 0xFF)) ∧
    t.sec.slotA = s.sec.slotA ∧ t.sec.slotB = s.sec.slotB ∧ t.sec.oem = s.sec.oem ∧ t.sec.arbFw = s.sec.arbFw ∧
    t.sec.arbFtg = s.sec.arbFtg ∧ t.sec.kill = s.sec.kill ∧ t.hswKeep.store = s.hswKeep.store ∧ t.pending = s.pending ∧
    t.pwr.booting = false ∧ t.clk = 0 ∧ t.tag = 0) ∧
  (∀ (spi : Bool) (a : BitVec 6) (s : State), s.pwr.booting = true → s.phaseOf = 0 →
    ∃ t, exec (.pu0End spi a) s = .next t ∧ t.phaseOf = 1 ∧ t.flag F.PWR_STAT_RAILS_OK = true ∧
      t.pwr = { s.pwr with straps := some (spi, a.toNat) } ∧ t.flag F.SYS_LINK_MODE_LINKSEL = spi ∧
      t.get F.SYS_LINK_MODE_ADDR = a.toNat ∧ (spi = true ∨ a.toNat ≠ 63 → t.flag F.SYS_LINK_MODE_VALID = true) ∧
      (spi = false → a.toNat = 63 → t.flag F.SYS_LINK_MODE_ENUMMODE = true ∧ t.flag F.SYS_LINK_MODE_VALID = false) ∧
      (s.pwr.held = true → t.clocks = s.clocks) ∧
      (s.pwr.held = false → s.flag F.CLK_STAT_MRC_OK = false → t.clocks = { s.clocks with step := 1 })) ∧
  (∀ (l : List Block) (b kat : Bool) (pref : StoreSlot) (s : State), s.phaseOf = 1 → s.pwr.held = false → s.clocks.step ≠ 8 →
    (s.flag F.CLK_STAT_FBARM = true ∨ s.clocks.step = 6) →
    ∃ t, exec (.pu1End l b kat pref) s = .next t ∧ t.phaseOf = 2 ∧ t.failed = l.eraseDups ∧ t.dieBFail = b ∧ t.pwr = s.pwr ∧
      t.flag F.PWR_STAT_RAILS_OK = true ∧ (.sec ∈ l → t.sec.session = none ∧ t.sec.hello = none) ∧
      (kat = false → t.get F.SYS_BOOT_RES = 3 ∧ t.sec.running = false ∧ t.sec.slotA = s.sec.slotA ∧ t.sec.slotB = s.sec.slotB ∧
        t.sec.oem = s.sec.oem ∧ t.sec.arbFw = s.sec.arbFw ∧ t.sec.arbFtg = s.sec.arbFtg)) ∧
  (∀ (bad : StartFinds) (pick : Nat → RecordStore) (s : State), s.phaseOf = 2 → s.pwr.held = false →
    pick = (fun k => if bad.items.getLsbD k = false then s.flash.store else if bad.olders.getLsbD k = false then s.flash.older
      else default) →
    (s.sec.running = false → exec (.pu2End bad) s = .next s) ∧
    (s.sec.running = true → s.cfg.copyA = [] → s.cfg.copyB = [] → s.failed = [] →
      ∃ t, exec (.pu2End bad) s = .next t ∧ t.phaseOf = 3 ∧ t.safe = true ∧ t.pers = 0 ∧ t.cfg.footing = s.cfg.footing ∧
        t.flag (evBit 35) = true ∧
        t.pwr = { s.pwr with counted := true } ∧
        (s.pwr.counted = false →
          t.word R.PWR_PCYC = BitVec.ofNat 32 (((pick 1).pcyc.getD 0) + 1) ∧
          t.flash.store.pcyc = (if bad.unsaved then (pick 1).pcyc else some (((pick 1).pcyc.getD 0) + 1)) ∧
          t.word R.PWR_HOURS = (if s.get F.PWR_RST_CAUSE_CAUSE = 1
            then BitVec.ofNat 32 ((pick 0).hours.getD 0) else s.word R.PWR_HOURS)) ∧
        (s.pwr.counted = true → t.word R.PWR_PCYC = s.word R.PWR_PCYC ∧ t.word R.PWR_HOURS = s.word R.PWR_HOURS ∧
          t.flash.store.pcyc = (pick 1).pcyc))) ∧
  (∀ s : State, s.phaseOf = 3 → s.pwr.held = false →
    ∃ t, exec .pu3End s = .next t ∧ t.phaseOf = 4 ∧ t.flag F.CFG_PERSONALITY_LOCKED = true) ∧
  (∀ (spi kat : Bool) (pref : StoreSlot) (a : BitVec 6) (l : List Block) (bad : StartFinds) (s : State),
    ((s.pwr.booting = false ∨ s.phaseOf ≠ 0) → exec (.pu0End spi a) s = .next s) ∧
    (s.phaseOf ≠ 1 → exec (.pu1End l spi kat pref) s = .next s) ∧
    (s.phaseOf ≠ 2 → exec (.pu2End bad) s = .next s) ∧ (s.phaseOf ≠ 3 → exec .pu3End s = .next s) ∧
    (s.phaseOf ≠ 4 → exec .pu4End s = .next s)) ∧
  (∀ s : State, s.phaseOf = 3 → s.pwr.held = false → s.flag F.CFG_COURSE_STAT_BUSY = false →
    ∃ t, exec .pu3End s = .next t ∧ t.phaseOf = 4 ∧ t.flag F.CFG_PERSONALITY_LOCKED = true ∧ t.pers = s.pers ∧ t.pwr = s.pwr) ∧
  (∀ s : State, s.phaseOf = 4 → s.pwr.held = false →
    (s.flag F.PWR_STAT_SSAFE = true → exec .pu4End s = .next s) ∧
    (s.flag F.PWR_STAT_SSAFE = false →
      ∃ t, exec .pu4End s = .next t ∧ t.phaseOf = 5 ∧ t.flag F.PWR_STAT_OUTREL = true ∧
        t.flag F.PWR_STAT_DSAFE_A = (s.flag F.PWR_STAT_DSAFE_A && s.pwr.ends.all (fun d => dieSafe d != dieSafe 0)) ∧
        t.flag F.PWR_STAT_DSAFE_B = (s.flag F.PWR_STAT_DSAFE_B && s.pwr.ends.all (fun d => dieSafe d != dieSafe 1)) ∧
        t.pwr = { s.pwr with runAt := some s.clk, ends := [] } ∧ t.hsw = s.hsw ∧
        (∀ n, n < 3 → (s.canCtl.get n).inFrame = false → s.runs .can = true → s.flag F.PWR_STAT_VIO_OK = true →
          s.safe = false → (s.canCtl.get n).held = false → (t.canCtl.get n).mode = s.get (F.CAN_CTL_CFG_MODE n)) ∧
        t.get F.PWR_BOOT_TIME = min (divOpen 590 ((s.clk : Int) - s.pwr.bootAt) msec).toNat 0xFFFF)) ∧
  (∀ s : State, s.pwr.held = true →
    (s.phaseOf ≠ 1 → exec .resetNRelease s = .next { s with pwr := { s.pwr with held := false } }) ∧
    (s.phaseOf = 1 → s.flag F.CLK_STAT_MRC_OK = false →
      exec .resetNRelease s = .next { s with pwr := { s.pwr with held := false, bootAt := s.clk },
                                             clocks := { s.clocks with step := 1 } }) ∧
    (∀ i : Instr, (i = .pu3End ∨ i = .pu4End ∨ i = .resetNAssert) → exec i s = .next s))

/-- RESET_N accepted low, a watchdog expiry, SOFT_RESET of the SYS region and a rail fault each reset the device:
PWR_RST_CAUSE names the cause, start-up resumes at PU1 with outputs not released, every solenoid channel is off, a
switch stays on only under hold-over or limp-home, operating hours, MRC verification and the run of its checks, the
record store and the log are kept, staged records are lost, the time base restarts at 0, a drive safe state in force
ends with this start-up, RAILS_OK is clear after a rail fault, and every register outside the kept ones holds its
reset word. RESET_N clears WRUN and keeps the module in reset; a watchdog reset before RUN or in its first 60 s counts
in WRUN. Without its cause there is no reset; RESET_N during PU0 only holds the module from going on. The model's
choices: what a device reset keeps beyond the rules' words (log entry 51), RAILS_OK after a rail fault (log entry
1705), the watchdog in PU2 (log entry 1704), and how time is counted (log entry 7). (R68, R148, R453, R454, R591,
R592, R593, R594, R595, R596, R597, R614) -/
def Obligations.DeviceResetKeepsWhatItMust : Prop :=
  (∀ s : State,
    (s.pwr.held = true → exec .resetNAssert s = .next s) ∧
    (s.pwr.held = false → s.phaseOf = 0 → exec .resetNAssert s = .next { s with pwr := { s.pwr with held := true } }) ∧
    (s.pwr.softAt = none → exec .deviceReset s = .next s) ∧
    ((s.phaseOf < 2 ∨ s.phaseOf = 2 ∧ s.sec.running = false) → exec .watchdogExpiry s = .next s) ∧
    ((s.flag F.PWR_STAT_RAILS_OK = false ∨ s.flag F.PWR_STAT_VBAT_OK = false ∨ s.pwr.held = true) → exec .railFault s = .next s)) ∧
  ∀ (i : Instr) (c : Nat) (s : State),
    ((i = .resetNAssert ∧ c = 2 ∧ s.pwr.held = false ∧ s.phaseOf ≠ 0) ∨ (i = .deviceReset ∧ c = 4 ∧ s.pwr.softAt.isSome = true) ∨
      (i = .watchdogExpiry ∧ c = 3 ∧ (3 ≤ s.phaseOf ∨ s.phaseOf = 2 ∧ s.sec.running = true)) ∨
      (i = .railFault ∧ c = 5 ∧ s.flag F.PWR_STAT_RAILS_OK = true ∧ s.flag F.PWR_STAT_VBAT_OK = true ∧ s.pwr.held = false)) →
    ∃ t, exec i s = .next t ∧ t.get F.PWR_RST_CAUSE_CAUSE = c ∧ t.phaseOf = 1 ∧ t.flag F.PWR_STAT_OUTREL = false ∧
      t.pwr.held = decide (c = 2) ∧ t.pwr.softAt = none ∧ t.pwr.straps = s.pwr.straps ∧ t.mem = [] ∧ t.tag = 0 ∧ t.clk = 0 ∧
      t.sol = [] ∧ (∀ n, n < 96 → t.phase n = 0) ∧
      (∀ k, k < 24 → t.hswOut k = (s.hswOut k && (s.holdAtReset k || s.limped k))) ∧
      t.word R.PWR_HOURS = s.word R.PWR_HOURS ∧ t.flag F.CLK_STAT_MRC_OK = s.flag F.CLK_STAT_MRC_OK ∧
      t.clocks.passes = s.clocks.passes ∧ t.clocks.fails = s.clocks.fails ∧
      t.flash.store = s.flash.store ∧ t.flash.older = s.flash.older ∧ t.flash.homes = s.flash.homes ∧
      t.recd.log = s.recd.log ∧ t.recd.staged = [] ∧ t.hswKeep = s.hswKeep ∧ t.pwr.runAt = none ∧
      t.flag F.PWR_STAT_RAILS_OK = (s.flag F.PWR_STAT_RAILS_OK && decide (c ≠ 5)) ∧
      (∀ d, d < 2 → t.flag (dieSafe d) = s.flag (dieSafe d) ∧ t.pwr.ends.contains d = s.flag (dieSafe d)) ∧
      t.get F.PWR_RST_CAUSE_WRUN = (if c = 2 ∨ s.pwr.runAt.any (fun r => s.passed r (60 * second)) = true then 0
        else if c = 3 then min 3 (s.get F.PWR_RST_CAUSE_WRUN + 1)
        else s.get F.PWR_RST_CAUSE_WRUN) ∧
      ∀ a, a ∉ [R.PWR_HOURS, R.CLK_STAT, R.HSW_LH_STAT, R.PWR_STAT, R.HSW_HOLD, R.SYS_LINK_MODE, R.PWR_RST_CAUSE, R.CLK_AVS_STAT] →
        (∀ k, k < 24 → a ≠ R.HSW_CH_STAT k) → t.word a = resetWord a

/-- On the recorder's 1 ms grid outside a hold, from the end of PU3 on, with the block running and one trigger
enabled: a comparison that becomes true, and the occurrence of the trigger's event, fire it. A firing outside the
hold-off counts, shows its instant and stages a record with the trigger's number, value, instant, restart data and
suppressed firings and with 4 bytes for each snapshot word; one within the hold-off only counts as suppressed. A
comparison that stays true does not fire again. A full staging buffer loses the record, counts it and reports the
episode once; while the log is stopped as full or failed the record is only counted. A disabled recorder evaluates
nothing, nor does one before the end of PU3. The model's choices: STAGED and RNUM (log entry 1801), and that what is
taken after one command is one instant (log entry 1808). (R615, R616, R617, R618, R619, R622, R625, R630, R640, R645,
R646) -/
def Obligations.TriggersFireAndFormRecords : Prop :=
  (∀ s : State,
    (s.atMs = false → exec .triggerCompare s = .next s) ∧
    (s.atMs = true → s.runs .recorder = false ∨ s.phaseOf < 4 → exec .triggerCompare s = .next { s with occ := [] })) ∧
  (∀ (n : Nat) (s u : State) (x : Word), n < 16 → u = { s with occ := [] } → s.atMs = true → s.runs .recorder = true → 4 ≤ s.phaseOf →
    s.get (F.REC_TRG_CFG_KIND n) = 2 → s.flag (F.REC_TRG_CFG_EN n) = true →
    (∀ m, m < 16 → m ≠ n → s.flag (F.REC_TRG_CFG_EN m) = false) →
    x = u.recRead (s.get (F.REC_TRG_ADDR n)) &&& s.word (R.REC_TRG_MASK n) →
    ((compareOp (s.get (F.REC_TRG_CFG_OP n)) x (s.word (R.REC_TRG_VAL n)) && !(s.recd.trig.get n).was) = false →
      ∃ t, exec .triggerCompare s = .next t ∧
        (t.recd.trig.get n) = { s.recd.trig.get n with was := compareOp (s.get (F.REC_TRG_CFG_OP n)) x (s.word (R.REC_TRG_VAL n)) } ∧
        t = { s with occ := [], recd := { s.recd with trig := t.recd.trig } }) ∧
    (compareOp (s.get (F.REC_TRG_CFG_OP n)) x (s.word (R.REC_TRG_VAL n)) = true → (s.recd.trig.get n).was = false →
      (s.recd.trig.get n).fired = none → s.logDead = false → s.recd.staged.length < 341 →
      ∃ t r, exec .triggerCompare s = .next t ∧ t.recd.staged = s.recd.staged ++ [r] ∧ r.head = u.recHead n x.toNat s.now false ∧
        r.snap.length = 4 * s.get (F.REC_TRG_CFG_NWORDS n) ∧ t.recd.trig.get n = { fired := some s.clk, was := true, supp := 0 } ∧
        t.get (F.REC_TRG_CNT_N n) = min (s.get (F.REC_TRG_CNT_N n) + 1) 0xFFFF ∧ t.nat64 (R.REC_TRG_LAST_LO n) = s.now ∧
        t.get F.REC_STAGE_NOW = s.recd.staged.length + 1 ∧ t.recd.log = s.recd.log ∧ t = { s with regs := t.regs, occ := [], recd := t.recd } ∧
        s.regsKept t [R.REC_TRG_CNT n, R.REC_TRG_LAST_LO n, R.REC_TRG_LAST_HI n, R.REC_STAGE, R.REC_LOG_STAT])) ∧
  (∀ (n e g : Nat) (s u : State), n < 16 → u = { s with occ := [] } → s.atMs = true → s.runs .recorder = true → 4 ≤ s.phaseOf →
    s.get (F.REC_TRG_CFG_KIND n) = 1 → s.flag (F.REC_TRG_CFG_EN n) = true → s.get (F.REC_TRG_CFG_EVNUM n) = e → g < 2 ^ 64 →
    (∀ m, m < 16 → m ≠ n → s.flag (F.REC_TRG_CFG_EN m) = false) → s.occ = [(e, g)] →
    (∀ i, (s.recd.trig.get n).fired = some i → s.passed i (s.get (F.REC_TRG_HOLD_HOLDOFF n) * msec) = false →
      ∃ t, exec .triggerCompare s = .next t ∧ t.get (F.REC_TRG_CNT_SUPP n) = min (s.get (F.REC_TRG_CNT_SUPP n) + 1) 0xFFFF ∧
        t.recd.trig.get n = { s.recd.trig.get n with supp := (s.recd.trig.get n).supp + 1 } ∧
        t = { s with regs := t.regs, occ := [], recd := { s.recd with trig := t.recd.trig } } ∧ s.regsKept t [R.REC_TRG_CNT n]) ∧
    ((∀ i, (s.recd.trig.get n).fired = some i → s.passed i (s.get (F.REC_TRG_HOLD_HOLDOFF n) * msec) = true) →
      ∃ t, exec .triggerCompare s = .next t ∧ t.get (F.REC_TRG_CNT_N n) = min (s.get (F.REC_TRG_CNT_N n) + 1) 0xFFFF ∧
        t.nat64 (R.REC_TRG_LAST_LO n) = g ∧ (t.recd.trig.get n).fired = some s.clk ∧ t.recd.log = s.recd.log ∧
        (s.logDead = false → s.recd.staged.length < 341 → ∃ r, t.recd.staged = s.recd.staged ++ [r] ∧
          r.head = u.recHead n e g false ∧ t.recd.lost = false ∧ (t.recd.trig.get n).supp = 0) ∧
        (s.logDead = false → 341 ≤ s.recd.staged.length → t.recd.staged = s.recd.staged ∧ t.recd.lost = true ∧
          t.get F.REC_STAGE_LOST = min (s.get F.REC_STAGE_LOST + 1) 0xFFFF ∧
          t.occ = (if s.recd.episode then [] else [(228, s.tag)])) ∧
        (s.logDead = true → t.recd.staged = s.recd.staged ∧ t.occ = [] ∧
          t.get F.REC_LOG_LOST = min (s.get F.REC_LOG_LOST + 1) 0xFFFF)))

/-- A flash slot writes the hours of a supply safe state first, else programs a staged record as the next RNUM of a
log that runs; the last slot of the log fills it, which is reported. Class 4 erases and moves take slots when nothing
else waits; an erase ends with the sector's wear counted where its contents lie, a move with the two sectors' homes
exchanged. An erase that a waiting write needs goes before the class 3 work; without such a write there is none, and
while MEM does not run class 4 work neither comes nor goes on. ERASE counts a log erase, empties the log and starts
with sector 0; each erased sector is counted and the first lets recording resume. A failed program or erase of the log
stops it, shows the address, counts the staged records as lost and appends a failure record to the cornerstone area
while it has room; a later failure changes nothing. A DRAIN starts from REC_DRN_FROM, a cornerstone DRAIN from record
0, STOP ends either, CST_CLEAR empties the area, and a drain that is done has sent its last record into LANE1. A
failed plane B write takes a spare, where the sector has its contents from then on, or reports that none is left: a
running PERSIST fails then, and another store write leaves its items as their other slots have them. Without a drain
there is none to end. The model's choices: records behind the last free slot (log entry 1802), an ERASE of a stopped
log (log entry 1803), one class a slot (log entry 1805), a DRAIN under way (log entry 1809), the numbers and homes of
sectors (log entry 1814), the sector header (log entry 1815), begun erases, needed erases and moves (log entry 1816),
and the slots of an item (log entry 1817). (R620, R622, R623, R624, R625, R626, R627, R628, R629, R633, R634) -/
def Obligations.TheLogIsProgrammedErasedFailsAndDrains : Prop :=
  (∀ (erase ok : Bool) (a : BitVec 24) (s : State),
    (s.recd.drain = none → exec .logDrainDone s = .next s) ∧
    (s.present .recorder = false → exec (.logProgramFail erase a ok) s = .next s)) ∧
  (∀ s : State, (s.flash.class4 = [] ∨ s.enabled .mem = false ∨ s.flash.waited < 15) →
    (s.flash.urgent = true →
      exec (.flashSlot none) s = .next { s with flash := { s.flash with
        urgent := false, store := { s.flash.store with hours := some (s.nat R.PWR_HOURS) }, wrote := [0],
        older := { s.flash.older with hours := s.flash.store.hours },
        waited := if s.flash.class4 = [] ∨ s.enabled .mem = false then 0 else s.flash.waited + 1 } }) ∧
    (∀ r, s.flash.urgent = false → s.logReady = true → s.recd.staged = [r] →
      ∃ t, exec (.flashSlot none) s = .next t ∧ t.recd.log = s.recd.log ++ [recordBytes s.recd.log.length r] ∧ t.recd.staged = [] ∧
        t.get F.REC_STAGE_NOW = 0 ∧ t.get F.REC_LOG_STAT_N = s.recd.log.length + 1 ∧
        t.flag F.REC_LOG_STAT_STOP = decide (s.recd.log.length + 1 = logSize) ∧
        t = { s with regs := t.regs, occ := t.occ, recd := t.recd, flash := { s.flash with
          waited := if s.flash.class4 = [] ∨ s.enabled .mem = false then 0 else s.flash.waited + 1 } } ∧
        s.regsKept t [R.REC_STAGE, R.REC_LOG_STAT, H.evt .recorder, H.sticky .recorder] ∧
        (s.recd.log.length + 1 < logSize → t.occ = s.occ) ∧
        (s.recd.log.length + 1 = logSize → s.kind .recorder = 1 → s.occurred t 225 ∧ t.get F.REC_LOG_STAT_WHY = 1))) ∧
  (∀ (k : BitVec 8) (n : BitVec 16) (s : State), s.runs .mem = true → n ≠ 0 → s.flash.class4 = [] → s.flash.class3 = [] →
    s.flash.urgent = false → s.recd.staged = [] → s.flash.waited < 15 →
    ∃ t, exec (.flashSlot (some (.ahead k n))) s = .next t ∧ t.recd = s.recd ∧
      (n.toNat = 1 → t.flash.class4 = [] ∧ t.flash.wearB.get (s.sectorHome k.toNat) = s.flash.wearB.get (s.sectorHome k.toNat) + 1) ∧
      (1 < n.toNat → t = { s with flash := { s.flash with class4 := [.erase k.toNat (n.toNat - 1) true], waited := 0 } }) ∧
      ∀ d : BitVec 8, ∃ t, exec (.flashSlot (some (.move k d n))) s = .next t ∧
        (n.toNat = 1 → t.flash.class4 = [] ∧ t.sectorHome k.toNat = s.sectorHome d.toNat ∧ t.sectorHome d.toNat = s.sectorHome k.toNat ∧
          t = { s with flash := { s.flash with homes := t.flash.homes, class4 := [], waited := 0 } }) ∧
        (1 < n.toNat → t = { s with flash := { s.flash with class4 := [.move k.toNat d.toNat (n.toNat - 1) true], waited := 0 } })) ∧
  (∀ (k d : BitVec 8) (n : BitVec 16) (s : State),
    (s.runs .mem = false → exec (.flashSlot (some (.ahead k n))) s = exec (.flashSlot none) s ∧
      exec (.flashSlot (some (.move k d n))) s = exec (.flashSlot none) s) ∧
    (s.storeWaits = false → exec (.flashSlot (some (.need k n))) s = exec (.flashSlot none) s) ∧
    (s.storeWaits = true → s.flash.urgent = false → s.recd.staged = [] →
      (s.flash.class4 = [] ∨ s.enabled .mem = false ∨ s.flash.waited < 15) → 1 < n.toNat →
      exec (.flashSlot (some (.need k n))) s = .next { s with flash := { s.flash with
        class3 := .erase k.toNat (n.toNat - 1) true :: s.flash.class3
        waited := if s.flash.class4 = [] ∨ s.enabled .mem = false then 0 else s.flash.waited + 1 } })) ∧
  (∀ s : State, s.enabled .mem = false → s.flash.urgent = false → s.recd.staged = [] → s.flash.class3 = [] →
    exec (.flashSlot none) s = .next { s with flash := { s.flash with waited := 0 } }) ∧
  (∀ (auth : Bool) (s : State), s.admits auth R.REC_CMD (BitVec.allOnes 32) 1#32 →
    ∃ t, exec (.logErase auth) s = .next t ∧ t.word R.REC_LES = BitVec.ofNat 32 (s.recd.les + 1) ∧
      t.recd = { s.recd with les := s.recd.les + 1, log := [], erasing := some 0, failed := false } ∧
      t.get F.REC_LOG_STAT_N = 0 ∧ t.flag F.REC_LOG_STAT_STOP = true ∧ t.get F.REC_LOG_STAT_WHY = 3 ∧
      t = { s with regs := t.regs, recd := t.recd, parity := none, lastErr := none } ∧
      s.regsKept t [R.REC_LES, R.REC_LOG_STAT, R.REC_STAGE]) ∧
  (∀ s : State,
    (s.recd.erasing = none → exec .logSectorErased s = .next s) ∧
    (∀ k, s.recd.erasing = some k →
      ∃ t, exec .logSectorErased s = .next t ∧ t.recd = { s.recd with
          erasing := if k + 1 = 256 then none else some (k + 1)
          heads := s.recd.heads.set k { les := s.recd.les, erases := s.flash.wearA.get k + 1 } } ∧
        t.flash = { s.flash with wearA := s.flash.wearA.set k (s.flash.wearA.get k + 1) } ∧
        (s.recd.failed = false → s.recd.log.length < logSize → t.flag F.REC_LOG_STAT_STOP = false) ∧
        s.regsKept t [R.REC_STAGE, R.REC_LOG_STAT, H.evt .mem])) ∧
  (∀ (erase ok : Bool) (a : BitVec 24) (s : State),
    (s.recd.failed = true → exec (.logProgramFail erase a ok) s = .next s) ∧
    (s.recd.failed = false → s.present .recorder = true →
      ∃ t, exec (.logProgramFail erase a ok) s = .next t ∧
        t.recd = { s.recd with
          failed := true, erasing := none, staged := [], episode := false,
          cst := if 32 ≤ s.recd.cst.length ∨ ok = false then s.recd.cst
                 else s.recd.cst ++ [s.failureRecord erase a.toNat] } ∧
        t.get F.REC_FAIL_ADDR_A = a.toNat ∧ t.flag F.REC_FAIL_ADDR_OP = erase ∧ t.flag F.REC_FAIL_ADDR_VALID = true ∧
        t.flag (evBit 226) = true ∧ t.get F.REC_LOG_LOST = min (s.get F.REC_LOG_LOST + s.recd.staged.length) 0xFFFF ∧
        t.flag F.REC_LOG_STAT_STOP = true ∧ t.get F.REC_LOG_STAT_WHY = 2 ∧
        (s.recd.cst.length < 32 → ok = false → t.flag F.REC_CST_STAT_CST_FAIL = true ∧ t.flag (evBit 227) = true) ∧
        t = { s with regs := t.regs, occ := t.occ, recd := t.recd })) ∧
  (∀ (auth cst : Bool) (s : State), s.admits auth R.REC_CMD (BitVec.allOnes 32) (if cst then 3#32 else 2#32) → s.enabled .recorder = true →
    ∃ t, exec (if cst then .drainCst auth else .logDrain auth) s = .next t ∧ t.flag F.REC_DRN_STAT_BUSY = true ∧
      t.flag F.REC_DRN_STAT_CST = cst ∧ t.get F.REC_DRN_STAT_N = 0 ∧
      t.recd = { s.recd with drain := some (if cst then ⟨true, 0, some s.recd.cst.length⟩ else ⟨false, s.get F.REC_DRN_FROM,
        if s.get F.REC_DRN_CNT = 0 then none else some (s.get F.REC_DRN_FROM + s.get F.REC_DRN_CNT)⟩) } ∧
      t = { s with regs := t.regs, recd := t.recd, parity := none, lastErr := none } ∧ s.regsKept t [R.REC_DRN_STAT]) ∧
  (∀ (auth : Bool) (s : State), s.admits auth R.REC_CMD (BitVec.allOnes 32) 4#32 →
    (s.recd.drain = none → exec (.drainStop auth) s = .next s.settled) ∧
    (s.recd.drain.isSome = true → ∃ t, exec (.drainStop auth) s = .next t ∧ t.flag F.REC_DRN_STAT_BUSY = false ∧
      t = { s with regs := t.regs, recd := { s.recd with drain := none }, parity := none, lastErr := none } ∧
      s.regsKept t [R.REC_DRN_STAT])) ∧
  (∀ (auth : Bool) (s : State), s.admits auth R.REC_CMD (BitVec.allOnes 32) 5#32 →
    ∃ t, exec (.cstClear auth) s = .next t ∧ t.get F.REC_CST_STAT_N = 0 ∧
      t = { s with regs := t.regs, occ := t.occ, recd := { s.recd with cst := [] }, parity := none, lastErr := none
                   flash := { s.flash with wearB := s.flash.wearB.set (s.sectorHome 224) (s.flash.wearB.get (s.sectorHome 224) + 1) } } ∧
      (s.flash.wearB.get (s.sectorHome 224) + 1 ≠ 80000 → t.occ = s.occ) ∧ s.regsKept t [R.REC_CST_STAT, H.evt .mem]) ∧
  (∀ (d : LogDrain) (b : List Byte) (s : State), s.recd.drain = some d → s.drainRecord d = some b → d.last = some (d.next + 1) →
    ∃ t u, u = s.laneProduce 1 (if d.cst then drainEntries 0xE2 d.next 2 b else drainEntries 0xE1 d.next 4 b) ∧
      exec .logDrainDone s = .next t ∧ t.lanes = u.lanes ∧ t.mem = u.mem ∧ t.recd = { s.recd with drain := none } ∧
      t.flag F.REC_DRN_STAT_BUSY = false ∧ t.get F.REC_DRN_STAT_N = (s.get F.REC_DRN_STAT_N + 1) % 2 ^ 17) ∧
  (∀ (w : PlaneBWrite) (k : BitVec 8) (s : State), s.kind .mem = 1 →
    (s.sectorsLeft = 0 → ∃ t, exec (.planeBVerifyFail w k) s = .next t ∧ s.occurred t 234 ∧ t.flag ⟨H.sticky .mem, 1, 1⟩ = true ∧
      t.flash = (if w ≠ .store then s.flash else if s.flash.running = true then { s.flash with failed := true }
        else { s.flash with store := s.flash.store.take s.flash.older s.flash.wrote
                            older := s.flash.older.take default s.flash.wrote, wrote := [] }) ∧
      s.regsKept t [H.evt .mem, H.sticky .mem]) ∧
    (s.sectorsLeft ≠ 0 → ∃ t, exec (.planeBVerifyFail w k) s = .next t ∧
      t.flash = { s.flash with taken := s.flash.taken + 1, homes := t.flash.homes } ∧
      (∀ j, t.sectorHome j = if j = k.toNat then 192 + s.flash.taken else s.sectorHome j) ∧ s.regsKept t [H.evt .mem]))

/-- A DRAM read whose re-read passes only counts its re-reads. One that fails three re-reads in working memory retires
the page to the next spare: its number is shown and reported, the loss of working memory is reported, and no byte
outside the page changes; with no spare left the page stays and is remembered as failed. An error of a spare in use
retires the page that is mapped to it. An address outside DRAM has no such error. Scrub reads go through all units in
turn, count what a re-read mended and report each pass; a disabled block scrubs nothing. A fabric transfer that is
accepted on a re-send has no effect; one given up is reported, and refuses the register word, loses the lane entry or
drops the command it carried. A supply calibration outside its limits is counted and reported. Telemetry keeps the
extremes of what it samples, joins the class 4 flash work when it is persisted, and CLEAR restarts every extreme from
the present value. The model's choices: how a failed calibration counts (log entry 1806), what telemetry starts from
(log entry 1807), pages of running units (log entry 1810), what a transfer takes with it (log entry 1811), spares that
a start-up test takes (log entry 1812), and dead pages and spares (log entry 1813). (R35, R36, R37, R38, R631, R632,
R635, R637, R641, R648) -/
def Obligations.MemoryCareErrorsScrubAndTelemetry : Prop :=
  (∀ (a : Word) (e : DramError) (s : State),
    ((a.toNat < dramBase ∨ dramEnd ≤ a.toNat) → exec (.dramParityError a e) s = .next s) ∧
    (dramBase ≤ a.toNat → a.toNat < dramEnd → e.persist = false →
      ∃ t, exec (.dramParityError a e) s = .next t ∧ t.get F.MEM_DRD_RETRY = min (s.get F.MEM_DRD_RETRY + e.retries.val) 0xFFFF ∧
        t.get F.MEM_DRD_PERSIST = s.get F.MEM_DRD_PERSIST ∧ t = { s with regs := t.regs } ∧ s.regsKept t [R.MEM_DRD]) ∧
    (0x1F000000 ≤ a.toNat → a.toNat < dramEnd → e.persist = true → s.kind .mem = 1 →
      e.eng.val ≠ 6 → e.eng.val ≠ 7 → (∀ u, u < 4 → s.plb.get u = none) →
      ∃ t, exec (.dramParityError a e) s = .next t ∧ t.get F.MEM_DRD_RETRY = min (s.get F.MEM_DRD_RETRY + 3) 0xFFFF ∧
        t.get F.MEM_DRD_PERSIST = min (s.get F.MEM_DRD_PERSIST + 1) 0xFFFF ∧ t.flag (evBit 235) = true ∧
        (∀ k, s.nextSpare k → t.get F.MEM_SPARE_PAGES = k + 1 ∧ t.get F.MEM_RET_LAST_PAGE = a.toNat / 4096 ∧
          t.flag F.MEM_RET_LAST_VALID = true ∧ t.flag (evBit 233) = true ∧
          t.memCare = { s.memCare with
            taken := k + 1, remap := s.memCare.remap.filter (fun x => x.1 != a.toNat / 4096) ++ [(a.toNat / 4096, k)] }) ∧
        ((∀ k, ¬ s.nextSpare k) → t.get F.MEM_SPARE_PAGES = 1024 ∧ t.flag (evBit 234) = true ∧
          t.memCare = { s.memCare with
            taken := 1024, noSpare := true,
            dead := if s.memCare.dead.contains (a.toNat / 4096) then s.memCare.dead else s.memCare.dead ++ [a.toNat / 4096] }) ∧
        t = { s with regs := t.regs, occ := t.occ, mem := t.mem, memCare := t.memCare, fresh := t.fresh } ∧
        s.bytesKept t (a.toNat / 4096 * 4096) 4096 ∧
        s.regsKept t [R.MEM_DRD, R.MEM_SPARE, R.MEM_RET_LAST, H.evt .mem, H.sticky .mem]) ∧
    (∀ p j k : Nat, a.toNat / 4096 + j = 0x1DFFF → j < 1024 → s.memCare.remap.find? (fun x => x.2 == j) = some (p, j) →
      0x1F000 ≤ p → p < 0x20000 → s.nextSpare k → e.persist = true → s.kind .mem = 1 → e.eng.val ≠ 6 → e.eng.val ≠ 7 →
      (∀ u, u < 4 → s.plb.get u = none) →
      ∃ t, exec (.dramParityError a e) s = .next t ∧ t.get F.MEM_SPARE_PAGES = k + 1 ∧ t.get F.MEM_RET_LAST_PAGE = p ∧
        t.flag (evBit 233) = true ∧ t.flag (evBit 235) = true ∧ s.bytesKept t (p * 4096) 4096 ∧
        t.memCare = { s.memCare with taken := k + 1, remap := s.memCare.remap.filter (fun x => x.1 != p) ++ [(p, k)] })) ∧
  (∀ s : State,
    (∀ e, s.runs .mem = false → exec (.scrubRead e) s = .next s) ∧
    (s.runs .mem = true → s.get F.MEM_SCRUB_POS + 1 < 4194304 →
      (∃ t, exec (.scrubRead none) s = .next t ∧ t.get F.MEM_SCRUB_POS = s.get F.MEM_SCRUB_POS + 1 ∧ t = { s with regs := t.regs } ∧
        s.regsKept t [R.MEM_SCRUB_POS]) ∧
      ∀ e : DramError, e.persist = false → ∃ t, exec (.scrubRead (some e)) s = .next t ∧
        t.get F.MEM_SCRUB_POS = s.get F.MEM_SCRUB_POS + 1 ∧ t.get F.MEM_SCRUB_CNT_FIXED = min (s.get F.MEM_SCRUB_CNT_FIXED + 1) 0xFFFF ∧
        t.get F.MEM_DRD_RETRY = min (s.get F.MEM_DRD_RETRY + e.retries.val) 0xFFFF ∧ t = { s with regs := t.regs } ∧
        s.regsKept t [R.MEM_SCRUB_POS, R.MEM_SCRUB_CNT, R.MEM_DRD]) ∧
    (s.runs .mem = true → s.get F.MEM_SCRUB_POS = 4194303 →
      ∃ t, exec (.scrubRead none) s = .next t ∧ t.get F.MEM_SCRUB_POS = 0 ∧ s.occurred t 236 ∧
        t.get F.MEM_SCRUB_CNT_PASS = min (s.get F.MEM_SCRUB_CNT_PASS + 1) 0xFFFF ∧
        s.regsKept t [R.MEM_SCRUB_POS, R.MEM_SCRUB_CNT, H.evt .mem])) ∧
  (∀ (l : FabricLoad) (s : State), exec (.fabricParityError l false) s = .next s) ∧
  (∀ (l : FabricLoad) (s : State), s.kind .sys = 1 → s.kind .lane = 1 →
    ∃ t, exec (.fabricParityError l true) s = .next t ∧ t.flag (evBit 1) = true ∧
      (l = .other → s.occurred t 1 ∧ t = { s with regs := t.regs, occ := t.occ } ∧ s.regsKept t [H.evt .sys]) ∧
      (∀ w, l = .register w → t = { s with regs := t.regs, occ := t.occ, parity := some w } ∧ s.regsKept t [H.evt .sys]) ∧
      (∀ n : Fin 16, l = .laneEntry n → t.get (F.LANE_LOST n.val) = min (s.get (F.LANE_LOST n.val) + 1) 0xFFFF ∧ t.flag (evBit 18) = true ∧
        (s.laneOut n.val = true → (t.lanes.get n.val).lostBefore = true ∧
          (t.lanes.get n.val).lseq = (s.lanes.get n.val).lseq + 1) ∧
        (s.laneOut n.val = false → t.lanes = s.lanes) ∧
        (s.laneIn n.val = true → s.laneLevel n.val ≠ 0 → s.laneType n.val (s.get (F.LANE_TAIL_TAIL n.val)) ≠ 0 →
          t.get (F.LANE_TAIL_TAIL n.val) = s.laneNext n.val (s.get (F.LANE_TAIL_TAIL n.val)))) ∧
      (∀ p : Fin 128, l = .canCommand p → (s.pt p.val).queue = [] → s.occurred t 1 ∧ t = { s with regs := t.regs, occ := t.occ }) ∧
      (∀ (p : Fin 128) c rest, l = .canCommand p → (s.pt p.val).queue = c :: rest → bindKind c.bind = 3 → s.kind .str = 1 →
        t.pt p.val = ({ s.pt p.val with queue := rest } : StrPt).replan ∧ t.flag (evBit 119) = true ∧
        t.get F.STR_CNT_DROP = min (s.get F.STR_CNT_DROP + 1) 0xFFFF) ∧
      (∀ c rest, l = .solCommand → s.str.solWire = c :: rest → c.src = .host →
        t.str = { s.str with solWire := rest } ∧ t.get F.STR_CNT_DROP = min (s.get F.STR_CNT_DROP + 1) 0xFFFF) ∧
      (∀ c rest, l = .hswCommand → s.str.hswWire = c :: rest → c.src = .host →
        t.str = { s.str with hswWire := rest } ∧ t.get F.STR_CNT_DROP = min (s.get F.STR_CNT_DROP + 1) 0xFFFF)) ∧
  (∀ s : State, s.runs .mem = true →
    exec (.supplyCal true) s = .next s ∧
    (∃ t, exec (.supplyCal false) s = .next t ∧ s.occurred t 237 ∧ t.flag ⟨H.sticky .mem, 2, 1⟩ = true ∧
      t.get F.MEM_CAL_FAIL = min (s.get F.MEM_CAL_FAIL + 1) 0xFFFF ∧ t = { s with regs := t.regs, occ := t.occ } ∧
      s.regsKept t [R.MEM_CAL_FAIL, H.evt .mem, H.sticky .mem]) ∧
    (∃ t, exec .telemetrySample s = .next t ∧ t.gets F.MEM_TEL_SLUG_HI = max (s.gets F.MEM_TEL_SLUG_HI) (s.gets F.PWR_SLUG) ∧
      t.gets F.MEM_TEL_SLUG_LO = min (s.gets F.MEM_TEL_SLUG_LO) (s.gets F.PWR_SLUG) ∧
      t.gets F.MEM_TEL_TJ_A = max (s.gets F.MEM_TEL_TJ_A) (s.gets (F.SOL_DIE_TJ 0)) ∧
      t.gets F.MEM_TEL_TJ_B = max (s.gets F.MEM_TEL_TJ_B) (s.gets (F.SOL_DIE_TJ 1)) ∧
      t.get F.MEM_TEL_VBAT_HI = max (s.get F.MEM_TEL_VBAT_HI) (s.sense F.PWR_VBAT_VBAT) ∧
      t.get F.MEM_TEL_VBAT_LO = min (s.get F.MEM_TEL_VBAT_LO) (s.sense F.PWR_VBAT_VBAT) ∧
      t.get F.MEM_TEL_LAT_LAT = max (s.get F.MEM_TEL_LAT_LAT) s.topLat.1 ∧ t = { s with regs := t.regs } ∧
      s.regsKept t [R.MEM_TEL_SLUG, R.MEM_TEL_TJ, R.MEM_TEL_VBAT, R.MEM_TEL_LAT]) ∧
    exec .telemetryPersist s = .next { s with flash := { s.flash with class4 := s.flash.class4 ++ [.telemetry] } }) ∧
  (∀ s : State, s.admitsSet R.MEM_TEL_CMD 1 →
    ∃ t, exec .telClear s = .next t ∧ t.get F.MEM_TEL_SLUG_HI = s.get F.PWR_SLUG ∧ t.get F.MEM_TEL_SLUG_LO = s.get F.PWR_SLUG ∧
      t.get F.MEM_TEL_TJ_A = s.get (F.SOL_DIE_TJ 0) ∧ t.get F.MEM_TEL_TJ_B = s.get (F.SOL_DIE_TJ 1) ∧
      t.get F.MEM_TEL_VBAT_HI = s.sense F.PWR_VBAT_VBAT ∧ t.get F.MEM_TEL_VBAT_LO = s.sense F.PWR_VBAT_VBAT ∧
      t.get F.MEM_TEL_LAT_LAT = s.topLat.1 ∧ t.word R.MEM_TEL_SINCE = s.word R.PWR_HOURS ∧
      t = { s with regs := t.regs, parity := none, lastErr := none } ∧
      s.regsKept t [R.MEM_TEL_SLUG, R.MEM_TEL_TJ, R.MEM_TEL_VBAT, R.MEM_TEL_LAT, R.MEM_TEL_SINCE])

/-- OEM_PROVISION takes SEC_STAGE bytes 0 to 63 into the lowest empty OEM key slot. For slot 0 no authorization is needed;
for slots 1 and 2 SEC_STAGE bytes 64 to 127 must hold the active key's signature over the SHA-256 of the key's 64
bytes and the slot number, or the command ends with RESULT 0x02 and no key is written. With all three slots used it
ends with RESULT 0x08. A key written is the active key, and every footing that verifies from then on carries its
signature, so that the lower slots are revoked. (R658) -/
def Obligations.OemKeysAreProvisionedInOrder : Prop :=
  ∀ (auth ok : Bool) (s : State), s.sec.cmd = some (6, auth) → s.sec.cmdWaits = false →
    ∃ t, exec (.secCmdComplete ok) s = .next t ∧ t.flag F.SEC_CMD_STAT_BUSY = false ∧
      t = { s with regs := t.regs, sec := { s.sec with cmd := none, oem := t.sec.oem }, flash := { s.flash with
        class3 := s.flash.class3.filter (fun o => o != .firmware) } } ∧ s.regsKept t [R.SEC_CMD_STAT] ∧
      (s.sec.oem = [] → t.get F.SEC_CMD_STAT_RESULT = 0 ∧ t.sec.oem = [key512 s.secStage]) ∧
      (∀ k, s.sec.oem.getLast? = some k → s.sec.oem.length < 3 →
        (Config.ecdsaVerify k (Config.sha256 (s.secStage.take 64 ++ [BitVec.ofNat 8 s.sec.oem.length])) (key512 (s.secStage.drop 64)) = true →
          t.get F.SEC_CMD_STAT_RESULT = 0 ∧ t.sec.oem = s.sec.oem ++ [key512 s.secStage]) ∧
        (Config.ecdsaVerify k (Config.sha256 (s.secStage.take 64 ++ [BitVec.ofNat 8 s.sec.oem.length])) (key512 (s.secStage.drop 64)) = false →
          t.get F.SEC_CMD_STAT_RESULT = 2 ∧ t.sec.oem = s.sec.oem)) ∧
      (3 ≤ s.sec.oem.length → t.get F.SEC_CMD_STAT_RESULT = 8 ∧ t.sec.oem = s.sec.oem) ∧
      (t.sec.oem ≠ s.sec.oem → t.oemKey = some (key512 s.secStage) ∧
        ∀ l f, (t.checkFooting l).2 = some f → sigGood (key512 s.secStage) l (flashWord l 0x10 + 4) = true)

/-- An accepted SEC_CMD is busy until it completes, and waits behind chunks still to be signed; ARB_COMMIT and
DBG_KILL without AUTH are refused and counted. Firmware is erased, programmed and verified in the slot that did not
boot; the verification's code is the result, and only a slot that passed can be preferred. ARB_COMMIT raises the
counters in RUN alone. A challenge needs a healthy TRNG and an intact fuse; an unlock serves one challenge and needs
Cendafort's signature; DBG_KILL ends both. TRNG health falls with a failed window, counted and reported, and returns
with 1,024 passing ones. A failed known-answer test makes the block failed and ends the session. Secure boot runs the
preferred slot, which it reads from the record store once after each device reset, else the other, reporting why, else
none, and shows which. The model's choices: that cryptography is opaque (log entry 14), the TRNG's health at reset
(log entry 1902), commands without a challenge or outside RUN (log entry 1903), a slot without MAGIC (log entry 1904),
FW_PROGRAM past the end (log entry 1905), what a written slot shows (log entry 1906), which slot of the preference
passes (log entry 1817), a failed test's commands (log entry 1913), events of a failed block (log entry 1914), and
waiting behind chunks (log entry 1916). (R652, R653, R654, R656, R657, R662, R666, R667, R668, R672, R675) -/
def Obligations.KeystoneCommandsSelfTestsAndBoot : Prop :=
  (∀ (auth : Bool) (v : Nat) (i : Instr) (s : State),
    (v, i) ∈ [(1, Instr.fwErase auth), (2, .fwProgram auth), (3, .fwVerify auth), (4, .fwPrefer auth), (5, .arbCommit auth),
      (6, .oemProvision auth), (7, .dbgChallenge auth), (8, .dbgUnlock auth), (9, .dbgKill auth)] →
    s.admits auth R.SEC_CMD (BitVec.allOnes 32) (BitVec.ofNat 32 v) →
    ∃ t, exec i s = .next t ∧ t.flag F.SEC_CMD_STAT_BUSY = true ∧
      t = { s with regs := t.regs, parity := none, lastErr := none, sec := { s.sec with cmd := some (v, auth), cmdWaits := s.signWaits },
                   flash := { s.flash with class3 := if v ≤ 2 then s.flash.class3 ++ [.firmware] else s.flash.class3 } } ∧
      s.regsKept t [R.SEC_CMD_STAT]) ∧
  (∀ (i : Instr) (s : State), (i = .arbCommit false ∨ i = .dbgKill false) → 4 ≤ s.phaseOf → s.kind .sec = 1 →
    ∃ t, exec i s = .next t ∧ t.lastErr = some (.auth, 0) ∧ t.flag (evBit 241) = true ∧
      t.get F.SYS_LINK_AUTHERR = min (s.get F.SYS_LINK_AUTHERR + 1) 0xFFFF ∧
      t = { s with regs := t.regs, occ := t.occ, parity := none, lastErr := t.lastErr } ∧
      s.regsKept t [R.SYS_LINK_AUTHERR, H.evt .sec, H.sticky .sec]) ∧
  (∀ (ok : Bool) (s : State), (s.sec.cmd = none ∨ s.sec.cmdWaits = true → exec (.secCmdComplete ok) s = .next s)) ∧
  (∀ (ok auth : Bool) (v : Nat) (s : State), s.sec.cmd = some (v, auth) → s.sec.cmdWaits = false → v ≠ 6 →
    ∃ t, exec (.secCmdComplete ok) s = .next t ∧ t.flag F.SEC_CMD_STAT_BUSY = false ∧ t.sec.cmd = none ∧
      t.flash.class3 = s.flash.class3.filter (fun o => o != .firmware) ∧ t.sec.oem = s.sec.oem ∧
      (v = 1 → t.fwSlot (1 - s.fwOther) = s.fwSlot (1 - s.fwOther) ∧ t.sec.pass = s.sec.pass.filter (fun k => k != s.fwOther) ∧
        t.get F.SEC_CMD_STAT_RESULT = (if ok then 0 else 7) ∧ (ok = true → t.fwSlot s.fwOther = [])) ∧
      (v = 2 → t.fwSlot (1 - s.fwOther) = s.fwSlot (1 - s.fwOther) ∧ t.sec.pass = s.sec.pass.filter (fun k => k != s.fwOther) ∧
        t.get F.SEC_CMD_STAT_RESULT = (if ok then 0 else 7) ∧ (ok = true → t.fwSlot s.fwOther =
          (flashWrite (s.fwSlot s.fwOther) (s.get F.SEC_FW_OFS) (s.secWindow (s.get F.SEC_FW_LEN))).take 0x400000)) ∧
      (v = 3 → t.get F.SEC_CMD_STAT_RESULT = fwCheck (s.fwSlot s.fwOther) s.sec.arbFw ∧ t.sec.slotA = s.sec.slotA ∧
        t.sec.slotB = s.sec.slotB ∧ t.sec.pass = s.sec.pass.filter (fun k => k != s.fwOther) ++
          (if fwCheck (s.fwSlot s.fwOther) s.sec.arbFw = 0 then [s.fwOther] else [])) ∧
      (v = 4 → t.sec = { s.sec with cmd := none } ∧ t.get F.SEC_CMD_STAT_RESULT = (if s.sec.pass.contains s.fwOther then 0 else 4) ∧
        t.flash.store.prefer = (if s.sec.pass.contains s.fwOther then some s.fwOther else s.flash.store.prefer) ∧
        t.flash.older.prefer = (if s.sec.pass.contains s.fwOther then s.flash.store.prefer else s.flash.older.prefer)) ∧
      (v = 5 → t.get F.SEC_CMD_STAT_RESULT = (if s.phaseOf = 5 then 0 else 9) ∧
        (s.phaseOf = 5 → t.sec.arbFw = max s.sec.arbFw (min 127 s.fwRunning.svn) ∧
          t.sec.arbFtg = max s.sec.arbFtg (min 127 s.cfg.selSvn)) ∧
        (s.phaseOf ≠ 5 → t.sec = { s.sec with cmd := none })) ∧
      (v = 7 → (s.sec.kill = true → t.get F.SEC_CMD_STAT_RESULT = 9 ∧ t.sec = { s.sec with cmd := none }) ∧
        (s.sec.kill = false → s.sec.healthy = false → t.get F.SEC_CMD_STAT_RESULT = 10 ∧ t.sec = { s.sec with cmd := none }) ∧
        (s.sec.kill = false → s.sec.healthy = true → t.get F.SEC_CMD_STAT_RESULT = 0 ∧ t.draws = s.draws + 1 ∧
          t.sec.chal = some (leBytes 16 (Config.trng s.draws).toNat) ∧ t.sec.chalLast = leBytes 16 (Config.trng s.draws).toNat)) ∧
      (v = 8 → (s.sec.kill = true ∨ s.sec.chal = none → t.get F.SEC_CMD_STAT_RESULT = 9 ∧ t.sec = { s.sec with cmd := none }) ∧
        (∀ c, s.sec.kill = false → s.sec.chal = some c → s.kind .sec = 1 → t.sec.chal = none ∧
          (Config.ecdsaVerify Config.cendafortKey (Config.sha256 (c ++ devicePub)) (key512 s.secStage) = true →
            t.get F.SEC_CMD_STAT_RESULT = 0 ∧ t.sec.unlocked = true ∧ t.sec.certified = false ∧ t.flag (evBit 245) = true) ∧
          (Config.ecdsaVerify Config.cendafortKey (Config.sha256 (c ++ devicePub)) (key512 s.secStage) = false →
            t.get F.SEC_CMD_STAT_RESULT = 2 ∧ t.sec.unlocked = s.sec.unlocked))) ∧
      (v = 9 → t.sec = { s.sec with cmd := none, kill := true } ∧ t.get F.SEC_CMD_STAT_RESULT = 0)) ∧
  (∀ s : State, s.kind .sec = 1 →
    (∃ t, exec (.trngTestWindow true) s = .next t ∧ t.sec = { s.sec with
        runs := min 1024 (s.sec.runs + 1), healthy := s.sec.healthy || s.sec.runs + 1 == 1024 } ∧
      t.flag F.SEC_TRNG_CNT_OK = t.sec.healthy ∧ t = { s with regs := t.regs, sec := t.sec } ∧ s.regsKept t [R.SEC_TRNG_CNT]) ∧
    (∃ t, exec (.trngTestWindow false) s = .next t ∧ t.sec = { s.sec with runs := 0, healthy := false } ∧ s.occurred t 247 ∧
      t.flag F.SEC_TRNG_CNT_OK = false ∧ t.get F.SEC_TRNG_CNT_N = min (s.get F.SEC_TRNG_CNT_N + 1) 0xFFFF ∧
      t = { s with regs := t.regs, occ := t.occ, sec := t.sec } ∧ s.regsKept t [R.SEC_TRNG_CNT, H.evt .sec]) ∧
    exec (.katPeriodic true) s = .next s ∧
    (s.sec.running = true → ∃ t, exec (.katPeriodic false) s = .next t ∧ t.kind .sec = 2 ∧ t.sec.session = none ∧
      t.sec.hello = none ∧ t.sec.certified = false ∧ t.flag (evBit 240) = true ∧
      (s.sec.session.isSome = true → t.flag (evBit 242) = true) ∧ t.failed = s.failed ++ [.sec])) ∧
  (∀ (l : List Block) (b : Bool) (pref : StoreSlot) (p : Nat) (s : State), s.phaseOf = 1 → s.pwr.held = false → s.clocks.step ≠ 8 →
    (s.flag F.CLK_STAT_FBARM = true ∨ s.clocks.step = 6) →
    p = s.fwPreferred (match s.sec.prefer with
      | some x => x
      | none => match pref with
        | .newest => s.flash.store.prefer
        | .older => s.flash.older.prefer
        | .neither => none) →
    ∃ t, exec (.pu1End l b true pref) s = .next t ∧ t.phaseOf = 2 ∧
      (fwCheck (s.fwSlot p) s.sec.arbFw = 0 → t.get F.SYS_BOOT_RES = 0 ∧ t.get F.SYS_BOOT_SLOT = p % 2 ∧ t.sec.running = true) ∧
      (fwCheck (s.fwSlot p) s.sec.arbFw ≠ 0 →
        (fwCheck (s.fwSlot (1 - p)) s.sec.arbFw = 0 → t.get F.SYS_BOOT_RES = 1 ∧
          t.get F.SYS_BOOT_SLOT = 1 - p ∧ t.sec.running = true ∧
          t.sec.bootErr = (if fwCheck (s.fwSlot p) s.sec.arbFw = 3 then [244] else [243])) ∧
        (fwCheck (s.fwSlot (1 - p)) s.sec.arbFw ≠ 0 → t.get F.SYS_BOOT_RES = 2 ∧ t.sec.running = false)))

/-- A GO that is accepted latches the unit's registers and shows it running, or only counts as discarded while the
block is disabled. A STOP of a running unit aborts it after whole blocks, with no more bytes done than the run has
(how far it has come is the model's choice, log entry 5); of a unit that does not run it changes nothing. A run whose
stream lies on a dead page ends LOST with the bytes before that page done. A run whose stream nothing wrote meanwhile
shows its check value and length when it ends; one whose stream changed shows a value that the spec leaves open (model
choice, log entry 5), within W bits, and is compared with it; with an expected value, from the registers or from
memory, it shows whether the low W bits agree, and a mismatch sets the unit's sticky bit and raises its event. Memory
stays as it is. The model's choices: GO of a disabled block (log entry 1908), where the expected value may lie (log
entry 1909), CMP and MATCH before the comparison (log entry 1910), a stream that was written meanwhile (log entry
1911), how far a run has come (log entry 1912), and a dead page in its stream (log entry 1810). (R677, R678, R679,
R680, R684) -/
def Obligations.PlumbUnitsRunAndCompare : Prop :=
  ∀ (u : Fin 4) (s : State),
    (s.admitsSet (R.PLB_CMD u.val) 1 → s.enabled .plb = false →
      ∃ t, exec (.plbGo u) s = .next t ∧ t.get F.PLB_DISC = min (s.get F.PLB_DISC + 1) 0xFFFF ∧
        t = { s with regs := t.regs, parity := none, lastErr := none } ∧ s.regsKept t [R.PLB_DISC]) ∧
    (s.admitsSet (R.PLB_CMD u.val) 1 → s.enabled .plb = true →
      ∃ t, exec (.plbGo u) s = .next t ∧ t.get (F.PLB_STAT_STATE u.val) = 1 ∧ t.flag (F.PLB_STAT_CMP u.val) = false ∧
        t.flag (F.PLB_STAT_MATCH u.val) = false ∧ t.get (F.PLB_DONE u.val) = 0 ∧
        t = { s with regs := t.regs, plb := s.plb.set u.val (some (s.plbLatch u.val)), parity := none, lastErr := none } ∧
        s.regsKept t [R.PLB_STAT u.val, R.PLB_DONE u.val]) ∧
    (s.admitsSet (R.PLB_CMD u.val) 2 →
      (s.plb.get u.val = none → exec (.plbStop u) s = .next s.settled) ∧
      ∀ r, s.plb.get u.val = some r →
        ∃ t, exec (.plbStop u) s = .next t ∧ t.get (F.PLB_STAT_STATE u.val) = 3 ∧ t.get (F.PLB_DONE u.val) = s.plbProgress u.val r % 2 ^ 28 ∧
          s.plbProgress u.val r ≤ r.length ∧
          (s.plbProgress u.val r = r.length ∨ r.unit ∣ s.plbProgress u.val r ∨ r.lostAt = some (s.plbProgress u.val r)) ∧
          t = { s with regs := t.regs, plb := s.plb.set u.val none, parity := none, lastErr := none } ∧
          s.regsKept t [R.PLB_STAT u.val, R.PLB_DONE u.val]) ∧
    (s.plb.get u.val = none → exec (.plbRunEnd u) s = .next s) ∧
    (∀ (r : PlbRun) (n : Nat), s.plb.get u.val = some r → r.lostAt = some n →
      ∃ t, exec (.plbRunEnd u) s = .next t ∧ t.get (F.PLB_STAT_STATE u.val) = 4 ∧ t.get (F.PLB_DONE u.val) = n % 2 ^ 28 ∧
        t.flag ⟨H.sticky .plb, 4, 1⟩ = true ∧ t = { s with regs := t.regs, plb := s.plb.set u.val none } ∧
        s.regsKept t [R.PLB_STAT u.val, R.PLB_DONE u.val, H.sticky .plb]) ∧
    (∀ (r : PlbRun) (v x e : Nat), s.plb.get u.val = some r → r.lostAt = none → s.kind .plb = 1 → s.plbStream r = r.data →
      v = plbValue r.width (r.pair 1) (r.pair 3) (r.pair 5) (nbit (r.word 0) 8) (nbit (r.word 0) 9) r.data →
      x = leNat (if nbit (r.word 0) 29 then (s.bytes (r.word 7 + r.word 8) ((r.width + 7) / 8)).reverse
                 else s.bytes (r.word 7 + r.word 8) ((r.width + 7) / 8)) →
      e = (if r.expSrc = 2 then x else r.pair 9) →
      ∃ t, exec (.plbRunEnd u) s = .next t ∧ t.get (F.PLB_STAT_STATE u.val) = 2 ∧ t.nat64 (R.PLB_RES_LO u.val) = v ∧
        t.get (F.PLB_DONE u.val) = r.length % 2 ^ 28 ∧
        t = { s with regs := t.regs, occ := t.occ, plb := s.plb.set u.val none, plbMis := t.plbMis } ∧
        (r.expSrc = 0 → t.occ = s.occ ∧ t.plbMis = s.plbMis ∧
          s.regsKept t [R.PLB_STAT u.val, R.PLB_DONE u.val, R.PLB_RES_LO u.val, R.PLB_RES_HI u.val]) ∧
        (r.expSrc ≠ 0 → t.flag (F.PLB_STAT_CMP u.val) = true ∧
          t.flag (F.PLB_STAT_MATCH u.val) = decide (e % 2 ^ r.width = v % 2 ^ r.width) ∧
          t.plbMis = s.plbMis.set u.val (!decide (e % 2 ^ r.width = v % 2 ^ r.width)) ∧
          (r.expSrc = 2 → t.nat64 (R.PLB_EXP_LO u.val) = x) ∧ (r.expSrc ≠ 2 → t.nat64 (R.PLB_EXP_LO u.val) = s.nat64 (R.PLB_EXP_LO u.val)) ∧
          (e % 2 ^ r.width = v % 2 ^ r.width → t.occ = s.occ) ∧
          (e % 2 ^ r.width ≠ v % 2 ^ r.width → s.occurred t (249 + u.val) ∧ t.flag ⟨H.sticky .plb, u.val, 1⟩ = true) ∧
          s.regsKept t [R.PLB_STAT u.val, R.PLB_DONE u.val, R.PLB_RES_LO u.val, R.PLB_RES_HI u.val, R.PLB_EXP_LO u.val,
            R.PLB_EXP_HI u.val, H.evt .plb, H.sticky .plb])) ∧
    (∀ (r : PlbRun), s.plb.get u.val = some r → r.lostAt = none → s.kind .plb = 1 → s.plbStream r ≠ r.data →
      ∃ t, exec (.plbRunEnd u) s = .next t ∧ t.get (F.PLB_STAT_STATE u.val) = 2 ∧ t.nat64 (R.PLB_RES_LO u.val) < 2 ^ r.width ∧
        t.get (F.PLB_DONE u.val) = r.length % 2 ^ 28 ∧
        t = { s with regs := t.regs, occ := t.occ, fresh := s.fresh + 1, plb := s.plb.set u.val none, plbMis := t.plbMis } ∧
        (r.expSrc = 1 → t.flag (F.PLB_STAT_CMP u.val) = true ∧ t.flag (F.PLB_STAT_MATCH u.val) =
          decide (r.pair 9 % 2 ^ r.width = t.nat64 (R.PLB_RES_LO u.val) % 2 ^ r.width)))
end

