-- ==== Sys2Proof/Laws/Table.lean ====
section
/-! SUPPORT. The laws of sparse tables: a read after a write to the same key gives the value written, a write leaves every
other key alone, and every operation keeps the canonical form. -/

namespace Sys2Proof.Machine

variable {α : Type}

theorem Table.find_drop_same (d : α) (k : Nat) : ∀ t : List (Nat × α), Table.find d k (Table.drop k t) = d
  | [] => rfl
  | (j, v) :: t => by
    by_cases h : j = k
    · simp [Table.drop, h, Table.find_drop_same d k t]
    · simp [Table.drop, h, Table.find, Table.find_drop_same d k t]

theorem Table.find_drop_ne (d : α) {k m : Nat} (h : m ≠ k) :
    ∀ t : List (Nat × α), Table.find d m (Table.drop k t) = Table.find d m t
  | [] => rfl
  | (j, v) :: t => by
    by_cases hk : j = k
    · have hm : k ≠ m := fun e => h e.symm
      simp [Table.drop, Table.find, hk, hm, Table.find_drop_ne d h t]
    · simp [Table.drop, Table.find, hk, Table.find_drop_ne d h t]

theorem Table.find_put_same (d : α) (k : Nat) (v : α) : ∀ t : List (Nat × α), Table.find d k (Table.put k v t) = v
  | [] => by simp [Table.put, Table.find]
  | (j, w) :: t => by
    by_cases h1 : k < j
    · simp [Table.put, Table.find, h1]
    · by_cases h2 : k = j
      · simp [Table.put, Table.find, h2]
      · have h3 : j ≠ k := fun e => h2 e.symm
        simp [Table.put, Table.find, h1, h2, h3, Table.find_put_same d k v t]

theorem Table.find_put_ne (d : α) {k m : Nat} (v : α) (h : m ≠ k) :
    ∀ t : List (Nat × α), Table.find d m (Table.put k v t) = Table.find d m t
  | [] => by
    have hk : k ≠ m := fun e => h e.symm
    simp [Table.put, Table.find, hk]
  | (j, w) :: t => by
    have hk : k ≠ m := fun e => h e.symm
    by_cases h1 : k < j
    · simp [Table.put, Table.find, h1, hk]
    · by_cases h2 : k = j
      · subst h2
        simp [Table.put, Table.find, hk]
      · simp [Table.put, Table.find, h1, h2, Table.find_put_ne d v h t]

/-- A read after a write to the same key gives the value written. -/
@[simp] theorem Table.find_write_same [DecidableEq α] (d : α) (k : Nat) (v : α) (t : List (Nat × α)) :
    Table.find d k (Table.write d k v t) = v := by
  unfold Table.write
  split
  · next h => rw [Table.find_drop_same, h]
  · exact Table.find_put_same d k v t

/-- A write leaves every other key alone. -/
theorem Table.find_write_ne [DecidableEq α] (d e : α) {k m : Nat} (v : α) (h : m ≠ k) (t : List (Nat × α)) :
    Table.find e m (Table.write d k v t) = Table.find e m t := by
  unfold Table.write
  split
  · exact Table.find_drop_ne e h t
  · exact Table.find_put_ne e v h t

@[simp] theorem Table.get_set_same [Inhabited α] [DecidableEq α] (t : Table α) (k : Nat) (v : α) :
    (t.set k v).get k = v := Table.find_write_same default k v t

theorem Table.get_set_ne [Inhabited α] [DecidableEq α] (t : Table α) {k m : Nat} (v : α) (h : m ≠ k) :
    (t.set k v).get m = t.get m := Table.find_write_ne default default v h t

@[simp] theorem Table.get_modify_same [Inhabited α] [DecidableEq α] (t : Table α) (k : Nat) (f : α → α) :
    (t.modify k f).get k = f (t.get k) := Table.get_set_same t k _

theorem Table.get_modify_ne [Inhabited α] [DecidableEq α] (t : Table α) {k m : Nat} (f : α → α) (h : m ≠ k) :
    (t.modify k f).get m = t.get m := Table.get_set_ne t _ h

/-! ## The canonical form -/

/-- A bound below every key may be lowered. -/
theorem Table.risingFrom_weaken {lo hi : Nat} (h : lo ≤ hi) :
    ∀ t : List (Nat × α), Table.risingFrom (some hi) t = true → Table.risingFrom (some lo) t = true
  | [], _ => rfl
  | (j, v) :: t, ht => by
    simp only [Table.risingFrom, Bool.and_eq_true, decide_eq_true_eq] at ht ⊢
    exact ⟨by omega, ht.2⟩

theorem Table.risingFrom_none {lo : Nat} :
    ∀ t : List (Nat × α), Table.risingFrom (some lo) t = true → Table.risingFrom none t = true
  | [], _ => rfl
  | (j, v) :: t, ht => by
    simp only [Table.risingFrom, Bool.and_eq_true, decide_eq_true_eq] at ht ⊢
    exact ⟨trivial, ht.2⟩

theorem Table.drop_rising (k : Nat) : ∀ (lo : Option Nat) (t : List (Nat × α)),
    Table.risingFrom lo t = true → Table.risingFrom lo (Table.drop k t) = true
  | _, [], _ => rfl
  | lo, (j, v) :: t, ht => by
    simp only [Table.risingFrom, Bool.and_eq_true] at ht
    by_cases h : j = k
    · simp only [Table.drop, h, if_true]
      apply Table.drop_rising k lo t
      cases lo with
      | none => exact Table.risingFrom_none t ht.2
      | some l => exact Table.risingFrom_weaken (Nat.le_of_lt (by simpa using ht.1)) t ht.2
    · simp only [Table.drop, h, if_false, Table.risingFrom, Bool.and_eq_true]
      exact ⟨ht.1, Table.drop_rising k (some j) t ht.2⟩

theorem Table.put_rising (k : Nat) (v : α) : ∀ (lo : Option Nat) (t : List (Nat × α)),
    (∀ l, lo = some l → l < k) → Table.risingFrom lo t = true → Table.risingFrom lo (Table.put k v t) = true
  | lo, [], hl, _ => by cases lo <;> simp_all [Table.put, Table.risingFrom]
  | lo, (j, w) :: t, hl, ht => by
    simp only [Table.risingFrom, Bool.and_eq_true] at ht
    by_cases h1 : k < j
    · simp only [Table.put, h1, if_true, Table.risingFrom, Bool.and_eq_true, decide_eq_true_eq, true_and]
      exact ⟨by cases lo <;> simp_all, ht.2⟩
    · by_cases h2 : k = j
      · subst h2
        simp only [Table.put, h1, if_false, if_true, Table.risingFrom, Bool.and_eq_true]
        exact ⟨by cases lo <;> simp_all, ht.2⟩
      · simp only [Table.put, h1, h2, if_false, Table.risingFrom, Bool.and_eq_true]
        exact ⟨ht.1, Table.put_rising k v (some j) t (by intro l hl; cases hl; omega) ht.2⟩

theorem Table.drop_all (p : Nat × α → Bool) (k : Nat) :
    ∀ t : List (Nat × α), t.all p = true → (Table.drop k t).all p = true
  | [], _ => rfl
  | (j, v) :: t, ht => by
    simp only [List.all_cons, Bool.and_eq_true] at ht
    by_cases h : j = k
    · simpa [Table.drop, h] using Table.drop_all p k t ht.2
    · simp only [Table.drop, h, if_false, List.all_cons, Bool.and_eq_true]
      exact ⟨ht.1, Table.drop_all p k t ht.2⟩

theorem Table.put_all (p : Nat × α → Bool) (k : Nat) (v : α) (hp : p (k, v) = true) :
    ∀ t : List (Nat × α), t.all p = true → (Table.put k v t).all p = true
  | [], _ => by simp [Table.put, hp]
  | (j, w) :: t, ht => by
    simp only [List.all_cons, Bool.and_eq_true] at ht
    by_cases h1 : k < j
    · simp only [Table.put, h1, if_true, List.all_cons, Bool.and_eq_true]
      exact ⟨hp, ht⟩
    · by_cases h2 : k = j
      · subst h2
        simp only [Table.put, h1, if_false, if_true, List.all_cons, Bool.and_eq_true]
        exact ⟨hp, ht.2⟩
      · simp only [Table.put, h1, h2, if_false, List.all_cons, Bool.and_eq_true]
        exact ⟨ht.1, Table.put_all p k v hp t ht.2⟩

/-- A write keeps the canonical form. -/
theorem Table.write_wf [DecidableEq α] (d : Nat → α) (k : Nat) (v : α) (t : List (Nat × α)) (h : Table.wf d t = true) :
    Table.wf d (Table.write (d k) k v t) = true := by
  simp only [Table.wf, Bool.and_eq_true] at h ⊢
  unfold Table.write
  split
  · exact ⟨Table.drop_rising k none t h.1, Table.drop_all _ k t h.2⟩
  · next hv => exact ⟨Table.put_rising k v none t (by simp) h.1, Table.put_all _ k v (by simpa using hv) t h.2⟩

end Sys2Proof.Machine
end

