-- ==== Sys2Proof/Laws/Fields.lean ====
section
/-! SUPPORT. Register words and their fields: a field reads as what was put into it, and putting a field leaves every other
field and every other register alone. -/

namespace Sys2Proof.Machine

open Sys2Proof

/-! ## Fields of a word -/

theorem testBit_takeField (x : Word) (lo w i : Nat) :
    (takeField x lo w).testBit i = (decide (i < w) && x.getLsbD (lo + i)) := by
  simp [takeField, Nat.testBit_mod_two_pow, Nat.testBit_div_two_pow, BitVec.getLsbD, Nat.add_comm]

theorem testBit_ones_shift (lo w i : Nat) : ((2 ^ w - 1) * 2 ^ lo).testBit i = (decide (lo ≤ i) && decide (i < lo + w)) := by
  rw [Nat.mul_comm, Nat.testBit_two_pow_mul, Nat.testBit_two_pow_sub_one]
  by_cases h : lo ≤ i
  · simp only [h, decide_true, Bool.true_and]
    congr 1
    exact propext (by omega)
  · simp [h]

theorem getLsbD_insertField (x : Word) (lo w v i : Nat) (hi : i < 32) :
    (insertField x lo w v).getLsbD i = (if lo ≤ i ∧ i < lo + w then v.testBit (i - lo) else x.getLsbD i) := by
  unfold insertField fieldMask
  rw [BitVec.getLsbD_or, BitVec.getLsbD_and, BitVec.getLsbD_not, BitVec.getLsbD_ofNat, BitVec.getLsbD_ofNat,
    testBit_ones_shift, Nat.mul_comm, Nat.testBit_two_pow_mul, Nat.testBit_mod_two_pow]
  by_cases h1 : lo ≤ i
  · by_cases h2 : i < lo + w
    · have : i - lo < w := by omega
      simp [h1, h2, hi, this]
    · have : ¬ i - lo < w := by omega
      simp [h1, h2, hi, this]
  · simp [h1, hi]

/-- A field reads as what was put into it. -/
theorem takeField_insertField_same (x : Word) (lo w v : Nat) (h : lo + w ≤ 32) :
    takeField (insertField x lo w v) lo w = v % 2 ^ w := by
  apply Nat.eq_of_testBit_eq
  intro i
  rw [testBit_takeField, Nat.testBit_mod_two_pow]
  by_cases hi : i < w
  · rw [getLsbD_insertField _ _ _ _ _ (by omega)]
    simp [hi]
  · simp [hi]

/-- A field that has no bit in common with the one put reads as before. -/
theorem takeField_insertField_apart (x : Word) (lo w v lo' w' : Nat) (h' : lo' + w' ≤ 32)
    (h : lo' + w' ≤ lo ∨ lo + w ≤ lo') : takeField (insertField x lo w v) lo' w' = takeField x lo' w' := by
  apply Nat.eq_of_testBit_eq
  intro i
  rw [testBit_takeField, testBit_takeField]
  by_cases hi : i < w'
  · rw [getLsbD_insertField _ _ _ _ _ (by omega)]
    have : ¬ (lo ≤ lo' + i ∧ lo' + i < lo + w) := by omega
    simp [this]
  · simp [hi]

/-- Putting the value that a field has changes nothing. -/
theorem insertField_take (x : Word) (lo w : Nat) : insertField x lo w (takeField x lo w) = x := by
  apply BitVec.eq_of_getLsbD_eq
  intro i hi
  rw [getLsbD_insertField _ _ _ _ _ hi]
  split
  · next h =>
    rw [testBit_takeField]
    have h1 : i - lo < w := by omega
    have h2 : lo + (i - lo) = i := by omega
    simp [h1, h2]
  · rfl

/-! ## Registers -/

@[simp] theorem State.word_setWord_same (s : State) (a : Nat) (w : Word) : (s.setWord a w).word a = w :=
  Table.find_write_same _ a w s.regs

theorem State.word_setWord_ne (s : State) {a b : Nat} (w : Word) (h : b ≠ a) : (s.setWord a w).word b = s.word b :=
  Table.find_write_ne _ _ w h s.regs

theorem State.word_setWord (s : State) (a b : Nat) (w : Word) :
    (s.setWord a w).word b = if b = a then w else s.word b := by
  split
  · next h => rw [h, State.word_setWord_same]
  · next h => exact s.word_setWord_ne w h

/-- A field reads, modulo its width, what was put into it. -/
theorem State.get_put_same (s : State) (f : Fld) (v : Nat) (h : f.lo + f.w ≤ 32) : (s.put f v).get f = v % 2 ^ f.w := by
  unfold State.get State.put
  rw [State.word_setWord_same, takeField_insertField_same _ _ _ _ h]

/-- A field of another register is left alone. -/
theorem State.get_put_addr (s : State) {f g : Fld} (v : Nat) (h : g.addr ≠ f.addr) : (s.put f v).get g = s.get g := by
  unfold State.get State.put
  rw [State.word_setWord_ne _ _ h]

/-- A field of the same register with no bit in common is left alone. -/
theorem State.get_put_apart (s : State) {f g : Fld} (v : Nat) (hg : g.lo + g.w ≤ 32)
    (h : g.lo + g.w ≤ f.lo ∨ f.lo + f.w ≤ g.lo) : (s.put f v).get g = s.get g := by
  unfold State.get State.put
  rw [State.word_setWord]
  split
  · next e => rw [e, takeField_insertField_apart _ _ _ _ _ _ hg h]
  · rfl

theorem State.word_put_ne (s : State) (f : Fld) (v : Nat) {a : Nat} (h : a ≠ f.addr) : (s.put f v).word a = s.word a :=
  s.word_setWord_ne _ h

theorem State.flag_putB_same (s : State) (f : Fld) (b : Bool) (h : f.lo + f.w ≤ 32) (hw : f.w = 1) :
    (s.putB f b).flag f = b := by
  unfold State.flag State.putB
  rw [State.get_put_same _ _ _ h, hw]
  cases b <;> rfl

/-! ## Events -/

/-- An event of a present block leaves its pending bit set. -/
theorem State.flag_raise (s : State) (e : Nat) (h : s.kind (evOwner e) = 1) : (s.raise e).flag (evBit e) = true := by
  have h' : (s.raise e) = { s.put (evBit e) 1 with occ := s.occ ++ [(e, s.tag)] } := by
    unfold State.raise
    simp [h]
  have hg : (s.raise e).get (evBit e) = (s.put (evBit e) 1).get (evBit e) := by rw [h']; rfl
  have hw : (evBit e).w = 1 := by unfold evBit; split <;> rfl
  have hl : (evBit e).lo + (evBit e).w ≤ 32 := by
    have : (evBit e).lo = e % 16 := by unfold evBit; split <;> rfl
    omega
  unfold State.flag
  rw [hg, State.get_put_same _ _ _ hl, hw]
  rfl

/-- Raising an event changes no register but the one that holds its pending bit. -/
theorem State.word_raise_ne (s : State) (e : Nat) {a : Nat} (h : a ≠ (evBit e).addr) : (s.raise e).word a = s.word a := by
  unfold State.raise
  dsimp only
  split
  · exact s.word_put_ne _ _ h
  · rfl

/-! ## DRAM -/

@[simp] theorem State.deadPage_setByte (s : State) (a : Nat) (b : Byte) (c : Nat) :
    (s.setByte a b).deadPage c = s.deadPage c := rfl

theorem State.byte_setByte_same (s : State) (a : Nat) (b : Byte) (h : s.deadPage a = false) : (s.setByte a b).byte a = b := by
  simp [State.byte, State.setByte, h, Table.find_write_same]

theorem State.byte_setByte_ne (s : State) {a c : Nat} (b : Byte) (h : c ≠ a) : (s.setByte a b).byte c = s.byte c := by
  unfold State.byte State.setByte
  dsimp only
  split
  · rfl
  · exact Table.find_write_ne _ _ b h s.mem

/-- What is written to a page that no spare can replace is lost (R37). -/
theorem State.byte_setByte_dead (s : State) (a : Nat) (b : Byte) (h : s.deadPage a = true) : s.setByte a b = s := by
  simp [State.setByte, h]

/-- Bytes outside those written read as before. -/
theorem State.byte_setBytes_ne (l : List Byte) : ∀ (s : State) (a c : Nat), (c < a ∨ a + l.length ≤ c) →
    (s.setBytes a l).byte c = s.byte c := by
  induction l with
  | nil => intro s a c _; rfl
  | cons b t ih =>
    intro s a c h
    simp only [List.length_cons] at h
    simp only [State.setBytes]
    rw [ih _ _ _ (by omega), State.byte_setByte_ne _ _ (by omega)]

/-- Bytes written to live pages read back. -/
theorem State.byte_setBytes_get (l : List Byte) : ∀ (s : State) (a i : Nat) (h : i < l.length),
    s.deadPage (a + i) = false → (s.setBytes a l).byte (a + i) = l[i] := by
  induction l with
  | nil => intro s a i h; simp at h
  | cons b t ih =>
    intro s a i h hd
    simp only [State.setBytes]
    cases i with
    | zero => rw [State.byte_setBytes_ne _ _ _ _ (by omega)]; exact State.byte_setByte_same _ _ _ hd
    | succ k =>
      have hk : k < t.length := by simpa using h
      rw [show a + (k + 1) = a + 1 + k by omega] at hd ⊢
      rw [ih (s.setByte a b) _ _ hk hd]
      simp

end Sys2Proof.Machine
end

