-- ==== Sys2Proof/Laws/State.lean ====
section
/-! SUPPORT. What each named update of registers, DRAM and events leaves alone: every other part of the state. -/

namespace Sys2Proof.Machine

open Sys2Proof

/-! ## Registers and DRAM -/

@[simp] theorem State.setWord_frame (s : State) (a : Nat) (w : Word) :
    (s.setWord a w).pending = s.pending ∧ (s.setWord a w).clk = s.clk ∧ (s.setWord a w).tag = s.tag ∧
    (s.setWord a w).fresh = s.fresh ∧ (s.setWord a w).draws = s.draws ∧ (s.setWord a w).mem = s.mem ∧
    (s.setWord a w).shadow = s.shadow ∧ (s.setWord a w).dieBFail = s.dieBFail ∧ (s.setWord a w).failed = s.failed ∧
    (s.setWord a w).occ = s.occ ∧ (s.setWord a w).lastErr = s.lastErr ∧ (s.setWord a w).link = s.link ∧
    (s.setWord a w).cfg = s.cfg ∧ (s.setWord a w).lanes = s.lanes ∧ (s.setWord a w).gnss = s.gnss ∧
    (s.setWord a w).gnssCh = s.gnssCh ∧ (s.setWord a w).nav = s.nav ∧ (s.setWord a w).enc = s.enc ∧
    (s.setWord a w).ssi = s.ssi ∧ (s.setWord a w).emu = s.emu ∧ (s.setWord a w).ain = s.ain ∧
    (s.setWord a w).fus = s.fus ∧ (s.setWord a w).canCtl = s.canCtl ∧ (s.setWord a w).canObj = s.canObj ∧
    (s.setWord a w).geo = s.geo ∧ (s.setWord a w).str = s.str ∧ (s.setWord a w).armCh = s.armCh ∧
    (s.setWord a w).armSw = s.armSw ∧ (s.setWord a w).armDie = s.armDie ∧ (s.setWord a w).sol = s.sol ∧
    (s.setWord a w).hsw = s.hsw ∧ (s.setWord a w).hswGen = s.hswGen ∧ (s.setWord a w).hswVhs = s.hswVhs ∧
    (s.setWord a w).hswKeep = s.hswKeep ∧ (s.setWord a w).stamps = s.stamps ∧ (s.setWord a w).pacer = s.pacer ∧
    (s.setWord a w).lap = s.lap ∧ (s.setWord a w).inj = s.inj ∧ (s.setWord a w).cap = s.cap ∧
    (s.setWord a w).ctl = s.ctl ∧ (s.setWord a w).clocks = s.clocks ∧ (s.setWord a w).pwr = s.pwr ∧
    (s.setWord a w).flash = s.flash ∧ (s.setWord a w).recd = s.recd ∧ (s.setWord a w).memCare = s.memCare ∧
    (s.setWord a w).sec = s.sec ∧ (s.setWord a w).plb = s.plb ∧ (s.setWord a w).plbMis = s.plbMis ∧
    (s.setWord a w).parity = s.parity ∧ (s.setWord a w).boots = s.boots :=
  ⟨rfl, rfl, rfl, rfl, rfl, rfl, rfl, rfl, rfl, rfl, rfl, rfl, rfl, rfl, rfl, rfl, rfl, rfl, rfl, rfl, rfl, rfl, rfl, rfl, rfl, rfl, rfl, rfl, rfl, rfl, rfl, rfl, rfl, rfl, rfl, rfl, rfl, rfl, rfl, rfl, rfl, rfl, rfl, rfl, rfl, rfl, rfl, rfl, rfl, rfl⟩

@[simp] theorem State.put_frame (s : State) (f : Fld) (v : Nat) :
    (s.put f v).pending = s.pending ∧ (s.put f v).clk = s.clk ∧ (s.put f v).tag = s.tag ∧
    (s.put f v).fresh = s.fresh ∧ (s.put f v).draws = s.draws ∧ (s.put f v).mem = s.mem ∧
    (s.put f v).shadow = s.shadow ∧ (s.put f v).dieBFail = s.dieBFail ∧ (s.put f v).failed = s.failed ∧
    (s.put f v).occ = s.occ ∧ (s.put f v).lastErr = s.lastErr ∧ (s.put f v).link = s.link ∧ (s.put f v).cfg = s.cfg ∧
    (s.put f v).lanes = s.lanes ∧ (s.put f v).gnss = s.gnss ∧ (s.put f v).gnssCh = s.gnssCh ∧
    (s.put f v).nav = s.nav ∧ (s.put f v).enc = s.enc ∧ (s.put f v).ssi = s.ssi ∧ (s.put f v).emu = s.emu ∧
    (s.put f v).ain = s.ain ∧ (s.put f v).fus = s.fus ∧ (s.put f v).canCtl = s.canCtl ∧
    (s.put f v).canObj = s.canObj ∧ (s.put f v).geo = s.geo ∧ (s.put f v).str = s.str ∧ (s.put f v).armCh = s.armCh ∧
    (s.put f v).armSw = s.armSw ∧ (s.put f v).armDie = s.armDie ∧ (s.put f v).sol = s.sol ∧ (s.put f v).hsw = s.hsw ∧
    (s.put f v).hswGen = s.hswGen ∧ (s.put f v).hswVhs = s.hswVhs ∧ (s.put f v).hswKeep = s.hswKeep ∧
    (s.put f v).stamps = s.stamps ∧ (s.put f v).pacer = s.pacer ∧ (s.put f v).lap = s.lap ∧ (s.put f v).inj = s.inj ∧
    (s.put f v).cap = s.cap ∧ (s.put f v).ctl = s.ctl ∧ (s.put f v).clocks = s.clocks ∧ (s.put f v).pwr = s.pwr ∧
    (s.put f v).flash = s.flash ∧ (s.put f v).recd = s.recd ∧ (s.put f v).memCare = s.memCare ∧
    (s.put f v).sec = s.sec ∧ (s.put f v).plb = s.plb ∧ (s.put f v).plbMis = s.plbMis ∧
    (s.put f v).parity = s.parity ∧ (s.put f v).boots = s.boots :=
  ⟨rfl, rfl, rfl, rfl, rfl, rfl, rfl, rfl, rfl, rfl, rfl, rfl, rfl, rfl, rfl, rfl, rfl, rfl, rfl, rfl, rfl, rfl, rfl, rfl, rfl, rfl, rfl, rfl, rfl, rfl, rfl, rfl, rfl, rfl, rfl, rfl, rfl, rfl, rfl, rfl, rfl, rfl, rfl, rfl, rfl, rfl, rfl, rfl, rfl, rfl⟩

@[simp] theorem State.putSat_frame (s : State) (f : Fld) (v : Nat) :
    (s.putSat f v).pending = s.pending ∧ (s.putSat f v).clk = s.clk ∧ (s.putSat f v).tag = s.tag ∧
    (s.putSat f v).fresh = s.fresh ∧ (s.putSat f v).draws = s.draws ∧ (s.putSat f v).mem = s.mem ∧
    (s.putSat f v).shadow = s.shadow ∧ (s.putSat f v).dieBFail = s.dieBFail ∧ (s.putSat f v).failed = s.failed ∧
    (s.putSat f v).occ = s.occ ∧ (s.putSat f v).lastErr = s.lastErr ∧ (s.putSat f v).link = s.link ∧
    (s.putSat f v).cfg = s.cfg ∧ (s.putSat f v).lanes = s.lanes ∧ (s.putSat f v).gnss = s.gnss ∧
    (s.putSat f v).gnssCh = s.gnssCh ∧ (s.putSat f v).nav = s.nav ∧ (s.putSat f v).enc = s.enc ∧
    (s.putSat f v).ssi = s.ssi ∧ (s.putSat f v).emu = s.emu ∧ (s.putSat f v).ain = s.ain ∧
    (s.putSat f v).fus = s.fus ∧ (s.putSat f v).canCtl = s.canCtl ∧ (s.putSat f v).canObj = s.canObj ∧
    (s.putSat f v).geo = s.geo ∧ (s.putSat f v).str = s.str ∧ (s.putSat f v).armCh = s.armCh ∧
    (s.putSat f v).armSw = s.armSw ∧ (s.putSat f v).armDie = s.armDie ∧ (s.putSat f v).sol = s.sol ∧
    (s.putSat f v).hsw = s.hsw ∧ (s.putSat f v).hswGen = s.hswGen ∧ (s.putSat f v).hswVhs = s.hswVhs ∧
    (s.putSat f v).hswKeep = s.hswKeep ∧ (s.putSat f v).stamps = s.stamps ∧ (s.putSat f v).pacer = s.pacer ∧
    (s.putSat f v).lap = s.lap ∧ (s.putSat f v).inj = s.inj ∧ (s.putSat f v).cap = s.cap ∧
    (s.putSat f v).ctl = s.ctl ∧ (s.putSat f v).clocks = s.clocks ∧ (s.putSat f v).pwr = s.pwr ∧
    (s.putSat f v).flash = s.flash ∧ (s.putSat f v).recd = s.recd ∧ (s.putSat f v).memCare = s.memCare ∧
    (s.putSat f v).sec = s.sec ∧ (s.putSat f v).plb = s.plb ∧ (s.putSat f v).plbMis = s.plbMis ∧
    (s.putSat f v).parity = s.parity ∧ (s.putSat f v).boots = s.boots :=
  ⟨rfl, rfl, rfl, rfl, rfl, rfl, rfl, rfl, rfl, rfl, rfl, rfl, rfl, rfl, rfl, rfl, rfl, rfl, rfl, rfl, rfl, rfl, rfl, rfl, rfl, rfl, rfl, rfl, rfl, rfl, rfl, rfl, rfl, rfl, rfl, rfl, rfl, rfl, rfl, rfl, rfl, rfl, rfl, rfl, rfl, rfl, rfl, rfl, rfl, rfl⟩

@[simp] theorem State.puts_frame (s : State) (f : Fld) (i : Int) :
    (s.puts f i).pending = s.pending ∧ (s.puts f i).clk = s.clk ∧ (s.puts f i).tag = s.tag ∧
    (s.puts f i).fresh = s.fresh ∧ (s.puts f i).draws = s.draws ∧ (s.puts f i).mem = s.mem ∧
    (s.puts f i).shadow = s.shadow ∧ (s.puts f i).dieBFail = s.dieBFail ∧ (s.puts f i).failed = s.failed ∧
    (s.puts f i).occ = s.occ ∧ (s.puts f i).lastErr = s.lastErr ∧ (s.puts f i).link = s.link ∧
    (s.puts f i).cfg = s.cfg ∧ (s.puts f i).lanes = s.lanes ∧ (s.puts f i).gnss = s.gnss ∧
    (s.puts f i).gnssCh = s.gnssCh ∧ (s.puts f i).nav = s.nav ∧ (s.puts f i).enc = s.enc ∧ (s.puts f i).ssi = s.ssi ∧
    (s.puts f i).emu = s.emu ∧ (s.puts f i).ain = s.ain ∧ (s.puts f i).fus = s.fus ∧ (s.puts f i).canCtl = s.canCtl ∧
    (s.puts f i).canObj = s.canObj ∧ (s.puts f i).geo = s.geo ∧ (s.puts f i).str = s.str ∧
    (s.puts f i).armCh = s.armCh ∧ (s.puts f i).armSw = s.armSw ∧ (s.puts f i).armDie = s.armDie ∧
    (s.puts f i).sol = s.sol ∧ (s.puts f i).hsw = s.hsw ∧ (s.puts f i).hswGen = s.hswGen ∧
    (s.puts f i).hswVhs = s.hswVhs ∧ (s.puts f i).hswKeep = s.hswKeep ∧ (s.puts f i).stamps = s.stamps ∧
    (s.puts f i).pacer = s.pacer ∧ (s.puts f i).lap = s.lap ∧ (s.puts f i).inj = s.inj ∧ (s.puts f i).cap = s.cap ∧
    (s.puts f i).ctl = s.ctl ∧ (s.puts f i).clocks = s.clocks ∧ (s.puts f i).pwr = s.pwr ∧
    (s.puts f i).flash = s.flash ∧ (s.puts f i).recd = s.recd ∧ (s.puts f i).memCare = s.memCare ∧
    (s.puts f i).sec = s.sec ∧ (s.puts f i).plb = s.plb ∧ (s.puts f i).plbMis = s.plbMis ∧
    (s.puts f i).parity = s.parity ∧ (s.puts f i).boots = s.boots :=
  ⟨rfl, rfl, rfl, rfl, rfl, rfl, rfl, rfl, rfl, rfl, rfl, rfl, rfl, rfl, rfl, rfl, rfl, rfl, rfl, rfl, rfl, rfl, rfl, rfl, rfl, rfl, rfl, rfl, rfl, rfl, rfl, rfl, rfl, rfl, rfl, rfl, rfl, rfl, rfl, rfl, rfl, rfl, rfl, rfl, rfl, rfl, rfl, rfl, rfl, rfl⟩

@[simp] theorem State.putB_frame (s : State) (f : Fld) (b : Bool) :
    (s.putB f b).pending = s.pending ∧ (s.putB f b).clk = s.clk ∧ (s.putB f b).tag = s.tag ∧
    (s.putB f b).fresh = s.fresh ∧ (s.putB f b).draws = s.draws ∧ (s.putB f b).mem = s.mem ∧
    (s.putB f b).shadow = s.shadow ∧ (s.putB f b).dieBFail = s.dieBFail ∧ (s.putB f b).failed = s.failed ∧
    (s.putB f b).occ = s.occ ∧ (s.putB f b).lastErr = s.lastErr ∧ (s.putB f b).link = s.link ∧
    (s.putB f b).cfg = s.cfg ∧ (s.putB f b).lanes = s.lanes ∧ (s.putB f b).gnss = s.gnss ∧
    (s.putB f b).gnssCh = s.gnssCh ∧ (s.putB f b).nav = s.nav ∧ (s.putB f b).enc = s.enc ∧ (s.putB f b).ssi = s.ssi ∧
    (s.putB f b).emu = s.emu ∧ (s.putB f b).ain = s.ain ∧ (s.putB f b).fus = s.fus ∧ (s.putB f b).canCtl = s.canCtl ∧
    (s.putB f b).canObj = s.canObj ∧ (s.putB f b).geo = s.geo ∧ (s.putB f b).str = s.str ∧
    (s.putB f b).armCh = s.armCh ∧ (s.putB f b).armSw = s.armSw ∧ (s.putB f b).armDie = s.armDie ∧
    (s.putB f b).sol = s.sol ∧ (s.putB f b).hsw = s.hsw ∧ (s.putB f b).hswGen = s.hswGen ∧
    (s.putB f b).hswVhs = s.hswVhs ∧ (s.putB f b).hswKeep = s.hswKeep ∧ (s.putB f b).stamps = s.stamps ∧
    (s.putB f b).pacer = s.pacer ∧ (s.putB f b).lap = s.lap ∧ (s.putB f b).inj = s.inj ∧ (s.putB f b).cap = s.cap ∧
    (s.putB f b).ctl = s.ctl ∧ (s.putB f b).clocks = s.clocks ∧ (s.putB f b).pwr = s.pwr ∧
    (s.putB f b).flash = s.flash ∧ (s.putB f b).recd = s.recd ∧ (s.putB f b).memCare = s.memCare ∧
    (s.putB f b).sec = s.sec ∧ (s.putB f b).plb = s.plb ∧ (s.putB f b).plbMis = s.plbMis ∧
    (s.putB f b).parity = s.parity ∧ (s.putB f b).boots = s.boots :=
  ⟨rfl, rfl, rfl, rfl, rfl, rfl, rfl, rfl, rfl, rfl, rfl, rfl, rfl, rfl, rfl, rfl, rfl, rfl, rfl, rfl, rfl, rfl, rfl, rfl, rfl, rfl, rfl, rfl, rfl, rfl, rfl, rfl, rfl, rfl, rfl, rfl, rfl, rfl, rfl, rfl, rfl, rfl, rfl, rfl, rfl, rfl, rfl, rfl, rfl, rfl⟩

@[simp] theorem State.count_frame (s : State) (f : Fld) (k : Nat) :
    (s.count f k).pending = s.pending ∧ (s.count f k).clk = s.clk ∧ (s.count f k).tag = s.tag ∧
    (s.count f k).fresh = s.fresh ∧ (s.count f k).draws = s.draws ∧ (s.count f k).mem = s.mem ∧
    (s.count f k).shadow = s.shadow ∧ (s.count f k).dieBFail = s.dieBFail ∧ (s.count f k).failed = s.failed ∧
    (s.count f k).occ = s.occ ∧ (s.count f k).lastErr = s.lastErr ∧ (s.count f k).link = s.link ∧
    (s.count f k).cfg = s.cfg ∧ (s.count f k).lanes = s.lanes ∧ (s.count f k).gnss = s.gnss ∧
    (s.count f k).gnssCh = s.gnssCh ∧ (s.count f k).nav = s.nav ∧ (s.count f k).enc = s.enc ∧
    (s.count f k).ssi = s.ssi ∧ (s.count f k).emu = s.emu ∧ (s.count f k).ain = s.ain ∧ (s.count f k).fus = s.fus ∧
    (s.count f k).canCtl = s.canCtl ∧ (s.count f k).canObj = s.canObj ∧ (s.count f k).geo = s.geo ∧
    (s.count f k).str = s.str ∧ (s.count f k).armCh = s.armCh ∧ (s.count f k).armSw = s.armSw ∧
    (s.count f k).armDie = s.armDie ∧ (s.count f k).sol = s.sol ∧ (s.count f k).hsw = s.hsw ∧
    (s.count f k).hswGen = s.hswGen ∧ (s.count f k).hswVhs = s.hswVhs ∧ (s.count f k).hswKeep = s.hswKeep ∧
    (s.count f k).stamps = s.stamps ∧ (s.count f k).pacer = s.pacer ∧ (s.count f k).lap = s.lap ∧
    (s.count f k).inj = s.inj ∧ (s.count f k).cap = s.cap ∧ (s.count f k).ctl = s.ctl ∧
    (s.count f k).clocks = s.clocks ∧ (s.count f k).pwr = s.pwr ∧ (s.count f k).flash = s.flash ∧
    (s.count f k).recd = s.recd ∧ (s.count f k).memCare = s.memCare ∧ (s.count f k).sec = s.sec ∧
    (s.count f k).plb = s.plb ∧ (s.count f k).plbMis = s.plbMis ∧ (s.count f k).parity = s.parity ∧
    (s.count f k).boots = s.boots :=
  ⟨rfl, rfl, rfl, rfl, rfl, rfl, rfl, rfl, rfl, rfl, rfl, rfl, rfl, rfl, rfl, rfl, rfl, rfl, rfl, rfl, rfl, rfl, rfl, rfl, rfl, rfl, rfl, rfl, rfl, rfl, rfl, rfl, rfl, rfl, rfl, rfl, rfl, rfl, rfl, rfl, rfl, rfl, rfl, rfl, rfl, rfl, rfl, rfl, rfl, rfl⟩

@[simp] theorem State.setNat_frame (s : State) (a v : Nat) :
    (s.setNat a v).pending = s.pending ∧ (s.setNat a v).clk = s.clk ∧ (s.setNat a v).tag = s.tag ∧
    (s.setNat a v).fresh = s.fresh ∧ (s.setNat a v).draws = s.draws ∧ (s.setNat a v).mem = s.mem ∧
    (s.setNat a v).shadow = s.shadow ∧ (s.setNat a v).dieBFail = s.dieBFail ∧ (s.setNat a v).failed = s.failed ∧
    (s.setNat a v).occ = s.occ ∧ (s.setNat a v).lastErr = s.lastErr ∧ (s.setNat a v).link = s.link ∧
    (s.setNat a v).cfg = s.cfg ∧ (s.setNat a v).lanes = s.lanes ∧ (s.setNat a v).gnss = s.gnss ∧
    (s.setNat a v).gnssCh = s.gnssCh ∧ (s.setNat a v).nav = s.nav ∧ (s.setNat a v).enc = s.enc ∧
    (s.setNat a v).ssi = s.ssi ∧ (s.setNat a v).emu = s.emu ∧ (s.setNat a v).ain = s.ain ∧
    (s.setNat a v).fus = s.fus ∧ (s.setNat a v).canCtl = s.canCtl ∧ (s.setNat a v).canObj = s.canObj ∧
    (s.setNat a v).geo = s.geo ∧ (s.setNat a v).str = s.str ∧ (s.setNat a v).armCh = s.armCh ∧
    (s.setNat a v).armSw = s.armSw ∧ (s.setNat a v).armDie = s.armDie ∧ (s.setNat a v).sol = s.sol ∧
    (s.setNat a v).hsw = s.hsw ∧ (s.setNat a v).hswGen = s.hswGen ∧ (s.setNat a v).hswVhs = s.hswVhs ∧
    (s.setNat a v).hswKeep = s.hswKeep ∧ (s.setNat a v).stamps = s.stamps ∧ (s.setNat a v).pacer = s.pacer ∧
    (s.setNat a v).lap = s.lap ∧ (s.setNat a v).inj = s.inj ∧ (s.setNat a v).cap = s.cap ∧
    (s.setNat a v).ctl = s.ctl ∧ (s.setNat a v).clocks = s.clocks ∧ (s.setNat a v).pwr = s.pwr ∧
    (s.setNat a v).flash = s.flash ∧ (s.setNat a v).recd = s.recd ∧ (s.setNat a v).memCare = s.memCare ∧
    (s.setNat a v).sec = s.sec ∧ (s.setNat a v).plb = s.plb ∧ (s.setNat a v).plbMis = s.plbMis ∧
    (s.setNat a v).parity = s.parity ∧ (s.setNat a v).boots = s.boots :=
  ⟨rfl, rfl, rfl, rfl, rfl, rfl, rfl, rfl, rfl, rfl, rfl, rfl, rfl, rfl, rfl, rfl, rfl, rfl, rfl, rfl, rfl, rfl, rfl, rfl, rfl, rfl, rfl, rfl, rfl, rfl, rfl, rfl, rfl, rfl, rfl, rfl, rfl, rfl, rfl, rfl, rfl, rfl, rfl, rfl, rfl, rfl, rfl, rfl, rfl, rfl⟩

@[simp] theorem State.setInt_frame (s : State) (a : Nat) (i : Int) :
    (s.setInt a i).pending = s.pending ∧ (s.setInt a i).clk = s.clk ∧ (s.setInt a i).tag = s.tag ∧
    (s.setInt a i).fresh = s.fresh ∧ (s.setInt a i).draws = s.draws ∧ (s.setInt a i).mem = s.mem ∧
    (s.setInt a i).shadow = s.shadow ∧ (s.setInt a i).dieBFail = s.dieBFail ∧ (s.setInt a i).failed = s.failed ∧
    (s.setInt a i).occ = s.occ ∧ (s.setInt a i).lastErr = s.lastErr ∧ (s.setInt a i).link = s.link ∧
    (s.setInt a i).cfg = s.cfg ∧ (s.setInt a i).lanes = s.lanes ∧ (s.setInt a i).gnss = s.gnss ∧
    (s.setInt a i).gnssCh = s.gnssCh ∧ (s.setInt a i).nav = s.nav ∧ (s.setInt a i).enc = s.enc ∧
    (s.setInt a i).ssi = s.ssi ∧ (s.setInt a i).emu = s.emu ∧ (s.setInt a i).ain = s.ain ∧
    (s.setInt a i).fus = s.fus ∧ (s.setInt a i).canCtl = s.canCtl ∧ (s.setInt a i).canObj = s.canObj ∧
    (s.setInt a i).geo = s.geo ∧ (s.setInt a i).str = s.str ∧ (s.setInt a i).armCh = s.armCh ∧
    (s.setInt a i).armSw = s.armSw ∧ (s.setInt a i).armDie = s.armDie ∧ (s.setInt a i).sol = s.sol ∧
    (s.setInt a i).hsw = s.hsw ∧ (s.setInt a i).hswGen = s.hswGen ∧ (s.setInt a i).hswVhs = s.hswVhs ∧
    (s.setInt a i).hswKeep = s.hswKeep ∧ (s.setInt a i).stamps = s.stamps ∧ (s.setInt a i).pacer = s.pacer ∧
    (s.setInt a i).lap = s.lap ∧ (s.setInt a i).inj = s.inj ∧ (s.setInt a i).cap = s.cap ∧
    (s.setInt a i).ctl = s.ctl ∧ (s.setInt a i).clocks = s.clocks ∧ (s.setInt a i).pwr = s.pwr ∧
    (s.setInt a i).flash = s.flash ∧ (s.setInt a i).recd = s.recd ∧ (s.setInt a i).memCare = s.memCare ∧
    (s.setInt a i).sec = s.sec ∧ (s.setInt a i).plb = s.plb ∧ (s.setInt a i).plbMis = s.plbMis ∧
    (s.setInt a i).parity = s.parity ∧ (s.setInt a i).boots = s.boots :=
  ⟨rfl, rfl, rfl, rfl, rfl, rfl, rfl, rfl, rfl, rfl, rfl, rfl, rfl, rfl, rfl, rfl, rfl, rfl, rfl, rfl, rfl, rfl, rfl, rfl, rfl, rfl, rfl, rfl, rfl, rfl, rfl, rfl, rfl, rfl, rfl, rfl, rfl, rfl, rfl, rfl, rfl, rfl, rfl, rfl, rfl, rfl, rfl, rfl, rfl, rfl⟩

@[simp] theorem State.setNat64_frame (s : State) (a v : Nat) :
    (s.setNat64 a v).pending = s.pending ∧ (s.setNat64 a v).clk = s.clk ∧ (s.setNat64 a v).tag = s.tag ∧
    (s.setNat64 a v).fresh = s.fresh ∧ (s.setNat64 a v).draws = s.draws ∧ (s.setNat64 a v).mem = s.mem ∧
    (s.setNat64 a v).shadow = s.shadow ∧ (s.setNat64 a v).dieBFail = s.dieBFail ∧
    (s.setNat64 a v).failed = s.failed ∧ (s.setNat64 a v).occ = s.occ ∧ (s.setNat64 a v).lastErr = s.lastErr ∧
    (s.setNat64 a v).link = s.link ∧ (s.setNat64 a v).cfg = s.cfg ∧ (s.setNat64 a v).lanes = s.lanes ∧
    (s.setNat64 a v).gnss = s.gnss ∧ (s.setNat64 a v).gnssCh = s.gnssCh ∧ (s.setNat64 a v).nav = s.nav ∧
    (s.setNat64 a v).enc = s.enc ∧ (s.setNat64 a v).ssi = s.ssi ∧ (s.setNat64 a v).emu = s.emu ∧
    (s.setNat64 a v).ain = s.ain ∧ (s.setNat64 a v).fus = s.fus ∧ (s.setNat64 a v).canCtl = s.canCtl ∧
    (s.setNat64 a v).canObj = s.canObj ∧ (s.setNat64 a v).geo = s.geo ∧ (s.setNat64 a v).str = s.str ∧
    (s.setNat64 a v).armCh = s.armCh ∧ (s.setNat64 a v).armSw = s.armSw ∧ (s.setNat64 a v).armDie = s.armDie ∧
    (s.setNat64 a v).sol = s.sol ∧ (s.setNat64 a v).hsw = s.hsw ∧ (s.setNat64 a v).hswGen = s.hswGen ∧
    (s.setNat64 a v).hswVhs = s.hswVhs ∧ (s.setNat64 a v).hswKeep = s.hswKeep ∧ (s.setNat64 a v).stamps = s.stamps ∧
    (s.setNat64 a v).pacer = s.pacer ∧ (s.setNat64 a v).lap = s.lap ∧ (s.setNat64 a v).inj = s.inj ∧
    (s.setNat64 a v).cap = s.cap ∧ (s.setNat64 a v).ctl = s.ctl ∧ (s.setNat64 a v).clocks = s.clocks ∧
    (s.setNat64 a v).pwr = s.pwr ∧ (s.setNat64 a v).flash = s.flash ∧ (s.setNat64 a v).recd = s.recd ∧
    (s.setNat64 a v).memCare = s.memCare ∧ (s.setNat64 a v).sec = s.sec ∧ (s.setNat64 a v).plb = s.plb ∧
    (s.setNat64 a v).plbMis = s.plbMis ∧ (s.setNat64 a v).parity = s.parity ∧ (s.setNat64 a v).boots = s.boots :=
  ⟨rfl, rfl, rfl, rfl, rfl, rfl, rfl, rfl, rfl, rfl, rfl, rfl, rfl, rfl, rfl, rfl, rfl, rfl, rfl, rfl, rfl, rfl, rfl, rfl, rfl, rfl, rfl, rfl, rfl, rfl, rfl, rfl, rfl, rfl, rfl, rfl, rfl, rfl, rfl, rfl, rfl, rfl, rfl, rfl, rfl, rfl, rfl, rfl, rfl, rfl⟩

@[simp] theorem State.setByte_frame (s : State) (a : Nat) (b : Byte) :
    (s.setByte a b).pending = s.pending ∧ (s.setByte a b).clk = s.clk ∧ (s.setByte a b).tag = s.tag ∧
    (s.setByte a b).fresh = s.fresh ∧ (s.setByte a b).draws = s.draws ∧ (s.setByte a b).regs = s.regs ∧
    (s.setByte a b).shadow = s.shadow ∧ (s.setByte a b).dieBFail = s.dieBFail ∧ (s.setByte a b).failed = s.failed ∧
    (s.setByte a b).occ = s.occ ∧ (s.setByte a b).lastErr = s.lastErr ∧ (s.setByte a b).link = s.link ∧
    (s.setByte a b).cfg = s.cfg ∧ (s.setByte a b).lanes = s.lanes ∧ (s.setByte a b).gnss = s.gnss ∧
    (s.setByte a b).gnssCh = s.gnssCh ∧ (s.setByte a b).nav = s.nav ∧ (s.setByte a b).enc = s.enc ∧
    (s.setByte a b).ssi = s.ssi ∧ (s.setByte a b).emu = s.emu ∧ (s.setByte a b).ain = s.ain ∧
    (s.setByte a b).fus = s.fus ∧ (s.setByte a b).canCtl = s.canCtl ∧ (s.setByte a b).canObj = s.canObj ∧
    (s.setByte a b).geo = s.geo ∧ (s.setByte a b).str = s.str ∧ (s.setByte a b).armCh = s.armCh ∧
    (s.setByte a b).armSw = s.armSw ∧ (s.setByte a b).armDie = s.armDie ∧ (s.setByte a b).sol = s.sol ∧
    (s.setByte a b).hsw = s.hsw ∧ (s.setByte a b).hswGen = s.hswGen ∧ (s.setByte a b).hswVhs = s.hswVhs ∧
    (s.setByte a b).hswKeep = s.hswKeep ∧ (s.setByte a b).stamps = s.stamps ∧ (s.setByte a b).pacer = s.pacer ∧
    (s.setByte a b).lap = s.lap ∧ (s.setByte a b).inj = s.inj ∧ (s.setByte a b).cap = s.cap ∧
    (s.setByte a b).ctl = s.ctl ∧ (s.setByte a b).clocks = s.clocks ∧ (s.setByte a b).pwr = s.pwr ∧
    (s.setByte a b).flash = s.flash ∧ (s.setByte a b).recd = s.recd ∧ (s.setByte a b).memCare = s.memCare ∧
    (s.setByte a b).sec = s.sec ∧ (s.setByte a b).plb = s.plb ∧ (s.setByte a b).plbMis = s.plbMis ∧
    (s.setByte a b).parity = s.parity ∧ (s.setByte a b).boots = s.boots :=
  ⟨rfl, rfl, rfl, rfl, rfl, rfl, rfl, rfl, rfl, rfl, rfl, rfl, rfl, rfl, rfl, rfl, rfl, rfl, rfl, rfl, rfl, rfl, rfl, rfl, rfl, rfl, rfl, rfl, rfl, rfl, rfl, rfl, rfl, rfl, rfl, rfl, rfl, rfl, rfl, rfl, rfl, rfl, rfl, rfl, rfl, rfl, rfl, rfl, rfl, rfl⟩

/-! ## Events -/

@[simp] theorem State.raise_frame (s : State) (e : Nat) :
    (s.raise e).pending = s.pending ∧ (s.raise e).clk = s.clk ∧ (s.raise e).tag = s.tag ∧
    (s.raise e).fresh = s.fresh ∧ (s.raise e).draws = s.draws ∧ (s.raise e).mem = s.mem ∧
    (s.raise e).shadow = s.shadow ∧ (s.raise e).dieBFail = s.dieBFail ∧ (s.raise e).failed = s.failed ∧
    (s.raise e).lastErr = s.lastErr ∧ (s.raise e).link = s.link ∧ (s.raise e).cfg = s.cfg ∧
    (s.raise e).lanes = s.lanes ∧ (s.raise e).gnss = s.gnss ∧ (s.raise e).gnssCh = s.gnssCh ∧
    (s.raise e).nav = s.nav ∧ (s.raise e).enc = s.enc ∧ (s.raise e).ssi = s.ssi ∧ (s.raise e).emu = s.emu ∧
    (s.raise e).ain = s.ain ∧ (s.raise e).fus = s.fus ∧ (s.raise e).canCtl = s.canCtl ∧
    (s.raise e).canObj = s.canObj ∧ (s.raise e).geo = s.geo ∧ (s.raise e).str = s.str ∧ (s.raise e).armCh = s.armCh ∧
    (s.raise e).armSw = s.armSw ∧ (s.raise e).armDie = s.armDie ∧ (s.raise e).sol = s.sol ∧ (s.raise e).hsw = s.hsw ∧
    (s.raise e).hswGen = s.hswGen ∧ (s.raise e).hswVhs = s.hswVhs ∧ (s.raise e).hswKeep = s.hswKeep ∧
    (s.raise e).stamps = s.stamps ∧ (s.raise e).pacer = s.pacer ∧ (s.raise e).lap = s.lap ∧ (s.raise e).inj = s.inj ∧
    (s.raise e).cap = s.cap ∧ (s.raise e).ctl = s.ctl ∧ (s.raise e).clocks = s.clocks ∧ (s.raise e).pwr = s.pwr ∧
    (s.raise e).flash = s.flash ∧ (s.raise e).recd = s.recd ∧ (s.raise e).memCare = s.memCare ∧
    (s.raise e).sec = s.sec ∧ (s.raise e).plb = s.plb ∧ (s.raise e).plbMis = s.plbMis ∧
    (s.raise e).parity = s.parity ∧ (s.raise e).boots = s.boots :=
  by
  unfold State.raise
  dsimp only
  split
  · exact ⟨rfl, rfl, rfl, rfl, rfl, rfl, rfl, rfl, rfl, rfl, rfl, rfl, rfl, rfl, rfl, rfl, rfl, rfl, rfl, rfl, rfl, rfl, rfl, rfl, rfl, rfl, rfl, rfl, rfl, rfl, rfl, rfl, rfl, rfl, rfl, rfl, rfl, rfl, rfl, rfl, rfl, rfl, rfl, rfl, rfl, rfl, rfl, rfl, rfl⟩
  · exact ⟨rfl, rfl, rfl, rfl, rfl, rfl, rfl, rfl, rfl, rfl, rfl, rfl, rfl, rfl, rfl, rfl, rfl, rfl, rfl, rfl, rfl, rfl, rfl, rfl, rfl, rfl, rfl, rfl, rfl, rfl, rfl, rfl, rfl, rfl, rfl, rfl, rfl, rfl, rfl, rfl, rfl, rfl, rfl, rfl, rfl, rfl, rfl, rfl, rfl⟩

@[simp] theorem State.raiseFailed_frame (s : State) (e : Nat) :
    (s.raiseFailed e).pending = s.pending ∧ (s.raiseFailed e).clk = s.clk ∧ (s.raiseFailed e).tag = s.tag ∧
    (s.raiseFailed e).fresh = s.fresh ∧ (s.raiseFailed e).draws = s.draws ∧ (s.raiseFailed e).mem = s.mem ∧
    (s.raiseFailed e).shadow = s.shadow ∧ (s.raiseFailed e).dieBFail = s.dieBFail ∧
    (s.raiseFailed e).failed = s.failed ∧ (s.raiseFailed e).lastErr = s.lastErr ∧ (s.raiseFailed e).link = s.link ∧
    (s.raiseFailed e).cfg = s.cfg ∧ (s.raiseFailed e).lanes = s.lanes ∧ (s.raiseFailed e).gnss = s.gnss ∧
    (s.raiseFailed e).gnssCh = s.gnssCh ∧ (s.raiseFailed e).nav = s.nav ∧ (s.raiseFailed e).enc = s.enc ∧
    (s.raiseFailed e).ssi = s.ssi ∧ (s.raiseFailed e).emu = s.emu ∧ (s.raiseFailed e).ain = s.ain ∧
    (s.raiseFailed e).fus = s.fus ∧ (s.raiseFailed e).canCtl = s.canCtl ∧ (s.raiseFailed e).canObj = s.canObj ∧
    (s.raiseFailed e).geo = s.geo ∧ (s.raiseFailed e).str = s.str ∧ (s.raiseFailed e).armCh = s.armCh ∧
    (s.raiseFailed e).armSw = s.armSw ∧ (s.raiseFailed e).armDie = s.armDie ∧ (s.raiseFailed e).sol = s.sol ∧
    (s.raiseFailed e).hsw = s.hsw ∧ (s.raiseFailed e).hswGen = s.hswGen ∧ (s.raiseFailed e).hswVhs = s.hswVhs ∧
    (s.raiseFailed e).hswKeep = s.hswKeep ∧ (s.raiseFailed e).stamps = s.stamps ∧
    (s.raiseFailed e).pacer = s.pacer ∧ (s.raiseFailed e).lap = s.lap ∧ (s.raiseFailed e).inj = s.inj ∧
    (s.raiseFailed e).cap = s.cap ∧ (s.raiseFailed e).ctl = s.ctl ∧ (s.raiseFailed e).clocks = s.clocks ∧
    (s.raiseFailed e).pwr = s.pwr ∧ (s.raiseFailed e).flash = s.flash ∧ (s.raiseFailed e).recd = s.recd ∧
    (s.raiseFailed e).memCare = s.memCare ∧ (s.raiseFailed e).sec = s.sec ∧ (s.raiseFailed e).plb = s.plb ∧
    (s.raiseFailed e).plbMis = s.plbMis ∧ (s.raiseFailed e).parity = s.parity ∧ (s.raiseFailed e).boots = s.boots :=
  by
  unfold State.raiseFailed
  split
  · exact ⟨rfl, rfl, rfl, rfl, rfl, rfl, rfl, rfl, rfl, rfl, rfl, rfl, rfl, rfl, rfl, rfl, rfl, rfl, rfl, rfl, rfl, rfl, rfl, rfl, rfl, rfl, rfl, rfl, rfl, rfl, rfl, rfl, rfl, rfl, rfl, rfl, rfl, rfl, rfl, rfl, rfl, rfl, rfl, rfl, rfl, rfl, rfl, rfl, rfl⟩
  · exact s.raise_frame e

@[simp] theorem State.raiseIf_frame (s : State) (c : Bool) (e : Nat) :
    (s.raiseIf c e).pending = s.pending ∧ (s.raiseIf c e).clk = s.clk ∧ (s.raiseIf c e).tag = s.tag ∧
    (s.raiseIf c e).fresh = s.fresh ∧ (s.raiseIf c e).draws = s.draws ∧ (s.raiseIf c e).mem = s.mem ∧
    (s.raiseIf c e).shadow = s.shadow ∧ (s.raiseIf c e).dieBFail = s.dieBFail ∧ (s.raiseIf c e).failed = s.failed ∧
    (s.raiseIf c e).lastErr = s.lastErr ∧ (s.raiseIf c e).link = s.link ∧ (s.raiseIf c e).cfg = s.cfg ∧
    (s.raiseIf c e).lanes = s.lanes ∧ (s.raiseIf c e).gnss = s.gnss ∧ (s.raiseIf c e).gnssCh = s.gnssCh ∧
    (s.raiseIf c e).nav = s.nav ∧ (s.raiseIf c e).enc = s.enc ∧ (s.raiseIf c e).ssi = s.ssi ∧
    (s.raiseIf c e).emu = s.emu ∧ (s.raiseIf c e).ain = s.ain ∧ (s.raiseIf c e).fus = s.fus ∧
    (s.raiseIf c e).canCtl = s.canCtl ∧ (s.raiseIf c e).canObj = s.canObj ∧ (s.raiseIf c e).geo = s.geo ∧
    (s.raiseIf c e).str = s.str ∧ (s.raiseIf c e).armCh = s.armCh ∧ (s.raiseIf c e).armSw = s.armSw ∧
    (s.raiseIf c e).armDie = s.armDie ∧ (s.raiseIf c e).sol = s.sol ∧ (s.raiseIf c e).hsw = s.hsw ∧
    (s.raiseIf c e).hswGen = s.hswGen ∧ (s.raiseIf c e).hswVhs = s.hswVhs ∧ (s.raiseIf c e).hswKeep = s.hswKeep ∧
    (s.raiseIf c e).stamps = s.stamps ∧ (s.raiseIf c e).pacer = s.pacer ∧ (s.raiseIf c e).lap = s.lap ∧
    (s.raiseIf c e).inj = s.inj ∧ (s.raiseIf c e).cap = s.cap ∧ (s.raiseIf c e).ctl = s.ctl ∧
    (s.raiseIf c e).clocks = s.clocks ∧ (s.raiseIf c e).pwr = s.pwr ∧ (s.raiseIf c e).flash = s.flash ∧
    (s.raiseIf c e).recd = s.recd ∧ (s.raiseIf c e).memCare = s.memCare ∧ (s.raiseIf c e).sec = s.sec ∧
    (s.raiseIf c e).plb = s.plb ∧ (s.raiseIf c e).plbMis = s.plbMis ∧ (s.raiseIf c e).parity = s.parity ∧
    (s.raiseIf c e).boots = s.boots :=
  by
  cases c
  · exact ⟨rfl, rfl, rfl, rfl, rfl, rfl, rfl, rfl, rfl, rfl, rfl, rfl, rfl, rfl, rfl, rfl, rfl, rfl, rfl, rfl, rfl, rfl, rfl, rfl, rfl, rfl, rfl, rfl, rfl, rfl, rfl, rfl, rfl, rfl, rfl, rfl, rfl, rfl, rfl, rfl, rfl, rfl, rfl, rfl, rfl, rfl, rfl, rfl, rfl⟩
  · exact s.raise_frame e

end Sys2Proof.Machine
end

