-- ==== Sys2Proof/Laws/Parts.lean ====
section
/-! SUPPORT. What each named update of a block's own state leaves alone: every other part of the state. -/

namespace Sys2Proof.Machine

open Sys2Proof

@[simp] theorem State.modArm_frame (s : State) (n : Nat) (f : ArmCh → ArmCh) :
    (s.modArm n f).pending = s.pending ∧ (s.modArm n f).clk = s.clk ∧ (s.modArm n f).tag = s.tag ∧
    (s.modArm n f).fresh = s.fresh ∧ (s.modArm n f).draws = s.draws ∧ (s.modArm n f).regs = s.regs ∧
    (s.modArm n f).mem = s.mem ∧ (s.modArm n f).shadow = s.shadow ∧ (s.modArm n f).dieBFail = s.dieBFail ∧
    (s.modArm n f).failed = s.failed ∧ (s.modArm n f).occ = s.occ ∧ (s.modArm n f).lastErr = s.lastErr ∧
    (s.modArm n f).link = s.link ∧ (s.modArm n f).cfg = s.cfg ∧ (s.modArm n f).lanes = s.lanes ∧
    (s.modArm n f).gnss = s.gnss ∧ (s.modArm n f).gnssCh = s.gnssCh ∧ (s.modArm n f).nav = s.nav ∧
    (s.modArm n f).enc = s.enc ∧ (s.modArm n f).ssi = s.ssi ∧ (s.modArm n f).emu = s.emu ∧
    (s.modArm n f).ain = s.ain ∧ (s.modArm n f).fus = s.fus ∧ (s.modArm n f).canCtl = s.canCtl ∧
    (s.modArm n f).canObj = s.canObj ∧ (s.modArm n f).geo = s.geo ∧ (s.modArm n f).str = s.str ∧
    (s.modArm n f).armSw = s.armSw ∧ (s.modArm n f).armDie = s.armDie ∧ (s.modArm n f).sol = s.sol ∧
    (s.modArm n f).hsw = s.hsw ∧ (s.modArm n f).hswGen = s.hswGen ∧ (s.modArm n f).hswVhs = s.hswVhs ∧
    (s.modArm n f).hswKeep = s.hswKeep ∧ (s.modArm n f).stamps = s.stamps ∧ (s.modArm n f).pacer = s.pacer ∧
    (s.modArm n f).lap = s.lap ∧ (s.modArm n f).inj = s.inj ∧ (s.modArm n f).cap = s.cap ∧
    (s.modArm n f).ctl = s.ctl ∧ (s.modArm n f).clocks = s.clocks ∧ (s.modArm n f).pwr = s.pwr ∧
    (s.modArm n f).flash = s.flash ∧ (s.modArm n f).recd = s.recd ∧ (s.modArm n f).memCare = s.memCare ∧
    (s.modArm n f).sec = s.sec ∧ (s.modArm n f).plb = s.plb ∧ (s.modArm n f).plbMis = s.plbMis ∧
    (s.modArm n f).parity = s.parity ∧ (s.modArm n f).boots = s.boots :=
  ⟨rfl, rfl, rfl, rfl, rfl, rfl, rfl, rfl, rfl, rfl, rfl, rfl, rfl, rfl, rfl, rfl, rfl, rfl, rfl, rfl, rfl, rfl, rfl, rfl, rfl, rfl, rfl, rfl, rfl, rfl, rfl, rfl, rfl, rfl, rfl, rfl, rfl, rfl, rfl, rfl, rfl, rfl, rfl, rfl, rfl, rfl, rfl, rfl, rfl, rfl⟩

@[simp] theorem State.modArm_armCh (s : State) (n : Nat) (f : ArmCh → ArmCh) : (s.modArm n f).armCh = s.armCh.modify n f := rfl

@[simp] theorem State.modSw_frame (s : State) (k : Nat) (f : ArmSw → ArmSw) :
    (s.modSw k f).pending = s.pending ∧ (s.modSw k f).clk = s.clk ∧ (s.modSw k f).tag = s.tag ∧
    (s.modSw k f).fresh = s.fresh ∧ (s.modSw k f).draws = s.draws ∧ (s.modSw k f).regs = s.regs ∧
    (s.modSw k f).mem = s.mem ∧ (s.modSw k f).shadow = s.shadow ∧ (s.modSw k f).dieBFail = s.dieBFail ∧
    (s.modSw k f).failed = s.failed ∧ (s.modSw k f).occ = s.occ ∧ (s.modSw k f).lastErr = s.lastErr ∧
    (s.modSw k f).link = s.link ∧ (s.modSw k f).cfg = s.cfg ∧ (s.modSw k f).lanes = s.lanes ∧
    (s.modSw k f).gnss = s.gnss ∧ (s.modSw k f).gnssCh = s.gnssCh ∧ (s.modSw k f).nav = s.nav ∧
    (s.modSw k f).enc = s.enc ∧ (s.modSw k f).ssi = s.ssi ∧ (s.modSw k f).emu = s.emu ∧ (s.modSw k f).ain = s.ain ∧
    (s.modSw k f).fus = s.fus ∧ (s.modSw k f).canCtl = s.canCtl ∧ (s.modSw k f).canObj = s.canObj ∧
    (s.modSw k f).geo = s.geo ∧ (s.modSw k f).str = s.str ∧ (s.modSw k f).armCh = s.armCh ∧
    (s.modSw k f).armDie = s.armDie ∧ (s.modSw k f).sol = s.sol ∧ (s.modSw k f).hsw = s.hsw ∧
    (s.modSw k f).hswGen = s.hswGen ∧ (s.modSw k f).hswVhs = s.hswVhs ∧ (s.modSw k f).hswKeep = s.hswKeep ∧
    (s.modSw k f).stamps = s.stamps ∧ (s.modSw k f).pacer = s.pacer ∧ (s.modSw k f).lap = s.lap ∧
    (s.modSw k f).inj = s.inj ∧ (s.modSw k f).cap = s.cap ∧ (s.modSw k f).ctl = s.ctl ∧
    (s.modSw k f).clocks = s.clocks ∧ (s.modSw k f).pwr = s.pwr ∧ (s.modSw k f).flash = s.flash ∧
    (s.modSw k f).recd = s.recd ∧ (s.modSw k f).memCare = s.memCare ∧ (s.modSw k f).sec = s.sec ∧
    (s.modSw k f).plb = s.plb ∧ (s.modSw k f).plbMis = s.plbMis ∧ (s.modSw k f).parity = s.parity ∧
    (s.modSw k f).boots = s.boots :=
  ⟨rfl, rfl, rfl, rfl, rfl, rfl, rfl, rfl, rfl, rfl, rfl, rfl, rfl, rfl, rfl, rfl, rfl, rfl, rfl, rfl, rfl, rfl, rfl, rfl, rfl, rfl, rfl, rfl, rfl, rfl, rfl, rfl, rfl, rfl, rfl, rfl, rfl, rfl, rfl, rfl, rfl, rfl, rfl, rfl, rfl, rfl, rfl, rfl, rfl, rfl⟩

@[simp] theorem State.modSw_armSw (s : State) (k : Nat) (f : ArmSw → ArmSw) : (s.modSw k f).armSw = s.armSw.modify k f := rfl

@[simp] theorem State.modDie_frame (s : State) (d : Nat) (f : ArmDie → ArmDie) :
    (s.modDie d f).pending = s.pending ∧ (s.modDie d f).clk = s.clk ∧ (s.modDie d f).tag = s.tag ∧
    (s.modDie d f).fresh = s.fresh ∧ (s.modDie d f).draws = s.draws ∧ (s.modDie d f).regs = s.regs ∧
    (s.modDie d f).mem = s.mem ∧ (s.modDie d f).shadow = s.shadow ∧ (s.modDie d f).dieBFail = s.dieBFail ∧
    (s.modDie d f).failed = s.failed ∧ (s.modDie d f).occ = s.occ ∧ (s.modDie d f).lastErr = s.lastErr ∧
    (s.modDie d f).link = s.link ∧ (s.modDie d f).cfg = s.cfg ∧ (s.modDie d f).lanes = s.lanes ∧
    (s.modDie d f).gnss = s.gnss ∧ (s.modDie d f).gnssCh = s.gnssCh ∧ (s.modDie d f).nav = s.nav ∧
    (s.modDie d f).enc = s.enc ∧ (s.modDie d f).ssi = s.ssi ∧ (s.modDie d f).emu = s.emu ∧
    (s.modDie d f).ain = s.ain ∧ (s.modDie d f).fus = s.fus ∧ (s.modDie d f).canCtl = s.canCtl ∧
    (s.modDie d f).canObj = s.canObj ∧ (s.modDie d f).geo = s.geo ∧ (s.modDie d f).str = s.str ∧
    (s.modDie d f).armCh = s.armCh ∧ (s.modDie d f).armSw = s.armSw ∧ (s.modDie d f).sol = s.sol ∧
    (s.modDie d f).hsw = s.hsw ∧ (s.modDie d f).hswGen = s.hswGen ∧ (s.modDie d f).hswVhs = s.hswVhs ∧
    (s.modDie d f).hswKeep = s.hswKeep ∧ (s.modDie d f).stamps = s.stamps ∧ (s.modDie d f).pacer = s.pacer ∧
    (s.modDie d f).lap = s.lap ∧ (s.modDie d f).inj = s.inj ∧ (s.modDie d f).cap = s.cap ∧
    (s.modDie d f).ctl = s.ctl ∧ (s.modDie d f).clocks = s.clocks ∧ (s.modDie d f).pwr = s.pwr ∧
    (s.modDie d f).flash = s.flash ∧ (s.modDie d f).recd = s.recd ∧ (s.modDie d f).memCare = s.memCare ∧
    (s.modDie d f).sec = s.sec ∧ (s.modDie d f).plb = s.plb ∧ (s.modDie d f).plbMis = s.plbMis ∧
    (s.modDie d f).parity = s.parity ∧ (s.modDie d f).boots = s.boots :=
  ⟨rfl, rfl, rfl, rfl, rfl, rfl, rfl, rfl, rfl, rfl, rfl, rfl, rfl, rfl, rfl, rfl, rfl, rfl, rfl, rfl, rfl, rfl, rfl, rfl, rfl, rfl, rfl, rfl, rfl, rfl, rfl, rfl, rfl, rfl, rfl, rfl, rfl, rfl, rfl, rfl, rfl, rfl, rfl, rfl, rfl, rfl, rfl, rfl, rfl, rfl⟩

@[simp] theorem State.modDie_armDie (s : State) (d : Nat) (f : ArmDie → ArmDie) : (s.modDie d f).armDie = s.armDie.modify d f := rfl

@[simp] theorem State.modCtl_frame (s : State) (n : Nat) (f : CanCtl → CanCtl) :
    (s.modCtl n f).pending = s.pending ∧ (s.modCtl n f).clk = s.clk ∧ (s.modCtl n f).tag = s.tag ∧
    (s.modCtl n f).fresh = s.fresh ∧ (s.modCtl n f).draws = s.draws ∧ (s.modCtl n f).regs = s.regs ∧
    (s.modCtl n f).mem = s.mem ∧ (s.modCtl n f).shadow = s.shadow ∧ (s.modCtl n f).dieBFail = s.dieBFail ∧
    (s.modCtl n f).failed = s.failed ∧ (s.modCtl n f).occ = s.occ ∧ (s.modCtl n f).lastErr = s.lastErr ∧
    (s.modCtl n f).link = s.link ∧ (s.modCtl n f).cfg = s.cfg ∧ (s.modCtl n f).lanes = s.lanes ∧
    (s.modCtl n f).gnss = s.gnss ∧ (s.modCtl n f).gnssCh = s.gnssCh ∧ (s.modCtl n f).nav = s.nav ∧
    (s.modCtl n f).enc = s.enc ∧ (s.modCtl n f).ssi = s.ssi ∧ (s.modCtl n f).emu = s.emu ∧
    (s.modCtl n f).ain = s.ain ∧ (s.modCtl n f).fus = s.fus ∧ (s.modCtl n f).canObj = s.canObj ∧
    (s.modCtl n f).geo = s.geo ∧ (s.modCtl n f).str = s.str ∧ (s.modCtl n f).armCh = s.armCh ∧
    (s.modCtl n f).armSw = s.armSw ∧ (s.modCtl n f).armDie = s.armDie ∧ (s.modCtl n f).sol = s.sol ∧
    (s.modCtl n f).hsw = s.hsw ∧ (s.modCtl n f).hswGen = s.hswGen ∧ (s.modCtl n f).hswVhs = s.hswVhs ∧
    (s.modCtl n f).hswKeep = s.hswKeep ∧ (s.modCtl n f).stamps = s.stamps ∧ (s.modCtl n f).pacer = s.pacer ∧
    (s.modCtl n f).lap = s.lap ∧ (s.modCtl n f).inj = s.inj ∧ (s.modCtl n f).cap = s.cap ∧
    (s.modCtl n f).ctl = s.ctl ∧ (s.modCtl n f).clocks = s.clocks ∧ (s.modCtl n f).pwr = s.pwr ∧
    (s.modCtl n f).flash = s.flash ∧ (s.modCtl n f).recd = s.recd ∧ (s.modCtl n f).memCare = s.memCare ∧
    (s.modCtl n f).sec = s.sec ∧ (s.modCtl n f).plb = s.plb ∧ (s.modCtl n f).plbMis = s.plbMis ∧
    (s.modCtl n f).parity = s.parity ∧ (s.modCtl n f).boots = s.boots :=
  ⟨rfl, rfl, rfl, rfl, rfl, rfl, rfl, rfl, rfl, rfl, rfl, rfl, rfl, rfl, rfl, rfl, rfl, rfl, rfl, rfl, rfl, rfl, rfl, rfl, rfl, rfl, rfl, rfl, rfl, rfl, rfl, rfl, rfl, rfl, rfl, rfl, rfl, rfl, rfl, rfl, rfl, rfl, rfl, rfl, rfl, rfl, rfl, rfl, rfl, rfl⟩

@[simp] theorem State.modCtl_canCtl (s : State) (n : Nat) (f : CanCtl → CanCtl) : (s.modCtl n f).canCtl = s.canCtl.modify n f := rfl

@[simp] theorem State.modObj_frame (s : State) (k : Nat) (f : CanObj → CanObj) :
    (s.modObj k f).pending = s.pending ∧ (s.modObj k f).clk = s.clk ∧ (s.modObj k f).tag = s.tag ∧
    (s.modObj k f).fresh = s.fresh ∧ (s.modObj k f).draws = s.draws ∧ (s.modObj k f).regs = s.regs ∧
    (s.modObj k f).mem = s.mem ∧ (s.modObj k f).shadow = s.shadow ∧ (s.modObj k f).dieBFail = s.dieBFail ∧
    (s.modObj k f).failed = s.failed ∧ (s.modObj k f).occ = s.occ ∧ (s.modObj k f).lastErr = s.lastErr ∧
    (s.modObj k f).link = s.link ∧ (s.modObj k f).cfg = s.cfg ∧ (s.modObj k f).lanes = s.lanes ∧
    (s.modObj k f).gnss = s.gnss ∧ (s.modObj k f).gnssCh = s.gnssCh ∧ (s.modObj k f).nav = s.nav ∧
    (s.modObj k f).enc = s.enc ∧ (s.modObj k f).ssi = s.ssi ∧ (s.modObj k f).emu = s.emu ∧
    (s.modObj k f).ain = s.ain ∧ (s.modObj k f).fus = s.fus ∧ (s.modObj k f).canCtl = s.canCtl ∧
    (s.modObj k f).geo = s.geo ∧ (s.modObj k f).str = s.str ∧ (s.modObj k f).armCh = s.armCh ∧
    (s.modObj k f).armSw = s.armSw ∧ (s.modObj k f).armDie = s.armDie ∧ (s.modObj k f).sol = s.sol ∧
    (s.modObj k f).hsw = s.hsw ∧ (s.modObj k f).hswGen = s.hswGen ∧ (s.modObj k f).hswVhs = s.hswVhs ∧
    (s.modObj k f).hswKeep = s.hswKeep ∧ (s.modObj k f).stamps = s.stamps ∧ (s.modObj k f).pacer = s.pacer ∧
    (s.modObj k f).lap = s.lap ∧ (s.modObj k f).inj = s.inj ∧ (s.modObj k f).cap = s.cap ∧
    (s.modObj k f).ctl = s.ctl ∧ (s.modObj k f).clocks = s.clocks ∧ (s.modObj k f).pwr = s.pwr ∧
    (s.modObj k f).flash = s.flash ∧ (s.modObj k f).recd = s.recd ∧ (s.modObj k f).memCare = s.memCare ∧
    (s.modObj k f).sec = s.sec ∧ (s.modObj k f).plb = s.plb ∧ (s.modObj k f).plbMis = s.plbMis ∧
    (s.modObj k f).parity = s.parity ∧ (s.modObj k f).boots = s.boots :=
  ⟨rfl, rfl, rfl, rfl, rfl, rfl, rfl, rfl, rfl, rfl, rfl, rfl, rfl, rfl, rfl, rfl, rfl, rfl, rfl, rfl, rfl, rfl, rfl, rfl, rfl, rfl, rfl, rfl, rfl, rfl, rfl, rfl, rfl, rfl, rfl, rfl, rfl, rfl, rfl, rfl, rfl, rfl, rfl, rfl, rfl, rfl, rfl, rfl, rfl, rfl⟩

@[simp] theorem State.modObj_canObj (s : State) (k : Nat) (f : CanObj → CanObj) : (s.modObj k f).canObj = s.canObj.modify k f := rfl

@[simp] theorem State.modCap_frame (s : State) (f : CapState → CapState) :
    (s.modCap f).pending = s.pending ∧ (s.modCap f).clk = s.clk ∧ (s.modCap f).tag = s.tag ∧
    (s.modCap f).fresh = s.fresh ∧ (s.modCap f).draws = s.draws ∧ (s.modCap f).regs = s.regs ∧
    (s.modCap f).mem = s.mem ∧ (s.modCap f).shadow = s.shadow ∧ (s.modCap f).dieBFail = s.dieBFail ∧
    (s.modCap f).failed = s.failed ∧ (s.modCap f).occ = s.occ ∧ (s.modCap f).lastErr = s.lastErr ∧
    (s.modCap f).link = s.link ∧ (s.modCap f).cfg = s.cfg ∧ (s.modCap f).lanes = s.lanes ∧
    (s.modCap f).gnss = s.gnss ∧ (s.modCap f).gnssCh = s.gnssCh ∧ (s.modCap f).nav = s.nav ∧
    (s.modCap f).enc = s.enc ∧ (s.modCap f).ssi = s.ssi ∧ (s.modCap f).emu = s.emu ∧ (s.modCap f).ain = s.ain ∧
    (s.modCap f).fus = s.fus ∧ (s.modCap f).canCtl = s.canCtl ∧ (s.modCap f).canObj = s.canObj ∧
    (s.modCap f).geo = s.geo ∧ (s.modCap f).str = s.str ∧ (s.modCap f).armCh = s.armCh ∧
    (s.modCap f).armSw = s.armSw ∧ (s.modCap f).armDie = s.armDie ∧ (s.modCap f).sol = s.sol ∧
    (s.modCap f).hsw = s.hsw ∧ (s.modCap f).hswGen = s.hswGen ∧ (s.modCap f).hswVhs = s.hswVhs ∧
    (s.modCap f).hswKeep = s.hswKeep ∧ (s.modCap f).stamps = s.stamps ∧ (s.modCap f).pacer = s.pacer ∧
    (s.modCap f).lap = s.lap ∧ (s.modCap f).inj = s.inj ∧ (s.modCap f).ctl = s.ctl ∧ (s.modCap f).clocks = s.clocks ∧
    (s.modCap f).pwr = s.pwr ∧ (s.modCap f).flash = s.flash ∧ (s.modCap f).recd = s.recd ∧
    (s.modCap f).memCare = s.memCare ∧ (s.modCap f).sec = s.sec ∧ (s.modCap f).plb = s.plb ∧
    (s.modCap f).plbMis = s.plbMis ∧ (s.modCap f).parity = s.parity ∧ (s.modCap f).boots = s.boots :=
  ⟨rfl, rfl, rfl, rfl, rfl, rfl, rfl, rfl, rfl, rfl, rfl, rfl, rfl, rfl, rfl, rfl, rfl, rfl, rfl, rfl, rfl, rfl, rfl, rfl, rfl, rfl, rfl, rfl, rfl, rfl, rfl, rfl, rfl, rfl, rfl, rfl, rfl, rfl, rfl, rfl, rfl, rfl, rfl, rfl, rfl, rfl, rfl, rfl, rfl, rfl⟩

@[simp] theorem State.modCap_cap (s : State) (f : CapState → CapState) : (s.modCap f).cap = f s.cap := rfl

@[simp] theorem State.modCfg_frame (s : State) (f : CfgState → CfgState) :
    (s.modCfg f).pending = s.pending ∧ (s.modCfg f).clk = s.clk ∧ (s.modCfg f).tag = s.tag ∧
    (s.modCfg f).fresh = s.fresh ∧ (s.modCfg f).draws = s.draws ∧ (s.modCfg f).regs = s.regs ∧
    (s.modCfg f).mem = s.mem ∧ (s.modCfg f).shadow = s.shadow ∧ (s.modCfg f).dieBFail = s.dieBFail ∧
    (s.modCfg f).failed = s.failed ∧ (s.modCfg f).occ = s.occ ∧ (s.modCfg f).lastErr = s.lastErr ∧
    (s.modCfg f).link = s.link ∧ (s.modCfg f).lanes = s.lanes ∧ (s.modCfg f).gnss = s.gnss ∧
    (s.modCfg f).gnssCh = s.gnssCh ∧ (s.modCfg f).nav = s.nav ∧ (s.modCfg f).enc = s.enc ∧ (s.modCfg f).ssi = s.ssi ∧
    (s.modCfg f).emu = s.emu ∧ (s.modCfg f).ain = s.ain ∧ (s.modCfg f).fus = s.fus ∧ (s.modCfg f).canCtl = s.canCtl ∧
    (s.modCfg f).canObj = s.canObj ∧ (s.modCfg f).geo = s.geo ∧ (s.modCfg f).str = s.str ∧
    (s.modCfg f).armCh = s.armCh ∧ (s.modCfg f).armSw = s.armSw ∧ (s.modCfg f).armDie = s.armDie ∧
    (s.modCfg f).sol = s.sol ∧ (s.modCfg f).hsw = s.hsw ∧ (s.modCfg f).hswGen = s.hswGen ∧
    (s.modCfg f).hswVhs = s.hswVhs ∧ (s.modCfg f).hswKeep = s.hswKeep ∧ (s.modCfg f).stamps = s.stamps ∧
    (s.modCfg f).pacer = s.pacer ∧ (s.modCfg f).lap = s.lap ∧ (s.modCfg f).inj = s.inj ∧ (s.modCfg f).cap = s.cap ∧
    (s.modCfg f).ctl = s.ctl ∧ (s.modCfg f).clocks = s.clocks ∧ (s.modCfg f).pwr = s.pwr ∧
    (s.modCfg f).flash = s.flash ∧ (s.modCfg f).recd = s.recd ∧ (s.modCfg f).memCare = s.memCare ∧
    (s.modCfg f).sec = s.sec ∧ (s.modCfg f).plb = s.plb ∧ (s.modCfg f).plbMis = s.plbMis ∧
    (s.modCfg f).parity = s.parity ∧ (s.modCfg f).boots = s.boots :=
  ⟨rfl, rfl, rfl, rfl, rfl, rfl, rfl, rfl, rfl, rfl, rfl, rfl, rfl, rfl, rfl, rfl, rfl, rfl, rfl, rfl, rfl, rfl, rfl, rfl, rfl, rfl, rfl, rfl, rfl, rfl, rfl, rfl, rfl, rfl, rfl, rfl, rfl, rfl, rfl, rfl, rfl, rfl, rfl, rfl, rfl, rfl, rfl, rfl, rfl, rfl⟩

@[simp] theorem State.modCfg_cfg (s : State) (f : CfgState → CfgState) : (s.modCfg f).cfg = f s.cfg := rfl

@[simp] theorem State.modClk_frame (s : State) (f : ClkState → ClkState) :
    (s.modClk f).pending = s.pending ∧ (s.modClk f).clk = s.clk ∧ (s.modClk f).tag = s.tag ∧
    (s.modClk f).fresh = s.fresh ∧ (s.modClk f).draws = s.draws ∧ (s.modClk f).regs = s.regs ∧
    (s.modClk f).mem = s.mem ∧ (s.modClk f).shadow = s.shadow ∧ (s.modClk f).dieBFail = s.dieBFail ∧
    (s.modClk f).failed = s.failed ∧ (s.modClk f).occ = s.occ ∧ (s.modClk f).lastErr = s.lastErr ∧
    (s.modClk f).link = s.link ∧ (s.modClk f).cfg = s.cfg ∧ (s.modClk f).lanes = s.lanes ∧
    (s.modClk f).gnss = s.gnss ∧ (s.modClk f).gnssCh = s.gnssCh ∧ (s.modClk f).nav = s.nav ∧
    (s.modClk f).enc = s.enc ∧ (s.modClk f).ssi = s.ssi ∧ (s.modClk f).emu = s.emu ∧ (s.modClk f).ain = s.ain ∧
    (s.modClk f).fus = s.fus ∧ (s.modClk f).canCtl = s.canCtl ∧ (s.modClk f).canObj = s.canObj ∧
    (s.modClk f).geo = s.geo ∧ (s.modClk f).str = s.str ∧ (s.modClk f).armCh = s.armCh ∧
    (s.modClk f).armSw = s.armSw ∧ (s.modClk f).armDie = s.armDie ∧ (s.modClk f).sol = s.sol ∧
    (s.modClk f).hsw = s.hsw ∧ (s.modClk f).hswGen = s.hswGen ∧ (s.modClk f).hswVhs = s.hswVhs ∧
    (s.modClk f).hswKeep = s.hswKeep ∧ (s.modClk f).stamps = s.stamps ∧ (s.modClk f).pacer = s.pacer ∧
    (s.modClk f).lap = s.lap ∧ (s.modClk f).inj = s.inj ∧ (s.modClk f).cap = s.cap ∧ (s.modClk f).ctl = s.ctl ∧
    (s.modClk f).pwr = s.pwr ∧ (s.modClk f).flash = s.flash ∧ (s.modClk f).recd = s.recd ∧
    (s.modClk f).memCare = s.memCare ∧ (s.modClk f).sec = s.sec ∧ (s.modClk f).plb = s.plb ∧
    (s.modClk f).plbMis = s.plbMis ∧ (s.modClk f).parity = s.parity ∧ (s.modClk f).boots = s.boots :=
  ⟨rfl, rfl, rfl, rfl, rfl, rfl, rfl, rfl, rfl, rfl, rfl, rfl, rfl, rfl, rfl, rfl, rfl, rfl, rfl, rfl, rfl, rfl, rfl, rfl, rfl, rfl, rfl, rfl, rfl, rfl, rfl, rfl, rfl, rfl, rfl, rfl, rfl, rfl, rfl, rfl, rfl, rfl, rfl, rfl, rfl, rfl, rfl, rfl, rfl, rfl⟩

@[simp] theorem State.modClk_clocks (s : State) (f : ClkState → ClkState) : (s.modClk f).clocks = f s.clocks := rfl

@[simp] theorem State.modPid_frame (s : State) (f : CtlState → CtlState) :
    (s.modPid f).pending = s.pending ∧ (s.modPid f).clk = s.clk ∧ (s.modPid f).tag = s.tag ∧
    (s.modPid f).fresh = s.fresh ∧ (s.modPid f).draws = s.draws ∧ (s.modPid f).regs = s.regs ∧
    (s.modPid f).mem = s.mem ∧ (s.modPid f).shadow = s.shadow ∧ (s.modPid f).dieBFail = s.dieBFail ∧
    (s.modPid f).failed = s.failed ∧ (s.modPid f).occ = s.occ ∧ (s.modPid f).lastErr = s.lastErr ∧
    (s.modPid f).link = s.link ∧ (s.modPid f).cfg = s.cfg ∧ (s.modPid f).lanes = s.lanes ∧
    (s.modPid f).gnss = s.gnss ∧ (s.modPid f).gnssCh = s.gnssCh ∧ (s.modPid f).nav = s.nav ∧
    (s.modPid f).enc = s.enc ∧ (s.modPid f).ssi = s.ssi ∧ (s.modPid f).emu = s.emu ∧ (s.modPid f).ain = s.ain ∧
    (s.modPid f).fus = s.fus ∧ (s.modPid f).canCtl = s.canCtl ∧ (s.modPid f).canObj = s.canObj ∧
    (s.modPid f).geo = s.geo ∧ (s.modPid f).str = s.str ∧ (s.modPid f).armCh = s.armCh ∧
    (s.modPid f).armSw = s.armSw ∧ (s.modPid f).armDie = s.armDie ∧ (s.modPid f).sol = s.sol ∧
    (s.modPid f).hsw = s.hsw ∧ (s.modPid f).hswGen = s.hswGen ∧ (s.modPid f).hswVhs = s.hswVhs ∧
    (s.modPid f).hswKeep = s.hswKeep ∧ (s.modPid f).stamps = s.stamps ∧ (s.modPid f).pacer = s.pacer ∧
    (s.modPid f).lap = s.lap ∧ (s.modPid f).inj = s.inj ∧ (s.modPid f).cap = s.cap ∧ (s.modPid f).clocks = s.clocks ∧
    (s.modPid f).pwr = s.pwr ∧ (s.modPid f).flash = s.flash ∧ (s.modPid f).recd = s.recd ∧
    (s.modPid f).memCare = s.memCare ∧ (s.modPid f).sec = s.sec ∧ (s.modPid f).plb = s.plb ∧
    (s.modPid f).plbMis = s.plbMis ∧ (s.modPid f).parity = s.parity ∧ (s.modPid f).boots = s.boots :=
  ⟨rfl, rfl, rfl, rfl, rfl, rfl, rfl, rfl, rfl, rfl, rfl, rfl, rfl, rfl, rfl, rfl, rfl, rfl, rfl, rfl, rfl, rfl, rfl, rfl, rfl, rfl, rfl, rfl, rfl, rfl, rfl, rfl, rfl, rfl, rfl, rfl, rfl, rfl, rfl, rfl, rfl, rfl, rfl, rfl, rfl, rfl, rfl, rfl, rfl, rfl⟩

@[simp] theorem State.modPid_ctl (s : State) (f : CtlState → CtlState) : (s.modPid f).ctl = f s.ctl := rfl

@[simp] theorem State.modLoop_frame (s : State) (n : Nat) (f : LoopState → LoopState) :
    (s.modLoop n f).pending = s.pending ∧ (s.modLoop n f).clk = s.clk ∧ (s.modLoop n f).tag = s.tag ∧
    (s.modLoop n f).fresh = s.fresh ∧ (s.modLoop n f).draws = s.draws ∧ (s.modLoop n f).regs = s.regs ∧
    (s.modLoop n f).mem = s.mem ∧ (s.modLoop n f).shadow = s.shadow ∧ (s.modLoop n f).dieBFail = s.dieBFail ∧
    (s.modLoop n f).failed = s.failed ∧ (s.modLoop n f).occ = s.occ ∧ (s.modLoop n f).lastErr = s.lastErr ∧
    (s.modLoop n f).link = s.link ∧ (s.modLoop n f).cfg = s.cfg ∧ (s.modLoop n f).lanes = s.lanes ∧
    (s.modLoop n f).gnss = s.gnss ∧ (s.modLoop n f).gnssCh = s.gnssCh ∧ (s.modLoop n f).nav = s.nav ∧
    (s.modLoop n f).enc = s.enc ∧ (s.modLoop n f).ssi = s.ssi ∧ (s.modLoop n f).emu = s.emu ∧
    (s.modLoop n f).ain = s.ain ∧ (s.modLoop n f).fus = s.fus ∧ (s.modLoop n f).canCtl = s.canCtl ∧
    (s.modLoop n f).canObj = s.canObj ∧ (s.modLoop n f).geo = s.geo ∧ (s.modLoop n f).str = s.str ∧
    (s.modLoop n f).armCh = s.armCh ∧ (s.modLoop n f).armSw = s.armSw ∧ (s.modLoop n f).armDie = s.armDie ∧
    (s.modLoop n f).sol = s.sol ∧ (s.modLoop n f).hsw = s.hsw ∧ (s.modLoop n f).hswGen = s.hswGen ∧
    (s.modLoop n f).hswVhs = s.hswVhs ∧ (s.modLoop n f).hswKeep = s.hswKeep ∧ (s.modLoop n f).stamps = s.stamps ∧
    (s.modLoop n f).pacer = s.pacer ∧ (s.modLoop n f).lap = s.lap ∧ (s.modLoop n f).inj = s.inj ∧
    (s.modLoop n f).cap = s.cap ∧ (s.modLoop n f).clocks = s.clocks ∧ (s.modLoop n f).pwr = s.pwr ∧
    (s.modLoop n f).flash = s.flash ∧ (s.modLoop n f).recd = s.recd ∧ (s.modLoop n f).memCare = s.memCare ∧
    (s.modLoop n f).sec = s.sec ∧ (s.modLoop n f).plb = s.plb ∧ (s.modLoop n f).plbMis = s.plbMis ∧
    (s.modLoop n f).parity = s.parity ∧ (s.modLoop n f).boots = s.boots :=
  ⟨rfl, rfl, rfl, rfl, rfl, rfl, rfl, rfl, rfl, rfl, rfl, rfl, rfl, rfl, rfl, rfl, rfl, rfl, rfl, rfl, rfl, rfl, rfl, rfl, rfl, rfl, rfl, rfl, rfl, rfl, rfl, rfl, rfl, rfl, rfl, rfl, rfl, rfl, rfl, rfl, rfl, rfl, rfl, rfl, rfl, rfl, rfl, rfl, rfl, rfl⟩

@[simp] theorem State.modHeat_frame (s : State) (h : Nat) (f : HeatState → HeatState) :
    (s.modHeat h f).pending = s.pending ∧ (s.modHeat h f).clk = s.clk ∧ (s.modHeat h f).tag = s.tag ∧
    (s.modHeat h f).fresh = s.fresh ∧ (s.modHeat h f).draws = s.draws ∧ (s.modHeat h f).regs = s.regs ∧
    (s.modHeat h f).mem = s.mem ∧ (s.modHeat h f).shadow = s.shadow ∧ (s.modHeat h f).dieBFail = s.dieBFail ∧
    (s.modHeat h f).failed = s.failed ∧ (s.modHeat h f).occ = s.occ ∧ (s.modHeat h f).lastErr = s.lastErr ∧
    (s.modHeat h f).link = s.link ∧ (s.modHeat h f).cfg = s.cfg ∧ (s.modHeat h f).lanes = s.lanes ∧
    (s.modHeat h f).gnss = s.gnss ∧ (s.modHeat h f).gnssCh = s.gnssCh ∧ (s.modHeat h f).nav = s.nav ∧
    (s.modHeat h f).enc = s.enc ∧ (s.modHeat h f).ssi = s.ssi ∧ (s.modHeat h f).emu = s.emu ∧
    (s.modHeat h f).ain = s.ain ∧ (s.modHeat h f).fus = s.fus ∧ (s.modHeat h f).canCtl = s.canCtl ∧
    (s.modHeat h f).canObj = s.canObj ∧ (s.modHeat h f).geo = s.geo ∧ (s.modHeat h f).str = s.str ∧
    (s.modHeat h f).armCh = s.armCh ∧ (s.modHeat h f).armSw = s.armSw ∧ (s.modHeat h f).armDie = s.armDie ∧
    (s.modHeat h f).sol = s.sol ∧ (s.modHeat h f).hsw = s.hsw ∧ (s.modHeat h f).hswGen = s.hswGen ∧
    (s.modHeat h f).hswVhs = s.hswVhs ∧ (s.modHeat h f).hswKeep = s.hswKeep ∧ (s.modHeat h f).stamps = s.stamps ∧
    (s.modHeat h f).pacer = s.pacer ∧ (s.modHeat h f).lap = s.lap ∧ (s.modHeat h f).inj = s.inj ∧
    (s.modHeat h f).cap = s.cap ∧ (s.modHeat h f).clocks = s.clocks ∧ (s.modHeat h f).pwr = s.pwr ∧
    (s.modHeat h f).flash = s.flash ∧ (s.modHeat h f).recd = s.recd ∧ (s.modHeat h f).memCare = s.memCare ∧
    (s.modHeat h f).sec = s.sec ∧ (s.modHeat h f).plb = s.plb ∧ (s.modHeat h f).plbMis = s.plbMis ∧
    (s.modHeat h f).parity = s.parity ∧ (s.modHeat h f).boots = s.boots :=
  ⟨rfl, rfl, rfl, rfl, rfl, rfl, rfl, rfl, rfl, rfl, rfl, rfl, rfl, rfl, rfl, rfl, rfl, rfl, rfl, rfl, rfl, rfl, rfl, rfl, rfl, rfl, rfl, rfl, rfl, rfl, rfl, rfl, rfl, rfl, rfl, rfl, rfl, rfl, rfl, rfl, rfl, rfl, rfl, rfl, rfl, rfl, rfl, rfl, rfl, rfl⟩

@[simp] theorem State.modEnc_frame (s : State) (n : Nat) (f : EncState → EncState) :
    (s.modEnc n f).pending = s.pending ∧ (s.modEnc n f).clk = s.clk ∧ (s.modEnc n f).tag = s.tag ∧
    (s.modEnc n f).fresh = s.fresh ∧ (s.modEnc n f).draws = s.draws ∧ (s.modEnc n f).regs = s.regs ∧
    (s.modEnc n f).mem = s.mem ∧ (s.modEnc n f).shadow = s.shadow ∧ (s.modEnc n f).dieBFail = s.dieBFail ∧
    (s.modEnc n f).failed = s.failed ∧ (s.modEnc n f).occ = s.occ ∧ (s.modEnc n f).lastErr = s.lastErr ∧
    (s.modEnc n f).link = s.link ∧ (s.modEnc n f).cfg = s.cfg ∧ (s.modEnc n f).lanes = s.lanes ∧
    (s.modEnc n f).gnss = s.gnss ∧ (s.modEnc n f).gnssCh = s.gnssCh ∧ (s.modEnc n f).nav = s.nav ∧
    (s.modEnc n f).ssi = s.ssi ∧ (s.modEnc n f).emu = s.emu ∧ (s.modEnc n f).ain = s.ain ∧
    (s.modEnc n f).fus = s.fus ∧ (s.modEnc n f).canCtl = s.canCtl ∧ (s.modEnc n f).canObj = s.canObj ∧
    (s.modEnc n f).geo = s.geo ∧ (s.modEnc n f).str = s.str ∧ (s.modEnc n f).armCh = s.armCh ∧
    (s.modEnc n f).armSw = s.armSw ∧ (s.modEnc n f).armDie = s.armDie ∧ (s.modEnc n f).sol = s.sol ∧
    (s.modEnc n f).hsw = s.hsw ∧ (s.modEnc n f).hswGen = s.hswGen ∧ (s.modEnc n f).hswVhs = s.hswVhs ∧
    (s.modEnc n f).hswKeep = s.hswKeep ∧ (s.modEnc n f).stamps = s.stamps ∧ (s.modEnc n f).pacer = s.pacer ∧
    (s.modEnc n f).lap = s.lap ∧ (s.modEnc n f).inj = s.inj ∧ (s.modEnc n f).cap = s.cap ∧
    (s.modEnc n f).ctl = s.ctl ∧ (s.modEnc n f).clocks = s.clocks ∧ (s.modEnc n f).pwr = s.pwr ∧
    (s.modEnc n f).flash = s.flash ∧ (s.modEnc n f).recd = s.recd ∧ (s.modEnc n f).memCare = s.memCare ∧
    (s.modEnc n f).sec = s.sec ∧ (s.modEnc n f).plb = s.plb ∧ (s.modEnc n f).plbMis = s.plbMis ∧
    (s.modEnc n f).parity = s.parity ∧ (s.modEnc n f).boots = s.boots :=
  ⟨rfl, rfl, rfl, rfl, rfl, rfl, rfl, rfl, rfl, rfl, rfl, rfl, rfl, rfl, rfl, rfl, rfl, rfl, rfl, rfl, rfl, rfl, rfl, rfl, rfl, rfl, rfl, rfl, rfl, rfl, rfl, rfl, rfl, rfl, rfl, rfl, rfl, rfl, rfl, rfl, rfl, rfl, rfl, rfl, rfl, rfl, rfl, rfl, rfl, rfl⟩

@[simp] theorem State.modEnc_enc (s : State) (n : Nat) (f : EncState → EncState) : (s.modEnc n f).enc = s.enc.modify n f := rfl

@[simp] theorem State.modSsi_frame (s : State) (n : Nat) (f : SsiState → SsiState) :
    (s.modSsi n f).pending = s.pending ∧ (s.modSsi n f).clk = s.clk ∧ (s.modSsi n f).tag = s.tag ∧
    (s.modSsi n f).fresh = s.fresh ∧ (s.modSsi n f).draws = s.draws ∧ (s.modSsi n f).regs = s.regs ∧
    (s.modSsi n f).mem = s.mem ∧ (s.modSsi n f).shadow = s.shadow ∧ (s.modSsi n f).dieBFail = s.dieBFail ∧
    (s.modSsi n f).failed = s.failed ∧ (s.modSsi n f).occ = s.occ ∧ (s.modSsi n f).lastErr = s.lastErr ∧
    (s.modSsi n f).link = s.link ∧ (s.modSsi n f).cfg = s.cfg ∧ (s.modSsi n f).lanes = s.lanes ∧
    (s.modSsi n f).gnss = s.gnss ∧ (s.modSsi n f).gnssCh = s.gnssCh ∧ (s.modSsi n f).nav = s.nav ∧
    (s.modSsi n f).enc = s.enc ∧ (s.modSsi n f).emu = s.emu ∧ (s.modSsi n f).ain = s.ain ∧
    (s.modSsi n f).fus = s.fus ∧ (s.modSsi n f).canCtl = s.canCtl ∧ (s.modSsi n f).canObj = s.canObj ∧
    (s.modSsi n f).geo = s.geo ∧ (s.modSsi n f).str = s.str ∧ (s.modSsi n f).armCh = s.armCh ∧
    (s.modSsi n f).armSw = s.armSw ∧ (s.modSsi n f).armDie = s.armDie ∧ (s.modSsi n f).sol = s.sol ∧
    (s.modSsi n f).hsw = s.hsw ∧ (s.modSsi n f).hswGen = s.hswGen ∧ (s.modSsi n f).hswVhs = s.hswVhs ∧
    (s.modSsi n f).hswKeep = s.hswKeep ∧ (s.modSsi n f).stamps = s.stamps ∧ (s.modSsi n f).pacer = s.pacer ∧
    (s.modSsi n f).lap = s.lap ∧ (s.modSsi n f).inj = s.inj ∧ (s.modSsi n f).cap = s.cap ∧
    (s.modSsi n f).ctl = s.ctl ∧ (s.modSsi n f).clocks = s.clocks ∧ (s.modSsi n f).pwr = s.pwr ∧
    (s.modSsi n f).flash = s.flash ∧ (s.modSsi n f).recd = s.recd ∧ (s.modSsi n f).memCare = s.memCare ∧
    (s.modSsi n f).sec = s.sec ∧ (s.modSsi n f).plb = s.plb ∧ (s.modSsi n f).plbMis = s.plbMis ∧
    (s.modSsi n f).parity = s.parity ∧ (s.modSsi n f).boots = s.boots :=
  ⟨rfl, rfl, rfl, rfl, rfl, rfl, rfl, rfl, rfl, rfl, rfl, rfl, rfl, rfl, rfl, rfl, rfl, rfl, rfl, rfl, rfl, rfl, rfl, rfl, rfl, rfl, rfl, rfl, rfl, rfl, rfl, rfl, rfl, rfl, rfl, rfl, rfl, rfl, rfl, rfl, rfl, rfl, rfl, rfl, rfl, rfl, rfl, rfl, rfl, rfl⟩

@[simp] theorem State.modSsi_ssi (s : State) (n : Nat) (f : SsiState → SsiState) : (s.modSsi n f).ssi = s.ssi.modify n f := rfl

@[simp] theorem State.modEmu_frame (s : State) (n : Nat) (f : EmuState → EmuState) :
    (s.modEmu n f).pending = s.pending ∧ (s.modEmu n f).clk = s.clk ∧ (s.modEmu n f).tag = s.tag ∧
    (s.modEmu n f).fresh = s.fresh ∧ (s.modEmu n f).draws = s.draws ∧ (s.modEmu n f).regs = s.regs ∧
    (s.modEmu n f).mem = s.mem ∧ (s.modEmu n f).shadow = s.shadow ∧ (s.modEmu n f).dieBFail = s.dieBFail ∧
    (s.modEmu n f).failed = s.failed ∧ (s.modEmu n f).occ = s.occ ∧ (s.modEmu n f).lastErr = s.lastErr ∧
    (s.modEmu n f).link = s.link ∧ (s.modEmu n f).cfg = s.cfg ∧ (s.modEmu n f).lanes = s.lanes ∧
    (s.modEmu n f).gnss = s.gnss ∧ (s.modEmu n f).gnssCh = s.gnssCh ∧ (s.modEmu n f).nav = s.nav ∧
    (s.modEmu n f).enc = s.enc ∧ (s.modEmu n f).ssi = s.ssi ∧ (s.modEmu n f).ain = s.ain ∧
    (s.modEmu n f).fus = s.fus ∧ (s.modEmu n f).canCtl = s.canCtl ∧ (s.modEmu n f).canObj = s.canObj ∧
    (s.modEmu n f).geo = s.geo ∧ (s.modEmu n f).str = s.str ∧ (s.modEmu n f).armCh = s.armCh ∧
    (s.modEmu n f).armSw = s.armSw ∧ (s.modEmu n f).armDie = s.armDie ∧ (s.modEmu n f).sol = s.sol ∧
    (s.modEmu n f).hsw = s.hsw ∧ (s.modEmu n f).hswGen = s.hswGen ∧ (s.modEmu n f).hswVhs = s.hswVhs ∧
    (s.modEmu n f).hswKeep = s.hswKeep ∧ (s.modEmu n f).stamps = s.stamps ∧ (s.modEmu n f).pacer = s.pacer ∧
    (s.modEmu n f).lap = s.lap ∧ (s.modEmu n f).inj = s.inj ∧ (s.modEmu n f).cap = s.cap ∧
    (s.modEmu n f).ctl = s.ctl ∧ (s.modEmu n f).clocks = s.clocks ∧ (s.modEmu n f).pwr = s.pwr ∧
    (s.modEmu n f).flash = s.flash ∧ (s.modEmu n f).recd = s.recd ∧ (s.modEmu n f).memCare = s.memCare ∧
    (s.modEmu n f).sec = s.sec ∧ (s.modEmu n f).plb = s.plb ∧ (s.modEmu n f).plbMis = s.plbMis ∧
    (s.modEmu n f).parity = s.parity ∧ (s.modEmu n f).boots = s.boots :=
  ⟨rfl, rfl, rfl, rfl, rfl, rfl, rfl, rfl, rfl, rfl, rfl, rfl, rfl, rfl, rfl, rfl, rfl, rfl, rfl, rfl, rfl, rfl, rfl, rfl, rfl, rfl, rfl, rfl, rfl, rfl, rfl, rfl, rfl, rfl, rfl, rfl, rfl, rfl, rfl, rfl, rfl, rfl, rfl, rfl, rfl, rfl, rfl, rfl, rfl, rfl⟩

@[simp] theorem State.modEmu_emu (s : State) (n : Nat) (f : EmuState → EmuState) : (s.modEmu n f).emu = s.emu.modify n f := rfl

@[simp] theorem State.modAin_frame (s : State) (n : Nat) (f : AinState → AinState) :
    (s.modAin n f).pending = s.pending ∧ (s.modAin n f).clk = s.clk ∧ (s.modAin n f).tag = s.tag ∧
    (s.modAin n f).fresh = s.fresh ∧ (s.modAin n f).draws = s.draws ∧ (s.modAin n f).regs = s.regs ∧
    (s.modAin n f).mem = s.mem ∧ (s.modAin n f).shadow = s.shadow ∧ (s.modAin n f).dieBFail = s.dieBFail ∧
    (s.modAin n f).failed = s.failed ∧ (s.modAin n f).occ = s.occ ∧ (s.modAin n f).lastErr = s.lastErr ∧
    (s.modAin n f).link = s.link ∧ (s.modAin n f).cfg = s.cfg ∧ (s.modAin n f).lanes = s.lanes ∧
    (s.modAin n f).gnss = s.gnss ∧ (s.modAin n f).gnssCh = s.gnssCh ∧ (s.modAin n f).nav = s.nav ∧
    (s.modAin n f).enc = s.enc ∧ (s.modAin n f).ssi = s.ssi ∧ (s.modAin n f).emu = s.emu ∧
    (s.modAin n f).fus = s.fus ∧ (s.modAin n f).canCtl = s.canCtl ∧ (s.modAin n f).canObj = s.canObj ∧
    (s.modAin n f).geo = s.geo ∧ (s.modAin n f).str = s.str ∧ (s.modAin n f).armCh = s.armCh ∧
    (s.modAin n f).armSw = s.armSw ∧ (s.modAin n f).armDie = s.armDie ∧ (s.modAin n f).sol = s.sol ∧
    (s.modAin n f).hsw = s.hsw ∧ (s.modAin n f).hswGen = s.hswGen ∧ (s.modAin n f).hswVhs = s.hswVhs ∧
    (s.modAin n f).hswKeep = s.hswKeep ∧ (s.modAin n f).stamps = s.stamps ∧ (s.modAin n f).pacer = s.pacer ∧
    (s.modAin n f).lap = s.lap ∧ (s.modAin n f).inj = s.inj ∧ (s.modAin n f).cap = s.cap ∧
    (s.modAin n f).ctl = s.ctl ∧ (s.modAin n f).clocks = s.clocks ∧ (s.modAin n f).pwr = s.pwr ∧
    (s.modAin n f).flash = s.flash ∧ (s.modAin n f).recd = s.recd ∧ (s.modAin n f).memCare = s.memCare ∧
    (s.modAin n f).sec = s.sec ∧ (s.modAin n f).plb = s.plb ∧ (s.modAin n f).plbMis = s.plbMis ∧
    (s.modAin n f).parity = s.parity ∧ (s.modAin n f).boots = s.boots :=
  ⟨rfl, rfl, rfl, rfl, rfl, rfl, rfl, rfl, rfl, rfl, rfl, rfl, rfl, rfl, rfl, rfl, rfl, rfl, rfl, rfl, rfl, rfl, rfl, rfl, rfl, rfl, rfl, rfl, rfl, rfl, rfl, rfl, rfl, rfl, rfl, rfl, rfl, rfl, rfl, rfl, rfl, rfl, rfl, rfl, rfl, rfl, rfl, rfl, rfl, rfl⟩

@[simp] theorem State.modAin_ain (s : State) (n : Nat) (f : AinState → AinState) : (s.modAin n f).ain = s.ain.modify n f := rfl

@[simp] theorem State.modFus_frame (s : State) (f : FusState → FusState) :
    (s.modFus f).pending = s.pending ∧ (s.modFus f).clk = s.clk ∧ (s.modFus f).tag = s.tag ∧
    (s.modFus f).fresh = s.fresh ∧ (s.modFus f).draws = s.draws ∧ (s.modFus f).regs = s.regs ∧
    (s.modFus f).mem = s.mem ∧ (s.modFus f).shadow = s.shadow ∧ (s.modFus f).dieBFail = s.dieBFail ∧
    (s.modFus f).failed = s.failed ∧ (s.modFus f).occ = s.occ ∧ (s.modFus f).lastErr = s.lastErr ∧
    (s.modFus f).link = s.link ∧ (s.modFus f).cfg = s.cfg ∧ (s.modFus f).lanes = s.lanes ∧
    (s.modFus f).gnss = s.gnss ∧ (s.modFus f).gnssCh = s.gnssCh ∧ (s.modFus f).nav = s.nav ∧
    (s.modFus f).enc = s.enc ∧ (s.modFus f).ssi = s.ssi ∧ (s.modFus f).emu = s.emu ∧ (s.modFus f).ain = s.ain ∧
    (s.modFus f).canCtl = s.canCtl ∧ (s.modFus f).canObj = s.canObj ∧ (s.modFus f).geo = s.geo ∧
    (s.modFus f).str = s.str ∧ (s.modFus f).armCh = s.armCh ∧ (s.modFus f).armSw = s.armSw ∧
    (s.modFus f).armDie = s.armDie ∧ (s.modFus f).sol = s.sol ∧ (s.modFus f).hsw = s.hsw ∧
    (s.modFus f).hswGen = s.hswGen ∧ (s.modFus f).hswVhs = s.hswVhs ∧ (s.modFus f).hswKeep = s.hswKeep ∧
    (s.modFus f).stamps = s.stamps ∧ (s.modFus f).pacer = s.pacer ∧ (s.modFus f).lap = s.lap ∧
    (s.modFus f).inj = s.inj ∧ (s.modFus f).cap = s.cap ∧ (s.modFus f).ctl = s.ctl ∧ (s.modFus f).clocks = s.clocks ∧
    (s.modFus f).pwr = s.pwr ∧ (s.modFus f).flash = s.flash ∧ (s.modFus f).recd = s.recd ∧
    (s.modFus f).memCare = s.memCare ∧ (s.modFus f).sec = s.sec ∧ (s.modFus f).plb = s.plb ∧
    (s.modFus f).plbMis = s.plbMis ∧ (s.modFus f).parity = s.parity ∧ (s.modFus f).boots = s.boots :=
  ⟨rfl, rfl, rfl, rfl, rfl, rfl, rfl, rfl, rfl, rfl, rfl, rfl, rfl, rfl, rfl, rfl, rfl, rfl, rfl, rfl, rfl, rfl, rfl, rfl, rfl, rfl, rfl, rfl, rfl, rfl, rfl, rfl, rfl, rfl, rfl, rfl, rfl, rfl, rfl, rfl, rfl, rfl, rfl, rfl, rfl, rfl, rfl, rfl, rfl, rfl⟩

@[simp] theorem State.modFus_fus (s : State) (f : FusState → FusState) : (s.modFus f).fus = f s.fus := rfl

@[simp] theorem State.modRec_frame (s : State) (f : RecState → RecState) :
    (s.modRec f).pending = s.pending ∧ (s.modRec f).clk = s.clk ∧ (s.modRec f).tag = s.tag ∧
    (s.modRec f).fresh = s.fresh ∧ (s.modRec f).draws = s.draws ∧ (s.modRec f).regs = s.regs ∧
    (s.modRec f).mem = s.mem ∧ (s.modRec f).shadow = s.shadow ∧ (s.modRec f).dieBFail = s.dieBFail ∧
    (s.modRec f).failed = s.failed ∧ (s.modRec f).occ = s.occ ∧ (s.modRec f).lastErr = s.lastErr ∧
    (s.modRec f).link = s.link ∧ (s.modRec f).cfg = s.cfg ∧ (s.modRec f).lanes = s.lanes ∧
    (s.modRec f).gnss = s.gnss ∧ (s.modRec f).gnssCh = s.gnssCh ∧ (s.modRec f).nav = s.nav ∧
    (s.modRec f).enc = s.enc ∧ (s.modRec f).ssi = s.ssi ∧ (s.modRec f).emu = s.emu ∧ (s.modRec f).ain = s.ain ∧
    (s.modRec f).fus = s.fus ∧ (s.modRec f).canCtl = s.canCtl ∧ (s.modRec f).canObj = s.canObj ∧
    (s.modRec f).geo = s.geo ∧ (s.modRec f).str = s.str ∧ (s.modRec f).armCh = s.armCh ∧
    (s.modRec f).armSw = s.armSw ∧ (s.modRec f).armDie = s.armDie ∧ (s.modRec f).sol = s.sol ∧
    (s.modRec f).hsw = s.hsw ∧ (s.modRec f).hswGen = s.hswGen ∧ (s.modRec f).hswVhs = s.hswVhs ∧
    (s.modRec f).hswKeep = s.hswKeep ∧ (s.modRec f).stamps = s.stamps ∧ (s.modRec f).pacer = s.pacer ∧
    (s.modRec f).lap = s.lap ∧ (s.modRec f).inj = s.inj ∧ (s.modRec f).cap = s.cap ∧ (s.modRec f).ctl = s.ctl ∧
    (s.modRec f).clocks = s.clocks ∧ (s.modRec f).pwr = s.pwr ∧ (s.modRec f).flash = s.flash ∧
    (s.modRec f).memCare = s.memCare ∧ (s.modRec f).sec = s.sec ∧ (s.modRec f).plb = s.plb ∧
    (s.modRec f).plbMis = s.plbMis ∧ (s.modRec f).parity = s.parity ∧ (s.modRec f).boots = s.boots :=
  ⟨rfl, rfl, rfl, rfl, rfl, rfl, rfl, rfl, rfl, rfl, rfl, rfl, rfl, rfl, rfl, rfl, rfl, rfl, rfl, rfl, rfl, rfl, rfl, rfl, rfl, rfl, rfl, rfl, rfl, rfl, rfl, rfl, rfl, rfl, rfl, rfl, rfl, rfl, rfl, rfl, rfl, rfl, rfl, rfl, rfl, rfl, rfl, rfl, rfl, rfl⟩

@[simp] theorem State.modRec_recd (s : State) (f : RecState → RecState) : (s.modRec f).recd = f s.recd := rfl

@[simp] theorem State.modGeo_frame (s : State) (f : GeoState → GeoState) :
    (s.modGeo f).pending = s.pending ∧ (s.modGeo f).clk = s.clk ∧ (s.modGeo f).tag = s.tag ∧
    (s.modGeo f).fresh = s.fresh ∧ (s.modGeo f).draws = s.draws ∧ (s.modGeo f).regs = s.regs ∧
    (s.modGeo f).mem = s.mem ∧ (s.modGeo f).shadow = s.shadow ∧ (s.modGeo f).dieBFail = s.dieBFail ∧
    (s.modGeo f).failed = s.failed ∧ (s.modGeo f).occ = s.occ ∧ (s.modGeo f).lastErr = s.lastErr ∧
    (s.modGeo f).link = s.link ∧ (s.modGeo f).cfg = s.cfg ∧ (s.modGeo f).lanes = s.lanes ∧
    (s.modGeo f).gnss = s.gnss ∧ (s.modGeo f).gnssCh = s.gnssCh ∧ (s.modGeo f).nav = s.nav ∧
    (s.modGeo f).enc = s.enc ∧ (s.modGeo f).ssi = s.ssi ∧ (s.modGeo f).emu = s.emu ∧ (s.modGeo f).ain = s.ain ∧
    (s.modGeo f).fus = s.fus ∧ (s.modGeo f).canCtl = s.canCtl ∧ (s.modGeo f).canObj = s.canObj ∧
    (s.modGeo f).str = s.str ∧ (s.modGeo f).armCh = s.armCh ∧ (s.modGeo f).armSw = s.armSw ∧
    (s.modGeo f).armDie = s.armDie ∧ (s.modGeo f).sol = s.sol ∧ (s.modGeo f).hsw = s.hsw ∧
    (s.modGeo f).hswGen = s.hswGen ∧ (s.modGeo f).hswVhs = s.hswVhs ∧ (s.modGeo f).hswKeep = s.hswKeep ∧
    (s.modGeo f).stamps = s.stamps ∧ (s.modGeo f).pacer = s.pacer ∧ (s.modGeo f).lap = s.lap ∧
    (s.modGeo f).inj = s.inj ∧ (s.modGeo f).cap = s.cap ∧ (s.modGeo f).ctl = s.ctl ∧ (s.modGeo f).clocks = s.clocks ∧
    (s.modGeo f).pwr = s.pwr ∧ (s.modGeo f).flash = s.flash ∧ (s.modGeo f).recd = s.recd ∧
    (s.modGeo f).memCare = s.memCare ∧ (s.modGeo f).sec = s.sec ∧ (s.modGeo f).plb = s.plb ∧
    (s.modGeo f).plbMis = s.plbMis ∧ (s.modGeo f).parity = s.parity ∧ (s.modGeo f).boots = s.boots :=
  ⟨rfl, rfl, rfl, rfl, rfl, rfl, rfl, rfl, rfl, rfl, rfl, rfl, rfl, rfl, rfl, rfl, rfl, rfl, rfl, rfl, rfl, rfl, rfl, rfl, rfl, rfl, rfl, rfl, rfl, rfl, rfl, rfl, rfl, rfl, rfl, rfl, rfl, rfl, rfl, rfl, rfl, rfl, rfl, rfl, rfl, rfl, rfl, rfl, rfl, rfl⟩

@[simp] theorem State.modGeo_geo (s : State) (f : GeoState → GeoState) : (s.modGeo f).geo = f s.geo := rfl

@[simp] theorem State.modCross_frame (s : State) (p : Nat) (f : GeoCross → GeoCross) :
    (s.modCross p f).pending = s.pending ∧ (s.modCross p f).clk = s.clk ∧ (s.modCross p f).tag = s.tag ∧
    (s.modCross p f).fresh = s.fresh ∧ (s.modCross p f).draws = s.draws ∧ (s.modCross p f).regs = s.regs ∧
    (s.modCross p f).mem = s.mem ∧ (s.modCross p f).shadow = s.shadow ∧ (s.modCross p f).dieBFail = s.dieBFail ∧
    (s.modCross p f).failed = s.failed ∧ (s.modCross p f).occ = s.occ ∧ (s.modCross p f).lastErr = s.lastErr ∧
    (s.modCross p f).link = s.link ∧ (s.modCross p f).cfg = s.cfg ∧ (s.modCross p f).lanes = s.lanes ∧
    (s.modCross p f).gnss = s.gnss ∧ (s.modCross p f).gnssCh = s.gnssCh ∧ (s.modCross p f).nav = s.nav ∧
    (s.modCross p f).enc = s.enc ∧ (s.modCross p f).ssi = s.ssi ∧ (s.modCross p f).emu = s.emu ∧
    (s.modCross p f).ain = s.ain ∧ (s.modCross p f).fus = s.fus ∧ (s.modCross p f).canCtl = s.canCtl ∧
    (s.modCross p f).canObj = s.canObj ∧ (s.modCross p f).str = s.str ∧ (s.modCross p f).armCh = s.armCh ∧
    (s.modCross p f).armSw = s.armSw ∧ (s.modCross p f).armDie = s.armDie ∧ (s.modCross p f).sol = s.sol ∧
    (s.modCross p f).hsw = s.hsw ∧ (s.modCross p f).hswGen = s.hswGen ∧ (s.modCross p f).hswVhs = s.hswVhs ∧
    (s.modCross p f).hswKeep = s.hswKeep ∧ (s.modCross p f).stamps = s.stamps ∧ (s.modCross p f).pacer = s.pacer ∧
    (s.modCross p f).lap = s.lap ∧ (s.modCross p f).inj = s.inj ∧ (s.modCross p f).cap = s.cap ∧
    (s.modCross p f).ctl = s.ctl ∧ (s.modCross p f).clocks = s.clocks ∧ (s.modCross p f).pwr = s.pwr ∧
    (s.modCross p f).flash = s.flash ∧ (s.modCross p f).recd = s.recd ∧ (s.modCross p f).memCare = s.memCare ∧
    (s.modCross p f).sec = s.sec ∧ (s.modCross p f).plb = s.plb ∧ (s.modCross p f).plbMis = s.plbMis ∧
    (s.modCross p f).parity = s.parity ∧ (s.modCross p f).boots = s.boots :=
  ⟨rfl, rfl, rfl, rfl, rfl, rfl, rfl, rfl, rfl, rfl, rfl, rfl, rfl, rfl, rfl, rfl, rfl, rfl, rfl, rfl, rfl, rfl, rfl, rfl, rfl, rfl, rfl, rfl, rfl, rfl, rfl, rfl, rfl, rfl, rfl, rfl, rfl, rfl, rfl, rfl, rfl, rfl, rfl, rfl, rfl, rfl, rfl, rfl, rfl, rfl⟩

@[simp] theorem State.modSlot_frame (s : State) (k : Nat) (f : GeoSlot → GeoSlot) :
    (s.modSlot k f).pending = s.pending ∧ (s.modSlot k f).clk = s.clk ∧ (s.modSlot k f).tag = s.tag ∧
    (s.modSlot k f).fresh = s.fresh ∧ (s.modSlot k f).draws = s.draws ∧ (s.modSlot k f).regs = s.regs ∧
    (s.modSlot k f).mem = s.mem ∧ (s.modSlot k f).shadow = s.shadow ∧ (s.modSlot k f).dieBFail = s.dieBFail ∧
    (s.modSlot k f).failed = s.failed ∧ (s.modSlot k f).occ = s.occ ∧ (s.modSlot k f).lastErr = s.lastErr ∧
    (s.modSlot k f).link = s.link ∧ (s.modSlot k f).cfg = s.cfg ∧ (s.modSlot k f).lanes = s.lanes ∧
    (s.modSlot k f).gnss = s.gnss ∧ (s.modSlot k f).gnssCh = s.gnssCh ∧ (s.modSlot k f).nav = s.nav ∧
    (s.modSlot k f).enc = s.enc ∧ (s.modSlot k f).ssi = s.ssi ∧ (s.modSlot k f).emu = s.emu ∧
    (s.modSlot k f).ain = s.ain ∧ (s.modSlot k f).fus = s.fus ∧ (s.modSlot k f).canCtl = s.canCtl ∧
    (s.modSlot k f).canObj = s.canObj ∧ (s.modSlot k f).str = s.str ∧ (s.modSlot k f).armCh = s.armCh ∧
    (s.modSlot k f).armSw = s.armSw ∧ (s.modSlot k f).armDie = s.armDie ∧ (s.modSlot k f).sol = s.sol ∧
    (s.modSlot k f).hsw = s.hsw ∧ (s.modSlot k f).hswGen = s.hswGen ∧ (s.modSlot k f).hswVhs = s.hswVhs ∧
    (s.modSlot k f).hswKeep = s.hswKeep ∧ (s.modSlot k f).stamps = s.stamps ∧ (s.modSlot k f).pacer = s.pacer ∧
    (s.modSlot k f).lap = s.lap ∧ (s.modSlot k f).inj = s.inj ∧ (s.modSlot k f).cap = s.cap ∧
    (s.modSlot k f).ctl = s.ctl ∧ (s.modSlot k f).clocks = s.clocks ∧ (s.modSlot k f).pwr = s.pwr ∧
    (s.modSlot k f).flash = s.flash ∧ (s.modSlot k f).recd = s.recd ∧ (s.modSlot k f).memCare = s.memCare ∧
    (s.modSlot k f).sec = s.sec ∧ (s.modSlot k f).plb = s.plb ∧ (s.modSlot k f).plbMis = s.plbMis ∧
    (s.modSlot k f).parity = s.parity ∧ (s.modSlot k f).boots = s.boots :=
  ⟨rfl, rfl, rfl, rfl, rfl, rfl, rfl, rfl, rfl, rfl, rfl, rfl, rfl, rfl, rfl, rfl, rfl, rfl, rfl, rfl, rfl, rfl, rfl, rfl, rfl, rfl, rfl, rfl, rfl, rfl, rfl, rfl, rfl, rfl, rfl, rfl, rfl, rfl, rfl, rfl, rfl, rfl, rfl, rfl, rfl, rfl, rfl, rfl, rfl, rfl⟩

@[simp] theorem State.modCh_frame (s : State) (n : Nat) (f : GnssCh → GnssCh) :
    (s.modCh n f).pending = s.pending ∧ (s.modCh n f).clk = s.clk ∧ (s.modCh n f).tag = s.tag ∧
    (s.modCh n f).fresh = s.fresh ∧ (s.modCh n f).draws = s.draws ∧ (s.modCh n f).regs = s.regs ∧
    (s.modCh n f).mem = s.mem ∧ (s.modCh n f).shadow = s.shadow ∧ (s.modCh n f).dieBFail = s.dieBFail ∧
    (s.modCh n f).failed = s.failed ∧ (s.modCh n f).occ = s.occ ∧ (s.modCh n f).lastErr = s.lastErr ∧
    (s.modCh n f).link = s.link ∧ (s.modCh n f).cfg = s.cfg ∧ (s.modCh n f).lanes = s.lanes ∧
    (s.modCh n f).gnss = s.gnss ∧ (s.modCh n f).nav = s.nav ∧ (s.modCh n f).enc = s.enc ∧ (s.modCh n f).ssi = s.ssi ∧
    (s.modCh n f).emu = s.emu ∧ (s.modCh n f).ain = s.ain ∧ (s.modCh n f).fus = s.fus ∧
    (s.modCh n f).canCtl = s.canCtl ∧ (s.modCh n f).canObj = s.canObj ∧ (s.modCh n f).geo = s.geo ∧
    (s.modCh n f).str = s.str ∧ (s.modCh n f).armCh = s.armCh ∧ (s.modCh n f).armSw = s.armSw ∧
    (s.modCh n f).armDie = s.armDie ∧ (s.modCh n f).sol = s.sol ∧ (s.modCh n f).hsw = s.hsw ∧
    (s.modCh n f).hswGen = s.hswGen ∧ (s.modCh n f).hswVhs = s.hswVhs ∧ (s.modCh n f).hswKeep = s.hswKeep ∧
    (s.modCh n f).stamps = s.stamps ∧ (s.modCh n f).pacer = s.pacer ∧ (s.modCh n f).lap = s.lap ∧
    (s.modCh n f).inj = s.inj ∧ (s.modCh n f).cap = s.cap ∧ (s.modCh n f).ctl = s.ctl ∧
    (s.modCh n f).clocks = s.clocks ∧ (s.modCh n f).pwr = s.pwr ∧ (s.modCh n f).flash = s.flash ∧
    (s.modCh n f).recd = s.recd ∧ (s.modCh n f).memCare = s.memCare ∧ (s.modCh n f).sec = s.sec ∧
    (s.modCh n f).plb = s.plb ∧ (s.modCh n f).plbMis = s.plbMis ∧ (s.modCh n f).parity = s.parity ∧
    (s.modCh n f).boots = s.boots :=
  ⟨rfl, rfl, rfl, rfl, rfl, rfl, rfl, rfl, rfl, rfl, rfl, rfl, rfl, rfl, rfl, rfl, rfl, rfl, rfl, rfl, rfl, rfl, rfl, rfl, rfl, rfl, rfl, rfl, rfl, rfl, rfl, rfl, rfl, rfl, rfl, rfl, rfl, rfl, rfl, rfl, rfl, rfl, rfl, rfl, rfl, rfl, rfl, rfl, rfl, rfl⟩

@[simp] theorem State.modCh_gnssCh (s : State) (n : Nat) (f : GnssCh → GnssCh) : (s.modCh n f).gnssCh = s.gnssCh.modify n f := rfl

@[simp] theorem State.modGnss_frame (s : State) (f : GnssState → GnssState) :
    (s.modGnss f).pending = s.pending ∧ (s.modGnss f).clk = s.clk ∧ (s.modGnss f).tag = s.tag ∧
    (s.modGnss f).fresh = s.fresh ∧ (s.modGnss f).draws = s.draws ∧ (s.modGnss f).regs = s.regs ∧
    (s.modGnss f).mem = s.mem ∧ (s.modGnss f).shadow = s.shadow ∧ (s.modGnss f).dieBFail = s.dieBFail ∧
    (s.modGnss f).failed = s.failed ∧ (s.modGnss f).occ = s.occ ∧ (s.modGnss f).lastErr = s.lastErr ∧
    (s.modGnss f).link = s.link ∧ (s.modGnss f).cfg = s.cfg ∧ (s.modGnss f).lanes = s.lanes ∧
    (s.modGnss f).gnssCh = s.gnssCh ∧ (s.modGnss f).nav = s.nav ∧ (s.modGnss f).enc = s.enc ∧
    (s.modGnss f).ssi = s.ssi ∧ (s.modGnss f).emu = s.emu ∧ (s.modGnss f).ain = s.ain ∧ (s.modGnss f).fus = s.fus ∧
    (s.modGnss f).canCtl = s.canCtl ∧ (s.modGnss f).canObj = s.canObj ∧ (s.modGnss f).geo = s.geo ∧
    (s.modGnss f).str = s.str ∧ (s.modGnss f).armCh = s.armCh ∧ (s.modGnss f).armSw = s.armSw ∧
    (s.modGnss f).armDie = s.armDie ∧ (s.modGnss f).sol = s.sol ∧ (s.modGnss f).hsw = s.hsw ∧
    (s.modGnss f).hswGen = s.hswGen ∧ (s.modGnss f).hswVhs = s.hswVhs ∧ (s.modGnss f).hswKeep = s.hswKeep ∧
    (s.modGnss f).stamps = s.stamps ∧ (s.modGnss f).pacer = s.pacer ∧ (s.modGnss f).lap = s.lap ∧
    (s.modGnss f).inj = s.inj ∧ (s.modGnss f).cap = s.cap ∧ (s.modGnss f).ctl = s.ctl ∧
    (s.modGnss f).clocks = s.clocks ∧ (s.modGnss f).pwr = s.pwr ∧ (s.modGnss f).flash = s.flash ∧
    (s.modGnss f).recd = s.recd ∧ (s.modGnss f).memCare = s.memCare ∧ (s.modGnss f).sec = s.sec ∧
    (s.modGnss f).plb = s.plb ∧ (s.modGnss f).plbMis = s.plbMis ∧ (s.modGnss f).parity = s.parity ∧
    (s.modGnss f).boots = s.boots :=
  ⟨rfl, rfl, rfl, rfl, rfl, rfl, rfl, rfl, rfl, rfl, rfl, rfl, rfl, rfl, rfl, rfl, rfl, rfl, rfl, rfl, rfl, rfl, rfl, rfl, rfl, rfl, rfl, rfl, rfl, rfl, rfl, rfl, rfl, rfl, rfl, rfl, rfl, rfl, rfl, rfl, rfl, rfl, rfl, rfl, rfl, rfl, rfl, rfl, rfl, rfl⟩

@[simp] theorem State.modGnss_gnss (s : State) (f : GnssState → GnssState) : (s.modGnss f).gnss = f s.gnss := rfl

@[simp] theorem State.modHsw_frame (s : State) (k : Nat) (f : HswCh → HswCh) :
    (s.modHsw k f).pending = s.pending ∧ (s.modHsw k f).clk = s.clk ∧ (s.modHsw k f).tag = s.tag ∧
    (s.modHsw k f).fresh = s.fresh ∧ (s.modHsw k f).draws = s.draws ∧ (s.modHsw k f).regs = s.regs ∧
    (s.modHsw k f).mem = s.mem ∧ (s.modHsw k f).shadow = s.shadow ∧ (s.modHsw k f).dieBFail = s.dieBFail ∧
    (s.modHsw k f).failed = s.failed ∧ (s.modHsw k f).occ = s.occ ∧ (s.modHsw k f).lastErr = s.lastErr ∧
    (s.modHsw k f).link = s.link ∧ (s.modHsw k f).cfg = s.cfg ∧ (s.modHsw k f).lanes = s.lanes ∧
    (s.modHsw k f).gnss = s.gnss ∧ (s.modHsw k f).gnssCh = s.gnssCh ∧ (s.modHsw k f).nav = s.nav ∧
    (s.modHsw k f).enc = s.enc ∧ (s.modHsw k f).ssi = s.ssi ∧ (s.modHsw k f).emu = s.emu ∧
    (s.modHsw k f).ain = s.ain ∧ (s.modHsw k f).fus = s.fus ∧ (s.modHsw k f).canCtl = s.canCtl ∧
    (s.modHsw k f).canObj = s.canObj ∧ (s.modHsw k f).geo = s.geo ∧ (s.modHsw k f).str = s.str ∧
    (s.modHsw k f).armCh = s.armCh ∧ (s.modHsw k f).armSw = s.armSw ∧ (s.modHsw k f).armDie = s.armDie ∧
    (s.modHsw k f).sol = s.sol ∧ (s.modHsw k f).hswGen = s.hswGen ∧ (s.modHsw k f).hswVhs = s.hswVhs ∧
    (s.modHsw k f).hswKeep = s.hswKeep ∧ (s.modHsw k f).stamps = s.stamps ∧ (s.modHsw k f).pacer = s.pacer ∧
    (s.modHsw k f).lap = s.lap ∧ (s.modHsw k f).inj = s.inj ∧ (s.modHsw k f).cap = s.cap ∧
    (s.modHsw k f).ctl = s.ctl ∧ (s.modHsw k f).clocks = s.clocks ∧ (s.modHsw k f).pwr = s.pwr ∧
    (s.modHsw k f).flash = s.flash ∧ (s.modHsw k f).recd = s.recd ∧ (s.modHsw k f).memCare = s.memCare ∧
    (s.modHsw k f).sec = s.sec ∧ (s.modHsw k f).plb = s.plb ∧ (s.modHsw k f).plbMis = s.plbMis ∧
    (s.modHsw k f).parity = s.parity ∧ (s.modHsw k f).boots = s.boots :=
  ⟨rfl, rfl, rfl, rfl, rfl, rfl, rfl, rfl, rfl, rfl, rfl, rfl, rfl, rfl, rfl, rfl, rfl, rfl, rfl, rfl, rfl, rfl, rfl, rfl, rfl, rfl, rfl, rfl, rfl, rfl, rfl, rfl, rfl, rfl, rfl, rfl, rfl, rfl, rfl, rfl, rfl, rfl, rfl, rfl, rfl, rfl, rfl, rfl, rfl, rfl⟩

@[simp] theorem State.modHsw_hsw (s : State) (k : Nat) (f : HswCh → HswCh) : (s.modHsw k f).hsw = s.hsw.modify k f := rfl

@[simp] theorem State.modKeep_frame (s : State) (f : HswKeep → HswKeep) :
    (s.modKeep f).pending = s.pending ∧ (s.modKeep f).clk = s.clk ∧ (s.modKeep f).tag = s.tag ∧
    (s.modKeep f).fresh = s.fresh ∧ (s.modKeep f).draws = s.draws ∧ (s.modKeep f).regs = s.regs ∧
    (s.modKeep f).mem = s.mem ∧ (s.modKeep f).shadow = s.shadow ∧ (s.modKeep f).dieBFail = s.dieBFail ∧
    (s.modKeep f).failed = s.failed ∧ (s.modKeep f).occ = s.occ ∧ (s.modKeep f).lastErr = s.lastErr ∧
    (s.modKeep f).link = s.link ∧ (s.modKeep f).cfg = s.cfg ∧ (s.modKeep f).lanes = s.lanes ∧
    (s.modKeep f).gnss = s.gnss ∧ (s.modKeep f).gnssCh = s.gnssCh ∧ (s.modKeep f).nav = s.nav ∧
    (s.modKeep f).enc = s.enc ∧ (s.modKeep f).ssi = s.ssi ∧ (s.modKeep f).emu = s.emu ∧ (s.modKeep f).ain = s.ain ∧
    (s.modKeep f).fus = s.fus ∧ (s.modKeep f).canCtl = s.canCtl ∧ (s.modKeep f).canObj = s.canObj ∧
    (s.modKeep f).geo = s.geo ∧ (s.modKeep f).str = s.str ∧ (s.modKeep f).armCh = s.armCh ∧
    (s.modKeep f).armSw = s.armSw ∧ (s.modKeep f).armDie = s.armDie ∧ (s.modKeep f).sol = s.sol ∧
    (s.modKeep f).hsw = s.hsw ∧ (s.modKeep f).hswGen = s.hswGen ∧ (s.modKeep f).hswVhs = s.hswVhs ∧
    (s.modKeep f).stamps = s.stamps ∧ (s.modKeep f).pacer = s.pacer ∧ (s.modKeep f).lap = s.lap ∧
    (s.modKeep f).inj = s.inj ∧ (s.modKeep f).cap = s.cap ∧ (s.modKeep f).ctl = s.ctl ∧
    (s.modKeep f).clocks = s.clocks ∧ (s.modKeep f).pwr = s.pwr ∧ (s.modKeep f).flash = s.flash ∧
    (s.modKeep f).recd = s.recd ∧ (s.modKeep f).memCare = s.memCare ∧ (s.modKeep f).sec = s.sec ∧
    (s.modKeep f).plb = s.plb ∧ (s.modKeep f).plbMis = s.plbMis ∧ (s.modKeep f).parity = s.parity ∧
    (s.modKeep f).boots = s.boots :=
  ⟨rfl, rfl, rfl, rfl, rfl, rfl, rfl, rfl, rfl, rfl, rfl, rfl, rfl, rfl, rfl, rfl, rfl, rfl, rfl, rfl, rfl, rfl, rfl, rfl, rfl, rfl, rfl, rfl, rfl, rfl, rfl, rfl, rfl, rfl, rfl, rfl, rfl, rfl, rfl, rfl, rfl, rfl, rfl, rfl, rfl, rfl, rfl, rfl, rfl, rfl⟩

@[simp] theorem State.modKeep_hswKeep (s : State) (f : HswKeep → HswKeep) : (s.modKeep f).hswKeep = f s.hswKeep := rfl

@[simp] theorem State.modLink_frame (s : State) (f : LinkState → LinkState) :
    (s.modLink f).pending = s.pending ∧ (s.modLink f).clk = s.clk ∧ (s.modLink f).tag = s.tag ∧
    (s.modLink f).fresh = s.fresh ∧ (s.modLink f).draws = s.draws ∧ (s.modLink f).regs = s.regs ∧
    (s.modLink f).mem = s.mem ∧ (s.modLink f).shadow = s.shadow ∧ (s.modLink f).dieBFail = s.dieBFail ∧
    (s.modLink f).failed = s.failed ∧ (s.modLink f).occ = s.occ ∧ (s.modLink f).lastErr = s.lastErr ∧
    (s.modLink f).cfg = s.cfg ∧ (s.modLink f).lanes = s.lanes ∧ (s.modLink f).gnss = s.gnss ∧
    (s.modLink f).gnssCh = s.gnssCh ∧ (s.modLink f).nav = s.nav ∧ (s.modLink f).enc = s.enc ∧
    (s.modLink f).ssi = s.ssi ∧ (s.modLink f).emu = s.emu ∧ (s.modLink f).ain = s.ain ∧ (s.modLink f).fus = s.fus ∧
    (s.modLink f).canCtl = s.canCtl ∧ (s.modLink f).canObj = s.canObj ∧ (s.modLink f).geo = s.geo ∧
    (s.modLink f).str = s.str ∧ (s.modLink f).armCh = s.armCh ∧ (s.modLink f).armSw = s.armSw ∧
    (s.modLink f).armDie = s.armDie ∧ (s.modLink f).sol = s.sol ∧ (s.modLink f).hsw = s.hsw ∧
    (s.modLink f).hswGen = s.hswGen ∧ (s.modLink f).hswVhs = s.hswVhs ∧ (s.modLink f).hswKeep = s.hswKeep ∧
    (s.modLink f).stamps = s.stamps ∧ (s.modLink f).pacer = s.pacer ∧ (s.modLink f).lap = s.lap ∧
    (s.modLink f).inj = s.inj ∧ (s.modLink f).cap = s.cap ∧ (s.modLink f).ctl = s.ctl ∧
    (s.modLink f).clocks = s.clocks ∧ (s.modLink f).pwr = s.pwr ∧ (s.modLink f).flash = s.flash ∧
    (s.modLink f).recd = s.recd ∧ (s.modLink f).memCare = s.memCare ∧ (s.modLink f).sec = s.sec ∧
    (s.modLink f).plb = s.plb ∧ (s.modLink f).plbMis = s.plbMis ∧ (s.modLink f).parity = s.parity ∧
    (s.modLink f).boots = s.boots :=
  ⟨rfl, rfl, rfl, rfl, rfl, rfl, rfl, rfl, rfl, rfl, rfl, rfl, rfl, rfl, rfl, rfl, rfl, rfl, rfl, rfl, rfl, rfl, rfl, rfl, rfl, rfl, rfl, rfl, rfl, rfl, rfl, rfl, rfl, rfl, rfl, rfl, rfl, rfl, rfl, rfl, rfl, rfl, rfl, rfl, rfl, rfl, rfl, rfl, rfl, rfl⟩

@[simp] theorem State.modLink_link (s : State) (f : LinkState → LinkState) : (s.modLink f).link = f s.link := rfl

@[simp] theorem State.modSet_frame (s : State) (lead : Bool) (f : LinkSet → LinkSet) :
    (s.modSet lead f).pending = s.pending ∧ (s.modSet lead f).clk = s.clk ∧ (s.modSet lead f).tag = s.tag ∧
    (s.modSet lead f).fresh = s.fresh ∧ (s.modSet lead f).draws = s.draws ∧ (s.modSet lead f).regs = s.regs ∧
    (s.modSet lead f).mem = s.mem ∧ (s.modSet lead f).shadow = s.shadow ∧ (s.modSet lead f).dieBFail = s.dieBFail ∧
    (s.modSet lead f).failed = s.failed ∧ (s.modSet lead f).occ = s.occ ∧ (s.modSet lead f).lastErr = s.lastErr ∧
    (s.modSet lead f).cfg = s.cfg ∧ (s.modSet lead f).lanes = s.lanes ∧ (s.modSet lead f).gnss = s.gnss ∧
    (s.modSet lead f).gnssCh = s.gnssCh ∧ (s.modSet lead f).nav = s.nav ∧ (s.modSet lead f).enc = s.enc ∧
    (s.modSet lead f).ssi = s.ssi ∧ (s.modSet lead f).emu = s.emu ∧ (s.modSet lead f).ain = s.ain ∧
    (s.modSet lead f).fus = s.fus ∧ (s.modSet lead f).canCtl = s.canCtl ∧ (s.modSet lead f).canObj = s.canObj ∧
    (s.modSet lead f).geo = s.geo ∧ (s.modSet lead f).str = s.str ∧ (s.modSet lead f).armCh = s.armCh ∧
    (s.modSet lead f).armSw = s.armSw ∧ (s.modSet lead f).armDie = s.armDie ∧ (s.modSet lead f).sol = s.sol ∧
    (s.modSet lead f).hsw = s.hsw ∧ (s.modSet lead f).hswGen = s.hswGen ∧ (s.modSet lead f).hswVhs = s.hswVhs ∧
    (s.modSet lead f).hswKeep = s.hswKeep ∧ (s.modSet lead f).stamps = s.stamps ∧ (s.modSet lead f).pacer = s.pacer ∧
    (s.modSet lead f).lap = s.lap ∧ (s.modSet lead f).inj = s.inj ∧ (s.modSet lead f).cap = s.cap ∧
    (s.modSet lead f).ctl = s.ctl ∧ (s.modSet lead f).clocks = s.clocks ∧ (s.modSet lead f).pwr = s.pwr ∧
    (s.modSet lead f).flash = s.flash ∧ (s.modSet lead f).recd = s.recd ∧ (s.modSet lead f).memCare = s.memCare ∧
    (s.modSet lead f).sec = s.sec ∧ (s.modSet lead f).plb = s.plb ∧ (s.modSet lead f).plbMis = s.plbMis ∧
    (s.modSet lead f).parity = s.parity ∧ (s.modSet lead f).boots = s.boots :=
  ⟨rfl, rfl, rfl, rfl, rfl, rfl, rfl, rfl, rfl, rfl, rfl, rfl, rfl, rfl, rfl, rfl, rfl, rfl, rfl, rfl, rfl, rfl, rfl, rfl, rfl, rfl, rfl, rfl, rfl, rfl, rfl, rfl, rfl, rfl, rfl, rfl, rfl, rfl, rfl, rfl, rfl, rfl, rfl, rfl, rfl, rfl, rfl, rfl, rfl, rfl⟩

@[simp] theorem State.modMem_frame (s : State) (f : MemState → MemState) :
    (s.modMem f).pending = s.pending ∧ (s.modMem f).clk = s.clk ∧ (s.modMem f).tag = s.tag ∧
    (s.modMem f).fresh = s.fresh ∧ (s.modMem f).draws = s.draws ∧ (s.modMem f).regs = s.regs ∧
    (s.modMem f).mem = s.mem ∧ (s.modMem f).shadow = s.shadow ∧ (s.modMem f).dieBFail = s.dieBFail ∧
    (s.modMem f).failed = s.failed ∧ (s.modMem f).occ = s.occ ∧ (s.modMem f).lastErr = s.lastErr ∧
    (s.modMem f).link = s.link ∧ (s.modMem f).cfg = s.cfg ∧ (s.modMem f).lanes = s.lanes ∧
    (s.modMem f).gnss = s.gnss ∧ (s.modMem f).gnssCh = s.gnssCh ∧ (s.modMem f).nav = s.nav ∧
    (s.modMem f).enc = s.enc ∧ (s.modMem f).ssi = s.ssi ∧ (s.modMem f).emu = s.emu ∧ (s.modMem f).ain = s.ain ∧
    (s.modMem f).fus = s.fus ∧ (s.modMem f).canCtl = s.canCtl ∧ (s.modMem f).canObj = s.canObj ∧
    (s.modMem f).geo = s.geo ∧ (s.modMem f).str = s.str ∧ (s.modMem f).armCh = s.armCh ∧
    (s.modMem f).armSw = s.armSw ∧ (s.modMem f).armDie = s.armDie ∧ (s.modMem f).sol = s.sol ∧
    (s.modMem f).hsw = s.hsw ∧ (s.modMem f).hswGen = s.hswGen ∧ (s.modMem f).hswVhs = s.hswVhs ∧
    (s.modMem f).hswKeep = s.hswKeep ∧ (s.modMem f).stamps = s.stamps ∧ (s.modMem f).pacer = s.pacer ∧
    (s.modMem f).lap = s.lap ∧ (s.modMem f).inj = s.inj ∧ (s.modMem f).cap = s.cap ∧ (s.modMem f).ctl = s.ctl ∧
    (s.modMem f).clocks = s.clocks ∧ (s.modMem f).pwr = s.pwr ∧ (s.modMem f).flash = s.flash ∧
    (s.modMem f).recd = s.recd ∧ (s.modMem f).sec = s.sec ∧ (s.modMem f).plb = s.plb ∧
    (s.modMem f).plbMis = s.plbMis ∧ (s.modMem f).parity = s.parity ∧ (s.modMem f).boots = s.boots :=
  ⟨rfl, rfl, rfl, rfl, rfl, rfl, rfl, rfl, rfl, rfl, rfl, rfl, rfl, rfl, rfl, rfl, rfl, rfl, rfl, rfl, rfl, rfl, rfl, rfl, rfl, rfl, rfl, rfl, rfl, rfl, rfl, rfl, rfl, rfl, rfl, rfl, rfl, rfl, rfl, rfl, rfl, rfl, rfl, rfl, rfl, rfl, rfl, rfl, rfl, rfl⟩

@[simp] theorem State.modMem_memCare (s : State) (f : MemState → MemState) : (s.modMem f).memCare = f s.memCare := rfl

@[simp] theorem State.modNav_frame (s : State) (f : NavState → NavState) :
    (s.modNav f).pending = s.pending ∧ (s.modNav f).clk = s.clk ∧ (s.modNav f).tag = s.tag ∧
    (s.modNav f).fresh = s.fresh ∧ (s.modNav f).draws = s.draws ∧ (s.modNav f).regs = s.regs ∧
    (s.modNav f).mem = s.mem ∧ (s.modNav f).shadow = s.shadow ∧ (s.modNav f).dieBFail = s.dieBFail ∧
    (s.modNav f).failed = s.failed ∧ (s.modNav f).occ = s.occ ∧ (s.modNav f).lastErr = s.lastErr ∧
    (s.modNav f).link = s.link ∧ (s.modNav f).cfg = s.cfg ∧ (s.modNav f).lanes = s.lanes ∧
    (s.modNav f).gnss = s.gnss ∧ (s.modNav f).gnssCh = s.gnssCh ∧ (s.modNav f).enc = s.enc ∧
    (s.modNav f).ssi = s.ssi ∧ (s.modNav f).emu = s.emu ∧ (s.modNav f).ain = s.ain ∧ (s.modNav f).fus = s.fus ∧
    (s.modNav f).canCtl = s.canCtl ∧ (s.modNav f).canObj = s.canObj ∧ (s.modNav f).geo = s.geo ∧
    (s.modNav f).str = s.str ∧ (s.modNav f).armCh = s.armCh ∧ (s.modNav f).armSw = s.armSw ∧
    (s.modNav f).armDie = s.armDie ∧ (s.modNav f).sol = s.sol ∧ (s.modNav f).hsw = s.hsw ∧
    (s.modNav f).hswGen = s.hswGen ∧ (s.modNav f).hswVhs = s.hswVhs ∧ (s.modNav f).hswKeep = s.hswKeep ∧
    (s.modNav f).stamps = s.stamps ∧ (s.modNav f).pacer = s.pacer ∧ (s.modNav f).lap = s.lap ∧
    (s.modNav f).inj = s.inj ∧ (s.modNav f).cap = s.cap ∧ (s.modNav f).ctl = s.ctl ∧ (s.modNav f).clocks = s.clocks ∧
    (s.modNav f).pwr = s.pwr ∧ (s.modNav f).flash = s.flash ∧ (s.modNav f).recd = s.recd ∧
    (s.modNav f).memCare = s.memCare ∧ (s.modNav f).sec = s.sec ∧ (s.modNav f).plb = s.plb ∧
    (s.modNav f).plbMis = s.plbMis ∧ (s.modNav f).parity = s.parity ∧ (s.modNav f).boots = s.boots :=
  ⟨rfl, rfl, rfl, rfl, rfl, rfl, rfl, rfl, rfl, rfl, rfl, rfl, rfl, rfl, rfl, rfl, rfl, rfl, rfl, rfl, rfl, rfl, rfl, rfl, rfl, rfl, rfl, rfl, rfl, rfl, rfl, rfl, rfl, rfl, rfl, rfl, rfl, rfl, rfl, rfl, rfl, rfl, rfl, rfl, rfl, rfl, rfl, rfl, rfl, rfl⟩

@[simp] theorem State.modNav_nav (s : State) (f : NavState → NavState) : (s.modNav f).nav = f s.nav := rfl

@[simp] theorem State.modPacer_frame (s : State) (p : Nat) (f : Pacer → Pacer) :
    (s.modPacer p f).pending = s.pending ∧ (s.modPacer p f).clk = s.clk ∧ (s.modPacer p f).tag = s.tag ∧
    (s.modPacer p f).fresh = s.fresh ∧ (s.modPacer p f).draws = s.draws ∧ (s.modPacer p f).regs = s.regs ∧
    (s.modPacer p f).mem = s.mem ∧ (s.modPacer p f).shadow = s.shadow ∧ (s.modPacer p f).dieBFail = s.dieBFail ∧
    (s.modPacer p f).failed = s.failed ∧ (s.modPacer p f).occ = s.occ ∧ (s.modPacer p f).lastErr = s.lastErr ∧
    (s.modPacer p f).link = s.link ∧ (s.modPacer p f).cfg = s.cfg ∧ (s.modPacer p f).lanes = s.lanes ∧
    (s.modPacer p f).gnss = s.gnss ∧ (s.modPacer p f).gnssCh = s.gnssCh ∧ (s.modPacer p f).nav = s.nav ∧
    (s.modPacer p f).enc = s.enc ∧ (s.modPacer p f).ssi = s.ssi ∧ (s.modPacer p f).emu = s.emu ∧
    (s.modPacer p f).ain = s.ain ∧ (s.modPacer p f).fus = s.fus ∧ (s.modPacer p f).canCtl = s.canCtl ∧
    (s.modPacer p f).canObj = s.canObj ∧ (s.modPacer p f).geo = s.geo ∧ (s.modPacer p f).str = s.str ∧
    (s.modPacer p f).armCh = s.armCh ∧ (s.modPacer p f).armSw = s.armSw ∧ (s.modPacer p f).armDie = s.armDie ∧
    (s.modPacer p f).sol = s.sol ∧ (s.modPacer p f).hsw = s.hsw ∧ (s.modPacer p f).hswGen = s.hswGen ∧
    (s.modPacer p f).hswVhs = s.hswVhs ∧ (s.modPacer p f).hswKeep = s.hswKeep ∧ (s.modPacer p f).stamps = s.stamps ∧
    (s.modPacer p f).lap = s.lap ∧ (s.modPacer p f).inj = s.inj ∧ (s.modPacer p f).cap = s.cap ∧
    (s.modPacer p f).ctl = s.ctl ∧ (s.modPacer p f).clocks = s.clocks ∧ (s.modPacer p f).pwr = s.pwr ∧
    (s.modPacer p f).flash = s.flash ∧ (s.modPacer p f).recd = s.recd ∧ (s.modPacer p f).memCare = s.memCare ∧
    (s.modPacer p f).sec = s.sec ∧ (s.modPacer p f).plb = s.plb ∧ (s.modPacer p f).plbMis = s.plbMis ∧
    (s.modPacer p f).parity = s.parity ∧ (s.modPacer p f).boots = s.boots :=
  ⟨rfl, rfl, rfl, rfl, rfl, rfl, rfl, rfl, rfl, rfl, rfl, rfl, rfl, rfl, rfl, rfl, rfl, rfl, rfl, rfl, rfl, rfl, rfl, rfl, rfl, rfl, rfl, rfl, rfl, rfl, rfl, rfl, rfl, rfl, rfl, rfl, rfl, rfl, rfl, rfl, rfl, rfl, rfl, rfl, rfl, rfl, rfl, rfl, rfl, rfl⟩

@[simp] theorem State.modPacer_pacer (s : State) (p : Nat) (f : Pacer → Pacer) : (s.modPacer p f).pacer = s.pacer.modify p f := rfl

@[simp] theorem State.modLap_frame (s : State) (j : Nat) (f : LapState → LapState) :
    (s.modLap j f).pending = s.pending ∧ (s.modLap j f).clk = s.clk ∧ (s.modLap j f).tag = s.tag ∧
    (s.modLap j f).fresh = s.fresh ∧ (s.modLap j f).draws = s.draws ∧ (s.modLap j f).regs = s.regs ∧
    (s.modLap j f).mem = s.mem ∧ (s.modLap j f).shadow = s.shadow ∧ (s.modLap j f).dieBFail = s.dieBFail ∧
    (s.modLap j f).failed = s.failed ∧ (s.modLap j f).occ = s.occ ∧ (s.modLap j f).lastErr = s.lastErr ∧
    (s.modLap j f).link = s.link ∧ (s.modLap j f).cfg = s.cfg ∧ (s.modLap j f).lanes = s.lanes ∧
    (s.modLap j f).gnss = s.gnss ∧ (s.modLap j f).gnssCh = s.gnssCh ∧ (s.modLap j f).nav = s.nav ∧
    (s.modLap j f).enc = s.enc ∧ (s.modLap j f).ssi = s.ssi ∧ (s.modLap j f).emu = s.emu ∧
    (s.modLap j f).ain = s.ain ∧ (s.modLap j f).fus = s.fus ∧ (s.modLap j f).canCtl = s.canCtl ∧
    (s.modLap j f).canObj = s.canObj ∧ (s.modLap j f).geo = s.geo ∧ (s.modLap j f).str = s.str ∧
    (s.modLap j f).armCh = s.armCh ∧ (s.modLap j f).armSw = s.armSw ∧ (s.modLap j f).armDie = s.armDie ∧
    (s.modLap j f).sol = s.sol ∧ (s.modLap j f).hsw = s.hsw ∧ (s.modLap j f).hswGen = s.hswGen ∧
    (s.modLap j f).hswVhs = s.hswVhs ∧ (s.modLap j f).hswKeep = s.hswKeep ∧ (s.modLap j f).stamps = s.stamps ∧
    (s.modLap j f).pacer = s.pacer ∧ (s.modLap j f).inj = s.inj ∧ (s.modLap j f).cap = s.cap ∧
    (s.modLap j f).ctl = s.ctl ∧ (s.modLap j f).clocks = s.clocks ∧ (s.modLap j f).pwr = s.pwr ∧
    (s.modLap j f).flash = s.flash ∧ (s.modLap j f).recd = s.recd ∧ (s.modLap j f).memCare = s.memCare ∧
    (s.modLap j f).sec = s.sec ∧ (s.modLap j f).plb = s.plb ∧ (s.modLap j f).plbMis = s.plbMis ∧
    (s.modLap j f).parity = s.parity ∧ (s.modLap j f).boots = s.boots :=
  ⟨rfl, rfl, rfl, rfl, rfl, rfl, rfl, rfl, rfl, rfl, rfl, rfl, rfl, rfl, rfl, rfl, rfl, rfl, rfl, rfl, rfl, rfl, rfl, rfl, rfl, rfl, rfl, rfl, rfl, rfl, rfl, rfl, rfl, rfl, rfl, rfl, rfl, rfl, rfl, rfl, rfl, rfl, rfl, rfl, rfl, rfl, rfl, rfl, rfl, rfl⟩

@[simp] theorem State.modLap_lap (s : State) (j : Nat) (f : LapState → LapState) : (s.modLap j f).lap = s.lap.modify j f := rfl

@[simp] theorem State.modInj_frame (s : State) (q : Nat) (f : InjState → InjState) :
    (s.modInj q f).pending = s.pending ∧ (s.modInj q f).clk = s.clk ∧ (s.modInj q f).tag = s.tag ∧
    (s.modInj q f).fresh = s.fresh ∧ (s.modInj q f).draws = s.draws ∧ (s.modInj q f).regs = s.regs ∧
    (s.modInj q f).mem = s.mem ∧ (s.modInj q f).shadow = s.shadow ∧ (s.modInj q f).dieBFail = s.dieBFail ∧
    (s.modInj q f).failed = s.failed ∧ (s.modInj q f).occ = s.occ ∧ (s.modInj q f).lastErr = s.lastErr ∧
    (s.modInj q f).link = s.link ∧ (s.modInj q f).cfg = s.cfg ∧ (s.modInj q f).lanes = s.lanes ∧
    (s.modInj q f).gnss = s.gnss ∧ (s.modInj q f).gnssCh = s.gnssCh ∧ (s.modInj q f).nav = s.nav ∧
    (s.modInj q f).enc = s.enc ∧ (s.modInj q f).ssi = s.ssi ∧ (s.modInj q f).emu = s.emu ∧
    (s.modInj q f).ain = s.ain ∧ (s.modInj q f).fus = s.fus ∧ (s.modInj q f).canCtl = s.canCtl ∧
    (s.modInj q f).canObj = s.canObj ∧ (s.modInj q f).geo = s.geo ∧ (s.modInj q f).str = s.str ∧
    (s.modInj q f).armCh = s.armCh ∧ (s.modInj q f).armSw = s.armSw ∧ (s.modInj q f).armDie = s.armDie ∧
    (s.modInj q f).sol = s.sol ∧ (s.modInj q f).hsw = s.hsw ∧ (s.modInj q f).hswGen = s.hswGen ∧
    (s.modInj q f).hswVhs = s.hswVhs ∧ (s.modInj q f).hswKeep = s.hswKeep ∧ (s.modInj q f).stamps = s.stamps ∧
    (s.modInj q f).pacer = s.pacer ∧ (s.modInj q f).lap = s.lap ∧ (s.modInj q f).cap = s.cap ∧
    (s.modInj q f).ctl = s.ctl ∧ (s.modInj q f).clocks = s.clocks ∧ (s.modInj q f).pwr = s.pwr ∧
    (s.modInj q f).flash = s.flash ∧ (s.modInj q f).recd = s.recd ∧ (s.modInj q f).memCare = s.memCare ∧
    (s.modInj q f).sec = s.sec ∧ (s.modInj q f).plb = s.plb ∧ (s.modInj q f).plbMis = s.plbMis ∧
    (s.modInj q f).parity = s.parity ∧ (s.modInj q f).boots = s.boots :=
  ⟨rfl, rfl, rfl, rfl, rfl, rfl, rfl, rfl, rfl, rfl, rfl, rfl, rfl, rfl, rfl, rfl, rfl, rfl, rfl, rfl, rfl, rfl, rfl, rfl, rfl, rfl, rfl, rfl, rfl, rfl, rfl, rfl, rfl, rfl, rfl, rfl, rfl, rfl, rfl, rfl, rfl, rfl, rfl, rfl, rfl, rfl, rfl, rfl, rfl, rfl⟩

@[simp] theorem State.modInj_inj (s : State) (q : Nat) (f : InjState → InjState) : (s.modInj q f).inj = s.inj.modify q f := rfl

@[simp] theorem State.modPwr_frame (s : State) (f : PwrState → PwrState) :
    (s.modPwr f).pending = s.pending ∧ (s.modPwr f).clk = s.clk ∧ (s.modPwr f).tag = s.tag ∧
    (s.modPwr f).fresh = s.fresh ∧ (s.modPwr f).draws = s.draws ∧ (s.modPwr f).regs = s.regs ∧
    (s.modPwr f).mem = s.mem ∧ (s.modPwr f).shadow = s.shadow ∧ (s.modPwr f).dieBFail = s.dieBFail ∧
    (s.modPwr f).failed = s.failed ∧ (s.modPwr f).occ = s.occ ∧ (s.modPwr f).lastErr = s.lastErr ∧
    (s.modPwr f).link = s.link ∧ (s.modPwr f).cfg = s.cfg ∧ (s.modPwr f).lanes = s.lanes ∧
    (s.modPwr f).gnss = s.gnss ∧ (s.modPwr f).gnssCh = s.gnssCh ∧ (s.modPwr f).nav = s.nav ∧
    (s.modPwr f).enc = s.enc ∧ (s.modPwr f).ssi = s.ssi ∧ (s.modPwr f).emu = s.emu ∧ (s.modPwr f).ain = s.ain ∧
    (s.modPwr f).fus = s.fus ∧ (s.modPwr f).canCtl = s.canCtl ∧ (s.modPwr f).canObj = s.canObj ∧
    (s.modPwr f).geo = s.geo ∧ (s.modPwr f).str = s.str ∧ (s.modPwr f).armCh = s.armCh ∧
    (s.modPwr f).armSw = s.armSw ∧ (s.modPwr f).armDie = s.armDie ∧ (s.modPwr f).sol = s.sol ∧
    (s.modPwr f).hsw = s.hsw ∧ (s.modPwr f).hswGen = s.hswGen ∧ (s.modPwr f).hswVhs = s.hswVhs ∧
    (s.modPwr f).hswKeep = s.hswKeep ∧ (s.modPwr f).stamps = s.stamps ∧ (s.modPwr f).pacer = s.pacer ∧
    (s.modPwr f).lap = s.lap ∧ (s.modPwr f).inj = s.inj ∧ (s.modPwr f).cap = s.cap ∧ (s.modPwr f).ctl = s.ctl ∧
    (s.modPwr f).clocks = s.clocks ∧ (s.modPwr f).flash = s.flash ∧ (s.modPwr f).recd = s.recd ∧
    (s.modPwr f).memCare = s.memCare ∧ (s.modPwr f).sec = s.sec ∧ (s.modPwr f).plb = s.plb ∧
    (s.modPwr f).plbMis = s.plbMis ∧ (s.modPwr f).parity = s.parity ∧ (s.modPwr f).boots = s.boots :=
  ⟨rfl, rfl, rfl, rfl, rfl, rfl, rfl, rfl, rfl, rfl, rfl, rfl, rfl, rfl, rfl, rfl, rfl, rfl, rfl, rfl, rfl, rfl, rfl, rfl, rfl, rfl, rfl, rfl, rfl, rfl, rfl, rfl, rfl, rfl, rfl, rfl, rfl, rfl, rfl, rfl, rfl, rfl, rfl, rfl, rfl, rfl, rfl, rfl, rfl, rfl⟩

@[simp] theorem State.modPwr_pwr (s : State) (f : PwrState → PwrState) : (s.modPwr f).pwr = f s.pwr := rfl

@[simp] theorem State.modFlash_frame (s : State) (f : FlashState → FlashState) :
    (s.modFlash f).pending = s.pending ∧ (s.modFlash f).clk = s.clk ∧ (s.modFlash f).tag = s.tag ∧
    (s.modFlash f).fresh = s.fresh ∧ (s.modFlash f).draws = s.draws ∧ (s.modFlash f).regs = s.regs ∧
    (s.modFlash f).mem = s.mem ∧ (s.modFlash f).shadow = s.shadow ∧ (s.modFlash f).dieBFail = s.dieBFail ∧
    (s.modFlash f).failed = s.failed ∧ (s.modFlash f).occ = s.occ ∧ (s.modFlash f).lastErr = s.lastErr ∧
    (s.modFlash f).link = s.link ∧ (s.modFlash f).cfg = s.cfg ∧ (s.modFlash f).lanes = s.lanes ∧
    (s.modFlash f).gnss = s.gnss ∧ (s.modFlash f).gnssCh = s.gnssCh ∧ (s.modFlash f).nav = s.nav ∧
    (s.modFlash f).enc = s.enc ∧ (s.modFlash f).ssi = s.ssi ∧ (s.modFlash f).emu = s.emu ∧
    (s.modFlash f).ain = s.ain ∧ (s.modFlash f).fus = s.fus ∧ (s.modFlash f).canCtl = s.canCtl ∧
    (s.modFlash f).canObj = s.canObj ∧ (s.modFlash f).geo = s.geo ∧ (s.modFlash f).str = s.str ∧
    (s.modFlash f).armCh = s.armCh ∧ (s.modFlash f).armSw = s.armSw ∧ (s.modFlash f).armDie = s.armDie ∧
    (s.modFlash f).sol = s.sol ∧ (s.modFlash f).hsw = s.hsw ∧ (s.modFlash f).hswGen = s.hswGen ∧
    (s.modFlash f).hswVhs = s.hswVhs ∧ (s.modFlash f).hswKeep = s.hswKeep ∧ (s.modFlash f).stamps = s.stamps ∧
    (s.modFlash f).pacer = s.pacer ∧ (s.modFlash f).lap = s.lap ∧ (s.modFlash f).inj = s.inj ∧
    (s.modFlash f).cap = s.cap ∧ (s.modFlash f).ctl = s.ctl ∧ (s.modFlash f).clocks = s.clocks ∧
    (s.modFlash f).pwr = s.pwr ∧ (s.modFlash f).recd = s.recd ∧ (s.modFlash f).memCare = s.memCare ∧
    (s.modFlash f).sec = s.sec ∧ (s.modFlash f).plb = s.plb ∧ (s.modFlash f).plbMis = s.plbMis ∧
    (s.modFlash f).parity = s.parity ∧ (s.modFlash f).boots = s.boots :=
  ⟨rfl, rfl, rfl, rfl, rfl, rfl, rfl, rfl, rfl, rfl, rfl, rfl, rfl, rfl, rfl, rfl, rfl, rfl, rfl, rfl, rfl, rfl, rfl, rfl, rfl, rfl, rfl, rfl, rfl, rfl, rfl, rfl, rfl, rfl, rfl, rfl, rfl, rfl, rfl, rfl, rfl, rfl, rfl, rfl, rfl, rfl, rfl, rfl, rfl, rfl⟩

@[simp] theorem State.modFlash_flash (s : State) (f : FlashState → FlashState) : (s.modFlash f).flash = f s.flash := rfl

@[simp] theorem State.storeUndo_eq (s : State) : s.storeUndo =
    { s with flash := { s.flash with store := s.flash.store.take s.flash.older s.flash.wrote,
                                     older := s.flash.older.take default s.flash.wrote, wrote := [] } } := rfl

@[simp] theorem State.storeItems_frame (s : State) (items : List Nat) (f : RecordStore → RecordStore) :
    (s.storeItems items f).pending = s.pending ∧ (s.storeItems items f).clk = s.clk ∧ (s.storeItems items f).tag = s.tag ∧
    (s.storeItems items f).fresh = s.fresh ∧ (s.storeItems items f).draws = s.draws ∧ (s.storeItems items f).regs = s.regs ∧
    (s.storeItems items f).mem = s.mem ∧ (s.storeItems items f).shadow = s.shadow ∧ (s.storeItems items f).dieBFail = s.dieBFail ∧
    (s.storeItems items f).failed = s.failed ∧ (s.storeItems items f).occ = s.occ ∧ (s.storeItems items f).lastErr = s.lastErr ∧
    (s.storeItems items f).link = s.link ∧ (s.storeItems items f).cfg = s.cfg ∧ (s.storeItems items f).lanes = s.lanes ∧
    (s.storeItems items f).gnss = s.gnss ∧ (s.storeItems items f).gnssCh = s.gnssCh ∧ (s.storeItems items f).nav = s.nav ∧
    (s.storeItems items f).enc = s.enc ∧ (s.storeItems items f).ssi = s.ssi ∧ (s.storeItems items f).emu = s.emu ∧
    (s.storeItems items f).ain = s.ain ∧ (s.storeItems items f).fus = s.fus ∧ (s.storeItems items f).canCtl = s.canCtl ∧
    (s.storeItems items f).canObj = s.canObj ∧ (s.storeItems items f).geo = s.geo ∧ (s.storeItems items f).str = s.str ∧
    (s.storeItems items f).armCh = s.armCh ∧ (s.storeItems items f).armSw = s.armSw ∧ (s.storeItems items f).armDie = s.armDie ∧
    (s.storeItems items f).sol = s.sol ∧ (s.storeItems items f).hsw = s.hsw ∧ (s.storeItems items f).hswGen = s.hswGen ∧
    (s.storeItems items f).hswVhs = s.hswVhs ∧ (s.storeItems items f).hswKeep = s.hswKeep ∧ (s.storeItems items f).stamps = s.stamps ∧
    (s.storeItems items f).pacer = s.pacer ∧ (s.storeItems items f).lap = s.lap ∧ (s.storeItems items f).inj = s.inj ∧
    (s.storeItems items f).cap = s.cap ∧ (s.storeItems items f).ctl = s.ctl ∧ (s.storeItems items f).clocks = s.clocks ∧
    (s.storeItems items f).pwr = s.pwr ∧ (s.storeItems items f).recd = s.recd ∧ (s.storeItems items f).memCare = s.memCare ∧
    (s.storeItems items f).sec = s.sec ∧ (s.storeItems items f).plb = s.plb ∧ (s.storeItems items f).plbMis = s.plbMis ∧
    (s.storeItems items f).parity = s.parity ∧ (s.storeItems items f).boots = s.boots :=
  ⟨rfl, rfl, rfl, rfl, rfl, rfl, rfl, rfl, rfl, rfl, rfl, rfl, rfl, rfl, rfl, rfl, rfl, rfl, rfl, rfl, rfl, rfl, rfl, rfl, rfl, rfl, rfl, rfl, rfl, rfl, rfl, rfl, rfl, rfl, rfl, rfl, rfl, rfl, rfl, rfl, rfl, rfl, rfl, rfl, rfl, rfl, rfl, rfl, rfl, rfl⟩

@[simp] theorem State.storeItems_flash (s : State) (items : List Nat) (f : RecordStore → RecordStore) : (s.storeItems items f).flash =
    { s.flash with store := f s.flash.store, older := s.flash.older.take s.flash.store items, wrote := items } := rfl

@[simp] theorem State.modTrig_frame (s : State) (t : Nat) (f : TrigState → TrigState) :
    (s.modTrig t f).pending = s.pending ∧ (s.modTrig t f).clk = s.clk ∧ (s.modTrig t f).tag = s.tag ∧
    (s.modTrig t f).fresh = s.fresh ∧ (s.modTrig t f).draws = s.draws ∧ (s.modTrig t f).regs = s.regs ∧
    (s.modTrig t f).mem = s.mem ∧ (s.modTrig t f).shadow = s.shadow ∧ (s.modTrig t f).dieBFail = s.dieBFail ∧
    (s.modTrig t f).failed = s.failed ∧ (s.modTrig t f).occ = s.occ ∧ (s.modTrig t f).lastErr = s.lastErr ∧
    (s.modTrig t f).link = s.link ∧ (s.modTrig t f).cfg = s.cfg ∧ (s.modTrig t f).lanes = s.lanes ∧
    (s.modTrig t f).gnss = s.gnss ∧ (s.modTrig t f).gnssCh = s.gnssCh ∧ (s.modTrig t f).nav = s.nav ∧
    (s.modTrig t f).enc = s.enc ∧ (s.modTrig t f).ssi = s.ssi ∧ (s.modTrig t f).emu = s.emu ∧
    (s.modTrig t f).ain = s.ain ∧ (s.modTrig t f).fus = s.fus ∧ (s.modTrig t f).canCtl = s.canCtl ∧
    (s.modTrig t f).canObj = s.canObj ∧ (s.modTrig t f).geo = s.geo ∧ (s.modTrig t f).str = s.str ∧
    (s.modTrig t f).armCh = s.armCh ∧ (s.modTrig t f).armSw = s.armSw ∧ (s.modTrig t f).armDie = s.armDie ∧
    (s.modTrig t f).sol = s.sol ∧ (s.modTrig t f).hsw = s.hsw ∧ (s.modTrig t f).hswGen = s.hswGen ∧
    (s.modTrig t f).hswVhs = s.hswVhs ∧ (s.modTrig t f).hswKeep = s.hswKeep ∧ (s.modTrig t f).stamps = s.stamps ∧
    (s.modTrig t f).pacer = s.pacer ∧ (s.modTrig t f).lap = s.lap ∧ (s.modTrig t f).inj = s.inj ∧
    (s.modTrig t f).cap = s.cap ∧ (s.modTrig t f).ctl = s.ctl ∧ (s.modTrig t f).clocks = s.clocks ∧
    (s.modTrig t f).pwr = s.pwr ∧ (s.modTrig t f).flash = s.flash ∧ (s.modTrig t f).memCare = s.memCare ∧
    (s.modTrig t f).sec = s.sec ∧ (s.modTrig t f).plb = s.plb ∧ (s.modTrig t f).plbMis = s.plbMis ∧
    (s.modTrig t f).parity = s.parity ∧ (s.modTrig t f).boots = s.boots :=
  ⟨rfl, rfl, rfl, rfl, rfl, rfl, rfl, rfl, rfl, rfl, rfl, rfl, rfl, rfl, rfl, rfl, rfl, rfl, rfl, rfl, rfl, rfl, rfl, rfl, rfl, rfl, rfl, rfl, rfl, rfl, rfl, rfl, rfl, rfl, rfl, rfl, rfl, rfl, rfl, rfl, rfl, rfl, rfl, rfl, rfl, rfl, rfl, rfl, rfl, rfl⟩

@[simp] theorem State.modSec_frame (s : State) (f : SecState → SecState) :
    (s.modSec f).pending = s.pending ∧ (s.modSec f).clk = s.clk ∧ (s.modSec f).tag = s.tag ∧
    (s.modSec f).fresh = s.fresh ∧ (s.modSec f).draws = s.draws ∧ (s.modSec f).regs = s.regs ∧
    (s.modSec f).mem = s.mem ∧ (s.modSec f).shadow = s.shadow ∧ (s.modSec f).dieBFail = s.dieBFail ∧
    (s.modSec f).failed = s.failed ∧ (s.modSec f).occ = s.occ ∧ (s.modSec f).lastErr = s.lastErr ∧
    (s.modSec f).link = s.link ∧ (s.modSec f).cfg = s.cfg ∧ (s.modSec f).lanes = s.lanes ∧
    (s.modSec f).gnss = s.gnss ∧ (s.modSec f).gnssCh = s.gnssCh ∧ (s.modSec f).nav = s.nav ∧
    (s.modSec f).enc = s.enc ∧ (s.modSec f).ssi = s.ssi ∧ (s.modSec f).emu = s.emu ∧ (s.modSec f).ain = s.ain ∧
    (s.modSec f).fus = s.fus ∧ (s.modSec f).canCtl = s.canCtl ∧ (s.modSec f).canObj = s.canObj ∧
    (s.modSec f).geo = s.geo ∧ (s.modSec f).str = s.str ∧ (s.modSec f).armCh = s.armCh ∧
    (s.modSec f).armSw = s.armSw ∧ (s.modSec f).armDie = s.armDie ∧ (s.modSec f).sol = s.sol ∧
    (s.modSec f).hsw = s.hsw ∧ (s.modSec f).hswGen = s.hswGen ∧ (s.modSec f).hswVhs = s.hswVhs ∧
    (s.modSec f).hswKeep = s.hswKeep ∧ (s.modSec f).stamps = s.stamps ∧ (s.modSec f).pacer = s.pacer ∧
    (s.modSec f).lap = s.lap ∧ (s.modSec f).inj = s.inj ∧ (s.modSec f).cap = s.cap ∧ (s.modSec f).ctl = s.ctl ∧
    (s.modSec f).clocks = s.clocks ∧ (s.modSec f).pwr = s.pwr ∧ (s.modSec f).flash = s.flash ∧
    (s.modSec f).recd = s.recd ∧ (s.modSec f).memCare = s.memCare ∧ (s.modSec f).plb = s.plb ∧
    (s.modSec f).plbMis = s.plbMis ∧ (s.modSec f).parity = s.parity ∧ (s.modSec f).boots = s.boots :=
  ⟨rfl, rfl, rfl, rfl, rfl, rfl, rfl, rfl, rfl, rfl, rfl, rfl, rfl, rfl, rfl, rfl, rfl, rfl, rfl, rfl, rfl, rfl, rfl, rfl, rfl, rfl, rfl, rfl, rfl, rfl, rfl, rfl, rfl, rfl, rfl, rfl, rfl, rfl, rfl, rfl, rfl, rfl, rfl, rfl, rfl, rfl, rfl, rfl, rfl, rfl⟩

@[simp] theorem State.modSec_sec (s : State) (f : SecState → SecState) : (s.modSec f).sec = f s.sec := rfl

@[simp] theorem State.modSol_frame (s : State) (n : Nat) (f : SolCh → SolCh) :
    (s.modSol n f).pending = s.pending ∧ (s.modSol n f).clk = s.clk ∧ (s.modSol n f).tag = s.tag ∧
    (s.modSol n f).fresh = s.fresh ∧ (s.modSol n f).draws = s.draws ∧ (s.modSol n f).regs = s.regs ∧
    (s.modSol n f).mem = s.mem ∧ (s.modSol n f).shadow = s.shadow ∧ (s.modSol n f).dieBFail = s.dieBFail ∧
    (s.modSol n f).failed = s.failed ∧ (s.modSol n f).occ = s.occ ∧ (s.modSol n f).lastErr = s.lastErr ∧
    (s.modSol n f).link = s.link ∧ (s.modSol n f).cfg = s.cfg ∧ (s.modSol n f).lanes = s.lanes ∧
    (s.modSol n f).gnss = s.gnss ∧ (s.modSol n f).gnssCh = s.gnssCh ∧ (s.modSol n f).nav = s.nav ∧
    (s.modSol n f).enc = s.enc ∧ (s.modSol n f).ssi = s.ssi ∧ (s.modSol n f).emu = s.emu ∧
    (s.modSol n f).ain = s.ain ∧ (s.modSol n f).fus = s.fus ∧ (s.modSol n f).canCtl = s.canCtl ∧
    (s.modSol n f).canObj = s.canObj ∧ (s.modSol n f).geo = s.geo ∧ (s.modSol n f).str = s.str ∧
    (s.modSol n f).armCh = s.armCh ∧ (s.modSol n f).armSw = s.armSw ∧ (s.modSol n f).armDie = s.armDie ∧
    (s.modSol n f).hsw = s.hsw ∧ (s.modSol n f).hswGen = s.hswGen ∧ (s.modSol n f).hswVhs = s.hswVhs ∧
    (s.modSol n f).hswKeep = s.hswKeep ∧ (s.modSol n f).stamps = s.stamps ∧ (s.modSol n f).pacer = s.pacer ∧
    (s.modSol n f).lap = s.lap ∧ (s.modSol n f).inj = s.inj ∧ (s.modSol n f).cap = s.cap ∧
    (s.modSol n f).ctl = s.ctl ∧ (s.modSol n f).clocks = s.clocks ∧ (s.modSol n f).pwr = s.pwr ∧
    (s.modSol n f).flash = s.flash ∧ (s.modSol n f).recd = s.recd ∧ (s.modSol n f).memCare = s.memCare ∧
    (s.modSol n f).sec = s.sec ∧ (s.modSol n f).plb = s.plb ∧ (s.modSol n f).plbMis = s.plbMis ∧
    (s.modSol n f).parity = s.parity ∧ (s.modSol n f).boots = s.boots :=
  ⟨rfl, rfl, rfl, rfl, rfl, rfl, rfl, rfl, rfl, rfl, rfl, rfl, rfl, rfl, rfl, rfl, rfl, rfl, rfl, rfl, rfl, rfl, rfl, rfl, rfl, rfl, rfl, rfl, rfl, rfl, rfl, rfl, rfl, rfl, rfl, rfl, rfl, rfl, rfl, rfl, rfl, rfl, rfl, rfl, rfl, rfl, rfl, rfl, rfl, rfl⟩

@[simp] theorem State.modSol_sol (s : State) (n : Nat) (f : SolCh → SolCh) : (s.modSol n f).sol = s.sol.modify n f := rfl

@[simp] theorem State.modStr_frame (s : State) (f : StrState → StrState) :
    (s.modStr f).pending = s.pending ∧ (s.modStr f).clk = s.clk ∧ (s.modStr f).tag = s.tag ∧
    (s.modStr f).fresh = s.fresh ∧ (s.modStr f).draws = s.draws ∧ (s.modStr f).regs = s.regs ∧
    (s.modStr f).mem = s.mem ∧ (s.modStr f).shadow = s.shadow ∧ (s.modStr f).dieBFail = s.dieBFail ∧
    (s.modStr f).failed = s.failed ∧ (s.modStr f).occ = s.occ ∧ (s.modStr f).lastErr = s.lastErr ∧
    (s.modStr f).link = s.link ∧ (s.modStr f).cfg = s.cfg ∧ (s.modStr f).lanes = s.lanes ∧
    (s.modStr f).gnss = s.gnss ∧ (s.modStr f).gnssCh = s.gnssCh ∧ (s.modStr f).nav = s.nav ∧
    (s.modStr f).enc = s.enc ∧ (s.modStr f).ssi = s.ssi ∧ (s.modStr f).emu = s.emu ∧ (s.modStr f).ain = s.ain ∧
    (s.modStr f).fus = s.fus ∧ (s.modStr f).canCtl = s.canCtl ∧ (s.modStr f).canObj = s.canObj ∧
    (s.modStr f).geo = s.geo ∧ (s.modStr f).armCh = s.armCh ∧ (s.modStr f).armSw = s.armSw ∧
    (s.modStr f).armDie = s.armDie ∧ (s.modStr f).sol = s.sol ∧ (s.modStr f).hsw = s.hsw ∧
    (s.modStr f).hswGen = s.hswGen ∧ (s.modStr f).hswVhs = s.hswVhs ∧ (s.modStr f).hswKeep = s.hswKeep ∧
    (s.modStr f).stamps = s.stamps ∧ (s.modStr f).pacer = s.pacer ∧ (s.modStr f).lap = s.lap ∧
    (s.modStr f).inj = s.inj ∧ (s.modStr f).cap = s.cap ∧ (s.modStr f).ctl = s.ctl ∧ (s.modStr f).clocks = s.clocks ∧
    (s.modStr f).pwr = s.pwr ∧ (s.modStr f).flash = s.flash ∧ (s.modStr f).recd = s.recd ∧
    (s.modStr f).memCare = s.memCare ∧ (s.modStr f).sec = s.sec ∧ (s.modStr f).plb = s.plb ∧
    (s.modStr f).plbMis = s.plbMis ∧ (s.modStr f).parity = s.parity ∧ (s.modStr f).boots = s.boots :=
  ⟨rfl, rfl, rfl, rfl, rfl, rfl, rfl, rfl, rfl, rfl, rfl, rfl, rfl, rfl, rfl, rfl, rfl, rfl, rfl, rfl, rfl, rfl, rfl, rfl, rfl, rfl, rfl, rfl, rfl, rfl, rfl, rfl, rfl, rfl, rfl, rfl, rfl, rfl, rfl, rfl, rfl, rfl, rfl, rfl, rfl, rfl, rfl, rfl, rfl, rfl⟩

@[simp] theorem State.modStr_str (s : State) (f : StrState → StrState) : (s.modStr f).str = f s.str := rfl

@[simp] theorem State.setBusy_eq (s : State) (p a b : Nat) :
    s.setBusy p a b = { s with str := { s.str with busy := s.str.busy.set (outKey p (s.ptBind p)) (a, b) } } := rfl

@[simp] theorem State.modPt_frame (s : State) (p : Nat) (f : StrPt → StrPt) :
    (s.modPt p f).pending = s.pending ∧ (s.modPt p f).clk = s.clk ∧ (s.modPt p f).tag = s.tag ∧
    (s.modPt p f).fresh = s.fresh ∧ (s.modPt p f).draws = s.draws ∧ (s.modPt p f).regs = s.regs ∧
    (s.modPt p f).mem = s.mem ∧ (s.modPt p f).shadow = s.shadow ∧ (s.modPt p f).dieBFail = s.dieBFail ∧
    (s.modPt p f).failed = s.failed ∧ (s.modPt p f).occ = s.occ ∧ (s.modPt p f).lastErr = s.lastErr ∧
    (s.modPt p f).link = s.link ∧ (s.modPt p f).cfg = s.cfg ∧ (s.modPt p f).lanes = s.lanes ∧
    (s.modPt p f).gnss = s.gnss ∧ (s.modPt p f).gnssCh = s.gnssCh ∧ (s.modPt p f).nav = s.nav ∧
    (s.modPt p f).enc = s.enc ∧ (s.modPt p f).ssi = s.ssi ∧ (s.modPt p f).emu = s.emu ∧ (s.modPt p f).ain = s.ain ∧
    (s.modPt p f).fus = s.fus ∧ (s.modPt p f).canCtl = s.canCtl ∧ (s.modPt p f).canObj = s.canObj ∧
    (s.modPt p f).geo = s.geo ∧ (s.modPt p f).armCh = s.armCh ∧ (s.modPt p f).armSw = s.armSw ∧
    (s.modPt p f).armDie = s.armDie ∧ (s.modPt p f).sol = s.sol ∧ (s.modPt p f).hsw = s.hsw ∧
    (s.modPt p f).hswGen = s.hswGen ∧ (s.modPt p f).hswVhs = s.hswVhs ∧ (s.modPt p f).hswKeep = s.hswKeep ∧
    (s.modPt p f).stamps = s.stamps ∧ (s.modPt p f).pacer = s.pacer ∧ (s.modPt p f).lap = s.lap ∧
    (s.modPt p f).inj = s.inj ∧ (s.modPt p f).cap = s.cap ∧ (s.modPt p f).ctl = s.ctl ∧
    (s.modPt p f).clocks = s.clocks ∧ (s.modPt p f).pwr = s.pwr ∧ (s.modPt p f).flash = s.flash ∧
    (s.modPt p f).recd = s.recd ∧ (s.modPt p f).memCare = s.memCare ∧ (s.modPt p f).sec = s.sec ∧
    (s.modPt p f).plb = s.plb ∧ (s.modPt p f).plbMis = s.plbMis ∧ (s.modPt p f).parity = s.parity ∧
    (s.modPt p f).boots = s.boots :=
  ⟨rfl, rfl, rfl, rfl, rfl, rfl, rfl, rfl, rfl, rfl, rfl, rfl, rfl, rfl, rfl, rfl, rfl, rfl, rfl, rfl, rfl, rfl, rfl, rfl, rfl, rfl, rfl, rfl, rfl, rfl, rfl, rfl, rfl, rfl, rfl, rfl, rfl, rfl, rfl, rfl, rfl, rfl, rfl, rfl, rfl, rfl, rfl, rfl, rfl, rfl⟩

@[simp] theorem State.modSat_frame (s : State) (a : Nat) (f : SatState → SatState) :
    (s.modSat a f).pending = s.pending ∧ (s.modSat a f).clk = s.clk ∧ (s.modSat a f).tag = s.tag ∧
    (s.modSat a f).fresh = s.fresh ∧ (s.modSat a f).draws = s.draws ∧ (s.modSat a f).regs = s.regs ∧
    (s.modSat a f).mem = s.mem ∧ (s.modSat a f).shadow = s.shadow ∧ (s.modSat a f).dieBFail = s.dieBFail ∧
    (s.modSat a f).failed = s.failed ∧ (s.modSat a f).occ = s.occ ∧ (s.modSat a f).lastErr = s.lastErr ∧
    (s.modSat a f).link = s.link ∧ (s.modSat a f).cfg = s.cfg ∧ (s.modSat a f).lanes = s.lanes ∧
    (s.modSat a f).gnss = s.gnss ∧ (s.modSat a f).gnssCh = s.gnssCh ∧ (s.modSat a f).nav = s.nav ∧
    (s.modSat a f).enc = s.enc ∧ (s.modSat a f).ssi = s.ssi ∧ (s.modSat a f).emu = s.emu ∧
    (s.modSat a f).ain = s.ain ∧ (s.modSat a f).fus = s.fus ∧ (s.modSat a f).canCtl = s.canCtl ∧
    (s.modSat a f).canObj = s.canObj ∧ (s.modSat a f).geo = s.geo ∧ (s.modSat a f).armCh = s.armCh ∧
    (s.modSat a f).armSw = s.armSw ∧ (s.modSat a f).armDie = s.armDie ∧ (s.modSat a f).sol = s.sol ∧
    (s.modSat a f).hsw = s.hsw ∧ (s.modSat a f).hswGen = s.hswGen ∧ (s.modSat a f).hswVhs = s.hswVhs ∧
    (s.modSat a f).hswKeep = s.hswKeep ∧ (s.modSat a f).stamps = s.stamps ∧ (s.modSat a f).pacer = s.pacer ∧
    (s.modSat a f).lap = s.lap ∧ (s.modSat a f).inj = s.inj ∧ (s.modSat a f).cap = s.cap ∧
    (s.modSat a f).ctl = s.ctl ∧ (s.modSat a f).clocks = s.clocks ∧ (s.modSat a f).pwr = s.pwr ∧
    (s.modSat a f).flash = s.flash ∧ (s.modSat a f).recd = s.recd ∧ (s.modSat a f).memCare = s.memCare ∧
    (s.modSat a f).sec = s.sec ∧ (s.modSat a f).plb = s.plb ∧ (s.modSat a f).plbMis = s.plbMis ∧
    (s.modSat a f).parity = s.parity ∧ (s.modSat a f).boots = s.boots :=
  ⟨rfl, rfl, rfl, rfl, rfl, rfl, rfl, rfl, rfl, rfl, rfl, rfl, rfl, rfl, rfl, rfl, rfl, rfl, rfl, rfl, rfl, rfl, rfl, rfl, rfl, rfl, rfl, rfl, rfl, rfl, rfl, rfl, rfl, rfl, rfl, rfl, rfl, rfl, rfl, rfl, rfl, rfl, rfl, rfl, rfl, rfl, rfl, rfl, rfl, rfl⟩

end Sys2Proof.Machine
end

