-- ==== Sys2Proof/WellFormed.lean ====
section
/-! DEFINITION. Commands whose operands agree with each other. The types of Syntax.lean already bound every number; what is
judged here is what no type says: that a frame is the request that its command names, and that lists have the lengths that
their sources have. Every command has a meaning whether or not it is well formed. -/

namespace Sys2Proof

open Sys2Proof.Machine

/-- A request frame: RPL is 0, the trailer is there exactly with AUTH and has 20 bytes (R56, R88). -/
def Request.wf (r : Request) : Bool := !r.rpl && r.trailer.length == 20 * bit r.auth

/-- A unicast request with a body of the length that LEN gives (R56, R59). -/
def Request.unicastWith (r : Request) (n : Nat) : Bool := r.wf && !r.bcast && r.body.length == n

/-- A request of SESSION with a message of the type (R660). -/
def Request.session (r : Request) (type : Byte) : Bool := r.unicastWith r.len.toNat && r.body.head? == some type

/-- A broadcast of the host or the lead with its payload (R54, R71). -/
def Request.broadcastWith (r : Request) : Bool := r.wf && r.bcast && r.body.length == r.len.toNat

/-- A list without repeats. -/
def noRepeat : List Nat → Bool
  | [] => true
  | x :: t => !t.contains x && noRepeat t

/-- A CAN frame: BRS and ESI belong to CAN FD, which has no remote frames; a standard identifier has 11 bits; the data is as
long as the DLC says (R524, R544). -/
def CanFrame.wf (f : CanFrame) : Bool :=
  let n := f.dlc.toNat
  let long : Nat := match n with | 9 => 12 | 10 => 16 | 11 => 20 | 12 => 24 | 13 => 32 | 14 => 48 | 15 => 64 | k => k
  (f.fdf || (!f.brs && !f.esi)) && !(f.fdf && f.rtr) && (f.ide || decide (f.id.toNat < 2048)) &&
    f.data.length == (if f.rtr then 0 else if f.fdf then long else min n 8)

/-- The operands of a command agree with each other. -/
def Instr.wf : Instr → Bool
  | .status _ r => r.unicastWith 0
  | .read _ r => r.unicastWith 0
  | .write _ r => r.unicastWith r.len.toNat
  | .writeMask _ r => r.unicastWith r.len.toNat
  | .lanePush _ r => r.unicastWith r.len.toNat
  | .lanePop _ r => r.unicastWith 0
  | .enum _ r => r.broadcastWith
  | .sessionHello _ r => r.session 1
  | .sessionFinish _ r => r.session 2
  | .sessionEnd _ r => r.session 3
  | .broadcastRequest _ _ r => r.broadcastWith
  | .spiTransaction mosi _ => !mosi.isEmpty
  | .registerWrite _ a _ => a.toNat % 4 == 0
  | .eventClear b hi _ => !hi || b == .sol
  | .correlatorDump _ _ obs => noRepeat (obs.map (·.ch.val))
  | .lockAssessment obs => noRepeat (obs.map (·.ch.val))
  | .snapCaptureEnd pages _ _ data => data.all (fun d => d.length == 4096 * pages.toNat)
  | .measurementEpoch meas => noRepeat (meas.map (·.ch.val))
  | .ainFrame xs _ => xs.length == 16
  | .mapHostAccess a _ _ _ => a.toNat % 4 == 0 && decide (dramBase ≤ a.toNat ∧ a.toNat < 0x1A000000)
  | .armLatUpdate holds => noRepeat (holds.map (·.ch.val))
  | .canFrameReceived _ (.frame f _) => f.wf
  | .canFieldCommand pts => noRepeat (pts.map (·.1.val))
  | .dramParityError a _ => decide (dramBase ≤ a.toNat ∧ a.toNat < dramEnd)
  | .flashSlot (some (.ahead _ n)) | .flashSlot (some (.need _ n)) => n != 0
  | .flashSlot (some (.move k d n)) => n != 0 && k != d
  | .pu1End failed _ _ _ => noRepeat (failed.map (·.index))
  | .canFrameReceived _ (.error ..) | .flashSlot none | .helloExpiry | .forwardFrame .. | .portLoseLock ..
  | .retrainDone .. | .portDown .. | .portUp .. | .leadRequestReturn .. | .tickSend .. | .tickReceive .. | .tickLost
  | .tickBaseBroadcast | .sysTickBaseWrite .. | .blkEnableClear .. | .blkEnableSet .. | .blkSoftReset ..
  | .blkShadowSet .. | .blkShadowClear .. | .blkLockSet .. | .courseRequest .. | .courseTake .. | .crsTmo
  | .imgErase | .imgProgram | .imgVerify | .loadCourse .. | .imgCmdComplete .. | .laneHeadWrite ..
  | .laneTailWrite .. | .laneCtrlWrite .. | .producerResume .. | .bulkEntry | .biasSample .. | .antHwLimit ..
  | .antRetest .. | .vantFlt .. | .vantRestore .. | .agcUpdate .. | .pullinTimeout .. | .recoverTimeout ..
  | .gnssChModeWrite .. | .snapGo .. | .snapStartAtTag .. | .snapDrain | .snapProcess | .snapProcessDone ..
  | .snapCancel | .positionSolution .. | .timeSlewEnd | .timeHoldEnd | .rtcmEntry | .poseUpdate .. | .imuSample ..
  | .imuLost | .timePulse .. | .holdover .. | .holdoverUncUpdate .. | .encEdge .. | .encWindowEnd ..
  | .encStandstill .. | .encWire .. | .encLineGood .. | .encPosWrite .. | .encZEdge .. | .encZArm .. | .cmpArm ..
  | .ssiRead .. | .ssiFrameDone .. | .emuUpdate | .ainShuntRetest .. | .speedFusion | .geometryUpdate
  | .tileLoadEntry | .mapFlush | .mapEvictAll | .fenceCommit | .fenceRasterDone | .confirmWaitExpiry ..
  | .chunkClose | .chunkSigned | .strideTick | .leadPushReply .. | .satOffRetry .. | .satCommandEntry
  | .satReportEntry | .wmRebuildEnd | .dieLinkFrame .. | .dieLinkTimeout .. | .solCommandArrive
  | .solCommandStart .. | .solChOn .. | .solChOff .. | .boostEnd .. | .boostDeferExpiry .. | .noboostEnd ..
  | .peakEnd .. | .decayEnd .. | .holdOpenLoad .. | .pwmCycleStart .. | .pwmOffInstant .. | .dutySubwindowEnd ..
  | .solShort .. | .solFltClear .. | .dieTjSample .. | .boostOv .. | .boostOvEnd .. | .boostUv .. | .boostUvEnd ..
  | .bankOvercurrent .. | .bankUv .. | .bankUvEnd .. | .bankClr .. | .chopperCalibration .. | .calibrationDone ..
  | .armOpenSignature .. | .armCloseSignature .. | .armWindowClose .. | .armChClr .. | .boostAdaptPeriod ..
  | .eotDetect .. | .eotMiss .. | .hswCommandArrive | .hswCommandStart .. | .hswChOn .. | .hswChOff ..
  | .inrushEnd .. | .limitTimeout .. | .hswShort .. | .hswOpenLoad .. | .hswOpenLoadEnd .. | .hswOvertemp ..
  | .hswOvertempEnd .. | .hswFltClear .. | .vhsDipStart .. | .vhsDipEnd .. | .vhsDip .. | .pgenPeriodStart ..
  | .pulseEdge .. | .limpOn | .limpOff | .lhInputChange .. | .limpTableCheck .. | .limpTableSync | .holdOverExpiry
  | .loopSample | .loopValueArrive | .loopClose .. | .loopOpen .. | .loopRelease .. | .pacerUpdate .. | .paceGo ..
  | .paceStop .. | .paceJump .. | .lapReset .. | .lapTableWrite .. | .injStart .. | .injStartAt .. | .injStop ..
  | .capGo | .capStop | .canSend .. | .canCancel .. | .canStartOfFrame .. | .canAttemptEnd ..
  | .canPeriodicRequest .. | .txTmo .. | .canRxTimeout .. | .canRecReq .. | .busOn .. | .canModeWrite ..
  | .canRxhdrRead .. | .canSubmitEntry | .mrcCheck .. | .xoCount .. | .xoEdgeLoss | .xoVerifyTimeout | .clkReturn ..
  | .mrcFreqMeasure .. | .islandStop .. | .pllUnlk .. | .pllRelock .. | .pllRelockTimeout .. | .clkGateRequest ..
  | .clkGateTake .. | .gateAbn .. | .avsStep .. | .vbatPresent | .powerOnReset | .pu0End .. | .pu2End .. | .pu3End
  | .pu4End | .resetNAssert | .resetNRelease | .sysSoftReset .. | .deviceReset | .watchdogExpiry | .run60s
  | .railFault | .vbatLow | .vbatLowEnd | .supplySafeEnter | .supplySafeExit | .vioLoss | .vioPresent ..
  | .slugSample .. | .persist | .persistDone | .hoursPersist | .periodicPersist | .triggerCompare
  | .logProgramFail .. | .planeBVerifyFail .. | .logErase .. | .logSectorErased | .logDrain .. | .drainCst ..
  | .drainStop .. | .cstClear .. | .scrubRead .. | .fabricParityError .. | .telemetrySample | .telemetryPersist
  | .telClear | .supplyCal .. | .fwErase .. | .fwProgram .. | .fwVerify .. | .fwPrefer .. | .arbCommit ..
  | .oemProvision .. | .dbgChallenge .. | .dbgUnlock .. | .dbgKill .. | .secCmdComplete .. | .trngTestWindow ..
  | .katPeriodic .. | .plbGo .. | .plbStop .. | .plbRunEnd .. | .snapDrainDone | .logDrainDone
  | .hswSenseOffsetCalibration .. | .spreadModulationPeriod .. => true

end Sys2Proof
end

