-- ==== Sys2Proof/Laws/PerInstr.lean ====
section
/-! SUPPORT. Statements about single commands as syntax. -/

namespace Sys2Proof.Laws

end Sys2Proof.Laws
end

