-- ==== Sys2Proof/Tests/Slice0.lean ====
section
/-! SUPPORT. The model's own tests. First, for every statement of Obligations.lean, a state and operands that meet the
hypotheses of each of its clauses (witness_<name>; a hypothesis on what an opaque verification answers is left out, since
no number can show it); then ill-formed commands that WellFormed refuses; then small effects
whose expected values come from the worked examples of the spec. -/

namespace Sys2Proof.Tests

open Sys2Proof Sys2Proof.Machine

set_option Elab.async false
set_option linter.unusedVariables false

/-! ## States to start from -/

/-- A state with fields of registers set. -/
def having (s : State) (l : List (Fld × Nat)) : State := l.foldl (fun s e => s.put e.1 e.2) s

/-- An SV-96 in RUN with its clocks locked, every block enabled, and address 5 on the ring; its firmware slot is left empty, so that
the kernel can compare such states. -/
def up : State :=
  { having State.reset (allBlocks.map (fun b => (H.enable b, 1)) ++ [(F.PWR_STAT_PHASE, 5), (F.PWR_STAT_OUTREL, 1),
      (F.PWR_STAT_VBAT_OK, 1), (F.PWR_STAT_RAILS_OK, 1), (F.PWR_STAT_VIO_OK, 1), (F.CFG_PERSONALITY_PERS, 1),
      (F.SYS_LINK_MODE_VALID, 1), (F.SYS_LINK_MODE_ADDR, 5)]) with
    clk := 1600000000, tag := 1600000000, clocks := { (default : ClkState) with step := 7 },
    sec := { State.reset.sec with slotA := [] } }

/-- The same as a satellite, and as the lead. -/
def sat : State := up.put F.CFG_PERSONALITY_PERS 4
def lead : State := { up with cfg := { up.cfg with footing := some ⟨1, 0, 0, 0, 255, true, 0, [], []⟩ } }

/-- A lane that is on, with 64 entries from a base in the lane region: DIR 1 where the module consumes. -/
def lane (s : State) (n : Nat) (dir : Nat) : State :=
  having s [(F.LANE_BASE n, 0x10000 * n), (F.LANE_SIZE n, 64), (F.LANE_CTRL_DIR n, dir), (F.LANE_CTRL_EN n, 1)]

/-- An entry in slot 0 of an input lane. -/
def entry (s : State) (n : Nat) (bytes : List Byte) : State :=
  ((lane s n 1).put (F.LANE_HEAD_HEAD n) 1).setBytes ((lane s n 1).laneSlot n 0) (padTo 64 bytes)

/-- A request frame with its check values. -/
def rq (opc flags org : Byte) (len : BitVec 16) (addr : Nat) (body : List Byte) : Request :=
  let r : Request := { flags := flags, dev := 5, org := org, seq := 0, hcrc := 0, len := len, addr := BitVec.ofNat 32 addr,
                       body := body, trailer := [], crc := 0, waiting := 0 }
  let r := { r with hcrc := hcrc (r.headBytes opc) }
  { r with crc := crc32 (r.plainBytes opc) }

/-- An antenna's solution from `n` satellites of one system, above every mask. -/
def ant (n : Nat) : AntSolution :=
  { chans := (List.range n).map (fun k => ⟨Fin.ofNat 192 k, 0, BitVec.ofNat 8 (k + 1), 4500, 0x2D00⟩), lat := 1, lon := 2, hgt := 3,
    unc := 4 }

/-- A solution with antenna A's position and a measured time error. -/
def nsol (a : Option AntSolution) (e : Int) : NavSolution :=
  { epoch := 1000, antA := a, antB := none, code := false, carrier := false, ratio := 10, fixed := 0, e := e, eUnc := 30,
    gnss := 5000, freq := 3, drift := 0, leap := none, rtkFrom := 0, abFrom := 0, abFixed := false, abAz := 0, abLen := 0, abElev := 0, abUnc := 0, speed := 0,
    course := 0, cogUnc := 0 }

/-- Both antennas supplied, with thresholds of 5 mA and 90 mA. -/
def bothFed : State :=
  having up [(F.GNSS_FE_CTRL_BIAS_A, 1), (F.GNSS_FE_CTRL_BIAS_B, 1), (F.GNSS_ANT_THR_OPEN_MA, 5), (F.GNSS_ANT_THR_SHORT_MA, 90)]

/-- A log of one record less than its size, and that it still takes a record. -/
theorem replicate_before_last : (List.replicate 87295 ([] : List Byte)).length + 1 = logSize := by
  rw [List.length_replicate]; rfl

theorem ready_before_last (s : State) (h : s.recd.failed = false) (e : s.recd.erasing = none)
    (n : s.recd.log.length + 1 = logSize) : s.logReady = true := by
  simp only [State.logReady, State.logDead, h, e, Bool.and_true, Bool.false_or, Bool.not_eq_true', decide_eq_false_iff_not]
  omega


/-- A frame of `rq` whose body has the length that its opcode asks for has good check values. -/
theorem rq_crcGood (opc flags org : Byte) (len : BitVec 16) (addr : Nat) (body : List Byte)
    (hb : (match bodyLen opc (rq opc flags org len addr body) with | some n => body.length == n | none => true) = true)
    (ha : (rq opc flags org len addr body).auth = false) : crcGood opc (rq opc flags org len addr body) = true := by
  have hc : (rq opc flags org len addr body).crc =
      crc32 ((rq opc flags org len addr body).plainBytes opc ++ (rq opc flags org len addr body).trailer) := by
    rw [show (rq opc flags org len addr body).trailer = [] from rfl, List.append_nil]; rfl
  unfold crcGood
  rw [← hc, ha, Bool.and_eq_true, Bool.and_eq_true]
  exact ⟨⟨beq_self_eq_true _, hb⟩, rfl⟩

/-! ## States that several witnesses share -/

def st1 : State := having up [(F.HSW_CH_CTRL_EN 3, 1), (F.HSW_CH_CFG_MODE 3, 1)]
def st2 : State := having up [(F.SOL_CH_CTRL_EN 3, 1), (F.SOL_CH_CFG_MODE 3, 1)]
def st3 : State := having up [(F.FBK_ENC_CFG_MODE 2, 1), (F.FBK_ENC_STAT_SSTATE 2, 2)]
def st4 : State := { (lane up 5 0) with lanes := [(5, { (default : LaneState) with held := [⟨0, []⟩] })] }
def st5 : State := having up [(F.HSW_CH_CTRL_EN 3, 1), (F.HSW_CH_CFG_MODE 3, 1), (F.HSW_CH_STAT_ON 3, 1)]
def st6 : State := having up [(F.SOL_CH_CTRL_EN 3, 1), (F.SOL_CH_CFG_MODE 3, 1), (F.SOL_CH_CFG_CSRC 3, 1)]
def st7 : State := having lead [(F.STR_SP_CTRL_EN 0, 1), (F.STR_SP_CTRL_SAT 0, 6), (F.STR_SP_CTRL_INST 0, 2)]
def st8 : State := having up [(F.GEO_MAP_CFG_NSLOT, 4), (F.GEO_MAP_EXT_X_TXMAX, 3), (F.GEO_MAP_EXT_Y_TYMAX, 3)]
def st9 : State := having up [(F.CLK_STAT_MRC_OK, 1), (F.CLK_STAT_XO_OK, 1), (F.CLK_STAT_FBARM, 1), (F.CLK_STAT_LOCK, 0x17)]
def st10 : State :=
  { (having up [(H.enable .nav, 0), (F.NAV_TIME_STAT_TQ, 2)]) with nav := { up.nav with runs := 2, timeEpoch := 50 } }
def st11 : State := having up [(F.HSW_CH_CTRL_EN 3, 1), (F.HSW_CH_CFG_MODE 3, 2), (F.HSW_CH_STAT_ON 3, 1),
  (F.HSW_VHS_CFG_VHS_DIP 0, 90)]
def st12 : State := (having up [(F.GEO_PT_CTRL_EN 0, 1), (F.GEO_PT_BIND_KIND 0, 2), (F.GEO_PT_BIND_INST 0, 3)]).put
  (F.STR_PT_CTRL_FORCE 0) 2
def st13 : State := having up [(F.SOL_DIE_BOOST_ADAPT 0, 1), (F.SOL_DIE_VB_TGT 0, 400), (F.SOL_DIE_BOOST_VSET 0, 650),
  (F.SOL_DIE_BOOST_VMIN 0, 300)]
def st14 : State :=
  { (having up [(H.enable .str, 0), (F.GEO_PT_CTRL_EN 0, 1), (F.NAV_POSE_Q_PQ, 3)]) with geo := { up.geo with swap := true, next := [[(0, 0)]] } }
def st15 : State := entry st8 3 (padTo 64 [0, 0, 0x80, 1, 0, 0, 0, 0, 2, 0, 1])
def st16 : State := entry st8 3 (padTo 64 [0, 0, 0x80, 1, 0, 0, 0, 0, 0, 0, 1])
def st17 : State :=
  { ({ up with flash := { up.flash with urgent := true } }) with flash := { ({ up with flash := { up.flash with urgent := true } }).flash with class4 := [] } }
def st18 : State :=
  { (having up [(F.REC_TRG_CFG_KIND 3, 1), (F.REC_TRG_CFG_EN 3, 1), (F.REC_TRG_CFG_EVNUM 3, 99), (F.REC_TRG_HOLD_HOLDOFF 3, 500)]) with occ := [(99, 1599999000)] }
def st19 : State :=
  { up with armSw := [(3, { (default : ArmSw) with opening := { (default : EotWin) with on := true, since := 1598400000, clk := 1598400000, cfg := 0x100003E8 } })] }
def st20 : State := having up [(F.SOL_CH_STAT_PHASE 3, 4), (F.HSW_CH_STAT_ON 3, 1), (F.HSW_CH_STAT_ON 4, 1),
  (F.HSW_CH_STAT_LIMPED 4, 1), (F.CLK_STAT_MRC_OK, 1), (F.PWR_RST_CAUSE_WRUN, 2)]
def st21 : State := having up [(F.SOL_CH_CTRL_EN 3, 1), (F.SOL_CH_CFG_MODE 3, 1), (F.SOL_PROF_CUR_I_PEAK 0 0, 120),
  (F.SOL_PROF_TIME_T_PEAK 0 0, 50), (F.SOL_PROF_TIME_T_BOOST_MAX 0 0, 500)]
def st22 : State := having (having up [(F.CTL_LOOP_TIME_PERIOD 2, 10)]) [(F.CTL_LOOP_CTRL_EN 2, 1), (⟨R.CTL_LOOP_OUT 2, 0,
  32⟩, 0x30200000), (⟨R.CTL_LOOP_MAN 2, 0, 32⟩, 99), (F.HSW_PG_CFG_DSRC 2, 2)]
def st23 : State := having up [(F.CAN_OBJ_CFG_EN 5, 1), (F.CAN_OBJ_CFG_DIR 5, 1), (F.CAN_OBJ_CFG_RETRY 5, 2),
  (F.CAN_OBJ_STAT_PEND 5, 1), (F.CAN_OBJ_STAT_ACTIVE 5, 1), (F.CAN_OBJ_STAT_CLASHRUN 5, 2)]
def st24 : State :=
  { (having up [(F.ARM_DRIFT_STEP_MAX, 50)]) with armCh := [(3, ({ (default : ArmCh) with openWin := true, openAt := 1599900000, closeWin := true, closeAt := 1599800000, closeV := 300 }))] }
def st25 : State :=
  { ({ up with flash := { up.flash with taken := 32, running := true } }) with flash := { ({ up with flash := { up.flash with taken := 32, running := true } }).flash with urgent := false } }
def st27 : State := (having up [(F.REC_TRG_CFG_KIND 3, 2), (F.REC_TRG_CFG_EN 3, 1), (F.REC_TRG_ADDR 3, R.SYS_LINK_FWD),
  (⟨R.REC_TRG_MASK 3, 0, 32⟩, 0xFFFF), (F.REC_TRG_CFG_NWORDS 3, 2), (F.REC_TRG_CFG_OP 3, 1)])
def st28 : State :=
  { (having up [(F.CAN_OBJ_CFG_EN 5, 1), (⟨R.CAN_OBJ_ID 5, 0, 32⟩, 0x123), (⟨R.CAN_OBJ_MASK 5, 0, 32⟩, 0x7FF), (F.CAN_OBJ_TMO_RX_TMO 5, 10)]) with canCtl := [(0, { (default : CanCtl) with mode := 1 })] }
def st29 : State :=
  { (having up [(F.HSW_CH_CFG_MODE 3, 2), (F.HSW_PG_CFG_EN 0, 1), (F.HSW_PG_CFG_PER 0, 1000), (F.HSW_PG_DUTY 0, 300), (F.HSW_CH_CFG_PHASE 3, 64)]) with hsw := [(3, { (default : HswCh) with cmd := true })] }
def st30 : State :=
  { (having up [(F.SOL_CH_CTRL_EN 3, 1), (F.SOL_CH_CFG_MODE 3, 2), (F.SOL_CH_DUTY_DUTY 3, 300), (F.SOL_CH_PWM_PER 3, 10000)]) with sol := [(3, ({ (default : SolCh) with train := true, nextAt := 1599999000 }))] }
def st31 : State :=
  { (having up [(F.ARM_DRIFT_STEP_MAX, 50)]) with armCh := [(3, { ({ (default : ArmCh) with openWin := true, openAt := 1599900000, closeWin := true, closeAt := 1599800000, closeV := 300 }) with openSkip := true })] }
def st32 : State := (having up [(F.REC_TRG_CFG_KIND 3, 2), (F.REC_TRG_CFG_EN 3, 1), (F.REC_TRG_ADDR 3, R.SYS_LINK_FWD),
  (⟨R.REC_TRG_MASK 3, 0, 32⟩, 0xFFFF), (F.REC_TRG_CFG_NWORDS 3, 2), (F.REC_TRG_CFG_OP 3, 1)]).put (F.REC_TRG_CFG_OP 3) 0
def st33 : State :=
  { (having ({ up with flash := { up.flash with urgent := true } }) [(H.enable .mem, 0)]) with flash := { (having ({ up with flash := { up.flash with urgent := true } }) [(H.enable .mem, 0)]).flash with urgent := false } }
def st34 : State := having (having up [(F.PACE_TIME_PERIOD 3, 10), (⟨R.PACE_XMAX 3, 0, 32⟩, 2000000000), (⟨R.PACE_TGT 3, 0,
  32⟩, 500000), (⟨R.PACE_VMAX 3, 0, 32⟩, 0x6400), (⟨R.PACE_AMAX 3, 0, 32⟩, 0x19000)]) [(F.PACE_CTRL_EN 3, 1),
  (F.PACE_STAT_STATE 3, 1)]
def st35 : State := having
  { (lane st8 4 0) with geo := { up.geo with slots := [(0, ({ (default : GeoSlot) with st := 2, dirty := true }))] } }
  [(F.LANE_SIZE 4, 512)]
def st37 : State :=
  { (having up [(F.PWR_STAT_VIO_OK, 0), (H.enable .can, 1)]) with canCtl := (having up [(F.PWR_STAT_VIO_OK, 0), (H.enable .can, 1)]).canCtl.set 0 { (having up [(F.PWR_STAT_VIO_OK, 0), (H.enable .can, 1)]).canCtl.get 0 with inFrame := false } }
def st38 : State := having (having up [(F.CAN_OBJ_CFG_EN 5, 1), (F.CAN_OBJ_CFG_DIR 5, 1)]) [(F.GEO_PT_BIND_KIND 3, 3),
  (F.GEO_PT_BIND_INST 3, 5), (F.GEO_PT_BIND_BITOFS 3, 8), (F.GEO_PT_BIND_WIDTH 3, 7), (F.GEO_PT_CANVAL_ONVAL 3, 0xAB),
  (F.CAN_OBJ_CFG_TRIG_CHG 5, 1)]
def st39 : State :=
  { ((having up [(F.PACE_TIME_PERIOD 3, 10), (⟨R.PACE_XMAX 3, 0, 32⟩, 2000000000), (⟨R.PACE_TGT 3, 0, 32⟩, 500000), (⟨R.PACE_VMAX 3, 0, 32⟩, 0x6400), (⟨R.PACE_AMAX 3, 0, 32⟩, 0x19000)]).put (F.PACE_STAT_STATE 3) 1) with pacer := [(3, ⟨5, 6, 7, 0⟩)] }
def st40 : State :=
  { (having up [(F.CAN_OBJ_CFG_EN 5, 1), (F.CAN_OBJ_CFG_DIR 5, 1), (F.CAN_OBJ_CFG_RETRY 5, 2), (⟨R.CAN_OBJ_ID 5, 0, 32⟩, 0x123), (F.CAN_OBJ_TIME_PERIOD 5, 10), (F.CAN_OBJ_TMO_TX_TMO 5, 10)]) with canCtl := [(0, { (default : CanCtl) with mode := 1 })] }
def st41 : State :=
  { st7 with str := { up.str with sats := [(6, { ({ (default : SatState) with inFlight := [⟨1, 1, [⟨128, 0, 1, 0xFFFF, 1700000000, false⟩], true⟩] }) with fails := 1 })] } }
def st42 : State := having
  ({ (having up [(F.FBK_ENC_CFG_MODE 2, 1), (F.FBK_ENC_ZCFG_ZMODE 2, 2)]) with enc := [(2, { (default : EncState) with zArmed := true })] })
  [(F.FBK_ENC_CFG_MODE 2, 1), (F.FBK_ENC_CFG_LIMEN 2, 0), (F.FBK_ENC_ZCFG_ZMODE 2, 3), (F.FBK_ENC_ZCFG_ZMODE 2, 2)]
def st43 : State :=
  { (entry st8 3 ([0, 0, 0x81, 0, 0, 0, 0, 0] ++ List.replicate 56 5)) with geo := { up.geo with load := some ⟨0, 0⟩, slots := [(0, { (default : GeoSlot) with st := 1 })] } }
def st44 : State :=
  { ((having up [(F.SOL_CH_CTRL_EN 3, 1), (F.SOL_CH_CFG_MODE 3, 2), (F.SOL_CH_DUTY_DUTY 3, 300), (F.SOL_CH_PWM_PER 3, 10000)]).put (F.SOL_CH_STAT_PHASE 3) 5) with sol := [(3, { ({ (default : SolCh) with train := true, nextAt := 1599999000 }) with offTag := some 7 })] }
def st45 : State :=
  { (having up [(F.HSW_CH_STAT_ON 5, 1), (F.HSW_CH_STAT_ON 3, 1), (F.SOL_CH_STAT_PHASE 3, 2), (F.HSW_LH_MAP_V0 0, 1), (F.HSW_LH_MAP_SW0 0, 7), (F.HSW_LH_STAT_LH_IN7, 1), (F.HSW_LH_STAT_VALIDA, 1)]) with hswKeep := { up.hswKeep with latchA := [0x87], latchB := [0x87] } }
def st46 : State :=
  { (having (having up [(F.GEO_FENCE_CTRL_EN 3, 1), (F.GEO_FENCE_CTRL_COUNT 3, 4)]) [(F.GEO_MAP_STAT_FENCE_BUSY, 1)]) with memCare := { (having (having up [(F.GEO_FENCE_CTRL_EN 3, 1), (F.GEO_FENCE_CTRL_COUNT 3, 4)]) [(F.GEO_MAP_STAT_FENCE_BUSY, 1)]).memCare with dead := [] } }
def st47 : State := having
  ({ (having st9 [(F.CLK_AVS_CFG_EN, 1), (F.CLK_AVS_CFG_MARGIN, 8), (F.CLK_AVS_STAT_MV, 900)]) with clocks := { up.clocks with avsLow := some 9 } })
  [(F.CLK_AVS_CFG_EN, 1)]
def st48 : State := st40.put (F.CAN_OBJ_STAT_PEND 5) 1
def st49 : State := { st34 with pacer := [(3, ⟨32768000000, 0, 0, 0⟩)] }
def st50 : State := (having up [(F.PLB_CFG_WM1 1, 31), (F.PLB_CFG_REFIN 1, 1), (F.PLB_CFG_REFOUT 1, 1), (F.PLB_POLY_LO 1,
  0x04C11DB7), (F.PLB_INIT_LO 1, 0xFFFFFFFF), (F.PLB_XOR_LO 1, 0xFFFFFFFF), (F.PLB_ADDR 1, 0x18000000), (F.PLB_LEN 1,
  9)]).setBytes 0x18000000 [0x31, 0x32, 0x33, 0x34, 0x35, 0x36, 0x37, 0x38, 0x39]
def st51 : State :=
  { (having (having up [(F.SOL_CH_CTRL_EN 3, 1), (F.SOL_CH_CFG_MODE 3, 2), (F.SOL_CH_DUTY_DUTY 3, 300), (F.SOL_CH_PWM_PER 3, 10000)]) [(F.SOL_CH_DLIM_WINDOW 3, 2), (F.SOL_CH_DLIM_LIMIT 3, 50)]) with sol := [(3, { ({ (default : SolCh) with train := true, nextAt := 1599999000 }) with hist := [(10000, 5)] })] }
def st52 : State :=
  { ((having up [(F.GEO_PT_CTRL_EN 0, 1), (F.GEO_PT_BIND_KIND 0, 2), (F.GEO_PT_BIND_INST 0, 3)]).put (F.STR_PT_CTRL_FORCE 0) 1) with str := { up.str with points := [(0, { (default : StrPt) with plan := 2, bind := (having up [(F.GEO_PT_CTRL_EN 0, 1), (F.GEO_PT_BIND_KIND 0, 2), (F.GEO_PT_BIND_INST 0, 3)]).bindReg 0 })] } }
def st53 : State := st50.put (F.PLB_CFG_EXPSRC 1) 1
def st54 : State := st50.put (F.PLB_CFG_EXPSRC 1) 2
def st55 : State := (entry (having up [(F.CAN_OBJ_CFG_EN 5, 1), (F.CAN_OBJ_CFG_DIR 5, 1)]) 9 (padTo 64 [0, 0, 0xC2, 1, 0, 0,
  0, 0, 5, 1, 4, 0, 0x23, 1, 0, 0, 9, 8, 7, 6])).laneSkip 9 ((entry (having up [(F.CAN_OBJ_CFG_EN 5, 1), (F.CAN_OBJ_CFG_DIR
  5, 1)]) 9 (padTo 64 [0, 0, 0xC2, 1, 0, 0, 0, 0, 5, 1, 4, 0, 0x23, 1, 0, 0, 9, 8, 7, 6])).laneLevel 9)
def st56 : State := having st13 [(F.ARM_CH_CTRL_ADP 3, 1), (F.ARM_CH_CTRL_EN 3, 1), (F.ARM_CH_CONF_CONF 3, 200), (armConf 3
  false, 200), (armEst 3 false, 5000), (F.SOL_CH_CTRL_EN 3, 1), (F.SOL_CH_CFG_MODE 3, 1), (F.ARM_DIE_ADAPT_T_TARGET 0,
  1000)]
def st57 : State :=
  { (st21.put (F.SOL_CH_STAT_PHASE 3) 2) with sol := [(3, { (default : SolCh) with prof := ({ (default : Profile) with tPeak := 50, iPeak := 120, tBoost := 500 }), phaseAt := 1599990000 })] }
def st58 : State := having st50 [(F.PLB_CFG_EXPSRC 1, 1), (F.PLB_EXP_LO 1, 0xCBF43926)]
def st59 : State := having st22 [(F.CTL_LOOP_STAT_STATE 2, 2), (⟨R.CTL_LOOP_SPFIX 2, 0, 32⟩, 65536), (⟨R.CTL_LOOP_KP 2, 0,
  32⟩, 33554432), (⟨R.CTL_LOOP_OMAX 2, 0, 32⟩, 100000), (⟨R.CTL_LOOP_SAFE 2, 0, 32⟩, 55)]
def st61 : State :=
  { (having (entry st7 7 (padTo 64 ([0, 0, 0xA2, 0, 1, 0, 0, 0, 6, 2, 1, 0] ++ leBytes 8 1500000000))) [(F.STR_SAT_CFG_RELAY, 7)]) with geo := { up.geo with points := [(128, { (default : GeoCross) with cross := 1, hydO := 9, bind := st7.bindReg 128 })] } }
def st62 : State :=
  { (having ({ ((up.put (F.GNSS_CH_STATE_STATE 7) 3).put (F.GNSS_CH_CTRL_MODE 7) 2) with gnssCh := [(9, { (default : GnssCh) with hostPend := true })] }) [(H.enable .gnss, 1), (F.GNSS_CH_CTRL_MODE 7, 0)]) with gnss := { (having ({ ((up.put (F.GNSS_CH_STATE_STATE 7) 3).put (F.GNSS_CH_CTRL_MODE 7) 2) with gnssCh := [(9, { (default : GnssCh) with hostPend := true })] }) [(H.enable .gnss, 1), (F.GNSS_CH_CTRL_MODE 7, 0)]).gnss with stopped := false } }
def st63 : State := having (st28) [(F.GEO_PT_BIND_KIND 3, 3), ((F.CAN_OBJ_CFG_TRIG_CHG ((st28).get (F.GEO_PT_BIND_INST 3))),
  0)]
def st64 : State := { st50 with plb := [(1, some (st50.plbLatch 1))] }
def st65 : State := { st53 with plb := [(1, some (st53.plbLatch 1))] }
def st66 : State := { st54 with plb := [(1, some (st54.plbLatch 1))] }
def st67 : State := { st58 with plb := [(1, some (st58.plbLatch 1))] }
def st68 : State :=
  { (st48.put (F.CAN_OBJ_STAT_ACTIVE 5) 1) with canCtl := [(0, { (default : CanCtl) with mode := 1, active := some 5, inFrame := true, txErr := 9 })], canObj := [(5, { (default : CanObj) with attCfg := st40.nat (R.CAN_OBJ_CFG 5), attSof := 77 })] }
def st69 : State :=
  { ({ ({ (having ({ up with flash := { up.flash with urgent := true } }) [(H.enable .mem, 1)]) with flash := { (having ({ up with flash := { up.flash with urgent := true } }) [(H.enable .mem, 1)]).flash with class4 := [] } }) with flash := { ({ (having ({ up with flash := { up.flash with urgent := true } }) [(H.enable .mem, 1)]) with flash := { (having ({ up with flash := { up.flash with urgent := true } }) [(H.enable .mem, 1)]).flash with class4 := [] } }).flash with class3 := [] } }) with flash := { ({ ({ (having ({ up with flash := { up.flash with urgent := true } }) [(H.enable .mem, 1)]) with flash := { (having ({ up with flash := { up.flash with urgent := true } }) [(H.enable .mem, 1)]).flash with class4 := [] } }) with flash := { ({ (having ({ up with flash := { up.flash with urgent := true } }) [(H.enable .mem, 1)]) with flash := { (having ({ up with flash := { up.flash with urgent := true } }) [(H.enable .mem, 1)]).flash with class4 := [] } }).flash with class3 := [] } }).flash with urgent := false } }
def st70 : State :=
  { ({ (having (({ State.reset with pwr := { State.reset.pwr with booting := true } })) [(F.PWR_STAT_PHASE, 4), (F.PWR_STAT_SSAFE, 0), (H.enable .can, 1), (F.PWR_STAT_VIO_OK, 1)]) with pwr := { (having (({ State.reset with pwr := { State.reset.pwr with booting := true } })) [(F.PWR_STAT_PHASE, 4), (F.PWR_STAT_SSAFE, 0), (H.enable .can, 1), (F.PWR_STAT_VIO_OK, 1)]).pwr with held := false } }) with canCtl := ({ (having (({ State.reset with pwr := { State.reset.pwr with booting := true } })) [(F.PWR_STAT_PHASE, 4), (F.PWR_STAT_SSAFE, 0), (H.enable .can, 1), (F.PWR_STAT_VIO_OK, 1)]) with pwr := { (having (({ State.reset with pwr := { State.reset.pwr with booting := true } })) [(F.PWR_STAT_PHASE, 4), (F.PWR_STAT_SSAFE, 0), (H.enable .can, 1), (F.PWR_STAT_VIO_OK, 1)]).pwr with held := false } }).canCtl.set 0 { ({ (having (({ State.reset with pwr := { State.reset.pwr with booting := true } })) [(F.PWR_STAT_PHASE, 4), (F.PWR_STAT_SSAFE, 0), (H.enable .can, 1), (F.PWR_STAT_VIO_OK, 1)]) with pwr := { (having (({ State.reset with pwr := { State.reset.pwr with booting := true } })) [(F.PWR_STAT_PHASE, 4), (F.PWR_STAT_SSAFE, 0), (H.enable .can, 1), (F.PWR_STAT_VIO_OK, 1)]).pwr with held := false } }).canCtl.get 0 with inFrame := false } }
def st71 : State :=
  { ({ (having ({ (st6.put (F.SOL_CH_STAT_PHASE 3) 5) with str := { up.str with solWire := [(({ src := .stride 0, out := 3, op := 2, start := 9, duty := 0xFFFF } : OutCmd))] } }) [(F.SOL_CH_CFG_CSRC 3, 1)]) with str := { (having ({ (st6.put (F.SOL_CH_STAT_PHASE 3) 5) with str := { up.str with solWire := [(({ src := .stride 0, out := 3, op := 2, start := 9, duty := 0xFFFF } : OutCmd))] } }) [(F.SOL_CH_CFG_CSRC 3, 1)]).str with solWire := (({ src := .stride 0, out := 3, op := 2, start := 9, duty := 0xFFFF } : OutCmd)) :: ([]) } }) with sol := ({ (having ({ (st6.put (F.SOL_CH_STAT_PHASE 3) 5) with str := { up.str with solWire := [(({ src := .stride 0, out := 3, op := 2, start := 9, duty := 0xFFFF } : OutCmd))] } }) [(F.SOL_CH_CFG_CSRC 3, 1)]) with str := { (having ({ (st6.put (F.SOL_CH_STAT_PHASE 3) 5) with str := { up.str with solWire := [(({ src := .stride 0, out := 3, op := 2, start := 9, duty := 0xFFFF } : OutCmd))] } }) [(F.SOL_CH_CFG_CSRC 3, 1)]).str with solWire := (({ src := .stride 0, out := 3, op := 2, start := 9, duty := 0xFFFF } : OutCmd)) :: ([]) } }).sol.set 3 { ({ (having ({ (st6.put (F.SOL_CH_STAT_PHASE 3) 5) with str := { up.str with solWire := [(({ src := .stride 0, out := 3, op := 2, start := 9, duty := 0xFFFF } : OutCmd))] } }) [(F.SOL_CH_CFG_CSRC 3, 1)]) with str := { (having ({ (st6.put (F.SOL_CH_STAT_PHASE 3) 5) with str := { up.str with solWire := [(({ src := .stride 0, out := 3, op := 2, start := 9, duty := 0xFFFF } : OutCmd))] } }) [(F.SOL_CH_CFG_CSRC 3, 1)]).str with solWire := (({ src := .stride 0, out := 3, op := 2, start := 9, duty := 0xFFFF } : OutCmd)) :: ([]) } }).sol.get 3 with queue := [] } }
def st72 : State :=
  { ({ (having (st28) [(F.CAN_CTL_MIR_RX_ALL 0, 0), (F.CAN_CTL_MIR_RX_OBJ 0, 0)]) with canCtl := (having (st28) [(F.CAN_CTL_MIR_RX_ALL 0, 0), (F.CAN_CTL_MIR_RX_OBJ 0, 0)]).canCtl.set 0 { (having (st28) [(F.CAN_CTL_MIR_RX_ALL 0, 0), (F.CAN_CTL_MIR_RX_OBJ 0, 0)]).canCtl.get 0 with mode := 1 } }) with canCtl := ({ (having (st28) [(F.CAN_CTL_MIR_RX_ALL 0, 0), (F.CAN_CTL_MIR_RX_OBJ 0, 0)]) with canCtl := (having (st28) [(F.CAN_CTL_MIR_RX_ALL 0, 0), (F.CAN_CTL_MIR_RX_OBJ 0, 0)]).canCtl.set 0 { (having (st28) [(F.CAN_CTL_MIR_RX_ALL 0, 0), (F.CAN_CTL_MIR_RX_OBJ 0, 0)]).canCtl.get 0 with mode := 1 } }).canCtl.set 0 { ({ (having (st28) [(F.CAN_CTL_MIR_RX_ALL 0, 0), (F.CAN_CTL_MIR_RX_OBJ 0, 0)]) with canCtl := (having (st28) [(F.CAN_CTL_MIR_RX_ALL 0, 0), (F.CAN_CTL_MIR_RX_OBJ 0, 0)]).canCtl.set 0 { (having (st28) [(F.CAN_CTL_MIR_RX_ALL 0, 0), (F.CAN_CTL_MIR_RX_OBJ 0, 0)]).canCtl.get 0 with mode := 1 } }).canCtl.get 0 with busOff := false } }
def st73 : State :=
  { ({ (having (st28) [(F.CAN_CTL_MIR_RX_ALL 0, 0), (F.CAN_CTL_MIR_RX_OBJ 0, 0), (F.CAN_OBJ_CFG_DECODE 5, 0)]) with canCtl := (having (st28) [(F.CAN_CTL_MIR_RX_ALL 0, 0), (F.CAN_CTL_MIR_RX_OBJ 0, 0), (F.CAN_OBJ_CFG_DECODE 5, 0)]).canCtl.set 0 { (having (st28) [(F.CAN_CTL_MIR_RX_ALL 0, 0), (F.CAN_CTL_MIR_RX_OBJ 0, 0), (F.CAN_OBJ_CFG_DECODE 5, 0)]).canCtl.get 0 with mode := 1 } }) with canCtl := ({ (having (st28) [(F.CAN_CTL_MIR_RX_ALL 0, 0), (F.CAN_CTL_MIR_RX_OBJ 0, 0), (F.CAN_OBJ_CFG_DECODE 5, 0)]) with canCtl := (having (st28) [(F.CAN_CTL_MIR_RX_ALL 0, 0), (F.CAN_CTL_MIR_RX_OBJ 0, 0), (F.CAN_OBJ_CFG_DECODE 5, 0)]).canCtl.set 0 { (having (st28) [(F.CAN_CTL_MIR_RX_ALL 0, 0), (F.CAN_CTL_MIR_RX_OBJ 0, 0), (F.CAN_OBJ_CFG_DECODE 5, 0)]).canCtl.get 0 with mode := 1 } }).canCtl.set 0 { ({ (having (st28) [(F.CAN_CTL_MIR_RX_ALL 0, 0), (F.CAN_CTL_MIR_RX_OBJ 0, 0), (F.CAN_OBJ_CFG_DECODE 5, 0)]) with canCtl := (having (st28) [(F.CAN_CTL_MIR_RX_ALL 0, 0), (F.CAN_CTL_MIR_RX_OBJ 0, 0), (F.CAN_OBJ_CFG_DECODE 5, 0)]).canCtl.set 0 { (having (st28) [(F.CAN_CTL_MIR_RX_ALL 0, 0), (F.CAN_CTL_MIR_RX_OBJ 0, 0), (F.CAN_OBJ_CFG_DECODE 5, 0)]).canCtl.get 0 with mode := 1 } }).canCtl.get 0 with busOff := false } }
def st74 : State :=
  { ({ (st68) with canCtl := (st68).canCtl.set 0 { (st68).canCtl.get 0 with mode := 2 } }) with canCtl := ({ (st68) with canCtl := (st68).canCtl.set 0 { (st68).canCtl.get 0 with mode := 2 } }).canCtl.set 0 { ({ (st68) with canCtl := (st68).canCtl.set 0 { (st68).canCtl.get 0 with mode := 2 } }).canCtl.get 0 with busOff := false } }
def st75 : State :=
  { ({ (having (st68) [(F.CAN_OBJ_STAT_PEND 5, 1)]) with canCtl := (having (st68) [(F.CAN_OBJ_STAT_PEND 5, 1)]).canCtl.set 0 { (having (st68) [(F.CAN_OBJ_STAT_PEND 5, 1)]).canCtl.get 0 with mode := 1 } }) with canCtl := ({ (having (st68) [(F.CAN_OBJ_STAT_PEND 5, 1)]) with canCtl := (having (st68) [(F.CAN_OBJ_STAT_PEND 5, 1)]).canCtl.set 0 { (having (st68) [(F.CAN_OBJ_STAT_PEND 5, 1)]).canCtl.get 0 with mode := 1 } }).canCtl.set 0 { ({ (having (st68) [(F.CAN_OBJ_STAT_PEND 5, 1)]) with canCtl := (having (st68) [(F.CAN_OBJ_STAT_PEND 5, 1)]).canCtl.set 0 { (having (st68) [(F.CAN_OBJ_STAT_PEND 5, 1)]).canCtl.get 0 with mode := 1 } }).canCtl.get 0 with busOff := false } }

/-! ## The hypotheses of each statement are met -/

theorem witness_EmptyQueueLetsOneCountPass : (∃ (s : State), s.pending = [] ∧ s.tagBehind = true) ∧ (∃ (s : State),
  s.pending = [] ∧ s.tagBehind = false ∧ s.occ = [] ∧ s.gnss.drain = [] ∧ s.recd.drain = none ∧ s.ctl.held = [] ∧
  s.cfg.resets = [] ∧ s.nav.steps = s.cap.steps ∧ s.powered = true ∧ s.pwr.frac + 1 < second) ∧ (∃ (s : State), s.pending =
  [] ∧ s.tagBehind = false ∧ s.occ = [] ∧ s.gnss.drain = [] ∧ s.recd.drain = none ∧ s.ctl.held = [] ∧ s.cfg.resets = [] ∧
  s.nav.steps = s.cap.steps ∧ s.powered = true ∧ second ≤ s.pwr.frac + 1) :=
⟨⟨{ up with nav := { up.nav with phase := countUnit } }, (by decide +kernel)⟩, ⟨up, (by decide +kernel)⟩,
    ⟨{ up with pwr := { up.pwr with frac := 15999999 } }, (by decide +kernel)⟩⟩

theorem witness_CanonicalDataKeptByEveryStep : ∃ (s : State) (t : State), s.canonical = true ∧ step s = Host.Outcome.next t
  :=
⟨up, _, ⟨(by decide +kernel), (rfl)⟩⟩

theorem witness_RequestFramesRoundTrip : (∃ (opc : Byte) (r : Request), (r.trailer.length = if r.auth = true then 20 else
  0)) ∧ (∃ (b : List Byte) (w : Nat), 16 ≤ b.length) :=
⟨⟨2, rq 2 0 0x80 4 0x12000 [1, 2, 3, 4], (by decide +kernel)⟩, ⟨List.replicate 20 7, 0, (by decide +kernel)⟩⟩

theorem witness_HostRequestRunsInSequence : (∃ (p : Port) (r : Request) (x : Option Session) (s : State) (v : State) (co :
  Instr × Byte), co ∈ unicastRows p r ∧ s.admitted co.2 r x v ∧ BitVec.toNat r.seq = s.link.host.exp ∧ shapeCode false co.2
  r = none ∧ (v.execute false x.isSome co.2 r).err = none) ∧ (∃ (p : Port) (r : Request) (x : Option Session) (c : ErrCode)
  (n : Nat) (s : State) (v : State) (u : State) (co : Instr × Byte), co ∈ unicastRows p r ∧ s.admitted co.2 r x v ∧
  BitVec.toNat r.seq = s.link.host.exp ∧ c.keepsSeq = false ∧ (shapeCode false co.2 r = some c ∧ n = 0 ∧ u = v ∨ shapeCode
  false co.2 r = none ∧ (v.execute false x.isSome co.2 r).err = some (c, n) ∧ u = (v.execute false x.isSome co.2 r).st)) ∧
  (∃ (p : Port) (r : Request) (x : Option Session) (n : Nat) (s : State) (v : State) (co : Instr × Byte), co ∈ unicastRows p
  r ∧ s.admitted co.2 r x v ∧ BitVec.toNat r.seq = s.link.host.exp ∧ shapeCode false co.2 r = none ∧ (v.execute false
  x.isSome co.2 r).err = some (ErrCode.auth, n)) ∧ (∃ (p : Port) (r : Request) (x : Option Session) (c : Cached) (s : State)
  (v : State) (co : Instr × Byte), co ∈ unicastRows p r ∧ s.admitted co.2 r x v ∧ s.link.host.exp < 256 ∧ (∃ k, 1 ≤ k ∧ k ≤
  4 ∧ (BitVec.toNat r.seq + k) % 256 = s.link.host.exp) ∧ (List.find? (fun c => c.seq == BitVec.toNat r.seq)
  s.link.host.cache = some c)) ∧ (∃ (p : Port) (r : Request) (x : Option Session) (s : State) (v : State) (co : Instr ×
  Byte), co ∈ unicastRows p r ∧ s.admitted co.2 r x v ∧ s.link.host.exp < 256 ∧ BitVec.toNat r.seq ≠ s.link.host.exp ∧ ((∀
  (k : ℕ), 1 ≤ k → k ≤ 4 → (BitVec.toNat r.seq + k) % 256 ≠ s.link.host.exp) ∨ ∀ c ∈ s.link.host.cache, c.seq ≠ BitVec.toNat
  r.seq)) ∧ (∃ (p : Port) (r : Request) (s : State) (co : Instr × Byte), co ∈ unicastRows p r ∧ s.unproved co.2 r) :=
⟨⟨.inp, (rq 0 0 0x80 0 0 []), none, up, up, (.status .inp (rq 0 0 0x80 0 0 []), 0), ⟨(.head _), (⟨(by decide +kernel),
    .inl ⟨rfl, (by decide +kernel), rfl, rfl⟩⟩), (by decide +kernel), (by decide +kernel), (by decide +kernel)⟩⟩, ⟨.inp, (rq
    0 0 0x80 4 0 []), none, .length, 0, up, up, up, (.status .inp (rq 0 0 0x80 4 0 []), 0), ⟨(.head _),
    (⟨(by decide +kernel), .inl ⟨rfl, (by decide +kernel), rfl, rfl⟩⟩), (by decide +kernel), (by decide +kernel),
    (.inl ⟨(by decide +kernel), rfl, rfl⟩)⟩⟩, ⟨.inp, (rq 7 0 0x80 84 0 (1 :: List.replicate 83 0)), none, 0, up, up,
    (.sessionHello .inp (rq 7 0 0x80 84 0 (1 :: List.replicate 83 0)), 7),
    ⟨(.tail _ (.tail _ (.tail _ (.tail _ (.tail _ (.tail _ (.head _))))))), (⟨⟨(by decide +kernel), (by decide +kernel),
    (by decide +kernel), (by decide +kernel), (by decide +kernel), (by decide +kernel), (by decide +kernel),
    rq_crcGood _ _ _ _ _ _ (by decide +kernel) (by decide +kernel), (by decide +kernel), (by decide +kernel)⟩,
    .inl ⟨(by decide +kernel), (by decide +kernel), rfl, rfl⟩⟩), (by decide +kernel), (by decide +kernel),
    (by decide +kernel)⟩⟩, ⟨.inp, (rq 0 0 0x80 0 0 []), none, ⟨0, 0, false, []⟩,
    { up with link := { up.link with host := { up.link.host with exp := 1, cache := [⟨0, 0, false, []⟩] } } },
    { up with link := { up.link with host := { up.link.host with exp := 1, cache := [⟨0, 0, false, []⟩] } } }, (.status .inp
    (rq 0 0 0x80 0 0 []), 0), ⟨(.head _), (⟨(by decide +kernel), .inl ⟨rfl, (by decide +kernel), rfl, rfl⟩⟩),
    (by decide +kernel), (⟨1, (by decide +kernel), (by decide +kernel), (by decide +kernel)⟩), (by decide +kernel)⟩⟩, ⟨.inp,
    (rq 0 0 0x80 0 0 []), none, { up with link := { up.link with host := { up.link.host with exp := 9 } } },
    { up with link := { up.link with host := { up.link.host with exp := 9 } } }, (.status .inp (rq 0 0 0x80 0 0 []), 0),
    ⟨(.head _), (⟨(by decide +kernel), .inl ⟨rfl, (by decide +kernel), rfl, rfl⟩⟩), (by decide +kernel),
    (by decide +kernel), (.inr (fun c h => nomatch h))⟩⟩, ⟨.inp, (rq 2 0 0x80 8 0x10000 [0, 0, 0, 0, 1, 0, 0, 0]), having up
    [(F.SYS_LINK_AUTHREQ_REQUIRE, 1)], (.write .inp (rq 2 0 0x80 8 0x10000 [0, 0, 0, 0, 1, 0, 0, 0]), 2),
    ⟨(.tail _ (.tail _ (.head _))), (⟨(by decide +kernel), .inl ⟨rfl, (by decide +kernel)⟩⟩)⟩⟩⟩

theorem witness_ReadyRequestsDoWhatTheyAsk : (∃ (r : Request) (s : State) (u : State) (w : Word), r.len = 4 ∧ s.parity =
  none ∧ s.hostRead (BitVec.toNat r.addr) = (none, w, u)) ∧ (∃ (r : Request) (s : State) (u : State), r.len = 4 ∧ s.parity =
  none ∧ BitVec.toNat r.addr % 4 = 0 ∧ s.needsAuth (BitVec.toNat r.addr) (BitVec.allOnes 32) (BitVec.ofNat 32 (leNat
  (List.take 4 r.body))) = false ∧ s.hostWord false (BitVec.toNat r.addr) (BitVec.allOnes 32) (BitVec.ofNat 32 (leNat
  (List.take 4 r.body))) = (none, u)) ∧ (∃ (r : Request) (s : State) (u : State), 4 ≤ s.phaseOf ∧ s.parity = none ∧
  BitVec.toNat r.addr % 4 = 0 ∧ s.needsAuth (BitVec.toNat r.addr) (BitVec.ofNat 32 (leNat (List.take 4 r.body)))
  (BitVec.ofNat 32 (leNat (List.take 4 (List.drop 4 r.body)))) = false ∧ s.hostWord false (BitVec.toNat r.addr)
  (BitVec.ofNat 32 (leNat (List.take 4 r.body))) (BitVec.ofNat 32 (leNat (List.take 4 (List.drop 4 r.body)))) = (none, u)) ∧
  (∃ (r : Request) (s : State) (n : Nat) (i : Nat), n = BitVec.toNat r.addr ∧ n < 16 ∧ r.body.length = 64 ∧ 4 ≤ s.phaseOf ∧
  s.laneIn n = true ∧ s.flag (F.LANE_CTRL_LEAD n) = false ∧ s.laneFull n = false ∧ 0 < s.laneSize n ∧ s.laneSize n ≤ 16384 ∧
  (∀ (i : Nat), i < 64 → s.deadPage (s.laneSlot n (s.get (F.LANE_HEAD_HEAD n)) + i) = false) ∧ i < r.body.length) ∧ (∃ (r :
  Request) (s : State) (n : Nat), n = BitVec.toNat r.addr ∧ n < 16 ∧ r.len = 64 ∧ 4 ≤ s.phaseOf ∧ s.laneOut n = true ∧
  s.laneLevel n ≠ 0 ∧ s.laneType n (s.get (F.LANE_TAIL_TAIL n)) ≠ 0 ∧ s.laneSize n ≤ 16384) ∧ (∃ (r : Request) (s : State)
  (x : Session), 4 ≤ s.phaseOf ∧ r.body = [3, 0, 0, 0] ∧ s.sec.session = some x ∧ s.kind Block.sec = 1) :=
⟨⟨rq 1 0 0x80 4 R.SYS_LINK_FWD [], up, (up.hostRead R.SYS_LINK_FWD).2.2, (up.hostRead R.SYS_LINK_FWD).2.1,
    (by decide +kernel)⟩, ⟨rq 2 0 0x80 4 R.SYS_TICK_BASE_LO [1, 2, 3, 4], up, (up.hostWord false R.SYS_TICK_BASE_LO
    (BitVec.allOnes 32) 0x04030201#32).2, (by decide +kernel)⟩, ⟨rq 3 0 0x80 8 R.SYS_TICK_BASE_LO [1, 2, 3, 4, 0, 0, 0, 1],
    up, (up.hostWord false R.SYS_TICK_BASE_LO 0x04030201#32 0x01000000#32).2, (by decide +kernel)⟩, ⟨rq 4 0 0x80 64 3
    (List.replicate 64 1), lane up 3 1, (BitVec.toNat (rq 4 0 0x80 64 3 (List.replicate 64 1)).addr), 3,
    (by decide +kernel)⟩, ⟨rq 5 0 0x80 64 2 [], ((lane up 2 0).put (F.LANE_HEAD_HEAD 2) 1).setByte ((lane up 2 0).laneSlot 2
    0 + 2) 9, (BitVec.toNat (rq 5 0 0x80 64 2 []).addr), (by decide +kernel)⟩, ⟨rq 7 0 0x80 4 0 [3, 0, 0, 0],
    { up with sec := { up.sec with session := some default } }, default, (by decide +kernel)⟩⟩

theorem witness_EnumGivesTheNextAddress : (∃ (p : Port) (r : Request) (s : State) (next : Byte) (pos : Byte), s.hears 6 r ∧
  r.fromHost = true ∧ r.len = 2 ∧ r.body = [next, pos] ∧ s.flag F.SYS_LINK_MODE_ENUMMODE = true ∧ s.hasAddr = false ∧
  BitVec.toNat next ≤ 63) ∧ (∃ (p : Port) (r : Request) (s : State) (next : Byte) (pos : Byte), s.hears 6 r ∧ r.fromHost =
  true ∧ r.len = 2 ∧ r.body = [next, pos] ∧ s.hasAddr = true) :=
⟨⟨.inp, rq 6 0x40 0x80 2 0 [7, 1], having up [(F.SYS_LINK_MODE_VALID, 0), (F.SYS_LINK_MODE_ENUMMODE, 1)], 7, 1,
    (by decide +kernel)⟩, ⟨.inp, rq 6 0x40 0x80 2 0 [7, 1], up, 7, 1, (by decide +kernel)⟩⟩

theorem witness_FramesForOthersGoOn : (∃ (p : Port) (b : List Byte) (opc : Byte) (r : Request) (s : State), parseFrame b 0 =
  some (opc, r) ∧ s.linkUp = true ∧ s.spi = false ∧ hcrc (r.headBytes opc) = r.hcrc ∧ (r.rpl = true ∨ r.bcast = false ∧
  crcGood opc r = true) ∧ (r.rpl = false → s.hasAddr = true → BitVec.toNat r.dev % 64 ≠ s.myAddr) ∧ s.origin r ≠
  Origin.self) ∧ (∃ (p : Port) (mask : Bool) (r : Request) (s : State) (opc : Byte) (u : State), (opc = if mask = true then
  3 else 2) ∧ s.hears opc r ∧ r.fromHost = true ∧ s.hasAddr = true ∧ s.flag F.SYS_LINK_AUTHREQ_REQUIRE = false ∧
  (((writeWords opc r).any fun w => s.needsAuth w.1 w.2.1 w.2.2) = false) ∧ BitVec.toNat r.seq ∉ s.link.host.bmem ∧
  shapeCode false opc r = none ∧ (s.passOn p (r.frame opc)).execute false false opc r =
  { err := none, payload := [], st := u }) :=
⟨⟨.inp, (rq 0 0x80 0x80 0 0 []).frame 0, 0, rq 0 0x80 0x80 0 0 [], up, (by decide +kernel)⟩, ⟨.inp, false, rq 2 0x40 0x80 4
    R.SYS_TICK_BASE_LO [1, 2, 3, 4], up, (if false = true then 3 else 2), ((up.passOn .inp ((rq 2 0x40 0x80 4
    R.SYS_TICK_BASE_LO [1, 2, 3, 4]).frame 2)).execute false false 2 (rq 2 0x40 0x80 4 R.SYS_TICK_BASE_LO [1, 2, 3, 4])).st,
    (by decide +kernel)⟩⟩

theorem witness_SpiTransactionCarriesOneRequest : (∃ (r : Request) (s : State), s.spi = true ∧ s.linkUp = true ∧ s.flag
  F.PWR_STAT_VIO_OK = true ∧ s.link.spiReply = [] ∧ r.auth = false ∧ r.body = [] ∧ r.trailer = []) ∧ (∃ (f : List Byte) (l :
  List (List Byte)) (n : Nat) (s : State), s.spi = true ∧ s.linkUp = true ∧ s.flag F.PWR_STAT_VIO_OK = true ∧
  s.link.spiReply = f :: l) ∧ (∃ (b : Byte) (l : List Byte) (s : State), s.spi = true ∧ s.linkUp = true ∧ s.flag
  F.PWR_STAT_VIO_OK = true ∧ s.link.spiReply = [] ∧ b ≠ 0 ∧ b ≠ 90) :=
⟨⟨rq 0 0 0x80 0 0 [], up.put F.SYS_LINK_MODE_LINKSEL 1, (by decide +kernel)⟩, ⟨[1, 2, 3], [], 2,
    { (up.put F.SYS_LINK_MODE_LINKSEL 1) with link := { up.link with spiReply := [[1, 2, 3]] } }, (by decide +kernel)⟩, ⟨1,
    [0], up.put F.SYS_LINK_MODE_LINKSEL 1, (by decide +kernel)⟩⟩

theorem witness_PortsLoseAndRegainLock : (∃ (p : Port) (s : State), s.ringUp = true ∧ s.get (portState p) = 2) ∧ (∃ (p :
  Port) (l : LinkProbe) (s : State), s.ringUp = true ∧ p ∉ s.link.wasDown ∧ s.get (portState p) ≠ 2) ∧ (∃ (p : Port) (i :
  Nat) (s : State), (List.find? (fun e => e.1 == p) s.link.lostAt = some (p, i)) ∧ s.passed i msec = true ∧ s.kind Block.evt
  = 1) ∧ (∃ (p : Port) (l : LinkProbe) (s : State), s.ringUp = true ∧ p ∈ s.link.wasDown ∧ s.kind Block.evt = 1) :=
⟨⟨.inp, up.put (portState .inp) 2, (by decide +kernel)⟩, ⟨.inp, ⟨55, [3]⟩, up.put (portState .inp) 1, (by decide +kernel)⟩,
    ⟨.inp, 1599984000, { up with link := { up.link with lostAt := [(.inp, 1599984000)] } }, (by decide +kernel)⟩, ⟨.inp,
    ⟨55, [3]⟩, { up with link := { up.link with wasDown := [.inp] } }, (by decide +kernel)⟩⟩

theorem witness_BadHeaderIsCountedAndDropped : (∃ (p : Port) (r : Request) (s : State) (co : Instr × Byte), co ∈
  [(Instr.status p r, 0), (Instr.read p r, 1), (Instr.write p r, 2), (Instr.writeMask p r, 3), (Instr.lanePush p r, 4),
  (Instr.lanePop p r, 5), (Instr.enum p r, 6), (Instr.sessionHello p r, 7), (Instr.sessionFinish p r, 7), (Instr.sessionEnd
  p r, 7), (Instr.broadcastRequest p false r, 2), (Instr.broadcastRequest p true r, 3)] ∧ s.linkUp = true ∧ s.spi = false ∧
  hcrc (r.headBytes co.2) ≠ r.hcrc) ∧ (∃ (p : Port) (b : List Byte) (opc : Byte) (r : Request) (s : State), s.linkUp = true
  ∧ s.spi = false ∧ parseFrame b 0 = some (opc, r) ∧ hcrc (r.headBytes opc) ≠ r.hcrc) ∧ (∃ (b : List Byte) (w : Nat) (r :
  Request) (s : State), s.linkUp = true ∧ s.spi = true ∧ s.flag F.PWR_STAT_VIO_OK = true ∧ s.link.spiReply = [] ∧ b =
  r.frame 0 ∧ r.auth = false ∧ r.body = [] ∧ r.trailer = [] ∧ hcrc (r.headBytes 0) ≠ r.hcrc) :=
⟨⟨.inp, { (rq 0 0 0x80 0 0 []) with hcrc := 1 }, up, (.status .inp { (rq 0 0 0x80 0 0 []) with hcrc := 1 }, 0),
    (by decide +kernel)⟩, ⟨.inp, ({ (rq 0 0 0x80 0 0 []) with hcrc := 1 } : Request).frame 0, 0,
    { (rq 0 0 0x80 0 0 []) with hcrc := 1 }, up, (by decide +kernel)⟩, ⟨(({ (rq 0 0 0x80 0 0 []) with hcrc := 1 }).frame 0),
    0, { (rq 0 0 0x80 0 0 []) with hcrc := 1 }, up.put F.SYS_LINK_MODE_LINKSEL 1, (by decide +kernel)⟩⟩

theorem witness_LeadSendsTickOnBothPorts : (∃ (d : BitVec 16) (s : State), s.isLead = true ∧ s.ringUp = true ∧ s.onGrid 4000
  = true ∧ s.now / 4000 % 256 = 0) ∧ (∃ (d : BitVec 16) (s : State), s.onGrid 4000 = false) :=
⟨⟨0, { lead with tag := 1601536000 }, (by decide +kernel)⟩, ⟨0, { up with tag := 1 }, (by decide +kernel)⟩⟩

theorem witness_TickAlignsSatellites : (∃ (p : Port) (c : Byte) (d : BitVec 16) (s : State), s.ringUp = true ∧ s.isSat =
  false) ∧ (∃ (p : Port) (c : Byte) (d : BitVec 16) (s : State), s.ringUp = true ∧ s.isSat = true ∧ s.link.ticked = true ∧
  s.flag F.SYS_LINK_STATE_TICKOK = true ∧ BitVec.toNat c ≠ 0 ∧ BitVec.toNat c = s.get F.SYS_LINK_STATE_TICKCNT + 1) ∧ (∃ (s
  : State), s.isSat = true ∧ s.link.tickLost = false ∧ s.passed s.link.tickAt msec = true ∧ s.kind Block.evt = 1 ∧
  s.str.satOn = []) ∧ (∃ (s : State), s.isLead = true ∧ s.ringUp = true ∧ s.link.bcastSeq < 256) :=
⟨⟨.inp, 4, 100, up, (by decide +kernel)⟩, ⟨.inp, 4, 100,
    { (having sat [(F.SYS_LINK_STATE_TICKOK, 1), (F.SYS_LINK_STATE_TICKCNT, 3)]) with link := { sat.link with ticked := true } },
    (by decide +kernel)⟩, ⟨sat, (by decide +kernel)⟩, ⟨lead, (by decide +kernel)⟩⟩

theorem witness_ReturnedLeadRequestIsCounted : (∃ (a : Fin 64) (s : State), s.isLead = true ∧ s.ringUp = true ∧ s.kind
  Block.evt = 1 ∧ (s.str.sats.get a.val).inFlight = []) ∧ (∃ (h : Hello) (s : State), s.sec.hello = some h) :=
⟨⟨3, lead, (by decide +kernel)⟩, ⟨{ (default : Hello) with since := 7 },
    { up with sec := { up.sec with hello := some { (default : Hello) with since := 7 } } }, (by decide +kernel)⟩⟩

theorem witness_SessionHandshakeKeysTheSession : (∃ (m : List Byte) (h : Hello) (s : State), m.head? = some 1 ∧ s.hostKey ≠
  0 ∧ s.sec.healthy = true ∧ s.secRuns = true ∧ h =
  { priv := Config.trng s.draws, qh := List.take 64 (List.drop 4 m), nh := List.take 16 (List.drop 68 m), qd := leBytes 64 (Config.publicKey (Config.trng s.draws)).toNat, nd := leBytes 16 (Config.trng (s.draws + 1)).toNat, salt := leBytes 4 (Config.trng (s.draws + 2)).toNat, since := s.clk })
  ∧ (∃ (m : List Byte) (s : State), m.head? = some 1 ∧ (s.hostKey = 0 ∨ s.sec.healthy = false ∨ s.secRuns = false) ∧ (s.kind
  Block.sec = 1 ∨ s.kind Block.sec = 2)) ∧ (∃ (m : List Byte) (h : Hello) (s : State), m.head? = some 2 ∧ s.sec.hello = some
  h ∧ s.clk ≤ h.since + second ∧ s.sec.session = none) ∧ (∃ (m : List Byte) (h : Hello) (s : State), m.head? = some 2 ∧
  s.sec.hello = some h ∧ s.clk ≤ h.since + second ∧ s.sec.session ≠ none ∧ s.kind Block.sec = 1) ∧ (∃ (m : List Byte) (s :
  State), m.head? = some 2 ∧ s.kind Block.sec = 1 ∧ (∀ (h : Hello), s.sec.hello = some h → h.since + second < s.clk ∨
  Config.ecdsaVerify s.hostKey (Config.sha256 (h.qd ++ h.nd ++ h.qh ++ h.nh ++ h.salt)) (key512 (List.drop 4 m)) = false))
  :=
⟨⟨[1], _, { up.setNat (R.SEC_HOST_KEY 0) 7 with sec := { up.sec with healthy := true } }, ⟨(by decide +kernel),
    (by decide +kernel), (by decide +kernel), (by decide +kernel), (rfl)⟩⟩, ⟨[1], up, (by decide +kernel)⟩, ⟨[2],
    { (default : Hello) with since := 1600000000 },
    { up with sec := { up.sec with hello := some { (default : Hello) with since := 1600000000 } } }, (by decide +kernel)⟩,
    ⟨[2], { (default : Hello) with since := 1600000000 },
    { up with sec := { up.sec with session := some default, hello := some { (default : Hello) with since := 1600000000 } } },
    (by decide +kernel)⟩, ⟨[2], { up.setNat (R.SEC_HOST_KEY 0) 7 with sec := { up.sec with healthy := true } },
    (by decide +kernel)⟩⟩

theorem witness_RefusedRegisterWriteChangesNothing : (∃ (auth : Bool) (a : Word) (v : Word) (c : ErrCode) (s : State),
  BitVec.toNat a % 4 = 0 ∧ (s.needsAuth (BitVec.toNat a) (BitVec.allOnes 32) v && !auth) = false ∧ s.parity ≠ some 0 ∧ 65536
  ≤ BitVec.toNat a ∧ BitVec.toNat a < 1441792 ∧ s.regCode auth (BitVec.toNat a) (BitVec.allOnes 32) v = some c ∧ c ≠
  ErrCode.openreq) ∧ (∃ (auth : Bool) (a : Word) (v : Word) (c : ErrCode) (s : State), BitVec.toNat a % 4 = 0 ∧ (s.needsAuth
  (BitVec.toNat a) (BitVec.allOnes 32) v && !auth) = false ∧ s.parity ≠ some 0 ∧ 65536 ≤ BitVec.toNat a ∧ BitVec.toNat a <
  1441792 ∧ s.regCode auth (BitVec.toNat a) (BitVec.allOnes 32) v = some c ∧ c = ErrCode.openreq) ∧ (∃ (auth : Bool) (v :
  Word) (s : State), s.admits auth R.SYS_TICK_BASE_LO (BitVec.allOnes 32) v) ∧ (∃ (auth : Bool) (a : Word) (v : Word) (s :
  State) (k : Nat), quietWord (BitVec.toNat a) = true ∧ s.admits auth (BitVec.toNat a) (BitVec.allOnes 32) v ∧ k < 32 ∧
  s.bitIs (BitVec.toNat a) k [Access.rw, Access.rwl, Access.rwo] = true ∧ nbit (s.boundBits (BitVec.toNat a)) k = false) ∧
  (∃ (auth : Bool) (a : Word) (v : Word) (s : State) (k : Nat), quietWord (BitVec.toNat a) = true ∧ s.admits auth
  (BitVec.toNat a) (BitVec.allOnes 32) v ∧ k < 32 ∧ s.bitIs (BitVec.toNat a) k [Access.w1c] = true ∧ nbit (s.safeHolds
  (BitVec.toNat a)) k = false) :=
⟨⟨false, 0x12000, 1, .denied, State.reset, (by decide +kernel)⟩, ⟨false, BitVec.ofNat 32 (R.SOL_CH_CFG 0), BitVec.ofNat 32
    (1 * 2 ^ (F.SOL_CH_CFG_MODE 0).lo), (ErrCode.openreq), up.put (F.SOL_CH_CTRL_EN 0) 1, (by decide +kernel)⟩, ⟨false, 77,
    up, (by decide +kernel)⟩, ⟨false, BitVec.ofNat 32 (R.CTL_LOOP_KP 0), 5, up, 0, (by decide +kernel)⟩, ⟨false,
    BitVec.ofNat 32 (H.sticky .plb), 1, up, 0, (by decide +kernel)⟩⟩

theorem witness_RefusedRegisterWriteChangesNothing_2 : (∃ (auth : Bool) (a : Word) (v : Word) (s : State) (k : Nat),
  quietWord (BitVec.toNat a) = true ∧ s.admits auth (BitVec.toNat a) (BitVec.allOnes 32) v ∧ k < 32 ∧ (s.bitIs (BitVec.toNat
  a) k [Access.rw, Access.rwl, Access.rwo] = false ∨ nbit (s.boundBits (BitVec.toNat a)) k = true) ∧ (s.bitIs (BitVec.toNat
  a) k [Access.w1c] = false ∨ nbit (s.safeHolds (BitVec.toNat a)) k = true)) ∧ (∃ (auth : Bool) (a : Word) (v : Word) (s :
  State), 36 ≤ BitVec.toNat a % 65536 ∧ fieldsAt (BitVec.toNat a) = [] ∧ quietWord (BitVec.toNat a) = true ∧ s.admits auth
  (BitVec.toNat a) (BitVec.allOnes 32) v) ∧ (∃ (auth : Bool) (k : Nat) (a : Word) (v : Word) (s : State), (k < 64 ∧ a =
  BitVec.ofNat 32 (R.SEC_STAGE k) ∨ k < 8192 ∧ (a = BitVec.ofNat 32 (R.SEC_WIN k) ∨ a = BitVec.ofNat 32 (R.CFG_WIN k))) ∧
  s.admits auth (BitVec.toNat a) (BitVec.allOnes 32) v) ∧ (∃ (auth : Bool) (a : Word) (v : Word) (s : State), 4 ≤ s.phaseOf
  ∧ s.parity ≠ some 0 ∧ BitVec.toNat a % 4 = 0 ∧ 436207616 ≤ BitVec.toNat a ∧ BitVec.toNat a < 520093696 ∧ s.deadPage
  (BitVec.toNat a) = false) :=
⟨⟨false, 0x12000, 0x12000, up.put (F.SOL_CH_CTRL_EN 0) 1, 0, (by decide +kernel)⟩, ⟨false, BitVec.ofNat 32 (Block.plb.index
    * 65536 + 0xF000), 1, up, (by decide +kernel)⟩, ⟨true, 0, BitVec.ofNat 32 (R.SEC_STAGE 0), 5, up, (by decide +kernel)⟩,
    ⟨false, 0x1A000000, 0, up, (by decide +kernel)⟩⟩

theorem witness_BlockControlTakesEffect : (∃ (b : Block) (s : State), b ∈ [Block.sys, Block.evt, Block.arm] ∧ s.admits false
  (H.ctrl b) 1 0) ∧ (∃ (b : Block) (s : State), s.admits false (H.ctrl b) 1 1) ∧ (∃ (b : Block) (s : State), s.admits false
  (H.ctrl b) 4 4 ∧ s.flag (H.shadowBit b) = true) ∧ (∃ (b : Block) (s : State), s.admits false (H.ctrl b) 4 4 ∧ s.flag
  (H.shadowBit b) = false) ∧ (∃ (b : Block) (s : State), s.admits false (H.ctrl b) 4 0) ∧ (∃ (b : Block) (s : State),
  s.admits false (H.ctrl b) 2 2 ∧ b ≠ Block.sys) ∧ (∃ (s : State), s.admits false (H.ctrl Block.sys) 2 2) :=
⟨⟨.evt, up, (by decide +kernel)⟩, ⟨.mem, up, (by decide +kernel)⟩, ⟨.fbk, up.put (H.shadowBit .fbk) 1, (by decide +kernel)⟩,
    ⟨.mem, up, (by decide +kernel)⟩, ⟨.mem, up, (by decide +kernel)⟩, ⟨.mem, up, (by decide +kernel)⟩, ⟨up,
    (by decide +kernel)⟩⟩

theorem witness_BlockControlTakesEffect_2 : (∃ (auth : Bool) (s : State), s.admits auth (H.ctrl Block.sys) (BitVec.allOnes
  32) (BitVec.ofNat 32 (s.nat (H.ctrl Block.sys) &&& 5 ||| 2))) ∧ (∃ (b : Block) (s : State), s.admits false (hdr b 28) 256
  256) ∧ (∃ (b : Block) (s : State), s.headerFree b (H.ctrl b) ∧ b ≠ Block.sec) ∧ (∃ (b : Block) (s : State), s.headerFree b
  (H.ctrl b) ∧ s.gatedBlock b = false) ∧ (∃ (b : Block) (on : Bool) (s : State), s.headerFree b (H.ctrl b)) ∧ (∃ (b : Block)
  (s : State) (a : Nat), b ∈ [Block.mem, Block.plb] ∧ s.headerFree b (H.ctrl b) ∧ s.cfg.footing = none ∧ s.cfg.cur = none ∧
  s.cfg.prev = none ∧ a / 65536 = b.index) ∧ (∃ (b : Block) (s : State), s.headerFree b (hdr b 28)) :=
⟨⟨false, up, (by decide +kernel)⟩, ⟨.mem, up, (by decide +kernel)⟩, ⟨.mem, up, (by decide +kernel)⟩, ⟨.mem, up,
    (by decide +kernel)⟩, ⟨.mem, false, up, (by decide +kernel)⟩, ⟨.plb, up, Block.plb.index * 65536, (by decide +kernel)⟩,
    ⟨.mem, up, (by decide +kernel)⟩⟩

theorem witness_ShadowsHoldOneInstant : (∃ (b : Block) (s : State) (a : Nat), a ∈ shadowedRegs b) ∧ (∃ (b : Block) (s :
  State) (a : Nat), a ∉ shadowedRegs b) ∧ (∃ (b : Block) (s : State) (a : Nat), a / 65536 = b.index) ∧ (∃ (b : Block) (s :
  State) (a : Nat), a / 65536 ≠ b.index) :=
⟨⟨.gnss, up, R.GNSS_CH_STATE 0, (by decide +kernel)⟩, ⟨.gnss, up, R.GNSS_CH_CTRL 0, (by decide +kernel)⟩, ⟨.gnss, up,
    R.GNSS_CH_STATE 0, (by decide +kernel)⟩, ⟨.gnss, up, R.NAV_TIME_ERR, (by decide +kernel)⟩⟩

theorem witness_EventClearClearsWhatIsWrittenAsOne : (∃ (b : Block) (mask : Word) (s : State) (i : Nat), s.admitsSet (H.evt
  b) (BitVec.toNat mask) ∧ i < 16) ∧ (∃ (mask : Word) (s : State) (i : Nat), s.admitsSet R.SOL_EVT_HI (BitVec.toNat mask) ∧
  i < 16) :=
⟨⟨.fbk, 6, up.put (evBit 81) 1, 0, (by decide +kernel)⟩, ⟨6, up.put (evBit 81) 1, 0, (by decide +kernel)⟩⟩

theorem witness_LanePointersAndProducersMove : (∃ (n : Fin 16) (v : Word) (l : List Nat) (s : State), s.admitsSet
  (R.LANE_HEAD n.val) (BitVec.toNat v) ∧ (l = List.filter (fun j => s.deadPage (s.laneSlot n.val ((s.get (F.LANE_HEAD_HEAD
  n.val) + j) % s.laneSize n.val))) (List.range ((BitVec.toNat v % 2 ^ 14 + s.laneSize n.val - s.get (F.LANE_HEAD_HEAD
  n.val)) % s.laneSize n.val))) ∧ l = []) ∧ (∃ (n : Fin 16) (v : Word) (l : List Nat) (s : State), s.admitsSet (R.LANE_HEAD
  n.val) (BitVec.toNat v) ∧ (l = List.filter (fun j => s.deadPage (s.laneSlot n.val ((s.get (F.LANE_HEAD_HEAD n.val) + j) %
  s.laneSize n.val))) (List.range ((BitVec.toNat v % 2 ^ 14 + s.laneSize n.val - s.get (F.LANE_HEAD_HEAD n.val)) %
  s.laneSize n.val))) ∧ l ≠ [] ∧ BitVec.toNat v % 2 ^ 14 ≠ s.get (F.LANE_HEAD_HEAD n.val) ∧ s.kind Block.lane = 1) ∧ (∃ (n :
  Fin 16) (v : Word) (s : State), s.admitsSet (R.LANE_TAIL n.val) (BitVec.toNat v)) ∧ (∃ (n : Fin 16) (v : Word) (s :
  State), s.admitsSet (R.LANE_CTRL n.val) (BitVec.toNat v) ∧ (s.flag (F.LANE_CTRL_EN n.val) = true → BitVec.getLsbD v 0 =
  true) ∧ takeField v 1 2 = takeField (s.word (R.LANE_CTRL n.val)) 1 2) ∧ (∃ (n : Fin 16) (v : Word) (s : State),
  s.admitsSet (R.LANE_CTRL n.val) (BitVec.toNat v) ∧ (s.flag (F.LANE_CTRL_EN n.val) = true → BitVec.getLsbD v 0 = true) ∧
  takeField v 1 2 ≠ takeField (s.word (R.LANE_CTRL n.val)) 1 2) ∧ (∃ (n : Fin 16) (v : Word) (s : State), s.admitsSet
  (R.LANE_CTRL n.val) (BitVec.toNat v) ∧ s.flag (F.LANE_CTRL_EN n.val) = true ∧ BitVec.getLsbD v 0 = false ∧ takeField v 1 2
  = takeField (s.word (R.LANE_CTRL n.val)) 1 2 ∧ s.kind Block.lane = 1 ∧ s.laneLevel n.val ≠ 0 ∧ (s.lanes.get n.val).held =
  [] ∧ n ≠ 2 ∧ n ≠ 4 ∧ n ≠ 7) :=
⟨⟨3, 2, (List.filter (fun j => (lane up 3 1).deadPage ((lane up 3 1).laneSlot (3) (((lane up 3 1).get (F.LANE_HEAD_HEAD 3) +
    j) % (lane up 3 1).laneSize 3))) (List.range ((2 % 2 ^ 14 + (lane up 3 1).laneSize 3 - (lane up 3 1).get
    (F.LANE_HEAD_HEAD 3)) % (lane up 3 1).laneSize 3))), lane up 3 1, (by decide +kernel)⟩, ⟨6, 2, [0, 1],
    { lane up 6 1 with memCare := { up.memCare with dead := [(lane up 6 1).laneSlot 6 0 / 4096] } }, (by decide +kernel)⟩,
    ⟨2, 1, (lane up 2 0).put (F.LANE_HEAD_HEAD 2) 3, (by decide +kernel)⟩, ⟨2, 1, (lane up 2 0).put (F.LANE_HEAD_HEAD 2) 3,
    (by decide +kernel)⟩, ⟨3, 2, (lane up 2 0).put (F.LANE_HEAD_HEAD 2) 3, (by decide +kernel)⟩, ⟨0, 2, (entry up 0 [0, 0,
    2]).put (H.enable .cfg) 0, (by decide +kernel)⟩⟩

theorem witness_LanePointersAndProducersMove_2 : (∃ (v : Word) (s : State), s.isSat = false ∧ s.admitsSet R.SYS_TICK_BASE_HI
  (BitVec.toNat v)) ∧ (∃ (v : Word) (base : Nat) (s : State), s.isSat = true ∧ s.flag F.SYS_LINK_STATE_TICKOK = true ∧
  s.admitsSet R.SYS_TICK_BASE_HI (BitVec.toNat v) ∧ base = s.nat R.SYS_TICK_BASE_LO + 2 ^ 32 * BitVec.toNat v ∧ base =
  s.link.tickTag) ∧ (∃ (v : Word) (base : Nat) (s : State), s.isSat = true ∧ s.flag F.SYS_LINK_STATE_TICKOK = true ∧
  s.admitsSet R.SYS_TICK_BASE_HI (BitVec.toNat v) ∧ base = s.nat R.SYS_TICK_BASE_LO + 2 ^ 32 * BitVec.toNat v ∧ base ≠
  s.link.tickTag ∧ s.kind Block.evt = 1) ∧ (∃ (n : Nat) (s : State), s.laneOut n = false) ∧ (∃ (n : Fin 16) (h : Nat) (k :
  Nat) (x : LaneState) (s : State) (m : Nat), s.laneOut n.val = true ∧ laneSizeOk (s.laneSize n.val) = true ∧ laneFits
  (s.get (F.LANE_BASE n.val)) (s.laneSize n.val) = true ∧ h = s.get (F.LANE_HEAD_HEAD n.val) ∧ h < s.laneSize n.val ∧ s.get
  (F.LANE_TAIL_TAIL n.val) < s.laneSize n.val ∧ x = s.lanes.get n.val ∧ k = min x.held.length (s.laneSize n.val - 1 -
  s.laneLevel n.val) ∧ (∀ (j : Nat), j < k → ∀ (i : Nat), i < 64 → s.deadPage (s.laneSlot n.val ((h + j) % s.laneSize n.val)
  + i) = false) ∧ m ≠ n.val) ∧ (∃ (n : Fin 16) (h : Nat) (k : Nat) (x : LaneState) (s : State) (j : Nat) (e : HeldEntry),
  s.laneOut n.val = true ∧ laneSizeOk (s.laneSize n.val) = true ∧ laneFits (s.get (F.LANE_BASE n.val)) (s.laneSize n.val) =
  true ∧ h = s.get (F.LANE_HEAD_HEAD n.val) ∧ h < s.laneSize n.val ∧ s.get (F.LANE_TAIL_TAIL n.val) < s.laneSize n.val ∧ x =
  s.lanes.get n.val ∧ k = min x.held.length (s.laneSize n.val - 1 - s.laneLevel n.val) ∧ (∀ (j : Nat), j < k → ∀ (i : Nat),
  i < 64 → s.deadPage (s.laneSlot n.val ((h + j) % s.laneSize n.val) + i) = false) ∧ j < k ∧ x.held[j]? = some e) :=
⟨⟨2, lane up 3 1, (by decide +kernel)⟩, ⟨0, ((sat.put F.SYS_LINK_STATE_TICKOK 1).nat R.SYS_TICK_BASE_LO + 2 ^ 32 * 0),
    sat.put F.SYS_LINK_STATE_TICKOK 1, (by decide +kernel)⟩, ⟨2, ((sat.put F.SYS_LINK_STATE_TICKOK 1).nat R.SYS_TICK_BASE_LO
    + 2 ^ 32 * 2), sat.put F.SYS_LINK_STATE_TICKOK 1, (by decide +kernel)⟩, ⟨0, lane up 3 1, (by decide +kernel)⟩, ⟨2,
    (((lane up 2 0).put (F.LANE_HEAD_HEAD 2) 3).get (F.LANE_HEAD_HEAD 2)), (min (((lane up 2 0).put (F.LANE_HEAD_HEAD 2)
    3).lanes.get 2).held.length (((lane up 2 0).put (F.LANE_HEAD_HEAD 2) 3).laneSize 2 - 1 - ((lane up 2 0).put
    (F.LANE_HEAD_HEAD 2) 3).laneLevel 2)), (((lane up 2 0).put (F.LANE_HEAD_HEAD 2) 3).lanes.get 2), (lane up 2 0).put
    (F.LANE_HEAD_HEAD 2) 3, 0, (by decide +kernel)⟩, ⟨5, ((st4).get (F.LANE_HEAD_HEAD 5)), (min ((st4).lanes.get
    5).held.length ((st4).laneSize 5 - 1 - (st4).laneLevel 5)), ((st4).lanes.get 5), st4, 0, ⟨0, []⟩, (by decide +kernel)⟩⟩

theorem witness_LanePointersAndProducersMove_3 : (∃ (n : Fin 16) (h : Nat) (k : Nat) (x : LaneState) (s : State) (c : Nat),
  s.laneOut n.val = true ∧ laneSizeOk (s.laneSize n.val) = true ∧ laneFits (s.get (F.LANE_BASE n.val)) (s.laneSize n.val) =
  true ∧ h = s.get (F.LANE_HEAD_HEAD n.val) ∧ h < s.laneSize n.val ∧ s.get (F.LANE_TAIL_TAIL n.val) < s.laneSize n.val ∧ x =
  s.lanes.get n.val ∧ k = min x.held.length (s.laneSize n.val - 1 - s.laneLevel n.val) ∧ (∀ (j : Nat), j < k → ∀ (i : Nat),
  i < 64 → s.deadPage (s.laneSlot n.val ((h + j) % s.laneSize n.val) + i) = false) ∧ (∀ (j : Nat), j < k → c < s.laneSlot
  n.val ((h + j) % s.laneSize n.val) ∨ s.laneSlot n.val ((h + j) % s.laneSize n.val) + 64 ≤ c)) ∧ (∃ (s : State), (s.present
  Block.cfg = false ∨ s.laneIn 0 = false ∨ s.laneLevel 0 = 0)) ∧ (∃ (s : State), s.present Block.cfg = true ∧ s.laneIn 0 =
  true ∧ s.laneLevel 0 ≠ 0 ∧ (s.enabled Block.cfg = false ∨ bulkWords (s.bytes (s.laneSlot 0 (s.get (F.LANE_TAIL_TAIL 0)))
  64) = none)) ∧ (∃ (ws : List (Nat × Word × Word)) (e : List Byte) (s : State) (u : State) (v : State), s.present Block.cfg
  = true ∧ s.enabled Block.cfg = true ∧ s.laneIn 0 = true ∧ s.laneLevel 0 ≠ 0 ∧ e = s.bytes (s.laneSlot 0 (s.get
  (F.LANE_TAIL_TAIL 0))) 64 ∧ bulkWords e = some ws ∧ (e.getD 2 0 = 1 → leNat (List.take 4 (List.drop 8 e)) % 4096 + 4 *
  ws.length ≤ 4096) ∧ u = s.put (F.LANE_TAIL_TAIL 0) (s.laneNext 0 (s.get (F.LANE_TAIL_TAIL 0))) ∧ State.hostWords false
  none ws 0 u = (none, v)) ∧ (∃ (ws : List (Nat × Word × Word)) (e : List Byte) (s : State) (u : State) (v : State) (c :
  ErrCode) (i : Nat), s.present Block.cfg = true ∧ s.enabled Block.cfg = true ∧ s.laneIn 0 = true ∧ s.laneLevel 0 ≠ 0 ∧ e =
  s.bytes (s.laneSlot 0 (s.get (F.LANE_TAIL_TAIL 0))) 64 ∧ bulkWords e = some ws ∧ (e.getD 2 0 = 1 → leNat (List.take 4
  (List.drop 8 e)) % 4096 + 4 * ws.length ≤ 4096) ∧ u = s.put (F.LANE_TAIL_TAIL 0) (s.laneNext 0 (s.get (F.LANE_TAIL_TAIL
  0))) ∧ State.hostWords false none ws 0 u = (some (c, i), v)) :=
⟨⟨2, (((lane up 2 0).put (F.LANE_HEAD_HEAD 2) 3).get (F.LANE_HEAD_HEAD 2)), (min (((lane up 2 0).put (F.LANE_HEAD_HEAD 2)
    3).lanes.get 2).held.length (((lane up 2 0).put (F.LANE_HEAD_HEAD 2) 3).laneSize 2 - 1 - ((lane up 2 0).put
    (F.LANE_HEAD_HEAD 2) 3).laneLevel 2)), (((lane up 2 0).put (F.LANE_HEAD_HEAD 2) 3).lanes.get 2), (lane up 2 0).put
    (F.LANE_HEAD_HEAD 2) 3, 0, (by decide +kernel)⟩, ⟨lane up 0 1, (by decide +kernel)⟩, ⟨(entry up 0 [0, 0, 2]).put
    (H.enable .cfg) 0, (by decide +kernel)⟩, ⟨[(R.SYS_TICK_BASE_LO, 255#32, 9#32)], padTo 64 ([0, 0, 2, 0, 1, 0, 0, 0] ++
    leBytes 4 R.SYS_TICK_BASE_LO ++ leBytes 4 255 ++ leBytes 4 9), entry up 0 ([0, 0, 2, 0, 1, 0, 0, 0] ++ leBytes 4
    R.SYS_TICK_BASE_LO ++ leBytes 4 255 ++ leBytes 4 9), (entry up 0 ([0, 0, 2, 0, 1, 0, 0, 0] ++ leBytes 4
    R.SYS_TICK_BASE_LO ++ leBytes 4 255 ++ leBytes 4 9)).put (F.LANE_TAIL_TAIL 0) 1, (State.hostWords false none
    [(R.SYS_TICK_BASE_LO, 255#32, 9#32)] 0 ((entry up 0 ([0, 0, 2, 0, 1, 0, 0, 0] ++ leBytes 4 R.SYS_TICK_BASE_LO ++ leBytes
    4 255 ++ leBytes 4 9)).put (F.LANE_TAIL_TAIL 0) 1)).2, ⟨(by decide +kernel), (by decide +kernel), (by decide +kernel),
    (by decide +kernel), (by decide +kernel), (by decide +kernel), (by decide +kernel),
    (congrArg (State.put _ _) (by decide +kernel)), (Prod.ext (by decide +kernel) rfl)⟩⟩, ⟨[(R.CFG_PERSONALITY, 255#32,
    9#32)], padTo 64 ([0, 0, 2, 0, 1, 0, 0, 0] ++ leBytes 4 R.CFG_PERSONALITY ++ leBytes 4 255 ++ leBytes 4 9), entry up 0
    ([0, 0, 2, 0, 1, 0, 0, 0] ++ leBytes 4 R.CFG_PERSONALITY ++ leBytes 4 255 ++ leBytes 4 9), (entry up 0 ([0, 0, 2, 0, 1,
    0, 0, 0] ++ leBytes 4 R.CFG_PERSONALITY ++ leBytes 4 255 ++ leBytes 4 9)).put (F.LANE_TAIL_TAIL 0) 1, (State.hostWords
    false none [(R.CFG_PERSONALITY, 255#32, 9#32)] 0 ((entry up 0 ([0, 0, 2, 0, 1, 0, 0, 0] ++ leBytes 4 R.CFG_PERSONALITY
    ++ leBytes 4 255 ++ leBytes 4 9)).put (F.LANE_TAIL_TAIL 0) 1)).2, .locked, 0, ⟨(by decide +kernel), (by decide +kernel),
    (by decide +kernel), (by decide +kernel), (by decide +kernel), (by decide +kernel), (by decide +kernel),
    (congrArg (State.put _ _) (by decide +kernel)), (Prod.ext (by decide +kernel) rfl)⟩⟩⟩

theorem witness_CourseChangesStartQueueAndFinish : (∃ (slot : BitVec 4) (s : State), s.admitsSet R.CFG_COURSE_REQ slot.toNat
  ∧ s.flag F.CFG_COURSE_STAT_BUSY = true) ∧ (∃ (slot : BitVec 4) (s : State) (b : Block), s.admitsSet R.CFG_COURSE_REQ
  slot.toNat ∧ s.flag F.CFG_COURSE_STAT_BUSY = false ∧ b ∈ allBlocks) ∧ (∃ (b : Block) (s : State), (s.flag
  F.CFG_COURSE_STAT_BUSY = false ∨ s.coursePends b = false ∨ s.gatedBlock b = true ∨ s.safePoint b = false)) ∧ (∃ (b :
  Block) (s : State), s.flag F.CFG_COURSE_STAT_BUSY = true ∧ s.coursePends b = true ∧ s.gatedBlock b = false ∧ s.safePoint b
  = true ∧ b ≠ Block.can ∧ b ≠ Block.pace) ∧ (∃ (b : Block) (s : State), s.flag F.CFG_COURSE_STAT_BUSY = true ∧
  s.coursePends b = true ∧ s.gatedBlock b = false ∧ s.safePoint b = true ∧ (b = Block.can → s.cfg.canLate = [] ∧
  s.canInFlight = []) ∧ (b = Block.pace → s.cfg.paceLate = [] ∧ ∀ (u : Nat), u < 20 → s.enabled Block.pace = false ∨
  s.paceUnitDue u = true) ∧ b ≠ Block.hsw ∧ s.courseEntries s.cfg.cur b = [] ∧ (∀ (c : Course), s.cfg.prev = some c ∨ c ∈
  List.filterMap (fun x => x.2) s.cfg.courses → entriesOf b c.sets = []) ∧ (∀ (f : Footing), s.cfg.footing = some f →
  entriesOf b f.sets = []) ∧ setBit (s.nat R.CFG_COURSE_PEND) b.index false ≠ 0) ∧ (∃ (b : Block) (s : State), s.flag
  F.CFG_COURSE_STAT_BUSY = true ∧ s.coursePends b = true ∧ s.gatedBlock b = false ∧ s.safePoint b = true ∧ (b = Block.can →
  s.cfg.canLate = [] ∧ s.canInFlight = []) ∧ (b = Block.pace → s.cfg.paceLate = [] ∧ ∀ (u : Nat), u < 20 → s.enabled
  Block.pace = false ∨ s.paceUnitDue u = true) ∧ b ≠ Block.hsw ∧ s.courseEntries s.cfg.cur b = [] ∧ (∀ (c : Course),
  s.cfg.prev = some c ∨ c ∈ List.filterMap (fun x => x.2) s.cfg.courses → entriesOf b c.sets = []) ∧ (∀ (f : Footing),
  s.cfg.footing = some f → entriesOf b f.sets = []) ∧ setBit (s.nat R.CFG_COURSE_PEND) b.index false = 0 ∧ s.flag
  F.CFG_COURSE_STAT_QVALID = false ∧ s.kind Block.cfg = 1) ∧ (∃ (s : State), s.flag F.CFG_COURSE_STAT_BUSY = true ∧
  s.cfg.crsTmo = false ∧ s.passed s.cfg.crsAt (s.nat R.CFG_COURSE_TMO % 65536 * msec) = true ∧ s.kind Block.cfg = 1) ∧ (∃ (s
  : State), (s.flag F.CFG_COURSE_STAT_BUSY = false ∨ s.cfg.crsTmo = true ∨ s.passed s.cfg.crsAt (s.nat R.CFG_COURSE_TMO %
  65536 * msec) = false)) :=
⟨⟨0, having up [(F.CFG_COURSE_STAT_BUSY, 1)], (by decide +kernel)⟩, ⟨0, up, .mem, (by decide +kernel)⟩, ⟨.mem, having up
    [(F.CFG_COURSE_STAT_BUSY, 1)], (by decide +kernel)⟩, ⟨.mem, (having up [(F.CFG_COURSE_STAT_BUSY, 1)]).setNat
    R.CFG_COURSE_PEND (2 ^ Block.mem.index + 1), (by decide +kernel)⟩, ⟨.mem, (having up [(F.CFG_COURSE_STAT_BUSY,
    1)]).setNat R.CFG_COURSE_PEND (2 ^ Block.mem.index + 2 ^ Block.plb.index), ⟨(by decide +kernel), (by decide +kernel),
    (by decide +kernel), (by decide +kernel), (fun h => nomatch h), (fun h => nomatch h), (by decide +kernel),
    (by decide +kernel),
    (fun c h => h.elim (fun e => nomatch (show (none : Option Course) = some c from e)) (fun e => nomatch (show c ∈ ([] : List Course) from e))),
    (fun f h => nomatch (show (none : Option Footing) = some f from h)), (by decide +kernel)⟩⟩, ⟨.mem, (having up
    [(F.CFG_COURSE_STAT_BUSY, 1)]).setNat R.CFG_COURSE_PEND (2 ^ Block.mem.index), ⟨(by decide +kernel),
    (by decide +kernel), (by decide +kernel), (by decide +kernel), (fun h => nomatch h), (fun h => nomatch h),
    (by decide +kernel), (by decide +kernel),
    (fun c h => h.elim (fun e => nomatch (show (none : Option Course) = some c from e)) (fun e => nomatch (show c ∈ ([] : List Course) from e))),
    (fun f h => nomatch (show (none : Option Footing) = some f from h)), (by decide +kernel), (by decide +kernel),
    (by decide +kernel)⟩⟩, ⟨having up [(F.CFG_COURSE_STAT_BUSY, 1)], (by decide +kernel)⟩, ⟨up, (by decide +kernel)⟩⟩

theorem witness_ImageCommandsRunAndReport : (∃ (s : State), s.admitsSet R.CFG_IMG_CMD 1) ∧ (∃ (s : State), s.admitsSet
  R.CFG_IMG_CMD 2) ∧ (∃ (s : State), s.admitsSet R.CFG_IMG_CMD 3) ∧ (∃ (slot : BitVec 4) (s : State), s.admitsSet
  R.CFG_IMG_CMD (slot.toNat * 256 + 4)) ∧ (∃ (c : ImgCmd) (o : Nat) (n : Nat) (ok : Bool) (s : State), s.cfg.img = some c ∧
  s.kind Block.cfg = 1 ∧ s.sec.imgWaits = false ∧ ((c = ImgCmd.erase ∧ ∀ (k : ℕ), s.flash.wearB.get k < 79984) ∨ c =
  ImgCmd.program o n ∧ o + n ≤ 1048576) ∧ s.get F.CFG_FTG_STATE_BOOTED = 0) ∧ (∃ (c : ImgCmd) (o : Nat) (n : Nat) (ok :
  Bool) (s : State), s.cfg.img = some c ∧ s.kind Block.cfg = 1 ∧ s.sec.imgWaits = false ∧ ((c = ImgCmd.erase ∧ ∀ (k : ℕ),
  s.flash.wearB.get k < 79984) ∨ c = ImgCmd.program o n ∧ o + n ≤ 1048576) ∧ s.get F.CFG_FTG_STATE_BOOTED ≠ 0) ∧ (∃ (c :
  ImgCmd) (o : Nat) (n : Nat) (ok : Bool) (s : State), s.cfg.img = some c ∧ s.kind Block.cfg = 1 ∧ s.sec.imgWaits = false ∧
  ((c = ImgCmd.erase ∧ ∀ (k : ℕ), s.flash.wearB.get k < 79984) ∨ c = ImgCmd.program o n ∧ o + n ≤ 1048576) ∧ ok = true ∧ c =
  ImgCmd.erase) :=
⟨⟨up, (by decide +kernel)⟩, ⟨up, (by decide +kernel)⟩, ⟨up, (by decide +kernel)⟩, ⟨3, up, (by decide +kernel)⟩, ⟨.program 0
    4, 0, 4, true, { (having up [(F.CFG_FTG_STATE_BOOTED, 0)]) with cfg := { up.cfg with img := some (.program 0 4) } },
    ⟨(by decide +kernel), (by decide +kernel), (by decide +kernel), (.inr ⟨rfl, by decide⟩), (by decide +kernel)⟩⟩,
    ⟨.program 0 4, 0, 4, true,
    { (having up [(F.CFG_FTG_STATE_BOOTED, 1)]) with cfg := { up.cfg with img := some (.program 0 4) } },
    ⟨(by decide +kernel), (by decide +kernel), (by decide +kernel), (.inr ⟨rfl, by decide⟩), (by decide +kernel)⟩⟩, ⟨.erase,
    0, 0, true, { (having up [(F.CFG_FTG_STATE_BOOTED, 1)]) with cfg := { up.cfg with img := some (.erase) } },
    ⟨(by decide +kernel), (by decide +kernel), (by decide +kernel), (.inl ⟨rfl,
    fun _ => (by show (0:Nat) < 79984; decide)⟩), (by decide +kernel), (by decide +kernel)⟩⟩⟩

theorem witness_ImageCommandsRunAndReport_2 : (∃ (c : ImgCmd) (o : Nat) (n : Nat) (ok : Bool) (s : State), s.cfg.img = some
  c ∧ s.kind Block.cfg = 1 ∧ s.sec.imgWaits = false ∧ ((c = ImgCmd.erase ∧ ∀ (k : ℕ), s.flash.wearB.get k < 79984) ∨ c =
  ImgCmd.program o n ∧ o + n ≤ 1048576) ∧ ok = true ∧ c = ImgCmd.program o n) ∧ (∃ (c : ImgCmd) (o : Nat) (n : Nat) (ok :
  Bool) (s : State), s.cfg.img = some c ∧ s.kind Block.cfg = 1 ∧ s.sec.imgWaits = false ∧ ((c = ImgCmd.erase ∧ ∀ (k : ℕ),
  s.flash.wearB.get k < 79984) ∨ c = ImgCmd.program o n ∧ o + n ≤ 1048576) ∧ ok = false) ∧ (∃ (o : Nat) (n : Nat) (ok :
  Bool) (s : State), s.cfg.img = some (ImgCmd.program o n) ∧ 1048576 < o + n ∧ s.kind Block.cfg = 1 ∧ s.sec.imgWaits =
  false) ∧ (∃ (ok : Bool) (s : State), (s.cfg.img = none ∨ s.sec.imgWaits = true)) ∧ (∃ (ok : Bool) (s : State), s.cfg.img =
  some ImgCmd.verify ∧ s.sec.imgWaits = false ∧ s.kind Block.cfg = 1 ∧ s.verifyImage ≠ 3) ∧ (∃ (n : Nat) (r : Nat) (ok :
  Bool) (s : State) (u : State), s.cfg.img = some (ImgCmd.load n) ∧ s.sec.imgWaits = false ∧ s.loadCourse n = (r, u) ∧
  u.kind Block.cfg = 1) :=
⟨⟨.program 0 4, 0, 4, true,
    { (having up [(F.CFG_FTG_STATE_BOOTED, 1)]) with cfg := { up.cfg with img := some (.program 0 4) } },
    ⟨(by decide +kernel), (by decide +kernel), (by decide +kernel), (.inr ⟨rfl, by decide⟩), (by decide +kernel),
    (by decide +kernel)⟩⟩, ⟨.erase, 0, 0, false,
    { (having up [(F.CFG_FTG_STATE_BOOTED, 1)]) with cfg := { up.cfg with img := some (.erase) } }, ⟨(by decide +kernel),
    (by decide +kernel), (by decide +kernel), (.inl ⟨rfl, fun _ => (by show (0:Nat) < 79984; decide)⟩),
    (by decide +kernel)⟩⟩, ⟨1048576, 4, true,
    { (having up [(F.CFG_FTG_STATE_BOOTED, 1)]) with cfg := { up.cfg with img := some (.program 1048576 4) } },
    (by decide +kernel)⟩, ⟨true, { up with cfg := { up.cfg with img := none } }, (by decide +kernel)⟩, ⟨true,
    { ({ up with cfg := { up.cfg with img := some ImgCmd.verify } }) with sec := { ({ up with cfg := { up.cfg with img := some ImgCmd.verify } }).sec with imgWaits := false } },
    (by decide +kernel)⟩, ⟨3, ({ up with cfg := { up.cfg with img := some (.load 3) } }.loadCourse 3).1, true,
    { up with cfg := { up.cfg with img := some (.load 3) } },
    ({ up with cfg := { up.cfg with img := some (.load 3) } }.loadCourse 3).2, (by decide +kernel)⟩⟩

theorem witness_AntennaSupplyIsJudged : (∃ (a : BitVec 16) (b : BitVec 16) (s : State), s.runs Block.gnss = true ∧ s.biasEn
  0 = true ∧ s.biasEn 1 = true ∧ s.gnss.vantBad = false ∧ (∀ x ∈ [a, b], s.get F.GNSS_ANT_THR_OPEN_MA ≤ x.toNat ∧ x.toNat ≤
  s.get F.GNSS_ANT_THR_SHORT_MA ∧ x.toNat < 120) ∧ s.get (antFld 0) ≠ 3 ∧ s.get (antFld 1) ≠ 3) ∧ (∃ (a : Fin 2) (s : State)
  (n : Nat), s.runs Block.gnss = true ∧ s.biasEn a.val = true ∧ s.gnss.vantBad = false ∧ s.get (antFld a.val) ≠ 3 ∧ n / 96 =
  a.val ∧ n < 192 ∧ s.chActive n = true) :=
⟨⟨20, 30, bothFed, ⟨(by decide +kernel), (by decide +kernel), (by decide +kernel), (by decide +kernel),
    (by intro x hx; simp only [List.mem_cons, List.mem_nil_iff, or_false] at hx; rcases hx with rfl | rfl <;> decide +kernel),
    (by decide +kernel), (by decide +kernel)⟩⟩, ⟨0, having up [(F.GNSS_FE_CTRL_BIAS_A, 1), (F.GNSS_CH_STATE_STATE 7, 3),
    (F.GNSS_CH_CTRL_MODE 7, 2)], 7, (by decide +kernel)⟩⟩

theorem witness_AntennaSupplyIsJudged_2 : (∃ (a : Fin 2) (ma : BitVec 16) (s : State), s.get (antFld a.val) = 3 ∧ ma.toNat ≤
  s.get F.GNSS_ANT_THR_SHORT_MA ∧ ma.toNat < 120) ∧ (∃ (mv : BitVec 16) (s : State), s.runs Block.gnss = true ∧ (s.biasEn 0
  = true ∨ s.biasEn 1 = true) ∧ s.gnss.vantBad = false ∧ (mv.toNat < 3000 ∨ 5500 < mv.toNat)) :=
⟨⟨1, 20, (having up [(F.GNSS_ANT_THR_SHORT_MA, 90)]).put (antFld 1) 3, (by decide +kernel)⟩, ⟨1200, having up
    [(F.GNSS_FE_CTRL_BIAS_A, 1)], (by decide +kernel)⟩⟩

theorem witness_AntennaSupplyIsJudged_3 : (∃ (mv : BitVec 16) (s : State), 3000 ≤ mv.toNat ∧ mv.toNat ≤ 5500 ∧ s.runs
  Block.gnss = true) ∧ (∃ (mv : BitVec 16) (s : State), 3000 ≤ mv.toNat ∧ mv.toNat ≤ 5500) :=
⟨⟨4500, up, (by decide +kernel)⟩, ⟨4500, up, (by decide +kernel)⟩⟩

theorem witness_AntennaSupplyIsJudged_4 : (∃ (g0 : BitVec 7) (g1 : BitVec 7) (g2 : BitVec 7) (g3 : BitVec 7) (s : State) (p
  : Nat), s.runs Block.gnss = true ∧ s.gnss.stopped = false ∧ p < 4 ∧ s.pathEn p = true ∧ nbit (s.get
  F.GNSS_AGC_CTRL_FREEZE) p = false) ∧ (∃ (g0 : BitVec 7) (g1 : BitVec 7) (g2 : BitVec 7) (g3 : BitVec 7) (s : State) (p :
  Nat), s.runs Block.gnss = true ∧ s.gnss.stopped = false ∧ p < 4 ∧ (s.pathEn p = false ∨ nbit (s.get
  F.GNSS_AGC_CTRL_FREEZE) p = true)) :=
⟨⟨0, 0, 0, 0, having up [(F.GNSS_FE_CTRL_PATH_EN, 15), (F.GNSS_AGC_CTRL_FREEZE, 2)], 0, (by decide +kernel)⟩, ⟨0, 0, 0, 0,
    having up [(F.GNSS_FE_CTRL_PATH_EN, 15), (F.GNSS_AGC_CTRL_FREEZE, 2)], 1, (by decide +kernel)⟩⟩

theorem witness_AntennaSupplyIsJudged_5 : (∃ (g0 : BitVec 7) (g1 : BitVec 7) (g2 : BitVec 7) (g3 : BitVec 7) (s : State),
  (s.runs Block.gnss = false ∨ s.gnss.stopped = true)) ∧ (∃ (a : Fin 2) (ma : Nat) (s : State), s.runs Block.gnss = true ∧
  s.biasEn a.val = true ∧ s.gnss.vantBad = false ∧ s.get (antFld a.val) ≠ 3 ∧ ma < s.get F.GNSS_ANT_THR_OPEN_MA ∧ ma ≤ s.get
  F.GNSS_ANT_THR_SHORT_MA ∧ ma < 120 ∧ 99 ≤ (s.gnss.ant.get a.val).openMs) :=
⟨⟨20, 30, 40, 50, State.reset, (by decide +kernel)⟩, ⟨0, 7,
    { (having up [(F.GNSS_FE_CTRL_BIAS_A, 1), (F.GNSS_ANT_THR_OPEN_MA, 20), (F.GNSS_ANT_THR_SHORT_MA, 60)]) with gnss := { up.gnss with ant := up.gnss.ant.set 0 { up.gnss.ant.get 0 with openMs := 99 } } },
    (by decide +kernel)⟩⟩

theorem witness_AntennaSupplyIsJudged_6 : ∃ (a : Fin 2) (ma : Nat) (s : State), (s.runs Block.gnss = false ∨ s.biasEn a.val
  = false) :=
⟨0, 7, (having up [(F.GNSS_ANT_THR_SHORT_MA, 90)]).put (antFld 1) 3, (by decide +kernel)⟩

theorem witness_ChannelsSearchTrackAndLoseLock : (∃ (sub : BitVec 16) (vis : List (Byte × Byte)) (s : State) (n : Nat),
  s.runs Block.gnss = true ∧ s.gnss.stopped = false ∧ s.capturing = false ∧ n < s.nGch ∧ (s.gnssCh.get n).hostPend = false ∧
  s.chState n = 3 ∧ s.chUsable n = true) ∧ (∃ (sub : BitVec 16) (vis : List (Byte × Byte)) (s : State) (n : Nat), s.runs
  Block.gnss = true ∧ s.gnss.stopped = false ∧ s.capturing = false ∧ n < s.nGch ∧ (s.gnssCh.get n).hostPend = true ∧
  s.chState n ≠ 6 ∧ s.get (F.GNSS_CH_CTRL_MODE n) = 0) ∧ (∃ (sub : BitVec 16) (vis : List (Byte × Byte)) (s : State) (a :
  Nat), s.runs Block.gnss = true ∧ s.gnss.stopped = false ∧ s.capturing = false ∧ (a < R.GNSS_CH_CTRL 0 ∨ R.GNSS_CH_CTRL 192
  ≤ a)) ∧ (∃ (o : LockObs) (s : State) (m : Nat), s.runs Block.gnss = true ∧ s.gnss.stopped = false ∧ s.chState ↑o.ch = 3 ∧
  256 * s.get F.GNSS_ACQ_CTRL_LOCK_CN0 ≤ o.cn0.toNat ∧ o.pll < 500 ∧ (s.gnssCh.get ↑o.ch).hostPend = false ∧ s.get
  F.GNSS_ACQ_CTRL_LOL_N ≤ (s.gnssCh.get ↑o.ch).fails + 1 ∧ m ≠ ↑o.ch) ∧ (∃ (ch : Fin 192) (s : State), s.chState ch.val = 2
  ∧ s.passed (s.gnssCh.get ch.val).since (500 * msec) = true) ∧ (∃ (ch : Fin 192) (s : State), s.chState ch.val = 4 ∧
  s.passed (s.gnssCh.get ch.val).since (s.get F.GNSS_RECOVER_RECOVER_T * msec) = true) :=
⟨⟨0, [], having up [(F.GNSS_FE_CTRL_PATH_EN, 15), (F.GNSS_CH_STATE_STATE 7, 3), (F.GNSS_CH_CTRL_MODE 7, 2)], 7,
    (by decide +kernel)⟩, ⟨0, [], { st62 with gnssCh := st62.gnssCh.set 7 { st62.gnssCh.get 7 with hostPend := true } }, 7,
    (by decide +kernel)⟩, ⟨0, [],
    { ((up.put (F.GNSS_CH_STATE_STATE 7) 3).put (F.GNSS_CH_CTRL_MODE 7) 2) with gnssCh := [(9, { (default : GnssCh) with hostPend := true })] },
    7, (by decide +kernel)⟩, ⟨⟨7, 0xF000, 100, 0, 0⟩,
    { ((up.put (F.GNSS_CH_STATE_STATE 7) 3).put (F.GNSS_CH_CTRL_MODE 7) 2) with gnssCh := [(9, { (default : GnssCh) with hostPend := true })] },
    0, (by decide +kernel)⟩, ⟨7, up.put (F.GNSS_CH_STATE_STATE 7) 2, (by decide +kernel)⟩, ⟨7, up.put (F.GNSS_CH_STATE_STATE
    7) 4, (by decide +kernel)⟩⟩

theorem witness_ChannelsSearchTrackAndLoseLock_2 : (∃ (ch : Fin 192) (s : State), (s.chState ch.val ≠ 2 ∨ s.passed
  (s.gnssCh.get ch.val).since (500 * msec) = false)) ∧ (∃ (ch : Fin 192) (s : State), (s.chState ch.val ≠ 4 ∨ s.passed
  (s.gnssCh.get ch.val).since (s.get F.GNSS_RECOVER_RECOVER_T * msec) = false)) ∧ (∃ (vis : List (Byte × Byte)) (o :
  DumpObs) (s : State), ↑o.ch < s.nGch ∧ s.chState ↑o.ch = 1 ∧ s.cellDetected (↑o.ch) o = true) ∧ (∃ (ch : Fin 192) (v :
  Word) (s : State), s.admitsSet (R.GNSS_CH_CTRL ch.val) (BitVec.toNat v)) ∧ (∃ (ch : Fin 192) (v : Word) (s : State),
  s.admitsSet (R.GNSS_CH_SIG ch.val) (BitVec.toNat v)) :=
⟨⟨7, up.put (F.GNSS_CH_STATE_STATE 7) 4, (by decide +kernel)⟩, ⟨7, up.put (F.GNSS_CH_STATE_STATE 7) 2, (by decide +kernel)⟩,
    ⟨[], ⟨7, 0, 0, 0, 0, 0, false, (0, 0), 0xFFFF, 3, false⟩, having up [(F.GNSS_CH_STATE_STATE 7, 1), (F.GNSS_CH_CTRL_MODE
    7, 2)], (by decide +kernel)⟩, ⟨7, 1, up, (by decide +kernel)⟩, ⟨7, 1, up, (by decide +kernel)⟩⟩

theorem witness_SnapshotsCaptureProcessAndDrain : (∃ (v : Word) (s : State), s.admitsSet R.GNSS_SNAP_CTRL (BitVec.toNat v) ∧
  BitVec.getLsbD v 0 = true) ∧ (∃ (v : Word) (s : State), s.admitsSet R.GNSS_SNAP_CTRL (BitVec.toNat v) ∧ BitVec.getLsbD v 0
  = false) ∧ (∃ (sub : BitVec 16) (s : State), s.capturing = true ∧ s.gnss.started = false ∧ s.gnss.go.start = 1 ∧ s.now <
  s.nat64 R.GNSS_SNAP_TAG_LO) ∧ (∃ (sub : BitVec 16) (s : State), s.capturing = true ∧ s.gnss.started = false ∧
  s.gnss.go.start = 1 ∧ s.nat64 R.GNSS_SNAP_TAG_LO ≤ s.now) ∧ (∃ (pages : BitVec 16) (sub : BitVec 16) (t0 : BitVec 64) (d :
  List Byte) (s : State) (i : Nat), s.capturing = true ∧ s.gnss.started = true ∧ s.gnss.stop = false ∧ s.gnss.cancel = false
  ∧ s.gnss.inc = false ∧ s.gnss.go.start ≠ 2 ∧ s.gnss.go.paths = 1 ∧ s.kind Block.gnss = 1 ∧ d.length = s.gnss.go.len * 4096
  ∧ (∀ (k : Nat), k < s.gnss.go.len → s.deadPage (436207616 + k * 4096) = false) ∧ i < d.length) ∧ (∃ (s : State),
  s.admitsSet R.GNSS_SNAP_CMD 1) :=
⟨⟨0x10001, having up [(F.GNSS_SNAP_WIN, 100), (F.GNSS_SNAP_LEN_LEN, 10)], (by decide +kernel)⟩, ⟨0, having up
    [(F.GNSS_SNAP_WIN, 100), (F.GNSS_SNAP_LEN_LEN, 10)], (by decide +kernel)⟩, ⟨0,
    { (having up [(F.GNSS_SNAP_STAT_BUSY, 1), (F.GNSS_SNAP_STAT_OP, 1), (F.GNSS_SNAP_TAG_LO, 1700000000)]) with gnss := { up.gnss with go := { up.gnss.go with start := 1 } } },
    (by decide +kernel)⟩, ⟨3,
    { (having up [(F.GNSS_SNAP_STAT_BUSY, 1), (F.GNSS_SNAP_STAT_OP, 1)]) with gnss := { up.gnss with go := { up.gnss.go with start := 1 } } },
    (by decide +kernel)⟩, ⟨3, 3, 5, List.replicate 4096 7,
    { (having up [(F.GNSS_SNAP_STAT_BUSY, 1), (F.GNSS_SNAP_STAT_OP, 1)]) with gnss := { up.gnss with started := true, go := { up.gnss.go with paths := 1, len := 1 } } },
    0, (by decide +kernel)⟩, ⟨up, (by decide +kernel)⟩⟩

theorem witness_SnapshotsCaptureProcessAndDrain_2 : (∃ (s : State), s.admitsSet R.GNSS_SNAP_CMD 2) ∧ (∃ (s : State),
  s.admitsSet R.GNSS_SNAP_CMD 3 ∧ s.flag F.GNSS_SNAP_STAT_BUSY = true) ∧ (∃ (s : State), s.admitsSet R.GNSS_SNAP_CMD 3 ∧
  s.flag F.GNSS_SNAP_STAT_BUSY = false) ∧ (∃ (l : List SnapResult) (s : State), s.flag F.GNSS_SNAP_STAT_BUSY = true ∧ s.get
  F.GNSS_SNAP_STAT_OP = 3 ∧ s.gnss.cancel = true) ∧ (∃ (s : State) (k : Nat) (w : Nat), s.flag F.GNSS_SNAP_STAT_BUSY = true
  ∧ s.get F.GNSS_SNAP_STAT_OP = 3 ∧ s.gnss.cancel = false ∧ s.kind Block.gnss = 1 ∧ k < 64 ∧ w < 4) ∧ (∃ (s : State), s.flag
  F.GNSS_SNAP_STAT_BUSY = true ∧ s.get F.GNSS_SNAP_STAT_OP = 2 ∧ s.gnss.drain = []) :=
⟨⟨up, (by decide +kernel)⟩, ⟨up.put F.GNSS_SNAP_STAT_BUSY 1, (by decide +kernel)⟩, ⟨up, (by decide +kernel)⟩, ⟨[],
    { (having (having up [(F.GNSS_SNAP_WIN, 100), (F.GNSS_SNAP_LEN_LEN, 10)]) [(F.GNSS_SNAP_STAT_BUSY, 1), (F.GNSS_SNAP_STAT_OP, 3)]) with gnss := { (having (having up [(F.GNSS_SNAP_WIN, 100), (F.GNSS_SNAP_LEN_LEN, 10)]) [(F.GNSS_SNAP_STAT_BUSY, 1), (F.GNSS_SNAP_STAT_OP, 3)]).gnss with cancel := true } },
    (by decide +kernel)⟩, ⟨having up [(F.GNSS_SNAP_STAT_BUSY, 1), (F.GNSS_SNAP_STAT_OP, 3)], 0, 0, (by decide +kernel)⟩,
    ⟨having up [(F.GNSS_SNAP_STAT_BUSY, 1), (F.GNSS_SNAP_STAT_OP, 2)], (by decide +kernel)⟩⟩

theorem witness_SolutionsGiveQualityAndTime : (∃ (x : NavSolution) (a : AntSolution) (s : State), s.runs Block.nav = true ∧
  s.nav.msm = none ∧ s.flag F.NAV_CTRL_HDG_EN = false ∧ x.antA = some a ∧ 4 ≤ s.satsUsed 0 a ∧ s.tq = 1 ∧ x.leap = none) ∧
  (∃ (x : NavSolution) (s : State), s.runs Block.nav = true ∧ s.nav.msm = none ∧ s.flag F.NAV_CTRL_HDG_EN = false ∧
  s.validSol 0 x.antA = none ∧ s.validSol 1 x.antB = none ∧ s.get F.NAV_QMIN_QMIN = 0) ∧ (∃ (x : NavSolution) (s : State),
  s.works Block.nav = true ∧ s.enabled Block.nav = false ∧ s.nav.offAt ≤ x.epoch.toNat ∧ (s.validSol 0 x.antA).isSome = true
  ∧ s.tq = 0) ∧ (∃ (x : NavSolution) (s : State), s.works Block.nav = true ∧ s.enabled Block.nav = false ∧ s.nav.offAt ≤
  x.epoch.toNat ∧ (s.validSol 0 x.antA).isSome = true ∧ 2 ≤ s.tq ∧ s.nav.runs < 2 ∧ (s.nav.runs = 0 ∨ s.nav.timeEpoch +
  s.epochLen = x.epoch.toNat) ∧ x.leap = none) ∧ (∃ (x : NavSolution) (s : State), s.works Block.nav = true ∧ s.enabled
  Block.nav = false ∧ s.nav.offAt ≤ x.epoch.toNat ∧ (s.validSol 0 x.antA).isSome = true ∧ 2 ≤ s.tq ∧ 2 ≤ s.nav.runs ∧
  s.nav.timeEpoch + s.epochLen = x.epoch.toNat ∧ x.e.natAbs ≤ 1000000) ∧ (∃ (x : NavSolution) (s : State), s.works Block.nav
  = true ∧ s.enabled Block.nav = false ∧ s.nav.offAt ≤ x.epoch.toNat ∧ (s.validSol 0 x.antA).isSome = true ∧ 2 ≤ s.tq ∧ 2 ≤
  s.nav.runs ∧ s.nav.timeEpoch + s.epochLen = x.epoch.toNat ∧ x.e < -1000000) ∧ (∃ (x : NavSolution) (s : State), s.works
  Block.nav = true ∧ s.enabled Block.nav = false ∧ s.nav.offAt ≤ x.epoch.toNat ∧ (s.validSol 0 x.antA).isSome = true ∧ 2 ≤
  s.tq ∧ 2 ≤ s.nav.runs ∧ s.nav.timeEpoch + s.epochLen = x.epoch.toNat ∧ 1000000 < x.e) :=
⟨⟨nsol (some (ant 5)) 7, (ant 5), having up [(F.NAV_TIME_STAT_TQ, 1), (F.NAV_QMIN_QMIN, 1)], (by decide +kernel)⟩, ⟨nsol
    none 7, having up [(F.NAV_TIME_STAT_TQ, 1)], (by decide +kernel)⟩, ⟨nsol (some (ant 5)) 7, having up [(H.enable .nav,
    0)], (by decide +kernel)⟩, ⟨nsol (some (ant 5)) 7,
    { (having (st10) [(H.enable .nav, 0)]) with nav := { (having (st10) [(H.enable .nav, 0)]).nav with runs := 0 } },
    (by decide +kernel)⟩, ⟨{ (nsol (some (ant 5)) 1000000) with epoch := BitVec.ofNat 64 (50 + up.epochLen) }, st10,
    (by decide +kernel)⟩, ⟨{ (nsol (some (ant 5)) (-1000001)) with epoch := BitVec.ofNat 64 (50 + up.epochLen) }, having
    (st10) [(H.enable .nav, 0)], (by decide +kernel)⟩,
    ⟨{ (nsol (some (ant 5)) 3000007) with epoch := BitVec.ofNat 64 (50 + up.epochLen) }, st10, (by decide +kernel)⟩⟩

theorem witness_TimeHoldsOverAndPulses : (∃ (f : Nat) (s : State), s.kind Block.nav = 1 ∧ s.tq = 1 ∧ s.passed s.nav.timeAt
  (s.get F.NAV_HO_CFG_HO_ENTER * msec) = true) ∧ (∃ (f : Nat) (s : State), (s.tq ≠ 1 ∨ s.passed s.nav.timeAt (s.get
  F.NAV_HO_CFG_HO_ENTER * msec) = false)) ∧ (∃ (m : Int) (s : State), s.kind Block.nav = 1 ∧ (s.tq = 2 ∨ s.tq = 3) ∧
  s.timeUnc ≤ s.get F.NAV_HO_CFG_UNC_MAX * 1000) ∧ (∃ (m : Int) (s : State), s.kind Block.nav = 1 ∧ (s.tq = 2 ∨ s.tq = 3) ∧
  s.get F.NAV_HO_CFG_UNC_MAX * 1000 < s.timeUnc ∧ s.nav.uncLimit = false) ∧ (∃ (s : State), s.flag F.NAV_TIME_STAT_SLEW =
  true ∧ s.slewLeft = 0) ∧ (∃ (s : State), s.flag F.NAV_TIME_STAT_HOLD = true ∧ s.nav.holdUntil ≤ s.clk) ∧ (∃ (p : Fin 2) (s
  : State), s.works Block.nav = true ∧ s.released = true ∧ s.flag F.NAV_TIME_STAT_HOLD = false ∧ s.pulseDue p.val = true ∧
  (s.get (F.NAV_TP_CFG_MODE p.val) = 2 ∨ s.get (F.NAV_TP_CFG_MODE p.val) = 1 ∧ s.tq ≠ 0) ∧ 0 < s.get (F.NAV_TP_WIDTH_WIDTH
  p.val)) ∧ (∃ (p : Fin 2) (s : State), (s.flag F.NAV_TIME_STAT_HOLD = true ∨ s.pulseDue p.val = false ∨ s.released = false
  ∨ s.get (F.NAV_TP_CFG_MODE p.val) = 0 ∨ s.get (F.NAV_TP_CFG_MODE p.val) = 1 ∧ s.tq = 0)) :=
⟨⟨40, having up [(F.NAV_TIME_STAT_TQ, 1)], (by decide +kernel)⟩, ⟨40, having up [(F.NAV_TIME_STAT_TQ, 3),
    (F.CLK_MRC_TC_VALID, 1)], (by decide +kernel)⟩, ⟨0, having up [(F.NAV_TIME_STAT_TQ, 3), (F.CLK_MRC_TC_VALID, 1)],
    (by decide +kernel)⟩, ⟨0, { (having up [(F.NAV_TIME_STAT_TQ, 2)]) with nav := { up.nav with timeUnc := 50 } },
    (by decide +kernel)⟩, ⟨having up [(F.NAV_TIME_STAT_SLEW, 1)], (by decide +kernel)⟩, ⟨having up [(F.NAV_TIME_STAT_HOLD,
    1)], (by decide +kernel)⟩, ⟨0, having up [(F.NAV_TP_CFG_MODE 0, 2), (F.NAV_TP_CFG_PERIOD_MS 0, 100),
    (F.NAV_TP_WIDTH_WIDTH 0, 10)], (by decide +kernel)⟩, ⟨1, having (having up [(F.NAV_TIME_STAT_TQ, 1)])
    [(F.NAV_TIME_STAT_HOLD, 1)], (by decide +kernel)⟩⟩

theorem witness_EpochsCorrectionsAndPoses : (∃ (m : List RawMeas) (s : State), (s.now % s.epochLen ≠ 0 ∨ s.flag
  F.NAV_TIME_STAT_HOLD = true)) ∧ (∃ (m : List RawMeas) (s : State) (n : Nat), s.works Block.nav = true ∧ s.onGrid
  s.epochLen = true ∧ s.flag F.NAV_CTRL_RAW_EN = false ∧ n < s.nGch) ∧ (∃ (m : List RawMeas) (s : State), s.runs Block.nav =
  true ∧ s.onGrid s.epochLen = true ∧ s.flag F.NAV_CTRL_RAW_EN = true ∧ s.memCare.dead = [] ∧ s.laneOut 5 = true ∧
  (s.lanes.get 5).held = [] ∧ s.laneLevel 5 + 2 + (s.rawRecords m).length < s.laneSize 5 ∧ laneSizeOk (s.laneSize 5) = true
  ∧ s.get (F.LANE_HEAD_HEAD 5) < s.laneSize 5 ∧ s.get (F.LANE_TAIL_TAIL 5) < s.laneSize 5) ∧ (∃ (s : State), s.works
  Block.nav = true ∧ s.laneIn 6 = true ∧ s.laneLevel 6 ≠ 0 ∧ s.laneType 6 (s.get (F.LANE_TAIL_TAIL 6)) ≠ 0 ∧ s.enabled
  Block.nav = false) ∧ (∃ (s : State), s.works Block.nav = true ∧ s.laneIn 6 = true ∧ s.laneLevel 6 ≠ 0 ∧ s.laneType 6
  (s.get (F.LANE_TAIL_TAIL 6)) ≠ 0 ∧ s.enabled Block.nav = true ∧ s.rtkOn = true ∧ s.laneType 6 (s.get (F.LANE_TAIL_TAIL 6))
  ≠ 97) ∧ (∃ (e : List Byte) (b : List Byte) (f : List Byte) (n : Nat) (s : State) (u : State), s.works Block.nav = true ∧
  s.enabled Block.nav = true ∧ s.rtkOn = true ∧ s.laneIn 6 = true ∧ s.laneLevel 6 ≠ 0 ∧ e = s.bytes (s.laneSlot 6 (s.get
  (F.LANE_TAIL_TAIL 6))) 64 ∧ e.getD 2 0 = 97 ∧ 1 ≤ BitVec.toNat (e.getD 4 0) ∧ BitVec.toNat (e.getD 4 0) ≤ 56 ∧ b =
  s.nav.rtcm ++ List.take (BitVec.toNat (e.getD 4 0)) (List.drop 8 e) ∧ u = s.put (F.LANE_TAIL_TAIL 6) (s.laneNext 6 (s.get
  (F.LANE_TAIL_TAIL 6))) ∧ b.head? = some 211 ∧ 3 ≤ b.length ∧ n = bitField b 8 16 ∧ n < 1024 ∧ f = List.take n (List.drop 3
  b) ∧ b.length < n + 6) ∧ (∃ (e : List Byte) (b : List Byte) (f : List Byte) (n : Nat) (s : State) (u : State), s.works
  Block.nav = true ∧ s.enabled Block.nav = true ∧ s.rtkOn = true ∧ s.laneIn 6 = true ∧ s.laneLevel 6 ≠ 0 ∧ e = s.bytes
  (s.laneSlot 6 (s.get (F.LANE_TAIL_TAIL 6))) 64 ∧ e.getD 2 0 = 97 ∧ 1 ≤ BitVec.toNat (e.getD 4 0) ∧ BitVec.toNat (e.getD 4
  0) ≤ 56 ∧ b = s.nav.rtcm ++ List.take (BitVec.toNat (e.getD 4 0)) (List.drop 8 e) ∧ u = s.put (F.LANE_TAIL_TAIL 6)
  (s.laneNext 6 (s.get (F.LANE_TAIL_TAIL 6))) ∧ b.head? = some 211 ∧ 3 ≤ b.length ∧ n = bitField b 8 16 ∧ n < 1024 ∧ f =
  List.take n (List.drop 3 b) ∧ b.length = n + 6 ∧ (crc24q (List.take (n + 3) b)).toNat = bitField (List.drop (n + 3) b) 0
  24) ∧ (∃ (e : List Byte) (b : List Byte) (f : List Byte) (n : Nat) (s : State) (u : State), s.works Block.nav = true ∧
  s.enabled Block.nav = true ∧ s.rtkOn = true ∧ s.laneIn 6 = true ∧ s.laneLevel 6 ≠ 0 ∧ e = s.bytes (s.laneSlot 6 (s.get
  (F.LANE_TAIL_TAIL 6))) 64 ∧ e.getD 2 0 = 97 ∧ 1 ≤ BitVec.toNat (e.getD 4 0) ∧ BitVec.toNat (e.getD 4 0) ≤ 56 ∧ b =
  s.nav.rtcm ++ List.take (BitVec.toNat (e.getD 4 0)) (List.drop 8 e) ∧ u = s.put (F.LANE_TAIL_TAIL 6) (s.laneNext 6 (s.get
  (F.LANE_TAIL_TAIL 6))) ∧ b.head? = some 211 ∧ 3 ≤ b.length ∧ n = bitField b 8 16 ∧ n < 1024 ∧ f = List.take n (List.drop 3
  b) ∧ b.length = n + 6 ∧ (crc24q (List.take (n + 3) b)).toNat ≠ bitField (List.drop (n + 3) b) 0 24) :=
⟨⟨[], { up with tag := 1600000001 }, (by decide +kernel)⟩, ⟨[], having
    ({ up with gnssCh := [(3, { (default : GnssCh) with slipped := true })] }) [(F.NAV_CTRL_RAW_EN, 0)], 0,
    (by decide +kernel)⟩, ⟨[], (lane up 5 0).put F.NAV_CTRL_RAW_EN 1, (by decide +kernel)⟩, ⟨having (entry up 6 [0, 0,
    0x61]) [(H.enable .nav, 0)], (by decide +kernel)⟩, ⟨having (entry up 6 [0, 0, 0x60]) [(F.NAV_CTRL_RTK_EN, 1)],
    (by decide +kernel)⟩, ⟨(padTo 64 ([0, 0, 0x61, 0, 7, 0, 0, 0] ++ [0xd3, 0x0, 0x3, 0x3e, 0xd0, 0x5, 0x6f])), [0xd3, 0x0,
    0x3, 0x3e, 0xd0, 0x5, 0x6f], [0x3e, 0xd0, 0x5], 3, (entry (having up [(F.NAV_CTRL_RTK_EN, 1)]) 6 ([0, 0, 0x61, 0, 7, 0,
    0, 0] ++ [0xd3, 0x0, 0x3, 0x3e, 0xd0, 0x5, 0x6f])), (((entry (having up [(F.NAV_CTRL_RTK_EN, 1)]) 6 ([0, 0, 0x61, 0, 7,
    0, 0, 0] ++ [0xd3, 0x0, 0x3, 0x3e, 0xd0, 0x5, 0x6f]))).put (F.LANE_TAIL_TAIL 6) 1), ⟨(by decide +kernel),
    (by decide +kernel), (by decide +kernel), (by decide +kernel), (by decide +kernel), (by decide +kernel),
    (by decide +kernel), (by decide +kernel), (by decide +kernel), (by decide +kernel),
    (congrArg (State.put _ _) (by decide +kernel)), (by decide +kernel), (by decide +kernel), (by decide +kernel),
    (by decide +kernel), (by decide +kernel), (by decide +kernel)⟩⟩, ⟨(padTo 64 ([0, 0, 0x61, 0, 9, 0, 0, 0] ++ [0xd3, 0x0,
    0x3, 0x3e, 0xd0, 0x5, 0x6f, 0xd3, 0xe4])), [0xd3, 0x0, 0x3, 0x3e, 0xd0, 0x5, 0x6f, 0xd3, 0xe4], [0x3e, 0xd0, 0x5], 3,
    (entry (having up [(F.NAV_CTRL_RTK_EN, 1)]) 6 ([0, 0, 0x61, 0, 9, 0, 0, 0] ++ [0xd3, 0x0, 0x3, 0x3e, 0xd0, 0x5, 0x6f,
    0xd3, 0xe4])), (((entry (having up [(F.NAV_CTRL_RTK_EN, 1)]) 6 ([0, 0, 0x61, 0, 9, 0, 0, 0] ++ [0xd3, 0x0, 0x3, 0x3e,
    0xd0, 0x5, 0x6f, 0xd3, 0xe4]))).put (F.LANE_TAIL_TAIL 6) 1), ⟨(by decide +kernel), (by decide +kernel),
    (by decide +kernel), (by decide +kernel), (by decide +kernel), (by decide +kernel), (by decide +kernel),
    (by decide +kernel), (by decide +kernel), (by decide +kernel), (congrArg (State.put _ _) (by decide +kernel)),
    (by decide +kernel), (by decide +kernel), (by decide +kernel), (by decide +kernel), (by decide +kernel),
    (by decide +kernel), (by decide +kernel)⟩⟩, ⟨(padTo 64 ([0, 0, 0x61, 0, 9, 0, 0, 0] ++ [0xd3, 0x0, 0x3, 0x3e, 0xd0, 0x5,
    0x6f, 0xd3, 0xe5])), [0xd3, 0x0, 0x3, 0x3e, 0xd0, 0x5, 0x6f, 0xd3, 0xe5], [0x3e, 0xd0, 0x5], 3, (entry (having up
    [(F.NAV_CTRL_RTK_EN, 1)]) 6 ([0, 0, 0x61, 0, 9, 0, 0, 0] ++ [0xd3, 0x0, 0x3, 0x3e, 0xd0, 0x5, 0x6f, 0xd3, 0xe5])),
    (((entry (having up [(F.NAV_CTRL_RTK_EN, 1)]) 6 ([0, 0, 0x61, 0, 9, 0, 0, 0] ++ [0xd3, 0x0, 0x3, 0x3e, 0xd0, 0x5, 0x6f,
    0xd3, 0xe5]))).put (F.LANE_TAIL_TAIL 6) 1), ⟨(by decide +kernel), (by decide +kernel), (by decide +kernel),
    (by decide +kernel), (by decide +kernel), (by decide +kernel), (by decide +kernel), (by decide +kernel),
    (by decide +kernel), (by decide +kernel), (congrArg (State.put _ _) (by decide +kernel)), (by decide +kernel),
    (by decide +kernel), (by decide +kernel), (by decide +kernel), (by decide +kernel), (by decide +kernel),
    (by decide +kernel)⟩⟩⟩

theorem witness_EpochsCorrectionsAndPoses_2 : (∃ (f : List Byte) (k : Nat) (same : Bool) (s : State), k = bitField f 0 12 ∧
  same = decide (s.get F.NAV_BASE_ID_ID = bitField f 12 12) ∧ (k = 1005 ∨ k = 1006)) ∧ (∃ (f : List Byte) (k : Nat) (same :
  Bool) (s : State), k = bitField f 0 12 ∧ same = decide (s.get F.NAV_BASE_ID_ID = bitField f 12 12) ∧ k = 1033) ∧ (∃ (f :
  List Byte) (k : Nat) (same : Bool) (s : State), k = bitField f 0 12 ∧ same = decide (s.get F.NAV_BASE_ID_ID = bitField f
  12 12) ∧ (1074 ≤ k ∧ k ≤ 1077) ∧ same = true ∧ msmMatches k f = true ∧ (∀ (m : ℕ), s.nav.msm = some m → m ≤ nearestTow
  s.now (bitField f 24 30 % 604800000))) ∧ (∃ (f : List Byte) (k : Nat) (same : Bool) (s : State), k = bitField f 0 12 ∧
  same = decide (s.get F.NAV_BASE_ID_ID = bitField f 12 12) ∧ (k < 1005 ∨ 1127 < k)) ∧ (∃ (raw : List Byte) (s : State),
  s.runs Block.nav = true ∧ s.released = true ∧ s.flag F.NAV_CTRL_IMU_EN = true ∧ (∀ b ∈ raw, b = 0)) ∧ (∃ (lo : Byte) (hi :
  Byte) (rest : List Byte) (s : State), s.runs Block.nav = true ∧ s.released = true ∧ s.flag F.NAV_CTRL_IMU_EN = true ∧
  s.flag F.PWR_STAT_VIO_OK = true ∧ s.flag F.NAV_IMU_FMT_BE = false ∧ 1 ≤ s.get F.NAV_IMU_FMT_WORDS ∧ s.nat R.NAV_IMU_MAP %
  16 = 0 ∧ BitVec.toNat lo + 256 * BitVec.toNat hi ≠ 0 ∧ BitVec.toNat lo + 256 * BitVec.toNat hi ≠ 65535) ∧ (∃ (s : State),
  s.kind Block.nav = 1 ∧ s.flag F.NAV_CTRL_IMU_EN = true ∧ s.nav.imuAt + 10 * msec ≤ s.clk ∧ s.nav.imuLost = false ∧ (∀ (g :
  ℕ), s.nav.imuGood = some g → g ≤ s.nav.imuAt)) ∧ (∃ (s : State), (s.nav.imuLost = true ∨ s.clk < s.nav.imuAt + 10 * msec))
  :=
⟨⟨[0x3e, 0xd0, 0x7, 0x0, 0x0, 0x0, 0x0, 0x0, 0x0, 0x0, 0x0, 0x0, 0x0, 0x0, 0x0, 0x0, 0x0, 0x0, 0x0], 1005, false, up,
    (by decide +kernel)⟩, ⟨[0x40, 0x90, 0x7, 0x0, 0x0, 0x0], 1033, false, up, (by decide +kernel)⟩, ⟨[0x43, 0x20, 0x7, 0x0,
    0x0, 0xf, 0xa0, 0x0, 0x0, 0x40, 0x0, 0x0, 0x0, 0x0, 0x0, 0x0, 0x0, 0x20, 0x0, 0x0, 0x0, 0x40], 1074, true, having up
    [(F.NAV_BASE_ID_ID, 7)], ⟨(by decide +kernel), (by decide +kernel), (by decide +kernel), (by decide +kernel),
    (by decide +kernel), (fun m h => nomatch (show (none : Option Nat) = some m from h))⟩⟩, ⟨[0, 0], (bitField ([0, 0]) 0
    12), (decide (({ up with gnssCh := [(3, { (default : GnssCh) with slipped := true })] }).get F.NAV_BASE_ID_ID = bitField
    ([0, 0]) 12 12)), { up with gnssCh := [(3, { (default : GnssCh) with slipped := true })] }, (by decide +kernel)⟩, ⟨[0,
    0], having up [(F.NAV_CTRL_IMU_EN, 1)], (by decide +kernel)⟩, ⟨1, 2, [], (having up [(F.NAV_CTRL_IMU_EN, 1),
    (F.NAV_IMU_FMT_WORDS, 1)]).setNat R.NAV_IMU_GSCL 3, (by decide +kernel)⟩, ⟨having up [(F.NAV_CTRL_IMU_EN, 1),
    (F.NAV_IMU_STAT_OK, 1)], (by decide +kernel)⟩, ⟨State.reset, (by decide +kernel)⟩⟩

theorem witness_EpochsCorrectionsAndPoses_3 : (∃ (roll : Int) (pitch : Int) (yaw : Int) (s : State), s.onGrid 16000 = false)
  ∧ (∃ (roll : Int) (pitch : Int) (yaw : Int) (s : State) (a : Nat), s.runs Block.nav = true ∧ s.onGrid 16000 = true ∧
  s.nav.last = none ∧ s.nav.sol = none ∧ s.nav.ab = none ∧ s.nav.hdgAt = 0 ∧ s.flag F.NAV_CTRL_HDG_EN = false ∧
  s.nav.blendLen = 0 ∧ (a < R.NAV_POSE_T_LO ∨ R.NAV_POSE_UNC < a)) ∧ (∃ (roll : Int) (pitch : Int) (yaw : Int) (y :
  NavSolution) (a : AntSolution) (z : Option NavSolution) (s : State) (u : State), s.runs Block.nav = true ∧ s.onGrid 16000
  = true ∧ s.flag F.NAV_CTRL_IMU_EN = false ∧ s.nav.sol = some y ∧ s.nav.last = some y ∧ y.antA = some a ∧ s.clk <
  s.nav.solAt + 3 * s.epochLen ∧ s.get F.NAV_SOL_INFO_Q ≠ 0 ∧ s.get F.NAV_POSE_CFG_BLEND = 0 ∧ s.nav.blendLen = 0 ∧ (y.speed
  < 1000 ∨ s.fusedSpeed ≤ 0) ∧ s.nav.ab = z ∧ (z = none → s.nav.hdgAt = 0 ∧ s.flag F.NAV_CTRL_HDG_EN = false) ∧ (∀ (x :
  NavSolution), z = some x → s.nav.abNew = true ∧ s.clk < s.nav.abAt + 3 * s.epochLen) ∧ (u =
  match z with | some x => { s with nav := { s.nav with hdg := ((↑x.abAz + s.gets F.NAV_HDG_OFS) % 36000 * 1000).toNat } } | none => s)
  ∧ z = none) ∧ (∃ (roll : Int) (pitch : Int) (yaw : Int) (y : NavSolution) (a : AntSolution) (z : Option NavSolution) (s :
  State) (u : State) (x : NavSolution), s.runs Block.nav = true ∧ s.onGrid 16000 = true ∧ s.flag F.NAV_CTRL_IMU_EN = false ∧
  s.nav.sol = some y ∧ s.nav.last = some y ∧ y.antA = some a ∧ s.clk < s.nav.solAt + 3 * s.epochLen ∧ s.get F.NAV_SOL_INFO_Q
  ≠ 0 ∧ s.get F.NAV_POSE_CFG_BLEND = 0 ∧ s.nav.blendLen = 0 ∧ (y.speed < 1000 ∨ s.fusedSpeed ≤ 0) ∧ s.nav.ab = z ∧ (z = none
  → s.nav.hdgAt = 0 ∧ s.flag F.NAV_CTRL_HDG_EN = false) ∧ (∀ (x : NavSolution), z = some x → s.nav.abNew = true ∧ s.clk <
  s.nav.abAt + 3 * s.epochLen) ∧ (u =
  match z with | some x => { s with nav := { s.nav with hdg := ((↑x.abAz + s.gets F.NAV_HDG_OFS) % 36000 * 1000).toNat } } | none => s)
  ∧ z = some x) ∧ (∃ (roll : Int) (pitch : Int) (yaw : Int) (y : NavSolution) (a : AntSolution) (z : Option NavSolution) (s
  : State) (u : State) (w : Nat), s.runs Block.nav = true ∧ s.onGrid 16000 = true ∧ s.flag F.NAV_CTRL_IMU_EN = false ∧
  s.nav.sol = some y ∧ s.nav.last = some y ∧ y.antA = some a ∧ s.clk < s.nav.solAt + 3 * s.epochLen ∧ s.get F.NAV_SOL_INFO_Q
  ≠ 0 ∧ s.get F.NAV_POSE_CFG_BLEND = 0 ∧ s.nav.blendLen = 0 ∧ (y.speed < 1000 ∨ s.fusedSpeed ≤ 0) ∧ s.nav.ab = z ∧ (z = none
  → s.nav.hdgAt = 0 ∧ s.flag F.NAV_CTRL_HDG_EN = false) ∧ (∀ (x : NavSolution), z = some x → s.nav.abNew = true ∧ s.clk <
  s.nav.abAt + 3 * s.epochLen) ∧ (u =
  match z with | some x => { s with nav := { s.nav with hdg := ((↑x.abAz + s.gets F.NAV_HDG_OFS) % 36000 * 1000).toNat } } | none => s)
  ∧ (w < R.NAV_POSE_T_LO ∨ R.NAV_POSE_UNC < w)) ∧ (∃ (roll : Int) (pitch : Int) (yaw : Int) (s : State), s.works Block.nav =
  true ∧ s.enabled Block.nav = false ∧ s.onGrid 16000 = true) :=
⟨⟨0, 0, 0, { up with tag := 1600000001 }, (by decide +kernel)⟩, ⟨0, 0, 0,
    { up with gnssCh := [(3, { (default : GnssCh) with slipped := true })] }, 0, (by decide +kernel)⟩, ⟨0, 0, 0, (nsol (some
    (ant 4)) 0), (ant 4), none,
    { (having up [(F.NAV_SOL_INFO_Q, 1)]) with nav := { up.nav with sol := some (nsol (some (ant 4)) 0), last := some (nsol (some (ant 4)) 0), solAt := 1600000000 } },
    _, ⟨(by decide +kernel), (by decide +kernel), (by decide +kernel), (by decide +kernel), (by decide +kernel),
    (by decide +kernel), (by decide +kernel), (by decide +kernel), (by decide +kernel), (by decide +kernel),
    (by decide +kernel), (by decide +kernel), (fun _ => ⟨by decide +kernel, by decide +kernel⟩), (fun x h => nomatch h),
    (rfl), (by decide +kernel)⟩⟩, ⟨0, 0, 0, (nsol (some (ant 4)) 0), (ant 4), (some (nsol (some (ant 4)) 0)),
    { (having up [(F.NAV_SOL_INFO_Q, 1)]) with nav := { up.nav with sol := some (nsol (some (ant 4)) 0), last := some (nsol (some (ant 4)) 0), ab := some (nsol (some (ant 4)) 0), abNew := true, abAt := 1600000000, solAt := 1600000000 } },
    _, (nsol (some (ant 4)) 0), ⟨(by decide +kernel), (by decide +kernel), (by decide +kernel), (by decide +kernel),
    (by decide +kernel), (by decide +kernel), (by decide +kernel), (by decide +kernel), (by decide +kernel),
    (by decide +kernel), (by decide +kernel), (by decide +kernel), (fun h => nomatch h), (fun x h => ⟨by decide +kernel,
    by decide +kernel⟩), (rfl), (by decide +kernel)⟩⟩, ⟨0, 0, 0, (nsol (some (ant 4)) 0), (ant 4), none,
    { (having up [(F.NAV_SOL_INFO_Q, 1)]) with nav := { up.nav with sol := some (nsol (some (ant 4)) 0), last := some (nsol (some (ant 4)) 0), solAt := 1600000000 } },
    _, 0, ⟨(by decide +kernel), (by decide +kernel), (by decide +kernel), (by decide +kernel), (by decide +kernel),
    (by decide +kernel), (by decide +kernel), (by decide +kernel), (by decide +kernel), (by decide +kernel),
    (by decide +kernel), (by decide +kernel), (fun _ => ⟨by decide +kernel, by decide +kernel⟩), (fun x h => nomatch h),
    (rfl), (by decide +kernel)⟩⟩, ⟨0, 0, 0, having
    ({ up with gnssCh := [(3, { (default : GnssCh) with slipped := true })] }) [(H.enable .nav, 0)], (by decide +kernel)⟩⟩

theorem witness_PulseInterfacesCountAndMeasure : (∃ (n : Fin 8) (a : LineLevel) (b : LineLevel) (d : Int) (s : State) (m :
  Nat), s.encCounts n.val = true ∧ s.get (F.FBK_ENC_CFG_MODE n.val) = 1 ∧ (s.enc.get n.val).a ≠ a.level ∧ (s.enc.get
  n.val).b = b.level ∧ s.encFilt n.val ≤ a.held ∧ s.encDue n.val = false ∧ s.flag (F.FBK_ENC_CFG_NEG n.val) = false ∧ s.flag
  (F.FBK_ENC_CFG_LIMEN n.val) = false ∧ (∀ (k : Nat), k < 16 → s.flag (F.FBK_CMP_CTRL_ARM n.val k) = false) ∧ s.get
  (F.FBK_ENC_STAT_SSTATE n.val) ≠ 0 ∧ s.flag (F.FBK_ENC_STAT_DIR n.val) = (a.level == b.level) ∧ (d = if (a.level ==
  b.level) = true then -1 else 1) ∧ m ≠ n.val) ∧ (∃ (n : Fin 8) (a : LineLevel) (b : LineLevel) (s : State), a.held <
  s.encFilt n.val ∧ b.held < s.encFilt n.val) ∧ (∃ (n : Fin 8) (a : LineLevel) (b : LineLevel) (s : State), s.encCounts
  n.val = true ∧ s.get (F.FBK_ENC_CFG_MODE n.val) = 1 ∧ s.encFilt n.val ≤ a.held ∧ s.encFilt n.val ≤ b.held ∧ (s.enc.get
  n.val).a ≠ a.level ∧ (s.enc.get n.val).b ≠ b.level) ∧ (∃ (n : Fin 8) (v : Int) (s : State), s.runs Block.fbk = true ∧
  s.get (F.FBK_ENC_STAT_SSTATE n.val) ≠ 0 ∧ (s.enc.get n.val).winStart + (s.enc.get n.val).win * msec ≤ s.clk ∧ 0 <
  (s.enc.get n.val).win ∧ satS 32 v = v ∧ (s.enc.get n.val).cnt * ↑(s.enc.get n.val).scale * 1000 = v * (↑(s.enc.get
  n.val).win * 256)) ∧ (∃ (n : Fin 8) (s : State), s.get (F.FBK_ENC_STAT_SSTATE n.val) ≠ 0 ∧ (s.enc.get n.val).lastEdge +
  s.get (F.FBK_ENC_WIN_STANDSTILL_T n.val) * msec ≤ s.clk) ∧ (∃ (n : Fin 8) (x : LinePairs) (s : State), s.encStuck n.val x
  &&& s.encUsed n.val = 0) ∧ (∃ (n : Fin 8) (x : LinePairs) (s : State) (m : Nat), s.kind Block.fbk = 1 ∧ s.encStuck n.val x
  &&& s.encUsed n.val ≠ 0 ∧ s.get (F.FBK_ENC_STAT_BAD n.val) = 0 ∧ m ≠ n.val) ∧ (∃ (n : Fin 8) (s : State), (s.get
  (F.FBK_ENC_STAT_BAD n.val) = 0 ∨ s.clk < (s.enc.get n.val).badAt + 100 * msec)) :=
⟨⟨2, ⟨true, 1000⟩, ⟨false, 1000⟩, 1, st3.setNat (R.FBK_ENC_POS 2) 5, 0, (by decide +kernel)⟩, ⟨2, ⟨true, 9⟩, ⟨true, 0⟩,
    having up [(F.FBK_ENC_FILT_FILT 2, 10)], (by decide +kernel)⟩, ⟨2, ⟨true, 1000⟩, ⟨true, 1000⟩, st3.setNat (R.FBK_ENC_POS
    2) 5, (by decide +kernel)⟩, ⟨2, 100,
    { st3 with enc := [(2, { (default : EncState) with win := 10, scale := 256, cnt := 1, winStart := 1599000000 })] },
    (by decide +kernel)⟩, ⟨2, having up [(F.FBK_ENC_STAT_SSTATE 2, 2)], (by decide +kernel)⟩, ⟨2, ⟨0, 0, 0⟩, having up
    [(F.FBK_ENC_STAT_SSTATE 2, 2)], (by decide +kernel)⟩, ⟨2, ⟨0, 0, 0⟩, st3.setNat (R.FBK_ENC_POS 2) 5, 0,
    (by decide +kernel)⟩, ⟨2, having up [(F.FBK_ENC_STAT_SSTATE 2, 2)], (by decide +kernel)⟩⟩

theorem witness_PulseInterfacesCountAndMeasure_2 : (∃ (n : Fin 8) (s : State), s.get (F.FBK_ENC_STAT_BAD n.val) ≠ 0 ∧ s.flag
  F.PWR_STAT_VIO_OK = true ∧ (s.enc.get n.val).badAt + 100 * msec ≤ s.clk) ∧ (∃ (n : Fin 8) (z : LineLevel) (s : State) (m :
  Nat), (z.held < s.encFilt n.val ∨ z.level = false ∨ (s.enc.get n.val).z = true ∨ s.encCounts n.val = false ∨ s.get
  (F.FBK_ENC_ZCFG_ZMODE n.val) = 0 ∨ s.get (F.FBK_ENC_ZCFG_ZMODE n.val) = 2 ∧ (s.enc.get n.val).zArmed = false) ∧ m ≠ n.val)
  ∧ (∃ (n : Fin 8) (z : LineLevel) (s : State) (m : Nat), s.encFilt n.val ≤ z.held ∧ z.level = true ∧ (s.enc.get n.val).z =
  false ∧ s.encCounts n.val = true ∧ s.get (F.FBK_ENC_CFG_MODE n.val) = 1 ∧ s.get (F.FBK_ENC_ZCFG_ZMODE n.val) = 1 ∧ m ≠
  n.val) ∧ (∃ (n : Fin 8) (z : LineLevel) (s : State), s.encFilt n.val ≤ z.held ∧ z.level = true ∧ (s.enc.get n.val).z =
  false ∧ s.encCounts n.val = true ∧ s.get (F.FBK_ENC_CFG_MODE n.val) = 1 ∧ s.flag (F.FBK_ENC_CFG_LIMEN n.val) = false ∧ (∀
  (k : Nat), k < 16 → s.flag (F.FBK_CMP_CTRL_ARM n.val k) = false) ∧ (s.get (F.FBK_ENC_ZCFG_ZMODE n.val) = 3 ∨ s.get
  (F.FBK_ENC_ZCFG_ZMODE n.val) = 2 ∧ (s.enc.get n.val).zArmed = true) ∧ s.get (F.FBK_ENC_ZCFG_ZMODE n.val) = 2) ∧ (∃ (n :
  Fin 8) (v : Word) (s : State), s.admitsSet (R.FBK_ENC_POS n.val) (BitVec.toNat v) ∧ s.flag (F.FBK_ENC_CFG_LIMEN n.val) =
  false ∧ (∀ (k : Nat), k < 16 → s.flag (F.FBK_CMP_CTRL_ARM n.val k) = false)) ∧ (∃ (n : Fin 8) (v : Word) (s : State),
  s.admitsSet (R.FBK_ENC_ZCFG n.val) (BitVec.toNat v) ∧ BitVec.getLsbD v 4 = true ∧ (s.flag F.PWR_STAT_VIO_OK = true ∨ s.get
  (F.FBK_ENC_CFG_INTYPE n.val) = 0)) ∧ (∃ (n : Fin 8) (k : Fin 16) (v : Word) (s : State), s.admitsSet (R.FBK_CMP_CTRL n.val
  k.val) (BitVec.toNat v) ∧ BitVec.getLsbD v 0 = true) :=
⟨⟨2, having up [(F.FBK_ENC_STAT_BAD 2, 3)], (by decide +kernel)⟩, ⟨2, ⟨true, 1000⟩, st3.setNat (R.FBK_ENC_POS 2) 5, 0,
    (by decide +kernel)⟩, ⟨2, ⟨true, 1000⟩,
    { (having (st3.setNat (R.FBK_ENC_POS 2) 5) [(F.FBK_ENC_CFG_MODE 2, 1), (F.FBK_ENC_ZCFG_ZMODE 2, 1)]) with enc := (having (st3.setNat (R.FBK_ENC_POS 2) 5) [(F.FBK_ENC_CFG_MODE 2, 1), (F.FBK_ENC_ZCFG_ZMODE 2, 1)]).enc.set 2 { (having (st3.setNat (R.FBK_ENC_POS 2) 5) [(F.FBK_ENC_CFG_MODE 2, 1), (F.FBK_ENC_ZCFG_ZMODE 2, 1)]).enc.get 2 with z := false } },
    0, (by decide +kernel)⟩, ⟨2, ⟨true, 1000⟩, { st42 with enc := st42.enc.set 2 { st42.enc.get 2 with z := false } },
    (by decide +kernel)⟩, ⟨2, 77, up, (by decide +kernel)⟩, ⟨2, 0x11, up, (by decide +kernel)⟩, ⟨2, 3, 5, up,
    (by decide +kernel)⟩⟩

theorem witness_FeedbackInputsAndFusion : (∃ (n : Fin 2) (s : State) (m : Nat), s.runs Block.fbk = true ∧ s.flag
  (F.FBK_SSI_CFG_EN n.val) = true ∧ (s.ssi.get n.val).busy = false ∧ m ≠ n.val) ∧ (∃ (n : Fin 2) (d : Word) (e : Word) (s :
  State), (s.ssi.get n.val).busy = true ∧ nbit (s.ssi.get n.val).cfg 2 = false ∧ nbit (s.ssi.get n.val).cfg 3 = false ∧
  (s.ssi.get n.val).cfg / 2 ^ 24 % 64 = 0) ∧ (∃ (n : Fin 2) (d : Word) (e : Word) (s : State), (s.ssi.get n.val).busy = true
  ∧ ((s.ssi.get n.val).errs + 1 < (s.ssi.get n.val).cfg / 2 ^ 8 % 16 ∨ (s.ssi.get n.val).out = true)) ∧ (∃ (n : Fin 2) (d :
  Word) (e : Word) (s : State), (s.ssi.get n.val).busy = true ∧ s.kind Block.fbk = 1 ∧ (s.ssi.get n.val).cfg / 2 ^ 8 % 16 ≤
  (s.ssi.get n.val).errs + 1 ∧ (s.ssi.get n.val).out = false) ∧ (∃ (s : State), s.atMs = false) ∧ (∃ (s : State) (n : Nat)
  (r : Int), s.works Block.fbk = true ∧ s.atMs = true ∧ n < 2 ∧ s.enabled Block.fbk = true ∧ s.released = true ∧ s.flag
  (F.FBK_EMU_CFG_EN n) = true ∧ (r = s.emuSource n * ↑(s.nat (R.FBK_EMU_K n)) * if s.flag (F.FBK_EMU_CFG_NEG n) = true then
  -1 else 1)) ∧ (∃ (s : State) (n : Nat), s.works Block.fbk = true ∧ s.atMs = true ∧ n < 2 ∧ (s.enabled Block.fbk = false ∨
  s.released = false ∨ s.flag (F.FBK_EMU_CFG_EN n) = false)) :=
⟨⟨1, up.put (F.FBK_SSI_CFG_EN 1) 1, 2, (by decide +kernel)⟩, ⟨1, 0x1234, 0,
    { up with ssi := [(1, { (default : SsiState) with busy := true, cfg := 12 * 2 ^ 16, tag := 9 })] },
    (by decide +kernel)⟩, ⟨1, 0x1234, 0x1234,
    { up with ssi := [(1, { (default : SsiState) with busy := true, cfg := 0x400 })] }, (by decide +kernel)⟩, ⟨1, 0x1234, 0,
    { up with ssi := [(1, { (default : SsiState) with busy := true, cfg := 12 * 2 ^ 16, tag := 9 })] },
    (by decide +kernel)⟩, ⟨{ up with tag := 1600000001 }, (by decide +kernel)⟩, ⟨having (up.put (F.FBK_SSI_CFG_EN 1) 1)
    [(H.enable .fbk, 1), (F.FBK_EMU_CFG_EN 0, 1)], 0, ((having (up.put (F.FBK_SSI_CFG_EN 1) 1) [(H.enable .fbk, 1),
    (F.FBK_EMU_CFG_EN 0, 1)]).emuSource 0 * ↑((having (up.put (F.FBK_SSI_CFG_EN 1) 1) [(H.enable .fbk, 1), (F.FBK_EMU_CFG_EN
    0, 1)]).nat (R.FBK_EMU_K 0)) * if (having (up.put (F.FBK_SSI_CFG_EN 1) 1) [(H.enable .fbk, 1), (F.FBK_EMU_CFG_EN 0,
    1)]).flag (F.FBK_EMU_CFG_NEG 0) = true then -1 else 1), (by decide +kernel)⟩, ⟨having (up.put (F.FBK_SSI_CFG_EN 1) 1)
    [(H.enable .fbk, 0)], 0, (by decide +kernel)⟩⟩

theorem witness_FeedbackInputsAndFusion_2 : (∃ (xs : List (BitVec 16)) (high : BitVec 16) (s : State) (n : Nat), s.runs
  Block.fbk = true ∧ xs.length = 16 ∧ n < xs.length ∧ s.get (F.FBK_AIN_CFG_RANGE n) ∈ [1, 2] ∧ s.flag
  (F.FBK_AIN_STAT_SHUNT_OPEN n) = false ∧ (s.ain.get n).highRun < 20 ∧ (s.ain.get n).init = false) ∧ (∃ (xs : List (BitVec
  16)) (high : BitVec 16) (s : State) (n : Nat), s.runs Block.fbk = true ∧ xs.length = 16 ∧ n < 16 ∧ (s.get
  (F.FBK_AIN_CFG_RANGE n) = 0 ∨ s.flag (F.FBK_AIN_STAT_SHUNT_OPEN n) = true)) ∧ (∃ (xs : List (BitVec 16)) (high : BitVec
  16) (s : State) (a : Nat), s.runs Block.fbk = true ∧ xs.length = 16 ∧ a ≠ (evBit 84).addr ∧ (a < R.FBK_AIN_CFG 0 ∨
  R.FBK_AIN_CFG 16 ≤ a)) ∧ (∃ (n : Fin 16) (s : State), s.runs Block.fbk = true ∧ s.flag (F.FBK_AIN_STAT_SHUNT_OPEN n.val) =
  true) ∧ (∃ (j : Nat) (v : Int) (s : State), s.runs Block.fbk = true ∧ s.atMs = true ∧ s.flag F.FBK_FUS_CTRL_EN = true ∧
  s.get F.FBK_FUS_CTRL_BLEND = 0 ∧ s.fus.rem = 0 ∧ s.flag (F.FBK_FUS_SRC_CFG_EN 0) = true ∧ s.get (F.FBK_FUS_SRC_CFG_TYPE 0)
  = 1 ∧ s.get (F.FBK_FUS_SRC_CFG_INST 0) = j ∧ j < 8 ∧ s.get (F.FBK_ENC_CFG_MODE j) ≠ 0 ∧ s.get (F.FBK_ENC_STAT_BAD j) = 0 ∧
  (∀ (k : Nat), k < 6 → 0 < k → s.flag (F.FBK_FUS_SRC_CFG_EN k) = false) ∧ v = divNear 255 (s.int (R.FBK_ENC_SPD j)) 256 ∧
  satS 16 v = v) ∧ (∃ (s : State), s.works Block.fbk = true ∧ s.enabled Block.fbk = false ∧ s.atMs = true ∧ s.flag
  F.FBK_FUS_STAT_VALID = true) ∧ (∃ (s : State), s.works Block.fbk = true ∧ s.enabled Block.fbk = false ∧ s.atMs = true ∧
  s.flag F.FBK_FUS_STAT_VALID = false) :=
⟨⟨List.replicate 16 700, 0, having up [(F.FBK_AIN_CFG_RANGE 0, 1), (F.FBK_AIN_CFG_RANGE 5, 2)], 0, (by decide +kernel)⟩,
    ⟨List.replicate 16 700, 0, up.put (F.FBK_SSI_CFG_EN 1) 1, 2, (by decide +kernel)⟩, ⟨List.replicate 16 700, 0, up.put
    (F.FBK_SSI_CFG_EN 1) 1, 2, (by decide +kernel)⟩, ⟨3, having up [(F.FBK_AIN_STAT_SHUNT_OPEN 3, 1)], (by decide +kernel)⟩,
    ⟨2, (divNear 255 ((having up [(F.FBK_FUS_CTRL_EN, 1), (F.FBK_FUS_SRC_CFG_EN 0, 1), (F.FBK_FUS_SRC_CFG_TYPE 0, 1),
    (F.FBK_FUS_SRC_CFG_INST 0, 2), (F.FBK_ENC_CFG_MODE 2, 1)]).int (R.FBK_ENC_SPD 2)) 256), having up [(F.FBK_FUS_CTRL_EN,
    1), (F.FBK_FUS_SRC_CFG_EN 0, 1), (F.FBK_FUS_SRC_CFG_TYPE 0, 1), (F.FBK_FUS_SRC_CFG_INST 0, 2), (F.FBK_ENC_CFG_MODE 2,
    1)], (by decide +kernel)⟩, ⟨having up [(H.enable .fbk, 0), (F.FBK_FUS_STAT_VALID, 1)], (by decide +kernel)⟩, ⟨having
    (up.put (F.FBK_SSI_CFG_EN 1) 1) [(H.enable .fbk, 0), (F.FBK_FUS_STAT_VALID, 0)], (by decide +kernel)⟩⟩

theorem witness_TilesLoadFlushAndEvict : (∃ (k : Nat) (fill : Nat) (tx : Int) (ty : Int) (e : List Byte) (s : State), s.runs
  Block.geo = true ∧ s.laneIn 3 = true ∧ s.laneLevel 3 ≠ 0 ∧ e = s.bytes (s.laneSlot 3 (s.get (F.LANE_TAIL_TAIL 3))) 64 ∧
  e.getD 2 0 = 128 ∧ BitVec.getLsbD (e.getD 3 0) 0 = true ∧ s.geo.load = none ∧ tx = signed 16 (leNat (List.take 2
  (List.drop 4 e))) ∧ ty = signed 16 (leNat (List.take 2 (List.drop 6 e))) ∧ fill = BitVec.toNat (e.getD 8 0) ∧ fill ≤ 3 ∧
  BitVec.toNat (e.getD 9 0) = s.get F.GEO_MAP_CFG_CS ∧ BitVec.toNat (e.getD 10 0) = s.geoNL ∧ s.memCare.dead = [] ∧
  s.inExtent tx ty = true ∧ s.slotOf [1, 2] tx ty = none ∧ s.freeSlot = some k ∧ fill = 0) ∧ (∃ (k : Nat) (fill : Nat) (tx :
  Int) (ty : Int) (e : List Byte) (s : State) (i : Nat), s.runs Block.geo = true ∧ s.laneIn 3 = true ∧ s.laneLevel 3 ≠ 0 ∧ e
  = s.bytes (s.laneSlot 3 (s.get (F.LANE_TAIL_TAIL 3))) 64 ∧ e.getD 2 0 = 128 ∧ BitVec.getLsbD (e.getD 3 0) 0 = true ∧
  s.geo.load = none ∧ tx = signed 16 (leNat (List.take 2 (List.drop 4 e))) ∧ ty = signed 16 (leNat (List.take 2 (List.drop 6
  e))) ∧ fill = BitVec.toNat (e.getD 8 0) ∧ fill ≤ 3 ∧ BitVec.toNat (e.getD 9 0) = s.get F.GEO_MAP_CFG_CS ∧ BitVec.toNat
  (e.getD 10 0) = s.geoNL ∧ s.memCare.dead = [] ∧ s.inExtent tx ty = true ∧ s.slotOf [1, 2] tx ty = none ∧ s.freeSlot = some
  k ∧ fill ≠ 0 ∧ i < s.geoNL * 16384) ∧ (∃ (k : Nat) (fill : Nat) (tx : Int) (ty : Int) (e : List Byte) (s : State) (m :
  Nat), s.runs Block.geo = true ∧ s.laneIn 3 = true ∧ s.laneLevel 3 ≠ 0 ∧ e = s.bytes (s.laneSlot 3 (s.get (F.LANE_TAIL_TAIL
  3))) 64 ∧ e.getD 2 0 = 128 ∧ BitVec.getLsbD (e.getD 3 0) 0 = true ∧ s.geo.load = none ∧ tx = signed 16 (leNat (List.take 2
  (List.drop 4 e))) ∧ ty = signed 16 (leNat (List.take 2 (List.drop 6 e))) ∧ fill = BitVec.toNat (e.getD 8 0) ∧ fill ≤ 3 ∧
  BitVec.toNat (e.getD 9 0) = s.get F.GEO_MAP_CFG_CS ∧ BitVec.toNat (e.getD 10 0) = s.geoNL ∧ s.memCare.dead = [] ∧
  s.inExtent tx ty = true ∧ s.slotOf [1, 2] tx ty = none ∧ s.freeSlot = some k ∧ m ≠ k) ∧ (∃ (l : GeoLoad) (e : List Byte)
  (s : State), s.runs Block.geo = true ∧ s.laneIn 3 = true ∧ s.laneLevel 3 ≠ 0 ∧ e = s.bytes (s.laneSlot 3 (s.get
  (F.LANE_TAIL_TAIL 3))) 64 ∧ e.getD 2 0 = 129 ∧ BitVec.getLsbD (e.getD 3 0) 1 = false ∧ s.memCare.dead = [] ∧ s.geo.load =
  some l ∧ leNat (List.take 4 (List.drop 4 e)) = l.next ∧ l.next + 56 < s.geoNL * 16384) ∧ (∃ (s : State), s.works Block.geo
  = true ∧ s.enabled Block.geo = false ∧ s.laneIn 3 = true ∧ s.laneLevel 3 ≠ 0 ∧ s.laneType 3 (s.get (F.LANE_TAIL_TAIL 3)) ≠
  0) :=
⟨⟨0, (BitVec.toNat ((st16.bytes (st16.laneSlot 3 (st16.get (F.LANE_TAIL_TAIL 3))) 64).getD 8 0)), (signed 16 (leNat
    (List.take 2 (List.drop 4 (st16.bytes (st16.laneSlot 3 (st16.get (F.LANE_TAIL_TAIL 3))) 64))))), (signed 16 (leNat
    (List.take 2 (List.drop 6 (st16.bytes (st16.laneSlot 3 (st16.get (F.LANE_TAIL_TAIL 3))) 64))))), (st16.bytes
    (st16.laneSlot 3 (st16.get (F.LANE_TAIL_TAIL 3))) 64), entry st8 3 (padTo 64 [0, 0, 0x80, 1, 0, 0, 0, 0, 0, 0, 1]),
    (by decide +kernel)⟩, ⟨0, (BitVec.toNat ((st15.bytes (st15.laneSlot 3 (st15.get (F.LANE_TAIL_TAIL 3))) 64).getD 8 0)),
    (signed 16 (leNat (List.take 2 (List.drop 4 (st15.bytes (st15.laneSlot 3 (st15.get (F.LANE_TAIL_TAIL 3))) 64))))),
    (signed 16 (leNat (List.take 2 (List.drop 6 (st15.bytes (st15.laneSlot 3 (st15.get (F.LANE_TAIL_TAIL 3))) 64))))),
    (st15.bytes (st15.laneSlot 3 (st15.get (F.LANE_TAIL_TAIL 3))) 64), entry st8 3 (padTo 64 [0, 0, 0x80, 1, 0, 0, 0, 0, 2,
    0, 1]), 0, (by decide +kernel)⟩, ⟨0, (BitVec.toNat ((st15.bytes (st15.laneSlot 3 (st15.get (F.LANE_TAIL_TAIL 3)))
    64).getD 8 0)), (signed 16 (leNat (List.take 2 (List.drop 4 (st15.bytes (st15.laneSlot 3 (st15.get (F.LANE_TAIL_TAIL
    3))) 64))))), (signed 16 (leNat (List.take 2 (List.drop 6 (st15.bytes (st15.laneSlot 3 (st15.get (F.LANE_TAIL_TAIL 3)))
    64))))), (st15.bytes (st15.laneSlot 3 (st15.get (F.LANE_TAIL_TAIL 3))) 64), entry st8 3 (padTo 64 [0, 0, 0x80, 1, 0, 0,
    0, 0, 2, 0, 1]), 2, (by decide +kernel)⟩, ⟨⟨0, 0⟩, (st43.bytes (st43.laneSlot 3 (st43.get (F.LANE_TAIL_TAIL 3))) 64),
    { (entry st8 3 ([0, 0, 0x81, 0, 0, 0, 0, 0] ++ List.replicate 56 5)) with geo := { up.geo with load := some ⟨0, 0⟩, slots := [(0, { (default : GeoSlot) with st := 1 })] } },
    (by decide +kernel)⟩, ⟨having (entry st8 3 [0, 0, 0x80]) [(H.enable .geo, 0)], (by decide +kernel)⟩⟩

theorem witness_TilesLoadFlushAndEvict_2 : (∃ (v : Nat) (k : Nat) (n : Nat) (e : GeoSlot) (s : State), (v = 1 ∨ v = 2) ∧
  s.admitsSet R.GEO_MAP_CMD v ∧ s.geo.slots = [(k, e)] ∧ e.st = 2 ∧ s.memCare.dead = [] ∧ e.dirty = true ∧ n = 1 + (s.geoNL
  * 16384 + 55) / 56 ∧ s.laneOut 4 = true ∧ (s.lanes.get 4).held = [] ∧ s.laneLevel 4 + n < s.laneSize 4 ∧ s.get
  (F.LANE_HEAD_HEAD 4) < s.laneSize 4 ∧ s.get (F.LANE_TAIL_TAIL 4) < s.laneSize 4 ∧ s.laneSize 4 ≤ 16384) ∧ (∃ (a : Word)
  (mask : Word) (v : Word) (k : Nat) (s : State), s.mapPlace (BitVec.toNat a) = some k ∧ dramBase ≤ BitVec.toNat a ∧
  BitVec.toNat a < 436207616 ∧ BitVec.toNat a % 4 = 0 ∧ 4 ≤ s.phaseOf ∧ s.parity ≠ some 0 ∧ s.deadPage (BitVec.toNat a) =
  false ∧ s.needsAuth (BitVec.toNat a) mask v = false) ∧ (∃ (a : Word) (mask : Word) (v : Word) (s : State), s.mapPlace
  (BitVec.toNat a) = none ∧ dramBase ≤ BitVec.toNat a ∧ BitVec.toNat a < 436207616 ∧ BitVec.toNat a % 4 = 0 ∧ s.parity ≠
  some 0 ∧ s.needsAuth (BitVec.toNat a) mask v = false) ∧ (∃ (w : Bool) (a : Word) (mask : Word) (v : Word) (s : State),
  (BitVec.toNat a < dramBase ∨ 436207616 ≤ BitVec.toNat a)) ∧ (∃ (s : State), (s.laneIn 3 = false ∨ s.works Block.geo =
  false ∨ s.laneLevel 3 = 0)) :=
⟨⟨1, 0, (1 + ((st35).geoNL * 16384 + 55) / 56), ({ (default : GeoSlot) with st := 2, dirty := true }), st35,
    (by decide +kernel)⟩, ⟨0x10000000#32, 0xFFFF#32, 7#32, 0, st35, (by decide +kernel)⟩, ⟨0x10000000#32, 0xFFFF#32, 7#32,
    st8, (by decide +kernel)⟩, ⟨true, 0xFFFF#32, 0x10000000#32, 0x10000000#32, entry st8 3 (padTo 64 [0, 0, 0x80, 1, 0, 0,
    0, 0, 2, 0, 1]), (by decide +kernel)⟩, ⟨st35, (by decide +kernel)⟩⟩

theorem witness_FencesUpdatesAndChunks : (∃ (s : State), s.admitsSet R.GEO_MAP_CMD 3 ∧ List.find? s.fenceBad s.fencesOn =
  none) ∧ (∃ (f : Nat) (s : State), s.admitsSet R.GEO_MAP_CMD 3 ∧ List.find? s.fenceBad s.fencesOn = some f ∧ s.kind
  Block.geo = 1) ∧ (∃ (s : State), s.flag F.GEO_MAP_STAT_FENCE_BUSY = false) ∧ (∃ (o : Nat) (s : State) (e : Nat × GeoSlot)
  (k : Nat) (i : Nat) (j : Nat), s.memCare.dead = [] ∧ s.flag F.GEO_MAP_STAT_FENCE_BUSY = true ∧ o = s.planeOfs (1 - s.get
  F.GEO_MAP_STAT_PLANE) ∧ e ∈ s.residents ∧ k = e.1 ∧ i < 256 ∧ j < 256) ∧ (∃ (o : Nat) (s : State) (c : Nat),
  s.memCare.dead = [] ∧ s.flag F.GEO_MAP_STAT_FENCE_BUSY = true ∧ o = s.planeOfs (1 - s.get F.GEO_MAP_STAT_PLANE) ∧ (∀ e ∈
  s.residents, c < s.slotBase e.1 + o ∨ s.slotBase e.1 + o + 8192 ≤ c)) ∧ (∃ (s : State), s.onGrid 16000 = false) :=
⟨⟨having up [(F.GEO_FENCE_CTRL_EN 3, 1), (F.GEO_FENCE_CTRL_COUNT 3, 4)], (by decide +kernel)⟩, ⟨3, having up
    [(F.GEO_FENCE_CTRL_EN 3, 1)], (by decide +kernel)⟩, ⟨having up [(F.GEO_FENCE_CTRL_EN 3, 1), (F.GEO_FENCE_CTRL_COUNT 3,
    4)], (by decide +kernel)⟩,
    ⟨(({ (having up [(F.GEO_MAP_STAT_FENCE_BUSY, 1)]) with geo := { up.geo with slots := [(2, { (default : GeoSlot) with st := 2 })] } }
    : State).planeOfs (1 -
    ({ (having up [(F.GEO_MAP_STAT_FENCE_BUSY, 1)]) with geo := { up.geo with slots := [(2, { (default : GeoSlot) with st := 2 })] } }
    : State).get F.GEO_MAP_STAT_PLANE)),
    { (having up [(F.GEO_MAP_STAT_FENCE_BUSY, 1)]) with geo := { up.geo with slots := [(2, { (default : GeoSlot) with st := 2 })] } },
    (2, { (default : GeoSlot) with st := 2 }), 2, 0, 255, (by decide +kernel)⟩, ⟨((st46).planeOfs (1 - (st46).get
    F.GEO_MAP_STAT_PLANE)), st46, 3, (by decide +kernel)⟩, ⟨{ up with tag := 1600000001 }, (by decide +kernel)⟩⟩

theorem witness_FencesUpdatesAndChunks_2 : (∃ (s : State) (a : Nat), s.onGrid 16000 = true ∧ s.enabled Block.str = false ∧
  s.runs Block.geo = true ∧ s.flag F.GEO_CHUNK_CFG_EN = false ∧ s.geo.tails = [] ∧ (∀ (p : Nat), p < 1024 → (s.cross
  p).cross = 0) ∧ a / 65536 ≠ 10 ∧ a / 65536 ≠ 5) ∧ (∃ (s : State), s.onGrid 16000 = true ∧ s.enabled Block.str = false ∧
  s.runs Block.geo = true ∧ s.flag F.GEO_CHUNK_CFG_EN = false ∧ s.geo.tails = [] ∧ (∀ (p : Nat), p < 1024 → (s.cross
  p).cross = 0) ∧ s.geo.swap = true) ∧ (∃ (s : State) (p : Nat) (i : Int), s.onGrid 16000 = true ∧ s.enabled Block.str =
  false ∧ s.runs Block.geo = true ∧ s.flag F.GEO_CHUNK_CFG_EN = false ∧ s.geo.tails = [] ∧ (∀ (p : Nat), p < 1024 → (s.cross
  p).cross = 0) ∧ p < 128 ∧ s.ptOn p = true ∧ s.geoPose.q ≠ 0 ∧ i = divOpen 276 (s.takeShapes.ptAt p s.geoPose).1 1000 ∧
  satS 32 i = i) ∧ (∃ (s : State) (p : Nat) (i : Int), s.onGrid 16000 = true ∧ s.enabled Block.str = false ∧ s.runs
  Block.geo = true ∧ s.flag F.GEO_CHUNK_CFG_EN = false ∧ s.geo.tails = [] ∧ (∀ (p : Nat), p < 1024 → (s.cross p).cross = 0)
  ∧ p < 128 ∧ s.ptOn p = true ∧ s.geoPose.q ≠ 0 ∧ i = divOpen 276 (s.takeShapes.ptAt p s.geoPose).2 1000 ∧ satS 32 i = i) ∧
  (∃ (s : State), s.onGrid 16000 = true ∧ s.enabled Block.str = false ∧ s.runs Block.geo = true ∧ s.flag F.GEO_CHUNK_CFG_EN
  = false ∧ s.geo.tails = [] ∧ (∀ (p : Nat), p < 1024 → (s.cross p).cross = 0) ∧ s.geoPose.q = 0 ∧ s.geo.posed = none) ∧ (∃
  (p : Fin 1024) (s : State), (s.runs Block.geo = false ∨ (s.cross p.val).cross = 0 ∨ ((s.cross p.val).known = true ∨ s.now
  < (s.cross p.val).tc + s.ptWait p.val * msec) ∧ ((s.cross p.val).cross ≠ 3 ∨ (s.cross p.val).stop ≠ none ∨ s.now <
  (s.cross p.val).tk + s.ptWait p.val * msec))) :=
⟨⟨having up [(H.enable .str, 0), (F.GEO_PT_CTRL_EN 0, 1)], 3, (by decide +kernel)⟩,
    ⟨{ (having up [(H.enable .str, 0), (F.GEO_PT_CTRL_EN 0, 1), (F.NAV_POSE_Q_PQ, 3)]) with geo := { up.geo with swap := true, next := [[(0, 0)]] } },
    (by decide +kernel)⟩,
    ⟨{ (having up [(H.enable .str, 0), (F.GEO_PT_CTRL_EN 0, 1), (F.NAV_POSE_Q_PQ, 3)]) with geo := { up.geo with swap := true, next := [[(0, 0)]] } },
    0, (divOpen 276 (st14.takeShapes.ptAt 0 st14.geoPose).1 1000), (by decide +kernel)⟩,
    ⟨{ (having up [(H.enable .str, 0), (F.GEO_PT_CTRL_EN 0, 1), (F.NAV_POSE_Q_PQ, 3)]) with geo := { up.geo with swap := true, next := [[(0, 0)]] } },
    0, (divOpen 276 (st14.takeShapes.ptAt 0 st14.geoPose).2 1000), (by decide +kernel)⟩, ⟨having up [(H.enable .str, 0),
    (F.GEO_PT_CTRL_EN 0, 1)], (by decide +kernel)⟩, ⟨3, having up [(F.GEO_FENCE_CTRL_EN 3, 1), (F.GEO_FENCE_CTRL_COUNT 3,
    4)], (by decide +kernel)⟩⟩

theorem witness_FencesUpdatesAndChunks_3 : (∃ (p : Fin 1024) (s : State) (m : Nat), s.runs Block.geo = true ∧ (s.cross
  p.val).cross = 1 ∧ (s.cross p.val).known = false ∧ (s.cross p.val).tc + s.ptWait p.val * msec ≤ s.now ∧ m ≠ p.val) ∧ (∃ (p
  : Fin 1024) (s : State), s.runs Block.geo = true ∧ (s.cross p.val).cross = 3 ∧ (s.cross p.val).stop = none ∧ (s.cross
  p.val).known = true ∧ (s.cross p.val).tk + s.ptWait p.val * msec ≤ s.now) ∧ (∃ (s : State), (s.runs Block.geo = false ∨
  s.geo.opened = none ∨ s.clk < s.geo.openAt + s.get F.GEO_CHUNK_CFG_CHUNK_T * msec)) ∧ (∃ (t0 : Nat) (s : State), s.runs
  Block.geo = true ∧ s.geo.tails = [] ∧ (∀ (p : Nat), p < 128 → (s.cross p).cross = 0) ∧ s.geo.opened = some t0 ∧
  s.geo.openAt + s.get F.GEO_CHUNK_CFG_CHUNK_T * msec ≤ s.clk ∧ s.geo.recs = [] ∧ s.geo.chunks.length < 2) ∧ (∃ (s : State),
  (s.runs Block.sec = false ∨ ∀ c ∈ s.geo.chunks, c.signed = true)) ∧ (∃ (c : GeoChunk) (n : Nat) (s : State), s.runs
  Block.sec = true ∧ s.memCare.dead = [] ∧ s.kind Block.geo = 1 ∧ s.geo.chunks = [c] ∧ c.signed = false ∧ n =
  c.entries.length + 2 ∧ s.laneOut 2 = true ∧ (s.lanes.get 2).held = [] ∧ s.laneLevel 2 + n < s.laneSize 2 ∧ s.get
  (F.LANE_HEAD_HEAD 2) < s.laneSize 2 ∧ s.get (F.LANE_TAIL_TAIL 2) < s.laneSize 2 ∧ s.laneSize 2 ≤ 16384) :=
⟨⟨3, { up with geo := { up.geo with points := [(3, { (default : GeoCross) with cross := 1 })] } }, 24576,
    (by decide +kernel)⟩, ⟨5,
    { up with geo := { up.geo with points := [(5, { (default : GeoCross) with cross := 3, tk := 5, known := true })] } },
    (by decide +kernel)⟩, ⟨having up [(F.GEO_FENCE_CTRL_EN 3, 1), (F.GEO_FENCE_CTRL_COUNT 3, 4)], (by decide +kernel)⟩, ⟨5,
    having { up with geo := { up.geo with opened := some 5 } } [(F.GEO_CHUNK_CFG_EN, 1), (F.GEO_CHUNK_CFG_CHUNK_T, 1000)],
    (by decide +kernel)⟩, ⟨having up [(F.GEO_FENCE_CTRL_EN 3, 1), (F.GEO_FENCE_CTRL_COUNT 3, 4)], (by decide +kernel)⟩,
    ⟨({ (default : GeoChunk) with head := List.replicate 40 1, t0 := 5 }),
    ((({ (default : GeoChunk) with head := List.replicate 40 1, t0 := 5 })).entries.length + 2),
    { (lane up 2 0) with geo := { up.geo with chunks := [({ (default : GeoChunk) with head := List.replicate 40 1, t0 := 5 })] } },
    (by decide +kernel)⟩⟩

theorem witness_StrideFormsCommands : (∃ (p : Nat) (s : State) (start : Nat), p < 128 ∧ s.runs Block.str = true ∧ s.onGrid
  tickLen = true ∧ s.isLead = false ∧ (∀ (q : Nat), q < 128 → q ≠ p → s.ptActive q = false) ∧ s.ptOn p = true ∧ s.ptKind p =
  2 ∧ (start = wholeUsec (max (s.now + 2 * tickLen)
  (match lastQueued (s.outQueued (outKey p (s.ptBind p))) with | some c => c.2 | none => 0))) ∧ s.ptForce p = 2 ∧ (s.pt
  p).planOn = false ∧ s.str.rebuild = []) ∧ (∃ (p : Nat) (s : State) (start : Nat), p < 128 ∧ s.runs Block.str = true ∧
  s.onGrid tickLen = true ∧ s.isLead = false ∧ (∀ (q : Nat), q < 128 → q ≠ p → s.ptActive q = false) ∧ s.ptOn p = true ∧
  s.ptKind p = 2 ∧ (start = wholeUsec (max (s.now + 2 * tickLen)
  (match lastQueued (s.outQueued (outKey p (s.ptBind p))) with | some c => c.2 | none => 0))) ∧ s.ptForce p = 1 ∧ (s.pt
  p).planOn = true) ∧ (∃ (p : Nat) (s : State) (a : Nat) (b : StrBank) (defer : Nat) (d : Nat) (s0 : Nat) (start : Nat)
  (none_ : Bool), p < 128 ∧ s.runs Block.str = true ∧ s.onGrid tickLen = true ∧ s.isLead = false ∧ (∀ (q : Nat), q < 128 → q
  ≠ p → s.ptActive q = false) ∧ s.ptOn p = true ∧ s.ptKind p = 1 ∧ a = s.strClear p (s.now + 2 * tickLen) ∧ s.ptForce p = 2
  ∧ (s.pt p).planOn = false ∧ s.str.rebuild = [] ∧ b = s.bankFrom p a ∧ d = s.boostEst p * usec ∧ defer = s.get
  (F.SOL_DIE_ARB_BOOST_DEFER_MAX (s.ptInst p / 48)) * usec ∧ s0 = max a (max (b.free - min (s.get F.STR_STAGGER_BUDGET *
  usec) defer) b.start) ∧ start = min s0 (a + s.get F.STR_STAGGER_STAGGER_MAX * usec) ∧ none_ = (decide (s.get
  F.STR_STAGGER_STAGGER_MAX * usec < s0 - a) && decide (defer < b.free - start)) ∧ none_ = true) ∧ (∃ (p : Nat) (s : State)
  (a : Nat), p < 128 ∧ s.runs Block.str = true ∧ s.onGrid tickLen = true ∧ s.isLead = false ∧ (∀ (q : Nat), q < 128 → q ≠ p
  → s.ptActive q = false) ∧ s.ptOn p = true ∧ s.ptKind p = 1 ∧ a = s.strClear p (s.now + 2 * tickLen) ∧ s.ptForce p = 1 ∧
  (s.pt p).planOn = true) ∧ (∃ (p : Nat) (te : Nat) (m : Nat) (f : Fraction) (s : State), p < 128 ∧ s.strMode = 1 ∧ s.onGrid
  tickLen = true ∧ s.isLead = false ∧ (∀ (q : Nat), q < 128 → q ≠ p → s.ptActive q = false) ∧ s.ptOn p = true ∧ s.ptKind p ≠
  0 ∧ s.ptForce p = 0 ∧ (te = s.now + 2 * tickLen + (if (s.pt p).planOn = true then min ((s.latencies p).2.2 + (s.pt p).hyd)
  (s.get F.STR_HORIZON_HORIZON * 1000) else min ((s.latencies p).2.1 + (s.pt p).hyd) (s.get F.STR_HORIZON_HORIZON * 1000)) *
  usec) ∧ f = (s.fractions p te).1 ∧ (s.pt p).planOn = false ∧ (s.pt p).skip = false ∧ (m = if (s.pt p).settled = true then
  s.lateness p te true s.lateSteps 0 else 0) ∧ ((s.pt p).settled = true → s.ptCells p (arc s.strPose (↑te - ↑s.strPose.tag))
  ≠ []) ∧ s.onCond p f = true ∧ s.minOff p * 1000 ≤ (s.pt p).travel ∧ m * 250 ≤ s.get F.STR_LATE_ON_LATE_MAX ∧ s.ptKind p ≠
  1) ∧ (∃ (p : Nat) (te : Nat) (m : Nat) (f : Fraction) (s : State), p < 128 ∧ s.strMode = 1 ∧ s.onGrid tickLen = true ∧
  s.isLead = false ∧ (∀ (q : Nat), q < 128 → q ≠ p → s.ptActive q = false) ∧ s.ptOn p = true ∧ s.ptKind p ≠ 0 ∧ s.ptForce p
  = 0 ∧ (te = s.now + 2 * tickLen + (if (s.pt p).planOn = true then min ((s.latencies p).2.2 + (s.pt p).hyd) (s.get
  F.STR_HORIZON_HORIZON * 1000) else min ((s.latencies p).2.1 + (s.pt p).hyd) (s.get F.STR_HORIZON_HORIZON * 1000)) * usec)
  ∧ f = (s.fractions p te).1 ∧ (s.pt p).planOn = false ∧ (s.pt p).skip = false ∧ (m = if (s.pt p).settled = true then
  s.lateness p te true s.lateSteps 0 else 0) ∧ ((s.pt p).settled = true → s.ptCells p (arc s.strPose (↑te - ↑s.strPose.tag))
  ≠ []) ∧ s.onCond p f = true ∧ s.minOff p * 1000 ≤ (s.pt p).travel ∧ s.get F.STR_LATE_ON_LATE_MAX < m * 250) ∧ (∃ (p : Nat)
  (te : Nat) (m : Nat) (f : Fraction) (s : State), p < 128 ∧ s.strMode = 1 ∧ s.onGrid tickLen = true ∧ s.isLead = false ∧ (∀
  (q : Nat), q < 128 → q ≠ p → s.ptActive q = false) ∧ s.ptOn p = true ∧ s.ptKind p ≠ 0 ∧ s.ptForce p = 0 ∧ (te = s.now + 2
  * tickLen + (if (s.pt p).planOn = true then min ((s.latencies p).2.2 + (s.pt p).hyd) (s.get F.STR_HORIZON_HORIZON * 1000)
  else min ((s.latencies p).2.1 + (s.pt p).hyd) (s.get F.STR_HORIZON_HORIZON * 1000)) * usec) ∧ f = (s.fractions p te).1 ∧
  (s.pt p).planOn = false ∧ (s.pt p).skip = false ∧ (m = if (s.pt p).settled = true then s.lateness p te true s.lateSteps 0
  else 0) ∧ ((s.pt p).settled = true → s.ptCells p (arc s.strPose (↑te - ↑s.strPose.tag)) ≠ []) ∧ (s.onCond p f = false ∨
  (s.pt p).travel < s.minOff p * 1000)) ∧ (∃ (p : Nat) (te : Nat) (m : Nat) (f : Fraction) (s : State), p < 128 ∧ s.strMode
  = 1 ∧ s.onGrid tickLen = true ∧ s.isLead = false ∧ (∀ (q : Nat), q < 128 → q ≠ p → s.ptActive q = false) ∧ s.ptOn p = true
  ∧ s.ptKind p ≠ 0 ∧ s.ptForce p = 0 ∧ (te = s.now + 2 * tickLen + (if (s.pt p).planOn = true then min ((s.latencies p).2.2
  + (s.pt p).hyd) (s.get F.STR_HORIZON_HORIZON * 1000) else min ((s.latencies p).2.1 + (s.pt p).hyd) (s.get
  F.STR_HORIZON_HORIZON * 1000)) * usec) ∧ f = (s.fractions p te).1 ∧ (s.pt p).planOn = true ∧ (s.exclTol p * f.n <
  f.excluded * 100 ∨ f.unapplied * 100 < s.offThresh p * f.n ∧ s.minOn p * 1000 ≤ (s.pt p).travel)) :=
⟨⟨0, (having up [(F.GEO_PT_CTRL_EN 0, 1), (F.GEO_PT_BIND_KIND 0, 2), (F.GEO_PT_BIND_INST 0, 3)]).put (F.STR_PT_CTRL_FORCE 0)
    2, ( wholeUsec (max (st12.now + 2 * tickLen)
    (match lastQueued (st12.outQueued (outKey 0 (st12.ptBind 0))) with | some c => c.2 | none => 0))), (by decide +kernel)⟩,
    ⟨0,
    { ((having up [(F.GEO_PT_CTRL_EN 0, 1), (F.GEO_PT_BIND_KIND 0, 2), (F.GEO_PT_BIND_INST 0, 3)]).put (F.STR_PT_CTRL_FORCE 0) 1) with str := { up.str with points := [(0, { (default : StrPt) with plan := 2, bind := (having up [(F.GEO_PT_CTRL_EN 0, 1), (F.GEO_PT_BIND_KIND 0, 2), (F.GEO_PT_BIND_INST 0, 3)]).bindReg 0 })] } },
    ( wholeUsec (max (st52.now + 2 * tickLen)
    (match lastQueued (st52.outQueued (outKey 0 (st52.ptBind 0))) with | some c => c.2 | none => 0))), (by decide +kernel)⟩,
    ⟨0,
    { (having up [(F.GEO_PT_CTRL_EN 0, 1), (F.GEO_PT_BIND_KIND 0, 1), (F.GEO_PT_BIND_INST 0, 3), (F.STR_PT_CTRL_FORCE 0, 2)]) with str := { up.str with banks := [(0, { free := 1700000000, start := 0 })] } },
    _, _, _, _, _, _, _, ⟨(by decide +kernel), (by decide +kernel), (by decide +kernel), (by decide +kernel),
    (by decide +kernel), (by decide +kernel), (by decide +kernel), (rfl), (by decide +kernel), (by decide +kernel),
    (by decide +kernel), (rfl), (rfl), (rfl), (rfl), (rfl), (rfl), (by decide +kernel)⟩⟩, ⟨0,
    { (having up [(F.GEO_PT_CTRL_EN 0, 1), (F.GEO_PT_BIND_KIND 0, 1), (F.GEO_PT_BIND_INST 0, 3), (F.STR_PT_CTRL_FORCE 0, 1)]) with str := { up.str with points := [(0, { (default : StrPt) with plan := 2, bind := (having up [(F.GEO_PT_CTRL_EN 0, 1), (F.GEO_PT_BIND_KIND 0, 1), (F.GEO_PT_BIND_INST 0, 3), (F.STR_PT_CTRL_FORCE 0, 1)]).bindReg 0 })] } },
    _, ⟨(by decide +kernel), (by decide +kernel), (by decide +kernel), (by decide +kernel), (by decide +kernel),
    (by decide +kernel), (by decide +kernel), (rfl), (by decide +kernel), (by decide +kernel)⟩⟩, ⟨0, _, _, _,
    { (having up [(F.GEO_PT_CTRL_EN 0, 1), (F.GEO_PT_BIND_KIND 0, 2), (F.GEO_PT_BIND_INST 0, 3), (F.STR_PT_THR_EXCL_TOL 0, 100)]) with str := { up.str with points := [(0, { (default : StrPt) with settled := false })] }, geo := { up.geo with shapes := [(0, { x := 0, y := 0, z := 0, w := 50 })] } },
    ⟨(by decide +kernel), (by decide +kernel), (by decide +kernel), (by decide +kernel), (by decide +kernel),
    (by decide +kernel), (by decide +kernel), (by decide +kernel), (rfl), (rfl), (by decide +kernel), (by decide +kernel),
    (rfl), (by decide +kernel), (by decide +kernel), (by decide +kernel), (by decide +kernel), (by decide +kernel)⟩⟩, ⟨0, _,
    _, _,
    { (having up [(F.GEO_PT_CTRL_EN 0, 1), (F.GEO_PT_BIND_KIND 0, 2), (F.GEO_PT_BIND_INST 0, 3), (F.STR_PT_THR_EXCL_TOL 0, 100)]) with str := { up.str with points := [(0, { (default : StrPt) with settled := true })] }, geo := { up.geo with shapes := [(0, { x := 0, y := 0, z := 0, w := 50 })] } },
    ⟨(by decide +kernel), (by decide +kernel), (by decide +kernel), (by decide +kernel), (by decide +kernel),
    (by decide +kernel), (by decide +kernel), (by decide +kernel), (rfl), (rfl), (by decide +kernel), (by decide +kernel),
    (rfl), (by decide +kernel), (by decide +kernel), (by decide +kernel), (by decide +kernel)⟩⟩, ⟨0, _, _, _,
    { (having up [(F.GEO_PT_CTRL_EN 0, 1), (F.GEO_PT_BIND_KIND 0, 2), (F.GEO_PT_BIND_INST 0, 3), (F.STR_PT_THR_ON_THRESH 0, 50)]) with str := { up.str with points := [(0, { (default : StrPt) with settled := true })] }, geo := { up.geo with shapes := [(0, { x := 0, y := 0, z := 0, w := 50 })] } },
    ⟨(by decide +kernel), (by decide +kernel), (by decide +kernel), (by decide +kernel), (by decide +kernel),
    (by decide +kernel), (by decide +kernel), (by decide +kernel), (rfl), (rfl), (by decide +kernel), (by decide +kernel),
    (rfl), (by decide +kernel), (by decide +kernel)⟩⟩, ⟨0, _, 0, _,
    { (having up [(F.GEO_PT_CTRL_EN 0, 1), (F.GEO_PT_BIND_KIND 0, 2), (F.GEO_PT_BIND_INST 0, 3), (F.STR_PT_THR_OFF_THRESH 0, 50)]) with str := { up.str with points := [(0, { (default : StrPt) with plan := 2, bind := (having up [(F.GEO_PT_CTRL_EN 0, 1), (F.GEO_PT_BIND_KIND 0, 2), (F.GEO_PT_BIND_INST 0, 3), (F.STR_PT_THR_OFF_THRESH 0, 50)]).bindReg 0 })] }, geo := { up.geo with shapes := [(0, { x := 0, y := 0, z := 0, w := 50 })] } },
    ⟨(by decide +kernel), (by decide +kernel), (by decide +kernel), (by decide +kernel), (by decide +kernel),
    (by decide +kernel), (by decide +kernel), (by decide +kernel), (rfl), (rfl), (by decide +kernel), (by decide +kernel)⟩⟩⟩

theorem witness_StrideFormsCommands_2 : (∃ (p : Nat) (te : Nat) (m : Nat) (f : Fraction) (s : State), p < 128 ∧ s.strMode =
  1 ∧ s.onGrid tickLen = true ∧ s.isLead = false ∧ (∀ (q : Nat), q < 128 → q ≠ p → s.ptActive q = false) ∧ s.ptOn p = true ∧
  s.ptKind p ≠ 0 ∧ s.ptForce p = 0 ∧ (te = s.now + 2 * tickLen + (if (s.pt p).planOn = true then min ((s.latencies p).2.2 +
  (s.pt p).hyd) (s.get F.STR_HORIZON_HORIZON * 1000) else min ((s.latencies p).2.1 + (s.pt p).hyd) (s.get
  F.STR_HORIZON_HORIZON * 1000)) * usec) ∧ f = (s.fractions p te).1 ∧ (s.pt p).planOn = true ∧ (¬(s.exclTol p * f.n <
  f.excluded * 100 ∨ f.unapplied * 100 < s.offThresh p * f.n ∧ s.minOn p * 1000 ≤ (s.pt p).travel))) ∧ (∃ (s : State),
  (s.onGrid tickLen = false ∨ s.works Block.str = false)) ∧ (∃ (s : State), s.str.rebuild ≠ []) ∧ (∃ (s : State) (p : Nat),
  s.onGrid 16000 = true ∧ s.runs Block.str = true ∧ s.enabled Block.geo = false ∧ s.flag F.FBK_FUS_STAT_VALID = false ∧
  s.isLead = false ∧ (∀ (p : Nat), p < 1024 → s.ptActive p = false) ∧ s.get F.STR_CFG_QREQ ≤ s.geoPose.q ∧ p < 1024) ∧ (∃ (s
  : State), s.onGrid 16000 = true ∧ s.runs Block.str = true ∧ s.enabled Block.geo = false ∧ s.flag F.FBK_FUS_STAT_VALID =
  false ∧ s.isLead = false ∧ (∀ (p : Nat), p < 1024 → s.ptActive p = false) ∧ s.get F.STR_CFG_QREQ ≤ s.geoPose.q ∧
  s.str.stop = false ∧ s.kind Block.str = 1) ∧ (∃ (s : State), s.onGrid 16000 = true ∧ s.runs Block.str = true ∧ s.enabled
  Block.geo = false ∧ s.flag F.FBK_FUS_STAT_VALID = false ∧ s.isLead = false ∧ (∀ (p : Nat), p < 1024 → s.ptActive p =
  false) ∧ s.get F.STR_CFG_QREQ ≤ s.geoPose.q ∧ s.str.stop = true) ∧ (∃ (e : Nat) (s : State), s.str.rebuild = [e]) ∧ (∃ (e
  : Nat) (e' : Nat) (l : List Nat) (s : State), s.str.rebuild = e :: e' :: l) :=
⟨⟨0, _, 0, _,
    { (having up [(F.GEO_PT_CTRL_EN 0, 1), (F.GEO_PT_BIND_KIND 0, 2), (F.GEO_PT_BIND_INST 0, 3)]) with str := { up.str with points := [(0, { (default : StrPt) with plan := 2, bind := (having up [(F.GEO_PT_CTRL_EN 0, 1), (F.GEO_PT_BIND_KIND 0, 2), (F.GEO_PT_BIND_INST 0, 3)]).bindReg 0 })] }, geo := { up.geo with shapes := [(0, { x := 0, y := 0, z := 0, w := 50 })] } },
    ⟨(by decide +kernel), (by decide +kernel), (by decide +kernel), (by decide +kernel), (by decide +kernel),
    (by decide +kernel), (by decide +kernel), (by decide +kernel), (rfl), (rfl), (by decide +kernel), (by decide +kernel)⟩⟩,
    ⟨sat, (by decide +kernel)⟩, ⟨{ st12 with str := { up.str with rebuild := [6] } }, (by decide +kernel)⟩, ⟨having up
    [(H.enable .geo, 0), (F.NAV_POSE_Q_PQ, 3)], 0, (by decide +kernel)⟩, ⟨having up [(H.enable .geo, 0), (F.NAV_POSE_Q_PQ,
    3)], (by decide +kernel)⟩,
    ⟨{ (having (having up [(H.enable .geo, 0), (F.NAV_POSE_Q_PQ, 3)]) [(H.enable .str, 1), (H.enable .geo, 0), (F.FBK_FUS_STAT_VALID, 0)]) with str := { (having (having up [(H.enable .geo, 0), (F.NAV_POSE_Q_PQ, 3)]) [(H.enable .str, 1), (H.enable .geo, 0), (F.FBK_FUS_STAT_VALID, 0)]).str with stop := true } },
    (by decide +kernel)⟩, ⟨0, { st12 with str := { st12.str with rebuild := [0] } }, (by decide +kernel)⟩, ⟨0, 0, [],
    { st12 with str := { st12.str with rebuild := 0 :: 0 :: ([]) } }, (by decide +kernel)⟩⟩

theorem witness_LeadAndSatellitesExchangeCommands : (∃ (a : Fin 64) (ok : Bool) (s : State), (s.str.sats.get a.val).inFlight
  = []) ∧ (∃ (a : Fin 64) (f : SatPush) (l : List SatPush) (s : State), (s.str.sats.get a.val).inFlight = f :: l ∧ (∀ c ∈
  f.cmds, s.now < c.start) ∧ (s.str.sats.get a.val).fails ≠ 2 ∧ f.whole = true) ∧ (∃ (a : Fin 64) (f : SatPush) (l : List
  SatPush) (s : State), (s.str.sats.get a.val).inFlight = f :: l ∧ (∀ c ∈ f.cmds, s.now < c.start) ∧ (s.str.sats.get
  a.val).fails ≠ 2 ∧ f.whole = false) ∧ (∃ (a : Fin 64) (f : SatPush) (l : List SatPush) (s : State) (p : Nat),
  (s.str.sats.get a.val).inFlight = f :: l ∧ (∀ c ∈ f.cmds, s.now < c.start) ∧ (s.str.sats.get a.val).fails = 2 ∧
  (s.str.sats.get a.val).lost = false ∧ s.kind Block.str = 1 ∧ p ∈ s.satPoints a.val ∧ (s.cross p).stop = none) ∧ (∃ (a :
  Fin 64) (s : State), (s.runs Block.str = false ∨ s.isLead = false ∨ (s.str.sats.get a.val).lost = false ∨ s.clk <
  (s.str.sats.get a.val).dueAt + 100 * msec)) ∧ (∃ (a : Fin 64) (ps : List Nat) (s : State), s.runs Block.str = true ∧
  s.isLead = true ∧ (s.str.sats.get a.val).lost = true ∧ (s.str.sats.get a.val).dueAt + 100 * msec ≤ s.clk ∧ (s.str.sats.get
  a.val).queue = [] ∧ (ps = List.filter (fun p => (s.pt p).planOn) (s.satPoints a.val)) ∧ ps = []) ∧ (∃ (a : Fin 64) (ps :
  List Nat) (s : State), s.runs Block.str = true ∧ s.isLead = true ∧ (s.str.sats.get a.val).lost = true ∧ (s.str.sats.get
  a.val).dueAt + 100 * msec ≤ s.clk ∧ (s.str.sats.get a.val).queue = [] ∧ (ps = List.filter (fun p => (s.pt p).planOn)
  (s.satPoints a.val)) ∧ ps ≠ [] ∧ ps.length ≤ 28 ∧ 4 ≤ s.get F.STR_CFG_Q_SAT ∧ (s.str.sats.get a.val).pushed ≠ some (s.now
  / tickLen)) :=
⟨⟨6, true,
    { st7 with str := { up.str with sats := [(6, { (default : SatState) with lost := true, queue := ([⟨128, 0, 1, 0xFFFF, 1700000000, false⟩]) })] } },
    (by decide +kernel)⟩, ⟨6, ⟨1, 1, [⟨128, 0, 1, 0xFFFF, 1700000000, false⟩], true⟩, [], st41, (by decide +kernel)⟩, ⟨6,
    ⟨1, 1, [⟨128, 0, 1, 0xFFFF, 1700000000, false⟩], false⟩, [],
    { st7 with str := { up.str with sats := [(6, { (default : SatState) with inFlight := [⟨1, 1, [⟨128, 0, 1, 0xFFFF, 1700000000, false⟩], false⟩], fails := 1 })] } },
    (by decide +kernel)⟩, ⟨6, ⟨1, 1, [⟨128, 0, 1, 0xFFFF, 1700000000, false⟩], true⟩, [],
    { st7 with str := { up.str with sats := [(6, { ({ (default : SatState) with inFlight := [⟨1, 1, [⟨128, 0, 1, 0xFFFF, 1700000000, false⟩], true⟩] }) with fails := 2 })] } },
    128, (by decide +kernel)⟩, ⟨6, st41, (by decide +kernel)⟩, ⟨6, [],
    { st7 with str := { up.str with sats := [(6, { (default : SatState) with lost := true })] } }, (by decide +kernel)⟩, ⟨6,
    [128],
    { (having lead [(F.STR_SP_CTRL_EN 0, 1), (F.STR_SP_CTRL_SAT 0, 6), (F.STR_SP_CTRL_INST 0, 2), (F.STR_CFG_Q_SAT, 8)]) with str := { up.str with sats := [(6, { (default : SatState) with lost := true })], points := [(128, { (default : StrPt) with plan := 2, bind := st7.bindReg 128 })] } },
    (by decide +kernel)⟩⟩

theorem witness_LeadAndSatellitesExchangeCommands_2 : (∃ (a : Fin 64) (ps : List Nat) (s : State), s.runs Block.str = true ∧
  s.isLead = true ∧ (s.str.sats.get a.val).lost = true ∧ (s.str.sats.get a.val).dueAt + 100 * msec ≤ s.clk ∧ (s.str.sats.get
  a.val).queue = [] ∧ (ps = List.filter (fun p => (s.pt p).planOn) (s.satPoints a.val)) ∧ ps ≠ [] ∧ 4 ≤ s.get
  F.STR_CFG_Q_SAT ∧ (s.str.sats.get a.val).pushed = some (s.now / tickLen)) ∧ (∃ (s : State), (s.laneIn 10 = false ∨
  s.laneLevel 10 = 0)) ∧ (∃ (e : List Byte) (s : State), s.laneIn 10 = true ∧ s.laneLevel 10 ≠ 0 ∧ e = s.bytes (s.laneSlot
  10 (s.get (F.LANE_TAIL_TAIL 10))) 64 ∧ e.getD 2 0 ≠ 0 ∧ (s.isSat = false ∨ s.tickless = true ∨ e.getD 2 0 ≠ 160)) ∧ (∃ (e
  : List Byte) (inst : Nat) (op : Nat) (start : Nat) (s : State), s.isSat = true ∧ s.tickless = false ∧ s.laneIn 10 = true ∧
  s.laneLevel 10 ≠ 0 ∧ e = s.bytes (s.laneSlot 10 (s.get (F.LANE_TAIL_TAIL 10))) 64 ∧ e.getD 2 0 = 160 ∧ leNat (List.take 4
  (List.drop 4 e)) = 1 ∧ inst = BitVec.toNat (e.getD 8 0) ∧ inst < 96 ∧ op = BitVec.toNat (e.getD 9 0) / 16 ∧ (op = 1 ∨ op =
  2) ∧ start = nearTick (s.now / tickLen) (leNat (List.take 3 (List.drop 13 e))) * tickLen + BitVec.toNat (e.getD 12 0) *
  usec ∧ (op = 1 → s.now ≤ start)) ∧ (∃ (s : State), (s.get F.STR_SAT_CFG_RELAY = 0 ∨ s.isLead = false ∨ s.runs Block.str =
  false ∨ s.laneIn (s.get F.STR_SAT_CFG_RELAY) = false ∨ s.laneLevel (s.get F.STR_SAT_CFG_RELAY) = 0)) ∧ (∃ (e : List Byte)
  (n : Nat) (q : Nat) (tOpen : Nat) (s : State), s.runs Block.str = true ∧ s.isLead = true ∧ n = s.get F.STR_SAT_CFG_RELAY ∧
  0 < n ∧ s.laneIn n = true ∧ s.laneLevel n ≠ 0 ∧ e = s.bytes (s.laneSlot n (s.get (F.LANE_TAIL_TAIL n))) 64 ∧ e.getD 2 0 =
  162 ∧ (List.find? (fun q => s.outBind q / 2 ^ 16 % 256 == BitVec.toNat (e.getD 9 0)) (s.satPoints (BitVec.toNat (e.getD 8
  0))) = some q) ∧ e.getD 10 0 = 1 ∧ BitVec.getLsbD (e.getD 11 0) 0 = false ∧ tOpen = leNat (List.take 8 (List.drop 12 e)) ∧
  (s.cross q).cross = 1 ∧ (s.cross q).known = false) :=
⟨⟨6, [128],
    { (having lead [(F.STR_SP_CTRL_EN 0, 1), (F.STR_SP_CTRL_SAT 0, 6), (F.STR_SP_CTRL_INST 0, 2), (F.STR_CFG_Q_SAT, 8)]) with str := { up.str with sats := [(6, { (default : SatState) with lost := true, pushed := some 400000 })], points := [(128, { (default : StrPt) with plan := 2, bind := st7.bindReg 128 })] } },
    (by decide +kernel)⟩, ⟨st41, (by decide +kernel)⟩, ⟨padTo 64 [0, 0, 0xA0], entry up 10 [0, 0, 0xA0],
    (by decide +kernel)⟩, ⟨padTo 64 ([0, 0, 0xA0, 0, 1, 0, 0, 0, 3, 0x10, 0xFF, 0xFF, 0] ++ leBytes 3 400000), 3, 1, 400000
    * 4000, (entry (sat.put F.SYS_LINK_STATE_TICKOK 1) 10 ([0, 0, 0xA0, 0, 1, 0, 0, 0, 3, 0x10, 0xFF, 0xFF, 0] ++ leBytes 3
    400000)), (by decide +kernel)⟩, ⟨st41, (by decide +kernel)⟩, ⟨(st61.bytes (st61.laneSlot (st61.get F.STR_SAT_CFG_RELAY)
    (st61.get (F.LANE_TAIL_TAIL (st61.get F.STR_SAT_CFG_RELAY)))) 64), (st61.get F.STR_SAT_CFG_RELAY), 128, (leNat
    (List.take 8 (List.drop 12 (st61.bytes (st61.laneSlot (st61.get F.STR_SAT_CFG_RELAY) (st61.get (F.LANE_TAIL_TAIL
    (st61.get F.STR_SAT_CFG_RELAY)))) 64)))),
    { (having (entry st7 7 (padTo 64 ([0, 0, 0xA2, 0, 1, 0, 0, 0, 6, 2, 1, 0] ++ leBytes 8 1500000000))) [(F.STR_SAT_CFG_RELAY, 7)]) with geo := { up.geo with points := [(128, { (default : GeoCross) with cross := 1, hydO := 9, bind := st7.bindReg 128 })] } },
    (by decide +kernel)⟩⟩

theorem witness_LateCommandsAtTheDie : (∃ (c : OutCmd) (l : List OutCmd) (s : State), s.str.solWire = c :: l ∧ c.op = 1 ∧
  c.start < s.now ∧ (∀ (p : ℕ), c.src ≠ CmdSource.stride p) ∧ c.src ≠ CmdSource.host ∧ s.isSat = false ∧ s.solFollows c.out
  = false ∧ s.flag (F.SOL_CH_CFG_CSRC c.out) = true ∧ s.solEnabled c.out = true ∧ (s.solMode c.out = 1 ∨ s.solMode c.out =
  2) ∧ s.outForced (dieOf c.out) = false ∧ c.out < 96) ∧ (∃ (p : Nat) (c : OutCmd) (l : List OutCmd) (s : State),
  s.str.solWire = c :: l ∧ c.op = 1 ∧ c.start < s.now ∧ c.src = CmdSource.stride p ∧ s.solFollows c.out = false ∧ s.flag
  (F.SOL_CH_CFG_CSRC c.out) = true ∧ s.solEnabled c.out = true ∧ (s.solMode c.out = 1 ∨ s.solMode c.out = 2) ∧ s.outForced
  (dieOf c.out) = false ∧ c.out < 96) ∧ (∃ (n : Fin 96) (c : OutCmd) (l : List OutCmd) (s : State), s.str.solWire = c :: l ∧
  c.out = n.val ∧ c.op = 2 ∧ c.start < s.now ∧ c.src ≠ CmdSource.host ∧ s.solFollows n.val = false ∧ s.flag
  (F.SOL_CH_CFG_CSRC n.val) = true ∧ s.solEnabled n.val = true ∧ (s.solMode n.val = 1 ∨ s.solMode n.val = 2) ∧ (s.sol.get
  n.val).queue = [] ∧ s.phase n.val ∈ [0, 5, 7] ∧ (∀ (o : ℕ), (s.sol.get n.val).offTag = some o → s.now < o) ∧ ((s.sol.get
  n.val).train = false ∨ s.now < (s.sol.get n.val).nextAt)) ∧ (∃ (n : Fin 96) (c : OutCmd) (l : List OutCmd) (s : State) (o
  : Nat), s.str.solWire = c :: l ∧ c.out = n.val ∧ c.op = 2 ∧ c.start < s.now ∧ c.src ≠ CmdSource.host ∧ s.solFollows n.val
  = false ∧ s.flag (F.SOL_CH_CFG_CSRC n.val) = true ∧ s.solEnabled n.val = true ∧ (s.solMode n.val = 1 ∨ s.solMode n.val =
  2) ∧ (s.sol.get n.val).queue = [] ∧ s.phase n.val = 5 ∧ (s.sol.get n.val).offTag = some o ∧ o ≤ s.now) ∧ (∃ (n : Fin 96)
  (c : OutCmd) (l : List OutCmd) (s : State), s.str.solWire = c :: l ∧ c.out = n.val ∧ c.op = 2 ∧ c.start < s.now ∧ c.src ≠
  CmdSource.host ∧ s.solFollows n.val = false ∧ s.flag (F.SOL_CH_CFG_CSRC n.val) = true ∧ s.solEnabled n.val = true ∧
  (s.solMode n.val = 1 ∨ s.solMode n.val = 2) ∧ (s.sol.get n.val).queue = [] ∧ s.phase n.val ∉ [0, 5, 7] ∧ (s.phase n.val =
  4 → s.passed (s.sol.get n.val).phaseAt ((s.sol.get n.val).prof.tPeak * 10 * usec) = false)) :=
⟨⟨{ src := .lead 9, out := 3, op := 1, start := 9, duty := 0xFFFF }, [],
    { st6 with str := { up.str with solWire := [{ src := .lead 9, out := 3, op := 1, start := 9, duty := 0xFFFF }] } },
    ⟨(by decide +kernel), (by decide +kernel), (by decide +kernel), (fun p h => by cases h), (by decide +kernel),
    (by decide +kernel), (by decide +kernel), (by decide +kernel), (by decide +kernel), (by decide +kernel),
    (by decide +kernel), (by decide +kernel)⟩⟩, ⟨0, ({ src := .stride 0, out := 3, op := 1, start := 9, duty := 0xFFFF } :
    OutCmd), [],
    { (having ({ st6 with str := { up.str with solWire := [(({ src := .lead 9, out := 3, op := 1, start := 9, duty := 0xFFFF } : OutCmd))] } }) [((F.SOL_CH_CFG_CSRC (({ src := .stride 0, out := 3, op := 1, start := 9, duty := 0xFFFF } : OutCmd)).out), 1)]) with str := { (having ({ st6 with str := { up.str with solWire := [(({ src := .lead 9, out := 3, op := 1, start := 9, duty := 0xFFFF } : OutCmd))] } }) [((F.SOL_CH_CFG_CSRC (({ src := .stride 0, out := 3, op := 1, start := 9, duty := 0xFFFF } : OutCmd)).out), 1)]).str with solWire := (({ src := .stride 0, out := 3, op := 1, start := 9, duty := 0xFFFF } : OutCmd)) :: ([]) } },
    (by decide +kernel)⟩, ⟨3, ({ src := .stride 0, out := 3, op := 2, start := 9, duty := 0xFFFF } : OutCmd), [],
    { (st6.put (F.SOL_CH_STAT_PHASE 3) 5) with str := { up.str with solWire := [(({ src := .stride 0, out := 3, op := 2, start := 9, duty := 0xFFFF } : OutCmd))] } },
    (by decide +kernel)⟩, ⟨3, ({ src := .stride 0, out := 3, op := 2, start := 9, duty := 0xFFFF } : OutCmd), [],
    { st71 with sol := st71.sol.set 3 { st71.sol.get 3 with offTag := some 0 } }, 0, (by decide +kernel)⟩, ⟨3,
    { src := .stride 0, out := 3, op := 2, start := 9, duty := 0xFFFF }, [],
    { st6.put (F.SOL_CH_STAT_PHASE 3) 2 with str := { up.str with solWire := [{ src := .stride 0, out := 3, op := 2, start := 9, duty := 0xFFFF }] } },
    (by decide +kernel)⟩⟩

theorem witness_LateCommandsAtTheDie_2 : (∃ (n : Fin 96) (c : OutCmd) (l : List OutCmd) (s : State), s.str.solWire = c :: l
  ∧ c.out = n.val ∧ c.op = 2 ∧ c.start < s.now ∧ c.src ≠ CmdSource.host ∧ s.solFollows n.val = false ∧ s.flag
  (F.SOL_CH_CFG_CSRC n.val) = true ∧ s.solEnabled n.val = true ∧ (s.solMode n.val = 1 ∨ s.solMode n.val = 2) ∧ (s.sol.get
  n.val).queue = [] ∧ s.phase n.val = 4 ∧ s.passed (s.sol.get n.val).phaseAt ((s.sol.get n.val).prof.tPeak * 10 * usec) =
  true ∧ (s.sol.get n.val).offPend = false ∧ (s.sol.get n.val).stopping = false ∧ (∀ (o : ℕ), (s.sol.get n.val).offTag =
  some o → s.now < o) ∧ ((s.sol.get n.val).train = false ∨ s.now < (s.sol.get n.val).nextAt)) ∧ (∃ (n : Fin 96) (c : OutCmd)
  (l : List OutCmd) (s : State), s.str.solWire = c :: l ∧ c.out = n.val ∧ c.op = 2 ∧ c.start < s.now ∧ c.src ≠
  CmdSource.host ∧ s.solFollows n.val = false ∧ s.flag (F.SOL_CH_CFG_CSRC n.val) = true ∧ s.solEnabled n.val = true ∧
  (s.solMode n.val = 1 ∨ s.solMode n.val = 2) ∧ (s.sol.get n.val).queue = [] ∧ s.phase n.val = 0 ∧ s.solMode n.val = 2 ∧
  (s.sol.get n.val).train = true ∧ (s.sol.get n.val).nextAt ≤ s.now ∧ (∀ (o : ℕ), (s.sol.get n.val).offTag = some o → s.now
  < o) ∧ 0 < s.get (F.SOL_CH_DUTY_DUTY n.val) ∧ s.solBlocked n.val = false) ∧ (∃ (s : State), s.str.solWire = []) ∧ (∃ (n :
  Fin 96) (s : State), ((s.sol.get n.val).queue = [] ∨ ∃ c l, (s.sol.get n.val).queue = c :: l ∧ s.now < c.start)) :=
⟨⟨3, ({ src := .stride 0, out := 3, op := 2, start := 9, duty := 0xFFFF } : OutCmd), [],
    { (st6.put (F.SOL_CH_STAT_PHASE 3) 4) with str := { up.str with solWire := [(({ src := .stride 0, out := 3, op := 2, start := 9, duty := 0xFFFF } : OutCmd))] } },
    (by decide +kernel)⟩, ⟨3, { src := .lead 9, out := 3, op := 2, start := 9, duty := 0xFFFF }, [],
    { (having up [(F.SOL_CH_CTRL_EN 3, 1), (F.SOL_CH_CFG_MODE 3, 2), (F.SOL_CH_CFG_CSRC 3, 1), (F.SOL_CH_DUTY_DUTY 3, 500)]) with str := { up.str with solWire := [{ src := .lead 9, out := 3, op := 2, start := 9, duty := 0xFFFF }] }, sol := [(3, { (default : SolCh) with train := true })] },
    ⟨(by decide +kernel), (by decide +kernel), (by decide +kernel), (by decide +kernel), (by decide +kernel),
    (by decide +kernel), (by decide +kernel), (by decide +kernel), (by decide +kernel), (by decide +kernel),
    (by decide +kernel), (by decide +kernel), (by decide +kernel), (by decide +kernel),
    (fun o h => nomatch (show (none : Option Nat) = some o from h)), (by decide +kernel), (by decide +kernel)⟩⟩, ⟨up,
    (by decide +kernel)⟩, ⟨3, up, .inl (by decide +kernel)⟩⟩

theorem witness_ProfilesRunThroughTheirPhases : (∃ (n : Fin 96) (on : Bool) (s : State), (s.admitsSet (R.SOL_CH_CMD n.val)
  (if on = true then 1 else 2))) ∧ (∃ (c : OutCmd) (l : List OutCmd) (s : State) (m : Nat), s.str.solWire = c :: l ∧ c.src =
  CmdSource.host ∧ (c.op = 1 ∨ c.op = 2) ∧ s.solArrival c.out
  { src := c.src, out := c.out, op := c.op, start := s.now, duty := c.duty } = 0 ∧ (s.sol.get c.out).queue = [] ∧ m ≠ c.out)
  ∧ (∃ (n : Fin 96) (c : OutCmd) (l : List OutCmd) (s : State), (s.sol.get n.val).queue = c :: l ∧ c.start ≤ s.now ∧ c.op =
  1 ∧ c.src = CmdSource.host ∧ s.solEnabled n.val = true ∧ s.solMode n.val = 1 ∧ s.solBlocked n.val = false ∧ s.phase n.val
  = 0 ∧ (s.sol.get n.val).train = false ∧ s.flag (F.SOL_DIE_STAT_UV (dieOf n.val)) = false) ∧ (∃ (n : Fin 96) (i : BitVec
  16) (s : State), s.phase n.val = 2 ∧ s.waiting (bankOf n.val) = [] ∧ (s.sol.get n.val).prof.tPeak ≠ 0) ∧ (∃ (n : Fin 96)
  (i : BitVec 16) (s : State), s.phase n.val = 2 ∧ s.waiting (bankOf n.val) = [] ∧ s.kind Block.sol = 1 ∧ (s.sol.get
  n.val).stopping = false ∧ s.passed (s.sol.get n.val).phaseAt ((s.sol.get n.val).prof.tBoost * usec) = true ∧ i.toNat <
  s.get (F.SOL_DIE_PROT_OPEN_MA (dieOf n.val))) ∧ (∃ (n : Fin 96) (s : State), (s.phase n.val ≠ 1 ∨ s.boostOver (bankOf
  n.val) = true ∨ s.passed (s.sol.get n.val).waitAt (s.get (F.SOL_DIE_ARB_BOOST_DEFER_MAX (dieOf n.val)) * usec) = false))
  :=
⟨⟨3, true, st21, (by decide +kernel)⟩, ⟨({ src := .host, out := 3, op := 1, start := 0, duty := 0xFFFF } : OutCmd), [],
    { st21 with str := { up.str with solWire := [(({ src := .host, out := 3, op := 1, start := 0, duty := 0xFFFF } : OutCmd))] } },
    0, (by decide +kernel)⟩, ⟨3,
    { (({ src := .host, out := 3, op := 1, start := 0, duty := 0xFFFF } : OutCmd)) with start := 9 }, [],
    { st21 with sol := [(3, { (default : SolCh) with queue := [{ (({ src := .host, out := 3, op := 1, start := 0, duty := 0xFFFF } : OutCmd)) with start := 9 }] })] },
    (by decide +kernel)⟩, ⟨3, 1234, st57, (by decide +kernel)⟩, ⟨3, 12, having st57 [(F.SOL_DIE_PROT_OPEN_MA 0, 50)],
    (by decide +kernel)⟩, ⟨3, st57.put (F.SOL_CH_STAT_PHASE 3) 4, (by decide +kernel)⟩⟩

theorem witness_ProfilesRunThroughTheirPhases_2 : (∃ (n : Fin 96) (i : BitVec 16) (s : State), s.phase n.val ≠ 2) ∧ (∃ (n :
  Fin 96) (i : BitVec 16) (s : State), s.phase n.val ≠ 3) ∧ (∃ (n : Fin 96) (i : BitVec 16) (s : State), s.phase n.val ≠ 4)
  ∧ (∃ (n : Fin 96) (i : BitVec 16) (s : State), s.phase n.val ≠ 6) ∧ (∃ (n : Fin 96) (i : BitVec 16) (s : State), s.phase
  n.val ≠ 5) ∧ (∃ (n : Fin 96) (i : BitVec 16) (s : State), s.solIdle n.val = false) :=
⟨⟨3, 1234, st57.put (F.SOL_CH_STAT_PHASE 3) 3, (by decide +kernel)⟩, ⟨3, 1234, st57, (by decide +kernel)⟩, ⟨3, 1234, st57,
    (by decide +kernel)⟩, ⟨3, 1234, st57, (by decide +kernel)⟩, ⟨3, 1234, st57, (by decide +kernel)⟩, ⟨3, 1234, st57,
    (by decide +kernel)⟩⟩

theorem witness_ProfilesRunThroughTheirPhases_3 : (∃ (n : Fin 96) (s : State), s.phase n.val = 1 ∧ s.kind Block.sol = 1 ∧
  s.flag (F.ARM_CH_CTRL_ADP n.val) = false ∧ s.boostOver (bankOf n.val) = false ∧ s.passed (s.sol.get n.val).waitAt (s.get
  (F.SOL_DIE_ARB_BOOST_DEFER_MAX (dieOf n.val)) * usec) = true) ∧ (∃ (n : Fin 96) (i : BitVec 16) (s : State), s.phase n.val
  = 3 ∧ (s.sol.get n.val).prof.tPeak ≠ 0) ∧ (∃ (n : Fin 96) (s : State), s.phase n.val = 4 ∧ (s.sol.get n.val).offPend =
  false ∧ (s.sol.get n.val).stopping = false ∧ s.passed (s.sol.get n.val).phaseAt ((s.sol.get n.val).prof.tPeak * 10 * usec)
  = true) ∧ (∃ (n : Fin 96) (s : State), s.phase n.val = 6 ∧ (s.sol.get n.val).train = false ∧ s.solMode n.val ≠ 3) ∧ (∃ (n
  : Fin 96) (s : State), s.phase n.val = 5 ∧ s.solMode n.val ≠ 3 ∧ s.kind Block.sol = 1 ∧ (s.sol.get n.val).stopping = false
  ∧ s.passed (s.sol.get n.val).phaseAt (10 * msec) = true) ∧ (∃ (n : Fin 96) (s : State), s.runs Block.mem = true ∧ s.kind
  Block.sol = 1 ∧ s.solHere n.val = true ∧ s.solIdle n.val = true ∧ (s.armCh.get n.val).closeWin = false) :=
⟨⟨3, st57.put (F.SOL_CH_STAT_PHASE 3) 1, (by decide +kernel)⟩, ⟨3, 1234, st57.put (F.SOL_CH_STAT_PHASE 3) 3,
    (by decide +kernel)⟩, ⟨3, st57.put (F.SOL_CH_STAT_PHASE 3) 4, (by decide +kernel)⟩, ⟨3, st57.put (F.SOL_CH_STAT_PHASE 3)
    6, (by decide +kernel)⟩, ⟨3,
    { (st57.put (F.SOL_CH_STAT_PHASE 3) 5) with sol := [(3, { (default : SolCh) with phaseAt := 1599000000 })] },
    (by decide +kernel)⟩, ⟨3, st21, (by decide +kernel)⟩⟩

theorem witness_PwmTrainsAndDutyWindows : (∃ (n : Fin 96) (s : State), (s.sol.get n.val).train = true ∧ (s.sol.get
  n.val).nextAt ≤ s.now ∧ 0 < s.get (F.SOL_CH_DUTY_DUTY n.val) ∧ s.get (F.SOL_CH_DUTY_DUTY n.val) < 1000 ∧ s.phase n.val = 0
  ∧ s.solBlocked n.val = false ∧ s.boosting (bankOf n.val) = [] ∧ s.flag (F.SOL_DIE_STAT_UV (dieOf n.val)) = false) ∧ (∃ (n
  : Fin 96) (o : Nat) (s : State), (s.sol.get n.val).offTag = some o ∧ o ≤ s.now ∧ s.phase n.val = 5 ∧ (s.sol.get
  n.val).stopping = false) ∧ (∃ (n : Fin 96) (o : Nat) (s : State), (s.sol.get n.val).offTag = some o ∧ o ≤ s.now ∧ s.phase
  n.val = 2) ∧ (∃ (n : Fin 96) (on : Word) (q : BitVec 64) (w : Nat) (tOn : Nat) (s : State), s.kind Block.sol = 1 ∧
  s.solHere n.val = true ∧ s.solFollows n.val = false ∧ (s.sol.get n.val).overLim = false ∧ s.get (F.SOL_CH_I2T_I2T n.val) =
  0 ∧ s.passed (s.sol.get n.val).winAt (s.subWindow n.val) = true ∧ w = s.get (F.SOL_CH_DLIM_WINDOW n.val) * second ∧ (tOn =
  List.foldl (fun a x => a + x.1) 0 (List.take 16 ((s.onTime n.val, q.toNat) :: (s.sol.get n.val).hist))) ∧ (tOn * 100 ≤
  s.get (F.SOL_CH_DLIM_LIMIT n.val) * w ∨ 100 ≤ s.get (F.SOL_CH_DLIM_LIMIT n.val))) ∧ (∃ (n : Fin 96) (on : Word) (q :
  BitVec 64) (w : Nat) (tOn : Nat) (s : State), s.kind Block.sol = 1 ∧ s.solHere n.val = true ∧ s.solFollows n.val = false ∧
  (s.sol.get n.val).overLim = false ∧ s.get (F.SOL_CH_I2T_I2T n.val) = 0 ∧ s.passed (s.sol.get n.val).winAt (s.subWindow
  n.val) = true ∧ w = s.get (F.SOL_CH_DLIM_WINDOW n.val) * second ∧ (tOn = List.foldl (fun a x => a + x.1) 0 (List.take 16
  ((s.onTime n.val, q.toNat) :: (s.sol.get n.val).hist))) ∧ s.get (F.SOL_CH_DLIM_LIMIT n.val) * w < tOn * 100 ∧ s.get
  (F.SOL_CH_DLIM_LIMIT n.val) < 100 ∧ s.flag (F.SOL_CH_DLIM_ACTION n.val) = false ∧ s.solMode n.val ≠ 3) ∧ (∃ (n : Fin 96)
  (on : Word) (q : BitVec 64) (s : State), (s.present Block.sol = false ∨ s.solHere n.val = false ∨ s.solFollows n.val =
  true ∨ s.passed (s.sol.get n.val).winAt (s.subWindow n.val) = false)) ∧ (∃ (n : Fin 96) (on : Word) (q : BitVec 64) (s :
  State), ((s.sol.get n.val).train = false ∨ s.now < (s.sol.get n.val).nextAt)) ∧ (∃ (n : Fin 96) (on : Word) (q : BitVec
  64) (s : State), (s.sol.get n.val).offTag = none) :=
⟨⟨3, st30, (by decide +kernel)⟩, ⟨3, 7,
    { ((having up [(F.SOL_CH_CTRL_EN 3, 1), (F.SOL_CH_CFG_MODE 3, 2), (F.SOL_CH_DUTY_DUTY 3, 300), (F.SOL_CH_PWM_PER 3, 10000)]).put (F.SOL_CH_STAT_PHASE 3) 5) with sol := [(3, { ({ (default : SolCh) with train := true, nextAt := 1599999000 }) with offTag := some 7 })] },
    (by decide +kernel)⟩, ⟨3, 7,
    { ((having up [(F.SOL_CH_CTRL_EN 3, 1), (F.SOL_CH_CFG_MODE 3, 2), (F.SOL_CH_DUTY_DUTY 3, 300), (F.SOL_CH_PWM_PER 3, 10000)]).put (F.SOL_CH_STAT_PHASE 3) 2) with sol := [(3, { ({ (default : SolCh) with train := true, nextAt := 1599999000 }) with offTag := some 7 })] },
    (by decide +kernel)⟩, ⟨3, 20000, 77, (st51.get (F.SOL_CH_DLIM_WINDOW 3) * second), (List.foldl (fun a x => a + x.1) 0
    (List.take 16 ((st51.onTime 3, 77) :: (st51.sol.get 3).hist))),
    { (having (having up [(F.SOL_CH_CTRL_EN 3, 1), (F.SOL_CH_CFG_MODE 3, 2), (F.SOL_CH_DUTY_DUTY 3, 300), (F.SOL_CH_PWM_PER 3, 10000)]) [(F.SOL_CH_DLIM_WINDOW 3, 2), (F.SOL_CH_DLIM_LIMIT 3, 50)]) with sol := [(3, { ({ (default : SolCh) with train := true, nextAt := 1599999000 }) with hist := [(10000, 5)] })] },
    (by decide +kernel)⟩, ⟨3, 20000, 77, (st44.get (F.SOL_CH_DLIM_WINDOW 3) * second), (List.foldl (fun a x => a + x.1) 0
    (List.take 16 ((st44.onTime 3, 77) :: (st44.sol.get 3).hist))),
    { ((having up [(F.SOL_CH_CTRL_EN 3, 1), (F.SOL_CH_CFG_MODE 3, 2), (F.SOL_CH_DUTY_DUTY 3, 300), (F.SOL_CH_PWM_PER 3, 10000)]).put (F.SOL_CH_STAT_PHASE 3) 5) with sol := [(3, { ({ (default : SolCh) with train := true, nextAt := 1599999000 }) with offTag := some 7 })] },
    (by decide +kernel)⟩, ⟨3, 20000, 77, { (st30) with failed := [.sol] }, (by decide +kernel)⟩, ⟨3, 20000, 77, up,
    (by decide +kernel)⟩, ⟨3, 20000, 77, st30, (by decide +kernel)⟩⟩

theorem witness_SolenoidProtection : (∃ (n : Fin 96) (s : State), s.kind Block.sol = 1 ∧ s.solHere n.val = true ∧ s.phase
  n.val = 5 ∧ s.solPaired n.val = false ∧ s.solFollows n.val = false ∧ s.pointsOf 1 n.val = []) ∧ (∃ (n : Fin 96) (m : Word)
  (s : State) (i : Nat), s.admitsSet (R.SOL_CH_FLT n.val) (BitVec.toNat m) ∧ (s.solMode (if s.solFollows n.val = true then
  n.val - 1 else n.val) ≠ 3) ∧ i < 4) ∧ (∃ (d : Fin 2) (x : BitVec 16) (s : State) (n : Nat), d.val < s.nDie ∧ s.dieBFail =
  false ∧ s.kind Block.sol = 1 ∧ 1250 ≤ x.toInt ∧ s.flag (F.SOL_DIE_STAT_DERATE d.val) = false ∧ s.flag
  (F.SOL_DIE_STAT_OFF140 d.val) = false ∧ x.toInt < 1400 ∧ (∀ n ∈ dieChannels d.val, s.solMode n ≠ 3)) ∧ (∃ (d : Fin 2) (x :
  BitVec 16) (s : State) (n : Nat), d.val < s.nDie ∧ s.dieBFail = false ∧ s.kind Block.sol = 1 ∧ 1250 ≤ x.toInt ∧ s.flag
  (F.SOL_DIE_STAT_DERATE d.val) = false ∧ s.flag (F.SOL_DIE_STAT_OFF140 d.val) = false ∧ 1400 ≤ x.toInt ∧ n ∈ dieChannels
  d.val) ∧ (∃ (d : Fin 2) (s : State), s.kind Block.sol = 1 ∧ s.dieHere d.val = true ∧ s.flag (F.SOL_DIE_STAT_OV d.val) =
  false) ∧ (∃ (d : Fin 2) (s : State), s.kind Block.sol = 1 ∧ s.dieHere d.val = true ∧ s.flag (F.SOL_DIE_STAT_UV d.val) =
  false ∧ s.get (F.SOL_DIE_VB_TGT d.val) = s.get (F.SOL_DIE_BOOST_VSET d.val)) :=
⟨⟨3, st2.put (F.SOL_CH_STAT_PHASE 3) 5, (by decide +kernel)⟩, ⟨3, 1#32, st2.put (F.SOL_CH_STAT_PHASE 3) 5, 0,
    (by decide +kernel)⟩, ⟨0, 1250#16, st2.put (F.SOL_CH_STAT_PHASE 3) 5, 0, (by decide +kernel)⟩, ⟨0, 1400#16, st2.put
    (F.SOL_CH_STAT_PHASE 3) 5, 0, (by decide +kernel)⟩, ⟨1, st2, (by decide +kernel)⟩, ⟨1, st2, (by decide +kernel)⟩⟩

theorem witness_SolenoidProtection_2 : (∃ (b : Fin 12) (uv : Bool) (s : State) (n : Nat), s.kind Block.sol = 1 ∧ s.bankHere
  b.val = true ∧ (s.flag (if uv = true then F.SOL_BANK_STAT_UV b.val else F.SOL_BANK_STAT_OC b.val) = false) ∧ (uv = true →
  (bankChannels b.val).any s.solEnabled = true) ∧ n ∈ bankChannels b.val) ∧ (∃ (b : Fin 12) (s : State), s.flag
  (F.SOL_BANK_STAT_UV b.val) = false) ∧ (∃ (b : Fin 12) (s : State), s.flag (F.SOL_BANK_STAT_UV b.val) = true ∧ (∀ n ∈
  bankChannels b.val, s.solMode n ≠ 3)) ∧ (∃ (b : Fin 12) (s : State), s.admits false (R.SOL_BANK_CTRL b.val) 1
  (BitVec.allOnes 32) ∧ (∀ n ∈ bankChannels b.val, s.solMode n ≠ 3)) ∧ (∃ (d : Fin 2) (s : State) (n : Nat), s.powered =
  true ∧ s.passed (s.pwr.linkAt.get d.val) (500 * usec) = true ∧ s.kind Block.pwr = 1 ∧ (s.flag (if d = 0 then
  F.PWR_STAT_DSAFE_A else F.PWR_STAT_DSAFE_B) = false) ∧ n ∈ dieChannels d.val) :=
⟨⟨0, (true → (bankChannels 0).any (st2.put (F.SOL_CH_STAT_PHASE 3) 5).solEnabled = true), st2.put (F.SOL_CH_STAT_PHASE 3) 5,
    0, (by decide +kernel)⟩, ⟨2, st2.put (F.SOL_BANK_STAT_OC 2) 1, (by decide +kernel)⟩, ⟨2, st2.put (F.SOL_BANK_STAT_UV 2)
    1, (by decide +kernel)⟩, ⟨2, st2.put (F.SOL_BANK_STAT_UV 2) 1, (by decide +kernel)⟩, ⟨0, st2.put (F.SOL_CH_STAT_PHASE 3)
    5, 0, (by decide +kernel)⟩⟩

theorem witness_LatenciesAreLearned : (∃ (a : ArmCh) (now : Nat) (x : OpenSign), a.openWin = true ∧ a.openAt ≤ x.tag.toNat ∧
  x.tag.toNat ≤ a.openEnd.getD now ∧ a.peakAt = none) ∧ (∃ (a : ArmCh) (now : Nat) (x : OpenSign) (p : Nat), a.openWin =
  true ∧ a.openAt ≤ x.tag.toNat ∧ x.tag.toNat ≤ a.openEnd.getD now ∧ a.peakAt = some p ∧ p < x.tag.toNat) ∧ (∃ (a : ArmCh)
  (x : CloseSign), a.closeWin = true ∧ a.closeAt ≤ x.tag.toNat ∧ x.tag.toNat ≤ a.closeAt + a.closeFor * msec ∧ a.decayEnd =
  none) ∧ (∃ (a : ArmCh) (x : CloseSign) (p : Nat), a.closeWin = true ∧ a.closeAt ≤ x.tag.toNat ∧ x.tag.toNat ≤ a.closeAt +
  a.closeFor * msec ∧ a.decayEnd = some p ∧ p < x.tag.toNat) ∧ (∃ (n : Fin 96) (c : Bool) (x : OpenSign) (y : CloseSign) (us
  : Nat) (s : State), ((if c = true then (s.armCh.get n.val).closes y else (s.armCh.get n.val).opens s.now x) = true) ∧
  s.pointsOf 1 n.val = [] ∧ s.isSat = false ∧ (us = (divNear 418 (↑(if c = true then y.tag.toNat - (s.armCh.get
  n.val).closeAt else x.tag.toNat - (s.armCh.get n.val).openAt)) 16).toNat) ∧ ((if c = true then (s.armCh.get
  n.val).closeSkip else (s.armCh.get n.val).openSkip) = true)) ∧ (∃ (n : Fin 96) (c : Bool) (x : OpenSign) (y : CloseSign)
  (us : Nat) (s : State), ((if c = true then (s.armCh.get n.val).closes y else (s.armCh.get n.val).opens s.now x) = true) ∧
  s.pointsOf 1 n.val = [] ∧ s.isSat = false ∧ (us = (divNear 418 (↑(if c = true then y.tag.toNat - (s.armCh.get
  n.val).closeAt else x.tag.toNat - (s.armCh.get n.val).openAt)) 16).toNat) ∧ ((if c = true then (s.armCh.get
  n.val).closeSkip else (s.armCh.get n.val).openSkip) = false) ∧ s.get (F.ARM_CH_BOUND_LAT_MIN n.val) = 0 ∧ s.get
  (F.ARM_CH_BOUND_LAT_MAX n.val) = 0 ∧ s.get (armConf n.val c) = 0) :=
⟨⟨{ (default : ArmCh) with openWin := true }, 9, ⟨9, 0⟩, (by decide +kernel)⟩,
    ⟨{ (default : ArmCh) with openWin := true, peakAt := some 5 }, 9, ⟨9, 0⟩, 5, (by decide +kernel)⟩,
    ⟨{ (default : ArmCh) with closeWin := true }, ⟨0, 0, 0, 0, 0⟩, (by decide +kernel)⟩,
    ⟨{ (default : ArmCh) with closeWin := true, closeFor := 1, decayEnd := some 5 }, ⟨9, 0, 0, 0, 0⟩, 5,
    (by decide +kernel)⟩, ⟨3, false, ⟨1600000000, 500⟩, ⟨1600000000, 20, 100, 0, 0⟩, ((divNear 418 (↑(if false = true then
    (⟨1600000000, 20, 100, 0, 0⟩ : CloseSign).tag.toNat - ((st31).armCh.get 3).closeAt else (⟨1600000000, 500⟩ :
    OpenSign).tag.toNat - ((st31).armCh.get 3).openAt)) 16).toNat), st31, (by decide +kernel)⟩, ⟨3, false, ⟨1600000000,
    500⟩, ⟨1600000000, 20, 100, 0, 0⟩, ((divNear 418 (↑(if false = true then (⟨1600000000, 20, 100, 0, 0⟩ :
    CloseSign).tag.toNat - (st24.armCh.get 3).closeAt else (⟨1600000000, 500⟩ : OpenSign).tag.toNat - (st24.armCh.get
    3).openAt)) 16).toNat), st24, (by decide +kernel)⟩⟩

theorem witness_LatenciesAreLearned_2 : (∃ (n : Fin 96) (c : Bool) (x : OpenSign) (y : CloseSign) (us : Nat) (s : State),
  ((if c = true then (s.armCh.get n.val).closes y else (s.armCh.get n.val).opens s.now x) = true) ∧ s.pointsOf 1 n.val = []
  ∧ s.isSat = false ∧ (us = (divNear 418 (↑(if c = true then y.tag.toNat - (s.armCh.get n.val).closeAt else x.tag.toNat -
  (s.armCh.get n.val).openAt)) 16).toNat) ∧ ((if c = true then (s.armCh.get n.val).closeSkip else (s.armCh.get
  n.val).openSkip) = false) ∧ s.get (F.ARM_CH_BOUND_LAT_MIN n.val) = 0 ∧ s.get (F.ARM_CH_BOUND_LAT_MAX n.val) = 0 ∧ s.get
  (armConf n.val c) ≠ 0) ∧ (∃ (n : Fin 96) (c : Bool) (x : OpenSign) (y : CloseSign) (us : Nat) (s : State), ((if c = true
  then (s.armCh.get n.val).closes y else (s.armCh.get n.val).opens s.now x) = true) ∧ s.pointsOf 1 n.val = [] ∧ s.isSat =
  false ∧ (us = (divNear 418 (↑(if c = true then y.tag.toNat - (s.armCh.get n.val).closeAt else x.tag.toNat - (s.armCh.get
  n.val).openAt)) 16).toNat) ∧ ((if c = true then (s.armCh.get n.val).closeSkip else (s.armCh.get n.val).openSkip) = false)
  ∧ s.get (F.ARM_CH_BOUND_LAT_MIN n.val) ≤ s.get (F.ARM_CH_BOUND_LAT_MAX n.val) ∧ s.get (F.ARM_CH_BOUND_LAT_MAX n.val) ≠ 0)
  ∧ (∃ (n : Fin 96) (c : Bool) (s : State), s.kind Block.arm = 1 ∧ s.isSat = false ∧ ((if c = true then (s.armCh.get
  n.val).closeWin && s.passed (s.armCh.get n.val).closeClk ((s.armCh.get n.val).closeFor * msec) else (s.armCh.get
  n.val).openWin && s.armOpenEnded n.val) = true) ∧ s.get (armMiss n.val c) = 0) ∧ (∃ (n : Fin 96) (x : OpenSign) (y :
  CloseSign) (c : Bool) (s : State), ((s.armCh.get n.val).openWin = false ∨ (s.armCh.get n.val).opens s.now x = false)) ∧ (∃
  (n : Fin 96) (x : OpenSign) (y : CloseSign) (c : Bool) (s : State), ((s.armCh.get n.val).closeWin = false ∨ (s.armCh.get
  n.val).closes y = false)) ∧ (∃ (n : Fin 96) (x : OpenSign) (y : CloseSign) (c : Bool) (s : State), ((if c = true then
  (s.armCh.get n.val).closeWin else (s.armCh.get n.val).openWin) = false)) :=
⟨⟨3, false, ⟨1600000000, 500⟩, ⟨1600000000, 20, 100, 0, 0⟩, ((divNear 418 (↑(if false = true then (⟨1600000000, 20, 100, 0,
    0⟩ : CloseSign).tag.toNat - ((having st24 [(armConf 3 false, 7), (armEst 3 false, 60000)]).armCh.get 3).closeAt else
    (⟨1600000000, 500⟩ : OpenSign).tag.toNat - ((having st24 [(armConf 3 false, 7), (armEst 3 false, 60000)]).armCh.get
    3).openAt)) 16).toNat), having st24 [(armConf 3 false, 7), (armEst 3 false, 60000)], (by decide +kernel)⟩, ⟨3, false,
    ⟨1600000000, 500⟩, ⟨1600000000, 20, 100, 0, 0⟩, ((divNear 418 (↑(if false = true then (⟨1600000000, 20, 100, 0, 0⟩ :
    CloseSign).tag.toNat - ((having st24 [(armConf 3 false, 255), (armEst 3 false, 6240), (F.ARM_CH_BOUND_LAT_MIN 3, 100),
    (F.ARM_CH_BOUND_LAT_MAX 3, 3000)]).armCh.get 3).closeAt else (⟨1600000000, 500⟩ : OpenSign).tag.toNat - ((having st24
    [(armConf 3 false, 255), (armEst 3 false, 6240), (F.ARM_CH_BOUND_LAT_MIN 3, 100), (F.ARM_CH_BOUND_LAT_MAX 3,
    3000)]).armCh.get 3).openAt)) 16).toNat), having st24 [(armConf 3 false, 255), (armEst 3 false, 6240),
    (F.ARM_CH_BOUND_LAT_MIN 3, 100), (F.ARM_CH_BOUND_LAT_MAX 3, 3000)], (by decide +kernel)⟩, ⟨3, false, having st24
    [(armConf 3 false, 7), (armEst 3 false, 500)], (by decide +kernel)⟩, ⟨3, ⟨1600000000, 500⟩, ⟨1600000000, 20, 100, 0, 0⟩,
    false, having (having up [(F.ARM_DRIFT_STEP_MAX, 50)]) [(armEst 3 false, 5000), (armEst 3 true, 3000)],
    (by decide +kernel)⟩, ⟨3, ⟨1600000000, 500⟩, ⟨1600000000, 20, 100, 0, 0⟩, false, st24, (by decide +kernel)⟩, ⟨3,
    ⟨1600000000, 500⟩, ⟨1600000000, 20, 100, 0, 0⟩, false, having (having up [(F.ARM_DRIFT_STEP_MAX, 50)]) [(armEst 3 false,
    5000), (armEst 3 true, 3000)], (by decide +kernel)⟩⟩

theorem witness_LatenciesAreLearned_3 : (∃ (l : List HoldMeas) (s : State), (s.works Block.arm = false ∨ s.atMs = false)) ∧
  (∃ (s : State) (n : Nat), s.works Block.arm = true ∧ s.atMs = true ∧ n < s.nSol) ∧ (∃ (n : Fin 96) (on : BitVec 16) (i :
  BitVec 16) (s : State), s.works Block.arm = true ∧ s.atMs = true ∧ (s.phase n.val = 5 ∧ s.solMode n.val ≠ 3 ∧ s.passed
  (s.sol.get n.val).phaseAt (10 * msec) = true ∨ (s.armCh.get n.val).holdEnd ≠ 0 ∧ s.clk < (s.armCh.get n.val).holdEnd +
  msec) ∧ i.toNat ≠ 0) ∧ (∃ (n : Fin 96) (on : BitVec 16) (i : BitVec 16) (s : State), s.works Block.arm = true ∧ s.atMs =
  true ∧ (s.phase n.val ≠ 5 ∨ s.solMode n.val = 3 ∨ s.passed (s.sol.get n.val).phaseAt (10 * msec) = false) ∧ ((s.armCh.get
  n.val).holdEnd = 0 ∨ (s.armCh.get n.val).holdEnd + msec ≤ s.clk)) ∧ (∃ (n : Fin 96) (s : State), s.admits false
  (R.ARM_CH_CTRL n.val) 16 (BitVec.allOnes 32)) :=
⟨⟨[], { up with tag := 1600000001 }, (by decide +kernel)⟩, ⟨st24, 0, (by decide +kernel)⟩, ⟨3, 5000, 700,
    { (having up [(F.SOL_CH_STAT_PHASE 3, 5), (F.SOL_CH_CFG_MODE 3, 1)]) with sol := [(3, { (default : SolCh) with phaseAt := 1599000000 })] },
    (by decide +kernel)⟩, ⟨3, 1000, 1000, { st24 with armCh := st24.armCh.set 3 { st24.armCh.get 3 with holdEnd := 0 } },
    (by decide +kernel)⟩, ⟨3, having st24 [(armConf 3 true, 7), (armStuck 3 true, 1), (armMiss 3 true, 2),
    (F.ARM_CH_INIT_INIT_O 3, 5), (F.ARM_CH_INIT_INIT_C 3, 6)], (by decide +kernel)⟩⟩

theorem witness_EndOfTravelAdaptiveBoostAndCalibration : (∃ (k : Fin 24) (c : Bool) (x : EotSign) (w : EotWin) (s : State),
  w = (s.armSw.get k.val).at c ∧ w.on = true ∧ x.tag.toNat ≤ w.since + w.eotT * msec ∧ (w.src = 1 ∧ c = false ∧ w.stallMa ≤
  x.cur.toNat ∧ w.since + (w.ignT + w.stallT) * msec ≤ x.tag.toNat ∨ (w.src = 2 ∨ w.src = 3) ∧ w.away = true ∧ s.eotThere c
  w = true)) ∧ (∃ (k : Fin 24) (c : Bool) (x : EotSign) (ms : Nat) (s : State), s.eotSeen k.val c x = true ∧ (c = false →
  s.eotSeen k.val true x = false) ∧ s.pointsOf 2 k.val = [] ∧ s.isSat = false ∧ ms = (divNear 422 (↑x.tag.toNat -
  ↑((s.armSw.get k.val).at c).since) ↑msec).toNat ∧ (s.armSw.get k.val).later = []) ∧ (∃ (k : Fin 24) (c : Bool) (x :
  EotSign) (ms : Nat) (s : State), s.eotSeen k.val c x = true ∧ (c = false → s.eotSeen k.val true x = false) ∧ s.pointsOf 2
  k.val = [] ∧ s.isSat = false ∧ ms = (divNear 422 (↑x.tag.toNat - ↑((s.armSw.get k.val).at c).since) ↑msec).toNat ∧ ((if c
  = true then (s.armSw.get k.val).confC else (s.armSw.get k.val).confO) = 0)) ∧ (∃ (k : Fin 24) (c : Bool) (s : State),
  s.kind Block.arm = 1 ∧ s.isSat = false ∧ ((s.armSw.get k.val).at c).on = true ∧ s.passed ((s.armSw.get k.val).at c).clk
  (((s.armSw.get k.val).at c).eotT * msec) = true ∧ (c = true → s.eotPast k.val false = false) ∧ (s.armSw.get k.val).later =
  []) ∧ (∃ (d : Fin 2) (s : State), s.runs Block.arm = true ∧ s.flag (F.SOL_DIE_BOOST_ADAPT d.val) = true ∧ (s.armDie.get
  d.val).hold ≤ s.clk ∧ s.adaptSet d.val = []) ∧ (∃ (k : Fin 24) (x : EotSign) (s : State), (s.armSw.get k.val).opening.on =
  false ∧ (s.armSw.get k.val).closing.on = false) ∧ (∃ (k : Fin 24) (x : EotSign) (s : State), s.eotSeen k.val true x =
  false ∧ s.eotSeen k.val false x = false) ∧ (∃ (k : Fin 24) (x : EotSign) (s : State), s.eotPast k.val true = false ∧
  s.eotPast k.val false = false) :=
⟨⟨3, false, ⟨1600000000, 500⟩, (((st19 : State).armSw.get 3).at false), st19, (by decide +kernel)⟩, ⟨3, false, ⟨1600000000,
    500⟩, 100, st19, (by decide +kernel)⟩, ⟨3, false, ⟨1600000000, 500⟩, 100, st19, (by decide +kernel)⟩, ⟨3, false,
    { up with armSw := [(3, { (default : ArmSw) with opening := { (default : EotWin) with on := true, since := 1598400000, clk := 1500000000, cfg := 0x100003E8 } })] },
    (by decide +kernel)⟩, ⟨0, st13, (by decide +kernel)⟩, ⟨3, ⟨1600000000, 0⟩, st13, (by decide +kernel)⟩, ⟨3, ⟨1600000000,
    0⟩, st13, (by decide +kernel)⟩, ⟨3, ⟨1600000000, 0⟩, st13, (by decide +kernel)⟩⟩

theorem witness_EndOfTravelAdaptiveBoostAndCalibration_2 : (∃ (d : Fin 2) (s : State), (s.runs Block.arm = false ∨ s.flag
  (F.SOL_DIE_BOOST_ADAPT d.val) = false ∨ s.clk < (s.armDie.get d.val).hold)) ∧ (∃ (d : Fin 2) (v : Nat) (goal : Nat) (s :
  State), s.runs Block.arm = true ∧ s.flag (F.SOL_DIE_BOOST_ADAPT d.val) = true ∧ (s.armDie.get d.val).hold ≤ s.clk ∧
  s.adaptSet d.val ≠ [] ∧ v = s.get (F.SOL_DIE_VB_TGT d.val) ∧ goal = s.get (F.ARM_DIE_ADAPT_T_TARGET d.val) * 1000000) ∧ (∃
  (n : Fin 96) (s : State), s.phase n.val = 7) ∧ (∃ (k : Fin 24) (s : State), (s.hsw.get k.val).cal = true) ∧ (∃ (n : Fin
  96) (k : Fin 24) (ok : Bool) (sense : Bool) (s : State), s.phase n.val ≠ 7) ∧ (∃ (n : Fin 96) (k : Fin 24) (ok : Bool)
  (sense : Bool) (s : State), (s.hsw.get k.val).cal = false) ∧ (∃ (n : Fin 96) (k : Fin 24) (ok : Bool) (sense : Bool) (s :
  State), s.runs Block.mem = false) ∧ (∃ (s : State), s.runs Block.mem = true) :=
⟨⟨0, up.put (F.SOL_CH_STAT_PHASE 3) 7, (by decide +kernel)⟩, ⟨0, ((st56).get (F.SOL_DIE_VB_TGT 0)), ((st56).get
    (F.ARM_DIE_ADAPT_T_TARGET 0) * 1000000), st56, (by decide +kernel)⟩, ⟨3, up.put (F.SOL_CH_STAT_PHASE 3) 7,
    (by decide +kernel)⟩, ⟨3, { up with hsw := [(3, { (default : HswCh) with cal := true, offAt := 9 })] },
    (by decide +kernel)⟩, ⟨3, 3, false, false, st13, (by decide +kernel)⟩, ⟨3, 3, false, false, st13, (by decide +kernel)⟩,
    ⟨3, 3, false, false, State.reset, (by decide +kernel)⟩, ⟨up, (by decide +kernel)⟩⟩

theorem witness_SwitchesTakeCommandsAndProtectThemselves : (∃ (k : Fin 24) (on : Bool) (s : State), (s.admitsSet
  (R.HSW_CH_CMD k.val) (if on = true then 1 else 2))) ∧ (∃ (c : OutCmd) (l : List OutCmd) (s : State) (m : Nat),
  s.str.hswWire = c :: l ∧ c.src = CmdSource.host ∧ (c.op = 1 ∨ c.op = 2) ∧ s.limp = false ∧ s.flag (F.HSW_CH_CFG_CSRC
  c.out) = false ∧ s.hswReason c.out c = 0 ∧ (s.hsw.get c.out).queue = [] ∧ m ≠ c.out) ∧ (∃ (k : Fin 24) (c : OutCmd) (l :
  List OutCmd) (e : BitVec 16) (s : State), (s.hsw.get k.val).queue = c :: l ∧ c.start ≤ s.now ∧ c.op = 1 ∧ c.src =
  CmdSource.host ∧ s.limp = false ∧ s.hswReason k.val c = 0 ∧ s.hswLatched k.val = false ∧ s.hswHot k.val = false ∧
  s.hswOnState k.val = false ∧ s.get (F.HSW_CH_CFG_MODE k.val) = 1 ∧ s.get (F.ARM_SW_CFG_SRC k.val) = 0) ∧ (∃ (k : Fin 24)
  (c : OutCmd) (l : List OutCmd) (e : BitVec 16) (s : State), (s.hsw.get k.val).queue = c :: l ∧ c.start ≤ s.now ∧ c.op = 1
  ∧ c.src = CmdSource.host ∧ s.limp = false ∧ s.hswReason k.val c = 0 ∧ s.hswLatched k.val = true) ∧ (∃ (k : Fin 24) (c :
  OutCmd) (l : List OutCmd) (e : BitVec 16) (s : State), (s.hsw.get k.val).queue = c :: l ∧ c.start ≤ s.now ∧ c.op = 2 ∧
  c.src = CmdSource.host ∧ s.limp = false ∧ s.hswReason k.val c = 0 ∧ s.hswOut k.val = true ∧ (s.hsw.get k.val).clamp = [] ∧
  e.toNat ≤ 250 ∧ s.get (F.ARM_SW_CFG_SRC k.val) = 0) ∧ (∃ (k : Fin 24) (i : Instr) (e : BitVec 16) (x : BitVec 16) (y :
  SwShort) (f : Fld) (ev : Nat) (s : State), s.kind Block.hsw = 1 ∧ s.hswOut k.val = true ∧ s.limped k.val = false ∧ s.get
  (F.ARM_SW_CFG_SRC k.val) = 0 ∧ s.pointsOf 2 k.val = [] ∧ (s.hsw.get k.val).clamp = [] ∧ e.toNat ≤ 250 ∧ (i =
  Instr.inrushEnd k true e ∧ f = F.HSW_CH_FLT_LIMIT k.val ∧ ev = 181 ∧ s.flag (F.HSW_CH_STAT_INRUSH k.val) = true ∧
  (s.hsw.get k.val).inrEnd ≤ s.clk ∨ i = Instr.limitTimeout k e ∧ f = F.HSW_CH_FLT_LIMIT k.val ∧ ev = 181 ∧ s.hswJudged
  k.val = true ∧ s.passed (s.hsw.get k.val).judgeAt (s.ocTime k.val * msec) = true ∨ i = Instr.hswShort k y ∧ y.energy = e ∧
  f = F.HSW_CH_FLT_SHORT k.val ∧ ev = 177 ∧ (hardLimit k.val ≤ y.cur.toNat ∨ (∃ l, s.hswLimit k.val = some l ∧ l ≤
  y.cur.toNat) ∧ y.volt.toNat < 150 ∧ 10 ≤ y.held.toNat ∧ 200 * usec ≤ s.hswAge k.val ∧ s.flag (F.HSW_CH_STAT_DIPHOLD k.val)
  = false) ∨ i = Instr.hswOvertemp k x e ∧ f = F.HSW_CH_FLT_OT k.val ∧ ev = 179 ∧ s.hswHere k.val = true ∧ 1750 ≤ x.toInt ∧
  (s.hsw.get k.val).ot = false) ∧ ev = 177) ∧ (∃ (k : Fin 24) (i : Instr) (e : BitVec 16) (x : BitVec 16) (y : SwShort) (f :
  Fld) (ev : Nat) (s : State), s.kind Block.hsw = 1 ∧ s.hswOut k.val = true ∧ s.limped k.val = false ∧ s.get
  (F.ARM_SW_CFG_SRC k.val) = 0 ∧ s.pointsOf 2 k.val = [] ∧ (s.hsw.get k.val).clamp = [] ∧ e.toNat ≤ 250 ∧ (i =
  Instr.inrushEnd k true e ∧ f = F.HSW_CH_FLT_LIMIT k.val ∧ ev = 181 ∧ s.flag (F.HSW_CH_STAT_INRUSH k.val) = true ∧
  (s.hsw.get k.val).inrEnd ≤ s.clk ∨ i = Instr.limitTimeout k e ∧ f = F.HSW_CH_FLT_LIMIT k.val ∧ ev = 181 ∧ s.hswJudged
  k.val = true ∧ s.passed (s.hsw.get k.val).judgeAt (s.ocTime k.val * msec) = true ∨ i = Instr.hswShort k y ∧ y.energy = e ∧
  f = F.HSW_CH_FLT_SHORT k.val ∧ ev = 177 ∧ (hardLimit k.val ≤ y.cur.toNat ∨ (∃ l, s.hswLimit k.val = some l ∧ l ≤
  y.cur.toNat) ∧ y.volt.toNat < 150 ∧ 10 ≤ y.held.toNat ∧ 200 * usec ≤ s.hswAge k.val ∧ s.flag (F.HSW_CH_STAT_DIPHOLD k.val)
  = false) ∨ i = Instr.hswOvertemp k x e ∧ f = F.HSW_CH_FLT_OT k.val ∧ ev = 179 ∧ s.hswHere k.val = true ∧ 1750 ≤ x.toInt ∧
  (s.hsw.get k.val).ot = false) ∧ ev = 179) ∧ (∃ (k : Fin 24) (i : Instr) (e : BitVec 16) (x : BitVec 16) (y : SwShort) (f :
  Fld) (ev : Nat) (s : State) (m : Nat), s.kind Block.hsw = 1 ∧ s.hswOut k.val = true ∧ s.limped k.val = false ∧ s.get
  (F.ARM_SW_CFG_SRC k.val) = 0 ∧ s.pointsOf 2 k.val = [] ∧ (s.hsw.get k.val).clamp = [] ∧ e.toNat ≤ 250 ∧ (i =
  Instr.inrushEnd k true e ∧ f = F.HSW_CH_FLT_LIMIT k.val ∧ ev = 181 ∧ s.flag (F.HSW_CH_STAT_INRUSH k.val) = true ∧
  (s.hsw.get k.val).inrEnd ≤ s.clk ∨ i = Instr.limitTimeout k e ∧ f = F.HSW_CH_FLT_LIMIT k.val ∧ ev = 181 ∧ s.hswJudged
  k.val = true ∧ s.passed (s.hsw.get k.val).judgeAt (s.ocTime k.val * msec) = true ∨ i = Instr.hswShort k y ∧ y.energy = e ∧
  f = F.HSW_CH_FLT_SHORT k.val ∧ ev = 177 ∧ (hardLimit k.val ≤ y.cur.toNat ∨ (∃ l, s.hswLimit k.val = some l ∧ l ≤
  y.cur.toNat) ∧ y.volt.toNat < 150 ∧ 10 ≤ y.held.toNat ∧ 200 * usec ≤ s.hswAge k.val ∧ s.flag (F.HSW_CH_STAT_DIPHOLD k.val)
  = false) ∨ i = Instr.hswOvertemp k x e ∧ f = F.HSW_CH_FLT_OT k.val ∧ ev = 179 ∧ s.hswHere k.val = true ∧ 1750 ≤ x.toInt ∧
  (s.hsw.get k.val).ot = false) ∧ m ≠ k.val) :=
⟨⟨3, true, st1, (by decide +kernel)⟩, ⟨({ src := .host, out := 3, op := 1, start := 9, duty := 0xFFFF } : OutCmd), [],
    { st1 with str := { up.str with hswWire := [(({ src := .host, out := 3, op := 1, start := 9, duty := 0xFFFF } : OutCmd))] } },
    181, (by decide +kernel)⟩, ⟨3, ({ src := .host, out := 3, op := 1, start := 9, duty := 0xFFFF } : OutCmd), [], 5, having
    ({ st1 with hsw := [(3, { (default : HswCh) with queue := [(({ src := .host, out := 3, op := 1, start := 9, duty := 0xFFFF } : OutCmd))] })] })
    [(F.HSW_PROF_INR_INR_PCT 0, 50), (F.HSW_PROF_INR_T_INR 0, 20)], (by decide +kernel)⟩, ⟨3,
    ({ src := .host, out := 3, op := 1, start := 9, duty := 0xFFFF } : OutCmd), [], 5, having
    ({ st1 with hsw := [(3, { (default : HswCh) with queue := [(({ src := .host, out := 3, op := 1, start := 9, duty := 0xFFFF } : OutCmd))] })] })
    [(F.HSW_CH_FLT_SHORT 3, 1)], (by decide +kernel)⟩, ⟨3,
    { (({ src := .host, out := 3, op := 1, start := 9, duty := 0xFFFF } : OutCmd)) with op := 2 }, [], 5, having
    { st1 with hsw := [(3, { (default : HswCh) with queue := [{ (({ src := .host, out := 3, op := 1, start := 9, duty := 0xFFFF } : OutCmd)) with op := 2 }] })] }
    [(F.HSW_CH_STAT_ON 3, 1), (F.HSW_CH_STAT_INRUSH 3, 1)], (by decide +kernel)⟩, ⟨3, .hswShort 3 ⟨3000, 0, 0, 5⟩, 5, 7,
    ⟨3000, 0, 0, 5⟩, F.HSW_CH_FLT_SHORT 3, 177, st5, ⟨(by decide +kernel), (by decide +kernel), (by decide +kernel),
    (by decide +kernel), (by decide +kernel), (by decide +kernel), (by decide +kernel),
    (.inr (.inr (.inl ⟨rfl, rfl, rfl, rfl, .inl (by decide +kernel)⟩))), (by decide +kernel)⟩⟩, ⟨3, .hswOvertemp 3 1750 5,
    5, 1750, ⟨3000, 0, 0, 5⟩, F.HSW_CH_FLT_OT 3, 179, st5, ⟨(by decide +kernel), (by decide +kernel), (by decide +kernel),
    (by decide +kernel), (by decide +kernel), (by decide +kernel), (by decide +kernel),
    (.inr (.inr (.inr ⟨rfl, rfl, rfl, (by decide +kernel), (by decide +kernel), rfl⟩))), (by decide +kernel)⟩⟩, ⟨3,
    .inrushEnd 3 true 5, 5, 7, ⟨3000, 0, 0, 5⟩, F.HSW_CH_FLT_LIMIT 3, 181, (st5.put (F.HSW_CH_STAT_INRUSH 3) 1), 0,
    ⟨(by decide +kernel), (by decide +kernel), (by decide +kernel), (by decide +kernel), (by decide +kernel),
    (by decide +kernel), (by decide +kernel), (.inl ⟨rfl, rfl, rfl, (by decide +kernel), (by decide +kernel)⟩),
    (by decide +kernel)⟩⟩⟩

theorem witness_SwitchesTakeCommandsAndProtectThemselves_2 : (∃ (k : Fin 24) (i : Instr) (e : BitVec 16) (x : BitVec 16) (y
  : SwShort) (f : Fld) (ev : Nat) (s : State) (m : Nat), s.kind Block.hsw = 1 ∧ s.hswOut k.val = true ∧ s.limped k.val =
  false ∧ s.get (F.ARM_SW_CFG_SRC k.val) = 0 ∧ s.pointsOf 2 k.val = [] ∧ (s.hsw.get k.val).clamp = [] ∧ e.toNat ≤ 250 ∧ (i =
  Instr.inrushEnd k true e ∧ f = F.HSW_CH_FLT_LIMIT k.val ∧ ev = 181 ∧ s.flag (F.HSW_CH_STAT_INRUSH k.val) = true ∧
  (s.hsw.get k.val).inrEnd ≤ s.clk ∨ i = Instr.limitTimeout k e ∧ f = F.HSW_CH_FLT_LIMIT k.val ∧ ev = 181 ∧ s.hswJudged
  k.val = true ∧ s.passed (s.hsw.get k.val).judgeAt (s.ocTime k.val * msec) = true ∨ i = Instr.hswShort k y ∧ y.energy = e ∧
  f = F.HSW_CH_FLT_SHORT k.val ∧ ev = 177 ∧ (hardLimit k.val ≤ y.cur.toNat ∨ (∃ l, s.hswLimit k.val = some l ∧ l ≤
  y.cur.toNat) ∧ y.volt.toNat < 150 ∧ 10 ≤ y.held.toNat ∧ 200 * usec ≤ s.hswAge k.val ∧ s.flag (F.HSW_CH_STAT_DIPHOLD k.val)
  = false) ∨ i = Instr.hswOvertemp k x e ∧ f = F.HSW_CH_FLT_OT k.val ∧ ev = 179 ∧ s.hswHere k.val = true ∧ 1750 ≤ x.toInt ∧
  (s.hsw.get k.val).ot = false) ∧ m ≠ k.val) ∧ (∃ (k : Fin 24) (i : Instr) (e : BitVec 16) (x : BitVec 16) (y : SwShort) (f
  : Fld) (ev : Nat) (s : State) (m : Nat), s.kind Block.hsw = 1 ∧ s.hswOut k.val = true ∧ s.limped k.val = false ∧ s.get
  (F.ARM_SW_CFG_SRC k.val) = 0 ∧ s.pointsOf 2 k.val = [] ∧ (s.hsw.get k.val).clamp = [] ∧ e.toNat ≤ 250 ∧ (i =
  Instr.inrushEnd k true e ∧ f = F.HSW_CH_FLT_LIMIT k.val ∧ ev = 181 ∧ s.flag (F.HSW_CH_STAT_INRUSH k.val) = true ∧
  (s.hsw.get k.val).inrEnd ≤ s.clk ∨ i = Instr.limitTimeout k e ∧ f = F.HSW_CH_FLT_LIMIT k.val ∧ ev = 181 ∧ s.hswJudged
  k.val = true ∧ s.passed (s.hsw.get k.val).judgeAt (s.ocTime k.val * msec) = true ∨ i = Instr.hswShort k y ∧ y.energy = e ∧
  f = F.HSW_CH_FLT_SHORT k.val ∧ ev = 177 ∧ (hardLimit k.val ≤ y.cur.toNat ∨ (∃ l, s.hswLimit k.val = some l ∧ l ≤
  y.cur.toNat) ∧ y.volt.toNat < 150 ∧ 10 ≤ y.held.toNat ∧ 200 * usec ≤ s.hswAge k.val ∧ s.flag (F.HSW_CH_STAT_DIPHOLD k.val)
  = false) ∨ i = Instr.hswOvertemp k x e ∧ f = F.HSW_CH_FLT_OT k.val ∧ ev = 179 ∧ s.hswHere k.val = true ∧ 1750 ≤ x.toInt ∧
  (s.hsw.get k.val).ot = false) ∧ m ≠ k.val) ∧ (∃ (k : Fin 24) (i : Instr) (e : BitVec 16) (x : BitVec 16) (y : SwShort) (f
  : Fld) (ev : Nat) (s : State) (m : Nat), s.kind Block.hsw = 1 ∧ s.hswOut k.val = true ∧ s.limped k.val = false ∧ s.get
  (F.ARM_SW_CFG_SRC k.val) = 0 ∧ s.pointsOf 2 k.val = [] ∧ (s.hsw.get k.val).clamp = [] ∧ e.toNat ≤ 250 ∧ (i =
  Instr.inrushEnd k true e ∧ f = F.HSW_CH_FLT_LIMIT k.val ∧ ev = 181 ∧ s.flag (F.HSW_CH_STAT_INRUSH k.val) = true ∧
  (s.hsw.get k.val).inrEnd ≤ s.clk ∨ i = Instr.limitTimeout k e ∧ f = F.HSW_CH_FLT_LIMIT k.val ∧ ev = 181 ∧ s.hswJudged
  k.val = true ∧ s.passed (s.hsw.get k.val).judgeAt (s.ocTime k.val * msec) = true ∨ i = Instr.hswShort k y ∧ y.energy = e ∧
  f = F.HSW_CH_FLT_SHORT k.val ∧ ev = 177 ∧ (hardLimit k.val ≤ y.cur.toNat ∨ (∃ l, s.hswLimit k.val = some l ∧ l ≤
  y.cur.toNat) ∧ y.volt.toNat < 150 ∧ 10 ≤ y.held.toNat ∧ 200 * usec ≤ s.hswAge k.val ∧ s.flag (F.HSW_CH_STAT_DIPHOLD k.val)
  = false) ∨ i = Instr.hswOvertemp k x e ∧ f = F.HSW_CH_FLT_OT k.val ∧ ev = 179 ∧ s.hswHere k.val = true ∧ 1750 ≤ x.toInt ∧
  (s.hsw.get k.val).ot = false) ∧ m ≠ k.val) ∧ (∃ (k : Fin 24) (e : BitVec 16) (s : State), s.flag (F.HSW_CH_STAT_INRUSH
  k.val) = true ∧ (s.hsw.get k.val).inrEnd ≤ s.clk) ∧ (∃ (k : Fin 24) (s : State), s.kind Block.hsw = 1 ∧ s.hswJudged k.val
  = true ∧ s.flag (F.HSW_CH_STAT_OPEN k.val) = false ∧ s.passed (s.hsw.get k.val).olAt (s.olTime k.val * msec) = true) ∧ (∃
  (k : Fin 24) (s : State), s.hswJudged k.val = true ∧ s.flag (F.HSW_CH_STAT_OPEN k.val) = true ∧ s.passed (s.hsw.get
  k.val).olAt (s.olTime k.val * msec) = true) ∧ (∃ (k : Fin 24) (x : BitVec 16) (s : State), (s.hsw.get k.val).ot = true ∧
  x.toInt < 1500 ∧ s.limp = false) ∧ (∃ (k : Fin 24) (m : Word) (s : State) (i : Nat), s.admitsSet (R.HSW_CH_FLT k.val)
  (BitVec.toNat m) ∧ s.limp = false ∧ i < 5) :=
⟨⟨3, .limitTimeout 3 5, 5, 7, ⟨3000, 0, 0, 5⟩, F.HSW_CH_FLT_LIMIT 3, 181, st5, 0, ⟨(by decide +kernel), (by decide +kernel),
    (by decide +kernel), (by decide +kernel), (by decide +kernel), (by decide +kernel), (by decide +kernel),
    (.inr (.inl ⟨rfl, rfl, rfl, (by decide +kernel), (by decide +kernel)⟩)), (by decide +kernel)⟩⟩, ⟨3, .hswShort 3 ⟨3000,
    0, 0, 5⟩, 5, 7, ⟨3000, 0, 0, 5⟩, F.HSW_CH_FLT_SHORT 3, 177, st5, 0, ⟨(by decide +kernel), (by decide +kernel),
    (by decide +kernel), (by decide +kernel), (by decide +kernel), (by decide +kernel), (by decide +kernel),
    (.inr (.inr (.inl ⟨rfl, rfl, rfl, rfl, .inl (by decide +kernel)⟩))), (by decide +kernel)⟩⟩, ⟨3, .hswOvertemp 3 1750 5,
    5, 1750, ⟨3000, 0, 0, 5⟩, F.HSW_CH_FLT_OT 3, 179, st5, 0, ⟨(by decide +kernel), (by decide +kernel),
    (by decide +kernel), (by decide +kernel), (by decide +kernel), (by decide +kernel), (by decide +kernel),
    (.inr (.inr (.inr ⟨rfl, rfl, rfl, (by decide +kernel), (by decide +kernel), rfl⟩))), (by decide +kernel)⟩⟩, ⟨3, 5,
    having (having st1 [(F.HSW_CH_STAT_ON 3, 1)]) [(F.HSW_CH_STAT_INRUSH 3, 1)], (by decide +kernel)⟩, ⟨3, (having st1
    [(F.HSW_CH_STAT_ON 3, 1)]), (by decide +kernel)⟩, ⟨3, having (having st1 [(F.HSW_CH_STAT_ON 3, 1)]) [(F.HSW_CH_STAT_OPEN
    3, 1)], (by decide +kernel)⟩, ⟨3, 1499, { st1 with hsw := [(3, { (default : HswCh) with ot := true })] },
    (by decide +kernel)⟩, ⟨3, 5#32, st1, 0, (by decide +kernel)⟩⟩

theorem witness_SwitchesTakeCommandsAndProtectThemselves_3 : (∃ (s : State), s.str.hswWire = []) ∧ (∃ (k : Fin 24) (e :
  BitVec 16) (x : BitVec 16) (y : SwShort) (b : Bool) (s : State), (s.hsw.get k.val).queue = []) ∧ (∃ (k : Fin 24) (e :
  BitVec 16) (x : BitVec 16) (y : SwShort) (b : Bool) (s : State), s.flag (F.HSW_CH_STAT_INRUSH k.val) = false) ∧ (∃ (k :
  Fin 24) (e : BitVec 16) (x : BitVec 16) (y : SwShort) (b : Bool) (s : State), s.hswOut k.val = false) ∧ (∃ (k : Fin 24) (e
  : BitVec 16) (x : BitVec 16) (y : SwShort) (b : Bool) (s : State), (s.hswHere k.val = false ∨ x.toInt < 1750 ∨ (s.hsw.get
  k.val).ot = true)) ∧ (∃ (k : Fin 24) (e : BitVec 16) (x : BitVec 16) (y : SwShort) (b : Bool) (s : State), ((s.hsw.get
  k.val).ot = false ∨ 1500 ≤ x.toInt)) :=
⟨⟨st1, (by decide +kernel)⟩, ⟨3, 5, 5, ⟨3000, 0, 10, 5⟩, true, st1, (by decide +kernel)⟩, ⟨3, 5, 5, ⟨3000, 0, 10, 5⟩, true,
    st1, (by decide +kernel)⟩, ⟨3, 5, 5, ⟨3000, 0, 10, 5⟩, true, st1, (by decide +kernel)⟩, ⟨3, 5, 5, ⟨3000, 0, 10, 5⟩,
    true, st1, (by decide +kernel)⟩, ⟨3, 5, 5, ⟨3000, 0, 10, 5⟩, true, st1, (by decide +kernel)⟩⟩

theorem witness_DipsPulsesLimpHomeAndHoldOver : (∃ (g : Fin 4) (v : BitVec 16) (s : State) (i : Nat), s.hswHere (6 * g.val)
  = true ∧ s.flag (F.HSW_VHS_STAT_DIP g.val) = false ∧ v.toNat < s.get (F.HSW_VHS_CFG_VHS_DIP g.val) * 10 ∧ i < 6) ∧ (∃ (g :
  Fin 4) (v : BitVec 16) (s : State) (i : Nat), s.flag (F.HSW_VHS_STAT_DIP g.val) = true ∧ s.get (F.HSW_VHS_CFG_VHS_DIP
  g.val) * 10 ≤ v.toNat ∧ i < 6 ∧ s.flag (F.HSW_CH_STAT_DIPHOLD (6 * g.val + i)) = true) ∧ (∃ (g : Fin 4) (s : State) (i :
  Nat), s.kind Block.hsw = 1 ∧ (s.hswVhs.get g.val).hold = true ∧ s.flag (F.HSW_VHS_STAT_DIP g.val) = true ∧ s.passed
  (s.hswVhs.get g.val).since (2 * msec) = true ∧ i < 6) ∧ (∃ (p : Fin 6) (s : State), (s.runs Block.hsw = false ∨ s.flag
  (F.HSW_PG_CFG_EN p.val) = false ∨ s.get (F.HSW_PG_CFG_PER p.val) = 0 ∨ s.onGrid (s.get (F.HSW_PG_CFG_PER p.val) * 16) =
  false)) ∧ (∃ (p : Fin 6) (s : State) (k : Fin 24) (on : Nat), s.runs Block.hsw = true ∧ s.flag (F.HSW_PG_CFG_EN p.val) =
  true ∧ s.get (F.HSW_PG_CFG_PER p.val) ≠ 0 ∧ s.onGrid (s.get (F.HSW_PG_CFG_PER p.val) * 16) = true ∧ (s.hsw.get k.val).cmd
  = true ∧ s.get (F.HSW_CH_CFG_MODE k.val) = 2 ∧ s.get (F.HSW_CH_CFG_PGEN k.val) = p.val ∧ on = (divNear 448 (↑(s.get
  (F.HSW_PG_DUTY p.val) * s.get (F.HSW_PG_CFG_PER p.val))) 1000).toNat ∧ s.get (F.HSW_PG_DUTY p.val) ≠ 0 ∧ 20 ≤ on ∧ on + 20
  ≤ s.get (F.HSW_PG_CFG_PER p.val)) ∧ (∃ (k : Fin 24) (x : Nat) (e : BitVec 16) (s : State), (s.hsw.get k.val).edgeOn = some
  x ∧ x ≤ s.now ∧ (s.hsw.get k.val).first = false) ∧ (∃ (k : Fin 24) (x : Nat) (e : BitVec 16) (s : State), (s.hsw.get
  k.val).edgeOff = some x ∧ x ≤ s.now ∧ s.hswOut k.val = true ∧ (s.hsw.get k.val).clamp = [] ∧ e.toNat ≤ 250 ∧ s.hswLatched
  k.val = false) :=
⟨⟨0, 80, st11, 0, (by decide +kernel)⟩, ⟨0, 80, having st29 [(F.HSW_VHS_STAT_DIP 0, 1), ((F.HSW_CH_STAT_DIPHOLD (6 * 0 +
    0)), 1)], 0, (by decide +kernel)⟩, ⟨0,
    { (having st11 [(F.HSW_VHS_STAT_DIP 0, 1), (F.HSW_CH_STAT_DIPHOLD 3, 1)]) with hswVhs := [(0, ⟨9, true⟩)] }, 0,
    (by decide +kernel)⟩, ⟨0, st11, (by decide +kernel)⟩, ⟨0,
    { (having up [(F.HSW_CH_CFG_MODE 3, 2), (F.HSW_PG_CFG_EN 0, 1), (F.HSW_PG_CFG_PER 0, 1000), (F.HSW_PG_DUTY 0, 300), (F.HSW_CH_CFG_PHASE 3, 64)]) with hsw := [(3, { (default : HswCh) with cmd := true })] },
    3, ((divNear 448 (↑(st29.get (F.HSW_PG_DUTY 0) * st29.get (F.HSW_PG_CFG_PER 0))) 1000).toNat), (by decide +kernel)⟩, ⟨3,
    9, 5,
    { st11 with hsw := [(3, { (default : HswCh) with cmd := true, edgeOn := some 9, pulse := 300 })], hswGen := [(0, ⟨true, 1000, 9⟩)] },
    (by decide +kernel)⟩, ⟨3, 9, 5,
    { st11 with hsw := [(3, { (default : HswCh) with cmd := true, edgeOff := some 9, pulse := 300 })] },
    (by decide +kernel)⟩⟩

theorem witness_DipsPulsesLimpHomeAndHoldOver_2 : (∃ (s : State) (n : Nat), s.limp = false ∧ s.kind Block.hsw = 1 ∧ n < 96)
  ∧ (∃ (s : State) (k : Nat), s.limp = true ∧ s.kind Block.hsw = 1 ∧ k < 24 ∧ s.hswHere k = true) ∧ (∃ (x : BitVec 8) (s :
  State), s.limp = false) ∧ (∃ (x : BitVec 8) (s : State), s.limp = true) ∧ (∃ (okA : Bool) (okB : Bool) (s : State), s.limp
  = false ∧ s.kind Block.hsw = 1 ∧ (okA && okB) = false) ∧ (∃ (s : State), s.kind Block.hsw = 1 ∧ s.cfg.footing.isSome =
  true ∧ s.limp = false ∧ s.hswKeep.store = some (s.lhTable, s.holdOver, s.get F.HSW_LH_CTRL_HOLD_T)) ∧ (∃ (s : State),
  s.kind Block.hsw = 1 ∧ s.cfg.footing.isSome = true ∧ s.limp = false ∧ s.hswKeep.store = none) :=
⟨⟨st11, 9, (by decide +kernel)⟩, ⟨having st45 [(F.HSW_LH_STAT_ACTIVE, 1), (F.HSW_CH_STAT_LIMPED 3, 1)], 9,
    (by decide +kernel)⟩, ⟨3, st45, (by decide +kernel)⟩, ⟨1, having st45 [(F.HSW_LH_STAT_ACTIVE, 1)], (by decide +kernel)⟩,
    ⟨false, true, st45, (by decide +kernel)⟩,
    ⟨{ lead with hswKeep := { up.hswKeep with store := some (lead.lhTable, lead.holdOver, lead.get F.HSW_LH_CTRL_HOLD_T) } },
    (by decide +kernel)⟩, ⟨lead, (by decide +kernel)⟩⟩

theorem witness_DipsPulsesLimpHomeAndHoldOver_3 : (∃ (s : State) (k : Nat), s.passed 0 (s.hswKeep.holdT * second) = true ∧ k
  < 24) ∧ (∃ (k : Fin 24) (s : State), s.runs Block.mem = true ∧ s.present Block.hsw = true ∧ s.hswHere k.val = true ∧
  s.hswOut k.val = false ∧ s.passed (s.hsw.get k.val).offAt (2 * msec) = true) ∧ (∃ (g : Fin 4) (v : BitVec 16) (s : State),
  (s.flag (F.HSW_VHS_STAT_DIP g.val) = true ∨ s.get (F.HSW_VHS_CFG_VHS_DIP g.val) * 10 ≤ v.toNat)) ∧ (∃ (k : Fin 24) (e :
  BitVec 16) (s : State), (s.hsw.get k.val).edgeOn = none) ∧ (∃ (k : Fin 24) (e : BitVec 16) (s : State), (s.hsw.get
  k.val).edgeOff = none) ∧ (∃ (s : State), s.present Block.hsw = false) ∧ (∃ (s : State), s.passed 0 (s.hswKeep.holdT *
  second) = false) :=
⟨⟨st11, 9, (by decide +kernel)⟩, ⟨3, up, (by decide +kernel)⟩, ⟨0, 2000, having st11 [(F.HSW_VHS_STAT_DIP 0, 1),
    (F.HSW_CH_STAT_DIPHOLD 3, 1)], (by decide +kernel)⟩, ⟨3, 80, st11, (by decide +kernel)⟩, ⟨3, 80, st11,
    (by decide +kernel)⟩, ⟨{ (st11) with failed := [.hsw] }, (by decide +kernel)⟩,
    ⟨{ up with hswKeep := { up.hswKeep with holdT := 200 } }, (by decide +kernel)⟩⟩

theorem witness_LoopsSampleFormAndApply : (∃ (n : Fin 32) (x : LoopVal) (s : State), s.samplesOnly n.val ∧ (s.ctl.loops.get
  n.val).pend = some x ∧ x.owner = n.val ∧ sat32 x.val = x.val) ∧ (∃ (n : Fin 32) (sp : Int) (y : Int) (e : Int) (ff : Int)
  (sg : Int) (d : Int) (i : Int) (v : Int) (c : Int) (s : State), s.samplesOnly n.val ∧ (s.ctl.loops.get n.val).pend = none
  ∧ s.injOf n.val = none ∧ s.flag (F.CTL_LOOP_CTRL_EN n.val) = true ∧ s.loopSt n.val = 2 ∧ (s.ctl.loops.get n.val).cmd = 0 ∧
  (s.ctl.loops.get n.val).chg = false ∧ s.get (F.CTL_LOOP_CFG_LAP n.val) = 0 ∧ s.int (R.CTL_LOOP_FE_LIM n.val) ≤ 0 ∧ s.get
  (F.CTL_LOOP_TMO_FROZEN_N n.val) < 2 ∧ s.fbLost n.val = 0 ∧ sp = sat32 (s.source (s.nat (R.CTL_LOOP_SP_SRC n.val)) (s.int
  (R.CTL_LOOP_SPFIX n.val))).val ∧ y = (s.source (s.nat (R.CTL_LOOP_FB_SRC n.val)) 0).val ∧ ff = (s.source (s.nat
  (R.CTL_LOOP_FF_SRC n.val)) 0).val ∧ e = sat32 (sp - y) ∧ (sg = if s.flag (F.CTL_LOOP_CFG_DON n.val) = true then sat32 (-y)
  else e) ∧ d = sat32 (sat32 (mulQ 24 (s.int (R.CTL_LOOP_DA n.val)) (s.ctl.loops.get n.val).dPrev) + sat32 (mulQ 24 (s.int
  (R.CTL_LOOP_DB n.val)) (sat32 (sg - (s.ctl.loops.get n.val).sPrev)))) ∧ i = sat32 (s.int (R.CTL_LOOP_IV n.val) + sat32
  (mulQ 24 (s.int (R.CTL_LOOP_KIT n.val)) e)) ∧ v = sat32 (sat32 (mulQ 24 (s.int (R.CTL_LOOP_KP n.val)) e) + i + d + sat32
  (mulQ 24 (s.int (R.CTL_LOOP_KFF n.val)) ff)) ∧ c = s.loopLimit n.val (s.loopL n.val) v) ∧ (∃ (n : Fin 32) (s : State),
  s.samplesOnly n.val ∧ (s.ctl.loops.get n.val).pend = none ∧ s.injOf n.val = none ∧ s.get (F.CTL_LOOP_CFG_LAP n.val) = 0 ∧
  s.flag (F.CTL_LOOP_CTRL_EN n.val) = true ∧ s.loopSt n.val = 0 ∧ s.flag (F.CTL_LOOP_CTRL_CLOSE_EN n.val) = false) ∧ (∃ (n :
  Fin 32) (s : State), s.samplesOnly n.val ∧ (s.ctl.loops.get n.val).pend = none ∧ s.injOf n.val = none ∧ s.get
  (F.CTL_LOOP_CFG_LAP n.val) = 0 ∧ s.flag (F.CTL_LOOP_CTRL_EN n.val) = true ∧ s.loopSt n.val = 1 ∧ (s.ctl.loops.get
  n.val).cmd = 0) ∧ (∃ (n : Fin 32) (s : State), s.samplesOnly n.val ∧ (s.ctl.loops.get n.val).pend = none ∧ s.injOf n.val =
  none ∧ s.get (F.CTL_LOOP_CFG_LAP n.val) = 0 ∧ s.flag (F.CTL_LOOP_CTRL_EN n.val) = true ∧ s.loopSt n.val = 1 ∧
  (s.ctl.loops.get n.val).cmd = 1 ∧ s.fbLost n.val = 0 ∧ s.int (R.CTL_LOOP_FE_LIM n.val) ≤ 0) ∧ (∃ (n : Fin 32) (s : State),
  s.samplesOnly n.val ∧ (s.ctl.loops.get n.val).pend = none ∧ s.injOf n.val = none ∧ s.get (F.CTL_LOOP_CFG_LAP n.val) = 0 ∧
  s.flag (F.CTL_LOOP_CTRL_EN n.val) = true ∧ s.loopSt n.val = 2 ∧ (s.ctl.loops.get n.val).cmd = 0 ∧ (s.ctl.loops.get
  n.val).chg = false ∧ s.fbLost n.val ≠ 0 ∧ srcKind (s.nat (R.CTL_LOOP_FB_SRC n.val)) ≠ 9 ∧ s.int (R.CTL_LOOP_FE_LIM n.val)
  ≤ 0 ∧ s.get (F.CTL_LOOP_CFG_FB_ACT n.val) ≤ 1) ∧ (∃ (n : Fin 32) (s : State), s.samplesOnly n.val ∧ (s.ctl.loops.get
  n.val).pend = none ∧ s.injOf n.val = none ∧ s.flag (F.CTL_LOOP_CTRL_EN n.val) = false ∧ s.loopSt n.val ≠ 0 ∧ s.get
  (F.CTL_LOOP_CFG_LAP n.val) = 0) :=
⟨⟨2, ({ owner := 2, word := 0x30200000, val := 7, due := 1600000000 } : LoopVal),
    { (having up [(F.CTL_LOOP_TIME_PERIOD 2, 10)]) with ctl := { up.ctl with loops := [(2, { (default : LoopState) with pend := some (({ owner := 2, word := 0x30200000, val := 7, due := 1600000000 } : LoopVal)) })] } },
    (by decide +kernel)⟩, ⟨2, (sat32 (st59.source (st59.nat (R.CTL_LOOP_SP_SRC 2)) (st59.int (R.CTL_LOOP_SPFIX 2))).val),
    ((st59.source (st59.nat (R.CTL_LOOP_FB_SRC 2)) 0).val), (sat32 ((sat32 (st59.source (st59.nat (R.CTL_LOOP_SP_SRC 2))
    (st59.int (R.CTL_LOOP_SPFIX 2))).val) - ((st59.source (st59.nat (R.CTL_LOOP_FB_SRC 2)) 0).val))), ((st59.source
    (st59.nat (R.CTL_LOOP_FF_SRC 2)) 0).val), (if st59.flag (F.CTL_LOOP_CFG_DON 2) = true then sat32 (-((st59.source
    (st59.nat (R.CTL_LOOP_FB_SRC 2)) 0).val)) else (sat32 ((sat32 (st59.source (st59.nat (R.CTL_LOOP_SP_SRC 2)) (st59.int
    (R.CTL_LOOP_SPFIX 2))).val) - ((st59.source (st59.nat (R.CTL_LOOP_FB_SRC 2)) 0).val)))), (sat32 (sat32 (mulQ 24
    (st59.int (R.CTL_LOOP_DA 2)) (st59.ctl.loops.get 2).dPrev) + sat32 (mulQ 24 (st59.int (R.CTL_LOOP_DB 2)) (sat32 ((if
    st59.flag (F.CTL_LOOP_CFG_DON 2) = true then sat32 (-((st59.source (st59.nat (R.CTL_LOOP_FB_SRC 2)) 0).val)) else (sat32
    ((sat32 (st59.source (st59.nat (R.CTL_LOOP_SP_SRC 2)) (st59.int (R.CTL_LOOP_SPFIX 2))).val) - ((st59.source (st59.nat
    (R.CTL_LOOP_FB_SRC 2)) 0).val)))) - (st59.ctl.loops.get 2).sPrev))))), (sat32 (st59.int (R.CTL_LOOP_IV 2) + sat32 (mulQ
    24 (st59.int (R.CTL_LOOP_KIT 2)) (sat32 ((sat32 (st59.source (st59.nat (R.CTL_LOOP_SP_SRC 2)) (st59.int
    (R.CTL_LOOP_SPFIX 2))).val) - ((st59.source (st59.nat (R.CTL_LOOP_FB_SRC 2)) 0).val)))))), (sat32 (sat32 (mulQ 24
    (st59.int (R.CTL_LOOP_KP 2)) (sat32 ((sat32 (st59.source (st59.nat (R.CTL_LOOP_SP_SRC 2)) (st59.int (R.CTL_LOOP_SPFIX
    2))).val) - ((st59.source (st59.nat (R.CTL_LOOP_FB_SRC 2)) 0).val)))) + (sat32 (st59.int (R.CTL_LOOP_IV 2) + sat32 (mulQ
    24 (st59.int (R.CTL_LOOP_KIT 2)) (sat32 ((sat32 (st59.source (st59.nat (R.CTL_LOOP_SP_SRC 2)) (st59.int
    (R.CTL_LOOP_SPFIX 2))).val) - ((st59.source (st59.nat (R.CTL_LOOP_FB_SRC 2)) 0).val)))))) + (sat32 (sat32 (mulQ 24
    (st59.int (R.CTL_LOOP_DA 2)) (st59.ctl.loops.get 2).dPrev) + sat32 (mulQ 24 (st59.int (R.CTL_LOOP_DB 2)) (sat32 ((if
    st59.flag (F.CTL_LOOP_CFG_DON 2) = true then sat32 (-((st59.source (st59.nat (R.CTL_LOOP_FB_SRC 2)) 0).val)) else (sat32
    ((sat32 (st59.source (st59.nat (R.CTL_LOOP_SP_SRC 2)) (st59.int (R.CTL_LOOP_SPFIX 2))).val) - ((st59.source (st59.nat
    (R.CTL_LOOP_FB_SRC 2)) 0).val)))) - (st59.ctl.loops.get 2).sPrev))))) + sat32 (mulQ 24 (st59.int (R.CTL_LOOP_KFF 2))
    ((st59.source (st59.nat (R.CTL_LOOP_FF_SRC 2)) 0).val)))), (st59.loopLimit (2) (st59.loopL 2) (sat32 (sat32 (mulQ 24
    (st59.int (R.CTL_LOOP_KP 2)) (sat32 ((sat32 (st59.source (st59.nat (R.CTL_LOOP_SP_SRC 2)) (st59.int (R.CTL_LOOP_SPFIX
    2))).val) - ((st59.source (st59.nat (R.CTL_LOOP_FB_SRC 2)) 0).val)))) + (sat32 (st59.int (R.CTL_LOOP_IV 2) + sat32 (mulQ
    24 (st59.int (R.CTL_LOOP_KIT 2)) (sat32 ((sat32 (st59.source (st59.nat (R.CTL_LOOP_SP_SRC 2)) (st59.int
    (R.CTL_LOOP_SPFIX 2))).val) - ((st59.source (st59.nat (R.CTL_LOOP_FB_SRC 2)) 0).val)))))) + (sat32 (sat32 (mulQ 24
    (st59.int (R.CTL_LOOP_DA 2)) (st59.ctl.loops.get 2).dPrev) + sat32 (mulQ 24 (st59.int (R.CTL_LOOP_DB 2)) (sat32 ((if
    st59.flag (F.CTL_LOOP_CFG_DON 2) = true then sat32 (-((st59.source (st59.nat (R.CTL_LOOP_FB_SRC 2)) 0).val)) else (sat32
    ((sat32 (st59.source (st59.nat (R.CTL_LOOP_SP_SRC 2)) (st59.int (R.CTL_LOOP_SPFIX 2))).val) - ((st59.source (st59.nat
    (R.CTL_LOOP_FB_SRC 2)) 0).val)))) - (st59.ctl.loops.get 2).sPrev))))) + sat32 (mulQ 24 (st59.int (R.CTL_LOOP_KFF 2))
    ((st59.source (st59.nat (R.CTL_LOOP_FF_SRC 2)) 0).val))))), st59, (by decide +kernel)⟩, ⟨2, st22, (by decide +kernel)⟩,
    ⟨2,
    { (st22.put (F.CTL_LOOP_STAT_STATE 2) 1) with ctl := { up.ctl with loops := [(2, { (default : LoopState) with hold := 31 })] } },
    (by decide +kernel)⟩, ⟨2,
    { (st22.put (F.CTL_LOOP_STAT_STATE 2) 1) with ctl := { up.ctl with loops := [(2, { (default : LoopState) with cmd := 1 })] } },
    (by decide +kernel)⟩, ⟨2, having st59 [(⟨R.CTL_LOOP_FB_SRC 2, 0, 32⟩, 0x20000000), (F.FBK_ENC_STAT_BAD 0, 1),
    (F.CTL_LOOP_CFG_FB_ACT 2, 1)], (by decide +kernel)⟩, ⟨2, st59.put (F.CTL_LOOP_CTRL_EN 2) 0, (by decide +kernel)⟩⟩

theorem witness_LoopsSampleFormAndApply_2 : (∃ (s : State), (s.runs Block.ctl = false ∨ s.clk % gridLen ≠ 0)) ∧ (∃ (s :
  State), s.ctl.wire = []) ∧ (∃ (x : LoopVal) (l : List LoopVal) (s : State), s.ctl.wire = x :: l ∧ s.clk < x.due) ∧ (∃ (x :
  LoopVal) (l : List LoopVal) (p : Fin 6) (s : State), s.ctl.wire = x :: l ∧ x.due ≤ s.clk ∧ x.owner < 32 ∧ srcKind x.word =
  3 ∧ srcInst x.word = p.val ∧ s.get (F.HSW_PG_CFG_DSRC p.val) = 2) ∧ (∃ (h : Fin 4) (rs : List LoopRes) (s : State) (r :
  LoopRes), s.flag (F.CTL_HEAT_CFG_EN h.val) = true ∧ rs ≠ [] ∧ r ∈ rs) ∧ (∃ (n : Fin 32) (c : Nat) (i : Instr) (s : State),
  (c = 1 ∧ i = Instr.loopClose n ∨ c = 2 ∧ i = Instr.loopOpen n ∨ c = 3 ∧ i = Instr.loopRelease n) ∧ s.admitsSet
  (R.CTL_LOOP_CMD n.val) c) :=
⟨⟨State.reset, (by decide +kernel)⟩,
    ⟨{ (having up [(F.CTL_LOOP_TIME_PERIOD 2, 10)]) with ctl := { up.ctl with loops := [(2, { (default : LoopState) with pend := some (({ owner := 2, word := 0x30200000, val := 7, due := 1600000000 } : LoopVal)) })] } },
    (by decide +kernel)⟩, ⟨({ owner := 2, word := 0x30200000, val := 7, due := 1600000000 } : LoopVal), [],
    { (having up [(F.CTL_LOOP_TIME_PERIOD 2, 10)]) with clk := 1599000000, ctl := { up.ctl with wire := [(({ owner := 2, word := 0x30200000, val := 7, due := 1600000000 } : LoopVal))] } },
    (by decide +kernel)⟩, ⟨({ owner := 2, word := 0x30200000, val := 7, due := 1600000000 } : LoopVal), [], 2,
    { st59 with ctl := { up.ctl with wire := [(({ owner := 2, word := 0x30200000, val := 7, due := 1600000000 } : LoopVal))] } },
    (by decide +kernel)⟩, ⟨0, [⟨0, false, 0, 0, 0, 0⟩], having up [(F.CTL_HEAT_CFG_EN 0, 1)], ⟨0, false, 0, 0, 0, 0⟩,
    (by decide +kernel)⟩, ⟨2, 1, .loopClose 2, st22, (by decide +kernel)⟩⟩

theorem witness_PacersLapsInjectorsAndCapture : (∃ (p : Fin 16) (s : State), (s.runs Block.pace = false ∨ s.nPacer ≤ p.val ∨
  s.gridDue (s.get (F.PACE_TIME_PHASE p.val)) (s.get (F.PACE_TIME_PERIOD p.val)) = false)) ∧ (∃ (p : Fin 16) (s : State),
  s.runs Block.pace = true ∧ p.val < s.nPacer ∧ s.gridDue (s.get (F.PACE_TIME_PHASE p.val)) (s.get (F.PACE_TIME_PERIOD
  p.val)) = true ∧ s.flag (F.PACE_CTRL_EN p.val) = false ∧ s.get (F.PACE_STAT_STATE p.val) ≠ 0) ∧ (∃ (p : Fin 16) (s :
  State) (c : Int) (e : Int), s.runs Block.pace = true ∧ p.val < s.nPacer ∧ s.gridDue (s.get (F.PACE_TIME_PHASE p.val))
  (s.get (F.PACE_TIME_PERIOD p.val)) = true ∧ s.flag (F.PACE_CTRL_EN p.val) = true ∧ s.get (F.PACE_STAT_STATE p.val) = 1 ∧
  (s.pacer.get p.val).cmd = 0 ∧ srcKind (s.nat (R.PACE_TSRC p.val)) = 0 ∧ c = clamp (s.int (R.PACE_XMIN p.val)) (s.int
  (R.PACE_XMAX p.val)) (s.int (R.PACE_TGT p.val)) ∧ e = c * 2 ^ 16 - (s.pacer.get p.val).x ∧ e ≠ 0) ∧ (∃ (p : Fin 16) (s :
  State) (c : Int) (e : Int), s.runs Block.pace = true ∧ p.val < s.nPacer ∧ s.gridDue (s.get (F.PACE_TIME_PHASE p.val))
  (s.get (F.PACE_TIME_PERIOD p.val)) = true ∧ s.flag (F.PACE_CTRL_EN p.val) = true ∧ s.get (F.PACE_STAT_STATE p.val) = 1 ∧
  (s.pacer.get p.val).cmd = 0 ∧ srcKind (s.nat (R.PACE_TSRC p.val)) = 0 ∧ c = clamp (s.int (R.PACE_XMIN p.val)) (s.int
  (R.PACE_XMAX p.val)) (s.int (R.PACE_TGT p.val)) ∧ e = c * 2 ^ 16 - (s.pacer.get p.val).x ∧ e = 0 ∧ (s.pacer.get p.val).v =
  0 ∧ (s.pacer.get p.val).a = 0) ∧ (∃ (p : Fin 16) (s : State), s.runs Block.pace = true ∧ p.val < s.nPacer ∧ s.gridDue
  (s.get (F.PACE_TIME_PHASE p.val)) (s.get (F.PACE_TIME_PERIOD p.val)) = true ∧ s.flag (F.PACE_CTRL_EN p.val) = true ∧ s.get
  (F.PACE_STAT_STATE p.val) ≠ 0 ∧ ((s.pacer.get p.val).cmd = 1 ∨ (s.pacer.get p.val).cmd = 2)) ∧ (∃ (p : Fin 16) (s :
  State), s.runs Block.pace = true ∧ p.val < s.nPacer ∧ s.gridDue (s.get (F.PACE_TIME_PHASE p.val)) (s.get
  (F.PACE_TIME_PERIOD p.val)) = true ∧ s.flag (F.PACE_CTRL_EN p.val) = true ∧ s.get (F.PACE_STAT_STATE p.val) = 2 ∧
  (s.pacer.get p.val).cmd = 3) :=
⟨⟨3, up.setNat (R.LAP_TBL 1 9) 5, (by decide +kernel)⟩, ⟨3, st39, (by decide +kernel)⟩, ⟨3, st34, (clamp (st34.int
    (R.PACE_XMIN 3)) (st34.int (R.PACE_XMAX 3)) (st34.int (R.PACE_TGT 3))), ((clamp (st34.int (R.PACE_XMIN 3)) (st34.int
    (R.PACE_XMAX 3)) (st34.int (R.PACE_TGT 3))) * 2 ^ 16 - (st34.pacer.get 3).x), (by decide +kernel)⟩, ⟨3,
    { st34 with pacer := [(3, ⟨32768000000, 0, 0, 0⟩)] }, (clamp (st49.int (R.PACE_XMIN 3)) (st49.int (R.PACE_XMAX 3))
    (st49.int (R.PACE_TGT 3))), ((clamp (st49.int (R.PACE_XMIN 3)) (st49.int (R.PACE_XMAX 3)) (st49.int (R.PACE_TGT 3))) * 2
    ^ 16 - (st49.pacer.get 3).x), (by decide +kernel)⟩, ⟨3, { st34 with pacer := [(3, ⟨5, 6, 7, 2⟩)] },
    (by decide +kernel)⟩, ⟨3,
    { (having st34 [(F.PACE_STAT_STATE 3, 2), (⟨R.PACE_X0 3, 0, 32⟩, 77)]) with pacer := [(3, ⟨5, 0, 0, 3⟩)] },
    (by decide +kernel)⟩⟩

theorem witness_PacersLapsInjectorsAndCapture_2 : (∃ (p : Fin 16) (c : Nat) (i : Instr) (s : State), (c = 1 ∧ i =
  Instr.paceGo p ∨ c = 2 ∧ i = Instr.paceStop p ∨ c = 3 ∧ i = Instr.paceJump p) ∧ s.admitsSet (R.PACE_CMD p.val) c) ∧ (∃ (j
  : Fin 4) (v : Word) (s : State) (m : Nat), s.kind Block.pace = 1 ∧ s.admitsSet (R.LAP_CTRL j.val) (BitVec.toNat v ||| 16)
  ∧ m < 1024) ∧ (∃ (j : Fin 4) (m : Fin 1024) (v : Word) (s : State), s.admitsSet (R.LAP_TBL j.val m.val) (BitVec.toNat v))
  ∧ (∃ (q : Fin 4) (at' : Bool) (s : State), (s.admitsSet (R.INJ_CMD q.val) (if at' = true then 2 else 1))) ∧ (∃ (q : Fin 4)
  (s : State), s.admitsSet (R.INJ_CMD q.val) 3 ∧ (s.injSt q.val = 1 ∨ s.injSt q.val = 2)) ∧ (∃ (q : Fin 4) (s : State),
  s.admitsSet (R.INJ_CMD q.val) 3 ∧ s.injSt q.val ≠ 1 ∧ s.injSt q.val ≠ 2) :=
⟨⟨3, 1, .paceGo 3, st34, (by decide +kernel)⟩, ⟨1, 0#32, st39, 1, (by decide +kernel)⟩, ⟨1, 9, 77#32, up,
    (by decide +kernel)⟩, ⟨1, false, having up [(F.INJ_CFG_TYPE 1, 1), (F.INJ_CFG_LOOP 1, 2), (F.CTL_LOOP_CTRL_EN 2, 1)],
    (by decide +kernel)⟩, ⟨1, (having up [(F.CTL_LOOP_TIME_PERIOD 2, 10), (F.INJ_CFG_LOOP 1, 2), (F.INJ_STAT_ST 1, 2),
    (F.INJ_CFG_TYPE 1, 1), (⟨R.INJ_AMP 1, 0, 32⟩, 70), (⟨R.INJ_N 1, 0, 32⟩, 5)]), (by decide +kernel)⟩, ⟨1, st39,
    (by decide +kernel)⟩⟩

theorem witness_PacersLapsInjectorsAndCapture_3 : (∃ (s : State), s.admitsSet R.CAP_CMD 2 ∧ s.flag F.CAP_STAT_BUSY = false)
  ∧ (∃ (n : Fin 32) (q : Fin 4) (s : State), s.samplesOnly n.val ∧ (s.ctl.loops.get n.val).pend = none ∧ s.runs Block.pace =
  true ∧ s.injOf n.val = some q.val ∧ s.injSt q.val = 2 ∧ (s.inj.get q.val).stop = false ∧ s.flag (F.CTL_LOOP_CTRL_EN n.val)
  = false ∧ s.loopSt n.val = 0 ∧ s.get (F.INJ_CFG_TYPE q.val) = 1 ∧ (s.nat (R.INJ_N q.val) = 0 ∨ s.nat (R.INJ_K q.val) <
  s.nat (R.INJ_N q.val))) ∧ (∃ (n : Fin 32) (q : Fin 4) (s : State), s.samplesOnly n.val ∧ (s.ctl.loops.get n.val).pend =
  none ∧ s.runs Block.pace = true ∧ s.injOf n.val = some q.val ∧ s.injSt q.val = 2 ∧ (s.inj.get q.val).stop = false ∧ s.flag
  (F.CTL_LOOP_CTRL_EN n.val) = false ∧ s.loopSt n.val = 0 ∧ s.nat (R.INJ_N q.val) ≠ 0 ∧ s.nat (R.INJ_N q.val) ≤ s.nat
  (R.INJ_K q.val)) ∧ (∃ (s : State), s.admitsSet R.CAP_CMD 1) ∧ (∃ (s : State), s.admitsSet R.CAP_CMD 2 ∧ s.flag
  F.CAP_STAT_BUSY = true) :=
⟨⟨lane up 7 0, (by decide +kernel)⟩, ⟨2, 1, (having up [(F.CTL_LOOP_TIME_PERIOD 2, 10), (F.INJ_CFG_LOOP 1, 2),
    (F.INJ_STAT_ST 1, 2), (F.INJ_CFG_TYPE 1, 1), (⟨R.INJ_AMP 1, 0, 32⟩, 70), (⟨R.INJ_N 1, 0, 32⟩, 5)]),
    (by decide +kernel)⟩, ⟨2, 1, (having up [(F.CTL_LOOP_TIME_PERIOD 2, 10), (F.INJ_CFG_LOOP 1, 2), (F.INJ_STAT_ST 1, 2),
    (F.INJ_CFG_TYPE 1, 1), (⟨R.INJ_AMP 1, 0, 32⟩, 70), (⟨R.INJ_N 1, 0, 32⟩, 5)]).setNat (R.INJ_K 1) 5, (by decide +kernel)⟩,
    ⟨lane up 7 0, (by decide +kernel)⟩, ⟨up.put F.CAP_STAT_BUSY 1, (by decide +kernel)⟩⟩

theorem witness_CanRequestsAndAttempts : (∃ (k : Fin 256) (s : State), s.admitsSet (R.CAN_OBJ_CMD k.val) 1 ∧ s.canCfg k.val
  (F.CAN_OBJ_CFG_DIR k.val) = 1 ∧ s.canActive k.val = true) ∧ (∃ (k : Fin 256) (s : State), s.admitsSet (R.CAN_OBJ_CMD
  k.val) 1 ∧ s.canCfg k.val (F.CAN_OBJ_CFG_DIR k.val) = 1 ∧ s.canActive k.val = false ∧ s.flag (F.CAN_OBJ_STAT_PEND k.val) =
  true) ∧ (∃ (k : Fin 256) (s : State), s.admitsSet (R.CAN_OBJ_CMD k.val) 1 ∧ s.canCfg k.val (F.CAN_OBJ_CFG_DIR k.val) = 1 ∧
  s.canActive k.val = false ∧ s.flag (F.CAN_OBJ_STAT_PEND k.val) = false ∧ s.flag (F.CAN_OBJ_CFG_FDF k.val) = false) ∧ (∃ (k
  : Fin 256) (s : State), s.admitsSet (R.CAN_OBJ_CMD k.val) 1 ∧ s.canCfg k.val (F.CAN_OBJ_CFG_DIR k.val) = 1 ∧ s.canActive
  k.val = false ∧ s.flag (F.CAN_OBJ_STAT_PEND k.val) = false ∧ s.flag (F.CAN_OBJ_CFG_FDF k.val) = true ∧ s.flag
  (F.CAN_CTL_CFG_FDEN (s.get (F.CAN_OBJ_CFG_CTRL k.val))) = false) ∧ (∃ (k : Fin 256) (s : State), s.admitsSet
  (R.CAN_OBJ_CMD k.val) 2 ∧ s.flag (F.CAN_OBJ_STAT_PEND k.val) = false) ∧ (∃ (k : Fin 256) (s : State), s.admitsSet
  (R.CAN_OBJ_CMD k.val) 2 ∧ s.flag (F.CAN_OBJ_STAT_PEND k.val) = true ∧ s.canActive k.val = true) ∧ (∃ (k : Fin 256) (s :
  State), s.admitsSet (R.CAN_OBJ_CMD k.val) 2 ∧ s.flag (F.CAN_OBJ_STAT_PEND k.val) = true ∧ s.canActive k.val = false) ∧ (∃
  (n : Fin 3) (s : State) (k : Nat) (j : Nat), s.works Block.can = true ∧ (s.canCtl.get n.val).mode = 1 ∧ (s.canCtl.get
  n.val).busOff = false ∧ (s.canCtl.get n.val).inFrame = false ∧ s.canChoose n.val = some k ∧ j < 256 ∧ s.canIs n.val 1 j =
  true ∧ s.flag (F.CAN_OBJ_STAT_PEND j) = true ∧ s.canSends n.val j = true ∧ s.canPriority k = s.canPriority j) :=
⟨⟨5, st68, (by decide +kernel)⟩, ⟨5, st48, (by decide +kernel)⟩, ⟨5, st40, (by decide +kernel)⟩, ⟨5, st40.put
    (F.CAN_OBJ_CFG_FDF 5) 1, (by decide +kernel)⟩, ⟨5, st40, (by decide +kernel)⟩, ⟨5, st68, (by decide +kernel)⟩, ⟨5, st48,
    (by decide +kernel)⟩, ⟨0, { st75 with canCtl := st75.canCtl.set 0 { st75.canCtl.get 0 with inFrame := false } }, 5, 5,
    (by decide +kernel)⟩⟩

theorem witness_CanRequestsAndAttempts_2 : (∃ (n : Fin 3) (s : State), s.works Block.can = true ∧ (s.canCtl.get n.val).mode
  = 1 ∧ (s.canCtl.get n.val).busOff = false ∧ (s.canCtl.get n.val).inFrame = false ∧ s.canChoose n.val = none) ∧ (∃ (n : Fin
  3) (r : CanOutcome) (s : State), (s.canCtl.get n.val).active = none ∧ s.cfg.canLate = []) ∧ (∃ (n : Fin 3) (s : State),
  (s.works Block.can = false ∨ (s.canCtl.get n.val).mode = 0 ∨ (s.canCtl.get n.val).busOff = true ∨ (s.canCtl.get
  n.val).inFrame = true)) ∧ (∃ (n : Fin 3) (s : State), s.works Block.can = true ∧ (s.canCtl.get n.val).mode = 2 ∧
  (s.canCtl.get n.val).busOff = false ∧ (s.canCtl.get n.val).inFrame = false) ∧ (∃ (k : Fin 256) (s : State), (s.runs
  Block.can = false ∨ s.canCfg k.val (F.CAN_OBJ_CFG_EN k.val) = 0 ∨ s.canCfg k.val (F.CAN_OBJ_CFG_DIR k.val) = 0 ∨ s.get
  (F.CAN_OBJ_TIME_PERIOD k.val) = 0)) ∧ (∃ (k : Fin 256) (s : State), (s.get (F.CAN_OBJ_TMO_TX_TMO k.val) = 0 ∨ s.flag
  (F.CAN_OBJ_STAT_PEND k.val) = false ∨ (s.canObj.get k.val).tmoDone = true)) ∧ (∃ (n : Fin 3) (k : Nat) (s : State), s.kind
  Block.can = 1 ∧ (s.canCtl.get n.val).active = some k ∧ k < 256 ∧ s.cfg.canLate = [] ∧ (s.canCtl.get n.val).mode = 1 ∧
  (s.canCtl.get n.val).txErr ≤ 128 ∧ (s.canCtl.get n.val).rxErr ≤ 127 ∧ s.flag (F.CAN_CTL_MIR_TX n.val) = false ∧
  (s.canObj.get k).tmoLatch = false ∧ s.flag (F.CAN_OBJ_STAT_CXL k) = true) ∧ (∃ (n : Fin 3) (k : Nat) (s : State), s.kind
  Block.can = 1 ∧ (s.canCtl.get n.val).active = some k ∧ k < 256 ∧ s.cfg.canLate = [] ∧ (s.canCtl.get n.val).mode = 1 ∧
  (s.canCtl.get n.val).txErr ≤ 128 ∧ (s.canCtl.get n.val).rxErr ≤ 127 ∧ s.flag (F.CAN_CTL_MIR_TX n.val) = false ∧
  (s.canObj.get k).tmoLatch = false ∧ s.flag (F.CAN_OBJ_STAT_CXL k) = false) :=
⟨⟨0, st40, (by decide +kernel)⟩, ⟨0, .success, st48, (by decide +kernel)⟩, ⟨0, st68, (by decide +kernel)⟩, ⟨0,
    { st74 with canCtl := st74.canCtl.set 0 { st74.canCtl.get 0 with inFrame := false } }, (by decide +kernel)⟩, ⟨5, up,
    (by decide +kernel)⟩, ⟨5, st40, (by decide +kernel)⟩, ⟨0, 5, st68.put (F.CAN_OBJ_STAT_CXL 5) 1, (by decide +kernel)⟩,
    ⟨0, 5, st68, (by decide +kernel)⟩⟩

theorem witness_CanRequestsAndAttempts_3 : (∃ (n : Fin 3) (k : Nat) (s : State), (s.canCtl.get n.val).active = some k ∧
  s.flag (F.CAN_OBJ_STAT_PEND k) = true ∧ (s.canObj.get k).discard = false ∧ (s.canObj.get k).tmoLatch = false ∧
  s.cfg.canLate = [] ∧ s.flag (F.CAN_OBJ_STAT_CXL k) = true) ∧ (∃ (n : Fin 3) (k : Nat) (w : Nat) (te : Nat) (again : Nat)
  (lec : BitVec 3) (data : Bool) (arb : Bool) (s : State), s.kind Block.can = 1 ∧ (s.canCtl.get n.val).active = some k ∧ k <
  256 ∧ s.flag (F.CAN_OBJ_STAT_PEND k) = true ∧ s.flag (F.CAN_OBJ_STAT_CXL k) = false ∧ s.flag (F.CAN_OBJ_STAT_SENDQ k) =
  false ∧ (s.canObj.get k).discard = false ∧ (s.canObj.get k).tmoLatch = false ∧ w = (s.canObj.get k).attCfg ∧ s.cfg.canLate
  = [] ∧ (te = ((s.canCtl.get n.val).txErr + if lec.toNat = 3 ∧ (s.canCtl.get n.val).passive = true ∨ lec.toNat = 1 ∧ arb =
  true then 0 else 8) + 8 * again) ∧ (s.canCtl.get n.val).busOff = false ∧ 255 < te) ∧ (∃ (n : Fin 3) (k : Nat) (w : Nat)
  (te : Nat) (again : Nat) (lec : BitVec 3) (data : Bool) (arb : Bool) (s : State), s.kind Block.can = 1 ∧ (s.canCtl.get
  n.val).active = some k ∧ k < 256 ∧ s.flag (F.CAN_OBJ_STAT_PEND k) = true ∧ s.flag (F.CAN_OBJ_STAT_CXL k) = false ∧ s.flag
  (F.CAN_OBJ_STAT_SENDQ k) = false ∧ (s.canObj.get k).discard = false ∧ (s.canObj.get k).tmoLatch = false ∧ w =
  (s.canObj.get k).attCfg ∧ s.cfg.canLate = [] ∧ (te = ((s.canCtl.get n.val).txErr + if lec.toNat = 3 ∧ (s.canCtl.get
  n.val).passive = true ∨ lec.toNat = 1 ∧ arb = true then 0 else 8) + 8 * again) ∧ data = true ∧ (lec.toNat = 4 ∨ lec.toNat
  = 5) ∧ s.get (F.CAN_OBJ_STAT_CLASHRUN k) = 2) ∧ (∃ (k : Fin 256) (s : State), s.runs Block.can = true ∧ s.canCfg k.val
  (F.CAN_OBJ_CFG_EN k.val) = 1 ∧ s.canCfg k.val (F.CAN_OBJ_CFG_DIR k.val) = 1 ∧ s.get (F.CAN_OBJ_TIME_PERIOD k.val) ≠ 0 ∧
  s.now % (s.get (F.CAN_OBJ_TIME_PERIOD k.val) * 16000) = s.get (F.CAN_OBJ_TIME_PHASE k.val) * 16000 ∧ (s.flag
  (F.CAN_OBJ_STAT_PEND k.val) = true ∨ s.canActive k.val = true)) ∧ (∃ (k : Fin 256) (s : State), s.runs Block.can = true ∧
  s.canCfg k.val (F.CAN_OBJ_CFG_EN k.val) = 1 ∧ s.canCfg k.val (F.CAN_OBJ_CFG_DIR k.val) = 1 ∧ s.get (F.CAN_OBJ_TIME_PERIOD
  k.val) ≠ 0 ∧ s.now % (s.get (F.CAN_OBJ_TIME_PERIOD k.val) * 16000) = s.get (F.CAN_OBJ_TIME_PHASE k.val) * 16000 ∧ s.flag
  (F.CAN_OBJ_STAT_PEND k.val) = false ∧ s.canActive k.val = false ∧ s.flag (F.CAN_OBJ_CFG_FDF k.val) = false) ∧ (∃ (k : Fin
  256) (s : State), s.kind Block.can = 1 ∧ s.get (F.CAN_OBJ_TMO_TX_TMO k.val) ≠ 0 ∧ s.flag (F.CAN_OBJ_STAT_PEND k.val) =
  true ∧ (s.canObj.get k.val).tmoDone = false ∧ s.canActive k.val = false ∧ s.passed (s.canObj.get k.val).pendAt (s.get
  (F.CAN_OBJ_TMO_TX_TMO k.val) * msec) = true ∧ s.canPriv k.val = false) :=
⟨⟨0, 5, st68.put (F.CAN_OBJ_STAT_CXL 5) 1, (by decide +kernel)⟩, ⟨0, 5, _, 258, 0, 1, false, false,
    { st23 with canCtl := [(0, { (default : CanCtl) with mode := 1, active := some 5, inFrame := true, txErr := 250 })], canObj := [(5, { (default : CanObj) with attCfg := st23.nat (R.CAN_OBJ_CFG 5) })] },
    ⟨(by decide +kernel), (by decide +kernel), (by decide +kernel), (by decide +kernel), (by decide +kernel),
    (by decide +kernel), (by decide +kernel), (by decide +kernel), (rfl), (by decide +kernel), (by decide +kernel),
    (by decide +kernel), (by decide +kernel)⟩⟩, ⟨0, 5, _, 258, 0, 4, true, false,
    { st23 with canCtl := [(0, { (default : CanCtl) with mode := 1, active := some 5, inFrame := true, txErr := 250 })], canObj := [(5, { (default : CanObj) with attCfg := st23.nat (R.CAN_OBJ_CFG 5) })] },
    ⟨(by decide +kernel), (by decide +kernel), (by decide +kernel), (by decide +kernel), (by decide +kernel),
    (by decide +kernel), (by decide +kernel), (by decide +kernel), (rfl), (by decide +kernel), (by decide +kernel),
    (by decide +kernel), (by decide +kernel), (by decide +kernel)⟩⟩, ⟨5, st68, (by decide +kernel)⟩, ⟨5, st40,
    (by decide +kernel)⟩, ⟨5, st48, (by decide +kernel)⟩⟩

theorem witness_CanReceptionModesAndFields : (∃ (n : Fin 3) (f : CanFrame) (sof : BitVec 64) (s : State), s.works Block.can
  = true ∧ ((s.canCtl.get n.val).mode = 1 ∨ (s.canCtl.get n.val).mode = 2) ∧ (s.canCtl.get n.val).busOff = false ∧
  (s.canCtl.get n.val).active = none ∧ f.fdf = false ∧ (s.canCtl.get n.val).rxErr ≤ 127 ∧ (s.canCtl.get n.val).txErr ≤ 127 ∧
  s.flag (F.CAN_CTL_MIR_RX_ALL n.val) = false ∧ s.flag (F.CAN_CTL_MIR_RX_OBJ n.val) = false ∧ f.rtr = true) ∧ (∃ (n : Fin 3)
  (f : CanFrame) (sof : BitVec 64) (s : State) (k : Nat) (j : Nat), s.works Block.can = true ∧ ((s.canCtl.get n.val).mode =
  1 ∨ (s.canCtl.get n.val).mode = 2) ∧ (s.canCtl.get n.val).busOff = false ∧ (s.canCtl.get n.val).active = none ∧ f.fdf =
  false ∧ (s.canCtl.get n.val).rxErr ≤ 127 ∧ (s.canCtl.get n.val).txErr ≤ 127 ∧ s.flag (F.CAN_CTL_MIR_RX_ALL n.val) = false
  ∧ s.flag (F.CAN_CTL_MIR_RX_OBJ n.val) = false ∧ s.canTaker n.val f = some k ∧ s.get (F.CAN_OBJ_CFG_DECODE k) = 0 ∧ j < k)
  ∧ (∃ (n : Fin 3) (f : CanFrame) (sof : BitVec 64) (s : State) (k : Nat) (j : Nat), s.works Block.can = true ∧
  ((s.canCtl.get n.val).mode = 1 ∨ (s.canCtl.get n.val).mode = 2) ∧ (s.canCtl.get n.val).busOff = false ∧ (s.canCtl.get
  n.val).active = none ∧ f.fdf = false ∧ (s.canCtl.get n.val).rxErr ≤ 127 ∧ (s.canCtl.get n.val).txErr ≤ 127 ∧ s.flag
  (F.CAN_CTL_MIR_RX_ALL n.val) = false ∧ s.flag (F.CAN_CTL_MIR_RX_OBJ n.val) = false ∧ s.canTaker n.val f = some k ∧ s.get
  (F.CAN_OBJ_CFG_DECODE k) = 0 ∧ j ≠ k) ∧ (∃ (n : Fin 3) (f : CanFrame) (sof : BitVec 64) (s : State) (k : Nat), s.works
  Block.can = true ∧ ((s.canCtl.get n.val).mode = 1 ∨ (s.canCtl.get n.val).mode = 2) ∧ (s.canCtl.get n.val).busOff = false ∧
  (s.canCtl.get n.val).active = none ∧ f.fdf = false ∧ (s.canCtl.get n.val).rxErr ≤ 127 ∧ (s.canCtl.get n.val).txErr ≤ 127 ∧
  s.flag (F.CAN_CTL_MIR_RX_ALL n.val) = false ∧ s.flag (F.CAN_CTL_MIR_RX_OBJ n.val) = false ∧ s.canTaker n.val f = some k ∧
  s.get (F.CAN_OBJ_CFG_DECODE k) = 0 ∧ s.flag (F.CAN_OBJ_RXHDR_NEW k) = false) ∧ (∃ (n : Fin 3) (f : CanFrame) (sof : BitVec
  64) (s : State) (k : Nat), s.works Block.can = true ∧ ((s.canCtl.get n.val).mode = 1 ∨ (s.canCtl.get n.val).mode = 2) ∧
  (s.canCtl.get n.val).busOff = false ∧ (s.canCtl.get n.val).active = none ∧ f.fdf = false ∧ (s.canCtl.get n.val).rxErr ≤
  127 ∧ (s.canCtl.get n.val).txErr ≤ 127 ∧ s.flag (F.CAN_CTL_MIR_RX_ALL n.val) = false ∧ s.flag (F.CAN_CTL_MIR_RX_OBJ n.val)
  = false ∧ s.canTaker n.val f = some k ∧ s.get (F.CAN_OBJ_CFG_DECODE k) = 0 ∧ s.flag (F.CAN_OBJ_RXHDR_NEW k) = true) ∧ (∃
  (n : Fin 3) (f : CanFrame) (sof : BitVec 64) (s : State), s.works Block.can = true ∧ ((s.canCtl.get n.val).mode = 1 ∨
  (s.canCtl.get n.val).mode = 2) ∧ (s.canCtl.get n.val).busOff = false ∧ (s.canCtl.get n.val).active = none ∧ f.fdf = false
  ∧ (s.canCtl.get n.val).rxErr ≤ 127 ∧ (s.canCtl.get n.val).txErr ≤ 127 ∧ s.flag (F.CAN_CTL_MIR_RX_ALL n.val) = false ∧
  s.flag (F.CAN_CTL_MIR_RX_OBJ n.val) = false ∧ s.canTaker n.val f = none) ∧ (∃ (n : Fin 3) (f : CanFrame) (sof : BitVec 64)
  (s : State) (lec : BitVec 3) (heavy : Bool) (again : Nat), s.works Block.can = true ∧ ((s.canCtl.get n.val).mode = 1 ∨
  (s.canCtl.get n.val).mode = 2) ∧ (s.canCtl.get n.val).busOff = false ∧ (s.canCtl.get n.val).active = none ∧ f.fdf = false
  ∧ (s.canCtl.get n.val).rxErr ≤ 127 ∧ (s.canCtl.get n.val).txErr ≤ 127 ∧ s.flag (F.CAN_CTL_MIR_RX_ALL n.val) = false ∧
  s.flag (F.CAN_CTL_MIR_RX_OBJ n.val) = false) :=
⟨⟨0, { ({ (default : CanFrame) with id := 0x123, dlc := 4, data := [1, 2, 3, 4] }) with rtr := true }, 99, st28,
    (by decide +kernel)⟩, ⟨0, ({ (default : CanFrame) with id := 0x123, dlc := 4, data := [1, 2, 3, 4] }), 99,
    { st73 with canCtl := st73.canCtl.set 0 { st73.canCtl.get 0 with active := none } }, 5, 4, (by decide +kernel)⟩, ⟨0,
    ({ (default : CanFrame) with id := 0x123, dlc := 4, data := [1, 2, 3, 4] }), 99,
    { st73 with canCtl := st73.canCtl.set 0 { st73.canCtl.get 0 with active := none } }, 5, 4, (by decide +kernel)⟩, ⟨0,
    ({ (default : CanFrame) with id := 0x123, dlc := 4, data := [1, 2, 3, 4] }), 99, st28, 5, (by decide +kernel)⟩, ⟨0,
    ({ (default : CanFrame) with id := 0x123, dlc := 4, data := [1, 2, 3, 4] }), 99, st28.put (F.CAN_OBJ_RXHDR_NEW 5) 1, 5,
    (by decide +kernel)⟩, ⟨0,
    { ({ (default : CanFrame) with id := 0x123, dlc := 4, data := [1, 2, 3, 4] }) with id := 0x124 }, 99, st28,
    (by decide +kernel)⟩, ⟨0, ({ (default : CanFrame) with id := 0x123, dlc := 4, data := [1, 2, 3, 4] }), 99,
    { st72 with canCtl := st72.canCtl.set 0 { st72.canCtl.get 0 with active := none } }, 3, true, 5, (by decide +kernel)⟩⟩

theorem witness_CanReceptionModesAndFields_2 : (∃ (k : Fin 256) (s : State), 4 ≤ s.phaseOf ∧ s.served (R.CAN_OBJ_RXHDR
  k.val) = true ∧ s.canCfg k.val (F.CAN_OBJ_CFG_DIR k.val) = 0) ∧ (∃ (k : Fin 256) (s : State), s.get (F.CAN_OBJ_TMO_RX_TMO
  k.val) ≠ 0 ∧ s.runs Block.can = true ∧ s.canCfg k.val (F.CAN_OBJ_CFG_EN k.val) = 1 ∧ s.canCfg k.val (F.CAN_OBJ_CFG_DIR
  k.val) = 0 ∧ s.get (F.CAN_OBJ_CFG_DECODE k.val) = 0 ∧ s.passed (s.canObj.get k.val).storedAt (s.get (F.CAN_OBJ_TMO_RX_TMO
  k.val) * msec) = true) ∧ (∃ (k : Fin 256) (s : State), s.get (F.CAN_OBJ_TMO_RX_TMO k.val) ≠ 0 ∧ s.runs Block.can = true ∧
  s.canCfg k.val (F.CAN_OBJ_CFG_EN k.val) = 1 ∧ s.canCfg k.val (F.CAN_OBJ_CFG_DIR k.val) = 0 ∧ s.get (F.CAN_OBJ_CFG_DECODE
  k.val) = 1 ∧ (s.canObj.get k.val).spdLost = false ∧ s.passed (s.canObj.get k.val).usableAt (s.get (F.CAN_OBJ_TMO_RX_TMO
  k.val) * msec) = true) ∧ (∃ (n : Fin 3) (h : CanHeard) (k : Fin 256) (s : State), (s.works Block.can = false ∨
  (s.canCtl.get n.val).mode = 0 ∨ (s.canCtl.get n.val).mode = 3 ∨ (s.canCtl.get n.val).busOff = true ∨ (s.canCtl.get
  n.val).active ≠ none)) ∧ (∃ (n : Fin 3) (h : CanHeard) (k : Fin 256) (s : State), ((s.canCtl.get n.val).busOff = false ∨
  (s.canCtl.get n.val).recover = false)) ∧ (∃ (n : Fin 3) (h : CanHeard) (k : Fin 256) (s : State), s.get
  (F.CAN_OBJ_TMO_RX_TMO k.val) = 0) ∧ (∃ (n : Fin 3) (h : CanHeard) (k : Fin 256) (s : State), (s.laneIn 9 = false ∨ s.works
  Block.can = false ∨ s.laneLevel 9 = 0)) :=
⟨⟨5,
    { (st28.put (F.CAN_OBJ_RXHDR_NEW 5) 1) with canObj := [(5, { (default : CanObj) with stored := ({ (default : CanFrame) with id := 0x123, dlc := 4, data := [1, 2, 3, 4] }), storedT := 88 })] },
    (by decide +kernel)⟩, ⟨5,
    { (st28.put (F.CAN_OBJ_RXHDR_NEW 5) 1) with canObj := [(5, { (default : CanObj) with stored := ({ (default : CanFrame) with id := 0x123, dlc := 4, data := [1, 2, 3, 4] }), storedT := 88 })] },
    (by decide +kernel)⟩, ⟨5, st28.put (F.CAN_OBJ_CFG_DECODE 5) 1, (by decide +kernel)⟩, ⟨0, .error 1 false 0, 5,
    { st28 with canCtl := [(0, { (default : CanCtl) with mode := 1, busOff := true })] }, (by decide +kernel)⟩, ⟨0, .error 1
    false 0, 5, st28, (by decide +kernel)⟩, ⟨0, .error 1 false 0, 5, entry (having up [(F.CAN_OBJ_CFG_EN 5, 1),
    (F.CAN_OBJ_CFG_DIR 5, 1)]) 9 (padTo 64 [0, 0, 0xC2, 1, 0, 0, 0, 0, 5, 1, 4, 0, 0x23, 1, 0, 0, 9, 8, 7, 6]),
    (by decide +kernel)⟩, ⟨0, .error 1 false 0, 5, st28, (by decide +kernel)⟩⟩

theorem witness_CanReceptionModesAndFields_3 : (∃ (n : Fin 3) (s : State), s.admitsSet (R.CAN_CTL_CMD n.val) 1) ∧ (∃ (n :
  Fin 3) (s : State), s.kind Block.can = 1 ∧ (s.canCtl.get n.val).busOff = true ∧ (s.canCtl.get n.val).recover = true ∧
  (s.canCtl.get n.val).mode ≠ 0) ∧ (∃ (n : Fin 3) (v : Word) (s : State), s.admitsSet (R.CAN_CTL_CFG n.val) (BitVec.toNat v)
  ∧ s.runs Block.can = true ∧ s.released = true ∧ (s.canCtl.get n.val).held = false ∧ s.flag F.PWR_STAT_VIO_OK = true ∧
  s.get (F.CAN_CTL_CFG_MODE n.val) ≠ BitVec.toNat v % 4) ∧ (∃ (s : State) (u : State) (e : List Byte) (k : Nat) (dlc : Nat),
  s.laneIn 9 = true ∧ s.runs Block.can = true ∧ u = s.laneSkip 9 (s.laneLevel 9) ∧ u.laneLevel 9 ≠ 0 ∧ e = u.bytes
  (u.laneSlot 9 (u.get (F.LANE_TAIL_TAIL 9))) 64 ∧ e.getD 2 0 = 194 ∧ nbit (BitVec.toNat (e.getD 3 0)) 0 = true ∧ k =
  BitVec.toNat (e.getD 8 0) ∧ dlc = BitVec.toNat (e.getD 10 0) % 16 ∧ dlc ≤ 8 ∧ u.canCfg k (F.CAN_OBJ_CFG_EN k) = 1 ∧
  u.canCfg k (F.CAN_OBJ_CFG_DIR k) = 1 ∧ u.canPriv k = false ∧ u.flag (F.CAN_OBJ_STAT_PEND k) = false ∧ u.canActive k =
  false ∧ u.flag (F.CAN_OBJ_CFG_FDF k) = false) ∧ (∃ (p : Fin 128) (on : Bool) (k : Nat) (o : Nat) (w : Nat) (v : Nat) (s :
  State), s.works Block.can = true ∧ s.get (F.GEO_PT_BIND_KIND p.val) = 3 ∧ (s.str.points.get p.val).queue = [] ∧
  (s.str.points.get p.val).planOn = false ∧ (s.geo.points.get p.val).cross = 0 ∧ k = s.get (F.GEO_PT_BIND_INST p.val) ∧ o =
  s.get (F.GEO_PT_BIND_BITOFS p.val) ∧ w = s.get (F.GEO_PT_BIND_WIDTH p.val) + 1 ∧ o + w ≤ 512 ∧ (v = if on = true then
  s.get (F.GEO_PT_CANVAL_ONVAL p.val) else s.get (F.GEO_PT_CANVAL_OFFVAL p.val)) ∧ s.flag (F.CAN_OBJ_CFG_TRIG_CHG k) =
  false) ∧ (∃ (p : Fin 128) (on : Bool) (k : Nat) (o : Nat) (w : Nat) (v : Nat) (s : State), s.works Block.can = true ∧
  s.get (F.GEO_PT_BIND_KIND p.val) = 3 ∧ (s.str.points.get p.val).queue = [] ∧ (s.str.points.get p.val).planOn = false ∧
  (s.geo.points.get p.val).cross = 0 ∧ k = s.get (F.GEO_PT_BIND_INST p.val) ∧ o = s.get (F.GEO_PT_BIND_BITOFS p.val) ∧ w =
  s.get (F.GEO_PT_BIND_WIDTH p.val) + 1 ∧ o + w ≤ 512 ∧ (v = if on = true then s.get (F.GEO_PT_CANVAL_ONVAL p.val) else
  s.get (F.GEO_PT_CANVAL_OFFVAL p.val)) ∧ s.flag (F.CAN_OBJ_CFG_TRIG_CHG k) = true ∧ canBits (s.canData k) o w ≠ v % 2 ^ w ∧
  s.canCfg k (F.CAN_OBJ_CFG_DIR k) = 1 ∧ s.canActive k = false ∧ s.flag (F.CAN_OBJ_CFG_FDF k) = false) :=
⟨⟨0, { st28 with canCtl := [(0, { (default : CanCtl) with mode := 1, busOff := true })] }, (by decide +kernel)⟩, ⟨0,
    { st28 with canCtl := [(0, { (default : CanCtl) with mode := 1, busOff := true, recover := true, txErr := 300 })] },
    (by decide +kernel)⟩, ⟨0, 2#32, st28, (by decide +kernel)⟩, ⟨entry (having up [(F.CAN_OBJ_CFG_EN 5, 1),
    (F.CAN_OBJ_CFG_DIR 5, 1)]) 9 (padTo 64 [0, 0, 0xC2, 1, 0, 0, 0, 0, 5, 1, 4, 0, 0x23, 1, 0, 0, 9, 8, 7, 6]), st55,
    (st55.bytes (st55.laneSlot 9 (st55.get (F.LANE_TAIL_TAIL 9))) 64), (BitVec.toNat ((st55.bytes (st55.laneSlot 9 (st55.get
    (F.LANE_TAIL_TAIL 9))) 64).getD 8 0)), (BitVec.toNat ((st55.bytes (st55.laneSlot 9 (st55.get (F.LANE_TAIL_TAIL 9)))
    64).getD 10 0) % 16), (by decide +kernel)⟩, ⟨3, true, (st63.get (F.GEO_PT_BIND_INST 3)), (st63.get (F.GEO_PT_BIND_BITOFS
    3)), (st63.get (F.GEO_PT_BIND_WIDTH 3) + 1), (if true = true then st63.get (F.GEO_PT_CANVAL_ONVAL 3) else st63.get
    (F.GEO_PT_CANVAL_OFFVAL 3)), having (st28) [(F.GEO_PT_BIND_KIND 3, 3), ((F.CAN_OBJ_CFG_TRIG_CHG ((st28).get
    (F.GEO_PT_BIND_INST 3))), 0)], (by decide +kernel)⟩, ⟨3, true, (st38.get (F.GEO_PT_BIND_INST 3)), (st38.get
    (F.GEO_PT_BIND_BITOFS 3)), (st38.get (F.GEO_PT_BIND_WIDTH 3) + 1), (if true = true then st38.get (F.GEO_PT_CANVAL_ONVAL
    3) else st38.get (F.GEO_PT_CANVAL_OFFVAL 3)), having (having up [(F.CAN_OBJ_CFG_EN 5, 1), (F.CAN_OBJ_CFG_DIR 5, 1)])
    [(F.GEO_PT_BIND_KIND 3, 3), (F.GEO_PT_BIND_INST 3, 5), (F.GEO_PT_BIND_BITOFS 3, 8), (F.GEO_PT_BIND_WIDTH 3, 7),
    (F.GEO_PT_CANVAL_ONVAL 3, 0xAB), (F.CAN_OBJ_CFG_TRIG_CHG 5, 1)], (by decide +kernel)⟩⟩

theorem witness_ResetEmptiesTheReplyCache : (∃ (i : Instr) (s : State), (i = Instr.resetNAssert ∧ s.pwr.held = false ∧
  s.phaseOf ≠ 0 ∨ i = Instr.deviceReset ∧ s.pwr.softAt.isSome = true ∨ i = Instr.watchdogExpiry ∧ 3 ≤ s.phaseOf ∨ i =
  Instr.railFault ∧ s.flag F.PWR_STAT_RAILS_OK = true ∧ s.flag F.PWR_STAT_VBAT_OK = true ∧ s.pwr.held = false)) ∧ (∃ (i :
  Instr) (p : Port) (l : LinkProbe) (s : State), (i = Instr.portLoseLock p ∨ i = Instr.retrainDone p l ∨ i = Instr.portDown
  p ∨ i = Instr.portUp p l)) :=
⟨⟨.resetNAssert,
    ({ up with link := { up.link with host := ⟨7, [⟨6, 2, false, []⟩], []⟩, lead := ⟨3, [⟨6, 2, false, []⟩], []⟩ } }),
    (by decide +kernel)⟩, ⟨.portLoseLock .out, .out, ⟨55, [3]⟩,
    ({ up with link := { up.link with host := ⟨7, [⟨6, 2, false, []⟩], []⟩, lead := ⟨3, [⟨6, 2, false, []⟩], []⟩ } }),
    (by decide +kernel)⟩⟩

theorem witness_ClockMonitorsAndFallback : (∃ (n : BitVec 17) (s : State), s.powered = true ∧ s.clocks.step ≠ 1 ∧
  s.clocks.step ≠ 5 ∧ s.kind Block.clk = 1 ∧ 56250 ≤ n.toNat ∧ n.toNat ≤ 68750) ∧ (∃ (n : BitVec 17) (s : State), s.powered
  = true ∧ s.clocks.step ≠ 1 ∧ s.clocks.step ≠ 5 ∧ s.kind Block.clk = 1 ∧ (n.toNat < 56250 ∨ 68750 < n.toNat)) ∧ (∃ (n :
  BitVec 17) (s : State) (i : Nat), s.powered = true ∧ s.clocks.step = 1 ∧ 1 ≤ s.clocks.passes ∧ s.get F.CLK_START_ATT < 3 ∧
  56250 ≤ n.toNat ∧ n.toNat ≤ 68750 ∧ i < 12 ∧ i ≠ 6 ∧ s.gated i = false ∧ (∀ x ∈ s.clocks.gateAt, x.1 ≠ i)) ∧ (∃ (n :
  BitVec 17) (s : State), s.powered = true ∧ s.clocks.step = 5 ∧ s.flag F.CLK_STAT_XO_OK = true ∧ 1 ≤ s.clocks.trimPasses ∧
  56250 ≤ n.toNat ∧ n.toNat ≤ 68750) ∧ (∃ (c : BitVec 16) (e : BitVec 16) (r : BitVec 10) (l : List Nat) (s : State) (d :
  Nat), s.powered = true ∧ 3 ≤ s.clocks.step ∧ l = List.take 8 (c.toNat :: s.clocks.counts) ∧ s.flag F.CLK_STAT_XO_OK = true
  ∧ xoTrips (List.map Prod.snd s.xoRecent) s.clocks.devs c.toNat = (false, d)) ∧ (∃ (c : BitVec 16) (e : BitVec 16) (r :
  BitVec 10) (l : List Nat) (s : State), s.powered = true ∧ 3 ≤ s.clocks.step ∧ l = List.take 8 (c.toNat :: s.clocks.counts)
  ∧ s.flag F.CLK_STAT_XO_OK = false ∧ xoGood l = true ∧ s.clocks.step = 3 ∧ s.flag F.CLK_STAT_FB = false) ∧ (∃ (i : Instr)
  (c : BitVec 16) (e : BitVec 16) (r : BitVec 10) (s : State) (n : Nat), s.kind Block.clk = 1 ∧ s.flag F.CLK_STAT_XO_OK =
  true ∧ (i = Instr.xoEdgeLoss ∨ i = Instr.xoCount c r e ∧ s.powered = true ∧ 3 ≤ s.clocks.step ∧ (xoTrips (List.map
  Prod.snd s.xoRecent) s.clocks.devs c.toNat).1 = true) ∧ s.flag F.CLK_STAT_FB = false ∧ s.flag F.CLK_STAT_FBARM = true ∧
  s.flag F.CLK_STAT_MRC_OK = true ∧ n < 3 ∧ (s.canCtl.get n).inFrame = false ∧ s.runs Block.can = true ∧ s.flag
  F.PWR_STAT_VIO_OK = true ∧ s.released = true) :=
⟨⟨62500, up, (by decide +kernel)⟩, ⟨56249, st9, (by decide +kernel)⟩, ⟨60000,
    { (having up [(F.CLK_ISL_STAT_STATE 3, 1)]) with clocks := { (default : ClkState) with step := 1, passes := 1 } }, 3,
    (by decide +kernel)⟩, ⟨62500,
    { (having st9 [(F.CLK_STAT_FBARM, 0), (F.PWR_STAT_PHASE, 1)]) with clocks := { up.clocks with step := 5, trimPasses := 1, passes := 2 } },
    (by decide +kernel)⟩, ⟨26000, 0, 0, (List.take 8 (26000 ::
    ({ st9 with clocks := { up.clocks with counts := [26010], hist := [26010, 26000] } }).clocks.counts)),
    { st9 with clocks := { up.clocks with counts := [26010], hist := [26010, 26000] } }, 0, (by decide +kernel)⟩, ⟨26000, 7,
    9, (List.take 8 (26000 ::
    ({ (having st9 [(F.CLK_STAT_FBARM, 0), (F.CLK_STAT_XO_OK, 0), (F.CLK_STAT_REFMRC, 0x17), (F.PWR_STAT_PHASE, 1)]) with clocks := { up.clocks with step := 3, counts := List.replicate 7 26000 } }).clocks.counts)),
    { (having st9 [(F.CLK_STAT_FBARM, 0), (F.CLK_STAT_XO_OK, 0), (F.CLK_STAT_REFMRC, 0x17), (F.PWR_STAT_PHASE, 1)]) with clocks := { up.clocks with step := 3, counts := List.replicate 7 26000 } },
    (by decide +kernel)⟩, ⟨.xoEdgeLoss, 26000, 26000, 0,
    { (having up [(F.CLK_STAT_XO_OK, 1), (F.CLK_STAT_FB, 0), (F.CLK_STAT_FBARM, 1), (F.CLK_STAT_MRC_OK, 1), (H.enable .can, 1), (F.PWR_STAT_VIO_OK, 1)]) with canCtl := (having up [(F.CLK_STAT_XO_OK, 1), (F.CLK_STAT_FB, 0), (F.CLK_STAT_FBARM, 1), (F.CLK_STAT_MRC_OK, 1), (H.enable .can, 1), (F.PWR_STAT_VIO_OK, 1)]).canCtl.set 0 { (having up [(F.CLK_STAT_XO_OK, 1), (F.CLK_STAT_FB, 0), (F.CLK_STAT_FBARM, 1), (F.CLK_STAT_MRC_OK, 1), (H.enable .can, 1), (F.PWR_STAT_VIO_OK, 1)]).canCtl.get 0 with inFrame := false } },
    0, (by decide +kernel)⟩⟩

theorem witness_ClockMonitorsAndFallback_2 : (∃ (i : Instr) (c : BitVec 16) (e : BitVec 16) (r : BitVec 10) (s : State),
  s.kind Block.clk = 1 ∧ s.flag F.CLK_STAT_XO_OK = true ∧ (i = Instr.xoEdgeLoss ∨ i = Instr.xoCount c r e ∧ s.powered = true
  ∧ 3 ≤ s.clocks.step ∧ (xoTrips (List.map Prod.snd s.xoRecent) s.clocks.devs c.toNat).1 = true) ∧ s.flag F.CLK_STAT_FB =
  true ∧ s.flag F.CLK_STAT_FBARM = true ∧ s.flag F.CLK_STAT_MRC_OK = true) ∧ (∃ (i : Instr) (c : BitVec 16) (e : BitVec 16)
  (r : BitVec 10) (s : State) (n : Nat), s.kind Block.clk = 1 ∧ s.flag F.CLK_STAT_XO_OK = true ∧ (i = Instr.xoEdgeLoss ∨ i =
  Instr.xoCount c r e ∧ s.powered = true ∧ 3 ≤ s.clocks.step ∧ (xoTrips (List.map Prod.snd s.xoRecent) s.clocks.devs
  c.toNat).1 = true) ∧ (s.flag F.CLK_STAT_FBARM && s.flag F.CLK_STAT_MRC_OK) = false ∧ s.clocks.step ≠ 8 ∧ n < 96) ∧ (∃ (i :
  Instr) (c : BitVec 16) (e : BitVec 16) (r : BitVec 10) (s : State) (k : Nat), s.kind Block.clk = 1 ∧ s.flag
  F.CLK_STAT_XO_OK = true ∧ (i = Instr.xoEdgeLoss ∨ i = Instr.xoCount c r e ∧ s.powered = true ∧ 3 ≤ s.clocks.step ∧
  (xoTrips (List.map Prod.snd s.xoRecent) s.clocks.devs c.toNat).1 = true) ∧ (s.flag F.CLK_STAT_FBARM && s.flag
  F.CLK_STAT_MRC_OK) = false ∧ s.clocks.step ≠ 8 ∧ k < 24 ∧ s.hswHere k = true ∧ s.limped k = false) ∧ (∃ (s : State),
  s.kind Block.clk = 1 ∧ s.clocks.step = 3 ∧ s.flag F.CLK_STAT_XO_OK = false ∧ s.passed s.clocks.xoAt (100 * msec) = true ∧
  s.islSt 6 ≠ 2) ∧ (∃ (v : Word) (s : State) (n : Nat), s.admitsSet R.CLK_CTRL (BitVec.toNat v ||| 2) ∧ s.flag F.CLK_STAT_FB
  = true ∧ s.flag F.CLK_STAT_XO_OK = true ∧ s.clocks.step ≠ 8 ∧ s.flag F.CLK_STAT_FBARM = true ∧ n < 3) ∧ (∃ (v : Word) (s :
  State), s.admitsSet R.CLK_CTRL (BitVec.toNat v ||| 2) ∧ s.flag F.CLK_STAT_FB = true ∧ s.flag F.CLK_STAT_XO_OK = true ∧
  s.clocks.step ≠ 8 ∧ s.flag F.CLK_STAT_FBARM = false) ∧ (∃ (v : Word) (s : State), s.admitsSet R.CLK_CTRL (BitVec.toNat v
  ||| 2) ∧ ((s.flag F.CLK_STAT_FB && s.flag F.CLK_STAT_XO_OK) = false ∨ s.clocks.step = 8)) :=
⟨⟨.xoEdgeLoss, 26000, 26000, 0, having up [(F.CLK_STAT_XO_OK, 1), (F.CLK_STAT_FB, 1), (F.CLK_STAT_FBARM, 1),
    (F.CLK_STAT_MRC_OK, 1)], (by decide +kernel)⟩, ⟨.xoEdgeLoss, 26000, 26000, 0, having up [(F.CLK_STAT_XO_OK, 1)], 0,
    (by decide +kernel)⟩, ⟨.xoEdgeLoss, 26000, 26000, 0, having up [(F.CLK_STAT_XO_OK, 1)], 0, (by decide +kernel)⟩,
    ⟨{ (st9.put F.CLK_STAT_XO_OK 0) with clocks := { up.clocks with step := 3 } }, (by decide +kernel)⟩, ⟨1#32, having up
    [(F.CLK_STAT_FB, 1), (F.CLK_STAT_XO_OK, 1), (F.CLK_STAT_FBARM, 1)], 0, (by decide +kernel)⟩, ⟨1#32, having up
    [(F.CLK_STAT_FB, 1), (F.CLK_STAT_XO_OK, 1), (F.CLK_STAT_FBARM, 0)], (by decide +kernel)⟩, ⟨1#32, st9,
    (by decide +kernel)⟩⟩

theorem witness_ClockMonitorsAndFallback_3 : (∃ (n : BitVec 17) (c : BitVec 16) (e : BitVec 16) (r : BitVec 10) (s : State),
  s.powered = false) ∧ (∃ (n : BitVec 17) (c : BitVec 16) (e : BitVec 16) (r : BitVec 10) (s : State), s.flag
  F.CLK_STAT_XO_OK = false) ∧ (∃ (n : BitVec 17) (c : BitVec 16) (e : BitVec 16) (r : BitVec 10) (s : State), (s.clocks.step
  ≠ 3 ∨ s.flag F.CLK_STAT_XO_OK = true)) ∧ (∃ (f : Word) (x : Int) (s : State), s.flag F.CLK_STAT_FB = false ∧ s.flag
  F.CLK_STAT_XO_OK = false) ∧ (∃ (f : Word) (x : Int) (s : State), s.flag F.CLK_STAT_FB = true) ∧ (∃ (f : Word) (x : Int) (s
  : State), s.flag F.CLK_STAT_FB = false ∧ s.flag F.CLK_STAT_XO_OK = true) :=
⟨⟨62500, 26000, 26000, 0, State.reset, (by decide +kernel)⟩, ⟨62500, 26000, 26000, 0, up, (by decide +kernel)⟩, ⟨62500,
    26000, 26000, 0, up, (by decide +kernel)⟩, ⟨1#32, 0, up, (by decide +kernel)⟩, ⟨1#32, 0, having st9 [(F.CLK_STAT_FB, 1),
    (F.CLK_STAT_REFMRC, 0x17)], (by decide +kernel)⟩, ⟨1#32, 0, st9, (by decide +kernel)⟩⟩

theorem witness_PllsGatesAndTheCoreRail : (∃ (i : Fin 12) (s : State) (b : Block), i.val ∈ s.clocks.stopReq ∧ i.val ∉ [6,
  10, 11] ∧ s.islSt i.val ≠ 2 ∧ workIsland b = some i.val) ∧ (∃ (d : Fin 2) (i : Fin 12) (s : State), i.val = 10 + d.val ∧
  i.val ∈ s.clocks.stopReq ∧ s.islSt i.val ≠ 2) ∧ (∃ (p : Fin 5) (s : State) (i : Nat), s.kind Block.clk = 1 ∧ nbit (s.get
  F.CLK_STAT_LOCK) p.val = true ∧ s.refOk p.val = true ∧ i ∈ islandsOf p.val) ∧ (∃ (p : Fin 5) (x : Nat × Nat) (s : State)
  (i : Nat), (List.find? (fun y => y.1 == p.val) s.clocks.pllLost = some x) ∧ s.clk ≤ x.2 + msec ∧ (p.val = 3 → s.flag
  F.CLK_STAT_FB = false) ∧ i ∈ islandsOf p.val) ∧ (∃ (p : Fin 5) (x : Nat × Nat) (s : State), (List.find? (fun y => y.1 ==
  p.val) s.clocks.pllLost = some x) ∧ x.2 + msec ≤ s.clk ∧ s.kind Block.clk = 1 ∧ s.clocks.step ≠ 8) ∧ (∃ (v : Word) (i :
  Nat) (s : State), s.admitsSet R.CLK_GATE_REQ (BitVec.toNat v) ∧ i ∈ [6, 8, 9] ∧ BitVec.getLsbD v i = true ∧ nbit (s.nat
  R.CLK_GATE_REQ) i = false ∧ s.gated i = false ∧ s.halted i = false ∧ s.islClocked i = true) ∧ (∃ (v : Word) (i : Nat) (s :
  State), s.admitsSet R.CLK_GATE_REQ (BitVec.toNat v) ∧ i ∈ [6, 8, 9] ∧ BitVec.getLsbD v i = false ∧ nbit (s.nat
  R.CLK_GATE_REQ) i = true ∧ (i ≠ 6 ∨ s.isSat = false)) :=
⟨⟨8, { up with clocks := { up.clocks with stopReq := [8] } }, .can, (by decide +kernel)⟩, ⟨0, 10,
    { (having up [(F.CLK_ISL_STAT_STATE 10, 1)]) with clocks := { up.clocks with stopReq := [10] } }, (by decide +kernel)⟩,
    ⟨1, { st9 with clocks := { up.clocks with stopReq := [3, 5] } }, 1, (by decide +kernel)⟩, ⟨1, (1, 1599999000),
    { st9 with clocks := { up.clocks with pllLost := [(1, 1599999000)] } }, 1, (by decide +kernel)⟩, ⟨1, (1, 1599900000),
    { st9 with clocks := { up.clocks with pllLost := [(1, 1599900000)] } }, (by decide +kernel)⟩, ⟨0x100#32, 8, st9.put
    (H.enable .can) 0, (by decide +kernel)⟩, ⟨0#32, 6, having st9 [(⟨R.CLK_GATE_REQ, 6, 1⟩, 1), (F.CLK_ISL_STAT_STATE 6, 2),
    (⟨R.CLK_GATE_STAT, 6, 1⟩, 1)], (by decide +kernel)⟩⟩

theorem witness_PllsGatesAndTheCoreRail_2 : (∃ (p : Fin 5) (i : Fin 12) (m : BitVec 8) (s : State), i.val ∉
  s.clocks.stopReq) ∧ (∃ (p : Fin 5) (i : Fin 12) (m : BitVec 8) (s : State), (nbit (s.get F.CLK_STAT_LOCK) p.val = false ∨
  s.refOk p.val = false)) ∧ (∃ (p : Fin 5) (i : Fin 12) (m : BitVec 8) (s : State), (List.find? (fun y => y.1 == p.val)
  s.clocks.pllLost = none)) ∧ (∃ (p : Fin 5) (i : Fin 12) (m : BitVec 8) (s : State), (List.find? (fun y => y.1 == i.val)
  s.clocks.gateAt = none)) ∧ (∃ (p : Fin 5) (i : Fin 12) (m : BitVec 8) (s : State), s.powered = false) ∧ (∃ (i : Fin 12) (s
  : State), ((s.clocks.gateAt.any fun x => x.1 == i.val && decide (s.clk ≤ x.2 + gateLimit i.val)) = true)) ∧ (∃ (i : Fin
  12) (x : Nat × Nat) (s : State), s.kind Block.clk = 1 ∧ (List.find? (fun y => y.1 == i.val) s.clocks.gateAt = some x) ∧
  s.passed x.2 (gateLimit i.val + 1) = true ∧ s.gated i.val = false ∧ s.halted i.val = false ∧ s.islClocked i.val = true) :=
⟨⟨1, 3, 5, { st9 with clocks := { up.clocks with stopReq := [11] } }, (by decide +kernel)⟩, ⟨1, 3, 5,
    { (having up [(F.CLK_ISL_STAT_STATE 10, 1)]) with clocks := { up.clocks with stopReq := [10] } }, (by decide +kernel)⟩,
    ⟨1, 3, 5, { st9 with clocks := { up.clocks with stopReq := [3, 5] } }, (by decide +kernel)⟩, ⟨1, 3, 5,
    { st9 with clocks := { up.clocks with stopReq := [3, 5] } }, (by decide +kernel)⟩, ⟨1, 3, 5, State.reset,
    (by decide +kernel)⟩, ⟨3, { up with clocks := { up.clocks with gateAt := [(3, 1600000000)] } }, (by decide +kernel)⟩,
    ⟨8, (8, 9),
    { (having st9 [(⟨R.CLK_GATE_REQ, 8, 1⟩, 1), (F.CLK_ISL_STAT_STATE 8, 3)]) with clocks := { up.clocks with gateAt := [(8, 9)] } },
    (by decide +kernel)⟩⟩

theorem witness_PllsGatesAndTheCoreRail_3 : (∃ (m : BitVec 8) (s : State), s.powered = true ∧ s.safe = false ∧ s.flag
  F.CLK_AVS_CFG_EN = false) ∧ (∃ (m : BitVec 8) (s : State), s.powered = true ∧ s.safe = false ∧ s.flag F.CLK_AVS_CFG_EN =
  true ∧ (s.passed s.clocks.refAt 1600 && s.passed s.clocks.avsAt 1600) = false) ∧ (∃ (m : BitVec 8) (s : State), s.powered
  = true ∧ s.safe = false ∧ s.flag F.CLK_AVS_CFG_EN = true ∧ s.passed s.clocks.refAt 1600 = true ∧ s.passed s.clocks.avsAt
  1600 = true ∧ m.toInt < ↑(s.get F.CLK_AVS_CFG_MARGIN) ∧ s.get F.CLK_AVS_STAT_MV < 900) ∧ (∃ (m : BitVec 8) (s : State),
  s.powered = true ∧ s.safe = false ∧ s.flag F.CLK_AVS_CFG_EN = true ∧ s.passed s.clocks.refAt 1600 = true ∧ s.passed
  s.clocks.avsAt 1600 = true ∧ m.toInt < ↑(s.get F.CLK_AVS_CFG_MARGIN) ∧ 900 ≤ s.get F.CLK_AVS_STAT_MV ∧ s.clocks.avsTold =
  true) ∧ (∃ (m : BitVec 8) (s : State) (x : Nat), s.powered = true ∧ s.safe = false ∧ s.flag F.CLK_AVS_CFG_EN = true ∧
  s.passed s.clocks.refAt 1600 = true ∧ s.passed s.clocks.avsAt 1600 = true ∧ m.toInt < ↑(s.get F.CLK_AVS_CFG_MARGIN) ∧ 900
  ≤ s.get F.CLK_AVS_STAT_MV ∧ s.clocks.avsLow = some x ∧ s.passed x (10 * msec) = true ∧ s.clocks.avsTold = false ∧ s.kind
  Block.pwr = 1) ∧ (∃ (m : BitVec 8) (s : State), s.powered = true ∧ s.safe = false ∧ s.flag F.CLK_AVS_CFG_EN = true ∧
  s.passed s.clocks.refAt 1600 = true ∧ s.passed s.clocks.avsAt 1600 = true ∧ ↑(s.get F.CLK_AVS_CFG_MARGIN) ≤ m.toInt) :=
⟨⟨5, st9, (by decide +kernel)⟩, ⟨5,
    { (having st9 [(F.CLK_AVS_CFG_EN, 1), (F.CLK_AVS_CFG_MARGIN, 8), (F.CLK_AVS_STAT_MV, 800)]) with clocks := { up.clocks with refAt := 1599999999 } },
    (by decide +kernel)⟩, ⟨5, having st9 [(F.CLK_AVS_CFG_EN, 1), (F.CLK_AVS_CFG_MARGIN, 8), (F.CLK_AVS_STAT_MV, 800)],
    (by decide +kernel)⟩, ⟨5, { st47 with clocks := { st47.clocks with avsTold := true } }, (by decide +kernel)⟩, ⟨5,
    { ({ st47 with clocks := { st47.clocks with avsLow := some 8 } }) with clocks := { ({ st47 with clocks := { st47.clocks with avsLow := some 8 } }).clocks with avsTold := false } },
    8, (by decide +kernel)⟩, ⟨12, having st9 [(F.CLK_AVS_CFG_EN, 1), (F.CLK_AVS_CFG_MARGIN, 8), (F.CLK_AVS_STAT_MV, 800)],
    (by decide +kernel)⟩⟩

theorem witness_SupplyEventsAndTheSafeState : (∃ (s : State), s.pwr.booting = false) ∧ (∃ (v : Bool) (x : BitVec 16) (s :
  State), s.pwr.booting = true) ∧ (∃ (v : Bool) (x : BitVec 16) (s : State), s.powered = false) ∧ (∃ (v : Bool) (x : BitVec
  16) (s : State), (s.flag F.PWR_STAT_VBAT_OK = false ∨ s.flag F.PWR_STAT_SSAFE = true)) ∧ (∃ (v : Bool) (x : BitVec 16) (s
  : State), s.flag F.PWR_STAT_SSAFE = false) ∧ (∃ (v : Bool) (x : BitVec 16) (s : State), s.flag F.PWR_STAT_VIO_OK = false)
  ∧ (∃ (v : Bool) (x : BitVec 16) (s : State), s.flag F.PWR_STAT_VIO_OK = true) :=
⟨⟨State.reset, (by decide +kernel)⟩, ⟨true, 850, { State.reset with pwr := { State.reset.pwr with booting := true } },
    (by decide +kernel)⟩, ⟨true, 850, State.reset, (by decide +kernel)⟩, ⟨true, 850, State.reset, (by decide +kernel)⟩,
    ⟨true, 850, State.reset, (by decide +kernel)⟩, ⟨true, 850, State.reset, (by decide +kernel)⟩, ⟨true, 850, up,
    (by decide +kernel)⟩⟩

theorem witness_SupplyEventsAndTheSafeState_2 : (∃ (v : Bool) (x : BitVec 16) (s : State), (s.pwr.runAt = none ∨ s.phaseOf ≠
  5)) ∧ (∃ (s : State), s.powered = true ∧ s.kind Block.pwr = 1 ∧ s.flag F.PWR_STAT_LOW = false) ∧ (∃ (s : State), s.powered
  = true ∧ s.kind Block.pwr = 1 ∧ s.flag F.PWR_STAT_LOW = true) ∧ (∃ (s : State) (n : Nat), s.flag F.PWR_STAT_VBAT_OK = true
  ∧ s.flag F.PWR_STAT_SSAFE = false ∧ s.kind Block.pwr = 1 ∧ n < 96) ∧ (∃ (s : State) (k : Nat), s.flag F.PWR_STAT_VBAT_OK =
  true ∧ s.flag F.PWR_STAT_SSAFE = false ∧ s.kind Block.pwr = 1 ∧ k < 24 ∧ s.hswHere k = true ∧ s.limped k = false) ∧ (∃ (s
  : State) (n : Nat), s.flag F.PWR_STAT_SSAFE = true ∧ n < 96 ∧ s.solMode n ≠ 3) ∧ (∃ (s : State) (n : Nat), s.flag
  F.PWR_STAT_VIO_OK = true ∧ s.kind Block.pwr = 1 ∧ n < 3) :=
⟨⟨true, 850, State.reset, (by decide +kernel)⟩, ⟨up, (by decide +kernel)⟩, ⟨up.put F.PWR_STAT_LOW 1, (by decide +kernel)⟩,
    ⟨up, 5, (by decide +kernel)⟩, ⟨up, 5, (by decide +kernel)⟩,
    ⟨{ (having (having up [(F.SOL_CH_STAT_PHASE 3, 4), (F.HSW_CH_STAT_ON 3, 1)]) [(F.PWR_STAT_SSAFE, 1), (F.PWR_STAT_VBAT_OK, 0)]) with str := { up.str with points := [(3, { (default : StrPt) with settled := true })] } },
    5, (by decide +kernel)⟩, ⟨up, 0, (by decide +kernel)⟩⟩

theorem witness_SupplyEventsAndTheSafeState_3 : (∃ (s : State) (k : Nat), s.flag F.PWR_STAT_VIO_OK = true ∧ s.kind Block.pwr
  = 1 ∧ k < 256 ∧ s.flag (F.CAN_OBJ_STAT_CXL k) = false ∧ (s.canObj.get k).tmoLatch = false ∧ (s.canObj.get k).discard =
  false) ∧ (∃ (v : Bool) (s : State) (n : Nat), s.flag F.PWR_STAT_VIO_OK = false ∧ n < 3 ∧ (s.canCtl.get n).inFrame = false
  ∧ s.runs Block.can = true ∧ s.released = true ∧ (s.canCtl.get n).held = false) ∧ (∃ (x : BitVec 16) (s : State), s.powered
  = true ∧ s.kind Block.pwr = 1 ∧ 850 ≤ x.toInt ∧ s.pwr.slugWarn = false) ∧ (∃ (x : BitVec 16) (s : State), s.powered = true
  ∧ s.kind Block.pwr = 1 ∧ (x.toInt < 850 ∨ s.pwr.slugWarn = true)) ∧ (∃ (r : Nat) (s : State), s.pwr.runAt = some r ∧
  s.phaseOf = 5 ∧ s.passed r (60 * second) = true) :=
⟨⟨up, 5, (by decide +kernel)⟩, ⟨true, { st37 with canCtl := st37.canCtl.set 0 { st37.canCtl.get 0 with held := false } }, 0,
    (by decide +kernel)⟩, ⟨850, up, (by decide +kernel)⟩, ⟨849, { up with pwr := { up.pwr with slugWarn := true } },
    (by decide +kernel)⟩, ⟨5, { (up.put F.PWR_RST_CAUSE_WRUN 2) with pwr := { up.pwr with runAt := some 5 } },
    (by decide +kernel)⟩⟩

theorem witness_CountersArePersisted : (∃ (s : State), s.admitsSet R.PWR_CMD 1 ∧ s.flag F.PWR_PERSIST_BUSY = true) ∧ (∃ (s :
  State), s.admitsSet R.PWR_CMD 1 ∧ s.flag F.PWR_PERSIST_BUSY = false ∧ s.enabled Block.pwr = false) ∧ (∃ (s : State),
  s.admitsSet R.PWR_CMD 1 ∧ s.flag F.PWR_PERSIST_BUSY = false ∧ s.enabled Block.pwr = true) ∧ (∃ (s : State),
  s.flash.running = true) ∧ (∃ (s : State), s.flash.running = false) ∧ (∃ (s : State), s.powered = false) :=
⟨⟨up.put F.PWR_PERSIST_BUSY 1, (by decide +kernel)⟩, ⟨up.put (H.enable .pwr) 0, (by decide +kernel)⟩, ⟨up,
    (by decide +kernel)⟩, ⟨{ (up.put F.PWR_PERSIST_BUSY 1) with flash := { up.flash with running := true } },
    (by decide +kernel)⟩, ⟨up.put F.PWR_PERSIST_BUSY 1, (by decide +kernel)⟩, ⟨State.reset, (by decide +kernel)⟩⟩

theorem witness_CountersArePersisted_2 : (∃ (s : State), s.powered = true) ∧ (∃ (o : FlashOp) (l : List FlashOp) (s :
  State), s.flash.class3 = o :: l ∧ s.flash.urgent = false ∧ s.recd.staged = [] ∧ (s.flash.class4 = [] ∨ s.enabled Block.mem
  = false ∨ s.flash.waited < 15) ∧ (o = FlashOp.hours ∨ o = FlashOp.periodic ∨ o = FlashOp.persist ∨ o = FlashOp.telemetry)
  ∧ o = FlashOp.persist) ∧ (∃ (o : FlashOp) (l : List FlashOp) (s : State), s.flash.class3 = o :: l ∧ s.flash.urgent = false
  ∧ s.recd.staged = [] ∧ (s.flash.class4 = [] ∨ s.enabled Block.mem = false ∨ s.flash.waited < 15) ∧ (o = FlashOp.hours ∨ o
  = FlashOp.periodic ∨ o = FlashOp.persist ∨ o = FlashOp.telemetry) ∧ o = FlashOp.hours) ∧ (∃ (o : FlashOp) (l : List
  FlashOp) (s : State), s.flash.class3 = o :: l ∧ s.flash.urgent = false ∧ s.recd.staged = [] ∧ (s.flash.class4 = [] ∨
  s.enabled Block.mem = false ∨ s.flash.waited < 15) ∧ (o = FlashOp.hours ∨ o = FlashOp.periodic ∨ o = FlashOp.persist ∨ o =
  FlashOp.telemetry) ∧ o = FlashOp.periodic) ∧ (∃ (o : FlashOp) (l : List FlashOp) (s : State), s.flash.class3 = o :: l ∧
  s.flash.urgent = false ∧ s.recd.staged = [] ∧ (s.flash.class4 = [] ∨ s.enabled Block.mem = false ∨ s.flash.waited < 15) ∧
  (o = FlashOp.hours ∨ o = FlashOp.periodic ∨ o = FlashOp.persist ∨ o = FlashOp.telemetry) ∧ o = FlashOp.telemetry) :=
⟨⟨up.put F.PWR_PERSIST_BUSY 1, (by decide +kernel)⟩, ⟨(FlashOp.persist), [],
    { up with flash := { up.flash with class3 := [.persist] } }, (by decide +kernel)⟩, ⟨(FlashOp.hours), [.persist],
    { up with flash := { up.flash with class3 := [.hours, .persist] } }, (by decide +kernel)⟩, ⟨(FlashOp.periodic), [],
    { up with flash := { up.flash with class3 := [.periodic] } }, (by decide +kernel)⟩, ⟨(FlashOp.telemetry), [],
    { up with flash := { up.flash with class3 := [.telemetry] } }, (by decide +kernel)⟩⟩

theorem witness_StartUpRunsThroughItsPhases : (∃ (s : State), (s.recd.staged = [] ∨ s.powered = false)) ∧ (∃ (s : State),
  s.cfg.img ≠ some ImgCmd.erase ∧ (∀ (o n : ℕ), s.cfg.img ≠ some (ImgCmd.program o n))) ∧ (∃ (s : State) (o : Nat) (n :
  Nat), (s.cfg.img = some ImgCmd.erase ∨ s.cfg.img = some (ImgCmd.program o n)) ∧ s.get F.CFG_FTG_STATE_BOOTED = 0) ∧ (∃ (s
  : State) (o : Nat) (n : Nat), (s.cfg.img = some ImgCmd.erase ∨ s.cfg.img = some (ImgCmd.program o n)) ∧ s.get
  F.CFG_FTG_STATE_BOOTED ≠ 0) ∧ (∃ (spi : Bool) (a : BitVec 6) (s : State), s.pwr.booting = true ∧ s.phaseOf = 0 ∧ (spi =
  true ∨ a.toNat ≠ 63)) ∧ (∃ (spi : Bool) (a : BitVec 6) (s : State), s.pwr.booting = true ∧ s.phaseOf = 0 ∧ spi = false ∧
  a.toNat = 63) ∧ (∃ (spi : Bool) (a : BitVec 6) (s : State), s.pwr.booting = true ∧ s.phaseOf = 0 ∧ s.pwr.held = true) ∧ (∃
  (spi : Bool) (a : BitVec 6) (s : State), s.pwr.booting = true ∧ s.phaseOf = 0 ∧ s.pwr.held = false ∧ s.flag
  F.CLK_STAT_MRC_OK = false) :=
⟨⟨having ({ State.reset with pwr := { State.reset.pwr with booting := true } }) [(F.PWR_STAT_PHASE, 3)],
    (by decide +kernel)⟩, ⟨up, ⟨(by decide +kernel), (fun o n h => nomatch (show (none : Option ImgCmd) = some (.program o
    n) from h))⟩⟩,
    ⟨{ (having (({ State.reset with pwr := { State.reset.pwr with booting := true } })) [(F.CFG_FTG_STATE_BOOTED, 0)]) with cfg := { (having (({ State.reset with pwr := { State.reset.pwr with booting := true } })) [(F.CFG_FTG_STATE_BOOTED, 0)]).cfg with img := some ImgCmd.erase } },
    0, 0, (by decide +kernel)⟩,
    ⟨{ (having (({ State.reset with pwr := { State.reset.pwr with booting := true } })) [(F.CFG_FTG_STATE_BOOTED, 1)]) with cfg := { (having (({ State.reset with pwr := { State.reset.pwr with booting := true } })) [(F.CFG_FTG_STATE_BOOTED, 1)]).cfg with img := some ImgCmd.erase } },
    0, 0, (by decide +kernel)⟩, ⟨false, 5, ({ State.reset with pwr := { State.reset.pwr with booting := true } }),
    (by decide +kernel)⟩, ⟨(false), 63, ({ State.reset with pwr := { State.reset.pwr with booting := true } }),
    (by decide +kernel)⟩, ⟨true, 63,
    { ({ State.reset with pwr := { State.reset.pwr with booting := true } }) with pwr := { ({ State.reset with pwr := { State.reset.pwr with booting := true } }).pwr with held := true } },
    (by decide +kernel)⟩, ⟨false, 5, ({ State.reset with pwr := { State.reset.pwr with booting := true } }),
    (by decide +kernel)⟩⟩

theorem witness_StartUpRunsThroughItsPhases_2 : (∃ (l : List Block) (b : Bool) (kat : Bool) (pref : StoreSlot) (s : State),
  s.phaseOf = 1 ∧ s.pwr.held = false ∧ s.clocks.step ≠ 8 ∧ (s.flag F.CLK_STAT_FBARM = true ∨ s.clocks.step = 6) ∧ Block.sec
  ∈ l) ∧ (∃ (l : List Block) (b : Bool) (kat : Bool) (pref : StoreSlot) (s : State), s.phaseOf = 1 ∧ s.pwr.held = false ∧
  s.clocks.step ≠ 8 ∧ (s.flag F.CLK_STAT_FBARM = true ∨ s.clocks.step = 6) ∧ kat = false) ∧ (∃ (bad : StartFinds) (pick :
  Nat → RecordStore) (s : State), s.phaseOf = 2 ∧ s.pwr.held = false ∧ (pick = fun k => if bad.items.getLsbD k = false then
  s.flash.store else if bad.olders.getLsbD k = false then s.flash.older else default) ∧ s.sec.running = false) ∧ (∃ (bad :
  StartFinds) (pick : Nat → RecordStore) (s : State), s.phaseOf = 2 ∧ s.pwr.held = false ∧ (pick = fun k => if
  bad.items.getLsbD k = false then s.flash.store else if bad.olders.getLsbD k = false then s.flash.older else default) ∧
  s.sec.running = true ∧ s.cfg.copyA = [] ∧ s.cfg.copyB = [] ∧ s.failed = [] ∧ s.pwr.counted = false) ∧ (∃ (bad :
  StartFinds) (pick : Nat → RecordStore) (s : State), s.phaseOf = 2 ∧ s.pwr.held = false ∧ (pick = fun k => if
  bad.items.getLsbD k = false then s.flash.store else if bad.olders.getLsbD k = false then s.flash.older else default) ∧
  s.sec.running = true ∧ s.cfg.copyA = [] ∧ s.cfg.copyB = [] ∧ s.failed = [] ∧ s.pwr.counted = true) ∧ (∃ (spi : Bool) (kat
  : Bool) (pref : StoreSlot) (a : BitVec 6) (l : List Block) (bad : StartFinds) (s : State), (s.pwr.booting = false ∨
  s.phaseOf ≠ 0)) ∧ (∃ (spi : Bool) (kat : Bool) (pref : StoreSlot) (a : BitVec 6) (l : List Block) (bad : StartFinds) (s :
  State), s.phaseOf ≠ 1) ∧ (∃ (spi : Bool) (kat : Bool) (pref : StoreSlot) (a : BitVec 6) (l : List Block) (bad :
  StartFinds) (s : State), s.phaseOf ≠ 2) :=
⟨⟨[.sec], false, false, .newest, (having up [(F.PWR_STAT_PHASE, 1), (F.CLK_STAT_FBARM, 1)]), (by decide +kernel)⟩, ⟨[.mem,
    .mem], false, (false), .newest,
    { (having (({ State.reset with pwr := { State.reset.pwr with booting := true } })) [(F.PWR_STAT_PHASE, 1), (F.CLK_STAT_FBARM, 1)]) with pwr := { (having (({ State.reset with pwr := { State.reset.pwr with booting := true } })) [(F.PWR_STAT_PHASE, 1), (F.CLK_STAT_FBARM, 1)]).pwr with held := false } },
    (by decide +kernel)⟩, ⟨⟨3, 0, false, [], []⟩, _, (having up [(F.PWR_STAT_PHASE, 2)]), ⟨(by decide +kernel),
    (by decide +kernel), (rfl), (by decide +kernel)⟩⟩, ⟨⟨3, 0, false, [], []⟩, _,
    { (having up [(F.PWR_STAT_PHASE, 2)]) with sec := { up.sec with running := true } }, ⟨(by decide +kernel),
    (by decide +kernel), (rfl), (by decide +kernel), (by decide +kernel), (by decide +kernel), (by decide +kernel),
    (by decide +kernel)⟩⟩, ⟨⟨3, 0, false, [], []⟩, _,
    { (having up [(F.PWR_STAT_PHASE, 2)]) with sec := { up.sec with running := true }, pwr := { up.pwr with counted := true } },
    ⟨(by decide +kernel), (by decide +kernel), (rfl), (by decide +kernel), (by decide +kernel), (by decide +kernel),
    (by decide +kernel), (by decide +kernel)⟩⟩, ⟨false, false, .newest, 5, [.mem, .mem], ⟨3, 0, false, [], []⟩,
    { (({ State.reset with pwr := { State.reset.pwr with booting := true } })) with pwr := { (({ State.reset with pwr := { State.reset.pwr with booting := true } })).pwr with booting := false } },
    (by decide +kernel)⟩, ⟨false, false, .newest, 5, [.mem, .mem], ⟨3, 0, false, [], []⟩, having
    (({ State.reset with pwr := { State.reset.pwr with booting := true } })) [(F.PWR_STAT_PHASE, 2)], (by decide +kernel)⟩,
    ⟨false, false, .newest, 5, [.mem, .mem], ⟨3, 0, false, [], []⟩, having
    (({ State.reset with pwr := { State.reset.pwr with booting := true } })) [(F.PWR_STAT_PHASE, 3)], (by decide +kernel)⟩⟩

theorem witness_StartUpRunsThroughItsPhases_3 : (∃ (spi : Bool) (kat : Bool) (pref : StoreSlot) (a : BitVec 6) (l : List
  Block) (bad : StartFinds) (s : State), s.phaseOf ≠ 3) ∧ (∃ (spi : Bool) (kat : Bool) (pref : StoreSlot) (a : BitVec 6) (l
  : List Block) (bad : StartFinds) (s : State), s.phaseOf ≠ 4) ∧ (∃ (s : State), s.phaseOf = 3 ∧ s.pwr.held = false ∧ s.flag
  F.CFG_COURSE_STAT_BUSY = false) ∧ (∃ (s : State), s.phaseOf = 4 ∧ s.pwr.held = false ∧ s.flag F.PWR_STAT_SSAFE = true) ∧
  (∃ (s : State) (n : Nat), s.phaseOf = 4 ∧ s.pwr.held = false ∧ s.flag F.PWR_STAT_SSAFE = false ∧ n < 3 ∧ (s.canCtl.get
  n).inFrame = false ∧ s.runs Block.can = true ∧ s.flag F.PWR_STAT_VIO_OK = true ∧ s.safe = false ∧ (s.canCtl.get n).held =
  false) ∧ (∃ (s : State), s.pwr.held = true ∧ s.phaseOf ≠ 1) ∧ (∃ (s : State), s.pwr.held = true ∧ s.phaseOf = 1 ∧ s.flag
  F.CLK_STAT_MRC_OK = false) ∧ (∃ (s : State) (i : Instr), s.pwr.held = true ∧ (i = Instr.pu3End ∨ i = Instr.pu4End ∨ i =
  Instr.resetNAssert)) :=
⟨⟨false, false, .newest, 5, [.mem, .mem], ⟨3, 0, false, [], []⟩, having
    (({ State.reset with pwr := { State.reset.pwr with booting := true } })) [(F.PWR_STAT_PHASE, 4)], (by decide +kernel)⟩,
    ⟨false, false, .newest, 5, [.mem, .mem], ⟨3, 0, false, [], []⟩, having
    (({ State.reset with pwr := { State.reset.pwr with booting := true } })) [(F.PWR_STAT_PHASE, 5)], (by decide +kernel)⟩,
    ⟨having ({ State.reset with pwr := { State.reset.pwr with booting := true } }) [(F.PWR_STAT_PHASE, 3)],
    (by decide +kernel)⟩, ⟨having ({ State.reset with pwr := { State.reset.pwr with booting := true } }) [(F.PWR_STAT_PHASE,
    4), (F.PWR_STAT_SSAFE, 1)], (by decide +kernel)⟩,
    ⟨{ st70 with canCtl := st70.canCtl.set 0 { st70.canCtl.get 0 with held := false } }, 0, (by decide +kernel)⟩,
    ⟨{ ({ State.reset with pwr := { State.reset.pwr with booting := true } }) with pwr := { ({ State.reset with pwr := { State.reset.pwr with booting := true } }).pwr with held := true } },
    (by decide +kernel)⟩,
    ⟨{ (having ({ State.reset with pwr := { State.reset.pwr with booting := true } }) [(F.PWR_STAT_PHASE, 1)]) with pwr := { ({ State.reset with pwr := { State.reset.pwr with booting := true } }).pwr with held := true } },
    (by decide +kernel)⟩,
    ⟨{ (having ({ State.reset with pwr := { State.reset.pwr with booting := true } }) [(F.PWR_STAT_PHASE, 3)]) with pwr := { ({ State.reset with pwr := { State.reset.pwr with booting := true } }).pwr with held := true } },
    .pu3End, (by decide +kernel)⟩⟩

theorem witness_DeviceResetKeepsWhatItMust : (∃ (s : State), s.pwr.held = true) ∧ (∃ (s : State), s.pwr.held = false ∧
  s.phaseOf = 0) ∧ (∃ (s : State), s.pwr.softAt = none) ∧ (∃ (s : State), (s.phaseOf < 2 ∨ s.phaseOf = 2 ∧ s.sec.running =
  false)) ∧ (∃ (s : State), (s.flag F.PWR_STAT_RAILS_OK = false ∨ s.flag F.PWR_STAT_VBAT_OK = false ∨ s.pwr.held = true)) :=
⟨⟨{ (st20) with pwr := { (st20).pwr with held := true } }, (by decide +kernel)⟩, ⟨State.reset, (by decide +kernel)⟩, ⟨st20,
    (by decide +kernel)⟩, ⟨State.reset, (by decide +kernel)⟩, ⟨State.reset, (by decide +kernel)⟩⟩

theorem witness_DeviceResetKeepsWhatItMust_2 : (∃ (i : Instr) (c : Nat) (s : State) (n : Nat), (i = Instr.resetNAssert ∧ c =
  2 ∧ s.pwr.held = false ∧ s.phaseOf ≠ 0 ∨ i = Instr.deviceReset ∧ c = 4 ∧ s.pwr.softAt.isSome = true ∨ i =
  Instr.watchdogExpiry ∧ c = 3 ∧ (3 ≤ s.phaseOf ∨ s.phaseOf = 2 ∧ s.sec.running = true) ∨ i = Instr.railFault ∧ c = 5 ∧
  s.flag F.PWR_STAT_RAILS_OK = true ∧ s.flag F.PWR_STAT_VBAT_OK = true ∧ s.pwr.held = false) ∧ n < 96) ∧ (∃ (i : Instr) (c :
  Nat) (s : State) (k : Nat), (i = Instr.resetNAssert ∧ c = 2 ∧ s.pwr.held = false ∧ s.phaseOf ≠ 0 ∨ i = Instr.deviceReset ∧
  c = 4 ∧ s.pwr.softAt.isSome = true ∨ i = Instr.watchdogExpiry ∧ c = 3 ∧ (3 ≤ s.phaseOf ∨ s.phaseOf = 2 ∧ s.sec.running =
  true) ∨ i = Instr.railFault ∧ c = 5 ∧ s.flag F.PWR_STAT_RAILS_OK = true ∧ s.flag F.PWR_STAT_VBAT_OK = true ∧ s.pwr.held =
  false) ∧ k < 24) ∧ (∃ (i : Instr) (c : Nat) (s : State) (d : Nat), (i = Instr.resetNAssert ∧ c = 2 ∧ s.pwr.held = false ∧
  s.phaseOf ≠ 0 ∨ i = Instr.deviceReset ∧ c = 4 ∧ s.pwr.softAt.isSome = true ∨ i = Instr.watchdogExpiry ∧ c = 3 ∧ (3 ≤
  s.phaseOf ∨ s.phaseOf = 2 ∧ s.sec.running = true) ∨ i = Instr.railFault ∧ c = 5 ∧ s.flag F.PWR_STAT_RAILS_OK = true ∧
  s.flag F.PWR_STAT_VBAT_OK = true ∧ s.pwr.held = false) ∧ d < 2) ∧ (∃ (i : Instr) (c : Nat) (s : State) (a : Nat), (i =
  Instr.resetNAssert ∧ c = 2 ∧ s.pwr.held = false ∧ s.phaseOf ≠ 0 ∨ i = Instr.deviceReset ∧ c = 4 ∧ s.pwr.softAt.isSome =
  true ∨ i = Instr.watchdogExpiry ∧ c = 3 ∧ (3 ≤ s.phaseOf ∨ s.phaseOf = 2 ∧ s.sec.running = true) ∨ i = Instr.railFault ∧ c
  = 5 ∧ s.flag F.PWR_STAT_RAILS_OK = true ∧ s.flag F.PWR_STAT_VBAT_OK = true ∧ s.pwr.held = false) ∧ a ∉ [R.PWR_HOURS,
  R.CLK_STAT, R.HSW_LH_STAT, R.PWR_STAT, R.HSW_HOLD, R.SYS_LINK_MODE, R.PWR_RST_CAUSE, R.CLK_AVS_STAT] ∧ (∀ (k : Nat), k <
  24 → a ≠ R.HSW_CH_STAT k)) :=
⟨⟨.resetNAssert, 2, st20, 2, (by decide +kernel)⟩, ⟨.resetNAssert, 2, st20, 2, (by decide +kernel)⟩, ⟨.resetNAssert, 2,
    st20, 0, (by decide +kernel)⟩, ⟨.resetNAssert, 2, st20, 2, (by decide +kernel)⟩⟩

theorem witness_TriggersFireAndFormRecords : (∃ (s : State), s.atMs = false) ∧ (∃ (s : State), s.atMs = true ∧ (s.runs
  Block.recorder = false ∨ s.phaseOf < 4)) ∧ (∃ (n : Nat) (s : State) (u : State) (x : Word), n < 16 ∧ u =
  { s with occ := [] } ∧ s.atMs = true ∧ s.runs Block.recorder = true ∧ 4 ≤ s.phaseOf ∧ s.get (F.REC_TRG_CFG_KIND n) = 2 ∧
  s.flag (F.REC_TRG_CFG_EN n) = true ∧ (∀ (m : Nat), m < 16 → m ≠ n → s.flag (F.REC_TRG_CFG_EN m) = false) ∧ x = u.recRead
  (s.get (F.REC_TRG_ADDR n)) &&& s.word (R.REC_TRG_MASK n) ∧ (compareOp (s.get (F.REC_TRG_CFG_OP n)) x (s.word
  (R.REC_TRG_VAL n)) && !(s.recd.trig.get n).was) = false) ∧ (∃ (n : Nat) (s : State) (u : State) (x : Word), n < 16 ∧ u =
  { s with occ := [] } ∧ s.atMs = true ∧ s.runs Block.recorder = true ∧ 4 ≤ s.phaseOf ∧ s.get (F.REC_TRG_CFG_KIND n) = 2 ∧
  s.flag (F.REC_TRG_CFG_EN n) = true ∧ (∀ (m : Nat), m < 16 → m ≠ n → s.flag (F.REC_TRG_CFG_EN m) = false) ∧ x = u.recRead
  (s.get (F.REC_TRG_ADDR n)) &&& s.word (R.REC_TRG_MASK n) ∧ compareOp (s.get (F.REC_TRG_CFG_OP n)) x (s.word (R.REC_TRG_VAL
  n)) = true ∧ (s.recd.trig.get n).was = false ∧ (s.recd.trig.get n).fired = none ∧ s.logDead = false ∧ s.recd.staged.length
  < 341) ∧ (∃ (n : Nat) (e : Nat) (g : Nat) (s : State) (u : State) (i : Nat), n < 16 ∧ u = { s with occ := [] } ∧ s.atMs =
  true ∧ s.runs Block.recorder = true ∧ 4 ≤ s.phaseOf ∧ s.get (F.REC_TRG_CFG_KIND n) = 1 ∧ s.flag (F.REC_TRG_CFG_EN n) =
  true ∧ s.get (F.REC_TRG_CFG_EVNUM n) = e ∧ g < 2 ^ 64 ∧ (∀ (m : Nat), m < 16 → m ≠ n → s.flag (F.REC_TRG_CFG_EN m) =
  false) ∧ s.occ = [(e, g)] ∧ (s.recd.trig.get n).fired = some i ∧ s.passed i (s.get (F.REC_TRG_HOLD_HOLDOFF n) * msec) =
  false) ∧ (∃ (n : Nat) (e : Nat) (g : Nat) (s : State) (u : State), n < 16 ∧ u = { s with occ := [] } ∧ s.atMs = true ∧
  s.runs Block.recorder = true ∧ 4 ≤ s.phaseOf ∧ s.get (F.REC_TRG_CFG_KIND n) = 1 ∧ s.flag (F.REC_TRG_CFG_EN n) = true ∧
  s.get (F.REC_TRG_CFG_EVNUM n) = e ∧ g < 2 ^ 64 ∧ (∀ (m : Nat), m < 16 → m ≠ n → s.flag (F.REC_TRG_CFG_EN m) = false) ∧
  s.occ = [(e, g)] ∧ (∀ (i : ℕ), (s.recd.trig.get n).fired = some i → s.passed i (s.get (F.REC_TRG_HOLD_HOLDOFF n) * msec) =
  true) ∧ s.logDead = false ∧ s.recd.staged.length < 341) ∧ (∃ (n : Nat) (e : Nat) (g : Nat) (s : State) (u : State), n < 16
  ∧ u = { s with occ := [] } ∧ s.atMs = true ∧ s.runs Block.recorder = true ∧ 4 ≤ s.phaseOf ∧ s.get (F.REC_TRG_CFG_KIND n) =
  1 ∧ s.flag (F.REC_TRG_CFG_EN n) = true ∧ s.get (F.REC_TRG_CFG_EVNUM n) = e ∧ g < 2 ^ 64 ∧ (∀ (m : Nat), m < 16 → m ≠ n →
  s.flag (F.REC_TRG_CFG_EN m) = false) ∧ s.occ = [(e, g)] ∧ (∀ (i : ℕ), (s.recd.trig.get n).fired = some i → s.passed i
  (s.get (F.REC_TRG_HOLD_HOLDOFF n) * msec) = true) ∧ s.logDead = false ∧ 341 ≤ s.recd.staged.length) ∧ (∃ (n : Nat) (e :
  Nat) (g : Nat) (s : State) (u : State), n < 16 ∧ u = { s with occ := [] } ∧ s.atMs = true ∧ s.runs Block.recorder = true ∧
  4 ≤ s.phaseOf ∧ s.get (F.REC_TRG_CFG_KIND n) = 1 ∧ s.flag (F.REC_TRG_CFG_EN n) = true ∧ s.get (F.REC_TRG_CFG_EVNUM n) = e
  ∧ g < 2 ^ 64 ∧ (∀ (m : Nat), m < 16 → m ≠ n → s.flag (F.REC_TRG_CFG_EN m) = false) ∧ s.occ = [(e, g)] ∧ (∀ (i : ℕ),
  (s.recd.trig.get n).fired = some i → s.passed i (s.get (F.REC_TRG_HOLD_HOLDOFF n) * msec) = true) ∧ s.logDead = true) :=
⟨⟨{ up with tag := 1600000001 }, (by decide +kernel)⟩, ⟨{ (up.put (H.enable .recorder) 0) with occ := [(9, 9)] },
    (by decide +kernel)⟩, ⟨3, (having up [(F.REC_TRG_CFG_KIND 3, 2), (F.REC_TRG_CFG_EN 3, 1), (F.REC_TRG_ADDR 3,
    R.SYS_LINK_FWD), (⟨R.REC_TRG_MASK 3, 0, 32⟩, 0xFFFF), (F.REC_TRG_CFG_NWORDS 3, 2), (F.REC_TRG_CFG_OP 3, 1)]).put
    (F.REC_TRG_CFG_OP 3) 0, ({ st32 with occ := [] }), (({ st32 with occ := [] }).recRead (st32.get (F.REC_TRG_ADDR 3)) &&&
    st32.word (R.REC_TRG_MASK 3)), (by decide +kernel)⟩, ⟨3, (having up [(F.REC_TRG_CFG_KIND 3, 2), (F.REC_TRG_CFG_EN 3, 1),
    (F.REC_TRG_ADDR 3, R.SYS_LINK_FWD), (⟨R.REC_TRG_MASK 3, 0, 32⟩, 0xFFFF), (F.REC_TRG_CFG_NWORDS 3, 2), (F.REC_TRG_CFG_OP
    3, 1)]), ({ st27 with occ := [] }), (({ st27 with occ := [] }).recRead (st27.get (F.REC_TRG_ADDR 3)) &&& st27.word
    (R.REC_TRG_MASK 3)), (by decide +kernel)⟩, ⟨3, 99, 1599999000,
    { st18 with recd := { up.recd with trig := [(3, ⟨some 1599990000, false, 4⟩)] } },
    ({ ({ st18 with recd := { up.recd with trig := [(3, ⟨some 1599990000, false, 4⟩)] } }) with occ := [] }), 1599990000,
    (by decide +kernel)⟩, ⟨3, 99, 1599999000, st18, ({ (st18) with occ := [] }), (by decide +kernel)⟩, ⟨3, 99, 1599999000,
    { st18 with recd := { up.recd with staged := List.replicate 341 ⟨[], []⟩ } },
    ({ ({ st18 with recd := { up.recd with staged := List.replicate 341 ⟨[], []⟩ } }) with occ := [] }),
    (by decide +kernel)⟩, ⟨3, 99, 1599999000, { st18 with recd := { up.recd with failed := true } },
    ({ ({ st18 with recd := { up.recd with failed := true } }) with occ := [] }), (by decide +kernel)⟩⟩

theorem witness_TheLogIsProgrammedErasedFailsAndDrains : (∃ (erase : Bool) (ok : Bool) (a : BitVec 24) (s : State),
  s.recd.drain = none) ∧ (∃ (erase : Bool) (ok : Bool) (a : BitVec 24) (s : State), s.present Block.recorder = false) ∧ (∃
  (s : State), (s.flash.class4 = [] ∨ s.enabled Block.mem = false ∨ s.flash.waited < 15) ∧ s.flash.urgent = true) ∧ (∃ (s :
  State) (r : Staged), (s.flash.class4 = [] ∨ s.enabled Block.mem = false ∨ s.flash.waited < 15) ∧ s.flash.urgent = false ∧
  s.logReady = true ∧ s.recd.staged = [r] ∧ s.recd.log.length + 1 < logSize) ∧ (∃ (s : State) (r : Staged), (s.flash.class4
  = [] ∨ s.enabled Block.mem = false ∨ s.flash.waited < 15) ∧ s.flash.urgent = false ∧ s.logReady = true ∧ s.recd.staged =
  [r] ∧ s.recd.log.length + 1 = logSize ∧ s.kind Block.recorder = 1) ∧ (∃ (k : BitVec 8) (n : BitVec 16) (s : State) (d :
  BitVec 8), s.runs Block.mem = true ∧ n ≠ 0 ∧ s.flash.class4 = [] ∧ s.flash.class3 = [] ∧ s.flash.urgent = false ∧
  s.recd.staged = [] ∧ s.flash.waited < 15 ∧ n.toNat = 1) ∧ (∃ (k : BitVec 8) (n : BitVec 16) (s : State) (d : BitVec 8),
  s.runs Block.mem = true ∧ n ≠ 0 ∧ s.flash.class4 = [] ∧ s.flash.class3 = [] ∧ s.flash.urgent = false ∧ s.recd.staged = []
  ∧ s.flash.waited < 15 ∧ 1 < n.toNat) ∧ (∃ (k : BitVec 8) (d : BitVec 8) (n : BitVec 16) (s : State), s.runs Block.mem =
  false) :=
⟨⟨true, true, 5, { up with recd := { up.recd with failed := true } }, (by decide +kernel)⟩, ⟨true, true, 5,
    { ({ up with flash := { up.flash with urgent := true } }) with failed := [.recorder] }, (by decide +kernel)⟩,
    ⟨{ up with flash := { up.flash with urgent := true } }, (by decide +kernel)⟩,
    ⟨{ ({ st17 with flash := { st17.flash with urgent := false } }) with recd := { ({ st17 with flash := { st17.flash with urgent := false } }).recd with staged := [(⟨[1], [2]⟩)] } },
    ⟨[1], [2]⟩, (by decide +kernel)⟩,
    ⟨{ up with recd := { up.recd with staged := [⟨[1], [2]⟩], log := List.replicate 87295 [] } }, ⟨[1], [2]⟩,
    (by decide +kernel)⟩, ⟨3, 1, { st69 with recd := { st69.recd with staged := [] } }, 3, (by decide +kernel)⟩, ⟨3, 9,
    { st69 with recd := { st69.recd with staged := [] } }, 3, (by decide +kernel)⟩, ⟨3, 3, 1, having
    ({ up with flash := { up.flash with urgent := true } }) [(H.enable .mem, 0)], (by decide +kernel)⟩⟩

theorem witness_TheLogIsProgrammedErasedFailsAndDrains_2 : (∃ (k : BitVec 8) (d : BitVec 8) (n : BitVec 16) (s : State),
  s.storeWaits = false) ∧ (∃ (k : BitVec 8) (d : BitVec 8) (n : BitVec 16) (s : State), s.storeWaits = true ∧ s.flash.urgent
  = false ∧ s.recd.staged = [] ∧ (s.flash.class4 = [] ∨ s.enabled Block.mem = false ∨ s.flash.waited < 15) ∧ 1 < n.toNat) ∧
  (∃ (s : State), s.enabled Block.mem = false ∧ s.flash.urgent = false ∧ s.recd.staged = [] ∧ s.flash.class3 = []) ∧ (∃
  (auth : Bool) (s : State), s.admits auth R.REC_CMD (BitVec.allOnes 32) 1#32) ∧ (∃ (s : State), s.recd.erasing = none) ∧ (∃
  (s : State) (k : Nat), s.recd.erasing = some k ∧ s.recd.failed = false ∧ s.recd.log.length < logSize) ∧ (∃ (erase : Bool)
  (ok : Bool) (a : BitVec 24) (s : State), s.recd.failed = true) ∧ (∃ (erase : Bool) (ok : Bool) (a : BitVec 24) (s :
  State), s.recd.failed = false ∧ s.present Block.recorder = true ∧ s.recd.cst.length < 32 ∧ ok = false) :=
⟨⟨3, 3, 1, { up with recd := { up.recd with staged := [(⟨List.replicate 56 1, [1, 2, 3, 4]⟩)] } }, (by decide +kernel)⟩, ⟨3,
    3, 9,
    { ({ st25 with recd := { st25.recd with staged := [] } }) with flash := { ({ st25 with recd := { st25.recd with staged := [] } }).flash with class4 := [] } },
    (by decide +kernel)⟩,
    ⟨{ ({ st33 with recd := { st33.recd with staged := [] } }) with flash := { ({ st33 with recd := { st33.recd with staged := [] } }).flash with class3 := [] } },
    (by decide +kernel)⟩, ⟨true, { up with recd := { up.recd with log := [[1]], les := 4, failed := true } },
    (by decide +kernel)⟩, ⟨{ up with flash := { up.flash with urgent := true } }, (by decide +kernel)⟩,
    ⟨{ up with recd := { up.recd with erasing := some 3 } }, 3, (by decide +kernel)⟩, ⟨true, true, 5,
    { up with recd := { up.recd with failed := true } }, (by decide +kernel)⟩, ⟨true, (false), 5,
    { up with recd := { up.recd with staged := [(⟨List.replicate 56 1, [1, 2, 3, 4]⟩)] } }, (by decide +kernel)⟩⟩

theorem witness_TheLogIsProgrammedErasedFailsAndDrains_3 : (∃ (auth : Bool) (cst : Bool) (s : State), (s.admits auth
  R.REC_CMD (BitVec.allOnes 32) (if cst = true then 3#32 else 2#32)) ∧ s.enabled Block.recorder = true) ∧ (∃ (auth : Bool)
  (s : State), s.admits auth R.REC_CMD (BitVec.allOnes 32) 4#32 ∧ s.recd.drain = none) ∧ (∃ (auth : Bool) (s : State),
  s.admits auth R.REC_CMD (BitVec.allOnes 32) 4#32 ∧ s.recd.drain.isSome = true) ∧ (∃ (auth : Bool) (s : State), s.admits
  auth R.REC_CMD (BitVec.allOnes 32) 5#32 ∧ s.flash.wearB.get (s.sectorHome 224) + 1 ≠ 80000) ∧ (∃ (d : LogDrain) (b : List
  Byte) (s : State), s.recd.drain = some d ∧ s.drainRecord d = some b ∧ d.last = some (d.next + 1)) ∧ (∃ (w : PlaneBWrite)
  (k : BitVec 8) (s : State), s.kind Block.mem = 1 ∧ s.sectorsLeft = 0) ∧ (∃ (w : PlaneBWrite) (k : BitVec 8) (s : State),
  s.kind Block.mem = 1 ∧ s.sectorsLeft ≠ 0) :=
⟨⟨true, true, { up with recd := { up.recd with cst := [[1]] } }, (by decide +kernel)⟩, ⟨true,
    { up with recd := { up.recd with log := [[1]], les := 4, failed := true } }, (by decide +kernel)⟩, ⟨true,
    { up with recd := { up.recd with drain := some ⟨true, 0, none⟩ } }, (by decide +kernel)⟩, ⟨true,
    { up with recd := { up.recd with log := [[1]], les := 4, failed := true } }, (by decide +kernel)⟩, ⟨(⟨true, 0, some 1⟩ :
    LogDrain),
    (({ (lane up 1 0) with recd := { up.recd with cst := [List.replicate 64 3], drain := some ((⟨true, 0, some 1⟩ : LogDrain)) } }).drainRecord
    ((⟨true, 0, some 1⟩ : LogDrain))).getD [],
    ({ (lane up 1 0) with recd := { up.recd with cst := [List.replicate 64 3], drain := some ((⟨true, 0, some 1⟩ : LogDrain)) } }),
    (by decide +kernel)⟩, ⟨.store, 3, { up with flash := { up.flash with taken := 32, running := true } },
    (by decide +kernel)⟩, ⟨.store, 3, up, (by decide +kernel)⟩⟩

theorem witness_MemoryCareErrorsScrubAndTelemetry : (∃ (a : Word) (e : DramError) (s : State), (BitVec.toNat a < dramBase ∨
  dramEnd ≤ BitVec.toNat a)) ∧ (∃ (a : Word) (e : DramError) (s : State), dramBase ≤ BitVec.toNat a ∧ BitVec.toNat a <
  dramEnd ∧ e.persist = false) ∧ (∃ (a : Word) (e : DramError) (s : State) (k : Nat), 520093696 ≤ BitVec.toNat a ∧
  BitVec.toNat a < dramEnd ∧ e.persist = true ∧ s.kind Block.mem = 1 ∧ ↑e.eng ≠ 6 ∧ ↑e.eng ≠ 7 ∧ (∀ (u : Nat), u < 4 →
  s.plb.get u = none) ∧ s.nextSpare k) ∧ (∃ (a : Word) (e : DramError) (s : State), 520093696 ≤ BitVec.toNat a ∧
  BitVec.toNat a < dramEnd ∧ e.persist = true ∧ s.kind Block.mem = 1 ∧ ↑e.eng ≠ 6 ∧ ↑e.eng ≠ 7 ∧ (∀ (u : Nat), u < 4 →
  s.plb.get u = none) ∧ (∀ (k : ℕ), ¬s.nextSpare k)) ∧ (∃ (a : Word) (e : DramError) (s : State) (p : Nat) (j : Nat) (k :
  Nat), BitVec.toNat a / 4096 + j = 122879 ∧ j < 1024 ∧ (List.find? (fun x => x.2 == j) s.memCare.remap = some (p, j)) ∧
  126976 ≤ p ∧ p < 131072 ∧ s.nextSpare k ∧ e.persist = true ∧ s.kind Block.mem = 1 ∧ ↑e.eng ≠ 6 ∧ ↑e.eng ≠ 7 ∧ (∀ (u :
  Nat), u < 4 → s.plb.get u = none)) ∧ (∃ (s : State) (e : Option DramError), s.runs Block.mem = false) :=
⟨⟨5#32, ⟨3, true, 2⟩, up, (by decide +kernel)⟩, ⟨0x1F000010#32, ⟨2, false, 0⟩, up, (by decide +kernel)⟩, ⟨0x1F000010#32, ⟨3,
    true, 2⟩, up, 0, (by decide +kernel)⟩, ⟨0x1F000000, ⟨3, true, 2⟩,
    { up with memCare := { up.memCare with taken := 1024 } }, ⟨(by decide +kernel), (by decide +kernel),
    (by decide +kernel), (by decide +kernel), (by decide +kernel), (by decide +kernel), (by decide +kernel), (fun k h =>
    Nat.lt_irrefl k (Nat.lt_of_lt_of_le h.1 h.2.1))⟩⟩, ⟨0x1DFFC000, ⟨3, true, 2⟩,
    { up with memCare := { up.memCare with taken := 4, remap := [(0x1F005, 3)] } }, 0x1F005, 3, 4, (by decide +kernel)⟩,
    ⟨up.put (H.enable .mem) 0, none, (by decide +kernel)⟩⟩

theorem witness_MemoryCareErrorsScrubAndTelemetry_2 : (∃ (s : State) (e : DramError), s.runs Block.mem = true ∧ s.get
  F.MEM_SCRUB_POS + 1 < 4194304 ∧ e.persist = false) ∧ (∃ (s : State), s.runs Block.mem = true ∧ s.get F.MEM_SCRUB_POS =
  4194303) ∧ (∃ (l : FabricLoad) (s : State), s.kind Block.sys = 1 ∧ s.kind Block.lane = 1 ∧ l = FabricLoad.other) ∧ (∃ (l :
  FabricLoad) (s : State) (w : Nat), s.kind Block.sys = 1 ∧ s.kind Block.lane = 1 ∧ l = FabricLoad.register w) ∧ (∃ (l :
  FabricLoad) (s : State) (n : Fin 16), s.kind Block.sys = 1 ∧ s.kind Block.lane = 1 ∧ l = FabricLoad.laneEntry n ∧
  s.laneOut n.val = true) ∧ (∃ (l : FabricLoad) (s : State) (n : Fin 16), s.kind Block.sys = 1 ∧ s.kind Block.lane = 1 ∧ l =
  FabricLoad.laneEntry n ∧ s.laneOut n.val = false) :=
⟨⟨up, ⟨2, false, 0⟩, (by decide +kernel)⟩, ⟨up.put F.MEM_SCRUB_POS 4194303, (by decide +kernel)⟩, ⟨(FabricLoad.other), up,
    (by decide +kernel)⟩, ⟨(FabricLoad.register 0x1F005), up, 0x1F005, (by decide +kernel)⟩, ⟨.laneEntry 3, lane up 3 0, 3,
    (by decide +kernel)⟩, ⟨(FabricLoad.laneEntry 3), entry up 3 [1, 0, 0x80], 3, (by decide +kernel)⟩⟩

theorem witness_MemoryCareErrorsScrubAndTelemetry_3 : (∃ (l : FabricLoad) (s : State) (n : Fin 16), s.kind Block.sys = 1 ∧
  s.kind Block.lane = 1 ∧ l = FabricLoad.laneEntry n ∧ s.laneIn n.val = true ∧ s.laneLevel n.val ≠ 0 ∧ s.laneType n.val
  (s.get (F.LANE_TAIL_TAIL n.val)) ≠ 0) ∧ (∃ (l : FabricLoad) (s : State) (p : Fin 128), s.kind Block.sys = 1 ∧ s.kind
  Block.lane = 1 ∧ l = FabricLoad.canCommand p ∧ (s.pt p.val).queue = []) ∧ (∃ (l : FabricLoad) (s : State) (p : Fin 128) (c
  : StrCmd) (rest : List StrCmd), s.kind Block.sys = 1 ∧ s.kind Block.lane = 1 ∧ l = FabricLoad.canCommand p ∧ (s.pt
  p.val).queue = c :: rest ∧ bindKind c.bind = 3 ∧ s.kind Block.str = 1) ∧ (∃ (l : FabricLoad) (s : State) (c : OutCmd)
  (rest : List OutCmd), s.kind Block.sys = 1 ∧ s.kind Block.lane = 1 ∧ l = FabricLoad.solCommand ∧ s.str.solWire = c :: rest
  ∧ c.src = CmdSource.host) ∧ (∃ (l : FabricLoad) (s : State) (c : OutCmd) (rest : List OutCmd), s.kind Block.sys = 1 ∧
  s.kind Block.lane = 1 ∧ l = FabricLoad.hswCommand ∧ s.str.hswWire = c :: rest ∧ c.src = CmdSource.host) ∧ (∃ (s : State),
  s.admitsSet R.MEM_TEL_CMD 1) :=
⟨⟨.laneEntry 3, entry up 3 [1, 0, 0x80], 3, (by decide +kernel)⟩, ⟨(FabricLoad.canCommand 0), up, 0, (by decide +kernel)⟩,
    ⟨.canCommand 0,
    { up with str := { up.str with points := [(0, { (default : StrPt) with queue := [⟨true, 9, 0, 0, 0, 0xFFFF, 0xC0000000, 0, false, (0, 0)⟩] })] } },
    0, ⟨true, 9, 0, 0, 0, 0xFFFF, 0xC0000000, 0, false, (0, 0)⟩, [], (by decide +kernel)⟩, ⟨(FabricLoad.solCommand),
    { up with str := { up.str with solWire := ({ src := .host, out := 3, op := 1, start := 9, duty := 0xFFFF }) :: ([]) } },
    { src := .host, out := 3, op := 1, start := 9, duty := 0xFFFF }, [], (by decide +kernel)⟩, ⟨(FabricLoad.hswCommand),
    { up with str := { up.str with hswWire := ({ src := .host, out := 3, op := 1, start := 9, duty := 0xFFFF }) :: ([]) } },
    { src := .host, out := 3, op := 1, start := 9, duty := 0xFFFF }, [], (by decide +kernel)⟩, ⟨up, (by decide +kernel)⟩⟩

theorem witness_OemKeysAreProvisionedInOrder : (∃ (auth : Bool) (ok : Bool) (s : State), s.sec.cmd = some (6, auth) ∧
  s.sec.cmdWaits = false ∧ s.sec.oem = []) ∧ (∃ (auth : Bool) (ok : Bool) (s : State) (k : BitVec 512), s.sec.cmd = some (6,
  auth) ∧ s.sec.cmdWaits = false ∧ s.sec.oem.getLast? = some k ∧ s.sec.oem.length < 3) ∧ (∃ (auth : Bool) (ok : Bool) (s :
  State) (k : BitVec 512), s.sec.cmd = some (6, auth) ∧ s.sec.cmdWaits = false ∧ s.sec.oem.getLast? = some k ∧
  s.sec.oem.length < 3) ∧ (∃ (auth : Bool) (ok : Bool) (s : State), s.sec.cmd = some (6, auth) ∧ s.sec.cmdWaits = false ∧ 3
  ≤ s.sec.oem.length) :=
⟨⟨true, true, { up with sec := ({ up.sec with cmd := some (6, true) }) }, (by decide +kernel)⟩, ⟨true, true,
    { up with sec := { up.sec with cmd := some (6, true), oem := [5] } }, 5, (by decide +kernel)⟩, ⟨true, false,
    { up with sec := { up.sec with cmd := some (6, true), oem := [5] } }, 5, (by decide +kernel)⟩, ⟨true, true,
    { up with sec := { ({ up.sec with cmd := some (6, true) }) with oem := [5, 6, 7] } }, (by decide +kernel)⟩⟩

theorem witness_KeystoneCommandsSelfTestsAndBoot : (∃ (auth : Bool) (v : Nat) (i : Instr) (s : State), (v, i) ∈ [(1,
  Instr.fwErase auth), (2, Instr.fwProgram auth), (3, Instr.fwVerify auth), (4, Instr.fwPrefer auth), (5, Instr.arbCommit
  auth), (6, Instr.oemProvision auth), (7, Instr.dbgChallenge auth), (8, Instr.dbgUnlock auth), (9, Instr.dbgKill auth)] ∧
  s.admits auth R.SEC_CMD (BitVec.allOnes 32) (BitVec.ofNat 32 v)) ∧ (∃ (auth : Bool) (v : Nat) (i : Instr) (s : State), (v,
  i) ∈ [(1, Instr.fwErase auth), (2, Instr.fwProgram auth), (3, Instr.fwVerify auth), (4, Instr.fwPrefer auth), (5,
  Instr.arbCommit auth), (6, Instr.oemProvision auth), (7, Instr.dbgChallenge auth), (8, Instr.dbgUnlock auth), (9,
  Instr.dbgKill auth)] ∧ s.admits auth R.SEC_CMD (BitVec.allOnes 32) (BitVec.ofNat 32 v)) ∧ (∃ (auth : Bool) (v : Nat) (i :
  Instr) (s : State), (v, i) ∈ [(1, Instr.fwErase auth), (2, Instr.fwProgram auth), (3, Instr.fwVerify auth), (4,
  Instr.fwPrefer auth), (5, Instr.arbCommit auth), (6, Instr.oemProvision auth), (7, Instr.dbgChallenge auth), (8,
  Instr.dbgUnlock auth), (9, Instr.dbgKill auth)] ∧ s.admits auth R.SEC_CMD (BitVec.allOnes 32) (BitVec.ofNat 32 v)) ∧ (∃ (i
  : Instr) (s : State), (i = Instr.arbCommit false ∨ i = Instr.dbgKill false) ∧ 4 ≤ s.phaseOf ∧ s.kind Block.sec = 1) ∧ (∃
  (ok : Bool) (s : State), (s.sec.cmd = none ∨ s.sec.cmdWaits = true)) ∧ (∃ (ok : Bool) (auth : Bool) (v : Nat) (s : State),
  s.sec.cmd = some (v, auth) ∧ s.sec.cmdWaits = false ∧ v ≠ 6 ∧ v = 1 ∧ ok = true) ∧ (∃ (ok : Bool) (auth : Bool) (v : Nat)
  (s : State), s.sec.cmd = some (v, auth) ∧ s.sec.cmdWaits = false ∧ v ≠ 6 ∧ v = 2 ∧ ok = true) ∧ (∃ (ok : Bool) (auth :
  Bool) (v : Nat) (s : State), s.sec.cmd = some (v, auth) ∧ s.sec.cmdWaits = false ∧ v ≠ 6 ∧ v = 3) :=
⟨⟨true, 5, .arbCommit true, up, (by decide +kernel)⟩, ⟨true, 1, .fwErase true, up, (by decide +kernel)⟩, ⟨true, 9, .dbgKill
    true, up, (by decide +kernel)⟩, ⟨.dbgKill false, up, (by decide +kernel)⟩, ⟨true,
    { up with sec := { up.sec with cmd := none } }, (by decide +kernel)⟩, ⟨(true), true, (1),
    { up with sec := { up.sec with cmd := some (1, true), slotA := [1], slotB := [2] } }, (by decide +kernel)⟩, ⟨(true),
    true, (2), { (having up [(F.SEC_FW_OFS, 8), (F.SEC_FW_LEN, 4)]) with sec := { up.sec with cmd := some (2, true) } },
    (by decide +kernel)⟩, ⟨true, true, (3), { up with sec := { up.sec with cmd := some (3, true) } }, (by decide +kernel)⟩⟩

theorem witness_KeystoneCommandsSelfTestsAndBoot_2 : (∃ (ok : Bool) (auth : Bool) (v : Nat) (s : State), s.sec.cmd = some
  (v, auth) ∧ s.sec.cmdWaits = false ∧ v ≠ 6 ∧ v = 4) ∧ (∃ (ok : Bool) (auth : Bool) (v : Nat) (s : State), s.sec.cmd = some
  (v, auth) ∧ s.sec.cmdWaits = false ∧ v ≠ 6 ∧ v = 5 ∧ s.phaseOf = 5) ∧ (∃ (ok : Bool) (auth : Bool) (v : Nat) (s : State),
  s.sec.cmd = some (v, auth) ∧ s.sec.cmdWaits = false ∧ v ≠ 6 ∧ v = 5 ∧ s.phaseOf ≠ 5) ∧ (∃ (ok : Bool) (auth : Bool) (v :
  Nat) (s : State), s.sec.cmd = some (v, auth) ∧ s.sec.cmdWaits = false ∧ v ≠ 6 ∧ v = 7 ∧ s.sec.kill = true) ∧ (∃ (ok :
  Bool) (auth : Bool) (v : Nat) (s : State), s.sec.cmd = some (v, auth) ∧ s.sec.cmdWaits = false ∧ v ≠ 6 ∧ v = 7 ∧
  s.sec.kill = false ∧ s.sec.healthy = false) ∧ (∃ (ok : Bool) (auth : Bool) (v : Nat) (s : State), s.sec.cmd = some (v,
  auth) ∧ s.sec.cmdWaits = false ∧ v ≠ 6 ∧ v = 7 ∧ s.sec.kill = false ∧ s.sec.healthy = true) ∧ (∃ (ok : Bool) (auth : Bool)
  (v : Nat) (s : State), s.sec.cmd = some (v, auth) ∧ s.sec.cmdWaits = false ∧ v ≠ 6 ∧ v = 8 ∧ (s.sec.kill = true ∨
  s.sec.chal = none)) ∧ (∃ (ok : Bool) (auth : Bool) (v : Nat) (s : State) (c : List Byte), s.sec.cmd = some (v, auth) ∧
  s.sec.cmdWaits = false ∧ v ≠ 6 ∧ v = 8 ∧ s.sec.kill = false ∧ s.sec.chal = some c ∧ s.kind Block.sec = 1) :=
⟨⟨true, true, (4),
    { ({ up with sec := { up.sec with cmd := some (4, true) } }) with sec := { ({ up with sec := { up.sec with cmd := some (4, true) } }).sec with cmdWaits := false } },
    (by decide +kernel)⟩, ⟨true, true, (5), { lead with sec := { up.sec with cmd := some (5, true) } },
    (by decide +kernel)⟩, ⟨true, true, (5),
    { ({ (having up [(F.PWR_STAT_PHASE, 0)]) with sec := { (having up [(F.PWR_STAT_PHASE, 0)]).sec with cmd := some (5, true) } }) with sec := { ({ (having up [(F.PWR_STAT_PHASE, 0)]) with sec := { (having up [(F.PWR_STAT_PHASE, 0)]).sec with cmd := some (5, true) } }).sec with cmdWaits := false } },
    (by decide +kernel)⟩, ⟨true, true, (7),
    { ({ ({ up with sec := { up.sec with cmd := some (7, true) } }) with sec := { ({ up with sec := { up.sec with cmd := some (7, true) } }).sec with cmdWaits := false } }) with sec := { ({ ({ up with sec := { up.sec with cmd := some (7, true) } }) with sec := { ({ up with sec := { up.sec with cmd := some (7, true) } }).sec with cmdWaits := false } }).sec with kill := true } },
    (by decide +kernel)⟩, ⟨true, true, (7), { up with sec := { up.sec with cmd := some (7, true) } }, (by decide +kernel)⟩,
    ⟨true, true, (7), { up with sec := { up.sec with cmd := some (7, true), healthy := true } }, (by decide +kernel)⟩,
    ⟨true, true, (8),
    { ({ ({ up with sec := { up.sec with cmd := some (8, true) } }) with sec := { ({ up with sec := { up.sec with cmd := some (8, true) } }).sec with cmdWaits := false } }) with sec := { ({ ({ up with sec := { up.sec with cmd := some (8, true) } }) with sec := { ({ up with sec := { up.sec with cmd := some (8, true) } }).sec with cmdWaits := false } }).sec with kill := true } },
    (by decide +kernel)⟩, ⟨true, true, 8, { up with sec := { up.sec with cmd := some (8, true), chal := some [2] } }, [2],
    (by decide +kernel)⟩⟩

theorem witness_KeystoneCommandsSelfTestsAndBoot_3 : (∃ (ok : Bool) (auth : Bool) (v : Nat) (s : State) (c : List Byte),
  s.sec.cmd = some (v, auth) ∧ s.sec.cmdWaits = false ∧ v ≠ 6 ∧ v = 8 ∧ s.sec.kill = false ∧ s.sec.chal = some c ∧ s.kind
  Block.sec = 1) ∧ (∃ (ok : Bool) (auth : Bool) (v : Nat) (s : State), s.sec.cmd = some (v, auth) ∧ s.sec.cmdWaits = false ∧
  v ≠ 6 ∧ v = 9) ∧ (∃ (s : State), s.kind Block.sec = 1 ∧ s.sec.running = true ∧ s.sec.session.isSome = true) ∧ (∃ (l : List
  Block) (b : Bool) (pref : StoreSlot) (p : Nat) (s : State), s.phaseOf = 1 ∧ s.pwr.held = false ∧ s.clocks.step ≠ 8 ∧
  (s.flag F.CLK_STAT_FBARM = true ∨ s.clocks.step = 6) ∧ (p = s.fwPreferred
  (match s.sec.prefer with | some x => x | none => match pref with | StoreSlot.newest => s.flash.store.prefer | StoreSlot.older => s.flash.older.prefer | StoreSlot.neither => none)))
  ∧ (∃ (l : List Block) (b : Bool) (pref : StoreSlot) (p : Nat) (s : State), s.phaseOf = 1 ∧ s.pwr.held = false ∧
  s.clocks.step ≠ 8 ∧ (s.flag F.CLK_STAT_FBARM = true ∨ s.clocks.step = 6) ∧ (p = s.fwPreferred
  (match s.sec.prefer with | some x => x | none => match pref with | StoreSlot.newest => s.flash.store.prefer | StoreSlot.older => s.flash.older.prefer | StoreSlot.neither => none))
  ∧ fwCheck (s.fwSlot p) s.sec.arbFw ≠ 0) ∧ (∃ (l : List Block) (b : Bool) (pref : StoreSlot) (p : Nat) (s : State),
  s.phaseOf = 1 ∧ s.pwr.held = false ∧ s.clocks.step ≠ 8 ∧ (s.flag F.CLK_STAT_FBARM = true ∨ s.clocks.step = 6) ∧ (p =
  s.fwPreferred
  (match s.sec.prefer with | some x => x | none => match pref with | StoreSlot.newest => s.flash.store.prefer | StoreSlot.older => s.flash.older.prefer | StoreSlot.neither => none))
  ∧ fwCheck (s.fwSlot p) s.sec.arbFw ≠ 0 ∧ fwCheck (s.fwSlot (1 - p)) s.sec.arbFw ≠ 0) :=
⟨⟨true, true, 8, { up with sec := { up.sec with cmd := some (8, true), chal := some [1] } }, [1], (by decide +kernel)⟩,
    ⟨true, true, (9), { up with sec := { up.sec with cmd := some (9, true) } }, (by decide +kernel)⟩,
    ⟨{ up with sec := { up.sec with running := true, session := some default } }, (by decide +kernel)⟩, ⟨[], true, .newest,
    _,
    { (having up [(F.PWR_STAT_PHASE, 1), (F.CLK_STAT_FBARM, 1)]) with sec := { up.sec with slotA := State.reset.sec.slotA, prefer := some (some 0), slotB := [] } },
    ⟨(by decide +kernel), (by decide +kernel), (by decide +kernel), (by decide +kernel), (rfl)⟩⟩, ⟨[], true, .newest, _,
    { (having up [(F.PWR_STAT_PHASE, 1), (F.CLK_STAT_FBARM, 1)]) with sec := { up.sec with slotA := State.reset.sec.slotA, prefer := some (some 1), slotB := [] } },
    ⟨(by decide +kernel), (by decide +kernel), (by decide +kernel), (by decide +kernel), (rfl), (by decide +kernel)⟩⟩, ⟨[],
    true, .newest, _,
    { (having up [(F.PWR_STAT_PHASE, 1), (F.CLK_STAT_FBARM, 1)]) with sec := { up.sec with prefer := some (some 0), slotA := [], slotB := [] } },
    ⟨(by decide +kernel), (by decide +kernel), (by decide +kernel), (by decide +kernel), (rfl), (by decide +kernel),
    (by decide +kernel)⟩⟩⟩

theorem witness_PlumbUnitsRunAndCompare : (∃ (u : Fin 4) (s : State), s.admitsSet (R.PLB_CMD u.val) 1 ∧ s.enabled Block.plb
  = false) ∧ (∃ (u : Fin 4) (s : State), s.admitsSet (R.PLB_CMD u.val) 1 ∧ s.enabled Block.plb = true) ∧ (∃ (u : Fin 4) (s :
  State), s.admitsSet (R.PLB_CMD u.val) 2 ∧ s.plb.get u.val = none) ∧ (∃ (u : Fin 4) (s : State) (r : PlbRun), s.admitsSet
  (R.PLB_CMD u.val) 2 ∧ s.plb.get u.val = some r) ∧ (∃ (u : Fin 4) (s : State) (r : PlbRun) (n : Nat), s.plb.get u.val =
  some r ∧ r.lostAt = some n) ∧ (∃ (u : Fin 4) (s : State) (r : PlbRun) (v : Nat) (x : Nat) (e : Nat), s.plb.get u.val =
  some r ∧ r.lostAt = none ∧ s.kind Block.plb = 1 ∧ s.plbStream r = r.data ∧ v = plbValue r.width (r.pair 1) (r.pair 3)
  (r.pair 5) (nbit (r.word 0) 8) (nbit (r.word 0) 9) r.data ∧ (x = leNat (if nbit (r.word 0) 29 = true then (s.bytes (r.word
  7 + r.word 8) ((r.width + 7) / 8)).reverse else s.bytes (r.word 7 + r.word 8) ((r.width + 7) / 8))) ∧ (e = if r.expSrc = 2
  then x else r.pair 9) ∧ r.expSrc = 0) :=
⟨⟨1, st50.put (H.enable .plb) 0, (by decide +kernel)⟩, ⟨1, st50, (by decide +kernel)⟩, ⟨1, st50.put (H.enable .plb) 0,
    (by decide +kernel)⟩, ⟨1, { st53 with plb := [(1, some { (st53.plbLatch 1) with data := [] })] },
    { (st53.plbLatch 1) with data := [] }, (by decide +kernel)⟩, ⟨1,
    { up with plb := [(1, some { up.plbLatch 1 with lostAt := some 2 })] }, { up.plbLatch 1 with lostAt := some 2 }, 2,
    (by decide +kernel)⟩, ⟨1, { st50 with plb := [(1, some (st50.plbLatch 1))] }, (st50.plbLatch 1), (plbValue
    ((st50.plbLatch 1)).width (((st50.plbLatch 1)).pair 1) (((st50.plbLatch 1)).pair 3) (((st50.plbLatch 1)).pair 5) (nbit
    (((st50.plbLatch 1)).word 0) 8) (nbit (((st50.plbLatch 1)).word 0) 9) ((st50.plbLatch 1)).data), (leNat (if nbit
    (((st50.plbLatch 1)).word 0) 29 = true then (st64.bytes (((st50.plbLatch 1)).word 7 + ((st50.plbLatch 1)).word 8)
    ((((st50.plbLatch 1)).width + 7) / 8)).reverse else st64.bytes (((st50.plbLatch 1)).word 7 + ((st50.plbLatch 1)).word 8)
    ((((st50.plbLatch 1)).width + 7) / 8))), (if ((st50.plbLatch 1)).expSrc = 2 then (leNat (if nbit (((st50.plbLatch
    1)).word 0) 29 = true then (st64.bytes (((st50.plbLatch 1)).word 7 + ((st50.plbLatch 1)).word 8) ((((st50.plbLatch
    1)).width + 7) / 8)).reverse else st64.bytes (((st50.plbLatch 1)).word 7 + ((st50.plbLatch 1)).word 8) ((((st50.plbLatch
    1)).width + 7) / 8))) else ((st50.plbLatch 1)).pair 9), (by decide +kernel)⟩⟩

theorem witness_PlumbUnitsRunAndCompare_2 : (∃ (u : Fin 4) (s : State) (r : PlbRun) (v : Nat) (x : Nat) (e : Nat), s.plb.get
  u.val = some r ∧ r.lostAt = none ∧ s.kind Block.plb = 1 ∧ s.plbStream r = r.data ∧ v = plbValue r.width (r.pair 1) (r.pair
  3) (r.pair 5) (nbit (r.word 0) 8) (nbit (r.word 0) 9) r.data ∧ (x = leNat (if nbit (r.word 0) 29 = true then (s.bytes
  (r.word 7 + r.word 8) ((r.width + 7) / 8)).reverse else s.bytes (r.word 7 + r.word 8) ((r.width + 7) / 8))) ∧ (e = if
  r.expSrc = 2 then x else r.pair 9) ∧ r.expSrc ≠ 0 ∧ r.expSrc = 2) ∧ (∃ (u : Fin 4) (s : State) (r : PlbRun) (v : Nat) (x :
  Nat) (e : Nat), s.plb.get u.val = some r ∧ r.lostAt = none ∧ s.kind Block.plb = 1 ∧ s.plbStream r = r.data ∧ v = plbValue
  r.width (r.pair 1) (r.pair 3) (r.pair 5) (nbit (r.word 0) 8) (nbit (r.word 0) 9) r.data ∧ (x = leNat (if nbit (r.word 0)
  29 = true then (s.bytes (r.word 7 + r.word 8) ((r.width + 7) / 8)).reverse else s.bytes (r.word 7 + r.word 8) ((r.width +
  7) / 8))) ∧ (e = if r.expSrc = 2 then x else r.pair 9) ∧ r.expSrc ≠ 0 ∧ r.expSrc ≠ 2) ∧ (∃ (u : Fin 4) (s : State) (r :
  PlbRun) (v : Nat) (x : Nat) (e : Nat), s.plb.get u.val = some r ∧ r.lostAt = none ∧ s.kind Block.plb = 1 ∧ s.plbStream r =
  r.data ∧ v = plbValue r.width (r.pair 1) (r.pair 3) (r.pair 5) (nbit (r.word 0) 8) (nbit (r.word 0) 9) r.data ∧ (x = leNat
  (if nbit (r.word 0) 29 = true then (s.bytes (r.word 7 + r.word 8) ((r.width + 7) / 8)).reverse else s.bytes (r.word 7 +
  r.word 8) ((r.width + 7) / 8))) ∧ (e = if r.expSrc = 2 then x else r.pair 9) ∧ r.expSrc ≠ 0 ∧ e % 2 ^ r.width = v % 2 ^
  r.width) ∧ (∃ (u : Fin 4) (s : State) (r : PlbRun) (v : Nat) (x : Nat) (e : Nat), s.plb.get u.val = some r ∧ r.lostAt =
  none ∧ s.kind Block.plb = 1 ∧ s.plbStream r = r.data ∧ v = plbValue r.width (r.pair 1) (r.pair 3) (r.pair 5) (nbit (r.word
  0) 8) (nbit (r.word 0) 9) r.data ∧ (x = leNat (if nbit (r.word 0) 29 = true then (s.bytes (r.word 7 + r.word 8) ((r.width
  + 7) / 8)).reverse else s.bytes (r.word 7 + r.word 8) ((r.width + 7) / 8))) ∧ (e = if r.expSrc = 2 then x else r.pair 9) ∧
  r.expSrc ≠ 0 ∧ e % 2 ^ r.width ≠ v % 2 ^ r.width) ∧ (∃ (u : Fin 4) (s : State) (r : PlbRun), s.plb.get u.val = some r ∧
  r.lostAt = none ∧ s.kind Block.plb = 1 ∧ s.plbStream r ≠ r.data ∧ r.expSrc = 1) :=
⟨⟨1, { st54 with plb := [(1, some (st54.plbLatch 1))] }, (st54.plbLatch 1), (plbValue ((st54.plbLatch 1)).width
    (((st54.plbLatch 1)).pair 1) (((st54.plbLatch 1)).pair 3) (((st54.plbLatch 1)).pair 5) (nbit (((st54.plbLatch 1)).word
    0) 8) (nbit (((st54.plbLatch 1)).word 0) 9) ((st54.plbLatch 1)).data), (leNat (if nbit (((st54.plbLatch 1)).word 0) 29 =
    true then (st66.bytes (((st54.plbLatch 1)).word 7 + ((st54.plbLatch 1)).word 8) ((((st54.plbLatch 1)).width + 7) /
    8)).reverse else st66.bytes (((st54.plbLatch 1)).word 7 + ((st54.plbLatch 1)).word 8) ((((st54.plbLatch 1)).width + 7) /
    8))), (if ((st54.plbLatch 1)).expSrc = 2 then (leNat (if nbit (((st54.plbLatch 1)).word 0) 29 = true then (st66.bytes
    (((st54.plbLatch 1)).word 7 + ((st54.plbLatch 1)).word 8) ((((st54.plbLatch 1)).width + 7) / 8)).reverse else st66.bytes
    (((st54.plbLatch 1)).word 7 + ((st54.plbLatch 1)).word 8) ((((st54.plbLatch 1)).width + 7) / 8))) else ((st54.plbLatch
    1)).pair 9), (by decide +kernel)⟩, ⟨1, { st53 with plb := [(1, some (st53.plbLatch 1))] }, (st53.plbLatch 1), (plbValue
    ((st53.plbLatch 1)).width (((st53.plbLatch 1)).pair 1) (((st53.plbLatch 1)).pair 3) (((st53.plbLatch 1)).pair 5) (nbit
    (((st53.plbLatch 1)).word 0) 8) (nbit (((st53.plbLatch 1)).word 0) 9) ((st53.plbLatch 1)).data), (leNat (if nbit
    (((st53.plbLatch 1)).word 0) 29 = true then (st65.bytes (((st53.plbLatch 1)).word 7 + ((st53.plbLatch 1)).word 8)
    ((((st53.plbLatch 1)).width + 7) / 8)).reverse else st65.bytes (((st53.plbLatch 1)).word 7 + ((st53.plbLatch 1)).word 8)
    ((((st53.plbLatch 1)).width + 7) / 8))), (if ((st53.plbLatch 1)).expSrc = 2 then (leNat (if nbit (((st53.plbLatch
    1)).word 0) 29 = true then (st65.bytes (((st53.plbLatch 1)).word 7 + ((st53.plbLatch 1)).word 8) ((((st53.plbLatch
    1)).width + 7) / 8)).reverse else st65.bytes (((st53.plbLatch 1)).word 7 + ((st53.plbLatch 1)).word 8) ((((st53.plbLatch
    1)).width + 7) / 8))) else ((st53.plbLatch 1)).pair 9), (by decide +kernel)⟩, ⟨1,
    { st58 with plb := [(1, some (st58.plbLatch 1))] }, (st58.plbLatch 1), (plbValue ((st58.plbLatch 1)).width
    (((st58.plbLatch 1)).pair 1) (((st58.plbLatch 1)).pair 3) (((st58.plbLatch 1)).pair 5) (nbit (((st58.plbLatch 1)).word
    0) 8) (nbit (((st58.plbLatch 1)).word 0) 9) ((st58.plbLatch 1)).data), (leNat (if nbit (((st58.plbLatch 1)).word 0) 29 =
    true then (st67.bytes (((st58.plbLatch 1)).word 7 + ((st58.plbLatch 1)).word 8) ((((st58.plbLatch 1)).width + 7) /
    8)).reverse else st67.bytes (((st58.plbLatch 1)).word 7 + ((st58.plbLatch 1)).word 8) ((((st58.plbLatch 1)).width + 7) /
    8))), (if ((st58.plbLatch 1)).expSrc = 2 then (leNat (if nbit (((st58.plbLatch 1)).word 0) 29 = true then (st67.bytes
    (((st58.plbLatch 1)).word 7 + ((st58.plbLatch 1)).word 8) ((((st58.plbLatch 1)).width + 7) / 8)).reverse else st67.bytes
    (((st58.plbLatch 1)).word 7 + ((st58.plbLatch 1)).word 8) ((((st58.plbLatch 1)).width + 7) / 8))) else ((st58.plbLatch
    1)).pair 9), (by decide +kernel)⟩, ⟨1, { st53 with plb := [(1, some (st53.plbLatch 1))] }, (st53.plbLatch 1), (plbValue
    ((st53.plbLatch 1)).width (((st53.plbLatch 1)).pair 1) (((st53.plbLatch 1)).pair 3) (((st53.plbLatch 1)).pair 5) (nbit
    (((st53.plbLatch 1)).word 0) 8) (nbit (((st53.plbLatch 1)).word 0) 9) ((st53.plbLatch 1)).data), (leNat (if nbit
    (((st53.plbLatch 1)).word 0) 29 = true then (st65.bytes (((st53.plbLatch 1)).word 7 + ((st53.plbLatch 1)).word 8)
    ((((st53.plbLatch 1)).width + 7) / 8)).reverse else st65.bytes (((st53.plbLatch 1)).word 7 + ((st53.plbLatch 1)).word 8)
    ((((st53.plbLatch 1)).width + 7) / 8))), (if ((st53.plbLatch 1)).expSrc = 2 then (leNat (if nbit (((st53.plbLatch
    1)).word 0) 29 = true then (st65.bytes (((st53.plbLatch 1)).word 7 + ((st53.plbLatch 1)).word 8) ((((st53.plbLatch
    1)).width + 7) / 8)).reverse else st65.bytes (((st53.plbLatch 1)).word 7 + ((st53.plbLatch 1)).word 8) ((((st53.plbLatch
    1)).width + 7) / 8))) else ((st53.plbLatch 1)).pair 9), (by decide +kernel)⟩, ⟨1,
    { st53 with plb := [(1, some { (st53.plbLatch 1) with data := [] })] }, { (st53.plbLatch 1) with data := [] },
    (by decide +kernel)⟩⟩

/-! ## Commands that are not well formed -/

/-- A frame of one byte on CAN, as the peers send it. -/
def canFr : CanFrame := { id := 5, ide := false, fdf := false, brs := false, esi := false, rtr := false, dlc := 1, data := [7] }

theorem test_wf_request :
    [Instr.status .inp (rq 0 0 0x80 0 0 []), .read .inp (rq 1 0 0x80 4 0x10000 []), .write .out (rq 2 0 0x80 4 0x10000 [1, 2, 3, 4]),
     .sessionHello .inp (rq 7 0 0x80 2 0 [1, 9]), .enum .inp (rq 6 0x40 0x80 2 0 [7, 1])].map Instr.wf =
    [true, true, true, true, true] := by decide +kernel
theorem test_wf_refuses_reply : (Instr.status .inp (rq 0 0x80 0x80 0 0 [])).wf = false := by decide +kernel
theorem test_wf_refuses_trailer_without_auth :
    (Instr.status .inp { rq 0 0 0x80 0 0 [] with trailer := [1] }).wf = false := by decide +kernel
theorem test_wf_refuses_body_of_status : (Instr.status .inp (rq 0 0 0x80 0 0 [1])).wf = false := by decide +kernel
theorem test_wf_refuses_short_write : (Instr.write .inp (rq 2 0 0x80 8 0x10000 [1, 2, 3, 4])).wf = false := by decide +kernel
theorem test_wf_refuses_broadcast_read : (Instr.read .inp (rq 1 0x40 0x80 4 0x10000 [])).wf = false := by decide +kernel
theorem test_wf_refuses_unicast_enum : (Instr.enum .inp (rq 6 0 0x80 2 0 [7, 1])).wf = false := by decide +kernel
theorem test_wf_refuses_other_session_type : (Instr.sessionHello .inp (rq 7 0 0x80 2 0 [2, 9])).wf = false := by decide +kernel
theorem test_wf_refuses_empty_transaction : (Instr.spiTransaction [] 0).wf = false := by decide +kernel
theorem test_wf_refuses_unaligned_write : (Instr.registerWrite false 0x10002 0).wf = false := by decide +kernel
theorem test_wf_refuses_high_word_elsewhere : (Instr.eventClear .ctl true 1).wf = false := by decide +kernel
theorem test_wf_refuses_repeated_channel :
    (Instr.lockAssessment [⟨7, 0xF000, 100, 0, 0⟩, ⟨7, 0xF000, 90, 0, 0⟩]).wf = false := by decide +kernel
theorem test_wf_refuses_short_frame_of_inputs : (Instr.ainFrame [1, 2] 0).wf = false := by decide +kernel
theorem test_wf_refuses_access_outside_map : (Instr.mapHostAccess 0x1A000000 false 0 0).wf = false := by decide +kernel
theorem test_wf_can :
    [canFr, { canFr with rtr := true, data := [] }, { canFr with fdf := true, brs := true }].map CanFrame.wf = [true, true, true] := by
  decide +kernel
theorem test_wf_refuses_can :
    [{ canFr with brs := true }, { canFr with fdf := true, rtr := true }, { canFr with id := 2048 }, { canFr with data := [] },
     { canFr with dlc := 9 }].map CanFrame.wf = [false, false, false, false, false] := by decide +kernel
theorem test_wf_refuses_parity_outside_dram : (Instr.dramParityError 0xF000000 ⟨0, false, 0⟩).wf = false := by decide +kernel

/-! ## The worked examples of the spec -/

/-- The state after a command. -/
def after (c : Instr) (s : State) : State := match exec c s with | .next t => t | _ => s

/-- A register as a field. -/
def reg (a : Nat) : Fld := ⟨a, 0, 32⟩

/-- R680: "123456789" in the snapshot window with a stored CRC-32C in which one bit has flipped. -/
def plumb : State :=
  (having up [(reg (R.PLB_CFG 0), 0x8000031F), (F.PLB_POLY_LO 0, 0x1EDC6F41), (F.PLB_INIT_LO 0, 0xFFFFFFFF),
    (F.PLB_XOR_LO 0, 0xFFFFFFFF), (F.PLB_ADDR 0, 0x1A000100), (F.PLB_LEN 0, 9)]).setBytes 0x1A000100
    [0x31, 0x32, 0x33, 0x34, 0x35, 0x36, 0x37, 0x38, 0x39, 0x83, 0x9A, 0x06, 0xE3]

theorem test_plumb_example :
    let t := after (.plbRunEnd 0) (after (.plbGo 0) plumb)
    (t.nat (R.PLB_RES_LO 0), t.nat (R.PLB_EXP_LO 0), t.get (F.PLB_STAT_CMP 0), t.get (F.PLB_STAT_MATCH 0), t.get (evBit 249)) =
      (0xE3069283, 0xE3069A83, 1, 0, 1) := by decide +kernel

/-- The headers of events of R152's example: EV009, EV137 and EV193 enabled, EV178 pending only. -/
def events : State :=
  having up [(evBit 9, 1), (evEnBit 9, 1), (evBit 137, 1), (evEnBit 137, 1), (evBit 193, 1), (evEnBit 193, 1), (evBit 178, 1),
    (evEnBit 178, 0)]

theorem test_event_example :
    (events.status false false / 256, (events.hostRead R.EVT_SUMMARY).2.1, (events.hostRead 0x41100).2.1, (events.hostRead 0x410F4).2.1) =
      (0x3C, 0x1101, 2, 4) := by decide +kernel
theorem test_event_example_cleared :
    let t := after (.registerWrite false 0xF0010 2) events
    (t.status false false / 256, (t.hostRead 0x41100).2.1) = (0x20, 0) := by decide +kernel

/-- R82's ring: D = 40 arrives over a link of 18 ns at a module with F = 64 ns. -/
theorem test_tick_example :
    (after (.tickReceive .inp 4 40) (having up [(F.SYS_LINK_STATE_OUTST, 2), (F.SYS_LINK_DLY_IN, 18)])).link.sent.getLast? =
      some (Sent.tick .out 4 122) := by decide +kernel

/-- Updates 25 and 87 of R503's example: cruise is reached at x = 1,013.00, and v is 0 at 1,062.00. -/
def pacer (x v target : Nat) : State :=
  { (having up [(F.PACE_CTRL_EN 2, 1), (F.PACE_STAT_STATE 2, 1), (F.PACE_TIME_PERIOD 2, 200), (reg (R.PACE_VMAX 2), 0x6400),
      (reg (R.PACE_AMAX 2), 0x19000), (reg (R.PACE_TGT 2), target * 65536), (reg (R.PACE_XMAX 2), 0x7FFFFFFF)]) with
    pacer := [(2, ⟨x * 2 ^ 32, v * 2 ^ 32, 0, 0⟩)] }

theorem test_pacer_example_cruise :
    let t := after (.pacerUpdate 2) (pacer 1012 96 1200)
    ((t.pacer.get 2).v, (t.pacer.get 2).a, t.int (R.PACE_X 2)) = (100 * 2 ^ 32, 400 * 2 ^ 32, 1013 * 65536) := by decide +kernel
theorem test_pacer_example_turn :
    let t := after (.pacerUpdate 2) (pacer 1062 4 1000)
    ((t.pacer.get 2).v, (t.pacer.get 2).a, t.int (R.PACE_X 2)) = (0, -400 * 2 ^ 32, 1062 * 65536) := by decide +kernel

/-- ENC2 of R243's example with edges in the window: SCALE 3.000 mm, WIN 100 ms. -/
def encoder (edges : Int) : State :=
  { (having up [(F.FBK_ENC_CFG_MODE 2, 3), (F.FBK_ENC_STAT_SSTATE 2, 3)]) with
    enc := [(2, { (default : EncState) with cnt := edges, scale := 0x30000, win := 100, winStart := up.clk - 100 * msec })] }

theorem test_encoder_example :
    ((after (.encWindowEnd 2) (encoder 15)).int (R.FBK_ENC_SPD 2), (after (.encWindowEnd 2) (encoder (-6))).int (R.FBK_ENC_SPD 2)) =
      (450 * 256, -180 * 256) := by decide +kernel

/-- AIN3 of R253's example, at half of full scale: 0.5 × 39.0625 − 6.25 = 13.28125. -/
theorem test_analog_example :
    let s := having up [(F.FBK_AIN_CFG_RANGE 3, 3), (reg (R.FBK_AIN_GAIN 3), 0x271000), (reg (R.FBK_AIN_OFS 3), 0xFFF9C000)]
    let t := after (.ainFrame (List.replicate 16 32768) 0) s
    (t.get (F.FBK_AIN_RAW 3), t.int (R.FBK_AIN_VAL 3)) = (32768, 870400) := by decide +kernel

/-- R417's example: the factor at 65.0 °C with the target 0.5 V above the reference, and the first two openings. -/
theorem test_factor_example : (condFactor (-100) 200 0 250, condFactor (-100) 200 50 650) = (1010000, 1085000) := by decide +kernel
theorem test_learning_example :
    let s := having up [(F.ARM_CFG_ALPHA, 3), (F.ARM_DRIFT_STEP_MAX, 500), (F.ARM_DRIFT_DRIFT, 25)]
    (s.learn ⟨6436, 12, 0, 0⟩ 6683, s.learn ⟨6467, 13, 0, 0⟩ 6532) =
      ((⟨6467, 13, 0, 0⟩, false), (⟨6475, 14, 0, 0⟩, false)) := by decide +kernel

/-- HEAT0 of R482's example with its members' coefficients, integrators and previous D terms. -/
def heat : State :=
  { (having up ([(F.CTL_HEAT_CFG_EN 0, 1), (reg (R.CTL_HEAT_OUT 0), 0x15F00000),
      (reg (R.CTL_LOOP_KP 0), 0x2000), (reg (R.CTL_LOOP_KIT 0), 0x400), (reg (R.CTL_LOOP_DA 0), 0xA00000),
      (reg (R.CTL_LOOP_DB 0), 0x4000), (reg (R.CTL_LOOP_KFF 0), 0x400), (reg (R.CTL_LOOP_IV 0), 53248),
      (reg (R.CTL_LOOP_KP 1), 0x400000), (reg (R.CTL_LOOP_KIT 1), 0x40000), (reg (R.CTL_LOOP_DA 1), 0x800000),
      (reg (R.CTL_LOOP_DB 1), 0x100000), (reg (R.CTL_LOOP_IV 1), 58880),
      (reg (R.CTL_LOOP_KP 2), 0x80000), (reg (R.CTL_LOOP_KIT 2), 0x10000), (reg (R.CTL_LOOP_IV 2), 65536),
      (F.CTL_LOOP_CFG_DON 0, 1), (F.CTL_LOOP_CFG_DON 1, 1)] ++
      [0, 1, 2].flatMap (fun n => [(F.CTL_LOOP_CFG_HEAT n, 1), (F.CTL_LOOP_CTRL_EN n, 1), (F.CTL_LOOP_STAT_STATE n, 2),
        (reg (R.CTL_LOOP_OMAX n), 0x12000), (reg (R.CTL_LOOP_SLEW n), 0x800), (reg (R.CTL_LOOP_KBC n), 0x800000)]))) with
    ctl := { loops := [(0, { (default : LoopState) with sPrev := -1396 * 65536, dPrev := 512 }),
                       (1, { (default : LoopState) with sPrev := -503808, dPrev := -512 })],
             heats := [(0, ⟨none, some 0⟩)], binds := [(0x15F00000, some 64512)], wire := [], held := [] } }

/-- The common sample of HEAT0 in R482's example. -/
def heatSample : State :=
  let a := heat.pid 0 false (1500 * 65536) (1380 * 65536) (4320 * 65536)
  let b := a.2.pid 1 false (8 * 65536) 507904 0
  let c := b.2.pid 2 false (30 * 65536) 1474560 0
  c.2.heatStep 0 [a.1, b.1, c.1]

theorem test_heat_example_values :
    [0, 1, 2].map (fun n => (heatSample.int (R.CTL_LOOP_VV n), heatSample.int (R.CTL_LOOP_IV n))) =
      [(76192, 46992), (62720, 59136), (82816, 57408)] := by decide +kernel
theorem test_heat_example_winner :
    ((heatSample.ctl.heats.get 0).winner, ((heatSample.ctl.heats.get 0).pend.map (·.val)), heatSample.get (evBit 198),
      [0, 1, 2].map (fun n => nbit (heatSample.get (F.CTL_LOOP_FLAGS_STICKY n)) 4)) =
      (some 1, some 62720, 1, [true, false, true]) := by decide +kernel

/-- The channel of R391's example with 49.5 s of 60 s on, above LIMIT = 80 %. -/
theorem test_duty_example :
    let s : State := { (having up [(F.SOL_CH_CTRL_EN 40, 1), (F.SOL_CH_CFG_MODE 40, 1), (F.SOL_CH_DLIM_WINDOW 40, 60),
      (F.SOL_CH_DLIM_LIMIT 40, 80), (F.SOL_CH_STAT_PHASE 40, 5)]) with
      sol := [(40, { (default : SolCh) with hist := List.replicate 12 (60000000, 0) ++ [(12000000, 0)]
                                            winAt := 1540000000, phaseAt := 1540000000 })] }
    let t := after (.dutySubwindowEnd 40 3750000 0) s
    (t.get (F.SOL_CH_STAT_DERATE 40), t.get (evBit 140), t.get (F.SOL_CH_DUSE_ON 40)) = (1, 1, 825) := by decide +kernel

/-! ## The block's way of taking commands -/

theorem test_step_takes_the_front :
    step { State.reset with pending := [.vbatLow, .vbatLowEnd] } = exec .vbatLow { State.reset with pending := [.vbatLowEnd] } := by
  rfl
theorem test_no_word_spells_a_command : decodeTableWord 16 0 = none ∧ State.reset.withFetchWord 16 7 = State.reset := ⟨rfl, rfl⟩

end Sys2Proof.Tests
end

section
/-! The state after reset, and the passing of time on an empty queue. -/

namespace Sys2Proof.Machine

open Sys2Proof

/-! ## The state after reset -/

/-- With no register listed every register reads its reset word. -/
theorem State.word_of_regs_nil {s : State} (h : s.regs = []) (a : Nat) : s.word a = resetWord a := by
  simp [State.word, h, Table.find]

/-- Settles O4: registers and DRAM are the empty tables. -/
theorem resetIsCanonical : Obligations.ResetIsCanonical :=
  ⟨rfl, State.word_of_regs_nil rfl, rfl, rfl⟩

/-! ## Fields, flags and numbers read the register file alone -/

theorem State.get_eq_of_word {s t : State} {f : Fld} (h : t.word f.addr = s.word f.addr) : t.get f = s.get f := by
  simp [State.get, h]

theorem State.flag_eq_of_word {s t : State} {f : Fld} (h : t.word f.addr = s.word f.addr) : t.flag f = s.flag f := by
  simp [State.flag, State.get_eq_of_word h]

theorem State.int_eq_of_word {s t : State} {a : Nat} (h : t.word a = s.word a) : t.int a = s.int a := by
  simp [State.int, State.nat, h]

@[simp] theorem State.nat_setNat_same (s : State) (a v : Nat) : (s.setNat a v).nat a = v % 2 ^ 32 := by
  simp [State.nat, State.setNat]

/-! ## The time base -/

theorem State.step_of_pending_nil {s : State} (h : s.pending = []) : step s = .next s.advance := by
  simp [step, h]

/-- A tag that the time base has reached and not shown is shown next: the tag moves by one and the time base keeps its
place. -/
theorem State.tagStep_of_tagBehind {s : State} (h : s.tagBehind = true) : s.tagStep = 1 := by
  obtain ⟨hHold, hPhase⟩ : s.flag F.NAV_TIME_STAT_HOLD = false ∧ countUnit ≤ s.nav.phase := by
    simpa [State.tagBehind] using h
  simp [State.tagStep, State.phaseNext, h, hHold, hPhase, bit]

theorem State.timeStep_of_tagBehind {s : State} (h : s.tagBehind = true) :
    s.timeStep = { s.nav with phase := s.timeStep.phase } := by
  simp only [State.timeStep, h, if_true]
  split <;> rfl

/-- The time base reads its own registers and state, those of the clocks and the clock. -/
theorem State.timeStep_congr {s t : State} (hw : ∀ a, a ≠ R.PWR_HOURS → t.word a = s.word a) (hn : t.nav = s.nav)
    (hc : t.clocks = s.clocks) (hk : t.clk = s.clk) : t.tagStep = s.tagStep ∧ t.timeStep = s.timeStep := by
  have hHold : t.flag F.NAV_TIME_STAT_HOLD = s.flag F.NAV_TIME_STAT_HOLD := State.flag_eq_of_word (hw _ (by decide))
  have hFb : t.flag F.CLK_STAT_FB = s.flag F.CLK_STAT_FB := State.flag_eq_of_word (hw _ (by decide))
  have hTq : t.tq = s.tq := State.get_eq_of_word (hw _ (by decide))
  have hFreq : t.int R.NAV_TIME_FREQ = s.int R.NAV_TIME_FREQ := State.int_eq_of_word (hw _ (by decide))
  have hBehind : t.tagBehind = s.tagBehind := by simp [State.tagBehind, hHold, hn]
  have hSteer : t.steer = s.steer := by simp [State.steer, hTq, hn]
  have hModel : t.modelFreq = s.modelFreq := by simp [State.modelFreq, hTq, hFreq, hFb, hn, hc, hk]
  have hNext : t.phaseNext = s.phaseNext := by
    simp [State.phaseNext, State.countRate, hBehind, hModel, hSteer, hn]
  have hTag : t.tagStep = s.tagStep := by simp [State.tagStep, hHold, hNext]
  exact ⟨hTag, by simp [State.timeStep, hHold, hn, hNext, hTag, hBehind, hSteer]⟩

/-! ## The operating hours (R606) -/

theorem State.hoursStep_frame (s : State) :
    s.hoursStep = { s with regs := s.hoursStep.regs, pwr := s.hoursStep.pwr } := by
  unfold State.hoursStep
  split
  · split <;> rfl
  · rfl

theorem State.word_hoursStep_ne (s : State) {a : Nat} (h : a ≠ R.PWR_HOURS) : s.hoursStep.word a = s.word a := by
  unfold State.hoursStep
  split
  · split
    · exact State.word_setWord_ne _ _ h
    · rfl
  · rfl

theorem State.hoursStep_within_second {s : State} (hp : s.powered = true) (h : s.pwr.frac + 1 < second) :
    s.hoursStep.nat R.PWR_HOURS = s.nat R.PWR_HOURS ∧ s.hoursStep.pwr.frac = s.pwr.frac + 1 := by
  have hlt : ¬ second ≤ s.pwr.frac + 1 := Nat.not_le.mpr h
  simp only [State.hoursStep, hp, if_true, hlt, if_false]
  exact ⟨rfl, rfl⟩

theorem State.hoursStep_whole_second {s : State} (hp : s.powered = true) (h : second ≤ s.pwr.frac + 1) :
    s.hoursStep.nat R.PWR_HOURS = (s.nat R.PWR_HOURS + 1) % 2 ^ 32 ∧ s.hoursStep.pwr.frac = 0 := by
  simp only [State.hoursStep, hp, if_true, h]
  exact ⟨State.nat_setNat_same _ _ _, rfl⟩

/-! ## Background work -/

theorem State.each_fixed {α : Type} {s : State} {f : State → α → State} :
    ∀ l : List α, (∀ x ∈ l, f s x = s) → s.each l f = s
  | [], _ => rfl
  | x :: l, h => by
    have ih := State.each_fixed l (fun y hy => h y (List.mem_cons_of_mem x hy))
    simpa [State.each, h x List.mem_cons_self] using ih

/-- With no occurrence and no comparison no trigger acts. -/
theorem State.recTrigger_nil (s : State) (t : Nat) : s.recTrigger [] false t = s := by
  simp [State.recTrigger, State.each]

theorem State.recTake_of_occ_nil {s : State} (h : s.occ = []) : s.recTake false = s := by
  have hs : { s with occ := [] } = s := by rw [← h]
  simp only [State.recTake, h, hs]
  split
  · exact State.each_fixed _ (fun t _ => s.recTrigger_nil t)
  · rfl

/-- No work goes on by itself: no SOFT_RESET waits, the time base has made no step since the last capture began, the
recorder has seen what occurred, no drain runs and no loop value waits. -/
structure State.Idle (s : State) : Prop where
  resets : s.cfg.resets = []
  steps : s.nav.steps = s.cap.steps
  occ : s.occ = []
  snapDrain : s.gnss.drain = []
  logDrain : s.recd.drain = none
  held : s.ctl.held = []

theorem State.Idle.background_eq {s : State} (h : s.Idle) : s.background = s := by
  obtain ⟨hResets, hSteps, hOcc, hSnap, hLog, hHeld⟩ := h
  simp [State.background, State.when, hResets, State.capPoll, hSteps, State.recTake_of_occ_nil hOcc, hSnap, hLog, hHeld]

/-! ## One step on an empty queue -/

theorem State.advance_of_tagBehind {s : State} (h : s.tagBehind = true) :
    s.advance = { s with tag := s.tag + 1, nav := { s.nav with phase := s.timeStep.phase } } := by
  simp only [State.advance, h, if_true, State.tagStep_of_tagBehind h]
  rw [State.timeStep_of_tagBehind h]

/-- A count of time on an idle machine. -/
theorem State.Idle.advance_eq {s : State} (hi : s.Idle) (h : s.tagBehind = false) :
    s.advance = { s with regs := s.hoursStep.regs, pwr := s.hoursStep.pwr, tag := s.tag + s.tagStep, clk := s.clk + 1
                         nav := s.timeStep } := by
  have hf := s.hoursStep_frame
  obtain ⟨hTag, hNav⟩ := State.timeStep_congr (s := s) (t := s.hoursStep) (fun a => s.word_hoursStep_ne)
    (by rw [hf]) (by rw [hf]) (by rw [hf])
  simp only [State.advance, h, hi.background_eq, hTag, hNav]
  rw [hf]
  rfl

/-- Settles O2: on an empty queue a step is `advance`, which shows the tag that is due or else lets one count pass. -/
theorem emptyQueueLetsOneCountPass : Obligations.EmptyQueueLetsOneCountPass := by
  refine ⟨fun s hq hb => ?_, fun s hq hb hOcc hSnap hLog hHeld hResets hSteps => ?_⟩
  · refine ⟨_, State.step_of_pending_nil hq, ?_⟩
    rw [State.advance_of_tagBehind hb]
    exact ⟨rfl, rfl, rfl, rfl⟩
  · have hi : s.Idle := ⟨hResets, hSteps, hOcc, hSnap, hLog, hHeld⟩
    refine ⟨_, State.step_of_pending_nil hq, ?_⟩
    rw [hi.advance_eq hb]
    refine ⟨rfl, rfl, hq, rfl, rfl, fun a ha => ?_, State.hoursStep_within_second, State.hoursStep_whole_second⟩
    exact s.word_hoursStep_ne (by simpa using ha)

end Sys2Proof.Machine
end

section
/-! How a whole-word host write takes the bits of its word (R17, R18, R21, R60, R148). -/

namespace Sys2Proof.Machine

open Sys2Proof

/-! ## Masks bit by bit -/

theorem nbit_eq_testBit (v k : Nat) : nbit v k = v.testBit k := by
  rw [Nat.testBit_eq_decide_div_mod_eq]
  rfl

theorem testBit_wholeWord_sub {m k : Nat} (hm : m < 2 ^ 32) (hk : k < 32) : (wholeWord - m).testBit k = !m.testBit k := by
  have h : wholeWord - m = 2 ^ 32 - (m + 1) := by unfold wholeWord; omega
  rw [h, Nat.testBit_two_pow_sub_succ hm]
  simp [hk]

theorem getLsbD_mergeBits (x v : Word) (m : Nat) {k : Nat} (hk : k < 32) :
    (mergeBits x m v).getLsbD k = if m.testBit k then v.getLsbD k else x.getLsbD k := by
  simp only [mergeBits, BitVec.getLsbD_or, BitVec.getLsbD_and, BitVec.getLsbD_not, BitVec.getLsbD_ofNat, hk, decide_true,
    Bool.true_and]
  cases m.testBit k <;> simp

theorem mergeBits_allOnes (x v : Word) : mergeBits x (BitVec.allOnes 32).toNat v = v := by
  rw [mergeBits, BitVec.ofNat_toNat, BitVec.setWidth_eq, BitVec.not_allOnes, BitVec.and_zero, BitVec.zero_or,
    BitVec.and_allOnes]

/-! ## Every mask of a register lies within its word -/

theorem wholeWord_sub_lt (m : Nat) : wholeWord - m < 2 ^ 32 := by unfold wholeWord; omega

theorem reservedBits_lt (a : Nat) : reservedBits a < 2 ^ 32 := by
  unfold reservedBits
  split
  · decide
  · dsimp only
    split
    · exact wholeWord_sub_lt _
    split
    · exact wholeWord_sub_lt _
    split
    · exact wholeWord_sub_lt _
    split <;> decide

theorem State.absentBits_lt (s : State) (a : Nat) : s.absentBits a < 2 ^ 32 := by
  unfold State.absentBits
  split
  · decide
  split
  · apply Nat.or_lt_two_pow <;> split <;> decide
  · decide

theorem State.roNow_lt (s : State) (a : Nat) : s.roNow a < 2 ^ 32 := by
  unfold State.roNow
  dsimp only
  generalize (s.fixedNow a || _) = c
  cases c <;> decide

theorem State.safeHolds_lt (s : State) (a : Nat) : s.safeHolds a < 2 ^ 32 := by
  unfold State.safeHolds
  split
  · cases s.safe <;> decide
  split
  · cases (s.flag F.PWR_STAT_DSAFE_A || s.flag F.PWR_STAT_DSAFE_B) <;> decide
  · decide

/-- A union of masks each within a word lies within a word. -/
theorem foldl_or_lt {α : Type} (c : α → Prop) [DecidablePred c] (g : α → Nat) (hg : ∀ x, g x < 2 ^ 32) :
    ∀ (l : List α) (m : Nat), m < 2 ^ 32 → l.foldl (fun m x => if c x then m ||| g x else m) m < 2 ^ 32
  | [], _, hm => hm
  | x :: l, m, hm => by
    refine foldl_or_lt c g hg l _ ?_
    show (if c x then m ||| g x else m) < 2 ^ 32
    split
    · exact Nat.or_lt_two_pow hm (hg x)
    · exact hm

theorem State.boundBits_lt (s : State) (a : Nat) : s.boundBits a < 2 ^ 32 := by
  unfold State.boundBits
  split
  · exact foldl_or_lt _ _ (fun x => Nat.mod_lt _ (by decide)) _ _ (by decide)
  · decide

/-! ## The word that a host write leaves (R17, R18, R21, R60) -/

/-- The access codes of the fields that a host write stores. -/
def storedCodes : List Access := [.rw, .rwl, .rwo]

/-- Bit `k` at `a` takes the value of a whole-word write. -/
def State.storesBit (s : State) (a k : Nat) : Bool := s.bitIs a k storedCodes && !nbit (s.boundBits a) k

/-- Bit `k` at `a` is cleared by a 1 of a whole-word write. -/
def State.clearsBit (s : State) (a k : Nat) : Bool := s.bitIs a k [.w1c] && !nbit (s.safeHolds a) k

theorem State.bitIs_eq (s : State) (a : Nat) {k : Nat} (hk : k < 32) (cs : List Access) :
    s.bitIs a k cs = (bitsWhere (fieldsAt a) (fun f => cs.contains f.acc) &&&
      (wholeWord - (reservedBits a ||| s.absentBits a ||| s.roNow a))).testBit k := by
  have h : reservedBits a ||| s.absentBits a ||| s.roNow a < 2 ^ 32 :=
    Nat.or_lt_two_pow (Nat.or_lt_two_pow (reservedBits_lt a) (s.absentBits_lt a)) (s.roNow_lt a)
  simp only [State.bitIs, nbit_eq_testBit, Nat.testBit_and, testBit_wholeWord_sub h hk]

theorem State.getLsbD_written (s : State) (a : Nat) (v : Word) {k : Nat} (hk : k < 32) :
    (s.written a (BitVec.allOnes 32) v).getLsbD k =
      ((if s.storesBit a k then v.getLsbD k else (s.word a).getLsbD k) && !(s.clearsBit a k && v.getLsbD k)) := by
  have hStored : (fun f : FieldDef => f.acc == .rw || f.acc == .rwl || f.acc == .rwo) =
      fun f => storedCodes.contains f.acc := by
    funext f
    cases f.acc <;> rfl
  have hW1c : (fun f : FieldDef => f.acc == .w1c) = fun f => [Access.w1c].contains f.acc := by
    funext f
    cases f.acc <;> rfl
  have hOnes : (BitVec.allOnes 32).toNat.testBit k = true := by
    rw [BitVec.testBit_toNat, BitVec.getLsbD_allOnes, decide_eq_true hk]
  simp only [State.written, accBits, hStored, hW1c, BitVec.getLsbD_and, BitVec.getLsbD_not, getLsbD_mergeBits _ _ _ hk,
    BitVec.getLsbD_ofNat, BitVec.getLsbD_allOnes, Nat.testBit_and _ (wholeWord - s.boundBits a),
    Nat.testBit_and _ (wholeWord - s.safeHolds a), Nat.testBit_and _ (BitVec.toNat _), hOnes,
    testBit_wholeWord_sub (s.boundBits_lt a) hk, testBit_wholeWord_sub (s.safeHolds_lt a) hk, ← s.bitIs_eq a hk,
    State.storesBit, State.clearsBit, nbit_eq_testBit, hk, decide_true, Bool.and_true, Bool.true_and]

end Sys2Proof.Machine
end

section
/-! Register words whose write does nothing more than store its value (`quietWord`). -/

namespace Sys2Proof.Machine

open Sys2Proof

/-! ## No bit is both stored and cleared by a write -/

/-- The fields that a write stores and those whose 1s it clears share no bit. -/
abbrev StoredApartFromW1c (fs : List FieldDef) : Prop :=
  bitsWhere fs (fun f => storedCodes.contains f.acc) &&& bitsWhere fs (fun f => [Access.w1c].contains f.acc) = 0

theorem regDefs_storedApartFromW1c (b : Nat) : ∀ r ∈ regDefs b, StoredApartFromW1c r.fields := by
  match b with
  | n + 22 => exact fun r hr => nomatch (show r ∈ [] from hr)
  | 0 | 1 | 2 | 3 | 4 | 5 | 6 | 7 | 8 | 9 | 10 | 11 | 12 | 13 | 14 | 15 | 16 | 17 | 18 | 19 | 20 | 21 => decide +kernel

theorem headerFields_storedApartFromW1c (o : Nat) : StoredApartFromW1c (headerFields o) := by
  unfold headerFields
  split <;> decide

/-- A register found at an address is listed in its region's table and has an instance there. -/
theorem regAt_eq_some {a i : Nat} {r : RegDef} (h : regAt a = some (r, i)) :
    r ∈ regDefs (a / 65536) ∧ r.instanceAt a = some i := by
  obtain ⟨q, hq, hqr⟩ := List.exists_of_findSome?_eq_some h
  obtain ⟨j, hj, hEq⟩ := Option.map_eq_some_iff.mp hqr
  cases hEq
  exact ⟨hq, hj⟩

theorem fieldsAt_storedApartFromW1c (a : Nat) : StoredApartFromW1c (fieldsAt a) := by
  unfold fieldsAt
  split
  · decide
  split
  · exact headerFields_storedApartFromW1c _
  split
  · next h => exact regDefs_storedApartFromW1c _ _ (regAt_eq_some h).1
  · decide

theorem State.storesBit_of_clearsBit {s : State} {a k : Nat} (hk : k < 32) (h : s.bitIs a k [.w1c] = true) :
    s.storesBit a k = false := by
  have h0 : (bitsWhere (fieldsAt a) (fun f => storedCodes.contains f.acc) &&&
      bitsWhere (fieldsAt a) (fun f => [Access.w1c].contains f.acc)).testBit k = false := by
    rw [fieldsAt_storedApartFromW1c a, Nat.zero_testBit]
  rw [s.bitIs_eq a hk, Nat.testBit_and, Bool.and_eq_true] at h
  rw [Nat.testBit_and, h.1, Bool.and_true] at h0
  rw [State.storesBit, s.bitIs_eq a hk, Nat.testBit_and, h0]
  rfl

/-! ## The words a change or a write of which acts at once -/

/-- The single registers a write of which does more than store its value. -/
def actingWords : List Nat :=
  [R.SYS_TICK_BASE_LO, R.SYS_TICK_BASE_HI, R.CLK_GATE_REQ, R.CLK_CTRL, R.PWR_CMD, R.CFG_COURSE_REQ, R.CFG_IMG_CMD,
   R.GNSS_FE_CTRL, R.GNSS_SNAP_CTRL, R.GNSS_SNAP_CMD, R.NAV_CTRL, R.FBK_FUS_CTRL, R.GEO_MAP_CMD, R.CAP_CMD, R.REC_CMD,
   R.MEM_TEL_CMD, R.SEC_CMD]

/-- The register arrays of the same kind, each with its count. -/
def actingArrays : List ((Nat → Nat) × Nat) :=
  [(R.LANE_CTRL, 16), (R.LANE_BASE, 16), (R.LANE_SIZE, 16), (R.LANE_HEAD, 16), (R.GNSS_CH_CTRL, 192), (R.GNSS_CH_SIG, 192),
   (R.FBK_ENC_CFG, 8), (R.FBK_ENC_ZCFG, 8), (R.FBK_ENC_FILT, 8), (R.FBK_ENC_LIM_LO, 8), (R.FBK_ENC_LIM_HI, 8),
   (R.FBK_ENC_POS, 8), (R.FBK_AIN_CFG, 16), (fun k => R.FBK_CMP_CTRL (k / 16) (k % 16), 128), (R.GEO_PT_CTRL, 128),
   (R.STR_PT_CTRL, 128), (R.STR_SP_CTRL, 896), (R.SOL_CH_CTRL, 96), (R.SOL_CH_CFG, 96), (R.SOL_CH_ISET, 96),
   (R.SOL_CH_DITHER, 96), (R.SOL_CH_DLIM, 96), (R.SOL_CH_I2T, 96), (R.SOL_CH_CMD, 96), (R.SOL_CH_FLT, 96),
   (R.SOL_DIE_BOOST, 2), (R.SOL_BANK_CTRL, 12), (R.ARM_CH_CTRL, 96), (R.ARM_CH_INIT, 96), (R.ARM_SW_CFG, 24),
   (R.HSW_CH_CTRL, 24), (R.HSW_CH_CFG, 24), (R.HSW_CH_CMD, 24), (R.HSW_CH_FLT, 24), (R.CTL_LOOP_OUT, 32),
   (R.CTL_LOOP_CFG, 32), (R.CTL_LOOP_CMD, 32), (R.PACE_CMD, 16), (R.LAP_SRC, 4), (R.LAP_CPR, 4), (R.LAP_ORIGIN, 4),
   (R.LAP_CTRL, 4), (R.INJ_CMD, 4), (R.CAN_CTL_CFG, 3), (R.CAN_CTL_CMD, 3), (R.CAN_OBJ_CMD, 256), (R.PLB_CMD, 4)]

theorem quietWord_iff (a : Nat) : quietWord a = true ↔
    (blockOf (a / 65536)).isSome = true ∧ a % 65536 ≠ 0x008 ∧ a % 65536 ≠ 0x01C ∧ a ∉ actingWords ∧
      (∀ x ∈ actingArrays, ∀ n < x.2, x.1 n ≠ a) ∧ (a < 0x104000 ∨ 0x108000 ≤ a) := by
  have h : quietWord a = ((blockOf (a / 65536)).isSome && a % 65536 != 0x008 && a % 65536 != 0x01C &&
      !(actingWords.contains a) && !(actingArrays.any (fun x => (List.range x.2).any (fun n => x.1 n == a))) &&
      !decide (0x104000 ≤ a ∧ a < 0x108000)) := rfl
  rw [h]
  simp [and_assoc]

theorem fbkCmpCtrl_linear (n : Nat) : R.FBK_CMP_CTRL (n / 16) (n % 16) =
    R.FBK_CMP_CTRL (0 / 16) (0 % 16) + n * (R.FBK_CMP_CTRL (1 / 16) (1 % 16) - R.FBK_CMP_CTRL (0 / 16) (0 % 16)) := by
  have hStride : R.FBK_CMP_CTRL (1 / 16) (1 % 16) - R.FBK_CMP_CTRL (0 / 16) (0 % 16) = 0x10 := rfl
  rw [hStride]
  simp only [R.FBK_CMP_CTRL]
  omega

/-- The registers of an array lie a fixed stride apart. -/
theorem actingArrays_linear : ∀ x ∈ actingArrays, ∀ n, x.1 n = x.1 0 + n * (x.1 1 - x.1 0) := by
  simp only [actingArrays, List.forall_mem_cons]
  iterate 13 refine ⟨fun _ => rfl, ?_⟩
  refine ⟨fbkCmpCtrl_linear, ?_⟩
  iterate 33 refine ⟨fun _ => rfl, ?_⟩
  simp

/-- An address that `arrIdx` finds is that of the register with the index found. -/
theorem arrIdx_eq_some {a c i : Nat} {r : Nat → Nat} (hr : ∀ n, r n = r 0 + n * (r 1 - r 0))
    (h : arrIdx a r c = some i) : r i = a ∧ i < c := by
  unfold arrIdx at h
  dsimp only at h
  split at h
  · next hc =>
    obtain ⟨hBase, hMod, hCount⟩ := hc
    obtain rfl := Option.some.inj h
    refine ⟨?_, hCount⟩
    rw [hr, Nat.div_mul_cancel (Nat.dvd_of_mod_eq_zero hMod)]
    omega
  · simp at h

theorem arrIdx_eq_none_of_quiet {a c : Nat} {r : Nat → Nat} (hq : quietWord a = true) (hx : (r, c) ∈ actingArrays) :
    arrIdx a r c = none := by
  obtain ⟨-, -, -, -, hArr, -⟩ := (quietWord_iff a).mp hq
  by_contra hne
  obtain ⟨i, hi⟩ := Option.ne_none_iff_exists'.mp hne
  obtain ⟨hia, hic⟩ := arrIdx_eq_some (actingArrays_linear _ hx) hi
  exact hArr _ hx i hic hia

theorem arrIdx_fbkCmpCtrl_of_quiet {a n : Nat} (hq : quietWord a = true) (hn : n < 8) :
    arrIdx a (R.FBK_CMP_CTRL n) 16 = none := by
  obtain ⟨-, -, -, -, hArr, -⟩ := (quietWord_iff a).mp hq
  by_contra hne
  obtain ⟨i, hi⟩ := Option.ne_none_iff_exists'.mp hne
  have hStride : R.FBK_CMP_CTRL n 1 - R.FBK_CMP_CTRL n 0 = 0x10 := by simp only [R.FBK_CMP_CTRL]; omega
  obtain ⟨hia, hic⟩ := arrIdx_eq_some (fun m => by rw [hStride]; simp only [R.FBK_CMP_CTRL]; omega) hi
  refine hArr (fun k => R.FBK_CMP_CTRL (k / 16) (k % 16), 128) (by simp [actingArrays]) (n * 16 + i)
    (by dsimp only; omega) ?_
  have hDiv : (n * 16 + i) / 16 = n := by omega
  have hMod : (n * 16 + i) % 16 = i := by omega
  simp only [hDiv, hMod, hia]

/-- No acting array has a register at a quiet address. -/
theorem State.onIdx_of_quiet {a : Nat} (hq : quietWord a = true) :
    ∀ x ∈ actingArrays, ∀ (s : State) (f : State → Nat → State), s.onIdx a x.1 x.2 f = s := by
  intro x hx s f
  rw [State.onIdx, arrIdx_eq_none_of_quiet hq hx]

theorem State.onIdx_fbkCmpCtrl_of_quiet {a : Nat} (hq : quietWord a = true) (s : State)
    (f : Nat → State → Nat → State) :
    s.each (List.range 8) (fun s n => s.onIdx a (R.FBK_CMP_CTRL n) 16 (f n)) = s :=
  State.each_fixed _ (fun n hn => by rw [State.onIdx, arrIdx_fbkCmpCtrl_of_quiet hq (List.mem_range.mp hn)])

theorem ne_of_quiet {a : Nat} (hq : quietWord a = true) : ∀ r ∈ actingWords, a ≠ r := by
  obtain ⟨-, -, -, hWords, -, -⟩ := (quietWord_iff a).mp hq
  exact fun r hr h => hWords (h ▸ hr)

/-! ## A quiet word changes with nothing that follows -/

section
variable {a : Nat} (hq : quietWord a = true)
include hq

theorem State.laneChanged_of_quiet (s0 s : State) : State.laneChanged s0 s a = s := by
  have hIdx := State.onIdx_of_quiet hq
  simp only [actingArrays, List.forall_mem_cons] at hIdx
  simp only [State.laneChanged, hIdx]

theorem State.fbkChanged_of_quiet (s0 s : State) : State.fbkChanged s0 s a = s := by
  have hIdx := State.onIdx_of_quiet hq
  have hFus : a ≠ R.FBK_FUS_CTRL := ne_of_quiet hq _ (by simp [actingWords])
  simp only [actingArrays, List.forall_mem_cons] at hIdx
  simp [State.fbkChanged, hIdx, State.onIdx_fbkCmpCtrl_of_quiet hq, hFus]

theorem State.solChanged_of_quiet (s0 s : State) : State.solChanged s0 s a = s := by
  have hIdx := State.onIdx_of_quiet hq
  simp only [actingArrays, List.forall_mem_cons] at hIdx
  simp only [State.solChanged, hIdx]

theorem State.flag_imuEn_setWord_of_quiet (s : State) (w : Word) :
    (s.setWord a w).flag F.NAV_CTRL_IMU_EN = s.flag F.NAV_CTRL_IMU_EN :=
  State.flag_eq_of_word (s.word_setWord_ne w (ne_of_quiet hq R.NAV_CTRL (by simp [actingWords])).symm)

theorem State.blockChanged_setWord_of_quiet (s : State) (w : Word) :
    State.blockChanged s (s.setWord a w) a = s.setWord a w := by
  have hIdx := State.onIdx_of_quiet hq
  have hWord := ne_of_quiet hq
  simp only [actingArrays, actingWords, List.forall_mem_cons] at hIdx hWord
  unfold State.blockChanged
  split  -- by region; those with a function of their own are LANE, FBK and SOL, and NAV looks at one flag
  case h_2 => exact State.laneChanged_of_quiet hq _ _
  case h_4 => simp [cleared, State.flag_imuEn_setWord_of_quiet hq, State.when]
  case h_5 => exact State.fbkChanged_of_quiet hq _ _
  case h_8 => exact State.solChanged_of_quiet hq _ _
  all_goals simp [hIdx, hWord, State.when]

theorem State.change_of_quiet (s : State) (w : Word) : s.change a w = if s.word a = w then s else s.setWord a w := by
  obtain ⟨-, hCtrl, -⟩ := (quietWord_iff a).mp hq
  rw [State.change, State.onChange, State.blockChanged_setWord_of_quiet hq, if_neg hCtrl, ite_self]

end

/-! ## A write of a quiet word has no effect beside its value -/

section
variable {w : WordWrite} (hq : quietWord w.a = true)
include hq

theorem State.headerEffect_of_quiet (s : State) (b : Block) (hit : Nat) : s.headerEffect b w hit = s := by
  obtain ⟨-, hCtrl, hLock, -⟩ := (quietWord_iff w.a).mp hq
  simp [State.headerEffect, hCtrl, hLock]

theorem State.senseEffect_of_quiet (s : State) (hit : Nat) : s.senseEffect w hit = s := by
  have hIdx := State.onIdx_of_quiet hq
  have hWord := ne_of_quiet hq
  simp only [actingArrays, actingWords, List.forall_mem_cons] at hIdx hWord
  simp [State.senseEffect, hIdx, hWord, State.onIdx_fbkCmpCtrl_of_quiet hq]

theorem State.driveEffect_of_quiet (s : State) : s.driveEffect w = s := by
  have hIdx := State.onIdx_of_quiet hq
  have hWord := ne_of_quiet hq
  simp only [actingArrays, actingWords, List.forall_mem_cons] at hIdx hWord
  simp [State.driveEffect, hIdx, hWord]

theorem State.paceEffect_of_quiet (s : State) : s.paceEffect w = s := by
  have hIdx := State.onIdx_of_quiet hq
  have hWord := ne_of_quiet hq
  obtain ⟨-, -, -, -, -, hLap⟩ := (quietWord_iff w.a).mp hq
  have hLap : ¬ (0x104000 ≤ w.a ∧ w.a < 0x108000) := by omega
  simp only [actingArrays, actingWords, List.forall_mem_cons] at hIdx hWord
  simp [State.paceEffect, hIdx, hWord, hLap]

theorem State.hostEffect_of_quiet (s : State) (auth : Bool) (b : Block) (hit : Nat) :
    s.hostEffect auth b w hit = s := by
  have hWord := ne_of_quiet hq
  simp only [actingWords, List.forall_mem_cons] at hWord
  unfold State.hostEffect
  split
  · exact State.headerEffect_of_quiet hq s b hit
  cases b with
  | gnss | nav | fbk => exact State.senseEffect_of_quiet hq s hit
  | geo | sol | arm | hsw | ctl => exact State.driveEffect_of_quiet hq s
  | pace | can => exact State.paceEffect_of_quiet hq s
  | plb => exact State.onIdx_of_quiet hq (R.PLB_CMD, 4) (by simp [actingArrays]) s _
  | evt | lane | str => rfl
  | sys | clk | pwr | cfg | recorder | mem | sec => simp [hWord]

end

end Sys2Proof.Machine
end

section
/-! Words of one RW field of 32 bits: the staging area and the two windows. -/

namespace Sys2Proof.Machine

open Sys2Proof

/-! ## Words that are one RW field of 32 bits -/

/-- The field of such a word. -/
def wordField : FieldDef := ⟨0, 32, .rw, false, 0, .any, false⟩

theorem arrIdx_eq_none_of_apart {a c : Nat} {r : Nat → Nat} (hr : r 0 < r 1)
    (h : a < r 0 ∨ r 0 + c * (r 1 - r 0) ≤ a) : arrIdx a r c = none := by
  refine if_neg fun ⟨hBase, _, hCount⟩ => ?_
  have hOfs := (Nat.div_lt_iff_lt_mul (Nat.sub_pos_of_lt hr)).mp hCount
  omega

/-- A register word below the front end or from SEC on: there no setting, personality or binding takes bits from the host
(R154, R163, R229, R446, R550, R556). -/
structure Unconditional (a : Nat) : Prop where
  place : a < 0x70000 ∨ 0x140000 ≤ a
  block : (blockOf (a / 65536)).isSome = true
  body : 0x24 ≤ a % 65536

theorem Unconditional.reservedBits_eq {a : Nat} (h : Unconditional a) : reservedBits a = 0 := by
  obtain ⟨hPlace, hBlock, hBody⟩ := h
  obtain ⟨b, hb⟩ := Option.isSome_iff_exists.mp hBlock
  have hEvt : ¬ (a = R.SOL_EVT_HI ∨ a = R.SOL_EVT_HI_EN) := by simp only [R.SOL_EVT_HI, R.SOL_EVT_HI_EN]; omega
  have hPair : ¬ (0xC2000 ≤ a ∧ a < 0xC3800 ∧ a % 128 = R.SOL_CH_CFG 1 % 128) := by omega
  have hPend : a % 65536 ≠ 0x010 := by omega
  have hEn : a % 65536 ≠ 0x014 := by omega
  simp only [reservedBits, hb, hPend, hEn, hEvt, hPair, if_false]

theorem Unconditional.absentBits_eq {a : Nat} (h : Unconditional a) (s : State) : s.absentBits a = 0 := by
  obtain ⟨hPlace, -, -⟩ := h
  have hFe : a ≠ R.GNSS_FE_CTRL := by simp only [R.GNSS_FE_CTRL]; omega
  have hNav : a ≠ R.NAV_CTRL := by simp only [R.NAV_CTRL]; omega
  simp [State.absentBits, hFe, hNav]

theorem Unconditional.boundBits_eq {a : Nat} (h : Unconditional a) (s : State) : s.boundBits a = 0 := by
  obtain ⟨hPlace, -, -⟩ := h
  exact if_neg (by omega)

theorem Unconditional.roNow_eq {a : Nat} (h : Unconditional a) (s : State) : s.roNow a = 0 := by
  obtain ⟨hPlace, -, -⟩ := h
  have hCarr : arrIdx a R.GNSS_CH_CARR_NCO 192 = none :=
    arrIdx_eq_none_of_apart (by decide) (by simp only [R.GNSS_CH_CARR_NCO]; omega)
  have hCode : arrIdx a R.GNSS_CH_CODE_NCO 192 = none :=
    arrIdx_eq_none_of_apart (by decide) (by simp only [R.GNSS_CH_CODE_NCO]; omega)
  have hDuty : arrIdx a R.HSW_PG_DUTY 6 = none := arrIdx_eq_none_of_apart (by decide) (by simp only [R.HSW_PG_DUTY]; omega)
  have hCopy : ¬ (0x118000 ≤ a ∧ a < 0x120000 ∧ 0x40 ≤ a % 128) := by omega
  simp [State.roNow, State.fixedNow, State.ncoFixed, State.readCopyAt, hCarr, hCode, hDuty, hCopy]

/-- A whole-word write of a word of one RW field leaves the value written. -/
theorem Unconditional.written_eq {a : Nat} (h : Unconditional a) (hf : fieldsAt a = [wordField]) (s : State) (v : Word) :
    s.written a (BitVec.allOnes 32) v = v := by
  apply BitVec.eq_of_getLsbD_eq
  intro k hk
  have hStored : bitsWhere [wordField] (fun f => storedCodes.contains f.acc) = wholeWord := rfl
  have hW1c : bitsWhere [wordField] (fun f => [Access.w1c].contains f.acc) = 0 := rfl
  have hAll : ∀ k < 32, (nbit wholeWord k && !nbit (0 ||| 0 ||| 0) k && !nbit 0 k) = true := by decide
  have hStores : s.storesBit a k = true := by
    simp only [State.storesBit, State.bitIs, hf, hStored, h.reservedBits_eq, h.absentBits_eq, h.roNow_eq, h.boundBits_eq]
    exact hAll k hk
  have hClears : s.clearsBit a k = false := by
    simp only [State.clearsBit, State.bitIs, hf, hW1c, nbit_eq_testBit, Nat.zero_testBit, Bool.false_and]
  rw [s.getLsbD_written a v hk, hStores, hClears]
  simp

/-! ## The staging area and the two windows -/

/-- The registers of `q` lie outside the addresses from `lo` up to `hi`. -/
def RegDef.apart (q : RegDef) (lo hi : Nat) : Bool :=
  decide (hi ≤ q.base) ||
    match q.dims with
    | [] => decide (q.base < lo)
    | (stride, count) :: _ => decide (0 < stride ∧ q.base + count * stride ≤ lo)

theorem RegDef.instanceAt_of_apart {q : RegDef} {lo hi a : Nat} (h : q.apart lo hi = true) (hLo : lo ≤ a) (hHi : a < hi) :
    q.instanceAt a = none := by
  unfold RegDef.apart at h
  unfold RegDef.instanceAt
  split
  · rfl
  · rw [Option.map_eq_none_iff]
    match hd : q.dims with
    | [] =>
      simp only [hd, Bool.or_eq_true, decide_eq_true_eq] at h
      exact if_neg (by omega)
    | (stride, count) :: t =>
      simp only [hd, Bool.or_eq_true, decide_eq_true_eq] at h
      refine if_neg fun hLt => ?_
      rcases h with h | ⟨hPos, h⟩
      · omega
      · have hOfs := (Nat.div_lt_iff_lt_mul hPos).mp hLt
        omega

/-- A window: `count` words from `base`. -/
structure Window where
  name  : String
  base  : Nat
  count : Nat

/-- The row that lists a window: one array of one RW field each. -/
def Window.row (w : Window) : RegDef := ⟨w.name, w.base, [(4, w.count)], .all, 0, [wordField]⟩

/-- The address after the last of a window. -/
def Window.top (w : Window) : Nat := w.base + w.count * 4

/-- The staging area (R658), the firmware window (R656) and the image window (R128). -/
def windows : List Window := [⟨"SEC_STAGE", 0x143000, 64⟩, ⟨"SEC_WIN", 0x148000, 8192⟩, ⟨"CFG_WIN", 0x68000, 8192⟩]

/-- Word `k` of a window. -/
def WindowWord (a : Nat) : Prop := ∃ w ∈ windows, ∃ k < w.count, a = w.base + k * 4

theorem Window.row_instanceAt {w : Window} {k : Nat} (hk : k < w.count) : w.row.instanceAt (w.base + k * 4) = some k := by
  have hLe : ¬ w.base + k * 4 < w.base := by omega
  have hOfs : w.base + k * 4 - w.base = k * 4 := by omega
  have hMod : k * 4 % 4 = 0 := Nat.mul_mod_left k 4
  have hDiv : k * 4 / 4 = k := Nat.mul_div_cancel k (by decide)
  simp [RegDef.instanceAt, Window.row, hLe, hOfs, dimsIndex, hMod, hDiv, hk]

/-- Each window is listed, lies in one region, and nothing else is listed there. -/
theorem windows_listed : ∀ w ∈ windows, w.row ∈ regDefs (w.base / 65536) ∧
    0x24 ≤ w.base % 65536 ∧ w.base % 65536 + w.count * 4 ≤ 65536 ∧ (blockOf (w.base / 65536)).isSome = true ∧
    ∀ q ∈ regDefs (w.base / 65536), q = w.row ∨ q.apart w.base w.top = true := by
  decide +kernel

theorem windows_apart : ∀ w ∈ windows, (w.top ≤ 0x70000 ∨ 0x140000 ≤ w.base) ∧
    (∀ r ∈ actingWords, r < w.base ∨ w.top ≤ r) ∧
    ∀ x ∈ actingArrays, x.1 0 < x.1 1 ∧ (w.top ≤ x.1 0 ∨ x.1 0 + x.2 * (x.1 1 - x.1 0) ≤ w.base) := by
  decide +kernel

theorem WindowWord.unconditional {a : Nat} (h : WindowWord a) : Unconditional a := by
  obtain ⟨w, hw, k, hk, rfl⟩ := h
  obtain ⟨-, hBody, hRegion, hBlock, -⟩ := windows_listed w hw
  obtain ⟨hPlace, -, -⟩ := windows_apart w hw
  rw [Window.top] at hPlace
  have hDiv : (w.base + k * 4) / 65536 = w.base / 65536 := by omega
  exact ⟨by omega, by rw [hDiv]; exact hBlock, by omega⟩

theorem fieldsAt_of_body {a i : Nat} {r : RegDef} (hb : (blockOf (a / 65536)).isSome = true) (ho : 0x24 ≤ a % 65536)
    (h : regAt a = some (r, i)) : fieldsAt a = r.fields := by
  obtain ⟨b, hb⟩ := Option.isSome_iff_exists.mp hb
  simp [fieldsAt, hb, Nat.not_lt.mpr ho, h]

theorem WindowWord.fieldsAt_eq {a : Nat} (h : WindowWord a) : fieldsAt a = [wordField] := by
  have hu := h.unconditional
  obtain ⟨w, hw, k, hk, rfl⟩ := h
  obtain ⟨hRow, -, hRegion, -, hOnly⟩ := windows_listed w hw
  have hDiv : (w.base + k * 4) / 65536 = w.base / 65536 := by omega
  have hSome : (regAt (w.base + k * 4)).isSome = true := by
    rw [regAt, hDiv, List.findSome?_isSome_iff]
    exact ⟨_, hRow, by simp [Window.row_instanceAt hk]⟩
  obtain ⟨⟨r, i⟩, hr⟩ := Option.isSome_iff_exists.mp hSome
  rw [fieldsAt_of_body hu.block hu.body hr]
  obtain ⟨hListed, hInst⟩ := regAt_eq_some hr
  rw [hDiv] at hListed
  rcases hOnly _ hListed with hIs | hApart
  · rw [hIs]
    rfl
  · rw [RegDef.instanceAt_of_apart hApart (by omega) (by rw [Window.top]; omega)] at hInst
    cases hInst

theorem WindowWord.quiet {a : Nat} (h : WindowWord a) : quietWord a = true := by
  obtain ⟨hPlace, hBlock, hBody⟩ := h.unconditional
  obtain ⟨w, hw, k, hk, rfl⟩ := h
  obtain ⟨-, hWords, hArrays⟩ := windows_apart w hw
  simp only [Window.top] at hWords hArrays
  refine (quietWord_iff _).mpr ⟨hBlock, by omega, by omega, fun hMem => ?_, fun x hx n hn hEq => ?_, by omega⟩
  · have := hWords _ hMem
    omega
  · obtain ⟨hStride, hApart⟩ := hArrays x hx
    rw [actingArrays_linear x hx n] at hEq
    have hLt := Nat.mul_lt_mul_of_pos_right hn (Nat.sub_pos_of_lt hStride)
    omega

end Sys2Proof.Machine
end

section
/-! A host write of one word as a whole: a refusal, a register word, a DRAM word. -/

namespace Sys2Proof.Machine

open Sys2Proof

/-! ## What a host write of one register word leaves -/

theorem State.hostWrite_of_regWrite {s : State} {auth : Bool} {a : Nat} {m v : Word} (ha : a % 4 = 0)
    (hAuth : (s.needsAuth a m v && !auth) = false) (hPar : s.parity ≠ some 0) (hLo : 0x10000 ≤ a) (hHi : a < 0x160000) :
    s.hostWrite auth a m v = { (s.regWrite auth a m v).2 with
      parity := none, lastErr := (s.regWrite auth a m v).1.map (fun c => (c, 0)) } := by
  simp only [State.hostWrite, ha, hAuth, hPar, State.hostWord, hLo, hHi, ne_eq, not_true, if_false, and_self, if_true,
    Bool.false_eq_true]

/-- A refused write leaves the refusal, and with OPENREQ the block's note of it. -/
theorem State.regWrite_of_refused {s : State} {auth : Bool} {a : Nat} {m v : Word} {c : ErrCode}
    (h : s.regCode auth a m v = some c) : s.regWrite auth a m v = (some c, if c = .openreq then s.openNote a else s) := by
  simp only [State.regWrite, h]

/-- An accepted write changes its word and does what the block does with it. -/
theorem State.hostWrite_of_admits {s : State} {auth : Bool} {a : Nat} {m v : Word} (h : s.admits auth a m v) :
    ∃ b, blockOf (a / 65536) = some b ∧ s.hostWrite auth a m v =
      { (s.change a (s.written a m v)).hostEffect auth b (s.wordWrite a m v) (m &&& v).toNat with
        parity := none, lastErr := none } := by
  obtain ⟨ha, hAuth, hPar, hLo, hHi, hCode⟩ := h
  cases hb : blockOf (a / 65536) with
  | none => simp [State.regCode, hb] at hCode
  | some b =>
    refine ⟨b, rfl, ?_⟩
    rw [State.hostWrite_of_regWrite ha hAuth hPar hLo hHi]
    simp only [State.regWrite, hCode, hb]
    rfl

theorem State.raise_changes (s : State) (e : Nat) : s.raise e = { s with
    regs := (s.raise e).regs, occ := (s.raise e).occ } := by
  unfold State.raise
  dsimp only
  split <;> rfl

/-- The note of an OPENREQ changes sticky registers, and in CTL an event register. -/
theorem State.openNote_frame (s : State) (a : Nat) : s.openNote a = { s with
    regs := (s.openNote a).regs, occ := (s.openNote a).occ } := by
  unfold State.openNote
  split  -- SOL, HSW, CTL, CAN and the other regions; CTL alone raises an event
  case h_3 => exact State.raise_changes _ _
  all_goals rfl

theorem State.openNote_regsKept (s : State) (a : Nat) : s.regsKept (s.openNote a)
    [H.sticky .sol, H.sticky .hsw, H.sticky .ctl, H.sticky .can, (evBit 197).addr] := by
  intro r hr
  simp only [List.mem_cons, not_or] at hr
  obtain ⟨hSol, hHsw, hCtl, hCan, hEvt, -⟩ := hr
  unfold State.openNote
  split
  case h_1 => exact s.word_put_ne _ _ hSol
  case h_2 => exact s.word_put_ne _ _ hHsw
  case h_3 => rw [State.word_raise_ne _ _ hEvt, State.word_put_ne _ _ _ hCtl]
  case h_4 => exact s.word_put_ne _ _ hCan
  case h_5 => rfl

/-! ## What an accepted write of a quiet word leaves -/

/-- `t` is `s` with the register at `a` holding `w` and nothing else changed, but that no refusal and no transfer given up is
left. -/
structure State.Stores (s t : State) (a : Nat) (w : Word) : Prop where
  word : t.word a = w
  frame : t = { s with regs := t.regs, parity := none, lastErr := none }
  kept : s.regsKept t [a]

theorem State.stores_ite_setWord (s : State) (a : Nat) (w : Word) :
    s.Stores { (if s.word a = w then s else s.setWord a w) with parity := none, lastErr := none } a w := by
  split
  · next h => exact ⟨h, rfl, fun _ _ => rfl⟩
  · exact ⟨s.word_setWord_same a w, rfl, fun r hr => s.word_setWord_ne w (by simpa using hr)⟩

theorem State.hostWrite_of_quiet {s : State} {auth : Bool} {a : Nat} {m v : Word} (hq : quietWord a = true)
    (h : s.admits auth a m v) : s.Stores (s.hostWrite auth a m v) a (s.written a m v) := by
  obtain ⟨b, -, hWrite⟩ := State.hostWrite_of_admits h
  rw [hWrite, State.hostEffect_of_quiet (w := s.wordWrite a m v) hq, State.change_of_quiet hq]
  exact s.stores_ite_setWord a _

theorem exec_registerWrite (auth : Bool) (a v : Word) (s : State) :
    exec (.registerWrite auth a v) s = .next (s.hostWrite auth a.toNat (BitVec.allOnes 32) v) := rfl

/-! ## The low word of the tick base (R85) -/

theorem tickBaseLo_unconditional : Unconditional R.SYS_TICK_BASE_LO := ⟨by decide, by decide, by decide⟩

theorem tickBaseLo_fieldsAt : fieldsAt R.SYS_TICK_BASE_LO = [wordField] := by decide +kernel

theorem State.hostEffect_tickBaseLo (s : State) (auth : Bool) {w : WordWrite} (hw : w.a = R.SYS_TICK_BASE_LO) (hit : Nat) :
    s.hostEffect auth .sys w hit = { s with link := { s.link with loWait := true } } := by
  have hBody : ¬ w.a % 65536 < 0x24 := by rw [hw]; decide
  have hHi : w.a ≠ R.SYS_TICK_BASE_HI := by rw [hw]; decide
  rw [State.hostEffect, if_neg hBody]
  exact (if_neg hHi).trans (if_pos hw)

theorem State.hostWrite_tickBaseLo {s : State} {auth : Bool} {v : Word}
    (h : s.admits auth R.SYS_TICK_BASE_LO (BitVec.allOnes 32) v) :
    s.hostWrite auth R.SYS_TICK_BASE_LO (BitVec.allOnes 32) v =
      { (if s.word R.SYS_TICK_BASE_LO = v then s else s.setWord R.SYS_TICK_BASE_LO v) with
        parity := none, lastErr := none, link := { s.link with loWait := true } } := by
  obtain ⟨b, hb, hWrite⟩ := State.hostWrite_of_admits h
  obtain rfl : Block.sys = b := Option.some.inj hb
  have hChange : s.change R.SYS_TICK_BASE_LO v =
      if s.word R.SYS_TICK_BASE_LO = v then s else s.setWord R.SYS_TICK_BASE_LO v := by
    have hBlock : State.onChange s (s.setWord R.SYS_TICK_BASE_LO v) R.SYS_TICK_BASE_LO = s.setWord R.SYS_TICK_BASE_LO v :=
      ite_self _
    rw [State.change, hBlock]
  rw [hWrite, tickBaseLo_unconditional.written_eq tickBaseLo_fieldsAt, hChange, State.hostEffect_tickBaseLo _ _ rfl]
  split <;> rfl

/-! ## DRAM words of the snapshot and lane windows (R36) -/

theorem State.setBytes_frame (l : List Byte) : ∀ (s : State) (a : Nat),
    s.setBytes a l = { s with mem := (s.setBytes a l).mem } := by
  induction l with
  | nil => exact fun _ _ => rfl
  | cons b t ih =>
    intro s a
    rw [State.setBytes, ih]
    rfl

/-- Bytes written to live pages read back. -/
theorem State.bytes_setBytes (l : List Byte) : ∀ (s : State) (a : Nat), (∀ i < l.length, s.deadPage (a + i) = false) →
    (s.setBytes a l).bytes a l.length = l := by
  induction l with
  | nil => exact fun _ _ _ => rfl
  | cons b t ih =>
    intro s a hLive
    have hHead : (s.setBytes a (b :: t)).byte a = b := by
      have := State.byte_setBytes_get (b :: t) s a 0 (Nat.zero_lt_succ _) (hLive 0 (Nat.zero_lt_succ _))
      simpa using this
    have hTail : (s.setBytes a (b :: t)).bytes (a + 1) t.length = t := by
      refine ih (s.setByte a b) (a + 1) (fun i hi => ?_)
      have := hLive (i + 1) (Nat.succ_lt_succ hi)
      rw [State.deadPage_setByte]
      rwa [Nat.add_assoc, Nat.add_comm 1 i]
    rw [List.length_cons, State.bytes, hHead, hTail]

/-- The bytes of one word lie in one page. -/
theorem State.deadPage_in_word {s : State} {a : Nat} (ha : a % 4 = 0) {i : Nat} (hi : i < 4) :
    s.deadPage (a + i) = s.deadPage a := by
  have : (a + i) / 4096 = a / 4096 := by omega
  rw [State.deadPage, State.deadPage, this]

theorem State.needsAuth_of_dram {s : State} {a : Nat} (h : 0x160000 ≤ a) (m v : Word) : s.needsAuth a m v = false := by
  have hCtrl : a ≠ H.ctrl .sec := by
    have : H.ctrl .sec = 0x140008 := rfl
    omega
  have hRec : a ≠ R.REC_CMD := by simp only [R.REC_CMD]; omega
  have hSec : a ≠ R.SEC_CMD := by simp only [R.SEC_CMD]; omega
  simp [State.needsAuth, hCtrl, hRec, hSec]

theorem State.hostWrite_dram {s : State} {auth : Bool} {a : Nat} {v : Word} (hPhase : 4 ≤ s.phaseOf)
    (hPar : s.parity ≠ some 0) (ha : a % 4 = 0) (hLo : 0x1A000000 ≤ a) (hHi : a < 0x1F000000) :
    s.hostWrite auth a (BitVec.allOnes 32) v =
      { s.setBytes a (leBytes 4 v.toNat) with parity := none, lastErr := none } := by
  have hReg : ¬ (0x10000 ≤ a ∧ a < 0x160000) := by omega
  have hDram : dramBase ≤ a ∧ a < dramEnd := by simp only [dramBase, dramEnd]; omega
  have hLate : ¬ (s.phaseOf < 4 ∨ 0x1F000000 ≤ a) := by omega
  have hMap : ¬ a < 0x1A000000 := by omega
  have hAuth := s.needsAuth_of_dram (a := a) (by omega) (BitVec.allOnes 32) v
  simp only [State.hostWrite, ha, hAuth, hPar, State.hostWord, hReg, hDram, State.dramWrite, hLate, hMap,
    mergeBits_allOnes, ne_eq, not_true, if_false, and_self, if_true, Bool.false_and, Bool.false_eq_true]
  rfl

/-! ## The clauses of O17 -/

/-- A refused write of a register word (R20, R62, R64). -/
theorem State.hostWrite_refused {s : State} {auth : Bool} {a : Nat} {m v : Word} {c : ErrCode} (ha : a % 4 = 0)
    (hAuth : (s.needsAuth a m v && !auth) = false) (hPar : s.parity ≠ some 0) (hLo : 0x10000 ≤ a) (hHi : a < 0x160000)
    (hCode : s.regCode auth a m v = some c) : s.hostWrite auth a m v =
      { (if c = .openreq then s.openNote a else s) with parity := none, lastErr := some (c, 0) } := by
  rw [State.hostWrite_of_regWrite ha hAuth hPar hLo hHi, State.regWrite_of_refused hCode]
  rfl

/-- Which bits a quiet write stores, clears and keeps (R17, R18, R21, R22, R148). -/
theorem State.written_bits (s : State) (a : Nat) (v : Word) :
    (∀ k < 32, s.bitIs a k storedCodes = true → nbit (s.boundBits a) k = false →
      (s.written a (BitVec.allOnes 32) v).getLsbD k = v.getLsbD k) ∧
    (∀ k < 32, s.bitIs a k [.w1c] = true → nbit (s.safeHolds a) k = false →
      (s.written a (BitVec.allOnes 32) v).getLsbD k = ((s.word a).getLsbD k && !v.getLsbD k)) ∧
    (∀ k < 32, (s.bitIs a k storedCodes = false ∨ nbit (s.boundBits a) k = true) →
      (s.bitIs a k [.w1c] = false ∨ nbit (s.safeHolds a) k = true) →
      (s.written a (BitVec.allOnes 32) v).getLsbD k = (s.word a).getLsbD k) := by
  refine ⟨fun k hk hIs hFree => ?_, fun k hk hIs hFree => ?_, fun k hk hStored hCleared => ?_⟩
  · have hStores : s.storesBit a k = true := by simp [State.storesBit, hIs, hFree]
    have hClears : s.bitIs a k [.w1c] = false := by
      by_contra h
      rw [State.storesBit_of_clearsBit hk (Bool.eq_true_of_not_eq_false h)] at hStores
      cases hStores
    simp only [s.getLsbD_written a v hk, hStores, State.clearsBit, hClears, if_true, Bool.false_and, Bool.not_false,
      Bool.and_true]
  · have hClears : s.clearsBit a k = true := by simp [State.clearsBit, hIs, hFree]
    simp only [s.getLsbD_written a v hk, State.storesBit_of_clearsBit hk hIs, hClears, Bool.true_and, Bool.false_eq_true,
      if_false]
  · have hStores : s.storesBit a k = false := by rcases hStored with h | h <;> simp [State.storesBit, h]
    have hClears : s.clearsBit a k = false := by rcases hCleared with h | h <;> simp [State.clearsBit, h]
    simp only [s.getLsbD_written a v hk, hStores, hClears, Bool.false_eq_true, if_false, Bool.false_and, Bool.not_false,
      Bool.and_true]

/-- A word without fields keeps its value. -/
theorem State.written_of_no_fields {s : State} {a : Nat} (hf : fieldsAt a = []) (v : Word) :
    s.written a (BitVec.allOnes 32) v = s.word a := by
  have hNone : ∀ (k : Nat) (cs : List Access), s.bitIs a k cs = false := by
    intro k cs
    have h0 : bitsWhere [] (fun f => cs.contains f.acc) = 0 := rfl
    simp only [State.bitIs, hf, h0, nbit_eq_testBit, Nat.zero_testBit, Bool.false_and]
  apply BitVec.eq_of_getLsbD_eq
  exact fun k hk => (s.written_bits a v).2.2 k hk (.inl (hNone k _)) (.inl (hNone k _))

theorem windowWord_of_eq {k : Nat} {a : Word}
    (h : k < 64 ∧ a = BitVec.ofNat 32 (R.SEC_STAGE k) ∨
      k < 8192 ∧ (a = BitVec.ofNat 32 (R.SEC_WIN k) ∨ a = BitVec.ofNat 32 (R.CFG_WIN k))) : WindowWord a.toNat := by
  have hToNat : ∀ base, base + k * 4 < 2 ^ 32 → (BitVec.ofNat 32 (base + k * 4)).toNat = base + k * 4 :=
    fun base hb => by rw [BitVec.toNat_ofNat, Nat.mod_eq_of_lt hb]
  rcases h with ⟨hk, rfl⟩ | ⟨hk, rfl | rfl⟩
  · exact ⟨⟨"SEC_STAGE", 0x143000, 64⟩, by simp [windows], k, hk, hToNat _ (by omega)⟩
  · exact ⟨⟨"SEC_WIN", 0x148000, 8192⟩, by simp [windows], k, hk, hToNat _ (by omega)⟩
  · exact ⟨⟨"CFG_WIN", 0x68000, 8192⟩, by simp [windows], k, hk, hToNat _ (by omega)⟩

/-- Settles O17, clause by clause: a refusal, the low word of the tick base, a quiet word bit by bit, a word that no map
lists, a word of a window, a DRAM word. -/
theorem refusedRegisterWriteChangesNothing : Obligations.RefusedRegisterWriteChangesNothing := by
  refine ⟨fun auth a v c s ha hAuth hPar hLo hHi hCode => ⟨fun hc => ?_, fun hc => ?_⟩, fun auth v s h => ?_,
    fun auth a v s hq h => ?_, fun auth a v s _ hf hq h => ?_, fun auth k a v s hk h => ?_,
    fun auth a v s hPhase hPar ha hLo hHi hLive => ?_⟩
  · rw [exec_registerWrite, State.hostWrite_refused ha hAuth hPar hLo hHi hCode, if_neg hc]
  · refine ⟨_, exec_registerWrite auth a v s, ?_⟩
    rw [State.hostWrite_refused ha hAuth hPar hLo hHi hCode, if_pos hc]
    refine ⟨rfl, rfl, ?_, s.openNote_regsKept a.toNat⟩
    rw [s.openNote_frame a.toNat]
  · refine ⟨_, exec_registerWrite auth _ v s, ?_⟩
    rw [show (BitVec.ofNat 32 R.SYS_TICK_BASE_LO).toNat = R.SYS_TICK_BASE_LO from rfl, State.hostWrite_tickBaseLo h]
    obtain ⟨hWord, -, hKept⟩ := s.stores_ite_setWord R.SYS_TICK_BASE_LO v
    refine ⟨hWord, ?_, hKept⟩
    split <;> rfl
  · obtain ⟨hWord, hFrame, hKept⟩ := State.hostWrite_of_quiet hq h
    obtain ⟨hStored, hCleared, hElse⟩ := s.written_bits a.toNat v
    refine ⟨_, exec_registerWrite auth a v s, ?_⟩
    rw [hWord]
    exact ⟨hStored, hCleared, hElse, hFrame, hKept⟩
  · obtain ⟨b, -, hWrite⟩ := State.hostWrite_of_admits h
    rw [exec_registerWrite, hWrite, State.hostEffect_of_quiet (w := s.wordWrite a.toNat _ v) hq,
      State.written_of_no_fields hf, State.change, if_pos rfl]
  · have hw := windowWord_of_eq hk
    obtain ⟨hWord, hFrame, hKept⟩ := State.hostWrite_of_quiet hw.quiet h
    rw [hw.unconditional.written_eq hw.fieldsAt_eq] at hWord
    exact ⟨_, exec_registerWrite auth a v s, hWord, hFrame, hKept⟩
  · refine ⟨_, exec_registerWrite auth a v s, ?_⟩
    rw [State.hostWrite_dram hPhase hPar ha hLo hHi]
    refine ⟨State.bytes_setBytes (leBytes 4 v.toNat) s a.toNat fun i hi => ?_,
      fun c hc => State.byte_setBytes_ne (leBytes 4 v.toNat) s a.toNat c hc, ?_⟩
    · rw [State.deadPage_in_word ha hi, hLive]
    · rw [State.setBytes_frame]

end Sys2Proof.Machine
end

section
/-! Fabric transfers given up: the ring index of a lane entry that is lost. -/

namespace Sys2Proof.Machine

open Sys2Proof

/-- A field reads below two to its width. -/
theorem State.get_lt (s : State) (f : Fld) : s.get f < 2 ^ f.w :=
  Nat.mod_lt _ (Nat.two_pow_pos f.w)

/-- LANE_SIZE (15 bits) may read more than the 2^14 indices that LANE_TAIL (14 bits) can hold, so that the index after the
last one does not fit the register. -/
theorem State.laneNext_over_tail {s : State} {n i : Nat} (hi : i = 2 ^ 14 - 1) (hs : 2 ^ 14 < s.laneSize n) :
    s.laneNext n i = 2 ^ 14 := by
  rw [State.laneNext, hi]
  exact Nat.mod_eq_of_lt hs

/-- An enabled lane 3 from which the SV-96 consumes, whose ring has the size 20,000 (no power of two, but within the 15
bits of LANE_SIZE) and holds an entry of TYPE 1 at index 16,383. -/
def overlongRing : State :=
  let s := ((((State.reset.put (H.enable .lane) 1).put (F.LANE_SIZE 3) 20000).put (F.LANE_TAIL_TAIL 3) 16383).put
    (F.LANE_CTRL_DIR 3) 1).put (F.LANE_CTRL_EN 3) 1
  s.setByte (s.laneSlot 3 16383 + 2) 1

theorem overlongRing_consumes : overlongRing.kind .sys = 1 ∧ overlongRing.kind .lane = 1 ∧ overlongRing.laneIn 3 = true ∧
    overlongRing.laneLevel 3 ≠ 0 ∧ overlongRing.laneType 3 (overlongRing.get (F.LANE_TAIL_TAIL 3)) ≠ 0 ∧
    overlongRing.get (F.LANE_TAIL_TAIL 3) = 2 ^ 14 - 1 ∧ 2 ^ 14 < overlongRing.laneSize 3 := by
  decide +kernel

/-- Refutes O57: the clause on a lane entry that is lost with its fabric transfer asks TAIL to read the next ring index,
which a ring of more than 2^14 entries places beyond what TAIL can hold. -/
theorem not_memoryCareErrorsScrubAndTelemetry : ¬ Obligations.MemoryCareErrorsScrubAndTelemetry := by
  unfold Obligations.MemoryCareErrorsScrubAndTelemetry
  rintro ⟨-, -, -, hFabric, -⟩
  obtain ⟨hSys, hLane, hIn, hLevel, hType, hTail, hSize⟩ := overlongRing_consumes
  obtain ⟨t, -, -, -, -, hEntry, -⟩ := hFabric (.laneEntry 3) overlongRing hSys hLane
  obtain ⟨-, -, -, -, hNext⟩ := hEntry 3 rfl
  have hRead : t.get (F.LANE_TAIL_TAIL 3) = 2 ^ 14 :=
    (hNext hIn hLevel hType).trans (State.laneNext_over_tail hTail hSize)
  exact absurd (t.get_lt (F.LANE_TAIL_TAIL 3)) (by rw [hRead]; exact Nat.lt_irrefl _)

end Sys2Proof.Machine
end

section
/-! The rules of the solenoid drive's operations: which registers and which channels each of them may change. -/

namespace Sys2Proof.Machine

open Sys2Proof

/-! ## Fields after a write of one field -/

/-- The fields share no bit: they are of different registers, or one lies above the other. -/
def Fld.apart (g f : Fld) : Prop := g.addr ≠ f.addr ∨ g.lo + g.w ≤ 32 ∧ (g.lo + g.w ≤ f.lo ∨ f.lo + f.w ≤ g.lo)

theorem State.get_put_of_apart (s : State) {g f : Fld} (v : Nat) (h : Fld.apart g f) : (s.put f v).get g = s.get g := by
  rcases h with h | ⟨hw, h⟩
  · exact s.get_put_addr v h
  · exact s.get_put_apart v hw h

theorem State.flag_put_of_apart (s : State) {g f : Fld} (v : Nat) (h : Fld.apart g f) : (s.put f v).flag g = s.flag g := by
  rw [State.flag, State.get_put_of_apart s v h, State.flag]

theorem State.flag_put_one (s : State) (a lo : Nat) (h : lo < 32) : (s.put ⟨a, lo, 1⟩ 1).flag ⟨a, lo, 1⟩ = true := by
  rw [State.flag, State.get_put_same s ⟨a, lo, 1⟩ 1 h]
  rfl

/-! ## Work along a list -/

/-- A reflexive and transitive relation that every round keeps holds from the first state to the last. -/
theorem State.each_rel {α : Type} {r : State → State → Prop} (hRefl : ∀ s, r s s)
    (hTrans : ∀ {s t u}, r s t → r t u → r s u)
    {f : State → α → State} : ∀ (l : List α) (s : State), (∀ x ∈ l, ∀ u, r s u → r u (f u x)) → r s (s.each l f)
  | [], s, _ => hRefl s
  | x :: l, s, h => by
    have hx := h x List.mem_cons_self s (hRefl s)
    exact hTrans hx (State.each_rel hRefl hTrans l (f s x) fun y hy u hu =>
      h y (List.mem_cons_of_mem x hy) u (hTrans hx hu))

/-- What round `x` brings about, and every other round keeps, holds of every `x` at the end. -/
theorem State.each_forall {α : Type} {I : State → Prop} {P : α → State → Prop} {f : State → α → State} :
    ∀ (l : List α) (s : State), I s → (∀ x ∈ l, ∀ u, I u → I (f u x) ∧ P x (f u x) ∧ ∀ y, P y u → P y (f u x)) →
      I (s.each l f) ∧ (∀ x ∈ l, P x (s.each l f)) ∧ ∀ y, P y s → P y (s.each l f)
  | [], s, hs, _ => ⟨hs, fun _ hx => (nomatch hx), fun _ hy => hy⟩
  | x :: l, s, hs, h => by
    obtain ⟨hI, hx, hKeep⟩ := h x List.mem_cons_self s hs
    obtain ⟨hIl, hl, hKeepl⟩ := State.each_forall l (f s x) hI fun y hy u hu => h y (List.mem_cons_of_mem x hy) u hu
    refine ⟨hIl, fun y hy => ?_, fun y hy => hKeepl y (hKeep y hy)⟩
    rcases List.mem_cons.mp hy with rfl | hy
    · exact hKeepl y hx
    · exact hl y hy

/-! ## What the drive leaves alone -/

/-- Words below the registers of the banks, those of GEO apart: events, sticky flags and states of the dies among them. -/
def belowBanks (a : Nat) : Prop := a < 0xC1100 ∧ a / 65536 ≠ 10

/-- From `s` to `t` the words below the banks stand, and so do the latches of the banks and the supplies. -/
structure State.Grounded (s t : State) : Prop where
  word : ∀ a, belowBanks a → t.word a = s.word a
  latch : ∀ b < 12, t.flag (F.SOL_BANK_STAT_OC b) = s.flag (F.SOL_BANK_STAT_OC b) ∧
    t.flag (F.SOL_BANK_STAT_UV b) = s.flag (F.SOL_BANK_STAT_UV b)
  pwr : t.pwr = s.pwr

/-- From `s` to `t` no solenoid channel but those of `ns` has changed, and of those neither the fault latches nor the hold
derate. -/
structure State.Drives (ns : List Nat) (s t : State) : Prop extends State.Grounded s t where
  flt : ∀ m < 96, t.word (R.SOL_CH_FLT m) = s.word (R.SOL_CH_FLT m)
  derate : ∀ m < 96, t.flag (F.SOL_CH_STAT_DERATE m) = s.flag (F.SOL_CH_STAT_DERATE m)
  stat : ∀ m < 96, m ∉ ns → t.word (R.SOL_CH_STAT m) = s.word (R.SOL_CH_STAT m)
  sol : ∀ m, m ∉ ns → t.sol.get m = s.sol.get m

namespace State.Grounded

theorem refl (s : State) : s.Grounded s := ⟨fun _ _ => rfl, fun _ _ => ⟨rfl, rfl⟩, rfl⟩

theorem trans {s t u : State} (h : s.Grounded t) (k : t.Grounded u) : s.Grounded u where
  word a ha := (k.word a ha).trans (h.word a ha)
  latch b hb := ⟨(k.latch b hb).1.trans (h.latch b hb).1, (k.latch b hb).2.trans (h.latch b hb).2⟩
  pwr := k.pwr.trans h.pwr

theorem flag {s t : State} (h : s.Grounded t) {f : Fld} (ha : belowBanks f.addr) : t.flag f = s.flag f :=
  State.flag_eq_of_word (h.word _ ha)

/-- A write above the words below the banks that spares their latches. -/
theorem put (s : State) {f : Fld} (v : Nat) (ha : ¬ belowBanks f.addr)
    (hBank : ∀ b < 12, f.addr = R.SOL_BANK_STAT b → 2 ≤ f.lo) : s.Grounded (s.put f v) where
  word a h := s.word_put_ne f v fun e => ha (e ▸ h)
  latch b hb := by
    have hApart : ∀ lo, lo < 2 → Fld.apart ⟨R.SOL_BANK_STAT b, lo, 1⟩ f := fun lo hlo => by
      by_cases e : f.addr = R.SOL_BANK_STAT b
      · exact .inr ⟨by dsimp only; omega, .inl (Nat.le_trans (by dsimp only; omega) (hBank b hb e))⟩
      · exact .inl (Ne.symm e)
    exact ⟨s.flag_put_of_apart v (hApart 0 (by decide)), s.flag_put_of_apart v (hApart 1 (by decide))⟩
  pwr := rfl

/-- A write to the fault latches of a channel. -/
theorem put_flt (s : State) (n lo w v : Nat) : s.Grounded (s.put ⟨R.SOL_CH_FLT n, lo, w⟩ v) :=
  put s v (by simp only [belowBanks, R.SOL_CH_FLT]; omega) (by simp only [R.SOL_CH_FLT, R.SOL_BANK_STAT]; omega)

/-- A write to the status of a channel. -/
theorem put_stat (s : State) (n lo w v : Nat) : s.Grounded (s.put ⟨R.SOL_CH_STAT n, lo, w⟩ v) :=
  put s v (by simp only [belowBanks, R.SOL_CH_STAT]; omega) (by simp only [R.SOL_CH_STAT, R.SOL_BANK_STAT]; omega)

end State.Grounded

namespace State.Drives

theorem refl (ns : List Nat) (s : State) : Drives ns s s :=
  ⟨.refl s, fun _ _ => rfl, fun _ _ => rfl, fun _ _ _ => rfl, fun _ _ => rfl⟩

theorem trans {ns : List Nat} {s t u : State} (h : Drives ns s t) (k : Drives ns t u) : Drives ns s u :=
  ⟨h.toGrounded.trans k.toGrounded, fun m hm => (k.flt m hm).trans (h.flt m hm),
    fun m hm => (k.derate m hm).trans (h.derate m hm), fun m hm hn => (k.stat m hm hn).trans (h.stat m hm hn),
    fun m hn => (k.sol m hn).trans (h.sol m hn)⟩

theorem mono {ns ms : List Nat} {s t : State} (h : Drives ns s t) (hSub : ns ⊆ ms) : Drives ms s t :=
  ⟨h.toGrounded, h.flt, h.derate, fun m hm hn => h.stat m hm fun e => hn (hSub e), fun m hn => h.sol m fun e => hn (hSub e)⟩

theorem each {ns : List Nat} {α : Type} {f : State → α → State} (l : List α) (s : State)
    (h : ∀ x ∈ l, ∀ u, Drives ns u (f u x)) : Drives ns s (s.each l f) :=
  State.each_rel (refl ns) trans l s fun x hx u _ => h x hx u

/-- No register and no channel is touched. -/
theorem of_parts (ns : List Nat) {s t : State} (hr : t.regs = s.regs) (hs : t.sol = s.sol) (hp : t.pwr = s.pwr) :
    Drives ns s t := by
  have hw : ∀ a, t.word a = s.word a := fun a => by rw [State.word, hr, State.word]
  exact ⟨⟨fun a _ => hw a, fun b _ => ⟨State.flag_eq_of_word (hw _), State.flag_eq_of_word (hw _)⟩, hp⟩, fun _ _ => hw _,
    fun _ _ => State.flag_eq_of_word (hw _), fun _ _ _ => hw _, fun _ _ => by rw [hs]⟩

/-- A write to a register of GEO, or of the blocks behind SOL. -/
theorem put_far (ns : List Nat) (s : State) {f : Fld} (v : Nat) (h : f.addr / 65536 = 10 ∨ 0xD0000 ≤ f.addr) :
    Drives ns s (s.put f v) := by
  refine ⟨.put s v (by simp only [belowBanks]; omega) (by simp only [R.SOL_BANK_STAT]; omega), fun m hm => ?_,
    fun m hm => s.flag_put_of_apart v (.inl ?_), fun m hm _ => ?_, fun _ _ => rfl⟩
  · exact s.word_put_ne f v (by simp only [R.SOL_CH_FLT]; omega)
  · simp only [F.SOL_CH_STAT_DERATE, R.SOL_CH_STAT]; omega
  · exact s.word_put_ne f v (by simp only [R.SOL_CH_STAT]; omega)

theorem count_far (ns : List Nat) (s : State) {f : Fld} (k : Nat) (h : f.addr / 65536 = 10 ∨ 0xD0000 ≤ f.addr) :
    Drives ns s (s.count f k) := put_far ns s _ h

theorem raise_far (ns : List Nat) (s : State) {e : Nat} (h : (evBit e).addr / 65536 = 10 ∨ 0xD0000 ≤ (evBit e).addr) :
    Drives ns s (s.raise e) := by
  unfold State.raise
  dsimp only
  split
  · exact (put_far ns s 1 h).trans (of_parts ns rfl rfl rfl)
  · exact refl ns s

/-- A write to the status of channel `n` that spares its hold derate. -/
theorem put_stat (s : State) (n lo w v : Nat) (h : lo + w ≤ 26 ∨ 27 ≤ lo) :
    Drives [n] s (s.put ⟨R.SOL_CH_STAT n, lo, w⟩ v) := by
  refine ⟨.put_stat s n lo w v, fun m hm => ?_, fun m hm => ?_, fun m hm hn => ?_, fun _ _ => rfl⟩
  · exact s.word_put_ne _ v (by simp only [R.SOL_CH_STAT, R.SOL_CH_FLT]; omega)
  · refine s.flag_put_of_apart v (.inr ⟨by simp only [F.SOL_CH_STAT_DERATE]; omega, ?_⟩)
    simp only [F.SOL_CH_STAT_DERATE]; omega
  · exact s.word_put_ne _ v (by simp only [List.mem_singleton] at hn; simp only [R.SOL_CH_STAT]; omega)

/-- A write to the measured times of channel `n`. -/
theorem put_tmeas (s : State) (n lo w v : Nat) : Drives [n] s (s.put ⟨R.SOL_CH_TMEAS n, lo, w⟩ v) := by
  refine ⟨.put s v (by simp only [belowBanks, R.SOL_CH_TMEAS]; omega) (by simp only [R.SOL_CH_TMEAS, R.SOL_BANK_STAT]; omega),
    fun m hm => ?_, fun m hm => s.flag_put_of_apart v (.inl ?_), fun m hm hn => ?_, fun _ _ => rfl⟩
  · exact s.word_put_ne _ v (by simp only [R.SOL_CH_TMEAS, R.SOL_CH_FLT]; omega)
  · simp only [F.SOL_CH_STAT_DERATE, R.SOL_CH_STAT, R.SOL_CH_TMEAS]; omega
  · exact s.word_put_ne _ v (by simp only [R.SOL_CH_TMEAS, R.SOL_CH_STAT]; omega)

/-- A write to the state of bank `b` that spares its latches. -/
theorem put_bank (ns : List Nat) (s : State) (b lo w v : Nat) (h : 2 ≤ lo) :
    Drives ns s (s.put ⟨R.SOL_BANK_STAT b, lo, w⟩ v) := by
  refine ⟨.put s v (by simp only [belowBanks, R.SOL_BANK_STAT]; omega) (fun _ _ _ => h),
    fun m hm => ?_, fun m hm => s.flag_put_of_apart v (.inl ?_), fun m hm hn => ?_, fun _ _ => rfl⟩
  · exact s.word_put_ne _ v (by simp only [R.SOL_BANK_STAT, R.SOL_CH_FLT]; omega)
  · simp only [F.SOL_CH_STAT_DERATE, R.SOL_CH_STAT, R.SOL_BANK_STAT]; omega
  · exact s.word_put_ne _ v (by simp only [R.SOL_BANK_STAT, R.SOL_CH_STAT]; omega)

theorem modSol (s : State) (n : Nat) (f : SolCh → SolCh) : Drives [n] s (s.modSol n f) :=
  ⟨⟨fun _ _ => rfl, fun _ _ => ⟨rfl, rfl⟩, rfl⟩, fun _ _ => rfl, fun _ _ => rfl, fun _ _ _ => rfl,
    fun m hn => Table.get_set_ne s.sol _ (by simpa using hn)⟩

/-! ### Stride, GEO and ARM -/

theorem crossShow (s : State) (p : Nat) : Drives [] s (s.crossShow p) := by
  have hPut : ∀ (u : State) (lo w v : Nat), p < 128 → Drives [] u (u.put ⟨R.GEO_PT_STAT p, lo, w⟩ v) := fun u lo w v hp =>
    put_far [] u v (.inl (by simp only [R.GEO_PT_STAT]; omega))
  unfold State.crossShow
  dsimp only
  split
  · exact refl [] s
  · next hp =>
    have hp : p < 128 := Nat.lt_of_not_le hp
    split
    · exact (((hPut s _ _ _ hp).trans (hPut _ _ _ _ hp)).trans (hPut _ _ _ _ hp)).trans (hPut _ _ _ _ hp)
    · exact ((hPut s _ _ _ hp).trans (hPut _ _ _ _ hp)).trans (hPut _ _ _ _ hp)

theorem geoClose (s : State) (p tk lat hyd : Nat) : Drives [] s (s.geoClose p tk lat hyd) := by
  unfold State.geoClose
  dsimp only
  split
  · exact refl [] s
  · refine trans ?_ (crossShow _ p)
    exact of_parts [] rfl rfl rfl

theorem strForcedOff (s : State) (kind inst : Nat) : Drives [] s (s.strForcedOff kind inst) :=
  each _ s fun p _ u => trans (t := u.modPt p fun x => { x with plan := 0, lastOn := false, travel := 0 })
    (of_parts [] rfl rfl rfl) (geoClose _ p _ _ _)

theorem armOpenCut (s : State) (n : Nat) : Drives [] s (s.armOpenCut n) := by
  unfold State.armOpenCut
  split
  · exact (put_far [] s 3 (.inr (by
      simp only [armRes, F.ARM_CH_STAT_OPEN_RES, R.ARM_CH_STAT, Bool.false_eq_true, if_false]; omega))).trans
      (of_parts [] rfl rfl rfl)
  · exact refl [] s

theorem armCloseCut (s : State) (n : Nat) : Drives [] s (s.armCloseCut n) := by
  unfold State.armCloseCut
  split
  · exact (put_far [] s 3 (.inr (by simp only [armRes, F.ARM_CH_STAT_CLOSE_RES, R.ARM_CH_STAT, if_true]; omega))).trans
      (of_parts [] rfl rfl rfl)
  · exact refl [] s

theorem armCut (s : State) (n : Nat) : Drives [] s (s.armCut n) := (armOpenCut s n).trans (armCloseCut _ n)

theorem armCloseWindow (s : State) (n : Nat) (skip : Bool) : Drives [] s (s.armCloseWindow n skip) := by
  unfold State.armCloseWindow
  split
  · exact of_parts [] rfl rfl rfl
  split
  · exact count_far [] s 1 (.inr (by decide))
  · exact refl [] s

/-! ### The drive -/

theorem setPhase (s : State) (n ph : Nat) : Drives [n] s (s.setPhase n ph) := by
  unfold State.setPhase
  refine (trans ?_ (modSol _ n _)).trans (put_stat _ n 0 3 ph (by decide))
  exact of_parts [n] rfl rfl rfl

theorem bankShow (ns : List Nat) (s : State) (b : Nat) : Drives ns s (s.bankShow b) :=
  (put_bank ns s b 8 3 _ (by decide)).trans (put_bank ns _ b 4 1 _ (by decide))

theorem decay (s : State) (n : Nat) (prot forced : Bool) : Drives [n] s (s.decay n prot forced) := by
  have hNil : ([] : List Nat) ⊆ [n] := List.nil_subset _
  have hSlow : Drives [n] s ((s.setPhase n 6).putB (F.SOL_CH_STAT_SLOWED n) (s.slowed n && !forced)) :=
    (setPhase s n 6).trans (put_stat _ n 24 1 _ (by decide))
  unfold State.decay
  refine Drives.trans (Drives.trans (Drives.trans (hSlow.trans ?_) (modSol _ n _)) ((armCloseWindow _ n _).mono hNil))
    (bankShow _ _ _)
  split
  · exact (strForcedOff _ 1 n).mono hNil
  · exact refl _ _

theorem trainEnd (s : State) (n : Nat) : Drives [n] s (s.trainEnd n) := modSol s n _

theorem trainCut (s : State) (n : Nat) : Drives [n] s (s.trainCut n) := by
  unfold State.trainCut
  dsimp only
  split
  · exact (trainEnd s n).trans ((strForcedOff _ 1 n).mono (List.nil_subset _))
  · exact trainEnd s n

theorem solProtect (s : State) (n : Nat) (forced : Bool) : Drives [n] s (s.solProtect n forced) := by
  have hNil : ([] : List Nat) ⊆ [n] := List.nil_subset _
  have hForced : Drives [n] s (s.put (F.SOL_CH_STAT_FORCED n) 1) := put_stat s n 27 1 1 (by decide)
  unfold State.solProtect
  dsimp only
  split
  · exact (hForced.trans (trainCut _ n)).trans (setPhase _ n 0)
  split
  · exact hForced.trans (trainCut _ n)
  · refine hForced.trans (Drives.trans (Drives.trans (Drives.trans (Drives.trans ?_ (modSol _ n _))
      ((armOpenCut _ n).mono hNil)) (decay _ n _ _)) ((strForcedOff _ 1 n).mono hNil))
    split
    · exact (put_tmeas _ n 0 16 _).trans (trainEnd _ n)
    · exact trainEnd _ n

/-- The follower of a pair counts to its leader's change. -/
theorem calFollower (s : State) (n : Nat) : Drives [n, n + 1] s (s.calFollower n) := by
  unfold State.calFollower
  split
  · exact (setPhase s (n + 1) 0).mono (by simp)
  · exact refl _ s

theorem solCurrent (s : State) (n : Nat) : Drives [n, n + 1] s (s.solCurrent n) := by
  have hOne : [n] ⊆ [n, n + 1] := by simp
  unfold State.solCurrent
  dsimp only
  split
  · exact refl _ s
  have hIlim : Drives [n, n + 1] s (s.putB (F.SOL_CH_STAT_ILIM n) (s.currentClamped n)) :=
    (put_stat s n 19 1 _ (by decide)).mono hOne
  split
  · exact hIlim.trans (Drives.trans (Drives.trans (Drives.trans (calFollower _ n) ((setPhase _ n 5).mono hOne))
      ((put_stat _ n 27 1 0 (by decide)).mono hOne)) ((modSol _ n _).mono hOne))
  split
  · exact hIlim.trans ((decay _ n false false).mono hOne)
  · exact hIlim

/-! ### The load switches -/

theorem eotWindow (s : State) (k : Nat) (closing : Bool) : Drives [] s (s.eotWindow k closing) := by
  unfold State.eotWindow
  dsimp only
  split
  · exact refl [] s
  split
  · exact put_far [] s 0 (.inr (by simp only [F.ARM_SW_STAT_ATOPEN, R.ARM_SW_STAT]; omega))
  split
  · exact count_far [] s 1 (.inr (by decide))
  · exact of_parts [] rfl rfl rfl

/-- A write to the status of switch `k`. -/
theorem put_hswStat (s : State) (k lo w v : Nat) : Drives [] s (s.put ⟨R.HSW_CH_STAT k, lo, w⟩ v) :=
  put_far [] s v (.inr (by simp only [R.HSW_CH_STAT]; omega))

theorem modHsw (s : State) (k : Nat) (f : HswCh → HswCh) : Drives [] s (s.modHsw k f) := of_parts [] rfl rfl rfl

theorem hswClamp (s : State) (k e : Nat) : Drives [] s (s.hswClamp k e) := by
  have hClamp : ∀ (u : State) (lo w v : Nat), Drives [] u (u.put ⟨R.HSW_CH_CLAMP k, lo, w⟩ v) := fun u _ _ v =>
    put_far [] u v (.inr (by simp only [R.HSW_CH_CLAMP]; omega))
  have hSums : ∀ f a b, Drives [] s (((s.modHsw k f).putSat (F.HSW_CH_CLAMP_LAST k) a).putSat (F.HSW_CH_CLAMP_SUM k) b) :=
    fun f _ _ => ((modHsw s k f).trans (hClamp _ _ _ _)).trans (hClamp _ _ _ _)
  unfold State.hswClamp
  dsimp only
  split
  · refine (((hSums _ _ _).trans (put_far [] _ 1 (.inr ?_))).trans (raise_far [] _ (.inr (by decide)))).trans
      (put_far [] _ 1 (.inr (by decide)))
    simp only [F.HSW_CH_FLT_CLAMP, R.HSW_CH_FLT]; omega
  · exact hSums _ _ _

theorem hswTurnOff (s : State) (k e : Nat) : Drives [] s (s.hswTurnOff k e) := by
  have hOff : Drives [] s (s.hswOutOff k e) := by
    have hPuts : Drives [] s (((s.put (F.HSW_CH_STAT_ON k) 0).put (F.HSW_CH_STAT_INRUSH k) 0).put (F.HSW_CH_STAT_DIPHOLD k) 0) :=
      ((put_hswStat s k _ _ 0).trans (put_hswStat _ k _ _ 0)).trans (put_hswStat _ k _ _ 0)
    exact (hPuts.trans (modHsw _ k _)).trans (hswClamp _ k e)
  unfold State.hswTurnOff
  split
  · exact hOff.trans (eotWindow _ k true)
  split
  · exact eotWindow s k true
  · exact refl [] s

theorem hswTurnOffAny (s : State) (k : Nat) : Drives [] s (s.hswTurnOffAny k) := by
  unfold State.hswTurnOffAny
  split
  · have hFree : Drives [] s (s.free 16).2 := of_parts [] rfl rfl rfl
    exact hFree.trans (hswTurnOff _ k (s.free 16).1)
  · exact hswTurnOff s k 0

theorem hswProtect (s : State) (k : Nat) (e : Option Nat) : Drives [] s (s.hswProtect k e) := by
  have hRest : ∀ u : State, Drives [] u (((u.hswUncommand k).put (F.HSW_CH_STAT_FORCED k) 1).put (F.HSW_CH_STAT_HELD k) 0) := by
    intro u
    have hUncommand : Drives [] u (u.hswUncommand k) :=
      trans (t := u.put (F.HSW_CH_STAT_STRETCH k) 0) (put_hswStat u k _ _ 0) (modHsw _ k _)
    exact (hUncommand.trans (put_hswStat _ k _ _ 1)).trans (put_hswStat _ k _ _ 0)
  have hOff : Drives [] s (match e with | some e => s.hswTurnOff k e | none => s.hswTurnOffAny k) := by
    cases e with
    | some e => exact hswTurnOff s k e
    | none => exact hswTurnOffAny s k
  unfold State.hswProtect
  dsimp only
  split
  · exact (hOff.trans (hRest _)).trans (strForcedOff _ 2 k)
  · exact hOff.trans (hRest _)

theorem hswForceOff (s : State) (d : Nat) : Drives [] s (s.hswForceOff d) :=
  each _ s fun k _ u => by
    show Drives [] u (if u.limped k then u else u.hswProtect k none)
    split
    · exact refl [] u
    · exact hswProtect u k none

end State.Drives

/-! ## The phase that an operation leaves -/

theorem State.phase_put_stat (s : State) (n lo w v : Nat) (h : 3 ≤ lo) :
    (s.put ⟨R.SOL_CH_STAT n, lo, w⟩ v).phase n = s.phase n :=
  s.get_put_of_apart v (.inr ⟨by simp only [F.SOL_CH_STAT_PHASE]; decide, .inl h⟩)

theorem State.phase_setPhase (s : State) (n ph : Nat) (h : ph < 8) : (s.setPhase n ph).phase n = ph := by
  have hField : (F.SOL_CH_STAT_PHASE n).lo + (F.SOL_CH_STAT_PHASE n).w ≤ 32 := by simp only [F.SOL_CH_STAT_PHASE]; decide
  rw [State.setPhase, State.phase, State.get_put_same _ _ _ hField]
  exact Nat.mod_eq_of_lt h

theorem State.flag_setPhase (s : State) (n ph lo : Nat) (hLo : 3 ≤ lo) (hHi : lo < 32) :
    (s.setPhase n ph).flag ⟨R.SOL_CH_STAT n, lo, 1⟩ = s.flag ⟨R.SOL_CH_STAT n, lo, 1⟩ :=
  State.flag_put_of_apart _ ph (.inr ⟨hHi, .inr hLo⟩)

end Sys2Proof.Machine
end

section
/-! Channels that protection or a safe state switches off, one by one and by banks and dies. -/

namespace Sys2Proof.Machine

open Sys2Proof

/-! ## What carries over to channels that an operation leaves alone -/

theorem State.Drives.flag_flt {ns : List Nat} {s t : State} (h : s.Drives ns t) {n : Nat} (hn : n < 96) (k : Nat) :
    t.flag ⟨R.SOL_CH_FLT n, k, 1⟩ = s.flag ⟨R.SOL_CH_FLT n, k, 1⟩ :=
  State.flag_eq_of_word (h.flt n hn)

/-- The channel is off or decays, forced, and runs no train. -/
structure State.OffForced (s : State) (n : Nat) : Prop where
  phase : s.phase n = 0 ∨ s.phase n = 6
  forced : s.flag (F.SOL_CH_STAT_FORCED n) = true
  train : (s.sol.get n).train = false

theorem State.OffForced.of_drives {ns : List Nat} {s t : State} {n : Nat} (hOff : s.OffForced n) (h : s.Drives ns t)
    (hn : n < 96) (hns : n ∉ ns) : t.OffForced n where
  phase := by rw [State.phase, State.get_eq_of_word (h.stat n hn hns)]; exact hOff.phase
  forced := (State.flag_eq_of_word (h.stat n hn hns)).trans hOff.forced
  train := by rw [h.sol n hns]; exact hOff.train

/-! ## One channel -/

@[simp] theorem State.word_modSol (s : State) (n : Nat) (f : SolCh → SolCh) (a : Nat) : (s.modSol n f).word a = s.word a := rfl

@[simp] theorem State.flag_modSol (s : State) (n : Nat) (f : SolCh → SolCh) (g : Fld) : (s.modSol n f).flag g = s.flag g := rfl

theorem State.modSol_get_same (s : State) (n : Nat) (f : SolCh → SolCh) : (s.modSol n f).sol.get n = f (s.sol.get n) :=
  Table.get_modify_same s.sol n f

theorem State.train_setPhase (s : State) (n ph : Nat) : ((s.setPhase n ph).sol.get n).train = (s.sol.get n).train := by
  simp [State.setPhase]

theorem State.train_trainEnd (s : State) (n : Nat) : ((s.trainEnd n).sol.get n).train = false := by
  rw [State.trainEnd, State.modSol_get_same]

/-- A cut train leaves the status of its channel. -/
theorem State.trainCut_leaves (s : State) {n : Nat} (hn : n < 96) :
    (s.trainCut n).word (R.SOL_CH_STAT n) = s.word (R.SOL_CH_STAT n) ∧ ((s.trainCut n).sol.get n).train = false := by
  have h := Drives.strForcedOff (s.trainEnd n) 1 n
  unfold State.trainCut
  dsimp only
  split
  · exact ⟨h.stat n hn (by simp), by rw [h.sol n (by simp), State.train_trainEnd]⟩
  · exact ⟨rfl, s.train_trainEnd n⟩

/-- A decay leaves of the status of its channel what the entry into DECAY and SLOWED leave. -/
theorem State.word_decay_stat (s : State) {n : Nat} (hn : n < 96) (prot forced : Bool) :
    (s.decay n prot forced).word (R.SOL_CH_STAT n) =
      ((s.setPhase n 6).putB (F.SOL_CH_STAT_SLOWED n) (s.slowed n && !forced)).word (R.SOL_CH_STAT n) := by
  unfold State.decay
  dsimp only
  rw [(Drives.bankShow [] _ _).stat n hn (by simp), (Drives.armCloseWindow _ _ _).stat n hn (by simp), State.word_modSol]
  split
  · exact (Drives.strForcedOff _ 1 n).stat n hn (by simp)
  · rfl

theorem State.phase_decay (s : State) {n : Nat} (hn : n < 96) (prot forced : Bool) : (s.decay n prot forced).phase n = 6 := by
  rw [State.phase, State.get_eq_of_word (s.word_decay_stat hn prot forced), ← State.phase, State.putB]
  exact (State.phase_put_stat _ n 24 1 _ (by decide)).trans (s.phase_setPhase n 6 (by decide))

theorem State.forced_decay (s : State) {n : Nat} (hn : n < 96) (prot forced : Bool) :
    (s.decay n prot forced).flag (F.SOL_CH_STAT_FORCED n) = s.flag (F.SOL_CH_STAT_FORCED n) := by
  rw [State.flag_eq_of_word (s.word_decay_stat hn prot forced), State.putB,
    State.flag_put_of_apart _ _ (.inr ⟨by simp only [F.SOL_CH_STAT_FORCED]; decide, .inr (by
      simp only [F.SOL_CH_STAT_FORCED, F.SOL_CH_STAT_SLOWED]; decide)⟩)]
  exact s.flag_setPhase n 6 27 (by decide) (by decide)

theorem State.train_decay (s : State) (n : Nat) (prot forced : Bool) :
    ((s.decay n prot forced).sol.get n).train = (s.sol.get n).train := by
  unfold State.decay
  dsimp only
  rw [(Drives.bankShow [] _ _).sol n (by simp), (Drives.armCloseWindow _ _ _).sol n (by simp), State.modSol_sol,
    Table.get_modify_same]
  split
  · rw [(Drives.strForcedOff _ 1 n).sol n (by simp)]
    exact s.train_setPhase n 6
  · exact s.train_setPhase n 6

/-- Protection leaves its channel off or in DECAY (R394, R395). -/
theorem State.solProtect_offForced (s : State) {n : Nat} (hn : n < 96) (forced : Bool) : (s.solProtect n forced).OffForced n := by
  have hOn : (s.put (F.SOL_CH_STAT_FORCED n) 1).flag (F.SOL_CH_STAT_FORCED n) = true := s.flag_put_one _ 27 (by decide)
  have hPhase : (s.put (F.SOL_CH_STAT_FORCED n) 1).phase n = s.phase n := s.phase_put_stat n 27 1 1 (by decide)
  obtain ⟨hStat, hTrain⟩ := (s.put (F.SOL_CH_STAT_FORCED n) 1).trainCut_leaves hn
  unfold State.solProtect
  dsimp only
  split
  · refine ⟨.inl (State.phase_setPhase _ n 0 (by decide)), ?_, (State.train_setPhase _ n 0).trans hTrain⟩
    exact ((State.flag_setPhase _ n 0 27 (by decide) (by decide)).trans (State.flag_eq_of_word hStat)).trans hOn
  split
  · next hOff =>
    refine ⟨?_, (State.flag_eq_of_word hStat).trans hOn, hTrain⟩
    rw [State.phase, State.get_eq_of_word hStat, ← State.phase, hPhase]
    exact hOff
  · refine State.OffForced.of_drives ?_ (Drives.strForcedOff _ 1 n) hn (by simp)
    refine ⟨.inr (State.phase_decay _ hn _ _), ?_, ?_⟩
    · rw [State.forced_decay _ hn, State.flag_eq_of_word ((Drives.armOpenCut _ n).stat n hn (by simp)), State.flag_modSol,
        State.trainEnd, State.flag_modSol]
      split
      · refine (State.flag_put_of_apart _ _ (.inl ?_)).trans hOn
        simp only [F.SOL_CH_STAT_FORCED, F.SOL_CH_TMEAS_BOOST, R.SOL_CH_STAT, R.SOL_CH_TMEAS]; omega
      · exact hOn
    · rw [State.train_decay, (Drives.armOpenCut _ n).sol n (by simp), State.modSol_sol, Table.get_modify_same]
      exact State.train_trainEnd _ n

/-! ## Many channels -/

/-- Channel `n` goes off under a protection that latches bit `k` of its faults. -/
def State.latchOff (k : Nat) (s : State) (n : Nat) : State := (s.put ⟨R.SOL_CH_FLT n, k, 1⟩ 1).solProtect n

/-- The channel is off so. -/
def State.LatchedOff (k n : Nat) (s : State) : Prop := s.flag ⟨R.SOL_CH_FLT n, k, 1⟩ = true ∧ s.OffForced n

theorem State.latchOff_grounded (k : Nat) (s : State) (n : Nat) : s.Grounded (s.latchOff k n) :=
  (State.Grounded.put_flt s n k 1 1).trans (Drives.solProtect _ n false).toGrounded

theorem State.latchOff_latched {k : Nat} (hk : k < 32) (s : State) {n : Nat} (hn : n < 96) : (s.latchOff k n).LatchedOff k n := by
  refine ⟨?_, State.solProtect_offForced _ hn false⟩
  rw [State.latchOff, (Drives.solProtect _ n false).flag_flt hn]
  exact s.flag_put_one _ k hk

theorem State.LatchedOff.latchOff {k m n : Nat} (hk : k < 32) {s : State} (hm : m < 96) (h : s.LatchedOff k m) :
    (s.latchOff k n).LatchedOff k m := by
  by_cases e : m = n
  · exact e ▸ s.latchOff_latched hk hm
  obtain ⟨hFlag, hOff⟩ := h
  have hDrives := Drives.solProtect (s.put ⟨R.SOL_CH_FLT n, k, 1⟩ 1) n false
  have hNot : m ∉ [n] := by simpa using e
  refine ⟨?_, State.OffForced.of_drives ?_ hDrives hm hNot⟩
  · rw [State.latchOff, hDrives.flag_flt hm, State.flag_put_of_apart s 1 (.inl (by simp only [R.SOL_CH_FLT]; omega))]
    exact hFlag
  · have hWord : (s.put ⟨R.SOL_CH_FLT n, k, 1⟩ 1).word (R.SOL_CH_STAT m) = s.word (R.SOL_CH_STAT m) :=
      s.word_put_ne _ 1 (by simp only [R.SOL_CH_FLT, R.SOL_CH_STAT]; omega)
    exact ⟨by rw [State.phase, State.get_eq_of_word hWord]; exact hOff.phase, (State.flag_eq_of_word hWord).trans hOff.forced,
      hOff.train⟩

/-- All channels of a list go off under a protection that latches a fault. -/
theorem State.each_latchOff {k : Nat} (hk : k < 32) (s : State) (l : List Nat) (hl : ∀ n ∈ l, n < 96) :
    s.Grounded (s.each l (State.latchOff k)) ∧ ∀ n ∈ l, (s.each l (State.latchOff k)).LatchedOff k n := by
  obtain ⟨hGround, hAll, -⟩ := State.each_forall (I := s.Grounded) (P := fun n u => n < 96 → u.LatchedOff k n)
    (f := State.latchOff k) l s (.refl s) fun n _ u hu =>
      ⟨hu.trans (u.latchOff_grounded k n), u.latchOff_latched hk, fun _ hm hLt => (hm hLt).latchOff hk hLt⟩
  exact ⟨hGround, fun n hn => hAll n hn (hl n hn)⟩

theorem lt_of_mem_dieChannels {d n : Nat} (hd : d < 2) (h : n ∈ dieChannels d) : n < 96 ∧ dieOf n = d := by
  simp only [dieChannels, List.mem_map, List.mem_range] at h
  obtain ⟨i, hi, rfl⟩ := h
  simp only [dieOf]
  omega

theorem lt_of_mem_bankChannels {b n : Nat} (hb : b < 12) (h : n ∈ bankChannels b) : n < 96 := by
  simp only [bankChannels, List.mem_map, List.mem_range] at h
  omega

/-- The safe states force every channel of a die off (R395). -/
theorem State.solForceOff_all (s : State) {d : Nat} (hd : d < 2) :
    s.Grounded (s.solForceOff d) ∧ ∀ n ∈ dieChannels d, (s.solForceOff d).OffForced n := by
  obtain ⟨hGround, hAll, -⟩ := State.each_forall (I := s.Grounded) (P := fun n u => n < 96 → u.OffForced n)
    (f := fun u n => u.solProtect n true) (dieChannels d) s (.refl s) fun n _ u hu =>
      ⟨hu.trans (Drives.solProtect u n true).toGrounded, fun hn => u.solProtect_offForced hn true, fun m hm hLt => by
        by_cases e : m = n
        · exact e ▸ u.solProtect_offForced hLt true
        · exact (hm hLt).of_drives (Drives.solProtect u n true) hLt (by simpa using e)⟩
  exact ⟨hGround, fun n hn => hAll n hn (lt_of_mem_dieChannels hd hn).1⟩

end Sys2Proof.Machine
end

section
/-! Events, counters and block kinds as the drive's faults meet them. -/

namespace Sys2Proof.Machine

open Sys2Proof

/-! ## Counters -/

theorem State.get_count_same (s : State) (f : Fld) (k : Nat) (h : f.lo + f.w ≤ 32) :
    (s.count f k).get f = min (s.get f + k) (2 ^ f.w - 1) := by
  rw [State.count, State.putSat, State.get_put_same s f _ h]
  have := Nat.two_pow_pos f.w
  exact Nat.mod_eq_of_lt (by omega)

/-! ## What a block's kind reads -/

theorem State.kind_congr {s t : State} (hPers : t.word R.CFG_PERSONALITY = s.word R.CFG_PERSONALITY)
    (hSafe : t.word R.CFG_FTG_STATE = s.word R.CFG_FTG_STATE) (hFailed : t.failed = s.failed) (b : Block) :
    t.kind b = s.kind b := by
  have hP : t.pers = s.pers := State.get_eq_of_word hPers
  have hS : t.safe = s.safe := State.flag_eq_of_word hSafe
  unfold State.kind State.absentBlock State.heldBlock
  rw [hP, hS, hFailed]

theorem State.kind_put (s : State) {f : Fld} (v : Nat) (hPers : f.addr ≠ R.CFG_PERSONALITY) (hSafe : f.addr ≠ R.CFG_FTG_STATE)
    (b : Block) : (s.put f v).kind b = s.kind b :=
  State.kind_congr (s.word_put_ne f v hPers.symm) (s.word_put_ne f v hSafe.symm) rfl b

/-- A register of SOL tells no block's kind. -/
theorem State.kind_put_sol (s : State) {f : Fld} (v : Nat) (h : 0xC0000 ≤ f.addr) (b : Block) : (s.put f v).kind b = s.kind b :=
  s.kind_put v (by simp only [R.CFG_PERSONALITY]; omega) (by simp only [R.CFG_FTG_STATE]; omega) b

/-! ## Events of the dies -/

theorem State.raise_of_kind {s : State} {e : Nat} (h : s.kind (evOwner e) = 1) :
    s.raise e = { s.put (evBit e) 1 with occ := s.occ ++ [(e, s.tag)] } := by
  unfold State.raise
  simp [h]

/-- An event of a present block leaves fields of other registers. -/
theorem State.flag_raise_ne (s : State) (e : Nat) {f : Fld} (h : f.addr ≠ (evBit e).addr) : (s.raise e).flag f = s.flag f :=
  State.flag_eq_of_word (s.word_raise_ne e h)

theorem State.get_raise_ne (s : State) (e : Nat) {f : Fld} (h : f.addr ≠ (evBit e).addr) : (s.raise e).get f = s.get f :=
  State.get_eq_of_word (s.word_raise_ne e h)

/-- The events of both dies belong to SOL and stand in its header and in SOL_EVT_HI (R99, R399). -/
theorem dieEvent_place : ∀ d < 2, ∀ k < 16, evOwner (dieEvent d k) = .sol ∧
    ((evBit (dieEvent d k)).addr = 0xC0010 ∨ (evBit (dieEvent d k)).addr = 0xC0024) := by
  decide

theorem evBit_bit (e : Nat) : (evBit e).lo < 16 ∧ (evBit e).w = 1 := by
  unfold evBit
  split <;> exact ⟨Nat.mod_lt e (by decide), rfl⟩

/-- An event clears no pending bit. -/
theorem State.flag_raise_of_flag {s : State} {e : Nat} (f : Nat) (h : s.flag (evBit e) = true) :
    (s.raise f).flag (evBit e) = true := by
  obtain ⟨hLo, hW⟩ := evBit_bit e
  obtain ⟨hLo', hW'⟩ := evBit_bit f
  have hPut : (s.put (evBit f) 1).flag (evBit e) = true := by
    by_cases hApart : Fld.apart (evBit e) (evBit f)
    · exact (s.flag_put_of_apart 1 hApart).trans h
    · simp only [Fld.apart, not_or, not_not, hW, hW'] at hApart
      have hEq : evBit e = evBit f := by
        cases he : evBit e
        cases hf : evBit f
        simp only [he, hf, Fld.mk.injEq] at *
        omega
      rw [hEq, State.flag, State.get_put_same s _ 1 (by omega), hW']
      rfl
  unfold State.raise
  dsimp only
  split
  · exact hPut
  · exact h

/-! ## The boost supply's limits (R367) -/

/-- A limit of the boost supply of die `d` is passed: bit `lo` of its status, a counter, and event `k` of the die. -/
def State.dieLimit (s : State) (d lo cnt k : Nat) : State :=
  ((s.put ⟨R.SOL_DIE_STAT d, lo, 1⟩ 1).count ⟨R.SOL_DIE_CNT d, cnt, 16⟩ 1).raise (dieEvent d k)

theorem State.dieLimit_effect {s : State} {d lo cnt k : Nat} (hd : d < 2) (hlo : lo < 32) (hcnt : cnt ≤ 16) (hk : k < 16)
    (hKind : s.kind .sol = 1) :
    (s.dieLimit d lo cnt k).flag ⟨R.SOL_DIE_STAT d, lo, 1⟩ = true ∧ s.occurred (s.dieLimit d lo cnt k) (dieEvent d k) ∧
    (s.dieLimit d lo cnt k).get ⟨R.SOL_DIE_CNT d, cnt, 16⟩ = min (s.get ⟨R.SOL_DIE_CNT d, cnt, 16⟩ + 1) 0xFFFF ∧
    s.dieLimit d lo cnt k = { s with regs := (s.dieLimit d lo cnt k).regs, occ := (s.dieLimit d lo cnt k).occ } ∧
    s.regsKept (s.dieLimit d lo cnt k) [R.SOL_DIE_STAT d, R.SOL_DIE_CNT d, (evBit (dieEvent d k)).addr] := by
  obtain ⟨hOwner, hAddr⟩ := dieEvent_place d hd k hk
  have hKind2 : ((s.put ⟨R.SOL_DIE_STAT d, lo, 1⟩ 1).count ⟨R.SOL_DIE_CNT d, cnt, 16⟩ 1).kind (evOwner (dieEvent d k)) = 1 := by
    rw [hOwner, State.count, State.putSat, State.kind_put_sol _ _ (by simp only [R.SOL_DIE_CNT]; omega),
      State.kind_put_sol _ _ (by simp only [R.SOL_DIE_STAT]; omega), hKind]
  have hCnt : Fld.apart ⟨R.SOL_DIE_STAT d, lo, 1⟩ ⟨R.SOL_DIE_CNT d, cnt, 16⟩ :=
    .inl (by simp only [R.SOL_DIE_STAT, R.SOL_DIE_CNT]; omega)
  refine ⟨?_, ⟨State.flag_raise _ _ hKind2, ?_⟩, ?_, ?_, fun a ha => ?_⟩
  · rw [State.dieLimit, State.flag_raise_ne _ _ (by simp only [R.SOL_DIE_STAT]; omega), State.count, State.putSat,
      State.flag_put_of_apart _ _ hCnt]
    exact s.flag_put_one _ lo hlo
  · rw [State.dieLimit, State.raise_of_kind hKind2]
    rfl
  · rw [State.dieLimit, State.get_raise_ne _ _ (by simp only [R.SOL_DIE_CNT]; omega),
      State.get_count_same _ ⟨R.SOL_DIE_CNT d, cnt, 16⟩ 1 (by dsimp only; omega),
      State.get_put_addr _ _ (by simp only [R.SOL_DIE_STAT, R.SOL_DIE_CNT]; omega)]
    rfl
  · exact State.raise_changes _ _
  · simp only [List.mem_cons, List.not_mem_nil, or_false, not_or] at ha
    obtain ⟨hStat, hCount, hEvt⟩ := ha
    rw [State.dieLimit, State.word_raise_ne _ _ hEvt, State.count, State.putSat, State.word_put_ne _ _ _ hCount,
      State.word_put_ne _ _ _ hStat]

theorem exec_boostOv {s : State} {d : Fin 2} (hKind : s.kind .sol = 1) (hHere : s.dieHere d.val = true)
    (hOv : s.flag (F.SOL_DIE_STAT_OV d.val) = false) : exec (.boostOv d) s = .next (s.dieLimit d.val 5 0 8) := by
  show execBoostOv d s = _
  rw [execBoostOv, State.present, hKind, hHere, hOv]
  rfl

/-- Where ARM runs, the target that stands at VSET stays, and its hold begins anew (R424). -/
theorem State.adaptUv_of_target {s : State} {d : Nat} (h : s.get (F.SOL_DIE_VB_TGT d) = s.get (F.SOL_DIE_BOOST_VSET d)) :
    s.adaptUv d = { s with armDie := (s.adaptUv d).armDie } := by
  unfold State.adaptUv
  split
  · rw [State.adaptReset, State.setTarget, if_pos h]
    rfl
  · rfl

theorem exec_boostUv {s : State} {d : Fin 2} (hKind : s.kind .sol = 1) (hHere : s.dieHere d.val = true)
    (hUv : s.flag (F.SOL_DIE_STAT_UV d.val) = false) :
    exec (.boostUv d) s = .next ((s.dieLimit d.val 4 16 7).adaptUv d.val) := by
  show execBoostUv d s = _
  rw [execBoostUv, State.present, hKind, hHere, hUv]
  rfl

/-- The clause on over-voltage. -/
theorem boostOv_effect (d : Fin 2) (s : State) (hKind : s.kind .sol = 1) (hHere : s.dieHere d.val = true)
    (hOv : s.flag (F.SOL_DIE_STAT_OV d.val) = false) :
    ∃ t, exec (.boostOv d) s = .next t ∧ t.flag (F.SOL_DIE_STAT_OV d.val) = true ∧ s.occurred t (136 + 16 * d.val) ∧
      t.get (F.SOL_DIE_CNT_OV d.val) = min (s.get (F.SOL_DIE_CNT_OV d.val) + 1) 0xFFFF ∧
      t = { s with regs := t.regs, occ := t.occ } ∧
      s.regsKept t [R.SOL_DIE_STAT d.val, R.SOL_DIE_CNT d.val, (evBit (136 + 16 * d.val)).addr] := by
  have hEvent : dieEvent d.val 8 = 136 + 16 * d.val := by simp only [dieEvent]; omega
  obtain ⟨hFlag, hOcc, hCount, hFrame, hKept⟩ :=
    State.dieLimit_effect (lo := 5) (cnt := 0) (k := 8) d.isLt (by decide) (by decide) (by decide) hKind
  rw [hEvent] at hOcc hKept
  exact ⟨_, exec_boostOv hKind hHere hOv, hFlag, hOcc, hCount, hFrame, hKept⟩

/-- The clause on under-voltage. -/
theorem boostUv_effect (d : Fin 2) (s : State) (hKind : s.kind .sol = 1) (hHere : s.dieHere d.val = true)
    (hUv : s.flag (F.SOL_DIE_STAT_UV d.val) = false)
    (hTarget : s.get (F.SOL_DIE_VB_TGT d.val) = s.get (F.SOL_DIE_BOOST_VSET d.val)) :
    ∃ t, exec (.boostUv d) s = .next t ∧ t.flag (F.SOL_DIE_STAT_UV d.val) = true ∧ s.occurred t (135 + 16 * d.val) ∧
      t.get (F.SOL_DIE_CNT_UV d.val) = min (s.get (F.SOL_DIE_CNT_UV d.val) + 1) 0xFFFF ∧
      t = { s with regs := t.regs, occ := t.occ, armDie := t.armDie } ∧
      s.regsKept t [R.SOL_DIE_STAT d.val, R.SOL_DIE_CNT d.val, (evBit (135 + 16 * d.val)).addr] := by
  have hEvent : dieEvent d.val 7 = 135 + 16 * d.val := by simp only [dieEvent]; omega
  obtain ⟨hFlag, ⟨hPending, hOcc⟩, hCount, hFrame, hKept⟩ :=
    State.dieLimit_effect (lo := 4) (cnt := 16) (k := 7) d.isLt (by decide) (by decide) (by decide) hKind
  have hPlace := (dieEvent_place d.val d.isLt 7 (by decide)).2
  have hTgt : (s.dieLimit d.val 4 16 7).word (R.SOL_DIE_VB d.val) = s.word (R.SOL_DIE_VB d.val) :=
    hKept _ (by simp only [List.mem_cons, List.not_mem_nil, or_false, R.SOL_DIE_VB, R.SOL_DIE_STAT, R.SOL_DIE_CNT]; omega)
  have hSet : (s.dieLimit d.val 4 16 7).word (R.SOL_DIE_BOOST d.val) = s.word (R.SOL_DIE_BOOST d.val) :=
    hKept _ (by simp only [List.mem_cons, List.not_mem_nil, or_false, R.SOL_DIE_BOOST, R.SOL_DIE_STAT, R.SOL_DIE_CNT]; omega)
  have hAdapt := State.adaptUv_of_target (s := s.dieLimit d.val 4 16 7) (d := d.val)
    ((State.get_eq_of_word hTgt).trans (hTarget.trans (State.get_eq_of_word hSet).symm))
  rw [hEvent] at hPending hOcc hKept
  refine ⟨_, exec_boostUv hKind hHere hUv, ?_⟩
  rw [hAdapt]
  exact ⟨hFlag, ⟨hPending, hOcc⟩, hCount, by rw [hFrame], hKept⟩

end Sys2Proof.Machine
end

section
/-! Banks, overheated dies and dies without a link: every channel of them goes off. -/

namespace Sys2Proof.Machine

open Sys2Proof

/-! ## Banks (R368) -/

theorem State.bankProtect_eq (s : State) (b : Nat) :
    s.bankProtect b = (s.raise (dieEvent (b / 6) (1 + b % 6))).each (bankChannels b) (State.latchOff 3) := rfl

theorem State.raise_die_grounded (s : State) {d k : Nat} (hd : d < 2) (hk : k < 16) {b : Nat} (hb : b < 12) :
    (s.raise (dieEvent d k)).word (R.SOL_BANK_STAT b) = s.word (R.SOL_BANK_STAT b) := by
  have := (dieEvent_place d hd k hk).2
  exact s.word_raise_ne _ (by simp only [R.SOL_BANK_STAT]; omega)

/-- A bank goes off: its latches stand, its event is pending, and each of its channels is off with the latch of its bank. -/
theorem State.bankProtect_effect {s : State} {b : Nat} (hb : b < 12) (hKind : s.kind .sol = 1) :
    (s.bankProtect b).flag (F.SOL_BANK_STAT_OC b) = s.flag (F.SOL_BANK_STAT_OC b) ∧
    (s.bankProtect b).flag (F.SOL_BANK_STAT_UV b) = s.flag (F.SOL_BANK_STAT_UV b) ∧
    (s.bankProtect b).flag (evBit (dieEvent (b / 6) (1 + b % 6))) = true ∧
    ∀ n ∈ bankChannels b, (s.bankProtect b).LatchedOff 3 n := by
  have hd : b / 6 < 2 := by omega
  have hk : 1 + b % 6 < 16 := by omega
  obtain ⟨hOwner, hPlace⟩ := dieEvent_place (b / 6) hd _ hk
  obtain ⟨hGround, hAll⟩ := State.each_latchOff (k := 3) (by decide) (s.raise (dieEvent (b / 6) (1 + b % 6)))
    (bankChannels b) (fun _ => lt_of_mem_bankChannels hb)
  have hStat := s.raise_die_grounded hd hk hb
  obtain ⟨hOc, hUv⟩ := hGround.latch b hb
  rw [← State.bankProtect_eq] at hGround hAll hOc hUv
  refine ⟨hOc.trans (State.flag_eq_of_word hStat), hUv.trans (State.flag_eq_of_word hStat), ?_, hAll⟩
  rw [hGround.flag (by simp only [belowBanks]; omega)]
  exact s.flag_raise _ (by rw [hOwner]; exact hKind)

/-- The clause on overcurrent and under-voltage of a bank. -/
theorem bankFault_effect (b : Fin 12) (uv : Bool) (s : State) (hKind : s.kind .sol = 1) (hHere : s.bankHere b.val = true)
    (hClear : s.flag (if uv then F.SOL_BANK_STAT_UV b.val else F.SOL_BANK_STAT_OC b.val) = false)
    (hAny : uv = true → (bankChannels b.val).any s.solEnabled = true) :
    ∃ t, exec (if uv then .bankUv b else .bankOvercurrent b) s = .next t ∧
      t.flag (if uv then F.SOL_BANK_STAT_UV b.val else F.SOL_BANK_STAT_OC b.val) = true ∧
      t.flag (evBit (129 + 16 * (b.val / 6) + b.val % 6)) = true ∧
      ∀ n ∈ bankChannels b.val, t.flag (F.SOL_CH_FLT_BANK n) = true ∧ (t.phase n = 0 ∨ t.phase n = 6) ∧
        t.flag (F.SOL_CH_STAT_FORCED n) = true ∧ (t.sol.get n).train = false := by
  have hEvent : 129 + 16 * (b.val / 6) + b.val % 6 = dieEvent (b.val / 6) (1 + b.val % 6) := by simp only [dieEvent]; omega
  have hEffect : ∀ lo, lo < 2 → (s.put ⟨R.SOL_BANK_STAT b.val, lo, 1⟩ 1).kind .sol = 1 := fun lo _ =>
    (s.kind_put_sol 1 (by simp only [R.SOL_BANK_STAT]; omega) .sol).trans hKind
  rw [hEvent]
  cases uv with
  | false =>
    obtain ⟨hOc, -, hPending, hAll⟩ := State.bankProtect_effect b.isLt (hEffect 0 (by decide))
    refine ⟨(s.put (F.SOL_BANK_STAT_OC b.val) 1).bankProtect b.val, ?_, hOc.trans (s.flag_put_one _ 0 (by decide)), hPending,
      fun n hn => ?_⟩
    · show execBankOvercurrent b s = _
      rw [execBankOvercurrent, State.present, hKind, hHere, show s.flag (F.SOL_BANK_STAT_OC b.val) = false from hClear]
      rfl
    · obtain ⟨hFlt, hPhase, hForced, hTrain⟩ := hAll n hn
      exact ⟨hFlt, hPhase, hForced, hTrain⟩
  | true =>
    obtain ⟨-, hUv, hPending, hAll⟩ := State.bankProtect_effect b.isLt (hEffect 1 (by decide))
    refine ⟨(s.put (F.SOL_BANK_STAT_UV b.val) 1).bankProtect b.val, ?_, hUv.trans (s.flag_put_one _ 1 (by decide)), hPending,
      fun n hn => ?_⟩
    · show execBankUv b s = _
      rw [execBankUv, State.present, hKind, hHere, show s.flag (F.SOL_BANK_STAT_UV b.val) = false from hClear, hAny rfl]
      rfl
    · obtain ⟨hFlt, hPhase, hForced, hTrain⟩ := hAll n hn
      exact ⟨hFlt, hPhase, hForced, hTrain⟩

/-! ## Channels outside CURRENT mode resume nothing -/

theorem State.solCurrent_of_mode {s : State} {n : Nat} (h : s.solMode n ≠ 3) : s.solCurrent n = s := by
  simp [State.solCurrent, h]

theorem State.solMode_put (s : State) {f : Fld} (v : Nat) {n : Nat} (h : R.SOL_CH_CFG n ≠ f.addr) :
    (s.put f v).solMode n = s.solMode n := State.get_put_addr s (g := F.SOL_CH_CFG_MODE n) v h

theorem State.solResume_of_mode {s : State} {l : List Nat} (h : ∀ n ∈ l, s.solMode n ≠ 3) : s.solResume l = s :=
  State.each_fixed l fun n hn => State.solCurrent_of_mode (h n hn)

/-- A bank's latch that ends makes no channel outside CURRENT mode resume. -/
theorem State.solResume_put_bank (s : State) (b lo : Nat) (h : ∀ n ∈ bankChannels b, s.solMode n ≠ 3) :
    (s.put ⟨R.SOL_BANK_STAT b, lo, 1⟩ 0).solResume (bankChannels b) = s.put ⟨R.SOL_BANK_STAT b, lo, 1⟩ 0 :=
  State.solResume_of_mode fun n hn => by
    rw [s.solMode_put 0 (by simp only [R.SOL_CH_CFG, R.SOL_BANK_STAT]; omega)]
    exact h n hn

/-! ## Dies without a link (R28) -/

theorem State.driveSafe_of_free {s : State} {d : Nat} (h : s.flag (dieSafe d) = false) :
    s.driveSafe d = (((s.put (dieSafe d) 1).raise 14).put ⟨H.sticky .pwr, 2, 1⟩ 1).forceDie d := by
  simp [State.driveSafe, h]

/-- A die enters the drive safe state, and the windows of its channels are cut: it shows so, and none of its channels is
energised. -/
theorem State.driveSafe_effect {s : State} {d : Nat} (hd : d < 2) (hKind : s.kind .pwr = 1) (hFree : s.flag (dieSafe d) = false) :
    ((s.driveSafe d).each (dieChannels d) State.armCut).flag (dieSafe d) = true ∧
    ((s.driveSafe d).each (dieChannels d) State.armCut).flag (evBit 14) = true ∧
    ((s.driveSafe d).each (dieChannels d) State.armCut).flag ⟨H.sticky .pwr, 2, 1⟩ = true ∧
    (∀ n ∈ dieChannels d, ((s.driveSafe d).each (dieChannels d) State.armCut).OffForced n) ∧
    ((s.driveSafe d).each (dieChannels d) State.armCut).pwr = s.pwr := by
  have hPlace : (dieSafe d).addr = 0x31000 ∧ (dieSafe d).w = 1 ∧ (dieSafe d).lo < 32 := by
    unfold dieSafe
    split <;> exact ⟨rfl, rfl, by decide⟩
  obtain ⟨hAddr, hW, hLo⟩ := hPlace
  have hShown : (s.put (dieSafe d) 1).flag (dieSafe d) = true := by
    rw [State.flag, State.get_put_same s _ 1 (by omega), hW]
    rfl
  have hKind1 : (s.put (dieSafe d) 1).kind (evOwner 14) = 1 :=
    (s.kind_put 1 (by rw [hAddr]; decide) (by rw [hAddr]; decide) .pwr).trans hKind
  have hEvt : (evBit 14).addr = 0x30010 := by decide
  have hSticky : H.sticky .pwr = 0x30018 := by decide
  rw [State.driveSafe_of_free hFree]
  generalize hu : ((s.put (dieSafe d) 1).raise 14).put ⟨H.sticky .pwr, 2, 1⟩ 1 = u
  have hSafe : u.flag (dieSafe d) = true := by
    rw [← hu, State.flag_put_of_apart _ _ (.inl (by rw [hAddr, hSticky]; decide)),
      State.flag_raise_ne _ _ (by rw [hAddr, hEvt]; decide), hShown]
  have hPending : u.flag (evBit 14) = true := by
    rw [← hu, State.flag_put_of_apart _ _ (.inl (by rw [hEvt, hSticky]; decide)), State.flag_raise _ _ hKind1]
  have hStuck : u.flag ⟨H.sticky .pwr, 2, 1⟩ = true := hu ▸ State.flag_put_one _ _ 2 (by decide)
  have hPwr : u.pwr = s.pwr := by rw [← hu]; simp
  obtain ⟨hForce, hOff⟩ := u.solForceOff_all hd
  have hRest : (u.solForceOff d).Drives [] ((u.forceDie d).each (dieChannels d) State.armCut) :=
    (Drives.hswForceOff _ d).trans (Drives.each _ _ fun n _ v => Drives.armCut v n)
  have hGround := hForce.trans hRest.toGrounded
  refine ⟨(hGround.flag ?_).trans hSafe, (hGround.flag ?_).trans hPending, (hGround.flag ?_).trans hStuck,
    fun n hn => (hOff n hn).of_drives hRest (lt_of_mem_dieChannels hd hn).1 (by simp), hGround.pwr.trans hPwr⟩
  · rw [hAddr]; exact ⟨by decide, by decide⟩
  · rw [hEvt]; exact ⟨by decide, by decide⟩
  · exact ⟨by decide, by decide⟩

theorem dieSafe_val (d : Fin 2) : (if d = 0 then F.PWR_STAT_DSAFE_A else F.PWR_STAT_DSAFE_B) = dieSafe d.val := by
  match d with
  | 0 | 1 => rfl

/-- The clause on 500 µs without a frame. -/
theorem dieLinkTimeout_effect (d : Fin 2) (s : State) (hPowered : s.powered = true)
    (hLate : s.passed (s.pwr.linkAt.get d.val) (500 * usec) = true) (hKind : s.kind .pwr = 1)
    (hFree : s.flag (if d = 0 then F.PWR_STAT_DSAFE_A else F.PWR_STAT_DSAFE_B) = false) :
    ∃ t, exec (.dieLinkTimeout d) s = .next t ∧
      t.flag (if d = 0 then F.PWR_STAT_DSAFE_A else F.PWR_STAT_DSAFE_B) = true ∧ t.flag (evBit 14) = true ∧
      t.flag ⟨H.sticky .pwr, 2, 1⟩ = true ∧ (∀ n ∈ dieChannels d.val, t.phase n = 0 ∨ t.phase n = 6) ∧ t.pwr = s.pwr := by
  rw [dieSafe_val] at hFree ⊢
  obtain ⟨hSafe, hPending, hStuck, hOff, hPwr⟩ := State.driveSafe_effect d.isLt hKind hFree
  refine ⟨_, ?_, hSafe, hPending, hStuck, fun n hn => (hOff n hn).phase, hPwr⟩
  show execDieLinkTimeout d s = _
  rw [execDieLinkTimeout, hPowered, hLate]
  rfl

end Sys2Proof.Machine
end

section
/-! The junction temperature of a die (R393). -/

namespace Sys2Proof.Machine

open Sys2Proof

/-! ## The steps of a sample at 125 °C or more -/

/-- The temperature is shown, and the derate of the die begins. -/
def State.dieHot (s : State) (d : Nat) (t : Int) : State :=
  ((s.puts ⟨R.SOL_DIE_TJ d, 0, 16⟩ t).put (F.SOL_DIE_STAT_DERATE d) 1).raise (dieEvent d 13)

/-- At 140 °C every channel of the die goes off. -/
def State.dieOff (s : State) (d : Nat) : State :=
  ((s.put (F.SOL_DIE_STAT_OFF140 d) 1).raise (dieEvent d 14)).each (dieChannels d) (State.latchOff 2)

/-- Channel `n` takes up the derate of die `d`. -/
def State.dieRound (d : Nat) (s : State) (n : Nat) : State :=
  (s.derateShow n (s.flag (F.SOL_DIE_STAT_DERATE d) || ((s.sol.get n).overLim && !(s.sol.get n).overOff))).solCurrent n

theorem State.dieTemp_hot {s : State} {d : Nat} {t : Int} (ht : 1250 ≤ t) (hCool : s.flag (F.SOL_DIE_STAT_DERATE d) = false)
    (hOn : s.flag (F.SOL_DIE_STAT_OFF140 d) = false) :
    s.dieTemp d t = (if 1400 ≤ t then (s.dieHot d t).dieOff d else s.dieHot d t).each (dieChannels d) (State.dieRound d) := by
  have hFlag : ∀ lo, (s.puts ⟨R.SOL_DIE_TJ d, 0, 16⟩ t).flag ⟨R.SOL_DIE_STAT d, lo, 1⟩ = s.flag ⟨R.SOL_DIE_STAT d, lo, 1⟩ :=
    fun _ => s.flag_put_of_apart _ (.inl (by simp only [R.SOL_DIE_STAT, R.SOL_DIE_TJ]; omega))
  have hDerate : (s.puts ⟨R.SOL_DIE_TJ d, 0, 16⟩ t).flag (F.SOL_DIE_STAT_DERATE d) = false := (hFlag 1).trans hCool
  have hOff : (s.puts ⟨R.SOL_DIE_TJ d, 0, 16⟩ t).flag (F.SOL_DIE_STAT_OFF140 d) = false := (hFlag 2).trans hOn
  unfold State.dieTemp
  simp only [hDerate, hOff, ht, Bool.not_false, and_self, if_true, and_true, Bool.false_eq_true, and_false, if_false]
  rfl

/-! ## What a hot die shows -/

theorem State.dieHot_kept (s : State) (d : Nat) (t : Int) :
    s.regsKept (s.dieHot d t) [R.SOL_DIE_TJ d, R.SOL_DIE_STAT d, (evBit (dieEvent d 13)).addr] := by
  intro a ha
  simp only [List.mem_cons, List.not_mem_nil, or_false, not_or] at ha
  obtain ⟨hTj, hStat, hEvt⟩ := ha
  rw [State.dieHot, State.word_raise_ne _ _ hEvt, State.word_put_ne _ _ _ hStat, State.puts, State.word_put_ne _ _ _ hTj]

theorem State.dieHot_frame (s : State) (d : Nat) (t : Int) :
    s.dieHot d t = { s with regs := (s.dieHot d t).regs, occ := (s.dieHot d t).occ } :=
  State.raise_changes _ _

section
variable {s : State} {d : Nat} (hd : d < 2)
include hd

theorem State.dieHot_occurred (t : Int) (hKind : s.kind .sol = 1) : s.occurred (s.dieHot d t) (dieEvent d 13) := by
  obtain ⟨hOwner, -⟩ := dieEvent_place d hd 13 (by decide)
  have hKind2 : ((s.puts ⟨R.SOL_DIE_TJ d, 0, 16⟩ t).put (F.SOL_DIE_STAT_DERATE d) 1).kind (evOwner (dieEvent d 13)) = 1 := by
    rw [hOwner, State.kind_put_sol _ _ (by simp only [F.SOL_DIE_STAT_DERATE, R.SOL_DIE_STAT]; omega), State.puts,
      State.kind_put_sol _ _ (by simp only [R.SOL_DIE_TJ]; omega), hKind]
  refine ⟨State.flag_raise _ _ hKind2, ?_⟩
  rw [State.dieHot, State.raise_of_kind hKind2]
  rfl

theorem State.dieHot_shows (t : Int) : (s.dieHot d t).get ⟨R.SOL_DIE_TJ d, 0, 16⟩ = code 16 t % 2 ^ 16 ∧
    (s.dieHot d t).flag (F.SOL_DIE_STAT_DERATE d) = true ∧
    (s.dieHot d t).flag (F.SOL_DIE_STAT_OFF140 d) = s.flag (F.SOL_DIE_STAT_OFF140 d) := by
  obtain ⟨-, hPlace⟩ := dieEvent_place d hd 13 (by decide)
  refine ⟨?_, ?_, ?_⟩
  · rw [State.dieHot, State.get_raise_ne _ _ (by simp only [R.SOL_DIE_TJ]; omega),
      State.get_put_addr _ _ (by simp only [F.SOL_DIE_STAT_DERATE, R.SOL_DIE_STAT, R.SOL_DIE_TJ]; omega), State.puts,
      State.get_put_same s ⟨R.SOL_DIE_TJ d, 0, 16⟩ _ (Nat.le_of_ble_eq_true rfl)]
  · rw [State.dieHot, State.flag_raise_ne _ _ (by simp only [F.SOL_DIE_STAT_DERATE, R.SOL_DIE_STAT]; omega)]
    exact State.flag_put_one _ _ 1 (by decide)
  · rw [State.dieHot, State.flag_raise_ne _ _ (by simp only [F.SOL_DIE_STAT_OFF140, R.SOL_DIE_STAT]; omega),
      State.flag_put_of_apart _ _ (.inr ⟨by simp only [F.SOL_DIE_STAT_OFF140]; decide, .inr (by
        simp only [F.SOL_DIE_STAT_OFF140, F.SOL_DIE_STAT_DERATE]; decide)⟩), State.puts,
      State.flag_put_of_apart _ _ (.inl (by simp only [F.SOL_DIE_STAT_OFF140, R.SOL_DIE_STAT, R.SOL_DIE_TJ]; omega))]

/-- A die that goes off shows it, keeps what it showed before, and its channels are off with the latch of the die. -/
theorem State.dieOff_effect : (s.dieOff d).flag (F.SOL_DIE_STAT_OFF140 d) = true ∧
    (s.dieOff d).flag (F.SOL_DIE_STAT_DERATE d) = s.flag (F.SOL_DIE_STAT_DERATE d) ∧
    (s.dieOff d).get ⟨R.SOL_DIE_TJ d, 0, 16⟩ = s.get ⟨R.SOL_DIE_TJ d, 0, 16⟩ ∧
    (∀ e, s.flag (evBit e) = true → belowBanks (evBit e).addr → R.SOL_DIE_STAT d ≠ (evBit e).addr →
      (s.dieOff d).flag (evBit e) = true) ∧
    ∀ n ∈ dieChannels d, (s.dieOff d).LatchedOff 2 n := by
  obtain ⟨-, hPlace⟩ := dieEvent_place d hd 14 (by decide)
  have hBelow : belowBanks (R.SOL_DIE_STAT d) ∧ belowBanks (R.SOL_DIE_TJ d) := by
    simp only [belowBanks, R.SOL_DIE_STAT, R.SOL_DIE_TJ]; omega
  obtain ⟨hGround, hAll⟩ := State.each_latchOff (k := 2) (by decide)
    ((s.put (F.SOL_DIE_STAT_OFF140 d) 1).raise (dieEvent d 14)) (dieChannels d) (fun _ hn => (lt_of_mem_dieChannels hd hn).1)
  rw [← State.dieOff] at hGround hAll
  refine ⟨?_, ?_, ?_, fun e he hAt hNe => ?_, hAll⟩
  · rw [hGround.flag hBelow.1, State.flag_raise_ne _ _ (by simp only [F.SOL_DIE_STAT_OFF140, R.SOL_DIE_STAT]; omega)]
    exact State.flag_put_one _ _ 2 (by decide)
  · rw [hGround.flag hBelow.1, State.flag_raise_ne _ _ (by simp only [F.SOL_DIE_STAT_DERATE, R.SOL_DIE_STAT]; omega),
      State.flag_put_of_apart _ _ (.inr ⟨by simp only [F.SOL_DIE_STAT_DERATE]; decide, .inl (by
        simp only [F.SOL_DIE_STAT_OFF140, F.SOL_DIE_STAT_DERATE]; decide)⟩)]
  · rw [State.get_eq_of_word (hGround.word _ hBelow.2), State.get_raise_ne _ _ (by simp only [R.SOL_DIE_TJ]; omega),
      State.get_put_addr _ _ (by simp only [F.SOL_DIE_STAT_OFF140, R.SOL_DIE_STAT, R.SOL_DIE_TJ]; omega)]
  · rw [hGround.flag hAt]
    exact State.flag_raise_of_flag _ ((s.flag_put_of_apart 1 (.inl hNe.symm)).trans he)

end

/-! ## The derate reaches the channels -/

theorem State.derateShow_grounded (s : State) (n : Nat) (hot : Bool) : s.Grounded (s.derateShow n hot) :=
  (State.Grounded.put_stat s n 26 1 _).trans (Drives.modSol _ n _).toGrounded

theorem State.flag_derateShow_same (s : State) (n : Nat) (hot : Bool) :
    (s.derateShow n hot).flag (F.SOL_CH_STAT_DERATE n) = hot :=
  s.flag_putB_same (F.SOL_CH_STAT_DERATE n) hot (by simp only [F.SOL_CH_STAT_DERATE]; decide) rfl

theorem State.flag_derateShow_ne (s : State) {m n : Nat} (hot : Bool) (h : m ≠ n) :
    (s.derateShow n hot).flag (F.SOL_CH_STAT_DERATE m) = s.flag (F.SOL_CH_STAT_DERATE m) :=
  s.flag_put_of_apart _ (.inl (by simp only [F.SOL_CH_STAT_DERATE, R.SOL_CH_STAT]; omega))

theorem State.dieRound_of_derate {s : State} {d n : Nat} (h : s.flag (F.SOL_DIE_STAT_DERATE d) = true) :
    s.dieRound d n = (s.derateShow n true).solCurrent n := by
  rw [State.dieRound, h, Bool.true_or]

/-- Every channel of a derated die shows the derate. -/
theorem State.dieRounds_derate {s : State} {d : Nat} (hd : d < 2) (h : s.flag (F.SOL_DIE_STAT_DERATE d) = true) :
    s.Grounded (s.each (dieChannels d) (State.dieRound d)) ∧
    ∀ n ∈ dieChannels d, (s.each (dieChannels d) (State.dieRound d)).flag (F.SOL_CH_STAT_DERATE n) = true := by
  have hBelow : belowBanks (R.SOL_DIE_STAT d) := by simp only [belowBanks, R.SOL_DIE_STAT]; omega
  obtain ⟨hGround, hAll, -⟩ := State.each_forall (I := s.Grounded)
    (P := fun n u => n < 96 → u.flag (F.SOL_CH_STAT_DERATE n) = true) (f := State.dieRound d) (dieChannels d) s (.refl s)
    fun n _ u hu => by
      have hDrives := Drives.solCurrent (u.derateShow n true) n
      have hSet : n < 96 → ((u.derateShow n true).solCurrent n).flag (F.SOL_CH_STAT_DERATE n) = true := fun hn =>
        (hDrives.derate n hn).trans (u.flag_derateShow_same n true)
      rw [State.dieRound_of_derate ((hu.flag hBelow).trans h)]
      refine ⟨(hu.trans (u.derateShow_grounded n true)).trans hDrives.toGrounded, hSet, fun m hm hLt => ?_⟩
      by_cases e : m = n
      · exact e ▸ hSet (e ▸ hLt)
      · exact ((hDrives.derate m hLt).trans (u.flag_derateShow_ne true e)).trans (hm hLt)
  exact ⟨hGround, fun n hn => hAll n hn (lt_of_mem_dieChannels hd hn).1⟩

/-- No channel that a die at 140 °C has switched off regulates again (R393, R394). -/
theorem State.solCurrent_of_off140 {s : State} {n : Nat} (hOff : s.flag (F.SOL_DIE_STAT_OFF140 (dieOf n)) = true)
    (hPhase : s.phase n = 0 ∨ s.phase n = 6) :
    s.solCurrent n = s ∨ s.solCurrent n = s.putB (F.SOL_CH_STAT_ILIM n) (s.currentClamped n) := by
  have hBlocked : s.solBlocked n = true := by simp [State.solBlocked, hOff]
  have hHold : s.phase n ≠ 5 := by rcases hPhase with h | h <;> rw [h] <;> decide
  unfold State.solCurrent
  dsimp only
  split
  · exact .inl rfl
  · right
    simp [hBlocked, hHold]

/-- Channel `n` is off with the latch of its die. -/
def State.ThermOff (s : State) (n : Nat) : Prop := s.flag (F.SOL_CH_FLT_THERM n) = true ∧ (s.phase n = 0 ∨ s.phase n = 6)

theorem State.ThermOff.put_stat {s : State} {m : Nat} (h : s.ThermOff m) (n lo w v : Nat) (hLo : 3 ≤ lo) :
    (s.put ⟨R.SOL_CH_STAT n, lo, w⟩ v).ThermOff m := by
  obtain ⟨hFlag, hPhase⟩ := h
  refine ⟨(s.flag_put_of_apart v (.inl ?_)).trans hFlag, ?_⟩
  · simp only [F.SOL_CH_FLT_THERM, R.SOL_CH_FLT, R.SOL_CH_STAT]; omega
  · have hApart : Fld.apart (F.SOL_CH_STAT_PHASE m) ⟨R.SOL_CH_STAT n, lo, w⟩ :=
      .inr ⟨by simp only [F.SOL_CH_STAT_PHASE]; decide, .inl hLo⟩
    rw [State.phase, State.get_put_of_apart s v hApart]
    exact hPhase

theorem State.ThermOff.derateShow {s : State} {m : Nat} (h : s.ThermOff m) (n : Nat) (hot : Bool) :
    (s.derateShow n hot).ThermOff m := h.put_stat n 26 1 _ (by decide)

theorem State.ThermOff.solCurrent {s : State} {m n : Nat} (h : s.ThermOff m)
    (hOff : s.flag (F.SOL_DIE_STAT_OFF140 (dieOf n)) = true) (hn : s.ThermOff n) : (s.solCurrent n).ThermOff m := by
  rcases State.solCurrent_of_off140 hOff hn.2 with e | e
  · rw [e]
    exact h
  · rw [e]
    exact h.put_stat n 19 1 _ (by decide)

/-- The channels of a die at 140 °C stay off while the derate reaches them. -/
theorem State.dieRounds_thermOff {s : State} {d : Nat} (hd : d < 2) (hDerate : s.flag (F.SOL_DIE_STAT_DERATE d) = true)
    (hOff : s.flag (F.SOL_DIE_STAT_OFF140 d) = true) (hAll : ∀ n ∈ dieChannels d, s.ThermOff n) :
    ∀ n ∈ dieChannels d, (s.each (dieChannels d) (State.dieRound d)).ThermOff n := by
  have hBelow : belowBanks (R.SOL_DIE_STAT d) := by simp only [belowBanks, R.SOL_DIE_STAT]; omega
  obtain ⟨⟨-, hEnd⟩, -⟩ := State.each_forall (I := fun u => s.Grounded u ∧ ∀ n ∈ dieChannels d, u.ThermOff n)
    (P := fun _ _ => True) (f := State.dieRound d) (dieChannels d) s ⟨.refl s, hAll⟩ fun n hn u ⟨hu, hTherm⟩ => by
      have hShow := hu.trans (u.derateShow_grounded n true)
      have hHot : (u.derateShow n true).flag (F.SOL_DIE_STAT_OFF140 (dieOf n)) = true := by
        rw [(lt_of_mem_dieChannels hd hn).2, hShow.flag hBelow]
        exact hOff
      rw [State.dieRound_of_derate ((hu.flag hBelow).trans hDerate)]
      refine ⟨⟨hShow.trans (Drives.solCurrent _ n).toGrounded, fun m hm => ?_⟩, trivial, fun _ _ => trivial⟩
      exact ((hTherm m hm).derateShow n true).solCurrent hHot ((hTherm n hn).derateShow n true)
  exact hEnd

/-! ## Outside CURRENT mode the derate is all that changes -/

/-- From `s` to `t` nothing has changed but the status of the channels of die `d` and the mark of a HOLD under derate. -/
structure State.DerateOnly (d : Nat) (s t : State) : Prop where
  frame : t = { s with regs := t.regs, sol := t.sol }
  kept : s.regsKept t ((dieChannels d).map R.SOL_CH_STAT)
  sol : ∀ n, { t.sol.get n with derated := false } = { s.sol.get n with derated := false }

theorem State.DerateOnly.refl (d : Nat) (s : State) : s.DerateOnly d s := ⟨rfl, fun _ _ => rfl, fun _ => rfl⟩

theorem State.DerateOnly.trans {d : Nat} {s t u : State} (h : s.DerateOnly d t) (k : t.DerateOnly d u) : s.DerateOnly d u where
  frame := k.frame.trans (by rw [h.frame])
  kept a ha := (k.kept a ha).trans (h.kept a ha)
  sol n := (k.sol n).trans (h.sol n)

theorem State.derateShow_only (s : State) {d n : Nat} (hn : n ∈ dieChannels d) (hot : Bool) :
    s.DerateOnly d (s.derateShow n hot) where
  frame := rfl
  kept a ha := s.word_put_ne _ _ fun e => ha (e ▸ List.mem_map_of_mem hn)
  sol m := by
    by_cases e : m = n
    · subst e
      rw [State.derateShow, State.modSol_get_same]
      rfl
    · rw [State.derateShow, (Drives.modSol (s.putB (F.SOL_CH_STAT_DERATE n) hot) n _).sol m (by simpa using e)]
      rfl

theorem State.DerateOnly.solMode {d : Nat} {s t : State} (h : s.DerateOnly d t) (n : Nat) : t.solMode n = s.solMode n := by
  refine State.get_eq_of_word (h.kept _ ?_)
  simp only [List.mem_map, not_exists, not_and, F.SOL_CH_CFG_MODE, R.SOL_CH_CFG, R.SOL_CH_STAT]
  omega

theorem State.dieRounds_only {s : State} {d : Nat} (hMode : ∀ n ∈ dieChannels d, s.solMode n ≠ 3) :
    s.DerateOnly d (s.each (dieChannels d) (State.dieRound d)) :=
  State.each_rel (r := State.DerateOnly d) (.refl d) State.DerateOnly.trans (dieChannels d) s fun n hn u hu => by
    have hShow := u.derateShow_only hn (u.flag (F.SOL_DIE_STAT_DERATE d) || ((u.sol.get n).overLim && !(u.sol.get n).overOff))
    rw [State.dieRound, State.solCurrent_of_mode (by rw [(hu.trans hShow).solMode]; exact hMode n hn)]
    exact hShow

theorem State.DerateOnly.frame_of_frame {d : Nat} {s t u : State} (h : t.DerateOnly d u)
    (hFrame : t = { s with regs := t.regs, occ := t.occ }) : u = { s with regs := u.regs, occ := u.occ, sol := u.sol } := by
  have hOcc : u.occ = t.occ := by rw [h.frame]
  rw [hOcc]
  exact h.frame.trans (by rw [hFrame])

/-! ## A sample of the temperature -/

/-- The clause on the junction temperature. -/
theorem dieTjSample_effect (d : Fin 2) (x : BitVec 16) (s : State) (hDie : d.val < s.nDie) (hGood : s.dieBFail = false)
    (hKind : s.kind .sol = 1) (hHot : 1250 ≤ x.toInt) (hCool : s.flag (F.SOL_DIE_STAT_DERATE d.val) = false)
    (hOn : s.flag (F.SOL_DIE_STAT_OFF140 d.val) = false) :
    ∃ t, exec (.dieTjSample d x) s = .next t ∧ t.get ⟨R.SOL_DIE_TJ d.val, 0, 16⟩ = x.toNat ∧
      t.flag (F.SOL_DIE_STAT_DERATE d.val) = true ∧ t.flag (F.SOL_DIE_STAT_OFF140 d.val) = decide (1400 ≤ x.toInt) ∧
      t.flag (evBit (141 + 16 * d.val)) = true ∧ (∀ n ∈ dieChannels d.val, t.flag (F.SOL_CH_STAT_DERATE n) = true) ∧
      (x.toInt < 1400 → (∀ n ∈ dieChannels d.val, s.solMode n ≠ 3) → s.occurred t (141 + 16 * d.val) ∧
        (∀ n, { t.sol.get n with derated := false } = { s.sol.get n with derated := false }) ∧
        t = { s with regs := t.regs, occ := t.occ, sol := t.sol } ∧
        s.regsKept t ([R.SOL_DIE_TJ d.val, R.SOL_DIE_STAT d.val, (evBit (141 + 16 * d.val)).addr] ++
          (dieChannels d.val).map R.SOL_CH_STAT)) ∧
      (1400 ≤ x.toInt → ∀ n ∈ dieChannels d.val, t.flag (F.SOL_CH_FLT_THERM n) = true ∧ (t.phase n = 0 ∨ t.phase n = 6)) := by
  have hEvent : 141 + 16 * d.val = dieEvent d.val 13 := by simp only [dieEvent]; omega
  have hHere : s.dieHere d.val = true := by simp [State.dieHere, hDie, hGood]
  have hBelow : belowBanks (R.SOL_DIE_STAT d.val) ∧ belowBanks (R.SOL_DIE_TJ d.val) ∧ belowBanks (evBit (dieEvent d.val 13)).addr ∧
      R.SOL_DIE_STAT d.val ≠ (evBit (dieEvent d.val 13)).addr := by
    have hPlace := (dieEvent_place d.val d.isLt 13 (by decide)).2
    simp only [belowBanks, R.SOL_DIE_STAT, R.SOL_DIE_TJ]; omega
  obtain ⟨hStatLow, hTjLow, hEvtLow, hEvtNe⟩ := hBelow
  have hCode : code 16 x.toInt % 2 ^ 16 = x.toNat := by simp only [code, BitVec.toInt]; omega
  obtain ⟨hTj, hDerate, hOff⟩ := State.dieHot_shows (s := s) d.isLt x.toInt
  rw [hCode] at hTj
  rw [hOn] at hOff
  obtain ⟨hPending, hOcc⟩ := State.dieHot_occurred d.isLt x.toInt hKind
  have hExec : exec (.dieTjSample d x) s = .next (if (s.dieTemp d.val x.toInt).flag (F.SOL_DIE_STAT_OFF140 d.val) then
      (s.dieTemp d.val x.toInt).hswForceOff d.val else s.dieTemp d.val x.toInt) := by
    show execDieTjSample d x s = _
    simp [execDieTjSample, hHere, hOn]
  rw [hExec, State.dieTemp_hot hHot hCool hOn, hEvent]
  by_cases hLimit : 1400 ≤ x.toInt
  · rw [if_pos hLimit]
    obtain ⟨hOff, hDerate2, hTj2, hPending2, hAll⟩ := State.dieOff_effect (s := s.dieHot d.val x.toInt) d.isLt
    have hDerate2 := hDerate2.trans hDerate
    obtain ⟨hGround, hShow⟩ := State.dieRounds_derate d.isLt hDerate2
    have hTherm := State.dieRounds_thermOff d.isLt hDerate2 hOff fun n hn => ⟨(hAll n hn).1, (hAll n hn).2.phase⟩
    rw [if_pos ((hGround.flag hStatLow).trans hOff)]
    have hDrives := State.Drives.hswForceOff
      (((s.dieHot d.val x.toInt).dieOff d.val).each (dieChannels d.val) (State.dieRound d.val)) d.val
    have hTotal := hGround.trans hDrives.toGrounded
    refine ⟨_, rfl, ?_, (hTotal.flag hStatLow).trans hDerate2, ?_, ?_, fun n hn => ?_, fun hLow => ?_, fun _ n hn => ?_⟩
    · exact (State.get_eq_of_word (hTotal.word _ hTjLow)).trans (hTj2.trans hTj)
    · rw [hTotal.flag hStatLow, hOff, decide_eq_true hLimit]
    · exact (hTotal.flag hEvtLow).trans (hPending2 _ hPending hEvtLow hEvtNe)
    · exact (hDrives.derate n (lt_of_mem_dieChannels d.isLt hn).1).trans (hShow n hn)
    · exact absurd hLimit (by omega)
    · have hn' := (lt_of_mem_dieChannels d.isLt hn).1
      obtain ⟨hFlag, hPhase⟩ := hTherm n hn
      refine ⟨(hDrives.flag_flt hn' 2).trans hFlag, ?_⟩
      rw [State.phase, State.get_eq_of_word (hDrives.stat n hn' List.not_mem_nil)]
      exact hPhase
  · rw [if_neg hLimit]
    obtain ⟨hGround, hShow⟩ := State.dieRounds_derate d.isLt hDerate
    have hOff := (hGround.flag (f := F.SOL_DIE_STAT_OFF140 d.val) hStatLow).trans hOff
    rw [hOff, if_neg Bool.false_ne_true]
    refine ⟨_, rfl, (State.get_eq_of_word (hGround.word _ hTjLow)).trans hTj, (hGround.flag hStatLow).trans hDerate,
      by rw [hOff, decide_eq_false hLimit], (hGround.flag hEvtLow).trans hPending, hShow, fun _ hMode => ?_,
      fun hHigh => absurd hHigh hLimit⟩
    have hKept := s.dieHot_kept d.val x.toInt
    have hFrame := s.dieHot_frame d.val x.toInt
    have hOnly := State.dieRounds_only (s := s.dieHot d.val x.toInt) (d := d.val) fun n hn => by
      have hPlace := (dieEvent_place d.val d.isLt 13 (by decide)).2
      rw [State.solMode, State.get_eq_of_word (hKept _ (by
        simp only [List.mem_cons, List.not_mem_nil, or_false, F.SOL_CH_CFG_MODE, R.SOL_CH_CFG, R.SOL_DIE_TJ, R.SOL_DIE_STAT]
        omega))]
      exact hMode n hn
    have hSol : (s.dieHot d.val x.toInt).sol = s.sol := by rw [hFrame]
    refine ⟨⟨(hGround.flag hEvtLow).trans hPending, ?_⟩, fun n => (hOnly.sol n).trans (by rw [hSol]),
      hOnly.frame_of_frame hFrame, fun a ha => ?_⟩
    · rw [hOnly.frame]
      exact hOcc
    · rw [List.mem_append, not_or] at ha
      exact (hOnly.kept a ha.2).trans (hKept a ha.1)

end Sys2Proof.Machine
end

section
/-! A short of a channel in HOLD, which no point is bound to: what it changes at all (R392). -/

namespace Sys2Proof.Machine

open Sys2Proof

/-- The event of a short on channel `n`, and where it and the sticky flag stand (R392, R399). -/
theorem shortEvent_place {n : Nat} (hn : n < 96) : dieEvent (dieOf n) 11 = 139 + 16 * dieOf n ∧
    evOwner (139 + 16 * dieOf n) = .sol ∧ H.sticky .sol = 0xC0018 ∧
    ((evBit (139 + 16 * dieOf n)).addr = 0xC0010 ∨ (evBit (139 + 16 * dieOf n)).addr = 0xC0024) := by
  have hEvent : dieEvent (dieOf n) 11 = 139 + 16 * dieOf n := by simp only [dieEvent]; omega
  obtain ⟨hOwner, hPlace⟩ := dieEvent_place (dieOf n) (by simp only [dieOf]; omega) 11 (by decide)
  exact ⟨hEvent, hEvent ▸ hOwner, by decide, hEvent ▸ hPlace⟩

/-- The registers in which a short of channel `n` can show. -/
def shortRegs (n : Nat) : List Nat := [R.SOL_CH_STAT n, R.SOL_CH_FLT n, H.sticky .sol, R.SOL_BANK_STAT (bankOf n), R.ARM_CH_STAT n,
  R.ARM_DISC, (evBit (139 + 16 * dieOf n)).addr]

/-- Where only these registers have changed, no point is bound to another output. -/
theorem State.pointsOf_of_kept {n : Nat} {s t : State} (hn : n < 96) (hKept : s.regsKept t (shortRegs n)) (hGeo : t.geo = s.geo)
    (hStr : t.str = s.str) (kind inst : Nat) : t.pointsOf kind inst = s.pointsOf kind inst := by
  obtain ⟨-, -, hSticky, hPlace⟩ := shortEvent_place hn
  have hWord : ∀ p < 128, t.word (R.GEO_PT_BIND p) = s.word (R.GEO_PT_BIND p) := fun p hp => hKept _ (by
    simp only [shortRegs, List.mem_cons, List.not_mem_nil, or_false, hSticky, R.GEO_PT_BIND, R.SOL_CH_STAT, R.SOL_CH_FLT,
      R.SOL_BANK_STAT, R.ARM_CH_STAT, R.ARM_DISC]
    omega)
  refine List.filter_congr fun p hp => ?_
  rw [List.mem_range] at hp
  simp only [State.outBind, State.cross, State.pt, State.bindReg, State.nat, hGeo, hStr, hWord p hp, if_pos hp]

/-- From `s` to `t` nothing has changed but these registers and the channels of SOL and ARM. -/
structure State.Shorts (n : Nat) (s t : State) : Prop where
  frame : t = { s with regs := t.regs, sol := t.sol, armCh := t.armCh }
  kept : s.regsKept t (shortRegs n)

namespace State.Shorts

variable {n : Nat}

theorem refl (s : State) : s.Shorts n s := ⟨rfl, fun _ _ => rfl⟩

theorem trans {s t u : State} (h : s.Shorts n t) (k : t.Shorts n u) : s.Shorts n u where
  frame := k.frame.trans (by rw [h.frame])
  kept a ha := (k.kept a ha).trans (h.kept a ha)

theorem put (s : State) {f : Fld} (v : Nat) (h : f.addr ∈ shortRegs n) : s.Shorts n (s.put f v) where
  frame := rfl
  kept _ ha := s.word_put_ne f v fun e => ha (e ▸ h)

theorem put_stat (s : State) (lo w v : Nat) : s.Shorts n (s.put ⟨R.SOL_CH_STAT n, lo, w⟩ v) := put s v (by simp [shortRegs])

theorem put_bank (s : State) (lo w v : Nat) : s.Shorts n (s.put ⟨R.SOL_BANK_STAT (bankOf n), lo, w⟩ v) :=
  put s v (by simp [shortRegs])

theorem modSol (s : State) (m : Nat) (f : SolCh → SolCh) : s.Shorts n (s.modSol m f) := ⟨rfl, fun _ _ => rfl⟩

theorem modArm (s : State) (m : Nat) (f : ArmCh → ArmCh) : s.Shorts n (s.modArm m f) := ⟨rfl, fun _ _ => rfl⟩

theorem armOpenCut (s : State) : s.Shorts n (s.armOpenCut n) := by
  unfold State.armOpenCut
  split
  · exact (put s 3 (by simp [shortRegs, armRes, F.ARM_CH_STAT_OPEN_RES])).trans (modArm _ n _)
  · exact refl s

theorem armCloseWindow (s : State) (skip : Bool) : s.Shorts n (s.armCloseWindow n skip) := by
  unfold State.armCloseWindow
  split
  · exact modArm s n _
  split
  · exact put s _ (by simp [shortRegs])
  · exact refl s

theorem bankShow (s : State) : s.Shorts n (s.bankShow (bankOf n)) := (put_bank s 8 3 _).trans (put_bank _ 4 1 _)

theorem setPhase (s : State) (ph : Nat) : s.Shorts n (s.setPhase n ph) := by
  unfold State.setPhase
  exact ((modArm s n _).trans (modSol _ n _)).trans (put_stat _ 0 3 ph)

theorem decay {s : State} (h : (s.sol.get n).stopping = false) (prot forced : Bool) : s.Shorts n (s.decay n prot forced) := by
  have hStop : (((s.setPhase n 6).putB (F.SOL_CH_STAT_SLOWED n) (s.slowed n && !forced)).sol.get n).stopping = false := by
    simp [State.setPhase, h]
  unfold State.decay
  simp only [hStop, Bool.false_eq_true, if_false]
  refine trans (trans (trans (trans (setPhase s 6) ?_) (modSol _ n _)) (armCloseWindow _ _)) (bankShow _)
  exact put_stat _ 24 1 _

end State.Shorts

/-! ## Protection in HOLD -/

/-- What protection does to a channel in HOLD before its current decays. -/
def State.holdCut (s : State) (n : Nat) : State :=
  (((s.put (F.SOL_CH_STAT_FORCED n) 1).trainEnd n).modSol n (fun c => { c with stopping := false })).armOpenCut n

theorem State.solProtect_of_hold {s : State} {n : Nat} (hHold : s.phase n = 5) :
    s.solProtect n = ((s.holdCut n).decay n true).strForcedOff 1 n := by
  simp only [State.solProtect, hHold]
  rfl

theorem State.holdCut_shorts (s : State) (n : Nat) : s.Shorts n (s.holdCut n) :=
  (((Shorts.put_stat s 27 1 1).trans (Shorts.modSol _ n _)).trans (Shorts.modSol _ n _)).trans (Shorts.armOpenCut _)

theorem State.stopping_holdCut (s : State) (n : Nat) : ((s.holdCut n).sol.get n).stopping = false := by
  rw [State.holdCut, (Drives.armOpenCut _ n).sol n List.not_mem_nil, State.modSol_get_same]

theorem State.solProtect_shorts {s : State} {n : Nat} (hn : n < 96) (hHold : s.phase n = 5) (hPoints : s.pointsOf 1 n = []) :
    s.Shorts n (s.solProtect n) ∧ (s.solProtect n).phase n = 6 := by
  have hDecay := (s.holdCut_shorts n).trans (Shorts.decay (s.stopping_holdCut n) true false)
  have hNone : ((s.holdCut n).decay n true).pointsOf 1 n = [] := by
    rw [State.pointsOf_of_kept hn hDecay.kept (by rw [hDecay.frame]) (by rw [hDecay.frame]), hPoints]
  rw [State.solProtect_of_hold hHold, State.strForcedOff, hNone]
  exact ⟨hDecay, State.phase_decay _ hn true false⟩

/-! ## What a short shows first -/

/-- The channel's latch, its die's event and the sticky flag of that event. -/
def State.shortShown (s : State) (n : Nat) : State :=
  ((s.put (F.SOL_CH_FLT_SHORT n) 1).raise (139 + 16 * dieOf n)).put ⟨H.sticky .sol, 1 + dieOf n, 1⟩ 1

theorem State.shortShown_frame (s : State) (n : Nat) :
    s.shortShown n = { s with regs := (s.shortShown n).regs, occ := (s.shortShown n).occ } := by
  have h := (s.put (F.SOL_CH_FLT_SHORT n) 1).raise_changes (139 + 16 * dieOf n)
  rw [State.shortShown, h]
  rfl

theorem State.shortShown_kept (s : State) (n : Nat) : s.regsKept (s.shortShown n) (shortRegs n) := by
  intro a ha
  simp only [shortRegs, List.mem_cons, List.not_mem_nil, or_false, not_or] at ha
  obtain ⟨-, hFlt, hSticky, -, -, -, hEvt⟩ := ha
  rw [State.shortShown, State.word_put_ne _ _ _ hSticky, State.word_raise_ne _ _ hEvt, State.word_put_ne _ _ _ hFlt]

theorem State.phase_shortShown (s : State) {n : Nat} (hn : n < 96) : (s.shortShown n).phase n = s.phase n := by
  obtain ⟨-, -, hSticky, hPlace⟩ := shortEvent_place hn
  have hStat : (s.shortShown n).word (R.SOL_CH_STAT n) = s.word (R.SOL_CH_STAT n) := by
    rw [State.shortShown, State.word_put_ne _ _ _ (by simp only [hSticky, R.SOL_CH_STAT]; omega),
      State.word_raise_ne _ _ (by simp only [R.SOL_CH_STAT]; omega),
      State.word_put_ne _ _ _ (by simp only [F.SOL_CH_FLT_SHORT, R.SOL_CH_FLT, R.SOL_CH_STAT]; omega)]
  exact State.get_eq_of_word hStat

/-- The latch stands, the event has occurred, and its sticky flag is set. -/
theorem State.shortShown_effect {s : State} {n : Nat} (hn : n < 96) (hKind : s.kind .sol = 1) :
    (s.shortShown n).flag (F.SOL_CH_FLT_SHORT n) = true ∧ s.occurred (s.shortShown n) (139 + 16 * dieOf n) ∧
    (s.shortShown n).flag ⟨H.sticky .sol, 1 + dieOf n, 1⟩ = true := by
  obtain ⟨-, hOwner, hSticky, hPlace⟩ := shortEvent_place hn
  have hKindFlt : (s.put (F.SOL_CH_FLT_SHORT n) 1).kind (evOwner (139 + 16 * dieOf n)) = 1 := by
    rw [hOwner, State.kind_put_sol _ _ (by simp only [F.SOL_CH_FLT_SHORT, R.SOL_CH_FLT]; omega), hKind]
  refine ⟨?_, ⟨?_, ?_⟩, State.flag_put_one _ _ _ (by simp only [dieOf]; omega)⟩
  · rw [State.shortShown, State.flag_put_of_apart _ _ (.inl (by
        simp only [F.SOL_CH_FLT_SHORT, R.SOL_CH_FLT, hSticky]; omega)),
      State.flag_raise_ne _ _ (by simp only [F.SOL_CH_FLT_SHORT, R.SOL_CH_FLT]; omega)]
    exact s.flag_put_one _ 0 (by decide)
  · rw [State.shortShown, State.flag_put_of_apart _ _ (.inl (by simp only [hSticky]; omega)), State.flag_raise _ _ hKindFlt]
  · rw [State.shortShown, State.raise_of_kind hKindFlt]
    rfl

/-- A short of a channel that is in no pair, and not in BOOST, switches off that channel alone. -/
theorem State.solShorted_of_alone {s : State} {n : Nat} (hn : n < 96) (hPhase : (s.shortShown n).phase n ≠ 2)
    (hLead : ((s.shortShown n).solProtect n).solPaired n = false)
    (hFollow : ((s.shortShown n).solProtect n).solFollows n = false) : s.solShorted n = (s.shortShown n).solProtect n := by
  have hOne : (s.shortShown n).solProtectOne n = (s.shortShown n).solProtect n := if_neg hPhase
  unfold State.solShorted
  dsimp only
  rw [(shortEvent_place hn).1, ← State.shortShown, hOne, hLead, hFollow]
  rfl

/-- The clause on shorts. -/
theorem solShort_effect (n : Fin 96) (s : State) (hKind : s.kind .sol = 1) (hHere : s.solHere n.val = true)
    (hHold : s.phase n.val = 5) (hLead : s.solPaired n.val = false) (hFollow : s.solFollows n.val = false)
    (hPoints : s.pointsOf 1 n.val = []) :
    ∃ t, exec (.solShort n) s = .next t ∧ t.flag (F.SOL_CH_FLT_SHORT n.val) = true ∧ t.phase n.val = 6 ∧
      t.flag (F.SOL_CH_STAT_FORCED n.val) = true ∧ s.occurred t (139 + 16 * dieOf n.val) ∧
      t.flag ⟨H.sticky .sol, 1 + dieOf n.val, 1⟩ = true ∧
      t = { s with regs := t.regs, occ := t.occ, sol := t.sol, armCh := t.armCh } ∧
      s.regsKept t [R.SOL_CH_STAT n.val, R.SOL_CH_FLT n.val, H.sticky .sol, R.SOL_BANK_STAT (bankOf n.val), R.ARM_CH_STAT n.val,
        R.ARM_DISC, (evBit (139 + 16 * dieOf n.val)).addr] := by
  have hn := n.isLt
  obtain ⟨hShort, ⟨hPending, hOcc⟩, hSticky⟩ := State.shortShown_effect hn hKind
  have hFrame := s.shortShown_frame n.val
  have hKept := s.shortShown_kept n.val
  obtain ⟨-, -, hStickyAt, hPlace⟩ := shortEvent_place hn
  have hPhase := (s.phase_shortShown hn).trans hHold
  have hPoints2 : (s.shortShown n.val).pointsOf 1 n.val = [] := by
    rw [State.pointsOf_of_kept hn hKept (by rw [hFrame]) (by rw [hFrame]), hPoints]
  obtain ⟨hRest, hDecay⟩ := State.solProtect_shorts hn hPhase hPoints2
  have hDrives := State.Drives.solProtect (s.shortShown n.val) n.val false
  have hOff := (s.shortShown n.val).solProtect_offForced hn false
  have hKeptAll : s.regsKept ((s.shortShown n.val).solProtect n.val) (shortRegs n.val) := fun a ha =>
    (hRest.kept a ha).trans (hKept a ha)
  have hCfg : ∀ m ≤ n.val, ((s.shortShown n.val).solProtect n.val).flag (F.SOL_CH_CFG_PAIR m) = s.flag (F.SOL_CH_CFG_PAIR m) :=
    fun m hm => State.flag_eq_of_word (hKeptAll _ (by
      simp only [shortRegs, List.mem_cons, List.not_mem_nil, or_false, hStickyAt, F.SOL_CH_CFG_PAIR, R.SOL_CH_CFG, R.SOL_CH_STAT,
        R.SOL_CH_FLT, R.SOL_BANK_STAT, R.ARM_CH_STAT, R.ARM_DISC]
      omega))
  have hAlone : ((s.shortShown n.val).solProtect n.val).solPaired n.val = false ∧
      ((s.shortShown n.val).solProtect n.val).solFollows n.val = false := by
    rw [State.solPaired, State.solFollows, hCfg _ (Nat.le_refl _), hCfg _ (Nat.sub_le _ _)]
    exact ⟨hLead, hFollow⟩
  have hExec : exec (.solShort n) s = .next ((s.shortShown n.val).solProtect n.val) := by
    show execSolShort n s = _
    rw [execSolShort, State.present, hKind, hHere,
      State.solShorted_of_alone hn (by rw [hPhase]; decide) hAlone.1 hAlone.2]
    rfl
  refine ⟨_, hExec, ?_, hDecay, hOff.forced, ⟨?_, ?_⟩, ?_, ?_, hKeptAll⟩
  · exact (hDrives.flag_flt hn 0).trans hShort
  · exact (hDrives.flag (by simp only [belowBanks]; omega)).trans hPending
  · rw [hRest.frame]
    exact hOcc
  · exact (hDrives.flag (by simp only [belowBanks, hStickyAt]; decide)).trans hSticky
  · have hOccRest : ((s.shortShown n.val).solProtect n.val).occ = (s.shortShown n.val).occ := by rw [hRest.frame]
    rw [hOccRest]
    exact hRest.frame.trans (by rw [hFrame])

end Sys2Proof.Machine
end

section
/-! Host writes that clear the latches of a channel (R392) and of a bank (R368). -/

namespace Sys2Proof.Machine

open Sys2Proof

/-! ## Registers of SOL whose write acts on a channel or a bank alone -/

/-- The register arrays that a write of SOL_CH_FLT or SOL_BANK_CTRL is none of, among those a write of SOL looks for. -/
def otherArrays : List ((Nat → Nat) × Nat) :=
  [(R.SOL_CH_CTRL, 96), (R.SOL_CH_CFG, 96), (R.SOL_CH_ISET, 96), (R.SOL_CH_DITHER, 96), (R.SOL_CH_DLIM, 96), (R.SOL_CH_I2T, 96),
   (R.SOL_DIE_BOOST, 2), (R.SOL_CH_CMD, 96), (R.ARM_CH_CTRL, 96), (R.HSW_CH_CMD, 24), (R.HSW_CH_FLT, 24), (R.CTL_LOOP_CMD, 32)]

/-- A register of SOL behind its header that is in none of them. -/
structure LatchWord (a : Nat) : Prop where
  region : a / 65536 = 12
  body : 0x24 ≤ a % 65536
  idle : ∀ x ∈ otherArrays, arrIdx a x.1 x.2 = none

theorem LatchWord.onIdx {a : Nat} (h : LatchWord a) :
    ∀ x ∈ otherArrays, ∀ (s : State) (f : State → Nat → State), s.onIdx a x.1 x.2 f = s := by
  intro x hx s f
  rw [State.onIdx, h.idle x hx]

/-- The register at `a` holds `w`, and nothing follows. -/
def State.stored (s : State) (a : Nat) (w : Word) : State := if s.word a = w then s else s.setWord a w

theorem State.stored_word (s : State) (a : Nat) : s.stored a (s.word a) = s := if_pos rfl

theorem State.word_stored_ne (s : State) {a r : Nat} (w : Word) (h : r ≠ a) : (s.stored a w).word r = s.word r := by
  unfold State.stored
  split
  · rfl
  · exact s.word_setWord_ne w h

theorem LatchWord.change {a : Nat} (h : LatchWord a) (s : State) (w : Word) : s.change a w = s.stored a w := by
  have hIdx := h.onIdx
  obtain ⟨hRegion, hBody, -⟩ := h
  have hCtrl : a % 65536 ≠ 8 := by omega
  simp only [otherArrays, List.forall_mem_cons] at hIdx
  simp only [State.change, State.onChange, State.blockChanged, hRegion, hCtrl, if_false, State.solChanged, hIdx, ite_self,
    State.stored]

theorem LatchWord.hostEffect {w : WordWrite} (h : LatchWord w.a) (s : State) (auth : Bool) (hit : Nat) :
    s.hostEffect auth .sol w hit = (s.onIdx w.a R.SOL_CH_FLT 96 State.solCleared).onIdx w.a R.SOL_BANK_CTRL 12 (fun s b =>
      if w.value ≠ 0 then (s.put (F.SOL_BANK_STAT_OC b) 0).solResume (bankChannels b) else s) := by
  have hIdx := h.onIdx
  obtain ⟨hRegion, hBody, -⟩ := h
  have hHeader : ¬ w.a % 65536 < 0x24 := by omega
  have hMap : w.a ≠ R.GEO_MAP_CMD := by simp only [R.GEO_MAP_CMD]; omega
  simp only [otherArrays, List.forall_mem_cons] at hIdx
  simp only [State.hostEffect, hHeader, if_false, State.driveEffect, hMap, false_and, hIdx]

/-- An accepted write of such a register. -/
theorem LatchWord.hostWrite {a : Nat} {m v : Word} {s : State} (h : LatchWord a) (hAdmits : s.admits false a m v) :
    s.hostWrite false a m v = (((s.stored a (s.written a m v)).onIdx
      a R.SOL_CH_FLT 96 State.solCleared).onIdx a R.SOL_BANK_CTRL 12 (fun s' b =>
        if (s.wordWrite a m v).value ≠ 0 then (s'.put (F.SOL_BANK_STAT_OC b) 0).solResume (bankChannels b) else s')).settled := by
  obtain ⟨b, hb, hWrite⟩ := State.hostWrite_of_admits hAdmits
  rw [h.region] at hb
  obtain rfl : Block.sol = b := Option.some.inj hb
  rw [hWrite, h.change, LatchWord.hostEffect (w := s.wordWrite a m v) h]
  rfl

/-- No setting and no personality takes bits of such a register from the host, and no safe state holds one. -/
theorem LatchWord.unmasked {a : Nat} (h : LatchWord a) (s : State) : s.absentBits a = 0 ∧ s.roNow a = 0 ∧ s.safeHolds a = 0 := by
  obtain ⟨hRegion, -, -⟩ := h
  have hFe : a ≠ R.GNSS_FE_CTRL := by simp only [R.GNSS_FE_CTRL]; omega
  have hNav : a ≠ R.NAV_CTRL := by simp only [R.NAV_CTRL]; omega
  have hCarr : arrIdx a R.GNSS_CH_CARR_NCO 192 = none :=
    arrIdx_eq_none_of_apart (by decide) (by simp only [R.GNSS_CH_CARR_NCO]; omega)
  have hCode : arrIdx a R.GNSS_CH_CODE_NCO 192 = none :=
    arrIdx_eq_none_of_apart (by decide) (by simp only [R.GNSS_CH_CODE_NCO]; omega)
  have hDuty : arrIdx a R.HSW_PG_DUTY 6 = none := arrIdx_eq_none_of_apart (by decide) (by simp only [R.HSW_PG_DUTY]; omega)
  have hCopy : ¬ (0x118000 ≤ a ∧ a < 0x120000 ∧ 0x40 ≤ a % 128) := by omega
  have hCfgEvt : a ≠ H.evt .cfg := by
    have : H.evt .cfg = 0x60010 := rfl
    omega
  have hPwrEvt : a ≠ H.evt .pwr := by
    have : H.evt .pwr = 0x30010 := rfl
    omega
  exact ⟨by simp [State.absentBits, hFe, hNav],
    by simp [State.roNow, State.fixedNow, State.ncoFixed, State.readCopyAt, hCarr, hCode, hDuty, hCopy],
    by simp [State.safeHolds, hCfgEvt, hPwrEvt]⟩

/-! ## SOL_CH_FLT -/

theorem solChFlt_latchWord : ∀ n < 96, LatchWord (R.SOL_CH_FLT n) := by
  have hIdle : ∀ n < 96, ∀ x ∈ otherArrays, arrIdx (R.SOL_CH_FLT n) x.1 x.2 = none := by decide +kernel
  exact fun n hn => ⟨by simp only [R.SOL_CH_FLT]; omega, by simp only [R.SOL_CH_FLT]; omega, hIdle n hn⟩

theorem arrIdx_solChFlt : ∀ n < 96, arrIdx (R.SOL_CH_FLT n) R.SOL_CH_FLT 96 = some n ∧
    arrIdx (R.SOL_CH_FLT n) R.SOL_BANK_CTRL 12 = none := by
  decide +kernel

/-- Its bits 0 to 3, SHORT, OPEN, THERM and BANK, are cleared by writing 1 (R392). -/
theorem solChFlt_bits : ∀ n < 96, reservedBits (R.SOL_CH_FLT n) = 0 ∧
    bitsWhere (fieldsAt (R.SOL_CH_FLT n)) (fun f => [Access.w1c].contains f.acc) = 15 := by
  decide +kernel

theorem flag_eq_getLsbD (s : State) (a i : Nat) : s.flag ⟨a, i, 1⟩ = (s.word a).getLsbD i := by
  rw [← BitVec.testBit_toNat, ← nbit_eq_testBit]
  rfl

theorem State.written_solChFlt (s : State) {n : Nat} (hn : n < 96) (v : Word) : ∀ i < 4,
    (s.written (R.SOL_CH_FLT n) (BitVec.allOnes 32) v).getLsbD i = ((s.word (R.SOL_CH_FLT n)).getLsbD i && !v.getLsbD i) := by
  obtain ⟨hReserved, hFields⟩ := solChFlt_bits n hn
  obtain ⟨hAbsent, hRo, hSafe⟩ := (solChFlt_latchWord n hn).unmasked s
  have hOpen : ∀ i < 4, (nbit 15 i && !nbit (0 ||| 0 ||| 0) i) = true ∧ nbit 0 i = false := by decide
  intro i hi
  refine (s.written_bits (R.SOL_CH_FLT n) v).2.1 i (by omega) ?_ ?_
  · rw [State.bitIs, hFields, hReserved, hAbsent, hRo]
    exact (hOpen i hi).1
  · rw [hSafe]
    exact (hOpen i hi).2

/-- A cleared latch makes no channel outside CURRENT mode resume. -/
theorem State.solCleared_stored (s : State) {n : Nat} (w : Word)
    (hMode : s.solMode (if s.solFollows n then n - 1 else n) ≠ 3) :
    (s.stored (R.SOL_CH_FLT n) w).solCleared n = s.stored (R.SOL_CH_FLT n) w := by
  have hCfg : ∀ m, (s.stored (R.SOL_CH_FLT n) w).word (R.SOL_CH_CFG m) = s.word (R.SOL_CH_CFG m) := fun m =>
    s.word_stored_ne w (by simp only [R.SOL_CH_CFG, R.SOL_CH_FLT]; omega)
  have hFollows : (s.stored (R.SOL_CH_FLT n) w).solFollows n = s.solFollows n := by
    rw [State.solFollows, State.solFollows, State.flag_eq_of_word (f := F.SOL_CH_CFG_PAIR (n - 1)) (hCfg (n - 1))]
  rw [State.solCleared, hFollows]
  exact State.solCurrent_of_mode (by rwa [State.solMode, State.get_eq_of_word (hCfg _)])

/-- The clause on the host's clear of a latch. -/
theorem solFltClear_effect (n : Fin 96) (m : Word) (s : State) (hAdmits : s.admitsSet (R.SOL_CH_FLT n.val) m.toNat)
    (hMode : s.solMode (if s.solFollows n.val then n.val - 1 else n.val) ≠ 3) :
    ∃ t, exec (.solFltClear n m) s = .next t ∧ t.lastErr = none ∧
      (∀ i, i < 4 → t.flag ⟨R.SOL_CH_FLT n.val, i, 1⟩ = (s.flag ⟨R.SOL_CH_FLT n.val, i, 1⟩ && !m.getLsbD i)) ∧
      t = { s with regs := t.regs, parity := none, lastErr := none } ∧ s.regsKept t [R.SOL_CH_FLT n.val] := by
  have hn := n.isLt
  obtain ⟨hOwn, hBank⟩ := arrIdx_solChFlt n.val hn
  rw [State.admitsSet, BitVec.ofNat_toNat, BitVec.setWidth_eq] at hAdmits
  obtain ⟨hWord, hFrame, hKept⟩ := s.stores_ite_setWord (R.SOL_CH_FLT n.val) (s.written (R.SOL_CH_FLT n.val) (BitVec.allOnes 32) m)
  have hCleared := s.solCleared_stored (s.written (R.SOL_CH_FLT n.val) (BitVec.allOnes 32) m) hMode
  refine ⟨_, ?_, hFrame ▸ rfl, fun i hi => ?_, hFrame, hKept⟩
  · show execSolFltClear n m s = _
    rw [execSolFltClear, State.hostSet, BitVec.ofNat_toNat, BitVec.setWidth_eq, (solChFlt_latchWord n.val hn).hostWrite hAdmits,
      State.onIdx, hBank, State.onIdx, hOwn]
    exact congrArg (fun u => Host.Outcome.next (State.settled u)) hCleared
  · rw [flag_eq_getLsbD, hWord, flag_eq_getLsbD, s.written_solChFlt hn m i hi]

end Sys2Proof.Machine
end

section
/-! The banks' latches that the host clears, and the protection of the drive as a whole (O39). -/

namespace Sys2Proof.Machine

open Sys2Proof

/-! ## SOL_BANK_CTRL -/

theorem solBankCtrl_latchWord : ∀ b < 12, LatchWord (R.SOL_BANK_CTRL b) := by
  have hIdle : ∀ b < 12, ∀ x ∈ otherArrays, arrIdx (R.SOL_BANK_CTRL b) x.1 x.2 = none := by decide +kernel
  exact fun b hb => ⟨by simp only [R.SOL_BANK_CTRL]; omega, by simp only [R.SOL_BANK_CTRL]; omega, hIdle b hb⟩

theorem arrIdx_solBankCtrl : ∀ b < 12, arrIdx (R.SOL_BANK_CTRL b) R.SOL_BANK_CTRL 12 = some b ∧
    arrIdx (R.SOL_BANK_CTRL b) R.SOL_CH_FLT 96 = none := by
  decide +kernel

/-- Its one field, CLR, is WO (R368). -/
theorem solBankCtrl_fieldsAt : ∀ b < 12, fieldsAt (R.SOL_BANK_CTRL b) = [⟨0, 1, .wo, false, 0, .any, false⟩] := by
  decide +kernel

/-- A write of WO fields alone stores nothing. -/
theorem State.written_solBankCtrl (s : State) {b : Nat} (hb : b < 12) (m v : Word) :
    s.written (R.SOL_BANK_CTRL b) m v = s.word (R.SOL_BANK_CTRL b) := by
  have hRw : bitsWhere (fieldsAt (R.SOL_BANK_CTRL b)) (fun f => f.acc == .rw || f.acc == .rwl || f.acc == .rwo) = 0 := by
    rw [solBankCtrl_fieldsAt b hb]
    rfl
  have hW1c : accBits (R.SOL_BANK_CTRL b) .w1c = 0 := by
    rw [accBits, solBankCtrl_fieldsAt b hb]
    rfl
  have hKeep : ∀ x : Word, mergeBits x 0 v = x := fun x => BitVec.eq_of_getLsbD_eq fun k hk => by
    rw [getLsbD_mergeBits x v 0 hk, Nat.zero_testBit]
    rfl
  simp only [State.written, hRw, hW1c, Nat.zero_and, hKeep, BitVec.zero_and, BitVec.not_zero, BitVec.and_allOnes]

/-- The clause on BANK_CLR. -/
theorem bankClr_effect (b : Fin 12) (s : State) (hAdmits : s.admits false (R.SOL_BANK_CTRL b.val) 1 (BitVec.allOnes 32))
    (hMode : ∀ n ∈ bankChannels b.val, s.solMode n ≠ 3) :
    exec (.bankClr b) s = .next (s.put (F.SOL_BANK_STAT_OC b.val) 0).settled := by
  obtain ⟨hOwn, hFlt⟩ := arrIdx_solBankCtrl b.val b.isLt
  have hValue : (s.wordWrite (R.SOL_BANK_CTRL b.val) 1 (BitVec.allOnes 32)).value ≠ 0 := by
    rw [State.wordWrite, solBankCtrl_fieldsAt b.val b.isLt]
    dsimp only
    decide
  show execBankClr b s = _
  rw [execBankClr, State.hostBits]
  refine congrArg Host.Outcome.next (((solBankCtrl_latchWord b.val b.isLt).hostWrite hAdmits).trans ?_)
  rw [s.written_solBankCtrl b.isLt, State.stored_word, State.onIdx, hOwn, State.onIdx, hFlt]
  dsimp only
  rw [if_pos hValue]
  exact congrArg State.settled (s.solResume_put_bank b.val 0 hMode)

/-! ## The end of an under-voltage -/

/-- The clause on BANK_UV_END. -/
theorem bankUvEnd_effect (b : Fin 12) (s : State) (hUv : s.flag (F.SOL_BANK_STAT_UV b.val) = true)
    (hMode : ∀ n ∈ bankChannels b.val, s.solMode n ≠ 3) :
    exec (.bankUvEnd b) s = .next (s.put (F.SOL_BANK_STAT_UV b.val) 0) := by
  show execBankUvEnd b s = _
  rw [execBankUvEnd, if_pos hUv]
  exact congrArg Host.Outcome.next (s.solResume_put_bank b.val 1 hMode)

theorem bankUvEnd_idle (b : Fin 12) (s : State) (hUv : s.flag (F.SOL_BANK_STAT_UV b.val) = false) :
    exec (.bankUvEnd b) s = .next s := by
  show execBankUvEnd b s = _
  rw [execBankUvEnd, hUv]
  rfl

/-- Settles O39, one lemma for each command: what protection does to a channel is said once (`solProtect_offForced`), and what
the drive leaves alone is carried over the channels of a bank or a die (`State.Drives`). -/
theorem solenoidProtection : Obligations.SolenoidProtection := by
  unfold Obligations.SolenoidProtection
  refine ⟨solShort_effect, solFltClear_effect, dieTjSample_effect, boostOv_effect, boostUv_effect, fun d s => ⟨rfl, rfl⟩,
    bankFault_effect, bankUvEnd_idle, bankUvEnd_effect, bankClr_effect, fun d s => rfl, dieLinkTimeout_effect⟩

end Sys2Proof.Machine
end

section
/-! Request frames as byte strings (R56). -/

namespace Sys2Proof.Machine

open Sys2Proof

/-! ## Numbers as bytes (R13) -/

@[simp] theorem leBytes_length (n : Nat) : ∀ v : Nat, (leBytes n v).length = n := by
  induction n with
  | zero => exact fun _ => rfl
  | succ n ih => exact fun v => congrArg (· + 1) (ih _)

theorem leNat_leBytes (n : Nat) : ∀ v : Nat, leNat (leBytes n v) = v % 256 ^ n := by
  induction n with
  | zero => exact fun v => (Nat.mod_one v).symm
  | succ n ih =>
    intro v
    rw [leBytes, leNat, ih, BitVec.toNat_ofNat, Nat.pow_succ' (n := n), ← Nat.mod_mul]

theorem leNat_leBytes_of_lt {n v : Nat} (h : v < 256 ^ n) : leNat (leBytes n v) = v := by
  rw [leNat_leBytes, Nat.mod_eq_of_lt h]

theorem leBytes_leNat : ∀ l : List Byte, leBytes l.length (leNat l) = l
  | [] => rfl
  | b :: t => by
    have hHead : BitVec.ofNat 8 (b.toNat + 256 * leNat t) = b := by
      apply BitVec.eq_of_toNat_eq
      rw [BitVec.toNat_ofNat]
      have := b.isLt
      omega
    have hTail : (b.toNat + 256 * leNat t) / 256 = leNat t := by
      have := b.isLt
      omega
    rw [List.length_cons, leNat, leBytes, hHead, hTail, leBytes_leNat t]

theorem leNat_lt : ∀ l : List Byte, leNat l < 256 ^ l.length
  | [] => Nat.one_pos
  | b :: t => by
    have hTail := leNat_lt t
    have hByte := b.isLt
    rw [leNat, List.length_cons, Nat.pow_succ']
    omega

/-- The bytes of a word that was read from as many bytes. -/
theorem leBytes_ofNat_leNat {n w : Nat} {l : List Byte} (hl : l.length = n) (hw : 256 ^ n = 2 ^ w) :
    leBytes n (BitVec.ofNat w (leNat l)).toNat = l := by
  rw [BitVec.toNat_ofNat, ← hw, ← hl, Nat.mod_eq_of_lt (leNat_lt l), leBytes_leNat]

/-- The word read from the bytes of a word. -/
theorem ofNat_leNat_leBytes {n w : Nat} (hw : 2 ^ w = 256 ^ n) (x : BitVec w) :
    BitVec.ofNat w (leNat (leBytes n x.toNat)) = x := by
  rw [leNat_leBytes_of_lt (hw ▸ x.isLt), BitVec.ofNat_toNat, BitVec.setWidth_eq]

/-! ## The parts of a frame -/

theorem take_eq_map_getD {n : Nat} {b : List Byte} (h : n ≤ b.length) : b.take n = (List.range n).map (fun i => b.getD i 0) := by
  apply List.ext_getElem
  · simp [h]
  · intro i hi _
    have : i < b.length := by simp at hi; omega
    simp [this]

/-- The twelve bytes before the body. -/
def Request.firstBytes (r : Request) (opc : Byte) : List Byte :=
  [r.flags, r.dev, r.org, r.seq, opc, r.hcrc] ++ leBytes 2 r.len.toNat ++ leBytes 4 r.addr.toNat

theorem request_frame_eq (r : Request) (opc : Byte) :
    r.frame opc = Request.firstBytes r opc ++ (r.body ++ (r.trailer ++ leBytes 4 r.crc.toNat)) := by
  simp [Request.frame, Request.plainBytes, Request.firstBytes]

theorem firstBytes_length (r : Request) (opc : Byte) : (Request.firstBytes r opc).length = 12 := by
  simp [Request.firstBytes]

theorem frame_length (r : Request) (opc : Byte) : (r.frame opc).length = 16 + r.body.length + r.trailer.length := by
  simp only [request_frame_eq, List.length_append, firstBytes_length, leBytes_length]
  omega

/-- A frame whose trailer is as long as its AUTH bit asks is taken apart into the request that it carries. -/
theorem parseFrame_frame_waiting (opc : Byte) (r : Request) (w : Nat) (h : r.trailer.length = if r.auth then 20 else 0) :
    parseFrame (r.frame opc) w = some (opc, { r with waiting := w }) := by
  have hLen := frame_length r opc
  have hFlags : (r.frame opc).getD 0 0 = r.flags := rfl
  have hTail : (if (r.flags.getLsbD 5 && decide (36 ≤ (r.frame opc).length)) = true then 24 else 4) = r.trailer.length + 4 := by
    have hAuth : r.flags.getLsbD 5 = r.auth := rfl
    rw [hAuth]
    cases hIs : r.auth with
    | false => rw [h, hIs]; rfl
    | true =>
      rw [hIs, if_pos rfl] at h
      rw [h, Bool.true_and, if_pos (decide_eq_true (by omega))]
  have hLenBytes : ((r.frame opc).drop 6).take 2 = leBytes 2 r.len.toNat := rfl
  have hAddrBytes : ((r.frame opc).drop 8).take 4 = leBytes 4 r.addr.toNat := rfl
  have hRest : ∀ k, (r.frame opc).drop (12 + k) = (r.body ++ (r.trailer ++ leBytes 4 r.crc.toNat)).drop k := by
    intro k
    rw [request_frame_eq, ← firstBytes_length r opc, List.drop_length_add_append]
  have hBody : ((r.frame opc).drop 12).take ((r.frame opc).length - 12 - (r.trailer.length + 4)) = r.body := by
    rw [hRest 0, hLen, show 16 + r.body.length + r.trailer.length - 12 - (r.trailer.length + 4) = r.body.length by omega]
    exact List.take_left
  have hTrailer : ((r.frame opc).drop ((r.frame opc).length - (r.trailer.length + 4))).take (r.trailer.length + 4 - 4) =
      r.trailer := by
    rw [hLen, show 16 + r.body.length + r.trailer.length - (r.trailer.length + 4) = 12 + r.body.length by omega, hRest,
      List.drop_left, Nat.add_sub_cancel, List.take_left]
  have hCrc : (r.frame opc).drop ((r.frame opc).length - 4) = leBytes 4 r.crc.toNat := by
    rw [hLen, show 16 + r.body.length + r.trailer.length - 4 = 12 + (r.body.length + r.trailer.length) by omega, hRest,
      List.drop_length_add_append, List.drop_left]
  have hEnough : ¬ (r.frame opc).length < 16 := by omega
  simp only [parseFrame, if_neg hEnough, hFlags, hTail, hBody, hTrailer, hCrc, hLenBytes, hAddrBytes]
  rw [ofNat_leNat_leBytes (by decide), ofNat_leNat_leBytes (by decide), ofNat_leNat_leBytes (by decide)]
  rfl

/-- What a string of 16 bytes or more is taken apart into spells that string. -/
theorem frame_of_parseFrame {b : List Byte} {w : Nat} {opc : Byte} {r : Request} (h : parseFrame b w = some (opc, r)) :
    r.frame opc = b ∧ r.waiting = w := by
  unfold parseFrame at h
  split at h
  · cases h
  next hShort =>
  dsimp only at h
  generalize hTail : (if ((b.getD 0 0).getLsbD 5 && decide (36 ≤ b.length)) = true then 24 else 4) = tail at h
  have hLong : 4 ≤ tail ∧ 12 + tail ≤ b.length := by
    rw [← hTail]
    split
    · next hAuth => simp only [Bool.and_eq_true, decide_eq_true_eq] at hAuth; omega
    · omega
  obtain ⟨rfl, rfl⟩ := Prod.mk.inj (Option.some.inj h)
  refine ⟨?_, rfl⟩
  have hCrc : leBytes 4 (BitVec.ofNat 32 (leNat (b.drop (b.length - 4)))).toNat = b.drop (b.length - 4) :=
    leBytes_ofNat_leNat (by rw [List.length_drop]; omega) (by decide)
  have hLen : leBytes 2 (BitVec.ofNat 16 (leNat ((b.drop 6).take 2))).toNat = (b.drop 6).take 2 :=
    leBytes_ofNat_leNat (by rw [List.length_take, List.length_drop]; omega) (by decide)
  have hAddr : leBytes 4 (BitVec.ofNat 32 (leNat ((b.drop 8).take 4))).toNat = (b.drop 8).take 4 :=
    leBytes_ofNat_leNat (by rw [List.length_take, List.length_drop]; omega) (by decide)
  have hTrailer : (b.drop (b.length - tail)).take (tail - 4) ++ b.drop (b.length - 4) = b.drop (b.length - tail) := by
    rw [show b.length - 4 = b.length - tail + (tail - 4) by omega, ← List.drop_drop, List.take_append_drop]
  have hBody : (b.drop 12).take (b.length - 12 - tail) ++ b.drop (b.length - tail) = b.drop 12 := by
    rw [show b.length - tail = 12 + (b.length - 12 - tail) by omega, ← List.drop_drop, List.take_append_drop]
  have hLead : [b.getD 0 0, b.getD 1 0, b.getD 2 0, b.getD 3 0, b.getD 4 0, b.getD 5 0] ++ (b.drop 6).take 2 ++ (b.drop 8).take 4 =
      b.take 12 := by
    rw [List.append_assoc, show (b.drop 8).take 4 = ((b.drop 6).drop 2).take 4 by rw [List.drop_drop], ← List.take_add,
      show [b.getD 0 0, b.getD 1 0, b.getD 2 0, b.getD 3 0, b.getD 4 0, b.getD 5 0] = b.take 6 from
        (take_eq_map_getD (n := 6) (by omega)).symm, ← List.take_add]
  simp only [request_frame_eq, Request.firstBytes, hLen, hAddr, hCrc, hTrailer, hBody, hLead, List.take_append_drop]

/-- Settles O5: the parts of a frame stand at fixed places from its two ends. -/
theorem requestFramesRoundTrip : Obligations.RequestFramesRoundTrip := by
  refine ⟨fun opc r h => parseFrame_frame_waiting opc r r.waiting h, fun b w hLong => ?_⟩
  obtain ⟨⟨opc, r⟩, hParse⟩ : ∃ x, parseFrame b w = some x := by
    simp only [parseFrame, if_neg (Nat.not_lt.mpr hLong)]
    exact ⟨_, rfl⟩
  exact ⟨opc, r, hParse, frame_of_parseFrame hParse⟩

end Sys2Proof.Machine
end

section
/-! Changes of registers alone, and what they leave. -/

namespace Sys2Proof.Machine

open Sys2Proof

/-! ## Registers that are kept -/

namespace State.regsKept

theorem refl (s : State) (as : List Nat) : s.regsKept s as := fun _ _ => rfl

theorem mono {s t : State} {as bs : List Nat} (h : s.regsKept t as) (hSub : as ⊆ bs) : s.regsKept t bs :=
  fun a ha => h a fun hMem => ha (hSub hMem)

theorem trans {s t u : State} {as : List Nat} (h : s.regsKept t as) (k : t.regsKept u as) : s.regsKept u as :=
  fun a ha => (k a ha).trans (h a ha)

theorem put (s : State) {f : Fld} (v : Nat) {as : List Nat} (h : f.addr ∈ as) : s.regsKept (s.put f v) as :=
  fun _ ha => s.word_put_ne f v fun e => ha (e ▸ h)

theorem setWord (s : State) {b : Nat} (w : Word) {as : List Nat} (h : b ∈ as) : s.regsKept (s.setWord b w) as :=
  fun _ ha => s.word_setWord_ne w fun e => ha (e ▸ h)

theorem raise (s : State) {e : Nat} {as : List Nat} (h : (evBit e).addr ∈ as) : s.regsKept (s.raise e) as :=
  fun _ ha => s.word_raise_ne e fun he => ha (he ▸ h)

theorem count (s : State) {f : Fld} (k : Nat) {as : List Nat} (h : f.addr ∈ as) : s.regsKept (s.count f k) as := put s _ h

theorem modLink {s t : State} {as : List Nat} (h : s.regsKept t as) (f : LinkState → LinkState) : s.regsKept (t.modLink f) as := h

theorem emit {s t : State} {as : List Nat} (h : s.regsKept t as) (x : Sent) : s.regsKept (t.emit x) as := h

theorem passOn {s t : State} {as : List Nat} (h : s.regsKept t as) (p : Port) (b : List Byte) : s.regsKept (t.passOn p b) as := h

/-- Registers are all that matters. -/
theorem of_regs {s t u : State} {as : List Nat} (h : s.regsKept t as) (hr : u.regs = t.regs) : s.regsKept u as :=
  fun a ha => by rw [State.word, hr]; exact h a ha

theorem get {s t : State} {as : List Nat} (h : s.regsKept t as) {f : Fld} (hf : f.addr ∉ as) : t.get f = s.get f :=
  State.get_eq_of_word (h f.addr hf)

theorem flag {s t : State} {as : List Nat} (h : s.regsKept t as) {f : Fld} (hf : f.addr ∉ as) : t.flag f = s.flag f :=
  State.flag_eq_of_word (h f.addr hf)

theorem kind {s t : State} {as : List Nat} (h : s.regsKept t as) (hPers : R.CFG_PERSONALITY ∉ as) (hSafe : R.CFG_FTG_STATE ∉ as)
    (hFailed : t.failed = s.failed) (b : Block) : t.kind b = s.kind b :=
  State.kind_congr (h _ hPers) (h _ hSafe) hFailed b

end State.regsKept

/-- From `s` to `t` the registers at `as` may have changed, and nothing else has. -/
structure State.Puts (s t : State) (as : List Nat) : Prop where
  frame : t = { s with regs := t.regs }
  kept : s.regsKept t as

namespace State.Puts

theorem refl (s : State) (as : List Nat) : s.Puts s as := ⟨rfl, .refl s as⟩

theorem trans {s t u : State} {as : List Nat} (h : s.Puts t as) (k : t.Puts u as) : s.Puts u as :=
  ⟨by rw [k.frame, h.frame], h.kept.trans k.kept⟩

theorem mono {s t : State} {as bs : List Nat} (h : s.Puts t as) (hSub : as ⊆ bs) : s.Puts t bs := ⟨h.frame, h.kept.mono hSub⟩

theorem put (s : State) {f : Fld} (v : Nat) {as : List Nat} (h : f.addr ∈ as) : s.Puts (s.put f v) as := ⟨rfl, .put s v h⟩

theorem count (s : State) {f : Fld} (k : Nat) {as : List Nat} (h : f.addr ∈ as) : s.Puts (s.count f k) as := put s _ h

end State.Puts

/-! ## One-bit fields -/

theorem State.flag_put_same {s : State} {f : Fld} (v : Nat) (h : f.lo + f.w ≤ 32) : (s.put f v).flag f = (v % 2 ^ f.w == 1) := by
  rw [State.flag, State.get_put_same s f v h]

/-- A 16-bit counter that is raised saturates at 0xFFFF. -/
theorem State.get_count16 (s : State) {f : Fld} (k : Nat) (h : f.lo + f.w ≤ 32) (hw : f.w = 16) :
    (s.count f k).get f = min (s.get f + k) 0xFFFF := by
  rw [State.get_count_same s f k h, hw]
  rfl

theorem State.get_count_ne (s : State) {f g : Fld} (k : Nat) (h : g.addr ≠ f.addr) : (s.count f k).get g = s.get g :=
  s.get_put_addr _ h

/-- An event of a present block occurs. -/
theorem State.occurred_raise {s : State} {e : Nat} (h : s.kind (evOwner e) = 1) : s.occurred (s.raise e) e :=
  ⟨s.flag_raise e h, by rw [State.raise_of_kind h]⟩

end Sys2Proof.Machine
end

section
/-! Frames that arrive at a ring port or in SPI mode: which checks they meet, and where they go on (R50, R54, R63, R72, R73). -/

namespace Sys2Proof.Machine

open Sys2Proof

/-! ## Arrival -/

/-- In ring mode with the link clocked a frame that arrives is received. -/
theorem State.arrive_eq {s : State} (hUp : s.linkUp = true) (hRing : s.spi = false) (p : Port) (opc : Byte) (r : Request) :
    s.arrive p opc r = s.received p opc r := by
  simp [State.arrive, hUp, hRing]

theorem State.arriveBytes_eq {s : State} {b : List Byte} {opc : Byte} {r : Request} (h : parseFrame b 0 = some (opc, r)) (p : Port) :
    s.arriveBytes p b = s.arrive p opc r := by
  simp only [State.arriveBytes, h]

theorem exec_of_unicastRows (p : Port) (r : Request) (s : State) : ∀ co ∈ unicastRows p r, exec co.1 s = .next (s.arrive p co.2 r) := by
  simp only [unicastRows, List.forall_mem_cons]
  exact ⟨rfl, rfl, rfl, rfl, rfl, rfl, rfl, rfl, rfl, fun _ h => nomatch h⟩

/-- The commands that are the arrival of a frame, each with its opcode. -/
theorem exec_of_frameRows (p : Port) (r : Request) (s : State) :
    ∀ co ∈ [(Instr.status p r, (0 : Byte)), (.read p r, 1), (.write p r, 2), (.writeMask p r, 3), (.lanePush p r, 4),
      (.lanePop p r, 5), (.enum p r, 6), (.sessionHello p r, 7), (.sessionFinish p r, 7), (.sessionEnd p r, 7),
      (.broadcastRequest p false r, 2), (.broadcastRequest p true r, 3)], exec co.1 s = .next (s.arrive p co.2 r) := by
  simp only [List.forall_mem_cons]
  exact ⟨rfl, rfl, rfl, rfl, rfl, rfl, rfl, rfl, rfl, rfl, rfl, rfl, fun _ h => nomatch h⟩

theorem exec_forwardFrame (p : Port) (b : List Byte) (s : State) : exec (.forwardFrame p b) s = .next (s.arriveBytes p b) := rfl

theorem hasAddr_count (s : State) {f : Fld} (k : Nat) (h : R.SYS_LINK_MODE ≠ f.addr) : (s.count f k).hasAddr = s.hasAddr :=
  State.flag_eq_of_word (s.word_put_ne f _ h)

/-! ## The link's own state holds no register -/

@[simp] theorem State.word_modLink (s : State) (f : LinkState → LinkState) (a : Nat) : (s.modLink f).word a = s.word a := rfl

@[simp] theorem State.get_modLink (s : State) (f : LinkState → LinkState) (g : Fld) : (s.modLink f).get g = s.get g := rfl

@[simp] theorem State.flag_modLink (s : State) (f : LinkState → LinkState) (g : Fld) : (s.modLink f).flag g = s.flag g := rfl

@[simp] theorem State.get_emit (s : State) (x : Sent) (g : Fld) : (s.emit x).get g = s.get g := rfl

@[simp] theorem State.get_passOn (s : State) (p : Port) (b : List Byte) (g : Fld) : (s.passOn p b).get g = s.get g := rfl

@[simp] theorem State.flag_passOn (s : State) (p : Port) (b : List Byte) (g : Fld) : (s.passOn p b).flag g = s.flag g := rfl

/-! ## A bad header (R63, R72) -/

/-- What a frame with a bad header leaves: it is counted, once more where it is a broadcast at a module with an address. -/
structure State.BadHead (s t : State) (more : Bool) : Prop where
  hdrErr : t.get F.SYS_LINK_HDRERR = min (s.get F.SYS_LINK_HDRERR + 1) 0xFFFF
  bErr : t.get F.SYS_LINK_BERR = min (s.get F.SYS_LINK_BERR + bit more) 0xFFFF
  puts : s.Puts t [R.SYS_LINK_HDRERR, R.SYS_LINK_BERR]

theorem State.received_badHead {s : State} {opc : Byte} {r : Request} (h : hcrc (r.headBytes opc) ≠ r.hcrc) (p : Port) :
    s.BadHead (s.received p opc r) (r.bcast && !r.rpl && s.hasAddr) := by
  have hHdr : (s.count F.SYS_LINK_HDRERR 1).get F.SYS_LINK_HDRERR = min (s.get F.SYS_LINK_HDRERR + 1) 0xFFFF :=
    s.get_count16 1 (by decide) rfl
  have hPuts : s.Puts (s.count F.SYS_LINK_HDRERR 1) [R.SYS_LINK_HDRERR, R.SYS_LINK_BERR] := .count s 1 (by simp [F.SYS_LINK_HDRERR])
  have hBerr : (s.count F.SYS_LINK_HDRERR 1).get F.SYS_LINK_BERR = s.get F.SYS_LINK_BERR := s.get_count_ne 1 (by decide)
  have hAddr := hasAddr_count s (f := F.SYS_LINK_HDRERR) 1 (by decide)
  rw [State.received, if_pos h]
  dsimp only
  rw [hAddr]
  cases hMore : (r.bcast && !r.rpl && s.hasAddr) with
  | false =>
    refine ⟨hHdr, ?_, hPuts⟩
    have hLt := s.get_lt F.SYS_LINK_BERR
    have hw : F.SYS_LINK_BERR.w = 16 := rfl
    rw [hw] at hLt
    rw [if_neg Bool.false_ne_true, hBerr]
    simp only [bit, Bool.false_eq_true, if_false]
    omega
  | true =>
    rw [if_pos rfl, State.bcastErr]
    refine ⟨?_, ?_, hPuts.trans (.count _ 1 (by simp [F.SYS_LINK_BERR]))⟩
    · rw [State.get_count_ne _ _ (by decide), hHdr]
    · rw [State.get_count16 _ 1 (by decide) rfl, hBerr]
      rfl

/-! ## SPI mode (R50) -/

theorem State.spiOut_of_nil {s : State} (h : s.link.spiReply = []) (n : Nat) : s.spiOut n = s := by
  simp only [State.spiOut, h]

theorem exec_spiTransaction {s : State} (hSpi : s.spi = true) (hUp : s.linkUp = true) (hVio : s.flag F.PWR_STAT_VIO_OK = true)
    (mosi : List Byte) (w : Nat) : exec (.spiTransaction mosi w) s = .next (match mosi.dropWhile (fun b => b == 0) with
      | [] => s.spiOut mosi.length
      | b :: t => if b = 0x5A then (s.spiOut mosi.length).spiRequest t w else (s.spiOut mosi.length).count F.SYS_LINK_HDRERR 1) := by
  show execSpiTransaction mosi w s = _
  simp only [execSpiTransaction, hSpi, hUp, hVio]
  rfl

/-- A frame of 36 bytes or more is taken apart, with opcode and flags at their places. -/
theorem parseFrame_of_long {b : List Byte} (w : Nat) (h : 16 ≤ b.length) :
    ∃ r, parseFrame b w = some (b.getD 4 0, r) ∧ r.flags = b.getD 0 0 := by
  simp only [parseFrame, if_neg (Nat.not_lt.mpr h)]
  exact ⟨_, rfl, rfl⟩

/-- A whole STATUS request without AUTH after the start byte is received. -/
theorem State.spiRequest_status (s : State) {r : Request} (w : Nat) (hAuth : r.auth = false) (hBody : r.body = [])
    (hTrailer : r.trailer = []) : s.spiRequest (r.frame 0) w = s.received .inp 0 { r with waiting := w } := by
  have hLen : (r.frame 0).length = 16 := by rw [frame_length, hBody, hTrailer]; rfl
  have hSpi : spiLength (r.frame 0) = 16 := by
    obtain ⟨q, hq, hFlags⟩ := parseFrame_of_long (b := (r.frame 0).take 12 ++ List.replicate 24 0) 0 (by simp)
    have hqAuth : q.auth = false := by
      have hEq : q.flags = r.flags := hFlags
      rw [Request.auth, hEq]
      exact hAuth
    simp only [spiLength, hq, hqAuth]
    rfl
  have hParse : parseFrame ((r.frame 0).take 16) w = some (0, { r with waiting := w }) := by
    rw [List.take_of_length_le (by omega)]
    exact parseFrame_frame_waiting 0 r w (by simp [hAuth, hTrailer])
  simp only [State.spiRequest, hLen, hSpi, hParse]
  rfl

/-- With no reply waiting, a transaction of the start byte and a STATUS request is that request's arrival. -/
theorem exec_spiStatus {s : State} {r : Request} (hSpi : s.spi = true) (hUp : s.linkUp = true)
    (hVio : s.flag F.PWR_STAT_VIO_OK = true) (hReply : s.link.spiReply = []) (w : Nat) (hAuth : r.auth = false) (hBody : r.body = [])
    (hTrailer : r.trailer = []) :
    exec (.spiTransaction (0x5A :: r.frame 0) w) s = .next (s.received .inp 0 { r with waiting := w }) := by
  rw [exec_spiTransaction hSpi hUp hVio, State.spiOut_of_nil hReply, List.dropWhile_cons_of_neg (by decide)]
  simp only [if_true, s.spiRequest_status w hAuth hBody hTrailer]

/-- Settles O12: a bad HCRC is the first check that `received` makes, and every arrival comes to it. -/
theorem badHeaderIsCountedAndDropped : Obligations.BadHeaderIsCountedAndDropped := by
  refine ⟨fun p r s co hCo hUp hRing hBad => ?_, fun p b opc r s hUp hRing hParse hBad => ?_,
    fun b w r s hUp hSpi hVio hReply hb hAuth hBody hTrailer hBad => ?_⟩
  · obtain ⟨hHdr, hBerr, hPuts⟩ := State.received_badHead (s := s) hBad p
    refine ⟨_, exec_of_frameRows p r s co hCo, ?_⟩
    rw [State.arrive_eq hUp hRing]
    exact ⟨hHdr, hBerr, hPuts.frame, hPuts.kept⟩
  · obtain ⟨hHdr, hBerr, hPuts⟩ := State.received_badHead (s := s) hBad p
    refine ⟨_, exec_forwardFrame p b s, ?_⟩
    rw [State.arriveBytes_eq hParse, State.arrive_eq hUp hRing]
    exact ⟨hHdr, hBerr, hPuts.frame, hPuts.kept⟩
  · subst hb
    obtain ⟨hHdr, hBerr, hPuts⟩ := State.received_badHead (s := s) (r := { r with waiting := w }) hBad .inp
    refine ⟨_, exec_spiStatus hSpi hUp hVio hReply w hAuth hBody hTrailer, hHdr, hBerr, hPuts.frame, hPuts.kept⟩

/-- Settles O10: the bytes of a transaction after its fill bytes decide what it carries. -/
theorem spiTransactionCarriesOneRequest : Obligations.SpiTransactionCarriesOneRequest := by
  refine ⟨fun r s hSpi hUp hVio hReply hAuth hBody hTrailer => ?_, fun f l n s hSpi hUp hVio hReply => ?_,
    fun b l s hSpi hUp hVio hReply hFill hStart => ?_⟩
  · exact exec_spiStatus hSpi hUp hVio hReply r.waiting hAuth hBody hTrailer
  · have hFill : (List.replicate n (0 : Byte)).dropWhile (fun b => b == 0) = [] := by simp
    rw [exec_spiTransaction hSpi hUp hVio, hFill, List.length_replicate]
    simp only [State.spiOut, hReply]
    split
    · rfl
    · simp only [State.emit, State.modLink, hReply]
  · rw [exec_spiTransaction hSpi hUp hVio, State.spiOut_of_nil hReply, List.dropWhile_cons_of_neg (by simpa using hFill)]
    simp only [if_neg hStart]

end Sys2Proof.Machine
end

section
/-! Frames that go on, broadcasts and ENUM (R54, R72, R73, R79). -/

namespace Sys2Proof.Machine

open Sys2Proof

/-! ## Which way frames go -/

theorem State.wrapped_congr {s t : State} (h : t.word R.SYS_LINK_STATE = s.word R.SYS_LINK_STATE) (p : Port) :
    t.wrapped p = s.wrapped p := by
  cases p <;> simp only [State.wrapped, State.flag, State.get, F.SYS_LINK_STATE_WRAPIN, F.SYS_LINK_STATE_WRAPOUT,
    F.SYS_LINK_STATE_INST, F.SYS_LINK_STATE_OUTST, h]

theorem State.onward_congr {s t : State} (h : t.word R.SYS_LINK_STATE = s.word R.SYS_LINK_STATE) (p : Port) :
    t.onward p = s.onward p := by
  simp only [State.onward, State.wrapped_congr h]

theorem State.origin_of_fromHost {r : Request} (h : r.fromHost = true) (s : State) : s.origin r = .host := by
  simp only [State.origin, h, if_true]

/-- A frame that is not for this module, and not a broadcast, goes on as it is. -/
theorem State.received_transit {s : State} {opc : Byte} {r : Request} (hRing : s.spi = false) (hHead : hcrc (r.headBytes opc) = r.hcrc)
    (hKind : r.rpl = true ∨ r.bcast = false ∧ crcGood opc r = true)
    (hOther : r.rpl = false → s.hasAddr = true → r.dev.toNat % 64 ≠ s.myAddr) (hOrigin : s.origin r ≠ .self) (p : Port) :
    s.received p opc r = s.passOn p (r.frame opc) := by
  have hTransit : s.transit p opc r = s.passOn p (r.frame opc) := by
    have hCount : (!r.rpl && !crcGood opc r) = false := by
      rcases hKind with h | ⟨-, h⟩ <;> simp [h]
    simp [State.transit, hCount, hRing, hOrigin]
  cases hRpl : r.rpl with
  | true => simp only [State.received, hHead, ne_eq, not_true, if_false, hRpl, if_true, hTransit]
  | false =>
    have hBcast : r.bcast = false := by
      rcases hKind with h | ⟨h, -⟩
      · rw [hRpl] at h; cases h
      · exact h
    have hMine : (s.spi || (s.hasAddr && r.dev.toNat % 64 == s.myAddr)) = false := by
      cases hAddr : s.hasAddr with
      | false => simp [hRing]
      | true => simp [hRing, hOther hRpl hAddr]
    simp only [State.received, hHead, ne_eq, not_true, if_false, hRpl, hBcast, hMine, Bool.false_eq_true, hTransit]

/-- A broadcast other than ENUM that arrives whole. -/
theorem State.received_broadcast {s : State} {opc : Byte} {r : Request} (h : s.hears opc r) (hOpc : opc ≠ 6) (p : Port) :
    s.received p opc r = s.broadcast p opc r := by
  obtain ⟨-, -, hHead, hRpl, hBcast, -, -⟩ := h
  simp only [State.received, hHead, ne_eq, not_true, if_false, hRpl, hBcast, hOpc, if_true, Bool.false_eq_true]

theorem exec_broadcastRequest (p : Port) (mask : Bool) (r : Request) (s : State) :
    exec (.broadcastRequest p mask r) s = .next (s.arrive p (if mask then 3 else 2) r) := rfl

/-- The two register fields that show the last broadcast of the host. -/
def State.bseqShow (s : State) (q : Nat) : State := (s.put F.SYS_LINK_BSEQ_VALID 1).put F.SYS_LINK_BSEQ_SEQ q

/-- A broadcast WRITE or WRITE_MASK of the host with nothing against it executes, is remembered and shown. -/
theorem State.bcastRun_host {s u : State} {opc : Byte} {r : Request} (hOpc : opc = 2 ∨ opc = 3) (hAuth : r.auth = false)
    (hReq : s.flag F.SYS_LINK_AUTHREQ_REQUIRE = false)
    (hNeeds : ((writeWords opc r).any (fun w => s.needsAuth w.1 w.2.1 w.2.2)) = false) (hNew : r.seq.toNat ∉ s.link.host.bmem)
    (hShape : shapeCode false opc r = none) (hRun : s.execute false false opc r = ⟨none, [], u⟩) :
    s.bcastRun false opc r =
      (u.modSet false (fun l => { l with bmem := (r.seq.toNat :: l.bmem).take 4 })).bseqShow r.seq.toNat := by
  have hKind : (opc == 2 || opc == 3) = true := by rcases hOpc with rfl | rfl <;> rfl
  have hFresh : (s.linkSet false).bmem.contains r.seq.toNat = false := by simpa [State.linkSet] using hNew
  simp only [State.bcastRun, hAuth, hReq, hNeeds, hFresh, hKind, hShape, hRun, Option.isSome_none, Bool.and_false, Bool.or_self,
    Bool.not_true, Bool.false_eq_true, if_false, State.bseqShow]

theorem State.bseqShow_shows (s : State) (q : Byte) :
    (s.bseqShow q.toNat).get F.SYS_LINK_BSEQ_SEQ = q.toNat ∧ (s.bseqShow q.toNat).flag F.SYS_LINK_BSEQ_VALID = true := by
  refine ⟨?_, ?_⟩
  · rw [State.bseqShow, State.get_put_same _ _ _ (by decide)]
    exact Nat.mod_eq_of_lt q.isLt
  · rw [State.bseqShow, State.flag_put_of_apart _ _ (.inr (by decide))]
    exact s.flag_put_one _ _ (by decide)

/-- Settles O9. -/
theorem framesForOthersGoOn : Obligations.FramesForOthersGoOn := by
  refine ⟨fun p b opc r s hParse hUp hRing hHead hKind hOther hOrigin => ?_,
    fun p mask r s opc hOpc hHears hHost hAddr hReq hNeeds hNew hShape u hRun => ?_⟩
  · rw [exec_forwardFrame, State.arriveBytes_eq hParse, State.arrive_eq hUp hRing,
      State.received_transit hRing hHead hKind hOther hOrigin, (frame_of_parseFrame hParse).1]
    rfl
  · have ⟨hUp, hRing, _, _, _, hCrc, hAuth⟩ := hHears
    have hTwo : opc = 2 ∨ opc = 3 := by cases mask <;> simp [hOpc]
    have hNotEnum : opc ≠ 6 := by rcases hTwo with rfl | rfl <;> decide
    have hBroadcast : s.broadcast p opc r = (s.passOn p (r.frame opc)).bcastRun false opc r := by
      have hAddr' : (s.passOn p (r.frame opc)).hasAddr = true := hAddr
      simp [State.broadcast, State.origin_of_fromHost hHost, hRing, hAddr', hCrc]
    have hRun' := State.bcastRun_host (s := s.passOn p (r.frame opc)) hTwo hAuth hReq hNeeds hNew hShape hRun
    refine ⟨_, exec_broadcastRequest p mask r s, ?_⟩
    rw [← hOpc, State.arrive_eq hUp hRing, State.received_broadcast hHears hNotEnum, hBroadcast, hRun']
    obtain ⟨hSeq, hValid⟩ := State.bseqShow_shows (u.modSet false (fun l => { l with bmem := (r.seq.toNat :: l.bmem).take 4 })) r.seq
    refine ⟨rfl, hSeq, hValid, rfl, ?_⟩
    exact (State.regsKept.put _ 1 (by simp [F.SYS_LINK_BSEQ_VALID])).trans (State.regsKept.put _ _ (by simp [F.SYS_LINK_BSEQ_SEQ]))

/-! ## ENUM (R54) -/

theorem exec_enum (p : Port) (r : Request) (s : State) : exec (.enum p r) s = .next (s.arrive p 6 r) := rfl

/-- An ENUM of the host that arrives whole: POS is stored, a module that waits for an address takes NEXT, and it goes on. -/
theorem State.received_enum {s : State} {r : Request} {next pos : Byte} (h : s.hears 6 r) (hHost : r.fromHost = true) (hLen : r.len = 2)
    (hBody : r.body = [next, pos]) (p : Port) :
    s.received p 6 r =
      (let t := s.put F.SYS_LINK_MODE_POS pos.toNat
       let wants := t.flag F.SYS_LINK_MODE_ENUMMODE && !t.hasAddr
       if wants && decide (next.toNat ≤ 63) then
         ((t.put F.SYS_LINK_MODE_ADDR next.toNat).put F.SYS_LINK_MODE_VALID 1).passOn p (enumFrame r (next.toNat + 1) (pos.toNat + 1))
       else (t.raiseIf wants 19).passOn p (enumFrame r next.toNat (pos.toNat + 1))) := by
  obtain ⟨-, hRing, hHead, hRpl, hBcast, hCrc, hAuth⟩ := h
  have hGood : (!crcGood 6 r || !(s.origin r == .host) || r.auth || r.len != 2) = false := by
    simp only [hCrc, State.origin_of_fromHost hHost, hAuth, hLen]
    decide
  simp only [State.received, State.enumerate, hHead, hRpl, hBcast, hRing, hGood, ne_eq, not_true, if_false, if_true,
    Bool.false_eq_true, hBody]
  rfl

theorem State.flag_mode_put_pos (s : State) (v lo : Nat) (h : lo < 16) :
    (s.put F.SYS_LINK_MODE_POS v).flag ⟨R.SYS_LINK_MODE, lo, 1⟩ = s.flag ⟨R.SYS_LINK_MODE, lo, 1⟩ :=
  s.flag_put_of_apart v (.inr ⟨by dsimp only; omega, .inl (by simp only [F.SYS_LINK_MODE_POS]; omega)⟩)

/-- Settles O8. -/
theorem enumGivesTheNextAddress : Obligations.EnumGivesTheNextAddress := by
  refine ⟨fun p r s next pos hHears hHost hLen hBody hMode hAddr hNext => ?_, fun p r s next pos hHears hHost hLen hBody hAddr => ?_⟩
  all_goals
    obtain ⟨hUp, hRing⟩ : s.linkUp = true ∧ s.spi = false := ⟨hHears.1, hHears.2.1⟩
    have hEnum' : (s.put F.SYS_LINK_MODE_POS pos.toNat).flag F.SYS_LINK_MODE_ENUMMODE = s.flag F.SYS_LINK_MODE_ENUMMODE :=
      s.flag_mode_put_pos _ 8 (by decide)
    have hAddr' : (s.put F.SYS_LINK_MODE_POS pos.toNat).hasAddr = s.hasAddr := s.flag_mode_put_pos _ 7 (by decide)
    have hPos : (s.put F.SYS_LINK_MODE_POS pos.toNat).get F.SYS_LINK_MODE_POS = pos.toNat := by
      rw [State.get_put_same _ _ _ (by decide)]
      exact Nat.mod_eq_of_lt pos.isLt
    have hKept : s.regsKept (s.put F.SYS_LINK_MODE_POS pos.toNat) [R.SYS_LINK_MODE] := .put s _ (by simp [F.SYS_LINK_MODE_POS])
    refine ⟨_, exec_enum p r s, ?_⟩
    rw [State.arrive_eq hUp hRing, State.received_enum hHears hHost hLen hBody]
    simp only [hEnum', hAddr', hAddr]
  · simp only [hMode, hNext, Bool.not_false, Bool.and_self, decide_true, if_true]
    have hKept' : s.regsKept (((s.put F.SYS_LINK_MODE_POS pos.toNat).put F.SYS_LINK_MODE_ADDR next.toNat).put F.SYS_LINK_MODE_VALID 1)
        [R.SYS_LINK_MODE] := (hKept.trans (.put _ _ (by simp [F.SYS_LINK_MODE_ADDR]))).trans (.put _ _ (by simp [F.SYS_LINK_MODE_VALID]))
    refine ⟨?_, ?_, ?_, ?_, rfl, hKept'.passOn _ _⟩
    · rw [State.get_passOn, State.get_put_apart _ _ (by decide) (by decide), State.get_put_apart _ _ (by decide) (by decide), hPos]
    · rw [State.get_passOn, State.get_put_apart _ _ (by decide) (by decide), State.get_put_same _ _ _ (by decide)]
      exact Nat.mod_eq_of_lt (by simp only [F.SYS_LINK_MODE_ADDR]; omega)
    · exact (State.flag_passOn _ _ _ _).trans (State.flag_put_one _ _ _ (by decide))
    · rw [← State.onward_congr (hKept' R.SYS_LINK_STATE (by decide)) p]
      rfl
  · simp only [Bool.not_true, Bool.and_false, Bool.false_and, Bool.false_eq_true, if_false]
    refine ⟨(State.get_passOn _ _ _ _).trans hPos, ?_, (State.flag_passOn _ _ _ _).trans (hAddr'.trans hAddr), ?_, rfl,
      hKept.passOn _ _⟩
    · exact (State.get_passOn _ _ _ _).trans (s.get_put_apart _ (by decide) (by decide))
    · rw [← State.onward_congr (hKept R.SYS_LINK_STATE (by decide)) p]
      rfl

end Sys2Proof.Machine
end

section
/-! Ports and the lead's requests (R52, R75, R78, R79, R81, R662). -/

namespace Sys2Proof.Machine

open Sys2Proof

/-! ## Ports (R78 to R81) -/

theorem portFields_place (p : Port) : (portState p).addr = R.SYS_LINK_STATE ∧ (portWrap p).addr = R.SYS_LINK_STATE ∧
    (portDelay p).addr = R.SYS_LINK_DLY ∧ (portState p).lo + 2 ≤ 4 ∧ (portState p).w = 2 ∧ 4 ≤ (portWrap p).lo ∧ (portWrap p).lo < 32 ∧
    (portWrap p).w = 1 ∧ (portDelay p).lo + 16 ≤ 32 ∧ (portDelay p).w = 16 := by
  cases p <;> decide

theorem State.get_put_portState (s : State) (p : Port) {v : Nat} (hv : v < 4) : (s.put (portState p) v).get (portState p) = v := by
  obtain ⟨-, -, -, hLo, hW, -⟩ := portFields_place p
  rw [State.get_put_same _ _ _ (by omega), hW]
  exact Nat.mod_eq_of_lt hv

theorem State.get_portState_put_portWrap (s : State) (p : Port) (v : Nat) :
    (s.put (portWrap p) v).get (portState p) = s.get (portState p) := by
  obtain ⟨-, -, -, hLo, hW, hLo', -⟩ := portFields_place p
  exact s.get_put_apart v (by omega) (.inl (by omega))

theorem State.flag_put_portWrap (s : State) (p : Port) (b : Nat) (hb : b < 2) : (s.put (portWrap p) b).flag (portWrap p) = (b == 1) := by
  obtain ⟨-, -, -, -, -, -, hLo, hW, -⟩ := portFields_place p
  rw [State.flag_put_same _ (by omega), hW, Nat.mod_eq_of_lt (by simpa using hb)]

/-- What a port sends as its delay is measured (R52). -/
theorem State.each_emit (l : List Byte) (p : Port) : ∀ s : State, s.each l (fun s b => s.emit (Sent.probe p b)) =
    { s with link := { s.link with sent := s.link.sent ++ l.map (Sent.probe p) } } := by
  induction l with
  | nil =>
    intro s
    simp [State.each]
  | cons b t ih =>
    intro s
    rw [State.each, List.foldl_cons, ← State.each, ih]
    simp [State.emit, State.modLink]

theorem State.emit_eq (s : State) (x : Sent) : s.emit x = { s with link := { s.link with sent := s.link.sent ++ [x] } } := rfl

theorem State.probe_eq (s : State) (p : Port) (l : LinkProbe) : s.probe p l =
    State.put { s with fresh := s.fresh + 1, link := { s.link with
      sent := s.link.sent ++ Sent.probe p (BitVec.ofNat 8 (s.free 8).1) :: l.heard.map (Sent.probe p) } } (portDelay p) l.delay.toNat := by
  rw [State.probe]
  dsimp only
  rw [State.each_emit]
  simp [State.emit_eq, State.free]

/-- A measured delay reads back. -/
theorem State.get_probe (s : State) (p : Port) (l : LinkProbe) : (s.probe p l).get (portDelay p) = l.delay.toNat := by
  obtain ⟨-, -, -, -, -, -, -, -, hLo, hW⟩ := portFields_place p
  rw [State.probe_eq, State.get_put_same _ _ _ (by omega), hW]
  exact Nat.mod_eq_of_lt l.delay.isLt

theorem State.probe_kept (s : State) (p : Port) (l : LinkProbe) {as : List Nat} (h : R.SYS_LINK_DLY ∈ as) :
    s.regsKept (s.probe p l) as := by
  obtain ⟨-, -, hDly, -⟩ := portFields_place p
  rw [State.probe_eq]
  exact .trans (.of_regs (.refl s as) rfl) (.put _ _ (by rw [hDly]; exact h))

/-- The link events belong to EVT. -/
theorem linkEvent_place : ∀ e ∈ [20, 21, 22, 27], evOwner e = .evt ∧ (evBit e).addr = H.evt .evt ∧ H.evt .evt = 0x40010 := by decide

theorem State.portState_ne_evt (p : Port) : (portState p).addr ≠ H.evt .evt ∧ (portWrap p).addr ≠ H.evt .evt ∧
    (portDelay p).addr ≠ H.evt .evt := by
  cases p <;> decide

theorem exec_portLoseLock {s : State} {p : Port} (hUp : s.ringUp = true) (hState : s.get (portState p) = 2) :
    exec (.portLoseLock p) s = .next ((((s.put (portState p) 1).count F.SYS_LINK_RETRAIN 1).modLink
      (fun l => { l with lostAt := l.lostAt ++ [(p, s.clk)] })).emit (Sent.train p)) := by
  show execPortLoseLock p s = _
  simp only [execPortLoseLock, hUp, hState]
  rfl

theorem exec_retrainDone {s : State} {p : Port} (l : LinkProbe) (hUp : s.ringUp = true) (hDown : p ∉ s.link.wasDown)
    (hState : s.get (portState p) ≠ 2) :
    exec (.retrainDone p l) s = .next (((s.probe p l).put (portState p) 2).modLink
      (fun x => { x with lostAt := x.lostAt.filter (fun e => e.1 != p) })) := by
  show execRetrainDone p l s = _
  simp [execRetrainDone, hUp, hDown, hState]

theorem exec_portDown {s : State} {p : Port} {i : Nat} (hLost : s.link.lostAt.find? (fun e => e.1 == p) = some (p, i))
    (hLate : s.passed i msec = true) :
    exec (.portDown p) s = .next ((((s.put (portState p) 0).put (portWrap p) 1).raise 20).modLink
      (fun x => { x with lostAt := x.lostAt.filter (fun e => e.1 != p), wasDown := p :: x.wasDown })) := by
  show execPortDown p s = _
  simp only [execPortDown, hLost, hLate, if_true]

theorem exec_portUp {s : State} {p : Port} (l : LinkProbe) (hUp : s.ringUp = true) (hDown : p ∈ s.link.wasDown) :
    exec (.portUp p l) s = .next (((((s.probe p l).put (portState p) 2).put (portWrap p) 0).raise 21).modLink
      (fun x => { x with wasDown := x.wasDown.filter (fun q => q != p) })) := by
  show execPortUp p l s = _
  simp [execPortUp, hUp, hDown]

theorem portLoseLock_effect {p : Port} {s : State} (hUp : s.ringUp = true) (hState : s.get (portState p) = 2) :
    ∃ t, exec (.portLoseLock p) s = .next t ∧ t.get (portState p) = 1 ∧
      t.get F.SYS_LINK_RETRAIN = min (s.get F.SYS_LINK_RETRAIN + 1) 0xFFFF ∧
      t.link = { s.link with lostAt := s.link.lostAt ++ [(p, s.clk)], sent := s.link.sent ++ [Sent.train p] } ∧
      t = { s with regs := t.regs, link := t.link } ∧ s.regsKept t [R.SYS_LINK_STATE, R.SYS_LINK_RETRAIN] := by
  obtain ⟨hSt, -⟩ := portFields_place p
  have hStRetrain : (portState p).addr ≠ F.SYS_LINK_RETRAIN.addr := by rw [hSt]; decide
  have hPuts : s.Puts ((s.put (portState p) 1).count F.SYS_LINK_RETRAIN 1) [R.SYS_LINK_STATE, R.SYS_LINK_RETRAIN] :=
    .trans (.put s 1 (by simp [hSt])) (.count _ 1 (by simp [F.SYS_LINK_RETRAIN]))
  refine ⟨_, exec_portLoseLock hUp hState, ?_, ?_, ?_, ?_, ?_⟩
  · rw [State.get_emit, State.get_modLink]
    exact (State.get_count_ne _ 1 hStRetrain).trans (s.get_put_portState p (by decide))
  · rw [State.get_emit, State.get_modLink, State.get_count16 _ 1 (by decide) rfl, State.get_put_addr _ _ hStRetrain.symm]
  · rw [hPuts.frame]; rfl
  · rw [hPuts.frame]; rfl
  · exact hPuts.kept.modLink _ |>.emit _

theorem retrainDone_effect {p : Port} (l : LinkProbe) {s : State} (hUp : s.ringUp = true) (hDown : p ∉ s.link.wasDown)
    (hState : s.get (portState p) ≠ 2) :
    ∃ t, exec (.retrainDone p l) s = .next t ∧ t.get (portState p) = 2 ∧ t.get (portDelay p) = l.delay.toNat ∧
      t.link = { s.link with
        lostAt := s.link.lostAt.filter (fun e => e.1 != p)
        sent := s.link.sent ++ Sent.probe p (BitVec.ofNat 8 (s.free 8).1) :: l.heard.map (Sent.probe p) } ∧
      t = { s with regs := t.regs, link := t.link, fresh := s.fresh + 1 } ∧ s.regsKept t [R.SYS_LINK_STATE, R.SYS_LINK_DLY] := by
  obtain ⟨hSt, -, hDl, -⟩ := portFields_place p
  refine ⟨_, exec_retrainDone l hUp hDown hState, ?_, ?_, ?_, ?_, ?_⟩
  · rw [State.get_modLink, State.get_put_portState _ p (by decide)]
  · rw [State.get_modLink]
    exact (State.get_put_addr _ _ (by rw [hSt, hDl]; decide)).trans (s.get_probe p l)
  · rw [State.probe_eq]; rfl
  · rw [State.probe_eq]; rfl
  · exact ((s.probe_kept p l (by simp)).trans (.put _ 2 (by simp [hSt]))).modLink _

theorem portDown_effect {p : Port} {i : Nat} {s : State} (hLost : s.link.lostAt.find? (fun e => e.1 == p) = some (p, i))
    (hLate : s.passed i msec = true) (hKind : s.kind .evt = 1) :
    ∃ t, exec (.portDown p) s = .next t ∧ t.get (portState p) = 0 ∧ t.flag (portWrap p) = true ∧ s.occurred t 20 ∧
      t.link = { s.link with lostAt := s.link.lostAt.filter (fun e => e.1 != p), wasDown := p :: s.link.wasDown } ∧
      t = { s with regs := t.regs, link := t.link, occ := t.occ } ∧ s.regsKept t [R.SYS_LINK_STATE, (evBit 20).addr] := by
  obtain ⟨hSt, hWr, -⟩ := portFields_place p
  obtain ⟨hStEvt, hWrEvt, -⟩ := State.portState_ne_evt p
  obtain ⟨hOwner, hBit, -⟩ := linkEvent_place 20 (by decide)
  have hPut : s.regsKept ((s.put (portState p) 0).put (portWrap p) 1) [R.SYS_LINK_STATE] :=
    .trans (.put s 0 (by simp [hSt])) (.put _ 1 (by simp [hWr]))
  have hOcc := State.occurred_raise (s := (s.put (portState p) 0).put (portWrap p) 1) (e := 20)
    (by rw [hPut.kind (by decide) (by decide) rfl, hOwner, hKind])
  refine ⟨_, exec_portDown hLost hLate, ?_, ?_, ⟨(State.flag_modLink _ _ _).trans hOcc.1, hOcc.2⟩, ?_, ?_, ?_⟩
  · rw [State.get_modLink]
    refine (State.get_raise_ne _ 20 (by rw [hBit]; exact hStEvt)).trans ?_
    rw [State.get_portState_put_portWrap, State.get_put_portState _ _ (by decide)]
  · rw [State.flag_modLink]
    refine (State.flag_raise_ne _ 20 (by rw [hBit]; exact hWrEvt)).trans ?_
    rw [State.flag_put_portWrap _ _ _ (by decide)]
    rfl
  · rw [State.raise_changes]; rfl
  · rw [State.raise_changes]; rfl
  · exact ((hPut.mono (by simp)).trans (.raise _ (by simp))).modLink _

theorem portUp_effect {p : Port} (l : LinkProbe) {s : State} (hUp : s.ringUp = true) (hDown : p ∈ s.link.wasDown)
    (hKind : s.kind .evt = 1) :
    ∃ t, exec (.portUp p l) s = .next t ∧ t.get (portState p) = 2 ∧ t.flag (portWrap p) = false ∧
      t.get (portDelay p) = l.delay.toNat ∧ s.occurred t 21 ∧
      t.link = { s.link with
        wasDown := s.link.wasDown.filter (fun q => q != p)
        sent := s.link.sent ++ Sent.probe p (BitVec.ofNat 8 (s.free 8).1) :: l.heard.map (Sent.probe p) } ∧
      t = { s with regs := t.regs, link := t.link, occ := t.occ, fresh := s.fresh + 1 } ∧
      s.regsKept t [R.SYS_LINK_STATE, R.SYS_LINK_DLY, (evBit 21).addr] := by
  obtain ⟨hSt, hWr, hDl, -⟩ := portFields_place p
  obtain ⟨hStEvt, hWrEvt, hDlEvt⟩ := State.portState_ne_evt p
  obtain ⟨hOwner, hBit, -⟩ := linkEvent_place 21 (by decide)
  have hPut : s.regsKept (((s.probe p l).put (portState p) 2).put (portWrap p) 0) [R.SYS_LINK_STATE, R.SYS_LINK_DLY] :=
    .trans (.trans (s.probe_kept p l (by simp)) (.put _ 2 (by simp [hSt]))) (.put _ 0 (by simp [hWr]))
  have hOcc := State.occurred_raise (s := ((s.probe p l).put (portState p) 2).put (portWrap p) 0) (e := 21)
    (by rw [hPut.kind (by decide) (by decide) (by rw [State.probe_eq]; rfl), hOwner, hKind])
  refine ⟨_, exec_portUp l hUp hDown, ?_, ?_, ?_, ⟨(State.flag_modLink _ _ _).trans hOcc.1, ?_⟩, ?_, ?_, ?_⟩
  · rw [State.get_modLink]
    refine (State.get_raise_ne _ 21 (by rw [hBit]; exact hStEvt)).trans ?_
    rw [State.get_portState_put_portWrap, State.get_put_portState _ _ (by decide)]
  · rw [State.flag_modLink]
    refine (State.flag_raise_ne _ 21 (by rw [hBit]; exact hWrEvt)).trans ?_
    rw [State.flag_put_portWrap _ _ _ (by decide)]
    rfl
  · rw [State.get_modLink]
    refine (State.get_raise_ne _ 21 (by rw [hBit]; exact hDlEvt)).trans ?_
    rw [State.get_put_addr _ _ (by rw [hWr, hDl]; decide), State.get_put_addr _ _ (by rw [hSt, hDl]; decide), s.get_probe]
  · refine hOcc.2.trans ?_
    rw [State.probe_eq]; rfl
  · rw [State.raise_changes, State.probe_eq]; rfl
  · rw [State.raise_changes, State.probe_eq]; rfl
  · exact ((hPut.mono (by simp)).trans (.raise _ (by simp))).modLink _

/-- Settles O11, one command after another. -/
theorem portsLoseAndRegainLock : Obligations.PortsLoseAndRegainLock :=
  ⟨fun _ _ hUp hState => portLoseLock_effect hUp hState, fun _ l _ hUp hDown hState => retrainDone_effect l hUp hDown hState,
    fun _ _ _ hLost hLate hKind => portDown_effect hLost hLate hKind, fun _ l _ hUp hDown hKind => portUp_effect l hUp hDown hKind⟩

/-! ## A lead request that comes back, and a HELLO that is not finished (R75, R662) -/

/-- Settles O15. -/
theorem returnedLeadRequestIsCounted : Obligations.ReturnedLeadRequestIsCounted := by
  refine ⟨fun a s hLead hUp hKind hFlight => ?_, fun h s hHello => ?_⟩
  · obtain ⟨hOwner, hBit, hAddr⟩ := linkEvent_place 27 (by decide)
    have hPuts : s.Puts (s.count F.SYS_LINK_ORGERR 1) [R.SYS_LINK_ORGERR] := .count s 1 (by simp [F.SYS_LINK_ORGERR])
    have hExec : exec (.leadRequestReturn a) s = .next s.orgErr := by
      have hNone : (s.orgErr.str.sats.get a.val).inFlight = [] := by rw [State.orgErr, State.raise_changes]; exact hFlight
      show execLeadRequestReturn a s = _
      simp only [execLeadRequestReturn, hLead, hUp, Bool.and_self, if_true, State.leadReturned, State.pushAnswer, hNone]
    have hOcc := State.occurred_raise (s := s.count F.SYS_LINK_ORGERR 1) (e := 27)
      (by rw [hPuts.kept.kind (by decide) (by decide) rfl, hOwner, hKind])
    refine ⟨_, hExec, ?_, hOcc, ?_, ?_⟩
    · exact (State.get_raise_ne _ 27 (by decide)).trans (s.get_count16 1 (by decide) rfl)
    · rw [State.orgErr, State.raise_changes]; rfl
    · exact .trans (hPuts.kept.mono (by simp)) (.raise _ (by simp))
  · show execHelloExpiry s = _
    simp only [execHelloExpiry, hHello, State.passed, decide_eq_true_eq]
    rfl

end Sys2Proof.Machine
end

section
/-! TICK: the lead sends it, every module forwards it, and satellites follow it or lose it (R82 to R86, R91). -/

namespace Sys2Proof.Machine

open Sys2Proof

/-! ## The lead (R82, R85, R91) -/

theorem State.now_lt (s : State) : s.now < 2 ^ 64 := Nat.mod_lt _ (by decide)

theorem onGrid_iff (s : State) (d : Nat) : s.onGrid d = true ↔ s.flag F.NAV_TIME_STAT_HOLD = false ∧ s.now % d = 0 := by
  simp [State.onGrid]

/-- What the lead shows and keeps of a tick with count 0. -/
def State.tickZero (s : State) : State := (s.tickBaseShow s.now).modLink (fun l => { l with tickTag := s.now })

/-- What the lead sends at a tick boundary. -/
def State.tickOut (s : State) (c d : Nat) : State :=
  ((s.emit (Sent.tick .out c d)).emit (Sent.tick .inp c d)).put F.SYS_LINK_STATE_TICKOK 1

theorem exec_tickSend_on {s : State} (d : BitVec 16) (hLead : s.isLead = true) (hUp : s.ringUp = true) (hGrid : s.onGrid 4000 = true) :
    exec (.tickSend d) s = .next (if s.now / 4000 % 256 = 0 then (s.tickOut (s.now / 4000 % 256) d.toNat).tickZero
      else s.tickOut (s.now / 4000 % 256) d.toNat) := by
  obtain ⟨hHold, hNow⟩ := (onGrid_iff s 4000).mp hGrid
  show execTickSend d s = _
  simp only [execTickSend, tickLen, hLead, hUp, hNow, hHold]
  rfl

theorem exec_tickSend_off {s : State} (d : BitVec 16) (hGrid : s.onGrid 4000 = false) : exec (.tickSend d) s = .next s := by
  have hOff : (s.isLead && s.ringUp && s.now % tickLen == 0 && !s.flag F.NAV_TIME_STAT_HOLD) = false := by
    by_contra h
    simp only [Bool.not_eq_false, Bool.and_eq_true, beq_iff_eq, Bool.not_eq_true'] at h
    obtain ⟨⟨⟨-, -⟩, hNow⟩, hHold⟩ := h
    rw [(onGrid_iff s 4000).mpr ⟨hHold, hNow⟩] at hGrid
    cases hGrid
  show execTickSend d s = _
  simp only [execTickSend, hOff]
  rfl

/-- SYS_TICK_BASE after it shows `base`; a low word that waits for its high word stays. -/
theorem State.tickBaseShow_words (s : State) {base : Nat} (h : base < 2 ^ 64) :
    (s.tickBaseShow base).nat R.SYS_TICK_BASE_HI = base / 2 ^ 32 ∧
    (s.tickBaseShow base).nat R.SYS_TICK_BASE_LO = (if s.link.loWait then s.nat R.SYS_TICK_BASE_LO else base % 2 ^ 32) := by
  have hLo : ∀ (t : State) (v : Nat), (t.setNat R.SYS_TICK_BASE_HI v).nat R.SYS_TICK_BASE_LO = t.nat R.SYS_TICK_BASE_LO :=
    fun t v => by rw [State.nat, State.setNat, State.word_setWord_ne _ _ (by decide), State.nat]
  refine ⟨?_, ?_⟩
  · rw [State.tickBaseShow, State.nat_setNat_same]
    exact Nat.mod_eq_of_lt (by omega)
  · rw [State.tickBaseShow, hLo]
    split
    · rfl
    · exact State.nat_setNat_same _ _ _

theorem State.tickBaseShow_kept (s : State) (base : Nat) : s.regsKept (s.tickBaseShow base) [R.SYS_TICK_BASE_LO, R.SYS_TICK_BASE_HI] := by
  have hLo : s.regsKept (if s.link.loWait then s else s.setNat R.SYS_TICK_BASE_LO base) [R.SYS_TICK_BASE_LO, R.SYS_TICK_BASE_HI] := by
    split
    · exact .refl s _
    · exact .setWord s _ (by simp)
  exact hLo.trans (.setWord _ _ (by simp))

theorem State.tickBaseShow_frame (s : State) (base : Nat) : s.tickBaseShow base = { s with regs := (s.tickBaseShow base).regs } := by
  unfold State.tickBaseShow
  split <;> rfl

theorem State.tickOut_link (s : State) (c d : Nat) :
    (s.tickOut c d).link = { s.link with sent := s.link.sent ++ [Sent.tick .out c d, Sent.tick .inp c d] } := by
  simp [State.tickOut, State.emit_eq, State.put, State.setWord]

theorem State.tickOut_frame (s : State) (c d : Nat) : s.tickOut c d = { s with regs := (s.tickOut c d).regs, link := (s.tickOut c d).link } := rfl

theorem State.tickOut_kept (s : State) (c d : Nat) : s.regsKept (s.tickOut c d) [R.SYS_LINK_STATE] :=
  ((State.regsKept.refl s _).emit _ |>.emit _).trans (.put _ 1 (by simp [F.SYS_LINK_STATE_TICKOK]))

theorem State.flag_tickOut (s : State) (c d : Nat) : (s.tickOut c d).flag F.SYS_LINK_STATE_TICKOK = true :=
  State.flag_put_one _ _ _ (by decide)

theorem State.tickZero_link (s : State) : s.tickZero.link = { s.link with tickTag := s.now } := by
  rw [State.tickZero, s.tickBaseShow_frame]
  rfl

theorem State.tickZero_frame (s : State) : s.tickZero = { s with regs := s.tickZero.regs, link := s.tickZero.link } := by
  rw [State.tickZero, s.tickBaseShow_frame]
  rfl

theorem State.tickZero_kept (s : State) : s.regsKept s.tickZero [R.SYS_TICK_BASE_LO, R.SYS_TICK_BASE_HI] :=
  (s.tickBaseShow_kept s.now).modLink _

/-- The words that show a tick with count 0, after the TICK went out. -/
theorem State.tickOut_tickZero_words (s : State) (d : Nat) :
    (s.tickOut 0 d).tickZero.nat R.SYS_TICK_BASE_HI = s.now / 2 ^ 32 ∧ (s.tickOut 0 d).tickZero.nat R.SYS_TICK_BASE_LO =
      if s.link.loWait then s.nat R.SYS_TICK_BASE_LO else s.now % 2 ^ 32 := by
  obtain ⟨hHi, hLo⟩ := (s.tickOut 0 d).tickBaseShow_words s.now_lt
  have hWord : (s.tickOut 0 d).nat R.SYS_TICK_BASE_LO = s.nat R.SYS_TICK_BASE_LO := by
    rw [State.nat, s.tickOut_kept 0 d _ (by decide), State.nat]
  have hNow : (s.tickOut 0 d).now = s.now := rfl
  have hZero : ∀ a, (s.tickOut 0 d).tickZero.nat a = ((s.tickOut 0 d).tickBaseShow s.now).nat a := fun a => by
    rw [State.tickZero, hNow]
    rfl
  rw [hWord, State.tickOut_link] at hLo
  rw [hZero, hZero]
  exact ⟨hHi, hLo⟩

/-- Settles O13. -/
theorem leadSendsTickOnBothPorts : Obligations.LeadSendsTickOnBothPorts := by
  refine ⟨fun d s hLead hUp hGrid => ⟨_, exec_tickSend_on d hLead hUp hGrid, ?_⟩, fun d s hGrid => exec_tickSend_off d hGrid⟩
  generalize s.now / 4000 % 256 = c
  by_cases hZero : c = 0
  · subst hZero
    have hLink : (s.tickOut 0 d.toNat).tickZero.link = _ := (s.tickOut 0 d.toNat).tickZero_link.trans (by rw [State.tickOut_link])
    simp only [if_true]
    refine ⟨by rw [hLink], ?_, fun _ => s.tickOut_tickZero_words d.toNat, ?_, ?_, ?_⟩
    · exact ((s.tickOut 0 d.toNat).tickZero_kept.flag (by decide)).trans (s.flag_tickOut 0 d.toNat)
    · rw [hLink]; rfl
    · rw [State.tickZero_frame, State.tickOut_frame]
    · exact ((s.tickOut_kept 0 d.toNat).mono (by simp)).trans ((s.tickOut 0 d.toNat).tickZero_kept.mono (by simp))
  · simp only [if_neg hZero]
    exact ⟨by rw [State.tickOut_link], s.flag_tickOut c d.toNat, fun h => absurd h hZero, by rw [State.tickOut_link],
      s.tickOut_frame c d.toNat, s.tickOut_kept c d.toNat⟩

/-! ## The base that the lead broadcasts (R85) -/

/-- The lead's broadcast of its base, without its check values. -/
def State.baseRequest (s : State) : Request :=
  { flags := 0x40, dev := 0, org := BitVec.ofNat 8 s.myAddr, seq := BitVec.ofNat 8 s.link.bcastSeq, hcrc := 0, len := 8
    addr := BitVec.ofNat 32 R.SYS_TICK_BASE_LO, body := leBytes 8 s.link.tickTag, trailer := [], crc := 0, waiting := 0 }

/-- A WRITE with its check values formed. -/
def checkedWrite (r : Request) : Request :=
  let q := { r with hcrc := hcrc (r.headBytes 2) }
  { q with crc := crc32 (q.plainBytes 2) }

theorem exec_tickBaseBroadcast {s : State} (hLead : s.isLead = true) (hUp : s.ringUp = true) :
    exec .tickBaseBroadcast s = .next { s with link := { s.link with
      sent := s.link.sent ++ [Sent.frame .out ((checkedWrite s.baseRequest).frame 2), Sent.frame .inp ((checkedWrite s.baseRequest).frame 2)]
      bcastSeq := (s.link.bcastSeq + 1) % 256 } } := by
  show execTickBaseBroadcast s = _
  simp only [execTickBaseBroadcast, hLead, hUp, Bool.and_self, if_true, State.emit_eq, List.append_assoc]
  rfl

theorem checkedWrite_good {r : Request} (hAuth : r.auth = false) (hBody : r.body.length = r.len.toNat) (hTrailer : r.trailer = []) :
    hcrc ((checkedWrite r).headBytes 2) = (checkedWrite r).hcrc ∧ crcGood 2 (checkedWrite r) = true := by
  refine ⟨rfl, ?_⟩
  have hAuth' : (checkedWrite r).auth = false := hAuth
  have hTrailer' : (checkedWrite r).trailer = [] := hTrailer
  have hBody' : (checkedWrite r).body.length = (checkedWrite r).len.toNat := hBody
  have hCrc : (checkedWrite r).crc = crc32 ((checkedWrite r).plainBytes 2) := rfl
  simp [crcGood, bodyLen, hAuth', hTrailer', hBody', hCrc]

theorem State.myAddr_lt (s : State) : s.myAddr < 64 := s.get_lt F.SYS_LINK_MODE_ADDR

/-! ## Satellites (R83, R86) -/

/-- A TICK goes on in its direction, unless frames are turned at the port there. -/
def State.tickOn (s : State) (p : Port) (c d : Nat) : State :=
  if s.wrapped (otherPort p) then s
  else s.emit (Sent.tick (otherPort p) c ((d + s.get (portDelay p) + s.nat R.SYS_LINK_FWD % 65536) % 65536))

theorem exec_tickReceive {s : State} (p : Port) (c : Byte) (d : BitVec 16) (hUp : s.ringUp = true) :
    exec (.tickReceive p c d) s = .next (if s.isSat then (s.tickOn p c.toNat d.toNat).tickTake c.toNat (d.toNat + s.get (portDelay p))
      else s.tickOn p c.toNat d.toNat) := by
  have hSat : (s.tickOn p c.toNat d.toNat).isSat = s.isSat := by
    unfold State.tickOn
    split <;> rfl
  rw [← hSat]
  show execTickReceive p c d s = _
  simp only [execTickReceive, hUp]
  rfl

theorem State.tickOn_eq (s : State) (p : Port) (c d : Nat) : s.tickOn p c d = { s with link := { s.link with sent := s.link.sent ++
    (if s.wrapped (otherPort p) then [] else
      [Sent.tick (otherPort p) c ((d + s.get (portDelay p) + s.nat R.SYS_LINK_FWD % 65536) % 65536)]) } } := by
  unfold State.tickOn
  split
  · simp
  · rfl

theorem State.tickOn_kept (s : State) (p : Port) (c d : Nat) (as : List Nat) : s.regsKept (s.tickOn p c d) as := by
  unfold State.tickOn
  split
  · exact .refl s as
  · exact (State.regsKept.refl s as).emit _

/-- What a satellite that has its tick takes of a TICK whose count follows. -/
def State.tickFollow (s : State) (c ns : Nat) : State :=
  { s.put F.SYS_LINK_STATE_TICKCNT c with
    link := { s.link with tickRun := min (s.link.tickRun + 1) 8, tickAt := s.clk, tickTag := s.link.tickTag % 2 ^ 64, ticked := true }
    tag := (s.link.tickTag + c * tickLen + (divOpen 83 (ns * usec : Int) 1000).toNat) % 2 ^ 64 }

theorem State.get_tickFollow (s : State) (c ns : Nat) (f : Fld) :
    (s.tickFollow c ns).get f = (s.put F.SYS_LINK_STATE_TICKCNT c).get f := rfl

theorem State.tickFollow_kept (s : State) (c ns : Nat) : s.regsKept (s.tickFollow c ns) [R.SYS_LINK_STATE] :=
  State.regsKept.put s c (by simp [F.SYS_LINK_STATE_TICKCNT])

theorem State.tickRegain_of_ok {s : State} (h : s.flag F.SYS_LINK_STATE_TICKOK = true) : s.tickRegain = s := by
  simp [State.tickRegain, h]

theorem State.tickTake_follow {s : State} {c : Nat} (hTicked : s.link.ticked = true) (hOk : s.flag F.SYS_LINK_STATE_TICKOK = true)
    (hByte : c < 256) (hNext : c = s.get F.SYS_LINK_STATE_TICKCNT + 1) (ns : Nat) : s.tickTake c ns = s.tickFollow c ns := by
  have hFollows : (c == (s.get F.SYS_LINK_STATE_TICKCNT + 1) % 256) = true := by
    rw [← hNext, Nat.mod_eq_of_lt hByte]
    exact beq_self_eq_true c
  have hZero : (c == 0 || (!false && decide (c < s.get F.SYS_LINK_STATE_TICKCNT))) = false := by
    have hPos : c ≠ 0 := by omega
    have hNotLess : ¬ c < s.get F.SYS_LINK_STATE_TICKCNT := by omega
    simp [hPos, hNotLess]
  have hOk' : (s.tickFollow c ns).flag F.SYS_LINK_STATE_TICKOK = true :=
    (s.flag_put_of_apart c (.inr (by decide))).trans hOk
  rw [← State.tickRegain_of_ok hOk']
  unfold State.tickTake
  simp only [hTicked, Bool.not_true, Bool.false_or, hFollows, hZero, Bool.false_eq_true, if_false]
  rfl

theorem exec_tickReceive_follow {s : State} (p : Port) {c : Byte} (d : BitVec 16) (hUp : s.ringUp = true) (hSat : s.isSat = true)
    (hTicked : s.link.ticked = true) (hOk : s.flag F.SYS_LINK_STATE_TICKOK = true)
    (hNext : c.toNat = s.get F.SYS_LINK_STATE_TICKCNT + 1) :
    exec (.tickReceive p c d) s = .next ((s.tickOn p c.toNat d.toNat).tickFollow c.toNat (d.toNat + s.get (portDelay p))) := by
  have hGet := (s.tickOn_kept p c.toNat d.toNat []).get (f := F.SYS_LINK_STATE_TICKCNT) List.not_mem_nil
  have hFlag := (s.tickOn_kept p c.toNat d.toNat []).flag (f := F.SYS_LINK_STATE_TICKOK) List.not_mem_nil
  have hTicked' : (s.tickOn p c.toNat d.toNat).link.ticked = true := by rw [State.tickOn_eq]; exact hTicked
  rw [exec_tickReceive p c d hUp, hSat, if_pos rfl, State.tickTake_follow hTicked' (hFlag.trans hOk) c.isLt (by rw [hGet, hNext])]

/-! ## A lost tick (R86) -/

/-- An entry of a mapped table is what the map made of some state, or as unlisted. -/
theorem Table.get_mapAll {α : Type} [Inhabited α] [DecidableEq α] (f : α → α) (k : Nat) :
    ∀ t : List (Nat × α), Table.get (Table.mapAll f t) k = default ∨ ∃ v, Table.get (Table.mapAll f t) k = f v
  | [] => .inl rfl
  | (j, v) :: t => by
    unfold Table.mapAll
    split
    · exact Table.get_mapAll f k t
    · by_cases h : j = k
      · exact .inr ⟨v, if_pos h⟩
      · rcases Table.get_mapAll f k t with hIs | ⟨w, hIs⟩
        · exact .inl ((if_neg h).trans hIs)
        · exact .inr ⟨w, (if_neg h).trans hIs⟩

theorem fromLead_of_mem_filter {c : OutCmd} {q : List OutCmd} (h : c ∈ q.filter (fun c => !c.fromLead)) : c.fromLead = false := by
  simpa using (List.mem_filter.mp h).2

/-- After the discard no command of the lead waits. -/
theorem State.leadDiscard_waits (s : State) (n : Nat) : ∀ c ∈ (s.leadDiscard.sol.get n).queue ++ (s.leadDiscard.hsw.get n).queue ++
    s.leadDiscard.str.solWire ++ s.leadDiscard.str.hswWire, c.fromLead = false := by
  intro c hc
  simp only [List.mem_append] at hc
  rcases hc with ((hc | hc) | hc) | hc
  · rcases Table.get_mapAll (fun c : SolCh => { c with queue := c.queue.filter (fun c => !c.fromLead) }) n s.sol with h | ⟨v, h⟩ <;>
      rw [show s.leadDiscard.sol.get n = _ from h] at hc
    · exact nomatch (show c ∈ [] from hc)
    · exact fromLead_of_mem_filter hc
  · rcases Table.get_mapAll (fun c : HswCh => { c with queue := c.queue.filter (fun c => !c.fromLead) }) n s.hsw with h | ⟨v, h⟩ <;>
      rw [show s.leadDiscard.hsw.get n = _ from h] at hc
    · exact nomatch (show c ∈ [] from hc)
    · exact fromLead_of_mem_filter hc
  · exact fromLead_of_mem_filter hc
  · exact fromLead_of_mem_filter hc

/-- The tick is declared lost. -/
def State.tickGone (s : State) : State :=
  ((s.modLink (fun l => { l with tickLost := true, tickRun := 0, baseOk := false })).put F.SYS_LINK_STATE_TICKOK 0).raise 22

theorem exec_tickLost {s : State} (hSat : s.isSat = true) (hFree : s.link.tickLost = false) (hLate : s.passed s.link.tickAt msec = true) :
    exec .tickLost s = .next s.tickGone.leadStop := by
  show execTickLost s = _
  simp only [execTickLost, hSat, hFree, hLate]
  rfl

theorem State.leadStop_of_none {s : State} (h : s.str.satOn = []) : s.leadStop = s.leadDiscard := by
  have hOn : s.leadDiscard.str.satOn = [] := h
  have hSame : s.leadDiscard.modStr (fun x => { x with satOn := [] }) = s.leadDiscard := by
    show { s.leadDiscard with str := { s.leadDiscard.str with satOn := [] } } = s.leadDiscard
    rw [← hOn]
  rw [State.leadStop, h]
  exact hSame

/-- Settles O14. -/
theorem tickAlignsSatellites : Obligations.TickAlignsSatellites := by
  refine ⟨fun p c d s hUp hSat => ?_, fun p c d s hUp hSat hTicked hOk hPos hNext => ?_, fun s hSat hFree hLate hKind hOn => ?_,
    fun s hLead hUp hSeq => ?_⟩
  · rw [exec_tickReceive p c d hUp, hSat, ← State.tickOn_eq]
    rfl
  · refine ⟨_, exec_tickReceive_follow p d hUp hSat hTicked hOk hNext, ?_, ?_, ?_, ?_, ?_, ?_, ?_⟩
    · rw [State.get_tickFollow, State.get_put_same _ _ _ (by decide)]
      exact Nat.mod_eq_of_lt c.isLt
    · rw [State.tickOn_eq]
      simp only [State.tickFollow, tickLen, usec, Nat.cast_mul, Nat.cast_ofNat]
    · rw [State.tickOn_eq]
      rfl
    · rw [State.tickOn_eq]
      rfl
    · rw [State.tickOn_eq]
      rfl
    · rw [State.tickOn_eq]
      rfl
    · exact (s.tickOn_kept p c.toNat d.toNat _).trans (State.tickFollow_kept _ _ _)
  · obtain ⟨hOwner, hBit, hAddr⟩ := linkEvent_place 22 (by decide)
    have hKept : s.regsKept ((s.modLink (fun l => { l with tickLost := true, tickRun := 0, baseOk := false })).put
        F.SYS_LINK_STATE_TICKOK 0) [R.SYS_LINK_STATE] :=
      ((State.regsKept.refl s _).modLink _).trans (.put _ 0 (by simp [F.SYS_LINK_STATE_TICKOK]))
    obtain ⟨hFlag, hOcc⟩ := State.occurred_raise (s := (s.modLink (fun l => { l with tickLost := true, tickRun := 0, baseOk := false })).put
      F.SYS_LINK_STATE_TICKOK 0) (e := 22) (by rw [hKept.kind (by decide) (by decide) rfl, hOwner, hKind])
    have hFrame : s.tickGone = { s with regs := s.tickGone.regs, occ := s.tickGone.occ
                                        link := { s.link with tickLost := true, tickRun := 0, baseOk := false } } := by
      rw [State.tickGone, State.raise_changes]
      rfl
    have hStop : s.tickGone.leadStop = s.tickGone.leadDiscard := State.leadStop_of_none (by rw [hFrame]; exact hOn)
    refine ⟨_, exec_tickLost hSat hFree hLate, ?_⟩
    rw [hStop]
    refine ⟨?_, ⟨hFlag, hOcc⟩, ?_, s.tickGone.leadDiscard_waits, ?_, ?_⟩
    · show s.tickGone.flag F.SYS_LINK_STATE_TICKOK = false
      rw [State.tickGone, State.flag_raise_ne _ 22 (by decide), State.flag_put_same _ (by decide)]
      rfl
    · rw [hFrame]; rfl
    · rw [hFrame]; rfl
    · exact .of_regs ((hKept.mono (by simp)).trans (.raise _ (by simp))) rfl
  · have hAddr := s.myAddr_lt
    obtain ⟨hHead, hCrc⟩ := checkedWrite_good (r := s.baseRequest) (by simp [Request.auth, State.baseRequest]) (by simp [State.baseRequest]) rfl
    refine ⟨_, checkedWrite s.baseRequest, exec_tickBaseBroadcast hLead hUp, rfl, ?_, ?_, ?_, ?_, rfl, rfl, hHead, hCrc⟩
    · show (0x40 : Byte).getLsbD 6 = true
      decide
    · show (BitVec.ofNat 8 s.myAddr).getLsbD 7 = false
      rw [BitVec.getLsbD_ofNat, Nat.testBit_lt_two_pow (by omega), Bool.and_false]
    · show (BitVec.ofNat 8 s.myAddr).toNat % 64 = _
      rw [BitVec.toNat_ofNat]
      omega
    · show (BitVec.ofNat 8 s.link.bcastSeq).toNat = _
      rw [BitVec.toNat_ofNat]
      omega

end Sys2Proof.Machine
end

section
/-! Unicast requests of the host: the order of their checks, the sequence number and the reply (R62 to R67, R89). -/

namespace Sys2Proof.Machine

open Sys2Proof

/-! ## Replies leave the sequence state alone -/

theorem State.sessionEnd_link (s : State) : s.sessionEnd.link = s.link := by
  unfold State.sessionEnd
  split
  · rw [State.raise_changes]; rfl
  · rfl

theorem State.sessionUsed_link (s : State) (x : Session) : (s.sessionUsed x).link = s.link := by
  unfold State.sessionUsed
  split
  · rfl
  split
  · split
    · exact s.sessionEnd_link
    · rfl
  · rfl

theorem State.sendReply_host (s : State) (p : Port) (lead auth : Bool) (opc : Byte) (r : Request) (err dup : Bool) (payload : List Byte)
    (trail : List Byte → List Byte) : (s.sendReply p lead auth opc r err dup payload trail).link.host = s.link.host := by
  unfold State.sendReply
  dsimp only
  split <;> rfl

theorem State.reply_host (s : State) (p : Port) (lead : Bool) (x : Option Session) (opc : Byte) (r : Request) (err dup : Bool)
    (payload : List Byte) : (s.reply p lead x opc r err dup payload).link.host = s.link.host := by
  cases x with
  | none => exact s.sendReply_host p lead false opc r err dup payload _
  | some y =>
    refine ((s.sessionUsed y).sendReply_host p lead true opc r err dup payload _).trans ?_
    rw [State.sessionUsed_link]

/-- A reply without AUTH changes no register. -/
theorem State.get_reply_none (s : State) (p : Port) (lead : Bool) (opc : Byte) (r : Request) (err dup : Bool) (payload : List Byte)
    (f : Fld) : (s.reply p lead none opc r err dup payload).get f = s.get f := by
  unfold State.reply State.sendReply
  dsimp only
  split <;> rfl

theorem State.replyErr_eq (s : State) (p : Port) (lead : Bool) (x : Option Session) (opc : Byte) (r : Request) {c : ErrCode} (n : Nat)
    (h : c ≠ .auth) : s.replyErr p lead x opc r c n = s.reply p lead x opc r true false (errPayload c n) := by
  rw [State.replyErr, if_neg h]

theorem State.replyErr_auth (s : State) (p : Port) (lead : Bool) (x : Option Session) (opc : Byte) (r : Request) (n : Nat) :
    s.replyErr p lead x opc r .auth n = s.reply p lead none opc r true false (errPayload .auth n) := by
  rw [State.replyErr, if_pos rfl]

/-! ## Checks 1 to 5 (R64, R89) -/

/-- A request of the host that reaches the module comes to check 5. -/
theorem State.arrive_of_reaches {s : State} {opc : Byte} {r : Request} (h : s.reaches opc r) (p : Port) :
    s.arrive p opc r = s.accepted p false opc r := by
  obtain ⟨hUp, hRing, hHead, hRpl, hBcast, hAddr, hDev, hCrc, hHost, -⟩ := h
  rw [State.arrive_eq hUp hRing]
  simp only [State.received, hHead, ne_eq, not_true, if_false, hRpl, hBcast, Bool.false_eq_true, hRing, hAddr, hDev, beq_self_eq_true,
    Bool.and_self, Bool.or_true, if_true, State.unicast, hCrc, Bool.not_true, State.origin_of_fromHost hHost]

/-- A request that fails check 5. -/
theorem State.accepted_refused {s : State} {opc : Byte} {r : Request} (hRoom : r.waiting < 4) (h : s.authenticate false opc r = none)
    (p : Port) : s.accepted p false opc r = s.authFail.reply p false none opc r true false (errPayload .auth 0) := by
  simp only [State.accepted, Nat.not_le.mpr hRoom, if_false, h, State.replyErr_auth]

/-- A request without AUTH that passes check 5. -/
theorem State.accepted_plain {s : State} {opc : Byte} {r : Request} (hRoom : r.waiting < 4)
    (h : s.authenticate false opc r = some none) (p : Port) : s.accepted p false opc r = s.sequenced p false none opc r := by
  simp only [State.accepted, Nat.not_le.mpr hRoom, if_false, h]

/-- A request that session `x` accepts, whose counter is not used up. -/
theorem State.accepted_session {s : State} {opc : Byte} {r : Request} {x : Session} (hRoom : r.waiting < 4)
    (h : s.authenticate false opc r = some (some x)) (hCount : x.fcIn < 0xFFFFFFFF) (p : Port) :
    s.accepted p false opc r = (s.modSec (fun y => { y with session := some x })).sequenced p false (some x) opc r := by
  have hLast : (x.fcIn == 0xFFFFFFFF) = false := by simpa using Nat.ne_of_lt hCount
  simp only [State.accepted, Nat.not_le.mpr hRoom, if_false, h, hLast, Bool.and_false, Bool.false_eq_true]

/-- A request that passes check 5 comes to the sequence number. -/
theorem State.arrive_of_admitted {s v : State} {opc : Byte} {r : Request} {x : Option Session} (h : s.admitted opc r x v) (p : Port) :
    s.arrive p opc r = v.sequenced p false x opc r := by
  obtain ⟨hReaches, ⟨hAuth, hNeeds, rfl, rfl⟩ | ⟨y, hAuth, hCount, hSession, hAccepts, rfl, rfl⟩⟩ := h
  all_goals
    rw [State.arrive_of_reaches hReaches]
    obtain ⟨-, -, -, -, -, -, -, -, -, hRoom⟩ := hReaches
  · exact State.accepted_plain hRoom (by simp [State.authenticate, hAuth, hNeeds]) p
  · exact State.accepted_session (x := { y with fcIn := r.fcnt }) hRoom (by simp [State.authenticate, hAuth, hSession, hAccepts]) hCount p

/-- A request that fails check 5 is counted, reported and answered. -/
theorem State.arrive_of_unproved {s : State} {opc : Byte} {r : Request} (h : s.unproved opc r) (p : Port) :
    s.arrive p opc r = s.authFail.reply p false none opc r true false (errPayload .auth 0) := by
  obtain ⟨hReaches, hProof⟩ := h
  have hFails : s.authenticate false opc r = none := by
    rcases hProof with ⟨hAuth, hNeeds⟩ | ⟨hAuth, hRefuses⟩
    · simp [State.authenticate, hAuth, hNeeds]
    · cases hSession : s.sec.session with
      | none => simp [State.authenticate, hAuth, hSession]
      | some y => simp [State.authenticate, hAuth, hSession, hRefuses y hSession]
  rw [State.arrive_of_reaches hReaches]
  obtain ⟨-, -, -, -, -, -, -, -, -, hRoom⟩ := hReaches
  exact State.accepted_refused hRoom hFails p

theorem State.authFail_frame (s : State) : s.authFail = { s with regs := s.authFail.regs, occ := s.authFail.occ } := by
  rw [State.authFail, State.raise_changes]
  rfl

theorem State.admitted_link {s v : State} {opc : Byte} {r : Request} {x : Option Session} (h : s.admitted opc r x v) :
    v.link = s.link := by
  obtain ⟨-, ⟨-, -, -, rfl⟩ | ⟨y, -, -, -, -, -, rfl⟩⟩ := h <;> rfl

/-! ## The sequence number (R67) -/

/-- The request next in sequence runs. -/
theorem State.sequenced_next {s : State} {r : Request} (h : r.seq.toNat = s.link.host.exp) (p : Port) (x : Option Session) (opc : Byte) :
    s.sequenced p false x opc r = s.runRequest p false x opc r :=
  if_pos h

/-- How far a sequence number lies behind E, of which the last four count. -/
theorem seqBack_iff {e q : Nat} (he : e < 256) (hq : q < 256) :
    (1 ≤ (e + 256 - q) % 256 ∧ (e + 256 - q) % 256 ≤ 4) ↔ ∃ k, 1 ≤ k ∧ k ≤ 4 ∧ (q + k) % 256 = e := by
  constructor
  · rintro ⟨h1, h4⟩
    exact ⟨(e + 256 - q) % 256, h1, h4, by omega⟩
  · rintro ⟨k, h1, h4, hk⟩
    omega

/-- One of the last four gets its cached reply again. -/
theorem State.sequenced_cached {s : State} {r : Request} {c : Cached} (hExp : s.link.host.exp < 256)
    (hBack : ∃ k, 1 ≤ k ∧ k ≤ 4 ∧ (r.seq.toNat + k) % 256 = s.link.host.exp)
    (hCached : s.link.host.cache.find? (fun c => c.seq == r.seq.toNat) = some c) (p : Port) (x : Option Session) (opc : Byte) :
    s.sequenced p false x opc r = s.reply p false x opc r c.err true c.payload := by
  have hOther : r.seq.toNat ≠ s.link.host.exp := by
    obtain ⟨k, hPos, hFour, hk⟩ := hBack
    omega
  have hSet : s.linkSet false = s.link.host := rfl
  simp only [State.sequenced, hSet, hOther, if_false, (seqBack_iff hExp r.seq.isLt).mpr hBack, and_self, if_true, hCached]

/-- Any other gets ERR SEQ. -/
theorem State.sequenced_unknown {s : State} {r : Request} (hExp : s.link.host.exp < 256) (hOther : r.seq.toNat ≠ s.link.host.exp)
    (hNone : (∀ k, 1 ≤ k → k ≤ 4 → (r.seq.toNat + k) % 256 ≠ s.link.host.exp) ∨ ∀ c ∈ s.link.host.cache, c.seq ≠ r.seq.toNat)
    (p : Port) (x : Option Session) (opc : Byte) :
    s.sequenced p false x opc r = s.reply p false x opc r true false (errPayload .seq s.link.host.exp) := by
  have hSet : s.linkSet false = s.link.host := rfl
  have hMiss : (if 1 ≤ (s.link.host.exp + 256 - r.seq.toNat) % 256 ∧ (s.link.host.exp + 256 - r.seq.toNat) % 256 ≤ 4 then
      s.link.host.cache.find? (fun c => c.seq == r.seq.toNat) else none) = none := by
    split
    · next hBack =>
      rcases hNone with hFar | hFresh
      · obtain ⟨k, hPos, hFour, hk⟩ := (seqBack_iff hExp r.seq.isLt).mp hBack
        exact absurd hk (hFar k hPos hFour)
      · simpa using hFresh
    · rfl
  simp only [State.sequenced, hSet, hOther, if_false, hMiss]
  exact s.replyErr_eq p false x opc r _ (by decide)

/-! ## Execution and its reply (R62, R64, R66, R67) -/

/-- A request that is next in sequence uses it up and its reply heads the cache. -/
def State.seqTake (s : State) (r : Request) (opc : Byte) (err : Bool) (payload : List Byte) : State :=
  s.modSet false (fun l => { l with exp := (l.exp + 1) % 256, cache := (⟨r.seq.toNat, opc, err, payload⟩ :: l.cache).take 4 })

/-- The reply to a request that took its sequence number, with what it left of the sequence state. -/
theorem State.reply_seqTake (u : State) (p : Port) (x : Option Session) (opc : Byte) (r : Request) (err : Bool) (payload : List Byte) :
    ((u.seqTake r opc err payload).reply p false x opc r err false payload).link.host.exp = (u.link.host.exp + 1) % 256 ∧
    ((u.seqTake r opc err payload).reply p false x opc r err false payload).link.host.cache =
      (⟨r.seq.toNat, opc, err, payload⟩ :: u.link.host.cache).take 4 := by
  rw [State.reply_host]
  exact ⟨rfl, rfl⟩

theorem State.runRequest_done {s : State} {opc : Byte} {r : Request} {x : Option Session} (hShape : shapeCode false opc r = none)
    (hRun : (s.execute false x.isSome opc r).err = none) (p : Port) : s.runRequest p false x opc r =
      ((s.execute false x.isSome opc r).st.seqTake r opc false (s.execute false x.isSome opc r).payload).reply p false x opc r
        false false (s.execute false x.isSome opc r).payload := by
  simp only [State.runRequest, hShape, hRun]
  rfl

/-- An error that takes the sequence number: of the shape, or of the execution. -/
theorem State.runRequest_failed {s u : State} {opc : Byte} {r : Request} {x : Option Session} {c : ErrCode} {n : Nat}
    (hTakes : c.keepsSeq = false)
    (hFail : shapeCode false opc r = some c ∧ n = 0 ∧ u = s ∨
      shapeCode false opc r = none ∧ (s.execute false x.isSome opc r).err = some (c, n) ∧ u = (s.execute false x.isSome opc r).st)
    (p : Port) : s.runRequest p false x opc r =
      (u.seqTake r opc true (errPayload c n)).reply p false x opc r true false (errPayload c n) := by
  rcases hFail with ⟨hShape, rfl, rfl⟩ | ⟨hShape, hRun, rfl⟩
  · simp only [State.runRequest, hShape, hTakes]
    rfl
  · simp only [State.runRequest, hShape, hRun, hTakes]
    rfl

/-- An execution that is refused with AUTH leaves the sequence. -/
theorem State.runRequest_auth {s : State} {opc : Byte} {r : Request} {x : Option Session} {n : Nat} (hShape : shapeCode false opc r = none)
    (hRun : (s.execute false x.isSome opc r).err = some (.auth, n)) (p : Port) : s.runRequest p false x opc r =
      (s.execute false x.isSome opc r).st.reply p false none opc r true false (errPayload .auth n) := by
  simp only [State.runRequest, hShape, hRun]
  exact State.replyErr_auth _ p false x opc r n

/-- Settles O6: `arrive` brings every request of the host to check 5 and on to the sequence number, where one lemma says what
each outcome leaves. -/
theorem hostRequestRunsInSequence : Obligations.HostRequestRunsInSequence := by
  refine ⟨fun p r x s v co hCo hAdm hSeq hShape hRun => ?_, fun p r x c n s v u co hCo hAdm hSeq hTakes hFail => ?_,
    fun p r x n s v co hCo hAdm hSeq hShape hRun => ?_, fun p r x c s v co hCo hAdm hExp hBack hCached => ?_,
    fun p r x s v co hCo hAdm hExp hSeq hNone => ?_, fun p r s co hCo hUnproved => ?_⟩
  · obtain ⟨hE, hCache⟩ := (v.execute false x.isSome co.2 r).st.reply_seqTake p x co.2 r false (v.execute false x.isSome co.2 r).payload
    refine ⟨_, _, exec_of_unicastRows p r s co hCo, rfl, ?_⟩
    rw [State.arrive_of_admitted hAdm, State.sequenced_next (by rw [State.admitted_link hAdm, hSeq]), State.runRequest_done hShape hRun]
    refine ⟨hE, hCache, ?_⟩
    rw [hE, hCache]
    rfl
  · obtain ⟨hE, hCache⟩ := u.reply_seqTake p x co.2 r true (errPayload c n)
    refine ⟨_, exec_of_unicastRows p r s co hCo, ?_⟩
    rw [State.arrive_of_admitted hAdm, State.sequenced_next (by rw [State.admitted_link hAdm, hSeq]), State.runRequest_failed hTakes hFail]
    refine ⟨hE, hCache, ?_⟩
    rw [hE, hCache]
    rfl
  · refine ⟨_, exec_of_unicastRows p r s co hCo, ?_⟩
    rw [State.arrive_of_admitted hAdm, State.sequenced_next (by rw [State.admitted_link hAdm, hSeq]), State.runRequest_auth hShape hRun]
    exact ⟨State.reply_host _ _ _ _ _ _ _ _ _, rfl⟩
  all_goals refine ⟨_, exec_of_unicastRows p r s co hCo, ?_⟩
  · have hLink := State.admitted_link hAdm
    rw [← hLink] at hExp hBack hCached ⊢
    rw [State.arrive_of_admitted hAdm, State.sequenced_cached hExp hBack hCached]
    exact ⟨State.reply_host _ _ _ _ _ _ _ _ _, rfl⟩
  · have hLink := State.admitted_link hAdm
    rw [← hLink] at hExp hSeq hNone ⊢
    rw [State.arrive_of_admitted hAdm, State.sequenced_unknown hExp hSeq hNone]
    exact ⟨State.reply_host _ _ _ _ _ _ _ _ _, rfl⟩
  · rw [State.arrive_of_unproved hUnproved]
    refine ⟨?_, ?_, rfl⟩
    · rw [State.reply_host, State.authFail_frame]
    · rw [State.get_reply_none, State.authFail, State.get_raise_ne _ _ (by decide), State.get_put_addr _ _ (by decide),
        State.get_count16 _ 1 (by decide) rfl]

end Sys2Proof.Machine
end

section
/-! The lanes: what an entry written at HEAD or taken at TAIL leaves (R130, R133, R134). -/

namespace Sys2Proof.Machine

open Sys2Proof

/-! ## Byte strings of a fixed length -/

@[simp] theorem padTo_length (n : Nat) : ∀ l : List Byte, (padTo n l).length = n := by
  induction n with
  | zero => exact fun _ => rfl
  | succ n ih =>
    intro l
    cases l with
    | nil => exact congrArg (· + 1) (ih [])
    | cons b t => exact congrArg (· + 1) (ih t)

theorem padTo_of_length : ∀ l : List Byte, padTo l.length l = l
  | [] => rfl
  | b :: t => congrArg (b :: ·) (padTo_of_length t)

/-! ## What writing bytes leaves -/

@[simp] theorem State.word_setBytes (l : List Byte) (s : State) (a r : Nat) : (s.setBytes a l).word r = s.word r := by
  rw [State.setBytes_frame]
  rfl

@[simp] theorem State.deadPage_setBytes (l : List Byte) (s : State) (a c : Nat) : (s.setBytes a l).deadPage c = s.deadPage c := by
  rw [State.setBytes_frame]
  rfl

@[simp] theorem State.byte_put (s : State) (f : Fld) (v c : Nat) : (s.put f v).byte c = s.byte c := rfl

@[simp] theorem State.bytes_put (f : Fld) (v : Nat) (n : Nat) : ∀ (s : State) (c : Nat), (s.put f v).bytes c n = s.bytes c n := by
  induction n with
  | zero => exact fun _ _ => rfl
  | succ n ih => exact fun s c => by rw [State.bytes, State.bytes, ih, State.byte_put]

theorem State.getElem?_bytes (s : State) (n : Nat) : ∀ (a : Nat) {i : Nat}, i < n → (s.bytes a n)[i]? = some (s.byte (a + i)) := by
  induction n with
  | zero => exact fun _ _ hi => absurd hi (Nat.not_lt_zero _)
  | succ n ih =>
    intro a i hi
    cases i with
    | zero => rfl
    | succ i =>
      rw [State.bytes, List.getElem?_cons_succ, ih (a + 1) (Nat.lt_of_succ_lt_succ hi), Nat.add_assoc, Nat.add_comm 1 i]

/-! ## The registers of the lanes -/

/-- Pointers of lanes read only the register of their lane. -/
theorem laneRegs_apart (m n : Nat) : R.LANE_TAIL m ≠ R.LANE_HEAD n ∧ R.LANE_SIZE m ≠ R.LANE_HEAD n ∧ R.LANE_BASE m ≠ R.LANE_HEAD n ∧
    R.LANE_CTRL m ≠ R.LANE_HEAD n ∧ R.LANE_SIZE m ≠ R.LANE_TAIL n ∧ R.LANE_BASE m ≠ R.LANE_TAIL n ∧ R.LANE_CTRL m ≠ R.LANE_TAIL n := by
  simp only [R.LANE_TAIL, R.LANE_HEAD, R.LANE_SIZE, R.LANE_BASE, R.LANE_CTRL]
  omega

/-- A pointer takes an index below 2^14. -/
theorem State.get_put_laneHead (s : State) (n : Nat) {v : Nat} (h : v < 16384) :
    (s.put (F.LANE_HEAD_HEAD n) v).get (F.LANE_HEAD_HEAD n) = v := by
  rw [State.get_put_same _ _ _ (by simp only [F.LANE_HEAD_HEAD]; decide)]
  exact Nat.mod_eq_of_lt h

theorem State.get_put_laneTail (s : State) (n : Nat) {v : Nat} (h : v < 16384) :
    (s.put (F.LANE_TAIL_TAIL n) v).get (F.LANE_TAIL_TAIL n) = v := by
  rw [State.get_put_same _ _ _ (by simp only [F.LANE_TAIL_TAIL]; decide)]
  exact Nat.mod_eq_of_lt h

/-! ## An entry written at HEAD (R134) -/

/-- The address of the slot at HEAD. -/
def State.headSlot (s : State) (n : Nat) : Nat := s.laneSlot n (s.get (F.LANE_HEAD_HEAD n))

/-- An entry written into a slot in a page that serves is just stored there. -/
theorem State.laneWrite_live {s : State} {n : Nat} (h : s.deadPage (s.headSlot n) = false) (b : List Byte) : s.laneWrite n b =
    (s.setBytes (s.headSlot n) (padTo 64 b)).put (F.LANE_HEAD_HEAD n) (s.laneNext n (s.get (F.LANE_HEAD_HEAD n))) := by
  have hLive : (State.put (s.setBytes (s.headSlot n) (padTo 64 b)) (F.LANE_HEAD_HEAD n)
      (s.laneNext n (s.get (F.LANE_HEAD_HEAD n)))).deadPage (s.headSlot n) = false :=
    (State.deadPage_setBytes _ s _ _).trans h
  exact if_neg (by simpa [State.headSlot] using hLive)

/-- What an entry written into a slot all of whose pages serve leaves. -/
structure State.Enters (s t : State) (n : Nat) (b : List Byte) : Prop where
  bytes : t.bytes (s.headSlot n) 64 = padTo 64 b
  others : s.bytesKept t (s.headSlot n) 64
  head : t.get (F.LANE_HEAD_HEAD n) = (s.get (F.LANE_HEAD_HEAD n) + 1) % s.laneSize n
  frame : t = { s with mem := t.mem, regs := t.regs }
  kept : s.regsKept t [R.LANE_HEAD n]

theorem State.laneWrite_enters {s : State} {n : Nat} (hPos : 0 < s.laneSize n) (hSize : s.laneSize n ≤ 16384)
    (hLive : ∀ i < 64, s.deadPage (s.headSlot n + i) = false) (b : List Byte) : s.Enters (s.laneWrite n b) n b := by
  rw [State.laneWrite_live (hLive 0 (by decide))]
  refine ⟨?_, fun c hc => ?_, ?_, ?_, ?_⟩
  · have hBytes := State.bytes_setBytes (padTo 64 b) s (s.headSlot n) (by simpa using hLive)
    rw [padTo_length] at hBytes
    rw [State.bytes_put, hBytes]
  · rw [State.byte_put, State.byte_setBytes_ne _ _ _ _ (by simpa using hc)]
  · exact State.get_put_laneHead _ n (Nat.lt_of_lt_of_le (Nat.mod_lt _ hPos) hSize)
  · rw [State.setBytes_frame]
    rfl
  · exact State.regsKept.trans (fun a _ => State.word_setBytes _ s _ a) (.put _ _ (by simp [F.LANE_HEAD_HEAD]))

/-! ## LANE_PUSH and LANE_POP of one entry (R131, R133, R142) -/

theorem State.laneIn_iff (s : State) (n : Nat) : s.laneIn n = true ↔ s.laneOn n = true ∧ s.flag (F.LANE_CTRL_DIR n) = true := by
  simp [State.laneIn]

theorem State.laneOut_iff (s : State) (n : Nat) : s.laneOut n = true ↔ s.laneOn n = true ∧ s.flag (F.LANE_CTRL_DIR n) = false := by
  simp [State.laneOut]

theorem State.lanePush_one {s : State} {n : Nat} {b : List Byte} (hLen : b.length = 64) (hIn : s.laneIn n = true)
    (hLead : s.flag (F.LANE_CTRL_LEAD n) = false) (hRoom : s.laneFull n = false) :
    s.lanePush false n b = ⟨none, [], s.laneWrite n b⟩ := by
  obtain ⟨hOn, hDir⟩ := (s.laneIn_iff n).mp hIn
  have hTake : b.take 64 = b := List.take_of_length_le (Nat.le_of_eq hLen)
  simp [State.lanePush, hDir, hLead, hOn, hLen, State.pushEntries, hRoom, hTake]

/-- The oldest entry of a lane, where it is not a skipped one. -/
theorem State.laneTake_first {s : State} {n : Nat} (hLevel : s.laneLevel n ≠ 0) (hType : s.laneType n (s.get (F.LANE_TAIL_TAIL n)) ≠ 0) :
    s.laneTake n = (some (s.bytes (s.laneSlot n (s.get (F.LANE_TAIL_TAIL n))) 64),
      s.put (F.LANE_TAIL_TAIL n) (s.laneNext n (s.get (F.LANE_TAIL_TAIL n)))) := by
  have hSkip : s.laneSkip n (s.laneLevel n) = s := by
    obtain ⟨k, hk⟩ := Nat.exists_eq_succ_of_ne_zero hLevel
    rw [hk, State.laneSkip]
    simp [hType]
  simp only [State.laneTake, hSkip, State.laneFirst, if_neg hLevel]

theorem State.lanePop_one {s : State} {n : Nat} (hOut : s.laneOut n = true) (hLevel : s.laneLevel n ≠ 0)
    (hType : s.laneType n (s.get (F.LANE_TAIL_TAIL n)) ≠ 0) :
    s.lanePop n 64 = ⟨none, s.bytes (s.laneSlot n (s.get (F.LANE_TAIL_TAIL n))) 64,
      s.put (F.LANE_TAIL_TAIL n) (s.laneNext n (s.get (F.LANE_TAIL_TAIL n)))⟩ := by
  obtain ⟨hOn, hDir⟩ := (s.laneOut_iff n).mp hOut
  simp [State.lanePop, hDir, hOn, State.lanePopUpTo, State.laneTake_first hLevel hType]

/-- The index after the oldest entry of a lane that holds one fits TAIL. -/
theorem State.laneNext_tail_lt {s : State} {n : Nat} (hLevel : s.laneLevel n ≠ 0) (hSize : s.laneSize n ≤ 16384) :
    s.laneNext n (s.get (F.LANE_TAIL_TAIL n)) < 16384 := by
  have hHead := s.get_lt (F.LANE_HEAD_HEAD n)
  have hw : (F.LANE_HEAD_HEAD n).w = 14 := rfl
  rw [hw] at hHead
  rcases Nat.eq_zero_or_pos (s.laneSize n) with hZero | hPos
  · rw [State.laneLevel, hZero, Nat.mod_zero] at hLevel
    rw [State.laneNext, hZero, Nat.mod_zero]
    omega
  · exact Nat.lt_of_lt_of_le (Nat.mod_lt _ hPos) hSize

/-! ## Execution of the requests (R59, R61, R663) -/

theorem phase_not_before_run {s : State} (h : 4 ≤ s.phaseOf) : decide (s.phaseOf < 4) = false := by
  simpa using h

theorem execute_read {s u : State} {r : Request} {w : Word} (hLen : r.len = 4) (hPar : s.parity = none)
    (hRead : s.hostRead r.addr.toNat = (none, w, u)) :
    s.execute false false 1 r = ⟨none, leBytes 4 w.toNat, { u with parity := none }⟩ := by
  have hWords : (List.range (r.len.toNat / 4)).map (fun i => r.addr.toNat + 4 * i) = [r.addr.toNat] := by rw [hLen]; rfl
  show (fun d : Done => { d with st := { d.st with parity := none } }) _ = _
  rw [hWords]
  simp [State.readWords, hPar, hRead]

/-- A WRITE or WRITE_MASK of one word. -/
theorem State.writeRequest_one {s u : State} {opc : Byte} {r : Request} {a : Nat} {m v : Word} (hWords : writeWords opc r = [(a, m, v)])
    (hPar : s.parity = none) (hAlign : a % 4 = 0) (hNeeds : s.needsAuth a m v = false) (hWrite : s.hostWord false a m v = (none, u)) :
    s.writeRequest false false opc r = ⟨none, [], u⟩ := by
  simp [State.writeRequest, hWords, State.hostWords, hPar, hAlign, hNeeds, hWrite]

theorem sessionEnd_request {s : State} {r : Request} (hRun : 4 ≤ s.phaseOf) (hBody : r.body = [3, 0, 0, 0]) :
    s.execute false false 7 r = ⟨none, [3, 0, 0, 0, 0], s.sessionEnd⟩ := by
  have hMsg : s.sessionMsg [3, 0, 0, 0] = (some [3, 0, 0, 0, 0], s.sessionEnd) := rfl
  show (if decide (s.phaseOf < 4) = true then _ else _) = _
  rw [phase_not_before_run hRun, hBody, hMsg]
  rfl

/-- Settles O7, one opcode after another. -/
theorem readyRequestsDoWhatTheyAsk : Obligations.ReadyRequestsDoWhatTheyAsk := by
  refine ⟨fun r s => ⟨rfl, rfl, rfl⟩, fun r s u w hLen hPar hRead => ?_, fun r s u hLen hPar hAlign hNeeds hWrite => ?_,
    fun r s u hRun hPar hAlign hNeeds hWrite => ?_, fun r s n hn hn16 hLen hRun hIn hLead hRoom hPos hSize hLive => ?_,
    fun r s n hn hn16 hLen hRun hOut hLevel hType hSize => ?_, fun r s x hRun hBody hSession hKind => ?_⟩
  · rw [execute_read hLen hPar hRead]
    exact ⟨rfl, rfl, rfl⟩
  · have hWords : writeWords 2 r = [(r.addr.toNat, BitVec.allOnes 32, BitVec.ofNat 32 (leNat (r.body.take 4)))] := by
      simp [writeWords, hLen]
    have hDone := State.writeRequest_one hWords hPar hAlign hNeeds hWrite
    show (s.writeRequest false false 2 r).err = none ∧ { (s.writeRequest false false 2 r).st with parity := none } = _
    rw [hDone]
    exact ⟨rfl, rfl⟩
  · have hDone := State.writeRequest_one (opc := 3) (r := r) rfl hPar hAlign hNeeds hWrite
    have hExec : s.execute false false 3 r = ⟨none, [], { u with parity := none }⟩ := by
      show (if decide (s.phaseOf < 4) = true then _ else (fun d : Done => { d with st := { d.st with parity := none } }) _) = _
      rw [phase_not_before_run hRun, hDone]
      rfl
    rw [hExec]
    exact ⟨rfl, rfl⟩
  · subst hn
    have hExec : s.execute false false 4 r = ⟨none, [], s.laneWrite r.addr.toNat r.body⟩ := by
      show (if decide (s.phaseOf < 4) = true then _ else s.lanePush false r.addr.toNat r.body) = _
      rw [phase_not_before_run hRun, State.lanePush_one hLen hIn hLead hRoom]
      rfl
    obtain ⟨hBytes, hOthers, hHead, hFrame, hKept⟩ := State.laneWrite_enters hPos hSize hLive r.body
    refine ⟨_, rfl, ?_⟩
    rw [hExec]
    refine ⟨rfl, fun i hi => ?_, hOthers, hHead, hFrame, hKept⟩
    have hAt := (s.laneWrite r.addr.toNat r.body).getElem?_bytes 64 (s.headSlot r.addr.toNat) (i := i) (by omega)
    rw [hBytes, ← hLen, padTo_of_length, List.getElem?_eq_getElem hi] at hAt
    exact (Option.some.inj hAt).symm
  · subst hn
    have hExec : s.execute false false 5 r = s.lanePop r.addr.toNat 64 := by
      show (if decide (s.phaseOf < 4) = true then _ else s.lanePop r.addr.toNat r.len.toNat) = _
      rw [phase_not_before_run hRun, hLen]
      rfl
    refine ⟨_, rfl, ?_⟩
    rw [hExec, State.lanePop_one hOut hLevel hType]
    exact ⟨rfl, rfl, State.get_put_laneTail _ _ (State.laneNext_tail_lt hLevel hSize), rfl, .put s _ (by simp [F.LANE_TAIL_TAIL])⟩
  · have hEnd : s.sessionEnd = (s.raise 242).modSec (fun x => { x with session := none }) := by
      rw [State.sessionEnd, hSession]
      rfl
    obtain ⟨hFlag, hOcc⟩ := State.occurred_raise (s := s) (e := 242) hKind
    refine ⟨_, rfl, ?_⟩
    rw [sessionEnd_request hRun hBody, hEnd]
    refine ⟨rfl, rfl, rfl, ⟨hFlag, hOcc⟩, ?_, .of_regs (.raise s (by simp)) rfl⟩
    rw [State.raise_changes]
    rfl

end Sys2Proof.Machine
end

section
/-! What a device reset leaves (R68, R453, R454, R591 to R599, R614): each of its stages writes a few registers, the switches and
the clocks, and nothing else. -/

namespace Sys2Proof.Machine

open Sys2Proof

/-! ## Bits that are carried over a reset -/

theorem State.word_carry_ne (s t : State) {a b : Nat} (m : Nat) (h : b ≠ a) : (s.carry t a m).word b = t.word b :=
  t.word_setWord_ne _ h

theorem State.word_carry_whole (s t : State) (a : Nat) : (s.carry t a wholeWord).word a = s.word a := by
  rw [State.carry, State.word_setWord_same]
  exact mergeBits_allOnes _ _

theorem State.flag_carry (s t : State) (a m : Nat) {i : Nat} (hi : i < 32) :
    (s.carry t a m).flag ⟨a, i, 1⟩ = if m.testBit i then s.flag ⟨a, i, 1⟩ else t.flag ⟨a, i, 1⟩ := by
  simp only [flag_eq_getLsbD, State.carry, State.word_setWord_same, getLsbD_mergeBits _ _ _ hi]

theorem State.flag_carry_ne (s t : State) {a : Nat} (m : Nat) {f : Fld} (h : f.addr ≠ a) : (s.carry t a m).flag f = t.flag f :=
  State.flag_eq_of_word (s.word_carry_ne t m h)

/-- Rounds that each give the bit of their own index its value. -/
theorem State.flag_each {f : State → Nat → State} {g : Nat → Fld} {v : Nat → Bool} {k : Nat}
    (h : ∀ u j, (f u j).flag (g k) = if k = j then v k else u.flag (g k)) :
    ∀ (l : List Nat) (t : State), (t.each l f).flag (g k) = if k ∈ l then v k else t.flag (g k)
  | [], t => by simp [State.each]
  | j :: l, t => by
    have ih := State.flag_each h l (f t j)
    rw [h t j] at ih
    simp only [State.each, List.foldl_cons, List.mem_cons] at ih ⊢
    rw [ih]
    by_cases hj : k = j <;> by_cases hl : k ∈ l <;> simp [hj, hl]

/-! ## The stages -/

/-- From `s` to `t` the registers at `as`, the switches and the clocks may have changed, and nothing else has; the run of
the checks of MRC goes on. -/
structure State.Restarts (s t : State) (as : List Nat) : Prop where
  frame : t = { s with regs := t.regs, hsw := t.hsw, clocks := t.clocks }
  kept : s.regsKept t as
  passes : t.clocks.passes = s.clocks.passes
  fails : t.clocks.fails = s.clocks.fails

namespace State.Restarts

theorem refl (s : State) (as : List Nat) : s.Restarts s as := ⟨rfl, .refl s as, rfl, rfl⟩

theorem trans {s t u : State} {as : List Nat} (h : s.Restarts t as) (k : t.Restarts u as) : s.Restarts u as :=
  ⟨by rw [k.frame, h.frame], h.kept.trans k.kept, k.passes.trans h.passes, k.fails.trans h.fails⟩

theorem mono {s t : State} {as bs : List Nat} (h : s.Restarts t as) (hSub : as ⊆ bs) : s.Restarts t bs :=
  ⟨h.frame, h.kept.mono hSub, h.passes, h.fails⟩

theorem setWord (s : State) {b : Nat} (w : Word) {as : List Nat} (h : b ∈ as) : s.Restarts (s.setWord b w) as :=
  ⟨rfl, .setWord s w h, rfl, rfl⟩

theorem put (s : State) {f : Fld} (v : Nat) {as : List Nat} (h : f.addr ∈ as) : s.Restarts (s.put f v) as := setWord s _ h

theorem carry (s t : State) {a : Nat} (m : Nat) {as : List Nat} (h : a ∈ as) : t.Restarts (s.carry t a m) as := setWord t _ h

theorem modHsw (s : State) (k : Nat) (f : HswCh → HswCh) (as : List Nat) : s.Restarts (s.modHsw k f) as := ⟨rfl, .refl s as, rfl, rfl⟩

theorem each {α : Type} {as : List Nat} {f : State → α → State} (s : State) (l : List α)
    (h : ∀ x ∈ l, ∀ u : State, u.Restarts (f u x) as) : s.Restarts (s.each l f) as :=
  State.each_rel (r := fun s t => s.Restarts t as) (fun s => refl s as) trans l s fun x hx u _ => h x hx u

end State.Restarts

/-- The states of the switches. -/
def switchRegs : List Nat := (List.range 24).map R.HSW_CH_STAT

theorem hswChStat_mem {k : Nat} (h : k < 24) : R.HSW_CH_STAT k ∈ switchRegs := List.mem_map_of_mem (List.mem_range.mpr h)

theorem mem_filter_range {p : Nat → Bool} {k : Nat} : k ∈ (List.range 24).filter p ↔ k < 24 ∧ p k = true := by
  rw [List.mem_filter, List.mem_range]

theorem State.carryOutputs_restarts (s t : State) : t.Restarts (s.carryOutputs t) (R.HSW_HOLD :: switchRegs) := by
  have hStat : ∀ {p : Nat → Bool}, ∀ k ∈ (List.range 24).filter p, R.HSW_CH_STAT k ∈ R.HSW_HOLD :: switchRegs :=
    fun k hk => List.mem_cons_of_mem _ (hswChStat_mem (mem_filter_range.mp hk).1)
  refine .trans (.trans (.trans (.trans (.each t _ fun k hk u => ?_) (.each _ _ fun k hk u => ?_)) (.each _ _ fun k _ u => ?_))
    (.each _ _ fun k _ u => ?_)) (.setWord _ _ List.mem_cons_self)
  · exact .trans (.carry s u _ (hStat k hk)) (.put _ 1 (hStat k hk))
  · exact .carry s u _ (hStat k hk)
  · exact .modHsw u k _ _
  · exact .modHsw u k _ _

theorem State.strapShow_restarts (s : State) : s.Restarts s.strapShow [R.SYS_LINK_MODE] := by
  unfold State.strapShow
  split
  · exact .refl s _
  · exact .trans (.trans (.trans (.put s _ (.head _)) (.put _ _ (.head _))) (.put _ _ (.head _))) (.put _ _ (.head _))

theorem State.islRun_restarts (s : State) {i : Nat} (h : i ≠ 6) (as : List Nat) : s.Restarts (s.islRun i) as := by
  have h6 : (i == 6) = false := by simpa using h
  simp only [State.islRun, h6, State.when]
  exact ⟨rfl, .refl s as, rfl, rfl⟩

theorem State.pllsTo_restarts (s : State) (mrc : Bool) : s.Restarts (s.pllsTo mrc) [R.CLK_STAT] :=
  .trans (.trans (.put s _ (.head _)) (.put _ _ (.head _))) ⟨rfl, .refl _ _, rfl, rfl⟩

theorem State.islandsRun_restarts (s : State) (as : List Nat) :
    s.Restarts (s.each (List.range 12) fun s i => if i = 6 then s else s.islRun i) as :=
  .each s _ fun i _ u => by
    split
    · exact .refl u _
    · next hi => exact u.islRun_restarts hi _

/-- With no attempt behind it, clock start-up on a verified MRC locks the PLLs. -/
theorem State.mrcReady_restarts {s : State} (h : s.get F.CLK_START_ATT ≠ 3) : s.Restarts s.mrcReady [R.CLK_STAT] := by
  unfold State.mrcReady
  split
  · exact .refl s _
  have hAll := (s.islandsRun_restarts [R.CLK_STAT]).trans (State.pllsTo_restarts _ true)
  dsimp only
  rw [if_neg (by rw [hAll.kept.get (by decide)]; exact h)]
  exact hAll.trans ⟨rfl, .refl _ _, rfl, rfl⟩

theorem State.clockStart_restarts {s : State} (h : s.get F.CLK_START_ATT ≠ 3) : s.Restarts s.clockStart [R.CLK_STAT] := by
  have hStep : s.Restarts (s.modClk fun c => { c with step := 1 }) [R.CLK_STAT] := ⟨rfl, .refl s _, rfl, rfl⟩
  simp only [State.clockStart]
  split
  · exact hStep.trans (State.mrcReady_restarts h)
  · exact hStep

theorem State.clockStart_of_unverified {s : State} (h : s.flag F.CLK_STAT_MRC_OK = false) :
    s.clockStart = s.modClk fun c => { c with step := 1 } := by
  rw [State.clockStart]
  exact if_neg (by rw [show (s.modClk fun c => { c with step := 1 }).flag F.CLK_STAT_MRC_OK = s.flag F.CLK_STAT_MRC_OK from rfl, h]; decide)

/-! ## A device reset, stage by stage -/

/-- The state at the first instant of a device reset: every register at its reset word. -/
def State.resetBase (s : State) (held : Bool) : State :=
  { s.powerOn with
    hswKeep := s.hswKeep
    clocks := { s.powerOn.clocks with passes := s.clocks.passes, fails := s.clocks.fails }
    pwr := { s.powerOn.pwr with booting := s.pwr.booting, straps := s.pwr.straps, held := held, slugWarn := s.pwr.slugWarn
                                frac := s.pwr.frac
                                ends := (List.range 2).filter (fun d => s.flag (dieSafe d)) } }

/-- The kept registers have their bits back. -/
def State.resetKept (s : State) (held : Bool) : State := (s.resetBase held).each keptAtReset fun t e => s.carry t e.1 e.2

/-- A rail fault has cleared RAILS_OK. -/
def State.resetRails (s : State) (c : Nat) (held : Bool) : State := (s.resetKept held).when (c == 5) fun t => t.put F.PWR_STAT_RAILS_OK 0

/-- The outputs that stay on are shown, and so are the straps. -/
def State.resetOutputs (s : State) (c : Nat) (held : Bool) : State := (s.carryOutputs (s.resetRails c held)).strapShow

/-- The cause is shown, and start-up is in PU1. -/
def State.resetMarked (s : State) (c : Nat) (held : Bool) : State :=
  ((((s.resetOutputs c held).setNat R.PWR_RST_CAUSE c).put F.PWR_RST_CAUSE_WRUN (s.wrunAfter c)).put F.PWR_STAT_PHASE 1).put
    F.CLK_AVS_STAT_MV 900

theorem State.deviceReset_eq (s : State) (c : Nat) (held : Bool) :
    s.deviceReset c held = if held then s.resetMarked c held else (s.resetMarked c held).clockStart := rfl

/-- The registers that a device reset may leave at another word than their reset word. -/
def resetRegs : List Nat :=
  [R.PWR_HOURS, R.CLK_STAT, R.HSW_LH_STAT, R.PWR_STAT, R.HSW_HOLD, R.SYS_LINK_MODE, R.PWR_RST_CAUSE, R.CLK_AVS_STAT] ++ switchRegs

variable (s : State) (c : Nat) (held : Bool)

theorem State.word_resetBase (a : Nat) : (s.resetBase held).word a = resetWord a := State.word_of_regs_nil rfl a

theorem State.resetKept_restarts :
    (s.resetBase held).Restarts (s.resetKept held) [R.PWR_HOURS, R.CLK_STAT, R.HSW_LH_STAT, R.PWR_STAT] :=
  .each _ _ fun e he u => .carry s u e.2 (by
    have hAddr : ∀ e ∈ keptAtReset, e.1 ∈ [R.PWR_HOURS, R.CLK_STAT, R.HSW_LH_STAT, R.PWR_STAT] := by decide
    exact hAddr e he)

theorem State.resetRails_restarts : (s.resetKept held).Restarts (s.resetRails c held) [R.PWR_STAT] := by
  unfold State.resetRails State.when
  split
  · exact .put _ 0 (.head _)
  · exact .refl _ _

theorem State.resetOutputs_restarts :
    (s.resetRails c held).Restarts (s.resetOutputs c held) (R.HSW_HOLD :: R.SYS_LINK_MODE :: switchRegs) :=
  .trans ((s.carryOutputs_restarts _).mono (List.cons_subset_cons _ (List.subset_cons_self _ _)))
    ((State.strapShow_restarts _).mono (by simp))

theorem State.resetMarked_restarts :
    (s.resetOutputs c held).Restarts (s.resetMarked c held) [R.PWR_RST_CAUSE, R.PWR_STAT, R.CLK_AVS_STAT] :=
  .trans (.trans (.trans (.setWord _ _ (by decide)) (.put _ _ (by decide))) (.put _ _ (by decide))) (.put _ _ (by decide))

theorem State.resetMarked_resets : (s.resetBase held).Restarts (s.resetMarked c held) resetRegs :=
  .trans (.trans (.trans ((s.resetKept_restarts held).mono (by decide)) ((s.resetRails_restarts c held).mono (by decide)))
    ((s.resetOutputs_restarts c held).mono (by decide))) ((s.resetMarked_restarts c held).mono (by decide))

/-- No attempt of a start-up is behind a device reset. -/
theorem State.get_att_resetMarked : (s.resetMarked c held).get F.CLK_START_ATT ≠ 3 := by
  rw [(s.resetMarked_resets c held).kept.get (by decide), State.get, s.word_resetBase]
  decide

theorem State.resetMarked_starts : (s.resetMarked c held).Restarts (s.deviceReset c held) [R.CLK_STAT] := by
  rw [State.deviceReset_eq]
  split
  · exact .refl _ _
  · exact State.clockStart_restarts (s.get_att_resetMarked c held)

theorem State.deviceReset_resets : (s.resetBase held).Restarts (s.deviceReset c held) resetRegs :=
  (s.resetMarked_resets c held).trans ((s.resetMarked_starts c held).mono (by decide))

/-- A register that no stage writes holds its reset word. -/
theorem State.word_deviceReset_of_notMem {a : Nat} (h : a ∉ resetRegs) : (s.deviceReset c held).word a = resetWord a :=
  ((s.deviceReset_resets c held).kept a h).trans (s.word_resetBase held a)

/-! ## What stays -/

theorem State.word_resetRails {a : Nat} (h : a ≠ R.PWR_STAT) : (s.resetRails c held).word a = (s.resetKept held).word a :=
  (s.resetRails_restarts c held).kept a (by simpa using h)

/-- A register that only the first stage writes. -/
theorem State.word_deviceReset_of_kept {a : Nat}
    (h : a ∉ [R.CLK_STAT, R.PWR_STAT, R.HSW_HOLD, R.SYS_LINK_MODE, R.PWR_RST_CAUSE, R.CLK_AVS_STAT] ++ switchRegs) :
    (s.deviceReset c held).word a = (s.resetKept held).word a := by
  simp only [List.mem_append, List.mem_cons, List.not_mem_nil, not_or, or_false] at h
  obtain ⟨⟨hClk, hPwr, hHold, hMode, hCause, hAvs⟩, hSw⟩ := h
  rw [(s.resetMarked_starts c held).kept a (by simpa using hClk),
    (s.resetMarked_restarts c held).kept a (by simp [hCause, hPwr, hAvs]),
    (s.resetOutputs_restarts c held).kept a (by simp [hHold, hMode, hSw]), s.word_resetRails c held hPwr]

theorem State.word_deviceReset_hours : (s.deviceReset c held).word R.PWR_HOURS = s.word R.PWR_HOURS := by
  rw [s.word_deviceReset_of_kept c held (by decide)]
  simp only [State.resetKept, keptAtReset, State.each, List.foldl_cons, List.foldl_nil]
  rw [State.word_carry_ne _ _ _ (by decide), State.word_carry_ne _ _ _ (by decide), State.word_carry_ne _ _ _ (by decide),
    State.word_carry_whole]

/-- The bits of the clocks' status that no stage writes after they are carried. -/
theorem State.flag_resetKept_mrc : (s.resetKept held).flag F.CLK_STAT_MRC_OK = s.flag F.CLK_STAT_MRC_OK := by
  simp only [State.resetKept, keptAtReset, State.each, List.foldl_cons, List.foldl_nil]
  rw [State.flag_carry_ne _ _ _ (by decide), State.flag_carry_ne _ _ _ (by decide), F.CLK_STAT_MRC_OK,
    State.flag_carry _ _ _ _ (by decide)]
  exact if_pos (by decide)

/-- The bits of the supplies' status that are carried. -/
theorem State.flag_resetKept_pwr {i : Nat} (hi : i < 32) :
    (s.resetKept held).flag ⟨R.PWR_STAT, i, 1⟩ = (Nat.testBit 0x70F80000 i && s.flag ⟨R.PWR_STAT, i, 1⟩) := by
  simp only [State.resetKept, keptAtReset, State.each, List.foldl_cons, List.foldl_nil]
  rw [State.flag_carry _ _ _ _ hi, State.flag_carry_ne _ _ _ (show R.PWR_STAT ≠ R.HSW_LH_STAT by decide),
    State.flag_carry_ne _ _ _ (show R.PWR_STAT ≠ R.CLK_STAT by decide),
    State.flag_carry_ne _ _ _ (show R.PWR_STAT ≠ R.PWR_HOURS by decide)]
  have hZero : (s.resetBase held).flag ⟨R.PWR_STAT, i, 1⟩ = false := by
    rw [flag_eq_getLsbD, s.word_resetBase, show resetWord R.PWR_STAT = 0#32 by decide, BitVec.getLsbD_zero]
  rw [hZero, show bitsOfFields _ = 0x70F80000 by decide]
  cases Nat.testBit 0x70F80000 i <;> simp

/-- The supplies' status, but PHASE, stands from the second stage on. -/
theorem State.flag_deviceReset_rails {i : Nat} (hLo : 3 ≤ i) (hHi : i < 32) :
    (s.deviceReset c held).flag ⟨R.PWR_STAT, i, 1⟩ = (s.resetRails c held).flag ⟨R.PWR_STAT, i, 1⟩ := by
  have hApart : Fld.apart ⟨R.PWR_STAT, i, 1⟩ F.PWR_STAT_PHASE := .inr ⟨hHi, .inr hLo⟩
  rw [(s.resetMarked_starts c held).kept.flag (show R.PWR_STAT ∉ [R.CLK_STAT] by decide), State.resetMarked,
    State.flag_put_of_apart _ _ (.inl (show R.PWR_STAT ≠ R.CLK_AVS_STAT by decide)), State.flag_put_of_apart _ _ hApart,
    State.flag_put_of_apart _ _ (.inl (show R.PWR_STAT ≠ R.PWR_RST_CAUSE by decide)), State.setNat,
    State.flag_eq_of_word (State.word_setWord_ne _ _ (show R.PWR_STAT ≠ R.PWR_RST_CAUSE by decide)),
    (s.resetOutputs_restarts c held).kept.flag (show R.PWR_STAT ∉ R.HSW_HOLD :: R.SYS_LINK_MODE :: switchRegs by decide)]

/-- A flag of the supplies' status, but RAILS_OK. -/
theorem State.flag_deviceReset_pwr {i : Nat} (hLo : 3 ≤ i) (hHi : i < 32) (hRails : i ≠ 21) :
    (s.deviceReset c held).flag ⟨R.PWR_STAT, i, 1⟩ = (Nat.testBit 0x70F80000 i && s.flag ⟨R.PWR_STAT, i, 1⟩) := by
  rw [s.flag_deviceReset_rails c held hLo hHi, ← s.flag_resetKept_pwr held hHi, State.resetRails, State.when]
  split
  · exact State.flag_put_of_apart _ _ (.inr ⟨by simp only; omega, by simp only [F.PWR_STAT_RAILS_OK]; omega⟩)
  · rfl

theorem State.flag_deviceReset_railsOk :
    (s.deviceReset c held).flag F.PWR_STAT_RAILS_OK = (s.flag F.PWR_STAT_RAILS_OK && decide (c ≠ 5)) := by
  rw [F.PWR_STAT_RAILS_OK, s.flag_deviceReset_rails c held (by decide) (by decide), State.resetRails, State.when]
  by_cases hc : c = 5
  · rw [if_pos (by simp [hc])]
    exact (State.flag_put_same (f := F.PWR_STAT_RAILS_OK) 0 (by decide)).trans (by simp [hc])
  · rw [if_neg (by simpa using hc), s.flag_resetKept_pwr held (by decide)]
    simp [hc, show Nat.testBit 0x70F80000 21 = true by decide]

theorem State.phaseOf_deviceReset : (s.deviceReset c held).phaseOf = 1 := by
  rw [State.phaseOf, (s.resetMarked_starts c held).kept.get (by decide), State.resetMarked, State.get_put_addr _ _ (by decide),
    State.get_put_same _ _ _ (by decide)]
  rfl

theorem State.cause_deviceReset : (s.deviceReset c held).get F.PWR_RST_CAUSE_CAUSE = c % 16 := by
  rw [(s.resetMarked_starts c held).kept.get (by decide), State.resetMarked, State.get_put_addr _ _ (by decide),
    State.get_put_addr _ _ (by decide), State.get_put_apart _ _ (by decide) (by decide), State.get, State.setNat,
    F.PWR_RST_CAUSE_CAUSE, State.word_setWord_same, takeField, BitVec.toNat_ofNat]
  show c % 2 ^ 32 / 2 ^ 0 % 2 ^ 4 = c % 16
  omega

theorem State.wrun_deviceReset : (s.deviceReset c held).get F.PWR_RST_CAUSE_WRUN = s.wrunAfter c % 4 := by
  rw [(s.resetMarked_starts c held).kept.get (by decide), State.resetMarked, State.get_put_addr _ _ (by decide),
    State.get_put_addr _ _ (by decide), State.get_put_same _ _ _ (by decide)]
  rfl

theorem State.flag_pllsTo_mrc (s : State) (mrc : Bool) : (s.pllsTo mrc).flag F.CLK_STAT_MRC_OK = s.flag F.CLK_STAT_MRC_OK := by
  have hPlls : (s.pllsTo mrc).flag F.CLK_STAT_MRC_OK = ((s.put F.CLK_STAT_LOCK _).put F.CLK_STAT_REFMRC _).flag F.CLK_STAT_MRC_OK := rfl
  rw [hPlls, State.flag_put_of_apart _ _ (.inr (by decide)), State.flag_put_of_apart _ _ (.inr (by decide))]

theorem State.flag_mrcReady_mrc {s : State} (h : s.get F.CLK_START_ATT ≠ 3) :
    s.mrcReady.flag F.CLK_STAT_MRC_OK = s.flag F.CLK_STAT_MRC_OK := by
  unfold State.mrcReady
  split
  · rfl
  have hIsl := s.islandsRun_restarts []
  have hAtt := (State.pllsTo_restarts (s.each (List.range 12) fun s i => if i = 6 then s else s.islRun i) true).kept.get
    (f := F.CLK_START_ATT) (by decide)
  dsimp only
  rw [if_neg (by rw [hAtt, hIsl.kept.get (by decide)]; exact h)]
  exact (State.flag_pllsTo_mrc _ true).trans (hIsl.kept.flag (by decide))

/-- Clock start-up reads whether MRC is verified, and leaves it. -/
theorem State.flag_clockStart_mrc {s : State} (h : s.get F.CLK_START_ATT ≠ 3) :
    s.clockStart.flag F.CLK_STAT_MRC_OK = s.flag F.CLK_STAT_MRC_OK := by
  simp only [State.clockStart]
  split
  · exact State.flag_mrcReady_mrc h
  · rfl

theorem State.flag_deviceReset_mrc : (s.deviceReset c held).flag F.CLK_STAT_MRC_OK = s.flag F.CLK_STAT_MRC_OK := by
  have hMarked : (s.resetMarked c held).flag F.CLK_STAT_MRC_OK = s.flag F.CLK_STAT_MRC_OK := by
    rw [(s.resetMarked_restarts c held).kept.flag (by decide), (s.resetOutputs_restarts c held).kept.flag (by decide),
      (s.resetRails_restarts c held).kept.flag (by decide), s.flag_resetKept_mrc]
  rw [State.deviceReset_eq]
  split
  · exact hMarked
  · exact (State.flag_clockStart_mrc (s.get_att_resetMarked c held)).trans hMarked

/-! ## Switches and channels -/

theorem hswChStat_inj {j k : Nat} (h : k ≠ j) : R.HSW_CH_STAT k ≠ R.HSW_CH_STAT j := by
  simp only [R.HSW_CH_STAT]
  omega

theorem onBit_carried (k : Nat) : (bitsOfFields [F.HSW_CH_STAT_ON k, F.HSW_CH_STAT_INRUSH k]).testBit 16 = true := by
  have hMask : bitsOfFields [F.HSW_CH_STAT_ON k, F.HSW_CH_STAT_INRUSH k] = 0x90000 := by
    simp [bitsOfFields, bitsOfField, F.HSW_CH_STAT_ON, F.HSW_CH_STAT_INRUSH]
  rw [hMask]
  decide

/-- A switch under hold-over and one in limp-home keep their output; every other output is as it was. -/
theorem State.hswOut_carryOutputs (s t : State) {k : Nat} (hk : k < 24) (hOff : t.hswOut k = false) :
    (s.carryOutputs t).hswOut k = (s.hswOut k && (s.holdAtReset k || s.limped k)) := by
  have hHold : ∀ u j, ((s.carry u (R.HSW_CH_STAT j) (bitsOfFields [F.HSW_CH_STAT_ON j, F.HSW_CH_STAT_INRUSH j])).put
      (F.HSW_CH_STAT_HELD j) 1).flag (F.HSW_CH_STAT_ON k) = if k = j then s.hswOut k else u.flag (F.HSW_CH_STAT_ON k) := fun u j => by
    split
    · next h =>
      subst h
      rw [State.flag_put_of_apart _ _ (.inr (by simp only [F.HSW_CH_STAT_ON, F.HSW_CH_STAT_HELD]; decide)), F.HSW_CH_STAT_ON,
        State.flag_carry _ _ _ _ (by decide)]
      exact if_pos (onBit_carried k)
    · next h =>
      rw [State.flag_put_of_apart _ _ (.inl (hswChStat_inj h)), State.flag_carry_ne _ _ _ (hswChStat_inj h)]
  have hLimp : ∀ u j, (s.carry u (R.HSW_CH_STAT j) wholeWord).flag (F.HSW_CH_STAT_ON k) =
      if k = j then s.hswOut k else u.flag (F.HSW_CH_STAT_ON k) := fun u j => by
    split
    · next h =>
      subst h
      exact State.flag_eq_of_word (State.word_carry_whole _ _ _)
    · next h => exact State.flag_carry_ne _ _ _ (hswChStat_inj h)
  have hMods : ∀ (l : List Nat) (f : Nat → HswCh → HswCh) (u : State),
      (u.each l fun u k => u.modHsw k (f k)).flag (F.HSW_CH_STAT_ON k) = u.flag (F.HSW_CH_STAT_ON k) := fun l f u =>
    (State.Restarts.each (as := []) u l fun x _ u => .modHsw u x _ _).kept.flag (by simp)
  have hEnd : (s.carryOutputs t).hswOut k = _ :=
    State.flag_eq_of_word (State.word_setWord_ne _ _ (show R.HSW_CH_STAT k ≠ R.HSW_HOLD by simp only [R.HSW_CH_STAT, R.HSW_HOLD]; omega))
  rw [hEnd, hMods, hMods, State.flag_each (g := F.HSW_CH_STAT_ON) (v := s.hswOut) (hLimp),
    State.flag_each (g := F.HSW_CH_STAT_ON) (v := s.hswOut) (hHold)]
  simp only [mem_filter_range, hk, true_and]
  rw [show t.flag (F.HSW_CH_STAT_ON k) = false from hOff]
  cases s.limped k <;> cases s.holdAtReset k <;> simp

theorem hswChStat_place : ∀ k < 24, R.HSW_CH_STAT k ∉ [R.PWR_HOURS, R.CLK_STAT, R.HSW_LH_STAT, R.PWR_STAT, R.SYS_LINK_MODE,
    R.PWR_RST_CAUSE, R.CLK_AVS_STAT] ∧ resetWord (R.HSW_CH_STAT k) = 0 := by
  decide +kernel

theorem State.hswOut_deviceReset {k : Nat} (hk : k < 24) :
    (s.deviceReset c held).hswOut k = (s.hswOut k && (s.holdAtReset k || s.limped k)) := by
  obtain ⟨hPlace, hZero⟩ := hswChStat_place k hk
  simp only [List.mem_cons, List.not_mem_nil, or_false, not_or] at hPlace
  obtain ⟨hHours, hClk, hLimp, hPwr, hMode, hCause, hAvs⟩ := hPlace
  have hOff : (s.resetRails c held).hswOut k = false := by
    rw [State.hswOut, State.flag_eq_of_word (s.word_resetRails c held hPwr),
      (s.resetKept_restarts held).kept.flag (show R.HSW_CH_STAT k ∉ _ by simp [hHours, hClk, hLimp, hPwr]), F.HSW_CH_STAT_ON,
      flag_eq_getLsbD, s.word_resetBase, hZero]
    rfl
  rw [← s.hswOut_carryOutputs _ hk hOff, State.hswOut,
    (s.resetMarked_starts c held).kept.flag (show R.HSW_CH_STAT k ∉ _ by simpa using hClk),
    (s.resetMarked_restarts c held).kept.flag (show R.HSW_CH_STAT k ∉ _ by simp [hCause, hPwr, hAvs]), State.resetOutputs,
    (State.strapShow_restarts _).kept.flag (show R.HSW_CH_STAT k ∉ _ by simpa using hMode)]
  rfl

theorem solChStat_reset : ∀ n < 96, R.SOL_CH_STAT n ∉ resetRegs ∧
    takeField (resetWord (R.SOL_CH_STAT n)) (F.SOL_CH_STAT_PHASE n).lo (F.SOL_CH_STAT_PHASE n).w = 0 := by
  decide +kernel

theorem State.phase_deviceReset {n : Nat} (hn : n < 96) : (s.deviceReset c held).phase n = 0 := by
  obtain ⟨hMem, hZero⟩ := solChStat_reset n hn
  rw [State.phase, State.get, show (F.SOL_CH_STAT_PHASE n).addr = R.SOL_CH_STAT n from rfl,
    s.word_deviceReset_of_notMem c held hMem, hZero]

/-! ## The reply caches (R68) -/

theorem State.link_deviceReset : (s.deviceReset c held).link = { State.reset.link with sent := s.link.sent } := by
  rw [(s.deviceReset_resets c held).frame]
  rfl

/-- Both originators are expected to begin anew, and no reply is cached. -/
def State.AwaitsFirst (t : State) : Prop := t.link.host.exp = 0 ∧ t.link.host.cache = [] ∧ t.link.lead.exp = 0 ∧ t.link.lead.cache = []

theorem State.awaitsFirst_deviceReset : (s.deviceReset c held).AwaitsFirst := by
  rw [State.AwaitsFirst, State.link_deviceReset]
  exact ⟨rfl, rfl, rfl, rfl⟩

end Sys2Proof.Machine
end

section
namespace Sys2Proof.Machine

open Sys2Proof

/-! ## Commands that reset the device -/

theorem exec_resetNAssert {s : State} (hFree : s.pwr.held = false) (hPhase : s.phaseOf ≠ 0) :
    exec .resetNAssert s = .next (s.deviceReset 2 true) := by
  show execResetNAssert s = _
  rw [execResetNAssert, hFree, if_neg (by decide), if_neg (by simpa using hPhase)]

theorem exec_deviceReset {s : State} (h : s.pwr.softAt.isSome = true) : exec .deviceReset s = .next (s.deviceReset 4 false) := by
  show execDeviceReset s = _
  rw [execDeviceReset, if_pos h]

theorem exec_watchdogExpiry {s : State} (h : 3 ≤ s.phaseOf ∨ s.phaseOf = 2 ∧ s.sec.running = true) :
    exec .watchdogExpiry s = .next (s.deviceReset 3 false) := by
  show execWatchdogExpiry s = _
  rw [execWatchdogExpiry, if_pos (by simpa using h)]

theorem exec_railFault {s : State} (hRails : s.flag F.PWR_STAT_RAILS_OK = true) (hVbat : s.flag F.PWR_STAT_VBAT_OK = true)
    (hFree : s.pwr.held = false) : exec .railFault s = .next (s.deviceReset 5 false) := by
  show execRailFault s = _
  rw [execRailFault, hRails, hVbat, hFree]
  rfl

/-! ## Port commands spare the caches -/

/-- What every originator is expected to send, and the replies it has had, stand. -/
def State.SameCaches (s t : State) : Prop := t.link.host = s.link.host ∧ t.link.lead = s.link.lead

theorem State.sameCaches_raise {s t : State} (h : s.SameCaches t) (e : Nat) : s.SameCaches (t.raise e) := by
  rw [State.SameCaches, t.raise_changes e]
  exact h

theorem State.sameCaches_probe (s : State) (p : Port) (l : LinkProbe) : s.SameCaches (s.probe p l) := by
  rw [State.probe_eq]
  exact ⟨rfl, rfl⟩

theorem portCommand_caches {i : Instr} {p : Port} {l : LinkProbe} {s : State}
    (h : i = .portLoseLock p ∨ i = .retrainDone p l ∨ i = .portDown p ∨ i = .portUp p l) :
    ∃ t, exec i s = .next t ∧ s.SameCaches t := by
  rcases h with rfl | rfl | rfl | rfl <;> refine ⟨_, rfl, ?_⟩
  case inl =>
    split <;> exact ⟨rfl, rfl⟩
  case inr.inl =>
    split
    · exact s.sameCaches_probe p l
    · exact ⟨rfl, rfl⟩
  case inr.inr.inl =>
    split
    · split
      · exact State.sameCaches_raise (t := (s.put (portState p) 0).put (portWrap p) 1) ⟨rfl, rfl⟩ 20
      · exact ⟨rfl, rfl⟩
    · exact ⟨rfl, rfl⟩
  case inr.inr.inr =>
    split
    · exact State.sameCaches_raise (t := ((s.probe p l).put (portState p) 2).put (portWrap p) 0) (s.sameCaches_probe p l) 21
    · exact ⟨rfl, rfl⟩

/-- Settles O48: a device reset begins from the reset state of the link, and a port command changes neither originator. -/
theorem resetEmptiesTheReplyCache : Obligations.ResetEmptiesTheReplyCache := by
  unfold Obligations.ResetEmptiesTheReplyCache
  refine ⟨fun i s h => ?_, fun i p l s h => portCommand_caches h⟩
  rcases h with ⟨rfl, hFree, hPhase⟩ | ⟨rfl, hSoft⟩ | ⟨rfl, hPhase⟩ | ⟨rfl, hRails, hVbat, hFree⟩
  · exact ⟨_, exec_resetNAssert hFree hPhase, s.awaitsFirst_deviceReset 2 true⟩
  · exact ⟨_, exec_deviceReset hSoft, s.awaitsFirst_deviceReset 4 false⟩
  · exact ⟨_, exec_watchdogExpiry (.inl hPhase), s.awaitsFirst_deviceReset 3 false⟩
  · exact ⟨_, exec_railFault hRails hVbat hFree, s.awaitsFirst_deviceReset 5 false⟩

end Sys2Proof.Machine
end

section
/-! A device reset as a whole: its causes, and what it shows and keeps (R148, R453, R454, R591 to R597, R614). -/

namespace Sys2Proof.Machine

open Sys2Proof

/-! ## Without its cause there is no reset -/

theorem resetCommands_idle (s : State) :
    (s.pwr.held = true → exec .resetNAssert s = .next s) ∧
    (s.pwr.held = false → s.phaseOf = 0 → exec .resetNAssert s = .next { s with pwr := { s.pwr with held := true } }) ∧
    (s.pwr.softAt = none → exec .deviceReset s = .next s) ∧
    ((s.phaseOf < 2 ∨ s.phaseOf = 2 ∧ s.sec.running = false) → exec .watchdogExpiry s = .next s) ∧
    ((s.flag F.PWR_STAT_RAILS_OK = false ∨ s.flag F.PWR_STAT_VBAT_OK = false ∨ s.pwr.held = true) → exec .railFault s = .next s) := by
  refine ⟨fun h => ?_, fun h hPhase => ?_, fun h => ?_, fun h => ?_, fun h => ?_⟩
  · show execResetNAssert s = _
    rw [execResetNAssert, if_pos h]
  · show execResetNAssert s = _
    rw [execResetNAssert, if_neg (by simp [h]), if_pos (by simpa using hPhase)]
    rfl
  · show execDeviceReset s = _
    rw [execDeviceReset, if_neg (by simp [h])]
  · have hEarly : ¬ 3 ≤ s.phaseOf := by omega
    have hIdle : ¬ (s.phaseOf = 2 ∧ s.sec.running = true) := fun ⟨hTwo, hRun⟩ =>
      h.elim (fun hLt => absurd hTwo (by omega)) fun ⟨_, hStop⟩ => absurd (hRun.symm.trans hStop) (by decide)
    show execWatchdogExpiry s = _
    rw [execWatchdogExpiry, if_neg (by simpa [hEarly] using hIdle)]
  · show execRailFault s = _
    rw [execRailFault, if_neg]
    rcases h with h | h | h <;> simp [h]

/-- A command that resets the device, with the cause that it gives. -/
def resetCause (i : Instr) (c : Nat) (s : State) : Prop :=
  (i = .resetNAssert ∧ c = 2 ∧ s.pwr.held = false ∧ s.phaseOf ≠ 0) ∨ (i = .deviceReset ∧ c = 4 ∧ s.pwr.softAt.isSome = true) ∨
  (i = .watchdogExpiry ∧ c = 3 ∧ (3 ≤ s.phaseOf ∨ s.phaseOf = 2 ∧ s.sec.running = true)) ∨
  (i = .railFault ∧ c = 5 ∧ s.flag F.PWR_STAT_RAILS_OK = true ∧ s.flag F.PWR_STAT_VBAT_OK = true ∧ s.pwr.held = false)

/-- RESET_N keeps the module in reset, every other cause lets it go on. -/
theorem exec_of_resetCause {i : Instr} {c : Nat} {s : State} (h : resetCause i c s) :
    exec i s = .next (s.deviceReset c (decide (c = 2))) ∧ c < 16 := by
  rcases h with ⟨rfl, rfl, hFree, hPhase⟩ | ⟨rfl, rfl, hSoft⟩ | ⟨rfl, rfl, hPhase⟩ | ⟨rfl, rfl, hRails, hVbat, hFree⟩
  · exact ⟨exec_resetNAssert hFree hPhase, by decide⟩
  · exact ⟨exec_deviceReset hSoft, by decide⟩
  · exact ⟨exec_watchdogExpiry hPhase, by decide⟩
  · exact ⟨exec_railFault hRails hVbat hFree, by decide⟩

/-! ## What the reset shows -/

/-- The module is not in RUN, or has been there for less than `d`. -/
def State.runYounger (s : State) (d : Nat) : Bool := match s.pwr.runAt with | some t => !s.passed t d | none => true

theorem State.not_runYounger (s : State) (d : Nat) : (!s.runYounger d) = s.pwr.runAt.any (fun r => s.passed r d) := by
  unfold State.runYounger
  cases s.pwr.runAt with
  | none => rfl
  | some t => exact Bool.not_not _

theorem State.wrunAfter_eq (s : State) (c : Nat) :
    s.wrunAfter c % 4 = if c = 2 ∨ s.pwr.runAt.any (fun r => s.passed r (60 * second)) = true then 0
      else if c = 3 then min 3 (s.get F.PWR_RST_CAUSE_WRUN + 1) else s.get F.PWR_RST_CAUSE_WRUN := by
  have hLt : s.get F.PWR_RST_CAUSE_WRUN < 4 := s.get_lt F.PWR_RST_CAUSE_WRUN
  have hBound : min 3 (s.get F.PWR_RST_CAUSE_WRUN + 1) < 4 := by omega
  have hEq : s.wrunAfter c = if c == 2 || !s.runYounger (60 * second) then 0
      else if c == 3 then min 3 (s.get F.PWR_RST_CAUSE_WRUN + 1) else s.get F.PWR_RST_CAUSE_WRUN := rfl
  rw [hEq, State.not_runYounger]
  generalize s.pwr.runAt.any (fun r => s.passed r (60 * second)) = late
  by_cases hClear : c = 2 ∨ late = true
  · rw [if_pos hClear, if_pos (by simpa using hClear)]
  · rw [if_neg hClear, if_neg (by simpa using hClear)]
    by_cases hDog : c = 3
    · rw [if_pos hDog, if_pos (by simpa using hDog), Nat.mod_eq_of_lt hBound]
    · rw [if_neg hDog, if_neg (by simpa using hDog), Nat.mod_eq_of_lt hLt]

section
variable (s : State) (c : Nat) (held : Bool)

theorem State.pwr_deviceReset : (s.deviceReset c held).pwr = (s.resetBase held).pwr := by
  rw [(s.deviceReset_resets c held).frame]

theorem State.dieSafe_deviceReset {d : Nat} (hd : d < 2) : (s.deviceReset c held).flag (dieSafe d) = s.flag (dieSafe d) ∧
    (s.deviceReset c held).pwr.ends.contains d = s.flag (dieSafe d) := by
  refine ⟨?_, ?_⟩
  · rcases (show d = 0 ∨ d = 1 by omega) with rfl | rfl
    · exact (s.flag_deviceReset_pwr c held (i := 28) (by decide) (by decide) (by decide)).trans (by rw [show Nat.testBit 0x70F80000 28 = true by decide]; rfl)
    · exact (s.flag_deviceReset_pwr c held (i := 29) (by decide) (by decide) (by decide)).trans (by rw [show Nat.testBit 0x70F80000 29 = true by decide]; rfl)
  · have hEnds : (s.deviceReset c held).pwr.ends = (List.range 2).filter (fun d => s.flag (dieSafe d)) := by
      rw [s.pwr_deviceReset]
      rfl
    rw [hEnds, Bool.eq_iff_iff, List.contains_iff_mem, List.mem_filter, List.mem_range]
    exact ⟨fun h => h.2, fun h => ⟨hd, h⟩⟩

/-- What the reset brings back to its first value, and what it keeps, beside the registers. -/
theorem State.parts_deviceReset :
    (s.deviceReset c held).mem = [] ∧ (s.deviceReset c held).tag = 0 ∧ (s.deviceReset c held).clk = 0 ∧ (s.deviceReset c held).sol = [] ∧
    (s.deviceReset c held).flash = (s.resetBase held).flash ∧ (s.deviceReset c held).recd = (s.resetBase held).recd ∧
    (s.deviceReset c held).hswKeep = s.hswKeep := by
  rw [(s.deviceReset_resets c held).frame]
  exact ⟨rfl, rfl, rfl, rfl, rfl, rfl, rfl⟩

theorem notMem_resetRegs {a : Nat}
    (h : a ∉ [R.PWR_HOURS, R.CLK_STAT, R.HSW_LH_STAT, R.PWR_STAT, R.HSW_HOLD, R.SYS_LINK_MODE, R.PWR_RST_CAUSE, R.CLK_AVS_STAT])
    (hSw : ∀ k, k < 24 → a ≠ R.HSW_CH_STAT k) : a ∉ resetRegs := fun hMem => by
  rcases List.mem_append.mp hMem with hMem | hMem
  · exact h hMem
  · obtain ⟨k, hk, rfl⟩ := List.mem_map.mp hMem
    exact hSw k (List.mem_range.mp hk) rfl

end

/-- Settles O54: each cause leads to a device reset, whose stages write the registers named and no others. -/
theorem deviceResetKeepsWhatItMust : Obligations.DeviceResetKeepsWhatItMust := by
  unfold Obligations.DeviceResetKeepsWhatItMust
  refine ⟨resetCommands_idle, fun i c s h => ?_⟩
  obtain ⟨hExec, hc⟩ := exec_of_resetCause h
  generalize hHeld : decide (c = 2) = held at hExec
  obtain ⟨hMem, hTag, hClk, hSol, hFlash, hRecd, hKeep⟩ := s.parts_deviceReset c held
  have hPwr := s.pwr_deviceReset c held
  have hReset := s.deviceReset_resets c held
  refine ⟨_, hExec, ?_, s.phaseOf_deviceReset c held, ?_, ?_, ?_, ?_, hMem, hTag, hClk, hSol,
    fun n hn => s.phase_deviceReset c held hn, fun k hk => s.hswOut_deviceReset c held hk, s.word_deviceReset_hours c held,
    s.flag_deviceReset_mrc c held, hReset.passes, hReset.fails, ?_, ?_, ?_, ?_, ?_, hKeep, ?_, s.flag_deviceReset_railsOk c held,
    fun d hd => s.dieSafe_deviceReset c held hd, (s.wrun_deviceReset c held).trans (s.wrunAfter_eq c),
    fun a ha hSw => s.word_deviceReset_of_notMem c held (notMem_resetRegs ha hSw)⟩
  · rw [s.cause_deviceReset, Nat.mod_eq_of_lt hc]
  · exact s.flag_deviceReset_pwr c held (i := 31) (by decide) (by decide) (by decide)
  · rw [hPwr]; rfl
  · rw [hPwr]; rfl
  · rw [hPwr]; rfl
  · rw [hFlash]; rfl
  · rw [hFlash]; rfl
  · rw [hFlash]; rfl
  · rw [hRecd]; rfl
  · rw [hRecd]; rfl
  · rw [hPwr]; rfl

end Sys2Proof.Machine
end

section
/-! Work on outputs leaves every other part alone: the drives, the sensing of armatures and the switches write registers from FBK to
PACE only (R376, R389, R394, R422, R444, R450). -/

namespace Sys2Proof.Machine

open Sys2Proof

/-- The registers of the blocks from FBK to PACE, which sense and drive outputs. -/
def outputReg (a : Nat) : Prop := 0x90000 ≤ a ∧ a < 0x110000

/-- From `s` to `t` the work of solenoid channels has changed registers of the output blocks, the channels and what GEO, STR and ARM
keep of them. -/
structure State.ChannelsOnly (s t : State) : Prop where
  frame : t = { s with regs := t.regs, occ := t.occ, geo := t.geo, str := t.str, armCh := t.armCh, sol := t.sol }
  kept : ∀ a, ¬ outputReg a → t.word a = s.word a

/-- From `s` to `t` the work of outputs has changed registers of the output blocks and what those blocks keep. -/
structure State.OutputsOnly (s t : State) : Prop where
  frame : t = { s with
    regs := t.regs, occ := t.occ, fresh := t.fresh, enc := t.enc, geo := t.geo, str := t.str, armCh := t.armCh, armSw := t.armSw,
    sol := t.sol, hsw := t.hsw, hswKeep := t.hswKeep, pacer := t.pacer }
  kept : ∀ a, ¬ outputReg a → t.word a = s.word a

/-! ## Solenoid channels -/

namespace State.ChannelsOnly

theorem refl (s : State) : s.ChannelsOnly s := ⟨rfl, fun _ _ => rfl⟩

theorem trans {s t u : State} (h : s.ChannelsOnly t) (k : t.ChannelsOnly u) : s.ChannelsOnly u :=
  ⟨by rw [k.frame, h.frame], fun a ha => (k.kept a ha).trans (h.kept a ha)⟩

theorem each {α : Type} {f : State → α → State} (s : State) (l : List α) (h : ∀ x ∈ l, ∀ u : State, u.ChannelsOnly (f u x)) :
    s.ChannelsOnly (s.each l f) :=
  State.each_rel refl trans l s fun x hx u _ => h x hx u

theorem put (s : State) {f : Fld} (v : Nat) (h : outputReg f.addr) : s.ChannelsOnly (s.put f v) :=
  ⟨rfl, fun _ ha => s.word_put_ne f v fun e => ha (e ▸ h)⟩

theorem modCross (s : State) (p : Nat) (f : GeoCross → GeoCross) : s.ChannelsOnly (s.modCross p f) := ⟨rfl, fun _ _ => rfl⟩

theorem modSol (s : State) (n : Nat) (f : SolCh → SolCh) : s.ChannelsOnly (s.modSol n f) := ⟨rfl, fun _ _ => rfl⟩

theorem modArm (s : State) (n : Nat) (f : ArmCh → ArmCh) : s.ChannelsOnly (s.modArm n f) := ⟨rfl, fun _ _ => rfl⟩

theorem crossShow (s : State) (p : Nat) : s.ChannelsOnly (s.crossShow p) := by
  have hPut : ∀ (u : State) (lo w v : Nat), p < 128 → u.ChannelsOnly (u.put ⟨R.GEO_PT_STAT p, lo, w⟩ v) := fun u lo w v hp =>
    put u v (by simp only [outputReg, R.GEO_PT_STAT]; omega)
  unfold State.crossShow
  dsimp only
  split
  · exact refl s
  · next hp =>
    have hp : p < 128 := Nat.lt_of_not_le hp
    split
    · exact (((hPut s _ _ _ hp).trans (hPut _ _ _ _ hp)).trans (hPut _ _ _ _ hp)).trans (hPut _ _ _ _ hp)
    · exact ((hPut s _ _ _ hp).trans (hPut _ _ _ _ hp)).trans (hPut _ _ _ _ hp)

theorem geoClose (s : State) (p tk lat hyd : Nat) : s.ChannelsOnly (s.geoClose p tk lat hyd) := by
  unfold State.geoClose
  dsimp only
  split
  · exact refl s
  · exact (modCross s p _).trans (crossShow _ p)

theorem strForcedOff (s : State) (kind inst : Nat) : s.ChannelsOnly (s.strForcedOff kind inst) :=
  each s _ fun p _ u => trans (t := u.modPt p fun x => { x with plan := 0, lastOn := false, travel := 0 })
    ⟨rfl, fun _ _ => rfl⟩ (geoClose _ p _ _ _)

theorem armCloseWindow (s : State) (n : Nat) (skip : Bool) : s.ChannelsOnly (s.armCloseWindow n skip) := by
  unfold State.armCloseWindow
  split
  · exact ⟨rfl, fun _ _ => rfl⟩
  split
  · exact put s _ (by simp only [outputReg]; decide)
  · exact refl s

/-- A write to the status of a channel. -/
theorem put_stat (s : State) {n : Nat} (hn : n < 97) (lo w v : Nat) : s.ChannelsOnly (s.put ⟨R.SOL_CH_STAT n, lo, w⟩ v) :=
  put s v (by simp only [outputReg, R.SOL_CH_STAT]; omega)

theorem setPhase (s : State) {n : Nat} (hn : n < 97) (ph : Nat) : s.ChannelsOnly (s.setPhase n ph) := by
  unfold State.setPhase
  exact ((modArm s n _).trans (modSol _ n _)).trans (put_stat _ hn 0 3 ph)

theorem bankShow (s : State) {b : Nat} (hb : b < 12) : s.ChannelsOnly (s.bankShow b) := by
  have hPut : ∀ (u : State) (lo w v : Nat), u.ChannelsOnly (u.put ⟨R.SOL_BANK_STAT b, lo, w⟩ v) := fun u lo w v =>
    put u v (by simp only [outputReg, R.SOL_BANK_STAT]; omega)
  exact (hPut s _ _ _).trans (hPut _ _ _ _)

theorem decay (s : State) {n : Nat} (hn : n < 96) (prot forced : Bool) : s.ChannelsOnly (s.decay n prot forced) := by
  have hSlow : s.ChannelsOnly ((s.setPhase n 6).putB (F.SOL_CH_STAT_SLOWED n) (s.slowed n && !forced)) :=
    (setPhase s (by omega) 6).trans (put_stat _ (by omega) 24 1 _)
  unfold State.decay
  refine trans (trans (trans (hSlow.trans ?_) (modSol _ n _)) (armCloseWindow _ n _)) (bankShow _ (by simp only [bankOf]; omega))
  split
  · exact strForcedOff _ 1 n
  · exact refl _

theorem calFollower (s : State) {n : Nat} (hn : n < 96) : s.ChannelsOnly (s.calFollower n) := by
  unfold State.calFollower
  split
  · exact setPhase s (by omega) 0
  · exact refl s

theorem solCurrent (s : State) {n : Nat} (hn : n < 96) : s.ChannelsOnly (s.solCurrent n) := by
  unfold State.solCurrent
  dsimp only
  split
  · exact refl s
  have hIlim : s.ChannelsOnly (s.putB (F.SOL_CH_STAT_ILIM n) (s.currentClamped n)) := put_stat s (by omega) 19 1 _
  split
  · exact hIlim.trans (((calFollower _ hn).trans (setPhase _ (by omega) 5)).trans ((put_stat _ (by omega) 27 1 0).trans (modSol _ n _)))
  split
  · exact hIlim.trans (decay _ hn false false)
  · exact hIlim

theorem solResume (s : State) : s.ChannelsOnly (s.solResume (List.range 96)) :=
  each s _ fun _ hn u => solCurrent u (List.mem_range.mp hn)

theorem outputs {s t : State} (h : s.ChannelsOnly t) : s.OutputsOnly t := ⟨by rw [h.frame], h.kept⟩

end State.ChannelsOnly

/-! ## Switches, encoders and Pacers -/

namespace State.OutputsOnly

theorem refl (s : State) : s.OutputsOnly s := ⟨rfl, fun _ _ => rfl⟩

theorem trans {s t u : State} (h : s.OutputsOnly t) (k : t.OutputsOnly u) : s.OutputsOnly u :=
  ⟨by rw [k.frame, h.frame], fun a ha => (k.kept a ha).trans (h.kept a ha)⟩

theorem each {α : Type} {f : State → α → State} (s : State) (l : List α) (h : ∀ x ∈ l, ∀ u : State, u.OutputsOnly (f u x)) :
    s.OutputsOnly (s.each l f) :=
  State.each_rel refl trans l s fun x hx u _ => h x hx u

theorem setWord (s : State) {a : Nat} (w : Word) (h : outputReg a) : s.OutputsOnly (s.setWord a w) :=
  ⟨rfl, fun _ ha => s.word_setWord_ne w fun e => ha (e ▸ h)⟩

theorem put (s : State) {f : Fld} (v : Nat) (h : outputReg f.addr) : s.OutputsOnly (s.put f v) := setWord s _ h

theorem raise (s : State) {e : Nat} (h : outputReg (evBit e).addr) : s.OutputsOnly (s.raise e) :=
  ⟨by rw [s.raise_changes e], fun _ ha => s.word_raise_ne e fun he => ha (he ▸ h)⟩

theorem raiseIf (s : State) (c : Bool) {e : Nat} (h : outputReg (evBit e).addr) : s.OutputsOnly (s.raiseIf c e) := by
  cases c
  · exact refl s
  · exact raise s h

theorem modHsw (s : State) (k : Nat) (f : HswCh → HswCh) : s.OutputsOnly (s.modHsw k f) := ⟨rfl, fun _ _ => rfl⟩

theorem modSw (s : State) (k : Nat) (f : ArmSw → ArmSw) : s.OutputsOnly (s.modSw k f) := ⟨rfl, fun _ _ => rfl⟩

theorem modKeep (s : State) (f : HswKeep → HswKeep) : s.OutputsOnly (s.modKeep f) := ⟨rfl, fun _ _ => rfl⟩

variable {k : Nat} (hk : k < 24)
include hk

theorem put_hswStat (s : State) (lo w v : Nat) : s.OutputsOnly (s.put ⟨R.HSW_CH_STAT k, lo, w⟩ v) :=
  put s v (by simp only [outputReg, R.HSW_CH_STAT]; omega)

theorem eotWindow (s : State) (closing : Bool) : s.OutputsOnly (s.eotWindow k closing) := by
  unfold State.eotWindow
  dsimp only
  split
  · exact refl s
  split
  · exact put s 0 (by simp only [outputReg, F.ARM_SW_STAT_ATOPEN, R.ARM_SW_STAT]; omega)
  split
  · exact put s _ (by simp only [outputReg]; decide)
  · exact ⟨rfl, fun _ _ => rfl⟩

theorem hswClamp (s : State) (e : Nat) : s.OutputsOnly (s.hswClamp k e) := by
  have hClamp : ∀ (u : State) (lo w v : Nat), u.OutputsOnly (u.put ⟨R.HSW_CH_CLAMP k, lo, w⟩ v) := fun u _ _ v =>
    put u v (by simp only [outputReg, R.HSW_CH_CLAMP]; omega)
  have hSums : ∀ f a b, s.OutputsOnly (((s.modHsw k f).putSat (F.HSW_CH_CLAMP_LAST k) a).putSat (F.HSW_CH_CLAMP_SUM k) b) :=
    fun f _ _ => ((modHsw s k f).trans (hClamp _ _ _ _)).trans (hClamp _ _ _ _)
  unfold State.hswClamp
  dsimp only
  split
  · refine (((hSums _ _ _).trans (put _ 1 ?_)).trans (raise _ (by simp only [outputReg]; decide))).trans
      (put _ 1 (by simp only [outputReg]; decide))
    simp only [outputReg, F.HSW_CH_FLT_CLAMP, R.HSW_CH_FLT]; omega
  · exact hSums _ _ _

theorem hswTurnOff (s : State) (e : Nat) : s.OutputsOnly (s.hswTurnOff k e) := by
  have hOff : s.OutputsOnly (s.hswOutOff k e) := by
    have hPuts : s.OutputsOnly (((s.put (F.HSW_CH_STAT_ON k) 0).put (F.HSW_CH_STAT_INRUSH k) 0).put (F.HSW_CH_STAT_DIPHOLD k) 0) :=
      ((put_hswStat hk s _ _ 0).trans (put_hswStat hk _ _ _ 0)).trans (put_hswStat hk _ _ _ 0)
    exact (hPuts.trans (modHsw _ k _)).trans (hswClamp hk _ e)
  unfold State.hswTurnOff
  split
  · exact hOff.trans (eotWindow hk _ true)
  split
  · exact eotWindow hk s true
  · exact refl s

theorem hswTurnOffAny (s : State) : s.OutputsOnly (s.hswTurnOffAny k) := by
  unfold State.hswTurnOffAny
  split
  · have hFree : s.OutputsOnly (s.free 16).2 := ⟨rfl, fun _ _ => rfl⟩
    exact hFree.trans (hswTurnOff hk _ (s.free 16).1)
  · exact hswTurnOff hk s 0

theorem hswUncommand (s : State) : s.OutputsOnly (s.hswUncommand k) :=
  trans (t := s.put (F.HSW_CH_STAT_STRETCH k) 0) (put_hswStat hk s _ _ 0) (modHsw _ k _)

/-- A switch that goes off without a command in force, its hold at an end. -/
theorem hswRelease (s : State) : s.OutputsOnly (((s.hswTurnOffAny k).hswUncommand k).put (F.HSW_CH_STAT_HELD k) 0) :=
  ((hswTurnOffAny hk s).trans (hswUncommand hk _)).trans (put_hswStat hk _ _ _ 0)

theorem holdEnd (s : State) : s.OutputsOnly (s.holdEnd k) := by
  unfold State.holdEnd
  split
  · exact hswRelease hk s
  · exact refl s

theorem hswProtect (s : State) : s.OutputsOnly (s.hswProtect k none) := by
  have hOff : s.OutputsOnly ((((s.hswTurnOffAny k).hswUncommand k).put (F.HSW_CH_STAT_FORCED k) 1).put (F.HSW_CH_STAT_HELD k) 0) :=
    (((hswTurnOffAny hk s).trans (hswUncommand hk _)).trans (put_hswStat hk _ _ _ 1)).trans (put_hswStat hk _ _ _ 0)
  unfold State.hswProtect
  dsimp only
  split
  · exact hOff.trans (State.ChannelsOnly.strForcedOff _ 2 k).outputs
  · exact hOff

theorem hswTurnOn (s : State) : s.OutputsOnly (s.hswTurnOn k) := by
  have hCycles : s.OutputsOnly (s.setNat (R.HSW_CH_CYCLES k) (s.nat (R.HSW_CH_CYCLES k) + 1)) :=
    setWord s _ (by simp only [outputReg, R.HSW_CH_CYCLES]; omega)
  unfold State.hswTurnOn
  exact ((((hCycles.trans (put_hswStat hk _ _ _ 1)).trans (put_hswStat hk _ _ _ 1)).trans (put_hswStat hk _ _ _ 0)).trans
    (modHsw _ k _)).trans (eotWindow hk _ false)

theorem lhOff (s : State) : s.OutputsOnly (s.lhOff k) := by
  have hOff : s.OutputsOnly ((s.hswTurnOffAny k).put (F.HSW_CH_STAT_FORCED k) 1) := (hswTurnOffAny hk s).trans (put_hswStat hk _ _ _ 1)
  unfold State.lhOff
  dsimp only
  split
  · exact hOff.trans (State.ChannelsOnly.strForcedOff _ 2 k).outputs
  · exact hOff

theorem lhDrive (s : State) : s.OutputsOnly (s.lhDrive k) := by
  unfold State.lhDrive
  split
  · have hFree : s.OutputsOnly ((s.hswUncommand k).put (F.HSW_CH_STAT_HELD k) 0) := (hswUncommand hk s).trans (put_hswStat hk _ _ _ 0)
    refine trans (hFree.trans ?_) (put_hswStat hk _ _ _ 1)
    split
    · exact refl _
    · exact hswTurnOn hk _
  split
  · exact (lhOff hk s).trans (put_hswStat hk _ _ _ _)
  · exact (hswProtect hk s).trans (put_hswStat hk _ _ _ _)

omit hk

theorem lhDriveAll (s : State) : s.OutputsOnly s.lhDriveAll :=
  each s _ fun _ hk u => lhDrive (mem_filter_range.mp hk).1 u

theorem hswAbsentOff (s : State) : s.OutputsOnly s.hswAbsentOff :=
  each s _ fun k hk u => trans (t := ((u.hswTurnOffAny k).hswUncommand k).put (F.HSW_CH_STAT_HELD k) 0)
    (hswRelease (mem_filter_range.mp hk).1 u) (put_hswStat (mem_filter_range.mp hk).1 _ _ _ 0)

theorem lhLoad (s : State) (had : Bool) : s.OutputsOnly (s.lhLoad had) := by
  have hRest : ∀ (u : State) (v : Nat) (c : Bool), u.OutputsOnly
      ((((u.put F.HSW_LH_STAT_VALIDA v).put F.HSW_LH_STAT_VALIDB v).raiseIf c 185).when u.limp State.lhDriveAll) := fun u v c => by
    have hShow : u.OutputsOnly (((u.put F.HSW_LH_STAT_VALIDA v).put F.HSW_LH_STAT_VALIDB v).raiseIf c 185) :=
      ((put u v (by simp only [outputReg]; decide)).trans (put _ v (by simp only [outputReg]; decide))).trans
        (raiseIf _ c (by simp only [outputReg]; decide))
    unfold State.when
    split
    · exact hShow.trans (lhDriveAll _)
    · exact hShow
  unfold State.lhLoad
  split
  · exact (modKeep s _).trans (hRest _ 1 _)
  · exact (modKeep s _).trans (hRest _ 0 _)

theorem encVio (s : State) {n : Nat} (hn : n < 8) : s.OutputsOnly (s.encVio n) := by
  have hStat : ∀ (u : State) (lo w v : Nat), u.OutputsOnly (u.put ⟨R.FBK_ENC_STAT n, lo, w⟩ v) := fun u _ _ v =>
    put u v (by simp only [outputReg, R.FBK_ENC_STAT]; omega)
  have hStill : ∀ u : State, u.OutputsOnly (u.encStill n) := fun u =>
    (hStat u _ _ 0).trans (setWord _ _ (by simp only [outputReg, R.FBK_ENC_SPD]; omega))
  unfold State.encVio
  split
  · exact refl s
  unfold State.encBad
  dsimp only
  split
  · exact refl s
  have hBad : ∀ f v, s.OutputsOnly ((s.put (F.FBK_ENC_STAT_BAD n) v).modEnc n f) := fun f v =>
    trans (t := s.put (F.FBK_ENC_STAT_BAD n) v) (hStat s _ _ v) ⟨rfl, fun _ _ => rfl⟩
  split
  · exact (((hBad _ _).trans (hStill _)).trans (raise _ (by simp only [outputReg]; decide))).trans
      (put _ 1 (by simp only [outputReg]; decide))
  · exact hBad _ _

theorem paceLoad (s : State) : s.OutputsOnly s.paceLoad :=
  each s _ fun p hp u => trans (t := u.modPacer p fun q => { q with x := u.int (R.PACE_X0 p) * 2 ^ 16 }) ⟨rfl, fun _ _ => rfl⟩
    (setWord _ _ (by have := List.mem_range.mp hp; simp only [outputReg, R.PACE_X]; omega))

theorem restoreCycles (s : State) : s.OutputsOnly s.restoreCycles := by
  refine trans (each s _ fun n hn u => setWord u _ ?_) (each _ _ fun k hk u => setWord u _ ?_)
  · have := List.mem_range.mp hn
    simp only [outputReg, R.SOL_CH_CYCLES]; omega
  · have := List.mem_range.mp hk
    simp only [outputReg, R.HSW_CH_CYCLES]; omega

theorem restoreLat (s : State) : s.OutputsOnly s.restoreLat := by
  have hConf : ∀ (u : State) (n lo w v : Nat), n < 96 → u.OutputsOnly (u.put ⟨R.ARM_CH_CONF n, lo, w⟩ v) := fun u n _ _ v hn =>
    put u v (by simp only [outputReg, R.ARM_CH_CONF]; omega)
  have hEst : ∀ (u : State) (n : Nat) (w : Word), n < 96 → u.OutputsOnly (u.setWord (R.ARM_CH_EST n) w) := fun u n w hn =>
    setWord u w (by simp only [outputReg, R.ARM_CH_EST]; omega)
  have hSwEst : ∀ (u : State) (k : Nat) (w : Word), k < 24 → u.OutputsOnly (u.setWord (R.ARM_SW_EST k) w) := fun u k w hk =>
    setWord u w (by simp only [outputReg, R.ARM_SW_EST]; omega)
  have hSwConf : ∀ (u : State) (k v : Nat), k < 24 → u.OutputsOnly (u.put (F.ARM_SW_STAT_CONF k) v) := fun u k v hk =>
    put u v (by simp only [outputReg, F.ARM_SW_STAT_CONF, R.ARM_SW_STAT]; omega)
  unfold State.restoreLat
  split
  · refine trans (each s _ fun n hn u => ?_) (each _ _ fun k hk u => ?_)
    · have hn := List.mem_range.mp hn
      exact (((hEst u n _ hn).trans (hConf _ n _ _ _ hn)).trans (hConf _ n _ _ _ hn)).trans (hConf _ n _ _ _ hn)
    · have hk := List.mem_range.mp hk
      exact ((hSwEst u k _ hk).trans (modSw _ k _)).trans (hSwConf _ k _ hk)
  · refine trans (each s _ fun n hn u => ?_) (each _ _ fun k hk u => hSwEst u k _ (List.mem_range.mp hk))
    have hn := List.mem_range.mp hn
    exact (put u _ (by simp only [outputReg, armEst, F.ARM_CH_EST_LO, R.ARM_CH_EST, Bool.false_eq_true, if_false]; omega)).trans
      (put _ _ (by simp only [outputReg, armEst, F.ARM_CH_EST_LC, R.ARM_CH_EST, if_true]; omega))

end State.OutputsOnly

end Sys2Proof.Machine
end

section
/-! The recorder's work, and what a power-on reset keeps (R591, R618 to R622, R630). -/

namespace Sys2Proof.Machine

open Sys2Proof

/-! ## The recorder's work leaves every other part alone -/

/-- From `s` to `t` the recorder has changed its registers and what it keeps. -/
structure State.RecorderOnly (s t : State) : Prop where
  frame : t = { s with regs := t.regs, occ := t.occ, fresh := t.fresh, recd := t.recd }
  kept : ∀ a, a / 65536 ≠ 18 → t.word a = s.word a

namespace State.RecorderOnly

theorem refl (s : State) : s.RecorderOnly s := ⟨rfl, fun _ _ => rfl⟩

theorem trans {s t u : State} (h : s.RecorderOnly t) (k : t.RecorderOnly u) : s.RecorderOnly u :=
  ⟨by rw [k.frame, h.frame], fun a ha => (k.kept a ha).trans (h.kept a ha)⟩

theorem each {α : Type} {f : State → α → State} (s : State) (l : List α) (h : ∀ x ∈ l, ∀ u : State, u.RecorderOnly (f u x)) :
    s.RecorderOnly (s.each l f) :=
  State.each_rel refl trans l s fun x hx u _ => h x hx u

theorem setWord (s : State) {a : Nat} (w : Word) (h : a / 65536 = 18) : s.RecorderOnly (s.setWord a w) :=
  ⟨rfl, fun _ ha => s.word_setWord_ne w fun e => ha (e ▸ h)⟩

theorem put (s : State) {f : Fld} (v : Nat) (h : f.addr / 65536 = 18) : s.RecorderOnly (s.put f v) := setWord s _ h

theorem count (s : State) {f : Fld} (k : Nat) (h : f.addr / 65536 = 18) : s.RecorderOnly (s.count f k) := setWord s _ h

theorem raise (s : State) {e : Nat} (h : (evBit e).addr / 65536 = 18) : s.RecorderOnly (s.raise e) :=
  ⟨by rw [s.raise_changes e], fun _ ha => s.word_raise_ne e fun he => ha (he ▸ h)⟩

theorem modRec (s : State) (f : RecState → RecState) : s.RecorderOnly (s.modRec f) := ⟨rfl, fun _ _ => rfl⟩

theorem modTrig (s : State) (t : Nat) (f : TrigState → TrigState) : s.RecorderOnly (s.modTrig t f) := modRec s _

theorem recShow (s : State) : s.RecorderOnly s.recShow := by
  unfold State.recShow
  exact (((put s _ (by decide)).trans (put _ _ (by decide))).trans (put _ _ (by decide))).trans
    ((put _ _ (by decide)).trans (put _ _ (by decide)))

theorem recForm (s : State) (t v tag : Nat) (boot : Bool) : s.RecorderOnly (s.recForm t v tag boot) := by
  unfold State.recForm
  split
  · exact count s 1 (by decide)
  split
  · have hLost : s.RecorderOnly (s.count F.REC_STAGE_LOST 1) := count s 1 (by decide)
    dsimp only
    split
    · exact hLost.trans (modRec _ _)
    · exact ((hLost.trans (raise _ (by decide))).trans (put _ 1 (by decide))).trans (modRec _ _)
  · exact ((modRec s _).trans (modTrig _ t _)).trans (recShow _)

theorem recBoot (s : State) : s.RecorderOnly s.recBoot := by
  have hOcc : s.RecorderOnly { s with occ := [] } := ⟨rfl, fun _ _ => rfl⟩
  have hRound : ∀ t < 16, ∀ (u : State) (e : Nat), u.RecorderOnly (((((u.count (F.REC_TRG_CNT_N t) 1).modTrig t
      fun x => { x with fired := some u.clk }).setNat64 (R.REC_TRG_LAST_LO t) u.now).recForm t e u.now true)) := fun t ht u e =>
    (((count u 1 (by simp only [F.REC_TRG_CNT_N, R.REC_TRG_CNT]; omega)).trans (modTrig _ t _)).trans
      ((setWord _ _ (by simp only [R.REC_TRG_LAST_LO]; omega)).trans (setWord _ _ (by simp only [R.REC_TRG_LAST_LO]; omega)))).trans
      (recForm _ t e u.now true)
  unfold State.recBoot
  dsimp only
  split
  · refine hOcc.trans (each _ _ fun t ht u => ?_)
    split
    · exact hRound t (List.mem_range.mp ht) u _
    · exact refl u
  · exact hOcc

theorem logProgram (s : State) : s.RecorderOnly s.logProgram := by
  unfold State.logProgram
  split
  · exact refl s
  split
  · exact refl s
  dsimp only
  refine trans ?_ (recShow _)
  split
  · exact ((modRec s _).trans (((raise _ (by decide)).trans (put _ 1 (by decide))).trans (count _ _ (by decide)))).trans (modRec _ _)
  · exact modRec s _

theorem logCut (s : State) : s.RecorderOnly s.logCut := by
  have hFresh : s.RecorderOnly { s with fresh := s.fresh + 1 } := ⟨rfl, fun _ _ => rfl⟩
  have hEach : ∀ (u : State) (l : List Nat), u.RecorderOnly (u.each l fun s _ => s.logProgram) := fun u l =>
    each u l fun _ _ u => logProgram u
  have hCut : ∀ u : State, u.RecorderOnly { u.modRec (fun x => { x with log := x.log ++ [cutRecord u.fresh] }) with fresh := u.fresh + 1 } :=
    fun _ => ⟨rfl, fun _ _ => rfl⟩
  unfold State.logCut
  dsimp only
  split
  · exact hFresh
  split
  · exact (hFresh.trans (hEach _ _)).trans (hCut _)
  · exact hFresh.trans (hEach _ _)

end State.RecorderOnly

/-! ## The log only grows when power is lost -/

/-- The log has grown, and its erase sequence stands. -/
def State.LogGrows (s t : State) : Prop := s.recd.log <+: t.recd.log ∧ t.recd.les = s.recd.les

theorem State.LogGrows.refl (s : State) : s.LogGrows s := ⟨List.prefix_refl _, rfl⟩

theorem State.LogGrows.trans {s t u : State} (h : s.LogGrows t) (k : t.LogGrows u) : s.LogGrows u :=
  ⟨h.1.trans k.1, k.2.trans h.2⟩

theorem State.recd_recShow (s : State) : s.recShow.recd = s.recd := rfl

theorem State.logGrows_logProgram (s : State) : s.LogGrows s.logProgram := by
  unfold State.logProgram
  split
  · exact .refl s
  split
  · exact .refl s
  · rw [State.LogGrows, State.recd_recShow]
    split
    · simp only [State.modRec, State.count, State.putSat, State.put, State.setWord]
      rw [State.raise_changes]
      exact ⟨List.prefix_append _ _, rfl⟩
    · exact ⟨List.prefix_append _ _, rfl⟩

theorem State.logGrows_logCut (s : State) : s.LogGrows s.logCut := by
  have hEach : ∀ (l : List Nat) (u : State), u.LogGrows (u.each l fun s _ => s.logProgram) := fun l u =>
    State.each_rel .refl .trans l u fun _ _ u _ => u.logGrows_logProgram
  have hFresh : s.LogGrows { s with fresh := s.fresh + 1 } := .refl s
  unfold State.logCut
  dsimp only
  split
  · exact hFresh
  split
  · exact (hFresh.trans (hEach _ _)).trans ⟨List.prefix_append _ _, rfl⟩
  · exact hFresh.trans (hEach _ _)

/-- Nothing staged, or no power before: no record was being programmed. -/
theorem State.logCut_of_idle {s : State} (h : s.recd.staged = [] ∨ s.powered = false) : s.logCut = { s with fresh := s.fresh + 1 } := by
  have hPowered : State.powered { s with fresh := s.fresh + 1 } = s.powered := rfl
  unfold State.logCut
  dsimp only
  rw [if_pos]
  rcases h with h | h
  · simp [h]
  · simp [hPowered, h]

/-! ## The footing copies (R128) -/

/-- No ERASE or PROGRAM is at work: both copies stand. -/
theorem State.flashCopies_of_idle {s : State} (hErase : s.cfg.img ≠ some .erase) (hProgram : ∀ o n, s.cfg.img ≠ some (.program o n)) :
    s.flashCopies.copyA = s.cfg.copyA ∧ s.flashCopies.copyB = s.cfg.copyB := by
  cases hImg : s.cfg.img with
  | none => simp [State.flashCopies, hImg]
  | some c =>
    cases c with
    | erase => exact absurd hImg hErase
    | program o n => exact absurd hImg (hProgram o n)
    | verify => simp [State.flashCopies, hImg]
    | load slot => simp [State.flashCopies, hImg]

/-- An ERASE or PROGRAM was at work on the copy that did not boot: that copy begins with an erased byte. -/
theorem State.flashCopies_of_hit {s : State} {o n : Nat} (h : s.cfg.img = some .erase ∨ s.cfg.img = some (.program o n)) :
    (s.get F.CFG_FTG_STATE_BOOTED = 0 → s.flashCopies.copyA = s.cfg.copyA ∧ s.flashCopies.copyB.head? = some 0xFF) ∧
    (s.get F.CFG_FTG_STATE_BOOTED ≠ 0 → s.flashCopies.copyB = s.cfg.copyB ∧ s.flashCopies.copyA.head? = some 0xFF) := by
  rcases h with h | h <;> refine ⟨fun hB => ?_, fun hB => ?_⟩ <;> simp [State.flashCopies, h, hB]

/-! ## A power-on reset -/

/-- What a power-on reset keeps of the state that it finds. -/
theorem powerOnReset_effect (s : State) : ∃ t, exec .powerOnReset s = .next t ∧ (∀ a, t.word a = resetWord a) ∧ t.mem = [] ∧
    t.flash.store = s.flash.store ∧ s.recd.log <+: t.recd.log ∧
    (s.recd.staged = [] ∨ s.powered = false → t.recd.log = s.recd.log) ∧ t.recd.staged = [] ∧
    t.recd.les = s.recd.les ∧ t.flash.older = s.flash.older ∧ t.flash.homes = s.flash.homes ∧
    (s.cfg.img ≠ some .erase → (∀ o n, s.cfg.img ≠ some (.program o n)) → t.cfg.copyA = s.cfg.copyA ∧ t.cfg.copyB = s.cfg.copyB) ∧
    (∀ o n, s.cfg.img = some .erase ∨ s.cfg.img = some (.program o n) →
      (s.get F.CFG_FTG_STATE_BOOTED = 0 → t.cfg.copyA = s.cfg.copyA ∧ t.cfg.copyB.head? = some 0xFF) ∧
      (s.get F.CFG_FTG_STATE_BOOTED ≠ 0 → t.cfg.copyB = s.cfg.copyB ∧ t.cfg.copyA.head? = some 0xFF)) ∧
    t.sec.slotA = s.sec.slotA ∧ t.sec.slotB = s.sec.slotB ∧ t.sec.oem = s.sec.oem ∧ t.sec.arbFw = s.sec.arbFw ∧
    t.sec.arbFtg = s.sec.arbFtg ∧ t.sec.kill = s.sec.kill ∧ t.hswKeep.store = s.hswKeep.store ∧ t.pending = s.pending ∧
    t.pwr.booting = false ∧ t.clk = 0 ∧ t.tag = 0 := by
  have hCut := State.RecorderOnly.logCut s
  obtain ⟨hPrefix, hLes⟩ := s.logGrows_logCut
  have hCfg : s.logCut.cfg = s.cfg := by rw [hCut.frame]
  have hFlash : s.logCut.flash = s.flash := by rw [hCut.frame]
  have hSec : s.logCut.sec = s.sec := by rw [hCut.frame]
  have hKeep : s.logCut.hswKeep = s.hswKeep := by rw [hCut.frame]
  have hPending : s.logCut.pending = s.pending := by rw [hCut.frame]
  have hBooted : s.logCut.get F.CFG_FTG_STATE_BOOTED = s.get F.CFG_FTG_STATE_BOOTED := State.get_eq_of_word (hCut.kept _ (by decide))
  refine ⟨s.logCut.powerOn, rfl, State.word_of_regs_nil rfl, rfl, congrArg (·.store) hFlash, hPrefix, fun h => ?_, rfl, hLes,
    congrArg (·.older) hFlash, congrArg (·.homes) hFlash, fun hErase hProgram => ?_, fun o n h => ?_, congrArg (·.slotA) hSec,
    congrArg (·.slotB) hSec, congrArg (·.oem) hSec, congrArg (·.arbFw) hSec, congrArg (·.arbFtg) hSec, congrArg (·.kill) hSec,
    congrArg (·.store) hKeep, hPending, rfl, rfl, rfl⟩
  · show s.logCut.recd.log = s.recd.log
    rw [State.logCut_of_idle h]
  · have hCopies := State.flashCopies_of_idle (s := s.logCut) (by rwa [hCfg]) (by rwa [hCfg])
    rwa [hCfg] at hCopies
  · have hCopies := State.flashCopies_of_hit (s := s.logCut) (o := o) (n := n) (by rwa [hCfg])
    rwa [hCfg, hBooted] at hCopies

end Sys2Proof.Machine
end

section
/-! The first start-up phases: PU0 samples the straps and begins clock start-up, PU1 ends with the self-tests (R46, R567, R588, R592,
R653). -/

namespace Sys2Proof.Machine

open Sys2Proof

/-! ## Clock start-up leaves every other part alone -/

/-- The registers of CLK, NAV and CAN. -/
def clockReg (a : Nat) : Prop := a / 65536 = 2 ∨ a / 65536 = 8 ∨ a / 65536 = 17

/-- From `s` to `t` the clocks, the time base and the CAN controllers may have changed, with their registers. -/
structure State.ClocksOnly (s t : State) : Prop where
  frame : t = { s with regs := t.regs, occ := t.occ, nav := t.nav, canCtl := t.canCtl, clocks := t.clocks }
  kept : ∀ a, ¬ clockReg a → t.word a = s.word a

namespace State.ClocksOnly

theorem refl (s : State) : s.ClocksOnly s := ⟨rfl, fun _ _ => rfl⟩

theorem trans {s t u : State} (h : s.ClocksOnly t) (k : t.ClocksOnly u) : s.ClocksOnly u :=
  ⟨by rw [k.frame, h.frame], fun a ha => (k.kept a ha).trans (h.kept a ha)⟩

theorem each {α : Type} {f : State → α → State} (s : State) (l : List α) (h : ∀ x ∈ l, ∀ u : State, u.ClocksOnly (f u x)) :
    s.ClocksOnly (s.each l f) :=
  State.each_rel refl trans l s fun x hx u _ => h x hx u

theorem put (s : State) {f : Fld} (v : Nat) (h : clockReg f.addr) : s.ClocksOnly (s.put f v) :=
  ⟨rfl, fun _ ha => s.word_put_ne f v fun e => ha (e ▸ h)⟩

theorem raise (s : State) {e : Nat} (h : clockReg (evBit e).addr) : s.ClocksOnly (s.raise e) :=
  ⟨by rw [s.raise_changes e], fun _ ha => s.word_raise_ne e fun he => ha (he ▸ h)⟩

theorem modClk (s : State) (f : ClkState → ClkState) : s.ClocksOnly (s.modClk f) := ⟨rfl, fun _ _ => rfl⟩

theorem modNav (s : State) (f : NavState → NavState) : s.ClocksOnly (s.modNav f) := ⟨rfl, fun _ _ => rfl⟩

theorem modCtl (s : State) (n : Nat) (f : CanCtl → CanCtl) : s.ClocksOnly (s.modCtl n f) := ⟨rfl, fun _ _ => rfl⟩

/-- What touches the clocks and their registers alone. -/
theorem of_restarts {s t : State} {as : List Nat} (h : s.Restarts t as) (hHsw : t.hsw = s.hsw) (hAs : ∀ a ∈ as, clockReg a) :
    s.ClocksOnly t :=
  ⟨by rw [h.frame, hHsw], fun a ha => h.kept a fun hMem => ha (hAs a hMem)⟩

theorem canModeStep (s : State) {n : Nat} (hn : n < 3) : s.ClocksOnly (s.canModeStep n) := by
  have hStat : ∀ (u : State) (lo w v : Nat), u.ClocksOnly (u.put ⟨R.CAN_CTL_STAT n, lo, w⟩ v) := fun u _ _ v =>
    put u v (by simp only [clockReg, R.CAN_CTL_STAT]; omega)
  unfold State.canModeStep
  split
  · exact refl s
  · exact (((modCtl s n _).trans (hStat _ _ _ _)).trans (hStat _ _ _ _)).trans (hStat _ _ _ _)

theorem canClock (s : State) (fallback : Bool) : s.ClocksOnly (s.canClock fallback) :=
  each s _ fun n hn u => (modCtl u n _).trans (canModeStep _ (by
    have hAll : ∀ n ∈ [0, 1, 2], n < 3 := by decide
    exact hAll n hn))

theorem navFallback (s : State) : s.ClocksOnly s.navFallback := by
  unfold State.navFallback
  split
  · exact (((put s 3 (.inr (.inl (by decide)))).trans (put _ 0 (.inr (.inl (by decide))))).trans (modNav _ _)).trans
      (raise _ (.inr (.inl (by decide))))
  · exact refl s

theorem fallback (s : State) : s.ClocksOnly s.fallback := by
  have hShow : s.ClocksOnly ((((s.put F.CLK_STAT_FB 1).raise 4).count F.CLK_TRIPS_N 1).put ⟨H.sticky .clk, 0, 1⟩ 1) :=
    (((put s 1 (.inl (by decide))).trans (raise _ (.inl (by decide)))).trans (put _ _ (.inl (by decide)))).trans
      (put _ 1 (.inl (by decide)))
  unfold State.fallback
  exact (((hShow.trans (modClk _ _)).trans (modClk _ _)).trans (navFallback _)).trans (canClock _ true)

theorem islandsRun (s : State) : s.ClocksOnly (s.each (List.range 12) fun s i => if i = 6 then s else s.islRun i) :=
  each s _ fun i _ u => by
    split
    · exact refl u
    · next hi =>
      have h6 : (i == 6) = false := by simpa using hi
      simp only [State.islRun, h6, State.when]
      exact ⟨rfl, fun _ _ => rfl⟩

theorem pllsTo (s : State) (mrc : Bool) : s.ClocksOnly (s.pllsTo mrc) := by
  unfold State.pllsTo
  exact ((put s _ (.inl (by decide))).trans (put _ _ (.inl (by decide)))).trans (modClk _ _)

theorem mrcReady (s : State) : s.ClocksOnly s.mrcReady := by
  unfold State.mrcReady
  split
  · exact refl s
  dsimp only
  have hLocked := (islandsRun s).trans (pllsTo _ true)
  split
  · exact (hLocked.trans (modClk _ _)).trans (fallback _)
  · exact hLocked.trans (modClk _ _)

theorem clockStart (s : State) : s.ClocksOnly s.clockStart := by
  unfold State.clockStart
  dsimp only
  split
  · exact (modClk s _).trans (mrcReady _)
  · exact modClk s _

end State.ClocksOnly

/-! ## PU0 -/

theorem State.strapShow_of_straps {s : State} {spi : Bool} {addr : Nat} (h : s.pwr.straps = some (spi, addr)) :
    s.strapShow = (((s.putB F.SYS_LINK_MODE_LINKSEL spi).putB F.SYS_LINK_MODE_ENUMMODE (!spi && addr == 63)).putB F.SYS_LINK_MODE_VALID
      (!(!spi && addr == 63))).put F.SYS_LINK_MODE_ADDR addr := by
  simp only [State.strapShow, h]

/-- What the sampled straps show. -/
theorem State.strapShow_fields {s : State} {spi : Bool} {addr : Nat} (h : s.pwr.straps = some (spi, addr)) :
    s.strapShow.flag F.SYS_LINK_MODE_LINKSEL = spi ∧ s.strapShow.get F.SYS_LINK_MODE_ADDR = addr % 64 ∧
    s.strapShow.flag F.SYS_LINK_MODE_ENUMMODE = (!spi && addr == 63) ∧ s.strapShow.flag F.SYS_LINK_MODE_VALID = !(!spi && addr == 63) := by
  rw [State.strapShow_of_straps h]
  refine ⟨?_, State.get_put_same _ _ _ (by decide), ?_, ?_⟩
  · rw [State.flag_put_of_apart _ _ (.inr (by decide)), State.putB, State.flag_put_of_apart _ _ (.inr (by decide)), State.putB,
      State.flag_put_of_apart _ _ (.inr (by decide)), State.flag_putB_same _ _ _ (by decide) rfl]
  · rw [State.flag_put_of_apart _ _ (.inr (by decide)), State.putB, State.flag_put_of_apart _ _ (.inr (by decide)),
      State.flag_putB_same _ _ _ (by decide) rfl]
  · rw [State.flag_put_of_apart _ _ (.inr (by decide)), State.flag_putB_same _ _ _ (by decide) rfl]

theorem State.strapShow_puts (s : State) : s.Puts s.strapShow [R.SYS_LINK_MODE] := by
  unfold State.strapShow
  split
  · exact .refl s _
  · exact .trans (.trans (.trans (.put s _ (.head _)) (.put _ _ (.head _))) (.put _ _ (.head _))) (.put _ _ (.head _))

/-- PU0 is over, and the straps are sampled. -/
def State.pu0Sampled (s : State) (spi : Bool) (a : BitVec 6) : State :=
  ((s.put F.PWR_STAT_RAILS_OK 1).put F.PWR_STAT_PHASE 1).modPwr (fun p => { p with straps := some (spi, a.toNat) })

/-- The straps are shown, and clock start-up is still to begin. -/
def State.pu0Shown (s : State) (spi : Bool) (a : BitVec 6) : State := (s.pu0Sampled spi a).strapShow.put F.CLK_AVS_STAT_MV 900

theorem exec_pu0End {s : State} (spi : Bool) (a : BitVec 6) (hBoot : s.pwr.booting = true) (hPhase : s.phaseOf = 0) :
    exec (.pu0End spi a) s = .next (if (s.pu0Shown spi a).pwr.held then s.pu0Shown spi a else (s.pu0Shown spi a).clockStart) := by
  show execPu0End spi a s = _
  rw [execPu0End, hBoot, hPhase]
  rfl

theorem State.pu0Sampled_frame (s : State) (spi : Bool) (a : BitVec 6) : s.pu0Sampled spi a = { s with
    regs := (s.pu0Sampled spi a).regs, pwr := { s.pwr with straps := some (spi, a.toNat) } } := rfl

theorem State.pu0Sampled_shows (s : State) (spi : Bool) (a : BitVec 6) : (s.pu0Sampled spi a).phaseOf = 1 ∧
    (s.pu0Sampled spi a).flag F.PWR_STAT_RAILS_OK = true ∧ (s.pu0Sampled spi a).flag F.CLK_STAT_MRC_OK = s.flag F.CLK_STAT_MRC_OK := by
  have hWord : ∀ b, (s.pu0Sampled spi a).word b = ((s.put F.PWR_STAT_RAILS_OK 1).put F.PWR_STAT_PHASE 1).word b := fun _ => rfl
  refine ⟨?_, ?_, ?_⟩
  · rw [State.phaseOf, State.get_eq_of_word (hWord _), State.get_put_same _ _ _ (by decide)]
    rfl
  · rw [State.flag_eq_of_word (hWord _), State.flag_put_of_apart _ _ (.inr (by decide)), F.PWR_STAT_RAILS_OK,
      State.flag_put_one _ _ _ (by decide)]
  · rw [State.flag_eq_of_word (hWord _), State.flag_put_of_apart _ _ (.inl (by decide)), State.flag_put_of_apart _ _ (.inl (by decide))]

theorem State.pu0Shown_puts (s : State) (spi : Bool) (a : BitVec 6) :
    (s.pu0Sampled spi a).Puts (s.pu0Shown spi a) [R.SYS_LINK_MODE, R.CLK_AVS_STAT] :=
  .trans ((s.pu0Sampled spi a).strapShow_puts.mono (by simp)) (.put _ _ (by decide))

theorem State.word_pu0Shown_mode (s : State) (spi : Bool) (a : BitVec 6) :
    (s.pu0Shown spi a).word R.SYS_LINK_MODE = (s.pu0Sampled spi a).strapShow.word R.SYS_LINK_MODE :=
  State.word_put_ne _ _ _ (by decide)

/-- What PU0 shows. -/
theorem State.pu0Shown_shows (s : State) (spi : Bool) (a : BitVec 6) :
    (s.pu0Shown spi a).phaseOf = 1 ∧ (s.pu0Shown spi a).flag F.PWR_STAT_RAILS_OK = true ∧
    (s.pu0Shown spi a).flag F.SYS_LINK_MODE_LINKSEL = spi ∧ (s.pu0Shown spi a).get F.SYS_LINK_MODE_ADDR = a.toNat ∧
    (s.pu0Shown spi a).flag F.SYS_LINK_MODE_ENUMMODE = (!spi && a.toNat == 63) ∧
    (s.pu0Shown spi a).flag F.SYS_LINK_MODE_VALID = !(!spi && a.toNat == 63) ∧
    (s.pu0Shown spi a).flag F.CLK_STAT_MRC_OK = s.flag F.CLK_STAT_MRC_OK := by
  have hStraps : (s.pu0Sampled spi a).pwr.straps = some (spi, a.toNat) := rfl
  obtain ⟨hSel, hAddr, hEnum, hValid⟩ := State.strapShow_fields hStraps
  obtain ⟨hPhase, hRails, hMrc⟩ := s.pu0Sampled_shows spi a
  have hKept := (s.pu0Shown_puts spi a).kept
  have hMode := s.word_pu0Shown_mode spi a
  refine ⟨(hKept.get (by decide)).trans hPhase, (hKept.flag (by decide)).trans hRails, (State.flag_eq_of_word hMode).trans hSel,
    ((State.get_eq_of_word hMode).trans hAddr).trans (Nat.mod_eq_of_lt a.isLt), (State.flag_eq_of_word hMode).trans hEnum,
    (State.flag_eq_of_word hMode).trans hValid, (hKept.flag (by decide)).trans hMrc⟩

theorem pu0End_effect (spi : Bool) (a : BitVec 6) {s : State} (hBoot : s.pwr.booting = true) (hPhase : s.phaseOf = 0) :
    ∃ t, exec (.pu0End spi a) s = .next t ∧ t.phaseOf = 1 ∧ t.flag F.PWR_STAT_RAILS_OK = true ∧
      t.pwr = { s.pwr with straps := some (spi, a.toNat) } ∧ t.flag F.SYS_LINK_MODE_LINKSEL = spi ∧
      t.get F.SYS_LINK_MODE_ADDR = a.toNat ∧ (spi = true ∨ a.toNat ≠ 63 → t.flag F.SYS_LINK_MODE_VALID = true) ∧
      (spi = false → a.toNat = 63 → t.flag F.SYS_LINK_MODE_ENUMMODE = true ∧ t.flag F.SYS_LINK_MODE_VALID = false) ∧
      (s.pwr.held = true → t.clocks = s.clocks) ∧
      (s.pwr.held = false → s.flag F.CLK_STAT_MRC_OK = false → t.clocks = { s.clocks with step := 1 }) := by
  obtain ⟨hPh, hRails, hSel, hAddr, hEnum, hValid, hMrc⟩ := s.pu0Shown_shows spi a
  have hFrame := (s.pu0Shown_puts spi a).frame
  have hPwr : (s.pu0Shown spi a).pwr = { s.pwr with straps := some (spi, a.toNat) } := by rw [hFrame]; rfl
  have hClocks : (s.pu0Shown spi a).clocks = s.clocks := by rw [hFrame]; rfl
  have hHeld : (s.pu0Shown spi a).pwr.held = s.pwr.held := by rw [hPwr]
  have hOnly : (s.pu0Shown spi a).ClocksOnly (if (s.pu0Shown spi a).pwr.held then s.pu0Shown spi a else (s.pu0Shown spi a).clockStart) := by
    split
    · exact .refl _
    · exact .clockStart _
  have hStat := hOnly.kept R.PWR_STAT (by simp only [clockReg]; decide)
  have hMode := hOnly.kept R.SYS_LINK_MODE (by simp only [clockReg]; decide)
  refine ⟨_, exec_pu0End spi a hBoot hPhase, (State.get_eq_of_word hStat).trans hPh, (State.flag_eq_of_word hStat).trans hRails, ?_,
    (State.flag_eq_of_word hMode).trans hSel, (State.get_eq_of_word hMode).trans hAddr, fun h => ?_, fun hRing h63 => ⟨?_, ?_⟩,
    fun h => ?_, fun h hUnverified => ?_⟩
  · rw [hOnly.frame]; exact hPwr
  · refine (State.flag_eq_of_word hMode).trans (hValid.trans ?_)
    rcases h with rfl | h <;> simp [*]
  · exact (State.flag_eq_of_word hMode).trans (hEnum.trans (by simp [hRing, h63]))
  · exact (State.flag_eq_of_word hMode).trans (hValid.trans (by simp [hRing, h63]))
  · rw [if_pos (hHeld.trans h), hClocks]
  · rw [if_neg (by rw [hHeld, h]; decide), State.clockStart_of_unverified (hMrc.trans hUnverified)]
    show { (s.pu0Shown spi a).clocks with step := 1 } = _
    rw [hClocks]

/-! ## PU1 -/

/-- From `s` to `t` the work of secure boot has changed SYS_BOOT, the record store and what SEC keeps of the firmware. -/
structure State.FirmwareOnly (s t : State) : Prop where
  frame : t = { s with regs := t.regs, flash := t.flash, sec := t.sec }
  kept : s.regsKept t [R.SYS_BOOT]
  sec : t.sec = { s.sec with
    running := t.sec.running, prefer := t.sec.prefer, infoA := t.sec.infoA, infoB := t.sec.infoB, bootErr := t.sec.bootErr }

namespace State.FirmwareOnly

theorem refl (s : State) : s.FirmwareOnly s := ⟨rfl, .refl s _, rfl⟩

theorem trans {s t u : State} (h : s.FirmwareOnly t) (k : t.FirmwareOnly u) : s.FirmwareOnly u :=
  ⟨by rw [k.frame, h.frame], h.kept.trans k.kept, by rw [k.sec, h.sec]⟩

theorem put (s : State) {f : Fld} (v : Nat) (h : f.addr = R.SYS_BOOT) : s.FirmwareOnly (s.put f v) :=
  ⟨rfl, .put s v (by simp [h]), rfl⟩

theorem fwPreference (s : State) (slot : StoreSlot) : s.FirmwareOnly (s.fwPreference slot) := by
  unfold State.fwPreference
  split
  · exact refl s
  · cases slot <;> exact ⟨rfl, .refl s _, rfl⟩

theorem fwNote (s : State) (b : Nat) : s.FirmwareOnly (s.fwNote b) := by
  unfold State.fwNote
  dsimp only
  by_cases hb : b = 0
  · simp only [hb, if_true]
    exact ⟨rfl, .refl s _, rfl⟩
  · simp only [hb, if_false]
    exact ⟨rfl, .refl s _, rfl⟩

/-- The outcome and the slot are shown. -/
theorem result (s : State) (v b : Nat) : s.FirmwareOnly ((s.put F.SYS_BOOT_RES v).put F.SYS_BOOT_SLOT b) :=
  (put s v rfl).trans (put _ b rfl)

theorem valid (s : State) (b : Nat) : s.FirmwareOnly ((s.put (if b = 0 then F.SYS_BOOT_A_VALID else F.SYS_BOOT_B_VALID) 1).modSec
    (fun x => { x with running := true })) :=
  trans (t := s.put (if b = 0 then F.SYS_BOOT_A_VALID else F.SYS_BOOT_B_VALID) 1) (put s 1 (by split <;> rfl)) ⟨rfl, .refl _ _, rfl⟩

theorem bootErr (s : State) (l : List Nat) : s.FirmwareOnly (s.modSec (fun x => { x with bootErr := l })) := ⟨rfl, .refl s _, rfl⟩

theorem secureBoot (s : State) (kat : Bool) (slot : StoreSlot) : s.FirmwareOnly (s.secureBoot kat slot) := by
  have hStop : s.FirmwareOnly (((s.put F.SYS_BOOT_A_VALID 0).put F.SYS_BOOT_B_VALID 0).modSec (fun x => { x with running := false })) :=
    ((put s 0 rfl).trans (put _ 0 rfl)).trans ⟨rfl, .refl _ _, rfl⟩
  have hStart := hStop.trans (fwPreference _ slot)
  unfold State.secureBoot
  dsimp only
  split
  · exact hStart.trans (result _ 3 0)
  split
  · exact ((hStart.trans (fwNote _ _)).trans (valid _ _)).trans (result _ 0 _)
  split
  · refine trans ?_ (bootErr _ _)
    exact (((hStart.trans (fwNote _ _)).trans (fwNote _ _)).trans (valid _ _)).trans (result _ 1 _)
  · exact ((hStart.trans (fwNote _ _)).trans (fwNote _ _)).trans (result _ 2 0)

end State.FirmwareOnly

/-- With a failed self-test of the crypto core no firmware runs. -/
theorem State.secureBoot_failed (s : State) (slot : StoreSlot) :
    (s.secureBoot false slot).get F.SYS_BOOT_RES = 3 ∧ (s.secureBoot false slot).sec.running = false := by
  have hRun : ∀ u : State, u.sec.running = false → (u.fwPreference slot).sec.running = false := fun u h => by
    unfold State.fwPreference
    split
    · exact h
    · cases slot <;> exact h
  refine ⟨?_, hRun _ rfl⟩
  rw [State.secureBoot]
  exact (State.get_put_apart _ _ (by decide) (by decide)).trans (State.get_put_same _ _ _ (by decide))

theorem State.sessionEnd_frame (s : State) : s.sessionEnd = { s with
    regs := s.sessionEnd.regs, occ := s.sessionEnd.occ, sec := { s.sec with session := none } } := by
  unfold State.sessionEnd
  split
  · rw [State.raise_changes]; rfl
  · next h =>
    have hNone : s.sec.session = none := by simpa using h
    rw [← hNone]

theorem State.word_sessionEnd (s : State) {a : Nat} (h : a ≠ (evBit 242).addr) : s.sessionEnd.word a = s.word a := by
  unfold State.sessionEnd
  split
  · exact s.word_raise_ne 242 h
  · rfl

/-- Events are pending in header pages and in SOL_EVT_HI. -/
theorem evBit_place (e : Nat) : (evBit e).addr = R.SOL_EVT_HI ∨ (evBit e).addr % 65536 = 0x10 := by
  unfold evBit
  split
  · exact .inl rfl
  · refine .inr ?_
    simp only [H.evt, hdr]
    omega

theorem State.word_each_raise {α : Type} (l : List α) (f : α → Nat) (s : State) {a : Nat} (hHi : a ≠ R.SOL_EVT_HI) (h : a % 65536 ≠ 0x10) :
    (s.each l fun s b => s.raise (f b)).word a = s.word a :=
  State.each_rel (r := fun s t => t.word a = s.word a) (fun _ => rfl) (fun h k => k.trans h) l s fun b _ u _ =>
    u.word_raise_ne (f b) fun hEq => (evBit_place (f b)).elim (fun hOne => hHi (hEq.trans hOne)) fun hTwo => h (by rw [hEq, hTwo])

theorem State.each_raise_frame {α : Type} (l : List α) (f : α → Nat) (s : State) :
    (s.each l fun s b => s.raise (f b)) = { s with
      regs := (s.each l fun s b => s.raise (f b)).regs, occ := (s.each l fun s b => s.raise (f b)).occ } :=
  State.each_rel (r := fun s t => t = { s with regs := t.regs, occ := t.occ }) (fun _ => rfl) (fun h k => by rw [k, h]) l s
    fun b _ u _ => u.raise_changes (f b)

/-- The rails are good, and a failed SEC has lost its session. -/
def State.pu1Ready (s : State) (l : List Block) : State :=
  (s.put F.PWR_STAT_RAILS_OK 1).when (l.contains .sec) fun s => s.sessionEnd.modSec fun x => { x with hello := none }

/-- The self-tests' failures are noted: absent switches are off. -/
def State.pu1Noted (s : State) (l : List Block) (dieB : Bool) : State :=
  ({ s.pu1Ready l with failed := l.eraseDups, dieBFail := dieB } : State).hswAbsentOff

/-- The failures are reported. -/
def State.pu1Told (s : State) (l : List Block) (dieB : Bool) : State :=
  ((s.pu1Noted l dieB).each l.eraseDups fun s b => s.raise (failEvent b)).raiseIf dieB 144

theorem exec_pu1End {s : State} (l : List Block) (dieB kat : Bool) (pref : StoreSlot) (hPhase : s.phaseOf = 1) (hFree : s.pwr.held = false)
    (hStep : s.clocks.step ≠ 8) (hReady : s.flag F.CLK_STAT_FBARM = true ∨ s.clocks.step = 6) :
    exec (.pu1End l dieB kat pref) s = .next (((s.pu1Told l dieB).secureBoot kat pref).put F.PWR_STAT_PHASE 2) := by
  have hGo : (s.phaseOf != 1 || s.pwr.held || s.clocks.step == 8 || !(s.flag F.CLK_STAT_FBARM || s.clocks.step == 6)) = false := by
    rcases hReady with h | h <;> simp [hPhase, hFree, h]
    exact hStep
  show execPu1End l dieB kat pref s = _
  rw [execPu1End, hGo]
  rfl

theorem State.pu1Ready_effect (s : State) (l : List Block) :
    (s.pu1Ready l).pwr = s.pwr ∧ (s.pu1Ready l).flag F.PWR_STAT_RAILS_OK = true ∧
    (.sec ∈ l → (s.pu1Ready l).sec.session = none ∧ (s.pu1Ready l).sec.hello = none) ∧
    (s.pu1Ready l).sec = { s.sec with session := (s.pu1Ready l).sec.session, hello := (s.pu1Ready l).sec.hello } := by
  have hRails : (s.put F.PWR_STAT_RAILS_OK 1).flag F.PWR_STAT_RAILS_OK = true := State.flag_put_one _ _ _ (by decide)
  unfold State.pu1Ready State.when
  split
  · have hFlag : (s.put F.PWR_STAT_RAILS_OK 1).sessionEnd.flag F.PWR_STAT_RAILS_OK = true :=
      (State.flag_eq_of_word (State.word_sessionEnd _ (by decide))).trans hRails
    refine ⟨?_, hFlag, fun _ => ⟨?_, rfl⟩, ?_⟩ <;> simp only [State.modSec] <;> rw [State.sessionEnd_frame] <;> rfl
  · next h => exact ⟨rfl, hRails, fun hMem => absurd (List.contains_iff_mem.mpr hMem) h, rfl⟩

theorem State.pu1Told_effect (s : State) (l : List Block) (dieB : Bool) :
    (s.pu1Told l dieB).failed = l.eraseDups ∧ (s.pu1Told l dieB).dieBFail = dieB ∧ (s.pu1Told l dieB).pwr = s.pwr ∧
    (s.pu1Told l dieB).flag F.PWR_STAT_RAILS_OK = true ∧ (s.pu1Told l dieB).sec = (s.pu1Ready l).sec := by
  obtain ⟨hPwr, hRails, -, -⟩ := s.pu1Ready_effect l
  have hOff := State.OutputsOnly.hswAbsentOff { s.pu1Ready l with failed := l.eraseDups, dieBFail := dieB }
  have hWord : ∀ a, ¬ outputReg a → (s.pu1Noted l dieB).word a = (s.pu1Ready l).word a := hOff.kept
  have hNoted : s.pu1Told l dieB = { s.pu1Noted l dieB with regs := (s.pu1Told l dieB).regs, occ := (s.pu1Told l dieB).occ } := by
    unfold State.pu1Told State.raiseIf
    split
    · rw [State.raise_changes, State.each_raise_frame]
    · rw [State.each_raise_frame]
  have hToldWord : (s.pu1Told l dieB).word R.PWR_STAT = (s.pu1Noted l dieB).word R.PWR_STAT := by
    unfold State.pu1Told State.raiseIf
    split
    · exact (State.word_raise_ne _ 144 (by decide)).trans (State.word_each_raise _ _ _ (by decide) (by decide))
    · exact State.word_each_raise _ _ _ (by decide) (by decide)
  have hFrame : s.pu1Noted l dieB = _ := hOff.frame
  refine ⟨?_, ?_, ?_, ?_, ?_⟩
  · rw [hNoted, hFrame]
  · rw [hNoted, hFrame]
  · rw [hNoted, hFrame, ← hPwr]
  · rw [State.flag_eq_of_word hToldWord, State.flag_eq_of_word (hWord _ (by simp only [outputReg]; decide)), hRails]
  · rw [hNoted, hFrame]

theorem pu1End_effect (l : List Block) (b kat : Bool) (pref : StoreSlot) {s : State} (hPhase : s.phaseOf = 1) (hFree : s.pwr.held = false)
    (hStep : s.clocks.step ≠ 8) (hReady : s.flag F.CLK_STAT_FBARM = true ∨ s.clocks.step = 6) :
    ∃ t, exec (.pu1End l b kat pref) s = .next t ∧ t.phaseOf = 2 ∧ t.failed = l.eraseDups ∧ t.dieBFail = b ∧ t.pwr = s.pwr ∧
      t.flag F.PWR_STAT_RAILS_OK = true ∧ (.sec ∈ l → t.sec.session = none ∧ t.sec.hello = none) ∧
      (kat = false → t.get F.SYS_BOOT_RES = 3 ∧ t.sec.running = false ∧ t.sec.slotA = s.sec.slotA ∧ t.sec.slotB = s.sec.slotB ∧
        t.sec.oem = s.sec.oem ∧ t.sec.arbFw = s.sec.arbFw ∧ t.sec.arbFtg = s.sec.arbFtg) := by
  obtain ⟨-, -, hSession, hReadySec⟩ := s.pu1Ready_effect l
  obtain ⟨hFailed, hDie, hPwr, hRails, hSec⟩ := s.pu1Told_effect l b
  have hBoot := State.FirmwareOnly.secureBoot (s.pu1Told l b) kat pref
  have hParts : ((s.pu1Told l b).secureBoot kat pref).failed = (s.pu1Told l b).failed ∧
      ((s.pu1Told l b).secureBoot kat pref).dieBFail = (s.pu1Told l b).dieBFail ∧
      ((s.pu1Told l b).secureBoot kat pref).pwr = (s.pu1Told l b).pwr := by
    rw [hBoot.frame]
    exact ⟨rfl, rfl, rfl⟩
  refine ⟨_, exec_pu1End l b kat pref hPhase hFree hStep hReady, State.get_put_same _ _ _ (by decide), hParts.1.trans hFailed,
    hParts.2.1.trans hDie, hParts.2.2.trans hPwr, ?_, fun hMem => ?_, ?_⟩
  · exact ((State.flag_put_of_apart _ _ (.inr (by decide))).trans (hBoot.kept.flag (by decide))).trans hRails
  · show ((s.pu1Told l b).secureBoot kat pref).sec.session = none ∧ ((s.pu1Told l b).secureBoot kat pref).sec.hello = none
    rw [hBoot.sec, hSec]
    exact hSession hMem
  · rintro rfl
    obtain ⟨hRes, hRun⟩ := (s.pu1Told l b).secureBoot_failed pref
    refine ⟨(State.get_put_addr _ _ (by decide)).trans hRes, hRun, ?_⟩
    show ((s.pu1Told l b).secureBoot false pref).sec.slotA = _ ∧ ((s.pu1Told l b).secureBoot false pref).sec.slotB = _ ∧
      ((s.pu1Told l b).secureBoot false pref).sec.oem = _ ∧ ((s.pu1Told l b).secureBoot false pref).sec.arbFw = _ ∧
      ((s.pu1Told l b).secureBoot false pref).sec.arbFtg = _
    rw [hBoot.sec, hSec, hReadySec]
    exact ⟨rfl, rfl, rfl, rfl, rfl⟩

end Sys2Proof.Machine
end

section
/-! PU2 ends and PU3 begins: counters and hours come back, and without a footing the safe course is entered (R37, R117, R588, R606,
R607). -/

namespace Sys2Proof.Machine

open Sys2Proof

/-! ## What the work after the safe course leaves alone -/

/-- The registers that show the start-up phase, the course and the counters. -/
def startRegs : List Nat := [R.PWR_STAT, R.CFG_FTG_STATE, R.CFG_PERSONALITY, R.PWR_PCYC, R.PWR_HOURS]

/-- From `s` to `t` the start-up's registers, the supplies, the record store and the footing stand, and an event 35 stays pending. -/
structure State.StartKeeps (s t : State) : Prop where
  word : ∀ a ∈ startRegs, t.word a = s.word a
  event : s.flag (evBit 35) = true → t.flag (evBit 35) = true
  pwr : t.pwr = s.pwr
  flash : t.flash = s.flash
  footing : t.cfg.footing = s.cfg.footing

namespace State.StartKeeps

theorem refl (s : State) : s.StartKeeps s := ⟨fun _ _ => rfl, id, rfl, rfl, rfl⟩

theorem trans {s t u : State} (h : s.StartKeeps t) (k : t.StartKeeps u) : s.StartKeeps u :=
  ⟨fun a ha => (k.word a ha).trans (h.word a ha), fun he => k.event (h.event he), k.pwr.trans h.pwr, k.flash.trans h.flash,
    k.footing.trans h.footing⟩

theorem each {α : Type} {f : State → α → State} (s : State) (l : List α) (h : ∀ x ∈ l, ∀ u : State, u.StartKeeps (f u x)) :
    s.StartKeeps (s.each l f) :=
  State.each_rel refl trans l s fun x hx u _ => h x hx u

/-- A write elsewhere. -/
theorem setWord (s : State) {a : Nat} (w : Word) (h : a ∉ (evBit 35).addr :: startRegs) : s.StartKeeps (s.setWord a w) := by
  simp only [List.mem_cons, not_or] at h
  obtain ⟨hEvt, hRegs⟩ := h
  have hNe : ∀ b, b ≠ a → (s.setWord a w).word b = s.word b := fun b hb => s.word_setWord_ne w hb
  exact ⟨fun b hb => hNe b fun e => hRegs (e ▸ hb), fun he => (State.flag_eq_of_word (hNe _ (Ne.symm hEvt))).trans he, rfl, rfl, rfl⟩

theorem put (s : State) {f : Fld} (v : Nat) (h : f.addr ∉ (evBit 35).addr :: startRegs) : s.StartKeeps (s.put f v) := setWord s _ h

/-- Any event. -/
theorem raise (s : State) (e : Nat) : s.StartKeeps (s.raise e) := by
  refine ⟨fun a ha => s.word_raise_ne e fun hEq => ?_, s.flag_raise_of_flag e, ?_, ?_, ?_⟩
  · have hPlace : ∀ a ∈ startRegs, a ≠ R.SOL_EVT_HI ∧ a % 65536 ≠ 0x10 := by decide
    exact (evBit_place e).elim (fun hHi => (hPlace a ha).1 (hEq.trans hHi)) fun hHdr => (hPlace a ha).2 (by rw [hEq, hHdr])
  all_goals rw [State.raise_changes]

theorem raiseIf (s : State) (c : Bool) (e : Nat) : s.StartKeeps (s.raiseIf c e) := by
  cases c
  · exact refl s
  · exact raise s e

theorem of_outputs {s t : State} (h : s.OutputsOnly t) : s.StartKeeps t := by
  have hPlace : ∀ a ∈ (evBit 35).addr :: startRegs, ¬ outputReg a := by simp only [outputReg]; decide
  exact ⟨fun a ha => h.kept a (hPlace a (List.mem_cons_of_mem _ ha)),
    fun he => (State.flag_eq_of_word (h.kept _ (hPlace _ List.mem_cons_self))).trans he, by rw [h.frame], by rw [h.frame],
    by rw [h.frame]⟩

theorem of_recorder {s t : State} (h : s.RecorderOnly t) : s.StartKeeps t := by
  have hPlace : ∀ a ∈ (evBit 35).addr :: startRegs, a / 65536 ≠ 18 := by decide
  exact ⟨fun a ha => h.kept a (hPlace a (List.mem_cons_of_mem _ ha)),
    fun he => (State.flag_eq_of_word (h.kept _ (hPlace _ List.mem_cons_self))).trans he, by rw [h.frame], by rw [h.frame],
    by rw [h.frame]⟩

theorem modSec (s : State) (f : SecState → SecState) : s.StartKeeps (s.modSec f) := ⟨fun _ _ => rfl, id, rfl, rfl, rfl⟩

theorem logResume (s : State) : s.StartKeeps s.logResume := by
  unfold State.logResume
  exact of_recorder ((((State.RecorderOnly.modRec s _).trans (.setWord _ _ (by decide))).trans (.put _ _ (by decide))).trans (.recShow _))

theorem raiseFailed (s : State) : s.StartKeeps (s.raiseFailed 246) := by
  unfold State.raiseFailed
  split
  · exact trans (put s 1 (by decide)) ⟨fun _ _ => rfl, id, rfl, rfl, rfl⟩
  · exact raise s 246

theorem certWatch (s : State) : s.StartKeeps s.certWatch := by
  unfold State.certWatch State.when
  dsimp only
  split
  · exact (raiseFailed s).trans (modSec _ _)
  · exact modSec s _

end State.StartKeeps

/-! ## The safe course (R117) -/

/-- The safe course's own registers. -/
def State.safeMarked (s : State) (booted : Nat) : State :=
  (((s.put F.CFG_FTG_STATE_SAFE 1).put F.CFG_FTG_STATE_BOOTED booted).put F.CFG_PERSONALITY_PERS 0).put F.CFG_COURSE_STAT_CURRENT 0x1F

/-- The safe course is reported. -/
def State.safeShown (s : State) (booted : Nat) : State := (s.safeMarked booted).raise 35

theorem State.safeCourse_keeps (s : State) (booted : Nat) : (s.safeShown booted).StartKeeps (s.safeCourse booted) := by
  unfold State.safeCourse
  refine ((State.StartKeeps.each _ _ fun b _ u => ?_).trans (.each _ _ fun k hk u => ?_)).trans (.certWatch _)
  · refine State.StartKeeps.put u _ ?_
    have hPlace : ∀ b : Block, (H.course b).addr ∉ (evBit 35).addr :: startRegs := fun b => by cases b <;> decide
    exact hPlace b
  · exact .of_outputs (.holdEnd (List.mem_range.mp hk) u)

/-- A module without a failed block enters the safe course and reports it. -/
theorem State.safeShown_shows {s : State} (hFailed : s.failed = []) (booted : Nat) :
    (s.safeShown booted).safe = true ∧ (s.safeShown booted).pers = 0 ∧ (s.safeShown booted).flag (evBit 35) = true := by
  have hSafe : (s.safeMarked booted).safe = true := by
    rw [State.safe, State.safeMarked, State.flag_put_of_apart _ _ (.inl (by decide)), State.flag_put_of_apart _ _ (.inl (by decide)),
      State.flag_put_of_apart _ _ (.inr (by decide)), F.CFG_FTG_STATE_SAFE, State.flag_put_one _ _ _ (by decide)]
  have hPers : (s.safeMarked booted).pers = 0 := by
    rw [State.pers, State.safeMarked, State.get_put_of_apart _ _ (.inl (by decide)), State.get_put_same _ _ _ (by decide)]
    rfl
  have hKind : (s.safeMarked booted).kind .cfg = 1 := by
    have hNone : (s.safeMarked booted).failed = [] := hFailed
    simp [State.kind, State.absentBlock, State.heldBlock, hPers, hNone]
  have hKeeps := State.StartKeeps.raise (s.safeMarked booted) 35
  exact ⟨(State.flag_eq_of_word (hKeeps.word R.CFG_FTG_STATE (by decide))).trans hSafe,
    (State.get_eq_of_word (hKeeps.word R.CFG_PERSONALITY (by decide))).trans hPers, (s.safeMarked booted).flag_raise 35 hKind⟩

theorem State.safeShown_parts (s : State) (booted : Nat) : (s.safeShown booted).pwr = s.pwr ∧ (s.safeShown booted).flash = s.flash ∧
    (s.safeShown booted).cfg = s.cfg ∧ ∀ a ∈ [R.PWR_STAT, R.PWR_PCYC, R.PWR_HOURS], (s.safeShown booted).word a = s.word a := by
  have hRaise : ∀ u : State, (u.raise 35).pwr = u.pwr ∧ (u.raise 35).flash = u.flash ∧ (u.raise 35).cfg = u.cfg := fun u => by
    rw [State.raise_changes]
    exact ⟨rfl, rfl, rfl⟩
  obtain ⟨hPwr, hFlash, hCfg⟩ := hRaise (s.safeMarked booted)
  refine ⟨hPwr, hFlash, hCfg, fun a ha => ?_⟩
  have hPlace : ∀ a ∈ [R.PWR_STAT, R.PWR_PCYC, R.PWR_HOURS], a ≠ (evBit 35).addr ∧ a ≠ R.CFG_COURSE_STAT ∧ a ≠ R.CFG_PERSONALITY ∧
      a ≠ R.CFG_FTG_STATE := by decide
  obtain ⟨hEvt, hCourse, hPers, hState⟩ := hPlace a ha
  rw [State.safeShown, State.word_raise_ne _ _ hEvt, State.safeMarked, State.word_put_ne _ _ _ hCourse, State.word_put_ne _ _ _ hPers,
    State.word_put_ne _ _ _ hState, State.word_put_ne _ _ _ hState]

/-- An empty copy is no footing. -/
theorem State.checkFooting_nil {s : State} (hFailed : s.failed = []) : s.checkFooting [] = (4, none) := by
  have hMagic : flashWord [] 0 ≠ 0x54465653 := by decide
  unfold State.checkFooting
  simp [hFailed, hMagic]

/-- Neither copy is a footing: they are shown as invalid. -/
def State.noFooting (s : State) : State :=
  ((((s.putB F.CFG_FTG_STATE_A_VALID false).putB F.CFG_FTG_STATE_B_VALID false).setNat R.CFG_FTG_SEQ_A 0).setNat R.CFG_FTG_SEQ_B 0).modCfg
    fun x => { x with selSvn := 0 }

theorem State.selectFooting_nil {s : State} (hFailed : s.failed = []) (hA : s.cfg.copyA = []) (hB : s.cfg.copyB = []) (safe : Bool) :
    s.selectFooting safe = s.noFooting.safeCourse 1 := by
  rw [State.selectFooting, hA, hB, State.checkFooting_nil hFailed]
  rfl

theorem State.word_noFooting (s : State) {a : Nat} (hState : a ≠ R.CFG_FTG_STATE) (hSeqA : a ≠ R.CFG_FTG_SEQ_A)
    (hSeqB : a ≠ R.CFG_FTG_SEQ_B) : s.noFooting.word a = s.word a := by
  have hCfg : ∀ (u : State) (f : CfgState → CfgState), (u.modCfg f).word a = u.word a := fun _ _ => rfl
  rw [State.noFooting, hCfg, State.setNat, State.word_setWord_ne _ _ hSeqB, State.setNat, State.word_setWord_ne _ _ hSeqA, State.putB,
    State.word_put_ne _ _ _ hState, State.putB, State.word_put_ne _ _ _ hState]

theorem State.noFooting_parts (s : State) : s.noFooting.failed = s.failed ∧ s.noFooting.pwr = s.pwr ∧ s.noFooting.flash = s.flash ∧
    s.noFooting.cfg.footing = s.cfg.footing := by
  simp only [State.noFooting, State.modCfg, State.setNat, State.setWord, State.putB, State.put, and_self]

/-- What stands through the course's selection: the supplies, the record store, the footing, the phase and the counters. -/
theorem State.selectFooting_nil_effect {s : State} (hFailed : s.failed = []) (hA : s.cfg.copyA = []) (hB : s.cfg.copyB = []) (safe : Bool) :
    (s.selectFooting safe).safe = true ∧ (s.selectFooting safe).pers = 0 ∧ (s.selectFooting safe).flag (evBit 35) = true ∧
    (s.selectFooting safe).pwr = s.pwr ∧ (s.selectFooting safe).flash = s.flash ∧
    (s.selectFooting safe).cfg.footing = s.cfg.footing ∧
    ∀ a ∈ [R.PWR_STAT, R.PWR_PCYC, R.PWR_HOURS], (s.selectFooting safe).word a = s.word a := by
  rw [State.selectFooting_nil hFailed hA hB]
  obtain ⟨hNone, hPwr', hFlash', hFooting⟩ := s.noFooting_parts
  obtain ⟨hSafe, hPers, hEvt⟩ := State.safeShown_shows (hNone.trans hFailed) 1
  obtain ⟨hPwr, hFlash, hCfg, hWord⟩ := s.noFooting.safeShown_parts 1
  have hKeeps := s.noFooting.safeCourse_keeps 1
  refine ⟨(State.flag_eq_of_word (hKeeps.word R.CFG_FTG_STATE (by decide))).trans hSafe,
    (State.get_eq_of_word (hKeeps.word R.CFG_PERSONALITY (by decide))).trans hPers, hKeeps.event hEvt,
    (hKeeps.pwr.trans hPwr).trans hPwr', (hKeeps.flash.trans hFlash).trans hFlash', ?_, fun a ha => ?_⟩
  · rw [hKeeps.footing, hCfg, hFooting]
  have hPlace : ∀ a ∈ [R.PWR_STAT, R.PWR_PCYC, R.PWR_HOURS], a ∈ startRegs ∧ a ≠ R.CFG_FTG_SEQ_B ∧ a ≠ R.CFG_FTG_SEQ_A ∧
      a ≠ R.CFG_FTG_STATE := by decide
  obtain ⟨hStart, hSeqB, hSeqA, hState⟩ := hPlace a ha
  rw [hKeeps.word a hStart, hWord a ha]
  exact s.word_noFooting hState hSeqA hSeqB

/-! ## The DRAM test (R37, R632) -/

/-- From `s` to `t` memory and its care have changed, with the registers of MEM. -/
structure State.MemoryOnly (s t : State) : Prop where
  frame : t = { s with regs := t.regs, occ := t.occ, fresh := t.fresh, mem := t.mem, memCare := t.memCare }
  kept : ∀ a, a / 65536 ≠ 19 → t.word a = s.word a

namespace State.MemoryOnly

theorem refl (s : State) : s.MemoryOnly s := ⟨rfl, fun _ _ => rfl⟩

theorem trans {s t u : State} (h : s.MemoryOnly t) (k : t.MemoryOnly u) : s.MemoryOnly u :=
  ⟨by rw [k.frame, h.frame], fun a ha => (k.kept a ha).trans (h.kept a ha)⟩

theorem setBytes (s : State) (a : Nat) (l : List Byte) : s.MemoryOnly (s.setBytes a l) := by
  rw [State.setBytes_frame]
  exact ⟨rfl, fun _ _ => rfl⟩

theorem scramble (n : Nat) : ∀ (s : State) (a : Nat), s.MemoryOnly (s.scramble a n) := by
  induction n with
  | zero => exact fun s _ => refl s
  | succ n ih =>
    intro s a
    have hByte : s.MemoryOnly ((s.free 8).2.setByte a (BitVec.ofNat 8 (s.free 8).1)) := ⟨rfl, fun _ _ => rfl⟩
    exact hByte.trans (ih _ _)

theorem deadFill (s : State) (p : Nat) : s.MemoryOnly (s.deadFill p) := by
  unfold State.deadFill
  split
  · split
    · exact setBytes s _ _
    · exact refl s
  split
  · exact setBytes s _ _
  · exact refl s

theorem put (s : State) {f : Fld} (v : Nat) (h : f.addr / 65536 = 19) : s.MemoryOnly (s.put f v) :=
  ⟨rfl, fun _ ha => s.word_put_ne f v fun e => ha (e ▸ h)⟩

theorem raise (s : State) {e : Nat} (h : (evBit e).addr / 65536 = 19) : s.MemoryOnly (s.raise e) :=
  ⟨by rw [s.raise_changes e], fun _ ha => s.word_raise_ne e fun he => ha (he ▸ h)⟩

theorem modMem (s : State) (f : MemState → MemState) : s.MemoryOnly (s.modMem f) := ⟨rfl, fun _ _ => rfl⟩

theorem dramTest (s : State) (spares : List (Fin 1024)) (pages : List (BitVec 16)) : s.MemoryOnly (s.dramTest spares pages) := by
  unfold State.dramTest
  dsimp only
  have hLost : ∀ l : List Nat, s.MemoryOnly (s.each l fun s p => (s.scramble (p * 4096) 4096).deadFill p) := fun l =>
    State.each_rel refl trans l s fun p _ u _ => (scramble 4096 u _).trans (deadFill _ p)
  have hShown := fun l f v => ((hLost l).trans (modMem _ f)).trans (put (f := F.MEM_SPARE_PAGES) _ v (by decide))
  split
  · exact ((hShown _ _ _).trans (raise _ (by decide))).trans (put _ 1 (by decide))
  · exact hShown _ _ _

end State.MemoryOnly

/-! ## The record store at start-up (R606, R607) -/

/-- The slot of an item that start-up takes, as its checks find it. -/
def State.pickStore (s : State) (f : StartFinds) (k : Nat) : RecordStore :=
  if f.items.getLsbD k = false then s.flash.store else if f.olders.getLsbD k = false then s.flash.older else default

theorem contains_filter_range {w : Nat} (b : BitVec w) {k n : Nat} (hk : k < n) :
    ((List.range n).filter b.getLsbD).contains k = b.getLsbD k := by
  rw [Bool.eq_iff_iff, List.contains_iff_mem, List.mem_filter, List.mem_range]
  exact ⟨fun h => h.2, fun h => ⟨hk, h⟩⟩

/-- The power-cycle count and the hours that start-up finds. -/
theorem State.storePick_store (s : State) (f : StartFinds) :
    (s.storePick f).flash.store.pcyc = (s.pickStore f 1).pcyc ∧ (s.storePick f).flash.store.hours = (s.pickStore f 0).hours := by
  have hItem : ∀ k, k < 6 → ((List.range 6).filter f.items.getLsbD).contains k = f.items.getLsbD k := fun k => contains_filter_range f.items
  have hOlder : ∀ k, k < 6 → ((List.range 6).filter f.olders.getLsbD).contains k = f.olders.getLsbD k := fun k => contains_filter_range f.olders
  simp only [State.storePick, State.modKeep, State.modFlash, RecordStore.take, State.pickStore, hItem 0 (by decide), hItem 1 (by decide),
    hOlder 0 (by decide), hOlder 1 (by decide)]
  constructor
  · cases f.items.getLsbD 1 <;> cases f.olders.getLsbD 1 <;> rfl
  · cases f.items.getLsbD 0 <;> cases f.olders.getLsbD 0 <;> rfl

theorem State.storePick_frame (s : State) (f : StartFinds) : s.storePick f = { s with
    flash := (s.storePick f).flash, hswKeep := (s.storePick f).hswKeep } := rfl

end Sys2Proof.Machine
end

section
/-! The end of PU2: the stages by which PU3 begins, and what they show (R588, R606, R607). -/

namespace Sys2Proof.Machine

open Sys2Proof

/-! ## The counters come back (R606, R607) -/

theorem State.restoreCounters_of_counted {s : State} (h : s.pwr.counted = true) (unsaved : Bool) : s.restoreCounters unsaved = s :=
  if_pos h

/-- The hours come back after a power-on. -/
def State.hoursBack (s : State) : State :=
  if s.get F.PWR_RST_CAUSE_CAUSE = 1 then s.setNat R.PWR_HOURS (s.flash.store.hours.getD 0) else s

/-- The power cycle is counted. -/
def State.cycleCounted (s : State) : State :=
  ({ s with pwr := { s.pwr with counted := true } } : State).hoursBack.setNat R.PWR_PCYC (s.flash.store.pcyc.getD 0 + 1)

theorem State.restoreCounters_eq {s : State} (h : s.pwr.counted = false) (unsaved : Bool) : s.restoreCounters unsaved =
    if unsaved then s.cycleCounted else s.cycleCounted.storeItems [1] (fun r => { r with pcyc := some (s.flash.store.pcyc.getD 0 + 1) }) := by
  rw [State.restoreCounters, h]
  rfl

theorem State.hoursBack_frame (s : State) : s.hoursBack = { s with regs := s.hoursBack.regs } := by
  unfold State.hoursBack
  split <;> rfl

theorem State.hoursBack_kept (s : State) : s.regsKept s.hoursBack [R.PWR_HOURS] := by
  unfold State.hoursBack
  split
  · exact .setWord s _ (.head _)
  · exact .refl s _

theorem State.word_hoursBack (s : State) : s.hoursBack.word R.PWR_HOURS =
    if s.get F.PWR_RST_CAUSE_CAUSE = 1 then BitVec.ofNat 32 (s.flash.store.hours.getD 0) else s.word R.PWR_HOURS := by
  unfold State.hoursBack
  split
  · exact s.word_setWord_same _ _
  · rfl

theorem State.cycleCounted_frame (s : State) : s.cycleCounted = { s with
    regs := s.cycleCounted.regs, pwr := { s.pwr with counted := true } } := by
  rw [State.cycleCounted, State.hoursBack_frame]
  rfl

theorem State.cycleCounted_kept (s : State) : s.regsKept s.cycleCounted [R.PWR_HOURS, R.PWR_PCYC] := by
  have hHours := State.hoursBack_kept { s with pwr := { s.pwr with counted := true } }
  exact .trans (t := State.hoursBack { s with pwr := { s.pwr with counted := true } }) (hHours.mono (by simp)) (.setWord _ _ (by simp))

theorem State.word_cycleCounted_pcyc (s : State) : s.cycleCounted.word R.PWR_PCYC = BitVec.ofNat 32 (s.flash.store.pcyc.getD 0 + 1) :=
  State.word_setWord_same _ _ _

theorem State.word_cycleCounted_hours (s : State) : s.cycleCounted.word R.PWR_HOURS =
    if s.get F.PWR_RST_CAUSE_CAUSE = 1 then BitVec.ofNat 32 (s.flash.store.hours.getD 0) else s.word R.PWR_HOURS := by
  rw [State.cycleCounted, State.setNat, State.word_setWord_ne _ _ (by decide), State.word_hoursBack]
  rfl

/-- What the restore changes and what it shows, in a boot whose power cycle is still to be counted. -/
theorem State.restoreCounters_effect {s : State} (h : s.pwr.counted = false) (unsaved : Bool) :
    s.restoreCounters unsaved = { s with
      regs := (s.restoreCounters unsaved).regs, flash := (s.restoreCounters unsaved).flash, pwr := { s.pwr with counted := true } } ∧
    (∀ a, (s.restoreCounters unsaved).word a = s.cycleCounted.word a) ∧
    (s.restoreCounters unsaved).flash.store.pcyc =
      if unsaved then s.flash.store.pcyc else some (s.flash.store.pcyc.getD 0 + 1) := by
  have hEq := State.restoreCounters_eq h unsaved
  cases unsaved with
  | false =>
    have hStore : s.restoreCounters false =
        s.cycleCounted.storeItems [1] (fun r => { r with pcyc := some (s.flash.store.pcyc.getD 0 + 1) }) := hEq
    rw [hStore]
    refine ⟨?_, fun _ => rfl, rfl⟩
    rw [State.storeItems, State.modFlash, State.cycleCounted_frame]
  | true =>
    have hCounted : s.restoreCounters true = s.cycleCounted := hEq
    rw [hCounted]
    refine ⟨?_, fun _ => rfl, ?_⟩
    · rw [State.cycleCounted_frame]
    · rw [State.cycleCounted_frame]
      rfl

/-! ## The stages of PU3's begin -/

/-- The phase and the restored items are shown, and the counters are back. -/
def State.pu3Counted (s : State) (f : StartFinds) : State :=
  (((s.storePick f).put F.PWR_STAT_PHASE 3).setNat R.REC_RESTORE (s.storePick f).badItems).restoreCounters f.unsaved

/-- The telemetry is back too. -/
def State.pu3Told (s : State) (f : StartFinds) : State := (s.pu3Counted f).when (!(s.storePick f).pwr.counted) State.restoreTel

/-- The footing is selected. -/
def State.pu3Course (s : State) (f : StartFinds) : State :=
  ((s.pu3Told f).putB F.PWR_RST_CAUSE_SAFEWD ((s.storePick f).get F.PWR_RST_CAUSE_WRUN == 3)).selectFooting
    ((s.storePick f).get F.PWR_RST_CAUSE_WRUN == 3)

/-- What follows the footing: inputs without VIO, latencies and cycles, limp-home, Pacers, the log and the events of the boot. -/
def State.pu3Rest (s : State) (had : Bool) (cause : Nat) (first : Bool) (bad : Nat) : State :=
  let s := s.each (List.range 8) State.encVio
  let s := s.when first (fun s => s.restoreLat.restoreCycles)
  let s := ((s.lhLoad had).paceLoad).logResume
  let s := (s.raiseIf (cause == 3) 2).raiseIf (cause == 5) 12
  let s := if s.sec.bootErr.contains 244 then s.put ⟨H.sticky .sec, 1, 1⟩ 1 else s
  let s := (s.each s.sec.bootErr State.raise).modSec (fun x => { x with bootErr := [] })
  let s := s.raiseIf (nbit bad 0 || nbit bad 1) 229
  s.when s.isSat (fun s => s.setGated 6 true)

theorem State.pu3_eq (s : State) (f : StartFinds) : s.pu3 f = (s.pu3Course f).pu3Rest (s.hswKeep.store.isSome || s.hswKeep.older.isSome)
    ((s.storePick f).get F.PWR_RST_CAUSE_CAUSE) (!(s.storePick f).pwr.counted) (s.storePick f).badItems := rfl

theorem State.pu3Rest_keeps (s : State) (had : Bool) (cause : Nat) (first : Bool) (bad : Nat) :
    s.StartKeeps (s.pu3Rest had cause first bad) := by
  have hEnc : s.StartKeeps (s.each (List.range 8) State.encVio) :=
    .of_outputs (.each s _ fun n hn u => .encVio u (List.mem_range.mp hn))
  have hWhen : ∀ u : State, u.StartKeeps (u.when first fun s => s.restoreLat.restoreCycles) := fun u => by
    unfold State.when
    split
    · exact .of_outputs (.trans (.restoreLat u) (.restoreCycles _))
    · exact .refl u
  have hLoad : ∀ u : State, u.StartKeeps ((((u.lhLoad had).paceLoad).logResume.raiseIf (cause == 3) 2).raiseIf (cause == 5) 12) := fun u =>
    (((State.StartKeeps.of_outputs (.trans (.lhLoad u had) (.paceLoad _))).trans (.logResume _)).trans (.raiseIf _ _ _)).trans
      (.raiseIf _ _ _)
  have hSticky : ∀ u : State, u.StartKeeps (if u.sec.bootErr.contains 244 then u.put ⟨H.sticky .sec, 1, 1⟩ 1 else u) := fun u => by
    split
    · exact .put u 1 (by decide)
    · exact .refl u
  have hEnd : ∀ (u : State) (c : Bool), u.StartKeeps (u.when c fun s => s.setGated 6 true) := fun u c => by
    unfold State.when
    split
    · exact .setWord u _ (by decide)
    · exact .refl u
  unfold State.pu3Rest
  exact ((((((hEnc.trans (hWhen _)).trans (hLoad _)).trans (hSticky _)).trans (.each _ _ fun e _ u => .raise u e)).trans
    (.modSec _ _)).trans (.raiseIf _ _ _)).trans (hEnd _ _)

/-! ## What stands up to the footing -/

theorem State.restoreTel_frame (s : State) : s.restoreTel = { s with regs := s.restoreTel.regs } := by
  have hWords : ∀ (l : List Word) (u : State) (a : Nat), u.setWords a l = { u with regs := (u.setWords a l).regs } := fun l => by
    induction l with
    | nil => exact fun _ _ => rfl
    | cons w t ih =>
      intro u a
      rw [State.setWords, ih]
      rfl
  unfold State.restoreTel
  split
  · exact hWords _ s _
  · rfl

theorem State.word_setWords_of_lt {b : Nat} (l : List Word) : ∀ (s : State) {a : Nat}, b < a → (s.setWords a l).word b = s.word b := by
  induction l with
  | nil => exact fun _ _ _ => rfl
  | cons w t ih =>
    intro s a h
    rw [State.setWords, ih _ (by omega), State.word_setWord_ne _ _ (by omega)]

theorem State.word_restoreTel (s : State) {a : Nat} (h : a < R.MEM_TEL_SLUG) : s.restoreTel.word a = s.word a := by
  unfold State.restoreTel
  split
  · exact State.word_setWords_of_lt _ s h
  · rfl

/-- From the counters to the footing nothing but telemetry and SAFEWD is written. -/
theorem State.pu3Told_parts (s : State) (f : StartFinds) : s.pu3Told f = { s.pu3Counted f with regs := (s.pu3Told f).regs } ∧
    ∀ a, a < R.MEM_TEL_SLUG → (s.pu3Told f).word a = (s.pu3Counted f).word a := by
  unfold State.pu3Told State.when
  split
  · exact ⟨State.restoreTel_frame _, fun a ha => State.word_restoreTel _ ha⟩
  · exact ⟨rfl, fun _ _ => rfl⟩

/-- The registers that the picked store items leave. -/
theorem State.word_pu3Marked (s : State) (f : StartFinds) {a : Nat} (h : a ≠ R.REC_RESTORE) (hStat : a ≠ R.PWR_STAT) :
    (((s.storePick f).put F.PWR_STAT_PHASE 3).setNat R.REC_RESTORE (s.storePick f).badItems).word a = s.word a :=
  (State.word_setWord_ne _ _ h).trans (State.word_put_ne _ _ _ hStat)

theorem State.phaseOf_pu3Marked (s : State) (f : StartFinds) :
    (((s.storePick f).put F.PWR_STAT_PHASE 3).setNat R.REC_RESTORE (s.storePick f).badItems).phaseOf = 3 :=
  (State.get_eq_of_word (State.word_setWord_ne _ _ (by decide))).trans (State.get_put_same _ _ _ (by decide))

/-- The phase and the counters as PU3 begins; the footing and the failed blocks are as they were. -/
theorem State.pu3Counted_effect (s : State) (f : StartFinds) : (s.pu3Counted f).phaseOf = 3 ∧
    (s.pu3Counted f).pwr = { s.pwr with counted := true } ∧ (s.pu3Counted f).cfg = s.cfg ∧ (s.pu3Counted f).failed = s.failed ∧
    (s.pwr.counted = false → (s.pu3Counted f).word R.PWR_PCYC = BitVec.ofNat 32 (((s.pickStore f 1).pcyc.getD 0) + 1) ∧
      (s.pu3Counted f).flash.store.pcyc = (if f.unsaved then (s.pickStore f 1).pcyc else some (((s.pickStore f 1).pcyc.getD 0) + 1)) ∧
      (s.pu3Counted f).word R.PWR_HOURS = (if s.get F.PWR_RST_CAUSE_CAUSE = 1
        then BitVec.ofNat 32 ((s.pickStore f 0).hours.getD 0) else s.word R.PWR_HOURS)) ∧
    (s.pwr.counted = true → (s.pu3Counted f).word R.PWR_PCYC = s.word R.PWR_PCYC ∧
      (s.pu3Counted f).word R.PWR_HOURS = s.word R.PWR_HOURS ∧ (s.pu3Counted f).flash.store.pcyc = (s.pickStore f 1).pcyc) := by
  generalize hu : ((s.storePick f).put F.PWR_STAT_PHASE 3).setNat R.REC_RESTORE (s.storePick f).badItems = u
  have hCounted : s.pu3Counted f = u.restoreCounters f.unsaved := by rw [← hu]; rfl
  have hFrame : u = { s.storePick f with regs := u.regs } := by rw [← hu]; rfl
  have hPhase : u.phaseOf = 3 := by rw [← hu]; exact s.phaseOf_pu3Marked f
  have hWord : ∀ {a}, a ≠ R.REC_RESTORE → a ≠ R.PWR_STAT → u.word a = s.word a := fun h hStat => by
    rw [← hu]; exact s.word_pu3Marked f h hStat
  have hCause : u.get F.PWR_RST_CAUSE_CAUSE = s.get F.PWR_RST_CAUSE_CAUSE := State.get_eq_of_word (hWord (by decide) (by decide))
  have hPwr : u.pwr = s.pwr := by rw [hFrame, State.storePick_frame]
  have hCfg : u.cfg = s.cfg := by rw [hFrame, State.storePick_frame]
  have hFailed : u.failed = s.failed := by rw [hFrame, State.storePick_frame]
  have hFlash : u.flash = (s.storePick f).flash := by rw [hFrame]
  obtain ⟨hPcyc, hHours⟩ := s.storePick_store f
  rw [← hFlash] at hPcyc hHours
  rw [hCounted]
  cases hDone : s.pwr.counted
  · obtain ⟨hRest, hRestWord, hStore⟩ := State.restoreCounters_effect (hPwr ▸ hDone : u.pwr.counted = false) f.unsaved
    refine ⟨?_, ?_, ?_, ?_, fun _ => ⟨?_, ?_, ?_⟩, fun h => absurd h (by decide)⟩
    · exact (State.get_eq_of_word ((hRestWord _).trans (u.cycleCounted_kept _ (by decide)))).trans hPhase
    · rw [hRest, hPwr]
    · rw [hRest]; exact hCfg
    · rw [hRest]; exact hFailed
    · rw [hRestWord, State.word_cycleCounted_pcyc, hPcyc]
    · rw [hStore, hPcyc]
    · rw [hRestWord, State.word_cycleCounted_hours, hCause, hHours, hWord (by decide) (by decide)]
  · rw [State.restoreCounters_of_counted (hPwr ▸ hDone : u.pwr.counted = true)]
    refine ⟨hPhase, ?_, hCfg, hFailed, fun h => absurd h (by decide), fun _ => ⟨hWord (by decide) (by decide),
      hWord (by decide) (by decide), hPcyc⟩⟩
    rw [hPwr, ← hDone]

/-! ## The end of PU2 -/

/-- Without a footing PU3 begins in the safe course. -/
theorem State.pu3_effect {s : State} (f : StartFinds) (hA : s.cfg.copyA = []) (hB : s.cfg.copyB = []) (hFailed : s.failed = []) :
    (s.pu3 f).phaseOf = 3 ∧ (s.pu3 f).safe = true ∧ (s.pu3 f).pers = 0 ∧ (s.pu3 f).cfg.footing = s.cfg.footing ∧
    (s.pu3 f).flag (evBit 35) = true ∧ (s.pu3 f).pwr = { s.pwr with counted := true } ∧
    (s.pwr.counted = false → (s.pu3 f).word R.PWR_PCYC = BitVec.ofNat 32 (((s.pickStore f 1).pcyc.getD 0) + 1) ∧
      (s.pu3 f).flash.store.pcyc = (if f.unsaved then (s.pickStore f 1).pcyc else some (((s.pickStore f 1).pcyc.getD 0) + 1)) ∧
      (s.pu3 f).word R.PWR_HOURS = (if s.get F.PWR_RST_CAUSE_CAUSE = 1
        then BitVec.ofNat 32 ((s.pickStore f 0).hours.getD 0) else s.word R.PWR_HOURS)) ∧
    (s.pwr.counted = true → (s.pu3 f).word R.PWR_PCYC = s.word R.PWR_PCYC ∧ (s.pu3 f).word R.PWR_HOURS = s.word R.PWR_HOURS ∧
      (s.pu3 f).flash.store.pcyc = (s.pickStore f 1).pcyc) := by
  obtain ⟨hPhase, hPwr, hCfg, hNone, hFirst, hAgain⟩ := s.pu3Counted_effect f
  obtain ⟨hTold, hToldWord⟩ := s.pu3Told_parts f
  generalize hv : (s.pu3Told f).putB F.PWR_RST_CAUSE_SAFEWD ((s.storePick f).get F.PWR_RST_CAUSE_WRUN == 3) = v
  have hFrame : v = { s.pu3Counted f with regs := v.regs } := by
    rw [← hv, hTold]
    rfl
  have hWord : ∀ a ∈ [R.PWR_STAT, R.PWR_PCYC, R.PWR_HOURS], v.word a = (s.pu3Counted f).word a := fun a ha => by
    have hPlace : ∀ a ∈ [R.PWR_STAT, R.PWR_PCYC, R.PWR_HOURS], a ≠ R.PWR_RST_CAUSE ∧ a < R.MEM_TEL_SLUG := by decide
    rw [← hv, State.putB, State.word_put_ne _ _ _ (hPlace a ha).1, hToldWord a (hPlace a ha).2]
  have hvFailed : v.failed = [] := by rw [hFrame]; exact hNone.trans hFailed
  have hvA : v.cfg.copyA = [] := by rw [hFrame]; show (s.pu3Counted f).cfg.copyA = []; rw [hCfg, hA]
  have hvB : v.cfg.copyB = [] := by rw [hFrame]; show (s.pu3Counted f).cfg.copyB = []; rw [hCfg, hB]
  have hvPwr : v.pwr = (s.pu3Counted f).pwr := by rw [hFrame]
  have hvFlash : v.flash = (s.pu3Counted f).flash := by rw [hFrame]
  have hvCfg : v.cfg = (s.pu3Counted f).cfg := by rw [hFrame]
  obtain ⟨hSafe, hPers, hEvt, hCoursePwr, hCourseFlash, hFooting, hCourseWord⟩ :=
    State.selectFooting_nil_effect hvFailed hvA hvB ((s.storePick f).get F.PWR_RST_CAUSE_WRUN == 3)
  have hCourse : s.pu3Course f = v.selectFooting ((s.storePick f).get F.PWR_RST_CAUSE_WRUN == 3) := by rw [← hv]; rfl
  rw [← hCourse] at hSafe hPers hEvt hCoursePwr hCourseFlash hFooting hCourseWord
  have hKeeps : (s.pu3Course f).StartKeeps (s.pu3 f) := by rw [State.pu3_eq]; exact State.pu3Rest_keeps _ _ _ _ _
  have hEndWord : ∀ a ∈ [R.PWR_STAT, R.PWR_PCYC, R.PWR_HOURS], (s.pu3 f).word a = (s.pu3Counted f).word a := fun a ha => by
    have hStart : ∀ a ∈ [R.PWR_STAT, R.PWR_PCYC, R.PWR_HOURS], a ∈ startRegs := by decide
    rw [hKeeps.word a (hStart a ha), hCourseWord a ha, hWord a ha]
  have hEndFlash : (s.pu3 f).flash = (s.pu3Counted f).flash := by rw [hKeeps.flash, hCourseFlash, hvFlash]
  refine ⟨(State.get_eq_of_word (hEndWord R.PWR_STAT (by decide))).trans hPhase,
    (State.flag_eq_of_word (hKeeps.word R.CFG_FTG_STATE (by decide))).trans hSafe,
    (State.get_eq_of_word (hKeeps.word R.CFG_PERSONALITY (by decide))).trans hPers, ?_, hKeeps.event hEvt, ?_, fun h => ?_, fun h => ?_⟩
  · rw [hKeeps.footing, hFooting, hvCfg, hCfg]
  · rw [hKeeps.pwr, hCoursePwr, hvPwr, hPwr]
  · rw [hEndWord R.PWR_PCYC (by decide), hEndWord R.PWR_HOURS (by decide), hEndFlash]
    exact hFirst h
  · rw [hEndWord R.PWR_PCYC (by decide), hEndWord R.PWR_HOURS (by decide), hEndFlash]
    exact hAgain h

end Sys2Proof.Machine
end

section
/-! The end of PU2, PU3 and PU4, and the release of RESET_N (R527, R588, R589, R590, R592, R599, R603). -/

namespace Sys2Proof.Machine

open Sys2Proof

/-! ## The end of PU2 -/

theorem State.pickStore_congr {s t : State} (h : t.flash = s.flash) (f : StartFinds) : t.pickStore f = s.pickStore f := by
  funext k
  simp only [State.pickStore, h]

theorem exec_pu2End_idle {s : State} (f : StartFinds) (h : s.sec.running = false) : exec (.pu2End f) s = .next s := by
  show execPu2End f s = _
  rw [execPu2End, h, Bool.and_false, Bool.false_and]
  rfl

theorem exec_pu2End {s : State} (f : StartFinds) (hPhase : s.phaseOf = 2) (hFree : s.pwr.held = false) (hRun : s.sec.running = true) :
    exec (.pu2End f) s = .next ((s.dramTest f.spares f.pages).pu3 f) := by
  show execPu2End f s = _
  rw [execPu2End, hPhase, hFree, hRun]
  rfl

/-- The first state of PU3, of a module without a footing. -/
theorem pu2End_effect (f : StartFinds) {s : State} (hPhase : s.phaseOf = 2) (hFree : s.pwr.held = false) (hRun : s.sec.running = true)
    (hA : s.cfg.copyA = []) (hB : s.cfg.copyB = []) (hFailed : s.failed = []) :
    ∃ t, exec (.pu2End f) s = .next t ∧ t.phaseOf = 3 ∧ t.safe = true ∧ t.pers = 0 ∧ t.cfg.footing = s.cfg.footing ∧
      t.flag (evBit 35) = true ∧ t.pwr = { s.pwr with counted := true } ∧
      (s.pwr.counted = false → t.word R.PWR_PCYC = BitVec.ofNat 32 (((s.pickStore f 1).pcyc.getD 0) + 1) ∧
        t.flash.store.pcyc = (if f.unsaved then (s.pickStore f 1).pcyc else some (((s.pickStore f 1).pcyc.getD 0) + 1)) ∧
        t.word R.PWR_HOURS = (if s.get F.PWR_RST_CAUSE_CAUSE = 1
          then BitVec.ofNat 32 ((s.pickStore f 0).hours.getD 0) else s.word R.PWR_HOURS)) ∧
      (s.pwr.counted = true → t.word R.PWR_PCYC = s.word R.PWR_PCYC ∧ t.word R.PWR_HOURS = s.word R.PWR_HOURS ∧
        t.flash.store.pcyc = (s.pickStore f 1).pcyc) := by
  have hDram := State.MemoryOnly.dramTest s f.spares f.pages
  have hExec := exec_pu2End f hPhase hFree hRun
  generalize s.dramTest f.spares f.pages = u at hDram hExec
  have hCfg : u.cfg = s.cfg := by rw [hDram.frame]
  have hPwr : u.pwr = s.pwr := by rw [hDram.frame]
  have hPick : u.pickStore f = s.pickStore f := State.pickStore_congr (by rw [hDram.frame]) f
  have hCause : u.get F.PWR_RST_CAUSE_CAUSE = s.get F.PWR_RST_CAUSE_CAUSE := State.get_eq_of_word (hDram.kept _ (by decide))
  have hEffect := State.pu3_effect (s := u) f (by rw [hCfg, hA]) (by rw [hCfg, hB]) (by rw [hDram.frame]; exact hFailed)
  rw [hCfg, hPwr, hPick, hCause, hDram.kept R.PWR_HOURS (by decide), hDram.kept R.PWR_PCYC (by decide)] at hEffect
  exact ⟨_, hExec, hEffect⟩

/-! ## The end of PU3 -/

/-- The blocks that take a course at once have taken it. -/
def State.coursesTaken (s : State) : State :=
  s.each allBlocks fun s b =>
    if s.flag F.CFG_COURSE_STAT_BUSY && s.coursePends b && !s.gatedBlock b && s.takesAtOnce b then s.courseTake b else s

/-- The personality is locked, and PU4 begins. -/
def State.pu3Locked (s : State) : State := (s.coursesTaken.put F.CFG_PERSONALITY_LOCKED 1).put F.PWR_STAT_PHASE 4

/-- The certified configuration is judged. -/
def State.pu3Judged (s : State) : State :=
  (s.when (!(s.certBits == 0)) fun s => s.raiseFailed 246).modSec fun x => { x with certified := s.certBits == 0 }

theorem State.pu3End_eq (s : State) : s.pu3End = s.pu3Locked.pu3Judged.recBoot := rfl

theorem State.coursesTaken_of_idle {s : State} (h : s.flag F.CFG_COURSE_STAT_BUSY = false) : s.coursesTaken = s :=
  State.each_fixed _ fun b _ => by rw [h]; rfl

theorem State.pu3Judged_keeps (s : State) : s.StartKeeps s.pu3Judged := by
  unfold State.pu3Judged State.when
  split
  · exact (State.StartKeeps.raiseFailed s).trans (.modSec _ _)
  · exact .modSec s _

theorem State.pu3End_keeps (s : State) : s.pu3Locked.StartKeeps s.pu3End := by
  rw [State.pu3End_eq]
  exact s.pu3Locked.pu3Judged_keeps.trans (.of_recorder (.recBoot _))

theorem State.pu3End_shows (s : State) : s.pu3End.phaseOf = 4 ∧ s.pu3End.flag F.CFG_PERSONALITY_LOCKED = true := by
  have hKeeps := s.pu3End_keeps
  refine ⟨(State.get_eq_of_word (hKeeps.word R.PWR_STAT (by decide))).trans (State.get_put_same _ _ _ (by decide)),
    (State.flag_eq_of_word (hKeeps.word R.CFG_PERSONALITY (by decide))).trans ?_⟩
  rw [State.pu3Locked, State.flag_put_of_apart _ _ (.inl (by decide)), F.CFG_PERSONALITY_LOCKED, State.flag_put_one _ _ _ (by decide)]

/-- Without a change in progress the personality and the supplies stand. -/
theorem State.pu3End_of_idle {s : State} (h : s.flag F.CFG_COURSE_STAT_BUSY = false) : s.pu3End.pers = s.pers ∧ s.pu3End.pwr = s.pwr := by
  have hKeeps := s.pu3End_keeps
  rw [State.pu3Locked, State.coursesTaken_of_idle h] at hKeeps
  refine ⟨(State.get_eq_of_word (hKeeps.word R.CFG_PERSONALITY (by decide))).trans ?_, hKeeps.pwr⟩
  rw [State.get_put_of_apart _ _ (.inl (by decide)), State.get_put_of_apart _ _ (.inr (by decide)), State.pers]

theorem exec_pu3End {s : State} (hPhase : s.phaseOf = 3) (hFree : s.pwr.held = false) : exec .pu3End s = .next s.pu3End := by
  show execPu3End s = _
  rw [execPu3End, hPhase, hFree]
  rfl

/-! ## CAN controllers enter their modes (R527) -/

/-- From `s` to `t` CAN controllers have changed their modes alone. -/
structure State.ModesOnly (s t : State) : Prop where
  frame : t = { s with regs := t.regs, canCtl := t.canCtl }
  kept : ∀ a, (∀ n, n < 3 → a ≠ R.CAN_CTL_STAT n) → t.word a = s.word a
  ctl : ∀ n, (t.canCtl.get n).inFrame = (s.canCtl.get n).inFrame ∧ (t.canCtl.get n).held = (s.canCtl.get n).held

theorem State.ModesOnly.refl (s : State) : s.ModesOnly s := ⟨rfl, fun _ _ => rfl, fun _ => ⟨rfl, rfl⟩⟩

theorem State.ModesOnly.trans {s t u : State} (h : s.ModesOnly t) (k : t.ModesOnly u) : s.ModesOnly u :=
  ⟨by rw [k.frame, h.frame], fun a ha => (k.kept a ha).trans (h.kept a ha),
    fun n => ⟨(k.ctl n).1.trans (h.ctl n).1, (k.ctl n).2.trans (h.ctl n).2⟩⟩

/-- Work of a block reads its personality, its health and its clock. -/
theorem State.runs_congr {s t : State} {b : Block} (hPers : t.word R.CFG_PERSONALITY = s.word R.CFG_PERSONALITY)
    (hSafe : t.word R.CFG_FTG_STATE = s.word R.CFG_FTG_STATE) (hEnable : t.word (H.ctrl b) = s.word (H.ctrl b))
    (hFailed : t.failed = s.failed) (hClocks : t.clocks = s.clocks) : t.runs b = s.runs b := by
  have hKind : t.kind b = s.kind b := State.kind_congr hPers hSafe hFailed b
  have hOn : t.enabled b = s.enabled b := State.flag_eq_of_word hEnable
  simp only [State.runs, State.works, State.present, State.halted, hKind, hOn, hClocks]

theorem canCtlStat_ne {a : Nat} (h : a < 0x111000) : ∀ n, n < 3 → a ≠ R.CAN_CTL_STAT n := fun n _ => by
  simp only [R.CAN_CTL_STAT]
  omega

theorem canCtlCfg_ne (m : Nat) : ∀ n, n < 3 → R.CAN_CTL_CFG m ≠ R.CAN_CTL_STAT n := fun n _ => by
  simp only [R.CAN_CTL_CFG, R.CAN_CTL_STAT]
  omega

/-- A mode change alters no controller's wish. -/
theorem State.ModesOnly.canWants {s t : State} (h : s.ModesOnly t) (n : Nat) : t.canWants n = s.canWants n := by
  have hRuns : t.runs .can = s.runs .can := State.runs_congr (h.kept _ (canCtlStat_ne (by decide))) (h.kept _ (canCtlStat_ne (by decide)))
    (h.kept _ (canCtlStat_ne (by decide))) (by rw [h.frame]) (by rw [h.frame])
  have hVio : t.flag F.PWR_STAT_VIO_OK = s.flag F.PWR_STAT_VIO_OK := State.flag_eq_of_word (h.kept _ (canCtlStat_ne (by decide)))
  have hOut : t.flag F.PWR_STAT_OUTREL = s.flag F.PWR_STAT_OUTREL := State.flag_eq_of_word (h.kept _ (canCtlStat_ne (by decide)))
  have hSafe : t.safe = s.safe := State.flag_eq_of_word (h.kept R.CFG_FTG_STATE (canCtlStat_ne (by decide)))
  have hRel : t.released = s.released := by rw [State.released, hOut, hSafe, State.released]
  have hRunOn : t.flag (F.CAN_CTL_CFG_FBRUN n) = s.flag (F.CAN_CTL_CFG_FBRUN n) := State.flag_eq_of_word (h.kept _ (canCtlCfg_ne n))
  have hMode : t.get (F.CAN_CTL_CFG_MODE n) = s.get (F.CAN_CTL_CFG_MODE n) := State.get_eq_of_word (h.kept _ (canCtlCfg_ne n))
  simp only [State.canWants, hRuns, hVio, hRel, hRunOn, hMode, (h.ctl n).2]

theorem State.canShow_kept (s : State) (n : Nat) : s.regsKept (s.canShow n) [R.CAN_CTL_STAT n] :=
  .trans (.trans (.put s _ (.head _)) (.put _ _ (.head _))) (.put _ _ (.head _))

theorem State.canShow_frame (s : State) (n : Nat) : s.canShow n = { s with regs := (s.canShow n).regs } := by
  simp only [State.canShow, State.putSat, State.put, State.setWord]

theorem State.canModeStep_of_free {s : State} {n : Nat} (h : (s.canCtl.get n).inFrame = false) :
    s.canModeStep n = (s.modCtl n fun c => { c with mode := s.canWants n }).canShow n := by
  rw [State.canModeStep, h]
  rfl

theorem State.canCtl_canModeStep {s : State} {n : Nat} (h : (s.canCtl.get n).inFrame = false) :
    (s.canModeStep n).canCtl = s.canCtl.modify n fun c => { c with mode := s.canWants n } := by
  rw [State.canModeStep_of_free h, State.canShow_frame]
  rfl

theorem State.canModeStep_modes (s : State) {n : Nat} (hn : n < 3) : s.ModesOnly (s.canModeStep n) := by
  cases hFrame : (s.canCtl.get n).inFrame
  · have hStep := State.canModeStep_of_free hFrame
    refine ⟨by rw [hStep, State.canShow_frame]; rfl, fun a ha => ?_, fun m => ?_⟩
    · rw [hStep]
      exact (s.modCtl n fun c => { c with mode := s.canWants n }).canShow_kept n a (by simpa using ha n hn)
    · rw [State.canCtl_canModeStep hFrame]
      by_cases hm : m = n
      · rw [hm, Table.get_modify_same]
        exact ⟨rfl, rfl⟩
      · rw [Table.get_modify_ne _ _ hm]
        exact ⟨rfl, rfl⟩
  · rw [State.canModeStep, if_pos hFrame]
    exact .refl s

/-- Every controller without a frame in progress enters the mode that it is to be in. -/
theorem State.canModes (s : State) : s.ModesOnly (s.each [0, 1, 2] State.canModeStep) ∧
    ∀ n ∈ [0, 1, 2], (s.canCtl.get n).inFrame = false → ((s.each [0, 1, 2] State.canModeStep).canCtl.get n).mode = s.canWants n := by
  have hAll := State.each_forall (I := s.ModesOnly) (P := fun n t => (s.canCtl.get n).inFrame = false → (t.canCtl.get n).mode = s.canWants n)
    (f := State.canModeStep) [0, 1, 2] s (.refl s) fun n hn u hu => by
      have hLt : n < 3 := by
        have hThree : ∀ n ∈ [0, 1, 2], n < 3 := by decide
        exact hThree n hn
      have hSet : (u.canCtl.get n).inFrame = false → ((u.canModeStep n).canCtl.get n).mode = s.canWants n := fun h => by
        rw [State.canCtl_canModeStep h, Table.get_modify_same]
        exact hu.canWants n
      refine ⟨hu.trans (u.canModeStep_modes hLt), fun h => hSet ((hu.ctl n).1.trans h), fun m hm hFree => ?_⟩
      by_cases hEq : m = n
      · subst hEq
        exact hSet ((hu.ctl m).1.trans hFree)
      · cases hFrame : (u.canCtl.get n).inFrame
        · rw [State.canCtl_canModeStep hFrame, Table.get_modify_ne _ _ hEq]
          exact hm hFree
        · rw [State.canModeStep, if_pos hFrame]
          exact hm hFree
  exact ⟨hAll.1, hAll.2.1⟩

/-! ## The end of PU4 -/

/-- Outputs are released, and RUN begins. -/
def State.pu4Released (s : State) : State :=
  ((s.put F.PWR_STAT_OUTREL 1).put F.PWR_STAT_PHASE 5).modPwr fun p => { p with runAt := some s.clk }

/-- The drive safe states from before the last device reset are over. -/
def State.pu4Freed (s : State) : State := (s.pu4Released.each s.pu4Released.pwr.ends fun s d => s.put (dieSafe d) 0).modPwr fun p => { p with ends := [] }

/-- The start-up time is shown. -/
def State.pu4Timed (s : State) : State :=
  s.pu4Freed.putSat F.PWR_BOOT_TIME (divOpen 590 ((s.pu4Freed.clk : Int) - s.pu4Freed.pwr.bootAt) msec).toNat

theorem dieSafe_place (d : Nat) : (dieSafe d).addr = R.PWR_STAT ∧ (dieSafe d = F.PWR_STAT_DSAFE_A ∨ dieSafe d = F.PWR_STAT_DSAFE_B) := by
  unfold dieSafe
  split
  · exact ⟨rfl, .inl rfl⟩
  · exact ⟨rfl, .inr rfl⟩

theorem State.freed_puts (s : State) (l : List Nat) : s.Puts (s.each l fun s d => s.put (dieSafe d) 0) [R.PWR_STAT] :=
  State.each_rel (r := fun s t => s.Puts t [R.PWR_STAT]) (fun s => .refl s _) .trans l s fun d _ u _ =>
    .put u 0 (by rw [(dieSafe_place d).1]; exact .head _)

/-- Fields of PWR_STAT beside the drive safe states. -/
theorem State.get_freed (s : State) (l : List Nat) {g : Fld} (hA : Fld.apart g F.PWR_STAT_DSAFE_A) (hB : Fld.apart g F.PWR_STAT_DSAFE_B) :
    (s.each l fun s d => s.put (dieSafe d) 0).get g = s.get g :=
  State.each_rel (r := fun s t => t.get g = s.get g) (fun _ => rfl) (fun h k => k.trans h) l s fun d _ u _ => by
    rcases (dieSafe_place d).2 with h | h
    · rw [h]; exact u.get_put_of_apart 0 hA
    · rw [h]; exact u.get_put_of_apart 0 hB

/-- A drive safe state ends where it is among those listed. -/
theorem State.flag_freed (e : Nat) : ∀ (l : List Nat) (s : State),
    (s.each l fun s d => s.put (dieSafe d) 0).flag (dieSafe e) = (s.flag (dieSafe e) && l.all fun d => dieSafe d != dieSafe e)
  | [], s => by simp [State.each]
  | d :: l, s => by
    have ih := State.flag_freed e l (s.put (dieSafe d) 0)
    have hRound : (s.put (dieSafe d) 0).flag (dieSafe e) = (s.flag (dieSafe e) && dieSafe d != dieSafe e) := by
      by_cases h : dieSafe d = dieSafe e
      · have hBit : (dieSafe e).lo + (dieSafe e).w ≤ 32 ∧ (0 % 2 ^ (dieSafe e).w == 1) = false := by
          rcases (dieSafe_place e).2 with h | h <;> rw [h] <;> decide
        rw [h, State.flag_put_same 0 hBit.1, hBit.2]
        simp
      · have hApart : Fld.apart (dieSafe e) (dieSafe d) := by
          rcases (dieSafe_place d).2 with hd | hd <;> rcases (dieSafe_place e).2 with he | he
          · exact absurd (hd.trans he.symm) h
          · rw [hd, he]; exact .inr (by decide)
          · rw [hd, he]; exact .inr (by decide)
          · exact absurd (hd.trans he.symm) h
        rw [s.flag_put_of_apart 0 hApart, bne_iff_ne.mpr h, Bool.and_true]
    rw [State.each, List.foldl_cons, ← State.each, ih, hRound, List.all_cons, Bool.and_assoc]

theorem State.pu4Released_frame (s : State) : s.pu4Released = { s with
    regs := s.pu4Released.regs, pwr := { s.pwr with runAt := some s.clk } } := by
  simp only [State.pu4Released, State.modPwr, State.put, State.setWord]

theorem State.word_pu4Released (s : State) (a : Nat) :
    s.pu4Released.word a = ((s.put F.PWR_STAT_OUTREL 1).put F.PWR_STAT_PHASE 5).word a := rfl

theorem State.pu4Freed_frame (s : State) : s.pu4Freed = { s with
    regs := s.pu4Freed.regs, pwr := { s.pwr with runAt := some s.clk, ends := [] } } := by
  rw [State.pu4Freed, State.modPwr, (s.pu4Released.freed_puts s.pu4Released.pwr.ends).frame, s.pu4Released_frame]

theorem State.word_pu4Freed (s : State) (a : Nat) :
    s.pu4Freed.word a = (s.pu4Released.each s.pwr.ends fun s d => s.put (dieSafe d) 0).word a := by
  have hEnds : s.pu4Released.pwr.ends = s.pwr.ends := by rw [s.pu4Released_frame]
  rw [State.pu4Freed, hEnds]
  rfl

theorem State.pu4Timed_frame (s : State) : s.pu4Timed = { s with
    regs := s.pu4Timed.regs, pwr := { s.pwr with runAt := some s.clk, ends := [] } } := by
  have hTimed : s.pu4Timed = { s.pu4Freed with regs := s.pu4Timed.regs } := rfl
  rw [hTimed, s.pu4Freed_frame]

/-- PWR_STAT as the drive safe states leave it. -/
theorem State.word_pu4Timed (s : State) {a : Nat} (h : a ≠ R.PWR_BOOT_TIME) :
    s.pu4Timed.word a = (s.pu4Released.each s.pwr.ends fun s d => s.put (dieSafe d) 0).word a := by
  rw [State.pu4Timed, State.putSat, State.word_put_ne _ _ _ h, State.word_pu4Freed]

theorem State.pu4Timed_kept (s : State) : s.regsKept s.pu4Timed [R.PWR_STAT, R.PWR_BOOT_TIME] := fun a ha => by
  have hStat : a ≠ R.PWR_STAT := fun h => ha (h ▸ .head _)
  have hTime : a ≠ R.PWR_BOOT_TIME := fun h => ha (h ▸ .tail _ (.head _))
  rw [s.word_pu4Timed hTime, (s.pu4Released.freed_puts s.pwr.ends).kept a (by simpa using hStat), State.word_pu4Released,
    State.word_put_ne _ _ _ hStat, State.word_put_ne _ _ _ hStat]

/-- A field of PWR_STAT beside the drive safe states. -/
theorem State.get_pu4Timed (s : State) {g : Fld} (hAddr : g.addr = R.PWR_STAT) (hA : Fld.apart g F.PWR_STAT_DSAFE_A)
    (hB : Fld.apart g F.PWR_STAT_DSAFE_B) : s.pu4Timed.get g = ((s.put F.PWR_STAT_OUTREL 1).put F.PWR_STAT_PHASE 5).get g := by
  rw [State.get_eq_of_word (s.word_pu4Timed (a := g.addr) (by rw [hAddr]; decide)), State.get_freed _ _ hA hB,
    State.get_eq_of_word (s.word_pu4Released _)]

theorem State.flag_pu4Timed_vio (s : State) : s.pu4Timed.flag F.PWR_STAT_VIO_OK = s.flag F.PWR_STAT_VIO_OK := by
  rw [State.flag, s.get_pu4Timed rfl (.inr (by decide)) (.inr (by decide)), State.get_put_of_apart _ _ (.inr (by decide)),
    State.get_put_of_apart _ _ (.inr (by decide)), State.flag]

theorem State.flag_pu4Timed_outrel (s : State) : s.pu4Timed.flag F.PWR_STAT_OUTREL = true := by
  rw [State.flag, s.get_pu4Timed rfl (.inr (by decide)) (.inr (by decide)), State.get_put_of_apart _ _ (.inr (by decide)),
    State.get_put_same _ _ _ (by decide)]
  rfl

theorem State.phaseOf_pu4Timed (s : State) : s.pu4Timed.phaseOf = 5 := by
  rw [State.phaseOf, s.get_pu4Timed rfl (.inr (by decide)) (.inr (by decide)), State.get_put_same _ _ _ (by decide)]
  rfl

theorem State.flag_pu4Timed_die (s : State) (e : Nat) :
    s.pu4Timed.flag (dieSafe e) = (s.flag (dieSafe e) && s.pwr.ends.all fun d => dieSafe d != dieSafe e) := by
  have hAddr := (dieSafe_place e).1
  have hReleased : s.pu4Released.flag (dieSafe e) = s.flag (dieSafe e) := by
    rw [State.flag_eq_of_word (s.word_pu4Released _)]
    rcases (dieSafe_place e).2 with h | h <;> rw [h] <;>
      rw [State.flag_put_of_apart _ _ (.inr (by decide)), State.flag_put_of_apart _ _ (.inr (by decide))]
  rw [State.flag_eq_of_word (s.word_pu4Timed (a := (dieSafe e).addr) (by rw [hAddr]; decide)), State.flag_freed, hReleased]

theorem State.bootTime_pu4Timed (s : State) :
    s.pu4Timed.get F.PWR_BOOT_TIME = min (divOpen 590 ((s.clk : Int) - s.pwr.bootAt) msec).toNat 0xFFFF := by
  have hClk : s.pu4Freed.clk = s.clk := by rw [s.pu4Freed_frame]
  have hBootAt : s.pu4Freed.pwr.bootAt = s.pwr.bootAt := by rw [s.pu4Freed_frame]
  rw [State.pu4Timed, hClk, hBootAt, State.putSat, State.get_put_same _ _ _ (by decide)]
  generalize (divOpen 590 ((s.clk : Int) - s.pwr.bootAt) msec).toNat = ms
  show min ms 65535 % 65536 = min ms 65535
  omega

/-- What a controller is to be in once the outputs are released. -/
theorem State.canWants_of_runs {s : State} {n : Nat} (hRuns : s.runs .can = true) (hVio : s.flag F.PWR_STAT_VIO_OK = true)
    (hOut : s.flag F.PWR_STAT_OUTREL = true) (hSafe : s.safe = false) (hHeld : (s.canCtl.get n).held = false) :
    s.canWants n = s.get (F.CAN_CTL_CFG_MODE n) := by
  simp [State.canWants, State.released, hRuns, hVio, hOut, hSafe, hHeld]

/-- What a controller wishes once the solenoid channels have resumed: the mode of its configuration. -/
theorem State.canWants_resumed {s v : State} (hResume : s.pu4Timed.ChannelsOnly v) {n : Nat} (hn : n < 3)
    (hRuns : s.runs .can = true) (hVio : s.flag F.PWR_STAT_VIO_OK = true) (hSafe : s.safe = false)
    (hHeld : (s.canCtl.get n).held = false) : v.canWants n = s.get (F.CAN_CTL_CFG_MODE n) := by
  have hTimed := s.pu4Timed_frame
  have hWord : ∀ a, ¬ outputReg a → a ∉ [R.PWR_STAT, R.PWR_BOOT_TIME] → v.word a = s.word a := fun a ha hNot =>
    (hResume.kept a ha).trans (s.pu4Timed_kept a hNot)
  have hFailed : v.failed = s.failed := by rw [hResume.frame]; exact (congrArg State.failed hTimed :)
  have hClocks : v.clocks = s.clocks := by rw [hResume.frame]; exact (congrArg State.clocks hTimed :)
  have hCan : v.canCtl = s.canCtl := by rw [hResume.frame]; exact (congrArg State.canCtl hTimed :)
  have hvRuns : v.runs .can = s.runs .can :=
    State.runs_congr (hWord _ (by simp only [outputReg]; decide) (by decide))
      (hWord _ (by simp only [outputReg]; decide) (by decide)) (hWord _ (by simp only [outputReg]; decide) (by decide))
      hFailed hClocks
  have hStat := hResume.kept R.PWR_STAT (by simp only [outputReg]; decide)
  have hvSafe : v.safe = s.safe := State.flag_eq_of_word (hWord R.CFG_FTG_STATE (by simp only [outputReg]; decide) (by decide))
  have hCfg : R.CAN_CTL_CFG n ∉ [R.PWR_STAT, R.PWR_BOOT_TIME] := by
    simp only [R.CAN_CTL_CFG, R.PWR_STAT, R.PWR_BOOT_TIME, List.mem_cons, List.not_mem_nil, or_false]
    omega
  rw [State.canWants_of_runs (hvRuns.trans hRuns) ((State.flag_eq_of_word hStat).trans (s.flag_pu4Timed_vio.trans hVio))
    ((State.flag_eq_of_word hStat).trans s.flag_pu4Timed_outrel) (hvSafe.trans hSafe) (by rw [hCan]; exact hHeld)]
  exact State.get_eq_of_word (hWord (R.CAN_CTL_CFG n) (by simp only [outputReg, R.CAN_CTL_CFG]; omega) hCfg)

theorem State.pu4End_eq (s : State) : s.pu4End = (s.pu4Timed.solResume (List.range 96)).each [0, 1, 2] State.canModeStep := rfl

theorem exec_pu4End {s : State} (hPhase : s.phaseOf = 4) (hFree : s.pwr.held = false) :
    exec .pu4End s = .next (if s.flag F.PWR_STAT_SSAFE then s else s.pu4End) := by
  show execPu4End s = _
  rw [execPu4End, hPhase, hFree]
  cases s.flag F.PWR_STAT_SSAFE <;> rfl

/-- The last two acts of PU4: solenoid channels resume, and CAN controllers take the modes they wish. -/
theorem State.pu4End_acts (s : State) : ∃ v, s.pu4Timed.ChannelsOnly v ∧ v.ModesOnly s.pu4End ∧
    ∀ n ∈ [0, 1, 2], (v.canCtl.get n).inFrame = false → (s.pu4End.canCtl.get n).mode = v.canWants n := by
  obtain ⟨hModes, hMode⟩ := (s.pu4Timed.solResume (List.range 96)).canModes
  rw [← s.pu4End_eq] at hModes hMode
  exact ⟨_, .solResume _, hModes, hMode⟩

theorem State.word_pu4End (s : State) {a : Nat} (h : ¬ outputReg a) (hLt : a < 0x111000) : s.pu4End.word a = s.pu4Timed.word a := by
  obtain ⟨v, hResume, hModes, -⟩ := s.pu4End_acts
  exact (hModes.kept a (canCtlStat_ne hLt)).trans (hResume.kept a h)

theorem State.word_stat_pu4End (s : State) : s.pu4End.word R.PWR_STAT = s.pu4Timed.word R.PWR_STAT :=
  s.word_pu4End (by simp only [outputReg]; decide) (by decide)

theorem State.pwr_pu4End (s : State) :
    s.pu4End.pwr = { s.pwr with runAt := some s.clk, ends := [] } ∧ s.pu4End.hsw = s.hsw := by
  obtain ⟨v, hResume, hModes, -⟩ := s.pu4End_acts
  rw [hModes.frame, hResume.frame, s.pu4Timed_frame]
  exact ⟨rfl, rfl⟩

theorem State.mode_pu4End {s : State} {n : Nat} (hn : n < 3) (hFrame : (s.canCtl.get n).inFrame = false) (hRuns : s.runs .can = true)
    (hVio : s.flag F.PWR_STAT_VIO_OK = true) (hSafe : s.safe = false) (hHeld : (s.canCtl.get n).held = false) :
    (s.pu4End.canCtl.get n).mode = s.get (F.CAN_CTL_CFG_MODE n) := by
  obtain ⟨v, hResume, -, hMode⟩ := s.pu4End_acts
  have hCan : v.canCtl = s.canCtl := by rw [hResume.frame, s.pu4Timed_frame]
  rw [hMode n (by simp only [List.mem_cons, List.not_mem_nil, or_false]; omega) (by rw [hCan]; exact hFrame),
    State.canWants_resumed hResume hn hRuns hVio hSafe hHeld]

theorem State.dieSafe_pu4End (s : State) (e : Nat) :
    s.pu4End.flag (dieSafe e) = (s.flag (dieSafe e) && s.pwr.ends.all fun d => dieSafe d != dieSafe e) := by
  refine (State.flag_eq_of_word ?_).trans (s.flag_pu4Timed_die e)
  rw [(dieSafe_place e).1]
  exact s.word_stat_pu4End

theorem State.phaseOf_pu4End (s : State) : s.pu4End.phaseOf = 5 :=
  (State.get_eq_of_word s.word_stat_pu4End).trans s.phaseOf_pu4Timed

theorem State.outrel_pu4End (s : State) : s.pu4End.flag F.PWR_STAT_OUTREL = true :=
  (State.flag_eq_of_word s.word_stat_pu4End).trans s.flag_pu4Timed_outrel

theorem State.bootTime_pu4End (s : State) :
    s.pu4End.get F.PWR_BOOT_TIME = min (divOpen 590 ((s.clk : Int) - s.pwr.bootAt) msec).toNat 0xFFFF := by
  have hWord : s.pu4End.word R.PWR_BOOT_TIME = s.pu4Timed.word R.PWR_BOOT_TIME :=
    s.word_pu4End (by simp only [outputReg]; decide) (by decide)
  rw [← s.bootTime_pu4Timed]
  exact State.get_eq_of_word hWord

/-! ## No phase ends but the one in force -/

theorem startUp_idle (spi kat : Bool) (pref : StoreSlot) (a : BitVec 6) (l : List Block) (f : StartFinds) (s : State) :
    ((s.pwr.booting = false ∨ s.phaseOf ≠ 0) → exec (.pu0End spi a) s = .next s) ∧
    (s.phaseOf ≠ 1 → exec (.pu1End l spi kat pref) s = .next s) ∧
    (s.phaseOf ≠ 2 → exec (.pu2End f) s = .next s) ∧ (s.phaseOf ≠ 3 → exec .pu3End s = .next s) ∧
    (s.phaseOf ≠ 4 → exec .pu4End s = .next s) := by
  refine ⟨fun h => ?_, fun h => ?_, fun h => ?_, fun h => ?_, fun h => ?_⟩
  · show execPu0End spi a s = _
    rw [execPu0End, if_pos (by rcases h with h | h <;> simp [h])]
  · show execPu1End l spi kat pref s = _
    rw [execPu1End, if_pos (by simp [h])]
  · show execPu2End f s = _
    rw [execPu2End, if_neg (by simp [h])]
  · show execPu3End s = _
    rw [execPu3End, if_neg (by simp [h])]
  · show execPu4End s = _
    rw [execPu4End, if_neg (by simp [h])]

/-- RESET_N is released, and nothing ends while it is held. -/
theorem resetN_held {s : State} (h : s.pwr.held = true) :
    (s.phaseOf ≠ 1 → exec .resetNRelease s = .next { s with pwr := { s.pwr with held := false } }) ∧
    (s.phaseOf = 1 → s.flag F.CLK_STAT_MRC_OK = false →
      exec .resetNRelease s = .next { s with
        pwr := { s.pwr with held := false, bootAt := s.clk }, clocks := { s.clocks with step := 1 } }) ∧
    (∀ i : Instr, (i = .pu3End ∨ i = .pu4End ∨ i = .resetNAssert) → exec i s = .next s) := by
  refine ⟨fun h1 => ?_, fun h1 hMrc => ?_, ?_⟩
  · have hPhase : ¬ (((s.modPwr fun p => { p with held := false }).phaseOf == 1) = true) := fun k => h1 (eq_of_beq k)
    show execResetNRelease s = _
    rw [execResetNRelease, if_neg (by simp [h])]
    exact congrArg Host.Outcome.next (if_neg hPhase)
  · have hPhase : ((s.modPwr fun p => { p with held := false }).phaseOf == 1) = true := beq_iff_eq.mpr h1
    show execResetNRelease s = _
    rw [execResetNRelease, if_neg (by simp [h])]
    exact congrArg Host.Outcome.next ((if_pos hPhase).trans (State.clockStart_of_unverified hMrc))
  · rintro i (rfl | rfl | rfl)
    · show execPu3End s = _
      rw [execPu3End, if_neg (by simp [h])]
    · show execPu4End s = _
      rw [execPu4End, if_neg (by simp [h])]
    · exact (resetCommands_idle s).1 h

/-- Settles O53, one phase after another. -/
theorem startUpRunsThroughItsPhases : Obligations.StartUpRunsThroughItsPhases := by
  unfold Obligations.StartUpRunsThroughItsPhases
  refine ⟨powerOnReset_effect, fun spi a s hBoot hPhase => pu0End_effect spi a hBoot hPhase,
    fun l b kat pref s hPhase hFree hStep hReady => pu1End_effect l b kat pref hPhase hFree hStep hReady,
    fun f pick s hPhase hFree hPick => ⟨fun hRun => exec_pu2End_idle f hRun, fun hRun hA hB hFailed => ?_⟩,
    fun s hPhase hFree => ⟨_, exec_pu3End hPhase hFree, s.pu3End_shows⟩, startUp_idle,
    fun s hPhase hFree hIdle => ⟨_, exec_pu3End hPhase hFree, s.pu3End_shows.1, s.pu3End_shows.2, State.pu3End_of_idle hIdle⟩,
    fun s hPhase hFree => ⟨fun hSafe => ?_, fun hSafe => ⟨s.pu4End, ?_, ?_⟩⟩, fun s h => resetN_held h⟩
  · have hPicked : s.pickStore f = pick := hPick.symm
    rw [← hPicked]
    exact pu2End_effect f hPhase hFree hRun hA hB hFailed
  · rw [exec_pu4End hPhase hFree, if_pos hSafe]
  · rw [exec_pu4End hPhase hFree, if_neg (by simp [hSafe])]
  · obtain ⟨hPwr, hHsw⟩ := s.pwr_pu4End
    exact ⟨s.phaseOf_pu4End, s.outrel_pu4End, s.dieSafe_pu4End 0, s.dieSafe_pu4End 1, hPwr, hHsw,
      fun n hn hFrame hRuns hVio hFree hHeld => State.mode_pu4End hn hFrame hRuns hVio hFree hHeld, s.bootTime_pu4End⟩

end Sys2Proof.Machine
end

section
/-! Accepted writes of the pointers and the control word of a lane (R130, R132, R139, R141, R142). -/

namespace Sys2Proof.Machine

open Sys2Proof

/-! ## A host write of a lane's register -/

/-- The registers of the lanes. -/
abbrev LaneWord (a : Nat) : Prop := 0x51000 ≤ a ∧ a < 0x51200

theorem LaneWord.region {a : Nat} (h : LaneWord a) : a / 65536 = 5 := by omega

theorem LaneWord.unconditional {a : Nat} (h : LaneWord a) : Unconditional a :=
  ⟨.inl (by omega), by rw [h.region]; rfl, by omega⟩

theorem LaneWord.change {a : Nat} (h : LaneWord a) (s : State) (w : Word) :
    s.change a w = if s.word a = w then s else State.laneChanged s (s.setWord a w) a := by
  have hCtrl : ¬ a % 65536 = 8 := by omega
  by_cases hw : s.word a = w
  · rw [State.change, if_pos hw, if_pos hw]
  · rw [State.change, if_neg hw, if_neg hw, State.onChange, State.word_setWord_same, if_neg hw, if_neg hCtrl, State.blockChanged,
      h.region]
    rfl

theorem LaneWord.hostWrite {a : Nat} (h : LaneWord a) {s : State} {v : Word} (hAdmits : s.admitsSet a v.toNat) :
    s.hostSet a v.toNat = (s.change a (s.written a (BitVec.allOnes 32) v)).settled := by
  rw [State.admitsSet, BitVec.ofNat_toNat, BitVec.setWidth_eq] at hAdmits
  obtain ⟨b, hb, hWrite⟩ := State.hostWrite_of_admits hAdmits
  rw [h.region] at hb
  obtain rfl : Block.lane = b := Option.some.inj hb
  have hHeader : ¬ a % 65536 < 0x24 := by omega
  rw [State.hostSet, BitVec.ofNat_toNat, BitVec.setWidth_eq, hWrite]
  exact congrArg State.settled (if_neg hHeader)

/-- The low bits that a write stores take the value's. -/
theorem Unconditional.takeField_written {a w : Nat} (h : Unconditional a) (hw : w ≤ 32)
    (hStored : ∀ k < w, nbit (bitsWhere (fieldsAt a) fun f => storedCodes.contains f.acc) k = true) (s : State) (v : Word) :
    takeField (s.written a (BitVec.allOnes 32) v) 0 w = v.toNat % 2 ^ w := by
  apply Nat.eq_of_testBit_eq
  intro k
  rw [testBit_takeField, Nat.testBit_mod_two_pow, Nat.zero_add, BitVec.testBit_toNat]
  by_cases hk : k < w
  · have hFree : nbit 0 k = false := by rw [nbit_eq_testBit, Nat.zero_testBit]
    have hIs : s.bitIs a k storedCodes = true := by
      rw [State.bitIs, hStored k hk, h.reservedBits_eq, h.absentBits_eq, h.roNow_eq, Nat.or_self, Nat.or_self, hFree]
      rfl
    rw [(s.written_bits a v).1 k (by omega) hIs (by rw [h.boundBits_eq]; exact hFree)]
  · rw [decide_eq_false hk, Bool.false_and, Bool.false_and]

/-! ## The registers a lane has (R129 to R132) -/

theorem laneWord_head {n : Nat} (h : n < 16) : LaneWord (R.LANE_HEAD n) := by simp only [R.LANE_HEAD]; omega
theorem laneWord_ctrl {n : Nat} (h : n < 16) : LaneWord (R.LANE_CTRL n) := by simp only [R.LANE_CTRL]; omega

/-- The registers of lane `n` that act when they change, and the place of each among them. -/
theorem arrIdx_laneHead : ∀ n < 16, arrIdx (R.LANE_HEAD n) R.LANE_CTRL 16 = none ∧ arrIdx (R.LANE_HEAD n) R.LANE_BASE 16 = none ∧
    arrIdx (R.LANE_HEAD n) R.LANE_SIZE 16 = none ∧ arrIdx (R.LANE_HEAD n) R.LANE_HEAD 16 = some n := by
  decide +kernel

theorem arrIdx_laneCtrl : ∀ n < 16, arrIdx (R.LANE_CTRL n) R.LANE_CTRL 16 = some n ∧ arrIdx (R.LANE_CTRL n) R.LANE_BASE 16 = none ∧
    arrIdx (R.LANE_CTRL n) R.LANE_SIZE 16 = none ∧ arrIdx (R.LANE_CTRL n) R.LANE_HEAD 16 = none := by
  decide +kernel

/-- The pointers store 14 bits and the control word 5. -/
theorem laneStored : ∀ n < 16,
    (∀ k < 14, nbit (bitsWhere (fieldsAt (R.LANE_HEAD n)) fun f => storedCodes.contains f.acc) k = true) ∧
    (∀ k < 14, nbit (bitsWhere (fieldsAt (R.LANE_TAIL n)) fun f => storedCodes.contains f.acc) k = true) ∧
    (∀ k < 5, nbit (bitsWhere (fieldsAt (R.LANE_CTRL n)) fun f => storedCodes.contains f.acc) k = true) := by
  decide +kernel

theorem laneTail_quiet : ∀ n < 16, quietWord (R.LANE_TAIL n) = true := by decide +kernel

/-- The events of the lanes stand in the header page of their block. -/
theorem evBit_lane : (evBit 18).addr = 0x50010 ∧ evOwner 18 = .lane ∧ (evBit 28).addr = 0x50010 ∧ evOwner 28 = .lane := by decide

/-- What a write stores is all that is left where nothing follows. -/
theorem State.stored_keeps (s : State) (a : Nat) (w : Word) : (s.stored a w).word a = w ∧
    s.stored a w = { s with regs := (s.stored a w).regs } ∧ s.regsKept (s.stored a w) [a] := by
  unfold State.stored
  split
  · next h => exact ⟨h, rfl, fun _ _ => rfl⟩
  · exact ⟨s.word_setWord_same a w, rfl, fun r hr => s.word_setWord_ne w (by simpa using hr)⟩

/-! ## LANE_HEAD_WRITE (R132, R139) -/

/-- The entries of lane `n` that HEAD takes in on its way to `v` and that lie in a dead page. -/
def State.deadTaken (s : State) (n v : Nat) : List Nat :=
  (List.range ((v + s.laneSize n - s.get (F.LANE_HEAD_HEAD n)) % s.laneSize n)).filter
    (fun j => s.deadPage (s.laneSlot n ((s.get (F.LANE_HEAD_HEAD n) + j) % s.laneSize n)))

/-- HEAD moved: what it took in of dead pages is lost. -/
theorem State.laneDead_stored (s : State) (n : Nat) (w : Word) :
    (s.setWord (R.LANE_HEAD n) w).laneDead n (s.get (F.LANE_HEAD_HEAD n)) =
      if (s.deadTaken n (takeField w 0 14)).isEmpty then s.setWord (R.LANE_HEAD n) w
      else ((s.setWord (R.LANE_HEAD n) w).count (F.LANE_LOST n) (s.deadTaken n (takeField w 0 14)).length).raise 18 := by
  obtain ⟨-, hSize, hBase, -⟩ := laneRegs_apart n n
  have hHead : (s.setWord (R.LANE_HEAD n) w).get (F.LANE_HEAD_HEAD n) = takeField w 0 14 := by
    show takeField ((s.setWord (R.LANE_HEAD n) w).word (R.LANE_HEAD n)) 0 14 = _
    rw [State.word_setWord_same]
  have hLaneSize : (s.setWord (R.LANE_HEAD n) w).laneSize n = s.laneSize n := State.get_eq_of_word (s.word_setWord_ne w hSize)
  have hSlot : (s.setWord (R.LANE_HEAD n) w).laneSlot n = s.laneSlot n := by
    funext i
    rw [State.laneSlot, State.laneSlot, State.get_eq_of_word (f := F.LANE_BASE n) (s.word_setWord_ne w hBase)]
  simp only [State.laneDead, hHead, hLaneSize, hSlot]
  rfl

theorem State.change_laneHead (s : State) {n : Nat} (hn : n < 16) (w : Word) : s.change (R.LANE_HEAD n) w =
    if s.word (R.LANE_HEAD n) = w then s else (s.setWord (R.LANE_HEAD n) w).laneDead n (s.get (F.LANE_HEAD_HEAD n)) := by
  obtain ⟨hCtrl, hBase, hSize, hHead⟩ := arrIdx_laneHead n hn
  rw [(laneWord_head hn).change]
  simp only [State.laneChanged, State.onIdx, hCtrl, hBase, hSize, hHead]

/-- Nothing is lost: the pointer is stored. -/
theorem State.change_laneHead_live {s : State} {n : Nat} (hn : n < 16) {w : Word} (h : s.deadTaken n (takeField w 0 14) = []) :
    s.change (R.LANE_HEAD n) w = s.stored (R.LANE_HEAD n) w := by
  rw [s.change_laneHead hn, State.laneDead_stored, h]
  rfl

theorem State.change_laneHead_dead {s : State} {n : Nat} (hn : n < 16) {w : Word} (hMoves : takeField w 0 14 ≠ s.get (F.LANE_HEAD_HEAD n))
    (h : s.deadTaken n (takeField w 0 14) ≠ []) : s.change (R.LANE_HEAD n) w =
      ((s.setWord (R.LANE_HEAD n) w).count (F.LANE_LOST n) (s.deadTaken n (takeField w 0 14)).length).raise 18 := by
  have hWord : ¬ s.word (R.LANE_HEAD n) = w := fun hEq => hMoves (by rw [← hEq]; rfl)
  rw [s.change_laneHead hn, if_neg hWord, State.laneDead_stored, if_neg (by simpa using h)]

/-- The control word and the pointers of a lane are apart from its other registers. -/
theorem laneRegs_place (n : Nat) (hn : n < 16) : R.LANE_HEAD n ≠ R.LANE_LOST n ∧ R.LANE_TAIL n ≠ R.LANE_LOST n ∧
    R.LANE_CTRL n ≠ R.LANE_LOST n ∧ R.LANE_HEAD n ≠ 0x50010 ∧ R.LANE_TAIL n ≠ 0x50010 ∧ R.LANE_CTRL n ≠ 0x50010 ∧
    R.LANE_LOST n ≠ 0x50010 := by
  simp only [R.LANE_HEAD, R.LANE_TAIL, R.LANE_CTRL, R.LANE_LOST]
  omega

/-- From `s` to `t`, `k` entries of lane `n` have been counted as lost, with event `e`. -/
structure State.Loses (s t : State) (n e k : Nat) : Prop where
  lost : t.get (F.LANE_LOST n) = min (s.get (F.LANE_LOST n) + k) (2 ^ (F.LANE_LOST n).w - 1)
  event : s.occurred t e
  frame : t = { s with regs := t.regs, occ := t.occ }
  kept : s.regsKept t [R.LANE_LOST n, 0x50010]

theorem State.loses_count {s : State} {n e : Nat} (hn : n < 16) (hAddr : (evBit e).addr = 0x50010) (hOwner : evOwner e = .lane)
    (hKind : s.kind .lane = 1) (k : Nat) : s.Loses ((s.count (F.LANE_LOST n) k).raise e) n e k := by
  obtain ⟨-, -, -, -, -, -, hLost⟩ := laneRegs_place n hn
  have hPlace : R.LANE_LOST n ≠ R.CFG_PERSONALITY ∧ R.LANE_LOST n ≠ R.CFG_FTG_STATE := by
    simp only [R.LANE_LOST, R.CFG_PERSONALITY, R.CFG_FTG_STATE]
    omega
  have hCounted : (s.count (F.LANE_LOST n) k).kind (evOwner e) = 1 := by
    rw [hOwner, State.count, State.putSat, State.kind_put s _ hPlace.1 hPlace.2, hKind]
  refine ⟨?_, State.occurred_raise hCounted, ?_, ?_⟩
  · rw [State.get_raise_ne _ _ (by rw [hAddr]; exact hLost), State.get_count_same _ _ _ (by simp only [F.LANE_LOST]; decide)]
  · rw [State.raise_changes]
    rfl
  · exact .trans (.count s k (.head _)) (.raise _ (by rw [hAddr]; exact .tail _ (.head _)))

theorem laneHeadWrite_effect (n : Fin 16) (v : Word) (l : List Nat) (s : State) (hAdmits : s.admitsSet (R.LANE_HEAD n.val) v.toNat)
    (hl : l = s.deadTaken n.val (v.toNat % 2 ^ 14)) :
    (l = [] → ∃ t, exec (.laneHeadWrite n v) s = .next t ∧ t.lastErr = none ∧ t.get (F.LANE_HEAD_HEAD n.val) = v.toNat % 2 ^ 14 ∧
      t = { s with regs := t.regs, parity := none, lastErr := none } ∧ s.regsKept t [R.LANE_HEAD n.val]) ∧
    (l ≠ [] → v.toNat % 2 ^ 14 ≠ s.get (F.LANE_HEAD_HEAD n.val) → s.kind .lane = 1 →
      ∃ t, exec (.laneHeadWrite n v) s = .next t ∧ t.lastErr = none ∧ t.get (F.LANE_HEAD_HEAD n.val) = v.toNat % 2 ^ 14 ∧
      t.get (F.LANE_LOST n.val) = min (s.get (F.LANE_LOST n.val) + l.length) (2 ^ (F.LANE_LOST n.val).w - 1) ∧ s.occurred t 18 ∧
      t = { s with regs := t.regs, occ := t.occ, parity := none, lastErr := none } ∧
      s.regsKept t [R.LANE_HEAD n.val, R.LANE_LOST n.val, (evBit 18).addr]) := by
  have hn := n.isLt
  have hWritten := (laneWord_head hn).unconditional.takeField_written (by decide) (laneStored n.val hn).1 s v
  have hExec : exec (.laneHeadWrite n v) s = .next (s.hostSet (R.LANE_HEAD n.val) v.toNat) := rfl
  rw [(laneWord_head hn).hostWrite hAdmits] at hExec
  generalize s.written (R.LANE_HEAD n.val) (BitVec.allOnes 32) v = w at hWritten hExec
  rw [← hWritten] at hl ⊢
  subst hl
  refine ⟨fun hNone => ?_, fun hSome hMoves hKind => ?_⟩
  · rw [State.change_laneHead_live hn hNone] at hExec
    obtain ⟨hWord, hFrame, hKept⟩ := s.stored_keeps (R.LANE_HEAD n.val) w
    refine ⟨_, hExec, rfl, ?_, ?_, hKept⟩
    · show takeField ((s.stored (R.LANE_HEAD n.val) w).word (R.LANE_HEAD n.val)) 0 14 = _
      rw [hWord]
    · rw [State.settled, hFrame]
  · rw [State.change_laneHead_dead hn hMoves hSome] at hExec
    obtain ⟨hHeadLost, -, -, hHeadEvt, -, -, hLostEvt⟩ := laneRegs_place n.val hn
    obtain ⟨hAddr, hOwner, -⟩ := evBit_lane
    have hSetKind : (s.setWord (R.LANE_HEAD n.val) w).kind .lane = 1 := by
      rw [← hKind]
      exact State.kind_congr (s.word_setWord_ne w (by simp only [R.LANE_HEAD, R.CFG_PERSONALITY]; omega))
        (s.word_setWord_ne w (by simp only [R.LANE_HEAD, R.CFG_FTG_STATE]; omega)) rfl _
    obtain ⟨hLost, hEvent, hFrame, hKept⟩ := State.loses_count hn hAddr hOwner hSetKind (s.deadTaken n.val (takeField w 0 14)).length
    generalize ((s.setWord (R.LANE_HEAD n.val) w).count (F.LANE_LOST n.val) (s.deadTaken n.val (takeField w 0 14)).length).raise 18 = t
      at hExec hLost hEvent hFrame hKept
    refine ⟨_, hExec, rfl, ?_, ?_, hEvent, ?_, fun a ha => ?_⟩
    · show takeField (t.word (R.LANE_HEAD n.val)) 0 14 = _
      rw [hKept _ (by simp [hHeadLost, hHeadEvt]), State.word_setWord_same]
    · refine hLost.trans ?_
      rw [State.get_eq_of_word (f := F.LANE_LOST n.val) (s.word_setWord_ne w hHeadLost.symm)]
    · rw [State.settled, hFrame]
      rfl
    · rw [hAddr] at ha
      simp only [List.mem_cons, List.not_mem_nil, or_false, not_or] at ha
      obtain ⟨hHead, hNotLost, hEvt⟩ := ha
      exact (hKept a (by simp [hNotLost, hEvt])).trans (s.word_setWord_ne w hHead)

/-! ## LANE_TAIL_WRITE (R132) -/

theorem laneTailWrite_effect (n : Fin 16) (v : Word) (s : State) (hAdmits : s.admitsSet (R.LANE_TAIL n.val) v.toNat) :
    ∃ t, exec (.laneTailWrite n v) s = .next t ∧ t.lastErr = none ∧ t.get (F.LANE_TAIL_TAIL n.val) = v.toNat % 2 ^ 14 ∧
      t = { s with regs := t.regs, parity := none, lastErr := none } ∧ s.regsKept t [R.LANE_TAIL n.val] := by
  have hn := n.isLt
  have hPlace : LaneWord (R.LANE_TAIL n.val) := by simp only [R.LANE_TAIL]; omega
  have hWritten := hPlace.unconditional.takeField_written (by decide) (laneStored n.val hn).2.1 s v
  rw [State.admitsSet, BitVec.ofNat_toNat, BitVec.setWidth_eq] at hAdmits
  obtain ⟨hWord, hFrame, hKept⟩ := State.hostWrite_of_quiet (laneTail_quiet n.val hn) hAdmits
  have hExec : exec (.laneTailWrite n v) s = .next (s.hostWrite false (R.LANE_TAIL n.val) (BitVec.allOnes 32) v) := by
    show Host.Outcome.next (s.hostSet (R.LANE_TAIL n.val) v.toNat) = _
    rw [State.hostSet, BitVec.ofNat_toNat, BitVec.setWidth_eq]
  refine ⟨_, hExec, hFrame ▸ rfl, ?_, hFrame, hKept⟩
  rw [← hWritten, ← hWord]
  rfl

/-! ## LANE_CTRL_WRITE (R141, R142) -/

/-- Both pointers of a lane at 0. -/
def State.lanePointersZero (s : State) (n : Nat) : State := (s.put (F.LANE_HEAD_HEAD n) 0).put (F.LANE_TAIL_TAIL n) 0

/-- The control word of lane `n` was as in `s0`: where DIR or LEAD has changed the pointers become 0. -/
def State.laneTurned (s0 s : State) (n : Nat) : State :=
  if takeField (s.word (R.LANE_CTRL n)) 1 2 = takeField (s0.word (R.LANE_CTRL n)) 1 2 then s else s.lanePointersZero n

/-- DIR and LEAD are the bits 1 and 2 of the control word. -/
theorem differs_laneCtrl (s0 s : State) (n : Nat) : (differs s0 s (F.LANE_CTRL_DIR n) || differs s0 s (F.LANE_CTRL_LEAD n)) =
    decide (takeField (s.word (R.LANE_CTRL n)) 1 2 ≠ takeField (s0.word (R.LANE_CTRL n)) 1 2) := by
  simp only [differs, State.get, F.LANE_CTRL_DIR, F.LANE_CTRL_LEAD, takeField, Nat.pow_one]
  rw [Bool.eq_iff_iff]
  simp only [Bool.or_eq_true, bne_iff_ne, decide_eq_true_eq]
  omega

theorem State.change_laneCtrl (s : State) {n : Nat} (hn : n < 16) (w : Word) : s.change (R.LANE_CTRL n) w =
    if s.word (R.LANE_CTRL n) = w then s
    else State.laneTurned s (if cleared s (s.setWord (R.LANE_CTRL n) w) (F.LANE_CTRL_EN n) then (s.setWord (R.LANE_CTRL n) w).laneStop n
      else s.setWord (R.LANE_CTRL n) w) n := by
  obtain ⟨hCtrl, hBase, hSize, hHead⟩ := arrIdx_laneCtrl n hn
  rw [(laneWord_ctrl hn).change]
  simp only [State.laneChanged, State.onIdx, hCtrl, hBase, hSize, hHead, differs_laneCtrl, State.laneTurned, State.lanePointersZero,
    decide_eq_true_eq, ne_eq, ite_not]

/-- EN is bit 0 of the control word. -/
theorem cleared_laneEn (s : State) (n : Nat) (w : Word) :
    cleared s (s.setWord (R.LANE_CTRL n) w) (F.LANE_CTRL_EN n) = (s.flag (F.LANE_CTRL_EN n) && !w.getLsbD 0) := by
  have hFlag : (s.setWord (R.LANE_CTRL n) w).flag (F.LANE_CTRL_EN n) = w.getLsbD 0 := by
    rw [F.LANE_CTRL_EN, flag_eq_getLsbD, State.word_setWord_same]
  rw [cleared, hFlag]

/-- EN does not fall: the word is stored, and the lane turns where DIR or LEAD changes. -/
theorem State.change_laneCtrl_running {s : State} {n : Nat} (hn : n < 16) {w : Word}
    (h : s.flag (F.LANE_CTRL_EN n) = true → w.getLsbD 0 = true) :
    s.change (R.LANE_CTRL n) w = State.laneTurned s (s.stored (R.LANE_CTRL n) w) n := by
  have hCleared : cleared s (s.setWord (R.LANE_CTRL n) w) (F.LANE_CTRL_EN n) = false := by
    rw [cleared_laneEn]
    cases hEn : s.flag (F.LANE_CTRL_EN n)
    · rfl
    · rw [h hEn]; rfl
  rw [s.change_laneCtrl hn, hCleared, State.stored]
  split
  · exact (if_pos rfl).symm
  · rfl

/-- EN falls: what the lane holds is discarded, and the lane turns where DIR or LEAD changes. -/
theorem State.change_laneCtrl_stopped {s : State} {n : Nat} (hn : n < 16) {w : Word} (hEn : s.flag (F.LANE_CTRL_EN n) = true)
    (hw : w.getLsbD 0 = false) :
    s.change (R.LANE_CTRL n) w = State.laneTurned s ((s.setWord (R.LANE_CTRL n) w).laneStop n) n := by
  have hWord : ¬ s.word (R.LANE_CTRL n) = w := fun hEq => by
    rw [F.LANE_CTRL_EN, flag_eq_getLsbD, hEq, hw] at hEn
    cases hEn
  rw [s.change_laneCtrl hn, if_neg hWord, cleared_laneEn, hEn, hw]
  rfl

theorem State.lanePointersZero_kept (s : State) (n : Nat) : s.Puts (s.lanePointersZero n) [R.LANE_HEAD n, R.LANE_TAIL n] :=
  .trans (.put s 0 (.head _)) (.put _ 0 (.tail _ (.head _)))

theorem State.get_lanePointersZero (s : State) (n : Nat) :
    (s.lanePointersZero n).get (F.LANE_HEAD_HEAD n) = 0 ∧ (s.lanePointersZero n).get (F.LANE_TAIL_TAIL n) = 0 := by
  obtain ⟨hApart, -⟩ := laneRegs_apart n n
  refine ⟨?_, State.get_put_laneTail _ n (by decide)⟩
  rw [State.lanePointersZero, State.get_put_addr _ _ hApart.symm, State.get_put_laneHead _ n (by decide)]

theorem laneCtrl_apart (n : Nat) : R.LANE_CTRL n ∉ [R.LANE_HEAD n, R.LANE_TAIL n] := by
  obtain ⟨-, -, -, hHead, -, -, hTail⟩ := laneRegs_apart n n
  simp [hHead, hTail]

/-- The control word as it is written. -/
theorem written_laneCtrl (s : State) {n : Nat} (hn : n < 16) (v : Word) :
    takeField (s.written (R.LANE_CTRL n) (BitVec.allOnes 32) v) 0 5 = v.toNat % 32 ∧
    takeField (s.written (R.LANE_CTRL n) (BitVec.allOnes 32) v) 1 2 = takeField v 1 2 ∧
    (s.written (R.LANE_CTRL n) (BitVec.allOnes 32) v).getLsbD 0 = v.getLsbD 0 := by
  have h := (laneWord_ctrl hn).unconditional.takeField_written (by decide) (laneStored n hn).2.2 s v
  generalize s.written (R.LANE_CTRL n) (BitVec.allOnes 32) v = w at h
  have hBit := congrArg (fun x => x.testBit 0) h
  simp only [testBit_takeField, Nat.testBit_mod_two_pow, Nat.zero_add, BitVec.testBit_toNat] at hBit
  refine ⟨h, ?_, by simpa using hBit⟩
  simp only [takeField] at h ⊢
  omega

theorem laneCtrlWrite_running (n : Fin 16) (v : Word) (s : State) (hAdmits : s.admitsSet (R.LANE_CTRL n.val) v.toNat)
    (hEn : s.flag (F.LANE_CTRL_EN n.val) = true → v.getLsbD 0 = true) :
    ∃ t, exec (.laneCtrlWrite n v) s = .next t ∧ t.lastErr = none ∧ takeField (t.word (R.LANE_CTRL n.val)) 0 5 = v.toNat % 32 ∧
      (takeField v 1 2 = takeField (s.word (R.LANE_CTRL n.val)) 1 2 → s.regsKept t [R.LANE_CTRL n.val]) ∧
      (takeField v 1 2 ≠ takeField (s.word (R.LANE_CTRL n.val)) 1 2 →
        t.get (F.LANE_HEAD_HEAD n.val) = 0 ∧ t.get (F.LANE_TAIL_TAIL n.val) = 0) ∧
      t = { s with regs := t.regs, parity := none, lastErr := none } ∧
      s.regsKept t [R.LANE_CTRL n.val, R.LANE_HEAD n.val, R.LANE_TAIL n.val] := by
  have hn := n.isLt
  obtain ⟨hWritten, hTurn, hBit⟩ := written_laneCtrl s hn v
  have hExec : exec (.laneCtrlWrite n v) s = .next (s.hostSet (R.LANE_CTRL n.val) v.toNat) := rfl
  rw [(laneWord_ctrl hn).hostWrite hAdmits, State.change_laneCtrl_running hn (by rw [hBit]; exact hEn)] at hExec
  generalize s.written (R.LANE_CTRL n.val) (BitVec.allOnes 32) v = w at hWritten hTurn hExec
  obtain ⟨hWord, hFrame, hKept⟩ := s.stored_keeps (R.LANE_CTRL n.val) w
  generalize s.stored (R.LANE_CTRL n.val) w = u at hExec hWord hFrame hKept
  have hSub : [R.LANE_CTRL n.val] ⊆ [R.LANE_CTRL n.val, R.LANE_HEAD n.val, R.LANE_TAIL n.val] := by simp
  rw [State.laneTurned, hWord, hTurn] at hExec
  by_cases hSame : takeField v 1 2 = takeField (s.word (R.LANE_CTRL n.val)) 1 2
  · rw [if_pos hSame] at hExec
    refine ⟨_, hExec, rfl, ?_, fun _ => hKept, fun h => absurd hSame h, ?_, hKept.mono hSub⟩
    · show takeField (u.word _) 0 5 = _
      rw [hWord, hWritten]
    · rw [State.settled, hFrame]
  · rw [if_neg hSame] at hExec
    obtain ⟨hZeroFrame, hZeroKept⟩ := u.lanePointersZero_kept n.val
    obtain ⟨hHead, hTail⟩ := u.get_lanePointersZero n.val
    generalize u.lanePointersZero n.val = t at hExec hZeroFrame hZeroKept hHead hTail
    refine ⟨_, hExec, rfl, ?_, fun h => absurd h hSame, fun _ => ⟨hHead, hTail⟩, ?_, (hKept.mono hSub).trans (hZeroKept.mono (by simp))⟩
    · show takeField (t.word _) 0 5 = _
      rw [hZeroKept _ (laneCtrl_apart _), hWord, hWritten]
    · rw [State.settled, hZeroFrame, hFrame]

/-- A lane without held entries that has some is cleared: TAIL goes to HEAD, and they are lost. -/
theorem State.laneClear_of_level {s : State} {n : Nat} (hLevel : s.laneLevel n ≠ 0) (hHeld : (s.lanes.get n).held = []) :
    s.laneClear n = { ((s.put (F.LANE_TAIL_TAIL n) (s.get (F.LANE_HEAD_HEAD n))).count (F.LANE_LOST n) (s.laneLevel n)).raise 28 with
      lanes := s.lanes.modify n fun l => { l with held := [] } } := by
  have hLanes : (((s.put (F.LANE_TAIL_TAIL n) (s.get (F.LANE_HEAD_HEAD n))).count (F.LANE_LOST n) (s.laneLevel n)).raise 28).lanes =
      s.lanes := by
    rw [State.raise_changes]
    rfl
  rw [State.laneClear]
  simp only [if_neg hLevel, hHeld, List.length_nil, State.laneLose, if_true]
  rw [hLanes]

/-- What clearing such a lane leaves. -/
structure State.Discards (s t : State) (n : Nat) : Prop where
  tail : t.get (F.LANE_TAIL_TAIL n) = s.get (F.LANE_HEAD_HEAD n)
  lost : t.get (F.LANE_LOST n) = min (s.get (F.LANE_LOST n) + s.laneLevel n) (2 ^ (F.LANE_LOST n).w - 1)
  event : s.occurred t 28
  lanes : ∀ m, t.lanes.get m = s.lanes.get m
  frame : t = { s with regs := t.regs, occ := t.occ, lanes := t.lanes }
  kept : s.regsKept t [R.LANE_TAIL n, R.LANE_LOST n, 0x50010]

/-- A lane that holds no entry back is not changed by forgetting what it holds back. -/
theorem lanes_clear_held {x : Table LaneState} {n : Nat} (h : (x.get n).held = []) (m : Nat) :
    (x.modify n fun l => { l with held := [] }).get m = x.get m := by
  by_cases hm : m = n
  · rw [hm, Table.get_modify_same, ← h]
  · exact Table.get_modify_ne x _ hm

theorem State.laneClear_discards {s : State} {n : Nat} (hn : n < 16) (hKind : s.kind .lane = 1) (hLevel : s.laneLevel n ≠ 0)
    (hHeld : (s.lanes.get n).held = []) : s.Discards (s.laneClear n) n := by
  rw [State.laneClear_of_level hLevel hHeld]
  obtain ⟨-, hTailLost, -, -, hTailEvt, -⟩ := laneRegs_place n hn
  obtain ⟨-, -, hAddr, hOwner⟩ := evBit_lane
  have hTailKept : s.regsKept (s.put (F.LANE_TAIL_TAIL n) (s.get (F.LANE_HEAD_HEAD n))) [R.LANE_TAIL n] := .put s _ (.head _)
  have hTailKind := hTailKept.kind (by simp only [R.CFG_PERSONALITY, R.LANE_TAIL, List.mem_singleton]; omega)
    (by simp only [R.CFG_FTG_STATE, R.LANE_TAIL, List.mem_singleton]; omega) rfl .lane
  have hTailGet := s.get_put_laneTail n (s.get_lt (F.LANE_HEAD_HEAD n))
  have hLostGet := hTailKept.get (f := F.LANE_LOST n) (mt List.mem_singleton.mp hTailLost.symm)
  have hPutFrame : s.put (F.LANE_TAIL_TAIL n) (s.get (F.LANE_HEAD_HEAD n)) =
    { s with regs := (s.put (F.LANE_TAIL_TAIL n) (s.get (F.LANE_HEAD_HEAD n))).regs } := rfl
  have hPutOcc : (s.put (F.LANE_TAIL_TAIL n) (s.get (F.LANE_HEAD_HEAD n))).occ = s.occ := rfl
  have hPutTag : (s.put (F.LANE_TAIL_TAIL n) (s.get (F.LANE_HEAD_HEAD n))).tag = s.tag := rfl
  generalize s.put (F.LANE_TAIL_TAIL n) (s.get (F.LANE_HEAD_HEAD n)) = u at *
  obtain ⟨hLost, ⟨hFlag, hOcc⟩, hFrame, hKept⟩ := State.loses_count hn hAddr hOwner (hTailKind.trans hKind) (s.laneLevel n)
  generalize (u.count (F.LANE_LOST n) (s.laneLevel n)).raise 28 = v at *
  refine ⟨?_, ?_, ⟨hFlag, ?_⟩, fun m => ?_, ?_, fun a ha => ?_⟩
  · exact (State.get_eq_of_word (f := F.LANE_TAIL_TAIL n) (hKept (R.LANE_TAIL n) (by simp [hTailLost, hTailEvt]))).trans hTailGet
  · exact hLost.trans (by rw [hLostGet])
  · exact hOcc.trans (by rw [hPutOcc, hPutTag])
  · exact lanes_clear_held hHeld m
  · rw [hFrame, hPutFrame]
  · simp only [List.mem_cons, List.not_mem_nil, or_false, not_or] at ha
    obtain ⟨hTail, hNotLost, hEvt⟩ := ha
    exact (hKept a (by simp [hNotLost, hEvt])).trans (hTailKept a (by simpa using hTail))

theorem laneCtrlWrite_stopped (n : Fin 16) (v : Word) (s : State) (hAdmits : s.admitsSet (R.LANE_CTRL n.val) v.toNat)
    (hEn : s.flag (F.LANE_CTRL_EN n.val) = true) (hv : v.getLsbD 0 = false)
    (hSame : takeField v 1 2 = takeField (s.word (R.LANE_CTRL n.val)) 1 2) (hKind : s.kind .lane = 1) (hLevel : s.laneLevel n.val ≠ 0)
    (hHeld : (s.lanes.get n.val).held = []) (h2 : n ≠ 2) (h4 : n ≠ 4) (h7 : n ≠ 7) :
    ∃ t, exec (.laneCtrlWrite n v) s = .next t ∧ t.lastErr = none ∧ takeField (t.word (R.LANE_CTRL n.val)) 0 5 = v.toNat % 32 ∧
      t.get (F.LANE_TAIL_TAIL n.val) = s.get (F.LANE_HEAD_HEAD n.val) ∧
      t.get (F.LANE_LOST n.val) = min (s.get (F.LANE_LOST n.val) + s.laneLevel n.val) (2 ^ (F.LANE_LOST n.val).w - 1) ∧
      s.occurred t 28 ∧ (∀ m, t.lanes.get m = s.lanes.get m) ∧
      t = { s with regs := t.regs, occ := t.occ, lanes := t.lanes, parity := none, lastErr := none } ∧
      s.regsKept t [R.LANE_CTRL n.val, R.LANE_TAIL n.val, R.LANE_LOST n.val, (evBit 28).addr] := by
  have hn := n.isLt
  obtain ⟨hWritten, hTurn, hBit⟩ := written_laneCtrl s hn v
  have hExec : exec (.laneCtrlWrite n v) s = .next (s.hostSet (R.LANE_CTRL n.val) v.toNat) := rfl
  rw [(laneWord_ctrl hn).hostWrite hAdmits, State.change_laneCtrl_stopped hn hEn (by rw [hBit]; exact hv)] at hExec
  generalize s.written (R.LANE_CTRL n.val) (BitVec.allOnes 32) v = w at hWritten hTurn hExec
  obtain ⟨hHeadCtrl, hSizeCtrl, hLostCtrl⟩ :
      R.LANE_HEAD n.val ≠ R.LANE_CTRL n.val ∧ R.LANE_SIZE n.val ≠ R.LANE_CTRL n.val ∧ R.LANE_LOST n.val ≠ R.LANE_CTRL n.val := by
    simp only [R.LANE_HEAD, R.LANE_SIZE, R.LANE_LOST, R.LANE_CTRL]
    omega
  have hTailCtrl : R.LANE_TAIL n.val ≠ R.LANE_CTRL n.val := by
    simp only [R.LANE_TAIL, R.LANE_CTRL]
    omega
  have hWord := s.word_setWord_same (R.LANE_CTRL n.val) w
  have hSet : s.regsKept (s.setWord (R.LANE_CTRL n.val) w) [R.LANE_CTRL n.val] := .setWord s w (.head _)
  have hFrame : s.setWord (R.LANE_CTRL n.val) w = { s with regs := (s.setWord (R.LANE_CTRL n.val) w).regs } := rfl
  generalize s.setWord (R.LANE_CTRL n.val) w = u at hExec hWord hSet hFrame
  have hHead : u.get (F.LANE_HEAD_HEAD n.val) = s.get (F.LANE_HEAD_HEAD n.val) := hSet.get (mt List.mem_singleton.mp hHeadCtrl)
  have hTailGet : u.get (F.LANE_TAIL_TAIL n.val) = s.get (F.LANE_TAIL_TAIL n.val) := hSet.get (mt List.mem_singleton.mp hTailCtrl)
  have hSize : u.get (F.LANE_SIZE n.val) = s.get (F.LANE_SIZE n.val) := hSet.get (mt List.mem_singleton.mp hSizeCtrl)
  have hULevel : u.laneLevel n.val = s.laneLevel n.val := by
    rw [State.laneLevel, State.laneLevel, State.laneSize, State.laneSize, hHead, hTailGet, hSize]
  have hUKind : u.kind .lane = s.kind .lane := hSet.kind (by simp only [R.CFG_PERSONALITY, R.LANE_CTRL, List.mem_singleton]; omega)
    (by simp only [R.CFG_FTG_STATE, R.LANE_CTRL, List.mem_singleton]; omega) (by rw [hFrame]) .lane
  have hULanes : u.lanes = s.lanes := by rw [hFrame]
  have hUOcc : u.occ = s.occ := by rw [hFrame]
  have hUTag : u.tag = s.tag := by rw [hFrame]
  obtain ⟨hTail, hLost, ⟨hFlag, hOcc⟩, hLanes, hClear, hKept⟩ := State.laneClear_discards hn (hUKind.trans hKind)
    (by rw [hULevel]; exact hLevel) (by rw [hULanes]; exact hHeld)
  have hStop : u.laneStop n.val = u.laneClear n.val := by
    have hNot : n.val ≠ 2 ∧ n.val ≠ 4 ∧ n.val ≠ 7 := ⟨fun h => h2 (Fin.ext h), fun h => h4 (Fin.ext h), fun h => h7 (Fin.ext h)⟩
    simp only [State.laneStop, hNot, if_false]
  rw [hStop] at hExec
  generalize u.laneClear n.val = t at hExec hTail hLost hFlag hOcc hLanes hClear hKept
  have hCtrl : t.word (R.LANE_CTRL n.val) = w := by
    obtain ⟨-, -, hCtrlLost, -, -, hCtrlEvt, -⟩ := laneRegs_place n.val hn
    exact (hKept _ (by simp [hTailCtrl.symm, hCtrlLost, hCtrlEvt])).trans hWord
  rw [State.laneTurned, hCtrl, hTurn, if_pos hSame] at hExec
  refine ⟨_, hExec, rfl, ?_, hTail.trans hHead, ?_, ⟨hFlag, ?_⟩, fun m => ?_, ?_, fun a ha => ?_⟩
  · show takeField (t.word _) 0 5 = _
    rw [hCtrl, hWritten]
  · refine hLost.trans ?_
    rw [hSet.get (f := F.LANE_LOST n.val) (mt List.mem_singleton.mp hLostCtrl), hULevel]
  · exact hOcc.trans (by rw [hUOcc, hUTag])
  · exact (hLanes m).trans (by rw [hULanes])
  · rw [State.settled, hClear, hFrame]
  · rw [evBit_lane.2.2.1] at ha
    simp only [List.mem_cons, List.not_mem_nil, or_false, not_or] at ha
    obtain ⟨hNotCtrl, hNotTail, hNotLost, hEvt⟩ := ha
    exact (hKept a (by simp [hNotTail, hNotLost, hEvt])).trans (hSet a (by simpa using hNotCtrl))

end Sys2Proof.Machine
end

section
/-! The entries a producer holds go into the ring while there is room (R130, R137, R138). -/

namespace Sys2Proof.Machine

open Sys2Proof

/-! ## Indices of a ring -/

/-- One more entry raises the level of a ring that is not full by one. -/
theorem ringLevel_succ {h t n : Nat} (hh : h < n) (ht : t < n) (hRoom : (h + n - t) % n + 1 < n) :
    ((h + 1) % n + n - t) % n = (h + n - t) % n + 1 := by
  have hNext : (h + 1) % n = if h + 1 = n then 0 else h + 1 := by
    split
    · next e => rw [e, Nat.mod_self]
    · exact Nat.mod_eq_of_lt (by omega)
  have hLevel : ∀ {x}, x < n → (x + n - t) % n = if t ≤ x then x - t else x + n - t := fun {x} hx => by
    split
    · next e => rw [show x + n - t = x - t + n by omega, Nat.add_mod_right, Nat.mod_eq_of_lt (by omega)]
    · exact Nat.mod_eq_of_lt (by omega)
  rw [hLevel hh] at hRoom ⊢
  rw [hLevel (Nat.mod_lt _ (by omega)), hNext]
  split at hRoom <;> split <;> split <;> omega

/-- Within one turn of a ring no index comes twice. -/
theorem ringIndex_ne {h j n : Nat} (hh : h < n) (hPos : 0 < j) (hj : j < n) : (h + j) % n ≠ h := by
  by_cases hTurn : h + j < n
  · rw [Nat.mod_eq_of_lt hTurn]
    omega
  · rw [Nat.mod_eq_sub_mod (by omega), Nat.mod_eq_of_lt (by omega)]
    omega

/-! ## One held entry (R137, R138) -/

/-- The bytes of a held entry in its slot, with LOSTBEFORE where entries were lost before it. -/
def heldBytes (lost : Bool) (e : HeldEntry) : List Byte :=
  padTo 64 (leBytes 2 e.lseq ++ if lost then e.bytes.set 1 (e.bytes.getD 1 0 ||| 4) else e.bytes)

/-- The address of the slot `j` after HEAD. -/
def State.slotAfter (s : State) (n j : Nat) : Nat := s.laneSlot n ((s.get (F.LANE_HEAD_HEAD n) + j) % s.laneSize n)

/-- The room left in the ring of lane `n`. -/
def State.laneRoom (s : State) (n : Nat) : Nat := s.laneSize n - 1 - s.laneLevel n

theorem State.laneFull_iff (s : State) (n : Nat) : s.laneFull n = true ↔ s.laneRoom n = 0 := by
  rw [State.laneFull, State.laneRoom, decide_eq_true_eq]
  omega

/-- What a held entry that is written leaves. -/
structure State.Places (s t : State) (n : Nat) (e : HeldEntry) : Prop where
  bytes : t.bytes (s.headSlot n) 64 = heldBytes (s.lanes.get n).lostBefore e
  others : s.bytesKept t (s.headSlot n) 64
  head : t.get (F.LANE_HEAD_HEAD n) = (s.get (F.LANE_HEAD_HEAD n) + 1) % s.laneSize n
  lane : t.lanes.get n = { s.lanes.get n with lostBefore := false }
  lanes : ∀ m, m ≠ n → t.lanes.get m = s.lanes.get m
  frame : t = { s with regs := t.regs, mem := t.mem, lanes := t.lanes }
  kept : s.regsKept t [R.LANE_HEAD n]

theorem State.bytes_lanes (s : State) (x : Table LaneState) (k : Nat) : ∀ a, { s with lanes := x }.bytes a k = s.bytes a k := by
  induction k with
  | zero => exact fun _ => rfl
  | succ k ih => exact fun a => by rw [State.bytes, State.bytes, ih]; rfl

theorem State.lanePlace_places {s : State} {n : Nat} (hPos : 0 < s.laneSize n) (hSize : s.laneSize n ≤ 16384)
    (hLive : ∀ i < 64, s.deadPage (s.headSlot n + i) = false) (e : HeldEntry) : s.Places (s.lanePlace n e.lseq e.bytes) n e := by
  have hPlace : s.lanePlace n e.lseq e.bytes =
      { s.laneWrite n (leBytes 2 e.lseq ++ if (s.lanes.get n).lostBefore then e.bytes.set 1 (e.bytes.getD 1 0 ||| 4) else e.bytes) with
        lanes := (s.laneWrite n (leBytes 2 e.lseq ++ if (s.lanes.get n).lostBefore then e.bytes.set 1 (e.bytes.getD 1 0 ||| 4)
          else e.bytes)).lanes.modify n fun l => { l with lostBefore := false } } := rfl
  obtain ⟨hBytes, hOthers, hHead, hFrame, hKept⟩ := State.laneWrite_enters hPos hSize hLive
    (leBytes 2 e.lseq ++ if (s.lanes.get n).lostBefore then e.bytes.set 1 (e.bytes.getD 1 0 ||| 4) else e.bytes)
  rw [hPlace]
  generalize s.laneWrite n (leBytes 2 e.lseq ++ if (s.lanes.get n).lostBefore then e.bytes.set 1 (e.bytes.getD 1 0 ||| 4)
    else e.bytes) = u at *
  have hLanes : u.lanes = s.lanes := by rw [hFrame]
  refine ⟨(u.bytes_lanes _ 64 _).trans hBytes, hOthers, hHead, ?_, fun m hm => ?_, ?_, hKept⟩
  · show (u.lanes.modify n fun l => { l with lostBefore := false }).get n = _
    rw [Table.get_modify_same, hLanes]
  · show (u.lanes.modify n fun l => { l with lostBefore := false }).get m = _
    rw [Table.get_modify_ne _ _ hm, hLanes]
  · rw [hFrame]

/-! ## All of them -/

/-- From `s` to `t` the first `k` of the entries `l` of lane `n` have gone into the ring, and the others are held. -/
structure State.Releases (s t : State) (n k : Nat) (l : List HeldEntry) : Prop where
  head : t.get (F.LANE_HEAD_HEAD n) = (s.get (F.LANE_HEAD_HEAD n) + k) % s.laneSize n
  lane : t.lanes.get n = { s.lanes.get n with held := l.drop k, lostBefore := (s.lanes.get n).lostBefore && decide (k = 0) }
  lanes : ∀ m, m ≠ n → t.lanes.get m = s.lanes.get m
  bytes : ∀ j e, j < k → l[j]? = some e →
    t.bytes (s.slotAfter n j) 64 = heldBytes (decide (j = 0) && (s.lanes.get n).lostBefore) e
  others : ∀ c, (∀ j < k, c < s.slotAfter n j ∨ s.slotAfter n j + 64 ≤ c) → t.byte c = s.byte c
  frame : t = { s with regs := t.regs, mem := t.mem, lanes := t.lanes }
  kept : s.regsKept t [R.LANE_HEAD n]

/-- Nothing goes in: the entries are held. -/
theorem State.releases_none {s : State} {n : Nat} (hHead : s.get (F.LANE_HEAD_HEAD n) < s.laneSize n) (l : List HeldEntry) :
    s.Releases { s with lanes := s.lanes.modify n fun x => { x with held := l } } n 0 l := by
  refine ⟨(Nat.mod_eq_of_lt hHead).symm, ?_, fun m hm => ?_, fun j _ hj => absurd hj (Nat.not_lt_zero j),
    fun _ _ => rfl, rfl, fun _ _ => rfl⟩
  · show (s.lanes.modify n fun x => { x with held := l }).get n = _
    rw [Table.get_modify_same]
    simp
  · show (s.lanes.modify n fun x => { x with held := l }).get m = _
    rw [Table.get_modify_ne _ _ hm]

theorem State.bytes_congr {s t : State} (k : Nat) : ∀ a, (∀ i < k, t.byte (a + i) = s.byte (a + i)) → t.bytes a k = s.bytes a k := by
  induction k with
  | zero => exact fun _ _ => rfl
  | succ k ih =>
    intro a h
    rw [State.bytes, State.bytes, ih (a + 1) fun i hi => ?_, show t.byte a = s.byte a from h 0 (Nat.succ_pos k)]
    rw [Nat.add_assoc, Nat.add_comm 1 i]
    exact h (i + 1) (Nat.succ_lt_succ hi)

/-- After one entry the slots after HEAD are those after it, and there is room for one less. -/
theorem State.Places.ring {s u : State} {n : Nat} {e : HeldEntry} (h : s.Places u n e) :
    u.laneSize n = s.laneSize n ∧ (∀ i, u.laneSlot n i = s.laneSlot n i) ∧ (∀ j, u.slotAfter n j = s.slotAfter n (j + 1)) ∧
    u.get (F.LANE_TAIL_TAIL n) = s.get (F.LANE_TAIL_TAIL n) ∧ ∀ c, u.deadPage c = s.deadPage c := by
  obtain ⟨hTailHead, hSizeHead, hBaseHead, -⟩ := laneRegs_apart n n
  have hSize : u.laneSize n = s.laneSize n := h.kept.get (f := F.LANE_SIZE n) (mt List.mem_singleton.mp hSizeHead)
  have hBase : u.get (F.LANE_BASE n) = s.get (F.LANE_BASE n) := h.kept.get (mt List.mem_singleton.mp hBaseHead)
  have hSlot : ∀ i, u.laneSlot n i = s.laneSlot n i := fun i => by rw [State.laneSlot, hBase, State.laneSlot]
  refine ⟨hSize, hSlot, fun j => ?_, h.kept.get (mt List.mem_singleton.mp hTailHead), fun c => by rw [h.frame]; rfl⟩
  rw [State.slotAfter, hSlot, h.head, hSize, Nat.mod_add_mod, Nat.add_assoc, Nat.add_comm 1 j, State.slotAfter]

theorem State.headSlot_eq_slotAfter {s : State} {n : Nat} (h : s.get (F.LANE_HEAD_HEAD n) < s.laneSize n) :
    s.slotAfter n 0 = s.headSlot n := by
  rw [State.slotAfter, Nat.add_zero, Nat.mod_eq_of_lt h, State.headSlot]

/-- The slots of the later entries lie beside HEAD's. -/
theorem State.slotAfter_apart {s : State} {n j : Nat} (h : s.get (F.LANE_HEAD_HEAD n) < s.laneSize n) (hPos : 0 < j)
    (hj : j < s.laneSize n) : s.slotAfter n j + 64 ≤ s.headSlot n ∨ s.headSlot n + 64 ≤ s.slotAfter n j := by
  have hNe := ringIndex_ne h hPos hj
  simp only [State.slotAfter, State.headSlot, State.laneSlot]
  omega

/-- One entry has gone in, and then `k` of the others. -/
theorem State.Places.releases {s u t : State} {n k : Nat} {e : HeldEntry} {l : List HeldEntry}
    (hHead : s.get (F.LANE_HEAD_HEAD n) < s.laneSize n) (hk : k + 1 < s.laneSize n) (h : s.Places u n e) (r : u.Releases t n k l) :
    s.Releases t n (k + 1) (e :: l) := by
  obtain ⟨hSize, -, hAfter, -, -⟩ := h.ring
  refine ⟨?_, ?_, fun m hm => (r.lanes m hm).trans (h.lanes m hm), fun j x hj hx => ?_, fun c hc => ?_, ?_, h.kept.trans r.kept⟩
  · rw [r.head, h.head, hSize, Nat.mod_add_mod, Nat.add_assoc, Nat.add_comm 1 k]
  · rw [r.lane, h.lane]
    simp
  · cases j with
    | zero =>
      obtain rfl : e = x := Option.some.inj hx
      rw [State.headSlot_eq_slotAfter hHead, decide_eq_true rfl, Bool.true_and, ← h.bytes]
      refine State.bytes_congr 64 _ fun i hi => r.others _ fun j hj => ?_
      rw [hAfter]
      have hApart := State.slotAfter_apart (j := j + 1) hHead (Nat.succ_pos j) (by omega)
      omega
    | succ j =>
      rw [← hAfter, r.bytes j x (by omega) hx, h.lane]
      simp
  · refine (r.others c fun j hj => ?_).trans (h.others c ?_)
    · rw [hAfter]
      exact hc (j + 1) (Nat.succ_lt_succ hj)
    · rw [← State.headSlot_eq_slotAfter hHead]
      exact hc 0 (Nat.succ_pos k)
  · rw [r.frame, h.frame]

/-- Held entries go in, the oldest first, while the ring has room (R138). -/
theorem State.laneRelease_releases {n : Nat} : ∀ (l : List HeldEntry) (s : State), s.laneSize n ≤ 16384 →
    s.get (F.LANE_HEAD_HEAD n) < s.laneSize n → s.get (F.LANE_TAIL_TAIL n) < s.laneSize n →
    (∀ j < min l.length (s.laneRoom n), ∀ i < 64, s.deadPage (s.slotAfter n j + i) = false) →
    s.Releases (s.laneRelease n l) n (min l.length (s.laneRoom n)) l
  | [], s, _, hHead, _, _ => by
    rw [List.length_nil, Nat.zero_min]
    exact State.releases_none hHead []
  | e :: l, s, hSize, hHead, hTail, hLive => by
    by_cases hFull : s.laneFull n = true
    · rw [(s.laneFull_iff n).mp hFull, Nat.min_zero, State.laneRelease, if_pos hFull]
      exact State.releases_none hHead (e :: l)
    · have hRoom : s.laneRoom n ≠ 0 := fun h => hFull ((s.laneFull_iff n).mpr h)
      have hPlaced := State.lanePlace_places (by omega) hSize (fun i hi => by
        rw [← State.headSlot_eq_slotAfter hHead]
        exact hLive 0 (by rw [List.length_cons]; omega) i hi) e
      obtain ⟨hUSize, -, hAfter, hUTail, hUDead⟩ := hPlaced.ring
      rw [State.laneRelease, if_neg hFull]
      generalize s.lanePlace n e.lseq e.bytes = u at hPlaced hUSize hAfter hUTail hUDead
      have hUHead : u.get (F.LANE_HEAD_HEAD n) < u.laneSize n := by
        rw [hPlaced.head, hUSize]
        exact Nat.mod_lt _ (by omega)
      have hURoom : s.laneRoom n = u.laneRoom n + 1 := by
        have hLevel : u.laneLevel n = s.laneLevel n + 1 := by
          rw [State.laneLevel, hPlaced.head, hUTail, hUSize]
          exact ringLevel_succ hHead hTail (by rw [State.laneRoom, State.laneLevel] at hRoom; omega)
        rw [State.laneRoom, State.laneRoom, hLevel, hUSize]
        rw [State.laneRoom] at hRoom
        omega
      have hCount : min (e :: l).length (s.laneRoom n) = min l.length (u.laneRoom n) + 1 := by
        rw [hURoom, List.length_cons]
        omega
      rw [hCount] at hLive ⊢
      refine hPlaced.releases hHead ?_ (State.laneRelease_releases l u (hUSize ▸ hSize) hUHead (by rw [hUTail, hUSize]; exact hTail)
        fun j hj i hi => ?_)
      · rw [State.laneRoom] at hURoom
        omega
      · rw [hUDead, hAfter]
        exact hLive (j + 1) (Nat.succ_lt_succ hj) i hi

end Sys2Proof.Machine
end

section
/-! The base of the tick, the entries of LANE0, and the lanes as a whole (R85, R130 to R146). -/

namespace Sys2Proof.Machine

open Sys2Proof

/-! ## The high word of the tick base (R85) -/

theorem tickBaseHi_unconditional : Unconditional R.SYS_TICK_BASE_HI := ⟨by decide, by decide, by decide⟩

theorem tickBaseHi_fieldsAt : fieldsAt R.SYS_TICK_BASE_HI = [wordField] := by decide +kernel

theorem State.hostEffect_tickBaseHi (s : State) (auth : Bool) {w : WordWrite} (hw : w.a = R.SYS_TICK_BASE_HI) (hit : Nat) :
    s.hostEffect auth .sys w hit = s.tickCommit := by
  have hBody : ¬ w.a % 65536 < 0x24 := by rw [hw]; decide
  rw [State.hostEffect, if_neg hBody]
  exact if_pos hw

theorem exec_sysTickBaseWrite {v : Word} {s : State} (h : s.admitsSet R.SYS_TICK_BASE_HI v.toNat) :
    exec (.sysTickBaseWrite v) s = .next (s.stored R.SYS_TICK_BASE_HI v).tickCommit.settled := by
  rw [State.admitsSet, BitVec.ofNat_toNat, BitVec.setWidth_eq] at h
  obtain ⟨b, hb, hWrite⟩ := State.hostWrite_of_admits h
  obtain rfl : Block.sys = b := Option.some.inj hb
  have hChange : s.change R.SYS_TICK_BASE_HI v = s.stored R.SYS_TICK_BASE_HI v := by
    have hBlock : State.onChange s (s.setWord R.SYS_TICK_BASE_HI v) R.SYS_TICK_BASE_HI = s.setWord R.SYS_TICK_BASE_HI v :=
      ite_self _
    rw [State.change, hBlock, State.stored]
  show Host.Outcome.next (s.hostSet R.SYS_TICK_BASE_HI v.toNat) = _
  rw [State.hostSet, BitVec.ofNat_toNat, BitVec.setWidth_eq, hWrite, tickBaseHi_unconditional.written_eq tickBaseHi_fieldsAt, hChange,
    State.hostEffect_tickBaseHi _ _ rfl]
  rfl

/-- On a module other than a satellite the low word waits no longer. -/
theorem State.tickCommit_of_lead {s : State} (h : s.isSat = false) : s.tickCommit = { s with link := { s.link with loWait := false } } := by
  have hSat : State.isSat { s with link := { s.link with loWait := false } } = false := h
  simp only [State.tickCommit, hSat, Bool.not_false, if_true]

/-- A satellite that has its tick does not regain it. -/
theorem State.tickRegain_of_tick {s : State} (h : s.flag F.SYS_LINK_STATE_TICKOK = true) : s.tickRegain = s := by
  rw [State.tickRegain, h]
  rfl

/-- The satellite's base has been written: it is the present one. -/
theorem State.tickCommit_of_base {s : State} (hSat : s.isSat = true) (hTick : s.flag F.SYS_LINK_STATE_TICKOK = true)
    (hBase : s.nat64 R.SYS_TICK_BASE_LO = s.link.tickTag) :
    s.tickCommit = { s with link := { s.link with loWait := false, baseOk := true } } := by
  have hSat' : (!State.isSat { s with link := { s.link with loWait := false } }) = false := congrArg (!·) hSat
  have hBase' : State.nat64 { s with link := { s.link with loWait := false } } R.SYS_TICK_BASE_LO = s.link.tickTag := hBase
  have hTick' : State.flag { s with link := { s.link with loWait := false, baseOk := true } } F.SYS_LINK_STATE_TICKOK = true := hTick
  simp only [State.tickCommit, hSat', hBase', Bool.false_eq_true, if_false, if_true]
  exact State.tickRegain_of_tick hTick'

/-- The time tag moves by the difference of the bases. -/
def State.tickMoved (s : State) (base : Nat) : State :=
  ({ s with tag := code 64 ((s.tag : Int) - s.link.tickTag + base)
            link := { s.link with loWait := false, baseOk := true, tickTag := base } }).stepped

theorem State.tickCommit_of_move {s : State} (hSat : s.isSat = true) (hTick : s.flag F.SYS_LINK_STATE_TICKOK = true)
    (hBase : s.nat64 R.SYS_TICK_BASE_LO ≠ s.link.tickTag) :
    s.tickCommit = (s.tickMoved (s.nat64 R.SYS_TICK_BASE_LO)).raise 25 := by
  have hSat' : (!State.isSat { s with link := { s.link with loWait := false } }) = false := congrArg (!·) hSat
  have hBase' : State.nat64 { s with link := { s.link with loWait := false } } R.SYS_TICK_BASE_LO = s.nat64 R.SYS_TICK_BASE_LO := rfl
  have hTick' : ((s.tickMoved (s.nat64 R.SYS_TICK_BASE_LO)).raise 25).flag F.SYS_LINK_STATE_TICKOK = true := by
    rw [State.flag_raise_ne _ _ (by decide)]
    exact hTick
  simp only [State.tickCommit, hSat', hBase', Bool.false_eq_true, if_false, if_neg hBase]
  exact State.tickRegain_of_tick hTick'

section TickBase

variable {v : Word} {s : State} (hAdmits : s.admitsSet R.SYS_TICK_BASE_HI v.toNat)

include hAdmits

theorem sysTickBaseWrite_lead (hSat : s.isSat = false) : ∃ t, exec (.sysTickBaseWrite v) s = .next t ∧ t.word R.SYS_TICK_BASE_HI = v ∧
    t = { s with regs := t.regs, link := { s.link with loWait := false }, parity := none, lastErr := none } ∧
    s.regsKept t [R.SYS_TICK_BASE_HI] := by
  obtain ⟨hWord, hFrame, hKept⟩ := s.stored_keeps R.SYS_TICK_BASE_HI v
  have hExec := exec_sysTickBaseWrite hAdmits
  generalize s.stored R.SYS_TICK_BASE_HI v = u at *
  have hUSat : u.isSat = false := by
    rw [← hSat, State.isSat, State.isSat, State.pers, State.pers, hKept.get (f := F.CFG_PERSONALITY_PERS) (by decide)]
  rw [State.tickCommit_of_lead hUSat] at hExec
  exact ⟨_, hExec, hWord, by rw [State.settled, hFrame], hKept⟩

theorem sysTickBaseWrite_satellite {base : Nat} (hSat : s.isSat = true) (hTick : s.flag F.SYS_LINK_STATE_TICKOK = true)
    (hBase : base = s.nat R.SYS_TICK_BASE_LO + 2 ^ 32 * v.toNat) :
    (base = s.link.tickTag → ∃ t, exec (.sysTickBaseWrite v) s = .next t ∧ t.word R.SYS_TICK_BASE_HI = v ∧
      t = { s with regs := t.regs, link := { s.link with loWait := false, baseOk := true }, parity := none, lastErr := none } ∧
      s.regsKept t [R.SYS_TICK_BASE_HI]) ∧
    (base ≠ s.link.tickTag → s.kind .evt = 1 → ∃ t, exec (.sysTickBaseWrite v) s = .next t ∧ t.word R.SYS_TICK_BASE_HI = v ∧
      t.tag = code 64 ((s.tag : Int) - s.link.tickTag + base) ∧ t.flag (evBit 25) = true ∧
      t.occ = s.occ ++ [(25, t.tag)] ∧
      t = { s with regs := t.regs, occ := t.occ, tag := t.tag, nav := { s.nav with steps := s.nav.steps + 1 }
                   link := { s.link with loWait := false, baseOk := true, tickTag := base }
                   parity := none, lastErr := none } ∧
      s.regsKept t [R.SYS_TICK_BASE_HI, (evBit 25).addr]) := by
  obtain ⟨hWord, hFrame, hKept⟩ := s.stored_keeps R.SYS_TICK_BASE_HI v
  have hExec := exec_sysTickBaseWrite hAdmits
  generalize s.stored R.SYS_TICK_BASE_HI v = u at *
  have hUSat : u.isSat = true := by
    rw [← hSat, State.isSat, State.isSat, State.pers, State.pers, hKept.get (f := F.CFG_PERSONALITY_PERS) (by decide)]
  have hUTick : u.flag F.SYS_LINK_STATE_TICKOK = true := (hKept.flag (by decide)).trans hTick
  have hUBase : u.nat64 R.SYS_TICK_BASE_LO = base := by
    have hHi : u.word (R.SYS_TICK_BASE_LO + 4) = v := hWord
    rw [State.nat64, State.nat, State.nat, hHi, hKept R.SYS_TICK_BASE_LO (by decide), hBase, State.nat]
  have hULink : u.link = s.link := by rw [hFrame]
  refine ⟨fun hSame => ?_, fun hMoves hKind => ?_⟩
  · rw [State.tickCommit_of_base hUSat hUTick (by rw [hUBase, hULink]; exact hSame)] at hExec
    exact ⟨_, hExec, hWord, by rw [State.settled, hFrame], hKept⟩
  · rw [State.tickCommit_of_move hUSat hUTick (by rw [hUBase, hULink]; exact hMoves), hUBase] at hExec
    have hMoved : u.tickMoved base = { s with
        regs := u.regs, tag := code 64 ((s.tag : Int) - s.link.tickTag + base), nav := { s.nav with steps := s.nav.steps + 1 }
        link := { s.link with loWait := false, baseOk := true, tickTag := base } } := by
      rw [State.tickMoved, hFrame]
      rfl
    have hMovedWord : ∀ a, (u.tickMoved base).word a = u.word a := fun _ => rfl
    generalize u.tickMoved base = m at hExec hMoved hMovedWord
    have hMKind : m.kind (evOwner 25) = 1 := by
      rw [← hKind]
      exact State.kind_congr ((hMovedWord _).trans (hKept _ (by decide))) ((hMovedWord _).trans (hKept _ (by decide)))
        (by rw [hMoved]) _
    obtain ⟨hFlag, hOcc⟩ := State.occurred_raise hMKind
    have hRaised := m.raise_changes 25
    have hRaisedKept : ∀ a, a ≠ (evBit 25).addr → (m.raise 25).word a = m.word a := fun a ha => m.word_raise_ne 25 ha
    generalize m.raise 25 = t at hExec hFlag hOcc hRaised hRaisedKept
    have hTag : t.tag = m.tag := by rw [hRaised]
    have hMTag : m.tag = code 64 ((s.tag : Int) - s.link.tickTag + base) := by rw [hMoved]
    have hMOcc : m.occ = s.occ := by rw [hMoved]
    refine ⟨_, hExec, ?_, hTag.trans hMTag, hFlag, ?_, ?_, fun a ha => ?_⟩
    · exact (hRaisedKept _ (by decide)).trans ((hMovedWord _).trans hWord)
    · exact hOcc.trans (by rw [hMOcc, ← hTag]; rfl)
    · rw [State.settled, hRaised, hMoved]
    · simp only [List.mem_cons, List.not_mem_nil, or_false, not_or] at ha
      exact (hRaisedKept a ha.2).trans ((hMovedWord a).trans (hKept a (by simpa using ha.1)))

end TickBase

/-! ## The entries of LANE0 (R145, R146) -/

theorem exec_bulkEntry_idle {s : State} (h : s.present .cfg = false ∨ s.laneIn 0 = false ∨ s.laneLevel 0 = 0) :
    exec .bulkEntry s = .next s := by
  show execBulkEntry s = _
  rw [execBulkEntry]
  by_cases hRuns : (!s.present .cfg || !s.laneIn 0) = true
  · rw [if_pos hRuns]
  · have hLevel : s.laneLevel 0 = 0 := by
      rcases h with h | h | h
      · simp [h] at hRuns
      · simp [h] at hRuns
      · exact h
    rw [if_neg hRuns, State.laneFirst, if_pos hLevel]

/-- The oldest entry of LANE0. -/
def State.bulkFirst (s : State) : List Byte := s.bytes (s.laneSlot 0 (s.get (F.LANE_TAIL_TAIL 0))) 64

/-- LANE0 past its oldest entry. -/
def State.bulkPassed (s : State) : State := s.put (F.LANE_TAIL_TAIL 0) (s.laneNext 0 (s.get (F.LANE_TAIL_TAIL 0)))

theorem exec_bulkEntry {s : State} (hCfg : s.present .cfg = true) (hIn : s.laneIn 0 = true) (hLevel : s.laneLevel 0 ≠ 0) :
    exec .bulkEntry s = .next (if s.enabled .cfg then s.bulkPassed.bulkTake s.bulkFirst else s.bulkPassed.count F.CFG_BULK_CNT_REF 1) := by
  have hEnabled : s.bulkPassed.enabled .cfg = s.enabled .cfg := State.flag_put_of_apart _ _ (.inl (by decide))
  show execBulkEntry s = _
  rw [execBulkEntry, hCfg, hIn, State.laneFirst, if_neg hLevel, ← hEnabled]
  rfl

/-- A malformed entry, or one that comes while CFG is disabled, is discarded and counted. -/
theorem exec_bulkEntry_refused {s : State} (hCfg : s.present .cfg = true) (hIn : s.laneIn 0 = true) (hLevel : s.laneLevel 0 ≠ 0)
    (h : s.enabled .cfg = false ∨ bulkWords s.bulkFirst = none) :
    exec .bulkEntry s = .next (s.bulkPassed.count F.CFG_BULK_CNT_REF 1) := by
  rw [exec_bulkEntry hCfg hIn hLevel]
  rcases h with h | h
  · rw [h]
    rfl
  · rw [State.bulkTake, h]
    exact congrArg Host.Outcome.next (ite_self _)

theorem bulkRefused_effect (s : State) : (s.bulkPassed.count F.CFG_BULK_CNT_REF 1).get (F.LANE_TAIL_TAIL 0) =
      s.laneNext 0 (s.get (F.LANE_TAIL_TAIL 0)) % 2 ^ 14 ∧
    (s.bulkPassed.count F.CFG_BULK_CNT_REF 1).get F.CFG_BULK_CNT_REF = min (s.get F.CFG_BULK_CNT_REF + 1) 0xFFFF ∧
    s.Puts (s.bulkPassed.count F.CFG_BULK_CNT_REF 1) [R.LANE_TAIL 0, R.CFG_BULK_CNT] := by
  refine ⟨?_, ?_, .trans (.put s _ (.head _)) (.count _ 1 (.tail _ (.head _)))⟩
  · rw [State.get_count_ne _ _ (by decide), State.bulkPassed, State.get_put_same _ _ _ (by decide)]
    rfl
  · rw [State.get_count16 _ _ (by decide) rfl, State.bulkPassed, State.get_put_addr _ _ (by decide)]

section BulkWords

variable {s v : State} {e : List Byte} {ws : List (Nat × Word × Word)} (hWords : bulkWords e = some ws)
  (hPage : e.getD 2 0 = 1 → leNat ((e.drop 8).take 4) % 4096 + 4 * ws.length ≤ 4096)

include hPage in
/-- The words of a BULK_WRITE stay within a page. -/
theorem bulk_within_page : (e.getD 2 0 == 1 && decide (4096 < leNat ((e.drop 8).take 4) % 4096 + 4 * ws.length)) = false := by
  rw [Bool.and_eq_false_iff]
  by_cases hType : e.getD 2 0 = 1
  · exact .inr (decide_eq_false (Nat.not_lt.mpr (hPage hType)))
  · exact .inl (beq_eq_false_iff_ne.mpr hType)

include hWords hPage

/-- No write of the entry is refused. -/
theorem State.bulkTake_done (hRun : State.hostWords false none ws 0 s = (none, v)) :
    s.bulkTake e = v.count F.CFG_BULK_CNT_OK 1 := by
  simp only [State.bulkTake, hWords, bulk_within_page hPage, Bool.false_eq_true, if_false, hRun]

/-- The write `i` of the entry is refused with the code `c`. -/
theorem State.bulkTake_stopped {c : ErrCode} {i : Nat} (hRun : State.hostWords false none ws 0 s = (some (c, i), v)) :
    s.bulkTake e = ((((v.put F.CFG_BULK_ERR_CODE c.number).put F.CFG_BULK_ERR_INDEX i).put F.CFG_BULK_ERR_LSEQ
      (leNat (e.take 2))).count F.CFG_BULK_CNT_REF 1).raise 41 := by
  simp only [State.bulkTake, hWords, bulk_within_page hPage, Bool.false_eq_true, if_false, hRun]

end BulkWords

/-! ## Producers that resume (R138) -/

theorem exec_producerResume (n : Fin 16) (s : State) : exec (.producerResume n) s = .next (
    if n = 2 then (s.producerResume n.val).chunkSettle else if n = 4 then (s.producerResume n.val).geoSettle
    else if n = 7 then (s.producerResume n.val).capHeldDone else s.producerResume n.val) := rfl

theorem laneSize_le_of_ok {k : Nat} (h : laneSizeOk k = true) : k ≤ 16384 := by
  simp only [laneSizeOk, List.contains_eq_mem, decide_eq_true_eq, List.mem_cons, List.not_mem_nil, or_false] at h
  omega

theorem State.producerResume_of_off {s : State} {n : Nat} (h : s.laneOut n = false) : s.producerResume n = s := by
  rw [State.producerResume, h]
  rfl

/-- What a producer that resumes leaves, written out. -/
theorem producerResume_effect (n : Fin 16) (h k : Nat) (x : LaneState) (s : State) (hOut : s.laneOut n.val = true)
    (hOk : laneSizeOk (s.laneSize n.val) = true) (hHead : h = s.get (F.LANE_HEAD_HEAD n.val)) (hLtHead : h < s.laneSize n.val)
    (hLtTail : s.get (F.LANE_TAIL_TAIL n.val) < s.laneSize n.val) (hx : x = s.lanes.get n.val)
    (hk : k = min x.held.length (s.laneSize n.val - 1 - s.laneLevel n.val))
    (hLive : ∀ j, j < k → ∀ i < 64, s.deadPage (s.laneSlot n.val ((h + j) % s.laneSize n.val) + i) = false) :
    ∃ t, s.producerResume n.val = t ∧ t.get (F.LANE_HEAD_HEAD n.val) = (h + k) % s.laneSize n.val ∧
      t.lanes.get n.val = { x with held := x.held.drop k, lostBefore := x.lostBefore && decide (k = 0) } ∧
      (∀ m, m ≠ n.val → t.lanes.get m = s.lanes.get m) ∧
      (∀ (j : Nat) (e : HeldEntry), j < k → x.held[j]? = some e →
        t.bytes (s.laneSlot n.val ((h + j) % s.laneSize n.val)) 64 = padTo 64 (leBytes 2 e.lseq ++
          (if j = 0 ∧ x.lostBefore = true then e.bytes.set 1 (e.bytes.getD 1 0 ||| 4) else e.bytes))) ∧
      (∀ c, (∀ j < k, c < s.laneSlot n.val ((h + j) % s.laneSize n.val) ∨
        s.laneSlot n.val ((h + j) % s.laneSize n.val) + 64 ≤ c) → t.byte c = s.byte c) ∧
      t = { s with regs := t.regs, mem := t.mem, lanes := t.lanes } ∧ s.regsKept t [R.LANE_HEAD n.val] := by
  subst hHead hx hk
  obtain ⟨hNewHead, hLane, hLanes, hBytes, hOthers, hFrame, hKept⟩ :=
    State.laneRelease_releases (s.lanes.get n.val).held s (laneSize_le_of_ok hOk) hLtHead hLtTail hLive
  have hResume : s.producerResume n.val = s.laneRelease n.val (s.lanes.get n.val).held := if_pos hOut
  refine ⟨_, hResume, hNewHead, hLane, hLanes, fun j e hj he => (hBytes j e hj he).trans ?_, hOthers, hFrame, hKept⟩
  simp only [heldBytes, Bool.and_eq_true, decide_eq_true_eq]

/-- Settles O21, clause by clause. -/
theorem lanePointersAndProducersMove : Obligations.LanePointersAndProducersMove := by
  refine ⟨laneHeadWrite_effect, fun n v s hAdmits => laneTailWrite_effect n v s hAdmits, laneCtrlWrite_running, laneCtrlWrite_stopped,
    fun v s hSat hAdmits => sysTickBaseWrite_lead hAdmits hSat,
    fun v base s hSat hTick hAdmits hBase => sysTickBaseWrite_satellite hAdmits hSat hTick hBase,
    exec_producerResume, fun n s hOut => State.producerResume_of_off hOut,
    fun n h k x s hOut hOk hFits hHead hLtHead hLtTail hx hk hLive =>
      producerResume_effect n h k x s hOut hOk hHead hLtHead hLtTail hx hk hLive,
    fun s h => exec_bulkEntry_idle h, fun s hCfg hIn hLevel h => ?_,
    fun ws e s u v hCfg hOn hIn hLevel he hWords hPage hu => ?_⟩
  · obtain ⟨hTail, hCount, hFrame, hKept⟩ := bulkRefused_effect s
    exact ⟨_, exec_bulkEntry_refused hCfg hIn hLevel h, hTail, hCount, hFrame, hKept⟩
  · subst he hu
    have hExec : exec .bulkEntry s = .next (s.bulkPassed.bulkTake s.bulkFirst) := by
      rw [exec_bulkEntry hCfg hIn hLevel, if_pos hOn]
    exact ⟨fun hRun => by rw [hExec]; exact congrArg Host.Outcome.next (State.bulkTake_done hWords hPage hRun),
      fun c i hRun => by rw [hExec]; exact congrArg Host.Outcome.next (State.bulkTake_stopped hWords hPage hRun)⟩

end Sys2Proof.Machine
end

section
/-! Canonical form (R36, R94): the operations on state keep DRAM and the register file canonical.
Every lemma follows its operation, branch by branch, through the lemmas of what it calls. -/

namespace Sys2Proof.Machine

open Sys2Proof

/-- DRAM and the register file are in their canonical form. -/
structure State.Canonical (s : State) : Prop where
  mem : Memory.wf s.mem = true
  regs : Registers.wf s.regs = true

theorem State.canonical_iff {s : State} : s.canonical = true ↔ s.Canonical := by
  rw [State.canonical, Bool.and_eq_true]
  exact ⟨fun ⟨hMem, hRegs⟩ => ⟨hMem, hRegs⟩, fun ⟨hMem, hRegs⟩ => ⟨hMem, hRegs⟩⟩

namespace State.Canonical

variable {s t : State}

/-- What touches neither DRAM nor registers keeps their form. -/
theorem frame (h : s.Canonical) (hMem : t.mem = s.mem) (hRegs : t.regs = s.regs) :
    t.Canonical :=
  ⟨hMem ▸ h.mem, hRegs ▸ h.regs⟩

theorem ite {c : Prop} [Decidable c] (hs : s.Canonical) (ht : t.Canonical) :
    (if c then s else t).Canonical := by
  split
  · exact hs
  · exact ht

theorem with_clk_tag_nav {x y z} (h : s.Canonical) :
    State.Canonical { s with clk := x, tag := y, nav := z } := h.frame rfl rfl

theorem with_dieBFail_failed {x y} (h : s.Canonical) :
    State.Canonical { s with dieBFail := x, failed := y } := h.frame rfl rfl

theorem with_failed {x} (h : s.Canonical) : State.Canonical { s with failed := x } := h.frame rfl rfl

theorem with_fresh {x} (h : s.Canonical) : State.Canonical { s with fresh := x } := h.frame rfl rfl

theorem with_gnss {x} (h : s.Canonical) : State.Canonical { s with gnss := x } := h.frame rfl rfl

theorem with_hsw {x} (h : s.Canonical) : State.Canonical { s with hsw := x } := h.frame rfl rfl

theorem with_hswGen {x} (h : s.Canonical) : State.Canonical { s with hswGen := x } := h.frame rfl rfl

theorem with_hswVhs {x} (h : s.Canonical) : State.Canonical { s with hswVhs := x } := h.frame rfl rfl

theorem with_lanes {x} (h : s.Canonical) : State.Canonical { s with lanes := x } := h.frame rfl rfl

theorem with_lastErr {x} (h : s.Canonical) : State.Canonical { s with lastErr := x } := h.frame rfl rfl

theorem with_lastErr_parity {x y} (h : s.Canonical) :
    State.Canonical { s with lastErr := x, parity := y } := h.frame rfl rfl

theorem with_link {x} (h : s.Canonical) : State.Canonical { s with link := x } := h.frame rfl rfl

theorem with_occ {x} (h : s.Canonical) : State.Canonical { s with occ := x } := h.frame rfl rfl

theorem with_parity {x} (h : s.Canonical) : State.Canonical { s with parity := x } := h.frame rfl rfl

theorem with_plb {x} (h : s.Canonical) : State.Canonical { s with plb := x } := h.frame rfl rfl

theorem with_plbMis {x} (h : s.Canonical) : State.Canonical { s with plbMis := x } := h.frame rfl rfl

theorem with_pwr {x} (h : s.Canonical) : State.Canonical { s with pwr := x } := h.frame rfl rfl

theorem with_pwr_sec {x y} (h : s.Canonical) :
    State.Canonical { s with pwr := x, sec := y } := h.frame rfl rfl

theorem with_shadow {x} (h : s.Canonical) : State.Canonical { s with shadow := x } := h.frame rfl rfl

theorem with_sol_hsw {x y} (h : s.Canonical) :
    State.Canonical { s with sol := x, hsw := y } := h.frame rfl rfl

theorem with_tag {x} (h : s.Canonical) : State.Canonical { s with tag := x } := h.frame rfl rfl

theorem with_tag_link {x y} (h : s.Canonical) :
    State.Canonical { s with tag := x, link := y } := h.frame rfl rfl

theorem with_tag_nav {x y} (h : s.Canonical) :
    State.Canonical { s with tag := x, nav := y } := h.frame rfl rfl

theorem setWord {a w} (h : s.Canonical) : (s.setWord a w).Canonical :=
  ⟨h.mem, Table.write_wf resetWord a w s.regs h.regs⟩

theorem put {f v} (h : s.Canonical) : (s.put f v).Canonical :=
  h.setWord

theorem putSat {f v} (h : s.Canonical) : (s.putSat f v).Canonical :=
  h.put

theorem puts {f i} (h : s.Canonical) : (s.puts f i).Canonical :=
  h.put

theorem putB {f b} (h : s.Canonical) : (s.putB f b).Canonical :=
  h.put

theorem count {f k} (h : s.Canonical) : (s.count f k).Canonical :=
  h.putSat

theorem setNat {a v} (h : s.Canonical) : (s.setNat a v).Canonical :=
  h.setWord

theorem setInt {a i} (h : s.Canonical) : (s.setInt a i).Canonical :=
  h.setNat

theorem setNat64 {a v} (h : s.Canonical) : (s.setNat64 a v).Canonical :=
  h.setNat.setNat

theorem setInt64 {a i} (h : s.Canonical) : (s.setInt64 a i).Canonical :=
  h.setNat64

theorem setWords {ws a} (h : s.Canonical) : (s.setWords a ws).Canonical := by
  induction ws generalizing s a with
  | nil => exact h
  | cons w ws ih => exact ih h.setWord

theorem setByte {a b} (h : s.Canonical) : (s.setByte a b).Canonical := by
  refine ⟨?_, h.regs⟩
  unfold State.setByte
  dsimp only
  split
  · exact h.mem
  · exact Table.write_wf (fun _ => 0) a b s.mem h.mem

theorem setBytes {bs a} (h : s.Canonical) : (s.setBytes a bs).Canonical := by
  induction bs generalizing s a with
  | nil => exact h
  | cons b bs ih => exact ih h.setByte

theorem setDram {a w} (h : s.Canonical) : (s.setDram a w).Canonical :=
  h.setBytes

theorem raise {e} (h : s.Canonical) : (s.raise e).Canonical :=
  ite h.put.with_occ h

theorem raiseFailed {e} (h : s.Canonical) : (s.raiseFailed e).Canonical :=
  ite h.put.with_occ h.raise

theorem raiseIf {c e} (h : s.Canonical) : (s.raiseIf c e).Canonical :=
  ite h.raise h

theorem free {w} (h : s.Canonical) : (s.free w).2.Canonical :=
  h.frame rfl rfl

theorem random (h : s.Canonical) : s.random.2.Canonical :=
  h.frame rfl rfl

theorem fit {w i} (h : s.Canonical) : (s.fit w i).2.Canonical := by
  unfold State.fit
  split
  · exact h
  · dsimp only
    exact h.free

theorem putFit {f i} (h : s.Canonical) : (s.putFit f i).Canonical :=
  h.fit.puts

theorem stamp {kind inst} (h : s.Canonical) : (s.stamp kind inst).Canonical :=
  h.frame rfl rfl

theorem each {α : Type} {l : List α} {f : State → α → State} (h : s.Canonical)
    (hf : ∀ u x, u.Canonical → (f u x).Canonical) : (s.each l f).Canonical :=
  List.foldlRecOn l f h fun u hu x _ => hf u x hu

theorem when {c} {f : State → State} (h : s.Canonical) (hf : ∀ u, u.Canonical → (f u).Canonical) :
    (s.when c f).Canonical :=
  ite (hf s h) h

end State.Canonical

end Sys2Proof.Machine
end

section
/-! Canonical form: lanes, encoders and analogue inputs. -/

namespace Sys2Proof.Machine.State.Canonical

open Sys2Proof

variable {s t : State}

theorem laneWrite {n bytes} (h : s.Canonical) : (s.laneWrite n bytes).Canonical :=
  ite h.setBytes.put.count.raise h.setBytes.put

theorem laneDead {n h} (hs : s.Canonical) : (s.laneDead n h).Canonical :=
  ite hs hs.count.raise

theorem laneLose {n k} (h : s.Canonical) : (s.laneLose n k).Canonical :=
  ite h h.count.raise.with_lanes

theorem lanePlace {n q t} (h : s.Canonical) : (s.lanePlace n q t).Canonical :=
  h.laneWrite.with_lanes

theorem laneEmit {n t} (h : s.Canonical) : (s.laneEmit n t).2.Canonical := by
  unfold State.laneEmit
  dsimp only
  split
  · dsimp only
    exact h.with_lanes.laneLose
  · split
    · split
      · dsimp only
        exact h.with_lanes.with_lanes
      · dsimp only
        exact h.with_lanes.laneLose
    · dsimp only
      exact h.with_lanes.lanePlace

theorem laneDrop {n} (h : s.Canonical) : (s.laneDrop n).Canonical :=
  h.with_lanes.laneLose

theorem laneRest {m n first dropped} (h : s.Canonical) :
    (s.laneRest n first dropped m).Canonical := by
  induction m generalizing s first dropped with
  | nil => exact h
  | cons e m ih =>
    unfold State.laneRest
    split
    · exact ih h.laneDrop
    · exact ih h.laneEmit

theorem laneProduce {n m} (h : s.Canonical) : (s.laneProduce n m).Canonical :=
  h.laneRest

theorem laneRelease {l n} (h : s.Canonical) : (s.laneRelease n l).Canonical := by
  induction l generalizing s with
  | nil => exact h.frame rfl rfl
  | cons e l ih => exact ite (h.frame rfl rfl) (ih h.lanePlace)

theorem laneSkip {k n} (h : s.Canonical) : (s.laneSkip n k).Canonical := by
  induction k generalizing s with
  | zero => exact h
  | succ k ih => exact ite (ih h.put) h

theorem laneFirst {n} (h : s.Canonical) : (s.laneFirst n).2.Canonical := by
  unfold State.laneFirst
  split
  · exact h
  · dsimp only
    exact h.put

theorem laneTake {n} (h : s.Canonical) : (s.laneTake n).2.Canonical :=
  h.laneSkip.laneFirst

theorem lanePopUpTo {k n} (h : s.Canonical) : (s.lanePopUpTo n k).2.Canonical := by
  induction k generalizing s with
  | zero => exact h
  | succ k ih =>
    have hTake : (s.laneTake n).2.Canonical := h.laneTake
    unfold State.lanePopUpTo
    split
    next hNone => rw [hNone] at hTake; exact hTake
    next hSome => rw [hSome] at hTake; exact ih hTake

theorem laneConsume {n} (h : s.Canonical) : (s.laneConsume n).2.Canonical := by
  unfold State.laneConsume
  split
  · exact h.laneTake
  · exact h

theorem laneClear {n} (h : s.Canonical) : (s.laneClear n).Canonical :=
  (ite h.put h.put.count.raise).with_lanes.laneLose

theorem producerResume {n} (h : s.Canonical) : (s.producerResume n).Canonical :=
  ite h.laneRelease h

theorem modEnc {n f} (h : s.Canonical) : (s.modEnc n f).Canonical :=
  h.frame rfl rfl

theorem modSsi {n f} (h : s.Canonical) : (s.modSsi n f).Canonical :=
  h.frame rfl rfl

theorem modEmu {n f} (h : s.Canonical) : (s.modEmu n f).Canonical :=
  h.frame rfl rfl

theorem modAin {n f} (h : s.Canonical) : (s.modAin n f).Canonical :=
  h.frame rfl rfl

theorem modFus {f} (h : s.Canonical) : (s.modFus f).Canonical :=
  h.frame rfl rfl

theorem cmpEval {n k} (h : s.Canonical) : (s.cmpEval n k).Canonical :=
  h.putB

theorem encHold {n} (h : s.Canonical) : (s.encHold n).Canonical :=
  ite h.setInt h

theorem limitNote {n moved} (h : s.Canonical) : (s.limitNote n moved).Canonical :=
  h.raiseIf.putB

theorem jumpNote {n} (h : s.Canonical) : (s.jumpNote n).Canonical :=
  h.frame rfl rfl

theorem encJumped {n p} (h : s.Canonical) : (s.encJumped n p).Canonical :=
  h.encHold.stamp.jumpNote.limitNote.each (fun _ _ hu => ite hu.cmpEval hu)

theorem cmpFire {n k} (h : s.Canonical) : (s.cmpFire n k).Canonical :=
  ite h.setNat64.put.raiseIf h.setNat64.put.raiseIf.put

theorem cmpCross {n d} (h : s.Canonical) : (s.cmpCross n d).Canonical :=
  h.each (fun _ _ hu => ite hu.cmpFire hu)

theorem encMove {n d} (h : s.Canonical) : (s.encMove n d).Canonical :=
  (ite h h.setInt.cmpCross.stamp).limitNote

theorem encStill {n} (h : s.Canonical) : (s.encStill n).Canonical :=
  h.put.setNat

theorem encOpen {n st} (h : s.Canonical) : (s.encOpen n st).Canonical :=
  h.put.setNat.modEnc

theorem encLatch {n} (h : s.Canonical) : (s.encLatch n).Canonical :=
  h.modEnc

theorem encWindow {n} (h : s.Canonical) : (s.encWindow n).Canonical :=
  h.fit.setInt.setNat64.put.modEnc.encLatch.stamp

theorem encCount {n d0} (h : s.Canonical) : (s.encCount n d0).Canonical :=
  have h1 : State.Canonical _ := (ite h.encWindow h).encMove
  (ite h1.encLatch.encOpen (ite h1.encOpen h1.modEnc)).putB.modEnc

theorem eotWatch (h : s.Canonical) : s.eotWatch.Canonical :=
  h.frame rfl rfl

theorem encLevels {n a b} (h : s.Canonical) : (s.encLevels n a b).Canonical :=
  ite h.modEnc.eotWatch (ite h.modEnc.eotWatch.count.put
    (h.modEnc.eotWatch.each (fun _ _ hu => hu.encCount)))

theorem encZ {n} (h : s.Canonical) : (s.encZ n).Canonical := by
  unfold State.encZ
  dsimp only
  split
  · exact h
  · split
    · exact h.setNat
    · exact ite h.setNat.encJumped.modEnc h
    · exact h.setNat.encJumped
    · exact h

theorem encBad {n lines} (h : s.Canonical) : (s.encBad n lines).Canonical :=
  ite h (ite h.put.modEnc.encStill.raise.put h.put.modEnc)

theorem encVio {n} (h : s.Canonical) : (s.encVio n).Canonical :=
  ite h h.encBad

theorem ssiDone {n low data again} (h : s.Canonical) : (s.ssiDone n low data again).Canonical :=
  ite h.modSsi.setNat.setNat64.put.modSsi.stamp (ite h.modSsi.count.put.modSsi.put.modSsi.raise
    h.modSsi.count.put.modSsi)

theorem emuStep {n} (h : s.Canonical) : (s.emuStep n).Canonical :=
  ite h.setNat.modEmu h.raiseIf.putB.put.modEmu

theorem ainRange {n} (h : s.Canonical) : (s.ainRange n).Canonical :=
  ite h.modAin.put.raise (ite h.modAin.put h.modAin)

theorem ainOpen {n} (h : s.Canonical) : (s.ainOpen n).Canonical :=
  ite h.modAin.put.raise (ite h.modAin.put h.modAin)

theorem ainFilter {n x} (h : s.Canonical) : (s.ainFilter n x).Canonical :=
  h.modAin.put.setInt.stamp.eotWatch

theorem ainSample {n x high} (h : s.Canonical) : (s.ainSample n x high).Canonical :=
  ite h (ite h.modAin.put.raise.modAin (ite h.modAin.ainFilter.ainRange.ainOpen
    h.modAin.ainFilter.ainRange))

theorem fusShow {k} (h : s.Canonical) : (s.fusShow k).Canonical :=
  h.fit.putB.puts.put

theorem fusNone (h : s.Canonical) : s.fusNone.Canonical :=
  (ite h h.count).put.put.put.put.modFus.raiseIf

theorem fusJudge {vs} (h : s.Canonical) : (s.fusJudge vs).Canonical :=
  ite h.modFus.put (ite h.modFus.put.raise h.modFus)

theorem fuse (h : s.Canonical) : s.fuse.Canonical :=
  ite (h.each (fun _ _ hu => hu.fusShow)).fusNone.fusJudge
    (have h1 : State.Canonical _ := ite (h.each (fun _ _ hu => hu.fusShow)).count
       (h.each (fun _ _ hu => hu.fusShow))
     (ite h1.modFus h1).modFus.putFit.put.put.putB.fusJudge)

theorem fbkDisable (h : s.Canonical) : s.fbkDisable.Canonical :=
  (((h.each (fun _ _ hu => hu.encStill)).each (fun _ _ hu => hu.put)).count.each
    (fun _ _ hu => hu.setNat.modEmu)).fusNone

end Sys2Proof.Machine.State.Canonical
end

section
/-! Canonical form: receiver channels, snapshots and time. -/

namespace Sys2Proof.Machine.State.Canonical

open Sys2Proof

variable {s t : State}

theorem modCh {n f} (h : s.Canonical) : (s.modCh n f).Canonical :=
  h.frame rfl rfl

theorem modGnss {f} (h : s.Canonical) : (s.modGnss f).Canonical :=
  h.frame rfl rfl

theorem chLeave {n st why} (h : s.Canonical) : (s.chLeave n st why).Canonical :=
  h.put.put

theorem chAcqAt {n c} (h : s.Canonical) : (s.chAcqAt n c).Canonical :=
  h.put.put.modCh

theorem chReacq {n} (h : s.Canonical) : (s.chReacq n).Canonical :=
  h.chAcqAt

theorem chAcq {n} (h : s.Canonical) : (s.chAcq n).Canonical :=
  h.chAcqAt

theorem chRun {t n} (h : s.Canonical) : (s.chRun t n).Canonical :=
  h.modCh

theorem chTrackPhase {n} (h : s.Canonical) : (s.chTrackPhase n).Canonical :=
  h.free.modCh

theorem chLoop {n} (h : s.Canonical) : (s.chLoop n).Canonical :=
  h.modCh

theorem chPullin {n} (h : s.Canonical) : (s.chPullin n).Canonical :=
  h.put.put.modCh

theorem chSignal {n sig prn} (h : s.Canonical) : (s.chSignal n sig prn).Canonical :=
  h.put.put.put

theorem chNextCandidate {n vis} (h : s.Canonical) : (s.chNextCandidate n vis).Canonical := by
  unfold State.chNextCandidate
  dsimp only
  split
  · exact h.chSignal.modCh
  · split
    · exact h.chSignal.modCh
    · exact h

theorem chFirst {n vis} (h : s.Canonical) : (s.chFirst n vis).Canonical := by
  unfold State.chFirst
  split
  · exact h.chAcq.chSignal.modCh.chNextCandidate
  · exact h.chAcq.chSignal
  · exact h.put.put.chSignal
  · exact h.put

theorem chHostChange {n vis} (h : s.Canonical) : (s.chHostChange n vis).Canonical :=
  (ite h.put h).setNat.setNat.chFirst.modCh

theorem chSuspend {n} (h : s.Canonical) : (s.chSuspend n).Canonical :=
  ite h.chLeave.modCh h

theorem chSeek {n vis} (h : s.Canonical) : (s.chSeek n vis).Canonical :=
  ite h.chNextCandidate h

theorem chDump {vis n} (h : s.Canonical) : (s.chDump vis n).Canonical :=
  ite h (ite h.chHostChange (ite h.chReacq.chSeek.modCh
    (ite h.put (ite h.chSuspend (h.when (fun _ hu => hu.count)).chSeek))))

theorem chObserve {vis o} (h : s.Canonical) : (s.chObserve vis o).Canonical := by
  unfold State.chObserve
  dsimp only
  split
  · exact h
  · split
    · exact h.put.put
    · split
      · exact ite (h.put.put.setWord.setWord.when (fun _ hu => hu.setWord)).chPullin.setInt.modCh
          (ite (h.put.put.setWord.setWord.when (fun _ hu => hu.setWord)).chNextCandidate
          (h.put.put.setWord.setWord.when (fun _ hu => hu.setWord)))
      · exact (h.put.put.setWord.setWord.when (fun _ hu => hu.setWord)).when
          (fun _ hu => hu.count.modCh)
      · exact h.put.put.setWord.setWord.when (fun _ hu => hu.setWord)

theorem snapBreak (h : s.Canonical) : s.snapBreak.Canonical :=
  ite h.with_gnss h

theorem snapJam (h : s.Canonical) : s.snapJam.Canonical :=
  ite h.with_gnss h

theorem snapFirst {t sub} (h : s.Canonical) : (s.snapFirst t sub).Canonical := by
  unfold State.snapFirst
  exact h.setNat64.put.modGnss

theorem snapGo (h : s.Canonical) : s.snapGo.Canonical := by
  unfold State.snapGo
  exact h.put.put.put.put.modGnss

theorem snapOver (h : s.Canonical) : s.snapOver.Canonical :=
  h.put.put.with_gnss

theorem snapProcess (h : s.Canonical) : s.snapProcess.Canonical := by
  unfold State.snapProcess
  exact h.put.put.modGnss

theorem snapCaptureEnd {pages t0 sub data} (h : s.Canonical) :
    (s.snapCaptureEnd pages t0 sub data).Canonical :=
  (ite (h.each (fun _ _ hu => hu.setBytes)).snapFirst
    (h.each (fun _ _ hu => hu.setBytes))).put.putB.raise.snapOver

theorem snapDrainStart (h : s.Canonical) : s.snapDrainStart.Canonical :=
  h.put.put.with_gnss

theorem drainEntry {d} (h : s.Canonical) : (s.drainEntry d).Canonical :=
  h.laneEmit

theorem drainNext (h : s.Canonical) : s.drainNext.Canonical := by
  unfold State.drainNext
  split
  · exact h
  · exact ite h.modGnss h.drainEntry.modGnss

theorem drainAll {k} (h : s.Canonical) : (s.drainAll k).Canonical := by
  induction k generalizing s with
  | zero => exact h
  | succ k ih => exact ite h (ih h.drainNext)

theorem snapResult {path x} (h : s.Canonical) : (s.snapResult path x).Canonical :=
  h.setWords

theorem snapProcessEnd {found} (h : s.Canonical) : (s.snapProcessEnd found).Canonical :=
  ((h.each (fun _ _ hu => hu.setWords)).each (fun _ _ hu => hu.snapResult)).put.raise.snapOver

theorem antShort {a} (h : s.Canonical) : (s.antShort a).Canonical :=
  h.put.raise.each (fun _ _ hu => hu.chSuspend)

theorem antSample {a ma} (h : s.Canonical) : (s.antSample a ma).Canonical :=
  ite h.put.with_gnss (ite h.put.with_gnss (ite h.put.with_gnss.antShort
    (ite h.put.with_gnss.put.raiseIf (ite h.put.with_gnss.put
    (h.put.with_gnss.when (fun _ hu => hu.put))))))

theorem agcPath {pg} (h : s.Canonical) : (s.agcPath pg).Canonical :=
  ite h.with_gnss (ite h.put.put.modGnss.raise.snapJam h.put.put.modGnss)

theorem judgeJam (h : s.Canonical) : s.judgeJam.Canonical :=
  ite (h.when (fun _ hu => hu.put)) (ite h.put.raise.snapJam h)

theorem lockTrack {n o} (h : s.Canonical) : (s.lockTrack n o).Canonical :=
  ite h.modCh (ite h.modCh h.chLeave.put.setNat.count.count.modCh.raise)

theorem lockPullin {n o} (h : s.Canonical) : (s.lockPullin n o).Canonical :=
  ite h (ite h.put.modCh (ite h.modCh.put.put.setNat.modCh.chTrackPhase h.modCh))

theorem lockRecover {n o} (h : s.Canonical) : (s.lockRecover n o).Canonical :=
  ite h.modCh.chPullin h.modCh

theorem lockAssess {o} (h : s.Canonical) : (s.lockAssess o).Canonical := by
  unfold State.lockAssess
  dsimp only
  split
  · exact (ite h.put h).lockPullin
  · exact (ite h.put h).lockTrack
  · exact (ite h.put h).lockRecover
  · exact ite h.put h

theorem gnssDisable (h : s.Canonical) : s.gnssDisable.Canonical :=
  ((ite h.count.snapBreak.modGnss (ite h.count.snapBreak.snapOver h.count.snapBreak)).each
    (fun _ _ hu => (ite hu.chLeave hu.put).modCh)).put.put

theorem gnssEnable (h : s.Canonical) : s.gnssEnable.Canonical :=
  h.each (fun _ _ hu => (ite hu.put (ite hu.chAcq hu.chFirst)).modCh)

theorem gnssStop (h : s.Canonical) : s.gnssStop.Canonical :=
  (h.each (fun _ _ hu => (ite hu.put hu).put.setNat)).with_gnss.snapBreak

theorem gnssReturn (h : s.Canonical) : s.gnssReturn.Canonical := by
  refine ite (with_gnss (h.each fun u n hu => ?_)) h
  split
  · split
    · split
      · exact hu.put
      · exact hu.put
      · exact hu.chReacq
    · exact hu.put
  · exact hu

theorem chWritten {n sig} (h : s.Canonical) : (s.chWritten n sig).Canonical :=
  ite h.modCh h

theorem vantShow (h : s.Canonical) : s.vantShow.Canonical :=
  ite h.putB h

theorem modStr {f} (h : s.Canonical) : (s.modStr f).Canonical :=
  h.frame rfl rfl

theorem modPt {p f} (h : s.Canonical) : (s.modPt p f).Canonical :=
  h.modStr

theorem modSat {a f} (h : s.Canonical) : (s.modSat a f).Canonical :=
  h.modStr

theorem strideStep (h : s.Canonical) : s.strideStep.Canonical := by
  unfold State.strideStep
  exact h.with_sol_hsw.modStr

theorem modNav {f} (h : s.Canonical) : (s.modNav f).Canonical :=
  h.frame rfl rfl

theorem enterHoldover {tq rate} (h : s.Canonical) : (s.enterHoldover tq rate).Canonical :=
  h.put.put.modNav.raise

theorem navFallback (h : s.Canonical) : s.navFallback.Canonical :=
  ite h.enterHoldover h

theorem navXoBack (h : s.Canonical) : s.navXoBack.Canonical :=
  ite h.put.modNav.raise h

theorem startSlew {r} (h : s.Canonical) : (s.startSlew r).Canonical :=
  h.putB.modNav

theorem stepped (h : s.Canonical) : s.stepped.Canonical :=
  h.modNav

theorem timeReturn {e} (h : s.Canonical) : (s.timeReturn e).Canonical :=
  ite h.put.startSlew (ite h.put.with_tag.startSlew.stepped.put.put.raise.strideStep
    h.put.put.startSlew.modNav.stepped.put.put.raise.strideStep)

theorem timeSolution {x} (h : s.Canonical) : (s.timeSolution x).Canonical := by
  unfold State.timeSolution
  extract_lets s1 s2 s3 s4 next s5 s6
  have h2 : s2.Canonical := h.setInt.setInt.modNav
  have h3 : s3.Canonical := by
    dsimp only [s3]
    split
    · exact h2.put.put
    · exact h2
  have h5 : s5.Canonical := h3.modNav
  suffices h6 : s6.Canonical from h6.modNav
  dsimp only [s6]
  split
  · exact h3.with_tag.put.modNav.stepped.strideStep
  · exact h3.modNav
  · exact ite h5.timeReturn.modNav h5

theorem judgeAge {epoch} (h : s.Canonical) : (s.judgeAge epoch).Canonical := by
  unfold State.judgeAge
  split
  · exact h
  · exact h.put.raiseIf.modNav

theorem takeSolution {x} (h : s.Canonical) : (s.takeSolution x).Canonical :=
  have h1 : State.Canonical _ := h.judgeAge.modNav.raiseIf.raiseIf.putSat.putSat
  ite (ite h1.putSat.puts h1).modNav (ite h1.putSat.puts h1).setNat64.put.put.modNav.timeSolution

theorem measureEpoch {meas} (h : s.Canonical) : (s.measureEpoch meas).Canonical :=
  (ite h.laneProduce h).each (fun _ _ hu => hu.modCh)

theorem rtcmStation {id} (h : s.Canonical) : (s.rtcmStation id).Canonical :=
  ite h h.setNat.put.setWords.modNav

theorem rtcmMessage {p} (h : s.Canonical) : (s.rtcmMessage p).Canonical := by
  unfold State.rtcmMessage
  dsimp only
  split
  · exact h.rtcmStation.setInt64.setInt64.setInt64.put.count
  · split
    · exact h
    · split
      · split
        · exact h.rtcmStation
        · split
          · exact ite h.rtcmStation h.rtcmStation.modNav.count
          · exact h.rtcmStation.modNav.count
      · exact h.count

theorem rtcmBad (h : s.Canonical) : s.rtcmBad.Canonical :=
  h.count.raise

theorem rtcmFrames {k b} (h : s.Canonical) : (s.rtcmFrames k b).Canonical := by
  induction k generalizing s b with
  | zero => exact h.frame rfl rfl
  | succ k ih =>
    cases b with
    | nil => exact h.frame rfl rfl
    | cons b0 t =>
      exact ite (ih h) (ite (h.frame rfl rfl) (ite (ih h.rtcmBad)
        (ite (h.frame rfl rfl) (ih (ite h.rtcmMessage h.rtcmBad)))))

theorem rtcmCut (h : s.Canonical) : s.rtcmCut.Canonical :=
  h.when (fun _ hu => hu.rtcmBad.modNav)

theorem rtcmEntry (h : s.Canonical) : s.rtcmEntry.Canonical := by
  have hTake : ∀ c, ((s.when c State.rtcmCut).laneConsume 6).2.Canonical := fun c =>
    (h.when fun _ hu => hu.rtcmCut).laneConsume
  unfold State.rtcmEntry
  extract_lets cut
  specialize hTake cut
  split
  next hNone => rw [hNone] at hTake; exact hTake
  next hSome =>
    rw [hSome] at hTake
    exact ite hTake.count (ite hTake.count (ite hTake.rtcmBad.modNav hTake.rtcmFrames))

theorem imuSample {raw} (h : s.Canonical) : (s.imuSample raw).Canonical :=
  ite h.modNav.count h.modNav.modNav

theorem headingWatch {ab} (h : s.Canonical) : (s.headingWatch ab).Canonical :=
  h.modNav.raiseIf

theorem poseHeading {x yaw} (h : s.Canonical) : (s.poseHeading x yaw).2.Canonical := by
  unfold State.poseHeading
  extract_lets turn fresh l ab cog s1
  have h1 : s1.Canonical := h.headingWatch
  split
  · dsimp only
    exact h1.modNav
  split
  · dsimp only
    exact h1.modNav
  split
  · dsimp only
    exact h1.modNav
  · exact h1

theorem blendStep {lat lon hgt} (h : s.Canonical) : (s.blendStep lat lon hgt).Canonical := by
  unfold State.blendStep
  exact h.setInt64.setInt64.setInt.modNav

theorem posePosition {x src pitch roll yaw} (h : s.Canonical) :
    (s.posePosition x src pitch roll yaw).2.Canonical := by
  unfold State.posePosition
  extract_lets spd lat lon p
  split
  · exact h.blendStep
  extract_lets q d hgt
  split
  · exact h.blendStep
  · exact h.modNav.blendStep

theorem poseQuality (h : s.Canonical) : s.poseQuality.2.Canonical := by
  unfold State.poseQuality
  dsimp only
  split
  · exact h
  · split
    · split
      · dsimp only
        exact h.modNav
      · dsimp only
        exact h.modNav
    · dsimp only
      exact h.modNav

theorem poseUpdate {roll pitch yaw} (h : s.Canonical) :
    (s.poseUpdate roll pitch yaw).Canonical := by
  unfold State.poseUpdate
  extract_lets imu roll pitch yaw x hd s1 q s2 held p s3
  have h3 : s3.Canonical := by
    have h2 : s2.Canonical := h.poseHeading.poseQuality
    dsimp only [s3, p]
    split
    · exact h2
    · exact h2.posePosition
  exact h3.setNat64.put.puts.puts.puts.puts.put.put.putB.put.putB.putSat.put.put.modNav

theorem poseDisabled (h : s.Canonical) : s.poseDisabled.Canonical :=
  h.headingWatch.setNat64.setNat.setNat

theorem navEnable (h : s.Canonical) : s.navEnable.Canonical :=
  h.modNav

end Sys2Proof.Machine.State.Canonical
end

section
/-! Canonical form: the map. -/

namespace Sys2Proof.Machine.State.Canonical

open Sys2Proof

variable {s t : State}

theorem modGeo {f} (h : s.Canonical) : (s.modGeo f).Canonical :=
  h.frame rfl rfl

theorem modCross {p f} (h : s.Canonical) : (s.modCross p f).Canonical :=
  h.modGeo

theorem modSlot {k f} (h : s.Canonical) : (s.modSlot k f).Canonical :=
  h.modGeo

theorem putCell {k layer i j v} (h : s.Canonical) : (s.putCell k layer i j v).Canonical :=
  h.setByte

theorem takeShapes (h : s.Canonical) : s.takeShapes.Canonical :=
  h.modGeo

theorem geoSettle (h : s.Canonical) : s.geoSettle.Canonical := by
  unfold State.geoSettle
  dsimp only
  split
  · exact h.modGeo
  · exact ite h.modGeo h.modGeo.modGeo.put

theorem evict {k} (h : s.Canonical) : (s.evict k).Canonical :=
  h.modSlot.laneProduce.geoSettle

theorem flushEnd {n} (h : s.Canonical) : (s.flushEnd n).Canonical :=
  ite (ite h.put h) h.modGeo.geoSettle

theorem geoFlush (h : s.Canonical) : s.geoFlush.Canonical :=
  (h.put.each (fun _ _ hu => hu.laneProduce.modSlot)).flushEnd

theorem geoEvictAll (h : s.Canonical) : s.geoEvictAll.Canonical :=
  (h.put.each (fun _ _ hu => hu.evict)).flushEnd

theorem raster {k plane fences} (h : s.Canonical) : (s.raster k plane fences).Canonical :=
  h.setBytes

theorem fenceCommit (h : s.Canonical) : s.fenceCommit.Canonical := by
  unfold State.fenceCommit
  split
  · exact h.put.put.raise
  · exact h.put.modGeo

theorem fenceRaster (h : s.Canonical) : s.fenceRaster.Canonical :=
  ite h (h.each (fun _ _ hu => hu.raster)).put.modGeo

theorem fenceSwap (h : s.Canonical) : s.fenceSwap.Canonical :=
  ite h h.put.modGeo

theorem askTile {t} (h : s.Canonical) : (s.askTile t).Canonical :=
  ite h h.laneProduce.raise.modGeo

theorem askTiles {g} (h : s.Canonical) : (s.askTiles g).Canonical :=
  h.modGeo.each (fun _ _ hu => hu.askTile)

theorem dropLoad (h : s.Canonical) : s.dropLoad.Canonical := by
  unfold State.dropLoad
  split
  · exact h
  · exact h.count.modGeo

theorem finishLoad {k} (h : s.Canonical) : (s.finishLoad k).Canonical := by
  unfold State.finishLoad
  exact h.raster.raster.modSlot.modGeo

theorem beginLoad {k tx ty fill} (h : s.Canonical) : (s.beginLoad k tx ty fill).Canonical := by
  unfold State.beginLoad
  exact ite h.modSlot.modGeo h.modSlot.modGeo.setBytes.finishLoad

theorem tileLoad (h : s.Canonical) : s.tileLoad.Canonical := by
  unfold State.tileLoad
  dsimp only
  split
  · exact h
  · split
    · exact h.laneSkip
    · split
      · exact h.laneSkip.laneTake.count
      · split
        · split
          · exact h.laneSkip.dropLoad.laneTake.count
          · split
            · exact h.laneSkip.dropLoad.laneTake.count
            · split
              · exact h.laneSkip.dropLoad.laneTake.beginLoad
              · split
                · exact h.laneSkip.dropLoad
                · split
                  · exact h.laneSkip.dropLoad.evict
                  · exact h.laneSkip.dropLoad.laneTake.count.raise
        · split
          · exact h.laneSkip.laneTake
          · exact ite h.laneSkip.laneTake.dropLoad (ite h.laneSkip.laneTake.setBytes.finishLoad
              (ite h.laneSkip.laneTake.setBytes.dropLoad h.laneSkip.laneTake.setBytes.modGeo))

theorem crossShow {p} (h : s.Canonical) : (s.crossShow p).Canonical :=
  ite h (ite h.put.putB.putB.putB h.put.putB.putB)

theorem geoOpen {p tc lat hyd w} (h : s.Canonical) : (s.geoOpen p tc lat hyd w).Canonical :=
  ite h
    (have h1 : State.Canonical _ := (ite h.modGeo h).when (fun _ hu => hu.putB)
     ite h1 h1.modGeo.modCross.crossShow)

theorem geoOpened {p t} (h : s.Canonical) : (s.geoOpened p t).Canonical :=
  ite h h.modCross.crossShow

theorem geoClose {p tk lat hyd} (h : s.Canonical) : (s.geoClose p tk lat hyd).Canonical :=
  ite h h.modCross.crossShow

theorem geoClosed {p t} (h : s.Canonical) : (s.geoClosed p t).Canonical :=
  ite h h.modCross.crossShow

theorem geoWait {p} (h : s.Canonical) : (s.geoWait p).Canonical :=
  have h1 : State.Canonical _ := ite h.modCross.crossShow h
  ite h1.modCross.crossShow h1

theorem chunkClosed {disabled} (h : s.Canonical) : (s.chunkClosed disabled).Canonical := by
  unfold State.chunkClosed
  split
  · exact h
  · exact ite (h.each (fun _ _ hu => hu.modGeo)).count.modGeo
      (h.each (fun _ _ hu => hu.modGeo)).setNat.modGeo

theorem chunkFull {k disabled} (h : s.Canonical) : (s.chunkFull disabled k).Canonical := by
  induction k generalizing s with
  | zero => exact h
  | succ k ih => exact ite (ih h.chunkClosed) h

theorem chunkSettle (h : s.Canonical) : s.chunkSettle.Canonical :=
  ite h.modGeo (h.modGeo.each (fun _ _ hu => hu.raise))

theorem chunkSend {sig} (h : s.Canonical) : (s.chunkSend sig).Canonical := by
  unfold State.chunkSend
  split
  · exact h
  · exact h.laneProduce.modGeo.chunkSettle

theorem coverCell {layer c} {r : State × Sweep} (h : r.1.Canonical) :
    (State.coverCell layer r c).1.Canonical := by
  unfold State.coverCell
  dsimp only
  split
  · exact h
  · split
    · exact h
    · exact h
    · exact h.putCell.frame rfl rfl

theorem cover {p layer a b} (h : s.Canonical) : (s.cover p layer a b).1.Canonical :=
  have hCells : State.Canonical _ := List.foldlRecOn
    (motive := fun r : State × Sweep => r.1.Canonical)
    (stripCells s.geoCS a.1 a.2 b.1 b.2) (State.coverCell layer) (b := (s, default)) h
      fun _ hr _ _ => hr.coverCell
  have h1 : State.Canonical _ := ite hCells.count.count.count hCells
  have h2 : State.Canonical _ := ite h1.modGeo h1
  (ite h2.count.put h2).raiseIf.raiseIf

theorem chunkNote {p c t0 t1 extra} (h : s.Canonical) : (s.chunkNote p c t0 t1 extra).Canonical :=
  ite h (ite h.modGeo h.modGeo)

theorem sweep {p c u} (h : s.Canonical) : (s.sweep p c u).1.Canonical := by
  unfold State.sweep
  split
  · exact h
  extract_lets limit upto t0 w over' w'
  split
  · exact h
  split
  · exact h.chunkNote
  split
  · exact h.cover.chunkNote.raiseIf
  · exact h

theorem sweepPoint {u p} (h : s.Canonical) : (State.sweepPoint u s p).Canonical :=
  ite h h.geoWait.sweep.modCross.crossShow

theorem sweepTails {u} (h : s.Canonical) : (s.sweepTails u).Canonical :=
  h.each (fun _ _ hu => hu.sweep.modGeo)

theorem chunkSplit (h : s.Canonical) : s.chunkSplit.Canonical :=
  ((h.each (fun _ _ hu => ite hu.chunkNote hu)).each
    (fun _ _ hu => ite hu (ite hu.chunkNote hu))).modGeo.each (fun _ _ hu => ite hu hu.modCross)

theorem chunkShut {disabled} (h : s.Canonical) : (s.chunkShut disabled).Canonical :=
  (h.when (fun _ hu => hu.chunkSplit)).chunkClosed.chunkFull

theorem projectPoint {g p} (h : s.Canonical) : (State.projectPoint g s p).Canonical :=
  ite h.put.put.put h.put.put.putB.putFit.putFit.raiseIf

theorem geoUpdate (h : s.Canonical) : s.geoUpdate.Canonical := by
  rw [State.geoUpdate]
  split
  on_goal 1 => refine askTiles ?_
  all_goals
    exact
      have h1 : State.Canonical _ := h.fenceSwap.takeShapes.modGeo
      have h2 : State.Canonical _ := ((ite h1.count h1).each
        fun _ _ hu => hu.projectPoint).sweepTails
      have h3 : State.Canonical _ := (h2.each fun _ _ hu => hu.sweepPoint).when
        fun _ hu => hu.chunkFull
      ite h3.modGeo h3

theorem mapPageLost {a} (h : s.Canonical) : (s.mapPageLost a).Canonical :=
  ite h
    (have h1 : State.Canonical _ := h.each (fun _ _ hu => ite hu.setByte hu)
     ite (ite h1.raster.raster h1).raise.put.modSlot (ite h1.raster.raster h1))

theorem geoDisable (h : s.Canonical) : s.geoDisable.Canonical :=
  ((ite h.with_lanes.count.put h.with_lanes.count).count.dropLoad.modGeo.each
    (fun _ _ hu => ite hu (hu.when (fun _ hv => hv.putB)).modCross.crossShow)).chunkShut.each
    (fun _ _ hu => hu.put)

end Sys2Proof.Machine.State.Canonical
end

section
/-! Canonical form: armatures and strides. -/

namespace Sys2Proof.Machine.State.Canonical

open Sys2Proof

variable {s t : State}

theorem modArm {n f} (h : s.Canonical) : (s.modArm n f).Canonical :=
  h.frame rfl rfl

theorem modSw {k f} (h : s.Canonical) : (s.modSw k f).Canonical :=
  h.frame rfl rfl

theorem modDie {d f} (h : s.Canonical) : (s.modDie d f).Canonical :=
  h.frame rfl rfl

theorem satReport {kind inst what t start} (h : s.Canonical) :
    (s.satReport kind inst what t start).Canonical :=
  ite h h.laneProduce

theorem confirm {kind inst closing t start} (h : s.Canonical) :
    (s.confirm kind inst closing t start).Canonical :=
  (h.each (fun _ _ hu => ite hu.geoClosed hu.geoOpened)).satReport

theorem unconfirm {kind inst closing start} (h : s.Canonical) :
    (s.unconfirm kind inst closing start).Canonical :=
  h.satReport

theorem setConf {n c v} (h : s.Canonical) : (s.setConf n c v).Canonical :=
  h.put.put.raiseIf.raiseIf

theorem setLearned {n c x} (h : s.Canonical) : (s.setLearned n c x).Canonical :=
  h.putSat.put.put.putB.raiseIf.setConf

theorem armConfirmed {n c t m skip vbank} (h : s.Canonical) :
    (s.armConfirmed n c t m skip vbank).Canonical :=
  (ite h.put.put.put.putB.put h.put.put.put.putB.setLearned.raiseIf).confirm

theorem armMissed {n c} (h : s.Canonical) : (s.armMissed n c).Canonical :=
  (ite h.put.put.count.putSat.setConf.raiseIf.put.raise.put
    h.put.put.count.putSat.setConf.raiseIf).unconfirm

theorem armCloseCut {n} (h : s.Canonical) : (s.armCloseCut n).Canonical :=
  ite h.put.modArm h

theorem armOpenWindow {n noboost} (h : s.Canonical) : (s.armOpenWindow n noboost).Canonical :=
  ite h.modArm (ite h.count h)

theorem armOpenCut {n} (h : s.Canonical) : (s.armOpenCut n).Canonical :=
  ite h.put.modArm h

theorem armCut {n} (h : s.Canonical) : (s.armCut n).Canonical :=
  h.armOpenCut.armCloseCut

theorem armCloseWindow {n skip} (h : s.Canonical) : (s.armCloseWindow n skip).Canonical :=
  ite h.modArm (ite h.count h)

theorem armHold {h} (hs : s.Canonical) : (s.armHold h).Canonical :=
  ite hs.putSat.modArm hs

theorem armLatency {n} (h : s.Canonical) : (s.armLatency n).Canonical :=
  h.putSat.putSat.puts

theorem eotShow {k} (h : s.Canonical) : (s.eotShow k).Canonical :=
  h.put

theorem eotConf {k} (h : s.Canonical) : (s.eotConf k).Canonical :=
  h.eotShow.raiseIf.raiseIf

theorem armClr {n} (h : s.Canonical) : (s.armClr n).Canonical :=
  h.put.put.setNat.setConf.setConf.put.put

theorem armInit {n} (h : s.Canonical) : (s.armInit n).Canonical :=
  ite (ite h.put h).put (ite h.put h)

theorem eotClr {k} (h : s.Canonical) : (s.eotClr k).Canonical :=
  h.setNat.modSw.eotConf

theorem eotOver {k c} (h : s.Canonical) : (s.eotOver k c).Canonical :=
  h.modSw

theorem eotWindow {k closing} (h : s.Canonical) : (s.eotWindow k closing).Canonical :=
  ite h (ite h.put (ite h.count h.modSw))

theorem eotLearned {k c x} (h : s.Canonical) : (s.eotLearned k c x).Canonical :=
  (ite h.putSat h.putSat).modSw.eotOver.eotConf

theorem eotFound {k c t} (h : s.Canonical) : (s.eotFound k c t).Canonical :=
  h.eotLearned.raiseIf.put.putB.confirm

theorem eotMissed {k c} (h : s.Canonical) : (s.eotMissed k c).Canonical :=
  (ite h.raise.put.count.eotLearned.raiseIf.raise.put
    h.raise.put.count.eotLearned.raiseIf).unconfirm

theorem adaptNotice {d} (h : s.Canonical) : (s.adaptNotice d).Canonical :=
  ite h.raise.modDie h

theorem setTarget {d v} (h : s.Canonical) : (s.setTarget d v).Canonical :=
  ite h h.put.adaptNotice

theorem adaptReset {d} (h : s.Canonical) : (s.adaptReset d).Canonical :=
  h.setTarget.modDie

theorem adaptUv {d} (h : s.Canonical) : (s.adaptUv d).Canonical :=
  ite h.adaptReset h

theorem adapt {d} (h : s.Canonical) : (s.adapt d).Canonical :=
  ite h.modDie.put (ite h.modDie.setTarget (ite h.modDie.setTarget h.modDie)).put.put.putSat

theorem strStarted {p on t} (h : s.Canonical) : (s.strStarted p on t).Canonical :=
  ite h.modPt.geoOpen h.modPt.geoClose

theorem cmdDrop (h : s.Canonical) : s.cmdDrop.Canonical :=
  h.count.put.raise

theorem strDropped {p on start} (h : s.Canonical) : (s.strDropped p on start).Canonical :=
  h.cmdDrop.modPt

theorem cmdCount {k} (h : s.Canonical) : (s.cmdCount k).Canonical :=
  h.setNat

theorem strForcedOff {kind inst} (h : s.Canonical) : (s.strForcedOff kind inst).Canonical :=
  h.each (fun _ _ hu => hu.modPt.geoClose)

theorem leadClamp {us} (h : s.Canonical) : (s.leadClamp us).2.Canonical := by
  unfold State.leadClamp
  dsimp only
  split
  · exact h
  · dsimp only
    exact h.count.put.raise

theorem leads {p} (h : s.Canonical) : (s.leads p).Canonical :=
  h.leadClamp.leadClamp.modPt

theorem fractions {p t} (h : s.Canonical) : (s.fractions p t).2.Canonical := by
  unfold State.fractions
  dsimp only
  split
  · dsimp only
    exact h.free.free
  · exact h

theorem countLate {p us on} (h : s.Canonical) : (s.countLate p us on).Canonical :=
  ite h h.count.modPt

theorem strForm {p on start duty} (h : s.Canonical) : (s.strForm p on start duty).Canonical := by
  unfold State.strForm
  dsimp only
  split
  · exact h.cmdCount.modPt.modSat
  · split
    · exact h.cmdCount.modPt.modStr
    · exact h.cmdCount.modPt.modStr
    · exact h.cmdCount.modPt

theorem setBusy {p a b} (h : s.Canonical) : (s.setBusy p a b).Canonical :=
  h.modStr

theorem placeOn {p te} (h : s.Canonical) : (s.placeOn p te).Canonical :=
  (ite h.modStr h.count.raise).modPt.setBusy.strForm

theorem placeOff {p te why} (h : s.Canonical) : (s.placeOff p te why).Canonical :=
  h.modPt.setBusy.strForm

theorem formOn {p te} (h : s.Canonical) : (s.formOn p te).Canonical :=
  ite h.placeOn h.strForm

theorem strWant {p te} (h : s.Canonical) : (s.strWant p te).2.Canonical := by
  unfold State.strWant
  extract_lets x mode act hold fOn sOn cOn sOn' fOff sOff
  have hOn : sOn.Canonical := h.fractions.raiseIf
  have hOff : sOff.Canonical := h.fractions.raiseIf
  split
  · exact h
  split
  · exact h
  split
  · exact h
  split
  · exact h
  split
  · exact ite hOn hOn.modPt
  split
  · exact hOff
  · exact hOff

theorem sendPush {a x} (h : s.Canonical) : (s.sendPush a x).Canonical :=
  ite h h.with_link

theorem leadPush {a cs} (h : s.Canonical) : (s.leadPush a cs).Canonical :=
  h.sendPush.modSat

theorem satMissed {c} (h : s.Canonical) : (s.satMissed c).Canonical :=
  ite h.cmdDrop h.strDropped

theorem satSend {a} (h : s.Canonical) : (s.satSend a).Canonical :=
  have h1 : State.Canonical _ := (h.each (fun _ _ hu => hu.satMissed)).modSat
  ite h1 h1.modSat.leadPush

theorem satBacklog (h : s.Canonical) : s.satBacklog.Canonical :=
  h.put.putSat

theorem satExecuted {p} (h : s.Canonical) : (s.satExecuted p).Canonical := by
  unfold State.satExecuted
  split
  · exact h.strStarted
  · exact h

theorem crossLost {p} (h : s.Canonical) : (s.crossLost p).Canonical :=
  ite h h.modCross.crossShow

theorem pushFailed {a f} (h : s.Canonical) : (s.pushFailed a f).Canonical :=
  have h2 : State.Canonical _ := ite h.modSat.sendPush.modSat
    (h.modSat.each (fun _ _ hu => hu.satMissed)).modSat
  ite (h2.put.raise.modSat.each (fun _ _ hu => hu.crossLost)) h2

theorem pushTaken {a cs} (h : s.Canonical) : (s.pushTaken a cs).Canonical :=
  have h1 : State.Canonical _ := h.put.modSat.modSat.each (fun _ _ hu => hu.modPt)
  ite (h1.each (fun _ _ hu => hu.modPt)) h1

theorem strFreeAll (h : s.Canonical) : s.strFreeAll.Canonical :=
  h.modStr

theorem stopStep (h : s.Canonical) : s.stopStep.Canonical :=
  ite (ite h.modStr h) (ite h.modStr.raise h)

theorem drStep (h : s.Canonical) : s.drStep.Canonical :=
  ite h.modStr
    (have h1 : State.Canonical _ := (ite h.modStr.raise h).modStr
     ite h1.modStr.raise h1)

theorem modeStep (h : s.Canonical) : s.modeStep.Canonical :=
  (ite h.stopStep.drStep.strFreeAll h.stopStep.drStep).put.putSat

theorem turnComp {p} (h : s.Canonical) : (s.turnComp p).Canonical :=
  ite (ite h h.modPt) (ite (ite h.free h).modPt.put (ite h.free h).modPt)

theorem remoteDuty {p} (h : s.Canonical) : (s.remoteDuty p).Canonical :=
  ite h h.cmdCount.modPt.modSat

theorem layerTotals {l} (h : s.Canonical) : (s.layerTotals l).Canonical :=
  h.put.setNat.setNat

theorem strUpdate (h : s.Canonical) : s.strUpdate.Canonical :=
  have h1 : State.Canonical _ := (h.each (fun _ _ hu => hu.put)).modeStep.each
    (fun _ _ hu => hu.turnComp)
  ((ite (h1.each (fun _ _ hu => hu.remoteDuty)) h1).each (fun _ _ hu => hu.layerTotals)).stamp

theorem strDecide {tk p} {r : State × List Nat} (h : r.1.Canonical) :
    (State.strDecide tk r p).1.Canonical := by
  unfold State.strDecide
  extract_lets s0 te s1 x w s2 auto mOn s3 mOff
  have h2 : s2.Canonical := h.leads.strWant.modPt
  split
  · exact h.modPt
  split
  · exact h2
  split
  · split
    · exact h2
    split
    · exact h2.count.raise.put.modPt
    · exact h2.countLate
  · exact h2.countLate.placeOff

theorem strTick (h : s.Canonical) : s.strTick.Canonical := by
  unfold State.strTick
  extract_lets tk s1 ps r s2 s3
  have h1 : s1.Canonical := ite (h.each fun _ _ hu => hu.satExecuted) h
  have hr : r.1.Canonical := List.foldlRecOn (motive := fun r : State × List Nat => r.1.Canonical)
    ps (State.strDecide tk)
    (b := (s1, [])) h1 fun _ hr _ _ => hr.strDecide
  have h2 : s2.Canonical := hr.each fun _ _ hu => hu.formOn
  have h3 : s3.Canonical := ite (h2.each fun _ _ hu => hu.satSend) h2
  exact h3.satBacklog

theorem satCommand {b} (h : s.Canonical) : (s.satCommand b).Canonical :=
  ite h (ite h.satReport (ite h.modStr (ite h h.modStr)))

theorem satEntry (h : s.Canonical) : s.satEntry.Canonical := by
  unfold State.satEntry
  dsimp only
  split
  · exact h.laneConsume
  · exact ite h.laneConsume (h.laneConsume.each (fun _ _ hu => hu.satCommand))

theorem satReported {e} (h : s.Canonical) : (s.satReported e).Canonical := by
  unfold State.satReported
  dsimp only
  split
  · exact h
  · split
    · exact (ite h.modPt h).geoOpened
    · exact (ite h.modPt h).geoClosed
    · exact ite (ite h.modPt h).strDropped.modCross.crossShow (ite h.modPt h).strDropped
    · exact ite (ite h.modPt h).strDropped.modCross.crossShow (ite h.modPt h).strDropped
    · exact (ite h.modPt h).strDropped.geoClose
    · exact ite h.modPt h

theorem strDisableOff {p} (h : s.Canonical) : (s.strDisableOff p).Canonical :=
  ite h.modStr.modPt.placeOff h.modStr.modPt

theorem strDisable (h : s.Canonical) : s.strDisable.Canonical :=
  have h1 : State.Canonical _ := h.count.with_sol_hsw.modStr.each (fun _ _ hu => hu.strDisableOff)
  (ite (h1.each (fun _ _ hu => hu.satSend)) h1).put

theorem strEnable (h : s.Canonical) : s.strEnable.Canonical :=
  h.modStr

theorem pushAnswer {a ok} (h : s.Canonical) : (s.pushAnswer a ok).Canonical := by
  unfold State.pushAnswer
  split
  · exact h
  · exact ite h.modSat.pushTaken h.modSat.pushFailed

end Sys2Proof.Machine.State.Canonical
end

section
/-! Canonical form: CAN. -/

namespace Sys2Proof.Machine.State.Canonical

open Sys2Proof

variable {s t : State}

theorem modCtl {n f} (h : s.Canonical) : (s.modCtl n f).Canonical :=
  h.frame rfl rfl

theorem modObj {k f} (h : s.Canonical) : (s.modObj k f).Canonical :=
  h.frame rfl rfl

theorem setCanData {k b} (h : s.Canonical) : (s.setCanData k b).Canonical :=
  h.each (fun _ _ hu => hu.setNat)

theorem canWriteBits {k o w v} (h : s.Canonical) : (s.canWriteBits k o w v).Canonical :=
  h.each (fun _ _ hu => hu.put)

theorem canFinish {k result} (h : s.Canonical) : (s.canFinish k result).Canonical :=
  h.put.put.put.put.modObj

theorem canPend {k} (h : s.Canonical) : (s.canPend k).Canonical :=
  h.put.put.modObj

theorem canRequest {k} (h : s.Canonical) : (s.canRequest k).Canonical :=
  ite h (ite h.put (ite h (ite h.put.put h.canPend.put)))

theorem canWithdraw {k} (h : s.Canonical) : (s.canWithdraw k).Canonical :=
  ite h (ite h.put.put h.canFinish)

theorem canTmo {k} (h : s.Canonical) : (s.canTmo k).Canonical :=
  ite h.raise.modObj (ite h.raise.modObj.canFinish (ite h.raise.modObj h.raise.modObj.put.modObj))

theorem canShow {n} (h : s.Canonical) : (s.canShow n).Canonical :=
  h.putSat.putSat.put

theorem canModeStep {n} (h : s.Canonical) : (s.canModeStep n).Canonical :=
  ite h h.modCtl.canShow

theorem canFrameEnd {n} (h : s.Canonical) : (s.canFrameEnd n).Canonical :=
  h.modCtl.canModeStep

theorem canErrState {n} (h : s.Canonical) : (s.canErrState n).Canonical :=
  (ite h.raiseIf.modCtl.raise.count.put.modCtl h.raiseIf.modCtl).canShow

theorem canErrSeen {n lec} (h : s.Canonical) : (s.canErrSeen n lec).Canonical :=
  h.count.put

theorem canMirror {type n obj sof sel f} (h : s.Canonical) :
    (s.canMirror type n obj sof sel f).Canonical :=
  ite h.laneProduce h

theorem canDecode {k} (h : s.Canonical) : (s.canDecode k).Canonical := by
  unfold State.canDecode
  dsimp only
  split
  · exact h
  · split
    · exact h.put.puts.modObj
    · exact h.free.put.put

theorem canStore {k sof f} (h : s.Canonical) : (s.canStore k sof f).Canonical :=
  (ite h.put.count.raise h).put.count.put.modObj.canDecode

theorem canReceive {n sof f} (h : s.Canonical) : (s.canReceive n sof f).Canonical := by
  unfold State.canReceive
  dsimp only
  refine canMirror ?_
  split
  · exact h.canStore
  · exact h.count

theorem canReadCopy {k} (h : s.Canonical) : (s.canReadCopy k).Canonical :=
  ite h.put.put h.put.put.putB.put.putB.putB.putB.put.setNat64.setCanData

theorem canHeardOk {n} (h : s.Canonical) : (s.canHeardOk n).Canonical :=
  ite h.modCtl.canErrState h.free.modCtl.canErrState

theorem canHeardErr {n lec heavy again} (h : s.Canonical) :
    (s.canHeardErr n lec heavy again).Canonical :=
  h.canErrSeen.modCtl.canErrState

theorem canHear {n h} (hs : s.Canonical) : (s.canHear n h).Canonical := by
  unfold State.canHear
  dsimp only
  split
  · exact hs
  · refine canFrameEnd ?_
    split
    · exact hs.canHeardErr
    · exact ite hs.canHeardErr hs.canHeardOk.canReceive

theorem canSof {n} (h : s.Canonical) : (s.canSof n).Canonical := by
  unfold State.canSof
  dsimp only
  split
  · exact h
  · split
    · exact ite h h.modCtl
    · exact h.modCtl.put.modObj.modCtl

theorem canSent {n k} (h : s.Canonical) : (s.canSent n k).Canonical :=
  have h1 : State.Canonical _ := h.modCtl.canErrState.count.setNat64.put.put.canFinish
  have h2 : State.Canonical _ := ite h1.raiseIf.canPend h1.raiseIf
  ite h2.canMirror.canReceive h2.canMirror

theorem canFailed {k retry priv err} (h : s.Canonical) : (s.canFailed k retry priv err).Canonical :=
  ite h.count.put.put.modObj.canFinish.count (ite h.count.put.put.modObj.canFinish
    (ite h.count.put.put.modObj.canFinish (ite h.count.put.put.modObj
    (ite h.count.put.put.modObj.canPend h.count.put.put.modObj.canFinish))))

theorem canClash {n k hit} (h : s.Canonical) : (s.canClash n k hit).Canonical :=
  ite h.put (ite h.put h.put.raise.put.put.put)

theorem canAttempt {n r} (h : s.Canonical) : (s.canAttempt n r).Canonical := by
  unfold State.canAttempt
  split
  · exact h
  · split
    · exact h.modCtl.canSent.canFrameEnd
    · exact h.modCtl.canClash.canFailed
    · exact h.modCtl.canErrSeen.put.modCtl.canErrState.canClash.canFailed.canFrameEnd

theorem canDropMsg (h : s.Canonical) : s.canDropMsg.Canonical :=
  ite h.laneTake.count.laneTake h.laneTake.count

theorem canDropAll {k} (h : s.Canonical) : (s.canDropAll k).Canonical := by
  induction k generalizing s with
  | zero => exact h
  | succ k ih => exact ite h (ih h.canDropMsg)

theorem canSubmit (h : s.Canonical) : s.canSubmit.Canonical :=
  ite h (ite h.laneSkip (ite h.laneSkip.canDropMsg (ite h.laneSkip.canDropMsg
    (ite h.laneSkip (ite h.laneSkip (ite h.laneSkip.canDropMsg
    (have h1 : State.Canonical _ := ite h.laneSkip.laneTake.laneTake h.laneSkip.laneTake
     (ite h1.put h1).put.setCanData.canRequest)))))))

theorem canSendAll {ks} (h : s.Canonical) : (s.canSendAll ks).Canonical :=
  h.each (fun _ _ hu => hu.canRequest)

theorem canFields {xs} (h : s.Canonical) : (s.canFields xs).Canonical := by
  refine canSendAll (List.foldlRecOn (motive := fun r : State × List Nat => r.1.Canonical) xs _ h
    fun r hr x _ => ?_)
  extract_lets u c b e k o w v
  split
  · exact hr
  · exact hr.canWriteBits.strStarted

theorem canDisable (h : s.Canonical) : s.canDisable.Canonical :=
  have h1 : State.Canonical _ := h.each (fun _ _ hu => ite hu (ite hu.modObj hu.canFinish.count))
  (ite h1.canDropAll h1).each (fun _ _ hu => hu.canModeStep)

theorem canEnable (h : s.Canonical) : s.canEnable.Canonical :=
  h.each (fun _ _ hu => hu.canModeStep)

theorem canClock {fallback} (h : s.Canonical) : (s.canClock fallback).Canonical :=
  h.each (fun _ _ hu => hu.modCtl.canModeStep)

theorem canCut (h : s.Canonical) : s.canCut.Canonical := by
  unfold State.canCut
  refine h.each fun _ _ hu => ?_
  refine canModeStep ?_
  refine modCtl ?_
  split
  · exact hu.canFailed
  · exact hu

end Sys2Proof.Machine.State.Canonical
end

section
/-! Canonical form: solenoids and high-side switches. -/

namespace Sys2Proof.Machine.State.Canonical

open Sys2Proof

variable {s t : State}

theorem modSol {n f} (h : s.Canonical) : (s.modSol n f).Canonical :=
  h.frame rfl rfl

theorem setPhase {n ph} (h : s.Canonical) : (s.setPhase n ph).Canonical :=
  h.modArm.modSol.put

theorem derateShow {n hot} (h : s.Canonical) : (s.derateShow n hot).Canonical :=
  h.putB.modSol

theorem solDrop {n c reason} (h : s.Canonical) : (s.solDrop n c reason).Canonical := by
  unfold State.solDrop
  dsimp only
  split
  · exact h.count.put.raise.strDropped
  · exact h.count.put.raise.satReport
  · exact h.count.put.raise

theorem cmdDone {kind c} (h : s.Canonical) : (s.cmdDone kind c).Canonical := by
  unfold State.cmdDone
  split
  · exact h.strStarted
  · exact h.modStr
  · exact h

theorem solArrive {c} (h : s.Canonical) : (s.solArrive c).Canonical :=
  ite (ite h.modSol h) (ite h.solDrop h.modSol)

theorem bankShow {b} (h : s.Canonical) : (s.bankShow b).Canonical :=
  h.putSat.putB

theorem decay {n prot forced} (h : s.Canonical) : (s.decay n prot forced).Canonical :=
  (ite h.setPhase.putB.strForcedOff h.setPhase.putB).modSol.armCloseWindow.bankShow

theorem noBoost {n defer} (h : s.Canonical) : (s.noBoost n defer).Canonical :=
  (ite h.setPhase.put.put.adaptReset h.setPhase.put.put).armOpenWindow.bankShow

theorem grant {n waited} (h : s.Canonical) : (s.grant n waited).Canonical :=
  ite h.noBoost (ite h.count h).setPhase.put.putSat.armOpenWindow.bankShow

theorem boostWait {n} (h : s.Canonical) : (s.boostWait n).Canonical :=
  h.setPhase.bankShow

theorem ungrant {m} (h : s.Canonical) : (s.ungrant m).Canonical :=
  (ite h.setNat h).modArm.boostWait

theorem boostRequest {n} (h : s.Canonical) : (s.boostRequest n).Canonical := by
  unfold State.boostRequest
  dsimp only
  split
  · exact h.modSol.grant
  · split
    · exact h.modSol.ungrant.grant
    · exact h.modSol.boostWait

theorem calFollower {n} (h : s.Canonical) : (s.calFollower n).Canonical :=
  ite h.setPhase h

theorem calAbandon {n} (h : s.Canonical) : (s.calAbandon n).Canonical :=
  (ite h.setPhase h).calFollower

theorem profileStart {n} (h : s.Canonical) : (s.profileStart n).Canonical :=
  h.setNat.put.putB.modSol.calFollower.armCloseCut.boostRequest

theorem bankFree {b} (h : s.Canonical) : (s.bankFree b).Canonical := by
  unfold State.bankFree
  split
  · exact h.bankShow
  · exact ite (h.each (fun _ _ hu => hu.noBoost)) h.grant.bankShow

theorem peakDone {n} (h : s.Canonical) : (s.peakDone n).Canonical :=
  ite h.decay h.setPhase

theorem peakOver {n} (h : s.Canonical) : (s.peakOver n).Canonical :=
  ite h.peakDone h

theorem riseDone {n} (h : s.Canonical) : (s.riseDone n).Canonical :=
  ite h.setPhase.peakDone h.setPhase

theorem openLoad {n} (h : s.Canonical) : (s.openLoad n).Canonical :=
  h.put.raise.decay

theorem boostTime {n} (h : s.Canonical) : (s.boostTime n).Canonical :=
  h.putSat

theorem riseEnd {n reached i} (h : s.Canonical) : (s.riseEnd n reached i).Canonical :=
  ite h.putSat.openLoad h.putSat.riseDone

theorem pwmOff {n} (h : s.Canonical) : (s.pwmOff n).Canonical :=
  ite h.modSol.decay (ite h.modSol.put.modSol h.modSol)

theorem pwmCycle {n} (h : s.Canonical) : (s.pwmCycle n).Canonical :=
  ite (ite h.put.putB.modSol.pwmOff h.put.putB.modSol)
    (ite h.put.putB.modSol.profileStart h.put.putB.modSol)

theorem trainEnd {n} (h : s.Canonical) : (s.trainEnd n).Canonical :=
  h.modSol

theorem solOn {n c} (h : s.Canonical) : (s.solOn n c).Canonical :=
  ite (ite h.put.put h.put) (ite (ite h.put.put h.put).modSol.pwmCycle.calAbandon
    (ite h.put.put h.put).profileStart)

theorem solOff {n} (h : s.Canonical) : (s.solOff n).Canonical :=
  ite h.put.trainEnd.decay h.put.trainEnd

theorem solStart {n c} (h : s.Canonical) : (s.solStart n c).Canonical :=
  ite (ite h.put h) (ite h.solDrop (ite h.solOn h.solOff).cmdDone)

theorem solCurrent {n} (h : s.Canonical) : (s.solCurrent n).Canonical :=
  ite h (ite h.putB.calFollower.setPhase.put.modSol (ite h.putB.decay h.putB))

theorem trainCut {n} (h : s.Canonical) : (s.trainCut n).Canonical :=
  ite h.trainEnd.strForcedOff h.trainEnd

theorem solProtect {n forced} (h : s.Canonical) : (s.solProtect n forced).Canonical :=
  ite h.put.trainCut.setPhase (ite h.put.trainCut (ite h.put.boostTime
    h.put).trainEnd.modSol.armOpenCut.decay.strForcedOff)

theorem solProtectOne {n} (h : s.Canonical) : (s.solProtectOne n).Canonical :=
  ite h.solProtect.bankFree h.solProtect

theorem solForceOff {d} (h : s.Canonical) : (s.solForceOff d).Canonical :=
  h.each (fun _ _ hu => hu.solProtect)

theorem solResume {ns} (h : s.Canonical) : (s.solResume ns).Canonical :=
  h.each (fun _ _ hu => hu.solCurrent)

theorem bankProtect {b} (h : s.Canonical) : (s.bankProtect b).Canonical :=
  h.raise.each (fun _ _ hu => hu.put.solProtect)

theorem solShorted {n} (h : s.Canonical) : (s.solShorted n).Canonical :=
  ite h.put.raise.put.solProtectOne.solProtectOne (ite h.put.raise.put.solProtectOne.solProtectOne
    h.put.raise.put.solProtectOne)

theorem solCleared {n} (h : s.Canonical) : (s.solCleared n).Canonical :=
  h.solCurrent

theorem dieTemp {d t} (h : s.Canonical) : (s.dieTemp d t).Canonical :=
  have h1 : State.Canonical _ := ite h.puts.put.raise (ite h.puts.put h.puts)
  (ite (h1.put.raise.each (fun _ _ hu => hu.put.solProtect)) (ite h1.put.solResume h1)).each
    (fun _ _ hu => hu.derateShow.solCurrent)

theorem dutyLimit {n over'} (h : s.Canonical) : (s.dutyLimit n over').Canonical :=
  ite (ite h.modSol.raise.put.solProtectOne h.modSol.raise.derateShow.solCurrent)
    h.modSol.put.derateShow.solCurrent

theorem subStart {n} (h : s.Canonical) : (s.subStart n).Canonical :=
  h.modSol

theorem dutyWindow {n q} (h : s.Canonical) : (s.dutyWindow n q).Canonical :=
  have h1 : State.Canonical _ := ite h.modSol.subStart.putSat.put h.modSol.subStart.putSat.putSat
  ite h1.dutyLimit (ite h1.dutyLimit h1)

theorem dutyOpen {n} (h : s.Canonical) : (s.dutyOpen n).Canonical :=
  ite h.dutyLimit h

theorem dutyClear {n} (h : s.Canonical) : (s.dutyClear n).Canonical :=
  ite h.modSol.subStart.dutyLimit h.modSol.subStart

theorem solDisable {n} (h : s.Canonical) : (s.solDisable n).Canonical :=
  ite h.count.modSol.trainEnd.decay (ite h.count.modSol.trainCut.setPhase
    (ite h.count.modSol.trainCut h.count.modSol.trainEnd))

theorem solChDisable {n} (h : s.Canonical) : (s.solChDisable n).Canonical :=
  h.solDisable

theorem solBlockDisable (h : s.Canonical) : s.solBlockDisable.Canonical :=
  h.each (fun _ _ hu => hu.solDisable)

theorem phaseEnds {n} (h : s.Canonical) : (s.phaseEnds n).Canonical := by
  unfold State.phaseEnds
  dsimp only
  split
  · exact ite h.peakOver.pwmOff h.peakOver
  · exact h.peakOver

theorem cycleDue {n} (h : s.Canonical) : (s.cycleDue n).Canonical :=
  ite h.pwmCycle h

theorem modHsw {k f} (h : s.Canonical) : (s.modHsw k f).Canonical :=
  h.frame rfl rfl

theorem modKeep {f} (h : s.Canonical) : (s.modKeep f).Canonical :=
  h.frame rfl rfl

theorem hswTurnOn {k} (h : s.Canonical) : (s.hswTurnOn k).Canonical :=
  h.setNat.put.put.put.modHsw.eotWindow

theorem hswClamp {k e} (h : s.Canonical) : (s.hswClamp k e).Canonical :=
  ite h.modHsw.putSat.putSat.put.raise.put h.modHsw.putSat.putSat

theorem hswOutOff {k e} (h : s.Canonical) : (s.hswOutOff k e).Canonical :=
  h.put.put.put.modHsw.hswClamp

theorem hswTurnOff {k e} (h : s.Canonical) : (s.hswTurnOff k e).Canonical :=
  ite h.hswOutOff.eotWindow (ite h.eotWindow h)

theorem hswTurnOffAny {k} (h : s.Canonical) : (s.hswTurnOffAny k).Canonical :=
  ite h.free.hswTurnOff h.hswTurnOff

theorem hswUncommand {k} (h : s.Canonical) : (s.hswUncommand k).Canonical :=
  h.put.modHsw

theorem hswProtect {k e} (h : s.Canonical) : (s.hswProtect k e).Canonical := by
  unfold State.hswProtect
  dsimp only
  split
  · refine strForcedOff ?_
    refine put ?_
    refine put ?_
    refine hswUncommand ?_
    split
    · exact h.hswTurnOff
    · exact h.hswTurnOffAny
  · refine put ?_
    refine put ?_
    refine hswUncommand ?_
    split
    · exact h.hswTurnOff
    · exact h.hswTurnOffAny

theorem hswForceOff {d} (h : s.Canonical) : (s.hswForceOff d).Canonical :=
  h.each (fun _ _ hu => ite hu hu.hswProtect)

theorem forceDie {d} (h : s.Canonical) : (s.forceDie d).Canonical :=
  h.solForceOff.hswForceOff

theorem forceStart (h : s.Canonical) : s.forceStart.Canonical :=
  h.solForceOff.solForceOff.each (fun _ _ hu => ite hu hu.hswProtect)

theorem hswDrop {k c reason} (h : s.Canonical) : (s.hswDrop k c reason).Canonical := by
  unfold State.hswDrop
  dsimp only
  split
  · exact h.count.put.strDropped
  · exact h.count.put.satReport
  · exact h.count.put

theorem hswArrive {c} (h : s.Canonical) : (s.hswArrive c).Canonical :=
  ite h (ite h.hswDrop h.modHsw)

theorem pulsePlan {k} (h : s.Canonical) : (s.pulsePlan k).Canonical :=
  ite h.put.modHsw h.putB.raiseIf.modHsw

theorem hswCommandOn {k} (h : s.Canonical) : (s.hswCommandOn k).Canonical :=
  ite (ite h.modHsw.put.pulsePlan.modHsw h.modHsw.put) h.modHsw.hswTurnOn

theorem hswCommandOff {k e} (h : s.Canonical) : (s.hswCommandOff k e).Canonical :=
  h.hswTurnOff.hswUncommand

theorem hswStart {k c e} (h : s.Canonical) : (s.hswStart k c e).Canonical :=
  ite h.hswDrop (ite (ite h h.hswCommandOn) h.hswCommandOff).cmdDone

theorem lhOff {k} (h : s.Canonical) : (s.lhOff k).Canonical :=
  ite h.hswTurnOffAny.put.strForcedOff h.hswTurnOffAny.put

theorem lhDrive {k} (h : s.Canonical) : (s.lhDrive k).Canonical :=
  ite (ite h.hswUncommand.put h.hswUncommand.put.hswTurnOn).put (ite h.lhOff.putB h.hswProtect.putB)

theorem lhDriveAll (h : s.Canonical) : s.lhDriveAll.Canonical :=
  h.each (fun _ _ hu => hu.lhDrive)

theorem lhSync (h : s.Canonical) : s.lhSync.Canonical :=
  ite h ((ite h.modKeep.modKeep.put.put.raiseIf h.modKeep).when (fun _ hu => hu.lhDriveAll))

theorem lhLoad {had} (h : s.Canonical) : (s.lhLoad had).Canonical := by
  unfold State.lhLoad
  split
  · exact h.modKeep.put.put.raiseIf.when (fun _ hu => hu.lhDriveAll)
  · exact h.modKeep.put.put.raiseIf.when (fun _ hu => hu.lhDriveAll)

theorem holdEnd {k} (h : s.Canonical) : (s.holdEnd k).Canonical :=
  ite h.hswTurnOffAny.hswUncommand.put h

theorem holdHandOver (h : s.Canonical) : s.holdHandOver.Canonical :=
  (h.raiseIf.each (fun _ _ hu => ite hu.put.modHsw hu.holdEnd)).with_hsw

theorem hswAbsentOff (h : s.Canonical) : s.hswAbsentOff.Canonical :=
  h.each (fun _ _ hu => hu.hswTurnOffAny.hswUncommand.put.put)

theorem hswSelect (h : s.Canonical) : s.hswSelect.Canonical :=
  h.modKeep.hswAbsentOff

theorem hswDisable {k} (h : s.Canonical) : (s.hswDisable k).Canonical :=
  ite h.count.modHsw
    (have h1 : State.Canonical _ := h.count.modHsw.hswTurnOffAny.hswUncommand.put
     ite h1.strForcedOff h1)

theorem hswModeOff {k} (h : s.Canonical) : (s.hswModeOff k).Canonical :=
  ite h.hswTurnOffAny.hswUncommand.strForcedOff h

theorem hswBlockDisable (h : s.Canonical) : s.hswBlockDisable.Canonical :=
  (h.each (fun _ _ hu => hu.hswDisable)).with_hswGen

theorem dipRelease {g} (h : s.Canonical) : (s.dipRelease g).Canonical :=
  h.with_hswVhs.each (fun _ _ hu => ite hu.put.modHsw hu)

end Sys2Proof.Machine.State.Canonical
end

section
/-! Canonical form: pacers, laps, injection and capture. -/

namespace Sys2Proof.Machine.State.Canonical

open Sys2Proof

variable {s t : State}

theorem modPacer {p f} (h : s.Canonical) : (s.modPacer p f).Canonical :=
  h.frame rfl rfl

theorem modLap {j f} (h : s.Canonical) : (s.modLap j f).Canonical :=
  h.frame rfl rfl

theorem modInj {q f} (h : s.Canonical) : (s.modInj q f).Canonical :=
  h.frame rfl rfl

theorem paceShow {p target} (h : s.Canonical) : (s.paceShow p target).Canonical :=
  h.setInt.setInt.setInt.putB

theorem paceHalt {p} (h : s.Canonical) : (s.paceHalt p).Canonical :=
  h.modPacer.setNat.setNat

theorem pace {p} (h : s.Canonical) : (s.pace p).Canonical := by
  unfold State.pace
  dsimp only
  split
  · exact ite h h.put.paceHalt
  · refine stamp ?_
    refine paceShow ?_
    refine modPacer ?_
    refine putB ?_
    refine raiseIf ?_
    refine putB ?_
    split
    · exact (ite h.put.paceHalt h).modPacer.put
    · exact (ite h.put.paceHalt h).modPacer.put
    · exact (ite h.put.paceHalt h).modPacer.modPacer
    · exact (ite h.put.paceHalt h).modPacer

theorem paceLoad (h : s.Canonical) : s.paceLoad.Canonical :=
  h.each (fun _ _ hu => hu.modPacer.setNat)

theorem paceCmd {p c} (h : s.Canonical) : (s.paceCmd p c).Canonical :=
  h.modPacer

theorem lapLearn {j e m} (h : s.Canonical) : (s.lapLearn j e m).Canonical :=
  ite h.setInt.count.put.raise h.setInt

theorem lapSample {j e fit} (h : s.Canonical) : (s.lapSample j e fit).Canonical :=
  (ite ((ite h.count h).each (fun _ _ hu => hu.lapLearn)) h).setInt.modLap

theorem lapReset {j} (h : s.Canonical) : (s.lapReset j).Canonical :=
  (h.each (fun _ _ hu => hu.setNat)).modLap.raise

theorem lapRebase {j} (h : s.Canonical) : (s.lapRebase j).Canonical :=
  h.lapReset.modLap

theorem lapCell {j m v} (h : s.Canonical) : (s.lapCell j m v).Canonical :=
  h.modLap

theorem injEnd {q st} (h : s.Canonical) : (s.injEnd q st).Canonical :=
  h.put.setNat.modInj

theorem injSample {q} (h : s.Canonical) : (s.injSample q).Canonical :=
  ite h.injEnd
    (have h1 : State.Canonical _ := ite h.put.setNat.modInj h
     ite h1 (ite h1.injEnd (ite h1.modInj h1).setInt.setNat))

theorem injAbort {q} (h : s.Canonical) : (s.injAbort q).Canonical :=
  h.injEnd.put

theorem injArm {q tagged} (h : s.Canonical) : (s.injArm q tagged).Canonical :=
  h.put.setNat.setNat.modInj

theorem injStop {q} (h : s.Canonical) : (s.injStop q).Canonical :=
  ite h.modInj h

theorem modCap {f} (h : s.Canonical) : (s.modCap f).Canonical :=
  h.frame rfl rfl

theorem capEmit {e first last} (h : s.Canonical) : (s.capEmit e first last).2.Canonical := by
  unfold State.capEmit
  extract_lets r r' n
  have hr : r'.2.Canonical := by
    dsimp only [r']
    refine modCap ?_
    dsimp only [r]
    split
    · exact h.laneDrop
    · exact h.laneEmit
  split
  · exact hr.count.put.raiseIf
  · exact hr

theorem capFlush (h : s.Canonical) : s.capFlush.Canonical :=
  ite h h.capEmit.modCap

theorem capHeader {t} (h : s.Canonical) : (s.capHeader t).Canonical :=
  h.capEmit

theorem capEnd {why} (h : s.Canonical) : (s.capEnd why).Canonical :=
  ite h (ite h h.capHeader).capFlush.capEmit.put.put.raiseIf.modCap

theorem capGo (h : s.Canonical) : s.capGo.Canonical := by
  unfold State.capGo
  exact h.put.put.setNat.modCap

theorem capSet (h : s.Canonical) : s.capSet.Canonical :=
  have h1 : State.Canonical _ := ite h.setNat.modCap.capFlush h.setNat.modCap
  ite h1.capEnd h1

theorem capPoll (h : s.Canonical) : s.capPoll.Canonical :=
  ite h.capEnd h

theorem capSample (h : s.Canonical) : s.capSample.Canonical :=
  ite h (ite h.capEnd (ite (ite h.capHeader.modCap.capSet h) (ite h.capSet h.modCap)))

theorem capHeldDone (h : s.Canonical) : s.capHeldDone.Canonical :=
  ite (h.each (fun _ _ hu => hu.raise)).modCap h

theorem paceDisable (h : s.Canonical) : s.paceDisable.Canonical :=
  have h1 : State.Canonical _ := (h.each (fun _ _ hu => hu.paceHalt)).each
    (fun _ _ hu => ite hu.injEnd hu)
  ite h1.count.modCap.capEnd h1

end Sys2Proof.Machine.State.Canonical
end

section
/-! Canonical form: loops and outputs. -/

namespace Sys2Proof.Machine.State.Canonical

open Sys2Proof

variable {s t : State}

theorem modPid {f} (h : s.Canonical) : (s.modPid f).Canonical :=
  h.frame rfl rfl

theorem modLoop {n f} (h : s.Canonical) : (s.modLoop n f).Canonical :=
  h.modPid

theorem modHeat {h f} (hs : s.Canonical) : (s.modHeat h f).Canonical :=
  hs.modPid

theorem destWrite {x} (h : s.Canonical) : (s.destWrite x).Canonical := by
  refine ite h (each ?_ fun _ _ hu => hu.putB.putB)
  split
  · exact h
  · split
    · exact h.put.solCurrent
    · exact h.put
    · exact h.put
    · exact h.put
    · exact h.canWriteBits
    · exact h

theorem destFlush (h : s.Canonical) : s.destFlush.Canonical :=
  h.modPid.each (fun _ _ hu => hu.destWrite)

theorem applied {x} (h : s.Canonical) : (s.applied x).Canonical :=
  (ite h.modPid h.modPid.setInt).each (fun _ _ hu => ite hu.setInt.put.put hu.setInt)

theorem formed {o period v} (h : s.Canonical) : (s.formed o period v).Canonical :=
  ite (ite h.modLoop h.modHeat) (ite h.modLoop h.modHeat).modPid

theorem applyLoop {n} (h : s.Canonical) : (s.applyLoop n).Canonical := by
  unfold State.applyLoop
  split
  · exact h.modLoop.applied
  · exact h

theorem applyHeat {h} (hs : s.Canonical) : (s.applyHeat h).Canonical := by
  unfold State.applyHeat
  split
  · exact ite hs.modHeat hs.modHeat.applied
  · exact hs

theorem applyAll {due heats} (h : s.Canonical) : (s.applyAll due heats).Canonical :=
  (h.each (fun _ _ hu => hu.applyLoop)).each (fun _ _ hu => hu.applyHeat)

theorem fallbackValue {n sp} (h : s.Canonical) : (s.fallbackValue n sp).2.Canonical := by
  unfold State.fallbackValue
  dsimp only
  split
  · dsimp only
    exact h.put
  · split
    · dsimp only
      exact h.put
    · dsimp only
      exact h.put.put
  · dsimp only
    exact h.put

theorem loopFallback {n sp} (h : s.Canonical) : (s.loopFallback n sp).2.Canonical :=
  (ite h.fallbackValue.formed h.fallbackValue)

theorem loopAbort {n} (h : s.Canonical) : (s.loopAbort n).Canonical := by
  unfold State.loopAbort
  split
  · exact h.injAbort
  · exact h

theorem loopLearn {n e fit} (h : s.Canonical) : (s.loopLearn n e fit).Canonical := by
  unfold State.loopLearn
  split
  · exact h
  · exact h.lapSample

theorem followError {n sp y} (h : s.Canonical) : (s.followError n sp y).2.Canonical :=
  h.putB.modLoop.raiseIf

theorem enterFallback {n why} (h : s.Canonical) : (s.enterFallback n why).Canonical :=
  h.put.put.put.raiseIf.loopAbort

theorem pid {n closing sp y ff} (h : s.Canonical) : (s.pid n closing sp y ff).2.Canonical :=
  h.setInt.modLoop.loopLearn

theorem pidFinish {r w} (h : s.Canonical) : (s.pidFinish r w).Canonical :=
  ite h.setInt.put.put.raise.put h.setInt.put.put

theorem enterOpen {n} (h : s.Canonical) : (s.enterOpen n).Canonical :=
  h.put.put.modLoop

theorem loopCommand {n} (h : s.Canonical) : (s.loopCommand n).2.Canonical := by
  unfold State.loopCommand
  dsimp only
  split
  · dsimp only
    exact h.modLoop.enterOpen
  · split
    · dsimp only
      exact h.modLoop
    · dsimp only
      exact ite h.modLoop.enterOpen h.modLoop
    · dsimp only
      exact h.modLoop
    · dsimp only
      exact h.modLoop

theorem loopClosed {n closing sp y} (h : s.Canonical) :
    (s.loopClosed n closing sp y).2.Canonical := by
  unfold State.loopClosed
  extract_lets s1 l lost s2 fe frozen s3 fall
  have h1 : s1.Canonical := ite h.put.put.modLoop h
  have h3 : s3.Canonical := h1.modLoop.followError
  split
  · exact h3.raise.loopLearn.enterFallback.loopFallback
  split
  · exact h3.raise.loopLearn.enterFallback.loopFallback
  split
  · exact h3.loopLearn.enterFallback.loopFallback
  · exact h3.putB.pid

theorem sampleClear {n} (h : s.Canonical) : (s.sampleClear n).Canonical :=
  ite h.put.put.put h.put.put.put.put

theorem loopStep {n} (h : s.Canonical) : (s.loopStep n).2.Canonical := by
  unfold State.loopStep
  extract_lets s1 s2 s3 s4 k s5 st closed sp y s6 r s7 r' base
  have h2 : s2.Canonical := by
    refine sampleClear ?_
    dsimp only [s1]
    split
    · exact ite h.injSample h
    · exact h
  have h4 : s4.Canonical := h2.loopLearn.put.put.loopAbort.modLoop
  have h6 : s6.Canonical := h2.loopCommand.setInt.setInt.modLoop
  split
  · split
    · exact h2.loopLearn
    · exact ite h4.formed h4
  split
  · exact h6.loopClosed
  split
  · exact h6.loopLearn.loopFallback
  split
  · exact h6.loopLearn
  · exact h6.loopLearn.formed

theorem heatStep {h rs} (hs : s.Canonical) : (s.heatStep h rs).Canonical := by
  unfold State.heatStep
  dsimp only
  split
  · exact hs.each (fun _ _ hu => hu.pidFinish)
  · split
    · exact hs.put.putB.formed.each (fun _ _ hu => hu.put)
    · exact (((ite hs.put.putB.count.raise hs.put.putB).put.modHeat.each
        (fun _ _ hu => hu.pidFinish)).each (fun _ _ hu => hu.putB)).formed

theorem ctlSample (h : s.Canonical) : s.ctlSample.Canonical := by
  unfold State.ctlSample
  extract_lets s1 due heats s2 r s3 s4
  have h2 : s2.Canonical := h.destFlush.applyAll.each fun _ _ hu => hu.stamp
  have hr : r.2.Canonical := List.foldlRecOn (motive := fun r : List LoopRes × State =>
    r.2.Canonical) due _
    (b := ([], s2)) h2 fun _ hr _ _ => hr.loopStep
  have h3 : s3.Canonical := hr.each fun _ _ hu => hu.heatStep
  have h4 : s4.Canonical := h3.each fun _ _ hu => hu.pidFinish.formed
  exact ite h4.capSample h4

theorem loopCmd {n c} (h : s.Canonical) : (s.loopCmd n c).Canonical :=
  h.modLoop

theorem writeSafe {o n} (h : s.Canonical) : (s.writeSafe o n).Canonical :=
  ite h.applied h.applied.destWrite

theorem ctlDisable (h : s.Canonical) : s.ctlDisable.Canonical :=
  ((h.count.modPid.each (fun _ _ hu => hu.modLoop)).each (fun _ _ hu => hu.modHeat)).each
    (fun _ _ hu => hu.writeSafe)

theorem ctlEnable (h : s.Canonical) : s.ctlEnable.Canonical :=
  h.each (fun _ _ hu => ite hu.modLoop (ite hu.modLoop hu))

end Sys2Proof.Machine.State.Canonical
end

section
/-! Canonical form: clocks, supplies and memory. -/

namespace Sys2Proof.Machine.State.Canonical

open Sys2Proof

variable {s t : State}

theorem modClk {f} (h : s.Canonical) : (s.modClk f).Canonical :=
  h.frame rfl rfl

theorem driveSafe {d} (h : s.Canonical) : (s.driveSafe d).Canonical :=
  ite h h.put.raise.put.forceDie

theorem pllsTo {mrc} (h : s.Canonical) : (s.pllsTo mrc).Canonical := by
  unfold State.pllsTo
  exact h.put.put.modClk

theorem islRun {i} (h : s.Canonical) : (s.islRun i).Canonical :=
  h.modClk.when (fun _ hu => hu.gnssReturn)

theorem askStop {l} (h : s.Canonical) : (s.askStop l).Canonical :=
  h.modClk

theorem islHalt {i} (h : s.Canonical) : (s.islHalt i).Canonical := by
  unfold State.islHalt
  dsimp only
  split
  · exact h.modClk.gnssStop
  · exact h.modClk.driveSafe
  · exact h.modClk.driveSafe
  · exact h.modClk

theorem startTrip {cause} (h : s.Canonical) : (s.startTrip cause).Canonical :=
  ite h h.askStop.put.put.put.put.put.raise.put.put.modClk.with_pwr_sec.forceStart.canCut

theorem fallback (h : s.Canonical) : s.fallback.Canonical :=
  h.put.raise.count.put.modClk.askStop.navFallback.canClock

theorem xoTrip (h : s.Canonical) : s.xoTrip.Canonical :=
  ite h.put.modClk (ite h.put.modClk.pllsTo.fallback h.startTrip)

theorem mrcTrim {trim err} (h : s.Canonical) : (s.mrcTrim trim err).Canonical :=
  h.put.put.modClk

theorem fbReturn {trim err} (h : s.Canonical) : (s.fbReturn trim err).Canonical :=
  ite h.pllsTo.put.canClock.islRun.navXoBack h.pllsTo.put.canClock.islRun.navXoBack.mrcTrim

theorem hostReturn (h : s.Canonical) : s.hostReturn.Canonical :=
  ite (ite h.fbReturn h.free.free.fbReturn) h

theorem xoCounted {c trim err} (h : s.Canonical) : (s.xoCounted c trim err).Canonical :=
  ite (ite h.put.put.modClk.xoTrip h.put.put.modClk.modClk)
    (ite (ite (ite h.put.put.modClk.put.modClk.fbReturn h.put.put.modClk.put.modClk)
    (ite h.put.put.modClk.put.modClk.pllsTo.canClock.islRun.navXoBack.mrcTrim
    h.put.put.modClk.put.modClk)) h.put.put.modClk)

theorem mrcReady (h : s.Canonical) : s.mrcReady.Canonical :=
  ite h
    (have h1 : State.Canonical _ := h.each (fun _ _ hu => ite hu hu.islRun)
     ite h1.pllsTo.modClk.fallback h1.pllsTo.modClk)

theorem mrcChecked {n} (h : s.Canonical) : (s.mrcChecked n).Canonical :=
  ite
    (have h1 : State.Canonical _ := ite h.put.modClk.put h.put.modClk
     ite (ite h1.mrcReady h1).put.modClk (ite h1.mrcReady h1))
       (ite h.put.modClk.put.raiseIf h.put.modClk)

theorem mrcMeasured {ppm temp} (h : s.Canonical) : (s.mrcMeasured ppm temp).Canonical := by
  unfold State.mrcMeasured
  dsimp only
  split
  · exact h.modClk
  · split
    · split
      · exact ite h.setNat.modClk.free.put.put h.setNat.modClk
      · exact h.setNat.modClk
    · exact h

theorem setGated {i b} (h : s.Canonical) : (s.setGated i b).Canonical :=
  h.setNat

theorem gateWritten {old} (h : s.Canonical) : (s.gateWritten old).Canonical :=
  h.each (fun _ _ hu => ite hu (ite hu.modClk (hu.when (fun _ hv => hv.setGated)).modClk))

theorem gateDrop {i} (h : s.Canonical) : (s.gateDrop i).Canonical := by
  unfold State.gateDrop
  exact h.setNat.count.modClk

theorem clkDisable (h : s.Canonical) : s.clkDisable.Canonical :=
  h.each (fun _ _ hu => hu.gateDrop)

theorem avsJudge {low} (h : s.Canonical) : (s.avsJudge low).Canonical := by
  unfold State.avsJudge
  split
  · exact h.modClk
  · split
    · exact h.modClk
    · exact ite h.raise.modClk h

theorem modPwr {f} (h : s.Canonical) : (s.modPwr f).Canonical :=
  h.frame rfl rfl

theorem modFlash {f} (h : s.Canonical) : (s.modFlash f).Canonical :=
  h.frame rfl rfl

theorem storeItems {items f} (h : s.Canonical) : (s.storeItems items f).Canonical :=
  h.modFlash

theorem storeHours (h : s.Canonical) : s.storeHours.Canonical :=
  h.storeItems

theorem storePeriodic (h : s.Canonical) : s.storePeriodic.Canonical :=
  h.storeItems

theorem storeTel (h : s.Canonical) : s.storeTel.Canonical :=
  h.storeItems

theorem persist (h : s.Canonical) : s.persist.Canonical :=
  ite h (ite h.count h.put.modFlash)

theorem pwrDisable (h : s.Canonical) : s.pwrDisable.Canonical := by
  unfold State.pwrDisable
  exact (ite h.count.put.modFlash h).modFlash

theorem restoreLat (h : s.Canonical) : s.restoreLat.Canonical := by
  unfold State.restoreLat
  split
  · exact (h.each (fun _ _ hu => hu.setWord.put.put.put)).each
      (fun _ _ hu => hu.setWord.modSw.eotShow)
  · exact (h.each (fun _ _ hu => hu.put.put)).each (fun _ _ hu => hu.setNat)

theorem restoreCycles (h : s.Canonical) : s.restoreCycles.Canonical :=
  (h.each (fun _ _ hu => hu.setWord)).each (fun _ _ hu => hu.setWord)

theorem plbStop {u st n} (h : s.Canonical) : (s.plbStop u st n).Canonical :=
  h.put.put.with_plb

theorem plbLost {u n} (h : s.Canonical) : (s.plbLost u n).Canonical :=
  h.plbStop.put

theorem plbGo {u} (h : s.Canonical) : (s.plbGo u).Canonical :=
  ite h.count h.put.put.put.put.with_plb

theorem plbAbort {u} (h : s.Canonical) : (s.plbAbort u).Canonical := by
  unfold State.plbAbort
  split
  · exact h
  · exact h.plbStop

theorem plbResult {r} (h : s.Canonical) : (s.plbResult r).2.Canonical := by
  unfold State.plbResult
  split
  · exact h
  · dsimp only
    exact h.free

theorem plbFinish {u r} (h : s.Canonical) : (s.plbFinish u r).Canonical :=
  have h1 : State.Canonical _ := ite h.plbResult.setNat64 h.plbResult
  ite h1.put.setNat64.put.with_plb
    (have h2 : State.Canonical _ := h1.put.setNat64.put.with_plb.put.putB.with_plbMis
     ite h2 h2.put.raise)

theorem plbDone {u} (h : s.Canonical) : (s.plbDone u).Canonical := by
  unfold State.plbDone
  split
  · exact h
  · split
    · exact h.plbLost
    · exact h.plbFinish

theorem plbDisable (h : s.Canonical) : s.plbDisable.Canonical :=
  h.each (fun _ _ hu => ite hu.plbAbort.count hu)

theorem modMem {f} (h : s.Canonical) : (s.modMem f).Canonical :=
  h.frame rfl rfl

theorem scramble {n a} (h : s.Canonical) : (s.scramble a n).Canonical := by
  induction n generalizing s a with
  | zero => exact h
  | succ n ih => exact ih h.free.setByte

theorem lanePageLost {a n} (h : s.Canonical) : (s.lanePageLost a n).Canonical :=
  ite (h.each (fun _ _ hu => hu.setBytes)) (h.each (fun _ _ hu => hu.setBytes)).count.raise

theorem plbPageLost {a u} (h : s.Canonical) : (s.plbPageLost a u).Canonical := by
  unfold State.plbPageLost
  split
  · exact h
  · split
    · exact ite h.plbLost h
    · exact h

theorem pageLost {a eng} (h : s.Canonical) : (s.pageLost a eng).Canonical :=
  ite (h.each (fun _ _ hu => hu.plbPageLost)).mapPageLost
    (have h1 : State.Canonical _ := (h.each (fun _ _ hu => hu.plbPageLost)).scramble
     ite (ite h1 (ite h1.snapBreak h1.snapBreak.put))
       (ite (h1.each (fun _ _ hu => hu.lanePageLost)) (ite h1.raise.modStr h1.raise)))

theorem deadFill {p} (h : s.Canonical) : (s.deadFill p).Canonical :=
  ite (ite h.setBytes h) (ite h.setBytes h)

theorem retirePage {p eng} (h : s.Canonical) : (s.retirePage p eng).Canonical := by
  unfold State.retirePage
  exact
    have h1 : State.Canonical _ := ite h.pageLost h.pageLost.deadFill
    ite h1.modMem.put.put.put.raise.put h1.modMem.put.raise.put

theorem retire {page eng} (h : s.Canonical) : (s.retire page eng).Canonical := by
  unfold State.retire
  split
  · exact h.retirePage
  · split
    · exact h.retirePage
    · exact ite h h.modMem.retirePage

theorem dramError {a e} (h : s.Canonical) : (s.dramError a e).Canonical :=
  ite h.count.count.retire h.count

theorem dramTest {spares pages} (h : s.Canonical) : (s.dramTest spares pages).Canonical :=
  have h1 : State.Canonical _ := h.each (fun _ _ hu => hu.scramble.deadFill)
  ite h1.modMem.put.raise.put h1.modMem.put

theorem wireLost {c kind} (h : s.Canonical) : (s.wireLost c kind).Canonical := by
  unfold State.wireLost
  split
  · exact h.strDropped
  · exact h.count.satReport
  · exact h.count

theorem calibrated {u ok} (h : s.Canonical) : (s.calibrated u ok).Canonical := by
  unfold State.calibrated
  split
  · split
    · exact h.modMem
    · exact h
  · exact h.count.raise.put

theorem extreme {f hi v} (h : s.Canonical) : (s.extreme f hi v).Canonical :=
  h.puts

theorem telSample (h : s.Canonical) : s.telSample.Canonical :=
  have h1 : State.Canonical _ := h.extreme.extreme.extreme.extreme.put.put
  ite h1.put.put h1

theorem telClear (h : s.Canonical) : s.telClear.Canonical :=
  h.put.put.put.put.put.put.put.put.setNat

theorem memDisable (h : s.Canonical) : s.memDisable.Canonical := by
  unfold State.memDisable
  exact h.count.modFlash

end Sys2Proof.Machine.State.Canonical
end

section
/-! Canonical form: the log and the keys. -/

namespace Sys2Proof.Machine.State.Canonical

open Sys2Proof

variable {s t : State}

theorem modRec {f} (h : s.Canonical) : (s.modRec f).Canonical :=
  h.frame rfl rfl

theorem recShow (h : s.Canonical) : s.recShow.Canonical :=
  h.put.put.put.put.putB

theorem logProgram (h : s.Canonical) : s.logProgram.Canonical := by
  unfold State.logProgram
  split
  · exact h
  · exact ite h (ite h.modRec.raise.put.count.modRec h.modRec).recShow

theorem logErase (h : s.Canonical) : s.logErase.Canonical :=
  h.modRec.setNat.recShow

theorem sectorAt {k d} (h : s.Canonical) : (s.sectorAt k d).Canonical :=
  h.modFlash

theorem wear {planeA sector} (h : s.Canonical) : (s.wear planeA sector).Canonical :=
  h.modFlash.raiseIf

theorem wearB {k n} (h : s.Canonical) : (s.wearB k n).Canonical :=
  h.each (fun _ _ hu => hu.wear)

theorem cstClear (h : s.Canonical) : s.cstClear.Canonical :=
  h.modRec.put.wearB

theorem logDrain {cst} (h : s.Canonical) : (s.logDrain cst).Canonical := by
  unfold State.logDrain
  exact h.put.putB.put.modRec

theorem logDrainEnd (h : s.Canonical) : s.logDrainEnd.Canonical :=
  h.modRec.put

theorem logDrainStep (h : s.Canonical) : s.logDrainStep.Canonical := by
  unfold State.logDrainStep
  split
  · exact h
  · split
    · exact h.logDrainEnd
    · exact h.laneProduce.put.modRec

theorem logDrainPump (h : s.Canonical) : s.logDrainPump.Canonical :=
  ite h.logDrainStep h

theorem logDrainAll {k} (h : s.Canonical) : (s.logDrainAll k).Canonical := by
  induction k generalizing s with
  | zero => exact h
  | succ k ih => exact ite h (ih h.logDrainStep)

theorem logSlot (h : s.Canonical) : s.logSlot.Canonical :=
  h.logProgram.logProgram.logProgram.logProgram

theorem flashServe {o} (h : s.Canonical) : (s.flashServe o).Canonical := by
  unfold State.flashServe
  split
  · exact h.storeHours
  · exact h.storePeriodic
  · exact h.modFlash
  · exact h.storeTel
  · exact h.wearB
  · exact h.sectorAt.sectorAt
  · exact h
  · exact h

theorem flashFirst {o t} {set : List FlashOp → State → State} (h : s.Canonical)
    (hf : ∀ l u, u.Canonical → (set l u).Canonical) : (s.flashFirst o set t).Canonical := by
  unfold State.flashFirst
  split
  · exact hf _ _ h
  · exact (hf _ _ h).flashServe

theorem flashBack (h : s.Canonical) : s.flashBack.Canonical := by
  unfold State.flashBack
  split
  · exact h
  · exact h.flashFirst (fun _ _ hu => hu.modFlash)

theorem flashSlot (h : s.Canonical) : s.flashSlot.Canonical := by
  unfold State.flashSlot
  dsimp only
  split
  · exact h.flashBack.modFlash
  · split
    · exact h.storeHours.modFlash.modFlash
    · split
      · exact h.logSlot.modFlash
      · split
        · exact (h.flashFirst (fun _ _ hu => hu.modFlash)).modFlash
        · exact ite h.flashBack.modFlash h.modFlash

theorem flashQueue {w} (h : s.Canonical) : (s.flashQueue w).Canonical := by
  unfold State.flashQueue
  split
  · exact ite h.modFlash h
  · exact ite h.modFlash h
  · exact ite h.modFlash h

theorem sectorRetire {k} (h : s.Canonical) : (s.sectorRetire k).2.Canonical := by
  unfold State.sectorRetire
  split
  · dsimp only
    exact h.raise.put
  · dsimp only
    exact h.sectorAt.modFlash.raiseIf

theorem storeUndo (h : s.Canonical) : s.storeUndo.Canonical :=
  h.modFlash

theorem recDisable (h : s.Canonical) : s.recDisable.Canonical :=
  (ite h.count.modRec.logDrainEnd h.count.modRec).recShow

theorem modSec {f} (h : s.Canonical) : (s.modSec f).Canonical :=
  h.frame rfl rfl

theorem signDone (h : s.Canonical) : s.signDone.Canonical :=
  ite h h.modSec

theorem fwNote {b} (h : s.Canonical) : (s.fwNote b).Canonical := by
  unfold State.fwNote
  exact h.modSec

theorem fwPreference {slot} (h : s.Canonical) : (s.fwPreference slot).Canonical := by
  unfold State.fwPreference
  split
  · exact h
  · refine modSec ?_
    split
    · exact h
    · exact h.modFlash
    · exact h.modFlash

theorem secureBoot {kat slot} (h : s.Canonical) : (s.secureBoot kat slot).Canonical :=
  ite h.put.put.modSec.fwPreference.put.put
    (ite h.put.put.modSec.fwPreference.fwNote.put.modSec.put.put
    (have h1 : State.Canonical _ := h.put.put.modSec.fwPreference.fwNote.fwNote
     ite h1.put.modSec.put.put.modSec h1.put.put))

theorem fwSet {b l} (h : s.Canonical) : (s.fwSet b l).Canonical := by
  unfold State.fwSet
  exact h.modSec.modSec

theorem fwSpoil {b l} (h : s.Canonical) : (s.fwSpoil b l).Canonical :=
  h.fwSet.with_fresh

theorem certWatch (h : s.Canonical) : s.certWatch.Canonical := by
  unfold State.certWatch
  exact (h.when (fun _ hu => hu.raiseFailed)).modSec

theorem sessionEnd (h : s.Canonical) : s.sessionEnd.Canonical :=
  ite h.raise.modSec h

theorem secStart {cmd auth} (h : s.Canonical) : (s.secStart cmd auth).Canonical :=
  ite h.put.modSec.modFlash h.put.modSec

theorem oemProvision (h : s.Canonical) : s.oemProvision.2.Canonical := by
  unfold State.oemProvision
  dsimp only
  split
  · exact h
  · split
    · dsimp only
      exact h.modSec
    · split
      · dsimp only
        exact h.modSec
      · exact h

theorem dbgChallenge (h : s.Canonical) : s.dbgChallenge.2.Canonical := by
  unfold State.dbgChallenge
  split
  · exact h
  · split
    · exact h
    · dsimp only
      exact h.random.modSec

theorem dbgUnlock (h : s.Canonical) : s.dbgUnlock.2.Canonical := by
  unfold State.dbgUnlock
  dsimp only
  split
  · exact h
  · split
    · exact h
    · split
      · dsimp only
        exact h.modSec.modSec.raise.put.certWatch
      · dsimp only
        exact h.modSec

theorem fwVerify (h : s.Canonical) : s.fwVerify.2.Canonical :=
  have h1 : State.Canonical _ := h.fwNote.modSec.each (fun _ _ hu => hu.raise)
  ite h1.put h1

theorem arbCommit (h : s.Canonical) : s.arbCommit.Canonical := by
  unfold State.arbCommit
  exact h.modSec

theorem secDo {cmd flashOk} (h : s.Canonical) : (s.secDo cmd flashOk).2.Canonical := by
  unfold State.secDo
  split
  · dsimp only
    split
    · exact h.wearB.fwSet
    · exact h.wearB.fwSpoil
  · dsimp only
    split
    · exact h.fwSet
    · exact h.fwSpoil
  · exact h.fwVerify
  · split
    · dsimp only
      exact h.storeItems
    · exact h
  · split
    · exact h.arbCommit
    · exact h
  · exact h.oemProvision
  · exact h.dbgChallenge
  · exact h.dbgUnlock
  · dsimp only
    exact h.modSec

theorem secDisable (h : s.Canonical) : s.secDisable.Canonical := by
  refine certWatch (modSec (sessionEnd ?_))
  split
  · exact h
  next c _ =>
    have hr : (if c.1 = 3 then s.free 1 else (1, s)).2.Canonical := by
      split
      · exact h.free
      · exact h
    exact ite hr.count.put.modSec hr

theorem shadowTake {b} (h : s.Canonical) : (s.shadowTake b).Canonical :=
  h.putB.with_shadow

theorem shadowRelease {b} (h : s.Canonical) : (s.shadowRelease b).Canonical :=
  h.putB.with_shadow

theorem modTrig {t f} (h : s.Canonical) : (s.modTrig t f).Canonical :=
  h.modRec

theorem recForm {t v tag boot} (h : s.Canonical) : (s.recForm t v tag boot).Canonical :=
  ite h.count (ite (ite h.count h.count.raise.put).modRec h.modRec.modTrig.recShow)

theorem recFire {t v tag} (h : s.Canonical) : (s.recFire t v tag).Canonical :=
  ite h.count.modTrig h.count.modTrig.setNat64.recForm

theorem recTrigger {occ cmp t} (h : s.Canonical) : (s.recTrigger occ cmp t).Canonical :=
  ite h (ite (h.each (fun _ _ hu => hu.recFire)) (ite (ite h.modTrig.recFire h.modTrig) h))

theorem recTake {cmp} (h : s.Canonical) : (s.recTake cmp).Canonical :=
  ite (h.with_occ.each (fun _ _ hu => hu.recTrigger)) h.with_occ

theorem recBoot (h : s.Canonical) : s.recBoot.Canonical :=
  ite (h.with_occ.each (fun _ _ hu => ite hu.count.modTrig.setNat64.recForm hu)) h.with_occ

end Sys2Proof.Machine.State.Canonical
end

section
/-! Canonical form: what a register's change causes. -/

namespace Sys2Proof.Machine.State.Canonical

open Sys2Proof

variable {s t : State}

theorem onIdx {a r count} {f : State → Nat → State} (h : s.Canonical)
    (hf : ∀ u n, u.Canonical → (f u n).Canonical) :
    (s.onIdx a r count f).Canonical := by
  unfold State.onIdx
  split
  · exact hf _ _ h
  · exact h

theorem bulkDiscard (h : s.Canonical) : s.bulkDiscard.Canonical :=
  ite h.count.put h

theorem laneStop {n} (h : s.Canonical) : (s.laneStop n).Canonical :=
  ite h.laneClear.chunkSettle (ite h.laneClear.geoSettle (ite h.laneClear.modCap h.laneClear))

theorem blockDisable {b} (h : s.Canonical) : (s.blockDisable b).Canonical := by
  unfold State.blockDisable
  split
  · exact h
  · exact h.clkDisable
  · exact h.pwrDisable
  · exact h
  · exact h.each (fun _ _ hu => hu.laneStop)
  · exact h.bulkDiscard
  · exact h.gnssDisable
  · exact h.modNav
  · exact h.fbkDisable
  · exact h.geoDisable
  · exact h.strDisable
  · exact h.solBlockDisable
  · exact h
  · exact h.hswBlockDisable
  · exact h.ctlDisable
  · exact h.paceDisable
  · exact h.canDisable
  · exact h.recDisable
  · exact h.memDisable
  · exact h.secDisable
  · exact h.plbDisable

theorem blockEnable {b} (h : s.Canonical) : (s.blockEnable b).Canonical := by
  unfold State.blockEnable
  split
  · exact h.bulkDiscard
  · exact h.gnssEnable
  · exact h.navEnable
  · exact h.strEnable
  · exact h.solResume
  · exact h.ctlEnable
  · exact h.canEnable
  · exact h.certWatch
  · exact h
  · exact h
  · exact h
  · exact h
  · exact h
  · exact h
  · exact h
  · exact h
  · exact h
  · exact h
  · exact h
  · exact h
  · exact h

theorem ctrlChanged {s0 : State} {b} (h' : s.Canonical) : (s0.ctrlChanged s b).Canonical :=
  have h1 : State.Canonical _ := ite h'.blockDisable (ite h'.blockEnable h')
  ite h1.shadowRelease (ite h1.shadowTake h1)

theorem laneChanged {s0 : State} {a} (h' : s.Canonical) : (s0.laneChanged s a).Canonical := by
  unfold State.laneChanged
  exact (((h'.onIdx (fun _ _ hu => ite (ite hu.laneStop hu).put.put (ite hu.laneStop hu))).onIdx
    (fun _ _ hu => hu.put.put)).onIdx (fun _ _ hu => hu.put.put)).onIdx (fun _ _ hu => hu.laneDead)

theorem limitShow {n} (h : s.Canonical) : (s.limitShow n).Canonical :=
  ite h.encJumped h.limitNote

theorem fbkChanged {s0 : State} {a} (h' : s.Canonical) : (s0.fbkChanged s a).Canonical := by
  unfold State.fbkChanged
  exact
    have h3 : State.Canonical _ := ((((h'.onIdx (fun _ _ hu =>
      (ite hu.encStill hu).encVio.limitShow)).onIdx (fun _ _ hu => hu.encVio)).onIdx
      (fun _ _ hu => hu.encStill)).onIdx (fun _ _ hu => hu.limitShow)).onIdx
      (fun _ _ hu => hu.limitShow)
    ((ite (h3.onIdx (fun _ _ hu => hu.encJumped)).fusNone
      (h3.onIdx (fun _ _ hu => hu.encJumped))).each
      (fun _ _ hu => hu.onIdx (fun _ _ hv => ite hv.cmpEval hv))).onIdx
      (fun _ _ hu => ite hu.put.put.modAin hu)

theorem solChanged {s0 : State} {a} (h' : s.Canonical) : (s0.solChanged s a).Canonical := by
  unfold State.solChanged
  exact ((((((h'.onIdx (fun _ _ hu => ite hu.solChDisable hu.solCurrent)).onIdx
    (fun _ _ hu => hu.solCurrent)).onIdx (fun _ _ hu => hu.solCurrent)).onIdx
    (fun _ _ hu => hu.solCurrent)).onIdx (fun _ _ hu => ite hu.dutyClear hu.dutyOpen)).onIdx
    (fun _ _ hu => hu.dutyOpen)).onIdx (fun _ _ hu => ite hu.adaptReset
    (ite hu.put (ite hu hu.setTarget)))

theorem pointFreed {p} (h : s.Canonical) : (s.pointFreed p).Canonical :=
  h.modPt

theorem blockChanged {s0 : State} {a} (h' : s.Canonical) : (s0.blockChanged s a).Canonical := by
  unfold State.blockChanged
  split
  · exact ite h'.gateWritten (h'.when (fun _ hu => hu.hostReturn))
  · exact h'.laneChanged
  · exact ite (ite h'.snapBreak h') ((h'.onIdx (fun _ _ hu => hu.chWritten)).onIdx
      (fun _ _ hu => hu.chWritten))
  · exact h'.when (fun _ hu => hu.modNav)
  · exact h'.fbkChanged
  · exact h'.onIdx (fun _ _ hu => ite hu.pointFreed hu)
  · exact (h'.onIdx (fun _ _ hu => ite hu.pointFreed hu)).onIdx (fun _ _ hu => ite hu.pointFreed hu)
  · exact h'.solChanged
  · exact ((h'.onIdx (fun _ _ hu => ite hu.armCut hu)).onIdx (fun _ _ hu => hu.armInit)).onIdx
      (fun _ _ hu => hu.eotConf)
  · exact (h'.onIdx (fun _ _ hu => ite hu.hswDisable hu)).onIdx (fun _ _ hu => hu.hswModeOff)
  · exact (h'.onIdx (fun _ _ hu => ite hu.modLoop hu)).onIdx (fun _ _ hu => ite hu.modLoop hu)
  · exact ((h'.onIdx (fun _ _ hu => ite hu.lapRebase hu)).onIdx (fun _ _ hu => hu.lapRebase)).onIdx
      (fun _ _ hu => hu.lapRebase)
  · exact h'.onIdx (fun _ _ hu => hu.canModeStep)
  · exact h'

theorem onChange {s0 : State} {a} (h' : s.Canonical) : (s0.onChange s a).Canonical := by
  unfold State.onChange
  split
  · exact h'
  · split
    · split
      · exact h'.ctrlChanged
      · exact h'
    · exact h'.blockChanged

theorem change {a w} (h : s.Canonical) : (s.change a w).Canonical :=
  ite h h.setWord.onChange

end Sys2Proof.Machine.State.Canonical
end

section
/-! Canonical form: footing, courses and images. -/

namespace Sys2Proof.Machine.State.Canonical

open Sys2Proof

variable {s t : State}

theorem modCfg {f} (h : s.Canonical) : (s.modCfg f).Canonical :=
  h.frame rfl rfl

theorem changeAll {l} (h : s.Canonical) : (s.changeAll l).Canonical :=
  (h.each (fun _ _ hu => hu.setWord)).each (fun _ _ hu => hu.onChange)

theorem footApply {f p} (h : s.Canonical) : (s.footApply f p).Canonical :=
  (h.each (fun _ _ hu => hu.setWord)).changeAll.each (fun _ _ hu => hu.putB)

theorem courseFieldsAt {b prev cur p} (h : s.Canonical) :
    (s.courseFieldsAt b prev cur p).Canonical :=
  ite (h.changeAll.each (fun _ _ hu => ite hu.modLoop hu)) h.changeAll

theorem courseFields {b prev cur} (h : s.Canonical) : (s.courseFields b prev cur).Canonical :=
  h.courseFieldsAt

theorem courseStart {slot} (h : s.Canonical) : (s.courseStart slot).Canonical :=
  h.modCfg.put.put.setNat.each (fun _ _ hu => hu.put)

theorem courseRequest {slot} (h : s.Canonical) : (s.courseRequest slot).Canonical :=
  ite h.put.put h.courseStart

theorem courseDone (h : s.Canonical) : s.courseDone.Canonical :=
  ite h.put.put.raise.put.put.courseStart h.put.put.raise

theorem courseShow {b} (h : s.Canonical) : (s.courseShow b).Canonical :=
  h.put.put.put

theorem courseTaken {b} (h : s.Canonical) : (s.courseTaken b).Canonical :=
  have h1 : State.Canonical _ := ite h.courseShow.holdHandOver h.courseShow
  ite h1.setNat.courseDone h1.setNat

theorem courseTake {b} (h : s.Canonical) : (s.courseTake b).Canonical :=
  h.courseFields.courseTaken

theorem canCourse (h : s.Canonical) : s.canCourse.Canonical :=
  ite h.courseFieldsAt.courseTaken h.courseFieldsAt.modCfg

theorem canCourseLate (h : s.Canonical) : s.canCourseLate.Canonical :=
  ite h (ite h.courseFieldsAt.modCfg.courseTaken h.courseFieldsAt.modCfg)

theorem paceCourse (h : s.Canonical) : s.paceCourse.Canonical :=
  ite h.courseFieldsAt.modCfg.courseTaken h.courseFieldsAt.modCfg

theorem safeCourse {booted} (h : s.Canonical) : (s.safeCourse booted).Canonical :=
  ((h.put.put.put.put.raise.each (fun _ _ hu => hu.put)).each (fun _ _ hu => hu.holdEnd)).certWatch

theorem bootCourses {f l} (h : s.Canonical) : (s.bootCourses f l).Canonical := by
  unfold State.bootCourses
  refine h.each fun _ _ hu => ?_
  split
  · exact hu.modCfg.setNat
  · exact hu.raise

theorem bootFooting {k f} (h : s.Canonical) : (s.bootFooting k f).Canonical :=
  have h1 : State.Canonical _ := h.put.put.setNat.modCfg.hswSelect.footApply.bootCourses
  ite h1.courseStart h1.raise.courseStart

theorem selectFooting {safe} (h : s.Canonical) : (s.selectFooting safe).Canonical := by
  unfold State.selectFooting
  dsimp only
  split
  · exact ite (ite (ite h.raise.put h).raise.put (ite h.raise.put
      h)).putB.putB.setNat.setNat.modCfg.safeCourse
      (ite (ite h.raise.put h).raise.put (ite h.raise.put
      h)).putB.putB.setNat.setNat.modCfg.bootFooting
  · exact ite (ite (ite h.raise.put h).raise.put (ite h.raise.put
      h)).putB.putB.setNat.setNat.modCfg.raise.safeCourse
      (ite (ite h.raise.put h).raise.put (ite h.raise.put
      h)).putB.putB.setNat.setNat.modCfg.raise.bootFooting
  · exact ite (ite (ite h.raise.put h).raise.put (ite h.raise.put
      h)).putB.putB.setNat.setNat.modCfg.raise.safeCourse
      (ite (ite h.raise.put h).raise.put (ite h.raise.put
      h)).putB.putB.setNat.setNat.modCfg.raise.bootFooting
  · exact (ite (ite h.raise.put h).raise.put (ite h.raise.put
      h)).putB.putB.setNat.setNat.modCfg.safeCourse

theorem setOther {l} (h : s.Canonical) : (s.setOther l).Canonical :=
  ite h.modCfg h.modCfg

theorem spoilOther {l} (h : s.Canonical) : (s.spoilOther l).Canonical :=
  h.setOther.with_fresh

theorem loadCourse {slot} (h : s.Canonical) : (s.loadCourse slot).2.Canonical := by
  unfold State.loadCourse
  dsimp only
  split
  · split
    · exact h
    · split
      · exact h
      · dsimp only
        exact h.modCfg.setNat.setNat
  · exact h

theorem imgStart {cmd slot} (h : s.Canonical) : (s.imgStart cmd slot).Canonical :=
  ite h.put.modCfg.modSec.modFlash h.put.modCfg.modSec

theorem imgDo {c flashOk} (h : s.Canonical) : (s.imgDo c flashOk).2.Canonical := by
  cases c with
  | erase =>
    unfold State.imgDo
    dsimp only
    split
    · exact h.wearB.setOther
    · exact h.wearB.spoilOther
  | program o n =>
    unfold State.imgDo
    dsimp only
    split
    · exact h
    split
    · exact h.setOther
    · exact h.spoilOther
  | verify => exact ite h.raise.put h
  | load n => exact h.loadCourse

theorem regsReset {b} (h : s.Canonical) : (s.regsReset b).Canonical :=
  h.each (fun _ _ hu => hu.setWord)

theorem coreReset {b} (h : s.Canonical) : (s.coreReset b).Canonical := by
  unfold State.coreReset
  split
  · exact h.frame rfl rfl
  · exact h.frame rfl rfl
  · exact h.frame rfl rfl
  · exact h.frame rfl rfl
  · exact h.frame rfl rfl
  · exact h.frame rfl rfl
  · exact h.frame rfl rfl
  · exact h.frame rfl rfl
  · exact h.frame rfl rfl
  · exact h.frame rfl rfl
  · exact h.frame rfl rfl
  · exact h.frame rfl rfl
  · exact h.modRec
  · exact h.frame rfl rfl
  · exact h
  · exact h
  · exact h
  · exact h
  · exact h
  · exact h
  · exact h

theorem resetEnd {b} (h : s.Canonical) : (s.resetEnd b).Canonical := by
  unfold State.resetEnd
  split
  · exact (h.each (fun _ _ hu => hu.armClr)).each (fun _ _ hu => hu.eotClr)
  · exact h.each (fun _ _ hu => hu.subStart)
  · exact h.each (fun _ _ hu => hu.canModeStep)
  · exact h.recShow
  · exact h
  · exact h
  · exact h
  · exact h
  · exact h
  · exact h
  · exact h
  · exact h
  · exact h
  · exact h
  · exact h
  · exact h
  · exact h
  · exact h
  · exact h
  · exact h
  · exact h

theorem resetDo {b} (h : s.Canonical) : (s.resetDo b).Canonical := by
  unfold State.resetDo
  dsimp only
  refine resetEnd ?_
  refine courseFields ?_
  split
  · exact h.shadowRelease.regsReset.coreReset.footApply
  · exact h.shadowRelease.regsReset.coreReset

theorem softReset {b} (h : s.Canonical) : (s.softReset b).Canonical :=
  have h1 : State.Canonical _ := ite (ite h.change h).change (ite h.change h)
  ite h1.modCfg h1.modCfg.resetDo

theorem resetPoll (h : s.Canonical) : s.resetPoll.Canonical :=
  h.each (fun _ _ hu => hu.modCfg.resetDo)

end Sys2Proof.Machine.State.Canonical
end

section
/-! Canonical form: host accesses and device reset. -/

namespace Sys2Proof.Machine.State.Canonical

open Sys2Proof

variable {s t : State}

theorem tickRegain (h : s.Canonical) : s.tickRegain.Canonical :=
  ite h.with_link.put.raiseIf h

theorem tickCommit (h : s.Canonical) : s.tickCommit.Canonical :=
  ite h.with_link
    (ite h.with_link.with_link h.with_link.with_link.with_tag_link.stepped.raise).tickRegain

theorem hostDrive {hsw n op} (h : s.Canonical) : (s.hostDrive hsw n op).Canonical :=
  ite h.modStr h.modStr

theorem snapCommand {v} (h : s.Canonical) : (s.snapCommand v).Canonical := by
  unfold State.snapCommand
  split
  · exact h.snapDrainStart
  · exact h.snapProcess
  · exact ite h.modGnss h

theorem recCommand {v} (h : s.Canonical) : (s.recCommand v).Canonical := by
  unfold State.recCommand
  split
  · exact h.logErase
  · exact ite h.logDrain h
  · exact ite h.logDrain h
  · exact ite h.logDrainEnd h
  · exact h.cstClear

theorem injCommand {q v} (h : s.Canonical) : (s.injCommand q v).Canonical := by
  unfold State.injCommand
  split
  · exact h.injArm
  · exact h.injArm
  · exact h.injStop

theorem senseEffect {w hit} (h : s.Canonical) : (s.senseEffect w hit).Canonical :=
  have h1 : State.Canonical _ := (h.onIdx (fun _ _ hu => hu.chWritten)).onIdx
    (fun _ _ hu => hu.chWritten)
  (((ite (ite h1.snapGo h1).snapCommand (ite h1.snapGo h1)).onIdx
    (fun _ _ hu => hu.encJumped)).onIdx (fun _ _ hu => ite hu.modEnc hu)).each
    (fun _ _ hu => hu.onIdx (fun _ _ hv => ite hv.cmpEval hv))

theorem driveEffect {w} (h : s.Canonical) : (s.driveEffect w).Canonical := by
  unfold State.driveEffect
  extract_lets a s1 s2 s3 s4 s5 s6 s7
  have h1 : s1.Canonical := by
    dsimp only [s1]
    split
    · split
      · exact h.geoFlush
      · exact h.geoEvictAll
      · exact h.fenceCommit
    · exact h
  have h4 : s4.Canonical := ((h1.onIdx fun _ _ hu => ite hu.hostDrive hu).onIdx
    fun _ _ hu => hu.solCleared).onIdx
    fun _ _ hu => ite hu.put.solResume hu
  have h7 : s7.Canonical := ((h4.onIdx fun _ _ hu => ite hu.armClr hu).onIdx fun _ _ hu =>
    ite hu.hostDrive hu).onIdx
    fun _ _ hu => ite hu.lhDrive hu
  exact h7.onIdx fun _ _ hu => ite hu.loopCmd hu

theorem paceEffect {w} (h : s.Canonical) : (s.paceEffect w).Canonical := by
  unfold State.paceEffect
  exact
    have h2 : State.Canonical _ := (h.onIdx (fun _ _ hu => ite hu.paceCmd hu)).onIdx
      (fun _ _ hu => ite hu.lapReset hu)
    have h3 : State.Canonical _ := (ite h2.lapCell h2).onIdx (fun _ _ hu => ite hu.injCommand hu)
    ((ite (ite h3.capGo h3.capEnd) h3).onIdx (fun _ _ hu => ite hu
      (ite hu.canRequest hu.canWithdraw))).onIdx (fun _ _ hu => ite hu.modCtl hu)

theorem headerEffect {b w hit} (h : s.Canonical) : (s.headerEffect b w hit).Canonical :=
  ite (ite (ite h.shadowTake h) (ite (ite h.shadowTake h).modPwr (ite h.shadowTake h).softReset))
    (ite h.put h)

theorem hostEffect {auth b w hit} (h : s.Canonical) : (s.hostEffect auth b w hit).Canonical := by
  unfold State.hostEffect
  split
  · exact h.headerEffect
  · split
    · exact ite h.tickCommit (ite h.with_link h)
    · exact ite h.hostReturn h
    · exact ite h.persist h
    · exact ite h.courseRequest (ite h.imgStart h)
    · exact h.senseEffect
    · exact h.senseEffect
    · exact h.senseEffect
    · exact h.driveEffect
    · exact h.driveEffect
    · exact h.driveEffect
    · exact h.driveEffect
    · exact h.driveEffect
    · exact h.paceEffect
    · exact h.paceEffect
    · exact ite h.recCommand h
    · exact ite h.telClear h
    · exact ite h.secStart h
    · exact h.onIdx (fun _ _ hu => ite hu (ite hu.plbGo hu.plbAbort))
    · exact h
    · exact h
    · exact h

theorem openNote {a} (h : s.Canonical) : (s.openNote a).Canonical := by
  unfold State.openNote
  split
  · exact h.put
  · exact h.put
  · exact h.put.raise
  · exact h.put
  · exact h

theorem regWrite {auth a mask v} (h : s.Canonical) : (s.regWrite auth a mask v).2.Canonical := by
  unfold State.regWrite
  split
  · dsimp only
    exact ite h.openNote h
  · split
    · exact h
    · dsimp only
      exact h.change.hostEffect

/-- Unfolded at its arguments, `mapWrite` makes the kernel compute the slot, counting down from an
address: it is unfolded as a function, and the slot is generalised. -/
theorem mapWrite {a mask w} (h : s.Canonical) (ht : s.mapWrite a mask w = some t) :
    t.Canonical := by
  have hDef : State.mapWrite = State.mapWrite := rfl
  conv_rhs at hDef => delta State.mapWrite
  rw [hDef] at ht
  dsimp only at ht
  generalize s.mapPlace a = place at ht
  cases place with
  | none => exact nomatch ht
  | some k => exact Option.some.inj ht ▸ h.setDram.modSlot

theorem dramWrite {a mask v} (h : s.Canonical) : (s.dramWrite a mask v).2.Canonical := by
  unfold State.dramWrite
  split
  · exact h
  split
  · split
    next hMap => exact h.mapWrite hMap
    · exact h
  · exact h.setDram

theorem hostWord {auth a mask v} (h : s.Canonical) : (s.hostWord auth a mask v).2.Canonical := by
  unfold State.hostWord
  split
  · exact h.regWrite
  split
  · exact h.dramWrite
  · exact h

theorem authFail (h : s.Canonical) : s.authFail.Canonical :=
  h.count.put.raise

theorem hostWrite {auth a mask v} (h : s.Canonical) : (s.hostWrite auth a mask v).Canonical := by
  unfold State.hostWrite
  extract_lets r
  suffices hr : r.2.Canonical from hr.with_lastErr_parity
  dsimp only [r]
  split
  · exact h
  split
  · exact h.authFail
  split
  · exact h
  · exact h.hostWord

theorem hostSet {a v} (h : s.Canonical) : (s.hostSet a v).Canonical :=
  h.hostWrite

theorem readClear {a} (h : s.Canonical) : (s.readClear a).Canonical :=
  ite (h.setWord.onIdx (fun _ _ hu => hu.modPt)) h

theorem regRead {a} (h : s.Canonical) : (s.regRead a).2.Canonical := by
  unfold State.regRead
  split
  · dsimp only
    exact h.canReadCopy
  · dsimp only
    exact h.readClear

theorem hostRead {a} (h : s.Canonical) : (s.hostRead a).2.2.Canonical := by
  unfold State.hostRead
  split
  · split
    · exact h
    · dsimp only
      exact h.regRead
  · split
    · exact h
    · split
      · exact h
      · exact h

theorem powerOn : s.powerOn.Canonical := ⟨rfl, rfl⟩

theorem strapShow (h : s.Canonical) : s.strapShow.Canonical := by
  unfold State.strapShow
  split
  · exact h
  · exact h.putB.putB.putB.put

theorem carry {t : State} {a m} (h' : t.Canonical) : (s.carry t a m).Canonical :=
  h'.setWord

theorem carryOutputs {t : State} (h' : t.Canonical) : (s.carryOutputs t).Canonical :=
  ((((h'.each (fun _ _ hu => hu.carry.put)).each (fun _ _ hu => hu.carry)).each
    (fun _ _ hu => hu.modHsw)).each (fun _ _ hu => hu.modHsw)).setNat

theorem clockStart (h : s.Canonical) : s.clockStart.Canonical :=
  ite h.modClk.mrcReady h.modClk

theorem deviceReset {c held} : (s.deviceReset c held).Canonical := by
  unfold State.deviceReset
  extract_lets t1 clocks pwr t2 t3 t4 t5 t6 t7
  have h2 : t2.Canonical := ⟨rfl, rfl⟩
  have h5 : t5.Canonical := ((h2.each fun _ _ hu => hu.carry).when
    fun _ hu => hu.put).carryOutputs.strapShow
  have h7 : t7.Canonical := h5.setNat.put.put.put
  exact ite h7 h7.clockStart

theorem storePick {bad} (h : s.Canonical) : (s.storePick bad).Canonical := by
  unfold State.storePick
  exact h.modFlash.modKeep

theorem restoreCounters {unsaved} (h : s.Canonical) : (s.restoreCounters unsaved).Canonical :=
  ite h
    (have h1 : State.Canonical _ := ite h.with_pwr.setNat h.with_pwr
     ite h1.setNat h1.setNat.storeItems)

theorem restoreTel (h : s.Canonical) : s.restoreTel.Canonical := by
  unfold State.restoreTel
  split
  · exact h.setWords
  · exact h

theorem logResume (h : s.Canonical) : s.logResume.Canonical :=
  h.modRec.setNat.put.recShow

theorem pu3 {f} (h : s.Canonical) : (s.pu3 f).Canonical :=
  have h4 : State.Canonical _ := (((h.storePick.put.setNat.restoreCounters.when
    (fun _ hu => hu.restoreTel)).putB.selectFooting.each (fun _ _ hu => hu.encVio)).when
    (fun _ hu => hu.restoreLat.restoreCycles)).lhLoad.paceLoad.logResume.raiseIf.raiseIf
  ((ite h4.put h4).each (fun _ _ hu => hu.raise)).modSec.raiseIf.when (fun _ hu => hu.setGated)

theorem pu3End (h : s.Canonical) : s.pu3End.Canonical :=
  ((h.each (fun _ _ hu => ite hu.courseTake hu)).put.put.when
    (fun _ hu => hu.raiseFailed)).modSec.recBoot

theorem pu4End (h : s.Canonical) : s.pu4End.Canonical :=
  (h.put.put.modPwr.each (fun _ _ hu => hu.put)).modPwr.putSat.solResume.each
    (fun _ _ hu => hu.canModeStep)

theorem hostBits {a m v} (h : s.Canonical) : (s.hostBits a m v).Canonical :=
  h.hostWrite

theorem hostCmd {auth a v} (h : s.Canonical) : (s.hostCmd auth a v).Canonical :=
  h.hostWrite

theorem hostWords {auth par ws i} (h : s.Canonical) :
    (State.hostWords auth par ws i s).2.Canonical := by
  induction ws generalizing s i with
  | nil => exact h
  | cons x ws ih =>
    obtain ⟨a, m, v⟩ := x
    unfold State.hostWords
    extract_lets r
    have hr : r.2.Canonical := by
      dsimp only [r]
      split
      · exact h
      split
      · exact h.authFail
      split
      · exact h
      · exact h.hostWord
    split
    · exact hr
    · exact ih hr

theorem bulkTake {e} (h : s.Canonical) : (s.bulkTake e).Canonical := by
  unfold State.bulkTake
  split
  · exact h.count
  extract_lets a crosses r
  have hr : r.2.Canonical := by
    dsimp only [r]
    split
    · exact h
    · exact h.hostWords
  split
  · exact hr.count
  · exact hr.put.put.put.count.raise

end Sys2Proof.Machine.State.Canonical
end

section
/-! Canonical form: the link and time's advance. -/

namespace Sys2Proof.Machine.State.Canonical

open Sys2Proof

variable {s t : State}

theorem sessionHello {m} (h : s.Canonical) : (s.sessionHello m).2.Canonical := by
  unfold State.sessionHello
  split
  · dsimp only
    exact h.authFail.when (fun _ hu => hu.raiseFailed)
  · dsimp only
    exact h.random.random.random.modSec

theorem sessionFinish {m} (h : s.Canonical) : (s.sessionFinish m).2.Canonical := by
  unfold State.sessionFinish
  dsimp only
  split
  · dsimp only
    exact h.authFail
  · split
    · dsimp only
      exact h.modSec.authFail
    · dsimp only
      exact h.modSec.sessionEnd.modSec

theorem sessionMsg {m} (h : s.Canonical) : (s.sessionMsg m).2.Canonical := by
  unfold State.sessionMsg
  split
  · exact h.sessionHello
  · exact h.sessionFinish
  · exact h.sessionEnd

theorem modLink {f} (h : s.Canonical) : (s.modLink f).Canonical :=
  h.frame rfl rfl

theorem emit {x} (h : s.Canonical) : (s.emit x).Canonical :=
  h.modLink

theorem passOn {p bytes} (h : s.Canonical) : (s.passOn p bytes).Canonical :=
  h.emit

theorem modSet {lead f} (h : s.Canonical) : (s.modSet lead f).Canonical :=
  h.modLink

theorem orgErr (h : s.Canonical) : s.orgErr.Canonical :=
  h.count.raise

theorem readWords {par as i} (h : s.Canonical) : (s.readWords par as i).st.Canonical := by
  induction as generalizing s i with
  | nil => exact h
  | cons a as ih =>
    have hRead : (s.hostRead a).2.2.Canonical := h.hostRead
    unfold State.readWords
    split
    · exact h
    split
    next hErr => rw [hErr] at hRead; exact hRead
    next hOk =>
      rw [hOk] at hRead
      dsimp only
      split
      · exact ih hRead
      · exact ih hRead

theorem pushEntries {k n b} (h : s.Canonical) : (s.pushEntries n b k).2.Canonical := by
  induction k generalizing s b with
  | zero => exact h
  | succ k ih =>
    unfold State.pushEntries
    split
    · exact h
    · exact ih h.laneWrite

theorem lanePush {lead n b} (h : s.Canonical) : (s.lanePush lead n b).st.Canonical := by
  unfold State.lanePush
  dsimp only
  split
  · exact h
  · split
    · exact h
    · split
      · exact h
      · dsimp only
        exact h.pushEntries

theorem lanePop {n len} (h : s.Canonical) : (s.lanePop n len).st.Canonical := by
  unfold State.lanePop
  split
  · exact h
  · split
    · exact h
    · dsimp only
      exact h.lanePopUpTo

theorem writeRequest {lead auth opc r} (h : s.Canonical) :
    (s.writeRequest lead auth opc r).st.Canonical := by
  unfold State.writeRequest
  dsimp only
  split
  · dsimp only
    exact h.hostWords
  · dsimp only
    exact h.hostWords
  · dsimp only
    exact h.hostWords

theorem execute {lead auth opc r} (h : s.Canonical) : (s.execute lead auth opc r).st.Canonical := by
  unfold State.execute
  extract_lets early used
  split
  · exact h
  · exact h.readWords.with_parity
  · exact h.writeRequest.with_parity
  · split
    · exact h
    · exact h.writeRequest.with_parity
  · split
    · exact h
    · exact h.lanePush
  · split
    · exact h
    · exact h.lanePop
  · split
    · exact h
    have hMsg : (s.sessionMsg r.body).2.Canonical := h.sessionMsg
    split
    next hSome => rw [hSome] at hMsg; exact hMsg
    next hNone => rw [hNone] at hMsg; exact hMsg

theorem sessionUsed {x} (h : s.Canonical) : (s.sessionUsed x).Canonical := by
  unfold State.sessionUsed
  split
  · exact h
  · exact ite (ite h.sessionEnd h.modSec) h

theorem freeTrailer (h : s.Canonical) : s.freeTrailer.2.Canonical := by
  unfold State.freeTrailer
  dsimp only
  exact h.free.free.free

theorem sendReply {p lead auth opc r err dup payload trail} (h : s.Canonical) :
    (s.sendReply p lead auth opc r err dup payload trail).Canonical :=
  ite h.modLink h.emit

theorem reply {p lead x opc r err dup payload} (h : s.Canonical) :
    (s.reply p lead x opc r err dup payload).Canonical := by
  unfold State.reply
  split
  · exact h.sessionUsed.sendReply
  · exact h.sendReply

theorem replyErr {p lead x opc r c detail} (h : s.Canonical) :
    (s.replyErr p lead x opc r c detail).Canonical :=
  h.reply

theorem replyCrc {p lead opc r} (h : s.Canonical) : (s.replyCrc p lead opc r).Canonical :=
  ite h.freeTrailer.sendReply h.replyErr

theorem runRequest {p lead x opc r} (h : s.Canonical) :
    (s.runRequest p lead x opc r).Canonical := by
  unfold State.runRequest
  extract_lets d body
  have hd : d.st.Canonical := by
    dsimp only [d]
    split
    · exact h
    · exact h.execute
  split
  · split
    · exact hd.replyErr
    · exact hd.modSet.reply
  · exact hd.modSet.reply

theorem sequenced {p lead x opc r} (h : s.Canonical) : (s.sequenced p lead x opc r).Canonical := by
  unfold State.sequenced
  dsimp only
  split
  · exact h.runRequest
  · split
    · exact h.reply
    · exact h.replyErr

theorem accepted {p lead opc r} (h : s.Canonical) : (s.accepted p lead opc r).Canonical := by
  unfold State.accepted
  split
  · exact h.count.raise
  · split
    · exact h.authFail.replyErr
    · exact h.sequenced
    · exact ite h.modSec.sequenced.sessionEnd h.modSec.sequenced

theorem unicast {p opc r} (h : s.Canonical) : (s.unicast p opc r).Canonical := by
  unfold State.unicast
  dsimp only
  split
  · exact h.count.replyCrc
  · split
    · exact h.accepted
    · exact h.accepted
    · exact h.orgErr
    · exact h.orgErr

theorem bcastErr (h : s.Canonical) : s.bcastErr.Canonical :=
  h.count

theorem bcastRun {lead opc r} (h : s.Canonical) : (s.bcastRun lead opc r).Canonical :=
  ite h.bcastErr (ite h (ite h.bcastErr
    (have h1 : State.Canonical _ := ite h.execute.modSet h.execute.modSet.put.put
     ite h1.bcastErr h1)))

theorem broadcast {p opc r} (h : s.Canonical) : (s.broadcast p opc r).Canonical := by
  unfold State.broadcast
  extract_lets who s1
  have h1 : s1.Canonical := ite h h.passOn
  split
  · exact h
  split
  · exact h1
  split
  · exact h1.count.bcastErr
  cases who
  · exact h1.bcastRun
  · exact h1.bcastRun
  · exact h1.orgErr.bcastErr
  · exact h1.orgErr.bcastErr

theorem enumerate {p r} (h : s.Canonical) : (s.enumerate p r).Canonical :=
  ite h (ite
    (have h1 : State.Canonical _ := ite h.passOn.count (ite h.passOn.orgErr h.passOn)
     ite h1.bcastErr h1) (ite h.put.put.put.passOn h.put.raiseIf.passOn))

theorem leadReturned {a} (h : s.Canonical) : (s.leadReturned a).Canonical :=
  h.orgErr.pushAnswer

theorem transit {p opc r} (h : s.Canonical) : (s.transit p opc r).Canonical :=
  ite (ite h.count h) (ite (ite (ite h.count h) (ite h.count h).leadReturned)
    (ite h.count h).passOn)

theorem received {p opc r} (h : s.Canonical) : (s.received p opc r).Canonical :=
  ite (ite h.count.bcastErr h.count) (ite h.transit
    (ite (ite h.enumerate h.broadcast) (ite h.unicast h.transit)))

theorem arrive {p opc r} (h : s.Canonical) : (s.arrive p opc r).Canonical :=
  ite h.received h

theorem sentAs {t : State} {x y} (h' : t.Canonical) : (s.sentAs t x y).Canonical := by
  unfold State.sentAs
  exact h'.modLink

theorem arriveBytes {p b} (h : s.Canonical) : (s.arriveBytes p b).Canonical := by
  unfold State.arriveBytes
  split
  · exact h.arrive
  · split
    · exact h
    · split
      · exact h.count
      · exact h.received.sentAs

theorem spiRequest {b waiting} (h : s.Canonical) : (s.spiRequest b waiting).Canonical := by
  unfold State.spiRequest
  dsimp only
  split
  · split
    · exact h.count
    · exact h.count.when (fun _ hu => hu.bcastErr)
  · split
    · exact h.received
    · exact h.count

theorem spiOut {n} (h : s.Canonical) : (s.spiOut n).Canonical := by
  unfold State.spiOut
  split
  · exact h
  · exact ite h.emit.modLink h.emit

theorem probe {p l} (h : s.Canonical) : (s.probe p l).Canonical :=
  (h.free.emit.each (fun _ _ hu => hu.emit)).put

theorem tickBaseShow {base} (h : s.Canonical) : (s.tickBaseShow base).Canonical :=
  (ite h h.setNat).setNat

theorem tickTake {c ns} (h : s.Canonical) : (s.tickTake c ns).Canonical :=
  (ite h.raiseIf.put.modLink.tickBaseShow h.raiseIf.put.modLink).with_tag.tickRegain

theorem leadDiscard (h : s.Canonical) : s.leadDiscard.Canonical := by
  unfold State.leadDiscard
  exact h.with_sol_hsw.modStr

theorem leadOff {k} (h : s.Canonical) : (s.leadOff k).Canonical :=
  ite (ite (ite h.solOff.modSol h.solOff).satReport h)
    (ite h.hswTurnOffAny.hswUncommand.satReport h)

theorem leadStop (h : s.Canonical) : s.leadStop.Canonical := by
  unfold State.leadStop
  exact (h.leadDiscard.each (fun _ _ hu => hu.leadOff)).modStr

theorem hoursStep (h : s.Canonical) : s.hoursStep.Canonical :=
  ite (ite h.modPwr.setNat h.modPwr) h

theorem background (h : s.Canonical) : s.background.Canonical :=
  (((h.when (fun _ hu => hu.resetPoll)).capPoll.recTake.when (fun _ hu => hu.drainNext)).when
    (fun _ hu => hu.logDrainPump)).when (fun _ hu => hu.destFlush)

theorem advance (h : s.Canonical) : s.advance.Canonical :=
  ite h.with_tag_nav h.background.hoursStep.with_clk_tag_nav

end Sys2Proof.Machine.State.Canonical
end

section
/-! Canonical form: commands and steps. -/

namespace Sys2Proof.Machine.State.Canonical

open Sys2Proof

variable {s t : State}

theorem execHelloExpiry (h : s.Canonical) :
    ∃ t, Machine.execHelloExpiry s = .next t ∧ t.Canonical := by
  refine ⟨_, rfl, ?_⟩
  split
  · exact ite h.modSec h
  · exact h

theorem execSpiTransaction {mosi waiting} (h : s.Canonical) :
    ∃ t, Machine.execSpiTransaction mosi waiting s = .next t ∧ t.Canonical := by
  refine ⟨_, rfl, ?_⟩
  split
  · exact h
  · split
    · exact h.spiOut
    · exact ite h.spiOut.spiRequest h.spiOut.count

theorem execPortDown {p} (h : s.Canonical) :
    ∃ t, Machine.execPortDown p s = .next t ∧ t.Canonical := by
  refine ⟨_, rfl, ?_⟩
  split
  · exact ite h.put.put.raise.modLink h
  · exact h

theorem execImgCmdComplete {flashOk} (h : s.Canonical) :
    ∃ t, Machine.execImgCmdComplete flashOk s = .next t ∧ t.Canonical := by
  refine ⟨_, rfl, ?_⟩
  split
  · exact h
  · exact ite h h.imgDo.modCfg.modFlash.put.put.raise

theorem execBulkEntry (h : s.Canonical) : ∃ t, Machine.execBulkEntry s = .next t ∧ t.Canonical := by
  have hTake : (s.laneFirst 0).2.Canonical := h.laneFirst
  refine ⟨_, rfl, ite h ?_⟩
  split
  next hNone => rw [hNone] at hTake; exact hTake
  next hSome => rw [hSome] at hTake; exact ite hTake.bulkTake hTake.count

theorem execChunkSigned (h : s.Canonical) :
    ∃ t, Machine.execChunkSigned s = .next t ∧ t.Canonical := by
  refine ⟨_, rfl, ?_⟩
  split
  · exact h
  · exact ite h h.count.chunkSend.signDone

theorem execSatReportEntry (h : s.Canonical) :
    ∃ t, Machine.execSatReportEntry s = .next t ∧ t.Canonical := by
  refine ⟨_, rfl, ?_⟩
  dsimp only
  split
  · exact h
  · split
    · exact h.laneConsume
    · exact ite h.laneConsume.satReported h.laneConsume

theorem execWmRebuildEnd (h : s.Canonical) :
    ∃ t, Machine.execWmRebuildEnd s = .next t ∧ t.Canonical := by
  refine ⟨_, rfl, ?_⟩
  split
  · exact h
  · exact ite h.modStr.strFreeAll h.modStr

theorem execSolCommandArrive (h : s.Canonical) :
    ∃ t, Machine.execSolCommandArrive s = .next t ∧ t.Canonical := by
  refine ⟨_, rfl, ?_⟩
  split
  · exact h
  · exact h.modStr.solArrive

theorem execSolCommandStart {n} (h : s.Canonical) :
    ∃ t, Machine.execSolCommandStart n s = .next t ∧ t.Canonical := by
  refine ⟨_, rfl, ?_⟩
  split
  · exact h
  · exact ite h.modSol.phaseEnds.cycleDue.solStart h

theorem execPwmOffInstant {n} (h : s.Canonical) :
    ∃ t, Machine.execPwmOffInstant n s = .next t ∧ t.Canonical := by
  refine ⟨_, rfl, ?_⟩
  split
  · exact ite h.phaseEnds h
  · exact h

theorem execCalibrationDone {u ok sense} (h : s.Canonical) :
    ∃ t, Machine.execCalibrationDone u ok sense s = .next t ∧ t.Canonical := by
  refine ⟨_, rfl, ?_⟩
  split
  · exact ite (ite h.setPhase.calibrated.modArm.raise.put h.setPhase.calibrated) h
  · exact ite h.modHsw.calibrated h
  · exact ite h.calibrated h

theorem execHswCommandArrive (h : s.Canonical) :
    ∃ t, Machine.execHswCommandArrive s = .next t ∧ t.Canonical := by
  refine ⟨_, rfl, ?_⟩
  split
  · exact h
  · exact h.modStr.hswArrive

theorem execHswCommandStart {k e} (h : s.Canonical) :
    ∃ t, Machine.execHswCommandStart k e s = .next t ∧ t.Canonical := by
  refine ⟨_, rfl, ?_⟩
  split
  · exact h
  · exact ite h.modHsw.hswStart h

theorem execPulseEdge {k on e} (h : s.Canonical) :
    ∃ t, Machine.execPulseEdge k on e s = .next t ∧ t.Canonical := by
  refine ⟨_, rfl, ?_⟩
  dsimp only
  split
  · exact ite (ite h.modHsw.hswTurnOn h.modHsw.put.modHsw) h
  · split
    · exact ite (ite h.modHsw.hswOutOff h.modHsw).hswProtect (ite h.modHsw.hswOutOff h.modHsw)
    · exact h
  · exact h

theorem execLoopValueArrive (h : s.Canonical) :
    ∃ t, Machine.execLoopValueArrive s = .next t ∧ t.Canonical := by
  refine ⟨_, rfl, ?_⟩
  split
  · exact h
  · exact ite h.modPid.modPid (ite h.modPid.destWrite h.modPid.destWrite.count.put)

theorem execPllRelock {p} (h : s.Canonical) :
    ∃ t, Machine.execPllRelock p s = .next t ∧ t.Canonical := by
  refine ⟨_, rfl, ?_⟩
  split
  · exact ite (h.put.modClk.each (fun _ _ hu => hu.islRun)) h
  · exact h

theorem execPllRelockTimeout {p} (h : s.Canonical) :
    ∃ t, Machine.execPllRelockTimeout p s = .next t ∧ t.Canonical := by
  refine ⟨_, rfl, ?_⟩
  split
  · exact ite h.startTrip h
  · exact h

theorem execGateAbn {i} (h : s.Canonical) :
    ∃ t, Machine.execGateAbn i s = .next t ∧ t.Canonical := by
  refine ⟨_, rfl, ?_⟩
  split
  · exact ite h.gateDrop.raise.put h
  · exact h

theorem execRun60s (h : s.Canonical) : ∃ t, Machine.execRun60s s = .next t ∧ t.Canonical := by
  refine ⟨_, rfl, ?_⟩
  split
  · exact ite h.put h
  · exact h

theorem execFlashSlot {work} (h : s.Canonical) :
    ∃ t, Machine.execFlashSlot work s = .next t ∧ t.Canonical := by
  refine ⟨_, rfl, ?_⟩
  split
  · exact h.flashQueue.flashSlot
  · exact h.flashSlot

theorem execPlaneBVerifyFail {w sector} (h : s.Canonical) :
    ∃ t, Machine.execPlaneBVerifyFail w sector s = .next t ∧ t.Canonical := by
  refine ⟨_, rfl, ?_⟩
  dsimp only
  split
  · exact ite h.sectorRetire (ite h.sectorRetire.modFlash h.sectorRetire.storeUndo)
  · exact h.sectorRetire
  · exact h.sectorRetire

theorem execLogSectorErased (h : s.Canonical) :
    ∃ t, Machine.execLogSectorErased s = .next t ∧ t.Canonical := by
  refine ⟨_, rfl, ?_⟩
  split
  · exact h
  · exact h.wear.modRec.recShow

theorem execScrubRead {err} (h : s.Canonical) :
    ∃ t, Machine.execScrubRead err s = .next t ∧ t.Canonical := by
  refine ⟨_, rfl, ?_⟩
  extract_lets u s1 s2
  have h1 : s1.Canonical := by
    dsimp only [s1]
    split
    · exact h
    · exact h.dramError.when fun _ hu => hu.count
  exact ite h (ite h1.put.count.raise h1.put)

theorem execFabricParityError {load givenUp} (h : s.Canonical) :
    ∃ t, Machine.execFabricParityError load givenUp s = .next t ∧ t.Canonical := by
  refine ⟨_, rfl, ?_⟩
  refine ite h ?_
  have h1 : (s.raise 1).Canonical := h.raise
  cases load with
  | register w => exact h1.with_parity
  | laneEntry n =>
    exact ite h1.with_lanes.laneLose (((ite h1.laneTake h1).when
      fun _ hu => hu.rtcmCut).count.raise)
  | solCommand =>
    dsimp only
    split
    · exact h1
    · exact h1.modStr.wireLost
  | hswCommand =>
    dsimp only
    split
    · exact h1
    · exact h1.modStr.wireLost
  | canCommand p =>
    dsimp only
    split
    · exact ite h1.strDropped h1
    · exact h1
  | other => exact h1

theorem execSecCmdComplete {flashOk} (h : s.Canonical) :
    ∃ t, Machine.execSecCmdComplete flashOk s = .next t ∧ t.Canonical := by
  refine ⟨_, rfl, ?_⟩
  split
  · exact h
  · exact ite h h.secDo.modSec.modFlash.put.put

theorem execLogDrainDone (h : s.Canonical) :
    ∃ t, Machine.execLogDrainDone s = .next t ∧ t.Canonical := by
  refine ⟨_, rfl, ?_⟩
  split
  · exact h
  · exact h.logDrainAll.logDrainEnd

/-- Every command answers a next state with DRAM and registers in canonical form. -/
theorem exec (c : Instr) (h : s.Canonical) : ∃ t, Machine.exec c s = .next t ∧ t.Canonical := by
  cases c with
  | status => exact ⟨_, rfl, h.arrive⟩
  | read => exact ⟨_, rfl, h.arrive⟩
  | write => exact ⟨_, rfl, h.arrive⟩
  | writeMask => exact ⟨_, rfl, h.arrive⟩
  | lanePush => exact ⟨_, rfl, h.arrive⟩
  | lanePop => exact ⟨_, rfl, h.arrive⟩
  | enum => exact ⟨_, rfl, h.arrive⟩
  | sessionHello => exact ⟨_, rfl, h.arrive⟩
  | sessionFinish => exact ⟨_, rfl, h.arrive⟩
  | sessionEnd => exact ⟨_, rfl, h.arrive⟩
  | helloExpiry => exact h.execHelloExpiry
  | broadcastRequest => exact ⟨_, rfl, h.arrive⟩
  | forwardFrame => exact ⟨_, rfl, h.arriveBytes⟩
  | spiTransaction => exact h.execSpiTransaction
  | portLoseLock => exact ⟨_, rfl, ite h.put.count.modLink.emit h⟩
  | retrainDone => exact ⟨_, rfl, ite h.probe.put.modLink h⟩
  | portDown => exact h.execPortDown
  | portUp => exact ⟨_, rfl, ite h.probe.put.put.raise.modLink h⟩
  | leadRequestReturn => exact ⟨_, rfl, ite h.leadReturned h⟩
  | tickSend => exact ⟨_, rfl, ite (ite h.emit.emit.put.tickBaseShow.modLink h.emit.emit.put) h⟩
  | tickReceive => exact ⟨_, rfl, ite h (ite (ite h h.emit).tickTake (ite h h.emit))⟩
  | tickLost => exact ⟨_, rfl, ite h.modLink.put.raise.leadStop h⟩
  | tickBaseBroadcast => exact ⟨_, rfl, ite h.emit.emit.modLink h⟩
  | sysTickBaseWrite => exact ⟨_, rfl, h.hostSet⟩
  | registerWrite => exact ⟨_, rfl, h.hostWrite⟩
  | blkEnableClear => exact ⟨_, rfl, h.hostBits⟩
  | blkEnableSet => exact ⟨_, rfl, h.hostBits⟩
  | blkSoftReset => exact ⟨_, rfl, h.hostBits⟩
  | blkShadowSet => exact ⟨_, rfl, h.hostBits⟩
  | blkShadowClear => exact ⟨_, rfl, h.hostBits⟩
  | blkLockSet => exact ⟨_, rfl, h.hostBits⟩
  | eventClear => exact ⟨_, rfl, h.hostSet⟩
  | courseRequest => exact ⟨_, rfl, h.hostSet⟩
  | courseTake =>
    exact ⟨_, rfl, ite (ite (ite h.canCourse h.canCourseLate) (ite h.paceCourse h.courseTake)) h⟩
  | crsTmo => exact ⟨_, rfl, ite h.raise.modCfg h⟩
  | imgErase => exact ⟨_, rfl, h.hostSet⟩
  | imgProgram => exact ⟨_, rfl, h.hostSet⟩
  | imgVerify => exact ⟨_, rfl, h.hostSet⟩
  | loadCourse => exact ⟨_, rfl, h.hostSet⟩
  | imgCmdComplete => exact h.execImgCmdComplete
  | laneHeadWrite => exact ⟨_, rfl, h.hostSet⟩
  | laneTailWrite => exact ⟨_, rfl, h.hostSet⟩
  | laneCtrlWrite => exact ⟨_, rfl, h.hostSet⟩
  | producerResume =>
    exact ⟨_, rfl, ite h.producerResume.chunkSettle
      (ite h.producerResume.geoSettle (ite h.producerResume.capHeldDone h.producerResume))⟩
  | bulkEntry => exact h.execBulkEntry
  | biasSample => exact ⟨_, rfl, h.antSample.antSample.vantShow⟩
  | antHwLimit => exact ⟨_, rfl, ite h.antShort h⟩
  | antRetest => exact ⟨_, rfl, ite h.put.with_gnss h⟩
  | vantFlt => exact ⟨_, rfl, ite h.put.put.with_gnss.raise h⟩
  | vantRestore => exact ⟨_, rfl, ite h.put.put.with_gnss h⟩
  | agcUpdate => exact ⟨_, rfl, ite (h.each (fun _ _ hu => hu.agcPath)).judgeJam h⟩
  | correlatorDump => exact ⟨_, rfl, ite
      (have h2 : State.Canonical _ := (((h.each (fun _ _ hu => hu.chRun)).each
         (fun _ _ hu => hu.chDump)).each (fun _ _ hu => hu.chObserve)).each
         (fun _ _ hu => hu.chLoop)
       ite h2.snapFirst h2) h⟩
  | lockAssessment => exact ⟨_, rfl, ite (h.each (fun _ _ hu => hu.lockAssess)) h⟩
  | pullinTimeout => exact ⟨_, rfl, ite h.chAcq h⟩
  | recoverTimeout => exact ⟨_, rfl, ite h.chReacq h⟩
  | gnssChModeWrite => exact ⟨_, rfl, h.hostSet⟩
  | snapGo => exact ⟨_, rfl, h.hostSet⟩
  | snapStartAtTag => exact ⟨_, rfl, ite h.snapFirst h⟩
  | snapCaptureEnd => exact ⟨_, rfl, ite h.snapCaptureEnd h⟩
  | snapDrain => exact ⟨_, rfl, h.hostSet⟩
  | snapProcess => exact ⟨_, rfl, h.hostSet⟩
  | snapProcessDone => exact ⟨_, rfl, ite (ite h.snapOver h.snapProcessEnd) h⟩
  | snapCancel => exact ⟨_, rfl, h.hostSet⟩
  | measurementEpoch => exact ⟨_, rfl, ite h.measureEpoch h⟩
  | positionSolution => exact ⟨_, rfl, ite h.takeSolution (ite h.timeSolution h)⟩
  | timeSlewEnd => exact ⟨_, rfl, ite h.put h⟩
  | timeHoldEnd => exact ⟨_, rfl, ite h.put h⟩
  | rtcmEntry => exact ⟨_, rfl, ite h.rtcmEntry h⟩
  | poseUpdate => exact ⟨_, rfl, ite h (ite h.poseUpdate h.poseDisabled)⟩
  | imuSample => exact ⟨_, rfl, ite h.imuSample h⟩
  | imuLost => exact ⟨_, rfl, ite h.modNav.raise h⟩
  | timePulse => exact ⟨_, rfl, ite h.setNat64.put.put.modNav h⟩
  | holdover => exact ⟨_, rfl, ite h.enterHoldover h⟩
  | holdoverUncUpdate => exact ⟨_, rfl, ite (ite h.modNav.modNav.raise h.modNav) h⟩
  | encEdge => exact ⟨_, rfl, h.encLevels⟩
  | encWindowEnd => exact ⟨_, rfl, ite h.encWindow h⟩
  | encStandstill => exact ⟨_, rfl, ite h.encStill h⟩
  | encWire => exact ⟨_, rfl, h.encBad⟩
  | encLineGood => exact ⟨_, rfl, ite h h.put.encStill⟩
  | encPosWrite => exact ⟨_, rfl, h.hostSet⟩
  | encZEdge => exact ⟨_, rfl, ite h.modEnc.encZ h.modEnc⟩
  | encZArm => exact ⟨_, rfl, h.hostSet⟩
  | cmpArm => exact ⟨_, rfl, h.hostSet⟩
  | ssiRead => exact ⟨_, rfl, ite h.modSsi h⟩
  | ssiFrameDone => exact ⟨_, rfl, ite h.ssiDone h⟩
  | emuUpdate => exact ⟨_, rfl, ite (h.each (fun _ _ hu => hu.emuStep)) h⟩
  | ainFrame => exact ⟨_, rfl, ite (h.each (fun _ _ hu => hu.ainSample)) h⟩
  | ainShuntRetest => exact ⟨_, rfl, ite h.put.modAin h⟩
  | speedFusion =>
    exact ⟨_, rfl, ite h (ite (h.fuse.stamp.each (fun _ _ hu => ite hu.stamp hu.stamp.stamp))
      h.fusNone)⟩
  | geometryUpdate => exact ⟨_, rfl, ite h (ite (ite h.strUpdate h).geoUpdate (ite h.strUpdate h))⟩
  | tileLoadEntry => exact ⟨_, rfl, h.tileLoad⟩
  | mapFlush => exact ⟨_, rfl, h.hostSet⟩
  | mapEvictAll => exact ⟨_, rfl, h.hostSet⟩
  | fenceCommit => exact ⟨_, rfl, h.hostSet⟩
  | fenceRasterDone => exact ⟨_, rfl, h.fenceRaster⟩
  | mapHostAccess => exact ⟨_, rfl, ite h (ite h.hostWrite h.hostRead.with_lastErr)⟩
  | confirmWaitExpiry => exact ⟨_, rfl, ite h.geoWait h⟩
  | chunkClose => exact ⟨_, rfl, ite h.chunkShut h⟩
  | chunkSigned => exact h.execChunkSigned
  | strideTick =>
    exact ⟨_, rfl, ite h (ite h.strTick (ite (ite (h.modStr.each
      (fun _ _ hu => hu.satSend)).satBacklog h.modStr) h))⟩
  | leadPushReply => exact ⟨_, rfl, h.pushAnswer⟩
  | satOffRetry => exact ⟨_, rfl, ite h h.cmdCount.modSat.satSend⟩
  | satCommandEntry => exact ⟨_, rfl, h.satEntry⟩
  | satReportEntry => exact h.execSatReportEntry
  | wmRebuildEnd => exact h.execWmRebuildEnd
  | dieLinkFrame => exact ⟨_, rfl, h.modPwr⟩
  | dieLinkTimeout => exact ⟨_, rfl, ite (h.driveSafe.each (fun _ _ hu => hu.armCut)) h⟩
  | solCommandArrive => exact h.execSolCommandArrive
  | solCommandStart => exact h.execSolCommandStart
  | solChOn => exact ⟨_, rfl, h.hostSet⟩
  | solChOff => exact ⟨_, rfl, h.hostSet⟩
  | boostEnd => exact ⟨_, rfl, ite h.boostTime.riseEnd.bankFree h⟩
  | boostDeferExpiry => exact ⟨_, rfl, ite h.noBoost.count.raise h⟩
  | noboostEnd => exact ⟨_, rfl, ite h.riseEnd h⟩
  | peakEnd => exact ⟨_, rfl, h.peakOver⟩
  | decayEnd =>
    exact ⟨_, rfl, ite (ite h.putSat.setPhase.modSol.profileStart.modSol
      h.putSat.setPhase.modSol.solCurrent) h⟩
  | holdOpenLoad => exact ⟨_, rfl, ite h.openLoad h⟩
  | pwmCycleStart => exact ⟨_, rfl, h.cycleDue⟩
  | pwmOffInstant => exact h.execPwmOffInstant
  | dutySubwindowEnd => exact ⟨_, rfl, ite h.dutyWindow h⟩
  | solShort => exact ⟨_, rfl, ite h.solShorted h⟩
  | solFltClear => exact ⟨_, rfl, h.hostSet⟩
  | dieTjSample => exact ⟨_, rfl, ite (ite h.dieTemp.hswForceOff h.dieTemp) h⟩
  | boostOv => exact ⟨_, rfl, ite h.put.count.raise h⟩
  | boostOvEnd => exact ⟨_, rfl, h.put⟩
  | boostUv => exact ⟨_, rfl, ite h.put.count.raise.adaptUv h⟩
  | boostUvEnd => exact ⟨_, rfl, h.put⟩
  | bankOvercurrent => exact ⟨_, rfl, ite h.put.bankProtect h⟩
  | bankUv => exact ⟨_, rfl, ite h.put.bankProtect h⟩
  | bankUvEnd => exact ⟨_, rfl, ite h.put.solResume h⟩
  | bankClr => exact ⟨_, rfl, h.hostBits⟩
  | chopperCalibration => exact ⟨_, rfl, ite h.setPhase h⟩
  | calibrationDone => exact h.execCalibrationDone
  | armOpenSignature => exact ⟨_, rfl, ite h.modArm.armConfirmed h⟩
  | armCloseSignature => exact ⟨_, rfl, ite h.modArm.armConfirmed h⟩
  | armWindowClose => exact ⟨_, rfl, ite (ite h.modArm.armMissed h) (ite h.modArm.armMissed h)⟩
  | armLatUpdate =>
    exact ⟨_, rfl, ite h ((h.each (fun _ _ hu => hu.armHold)).each (fun _ _ hu => hu.armLatency))⟩
  | armChClr => exact ⟨_, rfl, h.hostBits⟩
  | boostAdaptPeriod => exact ⟨_, rfl, ite h.adapt h⟩
  | eotDetect => exact ⟨_, rfl, ite h.eotFound (ite h.eotFound h)⟩
  | eotMiss => exact ⟨_, rfl, ite h.eotMissed (ite h.eotMissed h)⟩
  | hswCommandArrive => exact h.execHswCommandArrive
  | hswCommandStart => exact h.execHswCommandStart
  | hswChOn => exact ⟨_, rfl, h.hostSet⟩
  | hswChOff => exact ⟨_, rfl, h.hostSet⟩
  | inrushEnd => exact ⟨_, rfl, ite (ite h.put.modHsw.put.raise.hswProtect h.put.modHsw.putB) h⟩
  | limitTimeout => exact ⟨_, rfl, ite h.put.raise.hswProtect h⟩
  | hswShort => exact ⟨_, rfl, ite h.put.raise.put.hswProtect h⟩
  | hswOpenLoad => exact ⟨_, rfl, ite h.put.put.raise.modHsw h⟩
  | hswOpenLoadEnd => exact ⟨_, rfl, ite h.put.modHsw h⟩
  | hswOvertemp => exact ⟨_, rfl, ite h.put.put.raise.modHsw.hswProtect h⟩
  | hswOvertempEnd => exact ⟨_, rfl, ite (h.put.modHsw.when (fun _ hu => hu.lhDrive)) h⟩
  | hswFltClear => exact ⟨_, rfl, h.hostSet⟩
  | vhsDipStart => exact ⟨_, rfl, ite (h.put.put.with_hswVhs.each (fun _ _ hu => ite hu.put hu)) h⟩
  | vhsDipEnd => exact ⟨_, rfl, ite h.put.put.dipRelease h⟩
  | vhsDip => exact ⟨_, rfl, ite h.dipRelease.count.raise h⟩
  | pgenPeriodStart => exact ⟨_, rfl, ite (h.put.with_hswGen.each (fun _ _ hu => hu.pulsePlan)) h⟩
  | pulseEdge => exact h.execPulseEdge
  | limpOn => exact ⟨_, rfl, ite h h.put.raise.solForceOff.solForceOff.lhDriveAll⟩
  | limpOff => exact ⟨_, rfl, ite h (h.put.raise.each (fun _ _ hu => hu.lhOff.put)).solResume⟩
  | lhInputChange => exact ⟨_, rfl, h.put.when (fun _ hu => hu.lhDriveAll)⟩
  | limpTableCheck =>
    exact ⟨_, rfl, (ite (ite h h.modKeep.put) (ite h h.modKeep.put).modKeep.put).raiseIf.when
      (fun _ hu => hu.lhDriveAll)⟩
  | limpTableSync => exact ⟨_, rfl, ite h.lhSync h⟩
  | holdOverExpiry => exact ⟨_, rfl, ite (h.each (fun _ _ hu => hu.holdEnd)) h⟩
  | loopSample => exact ⟨_, rfl, ite h.ctlSample h⟩
  | loopValueArrive => exact h.execLoopValueArrive
  | loopClose => exact ⟨_, rfl, h.hostSet⟩
  | loopOpen => exact ⟨_, rfl, h.hostSet⟩
  | loopRelease => exact ⟨_, rfl, h.hostSet⟩
  | pacerUpdate => exact ⟨_, rfl, ite h.pace h⟩
  | paceGo => exact ⟨_, rfl, h.hostSet⟩
  | paceStop => exact ⟨_, rfl, h.hostSet⟩
  | paceJump => exact ⟨_, rfl, h.hostSet⟩
  | lapReset => exact ⟨_, rfl, h.hostSet⟩
  | lapTableWrite => exact ⟨_, rfl, h.hostSet⟩
  | injStart => exact ⟨_, rfl, h.hostSet⟩
  | injStartAt => exact ⟨_, rfl, h.hostSet⟩
  | injStop => exact ⟨_, rfl, h.hostSet⟩
  | capGo => exact ⟨_, rfl, h.hostSet⟩
  | capStop => exact ⟨_, rfl, h.hostSet⟩
  | canSend => exact ⟨_, rfl, h.hostSet⟩
  | canCancel => exact ⟨_, rfl, h.hostSet⟩
  | canStartOfFrame => exact ⟨_, rfl, h.canSof⟩
  | canAttemptEnd => exact ⟨_, rfl, h.canAttempt.canCourseLate⟩
  | canFrameReceived => exact ⟨_, rfl, h.canHear⟩
  | canPeriodicRequest => exact ⟨_, rfl, ite h (ite h.count h.canRequest)⟩
  | txTmo => exact ⟨_, rfl, ite h.canTmo h⟩
  | canRxTimeout => exact ⟨_, rfl, ite h (ite (ite h.put h).raise.modObj (ite h.put h))⟩
  | canRecReq => exact ⟨_, rfl, h.hostSet⟩
  | busOn => exact ⟨_, rfl, ite h.modCtl.canShow.raise h⟩
  | canModeWrite => exact ⟨_, rfl, h.hostSet⟩
  | canRxhdrRead => exact ⟨_, rfl, h.hostRead.with_lastErr⟩
  | canSubmitEntry => exact ⟨_, rfl, h.canSubmit⟩
  | canFieldCommand => exact ⟨_, rfl, ite h.canFields h⟩
  | mrcCheck => exact ⟨_, rfl, ite h.mrcChecked h⟩
  | xoCount => exact ⟨_, rfl, ite h.xoCounted h⟩
  | xoEdgeLoss => exact ⟨_, rfl, ite h.xoTrip h⟩
  | xoVerifyTimeout => exact ⟨_, rfl, ite h.modClk.fallback.islHalt h⟩
  | clkReturn => exact ⟨_, rfl, h.hostSet⟩
  | mrcFreqMeasure => exact ⟨_, rfl, h.mrcMeasured⟩
  | islandStop => exact ⟨_, rfl, ite h.islHalt h⟩
  | pllUnlk => exact ⟨_, rfl, ite h.put.raise.put.count.askStop.modClk h⟩
  | pllRelock => exact h.execPllRelock
  | pllRelockTimeout => exact h.execPllRelockTimeout
  | clkGateRequest => exact ⟨_, rfl, h.hostSet⟩
  | clkGateTake => exact ⟨_, rfl, ite h.setGated.modClk h⟩
  | gateAbn => exact h.execGateAbn
  | avsStep =>
    exact ⟨_, rfl, ite h (ite h.put.avsJudge (ite h.put.avsJudge.put
      (ite h.put.avsJudge (ite (ite h.put.avsJudge.modClk.put h.put.avsJudge.modClk)
      (ite h.put.avsJudge.modClk.put.modClk h.put.avsJudge.modClk)))))⟩
  | vbatPresent => exact ⟨_, rfl, ite h h.put.modPwr⟩
  | powerOnReset => exact ⟨_, rfl, powerOn⟩
  | pu0End =>
    exact ⟨_, rfl, ite h (ite h.put.put.modPwr.strapShow.put
      h.put.put.modPwr.strapShow.put.clockStart)⟩
  | pu1End =>
    exact
      ⟨_, rfl, ite h
      ((h.put.when (fun _ hu => hu.sessionEnd.modSec)).with_dieBFail_failed.hswAbsentOff.each
      (fun _ _ hu => hu.raise)).raiseIf.secureBoot.put⟩
  | pu2End => exact ⟨_, rfl, ite h.dramTest.pu3 h⟩
  | pu3End => exact ⟨_, rfl, ite h.pu3End h⟩
  | pu4End => exact ⟨_, rfl, ite h.pu4End h⟩
  | resetNAssert => exact ⟨_, rfl, ite h (ite h.modPwr deviceReset)⟩
  | resetNRelease => exact ⟨_, rfl, ite h (ite h.modPwr.modPwr.clockStart h.modPwr)⟩
  | sysSoftReset => exact ⟨_, rfl, h.hostCmd⟩
  | deviceReset => exact ⟨_, rfl, ite deviceReset h⟩
  | watchdogExpiry => exact ⟨_, rfl, ite deviceReset h⟩
  | run60s => exact h.execRun60s
  | railFault => exact ⟨_, rfl, ite deviceReset h⟩
  | vbatLow => exact ⟨_, rfl, ite h.put.raiseIf h⟩
  | vbatLowEnd => exact ⟨_, rfl, h.put⟩
  | supplySafeEnter => exact ⟨_, rfl, ite h h.put.put.raise.put.count.modFlash.forceDie.forceDie⟩
  | supplySafeExit => exact ⟨_, rfl, ite h h.put.put.solResume.strFreeAll⟩
  | vioLoss =>
    exact ⟨_, rfl, ite h (h.put.put.raise.put.count.each (fun _ _ hu => hu.encVio)).canCut⟩
  | vioPresent => exact ⟨_, rfl, ite h (h.put.putB.each (fun _ _ hu => hu.canModeStep))⟩
  | slugSample => exact ⟨_, rfl, ite h (ite h.put.raise.put.modPwr (ite h.put.modPwr h.put))⟩
  | persist => exact ⟨_, rfl, h.hostSet⟩
  | persistDone => exact ⟨_, rfl, ite h (ite h h.storeHours.storePeriodic).put.put.put.modFlash⟩
  | hoursPersist => exact ⟨_, rfl, ite h.modFlash h⟩
  | periodicPersist => exact ⟨_, rfl, ite h.modFlash h⟩
  | triggerCompare => exact ⟨_, rfl, ite h.recTake h⟩
  | flashSlot => exact h.execFlashSlot
  | logProgramFail =>
    exact ⟨_, rfl, ite h (ite h.put.putB.put.raise.put.count.modRec
      (ite h.put.putB.put.raise.put.count.modRec.modRec.put
      h.put.putB.put.raise.put.count.modRec.put.raise.put)).recShow⟩
  | planeBVerifyFail => exact h.execPlaneBVerifyFail
  | logErase => exact ⟨_, rfl, h.hostCmd⟩
  | logSectorErased => exact h.execLogSectorErased
  | logDrain => exact ⟨_, rfl, h.hostCmd⟩
  | drainCst => exact ⟨_, rfl, h.hostCmd⟩
  | drainStop => exact ⟨_, rfl, h.hostCmd⟩
  | cstClear => exact ⟨_, rfl, h.hostCmd⟩
  | scrubRead => exact h.execScrubRead
  | dramParityError => exact ⟨_, rfl, ite h.dramError h⟩
  | fabricParityError => exact h.execFabricParityError
  | telemetrySample => exact ⟨_, rfl, ite h.telSample h⟩
  | telemetryPersist => exact ⟨_, rfl, ite h.modFlash h⟩
  | telClear => exact ⟨_, rfl, h.hostSet⟩
  | supplyCal => exact ⟨_, rfl, ite h.calibrated h⟩
  | fwErase => exact ⟨_, rfl, h.hostCmd⟩
  | fwProgram => exact ⟨_, rfl, h.hostCmd⟩
  | fwVerify => exact ⟨_, rfl, h.hostCmd⟩
  | fwPrefer => exact ⟨_, rfl, h.hostCmd⟩
  | arbCommit => exact ⟨_, rfl, h.hostCmd⟩
  | oemProvision => exact ⟨_, rfl, h.hostCmd⟩
  | dbgChallenge => exact ⟨_, rfl, h.hostCmd⟩
  | dbgUnlock => exact ⟨_, rfl, h.hostCmd⟩
  | dbgKill => exact ⟨_, rfl, h.hostCmd⟩
  | secCmdComplete => exact h.execSecCmdComplete
  | trngTestWindow => exact ⟨_, rfl, ite h.modSec.putB h.modSec.put.count.raise⟩
  | katPeriodic => exact ⟨_, rfl, ite h h.sessionEnd.with_failed.raise.modSec.signDone.certWatch⟩
  | plbGo => exact ⟨_, rfl, h.hostSet⟩
  | plbStop => exact ⟨_, rfl, h.hostSet⟩
  | plbRunEnd => exact ⟨_, rfl, h.plbDone⟩
  | snapDrainDone => exact ⟨_, rfl, ite h.drainAll.snapOver h⟩
  | logDrainDone => exact h.execLogDrainDone
  | hswSenseOffsetCalibration => exact ⟨_, rfl, ite h.modHsw h⟩
  | spreadModulationPeriod => exact ⟨_, rfl, h.modClk⟩

end Sys2Proof.Machine.State.Canonical

namespace Sys2Proof.Machine

/-- Settles O3: a step runs a command or lets time pass, and either keeps the canonical form. -/
theorem canonicalDataKeptByEveryStep : Obligations.CanonicalDataKeptByEveryStep := by
  unfold Obligations.CanonicalDataKeptByEveryStep
  intro s t hs hStep
  have h : s.Canonical := State.canonical_iff.mp hs
  refine State.canonical_iff.mpr ?_
  unfold step at hStep
  split at hStep
  · cases hStep
    exact h.advance
  next c rest _ =>
    have hRest : State.Canonical { s with pending := rest } := h.frame rfl rfl
    obtain ⟨u, hExec, hu⟩ := hRest.exec c
    rw [hExec] at hStep
    cases hStep
    exact hu

end Sys2Proof.Machine
end

section
/-! What a host write leaves in a word of the header page and in SOL_EVT_HI (R18, R99, R148). -/

namespace Sys2Proof.Machine

open Sys2Proof

/-! ## Words at the start of a block's page -/

section
variable {a : Nat} (ho : a % 65536 < 0x28)
include ho

theorem State.absentBits_of_pageStart (s : State) : s.absentBits a = 0 := by
  have hFe : a ≠ R.GNSS_FE_CTRL := by simp only [R.GNSS_FE_CTRL]; omega
  have hNav : a ≠ R.NAV_CTRL := by simp only [R.NAV_CTRL]; omega
  simp [State.absentBits, hFe, hNav]

theorem State.boundBits_of_pageStart (s : State) : s.boundBits a = 0 := if_neg (by omega)

theorem State.roNow_of_pageStart (s : State) : s.roNow a = 0 := by
  have hCarr : arrIdx a R.GNSS_CH_CARR_NCO 192 = none :=
    arrIdx_eq_none_of_apart (by decide) (by simp only [R.GNSS_CH_CARR_NCO]; omega)
  have hCode : arrIdx a R.GNSS_CH_CODE_NCO 192 = none :=
    arrIdx_eq_none_of_apart (by decide) (by simp only [R.GNSS_CH_CODE_NCO]; omega)
  have hDuty : arrIdx a R.HSW_PG_DUTY 6 = none := arrIdx_eq_none_of_apart (by decide) (by simp only [R.HSW_PG_DUTY]; omega)
  have hCopy : ¬ (0x118000 ≤ a ∧ a < 0x120000 ∧ 0x40 ≤ a % 128) := by omega
  simp [State.roNow, State.fixedNow, State.ncoFixed, State.readCopyAt, hCarr, hCode, hDuty, hCopy]

/-- There only reserved bits are kept from a write. -/
theorem State.bitIs_of_pageStart (s : State) (k : Nat) (cs : List Access) : s.bitIs a k cs =
    (nbit (bitsWhere (fieldsAt a) (fun f => cs.contains f.acc)) k && !nbit (reservedBits a) k) := by
  rw [State.bitIs, s.absentBits_of_pageStart ho, s.roNow_of_pageStart ho, Nat.or_zero, Nat.or_zero]

end

/-! ## Pending events (R99, R148) -/

/-- The register at `a` holds 16 pending bits, of which those of `m` are events of the block. -/
structure PendingWord (a m : Nat) : Prop where
  place : a % 65536 < 0x28
  quiet : quietWord a = true
  pends : ∀ i < 16, nbit (bitsWhere (fieldsAt a) (fun f => [Access.w1c].contains f.acc)) i = true
  stores : bitsWhere (fieldsAt a) (fun f => storedCodes.contains f.acc) = 0
  reserved : reservedBits a = wholeWord - m
  mask : m < 2 ^ 32

theorem pendingWord_evt (b : Block) : PendingWord (H.evt b) (evMask b (evGroup b)) := by
  cases b <;> exact ⟨by decide, by decide +kernel, by decide, by decide, rfl, by decide⟩

theorem pendingWord_solEvtHi : PendingWord R.SOL_EVT_HI (evMask .sol 9) :=
  ⟨by decide, by decide +kernel, by decide +kernel, by decide +kernel, by decide, by decide⟩

/-- A 1 clears an event that no holding safe state keeps. -/
theorem PendingWord.getLsbD_written {a m : Nat} (h : PendingWord a m) (s : State) (v : Word) {i : Nat} (hi : i < 16) :
    (s.written a (BitVec.allOnes 32) v).getLsbD i =
      ((s.word a).getLsbD i && !(v.getLsbD i && nbit m i && !nbit (s.safeHolds a) i)) := by
  have hStores : s.storesBit a i = false := by
    rw [State.storesBit, s.bitIs_of_pageStart h.place, h.stores, nbit_eq_testBit, Nat.zero_testBit]
    rfl
  have hClears : s.clearsBit a i = (nbit m i && !nbit (s.safeHolds a) i) := by
    rw [State.clearsBit, s.bitIs_of_pageStart h.place, h.pends i hi, h.reserved, nbit_eq_testBit (wholeWord - m),
      testBit_wholeWord_sub h.mask (by omega), nbit_eq_testBit m, Bool.not_not, Bool.true_and]
  rw [s.getLsbD_written a v (by omega), hStores, hClears, Bool.and_comm (v.getLsbD i), Bool.and_right_comm]
  rfl

/-- A host write of a word of pending events leaves every other register. -/
theorem PendingWord.hostSet {a m : Nat} (h : PendingWord a m) {s : State} {v : Word} (hAdmits : s.admitsSet a v.toNat) :
    (s.hostSet a v.toNat).lastErr = none ∧
      (∀ i, i < 16 → (s.hostSet a v.toNat).flag ⟨a, i, 1⟩ =
        (s.flag ⟨a, i, 1⟩ && !(v.getLsbD i && nbit m i && !nbit (s.safeHolds a) i))) ∧
      s.hostSet a v.toNat = { s with regs := (s.hostSet a v.toNat).regs, parity := none, lastErr := none } ∧
      s.regsKept (s.hostSet a v.toNat) [a] := by
  obtain ⟨hWord, hFrame, hKept⟩ := State.hostWrite_of_quiet h.quiet hAdmits
  rw [BitVec.ofNat_toNat, BitVec.setWidth_eq] at hWord
  refine ⟨by rw [State.hostSet, hFrame], fun i hi => ?_, hFrame, hKept⟩
  rw [flag_eq_getLsbD, flag_eq_getLsbD, ← h.getLsbD_written s v hi, ← hWord, State.hostSet, BitVec.ofNat_toNat,
    BitVec.setWidth_eq]

/-- Settles O20: both registers are words of pending events, and no safe state holds a bit of SOL_EVT_HI. -/
theorem eventClearClearsWhatIsWrittenAsOne : Obligations.EventClearClearsWhatIsWrittenAsOne := by
  refine ⟨fun b mask s hAdmits => ?_, fun mask s hAdmits => ?_⟩
  · obtain ⟨hErr, hBits, hFrame, hKept⟩ := (pendingWord_evt b).hostSet hAdmits
    exact ⟨_, rfl, hErr, hBits, hFrame, hKept⟩
  · obtain ⟨hErr, hBits, hFrame, hKept⟩ := pendingWord_solEvtHi.hostSet hAdmits
    have hHolds : ∀ i, nbit (s.safeHolds R.SOL_EVT_HI) i = false := fun i => by
      rw [show s.safeHolds R.SOL_EVT_HI = 0 from rfl, nbit_eq_testBit, Nat.zero_testBit]
    refine ⟨_, rfl, hErr, fun i hi => ?_, hFrame, hKept⟩
    have hBit := hBits i hi
    rw [hHolds, Bool.not_false, Bool.and_true] at hBit
    exact hBit

end Sys2Proof.Machine
end

section
/-! Snapshots of a block's registers (R104). -/

namespace Sys2Proof.Machine

open Sys2Proof

/-- Writing a value at each key of a list leaves those keys with it and the other keys alone. -/
theorem Table.find_foldl_write {α : Type} [DecidableEq α] (d : α) (f : Nat → α) (k : Nat) :
    ∀ (l : List Nat) (t : List (Nat × α)),
      Table.find d k (l.foldl (fun t a => Table.write d a (f a) t) t) = if k ∈ l then f k else Table.find d k t
  | [], _ => rfl
  | a :: l, t => by
    rw [List.foldl_cons, Table.find_foldl_write d f k l]
    by_cases hl : k ∈ l
    · rw [if_pos hl, if_pos (List.mem_cons_of_mem a hl)]
    · rw [if_neg hl]
      by_cases ha : k = a
      · rw [ha, Table.find_write_same, if_pos List.mem_cons_self]
      · rw [Table.find_write_ne d d _ ha, if_neg (by simp [ha, hl])]

/-- A key reads in a filtered table what it read before, or the default where the filter drops it. -/
theorem Table.find_filter {α : Type} (d : α) (p : Nat → Bool) (k : Nat) :
    ∀ t : List (Nat × α), Table.find d k (t.filter (fun e => p e.1)) = if p k then Table.find d k t else d
  | [] => (ite_self d).symm
  | (j, v) :: t => by
    have ih := Table.find_filter d p k t
    by_cases hj : j = k
    · subst hj
      cases hp : p j
      · simpa [hp] using ih
      · simp [hp, Table.find]
    · have hTail : Table.find d k ((j, v) :: t) = Table.find d k t := by simp [Table.find, hj]
      rw [hTail, ← ih]
      cases hp : p j
      · simp [hp]
      · simp [hp, Table.find, hj]

theorem State.find_shadow_shadowTake (s : State) (b : Block) (a : Nat) : Table.find 0 a (s.shadowTake b).shadow =
    if a ∈ shadowedRegs b then (s.putB (H.shadowBit b) false).view a else Table.find 0 a s.shadow :=
  Table.find_foldl_write 0 (s.putB (H.shadowBit b) false).view a (shadowedRegs b) s.shadow

theorem State.find_shadow_shadowRelease (s : State) (b : Block) (a : Nat) : Table.find 0 a (s.shadowRelease b).shadow =
    if a / 65536 != b.index then Table.find 0 a s.shadow else 0 :=
  Table.find_filter 0 (fun k => k / 65536 != b.index) a s.shadow

theorem State.word_shadowTake (s : State) (b : Block) (a : Nat) :
    (s.shadowTake b).word a = (s.putB (H.shadowBit b) true).word a := by
  have hRegs : (s.shadowTake b).regs = (s.putB (H.shadowBit b) true).regs := rfl
  rw [State.word, hRegs, State.word]

theorem State.word_shadowRelease (s : State) (b : Block) (a : Nat) :
    (s.shadowRelease b).word a = (s.putB (H.shadowBit b) false).word a := by
  have hRegs : (s.shadowRelease b).regs = (s.putB (H.shadowBit b) false).regs := rfl
  rw [State.word, hRegs, State.word]

theorem State.flag_shadowTake (s : State) (b : Block) : (s.shadowTake b).flag (H.shadowBit b) = true := by
  rw [State.flag_eq_of_word (s.word_shadowTake b _)]
  exact s.flag_putB_same (H.shadowBit b) true (by simp [H.shadowBit]) rfl

theorem State.flag_shadowRelease (s : State) (b : Block) : (s.shadowRelease b).flag (H.shadowBit b) = false := by
  rw [State.flag_eq_of_word (s.word_shadowRelease b _)]
  exact s.flag_putB_same (H.shadowBit b) false (by simp [H.shadowBit]) rfl

/-- Settles O19: what the shadows of a block read after they are taken and after they are released. -/
theorem shadowsHoldOneInstant : Obligations.ShadowsHoldOneInstant := by
  refine ⟨fun b s => ⟨s.flag_shadowTake b, fun a ha => ?_, fun a ha => ?_⟩,
    fun b s => ⟨s.flag_shadowRelease b, fun a ha => ?_, fun a ha => ?_⟩⟩
  · rw [s.find_shadow_shadowTake, if_pos ha]
  · rw [s.find_shadow_shadowTake, if_neg ha]
  · rw [s.find_shadow_shadowRelease, if_neg (by simp [ha])]
  · rw [s.find_shadow_shadowRelease, if_pos (by simp [ha])]

end Sys2Proof.Machine
end

section
/-! Accepted image commands and their completion (R127, R128, R633, R634, R671). -/

namespace Sys2Proof.Machine

open Sys2Proof

/-! ## A host write of a register of CFG -/

/-- A register of CFG behind its header. -/
structure CfgWord (a : Nat) : Prop where
  region : a / 65536 = 6
  body : 0x24 ≤ a % 65536

/-- No register of CFG acts when it changes. -/
theorem CfgWord.change {a : Nat} (h : CfgWord a) (s : State) (w : Word) : s.change a w = s.stored a w := by
  obtain ⟨hRegion, hBody⟩ := h
  have hCtrl : ¬ a % 65536 = 8 := by omega
  simp only [State.change, State.onChange, State.blockChanged, hRegion, hCtrl, if_false, ite_self, State.stored]

theorem CfgWord.hostWrite {a : Nat} (h : CfgWord a) {auth : Bool} {m v : Word} {s : State} (hAdmits : s.admits auth a m v) :
    s.hostWrite auth a m v =
      ((s.stored a (s.written a m v)).hostEffect auth .cfg (s.wordWrite a m v) (m &&& v).toNat).settled := by
  obtain ⟨b, hb, hWrite⟩ := State.hostWrite_of_admits hAdmits
  rw [h.region] at hb
  obtain rfl : Block.cfg = b := Option.some.inj hb
  rw [hWrite, h.change]
  rfl

/-- A write of a register whose fields no write stores or clears leaves its word. -/
theorem State.written_of_inert {a : Nat}
    (hRw : bitsWhere (fieldsAt a) (fun f => f.acc == .rw || f.acc == .rwl || f.acc == .rwo) = 0)
    (hW1c : accBits a .w1c = 0) (s : State) (m v : Word) : s.written a m v = s.word a := by
  have hKeep : ∀ x : Word, mergeBits x 0 v = x := fun x => BitVec.eq_of_getLsbD_eq fun k hk => by
    rw [getLsbD_mergeBits x v 0 hk, Nat.zero_testBit]
    rfl
  simp only [State.written, hRw, hW1c, Nat.zero_and, hKeep, BitVec.zero_and, BitVec.not_zero, BitVec.and_allOnes]

/-! ## The image commands are accepted (R128) -/

theorem imgCmd_fieldsAt : fieldsAt R.CFG_IMG_CMD =
    [⟨8, 4, .wo, false, 0, .any, false⟩, ⟨0, 4, .wo, false, 0, .within [(1, 4)], false⟩] := by
  decide +kernel

/-- The command and the slot as the register takes them. -/
theorem imgCmd_value : ∀ slot < 16, ∀ cmd < 16,
    (BitVec.ofNat 32 (slot * 256 + cmd) &&& BitVec.allOnes 32).toNat &&& 0xF0F = slot * 256 + cmd := by
  decide +kernel

theorem State.wordWrite_imgCmd (s : State) {slot cmd : Nat} (hSlot : slot < 16) (hCmd : cmd < 16) :
    (s.wordWrite R.CFG_IMG_CMD (BitVec.allOnes 32) (BitVec.ofNat 32 (slot * 256 + cmd))).carried = 0xF0F ∧
    (s.wordWrite R.CFG_IMG_CMD (BitVec.allOnes 32) (BitVec.ofNat 32 (slot * 256 + cmd))).value = slot * 256 + cmd := by
  have hBits : bitsWhere (fieldsAt R.CFG_IMG_CMD)
      (fun f => f.acc == .wo && (f.bits &&& (BitVec.allOnes 32).toNat) != 0) = 0xF0F := by
    rw [imgCmd_fieldsAt]
    decide +kernel
  rw [State.wordWrite, hBits]
  exact ⟨rfl, imgCmd_value slot hSlot cmd hCmd⟩

theorem State.hostSet_imgCmd {s : State} {slot cmd : Nat} (hSlot : slot < 16) (hCmd : cmd < 16)
    (hAdmits : s.admitsSet R.CFG_IMG_CMD (slot * 256 + cmd)) :
    s.hostSet R.CFG_IMG_CMD (slot * 256 + cmd) = (s.imgStart cmd slot).settled := by
  have hWord : CfgWord R.CFG_IMG_CMD := ⟨by decide, by decide⟩
  have hInert : s.written R.CFG_IMG_CMD (BitVec.allOnes 32) (BitVec.ofNat 32 (slot * 256 + cmd)) = s.word R.CFG_IMG_CMD :=
    State.written_of_inert (by rw [imgCmd_fieldsAt]; rfl) (by rw [accBits, imgCmd_fieldsAt]; rfl) s _ _
  obtain ⟨hCarried, hValue⟩ := s.wordWrite_imgCmd hSlot hCmd
  rw [State.hostSet, hWord.hostWrite hAdmits, hInert, State.stored_word]
  generalize hw : s.wordWrite R.CFG_IMG_CMD (BitVec.allOnes 32) (BitVec.ofNat 32 (slot * 256 + cmd)) = w at hCarried hValue
  have hAddr : w.a = R.CFG_IMG_CMD := by rw [← hw]; rfl
  have hHeader : ¬ R.CFG_IMG_CMD % 65536 < 0x24 := by decide
  have hReq : R.CFG_IMG_CMD ≠ R.CFG_COURSE_REQ := by decide
  have hTakes : 0xF0F &&& bitsOfField F.CFG_IMG_CMD_CMD ≠ 0 := by decide
  have hOp : (slot * 256 + cmd) % 16 = cmd := by omega
  have hArg : (slot * 256 + cmd) / 256 = slot := by omega
  simp only [State.hostEffect, hAddr, hHeader, hReq, hCarried, hTakes, hValue, hOp, hArg, if_false, if_true, true_and, ne_eq,
    not_false_eq_true]

/-- CFG_IMG_STAT tells nothing of chunk signing. -/
theorem State.signWaits_put_imgStat (s : State) (lo w v : Nat) :
    (s.put ⟨R.CFG_IMG_STAT, lo, w⟩ v).signWaits = s.signWaits := by
  have hKept : ∀ a, a ≠ R.CFG_IMG_STAT → (s.put ⟨R.CFG_IMG_STAT, lo, w⟩ v).word a = s.word a :=
    fun a ha => s.word_put_ne _ _ ha
  have hRuns : (s.put ⟨R.CFG_IMG_STAT, lo, w⟩ v).runs .sec = s.runs .sec :=
    State.runs_congr (hKept _ (by decide)) (hKept _ (by decide)) (hKept _ (by decide)) rfl rfl
  rw [State.signWaits, State.secRuns, hRuns]
  rfl

/-- What the start of any image command leaves. -/
structure State.ImgStarted (s t : State) (c : ImgCmd) (waits : Bool) : Prop where
  busy : t.flag F.CFG_IMG_STAT_BUSY = true
  cfg : t.cfg = { s.cfg with img := some c }
  sec : t.sec = { s.sec with imgWaits := waits }
  frame : t = { s with regs := t.regs, cfg := t.cfg, flash := t.flash, sec := t.sec, parity := none, lastErr := none }
  kept : s.regsKept t [R.CFG_IMG_STAT]

/-- The command that is shown and latched, before its flash work is queued. -/
def State.imgLatched (s : State) (c : ImgCmd) (waits : Bool) : State :=
  ((s.put F.CFG_IMG_STAT_BUSY 1).modCfg (fun x => { x with img := some c })).modSec (fun x => { x with imgWaits := waits })

theorem State.imgLatched_started (s : State) (c : ImgCmd) (waits : Bool) :
    s.ImgStarted (s.imgLatched c waits).settled c waits :=
  ⟨s.flag_put_one R.CFG_IMG_STAT 31 (by decide), rfl, rfl, rfl, .put s 1 (.head _)⟩

/-- An ERASE or a PROGRAM is queued as flash work of class 3. -/
def State.imgQueued (s : State) : State := s.modFlash (fun x => { x with class3 := x.class3 ++ [.image] })

theorem State.imgQueued_started (s : State) (c : ImgCmd) (waits : Bool) :
    s.ImgStarted (s.imgLatched c waits).imgQueued.settled c waits :=
  let ⟨hBusy, hCfg, hSec, _, hKept⟩ := s.imgLatched_started c waits
  ⟨hBusy, hCfg, hSec, rfl, hKept⟩

theorem State.imgStart_erase (s : State) (slot : Nat) : s.imgStart 1 slot = (s.imgLatched .erase false).imgQueued := rfl

theorem State.imgStart_program (s : State) (slot : Nat) : s.imgStart 2 slot =
    (s.imgLatched (.program (s.nat R.CFG_IMG_OFS % 2 ^ 20) (s.nat R.CFG_IMG_LEN % 65536)) false).imgQueued := rfl

theorem State.imgStart_verify (s : State) (slot : Nat) : s.imgStart 3 slot = s.imgLatched .verify s.signWaits :=
  congrArg (s.imgLatched .verify) (s.signWaits_put_imgStat 31 1 1)

theorem State.imgStart_load (s : State) (slot : Nat) : s.imgStart 4 slot = s.imgLatched (.load slot) s.signWaits :=
  congrArg (s.imgLatched (.load slot)) (s.signWaits_put_imgStat 31 1 1)

/-! ## What a completed command leaves (R128) -/

/-- Before its event is raised the command has ended, and its result is shown. -/
def State.imgShown (s : State) (r : Nat) : State :=
  (((s.modCfg (fun x => { x with img := none })).modFlash
    (fun x => { x with class3 := x.class3.filter (fun o => o != .image) })).put F.CFG_IMG_STAT_BUSY 0).put F.CFG_IMG_STAT_RESULT r

/-- The command in progress ends with result `r` and event `e`. -/
def State.imgEnded (s : State) (r e : Nat) : State :=
  (s.imgShown r).raise e

/-- The event that tells the result `r` of an image command. -/
def imgEvent (c : ImgCmd) (r : Nat) : Nat :=
  match c with
  | .load _ => if r = 0 then 39 else 38
  | _ => if r = 0 then 39 else 40

theorem exec_imgCmdComplete {s : State} {c : ImgCmd} (hImg : s.cfg.img = some c) (hWaits : s.sec.imgWaits = false) (ok : Bool) :
    exec (.imgCmdComplete ok) s = .next ((s.imgDo c ok).2.imgEnded (s.imgDo c ok).1
      (imgEvent c (s.imgDo c ok).1)) := by
  show execImgCmdComplete ok s = _
  simp only [execImgCmdComplete, hImg, hWaits]
  cases c <;> rfl

theorem exec_imgCmdComplete_idle {s : State} (h : s.cfg.img = none ∨ s.sec.imgWaits = true) (ok : Bool) :
    exec (.imgCmdComplete ok) s = .next s := by
  show execImgCmdComplete ok s = _
  rcases h with h | h
  · simp only [execImgCmdComplete, h]
  · simp only [execImgCmdComplete, h, if_true]
    split <;> rfl

/-- `t` is `s` after the command in progress has ended with result `r` and event `e`. -/
structure State.ImgEnds (s t : State) (r e : Nat) : Prop where
  busy : t.flag F.CFG_IMG_STAT_BUSY = false
  result : t.get F.CFG_IMG_STAT_RESULT = r % 2 ^ F.CFG_IMG_STAT_RESULT.w
  event : s.occurred t e
  cfg : t.cfg = { s.cfg with img := none }
  wear : t.flash.wearB = s.flash.wearB
  fresh : t.fresh = s.fresh
  frame : t = { s with regs := t.regs, occ := t.occ, cfg := t.cfg, flash := t.flash }
  kept : s.regsKept t [R.CFG_IMG_STAT, (evBit e).addr]

theorem State.imgShown_kept (s : State) (r : Nat) : s.regsKept (s.imgShown r) [R.CFG_IMG_STAT] :=
  .trans (t := s.put F.CFG_IMG_STAT_BUSY 0) (.put s 0 (.head _)) (.put _ r (.head _))

theorem State.imgEnded_ends {s : State} (hKind : s.kind .cfg = 1) (r : Nat) {e : Nat} (hOwner : evOwner e = .cfg)
    (hApart : R.CFG_IMG_STAT ≠ (evBit e).addr) : s.ImgEnds (s.imgEnded r e) r e := by
  have hKindShown : (s.imgShown r).kind (evOwner e) = 1 := by
    rw [hOwner, (s.imgShown_kept r).kind (by decide) (by decide) rfl, hKind]
  have hBusy : (s.imgShown r).flag F.CFG_IMG_STAT_BUSY = false := by
    rw [State.imgShown, State.flag_put_of_apart _ _ (.inr (by decide)), State.flag_put_same _ (by decide)]
    rfl
  have hResult : (s.imgShown r).get F.CFG_IMG_STAT_RESULT = r % 2 ^ F.CFG_IMG_STAT_RESULT.w :=
    State.get_put_same _ _ _ (by decide)
  rw [State.imgEnded]
  refine ⟨(State.flag_raise_ne _ _ hApart).trans hBusy, (State.get_raise_ne _ _ hApart).trans hResult,
    State.occurred_raise hKindShown, ?_, ?_, ?_, ?_, ?_⟩
  case refine_5 => exact .trans ((s.imgShown_kept r).mono (by simp)) (.raise _ (by simp))
  all_goals
    rw [State.raise_changes]
    rfl

/-! ## The erases of a range of sectors (R634) -/

/-- The state with the erase counts of plane B at `T`. -/
def State.withWearB (s : State) (T : Table Nat) : State := s.modFlash (fun x => { x with wearB := T })

/-- An erase that is not the 80,000th of its sector is counted, and nothing else. -/
theorem State.wear_of_fresh {s : State} {k : Nat} (h : s.flash.wearB.get k + 1 ≠ 80000) :
    s.wear false k = s.withWearB (s.flash.wearB.set k (s.flash.wearB.get k + 1)) := by
  have hLimit : (s.flash.wearB.get k + 1 == 80000) = false := beq_eq_false_iff_ne.mpr h
  simp only [State.wear, hLimit, Bool.false_eq_true, if_false, State.raiseIf]
  rfl

/-- Erases of the sectors from `k` on, each counted where its contents lie, none the 80,000th of its sector. -/
theorem State.each_wear (k : Nat) : ∀ (l : List Nat) (s : State), (∀ d, s.flash.wearB.get d + l.length < 80000) →
    ∃ T : Table Nat, s.each l (fun s i => s.wear false (s.sectorHome (k + i))) = s.withWearB T ∧
      ∀ d, T.get d = s.flash.wearB.get d + (l.filter (fun i => s.sectorHome (k + i) == d)).length
  | [], s, _ => ⟨s.flash.wearB, rfl, fun _ => rfl⟩
  | i :: l, s, h => by
    have hLength : (i :: l).length = l.length + 1 := rfl
    have hFirst := State.wear_of_fresh (s := s) (k := s.sectorHome (k + i)) (by have := h (s.sectorHome (k + i)); omega)
    have hCount : ∀ d, (s.flash.wearB.set (s.sectorHome (k + i)) (s.flash.wearB.get (s.sectorHome (k + i)) + 1)).get d =
        s.flash.wearB.get d + if s.sectorHome (k + i) = d then 1 else 0 := by
      intro d
      by_cases hd : s.sectorHome (k + i) = d
      · rw [hd, Table.get_set_same, if_pos rfl]
      · rw [Table.get_set_ne _ _ (Ne.symm hd), if_neg hd, Nat.add_zero]
    generalize s.flash.wearB.set (s.sectorHome (k + i)) (s.flash.wearB.get (s.sectorHome (k + i)) + 1) = T1 at hFirst hCount
    obtain ⟨T, hRest, hT⟩ := State.each_wear k l (s.withWearB T1) fun d => by
      have hBound : T1.get d + l.length < 80000 := by
        rw [hCount]
        have := h d
        split <;> omega
      exact hBound
    refine ⟨T, ?_, fun d => ?_⟩
    · have hStep : s.each (i :: l) (fun s i => s.wear false (s.sectorHome (k + i))) =
          (s.wear false (s.sectorHome (k + i))).each l (fun s i => s.wear false (s.sectorHome (k + i))) := rfl
      rw [hStep, hFirst, hRest]
      rfl
    · have hTail : T.get d = T1.get d + (l.filter (fun i => s.sectorHome (k + i) == d)).length := hT d
      rw [hTail, hCount, List.filter_cons]
      by_cases hd : s.sectorHome (k + i) = d
      · simp [hd]
        omega
      · simp [hd]

/-! ## The copy that the image commands act on (R128) -/

/-- The copy after a flash operation that leaves `l` in it, or fails. -/
def State.otherSet (s : State) (ok : Bool) (l : List Byte) : State := if ok then s.setOther l else s.spoilOther l

theorem State.setOther_copies (s : State) (l : List Byte) : (s.setOther l).otherCopy = l ∧
    (s.get F.CFG_FTG_STATE_BOOTED = 0 → (s.setOther l).cfg.copyA = s.cfg.copyA) ∧
    (s.get F.CFG_FTG_STATE_BOOTED ≠ 0 → (s.setOther l).cfg.copyB = s.cfg.copyB) ∧
    s.setOther l = { s with cfg := (s.setOther l).cfg } := by
  by_cases h : s.get F.CFG_FTG_STATE_BOOTED = 0
  · have hSet : s.setOther l = s.modCfg (fun x => { x with copyB := l }) := if_pos h
    rw [hSet]
    exact ⟨if_pos h, fun _ => rfl, fun hNot => absurd h hNot, rfl⟩
  · have hSet : s.setOther l = s.modCfg (fun x => { x with copyA := l }) := if_neg h
    rw [hSet]
    exact ⟨if_neg h, fun hZero => absurd hZero h, fun _ => rfl, rfl⟩

theorem State.otherSet_copies (s : State) (ok : Bool) (l : List Byte) :
    (s.otherSet ok l).otherCopy = (if ok then l else Config.failedFlash s.fresh l) ∧
    (s.otherSet ok l).fresh = (if ok then s.fresh else s.fresh + 1) ∧
    (s.get F.CFG_FTG_STATE_BOOTED = 0 → (s.otherSet ok l).cfg.copyA = s.cfg.copyA) ∧
    (s.get F.CFG_FTG_STATE_BOOTED ≠ 0 → (s.otherSet ok l).cfg.copyB = s.cfg.copyB) ∧
    s.otherSet ok l = { s with cfg := (s.otherSet ok l).cfg, fresh := (s.otherSet ok l).fresh } := by
  cases ok with
  | true =>
    obtain ⟨hCopy, hA, hB, hFrame⟩ := s.setOther_copies l
    have hSet : s.otherSet true l = s.setOther l := rfl
    rw [hSet]
    exact ⟨hCopy, by rw [hFrame]; rfl, hA, hB, by rw [hFrame]⟩
  | false =>
    obtain ⟨hCopy, hA, hB, hFrame⟩ := s.setOther_copies (Config.failedFlash s.fresh l)
    have hSet : s.otherSet false l = { s.setOther (Config.failedFlash s.fresh l) with fresh := s.fresh + 1 } := rfl
    rw [hSet]
    exact ⟨hCopy, rfl, hA, hB, by rw [hFrame]⟩

theorem State.imgDo_erase (s : State) (ok : Bool) : s.imgDo .erase ok =
    (if ok then 0 else 7, (s.wearB (if s.get F.CFG_FTG_STATE_BOOTED = 0 then 144 else 128) 16).otherSet ok []) := by
  cases ok <;> rfl

theorem State.imgDo_program {s : State} {o n : Nat} (h : o + n ≤ copySize) (ok : Bool) : s.imgDo (.program o n) ok =
    (if ok then 0 else 7, s.otherSet ok (flashWrite s.otherCopy o (s.imgWindow n))) := by
  have hFits : ¬ copySize < o + n := by omega
  cases ok <;> simp [State.imgDo, hFits, State.otherSet]

theorem State.imgDo_program_beyond {s : State} {o n : Nat} (h : copySize < o + n) (ok : Bool) :
    s.imgDo (.program o n) ok = (4, s) := if_pos h

theorem State.imgDo_verify {s : State} (h : s.verifyImage ≠ 3) (ok : Bool) : s.imgDo .verify ok = (s.verifyImage, s) := by
  simp only [State.imgDo, h, if_false]

/-! ## The clauses of O23 -/

theorem cfgEvents : ∀ e ∈ [38, 39, 40],
    evOwner e = .cfg ∧ (evBit e).addr = (evBit 39).addr ∧ R.CFG_IMG_STAT ≠ (evBit e).addr := by
  decide

/-- An ERASE or a PROGRAM has run: the counts of plane B are `T`, and the copy holds `l` or is spoilt. -/
theorem imgCopied_effect {s : State} (hKind : s.kind .cfg = 1) (ok : Bool) (T : Table Nat) (l : List Byte) :
    ∃ t, t = ((s.withWearB T).otherSet ok l).imgEnded (if ok then 0 else 7) (if ok then 39 else 40) ∧
      t.flag F.CFG_IMG_STAT_BUSY = false ∧ t.get F.CFG_IMG_STAT_RESULT = (if ok then 0 else 7) ∧
      s.occurred t (if ok then 39 else 40) ∧ t.cfg.img = none ∧
      (s.get F.CFG_FTG_STATE_BOOTED = 0 → t.cfg.copyA = s.cfg.copyA) ∧
      (s.get F.CFG_FTG_STATE_BOOTED ≠ 0 → t.cfg.copyB = s.cfg.copyB) ∧
      t.otherCopy = (if ok then l else Config.failedFlash s.fresh l) ∧ t.fresh = (if ok then s.fresh else s.fresh + 1) ∧
      t.flash.wearB = T ∧ t = { s with regs := t.regs, occ := t.occ, cfg := t.cfg, flash := t.flash, fresh := t.fresh } ∧
      s.regsKept t [R.CFG_IMG_STAT, (evBit 39).addr] := by
  obtain ⟨hCopy, hFresh, hA, hB, hFrame⟩ := (s.withWearB T).otherSet_copies ok l
  obtain ⟨hOwner, hPlace, hApart⟩ := cfgEvents (if ok then 39 else 40) (by cases ok <;> decide)
  generalize (s.withWearB T).otherSet ok l = u at hCopy hFresh hA hB hFrame ⊢
  have hWords : ∀ a, u.word a = s.word a := fun a => by rw [hFrame]; rfl
  have hOcc : u.occ = s.occ ∧ u.tag = s.tag := by rw [hFrame]; exact ⟨rfl, rfl⟩
  have hKindU : u.kind .cfg = 1 := (State.kind_congr (hWords _) (hWords _) (by rw [hFrame]; rfl) .cfg).trans hKind
  obtain ⟨hBusy, hResult, ⟨hBit, hNote⟩, hCfg, hWear, hFreshEnd, hEnd, hKept⟩ :=
    State.imgEnded_ends hKindU (if ok then 0 else 7) hOwner hApart
  generalize u.imgEnded (if ok then 0 else 7) (if ok then 39 else 40) = t at *
  have hBooted : t.get F.CFG_FTG_STATE_BOOTED = u.get F.CFG_FTG_STATE_BOOTED := by
    refine hKept.get ?_
    rw [hPlace]
    decide
  refine ⟨t, rfl, hBusy, ?_, ⟨hBit, ?_⟩, by rw [hCfg], fun h => ?_, fun h => ?_, ?_, hFreshEnd.trans hFresh, ?_, ?_,
    fun a ha => ?_⟩
  · rw [hResult]
    cases ok <;> rfl
  · rw [hNote, hOcc.1, hOcc.2]
  · rw [hCfg]
    exact hA h
  · rw [hCfg]
    exact hB h
  · exact Eq.trans (by rw [State.otherCopy, State.otherCopy, hBooted, hCfg]) hCopy
  · rw [hWear, hFrame]
    rfl
  · rw [hEnd, hFrame]
    rfl
  · rw [hKept a (by rw [hPlace]; exact ha), hWords]

theorem imgCmdComplete_copies {c : ImgCmd} {o n : Nat} (ok : Bool) {s : State} (hImg : s.cfg.img = some c)
    (hWaits : s.sec.imgWaits = false)
    (hCmd : c = .erase ∧ (∀ k, s.flash.wearB.get k < 79984) ∨ c = .program o n ∧ o + n ≤ 0x100000) :
    ∃ (t : State) (T : Table Nat) (l : List Byte), exec (.imgCmdComplete ok) s = .next t ∧
      t = ((s.withWearB T).otherSet ok l).imgEnded (if ok then 0 else 7) (if ok then 39 else 40) ∧
      l = (if c = .erase then [] else flashWrite s.otherCopy o (s.imgWindow n)) ∧
      ∀ k, T.get k = s.flash.wearB.get k + (if c = .erase then ((List.range 16).filter (fun i =>
        s.sectorHome ((if s.get F.CFG_FTG_STATE_BOOTED = 0 then 144 else 128) + i) == k)).length else 0) := by
  have hExec := exec_imgCmdComplete hImg hWaits ok
  rcases hCmd with ⟨rfl, hFresh⟩ | ⟨rfl, hFits⟩
  · obtain ⟨T, hWorn, hT⟩ := State.each_wear (if s.get F.CFG_FTG_STATE_BOOTED = 0 then 144 else 128) (List.range 16) s
      fun d => by have := hFresh d; rw [List.length_range]; omega
    rw [s.imgDo_erase] at hExec
    refine ⟨_, T, [], hExec, ?_, rfl, hT⟩
    have hWearB : s.wearB (if s.get F.CFG_FTG_STATE_BOOTED = 0 then 144 else 128) 16 = s.withWearB T := hWorn
    have hEvent : imgEvent .erase (if ok then 0 else 7) = if ok then 39 else 40 := by cases ok <;> rfl
    rw [hWearB, hEvent]
  · rw [State.imgDo_program hFits] at hExec
    have hEvent : imgEvent (.program o n) (if ok then 0 else 7) = if ok then 39 else 40 := by cases ok <;> rfl
    refine ⟨_, s.flash.wearB, _, hExec, ?_, (if_neg (by simp)).symm, fun k => by simp⟩
    rw [hEvent]
    rfl

/-- Settles O23: how the four commands start, then what each of them leaves as it ends. -/
theorem imageCommandsRunAndReport : Obligations.ImageCommandsRunAndReport := by
  unfold Obligations.ImageCommandsRunAndReport
  refine ⟨fun s h => ?_, fun s h => ?_, fun s h => ?_, fun slot s h => ?_, fun c o n ok s hImg hKind hWaits hCmd => ?_,
    fun o n ok s hImg hBeyond hKind hWaits => ?_, fun ok s h => exec_imgCmdComplete_idle h ok,
    fun ok s hImg hWaits hKind hBad => ?_, fun n r ok s u hImg hWaits hLoad hKind => ?_⟩
  · obtain ⟨hBusy, hCfg, hSec, hFrame, hKept⟩ := s.imgQueued_started .erase false
    exact ⟨_, congrArg Host.Outcome.next (State.hostSet_imgCmd (slot := 0) (cmd := 1) (by decide) (by decide) h), rfl,
      hBusy, hCfg, rfl, hSec, hFrame, hKept⟩
  · obtain ⟨hBusy, hCfg, hSec, hFrame, hKept⟩ := s.imgQueued_started
      (.program (s.nat R.CFG_IMG_OFS % 2 ^ 20) (s.nat R.CFG_IMG_LEN % 65536)) false
    exact ⟨_, congrArg Host.Outcome.next (State.hostSet_imgCmd (slot := 0) (cmd := 2) (by decide) (by decide) h), rfl,
      hBusy, hCfg, rfl, hSec, hFrame, hKept⟩
  · obtain ⟨hBusy, hCfg, hSec, hFrame, hKept⟩ := s.imgLatched_started .verify s.signWaits
    have hExec : exec .imgVerify s = .next (s.imgStart 3 0).settled :=
      congrArg Host.Outcome.next (State.hostSet_imgCmd (slot := 0) (cmd := 3) (by decide) (by decide) h)
    rw [s.imgStart_verify] at hExec
    exact ⟨_, hExec, rfl, hBusy, hCfg, hSec, rfl, hKept⟩
  · obtain ⟨hBusy, hCfg, hSec, hFrame, hKept⟩ := s.imgLatched_started (.load slot.toNat) s.signWaits
    have hExec : exec (.loadCourse slot) s = .next (s.imgStart 4 slot.toNat).settled :=
      congrArg Host.Outcome.next (State.hostSet_imgCmd (cmd := 4) slot.isLt (by decide) h)
    rw [s.imgStart_load] at hExec
    exact ⟨_, hExec, rfl, hBusy, hCfg, hSec, rfl, hKept⟩
  · obtain ⟨t, T, l, hExec, hT, hl, hWear⟩ := imgCmdComplete_copies ok hImg hWaits hCmd
    obtain ⟨_, rfl, hBusy, hResult, hEvent, hNone, hA, hB, hCopy, hFresh, hWearB, hFrame, hKept⟩ := imgCopied_effect hKind ok T l
    rw [← hT] at hBusy hResult hEvent hNone hA hB hCopy hFresh hWearB hFrame hKept
    refine ⟨t, hExec, hBusy, hResult, hEvent, hNone, hA, hB, fun hOk hErase => ?_, fun k => ?_, fun hOk hProg => ?_,
      fun hOk => ?_, hFrame, hKept⟩
    · rw [hCopy, hl, hErase, hOk, if_pos rfl, if_pos rfl]
    · rw [hWearB, hWear]
    · rw [hCopy, hl, hProg, hOk, if_pos rfl, if_neg (by simp)]
    · subst hOk
      rw [hCopy, hFresh, hl]
      exact ⟨rfl, rfl⟩
  · have hExec := exec_imgCmdComplete hImg hWaits ok
    rw [State.imgDo_program_beyond hBeyond] at hExec
    obtain ⟨hOwner, -, hApart⟩ := cfgEvents 40 (by decide)
    obtain ⟨hBusy, hResult, hEvent, hCfg, -, -, hFrame, hKept⟩ := State.imgEnded_ends hKind 4 hOwner hApart
    exact ⟨_, hExec, hBusy, hResult, hEvent, hCfg, hFrame, hKept⟩
  · have hExec := exec_imgCmdComplete hImg hWaits ok
    rw [State.imgDo_verify hBad] at hExec
    obtain ⟨hOwner, hPlace, hApart⟩ := cfgEvents (if s.verifyImage = 0 then 39 else 40) (by split <;> decide)
    obtain ⟨hBusy, hResult, hEvent, hCfg, -, -, hFrame, hKept⟩ := State.imgEnded_ends hKind s.verifyImage hOwner hApart
    rw [hPlace] at hKept
    exact ⟨_, hExec, hBusy, hResult, hEvent, hCfg, hFrame, hKept⟩
  · have hExec := exec_imgCmdComplete hImg hWaits ok
    have hDo : s.imgDo (.load n) ok = (r, u) := hLoad
    rw [hDo] at hExec
    obtain ⟨hOwner, hPlace, hApart⟩ := cfgEvents (if r = 0 then 39 else 38) (by split <;> decide)
    obtain ⟨hBusy, hResult, hEvent, hCfg, -, -, hFrame, hKept⟩ := State.imgEnded_ends hKind r hOwner hApart
    rw [hPlace] at hKept
    exact ⟨_, hExec, hBusy, hResult, hEvent, hCfg, hFrame, hKept⟩

end Sys2Proof.Machine
end

section
/-! Course requests, courses taken and the time-out of a change (R122, R123, R124). -/

namespace Sys2Proof.Machine

open Sys2Proof

/-! ## COURSE_REQUEST (R123, R124) -/

theorem courseReq_fieldsAt : fieldsAt R.CFG_COURSE_REQ = [⟨0, 4, .rw, false, 0, .any, false⟩] := by decide +kernel

theorem courseReq_word : CfgWord R.CFG_COURSE_REQ := ⟨by decide, by decide⟩

/-- The slot as it is written. -/
theorem State.written_courseReq (s : State) (slot : BitVec 4) :
    (s.written R.CFG_COURSE_REQ (BitVec.allOnes 32) (BitVec.ofNat 32 slot.toNat)).toNat % 16 = slot.toNat := by
  have hStored : ∀ k < 4, nbit (bitsWhere (fieldsAt R.CFG_COURSE_REQ) fun f => storedCodes.contains f.acc) k = true := by
    rw [courseReq_fieldsAt]
    decide
  have hUncond : Unconditional R.CFG_COURSE_REQ := ⟨by decide, by decide, by decide⟩
  have hTake := hUncond.takeField_written (by decide) hStored s (BitVec.ofNat 32 slot.toNat)
  rw [takeField, Nat.pow_zero, Nat.div_one, BitVec.toNat_ofNat] at hTake
  have := slot.isLt
  omega

/-- The request's register holds the slot, before what follows. -/
def State.courseAsked (s : State) (slot : BitVec 4) : State :=
  s.stored R.CFG_COURSE_REQ (s.written R.CFG_COURSE_REQ (BitVec.allOnes 32) (BitVec.ofNat 32 slot.toNat))

theorem State.courseAsked_puts (s : State) (slot : BitVec 4) : s.Puts (s.courseAsked slot) [R.CFG_COURSE_REQ] :=
  let ⟨_, hFrame, hKept⟩ := s.stored_keeps R.CFG_COURSE_REQ _
  ⟨hFrame, hKept⟩

theorem exec_courseRequest {slot : BitVec 4} {s : State} (hAdmits : s.admitsSet R.CFG_COURSE_REQ slot.toNat) :
    exec (.courseRequest slot) s = .next ((s.courseAsked slot).courseRequest slot.toNat).settled := by
  have hHeader : ¬ R.CFG_COURSE_REQ % 65536 < 0x24 := by decide
  show Host.Outcome.next (s.hostSet R.CFG_COURSE_REQ slot.toNat) = _
  rw [State.hostSet, courseReq_word.hostWrite hAdmits]
  show Host.Outcome.next (State.hostEffect _ false .cfg (s.wordWrite _ _ _) _).settled = _
  simp only [State.hostEffect, State.wordWrite, hHeader, if_false, if_true, s.written_courseReq]
  rfl

/-- While a change is in progress the request is queued. -/
theorem State.courseRequest_queued {s : State} (hBusy : s.flag F.CFG_COURSE_STAT_BUSY = true) (slot : Nat) :
    s.courseRequest slot = (s.put F.CFG_COURSE_STAT_QUEUED slot).put F.CFG_COURSE_STAT_QVALID 1 := if_pos hBusy

theorem State.courseRequest_queues {s : State} (hBusy : s.flag F.CFG_COURSE_STAT_BUSY = true) {slot : Nat} (hSlot : slot < 16) :
    (s.courseRequest slot).get F.CFG_COURSE_STAT_QUEUED = slot ∧ (s.courseRequest slot).flag F.CFG_COURSE_STAT_QVALID = true ∧
    s.Puts (s.courseRequest slot) [R.CFG_COURSE_STAT] := by
  rw [State.courseRequest_queued hBusy]
  refine ⟨?_, ?_, .trans (.put s slot (.head _)) (.put _ 1 (.head _))⟩
  · rw [State.get_put_of_apart _ _ (.inr (by decide)), State.get_put_same _ _ _ (by decide)]
    exact Nat.mod_eq_of_lt hSlot
  · rw [State.flag_put_same _ (by decide)]
    rfl

theorem State.courseRequest_started {s : State} (hBusy : s.flag F.CFG_COURSE_STAT_BUSY = false) (slot : Nat) :
    s.courseRequest slot = s.courseStart slot := by
  rw [State.courseRequest, hBusy]
  rfl

/-! ## The start of a change (R123) -/

theorem blockOf_index (b : Block) : blockOf b.index = some b := by cases b <;> rfl

theorem index_injective {b c : Block} (h : b.index = c.index) : b = c :=
  Option.some.inj (by rw [← blockOf_index b, h, blockOf_index c])

/-- A bit above those of `m` is added to it. -/
theorem testBit_add_two_pow {m k : Nat} (h : m < 2 ^ k) (i : Nat) : (m + 2 ^ k).testBit i = (m.testBit i || decide (k = i)) := by
  have hOr : m + 2 ^ k = 2 ^ k ||| m := by
    rw [Nat.add_comm, ← Nat.mul_one (2 ^ k), Nat.two_pow_add_eq_or_of_lt h]
  rw [hOr, Nat.testBit_or, Nat.testBit_two_pow, Bool.or_comm]

/-- Blocks in the order of their indices, as the bits of a mask. -/
theorem testBit_foldl_index : ∀ (l : List Block) (m : Nat), (∀ b ∈ l, m < 2 ^ b.index) →
    l.Pairwise (fun b c => b.index < c.index) → ∀ i,
    (l.foldl (fun m b => m + 2 ^ b.index) m).testBit i = (m.testBit i || l.any (fun b => decide (b.index = i)))
  | [], _, _, _, _ => (Bool.or_false _).symm
  | b :: l, m, hm, hl, i => by
    obtain ⟨hFirst, hRest⟩ := List.pairwise_cons.mp hl
    have hb := hm b List.mem_cons_self
    have hNext : ∀ c ∈ l, m + 2 ^ b.index < 2 ^ c.index := fun c hc => by
      have hPow := Nat.pow_le_pow_right (n := 2) (by decide) (hFirst c hc)
      rw [Nat.pow_succ] at hPow
      omega
    rw [List.foldl_cons, testBit_foldl_index l _ hNext hRest, testBit_add_two_pow hb, List.any_cons, Bool.or_assoc]

/-- The blocks that meet `p`, as bits of CFG_COURSE_PEND. -/
def blockMask (p : Block → Bool) : Nat := (allBlocks.filter p).foldl (fun m b => m + 2 ^ b.index) 0

theorem testBit_blockMask (p : Block → Bool) {b : Block} (hb : b ∈ allBlocks) : (blockMask p).testBit b.index = p b := by
  have hOrder : allBlocks.Pairwise (fun b c => b.index < c.index) := by decide
  rw [blockMask, testBit_foldl_index _ _ (fun c _ => Nat.two_pow_pos _) (hOrder.filter p), Nat.zero_testBit, Bool.false_or,
    Bool.eq_iff_iff, List.any_eq_true]
  constructor
  · rintro ⟨c, hc, hIndex⟩
    rw [← index_injective (of_decide_eq_true hIndex)]
    exact (List.mem_filter.mp hc).2
  · exact fun hp => ⟨b, List.mem_filter.mpr ⟨hb, hp⟩, decide_eq_true rfl⟩

/-- A change to the course of `slot` has begun, before the blocks show it as pending. -/
def State.courseBegun (s : State) (slot : Nat) : State :=
  (((s.modCfg fun x => { x with
    prev := x.cur, cur := s.slotCourse slot, crsAt := s.clk, crsTmo := false, canLate := [], paceLate := [] }).put
      F.CFG_COURSE_STAT_TARGET slot).put F.CFG_COURSE_STAT_BUSY 1).setNat R.CFG_COURSE_PEND (blockMask s.present)

theorem State.courseStart_eq (s : State) (slot : Nat) : s.courseStart slot =
    (s.courseBegun slot).each (allBlocks.filter s.present) (fun s b => s.put (H.pendingBit b) 1) := rfl

theorem State.courseStart_puts (s : State) (slot : Nat) :
    (s.courseBegun slot).Puts (s.courseStart slot) (allBlocks.map (fun b => hdr b 0x020)) := by
  rw [s.courseStart_eq]
  refine State.each_rel (r := fun s t => State.Puts s t _) (fun s => .refl s _) .trans _ _ fun b hb u _ => ?_
  exact .put u 1 (List.mem_map.mpr ⟨b, (List.mem_filter.mp hb).1, rfl⟩)

theorem courseRegs_apart : ∀ a ∈ [R.CFG_COURSE_REQ, R.CFG_COURSE_STAT, R.CFG_COURSE_PEND],
    a ∉ allBlocks.map (fun b => hdr b 0x020) := by
  decide +kernel

theorem State.nat_setNat (s : State) (a v : Nat) : (s.setNat a v).nat a = v % 2 ^ 32 := by
  rw [State.nat, State.setNat, State.word_setWord_same, BitVec.toNat_ofNat]

/-- What the start of a change shows. -/
theorem State.courseStart_shows (s : State) {slot : Nat} (hSlot : slot < 16) :
    (s.courseStart slot).flag F.CFG_COURSE_STAT_BUSY = true ∧ (s.courseStart slot).get F.CFG_COURSE_STAT_TARGET = slot ∧
    (s.courseStart slot).cfg = { s.cfg with
      prev := s.cfg.cur, cur := s.slotCourse slot, crsAt := s.clk, crsTmo := false, canLate := [], paceLate := [] } ∧
    (∀ b ∈ allBlocks, nbit ((s.courseStart slot).nat R.CFG_COURSE_PEND) b.index = s.present b) ∧
    s.courseStart slot = { s with regs := (s.courseStart slot).regs, cfg := (s.courseStart slot).cfg } ∧
    s.regsKept (s.courseStart slot) ([R.CFG_COURSE_STAT, R.CFG_COURSE_PEND] ++ allBlocks.map (fun b => hdr b 0x020)) := by
  obtain ⟨hFrame, hKept⟩ := s.courseStart_puts slot
  have hStat : (s.courseStart slot).word R.CFG_COURSE_STAT = (s.courseBegun slot).word R.CFG_COURSE_STAT :=
    hKept _ (courseRegs_apart _ (by simp))
  have hPend : (s.courseStart slot).word R.CFG_COURSE_PEND = (s.courseBegun slot).word R.CFG_COURSE_PEND :=
    hKept _ (courseRegs_apart _ (by simp))
  have hBegun : s.regsKept (s.courseBegun slot) [R.CFG_COURSE_STAT, R.CFG_COURSE_PEND] :=
    .trans (t := (s.put F.CFG_COURSE_STAT_TARGET slot).put F.CFG_COURSE_STAT_BUSY 1)
      (.trans (.put s slot (.head _)) (.put _ 1 (.head _))) (.setWord _ _ (by simp))
  refine ⟨?_, ?_, ?_, fun b hb => ?_, ?_, fun a ha => ?_⟩
  · rw [State.flag_eq_of_word hStat, State.courseBegun, State.setNat,
      State.flag_eq_of_word (State.word_setWord_ne _ _ (by decide))]
    exact State.flag_put_one _ R.CFG_COURSE_STAT 24 (by decide)
  · rw [State.get_eq_of_word hStat, State.courseBegun, State.setNat, State.get_eq_of_word (State.word_setWord_ne _ _ (by decide)),
      State.get_put_of_apart _ _ (.inr (by decide)), State.get_put_same _ _ _ (by decide)]
    exact Nat.mod_eq_of_lt hSlot
  · rw [hFrame]
    rfl
  · have hIndex : b.index < 32 := by cases b <;> decide
    rw [State.nat, hPend]
    show nbit ((State.setNat _ R.CFG_COURSE_PEND _).nat R.CFG_COURSE_PEND) b.index = _
    rw [State.nat_setNat, nbit_eq_testBit, Nat.testBit_mod_two_pow, decide_eq_true hIndex, Bool.true_and, testBit_blockMask _ hb]
  · rw [hFrame]
    rfl
  · rw [List.mem_append, not_or] at ha
    exact (hKept a ha.2).trans (hBegun a ha.1)

/-! ## COURSE_TAKE (R122, R123) -/

/-- Where no image has an entry for the block its fields stay as they are. -/
theorem State.courseFieldsAt_of_no_entries {s : State} {b : Block} {prev cur : Option Course} (hNew : s.courseEntries cur b = [])
    (hOld : ∀ c, prev = some c ∨ c ∈ s.cfg.courses.filterMap (·.2) → entriesOf b c.sets = [])
    (hFoot : ∀ f, s.cfg.footing = some f → entriesOf b f.sets = []) (p : Nat → Bool) : s.courseFieldsAt b prev cur p = s := by
  have hOldAll : (prev.toList ++ s.cfg.courses.filterMap (·.2)).flatMap (fun c => entriesOf b c.sets) = [] := by
    refine List.flatMap_eq_nil_iff.mpr fun c hc => hOld c ?_
    rcases List.mem_append.mp hc with hc | hc
    · exact .inl (Option.mem_toList.mp hc)
    · exact .inr hc
  unfold State.courseFieldsAt
  dsimp only
  rw [hNew, hOldAll]
  cases hf : s.cfg.footing with
  | none => exact ite_self s
  | some f =>
    simp only [hFoot f hf]
    exact ite_self s

/-- No image has an entry for block `b`. -/
structure State.CourseLeaves (s : State) (b : Block) : Prop where
  new : s.courseEntries s.cfg.cur b = []
  old : ∀ c, s.cfg.prev = some c ∨ c ∈ s.cfg.courses.filterMap (·.2) → entriesOf b c.sets = []
  foot : ∀ f, s.cfg.footing = some f → entriesOf b f.sets = []

theorem State.CourseLeaves.fields {s : State} {b : Block} (h : s.CourseLeaves b) (p : Nat → Bool) :
    s.courseFieldsAt b s.cfg.prev s.cfg.cur p = s := State.courseFieldsAt_of_no_entries h.new h.old h.foot p

theorem State.canCourse_of_idle {s : State} (h : s.CourseLeaves .can) (hIdle : s.canInFlight = []) :
    s.canCourse = s.courseTaken .can := by
  simp only [State.canCourse, h.fields, hIdle, List.isEmpty_nil, if_true]

theorem State.paceCourse_of_due {s : State} (h : s.CourseLeaves .pace) (hLate : s.cfg.paceLate = [])
    (hDue : ∀ u < 20, s.enabled .pace = false ∨ s.paceUnitDue u = true) : s.paceCourse = s.courseTaken .pace := by
  have hWaits : s.paceWaits = List.range 20 := by rw [State.paceWaits, hLate]; rfl
  have hAll : (List.range 20).filter (fun u => !s.enabled .pace || s.paceUnitDue u) = List.range 20 := by
    refine List.filter_eq_self.mpr fun u hu => ?_
    rcases hDue u (List.mem_range.mp hu) with hu | hu <;> simp [hu]
  have hNone : (List.range 20).filter (fun u => !(List.range 20).contains u) = [] := by decide
  have hSame : s.modCfg (fun x => { x with paceLate := [] }) = s := by
    have hCfg : { s.cfg with paceLate := [] } = s.cfg := by rw [← hLate]
    rw [State.modCfg, hCfg]
  simp only [State.paceCourse, hWaits, hAll, hNone, h.fields, List.isEmpty_nil, if_true, hSame]

theorem exec_courseTake_idle {b : Block} {s : State} (h : s.flag F.CFG_COURSE_STAT_BUSY = false ∨ s.coursePends b = false ∨
    s.gatedBlock b = true ∨ s.safePoint b = false) : exec (.courseTake b) s = .next s := by
  have hNot : ¬ (s.flag F.CFG_COURSE_STAT_BUSY && s.coursePends b && !s.gatedBlock b && s.safePoint b) = true := by
    rcases h with h | h | h | h <;> simp [h]
  exact congrArg Host.Outcome.next (if_neg hNot)

theorem exec_courseTake {b : Block} {s : State} (hBusy : s.flag F.CFG_COURSE_STAT_BUSY = true) (hPends : s.coursePends b = true)
    (hClock : s.gatedBlock b = false) (hSafe : s.safePoint b = true) : exec (.courseTake b) s = .next
      (if b = .can then (if s.cfg.canLate.isEmpty then s.canCourse else s.canCourseLate)
       else if b = .pace then s.paceCourse else s.courseTake b) := by
  have hAll : (s.flag F.CFG_COURSE_STAT_BUSY && s.coursePends b && !s.gatedBlock b && s.safePoint b) = true := by
    simp [hBusy, hPends, hClock, hSafe]
  exact congrArg Host.Outcome.next (if_pos hAll)

theorem exec_courseTake_leaving {b : Block} {s : State} (hBusy : s.flag F.CFG_COURSE_STAT_BUSY = true)
    (hPends : s.coursePends b = true) (hClock : s.gatedBlock b = false) (hSafe : s.safePoint b = true)
    (hCan : b = .can → s.cfg.canLate = [] ∧ s.canInFlight = [])
    (hPace : b = .pace → s.cfg.paceLate = [] ∧ ∀ u < 20, s.enabled .pace = false ∨ s.paceUnitDue u = true)
    (h : s.CourseLeaves b) : exec (.courseTake b) s = .next (s.courseTaken b) := by
  rw [exec_courseTake hBusy hPends hClock hSafe]
  by_cases hIsCan : b = .can
  · subst hIsCan
    obtain ⟨hLate, hIdle⟩ := hCan rfl
    rw [if_pos rfl, hLate, State.canCourse_of_idle h hIdle]
    rfl
  by_cases hIsPace : b = .pace
  · subst hIsPace
    obtain ⟨hLate, hDue⟩ := hPace rfl
    rw [if_neg hIsCan, if_pos rfl, State.paceCourse_of_due h hLate hDue]
  · rw [if_neg hIsCan, if_neg hIsPace, State.courseTake, State.courseFields, h.fields]

/-! ## What a block shows that has taken a course (R123) -/

theorem setBit_false_le (v i : Nat) : setBit v i false ≤ v := by
  unfold setBit
  split
  · exact Nat.sub_le v (2 ^ i)
  · exact Nat.le_refl v

theorem nbit_setBit_false (v i : Nat) : nbit (setBit v i false) i = false := by
  unfold setBit
  cases h : nbit v i with
  | false => exact h
  | true =>
    have hDiv : (v - 2 ^ i) / 2 ^ i = v / 2 ^ i - 1 := by
      have := Nat.sub_mul_div v (2 ^ i) 1
      rwa [Nat.mul_one] at this
    have hOdd : v / 2 ^ i % 2 = 1 := by simpa [nbit] using h
    have hEven : (v / 2 ^ i - 1) % 2 = 0 := by omega
    simp [nbit, hDiv, hEven]

/-- The block shows the course, and is no longer pending. -/
def State.courseMarked (s : State) (b : Block) : State :=
  (s.courseShow b).setNat R.CFG_COURSE_PEND (setBit (s.nat R.CFG_COURSE_PEND) b.index false)

theorem coursePlace (b : Block) : hdr b 0x020 ≠ R.CFG_COURSE_PEND ∧ hdr b 0x020 ≠ R.CFG_COURSE_STAT ∧
    hdr b 0x020 ≠ (evBit 36).addr ∧ hdr b 0x020 ≠ R.CFG_PERSONALITY ∧ hdr b 0x020 ≠ R.CFG_FTG_STATE := by
  cases b <;> decide

theorem State.courseShow_puts (s : State) (b : Block) : s.Puts (s.courseShow b) [hdr b 0x020] :=
  .trans (.trans (.put s _ (.head _)) (.put _ 0 (.head _))) (.put _ _ (.head _))

theorem State.courseMarked_puts (s : State) (b : Block) : s.Puts (s.courseMarked b) [hdr b 0x020, R.CFG_COURSE_PEND] := by
  obtain ⟨hFrame, hKept⟩ := s.courseShow_puts b
  refine ⟨?_, .trans (hKept.mono (by simp)) (.setWord _ _ (by simp))⟩
  rw [State.courseMarked, hFrame]
  rfl

/-- The revision that a block shows of a course in force. -/
def courseRev (c : Option Course) : Nat := match c with | some c => c.rev | none => 0

theorem State.courseShow_shows (s : State) (b : Block) :
    (s.courseShow b).get (H.course b) = s.get F.CFG_COURSE_STAT_TARGET % 32 ∧
    (s.courseShow b).flag (H.pendingBit b) = false ∧ (s.courseShow b).get (H.rev b) = courseRev s.cfg.cur % 256 := by
  have hShow : s.courseShow b = ((s.put (H.course b) (s.get F.CFG_COURSE_STAT_TARGET)).put (H.pendingBit b) 0).put (H.rev b)
      (courseRev s.cfg.cur) := rfl
  rw [hShow]
  refine ⟨?_, ?_, ?_⟩
  · rw [State.get_put_of_apart _ _ (.inr (by simp [H.course, H.rev])),
      State.get_put_of_apart _ _ (.inr (by simp [H.course, H.pendingBit])), State.get_put_same _ _ _ (by simp [H.course])]
    rfl
  · rw [State.flag_put_of_apart _ _ (.inr (by simp [H.pendingBit, H.rev])), State.flag_put_same _ (by simp [H.pendingBit])]
    rfl
  · rw [State.get_put_same _ _ _ (by simp [H.rev])]
    rfl

theorem State.courseMarked_shows (s : State) (b : Block) :
    (s.courseMarked b).get (H.course b) = s.get F.CFG_COURSE_STAT_TARGET % 32 ∧
    (s.courseMarked b).flag (H.pendingBit b) = false ∧
    (s.courseMarked b).get (H.rev b) = courseRev s.cfg.cur % 256 ∧
    (s.courseMarked b).nat R.CFG_COURSE_PEND = setBit (s.nat R.CFG_COURSE_PEND) b.index false := by
  obtain ⟨hPend, -⟩ := coursePlace b
  obtain ⟨hCourse, hPending, hRev⟩ := s.courseShow_shows b
  have hShown : (s.courseMarked b).word (hdr b 0x020) = (s.courseShow b).word (hdr b 0x020) := by
    rw [State.courseMarked, State.setNat, State.word_setWord_ne _ _ hPend]
  refine ⟨(State.get_eq_of_word (f := H.course b) hShown).trans hCourse,
    (State.flag_eq_of_word (f := H.pendingBit b) hShown).trans hPending,
    (State.get_eq_of_word (f := H.rev b) hShown).trans hRev, ?_⟩
  rw [State.courseMarked, State.nat_setNat]
  exact Nat.mod_eq_of_lt (Nat.lt_of_le_of_lt (setBit_false_le _ _) (s.word _).isLt)

theorem State.courseTaken_eq (s : State) {b : Block} (h : b ≠ .hsw) : s.courseTaken b =
    if (s.courseMarked b).nat R.CFG_COURSE_PEND = 0 then (s.courseMarked b).courseDone else s.courseMarked b := by
  have hPend : (s.courseShow b).nat R.CFG_COURSE_PEND = s.nat R.CFG_COURSE_PEND :=
    congrArg BitVec.toNat ((s.courseShow_puts b).kept _ (by simpa using (coursePlace b).1.symm))
  simp only [State.courseTaken, h, if_false, hPend]
  rfl

/-- The change ends (R123), where no request is queued. -/
def State.courseEnded (s : State) : State :=
  ((s.put F.CFG_COURSE_STAT_BUSY 0).put F.CFG_COURSE_STAT_CURRENT (s.get F.CFG_COURSE_STAT_TARGET)).raise 36

theorem State.courseDone_of_unqueued {s : State} (h : s.flag F.CFG_COURSE_STAT_QVALID = false) :
    s.courseDone = s.courseEnded := by
  have hQueue : s.courseEnded.flag F.CFG_COURSE_STAT_QVALID = false := by
    rw [State.courseEnded, State.flag_raise_ne _ _ (by decide), State.flag_put_of_apart _ _ (.inr (by decide)),
      State.flag_put_of_apart _ _ (.inr (by decide)), h]
  have hDone : s.courseDone = if s.courseEnded.flag F.CFG_COURSE_STAT_QVALID then
      (((s.courseEnded.put F.CFG_COURSE_STAT_QVALID 0).put F.CFG_COURSE_STAT_QUEUED 0)).courseStart
        (s.courseEnded.get F.CFG_COURSE_STAT_QUEUED) else s.courseEnded := rfl
  rw [hDone, hQueue]
  rfl

theorem State.courseEnded_shows {s : State} (hKind : s.kind .cfg = 1) :
    s.courseEnded.flag F.CFG_COURSE_STAT_BUSY = false ∧
    s.courseEnded.get F.CFG_COURSE_STAT_CURRENT = s.get F.CFG_COURSE_STAT_TARGET ∧ s.occurred s.courseEnded 36 ∧
    s.courseEnded = { s with regs := s.courseEnded.regs, occ := s.courseEnded.occ } ∧
    s.regsKept s.courseEnded [R.CFG_COURSE_STAT, (evBit 36).addr] := by
  have hKindPut : ((s.put F.CFG_COURSE_STAT_BUSY 0).put F.CFG_COURSE_STAT_CURRENT
      (s.get F.CFG_COURSE_STAT_TARGET)).kind (evOwner 36) = 1 := by
    rw [State.kind_put _ _ (by decide) (by decide), State.kind_put _ _ (by decide) (by decide)]
    exact hKind
  refine ⟨?_, ?_, State.occurred_raise hKindPut, ?_, ?_⟩
  · rw [State.courseEnded, State.flag_raise_ne _ _ (by decide), State.flag_put_of_apart _ _ (.inr (by decide)),
      State.flag_put_same _ (by decide)]
    rfl
  · have hTarget := s.get_lt F.CFG_COURSE_STAT_TARGET
    rw [State.courseEnded, State.get_raise_ne _ _ (by decide), State.get_put_same _ _ _ (by decide)]
    exact Nat.mod_eq_of_lt (Nat.lt_trans hTarget (by decide))
  · rw [State.courseEnded, State.raise_changes]
    rfl
  · exact .trans (.trans (.put s 0 (.head _)) (.put _ _ (.head _))) (.raise _ (by simp))

/-! ## CRS_TMO (R123) -/

theorem exec_crsTmo_idle {s : State} (h : s.flag F.CFG_COURSE_STAT_BUSY = false ∨ s.cfg.crsTmo = true ∨
    s.passed s.cfg.crsAt (s.nat R.CFG_COURSE_TMO % 65536 * msec) = false) : exec .crsTmo s = .next s := by
  have hNot : ¬ (s.flag F.CFG_COURSE_STAT_BUSY && !s.cfg.crsTmo &&
      s.passed s.cfg.crsAt (s.nat R.CFG_COURSE_TMO % 65536 * msec)) = true := by
    rcases h with h | h | h <;> simp [h]
  exact congrArg Host.Outcome.next (if_neg hNot)

theorem exec_crsTmo {s : State} (hBusy : s.flag F.CFG_COURSE_STAT_BUSY = true) (hOnce : s.cfg.crsTmo = false)
    (hPassed : s.passed s.cfg.crsAt (s.nat R.CFG_COURSE_TMO % 65536 * msec) = true) :
    exec .crsTmo s = .next ((s.raise 37).modCfg (fun x => { x with crsTmo := true })) := by
  have hAll : (s.flag F.CFG_COURSE_STAT_BUSY && !s.cfg.crsTmo &&
      s.passed s.cfg.crsAt (s.nat R.CFG_COURSE_TMO % 65536 * msec)) = true := by
    simp [hBusy, hOnce, hPassed]
  exact congrArg Host.Outcome.next (if_pos hAll)

/-! ## The clauses of O22 -/

theorem courseRequest_queued_effect {slot : BitVec 4} {s : State} (h : s.admitsSet R.CFG_COURSE_REQ slot.toNat)
    (hBusy : s.flag F.CFG_COURSE_STAT_BUSY = true) :
    ∃ t, exec (.courseRequest slot) s = .next t ∧ t.lastErr = none ∧ t.get F.CFG_COURSE_STAT_QUEUED = slot.toNat ∧
      t.flag F.CFG_COURSE_STAT_QVALID = true ∧ t = { s with regs := t.regs, parity := none, lastErr := none } ∧
      s.regsKept t [R.CFG_COURSE_REQ, R.CFG_COURSE_STAT] := by
  obtain ⟨hAskedFrame, hAskedKept⟩ := s.courseAsked_puts slot
  obtain ⟨hSlot, hValid, hFrame, hKept⟩ := State.courseRequest_queues ((hAskedKept.flag (by decide)).trans hBusy) slot.isLt
  have hExec := exec_courseRequest h
  generalize (s.courseAsked slot).courseRequest slot.toNat = t at hExec hSlot hValid hFrame hKept
  refine ⟨_, hExec, rfl, hSlot, hValid, ?_, .trans (hAskedKept.mono (by simp)) (hKept.mono (by simp))⟩
  rw [State.settled, hFrame, hAskedFrame]

theorem courseRequest_started_effect {slot : BitVec 4} {s : State} (h : s.admitsSet R.CFG_COURSE_REQ slot.toNat)
    (hBusy : s.flag F.CFG_COURSE_STAT_BUSY = false) :
    ∃ t, exec (.courseRequest slot) s = .next t ∧ t.lastErr = none ∧ t.flag F.CFG_COURSE_STAT_BUSY = true ∧
      t.get F.CFG_COURSE_STAT_TARGET = slot.toNat ∧ t.cfg.cur = s.slotCourse slot.toNat ∧ t.cfg.prev = s.cfg.cur ∧
      t.cfg.crsAt = s.clk ∧ (∀ b ∈ allBlocks, nbit (t.nat R.CFG_COURSE_PEND) b.index = s.present b) ∧
      t = { s with regs := t.regs, cfg := t.cfg, parity := none, lastErr := none } ∧
      s.regsKept t ([R.CFG_COURSE_REQ, R.CFG_COURSE_STAT, R.CFG_COURSE_PEND] ++ allBlocks.map (fun b => hdr b 0x020)) := by
  obtain ⟨hFrame, hKept⟩ := s.courseAsked_puts slot
  have hBusyAsked : (s.courseAsked slot).flag F.CFG_COURSE_STAT_BUSY = false := (hKept.flag (by decide)).trans hBusy
  have hPresent : ∀ b, (s.courseAsked slot).present b = s.present b := fun b => by
    rw [State.present, State.present, hKept.kind (by decide) (by decide) (by rw [hFrame])]
  have hExec := exec_courseRequest h
  rw [State.courseRequest_started hBusyAsked] at hExec
  obtain ⟨hStarted, hTarget, hCfg, hPend, hStartFrame, hStartKept⟩ := (s.courseAsked slot).courseStart_shows slot.isLt
  have hParts : (s.courseAsked slot).cfg = s.cfg ∧ (s.courseAsked slot).clk = s.clk := by
    rw [hFrame]
    exact ⟨rfl, rfl⟩
  have hSlot : (s.courseAsked slot).slotCourse slot.toNat = s.slotCourse slot.toNat := by
    rw [State.slotCourse, hParts.1, State.slotCourse]
  generalize (s.courseAsked slot).courseStart slot.toNat = t at hExec hStarted hTarget hCfg hPend hStartFrame hStartKept
  have hCur : t.cfg.cur = s.slotCourse slot.toNat ∧ t.cfg.prev = s.cfg.cur ∧ t.cfg.crsAt = s.clk := by
    rw [hCfg, ← hSlot, ← hParts.1, ← hParts.2]
    exact ⟨rfl, rfl, rfl⟩
  obtain ⟨hCourse, hPrev, hAt⟩ := hCur
  refine ⟨_, hExec, rfl, hStarted, hTarget, hCourse, hPrev, hAt, fun b hb => (hPend b hb).trans (hPresent b), ?_,
    fun a ha => ?_⟩
  · rw [hStartFrame, hFrame]
    rfl
  · simp only [List.mem_append, List.mem_cons, List.not_mem_nil, or_false, not_or] at ha
    obtain ⟨⟨hReq, hStat, hPendAddr⟩, hShown⟩ := ha
    have hOut : a ∉ [R.CFG_COURSE_STAT, R.CFG_COURSE_PEND] ++ allBlocks.map (fun b => hdr b 0x020) := by
      simp only [List.mem_append, List.mem_cons, List.not_mem_nil, or_false, not_or]
      exact ⟨⟨hStat, hPendAddr⟩, hShown⟩
    exact (hStartKept a hOut).trans (hKept a (by simpa using hReq))

theorem State.courseTaken_last {b : Block} {s : State} (hHsw : b ≠ .hsw)
    (hLast : setBit (s.nat R.CFG_COURSE_PEND) b.index false = 0) (hQueue : s.flag F.CFG_COURSE_STAT_QVALID = false) (hKind : s.kind .cfg = 1) :
    ∃ t, s.courseTaken b = t ∧ t.get (H.course b) = s.get F.CFG_COURSE_STAT_TARGET % 32 ∧
      t.nat R.CFG_COURSE_PEND = 0 ∧ t.flag F.CFG_COURSE_STAT_BUSY = false ∧
      t.get F.CFG_COURSE_STAT_CURRENT = s.get F.CFG_COURSE_STAT_TARGET ∧ s.occurred t 36 ∧
      t = { s with regs := t.regs, occ := t.occ } ∧
      s.regsKept t [hdr b 0x020, R.CFG_COURSE_PEND, R.CFG_COURSE_STAT, (evBit 36).addr] := by
  obtain ⟨hCourse, -, -, hPend⟩ := s.courseMarked_shows b
  obtain ⟨hFrame, hKept⟩ := s.courseMarked_puts b
  obtain ⟨hPendApart, hStatApart, hEvtApart, hPersApart, hSafeApart⟩ := coursePlace b
  have hStat : R.CFG_COURSE_STAT ∉ [hdr b 0x020, R.CFG_COURSE_PEND] := by
    simp only [List.mem_cons, List.not_mem_nil, or_false, not_or]
    exact ⟨hStatApart.symm, by decide⟩
  have hKindMarked : (s.courseMarked b).kind .cfg = 1 := by
    rw [hKept.kind ?_ ?_ (by rw [hFrame]), hKind]
    · simp only [List.mem_cons, List.not_mem_nil, or_false, not_or]
      exact ⟨hPersApart.symm, by decide⟩
    · simp only [List.mem_cons, List.not_mem_nil, or_false, not_or]
      exact ⟨hSafeApart.symm, by decide⟩
  rw [s.courseTaken_eq hHsw, hPend, if_pos hLast, State.courseDone_of_unqueued ((hKept.flag hStat).trans hQueue)]
  obtain ⟨hIdle, hCurrent, hEvent, hEndFrame, hEndKept⟩ := State.courseEnded_shows hKindMarked
  have hEnd : ∀ a, a ≠ R.CFG_COURSE_STAT → a ≠ (evBit 36).addr →
      (s.courseMarked b).courseEnded.word a = (s.courseMarked b).word a := fun a hA hE => hEndKept a (by simp [hA, hE])
  have hMarkedOcc : (s.courseMarked b).occ = s.occ ∧ (s.courseMarked b).tag = s.tag := by
    rw [hFrame]
    exact ⟨rfl, rfl⟩
  refine ⟨_, rfl, (State.get_eq_of_word (f := H.course b) (hEnd _ hStatApart hEvtApart)).trans hCourse, ?_, hIdle,
    hCurrent.trans (hKept.get hStat), ⟨hEvent.1, ?_⟩, ?_, fun a ha => ?_⟩
  · rw [State.nat, hEnd _ (by decide) (by decide), ← State.nat, hPend, hLast]
  · rw [hEvent.2, hMarkedOcc.1, hMarkedOcc.2]
  · rw [hEndFrame, hFrame]
  · simp only [List.mem_cons, List.not_mem_nil, or_false, not_or] at ha
    obtain ⟨hHdr, hPendAddr, hStatAddr, hEvtAddr⟩ := ha
    rw [hEnd a hStatAddr hEvtAddr, hKept a (by simp [hHdr, hPendAddr])]

/-- Settles O22: a request is queued or starts a change, a block takes the course or waits, a slow change is reported. -/
theorem courseChangesStartQueueAndFinish : Obligations.CourseChangesStartQueueAndFinish := by
  unfold Obligations.CourseChangesStartQueueAndFinish
  refine ⟨fun _ _ h hBusy => courseRequest_queued_effect h hBusy,
    fun _ _ h hBusy => courseRequest_started_effect h hBusy, fun b s h => exec_courseTake_idle h,
    fun b s hBusy hPends hClock hSafe hCan hPace => ?_,
    fun b s hBusy hPends hClock hSafe hCan hPace hHsw hNew hOld hFoot hMore => ?_,
    fun b s hBusy hPends hClock hSafe hCan hPace hHsw hNew hOld hFoot hLast hQueue hKind => ?_,
    fun s hBusy hOnce hPassed hKind => ?_, fun s h => exec_crsTmo_idle h⟩
  · rw [exec_courseTake hBusy hPends hClock hSafe, if_neg hCan, if_neg hPace, State.courseTake]
  · have hExec := exec_courseTake_leaving hBusy hPends hClock hSafe hCan hPace ⟨hNew, hOld, hFoot⟩
    obtain ⟨hCourse, hPending, hRev, hPend⟩ := s.courseMarked_shows b
    obtain ⟨hFrame, hKept⟩ := s.courseMarked_puts b
    rw [s.courseTaken_eq hHsw, hPend, if_neg hMore] at hExec
    refine ⟨_, hExec, hCourse, hPending, hRev, ?_, hFrame, hKept⟩
    rw [State.coursePends, hPend, nbit_setBit_false]
  · obtain ⟨t, hTaken, hEffect⟩ := State.courseTaken_last hHsw hLast hQueue hKind
    exact ⟨t, by rw [exec_courseTake_leaving hBusy hPends hClock hSafe hCan hPace ⟨hNew, hOld, hFoot⟩, hTaken], hEffect⟩
  · have hEvent := State.occurred_raise (s := s) (e := 37) hKind
    refine ⟨_, exec_crsTmo hBusy hOnce hPassed, ?_, hEvent, ?_, .raise s (.head _)⟩
    · rw [State.raise_changes]
      rfl
    · rw [State.raise_changes]
      rfl

end Sys2Proof.Machine
end

section
/-! The soft reset of a block for which a course is stored, though neither footing nor course is in force (R106, R119). -/

namespace Sys2Proof.Machine

open Sys2Proof

/-- In PU4 neither footing nor course is in force, and slot 1 holds a course that sets MEM_CAL_CFG, whose footing default is
600. -/
def strayCourse : State :=
  let s := State.reset.put F.PWR_STAT_PHASE 4
  { s with cfg := { s.cfg with
      courses := [(1, some { slot := 1, rev := 0, signed := false, sets := [⟨R.MEM_CAL_CFG, 0xFFFF#32, 1#32⟩] })] } }

/-- What the register at `a` holds after an answer. -/
def answerNat (a : Nat) (x : Answer) : Nat :=
  match x with
  | .next t => t.nat a
  | _ => 0

/-- The field that the stored course sets takes its footing default, not its Reset value. -/
theorem strayCourse_softReset : answerNat R.MEM_CAL_CFG (exec (.blkSoftReset .mem) strayCourse) = 600 := by
  decide +kernel

theorem strayCourse_headerFree : strayCourse.headerFree .mem (H.ctrl .mem) := by
  refine ⟨by decide +kernel, by decide +kernel, by decide, fun f hf => ?_⟩
  cases hf

theorem strayCourse_resetWord : mergeBits (resetWord R.MEM_CAL_CFG) (strayCourse.keptBits .mem R.MEM_CAL_CFG)
    (strayCourse.word R.MEM_CAL_CFG) = 0#32 := by
  decide +kernel

/-- Refutes O18: the clause on the soft reset of MEM asks for Reset values where no course is in force or was before, but a
course that a slot holds counts too (R119), and its fields take their footing defaults. -/
theorem not_blockControlTakesEffect : ¬ Obligations.BlockControlTakesEffect := by
  unfold Obligations.BlockControlTakesEffect
  rintro ⟨-, -, -, -, -, -, -, -, -, -, -, -, -, hReset, -⟩
  obtain ⟨t, hExec, -, hWords⟩ := hReset .mem (by simp) strayCourse strayCourse_headerFree rfl rfl rfl
  have hRead : t.nat R.MEM_CAL_CFG = 600 := by
    have h := strayCourse_softReset
    rw [hExec] at h
    exact h
  rw [State.nat, hWords R.MEM_CAL_CFG rfl, strayCourse_resetWord] at hRead
  exact absurd hRead (by decide)

end Sys2Proof.Machine
end

section
/-! The tracking channels: what an operation on one of them leaves alone (R164 to R177). -/

namespace Sys2Proof.Machine

open Sys2Proof

/-! ## Work along a list whose rounds each have a part of their own -/

/-- Where each round changes only the part of its own key, what becomes of one part is what its own round makes of it: before and
after that round only other parts change. -/
theorem State.each_turn {α : Type} {key : α → Nat} {r : (Nat → Prop) → State → State → Prop} (hRefl : ∀ p s, r p s s)
    (hTrans : ∀ {p s t u}, r p s t → r p t u → r p s u) (hMono : ∀ {p q s t}, r p s t → (∀ n, p n → q n) → r q s t)
    {f : State → α → State} {y : α} :
    ∀ {l : List α} (s : State), (∀ x ∈ l, ∀ u, r (· = key x) u (f u x)) → (l.map key).Nodup → y ∈ l →
      ∃ u, r (· ≠ key y) s u ∧ r (· ≠ key y) (f u y) (s.each l f)
  | [], _, _, _, hy => nomatch hy
  | x :: l, s, hf, hl, hy => by
    obtain ⟨hx, hl⟩ := List.nodup_cons.mp hl
    obtain ⟨hHead, hTail⟩ := List.forall_mem_cons.mp hf
    rcases List.mem_cons.mp hy with rfl | hy
    · refine ⟨s, hRefl _ s, State.each_rel (hRefl _) hTrans l (f s y) fun z hz u _ => hMono (hTail z hz u) fun n hn hOwn => hx ?_⟩
      exact hOwn ▸ hn ▸ List.mem_map_of_mem hz
    · obtain ⟨u, hBefore, hAfter⟩ := each_turn hRefl hTrans hMono (f s x) hTail hl hy
      exact ⟨u, hTrans (hMono (hHead s) fun n hn hOwn => hx (hn ▸ hOwn ▸ List.mem_map_of_mem hy)) hBefore, hAfter⟩

/-! ## The registers of a channel -/

/-- `a` is a register of channel `n`. -/
def chPage (n a : Nat) : Prop := R.GNSS_CH_CTRL n ≤ a ∧ a < R.GNSS_CH_CTRL (n + 1)

theorem chPage_inj {m n a : Nat} (h : chPage m a) (k : chPage n a) : m = n := by
  simp only [chPage, R.GNSS_CH_CTRL] at h k
  omega

/-- The registers of a channel. -/
def chRegs : List (Nat → Nat) :=
  [R.GNSS_CH_CTRL, R.GNSS_CH_SIG, R.GNSS_CH_AID, R.GNSS_CH_LOOP, R.GNSS_CH_SPC, R.GNSS_CH_STATE, R.GNSS_CH_CUR, R.GNSS_CH_CN0,
   R.GNSS_CH_DOPP, R.GNSS_CH_SPC_ACT, R.GNSS_CH_LOCKT, R.GNSS_CH_LLI, R.GNSS_CH_CARR_NCO, R.GNSS_CH_CODE_NCO, R.GNSS_CH_CORR]

theorem chRegs_page : ∀ r ∈ chRegs, ∀ n, chPage n (r n) := by
  have hPlace : ∀ r ∈ chRegs, ∀ n, r n = r 0 + n * 0x40 ∧ 0x72000 ≤ r 0 ∧ r 0 < 0x72040 := by
    simp only [chRegs, List.forall_mem_cons, R.GNSS_CH_CTRL, R.GNSS_CH_SIG, R.GNSS_CH_AID, R.GNSS_CH_LOOP, R.GNSS_CH_SPC,
      R.GNSS_CH_STATE, R.GNSS_CH_CUR, R.GNSS_CH_CN0, R.GNSS_CH_DOPP, R.GNSS_CH_SPC_ACT, R.GNSS_CH_LOCKT, R.GNSS_CH_LLI,
      R.GNSS_CH_CARR_NCO, R.GNSS_CH_CODE_NCO, R.GNSS_CH_CORR]
    simp
  intro r hr n
  obtain ⟨hLinear, hLo, hHi⟩ := hPlace r hr n
  simp only [chPage, R.GNSS_CH_CTRL]
  omega

/-- From `s` to `t` nothing but the channels that `p` names has changed. -/
structure State.Moves (p : Nat → Prop) (s t : State) : Prop where
  frame : t = { s with regs := t.regs, gnssCh := t.gnssCh }
  word : ∀ a, (∀ n, p n → ¬ chPage n a) → t.word a = s.word a
  ch : ∀ n, ¬ p n → t.gnssCh.get n = s.gnssCh.get n

namespace State.Moves

variable {p q : Nat → Prop} {s t u : State} {n : Nat}

theorem refl (p : Nat → Prop) (s : State) : s.Moves p s := ⟨rfl, fun _ _ => rfl, fun _ _ => rfl⟩

theorem trans (h : s.Moves p t) (k : t.Moves p u) : s.Moves p u :=
  ⟨by rw [k.frame, h.frame], fun a ha => (k.word a ha).trans (h.word a ha), fun n hn => (k.ch n hn).trans (h.ch n hn)⟩

theorem mono (h : s.Moves p t) (hSub : ∀ n, p n → q n) : s.Moves q t :=
  ⟨h.frame, fun a ha => h.word a fun n hn => ha n (hSub n hn), fun n hn => h.ch n fun hp => hn (hSub n hp)⟩

theorem setWord (s : State) {a : Nat} (w : Word) (h : chPage n a) : s.Moves (· = n) (s.setWord a w) :=
  ⟨rfl, fun _ ha => s.word_setWord_ne w fun e => ha n rfl (e ▸ h), fun _ _ => rfl⟩

theorem put (s : State) {f : Fld} (v : Nat) (h : chPage n f.addr) : s.Moves (· = n) (s.put f v) := setWord s _ h

theorem modCh (s : State) (n : Nat) (f : GnssCh → GnssCh) : s.Moves (· = n) (s.modCh n f) :=
  ⟨rfl, fun _ _ => rfl, fun _ hm => Table.get_modify_ne _ _ hm⟩

theorem each {f : State → Nat → State} (hf : ∀ (u : State) m, u.Moves (· = m) (f u m)) {l : List Nat} (hl : ∀ n ∈ l, p n) (s : State) :
    s.Moves p (s.each l f) :=
  State.each_rel (refl p) trans l s fun m hm u _ => (hf u m).mono fun _ e => e ▸ hl m hm

/-- What becomes of one channel in a round over many. -/
theorem each_at {f : State → Nat → State} (hf : ∀ (u : State) m, u.Moves (· = m) (f u m)) {l : List Nat} (s : State) (hl : l.Nodup)
    (hn : n ∈ l) : ∃ u : State, s.Moves (· ≠ n) u ∧ (f u n).Moves (· ≠ n) (s.each l f) :=
  State.each_turn (key := id) (r := fun p s t => s.Moves p t) refl trans mono s (fun m _ u => hf u m) (by rwa [List.map_id]) hn

/-- A word of channel `n`, or of no channel, stands where only other channels have changed. -/
theorem word_own (h : s.Moves (· ≠ n) t) {a : Nat} (ha : chPage n a) : t.word a = s.word a :=
  h.word a fun _ hm hPage => hm (chPage_inj hPage ha)

theorem word_out (h : s.Moves p t) {a : Nat} (ha : ∀ m, ¬ chPage m a) : t.word a = s.word a := h.word a fun m _ => ha m

theorem chSignal (s : State) (n sig prn : Nat) : s.Moves (· = n) (s.chSignal n sig prn) :=
  have hPage : chPage n (R.GNSS_CH_CUR n) := chRegs_page _ (by simp [chRegs]) n
  .trans (.trans (put s _ hPage) (put _ _ hPage)) (put _ _ hPage)

theorem chAcqAt (s : State) (n : Nat) (c : Option Int) : s.Moves (· = n) (s.chAcqAt n c) :=
  .trans (.trans (put s _ (chRegs_page R.GNSS_CH_STATE (by simp [chRegs]) n))
    (put _ _ (chRegs_page R.GNSS_CH_SPC_ACT (by simp [chRegs]) n))) (modCh _ n _)

theorem chNextCandidate (s : State) (n : Nat) (vis : List (Byte × Byte)) : s.Moves (· = n) (s.chNextCandidate n vis) := by
  unfold State.chNextCandidate
  dsimp only
  split
  · exact .trans (chSignal s n _ _) (modCh _ n _)
  · split
    · exact .trans (chSignal s n _ _) (modCh _ n _)
    · exact refl _ s

theorem chFirst (s : State) (n : Nat) (vis : List (Byte × Byte)) : s.Moves (· = n) (s.chFirst n vis) := by
  have hState : chPage n (R.GNSS_CH_STATE n) := chRegs_page _ (by simp [chRegs]) n
  have hSpacing : chPage n (R.GNSS_CH_SPC_ACT n) := chRegs_page _ (by simp [chRegs]) n
  unfold State.chFirst
  split
  · exact .trans (.trans (.trans (chAcqAt s n none) (chSignal _ n _ _)) (modCh _ n _)) (chNextCandidate _ n vis)
  · exact .trans (chAcqAt s n none) (chSignal _ n _ _)
  · exact .trans (.trans (put s _ hState) (put _ _ hSpacing)) (chSignal _ n _ _)
  · exact put s _ hState

theorem chHostChange (s : State) (n : Nat) (vis : List (Byte × Byte)) : s.Moves (· = n) (s.chHostChange n vis) := by
  have hExit : s.Moves (· = n) (if s.chActive n then s.put (F.GNSS_CH_STATE_EXIT n) 4 else s) := by
    split
    · exact put s _ (chRegs_page R.GNSS_CH_STATE (by simp [chRegs]) n)
    · exact refl _ s
  exact .trans (.trans (.trans (.trans hExit (setWord _ _ (chRegs_page R.GNSS_CH_LOCKT (by simp [chRegs]) n)))
    (setWord _ _ (chRegs_page R.GNSS_CH_LLI (by simp [chRegs]) n))) (chFirst _ n vis)) (modCh _ n _)

theorem chSuspend (s : State) (n : Nat) : s.Moves (· = n) (s.chSuspend n) := by
  have hState : chPage n (R.GNSS_CH_STATE n) := chRegs_page _ (by simp [chRegs]) n
  unfold State.chSuspend
  split
  · exact .trans (.trans (put s _ hState) (put _ _ hState)) (modCh _ n _)
  · exact refl _ s

theorem chSeek (s : State) (n : Nat) (vis : List (Byte × Byte)) : s.Moves (· = n) (s.chSeek n vis) := by
  unfold State.chSeek
  split
  · exact chNextCandidate s n vis
  · exact refl _ s

theorem chDump (s : State) (vis : List (Byte × Byte)) (n : Nat) : s.Moves (· = n) (s.chDump vis n) := by
  have hSpacing : chPage n (R.GNSS_CH_SPC_ACT n) := chRegs_page _ (by simp [chRegs]) n
  have hCount : s.Moves (· = n) (s.when (s.chState n == 3) fun s => s.count (F.GNSS_CH_LOCKT n) 1) := by
    unfold State.when
    split
    · exact put s _ (chRegs_page R.GNSS_CH_LOCKT (by simp [chRegs]) n)
    · exact refl _ s
  unfold State.chDump
  dsimp only
  split
  · exact refl _ s
  split
  · exact chHostChange s n vis
  split
  · exact .trans (.trans (chAcqAt s n _) (chSeek _ n vis)) (modCh _ n _)
  split
  · exact put s _ hSpacing
  split
  · exact chSuspend s n
  · exact hCount.trans (chSeek _ n vis)

end State.Moves

end Sys2Proof.Machine
end

section
/-! The GNSS front end: antenna bias, VANT and gains (R156, R157, R159 to R161, R175). -/

namespace Sys2Proof.Machine

open Sys2Proof

/-! ## What the front end reads -/

theorem State.kind_of_runs {s : State} {b : Block} (h : s.runs b = true) : s.kind b = 1 := by
  simp only [State.runs, State.works, State.present, Bool.and_eq_true, beq_iff_eq] at h
  obtain ⟨⟨hKind, -⟩, -⟩ := h
  exact hKind

/-- The registers that say whether GNSS runs and which bias switches are on. -/
def biasRegs : List Nat := [R.CFG_PERSONALITY, R.CFG_FTG_STATE, R.PWR_STAT, R.GNSS_FE_CTRL, H.ctrl .gnss]

/-- From `s` to `t` registers of GNSS and events have changed, and of the state beside them what the judgement of the bias keeps. -/
structure State.FrontOnly (s t : State) (as : List Nat) : Prop where
  frame : t = { s with regs := t.regs, occ := t.occ, gnss := { s.gnss with ant := t.gnss.ant } }
  kept : s.regsKept t as

namespace State.FrontOnly

variable {s t u : State} {as : List Nat}

theorem trans (h : s.FrontOnly t as) (k : t.FrontOnly u as) : s.FrontOnly u as :=
  ⟨by rw [k.frame, h.frame], h.kept.trans k.kept⟩

theorem put (s : State) {f : Fld} (v : Nat) (h : f.addr ∈ as) : s.FrontOnly (s.put f v) as := ⟨rfl, .put s v h⟩

theorem raise (s : State) {e : Nat} (h : (evBit e).addr ∈ as) : s.FrontOnly (s.raise e) as :=
  ⟨by rw [State.raise_changes], .raise s h⟩

theorem reads (h : s.FrontOnly t as) (hAs : ∀ r ∈ biasRegs, r ∉ as) :
    t.runs .gnss = s.runs .gnss ∧ (∀ a, t.biasEn a = s.biasEn a) ∧ t.gnss.vantBad = s.gnss.vantBad := by
  obtain ⟨hFrame, hKept⟩ := h
  simp only [biasRegs, List.forall_mem_cons] at hAs
  obtain ⟨hPers, hSafe, hPwr, hCtrl, hEnable, -⟩ := hAs
  have hP : t.pers = s.pers := hKept.get (f := F.CFG_PERSONALITY_PERS) hPers
  have hAnt : t.nAnt = s.nAnt := by rw [State.nAnt, hP, State.nAnt]
  have hReleased : t.released = s.released := by
    rw [State.released, hKept.flag hPwr, State.safe, hKept.flag hSafe, State.released, State.safe]
  refine ⟨State.runs_congr (hKept _ hPers) (hKept _ hSafe) (hKept _ hEnable) (by rw [hFrame]) (by rw [hFrame]), fun a => ?_,
    by rw [hFrame]⟩
  rw [State.biasEn, hAnt, hReleased, hKept.flag hCtrl, State.biasEn]

end State.FrontOnly

/-! ## A sample of one antenna's current (R156) -/

/-- The field that shows the current of antenna `a`. -/
def curFld (a : Nat) : Fld := ⟨R.GNSS_ANT_CUR, 16 * a, 16⟩

/-- The current of antenna `a` is shown, and its run lengths are `x`. -/
def State.antShown (s : State) (a ma : Nat) (x : AntBias) : State :=
  { s.put (curFld a) ma with gnss := { s.gnss with ant := s.gnss.ant.set a x } }

/-- The antenna's bias is on and judged: GNSS runs, VANT is good and the antenna is not short. -/
structure State.BiasOn (s : State) (a : Nat) : Prop where
  runs : s.runs .gnss = true
  bias : s.biasEn a = true
  vant : s.gnss.vantBad = false
  closed : s.get (antFld a) ≠ 3

theorem State.get_antShown {s : State} {a ma : Nat} {x : AntBias} {f : Fld} (h : f.addr ≠ R.GNSS_ANT_CUR) :
    (s.antShown a ma x).get f = s.get f := s.get_put_addr (f := curFld a) ma h

theorem antFld_addr (a : Nat) : (antFld a).addr ≠ R.GNSS_ANT_CUR := show R.GNSS_FE_STAT ≠ R.GNSS_ANT_CUR by decide

/-- What follows a judged sample: the antenna's state by its run lengths, of an open antenna and of a short one. -/
theorem State.antSample_judged {s : State} {a ma o k : Nat} (h : s.BiasOn a)
    (hOpen : o = if ma < s.get F.GNSS_ANT_THR_OPEN_MA then (s.gnss.ant.get a).openMs + 1 else 0)
    (hShort : k = if s.get F.GNSS_ANT_THR_SHORT_MA < ma then (s.gnss.ant.get a).shortMs + 1 else 0) (u : State)
    (hShown : u = s.antShown a ma ⟨min o 100, min k 10⟩) :
    s.antSample a ma =
      if 10 ≤ k || 120 ≤ ma then u.antShort a
      else if 100 ≤ o then (u.put (antFld a) 2).raiseIf (s.get (antFld a) != 2) (if a = 0 then 49 else 51)
      else if o = 0 then u.put (antFld a) 1
      else u.when (s.get (antFld a) == 0) (fun u => u.put (antFld a) 1) := by
  obtain ⟨hRuns, hBias, hVant, hClosed⟩ := h
  have hOn : (!s.biasEn a || !s.runs .gnss) = false := by simp [hRuns, hBias]
  have hWatched : (s.gnss.vantBad || s.get (antFld a) == 3) = false := by simp [hVant, hClosed]
  have hStat : u.get (antFld a) = s.get (antFld a) := by rw [hShown, State.get_antShown (antFld_addr a)]
  rw [← hStat, hShown, hOpen, hShort]
  simp only [State.antSample, hOn, hWatched, Bool.false_eq_true, if_false]
  rfl

theorem State.antSample_ok {s : State} {a ma : Nat} (h : s.BiasOn a) (hOpen : s.get F.GNSS_ANT_THR_OPEN_MA ≤ ma)
    (hShort : ma ≤ s.get F.GNSS_ANT_THR_SHORT_MA) (hLimit : ma < 120) :
    s.antSample a ma = (s.antShown a ma default).put (antFld a) 1 := by
  rw [State.antSample_judged h (if_neg (Nat.not_lt.mpr hOpen)).symm (if_neg (Nat.not_lt.mpr hShort)).symm _ rfl]
  simp [Nat.not_le.mpr hLimit]
  rfl

theorem State.antSample_open {s : State} {a ma : Nat} (h : s.BiasOn a) (hOpen : ma < s.get F.GNSS_ANT_THR_OPEN_MA)
    (hShort : ma ≤ s.get F.GNSS_ANT_THR_SHORT_MA) (hLimit : ma < 120) (hLong : 99 ≤ (s.gnss.ant.get a).openMs) :
    s.antSample a ma = ((s.antShown a ma ⟨100, 0⟩).put (antFld a) 2).raiseIf (s.get (antFld a) != 2) (if a = 0 then 49 else 51) := by
  rw [State.antSample_judged h (if_pos hOpen).symm (if_neg (Nat.not_lt.mpr hShort)).symm _ rfl,
    Nat.min_eq_right (Nat.succ_le_succ hLong)]
  simp [Nat.not_le.mpr hLimit, Nat.succ_le_succ hLong]

theorem State.antSample_off {s : State} {a : Nat} (h : s.runs .gnss = false ∨ s.biasEn a = false) (ma : Nat) :
    s.antSample a ma = { s.put (antFld a) 0 with gnss := { s.gnss with ant := s.gnss.ant.set a default } } := by
  have hOff : (!s.biasEn a || !s.runs .gnss) = true := by
    rcases h with h | h <;> simp [h]
  rw [State.antSample, if_pos hOff]
  rfl

theorem antFld_apart {a b : Nat} (hb : b < 2) (h : b ≠ a) : Fld.apart (antFld b) (antFld a) := by
  refine .inr ?_
  simp only [antFld]
  omega

theorem curFld_apart {a b : Nat} (hb : b < 2) (h : b ≠ a) : Fld.apart (curFld b) (curFld a) := by
  refine .inr ?_
  simp only [curFld]
  omega

/-- From `s` to `t` antenna `a` has been judged to be in state `v`, its current `ma` is shown, and the other antenna stands. -/
structure State.Judges (s t : State) (a ma v : Nat) : Prop where
  stat : t.get (antFld a) = v
  cur : t.get (curFld a) = ma
  other : ∀ b < 2, b ≠ a → t.get (antFld b) = s.get (antFld b) ∧ t.get (curFld b) = s.get (curFld b)
  front : s.FrontOnly t [R.GNSS_FE_STAT, R.GNSS_ANT_CUR]
  occ : t.occ = s.occ

theorem State.judges_of_shown (s : State) {a ma v : Nat} (ha : a < 2) (hMa : ma < 65536) (hv : v < 4) (x : AntBias) :
    s.Judges ((s.antShown a ma x).put (antFld a) v) a ma v := by
  have hStat : (antFld a).lo + (antFld a).w ≤ 32 := by simp only [antFld]; omega
  have hCur : (curFld a).lo + (curFld a).w ≤ 32 := by simp only [curFld]; omega
  refine ⟨?_, ?_, fun b hb hne => ⟨?_, ?_⟩, ⟨rfl, ?_⟩, rfl⟩
  · rw [State.get_put_same _ _ _ hStat]
    exact Nat.mod_eq_of_lt hv
  · rw [State.get_put_addr _ _ (antFld_addr a).symm]
    exact (s.get_put_same (curFld a) ma hCur).trans (Nat.mod_eq_of_lt hMa)
  · rw [State.get_put_of_apart _ _ (antFld_apart hb hne), State.get_antShown (antFld_addr b)]
  · rw [State.get_put_addr _ _ (antFld_addr a).symm]
    exact s.get_put_of_apart ma (curFld_apart hb hne)
  · exact .trans (t := s.antShown a ma x) (.put s (f := curFld a) ma (by simp [curFld])) (.put _ v (by simp [antFld]))

/-- A judgement leaves an antenna that is not short on. -/
theorem State.Judges.biasOn {s t : State} {a b ma v : Nat} (h : s.Judges t a ma v) (k : s.BiasOn b) (hClosed : t.get (antFld b) ≠ 3) :
    t.BiasOn b := by
  obtain ⟨hRuns, hBias, hVant⟩ := h.front.reads (by decide)
  exact ⟨hRuns.trans k.runs, (hBias b).trans k.bias, hVant.trans k.vant, hClosed⟩

theorem State.vantShow_of_biasOn {s : State} (h : s.BiasOn 0) : s.vantShow = s.putB F.GNSS_FE_STAT_VANT_OK true := by
  simp [State.vantShow, h.runs, h.bias, h.vant]

/-- The clause on a sample that judges both antennas ok. -/
theorem biasSample_ok {a b : BitVec 16} {s : State} (hA : s.BiasOn 0) (hB : s.BiasOn 1)
    (hRange : ∀ x ∈ [a, b], s.get F.GNSS_ANT_THR_OPEN_MA ≤ x.toNat ∧ x.toNat ≤ s.get F.GNSS_ANT_THR_SHORT_MA ∧ x.toNat < 120) :
    ∃ t, exec (.biasSample a b) s = .next t ∧ t.get (antFld 0) = 1 ∧ t.get (antFld 1) = 1 ∧
      t.get F.GNSS_ANT_CUR_ANT_A = a.toNat ∧ t.get F.GNSS_ANT_CUR_ANT_B = b.toNat ∧
      t = { s with regs := t.regs, gnss := { s.gnss with ant := t.gnss.ant } } ∧
      s.regsKept t [R.GNSS_FE_STAT, R.GNSS_ANT_CUR] := by
  simp only [List.forall_mem_cons] at hRange
  obtain ⟨⟨hOpenA, hShortA, hLimitA⟩, ⟨hOpenB, hShortB, hLimitB⟩, -⟩ := hRange
  have hFirst := s.judges_of_shown (a := 0) (v := 1) (by decide) a.isLt (by decide) default
  rw [← State.antSample_ok hA hOpenA hShortA hLimitA] at hFirst
  have hShow : exec (.biasSample a b) s = .next ((s.antSample 0 a.toNat).antSample 1 b.toNat).vantShow := rfl
  generalize s.antSample 0 a.toNat = u at hFirst hShow
  obtain ⟨hStatB, -⟩ := hFirst.other 1 (by decide) (by decide)
  have hOnB : u.BiasOn 1 := hFirst.biasOn hB (hStatB ▸ hB.closed)
  have hOnA : u.BiasOn 0 := hFirst.biasOn hA (by rw [hFirst.stat]; decide)
  have hThr : ∀ f : Fld, f.addr = R.GNSS_ANT_THR → u.get f = s.get f := fun f hf => hFirst.front.kept.get (by rw [hf]; decide)
  have hSecond := u.judges_of_shown (a := 1) (v := 1) (by decide) b.isLt (by decide) default
  rw [← State.antSample_ok hOnB (by rwa [hThr _ rfl]) (by rwa [hThr _ rfl]) hLimitB] at hSecond
  generalize u.antSample 1 b.toNat = w at hSecond hShow
  obtain ⟨hStatA, hCurA⟩ := hSecond.other 0 (by decide) (by decide)
  rw [hFirst.stat] at hStatA
  rw [hFirst.cur] at hCurA
  rw [State.vantShow_of_biasOn (hSecond.biasOn hOnA (by rw [hStatA]; decide))] at hShow
  have hStat : ∀ k < 2, (w.putB F.GNSS_FE_STAT_VANT_OK true).get (antFld k) = w.get (antFld k) := fun k hk =>
    w.get_put_of_apart 1 (.inr (by simp only [antFld, F.GNSS_FE_STAT_VANT_OK]; omega))
  have hCur : ∀ k, (w.putB F.GNSS_FE_STAT_VANT_OK true).get (curFld k) = w.get (curFld k) := fun k =>
    w.get_put_addr 1 (show R.GNSS_ANT_CUR ≠ R.GNSS_FE_STAT by decide)
  have hShown : w.FrontOnly (w.putB F.GNSS_FE_STAT_VANT_OK true) [R.GNSS_FE_STAT, R.GNSS_ANT_CUR] := .put w 1 (.head _)
  obtain ⟨hFrame, hKept⟩ := (hFirst.front.trans hSecond.front).trans hShown
  refine ⟨_, hShow, (hStat 0 (by decide)).trans hStatA, (hStat 1 (by decide)).trans hSecond.stat, (hCur 0).trans hCurA,
    (hCur 1).trans hSecond.cur, ?_, hKept⟩
  have hOcc : (w.putB F.GNSS_FE_STAT_VANT_OK true).occ = s.occ := hSecond.occ.trans hFirst.occ
  rwa [hOcc] at hFrame

/-! ## The open antenna, and the antenna whose bias is off (R156) -/

theorem gnssEvent_place : ∀ e ∈ [49, 50, 51, 52, 53, 54, 55, 56, 57, 58, 59], evOwner e = .gnss ∧ (evBit e).addr = H.evt .gnss := by
  decide

theorem gnssEvt_addr : H.evt .gnss = 0x70010 := rfl

/-- An event of the running block occurs. -/
theorem State.raise_of_gnssRuns {s : State} {e : Nat} (h : s.kind .gnss = 1)
    (he : e ∈ [49, 50, 51, 52, 53, 54, 55, 56, 57, 58, 59]) : s.occurred (s.raise e) e := by
  obtain ⟨hOwner, -⟩ := gnssEvent_place e he
  exact State.occurred_raise (hOwner ▸ h)

/-- The clause on a current below OPEN_MA for the 100th ms in a row. -/
theorem antSample_open_effect {a : Fin 2} {ma : Nat} {s : State} (h : s.BiasOn a.val) (hOpen : ma < s.get F.GNSS_ANT_THR_OPEN_MA)
    (hShort : ma ≤ s.get F.GNSS_ANT_THR_SHORT_MA) (hLimit : ma < 120) (hLong : 99 ≤ (s.gnss.ant.get a.val).openMs) :
    ∃ t, s.antSample a.val ma = t ∧ t.get (antFld a.val) = 2 ∧
      t.occ = s.occ ++ (if s.get (antFld a.val) = 2 then [] else [(if a.val = 0 then 49 else 51, s.tag)]) ∧
      t = { s with regs := t.regs, occ := t.occ, gnss := { s.gnss with ant := t.gnss.ant } } ∧
      s.regsKept t [R.GNSS_FE_STAT, R.GNSS_ANT_CUR, (evBit 49).addr] := by
  have hJudged := s.judges_of_shown (a := a.val) (ma := ma) (v := 2) a.isLt (by omega) (by decide) ⟨100, 0⟩
  rw [State.antSample_open h hOpen hShort hLimit hLong]
  generalize (s.antShown a.val ma ⟨100, 0⟩).put (antFld a.val) 2 = u at hJudged
  obtain ⟨hStat, -, -, hFront, hOcc⟩ := hJudged
  have hFront' : s.FrontOnly u [R.GNSS_FE_STAT, R.GNSS_ANT_CUR, (evBit 49).addr] := ⟨hFront.frame, hFront.kept.mono (by simp)⟩
  have hTag : u.tag = s.tag := by rw [hFront.frame]
  by_cases hWas : s.get (antFld a.val) = 2
  · rw [hWas]
    exact ⟨u, rfl, hStat, by simp [hOcc], hFront'.frame, hFront'.kept⟩
  · have hEvent : (if a.val = 0 then 49 else 51) ∈ [49, 50, 51, 52, 53, 54, 55, 56, 57, 58, 59] := by split <;> decide
    obtain ⟨hOwner, hAddr⟩ := gnssEvent_place _ hEvent
    have hKind : u.kind .gnss = 1 := (hFront.kept.kind (by decide) (by decide) (by rw [hFront.frame]) .gnss).trans (State.kind_of_runs h.runs)
    have hRaise : u.raiseIf (s.get (antFld a.val) != 2) (if a.val = 0 then 49 else 51) = u.raise (if a.val = 0 then 49 else 51) := by
      simp [State.raiseIf, hWas]
    rw [hRaise]
    obtain ⟨hFrame, hKept⟩ := hFront'.trans (.raise u (e := if a.val = 0 then 49 else 51) (by rw [hAddr]; decide))
    obtain ⟨-, hOccurred⟩ := State.raise_of_gnssRuns hKind hEvent
    refine ⟨_, rfl, (State.get_raise_ne _ _ (by rw [hAddr]; exact show R.GNSS_FE_STAT ≠ H.evt .gnss by decide)).trans hStat, ?_,
      hFrame, hKept⟩
    rw [hOccurred, hOcc, hTag, if_neg hWas]

/-- The clause on an antenna whose bias is off, or on a block that does not run. -/
theorem antSample_off_effect {a : Fin 2} {s : State} (h : s.runs .gnss = false ∨ s.biasEn a.val = false) (ma : Nat) :
    ∃ t, s.antSample a.val ma = t ∧ t.get (antFld a.val) = 0 ∧
      t = { s with regs := t.regs, gnss := { s.gnss with ant := t.gnss.ant } } ∧ s.regsKept t [R.GNSS_FE_STAT] := by
  have ha := a.isLt
  refine ⟨_, State.antSample_off h ma, s.get_put_same (antFld a.val) 0 (by simp only [antFld]; omega), rfl, ?_⟩
  exact State.regsKept.put s (f := antFld a.val) 0 (.head _)

/-! ## An antenna judged short (R156, R175) -/

/-- Antenna `a` shows short, and its event is raised. -/
def State.antRaised (s : State) (a : Nat) : State := (s.put (antFld a) 3).raise (if a = 0 then 50 else 52)

/-- The channels of antenna `a`. -/
def antChannels (a : Nat) : List Nat := (List.range 96).map (· + 96 * a)

theorem mem_antChannels {a n : Nat} : n ∈ antChannels a ↔ n / 96 = a := by
  simp only [antChannels, List.mem_map, List.mem_range]
  constructor
  · rintro ⟨k, hk, rfl⟩
    omega
  · intro h
    exact ⟨n % 96, Nat.mod_lt _ (by decide), by omega⟩

theorem antChannels_nodup (a : Nat) : (antChannels a).Nodup :=
  List.nodup_range.map fun j k (h : j + 96 * a = k + 96 * a) => Nat.add_right_cancel h

theorem State.antShort_eq (s : State) (a : Nat) : s.antShort a = (s.antRaised a).each (antChannels a) State.chSuspend := rfl

/-- The fields of GNSS_CH_STATE lie beside each other within the word. -/
theorem chStateFields_place (n : Nat) : (F.GNSS_CH_STATE_STATE n).lo + (F.GNSS_CH_STATE_STATE n).w ≤ 32 ∧
    (F.GNSS_CH_STATE_EXIT n).lo + (F.GNSS_CH_STATE_EXIT n).w ≤ 32 ∧
    Fld.apart (F.GNSS_CH_STATE_STATE n) (F.GNSS_CH_STATE_EXIT n) := by
  simp only [F.GNSS_CH_STATE_STATE, F.GNSS_CH_STATE_EXIT, Fld.apart]
  omega

theorem State.chLeave_shows (s : State) (n : Nat) {st why : Nat} (hSt : st < 8) (hWhy : why < 16) :
    (s.chLeave n st why).chState n = st ∧ (s.chLeave n st why).get (F.GNSS_CH_STATE_EXIT n) = why := by
  obtain ⟨hState, hExit, hApart⟩ := chStateFields_place n
  rw [State.chState, State.chLeave, State.get_put_of_apart _ _ hApart, State.get_put_same _ _ _ hState, State.get_put_same _ _ _ hExit]
  exact ⟨Nat.mod_eq_of_lt hSt, Nat.mod_eq_of_lt hWhy⟩

theorem State.chLeave_kept (s : State) (n st why : Nat) : s.regsKept (s.chLeave n st why) [R.GNSS_CH_STATE n] :=
  .trans (.put s st (.head _)) (.put _ why (.head _))

theorem State.regs_modCh (s : State) (n : Nat) (f : GnssCh → GnssCh) : (s.modCh n f).regs = s.regs := rfl

@[simp] theorem State.word_modCh (s : State) (n : Nat) (f : GnssCh → GnssCh) (a : Nat) : (s.modCh n f).word a = s.word a := by
  rw [State.word, State.regs_modCh, State.word]

@[simp] theorem State.get_modCh (s : State) (n : Nat) (f : GnssCh → GnssCh) (g : Fld) : (s.modCh n f).get g = s.get g := rfl

@[simp] theorem State.nat_modCh (s : State) (n : Nat) (f : GnssCh → GnssCh) (a : Nat) : (s.modCh n f).nat a = s.nat a := rfl

theorem State.chSuspend_active {s : State} {n : Nat} (h : s.chActive n = true) :
    (s.chSuspend n).chState n = 0 ∧ (s.chSuspend n).get (F.GNSS_CH_STATE_EXIT n) = 5 := by
  rw [State.chSuspend, if_pos h, State.chState, State.get_modCh, State.get_modCh, ← State.chState]
  exact s.chLeave_shows n (by decide) (by decide)

theorem State.chSuspend_kept (s : State) (n : Nat) : s.regsKept (s.chSuspend n) [R.GNSS_CH_STATE n] := by
  unfold State.chSuspend
  split
  · exact (s.chLeave_kept n 0 5).of_regs (State.regs_modCh _ n _)
  · exact .refl s _

theorem exec_antHwLimit {a : Fin 2} {s : State} (h : s.BiasOn a.val) : exec (.antHwLimit a) s = .next (s.antShort a.val) := by
  obtain ⟨hRuns, hBias, hVant, hClosed⟩ := h
  show execAntHwLimit a s = _
  simp [execAntHwLimit, hRuns, hBias, hVant, hClosed]

/-- The clause on a current at the hardware limit. -/
theorem antHwLimit_effect {a : Fin 2} {s : State} (h : s.BiasOn a.val) :
    ∃ t, exec (.antHwLimit a) s = .next t ∧ t.get (antFld a.val) = 3 ∧ s.occurred t (if a.val = 0 then 50 else 52) ∧
      (∀ n, n / 96 = a.val → n < 192 → s.chActive n = true → t.chState n = 0 ∧ t.get (F.GNSS_CH_STATE_EXIT n) = 5) ∧
      t = { s with regs := t.regs, occ := t.occ, gnssCh := t.gnssCh } ∧
      s.regsKept t ([R.GNSS_FE_STAT, (evBit 50).addr] ++ (List.range 192).map R.GNSS_CH_STATE) := by
  have ha := a.isLt
  have hEvent : (if a.val = 0 then 50 else 52) ∈ [49, 50, 51, 52, 53, 54, 55, 56, 57, 58, 59] := by split <;> decide
  obtain ⟨-, hAddr⟩ := gnssEvent_place _ hEvent
  have hShown : s.FrontOnly (s.put (antFld a.val) 3) [R.GNSS_FE_STAT] := .put s 3 (by simp [antFld])
  have hKind : (s.put (antFld a.val) 3).kind .gnss = 1 :=
    (hShown.kept.kind (by decide) (by decide) rfl .gnss).trans (State.kind_of_runs h.runs)
  have hOccurred := State.raise_of_gnssRuns hKind hEvent
  have hRaised : s.FrontOnly (s.antRaised a.val) [R.GNSS_FE_STAT, (evBit 50).addr] :=
    ⟨by rw [State.antRaised, State.raise_changes]; rfl, .trans (hShown.kept.mono (by simp)) (.raise _ (by rw [hAddr]; decide))⟩
  have hFrame : s.antRaised a.val = { s with regs := (s.antRaised a.val).regs, occ := (s.antRaised a.val).occ } := by
    rw [State.antRaised, State.raise_changes]
    rfl
  have hLt : ∀ {n}, n ∈ antChannels a.val → n ∈ List.range 192 := fun hn => by
    have := mem_antChannels.mp hn
    rw [List.mem_range]
    omega
  have hStat : (s.antRaised a.val).get (antFld a.val) = 3 := by
    rw [State.antRaised, State.get_raise_ne _ _ (by rw [hAddr]; exact show R.GNSS_FE_STAT ≠ H.evt .gnss by decide),
      State.get_put_same _ _ _ (by simp only [antFld]; omega)]
    rfl
  have hMoves : (s.antRaised a.val).Moves (fun _ => True) (s.antShort a.val) := .each State.Moves.chSuspend (fun _ _ => trivial) _
  have hOut : ∀ r, r < 0x72000 → (s.antShort a.val).word r = (s.antRaised a.val).word r := fun r hr =>
    hMoves.word_out fun m hm => by
      simp only [chPage, R.GNSS_CH_CTRL] at hm
      omega
  refine ⟨_, exec_antHwLimit h, ?_, ⟨?_, ?_⟩, fun n hn hLt hActive => ?_, ?_, ?_⟩
  · exact (State.get_eq_of_word (hOut R.GNSS_FE_STAT (by decide))).trans hStat
  · exact (State.flag_eq_of_word (hOut _ (by rw [hAddr]; decide))).trans hOccurred.1
  · rw [hMoves.frame]
    exact hOccurred.2
  · obtain ⟨u, hBefore, hAfter⟩ := State.Moves.each_at State.Moves.chSuspend (s.antRaised a.val) (antChannels_nodup a.val)
      (mem_antChannels.mpr hn)
    have hOwn := chRegs_page R.GNSS_CH_STATE (by simp [chRegs]) n
    have hWord : u.word (R.GNSS_CH_STATE n) = s.word (R.GNSS_CH_STATE n) := (hBefore.word_own hOwn).trans (hRaised.kept _ (by
      simp only [R.GNSS_CH_STATE, R.GNSS_FE_STAT, List.mem_cons, List.not_mem_nil, or_false, gnssEvent_place 50 (by decide), gnssEvt_addr]
      omega))
    have hState : u.chState n = s.chState n := State.get_eq_of_word hWord
    obtain ⟨hIdle, hExit⟩ := State.chSuspend_active (s := u) (n := n) (by rwa [State.chActive, hState])
    have hWordAfter := hAfter.word_own hOwn
    exact ⟨(State.get_eq_of_word (f := F.GNSS_CH_STATE_STATE n) hWordAfter).trans hIdle,
      (State.get_eq_of_word (f := F.GNSS_CH_STATE_EXIT n) hWordAfter).trans hExit⟩
  · rw [hMoves.frame, hFrame]
  · refine (hRaised.kept.mono (by simp)).trans (State.each_rel (r := fun s t => s.regsKept t _) ?_ ?_ _ _ fun n hn u _ => ?_)
    · exact fun s => .refl s _
    · exact fun h k => h.trans k
    · exact (u.chSuspend_kept n).mono fun _ hr => List.mem_append_right _ (List.mem_singleton.mp hr ▸ List.mem_map_of_mem (hLt hn))

end Sys2Proof.Machine
end

section
/-! VANT, the retest of a short antenna, and the gains (R156, R157, R159 to R161). -/

namespace Sys2Proof.Machine

open Sys2Proof

/-! ## The retest, and VANT's limits -/

/-- The clause on a retest that a short antenna passes. -/
theorem antRetest_effect {a : Fin 2} {ma : BitVec 16} {s : State} (h : s.get (antFld a.val) = 3)
    (hShort : ma.toNat ≤ s.get F.GNSS_ANT_THR_SHORT_MA) (hLimit : ma.toNat < 120) :
    ∃ t, exec (.antRetest a ma) s = .next t ∧ t.get (antFld a.val) = 1 ∧ t.gnss.ant.get a.val = default ∧
      t = { s with regs := t.regs, gnss := { s.gnss with ant := t.gnss.ant } } ∧ s.regsKept t [R.GNSS_FE_STAT] := by
  have ha := a.isLt
  have hRun : exec (.antRetest a ma) s =
      .next { s.put (antFld a.val) 1 with gnss := { s.gnss with ant := s.gnss.ant.set a.val default } } := by
    show execAntRetest a ma s = _
    rw [execAntRetest, if_pos (by simp [h, hShort, hLimit])]
    rfl
  exact ⟨_, hRun, s.get_put_same (antFld a.val) 1 (by simp only [antFld]; omega), s.gnss.ant.get_set_same a.val default, rfl,
    State.regsKept.put s (f := antFld a.val) 1 (.head _)⟩

/-- VANT is shown, and whether it is good. -/
def State.vantShown (s : State) (mv ok : Nat) : State := (s.put F.GNSS_VANT_VANT mv).put F.GNSS_FE_STAT_VANT_OK ok

theorem State.vantShown_reads (s : State) {mv : BitVec 16} {ok : Nat} :
    (s.vantShown mv.toNat ok).get F.GNSS_VANT_VANT = mv.toNat ∧
    (s.vantShown mv.toNat ok).flag F.GNSS_FE_STAT_VANT_OK = (ok % 2 == 1) ∧
    s.regsKept (s.vantShown mv.toNat ok) [R.GNSS_VANT, R.GNSS_FE_STAT] := by
  refine ⟨?_, State.flag_put_same ok (by decide), .trans (.put s _ (by decide)) (.put _ ok (by decide))⟩
  rw [State.vantShown, State.get_put_addr _ _ (by decide), State.get_put_same _ _ _ (by decide)]
  exact Nat.mod_eq_of_lt mv.isLt

theorem vantOk_iff {mv : Nat} : vantOk mv = true ↔ 3000 ≤ mv ∧ mv ≤ 5500 := decide_eq_true_iff

theorem vantOk_eq_false {mv : Nat} : vantOk mv = false ↔ mv < 3000 ∨ 5500 < mv := by
  rw [← Bool.not_eq_true, vantOk_iff]
  omega

/-- The clause on a VANT out of range. -/
theorem vantFlt_effect {mv : BitVec 16} {s : State} (hRuns : s.runs .gnss = true) (hBias : s.biasEn 0 = true ∨ s.biasEn 1 = true)
    (hGood : s.gnss.vantBad = false) (hRange : mv.toNat < 3000 ∨ 5500 < mv.toNat) :
    ∃ t, exec (.vantFlt mv) s = .next t ∧ t.get F.GNSS_VANT_VANT = mv.toNat ∧ t.flag F.GNSS_FE_STAT_VANT_OK = false ∧
      s.occurred t 59 ∧ t.gnss = { s.gnss with vantBad := true } ∧
      t = { s with regs := t.regs, occ := t.occ, gnss := t.gnss } ∧
      s.regsKept t [R.GNSS_VANT, R.GNSS_FE_STAT, (evBit 59).addr] := by
  obtain ⟨hVant, hOk, hKept⟩ := s.vantShown_reads (mv := mv) (ok := 0)
  have hRun : exec (.vantFlt mv) s =
      .next (({ s.vantShown mv.toNat 0 with gnss := { s.gnss with vantBad := true } } : State).raise 59) := by
    show execVantFlt mv s = _
    rw [execVantFlt, if_pos (by simp [hRuns, hBias, hGood, vantOk_eq_false.mpr hRange])]
    rfl
  have hFrame : s.vantShown mv.toNat 0 = { s with regs := (s.vantShown mv.toNat 0).regs } := rfl
  generalize s.vantShown mv.toNat 0 = w at hVant hOk hKept hRun hFrame
  have hKept' : s.regsKept { w with gnss := { s.gnss with vantBad := true } } [R.GNSS_VANT, R.GNSS_FE_STAT, (evBit 59).addr] :=
    (hKept.mono (by simp)).of_regs rfl
  have hKind : State.kind { w with gnss := { s.gnss with vantBad := true } } .gnss = 1 :=
    (hKept'.kind (by decide) (by decide) (by rw [hFrame]) .gnss).trans (State.kind_of_runs hRuns)
  obtain ⟨hFlag, hOcc⟩ := State.raise_of_gnssRuns (e := 59) hKind (by decide)
  refine ⟨_, hRun, (State.get_raise_ne _ 59 (by decide)).trans hVant, (State.flag_raise_ne _ 59 (by decide)).trans hOk,
    ⟨hFlag, ?_⟩, ?_, ?_, hKept'.trans (.raise _ (by simp))⟩
  · rw [hOcc, hFrame]
  · rw [State.raise_changes]
  · rw [State.raise_changes, hFrame]

/-- The clause on a VANT that is on the other side of the limit. -/
theorem vant_noEffect (mv : BitVec 16) (s : State) :
    (3000 ≤ mv.toNat ∧ mv.toNat ≤ 5500 ∧ s.runs .gnss = true → exec (.vantFlt mv) s = .next s) ∧
    (mv.toNat < 3000 ∨ 5500 < mv.toNat → exec (.vantRestore mv) s = .next s) := by
  constructor
  · rintro ⟨hLo, hHi, -⟩
    show execVantFlt mv s = _
    rw [execVantFlt, if_neg (by simp [vantOk_iff.mpr ⟨hLo, hHi⟩])]
  · intro h
    show execVantRestore mv s = _
    rw [execVantRestore, if_neg (by simp [vantOk_eq_false.mpr h])]

/-- The clause on a VANT that is back in range. -/
theorem vantRestore_effect {mv : BitVec 16} (s : State) (hLo : 3000 ≤ mv.toNat) (hHi : mv.toNat ≤ 5500) :
    ∃ t, exec (.vantRestore mv) s = .next t ∧ t.get F.GNSS_VANT_VANT = mv.toNat ∧ t.flag F.GNSS_FE_STAT_VANT_OK = true ∧
      t.gnss = { s.gnss with vantBad := false } ∧ t = { s with regs := t.regs, gnss := t.gnss } ∧
      s.regsKept t [R.GNSS_VANT, R.GNSS_FE_STAT] := by
  obtain ⟨hVant, hOk, hKept⟩ := s.vantShown_reads (mv := mv) (ok := 1)
  have hRun : exec (.vantRestore mv) s = .next { s.vantShown mv.toNat 1 with gnss := { s.gnss with vantBad := false } } := by
    show execVantRestore mv s = _
    rw [execVantRestore, if_pos (vantOk_iff.mpr ⟨hLo, hHi⟩)]
    rfl
  exact ⟨_, hRun, hVant, hOk, rfl, rfl, hKept.of_regs rfl⟩

/-! ## The gains (R159 to R161) -/

/-- The registers that the gain loops and the jamming they find write, FE_STAT apart. -/
def agcRegs : List Nat := [R.GNSS_AGC_GAIN_A, R.GNSS_AGC_GAIN_A + 4, R.GNSS_AGC_REF_A, R.GNSS_AGC_REF_A + 4, (evBit 53).addr]

theorem State.snapJam_changes (s : State) : s.snapJam = { s with gnss := s.snapJam.gnss } := by
  unfold State.snapJam
  split <;> rfl

/-- From `s` to `t` the gain loops have worked, and only the gains of the paths that `p` names have moved. -/
structure State.Gains (p : Nat → Prop) (s t : State) : Prop where
  frame : t = { s with regs := t.regs, occ := t.occ, gnss := t.gnss }
  kept : s.regsKept t agcRegs
  gain : ∀ q < 4, ¬ p q → t.get (gainFld q) = s.get (gainFld q)

theorem gainFld_place {q : Nat} (h : q < 4) : (gainFld q).addr ∈ agcRegs ∧ (gainFld q).lo + (gainFld q).w ≤ 32 ∧
    (refFld q).addr ∈ agcRegs ∧ ∀ r < 4, (gainFld r).addr ≠ (refFld q).addr ∧ (r ≠ q → Fld.apart (gainFld r) (gainFld q)) := by
  revert h
  revert q
  simp only [Fld.apart]
  decide

namespace State.Gains

variable {p q : Nat → Prop} {s t u : State}

theorem refl (p : Nat → Prop) (s : State) : s.Gains p s := ⟨rfl, .refl s _, fun _ _ _ => rfl⟩

theorem trans (h : s.Gains p t) (k : t.Gains p u) : s.Gains p u :=
  ⟨by rw [k.frame, h.frame], h.kept.trans k.kept, fun q hq hp => (k.gain q hq hp).trans (h.gain q hq hp)⟩

theorem mono (h : s.Gains p t) (hSub : ∀ n, p n → q n) : s.Gains q t :=
  ⟨h.frame, h.kept, fun n hn hq => h.gain n hn fun hp => hq (hSub n hp)⟩

theorem putGain {n : Nat} (s : State) (v : Nat) (h : n < 4) : s.Gains (· = n) (s.put (gainFld n) v) := by
  obtain ⟨hMem, -, -, hApart⟩ := gainFld_place h
  exact ⟨rfl, .put s v hMem, fun q hq hne => s.get_put_of_apart v ((hApart q hq).2 hne)⟩

theorem putRef {n : Nat} (s : State) (v : Nat) (h : n < 4) : s.Gains (fun _ => False) (s.put (refFld n) v) := by
  obtain ⟨-, -, hMem, hApart⟩ := gainFld_place h
  exact ⟨rfl, .put s v hMem, fun q hq _ => s.get_put_addr v (hApart q hq).1⟩

theorem modGnss (s : State) (f : GnssState → GnssState) : s.Gains (fun _ => False) (s.modGnss f) := ⟨rfl, .refl s _, fun _ _ _ => rfl⟩

theorem raise (s : State) {e : Nat} (h : (evBit e).addr = H.evt .gnss) : s.Gains (fun _ => False) (s.raise e) :=
  ⟨by rw [State.raise_changes], .raise s (by rw [h]; decide), fun q hq _ =>
    s.get_raise_ne e (by rw [h]; revert q; decide)⟩

theorem snapJam (s : State) : s.Gains (fun _ => False) s.snapJam := by
  rw [s.snapJam_changes]
  exact modGnss s fun _ => s.snapJam.gnss

end State.Gains

/-- The gain of path `p` after its update: one step towards its aim, or none where it is frozen. -/
def State.agcGain (s : State) (p aim : Nat) : Nat :=
  if nbit (s.get F.GNSS_AGC_CTRL_FREEZE) p then s.get (gainFld p)
  else if s.get (gainFld p) < aim then s.get (gainFld p) + 1
  else if aim < s.get (gainFld p) then s.get (gainFld p) - 1 else s.get (gainFld p)

/-- An enabled path's gain is stored, and its reference and the run lengths after it. -/
theorem State.agcPath_on {s : State} {p aim : Nat} (hp : p < 4) (h : s.pathEn p = true) :
    (s.put (gainFld p) (s.agcGain p aim)).Gains (fun _ => False) (s.agcPath (p, aim)) := by
  have hStored : ∀ (u : State) (r : Nat) (x : AgcPath),
      u.Gains (fun _ => False) ((u.put (refFld p) r).modGnss fun y => { y with agc := y.agc.set p x }) := fun u r x =>
    .trans (.putRef u r hp) (.modGnss _ _)
  have hEvent : (evBit (if p < 2 then 53 else 54)).addr = H.evt .gnss := (gnssEvent_place _ (by split <;> decide)).2
  have hDone : ∀ {u v : State} (c : Prop) [Decidable c], u.Gains (fun _ => False) v →
      u.Gains (fun _ => False) (if c then (v.raise (if p < 2 then 53 else 54)).snapJam else v) := fun c _ hu => by
    split
    · exact .trans (.trans hu (.raise _ hEvent)) (.snapJam _)
    · exact hu
  rw [State.agcPath, if_neg (by simp [h])]
  exact hDone _ (hStored _ _ _)

theorem State.agcPath_off {s : State} {p : Nat} (aim : Nat) (h : s.pathEn p = false) :
    s.Gains (fun _ => False) (s.agcPath (p, aim)) := by
  simp only [State.agcPath, h, Bool.not_false, if_true]
  exact .modGnss s fun y => { y with agc := y.agc.modify p fun x => { x with lowMs := 0, okMs := 0, limMs := 0 } }

theorem State.agcPath_gains (s : State) {p : Nat} (aim : Nat) (hp : p < 4) : s.Gains (· = p) (s.agcPath (p, aim)) := by
  cases h : s.pathEn p with
  | false => exact (State.agcPath_off aim h).mono fun _ => False.elim
  | true => exact .trans (.putGain s _ hp) ((State.agcPath_on hp h).mono fun _ => False.elim)

theorem State.agcPath_gain {s : State} {p aim : Nat} (hp : p < 4) (hAim : aim < 128) :
    (s.agcPath (p, aim)).get (gainFld p) = if s.pathEn p then s.agcGain p aim else s.get (gainFld p) := by
  obtain ⟨-, hPlace, -⟩ := gainFld_place hp
  cases h : s.pathEn p with
  | false => exact (State.agcPath_off aim h).gain p hp not_false
  | true =>
    rw [(State.agcPath_on hp h).gain p hp not_false, State.get_put_same _ _ _ hPlace, if_pos rfl]
    refine Nat.mod_eq_of_lt ?_
    have hCur : s.get (gainFld p) < 256 := s.get_lt _
    show _ < 256
    unfold State.agcGain
    split
    · exact hCur
    · split
      · omega
      · split <;> omega

/-- What the gain loops read stands while they work. -/
theorem State.Gains.reads {p : Nat → Prop} {s t : State} (h : s.Gains p t) :
    (∀ q, t.pathEn q = s.pathEn q) ∧ t.get F.GNSS_AGC_CTRL_FREEZE = s.get F.GNSS_AGC_CTRL_FREEZE :=
  ⟨fun q => by rw [State.pathEn, h.kept.get (by decide), State.pathEn], h.kept.get (by decide)⟩

theorem State.judgeJam_changes (s : State) :
    s.judgeJam = { s with regs := s.judgeJam.regs, occ := s.judgeJam.occ, gnss := s.judgeJam.gnss } ∧
    s.regsKept s.judgeJam [R.GNSS_FE_STAT, (evBit 53).addr] := by
  have hPut : ∀ v, s.regsKept (s.put F.GNSS_FE_STAT_JAM v) [R.GNSS_FE_STAT, (evBit 53).addr] := fun v => .put s v (by decide)
  unfold State.judgeJam
  dsimp only
  split
  · unfold State.when
    split
    · exact ⟨rfl, hPut 0⟩
    · exact ⟨rfl, .refl s _⟩
  split
  · have hFrame := ((s.put F.GNSS_FE_STAT_JAM 1).raise 56).snapJam_changes
    exact ⟨by rw [hFrame, State.raise_changes]; rfl, ((hPut 1).trans (.raise _ (e := 56) (by decide))).of_regs (by rw [hFrame])⟩
  · exact ⟨rfl, .refl s _⟩

/-- A step towards the aim, in the clause's words. -/
theorem State.agcGain_free {s : State} {p : Nat} (aim : Nat) (h : nbit (s.get F.GNSS_AGC_CTRL_FREEZE) p = false) :
    s.agcGain p aim = if s.get (gainFld p) < aim then s.get (gainFld p) + 1
      else if aim < s.get (gainFld p) then s.get (gainFld p) - 1 else aim := by
  simp only [State.agcGain, h, Bool.false_eq_true, if_false]
  split
  · rfl
  · split
    · rfl
    · omega

/-- The clause on a gain update of a running block. -/
theorem agcUpdate_effect (g0 g1 g2 g3 : BitVec 7) {s : State} (hRuns : s.runs .gnss = true) (hStopped : s.gnss.stopped = false) :
    ∃ t, exec (.agcUpdate g0 g1 g2 g3) s = .next t ∧
      (∀ p, p < 4 → s.pathEn p = true → nbit (s.get F.GNSS_AGC_CTRL_FREEZE) p = false →
        let aim := ([g0, g1, g2, g3].getD p 0).toNat
        t.get (gainFld p) = (if s.get (gainFld p) < aim then s.get (gainFld p) + 1
          else if aim < s.get (gainFld p) then s.get (gainFld p) - 1 else aim)) ∧
      (∀ p, p < 4 → (s.pathEn p = false ∨ nbit (s.get F.GNSS_AGC_CTRL_FREEZE) p = true) → t.get (gainFld p) = s.get (gainFld p)) ∧
      t = { s with regs := t.regs, occ := t.occ, gnss := t.gnss } ∧
      s.regsKept t [R.GNSS_AGC_GAIN_A, R.GNSS_AGC_GAIN_A + 4, R.GNSS_AGC_REF_A, R.GNSS_AGC_REF_A + 4, R.GNSS_FE_STAT, (evBit 53).addr] := by
  let l : List (Nat × Nat) := [(0, g0.toNat), (1, g1.toNat), (2, g2.toNat), (3, g3.toNat)]
  have hPaths : ∀ x ∈ l, x.1 < 4 ∧ x.2 < 128 := by simp [l, g0.isLt, g1.isLt, g2.isLt, g3.isLt]
  have hOwn : ∀ x ∈ l, ∀ u : State, u.Gains (· = x.1) (u.agcPath x) := fun x hx u => u.agcPath_gains x.2 (hPaths x hx).1
  have hAll : s.Gains (fun _ => True) (s.each l State.agcPath) :=
    State.each_rel (r := fun s t => s.Gains _ t) (.refl _) .trans l s fun x hx u _ => (hOwn x hx u).mono fun _ _ => trivial
  have hGain : ∀ x ∈ l, (s.each l State.agcPath).get (gainFld x.1) = if s.pathEn x.1 then s.agcGain x.1 x.2 else s.get (gainFld x.1) := by
    intro x hx
    obtain ⟨hp, hAim⟩ := hPaths x hx
    obtain ⟨u, hBefore, hAfter⟩ := State.each_turn (key := Prod.fst) (r := fun p s t => s.Gains p t) (y := x) .refl .trans .mono s hOwn
      (show [0, 1, 2, 3].Nodup by decide) hx
    obtain ⟨hEn, hFreeze⟩ := hBefore.reads
    have hCur := hBefore.gain x.1 hp (not_not.mpr rfl)
    rw [hAfter.gain x.1 hp (not_not.mpr rfl), State.agcPath_gain hp hAim, hEn, hCur]
    simp only [State.agcGain, hFreeze, hCur]
  obtain ⟨hFrame, hKept⟩ := (s.each l State.agcPath).judgeJam_changes
  have hRun : exec (.agcUpdate g0 g1 g2 g3) s = .next (s.each l State.agcPath).judgeJam := by
    show execAgcUpdate g0 g1 g2 g3 s = _
    rw [execAgcUpdate, if_pos (by simp [hRuns, hStopped])]
  have hOther : ∀ p < 4, (gainFld p).addr ∉ [R.GNSS_FE_STAT, (evBit 53).addr] := by decide
  have hJudged : ∀ p < 4, (s.each l State.agcPath).judgeJam.get (gainFld p) =
      if s.pathEn p then s.agcGain p ([g0, g1, g2, g3].getD p 0).toNat else s.get (gainFld p) := fun p hp => by
    have hMem : (p, ([g0, g1, g2, g3].getD p 0).toNat) ∈ l := by
      interval_cases p <;> simp [l]
    rw [hKept.get (hOther p hp), hGain _ hMem]
  refine ⟨_, hRun, fun p hp hEn hFree => ?_, fun p hp hStands => ?_, ?_, (hAll.kept.mono ?_).trans (hKept.mono ?_)⟩
  · rw [hJudged p hp, if_pos hEn, State.agcGain_free _ hFree]
  · rw [hJudged p hp]
    rcases hStands with hOff | hFrozen
    · rw [hOff]; rfl
    · rw [State.agcGain, if_pos hFrozen, ite_self]
  · rw [hFrame, hAll.frame]
  · decide
  · decide

/-- The clause on a gain update of a block that does not run, or is stopped. -/
theorem agcUpdate_idle (g0 g1 g2 g3 : BitVec 7) {s : State} (h : s.runs .gnss = false ∨ s.gnss.stopped = true) :
    exec (.agcUpdate g0 g1 g2 g3) s = .next s := by
  show execAgcUpdate g0 g1 g2 g3 s = _
  rw [execAgcUpdate, if_neg]
  rcases h with h | h <;> simp [h]

/-- Settles O24: each judgement of a current or of VANT is a few stored fields, the channels of a short antenna are suspended
one by one, and each gain loop moves its own gain. -/
theorem antennaSupplyIsJudged : Obligations.AntennaSupplyIsJudged :=
  ⟨fun _ _ _ hRuns hA hB hVant hRange hClosedA hClosedB =>
    biasSample_ok ⟨hRuns, hA, hVant, hClosedA⟩ ⟨hRuns, hB, hVant, hClosedB⟩ hRange,
  fun _ _ hRuns hBias hVant hClosed => antHwLimit_effect ⟨hRuns, hBias, hVant, hClosed⟩,
  fun _ _ _ => antRetest_effect,
  fun _ _ => vantFlt_effect,
  vant_noEffect,
  fun _ s => vantRestore_effect s,
  fun g0 g1 g2 g3 _ => agcUpdate_effect g0 g1 g2 g3,
  fun g0 g1 g2 g3 _ => agcUpdate_idle g0 g1 g2 g3,
  fun _ _ _ => rfl,
  fun _ _ _ hRuns hBias hVant hClosed => antSample_open_effect ⟨hRuns, hBias, hVant, hClosed⟩,
  fun _ ma _ h => antSample_off_effect h ma⟩

end Sys2Proof.Machine
end

section
/-! The tracking channels: dumps, lock assessments and time-outs (R162, R166, R169, R171 to R174). -/

namespace Sys2Proof.Machine

open Sys2Proof

/-! ## What a channel reads stands while other channels work -/

/-- A register outside the pages of the channels. -/
theorem not_chPage {a : Nat} (h : a < R.GNSS_CH_CTRL 0) (n : Nat) : ¬ chPage n a := by
  simp only [chPage, R.GNSS_CH_CTRL] at *
  omega

theorem State.nGch_le (s : State) : s.nGch ≤ 192 := by
  have h : s.nAnt ≤ 2 := by
    unfold State.nAnt
    split <;> decide
  unfold State.nGch
  omega

namespace State.Moves

variable {p : Nat → Prop} {s t : State} {n : Nat}

theorem nGch (h : s.Moves p t) : t.nGch = s.nGch := by
  have hPers : t.pers = s.pers := State.get_eq_of_word (h.word_out (not_chPage (by decide)))
  rw [State.nGch, State.nAnt, hPers, State.nGch, State.nAnt]

theorem own_chState (h : s.Moves (· ≠ n) t) : t.chState n = s.chState n :=
  State.get_eq_of_word (h.word_own (chRegs_page R.GNSS_CH_STATE (by simp [chRegs]) n))

theorem own_mode (h : s.Moves (· ≠ n) t) : t.get (F.GNSS_CH_CTRL_MODE n) = s.get (F.GNSS_CH_CTRL_MODE n) :=
  State.get_eq_of_word (h.word_own (chRegs_page R.GNSS_CH_CTRL (by simp [chRegs]) n))

theorem own_ch (h : s.Moves (· ≠ n) t) : t.gnssCh.get n = s.gnssCh.get n := h.ch n (not_not.mpr rfl)

theorem own_usable (h : s.Moves (· ≠ n) t) : t.chUsable n = s.chUsable n := by
  have hSig : t.get (F.GNSS_CH_CUR_SIGID n) = s.get (F.GNSS_CH_CUR_SIGID n) :=
    State.get_eq_of_word (h.word_own (chRegs_page R.GNSS_CH_CUR (by simp [chRegs]) n))
  have hOut : ∀ f : Fld, f.addr < R.GNSS_CH_CTRL 0 → t.get f = s.get f := fun f hf => State.get_eq_of_word (h.word_out (not_chPage hf))
  have hPath : ∀ q, t.pathEn q = s.pathEn q := fun q => by rw [State.pathEn, hOut _ (by decide), State.pathEn]
  have hAnt : ∀ a, t.get (antFld a) = s.get (antFld a) := fun a => hOut _ (show R.GNSS_FE_STAT < R.GNSS_CH_CTRL 0 by decide)
  simp only [State.chUsable, hSig, hPath, hAnt]

end State.Moves

/-- From `s` to `t` the bookkeeping of channels has changed, and no pending host change. -/
structure State.ChNotes (s t : State) : Prop where
  frame : t = { s with gnssCh := t.gnssCh }
  pend : ∀ n, (t.gnssCh.get n).hostPend = (s.gnssCh.get n).hostPend

namespace State.ChNotes

variable {s t u : State}

theorem trans (h : s.ChNotes t) (k : t.ChNotes u) : s.ChNotes u :=
  ⟨by rw [k.frame, h.frame], fun n => (k.pend n).trans (h.pend n)⟩

theorem modCh (s : State) (n : Nat) {f : GnssCh → GnssCh} (hf : ∀ c, (f c).hostPend = c.hostPend) : s.ChNotes (s.modCh n f) := by
  refine ⟨rfl, fun m => ?_⟩
  by_cases hm : m = n
  · rw [hm, State.modCh, Table.get_modify_same, hf]
  · rw [State.modCh, Table.get_modify_ne _ _ hm]

theorem each {f : State → Nat → State} (hf : ∀ (u : State) n, u.ChNotes (f u n)) (s : State) (l : List Nat) : s.ChNotes (s.each l f) :=
  State.each_rel (r := State.ChNotes) (fun _ => ⟨rfl, fun _ => rfl⟩) trans l s fun n _ u _ => hf u n

theorem word (h : s.ChNotes t) (a : Nat) : t.word a = s.word a := by
  rw [h.frame]
  rfl

theorem usable (h : s.ChNotes t) (n : Nat) : t.chUsable n = s.chUsable n := by
  rw [h.frame]
  rfl

end State.ChNotes

theorem State.chRun_notes (s : State) (t n : Nat) : s.ChNotes (s.chRun t n) := .modCh s n fun _ => rfl

theorem State.chLoop_notes (s : State) (n : Nat) : s.ChNotes (s.chLoop n) := .modCh s n fun _ => rfl

/-! ## A channel at a dump without observations -/

theorem State.chDump_track {s : State} {n : Nat} (vis : List (Byte × Byte)) (hPend : (s.gnssCh.get n).hostPend = false)
    (hState : s.chState n = 3) (hUsable : s.chUsable n = true) : s.chDump vis n = s.count (F.GNSS_CH_LOCKT n) 1 := by
  have hSeek : (s.count (F.GNSS_CH_LOCKT n) 1).chSeek n vis = s.count (F.GNSS_CH_LOCKT n) 1 := by
    have hStands : (s.count (F.GNSS_CH_LOCKT n) 1).chState n = s.chState n := s.get_count_ne 1 (by
      simp [F.GNSS_CH_STATE_STATE, F.GNSS_CH_LOCKT, R.GNSS_CH_STATE, R.GNSS_CH_LOCKT])
    rw [State.chSeek, if_neg (by simp [hStands, hState])]
  simp [State.chDump, hPend, hState, hUsable, State.when, hSeek]

theorem State.chDump_host {s : State} {n : Nat} (vis : List (Byte × Byte)) (hPend : (s.gnssCh.get n).hostPend = true)
    (hState : s.chState n ≠ 6) : s.chDump vis n = s.chHostChange n vis := by
  simp [State.chDump, hPend, hState]

/-- LOCKT and the loss counts of channel `n` are cleared. -/
def State.chCleared (s : State) (n : Nat) : State := (s.setNat (R.GNSS_CH_LOCKT n) 0).setNat (R.GNSS_CH_LLI n) 0

theorem State.chCleared_reads (s : State) (n : Nat) :
    (s.chCleared n).nat (R.GNSS_CH_LOCKT n) = 0 ∧ (s.chCleared n).nat (R.GNSS_CH_LLI n) = 0 ∧
    s.regsKept (s.chCleared n) [R.GNSS_CH_LOCKT n, R.GNSS_CH_LLI n] := by
  refine ⟨?_, State.nat_setNat_same _ _ 0, .trans (.setWord s _ (by simp)) (.setWord _ _ (by simp))⟩
  have hApart : R.GNSS_CH_LOCKT n ≠ R.GNSS_CH_LLI n := by simp [R.GNSS_CH_LOCKT, R.GNSS_CH_LLI]
  exact (congrArg BitVec.toNat ((s.setNat (R.GNSS_CH_LOCKT n) 0).word_setWord_ne (BitVec.ofNat 32 0) hApart)).trans
    (s.nat_setNat_same _ 0)

theorem State.chFirst_off {s : State} {n : Nat} (vis : List (Byte × Byte)) (h : s.get (F.GNSS_CH_CTRL_MODE n) = 0) :
    s.chFirst n vis = s.put (F.GNSS_CH_STATE_STATE n) 0 := by
  unfold State.chFirst
  simp [h]

/-- A host change to MODE = OFF. -/
theorem State.chHostChange_off {s : State} {n : Nat} (vis : List (Byte × Byte)) (hMode : s.get (F.GNSS_CH_CTRL_MODE n) = 0) :
    (s.chHostChange n vis).chState n = 0 ∧ (s.chHostChange n vis).nat (R.GNSS_CH_LOCKT n) = 0 ∧
    (s.chHostChange n vis).nat (R.GNSS_CH_LLI n) = 0 ∧ ((s.chHostChange n vis).gnssCh.get n).hostPend = false := by
  obtain ⟨v, hChange, hExit⟩ : ∃ v : State, s.chHostChange n vis =
      ((v.chCleared n).chFirst n vis).modCh n (fun c => { c with hostPend := false, resume := 0, fails := 0 }) ∧
      s.regsKept v [R.GNSS_CH_STATE n] := by
    refine ⟨if s.chActive n then s.put (F.GNSS_CH_STATE_EXIT n) 4 else s, rfl, ?_⟩
    split
    · exact .put s 4 (.head _)
    · exact .refl s _
  obtain ⟨hLockt, hLli, hKept⟩ := v.chCleared_reads n
  have hMode' : (v.chCleared n).get (F.GNSS_CH_CTRL_MODE n) = 0 := by
    rw [hKept.get (by simp [F.GNSS_CH_CTRL_MODE, R.GNSS_CH_CTRL, R.GNSS_CH_LLI, R.GNSS_CH_LOCKT]),
      hExit.get (by simp [F.GNSS_CH_CTRL_MODE, R.GNSS_CH_CTRL, R.GNSS_CH_STATE]), hMode]
  have hNat : ∀ a, a ≠ R.GNSS_CH_STATE n → ((v.chCleared n).put (F.GNSS_CH_STATE_STATE n) 0).nat a = (v.chCleared n).nat a := fun a ha =>
    congrArg BitVec.toNat (State.word_put_ne _ _ 0 ha)
  rw [hChange, State.chFirst_off vis hMode']
  refine ⟨?_, ?_, ?_, ?_⟩
  · rw [State.chState, State.get_modCh, State.get_put_same _ _ _ (chStateFields_place n).1, Nat.zero_mod]
  · rw [State.nat_modCh, hNat _ (by simp [R.GNSS_CH_LOCKT, R.GNSS_CH_STATE]), hLockt]
  · rw [State.nat_modCh, hNat _ (by simp [R.GNSS_CH_LLI, R.GNSS_CH_STATE]), hLli]
  · rw [State.modCh, Table.get_modify_same]

/-! ## The rounds of a dump without observations -/

/-- The accumulators run on to the dump, each channel has its turn, and each takes GNSS_CH_LOOP as it stands. -/
def State.dumpRounds (s : State) (d : Nat) (vis : List (Byte × Byte)) : State :=
  let s := s.each (List.range s.nGch) (State.chRun · d)
  let s := s.each (List.range s.nGch) (fun s n => s.chDump vis n)
  s.each (List.range s.nGch) State.chLoop

/-- The rounds change channels alone, and the channel that has its turn stands before it as in `s`, and after it but for its
bookkeeping as at the end. -/
theorem State.dumpRounds_turns (s : State) (d : Nat) (vis : List (Byte × Byte)) :
    s.Moves (· < s.nGch) (s.dumpRounds d vis) ∧
    ∀ n < s.nGch, ∃ u : State, u.chState n = s.chState n ∧ u.chUsable n = s.chUsable n ∧
      u.get (F.GNSS_CH_CTRL_MODE n) = s.get (F.GNSS_CH_CTRL_MODE n) ∧
      u.get (F.GNSS_CH_LOCKT n) = s.get (F.GNSS_CH_LOCKT n) ∧
      (u.gnssCh.get n).hostPend = (s.gnssCh.get n).hostPend ∧
      (∀ a, chPage n a → (s.dumpRounds d vis).word a = (u.chDump vis n).word a) ∧
      ((s.dumpRounds d vis).gnssCh.get n).hostPend = ((u.chDump vis n).gnssCh.get n).hostPend := by
  have hOwn : ∀ (u : State) m, u.Moves (· = m) (u.chDump vis m) := fun u m => .chDump u vis m
  obtain ⟨v, hv⟩ : ∃ v, v = s.each (List.range s.nGch) (State.chRun · d) := ⟨_, rfl⟩
  have hRun : s.ChNotes v := hv ▸ .each (fun u n => u.chRun_notes d n) s _
  have hRunMoves : s.Moves (· < s.nGch) v := hv ▸ .each (fun u m => .modCh u m _) (fun n hn => List.mem_range.mp hn) s
  obtain ⟨w, hw⟩ : ∃ w, w = v.each (List.range s.nGch) (fun s n => s.chDump vis n) := ⟨_, rfl⟩
  have hDump : v.Moves (· < s.nGch) w := hw ▸ .each hOwn (fun n hn => List.mem_range.mp hn) v
  have hRounds : s.dumpRounds d vis = w.each (List.range s.nGch) State.chLoop := by
    simp only [State.dumpRounds, ← hv, hRunMoves.nGch, ← hw, hDump.nGch]
  have hLoop : w.ChNotes (s.dumpRounds d vis) := hRounds ▸ .each State.chLoop_notes w _
  have hLoopMoves : w.Moves (· < s.nGch) (s.dumpRounds d vis) :=
    hRounds ▸ .each (fun u m => .modCh u m _) (fun n hn => List.mem_range.mp hn) w
  refine ⟨.trans (.trans hRunMoves hDump) hLoopMoves, fun n hn => ?_⟩
  obtain ⟨u, hBefore, hAfter⟩ := State.Moves.each_at hOwn v List.nodup_range (List.mem_range.mpr hn)
  rw [← hw] at hAfter
  refine ⟨u, hBefore.own_chState.trans (State.get_eq_of_word (hRun.word _)), hBefore.own_usable.trans (hRun.usable n),
    hBefore.own_mode.trans (State.get_eq_of_word (hRun.word _)), ?_, ?_, fun a ha => ?_, ?_⟩
  · exact State.get_eq_of_word ((hBefore.word_own (chRegs_page R.GNSS_CH_LOCKT (by simp [chRegs]) n)).trans (hRun.word _))
  · rw [hBefore.own_ch, hRun.pend]
  · exact (hLoop.word a).trans (hAfter.word_own ha)
  · rw [hLoop.pend, hAfter.own_ch]

/-- The clause on a dump without observations. -/
theorem correlatorDump_effect (sub : BitVec 16) (vis : List (Byte × Byte)) {s : State} (hRuns : s.runs .gnss = true)
    (hStopped : s.gnss.stopped = false) (hCapture : s.capturing = false) :
    ∃ t, exec (.correlatorDump sub vis []) s = .next t ∧
      (∀ n, n < s.nGch → (s.gnssCh.get n).hostPend = false → s.chState n = 3 → s.chUsable n = true →
        t.get (F.GNSS_CH_LOCKT n) = min (s.get (F.GNSS_CH_LOCKT n) + 1) 0xFFFFFFFF ∧ t.chState n = 3) ∧
      (∀ n, n < s.nGch → (s.gnssCh.get n).hostPend = true → s.chState n ≠ 6 → s.get (F.GNSS_CH_CTRL_MODE n) = 0 →
        t.chState n = 0 ∧ t.nat (R.GNSS_CH_LOCKT n) = 0 ∧ t.nat (R.GNSS_CH_LLI n) = 0 ∧ (t.gnssCh.get n).hostPend = false) ∧
      t.occ = s.occ ∧ t = { s with regs := t.regs, gnssCh := t.gnssCh } ∧
      (∀ a, (a < R.GNSS_CH_CTRL 0 ∨ R.GNSS_CH_CTRL 192 ≤ a) → t.word a = s.word a) := by
  obtain ⟨hMoves, hTurns⟩ := s.dumpRounds_turns (s.clk * 65536 + sub.toNat) vis
  have hOut : ∀ a, (a < R.GNSS_CH_CTRL 0 ∨ R.GNSS_CH_CTRL 192 ≤ a) →
      (s.dumpRounds (s.clk * 65536 + sub.toNat) vis).word a = s.word a := fun a ha => hMoves.word a fun m hm => by
    have := s.nGch_le
    simp only [chPage, R.GNSS_CH_CTRL] at ha ⊢
    omega
  have hIdle : (s.dumpRounds (s.clk * 65536 + sub.toNat) vis).capturing = false := by
    have hStat := hOut R.GNSS_SNAP_STAT (by decide)
    rw [← hCapture, State.capturing, State.flag_eq_of_word hStat, State.get_eq_of_word hStat, State.capturing]
  have hRun : exec (.correlatorDump sub vis []) s = .next (s.dumpRounds (s.clk * 65536 + sub.toNat) vis) := by
    show execCorrelatorDump sub vis [] s = _
    rw [execCorrelatorDump, if_pos (by simp [hRuns, hStopped])]
    refine congrArg Host.Outcome.next (if_neg (c := (s.dumpRounds (s.clk * 65536 + sub.toNat) vis).capturing && _ && _) ?_)
    rw [hIdle]
    exact Bool.false_ne_true
  generalize s.dumpRounds (s.clk * 65536 + sub.toNat) vis = t at *
  have hState := chRegs_page R.GNSS_CH_STATE (by simp [chRegs])
  have hLockt := chRegs_page R.GNSS_CH_LOCKT (by simp [chRegs])
  have hLli := chRegs_page R.GNSS_CH_LLI (by simp [chRegs])
  refine ⟨t, hRun, fun n hn hPend hTrack hUsable => ?_, fun n hn hPend hNot hMode => ?_, by rw [hMoves.frame], hMoves.frame, hOut⟩
  · obtain ⟨u, hs, hu, -, hCount, hp, hWord, -⟩ := hTurns n hn
    rw [State.chDump_track vis (hp.trans hPend) (hs.trans hTrack) (hu.trans hUsable)] at hWord
    refine ⟨(State.get_eq_of_word (hWord _ (hLockt n))).trans ?_, (State.get_eq_of_word (hWord _ (hState n))).trans ?_⟩
    · rw [State.get_count_same _ (F.GNSS_CH_LOCKT n) _ (by simp [F.GNSS_CH_LOCKT]), hCount]
      rfl
    · rw [← hTrack, ← hs]
      exact u.get_count_ne 1 (by simp [F.GNSS_CH_STATE_STATE, F.GNSS_CH_LOCKT, R.GNSS_CH_STATE, R.GNSS_CH_LOCKT])
  · obtain ⟨u, hs, -, hm, -, hp, hWord, hPendAfter⟩ := hTurns n hn
    rw [State.chDump_host vis (hp.trans hPend) (hs ▸ hNot)] at hWord hPendAfter
    obtain ⟨hIdleState, hNoLockt, hNoLli, hNoPend⟩ := State.chHostChange_off (s := u) vis (hm.trans hMode)
    exact ⟨(State.get_eq_of_word (hWord _ (hState n))).trans hIdleState, (congrArg BitVec.toNat (hWord _ (hLockt n))).trans hNoLockt,
      (congrArg BitVec.toNat (hWord _ (hLli n))).trans hNoLli, hPendAfter.trans hNoPend⟩

end Sys2Proof.Machine
end

section
/-! The tracking channels: lock assessments, time-outs and detection (R166, R169, R171 to R173). -/

namespace Sys2Proof.Machine

open Sys2Proof

/-! ## The loss of lock (R171) -/

/-- The registers as channel `n` leaves TRACK for RECOVER. -/
def State.chLost (s : State) (n why : Nat) : State :=
  ((((s.chLeave n 4 why).put (F.GNSS_CH_SPC_ACT n) 64).setNat (R.GNSS_CH_LOCKT n) 0).count (F.GNSS_CH_LLI_LOL n) 1).count F.GNSS_CNT_LOL 1

theorem State.lockTrack_lost {s : State} {n : Nat} {o : LockObs} (hCn0 : 256 * s.get F.GNSS_ACQ_CTRL_LOCK_CN0 ≤ o.cn0.toNat)
    (hPll : o.pll < 500) (hPend : (s.gnssCh.get n).hostPend = false)
    (hLast : s.get F.GNSS_ACQ_CTRL_LOL_N ≤ (s.gnssCh.get n).fails + 1) :
    s.lockTrack n o = ((s.chLost n 2).modCh n fun c => { c with fails := 0, goods := 0, since := (s.chLost n 2).clk }).raise 55 := by
  have hWhy : (if o.cn0.toNat < 256 * s.get F.GNSS_ACQ_CTRL_LOCK_CN0 then 1 else if o.pll < 500 then 2
      else if 500 < o.disc.natAbs then 3 else 0) = 2 := by
    rw [if_neg (Nat.not_lt.mpr hCn0), if_pos hPll]
  rw [State.lockTrack, hWhy, if_neg (by decide), if_neg (by simp [hPend, Nat.not_lt.mpr hLast])]
  rfl

/-- The registers that a loss of lock writes after GNSS_CH_STATE. -/
def lostRegs (n : Nat) : List Nat := [R.GNSS_CH_SPC_ACT n, R.GNSS_CH_LOCKT n, R.GNSS_CH_LLI n, R.GNSS_CNT_LOL]

theorem State.chLost_effect (s : State) (n : Nat) {why : Nat} (hWhy : why < 16) :
    (s.chLost n why).chState n = 4 ∧ (s.chLost n why).get (F.GNSS_CH_STATE_EXIT n) = why ∧ (s.chLost n why).get (F.GNSS_CH_SPC_ACT n) = 64 ∧
    (s.chLost n why).nat (R.GNSS_CH_LOCKT n) = 0 ∧
    (s.chLost n why).get (F.GNSS_CH_LLI_LOL n) = min (s.get (F.GNSS_CH_LLI_LOL n) + 1) 0xFFFF ∧
    s.Puts (s.chLost n why) (R.GNSS_CH_STATE n :: lostRegs n) := by
  obtain ⟨a, ha⟩ : ∃ a, a = s.chLeave n 4 why := ⟨_, rfl⟩
  obtain ⟨b, hb⟩ : ∃ b, b = a.put (F.GNSS_CH_SPC_ACT n) 64 := ⟨_, rfl⟩
  obtain ⟨c, hc⟩ : ∃ c, c = b.setNat (R.GNSS_CH_LOCKT n) 0 := ⟨_, rfl⟩
  obtain ⟨d, hd⟩ : ∃ d, d = c.count (F.GNSS_CH_LLI_LOL n) 1 := ⟨_, rfl⟩
  have hLost : s.chLost n why = d.count F.GNSS_CNT_LOL 1 := by rw [hd, hc, hb, ha, State.chLost]
  obtain ⟨hStateA, hExitA⟩ := s.chLeave_shows n (st := 4) (by decide) hWhy
  have hA : s.Puts a [R.GNSS_CH_STATE n] := ha ▸ .trans (.put s 4 (.head _)) (.put _ why (.head _))
  have hB : a.Puts b [R.GNSS_CH_SPC_ACT n] := hb ▸ .put a 64 (.head _)
  have hC : b.Puts c [R.GNSS_CH_LOCKT n] := hc ▸ ⟨rfl, .setWord b _ (.head _)⟩
  have hD : c.Puts d [R.GNSS_CH_LLI n] := hd ▸ .count c 1 (.head _)
  have hE : d.Puts (s.chLost n why) [R.GNSS_CNT_LOL] := hLost ▸ .count d 1 (.head _)
  have hFromC : c.Puts (s.chLost n why) [R.GNSS_CH_LLI n, R.GNSS_CNT_LOL] := .trans (hD.mono (by simp)) (hE.mono (by simp))
  have hFromB : b.Puts (s.chLost n why) [R.GNSS_CH_LOCKT n, R.GNSS_CH_LLI n, R.GNSS_CNT_LOL] :=
    .trans (hC.mono (by simp)) (hFromC.mono (by simp))
  have hFromA : a.Puts (s.chLost n why) (lostRegs n) := .trans (hB.mono (by simp [lostRegs])) (hFromB.mono (by simp [lostRegs]))
  have hToC : s.Puts c [R.GNSS_CH_STATE n, R.GNSS_CH_SPC_ACT n, R.GNSS_CH_LOCKT n] :=
    .trans (.trans (hA.mono (by simp)) (hB.mono (by simp))) (hC.mono (by simp))
  have hAway : R.GNSS_CH_STATE n ∉ lostRegs n ∧ R.GNSS_CH_SPC_ACT n ∉ [R.GNSS_CH_LOCKT n, R.GNSS_CH_LLI n, R.GNSS_CNT_LOL] ∧
      R.GNSS_CH_LOCKT n ∉ [R.GNSS_CH_LLI n, R.GNSS_CNT_LOL] ∧ R.GNSS_CH_LLI n ∉ [R.GNSS_CNT_LOL] ∧
      R.GNSS_CH_LLI n ∉ [R.GNSS_CH_STATE n, R.GNSS_CH_SPC_ACT n, R.GNSS_CH_LOCKT n] := by
    simp only [lostRegs, R.GNSS_CH_STATE, R.GNSS_CH_SPC_ACT, R.GNSS_CH_LOCKT, R.GNSS_CH_LLI, R.GNSS_CNT_LOL, List.mem_cons,
      List.not_mem_nil, or_false]
    omega
  obtain ⟨hState, hSpacing, hLockt, hLli, hLliBefore⟩ := hAway
  refine ⟨(hFromA.kept.get hState).trans (ha ▸ hStateA), (hFromA.kept.get hState).trans (ha ▸ hExitA), ?_, ?_, ?_,
    .trans (hA.mono (by simp)) (hFromA.mono (List.subset_cons_self _ _))⟩
  · rw [hFromB.kept.get hSpacing, hb, State.get_put_same _ _ _ (show 0 + 8 ≤ 32 by decide)]
    rfl
  · rw [State.nat, hFromC.kept _ hLockt, hc]
    exact State.nat_setNat_same _ _ 0
  · rw [hE.kept.get hLli, hd, State.get_count16 _ 1 (show 0 + 16 ≤ 32 by decide) rfl, hToC.kept.get hLliBefore]

/-- C/N0 of channel `n` is shown, in a register of its own. -/
theorem chCn0_apart (n : Nat) : R.GNSS_CH_STATE n ≠ R.GNSS_CH_CN0 n ∧ R.GNSS_CH_LLI n ≠ R.GNSS_CH_CN0 n ∧
    R.GNSS_ACQ_CTRL ≠ R.GNSS_CH_CN0 n ∧ R.GNSS_CH_CN0 n ∉ R.GNSS_CH_STATE n :: lostRegs n := by
  simp only [lostRegs, R.GNSS_CH_STATE, R.GNSS_CH_SPC_ACT, R.GNSS_CH_LOCKT, R.GNSS_CH_LLI, R.GNSS_CNT_LOL, R.GNSS_CH_CN0,
    R.GNSS_ACQ_CTRL, List.mem_cons, List.not_mem_nil, or_false]
  omega

/-- The registers at an assessment of channel `n` that fails for the LOL_N-th time. -/
def State.lostAt (s : State) (n cn0 : Nat) : State := (s.put (F.GNSS_CH_CN0_CN0 n) cn0).chLost n 2

theorem exec_lockAssessment_lost {o : LockObs} {s : State} (hRuns : s.runs .gnss = true) (hStopped : s.gnss.stopped = false)
    (hTrack : s.chState o.ch.val = 3) (hCn0 : 256 * s.get F.GNSS_ACQ_CTRL_LOCK_CN0 ≤ o.cn0.toNat) (hPll : o.pll < 500)
    (hPend : (s.gnssCh.get o.ch.val).hostPend = false) (hLast : s.get F.GNSS_ACQ_CTRL_LOL_N ≤ (s.gnssCh.get o.ch.val).fails + 1) :
    exec (.lockAssessment [o]) s = .next (((s.lostAt o.ch.val o.cn0.toNat).modCh o.ch.val fun c =>
      { c with fails := 0, goods := 0, since := (s.lostAt o.ch.val o.cn0.toNat).clk }).raise 55) := by
  obtain ⟨hState, -, hCtrl, -⟩ := chCn0_apart o.ch.val
  have hRead : ∀ f : Fld, f.addr ≠ R.GNSS_CH_CN0 o.ch.val → (s.put (F.GNSS_CH_CN0_CN0 o.ch.val) o.cn0.toNat).get f = s.get f :=
    fun f hf => s.get_put_addr _ hf
  have hTrack' : (s.put (F.GNSS_CH_CN0_CN0 o.ch.val) o.cn0.toNat).chState o.ch.val = 3 := (hRead (F.GNSS_CH_STATE_STATE o.ch.val) hState).trans hTrack
  have hLockCn0 := hRead F.GNSS_ACQ_CTRL_LOCK_CN0 hCtrl
  have hLolN := hRead F.GNSS_ACQ_CTRL_LOL_N hCtrl
  show execLockAssessment [o] s = _
  rw [execLockAssessment, if_pos (by simp [hRuns, hStopped])]
  show Host.Outcome.next (s.lockAssess o) = _
  rw [State.lostAt, ← State.lockTrack_lost (s := s.put (F.GNSS_CH_CN0_CN0 o.ch.val) o.cn0.toNat) (o := o) (by rwa [hLockCn0]) hPll
      hPend (by rwa [hLolN]),
    State.lockAssess, if_pos (by simp [State.chActive, hTrack]), hTrack']
  rfl

theorem State.lostAt_effect (s : State) (n : Nat) {cn0 : Nat} (hCn0 : cn0 < 65536) :
    (s.lostAt n cn0).chState n = 4 ∧ (s.lostAt n cn0).get (F.GNSS_CH_STATE_EXIT n) = 2 ∧ (s.lostAt n cn0).get (F.GNSS_CH_SPC_ACT n) = 64 ∧
    (s.lostAt n cn0).nat (R.GNSS_CH_LOCKT n) = 0 ∧ (s.lostAt n cn0).get (F.GNSS_CH_CN0_CN0 n) = cn0 ∧
    (s.lostAt n cn0).get (F.GNSS_CH_LLI_LOL n) = min (s.get (F.GNSS_CH_LLI_LOL n) + 1) 0xFFFF ∧
    s.Puts (s.lostAt n cn0) (R.GNSS_CH_CN0 n :: R.GNSS_CH_STATE n :: lostRegs n) := by
  obtain ⟨-, hLli, -, hCn0Reg⟩ := chCn0_apart n
  obtain ⟨hState, hExit, hSpacing, hLockt, hLol, hPuts⟩ := (s.put (F.GNSS_CH_CN0_CN0 n) cn0).chLost_effect n (why := 2) (by decide)
  refine ⟨hState, hExit, hSpacing, hLockt, ?_, hLol.trans ?_, .trans (.put s cn0 (.head _)) (hPuts.mono (List.subset_cons_self _ _))⟩
  · exact (hPuts.kept.get hCn0Reg).trans ((s.get_put_same (F.GNSS_CH_CN0_CN0 n) cn0 (show 0 + 16 ≤ 32 by decide)).trans (Nat.mod_eq_of_lt hCn0))
  · rw [s.get_put_addr (f := F.GNSS_CH_CN0_CN0 n) (g := F.GNSS_CH_LLI_LOL n) cn0 hLli]

/-- The registers of the channels begin where GNSS_CH_CTRL of channel 0 lies. -/
theorem chRegs_above {r : Nat → Nat} (hr : r ∈ chRegs) (n : Nat) : R.GNSS_CH_CTRL 0 ≤ r n := by
  have h := chRegs_page r hr n
  simp only [chPage, R.GNSS_CH_CTRL] at h ⊢
  omega

/-- An event of GNSS leaves the registers of the channels. -/
theorem State.word_raise_ch (s : State) {r : Nat → Nat} (hr : r ∈ chRegs) (n : Nat) {e : Nat}
    (he : e ∈ [49, 50, 51, 52, 53, 54, 55, 56, 57, 58, 59]) : (s.raise e).word (r n) = s.word (r n) := by
  refine s.word_raise_ne e fun h => ?_
  have hAbove := chRegs_above hr n
  rw [h, (gnssEvent_place e he).2] at hAbove
  exact absurd hAbove (by decide)

/-- The clause on the LOL_N-th failing assessment in a row. -/
theorem lockAssessment_effect {o : LockObs} {s : State} (hRuns : s.runs .gnss = true) (hStopped : s.gnss.stopped = false)
    (hTrack : s.chState o.ch.val = 3) (hCn0 : 256 * s.get F.GNSS_ACQ_CTRL_LOCK_CN0 ≤ o.cn0.toNat) (hPll : o.pll < 500)
    (hPend : (s.gnssCh.get o.ch.val).hostPend = false) (hLast : s.get F.GNSS_ACQ_CTRL_LOL_N ≤ (s.gnssCh.get o.ch.val).fails + 1) :
    ∃ t, exec (.lockAssessment [o]) s = .next t ∧ t.chState o.ch.val = 4 ∧ t.get (F.GNSS_CH_STATE_EXIT o.ch.val) = 2 ∧
      t.get (F.GNSS_CH_SPC_ACT o.ch.val) = 64 ∧ t.nat (R.GNSS_CH_LOCKT o.ch.val) = 0 ∧
      t.get (F.GNSS_CH_CN0_CN0 o.ch.val) = o.cn0.toNat ∧ (t.gnssCh.get o.ch.val).since = s.clk ∧
      t.get (F.GNSS_CH_LLI_LOL o.ch.val) = min (s.get (F.GNSS_CH_LLI_LOL o.ch.val) + 1) 0xFFFF ∧ s.occurred t 55 ∧
      t = { s with regs := t.regs, occ := t.occ, gnssCh := t.gnssCh } ∧
      (∀ m, m ≠ o.ch.val → t.gnssCh.get m = s.gnssCh.get m ∧ t.word (R.GNSS_CH_STATE m) = s.word (R.GNSS_CH_STATE m)) := by
  obtain ⟨hState, hExit, hSpacing, hLockt, hCn0Shown, hLol, hPuts⟩ := s.lostAt_effect o.ch.val o.cn0.isLt
  have hRun := exec_lockAssessment_lost hRuns hStopped hTrack hCn0 hPll hPend hLast
  generalize s.lostAt o.ch.val o.cn0.toNat = w at *
  obtain ⟨x, hx⟩ : ∃ x, x = w.modCh o.ch.val fun c => { c with fails := 0, goods := 0, since := w.clk } := ⟨_, rfl⟩
  rw [← hx] at hRun
  have hWord : ∀ a, x.word a = w.word a := fun a => by rw [hx, State.word_modCh]
  have hFrame : x = { s with regs := w.regs, gnssCh := x.gnssCh } := by
    rw [hx, State.modCh, hPuts.frame]
  have hKind : x.kind .gnss = 1 := by
    have hOut : ∀ a < R.GNSS_ACQ_CTRL, x.word a = s.word a := fun a ha => (hWord a).trans (hPuts.kept a (by
      simp only [R.GNSS_ACQ_CTRL] at ha
      simp only [lostRegs, R.GNSS_CH_STATE, R.GNSS_CH_SPC_ACT, R.GNSS_CH_LOCKT, R.GNSS_CH_LLI, R.GNSS_CH_CN0, R.GNSS_CNT_LOL,
        List.mem_cons, List.not_mem_nil, or_false]
      omega))
    exact (State.kind_congr (hOut _ (by decide)) (hOut _ (by decide)) (by rw [hFrame]) .gnss).trans (State.kind_of_runs hRuns)
  obtain ⟨hFlag, hOcc⟩ := State.raise_of_gnssRuns (e := 55) hKind (by decide)
  have hReads : ∀ r ∈ chRegs, ∀ m, (x.raise 55).word (r m) = w.word (r m) := fun r hr m =>
    (x.word_raise_ch hr m (by decide)).trans (hWord _)
  have hField : ∀ f : Fld, (∃ r ∈ chRegs, f.addr = r o.ch.val) → (x.raise 55).get f = w.get f := fun f ⟨r, hr, hf⟩ =>
    State.get_eq_of_word (by rw [hf]; exact hReads r hr _)
  refine ⟨_, hRun, (hField (F.GNSS_CH_STATE_STATE o.ch.val) ⟨R.GNSS_CH_STATE, by simp [chRegs], rfl⟩).trans hState,
    (hField _ ⟨R.GNSS_CH_STATE, by simp [chRegs], rfl⟩).trans hExit, (hField _ ⟨R.GNSS_CH_SPC_ACT, by simp [chRegs], rfl⟩).trans hSpacing,
    ?_, (hField _ ⟨R.GNSS_CH_CN0, by simp [chRegs], rfl⟩).trans hCn0Shown, ?_,
    (hField _ ⟨R.GNSS_CH_LLI, by simp [chRegs], rfl⟩).trans hLol, ⟨hFlag, ?_⟩, ?_, fun m hm => ⟨?_, ?_⟩⟩
  · rw [State.nat, hReads _ (by simp [chRegs]), ← State.nat, hLockt]
  · rw [State.raise_changes, hx, State.modCh, Table.get_modify_same, hPuts.frame]
  · rw [hOcc, hFrame]
  · rw [State.raise_changes, hFrame]
  · rw [State.raise_changes, hx, State.modCh, Table.get_modify_ne _ _ hm, hPuts.frame]
  · rw [hReads _ (by simp [chRegs])]
    refine hPuts.kept _ ?_
    simp only [lostRegs, R.GNSS_CH_STATE, R.GNSS_CH_SPC_ACT, R.GNSS_CH_LOCKT, R.GNSS_CH_LLI, R.GNSS_CH_CN0, R.GNSS_CNT_LOL,
      List.mem_cons, List.not_mem_nil, or_false]
    omega

/-! ## The time-outs (R169, R172) -/

/-- A channel enters ACQ. -/
theorem State.chAcqAt_effect (s : State) (n : Nat) (c : Option Int) :
    (s.chAcqAt n c).chState n = 1 ∧ (s.chAcqAt n c).get (F.GNSS_CH_SPC_ACT n) = 64 ∧
    (s.chAcqAt n c).gnssCh = s.gnssCh.modify n (fun x => { x with centre := c }) ∧
    s.chAcqAt n c = { s with regs := (s.chAcqAt n c).regs, gnssCh := (s.chAcqAt n c).gnssCh } ∧
    s.regsKept (s.chAcqAt n c) [R.GNSS_CH_STATE n, R.GNSS_CH_SPC_ACT n] := by
  obtain ⟨u, hu⟩ : ∃ u, u = s.put (F.GNSS_CH_STATE_STATE n) 1 := ⟨_, rfl⟩
  obtain ⟨v, hv⟩ : ∃ v, v = u.put (F.GNSS_CH_SPC_ACT n) 64 := ⟨_, rfl⟩
  have hAcq : s.chAcqAt n c = v.modCh n (fun x => { x with centre := c }) := by rw [hv, hu, State.chAcqAt]
  have hPuts : s.Puts v [R.GNSS_CH_STATE n, R.GNSS_CH_SPC_ACT n] := by
    rw [hv, hu]
    exact .trans (.put s 1 (by simp [F.GNSS_CH_STATE_STATE])) (.put _ 64 (by simp [F.GNSS_CH_SPC_ACT]))
  have hApart : (F.GNSS_CH_STATE_STATE n).addr ≠ (F.GNSS_CH_SPC_ACT n).addr := by
    simp [F.GNSS_CH_STATE_STATE, F.GNSS_CH_SPC_ACT, R.GNSS_CH_STATE, R.GNSS_CH_SPC_ACT]
  rw [hAcq]
  refine ⟨?_, ?_, ?_, ?_, hPuts.kept.of_regs (State.regs_modCh _ _ _)⟩
  · rw [State.chState, State.get_modCh, hv, State.get_put_addr _ _ hApart, hu, State.get_put_same _ _ _ (chStateFields_place n).1]
    rfl
  · rw [State.get_modCh, hv, State.get_put_same _ (F.GNSS_CH_SPC_ACT n) _ (show 0 + 8 ≤ 32 by decide)]
    rfl
  · rw [State.modCh, hPuts.frame]
  · rw [State.modCh, hPuts.frame]

/-- The clause on PULLIN for 500 ms. -/
theorem pullinTimeout_effect {ch : Fin 192} {s : State} (hState : s.chState ch.val = 2)
    (hPassed : s.passed (s.gnssCh.get ch.val).since (500 * msec) = true) :
    ∃ t, exec (.pullinTimeout ch) s = .next t ∧ t.chState ch.val = 1 ∧ t.get (F.GNSS_CH_SPC_ACT ch.val) = 64 ∧
      t.gnssCh = s.gnssCh.modify ch.val (fun c => { c with centre := none }) ∧
      t.chCentre ch.val = (if s.get (F.GNSS_CH_CTRL_MODE ch.val) = 2 then s.gets (F.GNSS_CH_AID_DOPP_CTR ch.val) * 256 else 0) ∧
      t = { s with regs := t.regs, gnssCh := t.gnssCh } ∧ s.regsKept t [R.GNSS_CH_STATE ch.val, R.GNSS_CH_SPC_ACT ch.val] := by
  have hRun : exec (.pullinTimeout ch) s = .next (s.chAcqAt ch.val none) := by
    show execPullinTimeout ch s = _
    rw [execPullinTimeout, if_pos (by simp [hState, hPassed]), State.chAcq]
  obtain ⟨hAcq, hSpacing, hCh, hFrame, hKept⟩ := s.chAcqAt_effect ch.val none
  refine ⟨_, hRun, hAcq, hSpacing, hCh, ?_, hFrame, hKept⟩
  have hMode : (s.chAcqAt ch.val none).get (F.GNSS_CH_CTRL_MODE ch.val) = s.get (F.GNSS_CH_CTRL_MODE ch.val) := hKept.get (by
    simp [F.GNSS_CH_CTRL_MODE, R.GNSS_CH_CTRL, R.GNSS_CH_STATE, R.GNSS_CH_SPC_ACT])
  have hAid : (s.chAcqAt ch.val none).gets (F.GNSS_CH_AID_DOPP_CTR ch.val) = s.gets (F.GNSS_CH_AID_DOPP_CTR ch.val) := by
    rw [State.gets, hKept.get (by simp [F.GNSS_CH_AID_DOPP_CTR, R.GNSS_CH_AID, R.GNSS_CH_STATE, R.GNSS_CH_SPC_ACT]), State.gets]
  rw [State.chCentre, hCh, Table.get_modify_same, hMode, hAid]

/-- The clause on RECOVER for RECOVER_T. -/
theorem recoverTimeout_effect {ch : Fin 192} {s : State} (hState : s.chState ch.val = 4)
    (hPassed : s.passed (s.gnssCh.get ch.val).since (s.get F.GNSS_RECOVER_RECOVER_T * msec) = true) :
    ∃ t, exec (.recoverTimeout ch) s = .next t ∧ t.chState ch.val = 1 ∧ t.get (F.GNSS_CH_SPC_ACT ch.val) = 64 ∧
      t.gnssCh = s.gnssCh.modify ch.val (fun c => { c with centre := some (s.int (R.GNSS_CH_DOPP ch.val)) }) ∧
      t = { s with regs := t.regs, gnssCh := t.gnssCh } ∧ s.regsKept t [R.GNSS_CH_STATE ch.val, R.GNSS_CH_SPC_ACT ch.val] := by
  have hRun : exec (.recoverTimeout ch) s = .next (s.chAcqAt ch.val (some (s.int (R.GNSS_CH_DOPP ch.val)))) := by
    show execRecoverTimeout ch s = _
    rw [execRecoverTimeout, if_pos (by simp [hState, hPassed]), State.chReacq]
  exact ⟨_, hRun, s.chAcqAt_effect ch.val _⟩

/-- The clause on a time-out of PULLIN that is not due. -/
theorem pullinTimeout_early {ch : Fin 192} {s : State}
    (h : s.chState ch.val ≠ 2 ∨ s.passed (s.gnssCh.get ch.val).since (500 * msec) = false) : exec (.pullinTimeout ch) s = .next s := by
  show execPullinTimeout ch s = _
  rw [execPullinTimeout, if_neg]
  rcases h with h | h <;> simp [h]

/-- The clause on a time-out of RECOVER that is not due. -/
theorem recoverTimeout_early {ch : Fin 192} {s : State} (h : s.chState ch.val ≠ 4 ∨
    s.passed (s.gnssCh.get ch.val).since (s.get F.GNSS_RECOVER_RECOVER_T * msec) = false) : exec (.recoverTimeout ch) s = .next s := by
  show execRecoverTimeout ch s = _
  rw [execRecoverTimeout, if_neg]
  rcases h with h | h <;> simp [h]

/-! ## Detection (R166) -/

theorem code_lt (w : Nat) (i : Int) : code w i < 2 ^ w := by
  have hPos : (0 : Int) < (2 ^ w : Nat) := Int.natCast_pos.mpr (Nat.two_pow_pos w)
  have hLo := Int.emod_nonneg i hPos.ne'
  have hHi := Int.emod_lt_of_pos i hPos
  rw [code]
  omega

/-- A signed register reads, modulo 2^32, what was stored. -/
@[simp] theorem State.int_setInt_same (s : State) (a : Nat) (i : Int) : (s.setInt a i).int a = signed 32 (code 32 i) := by
  rw [State.int, State.setInt, State.nat_setNat_same, Nat.mod_eq_of_lt (code_lt 32 i)]

/-- A channel enters PULLIN. -/
theorem State.chPullin_effect (s : State) (n : Nat) :
    (s.chPullin n).chState n = 2 ∧ (s.chPullin n).get (F.GNSS_CH_SPC_ACT n) = 64 ∧
    (s.chPullin n).gnssCh = s.gnssCh.modify n
      (fun c => { c with fllDone := false, pllOn := false, locks := 0, goods := 0, since := s.clk }) ∧
    s.chPullin n = { s with regs := (s.chPullin n).regs, gnssCh := (s.chPullin n).gnssCh } := by
  obtain ⟨u, hu⟩ : ∃ u, u = s.put (F.GNSS_CH_STATE_STATE n) 2 := ⟨_, rfl⟩
  obtain ⟨v, hv⟩ : ∃ v, v = u.put (F.GNSS_CH_SPC_ACT n) 64 := ⟨_, rfl⟩
  have hPullin : s.chPullin n =
      v.modCh n (fun c => { c with fllDone := false, pllOn := false, locks := 0, goods := 0, since := v.clk }) := by
    rw [hv, hu, State.chPullin]
  have hFrame : v = { s with regs := v.regs } := by rw [hv, hu]; rfl
  have hApart : (F.GNSS_CH_STATE_STATE n).addr ≠ (F.GNSS_CH_SPC_ACT n).addr := by
    simp [F.GNSS_CH_STATE_STATE, F.GNSS_CH_SPC_ACT, R.GNSS_CH_STATE, R.GNSS_CH_SPC_ACT]
  rw [hPullin]
  refine ⟨?_, ?_, ?_, ?_⟩
  · rw [State.chState, State.get_modCh, hv, State.get_put_addr _ _ hApart, hu, State.get_put_same _ _ _ (chStateFields_place n).1]
    rfl
  · rw [State.get_modCh, hv, State.get_put_same _ (F.GNSS_CH_SPC_ACT n) _ (show 0 + 8 ≤ 32 by decide)]
    rfl
  · rw [State.modCh, hFrame]
  · rw [State.modCh, hFrame]

/-- The registers that a channel's measurement at a dump shows whatever its search finds. -/
def measuredRegs (n : Nat) : List Nat := [R.GNSS_CH_CORR n, R.GNSS_CH_CARR_NCO n, R.GNSS_CH_CODE_NCO n]

/-- What a search reads stands while the measurement is shown. -/
theorem State.Puts.search {s t : State} {n : Nat} (h : s.Puts t (measuredRegs n)) :
    t.chState n = s.chState n ∧ (∀ o, t.cellDetected n o = s.cellDetected n o) ∧ (∀ k, t.cellDoppler n k = s.cellDoppler n k) := by
  have hRead : ∀ f : Fld, f.addr ∉ measuredRegs n → t.get f = s.get f := fun f hf => h.kept.get hf
  have hState : t.chState n = s.chState n := hRead (F.GNSS_CH_STATE_STATE n) (by
    simp [measuredRegs, F.GNSS_CH_STATE_STATE, R.GNSS_CH_STATE, R.GNSS_CH_CORR, R.GNSS_CH_CARR_NCO, R.GNSS_CH_CODE_NCO])
  have hSig := hRead (F.GNSS_CH_CUR_SIGID n) (by
    simp [measuredRegs, F.GNSS_CH_CUR_SIGID, R.GNSS_CH_CUR, R.GNSS_CH_CORR, R.GNSS_CH_CARR_NCO, R.GNSS_CH_CODE_NCO])
  have hMode := hRead (F.GNSS_CH_CTRL_MODE n) (by
    simp [measuredRegs, F.GNSS_CH_CTRL_MODE, R.GNSS_CH_CTRL, R.GNSS_CH_CORR, R.GNSS_CH_CARR_NCO, R.GNSS_CH_CODE_NCO])
  have hAid : R.GNSS_CH_AID n ∉ measuredRegs n := by
    simp [measuredRegs, R.GNSS_CH_AID, R.GNSS_CH_CORR, R.GNSS_CH_CARR_NCO, R.GNSS_CH_CODE_NCO]
  have hCtr := hRead (F.GNSS_CH_AID_DOPP_CTR n) hAid
  have hHw := hRead (F.GNSS_CH_AID_DOPP_HW n) hAid
  have hSettings : ∀ f : Fld, f.addr < R.GNSS_CH_CTRL 0 → t.get f = s.get f := fun f hf => hRead f (by
    simp only [R.GNSS_CH_CTRL] at hf
    simp only [measuredRegs, R.GNSS_CH_CORR, R.GNSS_CH_CARR_NCO, R.GNSS_CH_CODE_NCO, List.mem_cons, List.not_mem_nil, or_false]
    omega)
  have hWin := hSettings F.GNSS_ACQ_WIN_HW (by decide)
  have hAcq := hSettings F.GNSS_ACQ_CTRL_ACQ_CN0 (by decide)
  have hCh : t.gnssCh = s.gnssCh := by rw [h.frame]
  refine ⟨hState, fun o => ?_, fun k => ?_⟩
  · simp only [State.cellDetected, State.chWindow, hSig, hMode, hHw, hWin, hAcq]
  · simp only [State.cellDoppler, State.chCentre, State.gets, hCh, hSig, hMode, hCtr]

theorem State.chObserve_detects {s : State} {o : DumpObs} (vis : List (Byte × Byte)) (hCh : o.ch.val < s.nGch)
    (hAcq : s.chState o.ch.val = 1) (hCell : s.cellDetected o.ch.val o = true) :
    ∃ u : State, s.Puts u (measuredRegs o.ch.val) ∧ s.chObserve vis o = ((u.chPullin o.ch.val).setInt (R.GNSS_CH_DOPP o.ch.val)
      (s.cellDoppler o.ch.val o.cell.2)).modCh o.ch.val (fun c => { c with tried := [] }) := by
  obtain ⟨v, hv⟩ : ∃ v, v = (s.put (F.GNSS_CH_CORR_I o.ch.val) o.i.toNat).put (F.GNSS_CH_CORR_Q o.ch.val) o.q.toNat := ⟨_, rfl⟩
  obtain ⟨u, hu⟩ : ∃ u, u = (v.setWord (R.GNSS_CH_CARR_NCO o.ch.val) o.carr).setWord (R.GNSS_CH_CODE_NCO o.ch.val) o.code := ⟨_, rfl⟩
  have hSums : s.Puts v (measuredRegs o.ch.val) := by
    rw [hv]
    exact .trans (.put s _ (by simp [measuredRegs, F.GNSS_CH_CORR_I])) (.put _ _ (by simp [measuredRegs, F.GNSS_CH_CORR_Q]))
  have hNco : v.Puts u (measuredRegs o.ch.val) := by
    rw [hu]
    exact ⟨rfl, .trans (.setWord v _ (by simp [measuredRegs])) (.setWord _ _ (by simp [measuredRegs]))⟩
  obtain ⟨hStateV, -, -⟩ := hSums.search
  obtain ⟨hState, hDetected, hDoppler⟩ := (hSums.trans hNco).search
  refine ⟨u, hSums.trans hNco, ?_⟩
  have hWhen : ∀ f, u.when ((1 : Nat) != 1) f = u := fun _ => rfl
  rw [State.chObserve, if_neg (by simp [State.chActive, hAcq, hCh]), ← hv, if_neg (by simp [hStateV, hAcq])]
  simp only [← hu, hWhen, hState, hAcq, hDetected, hCell, hDoppler, if_true]

/-- The clause on a cell that the search detects. -/
theorem chObserve_effect {vis : List (Byte × Byte)} {o : DumpObs} {s : State} (hCh : o.ch.val < s.nGch)
    (hAcq : s.chState o.ch.val = 1) (hCell : s.cellDetected o.ch.val o = true) :
    ∃ t, s.chObserve vis o = t ∧ t.chState o.ch.val = 2 ∧ t.get (F.GNSS_CH_SPC_ACT o.ch.val) = 64 ∧
      (t.gnssCh.get o.ch.val).since = s.clk ∧ (t.gnssCh.get o.ch.val).pllOn = false ∧
      t.int (R.GNSS_CH_DOPP o.ch.val) = signed 32 (code 32 (s.cellDoppler o.ch.val o.cell.2)) ∧
      t = { s with regs := t.regs, gnssCh := t.gnssCh } := by
  obtain ⟨u, hShown, hRun⟩ := State.chObserve_detects vis hCh hAcq hCell
  obtain ⟨hState, hSpacing, hChannel, hFrame⟩ := u.chPullin_effect o.ch.val
  generalize u.chPullin o.ch.val = v at *
  obtain ⟨w, hw⟩ : ∃ w, w = v.setInt (R.GNSS_CH_DOPP o.ch.val) (s.cellDoppler o.ch.val o.cell.2) := ⟨_, rfl⟩
  have hDopp : v.Puts w [R.GNSS_CH_DOPP o.ch.val] := hw ▸ ⟨rfl, .setWord v _ (.head _)⟩
  rw [← hw] at hRun
  refine ⟨_, hRun, ?_, ?_, ?_, ?_, ?_, ?_⟩
  · rw [State.chState, State.get_modCh, hDopp.kept.get (by simp [F.GNSS_CH_STATE_STATE, R.GNSS_CH_STATE, R.GNSS_CH_DOPP])]
    exact hState
  · rw [State.get_modCh, hDopp.kept.get (by simp [F.GNSS_CH_SPC_ACT, R.GNSS_CH_SPC_ACT, R.GNSS_CH_DOPP])]
    exact hSpacing
  · rw [State.modCh, Table.get_modify_same, hDopp.frame, hChannel, Table.get_modify_same, hShown.frame]
  · rw [State.modCh, Table.get_modify_same, hDopp.frame, hChannel, Table.get_modify_same]
  · rw [State.int, State.nat_modCh, ← State.int, hw, State.int_setInt_same]
  · rw [State.modCh, hDopp.frame, hFrame, hShown.frame]

end Sys2Proof.Machine
end

section
/-! Host writes of registers of GNSS, of a channel's mode and signal among them (R17, R60, R174, R178, R182 to R184). -/

namespace Sys2Proof.Machine

open Sys2Proof

/-! ## Writing the same state twice -/

section
variable {α : Type}

theorem Table.drop_drop (k : Nat) : ∀ t : List (Nat × α), Table.drop k (Table.drop k t) = Table.drop k t
  | [] => rfl
  | (j, v) :: t => by
    by_cases hj : j = k
    · simp [Table.drop, hj, drop_drop k t]
    · simp [Table.drop, hj, drop_drop k t]

theorem Table.put_put (k : Nat) (v : α) : ∀ t : List (Nat × α), Table.put k v (Table.put k v t) = Table.put k v t
  | [] => by simp [Table.put]
  | (j, w) :: t => by
    by_cases hLt : k < j
    · simp [Table.put, hLt]
    by_cases hEq : k = j
    · simp [Table.put, hEq]
    · simp [Table.put, hLt, hEq, put_put k v t]

theorem Table.set_set [Inhabited α] [DecidableEq α] (t : Table α) (k : Nat) (v : α) : (t.set k v).set k v = t.set k v := by
  unfold Table.set Table.write
  split
  · exact Table.drop_drop k t
  · exact Table.put_put k v t

theorem Table.modify_modify [Inhabited α] [DecidableEq α] (t : Table α) (k : Nat) {f : α → α} (hf : ∀ x, f (f x) = f x) :
    (t.modify k f).modify k f = t.modify k f := by
  unfold Table.modify
  rw [Table.get_set_same, hf, Table.set_set]

end

/-! ## A host write of a register of GNSS -/

/-- A register of GNSS behind the header that stores what its fields take in every setting. -/
structure GnssWord (a : Nat) : Prop where
  region : a / 65536 = 7
  body : 0x24 ≤ a % 65536
  setting : a ≠ R.GNSS_FE_CTRL
  carr : arrIdx a R.GNSS_CH_CARR_NCO 192 = none
  code : arrIdx a R.GNSS_CH_CODE_NCO 192 = none

namespace GnssWord

variable {a : Nat}

/-- No setting and no personality takes bits of such a register from the host. -/
theorem unmasked (h : GnssWord a) (s : State) :
    reservedBits a = 0 ∧ s.absentBits a = 0 ∧ s.roNow a = 0 ∧ s.boundBits a = 0 ∧ s.safeHolds a = 0 := by
  obtain ⟨hRegion, hBody, hFe, hCarr, hCode⟩ := h
  have hBlock : blockOf (a / 65536) = some .gnss := by rw [hRegion]; rfl
  have hPend : a % 65536 ≠ 0x010 := by omega
  have hEn : a % 65536 ≠ 0x014 := by omega
  have hEvt : ¬ (a = R.SOL_EVT_HI ∨ a = R.SOL_EVT_HI_EN) := by simp only [R.SOL_EVT_HI, R.SOL_EVT_HI_EN]; omega
  have hPair : ¬ (0xC2000 ≤ a ∧ a < 0xC3800 ∧ a % 128 = R.SOL_CH_CFG 1 % 128) := by omega
  have hNav : a ≠ R.NAV_CTRL := by simp only [R.NAV_CTRL]; omega
  have hDuty : arrIdx a R.HSW_PG_DUTY 6 = none := arrIdx_eq_none_of_apart (by decide) (by simp only [R.HSW_PG_DUTY]; omega)
  have hCopy : ¬ (0x118000 ≤ a ∧ a < 0x120000 ∧ 0x40 ≤ a % 128) := by omega
  have hCfgEvt : a ≠ H.evt .cfg := by
    have : H.evt .cfg = 0x60010 := rfl
    omega
  have hPwrEvt : a ≠ H.evt .pwr := by
    have : H.evt .pwr = 0x30010 := rfl
    omega
  exact ⟨by simp only [reservedBits, hBlock, hPend, hEn, hEvt, hPair, if_false],
    by simp [State.absentBits, hFe, hNav],
    by simp [State.roNow, State.fixedNow, State.ncoFixed, State.readCopyAt, hCarr, hCode, hDuty, hCopy],
    if_neg hCopy, by simp [State.safeHolds, hCfgEvt, hPwrEvt]⟩

/-- A field that a write stores takes the value's bits. -/
theorem takeField_written (h : GnssWord a) {lo w : Nat} (hw : lo + w ≤ 32)
    (hStored : ∀ k < w, nbit (bitsWhere (fieldsAt a) fun f => storedCodes.contains f.acc) (lo + k) = true) (s : State) (v : Word) :
    takeField (s.written a (BitVec.allOnes 32) v) lo w = takeField v lo w := by
  obtain ⟨hReserved, hAbsent, hRo, hBound, -⟩ := h.unmasked s
  apply Nat.eq_of_testBit_eq
  intro k
  rw [testBit_takeField, testBit_takeField]
  by_cases hk : k < w
  · have hFree : nbit 0 (lo + k) = false := by rw [nbit_eq_testBit, Nat.zero_testBit]
    have hIs : s.bitIs a (lo + k) storedCodes = true := by
      rw [State.bitIs, hStored k hk, hReserved, hAbsent, hRo, Nat.or_self, Nat.or_self, hFree]
      rfl
    rw [(s.written_bits a v).1 (lo + k) (by omega) hIs (by rw [hBound]; exact hFree)]
  · rw [decide_eq_false hk, Bool.false_and, Bool.false_and]

theorem change (h : GnssWord a) (s : State) (w : Word) : s.change a w = if s.word a = w then s else
    ((s.setWord a w).onIdx a R.GNSS_CH_CTRL 192 (fun s n => s.chWritten n false)).onIdx a R.GNSS_CH_SIG 192 (fun s n => s.chWritten n true) := by
  obtain ⟨hRegion, hBody, hFe, -, -⟩ := h
  have hCtrl : ¬ a % 65536 = 8 := by omega
  by_cases hw : s.word a = w
  · rw [State.change, if_pos hw, if_pos hw]
  · rw [State.change, if_neg hw, if_neg hw, State.onChange, State.word_setWord_same, if_neg hw, if_neg hCtrl, State.blockChanged,
      hRegion]
    exact if_neg hFe

/-- No register of FBK is one of GNSS. -/
theorem senseEffect {w : WordWrite} (h : GnssWord w.a) (s : State) (hit : Nat) : s.senseEffect w hit =
    (let s := s.onIdx w.a R.GNSS_CH_CTRL 192 (fun s n => s.chWritten n false)
     let s := s.onIdx w.a R.GNSS_CH_SIG 192 (fun s n => s.chWritten n true)
     let s := if w.a = R.GNSS_SNAP_CTRL ∧ nbit w.value 0 then s.snapGo else s
     if w.a = R.GNSS_SNAP_CMD ∧ w.carried ≠ 0 then s.snapCommand w.value else s) := by
  obtain ⟨hRegion, -, -, -, -⟩ := h
  have hNone : ∀ (r : Nat → Nat) (c : Nat), r 0 < r 1 → w.a < r 0 → ∀ (s : State) f, s.onIdx w.a r c f = s := fun r c hr hLt s f => by
    rw [State.onIdx, arrIdx_eq_none_of_apart hr (.inl hLt)]
  have hPos := hNone R.FBK_ENC_POS 8 (by decide) (by simp only [R.FBK_ENC_POS]; omega)
  have hZ := hNone R.FBK_ENC_ZCFG 8 (by decide) (by simp only [R.FBK_ENC_ZCFG]; omega)
  have hCmp : ∀ n, ∀ (s : State) f, s.onIdx w.a (R.FBK_CMP_CTRL n) 16 f = s := fun n =>
    hNone (R.FBK_CMP_CTRL n) 16 (by simp only [R.FBK_CMP_CTRL]; omega) (by simp only [R.FBK_CMP_CTRL]; omega)
  rw [State.senseEffect]
  simp only [hPos, hZ, hCmp]
  exact State.each_fixed _ fun _ _ => rfl

theorem hostSet (h : GnssWord a) {s : State} {v : Word} (hAdmits : s.admitsSet a v.toNat) :
    s.hostSet a v.toNat = ((s.change a (s.written a (BitVec.allOnes 32) v)).senseEffect (s.wordWrite a (BitVec.allOnes 32) v)
      (BitVec.allOnes 32 &&& v).toNat).settled := by
  rw [State.admitsSet, BitVec.ofNat_toNat, BitVec.setWidth_eq] at hAdmits
  obtain ⟨b, hb, hWrite⟩ := State.hostWrite_of_admits hAdmits
  rw [h.region] at hb
  obtain rfl : Block.gnss = b := Option.some.inj hb
  have hHeader : ¬ a % 65536 < 0x24 := by have := h.body; omega
  rw [State.hostSet, BitVec.ofNat_toNat, BitVec.setWidth_eq, hWrite]
  exact congrArg State.settled (if_neg hHeader)

end GnssWord

/-! ## MODE and the signal of a channel (R174) -/

theorem gnssWord_chCtrl : ∀ n < 192, GnssWord (R.GNSS_CH_CTRL n) ∧ arrIdx (R.GNSS_CH_CTRL n) R.GNSS_CH_CTRL 192 = some n ∧
    arrIdx (R.GNSS_CH_CTRL n) R.GNSS_CH_SIG 192 = none := by
  have hArr : ∀ n < 192, arrIdx (R.GNSS_CH_CTRL n) R.GNSS_CH_CARR_NCO 192 = none ∧ arrIdx (R.GNSS_CH_CTRL n) R.GNSS_CH_CODE_NCO 192 = none ∧
      arrIdx (R.GNSS_CH_CTRL n) R.GNSS_CH_CTRL 192 = some n ∧ arrIdx (R.GNSS_CH_CTRL n) R.GNSS_CH_SIG 192 = none := by
    decide +kernel
  intro n hn
  obtain ⟨hCarr, hCode, hOwn, hOther⟩ := hArr n hn
  exact ⟨⟨by simp only [R.GNSS_CH_CTRL]; omega, by simp only [R.GNSS_CH_CTRL]; omega,
    by simp only [R.GNSS_CH_CTRL, R.GNSS_FE_CTRL]; omega, hCarr, hCode⟩, hOwn, hOther⟩

theorem gnssWord_chSig : ∀ n < 192, GnssWord (R.GNSS_CH_SIG n) ∧ arrIdx (R.GNSS_CH_SIG n) R.GNSS_CH_CTRL 192 = none ∧
    arrIdx (R.GNSS_CH_SIG n) R.GNSS_CH_SIG 192 = some n := by
  have hArr : ∀ n < 192, arrIdx (R.GNSS_CH_SIG n) R.GNSS_CH_CARR_NCO 192 = none ∧ arrIdx (R.GNSS_CH_SIG n) R.GNSS_CH_CODE_NCO 192 = none ∧
      arrIdx (R.GNSS_CH_SIG n) R.GNSS_CH_CTRL 192 = none ∧ arrIdx (R.GNSS_CH_SIG n) R.GNSS_CH_SIG 192 = some n := by
    decide +kernel
  intro n hn
  obtain ⟨hCarr, hCode, hOther, hOwn⟩ := hArr n hn
  exact ⟨⟨by simp only [R.GNSS_CH_SIG]; omega, by simp only [R.GNSS_CH_SIG]; omega,
    by simp only [R.GNSS_CH_SIG, R.GNSS_FE_CTRL]; omega, hCarr, hCode⟩, hOther, hOwn⟩

/-- MODE, and the PRN of a signal, are stored. -/
theorem chFields_stored : ∀ n < 192,
    (∀ k < 2, nbit (bitsWhere (fieldsAt (R.GNSS_CH_CTRL n)) fun f => storedCodes.contains f.acc) (0 + k) = true) ∧
    (∀ k < 8, nbit (bitsWhere (fieldsAt (R.GNSS_CH_SIG n)) fun f => storedCodes.contains f.acc) (0 + k) = true) := by
  decide +kernel

theorem State.modCh_modCh (s : State) (n : Nat) {f : GnssCh → GnssCh} (hf : ∀ c, f (f c) = f c) :
    (s.modCh n f).modCh n f = s.modCh n f :=
  congrArg (fun t => ({ s with gnssCh := t } : State)) (s.gnssCh.modify_modify n hf)

/-- A host change that is noted twice is noted once. -/
theorem State.chWritten_chWritten (s : State) (n : Nat) (sig : Bool) : (s.chWritten n sig).chWritten n sig = s.chWritten n sig := by
  by_cases h : (!sig || decide (2 ≤ s.get (F.GNSS_CH_CTRL_MODE n))) = true
  · have hOnce : s.chWritten n sig = s.modCh n (fun c => { c with hostPend := true }) := if_pos h
    rw [hOnce]
    refine (if_pos (by rw [State.get_modCh]; exact h)).trans ?_
    exact s.modCh_modCh n fun _ => rfl
  · have hNone : s.chWritten n sig = s := if_neg h
    rw [hNone, hNone]

theorem State.onIdx_of_some {s : State} {a c n : Nat} {r : Nat → Nat} (h : arrIdx a r c = some n) (f : State → Nat → State) :
    s.onIdx a r c f = f s n := by
  rw [State.onIdx, h]

theorem State.onIdx_of_none {s : State} {a c : Nat} {r : Nat → Nat} (h : arrIdx a r c = none) (f : State → Nat → State) :
    s.onIdx a r c f = s := by
  rw [State.onIdx, h]

/-- The register holds the word, and the channel's host change waits. -/
theorem State.chWritten_stored (s : State) (n : Nat) (sig : Bool) (a : Nat) (w : Word) :
    (if s.word a = w then s else (s.setWord a w).chWritten n sig).chWritten n sig = (s.stored a w).chWritten n sig := by
  unfold State.stored
  split
  · rfl
  · exact (s.setWord a w).chWritten_chWritten n sig

theorem exec_gnssChModeWrite (ch : Fin 192) {sig : Bool} {v : Word} {s : State} {a : Nat}
    (ha : a = if sig then R.GNSS_CH_SIG ch.val else R.GNSS_CH_CTRL ch.val) (hAdmits : s.admitsSet a v.toNat) :
    exec (.gnssChModeWrite ch sig v) s = .next ((s.stored a (s.written a (BitVec.allOnes 32) v)).chWritten ch.val sig).settled := by
  show execGnssChModeWrite ch sig v s = _
  rw [execGnssChModeWrite, ← ha]
  refine congrArg Host.Outcome.next ?_
  cases sig with
  | false =>
    obtain ⟨hWord, hOwn, hOther⟩ := gnssWord_chCtrl ch.val ch.isLt
    obtain rfl : a = R.GNSS_CH_CTRL ch.val := ha
    have hGo : R.GNSS_CH_CTRL ch.val ≠ R.GNSS_SNAP_CTRL := by have := ch.isLt; simp only [R.GNSS_CH_CTRL, R.GNSS_SNAP_CTRL]; omega
    have hCmd : R.GNSS_CH_CTRL ch.val ≠ R.GNSS_SNAP_CMD := by have := ch.isLt; simp only [R.GNSS_CH_CTRL, R.GNSS_SNAP_CMD]; omega
    rw [hWord.hostSet hAdmits, GnssWord.senseEffect (w := s.wordWrite (R.GNSS_CH_CTRL ch.val) (BitVec.allOnes 32) v) hWord, hWord.change]
    simp only [State.wordWrite, State.onIdx_of_some hOwn, State.onIdx_of_none hOther, hGo, hCmd, false_and, if_false, State.chWritten_stored]
  | true =>
    obtain ⟨hWord, hOther, hOwn⟩ := gnssWord_chSig ch.val ch.isLt
    obtain rfl : a = R.GNSS_CH_SIG ch.val := ha
    have hGo : R.GNSS_CH_SIG ch.val ≠ R.GNSS_SNAP_CTRL := by have := ch.isLt; simp only [R.GNSS_CH_SIG, R.GNSS_SNAP_CTRL]; omega
    have hCmd : R.GNSS_CH_SIG ch.val ≠ R.GNSS_SNAP_CMD := by have := ch.isLt; simp only [R.GNSS_CH_SIG, R.GNSS_SNAP_CMD]; omega
    rw [hWord.hostSet hAdmits, GnssWord.senseEffect (w := s.wordWrite (R.GNSS_CH_SIG ch.val) (BitVec.allOnes 32) v) hWord, hWord.change]
    simp only [State.wordWrite, State.onIdx_of_some hOwn, State.onIdx_of_none hOther, hGo, hCmd, false_and, if_false, State.chWritten_stored]

/-- A register's word is stored and nothing else changes. -/
theorem State.stored_effect (s : State) (a : Nat) (w : Word) :
    (s.stored a w).word a = w ∧ s.stored a w = { s with regs := (s.stored a w).regs } ∧ s.regsKept (s.stored a w) [a] := by
  unfold State.stored
  split
  · next h => exact ⟨h, rfl, .refl s _⟩
  · exact ⟨s.word_setWord_same a w, rfl, .setWord s w (.head _)⟩

/-- The clause on a write of MODE. -/
theorem chModeWrite_effect {ch : Fin 192} {v : Word} {s : State} (hAdmits : s.admitsSet (R.GNSS_CH_CTRL ch.val) v.toNat) :
    ∃ t, exec (.gnssChModeWrite ch false v) s = .next t ∧ t.lastErr = none ∧
      t.get (F.GNSS_CH_CTRL_MODE ch.val) = takeField v (F.GNSS_CH_CTRL_MODE ch.val).lo 2 ∧
      t.gnssCh = s.gnssCh.modify ch.val (fun c => { c with hostPend := true }) ∧
      t = { s with regs := t.regs, gnssCh := t.gnssCh, parity := none, lastErr := none } ∧
      s.regsKept t [R.GNSS_CH_CTRL ch.val] := by
  obtain ⟨hGnss, -, -⟩ := gnssWord_chCtrl ch.val ch.isLt
  obtain ⟨hWord, hFrame, hKept⟩ := s.stored_effect (R.GNSS_CH_CTRL ch.val) (s.written (R.GNSS_CH_CTRL ch.val) (BitVec.allOnes 32) v)
  have hRun := exec_gnssChModeWrite ch (sig := false) (a := R.GNSS_CH_CTRL ch.val) rfl hAdmits
  generalize s.stored (R.GNSS_CH_CTRL ch.val) (s.written (R.GNSS_CH_CTRL ch.val) (BitVec.allOnes 32) v) = u at *
  have hPend : u.chWritten ch.val false = u.modCh ch.val (fun c => { c with hostPend := true }) := if_pos rfl
  rw [hPend] at hRun
  refine ⟨_, hRun, rfl, ?_, ?_, ?_, hKept.of_regs rfl⟩
  · show takeField (u.word (R.GNSS_CH_CTRL ch.val)) 0 2 = _
    rw [hWord, hGnss.takeField_written (by decide) (chFields_stored ch.val ch.isLt).1]
    rfl
  · rw [State.settled, State.modCh, hFrame]
  · rw [State.settled, State.modCh, hFrame]

/-- The clause on a write of the signal. -/
theorem chSigWrite_effect {ch : Fin 192} {v : Word} {s : State} (hAdmits : s.admitsSet (R.GNSS_CH_SIG ch.val) v.toNat) :
    ∃ t, exec (.gnssChModeWrite ch true v) s = .next t ∧ t.lastErr = none ∧
      t.get (F.GNSS_CH_SIG_PRN ch.val) = takeField v (F.GNSS_CH_SIG_PRN ch.val).lo (F.GNSS_CH_SIG_PRN ch.val).w ∧
      t.gnssCh = (if 2 ≤ s.get (F.GNSS_CH_CTRL_MODE ch.val) then s.gnssCh.modify ch.val (fun c => { c with hostPend := true })
        else s.gnssCh) ∧
      t = { s with regs := t.regs, gnssCh := t.gnssCh, parity := none, lastErr := none } ∧
      s.regsKept t [R.GNSS_CH_SIG ch.val] := by
  obtain ⟨hGnss, -, -⟩ := gnssWord_chSig ch.val ch.isLt
  obtain ⟨hWord, hFrame, hKept⟩ := s.stored_effect (R.GNSS_CH_SIG ch.val) (s.written (R.GNSS_CH_SIG ch.val) (BitVec.allOnes 32) v)
  have hRun := exec_gnssChModeWrite ch (sig := true) (a := R.GNSS_CH_SIG ch.val) rfl hAdmits
  generalize s.stored (R.GNSS_CH_SIG ch.val) (s.written (R.GNSS_CH_SIG ch.val) (BitVec.allOnes 32) v) = u at *
  have hMode : u.get (F.GNSS_CH_CTRL_MODE ch.val) = s.get (F.GNSS_CH_CTRL_MODE ch.val) :=
    hKept.get (by simp [F.GNSS_CH_CTRL_MODE, R.GNSS_CH_CTRL, R.GNSS_CH_SIG])
  have hPrn : takeField (u.word (R.GNSS_CH_SIG ch.val)) 0 8 = takeField v 0 8 := by
    rw [hWord, hGnss.takeField_written (by decide) (chFields_stored ch.val ch.isLt).2]
  by_cases hSignal : 2 ≤ s.get (F.GNSS_CH_CTRL_MODE ch.val)
  · have hPend : u.chWritten ch.val true = u.modCh ch.val (fun c => { c with hostPend := true }) := if_pos (by simp [hMode, hSignal])
    rw [hPend] at hRun
    refine ⟨_, hRun, rfl, hPrn, ?_, ?_, hKept.of_regs rfl⟩
    · rw [if_pos hSignal, State.settled, State.modCh, hFrame]
    · rw [State.settled, State.modCh, hFrame]
  · have hNone : u.chWritten ch.val true = u := if_neg (by simp [hMode, hSignal])
    rw [hNone] at hRun
    refine ⟨_, hRun, rfl, hPrn, ?_, ?_, hKept.of_regs rfl⟩
    · rw [if_neg hSignal, State.settled, hFrame]
    · rw [State.settled, hFrame]

/-- Settles O25: each channel works on registers and bookkeeping of its own (`State.Moves`), so what a dump or an assessment does
to one is what its own turn does. -/
theorem channelsSearchTrackAndLoseLock : Obligations.ChannelsSearchTrackAndLoseLock :=
  ⟨fun sub vis _ => correlatorDump_effect sub vis,
  fun _ _ => lockAssessment_effect,
  fun _ _ => pullinTimeout_effect,
  fun _ _ => recoverTimeout_effect,
  fun _ _ => pullinTimeout_early,
  fun _ _ => recoverTimeout_early,
  fun _ _ _ => chObserve_effect,
  fun _ _ _ => chModeWrite_effect,
  fun _ _ _ => chSigWrite_effect⟩

end Sys2Proof.Machine
end

section
/-! The snapshot unit (R178, R180 to R184, R195). -/

namespace Sys2Proof.Machine

open Sys2Proof

/-! ## GNSS_SNAP_STAT -/

theorem State.Puts.setWord (s : State) {a : Nat} (w : Word) {as : List Nat} (h : a ∈ as) : s.Puts (s.setWord a w) as :=
  ⟨rfl, .setWord s w h⟩

/-- The unit is busy with operation `op`. -/
def State.snapBusy (s : State) (op : Nat) : State := (s.put F.GNSS_SNAP_STAT_BUSY 1).put F.GNSS_SNAP_STAT_OP op

theorem State.snapBusy_effect (s : State) {op : Nat} (hOp : op < 4) :
    (s.snapBusy op).flag F.GNSS_SNAP_STAT_BUSY = true ∧ (s.snapBusy op).get F.GNSS_SNAP_STAT_OP = op ∧
    s.Puts (s.snapBusy op) [R.GNSS_SNAP_STAT] := by
  refine ⟨?_, ?_, .trans (.put s 1 (.head _)) (.put _ op (.head _))⟩
  · rw [State.snapBusy, State.flag_put_of_apart _ _ (.inr (by decide)), State.flag_put_same _ (by decide)]
    rfl
  · rw [State.snapBusy, State.get_put_same _ _ _ (by decide)]
    exact Nat.mod_eq_of_lt hOp

/-- The end of an operation clears BUSY and OP, and leaves the pages shown. -/
theorem State.snapOver_effect (s : State) :
    s.snapOver.flag F.GNSS_SNAP_STAT_BUSY = false ∧ s.snapOver.get F.GNSS_SNAP_STAT_OP = 0 ∧
    s.snapOver.get F.GNSS_SNAP_STAT_PAGES = s.get F.GNSS_SNAP_STAT_PAGES ∧ s.snapOver.gnss.drain = [] ∧
    s.snapOver = { s with regs := s.snapOver.regs, gnss := s.snapOver.gnss } ∧ s.regsKept s.snapOver [R.GNSS_SNAP_STAT] := by
  obtain ⟨u, hu⟩ : ∃ u, u = (s.put F.GNSS_SNAP_STAT_BUSY 0).put F.GNSS_SNAP_STAT_OP 0 := ⟨_, rfl⟩
  have hPuts : s.Puts u [R.GNSS_SNAP_STAT] := hu ▸ .trans (.put s 0 (.head _)) (.put _ 0 (.head _))
  have hOver : s.snapOver = { u with gnss := { u.gnss with started := false, inc := false, stop := false, cancel := false, drain := [] } } := by
    rw [hu]
    rfl
  have hBusy : u.flag F.GNSS_SNAP_STAT_BUSY = false := by
    rw [hu, State.flag_put_of_apart _ _ (.inr (by decide)), State.flag_put_same _ (by decide)]
    rfl
  have hOp : u.get F.GNSS_SNAP_STAT_OP = 0 := by
    rw [hu, State.get_put_same _ _ _ (by decide)]
    rfl
  have hPages : u.get F.GNSS_SNAP_STAT_PAGES = s.get F.GNSS_SNAP_STAT_PAGES := by
    rw [hu, State.get_put_of_apart _ _ (.inr (by decide)), State.get_put_of_apart _ _ (.inr (by decide))]
  rw [hOver]
  exact ⟨hBusy, hOp, hPages, rfl, by rw [hPuts.frame], hPuts.kept.of_regs rfl⟩

/-! ## GO (R178, R180) -/

/-- Accepted GO: the capture is shown as begun. -/
theorem State.snapGo_effect (s : State) :
    s.snapGo.flag F.GNSS_SNAP_STAT_BUSY = true ∧ s.snapGo.get F.GNSS_SNAP_STAT_OP = 1 ∧ s.snapGo.get F.GNSS_SNAP_STAT_PAGES = 0 ∧
    s.snapGo.flag F.GNSS_SNAP_STAT_INC = false ∧
    s.snapGo.gnss = { s.gnss with
      started := false, inc := false, stop := false, cancel := false
      go := ⟨s.get F.GNSS_SNAP_CTRL_PATHS, s.get F.GNSS_SNAP_CTRL_START, s.flag F.GNSS_SNAP_CTRL_STOP_JAM, s.get F.GNSS_SNAP_LEN_LEN, 0⟩ } ∧
    s.snapGo = { s with regs := s.snapGo.regs, gnss := s.snapGo.gnss } ∧ s.regsKept s.snapGo [R.GNSS_SNAP_STAT] := by
  obtain ⟨u, hu⟩ : ∃ u, u = (((s.put F.GNSS_SNAP_STAT_BUSY 1).put F.GNSS_SNAP_STAT_INC 0).put F.GNSS_SNAP_STAT_OP 1).put
    F.GNSS_SNAP_STAT_PAGES 0 := ⟨_, rfl⟩
  have hPuts : s.Puts u [R.GNSS_SNAP_STAT] :=
    hu ▸ .trans (.trans (.trans (.put s 1 (.head _)) (.put _ 0 (.head _))) (.put _ 1 (.head _))) (.put _ 0 (.head _))
  have hGo : s.snapGo = { u with gnss := { u.gnss with
      started := false, inc := false, stop := false, cancel := false
      go := ⟨u.get F.GNSS_SNAP_CTRL_PATHS, u.get F.GNSS_SNAP_CTRL_START, u.flag F.GNSS_SNAP_CTRL_STOP_JAM,
        u.get F.GNSS_SNAP_LEN_LEN, 0⟩ } } := by
    rw [hu]
    rfl
  have hBusy : u.flag F.GNSS_SNAP_STAT_BUSY = true := by
    rw [hu, State.flag_put_of_apart _ _ (.inr (by decide)), State.flag_put_of_apart _ _ (.inr (by decide)),
      State.flag_put_of_apart _ _ (.inr (by decide)), State.flag_put_same _ (by decide)]
    rfl
  have hInc : u.flag F.GNSS_SNAP_STAT_INC = false := by
    rw [hu, State.flag_put_of_apart _ _ (.inr (by decide)), State.flag_put_of_apart _ _ (.inr (by decide)),
      State.flag_put_same _ (by decide)]
    rfl
  have hOp : u.get F.GNSS_SNAP_STAT_OP = 1 := by
    rw [hu, State.get_put_of_apart _ _ (.inr (by decide)), State.get_put_same _ _ _ (by decide)]
    rfl
  have hPages : u.get F.GNSS_SNAP_STAT_PAGES = 0 := by
    rw [hu, State.get_put_same _ _ _ (by decide)]
    rfl
  rw [hGo]
  refine ⟨hBusy, hOp, hPages, hInc, ?_, by rw [hPuts.frame], hPuts.kept.of_regs rfl⟩
  rw [hPuts.kept.get (by decide), hPuts.kept.get (by decide), hPuts.kept.get (by decide), hPuts.kept.flag (by decide), hPuts.frame]

/-- GNSS_SNAP_CTRL and GNSS_SNAP_CMD are registers of no array. -/
theorem gnssWord_snap : ∀ a ∈ [R.GNSS_SNAP_CTRL, R.GNSS_SNAP_CMD], GnssWord a ∧ arrIdx a R.GNSS_CH_CTRL 192 = none ∧
    arrIdx a R.GNSS_CH_SIG 192 = none := by
  have hPlace : ∀ a ∈ [R.GNSS_SNAP_CTRL, R.GNSS_SNAP_CMD], a / 65536 = 7 ∧ 0x24 ≤ a % 65536 ∧ a ≠ R.GNSS_FE_CTRL ∧
      arrIdx a R.GNSS_CH_CARR_NCO 192 = none ∧ arrIdx a R.GNSS_CH_CODE_NCO 192 = none ∧ arrIdx a R.GNSS_CH_CTRL 192 = none ∧
      arrIdx a R.GNSS_CH_SIG 192 = none := by
    decide +kernel
  intro a ha
  obtain ⟨hRegion, hBody, hFe, hCarr, hCode, hCtrl, hSig⟩ := hPlace a ha
  exact ⟨⟨hRegion, hBody, hFe, hCarr, hCode⟩, hCtrl, hSig⟩

/-- An accepted write of one of the two. -/
theorem State.hostSet_snap {s : State} {a : Nat} (ha : a ∈ [R.GNSS_SNAP_CTRL, R.GNSS_SNAP_CMD]) {v : Word} (hAdmits : s.admitsSet a v.toNat) :
    s.hostSet a v.toNat =
      (let w := s.wordWrite a (BitVec.allOnes 32) v
       let s := s.stored a (s.written a (BitVec.allOnes 32) v)
       let s := if a = R.GNSS_SNAP_CTRL ∧ nbit w.value 0 then s.snapGo else s
       if a = R.GNSS_SNAP_CMD ∧ w.carried ≠ 0 then s.snapCommand w.value else s).settled := by
  obtain ⟨hWord, hCtrl, hSig⟩ := gnssWord_snap a ha
  rw [hWord.hostSet hAdmits, GnssWord.senseEffect (w := s.wordWrite a (BitVec.allOnes 32) v) hWord, hWord.change]
  simp only [State.onIdx_of_none hCtrl, State.onIdx_of_none hSig, State.wordWrite]
  rfl

theorem snapCtrl_fieldsAt : fieldsAt R.GNSS_SNAP_CTRL = [⟨16, 4, .rw, false, 0, .any, false⟩,
    ⟨8, 2, .rw, false, 0, .within [(0, 2)], false⟩, ⟨4, 1, .rw, false, 0, .any, false⟩, ⟨0, 1, .wo, false, 0, .any, false⟩] := by
  decide +kernel

/-- GO is bit 0 of the value. -/
theorem State.wordWrite_snapCtrl (s : State) (v : Word) :
    nbit (s.wordWrite R.GNSS_SNAP_CTRL (BitVec.allOnes 32) v).value 0 = v.getLsbD 0 := by
  have hBits : bitsWhere (fieldsAt R.GNSS_SNAP_CTRL)
      (fun f => f.acc == .wo && (f.bits &&& (BitVec.allOnes 32).toNat) != 0) = 1 := by
    rw [snapCtrl_fieldsAt]
    decide +kernel
  rw [State.wordWrite, hBits]
  show nbit ((v &&& BitVec.allOnes 32).toNat &&& 1) 0 = _
  rw [BitVec.and_allOnes, nbit_eq_testBit, Nat.testBit_and, BitVec.testBit_toNat]
  simp

theorem exec_snapGo {v : Word} {s : State} (hAdmits : s.admitsSet R.GNSS_SNAP_CTRL v.toNat) : exec (.snapGo v) s =
    .next (if v.getLsbD 0 then (s.stored R.GNSS_SNAP_CTRL (s.written R.GNSS_SNAP_CTRL (BitVec.allOnes 32) v)).snapGo
      else s.stored R.GNSS_SNAP_CTRL (s.written R.GNSS_SNAP_CTRL (BitVec.allOnes 32) v)).settled := by
  have hCmd : R.GNSS_SNAP_CTRL ≠ R.GNSS_SNAP_CMD := by decide
  show execSnapGo v s = _
  rw [execSnapGo, State.hostSet_snap (.head _) hAdmits]
  simp only [State.wordWrite_snapCtrl, hCmd, true_and, false_and, if_false]

/-- The clause on GO = 1. -/
theorem snapGo_starts {v : Word} {s : State} (hAdmits : s.admitsSet R.GNSS_SNAP_CTRL v.toNat) (hGo : v.getLsbD 0 = true) :
    ∃ t, exec (.snapGo v) s = .next t ∧ t.lastErr = none ∧ t.flag F.GNSS_SNAP_STAT_BUSY = true ∧ t.get F.GNSS_SNAP_STAT_OP = 1 ∧
      t.get F.GNSS_SNAP_STAT_PAGES = 0 ∧ t.flag F.GNSS_SNAP_STAT_INC = false ∧
      t.gnss = { s.gnss with started := false, inc := false, stop := false, cancel := false
                             go := ⟨t.get F.GNSS_SNAP_CTRL_PATHS, t.get F.GNSS_SNAP_CTRL_START,
                               t.flag F.GNSS_SNAP_CTRL_STOP_JAM, s.get F.GNSS_SNAP_LEN_LEN, 0⟩ } ∧
      t = { s with regs := t.regs, gnss := t.gnss, parity := none, lastErr := none } ∧
      s.regsKept t [R.GNSS_SNAP_CTRL, R.GNSS_SNAP_STAT] := by
  have hRun := exec_snapGo hAdmits
  rw [if_pos hGo] at hRun
  obtain ⟨-, hStored, hKept⟩ := s.stored_effect R.GNSS_SNAP_CTRL (s.written R.GNSS_SNAP_CTRL (BitVec.allOnes 32) v)
  generalize s.stored R.GNSS_SNAP_CTRL (s.written R.GNSS_SNAP_CTRL (BitVec.allOnes 32) v) = u at *
  obtain ⟨hBusy, hOp, hPages, hInc, hGnss, hFrame, hStat⟩ := u.snapGo_effect
  have hCtrl : ∀ f : Fld, f.addr = R.GNSS_SNAP_CTRL → u.snapGo.get f = u.get f := fun f hf => hStat.get (by rw [hf]; decide)
  refine ⟨_, hRun, rfl, hBusy, hOp, hPages, hInc, ?_, ?_, .trans (hKept.mono (by simp)) ((hStat.mono (by simp)).of_regs rfl)⟩
  · have hPaths : u.snapGo.settled.get F.GNSS_SNAP_CTRL_PATHS = u.get F.GNSS_SNAP_CTRL_PATHS := hCtrl _ rfl
    have hStart : u.snapGo.settled.get F.GNSS_SNAP_CTRL_START = u.get F.GNSS_SNAP_CTRL_START := hCtrl _ rfl
    have hJam : u.snapGo.settled.flag F.GNSS_SNAP_CTRL_STOP_JAM = u.flag F.GNSS_SNAP_CTRL_STOP_JAM := hStat.flag (by decide)
    have hLen : u.get F.GNSS_SNAP_LEN_LEN = s.get F.GNSS_SNAP_LEN_LEN := hKept.get (by decide)
    rw [hPaths, hStart, hJam, ← hLen]
    refine hGnss.trans ?_
    rw [hStored]
  · rw [State.settled, hFrame, hStored]

/-- The clause on GO = 0. -/
theorem snapGo_stores {v : Word} {s : State} (hAdmits : s.admitsSet R.GNSS_SNAP_CTRL v.toNat) (hGo : v.getLsbD 0 = false) :
    ∃ t, exec (.snapGo v) s = .next t ∧ t.lastErr = none ∧
      t.get F.GNSS_SNAP_CTRL_PATHS = takeField v F.GNSS_SNAP_CTRL_PATHS.lo F.GNSS_SNAP_CTRL_PATHS.w ∧
      t = { s with regs := t.regs, parity := none, lastErr := none } ∧ s.regsKept t [R.GNSS_SNAP_CTRL] := by
  have hRun := exec_snapGo hAdmits
  rw [hGo] at hRun
  obtain ⟨hWord, hStored, hKept⟩ := s.stored_effect R.GNSS_SNAP_CTRL (s.written R.GNSS_SNAP_CTRL (BitVec.allOnes 32) v)
  generalize s.stored R.GNSS_SNAP_CTRL (s.written R.GNSS_SNAP_CTRL (BitVec.allOnes 32) v) = u at *
  have hPaths : ∀ k < 4, nbit (bitsWhere (fieldsAt R.GNSS_SNAP_CTRL) fun f => storedCodes.contains f.acc) (16 + k) = true := by
    rw [snapCtrl_fieldsAt]
    decide +kernel
  obtain ⟨hGnss, -, -⟩ := gnssWord_snap R.GNSS_SNAP_CTRL (.head _)
  refine ⟨_, hRun, rfl, ?_, ?_, hKept.of_regs rfl⟩
  · show takeField (u.word R.GNSS_SNAP_CTRL) 16 4 = _
    rw [hWord, hGnss.takeField_written (by decide) hPaths]
    rfl
  · show u.settled = _
    rw [State.settled, hStored]
    rfl

end Sys2Proof.Machine
end

section
/-! The snapshot unit: the first sample, the end of a capture, and its commands (R180 to R184, R195). -/

namespace Sys2Proof.Machine

open Sys2Proof

/-! ## The first sample (R180) -/

@[simp] theorem State.nat64_setNat64_same (s : State) (a v : Nat) : (s.setNat64 a v).nat64 a = v % 2 ^ 64 := by
  have hLow : (s.setNat64 a v).nat a = v % 2 ^ 32 := by
    rw [State.setNat64, State.nat, State.setNat, State.word_setWord_ne _ _ (by omega)]
    exact s.nat_setNat_same a v
  have hHigh : (s.setNat64 a v).nat (a + 4) = v / 2 ^ 32 % 2 ^ 32 := State.nat_setNat_same _ _ _
  rw [State.nat64, hLow, hHigh]
  omega

theorem State.Puts.setNat64 (s : State) {a : Nat} (v : Nat) {as : List Nat} (hLow : a ∈ as) (hHigh : a + 4 ∈ as) :
    s.Puts (s.setNat64 a v) as :=
  .trans (t := s.setNat a v) (.setWord s _ hLow) (.setWord _ _ hHigh)

/-- The capture's first sample is taken. -/
theorem State.snapFirst_effect (s : State) (t : Nat) {sub : Nat} (hSub : sub < 65536) :
    (s.snapFirst t sub).nat64 R.GNSS_SNAP_T0_LO = t % 2 ^ 64 ∧ (s.snapFirst t sub).get F.GNSS_SNAP_SUB = sub ∧
    (s.snapFirst t sub).gnss = { s.gnss with started := true, go := { s.gnss.go with since := s.clk } } ∧
    s.snapFirst t sub = { s with regs := (s.snapFirst t sub).regs, gnss := (s.snapFirst t sub).gnss } ∧
    s.regsKept (s.snapFirst t sub) [R.GNSS_SNAP_T0_LO, R.GNSS_SNAP_T0_HI, R.GNSS_SNAP_SUB] := by
  obtain ⟨u, hu⟩ : ∃ u, u = s.setNat64 R.GNSS_SNAP_T0_LO t := ⟨_, rfl⟩
  obtain ⟨v, hv⟩ : ∃ v, v = u.put F.GNSS_SNAP_SUB sub := ⟨_, rfl⟩
  have hFirst : s.snapFirst t sub = v.modGnss (fun g => { g with started := true, go := { g.go with since := v.clk } }) := by
    rw [hv, hu, State.snapFirst]
  have hPuts : s.Puts v [R.GNSS_SNAP_T0_LO, R.GNSS_SNAP_T0_HI, R.GNSS_SNAP_SUB] := by
    rw [hv, hu]
    exact .trans (.setNat64 s t (by decide) (by decide)) (.put _ sub (by decide))
  have hWord : ∀ a, a ≠ R.GNSS_SNAP_SUB → v.word a = u.word a := fun a ha => by rw [hv, State.word_put_ne u _ _ ha]
  have hT0 : v.nat64 R.GNSS_SNAP_T0_LO = t % 2 ^ 64 := by
    rw [State.nat64, State.nat, State.nat, hWord _ (by decide), hWord _ (by decide), ← State.nat, ← State.nat, ← State.nat64, hu,
      State.nat64_setNat64_same]
  have hShown : v.get F.GNSS_SNAP_SUB = sub := by
    rw [hv, State.get_put_same _ _ _ (by decide)]
    exact Nat.mod_eq_of_lt hSub
  rw [hFirst]
  refine ⟨hT0, hShown, ?_, ?_, hPuts.kept.of_regs rfl⟩
  · rw [State.modGnss, hPuts.frame]
  · rw [State.modGnss, hPuts.frame]

/-- The clause on the start at a tag. -/
theorem snapStartAtTag_effect (sub : BitVec 16) {s : State} (hCapture : s.capturing = true) (hStarted : s.gnss.started = false)
    (hMode : s.gnss.go.start = 1) :
    (s.now < s.nat64 R.GNSS_SNAP_TAG_LO → exec (.snapStartAtTag sub) s = .next s) ∧
    (s.nat64 R.GNSS_SNAP_TAG_LO ≤ s.now → ∃ t, exec (.snapStartAtTag sub) s = .next t ∧
      t.nat64 R.GNSS_SNAP_T0_LO = s.now % 2 ^ 64 ∧ t.get F.GNSS_SNAP_SUB = sub.toNat ∧
      t.gnss = { s.gnss with started := true, go := { s.gnss.go with since := s.clk } } ∧
      t = { s with regs := t.regs, gnss := t.gnss } ∧
      s.regsKept t [R.GNSS_SNAP_T0_LO, R.GNSS_SNAP_T0_HI, R.GNSS_SNAP_SUB]) := by
  constructor
  · intro hEarly
    show execSnapStartAtTag sub s = _
    rw [execSnapStartAtTag, if_neg (by simp [Nat.not_le.mpr hEarly])]
  · intro hDue
    have hRun : exec (.snapStartAtTag sub) s = .next (s.snapFirst s.now sub.toNat) := by
      show execSnapStartAtTag sub s = _
      rw [execSnapStartAtTag, if_pos (by simp [hCapture, hStarted, hMode, hDue])]
    exact ⟨_, hRun, s.snapFirst_effect s.now sub.isLt⟩

/-! ## The end of a capture (R180, R181) -/

/-- The pages are shown, and the event of a complete capture is raised. -/
def State.snapShown (s : State) (n : Nat) : State := ((s.put F.GNSS_SNAP_STAT_PAGES n).putB F.GNSS_SNAP_STAT_INC false).raise 57

theorem State.snapShown_effect {s : State} (n : Nat) (hKind : s.kind .gnss = 1) :
    (s.snapShown n).get F.GNSS_SNAP_STAT_PAGES = n % 65536 ∧ s.occurred (s.snapShown n) 57 ∧
    s.snapShown n = { s with regs := (s.snapShown n).regs, occ := (s.snapShown n).occ } ∧
    s.regsKept (s.snapShown n) [R.GNSS_SNAP_STAT, (evBit 57).addr] := by
  obtain ⟨u, hu⟩ : ∃ u, u = (s.put F.GNSS_SNAP_STAT_PAGES n).putB F.GNSS_SNAP_STAT_INC false := ⟨_, rfl⟩
  have hShown : s.snapShown n = u.raise 57 := by rw [hu, State.snapShown]
  have hPuts : s.Puts u [R.GNSS_SNAP_STAT, (evBit 57).addr] := by
    rw [hu]
    exact .trans (.put s n (.head _)) (.put _ 0 (.head _))
  have hPages : u.get F.GNSS_SNAP_STAT_PAGES = n % 65536 := by
    rw [hu]
    exact (State.get_put_of_apart _ _ (.inr (by decide))).trans (State.get_put_same _ _ _ (by decide))
  have hKind' : u.kind .gnss = 1 := (hPuts.kept.kind (by decide) (by decide) (by rw [hPuts.frame]) .gnss).trans hKind
  obtain ⟨hFlag, hOcc⟩ := State.raise_of_gnssRuns (e := 57) hKind' (by decide)
  rw [hShown]
  refine ⟨(State.get_raise_ne _ 57 (by decide)).trans hPages, ⟨hFlag, ?_⟩, ?_, hPuts.kept.trans (.raise u (by simp))⟩
  · rw [hOcc, hPuts.frame]
  · rw [State.raise_changes, hPuts.frame]

/-- A capture of path 0 alone. -/
theorem State.snapPaths_one {s : State} (h : s.gnss.go.paths = 1) : s.snapPaths = [0] := by
  rw [State.snapPaths, h]
  decide

theorem State.snapCaptureEnd_whole {s : State} {pages t0 sub : Nat} {d : List Byte} (hStop : s.gnss.stop = false)
    (hCancel : s.gnss.cancel = false) (hInc : s.gnss.inc = false) (hMode : s.gnss.go.start ≠ 2) (hPaths : s.gnss.go.paths = 1)
    (hLength : d.length = s.gnss.go.len * 4096) (hAlive : ∀ k < s.gnss.go.len, s.deadPage (0x1A000000 + k * 4096) = false) :
    s.snapCaptureEnd pages t0 sub [d] = ((s.setBytes 0x1A000000 d).snapShown s.gnss.go.len).snapOver := by
  have hWhole : d.take (s.gnss.go.len * 4096) = d := List.take_of_length_le hLength.le
  have hNone : (List.range (1 * s.gnss.go.len)).any (fun k => s.deadPage (0x1A000000 + k * 4096)) = false := by
    rw [List.any_eq_false]
    intro k hk
    rw [hAlive k (by rwa [List.mem_range, Nat.one_mul] at hk)]
    exact Bool.false_ne_true
  have hRing : (s.gnss.go.start == 2) = false := by simpa using hMode
  simp only [State.snapCaptureEnd, s.snapPaths_one hPaths, List.length_singleton, hNone, hRing, hStop, hCancel, hInc, Bool.or_false,
    Bool.false_and, Bool.false_eq_true, if_false]
  show ((((s.setBytes (0x1A000000 + 0 * s.gnss.go.len * 4096) (d.take (s.gnss.go.len * 4096))).put F.GNSS_SNAP_STAT_PAGES s.gnss.go.len).putB
    F.GNSS_SNAP_STAT_INC false).raise 57).snapOver = _
  rw [hWhole, Nat.zero_mul, Nat.zero_mul, Nat.add_zero, State.snapShown]

/-- The clause on the end of a capture. -/
theorem snapCaptureEnd_effect (pages sub : BitVec 16) (t0 : BitVec 64) {d : List Byte} {s : State} (hCapture : s.capturing = true)
    (hStarted : s.gnss.started = true) (hStop : s.gnss.stop = false) (hCancel : s.gnss.cancel = false) (hInc : s.gnss.inc = false)
    (hMode : s.gnss.go.start ≠ 2) (hPaths : s.gnss.go.paths = 1) (hKind : s.kind .gnss = 1) (hLength : d.length = s.gnss.go.len * 4096)
    (hAlive : ∀ k < s.gnss.go.len, s.deadPage (0x1A000000 + k * 4096) = false) :
    ∃ t, exec (.snapCaptureEnd pages t0 sub [d]) s = .next t ∧
      (∀ i, (h : i < d.length) → t.byte (0x1A000000 + i) = d[i]) ∧ s.bytesKept t 0x1A000000 d.length ∧
      t.get F.GNSS_SNAP_STAT_PAGES = s.gnss.go.len % 65536 ∧ t.flag F.GNSS_SNAP_STAT_BUSY = false ∧ s.occurred t 57 ∧
      t = { s with regs := t.regs, mem := t.mem, occ := t.occ, gnss := t.gnss } ∧
      s.regsKept t [R.GNSS_SNAP_STAT, (evBit 57).addr] := by
  have hRun : exec (.snapCaptureEnd pages t0 sub [d]) s = .next ((s.setBytes 0x1A000000 d).snapShown s.gnss.go.len).snapOver := by
    show execSnapCaptureEnd pages t0 sub [d] s = _
    rw [execSnapCaptureEnd, if_pos (by simp [hCapture, hStarted, hMode]),
      State.snapCaptureEnd_whole hStop hCancel hInc hMode hPaths hLength hAlive]
  have hBytes : ∀ i, (h : i < d.length) → (s.setBytes 0x1A000000 d).byte (0x1A000000 + i) = d[i] := fun i hi => by
    refine State.byte_setBytes_get d s _ i hi ?_
    have hPage := hAlive (i / 4096) (by omega)
    rw [State.deadPage] at hPage ⊢
    rwa [show (0x1A000000 + i) / 4096 = (0x1A000000 + i / 4096 * 4096) / 4096 by omega]
  have hKeptBytes : s.bytesKept (s.setBytes 0x1A000000 d) 0x1A000000 d.length := fun c hc => State.byte_setBytes_ne d s _ c hc
  have hMem := State.setBytes_frame d s 0x1A000000
  generalize s.setBytes 0x1A000000 d = u at *
  have hKind' : u.kind .gnss = 1 := by rw [hMem]; exact hKind
  obtain ⟨hPages, ⟨hFlag, hOcc⟩, hShown, hKept⟩ := State.snapShown_effect s.gnss.go.len hKind'
  generalize u.snapShown s.gnss.go.len = v at *
  obtain ⟨hBusy, -, hPagesOver, -, hOver, hKeptOver⟩ := v.snapOver_effect
  have hByte : ∀ c, v.snapOver.byte c = u.byte c := fun c => by rw [hOver, hShown]; rfl
  have hRegs : s.regsKept u [R.GNSS_SNAP_STAT, (evBit 57).addr] := fun _ _ => by rw [hMem]; rfl
  refine ⟨_, hRun, fun i hi => (hByte _).trans (hBytes i hi), fun c hc => (hByte c).trans (hKeptBytes c hc), hPagesOver.trans hPages, hBusy,
    ⟨(hKeptOver.flag (by decide)).trans hFlag, ?_⟩, ?_, (hRegs.trans hKept).trans (hKeptOver.mono (by simp))⟩
  · rw [hOver, hOcc, hMem]
  · rw [hOver, hShown, hMem]

end Sys2Proof.Machine
end

section
/-! The snapshot unit: drain, processing and cancel (R182 to R184, R195). -/

namespace Sys2Proof.Machine

open Sys2Proof

/-! ## The commands (R182 to R184) -/

theorem snapCmd_fieldsAt : fieldsAt R.GNSS_SNAP_CMD = [⟨0, 4, .wo, false, 0, .within [(1, 3)], false⟩] := by
  decide +kernel

/-- An accepted command acts, and its register holds nothing. -/
theorem State.hostSet_snapCmd {s : State} {cmd : Nat} (hCmd : cmd < 16) (hAdmits : s.admitsSet R.GNSS_SNAP_CMD cmd) :
    s.hostSet R.GNSS_SNAP_CMD cmd = (s.snapCommand cmd).settled := by
  have hNat : (BitVec.ofNat 32 cmd).toNat = cmd := by
    rw [BitVec.toNat_ofNat]
    omega
  have hInert : s.written R.GNSS_SNAP_CMD (BitVec.allOnes 32) (BitVec.ofNat 32 cmd) = s.word R.GNSS_SNAP_CMD :=
    State.written_of_inert (by rw [snapCmd_fieldsAt]; rfl) (by rw [accBits, snapCmd_fieldsAt]; rfl) s _ _
  have hBits : bitsWhere (fieldsAt R.GNSS_SNAP_CMD)
      (fun f => f.acc == .wo && (f.bits &&& (BitVec.allOnes 32).toNat) != 0) = 15 := by
    rw [snapCmd_fieldsAt]
    decide +kernel
  have hValue : (s.wordWrite R.GNSS_SNAP_CMD (BitVec.allOnes 32) (BitVec.ofNat 32 cmd)).value = cmd := by
    rw [State.wordWrite, hBits]
    show (BitVec.ofNat 32 cmd &&& BitVec.allOnes 32).toNat &&& 15 = cmd
    rw [BitVec.and_allOnes, hNat, Nat.and_two_pow_sub_one_eq_mod cmd 4, Nat.mod_eq_of_lt hCmd]
  have hCarried : (s.wordWrite R.GNSS_SNAP_CMD (BitVec.allOnes 32) (BitVec.ofNat 32 cmd)).carried = 15 := by
    rw [State.wordWrite, hBits]
  have hGo : R.GNSS_SNAP_CMD ≠ R.GNSS_SNAP_CTRL := by decide
  have hWrite := State.hostSet_snap (s := s) (a := R.GNSS_SNAP_CMD) (v := BitVec.ofNat 32 cmd) (by simp) (by rwa [hNat])
  rw [hNat] at hWrite
  rw [hWrite]
  simp only [hInert, State.stored_word, hValue, hCarried, hGo, false_and, if_false, true_and, ne_eq, OfNat.ofNat_ne_zero,
    not_false_eq_true, if_true]

/-- The clause on DRAIN. -/
theorem snapDrain_effect {s : State} (hAdmits : s.admitsSet R.GNSS_SNAP_CMD 1) :
    ∃ t, exec .snapDrain s = .next t ∧ t.lastErr = none ∧ t.flag F.GNSS_SNAP_STAT_BUSY = true ∧ t.get F.GNSS_SNAP_STAT_OP = 2 ∧
      t.gnss.drain.length = s.snapPaths.length ∧ t = { s with regs := t.regs, gnss := t.gnss, parity := none, lastErr := none } ∧
      s.regsKept t [R.GNSS_SNAP_STAT] := by
  obtain ⟨hBusy, hOp, hPuts⟩ := s.snapBusy_effect (op := 2) (by decide)
  have hRun : exec .snapDrain s = .next s.snapDrainStart.settled := by
    show execSnapDrain s = _
    rw [execSnapDrain, State.hostSet_snapCmd (by decide) hAdmits, State.snapCommand]
  have hStart : s.snapDrainStart = { s.snapBusy 2 with gnss := s.snapDrainStart.gnss } := rfl
  have hPaths : s.snapDrainStart.gnss.drain.length = (s.snapBusy 2).snapPaths.length := by
    show ((s.snapBusy 2).snapPaths.zipIdx.map _).length = _
    rw [List.length_map, List.length_zipIdx]
  generalize s.snapDrainStart = u at *
  generalize s.snapBusy 2 = w at *
  have hPaths' : w.snapPaths = s.snapPaths := by rw [hPuts.frame]; rfl
  rw [hPaths'] at hPaths
  rw [hRun, hStart]
  refine ⟨_, rfl, rfl, hBusy, hOp, hPaths, ?_, hPuts.kept.of_regs rfl⟩
  rw [State.settled, hPuts.frame]

/-- The clause on PROCESS. -/
theorem snapProcess_effect {s : State} (hAdmits : s.admitsSet R.GNSS_SNAP_CMD 2) :
    ∃ t, exec .snapProcess s = .next t ∧ t.lastErr = none ∧ t.flag F.GNSS_SNAP_STAT_BUSY = true ∧ t.get F.GNSS_SNAP_STAT_OP = 3 ∧
      t.gnss = { s.gnss with stop := false, cancel := false, proc := (s.get F.GNSS_SNAP_PROC_PATH, s.get F.GNSS_SNAP_PROC_SIGMASK) } ∧
      t = { s with regs := t.regs, gnss := t.gnss, parity := none, lastErr := none } ∧ s.regsKept t [R.GNSS_SNAP_STAT] := by
  obtain ⟨hBusy, hOp, hPuts⟩ := s.snapBusy_effect (op := 3) (by decide)
  have hRun : exec .snapProcess s = .next ((s.snapBusy 3).modGnss (fun g => { g with
      stop := false, cancel := false
      proc := ((s.snapBusy 3).get F.GNSS_SNAP_PROC_PATH, (s.snapBusy 3).get F.GNSS_SNAP_PROC_SIGMASK) })).settled := by
    show execSnapProcess s = _
    rw [execSnapProcess, State.hostSet_snapCmd (by decide) hAdmits, State.snapCommand, State.snapProcess, State.snapBusy]
  generalize s.snapBusy 3 = w at *
  refine ⟨_, hRun, rfl, hBusy, hOp, ?_, ?_, hPuts.kept.of_regs rfl⟩
  · rw [hPuts.kept.get (by decide), hPuts.kept.get (by decide), State.settled, State.modGnss, hPuts.frame]
  · rw [State.settled, State.modGnss, hPuts.frame]

theorem exec_snapCancel {s : State} (hAdmits : s.admitsSet R.GNSS_SNAP_CMD 3) : exec .snapCancel s =
    .next (if s.flag F.GNSS_SNAP_STAT_BUSY then s.modGnss (fun g => { g with cancel := true }) else s).settled := by
  show execSnapCancel s = _
  rw [execSnapCancel, State.hostSet_snapCmd (by decide) hAdmits, State.snapCommand]
  · simp
  · simp

/-- The clause on CANCEL of a busy unit. -/
theorem snapCancel_busy {s : State} (hAdmits : s.admitsSet R.GNSS_SNAP_CMD 3) (hBusy : s.flag F.GNSS_SNAP_STAT_BUSY = true) :
    exec .snapCancel s = .next { s with gnss := { s.gnss with cancel := true } }.settled := by
  rw [exec_snapCancel hAdmits, if_pos hBusy, State.modGnss]

/-- The clause on CANCEL of an idle unit. -/
theorem snapCancel_idle {s : State} (hAdmits : s.admitsSet R.GNSS_SNAP_CMD 3) (hBusy : s.flag F.GNSS_SNAP_STAT_BUSY = false) :
    exec .snapCancel s = .next s.settled := by
  rw [exec_snapCancel hAdmits, hBusy]
  rfl

/-! ## The end of a processing run (R184, R195) -/

/-- The clause on a cancelled run. -/
theorem snapProcessDone_cancelled (l : List SnapResult) {s : State} (hBusy : s.flag F.GNSS_SNAP_STAT_BUSY = true)
    (hOp : s.get F.GNSS_SNAP_STAT_OP = 3) (hCancel : s.gnss.cancel = true) : exec (.snapProcessDone l) s = .next s.snapOver := by
  show execSnapProcessDone l s = _
  rw [execSnapProcessDone, if_pos (by simp [hBusy, hOp]), if_pos hCancel]

/-- The result table is zero. -/
def State.resCleared (s : State) : State := s.each (List.range 64) (fun s k => s.setWords (R.GNSS_RES k 0) [0, 0, 0, 0])

theorem State.setWords_four (s : State) (a : Nat) (w : Word) : s.setWords a [w, w, w, w] =
    (((s.setWord a w).setWord (a + 4) w).setWord (a + 4 + 4) w).setWord (a + 4 + 4 + 4) w := rfl

/-- Clearing a result leaves zeros in its four words, and every zero elsewhere. -/
theorem State.resClear_effect (s : State) (k : Nat) :
    s.Puts (s.setWords (R.GNSS_RES k 0) [0, 0, 0, 0]) ((List.range 4).map fun w => R.GNSS_RES k 0 + 4 * w) ∧
    (∀ w < 4, (s.setWords (R.GNSS_RES k 0) [0, 0, 0, 0]).word (R.GNSS_RES k 0 + 4 * w) = 0) := by
  rw [State.setWords_four]
  constructor
  · exact .trans (.trans (.trans (.setWord s 0 (by simp [List.range_succ])) (.setWord _ 0 (by simp [List.range_succ])))
      (.setWord _ 0 (by simp [List.range_succ]))) (.setWord _ 0 (by simp [List.range_succ]))
  · intro w hw
    interval_cases w
    · rw [State.word_setWord_ne _ _ (by omega), State.word_setWord_ne _ _ (by omega), State.word_setWord_ne _ _ (by omega)]
      exact s.word_setWord_same _ 0
    · rw [State.word_setWord_ne _ _ (by omega), State.word_setWord_ne _ _ (by omega)]
      exact State.word_setWord_same _ _ 0
    · rw [State.word_setWord_ne _ _ (by omega)]
      exact State.word_setWord_same _ _ 0
    · exact State.word_setWord_same _ _ 0

theorem State.resCleared_effect (s : State) :
    s.resCleared = { s with regs := s.resCleared.regs } ∧ (∀ a < R.GNSS_RES 0 0, s.resCleared.word a = s.word a) ∧
    ∀ k < 64, ∀ w < 4, s.resCleared.word (R.GNSS_RES k 0 + 4 * w) = 0 := by
  obtain ⟨⟨hFrame, hBelow⟩, hZero, -⟩ := State.each_forall
    (I := fun t => t = { s with regs := t.regs } ∧ ∀ a < R.GNSS_RES 0 0, t.word a = s.word a)
    (P := fun k t => ∀ w < 4, t.word (R.GNSS_RES k 0 + 4 * w) = 0) (f := fun s k => s.setWords (R.GNSS_RES k 0) [0, 0, 0, 0])
    (List.range 64) s ⟨rfl, fun _ _ => rfl⟩ fun k hk u hu => by
      obtain ⟨hPuts, hOwn⟩ := u.resClear_effect k
      have hOther : ∀ a, a ∉ (List.range 4).map (fun w => R.GNSS_RES k 0 + 4 * w) →
          (u.setWords (R.GNSS_RES k 0) [0, 0, 0, 0]).word a = u.word a :=
        fun a ha => hPuts.kept a ha
      refine ⟨⟨by rw [hPuts.frame, hu.1], fun a ha => (hOther a ?_).trans (hu.2 a ha)⟩, hOwn, fun m hm w hw => ?_⟩
      · simp only [R.GNSS_RES, List.mem_map, List.mem_range, not_exists, not_and] at ha ⊢
        omega
      · by_cases hSame : m = k
        · exact hSame ▸ hOwn w hw
        · refine (hOther _ ?_).trans (hm w hw)
          simp only [R.GNSS_RES, List.mem_map, List.mem_range, not_exists, not_and]
          omega
  exact ⟨hFrame, hBelow, fun k hk => hZero k (List.mem_range.mpr hk)⟩

/-- The clause on a run that found nothing. -/
theorem snapProcessDone_empty {s : State} (hBusy : s.flag F.GNSS_SNAP_STAT_BUSY = true) (hOp : s.get F.GNSS_SNAP_STAT_OP = 3)
    (hCancel : s.gnss.cancel = false) (hKind : s.kind .gnss = 1) :
    ∃ t, exec (.snapProcessDone []) s = .next t ∧ (∀ k w, k < 64 → w < 4 → t.nat (R.GNSS_RES k 0 + 4 * w) = 0) ∧
      t.get F.GNSS_SNAP_PSTAT_NRES = 0 ∧ t.flag F.GNSS_SNAP_STAT_BUSY = false ∧ s.occurred t 57 ∧ t.mem = s.mem ∧
      t = { s with regs := t.regs, occ := t.occ, gnss := t.gnss } := by
  have hRun : exec (.snapProcessDone []) s = .next ((s.resCleared.put F.GNSS_SNAP_PSTAT_NRES 0).raise 57).snapOver := by
    show execSnapProcessDone [] s = _
    have hNone : ∀ (u : State) f, u.each ([] : List (SnapResult × Nat)) f = u := fun _ _ => rfl
    rw [execSnapProcessDone, if_pos (by simp [hBusy, hOp]), if_neg (by simp [hCancel]), State.snapProcessEnd]
    simp only [List.filter_nil, List.foldl_nil, List.take_nil, List.zipIdx_nil, List.length_nil, hNone, State.resCleared]
  obtain ⟨hCleared, hBelow, hZero⟩ := s.resCleared_effect
  generalize s.resCleared = u at *
  obtain ⟨v, hv⟩ : ∃ v, v = u.put F.GNSS_SNAP_PSTAT_NRES 0 := ⟨_, rfl⟩
  have hPuts : u.Puts v [R.GNSS_SNAP_PSTAT] := hv ▸ .put u 0 (.head _)
  have hNres : v.get F.GNSS_SNAP_PSTAT_NRES = 0 := by
    rw [hv, State.get_put_same _ _ _ (by decide), Nat.zero_mod]
  rw [← hv] at hRun
  have hFrame : v = { s with regs := v.regs } := by rw [hPuts.frame, hCleared]
  have hKind' : v.kind .gnss = 1 := by
    have hWord : ∀ a < R.GNSS_RES 0 0, a ≠ R.GNSS_SNAP_PSTAT → v.word a = s.word a := fun a ha hne =>
      (hPuts.kept a (by simpa using hne)).trans (hBelow a ha)
    exact (State.kind_congr (hWord _ (by decide) (by decide)) (hWord _ (by decide) (by decide)) (by rw [hFrame]) .gnss).trans hKind
  obtain ⟨hFlag, hOcc⟩ := State.raise_of_gnssRuns (e := 57) hKind' (by decide)
  obtain ⟨hIdle, -, -, -, hOver, hKept⟩ := (v.raise 57).snapOver_effect
  have hRes : ∀ k w, k < 64 → w < 4 → (v.raise 57).snapOver.word (R.GNSS_RES k 0 + 4 * w) = 0 := fun k w hk hw => by
    rw [hKept _ (by simp only [R.GNSS_RES, R.GNSS_SNAP_STAT, List.mem_singleton]; omega),
      v.word_raise_ne 57 (by simp only [R.GNSS_RES, gnssEvent_place 57 (by decide), gnssEvt_addr]; omega),
      hPuts.kept _ (by simp only [R.GNSS_RES, R.GNSS_SNAP_PSTAT, List.mem_singleton]; omega)]
    exact hZero k hk w hw
  have hNresRaised : (v.raise 57).get F.GNSS_SNAP_PSTAT_NRES = 0 := (v.get_raise_ne 57 (by decide)).trans hNres
  refine ⟨_, hRun, fun k w hk hw => congrArg BitVec.toNat (hRes k w hk hw), (hKept.get (by decide)).trans hNresRaised, hIdle,
    ⟨(hKept.flag (by decide)).trans hFlag, ?_⟩, ?_, ?_⟩
  · rw [hOver, hOcc, hFrame]
  · rw [hOver, State.raise_changes, hFrame]
  · rw [hOver, State.raise_changes, hFrame]

/-! ## The end of a drain (R183) -/

theorem exec_snapDrainDone {s : State} (hBusy : s.flag F.GNSS_SNAP_STAT_BUSY = true) (hOp : s.get F.GNSS_SNAP_STAT_OP = 2) :
    exec .snapDrainDone s = .next (s.drainAll s.drainLeft).snapOver := by
  show execSnapDrainDone s = _
  rw [execSnapDrainDone, if_pos (by simp [hBusy, hOp])]

/-- The clause on a drain that has nothing left. -/
theorem snapDrainDone_empty {s : State} (hBusy : s.flag F.GNSS_SNAP_STAT_BUSY = true) (hOp : s.get F.GNSS_SNAP_STAT_OP = 2)
    (hDrain : s.gnss.drain = []) :
    ∃ t, exec .snapDrainDone s = .next t ∧ t.flag F.GNSS_SNAP_STAT_BUSY = false ∧ t.get F.GNSS_SNAP_STAT_OP = 0 ∧
      t = { s with regs := t.regs, gnss := t.gnss } ∧ s.regsKept t [R.GNSS_SNAP_STAT] := by
  have hNothing : s.drainAll s.drainLeft = s := by
    have hLeft : s.drainLeft = 0 := by
      rw [State.drainLeft, hDrain]
      rfl
    rw [hLeft, State.drainAll]
  obtain ⟨hIdle, hNone, -, -, hFrame, hKept⟩ := s.snapOver_effect
  exact ⟨_, (exec_snapDrainDone hBusy hOp).trans (by rw [hNothing]), hIdle, hNone, hFrame, hKept⟩

/-- The clause on a drain whatever is left of it. -/
theorem snapDrainDone_effect {s : State} (hBusy : s.flag F.GNSS_SNAP_STAT_BUSY = true) (hOp : s.get F.GNSS_SNAP_STAT_OP = 2) :
    ∃ t, exec .snapDrainDone s = .next t ∧ t.flag F.GNSS_SNAP_STAT_BUSY = false ∧ t.get F.GNSS_SNAP_STAT_OP = 0 ∧ t.gnss.drain = [] := by
  obtain ⟨hIdle, hNone, -, hDrain, -, -⟩ := (s.drainAll s.drainLeft).snapOver_effect
  exact ⟨_, exec_snapDrainDone hBusy hOp, hIdle, hNone, hDrain⟩

/-- Settles O26: each command of the unit is a few fields of GNSS_SNAP_STAT and a step of its state; the bytes of a capture are
those that one write of DRAM leaves. -/
theorem snapshotsCaptureProcessAndDrain : Obligations.SnapshotsCaptureProcessAndDrain :=
  ⟨fun _ _ => snapGo_starts,
  fun _ _ => snapGo_stores,
  fun sub _ => snapStartAtTag_effect sub,
  fun pages sub t0 _ _ => snapCaptureEnd_effect pages sub t0,
  fun _ => snapDrain_effect,
  fun _ => snapProcess_effect,
  fun _ => snapCancel_busy,
  fun _ => snapCancel_idle,
  fun l _ => snapProcessDone_cancelled l,
  fun _ => snapProcessDone_empty,
  fun _ => snapDrainDone_empty,
  fun _ => snapDrainDone_effect⟩

end Sys2Proof.Machine
end

section
/-! Measurement epochs and the raw message in LANE5 (R200 to R204, R137). -/

namespace Sys2Proof.Machine

open Sys2Proof

/-! ## The slip marks (R201) -/

/-- The slip marks of the channels are cleared. -/
def State.slipsCleared (s : State) : State := s.each (List.range s.nGch) (fun s n => s.modCh n (fun c => { c with slipped := false }))

theorem State.slipsCleared_effect (s : State) :
    (∀ n < s.nGch, (s.slipsCleared.gnssCh.get n).slipped = false) ∧
    (∀ n, { s.slipsCleared.gnssCh.get n with slipped := false } = { s.gnssCh.get n with slipped := false }) ∧
    s.slipsCleared = { s with gnssCh := s.slipsCleared.gnssCh } := by
  obtain ⟨⟨hFrame, hRest⟩, hMarks, -⟩ := State.each_forall
    (I := fun t => t = { s with gnssCh := t.gnssCh } ∧
      ∀ n, ({ t.gnssCh.get n with slipped := false } : GnssCh) = { s.gnssCh.get n with slipped := false })
    (P := fun n t => (t.gnssCh.get n).slipped = false) (f := fun s n => s.modCh n (fun c => { c with slipped := false }))
    (List.range s.nGch) s ⟨rfl, fun _ => rfl⟩ fun n _ u hu => by
      have hSame : (u.modCh n fun c => { c with slipped := false }).gnssCh.get n = { u.gnssCh.get n with slipped := false } := by
        rw [State.modCh, Table.get_modify_same]
      have hOther : ∀ m, m ≠ n → (u.modCh n fun c => { c with slipped := false }).gnssCh.get m = u.gnssCh.get m := fun m hm => by
        rw [State.modCh, Table.get_modify_ne _ _ hm]
      refine ⟨⟨by rw [State.modCh, hu.1], fun m => ?_⟩, by rw [hSame], fun m hm => ?_⟩
      · by_cases hm : m = n
        · rw [hm, hSame, ← hu.2 n]
        · rw [hOther m hm, hu.2 m]
      · by_cases hmn : m = n
        · rw [hmn, hSame]
        · rw [hOther m hmn, hm]
  exact ⟨fun n hn => hMarks n (List.mem_range.mpr hn), hRest, hFrame⟩

theorem exec_measurementEpoch (m : List RawMeas) {s : State} (hWorks : s.works .nav = true) (hGrid : s.onGrid s.epochLen = true) :
    exec (.measurementEpoch m) s = .next (s.measureEpoch m) := by
  show execMeasurementEpoch m s = _
  rw [execMeasurementEpoch, if_pos (by rw [hWorks, hGrid]; rfl)]

/-- The clause on a tag off the grid, or in a hold. -/
theorem measurementEpoch_off (m : List RawMeas) {s : State} (h : s.now % s.epochLen ≠ 0 ∨ s.flag F.NAV_TIME_STAT_HOLD = true) :
    exec (.measurementEpoch m) s = .next s := by
  have hOff : ¬ s.onGrid s.epochLen = true := fun hGrid => by
    obtain ⟨hHold, hMod⟩ := (onGrid_iff s s.epochLen).mp hGrid
    rcases h with h | h
    · exact h hMod
    · rw [hHold] at h
      exact Bool.false_ne_true h
  show execMeasurementEpoch m s = _
  rw [execMeasurementEpoch, if_neg (by simp [hOff])]

/-- The clause on an epoch without RAW_EN. -/
theorem measurementEpoch_silent (m : List RawMeas) {s : State} (hWorks : s.works .nav = true) (hGrid : s.onGrid s.epochLen = true)
    (hRaw : s.flag F.NAV_CTRL_RAW_EN = false) :
    ∃ t, exec (.measurementEpoch m) s = .next t ∧ (∀ n, n < s.nGch → (t.gnssCh.get n).slipped = false) ∧
      (∀ n, { t.gnssCh.get n with slipped := false } = { s.gnssCh.get n with slipped := false }) ∧ t = { s with gnssCh := t.gnssCh } := by
  have hNone : s.measureEpoch m = s.slipsCleared := by
    rw [State.measureEpoch, if_neg (by simp [hRaw]), State.slipsCleared]
  exact ⟨_, (exec_measurementEpoch m hWorks hGrid).trans (by rw [hNone]), s.slipsCleared_effect⟩

/-! ## Entries that the SV-96 produces into a ring with room (R130, R137) -/

/-- From `s` to `t` `k` entries have gone into the ring of lane `n`. -/
structure State.Produces (s t : State) (n k : Nat) : Prop where
  head : t.get (F.LANE_HEAD_HEAD n) = (s.get (F.LANE_HEAD_HEAD n) + k) % s.laneSize n
  others : ∀ c, (∀ j < k, c < s.slotAfter n j ∨ s.slotAfter n j + 64 ≤ c) → t.byte c = s.byte c
  frame : t = { s with regs := t.regs, mem := t.mem, lanes := t.lanes }
  kept : s.regsKept t [R.LANE_HEAD n]

/-- Lane `n` takes `k` entries that the SV-96 produces at once: it is on and has room, nothing is held, and no page is dead. -/
structure State.LaneTakes (s : State) (n k : Nat) : Prop where
  out : s.laneOut n = true
  free : (s.lanes.get n).held = []
  live : s.memCare.dead = []
  size : s.laneSize n ≤ 16384
  head : s.get (F.LANE_HEAD_HEAD n) < s.laneSize n
  tail : s.get (F.LANE_TAIL_TAIL n) < s.laneSize n
  room : s.laneLevel n + k < s.laneSize n

/-- The state that counts one more entry in LSEQ. -/
def State.laneCounted (s : State) (n : Nat) : State :=
  { s with lanes := s.lanes.set n { s.lanes.get n with lseq := (s.lanes.get n).lseq + 1 } }

/-- What is left after an entry with bytes 2 to 63 `b` has gone into the ring. -/
def State.laneEmitted (s : State) (n : Nat) (b : List Byte) : State := (s.laneCounted n).lanePlace n (s.lanes.get n).lseq b

theorem State.LaneTakes.laneEmit {s : State} {n k : Nat} (h : s.LaneTakes n (k + 1)) (b : List Byte) :
    s.laneEmit n b = (false, s.laneEmitted n b) := by
  have hOut : (s.laneCounted n).laneOut n = true := h.out
  have hFull : (s.laneCounted n).laneFull n = false := by
    have hRoom := h.room
    show s.laneFull n = false
    rw [State.laneFull, decide_eq_false_iff_not]
    omega
  have hEmit : s.laneEmit n b = if !(s.laneCounted n).laneOut n then (true, (s.laneCounted n).laneLose n 1)
      else if (s.laneCounted n).laneFull n || !(s.lanes.get n).held.isEmpty then
        if (s.laneCounted n).flag (F.LANE_CTRL_WAIT n) then
          (false, { s.laneCounted n with lanes := (s.laneCounted n).lanes.modify n fun l => { l with held := l.held ++ [⟨l.lseq - 1, b⟩] } })
        else (true, (s.laneCounted n).laneLose n 1)
      else (false, s.laneEmitted n b) := rfl
  rw [hEmit, hOut, hFull, h.free]
  rfl

theorem State.LaneTakes.places {s : State} {n k : Nat} (h : s.LaneTakes n k) (b : List Byte) :
    (s.laneCounted n).Places (s.laneEmitted n b) n ⟨(s.lanes.get n).lseq, b⟩ := by
  have hHead := h.head
  have hSize : (s.laneCounted n).laneSize n = s.laneSize n := rfl
  refine State.lanePlace_places (by omega) (hSize ▸ h.size) (fun i _ => ?_) ⟨(s.lanes.get n).lseq, b⟩
  show s.memCare.dead.contains _ = false
  rw [h.live]
  rfl

theorem State.laneCounted_slot (s : State) (n j : Nat) : (s.laneCounted n).slotAfter n j = s.slotAfter n j ∧
    (s.laneCounted n).headSlot n = s.headSlot n ∧ (s.laneCounted n).laneSize n = s.laneSize n := ⟨rfl, rfl, rfl⟩

/-- One entry has gone in, and the lane takes the others. -/
theorem State.LaneTakes.emitted {s : State} {n k : Nat} (h : s.LaneTakes n (k + 1)) (b : List Byte) :
    s.Produces (s.laneEmitted n b) n 1 ∧ (s.laneEmitted n b).LaneTakes n k ∧
    (∀ j, (s.laneEmitted n b).slotAfter n j = s.slotAfter n (j + 1)) ∧ (s.laneEmitted n b).laneSize n = s.laneSize n := by
  have hPlaces := h.places b
  obtain ⟨hSize, -, hAfter, hTail, -⟩ := hPlaces.ring
  generalize s.laneEmitted n b = u at *
  obtain ⟨-, hOthers, hHead, hLane, -, hFrame, hKept⟩ := hPlaces
  have hRoom := h.room
  have hHeadLt := h.head
  have hSize' : u.laneSize n = s.laneSize n := hSize
  have hTail' : u.get (F.LANE_TAIL_TAIL n) = s.get (F.LANE_TAIL_TAIL n) := hTail
  have hHead' : u.get (F.LANE_HEAD_HEAD n) = (s.get (F.LANE_HEAD_HEAD n) + 1) % s.laneSize n := hHead
  have hFrame' : u = { s with regs := u.regs, mem := u.mem, lanes := u.lanes } := hFrame
  have hKept' : s.regsKept u [R.LANE_HEAD n] := hKept
  have hFree : (u.lanes.get n).held = [] := by
    rw [hLane]
    show ((s.lanes.set n { s.lanes.get n with lseq := (s.lanes.get n).lseq + 1 }).get n).held = []
    rw [Table.get_set_same, h.free]
  have hLevel : u.laneLevel n = s.laneLevel n + 1 := by
    rw [State.laneLevel, hHead', hTail', hSize']
    exact ringLevel_succ h.head h.tail (by rw [State.laneLevel] at hRoom; omega)
  obtain ⟨-, -, -, hCtrlHead, -, -, -⟩ := laneRegs_apart n n
  have hOut : u.laneOut n = true := by
    have hAway : R.CFG_PERSONALITY ≠ R.LANE_HEAD n ∧ R.CFG_FTG_STATE ≠ R.LANE_HEAD n ∧ H.ctrl .lane ≠ R.LANE_HEAD n := by
      have hCtrl : H.ctrl .lane = 0x50008 := rfl
      simp only [hCtrl, R.LANE_HEAD, R.CFG_PERSONALITY, R.CFG_FTG_STATE]
      omega
    obtain ⟨hPers, hSafe, hEnable⟩ := hAway
    have hWord : ∀ a, a ≠ R.LANE_HEAD n → u.word a = s.word a := fun a ha => hKept' a (mt List.mem_singleton.mp ha)
    have hRuns : u.runs .lane = s.runs .lane := State.runs_congr (hWord _ hPers) (hWord _ hSafe) (hWord _ hEnable)
      (by rw [hFrame']) (by rw [hFrame'])
    have hCtrl : u.word (R.LANE_CTRL n) = s.word (R.LANE_CTRL n) := hKept' _ (mt List.mem_singleton.mp hCtrlHead)
    rw [State.laneOut, State.laneOn, hRuns, State.flag_eq_of_word (f := F.LANE_CTRL_EN n) hCtrl,
      State.flag_eq_of_word (f := F.LANE_CTRL_DIR n) hCtrl]
    exact h.out
  refine ⟨⟨hHead', fun c hc => hOthers c ?_, hFrame', hKept'⟩, ⟨hOut, hFree, by rw [hFrame']; exact h.live, hSize' ▸ h.size, ?_, ?_, ?_⟩,
    hAfter, hSize'⟩
  · rw [(s.laneCounted_slot n 0).2.1, ← State.headSlot_eq_slotAfter h.head]
    exact hc 0 (by decide)
  · rw [hHead', hSize']
    exact Nat.mod_lt _ (by omega)
  · rw [hTail', hSize']
    exact h.tail
  · rw [hLevel, hSize']
    omega

/-- The entries of a message that is not cut go in one after another. -/
theorem State.laneRest_produces {n : Nat} : ∀ (l : List LaneEntry) (s : State) (first : Bool), s.LaneTakes n l.length →
    s.Produces (s.laneRest n first false l) n l.length
  | [], s, _, h => ⟨(Nat.mod_eq_of_lt h.head).symm, fun _ _ => rfl, rfl, .refl s _⟩
  | e :: l, s, first, h => by
    have hEmit := h.laneEmit (entryTail e first l.isEmpty)
    obtain ⟨hOne, hTakes, hAfter, hSize⟩ := h.emitted (entryTail e first l.isEmpty)
    have hRest := State.laneRest_produces l _ false hTakes
    have hCons : s.laneRest n first false (e :: l) = (s.laneEmitted n (entryTail e first l.isEmpty)).laneRest n false false l := by
      rw [State.laneRest, if_neg Bool.false_ne_true, hEmit]
    rw [hCons]
    generalize s.laneEmitted n (entryTail e first l.isEmpty) = u at *
    generalize u.laneRest n false false l = t at *
    refine ⟨?_, fun c hc => (hRest.others c fun j hj => ?_).trans (hOne.others c fun j hj => ?_), ?_, hOne.kept.trans hRest.kept⟩
    · rw [hRest.head, hOne.head, hSize, Nat.mod_add_mod, List.length_cons, Nat.add_assoc, Nat.add_comm 1]
    · rw [hAfter]
      exact hc (j + 1) (Nat.succ_lt_succ hj)
    · exact hc j (by rw [List.length_cons]; omega)
    · rw [hRest.frame, hOne.frame]

/-! ## The bytes of an entry (R134 to R136) -/

theorem State.bytes_append (s : State) (n : Nat) : ∀ m a, s.bytes a (m + n) = s.bytes a m ++ s.bytes (a + m) n
  | 0, a => by rw [Nat.zero_add, State.bytes, List.nil_append, Nat.add_zero]
  | m + 1, a => by
    rw [Nat.succ_add, State.bytes, State.bytes, State.bytes_append s n m, List.cons_append, Nat.add_assoc, Nat.add_comm 1]

@[simp] theorem State.bytes_length (s : State) : ∀ n a, (s.bytes a n).length = n
  | 0, _ => rfl
  | n + 1, a => congrArg (· + 1) (State.bytes_length s n (a + 1))

theorem padTo_append {n : Nat} (l : List Byte) : ∀ k : List Byte, padTo (k.length + n) (k ++ l) = k ++ padTo n l
  | [] => by rw [List.length_nil, Nat.zero_add, List.nil_append, List.nil_append]
  | b :: k => by
    rw [List.length_cons, Nat.add_right_comm, List.cons_append, padTo, padTo_append l k, List.cons_append]

/-- The entry in its slot: LSEQ, TYPE and FLAGS, AUX, and the payload padded with zeros. -/
theorem heldBytes_entryTail (lost first last : Bool) (q : Nat) (e : LaneEntry) : ∃ flags : Byte,
    heldBytes lost ⟨q, entryTail e first last⟩ =
      leBytes 2 q ++ ([BitVec.ofNat 8 e.type, flags] ++ (leBytes 4 e.aux ++ padTo 56 e.payload)) := by
  have hPad : ∀ flags : Byte, padTo 64 (leBytes 2 q ++ ([BitVec.ofNat 8 e.type, flags] ++ (leBytes 4 e.aux ++ padTo 56 e.payload))) =
      leBytes 2 q ++ ([BitVec.ofNat 8 e.type, flags] ++ (leBytes 4 e.aux ++ padTo 56 e.payload)) := fun flags => by
    have hLength : (leBytes 2 q ++ ([BitVec.ofNat 8 e.type, flags] ++ (leBytes 4 e.aux ++ padTo 56 e.payload))).length = 64 := by simp
    rw [← hLength]
    exact padTo_of_length _
  cases lost with
  | false => exact ⟨_, hPad (BitVec.ofNat 8 (bit first + 2 * bit last))⟩
  | true => exact ⟨_, hPad (BitVec.ofNat 8 (bit first + 2 * bit last) ||| 4)⟩

/-- The header entry of a raw message in its slot: TYPE, the epoch's tag and the number of records. -/
theorem State.rawHeader_bytes (s : State) (k q : Nat) (lost last : Bool) {t : State} {a : Nat}
    (h : t.bytes a 64 = heldBytes lost ⟨q, entryTail ⟨0x51, k, s.rawHeader k⟩ true last⟩) :
    t.byte (a + 2) = 0x51 ∧ t.bytes (a + 8) 8 = leBytes 8 (s.now / s.epochLen * s.epochLen) ∧ t.bytes (a + 16) 2 = leBytes 2 k := by
  obtain ⟨flags, hBytes⟩ := heldBytes_entryTail lost true last q ⟨0x51, k, s.rawHeader k⟩
  obtain ⟨rest, hRest⟩ : ∃ rest, padTo 56 (s.rawHeader k) = leBytes 8 (s.now / s.epochLen * s.epochLen) ++ (leBytes 2 k ++ rest) := by
    refine ⟨padTo 46 ([BitVec.ofNat 8 s.nav.solQ, BitVec.ofNat 8 s.tq] ++ (leBytes 4 (code 32 (satS 32 s.timeErrNow)) ++
      (leBytes 4 s.timeUnc ++ leBytes 2 (s.get F.NAV_TIME_LEAP_VALID * 2 ^ 15 + s.get F.NAV_TIME_LEAP_GPS)))), ?_⟩
    have hOuter := padTo_append (n := 48) (leBytes 2 k ++ ([BitVec.ofNat 8 s.nav.solQ, BitVec.ofNat 8 s.tq] ++
      (leBytes 4 (code 32 (satS 32 s.timeErrNow)) ++ (leBytes 4 s.timeUnc ++
        leBytes 2 (s.get F.NAV_TIME_LEAP_VALID * 2 ^ 15 + s.get F.NAV_TIME_LEAP_GPS))))) (leBytes 8 (s.now / s.epochLen * s.epochLen))
    have hInner := padTo_append (n := 46) ([BitVec.ofNat 8 s.nav.solQ, BitVec.ofNat 8 s.tq] ++
      (leBytes 4 (code 32 (satS 32 s.timeErrNow)) ++ (leBytes 4 s.timeUnc ++
        leBytes 2 (s.get F.NAV_TIME_LEAP_VALID * 2 ^ 15 + s.get F.NAV_TIME_LEAP_GPS)))) (leBytes 2 k)
    rw [leBytes_length] at hOuter hInner
    rw [← hInner, ← hOuter, State.rawHeader]
    simp only [List.append_assoc]
  have hSplit : t.bytes a 64 = t.bytes a 2 ++ (t.bytes (a + 2) 2 ++ (t.bytes (a + 4) 4 ++ (t.bytes (a + 8) 8 ++ (t.bytes (a + 16) 2 ++
      t.bytes (a + 18) 46)))) := by
    rw [t.bytes_append 62 2, t.bytes_append 60 2, t.bytes_append 56 4, t.bytes_append 48 8, t.bytes_append 46 2]
  rw [h, hBytes, hRest] at hSplit
  obtain ⟨-, hSplit⟩ := List.append_inj hSplit (by simp)
  obtain ⟨hType, hSplit⟩ := List.append_inj hSplit (by simp)
  obtain ⟨-, hSplit⟩ := List.append_inj hSplit (by simp)
  obtain ⟨hTag, hSplit⟩ := List.append_inj hSplit (by simp)
  obtain ⟨hCount, -⟩ := List.append_inj hSplit (by simp)
  exact ⟨(List.cons.inj hType).1.symm, hTag.symm, hCount.symm⟩

theorem rawEntries_length : ∀ l : List (List Byte), (rawEntries l).length = (l.length + 1) / 2
  | [] => rfl
  | [_] => by simp [rawEntries]
  | _ :: _ :: t => by
    rw [rawEntries, List.length_cons, rawEntries_length t, List.length_cons, List.length_cons]
    omega

/-- The clause on an epoch with RAW_EN and room in LANE5. -/
theorem measurementEpoch_message (m : List RawMeas) {s : State} (hRuns : s.runs .nav = true) (hGrid : s.onGrid s.epochLen = true)
    (hRaw : s.flag F.NAV_CTRL_RAW_EN = true) (hLive : s.memCare.dead = []) (hOut : s.laneOut 5 = true)
    (hFree : (s.lanes.get 5).held = []) (hRoom : s.laneLevel 5 + 2 + (s.rawRecords m).length < s.laneSize 5)
    (hSize : laneSizeOk (s.laneSize 5) = true) (hHead : s.get (F.LANE_HEAD_HEAD 5) < s.laneSize 5)
    (hTail : s.get (F.LANE_TAIL_TAIL 5) < s.laneSize 5) :
    ∃ t, exec (.measurementEpoch m) s = .next t ∧
      t.get (F.LANE_HEAD_HEAD 5) = (s.get (F.LANE_HEAD_HEAD 5) + 1 + ((s.rawRecords m).length + 1) / 2) % s.laneSize 5 ∧
      t.byte (s.laneSlot 5 (s.get (F.LANE_HEAD_HEAD 5)) + 2) = 0x51 ∧
      t.bytes (s.laneSlot 5 (s.get (F.LANE_HEAD_HEAD 5)) + 8) 8 = leBytes 8 (s.now / s.epochLen * s.epochLen) ∧
      t.bytes (s.laneSlot 5 (s.get (F.LANE_HEAD_HEAD 5)) + 16) 2 = leBytes 2 (s.rawRecords m).length ∧
      s.bytesKept t (s.laneSlot 5 0) (s.laneSize 5 * 64) ∧
      t = { s with regs := t.regs, mem := t.mem, lanes := t.lanes, gnssCh := t.gnssCh } ∧ s.regsKept t [R.LANE_HEAD 5] := by
  obtain ⟨k, hk⟩ : ∃ k, k = (s.rawRecords m).length := ⟨_, rfl⟩
  obtain ⟨b, hb⟩ : ∃ b, b = entryTail ⟨0x51, k, s.rawHeader k⟩ true (rawEntries (s.rawRecords m)).isEmpty := ⟨_, rfl⟩
  have hEntries : (rawEntries (s.rawRecords m)).length = (k + 1) / 2 := by rw [rawEntries_length, hk]
  have hTakes : s.LaneTakes 5 ((k + 1) / 2 + 1) :=
    ⟨hOut, hFree, hLive, laneSize_le_of_ok hSize, hHead, hTail, by omega⟩
  have hWorks : s.works .nav = true := by
    rw [State.runs, Bool.and_eq_true] at hRuns
    exact hRuns.1
  have hRun : exec (.measurementEpoch m) s =
      .next ((s.laneEmitted 5 b).laneRest 5 false false (rawEntries (s.rawRecords m))).slipsCleared := by
    rw [exec_measurementEpoch m hWorks hGrid, State.measureEpoch, if_pos (by rw [hRuns, hRaw]; rfl), State.laneProduce, State.laneRest,
      if_neg Bool.false_ne_true, ← hk, ← hb, hTakes.laneEmit b, State.slipsCleared]
  obtain ⟨hOne, hRest, hAfter, hSizeOne⟩ := hTakes.emitted b
  have hHeader : (s.laneEmitted 5 b).bytes (s.headSlot 5) 64 = heldBytes (s.lanes.get 5).lostBefore ⟨(s.lanes.get 5).lseq, b⟩ := by
    have hLost : ((s.laneCounted 5).lanes.get 5).lostBefore = (s.lanes.get 5).lostBefore := by
      rw [State.laneCounted, Table.get_set_same]
    rw [← hLost]
    exact (hTakes.places b).bytes
  rw [← hEntries] at hRest
  have hMessage := State.laneRest_produces _ _ false hRest
  rw [hEntries] at hMessage
  generalize s.laneEmitted 5 b = u at *
  generalize u.laneRest 5 false false (rawEntries (s.rawRecords m)) = v at *
  obtain ⟨-, -, hSlips⟩ := v.slipsCleared_effect
  have hByte : ∀ c, v.slipsCleared.byte c = v.byte c := fun c => by rw [hSlips]; rfl
  have hBytes : v.bytes (s.headSlot 5) 64 = u.bytes (s.headSlot 5) 64 := State.bytes_congr 64 _ fun i hi => hMessage.others _ fun j hj => by
    rw [hAfter]
    have hApart := State.slotAfter_apart (j := j + 1) hHead (Nat.succ_pos j) (by omega)
    omega
  rw [← hBytes, hb] at hHeader
  obtain ⟨hType, hTag, hCount⟩ := s.rawHeader_bytes k _ _ _ hHeader
  have hWindow : ∀ j, s.laneSlot 5 0 ≤ s.slotAfter 5 j ∧ s.slotAfter 5 j + 64 ≤ s.laneSlot 5 0 + s.laneSize 5 * 64 := fun j => by
    have := Nat.mod_lt (s.get (F.LANE_HEAD_HEAD 5) + j) (show 0 < s.laneSize 5 by omega)
    simp only [State.slotAfter, State.laneSlot]
    omega
  refine ⟨_, hRun, ?_, (hByte _).trans hType, (State.bytes_congr 8 _ fun _ _ => hByte _).trans hTag,
    (State.bytes_congr 2 _ fun _ _ => hByte _).trans (hk ▸ hCount), fun c hc => ?_, ?_, ?_⟩
  · have hHeadKept : v.slipsCleared.get (F.LANE_HEAD_HEAD 5) = v.get (F.LANE_HEAD_HEAD 5) := by rw [hSlips]; rfl
    rw [hHeadKept, hMessage.head, hOne.head, hSizeOne, Nat.mod_add_mod, ← hk]
  · rw [hByte, hMessage.others c fun j _ => ?_, hOne.others c fun j _ => ?_]
    · have := hWindow j
      omega
    · have := hWindow (j + 1)
      rw [hAfter]
      omega
  · rw [hSlips, hMessage.frame, hOne.frame]
  · have hKept : v.regsKept v.slipsCleared [R.LANE_HEAD 5] := fun a _ => by rw [hSlips]; rfl
    exact (hOne.kept.trans hMessage.kept).trans hKept

end Sys2Proof.Machine
end

section
/-! RTCM entries of LANE6 and their messages (R207 to R210, R225). -/

namespace Sys2Proof.Machine

open Sys2Proof

/-! ## Events of NAV -/

theorem navEvent_place : ∀ e ∈ [69, 71, 72], evOwner e = .nav ∧ (evBit e).addr = H.evt .nav := by decide

theorem State.kind_of_works {s : State} {b : Block} (h : s.works b = true) : s.kind b = 1 := by
  simp only [State.works, State.present, Bool.and_eq_true, beq_iff_eq] at h
  exact h.1

/-- An event of the present block occurs. -/
theorem State.raise_of_navPresent {s : State} {e : Nat} (h : s.kind .nav = 1) (he : e ∈ [69, 71, 72]) : s.occurred (s.raise e) e := by
  obtain ⟨hOwner, -⟩ := navEvent_place e he
  exact State.occurred_raise (hOwner ▸ h)

/-- A counter of 16 bits of the block goes up by one, and nothing else changes. -/
theorem State.count_effect (s : State) {f : Fld} (hf : f.lo + f.w ≤ 32) :
    (s.count f 1).get f = min (s.get f + 1) (2 ^ f.w - 1) ∧ s.Puts (s.count f 1) [f.addr] :=
  ⟨s.get_count_same f 1 hf, .count s 1 (.head _)⟩

/-! ## An entry is taken (R133, R207) -/

/-- TAIL of LANE6 is past the entry. -/
def State.rtcmPassed (s : State) : State := s.put (F.LANE_TAIL_TAIL 6) (s.laneNext 6 (s.get (F.LANE_TAIL_TAIL 6)))

theorem State.rtcmPassed_effect (s : State) :
    s.rtcmPassed.get (F.LANE_TAIL_TAIL 6) = s.laneNext 6 (s.get (F.LANE_TAIL_TAIL 6)) % 2 ^ 14 ∧
    s.Puts s.rtcmPassed [R.LANE_TAIL 6] :=
  ⟨s.get_put_same _ _ (by decide), .put s _ (.head _)⟩

/-- What NAV reads of its setting stands while TAIL moves. -/
theorem State.rtcmPassed_setting (s : State) : s.rtcmPassed.runs .nav = s.runs .nav ∧ s.rtcmPassed.rtkOn = s.rtkOn ∧
    s.rtcmPassed.kind .nav = s.kind .nav := by
  obtain ⟨-, hFrame, hKept⟩ := s.rtcmPassed_effect
  have hPers : s.rtcmPassed.pers = s.pers := hKept.get (f := F.CFG_PERSONALITY_PERS) (by decide)
  refine ⟨State.runs_congr (hKept _ (by decide)) (hKept _ (by decide)) (hKept _ (by decide)) (by rw [hFrame]) (by rw [hFrame]), ?_,
    hKept.kind (by decide) (by decide) (by rw [hFrame]) .nav⟩
  rw [State.rtkOn, hPers, hKept.flag (by decide), State.rtkOn]

/-- The entry of LANE6 at TAIL. -/
def State.rtcmHead (s : State) : List Byte := s.bytes (s.laneSlot 6 (s.get (F.LANE_TAIL_TAIL 6))) 64

/-- LANE6 holds an entry that no page loss has taken. -/
structure State.RtcmWaits (s : State) : Prop where
  works : s.works .nav = true
  lane : s.laneIn 6 = true
  level : s.laneLevel 6 ≠ 0
  type : s.laneType 6 (s.get (F.LANE_TAIL_TAIL 6)) ≠ 0

/-- TYPE is byte 2 of the entry. -/
theorem State.rtcmHead_type (s : State) : (s.rtcmHead.getD 2 0).toNat = s.laneType 6 (s.get (F.LANE_TAIL_TAIL 6)) := by
  rw [List.getD_eq_getElem?_getD, State.rtcmHead, s.getElem?_bytes 64 _ (by decide)]
  rfl

theorem exec_rtcmEntry {s : State} (h : s.RtcmWaits) : exec .rtcmEntry s = .next (
    if !s.rtcmPassed.runs .nav then s.rtcmPassed.count F.NAV_DISC 1
    else if !s.rtcmPassed.rtkOn then s.rtcmPassed.count F.NAV_RTCM_IGN 1
    else if s.rtcmHead.getD 2 0 ≠ 0x61#8 ∨ (s.rtcmHead.getD 4 0).toNat = 0 ∨ 56 < (s.rtcmHead.getD 4 0).toNat then
      s.rtcmPassed.rtcmBad.modNav (fun n => { n with rtcm := [] })
    else s.rtcmPassed.rtcmFrames ((s.rtcmPassed.nav.rtcm ++ (s.rtcmHead.drop 8).take (s.rtcmHead.getD 4 0).toNat).length + 1)
      (s.rtcmPassed.nav.rtcm ++ (s.rtcmHead.drop 8).take (s.rtcmHead.getD 4 0).toNat)) := by
  obtain ⟨hWorks, hLane, hLevel, hType⟩ := h
  have hCut : (s.laneIn 6 && s.laneLevel 6 != 0 && s.laneType 6 (s.get (F.LANE_TAIL_TAIL 6)) == 0) = false := by
    simp [hType]
  have hConsume : (s.when false State.rtcmCut).laneConsume 6 = (some s.rtcmHead, s.rtcmPassed) := by
    show s.laneConsume 6 = _
    rw [State.laneConsume, if_pos hLane, State.laneTake_first hLevel hType, State.rtcmHead, State.rtcmPassed]
  show execRtcmEntry s = _
  rw [execRtcmEntry, if_pos hWorks, State.rtcmEntry, hCut, hConsume]

/-! ## A discarded entry (R207, R225) -/

/-- The clause on an entry while NAV is disabled. -/
theorem rtcmEntry_disabled {s : State} (h : s.RtcmWaits) (hEnabled : s.enabled .nav = false) :
    ∃ t, exec .rtcmEntry s = .next t ∧ t.get F.NAV_DISC = min (s.get F.NAV_DISC + 1) (2 ^ F.NAV_DISC.w - 1) ∧
      t.get (F.LANE_TAIL_TAIL 6) = s.laneNext 6 (s.get (F.LANE_TAIL_TAIL 6)) % 2 ^ 14 ∧
      t = { s with regs := t.regs } ∧ s.regsKept t [R.LANE_TAIL 6, F.NAV_DISC.addr] := by
  obtain ⟨hRuns, -, -⟩ := s.rtcmPassed_setting
  obtain ⟨hTail, hPuts⟩ := s.rtcmPassed_effect
  have hRun := exec_rtcmEntry h
  rw [if_pos (by rw [hRuns, State.runs, hEnabled, Bool.and_false]; rfl)] at hRun
  generalize s.rtcmPassed = u at *
  obtain ⟨hCount, hCounted⟩ := u.count_effect (f := F.NAV_DISC) (by decide)
  refine ⟨_, hRun, hCount.trans ?_, (hCounted.kept.get (by decide)).trans hTail, ?_,
    .trans (hPuts.kept.mono (by simp)) (hCounted.kept.mono (by simp))⟩
  · rw [hPuts.kept.get (by decide)]
  · rw [hCounted.frame, hPuts.frame]

/-- A bad frame is counted and raises its event. -/
theorem State.rtcmBad_effect {s : State} (hKind : s.kind .nav = 1) :
    s.rtcmBad.get F.NAV_RTCM_ERR = min (s.get F.NAV_RTCM_ERR + 1) (2 ^ F.NAV_RTCM_ERR.w - 1) ∧ s.occurred s.rtcmBad 71 ∧
    s.rtcmBad = { s with regs := s.rtcmBad.regs, occ := s.rtcmBad.occ } ∧ s.regsKept s.rtcmBad [F.NAV_RTCM_ERR.addr, (evBit 71).addr] := by
  obtain ⟨hCount, hPuts⟩ := s.count_effect (f := F.NAV_RTCM_ERR) (by decide)
  have hBad : s.rtcmBad = (s.count F.NAV_RTCM_ERR 1).raise 71 := rfl
  rw [hBad]
  generalize s.count F.NAV_RTCM_ERR 1 = u at *
  have hKind' : u.kind .nav = 1 := (hPuts.kept.kind (by decide) (by decide) (by rw [hPuts.frame]) .nav).trans hKind
  obtain ⟨hFlag, hOcc⟩ := State.raise_of_navPresent (e := 71) hKind' (by decide)
  refine ⟨(u.get_raise_ne 71 (by decide)).trans hCount, ⟨hFlag, ?_⟩, ?_, .trans (hPuts.kept.mono (by simp)) (.raise u (by simp))⟩
  · rw [hOcc, hPuts.frame]
  · rw [State.raise_changes, hPuts.frame]

/-- The clause on an entry of another TYPE. -/
theorem rtcmEntry_otherType {s : State} (h : s.RtcmWaits) (hEnabled : s.enabled .nav = true) (hRtk : s.rtkOn = true)
    (hType : s.laneType 6 (s.get (F.LANE_TAIL_TAIL 6)) ≠ 0x61) :
    ∃ t, exec .rtcmEntry s = .next t ∧ t.get F.NAV_RTCM_ERR = min (s.get F.NAV_RTCM_ERR + 1) (2 ^ F.NAV_RTCM_ERR.w - 1) ∧
      t.get (F.LANE_TAIL_TAIL 6) = s.laneNext 6 (s.get (F.LANE_TAIL_TAIL 6)) % 2 ^ 14 ∧ s.occurred t 71 ∧
      t = { s with regs := t.regs, occ := t.occ, nav := { s.nav with rtcm := [] } } ∧
      s.regsKept t [R.LANE_TAIL 6, F.NAV_RTCM_ERR.addr, (evBit 71).addr] := by
  obtain ⟨hRuns, hRtk', hKind⟩ := s.rtcmPassed_setting
  obtain ⟨hTail, hPuts⟩ := s.rtcmPassed_effect
  have hByte : s.rtcmHead.getD 2 0 ≠ 0x61#8 := fun e => hType (by rw [← s.rtcmHead_type, e]; rfl)
  have hRun := exec_rtcmEntry h
  rw [if_neg (by rw [hRuns, State.runs, hEnabled, h.works]; decide), if_neg (by rw [hRtk', hRtk]; decide), if_pos (.inl hByte)] at hRun
  generalize s.rtcmPassed = u at *
  obtain ⟨hErr, ⟨hFlag, hOcc⟩, hFrame, hKept⟩ := State.rtcmBad_effect (hKind.trans (State.kind_of_works h.works))
  generalize u.rtcmBad = v at *
  refine ⟨_, hRun, hErr.trans ?_, (hKept.get (f := F.LANE_TAIL_TAIL 6) (by decide)).trans hTail, ⟨hFlag, hOcc.trans ?_⟩, ?_,
    .trans (hPuts.kept.mono (by simp)) ((hKept.mono (by simp)).of_regs rfl)⟩
  · rw [hPuts.kept.get (by decide)]
  · rw [hPuts.frame]
  · rw [State.modNav, hFrame, hPuts.frame]

end Sys2Proof.Machine
end

section
/-! RTCM frames and the messages in them (R207 to R209). -/

namespace Sys2Proof.Machine

open Sys2Proof

/-! ## Whole, bad and incomplete frames (R207) -/

theorem State.rtcmFrames_nil (s : State) (k : Nat) : s.rtcmFrames k [] = s.modNav fun n => { n with rtcm := [] } := by
  cases k <;> rfl

/-- The bytes gathered begin with a preamble and a length. -/
theorem State.rtcmFrames_first (s : State) {b : List Byte} (k : Nat) (hHead : b.head? = some 0xD3) (hLength : 3 ≤ b.length)
    (hSize : bitField b 8 16 < 1024) : s.rtcmFrames (k + 1) b =
      if b.length < bitField b 8 16 + 6 then s.modNav fun n => { n with rtcm := b }
      else (if (crc24q (b.take (bitField b 8 16 + 3))).toNat == bitField ((b.drop (bitField b 8 16 + 3)).take 3) 0 24 then
          s.rtcmMessage ((b.drop 3).take (bitField b 8 16)) else s.rtcmBad).rtcmFrames k (b.drop (bitField b 8 16 + 6)) := by
  cases b with
  | nil => exact absurd hHead (by simp)
  | cons b₀ t =>
    have hPreamble : b₀ = 0xD3#8 := Option.some.inj hHead
    rw [State.rtcmFrames, if_neg (by rw [hPreamble]; decide), if_neg (by omega), if_neg (by omega)]

/-- An entry of TYPE 0x61 adds its bytes to those gathered. -/
theorem exec_rtcmEntry_bytes {s : State} (h : s.RtcmWaits) (hEnabled : s.enabled .nav = true) (hRtk : s.rtkOn = true)
    (hType : s.rtcmHead.getD 2 0 = 0x61) (hSome : 1 ≤ (s.rtcmHead.getD 4 0).toNat) (hFits : (s.rtcmHead.getD 4 0).toNat ≤ 56)
    {b : List Byte} (hb : b = s.nav.rtcm ++ (s.rtcmHead.drop 8).take (s.rtcmHead.getD 4 0).toNat) :
    exec .rtcmEntry s = .next (s.rtcmPassed.rtcmFrames (b.length + 1) b) := by
  obtain ⟨hRuns, hRtk', -⟩ := s.rtcmPassed_setting
  have hNav : s.rtcmPassed.nav = s.nav := rfl
  rw [exec_rtcmEntry h, if_neg (by rw [hRuns, State.runs, hEnabled, h.works]; decide), if_neg (by rw [hRtk', hRtk]; decide),
    if_neg fun hBad => hBad.elim (fun hOther => hOther hType) (by omega), hNav, ← hb]

/-- The clause on the bytes of an entry of TYPE 0x61. -/
theorem rtcmEntry_bytes {b f : List Byte} {n : Nat} {s : State} (h : s.RtcmWaits) (hEnabled : s.enabled .nav = true)
    (hRtk : s.rtkOn = true) (hType : s.rtcmHead.getD 2 0 = 0x61) (hSome : 1 ≤ (s.rtcmHead.getD 4 0).toNat)
    (hFits : (s.rtcmHead.getD 4 0).toNat ≤ 56) (hb : b = s.nav.rtcm ++ (s.rtcmHead.drop 8).take (s.rtcmHead.getD 4 0).toNat)
    (hHead : b.head? = some 0xD3) (hLength : 3 ≤ b.length) (hn : n = bitField b 8 16) (hSize : n < 1024) (hf : f = (b.drop 3).take n) :
    (b.length < n + 6 → exec .rtcmEntry s = .next { s.rtcmPassed with nav := { s.rtcmPassed.nav with rtcm := b } }) ∧
    (b.length = n + 6 → (crc24q (b.take (n + 3))).toNat = bitField (b.drop (n + 3)) 0 24 → exec .rtcmEntry s =
      .next { s.rtcmPassed.rtcmMessage f with nav := { (s.rtcmPassed.rtcmMessage f).nav with rtcm := [] } }) ∧
    (b.length = n + 6 → (crc24q (b.take (n + 3))).toNat ≠ bitField (b.drop (n + 3)) 0 24 →
      ∃ t, exec .rtcmEntry s = .next t ∧
        t.get F.NAV_RTCM_ERR = min (s.rtcmPassed.get F.NAV_RTCM_ERR + 1) (2 ^ F.NAV_RTCM_ERR.w - 1) ∧
        s.rtcmPassed.occurred t 71 ∧
        t = { s.rtcmPassed with regs := t.regs, occ := t.occ, nav := { s.rtcmPassed.nav with rtcm := [] } } ∧
        s.rtcmPassed.regsKept t [F.NAV_RTCM_ERR.addr, (evBit 71).addr]) := by
  obtain ⟨-, -, hKind⟩ := s.rtcmPassed_setting
  have hRun := exec_rtcmEntry_bytes h hEnabled hRtk hType hSome hFits hb
  rw [State.rtcmFrames_first _ _ hHead hLength (hn ▸ hSize), ← hn, ← hf] at hRun
  have hCrc : b.length = n + 6 → (b.drop (n + 3)).take 3 = b.drop (n + 3) := fun hWhole =>
    List.take_of_length_le (by rw [List.length_drop]; omega)
  have hRest : b.length = n + 6 → b.drop (n + 6) = [] := fun hWhole => List.drop_eq_nil_of_le hWhole.le
  refine ⟨fun hPart => hRun.trans (by rw [if_pos hPart]; rfl), fun hWhole hGood => ?_, fun hWhole hBad => ?_⟩
  · rw [if_neg (by omega), hCrc hWhole, if_pos (beq_iff_eq.mpr hGood), hRest hWhole, State.rtcmFrames_nil] at hRun
    exact hRun
  · rw [if_neg (by omega), hCrc hWhole, if_neg (by rwa [beq_iff_eq]), hRest hWhole, State.rtcmFrames_nil] at hRun
    generalize s.rtcmPassed = u at *
    obtain ⟨hErr, hOccurred, hFrame, hKept⟩ := State.rtcmBad_effect (hKind.trans (State.kind_of_works h.works))
    generalize u.rtcmBad = v at *
    exact ⟨_, hRun, hErr, hOccurred, by rw [State.modNav, hFrame], hKept.of_regs rfl⟩

/-! ## The numbers of a message (R208) -/

theorem ofBits_append (l : List Bool) (b : Bool) : ofBits (l ++ [b]) = 2 * ofBits l + bit b := by
  rw [ofBits, List.foldl_append, List.foldl_cons, List.foldl_nil, ofBits]

theorem ofBits_lt (l : List Bool) : ofBits l < 2 ^ l.length := by
  induction l using List.reverseRecOn with
  | nil => exact Nat.one_pos
  | append_singleton l b ih =>
    have hBit : bit b ≤ 1 := by cases b <;> decide
    rw [ofBits_append, List.length_append, List.length_singleton, Nat.pow_succ]
    omega

theorem bitField_lt (l : List Byte) (o w : Nat) : bitField l o w < 2 ^ w :=
  (ofBits_lt _).trans_le (Nat.pow_le_pow_right Nat.two_pos (by rw [List.length_take]; exact Nat.min_le_left _ _))

theorem two_pow_of_pos {w : Nat} (hw : 0 < w) : 2 ^ w = 2 * 2 ^ (w - 1) := by
  rw [Nat.mul_comm, Nat.two_pow_pred_mul_two hw]

/-- The code of a number in the range of its width reads back. -/
theorem signed_code {w : Nat} {i : Int} (hw : 0 < w) (hLo : -((2 ^ (w - 1) : Nat) : Int) ≤ i) (hHi : i < (2 ^ (w - 1) : Nat)) :
    signed w (code w i) = i := by
  have hPow := two_pow_of_pos hw
  rw [signed, code, hPow]
  generalize 2 ^ (w - 1) = p at *
  by_cases hSign : 0 ≤ i
  · rw [Int.emod_eq_of_lt hSign (by omega), if_pos (by omega), Int.toNat_of_nonneg hSign]
  · rw [← Int.add_emod_right, Int.emod_eq_of_lt (by omega) (by omega), if_neg (by omega), Int.toNat_of_nonneg (by omega)]
    omega

theorem signed_range {w v : Nat} (hw : 0 < w) (hv : v < 2 ^ w) :
    -((2 ^ (w - 1) : Nat) : Int) ≤ signed w v ∧ signed w v < (2 ^ (w - 1) : Nat) := by
  have hPow := two_pow_of_pos hw
  rw [signed, hPow]
  rw [hPow] at hv
  generalize 2 ^ (w - 1) = p at *
  split <;> omega

theorem signed_code_signed {w v : Nat} (hw : 0 < w) (hv : v < 2 ^ w) : signed w (code w (signed w v)) = signed w v :=
  signed_code hw (signed_range hw hv).1 (signed_range hw hv).2

@[simp] theorem State.int64_setInt64_same (s : State) (a : Nat) (i : Int) : (s.setInt64 a i).int64 a = signed 64 (code 64 i) := by
  rw [State.int64, State.setInt64, State.nat64_setNat64_same, Nat.mod_eq_of_lt (code_lt 64 i)]

theorem State.regsKept.int64 {s t : State} {as : List Nat} (h : s.regsKept t as) {a : Nat} (hLow : a ∉ as) (hHigh : a + 4 ∉ as) :
    t.int64 a = s.int64 a := by
  rw [State.int64, State.nat64, State.nat, State.nat, h a hLow, h (a + 4) hHigh, State.int64, State.nat64, State.nat, State.nat]

/-- A coordinate of the base position reads back. -/
theorem State.int64_setInt64_bitField (s : State) (a o : Nat) (f : List Byte) :
    (s.setInt64 a (signed 38 (bitField f o 38))).int64 a = signed 38 (bitField f o 38) := by
  obtain ⟨hLo, hHi⟩ := signed_range (w := 38) (by decide) (bitField_lt f o 38)
  rw [State.int64_setInt64_same, signed_code (by decide) (by omega) (by omega)]

/-! ## The base station (R208, R209) -/

/-- The registers of the base position. -/
def baseRegs : List Nat := [R.NAV_BASE_X_LO, R.NAV_BASE_X_HI, R.NAV_BASE_Y_LO, R.NAV_BASE_Y_HI, R.NAV_BASE_Z_LO, R.NAV_BASE_Z_HI]

theorem State.setWords_six (s : State) (a : Nat) (w : Word) : s.setWords a [w, w, w, w, w, w] =
    (((((s.setWord a w).setWord (a + 4) w).setWord (a + 4 + 4) w).setWord (a + 4 + 4 + 4) w).setWord (a + 4 + 4 + 4 + 4) w).setWord
      (a + 4 + 4 + 4 + 4 + 4) w := rfl

theorem State.baseCleared_puts (s : State) : s.Puts (s.setWords R.NAV_BASE_X_LO [0, 0, 0, 0, 0, 0]) baseRegs := by
  rw [State.setWords_six]
  exact .trans (.trans (.trans (.trans (.trans (.setWord s _ (by decide)) (.setWord _ _ (by decide))) (.setWord _ _ (by decide)))
    (.setWord _ _ (by decide))) (.setWord _ _ (by decide))) (.setWord _ _ (by decide))

/-- The base station has the number `id`, and no position yet. -/
def State.stationNamed (s : State) (id : Nat) : State := (s.setNat R.NAV_BASE_ID 0).put F.NAV_BASE_ID_ID id

theorem State.stationNamed_effect (s : State) {id : Nat} (hId : id < 4096) :
    (s.stationNamed id).get F.NAV_BASE_ID_ID = id ∧ s.Puts (s.stationNamed id) [R.NAV_BASE_ID] := by
  refine ⟨?_, .trans (.setWord s _ (.head _)) (.put _ _ (.head _))⟩
  rw [State.stationNamed, State.get_put_same _ _ _ (by decide)]
  exact Nat.mod_eq_of_lt hId

/-- The position, the ambiguities and the MSM of the former station are discarded. -/
def State.stationLeft (s : State) : State :=
  let s := s.setWords R.NAV_BASE_X_LO [0, 0, 0, 0, 0, 0]
  s.modNav fun n => { n with msm := none, rtkAmb := s.now, abAmb := s.now }

theorem State.stationLeft_effect (s : State) :
    s.stationLeft = { s with regs := s.stationLeft.regs, nav := { s.nav with msm := none, rtkAmb := s.now, abAmb := s.now } } ∧
    s.regsKept s.stationLeft baseRegs := by
  obtain ⟨hFrame, hKept⟩ := s.baseCleared_puts
  have hLeft : s.stationLeft = { s.setWords R.NAV_BASE_X_LO [0, 0, 0, 0, 0, 0] with
      nav := { (s.setWords R.NAV_BASE_X_LO [0, 0, 0, 0, 0, 0]).nav with
        msm := none, rtkAmb := (s.setWords R.NAV_BASE_X_LO [0, 0, 0, 0, 0, 0]).now
        abAmb := (s.setWords R.NAV_BASE_X_LO [0, 0, 0, 0, 0, 0]).now } } := rfl
  rw [hLeft]
  generalize s.setWords R.NAV_BASE_X_LO [0, 0, 0, 0, 0, 0] = u at *
  exact ⟨by rw [hFrame]; rfl, hKept.of_regs rfl⟩

/-- The station of a message is the base station; one that is another than before discards what rests on the old one. -/
theorem State.rtcmStation_effect (s : State) {id : Nat} (hId : id < 4096) :
    (s.rtcmStation id).get F.NAV_BASE_ID_ID = id ∧
    (s.rtcmStation id).nav = (if s.get F.NAV_BASE_ID_ID = id then s.nav else { s.nav with msm := none, rtkAmb := s.now, abAmb := s.now }) ∧
    s.rtcmStation id = { s with regs := (s.rtcmStation id).regs, nav := (s.rtcmStation id).nav } ∧
    s.regsKept (s.rtcmStation id) (baseRegs ++ [R.NAV_BASE_ID]) := by
  have hStation : s.rtcmStation id = if s.get F.NAV_BASE_ID_ID = id then s else (s.stationNamed id).stationLeft := rfl
  rw [hStation]
  by_cases hSame : s.get F.NAV_BASE_ID_ID = id
  · rw [if_pos hSame, if_pos hSame]
    exact ⟨hSame, rfl, rfl, .refl s _⟩
  · rw [if_neg hSame, if_neg hSame]
    obtain ⟨hGet, hNamed⟩ := s.stationNamed_effect hId
    generalize s.stationNamed id = u at *
    obtain ⟨hFrame, hKept⟩ := u.stationLeft_effect
    generalize u.stationLeft = v at *
    refine ⟨(hKept.get (by decide)).trans hGet, ?_, ?_, .trans (hNamed.kept.mono (by simp)) (hKept.mono (by simp))⟩
    · rw [hFrame, hNamed.frame]
      rfl
    · rw [hFrame, hNamed.frame]

/-- The base position of message 1005 or 1006. -/
def State.basePut (s : State) (f : List Byte) : State :=
  ((s.setInt64 R.NAV_BASE_X_LO (signed 38 (bitField f 34 38))).setInt64 R.NAV_BASE_Y_LO (signed 38 (bitField f 74 38))).setInt64
    R.NAV_BASE_Z_LO (signed 38 (bitField f 114 38))

theorem State.basePut_effect (s : State) (f : List Byte) :
    (s.basePut f).int64 R.NAV_BASE_X_LO = signed 38 (bitField f 34 38) ∧
    (s.basePut f).int64 R.NAV_BASE_Y_LO = signed 38 (bitField f 74 38) ∧
    (s.basePut f).int64 R.NAV_BASE_Z_LO = signed 38 (bitField f 114 38) ∧ s.Puts (s.basePut f) baseRegs := by
  have hX := s.int64_setInt64_bitField R.NAV_BASE_X_LO 34 f
  have hXPuts : s.Puts (s.setInt64 R.NAV_BASE_X_LO (signed 38 (bitField f 34 38))) [R.NAV_BASE_X_LO, R.NAV_BASE_X_HI] :=
    .setNat64 s _ (by decide) (by decide)
  rw [State.basePut]
  generalize s.setInt64 R.NAV_BASE_X_LO (signed 38 (bitField f 34 38)) = u at *
  have hY := u.int64_setInt64_bitField R.NAV_BASE_Y_LO 74 f
  have hYPuts : u.Puts (u.setInt64 R.NAV_BASE_Y_LO (signed 38 (bitField f 74 38))) [R.NAV_BASE_Y_LO, R.NAV_BASE_Y_HI] :=
    .setNat64 u _ (by decide) (by decide)
  generalize u.setInt64 R.NAV_BASE_Y_LO (signed 38 (bitField f 74 38)) = v at *
  have hZPuts : v.Puts (v.setInt64 R.NAV_BASE_Z_LO (signed 38 (bitField f 114 38))) [R.NAV_BASE_Z_LO, R.NAV_BASE_Z_HI] :=
    .setNat64 v _ (by decide) (by decide)
  refine ⟨?_, ?_, v.int64_setInt64_bitField _ 114 f, .trans (.trans (hXPuts.mono (by simp [baseRegs])) (hYPuts.mono (by simp [baseRegs])))
    (hZPuts.mono (by simp [baseRegs]))⟩
  · rw [hZPuts.kept.int64 (by decide) (by decide), hYPuts.kept.int64 (by decide) (by decide), hX]
  · rw [hZPuts.kept.int64 (by decide) (by decide), hY]

/-- The clause on messages 1005 and 1006. -/
theorem rtcmMessage_base {f : List Byte} (s : State) (h : bitField f 0 12 = 1005 ∨ bitField f 0 12 = 1006) :
    (s.rtcmMessage f).int64 R.NAV_BASE_X_LO = signed 38 (bitField f 34 38) ∧
    (s.rtcmMessage f).int64 R.NAV_BASE_Y_LO = signed 38 (bitField f 74 38) ∧
    (s.rtcmMessage f).int64 R.NAV_BASE_Z_LO = signed 38 (bitField f 114 38) ∧
    (s.rtcmMessage f).get F.NAV_BASE_ID_ID = bitField f 12 12 ∧ (s.rtcmMessage f).flag F.NAV_BASE_ID_VALID = true ∧
    (s.rtcmMessage f).get F.NAV_RTCM_USED = min (s.get F.NAV_RTCM_USED + 1) (2 ^ F.NAV_RTCM_USED.w - 1) ∧
    (s.rtcmMessage f).nav = (if s.get F.NAV_BASE_ID_ID = bitField f 12 12 then s.nav
      else { s.nav with msm := none, rtkAmb := s.now, abAmb := s.now }) ∧
    s.rtcmMessage f = { s with regs := (s.rtcmMessage f).regs, nav := (s.rtcmMessage f).nav } ∧
    s.regsKept (s.rtcmMessage f) (baseRegs ++ [R.NAV_BASE_ID, F.NAV_RTCM_USED.addr]) := by
  have hMessage : s.rtcmMessage f =
      (((s.rtcmStation (bitField f 12 12)).basePut f).put F.NAV_BASE_ID_VALID 1).count F.NAV_RTCM_USED 1 := by
    rw [State.rtcmMessage, if_pos h, State.basePut]
  obtain ⟨hId, hNav, hFrame, hKept⟩ := s.rtcmStation_effect (bitField_lt f 12 12)
  rw [hMessage]
  generalize s.rtcmStation (bitField f 12 12) = u at *
  obtain ⟨hX, hY, hZ, hPlaced⟩ := u.basePut_effect f
  generalize u.basePut f = v at *
  have hValid : (v.put F.NAV_BASE_ID_VALID 1).flag F.NAV_BASE_ID_VALID = true := v.flag_put_one R.NAV_BASE_ID 16 (by decide)
  have hIdKept : (v.put F.NAV_BASE_ID_VALID 1).get F.NAV_BASE_ID_ID = v.get F.NAV_BASE_ID_ID :=
    v.get_put_of_apart 1 (.inr (by decide))
  have hMarked : v.Puts (v.put F.NAV_BASE_ID_VALID 1) [R.NAV_BASE_ID] := .put v _ (.head _)
  generalize v.put F.NAV_BASE_ID_VALID 1 = w at *
  obtain ⟨hUsed, hCounted⟩ := w.count_effect (f := F.NAV_RTCM_USED) (by decide)
  generalize w.count F.NAV_RTCM_USED 1 = t at *
  have hFrame' : t = { u with regs := t.regs } := by rw [hCounted.frame, hMarked.frame, hPlaced.frame]
  have hLast : v.regsKept t [R.NAV_BASE_ID, F.NAV_RTCM_USED.addr] := .trans (hMarked.kept.mono (by simp)) (hCounted.kept.mono (by simp))
  refine ⟨?_, ?_, ?_, ?_, ?_, ?_, ?_, ?_, .trans (hKept.mono (by simp [baseRegs])) (.trans (hPlaced.kept.mono (by simp)) (hLast.mono (by simp)))⟩
  · rw [hLast.int64 (by decide) (by decide), hX]
  · rw [hLast.int64 (by decide) (by decide), hY]
  · rw [hLast.int64 (by decide) (by decide), hZ]
  · rw [hCounted.kept.get (by decide), hIdKept, hPlaced.kept.get (by decide), hId]
  · rw [hCounted.kept.flag (by decide), hValid]
  · rw [hUsed, hMarked.kept.get (by decide), hPlaced.kept.get (by decide), hKept.get (by decide)]
  · rw [hFrame']
    exact hNav
  · rw [hFrame', hFrame]

/-! ## Other messages (R208, R209) -/

theorem rtcmMessage_antenna {f : List Byte} (s : State) (h : bitField f 0 12 = 1033) : s.rtcmMessage f = s := by
  rw [State.rtcmMessage, h, if_neg (by decide), if_pos rfl]

/-- The clause on an MSM of the base station that is not older than the one in use. -/
theorem rtcmMessage_msm {f : List Byte} {s : State} (h : 1074 ≤ bitField f 0 12 ∧ bitField f 0 12 ≤ 1077)
    (hSame : s.get F.NAV_BASE_ID_ID = bitField f 12 12) (hMatch : msmMatches (bitField f 0 12) f = true)
    (hNewer : ∀ m, s.nav.msm = some m → m ≤ nearestTow s.now (bitField f 24 30 % 604800000)) :
    (s.rtcmMessage f).nav = { s.nav with msm := some (nearestTow s.now (bitField f 24 30 % 604800000)) } ∧
    (s.rtcmMessage f).get F.NAV_RTCM_USED = min (s.get F.NAV_RTCM_USED + 1) (2 ^ F.NAV_RTCM_USED.w - 1) ∧
    s.rtcmMessage f = { s with regs := (s.rtcmMessage f).regs, nav := (s.rtcmMessage f).nav } ∧
    s.regsKept (s.rtcmMessage f) [F.NAV_RTCM_USED.addr] := by
  have hStation : s.rtcmStation (bitField f 12 12) = s := by rw [State.rtcmStation, if_pos hSame]
  obtain ⟨e, he⟩ : ∃ e, e = nearestTow s.now (bitField f 24 30 % 604800000) := ⟨_, rfl⟩
  have hMessage : s.rtcmMessage f = (s.modNav fun n => { n with msm := some e }).count F.NAV_RTCM_USED 1 := by
    rw [State.rtcmMessage, if_neg (by omega), if_neg (by omega), if_pos (.inl h), hStation, hMatch]
    simp only [show ¬ 1124 ≤ bitField f 0 12 by omega, if_false, Nat.add_zero, ← he, Bool.not_true, Bool.false_eq_true]
    cases hMsm : s.nav.msm with
    | none => rfl
    | some m => exact if_neg (by have := hNewer m hMsm; omega)
  rw [← he]
  obtain ⟨u, hu⟩ : ∃ u, u = s.modNav fun n => { n with msm := some e } := ⟨_, rfl⟩
  have hNav : u = { s with nav := { s.nav with msm := some e } } := hu
  obtain ⟨hUsed, hCounted⟩ := u.count_effect (f := F.NAV_RTCM_USED) (by decide)
  have hKept : s.regsKept u [F.NAV_RTCM_USED.addr] := fun a _ => by rw [hNav]; rfl
  rw [hMessage, ← hu]
  refine ⟨by rw [hCounted.frame, hNav], hUsed.trans ?_, by rw [hCounted.frame, hNav], hKept.trans hCounted.kept⟩
  rw [hNav]
  rfl

/-- The clause on messages that NAV ignores. -/
theorem rtcmMessage_ignored {f : List Byte} (s : State) (h : bitField f 0 12 < 1005 ∨ 1127 < bitField f 0 12) :
    (s.rtcmMessage f).get F.NAV_RTCM_IGN = min (s.get F.NAV_RTCM_IGN + 1) (2 ^ F.NAV_RTCM_IGN.w - 1) ∧
    s.Puts (s.rtcmMessage f) [F.NAV_RTCM_IGN.addr] := by
  have hMessage : s.rtcmMessage f = s.count F.NAV_RTCM_IGN 1 := by
    rw [State.rtcmMessage, if_neg (by omega), if_neg (by omega), if_neg (by omega)]
  rw [hMessage]
  exact s.count_effect (by decide)

end Sys2Proof.Machine
end

section
/-! Samples of the IMU and their loss (R216, R217, R235). -/

namespace Sys2Proof.Machine

open Sys2Proof

/-! ## A sample (R216) -/

/-- The words of a sample's six axes. -/
def State.imuMapped (s : State) (raw : List Byte) : List Nat := (List.range 6).map fun k =>
  ((imuWords (s.flag F.NAV_IMU_FMT_BE) raw).take (s.get F.NAV_IMU_FMT_WORDS)).getD (s.nat R.NAV_IMU_MAP / 2 ^ (4 * k) % 8) 0

/-- The command bytes of a transaction are noted. -/
def State.imuAsked (s : State) : State :=
  s.modNav fun n => { n with imuSent := (leBytes 4 (s.nat R.NAV_IMU_CMD)).take (s.get F.NAV_IMU_FMT_CMD_LEN) }

/-- Axis `k` of a sample whose word for it is `w`. -/
def State.imuAxis (s : State) (w k : Nat) : Int :=
  (if nbit (s.nat R.NAV_IMU_MAP) (4 * k + 3) then -signed 16 w else signed 16 w) *
    (if k < 3 then s.nat R.NAV_IMU_GSCL else s.nat R.NAV_IMU_ASCL)

theorem State.imuSample_eq (s : State) (raw : List Byte) : s.imuSample raw =
    if (s.imuMapped raw).all (· == 0) || (s.imuMapped raw).all (· == 0xFFFF) || !s.flag F.PWR_STAT_VIO_OK then s.imuAsked.count F.NAV_IMU_BAD 1
    else s.imuAsked.modNav fun n => { n with
      imu := (List.range 6).map fun k => s.imuAxis (((imuWords (s.flag F.NAV_IMU_FMT_BE) raw).take
        (s.get F.NAV_IMU_FMT_WORDS)).getD (s.nat R.NAV_IMU_MAP / 2 ^ (4 * k) % 8) 0) k
      imuTag := s.now, imuAt := s.clk, imuGood := some s.clk, imuLost := false } := rfl

theorem exec_imuSample (raw : List Byte) {s : State} (hRuns : s.runs .nav = true) (hReleased : s.released = true)
    (hEn : s.flag F.NAV_CTRL_IMU_EN = true) : exec (.imuSample raw) s = .next (s.imuSample raw) := by
  show execImuSample raw s = _
  rw [execImuSample, if_pos (by rw [hRuns, hReleased, hEn]; rfl)]

/-! ## A bad sample -/

theorem imuWords_of_zeros (be : Bool) : ∀ raw : List Byte, (∀ b ∈ raw, b = 0) → ∀ w ∈ imuWords be raw, w = 0
  | [], _, w, hw => absurd hw List.not_mem_nil
  | [_], _, w, hw => absurd hw List.not_mem_nil
  | a :: b :: t, h, w, hw => by
    have hWord : (if be then a.toNat * 256 + b.toNat else a.toNat + 256 * b.toNat) = 0 := by
      rw [h a (by simp), h b (by simp)]
      cases be <;> rfl
    rw [imuWords, hWord] at hw
    rcases List.mem_cons.mp hw with hw | hw
    · exact hw
    · exact imuWords_of_zeros be t (fun c hc => h c (List.mem_cons_of_mem _ (List.mem_cons_of_mem _ hc))) w hw

theorem getD_of_zeros {l : List Nat} (h : ∀ w ∈ l, w = 0) (i : Nat) : l.getD i 0 = 0 := by
  rw [List.getD_eq_getElem?_getD]
  cases hi : l[i]? with
  | none => rfl
  | some w => exact h w (List.mem_of_getElem? hi)

/-- The clause on a sample of bytes 0x00 only. -/
theorem imuSample_zeros {raw : List Byte} {s : State} (hRuns : s.runs .nav = true) (hReleased : s.released = true)
    (hEn : s.flag F.NAV_CTRL_IMU_EN = true) (hZeros : ∀ b ∈ raw, b = 0) :
    ∃ t, exec (.imuSample raw) s = .next t ∧
      t.get F.NAV_IMU_BAD = min (s.get F.NAV_IMU_BAD + 1) (2 ^ F.NAV_IMU_BAD.w - 1) ∧
      t = { s with regs := t.regs, nav := { s.nav with imuSent := t.nav.imuSent } } ∧ s.regsKept t [F.NAV_IMU_BAD.addr] := by
  have hMapped : (s.imuMapped raw).all (· == 0) = true := by
    simp only [State.imuMapped, List.all_map, List.all_eq_true, Function.comp_apply, beq_iff_eq]
    exact fun k _ => getD_of_zeros (fun w hw => imuWords_of_zeros _ raw hZeros w (List.mem_of_mem_take hw)) _
  obtain ⟨hCount, hPuts⟩ := s.imuAsked.count_effect (f := F.NAV_IMU_BAD) (by decide)
  refine ⟨s.imuAsked.count F.NAV_IMU_BAD 1, ?_, hCount, ?_, hPuts.kept⟩
  · rw [exec_imuSample raw hRuns hReleased hEn, State.imuSample_eq, if_pos (by rw [hMapped]; rfl)]
  · rw [hPuts.frame]
    rfl

/-! ## A good sample -/

theorem imuWord_first {n m w : Nat} (hn : 1 ≤ n) (hm : m % 16 = 0) (l : List Nat) :
    ((w :: l).take n).getD (m / 2 ^ (4 * 0) % 8) 0 = w := by
  have hIndex : m / 2 ^ (4 * 0) % 8 = 0 := by
    rw [Nat.mul_zero, Nat.pow_zero, Nat.div_one]
    omega
  obtain ⟨k, rfl⟩ : ∃ k, n = k + 1 := ⟨n - 1, by omega⟩
  rw [hIndex, List.take_succ_cons, List.getD_cons_zero]

/-- The clause on a good sample. -/
theorem imuSample_good {lo hi : Byte} {rest : List Byte} {s : State} (hRuns : s.runs .nav = true) (hReleased : s.released = true)
    (hEn : s.flag F.NAV_CTRL_IMU_EN = true) (hVio : s.flag F.PWR_STAT_VIO_OK = true) (hBe : s.flag F.NAV_IMU_FMT_BE = false)
    (hWords : 1 ≤ s.get F.NAV_IMU_FMT_WORDS) (hMap : s.nat R.NAV_IMU_MAP % 16 = 0) (hSome : lo.toNat + 256 * hi.toNat ≠ 0)
    (hFull : lo.toNat + 256 * hi.toNat ≠ 0xFFFF) :
    ∃ t, exec (.imuSample (lo :: hi :: rest)) s = .next t ∧ t.imuOk = true ∧
      t.nav.imu.head? = some (signed 16 (lo.toNat + 256 * hi.toNat) * s.nat R.NAV_IMU_GSCL) ∧ t.nav.imuTag = s.now ∧
      t.nav.imuAt = s.clk ∧ t.nav.imuLost = false ∧ t = { s with nav := t.nav } := by
  have hFirst := imuWord_first (w := lo.toNat + 256 * hi.toNat) hWords hMap (imuWords false rest)
  have hSplit : imuWords (s.flag F.NAV_IMU_FMT_BE) (lo :: hi :: rest) = (lo.toNat + 256 * hi.toNat) :: imuWords false rest := by
    rw [hBe, imuWords, if_neg Bool.false_ne_true]
  have hMember : lo.toNat + 256 * hi.toNat ∈ s.imuMapped (lo :: hi :: rest) := by
    rw [State.imuMapped, hSplit]
    exact List.mem_map.mpr ⟨0, by decide, hFirst⟩
  have hNotAll : ∀ v, lo.toNat + 256 * hi.toNat ≠ v → (s.imuMapped (lo :: hi :: rest)).all (· == v) = false := fun v hv =>
    List.all_eq_false.mpr ⟨_, hMember, by simpa using hv⟩
  have hPositive : nbit (s.nat R.NAV_IMU_MAP) (4 * 0 + 3) = false := by
    rw [nbit, Nat.mul_zero, Nat.zero_add, beq_eq_false_iff_ne]
    omega
  have hRun := exec_imuSample (lo :: hi :: rest) hRuns hReleased hEn
  rw [State.imuSample_eq, if_neg (by rw [hNotAll 0 hSome, hNotAll _ hFull, hVio]; decide), hSplit] at hRun
  refine ⟨_, hRun, ?_, ?_, rfl, rfl, rfl, rfl⟩
  · show (!decide (s.clk + 10 * msec ≤ s.clk)) = true
    rw [decide_eq_false (by rw [msec]; omega)]
    rfl
  · show some (s.imuAxis _ 0) = _
    rw [hFirst, State.imuAxis, hPositive, if_neg Bool.false_ne_true, if_pos (by decide)]

/-! ## The loss of the samples (R217, R147) -/

/-- The clause on 10 ms without a good sample. -/
theorem imuLost_effect {s : State} (hKind : s.kind .nav = 1) (hEn : s.flag F.NAV_CTRL_IMU_EN = true)
    (hLate : s.nav.imuAt + 10 * msec ≤ s.clk) (hFirst : s.nav.imuLost = false) :
    ∃ t, exec .imuLost s = .next t ∧ s.occurred t 72 ∧ ((∀ g, s.nav.imuGood = some g → g ≤ s.nav.imuAt) → t.imuOk = false) ∧
      t = { s with regs := t.regs, occ := t.occ, nav := { s.nav with imuLost := true } } ∧ s.regsKept t [(evBit 72).addr] := by
  obtain ⟨u, hu⟩ : ∃ u, u = s.modNav fun n => { n with imuLost := true } := ⟨_, rfl⟩
  have hNav : u = { s with nav := { s.nav with imuLost := true } } := hu
  have hRegs : s.regsKept u [(evBit 72).addr] := fun a _ => by rw [hNav]; rfl
  have hKind' : u.kind .nav = 1 := (hRegs.kind (by decide) (by decide) (by rw [hNav]) .nav).trans hKind
  obtain ⟨hFlag, hOcc⟩ := State.raise_of_navPresent (e := 72) hKind' (by decide)
  have hRun : exec .imuLost s = .next (u.raise 72) := by
    have hPassed : s.passed s.nav.imuAt (10 * msec) = true := decide_eq_true hLate
    show execImuLost s = _
    rw [execImuLost, if_pos (by rw [State.present, hKind, hEn, hPassed, hFirst]; rfl), ← hu]
  have hChanges := u.raise_changes 72
  refine ⟨_, hRun, ⟨hFlag, hOcc.trans (by rw [hNav])⟩, fun hGood => ?_, by rw [hChanges, hNav], hRegs.trans (.raise u (.head _))⟩
  have hKeptGood : (u.raise 72).nav.imuGood = s.nav.imuGood := by rw [hChanges, hNav]
  have hKeptClk : (u.raise 72).clk = s.clk := by rw [hChanges, hNav]
  rw [State.imuOk, hKeptGood]
  cases hLast : s.nav.imuGood with
  | none => rfl
  | some g =>
    have := hGood g hLast
    show (!decide (g + 10 * msec ≤ (u.raise 72).clk)) = false
    rw [hKeptClk, decide_eq_true (by omega)]
    rfl

/-- The clause on a loss that is raised already, or not yet due. -/
theorem imuLost_idle {s : State} (h : s.nav.imuLost = true ∨ s.clk < s.nav.imuAt + 10 * msec) : exec .imuLost s = .next s := by
  have hIdle : ¬ (s.present .nav && s.flag F.NAV_CTRL_IMU_EN && s.passed s.nav.imuAt (10 * msec) && !s.nav.imuLost) = true := by
    simp only [State.passed, Bool.and_eq_true, decide_eq_true_eq, Bool.not_eq_true', not_and, Bool.not_eq_false]
    exact fun hDue => h.resolve_right (by omega)
  show execImuLost s = _
  rw [execImuLost, if_neg hIdle]

end Sys2Proof.Machine
end

section
/-! What a pose shows: its words, its heading and heading source, and its position (R213 to R215). -/

namespace Sys2Proof.Machine

open Sys2Proof

/-! ## The words of a pose -/

theorem State.regsKept.nat64 {s t : State} {as : List Nat} (h : s.regsKept t as) {a : Nat} (hLow : a ∉ as) (hHigh : a + 4 ∉ as) :
    t.nat64 a = s.nat64 a := by
  rw [State.nat64, State.nat, State.nat, h a hLow, h (a + 4) hHigh, State.nat64, State.nat, State.nat]

/-- Tag, heading, attitude and speed are shown. -/
def State.poseMotion (s : State) (roll pitch yaw : Int) : State :=
  let s := (s.setNat64 R.NAV_POSE_T_LO s.now).put F.NAV_POSE_HDG_HDG ((divOpen 230 s.nav.hdg 1000).toNat % 36000)
  let s := ((s.puts F.NAV_POSE_HDG_PITCH pitch).puts F.NAV_POSE_ROLL roll).puts F.NAV_POSE_SPD_YAW yaw
  s.puts F.NAV_POSE_SPD_SPD s.fusedSpeed

theorem State.gets_puts_signed (s : State) (f : Fld) {v : Nat} (hf : f.lo + f.w ≤ 32) (hw : 0 < f.w) (hv : v < 2 ^ f.w) :
    (s.puts f (signed f.w v)).gets f = signed f.w v := by
  rw [State.gets, State.puts, State.get_put_same s f _ hf, Nat.mod_eq_of_lt (code_lt _ _), signed_code_signed hw hv]

theorem State.poseMotion_effect (s : State) (roll pitch yaw : Int) :
    (s.poseMotion roll pitch yaw).nat64 R.NAV_POSE_T_LO = s.now ∧
    (s.poseMotion roll pitch yaw).get F.NAV_POSE_HDG_HDG = (divOpen 230 s.nav.hdg 1000).toNat % 36000 ∧
    (s.poseMotion roll pitch yaw).gets F.NAV_POSE_SPD_SPD = s.fusedSpeed ∧
    s.Puts (s.poseMotion roll pitch yaw) [R.NAV_POSE_T_LO, R.NAV_POSE_T_HI, R.NAV_POSE_HDG, R.NAV_POSE_ROLL, R.NAV_POSE_SPD] := by
  obtain ⟨h, hh⟩ : ∃ h, h = (divOpen 230 s.nav.hdg 1000).toNat % 36000 := ⟨_, rfl⟩
  obtain ⟨u, hu⟩ : ∃ u, u = s.setNat64 R.NAV_POSE_T_LO s.now := ⟨_, rfl⟩
  obtain ⟨v, hv⟩ : ∃ v, v = u.put F.NAV_POSE_HDG_HDG h := ⟨_, rfl⟩
  obtain ⟨w, hw⟩ : ∃ w, w = ((v.puts F.NAV_POSE_HDG_PITCH pitch).puts F.NAV_POSE_ROLL roll).puts F.NAV_POSE_SPD_YAW yaw := ⟨_, rfl⟩
  have hMotion : s.poseMotion roll pitch yaw = w.puts F.NAV_POSE_SPD_SPD w.fusedSpeed := by rw [hw, hv, hu, hh]; rfl
  have hTag : u.nat64 R.NAV_POSE_T_LO = s.now := by
    rw [hu, State.nat64_setNat64_same, State.now, Nat.mod_mod]
  have hTagPuts : s.Puts u [R.NAV_POSE_T_LO, R.NAV_POSE_T_HI] := hu ▸ .setNat64 s _ (by decide) (by decide)
  have hHdg : v.get F.NAV_POSE_HDG_HDG = h := by
    rw [hv, State.get_put_same _ _ _ (by decide)]
    exact Nat.mod_eq_of_lt (show h < 65536 by omega)
  have hHdgPuts : u.Puts v [R.NAV_POSE_HDG] := hv ▸ .put u _ (.head _)
  have hHdgKept : w.get F.NAV_POSE_HDG_HDG = v.get F.NAV_POSE_HDG_HDG := by
    rw [hw, State.puts, State.get_put_addr _ _ (by decide), State.puts, State.get_put_addr _ _ (by decide), State.puts,
      State.get_put_of_apart _ _ (.inr (by decide))]
  have hAttitude : v.Puts w [R.NAV_POSE_HDG, R.NAV_POSE_ROLL, R.NAV_POSE_SPD] := by
    rw [hw]
    exact .trans (.trans (.put v _ (by decide)) (.put _ _ (by decide))) (.put _ _ (by decide))
  have hSpeed : w.fusedSpeed = s.fusedSpeed := by
    rw [State.fusedSpeed, hAttitude.kept.get (by decide), hHdgPuts.kept.get (by decide), hTagPuts.kept.get (by decide), State.fusedSpeed]
  have hShown : (w.puts F.NAV_POSE_SPD_SPD w.fusedSpeed).gets F.NAV_POSE_SPD_SPD = w.fusedSpeed :=
    w.gets_puts_signed F.NAV_POSE_SPD_SPD (by decide) (by decide) (w.get_lt F.FBK_FUS_OUT)
  have hSpeedPuts : w.Puts (w.puts F.NAV_POSE_SPD_SPD w.fusedSpeed) [R.NAV_POSE_SPD] := .put w _ (.head _)
  rw [hMotion, ← hh]
  generalize w.puts F.NAV_POSE_SPD_SPD w.fusedSpeed = t at *
  refine ⟨?_, ?_, hShown.trans hSpeed, .trans (hTagPuts.mono (by simp)) (.trans (hHdgPuts.mono (by simp))
    (.trans (hAttitude.mono (by simp)) (hSpeedPuts.mono (by simp))))⟩
  · rw [hSpeedPuts.kept.nat64 (by decide) (by decide), hAttitude.kept.nat64 (by decide) (by decide),
      hHdgPuts.kept.nat64 (by decide) (by decide), hTag]
  · rw [hSpeedPuts.kept.get (by decide), hHdgKept, hHdg]

/-- Quality, heading source and what belongs to them are shown. -/
def State.poseJudged (s : State) (q src : Nat) (jump : Bool) : State :=
  let s := (((s.put F.NAV_POSE_Q_PQ q).put F.NAV_POSE_Q_HSRC src).putB F.NAV_POSE_Q_JUMP jump).put F.NAV_POSE_Q_TQ s.tq
  (s.putB F.NAV_POSE_Q_BLEND (decide (s.nav.blendAge < s.nav.blendLen))).putSat F.NAV_POSE_Q_DR_TRAVEL (divOpen 231 s.nav.dr 100000).toNat

theorem State.poseJudged_effect (s : State) (q src : Nat) (jump : Bool) :
    (s.poseJudged q src jump).get F.NAV_POSE_Q_PQ = q % 8 ∧ (s.poseJudged q src jump).get F.NAV_POSE_Q_HSRC = src % 8 ∧
    (s.poseJudged q src jump).flag F.NAV_POSE_Q_JUMP = jump ∧ (s.poseJudged q src jump).get F.NAV_POSE_Q_TQ = s.tq ∧
    s.Puts (s.poseJudged q src jump) [R.NAV_POSE_Q] := by
  obtain ⟨b, d, hJudged⟩ : ∃ b d, s.poseJudged q src jump = (((((s.put F.NAV_POSE_Q_PQ q).put F.NAV_POSE_Q_HSRC src).putB
      F.NAV_POSE_Q_JUMP jump).put F.NAV_POSE_Q_TQ s.tq).put F.NAV_POSE_Q_BLEND b).put F.NAV_POSE_Q_DR_TRAVEL d := ⟨_, _, rfl⟩
  have hTq : s.tq % 2 ^ 3 = s.tq := Nat.mod_eq_of_lt (s.get_lt F.NAV_TIME_STAT_TQ)
  rw [hJudged]
  refine ⟨?_, ?_, ?_, ?_, .trans (.trans (.trans (.trans (.trans (.put s _ (.head _)) (.put _ _ (.head _))) (.put _ _ (.head _)))
    (.put _ _ (.head _))) (.put _ _ (.head _))) (.put _ _ (.head _))⟩
  · rw [State.get_put_of_apart _ _ (.inr (by decide)), State.get_put_of_apart _ _ (.inr (by decide)),
      State.get_put_of_apart _ _ (.inr (by decide)), State.putB, State.get_put_of_apart _ _ (.inr (by decide)),
      State.get_put_of_apart _ _ (.inr (by decide)), State.get_put_same _ _ _ (by decide)]
    rfl
  · rw [State.get_put_of_apart _ _ (.inr (by decide)), State.get_put_of_apart _ _ (.inr (by decide)),
      State.get_put_of_apart _ _ (.inr (by decide)), State.putB, State.get_put_of_apart _ _ (.inr (by decide)),
      State.get_put_same _ _ _ (by decide)]
    rfl
  · rw [State.flag_put_of_apart _ _ (.inr (by decide)), State.flag_put_of_apart _ _ (.inr (by decide)),
      State.flag_put_of_apart _ _ (.inr (by decide)), State.flag_putB_same _ _ _ (by decide) (by decide)]
  · rw [State.get_put_of_apart _ _ (.inr (by decide)), State.get_put_of_apart _ _ (.inr (by decide)), State.get_put_same _ _ _ (by decide)]
    exact hTq

/-- Both uncertainties are shown. -/
def State.poseDoubted (s : State) (hor hdg : Nat) : State := (s.put F.NAV_POSE_UNC_HOR hor).put F.NAV_POSE_UNC_HDG hdg

theorem State.poseDoubted_effect (s : State) (hor hdg : Nat) :
    (s.poseDoubted hor hdg).get F.NAV_POSE_UNC_HOR = hor % 65536 ∧ (s.poseDoubted hor hdg).get F.NAV_POSE_UNC_HDG = hdg % 65536 ∧
    s.Puts (s.poseDoubted hor hdg) [R.NAV_POSE_UNC] := by
  refine ⟨?_, ?_, .trans (.put s _ (.head _)) (.put _ _ (.head _))⟩
  · rw [State.poseDoubted, State.get_put_of_apart _ _ (.inr (by decide)), State.get_put_same _ _ _ (by decide)]
    rfl
  · rw [State.poseDoubted, State.get_put_same _ _ _ (by decide)]
    rfl

/-- A pose takes up what came since the last one. -/
def State.poseClosed (s : State) (yaw : Int) : State :=
  s.modNav fun n => { n with sol := none, abNew := false, hist := ((s.fusedSpeed, yaw) :: n.hist).take 64 }

/-- The words of a pose, beside its position. -/
def poseRegs : List Nat := [R.NAV_POSE_T_LO, R.NAV_POSE_T_HI, R.NAV_POSE_HDG, R.NAV_POSE_ROLL, R.NAV_POSE_SPD, R.NAV_POSE_Q, R.NAV_POSE_UNC]

/-- From `v`, which holds the position, to `t` a pose of quality and horizontal uncertainty `q` and heading source `src` is shown. -/
structure State.PoseShown (v t : State) (q : Nat × Nat) (src : Nat) (jump imu : Bool) (yaw : Int) : Prop where
  tag : t.nat64 R.NAV_POSE_T_LO = v.now
  hdg : t.get F.NAV_POSE_HDG_HDG = (divOpen 230 v.nav.hdg 1000).toNat % 36000
  speed : t.gets F.NAV_POSE_SPD_SPD = v.fusedSpeed
  pq : t.get F.NAV_POSE_Q_PQ = q.1 % 8
  hsrc : t.get F.NAV_POSE_Q_HSRC = src % 8
  jump : t.flag F.NAV_POSE_Q_JUMP = jump
  tq : t.get F.NAV_POSE_Q_TQ = v.tq
  hor : t.get F.NAV_POSE_UNC_HOR = q.2 % 65536
  unc : t.get F.NAV_POSE_UNC_HDG = v.headingUnc src imu % 65536
  nav : t.nav = { v.nav with sol := none, abNew := false, hist := ((v.fusedSpeed, yaw) :: v.nav.hist).take 64 }
  frame : t = { v with regs := t.regs, nav := t.nav }
  kept : v.regsKept t poseRegs

/-- The words of a pose whose position stands are written, and the pose is done. -/
def State.poseWritten (s : State) (q : Nat × Nat) (src : Nat) (jump imu : Bool) (roll pitch yaw : Int) : State :=
  let s := (s.poseMotion roll pitch yaw).poseJudged q.1 src jump
  (s.poseDoubted q.2 (s.headingUnc src imu)).poseClosed yaw

theorem State.poseWritten_shows (v : State) (q : Nat × Nat) (src : Nat) (jump imu : Bool) (roll pitch yaw : Int) :
    v.PoseShown (v.poseWritten q src jump imu roll pitch yaw) q src jump imu yaw := by
  obtain ⟨hTag, hHdg, hSpeed, hMotion⟩ := v.poseMotion_effect roll pitch yaw
  rw [State.poseWritten]
  generalize v.poseMotion roll pitch yaw = a at *
  obtain ⟨hPq, hSrc, hJump, hTq, hJudged⟩ := a.poseJudged_effect q.1 src jump
  generalize a.poseJudged q.1 src jump = b at *
  have hFrameB : b = { v with regs := b.regs } := by rw [hJudged.frame, hMotion.frame]
  have hUnc : b.headingUnc src imu = v.headingUnc src imu := by
    rw [hFrameB]
    rfl
  rw [hUnc]
  obtain ⟨hHor, hUncHdg, hDoubted⟩ := b.poseDoubted_effect q.2 (v.headingUnc src imu)
  generalize b.poseDoubted q.2 (v.headingUnc src imu) = c at *
  have hClosed : c.poseClosed yaw = { c with nav := { c.nav with
      sol := none, abNew := false, hist := ((c.fusedSpeed, yaw) :: c.nav.hist).take 64 } } :=
    rfl
  have hRegs : (c.poseClosed yaw).regs = c.regs := rfl
  generalize c.poseClosed yaw = t at *
  have hWords : c.regsKept t [] := (State.regsKept.refl c []).of_regs hRegs
  have hShown : b.regsKept t [R.NAV_POSE_UNC] := hDoubted.kept.trans (hWords.mono (by simp))
  have hLast : a.regsKept t [R.NAV_POSE_Q, R.NAV_POSE_UNC] := .trans (hJudged.kept.mono (by simp)) (hShown.mono (by simp))
  have hFrame : c = { v with regs := c.regs } := by rw [hDoubted.frame, hFrameB]
  have hKept : v.regsKept t poseRegs := .trans (hMotion.kept.mono (by simp [poseRegs])) (hLast.mono (by simp [poseRegs]))
  have hNav : c.nav = v.nav := by rw [hFrame]
  have hFused : c.fusedSpeed = v.fusedSpeed := by
    rw [State.fusedSpeed, ← hWords.get (by decide), hKept.get (by decide), State.fusedSpeed]
  have hSpeedKept : t.gets F.NAV_POSE_SPD_SPD = a.gets F.NAV_POSE_SPD_SPD := by rw [State.gets, hLast.get (by decide), State.gets]
  have hTqKept : a.tq = v.tq := hMotion.kept.get (f := F.NAV_TIME_STAT_TQ) (by decide)
  refine ⟨(hLast.nat64 (by decide) (by decide)).trans hTag, (hLast.get (by decide)).trans hHdg, hSpeedKept.trans hSpeed,
    (hShown.get (by decide)).trans hPq, (hShown.get (by decide)).trans hSrc, (hShown.flag (by decide)).trans hJump,
    (hShown.get (by decide)).trans (hTq.trans hTqKept), (hWords.get (by decide)).trans hHor, (hWords.get (by decide)).trans hUncHdg, ?_, ?_, hKept⟩
  · rw [hClosed, hFused, hNav]
  · rw [hClosed, hFrame]

/-- A pose is its heading, its quality, its position, and the words that show them. -/
theorem State.poseUpdate_eq {s t u v : State} {roll pitch yaw : Int} {q : Nat × Nat} {src : Nat} {jump imu : Bool}
    (hImu : (s.flag F.NAV_CTRL_IMU_EN && s.imuOk) = imu) (hHeading : s.poseHeading s.nav.sol (if imu then yaw else 0) = (src, t))
    (hQuality : t.poseQuality = (q, u)) (hHeld : (q.1 == 0 && u.nav.last.isSome) = false)
    (hPosition : u.posePosition s.nav.sol src (if imu then pitch else 0) (if imu then roll else 0) (if imu then yaw else 0) = (jump, v)) :
    s.poseUpdate roll pitch yaw =
      v.poseWritten q src jump imu (if imu then roll else 0) (if imu then pitch else 0) (if imu then yaw else 0) := by
  rw [State.poseUpdate, hImu]
  simp only [hHeading, hQuality, hHeld, Bool.false_eq_true, if_false, hPosition]
  rfl

/-! ## The heading (R213) -/

/-- With an A–B heading, or with HDG_EN = 0, the watch starts anew. -/
theorem State.headingWatch_kept {s : State} {ab : Bool} (h : ab = true ∨ s.flag F.NAV_CTRL_HDG_EN = false) :
    s.headingWatch ab = s.modNav fun n => { n with noAbMs := 0 } := by
  have hFresh : (ab || !s.flag F.NAV_CTRL_HDG_EN) = true := by
    rcases h with h | h <;> rw [h]
    · rfl
    · exact Bool.or_true ab
  have hQuiet : ∀ t : State, t.nav.noAbMs = 0 → t.raiseIf (t.flag F.NAV_CTRL_HDG_EN && t.nav.noAbMs == 1000) 69 = t := fun t ht => by
    rw [ht, State.raiseIf, if_neg (by rw [Bool.and_eq_true]; exact fun hb => absurd hb.2 (by decide))]
  rw [State.headingWatch, hFresh]
  exact hQuiet _ rfl

/-- The state of a pose without a heading source. -/
theorem State.poseHeading_none {s : State} {x : Option NavSolution} {yaw : Int} (hAb : s.nav.ab = none) (hHdg : s.nav.hdgAt = 0)
    (hEn : s.flag F.NAV_CTRL_HDG_EN = false) (hSlow : ∀ y, s.nav.last = some y → y.speed < 1000 ∨ s.fusedSpeed ≤ 0) :
    s.poseHeading x yaw = (0, s.modNav fun n => { n with noAbMs := 0 }) := by
  have hNoSource : (s.modNav fun n => { n with noAbMs := 0 }).nav.hdgAt = 0 := hHdg
  rw [State.poseHeading]
  simp only [hAb, Option.isSome_none, Bool.false_and, Bool.false_eq_true, if_false, State.headingWatch_kept (.inr hEn), hNoSource,
    ne_eq, not_true_eq_false, false_and]
  cases hLast : s.nav.last with
  | none => rfl
  | some y =>
    refine if_neg ?_
    simp only [Bool.and_eq_true, decide_eq_true_eq, not_and]
    have := hSlow y hLast
    omega

/-- The state of a pose whose A–B heading has just come. -/
theorem State.poseHeading_ab {s : State} {x : Option NavSolution} {y : NavSolution} {yaw : Int} (hAb : s.nav.ab = some y)
    (hNew : s.nav.abNew = true) (hFresh : s.clk < s.nav.abAt + 3 * s.epochLen) :
    s.poseHeading x yaw = (1, s.modNav fun n => { n with
      noAbMs := 0, hdg := (((y.abAz : Int) + s.gets F.NAV_HDG_OFS) * 1000).emod 36000000 |>.toNat, hdgAt := s.clk, hdgUnc := y.abUnc }) := by
  have hPassed : s.passed s.nav.abAt (3 * s.epochLen) = false := decide_eq_false (by omega)
  rw [State.poseHeading]
  simp only [hAb, hPassed, Option.isSome_some, Bool.not_false, Bool.and_self, if_true, State.headingWatch_kept (.inl rfl)]
  have hNew' : (s.modNav fun n => { n with noAbMs := 0 }).nav.abNew = true := hNew
  have hAb' : (s.modNav fun n => { n with noAbMs := 0 }).nav.ab = some y := hAb
  have hOfs : (s.modNav fun n => { n with noAbMs := 0 }).gets F.NAV_HDG_OFS = s.gets F.NAV_HDG_OFS := rfl
  simp only [hNew', hAb', hOfs, if_true]
  rfl

/-! ## The position (R215) -/

/-- Without a blend in progress the pose is at the position given. -/
theorem State.blendStep_effect {s : State} (lat lon hgt : Int) (h : s.nav.blendLen = 0) :
    (s.blendStep lat lon hgt).int64 R.NAV_POSE_LAT_LO = signed 64 (code 64 lat) ∧
    (s.blendStep lat lon hgt).int64 R.NAV_POSE_LON_LO = signed 64 (code 64 lon) ∧
    (s.blendStep lat lon hgt).nav = { s.nav with hgt := hgt } ∧
    s.blendStep lat lon hgt = { s with regs := (s.blendStep lat lon hgt).regs, nav := (s.blendStep lat lon hgt).nav } ∧
    s.regsKept (s.blendStep lat lon hgt)
      [R.NAV_POSE_LAT_LO, R.NAV_POSE_LAT_HI, R.NAV_POSE_LON_LO, R.NAV_POSE_LON_HI, R.NAV_POSE_HGT] := by
  have hOff : decide (s.nav.blendAge < s.nav.blendLen) = false := by
    rw [h]
    exact decide_eq_false (Nat.not_lt_zero _)
  obtain ⟨u, hu⟩ : ∃ u, u = s.setInt64 R.NAV_POSE_LAT_LO lat := ⟨_, rfl⟩
  obtain ⟨v, hv⟩ : ∃ v, v = u.setInt64 R.NAV_POSE_LON_LO lon := ⟨_, rfl⟩
  obtain ⟨w, hw⟩ : ∃ w, w = v.setInt R.NAV_POSE_HGT (satS 32 (divOpen 215 hgt 1000)) := ⟨_, rfl⟩
  have hStep : s.blendStep lat lon hgt = w.modNav fun n => { n with hgt := hgt } := by
    rw [State.blendStep]
    simp only [hOff, Bool.false_eq_true, if_false, Int.add_zero]
    rw [hw, hv, hu]
  have hLat : u.int64 R.NAV_POSE_LAT_LO = signed 64 (code 64 lat) := hu ▸ s.int64_setInt64_same _ _
  have hLatPuts : s.Puts u [R.NAV_POSE_LAT_LO, R.NAV_POSE_LAT_HI] := hu ▸ .setNat64 s _ (by decide) (by decide)
  have hLon : v.int64 R.NAV_POSE_LON_LO = signed 64 (code 64 lon) := hv ▸ u.int64_setInt64_same _ _
  have hLonPuts : u.Puts v [R.NAV_POSE_LON_LO, R.NAV_POSE_LON_HI] := hv ▸ .setNat64 u _ (by decide) (by decide)
  have hHgtPuts : v.Puts w [R.NAV_POSE_HGT] := hw ▸ .setWord v _ (.head _)
  have hFrame : w = { s with regs := w.regs } := by rw [hHgtPuts.frame, hLonPuts.frame, hLatPuts.frame]
  have hMoved : w.regsKept (w.modNav fun n => { n with hgt := hgt }) [] := (State.regsKept.refl w []).of_regs rfl
  have hKept : s.regsKept w [R.NAV_POSE_LAT_LO, R.NAV_POSE_LAT_HI, R.NAV_POSE_LON_LO, R.NAV_POSE_LON_HI, R.NAV_POSE_HGT] :=
    .trans (hLatPuts.kept.mono (by simp)) (.trans (hLonPuts.kept.mono (by simp)) (hHgtPuts.kept.mono (by simp)))
  rw [hStep]
  refine ⟨?_, ?_, ?_, ?_, hKept.of_regs rfl⟩
  · rw [hMoved.int64 (by decide) (by decide), hHgtPuts.kept.int64 (by decide) (by decide), hLonPuts.kept.int64 (by decide) (by decide), hLat]
  · rw [hMoved.int64 (by decide) (by decide), hHgtPuts.kept.int64 (by decide) (by decide), hLon]
  · rw [State.modNav, hFrame]
  · rw [State.modNav, hFrame]

end Sys2Proof.Machine
end

section
/-! Poses without a solution, with a new one, and while NAV is disabled (R213 to R215, R225); O29. -/

namespace Sys2Proof.Machine

open Sys2Proof

/-! ## When there is a pose -/

/-- The clause on a tag off the 1 ms grid, or in a hold. -/
theorem poseUpdate_off (roll pitch yaw : Int) {s : State} (h : s.onGrid 16000 = false) :
    exec (.poseUpdate roll pitch yaw) s = .next s := by
  have hOff : s.atMs = false := h
  show execPoseUpdate roll pitch yaw s = _
  rw [execPoseUpdate, if_pos (by rw [hOff, Bool.not_false, Bool.or_true])]

theorem exec_poseUpdate (roll pitch yaw : Int) {s : State} (hRuns : s.runs .nav = true) (hGrid : s.onGrid 16000 = true) :
    exec (.poseUpdate roll pitch yaw) s = .next (s.poseUpdate roll pitch yaw) := by
  have hOn : s.atMs = true := hGrid
  rw [State.runs, Bool.and_eq_true] at hRuns
  show execPoseUpdate roll pitch yaw s = _
  rw [execPoseUpdate, if_neg (by rw [hRuns.1, hOn]; decide), if_pos hRuns.2]

theorem exec_poseUpdate_disabled (roll pitch yaw : Int) {s : State} (hWorks : s.works .nav = true) (hEnabled : s.enabled .nav = false)
    (hGrid : s.onGrid 16000 = true) : exec (.poseUpdate roll pitch yaw) s = .next s.poseDisabled := by
  have hOn : s.atMs = true := hGrid
  show execPoseUpdate roll pitch yaw s = _
  rw [execPoseUpdate, if_neg (by rw [hWorks, hOn]; decide), if_neg (by rw [hEnabled]; decide)]

/-- The registers of a pose's position. -/
def placeRegs : List Nat := [R.NAV_POSE_LAT_LO, R.NAV_POSE_LAT_HI, R.NAV_POSE_LON_LO, R.NAV_POSE_LON_HI, R.NAV_POSE_HGT]

theorem poseRegs_range {a : Nat} (h : a < R.NAV_POSE_T_LO ∨ R.NAV_POSE_UNC < a) : a ∉ poseRegs ∧ a ∉ placeRegs := by
  have hWithin : ∀ r ∈ poseRegs ++ placeRegs, R.NAV_POSE_T_LO ≤ r ∧ r ≤ R.NAV_POSE_UNC := by decide
  refine ⟨fun hMem => ?_, fun hMem => ?_⟩
  · have := hWithin a (List.mem_append_left _ hMem)
    omega
  · have := hWithin a (List.mem_append_right _ hMem)
    omega

theorem State.int64_code (s : State) (a : Nat) : signed 64 (code 64 (s.int64 a)) = s.int64 a := by
  have hLow : s.nat a < 2 ^ 32 := (s.word a).isLt
  have hHigh : s.nat (a + 4) < 2 ^ 32 := (s.word (a + 4)).isLt
  exact signed_code_signed (by decide) (by rw [State.nat64]; omega)

/-! ## A pose without any solution -/

/-- The clause on a pose without any solution so far and no heading. -/
theorem poseUpdate_blank (roll pitch yaw : Int) {s : State} (hRuns : s.runs .nav = true) (hGrid : s.onGrid 16000 = true)
    (hLast : s.nav.last = none) (hSol : s.nav.sol = none) (hAb : s.nav.ab = none) (hHdg : s.nav.hdgAt = 0)
    (hEn : s.flag F.NAV_CTRL_HDG_EN = false) (hBlend : s.nav.blendLen = 0) :
    ∃ t, exec (.poseUpdate roll pitch yaw) s = .next t ∧ t.nat64 R.NAV_POSE_T_LO = s.now ∧ t.get F.NAV_POSE_Q_PQ = 0 ∧
      t.get F.NAV_POSE_Q_HSRC = 0 ∧ t.get F.NAV_POSE_UNC_HOR = 0xFFFF ∧ t.get F.NAV_POSE_UNC_HDG = 0xFFFF ∧
      t.gets F.NAV_POSE_SPD_SPD = s.fusedSpeed ∧ t.int64 R.NAV_POSE_LAT_LO = s.int64 R.NAV_POSE_LAT_LO ∧
      t.int64 R.NAV_POSE_LON_LO = s.int64 R.NAV_POSE_LON_LO ∧ t.get F.NAV_POSE_Q_TQ = s.tq ∧
      t = { s with regs := t.regs, nav := t.nav } ∧
      (∀ a, (a < R.NAV_POSE_T_LO ∨ R.NAV_POSE_UNC < a) → t.word a = s.word a) := by
  obtain ⟨imu, hImu⟩ : ∃ imu, (s.flag F.NAV_CTRL_IMU_EN && s.imuOk) = imu := ⟨_, rfl⟩
  have hHeading := s.poseHeading_none (x := s.nav.sol) (yaw := if imu then yaw else 0) hAb hHdg hEn fun y hy => by
    rw [hLast] at hy
    exact absurd hy (by simp)
  obtain ⟨u, hu⟩ : ∃ u, u = s.modNav fun n => { n with noAbMs := 0 } := ⟨_, rfl⟩
  rw [← hu] at hHeading
  have hNav : u = { s with nav := { s.nav with noAbMs := 0 } } := hu
  have hLast' : u.nav.last = none := by rw [hNav, hLast]
  have hRegs : s.regsKept u [] := (State.regsKept.refl s []).of_regs (by rw [hNav])
  have hQuality : u.poseQuality = ((0, 0xFFFF), u) := by rw [State.poseQuality, hLast']
  have hPosition : u.posePosition s.nav.sol 0 (if imu then pitch else 0) (if imu then roll else 0) (if imu then yaw else 0) =
      (false, u.blendStep (u.int64 R.NAV_POSE_LAT_LO) (u.int64 R.NAV_POSE_LON_LO) u.nav.hgt) := by
    rw [hSol, State.posePosition]
    rfl
  have hRun := exec_poseUpdate roll pitch yaw hRuns hGrid
  rw [State.poseUpdate_eq hImu hHeading hQuality (by rw [hLast']; rfl) hPosition] at hRun
  obtain ⟨hLat, hLon, hPlaceNav, hPlace, hPlaceKept⟩ := State.blendStep_effect (s := u) (u.int64 R.NAV_POSE_LAT_LO)
    (u.int64 R.NAV_POSE_LON_LO) u.nav.hgt (by rw [hNav]; exact hBlend)
  generalize u.blendStep (u.int64 R.NAV_POSE_LAT_LO) (u.int64 R.NAV_POSE_LON_LO) u.nav.hgt = v at *
  obtain ⟨hTag, -, hSpeed, hPq, hSrc, -, hTq, hHor, hUnc, -, hFrame, hKept⟩ := v.poseWritten_shows (0, 0xFFFF) 0 false imu
    (if imu then roll else 0) (if imu then pitch else 0) (if imu then yaw else 0)
  generalize v.poseWritten (0, 0xFFFF) 0 false imu (if imu then roll else 0) (if imu then pitch else 0) (if imu then yaw else 0) = t at *
  have hBefore : s.regsKept v placeRegs := .trans (hRegs.mono (by simp)) hPlaceKept
  have hV : v = { s with regs := v.regs, nav := v.nav } := by rw [hPlace, hNav]
  refine ⟨t, hRun, hTag.trans (by rw [hV]; rfl), hPq, hSrc, hHor, hUnc, ?_, ?_, ?_, ?_, by rw [hFrame, hV], fun a ha => ?_⟩
  · rw [hSpeed, State.fusedSpeed, hBefore.get (by decide), State.fusedSpeed]
  · rw [hKept.int64 (by decide) (by decide), hLat, u.int64_code, hRegs.int64 (by simp) (by simp)]
  · rw [hKept.int64 (by decide) (by decide), hLon, u.int64_code, hRegs.int64 (by simp) (by simp)]
  · rw [hTq, State.tq, hBefore.get (by decide), State.tq]
  · obtain ⟨hPose, hPlaceReg⟩ := poseRegs_range ha
    rw [hKept a hPose, hBefore a hPlaceReg]

/-! ## A pose with a new solution (R215) -/

/-- What the reference point of a solution is computed from. -/
theorem State.solPosition_congr {s t : State} (hRegs : t.regs = s.regs) (hTag : t.tag = s.tag) (hHdg : t.nav.hdg = s.nav.hdg)
    (hHgt : t.nav.hgt = s.nav.hgt) (hHist : t.nav.hist = s.nav.hist) (x : NavSolution) (pitch roll : Int) :
    t.solPosition x pitch roll = s.solPosition x pitch roll := by
  simp only [State.solPosition, State.antOffset, State.int, State.int64, State.nat64, State.nat, State.word, State.now, hRegs, hTag,
    hHdg, hHgt, hHist]

theorem State.headingUnc_congr {s t : State} (hUnc : t.nav.hdgUnc = s.nav.hdgUnc) (hAt : t.nav.hdgAt = s.nav.hdgAt) (hClk : t.clk = s.clk)
    (src : Nat) (imu : Bool) : t.headingUnc src imu = s.headingUnc src imu := by
  simp only [State.headingUnc.eq_def, hUnc, hAt, hClk]

/-- A solution of the last 3 epoch periods gives the pose its quality and uncertainty. -/
theorem State.poseQuality_fresh {s : State} {y : NavSolution} {a : AntSolution} (hLast : s.nav.last = some y) (hAnt : y.antA = some a)
    (hFresh : s.clk < s.nav.solAt + 3 * s.epochLen) :
    s.poseQuality = ((s.get F.NAV_SOL_INFO_Q, min a.unc 0xFFFF), s.modNav fun n => { n with dr := 0 }) := by
  have hPassed : s.passed s.nav.solAt (3 * s.epochLen) = false := decide_eq_false (by omega)
  rw [State.poseQuality, hLast]
  simp only [hPassed, hAnt, Bool.false_eq_true, if_false]

/-- With BLEND = 0 the pose steps to the solution's reference point. -/
theorem State.posePosition_step {s : State} (y : NavSolution) (src : Nat) (pitch roll yaw : Int) (h : s.get F.NAV_POSE_CFG_BLEND = 0) :
    s.posePosition (some y) src pitch roll yaw = (true, s.blendStep (s.solPosition y pitch roll).1 (s.solPosition y pitch roll).2.1
      ((s.solPosition y pitch roll).2.2 * 1000)) := by
  rw [State.posePosition]
  exact if_pos (.inr h)

/-- A pose that steps to a new solution, where `t` is the state that its heading leaves. -/
theorem poseUpdate_steps (roll pitch yaw : Int) {y : NavSolution} {a : AntSolution} {src : Nat} {s t : State} (hRuns : s.runs .nav = true)
    (hGrid : s.onGrid 16000 = true) (hImu : s.flag F.NAV_CTRL_IMU_EN = false) (hSol : s.nav.sol = some y) (hAnt : y.antA = some a)
    (hFresh : s.clk < s.nav.solAt + 3 * s.epochLen) (hQ : s.get F.NAV_SOL_INFO_Q ≠ 0) (hBlend : s.get F.NAV_POSE_CFG_BLEND = 0)
    (hHeading : s.poseHeading s.nav.sol 0 = (src, t)) (hT : t = { s with nav := t.nav }) (hLast : t.nav.last = some y)
    (hAt : t.nav.solAt = s.nav.solAt) (hLen : t.nav.blendLen = 0) :
    ∃ r, exec (.poseUpdate roll pitch yaw) s = .next r ∧ r.nat64 R.NAV_POSE_T_LO = s.now ∧
      r.get F.NAV_POSE_Q_PQ = s.get F.NAV_SOL_INFO_Q % 2 ^ F.NAV_POSE_Q_PQ.w ∧ r.flag F.NAV_POSE_Q_JUMP = true ∧
      r.get F.NAV_POSE_UNC_HOR = min a.unc 0xFFFF ∧
      r.int64 R.NAV_POSE_LAT_LO = signed 64 (code 64 (t.solPosition y 0 0).1) ∧
      r.int64 R.NAV_POSE_LON_LO = signed 64 (code 64 (t.solPosition y 0 0).2.1) ∧
      r.nav.hgt = (t.solPosition y 0 0).2.2 * 1000 ∧ r.nav.sol = none ∧ r.nav.last = some y ∧ r.nav.hdg = t.nav.hdg ∧
      r.get F.NAV_POSE_Q_HSRC = src % 8 ∧ r.get F.NAV_POSE_UNC_HDG = t.headingUnc src false % 65536 ∧
      r.get F.NAV_POSE_HDG_HDG = (divOpen 230 t.nav.hdg 1000).toNat % 36000 ∧
      r = { s with regs := r.regs, nav := r.nav } ∧
      (∀ w, (w < R.NAV_POSE_T_LO ∨ R.NAV_POSE_UNC < w) → r.word w = s.word w) := by
  have hRegs : s.regsKept t [] := (State.regsKept.refl s []).of_regs (by rw [hT])
  have hEpoch : t.epochLen = s.epochLen := by
    rw [hT]
    rfl
  have hClk : t.clk = s.clk := by rw [hT]
  have hQuality := State.poseQuality_fresh hLast hAnt (by rw [hEpoch, hClk, hAt]; exact hFresh)
  obtain ⟨u, hu⟩ : ∃ u, u = t.modNav fun n => { n with dr := 0 } := ⟨_, rfl⟩
  rw [← hu, hRegs.get List.not_mem_nil] at hQuality
  have hNav : u = { t with nav := { t.nav with dr := 0 } } := hu
  have hRegs' : s.regsKept u [] := hRegs.of_regs (by rw [hNav])
  have hSame : u.solPosition y 0 0 = t.solPosition y 0 0 :=
    State.solPosition_congr (by rw [hNav]) (by rw [hNav]) (by rw [hNav]) (by rw [hNav]) (by rw [hNav]) y 0 0
  have hPosition := State.posePosition_step y src 0 0 0 (s := u) ((hRegs'.get List.not_mem_nil).trans hBlend)
  rw [← hSol, hSame] at hPosition
  have hRun := exec_poseUpdate roll pitch yaw hRuns hGrid
  rw [State.poseUpdate_eq (imu := false) (by rw [hImu, Bool.false_and]) hHeading hQuality
    (by rw [beq_eq_false_iff_ne.mpr hQ, Bool.false_and]) hPosition] at hRun
  obtain ⟨hLat, hLon, hPlaceNav, hPlace, hPlaceKept⟩ := State.blendStep_effect (s := u) (t.solPosition y 0 0).1
    (t.solPosition y 0 0).2.1 ((t.solPosition y 0 0).2.2 * 1000) (by rw [hNav]; exact hLen)
  generalize u.blendStep (t.solPosition y 0 0).1 (t.solPosition y 0 0).2.1 ((t.solPosition y 0 0).2.2 * 1000) = v at *
  obtain ⟨hTag, hHdg, -, hPq, hSrc, hJump, -, hHor, hUnc, hEnd, hFrame, hKept⟩ :=
    v.poseWritten_shows (s.get F.NAV_SOL_INFO_Q, min a.unc 0xFFFF) src true false 0 0 0
  have hRun' : exec (.poseUpdate roll pitch yaw) s =
      .next (v.poseWritten (s.get F.NAV_SOL_INFO_Q, min a.unc 0xFFFF) src true false 0 0 0) := hRun
  generalize v.poseWritten (s.get F.NAV_SOL_INFO_Q, min a.unc 0xFFFF) src true false 0 0 0 = r at *
  have hBefore : s.regsKept v placeRegs := .trans (hRegs'.mono (by simp)) hPlaceKept
  have hV : v = { s with regs := v.regs, nav := v.nav } := by rw [hPlace, hNav, hT]
  have hVNav : v.nav = { t.nav with dr := 0, hgt := (t.solPosition y 0 0).2.2 * 1000 } := by rw [hPlaceNav, hNav]
  have hVUnc : v.headingUnc src false = t.headingUnc src false :=
    State.headingUnc_congr (by rw [hVNav]) (by rw [hVNav]) (by rw [hV, hClk]) src false
  have hVHdg : v.nav.hdg = t.nav.hdg := by rw [hVNav]
  refine ⟨r, hRun', hTag.trans (by rw [hV]; rfl), hPq, hJump, hHor.trans (by omega), ?_, ?_, by rw [hEnd, hVNav], by rw [hEnd],
    by rw [hEnd, hVNav]; exact hLast, by rw [hEnd]; exact hVHdg, hSrc, by rw [hUnc, hVUnc], by rw [hHdg, hVHdg], by rw [hFrame, hV],
    fun w hw => ?_⟩
  · rw [hKept.int64 (by decide) (by decide), hLat]
  · rw [hKept.int64 (by decide) (by decide), hLon]
  · obtain ⟨hPose, hPlaceReg⟩ := poseRegs_range hw
    rw [hKept w hPose, hBefore w hPlaceReg]

/-- An A–B heading in 0.01° as the pose keeps it, and as it shows it. -/
theorem abHeading_shown (k : Int) : ((k * 1000).emod 36000000).toNat = (k % 36000 * 1000).toNat ∧
    (divOpen 230 ((k % 36000 * 1000).toNat : Int) 1000).toNat % 36000 = (k % 36000).toNat := by
  have hLo := Int.emod_nonneg k (by decide : (36000 : Int) ≠ 0)
  have hHi := Int.emod_lt_of_pos k (by decide : (0 : Int) < 36000)
  refine ⟨congrArg Int.toNat (show k * 1000 % 36000000 = _ by omega), ?_⟩
  rw [Int.toNat_of_nonneg (by omega), divOpen, if_pos (Int.mul_emod_left _ _), Int.mul_ediv_cancel _ (by decide)]
  omega

/-- The state whose reference point a pose steps to: the heading is the A–B heading that came with the solution. -/
def State.abTurned (s : State) (z : Option NavSolution) : State :=
  match z with
  | some x => { s with nav := { s.nav with hdg := ((x.abAz + s.gets F.NAV_HDG_OFS) % 36000 * 1000).toNat } }
  | none => s

/-- The clause on a pose with a new solution and no blend. -/
theorem poseUpdate_newSolution (roll pitch yaw : Int) {y : NavSolution} {a : AntSolution} {z : Option NavSolution} {s : State}
    (hRuns : s.runs .nav = true) (hGrid : s.onGrid 16000 = true) (hImu : s.flag F.NAV_CTRL_IMU_EN = false) (hSol : s.nav.sol = some y)
    (hLast : s.nav.last = some y) (hAnt : y.antA = some a) (hFresh : s.clk < s.nav.solAt + 3 * s.epochLen)
    (hQ : s.get F.NAV_SOL_INFO_Q ≠ 0) (hBlend : s.get F.NAV_POSE_CFG_BLEND = 0) (hLen : s.nav.blendLen = 0)
    (hSlow : y.speed < 1000 ∨ s.fusedSpeed ≤ 0) (hAb : s.nav.ab = z)
    (hNone : z = none → s.nav.hdgAt = 0 ∧ s.flag F.NAV_CTRL_HDG_EN = false)
    (hSome : ∀ x, z = some x → s.nav.abNew = true ∧ s.clk < s.nav.abAt + 3 * s.epochLen) :
    ∃ t, exec (.poseUpdate roll pitch yaw) s = .next t ∧ t.nat64 R.NAV_POSE_T_LO = s.now ∧
      t.get F.NAV_POSE_Q_PQ = s.get F.NAV_SOL_INFO_Q % 2 ^ F.NAV_POSE_Q_PQ.w ∧ t.flag F.NAV_POSE_Q_JUMP = true ∧
      t.get F.NAV_POSE_UNC_HOR = min a.unc 0xFFFF ∧
      t.int64 R.NAV_POSE_LAT_LO = signed 64 (code 64 ((s.abTurned z).solPosition y 0 0).1) ∧
      t.int64 R.NAV_POSE_LON_LO = signed 64 (code 64 ((s.abTurned z).solPosition y 0 0).2.1) ∧
      t.nav.hgt = ((s.abTurned z).solPosition y 0 0).2.2 * 1000 ∧ t.nav.sol = none ∧ t.nav.last = some y ∧
      t.nav.hdg = (s.abTurned z).nav.hdg ∧
      (z = none → t.get F.NAV_POSE_Q_HSRC = 0 ∧ t.get F.NAV_POSE_UNC_HDG = 0xFFFF) ∧
      (∀ x, z = some x → t.get F.NAV_POSE_Q_HSRC = 1 ∧ t.get F.NAV_POSE_UNC_HDG = min x.abUnc 0xFFFF ∧
        t.get F.NAV_POSE_HDG_HDG = ((x.abAz + s.gets F.NAV_HDG_OFS) % 36000).toNat) ∧
      t = { s with regs := t.regs, nav := t.nav } ∧
      (∀ w, (w < R.NAV_POSE_T_LO ∨ R.NAV_POSE_UNC < w) → t.word w = s.word w) := by
  cases z with
  | none =>
    obtain ⟨hHdg, hEn⟩ := hNone rfl
    have hHeading := s.poseHeading_none (x := s.nav.sol) (yaw := 0) hAb hHdg hEn fun y' hy' => by
      rw [hLast] at hy'
      exact Option.some.inj hy' ▸ hSlow
    obtain ⟨u, hu⟩ : ∃ u, u = s.modNav fun n => { n with noAbMs := 0 } := ⟨_, rfl⟩
    rw [← hu] at hHeading
    have hNav : u = { s with nav := { s.nav with noAbMs := 0 } } := hu
    obtain ⟨t, hRun, hTag, hPq, hJump, hHor, hLat, hLon, hHgt, hSolEnd, hLastEnd, hHdgEnd, hSrc, hUnc, -, hFrame, hWords⟩ :=
      poseUpdate_steps roll pitch yaw hRuns hGrid hImu hSol hAnt hFresh hQ hBlend hHeading (by rw [hNav]) (by rw [hNav]; exact hLast)
        (by rw [hNav]) (by rw [hNav]; exact hLen)
    have hSame : u.solPosition y 0 0 = s.solPosition y 0 0 :=
      State.solPosition_congr (by rw [hNav]) (by rw [hNav]) (by rw [hNav]) (by rw [hNav]) (by rw [hNav]) y 0 0
    rw [hSame] at hLat hLon hHgt
    exact ⟨t, hRun, hTag, hPq, hJump, hHor, hLat, hLon, hHgt, hSolEnd, hLastEnd, hHdgEnd.trans (by rw [hNav]; rfl),
      fun _ => ⟨hSrc, hUnc⟩, fun x hx => (nomatch hx), hFrame, hWords⟩
  | some x =>
    obtain ⟨hNew, hAbFresh⟩ := hSome x rfl
    obtain ⟨hKept, hShown⟩ := abHeading_shown (x.abAz + s.gets F.NAV_HDG_OFS)
    have hHeading := s.poseHeading_ab (x := s.nav.sol) (yaw := 0) hAb hNew hAbFresh
    rw [hKept] at hHeading
    obtain ⟨h, hh⟩ : ∃ h, h = ((x.abAz + s.gets F.NAV_HDG_OFS) % 36000 * 1000).toNat := ⟨_, rfl⟩
    have hTurned : s.abTurned (some x) = { s with nav := { s.nav with hdg := h } } := by rw [hh]; rfl
    rw [← hh] at hHeading hShown
    obtain ⟨u, hu⟩ : ∃ u, u = s.modNav fun n => { n with noAbMs := 0, hdg := h, hdgAt := s.clk, hdgUnc := x.abUnc } := ⟨_, rfl⟩
    rw [← hu] at hHeading
    have hNav : u = { s with nav := { s.nav with noAbMs := 0, hdg := h, hdgAt := s.clk, hdgUnc := x.abUnc } } := hu
    obtain ⟨t, hRun, hTag, hPq, hJump, hHor, hLat, hLon, hHgt, hSolEnd, hLastEnd, hHdgEnd, hSrc, hUnc, hHdgShown, hFrame, hWords⟩ :=
      poseUpdate_steps roll pitch yaw hRuns hGrid hImu hSol hAnt hFresh hQ hBlend hHeading (by rw [hNav]) (by rw [hNav]; exact hLast)
        (by rw [hNav]) (by rw [hNav]; exact hLen)
    have hSame : u.solPosition y 0 0 = (s.abTurned (some x)).solPosition y 0 0 :=
      State.solPosition_congr (by rw [hNav, hTurned]) (by rw [hNav, hTurned]) (by rw [hNav, hTurned]) (by rw [hNav, hTurned])
        (by rw [hNav, hTurned]) y 0 0
    rw [hSame] at hLat hLon hHgt
    have hUnc' : u.headingUnc 1 false = min x.abUnc 0xFFFF := by
      rw [hNav]
      rfl
    have hHdg : u.nav.hdg = h := by rw [hNav]
    refine ⟨t, hRun, hTag, hPq, hJump, hHor, hLat, hLon, hHgt, hSolEnd, hLastEnd, hHdgEnd.trans (by rw [hNav, hTurned]),
      fun hx => (nomatch hx), fun x' hx' => ?_, hFrame, hWords⟩
    obtain rfl := Option.some.inj hx'
    exact ⟨hSrc, hUnc.trans (by rw [hUnc']; omega), by rw [hHdgShown, hHdg, hShown]⟩

/-! ## A pose while NAV is disabled (R225) -/

theorem State.get_setNat_same (s : State) (a v lo w : Nat) : (s.setNat a v).get ⟨a, lo, w⟩ = v % 2 ^ 32 / 2 ^ lo % 2 ^ w := by
  rw [State.get, State.setNat, State.word_setWord_same, takeField, BitVec.toNat_ofNat]

/-- The watch over the A–B heading where it is not the source: HDG_LOST at 1 s. -/
theorem State.headingWatch_away {s : State} (hKind : s.kind .nav = 1) :
    (s.headingWatch false).nav =
      { s.nav with noAbMs := if s.flag F.NAV_CTRL_HDG_EN then min (s.nav.noAbMs + 1) 1001 else 0 } ∧
    (s.headingWatch false).occ =
      s.occ ++ (if s.flag F.NAV_CTRL_HDG_EN ∧ s.nav.noAbMs = 999 then [(69, s.tag)] else []) ∧
    s.headingWatch false =
      { s with regs := (s.headingWatch false).regs, occ := (s.headingWatch false).occ, nav := (s.headingWatch false).nav } ∧
    s.regsKept (s.headingWatch false) (if s.nav.noAbMs = 999 then [(evBit 69).addr] else []) := by
  obtain ⟨m, hm⟩ : ∃ m, m = if s.flag F.NAV_CTRL_HDG_EN then min (s.nav.noAbMs + 1) 1001 else 0 := ⟨_, rfl⟩
  obtain ⟨u, hu⟩ : ∃ u, u = s.modNav fun n => { n with noAbMs := m } := ⟨_, rfl⟩
  have hNav : u = { s with nav := { s.nav with noAbMs := m } } := hu
  have hDue : (s.flag F.NAV_CTRL_HDG_EN && m == 1000) = true ↔ s.flag F.NAV_CTRL_HDG_EN = true ∧ s.nav.noAbMs = 999 := by
    rw [hm]
    cases s.flag F.NAV_CTRL_HDG_EN with
    | false => simp
    | true =>
      simp only [if_true, Bool.true_and, beq_iff_eq, true_and]
      omega
  have hRegs : s.regsKept u [] := (State.regsKept.refl s []).of_regs (by rw [hNav])
  have hWatch : s.headingWatch false = u.raiseIf (s.flag F.NAV_CTRL_HDG_EN && m == 1000) 69 := by
    have hFlag : ∀ f, (s.modNav f).flag F.NAV_CTRL_HDG_EN = s.flag F.NAV_CTRL_HDG_EN := fun _ => rfl
    rw [hu, hm, State.headingWatch]
    simp only [hFlag]
    cases s.flag F.NAV_CTRL_HDG_EN with
    | false => rfl
    | true => rfl
  rw [hWatch, ← hm]
  by_cases h : s.flag F.NAV_CTRL_HDG_EN = true ∧ s.nav.noAbMs = 999
  · obtain ⟨-, hOcc⟩ := State.raise_of_navPresent (e := 69)
      ((hRegs.kind List.not_mem_nil List.not_mem_nil (by rw [hNav]) .nav).trans hKind) (by decide)
    have hChanges := u.raise_changes 69
    rw [hDue.mpr h, State.raiseIf, if_pos rfl, if_pos h, if_pos h.2]
    exact ⟨by rw [hChanges, hNav], hOcc.trans (by rw [hNav]), by rw [hChanges, hNav], .trans (hRegs.mono (by simp)) (.raise u (.head _))⟩
  · rw [eq_false_of_ne_true (mt hDue.mp h), State.raiseIf, if_neg Bool.false_ne_true, if_neg h, List.append_nil]
    exact ⟨by rw [hNav], by rw [hNav], by rw [hNav], hRegs.mono (by simp)⟩

/-- The clause on a pose while NAV is disabled. -/
theorem poseUpdate_disabled (roll pitch yaw : Int) {s : State} (hWorks : s.works .nav = true) (hEnabled : s.enabled .nav = false)
    (hGrid : s.onGrid 16000 = true) :
    ∃ t, exec (.poseUpdate roll pitch yaw) s = .next t ∧ t.nat64 R.NAV_POSE_T_LO = s.now ∧ t.get F.NAV_POSE_Q_PQ = 0 ∧
      t.get F.NAV_POSE_Q_HSRC = 0 ∧ t.get F.NAV_POSE_Q_TQ = s.tq ∧ t.get F.NAV_POSE_UNC_HOR = 0xFFFF ∧
      t.get F.NAV_POSE_UNC_HDG = 0xFFFF ∧
      t.nav = { s.nav with noAbMs := if s.flag F.NAV_CTRL_HDG_EN then min (s.nav.noAbMs + 1) 1001 else 0 } ∧
      t.occ = s.occ ++ (if s.flag F.NAV_CTRL_HDG_EN ∧ s.nav.noAbMs = 999 then [(69, s.tag)] else []) ∧
      t = { s with regs := t.regs, occ := t.occ, nav := t.nav } ∧
      s.regsKept t ([R.NAV_POSE_T_LO, R.NAV_POSE_T_HI, R.NAV_POSE_Q, R.NAV_POSE_UNC] ++
        if s.nav.noAbMs = 999 then [(evBit 69).addr] else []) := by
  have hRun := exec_poseUpdate_disabled roll pitch yaw hWorks hEnabled hGrid
  have hTq : s.tq < 8 := s.get_lt F.NAV_TIME_STAT_TQ
  obtain ⟨hNav, hOcc, hFrame, hKept⟩ := State.headingWatch_away (State.kind_of_works hWorks)
  rw [State.poseDisabled] at hRun
  generalize s.headingWatch false = u at *
  have hTag : (u.setNat64 R.NAV_POSE_T_LO s.now).nat64 R.NAV_POSE_T_LO = s.now := by
    rw [State.nat64_setNat64_same, State.now, Nat.mod_mod]
  have hTagPuts : u.Puts (u.setNat64 R.NAV_POSE_T_LO s.now) [R.NAV_POSE_T_LO, R.NAV_POSE_T_HI] := .setNat64 u _ (by decide) (by decide)
  generalize u.setNat64 R.NAV_POSE_T_LO s.now = v at *
  have hQ : ∀ lo w, (v.setNat R.NAV_POSE_Q (s.tq * 16)).get ⟨R.NAV_POSE_Q, lo, w⟩ = s.tq * 16 % 2 ^ 32 / 2 ^ lo % 2 ^ w :=
    v.get_setNat_same R.NAV_POSE_Q (s.tq * 16)
  have hQPuts : v.Puts (v.setNat R.NAV_POSE_Q (s.tq * 16)) [R.NAV_POSE_Q] := .setWord v _ (.head _)
  generalize v.setNat R.NAV_POSE_Q (s.tq * 16) = w at *
  have hUnc : ∀ lo k, (w.setNat R.NAV_POSE_UNC 0xFFFFFFFF).get ⟨R.NAV_POSE_UNC, lo, k⟩ = 0xFFFFFFFF % 2 ^ 32 / 2 ^ lo % 2 ^ k :=
    w.get_setNat_same R.NAV_POSE_UNC 0xFFFFFFFF
  have hUncPuts : w.Puts (w.setNat R.NAV_POSE_UNC 0xFFFFFFFF) [R.NAV_POSE_UNC] := .setWord w _ (.head _)
  generalize w.setNat R.NAV_POSE_UNC 0xFFFFFFFF = t at *
  have hPuts : t = { u with regs := t.regs } := by rw [hUncPuts.frame, hQPuts.frame, hTagPuts.frame]
  refine ⟨t, hRun, ?_, ?_, ?_, ?_, hUnc 0 16, hUnc 16 16, ?_, ?_, ?_, .trans (hKept.mono (List.subset_append_right _ _))
    (.trans (hTagPuts.kept.mono (by simp))
    (.trans (hQPuts.kept.mono (by simp)) (hUncPuts.kept.mono (by simp))))⟩
  · rw [hUncPuts.kept.nat64 (by decide) (by decide), hQPuts.kept.nat64 (by decide) (by decide), hTag]
  · exact (hUncPuts.kept.get (f := F.NAV_POSE_Q_PQ) (by decide)).trans ((hQ 0 3).trans (by omega))
  · exact (hUncPuts.kept.get (f := F.NAV_POSE_Q_HSRC) (by decide)).trans ((hQ 12 3).trans (by omega))
  · exact (hUncPuts.kept.get (f := F.NAV_POSE_Q_TQ) (by decide)).trans ((hQ 4 3).trans (by omega))
  · rw [hPuts]
    exact hNav
  · rw [hPuts]
    exact hOcc
  · rw [hPuts, hFrame]

/-! ## The obligation -/

/-- Settles O29: a measurement epoch's message is its entries placed one after another, an RTCM entry is passed and its whole frame
judged, and a pose is its heading, its quality and its position, shown in words of their own. -/
theorem epochsCorrectionsAndPoses : Obligations.EpochsCorrectionsAndPoses := by
  unfold Obligations.EpochsCorrectionsAndPoses
  refine ⟨fun m s => measurementEpoch_off m, fun m s => measurementEpoch_silent m,
    fun m s => measurementEpoch_message m, fun s hWorks hLane hLevel hType =>
      ⟨rtcmEntry_disabled ⟨hWorks, hLane, hLevel, hType⟩, rtcmEntry_otherType ⟨hWorks, hLane, hLevel, hType⟩⟩, ?_, ?_,
    fun raw s => imuSample_zeros, fun lo hi rest s => imuSample_good, fun s => imuLost_effect, fun s => imuLost_idle,
    fun roll pitch yaw s => poseUpdate_off roll pitch yaw, fun roll pitch yaw s => poseUpdate_blank roll pitch yaw, ?_,
    fun roll pitch yaw s => poseUpdate_disabled roll pitch yaw⟩
  · rintro e b f n s u hWorks hEnabled hRtk hLane hLevel rfl hType hSome hFits hb rfl hHead hLength hn hSize hf
    have hFirst : s.laneType 6 (s.get (F.LANE_TAIL_TAIL 6)) ≠ 0 := by
      rw [← s.rtcmHead_type, State.rtcmHead, hType]
      decide
    exact rtcmEntry_bytes ⟨hWorks, hLane, hLevel, hFirst⟩ hEnabled hRtk hType hSome hFits hb hHead hLength hn hSize hf
  · rintro f k same s rfl rfl
    refine ⟨fun hBase => ⟨_, rfl, ?_⟩, rtcmMessage_antenna s, fun hMsm hSame hMatch hNewer => ⟨_, rfl, ?_⟩, fun h => ⟨_, rfl, ?_⟩⟩
    · simp only [decide_eq_true_eq]
      exact rtcmMessage_base s hBase
    · exact rtcmMessage_msm hMsm (of_decide_eq_true hSame) hMatch hNewer
    · obtain ⟨hIgnored, hPuts⟩ := rtcmMessage_ignored s h
      exact ⟨hIgnored, hPuts.frame, hPuts.kept⟩
  · rintro roll pitch yaw y a z s u hRuns hGrid hImu hSol hLast hAnt hFresh hQ hBlend hLen hSlow hAb hNone hSome rfl
    exact poseUpdate_newSolution roll pitch yaw hRuns hGrid hImu hSol hLast hAnt hFresh hQ hBlend hLen hSlow hAb hNone hSome

end Sys2Proof.Machine
end
